-- ==== Sys2Proof/Word.lean ====
section
/-! DEFINITION. The word types of the model: what the spec treats as bits, and the plain abbreviations for the
quantities it counts. Fields of a register are read out of its number in Machine/Bits.lean. -/

namespace Sys2Proof

/-- An octet (the conventions of 00_scope: eight bits, for memory as well as for frames). -/
abbrev Byte := BitVec 8

/-- A 32-bit word: a mailbox word, a Lathe register, a Chisel shift register. -/
abbrev Word := BitVec 32

/-- A table of like things by number (an axis, a channel, a bank): number and record, strictly rising by number, no
record equal to the reset record of its kind. `Machine/Table.lean` reads and writes it. -/
abbrev Table (α : Type) := List (Nat × α)

end Sys2Proof
end

