-- ==== Sys2Proof/Syntax/Common.lean ====
section
/-! DEFINITION. Operands shared by many rows of the table: the header of a host command block (R329) and the contexts a
row's words refer to. -/

namespace Sys2Proof

/-- The header of a host command block (R329) with the word that named it (R322): the issuing port's identity (4 PCIe,
5 QSPI), the bank and slot where the block stands, and the header's own fields. -/
structure Hdr where
  port : Nat := 4
  tag : Nat := 0
  bank : Nat := 0
  slot : Nat := 0
  len : Nat := 0
  replyLen : Nat := 16
  atTick : Bool := false
  strict : Bool := false
  txn : Bool := false
  target : Nat := 0
  txnId : Nat := 0
deriving DecidableEq, Repr

/-- Three coordinates of a position, signed. -/
structure Vec3 where
  x : Int := 0
  y : Int := 0
  z : Int := 0
deriving DecidableEq, Repr

/-- Three binary32 numbers, as their 32-bit patterns. -/
structure FVec3 where
  x : BitVec 32 := 0
  y : BitVec 32 := 0
  z : BitVec 32 := 0
deriving DecidableEq, Repr

/-- A quaternion of four binary32 numbers, as their patterns (R62). -/
structure Quat where
  w : BitVec 32 := 0x3F800000
  x : BitVec 32 := 0
  y : BitVec 32 := 0
  z : BitVec 32 := 0
deriving DecidableEq, Repr

end Sys2Proof
end

