-- ==== Sys2Proof/Machine/State/Axes.lean ====
section
/-! DEFINITION. The state of axes, arms, Tillers and Mandrels (02_axes_and_arms, 03_profile_generation, 04_loop_closure,
05_direct_drive_axes, 06_homing_limits_jog). Positions are q48.16 integers; binary32 parameters are kept as patterns. -/

namespace Sys2Proof.Machine

/-- A block-floating pair: its value is `m` * 2^`e` (R132). -/
structure Pair where
  /-- 24 bits signed; R132; reset 0. -/
  m : Int := 0
  /-- 8 bits signed; R132; reset 0. -/
  e : Int := 0
deriving DecidableEq, Repr

/-- A segment of constant jerk (R84). -/
structure Seg where
  /-- q48.48; R84. Start position. -/
  c0 : Int := 0
  /-- Q16.48; R84. Start velocity. -/
  c1 : Int := 0
  /-- Q16.48; R84. Half the start acceleration. -/
  c2 : Int := 0
  /-- Q16.48; R84. One sixth of the jerk. -/
  c3 : Int := 0
  /-- q32.32; R84. Duration in ticks. -/
  dur : Nat := 0
  /-- 1 bit; R90. A cruise without end. -/
  endless : Bool := false
deriving DecidableEq, Repr

/-- The motion of one coordinate: an axis, a joint, or the virtual path length of a Cartesian path (R84, R109). -/
structure Track where
  /-- axis number, or 0xFFFF for a virtual path length; R84. -/
  axis : Nat := 0
  /-- q48.48; R84. Present position. -/
  x : Int := 0
  /-- Q16.48; R84. Present velocity. -/
  v : Int := 0
  /-- Q16.48; R84. Present acceleration. -/
  a : Int := 0
  /-- segments; R84. Present segment first. -/
  segs : List Seg := []
  /-- q32.32; R84. Path time within the present segment. -/
  t : Nat := 0
  /-- q48.16; R88. Where the plan ends exactly. -/
  goal : Option Int := none
  /-- 1 bit; R95. The track's own reversal within an arm's joint motion. -/
  rev : Bool := false
deriving DecidableEq, Repr

/-- A factor of the time scale with its ramp (R103). -/
structure Factor where
  /-- Q1.31; R103. Present value. -/
  s : Nat := 0x80000000
  /-- segments whose velocity is the factor; R98. -/
  ramp : List Seg := []
  /-- q32.32; R98. Time within the present segment of the ramp. -/
  t : Nat := 0
  /-- Q1.31; R98. Value at the end of the ramp. -/
  goal : Nat := 0x80000000
deriving DecidableEq, Repr

/-- A motion command in the segment list that has not begun (R91). -/
structure ListSeg where
  /-- 0 joint or axis targets, 1 line, 2 arc; R91. -/
  kind : Nat := 0
  /-- q48.16 targets in chain order; R349. -/
  targets : List Int := []
  /-- 0, 1 or 2; R349. MOD_DIR. -/
  modDir : Nat := 0
  /-- Q1.15; R349. SPEED. -/
  speed : Nat := 0x8000
  /-- R349. WORK. -/
  work : Nat := 0
  /-- R116. CONF. -/
  conf : Nat := 0xFF
  /-- R108. TURNS. -/
  turns : Nat := 0
  /-- R108. -/
  via : Vec3 := {}
  /-- R107. -/
  pos : Vec3 := {}
  /-- R107. -/
  rot : Quat := {}
  /-- 32 bits; R110. -/
  blend : Nat := 0
deriving DecidableEq, Repr

/-- A follower's coupling to its master (R121, R122). -/
structure Follow where
  /-- 8 bits; R349. MASTER_NODE, 0xFF local. -/
  node : Nat := 0xFF
  /-- 9 bits; R121. MASTER_AXIS. -/
  master : Nat := 0
  /-- cam table; R122; none for gearing. -/
  cam : Option Nat := none
  /-- 32 bits signed; R121. -/
  num : Int := 1
  /-- 32 bits; R121. -/
  den : Nat := 1
  /-- q48.16; R121. E. -/
  engage : Int := 0
  /-- q48.16; R121. Pm0. -/
  pm0 : Int := 0
  /-- q48.16; R121. Ps0. -/
  ps0 : Int := 0
  /-- 1 bit; R122. -/
  periodic : Bool := false
  /-- q48.16; R122. -/
  mOfs : Int := 0
  /-- q48.16; R122. -/
  fOfs : Int := 0
  /-- q48.16; R117. Position of the follower's last staged entry. -/
  prev : Int := 0
  /-- q48.16; R117. Position of the entry the follower stages next. -/
  next : Int := 0
deriving DecidableEq, Repr

/-- The Mandrel's generator of an axis or arm: what it needs to produce the next entry (R82 to R86). -/
structure Motion where
  /-- tracks; R84. -/
  tracks : List Track := []
  /-- R98. Hold factor. -/
  hold : Factor := {}
  /-- R104. Clearance factor. -/
  clear : Factor := {}
  /-- R115. Joint factor. -/
  joint : Factor := {}
  /-- Q1.31; R86. Effective scale of the last tick. -/
  sPrev : Nat := 0x80000000
  /-- 1 bit; R99. A hold is in force. -/
  held : Bool := false
  /-- 1 bit; R98. The hold ramp has ended (STOP_END has been given). -/
  stopped : Bool := false
  /-- 1 bit; R101. The hold is a stop: path and list are discarded at standstill. -/
  discard : Bool := false
  /-- 0 to 2; R95, R101. What a discarded path leaves at standstill: 0 nothing, 1 the segment list, which goes on, 2 the
  segment list under the hold in force. -/
  keep : Nat := 0
  /-- 1 bit; R94. -/
  reversal : Bool := false
  /-- 1 bit; R96. -/
  clipped : Bool := false
  /-- 1 bit; R110. The next entry starts a segment. -/
  segStart : Bool := false
  /-- 1 bit; R106. A brake for factor 0. -/
  clearStop : Bool := false
  /-- 1 bit; R35. A brake ahead of an unclaimed zone. -/
  claimWait : Bool := false
  /-- 1 bit; R104. A re-timed entry. -/
  retimed : Bool := false
  /-- list; R91. Segments not yet begun. -/
  list : List ListSeg := []
  /-- 1 bit; R107. The plan in force is a Cartesian path. -/
  cart : Bool := false
  /-- coupling; R121. -/
  follow : Option Follow := none
  /-- q48.16; R58. Rebase taken off the entries so far. -/
  rebase : Int := 0
  /-- 1 bit; R639. The hold in force is the one that the cell state HOLD applied. -/
  cellHold : Bool := false
  /-- 32 bits; R110. BLEND_R of the segment in progress, 0 once its blend has begun or been missed. -/
  blend : Nat := 0
  /-- q48.48; R110. Virtual length still to cover within the blend. -/
  blendLeft : Int := 0
deriving DecidableEq, Repr

/-- A set-point queue entry without its CHECK, which is computed from it (R76 to R78). -/
structure QEntry where
  /-- q48.16; R76. POSITION. -/
  pos : Int := 0
  /-- q16.16; R76. VEL_FF. -/
  vel : Int := 0
  /-- Q8.24; R76. ACC_FF. -/
  acc : Int := 0
  /-- 32 bits signed; R76. TORQUE_FF. -/
  torque : Int := 0
  /-- 32 bits; R76. TICK_STAMP. -/
  stamp : Nat := 0
  /-- 16 bits; R77. FLAGS. -/
  flags : Nat := 0
  /-- Q1.15; R76. TIME_SCALE. -/
  scale : Nat := 0x8000
deriving DecidableEq, Repr

/-- The set-point queue of an axis with its marks (R29). For the joints and carrier of an arm the marks move together. -/
structure Queue where
  /-- entries K to S - 1; R29; reset empty. -/
  entries : List QEntry := []
  /-- a count; R29; reset 0. K. -/
  k : Nat := 0
  /-- a count; R29; reset 0. C. -/
  c : Nat := 0
  /-- a count; R29; reset 0. S. -/
  s : Nat := 0
  /-- a count; R29; reset 0. L. -/
  l : Nat := 0
  /-- entry; R40; reset none. The last entry taken since the enable. -/
  last : Option QEntry := none
  /-- q48.16; R673; reset none. The position held until the first entry is taken. -/
  heldPos : Option Int := none
deriving DecidableEq, Repr

/-- The loop-state record (R130) without its CHECK. -/
structure LoopRec where
  pi : Pair := {}
  pd : Pair := {}
  epPrev : Pair := {}
  vi : Pair := {}
  vd : Pair := {}
  evPrev : Pair := {}
  n1x1 : Pair := {}
  n1x2 : Pair := {}
  n1y1 : Pair := {}
  n1y2 : Pair := {}
  n2x1 : Pair := {}
  n2x2 : Pair := {}
  n2y1 : Pair := {}
  n2y2 : Pair := {}
  /-- q48.16; R130; reset 0. -/
  fbPos : Int := 0
  /-- q48.16; R130; reset 0. -/
  fbPosPrev : Int := 0
  /-- q48.16; R130; reset 0. -/
  fbReal : Int := 0
  /-- 64 bits; R130; reset 0. -/
  fbRaw : Nat := 0
  /-- 32 bits signed; R130; reset 0. -/
  outTorque : Int := 0
  /-- q16.16; R130; reset 0. -/
  outVel : Int := 0
  /-- q48.16; R130; reset 0. -/
  outPos : Int := 0
  /-- 16 bits; R142; reset 0. -/
  outFlags : Nat := 0
  /-- -1, 0 or 1; R130; reset 0. -/
  sat : Int := 0
  /-- 8 bits; R130; reset 0. -/
  staleAge : Nat := 0
  /-- 8 bits, saturating; R130; reset 0. -/
  ovrConsec : Nat := 0
  /-- 1 bit; R130; reset 0. INIT_PID. -/
  initPid : Bool := false
  /-- 1 bit; R130; reset 0. INIT_VI. -/
  initVi : Bool := false
  /-- 1 bit; R130; reset 0. INIT_NOTCH. -/
  initNotch : Bool := false
deriving DecidableEq, Repr

/-- Loop coefficients (R144). -/
structure Coefs where
  kp : Pair := {}
  ki : Pair := {}
  kd : Pair := {}
  dfp : Pair := {}
  ilimP : Pair := {}
  kvp : Pair := {}
  kvi : Pair := {}
  kvd : Pair := {}
  dfv : Pair := {}
  ilimV : Pair := {}
  kaff : Pair := {}
  /-- 3 bits; R144; reset 7. FF_EN. -/
  ff : Nat := 7
  /-- 0 to 3; R144; reset 1. STALE_MAX. -/
  staleMax : Nat := 1
deriving DecidableEq, Repr

/-- A notch filter (R146). -/
structure Notch where
  /-- 1 bit; R146; reset 0. -/
  en : Bool := false
  /-- 1 bit; R146; reset 0. FORM. -/
  form : Nat := 0
  /-- binary32; R146; reset 1000. -/
  f0 : Nat := 0x447A0000
  /-- binary32; R146; reset 100. -/
  bw : Nat := 0x42C80000
  /-- binary32; R146; reset 1. -/
  depth : Nat := 0x3F800000
  /-- pair; R146; reset 1. -/
  b0 : Pair := { m := 4194304, e := -22 }
  b1 : Pair := {}
  b2 : Pair := {}
  a1 : Pair := {}
  a2 : Pair := {}
deriving DecidableEq, Repr

/-- Axis limits (R72). -/
structure Limits where
  /-- q48.16; R72; reset -2^46. -/
  softMin : Int := -(2 ^ 62)
  /-- q48.16; R72; reset 2^46. -/
  softMax : Int := 2 ^ 62
  /-- 1 bit; R72; reset 0. -/
  softEn : Bool := false
  /-- q48.16; R72; reset 0. -/
  velMax : Nat := 0
  /-- q48.16; R72; reset 0. -/
  accMax : Nat := 0
  /-- q48.16; R72; reset 0. -/
  decStop : Nat := 0
  /-- q48.16; R72; reset 0. -/
  jerkMax : Nat := 0
  /-- 32 bits; R72; reset 100000. -/
  torqueMax : Nat := 100000
  /-- q48.16; R72; reset 0x00007FFFFFFFFFFF. -/
  followMax : Nat := 0x7FFFFFFFFFFF
deriving DecidableEq, Repr

/-- What an axis is bound to (R44, R46). -/
inductive Binding where
  /-- none: the axis cannot be enabled -/
  | none
  /-- a cyclic output and input slot of a network -/
  | net (n out inp : Nat)
  /-- a direct-drive unit, with its feedback network and input slot -/
  | dd (unit n inp : Nat)
  /-- a profile only -/
  | virtual
deriving DecidableEq, Repr

/-- A switch of an axis: home, negative or positive limit (R174, R176). -/
structure Switch where
  /-- 8 bits; R174; reset 0xFF. -/
  pin : Nat := 0xFF
  /-- 1 bit; R174; reset 1. 1 active low. -/
  pol : Nat := 1
  /-- filtered state; R176; reset none until the first sample. -/
  state : Option Bool := none
  /-- 8 bits; R176; reset 0. Samples that differ. -/
  run : Nat := 0
  /-- tick count; R176; reset 0. first. -/
  first : Nat := 0
deriving DecidableEq, Repr

/-- A homing procedure (R185 to R192). -/
structure Homing where
  method : Nat := 7
  /-- 1 positive; R185. -/
  dir : Nat := 0
  searchVel : Nat := 0
  creepVel : Nat := 0
  searchMax : Nat := 0
  homePos : Int := 0
  moveAfter : Int := 0
  capPin : Nat := 0
  indexWin : Nat := 0
  fbDelay : Int := 0
  hsTorque : Nat := 0
  hsFollow : Nat := 0
  hsTicks : Nat := 0
  /-- R185. GTC of the commit edge. -/
  since : Nat := 0
  /-- 1 bit; R187. The search was reversed once. -/
  reversed : Bool := false
  /-- 1 bit; R187. A brake is followed by the reversed search. -/
  toReverse : Bool := false
  /-- q48.16; R187. Where the present phase started. -/
  start : Int := 0
  /-- R188. GTC from which an index capture qualifies. -/
  indexFrom : Nat := 0
  /-- stamp in 0.5 ns; R188. The first qualifying capture. -/
  capture : Option Nat := none
  /-- 16 bits; R189. Consecutive updates at the stop. -/
  hsRun : Nat := 0
  /-- q48.16; R190. P_h. -/
  home : Option Int := none
  /-- 32 bits; R189. TORQUE_MAX before homing. -/
  oldTorque : Nat := 0
  /-- q48.16; R189. FOLLOW_MAX before homing. -/
  oldFollow : Nat := 0
  /-- at most 512 pairs; R176, R188. Tick and FB_POS of the updates made while homing, newest first. -/
  hist : List (Nat × Int) := []
  /-- tick; R188. first of the transition that ended the switch phase. -/
  phaseTick : Nat := 0
deriving DecidableEq, Repr

/-- Parameters of a direct-drive axis (R162), binary32 as patterns. -/
structure DdConfig where
  comm : Nat := 0
  polePairs : Nat := 1
  /-- q48.16; R162; reset 0. -/
  incPerMrev : Int := 0
  /-- q48.16; R162; reset not aligned. -/
  commOffset : Option Int := none
  rPhase : Nat := 0
  lPhase : Nat := 0
  ke : Nat := 0
  iRated : Nat := 0x3F800000
  iLimit : Nat := 0x3F800000
  iTrip : Nat := 0x3F800000
  modMax : Nat := 0x3F733333
  iaIn : Nat := 0xFF
  ibIn : Nat := 0xFF
  vbIn : Nat := 0xFF
  iScale : Nat := 0
  iZero : Nat := 32768
  vbScale : Nat := 0
  vbusMin : Nat := 0x40A00000
  vbusMax : Nat := 0x42F00000
  drvEnPin : Nat := 0xFF
  brakePair : Nat := 0xFF
  brkOpen : Nat := 0
  brkClose : Nat := 0
deriving DecidableEq, Repr

/-- What a direct-drive unit's shadow registers hold (R164), binary32 as patterns. -/
structure DdVec where
  vd : Nat := 0
  vq : Nat := 0
  /-- 32 bits; R163; reset 0. -/
  th0 : Nat := 0
  /-- 32 bits signed; R163; reset 0. -/
  dth : Int := 0
  vbus : Nat := 0
deriving DecidableEq, Repr

/-- An axis. -/
structure Axis where
  /-- R44, R46; reset none. -/
  binding : Binding := .none
  /-- 1, 2, 4, 8 or 16; R48; reset 1. -/
  divisor : Nat := 1
  /-- 4 bits; R49; reset 0. Due phase in force. -/
  phase : Nat := 0
  /-- 1 bit; R49; reset 1. The phase is automatic. -/
  autoPhase : Bool := true
  /-- 2 bits; R51; reset by the default rule. A Mandrel named by command. -/
  mandrel : Option Nat := none
  /-- 7 bits; R56; reset 16 (DESIGN CHOICE, log entry 19). FB_WIDTH. -/
  fbWidth : Nat := 16
  /-- 1 bit; R56; reset 0. FB_SIGNED. -/
  fbSigned : Bool := false
  /-- 1 bit; R180; reset 0. ABS. -/
  abs : Bool := false
  /-- Q1.15; R193; reset 0x1000. JOG_FRAC. -/
  jogFrac : Nat := 0x1000
  /-- Q1.15; R193; reset 0x0800. JOG_FRAC_NOREF. -/
  jogFracNoref : Nat := 0x0800
  /-- q48.16; R56; reset 0. FB_OFFSET. -/
  fbOffset : Int := 0
  /-- increments; R58; reset 0. MODULO. -/
  modulo : Nat := 0
  /-- binary32; R71; reset 0. -/
  torquePerAcc : Nat := 0
  /-- binary32; R71; reset 0. -/
  viscousAux : Nat := 0
  /-- binary32; R71; reset 0. -/
  coulombAux : Nat := 0
  /-- R72; reset as Limits. -/
  lim : Limits := {}
  /-- R144; reset as Coefs. -/
  coef : Coefs := {}
  /-- R146; reset as Notch. -/
  notch1 : Notch := {}
  /-- R146; reset as Notch. -/
  notch2 : Notch := {}
  /-- 3 bits; R151, R350; reset 0 (DISABLED). -/
  mode : Nat := 0
  /-- status code; R39; reset none. Axis fault in force. -/
  fault : Option Nat := none
  /-- status code; R350; reset 0. STATUS of AXIS.STATUS. -/
  status : Nat := 0
  /-- R29; reset empty. -/
  queue : Queue := {}
  /-- R82; reset as Motion. The generator after the last staged entry. -/
  gen : Motion := {}
  /-- R92; reset empty. The generator as it stood before each entry K to S - 1. -/
  back : List Motion := []
  /-- R130; reset as LoopRec. -/
  loop : LoopRec := {}
  /-- R97; reset 0. Only motion toward the inside is accepted. -/
  limitActive : Bool := false
  /-- R94; reset 0. REV_POINT. -/
  revPoint : Int := 0
  /-- R94; reset 0. OVERSHOOT. -/
  overshoot : Int := 0
  /-- R180; reset 0. -/
  refValid : Bool := false
  /-- 3 switches: home, negative, positive; R174. -/
  swHome : Switch := {}
  swNeg : Switch := {}
  swPos : Switch := {}
  /-- 8 bits; R174; reset 4. -/
  filt : Nat := 4
  /-- 8 bits; R174; reset 16. -/
  chatN : Nat := 16
  /-- 13 bits; R174; reset 1600. -/
  chatW : Nat := 1600
  /-- 4 bits; R192; reset 0. HOME_STATE. -/
  homeState : Nat := 0
  /-- R185; reset none. -/
  homing : Option Homing := none
  /-- tick count; R194; reset none. When the keepalive of a jog ends. -/
  jogUntil : Option Nat := none
  /-- R162; reset as DdConfig. -/
  dd : DdConfig := {}
  /-- binary32; R163; reset 0. i_prev. -/
  iPrev : Nat := 0
  /-- R164; reset as DdVec. In force. -/
  ddVec : DdVec := {}
  /-- R164; reset none. In the shadow registers for the next edge. -/
  ddNext : Option DdVec := none
  /-- 1 bit; PWM_DD_STATUS; reset 0. -/
  driving : Bool := false
  /-- 1 bit, W1C; PWM_DD_STATUS of R170; reset 0. TRIP. -/
  trip : Bool := false
  /-- 1 bit; PWM_DD_STATUS of R163; reset 0. -/
  vsat : Bool := false
  /-- 1 bit; PWM_DD_STATUS of R163; reset 0. -/
  ilim : Bool := false
  /-- 1 bit; PWM_DD_STATUS of R171; reset 0. -/
  brakeReq : Bool := false
  /-- 3 bits; R170; reset 0. Consecutive snapshots above 1.25 I_LIMIT. -/
  overCount : Nat := 0
  /-- tick count; R172; reset none. When a requested DISABLED takes effect. -/
  disableAt : Option Nat := none
  /-- tick count; R171; reset none. From which motion may start after the brake opened. -/
  brakeUntil : Option Nat := none
  /-- current, last tick; R166; reset none. An alignment in progress. -/
  align : Option (Nat × Nat) := none
  /-- the R130 record as it stood at the last output seal; R131; reset as LoopRec. -/
  sealedLoop : LoopRec := {}
  /-- 1 bit; R18; reset 0. The axis is due in this tick and its update is not finished. -/
  due : Bool := false
  /-- 1 bit; R153; reset 0. The update of this tick ended with an axis fault. -/
  faulted : Bool := false
  /-- 1 bit; R79; reset 0. The entry of this tick has been taken. -/
  taken : Bool := false
  /-- 32 bits, wrapping; R156; reset 0. -/
  overruns : Nat := 0
  /-- 32 bits, wrapping; R156; reset 0. -/
  underruns : Nat := 0
  /-- 32 bits, wrapping; R156; reset 0. -/
  queueCheck : Nat := 0
  /-- 32 bits, wrapping; R156; reset 0. -/
  staleCount : Nat := 0
  /-- 32 bits, wrapping; R156; reset 0. -/
  awHolds : Nat := 0
  /-- 32 bits, wrapping; R156; reset 0. -/
  outSat : Nat := 0
  /-- 32 bits, wrapping; R170; reset 0. -/
  ddIlim : Nat := 0
  /-- 32 bits, wrapping; R170; reset 0. -/
  ddVsat : Nat := 0
  /-- 32 bits, wrapping; R170; reset 0. -/
  ddTrips : Nat := 0
  /-- 32 bits, wrapping; R351; reset 0. RESYNC_REPAIRS. -/
  resyncRepairs : Nat := 0
  /-- 32 bits signed; R639; reset none. The TORQUE_FF that a TORQUE_PASS axis keeps in HOLD. -/
  keepTorque : Option Int := none
  /-- stamp, position and flags of a remote master's entries, newest last; R123; reset empty. -/
  remote : List (Nat × Int × Nat) := []
deriving DecidableEq, Repr

/-- One joint of an arm definition (R66, R69). -/
structure Joint where
  /-- 9 bits; R66. -/
  axis : Nat := 0
  /-- 0 revolute, 1 prismatic; R66. -/
  type : Nat := 0
  /-- 1 bit; R59. -/
  dir : Nat := 0
  /-- R66. OMEGA or V. -/
  omega : FVec3 := {}
  /-- R66. -/
  point : Vec3 := {}
  /-- q48.16; R59. -/
  incPerUnit : Int := 0
  /-- q48.16; R59. -/
  zero : Int := 0
  /-- binary32; R69; reset 0. -/
  mass : Nat := 0
  /-- R69; reset 0. -/
  com : Vec3 := {}
  /-- 6 x binary32; R69; reset 0. -/
  inertia : List Nat := [0, 0, 0, 0, 0, 0]
  /-- binary32; R69; reset 0. -/
  rotor : Nat := 0
  /-- binary32; R69; reset 1. -/
  gear : Nat := 0x3F800000
  /-- binary32; R69; reset 0. -/
  viscous : Nat := 0
  /-- binary32; R69; reset 0. -/
  coulomb : Nat := 0
  /-- binary32; R69; reset 1. -/
  rated : Nat := 0x3F800000
deriving DecidableEq, Repr

/-- A payload with its effective stamp (R70). -/
structure Payload where
  stamp : Nat := 0
  mass : Nat := 0
  com : Vec3 := {}
  inertia : List Nat := [0, 0, 0, 0, 0, 0]
deriving DecidableEq, Repr

/-- Inverse-kinematics parameters (R116). -/
structure IkParams where
  w : List Nat := List.replicate 8 0x3F800000
  singEps : Nat := 0x3D4CCCCD
  singDist : Nat := 10000
  lambdaMax : Nat := 0x3DCCCCCD
  singPosTol : Nat := 1000
  singRotTol : Nat := 0x3C8F5C29
  ikTolPos : Nat := 10
  ikTolRot : Nat := 0x38D1B717
  conf : Nat := 0xFF
deriving DecidableEq, Repr

/-- A sphere of an arm's claim model (R254). -/
structure Sphere where
  link : Nat := 0
  center : Vec3 := {}
  radius : Nat := 0
deriving DecidableEq, Repr

/-- A frame: position and orientation (R63). -/
structure Frame where
  pos : Vec3 := {}
  rot : Quat := {}
deriving DecidableEq, Repr

/-- An arm. -/
structure Arm where
  /-- 1 bit; R66; reset 0. -/
  defined : Bool := false
  /-- chain order; R66; reset none. -/
  joints : List Joint := []
  /-- 4 bits; R67; reset 0. -/
  kclass : Nat := 0
  /-- 2 bits; R51; reset 0. -/
  mandrel : Nat := 0
  /-- R48; reset 1. -/
  divisor : Nat := 1
  /-- R48; reset 0. -/
  phase : Nat := 0
  /-- R48; reset 1. -/
  autoPhase : Bool := true
  /-- R64; reset 0xFFFF. -/
  carrier : Nat := 0xFFFF
  /-- world position and quaternion; R63. -/
  base : Frame := {}
  /-- R64. -/
  carrierDir : FVec3 := {}
  /-- binary32; R64. -/
  carrierScale : Nat := 0
  /-- R66. -/
  home : Frame := {}
  /-- 4 x binary32; R67. -/
  delta : List Nat := [0, 0, 0, 0]
  /-- R63; tools 1 to 7; reset identity. -/
  tools : Table Frame := []
  /-- R63; works 1 to 15; reset identity. -/
  works : Table Frame := []
  /-- 3 bits; R65; reset 0. -/
  tool : Nat := 0
  /-- R70; reset none. Payloads by effective stamp, in order of command. -/
  payloads : List Payload := []
  /-- 32 bits; R74; reset 0. -/
  tcpVel : Nat := 0
  /-- 32 bits; R74; reset 0. -/
  tcpAcc : Nat := 0
  /-- 32 bits; R74; reset 0. -/
  tcpJerk : Nat := 0
  /-- binary32; R74; reset 0. -/
  rotVel : Nat := 0
  /-- binary32; R74; reset 0. -/
  rotAcc : Nat := 0
  /-- binary32; R74; reset 0. -/
  rotJerk : Nat := 0
  /-- R74; reset -2147483647. -/
  workMin : Vec3 := { x := -2147483647, y := -2147483647, z := -2147483647 }
  /-- R74; reset 2147483647. -/
  workMax : Vec3 := { x := 2147483647, y := 2147483647, z := 2147483647 }
  /-- R116; reset as IkParams. -/
  ik : IkParams := {}
  /-- R254; reset none. -/
  spheres : List Sphere := []
  /-- R254; reset 0. -/
  claimMargin : Nat := 0
  /-- R254; reset 0. -/
  claimTail : Nat := 0
  /-- R254; reset 0. -/
  claimLead : Nat := 0
  /-- 2 bits; R644; reset 0 (JOINT). -/
  mode : Nat := 0
  /-- status code; R350; reset 0. -/
  status : Nat := 0
  /-- R82; reset as Motion. -/
  gen : Motion := {}
  /-- R92; reset empty. The generator before each entry K to S - 1. -/
  back : List Motion := []
  /-- R114; reset 0. Only ARM.MOVE_JOINT is accepted. -/
  singular : Bool := false
  /-- tick count; R195; reset none. When the keepalive of a jog ends. -/
  jogUntil : Option Nat := none
  /-- 32 bits, wrapping; R113; reset 0. -/
  ikResidual : Nat := 0
  /-- 32 bits, wrapping; R118; reset 0. -/
  ffClamp : Nat := 0
  /-- Q1.15; R103; reset 0x8000. Speed factor last delivered. -/
  factor : Nat := 0x8000
  /-- 1 bit; R644; reset 0. A change of arm mode waits for the next safety-cycle latch. -/
  modeWait : Bool := false
  /-- 1 bit; R9 of the opcode table row PROPOSAL_LATCH, R221; reset 0. Step 2 of the Mandrel pass is complete. -/
  proposed : Bool := false
deriving DecidableEq, Repr

/-- A cam table (R122). -/
structure Cam where
  points : List (Int × Int × Nat) := []
deriving DecidableEq, Repr

/-- A Tiller engine (R126 to R129, R156). -/
structure Tiller where
  /-- 32 bits, wrapping; R156; reset 0. Completed updates. -/
  updates : Nat := 0
  /-- 32 bits, wrapping; R156; reset 0. Stall cycles. -/
  stalls : Nat := 0
  /-- 32 bits, wrapping; R156; reset 0. ECC corrections. -/
  ecc : Nat := 0
  /-- 1 bit; R152; reset 0. Its watchdog has tripped in this tick. -/
  tripped : Bool := false
  /-- cycles; R152; reset 0. Stall of this tick's updates so far. -/
  late : Nat := 0
deriving DecidableEq, Repr

/-- A converter (R167, R168). -/
structure Adc where
  /-- 16 bits; ADC_CTRL; reset 0. INPUT_EN. -/
  inputEn : Nat := 0
  /-- codes held for the next snapshot, each plus one; R167; reset none. -/
  next : Table Nat := []
  /-- codes of the snapshot; ADC_RESULT; reset 0. -/
  codes : Table Nat := []
  /-- 16 bits; ADC_RESULT; reset 0. Inputs converted for the present snapshot. -/
  valid : Nat := 0
  /-- 8 bits; ADC_RESULT; reset 0. TICK_LSB. -/
  tickLsb : Nat := 0
  /-- 1 bit; ADC_CTRL; reset 0. BUSY. -/
  busy : Bool := false
deriving DecidableEq, Repr

/-- A general I/O pin as the switches see it (R175, R178). -/
structure GpioPin where
  /-- 1 bit; R175; reset 0 (DESIGN CHOICE, log entry 20). The level at the pin. -/
  level : Bool := false
  /-- 8 bits, saturating; R175; reset 0. Raw edges since the last seal. -/
  edges : Nat := 0
  /-- 1 bit; R175; reset 0. The level in the snapshot. -/
  snap : Bool := false
  /-- a count; R178; reset 0. Edges in the running window. -/
  sum : Nat := 0
  /-- 1 bit; R178; reset 0. -/
  faulty : Bool := false
  /-- 1 bit; R179; reset 0. A full window with a sum of zero has passed since the fault. -/
  quiet : Bool := false
deriving DecidableEq, Repr

/-- Everything of the motion chapters. -/
structure MotionState where
  /-- 512 axes; R44; reset as Axis. -/
  axes : Table Axis := []
  /-- 16 arms; R66; reset as Arm. -/
  arms : Table Arm := []
  /-- 64 cam tables; R122; reset empty. -/
  cams : Table Cam := []
  /-- 9 engines; R126; reset as Tiller. -/
  tillers : Table Tiller := []
  /-- 4 bits; R126; reset 8. The spare. -/
  spare : Nat := 8
  /-- 4 bits; R128; reset none. Engine whose self-test has completed in this tick. -/
  spareDone : Option Nat := none
  /-- 7 bits; PWM_CTRL of R160; reset 0. N. -/
  pwmN : Nat := 0
  /-- 4 converters; R167; reset as Adc. -/
  adcs : Table Adc := []
  /-- 128 pins; R174; reset as GpioPin. -/
  gpio : Table GpioPin := []
deriving DecidableEq, Repr

end Sys2Proof.Machine
end

