-- ==== Sys2Proof/Machine/State/Claims.lean ====
section
/-! DEFINITION. The state of zones and zone claims (08_shared_workspace). -/

namespace Sys2Proof.Machine

/-- A zone (R252, R253). -/
structure Zone where
  /-- 1 bit; R252; reset 0. -/
  en : Bool := false
  /-- 0 axis-aligned, 1 oriented; R252; reset 0. -/
  shape : Nat := 0
  /-- world position; R252; reset 0. -/
  center : Vec3 := {}
  /-- 10 um per bit; R252; reset 0 (a zone never defined has every field zero, R253). -/
  half : Nat × Nat × Nat := (0, 0, 0)
  /-- R252; reset zero. -/
  rot : Quat := { w := 0 }
deriving DecidableEq, Repr

/-- A claim of an arm on its zones: pending, granted or held (R257 to R263). -/
structure Claim where
  /-- 14 bits; R257. SOURCE. -/
  source : Nat := 0
  /-- 64 bits; R257. REQ_GTC. -/
  reqGtc : Nat := 0
  /-- a count; R37. Order of issue. -/
  order : Nat := 0
  /-- zones still held or asked for; R257. -/
  zones : List Nat := []
  /-- tick; R257, R259. T0 while pending, else the start of the window. -/
  start : Nat := 0
  /-- tick; R257, R259. T1 while pending, else the end of the window. -/
  stop : Nat := 0
  /-- 1 bit; R259. -/
  granted : Bool := false
  /-- zones in state HELD, with the tick at which each entered it; R263, R271. -/
  held : List (Nat × Nat) := []
  /-- 1 bit; R260. REISSUED. -/
  reissued : Bool := false
  /-- 1 bit; R272. Evaluated once already. -/
  evaluated : Bool := false
  /-- tick; R271. APPLIED. -/
  applied : Nat := 0
deriving DecidableEq, Repr

/-- A message to the arbiters (R258). -/
inductive ClaimMsg where
  /-- a request, or its reissue under R260 -/
  | request (zones : List Nat) (t0 t1 reqGtc source : Nat) (reissue : Bool)
  /-- a pending request is withdrawn -/
  | withdraw (source : Nat)
  /-- a zone is released -/
  | release (source zone : Nat)
  /-- a zone passes to HELD -/
  | holdover (source zone : Nat)
  /-- ZONE.UNBLOCK -/
  | unblock (zone : Nat)
deriving DecidableEq, Repr

/-- Claim counters of an arm (R272), each 32 bits, wrapping, reset 0. -/
structure ClaimCount where
  requests : Nat := 0
  deferred : Nat := 0
  claimWaits : Nat := 0
  holdovers : Nat := 0
  crossed : Nat := 0
deriving DecidableEq, Repr

/-- Everything of 08_shared_workspace. -/
structure ClaimState where
  /-- 4096 zones; R252; reset as Zone. -/
  zones : Table Zone := []
  /-- claims in order; R271; reset none. -/
  claims : List Claim := []
  /-- zones and the tick at which they were blocked; R267; reset none. -/
  blocked : Table Nat := []
  /-- tick of application and message; R258; reset none. -/
  msgs : List (Nat × ClaimMsg) := []
  /-- a count; R37; reset 0. -/
  nextOrder : Nat := 0
  /-- counters by arm; R272; reset 0. -/
  counts : Table ClaimCount := []
  /-- 32 bits, wrapping; R272; reset 0. REVOKED. -/
  revoked : Nat := 0
  /-- 32 bits, wrapping; R272; reset 0. BLOCKED. -/
  blockedCount : Nat := 0
  /-- stamps by arm; R257; reset 0. Last stamp of the run an arm has last issued a request for. -/
  asked : Table Nat := []
  /-- node IDs; R269; reset none. Failed primaries whose claims this device took over. -/
  adopted : List Nat := []
  /-- node IDs; R269; reset none. Failed primaries that another device has taken over. -/
  taken : List Nat := []
deriving DecidableEq, Repr

end Sys2Proof.Machine
end

