-- ==== Sys2Proof/Machine/State/Glume.lean ====
section
/-! DEFINITION. The state of the Glume (07_separation_monitoring): its safety block, the sources, the arms and groups, the
safe inputs and outputs. Causes are numbered in the order of R206 from 0, SEPARATION, to 16, NO_CONFIG. -/

namespace Sys2Proof.Machine

/-- A joint record of the safety block (R244). -/
structure GlmJoint where
  axis : Nat := 0
  src : Nat := 0
  type : Nat := 0
  carrier : Nat := 0
  dir : Nat := 0
  omega : FVec3 := {}
  point : Vec3 := {}
  incPerUnit : Int := 0
  zero : Int := 0
  posTol : Nat := 0
  zeroVel : Nat := 0
  stopDec : Nat := 0
  stop0Dec : Nat := 0
deriving DecidableEq, Repr

/-- A capsule record (R244). -/
structure GlmCapsule where
  link : Nat := 0
  toolMask : Nat := 0
  p1 : Vec3 := {}
  p2 : Vec3 := {}
  radius : Nat := 0
deriving DecidableEq, Repr

/-- An arm record (R244). -/
structure GlmArm where
  arm : Nat := 0
  collabEn : Bool := false
  joints : List GlmJoint := []
  capsules : List GlmCapsule := []
  basePos : Vec3 := {}
  baseRot : Quat := {}
  homePos : Vec3 := {}
  homeRot : Quat := {}
  fieldMin : Vec3 := {}
  fieldMax : Vec3 := {}
deriving DecidableEq, Repr

/-- A source record (R244). -/
structure GlmSource where
  addr : Nat := 0
  /-- 0 drive, 1 sensor. -/
  kind : Nat := 0
  network : Nat := 0
  timeoutUs : Nat := 0
  linkMaxUs : Nat := 0
  maxAgeUs : Nat := 0
  driveReactUs : Nat := 0
  lagTicks : Nat := 0
  intrusionC : Nat := 0
  fieldMin : Vec3 := {}
  fieldMax : Vec3 := {}
  armMask : Nat := 0
deriving DecidableEq, Repr

/-- An auxiliary-group record (R244). -/
structure GlmGroup where
  group : Nat := 0
  armLink : Nat := 0
  axes : List Nat := []
deriving DecidableEq, Repr

/-- A static volume (R219). -/
structure GlmVolume where
  kind : Nat := 0
  shape : Nat := 0
  armMask : Nat := 0
  a : Vec3 := {}
  b : Vec3 := {}
  radius : Nat := 0
  extra : Nat := 0
deriving DecidableEq, Repr

/-- A safe-input record (R237). -/
structure GlmInput where
  pair : Nat := 0
  /-- 0 unused, 1 ESTOP, 2 GUARD, 3 ENABLE, 4 RESET, 5 REPORT. -/
  function : Nat := 0
  antivalent : Bool := false
  tp : Nat := 0xFF
  filtUs : Nat := 0
  discMs : Nat := 0
  cat : Nat := 0
  auto : Bool := false
  armMask : Nat := 0
  auxMask : Nat := 0
deriving DecidableEq, Repr

/-- A safe-output record (R239). -/
structure GlmOutput where
  pair : Nat := 0
  /-- 0 unused, 1 STO, 2 BRAKE, 3 STATUS. -/
  function : Nat := 0
  otpWUs : Nat := 0
  otpPeriodMs : Nat := 0
  armMask : Nat := 0
  auxMask : Nat := 0
  axis : Nat := 0xFFFF
deriving DecidableEq, Repr

/-- A safety block (R243, R244). -/
structure GlmBlock where
  id : Nat := 0
  crc : Nat := 0
  addr : Nat := 0
  humanSpeed : Nat := 1600
  horizon : Nat := 64
  pstopCat : Nat := 1
  faultCat : Nat := 0
  zrConst : Nat := 0
  zdAdd : Nat := 0
  seqWin : Nat := 8
  stop1Max : Nat := 0
  restartCycles : Nat := 1
  raiseCycles : Nat := 1
  hystMm : Nat := 0
  tpWUs : Nat := 0
  tpPeriodMs : Nat := 0
  gridOrigin : Vec3 := {}
  sources : List GlmSource := []
  arms : List GlmArm := []
  groups : List GlmGroup := []
  volumes : List GlmVolume := []
  inputs : List GlmInput := []
  outputs : List GlmOutput := []
  grades : List (Nat × Nat) := []
  /-- the octets of copy 1 as loaded; R245. -/
  raw : List Byte := []
deriving DecidableEq, Repr

/-- An object of a scan (R214). -/
structure GlmObject where
  id : Nat := 0
  cls : Nat := 0
  radius : Nat := 0
  x : Int := 0
  y : Int := 0
  zLo : Int := 0
  zHi : Int := 0
  vel : Vec3 := {}
  unc : Nat := 0
deriving DecidableEq, Repr

/-- A source at work (R211 to R214, R248). -/
structure GlmSrcState where
  /-- 16 bits; R211; reset none. SEQ_LAST. -/
  seq : Option Nat := none
  /-- GTC; R212; reset 0. Receive stamp of the last accepted telegram. -/
  last : Nat := 0
  /-- 1 bit; R212; reset 0. -/
  timedOut : Bool := false
  /-- axis, POS and VEL of the last accepted JOINT_STATE; R213; reset none. -/
  joints : List (Nat × Int × Int) := []
  /-- SCAN, parts still missing and objects so far; R214; reset none. -/
  scan : Option (Nat × List Nat × List GlmObject) := none
  /-- t_m of the objects and the objects of the complete scan in force; R214; reset none. -/
  objects : Int × List GlmObject := (0, [])
  /-- 1 bit; R214; reset 0. The previous scan was invalid. -/
  invalid : Bool := false
  /-- 1 bit; R214; reset 0. A DEGRADED scan or a second invalid one stands. -/
  faulty : Bool := false
  /-- 16 bits; R209; reset 0. Sequence of the last SAFE_CTRL sent to the source. -/
  ctrlSeq : Nat := 0
  accepted : Nat := 0
  badCheck : Nat := 0
  badAddr : Nat := 0
  badSeq : Nat := 0
  badAge : Nat := 0
  badForm : Nat := 0
  timeouts : Nat := 0
  scanInvalid : Nat := 0
deriving DecidableEq, Repr

/-- An arm or auxiliary group of the Glume (R200 to R208). -/
structure GlmUnit where
  /-- cause, GTC and category of the causes present; R208; reset none. -/
  causes : List (Nat × Nat × Nat) := []
  /-- 0 to 2; R208; reset none. Category of the stop in progress. -/
  stop : Option Nat := none
  /-- GTC; R201; reset 0. When the stop was decided. -/
  stopAt : Nat := 0
  /-- 1 bit; R201; reset 0. The STO outputs are de-energised at the end of a category 1 stop. -/
  sto : Bool := false
  /-- 1 bit; R202; reset 0. A stop delivery is due at the next edge. -/
  deliver : Bool := false
  /-- 2 bits; R201; reset 0. Consecutive JOINT_STATE telegrams at standstill. -/
  still : Nat := 0
  /-- axis and position; R203; reset none. Positions recorded at standstill. -/
  recorded : List (Nat × Int) := []
  /-- axis and interval; R204, R224; reset none. Braking intervals recorded at the stop decision. -/
  intervals : List (Nat × Int × Int) := []
  /-- Q1.15; R231; reset 0x8000. Factor in force. -/
  factor : Nat := 0x8000
  /-- count and factor of the result to deliver; R230; reset none. -/
  result : Option (Nat × Nat) := none
  /-- proposed entries by axis; R221; reset none. Stamps and CHECK as latched. -/
  latched : List (Nat × List (Nat × Nat)) := []
  /-- 1 bit; R221; reset 0. -/
  hasLatch : Bool := false
  /-- 16 bits; R232; reset 0. Consecutive cycles that met the higher row. -/
  raise : Nat := 0
  /-- by cause; R206; reset 0. Consecutive passing cycles. -/
  passes : Table Nat := []
  /-- mm, signed; R248; reset 0. Smallest candidate margin of the last cycle. -/
  margin : Int := 0
  /-- cycle number; R228; reset none. The last safety cycle in which the channels disagreed. -/
  disagreed : Option Nat := none
  /-- causes; R207; reset none. Causes marked "Reset" whose condition was present at the last check. -/
  present : List Nat := []
  /-- status; R220, R224; reset 0. GRID_EXCEEDED or BRAKE_RANGE of the last window. -/
  window : Nat := 0
  /-- 1 bit; R230; reset 0. The candidate of the running cycle has passed. -/
  passed : Bool := false
  /-- 32 bits, wrapping; R248; reset 0. -/
  clearTrunc : Nat := 0
  /-- 32 bits, wrapping; R248; reset 0. -/
  gradeDown : Nat := 0
  /-- 32 bits, wrapping; R248; reset 0. -/
  stops : Nat := 0
deriving DecidableEq, Repr

/-- One safe input pair (R238). -/
structure SafeIn where
  /-- levels read at the last sample; R238; reset 0. -/
  a : Bool := false
  b : Bool := false
  /-- us; R238; reset 0. How long each channel has read open without interruption. -/
  openA : Nat := 0
  openB : Nat := 0
  /-- 1 bit; R238; reset 1 (DESIGN CHOICE, log entry 21). Filtered: channel counts as open. -/
  isOpenA : Bool := true
  isOpenB : Bool := true
  /-- us; R238; reset 0. How long one channel has been open while the other was closed. -/
  disc : Nat := 0
  /-- us; R238; reset 0. How long a RESET input has been closed. -/
  closedFor : Nat := 0
  /-- 1 bit; R238; reset 0. -/
  fault : Bool := false
  /-- 1 bit; R238; reset 0. A channel has failed to see a test pulse since it last saw one. -/
  missed : Bool := false
  /-- 1 bit; R207; reset 0. A reset release waits for the next latch. -/
  released : Bool := false
  /-- 32 bits, wrapping; R248; reset 0. RESET_IGNORED. -/
  ignored : Nat := 0
deriving DecidableEq, Repr

/-- One safe output pair (R239 to R241). -/
structure SafeOut where
  /-- 1 bit; R239; reset 0. High-side switch. -/
  high : Bool := false
  /-- 1 bit; R239; reset 0. Low-side switch. -/
  low : Bool := false
  /-- 1 bit; R240; reset 0. -/
  fault : Bool := false
deriving DecidableEq, Repr

/-- Everything of the Glume. -/
structure GlumeState where
  /-- R246; reset none (activated from the journal at start-up, R247). -/
  block : Option GlmBlock := none
  /-- block and GTC of its load; R245; reset none. -/
  pendingBlock : Option (GlmBlock × Nat) := none
  /-- block; R246; reset none. Confirmed, active at the next safety-cycle edge. -/
  confirmed : Option GlmBlock := none
  /-- sources by index; R211; reset as GlmSrcState. -/
  sources : Table GlmSrcState := []
  /-- units: arm a at a, group g at 16 + g; R200; reset as GlmUnit. -/
  units : Table GlmUnit := []
  /-- 32 pairs; R237; reset as SafeIn. -/
  inputs : Table SafeIn := []
  /-- 32 pairs; R239; reset as SafeOut. -/
  outputs : Table SafeOut := []
  /-- axes whose brake release is requested; R171, R241; reset none. -/
  release : List Nat := []
  /-- axis, tick and position of consumed entries, newest last; R217; reset empty. -/
  consumed : Table (List (Nat × Int)) := []
  /-- arm modes and tools latched at G_j by arm; R221; reset 0. -/
  modes : Table (Nat × Nat) := []
  /-- GTC; R221; reset 0. G_j of the running safety cycle. -/
  opened : Nat := 0
  /-- 64 bits; R216; reset 0. Number of the running safety cycle. -/
  cycle : Nat := 0
  /-- arms and groups whose cleared window or candidate has been checked; R222; reset none. -/
  checked : List Nat := []
  /-- 2 bits; R198, R249; reset none. Faults of the Glume present. -/
  faults : List Nat := []
  /-- 32 bits, wrapping; R248; reset 0. DISAGREE. -/
  disagree : Nat := 0
  /-- GTC of the start of each output's last test pulse; R238; reset none. -/
  tpAt : Table Nat := []
  /-- 1 bit; R198; reset 0. Every pair is de-energised by hardware. -/
  cut : Bool := false
deriving DecidableEq, Repr

end Sys2Proof.Machine
end

