-- ==== Sys2Proof/Machine/State/Net.lean ====
section
/-! DEFINITION. The state of the CAN FD controllers (16_can_fd), of the MACs and the switch core
(15_ethernet_and_switch) and of the field networks (17_field_network_images). -/

namespace Sys2Proof.Machine

/-- A CAN message in a buffer (R465). -/
structure CanMsg where
  /-- 29 bits; R465. Identifier; a base identifier in [28:18]. -/
  id : Nat := 0
  /-- 1 bit; R465. -/
  ide : Bool := false
  /-- 1 bit; R465. -/
  rtr : Bool := false
  /-- 4 bits; R465. -/
  dlc : Nat := 0
  /-- 1 bit; R465. -/
  fdf : Bool := false
  /-- 1 bit; R465. -/
  brs : Bool := false
  /-- 1 bit; R465. -/
  esi : Bool := false
  /-- 5 bits; R465. Matching filter. -/
  filter : Nat := 0
  /-- 1 bit; R456. -/
  overwritten : Bool := false
  /-- 1 bit; R459. -/
  valid : Bool := false
  /-- up to 64 octets; R465. -/
  data : List Byte := []
deriving DecidableEq, Repr

/-- A transmit buffer (R460). -/
structure CanTxBuf where
  /-- 3 bits; CAN_TXB of R460; reset 0. -/
  state : Nat := 0
  /-- 1 bit; CAN_TXB; reset 0. CLASS differs from its reset value (1 for b of 24 and above). -/
  classFlip : Bool := false
  /-- 1 bit, W1C; CAN_TXB of R462; reset 0. -/
  cxlFailed : Bool := false
  /-- 1 bit; R462, R464; reset 0. The attempt in progress is not retried if it fails. -/
  noRetry : Bool := false
  /-- 4 bits, saturating; CAN_TXB of R461; reset 0. -/
  tries : Nat := 0
  /-- 1 bit; CAN_TXB of R463; reset 0. -/
  busoffCxl : Bool := false
  /-- R465; reset empty. -/
  msg : CanMsg := {}
deriving DecidableEq, Repr

/-- An acceptance filter (R456). -/
structure CanFilter where
  /-- 29 bits; CAN_FILT_ID; reset 0. -/
  id : Nat := 0
  /-- 1 bit; CAN_FILT_ID; reset 0. -/
  ide : Bool := false
  /-- 1 bit; CAN_FILT_ID; reset 0. -/
  en : Bool := false
  /-- 29 bits; CAN_FILT_MASK; reset 0. -/
  mask : Nat := 0
  /-- 7 bits; CAN_FILT_DEST; reset 0x7F. -/
  dest : Nat := 0x7F
deriving DecidableEq, Repr

/-- A CAN FD controller (R452 to R465). -/
structure Can where
  /-- 4 bits; R356; reset none. The Lathe whose network names the controller. -/
  owner : Option Nat := none
  /-- 1 bit; CAN_CTRL of R465; reset 0. -/
  en : Bool := false
  /-- 2 bits; CAN_CTRL of R465; reset 0. -/
  mode : Nat := 0
  /-- 1 bit; CAN_CTRL of R457; reset 0. -/
  fdEn : Bool := false
  /-- 1 bit; CAN_CTRL of R463; reset 1. -/
  autoRecover : Bool := true
  /-- 4 bits; CAN_CTRL of R461; reset 8. -/
  retryLimit : Nat := 8
  /-- 1 bit; CAN_CTRL of R458; reset 0. -/
  txEvtEn : Bool := false
  /-- 7 bits; CAN_CTRL of R456; reset 0. D. -/
  dedicated : Nat := 0
  /-- 32 bits; CAN_NBT of R453; reset 0. -/
  nbt : Nat := 0
  /-- 26 bits; CAN_DBT of R453; reset 0. -/
  dbt : Nat := 0
  /-- 2 bits; CAN_STATUS of R463; reset 3 (integrating). -/
  state : Nat := 3
  /-- 1 bit; CAN_STATUS of R463; reset 0. -/
  recovering : Bool := false
  /-- 1 bit; CAN_STATUS; reset 0. -/
  busIdle : Bool := false
  /-- 9 bits; CAN_STATUS of R463; reset 0. TEC. -/
  txErr : Nat := 0
  /-- 8 bits; CAN_STATUS of R463; reset 0. REC. -/
  rxErr : Nat := 0
  /-- 3 bits; CAN_STATUS; reset 0. LEC. -/
  lec : Nat := 0
  /-- 64 buffers; R456; reset empty. Dedicated receive buffers. -/
  rxBufs : Table CanMsg := []
  /-- 64 bits; CAN_RX_NEW of R459; reset 0. -/
  rxNew : Nat := 0
  /-- up to 64 - D messages; R456; reset empty. Receive FIFO, oldest first. -/
  fifo : List CanMsg := []
  /-- R459; reset empty. The receive read view. -/
  view : CanMsg := {}
  /-- 72 octets; R465; reset 0. Transmit staging area by octet. -/
  staging : Table Byte := []
  /-- 32 buffers; R460; reset as CanTxBuf. -/
  tx : Table CanTxBuf := []
  /-- 32 filters; R456; reset as CanFilter. -/
  filters : Table CanFilter := []
  /-- 8 bits, saturating, RC; CAN_CNT0 of R456; reset 0. -/
  rxOverwrite : Nat := 0
  /-- 8 bits, saturating, RC; CAN_CNT0 of R456; reset 0. -/
  rxFifoOvf : Nat := 0
  /-- 8 bits, saturating, RC; CAN_CNT0 of R462; reset 0. -/
  cxlFail : Nat := 0
  /-- 8 bits, saturating, RC; CAN_CNT0 of R461; reset 0. -/
  abandoned : Nat := 0
  /-- 8 bits, saturating, RC; CAN_CNT1 of R463; reset 0. -/
  busOff : Nat := 0
  /-- 8 bits, saturating, RC; CAN_CNT1 of R457; reset 0. -/
  protoExc : Nat := 0
  /-- 8 bits, saturating, RC; CAN_CNT1 of R461; reset 0. -/
  arbLost : Nat := 0
  /-- 8 bits, saturating, RC; CAN_CNT1 of R460; reset 0. -/
  loadRej : Nat := 0
deriving DecidableEq, Repr

/-- A perfect-match entry of a MAC (R425). -/
structure MacFilter where
  /-- 48 bits; MAC_FILT_LO and MAC_FILT_HI; reset 0. Octet 0, the first on the wire, in [7:0]. -/
  addr : Nat := 0
  /-- 1 bit; MAC_FILT_HI; reset 0. -/
  en : Bool := false
  /-- 3 bits; MAC_FILT_HI; reset 0. -/
  tcOvr : Nat := 0
  /-- 1 bit; MAC_FILT_HI; reset 0. -/
  tcOvrEn : Bool := false
  /-- 30 bits; MAC_FILT_DEST; reset 0. -/
  dest : Nat := 0
deriving DecidableEq, Repr

/-- A gate control list (R431, R432). -/
structure GateList where
  /-- 64 bits; R431. -/
  base : Nat := 0
  /-- 32 bits; R431. -/
  cycleNs : Nat := 0
  /-- entries GATES, OP, INTERVAL_NS; R431. -/
  entries : List (Nat × Nat × Nat) := []
deriving DecidableEq, Repr

/-- One MAC and its switch port (R420 to R450). -/
structure Mac where
  /-- 4 bits; R356; reset none. The Lathe that holds the port. -/
  owner : Option Nat := none
  /-- 1 bit; MAC_CTRL; reset 0. -/
  en : Bool := false
  /-- 1 bit; MAC_CTRL of R425; reset 0. -/
  promisc : Bool := false
  /-- 1 bit; MAC_CTRL of R436; reset 0. -/
  pauseRx : Bool := false
  /-- 1 bit; MAC_CTRL of R426; reset 0. -/
  hairpin : Bool := false
  /-- 1 bit; MAC_CTRL of R420; reset 0. -/
  sgmii : Bool := false
  /-- 14 bits; MAC_CTRL of R422; reset 1522. -/
  maxLen : Nat := 1522
  /-- 10 bits; MAC_CTRL of R440; reset 50. -/
  hold : Nat := 50
  /-- 1 bit; MAC_STATUS of R440; reset 0. -/
  link : Bool := false
  /-- 2 bits; MAC_STATUS of R420; reset 0. -/
  speed : Nat := 0
  /-- 2 bits; MAC_STATUS of R440; reset 0. HOLD_STATE. -/
  holdState : Nat := 0
  /-- 2 bits; MAC_STATUS of R428; reset 0. PREEMPT. -/
  preempt : Nat := 0
  /-- 8 bits; MAC_STATUS of R436; reset 0. XOFF_SENT. -/
  xoffSent : Nat := 0
  /-- 8 bits; MAC_STATUS of R436; reset 0. PAUSED. -/
  paused : Nat := 0
  /-- 24 bits; MAC_CLASS of R427; reset 0xFAC688. -/
  pcpMap : Nat := 0xFAC688
  /-- 3 bits; MAC_CLASS of R427; reset 0. -/
  defTc : Nat := 0
  /-- 12 bits; MAC_FLOW of R436; reset 256. -/
  xoff : Nat := 256
  /-- 12 bits; MAC_FLOW of R436; reset 192. -/
  xon : Nat := 192
  /-- 8 bits; MAC_FLOW2 of R436; reset 0x1F. -/
  pfcTx : Nat := 0x1F
  /-- 8 bits; MAC_FLOW2 of R436; reset 0x1F. -/
  pfcRx : Nat := 0x1F
  /-- 12 bits; MAC_FLOW2 of R436; reset 16. -/
  headroom : Nat := 16
  /-- 8 bits; MAC_PREEMPT of R428; reset 0xE0. -/
  express : Nat := 0xE0
  /-- 1 bit; MAC_PREEMPT of R428; reset 0. -/
  preemptEn : Bool := false
  /-- 2 bits; MAC_PREEMPT of R429; reset 0. -/
  addFrag : Nat := 0
  /-- 1 bit; MAC_PREEMPT of R428; reset 0. -/
  verifyDis : Bool := false
  /-- 7 bits; MAC_PREEMPT of R428; reset 10. -/
  verifyMs : Nat := 10
  /-- 16 bits; MAC_LAT of R421; reset 0. -/
  rxLat : Nat := 0
  /-- 16 bits; MAC_LAT of R502; reset 0. -/
  txLat : Nat := 0
  /-- 30 bits; MAC_DEF_DEST of R425; reset 0. -/
  defDest : Nat := 0
  /-- 8 entries; R425; reset as MacFilter. -/
  filters : Table MacFilter := []
  /-- 2 bits; R428; reset 0. Verify attempts made. -/
  verifyTries : Nat := 0
  /-- 25 counters of 64 bits; R446; reset 0. -/
  counters : Table Nat := []
  /-- 16 counters of 32 bits, RC; R448; reset 0. -/
  nrw : Table Nat := []
  /-- GTC and 25 counters; R445; reset 0. Snapshot bank 0. -/
  snap0 : Nat × Table Nat := (0, [])
  /-- GTC and 25 counters; R445; reset 0. Snapshot bank 1. -/
  snap1 : Nat × Table Nat := (0, [])
  /-- 16 bits, wrapping; MAC_SNAP of R445; reset 0. -/
  taken : Nat := 0
  /-- list; R431; reset none. The gate list in force. -/
  gates : Option GateList := none
  /-- list (none removes it) awaiting its instant; R432; reset none. -/
  gatesNext : Option (Option GateList) := none
  /-- 8 bits; R432; reset 0xFF. Gates open now. -/
  open_ : Nat := 0xFF
  /-- GTC; R432; reset 0. The GTC at which the present gate interval ends; 0 when no list runs. -/
  gateUntil : Nat := 0
  /-- 6 bits; R432; reset 0. Entry of the list in force. -/
  gateIdx : Nat := 0
  /-- 1 bit; R432; reset 0. A hold of preemptable frames is in force. -/
  holding : Bool := false
  /-- frame number; R435; reset none. The frame in transmission. -/
  sending : Option Nat := none
  /-- frame number; R429; reset none. A preempted frame that waits to continue. -/
  preempted : Option Nat := none
  /-- octets and last fragment count; R430; reset none. The frame in reassembly. -/
  reasm : Option (List Byte × Nat × Nat) := none
  /-- cells by class; R436; reset 0. H of the port and each class. -/
  held : Table Nat := []
  /-- 12 bits; R436; reset 0. Cells of the port's headroom in use. -/
  headUsed : Nat := 0
  /-- 8 bits; R436; reset 0. Classes whose pause condition holds. -/
  condition : Nat := 0
deriving DecidableEq, Repr

/-- A frame stored in the switch's cells (R433 to R439). -/
structure SwFrame where
  /-- a number given in storing order. -/
  no : Nat := 0
  /-- octets without FCS; R439. -/
  data : List Byte := []
  /-- 14 bits; R422. L of the received frame, or LEN + 4. -/
  len : Nat := 0
  /-- 3 bits; R427. -/
  cls : Nat := 0
  /-- 30 bits; R439. Egress ports that still hold the frame. -/
  ports : Nat := 0
  /-- 30 bits; R438. Egress ports at which it has started. -/
  started : Nat := 0
  /-- 5 bits; R419. Ingress switch port. -/
  ingress : Nat := 0
  /-- 32 bits; R438. Deadline, GTC [31:0]. -/
  deadline : Option Nat := none
  /-- 1 bit; R502. -/
  tsInsert : Bool := false
  /-- 64 bits; R421. Receive stamp. -/
  stamp : Nat := 0
  /-- 1 bit; R433. The frame came from an external port. -/
  ext : Bool := false
  /-- cells; R433. Cells drawn from the class reservation. -/
  resv : Nat := 0
  /-- cells; R433. Cells drawn from the shared pool. -/
  shared : Nat := 0
  /-- cells; R436. Cells drawn from the ingress port's headroom. -/
  head : Nat := 0
  /-- cells; R434. Credits of the internal source held. -/
  credits : Nat := 0
deriving DecidableEq, Repr

/-- A mirror session (R442). -/
structure Mirror where
  /-- 1 bit; R442; reset 0. -/
  en : Bool := false
  /-- 5 bits; R442; reset 0. -/
  port : Nat := 0
  /-- 1 bit; R442; reset 0. 1 egress. -/
  dir : Nat := 0
  /-- 8 bits; R442; reset 0xFF. -/
  tcMask : Nat := 0xFF
  /-- 16 bits; R442; reset 1. -/
  every : Nat := 1
  /-- a count; R443; reset 0. Qualifying frames since the commit edge. -/
  count : Nat := 0
  /-- 32 bits, wrapping; R442; reset 0. -/
  copies : Nat := 0
  /-- 32 bits, wrapping; R442; reset 0. -/
  skipped : Nat := 0
deriving DecidableEq, Repr

/-- The rings of one Lathe at the switch (R451). -/
structure LatheRing where
  /-- 14 bits; SW_TXR_BASE; reset 0. -/
  txBase : Nat := 0
  /-- 6 bits; SW_TXR_IDX; reset 0. -/
  txHead : Nat := 0
  /-- 6 bits; SW_TXR_IDX; reset 0. -/
  txTail : Nat := 0
  /-- 14 bits; SW_TXR_CRED of R434; reset 256. -/
  credits : Nat := 256
  /-- 8 bits, saturating, RC; SW_TXR_CRED; reset 0. -/
  ringFault : Nat := 0
  /-- 14 bits; SW_RXR_BASE; reset 0. -/
  rxBase : Nat := 0
  /-- 6 bits; SW_RXR_IDX; reset 0. -/
  rxHead : Nat := 0
  /-- 6 bits; SW_RXR_IDX; reset 0. -/
  rxTail : Nat := 0
  /-- 8 bits, saturating, RC; SW_RXR_IDX of R437; reset 0. -/
  rxTrunc : Nat := 0
deriving DecidableEq, Repr

/-- The switch core (R419, R433 to R444). -/
structure SwitchState where
  /-- a count; reset 0. Number for the next stored frame. -/
  nextNo : Nat := 0
  /-- frames in storing order; R439; reset none. -/
  frames : List SwFrame := []
  /-- 16 384 cells; SW_FREE of R433; reset 16384. Free cells of the shared pool. -/
  sharedFree : Nat := 16384
  /-- 14 bits by class; SW_RESV of R433; reset 0. -/
  resv : Table Nat := []
  /-- 14 bits by class; SW_RESV of R433; reset 0. Reserved cells in use. -/
  resvHeld : Table Nat := []
  /-- 10 bits; R434; reset 512. Credits of the Sheaf. -/
  sheafCredits : Nat := 512
  /-- 11 bits; R434; reset 1024. Credits of the fabric bridge. -/
  bridgeCredits : Nat := 1024
  /-- 16 rings; R451; reset as LatheRing. -/
  rings : Table LatheRing := []
  /-- 4 sessions; R442; reset as Mirror. -/
  mirrors : Table Mirror := []
  /-- cells of 64; R443; reset 0. Mirror copies held. -/
  mirrorCells : Nat := 0
  /-- 16 bits, wrapping; SW_AUDIT of R444; reset 0. -/
  audits : Nat := 0
  /-- 8 bits, saturating, RC; SW_AUDIT of R444; reset 0. -/
  leaks : Nat := 0
  /-- 8 bits, saturating, RC; SW_AUDIT of R444; reset 0. -/
  doubles : Nat := 0
  /-- cells; R444; reset none. Cells neither free nor held at the last audit. -/
  suspects : List Nat := []
  /-- cells; R444; reset none. Cells taken off the free list until freed. -/
  doubled : List Nat := []
  /-- frames delivered to the Sheaf and not yet processed; R443; reset none. -/
  toSheaf : List (List Byte) := []
deriving DecidableEq, Repr

/-- A cyclic slot of a network (R466). -/
structure NetSlot where
  /-- 16 bits; R466. -/
  ofs : Nat := 0
  /-- 16 bits; R466. -/
  len : Nat := 0
  /-- 8 bits; R466. -/
  order : Nat := 0
  /-- 8 bits; R466. -/
  format : Nat := 0
deriving DecidableEq, Repr

/-- A field network (R466 to R474). -/
structure Network where
  /-- 1 bit; R466; reset 0. EN: the network is defined. -/
  defined : Bool := false
  /-- 1 bit; R352; reset 0. The network has been started. -/
  started : Bool := false
  /-- 4 bits; R466; reset 0. -/
  engine : Nat := 0
  /-- 5 bits; R466; reset 0. Image store entry. -/
  image : Nat := 0
  /-- 5 bits; R466; reset 1. -/
  cycleDiv : Nat := 1
  /-- 4 bits; R466; reset 0. -/
  cyclePhase : Nat := 0
  /-- 8 bits; R466; reset 0xFF. -/
  portA : Nat := 0xFF
  /-- 8 bits; R466; reset 0xFF. -/
  portB : Nat := 0xFF
  /-- 8 bits; R466; reset 0xFF. CAN controller. -/
  can : Nat := 0xFF
  /-- 8 bits; R466; reset 0. Chisel groups granted. -/
  groups : Nat := 0
  /-- 8 bits; R466; reset 0xFF. Time base servoed. -/
  tb : Nat := 0xFF
  /-- 32 bits; R466; reset 0. -/
  deadlineNs : Nat := 0
  /-- up to 128 slots; R466; reset empty. -/
  outs : List NetSlot := []
  /-- up to 128 slots; R466; reset empty. -/
  ins : List NetSlot := []
  /-- up to 768 octets; R466; reset empty. PARAMS. -/
  params : List Byte := []
  /-- 8 bits; R468; reset 0. First output slot of the network in its engine's records. -/
  outFirst : Nat := 0
  /-- 8 bits; R468; reset 0. First input slot of the network in its engine's staging slots. -/
  inFirst : Nat := 0
  /-- CUTOFF_NS and FILL_NS; R274, R468; reset none. Of a dual-homed line. -/
  dual : Option (Nat × Nat) := none
  /-- 32 bits, wrapping; R41, R42; reset 0. Missed deadlines. -/
  missed : Nat := 0
  /-- commands; R352; reset none. Tags of acyclic requests in progress, with their ports. -/
  acyclic : List (Nat × Nat) := []
deriving DecidableEq, Repr

end Sys2Proof.Machine
end

