-- ==== Sys2Proof/Syntax/Fabric.lean ====
section
/-! DEFINITION. Fabric frames (R512, R515, R538, R552) and the join exchange (R527, R528) as operands of the rows that take them
in. A frame carries its fields; whether its CHECK is correct and whether its fixed fields are valid come with it, since the spec
gives no octet layout for the bodies of most records. -/

namespace Sys2Proof

/-- A slot of the schedule table (R542). -/
structure FabSlot where
  /-- 0 ring A, 1 ring B -/
  ring : Nat := 0
  owner : Nat := 0xFF
  /-- 0 CYCLE, 1 DATA, 2 FORWARD, 3 RESYNC, 4 RELAY, 5 JOIN -/
  kind : Nat := 1
  start : Nat := 0
  len : Nat := 0
  guard : Nat := 8
deriving DecidableEq, Repr

/-- A schedule table (R542). -/
structure FabSched where
  gen : Nat := 0
  slots : List FabSlot := []
  /-- SLOT, LATHE_MASK and HOST of each cycle interrupt -/
  ints : List (Nat × Nat × Nat) := []
deriving DecidableEq, Repr

/-- An entry of the cell map (R516). -/
structure MapEntry where
  uid : Nat := 0
  node : Nat := 0
  replaceable : Bool := false
deriving DecidableEq, Repr

/-- What a primary forwards of a tick (R276). -/
structure FwdSet where
  tick : Nat := 0
  /-- Glume unit, count and factor (0 and 0 for a stop delivery) -/
  delivery : List (Nat × Nat × Nat) := []
  /-- pin, level and edge count -/
  switches : List (Nat × Bool × Nat) := []
  /-- capture pin and GTC in 0.5 ns -/
  captures : List (Nat × Nat) := []
  /-- converter, input and code -/
  codes : List (Nat × Nat × Nat) := []
  /-- axis, FRESH and raw feedback, in update order -/
  inputs : List (Nat × Bool × Nat) := []
  /-- transfer number, commit edge and acceptance GTC of acknowledged commands (R278); the spec names no record for the report -/
  commits : List (Nat × Nat × Nat) := []
deriving DecidableEq, Repr

/-- A slice of a group (R281): the axes' records, marks, planning states and entries, and the arms'. -/
structure FabSlice where
  tick : Nat := 0
  group : Nat := 0
  axes : List (Nat × Machine.Axis) := []
  arms : List (Nat × Machine.Arm) := []
deriving DecidableEq, Repr

/-- A fabric-wide change (R515). -/
inductive CellCfg where
  /-- tick length and the GTC of its change edge (R13) -/
  | tick (sel gtc : Nat)
  /-- a zone (R253) -/
  | zone (k : Nat) (z : Machine.Zone)
  /-- the cell map (R516) -/
  | map (l : List MapEntry)
  /-- the schedule table (R542) -/
  | sched (t : FabSched)
  /-- the mask of a sleep (R555) -/
  | sleep (nodes : List Nat)
  /-- a declared takeover: the failed primary and the shadow that takes over (R287) -/
  | takeover (node by_ : Nat)
deriving DecidableEq, Repr

/-- A record of a SLOT frame (R515). -/
inductive FabRec where
  | announce (uid role rings : Nat) (heardA heardB : List Nat)
  | fwd (f : FwdSet)
  | digest (tick : Nat) (l : List Nat)
  | slice (f : FabSlice)
  /-- the tick whose edge applies the message, and the message (R258) -/
  | claim (due : Nat) (m : Machine.ClaimMsg)
  | master (axis stamp : Nat) (pos : Int) (flags : Nat)
  | mbx (ch mseq : Nat) (w : Word)
  /-- transfer, offset, total and octets of a segment; its contents travel as operands of the row that takes it in -/
  | bulk (xfer ofs total len : Nat)
  | bulkAck (xfer acked : Nat)
  /-- a failure declaration (R283) -/
  | failed
  /-- a takeover declaration with the node taken over (R287) -/
  | takeover (node : Nat)
  /-- the tick whose edge applies the change, and the change -/
  | cellCfg (due : Nat) (c : CellCfg)
  | leave
  /-- a record of another RTYPE (R515) -/
  | unknown
deriving DecidableEq, Repr

/-- The body of a CYCLE frame (R538). -/
structure CycleBody where
  tick : Nat := 0
  txGtc : Nat := 0
  gen : Nat := 0
  sleepState : Nat := 0
  master : Nat := 0
  pnr : Nat := 0
  dlyNode : Nat := 0
  dlyRxE : Nat := 0
  dlyRxW : Nat := 0
  dlyCycle : Nat := 0
deriving DecidableEq, Repr

/-- The body of a frame by its TYPE (R512). -/
inductive FabBody where
  | slot (recs : List FabRec)
  | join
  | cycle (b : CycleBody)
  | coldStart (uid node epoch attempt : Nat)
  | wakeReq (node reason : Nat)
deriving DecidableEq, Repr

/-- A fabric frame (R512). -/
structure FabFrame where
  dst : Nat := 0
  bcast : Bool := false
  src : Nat := 0
  ringB : Bool := false
  west : Bool := false
  relayed : Bool := false
  hops : Nat := 0
  relay : Nat := 0
  epoch : Nat := 0
  cycle : Nat := 0
  seq : Nat := 0
  body : FabBody := .slot []
  /-- VER, TYPE, the reserved bits and LEN are valid (R514) -/
  valid : Bool := true
  /-- CHECK is correct (R513) -/
  intact : Bool := true
deriving DecidableEq, Repr

/-- A member's latest announcement (R518). -/
structure KnownNode where
  node : Nat := 0
  uid : Nat := 0
  role : Nat := 0
  rings : Nat := 0
  heardA : List Nat := []
  heardB : List Nat := []
deriving DecidableEq, Repr

/-- The state a joiner takes over (R528). -/
structure JoinXfer where
  epoch : Nat := 0
  map : List MapEntry := []
  /-- the latest announcements -/
  members : List KnownNode := []
  sched : FabSched := {}
  coldOk : List Nat := []
  master : Nat := 0
  zones : List (Nat × Machine.Zone) := []
  claims : List Machine.Claim := []
deriving DecidableEq, Repr

/-- What a primary transfers to a joining shadow (R297). -/
structure PairXfer where
  axes : List (Nat × Machine.Axis) := []
  arms : List (Nat × Machine.Arm) := []
  nets : List (Nat × Machine.Network) := []
  cams : List (Nat × Machine.Cam) := []
  /-- the active safety block -/
  block : Option Machine.GlmBlock := none
  epoch : Nat := 0
  level : Nat := 0
  /-- the primary's cell state and running sets (R647) -/
  cell : Nat := 3
  armRun : Nat := 0
  axisRun : Nat := 0
  /-- the dual-homed lines: network, P_PORT, S_PORT, LAT_NS -/
  lines : List (Nat × Nat × Nat × Nat) := []
deriving DecidableEq, Repr

/-- What the last segment of a transfer completes (R531). -/
inductive BulkEnd where
  /-- nothing: more segments follow, or the join state, which its own row takes in -/
  | none
  /-- the shadow transfer -/
  | pair (x : PairXfer)
  /-- a command block for the shadow to commit -/
  | cmd (h : Hdr) (code : Nat) (args : List Byte)
deriving DecidableEq, Repr

end Sys2Proof
end

