-- ==== Sys2Proof/Syntax/Pool.lean ====
section
/-! DEFINITION. An access of the bank pool as an operand of its row. -/

namespace Sys2Proof

/-- What a read of a pool word finds (R570). -/
inductive Upset where
  /-- no error -/
  | none
  /-- a single-bit error -/
  | single
  /-- an error that has become uncorrectable -/
  | double
deriving DecidableEq, Repr

/-- An access of the bank pool (R564, R568, R570). -/
inductive PoolOp where
  /-- a read of `n` octets, and the error it finds -/
  | read (n : Nat) (upset : Upset)
  /-- a write, and whether a write of a lower-numbered port acting for the same owner meets it on a word in its cycle -/
  | write (data : List Byte) (beaten : Bool)
  /-- XCHG of 1, 2 or 4 octets -/
  | xchg (data : List Byte)
  /-- CAS of 1, 2 or 4 octets: the value compared and the value stored -/
  | cas (old : List Byte) (data : List Byte)
deriving DecidableEq, Repr

end Sys2Proof
end

