-- ==== Sys2Proof/Syntax/Safety.lean ====
section
/-! DEFINITION. What the two Glume channels report of a window (R226 to R231), as the operand of the row that takes it in. -/

namespace Sys2Proof

/-- The results of both channels for a window. -/
structure GlmResult where
  /-- the candidate window of R230; else the cleared window of R229 -/
  cand : Bool := false
  /-- mm: channel A's smallest margin against human volumes (R226) -/
  mHuman : Int := 0
  /-- mm: channel A's smallest margin against keep-out volumes -/
  mKeep : Int := 0
  /-- channel B's overlap with the human bitmap (R227) -/
  oHuman : Bool := false
  /-- channel B's overlap with the keep-out bitmap -/
  oKeep : Bool := false
  /-- channel B's overlap for each grade row, with every radius grown by the row's M_MM (R231) -/
  oGrade : List Bool := []
  /-- 0, or the window's own failure: GRID_EXCEEDED or BRAKE_RANGE (R220, R224) -/
  fail : Nat := 0
deriving DecidableEq, Repr

end Sys2Proof
end

