-- ==== Sys2Proof/Syntax/Wire.lean ====
section
/-! DEFINITION. What arrives from the wires outside the block: CAN frames and the ends of transmit attempts, Ethernet
frames, and the like, as operands of the rows that take them in. -/

namespace Sys2Proof

/-- A CAN frame on the bus (R452). -/
structure CanFrame where
  id : Nat := 0
  ide : Bool := false
  rtr : Bool := false
  fdf : Bool := false
  brs : Bool := false
  esi : Bool := false
  dlc : Nat := 0
  data : List Byte := []
deriving DecidableEq, Repr

/-- How a CAN transmit attempt ends (R461). -/
inductive CanEnd where
  /-- the end of frame completes without error -/
  | ok
  /-- arbitration is lost -/
  | lost
  /-- an error frame; the error kind as LEC counts it, and whether the error leaves TEC unchanged (an error-passive
  transmitter that finds no acknowledgement and sees no dominant bit) -/
  | error (lec : Nat) (quiet : Bool)
deriving DecidableEq, Repr

/-- What a MAC receives as one packet (R422, R430): a whole or express frame, or a fragment of a preempted one. -/
inductive RxFrag where
  /-- a frame that is not fragmented, or an express frame -/
  | whole
  /-- the initial fragment of a frame, with its frame count; `last` when it already ends the frame -/
  | initial (frame : Nat) (last : Bool)
  /-- a continuation fragment, with its frame count and fragment count; `last` when it ends the frame -/
  | cont (frame frag : Nat) (last : Bool)
deriving DecidableEq, Repr

/-- What happens in the verification of IEEE 802.3br (R428). -/
inductive VerifyStep where
  /-- the verify interval elapses: the next attempt is made, or the third is judged failed -/
  | attempt
  /-- the partner's respond packet arrives -/
  | response
  /-- the partner's verify packet arrives and is answered -/
  | asked
deriving DecidableEq, Repr

end Sys2Proof
end

