-- ==== Sys2Proof/Syntax.lean ====
section
/-! DEFINITION. The commands of the block: one constructor per row of the table, in its order, with the row's operands.
A row whose step the spec describes as an event carries what happens outside the model (a frame's octets, a sampled level).
A host command row carries its block header `h` (R329) and its arguments. -/

namespace Sys2Proof

/-- A command: one row of the table of operations and events. -/
inductive Instr where
  /-- TICK_EDGE (R15): Compare unit 0 of TB0 reaches the next tick-grid GTC and a tick opens, running the edge work in the order of R649. -/
  | tickEdge (gpio : List (Nat × Bool × Nat)) (roles : Nat)
  /-- TICK_LENGTH_CHANGE (R14): The change edge of a committed CELL.SET_TICK is reached and the new tick length takes effect. -/
  | tickLengthChange
  /-- CLAIM_HOLDOVER (R263): At tick T1 of a claim window, each unreleased zone is released or passes to HELD. -/
  | claimHoldover (n : Nat)
  /-- CLAIM_REVOKE (R267): After two missed slots of a device, every arbiter revokes its claims and blocks zones it may occupy. -/
  | claimRevoke (node : Nat)
  /-- TILLER_UPDATE (R137): A Tiller starts one 175-cycle axis update at its fixed offset in the Tiller window. -/
  | tillerUpdate (a : Nat) (entryBad recordBad : Bool) (ecc : Nat)
  /-- TILLER_WATCHDOG (R152): An update not complete 400 cycles after its start trips the engine watchdog. -/
  | tillerWatchdog (n : Nat)
  /-- OUTPUT_ASSEMBLY (R18): Output assembly starts and takes the finished update records. -/
  | outputAssembly
  /-- OUTPUT_SEAL (R153): Output records are sealed, unfinished updates become overruns and consumption credits return. -/
  | outputSeal
  /-- GUARD_BAND_START (R365): The guard band opens and the Lathes enter phase 2. -/
  | guardBandStart
  /-- PROPOSAL_LATCH (R221): The Glume latches an arm's proposal when its Mandrel completes step 2. -/
  | proposalLatch (u : Nat)
  /-- GLUME_CHANNEL_RESULT (R228): A Glume channel finishes a check and the results are cross-checked. -/
  | glumeChannelResult (u : Nat) (r : GlmResult)
  /-- GLUME_DEADLINE_MISS (R222): A channel misses its check deadline and GLUME_FAULT is raised. -/
  | glumeDeadlineMiss (u : Nat)
  /-- SAFETY_TELEGRAM_RECEIVE (R211): The Glume tests a received safety telegram and accepts or discards it. -/
  | safetyTelegramReceive (octets : List Byte) (stamp : Nat)
  /-- SOURCE_TIMEOUT (R212): A safety source's last accepted telegram is older than TIMEOUT_US. -/
  | sourceTimeout (k : Nat)
  /-- SAFE_INPUT_SAMPLE (R238): Both channels of every safe input are sampled and filtered. -/
  | safeInputSample (a b : Nat)
  /-- DISCREPANCY_TIMEOUT (R238): Two channels disagree longer than DISC_MS and INPUT_FAULT is raised. -/
  | discrepancyTimeout (pair : Nat)
  /-- TEST_PULSE (R238): A test pulse output produces its periodic low pulse. -/
  | testPulse (k seenA seenB : Nat)
  /-- OUTPUT_TEST_PULSE (R240): An energised pair's switches are pulsed off in turn and read back. -/
  | outputTestPulse (pair : Nat) (okHigh okLow short : Bool)
  /-- STOP1_TIMEOUT (R201): STOP1_MAX elapses in a category 1 stop and the STO outputs de-energise. -/
  | stop1Timeout (u : Nat)
  /-- GLUME_CLOCK_FAULT (R198): A reference mismatch, PLL unlock or VDD_GLUME excursion de-energises every safe output pair. -/
  | glumeClockFault
  /-- GLUME_SELF_TEST (R249): The Glume's periodic self-test checks both channels with known envelopes. -/
  | glumeSelfTest (ok : Bool)
  /-- TICK_ABSENCE (R249): No tick edge for two safety cycles raises GLUME_FAULT. -/
  | tickAbsence
  /-- PENDING_BLOCK_EXPIRY (R246): A pending safety block without a confirm within 60 s is discarded. -/
  | pendingBlockExpiry
  /-- COMMAND_ACCEPTANCE (R332): The Sheaf takes and validates the block named by a COMMAND word. -/
  | commandAcceptance
  /-- EVENT_CREDIT_GRANT (R324): A CREDIT word with SUB 0 adds event credits to the port's balance. -/
  | eventCreditGrant (p : Nat)
  /-- BANK_HANDOVER (R326): A bank CREDIT word from a host hands the bank to Sheaf core 0. -/
  | bankHandover (p : Nat)
  /-- BANK_RETURN (R327): Once every command naming the bank has completed and been acknowledged, the Sheaf returns it. -/
  | bankReturn (b : Nat)
  /-- RESPONSE_POST (R331): The Sheaf writes a reply record and posts the response word on an empty channel. -/
  | responsePost (p : Nat)
  /-- EVENT_POST (R336): The Sheaf posts a queued event once the port's credit balance allows. -/
  | eventPost (p : Nat)
  /-- SHADOW_ACK_RECEIVE (R278): The shadow's acknowledgement completes acceptance of a command on the primary. -/
  | shadowAckReceive (xfer : Nat)
  /-- HELD_COMMAND_COMMIT (R337): A held command's target edge is reached and it commits. -/
  | heldCommandCommit (p tag : Nat)
  /-- TXN_EXPIRY (R346): An open transaction idle for TIMEOUT_MS closes without effect. -/
  | txnExpiry (id : Nat)
  /-- DEFERRED_RESET (R347): The device resets 10 ms after SYS.RESET or FW.ACTIVATE. -/
  | deferredReset
  /-- SYS_IDENTIFY (R347): Returns identification registers and the unique ID. -/
  | sysIdentify (h : Hdr) (a : List Byte)
  /-- SYS_HOST_SETUP (R347): Sets the issuing port's share and host banks. -/
  | sysHostSetup (h : Hdr) (a : List Byte)
  /-- SYS_STATUS (R347): Returns the port's outstanding, credit and error figures. -/
  | sysStatus (h : Hdr) (a : List Byte)
  /-- SYS_CANCEL (R338): Cancels a held command of the same port by tag. -/
  | sysCancel (h : Hdr) (a : List Byte)
  /-- SYS_EVENT_MASK (R347): Sets which event families reach the port. -/
  | sysEventMask (h : Hdr) (a : List Byte)
  /-- SYS_RESET (R347): Requests a device reset. -/
  | sysReset (h : Hdr) (a : List Byte)
  /-- CELL_SET_TICK (R13): Changes the tick length at a later change edge. -/
  | cellSetTick (h : Hdr) (a : List Byte)
  /-- CELL_SET_STATE (R637): Moves the cell between states as allowed. -/
  | cellSetState (h : Hdr) (a : List Byte)
  /-- CELL_STATUS (R347): Returns cell state, tick, role, epoch and running sets. -/
  | cellStatus (h : Hdr) (a : List Byte)
  /-- CELL_TXN_BEGIN (R343): Opens a configuration transaction. -/
  | cellTxnBegin (h : Hdr) (a : List Byte)
  /-- CELL_TXN_COMMIT (R345): Commits all members of a transaction at one edge or none. -/
  | cellTxnCommit (h : Hdr) (a : List Byte)
  /-- CELL_TXN_ABORT (R346): Closes a transaction without effect. -/
  | cellTxnAbort (h : Hdr) (a : List Byte)
  /-- ARM_DEFINE (R66): Defines an arm's joints, kinematic class and geometry. -/
  | armDefine (h : Hdr) (a : List Byte)
  /-- ARM_SET_DYNAMICS (R69): Sets per-joint dynamic parameters. -/
  | armSetDynamics (h : Hdr) (a : List Byte)
  /-- ARM_SET_PAYLOAD (R70): Sets the payload from an effective stamp. -/
  | armSetPayload (h : Hdr) (a : List Byte)
  /-- ARM_SET_LIMITS (R74): Sets Cartesian and workspace limits of an arm. -/
  | armSetLimits (h : Hdr) (a : List Byte)
  /-- ARM_SET_IK (R116): Sets inverse-kinematics weights and tolerances. -/
  | armSetIk (h : Hdr) (a : List Byte)
  /-- ARM_SET_TOOL (R65): Selects the active tool of a stationary arm. -/
  | armSetTool (h : Hdr) (a : List Byte)
  /-- ARM_SET_FRAME (R65): Sets a tool or work frame. -/
  | armSetFrame (h : Hdr) (a : List Byte)
  /-- ARM_SET_CLAIM (R254): Sets the arm's sphere model for zone claims. -/
  | armSetClaim (h : Hdr) (a : List Byte)
  /-- ARM_SET_MODE (R644): Changes the arm mode at standstill. -/
  | armSetMode (h : Hdr) (a : List Byte)
  /-- ARM_MOVE_JOINT (R95): Plans a synchronised joint move of an arm. -/
  | armMoveJoint (h : Hdr) (a : List Byte)
  /-- ARM_MOVE_CART (R107): Plans a Cartesian line of the tool centre point. -/
  | armMoveCart (h : Hdr) (a : List Byte)
  /-- ARM_MOVE_ARC (R108): Plans a Cartesian arc through a via point. -/
  | armMoveArc (h : Hdr) (a : List Byte)
  /-- ARM_HOLD (R98): Holds an arm along its path. -/
  | armHold (h : Hdr) (a : List Byte)
  /-- ARM_RESUME (R100): Resumes a held arm along its path. -/
  | armResume (h : Hdr) (a : List Byte)
  /-- ARM_STOP (R101): Stops an arm and discards its path. -/
  | armStop (h : Hdr) (a : List Byte)
  /-- ARM_JOG (R195): Jogs an arm in Cartesian space or by joint. -/
  | armJog (h : Hdr) (a : List Byte)
  /-- ARM_STATUS (R350): Returns an arm's mode, status, marks and pose. -/
  | armStatus (h : Hdr) (a : List Byte)
  /-- AXIS_BIND (R46): Sets an axis's binding. -/
  | axisBind (h : Hdr) (a : List Byte)
  /-- AXIS_CONFIG (R48): Sets divisor, phase, owner and feedback format of an axis. -/
  | axisConfig (h : Hdr) (a : List Byte)
  /-- AXIS_SET_LIMITS (R72): Sets an axis's soft limits and motion limits. -/
  | axisSetLimits (h : Hdr) (a : List Byte)
  /-- AXIS_SET_LOOP (R144): Sets loop coefficients with integrator rescale. -/
  | axisSetLoop (h : Hdr) (a : List Byte)
  /-- AXIS_SET_NOTCH (R146): Sets a notch filter and returns its coefficient pairs. -/
  | axisSetNotch (h : Hdr) (a : List Byte)
  /-- AXIS_SET_MODE (R151): Changes an axis mode with its initialisation. -/
  | axisSetMode (h : Hdr) (a : List Byte)
  /-- AXIS_MOVE (R89): Plans a move of an axis to a position target. -/
  | axisMove (h : Hdr) (a : List Byte)
  /-- AXIS_MOVE_VEL (R90): Plans a velocity target for an axis. -/
  | axisMoveVel (h : Hdr) (a : List Byte)
  /-- AXIS_HOLD (R98): Holds an axis along its path. -/
  | axisHold (h : Hdr) (a : List Byte)
  /-- AXIS_RESUME (R100): Resumes a held axis. -/
  | axisResume (h : Hdr) (a : List Byte)
  /-- AXIS_STOP (R101): Stops an axis and discards its path. -/
  | axisStop (h : Hdr) (a : List Byte)
  /-- AXIS_GEAR (R121): Engages an axis as a geared follower. -/
  | axisGear (h : Hdr) (a : List Byte)
  /-- AXIS_CAM_TABLE (R122): Loads a cam table. -/
  | axisCamTable (h : Hdr) (a : List Byte)
  /-- AXIS_CAM (R122): Starts a follower on a cam table. -/
  | axisCam (h : Hdr) (a : List Byte)
  /-- AXIS_HOME (R185): Starts a homing procedure. -/
  | axisHome (h : Hdr) (a : List Byte)
  /-- AXIS_JOG (R193): Starts or renews a jog of an axis. -/
  | axisJog (h : Hdr) (a : List Byte)
  /-- AXIS_SWITCH_CONFIG (R174): Assigns home and limit switch pins to an axis. -/
  | axisSwitchConfig (h : Hdr) (a : List Byte)
  /-- AXIS_SWITCH_CLEAR (R179): Clears the chatter fault of a pin. -/
  | axisSwitchClear (h : Hdr) (a : List Byte)
  /-- AXIS_DD_CONFIG (R162): Sets the direct-drive parameters of an axis. -/
  | axisDdConfig (h : Hdr) (a : List Byte)
  /-- AXIS_DD_PWM (R160): Sets PWM periods per tick for all units. -/
  | axisDdPwm (h : Hdr) (a : List Byte)
  /-- AXIS_DD_ALIGN (R166): Starts commutation alignment of a direct-drive axis. -/
  | axisDdAlign (h : Hdr) (a : List Byte)
  /-- AXIS_STATUS (R350): Returns an axis's mode, status, positions and marks. -/
  | axisStatus (h : Hdr) (a : List Byte)
  /-- SAFE_LOAD (R245): Passes two copies of a safety block to the Glume as the pending block. -/
  | safeLoad (h : Hdr) (a : List Byte)
  /-- SAFE_CONFIRM (R246): Confirms the pending safety block by CRC. -/
  | safeConfirm (h : Hdr) (a : List Byte)
  /-- SAFE_STATUS (R248): Returns Glume states, causes and block identity. -/
  | safeStatus (h : Hdr) (a : List Byte)
  /-- SAFE_COUNTERS (R248): Returns the Glume counters. -/
  | safeCounters (h : Hdr) (a : List Byte)
  /-- ZONE_DEFINE (R252): Defines or deletes a zone. -/
  | zoneDefine (h : Hdr) (a : List Byte)
  /-- ZONE_UNBLOCK (R268): Frees a BLOCKED zone. -/
  | zoneUnblock (h : Hdr) (a : List Byte)
  /-- ZONE_STATUS (R271): Returns ZONE_CRC and claim records. -/
  | zoneStatus (h : Hdr) (a : List Byte)
  /-- ZONE_COUNTERS (R272): Returns claim counters. -/
  | zoneCounters (h : Hdr) (a : List Byte)
  /-- JRNL_READ (R351): Returns journal records in sequence order. -/
  | jrnlRead (h : Hdr) (a : List Byte)
  /-- JRNL_MARK (R614): Writes host data as a MARK record. -/
  | jrnlMark (h : Hdr) (a : List Byte)
  /-- JRNL_COMMIT (R615): Commits the open journal page. -/
  | jrnlCommit (h : Hdr) (a : List Byte)
  /-- JRNL_STATUS (R623): Returns journal fill, wear and sequence figures. -/
  | jrnlStatus (h : Hdr) (a : List Byte)
  /-- DIAG_TICK_LOAD (R43): Returns the tick load record and sets the threshold. -/
  | diagTickLoad (h : Hdr) (a : List Byte)
  /-- DIAG_AXIS_LOOP (R130): Returns an axis's loop-state record. -/
  | diagAxisLoop (h : Hdr) (a : List Byte)
  /-- DIAG_AXIS_COUNTERS (R156): Returns an axis's counters. -/
  | diagAxisCounters (h : Hdr) (a : List Byte)
  /-- DIAG_TILLER (R156): Returns the Tiller engine report. -/
  | diagTiller (h : Hdr) (a : List Byte)
  /-- DIAG_BLOCKS (R600): Returns unusable blocks and memory figures. -/
  | diagBlocks (h : Hdr) (a : List Byte)
  /-- DIAG_TELEMETRY (R591): Starts, changes or stops the telemetry stream. -/
  | diagTelemetry (h : Hdr) (a : List Byte)
  /-- NET_PORT_CONFIG (R450): Writes a MAC's configuration registers. -/
  | netPortConfig (h : Hdr) (a : List Byte)
  /-- NET_DEFINE (R466): Defines or deletes a field network. -/
  | netDefine (h : Hdr) (a : List Byte)
  /-- NET_START (R352): Starts a network. -/
  | netStart (h : Hdr) (a : List Byte)
  /-- NET_STOP (R352): Stops a network. -/
  | netStop (h : Hdr) (a : List Byte)
  /-- NET_STATUS (R352): Returns a network's status. -/
  | netStatus (h : Hdr) (a : List Byte)
  /-- NET_SNAPSHOT (R445): Freezes a port's native counters into bank 0. -/
  | netSnapshot (h : Hdr) (a : List Byte)
  /-- NET_STATS (R447): Reads snapshot bank 0 or the compatibility window. -/
  | netStats (h : Hdr) (a : List Byte)
  /-- NET_ACYCLIC (R352): Sends an acyclic request to a field device. -/
  | netAcyclic (h : Hdr) (a : List Byte)
  /-- NET_MIRROR (R442): Configures a mirror session. -/
  | netMirror (h : Hdr) (a : List Byte)
  /-- NET_SCHEDULE (R431): Sets a gate control list on a port. -/
  | netSchedule (h : Hdr) (a : List Byte)
  /-- NET_CAN_CONFIG (R465): Sets a CAN FD controller's control and timing. -/
  | netCanConfig (h : Hdr) (a : List Byte)
  /-- LATHE_STORE (R360): Checks and writes an image into a store entry. -/
  | latheStore (h : Hdr) (a : List Byte)
  /-- LATHE_LOAD (R369): Loads an image into an engine's shadow bank. -/
  | latheLoad (h : Hdr) (a : List Byte)
  /-- LATHE_SWAP (R371): Schedules a hitless image swap at a target edge. -/
  | latheSwap (h : Hdr) (a : List Byte)
  /-- LATHE_STATUS (R377): Returns engine state and images. -/
  | latheStatus (h : Hdr) (a : List Byte)
  /-- LATHE_COUNTERS (R375): Returns engine counters. -/
  | latheCounters (h : Hdr) (a : List Byte)
  /-- LATHE_TELEMETRY (R376): Reads an engine's telemetry ring. -/
  | latheTelemetry (h : Hdr) (a : List Byte)
  /-- LATHE_ENROLL_KEY (R359): Returns the enrolment key or installs a customer key record. -/
  | latheEnrollKey (h : Hdr) (a : List Byte)
  /-- FAB_SET_KEY (R525): Sets the fabric key and returns its KCV. -/
  | fabSetKey (h : Hdr) (a : List Byte)
  /-- FAB_JOIN (R526): Joins or forms the fabric, or updates the cell map. -/
  | fabJoin (h : Hdr) (a : List Byte)
  /-- FAB_LEAVE (R529): Takes a member out of the fabric. -/
  | fabLeave (h : Hdr) (a : List Byte)
  /-- FAB_SCHEDULE (R542): Sets the fabric slot schedule table. -/
  | fabSchedule (h : Hdr) (a : List Byte)
  /-- FAB_STATUS (R534): Returns fabric status and counters. -/
  | fabStatus (h : Hdr) (a : List Byte)
  /-- FAB_ASSIGN_SHADOW (R274): Assigns a shadow and its dual-homed lines. -/
  | fabAssignShadow (h : Hdr) (a : List Byte)
  /-- FAB_RELEASE_SHADOW (R275): Ends a pair. -/
  | fabReleaseShadow (h : Hdr) (a : List Byte)
  /-- FAB_SWITCHOVER (R298): Swaps primary and shadow roles at a target edge. -/
  | fabSwitchover (h : Hdr) (a : List Byte)
  /-- FAB_SET_REPL_LEVEL (R299): Changes the pair's replication level. -/
  | fabSetReplLevel (h : Hdr) (a : List Byte)
  /-- FAB_PAIR_STATUS (R300): Returns the pair status record. -/
  | fabPairStatus (h : Hdr) (a : List Byte)
  /-- FAB_SLEEP (R554): Announces a sleep of named devices. -/
  | fabSleep (h : Hdr) (a : List Byte)
  /-- FAB_WAKE (R556): Sends a wake request to the cycle master. -/
  | fabWake (h : Hdr) (a : List Byte)
  /-- TIME_CONFIG (R492): Configures a time base servo and compare unit ownership. -/
  | timeConfig (h : Hdr) (a : List Byte)
  /-- TIME_STATUS (R491): Returns a time base's state and counters. -/
  | timeStatus (h : Hdr) (a : List Byte)
  /-- TIME_COMPARE (R497): Arms a host-owned compare unit. -/
  | timeCompare (h : Hdr) (a : List Byte)
  /-- TIME_CAPTURE (R500): Configures a capture pin. -/
  | timeCapture (h : Hdr) (a : List Byte)
  /-- TIME_SET (R489): Sets a time base at the commit edge. -/
  | timeSet (h : Hdr) (a : List Byte)
  /-- FW_LOAD (R629): Writes firmware into the inactive slot. -/
  | fwLoad (h : Hdr) (a : List Byte)
  /-- FW_ACTIVATE (R629): Sets TRIAL and restarts into the inactive slot. -/
  | fwActivate (h : Hdr) (a : List Byte)
  /-- FW_STATUS (R629): Returns both firmware slots' state. -/
  | fwStatus (h : Hdr) (a : List Byte)
  /-- LONG_COMMAND_COMPLETE (R339): A command with completion response finishes its work and its response is sent. -/
  | longCommandComplete (p tag detail : Nat) (data : List Byte)
  /-- SWITCH_CHATTER (R178): A chatter window's edge sum exceeds CHAT_N and the pin is marked faulty. -/
  | switchChatter (pin sum : Nat)
  /-- HOMING_SHIFT (R190): Once the axis stands after the home point, the shift is applied at the next edge. -/
  | homingShift (a : Nat)
  /-- HOME_NOT_FOUND (R187): A homing phase covers SEARCH_MAX without its transition. -/
  | homeNotFound (a : Nat)
  /-- HOME_NO_INDEX (R188): The creep covers INDEX_WIN without a qualifying capture. -/
  | homeNoIndex (a : Nat)
  /-- JOG_TIMEOUT (R194): No AXIS.JOG within KEEPALIVE and the jog stops. -/
  | jogTimeout (a : Nat)
  /-- BRAKE_OPEN_WAIT (R171): BRK_OPEN_TICKS after an enable, motion may start. -/
  | brakeOpenWait (a : Nat)
  /-- BRAKE_CLOSE_WAIT (R172): BRK_CLOSE_TICKS after a disable request, DISABLED takes effect and pins idle. -/
  | brakeCloseWait (a : Nat)
  /-- DD_ALIGN_COMPLETE (R166): After ALIGN_TICKS the offset is set and the pins return to idle. -/
  | ddAlignComplete (a : Nat)
  /-- CONVERSION_COMPLETE (R167): One conversion ends and its result is held for the next snapshot. -/
  | conversionComplete (c i code : Nat)
  /-- MBX_DATA_WRITE (R304): A local sender writes a channel word. -/
  | mbxDataWrite (m : Nat) (ch : Nat) (w : Word)
  /-- MBX_DATA_READ (R305): A receiver reads a channel word, acknowledging it. -/
  | mbxDataRead (m : Nat) (ch : Nat)
  /-- REMOTE_WORD (R306): A remote mailbox word arrives from the fabric. -/
  | remoteWord (node : Nat) (ch : Nat) (w : Word)
  /-- RECEIVER_DOMAIN_UP (R311): A woken receiver's power domain is running. -/
  | receiverDomainUp (m : Nat)
  /-- MBX_LOCK_READ (R308): A read of a lock acquires it when free. -/
  | mbxLockRead (m : Nat) (k : Nat)
  /-- MBX_LOCK_WRITE (R309): A write to a lock frees it, by owner or by force. -/
  | mbxLockWrite (m : Nat) (k : Nat) (w : Word)
  /-- MBX_DB_PEND_WRITE (R312): The receiver clears doorbell bits. -/
  | mbxDbPendWrite (m : Nat) (w : Word)
  /-- MBX_DB_ENABLE_WRITE (R313): Sets doorbell enables and may signal an interrupt. -/
  | mbxDbEnableWrite (m : Nat) (w : Word)
  /-- MBX_DB_RING_WRITE (R314): Rings a doorbell bit of another master. -/
  | mbxDbRingWrite (m : Nat) (w : Word)
  /-- MBX_EVCNT_READ (R315): Reads and clears a channel's event counters. -/
  | mbxEvcntRead (m : Nat) (ch : Nat)
  /-- MBX_DB_EVCNT_READ (R315): Reads and clears doorbell event counters. -/
  | mbxDbEvcntRead (m : Nat) (j : Nat)
  /-- MBX_BIND_WRITE (R302): Sheaf core 0 writes a channel binding before the lock. -/
  | mbxBindWrite (m : Nat) (ch : Nat) (w : Word)
  /-- MBX_BIND_LOCK_WRITE (R302): Locks every binding and channel control until reset. -/
  | mbxBindLockWrite (m : Nat) (w : Word)
  /-- HOST_GTC_LO_READ (R321): Latches GTC, tick count and offset for the port. -/
  | hostGtcLoRead (p : Nat)
  /-- HOST_ACCESS_ERR_READ (R320): Reads and clears the port's refused-access count. -/
  | hostAccessErrRead (p : Nat)
  /-- HOST_PORT_RESET (R319): A host port reset clears its channels, doorbells and locks, and the Sheaf ends its commands. -/
  | hostPortReset (p : Nat)
  /-- HOST_RESET_END (R340): When the port reset ends, the bank CREDIT words are posted. -/
  | hostResetEnd (p : Nat)
  /-- QSPI_WRITE (R655): A QSPI write transaction to registers or pool. -/
  | qspiWrite (addr : Nat) (ws : List Word)
  /-- QSPI_READ (R655): A QSPI read transaction from registers or pool. -/
  | qspiRead (addr n : Nat)
  /-- LATHE_RECEIVE_ENTRY (R364): A Lathe enters its receive level for a frame, message or request. -/
  | latheReceiveEntry (e : Nat)
  /-- LTH_POST_WRITE (R366): Posts a staged input slot into the snapshot. -/
  | lthPostWrite (e : Nat) (w : Word)
  /-- LTH_TELEM_WRITE (R376): Emits a telemetry record into the engine ring. -/
  | lthTelemWrite (e : Nat) (w : Word)
  /-- LATHE_INIT_START (R370): An engine without image runs its loaded image from the edge after load. -/
  | latheInitStart (e : Nat)
  /-- LATHE_SWAP_EXECUTE (R371): At the post deadline of tick s the banks swap and init starts. -/
  | latheSwapExecute (e : Nat)
  /-- MIGRATION_END (R372): Migration ends, held frames are delivered and background starts. -/
  | migrationEnd (e : Nat)
  /-- LATHE_RESTART (R379): An engine restarts its image after a fatal error. -/
  | latheRestart (e : Nat)
  /-- BACKGROUND_WATCHDOG (R379): A background level without boundary for 10 ms restarts the engine. -/
  | backgroundWatchdog (e : Nat)
  /-- NOP (R395): Does nothing. -/
  | lthNop (e : Nat) (p : List Byte)
  /-- END (R395): Ends the present phase or receive entry. -/
  | lthEnd (e : Nat) (p : List Byte)
  /-- IDLE (R395): Background waits until the next entry ends. -/
  | lthIdle (e : Nat) (p : List Byte)
  /-- RETX (R401): Returns from an exception handler. -/
  | lthRetx (e : Nat) (p : List Byte)
  /-- TRAP (R395): Takes exception TRAP. -/
  | lthTrap (e : Nat) (p : List Byte) (b : Byte)
  /-- MOV (R395): Copies a register. -/
  | lthMov (e : Nat) (p : List Byte) (m : Byte)
  /-- MOVI (R395): Loads an immediate. -/
  | lthMovi (e : Nat) (p : List Byte) (m : Byte) (i : Nat)
  /-- ADD (R395): Adds a register. -/
  | lthAdd (e : Nat) (p : List Byte) (m : Byte)
  /-- ADDI (R395): Adds an immediate. -/
  | lthAddi (e : Nat) (p : List Byte) (m : Byte) (i : Nat)
  /-- ADC (R395): Adds with carry. -/
  | lthAdc (e : Nat) (p : List Byte) (m : Byte)
  /-- SUB (R395): Subtracts a register. -/
  | lthSub (e : Nat) (p : List Byte) (m : Byte)
  /-- SUBI (R395): Subtracts an immediate. -/
  | lthSubi (e : Nat) (p : List Byte) (m : Byte) (i : Nat)
  /-- SBC (R395): Subtracts with borrow. -/
  | lthSbc (e : Nat) (p : List Byte) (m : Byte)
  /-- CMP (R395): Compares registers. -/
  | lthCmp (e : Nat) (p : List Byte) (m : Byte)
  /-- CMPI (R395): Compares with an immediate. -/
  | lthCmpi (e : Nat) (p : List Byte) (m : Byte) (i : Nat)
  /-- AND (R395): Bitwise AND with a register. -/
  | lthAnd (e : Nat) (p : List Byte) (m : Byte)
  /-- ANDI (R395): Bitwise AND with an immediate. -/
  | lthAndi (e : Nat) (p : List Byte) (m : Byte) (i : Nat)
  /-- OR (R395): Bitwise OR with a register. -/
  | lthOr (e : Nat) (p : List Byte) (m : Byte)
  /-- ORI (R395): Bitwise OR with an immediate. -/
  | lthOri (e : Nat) (p : List Byte) (m : Byte) (i : Nat)
  /-- XOR (R395): Bitwise XOR with a register. -/
  | lthXor (e : Nat) (p : List Byte) (m : Byte)
  /-- XORI (R395): Bitwise XOR with an immediate. -/
  | lthXori (e : Nat) (p : List Byte) (m : Byte) (i : Nat)
  /-- TST (R395): Tests bits against a register. -/
  | lthTst (e : Nat) (p : List Byte) (m : Byte)
  /-- TSTI (R395): Tests bits against an immediate. -/
  | lthTsti (e : Nat) (p : List Byte) (m : Byte) (i : Nat)
  /-- SHL (R393): Shifts left by a register count. -/
  | lthShl (e : Nat) (p : List Byte) (m : Byte)
  /-- SHLI (R393): Shifts left by an immediate count. -/
  | lthShli (e : Nat) (p : List Byte) (m b : Byte)
  /-- SHR (R393): Shifts right with zero fill by a register count. -/
  | lthShr (e : Nat) (p : List Byte) (m : Byte)
  /-- SHRI (R393): Shifts right with zero fill by an immediate count. -/
  | lthShri (e : Nat) (p : List Byte) (m b : Byte)
  /-- SAR (R393): Shifts right with sign fill by a register count. -/
  | lthSar (e : Nat) (p : List Byte) (m : Byte)
  /-- SARI (R393): Shifts right with sign fill by an immediate count. -/
  | lthSari (e : Nat) (p : List Byte) (m b : Byte)
  /-- ROL (R393): Rotates left by a register count. -/
  | lthRol (e : Nat) (p : List Byte) (m : Byte)
  /-- ROLI (R393): Rotates left by an immediate count. -/
  | lthRoli (e : Nat) (p : List Byte) (m b : Byte)
  /-- NOT (R395): Inverts a register. -/
  | lthNot (e : Nat) (p : List Byte) (m : Byte)
  /-- NEG (R395): Negates a register. -/
  | lthNeg (e : Nat) (p : List Byte) (m : Byte)
  /-- MUL (R395): Multiplies by a register. -/
  | lthMul (e : Nat) (p : List Byte) (m : Byte)
  /-- MULI (R395): Multiplies by an immediate. -/
  | lthMuli (e : Nat) (p : List Byte) (m : Byte) (i : Nat)
  /-- BSWAP (R395): Reverses the octets of a register. -/
  | lthBswap (e : Nat) (p : List Byte) (m : Byte)
  /-- EXT (R395): Extracts a bit field. -/
  | lthExt (e : Nat) (p : List Byte) (m pos wid : Byte)
  /-- BTST (R395): Tests a bit. -/
  | lthBtst (e : Nat) (p : List Byte) (m b : Byte)
  /-- BSET (R395): Sets a bit. -/
  | lthBset (e : Nat) (p : List Byte) (m b : Byte)
  /-- BCLR (R395): Clears a bit. -/
  | lthBclr (e : Nat) (p : List Byte) (m b : Byte)
  /-- LD (R389): Loads from memory, zero-extended, with load delay. -/
  | lthLd (e : Nat) (p : List Byte) (m a : Byte) (disp : Nat)
  /-- LDS (R389): Loads from memory, sign-extended, with load delay. -/
  | lthLds (e : Nat) (p : List Byte) (m a : Byte) (disp : Nat)
  /-- ST (R395): Stores a register to memory. -/
  | lthSt (e : Nat) (p : List Byte) (m a : Byte) (disp : Nat)
  /-- LEA (R395): Loads an effective address. -/
  | lthLea (e : Nat) (p : List Byte) (m a : Byte) (disp : Nat)
  /-- XCHG (R395): Exchanges register and memory indivisibly. -/
  | lthXchg (e : Nat) (p : List Byte) (m a : Byte) (disp : Nat)
  /-- CAS (R395): Compares and swaps memory indivisibly. -/
  | lthCas (e : Nat) (p : List Byte) (m x : Byte)
  /-- STI (R395): Stores an immediate to memory. -/
  | lthSti (e : Nat) (p : List Byte) (m a : Byte) (disp i : Nat)
  /-- PUSH (R395): Pushes a register on the stack. -/
  | lthPush (e : Nat) (p : List Byte) (m : Byte)
  /-- POP (R395): Pops a register from the stack. -/
  | lthPop (e : Nat) (p : List Byte) (m : Byte)
  /-- BCC_REL8 (R396): Conditional branch with 8-bit displacement. -/
  | lthBccRel8 (e : Nat) (p : List Byte) (cc : Nat) (d : Byte)
  /-- BCC_REL16 (R396): Conditional branch with 16-bit displacement. -/
  | lthBccRel16 (e : Nat) (p : List Byte) (cc : Nat) (d : BitVec 16)
  /-- JMP (R395): Jumps to a register address. -/
  | lthJmp (e : Nat) (p : List Byte) (m : Byte)
  /-- JMPA (R395): Jumps to an absolute address. -/
  | lthJmpa (e : Nat) (p : List Byte) (a : Word)
  /-- CALL (R397): Calls a relative target saving masked registers. -/
  | lthCall (e : Nat) (p : List Byte) (d mask : BitVec 16)
  /-- CALLR (R397): Calls a register target saving masked registers. -/
  | lthCallr (e : Nat) (p : List Byte) (m : Byte) (mask : BitVec 16)
  /-- RET (R397): Returns and restores masked registers. -/
  | lthRet (e : Nat) (p : List Byte) (mask : BitVec 16)
  /-- BLK_COPY (R398): Copies elements from g14 to g15. -/
  | lthBlkCopy (e : Nat) (p : List Byte) (b : Byte) (more : Nat)
  /-- BLK_FILL (R398): Fills elements at g15 with a register. -/
  | lthBlkFill (e : Nat) (p : List Byte) (b m : Byte) (more : Nat)
  /-- BLK_MATCH (R398): Compares elements at g14 and g15. -/
  | lthBlkMatch (e : Nat) (p : List Byte) (b : Byte) (more : Nat)
  /-- BLK_SEEK (R398): Scans elements at g15 for a register value. -/
  | lthBlkSeek (e : Nat) (p : List Byte) (b m : Byte) (more : Nat)
  /-- BLK_GATHER (R398): Loads one element from g14. -/
  | lthBlkGather (e : Nat) (p : List Byte) (b m : Byte)
  /-- PAUSE (R409): Chisel engine waits N cycles. -/
  | chsPause (k : Nat) (n : Nat)
  /-- PINS (R409): Chisel engine sets window pins, drive enables or enable outputs. -/
  | chsPins (k : Nat) (value : Nat) (mask : Nat) (tgt : Nat)
  /-- EMIT (R411): Chisel engine sends bits of SH to a pin, optionally duplex. -/
  | chsEmit (k : Nat) (n : Nat) (w : Nat) (duplex : Bool) (ins : List Bool)
  /-- SAMPLE (R411): Chisel engine samples a pin into SH. -/
  | chsSample (k : Nat) (n : Nat) (w : Nat) (ins : List Bool)
  /-- BRANCH (R410): Chisel engine branches on a condition. -/
  | chsBranch (k : Nat) (cond : Nat) (w : Nat) (target : Nat) (lvl : Bool)
  /-- AWAIT (R412): Chisel engine holds until a pin or sync flag matches. -/
  | chsAwait (k : Nat) (level : Bool) (src : Nat) (idx : Nat) (lvl : Bool)
  /-- AWAIT_TIMEOUT (R412): C1 reaches zero in a timed AWAIT and TIMEOUT is set. -/
  | chsAwaitTimeout (k : Nat)
  /-- COPY (R412): Chisel engine copies a source to a destination. -/
  | chsCopy (k : Nat) (dst : Nat) (src : Nat) (op : Nat) (lvls : Nat)
  /-- DATA (R412): Chisel engine stores SH to DOUT or fetches from DIN. -/
  | chsData (k : Nat) (fetch : Bool) (whole : Bool)
  /-- LOAD (R409): Chisel engine loads a counter. -/
  | chsLoad (k : Nat) (one : Bool) (value : Nat)
  /-- SIGNAL (R413): Chisel engine raises a Lathe flag or sets or clears a sync flag. -/
  | chsSignal (k : Nat) (op : Nat) (idx : Nat)
  /-- CHISEL_FIFO_RESUME (R412): A held engine continues once the Lathe reads DOUT or writes DIN. -/
  | chiselFifoResume (k : Nat) (ins : List Bool)
  /-- CHISEL_START (R414): A start event restarts the named engines, swapping the store when pending. -/
  | chiselStart (g : Nat) (mask : Nat) (clr : Bool)
  /-- CHISEL_CLOCK_RESTART (R416): Resets only the phase accumulators of named engines. -/
  | chiselClockRestart (g : Nat) (mask : Nat)
  /-- CHISEL_STOP (R415): Stops named engines, discarding any shift. -/
  | chiselStop (g : Nat) (mask : Nat)
  /-- CHS_CTRL_WRITE (R407): Sets group enables, swap and trigger; clearing EN stops engines. -/
  | chsCtrlWrite (g : Nat) (w : Word)
  /-- CHS_STORE_WRITE (R408): Writes a shadow program word unless a swap is pending. -/
  | chsStoreWrite (g : Nat) (a : Nat) (w : Word)
  /-- CHS_E_DIN_WRITE (R412): Pushes a word into an engine's DIN. -/
  | chsEDinWrite (k : Nat) (w : Word)
  /-- CHS_E_DOUT_READ (R412): Pops a word from an engine's DOUT. -/
  | chsEDoutRead (k : Nat)
  /-- CHS_GCNT_READ (R8): Reads and clears group counters. -/
  | chsGcntRead (g : Nat)
  /-- CHS_E_CNT_READ (R8): Reads and clears engine counters. -/
  | chsECntRead (k : Nat)
  /-- FRAME_RECEIVE (R422): A MAC receives a frame and checks, filters, classes and stores it. -/
  | frameReceive (p : Nat) (octs : List Byte) (code : Bool) (frag : RxFrag) (first : Nat)
  /-- PAUSE_REFRESH (R436): Half the pause time elapses while pausing and the pause frame is repeated. -/
  | pauseRefresh (p : Nat)
  /-- FRAME_TRANSMIT_START (R435): An egress port starts the head frame of the highest eligible class. -/
  | frameTransmitStart (p : Nat) (sent : Nat)
  /-- FRAME_TRANSMIT_END (R439): A frame completes at a port and its cells free after the last port. -/
  | frameTransmitEnd (p : Nat)
  /-- TX_DESCRIPTOR_TAKE (R434): The switch takes a waiting ring descriptor once credits and cells allow. -/
  | txDescriptorTake (e : Nat)
  /-- RX_RING_DELIVER (R437): A frame for an internal egress is written into the next posted buffer. -/
  | rxRingDeliver (e : Nat)
  /-- DEADLINE_WITHDRAW (R438): A frame not started by its deadline is withdrawn and counted. -/
  | deadlineWithdraw (p : Nat)
  /-- LINK_DOWN (R440): An Ethernet link goes down and the port enters DOWN_HOLD. -/
  | linkDown (p : Nat)
  /-- LINK_UP (R441): An Ethernet link comes up and queued frames are sent. -/
  | linkUp (p : Nat) (speed : Nat) (full : Bool)
  /-- HOLD_EXPIRY (R440): The hold window passes and the port's queue is flushed. -/
  | holdExpiry (p : Nat)
  /-- PREEMPT_VERIFY (R428): A verify packet attempt of IEEE 802.3br is made or judged. -/
  | preemptVerify (p : Nat) (what : VerifyStep)
  /-- GATE_LIST_ACTIVATE (R432): A new gate list takes effect at its cycle instant. -/
  | gateListActivate (p : Nat)
  /-- GATE_CHANGE (R432): A gate-list interval ends and gate states change. -/
  | gateChange (p : Nat)
  /-- BUFFER_AUDIT (R444): The switch audits every cell for leaks and double holds. -/
  | bufferAudit (leaked : List Nat) (twice : List Nat) (freed : List Nat)
  /-- SW_TXR_IDX_WRITE (R451): A Lathe advances its transmit ring HEAD. -/
  | swTxrIdxWrite (e : Nat) (w : Word)
  /-- SW_RXR_IDX_WRITE (R451): A Lathe posts receive buffers by advancing HEAD. -/
  | swRxrIdxWrite (e : Nat) (w : Word)
  /-- MAC_SNAP_WRITE (R445): Takes a snapshot of a port's counters into bank 1. -/
  | macSnapWrite (m : Nat) (n : Nat) (w : Word)
  /-- NRW_COUNTER_READ (R448): Reads and clears a compatibility counter. -/
  | nrwCounterRead (n : Nat) (j : Nat)
  /-- SW_AUDIT_READ (R444): Reads and clears the LEAKS and DOUBLES counts. -/
  | swAuditRead
  /-- CAN_FRAME_RECEIVE (R456): A valid CAN frame is filtered into a buffer or the FIFO. -/
  | canFrameReceive (n : Nat) (own : Bool) (f : CanFrame)
  /-- CAN_PROTOCOL_EXCEPTION (R457): An unsupported frame format makes the controller wait for integration. -/
  | canProtocolException (n : Nat)
  /-- CAN_INTEGRATION_END (R457): Eleven recessive bits end the protocol exception wait. -/
  | canIntegrationEnd (n : Nat)
  /-- CAN_TX_LOAD (R460): OP 0 loads a transmit buffer from staging. -/
  | canTxLoad (n : Nat) (b : Nat)
  /-- CAN_TX_CANCEL (R462): OP 1 cancels a transmit buffer. -/
  | canTxCancel (n : Nat) (b : Nat)
  /-- CAN_TX_RELEASE (R460): OP 2 releases a finished buffer to EMPTY. -/
  | canTxRelease (n : Nat) (b : Nat)
  /-- CAN_BUSOFF_RECOVERY_START (R463): OP 3 starts bus-off recovery. -/
  | canBusoffRecoveryStart (n : Nat)
  /-- CAN_RX_FETCH_WRITE (R459): Copies a buffer or the FIFO head into the read view. -/
  | canRxFetchWrite (n : Nat) (v : Nat)
  /-- CAN_TX_CHOICE (R460): At intermission the controller chooses the pending buffer to offer. -/
  | canTxChoice (n : Nat)
  /-- CAN_ATTEMPT_END (R461): A transmit attempt succeeds, loses arbitration or errors. -/
  | canAttemptEnd (n : Nat) (r : CanEnd)
  /-- CAN_RECOVERY_END (R463): 128 recessive idle sequences end bus-off recovery. -/
  | canRecoveryEnd (n : Nat)
  /-- CAN_CNT0_READ (R8): Reads and clears CAN counters of CAN_CNT0. -/
  | canCnt0Read (n : Nat)
  /-- CAN_CNT1_READ (R8): Reads and clears CAN counters of CAN_CNT1. -/
  | canCnt1Read (n : Nat)
  /-- TB_OFS_WRITE (R490): An offset sample runs the time-base servo. -/
  | tbOfsWrite (m : Nat) (n : Nat) (o : Word)
  /-- TB_NS_READ (R488): Latches a time base for the reading master. -/
  | tbNsRead (m : Nat) (n : Nat)
  /-- TB_CONV_HI_WRITE (R494): Starts converting a GTC stamp into a base's time. -/
  | tbConvHiWrite (m : Nat) (n : Nat) (w : Word)
  /-- HOLDOVER_TIMEOUT (R491): No offset sample for HOLDOVER_MS puts the base in holdover. -/
  | holdoverTimeout (n : Nat)
  /-- COMPARE_MATCH (R496): A compare unit matches and acts on its consumers. -/
  | compareMatch (u : Nat)
  /-- CMP_TARGET_WRITE (R496): Arms a compare unit with a new target. -/
  | cmpTargetWrite (m : Nat) (u : Nat) (w : Word)
  /-- CAPTURE_EDGE (R500): A filtered edge on a capture pin is stamped into its FIFO. -/
  | captureEdge (p : Nat) (rising : Bool) (stamp : Nat)
  /-- CAP_HI_READ (R500): Reads and pops the head capture stamp. -/
  | capHiRead (p : Nat)
  /-- TB_STATUS_READ (R8): Reads and clears time-base RC counters. -/
  | tbStatusRead (n : Nat)
  /-- CMP_STATUS_READ (R8): Reads and clears a compare unit's late count. -/
  | cmpStatusRead (u : Nat)
  /-- CAP_STATUS_READ (R8): Reads and clears a capture pin's overflow count. -/
  | capStatusRead (p : Nat)
  /-- FABRIC_FRAME_RECEIVE (R510): A fabric port receives a frame, checks it and accepts the first copy. -/
  | fabricFrameReceive (p : Nat) (f : FabFrame) (stamp : Nat)
  /-- FABRIC_LINK_UP (R506): A fabric port's link comes up after 1 ms of block lock. -/
  | fabricLinkUp (p : Nat)
  /-- FABRIC_LINK_DOWN (R506): A fabric port loses block lock or hits hi_ber. -/
  | fabricLinkDown (p : Nat) (hiBer : Bool)
  /-- SLOT_WINDOW_OPEN (R545): A guardian window opens and the device inserts its slot frame. -/
  | slotWindowOpen (i : Nat) (early : Bool)
  /-- SLOT_WINDOW_CLOSE (R548): A slot window closes; frames still running are cut. -/
  | slotWindowClose (i : Nat) (cut : Bool)
  /-- CYCLE_FRAME_MISSING (R550): A cycle without CYCLE frame extrapolates or closes windows. -/
  | cycleFrameMissing
  /-- CYCLE_MASTER_DEPARTED (R537): Two cycles without the master's CYCLE frame elect a new cycle master. -/
  | cycleMasterDeparted
  /-- ANNOUNCE_SEND (R518): A member sends its ANNOUNCE record. -/
  | announceSend
  /-- BULK_SEGMENT_RECEIVE (R531): A BULK segment is received and acknowledged. -/
  | bulkSegmentReceive (peer xfer ofs total len : Nat) (done : BulkEnd)
  /-- BULK_ACK_RECEIVE (R531): A BULK_ACK frees acknowledged segments. -/
  | bulkAckReceive (peer xfer acked : Nat)
  /-- BULK_RESEND (R531): A segment unacknowledged for 4 cycles is resent, failing at the 16th. -/
  | bulkResend (peer xfer : Nat)
  /-- JOIN_J1_RECEIVE (R527): The cycle master receives a joiner's J1 and assigns a node ID. -/
  | joinJ1Receive (port uid : Nat) (req strap kept : Option Nat) (rings : Nat) (far : Bool) (nj : List Byte)
  /-- JOIN_J2_RECEIVE (R527): The joiner verifies MAC_M and sends J3. -/
  | joinJ2Receive (uid node : Nat) (nm mac : List Byte) (epoch : Nat)
  /-- JOIN_J3_RECEIVE (R527): The cycle master verifies MAC_J and sends J4. -/
  | joinJ3Receive (uid : Nat) (mac : List Byte)
  /-- JOIN_J4_RECEIVE (R527): The joiner learns the join result. -/
  | joinJ4Receive (uid node result : Nat)
  /-- JOIN_J1_REPEAT (R527): A joiner repeats J1 after 8 cycles. -/
  | joinJ1Repeat
  /-- JOIN_TRANSFER_COMPLETE (R528): The joiner takes the transferred state and becomes LISTEN. -/
  | joinTransferComplete (x : JoinXfer)
  /-- COLD_START_TIMEOUT (R551): 200 ms without cycle frames starts a cold start or fails the join. -/
  | coldStartTimeout
  /-- COLD_START_JUDGE (R552): After 70 µs of listening the cold-start attempt is judged. -/
  | coldStartJudge
  /-- COLD_START_BACKOFF_END (R552): The back-off ends and the attempt repeats. -/
  | coldStartBackoffEnd
  /-- CYCLE_START_AFTER_COLD (R553): The new cycle master starts CYCLE frames 1 ms after success. -/
  | cycleStartAfterCold
  /-- FORWARDING_SLOT_MISS (R283): The primary's forwarding slot is empty and the shadow counts a miss. -/
  | forwardingSlotMiss
  /-- ECHO_MISS (R284): A primary missing its own echo twice fences itself. -/
  | echoMiss
  /-- FILL_FRAME (R285): A suspecting shadow starts a fill frame at W. -/
  | fillFrame (line : Nat)
  /-- TAKEOVER (R287): The shadow becomes primary at the takeover edge. -/
  | takeover
  /-- SHADOW_SYNCED (R297): After 64 agreeing ticks the joiner becomes SHADOW. -/
  | shadowSynced
  /-- SHADOW_SYNC_TIMEOUT (R297): 60 s without sync ends FAB.ASSIGN_SHADOW with NOT_SYNCED. -/
  | shadowSyncTimeout
  /-- SLEEP_POINT_OF_NO_RETURN (R556): Edge N+8 is reached and a wake can no longer cancel the sleep. -/
  | sleepPointOfNoReturn
  /-- SLEEP_ENTRY (R557): At edge N+9 named devices stop inserting and power down. -/
  | sleepEntry
  /-- SLEEP_ENTRY_COMPLETE (R558): A device's sleep entry completes and a latched wake acts. -/
  | sleepEntryComplete
  /-- FAILSAFE_SLEEP (R557): Ports unsignalled 20 ms after the edge enter sleep on their own. -/
  | failsafeSleep
  /-- WAKE_REQUEST (R556): The cycle master receives a wake request and cancels or latches it. -/
  | wakeRequest (node reason : Nat)
  /-- FWAKE_DRIVE (R558): A latch still held at N+9+20 ms drives FWAKE_N low. -/
  | fwakeDrive
  /-- SLEEPING_DEVICE_WAKE (R559): A sleeping device wakes on FWAKE_N, host access or safe input. -/
  | sleepingDeviceWake (src : Nat)
  /-- FALSE_WAKE (R560): No fabric frame within 50 ms of waking. -/
  | falseWake
  /-- POOL_ACCESS (R565): A port accesses the bank pool, checked against ownership. -/
  | poolAccess (port : Nat) (act : Nat) (op : PoolOp) (ofs : Nat)
  /-- POOL_OWNER_WRITE (R567): An ownership write sets PENDING for a bank. -/
  | poolOwnerWrite (m : Nat) (b : Nat) (w : Word)
  /-- POOL_HANDOVER_COMPLETE (R567): The last issued access completes and the new owner takes over. -/
  | poolHandoverComplete (b : Nat)
  /-- POOL_ECC_READ (R8): Reads and clears a bank's event counters. -/
  | poolEccRead (b : Nat)
  /-- CHK_RUN_WRITE (R578): Writes RUNNING or FOLD between messages, ignored while busy. -/
  | chkRunWrite (n : Nat) (fold : Bool) (w : Word)
  /-- CHK_CNT_READ (R8): Reads and clears check unit counters. -/
  | chkCntRead (n : Nat)
  /-- SCRUB_BURST (R582): The Winnower scrubs one 64-octet burst of a memory. -/
  | scrubBurst (mem : Nat) (errs : List (Nat × Bool × Option Nat))
  /-- SCRUB_LATE (R582): A scrub pass incomplete after 600 s is counted. -/
  | scrubLate (mem : Nat)
  /-- CONVERTER_CALIBRATION (R586): Every 10 s a converter is recalibrated. -/
  | converterCalibration (c : Nat) (ofs : Int) (gain : Nat) (off : Bool)
  /-- PWM_TUNING (R587): Every 1 s each PWM unit's tap delay is measured and tuned. -/
  | pwmTuning (u : Nat) (tap : Nat) (ok : Bool)
  /-- WEAR_LEVEL_MOVE (R589): The Winnower moves a tier-2 sector whose count trails. -/
  | wearLevelMove (sector : Nat)
  /-- NV_RATE_CHECK (R590): The 24-hour tier-2 write rate starts or ends deferral. -/
  | nvRateCheck (past : Nat)
  /-- ARCHIVE_COPY (R620): A closed tier-1 page is copied to the archive. -/
  | archiveCopy (evict : Option (Nat × Nat))
  /-- TELEMETRY_DATAGRAM (R592): A telemetry datagram with waiting records is sent. -/
  | telemetryDatagram
  /-- SELF_TEST_SLICE (R595): An in-service self-test slice runs on one block region. -/
  | selfTestSlice (b : Nat) (ok : Bool)
  /-- SPARE_TEST_SLICE (R598): One slice of the spare Tiller's logic self-test runs. -/
  | spareTestSlice (ok : Bool)
  /-- EYE_MONITOR (R596): Each live SerDes lane's eye is checked. -/
  | eyeMonitor (lane : Nat) (ok : Bool)
  /-- LOOPBACK_TEST (R597): An idle lane runs PRBS31 loop-back for 100 µs. -/
  | loopbackTest (lane : Nat) (ok : Bool)
  /-- TEMPERATURE_SAMPLE (R663): The Winnower samples the junction temperature. -/
  | temperatureSample (tj : Int)
  /-- POWER_ON_RESET (R605): Rails in range for 1 ms with RST_N high release reset. -/
  | powerOnReset (strap : Option Nat)
  /-- RST_N_LOW (R608): RST_N low for 1 µs resets the device. -/
  | rstNLow
  /-- RAIL_RESET_THRESHOLD (R606): A rail below its reset threshold resets the device. -/
  | railResetThreshold (rail : Nat)
  /-- PFW_N_ASSERT (R609): PFW_N low for 2 µs inhibits non-volatile writes. -/
  | pfwNAssert
  /-- RAIL_INHIBIT_THRESHOLD (R609): VDD_CORE or VDDIO_33 below its inhibit level inhibits writes. -/
  | railInhibitThreshold (core : Bool)
  /-- INHIBIT_RELEASE (R611): 10 ms clear of inhibit conditions ends the inhibit. -/
  | inhibitRelease
  /-- JOURNAL_COMMIT (R615): The open journal page is committed at the K-th tick edge. -/
  | journalCommit
  /-- BOOT_WATCHDOG (R628): Stage 7 not ended 30 s after reset resets the device. -/
  | bootWatchdog
  /-- BOOT_SLOT_CHOICE (R627): The boot ROM chooses and runs a firmware slot. -/
  | bootSlotChoice
  /-- STARTUP_SELF_TEST (R633): Stage 3 tests each block in isolation. -/
  | startupSelfTest (failed : List Nat) (pool : Bool)
  /-- GLUME_STARTUP (R632): The Glume reads its block and is ready. -/
  | glumeStartup
  /-- STARTUP_IMAGE_LOAD (R631): Stage 5 loads images, starts networks and waits for lock. -/
  | startupImageLoad (locked : List Nat)
  /-- STARTUP_FABRIC_JOIN (R631): Stage 6 joins the fabric as listener. -/
  | startupFabricJoin
  /-- STARTUP_CONFIG_RESTORE (R634): Stage 7 restores configuration, enters the cell state and raises READY. -/
  | startupConfigRestore
  /-- RECOVER_WORD (R630): In RECOVER the ROM checks the posted image and writes slot A. -/
  | recoverWord (ch : Nat)
  /-- TAP_RESET (R664): The TAP enters Test-Logic-Reset. -/
  | tapReset
  /-- EXTEST (R665): Boundary scan drives the pins from the register. -/
  | tapExtest
  /-- IDCODE (R666): Selects the identification register. -/
  | tapIdcode
  /-- SAMPLE_PRELOAD (R665): Captures pins without taking them. -/
  | tapSamplePreload (preload : Nat)
  /-- CLAMP (R665): Takes the pins with bypass selected. -/
  | tapClamp
  /-- HIGHZ (R665): Takes the pins to high impedance. -/
  | tapHighz
  /-- EXTEST_PULSE (R667): AC-coupled SerDes test with pulses. -/
  | tapExtestPulse
  /-- EXTEST_TRAIN (R667): AC-coupled SerDes test with toggling trains. -/
  | tapExtestTrain
  /-- BYPASS (R665): Selects the bypass register. -/
  | tapBypass
  /-- PIN_CONTROL_TAKEOVER (R668): 20 µs after Update-IR the instruction takes the pins. -/
  | tapPinControlTakeover
  /-- REGISTER_WRITE (R5): A write to a register without behaviour of its own acts by its access codes. -/
  | registerWrite (m addr : Nat) (w : Word)
  /-- PAUSE_TIME_EXPIRY (R436): The pause time stated by a received flow control or PAUSE frame runs out and the paused egress class may send again. -/
  | pauseTimeExpiry (p : Nat) (classes : Nat)
  /-- PLL_LOCK_LOSS (R602): The lock monitor finds a core, SerDes or PWM PLL out of lock, a device fault when it is a core PLL, which restarts the device. -/
  | pllLockLoss (pll : Nat)
  /-- AWAIT_MATCH (R412): A Chisel engine holding in AWAIT on a window pin finds the pin at LEVEL and goes on to the next word. -/
  | awaitMatch (k : Nat) (waited : Nat)
  /-- FWAKE_N_ASSERT (R556): The filter reports FWAKE_N held low for 50 µs, giving a wake request or a wake latched in the always-on domain of an awake named device. -/
  | fwakeNAssert
  /-- CAN_RECEIVE_ERROR (R463): The controller detects an error while receiving another node's frame, raises REC and may change its error state. -/
  | canReceiveError (n : Nat) (kind : Nat) (heavy : Bool)
  /-- NOR_OPERATION_COMPLETE (R619): A NOR page program, verify or sector erase ends, with success or with the device recorded as failed in NOR_OK. -/
  | norOperationComplete (dev : Nat) (op : Nat) (sector : Nat) (ok : Bool)
  /-- SW_TXR_CRED_READ (R451): A Lathe reads SW_TXR_CRED, which clears the RC field RING_FAULT. -/
  | swTxrCredRead (e : Nat)
  /-- SW_RXR_IDX_READ (R437): A Lathe reads SW_RXR_IDX, which clears the RC field RX_TRUNC. -/
  | swRxrIdxRead (e : Nat)
  /-- TS_INS_CFG_READ (R502): A read of TS_INS_CFG clears the RC field TS_FAULT. -/
  | tsInsCfgRead (n : Nat)
deriving DecidableEq, Repr

end Sys2Proof
end

