-- ==== Sys2Proof/Machine/Codes.lean ====
section
/-! DEFINITION. The status codes of R342 by name. -/

namespace Sys2Proof.Machine.St

/-- OK. -/
abbrev ok : Nat := 0x0000
/-- TXN_HELD. -/
abbrev txnHeld : Nat := 0x0001
/-- TICK_SLIPPED. -/
abbrev tickSlipped : Nat := 0x0101
/-- PAYLOAD_LATE. -/
abbrev payloadLate : Nat := 0x0102
/-- LIMIT_LOWERED. -/
abbrev limitLowered : Nat := 0x0103
/-- HOLD_KEPT. -/
abbrev holdKept : Nat := 0x0104
/-- JOG_CLAMPED. -/
abbrev jogClamped : Nat := 0x0105
/-- REPLY_SHORT. -/
abbrev replyShort : Nat := 0x0106
/-- BAD_PARAM. -/
abbrev badParam : Nat := 0x0201
/-- UNKNOWN_CMD. -/
abbrev unknownCmd : Nat := 0x0202
/-- KIN_CLASS_MISMATCH. -/
abbrev kinClassMismatch : Nat := 0x0203
/-- VEL_RANGE. -/
abbrev velRange : Nat := 0x0204
/-- ARC_DEGENERATE. -/
abbrev arcDegenerate : Nat := 0x0205
/-- UNREACHABLE. -/
abbrev unreachable : Nat := 0x0206
/-- NOTCH_RANGE. -/
abbrev notchRange : Nat := 0x0207
/-- NOTCH_UNSTABLE. -/
abbrev notchUnstable : Nat := 0x0208
/-- GEAR_CYCLE. -/
abbrev gearCycle : Nat := 0x0209
/-- SAFE_PARAM. -/
abbrev safeParam : Nat := 0x020A
/-- SAFE_COPY_MISMATCH. -/
abbrev safeCopyMismatch : Nat := 0x020B
/-- SAFE_CRC_MISMATCH. -/
abbrev safeCrcMismatch : Nat := 0x020C
/-- IMAGE_REJECTED. -/
abbrev imageRejected : Nat := 0x020D
/-- FW_REJECTED. -/
abbrev fwRejected : Nat := 0x020E
/-- BAD_STATE. -/
abbrev badState : Nat := 0x0301
/-- ARM_MOVING. -/
abbrev armMoving : Nat := 0x0302
/-- AXIS_MOVING. -/
abbrev axisMoving : Nat := 0x0303
/-- LIMITS_UNSET. -/
abbrev limitsUnset : Nat := 0x0304
/-- LOOP_UNSET. -/
abbrev loopUnset : Nat := 0x0305
/-- DD_NO_ALIGN. -/
abbrev ddNoAlign : Nat := 0x0306
/-- NOT_HELD. -/
abbrev notHeld : Nat := 0x0307
/-- FOLLOWING. -/
abbrev following : Nat := 0x0308
/-- LIMIT_ACTIVE. -/
abbrev limitActive : Nat := 0x0309
/-- HW_LIMIT_ACTIVE. -/
abbrev hwLimitActive : Nat := 0x030A
/-- NO_REFERENCE. -/
abbrev noReference : Nat := 0x030B
/-- SWITCH_NOISY. -/
abbrev switchNoisy : Nat := 0x030C
/-- GEAR_STEP. -/
abbrev gearStep : Nat := 0x030D
/-- HOME_HAS_FOLLOWERS. -/
abbrev homeHasFollowers : Nat := 0x030E
/-- SAFE_NOT_PERMITTED. -/
abbrev safeNotPermitted : Nat := 0x030F
/-- CLAIM_MODEL_UNSET. -/
abbrev claimModelUnset : Nat := 0x0310
/-- ZONE_NOT_BLOCKED. -/
abbrev zoneNotBlocked : Nat := 0x0311
/-- SHADOW_ROLE. -/
abbrev shadowRole : Nat := 0x0312
/-- EPOCH_STALE. -/
abbrev epochStale : Nat := 0x0313
/-- NOT_SYNCED. -/
abbrev notSynced : Nat := 0x0314
/-- NOT_PENDING. -/
abbrev notPending : Nat := 0x0315
/-- TICK_MISSED. -/
abbrev tickMissed : Nat := 0x0316
/-- BUDGET_EXCEEDED. -/
abbrev budgetExceeded : Nat := 0x0401
/-- BIND_CONFLICT. -/
abbrev bindConflict : Nat := 0x0402
/-- OWNER_FULL. -/
abbrev ownerFull : Nat := 0x0403
/-- QUEUE_FULL. -/
abbrev queueFull : Nat := 0x0404
/-- HOME_CAPTURE_BUSY. -/
abbrev homeCaptureBusy : Nat := 0x0405
/-- PAIR_BUSY. -/
abbrev pairBusy : Nat := 0x0406
/-- REPL_MISMATCH. -/
abbrev replMismatch : Nat := 0x0407
/-- TOO_MANY. -/
abbrev tooMany : Nat := 0x0408
/-- HELD_FULL. -/
abbrev heldFull : Nat := 0x0409
/-- TXN_FULL. -/
abbrev txnFull : Nat := 0x040A
/-- BANK_CONFLICT. -/
abbrev bankConflict : Nat := 0x040B
/-- BANK_NOT_HELD. -/
abbrev bankNotHeld : Nat := 0x0501
/-- BAD_BLOCK. -/
abbrev badBlock : Nat := 0x0502
/-- BLOCK_CHECK. -/
abbrev blockCheck : Nat := 0x0503
/-- TXN_UNKNOWN. -/
abbrev txnUnknown : Nat := 0x0504
/-- TXN_NOT_ALLOWED. -/
abbrev txnNotAllowed : Nat := 0x0505
/-- TXN_FAILED. -/
abbrev txnFailed : Nat := 0x0506
/-- HOME_LIMIT. -/
abbrev homeLimit : Nat := 0x0601
/-- HOME_NOT_FOUND. -/
abbrev homeNotFound : Nat := 0x0602
/-- HOME_NO_INDEX. -/
abbrev homeNoIndex : Nat := 0x0603
/-- HOME_ABORTED. -/
abbrev homeAborted : Nat := 0x0604
/-- CANCELLED. -/
abbrev cancelled : Nat := 0x0605
/-- CLAIM_WAIT. -/
abbrev claimWait : Nat := 0x0701
/-- CLEARANCE_STOP. -/
abbrev clearanceStop : Nat := 0x0702
/-- SINGULARITY_STOP. -/
abbrev singularityStop : Nat := 0x0703
/-- JOINT_LIMIT_STOP. -/
abbrev jointLimitStop : Nat := 0x0704
/-- MANDREL_OVERLOAD. -/
abbrev mandrelOverload : Nat := 0x0705
/-- WIRING_FAULT. -/
abbrev wiringFault : Nat := 0x0706
/-- NUMERIC_FAULT. -/
abbrev numericFault : Nat := 0x0801
/-- POS_RANGE. -/
abbrev posRange : Nat := 0x0802
/-- STATE_CHECK. -/
abbrev stateCheck : Nat := 0x0803
/-- FEEDBACK_LOST. -/
abbrev feedbackLost : Nat := 0x0804
/-- FOLLOW_ERROR. -/
abbrev followError : Nat := 0x0805
/-- SAFE_TORQUE_OFF. -/
abbrev safeTorqueOff : Nat := 0x0806
/-- DD_OVERCURRENT. -/
abbrev ddOvercurrent : Nat := 0x0807
/-- DD_CURRENT_LIMIT. -/
abbrev ddCurrentLimit : Nat := 0x0808
/-- DD_UNDERVOLT. -/
abbrev ddUndervolt : Nat := 0x0809
/-- DD_OVERVOLT. -/
abbrev ddOvervolt : Nat := 0x080A
/-- OVERRUN_FAULT. -/
abbrev overrunFault : Nat := 0x080B
/-- UNDERRUN_FAULT. -/
abbrev underrunFault : Nat := 0x080C
/-- GRID_EXCEEDED. -/
abbrev gridExceeded : Nat := 0x0901
/-- BRAKE_RANGE. -/
abbrev brakeRange : Nat := 0x0902

end Sys2Proof.Machine.St
end

