-- ==== Sys2Proof/Machine/Bits.lean ====
section
/-! DEFINITION. Bit fields, signed readings, saturating and wrapping counts, and octet order (R4: least significant
octet first in registers, the pool, command blocks and records, most significant first on the device's own wires). -/

namespace Sys2Proof.Machine

/-- Bits [lo + w - 1 : lo] of a number. -/
def field (x lo w : Nat) : Nat := x / 2 ^ lo % 2 ^ w

/-- Bit `b` of a number. -/
def bitAt (x b : Nat) : Bool := x / 2 ^ b % 2 == 1

/-- A flag as bit `b`. -/
def bitIf (b : Nat) (f : Bool) : Nat := if f then 2 ^ b else 0

/-- The number with bits [lo + w - 1 : lo] replaced. -/
def setField (x lo w v : Nat) : Nat :=
  x / 2 ^ (lo + w) * 2 ^ (lo + w) + v % 2 ^ w * 2 ^ lo + x % 2 ^ lo

/-- The number with bit `b` set. -/
def setBit (x b : Nat) : Nat := if bitAt x b then x else x + 2 ^ b

/-- The number with bit `b` clear. -/
def clrBit (x b : Nat) : Nat := if bitAt x b then x - 2 ^ b else x

/-- What remains of `x` after a write of `v` to W1C bits: a 1 clears, a 0 leaves (R5). -/
def w1c (x v : Nat) : Nat := x - (x &&& v)

/-- A counter that saturates at `m` (R8, R315). -/
def satAdd (m x n : Nat) : Nat := min m (x + n)

/-- A number kept in `w` bits: counters that wrap (R42). -/
def wrap (w x : Nat) : Nat := x % 2 ^ w

/-- The low `w` bits of an integer, as an unsigned number. -/
def toU (w : Nat) (i : Int) : Nat := (i % (2 ^ w : Int)).toNat

/-- The low `w` bits of a number read as a two's complement integer. -/
def toS (w n : Nat) : Int :=
  let m := n % 2 ^ w
  if 2 * m < 2 ^ w then (m : Int) else (m : Int) - (2 ^ w : Int)

/-- An integer held between two bounds. -/
def clampI (lo hi x : Int) : Int := max lo (min hi x)

/-- Arithmetic shift right: division by a power of two toward minus infinity. -/
def asr (x : Int) (n : Nat) : Int := x / (2 ^ n : Int)

/-- Division rounded to nearest, ties to even; a zero divisor gives zero. -/
def divRNE (a : Int) (b : Int) : Int :=
  if b = 0 then 0 else
    let n := if b < 0 then -a else a
    let d := if b < 0 then -b else b
    let q := n / d
    let r := n % d
    if 2 * r < d then q else if d < 2 * r then q + 1 else if q % 2 = 0 then q else q + 1

/-- `n` octets of a number, least significant first (R4). -/
def toLE : Nat → Nat → List Byte
  | 0, _ => []
  | n + 1, x => BitVec.ofNat 8 x :: toLE n (x / 256)

/-- A number from octets, least significant first (R4). -/
def ofLE : List Byte → Nat
  | [] => 0
  | b :: bs => b.toNat + 256 * ofLE bs

/-- `n` octets of a number, most significant first (the wire order of R4). -/
def toBE (n x : Nat) : List Byte := (toLE n x).reverse

/-- A number from octets, most significant first. -/
def ofBE (bs : List Byte) : Nat := ofLE bs.reverse

/-- `n` octets of a signed number, least significant first. -/
def toLEs (n : Nat) (x : Int) : List Byte := toLE n (toU (8 * n) x)

/-- The octets at `ofs` up to `ofs + n`; octets that are not there read as nothing. -/
def octets (bs : List Byte) (ofs n : Nat) : List Byte := (bs.drop ofs).take n

/-- An unsigned field of `n` octets at an offset, least significant first. -/
def uAt (bs : List Byte) (ofs n : Nat) : Nat := ofLE (octets bs ofs n)

/-- A signed field of `n` octets at an offset. -/
def sAt (bs : List Byte) (ofs n : Nat) : Int := toS (8 * n) (uAt bs ofs n)

/-- Whether every octet of a stretch is zero. -/
def zerosAt (bs : List Byte) (ofs n : Nat) : Bool := (octets bs ofs n).all (fun b => b == 0)

/-- The octet list with the octets at `ofs` replaced. -/
def putAt (bs : List Byte) (ofs : Nat) (v : List Byte) : List Byte :=
  bs.take ofs ++ v ++ bs.drop (ofs + v.length)

/-- How many bits are set among the low `w` bits. -/
def popCount : Nat → Nat → Nat
  | 0, _ => 0
  | w + 1, x => x % 2 + popCount w (x / 2)

/-- The lowest number below `n` that satisfies a test. -/
def lowest (n : Nat) (p : Nat → Bool) : Option Nat := (List.range n).find? p

/-- Ceiling of a quotient; a zero divisor gives zero. -/
def ceilDiv (a b : Nat) : Nat := if b = 0 then 0 else (a + b - 1) / b

end Sys2Proof.Machine
end

