-- ==== Sys2Proof/Machine/Float32.lean ====
section
/-! DEFINITION. binary32 arithmetic as R80 fixes it: every operation exact, then rounded once to nearest, ties to even; a
subnormal result is zero; NaN and the infinities are one bad value. -/

namespace Sys2Proof.Machine

/-- A binary32 value: `m` * 2^`e` with at most 24 bits of `m`, or bad (a NaN or an infinity). -/
structure Fl where
  bad : Bool := false
  m : Int := 0
  e : Int := 0
deriving DecidableEq, Repr

/-- The value shifted: `m` * 2^`k` for `k` of either sign, rounded to nearest with ties to even. -/
def shiftRNE (m k : Int) : Int := if 0 ≤ k then m * 2 ^ k.toNat else divRNE m (2 ^ (-k).toNat)

/-- An exact dyadic rounded to binary32 (R80). -/
def Fl.round (m e : Int) : Fl :=
  if m = 0 then {} else
    let n := (m.natAbs.log2 : Int)
    let k := max 0 (n - 23)
    let m' := shiftRNE m (-k)
    let e' := e + k
    let top := e' + (m'.natAbs.log2 : Int)
    if 127 < top then { bad := true } else if top < -126 then {} else { m := m', e := e' }

/-- A quotient of integers times 2^`e` rounded to binary32: enough bits of the quotient and a sticky bit are rounded. -/
def Fl.roundQ (num den e : Int) : Fl :=
  if den = 0 then { bad := true } else
    let k : Nat := 64 + den.natAbs.log2
    let a := num.natAbs * 2 ^ k
    let q := a / den.natAbs
    let m : Int := 2 * q + (if a % den.natAbs = 0 then 0 else 1)
    Fl.round (if (num < 0) = (den < 0) then m else -m) (e - k - 1)

/-- The value of a binary32 pattern; a subnormal is zero (R62). -/
def Fl.ofBits (b : Nat) : Fl :=
  let ex := field b 23 8
  let fr : Int := field b 0 23
  if ex = 255 then { bad := true } else if ex = 0 then {}
  else { m := (if bitAt b 31 then -1 else 1) * (2 ^ 23 + fr), e := ex - 150 }

/-- The pattern of a binary32 value; a bad value has the pattern of a quiet NaN. -/
def Fl.bits (x : Fl) : Nat :=
  if x.bad then 0x7FC00000 else if x.m = 0 then 0 else
    let n := (x.m.natAbs.log2 : Int)
    let fr := (shiftRNE x.m.natAbs (23 - n)).toNat % 2 ^ 23
    bitIf 31 (x.m < 0) + (n + x.e + 127).toNat * 2 ^ 23 + fr

def Fl.ofInt (i : Int) : Fl := Fl.round i 0

def Fl.neg (x : Fl) : Fl := { x with m := -x.m }

def Fl.abs (x : Fl) : Fl := { x with m := x.m.natAbs }

/-- The two mantissas at the smaller exponent. -/
def Fl.align (x y : Fl) : Int × Int × Int :=
  let e := min x.e y.e
  (x.m * 2 ^ (x.e - e).toNat, y.m * 2 ^ (y.e - e).toNat, e)

def Fl.add (x y : Fl) : Fl :=
  if x.bad || y.bad then { bad := true } else
    let (a, b, e) := x.align y
    Fl.round (a + b) e

def Fl.sub (x y : Fl) : Fl := x.add y.neg

def Fl.mul (x y : Fl) : Fl := if x.bad || y.bad then { bad := true } else Fl.round (x.m * y.m) (x.e + y.e)

def Fl.div (x y : Fl) : Fl := if x.bad || y.bad then { bad := true } else Fl.roundQ x.m y.m (x.e - y.e)

def Fl.lt (x y : Fl) : Bool :=
  let (a, b, _) := x.align y
  !x.bad && !y.bad && decide (a < b)

def Fl.le (x y : Fl) : Bool :=
  let (a, b, _) := x.align y
  !x.bad && !y.bad && decide (a ≤ b)

/-- The largest number of `b + 1` bits whose `p`-th power does not exceed `n`. -/
def rootOf (p n : Nat) : Nat → Nat → Nat
  | 0, r => if (r + 1) ^ p ≤ n then r + 1 else r
  | b + 1, r => rootOf p n b (if (r + 2 ^ (b + 1)) ^ p ≤ n then r + 2 ^ (b + 1) else r)

/-- The correctly rounded `p`-th root of a value that is not negative. -/
def Fl.root (p : Nat) (x : Fl) : Fl :=
  if x.bad || x.m < 0 then { bad := true } else
    let s : Nat := 30 * p + ((x.e - 30 * p) % p).toNat
    let n := x.m.toNat * 2 ^ s
    let r := rootOf p n (n.log2 / p + 1) 0
    Fl.round (2 * (r : Int) + (if r ^ p = n then 0 else 1)) ((x.e - s) / p - 1)

def Fl.sqrt (x : Fl) : Fl := x.root 2

def Fl.cbrt (x : Fl) : Fl := x.root 3

/-- The binary32 pi of R80. -/
def Fl.pi : Fl := Fl.ofBits 0x40490FDB

/-- A fixed-point number of `f` fraction bits as binary32. -/
def Fl.ofFix (x : Int) (f : Nat) : Fl := Fl.round x (-f)

/-- A binary32 value as fixed point with `f` fraction bits, to nearest with ties to even (R81). -/
def Fl.toFix (x : Fl) (f : Nat) : Int := if x.m = 0 then 0 else shiftRNE x.m (x.e + f)

/-- The next terms of the sine or cosine series in fixed point of 200 fraction bits. -/
def sincosTerms (x2 : Int) : Nat → Nat → Int → Int → Int
  | 0, _, _, acc => acc
  | n + 1, k, term, acc =>
    let t := -(term * x2 / 2 ^ 200 / ((k + 1) * (k + 2)))
    sincosTerms x2 n (k + 2) t (acc + t)

/-- The sine in fixed point of 200 fraction bits, for arguments of a few turns. -/
def sinFix (x : Int) : Int := sincosTerms (x * x / 2 ^ 200) 60 1 x x

/-- The cosine in fixed point of 200 fraction bits. -/
def cosFix (x : Int) : Int := sincosTerms (x * x / 2 ^ 200) 60 0 (2 ^ 200) (2 ^ 200)

/-- The correctly rounded sine (R164). -/
def Fl.sin (x : Fl) : Fl := if x.bad then x else Fl.round (sinFix (x.toFix 200)) (-200)

/-- The correctly rounded cosine (R164). -/
def Fl.cos (x : Fl) : Fl := if x.bad then x else Fl.round (cosFix (x.toFix 200)) (-200)

/-- The correctly rounded tangent (R146). -/
def Fl.tan (x : Fl) : Fl := if x.bad then x else Fl.roundQ (sinFix (x.toFix 200)) (cosFix (x.toFix 200)) 0

/-- Whether a pattern is a finite number (R62). -/
def finite32 (b : Nat) : Bool := field b 23 8 != 255

/-- A binary32 parameter as it is stored: a subnormal is zero of the same sign (R62). -/
def store32 (b : Nat) : Nat := if field b 23 8 = 0 then bitIf 31 (bitAt b 31) else b

end Sys2Proof.Machine
end

