-- ==== Sys2Proof/Config.lean ====
section
/-! DEFINITION. What an implementation fixes and the spec leaves open: constants with no body, so that nothing can be
proved of their values. Each is named in the assumption log. -/

namespace Sys2Proof.Config

/-- The `n`-th free number: a value the spec leaves open after an effect it does give (log entry 2). -/
opaque freeNat : Nat → Nat

/-- The `n`-th free signed number (log entry 2). -/
opaque freeInt : Nat → Int

/-- Whether the sweep of an arm's entry of a stamp touches a zone: arm, stamp, zone (log entry 24). R255 fixes the geometry
in binary32 without the order of its operations, which R80 leaves to the Mandrel firmware release. -/
opaque zoneTouch : Nat → Nat → Nat → Bool

/-- The path length in um (64-bit) and rotation angle (binary32 pattern) of a Cartesian segment, by arm and a count of
segments planned (log entry 25). -/
opaque pathLength : Nat → Nat → Nat

/-- Which of the three sizes of R618 the smaller NOR device has: 128, 256 or 512 MiB (log entry 43). -/
opaque norSize : Nat

/-- Whether the signature of a firmware image verifies against the fused root key (R626); the key is not in the spec (log
entry 46). -/
opaque fwSigned : List Byte → Bool

/-- Whether the GCM tag of a firmware image verifies (R626; log entry 46). -/
opaque fwTagged : List Byte → Bool

/-- The body length of a fabric record by RTYPE, where the spec gives none (CLAIM, MASTER, DECLARE, CELL_CFG; log entry 47). -/
opaque recLen : Nat → Nat

/-- Which device follows an axis of this one through the fabric, plus one; 0 for none (R123; log entry 48). -/
opaque followedBy : Nat → Nat

/-- MCHK, the CRC-32C of an axis's planning state of 512 octets, whose layout the spec does not give (R280, R281; log entry 49). -/
opaque planCheck : Machine.Axis → Nat

/-- What a command block, a shadow transfer or the state of a join weighs in octets where the spec gives no layout, by what is
transferred and how often one was (R528, R297; log entry 47). -/
opaque bulkLen : Nat → Nat

/-- The time in ns that a network's cyclic output frames take at its link rate, from its parameters, whose layout the spec leaves
to the image (R28, R473; log entry 54). -/
opaque txNs : List Byte → Nat

/-- The cells per tick of a scheduled class that a network's parameters declare (R433, R473), by parameters and class (log entry 54). -/
opaque netCells : List Byte → Nat → Nat

/-- The general I/O pins that a network's parameters ask for a Chisel group (R404), by parameters and group: a mask of 128 bits (log
entry 54). -/
opaque netPins : List Byte → Nat → Nat

/-- The check units that a network's parameters ask for (R356): a mask of 16 bits (log entry 54). -/
opaque netUnits : List Byte → Nat

/-- The Glume's allotment of cells in class 7 (R433; log entry 62). -/
opaque glumeCells : Nat

/-- Whether the signature of a Lathe image verifies (R357, R358): the customer key record (empty for the Farivo key) and the image as
stored. The keys are not in the spec (log entry 55). -/
opaque imgSigned : List Byte → List Byte → Bool

/-- The body of an encrypted image once its content key is unwrapped and its tag verified, none where one of these fails (R357, R358;
log entry 55). -/
opaque imgPlain : List Byte → Option (List Byte)

/-- Whether a key record is well formed and signed by the enrolled one, if any (R359; log entry 55). -/
opaque keySigned : List Byte → List Byte → Bool

/-- The cells of the boundary-scan register (R667); their number and order are the BSDL file's (log entry 65). -/
opaque scanCells : Nat

/-- The device's enrolment public key (R359; log entry 55). -/
opaque enrolKey : List Byte

end Sys2Proof.Config
end

