-- ==== Sys2Proof/Machine/State/Fabric.lean ====
section
/-! DEFINITION. The state of the Oslyn fabric (19_fabric_topology, 20_fabric_cycle_and_sleep) and of a pair
(09_shadow_takeover). -/

namespace Sys2Proof.Machine

/-- A fabric port (R505, R506). -/
structure FabPort where
  /-- 8 bits; R505, R526; reset 0xFF (unused). MEDIA. -/
  media : Nat := 0xFF
  /-- 1 bit; FAB_PORT of R506; reset 0. -/
  link : Bool := false
  /-- 1 bit; FAB_PORT; reset 0. -/
  blockLock : Bool := false
  /-- 1 bit; FAB_PORT; reset 0. -/
  hiBer : Bool := false
  /-- 32 bits, wrapping; R506; reset 0. LINK_DOWNS. -/
  linkDowns : Nat := 0
  /-- 32 bits, wrapping; R507; reset 0. CHECK_ERR. -/
  checkErr : Nat := 0
  /-- at most 8 values of 2^-16 ns; R539; reset empty. The last delays of this port's ring and direction, newest last. -/
  delays : List Int := []
deriving DecidableEq, Repr

/-- A ring (R511). -/
structure FabRing where
  /-- 2 bits; FAB_RING of R511; reset 0 (DOWN). -/
  state : Nat := 0
  /-- 8 bits; FAB_RING; reset 0. BREAK_EAST. -/
  east : Nat := 0
  /-- 8 bits; FAB_RING; reset 0. BREAK_WEST. -/
  west : Nat := 0
  /-- GTC; R539; reset 0. t_X: departure of the own presence frame of the present cycle. -/
  sentAt : Nat := 0
  /-- tick and GTC of TX_GTC, a_E, a_W and t_X of the cycle before; R539; reset 0. -/
  latch : Nat × Nat × Nat × Nat := (0, 0, 0, 0)
  /-- TX_GTC, a_E and a_W of the present cycle's CYCLE frame; R539, R540; reset 0. -/
  cycleRx : Nat × Nat × Nat := (0, 0, 0)
  /-- 1 bit; R540; reset 0. The present cycle's copies have given their offset sample. -/
  sampled : Bool := false
deriving DecidableEq, Repr

/-- What a device knows of another member (R510, R518, R545). -/
structure FabMember where
  /-- 1 bit; R518; reset 0. A member of the fabric. -/
  member : Bool := false
  /-- 128 bits; R518; reset 0. -/
  uid : Nat := 0
  /-- 8 bits; R518; reset 0. -/
  role : Nat := 0
  /-- 32 bits; R275, R512; reset 0. EPOCH of the node's last frame. -/
  epoch : Nat := 0
  /-- 2 bits; R518; reset 0. Rings of which the node is a member. -/
  rings : Nat := 0
  /-- nodes heard on ring A and on ring B; R518; reset none. -/
  heard : List Nat × List Nat := ([], [])
  /-- at most 64 numbers; R510; reset none. Sequence numbers remembered, newest first. -/
  seqs : List Nat := []
  /-- ticks by port; R511, R518; reset 0. Count of the last cycle, plus one, in which a frame of the node arrived on each port. -/
  last : Table Nat := []
  /-- hops by port; R511, R520; reset 0. How far the node lies behind each port. -/
  dist : Table Nat := []
  /-- UID, ROLE, RINGS, HEARD_A and HEARD_B of an announcement that takes effect at the next edge; R518; reset none. -/
  ann : Option (Nat × Nat × Nat × List Nat × List Nat) := none
  /-- stamps by port; R539; reset 0. GTC [31:0] at which the node's presence frame of its last cycle arrived. -/
  arrived : Table Nat := []
  /-- 1 bit; R545; reset 0. A frame with a correct check has come since the node's last window closed. -/
  came : Bool := false
  /-- a count; R530; reset 0. MBX records sent to the node in this cycle. -/
  mbxNow : Nat := 0
  /-- 32 bits, wrapping; R545; reset 0. EMPTY. -/
  empty : Nat := 0
  /-- a count; R267; reset 0. Cycles in a row without the node's presence frame. -/
  missed : Nat := 0
  /-- tick; R545; reset 0. Cycle, plus one, of the last frame with a correct check from the node. -/
  lastCycle : Nat := 0
  /-- 8 bits; R530; reset none. MSEQ of the last MBX record from the node. -/
  mseqIn : Option Nat := none
  /-- 8 bits; R530; reset 0. MSEQ of the next MBX record to the node. -/
  mseqOut : Nat := 0
  /-- tick; R529; reset none. The edge at which a LEAVE of the node takes effect. -/
  leaveAt : Option Nat := none
  /-- tick; R557, R559; reset none. The node sleeps, from the tick given until its slots are restored. -/
  asleep : Option Nat := none
  /-- tick; R559; reset none. When the node's slots are restored. -/
  restoreAt : Option Nat := none
deriving DecidableEq, Repr

/-- A reliable transfer (R531). -/
structure FabBulk where
  /-- 16 bits; R531. XFER. -/
  xfer : Nat := 0
  /-- node ID; the other end. -/
  peer : Nat := 0
  /-- 0 join state, 1 shadow transfer, 2 command block; R531. -/
  use : Nat := 0
  /-- 32 bits; R531. TOTAL. -/
  total : Nat := 0
  /-- 32 bits; R531; reset 0. Octets acknowledged in order, or received in order. -/
  acked : Nat := 0
  /-- 32 bits; R531; reset 0. Octets sent so far. -/
  sent : Nat := 0
  /-- a count; R531; reset 0. Resends of the first unacknowledged segment. -/
  resends : Nat := 0
  /-- 1 bit; R531; reset 0. The transfer has failed. -/
  failed : Bool := false
deriving DecidableEq, Repr

/-- The join of this device (R526, R527, R551, R552). -/
structure FabJoin where
  /-- 0 none, 1 listening, 2 J1 sent, 3 J3 sent, 4 transfer, 5 cold start, 6 cold start backing off, 7 started: CYCLE frames follow. -/
  stage : Nat := 0
  /-- GTC; R527, R551, R552; reset 0. When the stage began. -/
  since : Nat := 0
  /-- octets; R527; reset none. Nj. -/
  nonce : List Byte := []
  /-- node ID; R527; reset 0. The node ID J2 assigned. -/
  node : Nat := 0
  /-- 32 bits; R552; reset 0. ATTEMPT. -/
  attempt : Nat := 0
  /-- a count; R526, R527; reset 0. Authentication failures of this join. -/
  fails : Nat := 0
  /-- NODE_REQ, REQ_VALID, RINGS and the map of FAB.JOIN; R526; reset none. -/
  args : Nat × Bool × Nat := (0, false, 0)
  map : List MapEntry := []
  /-- ports; R552; reset none. Ports where the own COLD_START frame has come back intact. -/
  echo : List Nat := []
  /-- ports; R552; reset none. Ports where a foreign COLD_START frame came before the own echo. -/
  foreign : List Nat := []
  /-- 1 bit; R552; reset 0. A foreign COLD_START frame named the own node ID. -/
  clash : Bool := false
  /-- 1 bit; R551; reset 0. The FAB.JOIN carried COLD_OK. -/
  coldOk : Bool := false
deriving DecidableEq, Repr

/-- An exchange that the cycle master runs with a joiner (R527). -/
structure FabServe where
  /-- 128 bits; R527. UID of the joiner. -/
  uid : Nat := 0
  /-- node ID; R517. Assigned. -/
  node : Nat := 0
  /-- 2 bits; R517. Source of the assignment. -/
  src : Nat := 0
  /-- node IDs; R527. NODE_REQ, the straps' and the retained one, as J1 named them. -/
  req : Option Nat := none
  strap : Option Nat := none
  kept : Option Nat := none
  /-- octets; R527. Nj and Nm. -/
  nj : List Byte := []
  nm : List Byte := []
  /-- 1 bit; R527; reset 0. J2 has been sent. -/
  sent : Bool := false
deriving DecidableEq, Repr

/-- Sleep and wake (R554 to R560). -/
structure FabSleep where
  /-- 2 bits; FAB_SLEEP of R538; reset 0. SLEEP_STATE. -/
  state : Nat := 0
  /-- node IDs; R554; reset none. NODES. -/
  nodes : List Nat := []
  /-- 64 bits; FAB_SLEEP_PNR of R555; reset 0. Tick count of the point of no return. -/
  pnr : Nat := 0
  /-- 1 bit; FAB_SLEEP of R556; reset 0 (kept in the always-on domain). -/
  latch : Bool := false
  /-- 2 bits; FAB_SLEEP; reset 0. WAKE_SRC. -/
  src : Nat := 0
  /-- 1 bit; FAB_SLEEP; reset 0. FWAKE_IN. -/
  fwakeIn : Bool := false
  /-- GTC; R557; reset none. The edge of N + 9, while the sleep entry is not complete. -/
  entering : Option Nat := none
  /-- 1 bit; R557; reset 0. The ports have been signalled. -/
  portsTold : Bool := false
  /-- GTC; R559, R560; reset none. When the device woke, until a frame of another member arrives. -/
  wokeAt : Option Nat := none
  /-- 3 bits; R559; reset 7. The role the device takes back. -/
  oldRole : Nat := 7
  /-- node IDs that have sent WAKE_REQ since the latch; R556; reset none. -/
  heardFrom : List Nat := []
deriving DecidableEq, Repr

/-- Everything of the fabric. -/
structure FabricState where
  /-- 4 ports; R505; reset as FabPort. -/
  ports : Table FabPort := []
  /-- 2 rings; R508; reset as FabRing. -/
  rings : Table FabRing := []
  /-- 256 nodes; R518; reset as FabMember. -/
  nodes : Table FabMember := []
  /-- 2 bits; R508, R526; reset 0. Rings of which this device is a member or which it joins. -/
  mine : Nat := 0
  /-- 2 bits; FAB_NODE of R517; reset 0. NODE_SRC. -/
  nodeSrc : Nat := 0
  /-- 9 bits; R517; reset none. The node ID the straps give, when NID_EN was high at power-on reset. -/
  strap : Option Nat := none
  /-- up to 256 entries; R516; reset empty (kept as a retained record). -/
  map : List MapEntry := []
  /-- 32 octets; R525; reset none (kept as a retained record). -/
  key : Option (List Byte) := none
  /-- node ID; FAB_CYCLE of R536; reset 0. The cycle master. -/
  master : Nat := 0
  /-- node IDs; R537, R553; reset none. COLD_OK members. -/
  coldOk : List Nat := []
  /-- R542; reset empty. The schedule table in force. -/
  sched : FabSched := {}
  /-- fabric-wide changes and the tick whose edge applies them; R542, R516, R253; reset none. -/
  changes : List (Nat × CellCfg) := []
  /-- 16 bits; R512; reset 0. SEQ of the next frame. -/
  seq : Nat := 0
  /-- records to send with their destinations, none for BCAST; R515; reset none. -/
  waiting : List (Option Nat × FabRec) := []
  /-- frames to relay with the ring they go to; R522; reset none. -/
  relays : List (Nat × FabFrame) := []
  /-- own frames to insert on the other ring too, with that ring; R520; reset none. -/
  copies : List (Nat × FabFrame) := []
  /-- 2 bits; R545; reset 0. Rings on which the presence frame of the cycle has been inserted. -/
  present : Nat := 0
  /-- rings' windows open for insertion; R547; reset none. Ring and slot. -/
  windows : List (Nat × Nat) := []
  /-- 1 bit; FAB_NODE of R521; reset 0. This device is the active bridge of its two rings. -/
  active : Bool := false
  /-- 1 bit; R295, R528; reset 0. The device joined with an epoch behind the fabric's and stays a listener. -/
  stale : Bool := false
  /-- 1 bit; R540; reset 0. TB0 has been set from the CYCLE frames. -/
  tbSet : Bool := false
  /-- 32 bits; R514; reset 0. The epoch held at the start of the previous cycle. -/
  prevEpoch : Nat := 0
  /-- 32 bits; R514; reset 0. The epoch held at the start of the present cycle. -/
  thisEpoch : Nat := 0
  /-- counts by axis; R123; reset 0. C up to which an axis's master data has been sent. -/
  masterSent : Table Nat := []
  /-- transfers sent; R531; reset none. -/
  sending : List FabBulk := []
  /-- transfers received; R531; reset none. -/
  receiving : List FabBulk := []
  /-- 16 bits; R531; reset 0. XFER of the next transfer. -/
  nextXfer : Nat := 0
  /-- R526; reset as FabJoin. -/
  join : FabJoin := {}
  /-- octets; R621; reset none (kept as a retained record of kind 0x07). The last FAB.JOIN arguments. -/
  joinArgs : List Byte := []
  /-- exchanges of the cycle master, the one in progress first; R527; reset none. -/
  serving : List FabServe := []
  /-- UID and GTC of the failed authentications of the last 60 s; R527; reset none. -/
  authFails : List (Nat × Nat) := []
  /-- GTC; R547; reset 0. The guardian's reference. -/
  rho : Nat := 0
  /-- 3 bits; FAB_GUARD of R550; reset 0. EXTRAP. -/
  extrap : Nat := 0
  /-- cycles; R549; reset none. Cycles of the last cuts. -/
  cutAt : List Nat := []
  /-- 1 bit; FAB_GUARD of R549; reset 0. -/
  listenOnly : Bool := false
  /-- a count; R537; reset 0. Cycles in a row without the cycle master's CYCLE frame. -/
  cycleMiss : Nat := 0
  /-- R554; reset as FabSleep. -/
  sleep : FabSleep := {}
  /-- 32 bits, wrapping; R514; reset 0. -/
  badFrame : Nat := 0
  /-- 32 bits, wrapping; R514; reset 0. STALE. -/
  staleCount : Nat := 0
  /-- 32 bits, wrapping; R514; reset 0. -/
  epochLow : Nat := 0
  /-- 32 bits, wrapping; R520; reset 0. -/
  noRoute : Nat := 0
  /-- 32 bits, wrapping; R530; reset 0. -/
  mbxGap : Nat := 0
  /-- 32 bits, wrapping; R531; reset 0. -/
  bulkRetx : Nat := 0
  /-- 32 bits, wrapping; R527; reset 0. -/
  authFail : Nat := 0
  /-- 32 bits, wrapping; R534; reset 0. -/
  joins : Nat := 0
  /-- 32 bits, wrapping; R534; reset 0. -/
  leaves : Nat := 0
  /-- 32 bits, wrapping; R548; reset 0. -/
  guardCuts : Nat := 0
  /-- 32 bits, wrapping; R549; reset 0. -/
  guardDrops : Nat := 0
  /-- 32 bits, wrapping; R552; reset 0. -/
  coldCollisions : Nat := 0
  /-- 32 bits, wrapping; R560; reset 0. -/
  falseWakes : Nat := 0
  /-- 32 bits, wrapping; R557; reset 0. -/
  failsafe : Nat := 0
deriving DecidableEq, Repr

/-- A dual-homed line (R274). -/
structure PairLine where
  net : Nat := 0
  pPort : Nat := 0
  sPort : Nat := 0
  latNs : Nat := 0
deriving DecidableEq, Repr

/-- The pair (R273 to R300). -/
structure PairState where
  /-- 2 bits; R300; reset 0. 0 no pair, 1 primary, 2 shadow, 3 joining. -/
  role : Nat := 0
  /-- node ID; R300; reset 0. PEER. -/
  peer : Nat := 0
  /-- up to 16 lines; R274; reset none. -/
  lines : List PairLine := []
  /-- GTC; R297; reset none. When FAB.ASSIGN_SHADOW committed, until the shadow is synchronised. -/
  since : Option Nat := none
  /-- 1 bit; R283; reset 0. SUSPECT. -/
  suspect : Bool := false
  /-- 64 bits; R280; reset 0. DIVERGED groups. -/
  diverged : Nat := 0
  /-- a count; R297, R298; reset 0. Ticks in a row in which every digest agreed. -/
  agreed : Nat := 0
  /-- a count; R283; reset 0. Forwarding slots missed in a row. -/
  missRun : Nat := 0
  /-- a count; R284; reset 0. Own echoes missed in a row. -/
  echoRun : Nat := 0
  /-- 1 bit; R283; reset 0. The primary has a failure declaration to send. -/
  declare : Bool := false
  /-- tick; R287; reset none. The edge of the takeover that this shadow declared. -/
  takeAt : Option Nat := none
  /-- GTC; R298; reset none. Edge of a switchover. -/
  switchAt : Option Nat := none
  /-- 1 bit; R284, R295; reset 0. No cyclic transmission on the dual-homed lines. -/
  silent : Bool := false
  /-- R276; reset none. Records forwarded for the present tick, at the shadow. -/
  fwd : Option FwdSet := none
  /-- tick and 64 digests; R280; reset none. The own digests of the last seal. -/
  own : Option (Nat × List Nat) := none
  /-- R281; reset none. A slice to apply at the next edge. -/
  slice : Option FabSlice := none
  /-- unit, count and factor; R276; reset none. The deliveries of the present tick. -/
  gave : List (Nat × Nat × Nat) := []
  /-- transfers of command blocks and their command's tag and port; R278; reset none. -/
  blocks : List (Nat × Nat × Nat) := []
  /-- transfer, commit edge and acceptance GTC; R278; reset none. Reports for the next forwarding slot. -/
  commits : List (Nat × Nat × Nat) := []
  /-- digests; R280; reset none. The primary's digests of a tick that the shadow has not sealed yet. -/
  theirs : Option (Nat × List Nat) := none
  /-- 32 bits, wrapping; R280; reset 0. -/
  mismatch : Nat := 0
  /-- 32 bits, wrapping; R282; reset 0. -/
  resyncLate : Nat := 0
  /-- 32 bits, wrapping; R277; reset 0. -/
  fwdLate : Nat := 0
  /-- 32 bits, wrapping; R283; reset 0. -/
  misses : Nat := 0
  /-- 32 bits, wrapping; R285; reset 0. -/
  fills : Nat := 0
  /-- 32 bits, wrapping; R287; reset 0. -/
  takeovers : Nat := 0
  /-- 32 bits; R300; reset 0. LAST_CHANGE. -/
  lastChange : Nat := 0
deriving DecidableEq, Repr

end Sys2Proof.Machine
end

