-- ==== Sys2Proof/Machine/State/Host.lean ====
section
/-! DEFINITION. The state of the command interface (11_command_interface): ports, credits, events, commands in hand and
transactions; and what the block has sent out. -/

namespace Sys2Proof.Machine

/-- Where a command stands between the reading of its word and the acknowledgement of its response (R334). -/
inductive Stage where
  /-- its word has been read; acceptance is not complete -/
  | read
  /-- accepted, waiting on a primary for its shadow's acknowledgement (R278) -/
  | awaitShadow
  /-- accepted, waits for its commit edge (R20) -/
  | waiting
  /-- held for its target edge (R337) -/
  | held
  /-- committed; its work runs on until completion (R339) -/
  | running
  /-- its reply is ready; the response word is not posted yet -/
  | replied
  /-- its response word stands in a channel, not acknowledged -/
  | posted
deriving DecidableEq, Repr

/-- The reply of a command (R331). -/
structure Reply where
  /-- 16 bits; R341. -/
  status : Nat := 0
  /-- 32 bits; R331. -/
  detail : Nat := 0
  /-- octets; R331. -/
  data : List Byte := []
  /-- 1 bit; R339. The response follows at completion, not at commit. -/
  later : Bool := false
deriving DecidableEq, Repr

/-- A command in hand. -/
structure HostCmd where
  /-- R329. -/
  hdr : Hdr
  /-- 16 bits; R329. CODE, once its block has been parsed. -/
  code : Nat := 0
  /-- octets; R329. The arguments, once its block has been parsed. -/
  args : List Byte := []
  /-- R334. -/
  stage : Stage := .read
  /-- 64 bits; R23. Acceptance GTC. -/
  acceptGtc : Nat := 0
  /-- 64 bits; R20, R337. GTC of the edge at which it is to commit. -/
  commitAt : Nat := 0
  /-- 64 bits; R331. COMMIT_TICK. -/
  commitTick : Nat := 0
  /-- 1 bit; R22. The command missed its target tick and completes with TICK_SLIPPED. -/
  slipped : Bool := false
  /-- 6 bits; R327. A data bank named inside its block. -/
  dataBank : Option Nat := none
  /-- 1 bit; R340. Its port was reset: it gives no response. -/
  silent : Bool := false
  /-- 1 bit; R332. A reply record is written (not after a refusal at the first four tests). -/
  hasReply : Bool := true
  /-- 1 bit; R334. Answered at once with TOO_MANY: not counted, its tag not busy. -/
  extra : Bool := false
  /-- 6 bits; R327. The channel its response word stands in. -/
  chan : Nat := 0
  /-- R331. -/
  reply : Reply := {}
deriving DecidableEq, Repr

/-- An open configuration transaction (R343 to R346). -/
structure Txn where
  /-- 16 bits; R343. -/
  id : Nat := 0
  /-- 6 bits; R343. -/
  port : Nat := 4
  /-- 32 bits; R347. TIMEOUT_MS. -/
  timeoutMs : Nat := 10000
  /-- GTC of the last member or the begin; R346. -/
  lastAt : Nat := 0
  /-- members in acceptance order; R344. -/
  members : List (Hdr × Nat × List Byte) := []
  /-- 1 bit; R345, R346. A commit of it has been accepted: it takes no further member and does not expire. -/
  committing : Bool := false
deriving DecidableEq, Repr

/-- An event (R335, R353). -/
structure Event where
  /-- 16 bits; R353. -/
  code : Nat := 0
  /-- 64 bits; R335. -/
  gtc : Nat := 0
  /-- 14 bits; R36. -/
  source : Nat := 0
  /-- 16 bits; R335. -/
  subject : Nat := 0
  /-- up to 16 octets; R335. -/
  data : List Byte := []
deriving DecidableEq, Repr

/-- One host port (R319 to R336). -/
structure HostPort where
  /-- 32 bits, wrapping, RC; HOST_ACCESS_ERR of R320; reset 0. -/
  accessErr : Nat := 0
  /-- 64 bits; HOST_GTC_LO and HOST_GTC_HI of R321; reset 0. -/
  gtcLatch : Nat := 0
  /-- 32 bits; HOST_TICK of R321; reset 0. -/
  tickLatch : Nat := 0
  /-- 20 bits; HOST_TICK_OFS of R321; reset 0. -/
  ofsLatch : Nat := 0
  /-- 16 bits; R334; reset 448 on PCIe and 64 on QSPI. The share of outstanding commands. -/
  share : Nat := 448
  /-- 64 bits; R325; reset 0. Mask of the port's host banks. -/
  banks : Nat := 0
  /-- 64 bits; R328; reset 0. Mask of the banks the Sheaf holds for the port. -/
  held : Nat := 0
  /-- 64 bits; R327; reset 0. Mask of the held banks that a command has named since the handover. -/
  named : Nat := 0
  /-- banks whose return CREDIT word waits for an empty channel; R327, R340; reset none. -/
  creditsDue : List Nat := []
  /-- 32 bits; R336; reset 0. Event credit balance in words. -/
  credit : Nat := 0
  /-- queue of at most 4096 words; R336; reset empty. -/
  queue : List Event := []
  /-- 8 bits; R335; reset 0. Event sequence. -/
  eventSeq : Nat := 0
  /-- 32 bits; R336; reset 0. Discarded events not yet reported by EVENT_LOST. -/
  lostNow : Nat := 0
  /-- 32 bits, wrapping; R347; reset 0. EVENTS_LOST. -/
  eventsLost : Nat := 0
  /-- 32 bits, wrapping; R347; reset 0. PROTOCOL_ERRORS. -/
  protoErrors : Nat := 0
  /-- 32 bits, wrapping; R347; reset 0. ROLLED. -/
  rolled : Nat := 0
  /-- 16 bits; R347; reset 0. SYS.EVENT_MASK. -/
  mask : Nat := 0
  /-- words of events being posted to the event channel in order; R323; reset none. -/
  words : List Word := []
  /-- CREDIT words read and not yet acted on; R324; reset none. -/
  inbox : List Word := []
  /-- 1 bit; R340, R654; reset 0. The port's reset is active (kept over a device reset). -/
  inReset : Bool := false
deriving DecidableEq, Repr

/-- Everything of the command interface. -/
structure HostState where
  /-- identity 4; R301; reset as HostPort. -/
  pcie : HostPort := {}
  /-- identity 5; R301; reset as HostPort with share 64. -/
  qspi : HostPort := { share := 64 }
  /-- commands in hand, in the order in which their words were read; R334; reset none. -/
  cmds : List HostCmd := []
  /-- open transactions; R343; reset none. -/
  txns : List Txn := []
deriving DecidableEq, Repr

/-- What the block has sent to the world outside it: the model's own record of the wires. -/
inductive Out where
  /-- a PCIe MSI message (R313) -/
  | msi
  /-- a wake event to a receiver (R311) -/
  | wake (receiver : Nat)
  /-- a frame put on an Ethernet port: port and octets -/
  | frame (port : Nat) (octets : List Byte)
  /-- a PFC or PAUSE frame of a port: class mask and time (R436) -/
  | pause (port : Nat) (classes : Nat) (quanta : Nat)
  /-- a packet of IEEE 802.3br: 1 verify, 2 respond (R428) -/
  | mpacket (port : Nat) (kind : Nat)
  /-- a CAN frame on a controller's bus, by transmit buffer -/
  | canFrame (ctl : Nat) (buf : Nat)
  /-- a fabric frame on a fabric port -/
  | fabric (port : Nat) (frame : FabFrame)
  /-- the frame being inserted on a ring is ended with an error control character (R548) -/
  | cut (ring : Nat)
  /-- a frame of the switch handed to the fabric bridge -/
  | bridge (octets : List Byte)
  /-- a step J1 to J4 of the join exchange on a ring: UID, node ID, result or flags, and the octets of nonces and MACs (R527) -/
  | joinStep (ring step uid node result : Nat) (octets : List Byte)
  /-- a fill frame on a dual-homed line: the shadow's own output records (R285) -/
  | fill (port : Nat) (octets : List Byte)
  /-- a SAFE_CTRL telegram to a drive source (R216) -/
  | safeCtrl (source : Nat) (octets : List Byte)
  /-- a telemetry datagram (R592) -/
  | telemetry (octets : List Byte)
  /-- levels a Chisel engine sends on a general I/O pin, one per engine cycle (R411) -/
  | bits (pin : Nat) (levels : List Bool)
  /-- a PCIe completion with poisoned data (R570) -/
  | poisoned
  /-- an interrupt to the Sheaf from a check unit it owns (R577) -/
  | sheafIrq (unit : Nat)
  /-- FWAKE_N driven low (R558) -/
  | fwake
  /-- what a direct-drive unit's pins do in a tick: for each PWM period the high counts of pins A, B and C, none idle (R164) -/
  | pwm (unit : Nat) (highs : List (List (Option Nat)))
  /-- a request to a Lathe's code, named by network (R352) -/
  | request (net : Nat) (octets : List Byte)
deriving DecidableEq, Repr

end Sys2Proof.Machine
end

