-- ==== Sys2Proof/Machine/State/Lathe.lean ====
section
/-! DEFINITION. The state of the Lathe engines (12_lathe_engines, 13_lathe_instruction_set) and of the Chisel engines
(14_chisel_engines). -/

namespace Sys2Proof.Machine

/-- One priority level of a Lathe (R381, R402). -/
structure LthLevel where
  /-- 16 registers of 32 bits, g0 to g15; R381, R382; reset 0. -/
  g : Table Word := []
  /-- 1 bit; R381; reset 0 (DESIGN CHOICE, log entry 5). -/
  z : Bool := false
  /-- 1 bit; R381; reset 0 (DESIGN CHOICE, log entry 5). -/
  n : Bool := false
  /-- 1 bit; R381; reset 0 (DESIGN CHOICE, log entry 5). -/
  c : Bool := false
  /-- 1 bit; R381; reset 0 (DESIGN CHOICE, log entry 5). -/
  v : Bool := false
  /-- 32 bits; R381; reset 0 (DESIGN CHOICE, log entry 5). -/
  ip : Word := 0
  /-- register and value; R381, R389; reset none. The load not yet landed. -/
  pend : Option (Nat × Word) := none
  /-- 1 bit; R363; reset 0. The level has work in progress. -/
  active : Bool := false
  /-- 1 bit; R395; reset 0. IDLE at the background level: waits for the next entry's end. -/
  idle : Bool := false
  /-- 16 bits; LTH_XVEC of R401; reset 0. -/
  handler : Nat := 0
  /-- 1 bit; LTH_XVEC of R401; reset 0. -/
  xen : Bool := false
  /-- 32 bits; LTH_SPTOP of R402; reset 0x10040000. -/
  sptop : Word := 0x10040000
  /-- 4 bits; LTH_XCAUSE of R401; reset 0. -/
  xcause : Nat := 0
  /-- 8 bits; LTH_XCAUSE of R401; reset 0. -/
  trapNo : Nat := 0
  /-- 1 bit; LTH_XCAUSE of R401; reset 0. -/
  inBlk : Bool := false
  /-- 32 bits; LTH_XADDR of R401; reset 0. -/
  xaddr : Word := 0
  /-- 32 bits; LTH_XDATA of R401; reset 0. -/
  xdata : Word := 0
  /-- 32 bits; LTH_XNEXT of R401; reset 0. -/
  xnext : Word := 0
deriving DecidableEq, Repr

/-- The header of an image with its body (R357), as the checks of R358 leave it. -/
structure Image where
  /-- 32 bits; R357. IMAGE_ID; 0 with no image. -/
  id : Nat := 0
  /-- 32 bits; R357. VERSION. -/
  version : Nat := 0
  /-- 16 bits; R357. -/
  minSheaf : Nat := 0
  /-- 8 bits; R357. -/
  keyId : Nat := 0
  /-- 8 bits; R357. -/
  enc : Nat := 0
  /-- octets; R357. The code. -/
  code : List Byte := []
  /-- octets; R357. The initial data. -/
  init : List Byte := []
  /-- entries FROM_FORMAT, KIND, ACTION; R372. -/
  mig : List (Nat × Nat × Nat) := []
  /-- 16 bits; R357. -/
  ctxMax : Nat := 0
  /-- 16 bits; R357. -/
  ctxFormat : Nat := 0
  /-- 16 bits; R357. -/
  caps : Nat := 0
  /-- 16 bits; R357. -/
  entryInit : Nat := 0
  /-- 16 bits; R357. -/
  entryPhase : Nat := 0
  /-- 16 bits; R357. -/
  entryRx : Nat := 0
  /-- 16 bits; R357. -/
  entryBg : Nat := 0
  /-- 16 bits; R357. -/
  entryMigrate : Nat := 0xFFFF
  /-- 32 bits; R357. -/
  cycTx : Nat := 0
  /-- 32 bits; R357. -/
  cycMigrate : Nat := 0
deriving DecidableEq, Repr

/-- A staged input slot (R366). -/
structure InSlot where
  /-- octets; R366; reset empty. Data as staged. -/
  staged : List Byte := []
  /-- 1 bit; R366; reset 0. Staging was written since the previous post. -/
  fresh : Bool := false
  /-- stamp and data; R366; reset none. The qualifying post in the present snapshot. -/
  posted : Option (Nat × List Byte) := none
  /-- stamp and data; R366; reset none. A post held for the tick after. -/
  later : Option (Nat × List Byte) := none
  /-- octets; R16; reset empty. The slot in the tick snapshot. -/
  snap : List Byte := []
  /-- 64 bits; R188; reset 0. Receive stamp of the snapshot's value. -/
  snapStamp : Nat := 0
  /-- 1 bit; R16; reset 0. -/
  stale : Bool := false
  /-- a count; R16; reset 0. Ticks since the last fresh value. -/
  age : Nat := 0
deriving DecidableEq, Repr

/-- A telemetry record of a Lathe (R376). -/
structure TelemRec where
  /-- 64 bits; R376. -/
  gtc : Nat := 0
  /-- 14 bits; R376. -/
  source : Nat := 0
  /-- 16 bits; R376. -/
  kind : Nat := 0
  /-- 16 bits; R376. Low half of IMAGE_ID. -/
  image : Nat := 0
  /-- 20 octets; R376. -/
  data : List Byte := []
deriving DecidableEq, Repr

/-- A pending receive entry: stamp, ingress port or code for g0, and the value for g1 (R364, R382). -/
structure RxEntry where
  /-- 64 bits; R364. Receive time stamp. -/
  stamp : Nat := 0
  /-- 32 bits; R364. g0. -/
  reason : Nat := 0
  /-- 32 bits; R364. g1. -/
  arg : Nat := 0
deriving DecidableEq, Repr

/-- One Lathe engine (R354 to R380). -/
structure Lathe where
  /-- level 0, phase; R381; reset as LthLevel. -/
  phase : LthLevel := {}
  /-- level 1, receive; R381; reset as LthLevel. -/
  rx : LthLevel := {}
  /-- level 2, background; R381; reset as LthLevel. -/
  bg : LthLevel := {}
  /-- 1 bit; LTH_ID of R378; reset 0. Live bank and half. -/
  live : Nat := 0
  /-- instruction bank 0 with its header; R354; reset no image. -/
  bank0 : Image := {}
  /-- instruction bank 1 with its header; R354; reset no image. -/
  bank1 : Image := {}
  /-- 1 bit; R354, R370; reset 0. The live bank holds an image. -/
  loaded : Bool := false
  /-- 1 bit; R369; reset 0. The shadow bank holds a loaded image. -/
  shadowLoaded : Bool := false
  /-- 5 bits; R369, R379; reset 0. The image store entry of the live image. -/
  liveEntry : Nat := 0
  /-- 5 bits; R369; reset 0. The image store entry of the shadow image. -/
  shadowEntry : Nat := 0
  /-- 64 bits; R371; reset none. Target edge GTC of a pending swap. -/
  swapAt : Option Nat := none
  /-- 1 bit; R371; reset 0. The old data half is readable until the end of the swap tick. -/
  oldHalf : Bool := false
  /-- 1 bit; R372; reset 0. Migration is in progress. -/
  migrating : Bool := false
  /-- contexts not yet migrated; R372; reset none. -/
  toMigrate : List Nat := []
  /-- 1 bit; R370; reset 0. A loaded image starts at the next edge. -/
  startDue : Bool := false
  /-- 1 bit; R370; reset 0. ENTRY_INIT of a loaded image runs. -/
  initing : Bool := false
  /-- 1 bit; R372; reset 0. ENTRY_INIT of a swap has ended and the contexts migrate. -/
  initDone : Bool := false
  /-- 1 bit; R379; reset 0. A restart is in progress. -/
  restarting : Bool := false
  /-- 1 bit; R379; reset 0. -/
  unusable : Bool := false
  /-- GTCs; R379; reset none. Restarts within the last 10 s. -/
  restartTimes : List Nat := []
  /-- 2 bits; R365; reset 0. Phase code last entered. -/
  phaseCode : Nat := 0
  /-- entries; R364; reset none. Receive entries due. -/
  due : List RxEntry := []
  /-- entries; R371; reset none. Frames held during a swap. -/
  heldRx : List RxEntry := []
  /-- slots by index; R366; reset as InSlot. -/
  slots : Table InSlot := []
  /-- 32 KiB; R356, R366; reset 0 (DESIGN CHOICE, log entry 4). Input staging by octet. -/
  staging : Table Byte := []
  /-- 32 KiB; R356, R469; reset 0 (DESIGN CHOICE, log entry 4). Output records by octet. -/
  outRecs : Table Byte := []
  /-- 32 bits; LTH_POST_STAMP of R366; reset 0. -/
  postStamp : Nat := 0
  /-- 20 octets; LTH_TELEM_DATA of R376; reset 0. -/
  telemData : List Byte := List.replicate 20 0
  /-- up to 128 records; R376; reset empty. -/
  ring : List TelemRec := []
  /-- a count; R376; reset 0. Telemetry records accepted in this tick. -/
  telemTick : Nat := 0
  /-- GTCs; R376; reset none. Journal copies of telemetry within the last second. -/
  telemJrnl : List Nat := []
  /-- indices; R361; reset none. Flow contexts reserved, ascending. -/
  ctxs : List Nat := []
  /-- 32 bits; R468; reset 0. ENV_GEN of the environment block. -/
  envGen : Nat := 0
  /-- 32 bits, wrapping; R375; reset 0. RX_EVENTS. -/
  rxEvents : Nat := 0
  /-- 32 bits, wrapping; R375; reset 0. TX_FRAMES. -/
  txFrames : Nat := 0
  /-- 32 bits, wrapping; R375; reset 0. POST_LATE. -/
  postLate : Nat := 0
  /-- 32 bits, wrapping; R375; reset 0. POST_EMPTY. -/
  postEmpty : Nat := 0
  /-- 32 bits, wrapping; R16, R42; reset 0. Overwritten inputs. -/
  overwritten : Nat := 0
  /-- 32 bits, wrapping; R375; reset 0. PHASE_OVERRUN. -/
  phaseOverrun : Nat := 0
  /-- 32 bits, wrapping; R375; reset 0. ACCESS_FAULT. -/
  accessFault : Nat := 0
  /-- 32 bits, wrapping; R375; reset 0. CTX_FAULT. -/
  ctxFault : Nat := 0
  /-- 32 bits, wrapping; R375; reset 0. EXCEPTIONS. -/
  exceptions : Nat := 0
  /-- 32 bits, wrapping; R375; reset 0. RESTARTS. -/
  restarts : Nat := 0
  /-- 32 bits, wrapping; R375; reset 0. MIG_OVERRUN. -/
  migOverrun : Nat := 0
  /-- 32 bits, wrapping; R375; reset 0. ECC_CORR. -/
  eccCorr : Nat := 0
  /-- 32 bits, wrapping; R375; reset 0. TELEM_DROP. -/
  telemDrop : Nat := 0
  /-- 32 bits, wrapping; R375; reset 0. BUSY_PEAK. -/
  busyPeak : Nat := 0
deriving DecidableEq, Repr

/-- An entry of the image store (R360): two slots and which is active. -/
structure StoreEntry where
  /-- octets; R360; reset empty (kept in NOR). -/
  slotA : List Byte := []
  /-- octets; R360; reset empty (kept in NOR). -/
  slotB : List Byte := []
  /-- 2 bits; R360; reset 0 (kept in NOR). 0 none, 1 slot A, 2 slot B. -/
  active : Nat := 0
deriving DecidableEq, Repr

/-- A flow context beside its octets (R361, R362). -/
structure FlowCtx where
  /-- 4 bits; R361; reset none. Engine that holds the context. -/
  owner : Option Nat := none
  /-- 8 bits; R362; reset 0xFF. Network. -/
  net : Nat := 0xFF
  /-- 16 bits; R362; reset 0. -/
  format : Nat := 0
  /-- 8 bits; R362; reset 0. -/
  kind : Nat := 0
  /-- 8 bits; R362; reset 0. -/
  state : Nat := 0
  /-- 32 bits; R362; reset 0. -/
  opened : Nat := 0
  /-- octets 16 to 255 by offset; R362; reset 0 (DESIGN CHOICE, log entry 4). -/
  body : Table Byte := []
deriving DecidableEq, Repr

/-- One Chisel engine (R409 to R416). -/
structure ChsEngine where
  /-- 5 bits; CHS_E_CFG of R414; reset 0. START_ADDR. -/
  startAddr : Nat := 0
  /-- 1 bit; CHS_E_CFG of R411; reset 0. -/
  msbFirst : Bool := false
  /-- 1 bit; CHS_E_CFG of R412; reset 0. -/
  autofetch : Bool := false
  /-- 1 bit; CHS_E_CFG of R412; reset 0. -/
  autostore : Bool := false
  /-- 1 bit; CHS_E_CFG of R412; reset 0. -/
  fillIdle : Bool := false
  /-- 1 bit; CHS_E_CFG of R412; reset 0. -/
  dropNew : Bool := false
  /-- 5 bits; CHS_E_CFG of R411; reset 0 (32 bits). -/
  wlen : Nat := 0
  /-- 2 bits; CHS_E_CFG of R411; reset 0. -/
  duplexPin : Nat := 0
  /-- 24 bits; CHS_E_PINS of R404; reset 0. W0 to W3, six bits each. -/
  wins : Nat := 0
  /-- 4 bits; CHS_E_PINS of R404; reset 0. -/
  wValid : Nat := 0
  /-- 12 bits; CHS_E_AUX of R404; reset 0. EO0 and EO1. -/
  eos : Nat := 0
  /-- 2 bits; CHS_E_AUX of R404; reset 0. -/
  eoValid : Nat := 0
  /-- 2 bits; CHS_E_AUX of R414; reset 0. -/
  eoIdle : Nat := 0
  /-- 4 bits; CHS_E_AUX of R414; reset 0. -/
  idleLvl : Nat := 0
  /-- 4 bits; CHS_E_AUX of R414; reset 0. -/
  idleOe : Nat := 0
  /-- 24 bits; CHS_E_CLK of R405; reset 0. -/
  incr : Nat := 0
  /-- 32 bits; CHS_E_RELOAD of R409; reset 0. CR0 and CR1. -/
  reload : Nat := 0
deriving DecidableEq, Repr

/-- What a holding Chisel engine waits for, with the cycles of the shift still to run (R412). -/
inductive ChsHold where
  /-- holds for nothing -/
  | none
  /-- AWAIT on a pin: window pin, level, with a time limit or not -/
  | pin (w : Nat) (level : Bool) (timed : Bool)
  /-- AWAIT on a sync flag -/
  | sync (f : Nat) (level : Bool)
  /-- STORE or COPY into a full DOUT; the word to push and whether SH and BITS clear -/
  | push (w : Word) (clear : Bool)
  /-- FETCH from an empty DIN -/
  | fetch
  /-- EMIT in its autofetch: cycles left, window pin, duplex -/
  | emit (left : Nat) (w : Nat) (duplex : Bool)
  /-- EMIT in its autostore: cycles left, window pin -/
  | emitStore (left : Nat) (w : Nat)
  /-- SAMPLE in its autostore: cycles left, window pin -/
  | sample (left : Nat) (w : Nat)
deriving DecidableEq, Repr

/-- A Chisel engine at work: its configuration in force and its program state (R411, R414). -/
structure ChsRun where
  /-- configuration as written; R414; reset as ChsEngine. -/
  cfg : ChsEngine := {}
  /-- configuration in force since the last start; R414; reset as ChsEngine. -/
  act : ChsEngine := {}
  /-- 5 bits; CHS_E_STATUS; reset 0. PC. -/
  pc : Nat := 0
  /-- 1 bit; CHS_E_STATUS; reset 0. RUN. -/
  run : Bool := false
  /-- hold; CHS_E_STATUS of R412; reset none. -/
  hold : ChsHold := .none
  /-- 1 bit; CHS_E_STATUS of R416; reset 0. FAULT. -/
  fault : Bool := false
  /-- 32 bits; R411; reset 0. SH. -/
  sh : Word := 0
  /-- 6 bits; R411; reset 0. BITS. -/
  bits : Nat := 0
  /-- 16 bits; R411; reset 0. -/
  c0 : Nat := 0
  /-- 16 bits; R411; reset 0. -/
  c1 : Nat := 0
  /-- 1 bit; R412; reset 0. -/
  timeout : Bool := false
  /-- up to 2 words; R411; reset empty. -/
  din : List Word := []
  /-- up to 2 words; R411; reset empty. -/
  dout : List Word := []
  /-- 4 bits; R404; reset 0. Window levels driven. -/
  lvl : Nat := 0
  /-- 4 bits; R404; reset 0. Window drive enables. -/
  oe : Nat := 0
  /-- 2 bits; R404; reset 0. Enable output levels. -/
  eo : Nat := 0
  /-- 24 bits; R405; reset 0. Phase accumulator at its last restart. -/
  phaseAcc : Nat := 0
  /-- 8 bits, saturating, RC; CHS_E_CNT of R415; reset 0. -/
  shiftAbandon : Nat := 0
  /-- 8 bits, saturating, RC; CHS_E_CNT of R412; reset 0. -/
  doutLost : Nat := 0
  /-- 8 bits, saturating, RC; CHS_E_CNT of R412; reset 0. -/
  idleFill : Nat := 0
  /-- 8 bits, saturating, RC; CHS_E_CNT of R412; reset 0. -/
  dataMiss : Nat := 0
deriving DecidableEq, Repr

/-- A Chisel group (R403, R407, R413, R414). -/
structure ChsGroup where
  /-- 4 bits; R403; reset none. The Lathe that owns the group. -/
  owner : Option Nat := none
  /-- 8 bits; CHS_CTRL of R414; reset 0. -/
  en : Nat := 0
  /-- 1 bit; CHS_CTRL of R407; reset 0. -/
  swapPend : Bool := false
  /-- 1 bit; CHS_CTRL of R407; reset 0. LIVE_HALF. -/
  liveHalf : Nat := 0
  /-- 1 bit; CHS_CTRL of R414; reset 0. -/
  trigEn : Bool := false
  /-- 5 bits; CHS_CTRL of R414; reset 0. -/
  trigUnit : Nat := 0
  /-- 1 bit; CHS_CTRL of R416; reset 0. -/
  trigMode : Bool := false
  /-- 8 bits, W1C; CHS_FLAGS of R413; reset 0. -/
  flags : Nat := 0
  /-- 8 bits; CHS_FLAGS of R413; reset 0. -/
  flagEn : Nat := 0
  /-- 8 bits; CHS_FLAGS of R413; reset 0. -/
  sync : Nat := 0
  /-- 8 bits, W1C; CHS_FLAGS of R416; reset 0. -/
  faultFlags : Nat := 0
  /-- 8 bits, saturating, RC; CHS_GCNT of R408; reset 0. -/
  storeIgn : Nat := 0
  /-- 8 bits, saturating, RC; CHS_GCNT of R414; reset 0. -/
  starts : Nat := 0
  /-- 128 bits; CHS_GRANT of R404; reset 0. -/
  grant : Nat := 0
  /-- 48 words of 16 bits by half * 24 + address; R407; reset 0 (DESIGN CHOICE, log entry 5). -/
  store : Table Nat := []
  /-- 1 bit; R413; reset 0. A receive entry of the group is pending. -/
  entryDue : Bool := false
  /-- 8 engines; R403; reset as ChsRun. -/
  engines : Table ChsRun := []
deriving DecidableEq, Repr

end Sys2Proof.Machine
end

