-- ==== Sys2Proof/Machine/State/Mailbox.lean ====
section
/-! DEFINITION. The state of mailboxes, locks and doorbells (10_mailboxes). -/

namespace Sys2Proof.Machine

/-- One mailbox channel with its binding and controls (R302 to R307, R315). -/
structure MbxChannel where
  /-- 32 bits; MBX_DATA of R304; reset 0. -/
  word : Word := 0
  /-- 1 bit; MBX_STATUS of R304; reset 0. -/
  full : Bool := false
  /-- 1 bit, W1C; MBX_STATUS of R306; reset 0. -/
  collision : Bool := false
  /-- 1 bit, W1C; MBX_STATUS of R304; reset 0. -/
  reject : Bool := false
  /-- 1 bit, W1C; MBX_STATUS of R307; reset 0. -/
  violation : Bool := false
  /-- 8 bits; MBX_STATUS of R306; reset 0. -/
  lastNode : Nat := 0
  /-- 8 bits, saturating, RC; MBX_EVCNT of R315; reset 0. -/
  fullEv : Nat := 0
  /-- 8 bits, saturating, RC; MBX_EVCNT of R315; reset 0. -/
  collEv : Nat := 0
  /-- 8 bits, saturating, RC; MBX_EVCNT of R315; reset 0. -/
  rejEv : Nat := 0
  /-- 8 bits, saturating, RC; MBX_EVCNT of R315; reset 0. -/
  violEv : Nat := 0
  /-- 5 bits, RWL; MBX_CTRL of R312; reset 0. -/
  rxDb : Nat := 0
  /-- 1 bit, RWL; MBX_CTRL of R312; reset 0. -/
  rxDbEn : Bool := false
  /-- 1 bit, RWL; MBX_CTRL of R311; reset 0. -/
  rxWake : Bool := false
  /-- 5 bits, RWL; MBX_CTRL of R312; reset 0. -/
  txDb : Nat := 0
  /-- 1 bit, RWL; MBX_CTRL of R312; reset 0. -/
  txDbEn : Bool := false
  /-- 6 bits, RWL; MBX_BIND of R302; reset 0. -/
  sender : Nat := 0
  /-- 6 bits, RWL; MBX_BIND of R302; reset 0. -/
  receiver : Nat := 0
  /-- 8 bits, RWL; MBX_BIND of R302; reset 0xFF. -/
  remoteNode : Nat := 0xFF
  /-- 4 bits, RWL; MBX_BIND of R302; reset 0. -/
  lock : Nat := 0
  /-- 1 bit, RWL; MBX_BIND of R302; reset 0. -/
  valid : Bool := false
  /-- 6 bits; R319; reset 0. The identity of the master that wrote the stored word. -/
  writer : Nat := 0
  /-- 1 bit; R326; reset 0. The ownership write of the stored bank CREDIT word was made. -/
  handed : Bool := false
deriving DecidableEq, Repr

/-- The doorbells of one local master (R312 to R315). -/
structure Doorbells where
  /-- 32 bits, W1C; MBX_DB_PEND of R312; reset 0. -/
  pend : Nat := 0
  /-- 32 bits; MBX_DB_ENABLE of R313; reset 0. -/
  enable : Nat := 0
  /-- 32 counters of 8 bits, saturating, RC; MBX_DB_EVCNT of R315; reset 0. -/
  ev : Table Nat := []
deriving DecidableEq, Repr

/-- Everything of 10_mailboxes but the host register window's latches. -/
structure MbxState where
  /-- 64 channels; R302; reset as MbxChannel. -/
  chans : Table MbxChannel := []
  /-- 16 locks, each its owner; R308; reset free. -/
  locks : Table (Option Nat) := []
  /-- doorbells by identity; R312; reset 0. -/
  bells : Table Doorbells := []
  /-- 1 bit; MBX_BIND_LOCK of R302; reset 0. -/
  bindLocked : Bool := false
  /-- receivers whose domain is off, by identity; R311; reset none. -/
  asleep : List Nat := []
  /-- receivers whose domain is powering up after a wake event; R311; reset none. -/
  waking : List Nat := []
deriving DecidableEq, Repr

end Sys2Proof.Machine
end

