-- ==== Sys2Proof/Machine/State/Pool.lean ====
section
/-! DEFINITION. The state of the bank pool and the check units (21_memory_and_check_units). -/

namespace Sys2Proof.Machine

/-- Registers of one pool bank (R565 to R570). -/
structure BankReg where
  /-- 6 bits; POOL_OWNER of R566; reset 0 (Sheaf core 0). -/
  owner : Nat := 0
  /-- 1 bit; POOL_OWNER of R567; reset 0. -/
  pending : Bool := false
  /-- 6 bits; R567; reset 0. The owner a pending handover gives the bank to. -/
  newOwner : Nat := 0
  /-- 8 bits, saturating, RC; POOL_ECC of R570; reset 0. -/
  ce : Nat := 0
  /-- 8 bits, saturating, RC; POOL_ECC of R570; reset 0. -/
  ue : Nat := 0
  /-- 8 bits, saturating, RC; POOL_ECC of R568; reset 0. -/
  wrLost : Nat := 0
  /-- 8 bits, saturating, RC; POOL_ECC of R565; reset 0. -/
  refused : Nat := 0
deriving DecidableEq, Repr

/-- The pool: 64 banks of 512 KiB (R563). -/
structure PoolState where
  /-- 32 MiB; R563; reset 0 in every octet (DESIGN CHOICE, log entry 4). Octets by pool offset. -/
  mem : Table Byte := []
  /-- 64 banks; R566; reset as BankReg. -/
  banks : Table BankReg := []
  /-- word addresses; R570; reset none. Aligned 8-octet words that hold an uncorrectable error. -/
  ueWords : List Nat := []
  /-- 16 bits; POOL_ERR of R570; reset 0. -/
  errWord : Nat := 0
  /-- 6 bits; POOL_ERR of R570; reset 0. -/
  errBank : Nat := 0
  /-- 1 bit; POOL_ERR of R570; reset 0. -/
  errValid : Bool := false
deriving DecidableEq, Repr

/-- One check unit (R572 to R579). -/
structure ChkUnit where
  /-- 1 bit; CHK_CTL of R572; reset 0. -/
  en : Bool := false
  /-- 2 bits; CHK_CTL of R574; reset 0. -/
  alg : Nat := 0
  /-- 2 bits; CHK_CTL of R575; reset 0. -/
  foldSrc : Nat := 0
  /-- 1 bit; CHK_CTL of R575; reset 0. -/
  foldMsb : Bool := false
  /-- 1 bit; CHK_CTL of R575; reset 0. CONTINUE. -/
  cont : Bool := false
  /-- 1 bit; CHK_CTL of R577; reset 0. -/
  expSrc : Bool := false
  /-- 1 bit; CHK_CTL of R577; reset 0. -/
  expMsb : Bool := false
  /-- 1 bit; CHK_CTL of R577; reset 0. -/
  irqEn : Bool := false
  /-- 2 bits; CHK_SEL of R573; reset 0. -/
  kind : Nat := 0
  /-- 1 bit; CHK_SEL of R573; reset 0. -/
  fabTx : Bool := false
  /-- 5 bits; CHK_SEL of R573; reset 0. -/
  port : Nat := 0
  /-- 8 bits; CHK_SEL of R573; reset 0xFF. -/
  tcMask : Nat := 0xFF
  /-- 8 bits; CHK_SEL of R573; reset 0. -/
  ofs : Nat := 0
  /-- 3 bits; CHK_SEL of R573; reset 0. -/
  trim : Nat := 0
  /-- 25 bits; CHK_WIN_BASE of R576; reset 0. -/
  winBase : Nat := 0
  /-- 16 bits; CHK_WIN_LEN of R576; reset 0. -/
  winLen : Nat := 0
  /-- 32 bits; CHK_FOLD of R575; reset 0. -/
  fold : Nat := 0
  /-- 32 bits; CHK_RUN of R575; reset 0. -/
  running : Nat := 0
  /-- 32 bits; CHK_EXP of R577; reset 0. -/
  expected : Nat := 0
  /-- 32 bits; CHK_RESULT of R575; reset 0. -/
  result : Nat := 0
  /-- 1 bit; CHK_STATUS of R578; reset 0. -/
  busy : Bool := false
  /-- 1 bit, W1C; CHK_STATUS of R577; reset 0. -/
  mismatch : Bool := false
  /-- 1 bit, W1C; CHK_STATUS of R576; reset 0. -/
  orderErr : Bool := false
  /-- 1 bit, W1C; CHK_STATUS of R578; reset 0. -/
  runIgn : Bool := false
  /-- 16 bits, wrapping; CHK_CNT of R577; reset 0. -/
  msgs : Nat := 0
  /-- 8 bits, saturating, RC; CHK_CNT of R577; reset 0. -/
  mism : Nat := 0
  /-- 8 bits, saturating, RC; CHK_CNT of R575; reset 0. -/
  abandons : Nat := 0
  /-- 25 bits; R576; reset 0. Next address of a KIND 2 message in progress. -/
  next : Nat := 0
  /-- 32 bits; R575; reset 0. r of the message in progress. -/
  reg : Nat := 0
  /-- octets; R575; reset empty. Octets of a KIND 2 message taken so far. -/
  taken : List Byte := []
  /-- 6 bits; R572; reset none. The Lathe NET.DEFINE grants the unit to; none is the Sheaf. -/
  lathe : Option Nat := none
deriving DecidableEq, Repr

end Sys2Proof.Machine
end

