-- ==== Sys2Proof/Machine/State/Power.lean ====
section
/-! DEFINITION. The state of power monitoring, the journal, the retained records, the firmware slots and start-up
(23_power_journal_startup), and of the cell (01_cell_tick, 24_mode_combinations). -/

namespace Sys2Proof.Machine

/-- A journal record without its stored check (R613); CHECK is computed where the record is read. -/
structure JRec where
  /-- 64 bits; R613. GTC of the event. -/
  gtc : Nat := 0
  /-- 14 bits; R613. -/
  source : Nat := 0
  /-- 16 bits; R614. -/
  kind : Nat := 0
  /-- 16 octets; R613. -/
  body : List Byte := []
deriving DecidableEq, Repr

/-- A page of tier 1 or of the archive (R612). -/
structure JPage where
  /-- 64 bits; R612. -/
  no : Nat := 0
  /-- up to 128 records; R612. -/
  recs : List JRec := []
deriving DecidableEq, Repr

/-- A retained record (R621). -/
structure Retained where
  /-- 32 bits; R621. Generation. -/
  gen : Nat := 0
  /-- octets; R621. Body. -/
  body : List Byte := []
  /-- 1 bit; R621. Whether a valid copy stands. -/
  valid : Bool := false
deriving DecidableEq, Repr

/-- The journal (R612 to R624). -/
structure Journal where
  /-- 64 bits; R612; reset 0 (kept over a device reset). PAGE_NO of the open page. -/
  openNo : Nat := 0
  /-- up to 128 records; R615; reset empty. Records of the open page, committed ones first. -/
  openRecs : List JRec := []
  /-- 8 bits; R612; reset 0. FILL: the committed records of the open page. -/
  fill : Nat := 0
  /-- 2031 closed pages; R616; reset empty (kept over a device reset). Tier 1's closed pages, oldest first. -/
  pages : List JPage := []
  /-- pages; R620; reset empty (kept over a device reset). The archive of tier 2, oldest first. -/
  archive : List JPage := []
  /-- 64 bits; R620; reset 0. PAGE_NO of the next closed page to archive. -/
  nextArchive : Nat := 0
  /-- 32 bits, wrapping; R623; reset 0. LOST: records in GAP ranges since manufacture. -/
  lost : Nat := 0
  /-- records by KIND * 65536 + KEY; R621; reset empty (kept over a device reset). -/
  retained : Table Retained := []
  /-- first and last SEQ; R617; reset none. A lost range that a GAP record will name. -/
  gap : Option (Nat × Nat) := none
  /-- 64 bits; R590; reset 0. PAGE_NO up to which deferred pages are counted in NV_DEFERRED. -/
  deferredTo : Nat := 0
  /-- records held in volatile memory during an inhibit; R609; reset empty. -/
  heldBack : List JRec := []
  /-- 2 bits; R619, R623; reset 3. NOR_OK: bit d is set while NOR device d is in use. -/
  norOk : Nat := 3
  /-- 32 bits, wrapping; R590; reset 0. NV_DEFERRED. -/
  nvDeferred : Nat := 0
  /-- 1 bit; R590; reset 0. Whether tier-2 work is deferred. -/
  deferring : Bool := false
  /-- octets; R590; reset 0. Tier-2 octets written in the running 24 hours. -/
  nvWritten : Nat := 0
  /-- 32 bits; R590, R623; reset 0. RATE_AVG, octets per second. -/
  rateAvg : Nat := 0
  /-- erase counts of the levelled area by sector; R589; reset 0. -/
  erases : Table Nat := []
  /-- sectors found or left in state erasing; R619; reset none. -/
  erasing : List Nat := []
deriving DecidableEq, Repr

/-- A firmware slot as the boot ROM sees it (R625, R629). -/
structure FwSlot where
  /-- 2 bits; R629; reset 0 (kept). 0 empty, 1 invalid, 2 valid. -/
  state : Nat := 0
  /-- 16 bits; R625; reset 0 (kept). -/
  release : Nat := 0
  /-- 8 bits; R625; reset 0 (kept). -/
  replLevel : Nat := 0
  /-- 6 bits; R625; reset 0 (kept). -/
  secVer : Nat := 0
deriving DecidableEq, Repr

/-- Power, firmware and start-up state (R604 to R611, R625 to R635). -/
structure PowerState where
  /-- 8 bits; R608, R614; reset 0 (kept in the always-on domain). Cause of the last reset: 0 power-on, 1 RST_N, 2 rail, 3 SYS.RESET, 4 FW.ACTIVATE, 5 boot watchdog, 6 device fault (log entry 9). -/
  cause : Nat := 0
  /-- 1 bit; R605; reset 0: State.reset is the state at the release of reset. Whether the device is held in reset. -/
  inReset : Bool := false
  /-- 3 conditions (PFW_N, VDDIO_33, VDD_CORE); R609; reset none. Inhibit conditions present. -/
  inhibitBy : List Nat := []
  /-- 1 bit; R609; reset 0. Whether non-volatile writes are inhibited. -/
  inhibit : Bool := false
  /-- 64 bits; R611, R614; reset 0. GTC at which the inhibit began. -/
  inhibitAt : Nat := 0
  /-- 3 bits; R631; reset 0. Stage of start-up in progress, 0 when none. -/
  stage : Nat := 0
  /-- 2 slots, 0 A and 1 B; R625; reset as FwSlot (kept). -/
  slots : Table FwSlot := []
  /-- 1 bit; R626; reset 0 (kept). ACTIVE: 0 slot A, 1 slot B. -/
  active : Nat := 0
  /-- 1 bit; R626; reset 0 (kept). -/
  trial : Bool := false
  /-- 32 bits; R626; reset 0 (kept). GEN of the boot control record. -/
  bootGen : Nat := 0
  /-- 6 bits; R626; reset 0 (fused). MIN_SEC_VER. -/
  minSecVer : Nat := 0
  /-- 1 bit; R627; reset 0. The slot running. -/
  running : Nat := 0
  /-- 8 bits; R299, R629; reset 0. REPL_LEVEL in force. -/
  replLevel : Nat := 0
  /-- 1 bit; R352; reset 0. An FW.LOAD write in progress. -/
  fwWriting : Bool := false
  /-- block numbers; R633; reset none. Blocks stage 3 found failed. -/
  startFailed : List Nat := []
  /-- 1 bit; R633; reset 0. Start-up ended in BOOT with READY and FAULT set. -/
  halted : Bool := false
  /-- stage times in ms; R614, R631; reset empty. -/
  stageMs : List Nat := []
  /-- 1 bit; R609; reset 1. Level of PFW_N. -/
  pfwHigh : Bool := true
  /-- GTC; R347, R629; reset none. When a deferred reset takes effect, and its cause. -/
  resetAt : Option (Nat × Nat) := none
deriving DecidableEq, Repr

/-- The test access port (R664 to R671). -/
structure TapState where
  /-- 5 bits; R664, R665; reset 1 (IDCODE). The instruction in force. -/
  ir : Nat := 1
  /-- bits in the order of the BSDL file; R665, R667; reset 0 (DESIGN CHOICE, log entry 14). Update stage of the boundary-scan register. -/
  update : Nat := 0
  /-- bits; R665, R666; reset 0x28860A3F. What the selected data register captured last. -/
  dr : Nat := 0x28860A3F
  /-- 1 bit; R669; reset 0. The test hold, in which the fused root key is blocked. -/
  hold : Bool := false
  /-- GTC; R668; reset none. When the instruction takes the pins. -/
  takesAt : Option Nat := none
  /-- 1 bit; R668; reset 0. The instruction has the pins. -/
  taken : Bool := false
deriving DecidableEq, Repr

/-- The load record's running figures (R43). -/
structure LoadRec where
  /-- 64 bits; R43; reset 0. GTC_FIRST. -/
  gtcFirst : Nat := 0
  /-- 32 bits; R43; reset 0. TICKS. -/
  ticks : Nat := 0
  /-- 32 bits; R43; reset 0. TILLER_END_PEAK. -/
  tillerEnd : Nat := 0
  /-- 32 bits; R43; reset 0. ASSEMBLY_END_PEAK. -/
  asmEnd : Nat := 0
  /-- 32 bits signed; R43; reset the largest value (DESIGN CHOICE, log entry 10). TX_MARGIN_MIN. -/
  txMargin : Int := 2147483647
  /-- 16 bits; R43; reset 0. TX_MARGIN_NET. -/
  txNet : Nat := 0
  /-- 16 bits; R43; reset 0. DUE_PEAK. -/
  duePeak : Nat := 0
  /-- 16 bits, Q0.16; R43; reset 0. MANDREL_PEAK. -/
  mandrelPeak : Nat := 0
  /-- 16 bits, Q0.16; R43; reset 0. WINNOWER_PEAK. -/
  winnowerPeak : Nat := 0
  /-- 32 bits; R43; reset 0. -/
  overruns : Nat := 0
  /-- 32 bits; R43; reset 0. -/
  underruns : Nat := 0
  /-- 32 bits; R43; reset 0. -/
  txMisses : Nat := 0
  /-- 32 bits; R43; reset 0. -/
  rolls : Nat := 0
  /-- 32 bits; R43; reset 0. GUARD_PEAK. -/
  guardPeak : Nat := 0
  /-- 32 bits; R43; reset 0xFFFFFFFF (DESIGN CHOICE, log entry 10). CLEARED_MIN. -/
  clearedMin : Nat := 0xFFFFFFFF
  /-- 32 bits; R43; reset 0xFFFFFFFF (DESIGN CHOICE, log entry 10). QUEUED_MIN. -/
  queuedMin : Nat := 0xFFFFFFFF
  /-- 16 bits, Q0.16; R43; reset 0x199A (10 %). Threshold. -/
  threshold : Nat := 0x199A
  /-- 1 bit; R43; reset 0. Whether the threshold event of the interval was sent. -/
  reported : Bool := false
deriving DecidableEq, Repr

/-- The cell: tick grid, cell state, role and identity of the device (R9 to R23, R636 to R649). -/
structure CellState where
  /-- 4 bits; HOST_STATE.CELL of R636; reset 1 (BOOT). -/
  state : Nat := 1
  /-- 3 bits; R10; reset 1 (62.5 us). TICK. -/
  tickSel : Nat := 1
  /-- 64 bits; R11; reset 0. Count of the present tick. -/
  tick : Nat := 0
  /-- 64 bits; R11; reset 0. GTC of the present tick's edge. -/
  edge : Nat := 0
  /-- 64 bits; R11, R489; reset 62500. GTC of the next tick edge. -/
  nextEdge : Nat := 62500
  /-- TICK and GTC of the change edge; R14; reset none. -/
  change : Option (Nat × Nat) := none
  /-- 1 bit; R15; reset 0. The tick's output assembly has started. -/
  assembling : Bool := false
  /-- 1 bit; R15; reset 0. The tick's output seal has passed. -/
  sealed : Bool := false
  /-- 1 bit; R19; reset 0. The tick's guard band is open. -/
  guard : Bool := false
  /-- 32 bits; HOST_EPOCH of R293; reset 0 (from the journal at start-up). -/
  epoch : Nat := 0
  /-- 3 bits; HOST_STATE.ROLE; reset 7. 0 CYCLE_MASTER, 1 MEMBER, 2 SHADOW, 3 LISTEN, 4 SLEEP, 7 none. -/
  role : Nat := 7
  /-- 8 bits; HOST_NODE; reset 0. -/
  node : Nat := 0
  /-- 1 bit; HOST_NODE; reset 0. -/
  nodeValid : Bool := false
  /-- 1 bit; HOST_STATE.READY; reset 0. -/
  ready : Bool := false
  /-- 1 bit; HOST_STATE.FAULT; reset 0. -/
  fault : Bool := false
  /-- 32 bits, wrapping; R42; reset 0. Commands rolled. -/
  rolled : Nat := 0
  /-- 16 bits; R636; reset 0. ARM_RUN of PARTIAL. -/
  armRun : Nat := 0
  /-- 512 bits; R636; reset 0. AXIS_RUN of PARTIAL. -/
  axisRun : Nat := 0
  /-- 4 bits; R641; reset 2. Cell state before SLEEP. -/
  wakeTo : Nat := 2
  /-- R43; reset as LoadRec. -/
  load : LoadRec := {}
  /-- 128 bits; SYS.IDENTIFY of R347; reset 0 (PRESUMED, log entry 11: fused). Unique ID. -/
  uid : Nat := 0
  /-- 8 bits; HOST_DEV_ID; reset 0 (PRESUMED, log entry 11: silicon). SI_REV. -/
  siRev : Nat := 0
  /-- 8 bits; HOST_DEV_ID of R1; reset 1 (PRESUMED, log entry 11: part). GRADE. -/
  grade : Nat := 1
  /-- 16 bits; HOST_FW; reset 0 (PRESUMED, log entry 11: firmware). FW_RELEASE. -/
  fwRelease : Nat := 0
deriving DecidableEq, Repr

end Sys2Proof.Machine
end

