-- ==== Sys2Proof/Machine/State/Time.lean ====
section
/-! DEFINITION. The state of the time bases, compare units, capture pins and time stamp insertion (18_time_bases). -/

namespace Sys2Proof.Machine

/-- One time base TB0 to TB7 (R485 to R494). -/
structure TimeBase where
  /-- 104 bits; R486; reset 0. The count in units of 2^-40 ns: SEC, NS, FRAC and the internal fraction. -/
  val : Nat := 0
  /-- 32 bits signed; R486; reset 0. ADJ, rate adjustment. -/
  adj : Int := 0
  /-- 32 bits signed; R490; reset 0. I, the servo's integral term. -/
  integ : Int := 0
  /-- 1 bit; TB_SERVO_CTL of R490; reset 0. -/
  servoEn : Bool := false
  /-- 7 bits; TB_SERVO_CTL of R490; reset 8. -/
  lockN : Nat := 8
  /-- 12 bits; TB_SERVO_CTL of R490; reset 100. -/
  lockNs : Nat := 100
  /-- 12 bits; TB_SERVO_CTL of R491; reset 2000. -/
  holdoverMs : Nat := 2000
  /-- 32 bits; TB_KP of R490; reset 0. -/
  kp : Nat := 0
  /-- 32 bits; TB_KI of R490; reset 0. -/
  ki : Nat := 0
  /-- 31 bits; TB_ADJ_MAX of R490; reset 0x346DC5D6. -/
  adjMax : Nat := 0x346DC5D6
  /-- 15 bits; TB_STEP of R490; reset 0. -/
  stepNs : Nat := 0
  /-- 1 bit; TB_STATUS of R490; reset 0. -/
  locked : Bool := false
  /-- 8 bits; R490; reset 0. LOCK_RUN. -/
  lockRun : Nat := 0
  /-- 1 bit; TB_STATUS of R491; reset 0. -/
  holdover : Bool := false
  /-- 1 bit; TB_STATUS of R494; reset 0. -/
  convErr : Bool := false
  /-- 1 bit; TB_STATUS of R494; reset 0. -/
  convStepped : Bool := false
  /-- 32 bits signed; R490; reset 0. LAST_OFS. -/
  lastOfs : Int := 0
  /-- 8 bits, saturating, RC; TB_STATUS of R490; reset 0. -/
  steps : Nat := 0
  /-- 8 bits, saturating, RC; TB_STATUS of R490; reset 0. -/
  ofsIgn : Nat := 0
  /-- 8 bits, wrapping; TB_STATUS of R490; reset 0. -/
  samples : Nat := 0
  /-- 32 bits; TB_CONV_LO of R494; reset 0. -/
  convLo : Nat := 0
  /-- 32 bits; TB_CONV_HI of R494; reset 0. -/
  convHi : Nat := 0
  /-- 120 bits; TB_CONV_NS, TB_CONV_SEC and TB_CONV_FRAC of R494 as one count of 2^-16 ns; reset 0. -/
  conv : Nat := 0
  /-- time clock; R494; reset 0. The cycle from which the conversion's result may be read. -/
  convReady : Nat := 0
  /-- 64 bits; R494; reset 0. GTC of the last step or set of the base (for CONV_STEPPED); 0 when there was none. -/
  lastStep : Nat := 0
  /-- 64 bits; R491; reset 0. GTC of the last offset sample, from which HOLDOVER_MS is measured. -/
  lastSample : Nat := 0
deriving DecidableEq, Repr

/-- A master's latch of one base (R488). -/
structure TbLatch where
  /-- 48 bits; R488; reset 0. -/
  sec : Nat := 0
  /-- 32 bits; R488; reset 0. -/
  ns : Nat := 0
  /-- 16 bits; R488; reset 0. -/
  frac : Nat := 0
deriving DecidableEq, Repr

/-- Compare unit (R495 to R499). -/
structure CmpUnit where
  /-- 1 bit; CMP_CTL of R496; reset 0. -/
  arm : Bool := false
  /-- 1 bit; CMP_CTL of R498; reset 0. -/
  entryEn : Bool := false
  /-- 1 bit; CMP_CTL of R499; reset 0. -/
  pinEn : Bool := false
  /-- 3 bits; CMP_CTL of R499; reset 0. -/
  action : Nat := 0
  /-- 6 bits; CMP_CTL of R499; reset 0. -/
  pin : Nat := 0
  /-- 8 bits; CMP_CTL of R499; reset 0. -/
  width : Nat := 0
  /-- 3 bits; CMP_CTL of R492; reset 0. The base followed. -/
  tb : Nat := 0
  /-- 32 bits; CMP_TARGET of R496; reset 0. -/
  target : Nat := 0
  /-- 31 bits; CMP_PERIOD of R496; reset 0. -/
  period : Nat := 0
  /-- 1 bit, W1C; CMP_STATUS of R496; reset 0. -/
  late : Bool := false
  /-- 1 bit, W1C; CMP_STATUS of R503; reset 0. -/
  stepped : Bool := false
  /-- 6 bits; CMP_STATUS of R492; reset 0x3F. -/
  owner : Nat := 0x3F
  /-- 8 bits, saturating, RC; CMP_STATUS of R496; reset 0. -/
  lateEv : Nat := 0
  /-- 16 bits, wrapping; CMP_STATUS of R496; reset 0. -/
  matchCount : Nat := 0
deriving DecidableEq, Repr

/-- Capture pin (R500, R501). -/
structure CapPin where
  /-- 2 bits; CAP_CTL of R500; reset 0. -/
  edge : Nat := 0
  /-- 1 bit; CAP_CTL of R501; reset 0. -/
  snap : Bool := false
  /-- 8 bits; CAP_CTL of R500; reset 0. -/
  filt : Nat := 0
  /-- at most 4 stamps; R500; reset empty. Stamps in units of 0.5 ns of GTC, oldest first. -/
  fifo : List Nat := []
  /-- 1 bit; CAP_STATUS of R500; reset 0. The filtered level. -/
  level : Bool := false
  /-- 8 bits, saturating, RC; CAP_STATUS of R500; reset 0. -/
  ovf : Nat := 0
  /-- stamps; R501; reset empty. Stamps moved into the tick snapshot, in units of 0.5 ns. -/
  snapped : List Nat := []
  /-- axis; R185; reset none. The homing axis that holds the pin. -/
  homing : Option Nat := none
deriving DecidableEq, Repr

/-- Time stamp insertion of one Lathe (R502). -/
structure TsIns where
  /-- 2 bits; TS_INS_CFG of R502; reset 0. -/
  mode : Nat := 0
  /-- 3 bits; TS_INS_CFG of R502; reset 0. -/
  tb : Nat := 0
  /-- 1 bit, W1C; TS_INS_CFG of R502; reset 0. -/
  tsNew : Bool := false
  /-- 10 bits; TS_INS_CFG of R502; reset 0. -/
  ofs : Nat := 0
  /-- 10 bits; TS_INS_CFG of R502; reset 0. -/
  cfOfs : Nat := 0
  /-- 6 bits, saturating, RC; TS_INS_CFG of R502; reset 0. -/
  tsFault : Nat := 0
  /-- 32 bits; TS_LAST_SEC of R502; reset 0. -/
  lastSec : Nat := 0
  /-- 32 bits; TS_LAST_NS of R502; reset 0. -/
  lastNs : Nat := 0
deriving DecidableEq, Repr

/-- A general I/O pin that compare units drive (R499). -/
structure TimerPin where
  /-- 1 bit; R499; reset 0. A compare unit has driven the pin. -/
  driven : Bool := false
  /-- 1 bit; R499; reset 0. The level driven. -/
  level : Bool := false
  /-- time clock; R499; reset 0. End of a pulse, 0 when none runs; the pin is low from then on. -/
  pulseEnd : Nat := 0
  /-- time clock plus one; R499; reset 0. The cycle of the last action, 0 when there was none. -/
  lastClk : Nat := 0
  /-- 5 bits; R499; reset 0. The unit of the last action. -/
  lastUnit : Nat := 0
deriving DecidableEq, Repr

/-- Everything of 18_time_bases. -/
structure TimeState where
  /-- time clock; R486; reset 0. Cycles of the 250 MHz time clock since reset. -/
  clk : Nat := 0
  /-- 8 bases; R485; reset all zero. -/
  bases : Table TimeBase := []
  /-- latches by base * 64 + master; R488; reset 0. -/
  latches : Table TbLatch := []
  /-- 32 units; R495; reset as CmpUnit. -/
  cmp : Table CmpUnit := []
  /-- 8 pins; R500; reset as CapPin. -/
  cap : Table CapPin := []
  /-- 16 Lathes; R502; reset as TsIns. -/
  ins : Table TsIns := []
  /-- pins by number; R499; reset as TimerPin. -/
  pins : Table TimerPin := []
deriving DecidableEq, Repr

end Sys2Proof.Machine
end

