-- ==== Sys2Proof/Machine/State/Winnower.lean ====
section
/-! DEFINITION. The state of background work and self-test (22_background_and_self_test): scrubbing, calibration, wear,
telemetry, tests and unusable blocks. Memories are numbered 0 bank pool, 1 switch buffer, 2 Lathe instruction stores,
3 set-point queues, 4 Tiller state memory, 5 Winnower scratch. -/

namespace Sys2Proof.Machine

/-- Scrubbing of one memory (R582, R583). -/
structure Scrub where
  /-- a burst number; WNW_SCRUB of R582; reset 0. Next burst of the present pass. -/
  burst : Nat := 0
  /-- tick count; R582; reset 0. First tick of the present pass. -/
  start : Nat := 0
  /-- 8 bits, wrapping; WNW_SCRUB of R582; reset 0. Passes completed. -/
  passes : Nat := 0
  /-- 32 bits, wrapping; R600; reset 0. CE. -/
  ce : Nat := 0
  /-- 32 bits, wrapping; R600; reset 0. UE. -/
  ue : Nat := 0
  /-- words; R583; reset none. Words corrected in the present pass. -/
  now : List Nat := []
  /-- words; R583; reset none. Words corrected in the pass before. -/
  before : List Nat := []
  /-- words; R583; reset none. Weak words. -/
  weak : List Nat := []
  /-- GTC second and count; R583; reset none. Corrections of the running second. -/
  second : Option (Nat × Nat) := none
  /-- 1 bit; R582; reset 0. The present pass has been counted in SCRUB_LATE. -/
  counted : Bool := false
deriving DecidableEq, Repr

/-- The correction of one converter (R586, R588). -/
structure Calib where
  /-- 16 bits signed; WNW_CAL of R586; reset 0 (DESIGN CHOICE, log entry 14). OFS in force. -/
  ofs : Int := 0
  /-- Q2.16; WNW_CAL of R586; reset 1.0 (DESIGN CHOICE, log entry 14). GAIN in force. -/
  gain : Nat := 0x10000
  /-- OFS, GAIN and the edges until they are in force; R586; reset none. A calibration not reached yet. -/
  target : Option (Int × Nat × Nat) := none
  /-- OFS and GAIN; R588; reset none. The calibration last stored. -/
  stored : Option (Int × Nat) := none
deriving DecidableEq, Repr

/-- A telemetry record waiting (R592): its RTYPE, its GTC and its octets. -/
structure StreamRec where
  /-- 8 bits; R592. -/
  rtype : Nat := 0
  /-- 64 bits; R592. -/
  gtc : Nat := 0
  /-- octets; R592. -/
  data : List Byte := []
deriving DecidableEq, Repr

/-- The telemetry stream (R591 to R593). -/
structure Stream where
  /-- 1 bit; R591; reset 0. EN. -/
  en : Bool := false
  /-- 4 bits; R591; reset 0. PORT. -/
  port : Nat := 0
  /-- 16 bits; R591; reset 0. SELECT. -/
  select : Nat := 0
  /-- 16 bits; R591; reset 16. LOAD_TICKS. -/
  loadTicks : Nat := 16
  /-- 6 octets; R591; reset none. -/
  dstMac : List Byte := []
  /-- 4 octets; R591; reset none. -/
  srcIp : List Byte := []
  /-- 4 octets; R591; reset none. -/
  dstIp : List Byte := []
  /-- 16 bits; R591; reset 0. -/
  udpPort : Nat := 0
  /-- up to 8 axes; R591; reset none. TRACE. -/
  trace : List Nat := []
  /-- 16 bits; R592; reset 0. SEQ. -/
  seq : Nat := 0
  /-- records, at most 16 KiB; R593; reset none. -/
  queue : List StreamRec := []
  /-- 32 bits, wrapping; R593; reset 0. TEL_DROP. -/
  drop : Nat := 0
deriving DecidableEq, Repr

/-- The Winnower (R580 to R603). -/
structure WnwState where
  /-- 1 bit; WNW_STATUS; reset 0. RUN. -/
  run : Bool := false
  /-- 11 bits; WNW_STATUS of R598; reset 0. Slices of the spare's test passed. -/
  spareSlice : Nat := 0
  /-- 6 memories; R582; reset as Scrub. -/
  scrub : Table Scrub := []
  /-- 32 bits, wrapping; R600; reset 0. SCRUB_LATE. -/
  scrubLate : Nat := 0
  /-- cells; R584; reset none. Retired cells of the switch buffer. -/
  retired : List Nat := []
  /-- cause and tick count by block number; R600; reset none. Unusable blocks. -/
  unusable : Table (Nat × Nat) := []
  /-- block and cause; R600; reset none. Blocks to be marked at the next edge. -/
  marks : List (Nat × Nat) := []
  /-- by block number (and the loop-back tests at 1000 + block); R596; reset 0. Consecutive failures of its test. -/
  fails : Table Nat := []
  /-- 4 converters; R586; reset as Calib. -/
  cal : Table Calib := []
  /-- ps by direct-drive unit; R587; reset 0 (DESIGN CHOICE, log entry 14). Tap settings in force. -/
  tap : Table Nat := []
  /-- tap settings to load at the next edge; R587; reset none. -/
  tapNext : Table Nat := []
  /-- ps by direct-drive unit; R588; reset 0 (kept as a retained record). Tap settings last stored. -/
  tapKept : Table Nat := []
  /-- axes; R584; reset none. Loop-state records in which a scrub has found an uncorrectable error. -/
  badLoop : List Nat := []
  /-- axis and count of entry; R584; reset none. Set-point queue entries in which a scrub has found one. -/
  badEntry : List (Nat × Nat) := []
  /-- 10 bits signed, 0.25 degrees C; WNW_TEMP of R663; reset 0. TJ. -/
  tj : Int := 0
  /-- ms; WNW_TEMP of R663; reset 0 at power-on (kept over other resets). Time above 85 and above 105 degrees C. -/
  hot85 : Nat := 0
  hot105 : Nat := 0
  /-- R591; reset as Stream. -/
  stream : Stream := {}
deriving DecidableEq, Repr

end Sys2Proof.Machine
end

