-- ==== Sys2Proof/Machine/State.lean ====
section
/-! DEFINITION. State as plain data: one structure per chapter of the spec, the queue of waiting commands, the record of
what was sent out, and the model's own counter of free values. -/

namespace Sys2Proof.Machine

/-- Why a step can stop with a fault. -/
inductive Fault where
  /-- The command names a unit (an axis, an engine, a port) that the device does not have. Raised by the rows of events
  and engine work whose operand is out of the range the spec gives. Safe: the model stops where no hardware step exists. -/
  | noSuchUnit (n : Nat)
deriving DecidableEq, Repr

/-- Why a step can be refused. -/
inductive Refusal where
  /-- The row has no meaning in the model yet. Raised by exec's arm of that row alone. Safe. -/
  | notModelled (mnemonic : String)
deriving DecidableEq, Repr

/-- The committed configuration as its retained record holds it (kind 0x0A of R621); its octet layout is not the spec's, so it is kept
as data (log entry 60). -/
structure Kept where
  /-- 512 axes; R621, R634; reset as Axis. Their settings alone. -/
  axes : Table Axis := []
  /-- 16 arms; R621; reset as Arm. Their settings alone. -/
  arms : Table Arm := []
  /-- 64 cam tables; R122; reset empty. -/
  cams : Table Cam := []
  /-- 32 networks; R621; reset as Network. -/
  nets : Table Network := []
  /-- 4096 zones; R621; reset as Zone. -/
  zones : Table Zone := []
  /-- 8 bases; R621; reset as TimeBase. Their servo settings alone. -/
  bases : Table TimeBase := []
  /-- 32 units; R492; reset as CmpUnit. The base followed and the owner alone. -/
  cmp : Table CmpUnit := []
  /-- 7 bits; R160; reset 0. N. -/
  pwmN : Nat := 0
deriving DecidableEq, Repr

/-- The machine. -/
structure State where
  time : TimeState := {}
  cell : CellState := {}
  power : PowerState := {}
  /-- R664; reset as TapState (kept over a device reset). -/
  tap : TapState := {}
  /-- kind 0x0A; R621; reset none (kept over a device reset). -/
  kept : Option Kept := none
  /-- 64 bits; R621; reset 0. GTC at which kind 0x0A was last written. -/
  keptAt : Nat := 0
  jrnl : Journal := {}
  host : HostState := {}
  mbx : MbxState := {}
  pool : PoolState := {}
  /-- 16 units; R572; reset as ChkUnit. -/
  chk : Table ChkUnit := []
  /-- 16 engines; R354; reset as Lathe. -/
  lathes : Table Lathe := []
  /-- 24 entries; R360; reset empty (kept in NOR). -/
  images : Table StoreEntry := []
  /-- 1024 contexts; R361; reset as FlowCtx. -/
  ctxs : Table FlowCtx := []
  /-- customer ID and key record; R359; reset none (kept in NOR). -/
  custKey : Option (List Byte) := none
  /-- 8 groups; R403; reset as ChsGroup. -/
  chisels : Table ChsGroup := []
  /-- 4 controllers; R452; reset as Can. -/
  cans : Table Can := []
  /-- 12 MACs; R420; reset as Mac. -/
  macs : Table Mac := []
  switch : SwitchState := {}
  wnw : WnwState := {}
  motion : MotionState := {}
  claim : ClaimState := {}
  glume : GlumeState := {}
  fab : FabricState := {}
  pair : PairState := {}
  /-- 32 networks; R466; reset as Network. -/
  nets : Table Network := []
  /-- 32 bits; R305, R5; reset 0 (the model's own, log entry 3). The value the last register or lock read returned. -/
  rd : Nat := 0
  /-- items; reset empty (the model's own, log entry 3). What the block has sent out, oldest first. -/
  out : List Out := []
  /-- a count; reset 0 (the model's own, log entry 2). How many free values have been taken. -/
  freeCount : Nat := 0
  /-- commands; reset empty. The commands that wait, first in first out. -/
  pending : List Instr := []
deriving DecidableEq, Repr

/-- The machine right after reset. -/
def State.reset : State := {}

end Sys2Proof.Machine
end

