-- ==== Sys2Proof/Machine/Table.lean ====
section
/-! DEFINITION. Reading and writing a `Table`: a list of numbered records in one canonical form, where a number that is
not listed reads as the reset record `d` of its kind. -/

namespace Sys2Proof.Machine

/-- The record of number `k`. -/
def Table.get {α : Type} (d : α) : Table α → Nat → α
  | [], _ => d
  | (j, a) :: t, k => if k = j then a else Table.get d t k

/-- The table without record `k`. -/
def Table.del {α : Type} : Table α → Nat → Table α
  | [], _ => []
  | (j, a) :: t, k => if k = j then Table.del t k else (j, a) :: Table.del t k

/-- The table with record `k` put in its place. -/
def Table.put {α : Type} : Table α → Nat → α → Table α
  | [], k, v => [(k, v)]
  | (j, a) :: t, k, v =>
    if k = j then (k, v) :: t
    else if k < j then (k, v) :: (j, a) :: t
    else (j, a) :: Table.put t k v

/-- The table with record `k` replaced; a record equal to the reset record is not listed. -/
def Table.set {α : Type} [DecidableEq α] (d : α) (t : Table α) (k : Nat) (v : α) : Table α :=
  if v = d then Table.del t k else Table.put t k v

/-- The record of number `k` passed through a function. -/
def Table.upd {α : Type} [DecidableEq α] (d : α) (t : Table α) (k : Nat) (f : α → α) : Table α :=
  Table.set d t k (f (Table.get d t k))

/-- The numbers of a table rise strictly, and every one is above a bound. -/
def Table.above {α : Type} : Nat → Table α → Bool
  | _, [] => true
  | n, (j, _) :: t => decide (n ≤ j) && Table.above (j + 1) t

/-- The canonical form: strictly rising numbers, no record equal to the reset record. -/
def Table.wf {α : Type} [DecidableEq α] (d : α) (t : Table α) : Bool :=
  Table.above 0 t && t.all (fun p => decide (p.2 ≠ d))

/-- The listed numbers. -/
def Table.keys {α : Type} (t : Table α) : List Nat := t.map Prod.fst

end Sys2Proof.Machine
end

