-- ==== Sys2Proof/Machine/Access.lean ====
section
/-! DEFINITION. One record of each numbered kind read out of the state and written back. -/

namespace Sys2Proof.Machine

/-- The record of time base `n`. -/
def State.base (s : State) (n : Nat) : TimeBase := Table.get {} s.time.bases n

/-- The state with the record of time base `n` replaced. -/
def State.setBase (s : State) (n : Nat) (v : TimeBase) : State :=
  { s with time := { s.time with bases := Table.set {} s.time.bases n v } }

/-- The state with the record of time base `n` passed through a function. -/
def State.updBase (s : State) (n : Nat) (f : TimeBase → TimeBase) : State := s.setBase n (f (s.base n))

/-- The record of latch of a master and base (base * 64 + master) `n`. -/
def State.latch (s : State) (n : Nat) : TbLatch := Table.get {} s.time.latches n

/-- The state with the record of latch of a master and base (base * 64 + master) `n` replaced. -/
def State.setLatch (s : State) (n : Nat) (v : TbLatch) : State :=
  { s with time := { s.time with latches := Table.set {} s.time.latches n v } }

/-- The state with the record of latch of a master and base (base * 64 + master) `n` passed through a function. -/
def State.updLatch (s : State) (n : Nat) (f : TbLatch → TbLatch) : State := s.setLatch n (f (s.latch n))

/-- The record of compare unit `n`. -/
def State.cmp (s : State) (n : Nat) : CmpUnit := Table.get {} s.time.cmp n

/-- The state with the record of compare unit `n` replaced. -/
def State.setCmp (s : State) (n : Nat) (v : CmpUnit) : State :=
  { s with time := { s.time with cmp := Table.set {} s.time.cmp n v } }

/-- The state with the record of compare unit `n` passed through a function. -/
def State.updCmp (s : State) (n : Nat) (f : CmpUnit → CmpUnit) : State := s.setCmp n (f (s.cmp n))

/-- The record of capture pin `n`. -/
def State.cap (s : State) (n : Nat) : CapPin := Table.get {} s.time.cap n

/-- The state with the record of capture pin `n` replaced. -/
def State.setCap (s : State) (n : Nat) (v : CapPin) : State :=
  { s with time := { s.time with cap := Table.set {} s.time.cap n v } }

/-- The state with the record of capture pin `n` passed through a function. -/
def State.updCap (s : State) (n : Nat) (f : CapPin → CapPin) : State := s.setCap n (f (s.cap n))

/-- The record of time stamp insertion of Lathe `n`. -/
def State.tsIns (s : State) (n : Nat) : TsIns := Table.get {} s.time.ins n

/-- The state with the record of time stamp insertion of Lathe `n` replaced. -/
def State.setTsIns (s : State) (n : Nat) (v : TsIns) : State :=
  { s with time := { s.time with ins := Table.set {} s.time.ins n v } }

/-- The state with the record of time stamp insertion of Lathe `n` passed through a function. -/
def State.updTsIns (s : State) (n : Nat) (f : TsIns → TsIns) : State := s.setTsIns n (f (s.tsIns n))

/-- The record of mailbox channel `n`. -/
def State.chan (s : State) (n : Nat) : MbxChannel := Table.get {} s.mbx.chans n

/-- The state with the record of mailbox channel `n` replaced. -/
def State.setChan (s : State) (n : Nat) (v : MbxChannel) : State :=
  { s with mbx := { s.mbx with chans := Table.set {} s.mbx.chans n v } }

/-- The state with the record of mailbox channel `n` passed through a function. -/
def State.updChan (s : State) (n : Nat) (f : MbxChannel → MbxChannel) : State := s.setChan n (f (s.chan n))

/-- The record of doorbells of master `n`. -/
def State.bells (s : State) (n : Nat) : Doorbells := Table.get {} s.mbx.bells n

/-- The state with the record of doorbells of master `n` replaced. -/
def State.setBells (s : State) (n : Nat) (v : Doorbells) : State :=
  { s with mbx := { s.mbx with bells := Table.set {} s.mbx.bells n v } }

/-- The state with the record of doorbells of master `n` passed through a function. -/
def State.updBells (s : State) (n : Nat) (f : Doorbells → Doorbells) : State := s.setBells n (f (s.bells n))

/-- The record of pool bank `n`. -/
def State.bank (s : State) (n : Nat) : BankReg := Table.get {} s.pool.banks n

/-- The state with the record of pool bank `n` replaced. -/
def State.setBank (s : State) (n : Nat) (v : BankReg) : State :=
  { s with pool := { s.pool with banks := Table.set {} s.pool.banks n v } }

/-- The state with the record of pool bank `n` passed through a function. -/
def State.updBank (s : State) (n : Nat) (f : BankReg → BankReg) : State := s.setBank n (f (s.bank n))

/-- The record of check unit `n`. -/
def State.chkUnit (s : State) (n : Nat) : ChkUnit := Table.get {} s.chk n

/-- The state with the record of check unit `n` replaced. -/
def State.setChkUnit (s : State) (n : Nat) (v : ChkUnit) : State :=
  { s with chk := Table.set {} s.chk n v }

/-- The state with the record of check unit `n` passed through a function. -/
def State.updChkUnit (s : State) (n : Nat) (f : ChkUnit → ChkUnit) : State := s.setChkUnit n (f (s.chkUnit n))

/-- The record of Lathe engine `n`. -/
def State.lathe (s : State) (n : Nat) : Lathe := Table.get {} s.lathes n

/-- The state with the record of Lathe engine `n` replaced. -/
def State.setLathe (s : State) (n : Nat) (v : Lathe) : State :=
  { s with lathes := Table.set {} s.lathes n v }

/-- The state with the record of Lathe engine `n` passed through a function. -/
def State.updLathe (s : State) (n : Nat) (f : Lathe → Lathe) : State := s.setLathe n (f (s.lathe n))

/-- The record of image store entry `n`. -/
def State.image (s : State) (n : Nat) : StoreEntry := Table.get {} s.images n

/-- The state with the record of image store entry `n` replaced. -/
def State.setImage (s : State) (n : Nat) (v : StoreEntry) : State :=
  { s with images := Table.set {} s.images n v }

/-- The state with the record of image store entry `n` passed through a function. -/
def State.updImage (s : State) (n : Nat) (f : StoreEntry → StoreEntry) : State := s.setImage n (f (s.image n))

/-- The record of flow context `n`. -/
def State.ctx (s : State) (n : Nat) : FlowCtx := Table.get {} s.ctxs n

/-- The state with the record of flow context `n` replaced. -/
def State.setCtx (s : State) (n : Nat) (v : FlowCtx) : State :=
  { s with ctxs := Table.set {} s.ctxs n v }

/-- The state with the record of flow context `n` passed through a function. -/
def State.updCtx (s : State) (n : Nat) (f : FlowCtx → FlowCtx) : State := s.setCtx n (f (s.ctx n))

/-- The record of Chisel group `n`. -/
def State.chisel (s : State) (n : Nat) : ChsGroup := Table.get {} s.chisels n

/-- The state with the record of Chisel group `n` replaced. -/
def State.setChisel (s : State) (n : Nat) (v : ChsGroup) : State :=
  { s with chisels := Table.set {} s.chisels n v }

/-- The state with the record of Chisel group `n` passed through a function. -/
def State.updChisel (s : State) (n : Nat) (f : ChsGroup → ChsGroup) : State := s.setChisel n (f (s.chisel n))

/-- The record of CAN FD controller `n`. -/
def State.can (s : State) (n : Nat) : Can := Table.get {} s.cans n

/-- The state with the record of CAN FD controller `n` replaced. -/
def State.setCan (s : State) (n : Nat) (v : Can) : State :=
  { s with cans := Table.set {} s.cans n v }

/-- The state with the record of CAN FD controller `n` passed through a function. -/
def State.updCan (s : State) (n : Nat) (f : Can → Can) : State := s.setCan n (f (s.can n))

/-- The record of MAC `n`. -/
def State.mac (s : State) (n : Nat) : Mac := Table.get {} s.macs n

/-- The state with the record of MAC `n` replaced. -/
def State.setMac (s : State) (n : Nat) (v : Mac) : State :=
  { s with macs := Table.set {} s.macs n v }

/-- The state with the record of MAC `n` passed through a function. -/
def State.updMac (s : State) (n : Nat) (f : Mac → Mac) : State := s.setMac n (f (s.mac n))

/-- The record of switch rings of Lathe `n`. -/
def State.swRing (s : State) (n : Nat) : LatheRing := Table.get {} s.switch.rings n

/-- The state with the record of switch rings of Lathe `n` replaced. -/
def State.setSwRing (s : State) (n : Nat) (v : LatheRing) : State :=
  { s with switch := { s.switch with rings := Table.set {} s.switch.rings n v } }

/-- The state with the record of switch rings of Lathe `n` passed through a function. -/
def State.updSwRing (s : State) (n : Nat) (f : LatheRing → LatheRing) : State := s.setSwRing n (f (s.swRing n))

/-- The record of mirror session `n`. -/
def State.mirror (s : State) (n : Nat) : Mirror := Table.get {} s.switch.mirrors n

/-- The state with the record of mirror session `n` replaced. -/
def State.setMirror (s : State) (n : Nat) (v : Mirror) : State :=
  { s with switch := { s.switch with mirrors := Table.set {} s.switch.mirrors n v } }

/-- The state with the record of mirror session `n` passed through a function. -/
def State.updMirror (s : State) (n : Nat) (f : Mirror → Mirror) : State := s.setMirror n (f (s.mirror n))

/-- The record of network `n`. -/
def State.net (s : State) (n : Nat) : Network := Table.get {} s.nets n

/-- The state with the record of network `n` replaced. -/
def State.setNet (s : State) (n : Nat) (v : Network) : State :=
  { s with nets := Table.set {} s.nets n v }

/-- The state with the record of network `n` passed through a function. -/
def State.updNet (s : State) (n : Nat) (f : Network → Network) : State := s.setNet n (f (s.net n))

/-- The record of scrubbed memory `n`. -/
def State.scrub (s : State) (n : Nat) : Scrub := Table.get {} s.wnw.scrub n

/-- The state with the record of scrubbed memory `n` replaced. -/
def State.setScrub (s : State) (n : Nat) (v : Scrub) : State :=
  { s with wnw := { s.wnw with scrub := Table.set {} s.wnw.scrub n v } }

/-- The state with the record of scrubbed memory `n` passed through a function. -/
def State.updScrub (s : State) (n : Nat) (f : Scrub → Scrub) : State := s.setScrub n (f (s.scrub n))

/-- The record of calibration of converter `n`. -/
def State.calib (s : State) (n : Nat) : Calib := Table.get {} s.wnw.cal n

/-- The state with the record of calibration of converter `n` replaced. -/
def State.setCalib (s : State) (n : Nat) (v : Calib) : State :=
  { s with wnw := { s.wnw with cal := Table.set {} s.wnw.cal n v } }

/-- The state with the record of calibration of converter `n` passed through a function. -/
def State.updCalib (s : State) (n : Nat) (f : Calib → Calib) : State := s.setCalib n (f (s.calib n))

/-- The record of axis `n`. -/
def State.axis (s : State) (n : Nat) : Axis := Table.get {} s.motion.axes n

/-- The state with the record of axis `n` replaced. -/
def State.setAxis (s : State) (n : Nat) (v : Axis) : State :=
  { s with motion := { s.motion with axes := Table.set {} s.motion.axes n v } }

/-- The state with the record of axis `n` passed through a function. -/
def State.updAxis (s : State) (n : Nat) (f : Axis → Axis) : State := s.setAxis n (f (s.axis n))

/-- The record of arm `n`. -/
def State.arm (s : State) (n : Nat) : Arm := Table.get {} s.motion.arms n

/-- The state with the record of arm `n` replaced. -/
def State.setArm (s : State) (n : Nat) (v : Arm) : State :=
  { s with motion := { s.motion with arms := Table.set {} s.motion.arms n v } }

/-- The state with the record of arm `n` passed through a function. -/
def State.updArm (s : State) (n : Nat) (f : Arm → Arm) : State := s.setArm n (f (s.arm n))

/-- The record of cam table `n`. -/
def State.cam (s : State) (n : Nat) : Cam := Table.get {} s.motion.cams n

/-- The state with the record of cam table `n` replaced. -/
def State.setCam (s : State) (n : Nat) (v : Cam) : State :=
  { s with motion := { s.motion with cams := Table.set {} s.motion.cams n v } }

/-- The state with the record of cam table `n` passed through a function. -/
def State.updCam (s : State) (n : Nat) (f : Cam → Cam) : State := s.setCam n (f (s.cam n))

/-- The record of Tiller engine `n`. -/
def State.tiller (s : State) (n : Nat) : Tiller := Table.get {} s.motion.tillers n

/-- The state with the record of Tiller engine `n` replaced. -/
def State.setTiller (s : State) (n : Nat) (v : Tiller) : State :=
  { s with motion := { s.motion with tillers := Table.set {} s.motion.tillers n v } }

/-- The state with the record of Tiller engine `n` passed through a function. -/
def State.updTiller (s : State) (n : Nat) (f : Tiller → Tiller) : State := s.setTiller n (f (s.tiller n))

/-- The record of converter `n`. -/
def State.adc (s : State) (n : Nat) : Adc := Table.get {} s.motion.adcs n

/-- The state with the record of converter `n` replaced. -/
def State.setAdc (s : State) (n : Nat) (v : Adc) : State :=
  { s with motion := { s.motion with adcs := Table.set {} s.motion.adcs n v } }

/-- The state with the record of converter `n` passed through a function. -/
def State.updAdc (s : State) (n : Nat) (f : Adc → Adc) : State := s.setAdc n (f (s.adc n))

/-- The record of general I/O pin `n`. -/
def State.gpio (s : State) (n : Nat) : GpioPin := Table.get {} s.motion.gpio n

/-- The state with the record of general I/O pin `n` replaced. -/
def State.setGpio (s : State) (n : Nat) (v : GpioPin) : State :=
  { s with motion := { s.motion with gpio := Table.set {} s.motion.gpio n v } }

/-- The state with the record of general I/O pin `n` passed through a function. -/
def State.updGpio (s : State) (n : Nat) (f : GpioPin → GpioPin) : State := s.setGpio n (f (s.gpio n))

/-- The record of zone `n`. -/
def State.zone (s : State) (n : Nat) : Zone := Table.get {} s.claim.zones n

/-- The state with the record of zone `n` replaced. -/
def State.setZone (s : State) (n : Nat) (v : Zone) : State :=
  { s with claim := { s.claim with zones := Table.set {} s.claim.zones n v } }

/-- The state with the record of zone `n` passed through a function. -/
def State.updZone (s : State) (n : Nat) (f : Zone → Zone) : State := s.setZone n (f (s.zone n))

/-- The record of claim counters of arm `n`. -/
def State.claimCount (s : State) (n : Nat) : ClaimCount := Table.get {} s.claim.counts n

/-- The state with the record of claim counters of arm `n` replaced. -/
def State.setClaimCount (s : State) (n : Nat) (v : ClaimCount) : State :=
  { s with claim := { s.claim with counts := Table.set {} s.claim.counts n v } }

/-- The state with the record of claim counters of arm `n` passed through a function. -/
def State.updClaimCount (s : State) (n : Nat) (f : ClaimCount → ClaimCount) : State := s.setClaimCount n (f (s.claimCount n))

/-- The record of safety source `n`. -/
def State.gsrc (s : State) (n : Nat) : GlmSrcState := Table.get {} s.glume.sources n

/-- The state with the record of safety source `n` replaced. -/
def State.setGsrc (s : State) (n : Nat) (v : GlmSrcState) : State :=
  { s with glume := { s.glume with sources := Table.set {} s.glume.sources n v } }

/-- The state with the record of safety source `n` passed through a function. -/
def State.updGsrc (s : State) (n : Nat) (f : GlmSrcState → GlmSrcState) : State := s.setGsrc n (f (s.gsrc n))

/-- The record of Glume arm or group `n`. -/
def State.gunit (s : State) (n : Nat) : GlmUnit := Table.get {} s.glume.units n

/-- The state with the record of Glume arm or group `n` replaced. -/
def State.setGunit (s : State) (n : Nat) (v : GlmUnit) : State :=
  { s with glume := { s.glume with units := Table.set {} s.glume.units n v } }

/-- The state with the record of Glume arm or group `n` passed through a function. -/
def State.updGunit (s : State) (n : Nat) (f : GlmUnit → GlmUnit) : State := s.setGunit n (f (s.gunit n))

/-- The record of safe input pair `n`. -/
def State.safeIn (s : State) (n : Nat) : SafeIn := Table.get {} s.glume.inputs n

/-- The state with the record of safe input pair `n` replaced. -/
def State.setSafeIn (s : State) (n : Nat) (v : SafeIn) : State :=
  { s with glume := { s.glume with inputs := Table.set {} s.glume.inputs n v } }

/-- The state with the record of safe input pair `n` passed through a function. -/
def State.updSafeIn (s : State) (n : Nat) (f : SafeIn → SafeIn) : State := s.setSafeIn n (f (s.safeIn n))

/-- The record of safe output pair `n`. -/
def State.safeOut (s : State) (n : Nat) : SafeOut := Table.get {} s.glume.outputs n

/-- The state with the record of safe output pair `n` replaced. -/
def State.setSafeOut (s : State) (n : Nat) (v : SafeOut) : State :=
  { s with glume := { s.glume with outputs := Table.set {} s.glume.outputs n v } }

/-- The state with the record of safe output pair `n` passed through a function. -/
def State.updSafeOut (s : State) (n : Nat) (f : SafeOut → SafeOut) : State := s.setSafeOut n (f (s.safeOut n))

/-- The record of fabric port `n`. -/
def State.fabPort (s : State) (n : Nat) : FabPort := Table.get {} s.fab.ports n

/-- The state with the record of fabric port `n` replaced. -/
def State.setFabPort (s : State) (n : Nat) (v : FabPort) : State :=
  { s with fab := { s.fab with ports := Table.set {} s.fab.ports n v } }

/-- The state with the record of fabric port `n` passed through a function. -/
def State.updFabPort (s : State) (n : Nat) (f : FabPort → FabPort) : State := s.setFabPort n (f (s.fabPort n))

/-- The record of ring `n`. -/
def State.fabRing (s : State) (n : Nat) : FabRing := Table.get {} s.fab.rings n

/-- The state with the record of ring `n` replaced. -/
def State.setFabRing (s : State) (n : Nat) (v : FabRing) : State :=
  { s with fab := { s.fab with rings := Table.set {} s.fab.rings n v } }

/-- The state with the record of ring `n` passed through a function. -/
def State.updFabRing (s : State) (n : Nat) (f : FabRing → FabRing) : State := s.setFabRing n (f (s.fabRing n))

/-- The record of fabric node `n`. -/
def State.fabNode (s : State) (n : Nat) : FabMember := Table.get {} s.fab.nodes n

/-- The state with the record of fabric node `n` replaced. -/
def State.setFabNode (s : State) (n : Nat) (v : FabMember) : State :=
  { s with fab := { s.fab with nodes := Table.set {} s.fab.nodes n v } }

/-- The state with the record of fabric node `n` passed through a function. -/
def State.updFabNode (s : State) (n : Nat) (f : FabMember → FabMember) : State := s.setFabNode n (f (s.fabNode n))

end Sys2Proof.Machine
end

