-- ==== Sys2Proof/Machine/Ops.lean ====
section
/-! DEFINITION. The operations many commands share: time, free values, the record of what is sent, host ports, doorbells,
the journal and events. -/

namespace Sys2Proof.Machine

/-- The outcome of every command that goes on. -/
abbrev Result := Host.Outcome State Fault Refusal

/-- A step on a unit the device has; a number out of its range is no unit (`Fault.noSuchUnit`). -/
def onUnit (n limit : Nat) (s : State) : Result :=
  if n < limit then .next s else .fault (.noSuchUnit n)

/-- A free value: a number nothing constrains, below `m`; the counter of free values moves on (log entry 2). -/
def State.freeBelow (s : State) (m : Nat) : Nat × State :=
  (Config.freeNat s.freeCount % m, { s with freeCount := s.freeCount + 1 })

/-- A free signed value (log entry 2). -/
def State.freeSigned (s : State) : Int × State :=
  (Config.freeInt s.freeCount, { s with freeCount := s.freeCount + 1 })

/-- Puts something on a wire. -/
def State.send (s : State) (o : Out) : State := { s with out := s.out ++ [o] }

/-- A register read returns a value. -/
def State.returns (s : State) (v : Nat) : State := { s with rd := v }

/-! ### Time (R486, R487) -/

/-- Units of 2^-40 ns that a base adds in one time-clock cycle (R486). -/
def TimeBase.rate (b : TimeBase) : Int := 4 * (2 ^ 40 : Int) + b.adj

/-- The count at which SEC wraps to zero (R486). -/
def baseSpan : Nat := 2 ^ 48 * 1000000000 * 2 ^ 40

/-- A base after `n` time-clock cycles (R486). -/
def TimeBase.run (n : Nat) (b : TimeBase) : TimeBase :=
  { b with val := (((b.val : Int) + n * b.rate) % (baseSpan : Int)).toNat }

/-- The ns count of a base, modulo 2^64 (R487). -/
def TimeBase.ns (b : TimeBase) : Nat := wrap 64 (b.val / 2 ^ 40)

/-- The GTC: the ns count of TB0 (R487). -/
def State.gtc (s : State) : Nat := (s.base 0).ns

/-- `n` cycles of the time clock pass (R486). -/
def State.advance (n : Nat) (s : State) : State :=
  { s with time := { s.time with
      clk := s.time.clk + n
      bases := (List.range 8).foldl (fun t k => Table.upd {} t k (TimeBase.run n)) s.time.bases } }

/-- The cycles until a base's ns count reaches a value; 0 when it has. -/
def TimeBase.cyclesTo (b : TimeBase) (target : Nat) : Nat :=
  ceilDiv (target * 2 ^ 40 - b.val) b.rate.toNat

/-- Time passes until the GTC reaches a value, if it has not (log entry 1). -/
def State.advanceTo (target : Nat) (s : State) : State := s.advance ((s.base 0).cyclesTo target)

/-- The tick length in ns of a TICK value (R9). -/
def tickNs (sel : Nat) : Nat := 31250 * 2 ^ sel

/-- The present tick length in ns (R9). -/
def State.tickLen (s : State) : Nat := tickNs s.cell.tickSel

/-- The offset in ns of a phase that the 31.25 us tick puts at `us` microseconds: the offsets double with the tick (R15). -/
def phaseNs (sel us : Nat) : Nat := us * 1000 * 2 ^ sel

/-- Where the Tiller window opens (R15). -/
def tillerOpen (sel : Nat) : Nat := phaseNs sel 1

/-- The post deadline: 0.5 us before the Tiller window opens (R366). -/
def postDeadline (sel : Nat) : Nat := tillerOpen sel - 500

/-- The output seal (R15). -/
def sealOfs (sel : Nat) : Nat := phaseNs sel 17

/-- The end of the transmit band and start of the guard band (R15). -/
def guardOfs (sel : Nat) : Nat := phaseNs sel 28

/-- Ticks in a safety cycle (R9). -/
def ticksPerSafety (sel : Nat) : Nat := if sel = 0 then 8 else if sel = 1 then 4 else if sel = 2 then 2 else 1

/-- The source number of a local source of this device (R36). -/
def State.source (s : State) (loc : Nat) : Nat := s.cell.node * 64 + loc

/-- Whether this device shadows another: it is its shadow, or joins the pair (R279, R647). -/
def State.isShadow (s : State) : Bool := s.cell.role == 2 || (s.cell.role == 3 && s.pair.role == 3)

/-! ### Host ports -/

/-- The host port of identity `p` (R301). -/
def State.port (s : State) (p : Nat) : HostPort := if p = 5 then s.host.qspi else s.host.pcie

/-- The state with host port `p` replaced. -/
def State.setPort (s : State) (p : Nat) (v : HostPort) : State :=
  if p = 5 then { s with host := { s.host with qspi := v } } else { s with host := { s.host with pcie := v } }

/-- Whether an identity is a host port (R301). -/
def isHost (m : Nat) : Bool := m == 4 || m == 5

/-- A refused access of a host port is counted in its HOST_ACCESS_ERR; other masters have no such count (R320). -/
def State.accessErr (s : State) (m : Nat) : State :=
  if isHost m then
    let p := s.port m
    s.setPort m { p with accessErr := wrap 32 (p.accessErr + 1) }
  else s

/-! ### Doorbells (R312, R313) -/

/-- The enabled pending doorbells of a master; its interrupt is active while any is set (R312). -/
def Doorbells.active (d : Doorbells) : Nat := d.pend &&& d.enable

/-- Doorbell bit `b` of master `m` is set and its event counted; PCIe signals one MSI when its active set leaves zero (R312, R313, R315). -/
def State.ring (s : State) (m b : Nat) : State :=
  let d := s.bells m
  let d' : Doorbells := { d with pend := setBit d.pend b, ev := Table.upd 0 d.ev b (fun n => satAdd 255 n 1) }
  let s := s.setBells m d'
  if m = 4 ∧ d.active = 0 ∧ d'.active ≠ 0 then s.send .msi else s

/-! ### CRC (R78, R574) -/

/-- One octet into a reflected 32-bit CRC register. -/
def crcBits (poly : Nat) : Nat → Nat → Nat
  | 0, r => r
  | n + 1, r => crcBits poly n (if r % 2 = 1 then (r / 2) ^^^ poly else r / 2)

/-- Octets into a reflected 32-bit CRC register. -/
def crcReflected (poly : Nat) (r : Nat) (bs : List Byte) : Nat :=
  bs.foldl (fun r b => crcBits poly 8 (r ^^^ b.toNat)) r

/-- One octet into the unreflected 16-bit register of CRC-16/CCITT-FALSE. -/
def crc16Bits : Nat → Nat → Nat
  | 0, r => r
  | n + 1, r => crc16Bits n (if 0x8000 ≤ r then ((2 * r) % 65536) ^^^ 0x1021 else 2 * r)

/-- Octets into the register of CRC-16/CCITT-FALSE. -/
def crc16 (r : Nat) (bs : List Byte) : Nat := bs.foldl (fun r b => crc16Bits 8 (r ^^^ (b.toNat * 256))) r

/-- CRC-32C over octets (R78). -/
def crc32c (bs : List Byte) : Nat := crcReflected 0x82F63B78 0xFFFFFFFF bs ^^^ 0xFFFFFFFF

/-- CRC-32C over a fold word and octets (R78): the fold word comes first, least significant octet first. -/
def crcFold (f : Nat) (bs : List Byte) : Nat := crc32c (toLE 4 f ++ bs)

/-! ### Telemetry (R591, R593) -/

/-- A record offered to the telemetry stream: taken when the stream runs and SELECT names it, unless the 16 KiB queue is
full (R591, R593). -/
def State.stream (s : State) (bit rtype gtc : Nat) (data : List Byte) : State :=
  let t := s.wnw.stream
  if !t.en || !bitAt t.select bit then s
  else
    let used := (t.queue.map (fun r => r.data.length + 4)).foldl (· + ·) 0
    let t' := if used + data.length + 4 ≤ 16384 then { t with queue := t.queue ++ [{ rtype := rtype, gtc := gtc, data := data }] }
              else { t with drop := wrap 32 (t.drop + 1) }
    { s with wnw := { s.wnw with stream := t' } }

/-! ### Journal (R612 to R617) -/

/-- The uncommitted records of the open page enter tier 1: FILL counts every record of the page (R615). -/
def Journal.commit (j : Journal) : Journal := { j with fill := j.openRecs.length }

/-- A filled page is closed and the next one opens; the oldest page of the ring becomes the free page (R615, R616). -/
def Journal.closePage (j : Journal) : Journal :=
  let all := j.pages ++ [{ no := j.openNo, recs := j.openRecs }]
  { j with openNo := j.openNo + 1, openRecs := [], fill := 0, pages := all.drop (all.length - 2030) }

/-- A body of 16 octets, padded with zeros. -/
def body16 (bs : List Byte) : List Byte := (bs ++ List.replicate 16 0).take 16

/-- A record as stored (R613): its CHECK covers its sequence number as fold word. -/
def JRec.octets (r : JRec) (seq : Nat) : List Byte :=
  let b := toLE 8 r.gtc ++ toLE 2 r.source ++ toLE 2 r.kind ++ body16 r.body
  b ++ toLE 4 (crcFold (wrap 32 seq) b)

/-- The journal commits its open page, unless writes are inhibited (R609, R615); what it commits goes to the telemetry stream
(R591). -/
def State.commitJournal (s : State) : State :=
  if s.power.inhibit then s else
    let first := s.jrnl.openNo * 128 + s.jrnl.fill
    let new := s.jrnl.openRecs.drop s.jrnl.fill
    ((List.range new.length).zip new).foldl (fun s p => s.stream 5 6 p.2.gtc (p.2.octets (first + p.1)))
      { s with jrnl := s.jrnl.commit }

/-- A journal record by this device: into the open page, or into volatile memory while writes are inhibited (R609, R615); a
page that fills is committed and closed at once (R615). -/
def State.record (s : State) (loc kind : Nat) (bs : List Byte) : State :=
  let r : JRec := { gtc := s.gtc, source := s.source loc, kind := kind, body := body16 bs }
  if s.power.inhibit then { s with jrnl := { s.jrnl with heldBack := s.jrnl.heldBack ++ [r] } }
  else
    let s := { s with jrnl := { s.jrnl with openRecs := s.jrnl.openRecs ++ [r] } }
    if 128 ≤ s.jrnl.openRecs.length then
      let s := s.commitJournal
      { s with jrnl := s.jrnl.closePage }
    else s

/-- A retained record is written: its generation advances by one (R621); no write starts during an inhibit (R609). -/
def State.retain (s : State) (kind key : Nat) (bs : List Byte) : State :=
  if s.power.inhibit then s else
    { s with jrnl := { s.jrnl with
        retained := Table.upd {} s.jrnl.retained (kind * 65536 + key)
          (fun r => { gen := wrap 32 (r.gen + 1), body := bs, valid := true }) } }

/-- A retained record. -/
def State.retained (s : State) (kind key : Nat) : Retained :=
  Table.get {} s.jrnl.retained (kind * 65536 + key)

/-! ### Events (R335, R336, R353) -/

/-- DATA without its trailing zero octets (R335). -/
def trimZeros (bs : List Byte) : List Byte := (bs.reverse.dropWhile (fun b => b == 0)).reverse

/-- The payload octets of an event (R335). -/
def Event.payload (e : Event) : List Byte :=
  toLE 8 e.gtc ++ toLE 2 e.source ++ toLE 2 e.subject ++ trimZeros e.data

/-- N of an event: its EVENT_DATA words, at least 6 (R335). -/
def Event.dataWords (e : Event) : Nat := max 6 ((e.payload.length + 1) / 2)

/-- Words waiting in a port's event queue (R336). -/
def queuedWords (q : List Event) : Nat := (q.map (fun e => 1 + e.dataWords)).foldl (· + ·) 0

/-- The family of an event or command code (11_command_interface, Catalogue). -/
def family (code : Nat) : Nat := field code 8 4

/-- An event for one port: stopped by its mask unless of family SAFE or FAB, queued while it fits 4096 words, else
discarded and counted (R336). -/
def HostPort.offer (p : HostPort) (e : Event) : HostPort :=
  let f := family e.code
  if bitAt p.mask f && !(f == 5) && !(f == 9) then p
  else if queuedWords p.queue + 1 + e.dataWords ≤ 4096 then { p with queue := p.queue ++ [e] }
  else { p with lostNow := wrap 32 (p.lostNow + 1), eventsLost := wrap 32 (p.eventsLost + 1) }

/-- An event raised by a local source: journalled, then offered to each host port (R336, R614). -/
def State.event (s : State) (loc code subject : Nat) (data : List Byte) : State :=
  let e : Event := { code := code, gtc := s.gtc, source := s.source loc, subject := subject, data := data }
  let s := s.record loc code (toLE 2 subject ++ (body16 data).take 14)
  let tail := (body16 data).drop 14
  let s := if tail.all (fun b => b == 0) then s else s.record loc 0x0002 tail
  let s := s.setPort 4 ((s.port 4).offer e)
  s.setPort 5 ((s.port 5).offer e)

/-- Event PROTOCOL_ERROR for a word on a channel, counted for its port (R323, R333). -/
def State.protocolError (s : State) (p ch : Nat) (w : Word) : State :=
  let v := s.port p
  let s := s.setPort p { v with protoErrors := wrap 32 (v.protoErrors + 1) }
  s.event 0 0x8102 (0x3000 + ch) (toLE 4 w.toNat)

/-- A MEMORY record (R614); its body is the model's own layout (log entry 15): what is recorded, the memory, the word and
a count. -/
def State.memoryRecord (s : State) (loc what mem word count : Nat) : State :=
  s.record loc 0x0030 (toLE 1 what ++ toLE 1 mem ++ toLE 2 0 ++ toLE 4 word ++ toLE 4 count)

/-- A block is to be marked unusable at the next edge (R600). -/
def State.doom (s : State) (b cause : Nat) : State := { s with wnw := { s.wnw with marks := s.wnw.marks ++ [(b, cause)] } }

/-- Whether a block is unusable (R600). -/
def State.lost (s : State) (b : Nat) : Bool := (Table.get (0, 0) s.wnw.unusable b).1 != 0

/-! ### Receive entries of the Lathes (R364) -/

/-- Receive entries run in the order of their stamps, ties by port number (R364). -/
def insertEntry (x : RxEntry) : List RxEntry → List RxEntry
  | [] => [x]
  | y :: ys => if x.stamp < y.stamp ∨ (x.stamp = y.stamp ∧ x.reason < y.reason) then x :: y :: ys else y :: insertEntry x ys

/-- A receive entry is requested of a Lathe that holds an image; during a swap it is held (R364, R371). -/
def State.requestEntry (s : State) (e stamp reason arg : Nat) : State :=
  s.updLathe e (fun l =>
    let x : RxEntry := { stamp := stamp, reason := reason, arg := arg }
    if !l.loaded then l
    else if l.migrating then { l with heldRx := insertEntry x l.heldRx }
    else { l with due := insertEntry x l.due })

/-- The Lathe of the network that names a time base (R474). -/
def State.baseLathe (s : State) (n : Nat) : Option Nat :=
  ((List.range 32).find? (fun k => (s.net k).defined && (s.net k).tb == n)).map (fun k => (s.net k).engine)

end Sys2Proof.Machine
end

