-- ==== Sys2Proof/Machine/GlumeBase.lean ====
section
/-! DEFINITION. Causes, stops and safe outputs of the Glume, shared by its rows and by every block that raises a cause
(07_separation_monitoring, R200 to R208, R216, R239, R241). A unit is an arm at its number or an auxiliary group at 16 plus
its number. -/

namespace Sys2Proof.Machine

/-- The cause numbers of R206 the model raises by name. -/
abbrev causeSeparation : Nat := 0
abbrev causeKeepout : Nat := 1
abbrev causePresence : Nat := 2
abbrev causeOverflow : Nat := 3
abbrev causeGuard : Nat := 4
abbrev causeEnable : Nat := 5
abbrev causeEstop : Nat := 6
abbrev causeSensor : Nat := 7
abbrev causeDrive : Nat := 8
abbrev causePosDev : Nat := 9
abbrev causeBrakeOut : Nat := 10
abbrev causeStandstill : Nat := 11
abbrev causeAxisFault : Nat := 12
abbrev causeInput : Nat := 13
abbrev causeOutput : Nat := 14
abbrev causeGlume : Nat := 15
abbrev causeNoConfig : Nat := 16

/-- The active block; with none, one without records stands in (R247). -/
def State.block (s : State) : GlmBlock := s.glume.block.getD {}

/-- The Glume state of a unit: 0 NORMAL, 1 REDUCED, 2 PROTECTIVE_STOP, 3 EMERGENCY (R200). -/
def GlmUnit.state (u : GlmUnit) : Nat :=
  if u.causes.any (fun c => c.1 == causeEstop) then 3 else if u.causes ≠ [] then 2 else if u.factor < 0x8000 then 1 else 0

/-- The units the Glume knows: every arm, and every group of the active block (R200, R247). -/
def State.units (s : State) : List Nat := List.range 16 ++ s.block.groups.map (fun g => 16 + g.group)

/-- The arm record of an arm in the active block. -/
def GlmBlock.arm? (b : GlmBlock) (a : Nat) : Option GlmArm := b.arms.find? (fun r => r.arm == a)

/-- The group record of a group in the active block. -/
def GlmBlock.group? (b : GlmBlock) (g : Nat) : Option GlmGroup := b.groups.find? (fun r => r.group == g)

/-- The axes of a unit under the active block. -/
def GlmBlock.unitAxes (b : GlmBlock) (u : Nat) : List Nat :=
  if u < 16 then ((b.arm? u).map (fun r => r.joints.map (fun j => j.axis))).getD []
  else ((b.group? (u - 16)).map (fun r => r.axes)).getD []

/-- The device's Glume state: the highest of its arms and groups (R200). -/
def State.glumeState (s : State) : Nat := (s.units.map (fun u => (s.gunit u).state)).foldl max 0

/-- The number of a source by its safety address. -/
def GlmBlock.sourceOf (b : GlmBlock) (addr : Nat) : Option Nat := (List.range b.sources.length).find? (fun k => (b.sources.getD k {}).addr == addr)

/-- The drive source of an axis: that of its joint record, or of the group axis's network drives (R212). -/
def GlmBlock.axisSource (b : GlmBlock) (ax : Nat) : Option Nat :=
  ((b.arms.flatMap (fun a => a.joints)).find? (fun j => j.axis == ax)).map (fun j => j.src)

/-- The unit that an axis belongs to under the active block. -/
def GlmBlock.unitOf (b : GlmBlock) (ax : Nat) : Option Nat :=
  match b.arms.find? (fun a => a.joints.any (fun j => j.axis == ax)) with
  | some a => some a.arm
  | none => (b.groups.find? (fun g => g.axes.contains ax)).map (fun g => 16 + g.group)

/-- Whether a unit requires safe torque off: a category 0 stop, or a category 1 stop at its end (R201). -/
def GlmUnit.needsSto (u : GlmUnit) : Bool := u.stop == some 0 || (u.stop == some 1 && u.sto)

/-- The SAFE_CTRL command of a unit: 0 RUN, 1 SS1, 2 SS2, 3 STO (R201, R216). -/
def GlmUnit.command (u : GlmUnit) : Nat :=
  if u.needsSto then 3 else match u.stop with
  | some 1 => 1
  | some 2 => 2
  | _ => 0

/-- The units named by an arm mask and a group mask. -/
def maskUnits (arms groups : Nat) : List Nat :=
  (List.range 16).filter (bitAt arms ·) ++ ((List.range 16).filter (bitAt groups ·)).map (16 + ·)

/-- Whether an STO or STATUS pair is wanted energised (R239, R247); in SLEEP none is (R557). -/
def State.wantsOutput (s : State) (o : GlmOutput) : Bool :=
  let us := maskUnits o.armMask o.auxMask
  s.glume.block.isSome && !s.glume.cut && !(s.safeOut o.pair).fault && s.cell.state != 8 &&
    (if o.function = 1 then us.all (fun u => !(s.gunit u).needsSto)
     else if o.function = 3 then us.all (fun u => decide ((s.gunit u).state ≤ 1)) else false)

/-- Whether an axis's STO pairs are all energised (R205, R241). -/
def State.stoOn (s : State) (ax : Nat) : Bool :=
  match s.block.unitOf ax with
  | none => true
  | some u => s.block.outputs.all (fun o =>
      !(o.function == 1 && (maskUnits o.armMask o.auxMask).contains u) || ((s.safeOut o.pair).high && (s.safeOut o.pair).low))

/-- Whether a BRAKE pair is wanted energised, releasing its brake (R241). -/
def State.wantsBrake (s : State) (o : GlmOutput) : Bool :=
  let v := (s.block.unitOf o.axis).map s.gunit
  let braking := match v with
    | none => false
    | some u => u.stop == some 0 || u.stop == some 1 || u.state == 3
  s.glume.block.isSome && !s.glume.cut && !(s.safeOut o.pair).fault && s.cell.state != 8 && s.glume.release.contains o.axis && s.stoOn o.axis && !braking

/-- Every safe output pair follows what the states of its arms and groups ask (R239, R241): STO and STATUS pairs first, then
brakes, which depend on STO pairs. -/
def State.driveOutputs (s : State) : State :=
  let put (s : State) (o : GlmOutput) (on : Bool) : State := s.updSafeOut o.pair (fun v => { v with high := on, low := on })
  let s := s.block.outputs.foldl (fun s o => if o.function = 1 ∨ o.function = 3 then put s o (s.wantsOutput o) else s) s
  s.block.outputs.foldl (fun s o => if o.function = 2 then put s o (s.wantsBrake o) else s) s

/-- The check of a safety telegram (R210): over the fold word SRC * 2^16 + SEQ, most significant octet first. -/
def telegramCheck (src seq : Nat) (bs : List Byte) : Nat := crc32c (toBE 4 (src * 65536 + seq) ++ bs)

/-- The axes a source's SAFE_CTRL telegrams name, with the units that command them: the joints of the source, and the group
axes bound to its network (R216). -/
def State.ctrlAxes (s : State) (k : Nat) : List (Nat × Nat) :=
  let b := s.block
  let joints := b.arms.flatMap (fun a => (a.joints.filter (fun j => j.src == k)).map (fun j => (j.axis, a.arm)))
  let net := (b.sources.getD k {}).network
  let aux := b.groups.flatMap (fun g => (g.axes.filter (fun ax => match (s.axis ax).binding with
    | .net n _ _ => n == net
    | .dd _ n _ => n == net
    | _ => false)).map (fun ax => (ax, 16 + g.group)))
  joints ++ aux

/-- A SAFE_CTRL telegram to drive source `k` (R209, R210, R216). -/
def State.sendCtrl (s : State) (k : Nat) : State :=
  let b := s.block
  let v := s.gsrc k
  let seq := wrap 16 (v.ctrlSeq + 1)
  let axes := s.ctrlAxes k
  let recs := axes.flatMap (fun p => toBE 2 p.1 ++ toBE 1 (s.gunit p.2).command ++ toBE 1 0)
  let body := toBE 4 (wrap 32 s.glume.cycle) ++ toBE 1 axes.length ++ toBE 1 0 ++ recs
  let bs := toBE 2 b.addr ++ toBE 2 (b.sources.getD k {}).addr ++ toBE 1 0x10 ++ toBE 1 0 ++ toBE 2 seq ++ toBE 2 0 ++
    toBE 2 body.length ++ body
  (s.setGsrc k { v with ctrlSeq := seq }).send (.safeCtrl k (bs ++ toBE 4 (telegramCheck b.addr seq bs)))

/-- SAFE_CTRL to every drive source of a unit: a command in it has changed (R216). A shadow's telegrams stay unsent (R199). -/
def State.ctrlUnit (s : State) (u : Nat) : State :=
  if s.isShadow then s else
  (List.range s.block.sources.length).foldl (fun s k =>
    if (s.block.sources.getD k {}).kind = 0 ∧ (s.ctrlAxes k).any (fun p => p.2 == u) then s.sendCtrl k else s) s

/-- An increments-per-unit scale of a joint record as a number of increments per rad or per metre, in binary32 (R59, R224). -/
def GlmJoint.incPer (j : GlmJoint) : Fl :=
  let q := Fl.ofFix j.incPerUnit 16
  if j.type = 0 then q.div ((Fl.ofInt 2).mul Fl.pi) else q

/-- T_react of a joint, in seconds, binary32 (R224). -/
def State.reactTime (s : State) (j : GlmJoint) : Fl :=
  let tsc := ticksPerSafety s.cell.tickSel * s.tickLen
  (Fl.ofInt (3 * tsc + 2 * s.tickLen + 1000 * (s.block.sources.getD j.src {}).driveReactUs)).div (Fl.ofInt 1000000000)

/-- The braking interval of a joint in increments from position `q` and velocity `v` in increments a second (R224). -/
def State.brakeInterval (s : State) (j : GlmJoint) (q v : Int) : Int × Int :=
  let a := Fl.ofInt v.natAbs
  let d1 := Fl.ofBits j.stopDec
  let d2 := Fl.ofBits j.stop0Dec
  let dec := (if d1.lt d2 then d1 else d2).mul j.incPer
  let d := ((a.mul (s.reactTime j)).add ((a.mul a).div ((Fl.ofInt 2).mul dec))).toFix 16
  if v < 0 then (q - d, q) else (q, q + d)

/-- The last accepted position and velocity of an axis (R213). -/
def State.measured (s : State) (ax : Nat) : Option (Int × Int) :=
  match s.block.axisSource ax with
  | none => none
  | some k => ((s.gsrc k).joints.find? (fun r => r.1 == ax)).map (fun r => r.2)

/-- The braking intervals of an arm's joints at the stop decision (R204, R224). -/
def State.intervalsOf (s : State) (u : Nat) : List (Nat × Int × Int) :=
  match s.block.arm? u with
  | none => []
  | some a => a.joints.filterMap (fun j => (s.measured j.axis).map (fun m => (j.axis, s.brakeInterval j m.1 m.2)))

/-- A cause arises on a unit (R206, R208): a new stop begins, or a lower category takes over the one in progress. A category 0
stop de-energises its pairs at once; SAFE_CTRL carries the new command; the stop is delivered at the next edge (R201, R202).
A group takes the causes of the arms it is linked to (R235). -/
def State.raiseOne (s : State) (u cause cat : Nat) : State :=
  let v := s.gunit u
  if v.causes.any (fun c => c.1 == cause) then s
  else
    let before := v.state
    let fresh := v.stop.isNone
    let cat' := match v.stop with
      | some c => min c cat
      | none => cat
    let v := { v with
      causes := v.causes ++ [(cause, s.gtc, cat)], stop := some cat', deliver := v.deliver || fresh
      stopAt := if fresh then s.gtc else v.stopAt, sto := if fresh then false else v.sto, still := if fresh then 0 else v.still
      recorded := if fresh then [] else v.recorded, intervals := if fresh then s.intervalsOf u else v.intervals
      stops := if before < 2 then wrap 32 (v.stops + 1) else v.stops }
    let s := (s.setGunit u v).driveOutputs.ctrlUnit u
    if before = v.state then s else s.event 20 0x8502 (0x1000 + u) (toLE 1 v.state ++ toLE 1 cause ++ toLE 1 cat')

/-- A cause arises on a unit and, for an arm, on every group linked to it (R235). -/
def State.raiseCause (s : State) (u cause cat : Nat) : State :=
  let s := s.raiseOne u cause cat
  if u < 16 then
    s.block.groups.foldl (fun s g => if bitAt g.armLink u then s.raiseOne (16 + g.group) cause cat else s) s
  else s

/-- A cause ends on a unit (R207): with the last one the stop ends; the edge that finds it so energises its pairs again. -/
def State.endOne (s : State) (u cause : Nat) : State :=
  let v := s.gunit u
  if v.causes.any (fun c => c.1 == cause) then
    let rest := v.causes.filter (fun c => c.1 != cause)
    let v' := if rest = [] then { v with causes := [], stop := none, sto := false, deliver := false, still := 0, recorded := [] }
              else { v with causes := rest }
    let s := s.setGunit u v'
    if rest = [] then (s.driveOutputs.ctrlUnit u).event 20 0x8502 (0x1000 + u) (toLE 1 v'.state ++ toLE 1 cause ++ toLE 1 0xFF) else s
  else s

/-- A cause ends on an arm and, where no other linked arm still has it, on its groups (R235). -/
def State.endCause (s : State) (u cause : Nat) : State :=
  let s := s.endOne u cause
  if u < 16 then
    s.block.groups.foldl (fun s g =>
      let still := (List.range 16).any (fun a => bitAt g.armLink a && (s.gunit a).causes.any (fun c => c.1 == cause))
      if bitAt g.armLink u && !still then s.endOne (16 + g.group) cause else s) s
  else s

/-- A cause on every arm and group (R206: GLUME_FAULT, NO_CONFIG). -/
def State.raiseAll (s : State) (cause cat : Nat) : State := s.units.foldl (fun s u => s.raiseOne u cause cat) s

/-- GLUME_FAULT with a fault of the Glume that is present (R198, R222, R228, R249). -/
def State.glumeFault (s : State) (which : Nat) : State :=
  let s := { s with glume := { s.glume with faults := if s.glume.faults.contains which then s.glume.faults else s.glume.faults ++ [which] } }
  s.raiseAll causeGlume s.block.faultCat

end Sys2Proof.Machine
end

