-- ==== Sys2Proof/Machine/AxisOps.lean ====
section
/-! DEFINITION. What many rows ask of axes and arms: roles, owners, due ticks, queue entries as octets, faults and the end of
homing (02_axes_and_arms, R39, R44 to R52, R76 to R79, R191). -/

namespace Sys2Proof.Machine

/-- The axis numbers of an arm: its joints in chain order, then its carrier (R64, R66). -/
def Arm.axes (r : Arm) : List Nat := r.joints.map (fun j => j.axis) ++ (if r.carrier = 0xFFFF then [] else [r.carrier])

/-- Whether a binding is to a direct-drive unit. -/
def Binding.isDd : Binding → Bool
  | .dd _ _ _ => true
  | _ => false

/-- The direct-drive unit of a binding. -/
def Binding.unit : Binding → Nat
  | .dd u _ _ => u
  | _ => 0

/-- The arm an axis is a joint of (R44). -/
def State.armOf (s : State) (a : Nat) : Option Nat :=
  (List.range 16).find? (fun n => (s.arm n).defined && (s.arm n).joints.any (fun j => j.axis == a))

/-- The arm an axis is a joint or the base carrier of (R64). -/
def State.groupOf (s : State) (a : Nat) : Option Nat :=
  (List.range 16).find? (fun n => (s.arm n).defined && (s.arm n).axes.contains a)

/-- The Mandrel that owns an axis (R51). -/
def State.mandrelOf (s : State) (a : Nat) : Nat :=
  match s.armOf a with
  | some n => (s.arm n).mandrel
  | none => (s.axis a).mandrel.getD (a / 128)

/-- Whether an axis is due in a tick: the count plus its phase is a multiple of its divisor (the rule before R26). -/
def Axis.dueAt (x : Axis) (tick : Nat) : Bool := x.mode != 0 && (tick + x.phase) % x.divisor == 0

/-- The axes due in a tick, ascending (R52). -/
def State.dueAxes (s : State) (tick : Nat) : List Nat :=
  (s.motion.axes.filter (fun p => p.2.dueAt tick)).map Prod.fst

/-- Octets 0 to 27 of a queue entry (R76). -/
def QEntry.octets (e : QEntry) : List Byte :=
  toLEs 8 e.pos ++ toLEs 4 e.vel ++ toLEs 4 e.acc ++ toLEs 4 e.torque ++ toLE 4 e.stamp ++ toLE 2 e.flags ++ toLE 2 e.scale

/-- CHECK of an entry of axis `a` (R78). -/
def QEntry.check (a : Nat) (e : QEntry) : Nat := crcFold (a * 2 ^ 23 + wrap 23 e.stamp) e.octets

/-- The published entries of a queue: those below C (R29). -/
def Queue.published (q : Queue) : List QEntry := q.entries.take (q.c - q.k)

/-- An axis is at standstill: every published entry has zero velocity feed-forward (R65). -/
def Axis.still (x : Axis) : Bool := x.queue.published.all (fun e => e.vel == 0)

/-- An arm is at standstill: every published entry of its joints and carrier is (R65). -/
def State.armStill (s : State) (n : Nat) : Bool := (s.arm n).axes.all (fun a => (s.axis a).still)

/-- A generator at rest at a position, with nothing planned. -/
def Motion.rest (m : Motion) : Motion :=
  { tracks := m.tracks.map (fun t => { t with v := 0, a := 0, segs := [], t := 0, goal := none }), clear := m.clear
    rebase := m.rebase }

/-- The procedure of homing ends without its result (R191): torque and following limits are restored, the axis is in
POSITION mode, its search motion is discarded, and HOME_ENDED carries the status. -/
def State.endHoming (s : State) (a code : Nat) : State :=
  let x := s.axis a
  match x.homing with
  | none => s
  | some h =>
    let lim := if h.method = 5 then { x.lim with torqueMax := h.oldTorque, followMax := h.oldFollow } else x.lim
    let s := s.setAxis a { x with homing := none, homeState := 9, status := code, mode := 1, lim := lim }
    let s := s.updCap h.capPin (fun c => if c.homing = some a then { c with homing := none } else c)
    s.event (30 + s.mandrelOf a) 0x8408 a (toLE 2 code)

/-- An axis fault (R39): FAULT is set and ENABLE clear from this tick's record, a direct-drive unit idles its pins, homing
ends, the reference is lost where the feedback was (R180); a joint's arm takes a protective stop, and an auxiliary axis
loses its path and segment list. -/
def State.axisFault (s : State) (a code : Nat) : State :=
  let x := s.axis a
  if x.fault.isSome then s
  else
    let lost := code == St.feedbackLost || code == St.posRange
    let s := s.setAxis a { x with
      fault := some code, status := code, driving := false, refValid := x.refValid && !lost, jogUntil := none }
    let s := s.endHoming a St.homeAborted
    let s := s.event (30 + s.mandrelOf a) 0x840A a (toLE 2 code)
    match s.armOf a with
    | some n => s.raiseCause n causeAxisFault s.block.faultCat
    | none => s.updAxis a (fun x => { x with status := code, gen := x.gen.rest, back := [] })

/-- The axes that follow a local axis by gearing or cam (R121, R122). -/
def State.followers (s : State) (a : Nat) : List Nat :=
  (s.motion.axes.filter (fun p => match p.2.gen.follow with
    | some f => f.node == 0xFF && f.master == a
    | none => false)).map Prod.fst

/-- What DISABLED keeps of a loop-state record (R151): zero torque and velocity, the feedback position as OUT_POS. -/
def LoopRec.disabled (r : LoopRec) : LoopRec :=
  { fbPos := r.fbPos, fbPosPrev := r.fbPosPrev, fbReal := r.fbReal, fbRaw := r.fbRaw, outPos := r.fbPos, staleAge := r.staleAge }

/-- An axis after its change into DISABLED (R151, R673): marks at K, entries, path and list dropped, loop state zero, any
fault left (R39). -/
def Axis.disabled (x : Axis) : Axis :=
  { x with
    mode := 0, fault := none, status := 0, loop := x.loop.disabled, gen := {}, back := [], limitActive := false
    revPoint := 0, overshoot := 0, jogUntil := none, disableAt := none, brakeUntil := none, driving := false, ddNext := none
    overCount := 0, iPrev := 0, due := false, keepTorque := none
    queue := { k := x.queue.k, c := x.queue.k, s := x.queue.k, l := x.queue.k } }

/-- The loop initialisation a change of axis mode asks for (R151). -/
def LoopRec.initFor (old new : Nat) (r : LoopRec) : LoopRec :=
  let closing (m : Nat) : Bool := m == 1 || m == 3 || m == 5 || m == 6
  if new = 4 then
    { r with pi := {}, pd := {}, vi := {}, vd := {}, epPrev := {}, evPrev := {}, n1x1 := {}, n1x2 := {}, n1y1 := {}, n1y2 := {}
             n2x1 := {}, n2x2 := {}, n2y1 := {}, n2y2 := {}, sat := 0 }
  else if old = 0 then { r with initPid := true, initVi := true, initNotch := true, outTorque := 0 }
  else if old = 4 then { r with initPid := true, initVi := true, initNotch := true }
  else if old = 2 ∧ closing new then { r with initPid := true }
  else if closing old ∧ new = 2 then { r with pi := {}, pd := {}, epPrev := {} }
  else r

/-- The rebase quantity Q of a modulo axis in q48.16 (R58). -/
def Axis.rebaseQ (x : Axis) : Int := if x.modulo = 0 then 0 else (x.modulo : Int) * (2 ^ 43 / x.modulo : Nat) * 2 ^ 16

/-- The octets of a pair (R132). -/
def Pair.octets (p : Pair) : List Byte := toLE 4 (toU 24 p.m * 256 + toU 8 p.e)

/-- The pair of a 32-bit pattern (R132). -/
def Pair.ofWord (w : Nat) : Pair := { m := toS 24 (w / 256), e := toS 8 w }

/-- Octets 0 to 123 of a loop-state record (R130). -/
def LoopRec.body (r : LoopRec) : List Byte :=
  r.pi.octets ++ r.pd.octets ++ r.epPrev.octets ++ r.vi.octets ++ r.vd.octets ++ r.evPrev.octets ++
  r.n1x1.octets ++ r.n1x2.octets ++ r.n1y1.octets ++ r.n1y2.octets ++
  r.n2x1.octets ++ r.n2x2.octets ++ r.n2y1.octets ++ r.n2y2.octets ++
  toLEs 8 r.fbPos ++ toLEs 8 r.fbPosPrev ++ toLEs 8 r.fbReal ++ toLE 8 r.fbRaw ++ toLEs 4 r.outTorque ++ toLEs 4 r.outVel ++
  toLEs 8 r.outPos ++ toLE 2 r.outFlags ++ toLEs 1 r.sat ++ toLE 1 r.staleAge ++ toLE 1 r.ovrConsec ++
  toLE 1 (bitIf 0 r.initPid + bitIf 1 r.initVi + bitIf 2 r.initNotch) ++ List.replicate 14 0

/-- The 128 octets of a loop-state record of axis `a`, with its check over the axis number and octets 0 to 123 (R131). -/
def LoopRec.octets (a : Nat) (r : LoopRec) : List Byte := r.body ++ toLE 4 (crcFold a r.body)

end Sys2Proof.Machine
end

