-- ==== Sys2Proof/Machine/Profile.lean ====
section
/-! DEFINITION. Profiles of the Mandrel (03_profile_generation, R84 to R90, R97 to R104): segments of constant jerk, ramps,
moves, factors of the time scale, and the next entry of a generator. -/

namespace Sys2Proof.Machine

/-! ### Segments (R84) -/

/-- A product of a q32.32 time and a value with 48 fraction bits, rounded to 48 fraction bits (R81, R84). -/
def mulT (t : Nat) (c : Int) : Int := divRNE (t * c) (2 ^ 32)

def Seg.pos (g : Seg) (t : Nat) : Int := g.c0 + mulT t (g.c1 + mulT t (g.c2 + mulT t g.c3))

def Seg.vel (g : Seg) (t : Nat) : Int := g.c1 + mulT t (2 * g.c2 + mulT t (3 * g.c3))

def Seg.acc (g : Seg) (t : Nat) : Int := 2 * g.c2 + mulT t (6 * g.c3)

/-- A state of a coordinate: position q48.48, velocity and acceleration Q16.48. -/
structure Kin where
  x : Int := 0
  v : Int := 0
  a : Int := 0
deriving DecidableEq, Repr

/-- A segment from a state with a jerk (Q16.48 per tick cubed) and a duration (R84). -/
def Seg.start (k : Kin) (j : Int) (dur : Nat) : Seg := { c0 := k.x, c1 := k.v, c2 := divRNE k.a 2, c3 := divRNE j 6, dur := dur }

/-- The state at the end of a segment. -/
def Seg.stop (g : Seg) : Kin := { x := g.pos g.dur, v := g.vel g.dur, a := g.acc g.dur }

/-- A chain of segments from a state, and its end state; a segment of zero duration is dropped (R87). -/
def chain : Kin → List (Int × Nat) → List Seg × Kin
  | k, [] => ([], k)
  | k, (j, d) :: r =>
    if d = 0 then chain k r else
      let g := Seg.start k j d
      let (l, e) := chain g.stop r
      (g :: l, e)

/-! ### Ramps and moves (R85 to R90) -/

/-- Limits of a plan per tick, Q16.48 (R85). -/
structure PLim where
  v : Int := 0
  a : Int := 0
  d : Int := 0
  j : Int := 0
deriving DecidableEq, Repr

/-- A limit per second converted to ticks of `ns`, scaled by a power of SPEED, rounded once to Q16.48 (R85, R349). -/
def perTick (lim ns p speed : Nat) : Int :=
  let x := divRNE (lim * 2 ^ 32 * ns ^ p * speed ^ p) (1000000000 ^ p * (2 ^ 15) ^ p : Nat)
  if x = 0 ∧ lim ≠ 0 then 1 else x

/-- The limits of an axis for a plan at a SPEED; DEC_STOP is not scaled; J is held to A (R85, R349). -/
def Limits.plan (l : Limits) (ns speed : Nat) : PLim :=
  let a := perTick l.accMax ns 2 speed
  { v := perTick l.velMax ns 1 speed, a := a, d := perTick l.decStop ns 2 0x8000, j := min a (perTick l.jerkMax ns 3 speed) }

/-- The ramp of R87 in binary32: three jerks and durations; `none` where a result is not finite. -/
def rampFl (v0 a0 v1 am j : Fl) : List (Int × Fl) :=
  let two := Fl.ofInt 2
  let dv := v1.sub v0
  let b := (a0.mul a0.abs).div (two.mul j)
  let sg : Int := if b.lt dv then 1 else if dv.lt b then -1 else if 0 ≤ a0.m then 1 else -1
  let flip (x : Fl) : Fl := if sg = 1 then x else x.neg
  let dv := flip dv
  let a := flip a0
  if am.lt a then
    let t1 := (a.sub am).div j
    let tc := (dv.sub ((a.mul a).div (two.mul j))).div am
    [(-sg, t1), (0, tc), (-sg, am.div j)]
  else
    let tc := ((dv.add ((a.mul a).div (two.mul j))).sub ((am.mul am).div j)).div am
    let short := tc.lt {}
    let ap := if short then ((j.mul dv).add ((a.mul a).div two)).sqrt else am
    let tc := if short then {} else tc
    [(sg, (ap.sub a).div j), (0, tc), (-sg, ap.div j)]

/-- A ramp from a state to velocity `v1` as a chain (R87): the durations go to q32.32, the jerk is plus or minus `j`. -/
def ramp (k : Kin) (v1 am j : Int) : List Seg × Kin :=
  let f (x : Int) : Fl := Fl.ofFix x 48
  let r := chain k ((rampFl (f k.v) (f k.a) (f v1) (f am) (f j)).map (fun p => (p.1 * j, (p.2.toFix 32).toNat)))
  -- a ramp ends at its velocity with no acceleration
  (r.1, { r.2 with v := v1, a := 0 })

/-- A segment mirrored about a start position. -/
def Seg.mirror (x0 : Int) (sg : Int) (g : Seg) : Seg :=
  { g with c0 := x0 + sg * g.c0, c1 := sg * g.c1, c2 := sg * g.c2, c3 := sg * g.c3 }

/-- The peak velocity of a move from rest over a distance (R88), in binary32. -/
def peakVel (v a j dt : Fl) : Fl :=
  let two := Fl.ofInt 2
  let four := Fl.ofInt 4
  let less := (Fl.ofInt 1).sub (Fl.round 1 (-12))
  let a2 := a.mul a
  let fast := !(v.mul j).lt a2
  let need := if fast then ((v.mul v).div a).add ((v.mul a).div j) else (two.mul v).mul ((v.div j).sqrt)
  if need.le dt then v
  else if ((two.mul (a2.mul a)).div (j.mul j)).le dt then
    ((((a2.div j).neg).add ((((a2.mul a2).div (j.mul j)).add ((four.mul a).mul dt)).sqrt)).div two).mul less
  else ((((dt.mul dt).mul j).div four).cbrt).mul less

/-- The cruise between two ramps that together cover a distance (R88): time in q32.32, rounded toward zero. -/
def cruise (left v : Int) : Nat := if v ≤ 0 then 0 else (left * 2 ^ 32 / v).toNat

/-- A move over `dist` from a state moving forward with a peak velocity: ramp, cruise, ramp to rest (R88, R89). -/
def overVia (k : Kin) (dist vp : Int) (l : PLim) : List Seg :=
  let up := ramp k vp l.a l.j
  let down := ramp { x := 0, v := vp, a := 0 } 0 l.a l.j
  let tv := cruise (dist - (up.2.x - k.x) - down.2.x) vp
  let mid := chain up.2 [(0, tv)]
  let dn := ramp { mid.2 with v := vp, a := 0 } 0 l.a l.j
  up.1 ++ mid.1 ++ dn.1

/-- A move from rest (R88). -/
def moveRest (x target : Int) (l : PLim) : List Seg :=
  let d := target - x
  if d = 0 then [] else
    let sg : Int := if 0 ≤ d then 1 else -1
    let f (y : Int) : Fl := Fl.ofFix y 48
    let vp := (peakVel (f l.v) (f l.a) (f l.j) (f d.natAbs)).toFix 48
    (overVia {} d.natAbs vp l).map (Seg.mirror x sg)

/-- The bisection of R89 for the peak velocity: 24 steps over [0, V]. -/
def bisectPeak (k : Kin) (dist : Int) (l : PLim) : Nat → Int → Int → Int
  | 0, lo, _ => lo
  | n + 1, lo, hi =>
    let m := (((Fl.ofFix lo 48).add (Fl.ofFix hi 48)).div (Fl.ofInt 2)).toFix 48
    let up := ramp k m l.a l.j
    let down := ramp { x := 0, v := m, a := 0 } 0 l.a l.j
    if up.2.x - k.x + down.2.x ≤ dist then bisectPeak k dist l n m hi else bisectPeak k dist l n lo m

/-- A plan: its segments, where it ends, and where it turns when it is a reversal (R94). -/
structure Plan where
  segs : List Seg := []
  goal : Int := 0
  turn : Option Int := none
deriving DecidableEq, Repr

/-- A move to a target from any state (R88, R89, R94). Positions are q48.48. -/
def planMove (k : Kin) (target : Int) (l : PLim) : Plan :=
  if k.v = 0 ∧ k.a = 0 then { segs := moveRest k.x target l, goal := target }
  else
    let sg : Int := if 0 < k.v ∨ (k.v = 0 ∧ 0 < k.a) then 1 else -1
    let f : Kin := { x := 0, v := sg * k.v, a := sg * k.a }
    let dist := sg * (target - k.x)
    let brake := ramp f 0 l.a l.j
    if brake.2.x < dist then
      { segs := (overVia f dist (bisectPeak f dist l 24 0 l.v) l).map (Seg.mirror k.x sg), goal := target }
    else
      let b := brake.1.map (Seg.mirror k.x sg)
      let turn := k.x + sg * brake.2.x
      if brake.2.x = dist then { segs := b, goal := target }
      else { segs := b ++ moveRest turn target l, goal := target, turn := some turn }

/-- A brake with an acceleration limit and the brake point (R87, R97). -/
def planBrake (k : Kin) (am j : Int) : Plan :=
  let r := ramp k 0 am (min am j)
  { segs := r.1, goal := r.2.x }

/-- A velocity target: a ramp and a cruise without end (R90). -/
def planVel (k : Kin) (vt : Int) (l : PLim) : List Seg :=
  let r := ramp k vt l.a l.j
  r.1 ++ [{ c0 := r.2.x, c1 := vt, endless := true }]

/-- The bisection of R97 for the smallest acceleration limit in [A, D] whose brake point does not pass a limit ahead at
`room`, both measured along the motion. -/
def bisectBrake (k : Kin) (room j : Int) : Nat → Int → Int → Int
  | 0, _, hi => hi
  | n + 1, lo, hi =>
    let m := (((Fl.ofFix lo 48).add (Fl.ofFix hi 48)).div (Fl.ofInt 2)).toFix 48
    if (planBrake k m j).goal ≤ room then bisectBrake k room j n lo m else bisectBrake k room j n m hi

/-! ### Tracks and factors (R86, R103) -/

/-- The greatest speed of a track over its remaining path, at scale 1 (R98): ramps are monotone, so it stands at a joint. -/
def Track.peak (t : Track) : Int :=
  (t.segs.map (fun g => max g.c1.natAbs (if g.endless then g.c1.natAbs else (g.vel g.dur).natAbs))).foldl (fun a b => max a (b : Int)) t.v.natAbs

/-- A track moved on by some path time: segments that end are left, and the end of the last is the exact goal (R86, R88). -/
def Track.walk (tr : Track) : List Seg → Nat → Kin → Track
  | [], _, k =>
    { tr with segs := [], t := 0, x := (tr.goal.map (· * 2 ^ 32)).getD k.x, v := 0, a := 0, goal := none }
  | g :: r, t, _ =>
    if g.endless ∨ t < g.dur then { tr with segs := g :: r, t := t, x := g.pos t, v := g.vel t, a := g.acc t }
    else tr.walk r (t - g.dur) g.stop

/-- A track moved on by `dt` (q32.32). -/
def Track.advance (tr : Track) (dt : Nat) : Track :=
  if tr.segs = [] then { tr with v := 0, a := 0 } else tr.walk tr.segs (tr.t + dt) { x := tr.x, v := tr.v, a := tr.a }

/-- The scale and its rate of change of a factor now. -/
def Factor.kin (f : Factor) : Kin :=
  match f.ramp with
  | [] => { v := f.s * 2 ^ 17 }
  | g :: _ => { v := g.vel f.t, a := g.acc f.t }

/-- A factor's ramp moved on. -/
def Factor.walk (f : Factor) : List Seg → Nat → Factor
  | [], _ => { f with s := f.goal, ramp := [], t := 0 }
  | g :: r, t => if t < g.dur then { f with s := (clampI 0 (2 ^ 31) (divRNE (g.vel t) (2 ^ 17))).toNat, ramp := g :: r, t := t }
                 else f.walk r (t - g.dur)

/-- A factor after one tick (R86, R103). -/
def Factor.tick (f : Factor) : Factor := if f.ramp = [] then f else f.walk f.ramp (f.t + 2 ^ 32)

/-- A factor ramped to a value with limits `g` and `h` (R87, R98). -/
def Factor.to (f : Factor) (goal : Nat) (g h : Fl) : Factor :=
  let k := f.kin
  let r := chain { k with x := 0 } ((rampFl (Fl.ofFix k.v 48) (Fl.ofFix k.a 48) (Fl.ofFix (goal * 2 ^ 17) 48) g h).map
    (fun p => (p.1 * h.toFix 48, (p.2.toFix 32).toNat)))
  { f with ramp := r.1, t := 0, goal := goal, s := if r.1 = [] then goal else f.s }

/-- The duration of a factor's ramp that remains, q32.32. -/
def Factor.left (f : Factor) : Nat := (f.ramp.map (fun g => g.dur)).foldl (· + ·) 0 - f.t

/-- Whether a generator has motion planned. -/
def Motion.moving (m : Motion) : Bool := m.tracks.any (fun t => t.segs != [])

/-- The limits g and h of R98 over the moving tracks, from an acceleration limit and the jerk limit of each axis. -/
def Motion.factorLimits (m : Motion) (dec : Nat → Int) (jerk : Nat → Int) : Option (Fl × Fl) :=
  m.tracks.foldl (fun acc t =>
    let p := t.peak
    if p = 0 then acc else
      let v := Fl.ofFix p 48
      let g := (Fl.ofFix (dec t.axis) 48).div v
      let h := (Fl.ofFix (jerk t.axis) 48).div v
      match acc with
      | none => some (g, h)
      | some (g', h') => some (if g.lt g' then g else g', if h.lt h' then h else h')) none

/-- The effective scale: the product of the three factors rounded to Q1.31 (R103). -/
def Motion.scale (m : Motion) : Nat := (divRNE (m.hold.s * m.clear.s * m.joint.s : Nat) (2 ^ 62)).toNat

/-- One tick of a generator: every factor and every track moves on (R86). -/
def Motion.tick (m : Motion) : Motion :=
  let old := m.scale
  let m := { m with hold := m.hold.tick, clear := m.clear.tick, joint := m.joint.tick }
  let s := m.scale
  { m with tracks := m.tracks.map (fun t => t.advance (2 * s)), sPrev := old }

/-- `n` ticks of a generator: the ticks of one entry of an axis with that divisor. -/
def Motion.ticks : Nat → Motion → Motion
  | 0, m => m
  | n + 1, m => Motion.ticks n m.tick

/-- The feed-forward terms and position of a track at scale `s` after the last tick at `sPrev` (R86). -/
def Track.entry (t : Track) (s sPrev stamp : Nat) (flags : Nat) (rebase : Int) : QEntry :=
  { pos := divRNE t.x (2 ^ 32) - rebase
    vel := clampI (-(2 ^ 31)) (2 ^ 31 - 1) (divRNE (s * t.v) (2 ^ 63))
    acc := clampI (-(2 ^ 31)) (2 ^ 31 - 1) (divRNE ((s : Int) * s * t.a + ((s : Int) - sPrev) * t.v * 2 ^ 31) (2 ^ 86))
    stamp := stamp % 2 ^ 32, flags := flags, scale := (divRNE s (2 ^ 16)).toNat }

/-- FLAGS of an entry from the generator that makes it (R77). -/
def Motion.flags (m : Motion) (stopEnd : Bool) : Nat :=
  bitIf 0 m.held + bitIf 1 stopEnd + bitIf 2 m.reversal + bitIf 3 m.clipped + bitIf 4 m.claimWait + bitIf 5 m.clearStop +
    bitIf 6 m.retimed + bitIf 8 m.segStart + bitIf 9 (decide (0 < m.blendLeft)) + bitIf 10 m.follow.isSome

/-- The next entries of a generator, one for each track, stamped `stamp`, `d` ticks after the last (R86). -/
def Motion.emit (m : Motion) (d stamp : Nat) : Motion × List (Nat × QEntry) :=
  let was := m.moving && decide (m.scale ≠ 0)
  let m' := Motion.ticks d m
  let s := m'.scale
  let halted := m'.held && !m'.stopped && m'.hold.ramp == [] && m'.hold.s == 0
  let stopEnd := halted && was
  let fl := m'.flags stopEnd
  let es := m'.tracks.map (fun t => (t.axis, t.entry s m'.sPrev stamp (if t.rev then setBit fl 2 else fl) m'.rebase))
  let m' := { m' with segStart := false, stopped := m'.stopped || halted }
  -- the arrival ends a reversal, a clip and a discarded path (R94, R101)
  let m' := if m'.discard && (m'.stopped || !m'.moving) then
      { m' with tracks := m'.tracks.map (fun t => { t with segs := [], t := 0, v := 0, a := 0, goal := none })
                hold := if m'.keep = 2 then { s := 0, goal := 0 } else {}, held := m'.keep == 2, stopped := m'.keep == 2, discard := false
                list := if m'.keep = 0 then [] else m'.list, keep := 0, cart := false, reversal := false, clipped := false, blend := 0, blendLeft := 0 }
    else m'
  (if m'.moving || m'.list != [] then m'
   else { m' with reversal := false, clipped := false, tracks := m'.tracks.map (fun t => { t with rev := false }) }, es)

end Sys2Proof.Machine
end

