-- ==== Sys2Proof/Machine/Mandrel.lean ====
section
/-! DEFINITION. The Mandrels at work on the state: staging, publication, replanning, holds and couplings (R29 to R35, R83,
R91 to R106, R117 to R124, R257, R673). An owner is an axis outside every arm at its number, or arm n at 1000 + n. -/

namespace Sys2Proof.Machine

/-! ### Owners -/

/-- The owner of an axis. -/
def State.ownerOf (s : State) (a : Nat) : Nat := ((s.groupOf a).map (1000 + ·)).getD a

/-- The axes of an owner that are out of DISABLED (R673). -/
def State.ownerAxes (s : State) (o : Nat) : List Nat :=
  if o < 1000 then (if (s.axis o).mode = 0 then [] else [o]) else (s.arm (o - 1000)).axes.filter (fun a => (s.axis a).mode != 0)

/-- An owner's generator. -/
def State.gen (s : State) (o : Nat) : Motion := if o < 1000 then (s.axis o).gen else (s.arm (o - 1000)).gen

/-- An owner's generators before each entry K to S - 1. -/
def State.back (s : State) (o : Nat) : List Motion := if o < 1000 then (s.axis o).back else (s.arm (o - 1000)).back

/-- An owner's generators replaced. -/
def State.setGen (s : State) (o : Nat) (g : Motion) (b : List Motion) : State :=
  if o < 1000 then s.updAxis o (fun x => { x with gen := g, back := b })
  else s.updArm (o - 1000) (fun r => { r with gen := g, back := b })

/-- An owner's generator passed through a function. -/
def State.updGen (s : State) (o : Nat) (f : Motion → Motion) : State := s.setGen o (f (s.gen o)) (s.back o)

/-- An owner's divisor and due phase (R48). -/
def State.grid (s : State) (o : Nat) : Nat × Nat :=
  if o < 1000 then ((s.axis o).divisor, (s.axis o).phase) else ((s.arm (o - 1000)).divisor, (s.arm (o - 1000)).phase)

/-- The queue that stands for an owner: that of its first axis out of DISABLED; the marks are common (R29). -/
def State.ownQueue (s : State) (o : Nat) : Queue := ((s.ownerAxes o).head?.map (fun a => (s.axis a).queue)).getD {}

/-- Every queue of an owner passed through a function of its axis. -/
def State.updQueues (s : State) (o : Nat) (f : Nat → Queue → Queue) : State :=
  (s.ownerAxes o).foldl (fun s a => s.updAxis a (fun x => { x with queue := f a x.queue })) s

/-- The plan limits of an axis at a SPEED, or of an arm's path for 0xFFFF: the virtual length runs under the TCP limits
(R85, R109, R349); a path brakes with its acceleration limit (DEDUCED, log entry 26). -/
def State.planLim (s : State) (o a speed : Nat) : PLim :=
  if a = 0xFFFF then
    let r := s.arm (o - 1000)
    let acc := perTick (r.tcpAcc * 65536) s.tickLen 2 speed
    { v := perTick (r.tcpVel * 65536) s.tickLen 1 speed, a := acc, d := acc
      j := min acc (perTick (r.tcpJerk * 65536000) s.tickLen 3 speed) }
  else (s.axis a).lim.plan s.tickLen speed

/-- The clearance horizon: that of the active block (R32, R244). -/
def State.horizon (s : State) : Nat := s.block.horizon

/-- The first due tick at or after a tick. -/
def nextDue (d p tick : Nat) : Nat := tick + (d - (tick + p) % d) % d

/-- The tick count whose low 32 bits a stamp is, nearest to a tick. -/
def fullTick (tick stamp : Nat) : Nat := ((tick : Int) + toS 32 (stamp + 2 ^ 32 - wrap 32 tick)).toNat

/-- The stamp of the next entry to be staged, as a full tick count: the last staged stamp plus d, or the first due tick
after this one (R79, R673). -/
def State.nextStamp (s : State) (o : Nat) : Nat :=
  let g := s.grid o
  match (s.ownQueue o).entries.getLast? with
  | some e => fullTick s.cell.tick e.stamp + g.1
  | none => nextDue g.1 g.2 (s.cell.tick + 1)

/-! ### Followers (R121 to R124) -/

/-- The master's position at a stamp that lies on its grid: of its published entry, or of the last one it took; a remote
master's from the entries received (R123). -/
def State.masterOn (s : State) (f : Follow) (a : Nat) (stamp : Nat) : Option Int :=
  if f.node = 0xFF then
    let q := (s.axis f.master).queue
    let all := q.last.toList ++ q.published
    (all.find? (fun e => e.stamp == wrap 32 stamp)).map (fun e => e.pos)
  else ((s.axis a).remote.find? (fun r => r.1 == wrap 32 stamp)).map (fun r => r.2.1)

/-- The master's position at a stamp: on its grid, or between its entries either side (R123). -/
def State.masterAt (s : State) (f : Follow) (a stamp : Nat) : Option Int :=
  match s.masterOn f a stamp with
  | some p => some p
  | none =>
    let lo := (List.range 16).findSome? (fun i => if i ≤ stamp then (s.masterOn f a (stamp - i)).map (fun p => (i, p)) else none)
    let hi := (List.range 16).findSome? (fun i => (s.masterOn f a (stamp + i)).map (fun p => (i, p)))
    match lo, hi with
    | some (i, p), some (j, q) => some (p + divRNE ((q - p) * i) (i + j))
    | _, _ => none

/-- A geared follower's position for a master position (R121): exact, rounded once to q48.16. -/
def gearPos (f : Follow) (pm : Int) : Int :=
  let d := pm - f.pm0
  let e := f.engage
  if (d.natAbs : Int) ≤ e then
    if e = 0 then f.ps0 else f.ps0 + divRNE (f.num * d * d) (2 * e * f.den)
  else f.ps0 + divRNE (f.num * (2 * d.natAbs - e) * d.sign) (2 * f.den)

/-- A product of a Q2.30 basis value and a q48.16 value, rounded to q48.16 (R122). -/
def mulH (h y : Int) : Int := divRNE (h * y) (2 ^ 30)

/-- A cam's position within an interval (R122): the cubic Hermite of two points at `u` (Q0.32). -/
def hermite (p0 p1 : Int × Int × Nat) (u : Nat) : Int :=
  let r (n : Int) (p : Nat) : Int := divRNE n (2 ^ (32 * p - 30))
  let u' : Int := u
  let one : Int := 2 ^ 32
  let h00 := r (2 * u' ^ 3 - 3 * u' ^ 2 * one + one ^ 3) 3
  let h01 := r (3 * u' ^ 2 * one - 2 * u' ^ 3) 3
  let h10 := r (u' ^ 3 - 2 * u' ^ 2 * one + u' * one ^ 2) 3
  let h11 := r (u' ^ 3 - u' ^ 2 * one) 3
  let dm := Fl.ofFix (p1.1 - p0.1) 16
  let m0 := (dm.mul (Fl.ofBits p0.2.2)).toFix 16
  let m1 := (dm.mul (Fl.ofBits p1.2.2)).toFix 16
  mulH h00 p0.2.1 + mulH h01 p1.2.1 + mulH h10 m0 + mulH h11 m1

/-- A cam follower's position for a master position (R122). -/
def camPos (c : Cam) (f : Follow) (pm : Int) : Int :=
  match c.points.head?, c.points.getLast? with
  | some p0, some pn =>
    let span := pn.1 - p0.1
    let m := pm - f.mOfs
    let (m, turns) := if f.periodic ∧ 0 < span then (p0.1 + (m - p0.1) % span, (m - p0.1) / span) else (m, 0)
    let y :=
      if m ≤ p0.1 then p0.2.1 else if pn.1 ≤ m then pn.2.1
      else match (c.points.zip (c.points.drop 1)).find? (fun p => decide (p.1.1 ≤ m ∧ m < p.2.1)) with
        | some (a, b) => hermite a b ((m - a.1) * 2 ^ 32 / (b.1 - a.1)).toNat
        | none => pn.2.1
    y + turns * (pn.2.1 - p0.2.1) + f.fOfs
  | _, _ => f.fOfs

/-- A follower's position for a master position (R121, R122). -/
def State.followPos (s : State) (f : Follow) (pm : Int) : Int :=
  match f.cam with
  | none => gearPos f pm
  | some c => camPos (s.cam c) f pm

/-- The next entry of a follower stamped `stamp`: its position, with feed-forward from the entries beside it (R117, R123);
none while the master's data is not there. -/
def State.emitFollow (s : State) (a : Nat) (f : Follow) (d stamp : Nat) : Option (Follow × QEntry) :=
  match s.masterAt f a (stamp + d) with
  | none => none
  | some pm =>
    let p := s.followPos f pm
    some ({ f with prev := f.next, next := p },
      { pos := f.next, vel := clampI (-(2 ^ 31)) (2 ^ 31 - 1) (divRNE (p - f.prev) (2 * d))
        acc := clampI (-(2 ^ 31)) (2 ^ 31 - 1) (divRNE ((p - 2 * f.next + f.prev) * 2 ^ 8) (d * d)), stamp := wrap 32 stamp, flags := 2 ^ 10 })

/-- A target held to the soft limits (R96): where it is clipped. -/
def Axis.softTarget (x : Axis) (p : Int) : Int :=
  if x.lim.softEn && x.refValid then clampI x.lim.softMin x.lim.softMax p else p

/-! ### Beginning a plan (R88, R95, R107, R109) -/

/-- A segment stretched uniformly in time by a factor below one (R95, R98). -/
def Seg.stretch (k : Fl) (g : Seg) : Seg :=
  { g with c1 := shiftRNE (g.c1 * k.m) k.e, c2 := shiftRNE (g.c2 * k.m ^ 2) (2 * k.e), c3 := shiftRNE (g.c3 * k.m ^ 3) (3 * k.e)
           dur := if k.m ≤ 0 then g.dur else (divRNE (g.dur * 2 ^ (-k.e).toNat) (k.m * 2 ^ k.e.toNat)).toNat }

/-- The duration of a chain, q32.32. -/
def chainLen (l : List Seg) : Nat := (l.map (fun g => g.dur)).foldl (· + ·) 0

/-- A target of a modulo axis unwrapped from a position, by MOD_DIR (R349). -/
def unwrap (modulo dir : Nat) (x target : Int) : Int :=
  if modulo = 0 then target
  else
    let m : Int := modulo * 2 ^ 16
    let d := (target - x) % m
    if dir = 1 then x + d else if dir = 2 then (if d = 0 then x else x + d - m) else if 2 * d ≤ m then x + d else x + d - m

/-- The tracks of an arm's joints moving together from rest (R95): the longest move sets the time, the others are stretched. -/
def State.jointTracks (s : State) (o : Nat) (m : Motion) (ls : ListSeg) (axes : List Nat) : List Track :=
  let plans := m.tracks.map (fun t =>
    match (List.range axes.length).find? (fun i => axes.getD i 0 == t.axis) with
    | some i =>
      let x := s.axis t.axis
      let p := divRNE t.x (2 ^ 32)
      let goal := x.softTarget (unwrap x.modulo ls.modDir p (ls.targets.getD i 0))
      (t, moveRest t.x (goal * 2 ^ 32) (s.planLim o t.axis ls.speed), some goal)
    | none => (t, [], none))
  let top := (plans.map (fun p => chainLen p.2.1)).foldl max 0
  plans.map (fun p =>
    let n := chainLen p.2.1
    let l := if n = top ∨ n = 0 then p.2.1 else p.2.1.map (Seg.stretch ((Fl.ofFix n 32).div (Fl.ofFix top 32)))
    { p.1 with segs := l, t := 0, v := 0, a := 0, goal := if l = [] then none else p.2.2 })

/-- The lesser of two limits, where a zero length leaves a term out (R109). -/
def lesser (lim1 len1 lim2 len2 : Fl) : Option Fl :=
  if len1.m = 0 ∧ len2.m = 0 then none
  else if len1.m = 0 then some (lim2.div len2)
  else if len2.m = 0 then some (lim1.div len1)
  else
    let a := lim1.div len1
    let b := lim2.div len2
    some (if b.lt a then b else a)

/-- The virtual path of a Cartesian segment (R109): its length in um and its limits per tick. The path length and the rotation
angle of the segment are free values (log entry 25). -/
def State.pathPlan (s : State) (n speed : Nat) : Option (Int × PLim) :=
  let r := s.arm n
  let w := Config.pathLength n s.freeCount
  let lp := Fl.ofInt (field w 0 31)
  let th := (Fl.ofBits (field w 32 32)).abs
  let f := Fl.ofBits
  let sp := (Fl.ofInt speed).div (Fl.ofInt 0x8000)
  let sec := (Fl.ofInt s.tickLen).div (Fl.ofInt 1000000000)
  match lesser (Fl.ofInt r.tcpVel) lp (f r.rotVel) th, lesser (Fl.ofInt r.tcpAcc) lp (f r.rotAcc) th,
      lesser ((Fl.ofInt r.tcpJerk).mul (Fl.ofInt 1000)) lp (f r.rotJerk) th with
  | some v, some a, some j =>
    let lv := (Fl.ofInt r.tcpVel).div v
    let k := sp.mul sec
    let q (x : Fl) : Int := max 1 (x.toFix 48)
    let acc := q (((a.mul lv).mul k).mul k)
    if lv.bad then none
    else some (lv.toFix 48, { v := q ((v.mul lv).mul k), a := acc, d := acc, j := min acc (q ((((j.mul lv).mul k).mul k).mul k)) })
  | _, _, _ => none

/-- A listed segment begins from rest (R88, R91, R95, R107). -/
def State.beginGen (s : State) (o : Nat) (ls : ListSeg) (m : Motion) : Motion :=
  let m := { m with segStart := true, reversal := false, retimed := false }
  if o < 1000 then
    let x := s.axis o
    { m with cart := false, tracks := m.tracks.map (fun t =>
        let p := divRNE t.x (2 ^ 32)
        let want := unwrap x.modulo ls.modDir p (ls.targets.getD 0 0)
        let goal := x.softTarget want
        let l := moveRest t.x (goal * 2 ^ 32) (s.planLim o o ls.speed)
        { t with segs := l, t := 0, v := 0, a := 0, goal := if l = [] then none else some goal })
             clipped := x.softTarget (ls.targets.getD 0 0) != ls.targets.getD 0 0 && x.modulo == 0 }
  else
    let n := o - 1000
    if ls.kind = 0 then
      { m with cart := false, tracks := s.jointTracks o { m with tracks := m.tracks.filter (fun t => t.axis != 0xFFFF) } ls
                 ((s.arm n).joints.map (fun j => j.axis)) }
    else
      let tr := m.tracks.filter (fun t => t.axis != 0xFFFF)
      match s.pathPlan n ls.speed with
      | none => { m with cart := true, tracks := tr, blend := 0, blendLeft := 0 }
      | some (lv, l) => { m with cart := true, tracks := tr ++ [{ axis := 0xFFFF, x := 0, segs := moveRest 0 lv l, goal := some (lv / 2 ^ 32) }]
                                 blend := ls.blend, blendLeft := 0 }

/-- The blend of a Cartesian segment in progress (R110, R111): within the effective radius of its end the next segment takes
over at the blend's path speed, which is free up to the present one since the tangents' angle is (log entries 25, 28); without
a next segment the path ends at rest and BLEND_LATE is sent. -/
def blendStep (o : Nat) (s : State) : State :=
  let m := s.gen o
  match m.tracks.find? (fun t => t.axis == 0xFFFF) with
  | some { goal := some lv, x := x, v := v, .. } =>
    let left := lv * 2 ^ 32 - x
    let re := min ((m.blend : Int) * 2 ^ 48) (lv * 2 ^ 31)
    if m.blend = 0 ∨ re < left then s
    else
      let s := s.updGen o (fun m => { m with blend := 0 })
      match m.list with
      | [] => s.event (30 + (s.arm (o - 1000)).mandrel) 0x8301 (0x1000 + (o - 1000)) (toLE 4 0)
      | ls :: r =>
        match s.pathPlan (o - 1000) ls.speed with
        | some (lv2, l) =>
          if ls.kind = 0 then s
          else
            let w := s.freeBelow (min v l.v).toNat.succ
            let t : Track := { axis := 0xFFFF, x := 0, v := w.1, segs := (planMove { v := w.1 } lv2 l).segs, goal := some (lv2 / 2 ^ 32) }
            w.2.updGen o (fun m => { m with
              list := r, segStart := true, blend := ls.blend, blendLeft := min re (lv2 / 2)
              tracks := m.tracks.filter (fun t => t.axis != 0xFFFF) ++ [t] })
        | none => s
  | _ => s

/-- Whether an owner's axis still waits for its brake to open, or its arm's new mode for the next latch (R171, R644). -/
def State.brakeWait (s : State) (o : Nat) : Bool :=
  (1000 ≤ o && (s.arm (o - 1000)).modeWait) || (s.ownerAxes o).any (fun a => match (s.axis a).brakeUntil with
    | some t => decide (s.nextStamp o ≤ t)
    | none => false)

/-- The next listed segment begins once the plan in force has ended, no hold stands and no brake is still opening (R91,
R171). -/
def beginNext (o : Nat) (s : State) : State :=
  let m := s.gen o
  match m.list with
  | [] => s
  | ls :: r =>
    if m.moving ∨ m.held ∨ s.brakeWait o then s
    else
      let m' := { s.beginGen o ls m with list := r }
      let s := if ls.kind = 0 then s else { s with freeCount := s.freeCount + 1 }
      s.setGen o m' (s.back o)

/-! ### Holds (R98 to R101, R104) -/

/-- The generator on a hold ramp to zero (R98): stretched when the stop time asks for more than the least. `none` when
nothing moves. -/
def Motion.holdTo (m : Motion) (g h : Fl) (stopTicks : Fl) : Motion :=
  let fast := m.hold.to 0 g h
  let tmin := Fl.ofFix fast.left 32
  if stopTicks.le tmin then { m with hold := fast, held := true, stopped := false }
  else
    let k := tmin.div stopTicks
    { m with hold := m.hold.to 0 (g.mul k) ((h.mul k).mul k), held := true, stopped := false }

/-- The brake limits of an owner's motion (R98): from D, or from A for a resume. -/
def State.brakeLimits (s : State) (o : Nat) (m : Motion) (resume : Bool) : Option (Fl × Fl) :=
  m.factorLimits (fun a => let l := s.planLim o a 0x8000; if resume then l.a else l.d) (fun a => (s.planLim o a 0x8000).j)

/-- A generator that begins to wait for a claim, or for clearance, brakes at once; one that need wait no longer resumes
(R35, R98, R100, R106). -/
def State.brakeGen (s : State) (o : Nat) (m : Motion) : Motion :=
  match s.brakeLimits o m false with
  | some (g, h) => m.holdTo g h {}
  | none => { m with held := true, stopped := true, hold := { s := 0, goal := 0 } }

/-- A generator stopped along its path, which is discarded at standstill (R101). -/
def State.stopGen (s : State) (o : Nat) (m : Motion) : Motion := { s.brakeGen o m with discard := true, keep := 0, list := [] }

/-- An arm's path stopped ahead of the entries staged, with a status (R114, R115). -/
def pathStop (n code : Nat) (s : State) : State :=
  let s := s.updGen (1000 + n) (s.stopGen (1000 + n))
  let s := s.updArm n (fun r => { r with status := code, singular := r.singular || code == St.singularityStop })
  s.event (30 + (s.arm n).mandrel) 0x8303 (0x1000 + n) (toLE 2 code ++ toLE 1 1)

/-! ### Torque feed-forward (R71, R118) -/

/-- The torque feed-forward of an auxiliary axis (R71): three terms for the entry's acceleration and velocity, the Coulomb
term with the sign of the velocity (DEDUCED, log entry 27). -/
def auxTorque (x : Axis) (ns : Nat) (e : QEntry) : Int :=
  let sec := (Fl.ofInt ns).div (Fl.ofInt 1000000000)
  let acc := (Fl.ofFix e.acc 24).div (sec.mul sec)
  let vel := (Fl.ofFix e.vel 16).div sec
  let c := Fl.ofBits x.coulombAux
  let c := if e.vel = 0 then {} else if e.vel < 0 then c.neg else c
  clampI (-(2 ^ 31)) (2 ^ 31 - 1)
    ((((Fl.ofBits x.torquePerAcc).mul acc).add ((Fl.ofBits x.viscousAux).mul vel)).add c |>.toFix 0)

/-- An entry with its torque feed-forward; in HOLD a TORQUE_PASS axis keeps the one in force, flagged HOLD (R639). -/
def Axis.withTorque (x : Axis) (ns : Nat) (e : QEntry) : QEntry :=
  match x.keepTorque with
  | some t => { e with torque := t, flags := setBit e.flags 0 }
  | none => { e with torque := auxTorque x ns e }

/-- Whether an arm carries no dynamic parameters, so that every torque of R118 is zero. -/
def Arm.massless (r : Arm) : Bool :=
  r.payloads == [] && r.joints.all (fun j => j.mass == 0 && j.rotor == 0 && j.viscous == 0 && j.coulomb == 0 && j.inertia.all (· == 0))

/-! ### Staging (R30, R83, R119) -/

/-- Entries appended to the queues of an owner (R29): S moves on by one. -/
def State.pushEntries (s : State) (o : Nat) (before : Motion) (gen : Motion) (es : List (Nat × QEntry)) : State :=
  let s := s.updQueues o (fun a q => match es.find? (fun e => e.1 == a) with
    | some (_, e) => { q with entries := q.entries ++ [e], s := q.s + 1, l := q.s + 1 }
    | none => q)
  s.setGen o gen (s.back o ++ [before])

/-- A modulo axis's staged position kept bounded (R58). -/
def rebaseEntry (x : Axis) (e : QEntry) (m : Motion) : QEntry × Motion :=
  if x.modulo = 0 then (e, m)
  else if 2 ^ 60 ≤ e.pos then ({ e with pos := e.pos - x.rebaseQ, flags := setBit e.flags 11 }, { m with rebase := m.rebase + x.rebaseQ })
  else if e.pos ≤ -(2 ^ 60 : Int) then ({ e with pos := e.pos + x.rebaseQ, flags := setBit e.flags 12 }, { m with rebase := m.rebase - x.rebaseQ })
  else (e, m)

/-- A Cartesian entry: while the path runs, the joint values follow from inverse kinematics whose operation order R80 leaves
to the firmware release, so position and feed-forward are free values (log entry 25). -/
def State.freeEntry (s : State) (e : QEntry) : QEntry × State :=
  let (p, s) := s.freeSigned
  let (v, s) := s.freeSigned
  let (a, s) := s.freeSigned
  ({ e with pos := toS 64 (toU 64 p), vel := toS 32 (toU 32 v), acc := toS 32 (toU 32 a) }, s)

/-- A joint's torque feed-forward: zero for an arm without dynamic parameters, else free under the clamp of R118 (log entry
25). -/
def State.jointTorque (s : State) (n a : Nat) (e : QEntry) : QEntry × State :=
  if (s.arm n).massless then (e, s)
  else
    let (t, s) := s.freeSigned
    let m : Int := (s.axis a).lim.torqueMax
    let t' := clampI (-m) m t
    ({ e with torque := t' }, if t' = t then s else s.updArm n (fun r => { r with ffClamp := wrap 32 (r.ffClamp + 1) }))

/-- One entry of an owner is staged (R30). A follower without its master's data stages nothing. -/
def stageOne (o : Nat) (s : State) : State :=
  let m := s.gen o
  let g := s.grid o
  let stamp := s.nextStamp o
  if o < 1000 then
    let x := s.axis o
    match m.follow with
    | some f =>
      match s.emitFollow o f g.1 stamp with
      | none => s
      | some (f', e) => s.pushEntries o m { m with follow := some f' } [(o, { e with torque := auxTorque x s.tickLen e })]
    | none =>
      let (m', es) := m.emit g.1 stamp
      let e := (es.head?.map Prod.snd).getD { stamp := stamp }
      let (e, m') := rebaseEntry x e m'
      s.pushEntries o m m' [(o, x.withTorque s.tickLen e)]
  else
    let n := o - 1000
    let running := m.cart && m.moving
    let (m', es) := m.emit g.1 stamp
    let path (m : Motion) : Int := ((m.tracks.find? (fun t => t.axis == 0xFFFF)).map (fun t => t.x)).getD 0
    let m' := if 0 < m.blendLeft then { m' with blendLeft := m.blendLeft - (path m' - path m) } else m'
    let es := es.filter (fun p => p.1 != 0xFFFF)
    -- what the path meets at this entry follows from the same computation, so it is free too (R113 to R115)
    let (met, s) := if running then s.freeBelow 8 else (0, s)
    let s := if met = 4 then s.updArm n (fun r => { r with ikResidual := wrap 32 (r.ikResidual + 1) }) else s
    let r := es.foldl (fun (acc : List (Nat × QEntry) × State) p =>
      let (e, s) := if running then acc.2.freeEntry (if met = 5 then { p.2 with flags := setBit p.2.flags 7 } else p.2) else (p.2, acc.2)
      let (e, s) := s.jointTorque n p.1 e
      (acc.1 ++ [(p.1, e)], s)) ([], s)
    -- the joints stand where the path left them
    let m' := if running then { m' with tracks := m'.tracks.map (fun t => match r.1.find? (fun e => e.1 == t.axis) with
      | some (_, e) => { t with x := e.pos * 2 ^ 32 }
      | none => t) } else m'
    let s := r.2.pushEntries o m m' r.1
    match met with
    | 1 => pathStop n St.singularityStop s
    | 2 => pathStop n St.jointLimitStop s
    | 3 => (s.updGen o (s.stopGen o)).event (30 + (s.arm n).mandrel) 0x8402 (0x1000 + n) []
    | _ => s

/-- The next plan of an axis's or arm's segment list starts when the plan in force has ended (R91). -/
def State.stageable (s : State) (o : Nat) : Bool :=
  let q := s.ownQueue o
  decide (q.s - q.k < 256) && (s.ownerAxes o).all (fun a => (s.gen o).tracks.any (fun t => t.axis == a)) && (s.ownerAxes o) != [] &&
    !(o < 1000 && (s.axis o).fault.isSome)

/-- The zones an entry of an arm touches (R255). -/
def State.touched (s : State) (n stamp : Nat) : List Nat :=
  (s.claim.zones.filter (fun p => p.2.en && Config.zoneTouch n stamp p.1)).map Prod.fst

/-- Whether a claim is one of this device's arm `n`: its own, or one taken over with a failed primary (R37, R269). -/
def State.ownSource (s : State) (n src : Nat) : Bool :=
  src == s.source n || s.claim.adopted.any (fun d => d * 64 + n == src) || (s.isShadow && s.pair.peer * 64 + n == src)

/-- Whether a zone of a claim is HELD (R263). -/
def Claim.isHeld (c : Claim) (z : Nat) : Bool := c.held.any (fun h => h.1 == z)

/-- Whether an entry of an arm stamped `stamp` is covered (R261). -/
def State.covered (s : State) (n stamp : Nat) : Bool :=
  (s.touched n stamp).all (fun z =>
    match s.claim.claims.find? (fun c => s.ownSource n c.source && c.granted && c.zones.contains z &&
        (c.isHeld z || (decide (c.start ≤ stamp) && decide (stamp ≤ c.stop)))) with
    | none => false
    | some c => !s.claim.claims.any (fun d => !s.ownSource n d.source && d.granted && d.zones.contains z && decide (d.start < c.start)))

/-- A message of this device's Mandrels, applied by every arbiter at the edge two ticks later (R258); a shadow leaves it to its
primary. -/
def State.claimMsg (s : State) (m : ClaimMsg) : State :=
  if s.isShadow then s
  else
    let due := s.cell.tick + 2
    let s := { s with claim := { s.claim with msgs := s.claim.msgs ++ [(due, m)] } }
    if s.cell.role = 7 then s else { s with fab := { s.fab with waiting := s.fab.waiting ++ [(none, .claim due m)] } }

/-- An arm's plan has changed, or the arm stops (R260, R265): its pending requests are withdrawn; a stop also releases every
zone that no entry from K - 1 onward touches. -/
def withdrawClaims (n : Nat) (stop : Bool) (s : State) : State :=
  let own := s.claim.claims.filter (fun c => s.ownSource n c.source)
  let stamps := (List.range ((s.ownQueue (1000 + n)).entries.length + 1)).map (fun i => s.cell.tick + i - 1)
  let s := { s with claim := { s.claim with asked := Table.set 0 s.claim.asked n s.cell.tick } }
  own.foldl (fun s c =>
    if !c.granted then s.claimMsg (.withdraw c.source)
    else if stop then
      c.zones.foldl (fun s z => if stamps.any (fun t => (s.touched n t).contains z) then s else s.claimMsg (.release c.source z)) s
    else s) s

/-! ### Resumes and factors (R100, R104) -/

/-- A generator that resumes along its path (R100). -/
def State.resumeGen (s : State) (o : Nat) (m : Motion) : Motion :=
  let m' := { m with held := false, stopped := false, claimWait := false, clearStop := false }
  match s.brakeLimits o m true with
  | some (g, h) => { m' with hold := m.hold.to 0x80000000 g h }
  | none => { m' with hold := {} }

/-- The clearance factor ramped to a delivered factor (R104): `f` is Q1.15. -/
def State.factorGen (s : State) (o f : Nat) (m : Motion) : Motion :=
  let goal := f * 65536
  match s.brakeLimits o m (decide (m.clear.s < goal)) with
  | some (g, h) => { m with clear := m.clear.to goal g h, retimed := true }
  | none => { m with clear := { s := goal, goal := goal } }

/-! ### Staging of an owner (R35, R119) -/

/-- At most `n` entries of an owner are staged. An arm whose next entry is not covered stages up to it, and brakes under
CLAIM_WAIT when no more than the horizon is left (R35). -/
def stageUpTo (o : Nat) : Nat → State → State
  | 0, s => s
  | n + 1, s =>
    if !s.stageable o then s
    else
      let q := s.ownQueue o
      let m := s.gen o
      if 1000 ≤ o ∧ !s.covered (o - 1000) (s.nextStamp o) ∧ m.moving ∧ !m.stopped then
        if m.held then stageUpTo o n (stageOne o s)
        else if s.horizon < q.s - q.k then s
        else
          let s := s.updGen o (fun m => { s.brakeGen o m with claimWait := true })
          let s := s.updArm (o - 1000) (fun r => { r with status := St.claimWait })
          let s := s.updClaimCount (o - 1000) (fun c => { c with claimWaits := wrap 32 (c.claimWaits + 1) })
          let s := s.event (30 + (s.arm (o - 1000)).mandrel) 0x8303 (0x1000 + (o - 1000)) (toLE 2 St.claimWait ++ toLE 1 1)
          stageUpTo o n (stageOne o s)
      else
        let s := beginNext o (if 1000 ≤ o then blendStep o s else s)
        let s' := stageOne o s
        if (s'.ownQueue o).s = q.s then s else stageUpTo o n s'

/-- The position of an axis just enabled joins its owner's generator (R673): a standstill at the held position, with
standstill entries in every slot its arm already has. -/
def adoptAxis (o a : Nat) (s : State) : State :=
  let x := s.axis a
  match x.queue.heldPos with
  | none => s
  | some p =>
    if x.mode = 0 ∨ (s.gen o).tracks.any (fun t => t.axis == a) then s
    else
      let add (m : Motion) : Motion := { m with tracks := m.tracks ++ [{ axis := a, x := p * 2 ^ 32 }] }
      let others := (s.ownerAxes o).filter (fun b => b != a && (s.gen o).tracks.any (fun t => t.axis == b))
      let q := ((others.head?).map (fun b => (s.axis b).queue)).getD { x.queue with entries := [], c := x.queue.k, s := x.queue.k, l := x.queue.k }
      let es := q.entries.map (fun e => { e with pos := p, vel := 0, acc := 0, torque := 0 })
      let s := s.setGen o (add (s.gen o)) ((s.back o).map add)
      s.updAxis a (fun x => { x with queue := { q with entries := es, last := none, heldPos := x.queue.heldPos } })

/-- The owners a pass serves, in ascending number: axes out of DISABLED outside every arm, then arms (R119). -/
def State.owners (s : State) : List Nat :=
  ((s.motion.axes.filter (fun p => p.2.mode != 0 && (s.groupOf p.1).isNone)).map Prod.fst) ++
    ((List.range 16).filter (fun n => (s.arm n).defined && (s.ownerAxes (1000 + n)) != [])).map (1000 + ·)

/-- Adoption of every axis of an owner. -/
def adoptAll (o : Nat) (s : State) : State := (s.ownerAxes o).foldl (fun s a => adoptAxis o a s) s

/-- Staging of an owner in a pass: up to the horizon and 8 beyond, then at most 8 more (R83, R119). -/
def stageOwner (o : Nat) (s : State) : State :=
  let s := adoptAll o s
  let q := s.ownQueue o
  stageUpTo o (s.horizon + 8 - (q.s - q.k) + 8) s

/-- The Mandrel of an owner (R51). -/
def State.ownerMandrel (s : State) (o : Nat) : Nat := if o < 1000 then s.mandrelOf o else (s.arm (o - 1000)).mandrel

/-- A follower whose published entries have fallen to 2 ahead of K without its master's data disengages: it brakes from its
own state with D and J, and MASTER_LOST is sent (R124). -/
def loseMaster (a : Nat) (s : State) : State :=
  let x := s.axis a
  match x.gen.follow with
  | none => s
  | some f =>
    let d := x.divisor
    if 2 < x.queue.c - x.queue.k ∨ (s.masterAt f a (s.nextStamp a + d)).isSome ∨ x.queue.last.isNone then s
    else
      let l := x.lim.plan s.tickLen 0x8000
      let v := (f.next - f.prev) * 2 ^ 32 / d
      let k : Kin := { x := f.next * 2 ^ 32, v := v }
      let b := planBrake k l.d l.j
      let t : Track := { axis := a, x := k.x, v := k.v, segs := b.segs }
      let s := s.setAxis a { x with gen := { x.gen with follow := none, tracks := [t], held := true, discard := true } }
      s.event (30 + s.mandrelOf a) 0x8404 a (toLE 1 f.node ++ toLE 2 f.master)

/-- One Mandrel pass (R119): followers that have lost their master, then staging for every owner of a usable Mandrel. -/
def mandrelPass (s : State) : State :=
  s.owners.foldl (fun s o => if s.lost (30 + s.ownerMandrel o) then s else stageOwner o (if o < 1000 then loseMaster o s else s)) s

/-! ### Replanning (R92, R120) -/

/-- The generator before entry `i` of an owner's queue. -/
def State.genAt (s : State) (o i : Nat) : Motion := (s.back o).getD i (s.gen o)

/-- The entries of ticks up to this one at the front of an owner's queue: entry n stays as it is (R24). -/
def State.sealedCount (s : State) (o : Nat) : Nat :=
  match (s.ownQueue o).published with
  | e :: _ => if e.stamp = wrap 32 s.cell.tick then 1 else 0
  | [] => 0

/-- `n` entries a generator would make from a stamp on, with the generator before each. -/
def previewEntries (d : Nat) : Nat → Nat → Motion → List (Motion × List (Nat × QEntry)) × Motion
  | 0, _, m => ([], m)
  | n + 1, stamp, m =>
    let (m', es) := m.emit d stamp
    let (l, e) := previewEntries d n (stamp + d) m'
    ((m, es) :: l, e)

/-- How an entry of a new plan compares with the published one, along the published motion `dir`: further along, behind
entry n, or neither (R92). -/
def comparePlan (dir : Int) (new pub base : Int) : Nat :=
  if dir = 0 then (if new = pub then 0 else 1)
  else if 0 < dir * (new - pub) then 1 else if dir * (new - base) < 0 then 2 else 0

/-- Rewritten entries of a Cartesian path: their positions on the published path are free values too (log entry 25). -/
def State.freeQueue (s : State) (a i : Nat) : State :=
  let q := (s.axis a).queue
  let r := (q.entries.drop i).foldl (fun (acc : List QEntry × State) e =>
    let (e, s) := acc.2.freeEntry e
    (acc.1 ++ [e], s)) ([], s)
  r.2.updAxis a (fun x => { x with queue := { x.queue with entries := q.entries.take i ++ r.1 } })

/-- The axes' entries of a rewrite put into the queues from index `i` on; the staged rest is dropped (R92, R93, R120). -/
def State.rewriteFrom (s : State) (o i : Nat) (l : List (Motion × List (Nat × QEntry))) (gen : Motion) : State :=
  let s := s.updQueues o (fun a q =>
    let new := l.filterMap (fun p => (p.2.find? (fun e => e.1 == a)).map (fun e => { e.2 with flags := clrBit (setBit e.2.flags 6) 5 }))
    { q with entries := q.entries.take i ++ new, s := q.k + i + new.length, l := q.k + i + new.length })
  let s := if gen.cart then (s.ownerAxes o).foldl (fun s a => s.freeQueue a i) s else s
  s.setGen o gen ((s.back o).take i ++ l.map Prod.fst)

/-- An owner's motion replanned at this edge (R92): `plan` gives the new generator from the generator at the entry it starts
from, `halt` the brake of that plan. -/
def replan (o : Nat) (plan halt : Motion → Motion) (s : State) : State :=
  let s := adoptAll o s
  let q := s.ownQueue o
  let i := s.sealedCount o
  let c := q.c - q.k
  let g := s.grid o
  let stamp := s.nextStamp o - g.1 * (q.entries.length - i)
  let cols := s.ownerAxes o
  let ent (a j : Nat) : Int := ((s.axis a).queue.entries.getD j {}).pos
  -- the joints of a Cartesian path have free positions, so its published entries are compared by the path alone
  let p := previewEntries g.1 (c - i) stamp (plan (s.genAt o i))
  let start (a : Nat) : Int := if i = 0 then (((s.genAt o 0).tracks.find? (fun t => t.axis == a)).map (fun t => divRNE t.x (2 ^ 32))).getD 0 else ent a (i - 1)
  let judge := (List.range (c - i)).flatMap (fun j => cols.map (fun a =>
    match (p.1.getD j (({} : Motion), [])).2.find? (fun e => e.1 == a) with
    | some (_, e) => comparePlan ((ent a (c - 1) - start a).sign) e.pos (ent a (i + j)) (start a)
    | none => 0))
  if (s.gen o).cart ∨ judge.all (· == 0) then s.rewriteFrom o i p.1 p.2
  else if judge.any (· == 1) then
    let m := plan (s.genAt o c)
    let s := s.updQueues o (fun _ q => { q with entries := q.entries.take c, s := q.c, l := q.c })
    s.setGen o m ((s.back o).take c)
  else
    let b := previewEntries g.1 (c - i) stamp (halt (s.genAt o i))
    s.rewriteFrom o i b.1 (plan { b.2 with tracks := b.2.tracks.map (fun t => { t with segs := [], t := 0, v := 0, a := 0 }) })

/-- The kinematic state of a track. -/
def Track.kin (t : Track) : Kin := { x := t.x, v := t.v, a := t.a }

/-- A generator that brakes every track along its own motion with D and J (R94, R97). -/
def State.brakeTracks (s : State) (o : Nat) (m : Motion) : Motion :=
  { m with tracks := m.tracks.map (fun t =>
      let l := s.planLim o t.axis 0x8000
      { t with segs := (planBrake t.kin l.a l.j).segs, t := 0, goal := none }) }

/-- Publication of `n` more entries of an owner (R31): C moves on, never past L or the horizon. -/
def publish (o n : Nat) (s : State) : State :=
  s.updQueues o (fun _ q => { q with c := min q.l (q.c + n) })

/-- Clearance of an auxiliary axis outside every group: up to K and the horizon, at factor 1.0 (R235). -/
def clearAux (o : Nat) (s : State) : State :=
  let q := s.ownQueue o
  publish o (q.k + s.horizon - q.c) s

/-- A brake of an owner's clearance factor at once, for factor 0 (R106): from entry n + 1 over the published tail; only entries
beyond C carry CLEAR_STOP. -/
def clearanceStop (o : Nat) (s : State) : State :=
  let m := s.gen o
  if m.clearStop then s
  else
    let f (m : Motion) : Motion := match s.brakeLimits o m false with
      | some (g, h) => { m with clear := m.clear.to 0 g h, clearStop := true }
      | none => { m with clear := { s := 0, goal := 0 }, clearStop := true }
    let s := replan o f f s
    if 1000 ≤ o then
      (s.updArm (o - 1000) (fun r => { r with status := St.clearanceStop })).event (30 + s.ownerMandrel o) 0x8303 (0x1000 + (o - 1000))
        (toLE 2 St.clearanceStop ++ toLE 1 1)
    else s

/-- A delivered factor above 0: a clearance stop resumes (R106), a change of factor re-times the staged entries (R104). -/
def deliverFactor (o f : Nat) (s : State) : State :=
  let q := s.ownQueue o
  let c := q.c - q.k
  if (s.gen o).clearStop then
    let m := { s.genAt o c with clearStop := false }
    let s := s.updQueues o (fun _ q => { q with entries := q.entries.take c, s := q.c, l := q.c })
    let s := s.setGen o (s.factorGen o f m) ((s.back o).take c)
    if 1000 ≤ o then
      (s.updArm (o - 1000) (fun r => { r with status := 0, factor := f })).event (30 + s.ownerMandrel o) 0x8303 (0x1000 + (o - 1000))
        (toLE 2 St.clearanceStop ++ toLE 1 0)
    else s
  else if (s.gen o).clear.goal = f * 65536 then s
  else
    let m := s.factorGen o f (s.genAt o c)
    let s := s.updQueues o (fun _ q => { q with entries := q.entries.take c, s := q.c, l := q.c })
    let s := s.setGen o m ((s.back o).take c)
    if 1000 ≤ o then s.updArm (o - 1000) (fun r => { r with factor := f }) else s

end Sys2Proof.Machine
end

