-- ==== Sys2Proof/Machine/HostBase.lean ====
section
/-! DEFINITION. What every host command shares: the tests of R332 in order, replies, the conditions of R47 and R638, and the
record of a finished command (11_command_interface). A command's meaning takes its header and its argument octets. -/

namespace Sys2Proof.Machine

/-- A test that refuses: whether it fails, with its status and DETAIL (R331, R332). -/
abbrev Test := Bool × Nat × Nat

/-- The first failing test refuses the command, which then has no effect (R332). -/
def tested (s : State) (ts : List Test) (k : State × Reply) : State × Reply :=
  match ts.find? (fun t => t.1) with
  | some (_, c, d) => (s, { status := c, detail := d })
  | none => k

/-- A command took effect in full. -/
def okReply (s : State) : State × Reply := (s, {})

/-- A command took effect and returns data. -/
def dataReply (s : State) (bs : List Byte) : State × Reply := (s, { data := bs })

/-- A command took effect with a warning. -/
def warnReply (s : State) (code detail : Nat) : State × Reply := (s, { status := code, detail := detail })

/-- An argument octet outside its range (R332: DETAIL is 32 plus the octet). -/
def badAt (i : Nat) (b : Bool) : Test := (b, St.badParam, 32 + i)

/-- The length of the arguments differs from the layout (R330). -/
def badLen (a : List Byte) (n : Nat) : Test := (a.length != n, St.badParam, 2)

/-- A subject field out of range: the number in the low 2 octets, zero in the high 2 (R330). -/
def badSubject (a : List Byte) (i limit : Nat) : Test := badAt i (uAt a (i + 2) 2 != 0 || decide (limit ≤ uAt a i 2))

/-- Reserved argument octets that are not zero. -/
def badZeros (a : List Byte) (i n : Nat) : Test := badAt i (!zerosAt a i n)

/-- A binary32 argument that is a NaN or an infinity (R62). -/
def badFloat (a : List Byte) (i : Nat) : Test := badAt i (!finite32 (uAt a i 4))

/-- A state condition that refuses with BAD_STATE. -/
def badState (b : Bool) : Test := (b, St.badState, 0)

/-- On a shadow, or a listener that is joining a pair, a host's state-changing command is refused; one that the primary's commit
carries is not (R278, R647). -/
def shadowed (h : Hdr) (s : State) : Test :=
  (isHost h.port && s.isShadow, St.shadowRole, 0)

/-- Whether an axis is in the running set of PARTIAL, or the cell is not PARTIAL (R638, R640). -/
def State.inRun (s : State) (a : Nat) : Bool :=
  s.cell.state != 7 || bitAt s.cell.axisRun a || match s.armOf a with
    | some n => bitAt s.cell.armRun n
    | none => false

/-- Whether an arm is in the running set of PARTIAL, or the cell is not PARTIAL. -/
def State.armInRun (s : State) (n : Nat) : Bool := s.cell.state != 7 || bitAt s.cell.armRun n

/-- Configuration commands are refused outside CONFIG, STANDBY, RUN, HOLD and PARTIAL (R638). -/
def cfgCell (s : State) : Test := badState (!([2, 3, 4, 5, 7].contains s.cell.state))

/-- The condition of R47: any axis in CONFIG, only DISABLED axes elsewhere. -/
def cond47 (s : State) (axes : List Nat) : Test :=
  badState (!(s.cell.state == 2 || ([3, 4, 5, 7].contains s.cell.state && axes.all (fun a => (s.axis a).mode == 0))))

/-- Motion commands run in RUN, and in PARTIAL for what is named (R638). -/
def moveCell (s : State) (named : Bool) : Test := badState (!(s.cell.state == 4 || (s.cell.state == 7 && named)))

/-- Homing, jog and alignment run in STANDBY and RUN, and in PARTIAL for what is named (R638). -/
def homeCell (s : State) (named : Bool) : Test := badState (!([3, 4].contains s.cell.state || (s.cell.state == 7 && named)))

/-- Holds, stops and resumes; in HOLD no resume (R638). -/
def holdCell (s : State) (named resume : Bool) : Test :=
  badState (!([3, 4].contains s.cell.state || (s.cell.state == 5 && !resume) || (s.cell.state == 7 && named)))

/-- Reading commands, SAFE, JRNL and DIAG, and every command of the other families, outside BOOT, RECOVER and SLEEP (R638). -/
def liveCell (s : State) : Test := badState (!([2, 3, 4, 5, 7].contains s.cell.state))

/-- The commands that a device halted in BOOT accepts as well (R633). -/
def haltCell (s : State) : Test := badState (!([2, 3, 4, 5, 7].contains s.cell.state || (s.cell.state == 1 && s.power.halted)))

/-- A finished command awaits its response (R331): its status, and the tick count of the edge for one that took effect. A
cancel reports its commit edge whatever it found (R338), and so does a command that completes later (R339). -/
def State.answer (s : State) (h : Hdr) (code : Nat) (a : List Byte) (r : Reply) : State :=
  let took := r.status < 0x0200 || r.later || r.status == St.notPending
  let c : HostCmd := { hdr := h, code := code, args := a, acceptGtc := s.gtc, commitAt := s.cell.edge, commitTick := if took then s.cell.tick else 0
                       stage := if r.later then .running else .replied, reply := r }
  { s with host := { s.host with cmds := s.host.cmds ++ [c] } }

/-- A host command commits at this edge: its meaning runs and its reply is ready (R20, R331). -/
def commitHost (code : Nat) (run : Hdr → List Byte → State → State × Reply) (h : Hdr) (a : List Byte) (s : State) : Result :=
  let r := run h a s
  .next (r.1.answer h code a r.2)

end Sys2Proof.Machine
end

