-- ==== Sys2Proof/Machine/Tiller.lean ====
section
/-! DEFINITION. Loop closure in the Tillers (04_loop_closure, R126 to R156): exact stage arithmetic, the update, its
watchdog. Exact values are pairs with no bound on mantissa or exponent. -/

namespace Sys2Proof.Machine

/-! ### Exact arithmetic and renormalisation (R132 to R135) -/

/-- A fixed-point integer with `f` fraction bits as an exact value. -/
def Pair.fix (x : Int) (f : Nat) : Pair := { m := x, e := -f }

/-- Two exact values at one exponent. -/
def Pair.align (x y : Pair) : Int × Int × Int :=
  let e := min x.e y.e
  (x.m * 2 ^ (x.e - e).toNat, y.m * 2 ^ (y.e - e).toNat, e)

def Pair.add (x y : Pair) : Pair :=
  let (a, b, e) := x.align y
  { m := a + b, e := e }

def Pair.neg (x : Pair) : Pair := { x with m := -x.m }

def Pair.sub (x y : Pair) : Pair := x.add y.neg

def Pair.mul (x y : Pair) : Pair := { m := x.m * y.m, e := x.e + y.e }

/-- Whether one exact value lies below another. -/
def Pair.lt (x y : Pair) : Bool :=
  let (a, b, _) := x.align y
  decide (a < b)

/-- An exact value held between minus and plus a limit. -/
def Pair.clamp (lim x : Pair) : Pair := if lim.lt x then lim else if x.lt lim.neg then lim.neg else x

/-- The sign of an exact value. -/
def Pair.sign (x : Pair) : Int := x.m.sign

/-- Rounded to an integer after a shift by `f` bits, to nearest with ties to even. -/
def Pair.toFix (x : Pair) (f : Int) : Int :=
  let k := x.e + f
  if 0 ≤ k then x.m * 2 ^ k.toNat else divRNE x.m (2 ^ (-k).toNat)

/-- Whether a value fits the 24-bit mantissa at an exponent (R134). -/
def Pair.fits (e : Int) (x : Pair) : Bool :=
  let q := x.toFix (-e)
  decide (-(2 ^ 23 : Int) ≤ q ∧ q ≤ 2 ^ 23 - 1)

/-- The exponent of the leading bit of a value; very small for zero. -/
def Pair.lead (x : Pair) : Int := if x.m = 0 then -1000000 else x.e + x.m.natAbs.log2

/-- The shared exponent of a stage (R134): the smallest at or above -128 at which every member fits. -/
def stageExp (vs : List Pair) : Int :=
  if vs.all (fun v => v.m == 0) then -128
  else
    let top := (vs.map Pair.lead).foldl max (-1000000)
    let c := max (-128) (top - 23)
    if vs.all (Pair.fits c) then c
    else if vs.all (Pair.fits (max (-128) (top - 22))) then max (-128) (top - 22)
    else max (-128) (top - 21)

/-- A stage renormalised: its members rounded at one exponent; none when the exponent is too large (NUMERIC_FAULT of R134). -/
def renorm (vs : List Pair) : Option (List Pair) :=
  let e := stageExp vs
  if 127 < e then none else some (vs.map (fun v => { m := v.toFix (-e), e := e }))

/-- Whether a pair is in canonical form (R133). -/
def Pair.canonical (p : Pair) : Bool :=
  (p.m == 0 && p.e == 0) || (decide (2 ^ 22 ≤ p.m.natAbs) && decide (p.m.natAbs ≤ 2 ^ 23 - 1)) || decide (p.m = -(2 ^ 23 : Int))

/-! ### The update (R137 to R143, R151) -/

/-- What an update takes from its queue entry (R76), or from a repeat under R40, R154 or R673. -/
structure Drive where
  pos : Int := 0
  vel : Int := 0
  acc : Int := 0
  torque : Int := 0
deriving DecidableEq, Repr

/-- What a completed update computes beside the new record. -/
structure UpdateOut where
  loop : LoopRec
  /-- integrator terms withheld; R140. -/
  holds : Nat := 0
  /-- OUT_TORQUE or OUT_VEL was clamped; R141. -/
  clamped : Bool := false
  /-- |ep| exceeds FOLLOW_MAX; R139. -/
  follow : Bool := false
deriving DecidableEq, Repr

/-- One notch (R137, R143): its output and new histories, or none under R136. -/
def Notch.run (n : Notch) (init : Bool) (x x1 x2 y1 y2 : Pair) : Option (Pair × Pair × Pair × Pair × Pair) :=
  if !n.en then some (x, x, x, x, x)
  else
    let (x1, x2, y1, y2) := if init then (x, x, x, x) else (x1, x2, y1, y2)
    let y := ((((n.b0.mul x).add (n.b1.mul x1)).add (n.b2.mul x2)).sub (n.a1.mul y1)).sub (n.a2.mul y2)
    match renorm [y] with
    | some [v] => some (v, x, x1, v, y1)
    | _ => none

/-- Stage OUT and the output limit (R137, R141). -/
def outStage (yo ta tf : Pair) (torqueMax : Nat) : Option (Int × Int × Bool) :=
  match renorm [yo, ta, tf, (yo.add ta).add tf] with
  | some [_, _, _, tau] =>
    let t := tau.toFix 0
    let m : Int := torqueMax
    some (if m < t then (m, 1, true) else if t < -m then (-m, -1, true) else (t, 0, false))
  | _ => none

/-- OUT_VEL from an exact value per tick, clamped to 32 bits (R141). -/
def outVelOf (v : Pair) : Int × Bool :=
  let x := v.toFix 16
  let y := clampI (-(2 ^ 31)) (2 ^ 31 - 1) x
  (y, x != y)

/-- The velocity and torque stages of an update from `up` on (R137, R140). -/
def velocityStages (x : Axis) (r : LoopRec) (d : Drive) (stale : Bool) (up : Pair) : Option UpdateOut :=
  let k := x.coef
  let fv := bitAt k.ff 0
  let vc := if fv then up.add (Pair.fix d.vel 16) else up
  let vf : Pair := { m := r.fbPos - r.fbPosPrev, e := -16 - (x.divisor.log2 : Int) }
  match renorm [vc, vf, vc.sub vf] with
  | some [vc, _, ev] =>
    let ta := if bitAt k.ff 1 then k.kaff.mul (Pair.fix d.acc 24) else {}
    let tf := if bitAt k.ff 2 then Pair.fix d.torque 0 else {}
    let term := k.kvi.mul ev
    let hold := stale || (r.sat != 0 && term.sign == r.sat)
    let vi0 := if r.initVi then ((((Pair.fix r.outTorque 0).sub ta).sub tf).clamp k.ilimV) else r.vi
    let vd0 := if r.initVi then {} else r.vd
    let ev0 := if r.initVi then ev else r.evPrev
    let vp := k.kvp.mul ev
    let vi := (if hold then vi0 else vi0.add term).clamp k.ilimV
    let vd := (k.dfv.mul vd0).add (k.kvd.mul (ev.sub ev0))
    match renorm [vp, vi, vd, (vp.add vi).add vd] with
    | some [_, vi, vd, uv] =>
      match x.notch1.run r.initNotch uv r.n1x1 r.n1x2 r.n1y1 r.n1y2 with
      | some (y1, a1, a2, b1, b2) =>
        match x.notch2.run r.initNotch y1 r.n2x1 r.n2x2 r.n2y1 r.n2y2 with
        | some (y2, c1, c2, e1, e2) =>
          match outStage y2 ta tf x.lim.torqueMax with
          | some (t, sat, cl) =>
            let v := outVelOf vc
            some { loop := { r with
                     vi := vi, vd := vd, evPrev := ev, n1x1 := a1, n1x2 := a2, n1y1 := b1, n1y2 := b2
                     n2x1 := c1, n2x2 := c2, n2y1 := e1, n2y2 := e2, outTorque := t, outVel := v.1, outPos := d.pos, sat := sat
                     initPid := false, initVi := false, initNotch := false, ovrConsec := 0 }
                   holds := if hold && term.m != 0 then 1 else 0, clamped := cl || v.2 }
          | none => none
        | none => none
      | none => none
    | _ => none
  | _ => none

/-- An update in a mode that closes the position loop (R137): stages PE and PP, then the rest. -/
def positionUpdate (x : Axis) (r : LoopRec) (d : Drive) (stale : Bool) : Option UpdateOut :=
  let k := x.coef
  let err := Pair.fix (d.pos - r.fbPos) 16
  match renorm [err] with
  | some [ep] =>
    let term := k.ki.mul ep
    let hold := stale || (r.sat != 0 && term.sign == r.sat)
    let pi0 := if r.initPid then {} else r.pi
    let pd0 := if r.initPid then {} else r.pd
    let ep0 := if r.initPid then ep else r.epPrev
    let pp := k.kp.mul ep
    let pi := (if hold then pi0 else pi0.add term).clamp k.ilimP
    let pd := (k.dfp.mul pd0).add (k.kd.mul (ep.sub ep0))
    match renorm [pp, pi, pd, (pp.add pi).add pd] with
    | some [_, pi, pd, up] =>
      (velocityStages x { r with pi := pi, pd := pd, epPrev := ep } d stale up).map (fun o => { o with
        holds := o.holds + (if hold && term.m != 0 then 1 else 0)
        follow := !stale && decide ((x.lim.followMax : Int) < (d.pos - r.fbPos).natAbs) })
    | _ => none
  | _ => none

/-- An update in TORQUE_PASS (R141, R151): stage OUT alone, with the measured speed. -/
def torqueUpdate (x : Axis) (r : LoopRec) (d : Drive) : Option UpdateOut :=
  match outStage {} {} (Pair.fix d.torque 0) x.lim.torqueMax with
  | some (t, sat, cl) =>
    let v := outVelOf { m := r.fbPos - r.fbPosPrev, e := -16 - (x.divisor.log2 : Int) }
    some { loop := { r with outTorque := t, outVel := v.1, outPos := d.pos, sat := sat, initPid := false, initVi := false
                            initNotch := false, ovrConsec := 0 }
           clamped := cl || v.2 }
  | none => none

/-- The update of an axis by its mode (R151). -/
def axisUpdate (x : Axis) (r : LoopRec) (d : Drive) (stale : Bool) : Option UpdateOut :=
  if x.mode = 4 then torqueUpdate x r d
  else if x.mode = 2 then velocityStages x { r with pi := {}, pd := {}, epPrev := {} } d stale {}
  else positionUpdate x r d stale

/-! ### Feedback (R56, R58, R138) -/

/-- The network and input slot of an axis's feedback (R54, R159). -/
def Binding.feedback : Binding → Option (Nat × Nat)
  | .net n _ i => some (n, i)
  | .dd _ n i => some (n, i)
  | _ => Option.none

/-- The raw feedback of an axis in the snapshot, and whether it is fresh (R16, R470). -/
def State.feedback (s : State) (x : Axis) : Option (Nat × Bool) :=
  match x.binding.feedback with
  | none => none
  | some (n, i) =>
    let w := s.net n
    let d := w.ins.getD i {}
    let v : InSlot := Table.get {} (s.lathe w.engine).slots (w.inFirst + i)
    let raw := if d.order = 0 then ofLE v.snap else ofBE v.snap
    some (raw % 2 ^ x.fbWidth, !v.stale && v.snap != [])

/-- Whether this device takes the inputs of the present tick from the other device of its pair (R277, R298): a shadow does, and the
new primary in the tick of a switchover. -/
def State.takesFwd (s : State) : Bool :=
  if s.pair.switchAt = some s.cell.tick then s.pair.role == 1 else s.isShadow

/-- The forwarded input of an axis in the present tick (R276). -/
def State.forwarded (s : State) (a : Nat) : Option (Nat × Bool) :=
  if !s.takesFwd then none
  else match s.pair.fwd with
    | some f => if f.tick = s.cell.tick then (f.inputs.find? (fun i => i.1 == a)).map (fun i => (i.2.2, i.2.1)) else none
    | none => none

/-- The feedback an update of axis `a` takes (R277): the forwarded record, or with none its own sealed input. -/
def State.feedbackOf (s : State) (a : Nat) (x : Axis) : Option (Nat × Bool) :=
  match s.feedback x, s.forwarded a with
  | none, _ => none
  | some _, some f => some f
  | some own, none => some own

/-- A forwarded input that has not arrived by the update that needs it is counted (R277). -/
def countFwdLate (a : Nat) (x : Axis) (s : State) : State :=
  if s.takesFwd && (s.feedback x).isSome && (s.forwarded a).isNone then { s with pair := { s.pair with fwdLate := wrap 32 (s.pair.fwdLate + 1) } } else s

/-- The extended position of a fresh raw sample (R56). -/
def Axis.extend (x : Axis) (first : Bool) (raw : Nat) : Int :=
  let r := x.loop
  if first ∨ x.fbWidth = 64 then
    (if x.fbSigned ∨ x.fbWidth = 64 then toS x.fbWidth raw else (raw : Int)) * 2 ^ 16 + x.fbOffset
  else r.fbReal + toS x.fbWidth (raw + 2 ^ x.fbWidth - r.fbRaw % 2 ^ x.fbWidth) * 2 ^ 16

/-- Feedback entering an update (R138): the record with the new feedback, and whether the sample was extrapolated; or the
axis fault it raises. A virtual axis has no feedback: its FB_POS equals the
POSITION of the entry it takes (R642). -/
def takeFeedback (s : State) (a : Nat) (x : Axis) (first : Bool) (pos : Int) : Except Nat (LoopRec × Bool) :=
  let r := x.loop
  match s.feedbackOf a x with
  | none => .ok ({ r with fbPosPrev := r.fbPos, fbPos := pos, fbReal := pos }, false)
  | some (raw, fresh) =>
    if fresh then
      let p := x.extend first raw
      let r := { r with fbPosPrev := if first then p else r.fbPos, fbPos := p, fbReal := p, fbRaw := raw, staleAge := 0 }
      if x.modulo = 0 ∧ (p < -(2 ^ 63 : Int) ∨ 2 ^ 63 - 1 < p) then .error St.posRange else .ok (r, false)
    else if first then .error St.feedbackLost
    else if r.staleAge + 1 ≤ x.coef.staleMax then
      .ok ({ r with fbPosPrev := r.fbPos, fbPos := 2 * r.fbPos - r.fbPosPrev, staleAge := r.staleAge + 1 }, true)
    else .error St.feedbackLost

/-- The shift of feedback state when an entry carries a rebase (R58, R138). -/
def LoopRec.shift (r : LoopRec) (q : Int) : LoopRec :=
  { r with fbPos := r.fbPos + q, fbPosPrev := r.fbPosPrev + q, fbReal := r.fbReal + q }

/-! ### The entry an update takes (R40, R79, R154, R673) -/

/-- The drive of an update, and what the taking of its entry did: the axis with its queue moved on, whether the update is an
underrun, and whether that underrun is a fault of R40. -/
structure Taken where
  axis : Axis
  drive : Drive
  flags : Nat := 0
  underrun : Bool := false
  fault : Bool := false
deriving DecidableEq, Repr

/-- The queue with the entry at K consumed. -/
def Queue.consume (q : Queue) (e : QEntry) : Queue :=
  { q with entries := q.entries.drop 1, k := q.k + 1, c := max q.c (q.k + 1), l := max q.l (q.k + 1), s := max q.s (q.k + 1)
           last := some e, heldPos := none }

/-- An update of axis `x` in a tick takes its entry. `bad` is an entry whose CHECK fails; a stamp that differs fails R79 too.
An auxiliary axis in fault repeats its last entry, uncounted (R39). -/
def takeEntry (x : Axis) (tick : Nat) (aux bad : Bool) : Taken :=
  let q := x.queue
  let again (x : Axis) (counted : Bool) : Taken :=
    match x.queue.last with
    | some e => { axis := if counted then { x with underruns := wrap 32 (x.underruns + 1) } else x
                  drive := { pos := e.pos }, underrun := counted, fault := counted && e.vel != 0 }
    | none => { axis := x, drive := { pos := x.queue.heldPos.getD x.loop.fbPos } }
  if aux ∧ x.fault.isSome then again x false
  else match q.published with
    | [] => again x q.last.isSome
    | e :: _ =>
      if bad ∨ e.stamp ≠ wrap 32 tick then
        -- the entry counts as consumed, without becoming the last entry taken
        let q' := { q.consume e with last := q.last, heldPos := q.heldPos }
        again { x with queue := q', back := x.back.drop 1, queueCheck := wrap 32 (x.queueCheck + 1) } true
      else { axis := { x with queue := q.consume e, back := x.back.drop 1 }
             drive := { pos := e.pos, vel := e.vel, acc := e.acc, torque := e.torque }, flags := e.flags }

/-- OUT_FLAGS of a record (R142). -/
def outFlags (x : Axis) (underrun stale : Bool) (sat : Int) (flags : Nat) : Nat :=
  bitIf 0 (x.mode != 0 && x.fault.isNone) + bitIf 2 underrun + bitIf 3 stale + bitIf 4 (decide (sat = 1)) +
    bitIf 5 (decide (sat = -1)) + bitIf 6 (bitAt flags 0) + bitIf 7 x.fault.isSome

/-- The record of an axis with only its flags renewed: FAULT set and ENABLE clear where a fault arose (R39, R153). -/
def LoopRec.faultFlags (r : LoopRec) : LoopRec := { r with outFlags := setBit (clrBit (clrBit r.outFlags 0) 1) 7 }

/-- The position of an active Tiller that serves a rank among N due axes with P positions (R52, R129): the position and the
place within its share. -/
def positionOf (n p rank : Nat) : Nat × Nat :=
  let q := n / p
  let r := n % p
  let i := if rank < r * (q + 1) then rank / (q + 1) else r + (rank - r * (q + 1)) / max q 1
  (i, rank - (i * q + min i r))

/-- The engines in use: the usable ones, without the spare while all nine are usable (R126, R129). -/
def State.engines (s : State) : List Nat :=
  let us := (List.range 9).filter (fun n => !s.lost (21 + n))
  if us.length = 9 then us.filter (fun n => n != s.motion.spare) else us

/-- The number of active positions (R129). -/
def State.positions (s : State) : Nat := min 8 s.engines.length

/-- The engine that serves a due axis, and its place in the engine's share (R52, R126). -/
def State.servedBy (s : State) (a : Nat) : Option (Nat × Nat) :=
  let due := s.dueAxes s.cell.tick
  match (List.range due.length).find? (fun k => due.getD k 0 == a) with
  | none => none
  | some rank =>
    if s.positions = 0 then none else
      let p := positionOf due.length s.positions rank
      s.engines[p.1]?.map (fun e => (e, p.2))

/-- The GTC at which an engine's update of a place starts, with the stall cycles before it (R127, R152). -/
def State.updateStart (s : State) (place late : Nat) : Nat := s.cell.edge + tillerOpen s.cell.tickSel + (place * 875 + late * 5) / 2

/-- An update ends: its axis is served, and the engine's counts and the load record take note (R43, R152). -/
def finish (s : State) (a e : Nat) (x : Axis) (place stall : Nat) : State :=
  let t := tillerOpen s.cell.tickSel + ((place + 1) * 875 + ((s.tiller e).late + stall) * 5) / 2
  let r := s.cell.load
  let n := (x.underruns + 2 ^ 32 - (s.axis a).underruns) % 2 ^ 32
  let s := s.setAxis a { x with due := false }
  let s := { s with cell := { s.cell with load := { r with tillerEnd := max r.tillerEnd t, underruns := wrap 32 (r.underruns + n) } } }
  s.updTiller e (fun t => { t with updates := wrap 32 (t.updates + 1), stalls := wrap 32 (t.stalls + stall), late := t.late + stall })

/-- A homing axis against a hard stop counts its updates at the stop (R189). -/
def Homing.atStop (h : Homing) (r : LoopRec) (ep : Int) : Homing :=
  if h.method = 5 then
    let on := decide (r.sat = (if h.dir = 1 then 1 else -1)) && decide ((h.hsFollow : Int) ≤ 2 * ep.natAbs)
    { h with hsRun := if on then h.hsRun + 1 else 0 }
  else h

/-- A Tiller update of axis `a` (R127, R137, R152). `entryBad` and `recordBad` say that the stored entry or record has lost
its check (R79, R131), `ecc` how many single-bit errors were corrected in them. The update that ends after the output seal
writes nothing. -/
def tillerUpdate (a : Nat) (entryBad recordBad : Bool) (ecc : Nat) (s : State) : State :=
  let x := s.axis a
  match s.servedBy a with
  | none => s
  | some (e, place) =>
    if !x.due ∨ (s.tiller e).tripped then s
    else
      let stall := 6 * ecc
      let s := s.updTiller e (fun t => { t with ecc := wrap 32 (t.ecc + ecc) })
      let start := s.updateStart place (s.tiller e).late
      let s := s.advanceTo (start + (875 + 5 * stall) / 2)
      let s := countFwdLate a x s
      if s.cell.edge + sealOfs s.cell.tickSel < s.gtc then s
      else
        let aux := (s.armOf a).isNone
        let tk := takeEntry x s.cell.tick aux (entryBad || s.wnw.badEntry.contains (a, x.queue.k))
        let x := { tk.axis with taken := true }
        if recordBad then (finish s a e { x with faulted := true } place stall).axisFault a St.stateCheck
        else
          let first := x.loop.initVi && x.queue.last.isNone && x.queue.heldPos.isNone
          match takeFeedback s a x first tk.drive.pos with
          | .error c => (finish s a e { x with faulted := true } place stall).axisFault a c
          | .ok (r, stale) =>
            let r := if bitAt tk.flags 11 then r.shift (-x.rebaseQ) else if bitAt tk.flags 12 then r.shift x.rebaseQ else r
            -- before the first entry the axis holds the position of its first feedback (R673)
            let held := x.queue.last.isNone
            let x := if held ∧ x.queue.heldPos.isNone then { x with queue := { x.queue with heldPos := some r.fbPos } } else x
            let d := if held then { tk.drive with pos := x.queue.heldPos.getD r.fbPos } else tk.drive
            match axisUpdate x r d stale with
            | none => (finish s a e { x with faulted := true } place stall).axisFault a St.numericFault
            | some o =>
              let x := { x with
                loop := { o.loop with outFlags := outFlags x tk.underrun stale o.loop.sat tk.flags }
                staleCount := if stale then wrap 32 (x.staleCount + 1) else x.staleCount
                awHolds := wrap 32 (x.awHolds + o.holds), outSat := if o.clamped then wrap 32 (x.outSat + 1) else x.outSat
                homing := x.homing.map (fun h => { h.atStop o.loop (d.pos - o.loop.fbPos) with
                  hist := ((s.cell.tick, o.loop.fbPos) :: h.hist).take 512 }) }
              let s := finish s a e x place stall
              let s := if tk.fault then s.axisFault a St.underrunFault else if o.follow then s.axisFault a St.followError else s
              s.updAxis a (fun x => if x.fault.isSome then { x with loop := { x.loop with outFlags := outFlags x tk.underrun stale o.loop.sat tk.flags } } else x)

/-- TILLER_UPDATE: a Tiller runs one axis update (R137). -/
def execTillerUpdate (a : Nat) (entryBad recordBad : Bool) (ecc : Nat) (s : State) : Result :=
  onUnit a 512 (tillerUpdate a entryBad recordBad ecc s)

/-- A watchdog trip of engine `n` (R152): its remaining updates of the tick are abandoned, and it is unusable from the next
edge. -/
def tillerWatchdog (n : Nat) (s : State) : State :=
  (s.updTiller n (fun t => { t with tripped := true })).doom (21 + n) 2

/-- TILLER_WATCHDOG: an update not complete after 400 cycles trips the engine watchdog (R152). -/
def execTillerWatchdog (n : Nat) (s : State) : Result := onUnit n 9 (tillerWatchdog n s)

end Sys2Proof.Machine
end

