-- ==== Sys2Proof/Machine/AxisConfig.lean ====
section
/-! DEFINITION. Configuration and status commands of axes (R45 to R51, R56, R71 to R75, R122, R130, R133, R144 to R150, R156,
R160, R162, R168, R174, R179, R350, R351) and the placement of due phases (R49, R50). -/

namespace Sys2Proof.Machine

/-! ### Due phases (R49, R50) -/

/-- What is placed as one: an arm's joints, or an axis outside every arm; with its key (R49). -/
structure PlaceItem where
  key : Nat
  axes : List Nat
  arm : Option Nat := none
deriving DecidableEq, Repr

/-- The axes with a binding other than None, as items in ascending key (R49, R50). -/
def State.placeItems (s : State) : List PlaceItem :=
  let bound (a : Nat) : Bool := (s.axis a).binding != Binding.none
  (s.motion.axes.filterMap (fun p =>
    if p.2.binding = Binding.none then none
    else match s.armOf p.1 with
      | none => some { key := p.1, axes := [p.1] }
      | some n =>
        let js := ((s.arm n).joints.map (fun j => j.axis)).filter bound
        if js.foldl min p.1 = p.1 then some { key := p.1, axes := js, arm := some n } else none))

/-- Axes due at a tick of the hypercycle, among some axes at their present phases. -/
def State.loadAt (s : State) (axes : List Nat) (t : Nat) : Nat :=
  (axes.filter (fun a => (t + (s.axis a).phase) % (s.axis a).divisor == 0)).length

/-- The phase of R49 for a divisor over a load: the lowest phase whose largest load is smallest. -/
def bestPhase (load : Nat → Nat) (d : Nat) : Nat :=
  let m (p : Nat) : Nat := ((List.range 16).filter (fun t => (t + p) % d == 0)).foldl (fun a t => max a (load t)) 0
  (List.range d).foldl (fun b p => if m p < m b then p else b) 0

/-- The phase of an item written to its axes and arm. -/
def State.putPhase (s : State) (i : PlaceItem) (p : Nat) : State :=
  let s := i.axes.foldl (fun s a => s.updAxis a (fun x => { x with phase := p })) s
  match i.arm with
  | some n =>
    let s := (s.arm n).joints.foldl (fun s j => s.updAxis j.axis (fun x => { x with phase := p })) s
    s.updArm n (fun r => { r with phase := p })
  | none => s

/-- Whether an item's phase follows the automatic rule, and its divisor and present phase. -/
def State.itemGrid (s : State) (i : PlaceItem) : Bool × Nat × Nat :=
  match i.arm with
  | some n => ((s.arm n).autoPhase, (s.arm n).divisor, (s.arm n).phase)
  | none => let x := s.axis (i.axes.headD 0); (x.autoPhase, x.divisor, x.phase)

/-- An item placed against the load of other axes (R49). -/
def State.placeItem (s : State) (others : List Nat) (i : PlaceItem) : State :=
  let g := s.itemGrid i
  if g.1 then s.putPhase i (bestPhase (s.loadAt others) g.2.1) else s.putPhase i g.2.2

/-- Every item placed afresh, in ascending key (R50). -/
def State.placeAll (s : State) : State :=
  (s.placeItems.foldl (fun (acc : State × List Nat) i => (acc.1.placeItem acc.2 i, acc.2 ++ i.axes)) (s, [])).1

/-- The item of an axis placed against all others (R50). -/
def State.placeAxis (s : State) (a : Nat) : State :=
  match s.placeItems.find? (fun i => i.axes.contains a) with
  | none => s
  | some i => s.placeItem ((s.motion.axes.filter (fun p => p.2.binding != Binding.none && !i.axes.contains p.1)).map Prod.fst) i

/-- The limit of axes due in one tick (R26) is kept by the axes out of DISABLED (R27, R50). -/
def State.fitsBudget (s : State) : Bool :=
  let on := (s.motion.axes.filter (fun p => p.2.mode != 0)).map Prod.fst
  (List.range 16).all (fun t => decide (s.loadAt on t ≤ (if s.cell.tickSel = 0 then 256 else 512)))

/-- A Mandrel within its limits of 128 axes and 4 arms (R51). -/
def State.ownersFit (s : State) : Bool :=
  (List.range 4).all (fun m =>
    decide ((s.motion.axes.filter (fun p => (p.2.binding != Binding.none || (s.armOf p.1).isSome) && s.mandrelOf p.1 == m)).length ≤ 128) &&
    decide (((List.range 16).filter (fun n => (s.arm n).defined && (s.arm n).mandrel == m)).length ≤ 4))

/-! ### AXIS.BIND and AXIS.CONFIG -/

/-- The binding an AXIS.BIND names (R348). -/
def bindingOf (a : List Byte) : Binding :=
  match uAt a 4 1 with
  | 1 => .net (uAt a 6 2) (uAt a 8 2) (uAt a 10 2)
  | 2 => .dd (uAt a 12 1) (uAt a 6 2) (uAt a 10 2)
  | 3 => .virtual
  | _ => Binding.none

/-- Another axis holds the output slot or unit (R46). -/
def State.bindConflict (s : State) (ax : Nat) (b : Binding) : Bool :=
  s.motion.axes.any (fun p => p.1 != ax && match b, p.2.binding with
    | .net n o _, .net m q _ => n == m && o == q
    | .dd u _ _, .dd w _ _ => u == w
    | _, _ => false)

/-- AXIS.BIND (R46, R47, R159). -/
def runAxisBind (h : Hdr) (a : List Byte) (s : State) : State × Reply :=
  let ax := uAt a 0 2
  let k := uAt a 4 1
  let x := s.axis ax
  let net := s.net (uAt a 6 2)
  let b := bindingOf a
  let s' := (s.setAxis ax { x with binding := b, refValid := false })
  let s' := if x.binding = Binding.none ∧ b ≠ Binding.none then s'.placeAxis ax else s'
  tested s [badLen a 16, badSubject a 0 512, badAt 4 (decide (3 < k)), badZeros a 5 1,
      badAt 6 ((k == 1 || k == 2) && !(decide (uAt a 6 2 < 32) && net.defined)),
      badAt 8 (k == 1 && decide (net.outs.length ≤ uAt a 8 2)), badAt 10 ((k == 1 || k == 2) && decide (net.ins.length ≤ uAt a 10 2)),
      badAt 12 (if k = 2 then decide (23 < uAt a 12 1) else uAt a 12 1 != 0xFF), badZeros a 13 3, shadowed h s, cond47 s [ax],
      badAt 4 (k == 2 && decide (2 < x.divisor)),
      (s.bindConflict ax b, St.bindConflict, 0), (!s'.ownersFit, St.ownerFull, 0), (!s'.fitsBudget, St.budgetExceeded, 0)]
    (okReply s')

/-- AXIS_BIND: sets an axis's binding (R46). -/
def execAxisBind (h : Hdr) (a : List Byte) (s : State) : Result := commitHost 0x0401 runAxisBind h a s

/-- Whether F0 keeps below 0.45 fs for a divisor (R146, R150). -/
def notchFits (ns d : Nat) (n : Notch) : Bool :=
  let fs := (Fl.ofInt 1000000000).div (Fl.ofInt (d * ns))
  (Fl.ofBits n.f0).le ((Fl.roundQ 45 100 0).mul fs)

/-- The canonical pair of a binary32 value: mantissa rounded half to even (R133, R146). -/
def Fl.pair (x : Fl) : Pair :=
  if x.m = 0 then {} else
    let n := (x.m.natAbs.log2 : Int)
    let m := shiftRNE x.m (22 - n)
    if m = 2 ^ 23 then { m := 2 ^ 22, e := x.e + n - 21 } else { m := m, e := x.e + n - 22 }

/-- The coefficients of a FORM 0 notch (R146), in the order written. -/
def Notch.derive (n : Notch) (ns d : Nat) : Notch :=
  let one := Fl.ofInt 1
  let two := Fl.ofInt 2
  let fs := one.div ((Fl.ofInt d).mul ((Fl.ofInt ns).div (Fl.ofInt 1000000000)))
  let f0 := Fl.ofBits n.f0
  let z := (Fl.ofBits n.bw).div (two.mul f0)
  let k := ((Fl.pi.mul f0).div fs).tan
  let kk := k.mul k
  let a0 := (one.add ((two.mul z).mul k)).add kk
  let dz := (((two.mul (Fl.ofBits n.depth)).mul z).mul k)
  let b1 := ((two.mul (kk.sub one)).div a0).pair
  { n with b0 := (((one.add dz).add kk).div a0).pair, b1 := b1, b2 := (((one.sub dz).add kk).div a0).pair, a1 := b1
           a2 := (((one.sub ((two.mul z).mul k)).add kk).div a0).pair }

/-- The FORM 0 notches of an axis derived again for its period (R150). -/
def Axis.rederive (x : Axis) (ns : Nat) : Axis :=
  let f (n : Notch) : Notch := if n.form = 0 ∧ n.en then n.derive ns x.divisor else n
  { x with notch1 := f x.notch1, notch2 := f x.notch2 }

/-- AXIS.CONFIG (R47 to R51, R56, R58, R71). -/
def runAxisConfig (h : Hdr) (a : List Byte) (s : State) : State × Reply :=
  let ax := uAt a 0 2
  let x := s.axis ax
  let d := uAt a 4 1
  let p := uAt a 5 1
  let md := uAt a 6 1
  let joint := s.armOf ax
  let isDd := match x.binding with
    | .dd _ _ _ => true
    | _ => false
  let d' := if d = 0 then x.divisor else d
  let jointBad := match joint with
    | none => false
    | some n =>
      let r := s.arm n
      d != 0 && !(d == r.divisor && (p == r.phase || (p == 0xFF && r.autoPhase)))
  let width := uAt a 7 1
  let sgn := uAt a 8 1 == 1
  let abs := uAt a 9 1 == 1
  let ofs := sAt a 16 8
  let md64 := uAt a 24 8
  let refKept := x.refValid && x.fbWidth == width && x.fbSigned == sgn && x.abs == abs && x.fbOffset == ofs
  let y := { x with
    fbWidth := width, fbSigned := sgn, abs := abs, jogFrac := uAt a 10 2, jogFracNoref := uAt a 12 2, fbOffset := ofs, modulo := md64
    torquePerAcc := store32 (uAt a 32 4), viscousAux := store32 (uAt a 36 4), coulombAux := store32 (uAt a 40 4), refValid := refKept }
  let y := if joint.isSome then y else
    let y := { y with mandrel := if md = 0xFF then none else some md }
    if d = 0 then y else { y with divisor := d, autoPhase := p == 0xFF, phase := if p = 0xFF then y.phase else p }
  let s' := s.setAxis ax (if d' = x.divisor then y else y.rederive s.tickLen)
  let s' := if joint.isNone ∧ d ≠ 0 ∧ y.binding ≠ Binding.none ∧ (d ≠ x.divisor ∨ y.autoPhase ≠ x.autoPhase ∨ !y.autoPhase) then s'.placeAxis ax else s'
  tested s [badLen a 44, badSubject a 0 512, badAt 4 (!([0, 1, 2, 4, 8, 16].contains d)),
      badAt 5 (d != 0 && p != 0xFF && decide (d ≤ p)), badAt 6 (joint.isNone && md != 0xFF && decide (3 < md)),
      badAt 7 (decide (width < 16 ∨ 64 < width)), badAt 8 (decide (1 < uAt a 8 1)), badAt 9 (decide (1 < uAt a 9 1)),
      badAt 10 (decide (0x8000 < uAt a 10 2)), badAt 12 (decide (0x8000 < uAt a 12 2)), badZeros a 14 2,
      badAt 24 (decide (2 ^ 43 < md64)), badFloat a 32, badFloat a 36, badFloat a 40,
      badAt 4 jointBad, badAt 4 (isDd && decide (2 < d')), badAt 24 (x.lim.softEn && md64 != 0), shadowed h s, cond47 s [ax],
      ((x.notch1.en && x.notch1.form == 0 && !notchFits s.tickLen d' x.notch1) ||
        (x.notch2.en && x.notch2.form == 0 && !notchFits s.tickLen d' x.notch2), St.notchRange, 0),
      (!s'.ownersFit, St.ownerFull, 0), (!s'.fitsBudget, St.budgetExceeded, 0)]
    (okReply s')

/-- AXIS_CONFIG: sets divisor, phase, owner and feedback format of an axis (R48). -/
def execAxisConfig (h : Hdr) (a : List Byte) (s : State) : Result := commitHost 0x0402 runAxisConfig h a s

/-! ### AXIS.SET_LIMITS (R72, R73, R75) -/

/-- Whether limits fit the entry formats at a tick length (R73). -/
def Limits.fit (l : Limits) (ns : Nat) : Bool :=
  decide (l.velMax * ns < 32768 * 65536 * 1000000000) && decide (l.accMax * ns ^ 2 < 128 * 65536 * 1000000000 ^ 2)

/-- The limits an AXIS.SET_LIMITS carries (R72, R330). -/
def limitsOf (a : List Byte) : Limits :=
  { softMin := sAt a 4 8, softMax := sAt a 12 8, softEn := uAt a 20 1 == 1, velMax := uAt a 21 8, accMax := uAt a 29 8
    decStop := uAt a 37 8, jerkMax := uAt a 45 8, torqueMax := uAt a 53 4, followMax := uAt a 57 8 }

/-- A plan in force held inside its soft limits (R97): when its brake point passes a limit it is replaced by the latest stop
that respects it, or by a brake with D and LIMIT_OVERRUN. -/
def softStop (o ax : Nat) (s : State) : State :=
  let x := s.axis ax
  let m := s.genAt o (s.sealedCount o)
  match m.tracks.find? (fun t => t.axis == ax) with
  | none => s
  | some t =>
    if !(x.lim.softEn && x.refValid) ∨ t.v = 0 then s
    else
      let l := s.planLim o ax 0x8000
      let sg : Int := if 0 < t.v then 1 else -1
      let k : Kin := { x := 0, v := sg * t.v, a := sg * t.a }
      let edge := (if sg = 1 then x.lim.softMax else x.lim.softMin) * 2 ^ 32
      let room := sg * (edge - t.x)
      let last := (t.segs.getLast?.map (fun g => if g.endless then sg * (edge - t.x) + 1 else sg * (g.stop.x - t.x))).getD 0
      if last ≤ room ∧ (planBrake k l.a l.j).goal ≤ room then s
      else if (planBrake k l.a l.j).goal ≤ room then
        -- the target is cut at the limit
        let f (m : Motion) : Motion := { m with clipped := true, tracks := m.tracks.map (fun t =>
          if t.axis = ax then { t with segs := (planMove t.kin edge l).segs, t := 0, goal := some (edge / 2 ^ 32) } else t) }
        (replan o f f s).event (30 + s.ownerMandrel o) 0x8402 ax (toLEs 8 (edge / 2 ^ 32))
      else
        let am := bisectBrake k room l.j 24 l.a l.d
        let beyond := decide (room < (planBrake k l.d l.j).goal)
        let b (t : Track) : List Seg := (planBrake t.kin (if beyond then l.d else am) l.j).segs
        let f (m : Motion) : Motion := { m with clipped := true, reversal := false, tracks := m.tracks.map (fun t =>
          if t.axis = ax then { t with segs := b t, t := 0, goal := none } else { t with segs := (planBrake t.kin l.d l.j).segs, t := 0, goal := none }) }
        let s := replan o f f s
        let pt := (t.x + sg * (planBrake k (if beyond then l.d else am) l.j).goal) / 2 ^ 32
        if beyond then (s.updAxis ax (fun x => { x with limitActive := true })).event (30 + s.ownerMandrel o) 0x8403 ax (toLEs 8 pt)
        else s.event (30 + s.ownerMandrel o) 0x8402 ax (toLEs 8 (edge / 2 ^ 32))

/-- A lowered velocity limit below the published motion (R75): the tail slows to the new limit as fast as D and J allow. -/
def slowTo (o ax : Nat) (s : State) : State × Bool :=
  let x := s.axis ax
  let lim := perTick x.lim.velMax s.tickLen 1 0x8000
  let top := (x.queue.published.map (fun e => e.vel.natAbs)).foldl max 0
  if (top : Int) * 2 ^ 32 ≤ lim then (s, false)
  else
    let ratio := (divRNE (lim * 2 ^ 31) ((top : Int) * 2 ^ 32)).toNat
    let f (m : Motion) : Motion := match s.brakeLimits o m false with
      | some (g, h) => { m with joint := m.joint.to ratio g h, retimed := true }
      | none => m
    (replan o f f s, true)

/-- AXIS.SET_LIMITS (R72, R73, R75). -/
def runAxisSetLimits (h : Hdr) (a : List Byte) (s : State) : State × Reply :=
  let ax := uAt a 0 2
  let x := s.axis ax
  let l := limitsOf a
  let s1 := s.setAxis ax { x with lim := l }
  let r := slowTo (s1.ownerOf ax) ax s1
  let s2 := softStop (r.1.ownerOf ax) ax r.1
  tested s [badLen a 65, badSubject a 0 512,
      badAt 4 (decide (l.softMin < -(2 ^ 62 : Int) ∨ l.softMax ≤ l.softMin)), badAt 12 (decide ((2 ^ 62 : Int) < l.softMax)),
      badAt 20 (decide (1 < uAt a 20 1) || (l.softEn && x.modulo != 0)),
      badAt 21 (l.velMax == 0 || decide (2 ^ 63 ≤ l.velMax)), badAt 29 (l.accMax == 0 || decide (2 ^ 63 ≤ l.accMax)),
      badAt 37 (l.decStop == 0 || decide (l.decStop * 16 < l.accMax)), badAt 45 (l.jerkMax == 0),
      badAt 53 (l.torqueMax == 0 || decide (1000000 < l.torqueMax)), badAt 57 (l.followMax == 0), badAt 21 (!l.fit s.tickLen),
      shadowed h s, cfgCell s]
    (if r.2 then warnReply s2 St.limitLowered 0 else okReply s2)

/-- AXIS_SET_LIMITS: sets an axis's soft limits and motion limits (R72). -/
def execAxisSetLimits (h : Hdr) (a : List Byte) (s : State) : Result := commitHost 0x0403 runAxisSetLimits h a s

/-! ### AXIS.SET_LOOP and AXIS.SET_NOTCH -/

/-- The pair at an argument offset. -/
def pairAt (a : List Byte) (i : Nat) : Pair := Pair.ofWord (uAt a i 4)

/-- The coefficients an AXIS.SET_LOOP carries (R144, R330). -/
def coefsOf (a : List Byte) : Coefs :=
  { kp := pairAt a 4, ki := pairAt a 8, kd := pairAt a 12, dfp := pairAt a 16, ilimP := pairAt a 20, kvp := pairAt a 24
    kvi := pairAt a 28, kvd := pairAt a 32, dfv := pairAt a 36, ilimV := pairAt a 40, kaff := pairAt a 44
    ff := uAt a 48 1, staleMax := uAt a 49 1 }

/-- A one-member stage (R134, R148); out of range it keeps the value unrounded. -/
def renorm1 (v : Pair) : Pair := match renorm [v] with
  | some [w] => w
  | _ => v

/-- The integrators rescaled so that a change of gains does not bump the output (R148). -/
def LoopRec.rescale (r : LoopRec) (old new : Coefs) : LoopRec :=
  { r with pi := renorm1 ((r.pi.add ((old.kp.sub new.kp).mul r.epPrev)).clamp new.ilimP)
           vi := renorm1 ((r.vi.add ((old.kvp.sub new.kvp).mul r.evPrev)).clamp new.ilimV) }

/-- Whether a mode closes the position loop (R145). -/
def closesPosition (m : Nat) : Bool := m == 1 || m == 3 || m == 5 || m == 6

/-- AXIS.SET_LOOP (R133, R144, R145, R148). -/
def runAxisSetLoop (h : Hdr) (a : List Byte) (s : State) : State × Reply :=
  let ax := uAt a 0 2
  let x := s.axis ax
  let k := coefsOf a
  let ps := (List.range 11).map (fun i => (4 + 4 * i, pairAt a (4 + 4 * i)))
  let one : Pair := { m := 1 }
  let bad (p : Nat × Pair) : Test :=
    badAt p.1 (!p.2.canonical || decide (p.2.m < 0) || ((p.1 == 16 || p.1 == 36) && !p.2.lt one))
  let s' := s.setAxis ax { x with coef := k, loop := if x.mode = 0 then x.loop else x.loop.rescale x.coef k }
  tested s ([badLen a 50, badSubject a 0 512] ++ ps.map bad ++ [badAt 48 (decide (7 < k.ff)), badAt 49 (decide (3 < k.staleMax)),
      shadowed h s, cfgCell s,
      ((closesPosition x.mode && (k.kp.m == 0 || k.kvp.m == 0)) || (x.mode == 2 && k.kvp.m == 0), St.loopUnset, 0)])
    (okReply s')

/-- AXIS_SET_LOOP: sets loop coefficients with integrator rescale (R144). -/
def execAxisSetLoop (h : Hdr) (a : List Byte) (s : State) : Result := commitHost 0x0404 runAxisSetLoop h a s

/-- Whether a FORM 1 set is stable (R147), exactly on the pairs. -/
def Notch.stable (n : Notch) : Bool :=
  let one : Pair := { m := 1 }
  let abs (p : Pair) : Pair := { p with m := p.m.natAbs }
  (abs n.a2).lt one && (abs n.a1).lt (one.add n.a2)

/-- AXIS.SET_NOTCH (R133, R146, R147). -/
def runAxisSetNotch (h : Hdr) (a : List Byte) (s : State) : State × Reply :=
  let ax := uAt a 0 2
  let x := s.axis ax
  let form := uAt a 6 1
  let raw : Notch := { en := uAt a 5 1 == 1, form := form, f0 := store32 (uAt a 7 4), bw := store32 (uAt a 11 4)
                       depth := store32 (uAt a 15 4), b0 := pairAt a 19, b1 := pairAt a 23, b2 := pairAt a 27
                       a1 := pairAt a 31, a2 := pairAt a 35 }
  let n := if form = 0 then raw.derive s.tickLen x.divisor else raw
  let f := Fl.ofBits
  let f0 := f raw.f0
  let range := form == 0 && (!(f 0x3F800000).le f0 || !notchFits s.tickLen x.divisor raw ||
      !((Fl.roundQ 1 100 0).mul f0).le (f raw.bw) || !(f raw.bw).le ((Fl.ofInt 2).mul f0) ||
      !(Fl.ofInt 0).le (f raw.depth) || !(f raw.depth).le (Fl.ofInt 1))
  let s' := s.setAxis ax (if uAt a 4 1 = 0 then { x with notch1 := n } else { x with notch2 := n })
  let canon (i : Nat) : Test := badAt i (!(pairAt a i).canonical)
  tested s ([badLen a 39, badSubject a 0 512, (decide (1 < uAt a 4 1), St.notchRange, 36), (decide (1 < uAt a 5 1), St.notchRange, 37),
      (decide (1 < form), St.notchRange, 38), badFloat a 7, badFloat a 11, badFloat a 15, (range, St.notchRange, 39)] ++
      [canon 19, canon 23, canon 27, canon 31, canon 35] ++
      [(form == 1 && !raw.stable, St.notchUnstable, 32 + 31), shadowed h s, cfgCell s])
    (dataReply s' (n.b0.octets ++ n.b1.octets ++ n.b2.octets ++ n.a1.octets ++ n.a2.octets))

/-- AXIS_SET_NOTCH: sets a notch filter and returns its coefficient pairs (R146). -/
def execAxisSetNotch (h : Hdr) (a : List Byte) (s : State) : Result := commitHost 0x0405 runAxisSetNotch h a s

/-! ### Switches and direct-drive parameters -/

/-- Whether a pin is granted to a Chisel group (R404). -/
def State.chiselPin (s : State) (p : Nat) : Bool := (List.range 8).any (fun g => bitAt (s.chisel g).grant p)

/-- Whether a pin is a switch of some axis (R174). -/
def State.switchPin (s : State) (p : Nat) : Bool :=
  s.motion.axes.any (fun q => [q.2.swHome.pin, q.2.swNeg.pin, q.2.swPos.pin].contains p)

/-- Whether a pin is some other axis's DRV_EN output (R157). -/
def State.drvPin (s : State) (ax p : Nat) : Bool := s.motion.axes.any (fun q => q.1 != ax && q.2.dd.drvEnPin == p)

/-- AXIS.SWITCH_CONFIG (R174, R176). -/
def runAxisSwitchConfig (h : Hdr) (a : List Byte) (s : State) : State × Reply :=
  let ax := uAt a 0 2
  let pin (i : Nat) : Nat := uAt a i 1
  let sw (p pol : Nat) : Switch := { pin := p, pol := pol }
  let taken (p : Nat) : Bool := p != 0xFF && (s.chiselPin p || s.drvPin 512 p)
  let s' := s.updAxis ax (fun x => { x with
    swHome := sw (pin 4) (uAt a 7 1), swNeg := sw (pin 5) (uAt a 8 1), swPos := sw (pin 6) (uAt a 8 1), filt := uAt a 9 1
    chatN := uAt a 10 1, chatW := uAt a 11 2 })
  let badPin (i : Nat) : Test := badAt i (pin i != 0xFF && decide (127 < pin i))
  tested s [badLen a 13, badSubject a 0 512, badPin 4, badPin 5, badPin 6, badAt 7 (decide (1 < uAt a 7 1)), badAt 8 (decide (1 < uAt a 8 1)),
      badAt 9 (uAt a 9 1 == 0), badAt 10 (uAt a 10 1 == 1), badAt 11 (uAt a 11 2 == 0 || decide (4096 < uAt a 11 2)),
      shadowed h s, cond47 s [ax], (taken (pin 4) || taken (pin 5) || taken (pin 6), St.bindConflict, 0)]
    (okReply s')

/-- AXIS_SWITCH_CONFIG: assigns home and limit switch pins to an axis (R174). -/
def execAxisSwitchConfig (h : Hdr) (a : List Byte) (s : State) : Result := commitHost 0x0411 runAxisSwitchConfig h a s

/-- A switch whose filter starts again at its next sample (R176, R179). -/
def Switch.restart (p : Nat) (w : Switch) : Switch := if w.pin = p then { w with state := none, run := 0 } else w

/-- AXIS.SWITCH_CLEAR (R179). -/
def runAxisSwitchClear (h : Hdr) (a : List Byte) (s : State) : State × Reply :=
  let p := uAt a 0 2
  let g := s.gpio p
  let s1 := s.setGpio p { g with faulty := false, quiet := false }
  let s2 := s.motion.axes.foldl (fun t q => t.updAxis q.1 (fun x =>
    { x with swHome := x.swHome.restart p, swNeg := x.swNeg.restart p, swPos := x.swPos.restart p
             status := if x.status = St.wiringFault ∧ [x.swHome.pin, x.swNeg.pin, x.swPos.pin].contains p then 0 else x.status })) s1
  tested s [badLen a 4, badSubject a 0 128, shadowed h s, cfgCell s, (g.faulty && !g.quiet, St.switchNoisy, 0)]
    (okReply (if g.faulty then s2 else s))

/-- AXIS_SWITCH_CLEAR: clears the chatter fault of a pin (R179). -/
def execAxisSwitchClear (h : Hdr) (a : List Byte) (s : State) : Result := commitHost 0x0412 runAxisSwitchClear h a s

/-- The parameters an AXIS.DD_CONFIG carries (R162, R330). -/
def ddConfigOf (a : List Byte) : DdConfig :=
  let f (i : Nat) : Nat := store32 (uAt a i 4)
  { comm := uAt a 4 1, polePairs := uAt a 5 1, incPerMrev := sAt a 6 8, commOffset := some (sAt a 14 8), rPhase := f 22, lPhase := f 26
    ke := f 30, iRated := f 34, iLimit := f 38, iTrip := f 42, modMax := f 46, iaIn := uAt a 50 1, ibIn := uAt a 51 1
    vbIn := uAt a 52 1, iScale := f 53, iZero := uAt a 57 2, vbScale := f 59, vbusMin := f 63, vbusMax := f 67
    drvEnPin := uAt a 71 1, brakePair := uAt a 72 1, brkOpen := uAt a 73 2, brkClose := uAt a 75 2 }

/-- A converter input enabled in its sequence (R167). -/
def State.enableInput (s : State) (i : Nat) : State :=
  if 64 ≤ i then s else s.updAdc (i / 16) (fun c => { c with inputEn := setBit c.inputEn (i % 16) })

/-- The counts of a tick (R161): 1.25 ns each. -/
def pwmCounts (ns : Nat) : Nat := ns * 4 / 5

/-- The last PWM period's length in counts (R161). -/
def lastPeriod (ns n : Nat) : Nat := if n = 0 then 0 else pwmCounts ns / n + pwmCounts ns % n

/-- Every converter's last conversion ends before the edge (R168): 400 counts a conversion from half the last period on. -/
def State.sequencesFit (s : State) : Bool :=
  s.motion.pwmN == 0 || (List.range 4).all (fun c =>
    let k := popCount 16 (s.adc c).inputEn
    k == 0 || decide (k * 400 < lastPeriod s.tickLen s.motion.pwmN / 2))

/-- AXIS.DD_CONFIG (R47, R162, R168). -/
def runAxisDdConfig (h : Hdr) (a : List Byte) (s : State) : State × Reply :=
  let ax := uAt a 0 2
  let d := ddConfigOf a
  let f (i : Nat) : Fl := Fl.ofBits (uAt a i 4)
  let zero : Fl := {}
  let upTo (i n : Nat) : Bool := !zero.le (f i) || !(f i).le (Fl.ofInt n)
  let beyond (i n : Nat) : Bool := !zero.lt (f i) || !(f i).le (Fl.ofInt n)
  let inp (i : Nat) : Bool := uAt a i 1 != 0xFF && decide (63 < uAt a i 1)
  let floats := [22, 26, 30, 34, 38, 42, 46, 53, 59, 63, 67].map (badFloat a)
  let s' := s.updAxis ax (fun x => { x with dd := d })
  let s' := [d.iaIn, d.ibIn, d.vbIn].foldl State.enableInput s'
  tested s ([badLen a 77, badSubject a 0 512, badAt 4 (decide (2 < d.comm)),
      badAt 5 (d.polePairs == 0 || decide (128 < d.polePairs) || (d.comm == 2 && d.polePairs != 1)), badAt 6 (decide (d.incPerMrev ≤ 0))] ++ floats ++
      [badAt 22 (upTo 22 100), badAt 26 (upTo 26 1), badAt 30 (upTo 30 10), badAt 34 (beyond 34 100),
       badAt 38 (!zero.lt (f 38) || !(f 38).le (f 42)), badAt 42 (beyond 42 150), badAt 46 (!(Fl.round 1 (-1)).le (f 46) || !(f 46).le (Fl.ofInt 1)),
       badAt 50 (inp 50), badAt 51 (inp 51 || (d.comm == 2 && d.ibIn != 0xFF)), badAt 52 (inp 52), badAt 59 (!zero.lt (f 59)),
       badAt 63 (!(Fl.ofInt 5).le (f 63) || !(f 63).lt (f 67)), badAt 67 (!(f 67).le (Fl.ofInt 120)),
       badAt 71 (decide (127 < d.drvEnPin) && d.drvEnPin != 0xFF), badAt 72 (decide (31 < d.brakePair) && d.brakePair != 0xFF),
       shadowed h s, cond47 s [ax],
       (d.drvEnPin != 0xFF && (s.switchPin d.drvEnPin || s.chiselPin d.drvEnPin || s.drvPin ax d.drvEnPin), St.bindConflict, 0),
       (!s'.sequencesFit, St.budgetExceeded, 0)])
    (okReply s')

/-- AXIS_DD_CONFIG: sets the direct-drive parameters of an axis (R162). -/
def execAxisDdConfig (h : Hdr) (a : List Byte) (s : State) : Result := commitHost 0x0413 runAxisDdConfig h a s

/-- Whether N is valid at a TICK (R160). -/
def pwmValid (sel n : Nat) : Bool :=
  let r : Nat × Nat := match sel with
    | 0 => (1, 3)
    | 1 => (2, 6)
    | 2 => (3, 12)
    | 3 => (5, 25)
    | 4 => (10, 50)
    | _ => (20, 100)
  decide (r.1 ≤ n) && decide (n ≤ r.2)

/-- AXIS.DD_PWM (R160). -/
def runAxisDdPwm (h : Hdr) (a : List Byte) (s : State) : State × Reply :=
  let s' := { s with motion := { s.motion with pwmN := uAt a 0 1 } }
  tested s [badLen a 4, badAt 0 (!pwmValid s.cell.tickSel (uAt a 0 1)), badZeros a 1 3, shadowed h s, badState (s.cell.state != 2),
      (!s'.sequencesFit, St.budgetExceeded, 0)]
    (okReply s')

/-- AXIS_DD_PWM: sets PWM periods per tick for all units (R160). -/
def execAxisDdPwm (h : Hdr) (a : List Byte) (s : State) : Result := commitHost 0x0414 runAxisDdPwm h a s

/-! ### Cam tables (R122, R349) -/

/-- AXIS.CAM_TABLE (R122). -/
def runAxisCamTable (h : Hdr) (a : List Byte) (s : State) : State × Reply :=
  let t := uAt a 0 2
  let n := uAt a 4 2
  let pts := (List.range n).map (fun i => (sAt a (8 + 20 * i) 8, sAt a (16 + 20 * i) 8, store32 (uAt a (24 + 20 * i) 4)))
  let rising := (pts.zip (pts.drop 1)).all (fun p => decide (p.1.1 < p.2.1))
  let others := ((s.motion.cams.filter (fun p => p.1 != t)).map (fun p => p.2.points.length)).foldl (· + ·) 0
  let used := s.motion.axes.any (fun p => (p.2.gen.follow.map (fun f => f.cam == some t)).getD false)
  tested s [badSubject a 0 64, badAt 4 (decide (n < 2 ∨ 1024 < n)), badZeros a 6 2, (a.length != 8 + 20 * n, St.badParam, 32 + 8),
      badAt 8 (!rising), badAt 24 (pts.any (fun p => !finite32 p.2.2)), shadowed h s, cfgCell s, badState used,
      (decide (16384 < others + n), St.tooMany, 0)]
    (okReply (s.setCam t { points := pts }))

/-- AXIS_CAM_TABLE: loads a cam table (R122). -/
def execAxisCamTable (h : Hdr) (a : List Byte) (s : State) : Result := commitHost 0x040D runAxisCamTable h a s

/-! ### Reading commands -/

/-- A position of a modulo axis reduced into [0, M) (R58). -/
def Axis.reduced (x : Axis) (p : Int) : Int := if x.modulo = 0 then p else p % ((x.modulo : Int) * 2 ^ 16)

/-- The position target of the plan in force, or the POSITION of entry K (R350). -/
def State.targetOf (s : State) (ax : Nat) : Int :=
  let x := s.axis ax
  match (s.gen (s.ownerOf ax)).tracks.find? (fun t => t.axis == ax) with
  | some { goal := some g, .. } => g
  | _ => ((x.queue.entries.head?.or x.queue.last).map (fun e => e.pos)).getD x.loop.fbPos

/-- The marks of a queue, low 32 bits each (R350). -/
def Queue.marks (q : Queue) : List Byte := toLE 4 q.k ++ toLE 4 q.c ++ toLE 4 q.s ++ toLE 4 q.l

/-- The reply of AXIS.STATUS (R350). -/
def State.axisReport (s : State) (ax : Nat) : List Byte :=
  let x := s.axis ax
  toLE 1 x.mode ++ toLE 1 x.homeState ++ toLE 1 (bitIf 0 x.refValid) ++ toLE 1 x.loop.outFlags ++ toLE 2 x.status ++ toLE 2 0 ++
    toLEs 8 (x.reduced x.loop.fbPos) ++ toLEs 8 (x.reduced (s.targetOf ax)) ++ toLEs 8 x.revPoint ++ toLEs 8 x.overshoot ++
    x.queue.marks ++ toLEs 4 x.loop.outTorque

/-- AXIS.STATUS (R350). -/
def runAxisStatus (_ : Hdr) (a : List Byte) (s : State) : State × Reply :=
  tested s [badLen a 4, badSubject a 0 512, liveCell s] (dataReply s (s.axisReport (uAt a 0 2)))

/-- AXIS_STATUS: returns an axis's mode, status, positions and marks (R350). -/
def execAxisStatus (h : Hdr) (a : List Byte) (s : State) : Result := commitHost 0x0416 runAxisStatus h a s

/-- DIAG.AXIS_LOOP (R130, R131): the record as it stood at the last output seal. -/
def runDiagAxisLoop (_ : Hdr) (a : List Byte) (s : State) : State × Reply :=
  let ax := uAt a 0 2
  tested s [badLen a 4, badSubject a 0 512, liveCell s] (dataReply s ((s.axis ax).sealedLoop.octets ax))

/-- DIAG_AXIS_LOOP: returns an axis's loop-state record (R130). -/
def execDiagAxisLoop (h : Hdr) (a : List Byte) (s : State) : Result := commitHost 0x0C02 runDiagAxisLoop h a s

/-- DIAG.AXIS_COUNTERS (R156, R351). -/
def runDiagAxisCounters (_ : Hdr) (a : List Byte) (s : State) : State × Reply :=
  let ax := uAt a 0 2
  let x := s.axis ax
  let r := ((s.armOf ax).map s.arm).getD {}
  tested s [badLen a 4, badSubject a 0 512, liveCell s]
    (dataReply s ([x.overruns, x.underruns, x.queueCheck, x.staleCount, x.awHolds, x.outSat, x.ddIlim, x.ddVsat, x.ddTrips,
      r.ikResidual, r.ffClamp, x.resyncRepairs].flatMap (toLE 4)))

/-- DIAG_AXIS_COUNTERS: returns an axis's counters (R156). -/
def execDiagAxisCounters (h : Hdr) (a : List Byte) (s : State) : Result := commitHost 0x0C03 runDiagAxisCounters h a s

/-- DIAG.TILLER (R156): for each engine its state (0 active, 1 spare, 2 unusable), completed updates, stall cycles and ECC
corrections, then sigma and P. The octet layout is the model's (log entry 30). -/
def runDiagTiller (_ : Hdr) (a : List Byte) (s : State) : State × Reply :=
  let row (n : Nat) : List Byte :=
    let t := s.tiller n
    toLE 4 (if s.lost (21 + n) then 2 else if s.engines.contains n then 0 else 1) ++ toLE 4 t.updates ++ toLE 4 t.stalls ++ toLE 4 t.ecc
  tested s [badLen a 0, liveCell s] (dataReply s ((List.range 9).flatMap row ++ toLE 1 s.motion.spare ++ toLE 1 s.positions))

/-- DIAG_TILLER: returns the Tiller engine report (R156). -/
def execDiagTiller (h : Hdr) (a : List Byte) (s : State) : Result := commitHost 0x0C04 runDiagTiller h a s

end Sys2Proof.Machine
end

