-- ==== Sys2Proof/Machine/MotionOps.lean ====
section
/-! DEFINITION. What the motion commands and events of axes and arms share: plans put into force, holds, resumes, stops,
homing phases and switch reactions (R88 to R102, R174 to R195). -/

namespace Sys2Proof.Machine

/-! ### Plans put into force (R91, R92, R94, R96) -/

/-- SPEED of a motion command: 0 means 0x8000 (R349). -/
def speedAt (a : List Byte) (i : Nat) : Nat := if uAt a i 2 = 0 then 0x8000 else uAt a i 2

/-- The entry from which a command committed now is planned: entry n's position of an axis (R92). -/
def State.planPos (s : State) (ax : Nat) : Int :=
  let o := s.ownerOf ax
  match (s.genAt o (s.sealedCount o)).tracks.find? (fun t => t.axis == ax) with
  | some t => divRNE t.x (2 ^ 32)
  | none => (s.axis ax).queue.heldPos.getD (s.axis ax).loop.fbPos

/-- Whether an axis is at rest with no motion planned: every published entry stands still (R65). -/
def State.atRest (s : State) (ax : Nat) : Bool := !(s.gen (s.ownerOf ax)).moving && (s.axis ax).still

/-- A generator on a move of one axis to a goal; every other track is left. -/
def Motion.toGoal (m : Motion) (ax : Nat) (goal : Int) (clip : Bool) (l : PLim) : Motion :=
  let p (t : Track) : Plan := planMove t.kin (goal * 2 ^ 32) l
  { m with
    list := [], segStart := true, retimed := false, clipped := clip, cart := false, follow := none
    reversal := m.tracks.any (fun t => t.axis == ax && (p t).turn.isSome)
    tracks := m.tracks.map (fun t => if t.axis = ax then { t with segs := (p t).segs, t := 0, goal := some goal } else t) }

/-- A move of one axis planned at this edge (R92), with its reversal reported (R94) and its soft limits kept (R97). -/
def planTo (ax : Nat) (goal : Int) (clip : Bool) (l : PLim) (s : State) : State :=
  let o := s.ownerOf ax
  let s := adoptAll o s
  let m0 := s.genAt o (s.sealedCount o)
  let turn := (m0.tracks.find? (fun t => t.axis == ax)).bind (fun t => (planMove t.kin (goal * 2 ^ 32) l).turn)
  let s := replan o (fun m => m.toGoal ax goal clip l) (s.brakeTracks o) s
  let s := match turn with
    | none => s.updAxis ax (fun x => { x with revPoint := 0, overshoot := 0 })
    | some p =>
      let r := divRNE p (2 ^ 32)
      let beyond : Int := (r - goal).natAbs
      (s.updAxis ax (fun x => { x with revPoint := r, overshoot := beyond })).event (30 + s.mandrelOf ax) 0x8401 ax (toLEs 8 r ++ toLEs 8 beyond)
  softStop o ax s

/-- A velocity target of one axis planned at this edge (R90): toward an acting soft limit it is a move to that limit. -/
def planSpeed (ax : Nat) (v : Int) (s : State) : State :=
  let o := s.ownerOf ax
  let s := adoptAll o s
  let x := s.axis ax
  let l := x.lim.plan s.tickLen 0x8000
  let vt := v.sign * perTick v.natAbs s.tickLen 1 0x8000
  if x.lim.softEn && x.refValid && v != 0 then
    planTo ax (if 0 < v then x.lim.softMax else x.lim.softMin) true { l with v := vt.natAbs } s
  else
    let f (m : Motion) : Motion := { m with
      list := [], segStart := true, retimed := false, reversal := false, clipped := false, cart := false
      tracks := m.tracks.map (fun t => if t.axis = ax then { t with segs := planVel t.kin vt l, t := 0, goal := none } else t) }
    (replan o f (s.brakeTracks o) s).updAxis ax (fun x => { x with revPoint := 0, overshoot := 0 })

/-- An owner's motion changed from entry C - 1 on: the staged entries are dropped (R92, R100). -/
def fromC (o : Nat) (f : Motion → Motion) (s : State) : State :=
  let q := s.ownQueue o
  let c := q.c - q.k
  let m := f (s.genAt o c)
  (s.updQueues o (fun _ q => { q with entries := q.entries.take c, s := q.c, l := q.c })).setGen o m ((s.back o).take c)

/-! ### Holds, resumes and stops (R98 to R102) -/

/-- A hold of an owner with a stop time in microseconds (R98, R99); answers whether it is kept (HOLD_KEPT). -/
def holdOwner (o us : Nat) (s : State) : State × Bool :=
  let m := s.genAt o (s.sealedCount o)
  let stop := ((Fl.ofInt us).mul (Fl.ofInt 1000)).div (Fl.ofInt s.tickLen)
  let f (m : Motion) : Motion :=
    let m := { m with cellHold := false }
    match s.brakeLimits o m false with
    | some (g, h) => m.holdTo g h stop
    | none => { m with held := true, stopped := true, hold := { s := 0, goal := 0 } }
  let mark (m : Motion) : Motion := { m with cellHold := false }
  let kept := (s.setGen o (mark (s.gen o)) ((s.back o).map mark), true)
  if m.held then
    let tmin := match s.brakeLimits o m false with
      | some (g, h) => Fl.ofFix (m.hold.to 0 g h).left 32
      | none => {}
    let new := if tmin.lt stop then stop else tmin
    if new.lt (Fl.ofFix m.hold.left 32) then (replan o f f s, false) else kept
  else if !m.moving then (s, true)
  else (replan o f f s, false)

/-- A resume of an owner (R100). -/
def resumeOwner (o : Nat) (s : State) : State := fromC o (fun m => { s.resumeGen o m with cellHold := false }) s

/-- Whether a resume has a hold to end (R100, R101). -/
def State.canResume (s : State) (o : Nat) : Bool := (s.gen o).held && !(s.gen o).discard

/-- A stop of an owner (R101): a hold with a stop time of zero that discards the path at standstill; a follower disengages
and brakes with D and J from its own state (R102). -/
def stopMotion (o : Nat) (s : State) : State :=
  let m := s.gen o
  let f (m : Motion) : Motion := { m with discard := true, list := [] }
  let brake (m : Motion) : Motion := match s.brakeLimits o m false with
    | some (g, h) => f (m.holdTo g h {})
    | none => f { m with held := true, stopped := true, hold := { s := 0, goal := 0 } }
  match m.follow with
  | some fl =>
    let d : Int := (s.grid o).1
    let l := (s.axis o).lim.plan s.tickLen 0x8000
    let k (m : Motion) : Kin := match m.follow with
      | some g => { x := g.next * 2 ^ 32, v := (g.next - g.prev) * 2 ^ 32 / d }
      | none => { x := fl.next * 2 ^ 32 }
    let b (m : Motion) : Motion := { f m with follow := none, held := true, tracks := [{ axis := o, x := (k m).x, v := (k m).v, segs := (planBrake (k m) l.d l.j).segs }] }
    replan o b b s
  | none =>
    if m.held then
      let r := holdOwner o 0 s
      r.1.setGen o (f (r.1.gen o)) ((r.1.back o).map f)
    else if m.moving then replan o brake brake s
    else s.updGen o (fun m => { m with list := [] })

/-- An owner's stop; an arm's claims follow it (R101, R265). -/
def stopOwner (o : Nat) (s : State) : State :=
  let s := stopMotion o s
  if 1000 ≤ o then withdrawClaims (o - 1000) true s else s

/-! ### Homing (R185 to R192) -/

/-- A phase of homing begins from the present position (R186): a move over SEARCH_MAX at the phase's speed. -/
def startPhase (ax st : Nat) (sg : Int) (vel : Nat) (s : State) : State :=
  match (s.axis ax).homing with
  | none => s
  | some h =>
    let p := s.planPos ax
    let s := s.updAxis ax (fun x => { x with homeState := st, homing := some { h with start := p } })
    let l := (s.axis ax).lim.plan s.tickLen 0x8000
    planTo ax (p + sg * h.searchMax) false { l with v := perTick vel s.tickLen 1 0x8000 } s

/-- DIR as a sign. -/
def Homing.sign (h : Homing) : Int := if h.dir = 1 then 1 else -1

/-- The brake after a switch transition: with D and J (R186). -/
def homingBrake (ax : Nat) (s : State) : State :=
  let o := s.ownerOf ax
  let f (m : Motion) : Motion := { m with list := [], tracks := m.tracks.map (fun t =>
    if t.axis = ax then
      let l := s.planLim o ax 0x8000
      { t with segs := (planBrake t.kin l.d l.j).segs, t := 0, goal := none } else t) }
  (replan o f f s).updAxis ax (fun x => { x with homeState := 3 })

/-- The home point is found: the creep stops under R101 and the shift waits for standstill (R188 to R190). -/
def homeFound (ax : Nat) (p : Int) (s : State) : State :=
  let s := s.updAxis ax (fun x => { x with homeState := 6, homing := x.homing.map (fun h => { h with home := some p }) })
  stopOwner (s.ownerOf ax) s

/-- The FB_POS written by the most recent update at or before a tick (R176). -/
def Homing.posAt (h : Homing) (tick : Nat) (now : Int) : Int := ((h.hist.find? (fun p => decide (p.1 ≤ tick))).map Prod.snd).getD now

/-- GTC of the edge of a tick at the present tick length. -/
def State.edgeOf (s : State) (tick : Nat) : Int := (s.cell.edge : Int) - ((s.cell.tick : Int) - tick) * s.tickLen

/-- The position of a capture between two consecutive samples (R188); the stamp is in units of 0.5 ns. -/
def State.captured (s : State) (h : Homing) (t2 : Nat) : Option Int :=
  let samp (k : Nat) : Int := 2 * (s.edgeOf k + h.fbDelay)
  (h.hist.zip (h.hist.drop 1)).findSome? (fun p =>
    let (b, a) := p
    if samp a.1 ≤ t2 ∧ (t2 : Int) < samp b.1 then some (a.2 + divRNE ((b.2 - a.2) * (t2 - samp a.1)) (samp b.1 - samp a.1)) else none)

/-- Homing ended with its result (R190): POSITION mode, and the limits of method 5 restored. -/
def homingDone (ax : Nat) (s : State) : State :=
  s.updAxis ax (fun x => match x.homing with
    | none => x
    | some h =>
      let lim := if h.method = 5 then { x.lim with torqueMax := h.oldTorque, followMax := h.oldFollow } else x.lim
      { x with homing := none, homeState := 8, mode := 1, lim := lim })

/-- A homing procedure at a tick edge (R186 to R190): a brake that has ended starts the next phase, an index or a hard stop
gives the home point, a MOVE_AFTER that has ended completes it. -/
def homingTick (ax : Nat) (s : State) : State :=
  let x := s.axis ax
  match x.homing with
  | none => s
  | some h =>
    if x.homeState = 3 ∧ s.atRest ax then
      if h.toReverse then
        let s := s.updAxis ax (fun x => { x with homing := some { h with toReverse := false, reversed := true } })
        startPhase ax 2 (-h.sign) (if h.method = 4 then h.creepVel else h.searchVel) s
      else startPhase ax 4 (-h.sign) h.creepVel s
    else if x.homeState = 5 ∨ ((x.homeState = 4 ∨ x.homeState = 2) ∧ h.method = 4) then
      let from2 : Int := if h.method = 4 then 2 * (h.since : Int) else 2 * (s.edgeOf h.phaseTick + h.fbDelay)
      let first := (s.cap h.capPin).snapped.find? (fun (t : Nat) => decide (from2 < (t : Int)))
      let h := { h with capture := h.capture.or first }
      let s := s.updAxis ax (fun x => { x with homing := some h })
      match h.capture.bind (s.captured h) with
      | some p => homeFound ax p s
      | none => s
    else if x.homeState = 4 ∧ h.method = 5 ∧ h.hsTicks ≤ h.hsRun then homeFound ax x.loop.fbPos s
    else if x.homeState = 7 ∧ s.atRest ax then homingDone ax s
    else s

/-! ### Switches (R176, R177, R182 to R184) -/

/-- Whether a limit switch counts as active: its filtered state, or its pin is faulty (R176, R178). -/
def State.limitOn (s : State) (ax : Nat) (neg : Bool) : Bool :=
  let x := s.axis ax
  let w := if neg then x.swNeg else x.swPos
  w.pin != 0xFF && (w.state == some true || (s.gpio w.pin).faulty)

/-- Whether motion in a direction is refused with HW_LIMIT_ACTIVE (R182, R184): a direction of 0 is no motion away. -/
def State.limitBars (s : State) (ax : Nat) (dir : Int) : Bool :=
  let n := s.limitOn ax true
  let p := s.limitOn ax false
  (n && p) || (n && decide (dir ≤ 0)) || (p && decide (0 ≤ dir))

/-- The test of R182 to R184. -/
def hwTest (s : State) (ax : Nat) (dir : Int) : Test := (s.limitBars ax dir, St.hwLimitActive, 0)

/-- Whether an axis lies beyond its soft limits and a direction leads further out (R97, R181). -/
def State.outward (s : State) (ax : Nat) (dir : Int) : Bool :=
  let x := s.axis ax
  let p := s.planPos ax
  x.limitActive && ((decide (x.lim.softMax < p) && decide (0 < dir)) || (decide (p < x.lim.softMin) && decide (dir < 0)))

/-- WIRING_FAULT on an axis (R178, R184): motion held with a stop time of zero, homing aborted. -/
def wiringFault (ax : Nat) (s : State) : State :=
  let s := s.updAxis ax (fun x => { x with status := St.wiringFault })
  let s := (holdOwner (s.ownerOf ax) 0 s).1
  s.endHoming ax St.homeAborted |>.updAxis ax (fun x => { x with status := St.wiringFault })

/-- A limit switch became active during homing (R186, R187). -/
def homingLimit (ax first : Nat) (neg : Bool) (s : State) : State :=
  let x := s.axis ax
  match x.homing with
  | none => s
  | some h =>
    let inDir := neg == (h.dir == 0)
    if h.method = 6 ∨ h.method = 7 ∨ 6 ≤ x.homeState then s
    else if (h.method = 2 ∨ h.method = 3) ∧ inDir then
      if x.homeState = 1 then homingBrake ax (s.updAxis ax (fun x => { x with homing := some { h with phaseTick := first } })) else s
    else if (h.method = 0 ∨ h.method = 1 ∨ h.method = 4) ∧ inDir ∧ !h.reversed ∧ !h.toReverse ∧ (x.homeState = 1 ∨ (h.method = 4 ∧ x.homeState = 4)) then
      homingBrake ax (s.updAxis ax (fun x => { x with homing := some { h with toReverse := true } }))
    else stopOwner (s.ownerOf ax) (s.endHoming ax St.homeLimit)

/-- A home switch, or the limit that serves as one, changed during homing (R186). -/
def homingSwitch (ax first : Nat) (active : Bool) (s : State) : State :=
  let x := s.axis ax
  match x.homing with
  | none => s
  | some h =>
    if active ∧ (x.homeState = 1 ∨ x.homeState = 2) then homingBrake ax s
    else if !active ∧ x.homeState = 4 then
      let p := h.posAt first x.loop.fbPos
      if h.method = 0 ∨ h.method = 2 then homeFound ax p s
      else s.updAxis ax (fun x => { x with homeState := 5, homing := some { h with phaseTick := first, start := p } })
    else s

/-- A filtered transition of a switch acts at this edge (R177, R182, R184, R187): which 0 home, 1 negative, 2 positive. -/
def onSwitch (ax which first : Nat) (active : Bool) (s : State) : State :=
  let x := s.axis ax
  if which = 0 then
    match x.homing with
    | some h => if h.method ≤ 1 then homingSwitch ax first active s else s
    | none => s
  else
    let neg := which == 1
    match x.homing with
    | some h =>
      if (h.method = 2 ∨ h.method = 3) ∧ neg = (h.dir == 0) ∧ !active then homingSwitch ax first active s
      else if active then homingLimit ax first neg s else s
    | none =>
      if !active then s
      else
        let s := stopOwner (s.ownerOf ax) s
        let s := s.updAxis ax (fun x => { x with jogUntil := none })
        let s := s.event (30 + s.mandrelOf ax) 0x8405 ax (toLE 1 (if neg then x.swNeg.pin else x.swPos.pin) ++ toLE 1 (if neg then 0 else 1))
        if s.limitOn ax true && s.limitOn ax false then wiringFault ax s else s

/-- One switch at an input seal (R176): its filter, and the transition it reports. -/
def sampleSwitch (filt : Nat) (tick : Nat) (level : Bool) (w : Switch) : Switch × Option (Nat × Bool) :=
  let r := if w.pol = 1 then !level else level
  match w.state with
  | none => ({ w with state := some r, run := 0 }, none)
  | some st =>
    if r = st then ({ w with run := 0 }, none)
    else
      let first := if w.run = 0 then tick else w.first
      if w.run + 1 = filt then ({ w with state := some r, run := 0, first := first }, some (first, r))
      else ({ w with run := w.run + 1, first := first }, none)

/-- The switches of an axis at the input seal of the present tick (R175, R176): the transitions in order home, negative,
positive. A faulty home pin counts as inactive and a faulty limit pin as active (R178), so their filters rest. -/
def sampleAxis (ax : Nat) (s : State) : State × List (Nat × Nat × Bool) :=
  let x := s.axis ax
  let one (w : Switch) : Switch × Option (Nat × Bool) :=
    if w.pin = 0xFF ∨ (s.gpio w.pin).faulty then (w, none) else sampleSwitch x.filt s.cell.tick (s.gpio w.pin).snap w
  let h := one x.swHome
  let n := one x.swNeg
  let p := one x.swPos
  let tag (k : Nat) (t : Option (Nat × Bool)) : List (Nat × Nat × Bool) := (t.map (fun t => (k, t.1, t.2))).toList
  (s.setAxis ax { x with swHome := h.1, swNeg := n.1, swPos := p.1 }, tag 0 h.2 ++ tag 1 n.2 ++ tag 2 p.2)

/-- A running command completes with its reply (R339). -/
def State.completeCmd (s : State) (code : Nat) (p : HostCmd → Bool) (r : Reply) : State :=
  { s with host := { s.host with cmds := s.host.cmds.map (fun c =>
      if c.code == code && c.stage == .running && p c then { c with stage := .replied, reply := r } else c) } }

end Sys2Proof.Machine
end

