-- ==== Sys2Proof/Machine/ArmDefine.lean ====
section
/-! DEFINITION. Arm definition and parameters (R59 to R70, R74, R75, R116, R254, R348, R350). -/

namespace Sys2Proof.Machine

/-! ### Vectors and quaternions in binary32 (R61, R62, R68) -/

/-- Three binary32 numbers. -/
abbrev F3 := Fl × Fl × Fl

/-- The dot product. -/
def dot3 (a b : F3) : Fl := ((a.1.mul b.1).add (a.2.1.mul b.2.1)).add (a.2.2.mul b.2.2)

/-- The cross product. -/
def cross3 (a b : F3) : F3 :=
  ((a.2.1.mul b.2.2).sub (a.2.2.mul b.2.1), (a.2.2.mul b.1).sub (a.1.mul b.2.2), (a.1.mul b.2.1).sub (a.2.1.mul b.1))

/-- The difference. -/
def sub3 (a b : F3) : F3 := (a.1.sub b.1, a.2.1.sub b.2.1, a.2.2.sub b.2.2)

/-- A vector scaled. -/
def scale3 (k : Fl) (a : F3) : F3 := (k.mul a.1, k.mul a.2.1, k.mul a.2.2)

/-- The length. -/
def len3 (a : F3) : Fl := (dot3 a a).sqrt

/-- Three binary32 values at an argument offset. -/
def f3At (a : List Byte) (i : Nat) : F3 := (Fl.ofBits (uAt a i 4), Fl.ofBits (uAt a (i + 4) 4), Fl.ofBits (uAt a (i + 8) 4))

/-- A position at an argument offset (R60). -/
def vec3At (a : List Byte) (i : Nat) : Vec3 := { x := sAt a i 4, y := sAt a (i + 4) 4, z := sAt a (i + 8) 4 }

/-- The pattern of -2^31 is no position (R60). -/
def badVec (a : List Byte) (i : Nat) : Test := badAt i ([0, 4, 8].any (fun k => decide (sAt a (i + k) 4 = -2147483648)))

/-- A point as binary32 numbers. -/
def vecF3 (v : Vec3) : F3 := (Fl.ofInt v.x, Fl.ofInt v.y, Fl.ofInt v.z)

/-- The square of a norm lies within 2^-10 of one (R61). -/
def nearOne (n : Fl) : Bool := !n.bad && (n.sub (Fl.ofInt 1)).abs.le (Fl.round 1 (-10))

/-- The squared norm of the four values at an argument offset. -/
def norm4 (a : List Byte) (i : Nat) : Fl :=
  let f (k : Nat) : Fl := Fl.ofBits (uAt a (i + 4 * k) 4)
  ((((f 0).mul (f 0)).add ((f 1).mul (f 1))).add ((f 2).mul (f 2))).add ((f 3).mul (f 3))

/-- A quaternion argument that is no unit quaternion (R61). -/
def badQuat (a : List Byte) (i : Nat) : Test := badAt i (!([0, 4, 8, 12].all (fun k => finite32 (uAt a (i + k) 4))) || !nearOne (norm4 a i))

/-- A quaternion as stored: divided by its norm, its sign canonical (R61). -/
def quatAt (a : List Byte) (i : Nat) : Quat :=
  let n := (norm4 a i).sqrt
  let f (k : Nat) : Fl := (Fl.ofBits (uAt a (i + 4 * k) 4)).div n
  let neg := decide ((f 0).m < 0) || ((f 0).m == 0 && (decide ((f 1).m < 0) || ((f 1).m == 0 && (decide ((f 2).m < 0) || ((f 2).m == 0 && decide ((f 3).m < 0))))))
  let g (k : Nat) : BitVec 32 := BitVec.ofNat 32 (if neg then (f k).neg else f k).bits
  { w := g 0, x := g 1, y := g 2, z := g 3 }

/-- Octets of a quaternion. -/
def quatOctets (q : Quat) : List Byte := toLE 4 q.w.toNat ++ toLE 4 q.x.toNat ++ toLE 4 q.y.toNat ++ toLE 4 q.z.toNat

/-- A direction normalised as under R61 (R64). -/
def dirAt (a : List Byte) (i : Nat) : FVec3 :=
  let v := f3At a i
  let n := len3 v
  let b (x : Fl) : BitVec 32 := BitVec.ofNat 32 (x.div n).bits
  { x := b v.1, y := b v.2.1, z := b v.2.2 }

/-- A direction argument that is no unit vector (R64, R66). -/
def badDir (a : List Byte) (i : Nat) : Test :=
  badAt i (!([0, 4, 8].all (fun k => finite32 (uAt a (i + k) 4))) || !nearOne (dot3 (f3At a i) (f3At a i)))

/-! ### Kinematic classes (R67, R68) -/

/-- A screw axis or direction of travel: direction, point, and whether it is revolute. -/
structure Screw where
  dir : F3
  pt : F3
  rev : Bool

/-- 10^-5 rad (R68). -/
def angTol : Fl := Fl.roundQ 1 100000 0

/-- Two directions are parallel within the tolerance. -/
def Screw.parallel (a b : Screw) : Bool := (len3 (cross3 a.dir b.dir)).le angTol

/-- Two directions are perpendicular within the tolerance. -/
def Screw.perp (a b : Screw) : Bool := (dot3 a.dir b.dir).abs.le angTol

/-- The distance between two axes, and the foot of the common normal on the first. -/
def Screw.gap (a b : Screw) : Fl × F3 :=
  let n := cross3 a.dir b.dir
  let w := sub3 b.pt a.pt
  let nn := dot3 n n
  if (len3 n).le angTol then (len3 (cross3 w a.dir), a.pt)
  else
    let t := (dot3 (cross3 w b.dir) n).div nn
    let f := scale3 t a.dir
    ((dot3 w n).abs.div (len3 n), (a.pt.1.add f.1, a.pt.2.1.add f.2.1, a.pt.2.2.add f.2.2))

/-- Two axes meet within 2 um. -/
def Screw.meets (a b : Screw) : Bool := (a.gap b).1.le (Fl.ofInt 2)

/-- The joint counts of a class (R67). -/
def classCount (k n : Nat) : Bool :=
  match k with
  | 0 => decide (1 ≤ n ∧ n ≤ 8)
  | 1 | 2 => n == 6
  | 3 | 5 => n == 4
  | 4 => n == 3
  | 6 => decide (2 ≤ n ∧ n ≤ 4)
  | _ => false

/-- Whether the parameters fit the class (R68). -/
def classFits (k : Nat) (l : List Screw) (delta : List Fl) : Bool :=
  classCount k l.length && match k, l with
  | 1, [_, _, _, d, e, f] =>
    let p := (d.gap e).2
    d.meets e && (len3 (cross3 (sub3 p f.pt) f.dir)).le (Fl.ofInt 2)
  | 2, [_, _, _, d, e, f] => e.meets f && (d.parallel f || d.perp e)
  | 3, [a, b, c, d] => a.rev && b.rev && d.rev && !c.rev && a.parallel b && a.parallel d && a.parallel c
  | 6, l =>
    let ps := l.filter (fun j => !j.rev)
    (List.range ps.length).all (fun i => (ps.drop (i + 1)).all (fun q => ((ps[i]?).map (fun p => p.perp q)).getD true)) &&
      l.dropLast.all (fun j => !j.rev)
  | 4, _ | 5, _ => match delta with
    | [b, p, u, f] => [b, p, u, f].all (fun x => decide (0 < x.m)) && (b.sub p).abs.lt f
    | _ => false
  | _, _ => true

/-! ### ARM.DEFINE -/

/-- Joint record `j` of an ARM.DEFINE (R348). -/
def jointAt (a : List Byte) (j : Nat) : Joint :=
  let i := 104 + 44 * j
  let f (k : Nat) : BitVec 32 := BitVec.ofNat 32 (store32 (uAt a k 4))
  { axis := uAt a i 2, type := uAt a (i + 2) 1, dir := uAt a (i + 3) 1, omega := { x := f (i + 4), y := f (i + 8), z := f (i + 12) }
    point := vec3At a (i + 16), incPerUnit := sAt a (i + 28) 8, zero := sAt a (i + 36) 8 }

/-- ARM.DEFINE (R47, R48, R51, R64, R66 to R68). -/
def runArmDefine (h : Hdr) (a : List Byte) (s : State) : State × Reply :=
  let n := uAt a 0 2
  let nj := uAt a 4 1
  let k := uAt a 5 1
  let md := uAt a 6 1
  let d := uAt a 7 1
  let ph := uAt a 8 1
  let car := uAt a 12 2
  let old := s.arm n
  let js := (List.range nj).map (jointAt a)
  let axes := js.map (fun j => j.axis)
  let delta := k == 4 || k == 5
  let screws := (List.range nj).map (fun j => ({ dir := f3At a (104 + 44 * j + 4), pt := vecF3 (vec3At a (104 + 44 * j + 16)), rev := uAt a (104 + 44 * j + 2) 1 == 0 } : Screw))
  let other (b : Nat) : Bool := (List.range 16).any (fun m => m != n && (s.arm m).defined && (s.arm m).joints.any (fun j => j.axis == b))
  let carried (b : Nat) : Bool := (List.range 16).any (fun m => m != n && (s.arm m).defined && (s.arm m).carrier == b)
  let mand := if md = 0xFF then n / 4 else md
  let r : Arm := { old with
    defined := true, joints := js, kclass := k, mandrel := mand, divisor := d, phase := if ph = 0xFF then old.phase else ph
    autoPhase := ph == 0xFF, carrier := car, base := { pos := vec3At a 16, rot := quatAt a 28 }
    carrierDir := if car = 0xFFFF then {} else dirAt a 44, carrierScale := store32 (uAt a 56 4), home := { pos := vec3At a 60, rot := quatAt a 72 }
    delta := if delta then [uAt a 88 4, uAt a 92 4, uAt a 96 4, uAt a 100 4].map store32 else [0, 0, 0, 0], gen := {}, back := [] }
  let s1 := s.setArm n r
  let s1 := axes.foldl (fun s b => s.updAxis b (fun x => { (if x.divisor = d then x else ({ x with divisor := d }).rederive s.tickLen) with
    phase := r.phase, gen := {}, back := [] })) s1
  let s2 := match axes with
    | b :: _ => s1.placeAxis (axes.foldl min b)
    | [] => s1
  let isDd (b : Nat) : Bool := match (s.axis b).binding with
    | .dd _ _ _ => true
    | _ => false
  let recTests := (List.range nj).flatMap (fun j =>
    let i := 104 + 44 * j
    [badAt i (decide (511 < uAt a i 2) || other (uAt a i 2) || carried (uAt a i 2) || uAt a i 2 == car), badAt (i + 2) (decide (1 < uAt a (i + 2) 1)),
     badAt (i + 3) (decide (1 < uAt a (i + 3) 1)), badDir a (i + 4), badVec a (i + 16), badAt (i + 28) (decide (sAt a (i + 28) 8 ≤ 0))])
  tested s ([badSubject a 0 16, badAt 4 (decide (nj < 1 ∨ 8 < nj)), badAt 5 (decide (6 < k)), (a.length != 104 + 44 * nj, St.badParam, 32 + 104),
      badAt 6 (md != 0xFF && decide (3 < md)), badAt 7 (!([1, 2, 4, 8, 16].contains d) || (decide (2 < d) && axes.any isDd)),
      badAt 8 (ph != 0xFF && decide (d ≤ ph)), badZeros a 9 3, badAt 12 (car != 0xFFFF && (decide (511 < car) || other car || (s.axis car).modulo != 0 ||
        (s.axis car).mandrel.getD (car / 128) != mand)), badZeros a 14 2, badVec a 16, badQuat a 28] ++
      (if car = 0xFFFF then [] else [badDir a 44, badFloat a 56]) ++ [badVec a 60, badQuat a 72] ++
      (if delta then [badFloat a 88, badFloat a 92, badFloat a 96, badFloat a 100] else [badZeros a 88 16]) ++ recTests ++
      [badAt 104 (!axes.Nodup), (!classFits k screws ([88, 92, 96, 100].map (fun i => Fl.ofBits (uAt a i 4))), St.kinClassMismatch, 0),
       shadowed h s, cond47 s (axes ++ (old.joints.map (fun j => j.axis)) ++ (if car = 0xFFFF then [] else [car])),
       (!s2.ownersFit, St.ownerFull, 0), (!s2.fitsBudget, St.budgetExceeded, 0)])
    (okReply s2)

/-- ARM_DEFINE: defines an arm (R66). -/
def execArmDefine (h : Hdr) (a : List Byte) (s : State) : Result := commitHost 0x0301 runArmDefine h a s

/-- A command for an arm that is not defined is refused with BAD_STATE. -/
def armKnown (s : State) (n : Nat) : Test := badState !(s.arm n).defined

/-! ### Dynamics and payload (R69, R70) -/

/-- An inertia is positive semi-definite with each principal moment at most the sum of the other two (R69): both say that
half the trace times the identity less the inertia, and the inertia, have no negative principal minor. -/
def inertiaOk (v : List Fl) : Bool :=
  match v with
  | [xx, yy, zz, xy, xz, yz] =>
    let psd (p q r u w t : Fl) : Bool :=
      let zero : Fl := {}
      let m2 (p q u : Fl) : Fl := (p.mul q).sub (u.mul u)
      let det := (((p.mul (m2 q r t)).sub (u.mul ((u.mul r).sub (t.mul w)))).add (w.mul ((u.mul t).sub (q.mul w))))
      zero.le p && zero.le q && zero.le r && zero.le (m2 p q u) && zero.le (m2 p r w) && zero.le (m2 q r t) && zero.le det
    let h := ((xx.add yy).add zz).div (Fl.ofInt 2)
    psd xx yy zz xy xz yz && psd (h.sub xx) (h.sub yy) (h.sub zz) xy.neg xz.neg yz.neg
  | _ => false

/-- The six values of an inertia at an argument offset. -/
def inertiaAt (a : List Byte) (i : Nat) : List Nat := (List.range 6).map (fun k => store32 (uAt a (i + 4 * k) 4))

/-- The tests of an inertia. -/
def inertiaTests (a : List Byte) (i : Nat) : List Test :=
  (List.range 6).map (fun k => badFloat a (i + 4 * k)) ++ [badAt i (!inertiaOk ((inertiaAt a i).map Fl.ofBits))]

/-- A binary32 argument outside [lo, hi]. -/
def badBetween (a : List Byte) (i : Nat) (lo hi : Fl) : Test :=
  let x := Fl.ofBits (uAt a i 4)
  badAt i (!finite32 (uAt a i 4) || !lo.le x || !x.le hi)

/-- A binary32 argument that is negative, or zero where `pos`. -/
def badSign (a : List Byte) (i : Nat) (pos : Bool) : Test :=
  let x := Fl.ofBits (uAt a i 4)
  badAt i (!finite32 (uAt a i 4) || decide (x.m < 0) || (pos && x.m == 0))

/-- ARM.SET_DYNAMICS (R69): 60 octets for each joint in chain order. -/
def runArmSetDynamics (h : Hdr) (a : List Byte) (s : State) : State × Reply :=
  let n := uAt a 0 2
  let r := s.arm n
  let zero : Fl := {}
  let tests := (List.range r.joints.length).flatMap (fun j =>
    let i := 4 + 60 * j
    [badBetween a i zero (Fl.ofInt 1000), badVec a (i + 4)] ++ inertiaTests a (i + 16) ++ [badBetween a (i + 40) zero (Fl.ofInt 10),
      badBetween a (i + 44) (Fl.roundQ 1 1000 0) (Fl.ofInt 100000), badSign a (i + 48) false, badSign a (i + 52) false, badSign a (i + 56) true])
  let f (i : Nat) : Nat := store32 (uAt a i 4)
  let js := (List.range r.joints.length).map (fun j =>
    let i := 4 + 60 * j
    { r.joints.getD j {} with mass := f i, com := vec3At a (i + 4), inertia := inertiaAt a (i + 16), rotor := f (i + 40), gear := f (i + 44)
                              viscous := f (i + 48), coulomb := f (i + 52), rated := f (i + 56) })
  tested s ([badSubject a 0 16, (a.length != 4 + 60 * r.joints.length, St.badParam, 32 + 4)] ++ tests ++ [shadowed h s, cfgCell s, armKnown s n])
    (okReply (s.setArm n { r with joints := js }))

/-- ARM_SET_DYNAMICS: sets the dynamic parameters of an arm's joints (R69). -/
def execArmSetDynamics (h : Hdr) (a : List Byte) (s : State) : Result := commitHost 0x0302 runArmSetDynamics h a s

/-- ARM.SET_PAYLOAD (R70): late when an entry stamped E or later has been staged. -/
def runArmSetPayload (h : Hdr) (a : List Byte) (s : State) : State × Reply :=
  let n := uAt a 0 2
  let r := s.arm n
  let e := uAt a 4 4
  let next := wrap 32 (s.nextStamp (1000 + n))
  let late := r.joints != [] && decide (toS 32 (next + 2 ^ 32 - e) > 0) && (s.ownQueue (1000 + n)).entries != []
  let p : Payload := { stamp := if late then next else e, mass := store32 (uAt a 8 4), com := vec3At a 12, inertia := inertiaAt a 24 }
  let keep := r.payloads.filter (fun q => decide (toS 32 (q.stamp + 2 ^ 32 - p.stamp) < 0))
  let s' := s.setArm n { r with payloads := keep ++ [p] }
  tested s ([badLen a 48, badSubject a 0 16, badBetween a 8 {} (Fl.ofInt 500), badVec a 12] ++ inertiaTests a 24 ++ [shadowed h s, cfgCell s, armKnown s n])
    (if late then warnReply s' St.payloadLate next else okReply s')

/-- ARM_SET_PAYLOAD: sets an arm's payload from an entry stamp on (R70). -/
def execArmSetPayload (h : Hdr) (a : List Byte) (s : State) : Result := commitHost 0x0303 runArmSetPayload h a s

/-! ### Limits and inverse kinematics (R74, R75, R116) -/

/-- ARM.SET_LIMITS (R74, R75). -/
def runArmSetLimits (h : Hdr) (a : List Byte) (s : State) : State × Reply :=
  let n := uAt a 0 2
  let r := s.arm n
  let mn := vec3At a 28
  let mx := vec3At a 40
  let tv := uAt a 4 4
  let rv := Fl.ofBits (uAt a 16 4)
  let o := 1000 + n
  let slower := r.gen.cart && r.gen.moving && (decide (tv < r.tcpVel) || rv.lt (Fl.ofBits r.rotVel))
  let r' := { r with
    tcpVel := tv, tcpAcc := uAt a 8 4, tcpJerk := uAt a 12 4, rotVel := store32 (uAt a 16 4), rotAcc := store32 (uAt a 20 4)
    rotJerk := store32 (uAt a 24 4), workMin := mn, workMax := mx }
  let s1 := s.setArm n r'
  -- a lowered TCP_VEL or ROT_VEL slows the motion in force in the same ratio (R75)
  let k1 := if tv < r.tcpVel ∧ r.tcpVel ≠ 0 then (Fl.ofInt tv).div (Fl.ofInt r.tcpVel) else Fl.ofInt 1
  let k2 := if rv.lt (Fl.ofBits r.rotVel) then rv.div (Fl.ofBits r.rotVel) else Fl.ofInt 1
  let k := if k1.lt k2 then k1 else k2
  let f (m : Motion) : Motion := match s1.brakeLimits o m false with
    | some (g, j) => { m with joint := m.joint.to (k.toFix 31).toNat g j, retimed := true }
    | none => m
  let s2 := if slower then replan o f f s1 else s1
  tested s [badLen a 52, badSubject a 0 16, badAt 4 (tv == 0), badAt 8 (uAt a 8 4 == 0), badAt 12 (uAt a 12 4 == 0), badSign a 16 true,
      badSign a 20 true, badSign a 24 true, badVec a 28, badVec a 40,
      badAt 28 (!(decide (mn.x < mx.x) && decide (mn.y < mx.y) && decide (mn.z < mx.z))), shadowed h s, cfgCell s, armKnown s n]
    (if slower then warnReply s2 St.limitLowered 0 else okReply s2)

/-- ARM_SET_LIMITS: sets an arm's path limits and working volume (R74). -/
def execArmSetLimits (h : Hdr) (a : List Byte) (s : State) : Result := commitHost 0x0304 runArmSetLimits h a s

/-- ARM.SET_IK (R116). -/
def runArmSetIk (h : Hdr) (a : List Byte) (s : State) : State × Reply :=
  let n := uAt a 0 2
  let f (i : Nat) : Nat := store32 (uAt a i 4)
  let q (num den : Nat) : Fl := Fl.roundQ num den 0
  let k : IkParams := { w := (List.range 8).map (fun i => f (4 + 4 * i)), singEps := f 36, singDist := uAt a 40 4, lambdaMax := f 44
                        singPosTol := uAt a 48 4, singRotTol := f 52, ikTolPos := uAt a 56 4, ikTolRot := f 60, conf := uAt a 64 1 }
  let out (i lo hi : Nat) : Test := badAt i (decide (uAt a i 4 < lo ∨ hi < uAt a i 4))
  tested s ([badLen a 65, badSubject a 0 16] ++ (List.range 8).map (fun i => badSign a (4 + 4 * i) true) ++
      [badBetween a 36 (q 1 10000) (q 1 2), out 40 1 100000, badBetween a 44 (q 1 10000) (q 1 1), out 48 1 50000,
       badBetween a 52 (q 1 100000) (q 1 2), out 56 1 10000, badBetween a 60 (q 1 1000000) (q 1 10),
       badAt 64 (decide (7 < k.conf) && k.conf != 0xFF), shadowed h s, cfgCell s, armKnown s n])
    (okReply (s.updArm n (fun r => { r with ik := k })))

/-- ARM_SET_IK: sets an arm's inverse-kinematics parameters (R116). -/
def execArmSetIk (h : Hdr) (a : List Byte) (s : State) : Result := commitHost 0x0305 runArmSetIk h a s

/-! ### Frames and claims (R63, R65, R254) -/

/-- ARM.SET_TOOL (R65). -/
def runArmSetTool (h : Hdr) (a : List Byte) (s : State) : State × Reply :=
  let n := uAt a 0 2
  tested s [badLen a 8, badSubject a 0 16, badAt 4 (decide (7 < uAt a 4 1)), badZeros a 5 3, shadowed h s, cfgCell s, armKnown s n,
      badState !s.armInRun n, (!s.armStill n, St.armMoving, 0)]
    (okReply (s.updArm n (fun r => { r with tool := uAt a 4 1 })))

/-- ARM_SET_TOOL: chooses an arm's active tool (R65). -/
def execArmSetTool (h : Hdr) (a : List Byte) (s : State) : Result := commitHost 0x0306 runArmSetTool h a s

/-- ARM.SET_FRAME (R63, R65): tool 0 and work 0 are the identity and cannot be set; a work frame is in use while a listed or
running segment names it. -/
def runArmSetFrame (h : Hdr) (a : List Byte) (s : State) : State × Reply :=
  let n := uAt a 0 2
  let fr := uAt a 4 1
  let r := s.arm n
  let v : Frame := { pos := vec3At a 8, rot := quatAt a 20 }
  let isTool := decide (fr < 8)
  let inUse := if isTool then fr == r.tool else r.gen.cart || r.gen.list.any (fun l => l.work == fr - 16)
  let s' := s.setArm n (if isTool then { r with tools := Table.set {} r.tools fr v } else { r with works := Table.set {} r.works (fr - 16) v })
  tested s [badLen a 36, badSubject a 0 16, badAt 4 (!(isTool || (decide (16 ≤ fr) && decide (fr < 32))) || fr == 0 || fr == 16), badZeros a 5 3,
      badVec a 8, badQuat a 20, shadowed h s, cfgCell s, armKnown s n, (inUse && !s.armStill n, St.armMoving, 0)]
    (okReply s')

/-- ARM_SET_FRAME: sets a tool or work frame of an arm (R65). -/
def execArmSetFrame (h : Hdr) (a : List Byte) (s : State) : Result := commitHost 0x0307 runArmSetFrame h a s

/-- ARM.SET_CLAIM (R254): 20 octets for each sphere from octet 8 on, then CLAIM_MARGIN, CLAIM_TAIL and CLAIM_LEAD. -/
def runArmSetClaim (h : Hdr) (a : List Byte) (s : State) : State × Reply :=
  let n := uAt a 0 2
  let k := uAt a 4 1
  let r := s.arm n
  let e := 8 + 20 * k
  let sp (i : Nat) : Sphere := { link := uAt a (8 + 20 * i) 1, center := vec3At a (12 + 20 * i), radius := uAt a (24 + 20 * i) 4 }
  let tests := (List.range k).flatMap (fun i =>
    [badAt (8 + 20 * i) (decide (r.joints.length < uAt a (8 + 20 * i) 1)), badZeros a (9 + 20 * i) 3, badVec a (12 + 20 * i),
     badAt (24 + 20 * i) (uAt a (24 + 20 * i) 4 == 0 || decide (2000000 < uAt a (24 + 20 * i) 4))])
  tested s ([badSubject a 0 16, badAt 4 (decide (k < 1 ∨ 16 < k)), badZeros a 5 3, (a.length != e + 8, St.badParam, 32 + 8)] ++ tests ++
      [badAt e (decide (100000 < uAt a e 4)), badAt (e + 4) (decide (4096 < uAt a (e + 4) 2)),
       badAt (e + 6) (decide (uAt a (e + 6) 2 < 16 ∨ 256 < uAt a (e + 6) 2)), shadowed h s, armKnown s n, cond47 s r.axes])
    (okReply (s.setArm n { r with spheres := (List.range k).map sp, claimMargin := uAt a e 4, claimTail := uAt a (e + 4) 2, claimLead := uAt a (e + 6) 2 }))

/-- ARM_SET_CLAIM: sets an arm's claim model (R254). -/
def execArmSetClaim (h : Hdr) (a : List Byte) (s : State) : Result := commitHost 0x0308 runArmSetClaim h a s

end Sys2Proof.Machine
end

