-- ==== Sys2Proof/Machine/ArmMotion.lean ====
section
/-! DEFINITION. Mode, motion, jog and status of arms (R91 to R101, R107 to R111, R195, R236, R349, R350, R643, R644). -/

namespace Sys2Proof.Machine

/-- ARM.SET_MODE (R236, R643, R644). -/
def runArmSetMode (h : Hdr) (a : List Byte) (s : State) : State × Reply :=
  let n := uAt a 0 2
  let m := uAt a 4 1
  let r := s.arm n
  let collab := match s.glume.block with
    | none => false
    | some b => ((b.arm? n).map (fun g => g.collabEn)).getD false
  tested s [badLen a 8, badSubject a 0 16, badAt 4 (decide (2 < m)), badZeros a 5 3, shadowed h s, cfgCell s, armKnown s n, badState !s.armInRun n,
      badState (m != 0 && r.axes.any (fun b => (s.axis b).mode == 5 || (s.axis b).mode == 6)),
      (m == 2 && !collab, St.safeNotPermitted, 0), (!s.armStill n, St.armMoving, 0)]
    (okReply (s.setArm n { r with mode := m, modeWait := r.modeWait || m != r.mode }))

/-- ARM_SET_MODE: changes an arm's mode (R644). -/
def execArmSetMode (h : Hdr) (a : List Byte) (s : State) : Result := commitHost 0x0309 runArmSetMode h a s

/-! ### Moves -/

/-- What bars an arm's motion commands (R72, R254, R643): axes out of POSITION (or JOG where `jog`), a fault, unset limits,
no claim model while a zone is defined. -/
def armTests (s : State) (n : Nat) (jog : Bool) : List Test :=
  let r := s.arm n
  let ok (b : Nat) : Bool := ((s.axis b).mode == 1 || (jog && (s.axis b).mode == 6)) && (s.axis b).fault.isNone
  [armKnown s n, badState !(r.axes.all ok), (r.axes.any (fun b => (s.axis b).lim.velMax == 0), St.limitsUnset, 0),
   (r.spheres == [] && s.claim.zones.any (fun z => z.2.en), St.claimModelUnset, 0)]

/-- The further tests of a Cartesian command (R74, R114, R181, R643). -/
def cartTests (s : State) (n : Nat) : List Test :=
  let r := s.arm n
  [badState (r.mode == 0 || r.singular), (r.axes.any (fun b => !(s.axis b).refValid), St.noReference, 0),
   (r.tcpVel == 0 || r.tcpAcc == 0 || r.tcpJerk == 0 || r.rotVel == 0 || r.rotAcc == 0 || r.rotJerk == 0, St.limitsUnset, 0),
   (r.axes.any (fun b => s.limitOn b true || s.limitOn b false), St.hwLimitActive, 0),
   (r.axes.any (fun b => s.outward b 1 || s.outward b (-1)), St.limitActive, 0)]

/-- Where each track of an owner comes to rest when it brakes along its path now: the scale falls to zero over a path time
(R95, R98). -/
def State.restPoint (s : State) (o : Nat) (m : Motion) (ax : Nat) : Int :=
  match m.tracks.find? (fun t => t.axis == ax) with
  | none => (s.axis ax).loop.fbPos
  | some t =>
    let f := (s.brakeGen o m).hold
    let adv := (f.ramp.getLast?.map (fun g => g.stop.x)).getD 0
    divRNE (t.advance (adv / 2 ^ 16).toNat).x (2 ^ 32)

/-- A listed segment put into force on an arm (R91, R95): it begins at once from rest; from motion the arm first brakes along
its present path, and a joint whose target lies behind its point of rest reports a reversal. -/
def commandArm (n : Nat) (append : Bool) (ls : ListSeg) (s : State) : State :=
  let o := 1000 + n
  let s := adoptAll o s
  if append then s.updGen o (fun m => { m with list := m.list ++ [ls] })
  else
    let s := withdrawClaims n false s
    let m0 := s.genAt o (s.sealedCount o)
    if !m0.moving then s.updGen o (fun m => { m with list := [ls] })
    else if m0.held ∧ m0.stopped then
      fromC o (fun m => { m with list := [ls], cart := false, blend := 0, tracks := m.tracks.map (fun t => { t with segs := [], t := 0, v := 0, a := 0, goal := none }) }) s
    else
      let back (t : Track) : Option (Int × Int) :=
        if ls.kind ≠ 0 then none
        else match (List.range (s.arm n).joints.length).find? (fun i => ((s.arm n).joints.getD i {}).axis == t.axis) with
          | none => none
          | some i =>
            let x := s.axis t.axis
            let rest := s.restPoint o m0 t.axis
            let goal := x.softTarget (unwrap x.modulo ls.modDir rest (ls.targets.getD i 0))
            if (goal - rest) * t.v < 0 then some (rest, (rest - goal).natAbs) else none
      let f (m : Motion) : Motion :=
        let b := if m.held then m else s.brakeGen o m
        { b with discard := true, keep := if m.held then 2 else 1, list := [ls], tracks := b.tracks.map (fun t => { t with rev := (back t).isSome }) }
      let s := replan o f f s
      m0.tracks.foldl (fun s t => match back t with
        | none => s
        | some (rest, beyond) =>
          (s.updAxis t.axis (fun x => { x with revPoint := rest, overshoot := beyond })).event (30 + (s.arm n).mandrel) 0x8401 t.axis
            (toLEs 8 rest ++ toLEs 8 beyond)) s

/-- ARM.MOVE_JOINT (R91, R95, R96, R349). -/
def runArmMoveJoint (h : Hdr) (a : List Byte) (s : State) : State × Reply :=
  let n := uAt a 0 2
  let r := s.arm n
  let nj := r.joints.length
  let dir := uAt a 5 1
  let append := uAt a 4 1 == 1
  let tgs := (List.range nj).map (fun j => sAt a (8 + 8 * j) 8)
  let ls : ListSeg := { targets := tgs, modDir := dir, speed := speedAt a 6 }
  let want (j : Nat) : Nat × Int × Int :=
    let b := (r.joints.getD j {}).axis
    let p := s.planPos b
    (b, p, unwrap (s.axis b).modulo dir p (tgs.getD j 0))
  let wants := (List.range nj).map want
  let range := (List.range nj).map (fun j =>
    let x := s.axis (r.joints.getD j {}).axis
    badAt (8 + 8 * j) (x.modulo != 0 && !(decide (0 ≤ tgs.getD j 0) && decide (tgs.getD j 0 < (x.modulo : Int) * 2 ^ 16))))
  let bars := wants.flatMap (fun w =>
    let d := ((s.axis w.1).softTarget w.2.2 - w.2.1).sign
    [(d != 0 && s.limitBars w.1 d, St.hwLimitActive, 0), (s.outward w.1 d, St.limitActive, 0)])
  let s1 := wants.foldl (fun s w =>
    if (s.axis w.1).softTarget w.2.2 = w.2.2 then s else s.event (30 + r.mandrel) 0x8402 w.1 (toLEs 8 w.2.2)) s
  let s2 := commandArm n append ls s1
  tested s ([badSubject a 0 16, (a.length != 8 + 8 * nj, St.badParam, 32 + 8), badAt 4 (decide (1 < uAt a 4 1)), badAt 5 (decide (2 < dir)),
      badAt 6 (decide (0x8000 < uAt a 6 2))] ++ range ++ [shadowed h s, moveCell s (s.armInRun n)] ++ armTests s n false ++ bars ++
      [(append && decide (16 ≤ r.gen.list.length), St.queueFull, 0)])
    (okReply (s2.updArm n (fun r => { r with singular := false, status := if r.status = St.singularityStop ∨ r.status = St.jointLimitStop then 0 else r.status })))

/-- ARM_MOVE_JOINT: moves an arm's joints together (R349). -/
def execArmMoveJoint (h : Hdr) (a : List Byte) (s : State) : Result := commitHost 0x030A runArmMoveJoint h a s

/-- The common part of the Cartesian moves: whether the target pose has a solution is free, since it follows from the pose
computations that R80 leaves to the firmware release (R112; log entry 25). -/
def runCart (h : Hdr) (a : List Byte) (ls : ListSeg) (tests : List Test) (s : State) : State × Reply :=
  let n := uAt a 0 2
  let r := s.arm n
  let append := uAt a 4 1 == 1
  let u := s.freeBelow 2
  let s' := (commandArm n append ls u.2).updArm n (fun r => { r with status := if r.status = St.jointLimitStop then 0 else r.status })
  tested u.2 ([badSubject a 0 16, badAt 4 (decide (1 < uAt a 4 1)), badAt 5 (decide (15 < ls.work)), badAt 6 (decide (7 < ls.conf) && ls.conf != 0xFF)] ++
      tests ++ [(u.1 == 1, St.unreachable, 0), shadowed h s, moveCell s (s.armInRun n)] ++ armTests s n false ++ cartTests s n ++
      [(append && decide (16 ≤ r.gen.list.length), St.queueFull, 0)])
    (okReply s')

/-- ARM.MOVE_CART (R107, R110, R112, R349). -/
def runArmMoveCart (h : Hdr) (a : List Byte) (s : State) : State × Reply :=
  let ls : ListSeg := { kind := 1, work := uAt a 5 1, conf := uAt a 6 1, pos := vec3At a 8, rot := quatAt a 20, blend := uAt a 36 4, speed := speedAt a 40 }
  runCart h a ls [badLen a 44, badZeros a 7 1, badVec a 8, badQuat a 20, badAt 40 (decide (0x8000 < uAt a 40 2)), badZeros a 42 2] s

/-- ARM_MOVE_CART: moves the tool centre point along a line (R107). -/
def execArmMoveCart (h : Hdr) (a : List Byte) (s : State) : Result := commitHost 0x030B runArmMoveCart h a s

/-- Two points within a distance in um. -/
def within (d : Int) (p q : Vec3) : Bool := decide ((p.x - q.x) ^ 2 + (p.y - q.y) ^ 2 + (p.z - q.z) ^ 2 ≤ d ^ 2)

/-- ARM.MOVE_ARC (R108, R110, R349): whether the start point makes the arc degenerate is free with the pose it comes from (log
entry 25). -/
def runArmMoveArc (h : Hdr) (a : List Byte) (s : State) : State × Reply :=
  let ls : ListSeg := { kind := 2, work := uAt a 5 1, conf := uAt a 6 1, turns := uAt a 7 1, via := vec3At a 8, pos := vec3At a 20, rot := quatAt a 32
                        blend := uAt a 48 4, speed := speedAt a 52 }
  let f := s.freeBelow 2
  runCart h a ls [badLen a 56, badVec a 8, badVec a 20, badQuat a 32, badAt 52 (decide (0x8000 < uAt a 52 2)), badZeros a 54 2,
    (within 10 ls.via ls.pos || f.1 == 1, St.arcDegenerate, 0)] f.2

/-- ARM_MOVE_ARC: moves the tool centre point along an arc (R108). -/
def execArmMoveArc (h : Hdr) (a : List Byte) (s : State) : Result := commitHost 0x030C runArmMoveArc h a s

/-! ### Hold, resume, stop -/

/-- Whether an arm has an axis out of DISABLED. -/
def armActive (s : State) (n : Nat) : Test := badState ((s.ownerAxes (1000 + n)) == [])

/-- ARM.HOLD (R98, R99). -/
def runArmHold (h : Hdr) (a : List Byte) (s : State) : State × Reply :=
  let n := uAt a 0 2
  let r := holdOwner (1000 + n) (uAt a 4 4) s
  tested s [badLen a 8, badSubject a 0 16, badAt 4 (decide (60000000 < uAt a 4 4)), shadowed h s, holdCell s (s.armInRun n) false, armKnown s n, armActive s n]
    (if r.2 then warnReply r.1 St.holdKept 0 else okReply r.1)

/-- ARM_HOLD: holds an arm on its path (R98). -/
def execArmHold (h : Hdr) (a : List Byte) (s : State) : Result := commitHost 0x030D runArmHold h a s

/-- ARM.RESUME (R100). -/
def runArmResume (h : Hdr) (a : List Byte) (s : State) : State × Reply :=
  let n := uAt a 0 2
  tested s [badLen a 4, badSubject a 0 16, shadowed h s, holdCell s (s.armInRun n) true, armKnown s n, armActive s n, (!s.canResume (1000 + n), St.notHeld, 0)]
    (okReply (resumeOwner (1000 + n) s))

/-- ARM_RESUME: resumes a held arm (R100). -/
def execArmResume (h : Hdr) (a : List Byte) (s : State) : Result := commitHost 0x030E runArmResume h a s

/-- ARM.STOP (R101). -/
def runArmStop (h : Hdr) (a : List Byte) (s : State) : State × Reply :=
  let n := uAt a 0 2
  tested s [badLen a 4, badSubject a 0 16, shadowed h s, holdCell s (s.armInRun n) false, armKnown s n, armActive s n]
    (okReply ((stopOwner (1000 + n) s).updArm n (fun r => { r with jogUntil := none })))

/-- ARM_STOP: stops an arm and discards its path (R101). -/
def execArmStop (h : Hdr) (a : List Byte) (s : State) : Result := commitHost 0x030F runArmStop h a s

/-! ### Jog and status -/

/-- The path speed of a Cartesian jog as a fraction of TCP_VEL, at most JOG_FRAC of the first joint (R195; log entry 34). -/
def Arm.jogSpeed (r : Arm) (x : Axis) (lin : F3) : Nat :=
  let v := ((len3 lin).div (Fl.ofInt r.tcpVel)).toFix 15
  max 1 (min x.jogFrac (if v ≤ 0 then x.jogFrac else v.toNat))

/-- ARM.JOG (R194, R195): in JOINT mode its arguments name no joint (log entry 34), and it renews the keepalive alone. -/
def runArmJog (h : Hdr) (a : List Byte) (s : State) : State × Reply :=
  let n := uAt a 0 2
  let r := s.arm n
  let fr := uAt a 4 1
  let lin := vec3At a 8
  let still := lin == {} && [20, 24, 28].all (fun i => (Fl.ofBits (uAt a i 4)).m == 0)
  let steps := uAt a 32 4 != 0 || (Fl.ofBits (uAt a 36 4)).m != 0
  let x := s.axis ((r.joints.getD 0 {}).axis)
  let ls : ListSeg := { kind := 1, work := if fr = 0xFF then 0 else fr, speed := r.jogSpeed x (vecF3 lin) }
  let until' := if steps then none else some (s.cell.tick + keepalive' (uAt a 40 2))
  let s1 := if r.mode = 0 then s else if still then stopOwner (1000 + n) s else commandArm n false ls s
  tested s ([badLen a 44, badSubject a 0 16, badAt 4 (fr != 0xFF && decide (15 < fr)), badZeros a 5 3, badFloat a 20, badFloat a 24, badFloat a 28,
      badSign a 36 false, badAt 40 (decide (16000 < uAt a 40 2)), badZeros a 42 2, shadowed h s, homeCell s (s.armInRun n)] ++ armTests s n true ++
      (if r.mode = 0 then [badState r.singular] else cartTests s n))
    (okReply (s1.updArm n (fun r => { r with jogUntil := until' })))
where
  keepalive' (n : Nat) : Nat := if n = 0 then 3200 else n

/-- ARM_JOG: jogs an arm (R195). -/
def execArmJog (h : Hdr) (a : List Byte) (s : State) : Result := commitHost 0x0310 runArmJog h a s

/-- The reply of ARM.STATUS (R350): the pose of the tool centre point follows from forward kinematics, whose operation order
R80 leaves to the firmware release, so it is free (log entry 25). -/
def State.armReport (s : State) (n : Nat) : List Byte × State :=
  let r := s.arm n
  let q := s.ownQueue (1000 + n)
  let scale := ((q.entries.head?.or q.last).map (fun e => e.scale)).getD 0x8000
  let w := s.freeBelow (2 ^ 224)
  (toLE 1 r.mode ++ toLE 1 (s.gunit n).state ++ toLE 1 r.tool ++ toLE 1 0 ++ toLE 2 r.status ++ toLE 2 scale ++ toLE 2 r.gen.list.length ++
    q.marks ++ toLE 28 w.1, w.2)

/-- ARM.STATUS (R350). -/
def runArmStatus (_ : Hdr) (a : List Byte) (s : State) : State × Reply :=
  let r := s.armReport (uAt a 0 2)
  tested s [badLen a 4, badSubject a 0 16, liveCell s] (dataReply r.2 r.1)

/-- ARM_STATUS: returns an arm's mode, status, marks and pose (R350). -/
def execArmStatus (h : Hdr) (a : List Byte) (s : State) : Result := commitHost 0x0311 runArmStatus h a s

end Sys2Proof.Machine
end

