-- ==== Sys2Proof/Machine/CanFd.lean ====
section
/-! DEFINITION. The CAN FD controllers (16_can_fd, R452 to R465). Error counter steps are those of ISO 11898-1:2015,
which R463 names and the spec does not copy (log entry 12). -/

namespace Sys2Proof.Machine

/-- A step of a controller the device has, as a change of its own record. -/
def onCan (n : Nat) (s : State) (f : Can → Can) : Result := onUnit n 4 (s.updCan n f)

/-- Data octets of a DLC: 0 to 8, and for FD frames 12, 16, 20, 24, 32, 48, 64 (R452). -/
def dlcLen (fdf : Bool) (dlc : Nat) : Nat :=
  if dlc ≤ 8 then dlc
  else if !fdf then 8
  else [12, 16, 20, 24, 32, 48, 64].getD (dlc - 9) 64

/-- Whether a filter matches a frame (R456). -/
def CanFilter.hits (k : CanFilter) (f : CanFrame) : Bool :=
  k.en && k.ide == f.ide && ((f.id ^^^ k.id) &&& k.mask) == 0

/-- The message stored for a frame (R465). -/
def storedMsg (f : CanFrame) (k : Nat) (beyond : Bool) : CanMsg :=
  { id := f.id, ide := f.ide, rtr := f.rtr, dlc := f.dlc, fdf := f.fdf, brs := f.brs, esi := f.esi, filter := k
    overwritten := beyond, valid := true
    data := if f.rtr then [] else f.data.take (dlcLen f.fdf f.dlc) }

/-- Error state from the counters: passive above 127, else active; bus-off and integration are left as they are (R463). -/
def Can.errState (c : Can) : Can :=
  if c.state = 2 ∨ c.state = 3 then c
  else { c with state := if 127 < c.txErr ∨ 127 < c.rxErr then 1 else 0 }

/-- REC after a frame received without error: one less; above 127 it falls to 119 to 127, which of them being left open
(R463, ISO 11898-1; log entry 12). -/
def recDown (c : Can) (free : Nat) : Can :=
  { c with rxErr := if c.rxErr = 0 then 0 else if c.rxErr ≤ 127 then c.rxErr - 1 else 119 + free % 9 }.errState

/-- A valid frame goes where its lowest matching filter sends it; answers the buffer number stored, if any (R456). -/
def Can.accept (c : Can) (f : CanFrame) : Can × Option Nat :=
  match (List.range 32).find? (fun k => (Table.get {} c.filters k).hits f) with
  | none => (c, none)
  | some k =>
    let d := (Table.get {} c.filters k).dest
    if d < c.dedicated then
      let beyond := bitAt c.rxNew d
      ({ c with rxBufs := Table.set {} c.rxBufs d (storedMsg f k beyond), rxNew := setBit c.rxNew d
                rxOverwrite := if beyond then satAdd 255 c.rxOverwrite 1 else c.rxOverwrite }, some d)
    else if 64 - c.dedicated ≤ c.fifo.length then ({ c with rxFifoOvf := satAdd 255 c.rxFifoOvf 1 }, none)
    else ({ c with fifo := c.fifo ++ [storedMsg f k false] }, some (c.dedicated + c.fifo.length))

/-- The owning Lathe's receive entry for controller `n` (R458). -/
def canEntry (n arg : Nat) (s : State) : State :=
  match (s.can n).owner with
  | none => s
  | some e => s.requestEntry e s.gtc (0x30 + n) arg

/-- A frame format the controller does not take sends it into the protocol exception (R457). -/
def Can.exception (c : Can) : Can := { c with state := 3, protoExc := satAdd 255 c.protoExc 1 }

/-- A valid received frame (R456 to R458). A controller that is off, bus-off or integrating takes none, and none takes its
own frames except in internal loop-back. -/
def canReceive (n : Nat) (own : Bool) (f : CanFrame) (s : State) : State :=
  let c := s.can n
  if !c.en ∨ c.state = 2 ∨ c.state = 3 ∨ (own ∧ c.mode ≠ 3) then s
  else if f.fdf ∧ !c.fdEn then s.setCan n c.exception
  else
    let (fr, s) := s.freeBelow 9
    let frozen := c.mode = 1 ∨ c.mode = 2
    let (c', b) := (if frozen then c else recDown c fr).accept f
    let s := s.setCan n c'
    match b with
    | none => s
    | some k => canEntry n k s

/-- CAN_FRAME_RECEIVE: a valid CAN frame is filtered into a buffer or the FIFO (R456). -/
def execCanFrameReceive (n : Nat) (own : Bool) (f : CanFrame) (s : State) : Result :=
  onUnit n 4 (canReceive n own f s)

/-- CAN_PROTOCOL_EXCEPTION: the controller waits for integration, its error counters unchanged (R457). -/
def execCanProtocolException (n : Nat) (s : State) : Result :=
  onCan n s (fun c => if c.en then c.exception else c)

/-- CAN_INTEGRATION_END: eleven recessive bits end the wait (R457). -/
def execCanIntegrationEnd (n : Nat) (s : State) : Result :=
  onCan n s (fun c => if c.en ∧ c.state = 3 then { c with state := 0, busIdle := true }.errState else c)

/-- A transmit buffer. -/
def Can.buf (c : Can) (b : Nat) : CanTxBuf := Table.get {} c.tx b

/-- The controller with a transmit buffer replaced. -/
def Can.setBuf (c : Can) (b : Nat) (t : CanTxBuf) : Can := { c with tx := Table.set {} c.tx b t }

/-- CLASS of buffer `b`: 1 service; it resets to 1 for b of 24 and above (CAN_TXB). -/
def CanTxBuf.service (t : CanTxBuf) (b : Nat) : Bool := decide (24 ≤ b) != t.classFlip

/-- The message that stands in the staging area (R465). -/
def Can.stagedMsg (c : Can) : CanMsg :=
  let o := (List.range 72).map (fun i => Table.get 0 c.staging i)
  let id := uAt o 0 4
  let ctl := uAt o 4 4
  let ide := bitAt id 29
  { id := field id 0 29, ide := ide, rtr := bitAt id 30, dlc := field ctl 0 4, fdf := bitAt ctl 4, brs := bitAt ctl 5
    data := octets o 8 (dlcLen (bitAt ctl 4) (field ctl 0 4)) }

/-- OP 0: loads a buffer from staging, unless it is ACTIVE (R460). -/
def Can.load (c : Can) (b : Nat) : Can :=
  let t := c.buf b
  if t.state = 2 then { c with loadRej := satAdd 255 c.loadRej 1 }
  else c.setBuf b { t with state := 1, msg := c.stagedMsg, tries := 0, busoffCxl := false, noRetry := false }

/-- CAN_TX_LOAD: OP 0 loads a transmit buffer from staging (R460). -/
def execCanTxLoad (n b : Nat) (s : State) : Result := onCan n s (fun c => if b < 32 then c.load b else c)

/-- OP 1: a PENDING buffer is cancelled; on an ACTIVE one the cancel fails and its attempt is the last (R462). -/
def Can.cancel (c : Can) (b : Nat) : Can :=
  let t := c.buf b
  if t.state = 1 then c.setBuf b { t with state := 4 }
  else if t.state = 2 then
    { c.setBuf b { t with cxlFailed := true, noRetry := true } with cxlFail := satAdd 255 c.cxlFail 1 }
  else c

/-- CAN_TX_CANCEL: OP 1 cancels a transmit buffer (R462). -/
def execCanTxCancel (n b : Nat) (s : State) : Result := onCan n s (fun c => if b < 32 then c.cancel b else c)

/-- OP 2: a finished buffer becomes EMPTY (R460). -/
def Can.release (c : Can) (b : Nat) : Can :=
  let t := c.buf b
  if t.state = 3 ∨ t.state = 4 ∨ t.state = 5 then c.setBuf b { t with state := 0 } else c

/-- CAN_TX_RELEASE: OP 2 releases a finished buffer to EMPTY (R460). -/
def execCanTxRelease (n b : Nat) (s : State) : Result := onCan n s (fun c => if b < 32 then c.release b else c)

/-- OP 3: recovery from bus-off begins (R463). -/
def Can.startRecovery (c : Can) : Can := if c.state = 2 then { c with recovering := true } else c

/-- CAN_BUSOFF_RECOVERY_START: OP 3 starts bus-off recovery (R463). -/
def execCanBusoffRecoveryStart (n : Nat) (s : State) : Result := onCan n s Can.startRecovery

/-- A fetch into the read view (R459): a dedicated buffer, or 0x7F for the FIFO head. -/
def Can.fetch (c : Can) (v : Nat) : Can :=
  let b := field v 0 7
  if b = 0x7F then
    match c.fifo with
    | [] => { c with view := { c.view with valid := false } }
    | m :: rest => { c with view := m, fifo := rest }
  else if b < c.dedicated then { c with view := Table.get {} c.rxBufs b, rxNew := clrBit c.rxNew b }
  else c

/-- CAN_RX_FETCH_WRITE: copies a buffer or the FIFO head into the read view (R459). -/
def execCanRxFetchWrite (n v : Nat) (s : State) : Result := onCan n s (fun c => c.fetch v)

/-- The arbitration field of a message as a number: the smaller wins the bus (ISO 11898-1: dominant is 0). -/
def CanMsg.arbitration (m : CanMsg) : Nat :=
  let rtr := if m.rtr && !m.fdf then 1 else 0
  if m.ide then field m.id 18 11 * 2 ^ 21 + 2 ^ 20 + 2 ^ 19 + field m.id 0 18 * 2 + rtr
  else field m.id 18 11 * 2 ^ 21 + rtr * 2 ^ 20

/-- The buffer offered: of the PENDING ones the winner of arbitration, on a tie the lowest number (R460). -/
def Can.choice (c : Can) : Option Nat :=
  (List.range 32).foldl (fun best b =>
    if (c.buf b).state ≠ 1 then best
    else match best with
      | none => some b
      | some a => if (c.buf b).msg.arbitration < (c.buf a).msg.arbitration then some b else some a) none

/-- Whether a controller may transmit: on the bus, error active or passive, in normal mode or loop-back. -/
def Can.mayTransmit (c : Can) : Bool := c.en && decide (c.state < 2) && (c.mode == 0 || c.mode == 3)

/-- The chosen buffer's start-of-frame bit begins: it is ACTIVE (R460). -/
def canChoice (n : Nat) (s : State) : State :=
  let c := s.can n
  if !c.mayTransmit ∨ (List.range 32).any (fun b => (c.buf b).state == 2) then s
  else match c.choice with
    | none => s.setCan n { c with busIdle := true }
    | some b => (s.setCan n { c.setBuf b { c.buf b with state := 2 } with busIdle := false }).send (.canFrame n b)

/-- CAN_TX_CHOICE: at intermission the controller chooses the pending buffer to offer (R460). -/
def execCanTxChoice (n : Nat) (s : State) : Result := onUnit n 4 (canChoice n s)

/-- An attempt without success (R461, R462): one that is not retried ends CANCELLED; a service buffer past RETRY_LIMIT
is abandoned; any other waits again. -/
def Can.attemptFailed (c : Can) (b : Nat) : Can :=
  let t := c.buf b
  let beyond := decide (c.retryLimit < t.tries + 1)
  let t := { t with tries := min 15 (t.tries + 1) }
  if t.noRetry then c.setBuf b { t with state := 4, noRetry := false }
  else if t.service b && beyond then { c.setBuf b { t with state := 5 } with abandoned := satAdd 255 c.abandoned 1 }
  else c.setBuf b { t with state := 1 }

/-- The buffers at bus-off (R463): PENDING and ACTIVE cyclic buffers are cancelled with BUSOFF_CXL; an ACTIVE service buffer
counts its attempt. -/
def Can.busOffBuffers (c : Can) : Can :=
  (List.range 32).foldl (fun c b =>
    let t := c.buf b
    if (t.state = 1 ∨ t.state = 2) ∧ !t.service b then c.setBuf b { t with state := 4, busoffCxl := true, noRetry := false }
    else if t.state = 2 then c.attemptFailed b
    else c) c

/-- The controller goes bus-off when TEC has passed 255 (R463). -/
def Can.checkBusOff (c : Can) : Can :=
  if 255 < c.txErr ∧ c.state ≠ 2 then
    { c.busOffBuffers with state := 2, recovering := c.autoRecover, busOff := satAdd 255 c.busOff 1 }
  else c

/-- The end of a transmit attempt (R461 to R463). -/
def Can.attemptEnd (c : Can) (b : Nat) : CanEnd → Can
  | .ok => { c.setBuf b { c.buf b with state := 3, noRetry := false } with txErr := c.txErr - 1, lec := 0 }.errState
  | .lost => { c.attemptFailed b with arbLost := satAdd 255 c.arbLost 1 }
  | .error k quiet =>
    let c := { c with lec := k, txErr := if quiet then c.txErr else c.txErr + 8 }
    if 255 < c.txErr then c.checkBusOff else (c.attemptFailed b).errState

/-- The attempt of the ACTIVE buffer ends; a completion requests an entry while TX_EVT_EN is set (R458). -/
def canAttemptEnd (n : Nat) (r : CanEnd) (s : State) : State :=
  let c := s.can n
  match (List.range 32).find? (fun b => (c.buf b).state == 2) with
  | none => s
  | some b =>
    let c' := c.attemptEnd b r
    let s := s.setCan n c'
    if c.txEvtEn ∧ (c'.buf b).state = 3 then canEntry n (0x100 + b) s else s

/-- CAN_ATTEMPT_END: a transmit attempt succeeds, loses arbitration or errors (R461). -/
def execCanAttemptEnd (n : Nat) (r : CanEnd) (s : State) : Result := onUnit n 4 (canAttemptEnd n r s)

/-- CAN_RECOVERY_END: 128 recessive idle sequences end bus-off recovery; both counters return to zero (R463). -/
def execCanRecoveryEnd (n : Nat) (s : State) : Result :=
  onCan n s (fun c => if c.state = 2 ∧ c.recovering then { c with state := 0, recovering := false, txErr := 0, rxErr := 0 } else c)

/-- The word of CAN_CNT0. -/
def Can.cnt0 (c : Can) : Nat := c.rxOverwrite + 256 * c.rxFifoOvf + 65536 * c.cxlFail + 16777216 * c.abandoned

/-- The word of CAN_CNT1. -/
def Can.cnt1 (c : Can) : Nat := c.busOff + 256 * c.protoExc + 65536 * c.arbLost + 16777216 * c.loadRej

/-- Reads and clears the counters of CAN_CNT0 (R8). -/
def canCnt0Read (n : Nat) (s : State) : State :=
  (s.updCan n (fun c => { c with rxOverwrite := 0, rxFifoOvf := 0, cxlFail := 0, abandoned := 0 })).returns (s.can n).cnt0

/-- CAN_CNT0_READ: reads and clears the counters of CAN_CNT0 (R8). -/
def execCanCnt0Read (n : Nat) (s : State) : Result := onUnit n 4 (canCnt0Read n s)

/-- Reads and clears the counters of CAN_CNT1 (R8). -/
def canCnt1Read (n : Nat) (s : State) : State :=
  (s.updCan n (fun c => { c with busOff := 0, protoExc := 0, arbLost := 0, loadRej := 0 })).returns (s.can n).cnt1

/-- CAN_CNT1_READ: reads and clears the counters of CAN_CNT1 (R8). -/
def execCanCnt1Read (n : Nat) (s : State) : Result := onUnit n 4 (canCnt1Read n s)

/-- CAN_RECEIVE_ERROR: an error in another node's frame raises REC, by 8 where ISO 11898-1 says so, else by 1, and may
change the error state (R463; log entry 12). -/
def execCanReceiveError (n kind : Nat) (heavy : Bool) (s : State) : Result :=
  onCan n s (fun c =>
    if !c.en ∨ c.state = 2 ∨ c.state = 3 then c
    else if c.mode = 1 ∨ c.mode = 2 then { c with lec := kind }
    else { c with lec := kind, rxErr := satAdd 255 c.rxErr (if heavy then 8 else 1) }.errState)

/-- The owning Lathe restarted or became unusable: PENDING buffers are cancelled and an ACTIVE one is not retried (R464). -/
def Can.ownerLost (c : Can) : Can :=
  (List.range 32).foldl (fun c b =>
    let t := c.buf b
    if t.state = 1 then c.setBuf b { t with state := 4 }
    else if t.state = 2 then c.setBuf b { t with noRetry := true }
    else c) c

/-- Whether the timing words break a condition of R453. -/
def canTimingBad (ctrl nbt dbt : Nat) : Bool :=
  let nb := (field nbt 0 9 + 1) * (3 + field nbt 9 8 + field nbt 17 7)
  let db := (field dbt 0 5 + 1) * (3 + field dbt 5 5 + field dbt 10 4)
  decide (nb < 80) || decide (db < 10) || decide (nb < db) ||
    decide (field nbt 17 7 < field nbt 24 7) || decide (field dbt 10 4 < field dbt 14 4) ||
    (bitAt nbt 31 && decide (nb < 640)) || (!bitAt dbt 18 && decide (db < 40)) ||
    decide (64 < field ctrl 10 7) || decide (field nbt 9 8 < 1)

/-- The three configuration words taken in (R465). -/
def Can.configure (c : Can) (ctrl nbt dbt : Nat) : Can :=
  let en := bitAt ctrl 0
  { c with en := en, mode := field ctrl 1 2, fdEn := bitAt ctrl 3, autoRecover := bitAt ctrl 4
           retryLimit := field ctrl 5 4, txEvtEn := bitAt ctrl 9, dedicated := field ctrl 10 7
           nbt := nbt, dbt := wrap 26 dbt, state := if en && !c.en then 3 else c.state }

/-- The word of CAN_CTRL. -/
def Can.ctrlWord (c : Can) : Nat :=
  bitIf 0 c.en + 2 * c.mode + bitIf 3 c.fdEn + bitIf 4 c.autoRecover + 32 * c.retryLimit + bitIf 9 c.txEvtEn +
    1024 * c.dedicated

/-- The word of CAN_STATUS. -/
def Can.status (c : Can) : Nat :=
  c.state + bitIf 2 c.recovering + bitIf 3 c.busIdle + 256 * min 255 c.txErr + 65536 * min 255 c.rxErr +
    16777216 * c.lec + 134217728 * min 31 c.fifo.length

/-- The word of CAN_TXB b. -/
def CanTxBuf.word (t : CanTxBuf) (b : Nat) : Nat :=
  t.state + bitIf 3 (t.service b) + bitIf 4 t.cxlFailed + 32 * t.tries + bitIf 9 t.busoffCxl

/-- A message as its 72 octets (R465). -/
def CanMsg.octets (m : CanMsg) : List Byte :=
  toLE 4 (m.id + bitIf 29 m.ide + bitIf 30 m.rtr) ++
    toLE 4 (m.dlc + bitIf 4 m.fdf + bitIf 5 m.brs + bitIf 6 m.esi + 4096 * m.filter + bitIf 17 m.overwritten + bitIf 18 m.valid) ++
    (m.data ++ List.replicate 64 0).take 64

end Sys2Proof.Machine
end

