-- ==== Sys2Proof/Machine/Chisel.lean ====
section
/-! DEFINITION. The Chisel engines (14_chisel_engines, R403 to R418). Engine k is engine k mod 8 of group k / 8. A row of
an instruction carries its fields and the pin levels the engine finds; the stored words stand in the group's store. -/

namespace Sys2Proof.Machine

/-- Engine `e` of a group. -/
def ChsGroup.engine (g : ChsGroup) (e : Nat) : ChsRun := Table.get {} g.engines e

/-- The group with an engine replaced. -/
def ChsGroup.setEngine (g : ChsGroup) (e : Nat) (r : ChsRun) : ChsGroup :=
  { g with engines := Table.set {} g.engines e r }

/-- Engine `k`, 0 to 63. -/
def State.chsEngine (s : State) (k : Nat) : ChsRun := (s.chisel (k / 8)).engine (k % 8)

/-- The state with engine `k` replaced. -/
def State.setEngine (s : State) (k : Nat) (r : ChsRun) : State :=
  s.updChisel (k / 8) (fun g => g.setEngine (k % 8) r)

/-- WLEN in bits; 0 means 32 (CHS_E_CFG). -/
def ChsEngine.wordLen (c : ChsEngine) : Nat := if c.wlen = 0 then 32 else c.wlen

/-- The general I/O pin a window names (R404). -/
def ChsEngine.window (c : ChsEngine) (w : Nat) : Nat := field c.wins (6 * w) 6

/-- A shift is in progress: an EMIT or SAMPLE begun and not ended, or part of a word in SH (R415). -/
def ChsRun.shifting (r : ChsRun) : Bool :=
  (match r.hold with
    | .emit _ _ _ => true
    | .emitStore _ _ => true
    | .sample _ _ => true
    | _ => false) || (decide (0 < r.bits) && decide (r.bits < r.act.wordLen))

/-- Pins at their idle levels (R414). -/
def ChsRun.idlePins (r : ChsRun) : ChsRun := { r with lvl := r.act.idleLvl, oe := r.act.idleOe, eo := r.act.eoIdle }

/-- An engine stops: a shift in progress is discarded and counted once, and the pins return to idle (R415). -/
def ChsRun.stop (r : ChsRun) : ChsRun :=
  { (if r.shifting then { r with sh := 0, bits := 0, shiftAbandon := satAdd 255 r.shiftAbandon 1 } else r).idlePins with
    run := false, hold := .none }

/-- An entry of the owning Lathe for group `g`: pending requests merge into one (R413). -/
def chsEntry (g : Nat) (s : State) : State :=
  let c := s.chisel g
  match c.owner with
  | none => s
  | some e => if c.entryDue then s else (s.setChisel g { c with entryDue := true }).requestEntry e s.gtc (0x40 + g) 0

/-- An engine fetches an illegal instruction: it stops, sets FAULT and its bit of FAULT_FLAGS and requests an entry (R416). -/
def chsFault (k : Nat) (s : State) : State :=
  let s := s.setEngine k { (s.chsEngine k).stop with fault := true }
  let s := s.updChisel (k / 8) (fun g => { g with faultFlags := setBit g.faultFlags (k % 8) })
  chsEntry (k / 8) s

/-- A running engine that holds for nothing executes an instruction: an illegal one, or one fetched above address 23 (log
entry 13), faults; any other engine executes nothing. -/
def chsStep (k : Nat) (s : State) (legal : ChsRun → Bool) (f : ChsRun → State → State) : Result :=
  let r := s.chsEngine k
  onUnit k 64 (if !r.run ∨ r.hold ≠ .none then s
    else if 23 < r.pc ∨ !legal r then chsFault k s
    else f r s)

/-- The engine goes on to the next word. -/
def ChsRun.next (r : ChsRun) : ChsRun := { r with pc := r.pc + 1, hold := .none }

/-- PAUSE: the engine waits N cycles (R409). -/
def execChsPause (k n : Nat) (s : State) : Result :=
  chsStep k s (fun _ => decide (n < 4096)) (fun r s => s.setEngine k r.next)

/-- Each bit of `x` whose mask bit is 1 takes its value bit (R409). -/
def takeBits (x value mask : Nat) : Nat := (x - (x &&& mask)) + (value &&& mask)

/-- PINS: sets window levels, drive enables or enable outputs (R409). -/
def execChsPins (k value mask tgt : Nat) (s : State) : Result :=
  chsStep k s
    (fun r => decide (tgt < 3) && (if tgt = 2 then decide (mask < 4) && (r.act.eoValid &&& mask) == mask
                                   else decide (mask < 16) && (r.act.wValid &&& mask) == mask))
    (fun r s => s.setEngine k (ChsRun.next (
      if tgt = 0 then { r with lvl := takeBits r.lvl value mask }
      else if tgt = 1 then { r with oe := takeBits r.oe value mask }
      else { r with eo := takeBits r.eo value mask })))

/-- SH after one bit enters it, in the engine's bit order (R411). -/
def ChsRun.shiftIn (r : ChsRun) (b : Bool) : ChsRun :=
  let x := r.sh.toNat
  let sh := if r.act.msbFirst then wrap 32 (2 * x) + bitIf 0 b else x / 2 + bitIf 31 b
  { r with sh := BitVec.ofNat 32 sh, bits := min 32 (r.bits + 1) }

/-- The bit EMIT sends next (R411). -/
def ChsRun.outBit (r : ChsRun) : Bool := if r.act.msbFirst then bitAt r.sh.toNat 31 else bitAt r.sh.toNat 0

/-- The word a store pushes: right-aligned (R411). -/
def ChsRun.storeWord (r : ChsRun) : Word :=
  let n := r.act.wordLen
  BitVec.ofNat 32 (if r.act.msbFirst then r.sh.toNat % 2 ^ n else r.sh.toNat / 2 ^ (32 - n))

/-- A store: the word goes into DOUT, SH and BITS become zero (R411). -/
def ChsRun.store (r : ChsRun) : ChsRun := { r with dout := r.dout ++ [r.storeWord], sh := 0, bits := 0 }

/-- A fetch: the head of DIN into SH, in place for the engine's bit order, BITS zero (R411). -/
def ChsRun.fetchWord (r : ChsRun) : ChsRun :=
  match r.din with
  | [] => r
  | w :: rest =>
    let x := if r.act.msbFirst then wrap 32 (w.toNat * 2 ^ (32 - r.act.wordLen)) else w.toNat
    { r with din := rest, sh := BitVec.ofNat 32 x, bits := 0 }

/-- Whether an autostore is due in the cycle just done (R412). -/
def ChsRun.storeDue (r : ChsRun) : Bool := r.act.autostore && r.bits == r.act.wordLen

/-- An autostore into a full DOUT with DROP_NEW discards the word and counts it (R412). -/
def ChsRun.dropWord (r : ChsRun) : ChsRun := { r with sh := 0, bits := 0, doutLost := satAdd 255 r.doutLost 1 }

/-- The cycles of an EMIT: one bit each, with its automatic transfers, until it ends or holds. The second answer holds the
levels sent (R411, R412). -/
def emitRun (w : Nat) (duplex : Bool) : Nat → List Bool → ChsRun → ChsRun × List Bool
  | 0, _, r => (r.next, [])
  | n + 1, ins, r =>
    let need := r.act.autofetch && decide (r.act.wordLen ≤ r.bits)
    if need && r.din.isEmpty && !r.act.fillIdle then ({ r with hold := .emit (n + 1) w duplex }, [])
    else
      let idle := need && r.din.isEmpty
      let r : ChsRun := if idle then { r with idleFill := satAdd 255 r.idleFill 1 } else if need then r.fetchWord else r
      let out := if idle then bitAt r.act.idleLvl w else r.outBit
      let r : ChsRun := { r.shiftIn (duplex && ins.headD false) with lvl := takeBits r.lvl (bitIf w out) (2 ^ w) }
      if duplex && r.storeDue then
        if r.dout.length < 2 then let x := emitRun w duplex n ins.tail r.store; (x.1, out :: x.2)
        else if r.act.dropNew then let x := emitRun w duplex n ins.tail r.dropWord; (x.1, out :: x.2)
        else ({ r with hold := .emitStore n w }, [out])
      else let x := emitRun w duplex n ins.tail r; (x.1, out :: x.2)

/-- The cycles of a SAMPLE, until it ends or holds (R411, R412). -/
def sampleRun (w : Nat) : Nat → List Bool → ChsRun → ChsRun
  | 0, _, r => r.next
  | n + 1, ins, r =>
    let r : ChsRun := r.shiftIn (ins.headD false)
    if r.storeDue then
      if r.dout.length < 2 then sampleRun w n ins.tail r.store
      else if r.act.dropNew then sampleRun w n ins.tail r.dropWord
      else { r with hold := .sample n w }
    else sampleRun w n ins.tail r

/-- An EMIT carried on, its levels put on the pin. -/
def emitOn (k w n : Nat) (duplex : Bool) (ins : List Bool) (r : ChsRun) (s : State) : State :=
  let x := emitRun w duplex n ins r
  (s.setEngine k x.1).send (.bits (r.act.window w) x.2)

/-- EMIT: sends bits of SH to a pin, optionally duplex (R411). -/
def execChsEmit (k n w : Nat) (duplex : Bool) (ins : List Bool) (s : State) : Result :=
  chsStep k s
    (fun r => decide (1 ≤ n) && decide (n ≤ 32) && decide (w < 4) && bitAt r.act.wValid w &&
      (!duplex || bitAt r.act.wValid r.act.duplexPin))
    (fun r s => emitOn k w n duplex ins r s)

/-- SAMPLE: samples a pin into SH (R411). -/
def execChsSample (k n w : Nat) (ins : List Bool) (s : State) : Result :=
  chsStep k s (fun r => decide (1 ≤ n) && decide (n ≤ 32) && decide (w < 4) && bitAt r.act.wValid w)
    (fun r s => s.setEngine k (sampleRun w n ins r))

/-- A counter decremented for BRANCH, and whether the branch is taken: a counter at zero stays and is not taken (R410). -/
def countDown (c : Nat) : Nat × Bool := if c = 0 then (0, false) else (c - 1, c != 1)

/-- The engine after a branch's side effect, and whether its condition holds (R410). -/
def ChsRun.condition (r : ChsRun) (cond : Nat) (lvl : Bool) : ChsRun × Bool :=
  match cond with
  | 0 => (r, true)
  | 1 => ({ r with c0 := (countDown r.c0).1 }, (countDown r.c0).2)
  | 2 => ({ r with c1 := (countDown r.c1).1 }, (countDown r.c1).2)
  | 3 => (r, lvl)
  | 4 => (r, !lvl)
  | 5 => (r, decide (r.act.wordLen ≤ r.bits))
  | 6 => (r, decide (r.bits < r.act.wordLen))
  | 7 => (r, !r.din.isEmpty)
  | 8 => (r, decide (r.dout.length < 2))
  | 9 => (r, r.c0 == 0)
  | 10 => ({ r with timeout := false }, r.timeout)
  | _ => (r, false)

/-- BRANCH: continues at TARGET when COND holds, else at the next word (R410). -/
def execChsBranch (k cond w target : Nat) (lvl : Bool) (s : State) : Result :=
  chsStep k s
    (fun r => decide (cond < 11) && decide (target < 24) && (!(cond == 3 || cond == 4) || bitAt r.act.wValid w))
    (fun r s =>
      let x := r.condition cond lvl
      s.setEngine k (if x.2 then { x.1 with pc := target } else x.1.next))

/-- AWAIT: holds until a pin or sync flag matches (R412). -/
def execChsAwait (k : Nat) (level : Bool) (src idx : Nat) (lvl : Bool) (s : State) : Result :=
  chsStep k s (fun r => decide (src < 3) && (src == 1 || (decide (idx < 4) && bitAt r.act.wValid idx)) && decide (idx < 8))
    (fun r s =>
      if src = 1 then
        let g := s.chisel (k / 8)
        if bitAt g.sync idx = level then
          (s.setChisel (k / 8) { g with sync := if level then clrBit g.sync idx else g.sync }).setEngine k r.next
        else s.setEngine k { r with hold := .sync idx level }
      else if lvl = level then s.setEngine k (ChsRun.next (if src = 2 then { r with timeout := false } else r))
      else s.setEngine k { r with hold := .pin idx level (src == 2) })

/-- AWAIT_TIMEOUT: C1 reaches zero in a timed AWAIT; TIMEOUT is set and the next word follows (R412). -/
def execChsAwaitTimeout (k : Nat) (s : State) : Result :=
  let r := s.chsEngine k
  onUnit k 64 (match r.hold with
    | .pin _ _ true => s.setEngine k (ChsRun.next { r with c1 := 0, timeout := true })
    | _ => s)

/-- AWAIT_MATCH: a holding engine finds its pin at LEVEL after `waited` cycles of holding, each of which took one from C1 when
the wait is timed; a match clears TIMEOUT of a timed wait (R412). -/
def execAwaitMatch (k waited : Nat) (s : State) : Result :=
  let r := s.chsEngine k
  onUnit k 64 (match r.hold with
    | .pin _ _ timed => s.setEngine k (ChsRun.next (if timed then { r with c1 := r.c1 - waited, timeout := false } else r))
    | _ => s)

/-- The low `n` bits of a number in reverse order, the others zero (R412). -/
def reverseBits : Nat → Nat → Nat
  | 0, _ => 0
  | n + 1, x => x % 2 * 2 ^ n + reverseBits n (x / 2)

/-- A source of COPY; the head of an empty DIN is a free value (R412, log entry 2). -/
def copySource (r : ChsRun) (src lvls : Nat) (s : State) : Nat × State :=
  match src with
  | 0 => (r.c0, s)
  | 1 => (r.c1, s)
  | 2 => (r.sh.toNat, s)
  | 3 => (lvls % 16, s)
  | 4 => (match r.din with
    | [] => s.freeBelow (2 ^ 32)
    | w :: _ => (w.toNat, s))
  | 5 => (0, s)
  | _ => (2 ^ 32 - 1, s)

/-- The operation of COPY on 32 bits (R412). -/
def copyOp (op n v : Nat) : Nat :=
  if op = 1 then 2 ^ 32 - 1 - v else if op = 2 then reverseBits n v else v

/-- COPY: copies a source to a destination (R412). -/
def execChsCopy (k dst src op lvls : Nat) (s : State) : Result :=
  chsStep k s
    (fun r => decide (dst < 5) && decide (src < 7) && decide (op < 3) &&
      (!(src == 3 || dst == 3) || r.act.wValid == 15))
    (fun r s =>
      let (v, s) := copySource r src lvls s
      let v := copyOp op r.act.wordLen v
      s.setEngine k (
        if dst = 0 then ChsRun.next { r with c0 := wrap 16 v }
        else if dst = 1 then ChsRun.next { r with c1 := wrap 16 v }
        else if dst = 2 then ChsRun.next { r with sh := BitVec.ofNat 32 v, bits := 0 }
        else if dst = 3 then ChsRun.next { r with lvl := wrap 4 v }
        else if r.dout.length < 2 then ChsRun.next { r with dout := r.dout ++ [BitVec.ofNat 32 v] }
        else { r with hold := .push (BitVec.ofNat 32 v) false }))

/-- DATA: stores SH to DOUT or fetches from DIN (R412). -/
def execChsData (k : Nat) (fetch whole : Bool) (s : State) : Result :=
  chsStep k s (fun _ => true) (fun r s =>
    s.setEngine k (
      if whole && decide (r.bits < r.act.wordLen) then r.next
      else if fetch then (if r.din.isEmpty then { r with hold := .fetch } else r.fetchWord.next)
      else if r.dout.length < 2 then r.store.next
      else { r with hold := .push r.storeWord true }))

/-- LOAD: a counter takes VALUE, or with 0x7FF its reload value (R409). -/
def execChsLoad (k : Nat) (one : Bool) (value : Nat) (s : State) : Result :=
  chsStep k s (fun _ => decide (value < 2048)) (fun r s =>
    let v := if value = 0x7FF then field r.cfg.reload (if one then 16 else 0) 16 else value
    s.setEngine k (ChsRun.next (if one then { r with c1 := v } else { r with c0 := v })))

/-- Engines that hold on a sync flag at the level it now has go on; a flag matched at level 1 is cleared (R412). -/
def syncMatch (g f : Nat) (level : Bool) (s : State) : State :=
  let c := s.chisel g
  let hit (e : Nat) : Bool := (c.engine e).hold == .sync f level && (c.engine e).run
  let c' := (List.range 8).foldl (fun c e => if hit e then c.setEngine e (c.engine e).next else c) c
  let some1 := (List.range 8).any hit
  s.setChisel g { c' with sync := if level && some1 then clrBit c'.sync f else c'.sync }

/-- SIGNAL: raises a Lathe flag or sets or clears a sync flag (R413). -/
def execChsSignal (k op idx : Nat) (s : State) : Result :=
  chsStep k s (fun _ => decide (op < 3) && decide (idx < 8)) (fun r s =>
    let g := k / 8
    let s := s.setEngine k r.next
    let c := s.chisel g
    if op = 0 then
      let rise := !bitAt c.flags idx && bitAt c.flagEn idx
      let s := s.setChisel g { c with flags := setBit c.flags idx }
      if rise then chsEntry g s else s
    else if op = 1 then syncMatch g idx true (s.setChisel g { c with sync := setBit c.sync idx })
    else syncMatch g idx false (s.setChisel g { c with sync := clrBit c.sync idx }))

/-- A held engine continues once the Lathe has read DOUT or written DIN (R412). -/
def resumeEngine (k : Nat) (ins : List Bool) (s : State) : State :=
  let r := s.chsEngine k
  match r.hold with
  | .push w clear =>
    if r.dout.length < 2 then
      let r := { r with dout := r.dout ++ [w] }
      s.setEngine k (ChsRun.next (if clear then { r with sh := 0, bits := 0 } else r))
    else s
  | .fetch => if r.din.isEmpty then s else s.setEngine k r.fetchWord.next
  | .emit n w d => if r.din.isEmpty then s else emitOn k w n d ins { r with hold := .none } s
  | .emitStore n w => if r.dout.length < 2 then emitOn k w n true ins { r.store with hold := .none } s else s
  | .sample n w => if r.dout.length < 2 then s.setEngine k (sampleRun w n ins { r.store with hold := .none }) else s
  | .none => s
  | .pin _ _ _ => s
  | .sync _ _ => s

/-- CHISEL_FIFO_RESUME: a held engine continues once the Lathe reads DOUT or writes DIN (R412). -/
def execChiselFifoResume (k : Nat) (ins : List Bool) (s : State) : Result := onUnit k 64 (resumeEngine k ins s)

/-- The start of one engine (R414, steps 2 to 4). -/
def ChsRun.start (r : ChsRun) (clr : Bool) : ChsRun :=
  let r := if r.run then r.stop else r
  let r := { r with act := r.cfg, run := true, hold := .none, fault := false, sh := 0, bits := 0, c0 := 0, c1 := 0
                    timeout := false, din := if clr then [] else r.din, dout := if clr then [] else r.dout
                    phaseAcc := 0, pc := r.cfg.startAddr }
  r.idlePins

/-- A start event of a group (R414): a pending swap takes place and widens the event to every enabled engine. -/
def ChsGroup.startEvent (c : ChsGroup) (mask : Nat) (clr : Bool) : ChsGroup :=
  let m := if c.swapPend then c.en else mask &&& c.en
  let c := { c with liveHalf := if c.swapPend then 1 - c.liveHalf else c.liveHalf, swapPend := false
                    starts := satAdd 255 c.starts 1 }
  (List.range 8).foldl (fun c e => if bitAt m e then c.setEngine e ((c.engine e).start clr) else c) c

/-- CHISEL_START: a start event restarts the named engines (R414). -/
def execChiselStart (g mask : Nat) (clr : Bool) (s : State) : Result :=
  onUnit g 8 (s.updChisel g (fun c => c.startEvent mask clr))

/-- A clock restart: only the phase accumulators of the named engines (R416). -/
def ChsGroup.clockRestart (c : ChsGroup) (mask : Nat) : ChsGroup :=
  (List.range 8).foldl (fun c e => if bitAt mask e then c.setEngine e { c.engine e with phaseAcc := 0 } else c) c

/-- CHISEL_CLOCK_RESTART: resets only the phase accumulators of named engines (R416). -/
def execChiselClockRestart (g mask : Nat) (s : State) : Result := onUnit g 8 (s.updChisel g (fun c => c.clockRestart mask))

/-- The named running engines stop (R415). -/
def ChsGroup.stopEngines (c : ChsGroup) (mask : Nat) : ChsGroup :=
  (List.range 8).foldl (fun c e => if bitAt mask e ∧ (c.engine e).run then c.setEngine e (c.engine e).stop else c) c

/-- CHISEL_STOP: stops named engines, discarding any shift (R415). -/
def execChiselStop (g mask : Nat) (s : State) : Result := onUnit g 8 (s.updChisel g (fun c => c.stopEngines mask))

/-- A write of CHS_CTRL (R407, R415): clearing an EN bit stops its engine; SWAP_PEND may be set or cancelled. -/
def ChsGroup.control (c : ChsGroup) (w : Nat) : ChsGroup :=
  let en := field w 0 8
  { c.stopEngines (255 - en) with en := en, swapPend := bitAt w 8, trigEn := bitAt w 10, trigUnit := field w 11 5
                                  trigMode := bitAt w 16 }

/-- CHS_CTRL_WRITE: sets group enables, swap and trigger; clearing EN stops engines (R407). -/
def execChsCtrlWrite (g : Nat) (w : Word) (s : State) : Result := onUnit g 8 (s.updChisel g (fun c => c.control w.toNat))

/-- The word of CHS_CTRL. -/
def ChsGroup.ctrlWord (c : ChsGroup) : Nat :=
  c.en + bitIf 8 c.swapPend + 512 * c.liveHalf + bitIf 10 c.trigEn + 2048 * c.trigUnit + bitIf 16 c.trigMode

/-- A write of CHS_START: its MODE starts, restarts the clocks of, or stops the engines named (R414 to R416). -/
def ChsGroup.startWrite (c : ChsGroup) (w : Nat) : ChsGroup :=
  let m := field w 0 8
  match field w 8 2 with
  | 0 => c.startEvent m (bitAt w 10)
  | 1 => c.clockRestart m
  | 2 => c.stopEngines m
  | _ => c

/-- A write of CHS_STORE word `a`: into the shadow half, or ignored and counted while a swap is pending (R407, R408). -/
def ChsGroup.storeWrite (c : ChsGroup) (a w : Nat) : ChsGroup :=
  if 24 ≤ a then c
  else if c.swapPend then { c with storeIgn := satAdd 255 c.storeIgn 1 }
  else { c with store := Table.set 0 c.store ((1 - c.liveHalf) * 24 + a) (wrap 16 w) }

/-- CHS_STORE_WRITE: writes a shadow program word unless a swap is pending (R408). -/
def execChsStoreWrite (g a : Nat) (w : Word) (s : State) : Result :=
  onUnit g 8 (s.updChisel g (fun c => c.storeWrite a w.toNat))

/-- A write of CHS_E_DIN: pushes a word, or is ignored and counted while DIN holds two (R412). -/
def ChsRun.dinWrite (r : ChsRun) (w : Word) : ChsRun :=
  if 2 ≤ r.din.length then { r with dataMiss := satAdd 255 r.dataMiss 1 } else { r with din := r.din ++ [w] }

/-- CHS_E_DIN_WRITE: pushes a word into an engine's DIN (R412). -/
def execChsEDinWrite (k : Nat) (w : Word) (s : State) : Result := onUnit k 64 (s.setEngine k ((s.chsEngine k).dinWrite w))

/-- A read of CHS_E_DOUT: pops a word, or returns zero and is counted while DOUT is empty (R412). -/
def doutRead (k : Nat) (s : State) : State :=
  let r := s.chsEngine k
  match r.dout with
  | [] => (s.setEngine k { r with dataMiss := satAdd 255 r.dataMiss 1 }).returns 0
  | w :: rest => (s.setEngine k { r with dout := rest }).returns w.toNat

/-- CHS_E_DOUT_READ: pops a word from an engine's DOUT (R412). -/
def execChsEDoutRead (k : Nat) (s : State) : Result := onUnit k 64 (doutRead k s)

/-- Reads and clears group counters (R8). -/
def chsGcntRead (g : Nat) (s : State) : State :=
  let c := s.chisel g
  (s.setChisel g { c with storeIgn := 0, starts := 0 }).returns (c.storeIgn + 256 * c.starts)

/-- CHS_GCNT_READ: reads and clears group counters (R8). -/
def execChsGcntRead (g : Nat) (s : State) : Result := onUnit g 8 (chsGcntRead g s)

/-- The word of CHS_E_CNT. -/
def ChsRun.cntWord (r : ChsRun) : Nat :=
  r.shiftAbandon + 256 * r.doutLost + 65536 * r.idleFill + 16777216 * r.dataMiss

/-- Reads and clears engine counters (R8). -/
def chsCntRead (k : Nat) (s : State) : State :=
  let r := s.chsEngine k
  (s.setEngine k { r with shiftAbandon := 0, doutLost := 0, idleFill := 0, dataMiss := 0 }).returns r.cntWord

/-- CHS_E_CNT_READ: reads and clears engine counters (R8). -/
def execChsECntRead (k : Nat) (s : State) : Result := onUnit k 64 (chsCntRead k s)

/-- The word of CHS_E_STATUS. -/
def ChsRun.status (r : ChsRun) : Nat :=
  wrap 5 r.pc + bitIf 5 r.run + bitIf 6 (r.hold != .none) + bitIf 7 r.shifting + bitIf 8 r.fault +
    512 * r.din.length + 2048 * r.dout.length + bitIf 13 r.timeout + 16384 * r.bits

/-- A trigger of the group by compare unit `u` of TB0 (R414, R416): values 0 to 4 of TRIG_UNIT never trigger. -/
def ChsGroup.trigger (c : ChsGroup) (u : Nat) : ChsGroup :=
  if c.trigEn ∧ c.trigUnit = u ∧ 5 ≤ u then (if c.trigMode then c.clockRestart c.en else c.startEvent c.en false) else c

/-- The owning Lathe restarted or became unusable: the group's engines stop and keep their stores (R417). -/
def ChsGroup.ownerLost (c : ChsGroup) : ChsGroup := c.stopEngines 255

/-- Window pins named and granted (CHS_E_PINS). -/
def grantedWins (grant wins valid : Nat) : Nat :=
  (List.range 4).foldl (fun v w => if bitAt valid w ∧ bitAt grant (field wins (6 * w) 6) then v + 2 ^ w else v) 0

/-- Enable outputs named and granted (CHS_E_AUX). -/
def grantedEos (grant eos valid : Nat) : Nat :=
  (List.range 2).foldl (fun v w => if bitAt valid w ∧ bitAt grant (64 + field eos (6 * w) 6) then v + 2 ^ w else v) 0

/-- A write of CHS_E_CFG, CHS_E_PINS, CHS_E_AUX or CHS_E_CLK, by its index 0 to 3 (R414: in force at the next start). -/
def ChsRun.configure (r : ChsRun) (grant idx w : Nat) : ChsRun :=
  let c := r.cfg
  { r with cfg := match idx with
    | 0 => { c with startAddr := field w 0 5, msbFirst := bitAt w 5, autofetch := bitAt w 6, autostore := bitAt w 7
                    fillIdle := bitAt w 8, dropNew := bitAt w 9, wlen := field w 10 5, duplexPin := field w 15 2 }
    | 1 => { c with wins := field w 0 24, wValid := grantedWins grant (field w 0 24) (field w 24 4) }
    | 2 => { c with eos := field w 0 12, eoValid := grantedEos grant (field w 0 12) (field w 12 2), eoIdle := field w 14 2
                    idleLvl := field w 16 4, idleOe := field w 20 4 }
    | 3 => { c with incr := field w 0 24 }
    | _ => c }

/-- The words of CHS_E_CFG, CHS_E_PINS, CHS_E_AUX and CHS_E_CLK as written, by index. -/
def ChsEngine.word (c : ChsEngine) (idx : Nat) : Nat :=
  match idx with
  | 0 => c.startAddr + bitIf 5 c.msbFirst + bitIf 6 c.autofetch + bitIf 7 c.autostore + bitIf 8 c.fillIdle +
      bitIf 9 c.dropNew + 1024 * c.wlen + 32768 * c.duplexPin
  | 1 => c.wins + 16777216 * c.wValid
  | 2 => c.eos + 4096 * c.eoValid + 16384 * c.eoIdle + 65536 * c.idleLvl + 1048576 * c.idleOe
  | 3 => c.incr
  | _ => 0

/-- The level of a Chisel-capable pin and whether it is driven: of the engines of its group that drive it, the lowest
numbered prevails (R404). -/
def ChsGroup.pinDrive (c : ChsGroup) (pin : Nat) : Option Bool :=
  (List.range 32).findSome? (fun i =>
    let r := c.engine (i / 4)
    let w := i % 4
    if bitAt r.act.wValid w ∧ r.act.window w = pin ∧ bitAt r.oe w then some (bitAt r.lvl w) else none)

end Sys2Proof.Machine
end

