-- ==== Sys2Proof/Machine/CheckUnits.lean ====
section
/-! DEFINITION. The check units (21_memory_and_check_units, R572 to R579). -/

namespace Sys2Proof.Machine

/-- Width of an algorithm's result in octets (R574); ALG 3 acts as 0. -/
def algWidth (alg : Nat) : Nat := if alg = 2 then 2 else 4

/-- INIT, and XOROUT of the 32-bit algorithms (R574). -/
def algInit (alg : Nat) : Nat := if alg = 2 then 0xFFFF else 0xFFFFFFFF

/-- XOROUT (R574). -/
def algXor (alg : Nat) : Nat := if alg = 2 then 0 else 0xFFFFFFFF

/-- Octets absorbed into r (R574). -/
def absorb (alg r : Nat) (bs : List Byte) : Nat :=
  if alg = 2 then crc16 r bs else if alg = 1 then crcReflected 0xEDB88320 r bs else crcReflected 0x82F63B78 r bs

/-- r at the start of a message (R575). -/
def ChkUnit.startReg (u : ChkUnit) : Nat :=
  if u.cont then u.running
  else if u.foldSrc = 0 then algInit u.alg
  else
    let f := if u.foldSrc = 3 then u.winBase else u.fold
    absorb u.alg (algInit u.alg) (if u.foldMsb then toBE 4 f else toLE 4 f)

/-- An abandoned message (R575). -/
def ChkUnit.abandon (u : ChkUnit) : ChkUnit :=
  { u with busy := false, taken := [], next := 0, abandons := satAdd 255 u.abandons 1 }

/-- The value a message is compared with (R577). -/
def ChkUnit.expect (u : ChkUnit) (bs : List Byte) : Nat :=
  if u.expSrc then
    let tail := bs.drop (bs.length - algWidth u.alg)
    if u.expMsb then ofBE tail else ofLE tail
  else if u.alg = 2 then wrap 16 u.expected else u.expected

/-- The end of a message of octets `bs` whose r is `r`: result, comparison, fold step; and whether it mismatches (R575, R577). -/
def ChkUnit.finish (u : ChkUnit) (r : Nat) (bs : List Byte) : ChkUnit × Bool :=
  let res := r ^^^ algXor u.alg
  let bad := res != u.expect bs
  ({ u with result := res, busy := false, taken := [], next := 0, msgs := wrap 16 (u.msgs + 1)
            mism := if bad then satAdd 255 u.mism 1 else u.mism, mismatch := u.mismatch || bad
            fold := if u.foldSrc = 2 then wrap 32 (u.fold + 1) else u.fold }, bad)

/-- A whole message (R573, R575). -/
def ChkUnit.message (u : ChkUnit) (bs : List Byte) : ChkUnit × Bool :=
  if bs.length < u.ofs + u.trim then (u.abandon, false)
  else
    let body := octets bs u.ofs (bs.length - u.ofs - u.trim)
    let r := absorb u.alg u.startReg body
    (if body.isEmpty then u else { u with running := r }).finish r bs

/-- A mismatch's notice: a receive entry of the owning Lathe, or an interrupt of the Sheaf (R577). -/
def chkNotice (n : Nat) (bad : Bool) (s : State) : State :=
  let u := s.chkUnit n
  if !bad || !u.irqEn then s
  else match u.lathe with
    | some e => s.requestEntry e s.gtc (0x50 + n) u.result
    | none => s.send (.sheafIrq n)

/-- A frame passes a port of the switch or of the fabric: every unit that selects the stream takes it (R573). -/
def chkFrame (kind port : Nat) (fabTx : Bool) (cls : Nat) (bs : List Byte) (s : State) : State :=
  (List.range 16).foldl (fun s n =>
    let u := s.chkUnit n
    if u.en && u.kind == kind && u.port == port && (kind != 3 || u.fabTx == fabTx) && bitAt u.tcMask cls then
      let x := u.message bs
      chkNotice n x.2 (s.setChkUnit n x.1)
    else s) s

/-- A frame that is cut off or withdrawn after it started is abandoned by the units that watch it (R573). -/
def chkCut (kind port : Nat) (fabTx : Bool) (cls : Nat) (s : State) : State :=
  (List.range 16).foldl (fun s n =>
    let u := s.chkUnit n
    if u.en && u.kind == kind && u.port == port && (kind != 3 || u.fabTx == fabTx) && bitAt u.tcMask cls then
      s.setChkUnit n u.abandon
    else s) s

/-- An accepted pool write of a port as one unit of KIND 2 sees it (R576). -/
def ChkUnit.poolWrite (u : ChkUnit) (ofs : Nat) (bs : List Byte) : ChkUnit × Bool :=
  let lo := u.winBase
  let hi := u.winBase + u.winLen
  if ofs + bs.length ≤ lo ∨ hi ≤ ofs then (u, false)
  else
    let u := if u.busy then u else { u with busy := true, next := lo, reg := u.startReg, taken := [] }
    if ofs ≠ u.next then ({ u with orderErr := true }.abandon, false)
    else
      let inWin := bs.take (hi - ofs)
      let at0 := ofs - lo
      -- the octets at message index OFFSET up to LEN - TRIM are absorbed
      let part := (inWin.take (u.winLen - u.trim - at0)).drop (u.ofs - at0)
      let r := absorb u.alg u.reg part
      let u := { u with reg := r, running := if part.isEmpty then u.running else r, next := ofs + inWin.length
                        taken := u.taken ++ inWin }
      if u.next = hi then (if u.winLen < u.ofs + u.trim then (u.abandon, false) else u.finish r u.taken)
      else (u, false)

/-- An accepted write of a pool port passes the units that watch it (R576). -/
def chkPool (port ofs : Nat) (bs : List Byte) (s : State) : State :=
  (List.range 16).foldl (fun s n =>
    let u := s.chkUnit n
    if u.en && u.kind == 2 && u.port == port then
      let x := u.poolWrite ofs bs
      chkNotice n x.2 (s.setChkUnit n x.1)
    else s) s

/-- A write of RUNNING or FOLD: only between messages (R578). -/
def chkRunWrite (n : Nat) (fold : Bool) (w : Nat) (s : State) : State :=
  s.updChkUnit n (fun u => if u.busy then { u with runIgn := true }
    else if fold then { u with fold := w } else { u with running := w })

/-- CHK_RUN_WRITE: writes RUNNING or FOLD between messages, ignored while busy (R578). -/
def execChkRunWrite (n : Nat) (fold : Bool) (w : Word) (s : State) : Result := onUnit n 16 (chkRunWrite n fold w.toNat s)

/-- A read of CHK_CNT returns and clears its RC fields (R8). -/
def chkCntRead (n : Nat) (s : State) : State :=
  let u := s.chkUnit n
  (s.setChkUnit n { u with mism := 0, abandons := 0 }).returns (u.msgs + 65536 * u.mism + 16777216 * u.abandons)

/-- CHK_CNT_READ: reads and clears check unit counters (R8). -/
def execChkCntRead (n : Nat) (s : State) : Result := onUnit n 16 (chkCntRead n s)

/-- A write of CHK_CTL: while EN is set only EN changes, its clearing abandons the message, and EN = 1 with EXP_SRC = 1
needs TRIM at least the result's width (R572, R577, R579; log entry 16). -/
def ChkUnit.control (u : ChkUnit) (w : Nat) : ChkUnit :=
  if u.en then (if bitAt w 0 then u else { (if u.busy then u.abandon else u) with en := false })
  else
    let u := { u with alg := field w 1 2, foldSrc := field w 3 2, foldMsb := bitAt w 5, cont := bitAt w 6
                      expSrc := bitAt w 7, expMsb := bitAt w 8, irqEn := bitAt w 9 }
    { u with en := bitAt w 0 && !(u.expSrc && decide (u.trim < algWidth u.alg)) }

/-- The word of CHK_CTL. -/
def ChkUnit.ctlWord (u : ChkUnit) : Nat :=
  bitIf 0 u.en + 2 * u.alg + 8 * u.foldSrc + bitIf 5 u.foldMsb + bitIf 6 u.cont + bitIf 7 u.expSrc + bitIf 8 u.expMsb +
    bitIf 9 u.irqEn

/-- A register of a unit read by its offset. -/
def ChkUnit.word (u : ChkUnit) (ofs : Nat) : Nat :=
  match ofs with
  | 0x00 => u.ctlWord
  | 0x04 => u.kind + bitIf 2 u.fabTx + 8 * u.port + 256 * u.tcMask + 65536 * u.ofs + 16777216 * u.trim
  | 0x08 => u.winBase
  | 0x0C => u.winLen
  | 0x10 => u.fold
  | 0x14 => u.running
  | 0x18 => u.expected
  | 0x1C => u.result
  | 0x20 => bitIf 0 u.busy + bitIf 1 u.mismatch + bitIf 2 u.orderErr + bitIf 3 u.runIgn
  | _ => 0

/-- A register of a unit written by its offset (R572, R578). -/
def chkWrite (n ofs w : Nat) (s : State) : State :=
  match ofs with
  | 0x00 => s.updChkUnit n (fun u => u.control w)
  | 0x04 => s.updChkUnit n (fun u => if u.en then u else
      { u with kind := field w 0 2, fabTx := bitAt w 2, port := field w 3 5, tcMask := field w 8 8, ofs := field w 16 8
               trim := min 4 (field w 24 3) })
  | 0x08 => s.updChkUnit n (fun u => if u.en then u else { u with winBase := wrap 25 w })
  | 0x0C => s.updChkUnit n (fun u => if u.en then u else { u with winLen := wrap 16 w })
  | 0x10 => chkRunWrite n true w s
  | 0x14 => chkRunWrite n false w s
  | 0x18 => s.updChkUnit n (fun u => { u with expected := w })
  | 0x20 => s.updChkUnit n (fun u => { u with mismatch := u.mismatch && !bitAt w 1, orderErr := u.orderErr && !bitAt w 2
                                              runIgn := u.runIgn && !bitAt w 3 })
  | _ => s

/-- A check unit is lost: its grant ends and it reads as EN = 0 (R601). -/
def chkLost (n : Nat) (s : State) : State := s.updChkUnit n (fun u => { u with en := false, busy := false, lathe := none })

end Sys2Proof.Machine
end

