-- ==== Sys2Proof/Machine/Mailbox.lean ====
section
/-! DEFINITION. Mailboxes, doorbells and locks (10_mailboxes, R301 to R315), and pool ownership as a mailbox word can
change it (R326, R567). The rows that also reach the command interface are in Machine/HostIf.lean. -/

namespace Sys2Proof.Machine

/-- Sheaf cores 0 to 3 (R301). -/
def isSheaf (m : Nat) : Bool := decide (m < 4)

/-- Lathes 0 to 15 (R301). -/
def isLathe (m : Nat) : Bool := decide (0x10 ≤ m) && decide (m < 0x20)

/-- The local masters that have doorbells (R301, R312). -/
def isLocal (m : Nat) : Bool := isSheaf m || isHost m || isLathe m || m == 0x20

/-- Whether an identity belongs to a sender class of R301. -/
def inClass (cls m : Nat) : Bool :=
  (cls == 0x08 && isSheaf m) || (cls == 0x09 && isHost m) || (cls == 0x0A && isLathe m)

/-- Whether a sender field names a class. -/
def isClass (c : Nat) : Bool := c == 0x08 || c == 0x09 || c == 0x0A

/-- The owner of lock `k` (R308). -/
def State.lock (s : State) (k : Nat) : Option Nat := Table.get none s.mbx.locks k

/-- The state with the owner of lock `k` replaced. -/
def State.setLock (s : State) (k : Nat) (o : Option Nat) : State :=
  { s with mbx := { s.mbx with locks := Table.set none s.mbx.locks k o } }

/-- Whether `m` is the bound local sender of a channel: its identity, or for a class the owner of its lock (R304). -/
def State.isSender (s : State) (c : MbxChannel) (m : Nat) : Bool :=
  c.valid && !(m == 0x3F) &&
    (if isClass c.sender then inClass c.sender m && s.lock c.lock == some m else c.sender == m)

/-- Whether `m` is the bound receiver of a channel. -/
def MbxChannel.isReceiver (c : MbxChannel) (m : Nat) : Bool := c.valid && c.receiver == m

/-- An access refused under R307: VIOLATION is set and counted, and a host port's access error too. -/
def State.violation (s : State) (m ch : Nat) : State :=
  (s.updChan ch (fun c => { c with violation := true, violEv := satAdd 255 c.violEv 1 })).accessErr m

/-- One wake event to a receiver; a domain that is off begins to power up (R311). -/
def State.wake (s : State) (m : Nat) : State :=
  let s := s.send (.wake m)
  if s.mbx.asleep.contains m && !s.mbx.waking.contains m then
    { s with mbx := { s.mbx with waking := s.mbx.waking ++ [m] } }
  else s

/-- FULL of a channel has risen: the receiver's doorbell bit and the wake event (R311, R312). -/
def State.fullRose (s : State) (ch : Nat) : State :=
  let c := s.chan ch
  let s := if c.rxDbEn then s.ring c.receiver c.rxDb else s
  if c.rxWake then s.wake c.receiver else s

/-- An ownership write of a bank that is accepted: PENDING is set and the new owner waits (R567). -/
def State.startHandover (s : State) (b dst : Nat) : State :=
  s.updBank b (fun k => { k with pending := true, newOwner := dst })

/-- Whether a master may access a bank now: it is the owner and no handover is pending (R565, R567). -/
def State.owns (s : State) (m b : Nat) : Bool := (s.bank b).owner == m && !(s.bank b).pending

/-- Whether a word is a bank CREDIT word with zero reserved bits (R322, R324). -/
def isBankCredit (w : Nat) : Bool :=
  field w 28 4 == 4 && field w 24 4 == 1 && field w 16 8 == 0 && field w 6 10 == 0

/-- A word stored in an empty channel by its local sender (R304); a bank CREDIT word of a host port makes the ownership
write as it is stored (R326). -/
def State.storeWord (s : State) (m ch : Nat) (w : Word) : State :=
  let b := field w.toNat 0 6
  let hand := isHost m && isBankCredit w.toNat && s.owns m b
  let s := if hand then s.startHandover b 0 else s
  let s := s.updChan ch (fun c =>
    { c with word := w, full := true, fullEv := satAdd 255 c.fullEv 1, writer := m, handed := hand })
  s.fullRose ch

/-- A write of MBX_DATA (R304, R307); a channel number above 63 is a reserved address (R6). -/
def mbxWrite (m ch : Nat) (w : Word) (s : State) : State :=
  if 64 ≤ ch then s
  else
    let c := s.chan ch
    if !s.isSender c m then s.violation m ch
    else if c.full then s.updChan ch (fun c => { c with reject := true, rejEv := satAdd 255 c.rejEv 1 })
    else s.storeWord m ch w

/-- The acknowledgement of a channel's word: FULL clears and the sender's doorbell bit is raised; a class sender's
doorbell is that of the master that wrote the word (R303, R305). -/
def State.acknowledge (s : State) (ch : Nat) : State :=
  let c := s.chan ch
  let s := s.setChan ch { c with full := false }
  if c.txDbEn && !(c.sender == 0x3F) then s.ring (if isClass c.sender then c.writer else c.sender) c.txDb else s

/-- A read of MBX_DATA (R305, R307). -/
def mbxRead (m ch : Nat) (s : State) : State :=
  if 64 ≤ ch then s.returns 0
  else
    let c := s.chan ch
    if !c.isReceiver m then (s.violation m ch).returns 0
    else if c.full then (s.acknowledge ch).returns c.word.toNat
    else s.returns 0

/-- MBX_DATA_WRITE: a local sender writes a channel word (R304). -/
def execMbxDataWrite (m ch : Nat) (w : Word) (s : State) : Result := .next (mbxWrite m ch w s)

/-- A remote word arrives (R306): stored whatever FULL is, unless its node is not the one allowed. -/
def remoteWord (node ch : Nat) (w : Word) (s : State) : State :=
  if 64 ≤ ch then s
  else
    let c := s.chan ch
    if !(c.valid && c.sender == 0x3F) || (c.remoteNode != 0xFF && c.remoteNode != node) then s.violation 0x3F ch
    else if c.full then
      s.setChan ch { c with word := w, lastNode := node, collision := true, collEv := satAdd 255 c.collEv 1,
                            fullEv := satAdd 255 c.fullEv 1, writer := 0x3F }
    else
      (s.setChan ch { c with word := w, lastNode := node, full := true,
                             fullEv := satAdd 255 c.fullEv 1, writer := 0x3F }).fullRose ch

/-- REMOTE_WORD: a remote mailbox word arrives from the fabric (R306). -/
def execRemoteWord (node ch : Nat) (w : Word) (s : State) : Result := .next (remoteWord node ch w s)

/-- RECEIVER_DOMAIN_UP: a woken receiver's power domain is running (R311). -/
def execReceiverDomainUp (m : Nat) (s : State) : Result :=
  .next (if s.mbx.waking.contains m then
    { s with mbx := { s.mbx with asleep := s.mbx.asleep.filter (· != m), waking := s.mbx.waking.filter (· != m) } }
  else s)

/-- A read of MBX_LOCK k (R308): a free lock reads zero and is taken. -/
def lockRead (m k : Nat) (s : State) : State :=
  if 16 ≤ k then s.returns 0
  else match s.lock k with
    | none => (s.setLock k (some m)).returns 0
    | some o => s.returns (64 + o)

/-- MBX_LOCK_READ: a read of a lock acquires it when free (R308). -/
def execMbxLockRead (m k : Nat) (s : State) : Result := .next (lockRead m k s)

/-- A forced release of a lock, with event LOCK_BROKEN (R310). -/
def State.breakLock (s : State) (k : Nat) : State :=
  match s.lock k with
  | none => s
  | some o => (s.setLock k none).event 0 0x8103 (0x3000 + k) [BitVec.ofNat 8 o]

/-- Every lock that an identity owns is freed by force (R310). -/
def State.breakLocksOf (s : State) (m : Nat) : State :=
  (List.range 16).foldl (fun s k => if s.lock k = some m then s.breakLock k else s) s

/-- A write of MBX_LOCK k (R309, R310). -/
def lockWrite (m k : Nat) (s : State) : State :=
  if 16 ≤ k then s
  else match s.lock k with
    | none => if m = 0 then s else s.accessErr m
    | some o => if o = m then s.setLock k none else if m = 0 then s.breakLock k else s.accessErr m

/-- MBX_LOCK_WRITE: a write to a lock frees it, by owner or by force (R309). -/
def execMbxLockWrite (m k : Nat) (_w : Word) (s : State) : Result := .next (lockWrite m k s)

/-- After a write to a doorbell register of the PCIe port that leaves active bits, a further MSI is sent (R313). -/
def State.signalAgain (s : State) (m : Nat) : State :=
  if m = 4 ∧ (s.bells m).active ≠ 0 then s.send .msi else s

/-- A write of MBX_DB_PEND clears the bits written 1 (R312). -/
def dbPendWrite (m : Nat) (w : Word) (s : State) : State :=
  (s.updBells m (fun d => { d with pend := w1c d.pend w.toNat })).signalAgain m

/-- MBX_DB_PEND_WRITE: the receiver clears doorbell bits (R312). -/
def execMbxDbPendWrite (m : Nat) (w : Word) (s : State) : Result := .next (dbPendWrite m w s)

/-- A write of MBX_DB_ENABLE (R313). -/
def dbEnableWrite (m : Nat) (w : Word) (s : State) : State :=
  (s.updBells m (fun d => { d with enable := w.toNat })).signalAgain m

/-- MBX_DB_ENABLE_WRITE: sets doorbell enables and may signal an interrupt (R313). -/
def execMbxDbEnableWrite (m : Nat) (w : Word) (s : State) : Result := .next (dbEnableWrite m w s)

/-- Who may ring which doorbell bit (R314). -/
def mayRing (m target b : Nat) : Bool :=
  if isSheaf m then isLocal target
  else if isHost m then decide (16 ≤ b) && isSheaf target
  else if isLathe m then decide (16 ≤ b) && (isSheaf target || (isLathe target && target != m))
  else if m = 0x20 then decide (16 ≤ b) && isSheaf target
  else false

/-- A write of MBX_DB_RING (R314). -/
def dbRingWrite (m : Nat) (w : Word) (s : State) : State :=
  let t := field w.toNat 0 6
  let b := field w.toNat 8 5
  if mayRing m t b then s.ring t b else s.accessErr m

/-- MBX_DB_RING_WRITE: rings a doorbell bit of another master (R314). -/
def execMbxDbRingWrite (m : Nat) (w : Word) (s : State) : Result := .next (dbRingWrite m w s)

/-- The word of MBX_EVCNT. -/
def MbxChannel.evcnt (c : MbxChannel) : Nat := c.fullEv + 256 * c.collEv + 65536 * c.rejEv + 16777216 * c.violEv

/-- A read of MBX_EVCNT by the sender or the receiver returns and clears (R307, R315, R8). -/
def mbxEvcntRead (m ch : Nat) (s : State) : State :=
  if 64 ≤ ch then s.returns 0
  else
    let c := s.chan ch
    if !(s.isSender c m || c.isReceiver m) then (s.violation m ch).returns 0
    else (s.setChan ch { c with fullEv := 0, collEv := 0, rejEv := 0, violEv := 0 }).returns c.evcnt

/-- MBX_EVCNT_READ: reads and clears a channel's event counters (R315). -/
def execMbxEvcntRead (m ch : Nat) (s : State) : Result := .next (mbxEvcntRead m ch s)

/-- The counters of doorbell bits 4j to 4j + 3 (MBX_DB_EVCNT). -/
def Doorbells.evWord (d : Doorbells) (j : Nat) : Nat :=
  Table.get 0 d.ev (4 * j) + 256 * Table.get 0 d.ev (4 * j + 1) + 65536 * Table.get 0 d.ev (4 * j + 2) +
    16777216 * Table.get 0 d.ev (4 * j + 3)

/-- A read of MBX_DB_EVCNT j returns and clears four counters (R315). -/
def dbEvcntRead (m j : Nat) (s : State) : State :=
  if 8 ≤ j then s.returns 0
  else
    let d := s.bells m
    let ev := (List.range 4).foldl (fun t i => Table.set 0 t (4 * j + i) 0) d.ev
    (s.setBells m { d with ev := ev }).returns (d.evWord j)

/-- MBX_DB_EVCNT_READ: reads and clears doorbell event counters (R315). -/
def execMbxDbEvcntRead (m j : Nat) (s : State) : Result := .next (dbEvcntRead m j s)

/-- A binding word taken into a channel (MBX_BIND). -/
def MbxChannel.bind (c : MbxChannel) (w : Nat) : MbxChannel :=
  { c with sender := field w 0 6, receiver := field w 6 6, remoteNode := field w 12 8, lock := field w 20 4,
           valid := bitAt w 24 }

/-- A write of MBX_BIND by Sheaf core 0 before the lock (R302). -/
def mbxBindWrite (m ch : Nat) (w : Word) (s : State) : State :=
  if m = 0 ∧ ch < 64 ∧ !s.mbx.bindLocked then s.updChan ch (fun c => c.bind w.toNat) else s

/-- MBX_BIND_WRITE: Sheaf core 0 writes a channel binding before the lock (R302). -/
def execMbxBindWrite (m ch : Nat) (w : Word) (s : State) : Result := .next (mbxBindWrite m ch w s)

/-- A write of MBX_CTRL by Sheaf core 0 before the lock (R302). -/
def mbxCtrlWrite (m ch : Nat) (w : Nat) (s : State) : State :=
  if m = 0 ∧ ch < 64 ∧ !s.mbx.bindLocked then
    s.updChan ch (fun c => { c with rxDb := field w 0 5, rxDbEn := bitAt w 5, rxWake := bitAt w 6,
                                    txDb := field w 8 5, txDbEn := bitAt w 13 })
  else s

/-- A write of MBX_BIND_LOCK: bit 0 locks every binding and control until reset (R302). -/
def mbxBindLock (m : Nat) (w : Word) (s : State) : State :=
  if m = 0 ∧ bitAt w.toNat 0 then { s with mbx := { s.mbx with bindLocked := true } } else s

/-- MBX_BIND_LOCK_WRITE: locks every binding and channel control until reset (R302). -/
def execMbxBindLockWrite (m : Nat) (w : Word) (s : State) : Result := .next (mbxBindLock m w s)

/-- The word of MBX_STATUS. -/
def MbxChannel.status (c : MbxChannel) : Nat :=
  bitIf 0 c.full + bitIf 1 c.collision + bitIf 2 c.reject + bitIf 3 c.violation + 256 * c.lastNode +
    65536 * c.sender + 4194304 * c.receiver + bitIf 28 c.valid

/-- The word of MBX_CTRL. -/
def MbxChannel.ctrl (c : MbxChannel) : Nat :=
  c.rxDb + bitIf 5 c.rxDbEn + bitIf 6 c.rxWake + 256 * c.txDb + bitIf 13 c.txDbEn

/-- A write of MBX_STATUS by the sender or the receiver clears the W1C flags written 1 (R307, R5). -/
def mbxStatusWrite (m ch w : Nat) (s : State) : State :=
  if 64 ≤ ch then s
  else
    let c := s.chan ch
    if !(s.isSender c m || c.isReceiver m) then s.violation m ch
    else s.setChan ch { c with collision := c.collision && !bitAt w 1, reject := c.reject && !bitAt w 2,
                               violation := c.violation && !bitAt w 3 }

/-- One channel's binding and controls as the firmware writes them in stage 2: sender, receiver, lock, doorbell bit at
FULL, and doorbell bit and enable at the acknowledgement (R303, R674). Every channel's RX_WAKE is 1. -/
def bindRow (ch : Nat) : Nat × Nat × Nat × Nat × Nat × Bool :=
  if ch < 8 then (4, 0, 0, 0, 8 + ch, true)
  else if ch < 16 then (0, 4, 0, ch - 8, 3, true)
  else if ch < 20 then (5, 0, 0, 1, 8 + (ch - 16), true)
  else if ch < 24 then (0, 5, 0, ch - 20, 4, true)
  else if ch < 40 then (0x10 + (ch - 24), 1, 0, 0, 1, true)
  else if ch < 56 then (1, 0x10 + (ch - 40), 0, 0, 1, true)
  else if ch = 56 then (0x20, 2, 0, 0, 1, true)
  else if ch = 57 then (2, 0x20, 0, 0, 1, true)
  else if ch < 62 then (0x3F, 3, 0, 0, 0, false)
  else if ch = 62 then (0x0A, 2, 0, 2, 2, true)
  else (0x09, 0, 1, 2, 16, true)

/-- The firmware binds a channel (R303, R674). -/
def bindChannel (s : State) (ch : Nat) : State :=
  let r := bindRow ch
  s.updChan ch (fun c => { c with sender := r.1, receiver := r.2.1, lock := r.2.2.1, remoteNode := 0xFF, valid := true,
                                  rxDb := r.2.2.2.1, rxDbEn := true, rxWake := true, txDb := r.2.2.2.2.1,
                                  txDbEn := r.2.2.2.2.2 })

/-- The firmware writes every binding and locks them (R302, R303). -/
def bindAll (s : State) : State :=
  let s := (List.range 64).foldl bindChannel s
  { s with mbx := { s.mbx with bindLocked := true } }

/-! ### Pool ownership (R567) -/

/-- A write of POOL_OWNER (R567): a Sheaf core or the Winnower for a bank it owns, or Sheaf core 0 with FORCE; any other
is ignored and counted in REFUSED. -/
def poolOwnerWrite (m b w : Nat) (s : State) : State :=
  if 64 ≤ b then s
  else if (m = 0 ∧ bitAt w 7) ∨ ((isSheaf m ∨ m = 0x20) ∧ s.owns m b) then s.startHandover b (field w 0 6)
  else s.updBank b (fun k => { k with refused := satAdd 255 k.refused 1 })

/-- The last issued access of a bank under handover completes: the owner changes and PENDING clears (R567). -/
def handoverDone (b : Nat) (s : State) : State :=
  s.updBank b (fun k => if k.pending then { k with owner := k.newOwner, pending := false, newOwner := 0 } else k)

/-- A bank forced to a new owner at once by Sheaf core 0, its issued accesses complete (R567). -/
def State.giveBank (s : State) (b dst : Nat) : State := handoverDone b (s.startHandover b dst)

/-- POOL_OWNER_WRITE: an ownership write sets PENDING for a bank (R567). -/
def execPoolOwnerWrite (m b : Nat) (w : Word) (s : State) : Result := .next (poolOwnerWrite m b w.toNat s)

/-- POOL_HANDOVER_COMPLETE: the last issued access completes and the new owner takes over (R567). -/
def execPoolHandoverComplete (b : Nat) (s : State) : Result := .next (handoverDone b s)

end Sys2Proof.Machine
end

