-- ==== Sys2Proof/Machine/Memory.lean ====
section
/-! DEFINITION. The bank pool as memory (21_memory_and_check_units, R563 to R570): octets by pool offset, ownership,
uncorrectable words. -/

namespace Sys2Proof.Machine

/-- One octet of the pool. -/
def State.poolByte (s : State) (a : Nat) : Byte := Table.get 0 s.pool.mem a

/-- The canonical form of the pool's contents: octets by strictly rising offset, none listed that is zero (log entry 4). -/
abbrev Memory.wf (s : State) : Prop := Table.wf 0 s.pool.mem = true

/-- `n` octets of the pool from an offset, whoever owns them. -/
def State.memGet (s : State) (ofs n : Nat) : List Byte := (List.range n).map (fun i => s.poolByte (ofs + i))

/-- Octets put into a memory table from an address upward. -/
def putOctets (t : Table Byte) (ofs : Nat) : List Byte → Table Byte
  | [] => t
  | b :: bs => putOctets (Table.set 0 t ofs b) (ofs + 1) bs

/-- Octets put into the pool, whoever owns them. -/
def State.memPut (s : State) (ofs : Nat) (bs : List Byte) : State :=
  { s with pool := { s.pool with mem := putOctets s.pool.mem ofs bs } }

/-- The aligned 8-octet words a stretch touches (R569). -/
def wordsOf (ofs n : Nat) : List Nat :=
  if n = 0 then [] else (List.range ((ofs + n - 1) / 8 - ofs / 8 + 1)).map (fun i => ofs / 8 + i)

/-- The banks a stretch touches. -/
def banksOf (ofs n : Nat) : List Nat :=
  if n = 0 then [ofs / 0x80000]
  else if ofs / 0x80000 = (ofs + n - 1) / 0x80000 then [ofs / 0x80000] else [ofs / 0x80000, (ofs + n - 1) / 0x80000]

/-- The master identity a pool port acts for (R564); `act` names the core behind the copy engine or the Lathe whose
descriptor the switch serves. -/
def portMaster (port act : Nat) : Nat :=
  if port < 4 then port else if port = 4 then act % 4 else if port = 5 then 4 else if port = 6 then 5
  else if port = 7 then 0x10 + act % 16 else if port < 24 then 0x10 + (port - 8) else 0x20

/-- Whether an access of a master is accepted: it owns every bank touched, none of them in handover (R565, R567, R569). -/
def State.poolOk (s : State) (m ofs n : Nat) : Bool :=
  decide (ofs + n ≤ 64 * 0x80000) && (banksOf ofs n).all (fun b => s.owns m b)

/-- A refused access counts in REFUSED of every bank touched that the master does not own (R565; log entry 17). -/
def State.poolRefuse (s : State) (m ofs n : Nat) : State :=
  (banksOf ofs n).foldl (fun s b => if b < 64 ∧ !s.owns m b then s.updBank b (fun k => { k with refused := satAdd 255 k.refused 1 }) else s) s

/-- An uncorrectable error found in a word: UE, POOL_ERR and a journal record (R570). -/
def State.uncorrectable (s : State) (w : Nat) : State :=
  let b := w / 0x10000
  let s := s.updBank b (fun k => { k with ue := satAdd 255 k.ue 1 })
  let s := { s with pool := { s.pool with errWord := w % 0x10000, errBank := b, errValid := true } }
  s.memoryRecord 0 3 0 w 1

/-- What an access ends with. -/
inductive PoolOutcome where
  | ok (bs : List Byte)
  | refused
  | bad
deriving DecidableEq, Repr

/-- A read by a master (R565, R570): the octets, a refusal, or an uncorrectable word. -/
def State.poolRead (s : State) (m ofs n : Nat) : State × PoolOutcome :=
  if !s.poolOk m ofs n then (s.poolRefuse m ofs n, .refused)
  else match (wordsOf ofs n).find? (fun w => s.pool.ueWords.contains w) with
    | some w => (s.uncorrectable w, .bad)
    | none => (s, .ok (s.memGet ofs n))

/-- Whether a stretch covers the whole of an aligned word. -/
def covers (ofs n w : Nat) : Bool := decide (ofs ≤ 8 * w) && decide (8 * w + 8 ≤ ofs + n)

/-- Octets stored into a table, but not into an uncorrectable word that the write covers only in part (R570). -/
def storeOctets (bad : List Nat) (lo n : Nat) (t : Table Byte) (ofs : Nat) : List Byte → Table Byte
  | [] => t
  | b :: bs =>
    storeOctets bad lo n (if bad.contains (ofs / 8) && !covers lo n (ofs / 8) then t else Table.set 0 t ofs b) (ofs + 1) bs

/-- Octets land in the pool; a whole aligned word written clears its error (R570). -/
def State.poolStore (s : State) (ofs : Nat) (bs : List Byte) : State :=
  { s with pool := { s.pool with
      mem := storeOctets s.pool.ueWords ofs bs.length s.pool.mem ofs bs
      ueWords := s.pool.ueWords.filter (fun w => !covers ofs bs.length w) } }

/-- A write by a master through a port (R565, R570, R576). -/
def State.poolWrite (s : State) (port m ofs : Nat) (bs : List Byte) : State × PoolOutcome :=
  if !s.poolOk m ofs bs.length then (s.poolRefuse m ofs bs.length, .refused)
  else (chkPool port ofs bs (s.poolStore ofs bs), .ok [])

/-- A word read as corrected: CE counts (R570). -/
def State.corrected (s : State) (ofs : Nat) : State :=
  s.updBank (ofs / 0x80000) (fun k => { k with ce := satAdd 255 k.ce 1 })

/-- A word that two writes of one owner met in one cycle: the higher-numbered port's is discarded (R568). -/
def State.writeLost (s : State) (ofs : Nat) : State :=
  s.updBank (ofs / 0x80000) (fun k => { k with wrLost := satAdd 255 k.wrLost 1 })

/-- A word in the pool becomes uncorrectable. -/
def State.spoil (s : State) (w : Nat) : State :=
  if s.pool.ueWords.contains w then s else { s with pool := { s.pool with ueWords := s.pool.ueWords ++ [w] } }

/-- The word of POOL_OWNER. -/
def BankReg.word (k : BankReg) : Nat := k.owner + bitIf 6 k.pending

/-- A read of POOL_ECC returns and clears the bank's counts (R8). -/
def poolEccRead (b : Nat) (s : State) : State :=
  let k := s.bank b
  (s.setBank b { k with ce := 0, ue := 0, wrLost := 0, refused := 0 }).returns
    (k.ce + 256 * k.ue + 65536 * k.wrLost + 16777216 * k.refused)

/-- POOL_ECC_READ: reads and clears a bank's event counters (R8). -/
def execPoolEccRead (b : Nat) (s : State) : Result := onUnit b 64 (poolEccRead b s)

end Sys2Proof.Machine
end

