-- ==== Sys2Proof/Machine/LatheCore.lean ====
section
/-! DEFINITION. The Lathe engines at work (12_lathe_engines; entries, exceptions and restarts of 13_lathe_instruction_set):
levels, phases, receive entries, posts, telemetry, start, swap, migration and restart. -/

namespace Sys2Proof.Machine

/-! ### Banks and levels -/

/-- The live image (R354). -/
def Lathe.image (l : Lathe) : Image := if l.live = 0 then l.bank0 else l.bank1

/-- The shadow image (R354). -/
def Lathe.shadow (l : Lathe) : Image := if l.live = 0 then l.bank1 else l.bank0

/-- The engine with its shadow bank replaced. -/
def Lathe.setShadow (l : Lathe) (i : Image) : Lathe := if l.live = 0 then { l with bank1 := i } else { l with bank0 := i }

/-- The engine with its live bank replaced. -/
def Lathe.setImage (l : Lathe) (i : Image) : Lathe := if l.live = 0 then { l with bank0 := i } else { l with bank1 := i }

/-- The pool offset of a data half of engine `e` (R354). -/
def dataHalf (e half : Nat) : Nat := (32 + e) * 0x80000 + half * 0x40000

/-- A level's state (R381): 0 phase, 1 receive, 2 background. -/
def Lathe.level (l : Lathe) (v : Nat) : LthLevel := if v = 0 then l.phase else if v = 1 then l.rx else l.bg

/-- The engine with a level replaced. -/
def Lathe.setLevel (l : Lathe) (v : Nat) (x : LthLevel) : Lathe :=
  if v = 0 then { l with phase := x } else if v = 1 then { l with rx := x } else { l with bg := x }

/-- The level whose instructions execute now: the highest with work in progress (R364, R400). -/
def Lathe.running (l : Lathe) : Option Nat :=
  if l.phase.active then some 0 else if l.rx.active then some 1 else if l.bg.active && !l.bg.idle then some 2 else none

/-- A register of a level. -/
def LthLevel.reg (l : LthLevel) (k : Nat) : Word := Table.get 0 l.g k

/-- The level with a register written. -/
def LthLevel.setReg (l : LthLevel) (k : Nat) (v : Word) : LthLevel := { l with g := Table.set 0 l.g k v }

/-- An entry to a level (R382). -/
def LthLevel.enter (l : LthLevel) (ip : Nat) (g0 g1 : Word) : LthLevel :=
  let x := ((l.setReg 0 g0).setReg 1 g1).setReg 12 l.sptop
  { x with z := false, n := false, c := false, v := false, pend := none, active := true, idle := false, ip := BitVec.ofNat 32 ip }

/-- A level discarded with all its registers zero (R371, R379, R382). -/
def LthLevel.cleared (l : LthLevel) : LthLevel := { l with g := [], pend := none, active := false, idle := false }

/-- A pending load lands (R389, R391). -/
def LthLevel.land (l : LthLevel) : LthLevel :=
  match l.pend with
  | none => l
  | some (k, v) => { l.setReg k v with pend := none }

/-! ### Restart and loss (R379, R380) -/

/-- Every context of a reservation closes (R372, R379). -/
def closeCtxs (is : List Nat) (s : State) : State := is.foldl (fun s i => s.updCtx i (fun c => { c with kind := 0 })) s

/-- The Chisel groups and CAN FD controllers of an engine that restarts or is lost (R417, R463). -/
def ownerLost (e : Nat) (s : State) : State :=
  let s := (List.range 8).foldl (fun s g => if (s.chisel g).owner = some e then s.updChisel g (fun c => c.ownerLost) else s) s
  (List.range 4).foldl (fun s k => if (s.can k).owner = some e then s.updCan k Can.ownerLost else s) s

/-- An engine restarts its image (R379): the third restart within 10 s dooms it from the next edge. -/
def restartLathe (e : Nat) (s : State) : State :=
  let l := s.lathe e
  if !l.loaded || l.unusable then s
  else
    let s := closeCtxs l.ctxs s
    let s := s.memPut (dataHalf e l.live + 8192) l.image.init
    let times := l.restartTimes.filter (fun t => decide (s.gtc < t + 10000000000)) ++ [s.gtc]
    let s := s.setLathe e { l with
      phase := l.phase.cleared.enter l.image.entryInit 0 0, rx := l.rx.cleared, bg := l.bg.cleared
      restarting := true, initing := false, migrating := false, initDone := false, toMigrate := []
      due := l.due ++ l.heldRx, heldRx := [], restartTimes := times, restarts := wrap 32 (l.restarts + 1) }
    let s := ownerLost e s
    if 3 ≤ times.length then s.doom (4 + e) 3 else s

/-- LATHE_RESTART: an engine restarts its image after a fatal error (R379). -/
def execLatheRestart (e : Nat) (s : State) : Result := onUnit e 16 (restartLathe e s)

/-- BACKGROUND_WATCHDOG: a background level without boundary for 10 ms restarts the engine (R379). -/
def execBackgroundWatchdog (e : Nat) (s : State) : Result :=
  onUnit e 16 (if (s.lathe e).bg.active then restartLathe e s else s)

/-! ### Exceptions (R401) -/

/-- An exception of a level: the pending load lands, then the handler is entered, or the engine restarts (R391, R401). -/
def State.exception (s : State) (e v cause trap : Nat) (inBlk : Bool) (addr data next : Word) : State :=
  let l := s.lathe e
  let x := (l.level v).land
  if x.xen then
    s.setLathe e { l.setLevel v { x with xcause := cause, trapNo := trap, inBlk := inBlk, xaddr := addr, xdata := data
                                         xnext := next, xen := false, ip := BitVec.ofNat 32 x.handler } with
      exceptions := wrap 32 (l.exceptions + 1) }
  else restartLathe e (s.setLathe e { l.setLevel v x with exceptions := wrap 32 (l.exceptions + 1) })

/-- An access that R356 refuses (cause 3) is counted in ACCESS_FAULT. -/
def State.accessFault (s : State) (e : Nat) : State :=
  s.updLathe e (fun l => { l with accessFault := wrap 32 (l.accessFault + 1) })

/-! ### Phases (R365) -/

/-- Held frames are delivered and the background level starts (R371, R372). -/
def endMigration (e : Nat) (s : State) : State :=
  s.updLathe e (fun l => { l with
    migrating := false, initDone := false, toMigrate := []
    due := l.heldRx.foldl (fun q x => insertEntry x q) l.due, heldRx := []
    bg := l.bg.enter l.image.entryBg 0 0 })

/-- MIGRATION_END: migration ends, held frames are delivered and background starts (R372). -/
def execMigrationEnd (e : Nat) (s : State) : Result :=
  let l := s.lathe e
  onUnit e 16 (if l.migrating && l.initDone && l.toMigrate.isEmpty && !l.phase.active then endMigration e s else s)

/-- What the migration table says of a context: the first entry that matches, CLOSE when none does (R372). -/
def migAction (i : Image) (c : FlowCtx) : Nat :=
  match i.mig.find? (fun m => m.1 == c.format && m.2.1 == c.kind) with
  | some m => m.2.2
  | none => 2

/-- The contexts migrate in ascending index up to the next CONVERT, which calls ENTRY_MIGRATE (R372). -/
def migrateFrom (e : Nat) : List Nat → State → State
  | [], s => s.updLathe e (fun l => { l with toMigrate := [] })
  | i :: is, s =>
    let l := s.lathe e
    let c := s.ctx i
    if c.kind = 0 then migrateFrom e is s
    else if migAction l.image c = 1 then
      let x := (l.phase.enter l.image.entryMigrate 0 (BitVec.ofNat 32 (0x50000000 + i * 0x100))).setReg 2 0x10040000
      s.setLathe e { l with phase := x, toMigrate := is }
    else if migAction l.image c = 0 then migrateFrom e is s
    else migrateFrom e is (s.setCtx i { c with kind := 0 })

/-- The END of phase-level work: initialisation goes on to migration or the background level, a migration call to the next
context (R370 to R372, R379, R395). -/
def endPhaseWork (e : Nat) (s : State) : State :=
  let s := s.updLathe e (fun l => { l with phase := { l.phase with active := false }, bg := { l.bg with idle := false } })
  let l := s.lathe e
  if l.migrating then migrateFrom e l.toMigrate (s.setLathe e { l with initDone := true })
  else if l.initing || l.restarting then
    s.setLathe e { l with initing := false, restarting := false, bg := l.bg.enter l.image.entryBg 0 0 }
  else s

/-- A phase event (R365): unfinished phase work is abandoned and counted. At the output seal an unfinished migration closes
what is left (R373). A phase entry ends an IDLE when it ends. -/
def phaseEvent (e code : Nat) (s : State) : State :=
  let l := s.lathe e
  if !l.loaded || l.unusable || l.restarting || l.initing then s
  else
    let s := if l.migrating && code == 1 then
        let done := l.initDone && l.toMigrate.isEmpty && !l.phase.active
        let s := if done then s else (closeCtxs l.toMigrate s).updLathe e (fun l =>
          { l with migOverrun := wrap 32 (l.migOverrun + 1), phase := { l.phase with active := false } })
        endMigration e s
      else s
    let l := s.lathe e
    if l.migrating then s
    else s.setLathe e { l with
      phaseOverrun := if l.phase.active then wrap 32 (l.phaseOverrun + 1) else l.phaseOverrun
      phase := l.phase.enter l.image.entryPhase (BitVec.ofNat 32 code) 0, phaseCode := code }

/-- A phase event of every engine. -/
def phaseEvents (code : Nat) (s : State) : State := (List.range 16).foldl (fun s e => phaseEvent e code s) s

/-- GUARD_BAND_START: the guard band opens and the Lathes enter phase 2 (R365). -/
def execGuardBandStart (s : State) : Result :=
  let s := s.advanceTo (s.cell.edge + guardOfs s.cell.tickSel)
  .next (phaseEvents 2 { s with cell := { s.cell with guard := true } })

/-! ### Receive entries (R364) -/

/-- The earliest due entry enters the receive level when it is free (R364, R382). -/
def enterReceive (e : Nat) (s : State) : State :=
  let l := s.lathe e
  match l.due with
  | [] => s
  | x :: rest =>
    if !l.loaded || l.unusable || l.migrating || l.restarting || l.initing || l.rx.active then s
    else
      let s := s.setLathe e { l with
        due := rest, rxEvents := wrap 32 (l.rxEvents + 1)
        rx := l.rx.enter l.image.entryRx (BitVec.ofNat 32 x.reason) (BitVec.ofNat 32 x.arg) }
      if 0x40 ≤ x.reason ∧ x.reason < 0x48 then s.updChisel (x.reason - 0x40) (fun g => { g with entryDue := false }) else s

/-- LATHE_RECEIVE_ENTRY: a Lathe enters its receive level for a frame, message or request (R364). -/
def execLatheReceiveEntry (e : Nat) (s : State) : Result := onUnit e 16 (enterReceive e s)

/-! ### Posts (R366) -/

/-- The slots of the networks of engine `e` by index: its networks ascending, each with its input slots (R466, R468). -/
def State.inSlot (s : State) (e k : Nat) : Option NetSlot :=
  match (List.range 32).find? (fun n =>
      (s.net n).defined && (s.net n).engine == e && decide ((s.net n).inFirst ≤ k) && decide (k < (s.net n).inFirst + (s.net n).ins.length)) with
  | some n => (s.net n).ins[k - (s.net n).inFirst]?
  | none => none

/-- Octets of the input staging of an engine. -/
def Lathe.stagedOctets (l : Lathe) (ofs n : Nat) : List Byte := (List.range n).map (fun i => Table.get 0 l.staging (ofs + i))

/-- A write into input staging: every slot it touches counts as written since its last post (R366). -/
def stageWrite (e ofs : Nat) (bs : List Byte) (s : State) : State :=
  let l := s.lathe e
  let l := { l with staging := putOctets l.staging ofs bs }
  let slots := (List.range 128).foldl (fun t k =>
    match s.inSlot e k with
    | some d => if ofs < d.ofs + d.len ∧ d.ofs < ofs + bs.length then Table.upd ({} : InSlot) t k (fun i => { i with fresh := true }) else t
    | none => t) l.slots
  s.setLathe e { l with slots := slots }

/-- The full stamp whose low 32 bits a post gives, nearest to the present GTC (LTH_POST_STAMP: compared by signed
difference). -/
def fullStamp (gtc low : Nat) : Nat := ((gtc : Int) + toS 32 (low + 2 ^ 32 - wrap 32 gtc)).toNat

/-- A qualifying post meets what the slot already holds for that tick: the later stamp is kept (R366, R16). -/
def keepLater (old : Option (Nat × List Byte)) (new : Nat × List Byte) : Option (Nat × List Byte) × Nat :=
  match old with
  | none => (some new, 0)
  | some o => if o.1 ≤ new.1 then (some new, 1) else (some o, 1)

/-- A slot whose qualifying post stands in the snapshot (R16, R366). -/
def InSlot.snapped (i : InSlot) : InSlot :=
  match i.posted with
  | some p => { i with snap := p.2, snapStamp := p.1, stale := false, age := 0 }
  | none => i

/-- A write of LTH_POST (R366): until the post deadline it still joins the snapshot of the present tick. -/
def postWrite (e w : Nat) (s : State) : State :=
  let k := field w 0 12
  match s.inSlot e k with
  | none => s
  | some d =>
    let l := s.lathe e
    let i : InSlot := Table.get {} l.slots k
    let put (l : Lathe) (i : InSlot) : State := s.setLathe e { l with slots := Table.set {} l.slots k { i with fresh := false } }
    -- a post without staging writes keeps the slot's previous data
    let data := if i.fresh then l.stagedOctets d.ofs d.len else i.staged
    let l := if i.fresh then l else { l with postEmpty := wrap 32 (l.postEmpty + 1) }
    let i := { i with staged := data }
    let st := fullStamp s.gtc l.postStamp
    if st < s.cell.edge then
      if s.gtc ≤ s.cell.edge + postDeadline s.cell.tickSel then
        let x := keepLater i.posted (st, data)
        put { l with overwritten := wrap 32 (l.overwritten + x.2) } { i with posted := x.1 }.snapped
      else put { l with postLate := wrap 32 (l.postLate + 1) } i
    else
      let x := keepLater i.later (st, data)
      put { l with overwritten := wrap 32 (l.overwritten + x.2) } { i with later := x.1 }

/-- LTH_POST_WRITE: posts a staged input slot into the snapshot (R366). -/
def execLthPostWrite (e : Nat) (w : Word) (s : State) : Result := onUnit e 16 (postWrite e w.toNat s)

/-- The input seal of an edge (R16, R366): a post held for it enters the snapshot; a slot without one is stale until a post qualifies. -/
def InSlot.seal (edge : Nat) (i : InSlot) : InSlot :=
  match i.later with
  | some p =>
    if p.1 < edge then { i with posted := some p, later := none }.snapped
    else { i with posted := none, stale := true, age := i.age + 1 }
  | none => { i with posted := none, stale := true, age := i.age + 1 }

/-! ### Telemetry (R376) -/

/-- A telemetry record as its 32 octets: the GTC, the source number and the image number the engine adds, and the 20 data
octets (R376; log entry 18). -/
def TelemRec.octets (r : TelemRec) : List Byte := toLE 8 r.gtc ++ toLE 2 r.source ++ toLE 2 r.image ++ r.data

/-- A write of LTH_TELEM (R376): at most 16 records a tick, the ring holds 128, and at most 8 journal copies a second. -/
def telemWrite (e w : Nat) (s : State) : State :=
  let l := s.lathe e
  if 16 ≤ l.telemTick ∨ 128 ≤ l.ring.length then
    s.setLathe e { l with telemDrop := wrap 32 (l.telemDrop + 1) }
  else
    let r : TelemRec := { gtc := s.gtc, source := s.source (4 + e), kind := wrap 16 w, image := wrap 16 l.image.id, data := l.telemData }
    let recent := l.telemJrnl.filter (fun t => decide (s.gtc < t + 1000000000))
    let copy := bitAt w 15 && decide (recent.length < 8)
    let s := s.setLathe e { l with ring := l.ring ++ [r], telemTick := l.telemTick + 1
                                   telemJrnl := if copy then recent ++ [s.gtc] else recent }
    let s := s.stream 1 2 r.gtc r.octets
    if copy then (s.record (4 + e) 0x0040 (toLE 2 r.kind ++ r.data.take 14)).record (4 + e) 0x0002 (r.data.drop 14) else s

/-- LTH_TELEM_WRITE: emits a telemetry record into the engine ring (R376). -/
def execLthTelemWrite (e : Nat) (w : Word) (s : State) : Result := onUnit e 16 (telemWrite e w.toNat s)

/-! ### Start and swap (R370, R371) -/

/-- An engine without a running image starts the one loaded for it: the banks change roles and ENTRY_INIT is entered (R370). -/
def initStart (e : Nat) (s : State) : State :=
  let l := s.lathe e
  if !l.startDue || l.unusable then s
  else
    s.setLathe e { l with
      live := 1 - l.live, liveEntry := l.shadowEntry, shadowLoaded := false, loaded := true, startDue := false, initing := true
      phase := l.phase.cleared.enter l.shadow.entryInit 0 0, rx := l.rx.cleared, bg := l.bg.cleared, slots := [] }

/-- LATHE_INIT_START: an engine without image runs its loaded image from the edge after load (R370). -/
def execLatheInitStart (e : Nat) (s : State) : Result := onUnit e 16 (initStart e s)

/-- At the post deadline of tick s the banks swap and ENTRY_INIT starts; locks of the engine are freed (R310, R371). -/
def swapExecute (e : Nat) (s : State) : State :=
  let l := s.lathe e
  match l.swapAt with
  | none => s
  | some g =>
    let s := s.advanceTo (g + postDeadline s.cell.tickSel)
    let s := s.setLathe e { l with
      live := 1 - l.live, liveEntry := l.shadowEntry, shadowEntry := l.liveEntry, shadowLoaded := false, swapAt := none
      oldHalf := true, migrating := true, initDone := false, toMigrate := l.ctxs
      phase := l.phase.cleared.enter l.shadow.entryInit 0 0, rx := l.rx.cleared, bg := l.bg.cleared }
    (s.breakLocksOf (0x10 + e)).event (4 + e) 0x8801 (0x3000 + e) (toLE 8 (g / s.tickLen))

/-- LATHE_SWAP_EXECUTE: at the post deadline of tick s the banks swap and init starts (R371). -/
def execLatheSwapExecute (e : Nat) (s : State) : Result := onUnit e 16 (swapExecute e s)

end Sys2Proof.Machine
end

