-- ==== Sys2Proof/Machine/Assembly.lean ====
section
/-! DEFINITION. Output assembly and the output seal (R18, R38, R39, R153, R163 to R165, R170, R469) and the PWM pins of the
direct-drive units (R161, R164). -/

namespace Sys2Proof.Machine

/-! ### The voltage stage (R163) -/

/-- The snapshot code of a converter input (R167). -/
def State.adcCode (s : State) (i : Nat) : Nat := if 64 ≤ i then 0 else Table.get 0 (s.adc (i / 16)).codes (i % 16)

/-- VBUS of an axis from the tick snapshot (R163). -/
def State.vbusOf (s : State) (x : Axis) : Fl := (Fl.ofInt (s.adcCode x.dd.vbIn)).mul (Fl.ofBits x.dd.vbScale)

/-- A measured phase current (R169). -/
def State.current (s : State) (x : Axis) (i : Nat) : Fl :=
  if i = 0xFF then {} else (Fl.ofInt ((s.adcCode i : Int) - x.dd.iZero)).mul (Fl.ofBits x.dd.iScale)

/-- The measured current magnitude: the greatest of the phase currents (R169, R170; log entry 36). -/
def State.currentPeak (s : State) (x : Axis) : Fl :=
  let ia := s.current x x.dd.iaIn
  let ib := s.current x x.dd.ibIn
  let top (a b : Fl) : Fl := if a.abs.lt b.abs then b.abs else a.abs
  if x.dd.comm = 2 then ia.abs else if x.dd.comm = 1 then top ia ib else top (top ia ib) (ia.neg.sub ib)

/-- Division rounded half to even of a fraction of a turn to 32 bits (R163). -/
def turn32 (n d : Int) : Nat := if d = 0 then 0 else (divRNE (n % d * 2 ^ 32) d % 2 ^ 32).toNat

/-- The voltage vector of R163 for an axis's output record. -/
def Axis.voltage (x : Axis) (ns : Nat) (vbus : Fl) : Axis :=
  let d := x.dd
  let f := Fl.ofBits
  let tick := (Fl.ofInt ns).div (Fl.ofInt 1000000000)
  let i0 := ((Fl.ofInt x.loop.outTorque).mul (f d.iRated)).div (Fl.ofInt 100000)
  let beyond := (f d.iLimit).lt i0.abs
  let i := if beyond then (if i0.m < 0 then (f d.iLimit).neg else f d.iLimit) else i0
  let we := ((((Fl.ofInt 2).mul Fl.pi).mul (Fl.ofInt d.polePairs)).mul (Fl.ofFix x.loop.outVel 16)).div ((Fl.ofFix d.incPerMrev 16).mul tick)
  let t := (Fl.ofInt x.divisor).mul tick
  let vq := (((f d.rPhase).mul i).add ((f d.ke).mul we)).add (((f d.lPhase).mul (i.sub (f x.iPrev))).div t)
  let vd : Fl := if d.comm = 2 then {} else (we.neg.mul (f d.lPhase)).mul i
  let g := (Fl.ofInt 1).div (Fl.ofInt (if d.comm = 0 then 3 else if d.comm = 1 then 2 else 1)).sqrt
  let vlim := ((f d.modMax).mul vbus).mul g
  let mag := ((vd.mul vd).add (vq.mul vq)).sqrt
  let sat := vlim.lt mag
  let k := vlim.div mag
  let dth := clampI (-(2 ^ 31)) (2 ^ 31 - 1) ((((we.mul tick).div ((Fl.ofInt 2).mul Fl.pi)).mul (Fl.round 1 32)).toFix 0)
  let v : DdVec := { vd := (if sat then vd.mul k else vd).bits, vq := (if sat then vq.mul k else vq).bits
                     th0 := turn32 ((x.loop.fbPos - d.commOffset.getD 0) * d.polePairs) d.incPerMrev, dth := dth, vbus := vbus.bits }
  { x with iPrev := i.bits, ddNext := some v, ilim := beyond, vsat := sat
           ddIlim := if beyond then wrap 32 (x.ddIlim + 1) else x.ddIlim, ddVsat := if sat then wrap 32 (x.ddVsat + 1) else x.ddVsat }

/-- The high counts of a unit's pins in period `k` of length `pk` (R164); none for an idle pin. -/
def DdVec.highs (v : DdVec) (comm n k pk : Nat) : List (Option Nat) :=
  let f := Fl.ofBits
  let half := Fl.round 1 (-1)
  let th := toU 32 ((v.th0 : Int) + divRNE (v.dth * (2 * n + 2 * k + 1)) (2 * n))
  let ang := (Fl.round (2 * th) (-32)).mul Fl.pi
  let al := ((f v.vd).mul ang.cos).sub ((f v.vq).mul ang.sin)
  let be := ((f v.vd).mul ang.sin).add ((f v.vq).mul ang.cos)
  let r3 := (Fl.ofInt 3).sqrt.mul half
  let vs : List (Option Fl) := match comm with
    | 0 => [some al, some ((al.neg.mul half).add (be.mul r3)), some ((al.neg.mul half).sub (be.mul r3))]
    | 1 => [some al, some be, some {}]
    | _ => [some ((f v.vq).mul half), some ((f v.vq).mul half).neg, none]
  let ds := vs.filterMap id
  let mx := ds.foldl (fun a b => if a.lt b then b else a) (ds.headD {})
  let mn := ds.foldl (fun a b => if b.lt a then b else a) (ds.headD {})
  let m := (mx.add mn).mul half
  vs.map (fun x => x.map (fun y =>
    (clampI 0 pk (((half.add ((y.sub m).div (f v.vbus))).mul (Fl.ofInt pk)).toFix 0)).toNat))

/-- The pins of a driving unit over one tick (R161, R164). -/
def Axis.pwm (x : Axis) (n ns first : Nat) : List (List (Option Nat)) :=
  let c := pwmCounts ns
  (List.range n).map (fun k => x.ddVec.highs x.dd.comm n (first + k) (if k + 1 = n then c / n + c % n else c / n))

/-- The direct-drive stage of one axis (R163, R165, R170): its limits first, then the voltage vector. -/
def ddStage (a : Nat) (s : State) : State :=
  let x := s.axis a
  if !x.binding.isDd ∨ x.mode = 0 ∨ x.ddNext.isSome then s
  else
    let vbus := s.vbusOf x
    let limit := (Fl.round 5 (-2)).mul (Fl.ofBits x.dd.iLimit)
    let n := if limit.lt (s.currentPeak x) then x.overCount + 1 else 0
    let s := s.setAxis a { (x.voltage s.tickLen vbus) with overCount := n }
    let lostIn := [x.dd.iaIn, x.dd.ibIn, x.dd.vbIn].any (fun i => i != 0xFF && s.lost (81 + i / 16))
    let s := if 4 ≤ n ∨ lostIn then s.axisFault a St.ddCurrentLimit else s
    if vbus.lt (Fl.ofBits x.dd.vbusMin) then s.axisFault a St.ddUndervolt
    else if (Fl.ofBits x.dd.vbusMax).lt vbus then s.axisFault a St.ddOvervolt else s

/-- OUTPUT_ASSEMBLY: output assembly starts and takes the finished update records (R18, R163); a shadow whose converter codes have not come
uses its own, which counts (R277). -/
def execOutputAssembly (s : State) : Result :=
  let late := s.takesFwd && match s.pair.fwd with
    | some f => f.tick != s.cell.tick
    | none => true
  let codes := ((List.range 4).map (fun c => popCount 16 (s.adc c).inputEn)).foldl (· + ·) 0
  let s := if late then { s with pair := { s.pair with fwdLate := wrap 32 (s.pair.fwdLate + codes) } } else s
  let s := s.advanceTo (s.cell.edge + phaseNs s.cell.tickSel 15)
  let done := (s.dueAxes s.cell.tick).filter (fun a => !(s.axis a).due)
  .next (done.foldl (fun s a => ddStage a s) { s with cell := { s.cell with assembling := true } })

/-! ### The output seal (R38, R153, R469) -/

/-- An update not finished at the seal (R38, R39, R153): the previous record again, the entry of the tick consumed. -/
def overrun (a : Nat) (s : State) : State :=
  let x := s.axis a
  if !x.due then s
  else
    let q := match x.queue.published with
      | e :: _ => if !x.taken ∧ e.stamp = wrap 32 s.cell.tick then x.queue.consume e else x.queue
      | [] => x.queue
    let n := min 255 (x.loop.ovrConsec + 1)
    let y := { x with due := false, queue := q, back := if q.k = x.queue.k then x.back else x.back.drop 1, overruns := wrap 32 (x.overruns + 1)
                      loop := { x.loop with ovrConsec := n, outFlags := setBit x.loop.outFlags 1 } }
    let s := s.setAxis a y
    let s := { s with cell := { s.cell with load := { s.cell.load with overruns := wrap 32 (s.cell.load.overruns + 1) } } }
    if n = 3 then s.axisFault a St.overrunFault else s

/-- An axis's record as it leaves: FAULT set and ENABLE clear while a fault is in force (R39, R142). -/
def sealFlags (a : Nat) (s : State) : State :=
  s.updAxis a (fun x => { x with taken := false, faulted := false
                                 loop := if x.fault.isSome then { x.loop with outFlags := setBit (clrBit x.loop.outFlags 0) 7 } else x.loop })

/-- The 32 octets of an output record (R469). -/
def LoopRec.record (r : LoopRec) (tick : Nat) : List Byte :=
  toLEs 8 r.outPos ++ toLEs 4 r.outVel ++ toLEs 4 r.outTorque ++ toLE 2 r.outFlags ++ toLE 2 0 ++ toLE 4 tick ++ List.replicate 8 0

/-- The record of a slot bound to no axis (R469). -/
def emptyRecord (tick : Nat) : List Byte := List.replicate 20 0 ++ toLE 4 tick ++ List.replicate 8 0

/-- The axis bound to an output slot. -/
def State.slotAxis (s : State) (n k : Nat) : Option Nat :=
  (s.motion.axes.find? (fun p => match p.2.binding with
    | .net m o _ => m == n && o == k
    | _ => false)).map Prod.fst

/-- The output records of a network written for its engine (R469). -/
def writeRecords (n : Nat) (s : State) : State :=
  let net := s.net n
  (List.range net.outs.length).foldl (fun s k =>
    let bs := match s.slotAxis n k with
      | some a => (s.axis a).loop.record s.cell.tick
      | none => emptyRecord s.cell.tick
    s.updLathe net.engine (fun l => { l with outRecs := putAt l.outRecs (32 * (net.outFirst + k)) bs })) s
where
  putAt (t : Table Byte) (ofs : Nat) (bs : List Byte) : Table Byte :=
    (bs.zipIdx).foldl (fun t p => Table.set 0 t (ofs + p.2) p.1) t

/-- The generators of an arm's queue line up again with its entries once every joint's entry has been consumed (R29). -/
def syncBack (n : Nat) (s : State) : State :=
  s.updArm n (fun r => { r with back := r.back.drop (r.back.length - (s.ownQueue (1000 + n)).entries.length) })

/-- The output seal (R18, R38, R153, R163, R164, R469): late updates join, unfinished ones are overruns, records are written and
the consumption credits return; a shadow's direct-drive pins stay idle (R173). -/
def outputSeal (s : State) : State :=
  let s := s.advanceTo (s.cell.edge + sealOfs s.cell.tickSel)
  let due := s.dueAxes s.cell.tick
  let s := due.foldl (fun s a => overrun a s) s
  let s := due.foldl (fun s a => ddStage a s) s
  let s := due.foldl (fun s a => sealFlags a s) s
  let s := (List.range 32).foldl (fun s n => if (s.net n).defined then writeRecords n s else s) s
  let s := (List.range 16).foldl (fun s n => if (s.arm n).defined then syncBack n s else s) s
  let s := (s.motion.axes.map Prod.fst).foldl (fun s a => s.updAxis a (fun x => { x with sealedLoop := x.loop })) s
  { s with cell := { s.cell with assembling := false, sealed := true } }

/-- The tick edge at the direct-drive units (R164, R173): loaded vectors take effect; a unit that was not refreshed in a tick in
which it was due goes idle. -/
def ddEdge (a : Nat) (s : State) : State :=
  let x := s.axis a
  if !x.binding.isDd then s
  else
    let live := x.mode != 0 && x.fault.isNone && !s.isShadow && !s.pair.silent
    let y := match x.ddNext with
      | some v => { x with ddVec := v, ddNext := none, driving := live }
      | none => if x.align.isSome then x else { x with driving := x.driving && live && !x.dueAt (s.cell.tick - 1) }
    let first := if x.ddNext.isSome then 0 else s.motion.pwmN
    let s := s.setAxis a y
    if y.driving then s.send (.pwm (x.binding.unit) (y.pwm s.motion.pwmN s.tickLen first)) else s

end Sys2Proof.Machine
end

