-- ==== Sys2Proof/Machine/AxisMotion.lean ====
section
/-! DEFINITION. Motion commands and events of axes (R89 to R102, R121 to R124, R145, R151, R166, R171, R172, R178, R185 to
R195, R349, R350, R642, R643). -/

namespace Sys2Proof.Machine

/-! ### AXIS.SET_MODE -/

/-- Whether an axis has the gains a mode needs (R145). -/
def Axis.loopSet (x : Axis) (m : Nat) : Bool :=
  !((closesPosition m || m == 3) && (x.coef.kp.m == 0 || x.coef.kvp.m == 0)) && !(m == 2 && x.coef.kvp.m == 0)

/-- A homing record's contents: what must match at an enable (R180), and FB_OFFSET (log entry 31). -/
def Axis.homingRecord (x : Axis) : List Byte :=
  let b : List Byte := match x.binding with
    | .none => toLE 1 0 ++ List.replicate 6 0
    | .net n o i => toLE 1 1 ++ toLE 2 n ++ toLE 2 o ++ toLE 2 i
    | .dd u n i => toLE 1 2 ++ toLE 2 u ++ toLE 2 n ++ toLE 2 i
    | .virtual => toLE 1 3 ++ List.replicate 6 0
  b ++ toLE 1 x.fbWidth ++ toLE 1 (bitIf 0 x.fbSigned) ++ toLE 1 (bitIf 0 x.abs) ++ toLEs 8 x.fbOffset

/-- Whether the journal holds a matching homing record (R180): everything but the offset equals what is in force. -/
def State.homingMatch (s : State) (ax : Nat) : Bool :=
  let r := s.retained 2 ax
  r.valid && (r.body.take 10 == (s.axis ax).homingRecord.take 10)

/-- An axis enabled from DISABLED, or changed between modes (R151, R171, R673). -/
def enterMode (ax m : Nat) (s : State) : State :=
  let x := s.axis ax
  if x.mode = 0 then
    let brake := x.binding.isDd && x.dd.brakePair != 0xFF
    let ref := if x.abs && s.homingMatch ax then true else x.refValid && !(x.abs && !s.homingMatch ax)
    let ofs := if x.abs && s.homingMatch ax then sAt (s.retained 2 ax).body 10 8 else x.fbOffset
    let s := s.setAxis ax { x with
      mode := m, loop := x.loop.initFor 0 m, queue := { x.queue with last := none, heldPos := none }, refValid := ref, fbOffset := ofs
      driving := x.binding.isDd, brakeReq := brake
      brakeUntil := if brake then some (s.cell.tick + 1 + x.dd.brkOpen) else none }
    if brake then { s with glume := { s.glume with release := if s.glume.release.contains ax then s.glume.release else s.glume.release ++ [ax] } } else s
  else s.setAxis ax { x with mode := m, loop := x.loop.initFor x.mode m, jogUntil := none }

/-- An axis leaves into DISABLED (R151), its brake request and its pins with it. -/
def leaveToDisabled (ax : Nat) (s : State) : State :=
  let s := match s.groupOf ax with
    | some n =>
      let drop (m : Motion) : Motion := { m with tracks := m.tracks.filter (fun t => t.axis != ax) }
      s.setGen (1000 + n) (drop (s.gen (1000 + n))) ((s.back (1000 + n)).map drop)
    | none => s
  let s := s.updAxis ax (fun x => { x.disabled with brakeReq := false })
  { s with glume := { s.glume with release := s.glume.release.filter (· != ax) } }

/-- AXIS.SET_MODE (R44, R145, R151, R165, R171, R172, R191, R194, R642). -/
def runAxisSetMode (h : Hdr) (a : List Byte) (s : State) : State × Reply :=
  let ax := uAt a 0 2
  let m := uAt a 4 1
  let x := s.axis ax
  let joint := (s.groupOf ax).isSome
  let moving := !s.atRest ax
  let brake := x.binding.isDd && x.dd.brakePair != 0xFF
  let isDd := x.binding.isDd
  let s' := if m = x.mode then s
    else if m = 0 then
      if brake then
        let s := s.updAxis ax (fun x => { x with disableAt := some (s.cell.tick + x.dd.brkClose), brakeReq := false })
        { s with glume := { s.glume with release := s.glume.release.filter (· != ax) } }
      else leaveToDisabled ax s
    else enterMode ax m s
  tested s [badLen a 8, badSubject a 0 512, badAt 4 (!([0, 1, 2, 4].contains m)), badZeros a 5 3,
      badAt 4 (m == 4 && x.binding == .virtual), shadowed h s,
      badState (m != 0 && !([3, 4, 5].contains s.cell.state || (s.cell.state == 7 && s.inRun ax))), badState (m == 0 && s.cell.state == 8),
      badState (x.mode == 5), badState (m != 0 && x.binding == Binding.none), badState (joint && (m == 2 || m == 4)),
      badState (x.mode == 0 && m != 0 && (s.cell.role == 3 || !s.stoOn ax)),
      (m != x.mode && !x.loopSet m, St.loopUnset, 0),
      (m != 0 && isDd && (s.motion.pwmN == 0 || x.dd.incPerMrev == 0 || x.dd.vbScale == 0 || x.dd.drvEnPin == 0xFF), St.loopUnset, 0),
      (m != 0 && isDd && x.dd.commOffset.isNone, St.ddNoAlign, 0),
      (m != x.mode && x.mode == 6 && moving, St.axisMoving, 0),
      (m == 0 && x.mode != 0 && joint && !((s.groupOf ax).map s.armStill).getD true, St.armMoving, 0),
      (m == 0 && x.mode != 0 && brake && !x.still, St.axisMoving, 0),
      (!s'.fitsBudget, St.budgetExceeded, 0)]
    (okReply s')

/-- AXIS_SET_MODE: changes an axis's mode (R151). -/
def execAxisSetMode (h : Hdr) (a : List Byte) (s : State) : Result := commitHost 0x0406 runAxisSetMode h a s

/-! ### Moves -/

/-- What bars every motion command of an axis (R72, R184, R642, R643): a joint or carrier, a mode without a profile of its
own, a fault, a zero velocity limit. The modes are POSITION, VELOCITY and TORQUE_PASS (DEDUCED, log entry 32). -/
def motionTests (s : State) (ax : Nat) : List Test :=
  let x := s.axis ax
  [badState (s.groupOf ax).isSome, badState (!([1, 2, 4].contains x.mode) || x.fault.isSome), (x.lim.velMax == 0, St.limitsUnset, 0)]

/-- AXIS.MOVE (R88 to R92, R94, R96, R97, R182, R349). -/
def runAxisMove (h : Hdr) (a : List Byte) (s : State) : State × Reply :=
  let ax := uAt a 0 2
  let x := s.axis ax
  let append := uAt a 4 1 == 1
  let sp := speedAt a 6
  let tg := sAt a 8 8
  let p := s.planPos ax
  let want := unwrap x.modulo (uAt a 5 1) p tg
  let goal := x.softTarget want
  let clip := goal != want
  let ls : ListSeg := { targets := [tg], modDir := uAt a 5 1, speed := sp }
  let note (s : State) : State := if clip then s.event (30 + s.mandrelOf ax) 0x8402 ax (toLEs 8 want) else s
  let s' := if append ∨ s.brakeWait ax then
      s.updGen ax (fun m => { m with list := (if append then m.list else []) ++ [ls] })
    else planTo ax goal clip (x.lim.plan s.tickLen sp) (note s)
  tested s ([badLen a 16, badSubject a 0 512, badAt 4 (decide (1 < uAt a 4 1)), badAt 5 (decide (2 < uAt a 5 1)),
      badAt 6 (decide (0x8000 < uAt a 6 2)), badAt 8 (x.modulo != 0 && !(decide (0 ≤ tg) && decide (tg < (x.modulo : Int) * 2 ^ 16))),
      shadowed h s, moveCell s (s.inRun ax)] ++ motionTests s ax ++
      [hwTest s ax (goal - p).sign, (s.outward ax (goal - p).sign, St.limitActive, 0),
       (append && decide (16 ≤ x.gen.list.length), St.queueFull, 0)])
    (okReply s')

/-- AXIS_MOVE: moves an axis to a target (R88). -/
def execAxisMove (h : Hdr) (a : List Byte) (s : State) : Result := commitHost 0x0407 runAxisMove h a s

/-- AXIS.MOVE_VEL (R90, R91, R349): it acts as REPLACE. -/
def runAxisMoveVel (h : Hdr) (a : List Byte) (s : State) : State × Reply :=
  let ax := uAt a 0 2
  let x := s.axis ax
  let v := sAt a 4 8
  tested s ([badLen a 12, badSubject a 0 512, badAt 4 (decide (x.lim.velMax < v.natAbs) && x.lim.velMax != 0), shadowed h s,
      moveCell s (s.inRun ax)] ++ motionTests s ax ++ [hwTest s ax v.sign, (s.outward ax v.sign, St.limitActive, 0)])
    (okReply (planSpeed ax v s))

/-- AXIS_MOVE_VEL: runs an axis at a velocity (R90). -/
def execAxisMoveVel (h : Hdr) (a : List Byte) (s : State) : Result := commitHost 0x0408 runAxisMoveVel h a s

/-! ### Hold, resume, stop (R98 to R102, R191, R194, R643) -/

/-- AXIS.HOLD (R98, R99, R102, R643): on a joint outside HOMING and JOG it acts as ARM.HOLD. -/
def runAxisHold (h : Hdr) (a : List Byte) (s : State) : State × Reply :=
  let ax := uAt a 0 2
  let x := s.axis ax
  let r := holdOwner (s.ownerOf ax) (uAt a 4 4) s
  tested s [badLen a 8, badSubject a 0 512, badAt 4 (decide (60000000 < uAt a 4 4)), shadowed h s, holdCell s (s.inRun ax) false,
      badState (x.mode == 0), (x.mode == 3, St.following, 0)]
    (if r.2 then warnReply r.1 St.holdKept 0 else okReply r.1)

/-- AXIS_HOLD: holds an axis on its path (R98). -/
def execAxisHold (h : Hdr) (a : List Byte) (s : State) : Result := commitHost 0x0409 runAxisHold h a s

/-- AXIS.RESUME (R100, R102). -/
def runAxisResume (h : Hdr) (a : List Byte) (s : State) : State × Reply :=
  let ax := uAt a 0 2
  let o := s.ownerOf ax
  tested s [badLen a 4, badSubject a 0 512, shadowed h s, holdCell s (s.inRun ax) true, badState ((s.axis ax).mode == 0),
      ((s.axis ax).mode == 3, St.following, 0), (!s.canResume o, St.notHeld, 0)]
    (okReply (resumeOwner o s))

/-- AXIS_RESUME: resumes a held axis (R100). -/
def execAxisResume (h : Hdr) (a : List Byte) (s : State) : Result := commitHost 0x040A runAxisResume h a s

/-- AXIS.STOP (R101, R102, R191, R194): it ends homing with HOME_ABORTED and a jog. -/
def stopAxis (ax : Nat) (s : State) : State :=
  let s := s.endHoming ax St.homeAborted
  (stopOwner (s.ownerOf ax) s).updAxis ax (fun x => { x with jogUntil := none })

/-- AXIS.STOP. -/
def runAxisStop (h : Hdr) (a : List Byte) (s : State) : State × Reply :=
  let ax := uAt a 0 2
  tested s [badLen a 4, badSubject a 0 512, shadowed h s, holdCell s (s.inRun ax) false, badState ((s.axis ax).mode == 0)]
    (okReply (stopAxis ax s))

/-- AXIS_STOP: stops an axis and discards its path (R101). -/
def execAxisStop (h : Hdr) (a : List Byte) (s : State) : Result := commitHost 0x040B runAxisStop h a s

/-! ### Gearing and cams (R121 to R123) -/

/-- Whether following `m` would close a cycle back to `ax` (R123). -/
def State.closesCycle (s : State) (ax : Nat) : Nat → Nat → Bool
  | 0, _ => false
  | n + 1, m => m == ax || match (s.axis m).gen.follow with
    | some f => f.node == 0xFF && s.closesCycle ax n f.master
    | none => false

/-- The tests of a coupling command on its follower and master. -/
def followTests (s : State) (ax node m : Nat) : List Test :=
  let x := s.axis ax
  let n := if node = s.cell.node ∧ s.cell.nodeValid then 0xFF else node
  motionTests' s ax ++ [badState (n == 0xFF && (s.axis m).mode == 0), (!x.loopSet 3, St.loopUnset, 0), hwTest s ax 0,
    (n == 0xFF && s.closesCycle ax 512 m, St.gearCycle, 0)]
where
  motionTests' (s : State) (ax : Nat) : List Test :=
    let x := s.axis ax
    [badState (!([1, 2, 3, 4].contains x.mode) || x.fault.isSome), (x.lim.velMax == 0, St.limitsUnset, 0)]

/-- The master's position at the commit stamp (R121), or the newest one held. -/
def State.masterNow (s : State) (f : Follow) (ax : Nat) : Int :=
  match s.masterAt f ax s.cell.tick with
  | some p => p
  | none =>
    if f.node = 0xFF then (((s.axis f.master).queue.published.head?.or (s.axis f.master).queue.last).map (fun e => e.pos)).getD (s.axis f.master).loop.fbPos
    else ((s.axis ax).remote.getLast?.map (fun r => r.2.1)).getD 0

/-- A follower engaged (R121, R122, R123): FOLLOW mode, its entries computed from the master's from C on. -/
def engage (ax : Nat) (f : Follow) (s : State) : State :=
  let s := adoptAll ax s
  let x := s.axis ax
  let f := { f with pm0 := s.masterNow f ax, ps0 := s.planPos ax }
  let s := fromC ax (fun m => { m with list := [], held := false, stopped := false, hold := {}, discard := false, tracks := m.tracks.map (fun t => { t with segs := [] }) }) s
  let prev := ((s.axis ax).queue.published.getLast?.map (fun e => e.pos)).getD f.ps0
  let next := ((s.masterAt f ax (s.nextStamp ax)).map (s.followPos f)).getD prev
  let s := s.updGen ax (fun m => { m with follow := some { f with prev := prev, next := next } })
  s.updAxis ax (fun y => { y with mode := 3, loop := y.loop.initFor x.mode 3 })

/-- AXIS.GEAR (R121, R123). -/
def runAxisGear (h : Hdr) (a : List Byte) (s : State) : State × Reply :=
  let ax := uAt a 0 2
  let node := uAt a 4 1
  let m := uAt a 8 2
  let e := uAt a 20 8
  let n := if node = s.cell.node ∧ s.cell.nodeValid then 0xFF else node
  let f : Follow := { node := n, master := m, num := sAt a 12 4, den := uAt a 16 4, engage := e }
  let fast := n == 0xFF && decide (65536 < (((s.axis m).queue.published.head?.or (s.axis m).queue.last).map (fun q => q.vel.natAbs)).getD 0)
  tested s ([badLen a 28, badSubject a 0 512, badAt 0 (s.groupOf ax).isSome, badAt 4 (node != 0xFF && decide (251 < node)), badZeros a 5 3,
      badSubject a 8 512, badAt 16 (uAt a 16 4 == 0), badAt 20 (decide (2 ^ 63 ≤ e)), shadowed h s, moveCell s (s.inRun ax)] ++
      followTests s ax node m ++ [(e == 0 && fast, St.gearStep, 0)])
    (okReply (engage ax f s))

/-- AXIS_GEAR: couples an axis to a master by a ratio (R121). -/
def execAxisGear (h : Hdr) (a : List Byte) (s : State) : Result := commitHost 0x040C runAxisGear h a s

/-- AXIS.CAM (R122, R123). -/
def runAxisCam (h : Hdr) (a : List Byte) (s : State) : State × Reply :=
  let ax := uAt a 0 2
  let tb := uAt a 4 1
  let node := uAt a 6 1
  let m := uAt a 8 2
  let n := if node = s.cell.node ∧ s.cell.nodeValid then 0xFF else node
  let f : Follow := { node := n, master := m, cam := some tb, periodic := uAt a 5 1 == 1, mOfs := sAt a 12 8, fOfs := sAt a 20 8 }
  tested s ([badLen a 28, badSubject a 0 512, badAt 0 (s.groupOf ax).isSome, badAt 4 (decide (63 < tb) || (s.cam tb).points == []),
      badAt 5 (decide (1 < uAt a 5 1)), badAt 6 (node != 0xFF && decide (251 < node)), badZeros a 7 1, badSubject a 8 512, shadowed h s,
      moveCell s (s.inRun ax)] ++ followTests s ax node m)
    (okReply (engage ax f s))

/-- AXIS_CAM: couples an axis to a master by a cam table (R122). -/
def execAxisCam (h : Hdr) (a : List Byte) (s : State) : Result := commitHost 0x040E runAxisCam h a s

/-! ### AXIS.HOME (R185 to R191) -/

/-- The homing parameters of an AXIS.HOME (R185). -/
def homingOf (a : List Byte) : Homing :=
  { method := uAt a 4 1, dir := uAt a 5 1, searchVel := uAt a 6 8, creepVel := uAt a 14 8, searchMax := uAt a 22 8, homePos := sAt a 30 8
    moveAfter := sAt a 38 8, capPin := uAt a 46 1, indexWin := uAt a 47 8, fbDelay := sAt a 55 4, hsTorque := uAt a 59 4
    hsFollow := uAt a 63 8, hsTicks := uAt a 71 2 }

/-- The first phase of a homing procedure from its commit (R186). -/
def beginHoming (ax : Nat) (h : Homing) (s : State) : State :=
  let x := s.axis ax
  let h := { h with since := s.gtc, oldTorque := x.lim.torqueMax, oldFollow := x.lim.followMax }
  let lim := if h.method = 5 then { x.lim with torqueMax := h.hsTorque, followMax := h.hsFollow } else x.lim
  let s := s.setAxis ax { x with mode := 5, refValid := false, homing := some h, lim := lim, status := 0 }
  let s := if h.method = 1 ∨ h.method = 3 ∨ h.method = 4 then s.updCap h.capPin (fun c => { c with homing := some ax }) else s
  let on := if h.method ≤ 1 then x.swHome.state == some true && !(s.gpio x.swHome.pin).faulty else s.limitOn ax (h.dir == 0)
  match h.method with
  | 0 | 1 | 2 | 3 => if on then startPhase ax 4 (-h.sign) h.creepVel s else startPhase ax 1 h.sign h.searchVel s
  | 4 | 5 => startPhase ax 4 h.sign h.creepVel s
  | _ => s.updAxis ax (fun y => { y with homeState := 6, homing := some { h with home := some x.loop.fbPos } })

/-- AXIS.HOME (R185, R189, R642). Fields that a method does not use are not tested (DEDUCED, log entry 33). -/
def runAxisHome (hd : Hdr) (a : List Byte) (s : State) : State × Reply :=
  let ax := uAt a 0 2
  let x := s.axis ax
  let h := homingOf a
  let joint := s.groupOf ax
  let moves := decide (h.method ≤ 5)
  let index := h.method == 1 || h.method == 3 || h.method == 4
  let limPin := if h.dir = 0 then x.swNeg.pin else x.swPos.pin
  let inRange (v : Int) : Bool := decide (-(2 ^ 63 : Int) ≤ v) && decide (v < 2 ^ 63)
  let others := match joint with
    | some n => (s.arm n).axes.any (fun b => b != ax && !(s.axis b).still)
    | none => false
  tested s [badLen a 73, badSubject a 0 512, badAt 4 (decide (7 < h.method)), badAt 5 (decide (1 < h.dir)),
      badAt 6 (moves && h.method != 4 && h.method != 5 && (decide (h.searchVel < h.creepVel) || decide (x.lim.velMax < h.searchVel))),
      badAt 14 (moves && (h.creepVel == 0 || decide (x.lim.velMax < h.creepVel))), badAt 22 (moves && h.searchMax == 0),
      badAt 30 (!inRange h.homePos), badAt 38 (!inRange h.moveAfter), badAt 46 (index && decide (7 < h.capPin)),
      badAt 47 (index && h.indexWin == 0), badAt 55 (decide (s.tickLen < h.fbDelay.natAbs)),
      badAt 59 (h.method == 5 && (h.hsTorque == 0 || decide (x.lim.torqueMax < h.hsTorque))), badAt 63 (h.method == 5 && h.hsFollow == 0),
      badAt 71 (h.method == 5 && (h.hsTicks == 0 || decide (4096 < h.hsTicks))),
      badAt 38 (h.method == 5 && decide (0 ≤ h.moveAfter * h.sign)), badAt 4 (h.method == 6 && !x.abs),
      badAt 4 (x.binding == .virtual && h.method != 7),
      badAt 4 ((decide (h.method ≤ 1) && x.swHome.pin == 0xFF) || ((h.method == 2 || h.method == 3) && limPin == 0xFF)),
      badAt 46 (index && (s.cap h.capPin).edge == 0), shadowed hd s, homeCell s (s.inRun ax),
      (x.mode == 3, St.following, 0), badState (x.mode != 1 || x.fault.isSome),
      badState ((joint.map (fun n => (s.arm n).mode != 0)).getD false), (moves && x.lim.velMax == 0, St.limitsUnset, 0),
      (!s.atRest ax, St.axisMoving, 0), (others, St.armMoving, 0), (s.followers ax != [], St.homeHasFollowers, 0),
      (index && ((s.cap h.capPin).homing.map (fun b => b != ax)).getD false, St.homeCaptureBusy, 0)]
    (okReply (beginHoming ax h s))

/-- AXIS_HOME: starts a homing procedure (R185). -/
def execAxisHome (h : Hdr) (a : List Byte) (s : State) : Result := commitHost 0x040F runAxisHome h a s

/-! ### AXIS.JOG (R193, R194) -/

/-- A jog speed held to its fraction of VEL_MAX (R193). -/
def Axis.jogLimit (x : Axis) : Nat := x.lim.velMax * (if x.refValid then x.jogFrac else x.jogFracNoref) / 2 ^ 15

/-- A jog of one axis put into force (R193, R194). -/
def jogAxis (ax : Nat) (v step : Int) (keep : Nat) (s : State) : State :=
  let x := s.axis ax
  let s := if x.mode = 6 then s else enterMode ax 6 s
  if step = 0 then (planSpeed ax v s).updAxis ax (fun x => { x with jogUntil := some (s.cell.tick + keep) })
  else
    let base := match (s.gen (s.ownerOf ax)).tracks.find? (fun t => t.axis == ax) with
      | some { goal := some g, .. } => g
      | _ => s.planPos ax
    let l := x.lim.plan s.tickLen 0x8000
    let want := base + step
    let goal := x.softTarget want
    let s := if goal = want then s else s.event (30 + s.mandrelOf ax) 0x8402 ax (toLEs 8 want)
    (planTo ax goal (goal != want) { l with v := perTick v.natAbs s.tickLen 1 0x8000 } s).updAxis ax (fun x => { x with jogUntil := none })

/-- The states in which an axis may be jogged (R193, R642). -/
def jogTests (s : State) (ax : Nat) (dir : Int) : List Test :=
  let x := s.axis ax
  [badState (!(x.mode == 1 || x.mode == 6) || x.fault.isSome), badState (((s.groupOf ax).map (fun n => (s.arm n).mode != 0)).getD false),
   (x.lim.velMax == 0, St.limitsUnset, 0), (!x.loopSet 6, St.loopUnset, 0), (x.mode == 1 && !s.atRest ax, St.axisMoving, 0),
   (dir != 0 && s.limitBars ax dir, St.hwLimitActive, 0), (s.outward ax dir, St.limitActive, 0)]

/-- KEEPALIVE of a jog: 0 stands for the default of 3200 ticks (R193). -/
def keepalive (n : Nat) : Nat := if n = 0 then 3200 else n

/-- AXIS.JOG (R193, R194). -/
def runAxisJog (h : Hdr) (a : List Byte) (s : State) : State × Reply :=
  let ax := uAt a 0 2
  let v := sAt a 4 8
  let step := sAt a 12 8
  let x := s.axis ax
  let lim := x.jogLimit
  let clamped := decide (lim < v.natAbs)
  let v' : Int := if clamped then v.sign * lim else v
  let s' := jogAxis ax v' step (keepalive (uAt a 20 2)) s
  tested s ([badLen a 24, badSubject a 0 512, badAt 20 (decide (16000 < uAt a 20 2)), badZeros a 22 2, shadowed h s, homeCell s (s.inRun ax)] ++
      jogTests s ax (if step = 0 then v.sign else step.sign))
    (if clamped then warnReply s' St.jogClamped 0 else okReply s')

/-- AXIS_JOG: jogs an axis (R193). -/
def execAxisJog (h : Hdr) (a : List Byte) (s : State) : Result := commitHost 0x0410 runAxisJog h a s

/-! ### AXIS.DD_ALIGN (R166) -/

/-- AXIS.DD_ALIGN (R166): it completes at DD_ALIGN_COMPLETE. -/
def runAxisDdAlign (h : Hdr) (a : List Byte) (s : State) : State × Reply :=
  let ax := uAt a 0 2
  let x := s.axis ax
  let i := Fl.ofBits (uAt a 4 4)
  let brake := x.dd.brakePair != 0xFF
  let v : DdVec := { vd := ((Fl.ofBits x.dd.rPhase).mul i).bits, vbus := x.ddVec.vbus }
  let s' := s.setAxis ax { x with align := some (uAt a 4 4, s.cell.tick + uAt a 8 2), ddVec := v, driving := true, brakeReq := brake }
  let s' := if brake then { s' with glume := { s'.glume with release := s'.glume.release.filter (· != ax) ++ [ax] } } else s'
  tested s [badLen a 12, badSubject a 0 512, badFloat a 4, badAt 4 (!(Fl.ofInt 0).le i || !i.le (Fl.ofBits x.dd.iLimit)),
      badAt 8 (uAt a 8 2 == 0), badZeros a 10 2, shadowed h s, homeCell s (s.inRun ax), badState (!x.binding.isDd || x.mode != 0 || x.align.isSome),
      (((s.armOf ax).map (fun n => !s.armStill n)).getD false, St.armMoving, 0)]
    (s', { later := true })

/-- AXIS_DD_ALIGN: aligns the commutation of a direct-drive axis (R166). -/
def execAxisDdAlign (h : Hdr) (a : List Byte) (s : State) : Result := commitHost 0x0415 runAxisDdAlign h a s

/-! ### Events -/

/-- SWITCH_CHATTER: a chatter window's edge sum exceeds CHAT_N and the pin is marked faulty (R178). -/
def execSwitchChatter (pin sum : Nat) (s : State) : Result :=
  let named := (s.motion.axes.filter (fun q => [q.2.swHome.pin, q.2.swNeg.pin, q.2.swPos.pin].contains pin)).map Prod.fst
  let s := (s.updGpio pin (fun g => { g with faulty := true, quiet := false, sum := sum })).event 0 0x8406 (0x3000 + pin) (toLE 4 sum)
  onUnit pin 128 (named.foldl (fun s ax => wiringFault ax s) s)

/-- HOMING_SHIFT: once the axis stands after the home point, the shift is applied at the next edge (R190). -/
def execHomingShift (a : Nat) (s : State) : Result :=
  let x := s.axis a
  onUnit a 512 <| match x.homing with
  | some { home := some p, homePos := hp, moveAfter := after, capPin := cp, method := me, .. } =>
    if x.homeState ≠ 6 ∨ !s.atRest a then s
    else
      let d := hp - p
      let move (m : Motion) : Motion := { m with tracks := m.tracks.map (fun t => if t.axis = a then { t with x := t.x + d * 2 ^ 32 } else t) }
      let e (q : QEntry) : QEntry := { q with pos := q.pos + d }
      let o := s.ownerOf a
      let s := s.setAxis a { x with
        fbOffset := x.fbOffset + d, refValid := true
        loop := { x.loop with fbPos := x.loop.fbPos + d, fbPosPrev := x.loop.fbPosPrev + d, fbReal := x.loop.fbReal + d }
        queue := { x.queue with entries := x.queue.entries.map e, last := x.queue.last.map e, heldPos := x.queue.heldPos.map (· + d) } }
      let s := s.setGen o (move (s.gen o)) ((s.back o).map move)
      let s := s.updCap cp (fun c => if c.homing = some a then { c with homing := none } else c)
      let s := if me = 6 then s.retain 2 a (s.axis a).homingRecord else s
      let s := s.event (30 + s.mandrelOf a) 0x8407 a (toLEs 8 p ++ toLEs 8 d)
      let y := s.axis a
      let out := decide (y.lim.softMax < y.loop.fbPos) || decide (y.loop.fbPos < y.lim.softMin)
      let s := if y.lim.softEn && out then s.updAxis a (fun y => { y with limitActive := true }) else s
      if after = 0 then homingDone a s
      else
        let s := s.updAxis a (fun y => { y with homeState := 7 })
        planTo a ((s.axis a).softTarget (hp + after)) false ((s.axis a).lim.plan s.tickLen 0x8000) s
  | _ => s

/-- A homing phase ends without its result (R187, R188): the motion stops and the axis is left in POSITION mode. -/
def failHoming (a code : Nat) (s : State) : State :=
  match (s.axis a).homing with
  | none => s
  | some h =>
    let s := s.updCap h.capPin (fun c => if c.homing = some a then { c with homing := none } else c)
    let s := s.endHoming a code
    stopOwner (s.ownerOf a) s

/-- HOME_NOT_FOUND: a homing phase covers SEARCH_MAX without its transition (R187). -/
def execHomeNotFound (a : Nat) (s : State) : Result :=
  onUnit a 512 (if [1, 2, 4, 5].contains (s.axis a).homeState then failHoming a St.homeNotFound s else s)

/-- HOME_NO_INDEX: the creep covers INDEX_WIN without a qualifying capture (R188). -/
def execHomeNoIndex (a : Nat) (s : State) : Result :=
  onUnit a 512 (if (s.axis a).homeState = 5 then failHoming a St.homeNoIndex s else s)

/-- JOG_TIMEOUT: no jog command within KEEPALIVE and the jog stops (R194, R195). Subjects from 0x1000 on are arms, at 0x1000
plus their number. -/
def execJogTimeout (a : Nat) (s : State) : Result :=
  if 0x1000 ≤ a then
    let n := a - 0x1000
    onUnit n 16 (if (s.arm n).jogUntil.isNone then s
      else ((stopOwner (1000 + n) s).updArm n (fun r => { r with jogUntil := none })).event (30 + (s.arm n).mandrel) 0x8409 (0x1000 + n) [])
  else
    onUnit a 512 (if (s.axis a).jogUntil.isNone then s
      else ((stopOwner (s.ownerOf a) s).updAxis a (fun x => { x with jogUntil := none })).event (30 + s.mandrelOf a) 0x8409 a [])

/-- BRAKE_OPEN_WAIT: BRK_OPEN_TICKS after an enable, motion may start (R171). -/
def execBrakeOpenWait (a : Nat) (s : State) : Result := onUnit a 512 (s.updAxis a (fun x => { x with brakeUntil := none }))

/-- BRAKE_CLOSE_WAIT: BRK_CLOSE_TICKS after a disable request, DISABLED takes effect and the pins idle (R172). -/
def execBrakeCloseWait (a : Nat) (s : State) : Result :=
  onUnit a 512 (if (s.axis a).disableAt.isSome then leaveToDisabled a s else s)

/-- DD_ALIGN_COMPLETE: after ALIGN_TICKS the offset is set and the pins return to idle (R166). -/
def execDdAlignComplete (a : Nat) (s : State) : Result :=
  let x := s.axis a
  onUnit a 512 (if x.align.isNone then s
    else
      let p := x.loop.fbPos
      let s := s.setAxis a { x with align := none, driving := false, brakeReq := false, ddVec := {}, dd := { x.dd with commOffset := some p } }
      let s := { s with glume := { s.glume with release := s.glume.release.filter (· != a) } }
      s.completeCmd 0x0415 (fun c => uAt c.args 0 2 == a) { data := toLEs 8 p })

/-- The current a conversion code stands for exceeds I_TRIP (R169, R170). -/
def Axis.trips (x : Axis) (inp code : Nat) : Bool :=
  x.binding.isDd && (x.dd.iaIn == inp || (x.dd.comm != 2 && x.dd.ibIn == inp)) &&
    (Fl.ofBits x.dd.iTrip).lt (((Fl.ofInt ((code : Int) - x.dd.iZero)).mul (Fl.ofBits x.dd.iScale)).abs)

/-- A raw code as the converter's correction in force makes it (R586). -/
def Calib.correct (k : Calib) (raw : Nat) : Nat := (clampI 0 65535 (divRNE (((raw : Int) - k.ofs) * k.gain) 65536)).toNat

/-- CONVERSION_COMPLETE: one conversion ends and its result is held for the next snapshot (R167); a current above I_TRIP puts
the pins idle at once and faults the axis (R170). -/
def execConversionComplete (c i code : Nat) (s : State) : Result :=
  let v := (s.calib c).correct (code % 65536)
  let last := (List.range 16).all (fun k => !bitAt (s.adc c).inputEn k || decide (k ≤ i))
  let s' := s.updAdc c (fun d => { d with next := Table.set 0 d.next i (v + 1), busy := d.busy && !last })
  let hit := (s.motion.axes.filter (fun q => q.2.trips (16 * c + i) v)).map Prod.fst
  let trip (s : State) (ax : Nat) : State :=
    (s.updAxis ax (fun x => { x with driving := false, trip := true, ddTrips := wrap 32 (x.ddTrips + 1), ddNext := none })).axisFault ax St.ddOvercurrent
  onUnit c 4 (if bitAt (s.adc c).inputEn i then hit.foldl trip s' else s)

end Sys2Proof.Machine
end

