-- ==== Sys2Proof/Machine/CellCmds.lean ====
section
/-! DEFINITION. The SYS and CELL commands of the host but CELL.TXN_COMMIT (R13, R14, R338, R343, R346, R347, R636 to R641). -/

namespace Sys2Proof.Machine

/-! ### Identification and the port (R320, R334, R347) -/

/-- HOST_DEV_ID. -/
def State.devId (s : State) : Nat := s.cell.siRev % 256 + s.cell.grade % 256 * 256 + 0x8860 * 65536

/-- HOST_FW. -/
def State.fwWord (s : State) : Nat :=
  s.cell.fwRelease % 65536 + s.power.replLevel % 256 * 65536 + s.power.running % 2 * 2 ^ 24

/-- HOST_NODE as a port reads it. -/
def State.nodeWord (s : State) (p : Nat) : Nat := s.cell.node % 256 + bitIf 8 s.cell.nodeValid + p * 65536

/-- HOST_STATE. -/
def State.stateWord (s : State) : Nat :=
  s.cell.state + s.cell.role * 16 + s.glumeState * 256 + bitIf 10 s.cell.ready + bitIf 11 s.mbx.bindLocked + bitIf 12 s.cell.fault

/-- The outstanding commands of a port (R334, R340). -/
def State.outstanding (s : State) (p : Nat) : List HostCmd := s.host.cmds.filter (fun c => c.hdr.port == p && !c.silent && !c.extra)

/-- The outstanding commands of a port but one. -/
def State.others (s : State) (h : Hdr) : List HostCmd := (s.outstanding h.port).filter (fun c => c.hdr.tag != h.tag)

/-- SYS.IDENTIFY (R347). -/
def runSysIdentify (h : Hdr) (a : List Byte) (s : State) : State × Reply :=
  tested s [badLen a 0, haltCell s] (dataReply s (toLE 4 s.devId ++ toLE 4 s.fwWord ++ toLE 4 (s.nodeWord h.port) ++ toLE 16 s.cell.uid))

/-- SYS_IDENTIFY: returns identification registers and the unique ID (R347). -/
def execSysIdentify (h : Hdr) (a : List Byte) (s : State) : Result := commitHost 0x0101 runSysIdentify h a s

/-- Whether a bit of a mask of 64 satisfies a test. -/
def anyBank (m : Nat) (f : Nat → Bool) : Bool := (List.range 64).any (fun b => bitAt m b && f b)

/-- A bank given to a port: its identity is written as owner and a CREDIT word falls due (R325, R327). -/
def giveBank (p b : Nat) (s : State) : State :=
  let s := s.updBank b (fun r => { r with owner := p, pending := false })
  let v := s.port p
  s.setPort p { v with banks := setBit v.banks b, held := clrBit v.held b, named := clrBit v.named b, creditsDue := v.creditsDue ++ [b] }

/-- SYS.HOST_SETUP (R325, R334, R347). -/
def runSysHostSetup (h : Hdr) (a : List Byte) (s : State) : State × Reply :=
  let p := s.port h.port
  let q := s.port (9 - h.port)
  let share := uAt a 0 2
  let new := uAt a 4 8
  let fresh (b : Nat) : Bool := !bitAt p.banks b
  let conflict := anyBank new (fun b => bitAt q.banks b || (fresh b && !([0, h.port].contains (s.bank b).owner)))
  let leaving := anyBank p.banks (fun b => !bitAt new b && !bitAt p.held b)
  let s' := s.setPort h.port { p with share := share, banks := p.banks &&& new, held := p.held &&& new, named := p.named &&& new }
  let s' := ((List.range 64).filter (fun b => bitAt new b && fresh b)).foldl (fun s b => giveBank h.port b s) s'
  tested s [badLen a 12, badZeros a 2 2, shadowed h s, liveCell s,
      badState ((s.others h) != [] || s.host.txns.any (fun t => t.port == h.port)),
      (decide (512 < share + q.share), St.tooMany, 0), (conflict, St.bankConflict, 0), (leaving, St.bankNotHeld, 0)]
    (okReply s')

/-- SYS_HOST_SETUP: sets the issuing port's share and host banks (R347). -/
def execSysHostSetup (h : Hdr) (a : List Byte) (s : State) : Result := commitHost 0x0102 runSysHostSetup h a s

/-- SYS.STATUS (R347); the command itself is outstanding while it reports. -/
def runSysStatus (h : Hdr) (a : List Byte) (s : State) : State × Reply :=
  let p := s.port h.port
  tested s [badLen a 0, haltCell s] (dataReply s
    (toLE 2 ((s.others h).length + 1) ++ toLE 2 p.share ++ toLE 4 p.credit ++ toLE 4 (queuedWords p.queue) ++ toLE 4 p.eventsLost ++
     toLE 4 p.protoErrors ++ toLE 4 p.rolled ++ toLE 8 p.held))

/-- SYS_STATUS: returns the port's outstanding, credit and error figures (R347). -/
def execSysStatus (h : Hdr) (a : List Byte) (s : State) : Result := commitHost 0x0103 runSysStatus h a s

/-- SYS.CANCEL (R338): a held command of the same port whose edge is still ahead ends with CANCELLED. -/
def runSysCancel (h : Hdr) (a : List Byte) (s : State) : State × Reply :=
  let hit (c : HostCmd) : Bool := c.stage == .held && c.hdr.port == h.port && c.hdr.tag == uAt a 0 2 && decide (s.cell.edge < c.commitAt)
  let cancelled (c : HostCmd) : HostCmd := { c with stage := .replied, commitTick := 0, reply := { status := St.cancelled } }
  let s' := { s with host := { s.host with cmds := s.host.cmds.map (fun c => if hit c then cancelled c else c) } }
  tested s [badLen a 4, badZeros a 2 2, shadowed h s, liveCell s]
    (if s.host.cmds.any hit then okReply s' else (s, { status := St.notPending }))

/-- SYS_CANCEL: cancels a held command of the same port by tag (R338). -/
def execSysCancel (h : Hdr) (a : List Byte) (s : State) : Result := commitHost 0x0104 runSysCancel h a s

/-- SYS.EVENT_MASK (R336, R347). -/
def runSysEventMask (h : Hdr) (a : List Byte) (s : State) : State × Reply :=
  let p := s.port h.port
  tested s [badLen a 4, badZeros a 2 2, shadowed h s, liveCell s] (okReply (s.setPort h.port { p with mask := uAt a 0 2 }))

/-- SYS_EVENT_MASK: sets which event families reach the port (R347). -/
def execSysEventMask (h : Hdr) (a : List Byte) (s : State) : Result := commitHost 0x0105 runSysEventMask h a s

/-- Whether every axis is DISABLED. -/
def State.allDisabled (s : State) : Bool := s.motion.axes.all (fun p => p.2.mode == 0)

/-- Whether every axis is at standstill (R65). -/
def State.allStill (s : State) : Bool := s.motion.axes.all (fun p => p.2.still)

/-- SYS.RESET (R347, R633): the device resets 10 ms later. -/
def runSysReset (h : Hdr) (a : List Byte) (s : State) : State × Reply :=
  let fine := s.cell.state == 2 || (s.cell.state == 3 && s.allDisabled) || (s.cell.state == 1 && s.power.halted)
  tested s [badLen a 0, shadowed h s, badState !fine]
    (okReply { s with power := { s.power with resetAt := some (s.gtc + 10000000, 3) } })

/-- SYS_RESET: requests a device reset (R347). -/
def execSysReset (h : Hdr) (a : List Byte) (s : State) : Result := commitHost 0x0106 runSysReset h a s

/-! ### The tick length (R9, R13, R14) -/

/-- Whether this device is a fabric member (R636, R647): any role but 7. -/
def State.inFabric (s : State) : Bool := s.cell.role != 7

/-- The members of the fabric other than this device. -/
def State.otherNodes (s : State) : List Nat := (s.fab.nodes.filter (fun p => p.2.member && p.1 != s.cell.node)).map Prod.fst

/-- A record that waits for this device's next slot (R515), to one node or to all. -/
def State.tell (s : State) (dst : Option Nat) (r : FabRec) : State := { s with fab := { s.fab with waiting := s.fab.waiting ++ [(dst, r)] } }

/-- The GTC of a change edge (R14): the first multiple of 1 ms at least 2 ms after the commit. -/
def changeEdge (commit : Nat) : Nat := (commit + 2000000 + 999999) / 1000000 * 1000000

/-- CELL.SET_TICK (R9, R13, R14, R27, R73, R160, R168). No frame of the spec tells a device the cell states of the others, so
whether each of them is in CONFIG is free (log entry 41). -/
def runCellSetTick (h : Hdr) (a : List Byte) (s : State) : State × Reply :=
  let sel := uAt a 0 1
  let ns := tickNs sel
  let gtc := changeEdge s.cell.edge
  let (ready, s1) := if s.otherNodes = [] then (1, s) else s.freeBelow 2
  let s' := { s1 with cell := { s1.cell with change := some (sel, gtc) } }
  let s' := if s.otherNodes = [] then s' else s'.tell none (.cellCfg (s.cell.tick + 1) (.tick sel gtc))
  let there := { s with cell := { s.cell with tickSel := sel } }
  let r := tested s1 [badLen a 4, badAt 0 (decide (5 < sel)), badZeros a 1 3, badAt 0 (s.motion.pwmN != 0 && !pwmValid sel s.motion.pwmN),
      shadowed h s, badState (s.cell.state != 2), badState s.cell.change.isSome, badState (s.inFabric && s.fab.master != s.cell.node), badState (ready != 1),
      (s.motion.axes.any (fun p => !p.2.lim.fit ns), St.velRange, 0), (!there.fitsBudget || !there.sequencesFit, St.budgetExceeded, 0)]
    (dataReply s' (toLE 8 gtc))
  r

/-- CELL_SET_TICK: changes the tick length at a later change edge (R13). -/
def execCellSetTick (h : Hdr) (a : List Byte) (s : State) : Result := commitHost 0x0201 runCellSetTick h a s

/-! ### Cell states (R637 to R641) -/

/-- The hold that the cell state HOLD applies to an owner (R639); a hold already in force stays the host's. -/
def cellHold (o : Nat) (s : State) : State :=
  let m := s.gen o
  if m.held then (holdOwner o 0 s).1
  else if !m.moving then s
  else
    let mark (m : Motion) : Motion := if m.held then { m with cellHold := true } else m
    let s := (holdOwner o 0 s).1
    s.setGen o (mark (s.gen o)) ((s.back o).map mark)

/-- The entries of an axis that the Tiller has not sealed, passed through a function. -/
def mapUnsealed (ax : Nat) (f : QEntry → QEntry) (s : State) : State :=
  let i := s.sealedCount ax
  s.updAxis ax (fun x => { x with queue := { x.queue with entries := x.queue.entries.take i ++ (x.queue.entries.drop i).map f } })

/-- A TORQUE_PASS axis keeps the TORQUE_FF in force at the edge, flagged HOLD (R639). -/
def keepTorque (ax : Nat) (s : State) : State :=
  let x := s.axis ax
  let i := s.sealedCount ax
  let e := if i = 0 then x.queue.last else x.queue.entries[i - 1]?
  let t := (e.map (fun e => e.torque)).getD 0
  mapUnsealed ax (fun e => { e with torque := t, flags := setBit e.flags 0 }) (s.updAxis ax (fun x => { x with keepTorque := some t }))

/-- A TORQUE_PASS axis takes its planned TORQUE_FF again (R639). -/
def freeTorque (ax : Nat) (s : State) : State :=
  let x := s.axis ax
  if x.keepTorque.isNone then s
  else mapUnsealed ax (fun e => { e with torque := auxTorque x s.tickLen e, flags := clrBit e.flags 0 }) (s.updAxis ax (fun x => { x with keepTorque := none }))

/-- Entering HOLD, for one owner (R639). -/
def holdOne (o : Nat) (s : State) : State :=
  if 1000 ≤ o then
    let n := o - 1000
    if (s.arm n).axes.any (fun a => (s.axis a).mode == 6) then (stopOwner o s).updArm n (fun r => { r with jogUntil := none })
    else cellHold o s
  else
    let x := s.axis o
    match x.mode with
    | 0 => s
    | 4 => keepTorque o s
    | 6 => (stopOwner o s).updAxis o (fun x => { x with jogUntil := none })
    | 3 => match x.gen.follow with
      | some f => if f.node = 0xFF then s else stopOwner o s
      | none => cellHold o s
    | _ => cellHold o s

/-- Entering RUN, for one owner: only the holds that HOLD applied end (R639). -/
def releaseOne (o : Nat) (s : State) : State :=
  let s := if o < 1000 then freeTorque o s else s
  if (s.gen o).cellHold && s.canResume o then resumeOwner o s else s

/-- The groups that hold an axis of a set (R561). -/
def groupMask (f : Nat → Bool) : Nat := ((List.range 512).filter f).foldl (fun m a => setBit m (a / 8)) 0

/-- The cell state changes, and STATE_CHANGED is sent (R637, R353). -/
def State.enterCell (s : State) (st : Nat) : State :=
  ({ s with cell := { s.cell with state := st } }).event 0 0x8201 0 (toLE 1 s.cell.state ++ toLE 1 st)

/-- Leaving PARTIAL (R561): every domain is powered, and the groups that PARTIAL left out become DIVERGED in a pair. -/
def leavePartial (s : State) : State :=
  let out := groupMask (fun _ => true) - groupMask s.inRun
  { s with
    cell := { s.cell with armRun := 0, axisRun := 0 }
    mbx := { s.mbx with waking := [], asleep := [] }
    pair := { s.pair with diverged := if s.pair.role = 0 then s.pair.diverged else s.pair.diverged ||| out } }

/-- The Lathes that serve a running axis (R561): those of the networks that the axes of the running set are bound to. -/
def State.servesRun (s : State) (e : Nat) : Bool :=
  s.motion.axes.any (fun p => s.inRun p.1 && match p.2.binding with
    | .net n _ _ => (s.net n).defined && (s.net n).engine == e
    | .dd _ n _ => (s.net n).defined && (s.net n).engine == e
    | _ => false)

/-- Entering PARTIAL with its running set (R561, R640): the Lathes that serve nothing running power down. -/
def enterPartial (arms axes : Nat) (s : State) : State :=
  let s := { s with cell := { s.cell with armRun := arms, axisRun := axes } }
  let s := if s.cell.state = 7 then s.event 0 0x8201 0 (toLE 1 7 ++ toLE 1 7) else s.enterCell 7
  { s with mbx := { s.mbx with waking := [], asleep := ((List.range 16).filter (fun e => !s.servesRun e)).map (16 + ·) } }

/-- Every domain that a sleep powers down: Sheaf cores 1 to 3, the Lathes and the Winnower (R557; Sheaf core 0 is never powered
down, R311). -/
def sleepers : List Nat := [1, 2, 3] ++ (List.range 16).map (16 + ·) ++ [32]

/-- The device goes to sleep (R557, R641): its journal page is committed, its domains power down and its safe outputs are
de-energised. -/
def goSleep (s : State) : State :=
  let back := s.cell.state
  let s := s.enterCell 8
  let s := s.commitJournal
  let s := { s with cell := { s.cell with wakeTo := back }, mbx := { s.mbx with waking := [], asleep := sleepers } }
  s.driveOutputs

/-- What refuses CELL.SET_STATE in its running set (R640). -/
def State.partialBad (s : State) (arms axes : Nat) : Bool :=
  let s' := { s with cell := { s.cell with state := 7, armRun := arms, axisRun := axes } }
  s.motion.axes.any (fun p => p.2.mode != 0 && !s'.inRun p.1) ||
  (List.range 16).any (fun n => bitAt arms n && (s.arm n).joints.any (fun j => !s'.inRun j.axis)) ||
  s.motion.axes.any (fun p => s'.inRun p.1 && match p.2.gen.follow with
    | some f => f.node == 0xFF && !s'.inRun f.master
    | none => false)

/-- The status that refuses a transition, if any (R637, R640, R641, R647). -/
def State.transition (s : State) (dst arms axes : Nat) : Option Nat :=
  let standing := if s.allStill then none else some St.axisMoving
  let bad (b : Bool) : Option Nat := if b then some St.badState else none
  if s.cell.role = 3 ∧ s.pair.role ≠ 3 ∧ dst ≠ 2 ∧ dst ≠ 3 then some St.badState
  else match s.cell.state, dst with
  | 2, 3 => none
  | 2, 8 | 3, 8 => bad (!s.allDisabled || s.inFabric)
  | 3, 2 => bad !s.allDisabled
  | 3, 4 | 4, 5 | 5, 4 | 7, 4 => none
  | 3, 7 | 4, 7 | 7, 7 => bad (s.partialBad arms axes)
  | 4, 3 | 5, 3 | 7, 3 => standing
  | _, _ => some St.badState

/-- A transition of the cell state (R637). -/
def changeCell (dst arms axes : Nat) (s : State) : State :=
  let s := if s.cell.state = 7 ∧ dst ≠ 7 then leavePartial s else s
  match dst with
  | 3 => (if s.cell.state = 2 then s.placeAll else s).enterCell 3
  | 4 => let s := s.enterCell 4; s.owners.foldl (fun s o => releaseOne o s) s
  | 5 => let s := s.enterCell 5; s.owners.foldl (fun s o => holdOne o s) s
  | 7 => enterPartial arms axes s
  | 8 => goSleep s
  | n => s.enterCell n

/-- CELL.SET_STATE (R347, R637 to R641). -/
def runCellSetState (h : Hdr) (a : List Byte) (s : State) : State × Reply :=
  let dst := uAt a 0 1
  let arms := uAt a 4 2
  let axes := uAt a 8 64
  let same := dst == s.cell.state && dst != 7
  let t := if same then none else s.transition dst arms axes
  tested s [badLen a 72, badAt 0 (dst == 0 || decide (8 < dst)), badZeros a 1 3, badAt 4 (dst != 7 && arms != 0), badZeros a 6 2,
      badAt 8 (dst != 7 && axes != 0), shadowed h s, liveCell s, (t.isSome, t.getD 0, 0)]
    (okReply (if same then s else changeCell dst arms axes s))

/-- CELL_SET_STATE: moves the cell between states as allowed (R637). -/
def execCellSetState (h : Hdr) (a : List Byte) (s : State) : Result := commitHost 0x0202 runCellSetState h a s

/-- CELL.STATUS (R337, R347). -/
def runCellStatus (_ : Hdr) (a : List Byte) (s : State) : State × Reply :=
  tested s [badLen a 0, liveCell s] (dataReply s
    (toLE 1 s.cell.state ++ toLE 1 s.cell.tickSel ++ toLE 1 s.cell.role ++ toLE 1 s.glumeState ++ toLE 4 s.cell.epoch ++
     toLE 8 (s.cell.tick - 1) ++ toLE 2 s.cell.armRun ++ toLE 64 s.cell.axisRun))

/-- CELL_STATUS: returns cell state, tick, role, epoch and running sets (R347). -/
def execCellStatus (h : Hdr) (a : List Byte) (s : State) : Result := commitHost 0x0203 runCellStatus h a s

/-! ### Transactions (R343, R346) -/

/-- The first transaction number from `n` on that is not open, among at most five tried. -/
def freshTxn (l : List Txn) (n : Nat) : Nat :=
  ((List.range 5).find? (fun i => !l.any (fun t => t.id == (n + i) % 65535 + 1))).elim 1 (fun i => (n + i) % 65535 + 1)

/-- CELL.TXN_BEGIN (R343, R347). Which number a transaction gets is free among those not open (log entry 42).
A shadow learns the number from the members. -/
def runCellTxnBegin (h : Hdr) (a : List Byte) (s : State) : State × Reply :=
  let ms := if uAt a 0 4 = 0 then 10000 else uAt a 0 4
  let (n, s1) := s.freeBelow 65535
  let id := freshTxn s.host.txns n
  let t : Txn := { id := id, port := h.port, timeoutMs := ms, lastAt := s.gtc }
  tested s [badLen a 4, (decide (4 ≤ s.host.txns.length), St.txnFull, 0), badAt 0 (decide (ms < 100) || decide (600000 < ms)), shadowed h s, liveCell s]
    (if isHost h.port then dataReply { s1 with host := { s1.host with txns := s1.host.txns ++ [t] } } (toLE 2 id) else okReply s)

/-- CELL_TXN_BEGIN: opens a configuration transaction (R343). -/
def execCellTxnBegin (h : Hdr) (a : List Byte) (s : State) : Result := commitHost 0x0204 runCellTxnBegin h a s

/-- The open transaction of a port by its number (R343). -/
def State.txn? (s : State) (p id : Nat) : Option Txn := s.host.txns.find? (fun t => t.id == id && t.port == p && !t.committing)

/-- A member joins an open transaction (R344, R346); a shadow opens it with its first member. -/
def addMember (p id : Nat) (m : Hdr × Nat × List Byte) (s : State) : State :=
  let more (t : Txn) : Txn := { t with members := t.members ++ [m], lastAt := s.gtc }
  let ts := s.host.txns
  let ts := if ts.any (fun t => t.id == id && t.port == p) || isHost p then ts.map (fun t => if t.id = id ∧ t.port = p then more t else t)
            else ts ++ [more { id := id, port := p }]
  { s with host := { s.host with txns := ts } }

/-- A transaction closes (R346). -/
def State.closeTxn (s : State) (id : Nat) : State := { s with host := { s.host with txns := s.host.txns.filter (fun t => t.id != id) } }

/-- CELL.TXN_ABORT (R346). -/
def runCellTxnAbort (h : Hdr) (a : List Byte) (s : State) : State × Reply :=
  tested s [badLen a 4, ((s.txn? h.port (uAt a 0 2)).isNone, St.txnUnknown, 0), badZeros a 2 2, shadowed h s, liveCell s]
    (okReply (s.closeTxn (uAt a 0 2)))

/-- CELL_TXN_ABORT: closes a transaction without effect (R346). -/
def execCellTxnAbort (h : Hdr) (a : List Byte) (s : State) : Result := commitHost 0x0206 runCellTxnAbort h a s

/-- TXN_EXPIRY: TIMEOUT_MS passes without a member or a commit; the transaction closes and TXN_EXPIRED is sent (R346). -/
def execTxnExpiry (id : Nat) (s : State) : Result :=
  .next (match s.host.txns.find? (fun t => t.id == id && !t.committing) with
    | none => s
    | some t => ((s.advanceTo (t.lastAt + t.timeoutMs * 1000000)).closeTxn id).event 0 0x8203 0 (toLE 2 id))

end Sys2Proof.Machine
end

