-- ==== Sys2Proof/Machine/Claims.lean ====
section
/-! DEFINITION. Zones and zone claims (08_shared_workspace, R252 to R272): the arbiter at a tick edge, the requests and releases
of the Mandrels, revocation, and the ZONE commands. -/

namespace Sys2Proof.Machine

/-! ### The arbiter (R258 to R264) -/

/-- The order of claims (R36, R259): by REQ_GTC, then source number, then order of issue. -/
def Claim.before (c d : Claim) : Bool :=
  decide (c.reqGtc < d.reqGtc) ||
    (c.reqGtc == d.reqGtc && (decide (c.source < d.source) || (c.source == d.source && decide (c.order < d.order))))

/-- A claim put into its place in the order. -/
def insertClaim (x : Claim) : List Claim → List Claim
  | [] => [x]
  | y :: ys => if x.before y then x :: y :: ys else y :: insertClaim x ys

/-- Zones given up by a claim; a claim without zones is no more. -/
def Claim.give (zs : List Nat) (c : Claim) : Claim :=
  { c with zones := c.zones.filter (fun z => !zs.contains z), held := c.held.filter (fun h => !zs.contains h.1) }

/-- The state with its claims replaced; claims without zones leave the table. -/
def State.setClaims (s : State) (l : List Claim) : State :=
  { s with claim := { s.claim with claims := l.filter (fun c => c.zones != []) } }

/-- The arm of this device that a source number names, if any (R37, R269). -/
def State.localArm (s : State) (src : Nat) : Option Nat := (List.range 16).find? (fun n => s.ownSource n src)

/-- A counter of a local arm advances (R272). -/
def State.countClaim (s : State) (src : Nat) (f : ClaimCount → ClaimCount) : State :=
  match s.localArm src with
  | some n => s.updClaimCount n f
  | none => s

/-- A request applied (R257, R260): a reissue within the zones asked for before keeps its REQ_GTC and its place. -/
def applyRequest (zs : List Nat) (t0 t1 gtc src : Nat) (again : Bool) (s : State) : State :=
  let old := if again then s.claim.claims.find? (fun c => c.source == src && !c.granted) else none
  match old with
  | some c =>
    let rest := s.claim.claims.filter (fun d => !(d.source == src && !d.granted))
    let keep := zs.all (fun z => c.zones.contains z)
    let c' := { c with zones := zs, start := t0, stop := t1, reissued := true, reqGtc := if keep then c.reqGtc else gtc }
    s.setClaims (insertClaim c' rest)
  | none =>
    let c : Claim := { source := src, reqGtc := gtc, order := s.claim.nextOrder, zones := zs, start := t0, stop := t1, reissued := again
                       applied := s.cell.tick }
    let s := s.setClaims (insertClaim c s.claim.claims)
    { s with claim := { s.claim with nextOrder := s.claim.nextOrder + 1 } }

/-- A zone passes to HELD (R263): the claim keeps it without a window end, and CLAIM_HOLDOVER is sent. -/
def applyHoldover (src z : Nat) (s : State) : State :=
  let hit (c : Claim) : Bool := c.source == src && c.granted && c.zones.contains z && !c.isHeld z
  if !s.claim.claims.any hit then s
  else
    let s := s.setClaims (s.claim.claims.map (fun c => if hit c then { c with held := c.held ++ [(z, s.cell.tick)] } else c))
    let s := s.countClaim src (fun k => { k with holdovers := wrap 32 (k.holdovers + 1) })
    s.event 0 0x8601 (0x2000 + z) (toLE 2 src)

/-- A BLOCKED zone is freed (R268). -/
def unblockZone (z : Nat) (s : State) : State :=
  { s with claim := { s.claim with blocked := s.claim.blocked.filter (fun b => b.1 != z) } }

/-- A message applied (R259, R270). -/
def applyMsg (m : ClaimMsg) (s : State) : State :=
  match m with
  | .request zs t0 t1 gtc src again => applyRequest zs t0 t1 gtc src again s
  | .withdraw src => s.setClaims (s.claim.claims.filter (fun c => !(c.source == src && !c.granted)))
  | .release src z => s.setClaims (s.claim.claims.map (fun c => if c.source == src && c.granted then c.give [z] else c))
  | .holdover src z => applyHoldover src z s
  | .unblock z => unblockZone z s

/-- Whether a claim bars a request's window starting at `w` (R259): another arm's granted window on a zone it names, not HELD. -/
def Claim.bars (d c : Claim) (w : Nat) : Bool :=
  d.granted && d.source != c.source && c.zones.any (fun z => d.zones.contains z && !d.isHeld z) &&
    decide (w ≤ d.stop) && decide (d.start ≤ w + (c.stop - c.start))

/-- Where a request's window can start at the edge of tick `g` (R259), if no later than g + 256. -/
def State.windowFor (s : State) (c : Claim) (g : Nat) : Option Nat :=
  let lo := max c.start g
  if c.zones.any (fun z => s.claim.blocked.any (fun b => b.1 == z)) then none
  else ((List.range (g + 257 - lo)).map (lo + ·)).find? (fun w => !s.claim.claims.any (fun d => d.bars c w))

/-- One pending request evaluated (R259, R264, R265): granted, it takes over the zones its arm has HELD. -/
def evalClaim (s : State) (c : Claim) : State :=
  let g := s.cell.tick
  let blockedBy := s.claim.claims.any (fun d => !d.granted && d.order != c.order && d.before c && d.zones.any (fun z => c.zones.contains z))
  match (if blockedBy then none else s.windowFor c g) with
  | none =>
    let s := if c.evaluated then s else s.countClaim c.source (fun k => { k with deferred := wrap 32 (k.deferred + 1) })
    s.setClaims (s.claim.claims.map (fun d => if d.order == c.order then { d with evaluated := true } else d))
  | some w =>
    s.setClaims (s.claim.claims.map (fun d =>
      if d.order == c.order then { d with granted := true, evaluated := true, start := w, stop := w + (c.stop - c.start), applied := g }
      else if d.source == c.source && d.granted then d.give ((d.held.map Prod.fst).filter (fun z => c.zones.contains z))
      else d))

/-- Whether a granted claim is gated by another arm's (R261): one on a zone of its own that began earlier and still stands. -/
def Claim.gates (d c : Claim) : Bool :=
  d.granted && c.granted && d.source != c.source && decide (d.start < c.start) && c.zones.any (fun z => d.zones.contains z)

/-- The arms a claim's arm waits on (R266), as source numbers. -/
def State.waitsOn (s : State) (c : Claim) : List Nat :=
  (s.claim.claims.filter (fun d => if c.granted then d.gates c else d.bars c (max c.start s.cell.tick))).map (fun d => d.source)

/-- The arms reached from a set along the wait relation in at most `n` steps (R266). -/
def State.reachWait (s : State) : Nat → List Nat → List Nat
  | 0, l => l
  | n + 1, l => s.reachWait n (l ++ (s.claim.claims.filter (fun c => l.contains c.source)).flatMap s.waitsOn).eraseDups

/-- The claims that take part in a cycle of the wait relation, each with the arm it waits on (R266). -/
def State.crossed (s : State) : List (Claim × Nat) :=
  s.claim.claims.flatMap (fun c => ((s.waitsOn c).filter (fun y => (s.reachWait s.claim.claims.length [y]).contains c.source)).map (fun y => (c, y)))

/-- Whether a claim's message is later than another's: by REQ_GTC, ties to the higher source number (R266). -/
def Claim.later (c d : Claim) : Bool := decide (d.reqGtc < c.reqGtc) || (d.reqGtc == c.reqGtc && decide (d.source < c.source))

/-- Cycles of the wait relation are ended, one arm's participation at a time (R266). -/
def breakCycles : Nat → State → State
  | 0, s => s
  | n + 1, s =>
    match s.crossed with
    | [] => s
    | p :: ps =>
      let v := ps.foldl (fun m q => if q.1.later m.1 then q else m) p
      let s := s.setClaims (s.claim.claims.filter (fun c => c.order != v.1.order))
      let s := s.countClaim v.1.source (fun k => { k with crossed := wrap 32 (k.crossed + 1) })
      breakCycles n (s.event 0 0x8602 0 (toLE 2 v.1.source ++ toLE 2 v.2))

/-- The place of a message in the order of R36. -/
def ClaimMsg.key : ClaimMsg → Nat
  | .request _ _ _ g s _ => g * 2 ^ 14 + s
  | .withdraw s => s
  | .release s _ => s
  | .holdover s _ => s
  | .unblock _ => 0

/-- A message put in its place (R36, R259): by REQ_GTC and source, then in order of issue. -/
def insertMsg (x : ClaimMsg) : List ClaimMsg → List ClaimMsg
  | [] => [x]
  | y :: ys => if x.key < y.key then x :: y :: ys else y :: insertMsg x ys

/-- The arbiter at an edge (R259, R266): the messages due, then every pending request, then the wait relation. Messages without
a REQ_GTC come before requests, so an unblock or a release at the same edge is seen (R270). -/
def arbitrate (s : State) : State :=
  let due := (s.claim.msgs.filter (fun m => decide (m.1 ≤ s.cell.tick))).map Prod.snd
  let s := { s with claim := { s.claim with msgs := s.claim.msgs.filter (fun m => decide (s.cell.tick < m.1)) } }
  let s := (due.foldl (fun l m => insertMsg m l) []).foldl (fun s m => applyMsg m s) s
  let s := (s.claim.claims.filter (fun c => !c.granted)).foldl evalClaim s
  breakCycles s.claim.claims.length s

/-! ### The Mandrels' messages (R256, R257, R260, R262, R263) -/

/-- The last stamp of an arm's planned motion: what is staged, then the rest of its plan; how far listed segments or a re-timed
plan reach beyond is a free value (log entry 39). -/
def State.planEnd (s : State) (n : Nat) : Nat × State :=
  let o := 1000 + n
  let m := s.gen o
  let last := s.nextStamp o - (s.grid o).1
  if !m.moving ∧ m.list = [] then (last, s)
  else if m.list = [] ∧ m.scale = 0x80000000 then
    (last + (m.tracks.map (fun t => ceilDiv (chainLen t.segs - t.t) (2 ^ 32))).foldl max 0, s)
  else
    let w := s.freeBelow 65536
    (last + w.1, w.2)

/-- The run that begins at a touching stamp (R256): its stamps up to the next free entry or the end of the plan. -/
def State.runFrom (s : State) (n d stop : Nat) : Nat → Nat → List Nat
  | 0, _ => []
  | k + 1, t => if stop < t ∨ s.touched n t = [] then [] else t :: s.runFrom n d stop k (t + d)

/-- An arm's claim request for its next run (R256, R257): issued once the run's first touching entry is within CLAIM_LEAD. A run
of more than 64 zones or 65 535 ticks stops the arm and sends CLAIM_TOO_LARGE. -/
def issueClaim (n : Nat) (s : State) : State :=
  let o := 1000 + n
  let r := s.arm n
  let m := s.gen o
  if r.spheres = [] ∨ !s.claim.zones.any (fun z => z.2.en) ∨ (!m.moving ∧ m.list = []) then s
  else
    let e := s.planEnd n
    let d := (s.grid o).1
    let lo := max (s.cell.tick + 1) (Table.get 0 s.claim.asked n + 1)
    let cand := ((List.range (s.cell.tick + r.claimLead + 1 - lo)).map (lo + ·)).filter (fun t => decide (t % d = s.nextStamp o % d) && decide (t ≤ e.1))
    match cand.find? (fun t => e.2.touched n t != []) with
    | none => s
    | some t0 =>
      let run := e.2.runFrom n d e.1 65537 t0
      let last := run.getLast?.getD t0
      let hit := run.flatMap (e.2.touched n)
      let zs := (List.range 4096).filter (hit.contains ·)
      let t1 := last + r.claimTail
      let s := { e.2 with claim := { e.2.claim with asked := Table.set 0 e.2.claim.asked n last } }
      if 64 < zs.length ∨ 65535 < t1 - t0 then
        (s.updGen o (s.stopGen o)).event (30 + r.mandrel) 0x8302 (0x1000 + n) (toLE 2 zs.length ++ toLE 4 (t1 - t0))
      else
        (s.updClaimCount n (fun k => { k with requests := wrap 32 (k.requests + 1) })).claimMsg (.request zs t0 t1 s.cell.edge (s.source n) false)

/-- An arm at standstill under CLAIM_WAIT re-times its pending request, once (R260): where the run from rest first touches a
zone and how long it takes are free values (log entry 39). -/
def reissueClaim (n : Nat) (s : State) : State :=
  let m := s.gen (1000 + n)
  match s.claim.claims.find? (fun c => s.ownSource n c.source && !c.granted && !c.reissued) with
  | some c =>
    if !(m.claimWait && m.stopped) then s
    else
      let a := s.freeBelow 65536
      let b := a.2.freeBelow 65536
      let t0 := s.cell.tick + 1 + a.1
      b.2.claimMsg (.request c.zones t0 (t0 + b.1) s.cell.edge c.source true)
  | none => s

/-- An arm under CLAIM_WAIT resumes once its request is granted and its next entry covered (R35). -/
def resumeClaim (n : Nat) (s : State) : State :=
  let o := 1000 + n
  let m := s.gen o
  if m.claimWait && m.stopped && !s.claim.claims.any (fun c => s.ownSource n c.source && !c.granted) && s.covered n (s.nextStamp o) then
    let s := s.updGen o (s.resumeGen o)
    (s.updArm n (fun r => { r with status := if r.status = St.claimWait then 0 else r.status })).event (30 + (s.arm n).mandrel) 0x8303 (0x1000 + n)
      (toLE 2 St.claimWait ++ toLE 1 0)
  else s

/-- The stamps of an arm's entries from a stamp to the last of its requested run, or its last staged one. -/
def State.laterStamps (s : State) (n lo : Nat) : List Nat :=
  (List.range (max (Table.get 0 s.claim.asked n) (s.nextStamp (1000 + n)) + 1 - lo)).map (lo + ·)

/-- A zone is released in the tick after the last entry of the run that touches it (R262). -/
def releaseClaims (n : Nat) (s : State) : State :=
  s.claim.claims.foldl (fun s c =>
    if s.ownSource n c.source && c.granted then
      c.zones.foldl (fun s z =>
        if (s.touched n (s.cell.tick - 1)).contains z && !(s.laterStamps n s.cell.tick).any (fun t => (s.touched n t).contains z) then
          s.claimMsg (.release c.source z) else s) s
    else s) s

/-- The claim work of the Mandrels in a tick (R257, R260, R262). -/
def mandrelClaims (s : State) : State :=
  ((List.range 16).filter (fun n => (s.arm n).defined)).foldl (fun s n => issueClaim n (resumeClaim n (reissueClaim n (releaseClaims n s)))) s

/-- In tick T1 of an arm's window each zone not yet released is released, when no entry from K - 1 onward touches it, or passes to
HELD (R263). -/
def endWindow (n : Nat) (s : State) : State :=
  s.claim.claims.foldl (fun s c =>
    if s.ownSource n c.source && c.granted && c.stop == s.cell.tick then
      c.zones.foldl (fun s z =>
        if c.isHeld z then s
        else if (s.laterStamps n (s.cell.tick - 1)).any (fun t => (s.touched n t).contains z) then s.claimMsg (.holdover c.source z)
        else s.claimMsg (.release c.source z)) s
    else s) s

/-- CLAIM_HOLDOVER: in tick T1 of a window its holder's Mandrel releases each zone or holds it over (R263). -/
def execClaimHoldover (n : Nat) (s : State) : Result := onUnit n 16 (endWindow n s)

/-! ### Departed devices (R267, R269, R270) -/

/-- Whether a message came from a node (R270). -/
def ClaimMsg.fromNode (node : Nat) : ClaimMsg → Bool
  | .request _ _ _ _ s _ => s / 64 == node
  | .withdraw s => s / 64 == node
  | .release s _ => s / 64 == node
  | .holdover s _ => s / 64 == node
  | .unblock _ => false

/-- A zone passes to BLOCKED (R267). -/
def blockZone (node z : Nat) (s : State) : State :=
  if s.claim.blocked.any (fun b => b.1 == z) then s
  else
    let s := { s with claim := { s.claim with blocked := Table.upd 0 s.claim.blocked z (fun _ => s.cell.tick + 1), blockedCount := wrap 32 (s.claim.blockedCount + 1) } }
    s.event 0 0x8604 (0x2000 + z) (toLE 1 node)

/-- Every claim and request of a departed device is revoked (R267): zones its arms may stand in are blocked, the rest freed. -/
def revokeNode (node : Nat) (s : State) : State :=
  let gone := s.claim.claims.filter (fun c => c.source / 64 == node)
  let s := s.setClaims (s.claim.claims.filter (fun c => c.source / 64 != node))
  let s := { s with claim := { s.claim with msgs := s.claim.msgs.filter (fun m => !m.2.fromNode node), revoked := wrap 32 (s.claim.revoked + gone.length) } }
  let arms := (gone.map (fun c => c.source % 64)).eraseDups
  let s := arms.foldl (fun s a => s.event 0 0x8603 (0x1000 + a) (toLE 1 node)) s
  gone.foldl (fun s c =>
    let begun := c.granted && decide (c.start ≤ s.cell.tick)
    c.zones.foldl (fun s z => if begun || c.isHeld z then blockZone node z s else s) s) s

/-! ### The ZONE commands (R252, R253, R268, R271, R272) -/

/-- A zone's record (R253). -/
def zoneRecord (k : Nat) (z : Zone) : List Byte :=
  let q := if z.shape = 0 ∧ z.en then ({} : Quat) else z.rot
  toLE 2 k ++ toLE 1 (if z.en then 1 else 0) ++ toLE 1 z.shape ++ toLEs 4 z.center.x ++ toLEs 4 z.center.y ++ toLEs 4 z.center.z ++
    toLE 4 z.half.1 ++ toLE 4 z.half.2.1 ++ toLE 4 z.half.2.2 ++ quatOctets q ++ toLE 4 0

/-- ZONE_CRC (R253). -/
def State.zoneCrc (s : State) : Nat := crc32c ((List.range 4096).flatMap (fun k => zoneRecord k (s.zone k)))

/-- ZONE.DEFINE (R252, R253): zero HALF takes its default 1; a deleted zone has every field zero. On a fabric member it comes from
the cycle master's host alone, and every device applies it at the next edge. -/
def runZoneDefine (h : Hdr) (a : List Byte) (s : State) : State × Reply :=
  let k := uAt a 0 2
  let en := uAt a 4 1
  let sh := uAt a 5 1
  let half (i : Nat) : Nat := let v := uAt a i 4; if v = 0 then 1 else v
  let z : Zone := if en = 0 then {} else
    { en := true, shape := sh, center := vec3At a 6, half := (half 18, half 22, half 26), rot := if sh = 0 then {} else quatAt a 30 }
  let big (i : Nat) : Test := badAt i (decide (1000000 < uAt a i 4))
  tested s [badLen a 46, badSubject a 0 4096, badAt 4 (decide (1 < en)), badAt 5 (decide (1 < sh)), badVec a 6, big 18, big 22, big 26,
      (let q := badQuat a 30; (sh == 1 && q.1, q.2)), shadowed h s, badState (s.cell.state != 2), badState (isHost h.port && s.cell.role == 1)]
    (okReply (if s.otherNodes = [] then s.setZone k z else
      ({ s with fab := { s.fab with changes := s.fab.changes ++ [(s.cell.tick + 1, CellCfg.zone k z)] } }).tell none (.cellCfg (s.cell.tick + 1) (CellCfg.zone k z))))

/-- ZONE_DEFINE: defines or deletes a zone (R252). -/
def execZoneDefine (h : Hdr) (a : List Byte) (s : State) : Result := commitHost 0x0601 runZoneDefine h a s

/-- ZONE.UNBLOCK (R268): the zone is freed at the commit edge, and the message goes to every arbiter. -/
def runZoneUnblock (h : Hdr) (a : List Byte) (s : State) : State × Reply :=
  let z := uAt a 0 2
  tested s [badLen a 4, badSubject a 0 4096, shadowed h s, liveCell s, (!s.claim.blocked.any (fun b => b.1 == z), St.zoneNotBlocked, 0)]
    (okReply ((unblockZone z s).claimMsg (.unblock z)))

/-- ZONE_UNBLOCK: frees a BLOCKED zone (R268). -/
def execZoneUnblock (h : Hdr) (a : List Byte) (s : State) : Result := commitHost 0x0602 runZoneUnblock h a s

/-- A claim record with its check (R271). -/
def claimRecord (z holder state flags gtc w0 w1 applied : Nat) : List Byte :=
  let b := toLE 2 z ++ toLE 2 holder ++ toLE 1 state ++ toLE 1 flags ++ toLE 2 0 ++ toLE 8 gtc ++ toLE 4 w0 ++ toLE 4 w1 ++ toLE 4 applied
  b ++ toLE 4 (crcFold z b)

/-- The records of one zone (R271): its claims in order, then BLOCKED. -/
def State.zoneRecords (s : State) (z : Nat) : List Byte :=
  let t := s.cell.tick
  let own := (s.claim.claims.filter (fun c => c.zones.contains z)).flatMap (fun c =>
    let fl := bitIf 0 (c.granted && s.claim.claims.any (fun d => d.gates c && d.zones.contains z)) + bitIf 1 c.reissued
    match c.held.find? (fun h => h.1 == z) with
    | some (_, at') => claimRecord z c.source 3 fl c.reqGtc c.start 0xFFFFFFFF at'
    | none =>
      if !c.granted then claimRecord z c.source 0 fl c.reqGtc c.start c.stop c.applied
      else if t < c.start then claimRecord z c.source 1 fl c.reqGtc c.start c.stop c.applied
      else claimRecord z c.source 2 fl c.reqGtc c.start c.stop c.start)
  own ++ (match s.claim.blocked.find? (fun b => b.1 == z) with
    | some (_, t) => claimRecord z 0 4 0 0 0 0 (t - 1)
    | none => [])

/-- ZONE.STATUS (R271). -/
def runZoneStatus (_ : Hdr) (a : List Byte) (s : State) : State × Reply :=
  let k := uAt a 0 2
  let named := (s.claim.claims.flatMap (fun c => c.zones)) ++ Table.keys s.claim.blocked
  let zs := if k = 0xFFFF then (List.range 4096).filter (named.contains ·) else [k]
  tested s [badLen a 4, badAt 0 (uAt a 2 2 != 0 || (k != 0xFFFF && decide (4096 ≤ k))), liveCell s]
    (dataReply s (toLE 4 s.zoneCrc ++ zs.flatMap s.zoneRecords))

/-- ZONE_STATUS: returns ZONE_CRC and claim records (R271). -/
def execZoneStatus (h : Hdr) (a : List Byte) (s : State) : Result := commitHost 0x0603 runZoneStatus h a s

/-- ZONE.COUNTERS (R272). -/
def runZoneCounters (_ : Hdr) (a : List Byte) (s : State) : State × Reply :=
  let n := uAt a 0 2
  let k := s.claimCount n
  tested s [badLen a 4, badAt 0 (uAt a 2 2 != 0 || (n != 0xFFFF && decide (16 ≤ n))), liveCell s]
    (dataReply s (if n = 0xFFFF then toLE 4 s.claim.revoked ++ toLE 4 s.claim.blockedCount
      else toLE 4 k.requests ++ toLE 4 k.deferred ++ toLE 4 k.claimWaits ++ toLE 4 k.holdovers ++ toLE 4 k.crossed))

/-- ZONE_COUNTERS: returns claim counters (R272). -/
def execZoneCounters (h : Hdr) (a : List Byte) (s : State) : Result := commitHost 0x0604 runZoneCounters h a s

end Sys2Proof.Machine
end

