-- ==== Sys2Proof/Machine/FabricBase.lean ====
section
/-! DEFINITION. What the fabric's rows share: membership, routes and ring states (R508 to R523), frames and their records (R509,
R512, R515), epochs and role changes (R293 to R295), and the end of a membership (R267, R529). The own node is kept as an entry
of the member table while the device is a member. -/

namespace Sys2Proof.Machine

/-! ### Members and rings (R508, R511, R518) -/

/-- The rings of which this device is a member. -/
def State.myRings (s : State) : List Nat := if s.inFabric then [0, 1].filter (bitAt s.fab.mine) else []

/-- The members of the fabric. -/
def State.members (s : State) : List Nat := (s.fab.nodes.filter (fun p => p.2.member)).map Prod.fst

/-- The members on a ring of this device: itself and those whose frames have arrived there (R518). -/
def State.ringMembers (s : State) (r : Nat) : List Nat :=
  (s.fab.nodes.filter (fun p => p.2.member && (p.1 == s.cell.node ||
    decide (s.cell.tick ≤ Table.get 0 p.2.last (2 * r) + 63) || decide (s.cell.tick ≤ Table.get 0 p.2.last (2 * r + 1) + 63)))).map Prod.fst

/-- The nodes heard on a ring in the last 64 cycles (R518). -/
def State.heardOn (s : State) (r : Nat) : List Nat := if bitAt s.fab.mine r then (s.ringMembers r).filter (· != s.cell.node) else []

/-- Whether a frame of a node arrived on a port in the cycle before the present edge (R511, R521). -/
def FabMember.cameOn (m : FabMember) (p tick : Nat) : Bool := Table.get 0 m.last p == tick

/-- The node farthest behind a port among some nodes; this device when there are none (R511). -/
def State.farthest (s : State) (p : Nat) (l : List Nat) : Nat :=
  l.foldl (fun m d => if m = s.cell.node ∨ Table.get 0 (s.fabNode m).dist p < Table.get 0 (s.fabNode d).dist p then d else m) s.cell.node

/-- The state of a ring as the last cycle left it, with BREAK_EAST and BREAK_WEST (R511). A frame that travels west comes in at
port 0 or 2, from the east. -/
def State.ringNow (s : State) (r : Nat) : Nat × Nat × Nat :=
  if !s.myRings.contains r then (0, 0, 0)
  else
    let ds := (s.heardOn r).filter (fun d => (s.fabNode d).asleep.isNone)
    let east (d : Nat) : Bool := (s.fabNode d).cameOn (2 * r) s.cell.tick
    let west (d : Nat) : Bool := (s.fabNode d).cameOn (2 * r + 1) s.cell.tick
    if ds.any (fun d => !east d && !west d) then (3, 0, 0)
    else if ds.all (fun d => east d && west d) then (1, 0, 0)
    else (2, s.farthest (2 * r + 1) (ds.filter (fun d => west d && !east d)), s.farthest (2 * r) (ds.filter (fun d => east d && !west d)))

/-! ### Routes and bridges (R520 to R523) -/

/-- Whether a member is on two rings (R521). -/
def State.bridge (s : State) (d : Nat) : Bool := if d = s.cell.node then s.fab.mine == 3 else (s.fabNode d).rings == 3

/-- Whether a member has announced that it hears another. -/
def State.hears (s : State) (b d : Nat) : Bool := (s.fabNode b).heard.1.contains d || (s.fabNode b).heard.2.contains d

/-- The active bridge of this device's two rings (R521): the lowest node whose frames arrived on both in the last cycle, itself
included. -/
def State.activeBridge (s : State) : Nat :=
  let both (d : Nat) : Bool := d == s.cell.node && s.fab.mine == 3 ||
    (((s.fabNode d).cameOn 0 s.cell.tick || (s.fabNode d).cameOn 1 s.cell.tick) &&
     ((s.fabNode d).cameOn 2 s.cell.tick || (s.fabNode d).cameOn 3 s.cell.tick))
  (lowest 256 (fun d => (s.fabNode d).member && both d)).getD s.cell.node

/-- The route to a node (R520, R523): KIND, first bridge and bridges crossed. -/
def State.route (s : State) (d : Nat) : Nat × Nat × Nat :=
  if d = s.cell.node then (0, 0, 0)
  else if (s.heardOn 0).contains d then (1, 0, 0)
  else if (s.heardOn 1).contains d then (2, 0, 0)
  else
    let near := s.members.filter (fun b => s.bridge b && ((s.heardOn 0).contains b || (s.heardOn 1).contains b))
    match near.find? (fun b => s.hears b d) with
    | some b => (3, b, 1)
    | none =>
      match near.find? (fun b => s.members.any (fun c => s.bridge c && s.hears b c && s.hears c d)) with
      | some b => (3, b, 2)
      | none => (0, 0, 0)

/-- The hops to a node, or to the first bridge, in the shorter direction (FAB_ROUTE). -/
def State.routeHops (s : State) (d : Nat) : Nat :=
  let r := s.route d
  let m := s.fabNode (if r.1 = 3 then r.2.1 else d)
  let hops := ([0, 1, 2, 3].map (fun p => Table.get 0 m.dist p)).filter (· != 0)
  if r.1 = 0 then 0 else hops.foldl min 63

/-- The rings on which a frame is sent (R520). -/
def State.ringsTo (s : State) (dst : Option Nat) : List Nat :=
  match dst with
  | none => s.myRings
  | some d =>
    let direct := s.myRings.filter (fun r => (s.heardOn r).contains d)
    if direct != [] then direct
    else
      let r := s.route d
      if r.1 = 3 then (s.myRings.filter (fun k => (s.heardOn k).contains r.2.1)).take 1 else []

/-! ### Frames (R508, R509, R512, R515) -/

/-- HOPS at insertion (R509, R551). -/
def State.hopsOn (s : State) (r : Nat) : Nat := if s.fab.join.stage = 5 ∨ s.fab.join.stage = 6 then 63 else (s.ringMembers r).length - 1

/-- A frame is inserted on both ports of a ring at once (R508). -/
def insertOn (r : Nat) (f : FabFrame) (s : State) : State :=
  let f := { f with ringB := r == 1, hops := s.hopsOn r }
  (s.send (.fabric (2 * r) { f with west := false })).send (.fabric (2 * r + 1) { f with west := true })

/-- A new frame of this device, which takes the next SEQ (R512). -/
def newFrame (dst : Option Nat) (body : FabBody) (s : State) : FabFrame × State :=
  ({ dst := dst.getD 0, bcast := dst.isNone, src := s.cell.node, epoch := s.cell.epoch, cycle := wrap 32 s.cell.tick, seq := s.fab.seq, body := body },
   { s with fab := { s.fab with seq := wrap 16 (s.fab.seq + 1) } })

/-- RTYPE (R515). -/
def recType : FabRec → Nat
  | .announce .. => 1
  | .fwd _ => 2
  | .digest .. => 3
  | .slice _ => 4
  | .claim .. => 5
  | .master .. => 6
  | .mbx .. => 7
  | .bulk .. => 8
  | .bulkAck .. => 9
  | .failed => 10
  | .takeover _ => 10
  | .cellCfg .. => 11
  | .leave => 12
  | .unknown => 0xFF

/-- Where a record stands in a slot's packing (R515): DECLARE first, BULK_ACK and BULK last. -/
def recOrder (r : FabRec) : Nat :=
  match recType r with
  | 10 => 0
  | 9 => 20
  | 8 => 21
  | n => n

/-- The octets of a FWD record (R276). -/
def fwdSize (f : FwdSet) : Nat := 16 + 8 * f.delivery.length + 4 * f.switches.length + 12 * f.captures.length + 2 * f.codes.length + 12 * f.inputs.length

/-- The octets of a SLICE record (R281). -/
def sliceSize (f : FabSlice) : Nat :=
  (f.axes.map (fun p => 656 + 32 * p.2.queue.published.length)).foldl (· + ·) 0 + 1024 * f.arms.length

/-- The body octets of a record (R276, R280, R281, R518, R530, R531); where the spec gives no length it is a constant of the
configuration (log entry 47). -/
def recBody (r : FabRec) : Nat :=
  match r with
  | .announce .. => 84
  | .fwd f => fwdSize f
  | .digest .. => 256
  | .slice f => sliceSize f
  | .mbx .. => 8
  | .bulk _ _ _ n => 12 + n
  | .bulkAck .. => 8
  | .leave => 0
  | r => Config.recLen (recType r)

/-- The octets of a record in a frame (R515). -/
def recSize (r : FabRec) : Nat := 4 + (recBody r + 3) / 4 * 4

/-- LEN of a slot frame's payload. -/
def payloadLen (l : List FabRec) : Nat := (l.map recSize).foldl (· + ·) 0

/-- Whether a record is one that is never relayed (R524). -/
def directOnly (r : FabRec) : Bool := [2, 3, 4].contains (recType r)

/-! ### Announcements (R518) -/

/-- This device's announcement. -/
def State.announcement (s : State) : FabRec := .announce s.cell.uid s.cell.role s.fab.mine (s.heardOn 0) (s.heardOn 1)

/-- An ANNOUNCE record waits for the next own slot (R518); a newer one takes the place of one that waits. -/
def announce (s : State) : State :=
  if !s.inFabric then s
  else
    let old := s.fab.waiting.filter (fun p => recType p.2 != 1)
    { s with fab := { s.fab with waiting := old ++ [(none, s.announcement)] } }

/-! ### Epochs and roles (R293 to R295, R647) -/

/-- The signed difference of two epochs (R293). -/
def epochDiff (a b : Nat) : Int := toS 32 (a + 2 ^ 32 - wrap 32 b)

/-- The epoch and role are kept in the journal over any loss of power (R294, R621): the model's own layout (log entry 50). -/
def keepRole (s : State) : State := s.retain 9 0 (toLE 4 s.cell.epoch ++ toLE 1 s.cell.role ++ toLE 1 s.cell.node ++ toLE 1 s.pair.peer)

/-- A device takes a role, with its ROLE record, whose page is committed at once (R294, R614). -/
def takeRole (role : Nat) (s : State) : State :=
  let old := s.cell.role
  let s := { s with cell := { s.cell with role := role }, pair := { s.pair with lastChange := wrap 32 s.cell.tick } }
  let s := s.record 0 0x0020 (toLE 4 s.cell.epoch ++ toLE 1 old ++ toLE 1 role ++ toLE 1 s.cell.node ++ toLE 1 s.pair.peer)
  keepRole (s.updFabNode s.cell.node (fun m => { m with role := role })).commitJournal

/-- The epoch advances by a number of role changes at the edge of the present cycle (R293, R514). -/
def advanceEpoch (n : Nat) (s : State) : State :=
  let e := wrap 32 (s.cell.epoch + n)
  { s with cell := { s.cell with epoch := e }, fab := { s.fab with thisEpoch := e } }

/-- A role change of this device (R293). -/
def roleChange (role : Nat) (s : State) : State := takeRole role (advanceEpoch 1 s)

/-- A primary with a shadow has a failure declaration to send (R283). -/
def declareFailed (s : State) : State := if s.pair.role = 1 then { s with pair := { s.pair with declare := true } } else s

/-- The pair state of a device without one; its counters stand (R300). -/
def PairState.none (p : PairState) : PairState :=
  { p with role := 0, peer := 0, lines := [], since := .none, suspect := false, diverged := 0, agreed := 0, missRun := 0, echoRun := 0, declare := false
           takeAt := .none, switchAt := .none, fwd := .none, own := .none, theirs := .none, slice := .none, blocks := [], commits := [] }

/-- Dual-homed lines lose their cut-off and watch end (R274). -/
def dropLines (s : State) : State := s.pair.lines.foldl (fun s l => s.updNet l.net (fun n => { n with dual := none })) s

/-- Every axis that is not DISABLED leaves its mode, and the cell is in STANDBY unless it was in CONFIG (R647) or has not ended
its start-up or its sleep. -/
def standDown (s : State) : State :=
  let s := (s.motion.axes.filter (fun p => p.2.mode != 0)).foldl (fun s p => leaveToDisabled p.1 s) s
  let s := if s.cell.state = 7 then leavePartial s else s
  if [1, 2, 3, 6, 8].contains s.cell.state then s else s.enterCell 3

/-- A device becomes a listener other than by joining a pair (R284, R295, R647): it transmits no cyclic frame on its lines. -/
def enterListen (s : State) : State :=
  let s := if s.pair.since.isSome then s.completeCmd 0x0906 (fun _ => true) { status := St.notSynced } else s
  let s := { s with pair := { s.pair with silent := true } }
  let s := takeRole 3 s
  standDown { s with pair := s.pair.none }

/-- A device that hears a higher epoch is stale (R295). It takes the fabric's epoch only by joining (R297). -/
def becomeStale (s : State) : State :=
  let s := if s.pair.role = 0 then s else s.event 0 0x8903 0 (toLE 1 s.pair.peer)
  if s.cell.role = 3 ∧ s.pair.role = 0 then { s with pair := { s.pair with silent := true } } else enterListen s

/-! ### Leaving and departing (R267, R269, R521, R529, R537) -/

/-- A member is no longer one (R529). -/
def removeMember (d : Nat) (s : State) : State :=
  let s := s.updFabNode d (fun m => { m with member := false, rings := 0, heard := ([], []), leaveAt := none, asleep := none, restoreAt := none, missed := 0
                                             ann := none, last := [], dist := [] })
  { s with fab := { s.fab with coldOk := s.fab.coldOk.filter (· != d), sending := s.fab.sending.filter (fun b => b.peer != d)
                               receiving := s.fab.receiving.filter (fun b => b.peer != d) } }

/-- A device leaves the fabric (R529): role 7, no insertion; its node ID is remembered in the journal (R517). -/
def leaveFabric (s : State) : State :=
  let s := takeRole 7 s
  let s := s.members.foldl (fun s d => removeMember d s) s
  { s with
    cell := { s.cell with nodeValid := false }
    fab := { s.fab with mine := 0, waiting := [], relays := [], copies := []
                        sending := [], receiving := [], join := {}, serving := [], windows := [], changes := [], leaves := wrap 32 (s.fab.leaves + 1)
                        listenOnly := false, cutAt := [], active := false, sleep := {}, coldOk := [] }
    pair := s.pair.none }

/-- The claims of a device pass to the one that took it over (R269): at the new primary they become its own. -/
def adoptClaims (node by_ : Nat) (s : State) : State :=
  if by_ = s.cell.node then { s with claim := { s.claim with adopted := (s.claim.adopted ++ [node]).eraseDups } }
  else { s with claim := { s.claim with taken := (s.claim.taken ++ [node]).eraseDups } }

end Sys2Proof.Machine
end

