-- ==== Sys2Proof/Machine/SafetyBlock.lean ====
section
/-! DEFINITION. The safety block read from its octets (R243 to R245). A reader takes the octets and a place in them and gives a
value and the next place, or the offset of the first field that fails its range. -/

namespace Sys2Proof.Machine

/-- A reader of a block. -/
abbrev Parse := StateT Nat (Except Nat)

/-- An unsigned field of `n` octets within a range; 0 takes the default (R244). -/
def pU (a : List Byte) (n lo hi : Nat) (dflt : Nat := 0) : Parse Nat := do
  let i ← get
  let v := if uAt a i n = 0 then dflt else uAt a i n
  if a.length < i + n ∨ v < lo ∨ hi < v then throw i
  set (i + n)
  return v

/-- Any value of an unsigned field. -/
def pAny (a : List Byte) (n : Nat) : Parse Nat := pU a n 0 (2 ^ (8 * n))

/-- A flag octet. -/
def pFlag (a : List Byte) : Parse Bool := do return (← pU a 1 0 1) == 1

/-- A signed field of `n` octets. -/
def pS (a : List Byte) (n : Nat) : Parse Int := do
  let i ← get
  if a.length < i + n then throw i
  set (i + n)
  return sAt a i n

/-- A position: arm or world (R60). -/
def pVec (a : List Byte) : Parse Vec3 := do
  let i ← get
  if (badVec a i).1 ∨ a.length < i + 12 then throw i
  set (i + 12)
  return vec3At a i

/-- A quaternion (R61). -/
def pQuat (a : List Byte) : Parse Quat := do
  let i ← get
  if (badQuat a i).1 ∨ a.length < i + 16 then throw i
  set (i + 16)
  return quatAt a i

/-- A unit direction (R66). -/
def pDir (a : List Byte) : Parse FVec3 := do
  let i ← get
  if (badDir a i).1 ∨ a.length < i + 12 then throw i
  set (i + 12)
  let f (k : Nat) : BitVec 32 := BitVec.ofNat 32 (store32 (uAt a (i + k) 4))
  return { x := f 0, y := f 4, z := f 8 }

/-- A positive binary32 value. -/
def pPos (a : List Byte) : Parse Nat := do
  let i ← get
  if (badSign a i true).1 ∨ a.length < i + 4 then throw i
  set (i + 4)
  return store32 (uAt a i 4)

/-- A record read `n` times. -/
def pMany {α : Type} : Nat → Parse α → Parse (List α)
  | 0, _ => return []
  | n + 1, p => do
    let x ← p
    let r ← pMany n p
    return x :: r

/-- A source record (R244). -/
def pSource (a : List Byte) : Parse GlmSource := do
  let addr ← pU a 2 1 0xFFFE
  let kind ← pU a 1 0 1
  let net ← pU a 1 0 31
  let tmo ← pU a 4 250 500000
  let link ← pU a 2 0 10000
  let age ← if kind = 1 then pU a 4 1 200000 else pAny a 4
  let react ← if kind = 0 then pU a 2 0 20000 else pAny a 2
  let lag ← if kind = 0 then pU a 1 0 16 else pAny a 1
  let intr ← if kind = 1 then pU a 2 0 1200 else pAny a 2
  let mn ← pVec a
  let mx ← pVec a
  let mask ← pAny a 2
  return { addr := addr, kind := kind, network := net, timeoutUs := tmo, linkMaxUs := link, maxAgeUs := age, driveReactUs := react
           lagTicks := lag, intrusionC := intr, fieldMin := mn, fieldMax := mx, armMask := mask }

/-- A joint record (R244): a carrier is joint 1 only. -/
def pJoint (a : List Byte) (nSrc : Nat) (first : Bool) : Parse GlmJoint := do
  let axis ← pU a 2 0 511
  let src ← pU a 1 0 (nSrc - 1)
  let type ← pU a 1 0 1
  let car ← pU a 1 0 (if first then 1 else 0)
  let dir ← pU a 1 0 1
  let om ← pDir a
  let pt ← pVec a
  let i ← get
  let inc ← pS a 8
  if inc ≤ 0 then throw i
  let zero ← pS a 8
  let tol ← pU a 8 1 (2 ^ 64)
  let zv ← pU a 4 1 (2 ^ 32)
  let d1 ← pPos a
  let d0 ← pPos a
  return { axis := axis, src := src, type := type, carrier := car, dir := dir, omega := om, point := pt, incPerUnit := inc, zero := zero
           posTol := tol, zeroVel := zv, stopDec := d1, stop0Dec := d0 }

/-- A capsule record (R244). -/
def pCapsule (a : List Byte) (nj : Nat) : Parse GlmCapsule := do
  let link ← pU a 1 0 nj
  let mask ← pAny a 1
  let p1 ← pVec a
  let p2 ← pVec a
  let r ← pU a 4 1 1000000
  return { link := link, toolMask := mask, p1 := p1, p2 := p2, radius := r }

/-- An arm record with its joint and capsule records (R243, R244). -/
def pArm (a : List Byte) (nSrc : Nat) : Parse GlmArm := do
  let arm ← pU a 1 0 15
  let col ← pFlag a
  let nj ← pU a 1 1 9
  let nc ← pU a 1 1 10
  let bp ← pVec a
  let br ← pQuat a
  let hp ← pVec a
  let hr ← pQuat a
  let fm ← pVec a
  let fx ← pVec a
  let j0 ← pJoint a nSrc true
  let js ← pMany (nj - 1) (pJoint a nSrc false)
  let cs ← pMany nc (pCapsule a nj)
  return { arm := arm, collabEn := col, joints := j0 :: js, capsules := cs, basePos := bp, baseRot := br, homePos := hp, homeRot := hr
           fieldMin := fm, fieldMax := fx }

/-- An auxiliary-group record (R244). -/
def pGroup (a : List Byte) : Parse GlmGroup := do
  let g ← pU a 1 0 15
  let n ← pU a 1 1 64
  let link ← pAny a 2
  let axes ← pMany n (pU a 2 0 511)
  return { group := g, armLink := link, axes := axes }

/-- A static-volume record (R244). -/
def pVolume (a : List Byte) : Parse GlmVolume := do
  let kind ← pU a 1 0 1
  let shape ← pU a 1 0 1
  let mask ← pAny a 2
  let p ← pVec a
  let q ← pVec a
  let i ← get
  let r ← pS a 4
  if r < 0 then throw i
  let e ← pAny a 2
  return { kind := kind, shape := shape, armMask := mask, a := p, b := q, radius := r.toNat, extra := e }

/-- A safe-input record (R237, R244). -/
def pInput (a : List Byte) : Parse GlmInput := do
  let pair ← pU a 1 0 31
  let fn ← pU a 1 0 5
  let anti ← pFlag a
  let i ← get
  let tp ← pAny a 1
  if 3 < tp ∧ tp ≠ 0xFF then throw i
  let filt ← pU a 2 50 5000
  let disc ← pU a 2 1 1000
  let cat ← pU a 1 0 (if fn = 1 then 1 else 2)
  let auto ← pFlag a
  let am ← pAny a 2
  let gm ← pAny a 2
  return { pair := pair, function := fn, antivalent := anti, tp := tp, filtUs := filt, discMs := disc, cat := cat, auto := auto
           armMask := am, auxMask := gm }

/-- A safe-output record (R239, R244). -/
def pOutput (a : List Byte) : Parse GlmOutput := do
  let pair ← pU a 1 0 31
  let fn ← pU a 1 0 3
  let w ← pU a 2 100 1000
  let p ← pU a 2 100 60000
  let am ← pAny a 2
  let gm ← pAny a 2
  let i ← get
  let ax ← pAny a 2
  if 511 < ax ∧ ax ≠ 0xFFFF then throw i
  return { pair := pair, function := fn, otpWUs := w, otpPeriodMs := p, armMask := am, auxMask := gm, axis := ax }

/-- Grade rows: M_MM strictly descending to 0, F strictly descending and above 0 (R231). -/
def pGrades (a : List Byte) (n : Nat) : Parse (List (Nat × Nat)) := do
  let i ← get
  let l ← pMany n (do
    let m ← pAny a 2
    let f ← pU a 2 1 0x8000
    return (m, f))
  if (l.zip (l.drop 1)).any (fun p => decide (p.1.1 ≤ p.2.1) || decide (p.1.2 ≤ p.2.2)) ∨ (l.getLast?.map (fun g => g.1 != 0)).getD true then throw i
  return l

/-- A whole block (R243, R244). -/
def pBlock (a : List Byte) : Parse GlmBlock := do
  let _ ← pU a 2 1 1
  let _ ← pU a 2 0 0
  let i ← get
  let len ← pU a 4 32 262144
  if len ≠ a.length ∨ len % 4 ≠ 0 then throw i
  let id ← pAny a 4
  let nSrc ← pU a 2 1 144
  let nArm ← pU a 1 0 16
  let nGrp ← pU a 1 0 16
  let nVol ← pU a 2 0 256
  let nIn ← pU a 1 0 32
  let nOut ← pU a 1 0 32
  let nGrade ← pU a 1 1 8
  let _ ← pU a 11 0 0
  let addr ← pU a 2 1 0xFFFE
  let hs ← pU a 2 1600 4000 1600
  let hor ← pU a 1 16 240 64
  let pc ← pU a 1 1 2
  let fc ← pU a 1 0 1
  let zr ← pU a 2 0 500
  let zd ← pU a 2 0 500
  let win ← pU a 1 1 64 8
  let st ← pU a 2 10 5000
  let rs ← pU a 2 1 65535
  let ra ← pU a 2 1 65535
  let hy ← pU a 2 0 1000
  let tw ← pU a 2 100 1000
  let tp ← pU a 2 10 1000
  let grid ← pVec a
  let i ← get
  let srcs ← pMany nSrc (pSource a)
  if !(srcs.map (fun s => s.addr)).Nodup ∨ srcs.any (fun s => s.addr == addr) ∨ 16 < (srcs.filter (fun s => s.kind == 1)).length then throw i
  let arms ← pMany nArm (pArm a nSrc)
  let groups ← pMany nGrp (pGroup a)
  let vols ← pMany nVol (pVolume a)
  let ins ← pMany nIn (pInput a)
  let outs ← pMany nOut (pOutput a)
  let grades ← pGrades a nGrade
  let e ← get
  if a.length < e ∨ e + 4 ≤ a.length ∨ !zerosAt a e (a.length - e) then throw 4
  return { id := id, addr := addr, humanSpeed := hs, horizon := hor, pstopCat := pc, faultCat := fc, zrConst := zr, zdAdd := zd, seqWin := win
           stop1Max := st, restartCycles := rs, raiseCycles := ra, hystMm := hy, tpWUs := tw, tpPeriodMs := tp, gridOrigin := grid
           sources := srcs, arms := arms, groups := groups, volumes := vols, inputs := ins, outputs := outs, grades := grades }

/-- A safety block from its octets: the block with its CRC, or the offset of the first failing field (R245). -/
def parseBlock (a : List Byte) : Except Nat GlmBlock :=
  match (pBlock a).run 0 with
  | .ok (b, _) => .ok { b with crc := crcFold a.length a, raw := a }
  | .error i => .error i

end Sys2Proof.Machine
end

