-- ==== Sys2Proof/Machine/SafeCmds.lean ====
section
/-! DEFINITION. The SAFE commands of the host (R245, R246, R248, R351), and the test of a data bank (R328). -/

namespace Sys2Proof.Machine

/-- A data bank that is not a host bank of the issuing port held for it (R328). -/
def badBank (h : Hdr) (a : List Byte) (i : Nat) (s : State) : Test :=
  let p := s.port h.port
  let b := uAt a i 2
  (!(bitAt p.banks b && bitAt p.held b), St.bankNotHeld, 32 + i)

/-- The octets of a data bank from an offset (R328). -/
def State.bankOctets (s : State) (b ofs n : Nat) : List Byte := s.memGet (b * 0x80000 + ofs) n

/-- SAFE.LOAD (R245): both copies are compared, the block is read and becomes the pending one. -/
def runSafeLoad (h : Hdr) (a : List Byte) (s : State) : State × Reply :=
  let o1 := uAt a 4 4
  let o2 := uAt a 8 4
  let n := uAt a 12 4
  let c1 := s.bankOctets (uAt a 0 2) o1 n
  let c2 := s.bankOctets (uAt a 0 2) o2 n
  let same := (c1.zip c2).all (fun p => p.2 == ~~~p.1)
  tested s [badLen a 16, badSubject a 0 64, badBank h a 0 s, badAt 4 (decide (0x80000 < o1 + n)), badAt 8 (decide (0x80000 < o2 + n)),
      badAt 12 (n % 4 != 0 || n == 0 || decide (262144 < n)), shadowed h s, liveCell s, (!same, St.safeCopyMismatch, 0)]
    (match parseBlock c1 with
     | .error i => (s, { status := St.safeParam, detail := i, later := true })
     | .ok b => ({ s with glume := { s.glume with pendingBlock := some (b, s.gtc) } }, { data := toLE 4 b.crc, later := true }))

/-- SAFE_LOAD: passes two copies of a safety block to the Glume as the pending block (R245). -/
def execSafeLoad (h : Hdr) (a : List Byte) (s : State) : Result := commitHost 0x0501 runSafeLoad h a s

/-- The axes of a unit: under the active block, or the arm's own joints without one. -/
def State.safeAxes (s : State) (u : Nat) : List Nat :=
  s.block.unitAxes u ++ (if u < 16 then (s.arm u).axes else [])

/-- SAFE.CONFIRM (R246): the pending block becomes active at the next safety-cycle edge. -/
def runSafeConfirm (h : Hdr) (a : List Byte) (s : State) : State × Reply :=
  let quiet (u : Nat) : Bool := decide (2 ≤ (s.gunit u).state) || (s.safeAxes u).all (fun ax => (s.axis ax).mode == 0)
  let crc := s.glume.pendingBlock.map (fun p => p.1.crc)
  tested s [badLen a 4, (crc != some (uAt a 0 4), St.safeCrcMismatch, 0), shadowed h s, liveCell s, badState !(s.units.all quiet)]
    (okReply { s with glume := { s.glume with confirmed := s.glume.pendingBlock.map Prod.fst } })

/-- SAFE_CONFIRM: confirms the pending safety block by CRC (R246). -/
def execSafeConfirm (h : Hdr) (a : List Byte) (s : State) : Result := commitHost 0x0502 runSafeConfirm h a s

/-- The items of R248 of one arm or group (log entry 38): its number, state, factor, margin and the causes with their GTC. -/
def State.unitReport (s : State) (u : Nat) : List Byte :=
  let v := s.gunit u
  toLE 1 u ++ toLE 1 v.state ++ toLE 2 v.factor ++ toLEs 4 v.margin ++ toLE 1 v.causes.length ++ toLE 3 0 ++
    v.causes.flatMap (fun c => toLE 1 c.1 ++ toLE 1 c.2.2 ++ toLE 2 0 ++ toLE 8 c.2.1)

/-- SAFE.STATUS (R248, R351). -/
def runSafeStatus (_ : Hdr) (a : List Byte) (s : State) : State × Reply :=
  tested s [badLen a 0, liveCell s] (dataReply s (toLE 4 s.block.id ++ toLE 4 s.block.crc ++ s.units.flatMap s.unitReport))

/-- SAFE_STATUS: returns Glume states, causes and block identity (R248). -/
def execSafeStatus (h : Hdr) (a : List Byte) (s : State) : Result := commitHost 0x0503 runSafeStatus h a s

/-- The counters of R248 in its table's order (log entry 38). -/
def State.safeCounters (s : State) : List Byte :=
  let b := s.block
  let srcs := List.range b.sources.length
  srcs.flatMap (fun k =>
    let v := s.gsrc k
    toLE 4 v.accepted ++ toLE 4 v.badCheck ++ toLE 4 v.badAddr ++ toLE 4 v.badSeq ++ toLE 4 v.badAge ++ toLE 4 v.badForm ++ toLE 4 v.timeouts ++
      (if (b.sources.getD k {}).kind = 1 then toLE 4 v.scanInvalid else [])) ++
    toLE 4 s.glume.disagree ++
    s.units.flatMap (fun u =>
      let v := s.gunit u
      toLE 4 v.clearTrunc ++ (if u < 16 then toLE 4 v.gradeDown else []) ++ toLE 4 v.stops) ++
    b.inputs.flatMap (fun i => toLE 4 (s.safeIn i.pair).ignored)

/-- SAFE.COUNTERS (R248). -/
def runSafeCounters (_ : Hdr) (a : List Byte) (s : State) : State × Reply :=
  tested s [badLen a 0, liveCell s] (dataReply s s.safeCounters)

/-- SAFE_COUNTERS: returns the Glume counters (R248). -/
def execSafeCounters (h : Hdr) (a : List Byte) (s : State) : Result := commitHost 0x0504 runSafeCounters h a s

end Sys2Proof.Machine
end

