-- ==== Sys2Proof/Machine/Images.lean ====
section
/-! DEFINITION. Lathe images (R357, R358, R372), the flow contexts an engine holds (R361), the environment block (R468), and the LATHE
commands (R359, R360, R369, R371, R375 to R377). -/

namespace Sys2Proof.Machine

/-! ### Images (R357, R358) -/

/-- The active slot of an entry of the image store; empty with none (R360). -/
def StoreEntry.octets (e : StoreEntry) : List Byte := if e.active = 1 then e.slotA else if e.active = 2 then e.slotB else []

/-- The octets of an image that its header gives it (R357). -/
def imageLen (bs : List Byte) : Nat := 256 + uAt bs 20 4 + uAt bs 24 4 + 8 * uAt bs 32 2

/-- Whether the header's fields and lengths are in order (R358, check 1). -/
def headerFine (bs : List Byte) : Bool :=
  let code := uAt bs 20 4
  let init := uAt bs 24 4
  uAt bs 0 4 == 0x4854414C && uAt bs 4 2 == 1 && uAt bs 6 2 == 256 && decide (uAt bs 19 1 ≤ 1) && decide (16 ≤ code) && decide (code ≤ 65536) &&
    code % 16 == 0 && decide (init ≤ 253952) && init % 16 == 0 && decide (uAt bs 28 2 ≤ 512) && decide (uAt bs 32 2 ≤ 64) && decide (uAt bs 34 2 < 64) &&
    zerosAt bs 46 2 && zerosAt bs 56 4 && zerosAt bs 128 32 && (uAt bs 19 1 == 1 || zerosAt bs 60 68) && decide (imageLen bs ≤ bs.length) &&
    decide (imageLen bs ≤ 0x80000)

/-- The migration entries of a body (R372). -/
def migEntries (body : List Byte) (ofs n : Nat) : List (Nat × Nat × Nat) :=
  (List.range n).map (fun i => (uAt body (ofs + 8 * i) 2, uAt body (ofs + 8 * i + 2) 1, uAt body (ofs + 8 * i + 3) 1))

/-- Whether a migration table is well formed (R372). -/
def migFine (l : List (Nat × Nat × Nat)) (entry : Nat) : Bool :=
  let keys := l.map (fun e => (e.1, e.2.1))
  decide (keys.eraseDups.length = keys.length) && l.all (fun e => decide (e.2.2 ≤ 2) && !(e.2.2 == 1 && entry == 0xFFFF))

/-- An image as its octets give it, with its body in plain. -/
def imageOf (bs body : List Byte) : Image :=
  let code := uAt bs 20 4
  let init := uAt bs 24 4
  { id := uAt bs 8 4, version := uAt bs 12 4, minSheaf := uAt bs 16 2, keyId := uAt bs 18 1, enc := uAt bs 19 1
    code := body.take code, init := (body.drop code).take init, mig := migEntries body (code + init) (uAt bs 32 2)
    ctxMax := uAt bs 28 2, ctxFormat := uAt bs 30 2, caps := uAt bs 34 2, entryInit := uAt bs 36 2, entryPhase := uAt bs 38 2
    entryRx := uAt bs 40 2, entryBg := uAt bs 42 2, entryMigrate := uAt bs 44 2, cycTx := uAt bs 48 4, cycMigrate := uAt bs 52 4 }

/-- The checks of R358 in order: the image, or the DETAIL of the first that fails. -/
def checkImage (bs : List Byte) (s : State) : Image ⊕ Nat :=
  let body := octets bs 256 (imageLen bs - 256)
  let plain := if uAt bs 19 1 = 1 then Config.imgPlain (bs.take (imageLen bs)) else some body
  if !headerFine bs then .inr 1
  else if 1 < uAt bs 18 1 ∨ (uAt bs 18 1 = 1 ∧ s.custKey = none) then .inr 2
  else if !Config.imgSigned (if uAt bs 18 1 = 1 then s.custKey.getD [] else []) (bs.take (imageLen bs)) then .inr 3
  else match plain with
    | none => .inr 4
    | some body =>
      let i := imageOf bs body
      let inside (e : Nat) : Bool := decide (e < uAt bs 20 4)
      if s.cell.fwRelease < i.minSheaf then .inr 5
      else if !(inside i.entryInit && inside i.entryPhase && inside i.entryRx && inside i.entryBg && (i.entryMigrate == 0xFFFF || inside i.entryMigrate)) then .inr 6
      else if !migFine i.mig i.entryMigrate then .inr 7
      else .inl i

/-- The header of the image in a store entry, for the tests that need no more (R357). -/
def State.stored (s : State) (n : Nat) : Image := imageOf (s.image n).octets []

/-! ### Reservations (R361) -/

/-- The contexts that no engine holds, lowest first. -/
def State.freeCtxs (s : State) : List Nat := (List.range 1024).filter (fun i => (s.ctx i).owner.isNone)

/-- Whether an engine's reservation can hold `n` contexts. -/
def State.canReserve (s : State) (e n : Nat) : Bool := decide (n ≤ (s.lathe e).ctxs.length + s.freeCtxs.length)

/-- An engine's reservation extended or trimmed to `n` contexts: the lowest free ones are taken, the highest given up (R361, R369). -/
def reserveCtxs (e n : Nat) (s : State) : State :=
  let have_ := (s.lathe e).ctxs
  let take := s.freeCtxs.take (n - have_.length)
  let s := (have_.drop n).foldl (fun s i => s.setCtx i {}) s
  let s := take.foldl (fun s i => s.setCtx i { owner := some e }) s
  let keep := (List.range 1024).filter (fun i => (have_.take n).contains i || take.contains i)
  s.updLathe e (fun l => { l with ctxs := keep })

/-! ### The environment block (R468) -/

/-- The networks an engine serves, ascending. -/
def State.engineNets (s : State) (e : Nat) : List Nat := (List.range 32).filter (fun n => (s.net n).defined && (s.net n).engine == e)

/-- Where a network's parameters stand in the block. -/
def State.paramOfs (s : State) (e n : Nat) : Nat :=
  3348 + (((s.engineNets e).filter (fun m => decide (m < n))).map (fun m => (s.net m).params.length)).foldl (· + ·) 0

/-- The record of a network, 64 octets. -/
def State.netRecord (s : State) (e n : Nat) : List Byte :=
  let k := s.net n
  let d := k.dual.getD (k.deadlineNs, 0xFFFFFFFF)
  let b := toLE 1 n ++ toLE 1 k.cycleDiv ++ toLE 1 k.cyclePhase ++ toLE 1 k.portA ++ toLE 1 k.portB ++ toLE 1 k.can ++ toLE 1 k.groups ++ toLE 1 k.tb ++
    toLE 4 k.deadlineNs ++ toLE 4 d.1 ++ toLE 4 d.2 ++ toLE 2 k.outFirst ++ toLE 2 k.outs.length ++ toLE 2 k.inFirst ++ toLE 2 k.ins.length ++
    toLE 2 (s.paramOfs e n) ++ toLE 2 k.params.length
  b ++ List.replicate (64 - b.length) 0

/-- An entry of the slot table, 8 octets. -/
def NetSlot.octets (x : NetSlot) : List Byte := toLE 2 x.ofs ++ toLE 1 x.len ++ toLE 1 x.order ++ toLE 1 x.format ++ [0, 0, 0]

/-- Octets filled up with zeros to a length. -/
def padTo (n : Nat) (bs : List Byte) : List Byte := (bs ++ List.replicate (n - bs.length) 0).take n

/-- The environment block of an engine (R468). -/
def State.envBlock (s : State) (e : Nat) : List Byte :=
  let l := s.lathe e
  let ns := s.engineNets e
  let ctxs := (l.ctxs.take 512).flatMap (toLE 2)
  padTo 8192 (toLE 1 e ++ toLE 1 ns.length ++ toLE 1 s.cell.node ++ toLE 1 (if s.isShadow then 1 else 0) ++ toLE 4 s.tickLen ++ toLE 4 s.cell.epoch ++
    toLE 4 l.envGen ++ padTo 256 (ns.flatMap (s.netRecord e)) ++ toLE 2 l.ctxs.length ++ [0, 0] ++ padTo 1024 ctxs ++
    padTo 1024 (ns.flatMap (fun n => (s.net n).outs.flatMap NetSlot.octets)) ++ padTo 1024 (ns.flatMap (fun n => (s.net n).ins.flatMap NetSlot.octets)) ++
    ns.flatMap (fun n => (s.net n).params))

/-- The Sheaf rewrites an engine's block at every change, ENV_GEN last (R468); a loaded shadow half has its own (R374). -/
def syncEnv (e : Nat) (s : State) : State :=
  let l := s.lathe e
  let put (half : Nat) (s : State) : State := s.memPut (dataHalf e half) (s.envBlock e)
  if !l.loaded && !l.shadowLoaded then s
  else
    let half := if l.loaded then l.live else 1 - l.live
    let old := s.memGet (dataHalf e half) 8192
    if old = s.envBlock e then s
    else
      let s := s.updLathe e (fun l => { l with envGen := wrap 32 (l.envGen + 1) })
      let s := if l.loaded then put l.live s else s
      if l.shadowLoaded then put (1 - l.live) s else s

/-! ### Cycles (R368, R371) -/

/-- The cut-off of a network (R274, R468). -/
def Network.cutoff (n : Network) : Nat := (n.dual.map Prod.fst).getD n.deadlineNs

/-- Whether the CYC_TX of an engine's networks, under an image, fit the cycles from the output seal to the earliest cut-off, 500 a
microsecond (R368). -/
def State.cyclesFit (s : State) (e cycTx : Nat) : Bool :=
  let ns := s.engineNets e
  let first := (ns.map (fun n => (s.net n).cutoff)).foldl min s.tickLen
  decide (ns.length * cycTx * 2 ≤ first - sealOfs s.cell.tickSel)

/-! ### LATHE.STORE, LATHE.LOAD and LATHE.SWAP (R360, R369, R371) -/

/-- LATHE.STORE (R360): the image is checked and its write into the inactive slot begins; LONG_COMMAND_COMPLETE ends it. -/
def runLatheStore (h : Hdr) (a : List Byte) (s : State) : State × Reply :=
  let n := uAt a 0 2
  let bs := s.bankOctets (uAt a 4 2) 0 0x80000
  let x := s.image n
  let r := checkImage bs s
  let why := match r with
    | .inr d => d
    | .inl _ => 0
  let bs := bs.take (imageLen bs)
  let s' := s.setImage n (if x.active = 1 then { x with slotB := bs } else { x with slotA := bs })
  tested s [badLen a 8, badSubject a 0 24, (uAt a 6 2 != 0, St.badParam, 38), badBank h a 4 s, shadowed h s, liveCell s,
      (why != 0, St.imageRejected, why), (s.power.inhibit, St.imageRejected, 8)] (s', { later := true })

/-- LATHE_STORE: checks and writes an image into a store entry (R360). -/
def execLatheStore (h : Hdr) (a : List Byte) (s : State) : Result := commitHost 0x0801 runLatheStore h a s

/-- The written slot has been compared (R360): only then does it become the active one. -/
def storeFinish (a : List Byte) (same : Bool) (s : State) : State × Reply :=
  let n := uAt a 0 2
  if !same then (s, { status := St.imageRejected, detail := 8 })
  else okReply (s.updImage n (fun x => { x with active := if x.active = 1 then 2 else 1 }))

/-- LATHE.LOAD (R369): checked again; the banks are written by completion. -/
def runLatheLoad (h : Hdr) (a : List Byte) (s : State) : State × Reply :=
  let e := uAt a 0 2
  let n := uAt a 4 2
  let l := s.lathe e
  let r := checkImage (s.image n).octets s
  let why := match r with
    | .inr d => d
    | .inl _ => 0
  let i := match r with
    | .inl i => i
    | .inr _ => {}
  tested s [badLen a 8, badSubject a 0 16, badSubject a 4 24, shadowed h s, liveCell s, badState (l.swapAt.isSome || l.migrating || l.unusable),
      (why != 0, St.imageRejected, why), (!s.canReserve e i.ctxMax || !s.cyclesFit e i.cycTx, St.budgetExceeded, 0)] (s, { later := true })

/-- LATHE_LOAD: loads an image into an engine's shadow bank (R369). -/
def execLatheLoad (h : Hdr) (a : List Byte) (s : State) : Result := commitHost 0x0802 runLatheLoad h a s

/-- An image enters an engine's shadow bank and data half; an engine without one runs it from the next edge (R369, R370). -/
def loadImage (e n : Nat) (i : Image) (s : State) : State :=
  let l := s.lathe e
  let s := reserveCtxs e (if l.loaded then max l.image.ctxMax i.ctxMax else i.ctxMax) s
  let s := s.updLathe e (fun l => { l.setShadow { i with init := i.init } with shadowLoaded := true, shadowEntry := n, startDue := !l.loaded, envGen := 0 })
  let s := s.memPut (dataHalf e (1 - l.live)) (s.envBlock e)
  s.memPut (dataHalf e (1 - l.live) + 8192) i.init

/-- LATHE.LOAD completes (R369). -/
def loadFinish (a : List Byte) (s : State) : State × Reply :=
  match checkImage (s.image (uAt a 4 2)).octets s with
  | .inr d => (s, { status := St.imageRejected, detail := d })
  | .inl i => okReply (loadImage (uAt a 0 2) (uAt a 4 2) i s)

/-- LATHE.SWAP (R371): the swap is due at the post deadline of its target tick. -/
def runLatheSwap (h : Hdr) (a : List Byte) (s : State) : State × Reply :=
  let e := uAt a 0 2
  let l := s.lathe e
  let room := (sealOfs s.cell.tickSel - postDeadline s.cell.tickSel) / 2
  tested s [badLen a 4, badSubject a 0 16, shadowed h s, liveCell s, badState (!l.shadowLoaded || !l.loaded || l.unusable),
      (decide (room < l.shadow.cycMigrate), St.budgetExceeded, 0)]
    (okReply (s.setLathe e { l with swapAt := some s.cell.edge }))

/-- LATHE_SWAP: schedules a hitless image swap at a target edge (R371). -/
def execLatheSwap (h : Hdr) (a : List Byte) (s : State) : Result := commitHost 0x0803 runLatheSwap h a s

/-! ### Status (R359, R375 to R377) -/

/-- The state of an engine (R377): 0 empty, 1 running, 2 swap pending, 3 restarting, 4 unusable. -/
def Lathe.status (l : Lathe) : Nat :=
  if l.unusable then 4 else if l.restarting then 3 else if l.swapAt.isSome || l.migrating then 2 else if l.loaded then 1 else 0

/-- LATHE.STATUS (R377); its layout is the model's own (log entry 56). BUSY_PEAK starts again. -/
def runLatheStatus (_ : Hdr) (a : List Byte) (s : State) : State × Reply :=
  let e := uAt a 0 2
  let l := s.lathe e
  let nets := (s.engineNets e).foldl (fun m n => setBit m n) 0
  tested s [badLen a 4, badSubject a 0 16, liveCell s]
    (dataReply (s.setLathe e { l with busyPeak := 0 })
      (toLE 1 l.status ++ [0, 0, 0] ++ toLE 4 l.image.id ++ toLE 4 l.image.version ++ toLE 4 l.shadow.id ++ toLE 4 l.shadow.version ++ toLE 4 nets ++
       toLE 2 l.ctxs.length ++ [0, 0] ++ toLE 4 l.busyPeak))

/-- LATHE_STATUS: returns engine state and images (R377). -/
def execLatheStatus (h : Hdr) (a : List Byte) (s : State) : Result := commitHost 0x0804 runLatheStatus h a s

/-- LATHE.COUNTERS (R375), in the table's order. -/
def runLatheCounters (_ : Hdr) (a : List Byte) (s : State) : State × Reply :=
  let l := s.lathe (uAt a 0 2)
  tested s [badLen a 4, badSubject a 0 16, liveCell s]
    (dataReply s ([l.rxEvents, l.txFrames, l.postLate, l.postEmpty, l.phaseOverrun, l.accessFault, l.ctxFault, l.exceptions, l.restarts, l.migOverrun,
      l.eccCorr, l.telemDrop, l.busyPeak].flatMap (toLE 4)))

/-- LATHE_COUNTERS: returns engine counters (R375). -/
def execLatheCounters (h : Hdr) (a : List Byte) (s : State) : Result := commitHost 0x0805 runLatheCounters h a s

/-- LATHE.TELEMETRY (R376): the ring's records, oldest first, as many as the reply's room takes; what is read leaves the ring. -/
def runLatheTelemetry (h : Hdr) (a : List Byte) (s : State) : State × Reply :=
  let e := uAt a 0 2
  let l := s.lathe e
  let n := min l.ring.length ((h.replyLen - 16) / 32)
  tested s [badLen a 4, badSubject a 0 16, liveCell s]
    (dataReply (s.setLathe e { l with ring := l.ring.drop n }) ((l.ring.take n).flatMap TelemRec.octets))

/-- LATHE_TELEMETRY: reads an engine's telemetry ring (R376). -/
def execLatheTelemetry (h : Hdr) (a : List Byte) (s : State) : Result := commitHost 0x0806 runLatheTelemetry h a s

/-- LATHE.ENROLL_KEY (R359): MODE 0 returns the enrolment public key, MODE 1 installs a record. -/
def runLatheEnrollKey (h : Hdr) (a : List Byte) (s : State) : State × Reply :=
  let m := uAt a 0 1
  let rec_ := a.drop 4
  let s' := { s with custKey := some rec_ }.retain 4 0 rec_
  tested s [badAt 0 (decide (1 < m)), (decide (a.length < 4) || (m == 0 && a.length != 4), St.badParam, 2), badZeros a 1 3, shadowed h s,
      badState (s.cell.state != 2), (m == 1 && !Config.keySigned (s.custKey.getD []) rec_, if s.custKey.isNone then St.badParam else St.imageRejected, if s.custKey.isNone then 36 else 3)]
    (if m = 0 then (s, { data := padTo 96 Config.enrolKey, later := true }) else (s', { later := true }))

/-- LATHE_ENROLL_KEY: returns the enrolment key or installs a customer key record (R359). -/
def execLatheEnrollKey (h : Hdr) (a : List Byte) (s : State) : Result := commitHost 0x0807 runLatheEnrollKey h a s

end Sys2Proof.Machine
end

