-- ==== Sys2Proof/Machine/TimeBases.lean ====
section
/-! DEFINITION. Time bases, compare units and capture pins (18_time_bases, R485 to R504). The rows of the compare units
that start other blocks are in Machine/Triggers.lean. -/

namespace Sys2Proof.Machine

/-- The value (TARGET - count[31:0]) read as a signed 32-bit number (R496). -/
def CmpUnit.diff (u : CmpUnit) (b : TimeBase) : Int := toS 32 (u.target + 2 ^ 32 - wrap 32 b.ns)

/-- A base was set or stepped: its armed units that are now past match in the next cycle and are marked STEPPED (R503). -/
def State.evaluateUnits (s : State) (n : Nat) : State :=
  (List.range 32).foldl (fun s k =>
    let u := s.cmp k
    if u.arm ∧ u.tb = n ∧ u.diff (s.base n) ≤ 0 ∧ k ≠ 0 then
      s.setCmp k { u with stepped := true, lateEv := satAdd 255 u.lateEv 1 }
    else s) s

/-- The product of a gain and an offset, formed exactly and shifted right by 32 (R490). -/
def gainTerm (k : Nat) (o : Int) : Int := asr (k * o) 32

/-- The servo's reaction to one offset sample (R490). -/
def TimeBase.sample (b : TimeBase) (o : Int) (gtc : Nat) : TimeBase :=
  let b := { b with samples := wrap 8 (b.samples + 1), holdover := false, lastSample := gtc }
  if 0 < b.stepNs ∧ b.stepNs * 2 ^ 16 ≤ o.natAbs then
    { b with val := (((b.val : Int) - o * (2 ^ 24 : Int)) % (baseSpan : Int)).toNat
             steps := satAdd 255 b.steps 1, locked := false, lockRun := 0, lastStep := gtc }
  else
    let m : Int := b.adjMax
    let i := clampI (-m) m (b.integ - gainTerm b.ki o)
    let run := if o.natAbs < b.lockNs * 2 ^ 16 then min (b.lockRun + 1) 255 else 0
    { b with integ := i, adj := clampI (-m) m (i - gainTerm b.kp o), lockRun := run
             locked := if run = 0 then false else if b.lockN ≤ run then true else b.locked, lastOfs := o }

/-- An offset sample reaches base `n`: ignored and counted while the servo is off, else the servo runs (R490). -/
def servoSample (n : Nat) (o : Int) (s : State) : State :=
  let b := s.base n
  if !b.servoEn then s.setBase n { b with ofsIgn := satAdd 255 b.ofsIgn 1 }
  else
    let s := s.setBase n (b.sample o s.gtc)
    if 0 < b.stepNs ∧ b.stepNs * 2 ^ 16 ≤ o.natAbs then s.evaluateUnits n else s

/-- An offset sample runs the time-base servo (R490); a Lathe writes only the base its network names. -/
def tbOfsWrite (m n : Nat) (o : Word) (s : State) : State :=
  if n < 8 ∧ isLathe m ∧ s.baseLathe n = some (m - 0x10) then servoSample n (toS 32 o.toNat) s else s

/-- TB_OFS_WRITE: an offset sample runs the time-base servo (R490); a Lathe writes only the base its network names. -/
def execTbOfsWrite (m n : Nat) (o : Word) (s : State) : Result := .next (tbOfsWrite m n o s)

/-- A base's SEC, NS and FRAC (R486, R488). -/
def TimeBase.latched (b : TimeBase) : TbLatch :=
  { sec := b.val / 2 ^ 40 / 1000000000, ns := b.val / 2 ^ 40 % 1000000000, frac := b.val / 2 ^ 24 % 2 ^ 16 }

/-- Latches a time base for the reading master (R488). -/
def tbNsRead (m n : Nat) (s : State) : State :=
  if n < 8 then
    let l := (s.base n).latched
    (s.setLatch (n * 64 + m) l).returns l.ns
  else s.returns 0

/-- TB_NS_READ: latches a time base for the reading master (R488). -/
def execTbNsRead (m n : Nat) (s : State) : Result := .next (tbNsRead m n s)

/-- The conversion of a GTC stamp `t` into the time of base `n`, in units of 2^-16 ns, rounded to nearest with ties to
even (R494). -/
def convert (b b0 : TimeBase) (gtc t : Nat) : Int :=
  let back := ((gtc : Int) - t) * (2 ^ 40 : Int) * b.rate
  divRNE ((b.val : Int) * b0.rate - back) (b0.rate * (2 ^ 24 : Int))

/-- A write of TB_CONV_HI starts a conversion; its result may be read from the eighth cycle on (R494). -/
def convStart (n : Nat) (hi : Nat) (s : State) : State :=
  let b := { s.base n with convHi := hi }
  let b0 := s.base 0
  let t := hi * 2 ^ 32 + b.convLo
  let g := s.gtc
  let ok := t ≤ g ∧ g - t < 2 ^ 31
  let stepped := (b.lastStep ≠ 0 ∧ t ≤ b.lastStep) ∨ (b0.lastStep ≠ 0 ∧ t ≤ b0.lastStep)
  s.setBase n { b with
    conv := if ok then (convert b b0 g t % (2 ^ 48 * 1000000000 * 2 ^ 16 : Nat)).toNat else 0
    convErr := !decide ok, convStepped := decide stepped, convReady := s.time.clk + 8 }

/-- Starts converting a GTC stamp into a base's time (R494). -/
def tbConvHiWrite (m n : Nat) (w : Word) (s : State) : State :=
  if 0 < n ∧ n < 8 ∧ isLathe m ∧ s.baseLathe n = some (m - 0x10) then convStart n w.toNat s else s

/-- TB_CONV_HI_WRITE: starts converting a GTC stamp into a base's time (R494). -/
def execTbConvHiWrite (m n : Nat) (w : Word) (s : State) : Result := .next (tbConvHiWrite m n w s)

/-- A write of TB_CONV_LO (R494). -/
def convLoWrite (m n w : Nat) (s : State) : State :=
  if n < 8 ∧ isLathe m ∧ s.baseLathe n = some (m - 0x10) then s.updBase n (fun b => { b with convLo := w }) else s

/-- A servoed base without samples for HOLDOVER_MS enters holdover and SYNC_LOST is sent (R491). -/
def enterHoldover (n : Nat) (s : State) : State :=
  let b := s.base n
  if b.servoEn ∧ !b.holdover then
    let s := s.advanceTo (b.lastSample + b.holdoverMs * 1000000)
    let s := s.updBase n (fun b => { b with locked := false, holdover := true })
    s.event 0 0x8A01 (0x3000 + n) (toLEs 4 (asr b.lastOfs 16))
  else s

/-- HOLDOVER_TIMEOUT: no offset sample for HOLDOVER_MS puts the base in holdover (R491). -/
def execHoldoverTimeout (n : Nat) (s : State) : Result := onUnit n 8 (enterHoldover n s)

/-- Who may write a compare unit: its owner (R492), never unit 0. -/
def ownsUnit (s : State) (m u : Nat) : Bool :=
  decide (0 < u) && decide (u < 32) &&
    (if isHost m || m == 0 then (s.cmp u).owner == 0x04 else (s.cmp u).owner == m)

/-- A write of CMP_TARGET with ARM set arms the unit; a target already past matches in the next cycle and is LATE (R496). -/
def armUnit (u : Nat) (target : Nat) (s : State) : State :=
  let k := { s.cmp u with target := target }
  let late := k.arm && decide (k.diff (s.base k.tb) ≤ 0)
  s.setCmp u (if late then { k with late := true, lateEv := satAdd 255 k.lateEv 1 } else k)

/-- Arms a compare unit with a new target (R496); a match of the old target due now acts first (R504). -/
def cmpTargetWrite (m u : Nat) (w : Word) (s : State) : State :=
  if ownsUnit s m u then armUnit u w.toNat s else s

/-- CMP_TARGET_WRITE: arms a compare unit with a new target (R496); a match of the old target due now acts first (R504). -/
def execCmpTargetWrite (m u : Nat) (w : Word) (s : State) : Result := .next (cmpTargetWrite m u w s)

/-- PERIOD as it is stored: 1 to 63 are stored as 64 (R496). -/
def storedPeriod (w : Nat) : Nat :=
  let p := wrap 31 w
  if p = 0 then 0 else if p < 64 then 64 else p

/-- A unit's control word taken in (CMP_CTL); TB is read only. -/
def CmpUnit.control (k : CmpUnit) (w : Nat) : CmpUnit :=
  { k with arm := bitAt w 0, entryEn := bitAt w 1, pinEn := bitAt w 2, action := field w 3 3, pin := field w 6 6,
           width := field w 16 8 }

/-- The word of CMP_CTL. -/
def CmpUnit.ctlWord (k : CmpUnit) : Nat :=
  bitIf 0 k.arm + bitIf 1 k.entryEn + bitIf 2 k.pinEn + 8 * k.action + 64 * k.pin + 65536 * k.width + 16777216 * k.tb

/-- The word of CMP_STATUS. -/
def CmpUnit.status (k : CmpUnit) : Nat :=
  bitIf 0 k.late + bitIf 1 k.stepped + 4 * k.owner + 256 * k.lateEv + 65536 * k.matchCount

/-- The pin action of a match (R499). When several units act on one pin in one cycle, the lowest-numbered prevails. -/
def pinAction (u : Nat) (k : CmpUnit) (s : State) : State :=
  let p := Table.get {} s.time.pins (64 + k.pin)
  if !k.pinEn ∨ k.action = 0 ∨ 4 < k.action ∨ (p.lastClk = s.time.clk + 1 ∧ p.lastUnit ≤ u) then s
  else
    let now := p.level && (p.pulseEnd == 0 || decide (s.time.clk < p.pulseEnd))
    let lvl := if k.action = 1 then true else if k.action = 2 then false else if k.action = 3 then !now else true
    let p' : TimerPin := { driven := true, level := lvl, lastClk := s.time.clk + 1, lastUnit := u
                           pulseEnd := if k.action = 4 then s.time.clk + k.width else 0 }
    { s with time := { s.time with pins := Table.set {} s.time.pins (64 + k.pin) p' } }

/-- A unit after its match: a one-shot disarms, a periodic one moves on by its period (R496). -/
def CmpUnit.matched (k : CmpUnit) : CmpUnit :=
  let k := { k with matchCount := wrap 16 (k.matchCount + 1) }
  if k.period = 0 then { k with arm := false } else { k with target := wrap 32 (k.target + k.period) }

/-- CAPTURE_EDGE on pin `p`: the filtered level follows; an edge that EDGE selects is stamped, or discarded and counted
when the FIFO is full (R500). The stamp is in units of 0.5 ns of GTC. -/
def captureEdge (p : Nat) (rising : Bool) (stamp : Nat) (s : State) : State :=
  let c := { s.cap p with level := rising }
  let wanted := (rising && bitAt c.edge 0) || (!rising && bitAt c.edge 1)
  s.setCap p (if !wanted then c
    else if 4 ≤ c.fifo.length then { c with ovf := satAdd 255 c.ovf 1 }
    else { c with fifo := c.fifo ++ [stamp] })

/-- CAPTURE_EDGE: a filtered edge on a capture pin is stamped into its FIFO (R500). -/
def execCaptureEdge (p : Nat) (rising : Bool) (stamp : Nat) (s : State) : Result :=
  onUnit p 8 (captureEdge p rising stamp s)

/-- The GTC of a pin's head stamp, zero when there is none or the pin is read through the snapshot (R500, R501). -/
def CapPin.head (c : CapPin) : Nat := if c.snap then 0 else c.fifo.headD 0 / 2

/-- Reads and pops the head capture stamp (R500). -/
def capHiRead (p : Nat) (s : State) : State :=
  if p < 8 then
    let c := s.cap p
    (s.setCap p (if c.snap then c else { c with fifo := c.fifo.drop 1 })).returns (c.head / 2 ^ 32)
  else s.returns 0

/-- CAP_HI_READ: reads and pops the head capture stamp (R500). -/
def execCapHiRead (p : Nat) (s : State) : Result := .next (capHiRead p s)

/-- The input seal moves the stamps of SNAP pins earlier than the edge into the tick snapshot (R501). -/
def sealCaptures (edge : Nat) (s : State) : State :=
  (List.range 8).foldl (fun s p =>
    let c := s.cap p
    if c.snap then
      s.setCap p { c with snapped := c.fifo.filter (fun t => decide (t < 2 * edge))
                          fifo := c.fifo.filter (fun t => !decide (t < 2 * edge)) }
    else s.setCap p { c with snapped := [] }) s

/-- The word of TB_STATUS. -/
def TimeBase.status (b : TimeBase) : Nat :=
  bitIf 0 b.locked + bitIf 1 b.holdover + bitIf 2 b.convErr + bitIf 3 b.convStepped + 256 * b.steps +
    65536 * b.ofsIgn + 16777216 * b.samples

/-- Reads and clears time-base RC counters (R8). -/
def tbStatusRead (n : Nat) (s : State) : State :=
  if n < 8 then
    let b := s.base n
    (s.setBase n { b with steps := 0, ofsIgn := 0 }).returns b.status
  else s.returns 0

/-- TB_STATUS_READ: reads and clears time-base RC counters (R8). -/
def execTbStatusRead (n : Nat) (s : State) : Result := .next (tbStatusRead n s)

/-- Reads and clears a compare unit's late count (R8). -/
def cmpStatusRead (u : Nat) (s : State) : State :=
  if u < 32 then
    let k := s.cmp u
    (s.setCmp u { k with lateEv := 0 }).returns k.status
  else s.returns 0

/-- CMP_STATUS_READ: reads and clears a compare unit's late count (R8). -/
def execCmpStatusRead (u : Nat) (s : State) : Result := .next (cmpStatusRead u s)

/-- The word of CAP_STATUS. -/
def CapPin.status (c : CapPin) : Nat := c.fifo.length + bitIf 3 c.level + 256 * c.ovf

/-- Reads and clears a capture pin's overflow count (R8). -/
def capStatusRead (p : Nat) (s : State) : State :=
  if p < 8 then
    let c := s.cap p
    (s.setCap p { c with ovf := 0 }).returns c.status
  else s.returns 0

/-- CAP_STATUS_READ: reads and clears a capture pin's overflow count (R8). -/
def execCapStatusRead (p : Nat) (s : State) : Result := .next (capStatusRead p s)

/-- The word of TS_INS_CFG. -/
def TsIns.word (t : TsIns) : Nat :=
  t.mode + 4 * t.tb + bitIf 5 t.tsNew + 64 * t.ofs + 65536 * t.cfOfs + 67108864 * t.tsFault

/-- A read of TS_INS_CFG clears the RC field TS_FAULT (R502). -/
def tsInsCfgRead (n : Nat) (s : State) : State :=
  if n < 16 then
    let t := s.tsIns n
    (s.setTsIns n { t with tsFault := 0 }).returns t.word
  else s.returns 0

/-- TS_INS_CFG_READ: a read of TS_INS_CFG clears the RC field TS_FAULT (R502). -/
def execTsInsCfgRead (n : Nat) (s : State) : Result := .next (tsInsCfgRead n s)

/-- The base stepped or set by TIME.SET: SEC and NS with a zero fraction (R489, R503). -/
def setBaseTime (n sec ns : Nat) (s : State) : State :=
  let s := s.updBase n (fun b => { b with val := (wrap 48 sec * 1000000000 + ns) * 2 ^ 40, lastStep := s.gtc })
  let s := s.evaluateUnits n
  if n = 0 then
    let len := s.tickLen
    { s with cell := { s.cell with nextEdge := ceilDiv (s.gtc + len) len * len } }
  else s

end Sys2Proof.Machine
end

