-- ==== Sys2Proof/Machine/TimeFw.lean ====
section
/-! DEFINITION. The TIME and FW commands of the host (R352, R489 to R500, R625 to R629). -/

namespace Sys2Proof.Machine

/-! ### Time bases -/

/-- The owner identity that OWNER of TIME.CONFIG gives (R492). -/
def ownerOctet (o : Nat) : Nat := if o = 0xFF then 0x3F else o

/-- TIME.CONFIG (R490 to R492). Reserved bits of its words are ignored, as R5 ignores them in a register. -/
def runTimeConfig (h : Hdr) (a : List Byte) (s : State) : State × Reply :=
  let n := uAt a 0 2
  let w := uAt a 4 4
  let units := uAt a 24 4
  let o := uAt a 28 1
  let f (b : TimeBase) : TimeBase := { b with
    servoEn := bitAt w 0, lockN := field w 1 7, lockNs := field w 8 12, holdoverMs := field w 20 12, kp := uAt a 8 4, ki := uAt a 12 4
    adjMax := field (uAt a 16 4) 0 31, stepNs := if n = 0 then 0 else field (uAt a 20 4) 0 15
    lastSample := if b.servoEn then b.lastSample else s.gtc }
  let s' := ((List.range 32).filter (bitAt units ·)).foldl (fun s u => s.updCmp u (fun k => { k with tb := n, owner := ownerOctet o })) (s.updBase n f)
  let taken := bitAt units 0 || (s.motion.pwmN != 0 && [1, 2, 3, 4].any (bitAt units ·))
  tested s [badLen a 32, badSubject a 0 8, badAt 4 (field w 20 12 == 0), badAt 28 (!(o == 0x04 || (decide (0x10 ≤ o) && decide (o ≤ 0x1F)) || o == 0xFF)),
      badZeros a 29 3, shadowed h s, liveCell s, badState (n == 0 && s.cell.state != 2), (taken, St.bindConflict, 0)]
    (okReply s')

/-- TIME_CONFIG: configures a time base servo and compare unit ownership (R492). -/
def execTimeConfig (h : Hdr) (a : List Byte) (s : State) : Result := commitHost 0x0A01 runTimeConfig h a s

/-- TIME.STATUS (R491); its layout is the model's (log entry 45): SEC, NS, ADJ, I, LAST_OFS and the word of TB_STATUS. -/
def runTimeStatus (_ : Hdr) (a : List Byte) (s : State) : State × Reply :=
  let b := s.base (uAt a 0 2)
  tested s [badLen a 4, badSubject a 0 8, liveCell s]
    (dataReply s (toLE 8 b.latched.sec ++ toLE 4 b.latched.ns ++ toLEs 4 b.adj ++ toLEs 4 b.integ ++ toLEs 4 b.lastOfs ++ toLE 4 b.status))

/-- TIME_STATUS: returns a time base's state and counters (R491). -/
def execTimeStatus (h : Hdr) (a : List Byte) (s : State) : Result := commitHost 0x0A02 runTimeStatus h a s

/-- A pin that a compare unit may not drive (R499): a switch, a DRV_EN output or a Chisel enable output. -/
def State.pinTaken (s : State) (p : Nat) : Bool := s.switchPin p || s.drvPin 512 p || s.chiselPin p

/-- TIME.COMPARE (R496, R497, R499). -/
def runTimeCompare (h : Hdr) (a : List Byte) (s : State) : State × Reply :=
  let u := uAt a 0 2
  let w := uAt a 4 4
  let t := uAt a 12 8
  let k := s.cmp u
  let far := decide ((s.base k.tb).ns + 2147483647 < t)
  let s' := armUnit u (wrap 32 t) (s.setCmp u { (k.control w) with period := storedPeriod (uAt a 8 4) })
  tested s [badLen a 20, badSubject a 0 32, badAt 12 far, shadowed h s, liveCell s,
      (k.owner != 0x04 || u == 0 || (decide (u ≤ 4) && s.motion.pwmN != 0), St.bindConflict, 0),
      (bitAt w 2 && s.pinTaken (64 + field w 6 6), St.bindConflict, 0)]
    (okReply s')

/-- TIME_COMPARE: arms a host-owned compare unit (R497). -/
def execTimeCompare (h : Hdr) (a : List Byte) (s : State) : Result := commitHost 0x0A03 runTimeCompare h a s

/-- TIME.CAPTURE (R500). -/
def runTimeCapture (h : Hdr) (a : List Byte) (s : State) : State × Reply :=
  let p := uAt a 0 2
  let w := uAt a 4 4
  tested s [badLen a 8, badSubject a 0 8, shadowed h s, liveCell s, ((s.cap p).homing.isSome, St.homeCaptureBusy, 0)]
    (okReply (s.updCap p (fun c => { c with edge := field w 0 2, snap := bitAt w 2, filt := field w 8 8 })))

/-- TIME_CAPTURE: configures a capture pin (R500). -/
def execTimeCapture (h : Hdr) (a : List Byte) (s : State) : Result := commitHost 0x0A04 runTimeCapture h a s

/-- TIME.SET (R352, R485, R489). -/
def runTimeSet (h : Hdr) (a : List Byte) (s : State) : State × Reply :=
  let n := uAt a 0 2
  let bad := if n = 0 then s.cell.state != 2 || s.inFabric
    else n == 7 || (s.baseLathe n).isSome || (s.base n).servoEn
  tested s [badLen a 16, badSubject a 0 8, badAt 4 (uAt a 10 2 != 0), badAt 12 (decide (1000000000 ≤ uAt a 12 4)), shadowed h s, liveCell s, badState bad]
    (okReply (setBaseTime n (uAt a 4 8) (uAt a 12 4) s))

/-- TIME_SET: sets a time base at the commit edge (R489). -/
def execTimeSet (h : Hdr) (a : List Byte) (s : State) : Result := commitHost 0x0A05 runTimeSet h a s

/-! ### Firmware slots (R625 to R629) -/

/-- The record of a firmware slot. -/
def State.fwSlot (s : State) (k : Nat) : FwSlot := Table.get {} s.power.slots k

/-- A firmware slot written. -/
def State.setFwSlot (s : State) (k : Nat) (v : FwSlot) : State := { s with power := { s.power with slots := Table.set {} s.power.slots k v } }

/-- Why a firmware image is not accepted (R625, R626): 0 accepted, 1 header, 2 signature, 3 GCM tag, 4 SEC_VER. -/
def fwReason (bs : List Byte) (minSec : Nat) : Nat :=
  let len := uAt bs 12 4
  let header := decide (256 ≤ bs.length) && uAt bs 0 4 == 0x46534846 && uAt bs 4 2 == 1 && uAt bs 6 2 == 256 && decide (uAt bs 11 1 ≤ 63) &&
    len % 16 == 0 && decide (16 ≤ len) && decide (len ≤ 16776960) && bs.length == 256 + len && zerosAt bs 16 44 && zerosAt bs 88 72
  if !header then 1 else if !Config.fwSigned bs then 2 else if !Config.fwTagged bs then 3 else if uAt bs 11 1 < minSec then 4 else 0

/-- The slot record of an accepted image (R625). -/
def fwRecord (bs : List Byte) : FwSlot := { state := 2, release := uAt bs 8 2, replLevel := uAt bs 10 1, secVer := uAt bs 11 1 }

/-- FW.LOAD (R629): the write of the slot other than ACTIVE begins; LONG_COMMAND_COMPLETE ends it. -/
def runFwLoad (h : Hdr) (a : List Byte) (s : State) : State × Reply :=
  let k := 1 - s.power.active
  let s' := (s.setFwSlot k { (s.fwSlot k) with state := 1 })
  tested s [badLen a 12, badSubject a 0 64, badBank h a 0 s, badAt 4 (decide (0x80000 < uAt a 4 4 + uAt a 8 4)), haltCell s, badState s.power.fwWriting]
    (if s.power.inhibit then (s, { status := St.fwRejected, detail := 6, later := true })
     else ({ s' with power := { s'.power with fwWriting := true } }, { later := true }))

/-- FW_LOAD: writes firmware into the inactive slot (R629). -/
def execFwLoad (h : Hdr) (a : List Byte) (s : State) : Result := commitHost 0x0D01 runFwLoad h a s

/-- The write of FW.LOAD ends (R629): the image is verified, and compared by reading the slot back. -/
def fwFinish (a : List Byte) (same : Bool) (s : State) : State × Reply :=
  let bs := s.bankOctets (uAt a 0 2) (uAt a 4 4) (uAt a 8 4)
  let why := if fwReason bs s.power.minSecVer != 0 then fwReason bs s.power.minSecVer else if same then 0 else 5
  let s := { s with power := { s.power with fwWriting := false } }
  if why = 0 then (s.setFwSlot (1 - s.power.active) (fwRecord bs), {})
  else (s, { status := St.fwRejected, detail := why })

/-- FW.ACTIVATE (R352, R609, R629): TRIAL is written, unless writes are inhibited, and the device resets 10 ms later. -/
def runFwActivate (_ : Hdr) (a : List Byte) (s : State) : State × Reply :=
  let p := s.power
  let p' : PowerState := if p.inhibit then p else { p with trial := true, bootGen := wrap 32 (p.bootGen + 1) }
  tested s [badLen a 0, haltCell s, badState !(s.allDisabled || s.cell.role == 2)]
    (okReply { s with power := { p' with resetAt := some (s.cell.edge + 10000000, 4) } })

/-- FW_ACTIVATE: sets TRIAL and restarts into the inactive slot (R629). -/
def execFwActivate (h : Hdr) (a : List Byte) (s : State) : Result := commitHost 0x0D02 runFwActivate h a s

/-- FW.STATUS (R629): both slots in the order of its fields, each at its natural size (log entry 45). -/
def runFwStatus (_ : Hdr) (a : List Byte) (s : State) : State × Reply :=
  let one (k : Nat) : List Byte := let f := s.fwSlot k; toLE 2 f.release ++ toLE 1 f.replLevel ++ toLE 1 f.secVer ++ toLE 1 f.state
  tested s [badLen a 0, haltCell s] (dataReply s
    (one 0 ++ one 1 ++ toLE 1 s.power.active ++ toLE 1 s.power.running ++ toLE 1 (bitIf 0 s.power.trial) ++ toLE 1 s.power.minSecVer))

/-- FW_STATUS: returns both firmware slots' state (R629). -/
def execFwStatus (h : Hdr) (a : List Byte) (s : State) : Result := commitHost 0x0D03 runFwStatus h a s

end Sys2Proof.Machine
end

