-- ==== Sys2Proof/Machine/FabCmds.lean ====
section
/-! DEFINITION. The FAB commands of the host (R274, R275, R298 to R300, R525, R526, R529, R534, R542, R543, R554 to R556). -/

namespace Sys2Proof.Machine

/-! ### Key, join and leave (R525, R526, R529) -/

/-- KCV (R525): 0 with no key. -/
def State.kcv (s : State) : List Byte :=
  match s.fab.key with
  | some k => (hmac k [0x4F, 0x53, 0x4B, 0x43, 0x56]).take 4
  | none => [0, 0, 0, 0]

/-- FAB.SET_KEY (R525). -/
def runFabSetKey (h : Hdr) (a : List Byte) (s : State) : State × Reply :=
  let s' := { s with fab := { s.fab with key := some a } }.retain 5 0 a
  tested s [badLen a 32, shadowed h s, liveCell s, badState s.inFabric] (dataReply s' s'.kcv)

/-- FAB_SET_KEY: sets the fabric key and returns its KCV (R525). -/
def execFabSetKey (h : Hdr) (a : List Byte) (s : State) : Result := commitHost 0x0901 runFabSetKey h a s

/-- Entry `i` of the map in FAB.JOIN's arguments (R526). -/
def mapEntryAt (a : List Byte) (i : Nat) : MapEntry :=
  { uid := uAt a (16 + 20 * i) 16, node := uAt a (32 + 20 * i) 1, replaceable := bitAt (uAt a (33 + 20 * i) 1) 0 }

/-- What is wrong with an entry of the map. -/
def mapEntryTests (a : List Byte) (i : Nat) : List Test :=
  [badAt (33 + 20 * i) (decide (1 < uAt a (33 + 20 * i) 1)), badZeros a (34 + 20 * i) 2]

/-- A fabric-wide change of the cycle master: its record goes out, and it applies at the edge of a tick (R13, R253, R516, R542). -/
def State.changeAll (s : State) (due : Nat) (c : CellCfg) : State :=
  ({ s with fab := { s.fab with changes := s.fab.changes ++ [(due, c)] } }).tell none (.cellCfg due c)

/-- Whether a map would move a member's node ID (R526). -/
def State.movesMember (s : State) (l : List MapEntry) : Bool :=
  s.fab.nodes.any (fun p => p.2.member && l.any (fun e => (e.uid == p.2.uid && e.node != p.1) || (e.node == p.1 && e.uid != p.2.uid)))

/-- A schedule table in the layout of FAB.SCHEDULE's arguments (R542). -/
def schedOctets (t : FabSched) : List Byte :=
  toLE 2 t.slots.length ++ toLE 1 t.ints.length ++ toLE 1 0 ++
  t.slots.flatMap (fun x => toLE 1 x.ring ++ toLE 1 x.owner ++ toLE 1 x.kind ++ toLE 1 0 ++ toLE 4 x.start ++ toLE 2 x.len ++ toLE 2 x.guard) ++
  t.ints.flatMap (fun k => toLE 2 k.1 ++ toLE 2 0 ++ toLE 2 k.2.1 ++ toLE 1 k.2.2 ++ toLE 1 0)

/-- The cell map is kept as a retained record (R516, R621), in the layout of FAB.JOIN's arguments (log entry 58). -/
def keepMap (s : State) : State :=
  s.retain 6 0 (s.fab.map.flatMap (fun e => toLE 16 e.uid ++ toLE 1 e.node ++ toLE 1 (if e.replaceable then 1 else 0) ++ toLE 2 0))

/-- The fabric configuration is kept as a retained record (R621, log entry 58): the schedule's generation and table, the COLD_OK list
and the last FAB.JOIN arguments. -/
def keepFabric (s : State) : State :=
  let f := s.fab
  s.retain 7 0 (toLE 4 f.sched.gen ++ toLE 2 (schedOctets f.sched).length ++ toLE 2 f.coldOk.length ++ schedOctets f.sched ++ f.coldOk.flatMap (toLE 1) ++ f.joinArgs)

/-- The join of this device begins: it listens (R526, R551). -/
def startJoin (a : List Byte) (s : State) : State :=
  let n := uAt a 12 2
  let j : FabJoin := { stage := 1, since := s.gtc, args := (uAt a 1 1, uAt a 2 1 == 1, uAt a 3 1), map := (List.range n).map (mapEntryAt a)
                       coldOk := bitAt (uAt a 4 1) 0 }
  let s := [0, 1, 2, 3].foldl (fun s p => s.updFabPort p (fun k => { k with media := uAt a (8 + p) 1 })) s
  keepFabric { s with fab := { s.fab with mine := uAt a 3 1, join := j, tbSet := false, joinArgs := a } }

/-- FAB.JOIN (R516, R526). -/
def runFabJoin (h : Hdr) (a : List Byte) (s : State) : State × Reply :=
  let n := uAt a 12 2
  let l := (List.range n).map (mapEntryAt a)
  let media (p : Nat) : Test := badAt (8 + p) (!([0, 1, 2, 0xFF].contains (uAt a (8 + p) 1)))
  let update := uAt a 0 1 == 1
  tested s ([badLen a (16 + 20 * n), badAt 0 (decide (1 < uAt a 0 1)), badAt 2 (decide (1 < uAt a 2 1)),
      badAt 3 (decide (3 < uAt a 3 1) || (!update && uAt a 3 1 == 0)), badAt 4 (decide (1 < uAt a 4 1)), badZeros a 5 3,
      media 0, media 1, media 2, media 3, badAt 12 (decide (256 < n)), badZeros a 14 2] ++ (List.range n).flatMap (mapEntryTests a) ++
      [shadowed h s, liveCell s, badState (update && !(s.inFabric && s.fab.master == s.cell.node)),
       badState (!update && (s.inFabric || s.fab.join.stage != 0 || s.fab.key.isNone)), (update && s.movesMember l, St.bindConflict, 0)])
    (if update then okReply (s.changeAll (s.cell.tick + 1) (.map l)) else (startJoin a s, { later := true }))

/-- FAB_JOIN: joins or forms the fabric, or updates the cell map (R526). -/
def execFabJoin (h : Hdr) (a : List Byte) (s : State) : Result := commitHost 0x0902 runFabJoin h a s

/-- Every claim and pending request of the device's arms is given back (R529). -/
def releaseAll (s : State) : State :=
  s.claim.claims.foldl (fun s c =>
    if !(List.range 16).any (fun n => s.ownSource n c.source) then s
    else if c.granted then c.zones.foldl (fun s z => s.claimMsg (.release c.source z)) s
    else s.claimMsg (.withdraw c.source)) s

/-- FAB.LEAVE (R529): every member removes the device at the edge after the next. -/
def runFabLeave (h : Hdr) (a : List Byte) (s : State) : State × Reply :=
  let s' := (releaseAll s).tell none .leave
  let s' := s'.updFabNode s.cell.node (fun m => { m with leaveAt := some (s.cell.tick + 2) })
  tested s [badLen a 0, shadowed h s, liveCell s, badState (!s.inFabric || s.pair.role != 0 || s.fab.master == s.cell.node || !s.allDisabled)]
    (s', { later := true })

/-- FAB_LEAVE: takes a member out of the fabric (R529). -/
def execFabLeave (h : Hdr) (a : List Byte) (s : State) : Result := commitHost 0x0903 runFabLeave h a s

/-! ### The schedule (R542, R543) -/

/-- Slot `i` of FAB.SCHEDULE's arguments (R542). -/
def slotAt (a : List Byte) (i : Nat) : FabSlot :=
  let o := 4 + 12 * i
  { ring := uAt a o 1, owner := uAt a (o + 1) 1, kind := uAt a (o + 2) 1, start := uAt a (o + 4) 4, len := uAt a (o + 8) 2, guard := uAt a (o + 10) 2 }

/-- What is wrong with a slot's fields, and with its place among the slots of its ring (R542). -/
def slotTests (a : List Byte) (i : Nat) : List Test :=
  let o := 4 + 12 * i
  let x := slotAt a i
  let back := ((List.range i).map (slotAt a)).any (fun y => y.ring == x.ring && decide (x.start < y.start))
  [badAt o (decide (1 < x.ring)), badAt (o + 2) (decide (5 < x.kind)), badZeros a (o + 3) 1, badAt (o + 4) back, badAt (o + 8) (decide (32768 < x.len)),
   badAt (o + 10) (decide (x.guard < 8) || decide (1000 < x.guard))]

/-- What is wrong with a cycle interrupt's fields (R542). -/
def intTests (a : List Byte) (n k : Nat) : List Test :=
  let o := 4 + 12 * n + 8 * k
  [badAt o (decide (n ≤ uAt a o 2)), badZeros a (o + 2) 2, badAt (o + 6) (decide (3 < uAt a (o + 6) 1)), badZeros a (o + 7) 1]

/-- The table of FAB.SCHEDULE's arguments. -/
def schedAt (a : List Byte) (gen : Nat) : FabSched :=
  let n := uAt a 0 2
  { gen := gen, slots := (List.range n).map (slotAt a)
    ints := (List.range (uAt a 2 1)).map (fun k => let o := 4 + 12 * n + 8 * k; (uAt a o 2, uAt a (o + 4) 2, uAt a (o + 6) 1)) }

/-- A slot's window in tenths of a ns (R543). -/
def window (x : FabSlot) : Nat := (x.len + 40) * 8

/-- Where a node stands on a ring, counted eastward from this device; none for one that is not a member there. -/
def State.place (s : State) (r d : Nat) : Option Nat :=
  if d = s.cell.node then some 0
  else if (s.heardOn r).contains d then
    let e := Table.get 0 (s.fabNode d).dist (2 * r)
    let w := Table.get 0 (s.fabNode d).dist (2 * r + 1)
    some (if e = 0 then (s.ringMembers r).length - w else e)
  else none

/-- How many links upstream of the link that leaves place `k` a slot's owner lies, at least and at most (R543): a joiner and a node
not yet a member may stand anywhere. -/
def State.upstream (s : State) (x : FabSlot) (k : Nat) (west : Bool) : Nat × Nat :=
  let n := (s.ringMembers x.ring).length
  let owner := if x.kind = 0 then s.fab.master else x.owner
  match (if x.kind = 5 then none else s.place x.ring owner) with
  | some p => let h := if west then (p + n - k) % n else (k + n - p) % n; (h, h)
  | none => (0, n - 1)

/-- Two slots of one ring that meet on a link (R543). -/
def State.slotsMeet (s : State) (x y : FabSlot) : Bool :=
  let n := (s.ringMembers x.ring).length
  let span (z : FabSlot) (k : Nat) (w : Bool) : Int × Int :=
    let h := s.upstream z k w
    ((10 * z.start : Int) - 10 * z.guard + 760 * h.1, (10 * z.start + window z + 10 * z.guard + 10840 * h.2 : Int))
  x.ring == y.ring && [true, false].any (fun w => (List.range n).any (fun k =>
    let i := span x k w
    let j := span y k w
    decide (i.1 < j.2) && decide (j.1 < i.2)))

/-- Whether a relay slot is out of place (R543): its owner is no bridge, or a slot of the other ring closes there after its start. -/
def State.relayBad (s : State) (l : List FabSlot) (x : FabSlot) : Bool :=
  x.kind == 4 && (!s.bridge x.owner || l.any (fun y =>
    y.ring != x.ring && y.kind != 4 &&
      let n := (s.ringMembers y.ring).length
      let h := match s.place y.ring x.owner with
        | some p => let e := (s.upstream y p false).2; let w := (s.upstream y p true).2; max e w
        | none => n
      decide (10 * x.start < 10 * y.start + window y + 10 * y.guard + 10840 * h)))

/-- The first slot for which a table is refused (R543): one CYCLE slot at 0 with LEN 44 and one JOIN slot on each ring, the relay
slots, the end before the next edge, and no overlap on any link. -/
def State.schedBad (s : State) (l : List FabSlot) : Option Nat :=
  let ix := (List.range l.length).zip l
  let first (r k : Nat) : Option Nat := (ix.find? (fun p => p.2.ring == r && p.2.kind == k)).map Prod.fst
  let bad (p : Nat × FabSlot) : Bool :=
    let x := p.2
    (x.kind == 0 && (x.start != 0 || x.len != 44 || first x.ring 0 != some p.1)) || (x.kind == 5 && first x.ring 5 != some p.1) || s.relayBad l x ||
      decide (10 * s.tickLen < 10 * x.start + window x + 10 * x.guard + 20000) || ix.any (fun q => decide (q.1 < p.1) && s.slotsMeet q.2 x)
  let missing := (l.map (fun x => x.ring)).eraseDups.any (fun r => (first r 0).isNone || (first r 5).isNone)
  match ix.find? bad with
  | some p => some p.1
  | none => if missing then some l.length else none

/-- FAB.SCHEDULE (R542, R543): carried in the slot of the next tick and applied at the edge after. -/
def runFabSchedule (h : Hdr) (a : List Byte) (s : State) : State × Reply :=
  let n := uAt a 0 2
  let k := uAt a 2 1
  let t := schedAt a (wrap 32 (s.fab.sched.gen + 1))
  let bad := s.schedBad t.slots
  tested s ([badLen a (4 + 12 * n + 8 * k), badAt 0 (decide (n < 2) || decide (256 < n)), badAt 2 (decide (8 < k)), badZeros a 3 1] ++
      (List.range n).flatMap (slotTests a) ++ (List.range k).flatMap (intTests a n) ++
      [shadowed h s, cfgCell s, badState (!(s.inFabric && s.fab.master == s.cell.node)), (bad.isSome, St.budgetExceeded, bad.getD 0)])
    (okReply (s.changeAll (s.cell.tick + 2) (.sched t)))

/-- FAB_SCHEDULE: sets the fabric slot schedule table (R542). -/
def execFabSchedule (h : Hdr) (a : List Byte) (s : State) : Result := commitHost 0x0904 runFabSchedule h a s

/-! ### Status (R534, R562) -/

/-- FAB.STATUS (R534, R562); the widths it leaves open are 32 bits for the member count (log entry 51). -/
def runFabStatus (_ : Hdr) (a : List Byte) (s : State) : State × Reply :=
  let f := s.fab
  tested s [badLen a 0, liveCell s] (dataReply s
    (toLE 1 s.cell.node ++ toLE 1 f.nodeSrc ++ toLE 1 s.cell.role ++ toLE 1 f.mine ++ toLE 4 s.members.length ++ s.kcv ++
     [0, 1, 2, 3].flatMap (fun p => toLE 4 (s.fabPort p).linkDowns ++ toLE 4 (s.fabPort p).checkErr) ++
     [f.badFrame, f.staleCount, f.epochLow, f.noRoute, f.mbxGap, f.bulkRetx, f.authFail, f.joins, f.leaves, f.guardCuts, f.guardDrops,
      f.coldCollisions, f.falseWakes, f.failsafe].flatMap (toLE 4) ++
     (List.range 256).flatMap (fun d => toLE 4 (s.fabNode d).empty)))

/-- FAB_STATUS: returns fabric status and counters (R534). -/
def execFabStatus (h : Hdr) (a : List Byte) (s : State) : Result := commitHost 0x0905 runFabStatus h a s

/-! ### The pair (R274, R275, R297 to R300) -/

/-- Line `i` of FAB.ASSIGN_SHADOW's arguments (R274, R352). -/
def lineAt (a : List Byte) (i : Nat) : PairLine :=
  let o := 4 + 8 * i
  { net := uAt a o 1, pPort := uAt a (o + 1) 1, sPort := uAt a (o + 2) 1, latNs := uAt a (o + 4) 4 }

/-- The image a network names has a capability bit (R357, R477). -/
def State.netCaps (s : State) (n b : Nat) : Bool := bitAt (s.stored (s.net n).image).caps b

/-- What is wrong with a line (R274, R477). -/
def lineTests (a : List Byte) (s : State) (i : Nat) : List Test :=
  let o := 4 + 8 * i
  let l := lineAt a i
  [badAt o (decide (32 ≤ l.net) || !(s.net l.net).defined || !s.netCaps l.net 4), badAt (o + 1) (decide (11 < l.pPort)), badAt (o + 2) (decide (11 < l.sPort)),
   badZeros a (o + 3) 1, badAt (o + 4) (decide (l.latNs < 100) || decide (20000 < l.latNs))]

/-- The watch end W of a line: the transmit deadline less LAT_NS and 500 ns (R274). -/
def State.watchEnd (s : State) (l : PairLine) : Int := ((s.net l.net).deadlineNs : Int) - l.latNs - 500

/-- Whether a line's frame, or a fill, would not fit (R28, R274). -/
def State.lineTight (s : State) (l : PairLine) : Bool :=
  let n := s.net l.net
  let tx : Int := Config.txNs n.params
  let w := s.watchEnd l
  decide (w - l.latNs < (sealOfs s.cell.tickSel : Int) + tx) || decide ((n.deadlineNs : Int) < w + 500 + tx)

/-- The octets of forwarded records at the configured load (R275, R276). -/
def State.fwdLoad (s : State) : Nat :=
  let axes := s.motion.axes
  let arms := ((List.range 16).filter (fun n => (s.arm n).defined)).length + s.block.groups.length
  let pins := ((List.range 128).filter s.switchPin).length
  let caps := ((List.range 8).filter (fun p => (s.cap p).snap)).length
  let codes := ((List.range 4).map (fun c => popCount 16 (s.adc c).inputEn)).foldl (· + ·) 0
  let due := ((List.range 16).map (fun t => (axes.filter (fun p => p.2.binding != Binding.none && p.2.binding != .virtual &&
    (t + p.2.phase) % p.2.divisor == 0)).length)).foldl max 0
  16 + 8 * arms + 4 * pins + 48 * caps + 2 * codes + 12 * due

/-- The axes of a group's slice (R281): its own but joints of arms of other groups, and every joint of an arm whose lowest joint lies
in it. -/
def State.sliceAxes (s : State) (g : Nat) : List Nat :=
  ((List.range 512).filter (fun a => match s.armOf a with
    | some n => (s.arm n).axes.foldl min 511 / 8 == g
    | none => a / 8 == g)).filter (fun a => s.motion.axes.any (fun p => p.1 == a))

/-- The arms of a group's slice (R281). -/
def State.sliceArms (s : State) (g : Nat) : List Nat :=
  (List.range 16).filter (fun n => (s.arm n).defined && (s.arm n).axes.foldl min 511 / 8 == g)

/-- The octets of the largest slice at the configured load, with every queue full (R275, R281). -/
def State.sliceLoad (s : State) : Nat :=
  ((List.range 64).map (fun g => 2672 * (s.sliceAxes g).length + 1024 * (s.sliceArms g).length)).foldl max 0

/-- Whether the schedule serves a pair (R275, R524): a forwarding and a resync slot of the primary and a slot of the shadow after the
forwarding slot, large enough, on a ring they share. -/
def State.schedServes (s : State) (peer : Nat) : Bool :=
  s.fab.sched.slots.any (fun f => f.kind == 2 && f.owner == s.cell.node && decide (s.fwdLoad + 4 ≤ f.len) && (s.heardOn f.ring).contains peer &&
    s.fab.sched.slots.any (fun y => y.owner == peer && y.ring == f.ring && decide (10 * f.start + window f + 10 * f.guard ≤ 10 * y.start))) &&
  s.fab.sched.slots.any (fun f => f.kind == 3 && f.owner == s.cell.node && decide (260 + s.sliceLoad + 4 ≤ f.len) && (s.heardOn f.ring).contains peer)

/-- A transfer to another member begins (R531). -/
def startBulk (use peer total : Nat) (s : State) : State :=
  let b : FabBulk := { xfer := s.fab.nextXfer, peer := peer, use := use, total := total }
  { s with fab := { s.fab with sending := s.fab.sending ++ [b], nextXfer := wrap 16 (s.fab.nextXfer + 1) } }

/-- The pair begins at its commit edge (R274, R293, R297): the lines take their cut-off, and the transfer starts. -/
def assignShadow (peer : Nat) (lines : List PairLine) (s : State) : State :=
  let s := { s with pair := { s.pair.none with role := 1, peer := peer, lines := lines, since := some s.gtc } }
  let s := lines.foldl (fun s l =>
    let w := (s.watchEnd l).toNat
    s.updNet l.net (fun n => { n with dual := some (w - l.latNs, w + 500) })) s
  startBulk 1 peer (Config.bulkLen 1) (roleChange s.cell.role s)

/-- FAB.ASSIGN_SHADOW (R274, R275, R297). Which replication levels the other device supports no record tells: free (log entry 52). -/
def runFabAssignShadow (h : Hdr) (a : List Byte) (s : State) : State × Reply :=
  let peer := uAt a 0 1
  let n := uAt a 1 1
  let lines := (List.range n).map (lineAt a)
  let m := s.fabNode peer
  let (common, s1) := s.freeBelow 2
  tested s1 ([badLen a (4 + 8 * n), badAt 1 (decide (16 < n)), badZeros a 2 2] ++ (List.range n).flatMap (lineTests a s) ++
      [shadowed h s, liveCell s, badState (!(s.cell.role == 0 || s.cell.role == 1)), (s.pair.role != 0, St.pairBusy, 0),
       (!(m.member && m.role == 3 && m.epoch == s.cell.epoch), St.epochStale, 0), (common != 1, St.replMismatch, 0),
       (!s.schedServes peer || lines.any s.lineTight, St.budgetExceeded, 0)])
    (assignShadow peer lines s1, { later := true })

/-- FAB_ASSIGN_SHADOW: assigns a shadow and its dual-homed lines (R274). -/
def execFabAssignShadow (h : Hdr) (a : List Byte) (s : State) : Result := commitHost 0x0906 runFabAssignShadow h a s

/-- The pair ends (R275): the epoch advances on both devices, and the shadow becomes a listener. A pair not yet synchronised ends its
FAB.ASSIGN_SHADOW. -/
def releasePair (s : State) : State :=
  if s.pair.role = 1 then
    let s := if s.pair.since.isSome then s.completeCmd 0x0906 (fun _ => true) { status := St.notSynced } else s
    let s := roleChange s.cell.role (dropLines s)
    { s with pair := s.pair.none, fab := { s.fab with sending := s.fab.sending.filter (fun b => b.use = 0) } }
  else enterListen (advanceEpoch 1 s)

/-- FAB.RELEASE_SHADOW (R275); the shadow commits the same command (R278). -/
def runFabReleaseShadow (h : Hdr) (a : List Byte) (s : State) : State × Reply :=
  tested s [badLen a 0, shadowed h s, liveCell s, badState (isHost h.port && s.pair.role != 1)] (okReply (releasePair s))

/-- FAB_RELEASE_SHADOW: ends a pair (R275). -/
def execFabReleaseShadow (h : Hdr) (a : List Byte) (s : State) : Result := commitHost 0x0907 runFabReleaseShadow h a s

/-- SAFE_CTRL to every drive source at a takeover or switchover edge (R289): its SEQ goes on 2 above the highest this device
observed from the old primary, which no row carries: free. -/
def ctrlAll (s : State) : State :=
  (List.range s.block.sources.length).foldl (fun s k =>
    if (s.block.sources.getD k {}).kind = 0 then
      let (seen, s) := s.freeBelow 65536
      (s.updGsrc k (fun v => { v with ctrlSeq := wrap 16 (seen + 1) })).sendCtrl k
    else s) s

/-- This device acts as primary from this edge (R287, R289, R291, R298): it transmits, the claims of the old primary are its own, and
master data starts again from stamp K. -/
def becomePrimary (s : State) : State :=
  let old := s.pair.peer
  let s := { s with pair := { s.pair with silent := false }, fab := { s.fab with masterSent := [] } }
  ctrlAll (adoptClaims old s.cell.node (roleChange (if s.fab.master = s.cell.node then 0 else 1) s))

/-- The roles of a pair swap (R298). The old primary still forwards the snapshot of this tick. -/
def swapPair (s : State) : State :=
  let s := { s with pair := { s.pair with switchAt := some s.cell.tick, agreed := 0, missRun := 0, echoRun := 0, suspect := false, diverged := 0 } }
  if s.pair.role = 1 then
    let s := roleChange 2 s
    { s with pair := { s.pair with role := 2, silent := true } }
  else becomePrimary { s with pair := { s.pair with role := 1 } }

/-- FAB.SWITCHOVER (R298). Whether every digest agreed only the shadow sees and no record tells: free at the primary (log entry 53). -/
def runFabSwitchover (h : Hdr) (a : List Byte) (s : State) : State × Reply :=
  let (agreed, s1) := s.freeBelow 2
  let synced := s.pair.since.isNone && agreed == 1
  tested s1 [badLen a 0, shadowed h s, liveCell s, badState (isHost h.port && s.pair.role != 1), (isHost h.port && !synced, St.notSynced, 0)] (okReply (swapPair s1))

/-- FAB_SWITCHOVER: swaps primary and shadow roles at a target edge (R298). -/
def execFabSwitchover (h : Hdr) (a : List Byte) (s : State) : Result := commitHost 0x0908 runFabSwitchover h a s

/-- FAB.SET_REPL_LEVEL (R299). Whether the other device supports the level no record tells: free (log entry 52). -/
def runFabSetReplLevel (h : Hdr) (a : List Byte) (s : State) : State × Reply :=
  let l := uAt a 0 1
  let top := (s.fwSlot s.power.running).replLevel
  let (common, s1) := s.freeBelow 2
  let fits := l == top || l + 1 == top
  tested s1 [badLen a 4, badZeros a 1 3, shadowed h s, liveCell s, badState (isHost h.port && s.pair.role != 1),
      (isHost h.port && !(fits && common == 1), St.replMismatch, 0)]
    (okReply { s1 with power := { s1.power with replLevel := l } })

/-- FAB_SET_REPL_LEVEL: changes the pair's replication level (R299). -/
def execFabSetReplLevel (h : Hdr) (a : List Byte) (s : State) : Result := commitHost 0x0909 runFabSetReplLevel h a s

/-- STATE of the pair (R300). -/
def State.pairStatus (s : State) : Nat :=
  let p := s.pair
  if p.role = 0 then 0 else if p.suspect then 4 else if s.fab.sending.any (fun b => b.use == 1) || s.fab.receiving.any (fun b => b.use == 1) then 1
  else if p.diverged = 0 then 2 else 3

/-- FAB.PAIR_STATUS (R300). -/
def runFabPairStatus (_ : Hdr) (a : List Byte) (s : State) : State × Reply :=
  let p := s.pair
  let bs := toLE 1 p.role ++ toLE 1 s.pairStatus ++ toLE 1 p.peer ++ toLE 1 s.power.replLevel ++ toLE 4 s.cell.epoch ++ toLE 8 p.diverged ++
    [p.mismatch, p.resyncLate, p.fwdLate, p.misses, p.fills, p.takeovers, p.lastChange].flatMap (toLE 4) ++ List.replicate 16 0
  tested s [badLen a 0, liveCell s] (dataReply s (bs ++ toLE 4 (crc32c bs)))

/-- FAB_PAIR_STATUS: returns the pair status record (R300). -/
def execFabPairStatus (h : Hdr) (a : List Byte) (s : State) : Result := commitHost 0x090A runFabPairStatus h a s

/-! ### Sleep and wake (R554 to R556) -/

/-- Whether two members share a ring, as one has announced or this device hears. -/
def State.linked (s : State) (c d : Nat) : Bool :=
  if c = s.cell.node then (s.heardOn 0).contains d || (s.heardOn 1).contains d
  else if d = s.cell.node then (s.heardOn 0).contains c || (s.heardOn 1).contains c
  else s.hears c d

/-- The members of a set reached from some of them. -/
def State.reachAwake (s : State) (awake : List Nat) : Nat → List Nat → List Nat
  | 0, l => l
  | n + 1, l => s.reachAwake awake n (l ++ awake.filter (fun d => !l.contains d && l.any (fun c => s.linked c d))).eraseDups

/-- Whether named devices carry the only way between members that stay awake (R554). -/
def State.cutsOff (s : State) (nodes : List Nat) : Bool :=
  let awake := s.members.filter (fun d => !nodes.contains d)
  match awake with
  | [] => false
  | d :: _ => awake.any (fun c => !(s.reachAwake awake awake.length [d]).contains c)

/-- FAB.SLEEP (R554, R555). What axes and pairs the other named devices have no record tells: free (log entry 41). -/
def runFabSleep (h : Hdr) (a : List Byte) (s : State) : State × Reply :=
  let m := uAt a 0 32
  let nodes := s.members.filter (bitAt m)
  let me := s.cell.node
  let others := nodes.filter (· != me)
  let (fine, s1) := if others = [] then (1, s) else s.freeBelow 2
  let bad := s.fab.sleep.state == 1 || s.fab.sleep.state == 2 || (nodes.contains me && !s.allDisabled) || fine != 1 ||
    (s.pair.role != 0 && nodes.contains me != nodes.contains s.pair.peer) || (nodes.contains me && s.members.any (fun d => !nodes.contains d)) || s.cutsOff nodes
  let s' := { s1 with fab := { s1.fab with sleep := { s1.fab.sleep with state := 1, nodes := nodes, pnr := s.cell.tick + 8, heardFrom := [] } } }
  tested s1 [badLen a 32, shadowed h s, liveCell s, badState (!(s.inFabric && s.fab.master == me)), badState bad]
    (okReply (s'.tell none (.cellCfg (s.cell.tick + 1) (.sleep nodes))))

/-- FAB_SLEEP: announces a sleep of named devices (R554). -/
def execFabSleep (h : Hdr) (a : List Byte) (s : State) : Result := commitHost 0x090B runFabSleep h a s

/-- The edge GTC of the point of no return (R555). -/
def State.pnrEdge (s : State) : Nat := s.cell.edge + (s.fab.sleep.pnr - s.cell.tick) * s.tickLen

/-- A wake request at the cycle master (R556): before the point of no return it cancels the sleep, else it is latched. A sleeping
device's request brings its slots back at the second edge after (R559). -/
def wakeAt (node src : Nat) (s : State) : State :=
  let f := s.fab.sleep
  let s := if (s.fabNode node).asleep.isSome then s.updFabNode node (fun m => { m with restoreAt := some (s.cell.tick + 2) }) else s
  let f := { f with heardFrom := (f.heardFrom ++ [node]).eraseDups }
  if f.state = 1 ∧ s.cell.tick < f.pnr ∧ s.gtc < s.pnrEdge then { s with fab := { s.fab with sleep := { f with state := 3 } } }
  else
    let all := f.nodes.all (fun d => d == s.cell.node || f.heardFrom.contains d)
    { s with fab := { s.fab with sleep := if f.nodes = [] then f else if all && f.state != 2 then { f with latch := false } else { f with latch := true, src := src } } }

/-- A WAKE_REQ frame to the cycle master (R556), sent in this device's next slot. -/
def sendWake (reason : Nat) (s : State) : State :=
  if s.fab.master = s.cell.node then wakeAt s.cell.node 0 s
  else
    let (f, s) := newFrame (some s.fab.master) (.wakeReq s.cell.node reason) s
    { s with fab := { s.fab with copies := s.fab.copies ++ (s.ringsTo (some s.fab.master)).map (fun r => (r, f)) } }

/-- FAB.WAKE (R556). -/
def runFabWake (h : Hdr) (a : List Byte) (s : State) : State × Reply :=
  tested s [badLen a 0, shadowed h s, liveCell s, badState (!s.inFabric)] (okReply (sendWake 0 s))

/-- FAB_WAKE: sends a wake request to the cycle master (R556). -/
def execFabWake (h : Hdr) (a : List Byte) (s : State) : Result := commitHost 0x090C runFabWake h a s

end Sys2Proof.Machine
end

