-- ==== Sys2Proof/Machine/Glume.lean ====
section
/-! DEFINITION. The Glume at work (07_separation_monitoring): telegrams, inputs and outputs, the safety cycle, clearance and its
delivery. The distances that the two channels compute in binary32 and in voxels are operands of GLUME_CHANNEL_RESULT (log entry
37). -/

namespace Sys2Proof.Machine

/-! ### Telegrams (R209 to R217) -/

/-- A condition of a cause marked "Reset" on a unit, present or gone (R207). -/
def State.setPresent (s : State) (u cause : Nat) (on : Bool) : State :=
  s.updGunit u (fun v => { v with present := v.present.filter (· != cause) ++ (if on then [cause] else []) })

/-- Whether a joint's reported velocity is at standstill (R201). -/
def GlmJoint.stands (j : GlmJoint) (v : Int) : Bool := decide (v.natAbs ≤ j.zeroVel)

/-- The position an axis consumed in a tick (R217). -/
def State.consumedAt (s : State) (ax : Nat) (tick : Int) : Option Int :=
  ((Table.get [] s.glume.consumed ax).find? (fun p => decide ((p.1 : Int) = tick))).map Prod.snd

/-- The checks of one accepted JOINT_STATE record on its arm (R203, R204, R217). -/
def jointRecord (u : Nat) (j : GlmJoint) (rxTick : Nat) (pos : Int) (s : State) : State :=
  let b := s.block
  let lag := (b.sources.getD j.src {}).lagTicks
  let off (p : Int) : Bool := decide (j.posTol < (pos - p).natAbs)
  let dev := s.stoOn j.axis && ((s.consumedAt j.axis ((rxTick : Int) - lag)).map off).getD false
  let s := s.setPresent u causePosDev dev
  let s := if dev then s.raiseCause u causePosDev b.faultCat else s
  let v := s.gunit u
  let out := match v.intervals.find? (fun r => r.1 == j.axis) with
    | some (_, lo, hi) => decide (pos < lo) || decide (hi < pos)
    | none => false
  let s := if (v.stop == some 1 || v.stop == some 2) && v.recorded == [] && out then s.raiseCause u causeBrakeOut 0 else s
  let lost := match v.recorded.find? (fun r => r.1 == j.axis) with
    | some (_, p) => off p
    | none => false
  if v.stop == some 2 && lost then s.raiseCause u causeStandstill 0 else s

/-- A stop that has come to standstill (R201, R203): category 1 after two telegrams, category 2 with its positions recorded. -/
def standing (a : GlmArm) (s : State) : State :=
  let u := a.arm
  let v := s.gunit u
  let all := a.joints.all (fun j => ((s.measured j.axis).map (fun m => j.stands m.2)).getD false)
  let n := if all then min 2 (v.still + 1) else 0
  let s := s.setGunit u { v with still := n }
  if v.stop = some 1 ∧ n = 2 ∧ !v.sto then ((s.updGunit u (fun v => { v with sto := true })).driveOutputs).ctrlUnit u
  else if v.stop = some 2 ∧ all ∧ v.recorded = [] then
    s.updGunit u (fun v => { v with recorded := a.joints.filterMap (fun j => (s.measured j.axis).map (fun m => (j.axis, m.1))) })
  else s

/-- An accepted JOINT_STATE of source `k` (R213). -/
def acceptJoints (k rxTick : Nat) (recs : List (Nat × Int × Int)) (s : State) : State :=
  let s := s.updGsrc k (fun v => { v with joints := (v.joints.filter (fun r => !recs.any (fun q => q.1 == r.1))) ++ recs })
  let b := s.block
  let s := recs.foldl (fun s r => b.arms.foldl (fun s a => match a.joints.find? (fun j => j.axis == r.1) with
    | some j => jointRecord a.arm j rxTick r.2.1 s
    | none => s) s) s
  b.arms.foldl (fun s a => if a.joints.any (fun j => j.src == k) then standing a s else s) s

/-- SENSOR_FAULT on every arm of a sensor's mask (R212, R214). -/
def sensorFault (k : Nat) (s : State) : State :=
  (maskUnits (s.block.sources.getD k {}).armMask 0).foldl (fun s u => (s.setPresent u causeSensor true).raiseCause u causeSensor s.block.faultCat) s

/-- An object's core lies in a sensor's field (R214). -/
def GlmObject.inField (o : GlmObject) (mn mx : Vec3) : Bool :=
  decide (mn.x ≤ o.x) && decide (o.x ≤ mx.x) && decide (mn.y ≤ o.y) && decide (o.y ≤ mx.y) && decide (mn.z ≤ o.zLo) && decide (o.zHi ≤ mx.z)

/-- An accepted part of a scan (R214): with its last part the scan stands, or is invalid. -/
def acceptObjects (k stamp age scan part parts : Nat) (degraded : Bool) (objs : List GlmObject) (s : State) : State :=
  let r := s.block.sources.getD k {}
  let v := s.gsrc k
  let cur := match v.scan with
    | some (n, miss, os) => if n = scan then (miss, os) else (List.range parts, [])
    | none => (List.range parts, [])
  let miss := cur.1.filter (· != part)
  let os := if cur.1.contains part then cur.2 ++ objs else cur.2
  let s := if miss ≠ [] then s.setGsrc k { v with scan := some (scan, miss, os) }
    else
      let bad := !os.all (fun o => o.inField r.fieldMin r.fieldMax)
      let tm : Int := (stamp : Int) - 1000 * age - 1000 * r.linkMaxUs
      let v := { v with scan := none, invalid := bad, faulty := bad && v.invalid
                        scanInvalid := if bad then wrap 32 (v.scanInvalid + 1) else v.scanInvalid
                        objects := if bad then v.objects else (tm, os) }
      let s := s.setGsrc k v
      if v.faulty then sensorFault k s else s
  if degraded then sensorFault k (s.updGsrc k (fun v => { v with faulty := true })) else s

/-- A record of an OBJECT_LIST (R214). -/
def objectAt (a : List Byte) (i : Nat) : GlmObject :=
  let u (o n : Nat) : Nat := ofBE (octets a (i + o) n)
  let g (o n : Nat) : Int := toS (8 * n) (u o n)
  { id := u 0 1, cls := u 1 1, radius := u 2 2, x := g 4 4, y := g 8 4, zLo := g 12 4, zHi := g 16 4
    vel := { x := g 20 2, y := g 22 2, z := g 24 2 }, unc := u 26 2 }

/-- A received safety telegram with its receive GTC (R211): the first test that fails counts and discards it. -/
def telegram (bs : List Byte) (stamp : Nat) (s : State) : State :=
  let u (o n : Nat) : Nat := ofBE (octets bs o n)
  let b := s.block
  match b.sourceOf (u 0 2) with
  | none => s
  | some k =>
    let r := b.sources.getD k {}
    let v := s.gsrc k
    let len := u 10 2
    let seq := u 6 2
    let typ := u 4 1
    let age := u 8 2
    let n := if typ = 1 then u 12 1 else u 15 1
    let recs := (List.range n).map (fun i => (u (14 + 14 * i) 2, toS 64 (u (16 + 14 * i) 8), toS 32 (u (24 + 14 * i) 4)))
    let objs := (List.range n).map (fun i => objectAt bs (16 + 28 * i))
    let mine (ax : Nat) : Bool := b.arms.any (fun a => a.joints.any (fun j => j.axis == ax && j.src == k))
    let parts := u 14 1 % 16
    let formed :=
      if typ = 1 then u 5 1 == 0 && decide (1 ≤ n) && decide (n ≤ 32) && len == 2 + 14 * n && recs.all (fun q => mine q.1)
      else decide (u 5 1 ≤ 1) && decide (n ≤ 48) && len == 4 + 28 * n && decide (1 ≤ parts) && decide (parts ≤ 4) && decide (u 14 1 / 16 < parts) &&
        objs.all (fun o => decide (o.cls ≤ 1) && decide (o.zLo ≤ o.zHi))
    let bad1 := bs.length != 16 + len || decide (1480 < len) || u (12 + len) 4 != telegramCheck (u 0 2) seq (bs.take (12 + len))
    let bad2 := u 2 2 != b.addr || !(if r.kind = 0 then typ == 1 else typ == 2)
    let bad3 := (v.seq.map (fun q => (seq + 65536 - q) % 65536 == 0 || decide (b.seqWin < (seq + 65536 - q) % 65536))).getD false
    let bad4 := decide ((if r.kind = 1 then r.maxAgeUs else 1000) < age)
    if bad1 then s.setGsrc k { v with badCheck := wrap 32 (v.badCheck + 1) }
    else if bad2 then s.setGsrc k { v with badAddr := wrap 32 (v.badAddr + 1) }
    else if bad3 then s.setGsrc k { v with badSeq := wrap 32 (v.badSeq + 1) }
    else if bad4 then s.setGsrc k { v with badAge := wrap 32 (v.badAge + 1) }
    else if !formed then s.setGsrc k { v with badForm := wrap 32 (v.badForm + 1) }
    else
      let s := s.setGsrc k { v with accepted := wrap 32 (v.accepted + 1), seq := some seq, last := stamp, timedOut := false, faulty := v.faulty && typ == 2 && u 5 1 == 1 }
      if typ = 1 then acceptJoints k (stamp / s.tickLen) recs s
      else acceptObjects k stamp age (u 12 2) (u 14 1 / 16) parts (u 5 1 == 1) objs s

/-- SAFETY_TELEGRAM_RECEIVE: the Glume tests a received safety telegram and accepts or discards it (R211). -/
def execSafetyTelegramReceive (octets : List Byte) (stamp : Nat) (s : State) : Result := .next (telegram octets stamp s)

/-- SOURCE_TIMEOUT: a safety source's last accepted telegram is older than TIMEOUT_US (R212). -/
def execSourceTimeout (k : Nat) (s : State) : Result :=
  let b := s.block
  if b.sources.length ≤ k then .next s
  else
    let s := s.updGsrc k (fun v => { v with timedOut := true, seq := none, timeouts := wrap 32 (v.timeouts + 1) })
    if (b.sources.getD k {}).kind = 1 then .next (sensorFault k s)
    else
      let us := ((s.ctrlAxes k).map Prod.snd).eraseDups
      .next (us.foldl (fun s u => (s.setPresent u causeDrive true).raiseOne u causeDrive b.faultCat) s)

/-! ### Safe inputs and outputs (R237 to R241) -/

/-- The units a safe input acts on. -/
def GlmInput.units (i : GlmInput) : List Nat := maskUnits i.armMask i.auxMask

/-- INPUT_FAULT of a safe input (R238). -/
def inputFault (i : GlmInput) (s : State) : State :=
  let s := s.updSafeIn i.pair (fun v => { v with fault := true })
  i.units.foldl (fun s u => (s.setPresent u causeInput true).raiseOne u causeInput s.block.faultCat) s

/-- One safe input after a sample of its channels (R238): the filter, the discrepancy, and the closed period of a RESET. -/
def SafeIn.sample (i : GlmInput) (tested : Bool) (a b : Bool) (v : SafeIn) : SafeIn :=
  let closedA := a || (tested && !v.isOpenA)
  let closedB := (if i.antivalent then !b else b) || (tested && !v.isOpenB)
  let oa := if closedA then 0 else v.openA + 10
  let ob := if closedB then 0 else v.openB + 10
  let isA := !closedA && decide (i.filtUs ≤ oa)
  let isB := !closedB && decide (i.filtUs ≤ ob)
  let was := v.isOpenA || v.isOpenB
  let now := isA || isB
  let span := if now then 0 else v.closedFor + 10
  let release := i.function == 4 && !was && now
  let ok := decide (100000 ≤ v.closedFor) && decide (v.closedFor ≤ 5000000)
  { v with a := a, b := b, openA := oa, openB := ob, isOpenA := isA, isOpenB := isB, disc := if isA == isB then 0 else v.disc + 10
           closedFor := span, released := v.released || (release && ok), ignored := if release && !ok then wrap 32 (v.ignored + 1) else v.ignored }

/-- Whether a sample lies in the widened window of a test pulse (R238). -/
def State.inPulse (s : State) (tp : Nat) : Bool :=
  match Table.get none (s.glume.tpAt.map (fun p => (p.1, some p.2))) tp with
  | some t => decide (t ≤ s.gtc + 50000) && decide (s.gtc ≤ t + 1000 * s.block.tpWUs + 50000)
  | none => false

/-- SAFE_INPUT_SAMPLE: both channels of every safe input are sampled and filtered (R238). -/
def execSafeInputSample (a b : Nat) (s : State) : Result :=
  .next (s.block.inputs.foldl (fun s i =>
    s.updSafeIn i.pair (SafeIn.sample i (s.inPulse i.tp) (bitAt a i.pair) (bitAt b i.pair))) s)

/-- DISCREPANCY_TIMEOUT: two channels disagree longer than DISC_MS and INPUT_FAULT is raised (R238). -/
def execDiscrepancyTimeout (pair : Nat) (s : State) : Result :=
  onUnit pair 32 (match s.block.inputs.find? (fun i => i.pair == pair) with
    | some i => if (s.safeIn pair).isOpenA = (s.safeIn pair).isOpenB then s else inputFault i s
    | none => s)

/-- TEST_PULSE: a test pulse output produces its periodic low pulse; a fed channel that fails to see it raises INPUT_FAULT
(R238). -/
def execTestPulse (k seenA seenB : Nat) (s : State) : Result :=
  let s' := { s with glume := { s.glume with tpAt := Table.set 0 s.glume.tpAt k s.gtc } }
  onUnit k 4 (s'.block.inputs.foldl (fun s i =>
    if i.tp = k ∧ i.function ≠ 0 then
      let miss := !bitAt seenA i.pair || !bitAt seenB i.pair
      let s := s.updSafeIn i.pair (fun v => { v with missed := miss })
      if miss then inputFault i s else s
    else s) s')

/-- The units a safe output pair serves. -/
def State.outputUnits (s : State) (o : GlmOutput) : List Nat :=
  if o.function = 2 then ((s.block.unitOf o.axis).map (fun u => [u])).getD [] else maskUnits o.armMask o.auxMask

/-- OUTPUT_TEST_PULSE: an energised pair's switches are pulsed off in turn and read back; a fault de-energises the pair by its
other switch (R240). -/
def execOutputTestPulse (pair : Nat) (okHigh okLow short : Bool) (s : State) : Result :=
  let v := s.safeOut pair
  onUnit pair 32 (match s.block.outputs.find? (fun o => o.pair == pair) with
    | none => s
    | some o =>
      if !(v.high && v.low) || (okHigh && okLow && !short) then s
      else
        let us := s.outputUnits o
        let s := s.updSafeOut pair (fun v => { v with fault := true })
        let s := us.foldl (fun s u => (s.setPresent u causeOutput true).raiseCause u causeOutput 0) s
        s.driveOutputs.updSafeOut pair (fun v => { v with high := short == false && !okHigh && okLow, low := short == false && okHigh && !okLow }))

/-- STOP1_TIMEOUT: STOP1_MAX elapses in a category 1 stop and the STO outputs de-energise (R201). -/
def execStop1Timeout (u : Nat) (s : State) : Result :=
  onUnit u 32 (if (s.gunit u).stop = some 1 then ((s.updGunit u (fun v => { v with sto := true })).driveOutputs).ctrlUnit u else s)

/-- GLUME_CLOCK_FAULT: a reference mismatch, PLL unlock or VDD_GLUME excursion de-energises every safe output pair (R198). -/
def execGlumeClockFault (s : State) : Result :=
  let s := { s with glume := { s.glume with cut := true } }
  let s := (List.range 32).foldl (fun s p => s.updSafeOut p (fun v => { v with high := false, low := false })) s
  .next (s.glumeFault 0)

/-- GLUME_SELF_TEST: the Glume's periodic self-test checks both channels with known envelopes (R249). A test that passes finds
the faults of the Glume gone (log entry 37). -/
def execGlumeSelfTest (ok : Bool) (s : State) : Result :=
  .next (if ok then { s with glume := { s.glume with faults := [], cut := false } } else s.glumeFault 2)

/-- TICK_ABSENCE: no tick edge for two safety cycles raises GLUME_FAULT (R249). -/
def execTickAbsence (s : State) : Result := .next (s.glumeFault 1)

/-- GLUME_DEADLINE_MISS: a channel misses its check deadline and GLUME_FAULT is raised; no candidate result is delivered late
(R222). -/
def execGlumeDeadlineMiss (u : Nat) (s : State) : Result :=
  onUnit u 32 ((s.updGunit u (fun v => { v with result := none })).glumeFault 3)

/-- PENDING_BLOCK_EXPIRY: a pending safety block without a confirm within 60 s is discarded (R246). -/
def execPendingBlockExpiry (s : State) : Result := .next { s with glume := { s.glume with pendingBlock := none } }

/-! ### Proposal and result (R221, R228 to R233) -/

/-- The owners whose entries a unit clears: the arm, or each auxiliary axis of the group. -/
def State.unitOwners (s : State) (u : Nat) : List Nat := if u < 16 then [1000 + u] else s.block.unitAxes u

/-- An arm's proposal latched (R221): the staged entries from C up to the stamp K + Q + H - 1, with their checks. -/
def latchProposal (u : Nat) (s : State) : State :=
  let o := 1000 + u
  let q := s.ownQueue o
  let top := q.k + ticksPerSafety s.cell.tickSel + s.horizon
  let n := min (q.s - q.c) (top - q.c)
  let one (a : Nat) : Nat × List (Nat × Nat) :=
    (a, (((s.axis a).queue.entries.drop (q.c - q.k)).take n).map (fun e => (e.stamp, e.check a)))
  s.updGunit u (fun v => { v with latched := (s.ownerAxes o).map one, hasLatch := true })

/-- PROPOSAL_LATCH: the Glume latches an arm's proposal when its Mandrel completes step 2 (R221). -/
def execProposalLatch (u : Nat) (s : State) : Result := onUnit u 16 (latchProposal u s)

/-- The number of entries a unit has proposed. -/
def GlmUnit.proposed (v : GlmUnit) : Nat := if v.hasLatch then (v.latched.head?.map (fun p => p.2.length)).getD 0 else 0

/-- One volume kind of a window: whether it passes, and whether the channels disagree (R228). -/
def judge (m : Int) (o : Bool) : Bool × Bool := (decide (0 ≤ m) && !o, (decide (m < 0) && !o) || (decide (88 < m) && o))

/-- The grade row a passing candidate selects (R231): the first row met by channel A, then down while channel B overlaps; none
where the channels disagree. -/
def gradeRow (rows : List (Nat × Nat)) (m : Int) (os : List Bool) : Option Nat :=
  let met := (List.range rows.length).filter (fun i => decide (((rows.getD i (0, 0)).1 : Int) ≤ m))
  let bad (i : Nat) : Bool := os.getD i false && decide (88 < m - (rows.getD i (0, 0)).1)
  match met.find? (fun i => !os.getD i false || bad i || i + 1 == rows.length) with
  | some i => if bad i then none else some i
  | none => none

/-- A disagreement of the channels (R228): counted, and in two consecutive cycles a GLUME_FAULT. -/
def disagree (u : Nat) (s : State) : State :=
  let prev := (s.gunit u).disagreed
  let s := { s with glume := { s.glume with disagree := wrap 32 (s.glume.disagree + 1) } }
  let s := s.updGunit u (fun v => { v with disagreed := some s.glume.cycle })
  if prev.map (· + 1) = some s.glume.cycle then s.glumeFault 4 else s

/-- The factor delivered after a passing candidate (R231, R232, R234). -/
def nextFactor (b : GlmBlock) (collab : Bool) (m : Int) (os : List Bool) (v : GlmUnit) : Option (Nat × GlmUnit) :=
  let f (i : Nat) : Nat := (b.grades.getD i (0, 0x8000)).2
  if !collab then some (f 0, { v with raise := 0 })
  else match gradeRow b.grades m os with
    | none => none
    | some i =>
      if v.factor = 0 then some (f i, { v with raise := 0 })
      else if f i < v.factor then some (f i, { v with raise := 0, gradeDown := wrap 32 (v.gradeDown + 1) })
      else if f i = v.factor then some (v.factor, { v with raise := 0 })
      else
        let rows := (List.range b.grades.length).filter (fun k => decide (v.factor < f k))
        let up := rows.getLastD 0
        if ((b.grades.getD up (0, 0)).1 : Int) + b.hystMm ≤ m then
          if b.raiseCycles ≤ v.raise + 1 then some (f up, { v with raise := 0 }) else some (v.factor, { v with raise := v.raise + 1 })
        else some (v.factor, { v with raise := 0 })

/-- A window result of an arm (R228 to R232, R234): the cleared window raises SEPARATION or KEEPOUT, the candidate gives the
count and factor of the next delivery. -/
def channelResult (u : Nat) (r : GlmResult) (s : State) : State :=
  let b := s.block
  let collab := (Table.get (0, 0) s.glume.modes u).1 == 2
  let h := if collab then judge r.mHuman r.oHuman else (true, false)
  let k := judge r.mKeep r.oKeep
  let s := s.updGunit u (fun v => { v with window := r.fail })
  let s := if h.2 || k.2 then disagree u s else s
  let okH := h.1 && !h.2 && r.fail == 0
  let okK := k.1 && !k.2 && r.fail == 0
  if !r.cand then
    let s := s.setPresent u causeKeepout (!okK)
    let s := if okH then s else s.raiseCause u causeSeparation b.pstopCat
    if okK then s else s.raiseCause u causeKeepout b.pstopCat
  else
    let v := s.gunit u
    let v := { v with margin := r.mHuman }
    let n := v.proposed
    let drop (v : GlmUnit) : GlmUnit := { v with result := some (0, 0), passed := false, raise := 0, passes := Table.set 0 v.passes causeSeparation 0 }
    if !(okH && okK) ∨ n = 0 then s.setGunit u (drop v)
    else match nextFactor b collab r.mHuman r.oGrade v with
      | some (f, v) => s.setGunit u { v with result := some (n, f), passed := true, passes := Table.upd 0 v.passes causeSeparation (· + 1) }
      | none => disagree u (s.setGunit u (drop v))

/-- GLUME_CHANNEL_RESULT: the channels have finished a check and the results are cross-checked (R228). -/
def execGlumeChannelResult (u : Nat) (r : GlmResult) (s : State) : Result := onUnit u 16 (channelResult u r s)

/-! ### Delivery (R31, R202, R230, R233, R235) -/

/-- Whether an entry may be cleared during a stop (R202, R233): a brake entry, or a standstill entry. -/
def brakeEntry (e : QEntry) (prev : Int) : Bool := bitAt e.flags 5 || bitAt e.flags 0 || (e.vel == 0 && e.acc == 0 && e.pos == prev)

/-- The entries of an owner beyond C that a stop clears: up to K and the horizon, while every axis's entry is a brake or a
standstill entry inside the interval recorded for it; an entry outside raises BRAKE_OUTSIDE (R233). -/
def clearBrake (u o : Nat) (s : State) : State :=
  let q := s.ownQueue o
  let c := q.c - q.k
  let n := min (q.s - q.c) (q.k + s.horizon - q.c)
  let v := s.gunit u
  let axes := s.ownerAxes o
  let ent (a i : Nat) : QEntry := (s.axis a).queue.entries.getD (c + i) {}
  let prev (a i : Nat) : Int := if c + i = 0 then ((s.axis a).queue.last.map (fun e => e.pos)).getD (ent a i).pos else ((s.axis a).queue.entries.getD (c + i - 1) {}).pos
  let fits (a i : Nat) : Bool := match v.intervals.find? (fun r => r.1 == a) with
    | some (_, lo, hi) => decide (lo ≤ (ent a i).pos) && decide ((ent a i).pos ≤ hi)
    | none => true
  let brake (i : Nat) : Bool := axes.all (fun a => brakeEntry (ent a i) (prev a i))
  let good := ((List.range n).takeWhile (fun i => brake i && axes.all (fun a => fits a i))).length
  let s := if good < n ∧ brake good then s.raiseCause u causeBrakeOut 0 else s
  publish o good s

/-- The counted entries of a result are published while they carry the checks latched; the shortfall is counted (R230). -/
def publishChecked (u n : Nat) (s : State) : State :=
  let o := 1000 + u
  let q := s.ownQueue o
  let c := q.c - q.k
  let v := s.gunit u
  let same (i : Nat) : Bool := v.latched.all (fun p =>
    match (s.axis p.1).queue.entries[c + i]? with
    | some e => (p.2.getD i (0, 0)) == (e.stamp, e.check p.1)
    | none => false)
  let k := ((List.range n).takeWhile same).length
  let s := s.updGunit u (fun v => { v with clearTrunc := wrap 32 (v.clearTrunc + (n - k)) })
  publish o k s

/-- What a primary delivers is forwarded to its shadow (R276): unit, count and factor, 0 and 0 for a stop. -/
def State.gave (s : State) (u n f : Nat) : State :=
  if s.pair.role = 1 then { s with pair := { s.pair with gave := s.pair.gave ++ [(u, n, f)] } } else s

/-- The delivery of an arm's result at the edge that ends its safety cycle (R31, R202, R230). -/
def deliverArm (u : Nat) (s : State) : State :=
  let o := 1000 + u
  let v := s.gunit u
  if v.state ≥ 2 then (clearBrake u o s).gave u 0 0
  else match v.result with
    | some (n, f) =>
      if n = 0 ∨ f = 0 then ((clearBrake u o (clearanceStop o s)).updGunit u (fun v => { v with factor := 0 })).gave u 0 0
      else
        let s := (deliverFactor o f (publishChecked u n s)).updGunit u (fun v => { v with factor := f })
        (s.updGunit u (fun v => { v with intervals := s.intervalsOf u })).gave u n f
    | none => s

/-- The clearance of auxiliary axes (R235): free outside every group and in one that is NORMAL, else only brake entries. A shadow
follows the deliveries of its primary. -/
def deliverAux (o : Nat) (s : State) : State :=
  match s.block.unitOf o with
  | none => clearAux o s
  | some u =>
    if s.isShadow then (if (s.gen o).clearStop then clearBrake u o s else clearAux o s)
    else if (s.gunit u).state < 2 then clearAux o (if (s.gen o).clearStop then (deliverFactor o 0x8000 s).gave u 1 0x8000 else s)
    else clearBrake u o s

/-- Stop deliveries at a tick edge (R202): the first edge after the decision. -/
def deliverStops (s : State) : State :=
  s.units.foldl (fun s u =>
    if !(s.gunit u).deliver then s
    else
      let s := (s.updGunit u (fun v => { v with deliver := false })).gave u 0 0
      (s.unitOwners u).foldl (fun s o => if s.ownerAxes o = [] then s else
        (clearanceStop o s).updGunit u (fun v => { v with factor := if u < 16 then 0 else v.factor })) s) s

/-- A delivery that a shadow's primary has forwarded (R199, R277, R279). -/
def takeDelivery (d : Nat × Nat × Nat) (s : State) : State :=
  (s.unitOwners d.1).foldl (fun s o =>
    if s.ownerAxes o = [] then s
    else if d.2.1 = 0 ∨ d.2.2 = 0 then clearBrake d.1 o (if (s.gen o).clearStop then s else clearanceStop o s)
    else if d.1 < 16 then deliverFactor o d.2.2 (publishChecked d.1 d.2.1 s)
    else if (s.gen o).clearStop then deliverFactor o d.2.2 s else s) s

/-! ### The safety cycle's latch (R206, R207, R212, R215, R221, R234, R246) -/

/-- Whether any input of a function that names a unit is open. -/
def State.inputOpen (s : State) (fn u : Nat) (auto : Option Bool) : Bool :=
  s.block.inputs.any (fun i => i.function == fn && i.units.contains u && (auto.map (· == i.auto)).getD true &&
    ((s.safeIn i.pair).isOpenA || (s.safeIn i.pair).isOpenB))

/-- Whether an object in force lies in an arm's field (R234). -/
def State.present (s : State) (a : GlmArm) : Bool :=
  (List.range s.block.sources.length).any (fun k => (s.gsrc k).objects.2.any (fun o =>
    decide (a.fieldMin.x ≤ o.x) && decide (o.x ≤ a.fieldMax.x) && decide (a.fieldMin.y ≤ o.y) && decide (o.y ≤ a.fieldMax.y) &&
      decide (a.fieldMin.z ≤ o.zHi) && decide (o.zLo ≤ a.fieldMax.z)))

/-- Objects in the complete scans in force (R215). -/
def State.objectCount (s : State) : Nat := ((List.range s.block.sources.length).map (fun k => (s.gsrc k).objects.2.length)).foldl (· + ·) 0

/-- The causes that inputs, presence and overflow raise at a latch. -/
def raiseLatched (s : State) : State :=
  let b := s.block
  let s := b.inputs.foldl (fun s i =>
    let v := s.safeIn i.pair
    if !(v.isOpenA || v.isOpenB) then s
    else
      let c := if i.function = 1 then some causeEstop else if i.function = 2 then some causeGuard else if i.function = 3 then some causeEnable else none
      match c with
      | some c => i.units.foldl (fun s u => s.raiseOne u c i.cat) s
      | none => s) s
  b.arms.foldl (fun s a =>
    let m := (Table.get (0, 0) s.glume.modes a.arm).1
    let s := if m ≠ 2 ∧ s.present a then s.raiseCause a.arm causePresence b.pstopCat else s
    if m = 2 ∧ 64 < s.objectCount then s.raiseCause a.arm causeOverflow b.pstopCat else s) s

/-- Cycles in a row without a condition, counted per cause (R206). -/
def countPass (u cause : Nat) (ok : Bool) (s : State) : State :=
  s.updGunit u (fun v => { v with passes := Table.set 0 v.passes cause (if ok then Table.get 0 v.passes cause + 1 else 0) })

/-- The causes that end by themselves at a safety-cycle edge (R206, R207). -/
def endAutomatic (u : Nat) (s : State) : State :=
  let b := s.block
  let arm := b.arm? u
  let m := (Table.get (0, 0) s.glume.modes u).1
  let s := match arm with
    | some a => countPass u causePresence (!(decide (m ≠ 2) && s.present a)) (countPass u causeOverflow (decide (s.objectCount ≤ 64)) s)
    | none => s
  let enough (c : Nat) : Bool := decide (b.restartCycles ≤ Table.get 0 (s.gunit u).passes c)
  let joints := b.unitAxes u
  let faulted := joints.any (fun a => match (s.axis a).fault with
    | some c => c != St.safeTorqueOff
    | none => false)
  let fin (c : Nat) (ok : Bool) (s : State) : State := if ok && (s.gunit u).causes.any (fun x => x.1 == c) then s.endCause u c else s
  let s := if u < 16 then fin causeSeparation (enough causeSeparation) (fin causePresence (enough causePresence) (fin causeOverflow (enough causeOverflow) s)) else s
  let s := fin causeGuard (!s.inputOpen 2 u none && !b.inputs.any (fun i => i.function == 2 && i.units.contains u && !i.auto)) s
  let s := fin causeEnable (!s.inputOpen 3 u none) s
  if u < 16 then fin causeAxisFault (!faulted) s else s

/-- Whether the condition of a cause marked "Reset" is present at a latch (R206, R207). -/
def State.conditionOf (s : State) (u c : Nat) : Bool :=
  let b := s.block
  let srcs := List.range b.sources.length
  if c = causeEstop then s.inputOpen 1 u none
  else if c = causeGuard then s.inputOpen 2 u none
  else if c = causeSensor then srcs.any (fun k => bitAt (b.sources.getD k {}).armMask u && (b.sources.getD k {}).kind == 1 && ((s.gsrc k).timedOut || (s.gsrc k).faulty))
  else if c = causeDrive then srcs.any (fun k => (s.gsrc k).timedOut && (s.ctrlAxes k).any (fun p => p.2 == u))
  else if c = causeKeepout ∨ c = causePosDev then (s.gunit u).present.contains c
  else if c = causeInput then b.inputs.any (fun i => i.units.contains u && ((s.safeIn i.pair).isOpenA != (s.safeIn i.pair).isOpenB || (s.safeIn i.pair).missed))
  else if c = causeGlume then s.glume.faults != []
  else if c = causeNoConfig then s.glume.block.isNone
  else false

/-- A reset released since the last latch (R207, R238): the causes marked "Reset" whose conditions have ended are cleared on the
units of its masks, and with them the faults of their inputs and outputs. -/
def applyResets (s : State) : State :=
  let b := s.block
  let units := (b.inputs.filter (fun i => i.function == 4 && (s.safeIn i.pair).released)).flatMap GlmInput.units
  let s := b.inputs.foldl (fun s i => s.updSafeIn i.pair (fun v => { v with released := false })) s
  units.eraseDups.foldl (fun s u =>
    let cs := [causeKeepout, causeGuard, causeEstop, causeSensor, causeDrive, causePosDev, causeBrakeOut, causeStandstill, causeInput, causeOutput, causeGlume, causeNoConfig]
    cs.foldl (fun s c =>
      if !(s.gunit u).causes.any (fun x => x.1 == c) || s.conditionOf u c then s
      else
        let s := if c = causeInput then b.inputs.foldl (fun s i => if i.units.contains u then s.updSafeIn i.pair (fun v => { v with fault := false }) else s) s else s
        let s := if c = causeOutput then b.outputs.foldl (fun s o => if (s.outputUnits o).contains u then s.updSafeOut o.pair (fun v => { v with fault := false }) else s) s else s
        s.endCause u c) s) s

/-- The confirmed block becomes active (R246, R247): every arm and group takes NO_CONFIG, the sources start afresh, and the block
is stored. -/
def activateBlock (s : State) : State :=
  match s.glume.confirmed with
  | none => s
  | some b =>
    let s := { s with glume := { s.glume with block := some b, confirmed := none, pendingBlock := none, sources := [], inputs := [], consumed := [] } }
    let s := (List.range b.sources.length).foldl (fun s k => s.updGsrc k (fun v => { v with last := s.gtc })) s
    let s := s.raiseAll causeNoConfig 0
    let s := s.retain 1 0 (b.raw ++ toLE 4 b.crc)
    (s.event 20 0x8501 0 (toLE 4 b.id ++ toLE 4 b.crc)).driveOutputs

/-- A safety cycle opens at an edge (R221): after the delivery of the cycle that ends, the latch, the causes it shows, and
SAFE_CTRL to every drive source (R216). A shadow takes its deliveries from its primary (R199). -/
def openSafetyCycle (s : State) : State :=
  let s := if s.isShadow then s else
    s.units.foldl (fun s u => if u < 16 ∧ s.ownerAxes (1000 + u) ≠ [] then deliverArm u s else s) s
  let s := { s with glume := { s.glume with
    cycle := wrap 64 (s.glume.cycle + 1), opened := s.cell.edge, checked := [], faults := s.glume.faults.filter (fun f => f == 0 || f == 2)
    modes := (List.range 16).foldl (fun t n => Table.set (0, 0) t n ((s.arm n).mode, (s.arm n).tool)) s.glume.modes } }
  let s := (List.range 16).foldl (fun s n => s.updArm n (fun r => { r with modeWait := false })) s
  let s := s.units.foldl (fun s u => s.updGunit u (fun v => { v with result := none, hasLatch := false, latched := [], passed := false })) s
  let s := activateBlock s
  let s := raiseLatched s
  let s := s.units.foldl (fun s u => endAutomatic u s) s
  let s := applyResets s
  if s.isShadow then s else
    (List.range s.block.sources.length).foldl (fun s k => if (s.block.sources.getD k {}).kind = 0 ∧ s.ctrlAxes k ≠ [] then s.sendCtrl k else s) s

/-- The clearance credits of an edge (R31, R202, R235): stop deliveries, auxiliary axes, and at a safety-cycle edge the results
of the cycle that ended. -/
def clearanceEdge (s : State) : State :=
  let s := { s with pair := { s.pair with gave := [] } }
  let s := if s.cell.tick % ticksPerSafety s.cell.tickSel = 0 then openSafetyCycle s else s
  let s := if s.isShadow then s else deliverStops s
  s.owners.foldl (fun s o => if o < 1000 then deliverAux o s else s) s

/-- SAFE_TORQUE_OFF from the edge after an STO pair de-energised (R205); a direct-drive axis takes it too when its brake pair is
de-energised while it drives. -/
def stoFaults (s : State) : State :=
  (s.motion.axes.map Prod.fst).foldl (fun s a =>
    let x := s.axis a
    let brakeOff := x.binding.isDd && x.dd.brakePair != 0xFF && x.brakeReq && x.brakeUntil.isNone && x.disableAt.isNone && x.align.isNone &&
      !((s.safeOut x.dd.brakePair).high && (s.safeOut x.dd.brakePair).low)
    if x.mode ≠ 0 ∧ x.fault.isNone ∧ (!s.stoOn a ∨ brakeOff) then s.axisFault a St.safeTorqueOff else s) s

end Sys2Proof.Machine
end

