-- ==== Sys2Proof/Machine/PairBase.lean ====
section
/-! DEFINITION. A pair at work: the records a primary forwards and what its shadow does with them (R276, R277), digests (R280) and
slices (R281, R282). -/

namespace Sys2Proof.Machine

/-! ### Forwarding (R276, R277) -/

/-- Whether this device forwards the records of the present tick (R276, R298). -/
def State.forwards (s : State) : Bool := if s.pair.switchAt = some s.cell.tick then s.pair.role == 2 else s.pair.role == 1

/-- The records that determine this device's computation of the present tick (R276); axis inputs stand in update order, which is the
order of their ranks (R52, R277). In PARTIAL only running axes are forwarded (R561). -/
def State.fwdNow (s : State) : FwdSet :=
  let pins := (List.range 128).filter s.switchPin
  let caps := (List.range 8).flatMap (fun p => (s.cap p).snapped.map (fun t => (p, t)))
  let codes := (List.range 4).flatMap (fun c => ((List.range 16).filter (fun i => bitAt (s.adc c).inputEn i)).map (fun i => (c, i, Table.get 0 (s.adc c).codes i)))
  let input (a : Nat) : Option (Nat × Bool × Nat) := (s.feedback (s.axis a)).map (fun f => (a, f.2, if f.2 then f.1 else 0))
  { tick := s.cell.tick, delivery := s.pair.gave, switches := pins.map (fun p => (p, (s.gpio p).snap, (s.gpio p).edges)), captures := caps, codes := codes
    inputs := ((s.dueAxes s.cell.tick).filter s.inRun).filterMap input, commits := s.pair.commits }

/-- The switches of every axis are sampled at this seal, and their transitions act (R176, R177). -/
def runSwitches (s : State) : State :=
  let axes := s.motion.axes.map Prod.fst
  let r := axes.foldl (fun (acc : State × List (Nat × Nat × Nat × Bool)) a =>
    let x := sampleAxis a acc.1
    (x.1, acc.2 ++ x.2.map (fun t => (a, t)))) (s, [])
  let s := r.2.foldl (fun s t => onSwitch t.1 t.2.1 t.2.2.1 t.2.2.2 s) r.1
  axes.foldl (fun s a => if (s.axis a).homing.isSome then homingTick a s else s) s

/-- Forwarded records not there at their point of use, counted (R277). -/
def fwdLateBy (n : Nat) (s : State) : State := { s with pair := { s.pair with fwdLate := wrap 32 (s.pair.fwdLate + n) } }

/-- The edges at which the primary's report makes acknowledged commands commit (R278). -/
def takeCommits (l : List (Nat × Nat × Nat)) (s : State) : State :=
  { s with host := { s.host with cmds := s.host.cmds.map (fun c =>
      match l.find? (fun r => c.hdr.port == 0 && c.hdr.tag == r.1 && c.stage == .awaitShadow) with
      | some r => { c with stage := .waiting, commitAt := r.2.1, acceptGtc := r.2.2 }
      | none => c) } }

/-- A forwarded set arrives at the device that takes it (R277): deliveries, switches and captures act at the end of the commit phase,
before the Tiller window opens; codes replace the own ones, and axis inputs wait for their updates. -/
def takeFwd (f : FwdSet) (s : State) : State :=
  let s := takeCommits f.commits { s with pair := { s.pair with fwd := some f, missRun := 0, suspect := false } }
  if !s.takesFwd || f.tick != s.cell.tick then s
  else if s.cell.edge + tillerOpen s.cell.tickSel < s.gtc then fwdLateBy (f.delivery.length + f.switches.length + f.captures.length) s
  else
    let s := f.switches.foldl (fun s w => s.updGpio w.1 (fun g => { g with snap := w.2.1, edges := w.2.2 })) s
    let s := (List.range 8).foldl (fun s p =>
      if (s.cap p).snap then s.updCap p (fun c => { c with snapped := (f.captures.filter (fun t => t.1 == p)).map Prod.snd }) else s) s
    let s := f.codes.foldl (fun s k => { s with motion := { s.motion with
      adcs := Table.upd {} s.motion.adcs k.1 (fun d => { d with codes := Table.set 0 d.codes k.2.1 k.2.2 }) } }) s
    let s := f.delivery.foldl (fun s d => takeDelivery d s) s
    runSwitches s

/-! ### Digests (R280) -/

/-- The digest of a group (R280); its fields go in least significant octet first. -/
def State.groupDigest (s : State) (g : Nat) : Nat :=
  let axes := ((List.range 8).map (8 * g + ·)).filter (fun a => (s.axis a).mode != 0)
  crcFold (wrap 32 s.cell.tick) (toLE 1 g ++ axes.flatMap (fun a =>
    let x := s.axis a
    toLE 4 (crcFold a x.loop.body) ++ toLE 4 (wrap 32 x.queue.k) ++ toLE 4 (wrap 32 x.queue.c) ++
      toLE 4 (crc32c (x.queue.published.flatMap (fun e => toLE 4 (e.check a)))) ++ toLE 4 (Config.planCheck x)))

/-- The groups a pair compares (R561): in PARTIAL those that hold a running axis. -/
def State.pairGroups (s : State) : List Nat :=
  (List.range 64).filter (fun g => s.cell.state != 7 || ((List.range 8).map (8 * g + ·)).any s.inRun)

/-- The digests of a tick compared at the shadow (R280, R282, R297): a group that differs is DIVERGED, one that agrees SYNCED. -/
def compareDigests (s : State) : State :=
  match s.pair.own, s.pair.theirs with
  | some (t, own), some (u, theirs) =>
    if t ≠ u ∨ s.pair.role < 2 then s
    else
      let gs := s.pairGroups
      let bad := gs.filter (fun g => own.getD g 0 != theirs.getD g 0)
      let div := gs.foldl (fun m g => if bad.contains g then setBit m g else clrBit m g) s.pair.diverged
      { s with pair := { s.pair with
          diverged := div, theirs := none, agreed := if bad = [] then s.pair.agreed + 1 else 0
          mismatch := if bad = [] then s.pair.mismatch else wrap 32 (s.pair.mismatch + 1) } }
  | _, _ => s

/-- The digests of a pair's device at an output seal (R280). -/
def sealDigests (s : State) : State :=
  if s.pair.role = 0 then s
  else compareDigests { s with pair := { s.pair with own := some (s.cell.tick, (List.range 64).map s.groupDigest) } }

/-- DIGEST records arrive (R280). -/
def takeDigest (tick : Nat) (l : List Nat) (s : State) : State := compareDigests { s with pair := { s.pair with theirs := some (tick, l) } }

/-! ### Slices (R281, R282) -/

/-- The slice a primary sends in a tick (R281), of its enabled axes as they stood at the seal. -/
def State.sliceNow (s : State) : FabSlice :=
  let g := s.cell.tick % 64
  { tick := s.cell.tick, group := g, axes := ((s.sliceAxes g).filter (fun a => (s.axis a).mode != 0)).map (fun a => (a, s.axis a))
    arms := (s.sliceArms g).map (fun n => (n, s.arm n)) }

/-- The generator at mark C, with what lies before it (R281, R282). -/
def atCleared (q : Queue) (gen : Motion) (back : List Motion) : Motion × List Motion := (back.getD (q.c - q.k) gen, back.take (q.c - q.k))

/-- An axis with a slice's loop record, marks, planning state and published entries (R282); its configuration stays its own. -/
def Axis.repaired (own x : Axis) : Axis :=
  let p := atCleared x.queue x.gen x.back
  let q := { x.queue with entries := x.queue.published, s := x.queue.c, l := x.queue.c }
  let same := decide (own.loop = x.loop) && own.queue.k == x.queue.k && own.queue.c == x.queue.c && decide (own.queue.published = x.queue.published)
  { own with mode := x.mode, loop := x.loop, queue := q, gen := p.1, back := p.2, limitActive := x.limitActive, refValid := x.refValid, fbOffset := x.fbOffset
             swHome := x.swHome, swNeg := x.swNeg, swPos := x.swPos, homing := x.homing, homeState := x.homeState, fault := x.fault, remote := x.remote
             resyncRepairs := if same then own.resyncRepairs else wrap 32 (own.resyncRepairs + 1) }

/-- An arm with a slice's planning state (R281, R282). -/
def Arm.repaired (own x : Arm) (q : Queue) : Arm :=
  let p := atCleared q x.gen x.back
  { own with gen := p.1, back := p.2, mode := x.mode, singular := x.singular, payloads := x.payloads, tool := x.tool, factor := x.factor, jogUntil := x.jogUntil }

/-- The slice of the tick before is applied at an edge, before the input seal (R282). -/
def applySlice (s : State) : State :=
  match s.pair.slice with
  | none => s
  | some f =>
    let s := { s with pair := { s.pair with slice := none } }
    let q (n : Nat) : Queue := match f.axes.find? (fun p => (s.arm n).axes.contains p.1) with
      | some p => p.2.queue
      | none => {}
    let s := f.arms.foldl (fun s p => s.updArm p.1 (fun r => r.repaired p.2 (q p.1))) s
    f.axes.foldl (fun s p => s.updAxis p.1 (fun x => x.repaired p.2)) s

/-- A slice not complete by the edge is discarded (R282): the resync slot of a tick brought none. -/
def sliceLate (s : State) : State := { s with pair := { s.pair with resyncLate := wrap 32 (s.pair.resyncLate + 1) } }

end Sys2Proof.Machine
end

