-- ==== Sys2Proof/Machine/FabricFrames.lean ====
section
/-! DEFINITION. Fabric frames on the wire: links (R506), what a received frame does (R507 to R515, R539, R540), slots and guardians
(R542 to R550), bulk transfers (R531), the cycle master's departure (R537) and a departed member (R267). -/

namespace Sys2Proof.Machine

/-! ### Links (R506) -/

/-- FABRIC_LINK_UP: block lock has held for 1 ms (R506); the port of an unusable block stays down (R601). -/
def execFabricLinkUp (p : Nat) (s : State) : Result :=
  onUnit p 4 (if s.lost (77 + p) then s else s.updFabPort p (fun k => { k with link := true, blockLock := true, hiBer := false }))

/-- FABRIC_LINK_DOWN: block lock is lost, or hi_ber is met (R506). -/
def execFabricLinkDown (p : Nat) (hiBer : Bool) (s : State) : Result :=
  onUnit p 4 (s.updFabPort p (fun k => { k with
    linkDowns := if k.link then wrap 32 (k.linkDowns + 1) else k.linkDowns, link := false, blockLock := hiBer, hiBer := hiBer }))

/-! ### The join frames of a joiner (R527) -/

/-- A fresh nonce of 16 octets. -/
def nonce (s : State) : List Byte × State :=
  let (n, s) := s.freeBelow (2 ^ 128)
  (toLE 16 n, s)

/-- A step of the join exchange goes out on the joiner's or the master's rings (R527). -/
def sendJoin (rings step uid node result : Nat) (octs : List Byte) (s : State) : State :=
  ([0, 1].filter (bitAt rings)).foldl (fun s r => s.send (.joinStep r step uid node result octs)) s

/-- The node ID of the device's last membership, which the journal keeps (R517). -/
def State.keptNode (s : State) : Option Nat :=
  let r := s.retained 9 0
  if r.valid then some (uAt r.body 5 1) else none

/-- J1 (R527): what the joiner asks for, with a fresh nonce. -/
def sendJ1 (s : State) : State :=
  let (n, s) := nonce s
  let j := s.fab.join
  let s := { s with fab := { s.fab with join := { j with stage := 2, nonce := n, since := s.gtc } } }
  let opt (o : Option Nat) : List Byte := match o with
    | some d => [1, BitVec.ofNat 8 d]
    | none => [0, 0]
  sendJoin s.fab.mine 1 s.cell.uid 0 0 (opt (if j.args.2.1 then some j.args.1 else none) ++ opt s.fab.strap ++ opt s.keptNode ++ n) s

/-! ### CYCLE frames received (R538 to R540, R547) -/

/-- D of the direction whose copies arrive at a port (R539), in 2^-16 ns; 0 before the first measurement. -/
def FabPort.delay (k : FabPort) : Int := if k.delays = [] then 0 else k.delays.foldl (· + ·) 0 / k.delays.length

/-- A delay joins the last eight of its direction (R539). -/
def FabPort.measured (k : FabPort) (d : Int) : FabPort := { k with delays := (k.delays ++ [d]).drop (k.delays.length + 1 - 8) }

/-- The signed difference of two GTC values of which the first is given by its low 32 bits. -/
def lowDiff (low full : Nat) : Int := toS 32 (low + 2 ^ 32 - wrap 32 full)

/-- The two-way measurement of the cycle before, when this member is the one reported (R539). -/
def measure (r : Nat) (b : CycleBody) (s : State) : State :=
  let (tx, aE, aW, tX) := (s.fabRing r).latch
  if b.dlyNode ≠ s.cell.node ∨ b.dlyCycle ≠ wrap 32 (s.cell.tick - 1) ∨ tx = 0 ∨ aE = 0 ∨ aW = 0 ∨ tX = 0 then s
  else
    let dE := (((aE : Int) - tx) + lowDiff b.dlyRxW tX) * 2 ^ 16 / 2
    let dW := (((aW : Int) - tx) + lowDiff b.dlyRxE tX) * 2 ^ 16 / 2
    (s.updFabPort (2 * r + 1) (fun k => k.measured dE)).updFabPort (2 * r) (fun k => k.measured dW)

/-- The offset sample of a cycle on a ring, from the copies that arrived (R540): the mean of their offsets. -/
def offsetSample (r : Nat) (s : State) : State :=
  let (tx, aE, aW) := (s.fabRing r).cycleRx
  let o (a p : Nat) : List Int := if a = 0 then [] else [((a : Int) - tx) * 2 ^ 16 - (s.fabPort p).delay]
  let l := o aE (2 * r + 1) ++ o aW (2 * r)
  if l = [] ∨ (s.fabRing r).sampled then s else servoSample 0 (l.foldl (· + ·) 0 / l.length) (s.updFabRing r (fun k => { k with sampled := true }))

/-- TB0 of a joiner is set once from the CYCLE frames (R540), and with it the tick grid (R11). -/
def setFromCycle (t : Nat) (s : State) : State :=
  let s := setBaseTime 0 (t / 1000000000) (t % 1000000000) s
  let len := s.tickLen
  let n := t / len
  { s with fab := { s.fab with tbSet := true }, cell := { s.cell with tick := n, edge := n * len, nextEdge := (n + 1) * len } }

/-- What a CYCLE frame tells of the sleep agreement (R538, R555, R556, R562). -/
def takeSleep (b : CycleBody) (s : State) : State :=
  let f := s.fab.sleep
  let pnr := if b.sleepState = 0 then f.pnr else ((s.cell.tick : Int) + lowDiff b.pnr s.cell.tick).toNat
  { s with fab := { s.fab with sleep := { f with state := b.sleepState, pnr := pnr, nodes := if b.sleepState = 3 then [] else f.nodes } } }

/-- A copy of a CYCLE frame at a port (R540, R547): the first sets the guardian's reference and reports; the second, or the close of
slot 0, gives the offset sample. -/
def takeCycle (p : Nat) (src : Nat) (b : CycleBody) (stamp : Nat) (s : State) : State :=
  let r := p / 2
  let east := p % 2 == 1
  let c := (s.fabRing r).cycleRx
  let first := c.2 == (0, 0)
  let s := s.updFabRing r (fun k => { k with cycleRx := (b.txGtc, if east then stamp else c.2.1, if east then c.2.2 else stamp) })
  let d := (s.fabPort p).delay
  let s := if first then
      let s := { s with fab := { s.fab with
        rho := ((stamp : Int) - d / 2 ^ 16).toNat, extrap := 0, master := b.master, cycleMiss := if src = b.master then 0 else s.fab.cycleMiss } }
      takeSleep b (measure r b s)
    else s
  if b.master = s.cell.node then s
  else if !s.fab.tbSet then
    let s := s.updFabRing r (fun k => { k with cycleRx := (0, 0, 0) })
    setFromCycle ((b.txGtc : Int) + d / 2 ^ 16 + ((s.gtc : Int) - stamp)).toNat s
  else if first then s
  else offsetSample r s

/-- What a joining device does when it hears a CYCLE frame (R527, R552): it asks to join, also out of a cold start. -/
def joinerHears (s : State) : State :=
  let g := s.fab.join.stage
  if g = 1 ∨ g = 5 ∨ g = 6 then sendJ1 s else s

/-- A COLD_START frame at a port (R552): the own one comes back, a foreign one comes first, or names the own node ID. -/
def takeColdStart (p src uid node : Nat) (s : State) : State :=
  let j := s.fab.join
  if j.stage = 6 then sendJ1 s
  else if j.stage ≠ 5 then s
  else if uid = s.cell.uid ∧ src = s.cell.node then { s with fab := { s.fab with join := { j with echo := (j.echo ++ [p]).eraseDups } } }
  else { s with fab := { s.fab with join := { j with
    foreign := if j.echo.contains p then j.foreign else (j.foreign ++ [p]).eraseDups, clash := j.clash || node == s.cell.node } } }

/-! ### Records of a SLOT frame (R515) -/

/-- An ANNOUNCE takes effect at the next edge (R518). -/
def takeAnnounce (d uid role rings : Nat) (a b : List Nat) (s : State) : State := s.updFabNode d (fun m => { m with ann := some (uid, role, rings, a, b) })

/-- A remote mailbox word, with the gap before it counted (R530). -/
def takeMbx (d ch mseq : Nat) (w : Word) (s : State) : State :=
  let gap := match (s.fabNode d).mseqIn with
    | some q => (mseq + 511 - q) % 256
    | none => 0
  let s := s.updFabNode d (fun m => { m with mseqIn := some mseq })
  remoteWord d ch w { s with fab := { s.fab with mbxGap := wrap 32 (s.fab.mbxGap + gap) } }

/-- Master data for the followers of a remote axis (R123): the last 64 entries are held, one per stamp. -/
def takeMaster (d axis stamp : Nat) (pos : Int) (flags : Nat) (s : State) : State :=
  let hit := (s.motion.axes.filter (fun p => match p.2.gen.follow with
    | some f => f.node == d && f.master == axis
    | none => false)).map Prod.fst
  hit.foldl (fun s a => s.updAxis a (fun x =>
    if x.remote.any (fun r => r.1 == stamp) then x
    else { x with remote := (x.remote ++ [(stamp, pos, flags)]).drop (x.remote.length + 1 - 64) })) s

/-- The shadow presumes its primary failed (R287): it declares the takeover, whose edge is the next. -/
def declareTakeover (s : State) : State :=
  if s.pair.role ≠ 2 ∨ s.pair.takeAt.isSome then s
  else ({ s with pair := { s.pair with suspect := true, takeAt := some (s.cell.tick + 1) } }).tell none (.takeover s.pair.peer)

/-- What a record of an accepted frame does. BULK and BULK_ACK have rows of their own. -/
def takeRecord (d : Nat) (s : State) (r : FabRec) : State :=
  match r with
  | .announce uid role rings a b => takeAnnounce d uid role rings a b s
  | .fwd f => if s.pair.role ≠ 0 ∧ d = s.pair.peer then takeFwd f s else s
  | .digest t l => if 2 ≤ s.pair.role ∧ d = s.pair.peer then takeDigest t l s else s
  | .slice f => if 2 ≤ s.pair.role ∧ d = s.pair.peer then { s with pair := { s.pair with slice := some f } } else s
  | .claim due m => { s with claim := { s.claim with msgs := s.claim.msgs ++ [(due, m)] } }
  | .master a t p f => takeMaster d a t p f s
  | .mbx ch q w => takeMbx d ch q w s
  | .failed => if d = s.pair.peer then declareTakeover s else s
  | .takeover n => { s with fab := { s.fab with changes := s.fab.changes ++ [(s.cell.tick + 1, .takeover n d)] } }
  | .cellCfg due c => { s with fab := { s.fab with changes := s.fab.changes ++ [(due, c)] } }
  | .leave => s.updFabNode d (fun m => { m with leaveAt := some (s.cell.tick + 2) })
  | .unknown => { s with fab := { s.fab with badFrame := wrap 32 (s.fab.badFrame + 1) } }
  | .bulk .. => s
  | .bulkAck .. => s

/-! ### Frames received (R507 to R514, R521, R522) -/

/-- A frame is forwarded to the other port of its ring (R507, R509), broken when its CHECK is incorrect. -/
def forwardFrame (p : Nat) (f : FabFrame) (s : State) : State :=
  let own := s.cell.nodeValid && f.src == s.cell.node
  let s := if !own ∧ 1 < f.hops then s.send (.fabric (if p % 2 = 0 then p + 1 else p - 1) { f with hops := f.hops - 1 }) else s
  if f.intact then s else s.updFabPort p (fun k => { k with checkErr := wrap 32 (k.checkErr + 1) })

/-- A node's frame is noted where it arrived (R511, R518, R539, R545). -/
def noteArrival (p : Nat) (f : FabFrame) (stamp : Nat) (s : State) : State :=
  let tick := s.cell.tick
  let hops := (s.ringMembers (p / 2)).length - f.hops
  s.updFabNode f.src (fun m =>
    let m := { m with lastCycle := tick + 1, epoch := f.epoch, came := true, asleep := if m.asleep.isSome ∧ m.restoreAt.isNone then none else m.asleep }
    if f.relayed then m
    else
      let slot := match f.body with
        | .slot _ => true
        | _ => false
      let fresh := slot && Table.get 0 m.last p != tick + 1
      { m with last := Table.set 0 m.last p (tick + 1), dist := Table.set 0 m.dist p hops
               arrived := if fresh then Table.set 0 m.arrived p (wrap 32 stamp) else m.arrived })

/-- The active bridge keeps a frame for its relay slot on the other ring (R521, R522, R524). -/
def relayFrame (p : Nat) (f : FabFrame) (s : State) : State :=
  let other := 1 - p / 2
  let recs := match f.body with
    | .slot l => l.filter (fun r => !directOnly r)
    | _ => []
  let empty := match f.body with
    | .slot l => l != [] && recs == []
    | .cycle _ => true
    | _ => false
  let wanted := f.bcast || (s.heardOn other).contains f.dst || ((s.route f.dst).1 == 3 && (s.heardOn other).contains (s.route f.dst).2.1)
  if !s.fab.active || !wanted || empty then s
  else
    let body := match f.body with
      | .slot _ => .slot recs
      | b => b
    { s with fab := { s.fab with relays := s.fab.relays ++ [(other, { f with relayed := true, relay := s.cell.node, body := body })] } }

/-- The epoch the device held at the start of a frame's cycle (R514, R533). -/
def State.epochAt (s : State) (cycle : Nat) : Nat := if cycle = wrap 32 (s.cell.tick + 2 ^ 32 - 1) then s.fab.prevEpoch else s.fab.thisEpoch

/-- A SLOT frame in its first copy (R514, R515, R521, R295). One from a node that is not a member counts only by its announcement. -/
def takeSlot (p : Nat) (f : FabFrame) (l : List FabRec) (s : State) : State :=
  let m := s.fabNode f.src
  let early := l.any (fun r => recType r == 1)
  let bad (s : State) : State := { s with fab := { s.fab with badFrame := wrap 32 (s.fab.badFrame + 1) } }
  if !s.inFabric then s
  else if 1 < (lowDiff f.cycle s.cell.tick).natAbs then { s with fab := { s.fab with staleCount := wrap 32 (s.fab.staleCount + 1) } }
  else if epochDiff f.epoch (s.epochAt f.cycle) < 0 then { s with fab := { s.fab with epochLow := wrap 32 (s.fab.epochLow + 1) } }
  else if !m.member && !early then bad s
  else
    let s := relayFrame p f s
    let s := if 0 < epochDiff f.epoch s.cell.epoch then becomeStale s else s
    if !f.bcast && f.dst != s.cell.node then s
    else (if m.member then l else l.filter (fun r => recType r == 1)).foldl (takeRecord f.src) s

/-- A received frame (R507, R510, R514): forwarded, checked, and accepted in its first copy. -/
def receiveFrame (p : Nat) (f : FabFrame) (stamp : Nat) (s : State) : State :=
  let s := forwardFrame p f s
  if !f.intact then s
  else if !f.valid then { s with fab := { s.fab with badFrame := wrap 32 (s.fab.badFrame + 1) } }
  else
    let own := s.cell.nodeValid && f.src == s.cell.node
    let s := { s with fab := { s.fab with sleep := { s.fab.sleep with wokeAt := if own then s.fab.sleep.wokeAt else none } } }
    match f.body with
    | .coldStart uid node _ _ => takeColdStart p f.src uid node s
    | .join => s
    | b =>
      if own then { s with pair := { s.pair with echoRun := 0 } }
      else
        let seen := (s.fabNode f.src).seqs.contains f.seq
        let s := noteArrival p f stamp s
        let s := s.updFabNode f.src (fun m => { m with seqs := if seen then m.seqs else (f.seq :: m.seqs).take 64 })
        match b with
        | .cycle c =>
          let s := if s.inFabric ∨ s.fab.join.stage ≠ 0 then takeCycle p f.src c stamp s else s
          joinerHears s
        | .slot l => if seen then s else takeSlot p f l s
        | _ => if seen then s else relayFrame p f s

/-- FABRIC_FRAME_RECEIVE: a fabric port receives a frame, checks it and accepts the first copy (R510). -/
def execFabricFrameReceive (p : Nat) (f : FabFrame) (stamp : Nat) (s : State) : Result := onUnit p 4 (receiveFrame p f stamp s)

/-! ### Slots (R515, R530, R531, R542 to R547) -/

/-- Whether this device may insert in slots of its own now (R544, R549, R550, R557). -/
def State.mayInsert (s : State) : Bool := s.inFabric && s.cell.role != 4 && !s.fab.listenOnly && decide (s.fab.extrap < 5) && s.fab.join.stage != 7

/-- Whether a waiting record may go now (R258, R542, R544): not before the cycle its tick of application allows; a listener sends only
announcements, mailbox words and transfers. -/
def State.ready (s : State) (r : FabRec) : Bool :=
  let timely := match r with
    | .claim due _ => decide (due ≤ s.cell.tick + 1)
    | .cellCfg due _ => decide (due ≤ s.cell.tick + 1)
    | _ => true
  timely && (s.cell.role != 3 || [1, 7, 8, 9, 10].contains (recType r))

/-- Records put into frames by destination while they fit (R515): frames so far with their octets, and what stays. -/
def packRecs (limit : Nat) : List (Option Nat × FabRec) → List (Option Nat × List FabRec) → Nat → List (Option Nat × List FabRec) × List (Option Nat × FabRec)
  | [], fs, _ => (fs, [])
  | (d, r) :: t, fs, n =>
    let open_ := fs.any (fun f => f.1 == d)
    let n' := n + recSize r + (if open_ then 0 else 40)
    if limit < n' then
      let x := packRecs limit t fs n
      (x.1, (d, r) :: x.2)
    else packRecs limit t (if open_ then fs.map (fun f => if f.1 = d then (f.1, f.2 ++ [r]) else f) else fs ++ [(d, [r])]) n'

/-- Records in the packing order of R515; those of one kind keep their order. -/
def inOrder (l : List (Option Nat × FabRec)) : List (Option Nat × FabRec) := (List.range 22).flatMap (fun k => l.filter (fun p => recOrder p.2 == k))

/-- The segments a transfer may send now (R531): at most 8 unacknowledged, up to 4096 octets each. -/
def FabBulk.segments (b : FabBulk) : Nat → Nat → List FabRec
  | 0, _ => []
  | n + 1, ofs =>
    if b.total ≤ ofs ∨ b.acked + 8 * 4096 ≤ ofs then []
    else .bulk b.xfer ofs b.total (min 4096 (b.total - ofs)) :: b.segments n (ofs + 4096)

/-- A segment sent (R531). -/
def FabBulk.sentTo (b : FabBulk) (l : List (Option Nat × List FabRec)) : FabBulk :=
  let ends := l.flatMap (fun f => if f.1 = some b.peer then f.2.filterMap (fun r => match r with
    | .bulk x o _ n => if x = b.xfer then some (o + n) else none
    | _ => none) else [])
  { b with sent := ends.foldl max b.sent }

/-- A frame of this device goes out on a ring; on the other ring too when its destination is reached there as well (R508, R520). -/
def emit (r : Nat) (s : State) (f : Option Nat × List FabRec) : State :=
  let (x, s) := newFrame f.1 (.slot f.2) s
  let s := insertOn r x s
  let others := (s.ringsTo f.1).filter (· != r)
  { s with fab := { s.fab with copies := s.fab.copies ++ others.map (fun k => (k, x)) } }

/-- MBX records over 16 to one destination in a cycle wait (R530). -/
def mbxLimit (s : State) (l : List (Option Nat × FabRec)) : List (Option Nat × FabRec) × List (Option Nat × FabRec) :=
  l.foldl (fun acc p =>
    let used := (acc.1.filter (fun q => q.1 == p.1 && recType q.2 == 7)).length + (p.1.map (fun d => (s.fabNode d).mbxNow)).getD 0
    if recType p.2 = 7 ∧ 16 ≤ used then (acc.1, acc.2 ++ [p]) else (acc.1 ++ [p], acc.2)) ([], [])

/-- The records of a data slot: what waits for this ring, in order, and the transfers' segments. -/
def dataSlot (r len : Nat) (s : State) : State :=
  let lost := s.fab.waiting.filter (fun p => p.1.isSome && s.ringsTo p.1 == [])
  let keep := s.fab.waiting.filter (fun p => !(p.1.isSome && s.ringsTo p.1 == []))
  let here := keep.filter (fun p => s.ready p.2 && (s.ringsTo p.1).contains r)
  let later := keep.filter (fun p => !(s.ready p.2 && (s.ringsTo p.1).contains r))
  let segs := (s.fab.sending.filter (fun b => !b.failed && (s.ringsTo (some b.peer)).contains r)).flatMap (fun b => (b.segments 8 b.sent).map (fun x => (some b.peer, x)))
  let lim := mbxLimit s (inOrder here)
  let own := s.fab.copies.filter (fun c => c.1 == r)
  let used := (own.map (fun c => match c.2.body with
    | .slot l => payloadLen l + 40
    | _ => 48)).foldl (· + ·) 0
  let x := packRecs (len + 40 - used) (lim.1 ++ segs) [] 0
  let rest := x.2.filter (fun p => recType p.2 != 8)
  let s := own.foldl (fun s c => insertOn r c.2 s) s
  let s := { s with fab := { s.fab with
    copies := s.fab.copies.filter (fun c => c.1 != r), waiting := rest ++ lim.2 ++ later
    noRoute := wrap 32 (s.fab.noRoute + (lost.map Prod.fst).eraseDups.length), sending := s.fab.sending.map (fun b => b.sentTo x.1) } }
  let s := x.1.foldl (fun s f => match f.1 with
    | some d => s.updFabNode d (fun m => { m with mbxNow := m.mbxNow + (f.2.filter (fun r => recType r == 7)).length })
    | none => s) s
  let s := x.1.foldl (emit r) s
  if own = [] ∧ x.1 = [] ∧ !bitAt s.fab.present r ∧ s.cell.role ≠ 3 then emit r s (none, []) else s

/-- The forwarding slot of a primary (R276, R283): its failure declaration, if any, and the records of the tick. -/
def forwardSlot (r : Nat) (s : State) : State :=
  let decl := if s.pair.declare then [FabRec.failed] else []
  if s.forwards then
    let f := s.fwdNow
    emit r { s with pair := { s.pair with commits := [], declare := false } } (some s.pair.peer, decl ++ [.fwd f])
  else if !bitAt s.fab.present r then emit r s (none, []) else s

/-- The resync slot of a primary (R280, R281): digests, then the slice of the tick. -/
def resyncSlot (r : Nat) (s : State) : State :=
  match s.pair.own with
  | some (t, l) => if s.pair.role = 1 ∧ t = s.cell.tick then emit r s (some s.pair.peer, [.digest t l, .slice s.sliceNow]) else s
  | none => s

/-- A window of an own slot opens and the device inserts its frames (R515, R545). `early`: the insertion began before the window and
the guardian let no part of it pass (R548). -/
def openSlot (i : Nat) (early : Bool) (s : State) : State :=
  match s.fab.sched.slots[i]? with
  | none => s
  | some x =>
    if !s.mayInsert || x.owner != s.cell.node || !s.myRings.contains x.ring then s
    else if early then { s with fab := { s.fab with guardCuts := wrap 32 (s.fab.guardCuts + 1), cutAt := s.fab.cutAt ++ [s.cell.tick] } }
    else
      let s := s.advanceTo (s.fab.rho + x.start)
      let n := s.out.length
      let s := match x.kind with
        | 1 => dataSlot x.ring x.len s
        | 2 => forwardSlot x.ring s
        | 3 => resyncSlot x.ring s
        | 4 =>
          let mine := s.fab.relays.filter (fun q => q.1 == x.ring)
          mine.foldl (fun s q => insertOn x.ring q.2 s) { s with fab := { s.fab with relays := s.fab.relays.filter (fun q => q.1 != x.ring) } }
        | _ => s
      if n < s.out.length ∧ !bitAt s.fab.present x.ring ∧ x.kind ≠ 4 then
        { s.updFabRing x.ring (fun k => { k with sentAt := s.gtc }) with fab := { (s.updFabRing x.ring (fun k => { k with sentAt := s.gtc })).fab with
            present := setBit s.fab.present x.ring } }
      else s

/-- SLOT_WINDOW_OPEN: a guardian window opens and the device inserts its slot frame (R545). -/
def execSlotWindowOpen (i : Nat) (early : Bool) (s : State) : Result := .next (openSlot i early s)

/-- A second cut within 64 cycles silences the device (R549): TB0 is set afresh, and it joins again. -/
def guardDrop (s : State) : State :=
  let l := s.fab.cutAt.filter (fun t => decide (s.cell.tick < t + 64))
  if l.length < 2 ∨ s.fab.listenOnly then { s with fab := { s.fab with cutAt := l } }
  else { s with fab := { s.fab with cutAt := [], listenOnly := true, guardDrops := wrap 32 (s.fab.guardDrops + 1), tbSet := false
                                    join := { stage := 1, since := s.gtc, args := (s.cell.node, false, s.fab.mine) } } }

/-- The interrupts that name a slot (R546). -/
def cycleInterrupts (i : Nat) (s : State) : State :=
  ((List.range s.fab.sched.ints.length).zip s.fab.sched.ints).foldl (fun s q =>
    if q.2.1 ≠ i then s
    else
      let s := ((List.range 16).filter (bitAt q.2.2.1)).foldl (fun s e => s.requestEntry e s.gtc (0x70 + q.1) (wrap 32 s.cell.tick)) s
      let s := if bitAt q.2.2.2 0 then s.ring 4 (24 + q.1) else s
      if bitAt q.2.2.2 1 then s.ring 5 (24 + q.1) else s) s

/-- A slot's window closes (R545, R546, R548): an own frame still running is cut; a member's empty slot is counted; slot 0 ends the
wait for a second copy of the CYCLE frame. -/
def closeSlot (i : Nat) (cut : Bool) (s : State) : State :=
  match s.fab.sched.slots[i]? with
  | none => s
  | some x =>
    if !s.myRings.contains x.ring then s
    else
      let s := s.advanceTo (s.fab.rho + x.start + (window x + 9) / 10 + x.guard)
      let own := x.owner == s.cell.node
      let s := if own && cut then
          guardDrop ({ s with fab := { s.fab with guardCuts := wrap 32 (s.fab.guardCuts + 1), cutAt := s.fab.cutAt ++ [s.cell.tick] } }.send (.cut x.ring))
        else guardDrop s
      let m := s.fabNode x.owner
      let s := if x.kind = 0 ∨ x.owner = 0xFF ∨ own ∨ !m.member ∨ m.asleep.isSome then s
        else s.updFabNode x.owner (fun m => { m with came := false, empty := if m.came then m.empty else wrap 32 (m.empty + 1) })
      let s := if x.kind = 0 ∧ s.fab.master ≠ s.cell.node then offsetSample x.ring s else s
      cycleInterrupts i s

/-- SLOT_WINDOW_CLOSE: a slot window closes; frames still running are cut (R548). -/
def execSlotWindowClose (i : Nat) (cut : Bool) (s : State) : Result := .next (closeSlot i cut s)

/-! ### Missing CYCLE frames (R537, R550) -/

/-- CYCLE_FRAME_MISSING: a cycle without CYCLE frame extrapolates the reference; from the fifth every window stays closed (R550). -/
def execCycleFrameMissing (s : State) : Result :=
  .next { s with fab := { s.fab with extrap := min 5 (s.fab.extrap + 1), rho := s.fab.rho + s.tickLen, cycleMiss := s.fab.cycleMiss + 1 } }

/-- The next cycle master (R535, R537): the remaining COLD_OK member with the lowest node ID. An announced sleep is cancelled (R562). -/
def electMaster (s : State) : State :=
  let old := s.fab.master
  let left := s.fab.coldOk.filter (· != old)
  match lowest 256 (fun d => left.contains d && (s.fabNode d).member) with
  | none => s
  | some d =>
    let f := s.fab.sleep
    let s := { s with fab := { s.fab with master := d, cycleMiss := 0, sleep := if f.state = 1 then { f with state := 3 } else f } }
    if d = s.cell.node ∧ s.cell.role = 1 then takeRole 0 s else s

/-- CYCLE_MASTER_DEPARTED: two cycles without the master's CYCLE frame elect a new cycle master (R537). -/
def execCycleMasterDeparted (s : State) : Result := .next (if s.inFabric then electMaster s else s)

/-- ANNOUNCE_SEND: a member sends its ANNOUNCE record (R518). -/
def execAnnounceSend (s : State) : Result := .next (announce s)

/-- A member is presumed departed (R267, R269, R521): its claims are revoked unless it has been taken over, and it is no longer a
member; a primary whose shadow departs runs without one (R299). -/
def departNode (d : Nat) (s : State) : State :=
  let beyond := s.claim.adopted.contains d || s.claim.taken.contains d
  let s := if beyond then s else revokeNode d s
  let s := if s.pair.role = 1 ∧ s.pair.peer = d then
      let s := (dropLines s).event 0 0x8903 0 (toLE 1 d)
      let s := if s.pair.since.isSome then s.completeCmd 0x0906 (fun _ => true) { status := St.notSynced } else s
      { s with pair := s.pair.none }
    else s
  if beyond || d == s.cell.node then s else removeMember d s

/-- CLAIM_REVOKE: a device that missed two slots loses its claims, unless this edge or an earlier one took it over (R267, R269). -/
def execClaimRevoke (node : Nat) (s : State) : Result := onUnit node 256 (departNode node s)

/-! ### Transfers (R531) -/

/-- An acknowledgement to the sender of a transfer: in the next own slot, or from a joiner in the join window. -/
def ackBulk (peer xfer acked : Nat) (s : State) : State :=
  if s.inFabric then s.tell (some peer) (.bulkAck xfer acked)
  else
    let (f, s) := newFrame (some peer) (.slot [.bulkAck xfer acked]) s
    ([0, 1].filter (bitAt s.fab.mine)).foldl (fun s r => insertOn r f s) s

/-- The shadow transfer is complete (R297): configuration, cams, the safety block and the epoch are the primary's; every group starts
DIVERGED. A line's network uses S_PORT in place of P_PORT here. A block that differs from the one the primary confirmed is not activated. -/
def takePair (peer : Nat) (x : PairXfer) (s : State) : State :=
  if s.cell.role ≠ 3 then s
  else
    let s := x.axes.foldl (fun s p => s.setAxis p.1 p.2) s
    let s := x.arms.foldl (fun s p => s.setArm p.1 p.2) s
    let s := x.nets.foldl (fun s p => s.setNet p.1 p.2) s
    let s := x.cams.foldl (fun s p => s.setCam p.1 p.2) s
    let block := match x.block with
      | some b => if crc32c b.raw = b.crc then some b else s.glume.block
      | none => s.glume.block
    let port (n p : Nat) : Nat := match x.lines.find? (fun l => l.1 == n && l.2.1 == p) with
      | some l => l.2.2.1
      | none => p
    let s := x.nets.foldl (fun s p => s.updNet p.1 (fun n => { n with portA := port p.1 n.portA, portB := port p.1 n.portB })) s
    let lines := x.lines.map (fun l => ({ net := l.1, pPort := l.2.1, sPort := l.2.2.1, latNs := l.2.2.2 } : PairLine))
    { s with
      glume := { s.glume with block := block }
      cell := { s.cell with epoch := x.epoch, state := x.cell, armRun := x.armRun, axisRun := x.axisRun }
      power := { s.power with replLevel := x.level }
      fab := { s.fab with stale := false }
      pair := { s.pair.none with role := 3, peer := peer, lines := lines, diverged := 2 ^ 64 - 1, silent := true } }

/-- A command block for the shadow (R278): it waits for the edge the primary will report; a member joins its transaction (R344). -/
def takeBlock (xfer : Nat) (h : Hdr) (code : Nat) (args : List Byte) (s : State) : State :=
  let c : HostCmd := { hdr := { h with port := 0, tag := xfer }, code := code, args := args, stage := .awaitShadow, acceptGtc := s.gtc }
  if h.txn then addMember 0 h.txnId (c.hdr, code, args) s else { s with host := { s.host with cmds := s.host.cmds ++ [c] } }

/-- A segment arrives (R531): in order it is taken, and what has come in order is acknowledged; the last one completes the transfer. -/
def takeSegment (peer xfer ofs total len : Nat) (done : BulkEnd) (s : State) : State :=
  let old := (s.fab.receiving.find? (fun b => b.peer == peer && b.xfer == xfer)).getD { xfer := xfer, peer := peer, total := total }
  let b := { old with acked := if ofs = old.acked then ofs + len else old.acked, use := if s.inFabric then (if s.cell.role = 3 then 1 else 2) else 0 }
  let rest := s.fab.receiving.filter (fun c => !(c.peer == peer && c.xfer == xfer))
  let s := ackBulk peer xfer b.acked { s with fab := { s.fab with receiving := if b.acked < total then rest ++ [b] else rest } }
  if b.acked < total ∨ ofs ≠ old.acked then s
  else match done with
    | .none => s
    | .pair x => takePair peer x s
    | .cmd h code args => if s.isShadow && peer == s.pair.peer then takeBlock xfer h code args s else s

/-- BULK_SEGMENT_RECEIVE: a BULK segment is received and acknowledged (R531). -/
def execBulkSegmentReceive (peer xfer ofs total len : Nat) (done : BulkEnd) (s : State) : Result := .next (takeSegment peer xfer ofs total len done s)

/-- BULK_ACK_RECEIVE: a BULK_ACK frees acknowledged segments (R531). -/
def execBulkAckReceive (peer xfer acked : Nat) (s : State) : Result :=
  let hit (b : FabBulk) : Bool := b.peer == peer && b.xfer == xfer
  let more (b : FabBulk) : FabBulk := if b.acked < acked then { b with acked := min acked b.total, resends := 0 } else b
  .next { s with fab := { s.fab with
    sending := (s.fab.sending.map (fun b => if hit b then more b else b)).filter (fun b => !(hit b && decide (b.total ≤ b.acked))) } }

/-- The first unacknowledged segment of a transfer is sent again, with those after it; at the 16th resend the transfer fails, which the
cycle master tells a joiner (R526, R531). -/
def resendBulk (peer xfer : Nat) (s : State) : State :=
  match s.fab.sending.find? (fun b => b.peer == peer && b.xfer == xfer) with
  | none => s
  | some b =>
    let b' := { b with sent := b.acked, resends := b.resends + 1 }
    let rest := s.fab.sending.filter (fun c => !(c.peer == peer && c.xfer == xfer))
    let s := { s with fab := { s.fab with bulkRetx := wrap 32 (s.fab.bulkRetx + 1), sending := if b'.resends < 16 then rest ++ [b'] else rest } }
    if b'.resends < 16 ∨ b.use ≠ 0 then s else sendJoin s.fab.mine 4 (s.fabNode peer).uid peer 7 [] s

/-- BULK_RESEND: a segment unacknowledged for 4 cycles is resent, failing at the 16th (R531). -/
def execBulkResend (peer xfer : Nat) (s : State) : Result := .next (resendBulk peer xfer s)

end Sys2Proof.Machine
end

