-- ==== Sys2Proof/Machine/FabricJoin.lean ====
section
/-! DEFINITION. Joining a fabric (R517, R526 to R528), starting one (R551 to R553), the CYCLE frames of a timekeeper (R536, R538,
R539), and sleep and wake (R555 to R560). -/

namespace Sys2Proof.Machine

/-! ### The cycle master's side of a join (R517, R519, R527) -/

/-- Whether a member holds a node ID. -/
def State.holdsNode (s : State) (d : Nat) : Bool := (s.fabNode d).member

/-- Whether the map leaves a node ID to a requester (R517, source 3): its entry is REPLACEABLE or absent. -/
def State.replaceable (s : State) (d : Nat) : Bool := (s.fab.map.filter (fun e => e.node == d)).all (fun e => e.replaceable)

/-- The node ID a joiner gets with its source, or the DETAIL of R526 (R517). A requested or kept ID that a member holds ends the join
with DETAIL 4 (R533). -/
def State.assignNode (s : State) (uid : Nat) (req strap kept : Option Nat) : (Nat × Nat) ⊕ Nat :=
  let mapped := (s.fab.map.find? (fun e => e.uid == uid)).map (fun e => e.node)
  let free (o : Option Nat) : Option Nat := o.filter (fun d => !s.holdsNode d && s.replaceable d)
  match strap, mapped with
  | some d, _ => if s.holdsNode d then .inr 4 else .inl (d, 0)
  | none, some d => if s.holdsNode d then .inr 4 else .inl (d, 1)
  | none, none =>
    match free req, free kept with
    | some d, _ => .inl (d, 2)
    | none, some d => .inl (d, 3)
    | none, none => .inr (if (req.toList ++ kept.toList).any s.holdsNode then 4 else 3)

/-- Whether a UID is locked out (R527): three failures within 10 s, the last less than 60 s ago. -/
def State.lockedOut (s : State) (uid : Nat) : Bool :=
  let l := (s.fab.authFails.filter (fun f => f.1 == uid)).map Prod.snd
  l.any (fun t => decide (s.gtc < t + 60000000000) && decide (3 ≤ (l.filter (fun u => decide (u ≤ t) && decide (t ≤ u + 10000000000))).length))

/-- What MAC_M covers (R527). -/
def macM (uid node : Nat) (nj nm : List Byte) (epoch : Nat) : List Byte :=
  [0x4F, 0x53, 0x4A, 0x32] ++ toBE 16 uid ++ toBE 1 node ++ nj ++ nm ++ toBE 4 epoch

/-- What MAC_J covers (R527). -/
def macJ (uid node : Nat) (nm nj : List Byte) (epoch : Nat) : List Byte :=
  [0x4F, 0x53, 0x4A, 0x33] ++ toBE 16 uid ++ toBE 1 node ++ nm ++ nj ++ toBE 4 epoch

/-- The fabric key; 32 zero octets without one, which no row reaches on a member. -/
def State.fabKey (s : State) : List Byte := s.fab.key.getD (List.replicate 32 0)

/-- J4 with a result (R527). -/
def sendJ4 (uid node result : Nat) (s : State) : State := sendJoin s.fab.mine 4 uid node result [] s

/-- J2 to a joiner with a fresh nonce (R527). -/
def sendJ2 (x : FabServe) (s : State) : FabServe × State :=
  let (nm, s) := nonce s
  let mac := hmac s.fabKey (macM x.uid x.node x.nj nm s.cell.epoch)
  ({ x with nm := nm, sent := true }, sendJoin s.fab.mine 2 x.uid x.node 0 (nm ++ mac) s)

/-- The next waiting exchange begins (R527): its node ID is judged on the map now in force (R533). -/
def serveNext : Nat → State → State
  | 0, s => s
  | n + 1, s =>
    match s.fab.serving with
    | [] => s
    | x :: rest =>
      if x.sent then s
      else match s.assignNode x.uid x.req x.strap x.kept with
        | .inl (d, src) =>
          let r := sendJ2 { x with node := d, src := src } s
          { r.2 with fab := { r.2.fab with serving := r.1 :: rest } }
        | .inr detail => serveNext n (sendJ4 x.uid 0 detail { s with fab := { s.fab with serving := rest } })

/-- The exchange in progress ends, and the next begins. -/
def endServe (s : State) : State := serveNext s.fab.serving.length { s with fab := { s.fab with serving := s.fab.serving.drop 1 } }

/-- J1 at the cycle master (R517, R519, R527). A J1 of a UID already waiting takes its place with the new nonce. -/
def takeJ1 (uid : Nat) (req strap kept : Option Nat) (rings : Nat) (far : Bool) (nj : List Byte) (s : State) : State :=
  let full := decide (256 ≤ s.members.length) || far || [0, 1].any (fun r => bitAt rings r && s.myRings.contains r && decide (64 ≤ (s.ringMembers r).length))
  if !(s.inFabric && s.fab.master == s.cell.node) then s
  else if s.lockedOut uid then sendJ4 uid 0 6 s
  else if full then sendJ4 uid 0 5 s
  else if s.fab.serving.any (fun x => x.uid == uid && x.nj == nj) then s
  else
    let x : FabServe := { uid := uid, req := req, strap := strap, kept := kept, nj := nj }
    let l := if s.fab.serving.any (fun y => y.uid == uid) then s.fab.serving.map (fun y => if y.uid = uid then x else y) else s.fab.serving ++ [x]
    serveNext l.length { s with fab := { s.fab with serving := l } }

/-- JOIN_J1_RECEIVE: the cycle master receives a J1 and answers with J2 or a J4 that refuses (R527). -/
def execJoinJ1Receive (port uid : Nat) (req strap kept : Option Nat) (rings : Nat) (far : Bool) (nj : List Byte) (s : State) : Result :=
  onUnit port 4 (takeJ1 uid req strap kept rings far nj s)

/-- The map with a joiner's UID in the entry of its node ID, no longer REPLACEABLE (R517). -/
def claimEntry (uid node : Nat) (l : List MapEntry) : List MapEntry :=
  if l.any (fun e => e.node == node) then l.map (fun e => if e.node = node then { e with uid := uid, replaceable := false } else e)
  else l ++ [{ uid := uid, node := node }]

/-- J3 at the cycle master (R517, R527, R528): a correct MAC_J accepts the joiner and starts its state transfer. -/
def takeJ3 (uid : Nat) (mac : List Byte) (s : State) : State :=
  match s.fab.serving with
  | [] => s
  | x :: _ =>
    if x.uid ≠ uid ∨ !x.sent then s
    else if mac ≠ hmac s.fabKey (macJ uid x.node x.nm x.nj s.cell.epoch) then
      endServe (sendJ4 uid x.node 2 { s with fab := { s.fab with
        authFail := wrap 32 (s.fab.authFail + 1), authFails := s.fab.authFails.filter (fun f => decide (s.gtc < f.2 + 70000000000)) ++ [(uid, s.gtc)] } })
    else
      let s := sendJ4 uid x.node 0 s
      let s := if 2 ≤ x.src then s.changeAll (s.cell.tick + 1) (.map (claimEntry uid x.node s.fab.map)) else s
      endServe (startBulk 0 x.node (Config.bulkLen 0) s)

/-- JOIN_J3_RECEIVE: the cycle master verifies MAC_J and answers with J4 (R527). -/
def execJoinJ3Receive (uid : Nat) (mac : List Byte) (s : State) : Result := .next (takeJ3 uid mac s)

/-! ### The joiner's side (R526 to R528) -/

/-- The status of a failed join by DETAIL (R526). -/
def joinStatus (d : Nat) : Nat := if d = 3 ∨ d = 4 then St.bindConflict else if d = 5 then St.budgetExceeded else St.badState

/-- FAB.JOIN ends: only MODE 0 runs on. -/
def State.endJoin (s : State) (r : Reply) : State := s.completeCmd 0x0902 (fun _ => true) r

/-- A join fails (R526). -/
def failJoin (d : Nat) (s : State) : State :=
  let s := { s with
    fab := { s.fab with join := {}, mine := if s.inFabric then s.fab.mine else 0 }
    cell := { s.cell with nodeValid := s.inFabric && s.cell.nodeValid } }
  s.endJoin { status := joinStatus d, detail := d }

/-- An authentication failed at the joiner (R526, R527): it repeats J1 later, or gives up after the third. -/
def joinRefused (s : State) : State :=
  let j := s.fab.join
  if 3 ≤ j.fails + 1 then failJoin 2 s else { s with fab := { s.fab with join := { j with stage := 2, fails := j.fails + 1 } } }

/-- J2 at the joiner (R527): verified, it is answered with J3. -/
def takeJ2 (uid node : Nat) (nm mac : List Byte) (epoch : Nat) (s : State) : State :=
  let j := s.fab.join
  if uid ≠ s.cell.uid ∨ j.stage ≠ 2 then s
  else if mac ≠ hmac s.fabKey (macM uid node j.nonce nm epoch) then joinRefused { s with fab := { s.fab with authFail := wrap 32 (s.fab.authFail + 1) } }
  else
    let s := { s with fab := { s.fab with join := { j with stage := 3, node := node, since := s.gtc } } }
    sendJoin s.fab.mine 3 uid node 0 (hmac s.fabKey (macJ uid node nm j.nonce epoch)) s

/-- JOIN_J2_RECEIVE: a joiner verifies MAC_M and answers with J3 (R527). -/
def execJoinJ2Receive (uid node : Nat) (nm mac : List Byte) (epoch : Nat) (s : State) : Result := .next (takeJ2 uid node nm mac epoch s)

/-- J4 at the joiner (R526, R527). -/
def takeJ4 (uid node result : Nat) (s : State) : State :=
  let j := s.fab.join
  if uid ≠ s.cell.uid ∨ !([2, 3, 4].contains j.stage) then s
  else if result = 0 then (if j.stage = 3 then { s with fab := { s.fab with join := { j with stage := 4, node := node, since := s.gtc } } } else s)
  else if result = 2 then joinRefused s
  else failJoin result s

/-- JOIN_J4_RECEIVE: the joiner receives the result of its join (R527). -/
def execJoinJ4Receive (uid node result : Nat) (s : State) : Result := .next (takeJ4 uid node result s)

/-- JOIN_J1_REPEAT: a joiner whose exchange has stalled repeats J1 after 8 cycles (R527). -/
def execJoinJ1Repeat (s : State) : Result := .next (if s.fab.join.stage = 2 ∨ s.fab.join.stage = 3 then sendJ1 s else s)

/-- Which source of R517 gave the own node ID, as far as the joiner can tell. -/
def State.sourceOf (s : State) (node : Nat) (l : List MapEntry) (req : Option Nat) : Nat :=
  if s.fab.strap = some node then 0 else if l.any (fun e => e.uid == s.cell.uid && e.node == node) && req != some node then 1 else if req = some node then 2 else 3

/-- Another member as its latest announcement shows it (R528). -/
def knownMember (m : KnownNode) (s : State) : State :=
  s.updFabNode m.node (fun x => { x with
    member := true, uid := m.uid, role := m.role, rings := m.rings, heard := (m.heardA, m.heardB), lastCycle := s.cell.tick + 1 })

/-- This device is a member under a node ID (R528, R553): its own entry, and its node ID in the journal (R517). -/
def enrolSelf (node role : Nat) (s : State) : State :=
  let s := { s with cell := { s.cell with node := node, nodeValid := true } }
  let s := s.updFabNode node (fun x => { x with member := true, uid := s.cell.uid, rings := s.fab.mine, lastCycle := s.cell.tick + 1 })
  let s := { takeRole role s with fab := { (takeRole role s).fab with joins := wrap 32 (s.fab.joins + 1) } }
  keepFabric (keepMap s)

/-- The transferred state is taken (R528): a member in role LISTEN. A device whose retained epoch is behind stays a listener (R295). -/
def takeJoin (x : JoinXfer) (s : State) : State :=
  let j := s.fab.join
  if j.stage ≠ 4 then s
  else
    let behind := (s.retained 9 0).valid && decide (epochDiff s.cell.epoch x.epoch < 0)
    let req := if j.args.2.1 then some j.args.1 else none
    let s := s.members.foldl (fun s d => removeMember d s) s
    let s := x.members.foldl (fun s m => knownMember m s) s
    let s := x.zones.foldl (fun s z => s.setZone z.1 z.2) s
    let s := { s with
      cell := { s.cell with epoch := x.epoch }
      claim := { s.claim with claims := x.claims }
      fab := { s.fab with
        map := x.map, sched := x.sched, master := x.master, stale := behind, nodeSrc := s.sourceOf j.node x.map req, listenOnly := false, cutAt := []
        coldOk := if j.coldOk then (x.coldOk ++ [j.node]).eraseDups else x.coldOk, join := {}, thisEpoch := x.epoch, prevEpoch := x.epoch } }
    let s := standDown (enrolSelf j.node 3 s)
    (announce s).endJoin {}

/-- JOIN_TRANSFER_COMPLETE: the joiner takes the transferred state at an edge and becomes a listener (R528). -/
def execJoinTransferComplete (x : JoinXfer) (s : State) : Result := .next (takeJoin x s)

/-! ### Cold start (R551 to R553) -/

/-- A COLD_START frame on both ports of every ring (R552). -/
def sendColdStart (s : State) : State :=
  let j := s.fab.join
  let (f, s) := newFrame none (.coldStart s.cell.uid s.cell.node s.cell.epoch j.attempt) s
  ([0, 1].filter (bitAt s.fab.mine)).foldl (fun s r => insertOn r f s)
    { s with fab := { s.fab with join := { s.fab.join with stage := 5, since := s.gtc, echo := [], foreign := [], clash := false } } }

/-- The node ID of a cold start with its source (R517, R551): the sources in order, without the condition on members. -/
def State.coldNode (s : State) : Option (Nat × Nat) :=
  let j := s.fab.join
  let mapped := (j.map.find? (fun e => e.uid == s.cell.uid)).map (fun e => e.node)
  let req := if j.args.2.1 then some j.args.1 else none
  match s.fab.strap, mapped, req, s.keptNode with
  | some d, _, _, _ => some (d, 0)
  | none, some d, _, _ => some (d, 1)
  | none, none, some d, _ => some (d, 2)
  | none, none, none, some d => some (d, 3)
  | none, none, none, none => none

/-- COLD_START_TIMEOUT: 200 ms without a cycle-control frame (R526, R551): the device starts the fabric, or its join ends. -/
def execColdStartTimeout (s : State) : Result :=
  let j := s.fab.join
  .next (if j.stage ≠ 1 then s
    else
      let s := s.advanceTo (j.since + 200000000)
      if !j.coldOk then failJoin 1 s
      else match s.coldNode with
        | none => failJoin 3 s
        | some (d, src) => sendColdStart { s with cell := { s.cell with node := d, nodeValid := true }, fab := { s.fab with nodeSrc := src } })

/-- The default schedule of a device without a retained one (R553), for its rings. -/
def defaultSched (rings : Nat) : FabSched :=
  { slots := ([0, 1].filter (bitAt rings)).flatMap (fun r =>
      [{ ring := r, owner := 0xFF, kind := 0, start := 0, len := 44 }, { ring := r, owner := 0xFF, kind := 5, start := 2000, len := 1024 }]) }

/-- The retained fabric configuration (R553, R621; log entry 58), if any: the schedule table. -/
def State.keptSched (s : State) : Option FabSched :=
  let r := s.retained 7 0
  let n := uAt r.body 4 2
  if r.valid ∧ n ≠ 0 ∧ uAt r.body 8 2 ≠ 0 then some (schedAt (octets r.body 8 n) (uAt r.body 0 4)) else none

/-- The fabric is started (R296, R553): the device is cycle master and timekeeper of its rings. -/
def startFabric (s : State) : State :=
  let j := s.fab.join
  let kept := s.retained 9 0
  let role := if kept.valid && (uAt kept.body 4 1 == 2 || uAt kept.body 4 1 == 3) then 3 else 0
  let s := { s with fab := { s.fab with
    master := s.cell.node, coldOk := [s.cell.node], map := j.map, sched := s.keptSched.getD (defaultSched s.fab.mine), stale := false, cycleMiss := 0
    listenOnly := false, cutAt := [], thisEpoch := s.cell.epoch, prevEpoch := s.cell.epoch, join := { j with stage := 7, since := s.gtc } } }
  let s := enrolSelf s.cell.node role s
  (if role = 3 then standDown s else s).endJoin {}

/-- COLD_START_JUDGE: 70 us after its frame the device judges the attempt (R552). -/
def execColdStartJudge (s : State) : Result :=
  let j := s.fab.join
  .next (if j.stage ≠ 5 then s
    else
      let s := s.advanceTo (j.since + 70000)
      let whole := ([0, 1].filter (bitAt s.fab.mine)).all (fun r => j.echo.contains (2 * r) || j.echo.contains (2 * r + 1))
      if j.clash then failJoin 4 s
      else if whole && j.foreign == [] then startFabric s
      else { s with fab := { s.fab with join := { j with stage := 6, since := s.gtc } } })

/-- COLD_START_BACKOFF_END: nothing heard for (NODE + 1) × 100 us, so the attempt is repeated (R552). -/
def execColdStartBackoffEnd (s : State) : Result :=
  let j := s.fab.join
  .next (if j.stage ≠ 6 then s
    else
      let s := s.advanceTo (j.since + (s.cell.node + 1) * 100000)
      sendColdStart { s with fab := { s.fab with coldCollisions := wrap 32 (s.fab.coldCollisions + 1), join := { j with attempt := wrap 32 (j.attempt + 1) } } })

/-! ### CYCLE frames sent (R536, R538, R539) -/

/-- Whether this device is timekeeper of a ring (R536): as cycle master, or as the active bridge to the cycle master's ring. -/
def State.keepsTime (s : State) (r : Nat) : Bool :=
  s.myRings.contains r && !s.fab.listenOnly && s.cell.role != 4 && s.fab.join.stage != 7 &&
    (s.fab.master == s.cell.node || (s.fab.active && (s.heardOn (1 - r)).contains s.fab.master && !(s.heardOn r).contains s.fab.master))

/-- The member that a cycle's frame reports on a ring (R539): index n mod M of the others in ascending order. -/
def State.reported (s : State) (r : Nat) : Option Nat :=
  let l := s.heardOn r
  l[s.cell.tick % max 1 l.length]?

/-- A CYCLE frame on a ring, and the guardian's reference at the edge (R538, R539, R547). -/
def sendCycle (r : Nat) (s : State) : State :=
  let f := s.fab.sleep
  let d := s.reported r
  let rx (p : Nat) : Nat := (d.map (fun d => Table.get 0 (s.fabNode d).arrived p)).getD 0
  let b : CycleBody := {
    tick := s.cell.tick, txGtc := s.gtc, gen := s.fab.sched.gen, sleepState := f.state, master := s.fab.master, pnr := if f.state = 0 then 0 else wrap 32 f.pnr
    dlyNode := d.getD 0, dlyRxE := rx (2 * r + 1), dlyRxW := rx (2 * r), dlyCycle := if d.isSome then wrap 32 (s.cell.tick - 1) else 0 }
  let (x, s) := newFrame none (.cycle b) { s with fab := { s.fab with rho := s.cell.edge, extrap := 0 } }
  insertOn r x s

/-- The CYCLE frames of an edge (R536). -/
def sendCycles (s : State) : State := ([0, 1].filter s.keepsTime).foldl (fun s r => sendCycle r s) s

/-- CYCLE_START_AFTER_COLD: CYCLE frames begin at the first edge at least 1 ms after the start or the wake (R553, R559). -/
def execCycleStartAfterCold (s : State) : Result :=
  let j := s.fab.join
  .next (if j.stage = 7 ∧ j.since + 1000000 ≤ s.cell.edge then sendCycles { s with fab := { s.fab with join := {} } } else s)

/-! ### Sleep and wake (R555 to R560) -/

/-- SLEEP_POINT_OF_NO_RETURN: the edge of cycle N + 8 passes (R555). -/
def execSleepPointOfNoReturn (s : State) : Result :=
  .next (if s.fab.sleep.state = 1 then { s with fab := { s.fab with sleep := { s.fab.sleep with state := 2 } } } else s)

/-- SLEEP_ENTRY: at the edge of cycle N + 9 the named devices' slots are removed and they go to sleep (R557). -/
def execSleepEntry (s : State) : Result :=
  let f := s.fab.sleep
  .next (if f.state = 0 ∨ f.state = 3 then s
    else
      let s := (f.nodes.filter (· != s.cell.node)).foldl (fun s d => s.updFabNode d (fun m => { m with asleep := some s.cell.tick, restoreAt := none, missed := 0 })) s
      let s := { s with fab := { s.fab with sleep := { s.fab.sleep with state := 0 } } }
      if f.nodes.contains s.cell.node then
        let old := s.cell.role
        let s := s.updFabNode s.cell.node (fun m => { m with asleep := some s.cell.tick, restoreAt := none })
        let s := goSleep (takeRole 4 s)
        { s with fab := { s.fab with sleep := { s.fab.sleep with entering := some s.cell.edge, portsTold := false, oldRole := old } } }
      else s)

/-- Whether every member is named in the sleep (R554). -/
def State.wholeSleep (s : State) : Bool := s.members.all (fun d => s.fab.sleep.nodes.contains d)

/-- A sleeping device wakes (R559): its domains power up and it asks for its slots; the cycle master of a sleeping fabric resumes CYCLE
frames at least 1 ms later. -/
def wakeUp (src : Nat) (s : State) : State :=
  let s := s.enterCell s.cell.wakeTo
  let s := { s with mbx := { s.mbx with waking := [], asleep := [] } }
  if !s.inFabric then s
  else
    let me := s.cell.node
    let lead := s.fab.master == me
    let f := s.fab.sleep
    let s := { s with fab := { s.fab with
      sleep := { f with src := src, wokeAt := some s.gtc, latch := f.latch && lead }, join := if lead then { s.fab.join with stage := 7, since := s.gtc } else s.fab.join } }
    let s := s.updFabNode me (fun m => { m with restoreAt := some (s.cell.tick + 2) })
    if lead then wakeAt me src s
    else
      let (x, s) := newFrame (some s.fab.master) (.wakeReq me src) s
      ([0, 1].filter (bitAt s.fab.mine)).foldl (fun s r => insertOn r x s) s

/-- SLEEP_ENTRY_COMPLETE: the ports have been signalled; a latched wake acts at once, and the cycle master of a sleeping fabric then
drives FWAKE_N (R557, R558). -/
def execSleepEntryComplete (s : State) : Result :=
  let f := s.fab.sleep
  .next (if f.entering.isNone then s
    else
      let s := { s with fab := { s.fab with sleep := { f with entering := none, portsTold := true } } }
      if !f.latch then s
      else
        let whole := s.wholeSleep && s.fab.master == s.cell.node
        let s := wakeUp f.src s
        if whole then s.send .fwake else s)

/-- FAILSAFE_SLEEP: 20 ms after the edge without a signal the ports enter sleep on their own (R557). -/
def execFailsafeSleep (s : State) : Result :=
  let f := s.fab.sleep
  .next (if f.entering.isSome && !f.portsTold then { s with fab := { s.fab with failsafe := wrap 32 (s.fab.failsafe + 1), sleep := { f with portsTold := true } } }
    else s)

/-- WAKE_REQUEST: the cycle master accepts a WAKE_REQ frame and judges it by its GTC (R556). -/
def execWakeRequest (node reason : Nat) (s : State) : Result :=
  onUnit reason 256 (if s.inFabric && s.fab.master == s.cell.node && decide (node < 256) then wakeAt node 0 s else s)

/-- FWAKE_N_ASSERT: FWAKE_N has been low for 50 us (R556): the cycle master judges it, and a named device latches it after the point of
no return. -/
def execFwakeNAssert (s : State) : Result :=
  let s := { s with fab := { s.fab with sleep := { s.fab.sleep with fwakeIn := true } } }
  let f := s.fab.sleep
  let past := f.state == 2 || f.entering.isSome || (f.state == 1 && decide (f.pnr ≤ s.cell.tick))
  let s := if s.inFabric && s.fab.master == s.cell.node && s.cell.state != 8 then wakeAt s.cell.node 1 s else s
  .next (if past && f.nodes.contains s.cell.node then { s with fab := { s.fab with sleep := { s.fab.sleep with latch := true, src := 1 } } } else s)

/-- FWAKE_DRIVE: an awake cycle master that still holds a latch drives FWAKE_N low for 1 ms (R558). -/
def execFwakeDrive (s : State) : Result :=
  .next (if s.fab.master = s.cell.node ∧ s.inFabric ∧ s.cell.state ≠ 8 ∧ s.fab.sleep.latch then s.send .fwake else s)

/-- SLEEPING_DEVICE_WAKE: a sleeping device wakes on FWAKE_N, a host access or a safe input (R559); one that is still entering sleep
latches the wake. -/
def execSleepingDeviceWake (src : Nat) (s : State) : Result :=
  onUnit src 4 (if s.cell.state ≠ 8 then s
    else if s.fab.sleep.entering.isSome then { s with fab := { s.fab with sleep := { s.fab.sleep with latch := true, src := src } } }
    else wakeUp src s)

/-- FALSE_WAKE: 50 ms after a wake no frame of another member has come (R560): back to sleep, or on to a cold start when the own host or a
safe input woke the device. -/
def execFalseWake (s : State) : Result :=
  let f := s.fab.sleep
  .next (if f.wokeAt.isNone then s
    else
      let s := { s with fab := { s.fab with falseWakes := wrap 32 (s.fab.falseWakes + 1), sleep := { f with wokeAt := none } } }
      if f.src < 2 then
        let s := s.updFabNode s.cell.node (fun m => { m with restoreAt := none })
        goSleep (if s.cell.role = 4 then s else takeRole 4 s)
      else
        { s with fab := { s.fab with join := { stage := 1, since := s.gtc, args := (s.cell.node, true, s.fab.mine), map := s.fab.map
                                               coldOk := s.fab.coldOk.contains s.cell.node } } })

end Sys2Proof.Machine
end

