-- ==== Sys2Proof/Machine/HostWords.lean ====
section
/-! DEFINITION. The words of the command interface as they are read: acknowledged responses, command words and CREDIT words
(R322 to R328, R333, R334). -/

namespace Sys2Proof.Machine

/-! ### Words to the host (R323, R327) -/

/-- The channels on which the Sheaf posts RESPONSE and CREDIT words to a port (R323). -/
def respChans (p : Nat) : List Nat := if p = 5 then [20, 21, 22] else [8, 9, 10, 11, 12, 13, 14]

/-- The channel of a port's EVENT words (R323). -/
def eventChan (p : Nat) : Nat := if p = 5 then 23 else 15

/-- The lowest-numbered empty channel for a RESPONSE or CREDIT word (R323). -/
def State.emptyChan (s : State) (p : Nat) : Option Nat := (respChans p).find? (fun ch => !(s.chan ch).full)

/-- A bank CREDIT word (R324). -/
def bankCredit (b : Nat) : Word := BitVec.ofNat 32 (0x41000000 + b % 64)

/-- The bank CREDIT words that are due go out while a channel is empty and the port is not in reset (R317, R327, R340). -/
def postCredits (p : Nat) (s : State) : State :=
  let one (s : State) (b : Nat) : State :=
    match s.emptyChan p with
    | none => s
    | some ch =>
      let s := s.setPort p { s.port p with creditsDue := (s.port p).creditsDue.drop 1 }
      mbxWrite 0 ch (bankCredit b) s
  if (s.port p).inReset then s else (s.port p).creditsDue.foldl one s

/-- The host has read the word of a response channel: the command whose response it was is no longer outstanding (R334). -/
def ackResponse (p ch : Nat) (s : State) : State :=
  { s with host := { s.host with cmds := s.host.cmds.filter (fun c => !(c.stage == .posted && c.hdr.port == p && c.chan == ch)) } }

/-! ### Words from the host (R322 to R326, R333, R334) -/

/-- The commands outstanding on the device (R334). -/
def State.allOutstanding (s : State) : Nat := (s.outstanding 4).length + (s.outstanding 5).length

/-- A COMMAND word is read (R333, R334): a busy tag discards it, and one too many is answered at once. -/
def commandWord (p ch : Nat) (w : Word) (s : State) : State :=
  let h : Hdr := { port := p, tag := field w.toNat 16 12, bank := field w.toNat 10 6, slot := field w.toNat 0 10 }
  let out := s.outstanding p
  if out.any (fun c => c.hdr.tag == h.tag) then s.protocolError p ch w
  else
    let many := decide ((s.port p).share ≤ out.length) || decide (512 ≤ s.allOutstanding)
    let c : HostCmd := if many then { hdr := h, stage := .replied, extra := true, hasReply := false, reply := { status := St.tooMany } } else { hdr := h }
    { s with host := { s.host with cmds := s.host.cmds ++ [c] } }

/-- A CREDIT word is read (R324, R326): a wrong one raises PROTOCOL_ERROR, and so does one whose bank the port did not own. -/
def creditWord (p ch : Nat) (w : Word) (handed : Bool) (s : State) : State :=
  let n := w.toNat
  let fine := field n 16 8 == 0 && (field n 24 4 == 0 || (field n 24 4 == 1 && field n 6 10 == 0 && handed))
  if fine then s.setPort p { s.port p with inbox := (s.port p).inbox ++ [w] } else s.protocolError p ch w

/-- Sheaf core 0 reads a word that a host port wrote (R322, R323). -/
def sheafWord (p ch : Nat) (w : Word) (handed : Bool) (s : State) : State :=
  match field w.toNat 28 4 with
  | 1 => commandWord p ch w s
  | 4 => creditWord p ch w handed s
  | _ => s.protocolError p ch w

/-- A read of MBX_DATA with what the command interface makes of it (R305, R334). -/
def dataRead (m ch : Nat) (s : State) : State :=
  let c := s.chan ch
  let s' := mbxRead m ch s
  if 64 ≤ ch || !c.isReceiver m || !c.full then s'
  else if isHost m then postCredits m (ackResponse m ch s')
  else if m == 0 && isHost c.writer then sheafWord c.writer ch c.word c.handed s'
  else s'

/-- MBX_DATA_READ: a receiver reads a channel word, acknowledging it (R305). -/
def execMbxDataRead (m ch : Nat) (s : State) : Result := .next (dataRead m ch s)

/-! ### CREDIT words acted on (R324, R326) -/

/-- The oldest CREDIT word read that satisfies a test leaves the port's inbox. -/
def HostPort.takeWord (v : HostPort) (f : Nat → Bool) : Option (Nat × HostPort) :=
  match v.inbox.find? (fun w => f w.toNat) with
  | some w => some (w.toNat, { v with inbox := v.inbox.erase w })
  | none => none

/-- Event credits are granted (R324, R336). -/
def grantCredit (p : Nat) (s : State) : State :=
  match (s.port p).takeWord (fun n => field n 24 4 == 0) with
  | some (n, v) => s.setPort p { v with credit := wrap 32 (v.credit + field n 0 16) }
  | none => s

/-- EVENT_CREDIT_GRANT: a CREDIT word with SUB 0 adds event credits to the port's balance (R324). -/
def execEventCreditGrant (p : Nat) (s : State) : Result := .next (grantCredit p s)

/-- A bank handed over is held for its port (R326, R328); the accesses issued to it are complete, so that Sheaf core 0 owns it. -/
def handBank (p : Nat) (s : State) : State :=
  match (s.port p).takeWord (fun n => field n 24 4 == 1) with
  | some (n, v) =>
    let b := field n 0 6
    let s := if (s.bank b).newOwner = 0 then handoverDone b s else s
    s.setPort p { v with held := setBit v.held b, named := clrBit v.named b }
  | none => s

/-- BANK_HANDOVER: a bank CREDIT word from a host hands the bank to Sheaf core 0 (R326). -/
def execBankHandover (p : Nat) (s : State) : Result := .next (handBank p s)

/-- Whether a command in hand keeps a bank: its block lies there, or names it as a data bank (R327). -/
def HostCmd.keeps (c : HostCmd) (p b : Nat) : Bool := c.hdr.port == p && !c.silent && !c.extra && (c.hdr.bank == b || c.dataBank == some b)

/-- A bank goes back to the port that handed it over, once the commands naming it are acknowledged (R327). -/
def returnBank (b : Nat) (s : State) : State :=
  let one (s : State) (p : Nat) : State :=
    let v := s.port p
    if bitAt v.held b && bitAt v.named b && !s.host.cmds.any (fun c => c.keeps p b) then postCredits p (giveBank p b s) else s
  if 64 ≤ b then s else one (one s 4) 5

/-- BANK_RETURN: the Sheaf returns a bank (R327). -/
def execBankReturn (b : Nat) (s : State) : Result := .next (returnBank b s)

/-! ### Events (R335, R336) -/

/-- The words of an event with a sequence number (R335). -/
def Event.words (e : Event) (seq : Nat) : List Word :=
  let n := e.dataWords
  BitVec.ofNat 32 (3 * 2 ^ 28 + n % 16 * 2 ^ 24 + seq % 256 * 2 ^ 16 + e.code % 65536) ::
    (List.range n).map (fun i => BitVec.ofNat 32 (5 * 2 ^ 28 + i % 16 * 2 ^ 24 + seq % 256 * 2 ^ 16 + uAt e.payload (2 * i) 2))

/-- The event a port gets next: EVENT_LOST while discards are not reported, then the head of its queue (R336). -/
def State.nextEvent (s : State) (p : Nat) : Option (Event × HostPort) :=
  let v := s.port p
  if v.lostNow ≠ 0 then some ({ code := 0x8101, gtc := s.gtc, source := s.source 0, data := toLE 4 v.lostNow }, { v with lostNow := 0 })
  else match v.queue with
    | e :: q => some (e, { v with queue := q })
    | [] => none

/-- An event begins to be posted while the credit balance allows (R336). -/
def startEvent (p : Nat) (s : State) : State :=
  if (s.port p).words ≠ [] then s
  else match s.nextEvent p with
    | some (e, v) =>
      if 1 + e.dataWords ≤ v.credit then
        s.setPort p { v with credit := v.credit - (1 + e.dataWords), eventSeq := wrap 8 (v.eventSeq + 1), words := e.words v.eventSeq }
      else s
    | none => s

/-- The next word of an event goes to the event channel when that is empty (R323, R336). -/
def postEvent (p : Nat) (s : State) : State :=
  if (s.port p).inReset then s
  else
    let s := startEvent p s
    match (s.port p).words with
    | [] => s
    | w :: ws => if (s.chan (eventChan p)).full then s else mbxWrite 0 (eventChan p) w (s.setPort p { s.port p with words := ws })

/-- EVENT_POST: the Sheaf posts a queued event once the port's credit balance allows (R336). -/
def execEventPost (p : Nat) (s : State) : Result := .next (postEvent p s)

/-! ### Reset of a host port (R319, R340) -/

/-- A channel cleared: FULL, flags and counters (R319). -/
def MbxChannel.cleared (c : MbxChannel) : MbxChannel :=
  { c with full := false, collision := false, reject := false, violation := false, fullEv := 0, collEv := 0, rejEv := 0, violEv := 0 }

/-- Whether a port's reset clears a channel (R319): it is bound to the port, or its word is the port's in the host class. -/
def MbxChannel.ofPort (c : MbxChannel) (p : Nat) : Bool :=
  c.valid && (c.sender == p || c.receiver == p || (c.sender == 0x09 && c.full && c.writer == p))

/-- What a port's reset makes of a command in hand (R340): none is left of what is not accepted, held or answered. -/
def HostCmd.afterReset (c : HostCmd) : Option HostCmd :=
  match c.stage with
  | .waiting => some { c with silent := true }
  | .running => some { c with silent := true }
  | .held => if c.code = 0x0205 then some { c with silent := true } else none
  | _ => none

/-- Whether the commit of a transaction is among the commands in hand. -/
def committed (l : List HostCmd) (t : Txn) : Bool := l.any (fun c => c.code == 0x0205 && c.hdr.port == t.port && uAt c.args 0 2 == t.id)

/-- A host port is reset (R319, R340). -/
def resetPort (p : Nat) (s : State) : State :=
  let s := s.breakLocksOf p
  let s := (List.range 64).foldl (fun s ch => if (s.chan ch).ofPort p then s.updChan ch MbxChannel.cleared else s) s
  let s := s.updBells p (fun d => { d with pend := 0, enable := 0 })
  let cmds := s.host.cmds.filterMap (fun c => if c.hdr.port = p then (if c.silent then some c else c.afterReset) else some c)
  let s := { s with host := { s.host with cmds := cmds, txns := s.host.txns.filter (fun t => t.port != p || committed cmds t) } }
  let back := (List.range 64).filter (fun b => bitAt (s.port p).banks b && !s.owns p b && ((s.bank b).owner == 0 || (s.bank b).owner == p))
  let s := back.foldl (fun s b => giveBank p b s) s
  s.setPort p { s.port p with credit := 0, queue := [], eventSeq := 0, words := [], inbox := [], lostNow := 0, inReset := true }

/-- HOST_PORT_RESET: a host port reset clears its channels, doorbells and locks, and the Sheaf ends its commands (R319). -/
def execHostPortReset (p : Nat) (s : State) : Result := if isHost p then .next (resetPort p s) else .fault (.noSuchUnit p)

/-- The port's reset has ended (R340). -/
def endPortReset (p : Nat) (s : State) : State := postCredits p (s.setPort p { s.port p with inReset := false })

/-- HOST_RESET_END: when the port reset ends, the bank CREDIT words are posted (R340). -/
def execHostResetEnd (p : Nat) (s : State) : Result := if isHost p then .next (endPortReset p s) else .fault (.noSuchUnit p)

end Sys2Proof.Machine
end

