-- ==== Sys2Proof/Machine/JrnlDiag.lean ====
section
/-! DEFINITION. The JRNL commands, DIAG.TICK_LOAD, DIAG.BLOCKS and DIAG.TELEMETRY, and the periodic journal commit (R43, R351,
R591, R600, R612 to R623). -/

namespace Sys2Proof.Machine

/-! ### The journal -/

/-- K of R615 for a TICK. -/
def commitTicks (sel : Nat) : Nat := match sel with
  | 0 => 16
  | 1 => 16
  | 2 => 8
  | 3 => 4
  | 4 => 2
  | _ => 1

/-- JOURNAL_COMMIT: the open journal page is committed at the K-th tick edge (R615). -/
def execJournalCommit (s : State) : Result :=
  .next (if s.cell.tick % commitTicks s.cell.tickSel = 0 then s.commitJournal else s)

/-- The records of a page with their sequence numbers (R613). -/
def JPage.seqs (p : JPage) : List (Nat × JRec) := ((List.range p.recs.length).zip p.recs).map (fun q => (p.no * 128 + q.1, q.2))

/-- Every committed record held, in sequence order: the archive's pages older than tier 1, tier 1, the open page (R616, R622). -/
def Journal.held (j : Journal) : List (Nat × JRec) :=
  let oldest := (j.pages.head?.map (fun p => p.no)).getD j.openNo
  (j.archive.filter (fun p => decide (p.no < oldest))).flatMap JPage.seqs ++ j.pages.flatMap JPage.seqs ++
    JPage.seqs { no := j.openNo, recs := j.openRecs.take j.fill }

/-- JRNL.READ (R351, R622). The sequence number that leads a reply without records is not stated and is free (log entry 44). -/
def runJrnlRead (_ : Hdr) (a : List Byte) (s : State) : State × Reply :=
  let start := if uAt a 0 8 = 2 ^ 64 - 1 then 0 else uAt a 0 8
  let f := uAt a 12 2
  let l := (s.jrnl.held.filter (fun p => decide (start ≤ p.1) && (f == 0xFFFF || p.2.source % 64 == f))).take (uAt a 8 4)
  let (none?, s1) := s.freeBelow (2 ^ 64)
  let first := (l.head?.map Prod.fst).getD none?
  tested s [badLen a 16, badAt 12 (f != 0xFFFF && decide (63 < f)), badZeros a 14 2, haltCell s]
    (if l = [] then s1 else s, { data := toLE 8 first ++ toLE 4 l.length ++ toLE 4 0 ++ l.flatMap (fun p => p.2.octets p.1), later := true })

/-- JRNL_READ: returns journal records in sequence order (R351). -/
def execJrnlRead (h : Hdr) (a : List Byte) (s : State) : Result := commitHost 0x0B01 runJrnlRead h a s

/-- JRNL.MARK (R351, R614). -/
def runJrnlMark (h : Hdr) (a : List Byte) (s : State) : State × Reply :=
  tested s [badLen a 16, shadowed h s, liveCell s] (okReply (s.record 0 (if h.port = 5 then 0x0003 else 0x0001) a))

/-- JRNL_MARK: writes host data as a MARK record (R614). -/
def execJrnlMark (h : Hdr) (a : List Byte) (s : State) : Result := commitHost 0x0B02 runJrnlMark h a s

/-- JRNL.COMMIT (R615, R635). -/
def runJrnlCommit (h : Hdr) (a : List Byte) (s : State) : State × Reply :=
  tested s [badLen a 0, shadowed h s, liveCell s, badState s.power.inhibit] (okReply s.commitJournal)

/-- JRNL_COMMIT: commits the open journal page (R615). -/
def execJrnlCommit (h : Hdr) (a : List Byte) (s : State) : Result := commitHost 0x0B03 runJrnlCommit h a s

/-- The size in MiB of the smaller NOR device (R618). -/
def norMiB : Nat := 128 * 2 ^ (Config.norSize % 3)

/-- The bound of R590 in octets per second. -/
def rateLimit : Nat := 25600 * norMiB / 512

/-- The 64 KiB sectors of the levelled area (R618). -/
def levelled : Nat := norMiB * 16 - 898

/-- The highest and the lowest erase count of the levelled area (R623). -/
def Journal.eraseSpan (j : Journal) : Nat × Nat :=
  let l := j.erases.map Prod.snd
  (l.foldl max 0, if l.length < levelled then 0 else l.foldl min (l.headD 0))

/-- JRNL.STATUS (R623). The oldest sequence number of an empty archive is not stated and is free (log entry 44). -/
def runJrnlStatus (_ : Hdr) (a : List Byte) (s : State) : State × Reply :=
  let j := s.jrnl
  let t1 := (j.pages.head?.map (fun p => p.no)).getD j.openNo
  let (none?, s1) := s.freeBelow (2 ^ 64)
  let t2 := (j.archive.head?.map (fun p => p.no * 128)).getD none?
  let body := toLE 8 (t1 * 128) ++ toLE 8 (j.openNo * 128 + j.openRecs.length) ++ toLE 8 t2 ++
    toLE 4 (j.pages.filter (fun p => decide (j.nextArchive ≤ p.no))).length ++ toLE 4 j.rateAvg ++ toLE 4 rateLimit ++
    toLE 4 j.eraseSpan.1 ++ toLE 4 j.eraseSpan.2 ++ toLE 4 j.nvDeferred ++ toLE 4 j.lost ++ toLE 1 j.norOk ++
    toLE 1 (bitIf 0 s.power.inhibit) ++ toLE 6 0
  tested s [badLen a 0, haltCell s] (dataReply (if j.archive = [] then s1 else s) (body ++ toLE 4 (crc32c body)))

/-- JRNL_STATUS: returns journal fill, wear and sequence figures (R623). -/
def execJrnlStatus (h : Hdr) (a : List Byte) (s : State) : Result := commitHost 0x0B04 runJrnlStatus h a s

/-! ### DIAG.TICK_LOAD (R43) -/

/-- The load record of R43. -/
def LoadRec.octets (r : LoadRec) : List Byte :=
  let b := toLE 8 r.gtcFirst ++ toLE 4 r.ticks ++ toLE 4 r.tillerEnd ++ toLE 4 r.asmEnd ++ toLEs 4 r.txMargin ++ toLE 2 r.txNet ++
    toLE 2 r.duePeak ++ toLE 2 r.mandrelPeak ++ toLE 2 r.winnowerPeak ++ toLE 4 r.overruns ++ toLE 4 r.underruns ++ toLE 4 r.txMisses ++
    toLE 4 r.rolls ++ toLE 4 r.guardPeak ++ toLE 4 r.clearedMin ++ toLE 4 r.queuedMin
  b ++ toLE 4 (crc32c b)

/-- DIAG.TICK_LOAD (R43, R351): returns the record of the interval that ends and starts the next. -/
def runDiagTickLoad (_ : Hdr) (a : List Byte) (s : State) : State × Reply :=
  let th := if uAt a 0 2 = 0 then s.cell.load.threshold else uAt a 0 2
  tested s [badLen a 4, badZeros a 2 2, liveCell s]
    (dataReply { s with cell := { s.cell with load := { gtcFirst := s.cell.edge, threshold := th } } } s.cell.load.octets)

/-- DIAG_TICK_LOAD: returns the tick load record and sets the threshold (R43). -/
def execDiagTickLoad (h : Hdr) (a : List Byte) (s : State) : Result := commitHost 0x0C01 runDiagTickLoad h a s

/-! ### DIAG.BLOCKS and DIAG.TELEMETRY (R591, R600) -/

/-- DIAG.BLOCKS (R600). -/
def runDiagBlocks (_ : Hdr) (a : List Byte) (s : State) : State × Reply :=
  let w := s.wnw
  let mem (m : Nat) : List Byte := let r := s.scrub m; toLE 4 r.ce ++ toLE 4 r.ue ++ toLE 4 r.weak.length
  tested s [badLen a 0, haltCell s] (dataReply s
    (w.unusable.flatMap (fun p => toLE 2 p.1 ++ toLE 2 p.2.1 ++ toLE 4 p.2.2) ++ (List.range 6).flatMap mem ++
     toLE 4 w.retired.length ++ toLE 4 w.scrubLate ++ toLE 4 s.jrnl.nvDeferred ++ toLE 4 w.stream.drop))

/-- DIAG_BLOCKS: returns unusable blocks and memory figures (R600). -/
def execDiagBlocks (h : Hdr) (a : List Byte) (s : State) : Result := commitHost 0x0C05 runDiagBlocks h a s

/-- Whether an Ethernet port serves a started network (R591). -/
def State.portServes (s : State) (p : Nat) : Bool := s.nets.any (fun n => n.2.started && (n.2.portA == p || n.2.portB == p))

/-- DIAG.TELEMETRY (R591). -/
def runDiagTelemetry (_ : Hdr) (a : List Byte) (s : State) : State × Reply :=
  let en := uAt a 0 1
  let n := uAt a 24 2
  let t := s.wnw.stream
  let on : Stream := { t with
    en := true, port := uAt a 1 1, select := uAt a 2 2, loadTicks := uAt a 4 2, dstMac := octets a 6 6, srcIp := octets a 14 4
    dstIp := octets a 18 4, udpPort := uAt a 22 2, trace := (List.range n).map (fun i => uAt a (26 + 2 * i) 2) }
  let t' := if en = 0 then { t with en := false } else on
  tested s ([(a.length != 26 + 2 * n, St.badParam, 58), badAt 0 (decide (1 < en)), badAt 1 (decide (11 < uAt a 1 1)), badAt 2 (decide (63 < uAt a 2 2)),
      badAt 4 (decide (uAt a 4 2 < 16)), badZeros a 12 2, badAt 24 (decide (8 < n))] ++
      (List.range n).map (fun i => badAt (26 + 2 * i) (decide (511 < uAt a (26 + 2 * i) 2))) ++
      [liveCell s, (en == 1 && s.portServes (uAt a 1 1), St.bindConflict, 0)])
    (okReply { s with wnw := { s.wnw with stream := t' } })

/-- DIAG_TELEMETRY: starts, changes or stops the telemetry stream (R591). -/
def execDiagTelemetry (h : Hdr) (a : List Byte) (s : State) : Result := commitHost 0x0C06 runDiagTelemetry h a s

end Sys2Proof.Machine
end

