-- ==== Sys2Proof/Machine/PoolPort.lean ====
section
/-! DEFINITION. An access at a port of the bank pool with everything its master is told (R564 to R570). -/

namespace Sys2Proof.Machine

/-- An exception of the level a Lathe runs, for an access at `addr` (R401). -/
def latheFault (e cause addr : Nat) (s : State) : State :=
  let l := s.lathe e
  match l.running with
  | none => s
  | some v =>
    let ip := (l.level v).ip
    s.exception e v cause 0 false ip (BitVec.ofNat 32 addr) ip

/-- What a refused access does to its master (R565). -/
def refusedAt (port act ofs : Nat) (s : State) : State :=
  let m := portMaster port act
  if 8 ≤ port ∧ port < 24 then latheFault (port - 8) 3 (0x60000000 + ofs) ((s.accessFault (port - 8)).returns 0)
  else if port = 7 then s.updSwRing (act % 16) (fun r => { r with ringFault := satAdd 255 r.ringFault 1 })
  else if port = 5 ∨ port = 6 then (s.accessErr m).returns 0
  else (s.memoryRecord 0 6 port ofs 1).returns 0

/-- What an uncorrectable word does to its reader (R570). -/
def badWordAt (port act ofs : Nat) (s : State) : State :=
  if 8 ≤ port ∧ port < 24 then
    let e := port - 8
    if ofs / 0x80000 = 32 + e then restartLathe e s else latheFault e 3 (0x60000000 + ofs) s
  else if port = 7 then s.updSwRing (act % 16) (fun r => { r with ringFault := satAdd 255 r.ringFault 1 })
  else if port = 5 then s.send .poisoned
  else if port = 6 then (s.accessErr 5).returns 0xFFFFFFFF
  else s

/-- A word of the pool before an access finds an error in it (R570). -/
def upsetAt (ofs : Nat) (u : Upset) (s : State) : State := if u = .double then s.spoil (ofs / 8) else s

/-- The end of an access. -/
def endAccess (port act ofs : Nat) (x : State × PoolOutcome) : State :=
  match x.2 with
  | .ok bs => if bs.isEmpty then x.1 else x.1.returns (ofLE bs)
  | .refused => refusedAt port act ofs x.1
  | .bad => badWordAt port act ofs x.1

/-- An indivisible exchange by a Lathe's port (R564, R569): `f` gives the octets to store, if any, from those found. -/
def poolExchange (port act ofs n : Nat) (f : List Byte → Option (List Byte)) (s : State) : State :=
  let m := portMaster port act
  if port < 8 ∨ 24 ≤ port then refusedAt port act ofs (s.poolRefuse m ofs n)
  else if ofs / 8 ≠ (ofs + n - 1) / 8 then latheFault (port - 8) 4 (0x60000000 + ofs) s
  else
    let x := s.poolRead m ofs n
    match x.2 with
    | .ok bs =>
      match f bs with
      | some v => (x.1.poolWrite port m ofs v).1.returns (ofLE bs)
      | none => x.1.returns (ofLE bs)
    | _ => endAccess port act ofs x

/-- An access of the pool through a port (R564, R565, R568, R570). The switch's port reads only. -/
def poolAccess (port act : Nat) (op : PoolOp) (ofs : Nat) (s : State) : State :=
  let m := portMaster port act
  match op with
  | .read n u =>
    let x := (upsetAt ofs u s).poolRead m ofs n
    let s' := endAccess port act ofs x
    match x.2, u with
    | .ok _, .single => s'.corrected ofs
    | _, _ => s'
  | .write bs beaten =>
    if port = 7 then refusedAt port act ofs (s.poolRefuse m ofs bs.length)
    else if beaten && s.poolOk m ofs bs.length then s.writeLost ofs
    else endAccess port act ofs (s.poolWrite port m ofs bs)
  | .xchg bs => poolExchange port act ofs bs.length (fun _ => some bs) s
  | .cas old bs => poolExchange port act ofs bs.length (fun cur => if cur = old then some bs else none) s

/-- POOL_ACCESS: a port accesses the bank pool, checked against ownership (R565). -/
def execPoolAccess (port act : Nat) (op : PoolOp) (ofs : Nat) (s : State) : Result :=
  if port < 25 ∧ ofs < 64 * 0x80000 then .next (poolAccess port act op ofs s) else .fault (.noSuchUnit port)

end Sys2Proof.Machine
end

