-- ==== Sys2Proof/Machine/Switch.lean ====
section
/-! DEFINITION. The Ethernet ports and the switch core (15_ethernet_and_switch, R419 to R451): frames received, stored,
queued, paused, gated, preempted, sent, withdrawn and flushed; links; snapshots; the Lathe rings. -/

namespace Sys2Proof.Machine

/-! ### Counters (R445 to R448) -/

/-- The compatibility counter that counts the events of native counter `i` (R448). -/
def nrwOf (i : Nat) : Option Nat :=
  match i with
  | 0 => some 0 | 1 => some 1 | 4 => some 2 | 7 => some 2 | 5 => some 3 | 10 => some 3 | 6 => some 4 | 9 => some 5
  | 8 => some 5 | 2 => some 6 | 3 => some 7 | 12 => some 8 | 13 => some 9 | 14 => some 10 | 15 => some 11 | 18 => some 12
  | 19 => some 12 | 20 => some 12 | 21 => some 12 | 22 => some 12 | 11 => some 13 | 16 => some 14 | 23 => some 15
  | _ => none

/-- Native counter `i` of a port and the compatibility counter of its events advance by `n` (R446, R448). -/
def Mac.count (k : Mac) (i n : Nat) : Mac :=
  let k := { k with counters := Table.upd 0 k.counters i (fun c => wrap 64 (c + n)) }
  match nrwOf i with
  | some j => { k with nrw := Table.upd 0 k.nrw j (fun c => wrap 32 (c + n)) }
  | none => k

/-- A counter of a port advances by one; internal ports have none. -/
def State.macCount (s : State) (p i : Nat) : State := if p < 12 then s.updMac p (fun k => k.count i 1) else s

/-- A MAC may work: it is not unusable (R601). -/
def State.macUsable (s : State) (p : Nat) : Bool := decide (p < 12) && !s.lost (65 + p)

/-! ### Cells, classes and pauses (R433 to R436) -/

/-- Cells of a frame of L octets (R433). -/
def cellsOf (l : Nat) : Nat := ceilDiv l 256

/-- The sum of HEADROOM over ports 0 to 11 (R434). -/
def State.headSum (s : State) : Nat := (List.range 12).foldl (fun n p => n + (s.mac p).headroom) 0

/-- Free cells of a class reservation (R433). -/
def SwitchState.resvFree (w : SwitchState) (c : Nat) : Nat := Table.get 0 w.resv c - Table.get 0 w.resvHeld c

/-- The cells a frame of `k` cells of class `c` draws from the class reservation; the rest come from the shared pool (R433). -/
def SwitchState.fromResv (w : SwitchState) (c k : Nat) : Nat := if 5 ≤ c then min k (w.resvFree c) else 0

/-- Cells taken for a frame. -/
def SwitchState.draw (w : SwitchState) (c resv shared : Nat) : SwitchState :=
  { w with resvHeld := if resv = 0 then w.resvHeld else Table.upd 0 w.resvHeld c (· + resv), sharedFree := w.sharedFree - shared }

/-- A new reservation of class `c`: its cells come from the shared pool or return to it (R433). -/
def State.setResv (s : State) (c n : Nat) : State :=
  let w := s.switch
  let old := Table.get 0 w.resv c
  { s with switch := { w with resv := Table.set 0 w.resv c n, sharedFree := w.sharedFree + old - n } }

/-- The classes whose pause condition holds now: begun and not ended (R436). -/
def Mac.pausing (k : Mac) (sharedFree headSum : Nat) : Nat :=
  (List.range 8).foldl (fun v c =>
    let h := Table.get 0 k.held c
    let begins := decide (k.xoff ≤ h) || decide (sharedFree ≤ headSum)
    let ends := decide (h ≤ k.xon) && decide (headSum + 64 ≤ sharedFree)
    if begins || (bitAt k.condition c && !ends) then v + 2 ^ c else v) 0

/-- The pause conditions follow the cells: classes that begin together share one frame of pause time 0xFFFF, classes that
end share one of time 0 (R436). -/
def updatePauses (s : State) : State :=
  (List.range 12).foldl (fun s p =>
    let k := s.mac p
    let now := k.pausing s.switch.sharedFree s.headSum
    let begun := (now - (now &&& k.condition)) &&& k.pfcTx
    let ended := (k.xoffSent - (k.xoffSent &&& now))
    let s := s.setMac p { k with condition := now }
    let s := if begun = 0 then s else
      (s.updMac p (fun k => { k with xoffSent := k.xoffSent ||| begun }.count 16 1)).send (.pause p begun 0xFFFF)
    if ended = 0 then s else
      (s.updMac p (fun k => { k with xoffSent := w1c k.xoffSent ended }.count 16 1)).send (.pause p ended 0)) s

/-- PAUSE_REFRESH: half the pause time elapses while pausing and the pause frame is repeated (R436). -/
def execPauseRefresh (p : Nat) (s : State) : Result :=
  let k := s.mac p
  let m := k.condition &&& k.xoffSent
  onUnit p 12 (if m = 0 then s else (s.setMac p (k.count 16 1)).send (.pause p m 0xFFFF))

/-- PAUSE_TIME_EXPIRY: the pause time runs out and the paused egress class may send again (R436). -/
def execPauseTimeExpiry (p classes : Nat) (s : State) : Result :=
  onUnit p 12 (s.updMac p (fun k => { k with paused := w1c k.paused (wrap 8 classes) }))

/-- A frame's cells are freed and its credits return to its source (R434, R439). -/
def freeFrame (f : SwFrame) (s : State) : State :=
  let w := s.switch
  let w := { w with
    frames := w.frames.filter (fun x => x.no != f.no)
    sharedFree := w.sharedFree + f.shared + f.head
    resvHeld := if f.resv = 0 then w.resvHeld else Table.upd 0 w.resvHeld f.cls (· - f.resv) }
  let w := if f.ingress = 28 then { w with sheafCredits := w.sheafCredits + f.credits }
    else if f.ingress = 29 then { w with bridgeCredits := w.bridgeCredits + f.credits } else w
  let s := { s with switch := w }
  let s := if 12 ≤ f.ingress ∧ f.ingress < 28 then
      s.updSwRing (f.ingress - 12) (fun r => { r with credits := r.credits + f.credits }) else s
  let s := if f.ingress < 12 then
      s.updMac f.ingress (fun k => { k with held := Table.upd 0 k.held f.cls (fun h => h - (f.shared + f.head)), headUsed := k.headUsed - f.head })
    else s
  updatePauses s

/-- A port is done with a frame; when it was the last one the cells are freed (R439). -/
def portDone (no p : Nat) (s : State) : State :=
  match s.switch.frames.find? (fun f => f.no == no) with
  | none => s
  | some f =>
    let f := { f with ports := clrBit f.ports p }
    if f.ports = 0 then freeFrame f s
    else { s with switch := { s.switch with frames := s.switch.frames.map (fun x => if x.no = no then f else x) } }

/-- The network of a Lathe's frame at a port, for the count of missed deadlines (R438, R41). -/
def State.netOf (s : State) (e p : Nat) : Option Nat :=
  (List.range 32).find? (fun n => (s.net n).defined && (s.net n).engine == e && ((s.net n).portA == p || (s.net n).portB == p))

/-- A frame's network misses a deadline at a port (R41, R438). -/
def missedAt (f : SwFrame) (p : Nat) (s : State) : State :=
  if 12 ≤ f.ingress ∧ f.ingress < 28 ∧ f.deadline.isSome then
    match s.netOf (f.ingress - 12) p with
    | some n =>
      let s := s.updNet n (fun v => { v with missed := wrap 32 (v.missed + 1) })
      { s with cell := { s.cell with load := { s.cell.load with txMisses := wrap 32 (s.cell.load.txMisses + 1) } } }
    | none => s
  else s

/-- Mirror copies of a frame at a switch port (R442, R443): 0 ingress, 1 egress. -/
def mirrorFrame (p dir cls : Nat) (octs : List Byte) (len : Nat) (s : State) : State :=
  (List.range 4).foldl (fun s n =>
    let m := s.mirror n
    if m.en && m.port == p && m.dir == dir && bitAt m.tcMask cls then
      let c := m.count + 1
      if c % m.every ≠ 0 then s.setMirror n { m with count := c }
      else if 64 ≤ s.switch.mirrorCells then s.setMirror n { m with count := c, skipped := wrap 32 (m.skipped + 1) }
      else
        let copies := wrap 32 (m.copies + 1)
        let hdr := toLE 8 s.gtc ++ toLE 1 p ++ toLE 1 dir ++ toLE 1 cls ++ toLE 1 0 ++ toLE 2 len ++ toLE 2 copies
        let s := s.setMirror n { m with count := c, copies := copies }
        let s := { s with switch := { s.switch with mirrorCells := s.switch.mirrorCells + 1
                                                    toSheaf := s.switch.toSheaf ++ [hdr ++ octs.take 128] } }
        s.stream 2 3 s.gtc (hdr ++ octs.take 128)
    else s) s

/-- A frame enters the queues of its ports (R435, R440): a port in DOWN_FLUSHED takes none and counts it. -/
def enqueue (f : SwFrame) (s : State) : State :=
  let dead := (List.range 12).filter (fun p => bitAt f.ports p && (s.mac p).holdState == 2)
  let s := dead.foldl (fun s p => missedAt f p (s.macCount p 21)) s
  let f := { f with no := s.switch.nextNo, ports := dead.foldl clrBit f.ports }
  let s := { s with switch := { s.switch with nextNo := s.switch.nextNo + 1, frames := s.switch.frames ++ [f] } }
  if f.ports = 0 then freeFrame f s else updatePauses s

/-- CRC-32 of IEEE 802.3 as the four octets of an FCS. -/
def fcsOf (octs : List Byte) : List Byte := toLE 4 (crcReflected 0xEDB88320 0xFFFFFFFF octs ^^^ 0xFFFFFFFF)

/-! ### Receive (R422 to R427, R430, R436) -/

/-- The Ethertype of a frame, past a VLAN tag, and whether it has one. -/
def ethertype (octs : List Byte) : Nat × Bool :=
  let t := ofBE (octets octs 12 2)
  if t = 0x8100 then (ofBE (octets octs 16 2), true) else (t, false)

/-- A received MAC control frame: the classes it pauses and those it releases (R436). -/
def Mac.control (k : Mac) (octs : List Byte) : Mac :=
  let op := ofBE (octets octs 14 2)
  if op = 0x0101 then
    let en := ofBE (octets octs 16 2)
    (List.range 8).foldl (fun k c =>
      if bitAt en c && bitAt k.pfcRx c then
        { k with paused := if ofBE (octets octs (18 + 2 * c) 2) = 0 then clrBit k.paused c else setBit k.paused c }
      else k) k
  else if op = 1 && k.pauseRx then { k with paused := if ofBE (octets octs 16 2) = 0 then 0 else 0xFF }
  else k

/-- Filtering (R425): the entry that applies gives the destination mask and the class override. -/
def Mac.filter (k : Mac) (octs : List Byte) : Option (Nat × Option Nat) :=
  let da := ofLE (octets octs 0 6)
  match lowest 8 (fun i => (Table.get {} k.filters i).en && (Table.get {} k.filters i).addr == da) with
  | some i =>
    let f := Table.get ({} : MacFilter) k.filters i
    some (f.dest, if f.tcOvrEn then some f.tcOvr else none)
  | none => if k.promisc then some (k.defDest, none) else none

/-- The class of a frame from an external port (R427). -/
def Mac.classOf (k : Mac) (ovr : Option Nat) (octs : List Byte) : Nat :=
  match ovr with
  | some c => c
  | none => if ofBE (octets octs 12 2) = 0x8100 then field k.pcpMap (3 * (ofBE (octets octs 14 2) / 0x2000)) 3 else k.defTc

/-- A frame that passed the checks is given cells and stored, or dropped whole under push-back (R433, R436). -/
def storeExternal (p : Nat) (octs : List Byte) (mask cls stamp : Nat) (s : State) : State :=
  let l := octs.length
  let n := cellsOf l
  let k := s.mac p
  let cond := bitAt (k.pausing s.switch.sharedFree s.headSum) cls
  let head := if cond then n else 0
  let resv := if cond then 0 else s.switch.fromResv cls n
  let shared := if cond then 0 else n - resv
  if (cond && (!bitAt k.pfcTx cls || decide (k.headroom < k.headUsed + n))) || decide (s.switch.sharedFree < shared + head) then
    s.macCount p 9
  else
    let s := s.updMac p (fun k =>
      let k := (k.count 0 1).count 1 l
      let da := octets octs 0 6
      let k := if da.all (fun b => b == 0xFF) then k.count 3 1 else if bitAt (ofLE (da.take 1)) 0 then k.count 2 1 else k
      { k with held := Table.upd 0 k.held cls (· + (shared + head)), headUsed := k.headUsed + head })
    let s := chkFrame 0 p false cls octs s
    let s := mirrorFrame p 0 cls octs l s
    let s := { s with switch := s.switch.draw cls resv (shared + head) }
    enqueue { data := octs.take (l - 4), len := l, cls := cls, ports := mask, ingress := p, stamp := stamp, ext := true
              resv := resv, shared := shared, head := head } s

/-- A whole frame, FCS included, passes the checks of R422 in their order. -/
def checkFrame (p : Nat) (octs : List Byte) (code : Bool) (stamp : Nat) (s : State) : State :=
  let k := s.mac p
  let l := octs.length
  if code then s.macCount p 7
  else if l ≤ 63 then s.macCount p 5
  else if k.maxLen < l then s.macCount p 6
  else if fcsOf (octs.take (l - 4)) ≠ octs.drop (l - 4) then s.macCount p 4
  else if (ethertype octs).1 = 0x8808 ∧ ¬(ethertype octs).2 then s.setMac p ((k.control octs).count 11 1)
  else match k.filter octs with
    | none => s.macCount p 8
    | some (dest, ovr) =>
      let mask := if k.hairpin then dest else clrBit dest p
      if mask = 0 then s.macCount p 8 else storeExternal p octs mask (k.classOf ovr octs) stamp s

/-- A fragment's share of the data: its octets without the mCRC or, at the end, with the FCS (R430). -/
def fragData (octs : List Byte) (last : Bool) : List Byte := if last then octs else octs.take (octs.length - 4)

/-- A packet arrives at a MAC (R421, R422, R430). -/
def macReceive (p : Nat) (octs : List Byte) (code : Bool) (frag : RxFrag) (first : Nat) (s : State) : State :=
  let k := s.mac p
  let stamp := first - k.rxLat
  if !k.en || !k.link || !s.macUsable p then s
  else match frag with
    | .whole => checkFrame p octs code stamp s
    | .initial frame last =>
      let s := if k.reasm.isSome then s.macCount p 10 else s
      if octs.length < 64 then (s.macCount p 10).updMac p (fun k => { k with reasm := none })
      else if last then checkFrame p octs code stamp (s.updMac p (fun k => { k with reasm := none }))
      else s.updMac p (fun k => { k with reasm := some (fragData octs false, frame * 65536 + 4, stamp) })
    | .cont frame fc last =>
      match k.reasm with
      | none => s.macCount p 10
      | some (data, seq, st) =>
        let want := seq % 65536
        let all := data ++ fragData octs last
        if octs.length < 64 ∨ frame ≠ seq / 65536 ∨ fc ≠ want % 4 then
          (s.macCount p 10).updMac p (fun k => { k with reasm := none })
        else if k.maxLen < all.length then (s.macCount p 6).updMac p (fun k => { k with reasm := none })
        else if last then
          checkFrame p all code st ((s.updMac p (fun k => { k with reasm := none })).macCount p 24)
        else s.updMac p (fun k => { k with reasm := some (all, frame * 65536 + 4 + (want + 1) % 4, st) })

/-- FRAME_RECEIVE: a MAC receives a frame and checks, filters, classes and stores it (R422). -/
def execFrameReceive (p : Nat) (octs : List Byte) (code : Bool) (frag : RxFrag) (first : Nat) (s : State) : Result :=
  onUnit p 12 (macReceive p octs code frag first s)

/-! ### Gates (R431, R432) -/

/-- How many ns a gate of class `c` stays open counted from the start of entry `i`, looking at `n` entries; none when no
entry of the list closes it. -/
def openFor (es : List (Nat × Nat × Nat)) (c : Nat) : Nat → Nat → Option Nat
  | 0, _ => none
  | n + 1, i =>
    match es[i % es.length]? with
    | none => none
    | some (gates, _, ns) => if bitAt gates c then (openFor es c n (i + 1)).map (· + ns) else some 0

/-- The ns until gate `c` of a port next closes; none when it never does (R432). -/
def Mac.closesIn (k : Mac) (c gtc : Nat) : Option Nat :=
  match k.gates with
  | none => none
  | some g => (openFor g.entries c g.entries.length (k.gateIdx + 1)).map (fun n => n + (k.gateUntil - gtc))

/-- Tenths of an ns per octet at a link's speed (R420). -/
def octetTime (speed : Nat) : Nat := if speed = 0 then 8000 else if speed = 1 then 800 else if speed = 2 then 80 else 8

/-- The ns a frame of L octets holds the wire with its preamble and delimiter. -/
def wireNs (speed l : Nat) : Nat := ceilDiv ((l + 8) * octetTime speed) 10

/-- The longest window in which a gate list ever opens class `c`; none without a list, or when the gate never closes (R423). -/
def Mac.widest (k : Mac) (c : Nat) : Option Nat :=
  match k.gates with
  | none => none
  | some g =>
    let runs := (List.range g.entries.length).map (fun i => openFor g.entries c g.entries.length i)
    if runs.any (·.isNone) then none else some ((runs.map (·.getD 0)).foldl max 0)

/-- The interval of a list that starts at entry `i`, taken by a port: its gates, its end, and the hold it starts or ends. -/
def Mac.takeEntry (k : Mac) (g : GateList) (i start : Nat) : Mac :=
  match g.entries[i]? with
  | none => { k with open_ := 0xFF, gateUntil := 0, gateIdx := 0 }
  | some (gates, op, ns) =>
    { k with open_ := gates, gateUntil := start + ns, gateIdx := i
             holding := if op = 1 then true else if op = 2 then false else k.holding }

/-- The list that waits takes effect, or the present one is removed (R432). -/
def Mac.activate (k : Mac) (gtc : Nat) : Mac :=
  match k.gatesNext with
  | none => k
  | some none => { k with gates := none, gatesNext := none, open_ := 0xFF, gateUntil := 0, gateIdx := 0, holding := false }
  | some (some g) => { k with gates := some g, gatesNext := none, holding := false }.takeEntry g 0 gtc

/-- GATE_LIST_ACTIVATE: a new gate list takes effect at its cycle instant (R432). -/
def execGateListActivate (p : Nat) (s : State) : Result :=
  let k := s.mac p
  let at0 := match k.gatesNext with
    | some (some g) => if s.gtc ≤ g.base then g.base else g.base + ceilDiv (s.gtc - g.base) g.cycleNs * g.cycleNs
    | _ => s.gtc
  let s := s.advanceTo at0
  onUnit p 12 (s.updMac p (fun k => k.activate (max at0 s.gtc)))

/-- GATE_CHANGE: a gate-list interval ends and gate states change (R432). -/
def execGateChange (p : Nat) (s : State) : Result :=
  let k := s.mac p
  onUnit p 12 (match k.gates with
    | none => s
    | some g =>
      let i := if k.gateIdx + 1 < g.entries.length then k.gateIdx + 1 else 0
      (s.advanceTo k.gateUntil).setMac p (k.takeEntry g i k.gateUntil))

/-! ### Transmit (R423, R429, R435, R438) -/

/-- Whether a deadline, 32 bits compared by signed difference, has been reached (R438, R449). -/
def pastDeadline (gtc : Nat) (d : Option Nat) : Bool :=
  match d with
  | none => false
  | some x => decide (toS 32 (x + 2 ^ 32 - wrap 32 gtc) ≤ 0)

/-- L of a frame as it leaves: padded to 64 (R423). -/
def SwFrame.wireLen (f : SwFrame) : Nat := if f.ext then f.len else max 64 (f.data.length + 4)

/-- Whether preemption is active and the class preemptable (R428). -/
def Mac.preemptable (k : Mac) (c : Nat) : Bool := k.preempt == 2 && !bitAt k.express c

/-- The head frame of class `c` at port `p`: the first stored that the port still holds and has not started (R435). -/
def State.headFrame (s : State) (p c : Nat) : Option SwFrame :=
  s.switch.frames.find? (fun f => bitAt f.ports p && !bitAt f.started p && f.cls == c)

/-- Whether a class's head frame may start now (R432, R435, R436). -/
def State.mayStart (s : State) (p c : Nat) : Bool :=
  let k := s.mac p
  match s.headFrame p c with
  | none => false
  | some f =>
    bitAt k.open_ c && !bitAt k.paused c && !pastDeadline s.gtc f.deadline &&
      (match k.closesIn c s.gtc with
       | none => true
       | some n => decide (wireNs k.speed f.wireLen ≤ n)) &&
      !(k.preemptable c && (k.holding || k.preempted.isSome))

/-- The highest class that may start at a port (R435). -/
def State.nextClass (s : State) (p : Nat) : Option Nat := ((List.range 8).map (fun i => 7 - i)).find? (fun c => s.mayStart p c)

/-- A frame that can never leave the port: longer than its MAX_LEN, or longer than any window of its class (R423). -/
def State.neverLeaves (s : State) (p : Nat) (f : SwFrame) : Bool :=
  let k := s.mac p
  decide (k.maxLen < f.wireLen) ||
    (match k.widest f.cls with
     | none => false
     | some n => decide (n < wireNs k.speed f.wireLen))

/-- Whether a port must not send cyclic frames now: a dual-homed line's at a shadow or at a fenced primary (R279, R284). -/
def State.muted (s : State) (p : Nat) : Bool :=
  (s.isShadow || s.pair.silent) &&
    (List.range 32).any (fun n => (s.net n).defined && (s.net n).dual.isSome && ((s.net n).portA == p || (s.net n).portB == p))

/-- Head frames of a port that can never leave it are dropped and counted in TX_LEN_DROP (R423); cyclic frames that a muted port must not
send are dropped uncounted (R279, R284). -/
def dropUnsendable (p : Nat) (s : State) : State :=
  (List.range 8).foldl (fun s c =>
    match s.headFrame p c with
    | some f =>
      if s.neverLeaves p f then portDone f.no p (s.macCount p 18)
      else if s.muted p ∧ 12 ≤ f.ingress ∧ f.ingress < 28 ∧ f.deadline.isSome then portDone f.no p s
      else s
    | none => s) s

/-- The octets with a stretch replaced, or none when it does not fit (R502). -/
def insertAt (octs : List Byte) (ofs : Nat) (v : List Byte) : Option (List Byte) :=
  if ofs + v.length ≤ octs.length then some (putAt octs ofs v) else none

/-- The departure stamp acts as TS_INS_CFG of the sending Lathe says (R502): the frame as it leaves. -/
def insertStamp (p : Nat) (f : SwFrame) (s : State) : State × SwFrame :=
  if !f.tsInsert then (s, f)
  else
    let e := f.ingress - 12
    let t := s.tsIns e
    let b := s.base t.tb
    -- departure: after the preamble and delimiter, plus TX_LAT_NS, resolved to 0.5 ns
    let dep : Nat := (b.val + (s.mac p).txLat * 2 ^ 40) / 2 ^ 39 * 2 ^ 39
    let sec := dep / 2 ^ 40 / 1000000000
    let ns := dep / 2 ^ 40 % 1000000000
    let frac : Nat := dep / 2 ^ 24 % 2 ^ 16
    let miss := (s.setTsIns e { t with tsFault := satAdd 63 t.tsFault 1 }, f)
    match t.mode with
    | 0 =>
      match insertAt f.data t.ofs (toBE 6 sec ++ toBE 4 ns) with
      | none => miss
      | some d =>
        let cf := toS 64 (ofBE (octets d t.cfOfs 8)) + (frac : Int)
        match insertAt d t.cfOfs (toBE 8 (toU 64 cf)) with
        | none => miss
        | some d => (s, { f with data := d })
    | 1 =>
      match insertAt f.data t.ofs (toBE 8 (wrap 64 (dep / 2 ^ 40))) with
      | none => miss
      | some d => (s, { f with data := d })
    | _ => (s.setTsIns e { t with lastSec := wrap 32 sec, lastNs := ns, tsNew := true }, f)

/-- The octets of a frame as they leave, padded and with FCS (R423). -/
def SwFrame.wire (f : SwFrame) : List Byte :=
  let d := f.data ++ List.replicate (60 - f.data.length) 0
  d ++ fcsOf d

/-- A port starts a frame (R435): the frame is marked, stamped, mirrored, watched and put on the wire. -/
def startFrame (p : Nat) (f : SwFrame) (s : State) : State :=
  let x := insertStamp p f s
  let f := { x.2 with started := setBit f.started p }
  let s := x.1
  let s := { s with switch := { s.switch with frames := s.switch.frames.map (fun y => if y.no = f.no then { y with started := f.started } else y) } }
  let s := mirrorFrame p 1 f.cls f.data f.wireLen s
  let s := chkFrame 1 p false f.cls f.wire s
  let s := s.updMac p (fun k => { k with sending := some f.no })
  s.send (.frame p f.wire)

/-- Whether a frame in transmission may be cut after `sent` data octets (R429). -/
def cutPoint (k : Mac) (f : SwFrame) (sent : Nat) : Bool :=
  decide (64 * (1 + k.addFrag) ≤ sent + 4) && decide (64 ≤ f.wireLen - sent)

/-- The preemptable frame a port sends, when it can be preempted now (R429). -/
def State.cuttable (s : State) (p sent : Nat) : Bool :=
  let k := s.mac p
  match k.sending with
  | none => false
  | some no =>
    match s.switch.frames.find? (fun f => f.no == no) with
    | none => false
    | some f => k.preemptable f.cls && cutPoint k f sent

/-- A transmission opportunity of an external port; `sent` is how many octets of the frame in transmission have left
(R429, R432, R435). -/
def transmit (p sent : Nat) (s : State) : State :=
  let s := dropUnsendable p s
  let k := s.mac p
  if !k.en || !k.link || k.holdState ≠ 0 || !s.macUsable p then s
  else match k.sending with
    | some no =>
      -- preemption by an express frame that is ready, or by a hold
      let ready := match s.nextClass p with
        | some c => bitAt k.express c
        | none => false
      if k.preempt == 2 && (ready || k.holding) && s.cuttable p sent then
        let s := s.setMac p ({ k with sending := none, preempted := some no }.count 17 1)
        match s.nextClass p with
        | some c => match s.headFrame p c with
          | some f => startFrame p f s
          | none => s
        | none => s
      else s
    | none =>
      match s.nextClass p with
      | some c =>
        match s.headFrame p c with
        | some f => startFrame p f s
        | none => s
      | none =>
        match k.preempted with
        | some no => if k.holding then s else s.setMac p { k with sending := some no, preempted := none }
        | none => s

/-- A frame for the Sheaf or the fabric bridge is handed over whole. -/
def handOver (p : Nat) (s : State) : State :=
  match ((List.range 8).map (fun i => 7 - i)).findSome? (fun c => s.headFrame p c) with
  | none => s
  | some f =>
    let s := if p = 28 then { s with switch := { s.switch with toSheaf := s.switch.toSheaf ++ [f.data] } }
             else s.send (.bridge f.data)
    portDone f.no p (mirrorFrame p 1 f.cls f.data f.wireLen s)

/-- FRAME_TRANSMIT_START: an egress port starts the head frame of the highest eligible class (R435). -/
def execFrameTransmitStart (p sent : Nat) (s : State) : Result :=
  if p < 12 then .next (transmit p sent s)
  else if p = 28 ∨ p = 29 then .next (handOver p s)
  else if p < 28 then .next s
  else .fault (.noSuchUnit p)

/-- The margin between a cyclic frame's deadline and its end, for the load record (R43). -/
def marginAt (f : SwFrame) (p : Nat) (s : State) : State :=
  match f.deadline, if 12 ≤ f.ingress ∧ f.ingress < 28 then s.netOf (f.ingress - 12) p else none with
  | some d, some n =>
    let m := toS 32 (d + 2 ^ 32 - wrap 32 s.gtc)
    let r := s.cell.load
    if m < r.txMargin ∨ (m = r.txMargin ∧ n < r.txNet) then { s with cell := { s.cell with load := { r with txMargin := m, txNet := n } } } else s
  | _, _ => s

/-- The frame a port sends has left: it counts, and its cells free after the last port (R439, R446). -/
def endFrame (p : Nat) (s : State) : State :=
  match (s.mac p).sending with
  | none => s
  | some no =>
    match s.switch.frames.find? (fun f => f.no == no) with
    | none => s.updMac p (fun k => { k with sending := none })
    | some f =>
      let da := octets f.data 0 6
      let s := s.updMac p (fun k =>
        let k := { (k.count 12 1).count 13 f.wireLen with sending := none }
        if da.all (fun b => b == 0xFF) then k.count 15 1 else if bitAt (ofLE (da.take 1)) 0 then k.count 14 1 else k)
      portDone no p (marginAt f p s)

/-- FRAME_TRANSMIT_END: a frame completes at a port and its cells free after the last port (R439). -/
def execFrameTransmitEnd (p : Nat) (s : State) : Result := onUnit p 12 (endFrame p s)

/-- Frames of a port whose deadline has passed before they started are withdrawn from it (R438). -/
def withdraw (p : Nat) (s : State) : State :=
  s.switch.frames.foldl (fun s f =>
    if bitAt f.ports p && !bitAt f.started p && pastDeadline s.gtc f.deadline then
      portDone f.no p (missedAt f p (s.macCount p 19))
    else s) s

/-- DEADLINE_WITHDRAW: a frame not started by its deadline is withdrawn and counted (R438). -/
def execDeadlineWithdraw (p : Nat) (s : State) : Result := onUnit p 30 (withdraw p s)

/-! ### Rings (R434, R437, R451) -/

/-- Where an address that an image names lies in the pool: its live data half, or a pool bank. -/
def lathePool (e live a : Nat) : Option Nat :=
  if 0x10000000 ≤ a ∧ a < 0x10040000 then some (dataHalf e live + (a - 0x10000000))
  else if 0x60000000 ≤ a ∧ a < 0x62000000 then some (a - 0x60000000)
  else none

/-- A descriptor is skipped and counted in RING_FAULT (R451). -/
def skipTx (e : Nat) (s : State) : State :=
  s.updSwRing e (fun r => { r with ringFault := satAdd 255 r.ringFault 1, txTail := (r.txTail + 1) % 64 })

/-- Cells free for an internal frame (R434). -/
def State.poolHas (s : State) (shared : Nat) : Bool :=
  decide (shared = 0) || decide (s.headSum + shared < s.switch.sharedFree)

/-- The switch takes the descriptor at TAIL once credits and cells allow (R434, R451). -/
def takeDescriptor (e : Nat) (s : State) : State :=
  let r := s.swRing e
  let l := s.lathe e
  if r.txHead = r.txTail then s
  else
    let d := s.memGet (dataHalf e l.live + (r.txBase + r.txTail) * 16) 16
    let addr := uAt d 0 4
    let len := uAt d 4 2
    let ctl := uAt d 6 1
    let dest := field (uAt d 8 4) 0 30
    if len < 14 ∨ 9212 < len ∨ dest = 0 ∨ bitAt dest (12 + e) then skipTx e s
    else match lathePool e l.live addr with
      | none => skipTx e s
      | some ofs =>
        let lf := max 64 (len + 4)
        let n := cellsOf lf
        let cls := field ctl 0 3
        let resv := s.switch.fromResv cls n
        let shared := n - resv
        if !s.poolOk (0x10 + e) ofs len then skipTx e (s.poolRefuse (0x10 + e) ofs len)
        else if r.credits < n ∨ !s.poolHas shared then s
        else
          let x := s.poolRead (0x10 + e) ofs len
          match x.2 with
          | .ok octs =>
            let s := x.1.updSwRing e (fun r => { r with credits := r.credits - n, txTail := (r.txTail + 1) % 64 })
            let s := mirrorFrame (12 + e) 0 cls octs lf s
            let s := chkFrame 0 (12 + e) false cls octs s
            let s := { s with switch := s.switch.draw cls resv shared }
            enqueue { data := octs, len := len + 4, cls := cls, ports := dest, ingress := 12 + e
                      deadline := if bitAt ctl 3 then some (uAt d 12 4) else none, tsInsert := bitAt ctl 4
                      resv := resv, shared := shared, credits := n } s
          | _ => skipTx e x.1

/-- TX_DESCRIPTOR_TAKE: the switch takes a waiting ring descriptor once credits and cells allow (R434). -/
def execTxDescriptorTake (e : Nat) (s : State) : Result := onUnit e 16 (takeDescriptor e s)

/-- A frame of the Sheaf or of the fabric bridge enters the switch when its credits and cells allow (R434). -/
def storeInternal (src : Nat) (octs : List Byte) (cls mask : Nat) (s : State) : Option State :=
  let lf := max 64 (octs.length + 4)
  let n := cellsOf lf
  let resv := s.switch.fromResv cls n
  let have_ := if src = 28 then s.switch.sheafCredits else s.switch.bridgeCredits
  if have_ < n ∨ !s.poolHas (n - resv) then none
  else
    let w := s.switch.draw cls resv (n - resv)
    let w := if src = 28 then { w with sheafCredits := w.sheafCredits - n } else { w with bridgeCredits := w.bridgeCredits - n }
    some (enqueue { data := octs, len := octs.length + 4, cls := cls, ports := mask, ingress := src
                    resv := resv, shared := n - resv, credits := n } (mirrorFrame src 0 cls octs lf { s with switch := w }))

/-- A frame for a Lathe goes into the next posted buffer, truncated to its SIZE, and a receive entry is requested (R437). -/
def deliver (e : Nat) (s : State) : State :=
  let r := s.swRing e
  let l := s.lathe e
  match ((List.range 8).map (fun i => 7 - i)).findSome? (fun c => s.headFrame (12 + e) c) with
  | none => s
  | some f =>
    if r.rxHead = r.rxTail then s
    else
      let at0 := dataHalf e l.live + (r.rxBase + r.rxTail) * 16
      let d := s.memGet at0 16
      let addr := uAt d 0 4
      let size := uAt d 4 2
      let next := (r.rxTail + 1) % 64
      if addr < 0x10000000 ∨ 0x10040000 < addr + size ∨ size < 64 then
        s.setSwRing e { r with ringFault := satAdd 255 r.ringFault 1, rxTail := next }
      else
        let part := f.data.take size
        let cut := decide (size < f.data.length)
        let s := s.memPut (dataHalf e l.live + (addr - 0x10000000)) part
        let s := s.memPut (at0 + 6) (toLE 2 part.length ++ toLE 4 (wrap 32 f.stamp) ++ toLE 1 f.ingress ++
          toLE 1 (f.cls + bitIf 3 cut) ++ toLE 2 0)
        let s := s.setSwRing e { r with rxTail := next, rxTrunc := if cut then satAdd 255 r.rxTrunc 1 else r.rxTrunc }
        let s := mirrorFrame (12 + e) 1 f.cls f.data f.len s
        let s := chkFrame 1 (12 + e) false f.cls f.data s
        let s := s.requestEntry e f.stamp f.ingress (0x10000000 + (r.rxBase + r.rxTail) * 16)
        portDone f.no (12 + e) s

/-- RX_RING_DELIVER: a frame for an internal egress is written into the next posted buffer (R437). -/
def execRxRingDeliver (e : Nat) (s : State) : Result := onUnit e 16 (deliver e s)

/-- A write of SW_TXR_IDX: a HEAD that would equal TAIL is ignored and counted (R451); frames handed over are counted. -/
def txrIdxWrite (e w : Nat) (s : State) : State :=
  let r := s.swRing e
  let h := field w 0 6
  if h = r.txTail then s.setSwRing e { r with ringFault := satAdd 255 r.ringFault 1 }
  else (s.setSwRing e { r with txHead := h }).updLathe e (fun l => { l with txFrames := wrap 32 (l.txFrames + (h + 64 - r.txHead) % 64) })

/-- SW_TXR_IDX_WRITE: a Lathe advances its transmit ring HEAD (R451). -/
def execSwTxrIdxWrite (e : Nat) (w : Word) (s : State) : Result := onUnit e 16 (txrIdxWrite e w.toNat s)

/-- A write of SW_RXR_IDX (R451). -/
def rxrIdxWrite (e w : Nat) (s : State) : State :=
  let r := s.swRing e
  let h := field w 0 6
  if h = r.rxTail then s.setSwRing e { r with ringFault := satAdd 255 r.ringFault 1 } else s.setSwRing e { r with rxHead := h }

/-- SW_RXR_IDX_WRITE: a Lathe posts receive buffers by advancing HEAD (R451). -/
def execSwRxrIdxWrite (e : Nat) (w : Word) (s : State) : Result := onUnit e 16 (rxrIdxWrite e w.toNat s)

/-- A read of SW_TXR_CRED clears RING_FAULT (R451). -/
def txrCredRead (e : Nat) (s : State) : State :=
  let r := s.swRing e
  (s.setSwRing e { r with ringFault := 0 }).returns (r.credits + 16777216 * r.ringFault)

/-- SW_TXR_CRED_READ: a Lathe reads SW_TXR_CRED, which clears the RC field RING_FAULT (R451). -/
def execSwTxrCredRead (e : Nat) (s : State) : Result := onUnit e 16 (txrCredRead e s)

/-- A read of SW_RXR_IDX clears RX_TRUNC (R437). -/
def rxrIdxRead (e : Nat) (s : State) : State :=
  let r := s.swRing e
  (s.setSwRing e { r with rxTrunc := 0 }).returns (r.rxHead + 256 * r.rxTail + 65536 * r.rxTrunc)

/-- SW_RXR_IDX_READ: a Lathe reads SW_RXR_IDX, which clears the RC field RX_TRUNC (R437). -/
def execSwRxrIdxRead (e : Nat) (s : State) : Result := onUnit e 16 (rxrIdxRead e s)

/-! ### Links (R440, R441, R428) -/

/-- LINK_CHANGED of a port (R440). -/
def linkChanged (p : Nat) (up : Bool) (s : State) : State :=
  s.event 0 0x8701 (0x3000 + p) (toLE 1 (if up then 1 else 0) ++ toLE 4 (wrap 32 (Table.get 0 (s.mac p).counters 23)))

/-- Every frame queued for a port and not started is flushed (R440). -/
def flushPort (p : Nat) (s : State) : State :=
  s.switch.frames.foldl (fun s f =>
    if bitAt f.ports p && !bitAt f.started p then portDone f.no p (s.macCount p 20) else s) s

/-- The link of a port goes down: the frame in transmission is cut off, the port enters its hold window, or flushes at
once without one (R440). -/
def linkDown (p : Nat) (s : State) : State :=
  let k := s.mac p
  if !k.link then s
  else
    let cut (no : Option Nat) (s : State) : State :=
      match no with
      | none => s
      | some n =>
        let c := ((s.switch.frames.find? (fun f => f.no == n)).map (·.cls)).getD 0
        portDone n p (chkCut 1 p false c (s.macCount p 22))
    let s := cut k.preempted (cut k.sending s)
    let s := s.updMac p (fun k =>
      { k with link := false, sending := none, preempted := none, reasm := none, preempt := if k.preemptEn then 1 else 0
               verifyTries := 0, paused := 0, holdState := if k.hold = 0 then 2 else 1 }.count 23 1)
    let s := if k.hold = 0 then flushPort p s else s
    linkChanged p false s

/-- LINK_DOWN: an Ethernet link goes down and the port enters DOWN_HOLD (R440). -/
def execLinkDown (p : Nat) (s : State) : Result := onUnit p 12 (linkDown p s)

/-- The link of a port comes up at a speed; half duplex counts as down (R420, R441). Preemption starts its verification, or
is active at once with VERIFY_DIS (R428). -/
def linkUp (p speed : Nat) (full : Bool) (s : State) : State :=
  let k := s.mac p
  if !full then linkDown p s
  else if k.link then s.setMac p { k with speed := wrap 2 speed }
  else
    let s := s.setMac p { k with link := true, speed := wrap 2 speed, holdState := 0, verifyTries := 0
                                 preempt := if !k.preemptEn then 0 else if k.verifyDis then 2 else 1 }
    linkChanged p true s

/-- LINK_UP: an Ethernet link comes up and queued frames are sent (R441). -/
def execLinkUp (p speed : Nat) (full : Bool) (s : State) : Result := onUnit p 12 (linkUp p speed full s)

/-- HOLD_EXPIRY: the hold window passes and the port's queue is flushed (R440). -/
def execHoldExpiry (p : Nat) (s : State) : Result :=
  let k := s.mac p
  onUnit p 12 (if k.holdState = 1 then flushPort p (s.setMac p { k with holdState := 2 }) else s)

/-- A step of the verification of IEEE 802.3br (R428). -/
def verifyStep (p : Nat) (what : VerifyStep) (s : State) : State :=
  let k := s.mac p
  if !k.link then s
  else match what with
    | .asked => s.send (.mpacket p 2)
    | .response => if k.preempt = 1 ∧ 0 < k.verifyTries then s.setMac p { k with preempt := 2 } else s
    | .attempt =>
      if k.preempt ≠ 1 then s
      else if k.verifyTries < 3 then (s.setMac p { k with verifyTries := k.verifyTries + 1 }).send (.mpacket p 1)
      else s.setMac p { k with preempt := 3 }

/-- PREEMPT_VERIFY: a verify packet attempt of IEEE 802.3br is made or judged (R428). -/
def execPreemptVerify (p : Nat) (what : VerifyStep) (s : State) : Result := onUnit p 12 (verifyStep p what s)

/-! ### Audit (R444, R584) -/

/-- An audit: `leaked` are the cells found neither free nor held, `twice` those both free and held, and `freed` the doubly
held cells whose holder has freed them since. A cell leaked in two consecutive audits returns to the free list. -/
def audit (leaked twice freed : List Nat) (s : State) : State :=
  let w := s.switch
  let back := leaked.filter (fun c => w.suspects.contains c)
  let new := leaked.filter (fun c => !w.suspects.contains c)
  let cleared := w.suspects.filter (fun c => !leaked.contains c)
  let retire := freed.filter (fun c => w.doubled.contains c)
  let s := { s with switch := { w with
    audits := wrap 16 (w.audits + 1), leaks := satAdd 255 w.leaks back.length, doubles := satAdd 255 w.doubles twice.length
    sharedFree := w.sharedFree + back.length + cleared.length - new.length - twice.length
    suspects := new, doubled := w.doubled.filter (fun c => !retire.contains c) ++ twice } }
  let s := { s with wnw := { s.wnw with retired := s.wnw.retired ++ retire } }
  let s := if back.isEmpty && twice.isEmpty then s else s.memoryRecord 0 4 1 back.length twice.length
  if 256 < s.wnw.retired.length then s.doom 64 4 else s

/-- BUFFER_AUDIT: the switch audits every cell for leaks and double holds (R444). -/
def execBufferAudit (leaked twice freed : List Nat) (s : State) : Result := .next (audit leaked twice freed s)

/-- Reads and clears the LEAKS and DOUBLES counts (R444). -/
def swAuditRead (s : State) : State :=
  let w := s.switch
  { s with switch := { w with leaks := 0, doubles := 0 } }.returns (w.audits + 65536 * w.leaks + 16777216 * w.doubles)

/-- SW_AUDIT_READ: reads and clears the LEAKS and DOUBLES counts (R444). -/
def execSwAuditRead (s : State) : Result := .next (swAuditRead s)

/-! ### Snapshots and MAC registers (R445, R450) -/

/-- A snapshot of a port's counters with the GTC (R445). -/
def State.snapshot (s : State) (p : Nat) : Nat × Table Nat := (s.gtc, (s.mac p).counters)

/-- A write of MAC_SNAP by the Lathe that holds the port (R445, R450). -/
def macSnapWrite (m n w : Nat) (s : State) : State :=
  let k := s.mac n
  if k.owner = some (m - 0x10) ∧ 0x10 ≤ m ∧ bitAt w 0 then
    s.setMac n { k with snap1 := s.snapshot n, taken := wrap 16 (k.taken + 1) }
  else s

/-- MAC_SNAP_WRITE: takes a snapshot of a port's counters into bank 1 (R445). -/
def execMacSnapWrite (m n : Nat) (w : Word) (s : State) : Result := onUnit n 12 (macSnapWrite m n w.toNat s)

/-- A read of a compatibility counter clears it (R448). -/
def nrwRead (n j : Nat) (s : State) : State :=
  let k := s.mac n
  (s.setMac n { k with nrw := Table.set 0 k.nrw j 0 }).returns (Table.get 0 k.nrw j)

/-- NRW_COUNTER_READ: reads and clears a compatibility counter (R448). -/
def execNrwCounterRead (n j : Nat) (s : State) : Result := onUnit n 12 (if j < 16 then nrwRead n j s else s.returns 0)

/-- A counter word of a snapshot bank at an offset within the bank. -/
def snapWord (b : Nat × Table Nat) (ofs : Nat) : Nat :=
  let half (v : Nat) (hi : Bool) : Nat := if hi then v / 2 ^ 32 else wrap 32 v
  if ofs < 8 then half b.1 (decide (4 ≤ ofs))
  else if 0x10 ≤ ofs ∧ ofs < 0x10 + 25 * 8 then half (Table.get 0 b.2 ((ofs - 0x10) / 8)) (decide (4 ≤ (ofs - 0x10) % 8))
  else 0

/-- The word of MAC_STATUS. -/
def Mac.status (k : Mac) : Nat :=
  bitIf 0 k.link + 2 * k.speed + 8 * k.holdState + 32 * k.preempt + 256 * k.xoffSent + 65536 * k.paused

/-- A register of a MAC by its offset, apart from the compatibility window (R450). -/
def Mac.word (k : Mac) (ofs : Nat) : Nat :=
  match ofs with
  | 0x000 => bitIf 0 k.en + bitIf 1 k.promisc + bitIf 2 k.pauseRx + bitIf 3 k.hairpin + bitIf 4 k.sgmii + 64 * k.maxLen + 2 ^ 20 * k.hold
  | 0x004 => k.status
  | 0x008 => k.pcpMap + 2 ^ 24 * k.defTc
  | 0x00C => k.xoff + 4096 * k.xon
  | 0x010 => k.pfcTx + 256 * k.pfcRx + 65536 * k.headroom
  | 0x014 => k.express + bitIf 8 k.preemptEn + 512 * k.addFrag + bitIf 11 k.verifyDis + 4096 * k.verifyMs
  | 0x018 => k.rxLat + 65536 * k.txLat
  | 0x01C => k.defDest
  | 0x200 => 65536 * k.taken
  | _ =>
    if 0x040 ≤ ofs ∧ ofs < 0x0C0 then
      let f := Table.get ({} : MacFilter) k.filters ((ofs - 0x40) / 16)
      match (ofs - 0x40) % 16 with
      | 0 => wrap 32 f.addr
      | 4 => f.addr / 2 ^ 32 + bitIf 16 f.en + 2 ^ 17 * f.tcOvr + bitIf 20 f.tcOvrEn
      | 8 => f.dest
      | _ => 0
    else if 0x400 ≤ ofs ∧ ofs < 0x600 then snapWord k.snap0 (ofs - 0x400)
    else if 0x600 ≤ ofs ∧ ofs < 0x800 then snapWord k.snap1 (ofs - 0x600)
    else 0

/-- The configuration words of NET.PORT_CONFIG in their order: MAC_CTRL to MAC_DEF_DEST, then eight filter entries of three
words (R450). -/
def Mac.configure (k : Mac) (ws : List Nat) : Mac :=
  let w (i : Nat) : Nat := (ws[i]?).getD 0
  let fs := (List.range 8).foldl (fun t i =>
    let lo := w (7 + 3 * i)
    let hi := w (8 + 3 * i)
    Table.set ({} : MacFilter) t i { addr := lo + 2 ^ 32 * field hi 0 16, en := bitAt hi 16, tcOvr := field hi 17 3
                                     tcOvrEn := bitAt hi 20, dest := field (w (9 + 3 * i)) 0 30 }) k.filters
  { k with
    en := bitAt (w 0) 0, promisc := bitAt (w 0) 1, pauseRx := bitAt (w 0) 2, hairpin := bitAt (w 0) 3, sgmii := bitAt (w 0) 4
    maxLen := field (w 0) 6 14, hold := field (w 0) 20 10, pcpMap := field (w 1) 0 24, defTc := field (w 1) 24 3
    xoff := field (w 2) 0 12, xon := field (w 2) 12 12, pfcTx := field (w 3) 0 8, pfcRx := field (w 3) 8 8
    headroom := field (w 3) 16 12, express := field (w 4) 0 8, preemptEn := bitAt (w 4) 8, addFrag := field (w 4) 9 2
    verifyDis := bitAt (w 4) 11, verifyMs := field (w 4) 12 7, rxLat := field (w 5) 0 16, txLat := field (w 5) 16 16
    defDest := field (w 6) 0 30, filters := fs
    preempt := if !bitAt (w 4) 8 then 0 else if bitAt (w 4) 11 then 2 else if k.preemptEn then k.preempt else 1
    verifyTries := if k.preemptEn then k.verifyTries else 0 }

end Sys2Proof.Machine
end

