-- ==== Sys2Proof/Machine/Nets.lean ====
section
/-! DEFINITION. Field networks (R466 to R474) and the NET commands (R352, R431, R442, R445, R447, R450, R465). -/

namespace Sys2Proof.Machine

/-! ### Grants and reservations (R356, R403, R404, R433, R466) -/

/-- The ports of a network. -/
def Network.ports (n : Network) : List Nat := [n.portA, n.portB].filter (· != 0xFF)

/-- Cells that the defined networks declare for a class, by a choice of networks: twice those of a tick (R433). -/
def resvOf (ns : List Network) (c : Nat) : Nat :=
  2 * (ns.map (fun n => Config.netCells n.params c)).foldl (· + ·) 0 + (if c = 7 then Config.glumeCells else 0)

/-- The Sheaf sets the reservations of the scheduled classes to what the started networks declare (R433); the shared pool is the rest. -/
def setResv (s : State) : State :=
  let ns := ((s.nets.filter (fun p => p.2.defined && p.2.started)).map Prod.snd)
  let new (c : Nat) : Nat := resvOf ns c
  let old := (Table.get 0 s.switch.resv 5) + (Table.get 0 s.switch.resv 6) + (Table.get 0 s.switch.resv 7)
  { s with switch := { s.switch with
      resv := [5, 6, 7].foldl (fun t c => Table.set 0 t c (new c)) s.switch.resv, sharedFree := s.switch.sharedFree + old - (new 5 + new 6 + new 7) } }

/-- Pins that no Chisel group may be granted besides those of other groups (R404): switches and DRV_EN outputs. -/
def State.takenPins (s : State) (g : Nat) : Nat :=
  let own := (List.range 128).foldl (fun m p => if s.switchPin p || s.motion.axes.any (fun q => q.2.dd.drvEnPin == p) then setBit m p else m) 0
  (List.range 8).foldl (fun m k => if k = g then m else m ||| (s.chisel k).grant) own

/-- What a network holds passes to its engine (R356, R403, R404), with the pins its parameters ask for that are free. -/
def grantNet (n : Network) (s : State) : State :=
  let e := some n.engine
  let s := n.ports.foldl (fun s p => s.updMac p (fun k => { k with owner := e })) s
  let s := if n.can = 0xFF then s else s.updCan n.can (fun k => { k with owner := e })
  let s := ((List.range 8).filter (bitAt n.groups)).foldl (fun s g =>
    s.updChisel g (fun k => { k with owner := e, grant := (Config.netPins n.params g % 2 ^ 128) &&& (2 ^ 128 - 1 - s.takenPins g % 2 ^ 128) })) s
  ((List.range 16).filter (bitAt (Config.netUnits n.params))).foldl (fun s u => s.updChkUnit u (fun k => { k with lathe := e })) s

/-- What a network held is given back. -/
def releaseNet (n : Network) (s : State) : State :=
  let s := n.ports.foldl (fun s p => s.updMac p (fun k => { k with owner := none })) s
  let s := if n.can = 0xFF then s else s.updCan n.can (fun k => { k with owner := none })
  let s := ((List.range 8).filter (bitAt n.groups)).foldl (fun s g => s.updChisel g (fun k => { k with owner := none, grant := 0 })) s
  ((List.range 16).filter (bitAt (Config.netUnits n.params))).foldl (fun s u => s.updChkUnit u (fun k => { k with lathe := none })) s

/-- The first slots of an engine's networks, in ascending order of network (R468). -/
def placeSlots (e : Nat) (s : State) : State :=
  ((s.engineNets e).foldl (fun (acc : State × Nat × Nat) n =>
    let k := acc.1.net n
    (acc.1.setNet n { k with outFirst := acc.2.1, inFirst := acc.2.2 }, acc.2.1 + k.outs.length, acc.2.2 + k.ins.length)) (s, 0, 0)).1

/-! ### NET.DEFINE (R466, R467) -/

/-- A slot entry of the arguments (R466). -/
def slotEntry (a : List Byte) (i : Nat) : NetSlot :=
  let o := 29 + 8 * i
  { ofs := uAt a o 2, len := uAt a (o + 2) 1, order := uAt a (o + 3) 1, format := uAt a (o + 4) 1 }

/-- The network that the arguments of NET.DEFINE describe. -/
def netOf (a : List Byte) : Network :=
  let no := uAt a 21 2
  let ni := uAt a 23 2
  { defined := true, engine := uAt a 5 1, image := uAt a 6 1, cycleDiv := uAt a 7 1, cyclePhase := uAt a 8 1, portA := uAt a 9 1, portB := uAt a 10 1
    can := uAt a 11 1, groups := uAt a 12 1, tb := uAt a 13 1, deadlineNs := uAt a 17 4, outs := (List.range no).map (slotEntry a)
    ins := (List.range ni).map (fun i => slotEntry a (no + i)), params := octets a (29 + 8 * (no + ni)) (uAt a 25 2) }

/-- The fastest cycle of an image in ns (R471); a customer image has none. -/
def fastest (id : Nat) : Nat :=
  match id with
  | 3 => 500000
  | 4 => 125000
  | 6 => 62500
  | 7 => 1000000
  | 8 => 1000000
  | 9 => 500000
  | 10 => 1000000
  | 11 => 125000
  | _ => if id < 13 then 31250 else 0

/-- The axes bound to network n, as a drive of it or through a direct-drive command (R303). -/
def State.boundTo (s : State) (n : Nat) : List Nat :=
  (s.motion.axes.filter (fun p => match p.2.binding with
    | .net m _ _ => m == n
    | .dd _ m _ => m == n
    | _ => false)).map Prod.fst

/-- What is wrong with the fields of NET.DEFINE (R466). -/
def netFieldTests (a : List Byte) (s : State) : List Test :=
  let no := uAt a 21 2
  let ni := uAt a 23 2
  let slot (i : Nat) : List Test :=
    let o := 29 + 8 * i
    let x := slotEntry a i
    [badAt (o + 2) (decide (x.len < 1) || decide (64 < x.len)), badAt (o + 3) (decide (1 < x.order)), badAt (o + 4) (decide (3 < x.format)), badZeros a (o + 5) 3]
  [badAt 5 (decide (15 < uAt a 5 1)), badAt 6 (decide (23 < uAt a 6 1)), badAt 7 (!([1, 2, 4, 8, 16].contains (uAt a 7 1))), badAt 8 (decide (uAt a 7 1 ≤ uAt a 8 1)),
   badAt 9 (decide (11 < uAt a 9 1) && uAt a 9 1 != 0xFF), badAt 10 ((decide (11 < uAt a 10 1) && uAt a 10 1 != 0xFF) || (uAt a 10 1 != 0xFF && uAt a 10 1 == uAt a 9 1)),
   badAt 11 (decide (3 < uAt a 11 1) && uAt a 11 1 != 0xFF), badAt 13 (uAt a 13 1 != 0xFF && (uAt a 13 1 == 0 || decide (6 < uAt a 13 1))), badZeros a 14 3,
   badAt 17 (decide (uAt a 17 4 < sealOfs s.cell.tickSel) || decide (guardOfs s.cell.tickSel < uAt a 17 4)), badAt 21 (decide (128 < no)), badAt 23 (decide (128 < ni)),
   badAt 25 (decide (768 < uAt a 25 2)), badZeros a 27 2] ++ (List.range (min 256 (no + ni))).flatMap slot

/-- Why a network's image does not suit it (R467): it is none of the twelve, lacks a capability, or its cycle is too fast. -/
def imageUnfit (k : Network) (s : State) : Bool :=
  let i := s.stored k.image
  let issuer := i.id / 65536
  let no := i.id % 65536
  (s.image k.image).active == 0 || (issuer == 0 && (no == 0 || decide (12 < no))) || (k.ports != [] && !bitAt i.caps 0) || (k.can != 0xFF && !bitAt i.caps 1) ||
    (k.groups != 0 && !bitAt i.caps 2) || (k.tb != 0xFF && !bitAt i.caps 5) || decide (s.tickLen * k.cycleDiv < fastest i.id)

/-- The sum of a list. -/
def natSum (xs : List Nat) : Nat := xs.foldl (· + ·) 0

/-- Whether a network would take what another holds (R467, R474): its ports, controller, groups, check units or time base, or the engine
for another image or a fifth network. -/
def State.netConflict (s : State) (n : Nat) (k : Network) : Bool :=
  let others := (s.nets.filter (fun p => p.1 != n && p.2.defined)).map Prod.snd
  let mates := others.filter (fun m => m.engine == k.engine)
  others.any (fun m => k.ports.any (fun p => m.ports.contains p) || (k.can != 0xFF && m.can == k.can) || (k.groups &&& m.groups) != 0 || (k.tb != 0xFF && m.tb == k.tb)) ||
    others.any (fun m => m.engine != k.engine && (Config.netUnits k.params &&& Config.netUnits m.params) % 65536 != 0) ||
    mates.any (fun m => m.image != k.image) || decide (4 ≤ mates.length) ||
    decide (128 < natSum ((k :: mates).map (fun m => m.outs.length))) || decide (128 < natSum ((k :: mates).map (fun m => m.ins.length)))

/-- Whether a network does not fit (R28, R361, R368, R433). -/
def State.netTight (s : State) (n : Nat) (k : Network) : Bool :=
  let t := s.setNet n k
  let all := ((t.nets.filter (fun p => p.2.defined)).map Prod.snd)
  decide (k.deadlineNs < sealOfs s.cell.tickSel + Config.txNs k.params) || !s.canReserve k.engine (s.stored k.image).ctxMax || !t.cyclesFit k.engine (s.stored k.image).cycTx ||
    decide (4096 < resvOf all 5 + resvOf all 6 + resvOf all 7)

/-- The network is defined, or deleted; its grants pass and its engine's block is written (R355, R361, R466, R468). -/
def defineNet (n : Nat) (k : Network) (s : State) : State :=
  let old := s.net n
  let s := if old.defined then releaseNet old s else s
  let s := s.setNet n (if k.defined then { k with missed := old.missed } else {})
  let s := if k.defined then reserveCtxs k.engine (max (s.lathe k.engine).ctxs.length (s.stored k.image).ctxMax) (grantNet k s) else s
  let s := placeSlots k.engine s
  let s := if old.defined && old.engine != k.engine then syncEnv old.engine (placeSlots old.engine s) else s
  syncEnv k.engine s

/-- NET.DEFINE (R466, R467). -/
def runNetDefine (h : Hdr) (a : List Byte) (s : State) : State × Reply :=
  let n := uAt a 0 2
  let en := uAt a 4 1
  let k := if en = 1 then netOf a else { engine := (s.net n).engine }
  let axes := s.boundTo n
  let fields := if en = 1 then netFieldTests a s else []
  tested s ([badLen a (29 + 8 * (uAt a 21 2 + uAt a 23 2) + uAt a 25 2), badSubject a 0 32, badAt 4 (decide (1 < en))] ++ fields ++
      [shadowed h s, cfgCell s, badState ((s.net n).started || axes.any (fun x => (s.axis x).mode != 0)), (en == 1 && imageUnfit k s, St.badParam, 38),
       (en == 1 && s.netConflict n k, St.bindConflict, 0), (en == 1 && s.netTight n k, St.budgetExceeded, 0)])
    (okReply (defineNet n k s))

/-- NET_DEFINE: defines or deletes a field network (R466). -/
def execNetDefine (h : Hdr) (a : List Byte) (s : State) : Result := commitHost 0x0702 runNetDefine h a s

/-! ### Start, stop and status (R352, R361, R370) -/

/-- A network starts (R370, R433). An engine whose reservation NET.STOP freed reserves afresh (R361). -/
def startNet (n : Nat) (s : State) : State :=
  let k := s.net n
  let need := (s.stored k.image).ctxMax
  let s := if (s.lathe k.engine).ctxs.length < need then syncEnv k.engine (reserveCtxs k.engine need s) else s
  setResv (s.updNet n (fun k => { k with started := true }))

/-- A network stops; with the last of its engine the reservation is freed (R361). -/
def stopNet (n : Nat) (s : State) : State :=
  let e := (s.net n).engine
  let s := setResv (s.updNet n (fun k => { k with started := false }))
  if (s.engineNets e).any (fun m => (s.net m).started) then s else syncEnv e (reserveCtxs e 0 s)

/-- NET.START (R352, R370). -/
def runNetStart (h : Hdr) (a : List Byte) (s : State) : State × Reply :=
  let n := uAt a 0 2
  let k := s.net n
  tested s [badLen a 4, badSubject a 0 32, shadowed h s, liveCell s, badState !k.defined,
      (!s.canReserve k.engine (s.stored k.image).ctxMax, St.budgetExceeded, 0)] (okReply (startNet n s))

/-- NET_START: starts a network (R370). -/
def execNetStart (h : Hdr) (a : List Byte) (s : State) : Result := commitHost 0x0703 runNetStart h a s

/-- NET.STOP (R352, R361). -/
def runNetStop (h : Hdr) (a : List Byte) (s : State) : State × Reply :=
  let n := uAt a 0 2
  tested s [badLen a 4, badSubject a 0 32, shadowed h s, liveCell s, badState (!(s.net n).started || (s.boundTo n).any (fun x => (s.axis x).mode != 0))]
    (okReply (stopNet n s))

/-- NET_STOP: stops a network (R361). -/
def execNetStop (h : Hdr) (a : List Byte) (s : State) : Result := commitHost 0x0704 runNetStop h a s

/-- NET.STATUS; its layout is the model's own (log entry 61). -/
def runNetStatus (_ : Hdr) (a : List Byte) (s : State) : State × Reply :=
  let k := s.net (uAt a 0 2)
  tested s [badLen a 4, badSubject a 0 32, liveCell s]
    (dataReply s (toLE 1 (bitIf 0 k.defined) ++ toLE 1 (bitIf 0 k.started) ++ toLE 1 k.engine ++ toLE 1 k.image ++ toLE 4 k.missed))

/-- NET_STATUS: returns a network's status (R352). -/
def execNetStatus (h : Hdr) (a : List Byte) (s : State) : Result := commitHost 0x0705 runNetStatus h a s

/-- NET.SNAPSHOT (R445): bank 0 with the edge GTC. -/
def runNetSnapshot (h : Hdr) (a : List Byte) (s : State) : State × Reply :=
  let p := uAt a 0 2
  tested s [badLen a 4, badSubject a 0 12, shadowed h s, liveCell s] (okReply (s.updMac p (fun k => { k with snap0 := (s.cell.edge, k.counters) })))

/-- NET_SNAPSHOT: freezes a port's native counters at the commit edge (R445). -/
def execNetSnapshot (h : Hdr) (a : List Byte) (s : State) : Result := commitHost 0x0706 runNetSnapshot h a s

/-- NET.STATS (R447): reading the compatibility window clears it. -/
def runNetStats (_ : Hdr) (a : List Byte) (s : State) : State × Reply :=
  let p := uAt a 0 2
  let w := uAt a 4 1
  let k := s.mac p
  tested s [badLen a 8, badSubject a 0 12, badAt 4 (decide (1 < w)), badZeros a 5 3, liveCell s]
    (if w = 0 then dataReply s (toLE 8 k.snap0.1 ++ (List.range 25).flatMap (fun i => toLE 8 (Table.get 0 k.snap0.2 i)))
     else dataReply (s.setMac p { k with nrw := [] }) ((List.range 16).flatMap (fun i => toLE 4 (Table.get 0 k.nrw i))))

/-- NET_STATS: reads the last snapshot or the compatibility window (R447). -/
def execNetStats (h : Hdr) (a : List Byte) (s : State) : Result := commitHost 0x0707 runNetStats h a s

/-- NET.ACYCLIC (R352): the octets after the subject go to the network's image; the answer ends the command. -/
def runNetAcyclic (h : Hdr) (a : List Byte) (s : State) : State × Reply :=
  let n := uAt a 0 2
  let s' := (s.updNet n (fun k => { k with acyclic := k.acyclic ++ [(h.tag, h.port)] })).send (.request n (a.drop 4))
  tested s [(decide (a.length < 4), St.badParam, 2), badSubject a 0 32, shadowed h s, liveCell s, badState !(s.net n).started] (s', { later := true })

/-- NET_ACYCLIC: an acyclic request to a field device (R352). -/
def execNetAcyclic (h : Hdr) (a : List Byte) (s : State) : Result := commitHost 0x0708 runNetAcyclic h a s

/-! ### Ports and controllers (R431, R442, R450, R465) -/

/-- Whether a port serves a started network. -/
def State.portBusy (s : State) (p : Nat) : Bool := s.nets.any (fun q => q.2.defined && q.2.started && q.2.ports.contains p)

/-- What is wrong with a word of NET.PORT_CONFIG at an octet (R450). -/
def portWordTests (a : List Byte) : List Test :=
  let w (i : Nat) : Nat := uAt a (4 + 4 * i) 4
  let filt (k : Nat) : List Test := [badAt (4 + 4 * (8 + 3 * k)) (field (w (8 + 3 * k)) 21 11 != 0), badAt (4 + 4 * (9 + 3 * k)) (field (w (9 + 3 * k)) 30 2 != 0)]
  [badAt 4 (bitAt (w 0) 5 || field (w 0) 30 2 != 0 || decide (field (w 0) 6 14 < 1518) || decide (9216 < field (w 0) 6 14) || decide (1000 < field (w 0) 20 10)),
   badAt 8 (field (w 1) 27 5 != 0), badAt 12 (field (w 2) 24 8 != 0 || decide (field (w 2) 0 12 < field (w 2) 12 12)), badAt 16 (field (w 3) 28 4 != 0),
   badAt 20 (field (w 4) 19 13 != 0 || field (w 4) 12 7 == 0), badAt 28 (field (w 6) 30 2 != 0)] ++ (List.range 8).flatMap filt

/-- NET.PORT_CONFIG (R450). -/
def runNetPortConfig (h : Hdr) (a : List Byte) (s : State) : State × Reply :=
  let p := uAt a 0 2
  tested s ([badLen a 128, badSubject a 0 12] ++ portWordTests a ++ [shadowed h s, cfgCell s, badState (s.cell.state != 2 && s.portBusy p)])
    (okReply (s.updMac p (fun k => k.configure ((List.range 31).map (fun i => uAt a (4 + 4 * i) 4)))))

/-- NET_PORT_CONFIG: writes a port's MAC configuration registers (R450). -/
def execNetPortConfig (h : Hdr) (a : List Byte) (s : State) : Result := commitHost 0x0701 runNetPortConfig h a s

/-- NET.MIRROR (R442); the table's PORT names the mirrored port (log entry 63). -/
def runNetMirror (h : Hdr) (a : List Byte) (s : State) : State × Reply :=
  let n := uAt a 4 1
  let m := s.mirror n
  let m' : Mirror := { m with en := uAt a 5 1 == 1, port := uAt a 6 1, dir := uAt a 7 1, tcMask := uAt a 8 1, every := uAt a 9 2, count := 0 }
  tested s [badLen a 11, badSubject a 0 30, badAt 4 (decide (3 < n)), badAt 5 (decide (1 < uAt a 5 1)), badAt 6 (decide (29 < uAt a 6 1)), badAt 7 (decide (1 < uAt a 7 1)),
      badAt 9 (uAt a 9 2 == 0), shadowed h s, cfgCell s] (dataReply (s.setMirror n m') (toLE 4 m.copies ++ toLE 4 m.skipped))

/-- NET_MIRROR: configures a mirror session (R442). -/
def execNetMirror (h : Hdr) (a : List Byte) (s : State) : Result := commitHost 0x0709 runNetMirror h a s

/-- The gate list of NET.SCHEDULE's arguments (R431). -/
def gateListOf (a : List Byte) : GateList :=
  { base := uAt a 8 8, cycleNs := uAt a 16 4, entries := (List.range (uAt a 4 1)).map (fun i => let o := 20 + 8 * i; (uAt a o 1, uAt a (o + 1) 1, uAt a (o + 4) 4)) }

/-- What is wrong with a gate list (R431). -/
def gateTests (a : List Byte) (s : State) : List Test :=
  let g := gateListOf a
  let t := s.tickLen
  let one (i : Nat) : List Test :=
    let o := 20 + 8 * i
    [badAt (o + 1) (decide (2 < uAt a (o + 1) 1)), badZeros a (o + 2) 2, badAt (o + 4) (uAt a (o + 4) 4 % 8 != 0 || decide (uAt a (o + 4) 4 < 64))]
  if g.entries = [] then [] else
    [badAt 8 (g.base % t != 0), badAt 16 (!((List.range 16).any (fun k => g.cycleNs == t * (k + 1) || g.cycleNs * (k + 1) == t)))] ++
      (List.range g.entries.length).flatMap one ++ [badAt 16 ((g.entries.map (fun e => e.2.2)).foldl (· + ·) 0 != g.cycleNs)]

/-- NET.SCHEDULE (R431, R432). -/
def runNetSchedule (h : Hdr) (a : List Byte) (s : State) : State × Reply :=
  let p := uAt a 0 2
  let n := uAt a 4 1
  let g := gateListOf a
  tested s ([badLen a (20 + 8 * n), badSubject a 0 12, badAt 4 (decide (64 < n)), badZeros a 5 3] ++ gateTests a s ++
      [shadowed h s, cfgCell s, badState (!(s.mac p).preemptEn && g.entries.any (fun e => e.2.1 != 0))])
    (okReply (s.updMac p (fun k => { k with gatesNext := some (if n = 0 then none else some g) })))

/-- NET_SCHEDULE: sets a port's gate control list (R431). -/
def execNetSchedule (h : Hdr) (a : List Byte) (s : State) : Result := commitHost 0x070A runNetSchedule h a s

/-- NET.CAN_CONFIG (R453, R465). -/
def runNetCanConfig (h : Hdr) (a : List Byte) (s : State) : State × Reply :=
  let n := uAt a 0 2
  let ctrl := uAt a 4 4
  let nbt := uAt a 8 4
  let dbt := uAt a 12 4
  let busy := s.nets.any (fun q => q.2.defined && q.2.started && q.2.can == n)
  tested s [badLen a 16, badSubject a 0 4, badAt 4 (field ctrl 17 15 != 0 || decide (64 < field ctrl 10 7)), badAt 12 (field dbt 26 6 != 0),
      badAt 8 (canTimingBad ctrl nbt dbt), shadowed h s, cfgCell s, badState (s.cell.state != 2 && busy)]
    (okReply (s.updCan n (fun c => c.configure ctrl nbt dbt)))

/-- NET_CAN_CONFIG: writes a CAN FD controller's configuration (R465). -/
def execNetCanConfig (h : Hdr) (a : List Byte) (s : State) : Result := commitHost 0x070B runNetCanConfig h a s

end Sys2Proof.Machine
end

