-- ==== Sys2Proof/Machine/RunTable.lean ====
section
/-! DEFINITION. The catalogue of commands by code (R341, R347 to R352), with what each is to transactions, commit passes and replies. -/

namespace Sys2Proof.Machine

/-- What a host command does, by its CODE: all but CELL.TXN_COMMIT (R347 to R352). -/
def runCmd (code : Nat) : Option (Hdr → List Byte → State → State × Reply) :=
  match code with
  | 0x0101 => some runSysIdentify
  | 0x0102 => some runSysHostSetup
  | 0x0103 => some runSysStatus
  | 0x0104 => some runSysCancel
  | 0x0105 => some runSysEventMask
  | 0x0106 => some runSysReset
  | 0x0201 => some runCellSetTick
  | 0x0202 => some runCellSetState
  | 0x0203 => some runCellStatus
  | 0x0204 => some runCellTxnBegin
  | 0x0206 => some runCellTxnAbort
  | 0x0301 => some runArmDefine
  | 0x0302 => some runArmSetDynamics
  | 0x0303 => some runArmSetPayload
  | 0x0304 => some runArmSetLimits
  | 0x0305 => some runArmSetIk
  | 0x0306 => some runArmSetTool
  | 0x0307 => some runArmSetFrame
  | 0x0308 => some runArmSetClaim
  | 0x0309 => some runArmSetMode
  | 0x030A => some runArmMoveJoint
  | 0x030B => some runArmMoveCart
  | 0x030C => some runArmMoveArc
  | 0x030D => some runArmHold
  | 0x030E => some runArmResume
  | 0x030F => some runArmStop
  | 0x0310 => some runArmJog
  | 0x0311 => some runArmStatus
  | 0x0401 => some runAxisBind
  | 0x0402 => some runAxisConfig
  | 0x0403 => some runAxisSetLimits
  | 0x0404 => some runAxisSetLoop
  | 0x0405 => some runAxisSetNotch
  | 0x0406 => some runAxisSetMode
  | 0x0407 => some runAxisMove
  | 0x0408 => some runAxisMoveVel
  | 0x0409 => some runAxisHold
  | 0x040A => some runAxisResume
  | 0x040B => some runAxisStop
  | 0x040C => some runAxisGear
  | 0x040D => some runAxisCamTable
  | 0x040E => some runAxisCam
  | 0x040F => some runAxisHome
  | 0x0410 => some runAxisJog
  | 0x0411 => some runAxisSwitchConfig
  | 0x0412 => some runAxisSwitchClear
  | 0x0413 => some runAxisDdConfig
  | 0x0414 => some runAxisDdPwm
  | 0x0415 => some runAxisDdAlign
  | 0x0416 => some runAxisStatus
  | 0x0501 => some runSafeLoad
  | 0x0502 => some runSafeConfirm
  | 0x0503 => some runSafeStatus
  | 0x0504 => some runSafeCounters
  | 0x0601 => some runZoneDefine
  | 0x0602 => some runZoneUnblock
  | 0x0603 => some runZoneStatus
  | 0x0604 => some runZoneCounters
  | 0x0701 => some runNetPortConfig
  | 0x0702 => some runNetDefine
  | 0x0703 => some runNetStart
  | 0x0704 => some runNetStop
  | 0x0705 => some runNetStatus
  | 0x0706 => some runNetSnapshot
  | 0x0707 => some runNetStats
  | 0x0708 => some runNetAcyclic
  | 0x0709 => some runNetMirror
  | 0x070A => some runNetSchedule
  | 0x070B => some runNetCanConfig
  | 0x0801 => some runLatheStore
  | 0x0802 => some runLatheLoad
  | 0x0803 => some runLatheSwap
  | 0x0804 => some runLatheStatus
  | 0x0805 => some runLatheCounters
  | 0x0806 => some runLatheTelemetry
  | 0x0807 => some runLatheEnrollKey
  | 0x0901 => some runFabSetKey
  | 0x0902 => some runFabJoin
  | 0x0903 => some runFabLeave
  | 0x0904 => some runFabSchedule
  | 0x0905 => some runFabStatus
  | 0x0906 => some runFabAssignShadow
  | 0x0907 => some runFabReleaseShadow
  | 0x0908 => some runFabSwitchover
  | 0x0909 => some runFabSetReplLevel
  | 0x090A => some runFabPairStatus
  | 0x090B => some runFabSleep
  | 0x090C => some runFabWake
  | 0x0A01 => some runTimeConfig
  | 0x0A02 => some runTimeStatus
  | 0x0A03 => some runTimeCompare
  | 0x0A04 => some runTimeCapture
  | 0x0A05 => some runTimeSet
  | 0x0B01 => some runJrnlRead
  | 0x0B02 => some runJrnlMark
  | 0x0B03 => some runJrnlCommit
  | 0x0B04 => some runJrnlStatus
  | 0x0C01 => some runDiagTickLoad
  | 0x0C02 => some runDiagAxisLoop
  | 0x0C03 => some runDiagAxisCounters
  | 0x0C04 => some runDiagTiller
  | 0x0C05 => some runDiagBlocks
  | 0x0C06 => some runDiagTelemetry
  | 0x0D01 => some runFwLoad
  | 0x0D02 => some runFwActivate
  | 0x0D03 => some runFwStatus
  | _ => none

/-- The commands a transaction may hold: the mark of the Txn column (R343). -/
def txnCodes : List Nat :=
  [0x0301, 0x0302, 0x0304, 0x0305, 0x0307, 0x0308, 0x0309, 0x0401, 0x0402, 0x0403, 0x0404, 0x0405, 0x0406, 0x040D, 0x0411, 0x0413, 0x0414,
   0x0601, 0x0701, 0x0702, 0x0709, 0x070A, 0x070B, 0x0904, 0x0A01, 0x0A04, 0x0C06]

/-- The commands that change loop closure and commit in the first pass (R17, R648). -/
def firstPass (code : Nat) : Bool := [0x0403, 0x0404, 0x0405, 0x0406, 0x040C, 0x040E, 0x040F, 0x0410].contains code

/-- The commands that only read state: their replies report it as it stands before the work of the commit edge (R337). -/
def readsState (code : Nat) : Bool :=
  [0x0101, 0x0103, 0x0203, 0x0311, 0x0416, 0x0503, 0x0504, 0x0603, 0x0604, 0x0705, 0x0707, 0x0804, 0x0805, 0x0905, 0x090A, 0x0A02, 0x0B04, 0x0C02,
   0x0C03, 0x0C04, 0x0C05, 0x0D03].contains code

/-- Where a command's arguments name a data bank (R328). -/
def dataBankAt (code : Nat) : Option Nat :=
  match code with
  | 0x0501 => some 0
  | 0x0801 => some 4
  | 0x0D01 => some 0
  | _ => none

end Sys2Proof.Machine
end

