-- ==== Sys2Proof/Machine/HostIf.lean ====
section
/-! DEFINITION. Command blocks from their word to their response: acceptance (R329 to R333), edges (R20 to R23, R337), the shadow's
acknowledgement (R278), transactions (R343 to R346), completion and replies (R331, R339). -/

namespace Sys2Proof.Machine

/-! ### Transactions at their commit (R345, R346) -/

/-- A member's meaning; a member's code is in the catalogue since its acceptance. -/
def runMember (m : Hdr × Nat × List Byte) (s : State) : State × Reply :=
  match runCmd m.2.1 with
  | some f => f m.1 m.2.2 s
  | none => (s, { status := St.unknownCmd })

/-- Members applied in order until one fails; its tag and status (R345). -/
def applyMembers (ms : List (Hdr × Nat × List Byte)) (s : State) : State × Option (Nat × Nat) :=
  ms.foldl (fun acc m =>
    if acc.2.isSome then acc
    else
      let r := runMember m acc.1
      if r.2.status < 0x0200 then (r.1, none) else (acc.1, some (m.1.tag, r.2.status))) (s, none)

/-- The members of a commit, whatever has been accepted (R345). -/
def State.membersOf (s : State) (p id : Nat) : List (Hdr × Nat × List Byte) :=
  ((s.host.txns.find? (fun t => t.id == id && t.port == p)).map (fun t => t.members)).getD []

/-- A failing commit (R345): no member takes effect, and the transaction closes. -/
def txnFailure (id : Nat) (f : Nat × Nat) (s : State) : State × Reply :=
  (s.closeTxn id, { status := St.txnFailed, detail := f.1, data := toLE 2 f.2 })

/-- CELL.TXN_COMMIT (R345): every member is tested in acceptance order on a copy; then the first-pass members commit, then the others. -/
def runCellTxnCommit (h : Hdr) (a : List Byte) (s : State) : State × Reply :=
  let id := uAt a 0 2
  let ms := s.membersOf h.port id
  tested s [badLen a 4, (!s.host.txns.any (fun t => t.id == id && t.port == h.port), St.txnUnknown, 0), badZeros a 2 2, shadowed h s, liveCell s]
    (match (applyMembers ms s).2 with
     | some f => txnFailure id f s
     | none =>
       let r := applyMembers (ms.filter (fun m => firstPass m.2.1) ++ ms.filter (fun m => !firstPass m.2.1)) s
       match r.2 with
       | some f => txnFailure id f s
       | none => okReply (r.1.closeTxn id))

/-- CELL_TXN_COMMIT: commits all members of a transaction at one edge or none (R345). -/
def execCellTxnCommit (h : Hdr) (a : List Byte) (s : State) : Result := commitHost 0x0205 runCellTxnCommit h a s

/-- What a host command does, by its CODE. -/
def runHost (code : Nat) : Option (Hdr → List Byte → State → State × Reply) :=
  if code = 0x0205 then some runCellTxnCommit else runCmd code

/-! ### Commands in hand -/

/-- A command in hand replaced by what became of it. -/
def State.swapCmd (s : State) (c d : HostCmd) : State :=
  { s with host := { s.host with cmds := s.host.cmds.map (fun x => if x = c then d else x) } }

/-- A command that is refused or ends without effect: its reply, with no commit tick (R331). -/
def HostCmd.refuse (c : HostCmd) (status detail : Nat) (r : Bool) : HostCmd :=
  { c with stage := .replied, commitTick := 0, hasReply := r, slipped := false, reply := { status := status, detail := detail } }

/-- Commands that give no response leave once they are done: those of a reset port and a shadow's (R278, R340). -/
def dropSilent (s : State) : State :=
  { s with host := { s.host with cmds := s.host.cmds.filter (fun c => !(c.stage == .replied && (c.silent || !isHost c.hdr.port))) } }

/-! ### The edge of a command (R20, R22, R337) -/

/-- Whether an acceptance that completes now rolls (R20): the guard band has begun. -/
def State.late (s : State) : Bool := s.cell.guard || decide (s.cell.edge + guardOfs s.cell.tickSel ≤ s.gtc)

/-- The length of the tick that the next edge opens (R14). -/
def State.nextLen (s : State) : Nat :=
  match s.cell.change with
  | some (sel, at_) => if at_ ≤ s.cell.nextEdge then tickNs sel else s.tickLen
  | none => s.tickLen

/-- GTC of the earliest edge that R20 allows. -/
def State.earliest (s : State) : Nat := if s.late then s.cell.nextEdge + s.nextLen else s.cell.nextEdge

/-- The target tick: the count whose low 32 bits are TARGET_TICK, within 2^31 of the present one (R337). -/
def State.targetTick (s : State) (t : Nat) : Nat :=
  ((s.cell.tick : Int) + toS 32 (toU 32 ((t : Int) - (s.cell.tick : Int)))).toNat

/-- GTC of the target edge, on the grid in force (R337). -/
def State.targetEdge (s : State) (h : Hdr) : Nat := s.targetTick h.target * s.tickLen

/-- A roll is counted (R20, R42, R43, R347). -/
def countRoll (p : Nat) (s : State) : State :=
  let s := if isHost p then s.setPort p { s.port p with rolled := wrap 32 ((s.port p).rolled + 1) } else s
  { s with cell := { s.cell with rolled := wrap 32 (s.cell.rolled + 1), load := { s.cell.load with rolls := wrap 32 (s.cell.load.rolls + 1) } } }

/-- Acceptance completes (R20, R22, R23, R337, R344): a member joins its transaction and is answered; any other command takes its edge. -/
def finishAcceptance (c : HostCmd) (s : State) : State :=
  let h := c.hdr
  let c' := { c with acceptGtc := s.gtc }
  if h.txn then
    if (s.txn? h.port h.txnId).isNone then s.swapCmd c (c'.refuse St.txnUnknown 0 true)
    else addMember h.port h.txnId (h, c.code, c.args) (s.swapCmd c (c'.refuse St.txnHeld 0 true))
  else
    let e := s.earliest
    let t := s.targetEdge h
    if h.atTick ∧ t < e ∧ h.strict then s.swapCmd c (c'.refuse St.tickMissed 0 true)
    else
      let s' := if s.late && (!h.atTick || decide (t < e)) then countRoll h.port s else s
      let s' := if c.code = 0x0205 then { s' with host := { s'.host with txns := s'.host.txns.map (fun x =>
        if x.id = uAt c.args 0 2 ∧ x.port = h.port then { x with committing := true } else x) } } else s'
      if h.atTick ∧ e < t then s'.swapCmd c { c' with stage := .held, commitAt := t }
      else s'.swapCmd c { c' with stage := .waiting, commitAt := e, slipped := h.atTick && decide (t < e) }

/-! ### Acceptance (R329 to R333) -/

/-- The length of the argument area with its padding (R329). -/
def padded (n : Nat) : Nat := (n + 7) / 8 * 8

/-- Octets of the bank at the slot of a command word. -/
def State.blockAt (s : State) (h : Hdr) (ofs n : Nat) : List Byte := s.bankOctets h.bank (h.slot * 512 + ofs) n

/-- The header of a block as it stands in the pool (R329). -/
def State.readHdr (s : State) (h : Hdr) : Hdr × Nat :=
  let b := s.blockAt h 0 32
  let f := uAt b 6 1
  ({ h with len := uAt b 2 2, replyLen := uAt b 4 2, atTick := bitAt f 0, strict := bitAt f 1, txn := bitAt f 2, target := uAt b 8 4, txnId := uAt b 14 2 }, uAt b 0 2)

/-- Whether a block breaks its limits or a reserved field is not zero (R329, the second test of R332). -/
def blockBad (b : List Byte) (h : Hdr) : Bool :=
  let total := 32 + padded h.len + h.replyLen
  decide (32720 < h.len) || decide (h.replyLen < 16) || decide (32768 < total) || decide (0x80000 < h.slot * 512 + total) ||
    decide (7 < uAt b 6 1) || !zerosAt b 7 1 || decide (4095 < uAt b 12 2) || (!h.txn && h.txnId != 0) || !zerosAt b 16 8 || !zerosAt b 28 4

/-- The fold word of CHECK (R329). -/
def blockFold (h : Hdr) : Nat := h.bank * 2 ^ 26 + h.slot * 2 ^ 16 + h.tag * 16

/-- The first word of a block that holds an uncorrectable error (R570). -/
def State.blockSpoiled (s : State) (h : Hdr) : Option Nat :=
  (wordsOf (h.bank * 0x80000 + h.slot * 512) (32 + h.len)).find? (fun w => s.pool.ueWords.contains w)

/-- The first four tests of R332; a refusal at these writes no reply. A block that cannot be read fails its check (R570). -/
def State.blockTests (s : State) (h : Hdr) (args : List Byte) : List Test :=
  let b := s.blockAt h 0 32
  [(!bitAt (s.port h.port).held h.bank, St.bankNotHeld, 0), ((s.blockSpoiled h).isSome, St.blockCheck, 0), (blockBad b h, St.badBlock, 0),
   (uAt b 24 4 != crcFold (blockFold h) (octets b 0 24 ++ args), St.blockCheck, 0), (uAt b 12 2 != h.tag, St.badBlock, 0)]

/-- The first-pass members of a transaction (R343). -/
def Txn.loops (t : Txn) : Nat := (t.members.filter (fun m => firstPass m.2.1)).length

/-- The tests of R332 from UNKNOWN_CMD to the target, but TOO_MANY, which its word has passed. -/
def State.headTests (s : State) (h : Hdr) (code : Nat) : List Test :=
  let t := (s.txn? h.port h.txnId).getD {}
  let far := h.atTick && decide (s.earliest < s.targetEdge h)
  [((runHost code).isNone, St.unknownCmd, 0), (h.txn && (s.txn? h.port h.txnId).isNone, St.txnUnknown, 0),
   (h.txn && (!txnCodes.contains code || h.atTick), St.txnNotAllowed, 0),
   (h.txn && (decide (256 ≤ t.members.length) || (firstPass code && decide (64 ≤ t.loops))), St.txnFull, 0),
   (far && decide (256 ≤ (s.host.cmds.filter (fun c => c.stage == .held)).length), St.heldFull, 0),
   (h.atTick && decide (s.cell.tick + 2 ^ 24 < s.targetTick h.target), St.badParam, 8)]

/-- Whether a status found by the argument and role tests refuses at acceptance; state, resource and budget tests are those of the commit
edge (R332, R344, R649). -/
def atAcceptance (status : Nat) : Bool := status / 256 == 2 || status / 256 == 5 || status == St.shadowRole

/-- The argument and role tests on the state as it is (R332); a transaction's members are tested with its commit (R345). -/
def State.argStatus (s : State) (h : Hdr) (code : Nat) (args : List Byte) : Option Reply :=
  let r := (runHost code).map (fun f => (f h args s).2)
  let closed := code == 0x0205 && args.length == 4 && (s.txn? h.port (uAt args 0 2)).isNone
  if closed then some { status := St.txnUnknown } else r.bind (fun x => if atAcceptance x.status then some x else none)

/-- A bank named by a command since its handover (R327). -/
def nameBank (p b : Nat) (s : State) : State :=
  let v := s.port p
  if bitAt v.held b then s.setPort p { v with named := setBit v.named b } else s

/-- The block of a command goes to the shadow (R278). -/
def sendBlock (c : HostCmd) (s : State) : State :=
  let x := s.fab.nextXfer
  let s := startBulk 2 s.pair.peer (Config.bulkLen 2) s
  { s with pair := { s.pair with blocks := s.pair.blocks ++ [(x, c.hdr.tag, c.hdr.port)] } }.swapCmd c { c with stage := .awaitShadow }

/-- A command whose block is taken (R332). -/
def acceptCmd (c : HostCmd) (s : State) : State :=
  let (h, code) := s.readHdr c.hdr
  let args := s.blockAt h 32 h.len
  let p := h.port
  let s0 := nameBank p h.bank s
  let s0 := match s.blockSpoiled h with
    | some w => if bitAt (s.port p).held h.bank then s0.uncorrectable w else s0
    | none => s0
  match (s.blockTests h args).find? (fun t => t.1) with
  | some (_, st, d) => s0.swapCmd c (c.refuse st d false)
  | none =>
    let db := (dataBankAt code).map (fun i => uAt args i 2)
    let s1 := match db with
      | some b => nameBank p b s0
      | none => s0
    let c1 := { c with hdr := h, code := code, args := args, dataBank := db }
    let s1 := s1.swapCmd c c1
    match (s.headTests h code).find? (fun t => t.1) with
    | some (_, st, d) => s1.swapCmd c1 (c1.refuse st d true)
    | none =>
      match s.argStatus h code args with
      | some r =>
        let s1 := if r.status = St.txnFailed then s1.closeTxn (uAt args 0 2) else s1
        s1.swapCmd c1 { c1.refuse r.status r.detail true with reply := r }
      | none => if s.pair.role = 1 then sendBlock c1 s1 else finishAcceptance c1 s1

/-- The oldest command word read is taken (R20, R323, R332). -/
def acceptNext (s : State) : State :=
  match s.host.cmds.find? (fun c => c.stage == .read) with
  | some c => if s.cell.ready then acceptCmd c s else s
  | none => s

/-- COMMAND_ACCEPTANCE: the Sheaf takes and validates the block named by a COMMAND word (R332). -/
def execCommandAcceptance (s : State) : Result := .next (acceptNext s)

/-- The shadow has acknowledged a block (R278): acceptance completes, and the edge is reported in the next forwarding slot. -/
def shadowAck (xfer : Nat) (s : State) : State :=
  match s.pair.blocks.find? (fun b => b.1 == xfer) with
  | none => s
  | some b =>
    let s := { s with pair := { s.pair with blocks := s.pair.blocks.filter (fun x => x.1 != xfer) } }
    let mine (c : HostCmd) : Bool := c.hdr.tag == b.2.1 && c.hdr.port == b.2.2 && !c.silent
    match s.host.cmds.find? (fun c => mine c && c.stage == .awaitShadow) with
    | none => s
    | some c =>
      let s := finishAcceptance c s
      match s.host.cmds.find? (fun c => mine c && (c.stage == .waiting || c.stage == .held)) with
      | some c => { s with pair := { s.pair with commits := s.pair.commits ++ [(xfer, c.commitAt, c.acceptGtc)] } }
      | none => s

/-- SHADOW_ACK_RECEIVE: the shadow's acknowledgement completes acceptance of a command on the primary (R278). -/
def execShadowAckReceive (xfer : Nat) (s : State) : Result := .next (shadowAck xfer s)

/-- Commands that wait for a shadow which is there no longer complete their acceptance (R278). -/
def releaseWaiters (s : State) : State :=
  if s.pair.role = 1 then s
  else (s.host.cmds.filter (fun c => c.stage == .awaitShadow && isHost c.hdr.port)).foldl (fun s c => finishAcceptance c s) s

/-! ### Commit (R20 to R24, R337) -/

/-- A command after its meaning has run (R331, R339). -/
def HostCmd.answered (c : HostCmd) (r : Reply) (tick : Nat) : HostCmd :=
  let took := r.status < 0x0200 || r.later || r.status == St.notPending
  { c with stage := if r.later then .running else .replied, commitTick := if took then tick else 0, reply := r }

/-- A command in hand commits with the tick count of its edge. -/
def commitOne (tick : Nat) (c : HostCmd) (s : State) : State :=
  if !s.host.cmds.contains c then s
  else match runHost c.code with
    | some f =>
      let r := f c.hdr c.args s
      r.1.swapCmd c (c.answered r.2 tick)
    | none => s

/-- A held command commits on its own (R337): its target edge is reached. -/
def commitHeld (p tag : Nat) (s : State) : State :=
  match s.host.cmds.find? (fun c => c.stage == .held && c.hdr.port == p && c.hdr.tag == tag) with
  | none => s
  | some c =>
    let tick := if c.commitAt ≤ s.cell.edge then s.cell.tick else c.commitAt / s.tickLen
    dropSilent (commitOne tick c (s.advanceTo c.commitAt))

/-- HELD_COMMAND_COMMIT: a held command's target edge is reached and it commits (R337). -/
def execHeldCommandCommit (p tag : Nat) (s : State) : Result := .next (commitHeld p tag s)

/-! ### Completion and replies (R331, R339) -/

/-- How the work of a command ends (R339): `detail` 0 is a write that compares equal; `data` is a field device's answer. -/
def finishWork (c : HostCmd) (detail : Nat) (data : List Byte) (s : State) : State × Reply :=
  if 0x0200 ≤ c.reply.status then (s, c.reply)
  else match c.code with
    | 0x0D01 => fwFinish c.args (detail == 0) s
    | 0x0801 => storeFinish c.args (detail == 0) s
    | 0x0802 => loadFinish c.args s
    | 0x0708 =>
      let n := uAt c.args 0 2
      (s.updNet n (fun k => { k with acyclic := k.acyclic.erase (c.hdr.tag, c.hdr.port) }), { data := data, detail := detail })
    | _ => (s, c.reply)

/-- The codes whose completion is an event of its own. -/
def ownEnd (code : Nat) : Bool := [0x0415, 0x0902, 0x0903, 0x0906].contains code

/-- The work of a command ends (R339). -/
def completeLong (p tag detail : Nat) (data : List Byte) (s : State) : State :=
  match s.host.cmds.find? (fun c => c.stage == .running && c.hdr.port == p && c.hdr.tag == tag) with
  | none => s
  | some c =>
    if ownEnd c.code then s
    else
      let r := finishWork c detail data s
      dropSilent (r.1.swapCmd c { c with stage := .replied, reply := { r.2 with later := false } })

/-- LONG_COMMAND_COMPLETE: a command with completion response finishes its work and its response is sent (R339). -/
def execLongCommandComplete (p tag detail : Nat) (data : List Byte) (s : State) : Result := .next (completeLong p tag detail data s)

/-- STATUS, DETAIL and data as the reply record holds them (R22, R331). -/
def HostCmd.final (c : HostCmd) : Reply :=
  let r := if c.slipped && c.reply.status == St.ok then { c.reply with status := St.tickSlipped } else c.reply
  if c.hasReply && decide (c.hdr.replyLen - 16 < r.data.length) then
    { r with status := St.replyShort, detail := r.data.length, data := r.data.take (c.hdr.replyLen - 16) }
  else r

/-- The reply record (R331). -/
def HostCmd.record (c : HostCmd) : List Byte :=
  let r := c.final
  toLE 2 r.status ++ toLE 2 r.data.length ++ toLE 4 r.detail ++ toLE 8 c.commitTick ++ r.data

/-- A response word (R322). -/
def HostCmd.word (c : HostCmd) : Word := BitVec.ofNat 32 (2 * 2 ^ 28 + c.hdr.tag % 4096 * 2 ^ 16 + c.final.status % 65536)

/-- The oldest finished command of a port gets its response (R323, R331); one not counted is done with it (R334). -/
def postResponse (p : Nat) (s : State) : State :=
  match s.host.cmds.find? (fun c => c.stage == .replied && c.hdr.port == p && !c.silent), s.emptyChan p with
  | some c, some ch =>
    let at_ := c.hdr.bank * 0x80000 + c.hdr.slot * 512 + 32 + padded c.hdr.len
    let s := if c.hasReply then (s.poolWrite 0 0 at_ c.record).1 else s
    let s := if c.extra then { s with host := { s.host with cmds := s.host.cmds.erase c } } else s.swapCmd c { c with stage := .posted, chan := ch }
    postCredits p (mbxWrite 0 ch c.word s)
  | _, _ => postCredits p s

/-- RESPONSE_POST: the Sheaf writes a reply record and posts the response word on an empty channel (R331). -/
def execResponsePost (p : Nat) (s : State) : Result := .next (if (s.port p).inReset then s else postResponse p s)

end Sys2Proof.Machine
end

