-- ==== Sys2Proof/Machine/Flags.lean ====
section
/-! DEFINITION. Results and flags of the Lathe instructions, formed at the operand size (R383, R392, R393). Operands are numbers below
2^w. -/

namespace Sys2Proof.Machine

/-- The flags of a level (R381). -/
structure LthFlags where
  z : Bool := false
  n : Bool := false
  c : Bool := false
  v : Bool := false
deriving DecidableEq, Repr

/-- Whether a signed result does not fit `w` bits. -/
def signedOut (w : Nat) (r : Int) : Bool := decide (r < -(2 ^ (w - 1) : Int)) || decide ((2 ^ (w - 1) : Int) ≤ r)

/-- Z and N of a result (R392). -/
def znFlags (w r : Nat) (c v : Bool) : LthFlags := { z := r == 0, n := bitAt r (w - 1), c := c, v := v }

/-- Class A, addition with a carry in. -/
def aluAdd (w a b cin : Nat) : Nat × LthFlags :=
  let r := (a + b + cin) % 2 ^ w
  (r, znFlags w r (decide (2 ^ w ≤ a + b + cin)) (signedOut w (toS w a + toS w b + cin)))

/-- Class A, subtraction with a borrow in: C is the borrow. -/
def aluSub (w a b cin : Nat) : Nat × LthFlags :=
  let r := toU w ((a : Int) - b - cin)
  (r, znFlags w r (decide (a < b + cin)) (signedOut w (toS w a - toS w b - cin)))

/-- Class L. -/
def aluLogic (w r : Nat) : Nat × LthFlags := (r, znFlags w r false false)

/-- Class M: C when the unsigned product exceeds the size, V when the signed one does. -/
def aluMul (w a b : Nat) : Nat × LthFlags :=
  let r := a * b % 2 ^ w
  (r, znFlags w r (decide (2 ^ w ≤ a * b)) (signedOut w (toS w a * toS w b)))

/-- Class S: `c` is the last bit shifted out; a count of 0 leaves C as it is. -/
def shiftFlags (w k r : Nat) (c : Bool) (f : LthFlags) : LthFlags := znFlags w r (if k = 0 then f.c else c) false

/-- Shift left by `k`, 0 to 31 (R393). -/
def aluShl (w a k : Nat) (f : LthFlags) : Nat × LthFlags :=
  let r := a * 2 ^ k % 2 ^ w
  (r, shiftFlags w k r (decide (k ≤ w) && bitAt a (w - k)) f)

/-- Shift right with zero fill (R393). -/
def aluShr (w a k : Nat) (f : LthFlags) : Nat × LthFlags :=
  let r := a / 2 ^ k
  (r, shiftFlags w k r (bitAt a (k - 1)) f)

/-- Shift right with sign fill (R393). -/
def aluSar (w a k : Nat) (f : LthFlags) : Nat × LthFlags :=
  let r := toU w (asr (toS w a) k)
  (r, shiftFlags w k r (asr (toS w a) (k - 1) % 2 == 1) f)

/-- Rotate left by the count modulo the size: C is the bit rotated into bit 0 (R393). -/
def aluRol (w a k : Nat) (f : LthFlags) : Nat × LthFlags :=
  let j := k % w
  let r := a * 2 ^ j % 2 ^ w + a / 2 ^ (w - j)
  (r, shiftFlags w k r (r % 2 == 1) f)

/-- The octets of a `w`-bit number reversed (BSWAP). -/
def aluBswap (w a : Nat) : Nat := ofBE (toLE (w / 8) a)

/-- A condition code of R396. -/
def condHolds (cc : Nat) (f : LthFlags) : Bool :=
  match cc with
  | 0x0 => f.z
  | 0x1 => !f.z
  | 0x2 => f.c
  | 0x3 => !f.c
  | 0x4 => f.n
  | 0x5 => !f.n
  | 0x6 => f.v
  | 0x7 => !f.v
  | 0x8 => !f.c && !f.z
  | 0x9 => f.c || f.z
  | 0xA => f.n == f.v
  | 0xB => f.n != f.v
  | 0xC => !f.z && f.n == f.v
  | 0xD => f.z || f.n != f.v
  | _ => true

end Sys2Proof.Machine
end

