-- ==== Sys2Proof/Machine/Regs.lean ====
section
/-! DEFINITION. The register map as masters see it: the internal view at 0x2000_0000 and 0x4000_0000 to 0x400A_0FFF (R356) with
the access codes of R5 and R6, and the host register window (R320). Offsets are those of aligned 32-bit words. -/

namespace Sys2Proof.Machine

/-! ### MACs and switch (R450, R451) -/

/-- A read in the block of MAC `n`. -/
def macRead (n ofs : Nat) (s : State) : State :=
  if 0x800 ≤ ofs ∧ ofs < 0x840 then nrwRead n ((ofs - 0x800) / 4) s else s.returns ((s.mac n).word ofs)

/-- The offsets of the words of NET.PORT_CONFIG, in its order. -/
def macConfigWords : List Nat :=
  [0x00, 0x08, 0x0C, 0x10, 0x14, 0x18, 0x1C] ++
    ((List.range 8).map (fun k => [0x40 + 16 * k, 0x44 + 16 * k, 0x48 + 16 * k])).flatten

/-- A write in the block of MAC `n`: the Sheaf writes the configuration, the Lathe that holds the port MAC_SNAP alone (R450). -/
def macWrite (m n ofs w : Nat) (s : State) : State :=
  if ofs = 0x200 then macSnapWrite m n w s
  else if isSheaf m ∧ macConfigWords.contains ofs then
    s.updMac n (fun k => k.configure (macConfigWords.map (fun o => if o = ofs then w else k.word o)))
  else s

/-- Cells free in all pools (SW_FREE): the shared pool's and the unused reserved ones. -/
def SwitchState.allFree (w : SwitchState) : Nat :=
  w.sharedFree + ((List.range 3).map (fun i => w.resvFree (5 + i))).foldl (· + ·) 0

/-- A read in the switch block. -/
def switchRead (ofs : Nat) (s : State) : State :=
  let w := s.switch
  if ofs = 0 then s.returns (w.allFree + 65536 * w.sharedFree)
  else if ofs = 4 then swAuditRead s
  else if 0x10 ≤ ofs ∧ ofs < 0x30 then
    let c := (ofs - 0x10) / 4
    s.returns (Table.get 0 w.resv c + 65536 * Table.get 0 w.resvHeld c)
  else if 0x1000 ≤ ofs ∧ ofs < 0x1200 then
    let n := (ofs - 0x1000) / 0x20
    let r := s.swRing n
    match ofs % 0x20 with
    | 0x00 => s.returns (16 * r.txBase)
    | 0x04 => s.returns (r.txHead + 256 * r.txTail)
    | 0x08 => txrCredRead n s
    | 0x0C => s.returns (16 * r.rxBase)
    | 0x10 => rxrIdxRead n s
    | _ => s.returns 0
  else s.returns 0

/-- A write in the switch block: a Lathe's own ring registers (R356, R451). -/
def switchWrite (m ofs w : Nat) (s : State) : State :=
  let n := (ofs - 0x1000) / 0x20
  if ofs < 0x1000 ∨ 0x1200 ≤ ofs ∨ (isLathe m ∧ m ≠ 0x10 + n) then s
  else match ofs % 0x20 with
    | 0x00 => s.updSwRing n (fun r => { r with txBase := field w 4 14 })
    | 0x04 => txrIdxWrite n w s
    | 0x0C => s.updSwRing n (fun r => { r with rxBase := field w 4 14 })
    | 0x10 => rxrIdxWrite n w s
    | _ => s

/-! ### CAN FD controllers (R460 to R465) -/

/-- A word of an octet table. -/
def wordOf (t : Table Byte) (ofs : Nat) : Nat := ofLE ((List.range 4).map (fun i => Table.get 0 t (ofs + i)))

/-- A read in the block of controller `n`. -/
def canRead (n ofs : Nat) (s : State) : State :=
  let c := s.can n
  if 0x100 ≤ ofs ∧ ofs < 0x148 then s.returns (wordOf c.staging (ofs - 0x100))
  else if 0x200 ≤ ofs ∧ ofs < 0x248 then s.returns (uAt c.view.octets (ofs - 0x200) 4)
  else if 0x300 ≤ ofs ∧ ofs < 0x380 then s.returns ((c.buf ((ofs - 0x300) / 4)).word ((ofs - 0x300) / 4))
  else if 0x400 ≤ ofs ∧ ofs < 0x600 then
    let f := Table.get ({} : CanFilter) c.filters ((ofs - 0x400) / 16)
    s.returns (match ofs % 16 with
      | 0 => f.id + bitIf 29 f.ide + bitIf 30 f.en
      | 4 => f.mask
      | 8 => f.dest
      | _ => 0)
  else match ofs with
    | 0x00 => s.returns c.ctrlWord
    | 0x04 => s.returns c.nbt
    | 0x08 => s.returns c.dbt
    | 0x0C => s.returns c.status
    | 0x18 => s.returns (wrap 32 c.rxNew)
    | 0x1C => s.returns (c.rxNew / 2 ^ 32)
    | 0x20 => canCnt0Read n s
    | 0x24 => canCnt1Read n s
    | _ => s.returns 0

/-- A write of CAN_TX_CMD (R460 to R463). -/
def Can.command (c : Can) (w : Nat) : Can :=
  let b := field w 0 5
  match field w 5 2 with
  | 0 => c.load b
  | 1 => c.cancel b
  | 2 => c.release b
  | _ => c.startRecovery

/-- A write of CAN_TXB `b`: CLASS unless the buffer is PENDING or ACTIVE, and the W1C flag (R462). -/
def Can.bufWrite (c : Can) (b w : Nat) : Can :=
  let t := c.buf b
  let flip := decide (24 ≤ b) != bitAt w 3
  c.setBuf b { t with classFlip := if t.state = 1 ∨ t.state = 2 then t.classFlip else flip, cxlFailed := t.cxlFailed && !bitAt w 4 }

/-- A write of a filter's registers (R456). -/
def CanFilter.write (f : CanFilter) (ofs w : Nat) : CanFilter :=
  match ofs with
  | 0 => { f with id := field w 0 29, ide := bitAt w 29, en := bitAt w 30 }
  | 4 => { f with mask := field w 0 29 }
  | 8 => { f with dest := field w 0 7 }
  | _ => f

/-- A write in the block of controller `n` (R465): CAN_CTRL, CAN_NBT and CAN_DBT by the Sheaf alone. -/
def canWrite (m n ofs w : Nat) (s : State) : State :=
  let cfg (f : Can → Can) : State := if isSheaf m then s.updCan n f else s
  if 0x100 ≤ ofs ∧ ofs < 0x148 then s.updCan n (fun c => { c with staging := putOctets c.staging (ofs - 0x100) (toLE 4 w) })
  else if 0x300 ≤ ofs ∧ ofs < 0x380 then s.updCan n (fun c => c.bufWrite ((ofs - 0x300) / 4) w)
  else if 0x400 ≤ ofs ∧ ofs < 0x600 then
    s.updCan n (fun c => { c with filters := Table.upd ({} : CanFilter) c.filters ((ofs - 0x400) / 16) (fun f => f.write (ofs % 16) w) })
  else match ofs with
    | 0x00 => cfg (fun c => c.configure w c.nbt c.dbt)
    | 0x04 => cfg (fun c => c.configure c.ctrlWord w c.dbt)
    | 0x08 => cfg (fun c => c.configure c.ctrlWord c.nbt w)
    | 0x10 => s.updCan n (fun c => c.command w)
    | 0x14 => s.updCan n (fun c => c.fetch w)
    | _ => s

/-! ### Chisel groups (R407 to R416) -/

/-- A read in the block of group `g`. -/
def chiselRead (g ofs : Nat) (s : State) : State :=
  let c := s.chisel g
  if 0x40 ≤ ofs ∧ ofs < 0x60 then s.returns (c.engine ((ofs - 0x40) / 4)).cfg.reload
  else if 0x100 ≤ ofs ∧ ofs < 0x200 then
    let k := 8 * g + (ofs - 0x100) / 0x20
    let r := s.chsEngine k
    match ofs % 0x20 with
    | 0x00 => s.returns (r.cfg.word 0)
    | 0x04 => s.returns (r.cfg.word 1)
    | 0x08 => s.returns (r.cfg.word 2)
    | 0x0C => s.returns (r.cfg.word 3)
    | 0x14 => doutRead k s
    | 0x18 => s.returns r.status
    | 0x1C => chsCntRead k s
    | _ => s.returns 0
  else if 0x200 ≤ ofs ∧ ofs < 0x260 then s.returns (Table.get 0 c.store ((1 - c.liveHalf) * 24 + (ofs - 0x200) / 4))
  else if 0x280 ≤ ofs ∧ ofs < 0x2E0 then s.returns (Table.get 0 c.store (c.liveHalf * 24 + (ofs - 0x280) / 4))
  else if 0x10 ≤ ofs ∧ ofs < 0x20 then s.returns (field c.grant (32 * ((ofs - 0x10) / 4)) 32)
  else match ofs with
    | 0x00 => s.returns c.ctrlWord
    | 0x08 => s.returns (c.flags + 256 * c.flagEn + 65536 * c.sync + 16777216 * c.faultFlags)
    | 0x0C => chsGcntRead g s
    | _ => s.returns 0

/-- A write of CHS_FLAGS (R413, R416). -/
def ChsGroup.flagsWrite (c : ChsGroup) (w : Nat) : ChsGroup :=
  { c with flags := w1c c.flags (field w 0 8), flagEn := field w 8 8, faultFlags := w1c c.faultFlags (field w 24 8) }

/-- A write in the block of group `g`. -/
def chiselWrite (g ofs w : Nat) (s : State) : State :=
  let upd (f : ChsGroup → ChsGroup) : State := s.updChisel g f
  if 0x40 ≤ ofs ∧ ofs < 0x60 then
    let r := (s.chisel g).engine ((ofs - 0x40) / 4)
    upd (fun c => c.setEngine ((ofs - 0x40) / 4) { r with cfg := { r.cfg with reload := w } })
  else if 0x100 ≤ ofs ∧ ofs < 0x200 then
    let k := 8 * g + (ofs - 0x100) / 0x20
    let r := s.chsEngine k
    match ofs % 0x20 with
    | 0x00 => s.setEngine k (r.configure (s.chisel g).grant 0 w)
    | 0x04 => s.setEngine k (r.configure (s.chisel g).grant 1 w)
    | 0x08 => s.setEngine k (r.configure (s.chisel g).grant 2 w)
    | 0x0C => s.setEngine k (r.configure (s.chisel g).grant 3 w)
    | 0x10 => s.setEngine k (r.dinWrite (BitVec.ofNat 32 w))
    | _ => s
  else if 0x200 ≤ ofs ∧ ofs < 0x260 then upd (fun c => c.storeWrite ((ofs - 0x200) / 4) w)
  else match ofs with
    | 0x00 => upd (fun c => c.control w)
    | 0x04 => upd (fun c => c.startWrite w)
    | 0x08 => upd (fun c => c.flagsWrite w)
    | _ => s

/-! ### Time bases, compare units, capture pins, insertion (R485 to R502) -/

/-- TB_CONV_NS, TB_CONV_SEC and TB_CONV_FRAC by index, of the result in units of 2^-16 ns; zero until it is ready (R494). -/
def convWord (b : TimeBase) (clk i : Nat) : Nat :=
  if clk < b.convReady then 0
  else match i with
    | 0 => b.conv / 2 ^ 16 % 1000000000
    | 1 => wrap 32 (b.conv / 2 ^ 16 / 1000000000)
    | _ => b.conv / 2 ^ 16 / 1000000000 / 2 ^ 32 + 65536 * wrap 16 b.conv

/-- A read of base `n` by master `m`. -/
def baseRead (m n ofs : Nat) (s : State) : State :=
  let b := s.base n
  let l := s.latch (n * 64 + m)
  match ofs with
  | 0x00 => tbNsRead m n s
  | 0x04 => s.returns (wrap 32 l.sec)
  | 0x08 => s.returns (l.sec / 2 ^ 32 + 65536 * l.frac)
  | 0x0C => s.returns (toU 32 b.adj)
  | 0x10 => s.returns (bitIf 0 b.servoEn + 2 * b.lockN + 256 * b.lockNs + 2 ^ 20 * b.holdoverMs)
  | 0x14 => s.returns b.kp
  | 0x18 => s.returns b.ki
  | 0x1C => s.returns b.adjMax
  | 0x24 => tbStatusRead n s
  | 0x28 => s.returns b.convLo
  | 0x2C => s.returns b.convHi
  | 0x30 => s.returns (convWord b s.time.clk 0)
  | 0x34 => s.returns (convWord b s.time.clk 1)
  | 0x38 => s.returns (convWord b s.time.clk 2)
  | 0x3C => s.returns b.stepNs
  | _ => s.returns 0

/-- A write of the servo registers by the Sheaf (R490, R492). -/
def TimeBase.servoWrite (b : TimeBase) (ofs w : Nat) : TimeBase :=
  match ofs with
  | 0x10 => { b with servoEn := bitAt w 0, lockN := field w 1 7, lockNs := field w 8 12, holdoverMs := field w 20 12 }
  | 0x14 => { b with kp := w }
  | 0x18 => { b with ki := w }
  | 0x1C => { b with adjMax := wrap 31 w }
  | 0x3C => { b with stepNs := wrap 15 w }
  | _ => b

/-- A write of base `n`; STEP_NS of TB0 is held at zero (R492). -/
def baseWrite (m n ofs w : Nat) (s : State) : State :=
  match ofs with
  | 0x20 => tbOfsWrite m n (BitVec.ofNat 32 w) s
  | 0x28 => convLoWrite m n w s
  | 0x2C => tbConvHiWrite m n (BitVec.ofNat 32 w) s
  | _ => if isSheaf m ∧ !(n = 0 ∧ ofs = 0x3C) then s.updBase n (fun b => b.servoWrite ofs w) else s

/-- A read in the time block. -/
def timeRead (m ofs : Nat) (s : State) : State :=
  if ofs < 0x200 then baseRead m (ofs / 0x40) (ofs % 0x40) s
  else if 0x400 ≤ ofs ∧ ofs < 0x600 then
    let u := (ofs - 0x400) / 16
    match ofs % 16 with
    | 0 => s.returns (s.cmp u).ctlWord
    | 4 => s.returns (s.cmp u).target
    | 8 => s.returns (s.cmp u).period
    | _ => cmpStatusRead u s
  else if 0x800 ≤ ofs ∧ ofs < 0x880 then
    let p := (ofs - 0x800) / 16
    let c := s.cap p
    match ofs % 16 with
    | 0 => s.returns (c.edge + bitIf 2 c.snap + 256 * c.filt)
    | 4 => s.returns (wrap 32 c.head)
    | 8 => capHiRead p s
    | _ => capStatusRead p s
  else if 0xA00 ≤ ofs ∧ ofs < 0xB00 then
    let n := (ofs - 0xA00) / 16
    match ofs % 16 with
    | 0 => tsInsCfgRead n s
    | 4 => s.returns (s.tsIns n).lastSec
    | 8 => s.returns (s.tsIns n).lastNs
    | _ => s.returns 0
  else s.returns 0

/-- A write of TS_INS_CFG (R502). -/
def TsIns.write (t : TsIns) (w : Nat) : TsIns :=
  { t with mode := field w 0 2, tb := field w 2 3, tsNew := t.tsNew && !bitAt w 5, ofs := field w 6 10, cfOfs := field w 16 10 }

/-- A write of a compare unit by its owner (R492, R496). -/
def cmpWrite (m u ofs w : Nat) (s : State) : State :=
  if !ownsUnit s m u then s
  else match ofs with
    | 0 => s.updCmp u (fun k => k.control w)
    | 4 => cmpTargetWrite m u (BitVec.ofNat 32 w) s
    | 8 => s.updCmp u (fun k => { k with period := storedPeriod w })
    | _ => s.updCmp u (fun k => { k with late := k.late && !bitAt w 0, stepped := k.stepped && !bitAt w 1 })

/-- A write in the time block. -/
def timeWrite (m ofs w : Nat) (s : State) : State :=
  if ofs < 0x200 then baseWrite m (ofs / 0x40) (ofs % 0x40) w s
  else if 0x400 ≤ ofs ∧ ofs < 0x600 then cmpWrite m ((ofs - 0x400) / 16) (ofs % 16) w s
  else if 0x800 ≤ ofs ∧ ofs < 0x880 ∧ ofs % 16 = 0 ∧ isSheaf m then
    s.updCap ((ofs - 0x800) / 16) (fun c => { c with edge := field w 0 2, snap := bitAt w 2, filt := field w 8 8 })
  else if 0xA00 ≤ ofs ∧ ofs < 0xB00 ∧ ofs % 16 = 0 ∧ (isSheaf m ∨ m = 0x10 + (ofs - 0xA00) / 16) then
    s.updTsIns ((ofs - 0xA00) / 16) (fun t => t.write w)
  else s

/-! ### Check units, mailboxes, bank ownership -/

/-- A write of check unit `n` by the master it belongs to (R572). -/
def unitWrite (m n ofs w : Nat) (s : State) : State :=
  if (match (s.chkUnit n).lathe with | some e => m == 0x10 + e | none => isSheaf m) then chkWrite n ofs w s else s

/-- A read of MBX_STATUS or MBX_CTRL by the sender or receiver of a channel (R307). -/
def chanRead (m ch : Nat) (f : MbxChannel → Nat) (s : State) : State :=
  let c := s.chan ch
  if s.isSender c m || c.isReceiver m then s.returns (f c) else (s.violation m ch).returns 0

/-- A read in the map shared by the host window and the internal view, below 0x600 (R320). -/
def mbxMapRead (m ofs : Nat) (s : State) : State :=
  if ofs < 0x400 then
    match ofs % 16 with
    | 0 => dataRead m (ofs / 16) s
    | 4 => chanRead m (ofs / 16) (·.status) s
    | 8 => mbxEvcntRead m (ofs / 16) s
    | _ => chanRead m (ofs / 16) (·.ctrl) s
  else if ofs < 0x440 then lockRead m ((ofs - 0x400) / 4) s
  else if ofs = 0x500 then s.returns (s.bells m).pend
  else if ofs = 0x504 then s.returns (s.bells m).enable
  else if 0x510 ≤ ofs ∧ ofs < 0x530 then dbEvcntRead m ((ofs - 0x510) / 4) s
  else s.returns 0

/-- A write of MBX_EVCNT (RC: ignored) or MBX_CTRL, refused for a master that the channel is not bound to (R302, R307). -/
def chanWrite (m ch ofs w : Nat) (s : State) : State :=
  let c := s.chan ch
  if m = 0 then mbxCtrlWrite m ch (if ofs = 12 then w else c.ctrl) s
  else if s.isSender c m || c.isReceiver m then s else s.violation m ch

/-- A write in the map shared by the host window and the internal view, below 0x600 (R320). -/
def mbxMapWrite (m ofs w : Nat) (s : State) : State :=
  if ofs < 0x400 then
    match ofs % 16 with
    | 0 => mbxWrite m (ofs / 16) (BitVec.ofNat 32 w) s
    | 4 => mbxStatusWrite m (ofs / 16) w s
    | r => chanWrite m (ofs / 16) r w s
  else if ofs < 0x440 then lockWrite m ((ofs - 0x400) / 4) s
  else if ofs = 0x500 then dbPendWrite m (BitVec.ofNat 32 w) s
  else if ofs = 0x504 then dbEnableWrite m (BitVec.ofNat 32 w) s
  else if ofs = 0x508 then dbRingWrite m (BitVec.ofNat 32 w) s
  else s

/-- The word of MBX_BIND. -/
def MbxChannel.bindWord (c : MbxChannel) : Nat :=
  c.sender + 64 * c.receiver + 4096 * c.remoteNode + 2 ^ 20 * c.lock + bitIf 24 c.valid

/-- A read of the internal mailbox view (R320). -/
def mbxViewRead (m ofs : Nat) (s : State) : State :=
  if ofs < 0x600 then mbxMapRead m ofs s
  else if 0x1000 ≤ ofs ∧ ofs < 0x1100 then s.returns (s.chan ((ofs - 0x1000) / 4)).bindWord
  else if ofs = 0x1100 then s.returns (bitIf 0 s.mbx.bindLocked)
  else s.returns 0

/-- A write of the internal mailbox view (R302, R320). -/
def mbxViewWrite (m ofs w : Nat) (s : State) : State :=
  if ofs < 0x600 then mbxMapWrite m ofs w s
  else if 0x1000 ≤ ofs ∧ ofs < 0x1100 then mbxBindWrite m ((ofs - 0x1000) / 4) (BitVec.ofNat 32 w) s
  else if ofs = 0x1100 then mbxBindLock m (BitVec.ofNat 32 w) s
  else s

/-- A read in the block of bank ownership (R566, R570). -/
def poolRegRead (ofs : Nat) (s : State) : State :=
  if ofs < 0x100 then s.returns (s.bank (ofs / 4)).word
  else if ofs < 0x200 then poolEccRead ((ofs - 0x100) / 4) s
  else if ofs = 0x200 then s.returns (s.pool.errWord + 65536 * s.pool.errBank + bitIf 22 s.pool.errValid)
  else s.returns 0

/-! ### Fabric (19_fabric_topology, 20_fabric_cycle_and_sleep) -/

/-- The word of FAB_NODE. -/
def State.fabNodeWord (s : State) : Nat :=
  s.cell.node + bitIf 8 s.cell.nodeValid + 512 * s.fab.nodeSrc + bitIf 11 (s.inFabric && s.fab.mine == 3) +
    bitIf 12 s.fab.active + 65536 * (if s.inFabric then s.members.length else 0)

/-- The word of FAB_PORT `p`. -/
def FabPort.word (k : FabPort) : Nat :=
  bitIf 0 k.link + bitIf 1 k.blockLock + bitIf 2 k.hiBer + 8 * (if k.media = 0xFF then 3 else wrap 2 k.media) +
    256 * wrap 8 k.linkDowns + 65536 * wrap 16 k.checkErr

/-- The word of FAB_RING `r`: breaks when OPEN. -/
def State.fabRingWord (s : State) (r : Nat) : Nat :=
  let k := s.fabRing r
  k.state + (if k.state = 2 then 256 * k.east + 65536 * k.west else 0) + 2 ^ 24 * (s.ringMembers r).length

/-- The word of FAB_CYCLE. -/
def State.fabCycleWord (s : State) : Nat :=
  s.fab.master + bitIf 8 (s.keepsTime 0) + bitIf 9 (s.keepsTime 1) + bitIf 10 (s.fab.coldOk.contains s.cell.node) +
    bitIf 11 (s.base 0).locked + 65536 * wrap 16 s.fab.sched.gen

/-- A read in the fabric block. The filtered level of FWAKE_N after the assertion of the row FWAKE_N_ASSERT is not reported by a
row: FWAKE_IN is a free bit from then on (log entry 57). -/
def fabricRead (ofs : Nat) (s : State) : State :=
  let f := s.fab
  if ofs = 0 then s.returns s.fabNodeWord
  else if 0x10 ≤ ofs ∧ ofs < 0x20 then s.returns (s.fabPort ((ofs - 0x10) / 4)).word
  else if 0x20 ≤ ofs ∧ ofs < 0x28 then s.returns (s.fabRingWord ((ofs - 0x20) / 4))
  else if ofs = 0x40 then s.returns s.fabCycleWord
  else if ofs = 0x44 then s.returns (bitIf 0 f.listenOnly + 2 * f.extrap + 256 * wrap 8 f.guardCuts)
  else if ofs = 0x48 then
    let x := s.freeBelow 2
    let low := f.sleep.fwakeIn && x.1 == 1
    (if f.sleep.fwakeIn then x.2 else s).returns
      (f.sleep.state + bitIf 2 (f.sleep.nodes.contains s.cell.node) + bitIf 3 f.sleep.latch + 16 * f.sleep.src + bitIf 6 low +
        256 * wrap 8 f.falseWakes)
  else if ofs = 0x4C then s.returns (wrap 32 f.sleep.pnr)
  else if 0x50 ≤ ofs ∧ ofs < 0x60 then s.returns (toU 32 (s.fabPort ((ofs - 0x50) / 4)).delay)
  else if 0x100 ≤ ofs ∧ ofs < 0x500 then
    let d := (ofs - 0x100) / 4
    let r := s.route d
    s.returns (r.1 + bitIf 2 (decide (d = s.cell.node) && s.cell.nodeValid) + 256 * r.2.1 + 65536 * r.2.2 + 2 ^ 24 * s.routeHops d)
  else s.returns 0

/-! ### PWM and converters (R160, R162, R167, R170) -/

/-- The axis bound to direct-drive unit `u`. -/
def State.ddAxis (s : State) (u : Nat) : Option Nat :=
  (s.motion.axes.find? (fun p => p.2.binding.isDd && p.2.binding.unit == u)).map Prod.fst

/-- The word of PWM_DD_CFG: EN is read as the axis being enabled (log entry 66). -/
def Axis.ddCfgWord (x : Axis) : Nat :=
  wrap 2 x.dd.comm + bitIf 2 x.driving + 16 * wrap 6 x.dd.iaIn + 1024 * wrap 6 x.dd.ibIn + 65536 * wrap 6 x.dd.vbIn +
    bitIf 22 (x.dd.ibIn != 0xFF) + 2 ^ 23 * wrap 7 x.dd.drvEnPin

/-- The word of PWM_DD_STATUS. -/
def Axis.ddStatusWord (x : Axis) : Nat :=
  bitIf 0 x.driving + bitIf 1 x.trip + bitIf 2 x.vsat + bitIf 3 x.ilim + bitIf 4 x.brakeReq + 256 * min 255 x.ddTrips

/-- A read in the PWM and converter block. A unit that no axis is bound to reads as zero (log entry 66). -/
def pwmRead (ofs : Nat) (s : State) : State :=
  let m := s.motion
  if ofs = 0 then
    s.returns (m.pwmN + (if m.pwmN = 0 then 0 else 256 * (pwmCounts s.tickLen / m.pwmN)) + bitIf 24 (m.pwmN != 0))
  else if 0x100 ≤ ofs ∧ ofs < 0x300 then
    s.returns (match s.ddAxis ((ofs - 0x100) / 16) with
      | some a => if ofs % 16 = 0 then (s.axis a).ddCfgWord else if ofs % 16 = 4 then (s.axis a).ddStatusWord else 0
      | none => 0)
  else if 0x400 ≤ ofs ∧ ofs < 0x600 then
    let c := (ofs - 0x400) / 0x80
    let k := s.adc c
    let r := (ofs - 0x400) % 0x80
    if r = 0 then s.returns (k.inputEn + 65536 * (c + 1) + bitIf 24 k.busy)
    else if 0x40 ≤ r then
      s.returns (Table.get 0 k.codes ((r - 0x40) / 4) + bitIf 16 (bitAt k.valid ((r - 0x40) / 4)) + 2 ^ 24 * k.tickLsb)
    else s.returns 0
  else s.returns 0

/-- A direct-drive axis with PWM_DD_CFG written: a unit is enabled only while N > 0 (R160). -/
def Axis.ddCfgWrite (x : Axis) (n w : Nat) : Axis :=
  { x with driving := bitAt w 2 && n != 0
           dd := { x.dd with comm := field w 0 2, iaIn := field w 4 6, ibIn := if bitAt w 22 then field w 10 6 else 0xFF
                             vbIn := field w 16 6, drvEnPin := field w 23 7 } }

/-- A write by the Sheaf in the PWM and converter block; the Lathes only read it (R356). -/
def pwmWrite (m ofs w : Nat) (s : State) : State :=
  if !isSheaf m then s
  else if ofs = 0 then { s with motion := { s.motion with pwmN := wrap 7 w } }
  else if 0x100 ≤ ofs ∧ ofs < 0x300 then
    match s.ddAxis ((ofs - 0x100) / 16) with
    | some a =>
      if ofs % 16 = 0 then s.updAxis a (fun x => x.ddCfgWrite s.motion.pwmN w)
      else if ofs % 16 = 4 then s.updAxis a (fun x => { x with trip := x.trip && !bitAt w 1 })
      else s
    | none => s
  else if 0x400 ≤ ofs ∧ ofs < 0x600 ∧ (ofs - 0x400) % 0x80 = 0 then s.updAdc ((ofs - 0x400) / 0x80) (fun k => { k with inputEn := wrap 16 w })
  else s

/-! ### The Winnower (22_background_and_self_test, R663) -/

/-- 32 bits of a mask of unusable blocks (WNW_UNUSABLE `k`). -/
def State.unusableWord (s : State) (k : Nat) : Nat :=
  ((List.range 32).filter (fun b => s.lost (32 * k + b))).foldl (fun n b => n + 2 ^ b) 0

/-- The word of WNW_TEMP: grade I to 105, grade X to 125 degrees C (R663). -/
def WnwState.tempWord (w : WnwState) (grade : Nat) : Nat :=
  let max : Int := if grade = 2 then 500 else 420
  let units (ms : Nat) : Nat := ms / 60000 / 256 % 256
  toU 10 w.tj + bitIf 10 (decide (max < w.tj)) + 65536 * units w.hot85 + 2 ^ 24 * units w.hot105

/-- A read in the Winnower's block. A spare exists while all nine Tillers are usable (R129). -/
def wnwRead (ofs : Nat) (s : State) : State :=
  let w := s.wnw
  let spare := (List.range 9).all (fun n => !s.lost (21 + n))
  match ofs with
  | 0x00 => s.returns (bitIf 0 w.run + bitIf 1 s.jrnl.deferring + bitIf 2 spare + 8 * s.motion.spare + 256 * w.spareSlice)
  | 0x04 => s.returns (wrap 20 (s.scrub 0).burst + 2 ^ 20 * wrap 8 (s.scrub 0).passes)
  | 0x30 => s.returns (w.tempWord s.cell.grade)
  | _ =>
    if 0x10 ≤ ofs ∧ ofs < 0x20 then s.returns (s.unusableWord ((ofs - 0x10) / 4))
    else if 0x20 ≤ ofs ∧ ofs < 0x30 then
      let c := s.calib ((ofs - 0x20) / 4)
      s.returns (toU 16 c.ofs + 65536 * field c.gain 2 16)
    else s.returns 0

/-! ### The internal view -/

/-- A read of a peripheral register by an internal master; what no block answers reads as zero (R6). -/
def regRead (m addr : Nat) (s : State) : State :=
  let o := addr - 0x40000000
  if addr < 0x40000000 then s.returns 0
  else if o < 0xC000 then macRead (o / 0x1000) (o % 0x1000) s
  else if o < 0x10000 then s.returns 0
  else if o < 0x20000 then switchRead (o - 0x10000) s
  else if o < 0x22000 then canRead ((o - 0x20000) / 0x800) (o % 0x800) s
  else if o < 0x30000 then s.returns 0
  else if o < 0x32000 then chiselRead ((o - 0x30000) / 0x400) (o % 0x400) s
  else if o < 0x40000 then s.returns 0
  else if o < 0x50000 then timeRead m (o - 0x40000) s
  else if o < 0x50400 then
    if o % 0x40 = 0x24 then chkCntRead ((o - 0x50000) / 0x40) s else s.returns ((s.chkUnit ((o - 0x50000) / 0x40)).word (o % 0x40))
  else if o < 0x60000 then s.returns 0
  else if o < 0x70000 then mbxViewRead m (o - 0x60000) s
  else if o < 0x80000 then poolRegRead (o - 0x70000) s
  else if o < 0x90000 then fabricRead (o - 0x80000) s
  else if o < 0xA0000 then pwmRead (o - 0x90000) s
  else if o < 0xA1000 then wnwRead (o - 0xA0000) s
  else s.returns 0

/-- A write of a peripheral register by an internal master, by the access codes of its fields (R5); what no block answers ignores
it (R6). -/
def regWrite (m addr w : Nat) (s : State) : State :=
  let o := addr - 0x40000000
  if addr < 0x40000000 then s
  else if o < 0xC000 then macWrite m (o / 0x1000) (o % 0x1000) w s
  else if o < 0x10000 then s
  else if o < 0x20000 then switchWrite m (o - 0x10000) w s
  else if o < 0x22000 then canWrite m ((o - 0x20000) / 0x800) (o % 0x800) w s
  else if o < 0x30000 then s
  else if o < 0x32000 then chiselWrite ((o - 0x30000) / 0x400) (o % 0x400) w s
  else if o < 0x40000 then s
  else if o < 0x50000 then timeWrite m (o - 0x40000) w s
  else if o < 0x50400 then unitWrite m ((o - 0x50000) / 0x40) (o % 0x40) w s
  else if o < 0x60000 then s
  else if o < 0x70000 then mbxViewWrite m (o - 0x60000) w s
  else if o < 0x70100 then poolOwnerWrite m ((o - 0x70000) / 4) w s
  else if o < 0x90000 then s
  else if o < 0xA0000 then pwmWrite m (o - 0x90000) w s
  else s

/-! ### Engine registers of a Lathe (R366, R376, R378, R401, R402) -/

/-- LTH_XVEC of a level. -/
def LthLevel.xvec (l : LthLevel) : Nat := l.handler + bitIf 16 l.xen

/-- LTH_XCAUSE of level `v`. -/
def LthLevel.xcauseWord (l : LthLevel) (v : Nat) : Nat := l.xcause + 256 * l.trapNo + 65536 * v + bitIf 18 l.inBlk

/-- A read of an engine register by level `v` of engine `e` (500 MHz, R354). -/
def lthRead (e v ofs : Nat) (s : State) : Nat :=
  let l := s.lathe e
  let x := l.level v
  match ofs with
  | 0x00 => e + 16 * l.live + 256 * s.cell.node + bitIf 16 s.isShadow
  | 0x14 => l.postStamp
  | 0x20 => wrap 20 ((s.gtc - s.cell.edge) / 2) + 2 ^ 24 * v
  | 0x60 => l.phase.xvec
  | 0x64 => l.rx.xvec
  | 0x68 => l.bg.xvec
  | 0x70 => l.phase.sptop.toNat
  | 0x74 => l.rx.sptop.toNat
  | 0x78 => l.bg.sptop.toNat
  | 0x80 => x.xcauseWord v
  | 0x84 => x.xaddr.toNat
  | 0x88 => x.xdata.toNat
  | 0x8C => x.xnext.toNat
  | _ => if 0x40 ≤ ofs ∧ ofs < 0x54 then uAt l.telemData (ofs - 0x40) 4 else 0

/-- An engine with LTH_XVEC of a level written. -/
def Lathe.xvecWrite (l : Lathe) (v w : Nat) : Lathe := l.setLevel v { l.level v with handler := wrap 16 w, xen := bitAt w 16 }

/-- An engine with LTH_SPTOP of a level written. -/
def Lathe.sptopWrite (l : Lathe) (v w : Nat) : Lathe := l.setLevel v { l.level v with sptop := BitVec.ofNat 32 (w / 4 * 4) }

/-- A write of an engine register by level `v` of engine `e`. -/
def lthWrite (e v ofs w : Nat) (s : State) : State :=
  let upd (f : Lathe → Lathe) : State := s.updLathe e f
  match ofs with
  | 0x10 => postWrite e w s
  | 0x14 => upd (fun l => { l with postStamp := w })
  | 0x30 => telemWrite e w s
  | 0x60 => upd (fun l => l.xvecWrite 0 w)
  | 0x64 => upd (fun l => l.xvecWrite 1 w)
  | 0x68 => upd (fun l => l.xvecWrite 2 w)
  | 0x70 => upd (fun l => l.sptopWrite 0 w)
  | 0x74 => upd (fun l => l.sptopWrite 1 w)
  | 0x78 => upd (fun l => l.sptopWrite 2 w)
  | 0x8C => upd (fun l => l.setLevel v { l.level v with xnext := BitVec.ofNat 32 w })
  | _ => if 0x40 ≤ ofs ∧ ofs < 0x54 then upd (fun l => { l with telemData := putAt l.telemData (ofs - 0x40) (toLE 4 w) }) else s

/-- Whether R356 grants engine `e` a peripheral register, for a read or a write. -/
def State.granted (s : State) (e addr : Nat) (write : Bool) : Bool :=
  let o := addr - 0x40000000
  if addr < 0x40000000 then false
  else if o < 0xC000 then (s.mac (o / 0x1000)).owner == some e
  else if o < 0x10000 then false
  else if o < 0x20000 then !write || (decide (0x11000 + e * 0x20 ≤ o) && decide (o < 0x11020 + e * 0x20))
  else if o < 0x22000 then (s.can ((o - 0x20000) / 0x800)).owner == some e
  else if o < 0x30000 then false
  else if o < 0x32000 then (s.chisel ((o - 0x30000) / 0x400)).owner == some e
  else if o < 0x40000 then false
  else if o < 0x50000 then
    let t := o - 0x40000
    !write || (if t < 0x200 then s.baseLathe (t / 0x40) == some e
      else if 0x400 ≤ t ∧ t < 0x600 then ownsUnit s (0x10 + e) ((t - 0x400) / 16)
      else decide (0xA00 + 16 * e ≤ t) && decide (t < 0xA10 + 16 * e))
  else if o < 0x50400 then (s.chkUnit ((o - 0x50000) / 0x40)).lathe == some e
  else if o < 0x60000 then false
  else if o < 0x62000 then true
  else if o < 0x70000 then false
  else if o < 0x71000 then !write
  else if o < 0x80000 then false
  else if o < 0xA1000 then !write
  else false

/-! ### The host register window (R320, R321) -/

/-- HOST_GTC_LO latches the GTC, the tick count and the offset from the tick edge for the port (R321). -/
def gtcLoRead (p : Nat) (s : State) : State :=
  let g := s.gtc
  let v := s.port p
  (s.setPort p { v with gtcLatch := g, tickLatch := wrap 32 s.cell.tick, ofsLatch := wrap 20 (g - s.cell.edge) }).returns (wrap 32 g)

/-- HOST_GTC_LO_READ: latches GTC, tick count and offset for the port (R321). -/
def execHostGtcLoRead (p : Nat) (s : State) : Result :=
  if isHost p then .next (gtcLoRead p s) else .fault (.noSuchUnit p)

/-- A read of HOST_ACCESS_ERR returns and clears the port's count (R8, R320). -/
def accessErrRead (p : Nat) (s : State) : State :=
  let v := s.port p
  (s.setPort p { v with accessErr := 0 }).returns v.accessErr

/-- HOST_ACCESS_ERR_READ: reads and clears the port's refused-access count (R320). -/
def execHostAccessErrRead (p : Nat) (s : State) : Result :=
  if isHost p then .next (accessErrRead p s) else .fault (.noSuchUnit p)

/-- An aligned 32-bit read of the host register window by port `p` (R320). -/
def hostRead (p ofs : Nat) (s : State) : State :=
  let v := s.port p
  if ofs % 4 ≠ 0 ∨ 0x10000 ≤ ofs then (s.accessErr p).returns 0
  else if ofs < 0x600 then mbxMapRead p ofs s
  else match ofs with
    | 0x600 => gtcLoRead p s
    | 0x604 => s.returns (v.gtcLatch / 2 ^ 32)
    | 0x608 => s.returns v.tickLatch
    | 0x60C => s.returns v.ofsLatch
    | 0x800 => s.returns s.devId
    | 0x804 => s.returns s.fwWord
    | 0x808 => s.returns (s.nodeWord p)
    | 0x80C => s.returns s.cell.epoch
    | 0x810 => s.returns s.stateWord
    | 0x814 => accessErrRead p s
    | 0x818 => s.returns (s.outstanding p).length
    | _ => s.returns 0

/-- An aligned 32-bit write of the host register window by port `p` (R320). -/
def hostWrite (p ofs w : Nat) (s : State) : State :=
  if ofs % 4 ≠ 0 ∨ 0x10000 ≤ ofs then s.accessErr p
  else if ofs < 0x600 then mbxMapWrite p ofs w s
  else s

/-- A register written by a master: a host port in its window, an internal master in the internal view, a Lathe only where R356
grants it. -/
def registerWrite (m addr w : Nat) (s : State) : State :=
  if isHost m then hostWrite m addr w s
  else if isLathe m then
    let e := m - 0x10
    if 0x20000000 ≤ addr ∧ addr < 0x20000100 then lthWrite e (((s.lathe e).running).getD 2) (addr - 0x20000000) w s
    else if s.granted e addr true then regWrite m addr w s
    else latheFault e 3 addr (s.accessFault e)
  else if isSheaf m || m == 0x20 then regWrite m addr w s
  else s

/-- REGISTER_WRITE: a write to a register without behaviour of its own acts by its access codes (R5). -/
def execRegisterWrite (m addr : Nat) (w : Word) (s : State) : Result :=
  .next (if addr % 4 = 0 then registerWrite m addr w.toNat s else if isHost m then s.accessErr m else s)

/-! ### QSPI transactions (R655) -/

/-- Words of a register or pool write: the register map takes one word, the pool consecutive ones; a partial last word is not
written. -/
def qspiWrite (addr : Nat) (ws : List Word) (s : State) : State :=
  if field addr 25 6 ≠ 0 then s.accessErr 5
  else if bitAt addr 31 then
    (List.range ws.length).foldl (fun s i => poolAccess 6 0 (.write (toLE 4 ((ws[i]?).getD 0).toNat) false) (field addr 0 25 + 4 * i) s) s
  else
    match ws with
    | [] => s
    | w :: more => more.foldl (fun s _ => s.accessErr 5) (if field addr 16 9 = 0 then hostWrite 5 addr w.toNat s else s.accessErr 5)

/-- QSPI_WRITE: a QSPI write transaction to registers or pool (R655). -/
def execQspiWrite (addr : Nat) (ws : List Word) (s : State) : Result := .next (qspiWrite addr ws s)

/-- A read of `n` words: of the register map one, of the pool consecutive ones; the value left is the last word's (R655). -/
def qspiRead (addr n : Nat) (s : State) : State :=
  if field addr 25 6 ≠ 0 then (s.accessErr 5).returns 0
  else if bitAt addr 31 then
    (List.range n).foldl (fun s i => poolAccess 6 0 (.read 4 .none) (field addr 0 25 + 4 * i) s) s
  else if n = 0 then s
  else if field addr 16 9 ≠ 0 then (s.accessErr 5).returns 0
  else
    let s := hostRead 5 addr s
    (List.range (n - 1)).foldl (fun s _ => s.accessErr 5) s

/-- QSPI_READ: a QSPI read transaction from registers or pool (R655). -/
def execQspiRead (addr n : Nat) (s : State) : Result := .next (qspiRead addr n s)

end Sys2Proof.Machine
end

