-- ==== Sys2Proof/Machine/Operands.lean ====
section
/-! DEFINITION. Operand forms of the Lathe instructions: prefixes, modifier and addressing octets, effective addresses, and the
memory an image reaches (R356, R362, R383 to R388). -/

namespace Sys2Proof.Machine

/-! ### Prefixes (R384, R385) -/

/-- Which prefixes an instruction accepts beside NOFL and SYNC (R384). -/
structure LthAccepts where
  /-- .W and .D -/
  sized : Bool := false
  /-- BE -/
  be : Bool := false
  /-- DN -/
  dn : Bool := false
deriving DecidableEq, Repr

/-- The first prefix octet at which decoding fails (R385): a reserved one, a second one of its kind, a second size, or a fifth. -/
def badPrefix (p : List Byte) : Option Nat :=
  (List.range p.length).find? (fun i =>
    let b := (p.getD i 0).toNat
    let before := (p.take i).map BitVec.toNat
    decide (b < 0xE0) || decide (0xE5 < b) || before.contains b || (b == 0xE0 && before.contains 0xE1) || (b == 0xE1 && before.contains 0xE0) || decide (4 ≤ i))

/-- Whether a prefix is present that the instruction does not accept (R384). -/
def unaccepted (k : LthAccepts) (p : List Byte) : Bool :=
  p.any (fun b => ((b == 0xE0 || b == 0xE1) && !k.sized) || (b == 0xE2 && !k.be) || (b == 0xE3 && !k.dn))

/-- The operand size in octets (R383, R384). -/
def opSize (p : List Byte) : Nat := if p.contains 0xE1 then 4 else if p.contains 0xE0 then 2 else 1

/-! ### Modifier and addressing octets (R386) -/

/-- The first operand of a modifier octet. -/
def opD (m : Byte) : Nat := field m.toNat 4 4

/-- The second operand of a modifier octet. -/
def opS (m : Byte) : Nat := field m.toNat 0 4

/-- The displacement octets an addressing octet asks for. -/
def dispLen (a : Byte) : Nat := [0, 1, 2, 4].getD (field a.toNat 6 2) 0

/-- Whether an addressing octet asks for the increment after the access. -/
def postInc (a : Byte) : Bool := bitAt a.toNat 4

/-- Whether an addressing octet is illegal (R386): POST with IDX, or an index named without IDX. -/
def badA (a : Byte) : Bool := (postInc a && bitAt a.toNat 5) || (!bitAt a.toNat 5 && opS a != 0)

/-- The effective address (R386), modulo 2^32. -/
def effAddr (x : LthLevel) (base : Nat) (a : Byte) (disp size : Nat) : Nat :=
  let d := toS (8 * dispLen a) disp
  let i := if bitAt a.toNat 5 then (x.reg (opS a)).toNat * size else 0
  toU 32 ((x.reg base).toNat + (if dispLen a = 0 then 0 else d) + i)

/-- The value of octets as they stand in memory (R383, R384). -/
def ofMem (be : Bool) (bs : List Byte) : Nat := if be then ofBE bs else ofLE bs

/-- The octets of a value as they go to memory. -/
def toMem (be : Bool) (n v : Nat) : List Byte := if be then toBE n v else toLE n v

/-! ### Memory (R355, R356, R361, R362, R387) -/

/-- How an access ends: with the octets found, with an exception cause, or with a restart of the engine (R379, R401). -/
inductive MemEnd where
  | ok (bs : List Byte)
  | fault (cause : Nat)
  | restart
deriving DecidableEq, Repr

/-- The regions of R356 as an access meets them, each with the offset in it. -/
inductive Region where
  | live (ofs : Nat)
  | old (ofs : Nat)
  | regs (ofs : Nat)
  | staging (ofs : Nat)
  | outRecs (ofs : Nat)
  | periph
  | ctx (ofs : Nat)
  | pool (ofs : Nat)
  | none
deriving DecidableEq, Repr

/-- The region that holds all of an access (R356). -/
def regionOf (a n : Nat) : Region :=
  let fits (base size : Nat) : Bool := decide (base ≤ a) && decide (a + n ≤ base + size)
  if fits 0x10000000 0x40000 then .live (a - 0x10000000)
  else if fits 0x10040000 0x40000 then .old (a - 0x10040000)
  else if fits 0x20000000 0x100 then .regs (a - 0x20000000)
  else if fits 0x30000000 0x8000 then .staging (a - 0x30000000)
  else if fits 0x30008000 0x8000 then .outRecs (a - 0x30008000)
  else if fits 0x40000000 0xB0000 then .periph
  else if fits 0x50000000 0x40000 then .ctx (a - 0x50000000)
  else if fits 0x60000000 0x2000000 then .pool (a - 0x60000000)
  else .none

/-- A refused access (R356): counted, exception BUS. -/
def refuseAccess (e : Nat) (s : State) : State × MemEnd := (s.accessFault e, .fault 3)

/-- Octet `k` of flow context `i` (R362). -/
def State.ctxByte (s : State) (i k : Nat) : Byte :=
  let c := s.ctx i
  let head := toLE 2 i ++ toLE 1 (c.owner.getD 0) ++ toLE 1 c.net ++ toLE 2 c.format ++ [0, 0] ++ toLE 1 c.kind ++ toLE 1 c.state ++ [0, 0] ++ toLE 4 c.opened
  if k < 16 then head.getD k 0 else Table.get 0 c.body k

/-- Whether engine `e` holds every context of a stretch (R361). -/
def State.ctxOwned (s : State) (e ofs n : Nat) : Bool :=
  (s.ctx (ofs / 256)).owner == some e && (s.ctx ((ofs + n - 1) / 256)).owner == some e

/-- One octet written into a context by engine `e` (R362); a read field takes nothing. -/
def ctxPut (e i k : Nat) (b : Byte) (s : State) : State :=
  s.updCtx i (fun c =>
    if k = 8 then { c with kind := b.toNat, format := (s.lathe e).image.ctxFormat
                           opened := if c.kind = 0 ∧ b ≠ 0 then wrap 32 s.cell.tick else c.opened }
    else if k = 9 then { c with state := b.toNat }
    else if 16 ≤ k then { c with body := Table.set 0 c.body k b }
    else c)

/-- Whether an octet of a context header is read only (R362). -/
def ctxReadOnly (k : Nat) : Bool := decide (k < 8) || (decide (12 ≤ k) && decide (k < 16))

/-- Octets written into contexts; writes of read fields are counted once an access (R362). -/
def ctxWrite (e ofs : Nat) (bs : List Byte) (s : State) : State :=
  let s := (List.range bs.length).foldl (fun s j => ctxPut e ((ofs + j) / 256) ((ofs + j) % 256) (bs.getD j 0) s) s
  if (List.range bs.length).any (fun j => ctxReadOnly ((ofs + j) % 256)) then s.updLathe e (fun l => { l with ctxFault := wrap 32 (l.ctxFault + 1) }) else s

/-- Octets of a data half; an uncorrectable word restarts the engine (R379, R570). -/
def halfRead (e half ofs n : Nat) (s : State) : State × MemEnd :=
  let a := dataHalf e half + ofs
  match (wordsOf a n).find? (fun w => s.pool.ueWords.contains w) with
  | some w => (restartLathe e (s.uncorrectable w), .restart)
  | none => (s, .ok (s.memGet a n))

/-- A read of `n` octets at `a` by level `v` of engine `e` (R356, R387). -/
def lthLoad (e v a n : Nat) (s : State) : State × MemEnd :=
  let l := s.lathe e
  match regionOf a n with
  | .live o => halfRead e l.live o n s
  | .old o => if l.oldHalf then halfRead e (1 - l.live) o n s else refuseAccess e s
  | .regs o => if n = 4 ∧ o % 4 = 0 then (s, .ok (toLE 4 (lthRead e v o s))) else (s, .fault 4)
  | .staging _ => refuseAccess e s
  | .outRecs o => (s, .ok ((List.range n).map (fun i => Table.get 0 l.outRecs (o + i))))
  | .periph =>
    if !s.granted e a false then refuseAccess e s
    else if n ≠ 4 ∨ a % 4 ≠ 0 then (s, .fault 4)
    else let t := regRead (0x10 + e) a s; ({ t with rd := s.rd }, .ok (toLE 4 t.rd))
  | .ctx o => if s.ctxOwned e o n then (s, .ok ((List.range n).map (fun i => s.ctxByte ((o + i) / 256) ((o + i) % 256)))) else refuseAccess e s
  | .pool o =>
    match s.poolRead (0x10 + e) o n with
    | (t, .ok bs) => (t, .ok bs)
    | (t, .refused) => refuseAccess e t
    | (t, .bad) => if o / 0x80000 = 32 + e then (restartLathe e t, .restart) else (t, .fault 3)
  | .none => refuseAccess e s

/-- A write into the live data half: what falls into the environment block is ignored and counted (R355). -/
def halfWrite (e ofs : Nat) (bs : List Byte) (s : State) : State :=
  let skip := min bs.length (0x2000 - ofs)
  let a := dataHalf e (s.lathe e).live + ofs + skip
  let s' := if skip = 0 then s else s.accessFault e
  if bs.drop skip = [] then s' else chkPool (8 + e) a (bs.drop skip) (s'.poolStore a (bs.drop skip))

/-- A write of octets at `a` by level `v` of engine `e` (R356, R387). -/
def lthStore (e v a : Nat) (bs : List Byte) (s : State) : State × MemEnd :=
  let n := bs.length
  match regionOf a n with
  | .live o => (halfWrite e o bs s, .ok [])
  | .old _ => refuseAccess e s
  | .regs o => if n = 4 ∧ o % 4 = 0 then (lthWrite e v o (ofLE bs) s, .ok []) else (s, .fault 4)
  | .staging o => (stageWrite e o bs s, .ok [])
  | .outRecs _ => refuseAccess e s
  | .periph =>
    if !s.granted e a true then refuseAccess e s
    else if n ≠ 4 ∨ a % 4 ≠ 0 then (s, .fault 4)
    else (regWrite (0x10 + e) a (ofLE bs) s, .ok [])
  | .ctx o => if s.ctxOwned e o n then (ctxWrite e o bs s, .ok []) else refuseAccess e s
  | .pool o =>
    match s.poolWrite (8 + e) (0x10 + e) o bs with
    | (t, .ok _) => (t, .ok [])
    | (t, _) => refuseAccess e t
  | .none => refuseAccess e s

/-- An indivisible exchange (R387, R569): `f` gives the octets to store, if any, from those found. On a peripheral block it is refused;
in the pool it may not span an 8-octet boundary. -/
def lthExchange (e v a n : Nat) (f : List Byte → Option (List Byte)) (s : State) : State × MemEnd :=
  let spans := a / 8 != (a + n - 1) / 8
  match regionOf a n with
  | .periph => refuseAccess e s
  | .none => refuseAccess e s
  | r =>
    let inPool := match r with
      | .pool _ => true
      | .live _ => true
      | _ => false
    if inPool && spans then (s, .fault 4)
    else match lthLoad e v a n s with
      | (t, .ok bs) =>
        match f bs with
        | none => (t, .ok bs)
        | some v' =>
          match lthStore e v a v' t with
          | (u, .ok _) => (u, .ok bs)
          | (u, m) => (u, m)
      | x => x

end Sys2Proof.Machine
end

