-- ==== Sys2Proof/Machine/LatheRun.lean ====
section
/-! DEFINITION. How a Lathe level executes one instruction: decoding, the load delay, exceptions, and the shapes the instructions share
(R384 to R386, R389 to R391, R397 to R402). -/

namespace Sys2Proof.Machine

/-- What decoding finds of an instruction (R384, R385): its octets after the prefixes, the prefixes it accepts, and the offset after the
prefixes of the first octet that fails. -/
structure LthForm where
  len : Nat
  accepts : LthAccepts := {}
  bad : Option Nat := none
deriving DecidableEq, Repr

/-- An instruction under execution: engine, level, operand size in octets, prefixes, its own address and the next one. -/
structure LthEnv where
  e : Nat
  v : Nat
  size : Nat
  be : Bool
  dn : Bool
  nofl : Bool
  ip : Nat
  next : Nat
deriving DecidableEq, Repr

/-- How an instruction ends: normally, with the load it leaves pending; with an exception; with a restart of its engine. -/
inductive LthEnd where
  | done (load : Option (Nat × Word))
  | fault (cause data trap : Nat) (inBlk : Bool)
  | restart
deriving DecidableEq, Repr

/-- The state of a level of an engine. -/
def State.lthLevel (s : State) (e v : Nat) : LthLevel := (s.lathe e).level v

/-- The state with a level passed through a function. -/
def State.updLevel (s : State) (e v : Nat) (f : LthLevel → LthLevel) : State := s.updLathe e (fun l => l.setLevel v (f (l.level v)))

/-- The flags of a level. -/
def LthLevel.flags (x : LthLevel) : LthFlags := { z := x.z, n := x.n, c := x.c, v := x.v }

/-- The level with its flags replaced. -/
def LthLevel.setFlags (x : LthLevel) (f : LthFlags) : LthLevel := { x with z := f.z, n := f.n, c := f.c, v := f.v }

/-- The level with its flags replaced, unless NOFL is present (R384, R392). -/
def LthEnv.flag (k : LthEnv) (f : LthFlags) (x : LthLevel) : LthLevel := if k.nofl then x else x.setFlags f

/-- The level of an instruction. -/
def LthEnv.level (k : LthEnv) (s : State) : LthLevel := s.lthLevel k.e k.v

/-- The level of an instruction passed through a function. -/
def LthEnv.upd (k : LthEnv) (s : State) (f : LthLevel → LthLevel) : State := s.updLevel k.e k.v f

/-- The first octet that fails decoding, counted from the first prefix (R385). -/
def decodeFail (p : List Byte) (f : LthForm) : Option Nat :=
  match badPrefix p with
  | some i => some i
  | none => if unaccepted f.accepts p then some p.length else f.bad.map (p.length + ·)

/-- An exception before execution: at most an address after the octet that failed (R401, LTH_XNEXT). -/
def decodeEnd (e v cause addr next : Nat) (s : State) : State :=
  s.exception e v cause 0 false (BitVec.ofNat 32 addr) 0 (BitVec.ofNat 32 next)

/-- What an instruction leaves at its end: its exception, or the landing of the load before it and its own load pending (R389 to R391). -/
def finishInstr (k : LthEnv) (x : State × LthEnd) : State :=
  match x.2 with
  | .done load => k.upd x.1 (fun l => { l.land with pend := load })
  | .fault c data trap blk => x.1.exception k.e k.v c trap blk (BitVec.ofNat 32 k.ip) (BitVec.ofNat 32 data) (BitVec.ofNat 32 k.next)
  | .restart => x.1

/-- A level executes an instruction whose octets stand at IP: octet by octet it is fetched and decoded, then executed (R385, R401). -/
def runInstr (e v : Nat) (p : List Byte) (f : LthForm) (body : LthEnv → State → State × LthEnd) (s : State) : State :=
  let ip := (s.lthLevel e v).ip.toNat
  let avail := if ip < 65536 then (s.lathe e).image.code.length - ip else 0
  let fetch := decodeEnd e v 2 (ip + avail) (ip + avail) s
  let total := p.length + f.len
  match decodeFail p f with
  | some i => if i < avail then decodeEnd e v 1 ip (ip + i + 1) s else fetch
  | none =>
    if avail < total then fetch
    else
      let k : LthEnv := { e := e, v := v, size := opSize p, be := p.contains 0xE2, dn := p.contains 0xE3, nofl := p.contains 0xE4, ip := ip, next := ip + total }
      finishInstr k (body k (k.upd s (fun x => { x with ip := BitVec.ofNat 32 k.next })))

/-- An instruction of engine `e`: executed by the highest level with work in progress (R364, R400); without one nothing executes. -/
def lthRow (e : Nat) (p : List Byte) (f : LthForm) (body : LthEnv → State → State × LthEnd) (s : State) : Result :=
  onUnit e 16 (if !(s.lathe e).loaded || (s.lathe e).unusable then s
    else match (s.lathe e).running with
      | some v => runInstr e v p f body s
      | none => s)

/-! ### Register forms -/

/-- A two-operand result at the operand size: written to `d` when `w`, flags set (R383, R392). -/
def aluOn (w : Bool) (d b : Nat) (f : Nat → Nat → Nat → LthFlags → Nat × LthFlags) (k : LthEnv) (s : State) : State × LthEnd :=
  let x := k.level s
  let n := 8 * k.size
  let r := f n ((x.reg d).toNat % 2 ^ n) (b % 2 ^ n) x.flags
  (k.upd s (fun x => let y := k.flag r.2 x; if w then y.setReg d (BitVec.ofNat 32 r.1) else y), .done none)

/-- The form `d, s`: modifier octet M. -/
def lthRR (e : Nat) (p : List Byte) (m : Byte) (w : Bool) (f : Nat → Nat → Nat → LthFlags → Nat × LthFlags) (s : State) : Result :=
  lthRow e p { len := 2, accepts := { sized := true } } (fun k s => aluOn w (opD m) ((k.level s).reg (opS m)).toNat f k s) s

/-- The form `d, #i`: modifier octet and an immediate of the operand size. -/
def lthRI (e : Nat) (p : List Byte) (m : Byte) (i : Nat) (w : Bool) (f : Nat → Nat → Nat → LthFlags → Nat × LthFlags) (s : State) : Result :=
  lthRow e p { len := 2 + opSize p, accepts := { sized := true }, bad := if opS m = 0 then none else some 1 } (aluOn w (opD m) i f) s

/-- A shift by a register count, its low 5 bits (R393). -/
def lthShiftR (e : Nat) (p : List Byte) (m : Byte) (f : Nat → Nat → Nat → LthFlags → Nat × LthFlags) (s : State) : Result :=
  lthRow e p { len := 2, accepts := { sized := true } }
    (fun k s => aluOn true (opD m) 0 (fun n a _ fl => f n a (((k.level s).reg (opS m)).toNat % 32) fl) k s) s

/-- A shift by an immediate octet, its low 5 bits (R393). -/
def lthShiftI (e : Nat) (p : List Byte) (m b : Byte) (f : Nat → Nat → Nat → LthFlags → Nat × LthFlags) (s : State) : Result :=
  lthRow e p { len := 3, accepts := { sized := true }, bad := if opS m = 0 then none else some 1 }
    (aluOn true (opD m) 0 (fun n a _ fl => f n a (b.toNat % 32) fl)) s

/-- The form `d` at the operand size. -/
def lthUnary (e : Nat) (p : List Byte) (m : Byte) (f : Nat → Nat → LthFlags → Nat × LthFlags) (s : State) : Result :=
  lthRow e p { len := 2, accepts := { sized := true }, bad := if opS m = 0 then none else some 1 }
    (aluOn true (opD m) 0 (fun n a _ fl => f n a fl)) s

/-- A bit instruction `d, #b` at 32 bits (R383, class B): `f` gives the new register. -/
def lthBit (e : Nat) (p : List Byte) (m b : Byte) (f : Nat → Nat → Nat) (s : State) : Result :=
  lthRow e p { len := 3, bad := if opS m = 0 then none else some 1 }
    (fun k s =>
      let x := k.level s
      let a := (x.reg (opD m)).toNat
      let i := b.toNat % 32
      (k.upd s (fun x => (k.flag { x.flags with z := !bitAt a i } x).setReg (opD m) (BitVec.ofNat 32 (f a i))), .done none)) s

/-! ### Memory forms -/

/-- What an access that did not succeed makes of its instruction. -/
def memFail (blk : Bool) (a : Nat) (x : State × MemEnd) : State × LthEnd :=
  match x.2 with
  | .fault c => (x.1, .fault c a 0 blk)
  | _ => (x.1, .restart)

/-- The base register after an access with POST (R386). -/
def stepBase (k : LthEnv) (base : Nat) (a : Byte) (s : State) : State :=
  if postInc a then k.upd s (fun x => x.setReg base (x.reg base + BitVec.ofNat 32 k.size)) else s

/-- The octet of a memory form that fails decoding: A at offset 2. `same`: a load whose data register is its base register. -/
def memBad (a : Byte) (same : Bool) : Option Nat := if badA a || (postInc a && same) then some 2 else none

/-- A load into `d` (R389); `f` extends the value of the operand size. -/
def lthLoadRow (e : Nat) (p : List Byte) (m a : Byte) (disp : Nat) (f : Nat → Nat → Nat) (s : State) : Result :=
  lthRow e p { len := 3 + dispLen a, accepts := { sized := true, be := true }, bad := memBad a (opD m == opS m) }
    (fun k s =>
      let ea := effAddr (k.level s) (opS m) a disp k.size
      match lthLoad k.e k.v ea k.size s with
      | (t, .ok bs) => (stepBase k (opS m) a t, .done (some (opD m, BitVec.ofNat 32 (f (8 * k.size) (ofMem k.be bs)))))
      | x => memFail false ea x) s

/-- A store of `v` at an effective address. -/
def storeAt (m a : Byte) (disp : Nat) (v : LthEnv → State → Nat) (k : LthEnv) (s : State) : State × LthEnd :=
  let ea := effAddr (k.level s) (opS m) a disp k.size
  match lthStore k.e k.v ea (toMem k.be k.size (v k s)) s with
  | (t, .ok _) => (stepBase k (opS m) a t, .done none)
  | x => memFail false ea x

/-! ### The stack (R397, R402) -/

/-- The check of every stack address before any access: ALIGN when g12 is no multiple of 4, STACK outside the stack range (R401, R402). -/
def stackCheck (g12 : Nat) (as : List Nat) : Option (Nat × Nat) :=
  match as with
  | [] => none
  | a :: _ =>
    if g12 % 4 ≠ 0 then some (4, a)
    else (as.find? (fun a => decide (a < 0x10002000) || decide (0x10040000 < a + 4))).map (fun a => (5, a))

/-- `n` stack addresses below g12, in the order they are written. -/
def pushAddrs (g12 n : Nat) : List Nat := (List.range n).map (fun i => toU 32 ((g12 : Int) - (4 * (i + 1) : Nat)))

/-- `n` stack addresses from g12 upward. -/
def popAddrs (g12 n : Nat) : List Nat := (List.range n).map (fun i => (g12 + 4 * i) % 2 ^ 32)

/-- The offset in the live half of a stack address, which lies from 0x10002000 up to 0x10040000. -/
def stackOfs (a : Nat) : Nat := a % 0x10000000

/-- Words pushed in order, with g12 stepped once for each (R397). -/
def pushWords (k : LthEnv) (ws : List Word) (s : State) : State × LthEnd :=
  let g12 := ((k.level s).reg 12).toNat
  match stackCheck g12 (pushAddrs g12 ws.length) with
  | some (c, a) => (s, .fault c a 0 false)
  | none =>
    let t := ((pushAddrs g12 ws.length).zip ws).foldl (fun s x => halfWrite k.e (stackOfs x.1) (toLE 4 x.2.toNat) s) s
    (k.upd t (fun x => x.setReg 12 (BitVec.ofNat 32 (g12 + 2 ^ 32 - 4 * ws.length))), .done none)

/-- `n` words read from the stack in order, g12 unchanged (R397). -/
def readStack (k : LthEnv) (n : Nat) (s : State) : State × (List Word ⊕ LthEnd) :=
  let g12 := ((k.level s).reg 12).toNat
  match stackCheck g12 (popAddrs g12 n) with
  | some (c, a) => (s, .inr (.fault c a 0 false))
  | none =>
    (popAddrs g12 n).foldl (fun acc a =>
      match acc.2 with
      | .inr _ => acc
      | .inl ws =>
        match halfRead k.e (acc.1.lathe k.e).live (stackOfs a) 4 acc.1 with
        | (t, .ok bs) => (t, .inl (ws ++ [BitVec.ofNat 32 (ofLE bs)]))
        | (t, _) => (t, .inr .restart)) (s, .inl [])

/-- The registers of a mask, ascending. -/
def maskRegs (mask : BitVec 16) : List Nat := (List.range 16).filter (bitAt mask.toNat)

/-- The instruction pointer set. -/
def jumpTo (k : LthEnv) (a : Nat) (s : State) : State := k.upd s (fun x => { x with ip := BitVec.ofNat 32 a })

/-- CALL to a target (R397). -/
def callTo (target : Nat) (mask : BitVec 16) (k : LthEnv) (s : State) : State × LthEnd :=
  let ws := (maskRegs mask).reverse.map (k.level s).reg ++ [BitVec.ofNat 32 k.next]
  match pushWords k ws s with
  | (t, .done l) => (jumpTo k target t, .done l)
  | x => x

/-- RET (R397). -/
def returnFrom (mask : BitVec 16) (k : LthEnv) (s : State) : State × LthEnd :=
  let rs := maskRegs mask
  match readStack k (1 + rs.length) s with
  | (t, .inr d) => (t, d)
  | (t, .inl []) => (t, .done none)
  | (t, .inl (ip :: ws)) =>
    (k.upd t (fun x =>
      let y := (rs.zip ws).foldl (fun x r => x.setReg r.1 r.2) x
      { y.setReg 12 (x.reg 12 + BitVec.ofNat 32 (4 * (1 + rs.length))) with ip := ip }), .done none)

/-! ### Block repeat (R398, R399) -/

/-- The step of an element. -/
def LthEnv.step (k : LthEnv) : Word := if k.dn then BitVec.ofNat 32 (2 ^ 32 - k.size) else BitVec.ofNat 32 k.size

/-- A register stepped by an element. -/
def LthEnv.bump (k : LthEnv) (r : Nat) (x : LthLevel) : LthLevel := x.setReg r (x.reg r + k.step)

/-- The operand value at the address in a register. -/
def elemLoad (k : LthEnv) (r : Nat) (s : State) : State × MemEnd := lthLoad k.e k.v ((k.level s).reg r).toNat k.size s

/-- An element that stores `v` at g15 (COPY, FILL). A refused store leaves no effect of the element. -/
def elemStore (k : LthEnv) (v : List Byte) (f : LthLevel → LthLevel) (s t : State) : State × LthEnd :=
  let a := ((k.level s).reg 15).toNat
  match lthStore k.e k.v a v s with
  | (u, .fault c) => (u, .fault c a 0 true)
  | _ =>
    match lthStore k.e k.v a v t with
    | (u, .ok _) => (k.upd u f, .done none)
    | x => memFail true a x

/-- An element of COPY: octets in memory order, so BE changes nothing (R398). -/
def elemCopy (k : LthEnv) (s : State) : State × LthEnd :=
  match elemLoad k 14 s with
  | (t, .ok bs) => elemStore k bs (fun x => k.bump 15 (k.bump 14 x)) s t
  | x => memFail true ((k.level s).reg 14).toNat x

/-- An element of FILL. -/
def elemFill (r : Nat) (k : LthEnv) (s : State) : State × LthEnd :=
  elemStore k (toMem k.be k.size ((k.level s).reg r).toNat) (k.bump 15) s s

/-- An element of MATCH. -/
def elemMatch (k : LthEnv) (s : State) : State × LthEnd :=
  match elemLoad k 14 s, elemLoad k 15 s with
  | (t, .ok x), (_, .ok _) =>
    match elemLoad k 15 t with
    | (u, .ok y) => (k.upd u (fun l => k.bump 15 (k.bump 14 (k.flag (aluSub (8 * k.size) (ofMem k.be x) (ofMem k.be y) 0).2 l))), .done none)
    | z => memFail true ((k.level s).reg 15).toNat z
  | (_, .ok _), z => memFail true ((k.level s).reg 15).toNat z
  | z, _ => memFail true ((k.level s).reg 14).toNat z

/-- An element of SEEK. -/
def elemSeek (r : Nat) (k : LthEnv) (s : State) : State × LthEnd :=
  match elemLoad k 15 s with
  | (t, .ok y) =>
    (k.upd t (fun l => k.bump 15 (k.flag (aluSub (8 * k.size) ((l.reg r).toNat % 2 ^ (8 * k.size)) (ofMem k.be y) 0).2 l)), .done none)
  | z => memFail true ((k.level s).reg 15).toNat z

/-- The element of GATHER, a load (R389, R398). -/
def elemGather (r : Nat) (k : LthEnv) (s : State) : State × LthEnd :=
  match elemLoad k 14 s with
  | (t, .ok bs) => (k.upd t (k.bump 14), .done (some (r, BitVec.ofNat 32 (ofMem k.be bs))))
  | x => memFail true ((k.level s).reg 14).toNat x

/-- The loop of a block instruction over at most `n` elements (R398, R399): g13 counts down, a pending load lands at the first element
boundary, and IP goes back to the first prefix octet when a higher level interrupts. -/
def blkLoop (k : LthEnv) (stop : LthLevel → Bool) (el : State → State × LthEnd) : Nat → State → State × LthEnd
  | 0, s => if (k.level s).reg 13 = 0 then (s, .done none) else (jumpTo k k.ip s, .done none)
  | n + 1, s =>
    if (k.level s).reg 13 = 0 then (s, .done none)
    else match el s with
      | (t, .done _) =>
        let t := k.upd t (fun x => (x.setReg 13 (x.reg 13 - 1)).land)
        if stop (k.level t) then (t, .done none) else blkLoop k stop el n t
      | x => x

/-- Whether K breaks R398: reserved bits, UNTIL 3, UNTIL where nothing is compared or repeated. -/
def badK (b : Byte) (compares : Bool) : Bool :=
  let u := field b.toNat 4 2
  field b.toNat 6 2 != 0 || u == 3 || (u != 0 && !(compares && bitAt b.toNat 3))

/-- The condition of UNTIL after an element. -/
def untilStop (b : Byte) (x : LthLevel) : Bool :=
  match field b.toNat 4 2 with
  | 1 => x.z
  | 2 => !x.z
  | _ => false

/-- A block instruction with control octet `b` and, for most, a modifier octet; `more` elements after the first run before a higher
level interrupts. -/
def lthBlk (e : Nat) (p : List Byte) (b : Byte) (m : Option Byte) (compares : Bool) (more : Nat) (el : LthEnv → State → State × LthEnd) (s : State) : Result :=
  let bad := if badK b compares then some 1 else match m with
    | some m => if opS m = 0 then none else some 2
    | none => none
  lthRow e p { len := if m.isSome then 3 else 2, accepts := { sized := true, be := true, dn := true }, bad := bad }
    (fun k s => if bitAt b.toNat 3 then blkLoop k (untilStop b) (el k) (more + 1) s else el k s) s

end Sys2Proof.Machine
end

