-- ==== Sys2Proof/Machine/LatheIsa.lean ====
section
/-! DEFINITION. The Lathe instructions of R395, in the order of its table: each executed by the highest level at work of engine `e`,
with the prefix octets `p` as they stand before the opcode. Modifier octets are M, addressing octets A (R386). -/

namespace Sys2Proof.Machine

/-- NOP: does nothing (R395). -/
def execLthNop (e : Nat) (p : List Byte) (s : State) : Result := lthRow e p { len := 1 } (fun _ s => (s, .done none)) s

/-- Work of a receive entry ends (R363, R395): an IDLE of the background level ends with it. -/
def endReceive (e : Nat) (s : State) : State :=
  s.updLathe e (fun l => { l with rx := { l.rx with active := false }, bg := { l.bg with idle := false } })

/-- What END ends (R395), once the instruction itself has ended: phase-level work or a receive entry. -/
def endWork (e v : Nat) (s : State) : State := if v = 0 then endPhaseWork e s else if v = 1 then endReceive e s else s

/-- END: ends the present phase or receive entry; ILLEGAL at the background level (R395). -/
def execLthEnd (e : Nat) (p : List Byte) (s : State) : Result :=
  let bg := (s.lathe e).running == some 2
  lthRow e p { len := 1, bad := if bg then some 0 else none }
    (fun k s => (endWork k.e k.v (k.upd s LthLevel.land), .done none)) s

/-- IDLE: background waits until the next entry ends (R395). -/
def execLthIdle (e : Nat) (p : List Byte) (s : State) : Result :=
  let bg := (s.lathe e).running == some 2
  lthRow e p { len := 1, bad := if bg then none else some 0 } (fun k s => (k.upd s (fun x => { x with idle := true }), .done none)) s

/-- RETX: returns from an exception handler; ILLEGAL while EN is set (R401). -/
def execLthRetx (e : Nat) (p : List Byte) (s : State) : Result :=
  let en := match (s.lathe e).running with
    | some v => (s.lthLevel e v).xen
    | none => false
  lthRow e p { len := 1, bad := if en then some 0 else none } (fun k s => (k.upd s (fun x => { x with xen := true, ip := x.xnext }), .done none)) s

/-- TRAP: takes exception TRAP (R395, R401). -/
def execLthTrap (e : Nat) (p : List Byte) (b : Byte) (s : State) : Result :=
  lthRow e p { len := 2 } (fun _ s => (s, .fault 6 0 b.toNat false)) s

/-! ### Moves and arithmetic -/

/-- MOV: copies a register (R395). -/
def execLthMov (e : Nat) (p : List Byte) (m : Byte) (s : State) : Result := lthRR e p m true (fun _ _ b f => (b, f)) s

/-- MOVI: loads an immediate (R395). -/
def execLthMovi (e : Nat) (p : List Byte) (m : Byte) (i : Nat) (s : State) : Result := lthRI e p m i true (fun _ _ b f => (b, f)) s

/-- ADD: adds a register (R395). -/
def execLthAdd (e : Nat) (p : List Byte) (m : Byte) (s : State) : Result := lthRR e p m true (fun w a b _ => aluAdd w a b 0) s

/-- ADDI: adds an immediate (R395). -/
def execLthAddi (e : Nat) (p : List Byte) (m : Byte) (i : Nat) (s : State) : Result := lthRI e p m i true (fun w a b _ => aluAdd w a b 0) s

/-- ADC: adds with carry (R395). -/
def execLthAdc (e : Nat) (p : List Byte) (m : Byte) (s : State) : Result := lthRR e p m true (fun w a b f => aluAdd w a b f.c.toNat) s

/-- SUB: subtracts a register (R395). -/
def execLthSub (e : Nat) (p : List Byte) (m : Byte) (s : State) : Result := lthRR e p m true (fun w a b _ => aluSub w a b 0) s

/-- SUBI: subtracts an immediate (R395). -/
def execLthSubi (e : Nat) (p : List Byte) (m : Byte) (i : Nat) (s : State) : Result := lthRI e p m i true (fun w a b _ => aluSub w a b 0) s

/-- SBC: subtracts with borrow (R395). -/
def execLthSbc (e : Nat) (p : List Byte) (m : Byte) (s : State) : Result := lthRR e p m true (fun w a b f => aluSub w a b f.c.toNat) s

/-- CMP: compares registers (R395). -/
def execLthCmp (e : Nat) (p : List Byte) (m : Byte) (s : State) : Result := lthRR e p m false (fun w a b _ => aluSub w a b 0) s

/-- CMPI: compares with an immediate (R395). -/
def execLthCmpi (e : Nat) (p : List Byte) (m : Byte) (i : Nat) (s : State) : Result := lthRI e p m i false (fun w a b _ => aluSub w a b 0) s

/-- AND: bitwise AND with a register (R395). -/
def execLthAnd (e : Nat) (p : List Byte) (m : Byte) (s : State) : Result := lthRR e p m true (fun w a b _ => aluLogic w (a &&& b)) s

/-- ANDI: bitwise AND with an immediate (R395). -/
def execLthAndi (e : Nat) (p : List Byte) (m : Byte) (i : Nat) (s : State) : Result := lthRI e p m i true (fun w a b _ => aluLogic w (a &&& b)) s

/-- OR: bitwise OR with a register (R395). -/
def execLthOr (e : Nat) (p : List Byte) (m : Byte) (s : State) : Result := lthRR e p m true (fun w a b _ => aluLogic w (a ||| b)) s

/-- ORI: bitwise OR with an immediate (R395). -/
def execLthOri (e : Nat) (p : List Byte) (m : Byte) (i : Nat) (s : State) : Result := lthRI e p m i true (fun w a b _ => aluLogic w (a ||| b)) s

/-- XOR: bitwise XOR with a register (R395). -/
def execLthXor (e : Nat) (p : List Byte) (m : Byte) (s : State) : Result := lthRR e p m true (fun w a b _ => aluLogic w (a ^^^ b)) s

/-- XORI: bitwise XOR with an immediate (R395). -/
def execLthXori (e : Nat) (p : List Byte) (m : Byte) (i : Nat) (s : State) : Result := lthRI e p m i true (fun w a b _ => aluLogic w (a ^^^ b)) s

/-- TST: tests bits against a register (R395). -/
def execLthTst (e : Nat) (p : List Byte) (m : Byte) (s : State) : Result := lthRR e p m false (fun w a b _ => aluLogic w (a &&& b)) s

/-- TSTI: tests bits against an immediate (R395). -/
def execLthTsti (e : Nat) (p : List Byte) (m : Byte) (i : Nat) (s : State) : Result := lthRI e p m i false (fun w a b _ => aluLogic w (a &&& b)) s

/-! ### Shifts (R393) -/

/-- SHL: shifts left by a register count (R393). -/
def execLthShl (e : Nat) (p : List Byte) (m : Byte) (s : State) : Result := lthShiftR e p m aluShl s

/-- SHLI: shifts left by an immediate count (R393). -/
def execLthShli (e : Nat) (p : List Byte) (m b : Byte) (s : State) : Result := lthShiftI e p m b aluShl s

/-- SHR: shifts right with zero fill by a register count (R393). -/
def execLthShr (e : Nat) (p : List Byte) (m : Byte) (s : State) : Result := lthShiftR e p m aluShr s

/-- SHRI: shifts right with zero fill by an immediate count (R393). -/
def execLthShri (e : Nat) (p : List Byte) (m b : Byte) (s : State) : Result := lthShiftI e p m b aluShr s

/-- SAR: shifts right with sign fill by a register count (R393). -/
def execLthSar (e : Nat) (p : List Byte) (m : Byte) (s : State) : Result := lthShiftR e p m aluSar s

/-- SARI: shifts right with sign fill by an immediate count (R393). -/
def execLthSari (e : Nat) (p : List Byte) (m b : Byte) (s : State) : Result := lthShiftI e p m b aluSar s

/-- ROL: rotates left by a register count (R393). -/
def execLthRol (e : Nat) (p : List Byte) (m : Byte) (s : State) : Result := lthShiftR e p m aluRol s

/-- ROLI: rotates left by an immediate count (R393). -/
def execLthRoli (e : Nat) (p : List Byte) (m b : Byte) (s : State) : Result := lthShiftI e p m b aluRol s

/-! ### Other register instructions -/

/-- NOT: inverts a register (R395). -/
def execLthNot (e : Nat) (p : List Byte) (m : Byte) (s : State) : Result := lthUnary e p m (fun w a _ => aluLogic w (2 ^ w - 1 - a)) s

/-- NEG: negates a register, as 0 - d (R392, R395). -/
def execLthNeg (e : Nat) (p : List Byte) (m : Byte) (s : State) : Result := lthUnary e p m (fun w a _ => aluSub w 0 a 0) s

/-- MUL: multiplies by a register (R395). -/
def execLthMul (e : Nat) (p : List Byte) (m : Byte) (s : State) : Result := lthRR e p m true (fun w a b _ => aluMul w a b) s

/-- MULI: multiplies by an immediate (R395). -/
def execLthMuli (e : Nat) (p : List Byte) (m : Byte) (i : Nat) (s : State) : Result := lthRI e p m i true (fun w a b _ => aluMul w a b) s

/-- BSWAP: reverses the octets of a register; ILLEGAL without .W or .D (R395). -/
def execLthBswap (e : Nat) (p : List Byte) (m : Byte) (s : State) : Result :=
  let bad := if opSize p = 1 then some 0 else if opS m = 0 then none else some 1
  lthRow e p { len := 2, accepts := { sized := true }, bad := bad } (aluOn true (opD m) 0 (fun w a _ f => (aluBswap w a, f))) s

/-- EXT: extracts a bit field of `s` into `d`, at 32 bits (R395). -/
def execLthExt (e : Nat) (p : List Byte) (m pos wid : Byte) (s : State) : Result :=
  let bad := if 31 < pos.toNat then some 2 else if 31 < wid.toNat then some 3 else none
  lthRow e p { len := 4, bad := bad }
    (fun k s =>
      let r := aluLogic 32 (field ((k.level s).reg (opS m)).toNat pos.toNat (wid.toNat + 1))
      (k.upd s (fun x => (k.flag r.2 x).setReg (opD m) (BitVec.ofNat 32 r.1)), .done none)) s

/-- BTST: tests a bit (R395). -/
def execLthBtst (e : Nat) (p : List Byte) (m b : Byte) (s : State) : Result := lthBit e p m b (fun a _ => a) s

/-- BSET: sets a bit (R395). -/
def execLthBset (e : Nat) (p : List Byte) (m b : Byte) (s : State) : Result := lthBit e p m b setBit s

/-- BCLR: clears a bit (R395). -/
def execLthBclr (e : Nat) (p : List Byte) (m b : Byte) (s : State) : Result := lthBit e p m b clrBit s

/-! ### Memory -/

/-- LD: loads from memory, zero-extended, with load delay (R389). -/
def execLthLd (e : Nat) (p : List Byte) (m a : Byte) (disp : Nat) (s : State) : Result := lthLoadRow e p m a disp (fun _ x => x) s

/-- LDS: loads from memory, sign-extended, with load delay (R383, R389). -/
def execLthLds (e : Nat) (p : List Byte) (m a : Byte) (disp : Nat) (s : State) : Result := lthLoadRow e p m a disp (fun w x => toU 32 (toS w x)) s

/-- ST: stores a register to memory, its value before any increment of the base (R386, R395). -/
def execLthSt (e : Nat) (p : List Byte) (m a : Byte) (disp : Nat) (s : State) : Result :=
  lthRow e p { len := 3 + dispLen a, accepts := { sized := true, be := true }, bad := memBad a false }
    (storeAt m a disp (fun k s => ((k.level s).reg (opD m)).toNat)) s

/-- LEA: loads an effective address; the size scales the index, POST is illegal (R386, R395). -/
def execLthLea (e : Nat) (p : List Byte) (m a : Byte) (disp : Nat) (s : State) : Result :=
  lthRow e p { len := 3 + dispLen a, accepts := { sized := true }, bad := memBad a true }
    (fun k s => (k.upd s (fun x => x.setReg (opD m) (BitVec.ofNat 32 (effAddr x (opS m) a disp k.size))), .done none)) s

/-- XCHG: exchanges register and memory indivisibly (R389, R395). -/
def execLthXchg (e : Nat) (p : List Byte) (m a : Byte) (disp : Nat) (s : State) : Result :=
  lthRow e p { len := 3 + dispLen a, accepts := { sized := true, be := true }, bad := memBad a (opD m == opS m) }
    (fun k s =>
      let x := k.level s
      let ea := effAddr x (opS m) a disp k.size
      match lthExchange k.e k.v ea k.size (fun _ => some (toMem k.be k.size (x.reg (opD m)).toNat)) s with
      | (t, .ok bs) => (stepBase k (opS m) a t, .done (some (opD m, BitVec.ofNat 32 (ofMem k.be bs))))
      | y => memFail false ea y) s

/-- CAS: compares and swaps memory indivisibly; Z tells whether the swap took place (R389, R392, R395). `x` is the octet naming the base. -/
def execLthCas (e : Nat) (p : List Byte) (m x : Byte) (s : State) : Result :=
  lthRow e p { len := 3, accepts := { sized := true, be := true }, bad := if opS x = 0 then none else some 2 }
    (fun k s =>
      let l := k.level s
      let ea := (l.reg (opD x)).toNat
      let old := (l.reg (opD m)).toNat % 2 ^ (8 * k.size)
      let new := toMem k.be k.size (l.reg (opS m)).toNat
      match lthExchange k.e k.v ea k.size (fun bs => if ofMem k.be bs = old then some new else none) s with
      | (t, .ok bs) => (k.upd t (fun y => k.flag { y.flags with z := ofMem k.be bs == old } y), .done (some (opD m, BitVec.ofNat 32 (ofMem k.be bs))))
      | y => memFail false ea y) s

/-- STI: stores an immediate to memory (R395). -/
def execLthSti (e : Nat) (p : List Byte) (m a : Byte) (disp i : Nat) (s : State) : Result :=
  lthRow e p { len := 3 + dispLen a + opSize p, accepts := { sized := true, be := true }, bad := if opD m = 0 then memBad a false else some 1 }
    (storeAt m a disp (fun _ _ => i)) s

/-- PUSH: pushes a register on the stack, its value before the decrement (R395, R402). -/
def execLthPush (e : Nat) (p : List Byte) (m : Byte) (s : State) : Result :=
  lthRow e p { len := 2, bad := if opS m = 0 then none else some 1 } (fun k s => pushWords k [(k.level s).reg (opD m)] s) s

/-- POP: pops a register from the stack, a load (R389, R395, R402). -/
def execLthPop (e : Nat) (p : List Byte) (m : Byte) (s : State) : Result :=
  lthRow e p { len := 2, bad := if opS m = 0 ∧ opD m ≠ 12 then none else some 1 }
    (fun k s =>
      match readStack k 1 s with
      | (t, .inl ws) => (k.upd t (fun x => x.setReg 12 (x.reg 12 + 4)), .done (some (opD m, ws.headD 0)))
      | (t, .inr d) => (t, d)) s

/-! ### Branches and calls -/

/-- BCC_REL8: conditional branch with 8-bit displacement from the next instruction; 0x5F is unassigned (R396). -/
def execLthBccRel8 (e : Nat) (p : List Byte) (cc : Nat) (d : Byte) (s : State) : Result :=
  lthRow e p { len := 2, bad := if cc % 16 = 15 then some 0 else none }
    (fun k s => (if condHolds (cc % 16) (k.level s).flags then jumpTo k (toU 32 ((k.next : Int) + d.toInt)) s else s, .done none)) s

/-- BCC_REL16: conditional branch with 16-bit displacement; 0x6F is unassigned (R396). -/
def execLthBccRel16 (e : Nat) (p : List Byte) (cc : Nat) (d : BitVec 16) (s : State) : Result :=
  lthRow e p { len := 3, bad := if cc % 16 = 15 then some 0 else none }
    (fun k s => (if condHolds (cc % 16) (k.level s).flags then jumpTo k (toU 32 ((k.next : Int) + d.toInt)) s else s, .done none)) s

/-- JMP: jumps to a register address (R395). -/
def execLthJmp (e : Nat) (p : List Byte) (m : Byte) (s : State) : Result :=
  lthRow e p { len := 2, bad := if opS m = 0 then none else some 1 } (fun k s => (jumpTo k ((k.level s).reg (opD m)).toNat s, .done none)) s

/-- JMPA: jumps to an absolute address (R395). -/
def execLthJmpa (e : Nat) (p : List Byte) (a : Word) (s : State) : Result :=
  lthRow e p { len := 5 } (fun k s => (jumpTo k a.toNat s, .done none)) s

/-- CALL: calls a relative target saving masked registers; bit 12 of the mask is ILLEGAL (R397). -/
def execLthCall (e : Nat) (p : List Byte) (d mask : BitVec 16) (s : State) : Result :=
  lthRow e p { len := 5, bad := if bitAt mask.toNat 12 then some 4 else none }
    (fun k s => callTo (toU 32 ((k.next : Int) + d.toInt)) mask k s) s

/-- CALLR: calls a register target, read before any push (R395, R397). -/
def execLthCallr (e : Nat) (p : List Byte) (m : Byte) (mask : BitVec 16) (s : State) : Result :=
  lthRow e p { len := 4, bad := if opS m ≠ 0 then some 1 else if bitAt mask.toNat 12 then some 3 else none }
    (fun k s => callTo ((k.level s).reg (opD m)).toNat mask k s) s

/-- RET: returns and restores masked registers (R390, R397). -/
def execLthRet (e : Nat) (p : List Byte) (mask : BitVec 16) (s : State) : Result :=
  lthRow e p { len := 3, bad := if bitAt mask.toNat 12 then some 2 else none } (returnFrom mask) s

/-! ### Block repeat -/

/-- BLK_COPY: copies elements from g14 to g15 (R398). -/
def execLthBlkCopy (e : Nat) (p : List Byte) (b : Byte) (more : Nat) (s : State) : Result := lthBlk e p b none false more elemCopy s

/-- BLK_FILL: fills elements at g15 with a register (R398). -/
def execLthBlkFill (e : Nat) (p : List Byte) (b m : Byte) (more : Nat) (s : State) : Result := lthBlk e p b (some m) false more (elemFill (opD m)) s

/-- BLK_MATCH: compares elements at g14 and g15 (R398). -/
def execLthBlkMatch (e : Nat) (p : List Byte) (b : Byte) (more : Nat) (s : State) : Result := lthBlk e p b none true more elemMatch s

/-- BLK_SEEK: scans elements at g15 for a register value (R398). -/
def execLthBlkSeek (e : Nat) (p : List Byte) (b m : Byte) (more : Nat) (s : State) : Result := lthBlk e p b (some m) true more (elemSeek (opD m)) s

/-- BLK_GATHER: loads one element from g14; ILLEGAL with RPT (R398). -/
def execLthBlkGather (e : Nat) (p : List Byte) (b m : Byte) (s : State) : Result :=
  let bad := if badK b false || bitAt b.toNat 3 then some 1 else if opS m = 0 then none else some 2
  lthRow e p { len := 3, accepts := { sized := true, be := true, dn := true }, bad := bad } (elemGather (opD m)) s

end Sys2Proof.Machine
end

