-- ==== Sys2Proof/Machine/Pair.lean ====
section
/-! DEFINITION. Failure detection, fill frames, takeover and synchronisation of a pair (R283 to R292, R297). -/

namespace Sys2Proof.Machine

/-! ### Detection and fencing (R283 to R285) -/

/-- The records of a tick that a missing forwarding frame leaves to the shadow's own sealed inputs (R277): switches, captures and
deliveries; axis inputs and codes are counted where they are used. -/
def State.missingFwd (s : State) : Nat :=
  ((List.range 128).filter s.switchPin).length + ((List.range 8).map (fun p => if (s.cap p).snap then (s.cap p).snapped.length else 0)).foldl (· + ·) 0 +
    s.pair.gave.length

/-- The forwarding slot of a cycle has brought nothing (R277, R283): the shadow uses its own sealed switches and captures; it is SUSPECT,
and presumes its primary failed at the second miss in a row. -/
def missForwarding (s : State) : State :=
  let got := match s.pair.fwd with
    | some f => f.tick == s.cell.tick
    | none => false
  if got || !s.isShadow then s
  else
    let s := if s.takesFwd then runSwitches (fwdLateBy s.missingFwd s) else s
    if s.pair.role ≠ 2 then s
    else
      let n := s.pair.missRun + 1
      let s := { s with pair := { s.pair with misses := wrap 32 (s.pair.misses + 1), missRun := n, suspect := true } }
      if 2 ≤ n then declareTakeover s else s

/-- FORWARDING_SLOT_MISS: the shadow counts a missing forwarding frame and presumes failure at the second (R283). -/
def execForwardingSlotMiss (s : State) : Result := .next (missForwarding s)

/-- The failure declaration of a primary that fences itself goes out in its forwarding slot (R283, R284). -/
def declareNow (s : State) : State :=
  match s.fab.sched.slots.find? (fun x => x.kind == 2 && x.owner == s.cell.node) with
  | some x => if s.mayInsert && s.myRings.contains x.ring then emit x.ring s (some s.pair.peer, [.failed]) else s
  | none => s

/-- An own echo is missing (R284): at the second in a row the primary fences itself, a role change (R293). -/
def missEcho (s : State) : State :=
  if s.pair.role ≠ 1 then s
  else if s.pair.echoRun + 1 < 2 then { s with pair := { s.pair with echoRun := s.pair.echoRun + 1 } }
  else enterListen (advanceEpoch 1 (declareNow s))

/-- ECHO_MISS: the primary misses the echo of its own forwarding slot, and fences itself at the second (R284). -/
def execEchoMiss (s : State) : Result := .next (missEcho s)

/-- The octets of a network's output records as they stand at its engine (R469). -/
def State.outputOctets (s : State) (n : Nat) : List Byte :=
  let net := s.net n
  (List.range (32 * net.outs.length)).map (fun k => Table.get 0 (s.lathe net.engine).outRecs (32 * net.outFirst + k))

/-- A fill (R285): the SUSPECT shadow starts its own output frame at W + 500 ns. -/
def fillFrame (i : Nat) (s : State) : State :=
  match s.pair.lines[i]? with
  | none => s
  | some l =>
    if s.pair.role ≠ 2 ∨ !s.pair.suspect then s
    else
      let s := s.advanceTo (s.cell.edge + (((s.net l.net).dual.map Prod.snd).getD (s.watchEnd l + 500).toNat))
      { s with pair := { s.pair with fills := wrap 32 (s.pair.fills + 1) } }.send (.fill l.sPort (s.outputOctets l.net))

/-- FILL_FRAME: a SUSPECT shadow starts its own frame on a line that stayed silent (R285). -/
def execFillFrame (line : Nat) (s : State) : Result := onUnit line 16 (fillFrame line s)

/-! ### Takeover (R287 to R292) -/

/-- Owners with an axis in a DIVERGED group are held with a stop time of zero (R288). -/
def holdDiverged (s : State) : State :=
  let hit (a : Nat) : Bool := bitAt s.pair.diverged (a / 8)
  let os := s.owners.filter (fun o => if 1000 ≤ o then (s.arm (o - 1000)).axes.any hit else hit o)
  let s' := os.foldl (fun s o => (holdOwner o 0 s).1) s
  if s.pair.diverged = 0 then s else s'.event 0 0x8904 0 (toLE 8 s.pair.diverged)

/-- Acyclic sessions and stream contexts of the pair's networks are closed at the takeover edge (R479). -/
def closeSessions (s : State) : State :=
  let es := (s.pair.lines.map (fun l => (s.net l.net).engine)).eraseDups
  es.foldl (fun s e => closeCtxs ((s.lathe e).ctxs.filter (fun i => (s.ctx i).kind == 2 || (s.ctx i).kind == 3)) s) s

/-- The takeover edge (R287 to R291). -/
def takeOver (s : State) : State :=
  let due := match s.pair.takeAt with
    | some t => decide (t ≤ s.cell.tick)
    | none => false
  if s.pair.role ≠ 2 ∨ !due then s
  else
    let old := s.pair.peer
    let s := becomePrimary (holdDiverged s)
    let s := { s with pair := { s.pair with takeovers := wrap 32 (s.pair.takeovers + 1) } }
    let s := s.event 0 0x8901 0 (toLE 1 old ++ toLE 4 s.cell.epoch ++ toLE 8 s.cell.tick)
    let s := dropLines (closeSessions s)
    { s with pair := s.pair.none }

/-- TAKEOVER: the shadow becomes primary at the takeover edge (R287). -/
def execTakeover (s : State) : Result := .next (takeOver s)

/-! ### Synchronisation (R293, R297) -/

/-- A shadow whose digests have agreed for 64 ticks is synchronised, a role change that both devices make (R293, R297). -/
def shadowSynced (s : State) : State :=
  if s.pair.role = 3 ∧ 64 ≤ s.pair.agreed then
    ({ roleChange 2 s with pair := { (roleChange 2 s).pair with role := 2 } }).event 0 0x8902 0 (toLE 1 s.pair.peer)
  else if s.pair.role = 1 ∧ s.pair.since.isSome then
    let s := (roleChange s.cell.role s).event 0 0x8902 0 (toLE 1 s.pair.peer)
    ({ s with pair := { s.pair with since := none } }).completeCmd 0x0906 (fun _ => true) {}
  else s

/-- SHADOW_SYNCED: the joining device becomes SHADOW and FAB.ASSIGN_SHADOW completes (R297). -/
def execShadowSynced (s : State) : Result := .next (shadowSynced s)

/-- SHADOW_SYNC_TIMEOUT: 60 s without synchronisation end FAB.ASSIGN_SHADOW, and the device stays a listener (R297). -/
def execShadowSyncTimeout (s : State) : Result :=
  .next (if s.pair.role = 1 then
      match s.pair.since with
      | some t =>
        let s := s.advanceTo (t + 60000000000)
        let s := (dropLines s).completeCmd 0x0906 (fun _ => true) { status := St.notSynced }
        { s with pair := s.pair.none, fab := { s.fab with sending := s.fab.sending.filter (fun b => b.use = 0) } }
      | none => s
    else if s.pair.role = 3 then { s with pair := { s.pair.none with silent := true } }
    else s)

end Sys2Proof.Machine
end

