-- ==== Sys2Proof/Machine/Reset.lean ====
section
/-! DEFINITION. The device reset (R606, R608, R617), the committed configuration that survives it (R621, R634), the write inhibit
(R609 to R611) and the test access port (R664 to R671). -/

namespace Sys2Proof.Machine

/-! ### The committed configuration (R621, R634) -/

/-- A table with every record passed through a function, in canonical form. -/
def mapTable {α : Type} [DecidableEq α] (d : α) (f : α → α) (t : Table α) : Table α := t.foldl (fun u p => Table.set d u p.1 (f p.2)) []

/-- The settings of a switch. -/
def Switch.settings (w : Switch) : Switch := { pin := w.pin, pol := w.pol }

/-- The settings of an axis; a homing procedure's own torque and following limits are not among them (R189). -/
def Axis.settings (x : Axis) : Axis :=
  let lim := match x.homing with
    | some h => if h.method = 5 then { x.lim with torqueMax := h.oldTorque, followMax := h.oldFollow } else x.lim
    | none => x.lim
  { binding := x.binding, divisor := x.divisor, phase := x.phase, autoPhase := x.autoPhase, mandrel := x.mandrel, fbWidth := x.fbWidth
    fbSigned := x.fbSigned, abs := x.abs, jogFrac := x.jogFrac, jogFracNoref := x.jogFracNoref, fbOffset := x.fbOffset, modulo := x.modulo
    torquePerAcc := x.torquePerAcc, viscousAux := x.viscousAux, coulombAux := x.coulombAux, lim := lim, coef := x.coef, notch1 := x.notch1
    notch2 := x.notch2, swHome := x.swHome.settings, swNeg := x.swNeg.settings, swPos := x.swPos.settings, filt := x.filt, chatN := x.chatN
    chatW := x.chatW, dd := x.dd }

/-- The settings of an arm, with the payload commanded last. -/
def Arm.settings (r : Arm) : Arm :=
  { r with mode := 0, status := 0, gen := {}, back := [], singular := false, jogUntil := none, ikResidual := 0, ffClamp := 0, factor := 0x8000
           modeWait := false, proposed := false, payloads := (r.payloads.getLast?.map (fun p => [{ p with stamp := 0 }])).getD [] }

/-- The settings of a network, and whether it has been started. -/
def Network.settings (k : Network) : Network := { k with missed := 0, acyclic := [], dual := none }

/-- The servo settings of a base. -/
def TimeBase.settings (b : TimeBase) : TimeBase :=
  { servoEn := b.servoEn, lockN := b.lockN, lockNs := b.lockNs, holdoverMs := b.holdoverMs, kp := b.kp, ki := b.ki, adjMax := b.adjMax, stepNs := b.stepNs }

/-- The committed configuration as it stands. -/
def State.config (s : State) : Kept :=
  { axes := mapTable {} Axis.settings s.motion.axes, arms := mapTable {} Arm.settings s.motion.arms, cams := s.motion.cams
    nets := mapTable {} Network.settings s.nets, zones := s.claim.zones, bases := mapTable {} TimeBase.settings s.time.bases
    cmp := mapTable {} (fun u => { tb := u.tb, owner := u.owner }) s.time.cmp, pwmN := s.motion.pwmN }

/-- After a committed change the configuration is retained, at most once per second (R609, R621). -/
def keepConfig (s : State) : State :=
  if s.power.inhibit ∨ s.gtc < s.keptAt + 1000000000 ∨ s.config = s.kept.getD {} then s
  else { (s.retain 10 0 []) with kept := some s.config, keptAt := s.gtc }

/-! ### Device reset (R606, R608, R617, R651) -/

/-- The journal after a reset: what was committed stands; the records of the open page that were not committed are a gap (R616, R617). -/
def Journal.afterReset (j : Journal) : Journal :=
  let first := j.openNo * 128 + j.fill
  { openNo := j.openNo, openRecs := j.openRecs.take j.fill, fill := j.fill, pages := j.pages, archive := j.archive, nextArchive := j.nextArchive
    lost := j.lost, retained := j.retained, erases := j.erases, erasing := j.erasing, nvWritten := j.nvWritten, rateAvg := j.rateAvg
    gap := if j.openRecs.length ≤ j.fill then j.gap else some (first, j.openNo * 128 + j.openRecs.length - 1) }

/-- The device resets: every block starts from its reset state; non-volatile memory, the always-on domain and what stands outside the
pins remain (R606, R608, R617, R653, R664). `cause` is what the always-on domain latches. -/
def deviceReset (cause : Nat) (s : State) : State :=
  let p := s.power
  { State.reset with
    cell := { uid := s.cell.uid, siRev := s.cell.siRev, grade := s.cell.grade }
    power := { cause := cause, inhibitBy := p.inhibitBy, inhibit := !p.inhibitBy.isEmpty, slots := p.slots, active := p.active, trial := p.trial
               bootGen := p.bootGen, minSecVer := p.minSecVer, pfwHigh := p.pfwHigh }
    tap := s.tap, kept := s.kept, jrnl := s.jrnl.afterReset, images := s.images
    host := { pcie := { inReset := s.host.pcie.inReset }, qspi := { share := 64, inReset := s.host.qspi.inReset } }
    motion := { gpio := mapTable {} (fun g => { level := g.level }) s.motion.gpio }
    fab := { strap := s.fab.strap, sleep := { latch := s.fab.sleep.latch, src := s.fab.sleep.src } }
    wnw := { hot85 := s.wnw.hot85, hot105 := s.wnw.hot105 }
    out := s.out, freeCount := s.freeCount, pending := s.pending }

/-- The device is held in reset (R605, R608); an instruction of the test access port that holds the device prevails (R669, R671). -/
def holdInReset (cause : Nat) (s : State) : State :=
  if s.tap.hold then s else
    let s := deviceReset cause s
    { s with power := { s.power with inReset := true } }

/-- RST_N_LOW: RST_N low for 1 us resets the device (R608). -/
def execRstNLow (s : State) : Result := .next (holdInReset 1 s)

/-- A rail below its reset threshold (R606, R607), by its place in the table of R604, 7 being VDD_AON. Without VDD_AON the latched cause,
the test hold and the access port are lost (R669). -/
def railReset (rail : Nat) (s : State) : State :=
  if rail = 1 then { s with glume := { s.glume with cut := true } }.glumeFault 0
  else if rail = 7 then
    let s := deviceReset 0 { s with tap := {} }
    { s with power := { s.power with inReset := true } }
  else holdInReset 2 s

/-- RAIL_RESET_THRESHOLD: a rail below its reset threshold resets the device (R606); VDD_GLUME is the Glume's own affair (R198). -/
def execRailResetThreshold (rail : Nat) (s : State) : Result := onUnit rail 8 (railReset rail s)

/-- The rails have been in range for 1 ms with RST_N high (R605). A power-on reset samples the straps of the node ID (R653) and starts the
count of hot minutes anew (R663). -/
def powerOn (strap : Option Nat) (s : State) : State :=
  if s.tap.hold then s
  else
    let s := if s.power.inReset then s else deviceReset 0 s
    let cond := s.power.inhibitBy.filter (· == 0)
    let s := { s with power := { s.power with inReset := false, inhibitBy := cond, inhibit := !cond.isEmpty } }
    if s.power.cause = 0 then { s with fab := { s.fab with strap := strap }, wnw := { s.wnw with hot85 := 0, hot105 := 0 } } else s

/-- POWER_ON_RESET: rails in range for 1 ms with RST_N high release reset (R605). -/
def execPowerOnReset (strap : Option Nat) (s : State) : Result := .next (powerOn (strap.map (· % 256)) s)

/-- BOOT_WATCHDOG: stage 7 not ended 30 s after reset resets the device (R628). -/
def execBootWatchdog (s : State) : Result := .next (if s.cell.ready then s else deviceReset 5 s)

/-- DEFERRED_RESET: the device resets 10 ms after SYS.RESET or FW.ACTIVATE (R347, R629). -/
def execDeferredReset (s : State) : Result :=
  .next (match s.power.resetAt with
    | some (_, cause) => deviceReset cause s
    | none => s)

/-! ### Write inhibit (R609 to R611, R635) -/

/-- A record that was held back enters the open page; a page that fills is committed and closed. -/
def pushRecord (s : State) (r : JRec) : State :=
  let s := { s with jrnl := { s.jrnl with openRecs := s.jrnl.openRecs ++ [r] } }
  if 128 ≤ s.jrnl.openRecs.length then
    let s := s.commitJournal
    { s with jrnl := s.jrnl.closePage }
  else s

/-- A condition of the inhibit appears (R609): the first one appends POWER_WARN, commits and stops every non-volatile write. The rail
values of the record are free. -/
def beginInhibit (cond : Nat) (s : State) : State :=
  if s.tap.hold ∨ s.power.inhibitBy.contains cond then s
  else
    let first := !s.power.inhibit
    let s := if !first then s else
      let (v, s) := s.freeBelow (2 ^ 112)
      let s := (s.record 35 0x0011 (toLE 2 cond ++ toLE 14 v)).commitJournal
      let s := { s with power := { s.power with inhibit := true, inhibitAt := s.gtc, fwWriting := false } }
      let s := s.completeCmd 0x0D01 (fun _ => true) { status := St.fwRejected, detail := 6 }
      s.completeCmd 0x0801 (fun _ => true) { status := St.imageRejected, detail := 8 }
    let s := { s with power := { s.power with inhibitBy := s.power.inhibitBy ++ [cond] } }
    if cond = 0 then declareFailed { s with power := { s.power with pfwHigh := false } } else s

/-- PFW_N_ASSERT: PFW_N low for 2 us inhibits non-volatile writes (R609). -/
def execPfwNAssert (s : State) : Result := .next (beginInhibit 0 s)

/-- RAIL_INHIBIT_THRESHOLD: VDD_CORE or VDDIO_33 below its inhibit level inhibits writes (R609). -/
def execRailInhibitThreshold (core : Bool) (s : State) : Result := .next (beginInhibit (if core then 2 else 1) s)

/-- The inhibit ends (R611): what was held back is written, INHIBIT_RELEASE gives the duration in ns, and the journal commits. -/
def endInhibit (s : State) : State :=
  if !s.power.inhibit then s
  else
    let held := s.jrnl.heldBack
    let s := { s with power := { s.power with inhibit := false, inhibitBy := [], pfwHigh := true }, jrnl := { s.jrnl with heldBack := [] } }
    let s := held.foldl pushRecord s
    (s.record 35 0x0012 (toLE 8 (s.gtc - s.power.inhibitAt))).commitJournal

/-- INHIBIT_RELEASE: 10 ms clear of inhibit conditions ends the inhibit (R611). -/
def execInhibitRelease (s : State) : Result := .next (endInhibit s)

end Sys2Proof.Machine
end

