-- ==== Sys2Proof/Machine/Unusable.lean ====
section
/-! DEFINITION. Blocks marked unusable and what their loss costs (R128, R129, R380, R599 to R602). -/

namespace Sys2Proof.Machine

/-- A Lathe that networks can move to: it holds no image and is usable (R380). -/
def State.freeLathe (s : State) (e : Nat) : Option Nat :=
  (List.range 16).find? (fun k => k != e && !(s.lathe k).loaded && !(s.lathe k).shadowLoaded && !(s.lathe k).unusable && !s.lost (4 + k))

/-- A Lathe is lost (R380): its networks move, with their image and fresh contexts, to a free engine, or stay down. A primary that loses a
dual-homed line's engine declares itself failed (R283). -/
def latheLost (e : Nat) (s : State) : State :=
  let ns := s.engineNets e
  let s := if ns.any (fun n => (s.net n).dual.isSome) then declareFailed s else s
  let s := ns.foldl (fun s n => releaseNet (s.net n) s) s
  let s := reserveCtxs e 0 (s.updLathe e (fun l => { l with unusable := true, restarting := false, phase := l.phase.cleared, rx := l.rx.cleared, bg := l.bg.cleared }))
  match ns, s.freeLathe e with
  | [], _ => s
  | n :: _, some k =>
    let i := (s.net n).image
    match checkImage (s.image i).octets s with
    | .inr _ => ns.foldl (fun s n => stopNet n s) s
    | .inl img =>
      let s := ns.foldl (fun s n => s.updNet n (fun x => { x with engine := k })) s
      let s := ns.foldl (fun s n => grantNet (s.net n) s) s
      syncEnv k (loadImage k i img (placeSlots k s))
  | _, none => ns.foldl (fun s n => stopNet n s) s

/-- The networks that use a Chisel group, a CAN FD controller or a MAC (R601). -/
def State.netsUsing (s : State) (p : Network → Bool) : List Nat := (List.range 32).filter (fun n => (s.net n).defined && p (s.net n))

/-- Whether a block serves a moving axis (R602): a Mandrel, a MAC, a converter or a direct-drive unit. -/
def State.servesMoving (s : State) (b : Nat) : Bool :=
  s.motion.axes.any (fun p =>
    let x := p.2
    let viaPort := match x.binding.feedback with
      | some (n, _) => decide (65 ≤ b) && decide (b ≤ 76) && (s.net n).ports.contains (b - 65)
      | none => false
    let adc := x.binding.isDd && [x.dd.iaIn, x.dd.ibIn, x.dd.vbIn].any (fun i => i != 0xFF && 81 + i / 16 == b)
    x.mode != 0 && !x.still && (30 + s.mandrelOf p.1 == b || viaPort || adc || (x.binding.isDd && 93 + x.binding.unit == b)))

/-- Whether the Tiller positions left cannot serve the axes due (R127, R129, R283). -/
def State.tillersShort (s : State) : Bool :=
  let on := (s.motion.axes.filter (fun p => p.2.mode != 0)).map Prod.fst
  (List.range 16).any (fun t => decide (s.positions * 32 * 2 ^ s.cell.tickSel < s.loadAt on t))

/-- A device fault (R601, R602): a primary declares itself failed, and the device restarts. -/
def deviceFault (s : State) : State := deviceReset 6 (if s.pair.role = 1 then declareNow s else s)

/-- What the loss of a block costs (R601, R602). -/
def loseBlock (b : Nat) (s : State) : State :=
  let s := if s.servesMoving b then declareFailed s else s
  if b ≤ 3 ∨ b = 35 ∨ b = 56 ∨ b = 64 then deviceFault s
  else if b < 20 then latheLost (b - 4) s
  else if 21 ≤ b ∧ b ≤ 29 then
    let s := s.event b 0x8C01 (0x3000 + (b - 21)) (toLE 1 s.positions)
    if s.tillersShort then declareFailed s else s
  else if b = 34 then { s with wnw := { s.wnw with run := false, stream := { s.wnw.stream with en := false } } }
  else if 36 ≤ b ∧ b ≤ 51 then chkLost (b - 36) s
  else if 52 ≤ b ∧ b ≤ 55 then (s.netsUsing (fun k => k.can == b - 52)).foldl (fun s n => stopNet n s) s
  else if 65 ≤ b ∧ b ≤ 76 then linkDown (b - 65) ((s.netsUsing (fun k => k.ports.contains (b - 65))).foldl (fun s n => stopNet n s) s)
  else if 77 ≤ b ∧ b ≤ 80 then s.updFabPort (b - 77) (fun k => { k with link := false, blockLock := false })
  else if 85 ≤ b ∧ b ≤ 92 then (s.netsUsing (fun k => bitAt k.groups (b - 85))).foldl (fun s n => stopNet n s) s
  else if 93 ≤ b ∧ b ≤ 116 then
    (s.motion.axes.filter (fun p => p.2.binding.isDd && p.2.binding.unit == b - 93)).foldl (fun s p =>
      let (c, s) := s.freeBelow 256
      let s := s.updAxis p.1 (fun x => { x with driving := false, ddNext := none })
      if (s.axis p.1).mode = 0 then s else s.axisFault p.1 (0x0800 + c)) s
  else s

/-- A block is marked unusable at an edge (R600): the event, the BLOCK record with the slice its test stood at, and the costs. -/
def markBlock (s : State) (m : Nat × Nat) : State :=
  let b := m.1
  if s.lost b then s
  else
    let s := { s with wnw := { s.wnw with unusable := Table.set (0, 0) s.wnw.unusable b (m.2, s.cell.tick) } }
    let s := s.event (if b < 64 then b else 0) 0x8C02 (0x3000 + b) (toLE 2 m.2)
    let s := s.record (if b < 64 then b else 0) 0x0031 (toLE 2 b ++ toLE 2 m.2 ++ toLE 2 (if 21 ≤ b ∧ b ≤ 29 ∧ m.2 = 1 then s.wnw.spareSlice else 0))
    loseBlock b s

/-- The blocks to be marked at an edge (R600), then the move of a spare that has passed its test (R128, R603). -/
def markBlocks (s : State) : State :=
  let ms := s.wnw.marks
  ms.foldl markBlock { s with wnw := { s.wnw with marks := [] } }

/-- SPARE_TILLER_MOVE within TICK_EDGE: the spare becomes the next usable engine, and its test starts at slice 0 (R128, R598). -/
def moveSpare (s : State) : State :=
  match s.motion.spareDone with
  | none => s
  | some _ =>
    let us := (List.range 9).filter (fun n => !s.lost (21 + n))
    let next := ((List.range 9).map (fun i => (s.motion.spare + 1 + i) % 9)).find? (us.contains ·)
    let s := { s with motion := { s.motion with spareDone := none, spare := next.getD s.motion.spare } }
    { s with wnw := { s.wnw with spareSlice := 0 } }

/-- PLL_LOCK_LOSS: the lock monitor finds a PLL out of lock: the core's (0), the SerDes' (1) or the PWM's (2). The core's is a device
fault (R596, R601); the others count as failed tests, and belong to no block of R599 that could be marked (log entry 59). -/
def execPllLockLoss (pll : Nat) (s : State) : Result :=
  onUnit pll 3 (if pll = 0 then deviceFault s else { s with wnw := { s.wnw with fails := Table.upd 0 s.wnw.fails (2000 + pll) (· + 1) } })

end Sys2Proof.Machine
end

