-- ==== Sys2Proof/Machine/Winnower.lean ====
section
/-! DEFINITION. The Winnower's background work (R580 to R598, R619, R620, R663): scrubbing, calibration, wear, the telemetry stream and the
self-tests. What an access, a conversion or a test finds is the row's operand. -/

namespace Sys2Proof.Machine

/-! ### Scrubbing (R582 to R584) -/

/-- The 64-octet bursts of a pass, by memory: pool, switch buffer, Lathe instruction stores, set-point queues, Tiller state memory,
Winnower scratch (R582). -/
def bursts (mem : Nat) : Nat :=
  match mem with
  | 0 => 524288
  | 1 => 65536
  | 2 => 32768
  | 3 => 65536
  | _ => 1024

/-- A second of corrections has ended: the summary record with their count (R583). -/
def closeSecond (mem : Nat) (s : State) : State :=
  match (s.scrub mem).second with
  | some (sec, n) => if s.gtc / 1000000000 = sec then s else (s.updScrub mem (fun k => { k with second := none })).memoryRecord 34 2 mem 0 n
  | none => s

/-- A single-bit error, rewritten corrected (R570, R583): CE, the record of the first correction of a second, and WEAK_WORD for a word
corrected in two passes in a row. -/
def scrubCorrected (mem w : Nat) (s : State) : State :=
  let s := closeSecond mem s
  let k := s.scrub mem
  let weak := k.before.contains w && !k.weak.contains w
  let s' := s.setScrub mem { k with
    ce := wrap 32 (k.ce + 1), now := if k.now.contains w then k.now else k.now ++ [w], weak := if weak then k.weak ++ [w] else k.weak
    second := some (match k.second with
      | some (sec, n) => (sec, n + 1)
      | none => (s.gtc / 1000000000, 1)) }
  let s' := if mem = 0 then s'.corrected (8 * w) else s'
  let s' := if k.second.isNone then s'.memoryRecord 34 1 mem w 1 else s'
  if k.before.contains w then s'.memoryRecord 34 5 mem w 1 else s'

/-- A cell of the switch buffer is retired (R584): it leaves the free list, and a frame that holds it is withdrawn from the ports that have
not started it. `holder` is that frame, if any. -/
def retireCell (cell : Nat) (holder : Option Nat) (s : State) : State :=
  if s.wnw.retired.contains cell then s
  else
    let s : State := { s with wnw := { s.wnw with retired := s.wnw.retired ++ [cell] } }
    let s : State := match holder.bind (fun n => s.switch.frames.find? (fun f => f.no == n)) with
      | some f =>
        let less (g : SwFrame) : SwFrame := if g.no != f.no then g else if 0 < g.shared then { g with shared := g.shared - 1 } else { g with resv := g.resv - 1 }
        (List.range 30).foldl (fun s p => if bitAt f.ports p && !bitAt f.started p then portDone f.no p (s.macCount p 20) else s)
          { s with switch := { s.switch with frames := s.switch.frames.map less } }
      | none => { s with switch := { s.switch with sharedFree := s.switch.sharedFree - 1 } }
    if 256 < s.wnw.retired.length then s.doom 64 4 else s

/-- An uncorrectable error that a scrub finds in a word of 8 octets (R584). -/
def scrubBad (mem w : Nat) (holder : Option Nat) (s : State) : State :=
  let s := s.updScrub mem (fun k => { k with ue := wrap 32 (k.ue + 1) })
  let s := if mem = 0 then s.uncorrectable w else s.memoryRecord 34 3 mem w 1
  match mem with
  | 1 => retireCell (8 * w / 256) holder s
  | 2 =>
    let e := 8 * w / 131072
    let bank := 8 * w / 65536 % 2
    if bank = (s.lathe e).live then restartLathe e s
    else s.updLathe e (fun l => { l.setShadow {} with shadowLoaded := false, swapAt := none })
  | 3 =>
    let a := 8 * w / 8192
    let q := (s.axis a).queue
    match (List.range q.entries.length).find? (fun i => (q.k + i) % 256 == 8 * w % 8192 / 32) with
    | some i => declareFailed { s with wnw := { s.wnw with badEntry := s.wnw.badEntry ++ [(a, q.k + i)] } }
    | none => s
  | 4 => declareFailed { s with wnw := { s.wnw with badLoop := s.wnw.badLoop ++ [8 * w / 128] } }
  | _ => s

/-- SCRUB_BURST: the Winnower scrubs the next burst of a memory (R582); `errs` are the words of it in error, whether each is uncorrectable,
and the stored frame that holds the cell. -/
def scrubBurst (mem : Nat) (errs : List (Nat × Bool × Option Nat)) (s : State) : State :=
  let s := errs.foldl (fun s e => if e.2.1 then scrubBad mem e.1 e.2.2 s else scrubCorrected mem e.1 s) s
  let k := s.scrub mem
  if k.burst + 1 < bursts mem then s.setScrub mem { k with burst := k.burst + 1 }
  else s.setScrub mem { k with burst := 0, start := s.cell.tick + 1, passes := wrap 8 (k.passes + 1), before := k.now, now := [], counted := false }

/-- SCRUB_BURST: the Winnower scrubs one 64-octet burst of a memory (R582). -/
def execScrubBurst (mem : Nat) (errs : List (Nat × Bool × Option Nat)) (s : State) : Result :=
  onUnit mem 6 (if s.wnw.run then scrubBurst mem errs s else s)

/-- A pass not complete 600 s after it began is counted once (R582). -/
def scrubLate (mem : Nat) (s : State) : State :=
  if (s.scrub mem).counted then s
  else
    let s := s.updScrub mem (fun k => { k with counted := true })
    { s with wnw := { s.wnw with scrubLate := wrap 32 (s.wnw.scrubLate + 1) } }

/-- SCRUB_LATE: a scrub pass incomplete after 600 s is counted (R582). -/
def execScrubLate (mem : Nat) (s : State) : Result := onUnit mem 6 (scrubLate mem s)

/-! ### Tests that fail twice (R596, R597) -/

/-- The outcome of a block's test, under a key: the second failure in a row dooms the block from the next edge (R596, R600). -/
def testResult (key b cause : Nat) (ok : Bool) (s : State) : State :=
  let n := if ok then 0 else Table.get 0 s.wnw.fails key + 1
  let s := { s with wnw := { s.wnw with fails := Table.set 0 s.wnw.fails key n } }
  if n = 2 then s.doom b cause else s

/-- Whether a block is one that a slice may test in service (R596): a Lathe's shadow while it holds no image, a Chisel group or CAN FD
controller not granted, a check unit with EN = 0, or the Tiller state memory, which has no block number and is named 200 here. -/
def State.sliceable (s : State) (b : Nat) : Bool :=
  if 4 ≤ b ∧ b ≤ 19 then !(s.lathe (b - 4)).shadowLoaded
  else if 36 ≤ b ∧ b ≤ 51 then !(s.chkUnit (b - 36)).en
  else if 52 ≤ b ∧ b ≤ 55 then (s.can (b - 52)).owner.isNone
  else if 85 ≤ b ∧ b ≤ 92 then (s.chisel (b - 85)).owner.isNone
  else b == 200

/-- SELF_TEST_SLICE: an in-service self-test slice runs on one block region (R595); it leaves every value that computation reads. -/
def execSelfTestSlice (b : Nat) (ok : Bool) (s : State) : Result :=
  .next (if !s.wnw.run || !s.sliceable b then s
    else if b = 200 then { s with wnw := { s.wnw with fails := Table.set 0 s.wnw.fails 200 (if ok then 0 else Table.get 0 s.wnw.fails 200 + 1) } }
    else testResult b b 1 ok s)

/-- A slice of the spare's test (R598): the slice that fails is repeated; after 1024 passed slices the spare moves at the next edge. -/
def spareSlice (ok : Bool) (s : State) : State :=
  let spare := s.motion.spare
  let usable := ((List.range 9).filter (fun n => !s.lost (21 + n))).length
  if !s.wnw.run ∨ usable < 9 then s
  else
    let s := testResult (21 + spare) (21 + spare) 1 ok s
    if !ok then s
    else if s.wnw.spareSlice + 1 < 1024 then { s with wnw := { s.wnw with spareSlice := s.wnw.spareSlice + 1 } }
    else { s with wnw := { s.wnw with spareSlice := 1024 }, motion := { s.motion with spareDone := some spare } }

/-- SPARE_TEST_SLICE: one slice of the spare Tiller's logic self-test runs (R598). -/
def execSpareTestSlice (ok : Bool) (s : State) : Result := .next (spareSlice ok s)

/-- EYE_MONITOR: each live SerDes lane's eye is checked (R596); an eye below its bounds writes a journal record, whose TYPE is not stated,
and marks nothing. -/
def execEyeMonitor (lane : Nat) (ok : Bool) (s : State) : Result :=
  .next (if ok || !s.wnw.run then s
    else
      let (k, s) := s.freeBelow 65536
      s.record 34 k (toLE 2 lane))

/-- LOOPBACK_TEST: an idle lane runs PRBS31 loop-back (R597): MACs at 0 to 11, fabric ports at 12 to 15. A link that is up, or comes up during
the test, ends it without a result. -/
def execLoopbackTest (lane : Nat) (ok : Bool) (s : State) : Result :=
  let b := if lane < 12 then 65 + lane else 77 + (lane - 12)
  let up := if lane < 12 then (s.mac lane).link else (s.fabPort (lane - 12)).link
  onUnit lane 16 (if up || !s.wnw.run then s else testResult (1000 + b) b 6 ok s)

/-! ### Calibration (R586 to R588) -/

/-- The code of a mid-scale input under a correction. -/
def midCode (ofs : Int) (gain : Nat) : Int := ({ ofs := ofs, gain := gain } : Calib).correct 32768

/-- A calibration is stored when it differs from the stored one by more than 4 codes in OFS or in the mid-scale code (R588). -/
def storeCalib (c : Nat) (ofs : Int) (gain : Nat) (s : State) : State :=
  let old := (s.calib c).stored.getD (0, 0x10000)
  if (ofs - old.1).natAbs ≤ 4 ∧ (midCode ofs gain - midCode old.1 old.2).natAbs ≤ 4 then s
  else (s.updCalib c (fun k => { k with stored := some (ofs, gain) })).retain 3 (81 + c) (toLEs 2 ofs ++ toLE 4 gain)

/-- A converter is recalibrated (R586): the measured OFS and GAIN, or a reference more than 64 codes off, which is a failed check. A change
of the mid-scale code by more than 2 codes is made in steps of 2 codes at successive edges. -/
def calibrate (c : Nat) (ofs : Int) (gain : Nat) (off : Bool) (s : State) : State :=
  let s := testResult (81 + c) (81 + c) 5 (!off) s
  if off then s
  else
    let k := s.calib c
    let d := (midCode ofs gain - midCode k.ofs k.gain).natAbs
    storeCalib c ofs gain (s.setCalib c { k with target := some (ofs, gain, max 1 (ceilDiv d 2)) })

/-- CONVERTER_CALIBRATION: every 10 s a converter is recalibrated (R586). -/
def execConverterCalibration (c : Nat) (ofs : Int) (gain : Nat) (off : Bool) (s : State) : Result :=
  onUnit c 4 (if s.wnw.run then calibrate c (toS 16 (toU 16 ofs)) (gain % 2 ^ 18) off s else s)

/-- An edge takes a calibration one step on (R586): OFS and GAIN between the old and the new pair are not stated, and are free. -/
def stepCalib (s : State) (c : Nat) : State :=
  match (s.calib c).target with
  | none => s
  | some (o, g, n) =>
    if n ≤ 1 then s.updCalib c (fun k => { k with ofs := o, gain := g, target := none })
    else
      let (a, s) := s.freeBelow (2 ^ 16)
      let (b, s) := s.freeBelow (2 ^ 18)
      s.updCalib c (fun k => { k with ofs := toS 16 a, gain := b, target := some (o, g, n - 1) })

/-- A unit's tap delay is measured and tuned (R587, R588): the new setting in ps loads at the next edge, and a change by more than 0.1 ns is
stored. A unit that cannot be tuned into its bound fails its test. -/
def tune (u tap : Nat) (ok : Bool) (s : State) : State :=
  let s := testResult (93 + u) (93 + u) 5 ok s
  if !ok then s
  else
    let s := { s with wnw := { s.wnw with tapNext := Table.set 0 s.wnw.tapNext u (tap + 1) } }
    let old := Table.get 0 s.wnw.tapKept u
    if tap ≤ old + 100 ∧ old ≤ tap + 100 then s
    else { s with wnw := { s.wnw with tapKept := Table.set 0 s.wnw.tapKept u tap } }.retain 3 (93 + u) (toLE 4 tap)

/-- PWM_TUNING: every 1 s each PWM unit's tap delay is measured and tuned (R587). -/
def execPwmTuning (u tap : Nat) (ok : Bool) (s : State) : Result := onUnit u 24 (if s.wnw.run then tune u tap ok s else s)

/-- New tap settings load at a tick edge (R587). -/
def loadTaps (s : State) : State :=
  { s with wnw := { s.wnw with tap := s.wnw.tapNext.foldl (fun t p => Table.set 0 t p.1 (p.2 - 1)) s.wnw.tap, tapNext := [] } }

/-- TEMPERATURE_SAMPLE: the Winnower samples the junction temperature once per millisecond, in 0.25 degrees C (R663), and streams it. -/
def sampleTemp (tj : Int) (s : State) : State :=
  let w := s.wnw
  let s := { s with wnw := { w with tj := tj, hot85 := if 340 < tj then w.hot85 + 1 else w.hot85, hot105 := if 420 < tj then w.hot105 + 1 else w.hot105 } }
  s.stream 3 4 s.gtc (toLE 8 s.gtc ++ toLE 4 0 ++ toLE 4 34 ++ toLEs 8 tj)

/-- TEMPERATURE_SAMPLE: the Winnower samples the junction temperature (R663). -/
def execTemperatureSample (tj : Int) (s : State) : Result := .next (if s.wnw.run then sampleTemp (toS 10 (toU 10 tj)) s else s)

/-! ### Tier 2 (R589, R590, R619, R620) -/

/-- A sector is moved when its erase count trails the highest by more than 2000 (R589): its contents go to a free sector, and it is erased. -/
def wearMove (sector : Nat) (s : State) : State :=
  let j := s.jrnl
  if s.power.inhibit ∨ j.deferring ∨ j.eraseSpan.1 ≤ Table.get 0 j.erases sector + 2000 then s
  else { s with jrnl := { j with erases := Table.upd 0 j.erases sector (· + 1), nvWritten := j.nvWritten + 65536 } }

/-- WEAR_LEVEL_MOVE: the Winnower moves a tier-2 sector whose count trails (R589). -/
def execWearLevelMove (sector : Nat) (s : State) : Result := onUnit sector levelled (if s.wnw.run then wearMove sector s else s)

/-- The 24-hour average of the tier-2 writes (R590); `past` is what was written before the last 24 hours began. -/
def rateCheck (past : Nat) (s : State) : State :=
  let j := s.jrnl
  let n := j.nvWritten - past
  let avg := n / 86400
  { s with jrnl := { j with nvWritten := n, rateAvg := wrap 32 avg
                            deferring := if rateLimit < avg then true else if 10 * avg < 9 * rateLimit then false else j.deferring } }

/-- NV_RATE_CHECK: the 24-hour tier-2 write rate starts or ends deferral (R590). -/
def execNvRateCheck (past : Nat) (s : State) : Result := .next (rateCheck past s)

/-- The oldest closed page is copied to the archive (R620), unless tier-2 writes are deferred, in which case its records are counted once
(R590). `evict` is the archive sector erased for room and how many pages it held. -/
def archivePage (evict : Option (Nat × Nat)) (s : State) : State :=
  let j := s.jrnl
  match j.pages.find? (fun p => decide (j.nextArchive ≤ p.no)) with
  | none => s
  | some p =>
    if s.power.inhibit then s
    else if j.deferring then
      if p.no < j.deferredTo then s
      else { s with jrnl := { j with nvDeferred := wrap 32 (j.nvDeferred + p.recs.length), deferredTo := p.no + 1 } }
    else
      let j := match evict with
        | some (sec, n) => { j with archive := j.archive.drop n, erases := Table.upd 0 j.erases sec (· + 1) }
        | none => j
      { s with jrnl := { j with archive := j.archive ++ [p], nextArchive := p.no + 1, nvWritten := j.nvWritten + 4096 } }

/-- ARCHIVE_COPY: a closed tier-1 page is copied to the archive (R620). -/
def execArchiveCopy (evict : Option (Nat × Nat)) (s : State) : Result := .next (archivePage evict s)

/-- A NOR operation ends (R619): a page program (0), a verify (1) or a sector erase (2). A device that fails is recorded as failed, and the
other is used alone. -/
def norEnd (dev op sector : Nat) (ok : Bool) (s : State) : State :=
  let j := s.jrnl
  let s := if op = 2 ∧ ok then { s with jrnl := { j with erasing := j.erasing.filter (· != sector), erases := Table.upd 0 j.erases sector (· + 1) } } else s
  if ok then s
  else ({ s with jrnl := { s.jrnl with norOk := clrBit s.jrnl.norOk dev } }).memoryRecord 0 6 dev sector op

/-- NOR_OPERATION_COMPLETE: a NOR page program, verify or sector erase ends (R619). -/
def execNorOperationComplete (dev op sector : Nat) (ok : Bool) (s : State) : Result := onUnit dev 2 (norEnd dev op sector ok s)

/-! ### The telemetry stream (R591 to R593) -/

/-- The records that a datagram takes: as many as 1472 octets of payload hold (R592). -/
def packStream : Nat → List StreamRec → Nat
  | _, [] => 0
  | room, r :: rs => if r.data.length + 4 ≤ room then 1 + packStream (room - (r.data.length + 4)) rs else 0

/-- The sum of an IPv4 header's half-words, folded (RFC 791). -/
def ipCheck (bs : List Byte) : Nat :=
  let sum := ((List.range (bs.length / 2)).map (fun i => (bs.getD (2 * i) 0).toNat * 256 + (bs.getD (2 * i + 1) 0).toNat)).foldl (· + ·) 0
  65535 - (sum % 65536 + sum / 65536)

/-- A telemetry datagram as an Ethernet frame (R592). The source address and what the manual leaves open of the IPv4 header are free. -/
def datagram (t : Stream) (node free : Nat) (rs : List StreamRec) : List Byte :=
  let recs := rs.flatMap (fun r => toBE 1 r.rtype ++ [0] ++ toBE 2 r.data.length ++ r.data)
  let pay := toBE 1 1 ++ toBE 1 node ++ toBE 2 t.seq ++ toBE 8 ((rs.head?.map (·.gtc)).getD 0) ++ toBE 2 rs.length ++ [0, 0] ++ recs
  let udp := toBE 2 0x8862 ++ toBE 2 t.udpPort ++ toBE 2 (8 + pay.length) ++ [0, 0] ++ pay
  let ip (check : Nat) : List Byte :=
    toBE 1 0x45 ++ toBE 1 (field free 48 8) ++ toBE 2 (20 + udp.length) ++ toBE 4 (field free 56 32) ++ toBE 1 (field free 88 8) ++ toBE 1 17 ++
      toBE 2 check ++ t.srcIp ++ t.dstIp
  t.dstMac ++ toBE 6 (field free 0 48) ++ toBE 2 0x0800 ++ ip (ipCheck (ip 0)) ++ udp

/-- A datagram with waiting records leaves switch port 28 in class 0 when the Sheaf's credits allow (R434, R592, R593). -/
def sendTelemetry (s : State) : State :=
  let t := s.wnw.stream
  let n := packStream 1456 t.queue
  if !t.en ∨ n = 0 then s
  else
    let (f, s) := s.freeBelow (2 ^ 96)
    let octs := datagram t s.cell.node f (t.queue.take n)
    match storeInternal 28 octs 0 (2 ^ t.port) s with
    | none => s
    | some s => { s with wnw := { s.wnw with stream := { t with queue := t.queue.drop n, seq := wrap 16 (t.seq + 1) } } }.send (.telemetry octs)

/-- TELEMETRY_DATAGRAM: a telemetry datagram with waiting records is sent (R592). -/
def execTelemetryDatagram (s : State) : Result := .next (sendTelemetry s)

end Sys2Proof.Machine
end

