-- ==== Sys2Proof/Machine/Startup.lean ====
section
/-! DEFINITION. Start-up (R617, R625 to R634): the boot ROM's choice, RECOVER, and the stages to cell state STANDBY or CONFIG. -/

namespace Sys2Proof.Machine

/-- A start-up stage ends: its number and its time in ms, measured from the end of the one before (R614, R631). -/
def endStage (n : Nat) (s : State) : State :=
  let past := s.power.stageMs.foldl (· + ·) 0
  { s with power := { s.power with stage := n, stageMs := s.power.stageMs ++ [s.time.clk * 4 / 1000000 - past] } }

/-! ### Boot (R617, R626, R627) -/

/-- Whether the boot ROM accepts a slot (R626). -/
def State.slotFine (s : State) (k : Nat) : Bool := (s.fwSlot k).state == 2 && decide (s.power.minSecVer ≤ (s.fwSlot k).secVer)

/-- The slot the boot ROM runs (R627), none for RECOVER. -/
def State.bootSlot (s : State) : Option Nat :=
  let c := if s.power.trial then 1 - s.power.active else s.power.active
  if s.slotFine c then some c else if s.slotFine (1 - c) then some (1 - c) else none

/-- The journal starts (R617, R619): a new page after the highest committed one, a GAP record for what was lost, and the sectors found erasing
erased again. -/
def startJournal (s : State) : State :=
  let j := s.jrnl
  let j := if j.openRecs ≠ [] then j.closePage else if j.gap.isSome then { j with openNo := j.openNo + 1 } else j
  let j := { j with erases := j.erasing.foldl (fun t x => Table.upd 0 t x (· + 1)) j.erases, erasing := [] }
  match j.gap with
  | none => { s with jrnl := j }
  | some (a, b) => { s with jrnl := { j with gap := none, lost := wrap 32 (j.lost + (b + 1 - a)) } }.record 0 0x0013 (toLE 8 a ++ toLE 8 b)

/-- RECOVER (R630): channels 0 and 16 lead in, 8 and 20 lead out. -/
def enterRecover (s : State) : State :=
  let s := [0, 8, 16, 20].foldl bindChannel s
  { s with cell := { s.cell with state := 6 } }

/-- Stage 2 (R302, R354, R627, R631): TRIAL is cleared, the chosen firmware starts, binds the channels, gives the Lathes their banks, restores
the customer key, and starts the journal. -/
def bootChoice (s : State) : State :=
  let slot := s.bootSlot
  let s := if s.power.trial ∧ !s.power.inhibit then { s with power := { s.power with trial := false, bootGen := wrap 32 (s.power.bootGen + 1) } } else s
  match slot with
  | none => enterRecover s
  | some k =>
    let f := s.fwSlot k
    let s := { s with power := { s.power with running := k, replLevel := f.replLevel }, cell := { s.cell with fwRelease := f.release } }
    let s := bindAll s
    let s := (List.range 16).foldl (fun s n => s.giveBank (32 + n) (0x10 + n)) s
    let r := s.retained 4 0
    endStage 2 (startJournal { s with custKey := if r.valid then some r.body else none })

/-- Whether a start-up stage can run: the device is not held in reset, and stands in BOOT. -/
def State.starting (s : State) (after : Nat) : Bool :=
  s.cell.state == 1 && !s.power.inReset && !s.tap.hold && !s.power.halted && s.power.stage == after

/-- BOOT_SLOT_CHOICE: the boot ROM chooses and runs a firmware slot (R627). -/
def execBootSlotChoice (s : State) : Result := .next (if s.starting 0 then bootChoice s else s)

/-- RECOVER_WORD: in RECOVER the ROM takes the word of channel 0 or 16, hands banks 0 to 31 to its port, checks the image that the word
measures and writes slot A (R630); the reset it makes has no cause of its own in R608 (log entry 9). -/
def recoverWord (ch : Nat) (s : State) : State :=
  if s.cell.state ≠ 6 ∨ (ch ≠ 0 ∧ ch ≠ 16) ∨ !(s.chan ch).full then s
  else
    let w := (s.chan ch).word.toNat
    let port := if ch = 0 then 4 else 5
    let other := if ch = 0 then 5 else 4
    let s := s.acknowledge ch
    let s := if (List.range 32).any (fun b => s.owns other b) then s else (List.range 32).foldl (fun s b => s.giveBank b port) s
    let bs := s.memGet 0 (16 * (w % 2 ^ 24))
    if w / 2 ^ 24 = 0 ∧ fwReason bs s.power.minSecVer = 0 ∧ !s.power.inhibit then
      let s := s.setFwSlot 0 (fwRecord bs)
      deviceReset 6 { s with power := { s.power with active := 0, bootGen := wrap 32 (s.power.bootGen + 1) } }
    else s.storeWord 0 (ch / 16 * 12 + 8) 0x2000020E

/-- RECOVER_WORD: in RECOVER the ROM checks the posted image and writes slot A (R630). -/
def execRecoverWord (ch : Nat) (s : State) : Result := .next (recoverWord ch s)

/-! ### Stages 3 and 4 (R632, R633) -/

/-- A failed block is marked unusable with cause 7 (R600, R633). The loss of a block that ends start-up is judged when stage 4 ends. -/
def markFailed (s : State) (b : Nat) : State :=
  if [1, 2, 3, 56, 64].contains b then
    let s := { s with wnw := { s.wnw with unusable := Table.set (0, 0) s.wnw.unusable b (7, s.cell.tick) } }
    (s.event (if b < 64 then b else 0) 0x8C02 (0x3000 + b) (toLE 2 7)).record (if b < 64 then b else 0) 0x0031 (toLE 2 b ++ toLE 2 7)
  else markBlock s (b, 7)

/-- Stage 3: the start-up self-test finds blocks failed, and perhaps an uncorrectable fault in the pool (R633). A failure of Sheaf core 0 or of
the power and reset monitor leaves the device in reset. -/
def selfTest (failed : List Nat) (pool : Bool) (s : State) : State :=
  if failed.contains 0 ∨ failed.contains 35 then holdInReset s.power.cause s
  else
    let s := failed.foldl markFailed s
    let s := { s with power := { s.power with startFailed := failed ++ (if pool then [250] else []) }, wnw := { s.wnw with run := !failed.contains 34 } }
    endStage 3 s

/-- STARTUP_SELF_TEST: stage 3 tests each block in isolation (R633). -/
def execStartupSelfTest (failed : List Nat) (pool : Bool) (s : State) : Result := .next (if s.starting 2 then selfTest failed pool s else s)

/-- The safety block from its retained record, when its stored confirmation holds (R247). -/
def State.keptBlock (s : State) : Option GlmBlock :=
  let r := s.retained 1 0
  let raw := r.body.take (r.body.length - 4)
  match parseBlock raw with
  | .ok b => if r.valid && b.crc == uAt r.body (r.body.length - 4) 4 then some b else none
  | .error _ => none

/-- Stage 4: the Glume is ready (R632); start-up ends here in BOOT when stage 3 lost a block it cannot do without (R633). -/
def glumeStart (s : State) : State :=
  let kept := s.jrnl.retained
  let s := match s.keptBlock with
    | some b => activateBlock { s with glume := { s.glume with confirmed := some b } }
    | none => s.raiseAll causeNoConfig 0
  let s := endStage 4 { s with jrnl := { s.jrnl with retained := kept } }
  if s.power.startFailed.any (fun b => [1, 2, 3, 56, 64, 250].contains b) then
    { s with power := { s.power with halted := true }, cell := { s.cell with ready := true, fault := true } }
  else s

/-- GLUME_STARTUP: the Glume reads its block and is ready (R632). -/
def execGlumeStartup (s : State) : Result := .next (if s.starting 3 then glumeStart s else s)

/-! ### Stages 5 and 6 (R631) -/

/-- An engine's image is loaded for its stored networks (R370). -/
def loadStored (s : State) (e : Nat) : State :=
  match s.engineNets e with
  | [] => s
  | n :: _ =>
    let i := (s.net n).image
    match checkImage (s.image i).octets s with
    | .inr _ => s
    | .inl img => syncEnv e (loadImage e i img (placeSlots e s))

/-- Stage 5: the stored networks with their images and servo settings; `locked` are the bases that lock within the wait, and each other servoed
base raises SYNC_LOST (R631, R634). What the samples of the wait set in a base beside LOCKED is not part of the row (log entry 60). -/
def imageStage (locked : List Nat) (s : State) : State :=
  let k := s.kept.getD {}
  let s := { s with nets := k.nets, time := { s.time with bases := k.bases.foldl (fun t p => Table.upd {} t p.1 (fun (b : TimeBase) =>
    { p.2 with val := b.val, adj := b.adj, lastSample := s.gtc, lastStep := b.lastStep })) s.time.bases, cmp := k.cmp } }
  let nets := (List.range 32).filter (fun n => (s.net n).defined)
  let s := nets.foldl (fun s n => grantNet (s.net n) s) s
  let s := (List.range 16).foldl loadStored s
  let s := setResv s
  endStage 5 ([1, 2, 3, 4, 5, 6].foldl (fun s n =>
    if !(s.base n).servoEn then s
    else if locked.contains n then s.updBase n (fun b => { b with locked := true })
    else s.event 0 0x8A01 (0x3000 + n) (toLEs 4 (s.base n).lastOfs)) s)

/-- STARTUP_IMAGE_LOAD: stage 5 loads images, starts networks and waits for lock (R631). -/
def execStartupImageLoad (locked : List Nat) (s : State) : Result := .next (if s.starting 4 then imageStage locked s else s)

/-- The body of the ROLE record or retained record with the highest epoch (R622). -/
def State.lastRole (s : State) : Option (List Byte) :=
  let r := s.retained 9 0
  let found := s.jrnl.held.filterMap (fun p => if p.2.kind = 0x0020 then some (toLE 4 (uAt p.2.body 0 4) ++ octets p.2.body 5 3) else none)
  (found ++ (if r.valid then [r.body] else [])).foldl (fun (a : Option (List Byte)) b => match a with
    | some x => if epochDiff (uAt b 0 4) (uAt x 0 4) < 0 then some x else some b
    | none => some b) none

/-- Stage 6: the epoch as the journal holds it, and the fabric join with the retained key and arguments; without them the device stays outside
(R525, R622, R631). -/
def fabricStage (s : State) : State :=
  let key := s.retained 5 0
  let map := s.retained 6 0
  let conf := s.retained 7 0
  let args := conf.body.drop (8 + uAt conf.body 4 2 + uAt conf.body 6 2)
  let s := match s.lastRole with
    | some b => { (if (s.retained 9 0).valid ∧ (s.retained 9 0).body = b then s else s.retain 9 0 b) with cell := { s.cell with epoch := uAt b 0 4 } }
    | none => s
  let s := { s with fab := { s.fab with key := if key.valid then some key.body else none
                                        map := if map.valid then (List.range (map.body.length / 20)).map (fun i => mapEntryAt (List.replicate 16 0 ++ map.body) i) else [] } }
  let s := if key.valid && conf.valid && args != [] then { startJoin args s with jrnl := s.jrnl } else s
  endStage 6 s

/-- STARTUP_FABRIC_JOIN: stage 6 joins the fabric as listener (R631). -/
def execStartupFabricJoin (s : State) : Result := .next (if s.starting 5 then fabricStage s else s)

/-! ### Stage 7 (R50, R325, R588, R627, R631, R634) -/

/-- The stored calibration of a converter or tap applies until the first calibration is complete (R588). -/
def restoreCalib (s : State) : State :=
  let s := (List.range 4).foldl (fun s c =>
    let r := s.retained 3 (81 + c)
    if r.valid then s.setCalib c { ofs := sAt r.body 0 2, gain := uAt r.body 2 4, stored := some (sAt r.body 0 2, uAt r.body 2 4) } else s) s
  (List.range 24).foldl (fun s u =>
    let r := s.retained 3 (93 + u)
    if r.valid then { s with wnw := { s.wnw with tap := Table.set 0 s.wnw.tap u (uAt r.body 0 4), tapKept := Table.set 0 s.wnw.tapKept u (uAt r.body 0 4) } } else s) s

/-- Words on a port's command channels when READY rises are discarded (R323, R631). -/
def discardWords (s : State) : State :=
  [0, 1, 2, 3, 4, 5, 6, 7, 16, 17, 18, 19, 63].foldl (fun s ch =>
    let c := s.chan ch
    if c.full then (s.acknowledge ch).protocolError (if ch < 8 then 4 else if ch < 20 then 5 else c.writer) ch c.word else s) s

/-- Firmware that runs from the slot other than ACTIVE confirms itself (R627). -/
def confirmFirmware (s : State) : State :=
  let p := s.power
  if p.running = p.active ∨ p.inhibit then s
  else
    let f := s.fwSlot p.running
    { s with power := { p with active := p.running, bootGen := wrap 32 (p.bootGen + 1), minSecVer := max p.minSecVer f.secVer } }.record 0 0x0021
      (toLE 1 p.running ++ toLE 2 f.release ++ toLE 1 f.secVer)

/-- The BOOT record: cause, slot, release and the stage times in ms, 16 bits each (R614; log entry 60). -/
def bootRecord (s : State) : State :=
  s.record 0 0x0010 (toLE 1 s.power.cause ++ toLE 1 s.power.running ++ toLE 2 s.cell.fwRelease ++ s.power.stageMs.flatMap (toLE 2))

/-- The configuration of stage 7 (R634): axes and arms with their derived values for the present tick, cams, zones and N of the PWM. -/
def restoreConfig (s : State) : State :=
  match s.kept with
  | none => s
  | some k => { s with
      motion := { s.motion with axes := mapTable {} (fun x => x.rederive s.tickLen) k.axes, arms := k.arms, cams := k.cams, pwmN := k.pwmN }
      claim := { s.claim with zones := k.zones } }

/-- Stage 7: the configuration is restored, the axes placed, the cell state reached, and READY rises. -/
def configStage (s : State) : State :=
  let s := restoreCalib ((restoreConfig s).placeAll)
  let s := s.enterCell (if s.kept.isSome then 3 else 2)
  let s := bootRecord (endStage 0 s)
  let s := confirmFirmware s
  let s := discardWords { s with cell := { s.cell with ready := true } }
  let s := [56, 57, 58, 59].foldl (fun s b => giveBank 4 b s) s
  [60, 61].foldl (fun s b => giveBank 5 b s) s

/-- STARTUP_CONFIG_RESTORE: stage 7 restores configuration, enters the cell state and raises READY (R634). -/
def execStartupConfigRestore (s : State) : Result := .next (if s.starting 6 then configStage s else s)

end Sys2Proof.Machine
end

