-- ==== Sys2Proof/Machine/Tap.lean ====
section
/-! DEFINITION. The test access port (R664 to R671): the instructions of IEEE 1149.1 as they take effect at Update-IR, the test hold, and the
taking of the pins. Which cell of the boundary-scan register is which is in the BSDL file, not in the manual: the register is a number. -/

namespace Sys2Proof.Machine

/-- The identification register (R666). -/
def idCode : Nat := 0x28860A3F

/-- What the boundary-scan register captures: the pins, in an order the manual does not give, so a free value (R665, R667; log entry 65). -/
def capturePins (s : State) : State :=
  let (v, s) := s.freeBelow (2 ^ Config.scanCells)
  { s with tap := { s.tap with dr := v } }

/-- An instruction that does not take the pins (R665): the pins return to the device, or stay in the test hold (R669). -/
def selectQuiet (ir dr : Nat) (s : State) : State := { s with tap := { s.tap with ir := ir, dr := dr, takesAt := none, taken := false } }

/-- TAP_RESET: the TAP enters Test-Logic-Reset, which selects IDCODE (R664, R665). -/
def execTapReset (s : State) : Result := .next (selectQuiet 1 idCode s)

/-- IDCODE: selects the identification register (R666). -/
def execTapIdcode (s : State) : Result := .next (selectQuiet 0x01 idCode s)

/-- BYPASS: selects the bypass register (R665). -/
def execTapBypass (s : State) : Result := .next (selectQuiet 0x1F 0 s)

/-- SAMPLE_PRELOAD: captures the pins without taking them, and loads the update stage (R665). -/
def execTapSamplePreload (preload : Nat) (s : State) : Result :=
  .next (capturePins (selectQuiet 0x02 0 { s with tap := { s.tap with update := preload % 2 ^ Config.scanCells } }))

/-- The test hold begins (R668, R669): every domain but the always-on one and the Glume is reset, every safe output pair is de-energised, the
key copies are zeroed, and the fused root key is blocked. -/
def enterHold (s : State) : State :=
  let g := s.glume
  let t := deviceReset s.power.cause s
  { t with custKey := none, glume := { g with cut := true, outputs := mapTable {} (fun o => { o with high := false, low := false }) g.outputs }
           power := { t.power with inReset := true, inhibit := true }, tap := { t.tap with hold := true } }

/-- Update-IR of an instruction that takes the pins (R668): the hold, and control of the pins 20 us later. -/
def selectTaking (ir : Nat) (boundary : Bool) (s : State) : State :=
  let s := if s.tap.hold then s else enterHold s
  let s := { s with tap := { s.tap with ir := ir, dr := 0, takesAt := some (s.gtc + 20000), taken := false } }
  if boundary then capturePins s else s

/-- EXTEST: boundary scan drives the pins from the register (R665, R668). -/
def execTapExtest (s : State) : Result := .next (selectTaking 0x00 true s)

/-- CLAMP: takes the pins with bypass selected (R665, R668). -/
def execTapClamp (s : State) : Result := .next (selectTaking 0x03 false s)

/-- HIGHZ: takes the pins to high impedance (R665, R668). -/
def execTapHighz (s : State) : Result := .next (selectTaking 0x04 false s)

/-- EXTEST_PULSE: AC-coupled SerDes test with pulses (R667, R668). -/
def execTapExtestPulse (s : State) : Result := .next (selectTaking 0x05 true s)

/-- EXTEST_TRAIN: AC-coupled SerDes test with toggling trains (R667, R668). -/
def execTapExtestTrain (s : State) : Result := .next (selectTaking 0x06 true s)

/-- PIN_CONTROL_TAKEOVER: 20 us after Update-IR the instruction takes the pins (R668); a safe output is never among them (R667). -/
def execTapPinControlTakeover (s : State) : Result :=
  .next (match s.tap.takesAt with
    | none => s
    | some t =>
      let s := s.advanceTo t
      { s with tap := { s.tap with takesAt := none, taken := true } })

end Sys2Proof.Machine
end

