-- ==== Sys2Proof/Machine/Triggers.lean ====
section
/-! DEFINITION. Matches of the compare units and what they start (R496 to R499). -/

namespace Sys2Proof.Machine

/-- Cycles of the time clock until an armed unit matches; 0 when it does in the next one (R496). -/
def State.cyclesToMatch (s : State) (u : Nat) : Nat :=
  let b := s.base (s.cmp u).tb
  let d := (s.cmp u).diff b
  if d ≤ 0 then 1 else b.cyclesTo (b.ns + d.toNat)

/-- Whether a unit is one of the fixed converter starts (R167, R495). -/
def State.converterUnit (s : State) (u : Nat) : Bool := decide (1 ≤ u) && decide (u ≤ 4) && s.motion.pwmN != 0

/-- The consumers of a match (R498, R499): `k` is the unit as it stood, with the matched TARGET. -/
def matchActions (u : Nat) (k : CmpUnit) (s : State) : State :=
  let s := if k.owner = 0x3F then s else pinAction u k s
  if u < 5 then s
  else
    let s := if k.tb ≠ 0 then s else (List.range 8).foldl (fun s g => if (s.chisel g).trigEn && (s.chisel g).trigUnit == u then s.updChisel g (fun c => c.trigger u) else s) s
    if k.entryEn && isLathe k.owner then s.requestEntry (k.owner - 0x10) s.gtc (0x60 + u) k.target else s

/-- A compare unit matches (R496): time passes to the match. Unit 0 is the tick edge, a row of its own (R495). -/
def compareMatch (u : Nat) (s : State) : State :=
  if u = 0 then s
  else if s.converterUnit u then s.updAdc (u - 1) (fun d => { d with busy := d.inputEn != 0 })
  else
    let k := s.cmp u
    if !k.arm then s
    else matchActions u k ((s.advance (s.cyclesToMatch u)).updCmp u CmpUnit.matched)

/-- COMPARE_MATCH: a compare unit matches and acts on its consumers (R496). -/
def execCompareMatch (u : Nat) (s : State) : Result := onUnit u 32 (compareMatch u s)

end Sys2Proof.Machine
end

