-- ==== Sys2Proof/Machine/TickEdge.lean ====
section
/-! DEFINITION. The tick edge (R11, R14 to R17, R649), the change of the tick length (R14), and the output seal with all it closes. -/

namespace Sys2Proof.Machine

/-! ### The load record (R43) -/

/-- The peaks of the tick that ends: how many axes were due, and the work whose length the spec does not give, which is free. -/
def loadPeaks (s : State) : State :=
  let due := (s.dueAxes s.cell.tick).length
  let sel := s.cell.tickSel
  let (a, s) := s.freeBelow (sealOfs sel - phaseNs sel 15 + 1)
  let (m, s) := s.freeBelow 65536
  let (w, s) := s.freeBelow 65536
  let (g, s) := s.freeBelow (tickNs sel - guardOfs sel + 1)
  let r := s.cell.load
  { s with cell := { s.cell with load := { r with
      gtcFirst := if r.ticks = 0 then s.cell.edge else r.gtcFirst, ticks := wrap 32 (r.ticks + 1), duePeak := max r.duePeak due
      asmEnd := max r.asmEnd (phaseNs sel 15 + a), mandrelPeak := max r.mandrelPeak m, winnowerPeak := max r.winnowerPeak w
      guardPeak := max r.guardPeak g } } }

/-- Whether a margin falls below the threshold: what is left of a phase, as a fraction of it in Q0.16. -/
def tight (th left whole : Int) : Bool := decide (left * 65536 < th * whole)

/-- Whether some margin of the running load record lies below its threshold (R43): the Tiller window, output assembly, the transmit band and
the guard band. -/
def State.loadTight (s : State) : Bool :=
  let r := s.cell.load
  let sel := s.cell.tickSel
  let th : Int := r.threshold
  let at_ (us : Nat) : Int := phaseNs sel us
  tight th (at_ 15 - r.tillerEnd) (at_ 14) || tight th (at_ 17 - r.asmEnd) (at_ 2) || tight th r.txMargin (at_ 11) ||
    tight th ((tickNs sel : Int) - at_ 28 - r.guardPeak) ((tickNs sel : Int) - at_ 28)

/-- The tick that ends joins the load record (R43); a margin below the threshold is reported once in an interval, and the record goes to the
telemetry stream every LOAD_TICKS ticks (R591). -/
def closeTick (s : State) : State :=
  let s := loadPeaks s
  let s := if s.loadTight && !s.cell.load.reported then
      ({ s with cell := { s.cell with load := { s.cell.load with reported := true } } }).event 0 0x8202 0 (s.cell.load.octets.take 16)
    else s
  if s.cell.tick % max 1 s.wnw.stream.loadTicks = 0 then s.stream 0 1 s.gtc s.cell.load.octets else s

/-! ### The change of the tick length (R14) -/

/-- A tick count named on the old grid as the first edge of the new grid at or after its GTC (R14). -/
def reTick (old new n : Nat) : Nat := ceilDiv (n * old) new

/-- A count that measures from the present tick keeps its distance. -/
def shiftTick (old new n : Nat) : Nat := ((n : Int) + new - old).toNat

/-- What a device knows of a member, on the new grid. -/
def FabMember.regrid (a b t u : Nat) (m : FabMember) : FabMember :=
  { m with last := mapTable 0 (shiftTick t u) m.last, lastCycle := if m.lastCycle = 0 then 0 else shiftTick t u m.lastCycle
           leaveAt := m.leaveAt.map (reTick a b), restoreAt := m.restoreAt.map (reTick a b) }

/-- The new tick length takes effect at its change edge (R14, R85, R150, R582): the next edge opens the first tick of the new grid. -/
def changeLength (s : State) : State :=
  match s.cell.change with
  | none => s
  | some (sel, at_) =>
    if s.cell.nextEdge < at_ then s
    else
      let a := s.tickLen
      let b := tickNs sel
      let t := at_ / a
      let u := at_ / b
      { s with
        cell := { s.cell with tickSel := sel, change := none, nextEdge := at_ }
        motion := { s.motion with axes := mapTable {} (fun x => x.rederive b) s.motion.axes }
        claim := { s.claim with msgs := s.claim.msgs.map (fun m => (reTick a b m.1, m.2)) }
        wnw := { s.wnw with scrub := (List.range 6).foldl (fun t i => Table.upd {} t i (fun k => { k with burst := 0, start := u })) s.wnw.scrub }
        pair := { s.pair with takeAt := s.pair.takeAt.map (reTick a b) }
        fab := { s.fab with
          changes := s.fab.changes.map (fun c => (reTick a b c.1, c.2)), cutAt := s.fab.cutAt.map (shiftTick t u)
          sleep := { s.fab.sleep with pnr := reTick a b s.fab.sleep.pnr }, nodes := mapTable {} (FabMember.regrid a b t u) s.fab.nodes } }

/-- TICK_LENGTH_CHANGE: the change edge of a committed CELL.SET_TICK is reached (R14); edges of the old grid that lie before it come first. -/
def execTickLengthChange (s : State) : Result :=
  .next (changeLength (match s.cell.change with
    | some (_, at_) => if s.cell.nextEdge < at_ then s else s.advanceTo at_
    | none => s))

/-! ### The edge and the input seal (R11, R15, R16) -/

/-- A tick opens (R11): time passes to the edge. -/
def openTick (s : State) : State :=
  let s := changeLength s
  let s := closeTick (s.advanceTo s.cell.nextEdge)
  let e := s.cell.nextEdge
  { s with
    cell := { s.cell with tick := e / s.tickLen, edge := e, nextEdge := e + s.tickLen, assembling := false, sealed := false, guard := false }
    pair := { s.pair with switchAt := none }
    fab := { s.fab with prevEpoch := s.fab.thisEpoch } }

/-- The general I/O pins at the seal (R175, R178): the levels and raw edges found, and the windows of the chatter count, whose length is that
of the lowest axis that names the pin. -/
def sealPins (found : List (Nat × Bool × Nat)) (s : State) : State :=
  (List.range 128).foldl (fun s p =>
    let g := s.gpio p
    let (l, e) := match found.find? (fun f => f.1 == p) with
      | some f => (f.2.1, min 255 f.2.2)
      | none => (g.level, 0)
    let w := match s.motion.axes.find? (fun q => [q.2.swHome.pin, q.2.swNeg.pin, q.2.swPos.pin].contains p) with
      | some q => q.2.chatW
      | none => 1600
    let fresh := s.cell.tick % max 1 w = 0
    s.setGpio p { g with level := l, snap := l, edges := e, sum := if fresh then e else g.sum + e
                         quiet := g.faulty && (g.quiet || (fresh && g.sum == 0)) }) s

/-- A converter's results enter the snapshot (R168). -/
def Adc.seal (tick : Nat) (d : Adc) : Adc :=
  { d with codes := d.next.foldl (fun t p => Table.set 0 t p.1 (p.2 - 1)) d.codes, valid := d.next.foldl (fun m p => setBit m p.1) 0
           tickLsb := tick % 256, next := [] }

/-- INPUT_SEAL (R16): cyclic inputs stamped before the edge, pins, captures and converter codes are frozen into the tick snapshot; switches
are filtered, unless this device takes them from the other device of its pair (R277). -/
def inputSeal (found : List (Nat × Bool × Nat)) (s : State) : State :=
  let edge := s.cell.edge
  let s := (List.range 16).foldl (fun s e => s.updLathe e (fun l => { l with
    slots := (List.range 128).foldl (fun t k => if (s.inSlot e k).isSome then Table.upd {} t k (InSlot.seal edge) else t) l.slots, telemTick := 0 })) s
  let s := (List.range 4).foldl (fun s c => s.updAdc c (Adc.seal s.cell.tick)) s
  let s := sealPins found (sealCaptures edge s)
  let s := if s.takesFwd then s else runSwitches s
  phaseEvents 0 s

/-! ### Fabric changes and roles at an edge (R13, R253, R287, R293, R511, R516, R518, R529, R542, R559) -/

/-- A fabric-wide change applies. -/
def applyChange (s : State) (c : CellCfg) : State :=
  match c with
  | .tick sel gtc => { s with cell := { s.cell with change := some (sel, gtc) } }
  | .zone k z => s.setZone k z
  | .map l => keepMap { s with fab := { s.fab with map := l } }
  | .sched t => keepFabric { s with fab := { s.fab with sched := t } }
  | .sleep nodes => { s with fab := { s.fab with sleep := { s.fab.sleep with nodes := nodes } } }
  | .takeover n d => (adoptClaims n d (advanceEpoch 1 s)).updFabNode d (fun m => { m with role := 1 })

/-- An announcement applies (R518). Whether a new member may start the fabric no record tells: free (log entry 64). -/
def applyAnn (s : State) (d : Nat) : State :=
  let m := s.fabNode d
  match m.ann with
  | none => s
  | some (uid, role, rings, a, b) =>
    let s := s.setFabNode d { m with member := true, uid := uid, role := role, rings := rings, heard := (a, b), ann := none }
    if m.member then s
    else
      let (k, s) := s.freeBelow 2
      { s with fab := { s.fab with joins := wrap 32 (s.fab.joins + 1), coldOk := if k = 1 then (s.fab.coldOk ++ [d]).eraseDups else s.fab.coldOk } }

/-- A member leaves at this edge (R529). -/
def applyLeave (s : State) (d : Nat) : State :=
  if d = s.cell.node then (leaveFabric s).completeCmd 0x0903 (fun _ => true) {}
  else
    let s := removeMember d s
    { s with fab := { s.fab with leaves := wrap 32 (s.fab.leaves + 1) } }

/-- A sleeping member's slots are restored (R559); this device takes back its role, unless it is stale (R295). -/
def applyRestore (s : State) (d : Nat) : State :=
  let s := s.updFabNode d (fun m => { m with asleep := none, restoreAt := none })
  if d = s.cell.node ∧ !s.fab.stale then takeRole s.fab.sleep.oldRole s else s

/-- A ring changes state (R511, R518): a journal record, whose TYPE the spec does not state, and an announcement. -/
def judgeRing (s : State) (r : Nat) : State :=
  let n := s.ringNow r
  let k := s.fabRing r
  let s := s.setFabRing r { k with state := n.1, east := n.2.1, west := n.2.2, latch := (k.cycleRx.1, k.cycleRx.2.1, k.cycleRx.2.2, k.sentAt)
                                   cycleRx := (0, 0, 0), sampled := false }
  if n.1 = k.state then s
  else
    let (t, s) := s.freeBelow 65536
    announce (s.record 0 t (toLE 1 r ++ toLE 1 k.state ++ toLE 1 n.1 ++ toLE 1 n.2.1 ++ toLE 1 n.2.2))

/-- A listener becomes a member (R528, R544): a slot is its own, and TB0 is locked. -/
def listenerJoins (s : State) : State :=
  let ready := s.cell.role == 3 && s.pair.role != 3 && !s.fab.stale && s.inFabric && (s.base 0).locked && s.fab.sched.slots.any (fun x => x.owner == s.cell.node)
  if ready then takeRole 1 s else s

/-- The numbers of the nodes that meet a condition. -/
def State.nodesWhere (s : State) (p : FabMember → Bool) : List Nat := (s.fab.nodes.filter (fun q => p q.2)).map Prod.fst

/-- Role changes and the epoch at an edge (R649, step 4); `roles` counts the role changes of other devices at this edge that no record of this
device's tells (R293). -/
def fabricEdge (roles : Nat) (s : State) : State :=
  let due := s.fab.changes.filter (fun c => decide (c.1 ≤ s.cell.tick))
  let s := { s with fab := { s.fab with changes := s.fab.changes.filter (fun c => !decide (c.1 ≤ s.cell.tick)) } }
  let s := (due.map Prod.snd).foldl applyChange (advanceEpoch roles s)
  let past (o : Option Nat) : Bool := (o.map (fun t => decide (t ≤ s.cell.tick))).getD false
  let s := (s.nodesWhere (fun m => past m.leaveAt)).foldl applyLeave s
  let s := (s.nodesWhere (fun m => m.ann.isSome)).foldl applyAnn s
  let s := (s.nodesWhere (fun m => past m.restoreAt)).foldl applyRestore s
  let s := [0, 1].foldl judgeRing s
  let f := s.fab.sleep
  let beyond := f.state == 3 && decide (f.pnr ≤ s.cell.tick)
  let s := (s.nodesWhere (fun m => m.mbxNow != 0)).foldl (fun s d => s.updFabNode d (fun m => { m with mbxNow := 0 })) s
  releaseWaiters (listenerJoins { s with fab := { s.fab with
    active := s.inFabric && s.fab.mine == 3 && s.activeBridge == s.cell.node, present := 0
    sleep := if beyond then { f with state := 0, nodes := [] } else f } })

/-! ### Commit passes (R17, R23, R337, R345) -/

/-- A command among others by its acceptance GTC, after those of the same (R23). -/
def insertCmd (c : HostCmd) : List HostCmd → List HostCmd
  | [] => [c]
  | d :: t => if c.acceptGtc < d.acceptGtc then c :: d :: t else d :: insertCmd c t

/-- The commands due at this edge in the order of R23. -/
def State.dueCmds (s : State) : List HostCmd :=
  (s.host.cmds.filter (fun c => (c.stage == .waiting || c.stage == .held) && decide (c.commitAt ≤ s.cell.edge))).foldl (fun l c => insertCmd c l) []

/-- A command over the 64 of a first pass rolls to the next edge (R17). -/
def rollCmd (c : HostCmd) (s : State) : State :=
  let s := countRoll c.hdr.port s
  if c.hdr.atTick ∧ c.hdr.strict then s.swapCmd c (c.refuse St.tickMissed 0 true)
  else s.swapCmd c { c with stage := .waiting, commitAt := s.cell.nextEdge, slipped := c.slipped || c.hdr.atTick }

/-- The members of a commit in one of the passes. -/
def State.passMembers (s : State) (c : HostCmd) (first : Bool) : List (Hdr × Nat × List Byte) :=
  (s.membersOf c.hdr.port (uAt c.args 0 2)).filter (fun m => firstPass m.2.1 == first)

/-- A first pass under way: the state, how many commands it may still apply, and the commits it has begun or found to fail (with their
replies). -/
structure FirstPass where
  s : State
  left : Nat := 64
  begun : List HostCmd := []
  failed : List (HostCmd × Reply) := []
deriving DecidableEq, Repr

/-- One due command in the first pass (R17, R345). -/
def stepFirst (x : FirstPass) (c : HostCmd) : FirstPass :=
  if c.code = 0x0205 then
    if x.failed.any (fun f => f.1 == c) then x
    else
      let ms := x.s.passMembers c true
      let r := (runCellTxnCommit c.hdr c.args x.s).2
      if 0x0200 ≤ r.status then { x with failed := x.failed ++ [(c, r)] }
      else if x.left < ms.length then { x with s := rollCmd c x.s }
      else { x with s := (applyMembers ms x.s).1, left := x.left - ms.length, begun := x.begun ++ [c] }
  else if firstPass c.code then
    if x.left = 0 then { x with s := rollCmd c x.s } else { x with s := commitOne x.s.cell.tick c x.s, left := x.left - 1 }
  else x

/-- A second pass under way: the state, and a commit whose members failed in it. -/
structure SecondPass where
  s : State
  broken : Option (HostCmd × Reply) := none
deriving DecidableEq, Repr

/-- A reading command's reply is formed on the state before the edge's work (R337). -/
def readOne (pre : State) (c : HostCmd) (s : State) : State :=
  match runHost c.code with
  | some f =>
    let r := f c.hdr c.args { pre with freeCount := s.freeCount }
    ({ s with freeCount := r.1.freeCount }).swapCmd c (c.answered r.2 s.cell.tick)
  | none => s

/-- One due command in the second pass. -/
def stepSecond (pre : State) (begun : List HostCmd) (failed : List (HostCmd × Reply)) (x : SecondPass) (c : HostCmd) : SecondPass :=
  if x.broken.isSome ∨ !x.s.host.cmds.contains c then x
  else if c.code = 0x0205 then
    match failed.find? (fun f => f.1 == c) with
    | some f =>
      let s := if f.2.status = St.txnFailed then x.s.closeTxn (uAt c.args 0 2) else x.s
      { x with s := s.swapCmd c (c.answered f.2 s.cell.tick) }
    | none =>
      if !begun.contains c then x
      else
        let id := uAt c.args 0 2
        let r := applyMembers (x.s.passMembers c false) x.s
        match r.2 with
        | some f => { x with broken := some (c, (txnFailure id f x.s).2) }
        | none => { x with s := (r.1.closeTxn id).swapCmd c (c.answered {} x.s.cell.tick) }
  else if firstPass c.code then x
  else if readsState c.code then { x with s := readOne pre c x.s }
  else { x with s := commitOne x.s.cell.tick c x.s }

/-- Both passes. When a transaction fails on what the other commands of the edge have made of the state, the passes are made again without it,
so that none of its members takes effect (R345). -/
def commitPasses (pre : State) : Nat → List (HostCmd × Reply) → State → State
  | 0, _, s => s
  | n + 1, bad, s =>
    let cs := s.dueCmds
    let a := cs.foldl stepFirst { s := s, failed := bad }
    let b := cs.foldl (stepSecond pre a.begun a.failed) { s := a.s }
    match b.broken with
    | some f => commitPasses pre n (bad ++ [f]) s
    | none => b.s

/-! ### The rest of an edge -/

/-- Master data of published entries for followers on other devices (R123): up to 8 entries of an axis in a tick. -/
def sendMaster (s : State) (a : Nat) : State :=
  let q := (s.axis a).queue
  let dst := Config.followedBy a
  if dst = 0 ∨ s.isShadow ∨ !s.inFabric then s
  else
    let from_ := max q.k (Table.get 0 s.fab.masterSent a)
    let es := ((q.published.drop (from_ - q.k)).take 8)
    let s := es.foldl (fun s e => s.tell (some (dst - 1)) (.master a e.stamp e.pos e.flags)) s
    { s with fab := { s.fab with masterSent := Table.set 0 s.fab.masterSent a (from_ + es.length) } }

/-- REV_POINT and OVERSHOOT stand until the arrival (R94), and the bar of R97 until the axis is back inside its soft limits. -/
def closeMoves (s : State) (a : Nat) : State :=
  let x := s.axis a
  let m := s.gen (s.ownerOf a)
  let turning := m.reversal || m.tracks.any (fun t => t.axis == a && t.rev) || x.queue.entries.any (fun e => bitAt e.flags 2)
  let p := s.planPos a
  let inside := decide (x.lim.softMin ≤ p) && decide (p ≤ x.lim.softMax) && x.still
  s.setAxis a { x with revPoint := if turning then x.revPoint else 0, overshoot := if turning then x.overshoot else 0
                       limitActive := x.limitActive && !inside }

/-- The axes at the end of an edge: what is due in the tick, and axes whose loop record lost a word (R49, R584). -/
def readyAxes (s : State) : State :=
  let axes := s.motion.axes.map Prod.fst
  let s := axes.foldl (fun s a => closeMoves (s.updAxis a (fun x => { x with due := x.dueAt s.cell.tick })) a) s
  let bad := s.wnw.badLoop.filter (fun a => (s.axis a).mode != 0)
  bad.foldl (fun s a => s.axisFault a St.stateCheck) { s with wnw := { s.wnw with badLoop := [] } }

/-- Background work that takes effect at an edge (R583, R586, R587). -/
def backgroundEdge (s : State) : State :=
  let s := [0, 1, 2, 3].foldl stepCalib s
  let s := loadTaps s
  [0, 1, 2, 3, 4, 5].foldl (fun s m => closeSecond m s) s

/-- The work of an edge in the order of R649, from the shadow's repair (R282) to the passes of the Mandrels (R119). `found` are the pins whose
level or edges changed in the tick, `roles` the role changes of other devices. -/
def edgeWork (found : List (Nat × Bool × Nat)) (roles : Nat) (pre : State) : State :=
  let s := if 2 ≤ pre.pair.role ∧ pre.pair.slice.isNone then sliceLate pre else applySlice pre
  let s := arbitrate (inputSeal found s)
  let s := fabricEdge roles (stoFaults (clearanceEdge s))
  let s := commitPasses pre (s.dueCmds.length + 1) [] s
  let s := (s.motion.axes.map Prod.fst).foldl (fun s a => ddEdge a s) s
  let s := mandrelPass (mandrelClaims s)
  (s.motion.axes.map Prod.fst).foldl sendMaster s

/-- What an edge leaves to the tick: due axes, background changes, CYCLE frames, engine blocks, credits, retained configuration and lost
blocks. -/
def edgeEnd (s : State) : State :=
  let s := backgroundEdge (readyAxes s)
  let s := { s with motion := { s.motion with tillers := mapTable {} (fun t => { t with tripped := false, late := 0 }) s.motion.tillers } }
  let s := (List.range 16).foldl (fun s e => syncEnv e s) (sendCycles s)
  let s := postCredits 5 (postCredits 4 (dropSilent s))
  let s := if s.cell.ready then keepConfig s else s
  moveSpare (markBlocks s)

/-- TICK_EDGE: compare unit 0 of TB0 reaches the next tick edge and a tick opens (R15, R495, R649). A device held in reset opens none. -/
def execTickEdge (gpio : List (Nat × Bool × Nat)) (roles : Nat) (s : State) : Result :=
  .next (if s.power.inReset then s else edgeEnd (edgeWork gpio roles (openTick s)))

/-! ### The output seal -/

/-- The last 32 consumed entries of every monitored joint (R217). -/
def noteConsumed (s : State) : State :=
  let axes := s.block.arms.flatMap (fun a => a.joints.map (fun j => j.axis))
  axes.foldl (fun s a =>
    match (s.axis a).queue.last with
    | some e =>
      if e.stamp = wrap 32 s.cell.tick then
        let l := Table.get [] s.glume.consumed a ++ [(s.cell.tick, e.pos)]
        { s with glume := { s.glume with consumed := Table.set [] s.glume.consumed a (l.drop (l.length - 32)) } }
      else s
    | none => s) s

/-- Smallest C - K and S - K over moving axes (R43). -/
def noteMarks (s : State) : State :=
  let qs := (s.motion.axes.filter (fun p => p.2.mode != 0 && !p.2.still)).map (fun p => p.2.queue)
  let r := s.cell.load
  { s with cell := { s.cell with load := { r with
      clearedMin := (qs.map (fun q => q.c - q.k)).foldl min r.clearedMin, queuedMin := (qs.map (fun q => q.s - q.k)).foldl min r.queuedMin } } }

/-- The axis trace of the telemetry stream (R592): each traced axis at its due ticks. -/
def traceAxes (s : State) : State :=
  (s.wnw.stream.trace.filter (fun a => (s.dueAxes s.cell.tick).contains a)).foldl (fun s a =>
    let r := (s.axis a).loop
    s.stream 4 5 s.gtc (toLE 8 s.cell.tick ++ toLEs 8 r.fbPos ++ toLEs 8 r.outPos ++ toLEs 4 r.outTorque ++ toLE 2 r.outFlags ++ [0, 0])) s

/-- OUTPUT_SEAL: output records are sealed, unfinished updates become overruns and consumption credits return (R153); digests are formed (R280)
and the Lathes enter phase 1 (R365). -/
def execOutputSeal (s : State) : Result :=
  .next (phaseEvents 1 (sealDigests (traceAxes (noteMarks (noteConsumed (outputSeal s))))))

end Sys2Proof.Machine
end

