-- ==== Sys2Proof/Machine/Dispatch.lean ====
section
/-! DEFINITION. One arm per command: each a direct call of its meaning. -/

namespace Sys2Proof.Machine

/-- The effect of a command on everything but the queue. -/
def exec (i : Instr) (s : State) : Host.Outcome State Fault Refusal :=
  match i with
  | .tickEdge gpio roles => Sys2Proof.Machine.execTickEdge gpio roles s
  | .tickLengthChange => Sys2Proof.Machine.execTickLengthChange s
  | .claimHoldover n => Sys2Proof.Machine.execClaimHoldover n s
  | .claimRevoke node => Sys2Proof.Machine.execClaimRevoke node s
  | .tillerUpdate a entryBad recordBad ecc => Sys2Proof.Machine.execTillerUpdate a entryBad recordBad ecc s
  | .tillerWatchdog n => Sys2Proof.Machine.execTillerWatchdog n s
  | .outputAssembly => Sys2Proof.Machine.execOutputAssembly s
  | .outputSeal => Sys2Proof.Machine.execOutputSeal s
  | .guardBandStart => Sys2Proof.Machine.execGuardBandStart s
  | .proposalLatch u => Sys2Proof.Machine.execProposalLatch u s
  | .glumeChannelResult u r => Sys2Proof.Machine.execGlumeChannelResult u r s
  | .glumeDeadlineMiss u => Sys2Proof.Machine.execGlumeDeadlineMiss u s
  | .safetyTelegramReceive octets stamp => Sys2Proof.Machine.execSafetyTelegramReceive octets stamp s
  | .sourceTimeout k => Sys2Proof.Machine.execSourceTimeout k s
  | .safeInputSample a b => Sys2Proof.Machine.execSafeInputSample a b s
  | .discrepancyTimeout pair => Sys2Proof.Machine.execDiscrepancyTimeout pair s
  | .testPulse k seenA seenB => Sys2Proof.Machine.execTestPulse k seenA seenB s
  | .outputTestPulse pair okHigh okLow short => Sys2Proof.Machine.execOutputTestPulse pair okHigh okLow short s
  | .stop1Timeout u => Sys2Proof.Machine.execStop1Timeout u s
  | .glumeClockFault => Sys2Proof.Machine.execGlumeClockFault s
  | .glumeSelfTest ok => Sys2Proof.Machine.execGlumeSelfTest ok s
  | .tickAbsence => Sys2Proof.Machine.execTickAbsence s
  | .pendingBlockExpiry => Sys2Proof.Machine.execPendingBlockExpiry s
  | .commandAcceptance => Sys2Proof.Machine.execCommandAcceptance s
  | .eventCreditGrant p => Sys2Proof.Machine.execEventCreditGrant p s
  | .bankHandover p => Sys2Proof.Machine.execBankHandover p s
  | .bankReturn b => Sys2Proof.Machine.execBankReturn b s
  | .responsePost p => Sys2Proof.Machine.execResponsePost p s
  | .eventPost p => Sys2Proof.Machine.execEventPost p s
  | .shadowAckReceive xfer => Sys2Proof.Machine.execShadowAckReceive xfer s
  | .heldCommandCommit p tag => Sys2Proof.Machine.execHeldCommandCommit p tag s
  | .txnExpiry id => Sys2Proof.Machine.execTxnExpiry id s
  | .deferredReset => Sys2Proof.Machine.execDeferredReset s
  | .sysIdentify h a => Sys2Proof.Machine.execSysIdentify h a s
  | .sysHostSetup h a => Sys2Proof.Machine.execSysHostSetup h a s
  | .sysStatus h a => Sys2Proof.Machine.execSysStatus h a s
  | .sysCancel h a => Sys2Proof.Machine.execSysCancel h a s
  | .sysEventMask h a => Sys2Proof.Machine.execSysEventMask h a s
  | .sysReset h a => Sys2Proof.Machine.execSysReset h a s
  | .cellSetTick h a => Sys2Proof.Machine.execCellSetTick h a s
  | .cellSetState h a => Sys2Proof.Machine.execCellSetState h a s
  | .cellStatus h a => Sys2Proof.Machine.execCellStatus h a s
  | .cellTxnBegin h a => Sys2Proof.Machine.execCellTxnBegin h a s
  | .cellTxnCommit h a => Sys2Proof.Machine.execCellTxnCommit h a s
  | .cellTxnAbort h a => Sys2Proof.Machine.execCellTxnAbort h a s
  | .armDefine h a => Sys2Proof.Machine.execArmDefine h a s
  | .armSetDynamics h a => Sys2Proof.Machine.execArmSetDynamics h a s
  | .armSetPayload h a => Sys2Proof.Machine.execArmSetPayload h a s
  | .armSetLimits h a => Sys2Proof.Machine.execArmSetLimits h a s
  | .armSetIk h a => Sys2Proof.Machine.execArmSetIk h a s
  | .armSetTool h a => Sys2Proof.Machine.execArmSetTool h a s
  | .armSetFrame h a => Sys2Proof.Machine.execArmSetFrame h a s
  | .armSetClaim h a => Sys2Proof.Machine.execArmSetClaim h a s
  | .armSetMode h a => Sys2Proof.Machine.execArmSetMode h a s
  | .armMoveJoint h a => Sys2Proof.Machine.execArmMoveJoint h a s
  | .armMoveCart h a => Sys2Proof.Machine.execArmMoveCart h a s
  | .armMoveArc h a => Sys2Proof.Machine.execArmMoveArc h a s
  | .armHold h a => Sys2Proof.Machine.execArmHold h a s
  | .armResume h a => Sys2Proof.Machine.execArmResume h a s
  | .armStop h a => Sys2Proof.Machine.execArmStop h a s
  | .armJog h a => Sys2Proof.Machine.execArmJog h a s
  | .armStatus h a => Sys2Proof.Machine.execArmStatus h a s
  | .axisBind h a => Sys2Proof.Machine.execAxisBind h a s
  | .axisConfig h a => Sys2Proof.Machine.execAxisConfig h a s
  | .axisSetLimits h a => Sys2Proof.Machine.execAxisSetLimits h a s
  | .axisSetLoop h a => Sys2Proof.Machine.execAxisSetLoop h a s
  | .axisSetNotch h a => Sys2Proof.Machine.execAxisSetNotch h a s
  | .axisSetMode h a => Sys2Proof.Machine.execAxisSetMode h a s
  | .axisMove h a => Sys2Proof.Machine.execAxisMove h a s
  | .axisMoveVel h a => Sys2Proof.Machine.execAxisMoveVel h a s
  | .axisHold h a => Sys2Proof.Machine.execAxisHold h a s
  | .axisResume h a => Sys2Proof.Machine.execAxisResume h a s
  | .axisStop h a => Sys2Proof.Machine.execAxisStop h a s
  | .axisGear h a => Sys2Proof.Machine.execAxisGear h a s
  | .axisCamTable h a => Sys2Proof.Machine.execAxisCamTable h a s
  | .axisCam h a => Sys2Proof.Machine.execAxisCam h a s
  | .axisHome h a => Sys2Proof.Machine.execAxisHome h a s
  | .axisJog h a => Sys2Proof.Machine.execAxisJog h a s
  | .axisSwitchConfig h a => Sys2Proof.Machine.execAxisSwitchConfig h a s
  | .axisSwitchClear h a => Sys2Proof.Machine.execAxisSwitchClear h a s
  | .axisDdConfig h a => Sys2Proof.Machine.execAxisDdConfig h a s
  | .axisDdPwm h a => Sys2Proof.Machine.execAxisDdPwm h a s
  | .axisDdAlign h a => Sys2Proof.Machine.execAxisDdAlign h a s
  | .axisStatus h a => Sys2Proof.Machine.execAxisStatus h a s
  | .safeLoad h a => Sys2Proof.Machine.execSafeLoad h a s
  | .safeConfirm h a => Sys2Proof.Machine.execSafeConfirm h a s
  | .safeStatus h a => Sys2Proof.Machine.execSafeStatus h a s
  | .safeCounters h a => Sys2Proof.Machine.execSafeCounters h a s
  | .zoneDefine h a => Sys2Proof.Machine.execZoneDefine h a s
  | .zoneUnblock h a => Sys2Proof.Machine.execZoneUnblock h a s
  | .zoneStatus h a => Sys2Proof.Machine.execZoneStatus h a s
  | .zoneCounters h a => Sys2Proof.Machine.execZoneCounters h a s
  | .jrnlRead h a => Sys2Proof.Machine.execJrnlRead h a s
  | .jrnlMark h a => Sys2Proof.Machine.execJrnlMark h a s
  | .jrnlCommit h a => Sys2Proof.Machine.execJrnlCommit h a s
  | .jrnlStatus h a => Sys2Proof.Machine.execJrnlStatus h a s
  | .diagTickLoad h a => Sys2Proof.Machine.execDiagTickLoad h a s
  | .diagAxisLoop h a => Sys2Proof.Machine.execDiagAxisLoop h a s
  | .diagAxisCounters h a => Sys2Proof.Machine.execDiagAxisCounters h a s
  | .diagTiller h a => Sys2Proof.Machine.execDiagTiller h a s
  | .diagBlocks h a => Sys2Proof.Machine.execDiagBlocks h a s
  | .diagTelemetry h a => Sys2Proof.Machine.execDiagTelemetry h a s
  | .netPortConfig h a => Sys2Proof.Machine.execNetPortConfig h a s
  | .netDefine h a => Sys2Proof.Machine.execNetDefine h a s
  | .netStart h a => Sys2Proof.Machine.execNetStart h a s
  | .netStop h a => Sys2Proof.Machine.execNetStop h a s
  | .netStatus h a => Sys2Proof.Machine.execNetStatus h a s
  | .netSnapshot h a => Sys2Proof.Machine.execNetSnapshot h a s
  | .netStats h a => Sys2Proof.Machine.execNetStats h a s
  | .netAcyclic h a => Sys2Proof.Machine.execNetAcyclic h a s
  | .netMirror h a => Sys2Proof.Machine.execNetMirror h a s
  | .netSchedule h a => Sys2Proof.Machine.execNetSchedule h a s
  | .netCanConfig h a => Sys2Proof.Machine.execNetCanConfig h a s
  | .latheStore h a => Sys2Proof.Machine.execLatheStore h a s
  | .latheLoad h a => Sys2Proof.Machine.execLatheLoad h a s
  | .latheSwap h a => Sys2Proof.Machine.execLatheSwap h a s
  | .latheStatus h a => Sys2Proof.Machine.execLatheStatus h a s
  | .latheCounters h a => Sys2Proof.Machine.execLatheCounters h a s
  | .latheTelemetry h a => Sys2Proof.Machine.execLatheTelemetry h a s
  | .latheEnrollKey h a => Sys2Proof.Machine.execLatheEnrollKey h a s
  | .fabSetKey h a => Sys2Proof.Machine.execFabSetKey h a s
  | .fabJoin h a => Sys2Proof.Machine.execFabJoin h a s
  | .fabLeave h a => Sys2Proof.Machine.execFabLeave h a s
  | .fabSchedule h a => Sys2Proof.Machine.execFabSchedule h a s
  | .fabStatus h a => Sys2Proof.Machine.execFabStatus h a s
  | .fabAssignShadow h a => Sys2Proof.Machine.execFabAssignShadow h a s
  | .fabReleaseShadow h a => Sys2Proof.Machine.execFabReleaseShadow h a s
  | .fabSwitchover h a => Sys2Proof.Machine.execFabSwitchover h a s
  | .fabSetReplLevel h a => Sys2Proof.Machine.execFabSetReplLevel h a s
  | .fabPairStatus h a => Sys2Proof.Machine.execFabPairStatus h a s
  | .fabSleep h a => Sys2Proof.Machine.execFabSleep h a s
  | .fabWake h a => Sys2Proof.Machine.execFabWake h a s
  | .timeConfig h a => Sys2Proof.Machine.execTimeConfig h a s
  | .timeStatus h a => Sys2Proof.Machine.execTimeStatus h a s
  | .timeCompare h a => Sys2Proof.Machine.execTimeCompare h a s
  | .timeCapture h a => Sys2Proof.Machine.execTimeCapture h a s
  | .timeSet h a => Sys2Proof.Machine.execTimeSet h a s
  | .fwLoad h a => Sys2Proof.Machine.execFwLoad h a s
  | .fwActivate h a => Sys2Proof.Machine.execFwActivate h a s
  | .fwStatus h a => Sys2Proof.Machine.execFwStatus h a s
  | .longCommandComplete p tag detail data => Sys2Proof.Machine.execLongCommandComplete p tag detail data s
  | .switchChatter pin sum => Sys2Proof.Machine.execSwitchChatter pin sum s
  | .homingShift a => Sys2Proof.Machine.execHomingShift a s
  | .homeNotFound a => Sys2Proof.Machine.execHomeNotFound a s
  | .homeNoIndex a => Sys2Proof.Machine.execHomeNoIndex a s
  | .jogTimeout a => Sys2Proof.Machine.execJogTimeout a s
  | .brakeOpenWait a => Sys2Proof.Machine.execBrakeOpenWait a s
  | .brakeCloseWait a => Sys2Proof.Machine.execBrakeCloseWait a s
  | .ddAlignComplete a => Sys2Proof.Machine.execDdAlignComplete a s
  | .conversionComplete c imm code => Sys2Proof.Machine.execConversionComplete c imm code s
  | .mbxDataWrite m ch w => Sys2Proof.Machine.execMbxDataWrite m ch w s
  | .mbxDataRead m ch => Sys2Proof.Machine.execMbxDataRead m ch s
  | .remoteWord node ch w => Sys2Proof.Machine.execRemoteWord node ch w s
  | .receiverDomainUp m => Sys2Proof.Machine.execReceiverDomainUp m s
  | .mbxLockRead m k => Sys2Proof.Machine.execMbxLockRead m k s
  | .mbxLockWrite m k w => Sys2Proof.Machine.execMbxLockWrite m k w s
  | .mbxDbPendWrite m w => Sys2Proof.Machine.execMbxDbPendWrite m w s
  | .mbxDbEnableWrite m w => Sys2Proof.Machine.execMbxDbEnableWrite m w s
  | .mbxDbRingWrite m w => Sys2Proof.Machine.execMbxDbRingWrite m w s
  | .mbxEvcntRead m ch => Sys2Proof.Machine.execMbxEvcntRead m ch s
  | .mbxDbEvcntRead m j => Sys2Proof.Machine.execMbxDbEvcntRead m j s
  | .mbxBindWrite m ch w => Sys2Proof.Machine.execMbxBindWrite m ch w s
  | .mbxBindLockWrite m w => Sys2Proof.Machine.execMbxBindLockWrite m w s
  | .hostGtcLoRead p => Sys2Proof.Machine.execHostGtcLoRead p s
  | .hostAccessErrRead p => Sys2Proof.Machine.execHostAccessErrRead p s
  | .hostPortReset p => Sys2Proof.Machine.execHostPortReset p s
  | .hostResetEnd p => Sys2Proof.Machine.execHostResetEnd p s
  | .qspiWrite addr ws => Sys2Proof.Machine.execQspiWrite addr ws s
  | .qspiRead addr n => Sys2Proof.Machine.execQspiRead addr n s
  | .latheReceiveEntry e => Sys2Proof.Machine.execLatheReceiveEntry e s
  | .lthPostWrite e w => Sys2Proof.Machine.execLthPostWrite e w s
  | .lthTelemWrite e w => Sys2Proof.Machine.execLthTelemWrite e w s
  | .latheInitStart e => Sys2Proof.Machine.execLatheInitStart e s
  | .latheSwapExecute e => Sys2Proof.Machine.execLatheSwapExecute e s
  | .migrationEnd e => Sys2Proof.Machine.execMigrationEnd e s
  | .latheRestart e => Sys2Proof.Machine.execLatheRestart e s
  | .backgroundWatchdog e => Sys2Proof.Machine.execBackgroundWatchdog e s
  | .lthNop e p => Sys2Proof.Machine.execLthNop e p s
  | .lthEnd e p => Sys2Proof.Machine.execLthEnd e p s
  | .lthIdle e p => Sys2Proof.Machine.execLthIdle e p s
  | .lthRetx e p => Sys2Proof.Machine.execLthRetx e p s
  | .lthTrap e p b => Sys2Proof.Machine.execLthTrap e p b s
  | .lthMov e p m => Sys2Proof.Machine.execLthMov e p m s
  | .lthMovi e p m imm => Sys2Proof.Machine.execLthMovi e p m imm s
  | .lthAdd e p m => Sys2Proof.Machine.execLthAdd e p m s
  | .lthAddi e p m imm => Sys2Proof.Machine.execLthAddi e p m imm s
  | .lthAdc e p m => Sys2Proof.Machine.execLthAdc e p m s
  | .lthSub e p m => Sys2Proof.Machine.execLthSub e p m s
  | .lthSubi e p m imm => Sys2Proof.Machine.execLthSubi e p m imm s
  | .lthSbc e p m => Sys2Proof.Machine.execLthSbc e p m s
  | .lthCmp e p m => Sys2Proof.Machine.execLthCmp e p m s
  | .lthCmpi e p m imm => Sys2Proof.Machine.execLthCmpi e p m imm s
  | .lthAnd e p m => Sys2Proof.Machine.execLthAnd e p m s
  | .lthAndi e p m imm => Sys2Proof.Machine.execLthAndi e p m imm s
  | .lthOr e p m => Sys2Proof.Machine.execLthOr e p m s
  | .lthOri e p m imm => Sys2Proof.Machine.execLthOri e p m imm s
  | .lthXor e p m => Sys2Proof.Machine.execLthXor e p m s
  | .lthXori e p m imm => Sys2Proof.Machine.execLthXori e p m imm s
  | .lthTst e p m => Sys2Proof.Machine.execLthTst e p m s
  | .lthTsti e p m imm => Sys2Proof.Machine.execLthTsti e p m imm s
  | .lthShl e p m => Sys2Proof.Machine.execLthShl e p m s
  | .lthShli e p m b => Sys2Proof.Machine.execLthShli e p m b s
  | .lthShr e p m => Sys2Proof.Machine.execLthShr e p m s
  | .lthShri e p m b => Sys2Proof.Machine.execLthShri e p m b s
  | .lthSar e p m => Sys2Proof.Machine.execLthSar e p m s
  | .lthSari e p m b => Sys2Proof.Machine.execLthSari e p m b s
  | .lthRol e p m => Sys2Proof.Machine.execLthRol e p m s
  | .lthRoli e p m b => Sys2Proof.Machine.execLthRoli e p m b s
  | .lthNot e p m => Sys2Proof.Machine.execLthNot e p m s
  | .lthNeg e p m => Sys2Proof.Machine.execLthNeg e p m s
  | .lthMul e p m => Sys2Proof.Machine.execLthMul e p m s
  | .lthMuli e p m imm => Sys2Proof.Machine.execLthMuli e p m imm s
  | .lthBswap e p m => Sys2Proof.Machine.execLthBswap e p m s
  | .lthExt e p m pos wid => Sys2Proof.Machine.execLthExt e p m pos wid s
  | .lthBtst e p m b => Sys2Proof.Machine.execLthBtst e p m b s
  | .lthBset e p m b => Sys2Proof.Machine.execLthBset e p m b s
  | .lthBclr e p m b => Sys2Proof.Machine.execLthBclr e p m b s
  | .lthLd e p m a disp => Sys2Proof.Machine.execLthLd e p m a disp s
  | .lthLds e p m a disp => Sys2Proof.Machine.execLthLds e p m a disp s
  | .lthSt e p m a disp => Sys2Proof.Machine.execLthSt e p m a disp s
  | .lthLea e p m a disp => Sys2Proof.Machine.execLthLea e p m a disp s
  | .lthXchg e p m a disp => Sys2Proof.Machine.execLthXchg e p m a disp s
  | .lthCas e p m x => Sys2Proof.Machine.execLthCas e p m x s
  | .lthSti e p m a disp imm => Sys2Proof.Machine.execLthSti e p m a disp imm s
  | .lthPush e p m => Sys2Proof.Machine.execLthPush e p m s
  | .lthPop e p m => Sys2Proof.Machine.execLthPop e p m s
  | .lthBccRel8 e p cc d => Sys2Proof.Machine.execLthBccRel8 e p cc d s
  | .lthBccRel16 e p cc d => Sys2Proof.Machine.execLthBccRel16 e p cc d s
  | .lthJmp e p m => Sys2Proof.Machine.execLthJmp e p m s
  | .lthJmpa e p a => Sys2Proof.Machine.execLthJmpa e p a s
  | .lthCall e p d mask => Sys2Proof.Machine.execLthCall e p d mask s
  | .lthCallr e p m mask => Sys2Proof.Machine.execLthCallr e p m mask s
  | .lthRet e p mask => Sys2Proof.Machine.execLthRet e p mask s
  | .lthBlkCopy e p b more => Sys2Proof.Machine.execLthBlkCopy e p b more s
  | .lthBlkFill e p b m more => Sys2Proof.Machine.execLthBlkFill e p b m more s
  | .lthBlkMatch e p b more => Sys2Proof.Machine.execLthBlkMatch e p b more s
  | .lthBlkSeek e p b m more => Sys2Proof.Machine.execLthBlkSeek e p b m more s
  | .lthBlkGather e p b m => Sys2Proof.Machine.execLthBlkGather e p b m s
  | .chsPause k n => Sys2Proof.Machine.execChsPause k n s
  | .chsPins k value mask tgt => Sys2Proof.Machine.execChsPins k value mask tgt s
  | .chsEmit k n w duplex ins => Sys2Proof.Machine.execChsEmit k n w duplex ins s
  | .chsSample k n w ins => Sys2Proof.Machine.execChsSample k n w ins s
  | .chsBranch k cond w target lvl => Sys2Proof.Machine.execChsBranch k cond w target lvl s
  | .chsAwait k level src idx lvl => Sys2Proof.Machine.execChsAwait k level src idx lvl s
  | .chsAwaitTimeout k => Sys2Proof.Machine.execChsAwaitTimeout k s
  | .chsCopy k dst src op lvls => Sys2Proof.Machine.execChsCopy k dst src op lvls s
  | .chsData k fetch whole => Sys2Proof.Machine.execChsData k fetch whole s
  | .chsLoad k one value => Sys2Proof.Machine.execChsLoad k one value s
  | .chsSignal k op idx => Sys2Proof.Machine.execChsSignal k op idx s
  | .chiselFifoResume k ins => Sys2Proof.Machine.execChiselFifoResume k ins s
  | .chiselStart g mask clr => Sys2Proof.Machine.execChiselStart g mask clr s
  | .chiselClockRestart g mask => Sys2Proof.Machine.execChiselClockRestart g mask s
  | .chiselStop g mask => Sys2Proof.Machine.execChiselStop g mask s
  | .chsCtrlWrite g w => Sys2Proof.Machine.execChsCtrlWrite g w s
  | .chsStoreWrite g a w => Sys2Proof.Machine.execChsStoreWrite g a w s
  | .chsEDinWrite k w => Sys2Proof.Machine.execChsEDinWrite k w s
  | .chsEDoutRead k => Sys2Proof.Machine.execChsEDoutRead k s
  | .chsGcntRead g => Sys2Proof.Machine.execChsGcntRead g s
  | .chsECntRead k => Sys2Proof.Machine.execChsECntRead k s
  | .frameReceive p octs code frag first => Sys2Proof.Machine.execFrameReceive p octs code frag first s
  | .pauseRefresh p => Sys2Proof.Machine.execPauseRefresh p s
  | .frameTransmitStart p sent => Sys2Proof.Machine.execFrameTransmitStart p sent s
  | .frameTransmitEnd p => Sys2Proof.Machine.execFrameTransmitEnd p s
  | .txDescriptorTake e => Sys2Proof.Machine.execTxDescriptorTake e s
  | .rxRingDeliver e => Sys2Proof.Machine.execRxRingDeliver e s
  | .deadlineWithdraw p => Sys2Proof.Machine.execDeadlineWithdraw p s
  | .linkDown p => Sys2Proof.Machine.execLinkDown p s
  | .linkUp p speed full => Sys2Proof.Machine.execLinkUp p speed full s
  | .holdExpiry p => Sys2Proof.Machine.execHoldExpiry p s
  | .preemptVerify p what => Sys2Proof.Machine.execPreemptVerify p what s
  | .gateListActivate p => Sys2Proof.Machine.execGateListActivate p s
  | .gateChange p => Sys2Proof.Machine.execGateChange p s
  | .bufferAudit leaked twice freed => Sys2Proof.Machine.execBufferAudit leaked twice freed s
  | .swTxrIdxWrite e w => Sys2Proof.Machine.execSwTxrIdxWrite e w s
  | .swRxrIdxWrite e w => Sys2Proof.Machine.execSwRxrIdxWrite e w s
  | .macSnapWrite m n w => Sys2Proof.Machine.execMacSnapWrite m n w s
  | .nrwCounterRead n j => Sys2Proof.Machine.execNrwCounterRead n j s
  | .swAuditRead => Sys2Proof.Machine.execSwAuditRead s
  | .canFrameReceive n own f => Sys2Proof.Machine.execCanFrameReceive n own f s
  | .canProtocolException n => Sys2Proof.Machine.execCanProtocolException n s
  | .canIntegrationEnd n => Sys2Proof.Machine.execCanIntegrationEnd n s
  | .canTxLoad n b => Sys2Proof.Machine.execCanTxLoad n b s
  | .canTxCancel n b => Sys2Proof.Machine.execCanTxCancel n b s
  | .canTxRelease n b => Sys2Proof.Machine.execCanTxRelease n b s
  | .canBusoffRecoveryStart n => Sys2Proof.Machine.execCanBusoffRecoveryStart n s
  | .canRxFetchWrite n v => Sys2Proof.Machine.execCanRxFetchWrite n v s
  | .canTxChoice n => Sys2Proof.Machine.execCanTxChoice n s
  | .canAttemptEnd n r => Sys2Proof.Machine.execCanAttemptEnd n r s
  | .canRecoveryEnd n => Sys2Proof.Machine.execCanRecoveryEnd n s
  | .canCnt0Read n => Sys2Proof.Machine.execCanCnt0Read n s
  | .canCnt1Read n => Sys2Proof.Machine.execCanCnt1Read n s
  | .tbOfsWrite m n o => Sys2Proof.Machine.execTbOfsWrite m n o s
  | .tbNsRead m n => Sys2Proof.Machine.execTbNsRead m n s
  | .tbConvHiWrite m n w => Sys2Proof.Machine.execTbConvHiWrite m n w s
  | .holdoverTimeout n => Sys2Proof.Machine.execHoldoverTimeout n s
  | .compareMatch u => Sys2Proof.Machine.execCompareMatch u s
  | .cmpTargetWrite m u w => Sys2Proof.Machine.execCmpTargetWrite m u w s
  | .captureEdge p rising stamp => Sys2Proof.Machine.execCaptureEdge p rising stamp s
  | .capHiRead p => Sys2Proof.Machine.execCapHiRead p s
  | .tbStatusRead n => Sys2Proof.Machine.execTbStatusRead n s
  | .cmpStatusRead u => Sys2Proof.Machine.execCmpStatusRead u s
  | .capStatusRead p => Sys2Proof.Machine.execCapStatusRead p s
  | .fabricFrameReceive p f stamp => Sys2Proof.Machine.execFabricFrameReceive p f stamp s
  | .fabricLinkUp p => Sys2Proof.Machine.execFabricLinkUp p s
  | .fabricLinkDown p hiBer => Sys2Proof.Machine.execFabricLinkDown p hiBer s
  | .slotWindowOpen imm early => Sys2Proof.Machine.execSlotWindowOpen imm early s
  | .slotWindowClose imm cut => Sys2Proof.Machine.execSlotWindowClose imm cut s
  | .cycleFrameMissing => Sys2Proof.Machine.execCycleFrameMissing s
  | .cycleMasterDeparted => Sys2Proof.Machine.execCycleMasterDeparted s
  | .announceSend => Sys2Proof.Machine.execAnnounceSend s
  | .bulkSegmentReceive peer xfer ofs total len done => Sys2Proof.Machine.execBulkSegmentReceive peer xfer ofs total len done s
  | .bulkAckReceive peer xfer acked => Sys2Proof.Machine.execBulkAckReceive peer xfer acked s
  | .bulkResend peer xfer => Sys2Proof.Machine.execBulkResend peer xfer s
  | .joinJ1Receive port uid req strap kept rings far nj => Sys2Proof.Machine.execJoinJ1Receive port uid req strap kept rings far nj s
  | .joinJ2Receive uid node nm mac epoch => Sys2Proof.Machine.execJoinJ2Receive uid node nm mac epoch s
  | .joinJ3Receive uid mac => Sys2Proof.Machine.execJoinJ3Receive uid mac s
  | .joinJ4Receive uid node result => Sys2Proof.Machine.execJoinJ4Receive uid node result s
  | .joinJ1Repeat => Sys2Proof.Machine.execJoinJ1Repeat s
  | .joinTransferComplete x => Sys2Proof.Machine.execJoinTransferComplete x s
  | .coldStartTimeout => Sys2Proof.Machine.execColdStartTimeout s
  | .coldStartJudge => Sys2Proof.Machine.execColdStartJudge s
  | .coldStartBackoffEnd => Sys2Proof.Machine.execColdStartBackoffEnd s
  | .cycleStartAfterCold => Sys2Proof.Machine.execCycleStartAfterCold s
  | .forwardingSlotMiss => Sys2Proof.Machine.execForwardingSlotMiss s
  | .echoMiss => Sys2Proof.Machine.execEchoMiss s
  | .fillFrame line => Sys2Proof.Machine.execFillFrame line s
  | .takeover => Sys2Proof.Machine.execTakeover s
  | .shadowSynced => Sys2Proof.Machine.execShadowSynced s
  | .shadowSyncTimeout => Sys2Proof.Machine.execShadowSyncTimeout s
  | .sleepPointOfNoReturn => Sys2Proof.Machine.execSleepPointOfNoReturn s
  | .sleepEntry => Sys2Proof.Machine.execSleepEntry s
  | .sleepEntryComplete => Sys2Proof.Machine.execSleepEntryComplete s
  | .failsafeSleep => Sys2Proof.Machine.execFailsafeSleep s
  | .wakeRequest node reason => Sys2Proof.Machine.execWakeRequest node reason s
  | .fwakeDrive => Sys2Proof.Machine.execFwakeDrive s
  | .sleepingDeviceWake src => Sys2Proof.Machine.execSleepingDeviceWake src s
  | .falseWake => Sys2Proof.Machine.execFalseWake s
  | .poolAccess port act op ofs => Sys2Proof.Machine.execPoolAccess port act op ofs s
  | .poolOwnerWrite m b w => Sys2Proof.Machine.execPoolOwnerWrite m b w s
  | .poolHandoverComplete b => Sys2Proof.Machine.execPoolHandoverComplete b s
  | .poolEccRead b => Sys2Proof.Machine.execPoolEccRead b s
  | .chkRunWrite n fold w => Sys2Proof.Machine.execChkRunWrite n fold w s
  | .chkCntRead n => Sys2Proof.Machine.execChkCntRead n s
  | .scrubBurst mem errs => Sys2Proof.Machine.execScrubBurst mem errs s
  | .scrubLate mem => Sys2Proof.Machine.execScrubLate mem s
  | .converterCalibration c ofs gain off => Sys2Proof.Machine.execConverterCalibration c ofs gain off s
  | .pwmTuning u tap ok => Sys2Proof.Machine.execPwmTuning u tap ok s
  | .wearLevelMove sector => Sys2Proof.Machine.execWearLevelMove sector s
  | .nvRateCheck past => Sys2Proof.Machine.execNvRateCheck past s
  | .archiveCopy evict => Sys2Proof.Machine.execArchiveCopy evict s
  | .telemetryDatagram => Sys2Proof.Machine.execTelemetryDatagram s
  | .selfTestSlice b ok => Sys2Proof.Machine.execSelfTestSlice b ok s
  | .spareTestSlice ok => Sys2Proof.Machine.execSpareTestSlice ok s
  | .eyeMonitor lane ok => Sys2Proof.Machine.execEyeMonitor lane ok s
  | .loopbackTest lane ok => Sys2Proof.Machine.execLoopbackTest lane ok s
  | .temperatureSample tj => Sys2Proof.Machine.execTemperatureSample tj s
  | .powerOnReset strap => Sys2Proof.Machine.execPowerOnReset strap s
  | .rstNLow => Sys2Proof.Machine.execRstNLow s
  | .railResetThreshold rail => Sys2Proof.Machine.execRailResetThreshold rail s
  | .pfwNAssert => Sys2Proof.Machine.execPfwNAssert s
  | .railInhibitThreshold core => Sys2Proof.Machine.execRailInhibitThreshold core s
  | .inhibitRelease => Sys2Proof.Machine.execInhibitRelease s
  | .journalCommit => Sys2Proof.Machine.execJournalCommit s
  | .bootWatchdog => Sys2Proof.Machine.execBootWatchdog s
  | .bootSlotChoice => Sys2Proof.Machine.execBootSlotChoice s
  | .startupSelfTest failed pool => Sys2Proof.Machine.execStartupSelfTest failed pool s
  | .glumeStartup => Sys2Proof.Machine.execGlumeStartup s
  | .startupImageLoad locked => Sys2Proof.Machine.execStartupImageLoad locked s
  | .startupFabricJoin => Sys2Proof.Machine.execStartupFabricJoin s
  | .startupConfigRestore => Sys2Proof.Machine.execStartupConfigRestore s
  | .recoverWord ch => Sys2Proof.Machine.execRecoverWord ch s
  | .tapReset => Sys2Proof.Machine.execTapReset s
  | .tapExtest => Sys2Proof.Machine.execTapExtest s
  | .tapIdcode => Sys2Proof.Machine.execTapIdcode s
  | .tapSamplePreload preload => Sys2Proof.Machine.execTapSamplePreload preload s
  | .tapClamp => Sys2Proof.Machine.execTapClamp s
  | .tapHighz => Sys2Proof.Machine.execTapHighz s
  | .tapExtestPulse => Sys2Proof.Machine.execTapExtestPulse s
  | .tapExtestTrain => Sys2Proof.Machine.execTapExtestTrain s
  | .tapBypass => Sys2Proof.Machine.execTapBypass s
  | .tapPinControlTakeover => Sys2Proof.Machine.execTapPinControlTakeover s
  | .registerWrite m addr w => Sys2Proof.Machine.execRegisterWrite m addr w s
  | .pauseTimeExpiry p classes => Sys2Proof.Machine.execPauseTimeExpiry p classes s
  | .pllLockLoss pll => Sys2Proof.Machine.execPllLockLoss pll s
  | .awaitMatch k waited => Sys2Proof.Machine.execAwaitMatch k waited s
  | .fwakeNAssert => Sys2Proof.Machine.execFwakeNAssert s
  | .canReceiveError n kind heavy => Sys2Proof.Machine.execCanReceiveError n kind heavy s
  | .norOperationComplete dev op sector ok => Sys2Proof.Machine.execNorOperationComplete dev op sector ok s
  | .swTxrCredRead e => Sys2Proof.Machine.execSwTxrCredRead e s
  | .swRxrIdxRead e => Sys2Proof.Machine.execSwRxrIdxRead e s
  | .tsInsCfgRead n => Sys2Proof.Machine.execTsInsCfgRead n s

end Sys2Proof.Machine
end

