-- ==== Sys2Proof/WellFormed.lean ====
section
/-! DEFINITION. Which commands are well formed: every operand names a unit that the device has, or stands in the range that the
spec gives the operand. -/

namespace Sys2Proof

/-- An identity of a host port (R301): 4 is PCIe, 5 is QSPI. -/
abbrev isHostPort (p : Nat) : Prop := p = 4 ∨ p = 5

/-- A local master identity (R301): the four Sheaf cores, the host ports, the Lathes and the Winnower. -/
abbrev isMaster (m : Nat) : Prop := m < 4 ∨ isHostPort m ∨ (0x10 ≤ m ∧ m ≤ 0x20)

/-- An identity an access of the pool acts for (R564, R565): a master, or the 6-bit identity of a unit that acts for one. -/
abbrev isMasterOrUnit (m : Nat) : Prop := m < 64

/-- The operand size in octets that the prefixes of a Lathe instruction give (R384). -/
def prefixSize (p : List Byte) : Nat := if p.contains 0xE1 then 4 else if p.contains 0xE0 then 2 else 1

/-- The displacement octets that an addressing octet asks for (R386). -/
def dispOctets (a : Byte) : Nat := [0, 1, 2, 4].getD (a.toNat / 64) 0

/-- A header whose fields stand in their ranges, over an argument area of the length it states (R322, R329): the whole block is at most
32 768 octets, and the reply area has at least the 16 octets of a reply record. -/
def Hdr.wf (h : Hdr) (a : List Byte) : Bool :=
  decide (isHostPort h.port ∧ h.tag < 4096 ∧ h.bank < 64 ∧ h.slot < 1024 ∧ a.length = h.len ∧ 16 ≤ h.replyLen ∧
    32 + (h.len + 7) / 8 * 8 + h.replyLen ≤ 32768 ∧ h.target < 2 ^ 64 ∧ h.txnId < 65536)

/-- The operands of a command stand in their ranges. -/
def Instr.wf (i : Instr) : Bool :=
  match i with
  | .tickEdge _ roles => decide (roles ≤ 255)
  | .tickLengthChange => true
  | .claimHoldover n => decide (n < 16)
  | .claimRevoke node => decide (node < 256)
  | .tillerUpdate a _ _ ecc => decide (a < 512 ∧ ecc ≤ 3)
  | .tillerWatchdog n => decide (n < 9)
  | .outputAssembly => true
  | .outputSeal => true
  | .guardBandStart => true
  | .proposalLatch u => decide (u < 16)
  | .glumeChannelResult u _ => decide (u < 16)
  | .glumeDeadlineMiss u => decide (u < 32)
  | .safetyTelegramReceive _ stamp => decide (stamp < 2 ^ 64)
  | .sourceTimeout k => decide (k < 32)
  | .safeInputSample a b => decide (a < 2 ^ 32 ∧ b < 2 ^ 32)
  | .discrepancyTimeout pair => decide (pair < 32)
  | .testPulse k _ _ => decide (k < 4)
  | .outputTestPulse pair _ _ _ => decide (pair < 32)
  | .stop1Timeout u => decide (u < 32)
  | .glumeClockFault => true
  | .glumeSelfTest _ => true
  | .tickAbsence => true
  | .pendingBlockExpiry => true
  | .commandAcceptance => true
  | .eventCreditGrant p => decide (isHostPort p)
  | .bankHandover p => decide (isHostPort p)
  | .bankReturn b => decide (b < 64)
  | .responsePost p => decide (isHostPort p)
  | .eventPost p => decide (isHostPort p)
  | .shadowAckReceive _ => true
  | .heldCommandCommit p tag => decide (isHostPort p ∧ tag < 4096)
  | .txnExpiry id => decide (0 < id ∧ id < 65536)
  | .deferredReset => true
  | .sysIdentify h a => h.wf a
  | .sysHostSetup h a => h.wf a
  | .sysStatus h a => h.wf a
  | .sysCancel h a => h.wf a
  | .sysEventMask h a => h.wf a
  | .sysReset h a => h.wf a
  | .cellSetTick h a => h.wf a
  | .cellSetState h a => h.wf a
  | .cellStatus h a => h.wf a
  | .cellTxnBegin h a => h.wf a
  | .cellTxnCommit h a => h.wf a
  | .cellTxnAbort h a => h.wf a
  | .armDefine h a => h.wf a
  | .armSetDynamics h a => h.wf a
  | .armSetPayload h a => h.wf a
  | .armSetLimits h a => h.wf a
  | .armSetIk h a => h.wf a
  | .armSetTool h a => h.wf a
  | .armSetFrame h a => h.wf a
  | .armSetClaim h a => h.wf a
  | .armSetMode h a => h.wf a
  | .armMoveJoint h a => h.wf a
  | .armMoveCart h a => h.wf a
  | .armMoveArc h a => h.wf a
  | .armHold h a => h.wf a
  | .armResume h a => h.wf a
  | .armStop h a => h.wf a
  | .armJog h a => h.wf a
  | .armStatus h a => h.wf a
  | .axisBind h a => h.wf a
  | .axisConfig h a => h.wf a
  | .axisSetLimits h a => h.wf a
  | .axisSetLoop h a => h.wf a
  | .axisSetNotch h a => h.wf a
  | .axisSetMode h a => h.wf a
  | .axisMove h a => h.wf a
  | .axisMoveVel h a => h.wf a
  | .axisHold h a => h.wf a
  | .axisResume h a => h.wf a
  | .axisStop h a => h.wf a
  | .axisGear h a => h.wf a
  | .axisCamTable h a => h.wf a
  | .axisCam h a => h.wf a
  | .axisHome h a => h.wf a
  | .axisJog h a => h.wf a
  | .axisSwitchConfig h a => h.wf a
  | .axisSwitchClear h a => h.wf a
  | .axisDdConfig h a => h.wf a
  | .axisDdPwm h a => h.wf a
  | .axisDdAlign h a => h.wf a
  | .axisStatus h a => h.wf a
  | .safeLoad h a => h.wf a
  | .safeConfirm h a => h.wf a
  | .safeStatus h a => h.wf a
  | .safeCounters h a => h.wf a
  | .zoneDefine h a => h.wf a
  | .zoneUnblock h a => h.wf a
  | .zoneStatus h a => h.wf a
  | .zoneCounters h a => h.wf a
  | .jrnlRead h a => h.wf a
  | .jrnlMark h a => h.wf a
  | .jrnlCommit h a => h.wf a
  | .jrnlStatus h a => h.wf a
  | .diagTickLoad h a => h.wf a
  | .diagAxisLoop h a => h.wf a
  | .diagAxisCounters h a => h.wf a
  | .diagTiller h a => h.wf a
  | .diagBlocks h a => h.wf a
  | .diagTelemetry h a => h.wf a
  | .netPortConfig h a => h.wf a
  | .netDefine h a => h.wf a
  | .netStart h a => h.wf a
  | .netStop h a => h.wf a
  | .netStatus h a => h.wf a
  | .netSnapshot h a => h.wf a
  | .netStats h a => h.wf a
  | .netAcyclic h a => h.wf a
  | .netMirror h a => h.wf a
  | .netSchedule h a => h.wf a
  | .netCanConfig h a => h.wf a
  | .latheStore h a => h.wf a
  | .latheLoad h a => h.wf a
  | .latheSwap h a => h.wf a
  | .latheStatus h a => h.wf a
  | .latheCounters h a => h.wf a
  | .latheTelemetry h a => h.wf a
  | .latheEnrollKey h a => h.wf a
  | .fabSetKey h a => h.wf a
  | .fabJoin h a => h.wf a
  | .fabLeave h a => h.wf a
  | .fabSchedule h a => h.wf a
  | .fabStatus h a => h.wf a
  | .fabAssignShadow h a => h.wf a
  | .fabReleaseShadow h a => h.wf a
  | .fabSwitchover h a => h.wf a
  | .fabSetReplLevel h a => h.wf a
  | .fabPairStatus h a => h.wf a
  | .fabSleep h a => h.wf a
  | .fabWake h a => h.wf a
  | .timeConfig h a => h.wf a
  | .timeStatus h a => h.wf a
  | .timeCompare h a => h.wf a
  | .timeCapture h a => h.wf a
  | .timeSet h a => h.wf a
  | .fwLoad h a => h.wf a
  | .fwActivate h a => h.wf a
  | .fwStatus h a => h.wf a
  | .longCommandComplete p tag detail _ => decide (isHostPort p ∧ tag < 4096 ∧ detail < 2 ^ 32)
  | .switchChatter pin _ => decide (pin < 128)
  | .homingShift a => decide (a < 512)
  | .homeNotFound a => decide (a < 512)
  | .homeNoIndex a => decide (a < 512)
  | .jogTimeout a => decide (a < 512 ∨ (0x1000 ≤ a ∧ a < 0x1010))
  | .brakeOpenWait a => decide (a < 512)
  | .brakeCloseWait a => decide (a < 512)
  | .ddAlignComplete a => decide (a < 512)
  | .conversionComplete c i code => decide (c < 4 ∧ i < 16 ∧ code < 65536)
  | .mbxDataWrite m ch _ => decide (isMaster m ∧ ch < 64)
  | .mbxDataRead m ch => decide (isMaster m ∧ ch < 64)
  | .remoteWord node ch _ => decide (node < 256 ∧ ch < 64)
  | .receiverDomainUp m => decide (isMaster m)
  | .mbxLockRead m k => decide (isMaster m ∧ k < 16)
  | .mbxLockWrite m k _ => decide (isMaster m ∧ k < 16)
  | .mbxDbPendWrite m _ => decide (isMaster m)
  | .mbxDbEnableWrite m _ => decide (isMaster m)
  | .mbxDbRingWrite m _ => decide (isMaster m)
  | .mbxEvcntRead m ch => decide (isMaster m ∧ ch < 64)
  | .mbxDbEvcntRead m j => decide (isMaster m ∧ j < 8)
  | .mbxBindWrite m ch _ => decide (isMaster m ∧ ch < 64)
  | .mbxBindLockWrite m _ => decide (isMaster m)
  | .hostGtcLoRead p => decide (isHostPort p)
  | .hostAccessErrRead p => decide (isHostPort p)
  | .hostPortReset p => decide (isHostPort p)
  | .hostResetEnd p => decide (isHostPort p)
  | .qspiWrite addr _ => decide (addr < 2 ^ 32)
  | .qspiRead addr n => decide (addr < 2 ^ 32 ∧ n < 2 ^ 16)
  | .latheReceiveEntry e => decide (e < 16)
  | .lthPostWrite e _ => decide (e < 16)
  | .lthTelemWrite e _ => decide (e < 16)
  | .latheInitStart e => decide (e < 16)
  | .latheSwapExecute e => decide (e < 16)
  | .migrationEnd e => decide (e < 16)
  | .latheRestart e => decide (e < 16)
  | .backgroundWatchdog e => decide (e < 16)
  | .lthNop e _ => decide (e < 16)
  | .lthEnd e _ => decide (e < 16)
  | .lthIdle e _ => decide (e < 16)
  | .lthRetx e _ => decide (e < 16)
  | .lthTrap e _ _ => decide (e < 16)
  | .lthMov e _ _ => decide (e < 16)
  | .lthMovi e p _ i => decide (e < 16 ∧ i < 2 ^ (8 * prefixSize p))
  | .lthAdd e _ _ => decide (e < 16)
  | .lthAddi e p _ i => decide (e < 16 ∧ i < 2 ^ (8 * prefixSize p))
  | .lthAdc e _ _ => decide (e < 16)
  | .lthSub e _ _ => decide (e < 16)
  | .lthSubi e p _ i => decide (e < 16 ∧ i < 2 ^ (8 * prefixSize p))
  | .lthSbc e _ _ => decide (e < 16)
  | .lthCmp e _ _ => decide (e < 16)
  | .lthCmpi e p _ i => decide (e < 16 ∧ i < 2 ^ (8 * prefixSize p))
  | .lthAnd e _ _ => decide (e < 16)
  | .lthAndi e p _ i => decide (e < 16 ∧ i < 2 ^ (8 * prefixSize p))
  | .lthOr e _ _ => decide (e < 16)
  | .lthOri e p _ i => decide (e < 16 ∧ i < 2 ^ (8 * prefixSize p))
  | .lthXor e _ _ => decide (e < 16)
  | .lthXori e p _ i => decide (e < 16 ∧ i < 2 ^ (8 * prefixSize p))
  | .lthTst e _ _ => decide (e < 16)
  | .lthTsti e p _ i => decide (e < 16 ∧ i < 2 ^ (8 * prefixSize p))
  | .lthShl e _ _ => decide (e < 16)
  | .lthShli e _ _ _ => decide (e < 16)
  | .lthShr e _ _ => decide (e < 16)
  | .lthShri e _ _ _ => decide (e < 16)
  | .lthSar e _ _ => decide (e < 16)
  | .lthSari e _ _ _ => decide (e < 16)
  | .lthRol e _ _ => decide (e < 16)
  | .lthRoli e _ _ _ => decide (e < 16)
  | .lthNot e _ _ => decide (e < 16)
  | .lthNeg e _ _ => decide (e < 16)
  | .lthMul e _ _ => decide (e < 16)
  | .lthMuli e p _ i => decide (e < 16 ∧ i < 2 ^ (8 * prefixSize p))
  | .lthBswap e _ _ => decide (e < 16)
  | .lthExt e _ _ _ _ => decide (e < 16)
  | .lthBtst e _ _ _ => decide (e < 16)
  | .lthBset e _ _ _ => decide (e < 16)
  | .lthBclr e _ _ _ => decide (e < 16)
  | .lthLd e _ _ a disp => decide (e < 16 ∧ disp < 2 ^ (8 * dispOctets a))
  | .lthLds e _ _ a disp => decide (e < 16 ∧ disp < 2 ^ (8 * dispOctets a))
  | .lthSt e _ _ a disp => decide (e < 16 ∧ disp < 2 ^ (8 * dispOctets a))
  | .lthLea e _ _ a disp => decide (e < 16 ∧ disp < 2 ^ (8 * dispOctets a))
  | .lthXchg e _ _ a disp => decide (e < 16 ∧ disp < 2 ^ (8 * dispOctets a))
  | .lthCas e _ _ _ => decide (e < 16)
  | .lthSti e p _ a disp i => decide (e < 16 ∧ i < 2 ^ (8 * prefixSize p) ∧ disp < 2 ^ (8 * dispOctets a))
  | .lthPush e _ _ => decide (e < 16)
  | .lthPop e _ _ => decide (e < 16)
  | .lthBccRel8 e _ cc _ => decide (e < 16 ∧ cc < 16)
  | .lthBccRel16 e _ cc _ => decide (e < 16 ∧ cc < 16)
  | .lthJmp e _ _ => decide (e < 16)
  | .lthJmpa e _ _ => decide (e < 16)
  | .lthCall e _ _ _ => decide (e < 16)
  | .lthCallr e _ _ _ => decide (e < 16)
  | .lthRet e _ _ => decide (e < 16)
  | .lthBlkCopy e _ _ more => decide (e < 16 ∧ more < 2 ^ 32)
  | .lthBlkFill e _ _ _ more => decide (e < 16 ∧ more < 2 ^ 32)
  | .lthBlkMatch e _ _ more => decide (e < 16 ∧ more < 2 ^ 32)
  | .lthBlkSeek e _ _ _ more => decide (e < 16 ∧ more < 2 ^ 32)
  | .lthBlkGather e _ _ _ => decide (e < 16)
  | .chsPause k n => decide (k < 64 ∧ 0 < n ∧ n ≤ 2 ^ 16)
  | .chsPins k value mask tgt => decide (k < 64 ∧ value < 256 ∧ mask < 256 ∧ tgt < 4)
  | .chsEmit k n w _ _ => decide (k < 64 ∧ 0 < n ∧ n ≤ 32 ∧ w < 32)
  | .chsSample k n w _ => decide (k < 64 ∧ 0 < n ∧ n ≤ 32 ∧ w < 32)
  | .chsBranch k cond w target _ => decide (k < 64 ∧ cond < 16 ∧ w < 32 ∧ target < 32)
  | .chsAwait k _ src idx _ => decide (k < 64 ∧ src < 4 ∧ idx < 32)
  | .chsAwaitTimeout k => decide (k < 64)
  | .chsCopy k dst src op _ => decide (k < 64 ∧ dst < 8 ∧ src < 8 ∧ op < 8)
  | .chsData k _ _ => decide (k < 64)
  | .chsLoad k _ _ => decide (k < 64)
  | .chsSignal k op idx => decide (k < 64 ∧ op < 4 ∧ idx < 32)
  | .chiselFifoResume k _ => decide (k < 64)
  | .chiselStart g mask _ => decide (g < 8 ∧ mask < 256)
  | .chiselClockRestart g mask => decide (g < 8 ∧ mask < 256)
  | .chiselStop g mask => decide (g < 8 ∧ mask < 256)
  | .chsCtrlWrite g _ => decide (g < 8)
  | .chsStoreWrite g a _ => decide (g < 8 ∧ a < 24)
  | .chsEDinWrite k _ => decide (k < 64)
  | .chsEDoutRead k => decide (k < 64)
  | .chsGcntRead g => decide (g < 8)
  | .chsECntRead k => decide (k < 64)
  | .frameReceive p _ _ _ first => decide (p < 12 ∧ first < 2 ^ 64)
  | .pauseRefresh p => decide (p < 12)
  | .frameTransmitStart p _ => decide (p < 30)
  | .frameTransmitEnd p => decide (p < 12)
  | .txDescriptorTake e => decide (e < 16)
  | .rxRingDeliver e => decide (e < 16)
  | .deadlineWithdraw p => decide (p < 30)
  | .linkDown p => decide (p < 12)
  | .linkUp p _ _ => decide (p < 12)
  | .holdExpiry p => decide (p < 12)
  | .preemptVerify p _ => decide (p < 12)
  | .gateListActivate p => decide (p < 12)
  | .gateChange p => decide (p < 12)
  | .bufferAudit _ _ _ => true
  | .swTxrIdxWrite e _ => decide (e < 16)
  | .swRxrIdxWrite e _ => decide (e < 16)
  | .macSnapWrite m n _ => decide (isMaster m ∧ n < 12)
  | .nrwCounterRead n j => decide (n < 12 ∧ j < 16)
  | .swAuditRead => true
  | .canFrameReceive n _ f => decide (n < 4 ∧ f.id < 2 ^ 29 ∧ f.dlc < 16 ∧ f.data.length ≤ 64)
  | .canProtocolException n => decide (n < 4)
  | .canIntegrationEnd n => decide (n < 4)
  | .canTxLoad n b => decide (n < 4 ∧ b < 32)
  | .canTxCancel n b => decide (n < 4 ∧ b < 32)
  | .canTxRelease n b => decide (n < 4 ∧ b < 32)
  | .canBusoffRecoveryStart n => decide (n < 4)
  | .canRxFetchWrite n _ => decide (n < 4)
  | .canTxChoice n => decide (n < 4)
  | .canAttemptEnd n _ => decide (n < 4)
  | .canRecoveryEnd n => decide (n < 4)
  | .canCnt0Read n => decide (n < 4)
  | .canCnt1Read n => decide (n < 4)
  | .tbOfsWrite m n _ => decide (isMaster m ∧ n < 8)
  | .tbNsRead m n => decide (isMaster m ∧ n < 8)
  | .tbConvHiWrite m n _ => decide (isMaster m ∧ n < 8)
  | .holdoverTimeout n => decide (n < 8)
  | .compareMatch u => decide (u < 32)
  | .cmpTargetWrite m u _ => decide (isMaster m ∧ u < 32)
  | .captureEdge p _ stamp => decide (p < 8 ∧ stamp < 2 ^ 65)
  | .capHiRead p => decide (p < 8)
  | .tbStatusRead n => decide (n < 8)
  | .cmpStatusRead u => decide (u < 32)
  | .capStatusRead p => decide (p < 8)
  | .fabricFrameReceive p _ _ => decide (p < 4)
  | .fabricLinkUp p => decide (p < 4)
  | .fabricLinkDown p _ => decide (p < 4)
  | .slotWindowOpen i _ => decide (i < 1024)
  | .slotWindowClose i _ => decide (i < 1024)
  | .cycleFrameMissing => true
  | .cycleMasterDeparted => true
  | .announceSend => true
  | .bulkSegmentReceive peer _ ofs total len _ => decide (peer < 256 ∧ ofs + len ≤ total)
  | .bulkAckReceive peer _ _ => decide (peer < 256)
  | .bulkResend peer _ => decide (peer < 256)
  | .joinJ1Receive port uid _ _ _ _ _ _ => decide (port < 4 ∧ uid < 2 ^ 64)
  | .joinJ2Receive uid node _ _ _ => decide (uid < 2 ^ 64 ∧ node < 256)
  | .joinJ3Receive uid _ => decide (uid < 2 ^ 64)
  | .joinJ4Receive uid node _ => decide (uid < 2 ^ 64 ∧ node < 256)
  | .joinJ1Repeat => true
  | .joinTransferComplete _ => true
  | .coldStartTimeout => true
  | .coldStartJudge => true
  | .coldStartBackoffEnd => true
  | .cycleStartAfterCold => true
  | .forwardingSlotMiss => true
  | .echoMiss => true
  | .fillFrame line => decide (line < 16)
  | .takeover => true
  | .shadowSynced => true
  | .shadowSyncTimeout => true
  | .sleepPointOfNoReturn => true
  | .sleepEntry => true
  | .sleepEntryComplete => true
  | .failsafeSleep => true
  | .wakeRequest node reason => decide (node < 256 ∧ reason < 256)
  | .fwakeDrive => true
  | .sleepingDeviceWake src => decide (src < 4)
  | .falseWake => true
  | .poolAccess port act _ ofs => decide (port < 25 ∧ isMasterOrUnit act ∧ ofs < 2 ^ 25)
  | .poolOwnerWrite m b _ => decide (isMaster m ∧ b < 64)
  | .poolHandoverComplete b => decide (b < 64)
  | .poolEccRead b => decide (b < 64)
  | .chkRunWrite n _ _ => decide (n < 16)
  | .chkCntRead n => decide (n < 16)
  | .scrubBurst mem _ => decide (mem < 6)
  | .scrubLate mem => decide (mem < 6)
  | .converterCalibration c _ _ _ => decide (c < 4)
  | .pwmTuning u _ _ => decide (u < 24)
  | .wearLevelMove sector => decide (sector < Machine.levelled)
  | .nvRateCheck _ => true
  | .archiveCopy _ => true
  | .telemetryDatagram => true
  | .selfTestSlice b _ => decide (b < 256)
  | .spareTestSlice _ => true
  | .eyeMonitor lane _ => decide (lane < 16)
  | .loopbackTest lane _ => decide (lane < 16)
  | .temperatureSample tj => decide (-128 ≤ tj ∧ tj < 256)
  | .powerOnReset _ => true
  | .rstNLow => true
  | .railResetThreshold rail => decide (rail < 8)
  | .pfwNAssert => true
  | .railInhibitThreshold _ => true
  | .inhibitRelease => true
  | .journalCommit => true
  | .bootWatchdog => true
  | .bootSlotChoice => true
  | .startupSelfTest _ _ => true
  | .glumeStartup => true
  | .startupImageLoad _ => true
  | .startupFabricJoin => true
  | .startupConfigRestore => true
  | .recoverWord ch => decide (ch < 64)
  | .tapReset => true
  | .tapExtest => true
  | .tapIdcode => true
  | .tapSamplePreload _ => true
  | .tapClamp => true
  | .tapHighz => true
  | .tapExtestPulse => true
  | .tapExtestTrain => true
  | .tapBypass => true
  | .tapPinControlTakeover => true
  | .registerWrite m addr _ => decide (isMaster m ∧ addr < 2 ^ 32)
  | .pauseTimeExpiry p classes => decide (p < 12 ∧ classes < 256)
  | .pllLockLoss pll => decide (pll < 3)
  | .awaitMatch k _ => decide (k < 64)
  | .fwakeNAssert => true
  | .canReceiveError n kind _ => decide (n < 4 ∧ kind < 8)
  | .norOperationComplete dev _ _ _ => decide (dev < 2)
  | .swTxrCredRead e => decide (e < 16)
  | .swRxrIdxRead e => decide (e < 16)
  | .tsInsCfgRead n => decide (n < 16)

end Sys2Proof
end

