-- ==== Sys2Proof/Safety.lean ====
section
/-! DEFINITION. The words the claims are stated in: how a command completes, which parts of the state it may touch, and what
holds of every state that a run reaches. -/

namespace Sys2Proof.Machine

/-- The parts of the state that a frame speaks of: one per field of `State`, and some that the spec protects by rules of their own. -/
inductive Part where
  | time | cell | power | tap | kept | keptAt | jrnl | host | mbx | pool | chk | lathes | images | ctxs | custKey | chisels | cans | macs
  | switch | wnw | motion | claim | glume | fab | pair | nets | rd | out | freeCount | pending
  /-- the octets of the bank pool (R563) -/
  | poolMem
  /-- the cell state (R636) -/
  | cellState
  /-- the tick grid: tick length, next edge and announced change (R11, R14) -/
  | grid
  /-- the epoch (R293) -/
  | epoch
  /-- unique ID, silicon revision, grade and firmware release (R1) -/
  | ident
  /-- the active safety block (R246) -/
  | block
  /-- the hardware cut of every safe output (R198) -/
  | cut
  /-- the fused minimum security version (R626) -/
  | minSecVer
  /-- the lock of the mailbox bindings (R302) -/
  | bindLocked
  /-- the retained records (R621) -/
  | retained
  /-- the canonical form of the pool's contents: kept where it held -/
  | memForm
  /-- the fused minimum security version as a bound: it does not fall (R626) -/
  | secFloor
deriving DecidableEq, Repr

/-- Every part. -/
def Part.all : List Part :=
  [.time, .cell, .power, .tap, .kept, .keptAt, .jrnl, .host, .mbx, .pool, .chk, .lathes, .images, .ctxs, .custKey, .chisels, .cans, .macs,
   .switch, .wnw, .motion, .claim, .glume, .fab, .pair, .nets, .rd, .out, .freeCount, .pending, .poolMem, .cellState, .grid, .epoch, .ident,
   .block, .cut, .minSecVer, .bindLocked, .retained, .memForm, .secFloor]

theorem Part.mem_all (p : Part) : p ∈ Part.all := by cases p <;> decide

/-- Two states agree on a part; the last two say what holds of the later state given the earlier. -/
def Same (p : Part) (s t : State) : Prop :=
  match p with
  | .time => t.time = s.time
  | .cell => t.cell = s.cell
  | .power => t.power = s.power
  | .tap => t.tap = s.tap
  | .kept => t.kept = s.kept
  | .keptAt => t.keptAt = s.keptAt
  | .jrnl => t.jrnl = s.jrnl
  | .host => t.host = s.host
  | .mbx => t.mbx = s.mbx
  | .pool => t.pool = s.pool
  | .chk => t.chk = s.chk
  | .lathes => t.lathes = s.lathes
  | .images => t.images = s.images
  | .ctxs => t.ctxs = s.ctxs
  | .custKey => t.custKey = s.custKey
  | .chisels => t.chisels = s.chisels
  | .cans => t.cans = s.cans
  | .macs => t.macs = s.macs
  | .switch => t.switch = s.switch
  | .wnw => t.wnw = s.wnw
  | .motion => t.motion = s.motion
  | .claim => t.claim = s.claim
  | .glume => t.glume = s.glume
  | .fab => t.fab = s.fab
  | .pair => t.pair = s.pair
  | .nets => t.nets = s.nets
  | .rd => t.rd = s.rd
  | .out => t.out = s.out
  | .freeCount => t.freeCount = s.freeCount
  | .pending => t.pending = s.pending
  | .poolMem => t.pool.mem = s.pool.mem
  | .cellState => t.cell.state = s.cell.state
  | .grid => (t.cell.tickSel, t.cell.nextEdge, t.cell.change) = (s.cell.tickSel, s.cell.nextEdge, s.cell.change)
  | .epoch => t.cell.epoch = s.cell.epoch
  | .ident => (t.cell.uid, t.cell.siRev, t.cell.grade, t.cell.fwRelease) = (s.cell.uid, s.cell.siRev, s.cell.grade, s.cell.fwRelease)
  | .block => t.glume.block = s.glume.block
  | .cut => t.glume.cut = s.glume.cut
  | .minSecVer => t.power.minSecVer = s.power.minSecVer
  | .bindLocked => t.mbx.bindLocked = s.mbx.bindLocked
  | .retained => t.jrnl.retained = s.jrnl.retained
  | .memForm => Memory.wf s → Memory.wf t
  | .secFloor => s.power.minSecVer ≤ t.power.minSecVer

/-- A frame: every part that is not listed is as before. -/
def Touches (ps : List Part) (s t : State) : Prop := ∀ p : Part, p ∉ ps → Same p s t

end Sys2Proof.Machine
end

