-- ==== Sys2Proof/Safety/Frames.lean ====
section
/-! DEFINITION. Which parts of the state each command may touch, and which commands may change the parts that the spec protects by rules of their own. -/

namespace Sys2Proof.Machine

/-- The parts of the state that a command may touch; every other part it leaves as it was. -/
def framed : Instr → List Part
  | .tickEdge _ _ =>
    [.time, .cell, .power, .kept, .keptAt, .jrnl, .host, .mbx, .pool, .chk, .lathes, .images, .ctxs, .custKey, .chisels, .cans, .macs, .switch, .wnw, .motion, .claim, .glume, .fab, .pair, .nets, .rd, .out, .freeCount, .poolMem, .cellState, .grid, .epoch, .ident, .block, .cut, .bindLocked, .retained]
  | .tickLengthChange => [.time, .cell, .wnw, .motion, .claim, .fab, .pair, .grid]
  | .claimHoldover _ => [.claim, .fab]
  | .claimRevoke _ => [.jrnl, .host, .wnw, .claim, .fab, .pair, .nets]
  | .tillerUpdate _ _ _ _ | .outputAssembly => [.time, .cell, .jrnl, .host, .wnw, .motion, .glume, .pair, .out]
  | .tillerWatchdog _ | .spareTestSlice _ => [.wnw, .motion]
  | .outputSeal => [.time, .cell, .jrnl, .host, .lathes, .ctxs, .wnw, .motion, .glume, .pair, .out]
  | .guardBandStart => [.time, .cell, .lathes, .ctxs]
  | .proposalLatch _ | .safeInputSample _ _ | .pendingBlockExpiry => [.glume]
  | .glumeChannelResult _ _ | .glumeDeadlineMiss _ | .safetyTelegramReceive _ _ | .sourceTimeout _ | .discrepancyTimeout _ | .testPulse _ _ _
  | .outputTestPulse _ _ _ _ | .tickAbsence => [.jrnl, .host, .wnw, .glume, .out]
  | .stop1Timeout _ => [.glume, .out]
  | .glumeClockFault | .glumeSelfTest _ => [.jrnl, .host, .wnw, .glume, .out, .cut]
  | .commandAcceptance => [.cell, .jrnl, .host, .pool, .wnw, .fab, .pair]
  | .eventCreditGrant _ | .sysIdentify _ _ | .sysStatus _ _ | .sysCancel _ _ | .sysEventMask _ _ | .cellStatus _ _ | .cellTxnAbort _ _
  | .axisStatus _ _ | .safeStatus _ _ | .safeCounters _ _ | .zoneStatus _ _ | .zoneCounters _ _ | .diagAxisLoop _ _ | .diagAxisCounters _ _
  | .diagTiller _ _ | .diagBlocks _ _ | .netStatus _ _ | .latheLoad _ _ | .latheCounters _ _ | .fabStatus _ _ | .fabPairStatus _ _ | .timeStatus _ _
  | .fwStatus _ _ => [.host]
  | .bankHandover _ | .sysHostSetup _ _ => [.host, .pool]
  | .bankReturn _ | .eventPost _ | .mbxDataWrite _ _ _ | .hostResetEnd _ => [.host, .mbx, .pool, .out]
  | .responsePost _ => [.host, .mbx, .pool, .chk, .lathes, .out, .poolMem]
  | .shadowAckReceive _ => [.cell, .host, .pair]
  | .heldCommandCommit _ _ | .cellTxnCommit _ _ =>
    [.time, .cell, .power, .jrnl, .host, .mbx, .pool, .chk, .lathes, .images, .ctxs, .custKey, .chisels, .cans, .macs, .switch, .wnw, .motion, .claim, .glume, .fab, .pair, .nets, .out, .freeCount, .poolMem, .cellState, .grid, .epoch, .retained]
  | .txnExpiry _ | .holdoverTimeout _ => [.time, .jrnl, .host, .wnw]
  | .deferredReset | .powerOnReset _ | .rstNLow | .bootWatchdog =>
    [.time, .cell, .power, .keptAt, .jrnl, .host, .mbx, .pool, .chk, .lathes, .ctxs, .custKey, .chisels, .cans, .macs, .switch, .wnw, .motion, .claim, .glume, .fab, .pair, .nets, .rd, .poolMem, .cellState, .grid, .epoch, .ident, .block, .cut, .bindLocked]
  | .sysReset _ _ | .fwLoad _ _ | .fwActivate _ _ => [.power, .host]
  | .cellSetTick _ _ => [.cell, .host, .fab, .freeCount, .grid]
  | .cellSetState _ _ => [.cell, .jrnl, .host, .mbx, .wnw, .motion, .claim, .glume, .fab, .pair, .freeCount, .cellState]
  | .cellTxnBegin _ _ | .armStatus _ _ | .jrnlRead _ _ | .jrnlStatus _ _ => [.host, .freeCount]
  | .armDefine _ _ | .armSetDynamics _ _ | .armSetPayload _ _ | .armSetIk _ _ | .armSetTool _ _ | .armSetFrame _ _ | .armSetClaim _ _
  | .armSetMode _ _ | .armResume _ _ | .axisBind _ _ | .axisConfig _ _ | .axisSetLoop _ _ | .axisSetNotch _ _ | .axisResume _ _ | .axisGear _ _
  | .axisCamTable _ _ | .axisCam _ _ | .axisSwitchConfig _ _ | .axisSwitchClear _ _ | .axisDdConfig _ _ | .axisDdPwm _ _ => [.host, .motion]
  | .armSetLimits _ _ | .armHold _ _ | .axisHold _ _ => [.host, .motion, .freeCount]
  | .armMoveJoint _ _ | .armMoveCart _ _ | .armMoveArc _ _ | .armJog _ _ | .jogTimeout _ => [.jrnl, .host, .wnw, .motion, .claim, .fab, .freeCount]
  | .armStop _ _ => [.host, .motion, .claim, .fab, .freeCount]
  | .axisSetLimits _ _ | .axisMove _ _ | .axisMoveVel _ _ => [.jrnl, .host, .wnw, .motion, .freeCount]
  | .axisSetMode _ _ | .axisDdAlign _ _ | .ddAlignComplete _ => [.host, .motion, .glume]
  | .axisStop _ _ | .homeNotFound _ | .homeNoIndex _ => [.time, .jrnl, .host, .wnw, .motion, .claim, .fab, .freeCount]
  | .axisHome _ _ | .switchChatter _ _ => [.time, .jrnl, .host, .wnw, .motion, .freeCount]
  | .axisJog _ _ => [.jrnl, .host, .wnw, .motion, .glume, .freeCount]
  | .safeLoad _ _ | .safeConfirm _ _ => [.host, .glume]
  | .zoneDefine _ _ | .zoneUnblock _ _ | .fabLeave _ _ => [.host, .claim, .fab]
  | .jrnlMark _ _ | .jrnlCommit _ _ => [.jrnl, .host, .wnw]
  | .diagTickLoad _ _ => [.cell, .host]
  | .diagTelemetry _ _ => [.host, .wnw]
  | .netPortConfig _ _ | .netSnapshot _ _ | .netStats _ _ | .netSchedule _ _ => [.host, .macs]
  | .netDefine _ _ => [.host, .pool, .chk, .lathes, .ctxs, .chisels, .cans, .macs, .nets, .poolMem]
  | .netStart _ _ | .netStop _ _ => [.host, .pool, .lathes, .ctxs, .switch, .nets, .poolMem]
  | .netAcyclic _ _ => [.host, .nets, .out]
  | .netMirror _ _ => [.host, .switch]
  | .netCanConfig _ _ => [.host, .cans]
  | .latheStore _ _ => [.host, .images]
  | .latheSwap _ _ | .latheStatus _ _ | .latheTelemetry _ _ => [.host, .lathes]
  | .latheEnrollKey _ _ => [.jrnl, .host, .custKey, .retained]
  | .fabSetKey _ _ | .fabJoin _ _ => [.jrnl, .host, .fab, .retained]
  | .fabSchedule _ _ | .fabWake _ _ => [.host, .fab]
  | .fabAssignShadow _ _ => [.cell, .jrnl, .host, .wnw, .fab, .pair, .nets, .freeCount, .epoch, .retained]
  | .fabReleaseShadow _ _ => [.cell, .jrnl, .host, .mbx, .wnw, .motion, .glume, .fab, .pair, .nets, .cellState, .epoch, .retained]
  | .fabSwitchover _ _ => [.cell, .jrnl, .host, .wnw, .claim, .glume, .fab, .pair, .out, .freeCount, .epoch, .retained]
  | .fabSetReplLevel _ _ => [.power, .host, .freeCount]
  | .fabSleep _ _ => [.host, .fab, .freeCount]
  | .timeConfig _ _ | .timeCompare _ _ | .timeCapture _ _ => [.time, .host]
  | .timeSet _ _ => [.time, .cell, .host, .grid]
  | .longCommandComplete _ _ _ _ => [.power, .host, .pool, .lathes, .images, .ctxs, .nets, .poolMem]
  | .homingShift _ => [.time, .jrnl, .host, .wnw, .motion, .freeCount, .retained]
  | .brakeOpenWait _ => [.motion]
  | .brakeCloseWait _ => [.motion, .glume]
  | .conversionComplete _ _ _ => [.time, .jrnl, .host, .wnw, .motion, .glume, .out]
  | .mbxDataRead _ _ => [.jrnl, .host, .mbx, .pool, .wnw, .rd, .out]
  | .remoteWord _ _ _ | .mbxDbRingWrite _ _ => [.host, .mbx, .out]
  | .receiverDomainUp _ | .mbxBindWrite _ _ _ => [.mbx]
  | .mbxLockRead _ _ | .mbxDbEvcntRead _ _ => [.mbx, .rd]
  | .mbxLockWrite _ _ _ => [.jrnl, .host, .mbx, .wnw]
  | .mbxDbPendWrite _ _ | .mbxDbEnableWrite _ _ => [.mbx, .out]
  | .mbxEvcntRead _ _ => [.host, .mbx, .rd]
  | .mbxBindLockWrite _ _ => [.mbx, .bindLocked]
  | .hostGtcLoRead _ | .hostAccessErrRead _ => [.host, .rd]
  | .hostPortReset _ => [.jrnl, .host, .mbx, .pool, .wnw]
  | .qspiWrite _ _ | .qspiRead _ _ => [.jrnl, .host, .mbx, .pool, .chk, .lathes, .ctxs, .chisels, .cans, .switch, .wnw, .rd, .out, .poolMem]
  | .latheReceiveEntry _ | .chsPause _ _ | .chsPins _ _ _ _ | .chsSample _ _ _ _ | .chsBranch _ _ _ _ _ | .chsAwait _ _ _ _ _ | .chsData _ _ _
  | .chsLoad _ _ _ | .chsSignal _ _ _ => [.lathes, .chisels]
  | .lthPostWrite _ _ | .latheInitStart _ | .migrationEnd _ => [.lathes]
  | .lthTelemWrite _ _ => [.jrnl, .lathes, .wnw]
  | .latheSwapExecute _ => [.time, .jrnl, .host, .mbx, .lathes, .wnw]
  | .latheRestart _ | .backgroundWatchdog _ | .lthNop _ _ | .lthEnd _ _ | .lthIdle _ _ | .lthRetx _ _ | .lthTrap _ _ _ | .lthMov _ _ _
  | .lthMovi _ _ _ _ | .lthAdd _ _ _ | .lthAddi _ _ _ _ | .lthAdc _ _ _ | .lthSub _ _ _ | .lthSubi _ _ _ _ | .lthSbc _ _ _ | .lthCmp _ _ _
  | .lthCmpi _ _ _ _ | .lthAnd _ _ _ | .lthAndi _ _ _ _ | .lthOr _ _ _ | .lthOri _ _ _ _ | .lthXor _ _ _ | .lthXori _ _ _ _ | .lthTst _ _ _
  | .lthTsti _ _ _ _ | .lthShl _ _ _ | .lthShli _ _ _ _ | .lthShr _ _ _ | .lthShri _ _ _ _ | .lthSar _ _ _ | .lthSari _ _ _ _ | .lthRol _ _ _
  | .lthRoli _ _ _ _ | .lthNot _ _ _ | .lthNeg _ _ _ | .lthMul _ _ _ | .lthMuli _ _ _ _ | .lthBswap _ _ _ | .lthExt _ _ _ _ _ | .lthBtst _ _ _ _
  | .lthBset _ _ _ _ | .lthBclr _ _ _ _ | .lthLea _ _ _ _ _ | .lthBccRel8 _ _ _ _ | .lthBccRel16 _ _ _ _ | .lthJmp _ _ _ | .lthJmpa _ _ _ =>
    [.pool, .lathes, .ctxs, .chisels, .cans, .wnw, .poolMem]
  | .lthLd _ _ _ _ _ | .lthLds _ _ _ _ _ | .lthBlkMatch _ _ _ _ | .lthBlkSeek _ _ _ _ _ | .lthBlkGather _ _ _ _ =>
    [.time, .jrnl, .host, .mbx, .pool, .chk, .lathes, .ctxs, .chisels, .cans, .macs, .switch, .wnw, .rd, .out, .freeCount, .poolMem]
  | .lthSt _ _ _ _ _ | .lthSti _ _ _ _ _ _ | .lthBlkFill _ _ _ _ _ | .registerWrite _ _ _ =>
    [.time, .jrnl, .host, .mbx, .pool, .chk, .lathes, .ctxs, .chisels, .cans, .macs, .switch, .wnw, .motion, .out, .poolMem, .bindLocked]
  | .lthXchg _ _ _ _ _ | .lthCas _ _ _ _ | .lthBlkCopy _ _ _ _ =>
    [.time, .jrnl, .host, .mbx, .pool, .chk, .lathes, .ctxs, .chisels, .cans, .macs, .switch, .wnw, .motion, .rd, .out, .freeCount, .poolMem, .bindLocked]
  | .lthPush _ _ _ | .lthCall _ _ _ _ | .lthCallr _ _ _ _ => [.pool, .chk, .lathes, .ctxs, .chisels, .cans, .wnw, .out, .poolMem]
  | .lthPop _ _ _ | .lthRet _ _ _ => [.jrnl, .pool, .lathes, .ctxs, .chisels, .cans, .wnw, .poolMem]
  | .chsEmit _ _ _ _ _ => [.lathes, .chisels, .out]
  | .chsAwaitTimeout _ | .chiselStart _ _ _ | .chiselClockRestart _ _ | .chiselStop _ _ | .chsCtrlWrite _ _ | .chsStoreWrite _ _ _
  | .chsEDinWrite _ _ | .awaitMatch _ _ => [.chisels]
  | .chsCopy _ _ _ _ _ => [.lathes, .chisels, .freeCount]
  | .chiselFifoResume _ _ => [.chisels, .out]
  | .chsEDoutRead _ | .chsGcntRead _ | .chsECntRead _ => [.chisels, .rd]
  | .frameReceive _ _ _ _ _ => [.cell, .chk, .lathes, .macs, .switch, .wnw, .nets, .out]
  | .pauseRefresh _ | .preemptVerify _ _ => [.macs, .out]
  | .frameTransmitStart _ _ => [.time, .chk, .lathes, .macs, .switch, .wnw, .out]
  | .frameTransmitEnd _ => [.cell, .macs, .switch, .out]
  | .txDescriptorTake _ => [.cell, .jrnl, .pool, .chk, .lathes, .macs, .switch, .wnw, .nets, .out]
  | .rxRingDeliver _ => [.pool, .chk, .lathes, .macs, .switch, .wnw, .out, .poolMem]
  | .deadlineWithdraw _ => [.cell, .macs, .switch, .nets, .out]
  | .linkDown _ | .linkUp _ _ _ => [.jrnl, .host, .chk, .macs, .switch, .wnw, .out]
  | .holdExpiry _ => [.macs, .switch, .out]
  | .gateListActivate _ | .gateChange _ => [.time, .macs]
  | .bufferAudit _ _ _ => [.jrnl, .switch, .wnw]
  | .swTxrIdxWrite _ _ => [.lathes, .switch]
  | .swRxrIdxWrite _ _ => [.switch]
  | .macSnapWrite _ _ _ | .pauseTimeExpiry _ _ => [.macs]
  | .nrwCounterRead _ _ => [.macs, .rd]
  | .swAuditRead | .swTxrCredRead _ | .swRxrIdxRead _ => [.switch, .rd]
  | .canFrameReceive _ _ _ => [.lathes, .cans, .freeCount]
  | .canProtocolException _ | .canIntegrationEnd _ | .canTxLoad _ _ | .canTxCancel _ _ | .canTxRelease _ _ | .canBusoffRecoveryStart _
  | .canRxFetchWrite _ _ | .canRecoveryEnd _ | .canReceiveError _ _ _ => [.cans]
  | .canTxChoice _ => [.cans, .out]
  | .canAttemptEnd _ _ => [.lathes, .cans]
  | .canCnt0Read _ | .canCnt1Read _ => [.cans, .rd]
  | .tbOfsWrite _ _ _ | .tbConvHiWrite _ _ _ | .cmpTargetWrite _ _ _ | .captureEdge _ _ _ => [.time]
  | .tbNsRead _ _ | .capHiRead _ | .tbStatusRead _ | .cmpStatusRead _ | .capStatusRead _ | .tsInsCfgRead _ => [.time, .rd]
  | .compareMatch _ => [.time, .lathes, .chisels, .motion]
  | .fabricFrameReceive _ _ _ =>
    [.time, .cell, .jrnl, .host, .mbx, .wnw, .motion, .claim, .glume, .fab, .pair, .out, .freeCount, .cellState, .grid, .retained]
  | .fabricLinkUp _ | .fabricLinkDown _ _ | .cycleFrameMissing | .announceSend | .bulkAckReceive _ _ _ | .sleepPointOfNoReturn | .failsafeSleep
  | .wakeRequest _ _ | .fwakeNAssert => [.fab]
  | .slotWindowOpen _ _ => [.time, .fab, .pair, .out]
  | .slotWindowClose _ _ => [.time, .mbx, .lathes, .fab, .out]
  | .cycleMasterDeparted => [.cell, .jrnl, .wnw, .fab, .pair, .retained]
  | .bulkSegmentReceive _ _ _ _ _ _ => [.cell, .power, .host, .motion, .glume, .fab, .pair, .nets, .out, .cellState, .epoch, .block]
  | .bulkResend _ _ | .cycleStartAfterCold => [.fab, .out]
  | .joinJ1Receive _ _ _ _ _ _ _ _ | .joinJ3Receive _ _ | .joinJ1Repeat => [.fab, .out, .freeCount]
  | .joinJ2Receive _ _ _ _ _ => [.cell, .host, .fab, .out]
  | .joinJ4Receive _ _ _ => [.cell, .host, .fab]
  | .joinTransferComplete _ => [.cell, .jrnl, .host, .mbx, .wnw, .motion, .claim, .glume, .fab, .pair, .cellState, .epoch, .retained]
  | .coldStartTimeout => [.time, .cell, .host, .fab, .out]
  | .coldStartJudge => [.time, .cell, .jrnl, .host, .mbx, .wnw, .motion, .glume, .fab, .pair, .cellState, .retained]
  | .coldStartBackoffEnd => [.time, .fab, .out]
  | .forwardingSlotMiss => [.time, .jrnl, .host, .wnw, .motion, .claim, .fab, .pair, .freeCount]
  | .echoMiss => [.cell, .jrnl, .host, .mbx, .wnw, .motion, .glume, .fab, .pair, .out, .cellState, .epoch, .retained]
  | .fillFrame _ => [.time, .pair, .out]
  | .takeover => [.cell, .jrnl, .host, .ctxs, .wnw, .motion, .claim, .glume, .fab, .pair, .nets, .out, .freeCount, .epoch, .retained]
  | .shadowSynced => [.cell, .jrnl, .host, .wnw, .fab, .pair, .epoch, .retained]
  | .shadowSyncTimeout => [.time, .host, .fab, .pair, .nets]
  | .sleepEntry | .falseWake => [.cell, .jrnl, .host, .mbx, .wnw, .glume, .fab, .pair, .cellState, .retained]
  | .sleepEntryComplete | .sleepingDeviceWake _ => [.cell, .jrnl, .host, .mbx, .wnw, .fab, .out, .cellState]
  | .fwakeDrive => [.out]
  | .poolAccess _ _ _ _ => [.jrnl, .host, .pool, .chk, .lathes, .ctxs, .chisels, .cans, .switch, .wnw, .rd, .out, .poolMem]
  | .poolOwnerWrite _ _ _ | .poolHandoverComplete _ => [.pool]
  | .poolEccRead _ => [.pool, .rd]
  | .chkRunWrite _ _ _ => [.chk]
  | .chkCntRead _ => [.chk, .rd]
  | .scrubBurst _ _ => [.jrnl, .pool, .lathes, .ctxs, .chisels, .cans, .macs, .switch, .wnw, .pair, .out, .poolMem]
  | .scrubLate _ | .selfTestSlice _ _ | .loopbackTest _ _ | .temperatureSample _ => [.wnw]
  | .converterCalibration _ _ _ _ | .pwmTuning _ _ _ => [.jrnl, .wnw, .retained]
  | .wearLevelMove _ | .nvRateCheck _ | .archiveCopy _ => [.jrnl]
  | .telemetryDatagram => [.cell, .macs, .switch, .wnw, .nets, .out, .freeCount]
  | .eyeMonitor _ _ => [.jrnl, .wnw, .freeCount]
  | .railResetThreshold _ =>
    [.time, .cell, .power, .tap, .keptAt, .jrnl, .host, .mbx, .pool, .chk, .lathes, .ctxs, .custKey, .chisels, .cans, .macs, .switch, .wnw, .motion, .claim, .glume, .fab, .pair, .nets, .rd, .out, .poolMem, .cellState, .grid, .epoch, .ident, .block, .cut, .bindLocked]
  | .pfwNAssert | .railInhibitThreshold _ => [.power, .jrnl, .host, .wnw, .pair, .freeCount]
  | .inhibitRelease => [.power, .jrnl, .wnw]
  | .journalCommit | .norOperationComplete _ _ _ _ => [.jrnl, .wnw]
  | .bootSlotChoice => [.cell, .power, .jrnl, .mbx, .pool, .custKey, .wnw, .cellState, .ident, .bindLocked, .retained]
  | .startupSelfTest _ _ =>
    [.time, .cell, .power, .keptAt, .jrnl, .host, .mbx, .pool, .chk, .lathes, .ctxs, .custKey, .chisels, .cans, .macs, .switch, .wnw, .motion, .claim, .glume, .fab, .pair, .nets, .rd, .out, .freeCount, .poolMem, .cellState, .grid, .epoch, .ident, .block, .cut, .bindLocked]
  | .glumeStartup => [.cell, .power, .jrnl, .host, .wnw, .glume, .out, .block, .retained]
  | .startupImageLoad _ => [.time, .power, .jrnl, .host, .pool, .chk, .lathes, .ctxs, .chisels, .cans, .macs, .switch, .wnw, .nets, .poolMem]
  | .startupFabricJoin => [.cell, .power, .jrnl, .fab, .cellState, .grid, .epoch, .ident, .retained]
  | .startupConfigRestore => [.cell, .power, .jrnl, .host, .mbx, .pool, .wnw, .motion, .claim, .out, .cellState, .minSecVer]
  | .recoverWord _ | .pllLockLoss _ =>
    [.time, .cell, .power, .keptAt, .jrnl, .host, .mbx, .pool, .chk, .lathes, .ctxs, .custKey, .chisels, .cans, .macs, .switch, .wnw, .motion, .claim, .glume, .fab, .pair, .nets, .rd, .out, .poolMem, .cellState, .grid, .epoch, .ident, .block, .cut, .bindLocked]
  | .tapReset | .tapIdcode | .tapBypass => [.tap]
  | .tapExtest | .tapClamp | .tapHighz | .tapExtestPulse | .tapExtestTrain =>
    [.time, .cell, .power, .tap, .keptAt, .jrnl, .host, .mbx, .pool, .chk, .lathes, .ctxs, .custKey, .chisels, .cans, .macs, .switch, .wnw, .motion, .claim, .glume, .fab, .pair, .nets, .rd, .freeCount, .poolMem, .cellState, .grid, .epoch, .ident, .block, .cut, .bindLocked]
  | .tapSamplePreload _ => [.tap, .freeCount]
  | .tapPinControlTakeover => [.time, .tap]

/-- Commands that may change the cell state: CELL.SET_STATE and what carries it to an edge or to a member, start-up, sleep and resets (R636, R637). -/
def movesCellState : Instr → Bool
  | .tickEdge _ _ | .heldCommandCommit _ _ | .deferredReset | .cellSetState _ _ | .cellTxnCommit _ _ | .fabReleaseShadow _ _
  | .fabricFrameReceive _ _ _ | .bulkSegmentReceive _ _ _ _ _ _ | .joinTransferComplete _ | .coldStartJudge | .echoMiss | .sleepEntry
  | .sleepEntryComplete | .sleepingDeviceWake _ | .falseWake | .powerOnReset _ | .rstNLow | .railResetThreshold _ | .bootWatchdog | .bootSlotChoice
  | .startupSelfTest _ _ | .startupFabricJoin | .startupConfigRestore | .recoverWord _ | .tapExtest | .tapClamp | .tapHighz | .tapExtestPulse
  | .tapExtestTrain | .pllLockLoss _ => true
  | _ => false

/-- Commands that may change the tick grid: CELL.SET_TICK, TIME.SET, what carries them to an edge or to a member, and resets (R11, R14, R489). -/
def movesGrid : Instr → Bool
  | .tickEdge _ _ | .tickLengthChange | .heldCommandCommit _ _ | .deferredReset | .cellSetTick _ _ | .cellTxnCommit _ _ | .timeSet _ _
  | .fabricFrameReceive _ _ _ | .powerOnReset _ | .rstNLow | .railResetThreshold _ | .bootWatchdog | .startupSelfTest _ _ | .startupFabricJoin
  | .recoverWord _ | .tapExtest | .tapClamp | .tapHighz | .tapExtestPulse | .tapExtestTrain | .pllLockLoss _ => true
  | _ => false

/-- Commands that may change the epoch: those of the pair, the join that carries one, and resets (R293). -/
def movesEpoch : Instr → Bool
  | .tickEdge _ _ | .heldCommandCommit _ _ | .deferredReset | .cellTxnCommit _ _ | .fabAssignShadow _ _ | .fabReleaseShadow _ _ | .fabSwitchover _ _
  | .bulkSegmentReceive _ _ _ _ _ _ | .joinTransferComplete _ | .echoMiss | .takeover | .shadowSynced | .powerOnReset _ | .rstNLow
  | .railResetThreshold _ | .bootWatchdog | .startupSelfTest _ _ | .startupFabricJoin | .recoverWord _ | .tapExtest | .tapClamp | .tapHighz
  | .tapExtestPulse | .tapExtestTrain | .pllLockLoss _ => true
  | _ => false

/-- Commands that may change the active safety block: a tick edge, the transfer to a shadow, start-up and resets (R246, R247). -/
def movesBlock : Instr → Bool
  | .tickEdge _ _ | .deferredReset | .bulkSegmentReceive _ _ _ _ _ _ | .powerOnReset _ | .rstNLow | .railResetThreshold _ | .bootWatchdog
  | .startupSelfTest _ _ | .glumeStartup | .recoverWord _ | .tapExtest | .tapClamp | .tapHighz | .tapExtestPulse | .tapExtestTrain | .pllLockLoss _ => true
  | _ => false

/-- Commands that may change the hardware cut of the safe outputs: a fault of the Glume clock or rail, its self-test, an edge and resets (R198). -/
def movesCut : Instr → Bool
  | .tickEdge _ _ | .glumeClockFault | .glumeSelfTest _ | .deferredReset | .powerOnReset _ | .rstNLow | .railResetThreshold _ | .bootWatchdog
  | .startupSelfTest _ _ | .recoverWord _ | .tapExtest | .tapClamp | .tapHighz | .tapExtestPulse | .tapExtestTrain | .pllLockLoss _ => true
  | _ => false

/-- The one command that may raise the fused minimum security version: the end of start-up (R626, R629). -/
def movesMinSecVer : Instr → Bool
  | .startupConfigRestore => true
  | _ => false

/-- Commands that may change the lock of the mailbox bindings: its register, by any path that writes registers, start-up and resets (R302). -/
def movesBindLock : Instr → Bool
  | .tickEdge _ _ | .deferredReset | .mbxBindLockWrite _ _ | .lthSt _ _ _ _ _ | .lthXchg _ _ _ _ _ | .lthCas _ _ _ _ | .lthSti _ _ _ _ _ _
  | .lthBlkCopy _ _ _ _ | .lthBlkFill _ _ _ _ _ | .powerOnReset _ | .rstNLow | .railResetThreshold _ | .bootWatchdog | .bootSlotChoice
  | .startupSelfTest _ _ | .recoverWord _ | .tapExtest | .tapClamp | .tapHighz | .tapExtestPulse | .tapExtestTrain | .registerWrite _ _ _
  | .pllLockLoss _ => true
  | _ => false

end Sys2Proof.Machine
end

