-- ==== Sys2Proof/Safety/Completion.lean ====
section
/-! DEFINITION. How a command completes, as the statements say it. -/

namespace Sys2Proof.Machine

/-- A command completes: its step goes on to a state of which `P` holds. -/
def Does (i : Instr) (s : State) (P : State → Prop) : Prop := ∃ t, exec i s = .next t ∧ P t

/-- None of these tests of R332 refuses. -/
abbrev Passes (ts : List Test) : Prop := ts.all (fun t => !t.1) = true

/-- The reply of the host command that committed last. -/
def State.lastReply (s : State) : Option Reply := s.host.cmds.getLast?.map HostCmd.reply

/-! ### The Lathes -/

/-- Level `v` of engine `e` is about to execute an instruction of `len` octets after the prefixes `p`: the engine runs an image, the level
is its highest with work, all octets of the instruction lie in the code, and the prefixes are legal for it (R364, R384, R385). -/
structure Ready (e v : Nat) (p : List Byte) (acc : LthAccepts) (len : Nat) (s : State) : Prop where
  engine : e < 16
  loaded : (s.lathe e).loaded = true
  usable : (s.lathe e).unusable = false
  level : (s.lathe e).running = some v
  prefixes : badPrefix p = none
  accepted : unaccepted acc p = false
  inCode : (s.lthLevel e v).ip.toNat + (p.length + len) ≤ (s.lathe e).image.code.length
  address : (s.lthLevel e v).ip.toNat < 65536

/-- The address after an instruction. -/
def nextIp (e v : Nat) (p : List Byte) (len : Nat) (s : State) : Nat := (s.lthLevel e v).ip.toNat + (p.length + len)

/-- A level once an instruction has ended: at the next address, its flags replaced unless NOFL is present, a register written, then the
load pending from the instruction before landed, and its own load pending (R389 to R392). -/
def LthLevel.retire (x : LthLevel) (ip : Nat) (p : List Byte) (fl : Option LthFlags) (wr : Option (Nat × Word)) (load : Option (Nat × Word)) :
    LthLevel :=
  let x := { x with ip := BitVec.ofNat 32 ip }
  let x := match fl with
    | some f => if p.contains 0xE4 then x else x.setFlags f
    | none => x
  let x := match wr with
    | some (d, v) => x.setReg d v
    | none => x
  { x.land with pend := load }

/-- An instruction completes: level `v` of engine `e` becomes `x`, and nothing else changes. -/
def Runs (i : Instr) (s : State) (e v : Nat) (x : LthLevel) : Prop :=
  Does i s (fun t => t.lathe e = (s.lathe e).setLevel v x ∧ (∀ d, d ≠ e → t.lathe d = s.lathe d) ∧ Touches [.lathes] s t)

end Sys2Proof.Machine
end

