-- ==== Sys2Proof/Safety/Needs.lean ====
section
/-! DEFINITION. The tests that a host command must pass, command by command, in the order in which R332 examines them, as the
statements say them. -/

namespace Sys2Proof.Machine

/-- 0x0101: what refuses SysIdentify, in order (R332). -/
def needsSysIdentify (_ : Hdr) (a : List Byte) (s : State) : List Test :=
  [badLen a 0, haltCell s]

/-- 0x0102: what refuses SysHostSetup, in order (R332). -/
def needsSysHostSetup (h : Hdr) (a : List Byte) (s : State) : List Test :=
  let p := s.port h.port
  let q := s.port (9 - h.port)
  let share := uAt a 0 2
  let new := uAt a 4 8
  let fresh (b : Nat) : Bool := !bitAt p.banks b
  let conflict := anyBank new (fun b => bitAt q.banks b || (fresh b && !([0, h.port].contains (s.bank b).owner)))
  let leaving := anyBank p.banks (fun b => !bitAt new b && !bitAt p.held b)
  [badLen a 12, badZeros a 2 2, shadowed h s, liveCell s,
      badState ((s.others h) != [] || s.host.txns.any (fun t => t.port == h.port)),
      (decide (512 < share + q.share), St.tooMany, 0), (conflict, St.bankConflict, 0), (leaving, St.bankNotHeld, 0)]

/-- 0x0103: what refuses SysStatus, in order (R332). -/
def needsSysStatus (_ : Hdr) (a : List Byte) (s : State) : List Test :=
  [badLen a 0, haltCell s]

/-- 0x0104: what refuses SysCancel, in order (R332). -/
def needsSysCancel (h : Hdr) (a : List Byte) (s : State) : List Test :=
  [badLen a 4, badZeros a 2 2, shadowed h s, liveCell s]

/-- 0x0105: what refuses SysEventMask, in order (R332). -/
def needsSysEventMask (h : Hdr) (a : List Byte) (s : State) : List Test :=
  [badLen a 4, badZeros a 2 2, shadowed h s, liveCell s]

/-- 0x0106: what refuses SysReset, in order (R332). -/
def needsSysReset (h : Hdr) (a : List Byte) (s : State) : List Test :=
  let fine := s.cell.state == 2 || (s.cell.state == 3 && s.allDisabled) || (s.cell.state == 1 && s.power.halted)
  [badLen a 0, shadowed h s, badState !fine]

/-- 0x0201: what refuses CellSetTick, in order (R332). -/
def needsCellSetTick (h : Hdr) (a : List Byte) (s : State) : List Test :=
  let sel := uAt a 0 1
  let ns := tickNs sel
  let (ready, _) := if s.otherNodes = [] then (1, s) else s.freeBelow 2
  let there := { s with cell := { s.cell with tickSel := sel } }
  [badLen a 4, badAt 0 (decide (5 < sel)), badZeros a 1 3, badAt 0 (s.motion.pwmN != 0 && !pwmValid sel s.motion.pwmN),
      shadowed h s, badState (s.cell.state != 2), badState s.cell.change.isSome, badState (s.inFabric && s.fab.master != s.cell.node), badState (ready != 1),
      (s.motion.axes.any (fun p => !p.2.lim.fit ns), St.velRange, 0), (!there.fitsBudget || !there.sequencesFit, St.budgetExceeded, 0)]

/-- 0x0202: what refuses CellSetState, in order (R332). -/
def needsCellSetState (h : Hdr) (a : List Byte) (s : State) : List Test :=
  let dst := uAt a 0 1
  let arms := uAt a 4 2
  let axes := uAt a 8 64
  let same := dst == s.cell.state && dst != 7
  let t := if same then none else s.transition dst arms axes
  [badLen a 72, badAt 0 (dst == 0 || decide (8 < dst)), badZeros a 1 3, badAt 4 (dst != 7 && arms != 0), badZeros a 6 2,
      badAt 8 (dst != 7 && axes != 0), shadowed h s, liveCell s, (t.isSome, t.getD 0, 0)]

/-- 0x0203: what refuses CellStatus, in order (R332). -/
def needsCellStatus (_ : Hdr) (a : List Byte) (s : State) : List Test :=
  [badLen a 0, liveCell s]

/-- 0x0204: what refuses CellTxnBegin, in order (R332). -/
def needsCellTxnBegin (h : Hdr) (a : List Byte) (s : State) : List Test :=
  let ms := if uAt a 0 4 = 0 then 10000 else uAt a 0 4
  [badLen a 4, (decide (4 ≤ s.host.txns.length), St.txnFull, 0), badAt 0 (decide (ms < 100) || decide (600000 < ms)), shadowed h s, liveCell s]

/-- 0x0205: what refuses CellTxnCommit, in order (R332). -/
def needsCellTxnCommit (h : Hdr) (a : List Byte) (s : State) : List Test :=
  let id := uAt a 0 2
  [badLen a 4, (!s.host.txns.any (fun t => t.id == id && t.port == h.port), St.txnUnknown, 0), badZeros a 2 2, shadowed h s, liveCell s]

/-- 0x0206: what refuses CellTxnAbort, in order (R332). -/
def needsCellTxnAbort (h : Hdr) (a : List Byte) (s : State) : List Test :=
  [badLen a 4, ((s.txn? h.port (uAt a 0 2)).isNone, St.txnUnknown, 0), badZeros a 2 2, shadowed h s, liveCell s]

/-- 0x0301: what refuses ArmDefine, in order (R332). -/
def needsArmDefine (h : Hdr) (a : List Byte) (s : State) : List Test :=
  let n := uAt a 0 2
  let nj := uAt a 4 1
  let k := uAt a 5 1
  let md := uAt a 6 1
  let d := uAt a 7 1
  let ph := uAt a 8 1
  let car := uAt a 12 2
  let old := s.arm n
  let js := (List.range nj).map (jointAt a)
  let axes := js.map (fun j => j.axis)
  let delta := k == 4 || k == 5
  let screws := (List.range nj).map (fun j => ({ dir := f3At a (104 + 44 * j + 4), pt := vecF3 (vec3At a (104 + 44 * j + 16)), rev := uAt a (104 + 44 * j + 2) 1 == 0 } : Screw))
  let other (b : Nat) : Bool := (List.range 16).any (fun m => m != n && (s.arm m).defined && (s.arm m).joints.any (fun j => j.axis == b))
  let carried (b : Nat) : Bool := (List.range 16).any (fun m => m != n && (s.arm m).defined && (s.arm m).carrier == b)
  let mand := if md = 0xFF then n / 4 else md
  let r : Arm := { old with
    defined := true, joints := js, kclass := k, mandrel := mand, divisor := d, phase := if ph = 0xFF then old.phase else ph
    autoPhase := ph == 0xFF, carrier := car, base := { pos := vec3At a 16, rot := quatAt a 28 }
    carrierDir := if car = 0xFFFF then {} else dirAt a 44, carrierScale := store32 (uAt a 56 4), home := { pos := vec3At a 60, rot := quatAt a 72 }
    delta := if delta then [uAt a 88 4, uAt a 92 4, uAt a 96 4, uAt a 100 4].map store32 else [0, 0, 0, 0], gen := {}, back := [] }
  let s1 := s.setArm n r
  let s1 := axes.foldl (fun s b => s.updAxis b (fun x => { (if x.divisor = d then x else ({ x with divisor := d }).rederive s.tickLen) with
    phase := r.phase, gen := {}, back := [] })) s1
  let s2 := match axes with
    | b :: _ => s1.placeAxis (axes.foldl min b)
    | [] => s1
  let isDd (b : Nat) : Bool := match (s.axis b).binding with
    | .dd _ _ _ => true
    | _ => false
  let recTests := (List.range nj).flatMap (fun j =>
    let i := 104 + 44 * j
    [badAt i (decide (511 < uAt a i 2) || other (uAt a i 2) || carried (uAt a i 2) || uAt a i 2 == car), badAt (i + 2) (decide (1 < uAt a (i + 2) 1)),
     badAt (i + 3) (decide (1 < uAt a (i + 3) 1)), badDir a (i + 4), badVec a (i + 16), badAt (i + 28) (decide (sAt a (i + 28) 8 ≤ 0))])
  ([badSubject a 0 16, badAt 4 (decide (nj < 1 ∨ 8 < nj)), badAt 5 (decide (6 < k)), (a.length != 104 + 44 * nj, St.badParam, 32 + 104),
      badAt 6 (md != 0xFF && decide (3 < md)), badAt 7 (!([1, 2, 4, 8, 16].contains d) || (decide (2 < d) && axes.any isDd)),
      badAt 8 (ph != 0xFF && decide (d ≤ ph)), badZeros a 9 3, badAt 12 (car != 0xFFFF && (decide (511 < car) || other car || (s.axis car).modulo != 0 ||
        (s.axis car).mandrel.getD (car / 128) != mand)), badZeros a 14 2, badVec a 16, badQuat a 28] ++
      (if car = 0xFFFF then [] else [badDir a 44, badFloat a 56]) ++ [badVec a 60, badQuat a 72] ++
      (if delta then [badFloat a 88, badFloat a 92, badFloat a 96, badFloat a 100] else [badZeros a 88 16]) ++ recTests ++
      [badAt 104 (!axes.Nodup), (!classFits k screws ([88, 92, 96, 100].map (fun i => Fl.ofBits (uAt a i 4))), St.kinClassMismatch, 0),
       shadowed h s, cond47 s (axes ++ (old.joints.map (fun j => j.axis)) ++ (if car = 0xFFFF then [] else [car])),
       (!s2.ownersFit, St.ownerFull, 0), (!s2.fitsBudget, St.budgetExceeded, 0)])

/-- 0x0302: what refuses ArmSetDynamics, in order (R332). -/
def needsArmSetDynamics (h : Hdr) (a : List Byte) (s : State) : List Test :=
  let n := uAt a 0 2
  let r := s.arm n
  let zero : Fl := {}
  let tests := (List.range r.joints.length).flatMap (fun j =>
    let i := 4 + 60 * j
    [badBetween a i zero (Fl.ofInt 1000), badVec a (i + 4)] ++ inertiaTests a (i + 16) ++ [badBetween a (i + 40) zero (Fl.ofInt 10),
      badBetween a (i + 44) (Fl.roundQ 1 1000 0) (Fl.ofInt 100000), badSign a (i + 48) false, badSign a (i + 52) false, badSign a (i + 56) true])
  ([badSubject a 0 16, (a.length != 4 + 60 * r.joints.length, St.badParam, 32 + 4)] ++ tests ++ [shadowed h s, cfgCell s, armKnown s n])

/-- 0x0303: what refuses ArmSetPayload, in order (R332). -/
def needsArmSetPayload (h : Hdr) (a : List Byte) (s : State) : List Test :=
  let n := uAt a 0 2
  ([badLen a 48, badSubject a 0 16, badBetween a 8 {} (Fl.ofInt 500), badVec a 12] ++ inertiaTests a 24 ++ [shadowed h s, cfgCell s, armKnown s n])

/-- 0x0304: what refuses ArmSetLimits, in order (R332). -/
def needsArmSetLimits (h : Hdr) (a : List Byte) (s : State) : List Test :=
  let n := uAt a 0 2
  let mn := vec3At a 28
  let mx := vec3At a 40
  let tv := uAt a 4 4
  [badLen a 52, badSubject a 0 16, badAt 4 (tv == 0), badAt 8 (uAt a 8 4 == 0), badAt 12 (uAt a 12 4 == 0), badSign a 16 true,
      badSign a 20 true, badSign a 24 true, badVec a 28, badVec a 40,
      badAt 28 (!(decide (mn.x < mx.x) && decide (mn.y < mx.y) && decide (mn.z < mx.z))), shadowed h s, cfgCell s, armKnown s n]

/-- 0x0305: what refuses ArmSetIk, in order (R332). -/
def needsArmSetIk (h : Hdr) (a : List Byte) (s : State) : List Test :=
  let n := uAt a 0 2
  let f (i : Nat) : Nat := store32 (uAt a i 4)
  let q (num den : Nat) : Fl := Fl.roundQ num den 0
  let k : IkParams := { w := (List.range 8).map (fun i => f (4 + 4 * i)), singEps := f 36, singDist := uAt a 40 4, lambdaMax := f 44
                        singPosTol := uAt a 48 4, singRotTol := f 52, ikTolPos := uAt a 56 4, ikTolRot := f 60, conf := uAt a 64 1 }
  let out (i lo hi : Nat) : Test := badAt i (decide (uAt a i 4 < lo ∨ hi < uAt a i 4))
  ([badLen a 65, badSubject a 0 16] ++ (List.range 8).map (fun i => badSign a (4 + 4 * i) true) ++
      [badBetween a 36 (q 1 10000) (q 1 2), out 40 1 100000, badBetween a 44 (q 1 10000) (q 1 1), out 48 1 50000,
       badBetween a 52 (q 1 100000) (q 1 2), out 56 1 10000, badBetween a 60 (q 1 1000000) (q 1 10),
       badAt 64 (decide (7 < k.conf) && k.conf != 0xFF), shadowed h s, cfgCell s, armKnown s n])

/-- 0x0306: what refuses ArmSetTool, in order (R332). -/
def needsArmSetTool (h : Hdr) (a : List Byte) (s : State) : List Test :=
  let n := uAt a 0 2
  [badLen a 8, badSubject a 0 16, badAt 4 (decide (7 < uAt a 4 1)), badZeros a 5 3, shadowed h s, cfgCell s, armKnown s n,
      badState !s.armInRun n, (!s.armStill n, St.armMoving, 0)]

/-- 0x0307: what refuses ArmSetFrame, in order (R332). -/
def needsArmSetFrame (h : Hdr) (a : List Byte) (s : State) : List Test :=
  let n := uAt a 0 2
  let fr := uAt a 4 1
  let r := s.arm n
  let isTool := decide (fr < 8)
  let inUse := if isTool then fr == r.tool else r.gen.cart || r.gen.list.any (fun l => l.work == fr - 16)
  [badLen a 36, badSubject a 0 16, badAt 4 (!(isTool || (decide (16 ≤ fr) && decide (fr < 32))) || fr == 0 || fr == 16), badZeros a 5 3,
      badVec a 8, badQuat a 20, shadowed h s, cfgCell s, armKnown s n, (inUse && !s.armStill n, St.armMoving, 0)]

/-- 0x0308: what refuses ArmSetClaim, in order (R332). -/
def needsArmSetClaim (h : Hdr) (a : List Byte) (s : State) : List Test :=
  let n := uAt a 0 2
  let k := uAt a 4 1
  let r := s.arm n
  let e := 8 + 20 * k
  let tests := (List.range k).flatMap (fun i =>
    [badAt (8 + 20 * i) (decide (r.joints.length < uAt a (8 + 20 * i) 1)), badZeros a (9 + 20 * i) 3, badVec a (12 + 20 * i),
     badAt (24 + 20 * i) (uAt a (24 + 20 * i) 4 == 0 || decide (2000000 < uAt a (24 + 20 * i) 4))])
  ([badSubject a 0 16, badAt 4 (decide (k < 1 ∨ 16 < k)), badZeros a 5 3, (a.length != e + 8, St.badParam, 32 + 8)] ++ tests ++
      [badAt e (decide (100000 < uAt a e 4)), badAt (e + 4) (decide (4096 < uAt a (e + 4) 2)),
       badAt (e + 6) (decide (uAt a (e + 6) 2 < 16 ∨ 256 < uAt a (e + 6) 2)), shadowed h s, armKnown s n, cond47 s r.axes])

/-- 0x0309: what refuses ArmSetMode, in order (R332). -/
def needsArmSetMode (h : Hdr) (a : List Byte) (s : State) : List Test :=
  let n := uAt a 0 2
  let m := uAt a 4 1
  let r := s.arm n
  let collab := match s.glume.block with
    | none => false
    | some b => ((b.arm? n).map (fun g => g.collabEn)).getD false
  [badLen a 8, badSubject a 0 16, badAt 4 (decide (2 < m)), badZeros a 5 3, shadowed h s, cfgCell s, armKnown s n, badState !s.armInRun n,
      badState (m != 0 && r.axes.any (fun b => (s.axis b).mode == 5 || (s.axis b).mode == 6)),
      (m == 2 && !collab, St.safeNotPermitted, 0), (!s.armStill n, St.armMoving, 0)]

/-- 0x030A: what refuses ArmMoveJoint, in order (R332). -/
def needsArmMoveJoint (h : Hdr) (a : List Byte) (s : State) : List Test :=
  let n := uAt a 0 2
  let r := s.arm n
  let nj := r.joints.length
  let dir := uAt a 5 1
  let append := uAt a 4 1 == 1
  let tgs := (List.range nj).map (fun j => sAt a (8 + 8 * j) 8)
  let want (j : Nat) : Nat × Int × Int :=
    let b := (r.joints.getD j {}).axis
    let p := s.planPos b
    (b, p, unwrap (s.axis b).modulo dir p (tgs.getD j 0))
  let wants := (List.range nj).map want
  let range := (List.range nj).map (fun j =>
    let x := s.axis (r.joints.getD j {}).axis
    badAt (8 + 8 * j) (x.modulo != 0 && !(decide (0 ≤ tgs.getD j 0) && decide (tgs.getD j 0 < (x.modulo : Int) * 2 ^ 16))))
  let bars := wants.flatMap (fun w =>
    let d := ((s.axis w.1).softTarget w.2.2 - w.2.1).sign
    [(d != 0 && s.limitBars w.1 d, St.hwLimitActive, 0), (s.outward w.1 d, St.limitActive, 0)])
  ([badSubject a 0 16, (a.length != 8 + 8 * nj, St.badParam, 32 + 8), badAt 4 (decide (1 < uAt a 4 1)), badAt 5 (decide (2 < dir)),
      badAt 6 (decide (0x8000 < uAt a 6 2))] ++ range ++ [shadowed h s, moveCell s (s.armInRun n)] ++ armTests s n false ++ bars ++
      [(append && decide (16 ≤ r.gen.list.length), St.queueFull, 0)])

/-- 0x030B: what refuses ArmMoveCart, in order (R332). -/
def needsArmMoveCart (h : Hdr) (a : List Byte) (s : State) : List Test :=
  let n := uAt a 0 2
  let r := s.arm n
  [badSubject a 0 16, badAt 4 (decide (1 < uAt a 4 1)), badAt 5 (decide (15 < uAt a 5 1)), badAt 6 (decide (7 < uAt a 6 1) && uAt a 6 1 != 0xFF)] ++
    [badLen a 44, badZeros a 7 1, badVec a 8, badQuat a 20, badAt 40 (decide (0x8000 < uAt a 40 2)), badZeros a 42 2] ++ [((s.freeBelow 2).1 == 1, St.unreachable, 0), shadowed h s, moveCell s (s.armInRun n)] ++ armTests s n false ++ cartTests s n ++
    [(uAt a 4 1 == 1 && decide (16 ≤ r.gen.list.length), St.queueFull, 0)]

/-- 0x030C: what refuses ArmMoveArc, in order (R332). -/
def needsArmMoveArc (h : Hdr) (a : List Byte) (s : State) : List Test :=
  let n := uAt a 0 2
  let r := s.arm n
  [badSubject a 0 16, badAt 4 (decide (1 < uAt a 4 1)), badAt 5 (decide (15 < uAt a 5 1)), badAt 6 (decide (7 < uAt a 6 1) && uAt a 6 1 != 0xFF)] ++
    [badLen a 56, badVec a 8, badVec a 20, badQuat a 32, badAt 52 (decide (0x8000 < uAt a 52 2)), badZeros a 54 2,
    (within 10 (vec3At a 8) (vec3At a 20) || (s.freeBelow 2).1 == 1, St.arcDegenerate, 0)] ++ [(((s.freeBelow 2).2.freeBelow 2).1 == 1, St.unreachable, 0), shadowed h s, moveCell s (s.armInRun n)] ++ armTests s n false ++ cartTests s n ++
    [(uAt a 4 1 == 1 && decide (16 ≤ r.gen.list.length), St.queueFull, 0)]

/-- 0x030D: what refuses ArmHold, in order (R332). -/
def needsArmHold (h : Hdr) (a : List Byte) (s : State) : List Test :=
  let n := uAt a 0 2
  [badLen a 8, badSubject a 0 16, badAt 4 (decide (60000000 < uAt a 4 4)), shadowed h s, holdCell s (s.armInRun n) false, armKnown s n, armActive s n]

/-- 0x030E: what refuses ArmResume, in order (R332). -/
def needsArmResume (h : Hdr) (a : List Byte) (s : State) : List Test :=
  let n := uAt a 0 2
  [badLen a 4, badSubject a 0 16, shadowed h s, holdCell s (s.armInRun n) true, armKnown s n, armActive s n, (!s.canResume (1000 + n), St.notHeld, 0)]

/-- 0x030F: what refuses ArmStop, in order (R332). -/
def needsArmStop (h : Hdr) (a : List Byte) (s : State) : List Test :=
  let n := uAt a 0 2
  [badLen a 4, badSubject a 0 16, shadowed h s, holdCell s (s.armInRun n) false, armKnown s n, armActive s n]

/-- 0x0310: what refuses ArmJog, in order (R332). -/
def needsArmJog (h : Hdr) (a : List Byte) (s : State) : List Test :=
  let n := uAt a 0 2
  let r := s.arm n
  let fr := uAt a 4 1
  ([badLen a 44, badSubject a 0 16, badAt 4 (fr != 0xFF && decide (15 < fr)), badZeros a 5 3, badFloat a 20, badFloat a 24, badFloat a 28,
      badSign a 36 false, badAt 40 (decide (16000 < uAt a 40 2)), badZeros a 42 2, shadowed h s, homeCell s (s.armInRun n)] ++ armTests s n true ++
      (if r.mode = 0 then [badState r.singular] else cartTests s n))

/-- 0x0311: what refuses ArmStatus, in order (R332). -/
def needsArmStatus (_ : Hdr) (a : List Byte) (s : State) : List Test :=
  [badLen a 4, badSubject a 0 16, liveCell s]

/-- 0x0401: what refuses AxisBind, in order (R332). -/
def needsAxisBind (h : Hdr) (a : List Byte) (s : State) : List Test :=
  let ax := uAt a 0 2
  let k := uAt a 4 1
  let x := s.axis ax
  let net := s.net (uAt a 6 2)
  let b := bindingOf a
  let s' := (s.setAxis ax { x with binding := b, refValid := false })
  let s' := if x.binding = Binding.none ∧ b ≠ Binding.none then s'.placeAxis ax else s'
  [badLen a 16, badSubject a 0 512, badAt 4 (decide (3 < k)), badZeros a 5 1,
      badAt 6 ((k == 1 || k == 2) && !(decide (uAt a 6 2 < 32) && net.defined)),
      badAt 8 (k == 1 && decide (net.outs.length ≤ uAt a 8 2)), badAt 10 ((k == 1 || k == 2) && decide (net.ins.length ≤ uAt a 10 2)),
      badAt 12 (if k = 2 then decide (23 < uAt a 12 1) else uAt a 12 1 != 0xFF), badZeros a 13 3, shadowed h s, cond47 s [ax],
      badAt 4 (k == 2 && decide (2 < x.divisor)),
      (s.bindConflict ax b, St.bindConflict, 0), (!s'.ownersFit, St.ownerFull, 0), (!s'.fitsBudget, St.budgetExceeded, 0)]

/-- 0x0402: what refuses AxisConfig, in order (R332). -/
def needsAxisConfig (h : Hdr) (a : List Byte) (s : State) : List Test :=
  let ax := uAt a 0 2
  let x := s.axis ax
  let d := uAt a 4 1
  let p := uAt a 5 1
  let md := uAt a 6 1
  let joint := s.armOf ax
  let isDd := match x.binding with
    | .dd _ _ _ => true
    | _ => false
  let d' := if d = 0 then x.divisor else d
  let jointBad := match joint with
    | none => false
    | some n =>
      let r := s.arm n
      d != 0 && !(d == r.divisor && (p == r.phase || (p == 0xFF && r.autoPhase)))
  let width := uAt a 7 1
  let sgn := uAt a 8 1 == 1
  let abs := uAt a 9 1 == 1
  let ofs := sAt a 16 8
  let md64 := uAt a 24 8
  let refKept := x.refValid && x.fbWidth == width && x.fbSigned == sgn && x.abs == abs && x.fbOffset == ofs
  let y := { x with
    fbWidth := width, fbSigned := sgn, abs := abs, jogFrac := uAt a 10 2, jogFracNoref := uAt a 12 2, fbOffset := ofs, modulo := md64
    torquePerAcc := store32 (uAt a 32 4), viscousAux := store32 (uAt a 36 4), coulombAux := store32 (uAt a 40 4), refValid := refKept }
  let y := if joint.isSome then y else
    let y := { y with mandrel := if md = 0xFF then none else some md }
    if d = 0 then y else { y with divisor := d, autoPhase := p == 0xFF, phase := if p = 0xFF then y.phase else p }
  let s' := s.setAxis ax (if d' = x.divisor then y else y.rederive s.tickLen)
  let s' := if joint.isNone ∧ d ≠ 0 ∧ y.binding ≠ Binding.none ∧ (d ≠ x.divisor ∨ y.autoPhase ≠ x.autoPhase ∨ !y.autoPhase) then s'.placeAxis ax else s'
  [badLen a 44, badSubject a 0 512, badAt 4 (!([0, 1, 2, 4, 8, 16].contains d)),
      badAt 5 (d != 0 && p != 0xFF && decide (d ≤ p)), badAt 6 (joint.isNone && md != 0xFF && decide (3 < md)),
      badAt 7 (decide (width < 16 ∨ 64 < width)), badAt 8 (decide (1 < uAt a 8 1)), badAt 9 (decide (1 < uAt a 9 1)),
      badAt 10 (decide (0x8000 < uAt a 10 2)), badAt 12 (decide (0x8000 < uAt a 12 2)), badZeros a 14 2,
      badAt 24 (decide (2 ^ 43 < md64)), badFloat a 32, badFloat a 36, badFloat a 40,
      badAt 4 jointBad, badAt 4 (isDd && decide (2 < d')), badAt 24 (x.lim.softEn && md64 != 0), shadowed h s, cond47 s [ax],
      ((x.notch1.en && x.notch1.form == 0 && !notchFits s.tickLen d' x.notch1) ||
        (x.notch2.en && x.notch2.form == 0 && !notchFits s.tickLen d' x.notch2), St.notchRange, 0),
      (!s'.ownersFit, St.ownerFull, 0), (!s'.fitsBudget, St.budgetExceeded, 0)]

/-- 0x0403: what refuses AxisSetLimits, in order (R332). -/
def needsAxisSetLimits (h : Hdr) (a : List Byte) (s : State) : List Test :=
  let ax := uAt a 0 2
  let x := s.axis ax
  let l := limitsOf a
  [badLen a 65, badSubject a 0 512,
      badAt 4 (decide (l.softMin < -(2 ^ 62 : Int) ∨ l.softMax ≤ l.softMin)), badAt 12 (decide ((2 ^ 62 : Int) < l.softMax)),
      badAt 20 (decide (1 < uAt a 20 1) || (l.softEn && x.modulo != 0)),
      badAt 21 (l.velMax == 0 || decide (2 ^ 63 ≤ l.velMax)), badAt 29 (l.accMax == 0 || decide (2 ^ 63 ≤ l.accMax)),
      badAt 37 (l.decStop == 0 || decide (l.decStop * 16 < l.accMax)), badAt 45 (l.jerkMax == 0),
      badAt 53 (l.torqueMax == 0 || decide (1000000 < l.torqueMax)), badAt 57 (l.followMax == 0), badAt 21 (!l.fit s.tickLen),
      shadowed h s, cfgCell s]

/-- 0x0404: what refuses AxisSetLoop, in order (R332). -/
def needsAxisSetLoop (h : Hdr) (a : List Byte) (s : State) : List Test :=
  let ax := uAt a 0 2
  let x := s.axis ax
  let k := coefsOf a
  let ps := (List.range 11).map (fun i => (4 + 4 * i, pairAt a (4 + 4 * i)))
  let one : Pair := { m := 1 }
  let bad (p : Nat × Pair) : Test :=
    badAt p.1 (!p.2.canonical || decide (p.2.m < 0) || ((p.1 == 16 || p.1 == 36) && !p.2.lt one))
  ([badLen a 50, badSubject a 0 512] ++ ps.map bad ++ [badAt 48 (decide (7 < k.ff)), badAt 49 (decide (3 < k.staleMax)),
      shadowed h s, cfgCell s,
      ((closesPosition x.mode && (k.kp.m == 0 || k.kvp.m == 0)) || (x.mode == 2 && k.kvp.m == 0), St.loopUnset, 0)])

/-- 0x0405: what refuses AxisSetNotch, in order (R332). -/
def needsAxisSetNotch (h : Hdr) (a : List Byte) (s : State) : List Test :=
  let ax := uAt a 0 2
  let x := s.axis ax
  let form := uAt a 6 1
  let raw : Notch := { en := uAt a 5 1 == 1, form := form, f0 := store32 (uAt a 7 4), bw := store32 (uAt a 11 4)
                       depth := store32 (uAt a 15 4), b0 := pairAt a 19, b1 := pairAt a 23, b2 := pairAt a 27
                       a1 := pairAt a 31, a2 := pairAt a 35 }
  let f := Fl.ofBits
  let f0 := f raw.f0
  let range := form == 0 && (!(f 0x3F800000).le f0 || !notchFits s.tickLen x.divisor raw ||
      !((Fl.roundQ 1 100 0).mul f0).le (f raw.bw) || !(f raw.bw).le ((Fl.ofInt 2).mul f0) ||
      !(Fl.ofInt 0).le (f raw.depth) || !(f raw.depth).le (Fl.ofInt 1))
  let canon (i : Nat) : Test := badAt i (!(pairAt a i).canonical)
  ([badLen a 39, badSubject a 0 512, (decide (1 < uAt a 4 1), St.notchRange, 36), (decide (1 < uAt a 5 1), St.notchRange, 37),
      (decide (1 < form), St.notchRange, 38), badFloat a 7, badFloat a 11, badFloat a 15, (range, St.notchRange, 39)] ++
      [canon 19, canon 23, canon 27, canon 31, canon 35] ++
      [(form == 1 && !raw.stable, St.notchUnstable, 32 + 31), shadowed h s, cfgCell s])

/-- 0x0406: what refuses AxisSetMode, in order (R332). -/
def needsAxisSetMode (h : Hdr) (a : List Byte) (s : State) : List Test :=
  let ax := uAt a 0 2
  let m := uAt a 4 1
  let x := s.axis ax
  let joint := (s.groupOf ax).isSome
  let moving := !s.atRest ax
  let brake := x.binding.isDd && x.dd.brakePair != 0xFF
  let isDd := x.binding.isDd
  let s' := if m = x.mode then s
    else if m = 0 then
      if brake then
        let s := s.updAxis ax (fun x => { x with disableAt := some (s.cell.tick + x.dd.brkClose), brakeReq := false })
        { s with glume := { s.glume with release := s.glume.release.filter (· != ax) } }
      else leaveToDisabled ax s
    else enterMode ax m s
  [badLen a 8, badSubject a 0 512, badAt 4 (!([0, 1, 2, 4].contains m)), badZeros a 5 3,
      badAt 4 (m == 4 && x.binding == .virtual), shadowed h s,
      badState (m != 0 && !([3, 4, 5].contains s.cell.state || (s.cell.state == 7 && s.inRun ax))), badState (m == 0 && s.cell.state == 8),
      badState (x.mode == 5), badState (m != 0 && x.binding == Binding.none), badState (joint && (m == 2 || m == 4)),
      badState (x.mode == 0 && m != 0 && (s.cell.role == 3 || !s.stoOn ax)),
      (m != x.mode && !x.loopSet m, St.loopUnset, 0),
      (m != 0 && isDd && (s.motion.pwmN == 0 || x.dd.incPerMrev == 0 || x.dd.vbScale == 0 || x.dd.drvEnPin == 0xFF), St.loopUnset, 0),
      (m != 0 && isDd && x.dd.commOffset.isNone, St.ddNoAlign, 0),
      (m != x.mode && x.mode == 6 && moving, St.axisMoving, 0),
      (m == 0 && x.mode != 0 && joint && !((s.groupOf ax).map s.armStill).getD true, St.armMoving, 0),
      (m == 0 && x.mode != 0 && brake && !x.still, St.axisMoving, 0),
      (!s'.fitsBudget, St.budgetExceeded, 0)]

/-- 0x0407: what refuses AxisMove, in order (R332). -/
def needsAxisMove (h : Hdr) (a : List Byte) (s : State) : List Test :=
  let ax := uAt a 0 2
  let x := s.axis ax
  let append := uAt a 4 1 == 1
  let tg := sAt a 8 8
  let p := s.planPos ax
  let want := unwrap x.modulo (uAt a 5 1) p tg
  let goal := x.softTarget want
  ([badLen a 16, badSubject a 0 512, badAt 4 (decide (1 < uAt a 4 1)), badAt 5 (decide (2 < uAt a 5 1)),
      badAt 6 (decide (0x8000 < uAt a 6 2)), badAt 8 (x.modulo != 0 && !(decide (0 ≤ tg) && decide (tg < (x.modulo : Int) * 2 ^ 16))),
      shadowed h s, moveCell s (s.inRun ax)] ++ motionTests s ax ++
      [hwTest s ax (goal - p).sign, (s.outward ax (goal - p).sign, St.limitActive, 0),
       (append && decide (16 ≤ x.gen.list.length), St.queueFull, 0)])

/-- 0x0408: what refuses AxisMoveVel, in order (R332). -/
def needsAxisMoveVel (h : Hdr) (a : List Byte) (s : State) : List Test :=
  let ax := uAt a 0 2
  let x := s.axis ax
  let v := sAt a 4 8
  ([badLen a 12, badSubject a 0 512, badAt 4 (decide (x.lim.velMax < v.natAbs) && x.lim.velMax != 0), shadowed h s,
      moveCell s (s.inRun ax)] ++ motionTests s ax ++ [hwTest s ax v.sign, (s.outward ax v.sign, St.limitActive, 0)])

/-- 0x0409: what refuses AxisHold, in order (R332). -/
def needsAxisHold (h : Hdr) (a : List Byte) (s : State) : List Test :=
  let ax := uAt a 0 2
  let x := s.axis ax
  [badLen a 8, badSubject a 0 512, badAt 4 (decide (60000000 < uAt a 4 4)), shadowed h s, holdCell s (s.inRun ax) false,
      badState (x.mode == 0), (x.mode == 3, St.following, 0)]

/-- 0x040A: what refuses AxisResume, in order (R332). -/
def needsAxisResume (h : Hdr) (a : List Byte) (s : State) : List Test :=
  let ax := uAt a 0 2
  let o := s.ownerOf ax
  [badLen a 4, badSubject a 0 512, shadowed h s, holdCell s (s.inRun ax) true, badState ((s.axis ax).mode == 0),
      ((s.axis ax).mode == 3, St.following, 0), (!s.canResume o, St.notHeld, 0)]

/-- 0x040B: what refuses AxisStop, in order (R332). -/
def needsAxisStop (h : Hdr) (a : List Byte) (s : State) : List Test :=
  let ax := uAt a 0 2
  [badLen a 4, badSubject a 0 512, shadowed h s, holdCell s (s.inRun ax) false, badState ((s.axis ax).mode == 0)]

/-- 0x040C: what refuses AxisGear, in order (R332). -/
def needsAxisGear (h : Hdr) (a : List Byte) (s : State) : List Test :=
  let ax := uAt a 0 2
  let node := uAt a 4 1
  let m := uAt a 8 2
  let e := uAt a 20 8
  let n := if node = s.cell.node ∧ s.cell.nodeValid then 0xFF else node
  let fast := n == 0xFF && decide (65536 < (((s.axis m).queue.published.head?.or (s.axis m).queue.last).map (fun q => q.vel.natAbs)).getD 0)
  ([badLen a 28, badSubject a 0 512, badAt 0 (s.groupOf ax).isSome, badAt 4 (node != 0xFF && decide (251 < node)), badZeros a 5 3,
      badSubject a 8 512, badAt 16 (uAt a 16 4 == 0), badAt 20 (decide (2 ^ 63 ≤ e)), shadowed h s, moveCell s (s.inRun ax)] ++
      followTests s ax node m ++ [(e == 0 && fast, St.gearStep, 0)])

/-- 0x040D: what refuses AxisCamTable, in order (R332). -/
def needsAxisCamTable (h : Hdr) (a : List Byte) (s : State) : List Test :=
  let t := uAt a 0 2
  let n := uAt a 4 2
  let pts := (List.range n).map (fun i => (sAt a (8 + 20 * i) 8, sAt a (16 + 20 * i) 8, store32 (uAt a (24 + 20 * i) 4)))
  let rising := (pts.zip (pts.drop 1)).all (fun p => decide (p.1.1 < p.2.1))
  let others := ((s.motion.cams.filter (fun p => p.1 != t)).map (fun p => p.2.points.length)).foldl (· + ·) 0
  let used := s.motion.axes.any (fun p => (p.2.gen.follow.map (fun f => f.cam == some t)).getD false)
  [badSubject a 0 64, badAt 4 (decide (n < 2 ∨ 1024 < n)), badZeros a 6 2, (a.length != 8 + 20 * n, St.badParam, 32 + 8),
      badAt 8 (!rising), badAt 24 (pts.any (fun p => !finite32 p.2.2)), shadowed h s, cfgCell s, badState used,
      (decide (16384 < others + n), St.tooMany, 0)]

/-- 0x040E: what refuses AxisCam, in order (R332). -/
def needsAxisCam (h : Hdr) (a : List Byte) (s : State) : List Test :=
  let ax := uAt a 0 2
  let tb := uAt a 4 1
  let node := uAt a 6 1
  let m := uAt a 8 2
  ([badLen a 28, badSubject a 0 512, badAt 0 (s.groupOf ax).isSome, badAt 4 (decide (63 < tb) || (s.cam tb).points == []),
      badAt 5 (decide (1 < uAt a 5 1)), badAt 6 (node != 0xFF && decide (251 < node)), badZeros a 7 1, badSubject a 8 512, shadowed h s,
      moveCell s (s.inRun ax)] ++ followTests s ax node m)

/-- 0x040F: what refuses AxisHome, in order (R332). -/
def needsAxisHome (hd : Hdr) (a : List Byte) (s : State) : List Test :=
  let ax := uAt a 0 2
  let x := s.axis ax
  let h := homingOf a
  let joint := s.groupOf ax
  let moves := decide (h.method ≤ 5)
  let index := h.method == 1 || h.method == 3 || h.method == 4
  let limPin := if h.dir = 0 then x.swNeg.pin else x.swPos.pin
  let inRange (v : Int) : Bool := decide (-(2 ^ 63 : Int) ≤ v) && decide (v < 2 ^ 63)
  let others := match joint with
    | some n => (s.arm n).axes.any (fun b => b != ax && !(s.axis b).still)
    | none => false
  [badLen a 73, badSubject a 0 512, badAt 4 (decide (7 < h.method)), badAt 5 (decide (1 < h.dir)),
      badAt 6 (moves && h.method != 4 && h.method != 5 && (decide (h.searchVel < h.creepVel) || decide (x.lim.velMax < h.searchVel))),
      badAt 14 (moves && (h.creepVel == 0 || decide (x.lim.velMax < h.creepVel))), badAt 22 (moves && h.searchMax == 0),
      badAt 30 (!inRange h.homePos), badAt 38 (!inRange h.moveAfter), badAt 46 (index && decide (7 < h.capPin)),
      badAt 47 (index && h.indexWin == 0), badAt 55 (decide (s.tickLen < h.fbDelay.natAbs)),
      badAt 59 (h.method == 5 && (h.hsTorque == 0 || decide (x.lim.torqueMax < h.hsTorque))), badAt 63 (h.method == 5 && h.hsFollow == 0),
      badAt 71 (h.method == 5 && (h.hsTicks == 0 || decide (4096 < h.hsTicks))),
      badAt 38 (h.method == 5 && decide (0 ≤ h.moveAfter * h.sign)), badAt 4 (h.method == 6 && !x.abs),
      badAt 4 (x.binding == .virtual && h.method != 7),
      badAt 4 ((decide (h.method ≤ 1) && x.swHome.pin == 0xFF) || ((h.method == 2 || h.method == 3) && limPin == 0xFF)),
      badAt 46 (index && (s.cap h.capPin).edge == 0), shadowed hd s, homeCell s (s.inRun ax),
      (x.mode == 3, St.following, 0), badState (x.mode != 1 || x.fault.isSome),
      badState ((joint.map (fun n => (s.arm n).mode != 0)).getD false), (moves && x.lim.velMax == 0, St.limitsUnset, 0),
      (!s.atRest ax, St.axisMoving, 0), (others, St.armMoving, 0), (s.followers ax != [], St.homeHasFollowers, 0),
      (index && ((s.cap h.capPin).homing.map (fun b => b != ax)).getD false, St.homeCaptureBusy, 0)]

/-- 0x0410: what refuses AxisJog, in order (R332). -/
def needsAxisJog (h : Hdr) (a : List Byte) (s : State) : List Test :=
  let ax := uAt a 0 2
  let v := sAt a 4 8
  let step := sAt a 12 8
  ([badLen a 24, badSubject a 0 512, badAt 20 (decide (16000 < uAt a 20 2)), badZeros a 22 2, shadowed h s, homeCell s (s.inRun ax)] ++
      jogTests s ax (if step = 0 then v.sign else step.sign))

/-- 0x0411: what refuses AxisSwitchConfig, in order (R332). -/
def needsAxisSwitchConfig (h : Hdr) (a : List Byte) (s : State) : List Test :=
  let ax := uAt a 0 2
  let pin (i : Nat) : Nat := uAt a i 1
  let taken (p : Nat) : Bool := p != 0xFF && (s.chiselPin p || s.drvPin 512 p)
  let badPin (i : Nat) : Test := badAt i (pin i != 0xFF && decide (127 < pin i))
  [badLen a 13, badSubject a 0 512, badPin 4, badPin 5, badPin 6, badAt 7 (decide (1 < uAt a 7 1)), badAt 8 (decide (1 < uAt a 8 1)),
      badAt 9 (uAt a 9 1 == 0), badAt 10 (uAt a 10 1 == 1), badAt 11 (uAt a 11 2 == 0 || decide (4096 < uAt a 11 2)),
      shadowed h s, cond47 s [ax], (taken (pin 4) || taken (pin 5) || taken (pin 6), St.bindConflict, 0)]

/-- 0x0412: what refuses AxisSwitchClear, in order (R332). -/
def needsAxisSwitchClear (h : Hdr) (a : List Byte) (s : State) : List Test :=
  let p := uAt a 0 2
  let g := s.gpio p
  [badLen a 4, badSubject a 0 128, shadowed h s, cfgCell s, (g.faulty && !g.quiet, St.switchNoisy, 0)]

/-- 0x0413: what refuses AxisDdConfig, in order (R332). -/
def needsAxisDdConfig (h : Hdr) (a : List Byte) (s : State) : List Test :=
  let ax := uAt a 0 2
  let d := ddConfigOf a
  let f (i : Nat) : Fl := Fl.ofBits (uAt a i 4)
  let zero : Fl := {}
  let upTo (i n : Nat) : Bool := !zero.le (f i) || !(f i).le (Fl.ofInt n)
  let beyond (i n : Nat) : Bool := !zero.lt (f i) || !(f i).le (Fl.ofInt n)
  let inp (i : Nat) : Bool := uAt a i 1 != 0xFF && decide (63 < uAt a i 1)
  let floats := [22, 26, 30, 34, 38, 42, 46, 53, 59, 63, 67].map (badFloat a)
  let s' := s.updAxis ax (fun x => { x with dd := d })
  let s' := [d.iaIn, d.ibIn, d.vbIn].foldl State.enableInput s'
  ([badLen a 77, badSubject a 0 512, badAt 4 (decide (2 < d.comm)),
      badAt 5 (d.polePairs == 0 || decide (128 < d.polePairs) || (d.comm == 2 && d.polePairs != 1)), badAt 6 (decide (d.incPerMrev ≤ 0))] ++ floats ++
      [badAt 22 (upTo 22 100), badAt 26 (upTo 26 1), badAt 30 (upTo 30 10), badAt 34 (beyond 34 100),
       badAt 38 (!zero.lt (f 38) || !(f 38).le (f 42)), badAt 42 (beyond 42 150), badAt 46 (!(Fl.round 1 (-1)).le (f 46) || !(f 46).le (Fl.ofInt 1)),
       badAt 50 (inp 50), badAt 51 (inp 51 || (d.comm == 2 && d.ibIn != 0xFF)), badAt 52 (inp 52), badAt 59 (!zero.lt (f 59)),
       badAt 63 (!(Fl.ofInt 5).le (f 63) || !(f 63).lt (f 67)), badAt 67 (!(f 67).le (Fl.ofInt 120)),
       badAt 71 (decide (127 < d.drvEnPin) && d.drvEnPin != 0xFF), badAt 72 (decide (31 < d.brakePair) && d.brakePair != 0xFF),
       shadowed h s, cond47 s [ax],
       (d.drvEnPin != 0xFF && (s.switchPin d.drvEnPin || s.chiselPin d.drvEnPin || s.drvPin ax d.drvEnPin), St.bindConflict, 0),
       (!s'.sequencesFit, St.budgetExceeded, 0)])

/-- 0x0414: what refuses AxisDdPwm, in order (R332). -/
def needsAxisDdPwm (h : Hdr) (a : List Byte) (s : State) : List Test :=
  let s' := { s with motion := { s.motion with pwmN := uAt a 0 1 } }
  [badLen a 4, badAt 0 (!pwmValid s.cell.tickSel (uAt a 0 1)), badZeros a 1 3, shadowed h s, badState (s.cell.state != 2),
      (!s'.sequencesFit, St.budgetExceeded, 0)]

/-- 0x0415: what refuses AxisDdAlign, in order (R332). -/
def needsAxisDdAlign (h : Hdr) (a : List Byte) (s : State) : List Test :=
  let ax := uAt a 0 2
  let x := s.axis ax
  let i := Fl.ofBits (uAt a 4 4)
  [badLen a 12, badSubject a 0 512, badFloat a 4, badAt 4 (!(Fl.ofInt 0).le i || !i.le (Fl.ofBits x.dd.iLimit)),
      badAt 8 (uAt a 8 2 == 0), badZeros a 10 2, shadowed h s, homeCell s (s.inRun ax), badState (!x.binding.isDd || x.mode != 0 || x.align.isSome),
      (((s.armOf ax).map (fun n => !s.armStill n)).getD false, St.armMoving, 0)]

/-- 0x0416: what refuses AxisStatus, in order (R332). -/
def needsAxisStatus (_ : Hdr) (a : List Byte) (s : State) : List Test :=
  [badLen a 4, badSubject a 0 512, liveCell s]

/-- 0x0501: what refuses SafeLoad, in order (R332). -/
def needsSafeLoad (h : Hdr) (a : List Byte) (s : State) : List Test :=
  let o1 := uAt a 4 4
  let o2 := uAt a 8 4
  let n := uAt a 12 4
  let c1 := s.bankOctets (uAt a 0 2) o1 n
  let c2 := s.bankOctets (uAt a 0 2) o2 n
  let same := (c1.zip c2).all (fun p => p.2 == ~~~p.1)
  [badLen a 16, badSubject a 0 64, badBank h a 0 s, badAt 4 (decide (0x80000 < o1 + n)), badAt 8 (decide (0x80000 < o2 + n)),
      badAt 12 (n % 4 != 0 || n == 0 || decide (262144 < n)), shadowed h s, liveCell s, (!same, St.safeCopyMismatch, 0)]

/-- 0x0502: what refuses SafeConfirm, in order (R332). -/
def needsSafeConfirm (h : Hdr) (a : List Byte) (s : State) : List Test :=
  let quiet (u : Nat) : Bool := decide (2 ≤ (s.gunit u).state) || (s.safeAxes u).all (fun ax => (s.axis ax).mode == 0)
  let crc := s.glume.pendingBlock.map (fun p => p.1.crc)
  [badLen a 4, (crc != some (uAt a 0 4), St.safeCrcMismatch, 0), shadowed h s, liveCell s, badState !(s.units.all quiet)]

/-- 0x0503: what refuses SafeStatus, in order (R332). -/
def needsSafeStatus (_ : Hdr) (a : List Byte) (s : State) : List Test :=
  [badLen a 0, liveCell s]

/-- 0x0504: what refuses SafeCounters, in order (R332). -/
def needsSafeCounters (_ : Hdr) (a : List Byte) (s : State) : List Test :=
  [badLen a 0, liveCell s]

/-- 0x0601: what refuses ZoneDefine, in order (R332). -/
def needsZoneDefine (h : Hdr) (a : List Byte) (s : State) : List Test :=
  let en := uAt a 4 1
  let sh := uAt a 5 1
  let big (i : Nat) : Test := badAt i (decide (1000000 < uAt a i 4))
  [badLen a 46, badSubject a 0 4096, badAt 4 (decide (1 < en)), badAt 5 (decide (1 < sh)), badVec a 6, big 18, big 22, big 26,
      (let q := badQuat a 30; (sh == 1 && q.1, q.2)), shadowed h s, badState (s.cell.state != 2), badState (isHost h.port && s.cell.role == 1)]

/-- 0x0602: what refuses ZoneUnblock, in order (R332). -/
def needsZoneUnblock (h : Hdr) (a : List Byte) (s : State) : List Test :=
  let z := uAt a 0 2
  [badLen a 4, badSubject a 0 4096, shadowed h s, liveCell s, (!s.claim.blocked.any (fun b => b.1 == z), St.zoneNotBlocked, 0)]

/-- 0x0603: what refuses ZoneStatus, in order (R332). -/
def needsZoneStatus (_ : Hdr) (a : List Byte) (s : State) : List Test :=
  let k := uAt a 0 2
  [badLen a 4, badAt 0 (uAt a 2 2 != 0 || (k != 0xFFFF && decide (4096 ≤ k))), liveCell s]

/-- 0x0604: what refuses ZoneCounters, in order (R332). -/
def needsZoneCounters (_ : Hdr) (a : List Byte) (s : State) : List Test :=
  let n := uAt a 0 2
  [badLen a 4, badAt 0 (uAt a 2 2 != 0 || (n != 0xFFFF && decide (16 ≤ n))), liveCell s]

/-- 0x0701: what refuses NetPortConfig, in order (R332). -/
def needsNetPortConfig (h : Hdr) (a : List Byte) (s : State) : List Test :=
  let p := uAt a 0 2
  ([badLen a 128, badSubject a 0 12] ++ portWordTests a ++ [shadowed h s, cfgCell s, badState (s.cell.state != 2 && s.portBusy p)])

/-- 0x0702: what refuses NetDefine, in order (R332). -/
def needsNetDefine (h : Hdr) (a : List Byte) (s : State) : List Test :=
  let n := uAt a 0 2
  let en := uAt a 4 1
  let k := if en = 1 then netOf a else { engine := (s.net n).engine }
  let axes := s.boundTo n
  let fields := if en = 1 then netFieldTests a s else []
  ([badLen a (29 + 8 * (uAt a 21 2 + uAt a 23 2) + uAt a 25 2), badSubject a 0 32, badAt 4 (decide (1 < en))] ++ fields ++
      [shadowed h s, cfgCell s, badState ((s.net n).started || axes.any (fun x => (s.axis x).mode != 0)), (en == 1 && imageUnfit k s, St.badParam, 38),
       (en == 1 && s.netConflict n k, St.bindConflict, 0), (en == 1 && s.netTight n k, St.budgetExceeded, 0)])

/-- 0x0703: what refuses NetStart, in order (R332). -/
def needsNetStart (h : Hdr) (a : List Byte) (s : State) : List Test :=
  let n := uAt a 0 2
  let k := s.net n
  [badLen a 4, badSubject a 0 32, shadowed h s, liveCell s, badState !k.defined,
      (!s.canReserve k.engine (s.stored k.image).ctxMax, St.budgetExceeded, 0)]

/-- 0x0704: what refuses NetStop, in order (R332). -/
def needsNetStop (h : Hdr) (a : List Byte) (s : State) : List Test :=
  let n := uAt a 0 2
  [badLen a 4, badSubject a 0 32, shadowed h s, liveCell s, badState (!(s.net n).started || (s.boundTo n).any (fun x => (s.axis x).mode != 0))]

/-- 0x0705: what refuses NetStatus, in order (R332). -/
def needsNetStatus (_ : Hdr) (a : List Byte) (s : State) : List Test :=
  [badLen a 4, badSubject a 0 32, liveCell s]

/-- 0x0706: what refuses NetSnapshot, in order (R332). -/
def needsNetSnapshot (h : Hdr) (a : List Byte) (s : State) : List Test :=
  [badLen a 4, badSubject a 0 12, shadowed h s, liveCell s]

/-- 0x0707: what refuses NetStats, in order (R332). -/
def needsNetStats (_ : Hdr) (a : List Byte) (s : State) : List Test :=
  let w := uAt a 4 1
  [badLen a 8, badSubject a 0 12, badAt 4 (decide (1 < w)), badZeros a 5 3, liveCell s]

/-- 0x0708: what refuses NetAcyclic, in order (R332). -/
def needsNetAcyclic (h : Hdr) (a : List Byte) (s : State) : List Test :=
  let n := uAt a 0 2
  [(decide (a.length < 4), St.badParam, 2), badSubject a 0 32, shadowed h s, liveCell s, badState !(s.net n).started]

/-- 0x0709: what refuses NetMirror, in order (R332). -/
def needsNetMirror (h : Hdr) (a : List Byte) (s : State) : List Test :=
  let n := uAt a 4 1
  [badLen a 11, badSubject a 0 30, badAt 4 (decide (3 < n)), badAt 5 (decide (1 < uAt a 5 1)), badAt 6 (decide (29 < uAt a 6 1)), badAt 7 (decide (1 < uAt a 7 1)),
      badAt 9 (uAt a 9 2 == 0), shadowed h s, cfgCell s]

/-- 0x070A: what refuses NetSchedule, in order (R332). -/
def needsNetSchedule (h : Hdr) (a : List Byte) (s : State) : List Test :=
  let p := uAt a 0 2
  let n := uAt a 4 1
  let g := gateListOf a
  ([badLen a (20 + 8 * n), badSubject a 0 12, badAt 4 (decide (64 < n)), badZeros a 5 3] ++ gateTests a s ++
      [shadowed h s, cfgCell s, badState (!(s.mac p).preemptEn && g.entries.any (fun e => e.2.1 != 0))])

/-- 0x070B: what refuses NetCanConfig, in order (R332). -/
def needsNetCanConfig (h : Hdr) (a : List Byte) (s : State) : List Test :=
  let n := uAt a 0 2
  let ctrl := uAt a 4 4
  let nbt := uAt a 8 4
  let dbt := uAt a 12 4
  let busy := s.nets.any (fun q => q.2.defined && q.2.started && q.2.can == n)
  [badLen a 16, badSubject a 0 4, badAt 4 (field ctrl 17 15 != 0 || decide (64 < field ctrl 10 7)), badAt 12 (field dbt 26 6 != 0),
      badAt 8 (canTimingBad ctrl nbt dbt), shadowed h s, cfgCell s, badState (s.cell.state != 2 && busy)]

/-- 0x0801: what refuses LatheStore, in order (R332). -/
def needsLatheStore (h : Hdr) (a : List Byte) (s : State) : List Test :=
  let bs := s.bankOctets (uAt a 4 2) 0 0x80000
  let r := checkImage bs s
  let why := match r with
    | .inr d => d
    | .inl _ => 0
  [badLen a 8, badSubject a 0 24, (uAt a 6 2 != 0, St.badParam, 38), badBank h a 4 s, shadowed h s, liveCell s,
      (why != 0, St.imageRejected, why), (s.power.inhibit, St.imageRejected, 8)]

/-- 0x0802: what refuses LatheLoad, in order (R332). -/
def needsLatheLoad (h : Hdr) (a : List Byte) (s : State) : List Test :=
  let e := uAt a 0 2
  let n := uAt a 4 2
  let l := s.lathe e
  let r := checkImage (s.image n).octets s
  let why := match r with
    | .inr d => d
    | .inl _ => 0
  let i := match r with
    | .inl i => i
    | .inr _ => {}
  [badLen a 8, badSubject a 0 16, badSubject a 4 24, shadowed h s, liveCell s, badState (l.swapAt.isSome || l.migrating || l.unusable),
      (why != 0, St.imageRejected, why), (!s.canReserve e i.ctxMax || !s.cyclesFit e i.cycTx, St.budgetExceeded, 0)]

/-- 0x0803: what refuses LatheSwap, in order (R332). -/
def needsLatheSwap (h : Hdr) (a : List Byte) (s : State) : List Test :=
  let e := uAt a 0 2
  let l := s.lathe e
  let room := (sealOfs s.cell.tickSel - postDeadline s.cell.tickSel) / 2
  [badLen a 4, badSubject a 0 16, shadowed h s, liveCell s, badState (!l.shadowLoaded || !l.loaded || l.unusable),
      (decide (room < l.shadow.cycMigrate), St.budgetExceeded, 0)]

/-- 0x0804: what refuses LatheStatus, in order (R332). -/
def needsLatheStatus (_ : Hdr) (a : List Byte) (s : State) : List Test :=
  [badLen a 4, badSubject a 0 16, liveCell s]

/-- 0x0805: what refuses LatheCounters, in order (R332). -/
def needsLatheCounters (_ : Hdr) (a : List Byte) (s : State) : List Test :=
  [badLen a 4, badSubject a 0 16, liveCell s]

/-- 0x0806: what refuses LatheTelemetry, in order (R332). -/
def needsLatheTelemetry (_ : Hdr) (a : List Byte) (s : State) : List Test :=
  [badLen a 4, badSubject a 0 16, liveCell s]

/-- 0x0807: what refuses LatheEnrollKey, in order (R332). -/
def needsLatheEnrollKey (h : Hdr) (a : List Byte) (s : State) : List Test :=
  let m := uAt a 0 1
  let rec_ := a.drop 4
  [badAt 0 (decide (1 < m)), (decide (a.length < 4) || (m == 0 && a.length != 4), St.badParam, 2), badZeros a 1 3, shadowed h s,
      badState (s.cell.state != 2), (m == 1 && !Config.keySigned (s.custKey.getD []) rec_, if s.custKey.isNone then St.badParam else St.imageRejected, if s.custKey.isNone then 36 else 3)]

/-- 0x0901: what refuses FabSetKey, in order (R332). -/
def needsFabSetKey (h : Hdr) (a : List Byte) (s : State) : List Test :=
  [badLen a 32, shadowed h s, liveCell s, badState s.inFabric]

/-- 0x0902: what refuses FabJoin, in order (R332). -/
def needsFabJoin (h : Hdr) (a : List Byte) (s : State) : List Test :=
  let n := uAt a 12 2
  let l := (List.range n).map (mapEntryAt a)
  let media (p : Nat) : Test := badAt (8 + p) (!([0, 1, 2, 0xFF].contains (uAt a (8 + p) 1)))
  let update := uAt a 0 1 == 1
  ([badLen a (16 + 20 * n), badAt 0 (decide (1 < uAt a 0 1)), badAt 2 (decide (1 < uAt a 2 1)),
      badAt 3 (decide (3 < uAt a 3 1) || (!update && uAt a 3 1 == 0)), badAt 4 (decide (1 < uAt a 4 1)), badZeros a 5 3,
      media 0, media 1, media 2, media 3, badAt 12 (decide (256 < n)), badZeros a 14 2] ++ (List.range n).flatMap (mapEntryTests a) ++
      [shadowed h s, liveCell s, badState (update && !(s.inFabric && s.fab.master == s.cell.node)),
       badState (!update && (s.inFabric || s.fab.join.stage != 0 || s.fab.key.isNone)), (update && s.movesMember l, St.bindConflict, 0)])

/-- 0x0903: what refuses FabLeave, in order (R332). -/
def needsFabLeave (h : Hdr) (a : List Byte) (s : State) : List Test :=
  [badLen a 0, shadowed h s, liveCell s, badState (!s.inFabric || s.pair.role != 0 || s.fab.master == s.cell.node || !s.allDisabled)]

/-- 0x0904: what refuses FabSchedule, in order (R332). -/
def needsFabSchedule (h : Hdr) (a : List Byte) (s : State) : List Test :=
  let n := uAt a 0 2
  let k := uAt a 2 1
  let t := schedAt a (wrap 32 (s.fab.sched.gen + 1))
  let bad := s.schedBad t.slots
  ([badLen a (4 + 12 * n + 8 * k), badAt 0 (decide (n < 2) || decide (256 < n)), badAt 2 (decide (8 < k)), badZeros a 3 1] ++
      (List.range n).flatMap (slotTests a) ++ (List.range k).flatMap (intTests a n) ++
      [shadowed h s, cfgCell s, badState (!(s.inFabric && s.fab.master == s.cell.node)), (bad.isSome, St.budgetExceeded, bad.getD 0)])

/-- 0x0905: what refuses FabStatus, in order (R332). -/
def needsFabStatus (_ : Hdr) (a : List Byte) (s : State) : List Test :=
  [badLen a 0, liveCell s]

/-- 0x0906: what refuses FabAssignShadow, in order (R332). -/
def needsFabAssignShadow (h : Hdr) (a : List Byte) (s : State) : List Test :=
  let peer := uAt a 0 1
  let n := uAt a 1 1
  let lines := (List.range n).map (lineAt a)
  let m := s.fabNode peer
  let (common, _) := s.freeBelow 2
  ([badLen a (4 + 8 * n), badAt 1 (decide (16 < n)), badZeros a 2 2] ++ (List.range n).flatMap (lineTests a s) ++
      [shadowed h s, liveCell s, badState (!(s.cell.role == 0 || s.cell.role == 1)), (s.pair.role != 0, St.pairBusy, 0),
       (!(m.member && m.role == 3 && m.epoch == s.cell.epoch), St.epochStale, 0), (common != 1, St.replMismatch, 0),
       (!s.schedServes peer || lines.any s.lineTight, St.budgetExceeded, 0)])

/-- 0x0907: what refuses FabReleaseShadow, in order (R332). -/
def needsFabReleaseShadow (h : Hdr) (a : List Byte) (s : State) : List Test :=
  [badLen a 0, shadowed h s, liveCell s, badState (isHost h.port && s.pair.role != 1)]

/-- 0x0908: what refuses FabSwitchover, in order (R332). -/
def needsFabSwitchover (h : Hdr) (a : List Byte) (s : State) : List Test :=
  let (agreed, _) := s.freeBelow 2
  let synced := s.pair.since.isNone && agreed == 1
  [badLen a 0, shadowed h s, liveCell s, badState (isHost h.port && s.pair.role != 1), (isHost h.port && !synced, St.notSynced, 0)]

/-- 0x0909: what refuses FabSetReplLevel, in order (R332). -/
def needsFabSetReplLevel (h : Hdr) (a : List Byte) (s : State) : List Test :=
  let l := uAt a 0 1
  let top := (s.fwSlot s.power.running).replLevel
  let (common, _) := s.freeBelow 2
  let fits := l == top || l + 1 == top
  [badLen a 4, badZeros a 1 3, shadowed h s, liveCell s, badState (isHost h.port && s.pair.role != 1),
      (isHost h.port && !(fits && common == 1), St.replMismatch, 0)]

/-- 0x090A: what refuses FabPairStatus, in order (R332). -/
def needsFabPairStatus (_ : Hdr) (a : List Byte) (s : State) : List Test :=
  [badLen a 0, liveCell s]

/-- 0x090B: what refuses FabSleep, in order (R332). -/
def needsFabSleep (h : Hdr) (a : List Byte) (s : State) : List Test :=
  let m := uAt a 0 32
  let nodes := s.members.filter (bitAt m)
  let me := s.cell.node
  let others := nodes.filter (· != me)
  let (fine, _) := if others = [] then (1, s) else s.freeBelow 2
  let bad := s.fab.sleep.state == 1 || s.fab.sleep.state == 2 || (nodes.contains me && !s.allDisabled) || fine != 1 ||
    (s.pair.role != 0 && nodes.contains me != nodes.contains s.pair.peer) || (nodes.contains me && s.members.any (fun d => !nodes.contains d)) || s.cutsOff nodes
  [badLen a 32, shadowed h s, liveCell s, badState (!(s.inFabric && s.fab.master == me)), badState bad]

/-- 0x090C: what refuses FabWake, in order (R332). -/
def needsFabWake (h : Hdr) (a : List Byte) (s : State) : List Test :=
  [badLen a 0, shadowed h s, liveCell s, badState (!s.inFabric)]

/-- 0x0A01: what refuses TimeConfig, in order (R332). -/
def needsTimeConfig (h : Hdr) (a : List Byte) (s : State) : List Test :=
  let n := uAt a 0 2
  let w := uAt a 4 4
  let units := uAt a 24 4
  let o := uAt a 28 1
  let taken := bitAt units 0 || (s.motion.pwmN != 0 && [1, 2, 3, 4].any (bitAt units ·))
  [badLen a 32, badSubject a 0 8, badAt 4 (field w 20 12 == 0), badAt 28 (!(o == 0x04 || (decide (0x10 ≤ o) && decide (o ≤ 0x1F)) || o == 0xFF)),
      badZeros a 29 3, shadowed h s, liveCell s, badState (n == 0 && s.cell.state != 2), (taken, St.bindConflict, 0)]

/-- 0x0A02: what refuses TimeStatus, in order (R332). -/
def needsTimeStatus (_ : Hdr) (a : List Byte) (s : State) : List Test :=
  [badLen a 4, badSubject a 0 8, liveCell s]

/-- 0x0A03: what refuses TimeCompare, in order (R332). -/
def needsTimeCompare (h : Hdr) (a : List Byte) (s : State) : List Test :=
  let u := uAt a 0 2
  let w := uAt a 4 4
  let t := uAt a 12 8
  let k := s.cmp u
  let far := decide ((s.base k.tb).ns + 2147483647 < t)
  [badLen a 20, badSubject a 0 32, badAt 12 far, shadowed h s, liveCell s,
      (k.owner != 0x04 || u == 0 || (decide (u ≤ 4) && s.motion.pwmN != 0), St.bindConflict, 0),
      (bitAt w 2 && s.pinTaken (64 + field w 6 6), St.bindConflict, 0)]

/-- 0x0A04: what refuses TimeCapture, in order (R332). -/
def needsTimeCapture (h : Hdr) (a : List Byte) (s : State) : List Test :=
  let p := uAt a 0 2
  [badLen a 8, badSubject a 0 8, shadowed h s, liveCell s, ((s.cap p).homing.isSome, St.homeCaptureBusy, 0)]

/-- 0x0A05: what refuses TimeSet, in order (R332). -/
def needsTimeSet (h : Hdr) (a : List Byte) (s : State) : List Test :=
  let n := uAt a 0 2
  let bad := if n = 0 then s.cell.state != 2 || s.inFabric
    else n == 7 || (s.baseLathe n).isSome || (s.base n).servoEn
  [badLen a 16, badSubject a 0 8, badAt 4 (uAt a 10 2 != 0), badAt 12 (decide (1000000000 ≤ uAt a 12 4)), shadowed h s, liveCell s, badState bad]

/-- 0x0B01: what refuses JrnlRead, in order (R332). -/
def needsJrnlRead (_ : Hdr) (a : List Byte) (s : State) : List Test :=
  let f := uAt a 12 2
  [badLen a 16, badAt 12 (f != 0xFFFF && decide (63 < f)), badZeros a 14 2, haltCell s]

/-- 0x0B02: what refuses JrnlMark, in order (R332). -/
def needsJrnlMark (h : Hdr) (a : List Byte) (s : State) : List Test :=
  [badLen a 16, shadowed h s, liveCell s]

/-- 0x0B03: what refuses JrnlCommit, in order (R332). -/
def needsJrnlCommit (h : Hdr) (a : List Byte) (s : State) : List Test :=
  [badLen a 0, shadowed h s, liveCell s, badState s.power.inhibit]

/-- 0x0B04: what refuses JrnlStatus, in order (R332). -/
def needsJrnlStatus (_ : Hdr) (a : List Byte) (s : State) : List Test :=
  [badLen a 0, haltCell s]

/-- 0x0C01: what refuses DiagTickLoad, in order (R332). -/
def needsDiagTickLoad (_ : Hdr) (a : List Byte) (s : State) : List Test :=
  [badLen a 4, badZeros a 2 2, liveCell s]

/-- 0x0C02: what refuses DiagAxisLoop, in order (R332). -/
def needsDiagAxisLoop (_ : Hdr) (a : List Byte) (s : State) : List Test :=
  [badLen a 4, badSubject a 0 512, liveCell s]

/-- 0x0C03: what refuses DiagAxisCounters, in order (R332). -/
def needsDiagAxisCounters (_ : Hdr) (a : List Byte) (s : State) : List Test :=
  [badLen a 4, badSubject a 0 512, liveCell s]

/-- 0x0C04: what refuses DiagTiller, in order (R332). -/
def needsDiagTiller (_ : Hdr) (a : List Byte) (s : State) : List Test :=
  [badLen a 0, liveCell s]

/-- 0x0C05: what refuses DiagBlocks, in order (R332). -/
def needsDiagBlocks (_ : Hdr) (a : List Byte) (s : State) : List Test :=
  [badLen a 0, haltCell s]

/-- 0x0C06: what refuses DiagTelemetry, in order (R332). -/
def needsDiagTelemetry (_ : Hdr) (a : List Byte) (s : State) : List Test :=
  let en := uAt a 0 1
  let n := uAt a 24 2
  ([(a.length != 26 + 2 * n, St.badParam, 58), badAt 0 (decide (1 < en)), badAt 1 (decide (11 < uAt a 1 1)), badAt 2 (decide (63 < uAt a 2 2)),
      badAt 4 (decide (uAt a 4 2 < 16)), badZeros a 12 2, badAt 24 (decide (8 < n))] ++
      (List.range n).map (fun i => badAt (26 + 2 * i) (decide (511 < uAt a (26 + 2 * i) 2))) ++
      [liveCell s, (en == 1 && s.portServes (uAt a 1 1), St.bindConflict, 0)])

/-- 0x0D01: what refuses FwLoad, in order (R332). -/
def needsFwLoad (h : Hdr) (a : List Byte) (s : State) : List Test :=
  [badLen a 12, badSubject a 0 64, badBank h a 0 s, badAt 4 (decide (0x80000 < uAt a 4 4 + uAt a 8 4)), haltCell s, badState s.power.fwWriting]

/-- 0x0D02: what refuses FwActivate, in order (R332). -/
def needsFwActivate (_ : Hdr) (a : List Byte) (s : State) : List Test :=
  [badLen a 0, haltCell s, badState !(s.allDisabled || s.cell.role == 2)]

/-- 0x0D03: what refuses FwStatus, in order (R332). -/
def needsFwStatus (_ : Hdr) (a : List Byte) (s : State) : List Test :=
  [badLen a 0, haltCell s]

end Sys2Proof.Machine
end

