-- ==== Sys2Proof/Safety/Host.lean ====
section
/-! DEFINITION. The shape in which the statements say what a host command does (11_command_interface). -/

namespace Sys2Proof.Machine

/-- A host command as R331 and R332 have it. With arguments that none of its tests refuses it completes, in a state and with a reply
of which `P` holds. Otherwise the first test that fails gives its status and DETAIL, and it has no effect; only the count of free
values may move on. -/
def HostRow (i : Hdr → List Byte → Instr) (code : Nat) (needs : Hdr → List Byte → State → List Test)
    (P : Hdr → List Byte → State → State → Reply → Prop) : Prop :=
  (∀ h a s, Passes (needs h a s) → ∃ t r, exec (i h a) s = .next (t.answer h code a r) ∧ P h a s t r) ∧
  (∀ h a s pre c d post, needs h a s = pre ++ (true, c, d) :: post → Passes pre →
    ∃ n, exec (i h a) s = .next ({ s with freeCount := n }.answer h code a { status := c, detail := d }))

/-- A host command that only returns data. -/
def Reads (i : Hdr → List Byte → Instr) (code : Nat) (needs : Hdr → List Byte → State → List Test)
    (data : Hdr → List Byte → State → List Byte) : Prop :=
  HostRow i code needs (fun h a s t r => t = s ∧ r = { data := data h a s })

/-- A host command that takes effect and returns no data. -/
def Sets (i : Hdr → List Byte → Instr) (code : Nat) (needs : Hdr → List Byte → State → List Test)
    (effect : Hdr → List Byte → State → State) : Prop :=
  HostRow i code needs (fun h a s t r => t = effect h a s ∧ r = {})

end Sys2Proof.Machine
end

