-- ==== Sys2Proof/Safety/Lathe.lean ====
section
/-! DEFINITION. The shapes in which the statements say what an instruction of a Lathe does (12_lathe_engines, 13_lathe_instructions). -/

namespace Sys2Proof.Machine

/-- A result with the flags of a result (R392): Z and N of it, and the C and V given. -/
def resultOf (n r : Nat) (c v : Bool) : Nat × LthFlags := (r, { z := r == 0, n := bitAt r (n - 1), c := c, v := v })

/-- Whether a signed result lies outside `n` bits (R392). -/
def outside (n : Nat) (r : Int) : Bool := !(decide (-(2 ^ (n - 1) : Int) ≤ r) && decide (r < (2 ^ (n - 1) : Int)))

/-- The condition codes of R396 but AL. -/
def holds (cc : Nat) (f : LthFlags) : Bool :=
  [f.z, !f.z, f.c, !f.c, f.n, !f.n, f.v, !f.v, !f.c && !f.z, f.c || f.z, f.n == f.v, f.n != f.v, !f.z && f.n == f.v, f.z || f.n != f.v].getD cc true

/-- The form `d, s`: the result of both operands at the operand size goes to `d` when `w`, with its flags. -/
def RegForm (i : Nat → List Byte → Byte → Instr) (w : Bool) (f : Nat → Nat → Nat → LthFlags → Nat × LthFlags) : Prop :=
  ∀ (e v : Nat) (p : List Byte) (m : Byte) (s : State), Ready e v p { sized := true } 2 s →
    let x := s.lthLevel e v
    let n := 8 * opSize p
    let r := f n ((x.reg (opD m)).toNat % 2 ^ n) ((x.reg (opS m)).toNat % 2 ^ n) x.flags
    Runs (i e p m) s e v (x.retire (nextIp e v p 2 s) p (some r.2) (if w then some (opD m, BitVec.ofNat 32 r.1) else none) none)

/-- The form `d, #i`: the second operand is an immediate of the operand size; the low half of M is zero. -/
def ImmForm (i : Nat → List Byte → Byte → Nat → Instr) (w : Bool) (f : Nat → Nat → Nat → LthFlags → Nat × LthFlags) : Prop :=
  ∀ (e v : Nat) (p : List Byte) (m : Byte) (b : Nat) (s : State), opS m = 0 → Ready e v p { sized := true } (2 + opSize p) s →
    let x := s.lthLevel e v
    let n := 8 * opSize p
    let r := f n ((x.reg (opD m)).toNat % 2 ^ n) (b % 2 ^ n) x.flags
    Runs (i e p m b) s e v
      (x.retire (nextIp e v p (2 + opSize p) s) p (some r.2) (if w then some (opD m, BitVec.ofNat 32 r.1) else none) none)

/-- A shift or rotation by a register count, of which the low 5 bits count. -/
def ShiftForm (i : Nat → List Byte → Byte → Instr) (f : Nat → Nat → Nat → LthFlags → Nat × LthFlags) : Prop :=
  ∀ (e v : Nat) (p : List Byte) (m : Byte) (s : State), Ready e v p { sized := true } 2 s →
    let x := s.lthLevel e v
    let n := 8 * opSize p
    let r := f n ((x.reg (opD m)).toNat % 2 ^ n) ((x.reg (opS m)).toNat % 32) x.flags
    Runs (i e p m) s e v (x.retire (nextIp e v p 2 s) p (some r.2) (some (opD m, BitVec.ofNat 32 r.1)) none)

/-- A shift or rotation by an immediate octet, of which the low 5 bits count. -/
def ShiftImmForm (i : Nat → List Byte → Byte → Byte → Instr) (f : Nat → Nat → Nat → LthFlags → Nat × LthFlags) : Prop :=
  ∀ (e v : Nat) (p : List Byte) (m b : Byte) (s : State), opS m = 0 → Ready e v p { sized := true } 3 s →
    let x := s.lthLevel e v
    let n := 8 * opSize p
    let r := f n ((x.reg (opD m)).toNat % 2 ^ n) (b.toNat % 32) x.flags
    Runs (i e p m b) s e v (x.retire (nextIp e v p 3 s) p (some r.2) (some (opD m, BitVec.ofNat 32 r.1)) none)

/-- The form `d`. -/
def OneForm (i : Nat → List Byte → Byte → Instr) (f : Nat → Nat → LthFlags → Nat × LthFlags) : Prop :=
  ∀ (e v : Nat) (p : List Byte) (m : Byte) (s : State), opS m = 0 → Ready e v p { sized := true } 2 s →
    let x := s.lthLevel e v
    let n := 8 * opSize p
    let r := f n ((x.reg (opD m)).toNat % 2 ^ n) x.flags
    Runs (i e p m) s e v (x.retire (nextIp e v p 2 s) p (some r.2) (some (opD m, BitVec.ofNat 32 r.1)) none)

/-- A bit instruction `d, #b` at 32 bits: Z tells whether the bit was clear, and `f` gives the new register. -/
def BitForm (i : Nat → List Byte → Byte → Byte → Instr) (f : Nat → Nat → Nat) : Prop :=
  ∀ (e v : Nat) (p : List Byte) (m b : Byte) (s : State), opS m = 0 → Ready e v p {} 3 s →
    let x := s.lthLevel e v
    let a := (x.reg (opD m)).toNat
    Runs (i e p m b) s e v (x.retire (nextIp e v p 3 s) p (some { x.flags with z := !bitAt a (b.toNat % 32) })
      (some (opD m, BitVec.ofNat 32 (f a (b.toNat % 32)))) none)

/-! ### Memory -/

/-- The pool offset of an address of the live data half (R354, R356). -/
def livePool (s : State) (e a : Nat) : Nat := (32 + e) * 0x80000 + (s.lathe e).live * 0x40000 + (a - 0x10000000)

/-- `n` octets of the live data half from `a` on, none in an uncorrectable word (R356, R570). -/
def LiveClear (s : State) (e a n : Nat) : Prop :=
  0x10000000 ≤ a ∧ a + n ≤ 0x10040000 ∧ ∀ b, livePool s e a ≤ b → b < livePool s e a + n → s.pool.ueWords.contains (b / 8) = false

/-- An instruction completes with a store of the octets `bs` at pool offset `a`: level `v` of engine `e` becomes `x`; every other octet of
the pool and every other level is as before; the units that watch stores may notice it (R573, R576), and nothing else changes. -/
def Stores (i : Instr) (s : State) (e v : Nat) (x : LthLevel) (a : Nat) (bs : List Byte) : Prop :=
  Does i s (fun t => t.lthLevel e v = x ∧
    (∀ d w, w < 3 → (d, w) ≠ (e, v) → t.lthLevel d w = s.lthLevel d w) ∧
    (∀ b, t.poolByte b = if a ≤ b ∧ b < a + bs.length then bs.getD (b - a) 0 else s.poolByte b) ∧
    Touches [.lathes, .pool, .poolMem, .chk, .out] s t)

/-- A base register after an access with POST: stepped by the operand size (R386). -/
def posted (x : LthLevel) (m a : Byte) (n : Nat) : Option (Nat × Word) :=
  if postInc a then some (opS m, x.reg (opS m) + BitVec.ofNat 32 n) else none

end Sys2Proof.Machine
end

