-- ==== Sys2Proof/Safety/Rows.lean ====
section
/-! DEFINITION. What the statements about single rows are said with: when an engine is ready, what a telegram must be, how an exception leaves a
level, and the readings of the state that several statements share. -/

namespace Sys2Proof.Machine

/-! ### Axes and arms -/

/-- Two states differ in due phases alone (R49, R50). -/
def SameButPhases (s t : State) : Prop :=
  (∀ m, { t.arm m with phase := 0 } = { s.arm m with phase := 0 }) ∧ (∀ b, { t.axis b with phase := 0 } = { s.axis b with phase := 0 }) ∧
  Touches [.motion] s t

/-- A binary32 argument as it is stored (R62). -/
def fAt (a : List Byte) (i : Nat) : Nat := store32 (uAt a i 4)

/-! ### The tick -/

/-- Whether a committed change of the tick length takes effect at the next edge (R14). -/
def State.changesNow (s : State) : Bool := match s.cell.change with
  | some c => decide (c.2 ≤ s.cell.nextEdge)
  | none => false

/-- The GTC of the next tick edge (R14). -/
def State.opensAt (s : State) : Nat := if s.changesNow then (s.cell.change.getD (0, 0)).2 else s.cell.nextEdge

/-- The tick length in ns from the next tick edge on (R14). -/
def State.openLen (s : State) : Nat := if s.changesNow then tickNs (s.cell.change.getD (0, 0)).1 else s.tickLen

/-! ### The Chisels -/

/-- Engine `k` executes its next word: it runs, holds for nothing, and its PC is in the store (R409, R412; log entry 13). -/
def ChsReady (k : Nat) (s : State) : Prop :=
  k < 64 ∧ (s.chsEngine k).run = true ∧ (s.chsEngine k).hold = .none ∧ (s.chsEngine k).pc < 24

/-- Engine `k` becomes `r`, and nothing else changes. -/
def EngineBecomes (i : Instr) (k : Nat) (s : State) (r : ChsRun) : Prop := Does i s (fun t => t = s.setEngine k r)

/-! ### The CAN FD controllers -/

/-- Controller `n` becomes `c`, and nothing else changes. -/
def CanBecomes (i : Instr) (n : Nat) (s : State) (c : Can) : Prop := Does i s (fun t => t = s.setCan n c)

/-! ### The MACs -/

/-- Event `i` of port `p` is counted once, and nothing else changes. -/
def CountsAt (i : Instr) (p n : Nat) (s : State) : Prop := Does i s (fun t =>
  Table.get 0 (t.mac p).counters n = wrap 64 (Table.get 0 (s.mac p).counters n + 1) ∧
  (∀ m, m ≠ n → Table.get 0 (t.mac p).counters m = Table.get 0 (s.mac p).counters m) ∧ (∀ q, q ≠ p → t.mac q = s.mac q) ∧ Touches [.macs] s t)

/-! ### The Glume -/

/-- A cause is present on a unit of the Glume (R206). -/
def State.hasCause (s : State) (u cause : Nat) : Prop := cause ∈ (s.gunit u).causes.map Prod.fst

/-- A field of a safety telegram, most significant octet first (R209). -/
def be (bs : List Byte) (i n : Nat) : Nat := ofBE (octets bs i n)

/-- The length and the check of a telegram are right (R210, R211). -/
def Intact (bs : List Byte) : Prop :=
  bs.length = 16 + be bs 10 2 ∧ be bs 10 2 ≤ 1480 ∧ be bs (12 + be bs 10 2) 4 = telegramCheck (be bs 0 2) (be bs 6 2) (bs.take (12 + be bs 10 2))

/-- The telegram is addressed to the block and has the type of its source (R211). -/
def Addressed (b : GlmBlock) (k : Nat) (bs : List Byte) : Prop :=
  be bs 2 2 = b.addr ∧ be bs 4 1 = (if (b.sources.getD k {}).kind = 0 then 1 else 2)

/-- The sequence number is ahead of the last one by 1 to the block's window (R211). -/
def InSequence (b : GlmBlock) (last : Option Nat) (seq : Nat) : Prop :=
  ∀ q, last = some q → (seq + 65536 - q) % 65536 ≠ 0 ∧ (seq + 65536 - q) % 65536 ≤ b.seqWin

/-- The age given is within the source's bound (R211). -/
def FreshEnough (b : GlmBlock) (k : Nat) (bs : List Byte) : Prop :=
  be bs 8 2 ≤ (if (b.sources.getD k {}).kind = 1 then (b.sources.getD k {}).maxAgeUs else 1000)

/-- The body of a JOINT_STATE telegram is well formed (R213). -/
def JointsFormed (b : GlmBlock) (k : Nat) (bs : List Byte) : Prop :=
  be bs 5 1 = 0 ∧ 1 ≤ be bs 12 1 ∧ be bs 12 1 ≤ 32 ∧ be bs 10 2 = 2 + 14 * be bs 12 1 ∧
  ∀ i, i < be bs 12 1 → ∃ a ∈ b.arms, ∃ j ∈ a.joints, j.axis = be bs (14 + 14 * i) 2 ∧ j.src = k

/-! ### Exceptions of the Lathes -/

/-- The engine once level `v` has taken an exception while its exceptions were enabled (R401): the load before it has landed, cause, trap
number and operands are recorded, EN is clear and IP is the handler; `addr` and `next` are LTH_XADDR and LTH_XNEXT. -/
def Lathe.excepted (l : Lathe) (v cause trap : Nat) (blk : Bool) (addr data next : Nat) : Lathe :=
  { l.setLevel v { (l.level v).land with
      xcause := cause, trapNo := trap, inBlk := blk, xaddr := BitVec.ofNat 32 addr, xdata := BitVec.ofNat 32 data
      xnext := BitVec.ofNat 32 next, xen := false, ip := BitVec.ofNat 32 (l.level v).handler } with
    exceptions := wrap 32 (l.exceptions + 1) }

/-- An instruction ends in an exception of its level and changes nothing else. -/
def Excepts (i : Instr) (s : State) (e v cause trap : Nat) (blk : Bool) (data next : Nat) : Prop :=
  Does i s (fun t => t.lathe e = (s.lathe e).excepted v cause trap blk (s.lthLevel e v).ip.toNat data next ∧
    (∀ d, d ≠ e → t.lathe d = s.lathe d) ∧ Touches [.lathes] s t)

/-- An instruction whose octet `k` after the prefixes is illegal: exception ILLEGAL at the octet (R385, R401). -/
def Illegal (i : Instr) (s : State) (e v : Nat) (p : List Byte) (k : Nat) : Prop :=
  Excepts i s e v 1 0 false 0 ((s.lthLevel e v).ip.toNat + p.length + k + 1)

/-! ### Memory of the Lathes -/

/-- The octets at an address of the live data half. -/
def liveAt (s : State) (e a n : Nat) : List Byte := s.memGet (livePool s e a) n

/-! ### The stack of the Lathes -/

/-- What a call stores: the return address below the masked registers, the lowest register next to it (R397). -/
def callFrame (x : LthLevel) (mask : BitVec 16) (next : Nat) : List Byte :=
  toLE 4 next ++ ((List.range 16).filter (bitAt mask.toNat)).flatMap (fun r => toLE 4 (x.reg r).toNat)

/-- Octets of the stack that a call moves or a return reads. -/
def frameLen (mask : BitVec 16) : Nat := 4 * (1 + ((List.range 16).filter (bitAt mask.toNat)).length)

/-- `n` octets above or below g12 lie in the stack range, word aligned, in no uncorrectable word (R402). -/
def StackClear (s : State) (e g12 a n : Nat) : Prop := g12 % 4 = 0 ∧ 0x10002000 ≤ a ∧ a + n ≤ 0x10040000 ∧ LiveClear s e a n

/-! ### Instructions and blocks of the Lathes -/

/-- The engine and the prefix octets of an instruction of a Lathe; none for every other command. -/
def latheInstr : Instr → Option (Nat × List Byte)
  | .lthNop e p => some (e, p)
  | .lthEnd e p => some (e, p)
  | .lthIdle e p => some (e, p)
  | .lthRetx e p => some (e, p)
  | .lthTrap e p _ => some (e, p)
  | .lthMov e p _ => some (e, p)
  | .lthMovi e p _ _ => some (e, p)
  | .lthAdd e p _ => some (e, p)
  | .lthAddi e p _ _ => some (e, p)
  | .lthAdc e p _ => some (e, p)
  | .lthSub e p _ => some (e, p)
  | .lthSubi e p _ _ => some (e, p)
  | .lthSbc e p _ => some (e, p)
  | .lthCmp e p _ => some (e, p)
  | .lthCmpi e p _ _ => some (e, p)
  | .lthAnd e p _ => some (e, p)
  | .lthAndi e p _ _ => some (e, p)
  | .lthOr e p _ => some (e, p)
  | .lthOri e p _ _ => some (e, p)
  | .lthXor e p _ => some (e, p)
  | .lthXori e p _ _ => some (e, p)
  | .lthTst e p _ => some (e, p)
  | .lthTsti e p _ _ => some (e, p)
  | .lthShl e p _ => some (e, p)
  | .lthShli e p _ _ => some (e, p)
  | .lthShr e p _ => some (e, p)
  | .lthShri e p _ _ => some (e, p)
  | .lthSar e p _ => some (e, p)
  | .lthSari e p _ _ => some (e, p)
  | .lthRol e p _ => some (e, p)
  | .lthRoli e p _ _ => some (e, p)
  | .lthNot e p _ => some (e, p)
  | .lthNeg e p _ => some (e, p)
  | .lthMul e p _ => some (e, p)
  | .lthMuli e p _ _ => some (e, p)
  | .lthBswap e p _ => some (e, p)
  | .lthExt e p _ _ _ => some (e, p)
  | .lthBtst e p _ _ => some (e, p)
  | .lthBset e p _ _ => some (e, p)
  | .lthBclr e p _ _ => some (e, p)
  | .lthLd e p _ _ _ => some (e, p)
  | .lthLds e p _ _ _ => some (e, p)
  | .lthSt e p _ _ _ => some (e, p)
  | .lthLea e p _ _ _ => some (e, p)
  | .lthXchg e p _ _ _ => some (e, p)
  | .lthCas e p _ _ => some (e, p)
  | .lthSti e p _ _ _ _ => some (e, p)
  | .lthPush e p _ => some (e, p)
  | .lthPop e p _ => some (e, p)
  | .lthBccRel8 e p _ _ => some (e, p)
  | .lthBccRel16 e p _ _ => some (e, p)
  | .lthJmp e p _ => some (e, p)
  | .lthJmpa e p _ => some (e, p)
  | .lthCall e p _ _ => some (e, p)
  | .lthCallr e p _ _ => some (e, p)
  | .lthRet e p _ => some (e, p)
  | .lthBlkCopy e p _ _ => some (e, p)
  | .lthBlkFill e p _ _ _ => some (e, p)
  | .lthBlkMatch e p _ _ => some (e, p)
  | .lthBlkSeek e p _ _ _ => some (e, p)
  | .lthBlkGather e p _ _ => some (e, p)
  | _ => none

/-- How far an element moves its register: up by the operand size, down with DN (R398). -/
def stepOf (p : List Byte) : Word := if p.contains 0xE3 then -(BitVec.ofNat 32 (opSize p)) else BitVec.ofNat 32 (opSize p)

/-- The flags of the comparison of two elements, as of a subtraction (R398). -/
def compared (n a b : Nat) : LthFlags := (resultOf n ((a + 2 ^ n - b) % 2 ^ n) (decide (a < b)) (outside n (toS n a - toS n b))).2

/-- The control octet of a block instruction is legal (R398). -/
def GoodK (b : Byte) (compares : Bool) : Prop :=
  b.toNat < 0x40 ∧ field b.toNat 4 2 ≠ 3 ∧ (field b.toNat 4 2 ≠ 0 → compares = true ∧ bitAt b.toNat 3 = true)

/-- A level once an element of a repeated block instruction has counted g13 down and the load before has landed (R398, R391). -/
def LthLevel.counted (x : LthLevel) : LthLevel := (x.setReg 13 (x.reg 13 - 1)).land

end Sys2Proof.Machine
end

