-- ==== Sys2Proof/Certificates/Slice0/Obligations.lean ====
section
/-! DEFINITION. The statements for the provers, from the numbered rules of spec/: first the step, the reset and what holds over all commands, then
the commands family by family. A HostRow, Reads or Sets clause says the refusals of R332 as well; `Does` says that the command completes. -/

open Sys2Proof Sys2Proof.Machine

/-- A step takes the command at the front of the queue, first in first out. -/
def Obligations.StepRunsTheFrontCommand : Prop :=
  ∀ (c : Instr) (q : List Instr) (s : State), s.pending = c :: q → step s = exec c { s with pending := q }

/-- On an empty queue one cycle of the 250 MHz time clock passes (log entry 1, the model's choice of when time passes): every base adds 4 ns and its ADJ (R486), and
nothing else changes. -/
def Obligations.EmptyQueueLetsOneClockCyclePass : Prop :=
  ∀ s : State, s.pending = [] → ∃ t, step s = .next t ∧ t.time.clk = s.time.clk + 1 ∧ Touches [.time] s t ∧
    ∀ k, k < 8 → t.base k = { s.base k with val := (((s.base k).val + (4 * 2 ^ 40 + (s.base k).adj)) % (2 ^ 48 * 10 ^ 9 * 2 ^ 40 : Int)).toNat }

/-- After power-on and after every reset of the device the tick length is 62.5 us, TICK = 1 (R10), and every axis has no binding, divisor 1, automatic due phase,
the owner by default, mode DISABLED and the limits of R72's reset column, and no arm is defined (R45). -/
def Obligations.ResetLeavesTickLengthAndUnboundAxes : Prop :=
  ∀ cause (s : State), ∀ t ∈ [State.reset, deviceReset cause s],
    t.cell.tickSel = 1 ∧ t.tickLen = 62500 ∧
    (∀ a, a < 512 → (t.axis a).binding = .none ∧ (t.axis a).divisor = 1 ∧ (t.axis a).autoPhase = true ∧ (t.axis a).mandrel = none ∧
      t.mandrelOf a = a / 128 ∧ (t.axis a).mode = 0 ∧ (t.axis a).lim.softMin = -(2 ^ 46 * 2 ^ 16) ∧ (t.axis a).lim.softMax = 2 ^ 46 * 2 ^ 16 ∧
      (t.axis a).lim.softEn = false ∧ (t.axis a).lim.velMax = 0 ∧ (t.axis a).lim.accMax = 0 ∧ (t.axis a).lim.decStop = 0 ∧
      (t.axis a).lim.jerkMax = 0 ∧ (t.axis a).lim.torqueMax = 100000 ∧ (t.axis a).lim.followMax = 0x00007FFFFFFFFFFF) ∧
    (∀ n, n < 16 → (t.arm n).defined = false)

/-- The state after reset (R302, R354, R403, R452, R566, R572, R612, R636, R664): cell state BOOT, every bank with Sheaf core 0, nothing bound, locked, loaded, running or waiting,
and the memory in its canonical form. -/
def Obligations.ResetStateHoldsWhatTheSpecGives : Prop :=
  let t := State.reset
  t.cell.state = 1 ∧ t.cell.ready = false ∧ t.gtc = 0 ∧ (∀ b, b < 64 → (t.bank b).owner = 0) ∧ t.mbx.bindLocked = false ∧
  (∀ e, e < 16 → (t.lathe e).loaded = false ∧ (t.lathe e).running = none ∧ (t.lathe e).live = 0) ∧
  (∀ g, g < 8 → (t.chisel g).en = 0 ∧ (t.chisel g).owner = none) ∧ (∀ n, n < 32 → (t.net n).defined = false) ∧
  t.glume.block = none ∧ (∀ p, p < 32 → (t.safeOut p).high = false ∧ (t.safeOut p).low = false) ∧ t.tap.ir = 1 ∧ t.tap.dr = 0x28860A3F ∧
  t.pending = [] ∧ t.out = [] ∧ Memory.wf t

/-- The contents of the bank pool keep their canonical form over every step: addresses strictly rising, no entry equal to what an unlisted octet reads as. -/
def Obligations.EveryStepKeepsTheMemoryForm : Prop :=
  ∀ s t : State, Memory.wf s → step s = .next t → Memory.wf t

/-- The fused minimum security version never falls, whatever step the device takes, a reset included (R626). -/
def Obligations.MinimumSecurityVersionNeverFalls : Prop :=
  ∀ s t : State, step s = .next t → s.power.minSecVer ≤ t.power.minSecVer

/-- The frame of every command: each part of the state that `framed` does not list for it is as before, so are the queue, the memory's canonical form
and the bound of the minimum security version. -/
def Obligations.EveryCommandKeepsWhatItDoesNotTouch : Prop :=
  ∀ (i : Instr) (s t : State), exec i s = .next t → Touches (framed i) s t

/-- State that few commands may change (R11, R198, R246, R293, R302, R626, R637): the cell state, the tick grid, the epoch, the active safety block, the hardware cut of the
safe outputs, the minimum security version and the lock of the mailbox bindings change in a step only by the commands named for each. No instruction of a Lathe reaches the cell, power
and reset, the safety monitor, claims, the fabric, the pair, the networks, the image store, the key record or the retained records (R356). -/
def Obligations.ProtectedStateChangesOnlyByNamedCommands : Prop :=
  (∀ (i : Instr) (q : List Instr) (s t : State), s.pending = i :: q → step s = .next t →
    (t.cell.state ≠ s.cell.state → movesCellState i = true) ∧
    ((t.cell.tickSel, t.cell.nextEdge, t.cell.change) ≠ (s.cell.tickSel, s.cell.nextEdge, s.cell.change) → movesGrid i = true) ∧
    (t.cell.epoch ≠ s.cell.epoch → movesEpoch i = true) ∧
    (t.glume.block ≠ s.glume.block → movesBlock i = true) ∧
    (t.glume.cut ≠ s.glume.cut → movesCut i = true) ∧
    (t.power.minSecVer ≠ s.power.minSecVer → movesMinSecVer i = true) ∧
    (t.mbx.bindLocked ≠ s.mbx.bindLocked → movesBindLock i = true)) ∧
  (∀ (i : Instr) (e : Nat) (p : List Byte) (s t : State), latheInstr i = some (e, p) → exec i s = .next t →
    t.cell = s.cell ∧ t.power = s.power ∧ t.tap = s.tap ∧ t.claim = s.claim ∧ t.glume = s.glume ∧ t.fab = s.fab ∧ t.pair = s.pair ∧ t.nets = s.nets ∧
    t.images = s.images ∧ t.custKey = s.custKey ∧ t.kept = s.kept ∧ t.jrnl.retained = s.jrnl.retained)

/-- A well-formed command completes in every state; no command is ever refused, and the only fault is the name of a unit that the device does not have. -/
def Obligations.WellFormedCommandsComplete : Prop :=
  (∀ (i : Instr) (s : State), i.wf = true → ∃ t, exec i s = .next t) ∧
  (∀ (i : Instr) (s : State), (∃ t, exec i s = .next t) ∨ (∃ n, exec i s = .fault (.noSuchUnit n)))

/-- SYS commands (R347): what each returns or sets, and that the first failing test of R332 alone decides a refusal. -/
def Obligations.SysCommandsReportAndSetTheirPort : Prop :=
  Reads .sysIdentify 0x0101 needsSysIdentify
    (fun h _ s => toLE 4 s.devId ++ toLE 4 s.fwWord ++ toLE 4 (s.nodeWord h.port) ++ toLE 16 s.cell.uid) ∧
  HostRow .sysHostSetup 0x0102 needsSysHostSetup (fun h a s t r =>
    r = {} ∧ (t.port h.port).share = uAt a 0 2 ∧
    (∀ b, b < 64 → bitAt (t.port h.port).banks b = bitAt (uAt a 4 8) b) ∧
    (∀ b, b < 64 → bitAt (uAt a 4 8) b = true → bitAt (s.port h.port).banks b = false →
      (t.bank b).owner = h.port ∧ (t.bank b).pending = false ∧ b ∈ (t.port h.port).creditsDue) ∧
    (∀ b, bitAt (uAt a 4 8) b = false ∨ bitAt (s.port h.port).banks b = true → t.bank b = s.bank b) ∧
    (isHost h.port = true → t.port (9 - h.port) = s.port (9 - h.port))) ∧
  Reads .sysStatus 0x0103 needsSysStatus (fun h _ s =>
    let p := s.port h.port
    toLE 2 ((s.others h).length + 1) ++ toLE 2 p.share ++ toLE 4 p.credit ++ toLE 4 (queuedWords p.queue) ++ toLE 4 p.eventsLost ++
      toLE 4 p.protoErrors ++ toLE 4 p.rolled ++ toLE 8 p.held) ∧
  HostRow .sysCancel 0x0104 needsSysCancel (fun h a s t r =>
    let hit (c : HostCmd) : Prop := c.stage = .held ∧ c.hdr.port = h.port ∧ c.hdr.tag = uAt a 0 2 ∧ s.cell.edge < c.commitAt
    ((∃ c ∈ s.host.cmds, hit c) → r = {} ∧ ∀ c ∈ s.host.cmds, hit c →
      { c with stage := .replied, commitTick := 0, reply := { status := St.cancelled } } ∈ t.host.cmds) ∧
    ((∀ c ∈ s.host.cmds, ¬ hit c) → r = { status := St.notPending } ∧ t = s) ∧
    (∀ c ∈ s.host.cmds, ¬ hit c → c ∈ t.host.cmds) ∧ t.host.cmds.length = s.host.cmds.length) ∧
  HostRow .sysEventMask 0x0105 needsSysEventMask (fun h a s t r =>
    r = {} ∧ (t.port h.port).mask = uAt a 0 2 ∧ t = s.setPort h.port { s.port h.port with mask := (t.port h.port).mask }) ∧
  HostRow .sysReset 0x0106 needsSysReset (fun _ _ s t r =>
    r = {} ∧ t.power.resetAt = some (s.gtc + 10000000, 3) ∧ t = { s with power := { s.power with resetAt := t.power.resetAt } })

/-- CELL commands (R13, R14, R343 to R347, R637). Whether the other devices of a fabric are in CONFIG is free (log entry 41), as is the
number of a new transaction among those not open (log entry 42). -/
def Obligations.CellCommandsChangeTickStateAndTransactions : Prop :=
  HostRow .cellSetTick 0x0201 needsCellSetTick (fun _ a s t r =>
    let at_ := changeEdge s.cell.edge
    at_ % 1000000 = 0 ∧ s.cell.edge + 2000000 ≤ at_ ∧ at_ < s.cell.edge + 3000000 ∧
    r = { data := toLE 8 at_ } ∧ t.cell.change = some (uAt a 0 1, at_) ∧ t.cell.tickSel = s.cell.tickSel ∧
    Touches [.cell, .grid, .fab, .freeCount] s t ∧ t.cell = { s.cell with change := t.cell.change }) ∧
  HostRow .cellSetState 0x0202 needsCellSetState (fun _ a s t r =>
    r = {} ∧ t.cell.state = uAt a 0 1 ∧ (uAt a 0 1 = s.cell.state → uAt a 0 1 ≠ 7 → t = s)) ∧
  Reads .cellStatus 0x0203 needsCellStatus (fun _ _ s =>
    toLE 1 s.cell.state ++ toLE 1 s.cell.tickSel ++ toLE 1 s.cell.role ++ toLE 1 s.glumeState ++ toLE 4 s.cell.epoch ++
      toLE 8 (s.cell.tick - 1) ++ toLE 2 s.cell.armRun ++ toLE 64 s.cell.axisRun) ∧
  HostRow .cellTxnBegin 0x0204 needsCellTxnBegin (fun h a s t r => isHost h.port = true →
    ∃ id, 0 < id ∧ id < 65536 ∧ (∀ x ∈ s.host.txns, x.id ≠ id) ∧ r = { data := toLE 2 id } ∧
      t.host.txns = s.host.txns ++ [{ id := id, port := h.port, timeoutMs := if uAt a 0 4 = 0 then 10000 else uAt a 0 4, lastAt := s.gtc }]) ∧
  HostRow .cellTxnCommit 0x0205 needsCellTxnCommit (fun h a s t r =>
    let id := uAt a 0 2
    let ms := s.membersOf h.port id
    let ordered := ms.filter (fun m => firstPass m.2.1) ++ ms.filter (fun m => !firstPass m.2.1)
    (∀ tag st, (applyMembers ms s).2 = some (tag, st) →
      t = s.closeTxn id ∧ r = { status := St.txnFailed, detail := tag, data := toLE 2 st }) ∧
    ((applyMembers ms s).2 = none → (applyMembers ordered s).2 = none → t = (applyMembers ordered s).1.closeTxn id ∧ r = {}) ∧
    (r.status = St.txnFailed → t = s.closeTxn id) ∧ (∀ x ∈ t.host.txns, x.id ≠ id)) ∧
  HostRow .cellTxnAbort 0x0206 needsCellTxnAbort (fun _ a s t r =>
    r = {} ∧ t.host.txns = s.host.txns.filter (fun x => x.id != uAt a 0 2) ∧ t = { s with host := { s.host with txns := t.host.txns } })

/-- ARM configuration commands (R63 to R70, R74, R75, R116, R254, R348, R644): the arm named takes what the arguments say, and no other
arm, axis or part of the state changes but where the rule says so. -/
def Obligations.ArmConfigurationCommandsSetTheirArm : Prop :=
  HostRow .armDefine 0x0301 needsArmDefine (fun _ a s t r =>
    let n := uAt a 0 2
    let js := (List.range (uAt a 4 1)).map (jointAt a)
    let car := uAt a 12 2
    r = {} ∧ ∃ u, SameButPhases u t ∧ Touches [.motion] s u ∧ (∀ m, m ≠ n → u.arm m = s.arm m) ∧
      (u.arm n).defined = true ∧ (u.arm n).joints = js ∧ (u.arm n).kclass = uAt a 5 1 ∧
      (u.arm n).mandrel = (if uAt a 6 1 = 0xFF then n / 4 else uAt a 6 1) ∧ (u.arm n).divisor = uAt a 7 1 ∧
      (u.arm n).autoPhase = (uAt a 8 1 == 0xFF) ∧ (u.arm n).carrier = car ∧ (u.arm n).base = { pos := vec3At a 16, rot := quatAt a 28 } ∧
      (u.arm n).carrierDir = (if car = 0xFFFF then {} else dirAt a 44) ∧ (u.arm n).carrierScale = fAt a 56 ∧
      (u.arm n).home = { pos := vec3At a 60, rot := quatAt a 72 } ∧
      (u.arm n).delta = (if uAt a 5 1 = 4 ∨ uAt a 5 1 = 5 then [fAt a 88, fAt a 92, fAt a 96, fAt a 100] else [0, 0, 0, 0]) ∧
      (∀ j ∈ js, (u.axis j.axis).divisor = uAt a 7 1) ∧ (∀ b, (∀ j ∈ js, j.axis ≠ b) → u.axis b = s.axis b)) ∧
  HostRow .armSetDynamics 0x0302 needsArmSetDynamics (fun _ a s t r =>
    let n := uAt a 0 2
    r = {} ∧ t = s.setArm n { s.arm n with joints := (List.range (s.arm n).joints.length).map (fun j =>
      let i := 4 + 60 * j
      { (s.arm n).joints.getD j {} with
        mass := fAt a i, com := vec3At a (i + 4), inertia := inertiaAt a (i + 16), rotor := fAt a (i + 40), gear := fAt a (i + 44)
        viscous := fAt a (i + 48), coulomb := fAt a (i + 52), rated := fAt a (i + 56) }) }) ∧
  HostRow .armSetPayload 0x0303 needsArmSetPayload (fun _ a s t r =>
    let n := uAt a 0 2
    let next := wrap 32 (s.nextStamp (1000 + n))
    ∃ p : Payload, p.mass = fAt a 8 ∧ p.com = vec3At a 12 ∧ p.inertia = inertiaAt a 24 ∧
      t = s.setArm n { s.arm n with payloads := (s.arm n).payloads.filter (fun q => decide (toS 32 (q.stamp + 2 ^ 32 - p.stamp) < 0)) ++ [p] } ∧
      ((p.stamp = uAt a 4 4 ∧ r = {}) ∨
        (p.stamp = next ∧ 0 < toS 32 (next + 2 ^ 32 - uAt a 4 4) ∧ r = { status := St.payloadLate, detail := next }))) ∧
  HostRow .armSetLimits 0x0304 needsArmSetLimits (fun _ a s t r =>
    let n := uAt a 0 2
    let q := s.arm n
    let slower := q.gen.cart = true ∧ q.gen.moving = true ∧ (uAt a 4 4 < q.tcpVel ∨ (Fl.ofBits (uAt a 16 4)).lt (Fl.ofBits q.rotVel) = true)
    (¬ slower → r = {} ∧ t = s.setArm n { q with
      tcpVel := uAt a 4 4, tcpAcc := uAt a 8 4, tcpJerk := uAt a 12 4, rotVel := fAt a 16, rotAcc := fAt a 20, rotJerk := fAt a 24
      workMin := vec3At a 28, workMax := vec3At a 40 }) ∧
    (slower → r = { status := St.limitLowered })) ∧
  HostRow .armSetIk 0x0305 needsArmSetIk (fun _ a s t r =>
    let n := uAt a 0 2
    r = {} ∧ t = s.setArm n { s.arm n with ik := {
      w := (List.range 8).map (fun i => fAt a (4 + 4 * i)), singEps := fAt a 36, singDist := uAt a 40 4, lambdaMax := fAt a 44
      singPosTol := uAt a 48 4, singRotTol := fAt a 52, ikTolPos := uAt a 56 4, ikTolRot := fAt a 60, conf := uAt a 64 1 } }) ∧
  HostRow .armSetTool 0x0306 needsArmSetTool (fun _ a s t r =>
    r = {} ∧ t = s.setArm (uAt a 0 2) { s.arm (uAt a 0 2) with tool := uAt a 4 1 }) ∧
  HostRow .armSetFrame 0x0307 needsArmSetFrame (fun _ a s t r =>
    let n := uAt a 0 2
    let f := uAt a 4 1
    let v : Frame := { pos := vec3At a 8, rot := quatAt a 20 }
    r = {} ∧ (f < 8 → t = s.setArm n { s.arm n with tools := Table.set {} (s.arm n).tools f v }) ∧
    (8 ≤ f → t = s.setArm n { s.arm n with works := Table.set {} (s.arm n).works (f - 16) v })) ∧
  HostRow .armSetClaim 0x0308 needsArmSetClaim (fun _ a s t r =>
    let n := uAt a 0 2
    let k := uAt a 4 1
    let e := 8 + 20 * k
    r = {} ∧ t = s.setArm n { s.arm n with
      spheres := (List.range k).map (fun i => { link := uAt a (8 + 20 * i) 1, center := vec3At a (12 + 20 * i), radius := uAt a (24 + 20 * i) 4 })
      claimMargin := uAt a e 4, claimTail := uAt a (e + 4) 2, claimLead := uAt a (e + 6) 2 }) ∧
  HostRow .armSetMode 0x0309 needsArmSetMode (fun _ a s t r =>
    let n := uAt a 0 2
    r = {} ∧ t = s.setArm n { s.arm n with mode := uAt a 4 1, modeWait := (s.arm n).modeWait || uAt a 4 1 != (s.arm n).mode })

/-- ARM motion commands (R91, R95, R98 to R101, R107, R108, R195): what each puts into force on the arm, and what the reply says. Whether a
target pose has a solution, and the pose in a status, are free (log entry 25). -/
def Obligations.ArmMotionCommandsPlanHoldAndStop : Prop :=
  HostRow .armMoveJoint 0x030A needsArmMoveJoint (fun _ a s t r =>
    let n := uAt a 0 2
    let nj := (s.arm n).joints.length
    let seg : ListSeg := { targets := (List.range nj).map (fun j => sAt a (8 + 8 * j) 8), modDir := uAt a 5 1, speed := speedAt a 6 }
    r = {} ∧ (t.arm n).singular = false ∧ ∃ u, Touches [.jrnl, .host, .wnw] s u ∧
      t = (commandArm n (uAt a 4 1 == 1) seg u).updArm n (fun x => { x with
        singular := false, status := if x.status = St.singularityStop ∨ x.status = St.jointLimitStop then 0 else x.status })) ∧
  HostRow .armMoveCart 0x030B needsArmMoveCart (fun _ a s t r =>
    let n := uAt a 0 2
    let seg : ListSeg := { kind := 1, work := uAt a 5 1, conf := uAt a 6 1, pos := vec3At a 8, rot := quatAt a 20, blend := uAt a 36 4, speed := speedAt a 40 }
    r = {} ∧ t = (commandArm n (uAt a 4 1 == 1) seg { s with freeCount := s.freeCount + 1 }).updArm n
      (fun x => { x with status := if x.status = St.jointLimitStop then 0 else x.status })) ∧
  HostRow .armMoveArc 0x030C needsArmMoveArc (fun _ a s t r =>
    let n := uAt a 0 2
    let seg : ListSeg := { kind := 2, work := uAt a 5 1, conf := uAt a 6 1, turns := uAt a 7 1, via := vec3At a 8, pos := vec3At a 20, rot := quatAt a 32
                           blend := uAt a 48 4, speed := speedAt a 52 }
    r = {} ∧ t = (commandArm n (uAt a 4 1 == 1) seg { s with freeCount := s.freeCount + 2 }).updArm n
      (fun x => { x with status := if x.status = St.jointLimitStop then 0 else x.status })) ∧
  HostRow .armHold 0x030D needsArmHold (fun _ a s t r =>
    let o := 1000 + uAt a 0 2
    let m := s.genAt o (s.sealedCount o)
    t = (holdOwner o (uAt a 4 4) s).1 ∧ (r = {} ∨ r = { status := St.holdKept }) ∧
    (m.held = false → m.moving = false → t = s ∧ r = { status := St.holdKept }) ∧ (m.held = false → m.moving = true → r = {})) ∧
  HostRow .armResume 0x030E needsArmResume (fun _ a s t r => r = {} ∧ t = resumeOwner (1000 + uAt a 0 2) s) ∧
  HostRow .armStop 0x030F needsArmStop (fun _ a s t r =>
    let n := uAt a 0 2
    r = {} ∧ (t.arm n).jogUntil = none ∧ t = (stopOwner (1000 + n) s).updArm n (fun x => { x with jogUntil := none })) ∧
  HostRow .armJog 0x0310 needsArmJog (fun _ a s t r =>
    let n := uAt a 0 2
    let keep := if uAt a 40 2 = 0 then 3200 else uAt a 40 2
    r = {} ∧ (uAt a 32 4 = 0 → (Fl.ofBits (uAt a 36 4)).m = 0 → (t.arm n).jogUntil = some (s.cell.tick + keep)) ∧
    (uAt a 32 4 ≠ 0 ∨ (Fl.ofBits (uAt a 36 4)).m ≠ 0 → (t.arm n).jogUntil = none) ∧
    ((s.arm n).mode = 0 → ∃ w, t = s.setArm n { s.arm n with jogUntil := w })) ∧
  HostRow .armStatus 0x0311 needsArmStatus (fun _ a s t r =>
    let n := uAt a 0 2
    let x := s.arm n
    let q := s.ownQueue (1000 + n)
    let scale := ((q.entries.head?.or q.last).map (fun e => e.scale)).getD 0x8000
    t = { s with freeCount := s.freeCount + 1 } ∧ ∃ pose : List Byte, pose.length = 28 ∧
      r = { data := toLE 1 x.mode ++ toLE 1 (s.gunit n).state ++ toLE 1 x.tool ++ toLE 1 0 ++ toLE 2 x.status ++ toLE 2 scale ++
        toLE 2 x.gen.list.length ++ q.marks ++ pose })

/-- AXIS configuration commands (R45 to R51, R56, R71 to R75, R122, R144 to R150, R160, R162, R174, R179): the axis named, or the table or pin,
takes what the arguments say; no other part of the state changes but where the rule says so. -/
def Obligations.AxisConfigurationCommandsSetTheirAxis : Prop :=
  HostRow .axisBind 0x0401 needsAxisBind (fun _ a s t r =>
    let x := uAt a 0 2
    let u := s.setAxis x { s.axis x with binding := bindingOf a, refValid := false }
    r = {} ∧ SameButPhases u t ∧ ((s.axis x).binding ≠ .none ∨ bindingOf a = .none → t = u)) ∧
  HostRow .axisConfig 0x0402 needsAxisConfig (fun _ a s t r =>
    let x := uAt a 0 2
    r = {} ∧ ∃ y, SameButPhases (s.setAxis x y) t ∧ y.fbWidth = uAt a 7 1 ∧ y.fbSigned = (uAt a 8 1 == 1) ∧ y.abs = (uAt a 9 1 == 1) ∧
      y.jogFrac = uAt a 10 2 ∧ y.jogFracNoref = uAt a 12 2 ∧ y.fbOffset = sAt a 16 8 ∧ y.modulo = uAt a 24 8 ∧
      y.torquePerAcc = fAt a 32 ∧ y.viscousAux = fAt a 36 ∧ y.coulombAux = fAt a 40 ∧ y.mode = (s.axis x).mode ∧
      (y.refValid = true → (s.axis x).refValid = true) ∧
      (s.armOf x = none → y.mandrel = (if uAt a 6 1 = 0xFF then none else some (uAt a 6 1)) ∧
        (uAt a 4 1 ≠ 0 → y.divisor = uAt a 4 1 ∧ y.autoPhase = (uAt a 5 1 == 0xFF))) ∧
      ((s.armOf x).isSome = true ∨ uAt a 4 1 = 0 → y.divisor = (s.axis x).divisor ∧ y.phase = (s.axis x).phase)) ∧
  HostRow .axisSetLimits 0x0403 needsAxisSetLimits (fun _ a s t r =>
    let x := uAt a 0 2
    let u := s.setAxis x { s.axis x with lim := limitsOf a }
    let slow := slowTo (u.ownerOf x) x u
    t = softStop (slow.1.ownerOf x) x slow.1 ∧ r = { status := if slow.2 = true then St.limitLowered else 0 }) ∧
  HostRow .axisSetLoop 0x0404 needsAxisSetLoop (fun _ a s t r =>
    let x := uAt a 0 2
    let y := s.axis x
    r = {} ∧ t = s.setAxis x { y with coef := coefsOf a, loop := if y.mode = 0 then y.loop else y.loop.rescale y.coef (coefsOf a) }) ∧
  HostRow .axisSetNotch 0x0405 needsAxisSetNotch (fun _ a s t r =>
    let x := uAt a 0 2
    ∃ n : Notch, n.en = (uAt a 5 1 == 1) ∧ n.form = uAt a 6 1 ∧ n.f0 = fAt a 7 ∧ n.bw = fAt a 11 ∧ n.depth = fAt a 15 ∧
      (uAt a 6 1 ≠ 0 → n.b0 = pairAt a 19 ∧ n.b1 = pairAt a 23 ∧ n.b2 = pairAt a 27 ∧ n.a1 = pairAt a 31 ∧ n.a2 = pairAt a 35) ∧
      t = s.setAxis x (if uAt a 4 1 = 0 then { s.axis x with notch1 := n } else { s.axis x with notch2 := n }) ∧
      r = { data := n.b0.octets ++ n.b1.octets ++ n.b2.octets ++ n.a1.octets ++ n.a2.octets }) ∧
  HostRow .axisCamTable 0x040D needsAxisCamTable (fun _ a s t r =>
    r = {} ∧ t = s.setCam (uAt a 0 2) { points := (List.range (uAt a 4 2)).map (fun i =>
      (sAt a (8 + 20 * i) 8, sAt a (16 + 20 * i) 8, fAt a (24 + 20 * i))) }) ∧
  HostRow .axisSwitchConfig 0x0411 needsAxisSwitchConfig (fun _ a s t r =>
    let x := uAt a 0 2
    r = {} ∧ t = s.setAxis x { s.axis x with
      swHome := { pin := uAt a 4 1, pol := uAt a 7 1 }, swNeg := { pin := uAt a 5 1, pol := uAt a 8 1 }
      swPos := { pin := uAt a 6 1, pol := uAt a 8 1 }, filt := uAt a 9 1, chatN := uAt a 10 1, chatW := uAt a 11 2 }) ∧
  HostRow .axisSwitchClear 0x0412 needsAxisSwitchClear (fun _ a s t r =>
    let p := uAt a 0 2
    r = {} ∧ (t.gpio p).faulty = false ∧ (∀ q, q ≠ p → t.gpio q = s.gpio q) ∧ ((s.gpio p).faulty = false → t = s)) ∧
  HostRow .axisDdConfig 0x0413 needsAxisDdConfig (fun _ a s t r =>
    let x := uAt a 0 2
    let d := ddConfigOf a
    r = {} ∧ t.axis x = { s.axis x with dd := d } ∧ (∀ b, b ≠ x → t.axis b = s.axis b) ∧
    (∀ i ∈ [d.iaIn, d.ibIn, d.vbIn], i < 64 → bitAt (t.adc (i / 16)).inputEn (i % 16) = true) ∧ Touches [.motion] s t) ∧
  HostRow .axisDdPwm 0x0414 needsAxisDdPwm (fun _ a s t r =>
    r = {} ∧ t = { s with motion := { s.motion with pwmN := uAt a 0 1 } }) ∧
  Reads .axisStatus 0x0416 needsAxisStatus (fun _ a s =>
    let x := s.axis (uAt a 0 2)
    toLE 1 x.mode ++ toLE 1 x.homeState ++ toLE 1 (bitIf 0 x.refValid) ++ toLE 1 x.loop.outFlags ++ toLE 2 x.status ++ toLE 2 0 ++
      toLEs 8 (x.reduced x.loop.fbPos) ++ toLEs 8 (x.reduced (s.targetOf (uAt a 0 2))) ++ toLEs 8 x.revPoint ++ toLEs 8 x.overshoot ++
      x.queue.marks ++ toLEs 4 x.loop.outTorque)

/-- AXIS motion commands (R88 to R102, R121 to R123, R151, R166, R185 to R195): what each puts into force on the axis named. -/
def Obligations.AxisMotionCommandsPlanHoldAndCouple : Prop :=
  HostRow .axisSetMode 0x0406 needsAxisSetMode (fun _ a s t r =>
    let x := uAt a 0 2
    let m := uAt a 4 1
    let brake := (s.axis x).binding.isDd = true ∧ (s.axis x).dd.brakePair ≠ 0xFF
    r = {} ∧ (m = (s.axis x).mode → t = s) ∧
    (m ≠ 0 → (t.axis x).mode = m) ∧
    (m = 0 → m ≠ (s.axis x).mode → ¬ brake → (t.axis x).mode = 0 ∧ (t.axis x).brakeReq = false) ∧
    (m = 0 → m ≠ (s.axis x).mode → brake →
      t.axis x = { s.axis x with disableAt := some (s.cell.tick + (s.axis x).dd.brkClose), brakeReq := false })) ∧
  HostRow .axisMove 0x0407 needsAxisMove (fun _ a s t r =>
    let x := uAt a 0 2
    let app := uAt a 4 1 = 1
    let seg : ListSeg := { targets := [sAt a 8 8], modDir := uAt a 5 1, speed := speedAt a 6 }
    let want := unwrap (s.axis x).modulo (uAt a 5 1) (s.planPos x) (sAt a 8 8)
    let goal := (s.axis x).softTarget want
    r = {} ∧ (app → t = s.updGen x (fun m => { m with list := m.list ++ [seg] })) ∧
    (¬ app → s.brakeWait x = true → t = s.updGen x (fun m => { m with list := [seg] })) ∧
    (¬ app → s.brakeWait x = false → goal = want → t = planTo x goal false ((s.axis x).lim.plan s.tickLen (speedAt a 6)) s) ∧
    (¬ app → s.brakeWait x = false → goal ≠ want →
      t = planTo x goal true ((s.axis x).lim.plan s.tickLen (speedAt a 6)) (s.event (30 + s.mandrelOf x) 0x8402 x (toLEs 8 want)))) ∧
  HostRow .axisMoveVel 0x0408 needsAxisMoveVel (fun _ a s t r => r = {} ∧ t = planSpeed (uAt a 0 2) (sAt a 4 8) s) ∧
  HostRow .axisHold 0x0409 needsAxisHold (fun _ a s t r =>
    let o := s.ownerOf (uAt a 0 2)
    let m := s.genAt o (s.sealedCount o)
    t = (holdOwner o (uAt a 4 4) s).1 ∧ (r = {} ∨ r = { status := St.holdKept }) ∧
    (m.held = false → m.moving = false → t = s ∧ r = { status := St.holdKept }) ∧ (m.held = false → m.moving = true → r = {})) ∧
  HostRow .axisResume 0x040A needsAxisResume (fun _ a s t r => r = {} ∧ t = resumeOwner (s.ownerOf (uAt a 0 2)) s) ∧
  HostRow .axisStop 0x040B needsAxisStop (fun _ a s t r => r = {} ∧ (t.axis (uAt a 0 2)).jogUntil = none ∧ t = stopAxis (uAt a 0 2) s) ∧
  HostRow .axisGear 0x040C needsAxisGear (fun _ a s t r =>
    let x := uAt a 0 2
    let node := if uAt a 4 1 = s.cell.node ∧ s.cell.nodeValid then 0xFF else uAt a 4 1
    r = {} ∧ (t.axis x).mode = 3 ∧ t = engage x { node := node, master := uAt a 8 2, num := sAt a 12 4, den := uAt a 16 4, engage := uAt a 20 8 } s) ∧
  HostRow .axisCam 0x040E needsAxisCam (fun _ a s t r =>
    let x := uAt a 0 2
    let node := if uAt a 6 1 = s.cell.node ∧ s.cell.nodeValid then 0xFF else uAt a 6 1
    r = {} ∧ (t.axis x).mode = 3 ∧ t = engage x { node := node, master := uAt a 8 2, cam := some (uAt a 4 1), periodic := uAt a 5 1 == 1
                                                  mOfs := sAt a 12 8, fOfs := sAt a 20 8 } s) ∧
  HostRow .axisHome 0x040F needsAxisHome (fun _ a s t r =>
    let x := uAt a 0 2
    let h := homingOf a
    r = {} ∧ t = beginHoming x h s ∧
    (5 < h.method → (t.axis x).mode = 5 ∧ (t.axis x).refValid = false ∧ (t.axis x).homeState = 6 ∧
      (∀ b, b ≠ x → t.axis b = s.axis b) ∧ Touches [.motion] s t)) ∧
  HostRow .axisJog 0x0410 needsAxisJog (fun _ a s t r =>
    let x := uAt a 0 2
    let v := sAt a 4 8
    let step := sAt a 12 8
    let lim := (s.axis x).jogLimit
    let keep := if uAt a 20 2 = 0 then 3200 else uAt a 20 2
    (v.natAbs ≤ lim → r = {} ∧ t = jogAxis x v step keep s) ∧
    (lim < v.natAbs → r = { status := St.jogClamped } ∧ t = jogAxis x (v.sign * lim) step keep s) ∧
    (step ≠ 0 → (t.axis x).jogUntil = none)) ∧
  HostRow .axisDdAlign 0x0415 needsAxisDdAlign (fun _ a s t r =>
    let x := uAt a 0 2
    r = { later := true } ∧ (t.axis x).align = some (uAt a 4 4, s.cell.tick + uAt a 8 2) ∧ (t.axis x).driving = true ∧
    (t.axis x).brakeReq = ((s.axis x).dd.brakePair != 0xFF) ∧ (∀ b, b ≠ x → t.axis b = s.axis b) ∧ Touches [.motion, .glume] s t)

/-- Events of axes (R166, R167, R171, R172, R178, R187, R188, R190, R194): each takes its effect on the axis, arm, pin or converter named while
the condition that makes it stands; without that condition nothing changes. -/
def Obligations.AxisEventsTakeEffectOnTheirAxis : Prop :=
  (∀ pin sum s, pin < 128 → Does (.switchChatter pin sum) s (fun t => Touches [.motion, .jrnl, .host, .wnw, .claim, .glume, .freeCount, .time] s t)) ∧
  (∀ a s h p, a < 512 → (s.axis a).homing = some h → h.home = some p → (s.axis a).homeState = 6 → s.atRest a = true → h.moveAfter = 0 →
    Does (.homingShift a) s (fun t => (t.axis a).fbOffset = (s.axis a).fbOffset + (h.homePos - p) ∧ (t.axis a).refValid = true)) ∧
  (∀ a s, a < 512 → (s.axis a).homeState ∈ [1, 2, 4, 5] → Does (.homeNotFound a) s (fun t => t = failHoming a St.homeNotFound s)) ∧
  (∀ a s, a < 512 → (s.axis a).homeState = 5 → Does (.homeNoIndex a) s (fun t => t = failHoming a St.homeNoIndex s)) ∧
  (∀ a s, a < 512 → (s.axis a).jogUntil.isSome = true → Does (.jogTimeout a) s (fun t => (t.axis a).jogUntil = none)) ∧
  (∀ n s, n < 16 → (s.arm n).jogUntil.isSome = true → Does (.jogTimeout (0x1000 + n)) s (fun t => (t.arm n).jogUntil = none)) ∧
  (∀ a s, a < 512 → Does (.brakeOpenWait a) s (fun t => t = s.setAxis a { s.axis a with brakeUntil := none })) ∧
  (∀ a s, a < 512 → (s.axis a).disableAt.isSome = true → Does (.brakeCloseWait a) s (fun t =>
    (t.axis a).mode = 0 ∧ (t.axis a).brakeReq = false ∧ a ∉ t.glume.release ∧ Touches [.motion, .glume] s t)) ∧
  (∀ a s, a < 512 → (s.axis a).align.isSome = true → Does (.ddAlignComplete a) s (fun t =>
    (t.axis a).align = none ∧ (t.axis a).driving = false ∧ (t.axis a).brakeReq = false ∧ (t.axis a).dd.commOffset = some (s.axis a).loop.fbPos ∧
    (∀ b, b ≠ a → t.axis b = s.axis b) ∧ a ∉ t.glume.release)) ∧
  (∀ c i code s, c < 4 → bitAt (s.adc c).inputEn i = true →
    s.motion.axes.any (fun q => q.2.trips (16 * c + i) ((s.calib c).correct (code % 65536))) = false →
    Does (.conversionComplete c i code) s (fun t =>
      Table.get 0 (t.adc c).next i = (s.calib c).correct (code % 65536) + 1 ∧ (∀ d, d ≠ c → t.adc d = s.adc d) ∧ Touches [.motion] s t)) ∧
  (∀ c i code s, c < 4 → bitAt (s.adc c).inputEn i = false → Does (.conversionComplete c i code) s (fun t => t = s)) ∧
  (∀ a s, a < 512 → (s.axis a).align = none → Does (.ddAlignComplete a) s (fun t => t = s)) ∧
  (∀ a s, a < 512 → (s.axis a).disableAt = none → Does (.brakeCloseWait a) s (fun t => t = s))

/-- SAFE and ZONE commands (R245, R246, R248, R252, R268, R271, R272): the pending block, the confirmation, the zone, and what the readings
return. The octet layouts of SAFE.STATUS and SAFE.COUNTERS are the model's (log entry 38). -/
def Obligations.SafeAndZoneCommandsLoadConfirmAndDefine : Prop :=
  HostRow .safeLoad 0x0501 needsSafeLoad (fun _ a s t r =>
    let c := s.bankOctets (uAt a 0 2) (uAt a 4 4) (uAt a 12 4)
    r.later = true ∧
    (∀ b, parseBlock c = .ok b → t = { s with glume := { s.glume with pendingBlock := some (b, s.gtc) } } ∧ r.status = 0 ∧ r.data = toLE 4 b.crc) ∧
    (∀ n, parseBlock c = .error n → t = s ∧ r.status = St.safeParam ∧ r.detail = n) ∧ t.glume.block = s.glume.block) ∧
  HostRow .safeConfirm 0x0502 needsSafeConfirm (fun _ a s t r =>
    r = {} ∧ ∃ b g, s.glume.pendingBlock = some (b, g) ∧ b.crc = uAt a 0 4 ∧
      t = { s with glume := { s.glume with confirmed := some b } } ∧ t.glume.block = s.glume.block) ∧
  Reads .safeStatus 0x0503 needsSafeStatus (fun _ _ s => toLE 4 s.block.id ++ toLE 4 s.block.crc ++ s.units.flatMap s.unitReport) ∧
  Reads .safeCounters 0x0504 needsSafeCounters (fun _ _ s => s.safeCounters) ∧
  HostRow .zoneDefine 0x0601 needsZoneDefine (fun _ a s t r =>
    let half (i : Nat) : Nat := if uAt a i 4 = 0 then 1 else uAt a i 4
    let z : Zone := if uAt a 4 1 = 0 then {} else
      { en := true, shape := uAt a 5 1, center := vec3At a 6, half := (half 18, half 22, half 26), rot := if uAt a 5 1 = 0 then {} else quatAt a 30 }
    r = {} ∧ (s.otherNodes = [] → t = s.setZone (uAt a 0 2) z) ∧
    (s.otherNodes ≠ [] → t.fab.changes = s.fab.changes ++ [(s.cell.tick + 1, CellCfg.zone (uAt a 0 2) z)] ∧ t.claim = s.claim)) ∧
  HostRow .zoneUnblock 0x0602 needsZoneUnblock (fun _ a s t r =>
    r = {} ∧ (∀ b ∈ t.claim.blocked, b.1 ≠ uAt a 0 2) ∧ (∀ b ∈ s.claim.blocked, b.1 ≠ uAt a 0 2 → b ∈ t.claim.blocked) ∧
    t = (unblockZone (uAt a 0 2) s).claimMsg (.unblock (uAt a 0 2))) ∧
  Reads .zoneStatus 0x0603 needsZoneStatus (fun _ a s =>
    let named := (s.claim.claims.flatMap (fun c => c.zones)) ++ Table.keys s.claim.blocked
    toLE 4 s.zoneCrc ++ (if uAt a 0 2 = 0xFFFF then (List.range 4096).filter (named.contains ·) else [uAt a 0 2]).flatMap s.zoneRecords) ∧
  Reads .zoneCounters 0x0604 needsZoneCounters (fun _ a s =>
    let k := s.claimCount (uAt a 0 2)
    if uAt a 0 2 = 0xFFFF then toLE 4 s.claim.revoked ++ toLE 4 s.claim.blockedCount
    else toLE 4 k.requests ++ toLE 4 k.deferred ++ toLE 4 k.claimWaits ++ toLE 4 k.holdovers ++ toLE 4 k.crossed)

/-- JRNL and DIAG commands (R43, R130, R156, R351, R591, R600, R614, R615, R622, R623). The sequence number that leads a reply without
records is free (log entry 44); the layout of DIAG.TILLER is the model's (log entry 30). -/
def Obligations.JournalAndDiagnosisCommandsRecordAndReport : Prop :=
  HostRow .jrnlRead 0x0B01 needsJrnlRead (fun _ a s t r =>
    let start := if uAt a 0 8 = 2 ^ 64 - 1 then 0 else uAt a 0 8
    let f := uAt a 12 2
    let l := (s.jrnl.held.filter (fun p => decide (start ≤ p.1) && (f == 0xFFFF || p.2.source % 64 == f))).take (uAt a 8 4)
    r.status = 0 ∧ r.later = true ∧ (l ≠ [] → t = s) ∧ (∃ n, t = { s with freeCount := n }) ∧
    ∃ first, (∀ p ∈ l.head?, first = p.1) ∧
      r.data = toLE 8 first ++ toLE 4 l.length ++ toLE 4 0 ++ l.flatMap (fun p => p.2.octets p.1)) ∧
  HostRow .jrnlMark 0x0B02 needsJrnlMark (fun h a s t r =>
    let rec_ : JRec := { gtc := s.gtc, source := s.source 0, kind := if h.port = 5 then 3 else 1, body := body16 a }
    r = {} ∧ (s.power.inhibit = true → t = { s with jrnl := { s.jrnl with heldBack := s.jrnl.heldBack ++ [rec_] } }) ∧
    (s.power.inhibit = false → s.jrnl.openRecs.length < 127 → t = { s with jrnl := { s.jrnl with openRecs := s.jrnl.openRecs ++ [rec_] } })) ∧
  HostRow .jrnlCommit 0x0B03 needsJrnlCommit (fun _ _ s t r => r = {} ∧ t.jrnl = s.jrnl.commit ∧ t.jrnl.openRecs = s.jrnl.openRecs) ∧
  HostRow .jrnlStatus 0x0B04 needsJrnlStatus (fun _ _ s t r =>
    (∃ n, t = { s with freeCount := n }) ∧ r.status = 0 ∧ ∃ body, r.data = body ++ toLE 4 (crc32c body) ∧ ∃ t2,
      (∀ p ∈ s.jrnl.archive.head?, t2 = p.no * 128) ∧
      body = toLE 8 (((s.jrnl.pages.head?.map (fun p => p.no)).getD s.jrnl.openNo) * 128) ++
        toLE 8 (s.jrnl.openNo * 128 + s.jrnl.openRecs.length) ++ toLE 8 t2 ++
        toLE 4 (s.jrnl.pages.filter (fun p => decide (s.jrnl.nextArchive ≤ p.no))).length ++ toLE 4 s.jrnl.rateAvg ++ toLE 4 rateLimit ++
        toLE 4 s.jrnl.eraseSpan.1 ++ toLE 4 s.jrnl.eraseSpan.2 ++ toLE 4 s.jrnl.nvDeferred ++ toLE 4 s.jrnl.lost ++ toLE 1 s.jrnl.norOk ++
        toLE 1 (bitIf 0 s.power.inhibit) ++ toLE 6 0) ∧
  HostRow .diagTickLoad 0x0C01 needsDiagTickLoad (fun _ a s t r =>
    r = { data := s.cell.load.octets } ∧ t = { s with cell := { s.cell with load := t.cell.load } } ∧
    t.cell.load = { gtcFirst := s.cell.edge, threshold := if uAt a 0 2 = 0 then s.cell.load.threshold else uAt a 0 2 }) ∧
  Reads .diagAxisLoop 0x0C02 needsDiagAxisLoop (fun _ a s => (s.axis (uAt a 0 2)).sealedLoop.octets (uAt a 0 2)) ∧
  Reads .diagAxisCounters 0x0C03 needsDiagAxisCounters (fun _ a s =>
    let x := s.axis (uAt a 0 2)
    let r := ((s.armOf (uAt a 0 2)).map s.arm).getD {}
    [x.overruns, x.underruns, x.queueCheck, x.staleCount, x.awHolds, x.outSat, x.ddIlim, x.ddVsat, x.ddTrips, r.ikResidual, r.ffClamp,
      x.resyncRepairs].flatMap (toLE 4)) ∧
  Reads .diagTiller 0x0C04 needsDiagTiller (fun _ _ s =>
    (List.range 9).flatMap (fun n =>
      toLE 4 (if s.lost (21 + n) then 2 else if s.engines.contains n then 0 else 1) ++ toLE 4 (s.tiller n).updates ++
      toLE 4 (s.tiller n).stalls ++ toLE 4 (s.tiller n).ecc) ++ toLE 1 s.motion.spare ++ toLE 1 s.positions) ∧
  Reads .diagBlocks 0x0C05 needsDiagBlocks (fun _ _ s =>
    s.wnw.unusable.flatMap (fun p => toLE 2 p.1 ++ toLE 2 p.2.1 ++ toLE 4 p.2.2) ++
      (List.range 6).flatMap (fun m => toLE 4 (s.scrub m).ce ++ toLE 4 (s.scrub m).ue ++ toLE 4 (s.scrub m).weak.length) ++
      toLE 4 s.wnw.retired.length ++ toLE 4 s.wnw.scrubLate ++ toLE 4 s.jrnl.nvDeferred ++ toLE 4 s.wnw.stream.drop) ∧
  HostRow .diagTelemetry 0x0C06 needsDiagTelemetry (fun _ a s t r =>
    r = {} ∧ t = { s with wnw := { s.wnw with stream := t.wnw.stream } } ∧
    (uAt a 0 1 = 0 → t.wnw.stream = { s.wnw.stream with en := false }) ∧
    (uAt a 0 1 ≠ 0 → t.wnw.stream = { s.wnw.stream with
      en := true, port := uAt a 1 1, select := uAt a 2 2, loadTicks := uAt a 4 2, dstMac := octets a 6 6, srcIp := octets a 14 4
      dstIp := octets a 18 4, udpPort := uAt a 22 2, trace := (List.range (uAt a 24 2)).map (fun i => uAt a (26 + 2 * i) 2) }))

/-- NET commands (R352, R361, R370, R431, R442, R445, R447, R450, R465, R466). The layout of NET.STATUS and the port that NET.MIRROR names
are the model's (log entries 61 and 63). -/
def Obligations.NetworkCommandsDefineRunAndConfigure : Prop :=
  HostRow .netPortConfig 0x0701 needsNetPortConfig (fun _ a s t r =>
    r = {} ∧ t = s.setMac (uAt a 0 2) ((s.mac (uAt a 0 2)).configure ((List.range 31).map (fun i => uAt a (4 + 4 * i) 4)))) ∧
  HostRow .netDefine 0x0702 needsNetDefine (fun _ a s t r =>
    let n := uAt a 0 2
    r = {} ∧ (t.net n).defined = (uAt a 4 1 == 1) ∧ (t.net n).started = false ∧
    (uAt a 4 1 = 1 → (t.net n).engine = uAt a 5 1 ∧ (t.net n).image = uAt a 6 1 ∧ (t.net n).cycleDiv = uAt a 7 1 ∧ (t.net n).portA = uAt a 9 1 ∧
      (t.net n).portB = uAt a 10 1 ∧ (t.net n).deadlineNs = uAt a 17 4 ∧ (t.net n).missed = (s.net n).missed) ∧
    (∀ m, m ≠ n → (t.net m).defined = (s.net m).defined ∧ (t.net m).started = (s.net m).started) ∧
    Touches [.pool, .poolMem, .chk, .lathes, .ctxs, .chisels, .cans, .macs, .nets] s t) ∧
  HostRow .netStart 0x0703 needsNetStart (fun _ a s t r =>
    r = {} ∧ (t.net (uAt a 0 2)).started = true ∧ (∀ m, m ≠ uAt a 0 2 → t.net m = s.net m) ∧
    ((s.stored (s.net (uAt a 0 2)).image).ctxMax ≤ (s.lathe (s.net (uAt a 0 2)).engine).ctxs.length → Touches [.nets, .switch] s t)) ∧
  HostRow .netStop 0x0704 needsNetStop (fun _ a s t r =>
    r = {} ∧ (t.net (uAt a 0 2)).started = false ∧ (t.net (uAt a 0 2)).defined = (s.net (uAt a 0 2)).defined ∧
    (∀ m, m ≠ uAt a 0 2 → t.net m = s.net m)) ∧
  Reads .netStatus 0x0705 needsNetStatus (fun _ a s =>
    let k := s.net (uAt a 0 2)
    toLE 1 (bitIf 0 k.defined) ++ toLE 1 (bitIf 0 k.started) ++ toLE 1 k.engine ++ toLE 1 k.image ++ toLE 4 k.missed) ∧
  HostRow .netSnapshot 0x0706 needsNetSnapshot (fun _ a s t r =>
    let k := s.mac (uAt a 0 2)
    r = {} ∧ t = s.setMac (uAt a 0 2) { k with snap0 := (s.cell.edge, k.counters) }) ∧
  HostRow .netStats 0x0707 needsNetStats (fun _ a s t r =>
    let k := s.mac (uAt a 0 2)
    (uAt a 4 1 = 0 → t = s ∧ r = { data := toLE 8 k.snap0.1 ++ (List.range 25).flatMap (fun i => toLE 8 (Table.get 0 k.snap0.2 i)) }) ∧
    (uAt a 4 1 ≠ 0 → t = s.setMac (uAt a 0 2) { k with nrw := [] } ∧
      r = { data := (List.range 16).flatMap (fun i => toLE 4 (Table.get 0 k.nrw i)) })) ∧
  HostRow .netAcyclic 0x0708 needsNetAcyclic (fun h a s t r =>
    let k := s.net (uAt a 0 2)
    r = { later := true } ∧
    t = (s.setNet (uAt a 0 2) { k with acyclic := k.acyclic ++ [(h.tag, h.port)] }).send (.request (uAt a 0 2) (a.drop 4))) ∧
  HostRow .netMirror 0x0709 needsNetMirror (fun _ a s t r =>
    let m := s.mirror (uAt a 4 1)
    r = { data := toLE 4 m.copies ++ toLE 4 m.skipped } ∧
    t = s.setMirror (uAt a 4 1) { m with
      en := uAt a 5 1 == 1, port := uAt a 6 1, dir := uAt a 7 1, tcMask := uAt a 8 1, every := uAt a 9 2, count := 0 }) ∧
  HostRow .netSchedule 0x070A needsNetSchedule (fun _ a s t r =>
    let k := s.mac (uAt a 0 2)
    r = {} ∧ t = s.setMac (uAt a 0 2) { k with gatesNext := some (if uAt a 4 1 = 0 then none else some (gateListOf a)) }) ∧
  HostRow .netCanConfig 0x070B needsNetCanConfig (fun _ a s t r =>
    r = {} ∧ t = s.setCan (uAt a 0 2) ((s.can (uAt a 0 2)).configure (uAt a 4 4) (uAt a 8 4) (uAt a 12 4)))

/-- LATHE commands (R358 to R361, R369, R371, R375 to R377): what each stores, schedules or returns. The layout of LATHE.STATUS is the model's
(log entry 56). -/
def Obligations.LatheCommandsStoreLoadSwapAndReport : Prop :=
  HostRow .latheStore 0x0801 needsLatheStore (fun _ a s t r =>
    let bs := s.bankOctets (uAt a 4 2) 0 0x80000
    let x := s.image (uAt a 0 2)
    r = { later := true } ∧ (∃ i, checkImage bs s = .inl i) ∧ Touches [.images] s t ∧
    t = s.setImage (uAt a 0 2) (if x.active = 1 then { x with slotB := bs.take (imageLen bs) } else { x with slotA := bs.take (imageLen bs) })) ∧
  HostRow .latheLoad 0x0802 needsLatheLoad (fun _ a s t r =>
    r = { later := true } ∧ t = s ∧ ∃ i, checkImage (s.image (uAt a 4 2)).octets s = .inl i ∧ s.canReserve (uAt a 0 2) i.ctxMax = true) ∧
  HostRow .latheSwap 0x0803 needsLatheSwap (fun _ a s t r =>
    r = {} ∧ t = s.setLathe (uAt a 0 2) { s.lathe (uAt a 0 2) with swapAt := some s.cell.edge }) ∧
  HostRow .latheStatus 0x0804 needsLatheStatus (fun _ a s t r =>
    let l := s.lathe (uAt a 0 2)
    t = s.setLathe (uAt a 0 2) { l with busyPeak := 0 } ∧
    r = { data := toLE 1 (if l.unusable then 4 else if l.restarting then 3 else if l.swapAt.isSome || l.migrating then 2 else if l.loaded then 1 else 0) ++
      [0, 0, 0] ++ toLE 4 l.image.id ++ toLE 4 l.image.version ++ toLE 4 l.shadow.id ++ toLE 4 l.shadow.version ++
      toLE 4 ((s.engineNets (uAt a 0 2)).foldl (fun m n => setBit m n) 0) ++ toLE 2 l.ctxs.length ++ [0, 0] ++ toLE 4 l.busyPeak }) ∧
  Reads .latheCounters 0x0805 needsLatheCounters (fun _ a s =>
    let l := s.lathe (uAt a 0 2)
    [l.rxEvents, l.txFrames, l.postLate, l.postEmpty, l.phaseOverrun, l.accessFault, l.ctxFault, l.exceptions, l.restarts, l.migOverrun,
      l.eccCorr, l.telemDrop, l.busyPeak].flatMap (toLE 4)) ∧
  HostRow .latheTelemetry 0x0806 needsLatheTelemetry (fun h a s t r =>
    let l := s.lathe (uAt a 0 2)
    let n := min l.ring.length ((h.replyLen - 16) / 32)
    t = s.setLathe (uAt a 0 2) { l with ring := l.ring.drop n } ∧ r = { data := (l.ring.take n).flatMap TelemRec.octets }) ∧
  HostRow .latheEnrollKey 0x0807 needsLatheEnrollKey (fun _ a s t r =>
    (uAt a 0 1 = 0 → t = s ∧ r = { data := padTo 96 Config.enrolKey, later := true }) ∧
    (uAt a 0 1 ≠ 0 → r = { later := true } ∧ t.custKey = some (a.drop 4) ∧ Touches [.custKey, .jrnl, .retained] s t))

/-- FAB commands of the fabric itself (R516, R525, R526, R529, R534, R542, R554 to R556, R562). The widths that FAB.STATUS leaves open are the
model's (log entry 51), and what no record tells of other devices is free (log entry 41). -/
def Obligations.FabricCommandsJoinLeaveScheduleAndSleep : Prop :=
  HostRow .fabSetKey 0x0901 needsFabSetKey (fun _ a s t r =>
    r = { data := (hmac a [0x4F, 0x53, 0x4B, 0x43, 0x56]).take 4 } ∧ t.fab = { s.fab with key := some a } ∧ Touches [.fab, .jrnl, .retained] s t) ∧
  HostRow .fabJoin 0x0902 needsFabJoin (fun _ a s t r =>
    let l := (List.range (uAt a 12 2)).map (mapEntryAt a)
    (uAt a 0 1 = 1 → r = {} ∧ t = s.changeAll (s.cell.tick + 1) (.map l)) ∧
    (uAt a 0 1 ≠ 1 → r = { later := true } ∧ t.fab.join.stage = 1 ∧ t.fab.join.since = s.gtc ∧ t.fab.join.map = l ∧ t.fab.mine = uAt a 3 1 ∧
      t.fab.joinArgs = a ∧ (∀ p, p < 4 → (t.fabPort p).media = uAt a (8 + p) 1) ∧ Touches [.fab, .jrnl, .retained] s t)) ∧
  HostRow .fabLeave 0x0903 needsFabLeave (fun _ _ s t r =>
    r = { later := true } ∧ (t.fabNode s.cell.node).leaveAt = some (s.cell.tick + 2) ∧
    (∀ d, d ≠ s.cell.node → t.fabNode d = s.fabNode d) ∧ Touches [.claim, .fab] s t) ∧
  HostRow .fabSchedule 0x0904 needsFabSchedule (fun _ a s t r =>
    r = {} ∧ s.schedBad (schedAt a (wrap 32 (s.fab.sched.gen + 1))).slots = none ∧ t.fab.sched = s.fab.sched ∧
    t = s.changeAll (s.cell.tick + 2) (.sched (schedAt a (wrap 32 (s.fab.sched.gen + 1))))) ∧
  Reads .fabStatus 0x0905 needsFabStatus (fun _ _ s =>
    let f := s.fab
    toLE 1 s.cell.node ++ toLE 1 f.nodeSrc ++ toLE 1 s.cell.role ++ toLE 1 f.mine ++ toLE 4 s.members.length ++ s.kcv ++
     [0, 1, 2, 3].flatMap (fun p => toLE 4 (s.fabPort p).linkDowns ++ toLE 4 (s.fabPort p).checkErr) ++
     [f.badFrame, f.staleCount, f.epochLow, f.noRoute, f.mbxGap, f.bulkRetx, f.authFail, f.joins, f.leaves, f.guardCuts, f.guardDrops,
      f.coldCollisions, f.falseWakes, f.failsafe].flatMap (toLE 4) ++
     (List.range 256).flatMap (fun d => toLE 4 (s.fabNode d).empty)) ∧
  HostRow .fabSleep 0x090B needsFabSleep (fun _ a s t r =>
    let nodes := s.members.filter (bitAt (uAt a 0 32))
    r = {} ∧ t.fab.sleep = { s.fab.sleep with state := 1, nodes := nodes, pnr := s.cell.tick + 8, heardFrom := [] } ∧
    t.fab.waiting = s.fab.waiting ++ [(none, .cellCfg (s.cell.tick + 1) (.sleep nodes))] ∧ Touches [.fab, .freeCount] s t) ∧
  HostRow .fabWake 0x090C needsFabWake (fun _ _ s t r =>
    r = {} ∧ Touches [.fab] s t ∧ (s.fab.master = s.cell.node → t = wakeAt s.cell.node 0 s) ∧
    (s.fab.master ≠ s.cell.node → s.fab.copies.length ≤ t.fab.copies.length ∧ t.fab.sleep = s.fab.sleep))

/-- FAB commands of a pair (R274, R275, R293, R297 to R300): roles, lines and epoch. Which levels the other device supports and whether every digest
agreed no record tells: free (log entries 52 and 53). -/
def Obligations.PairCommandsAssignReleaseAndSwap : Prop :=
  HostRow .fabAssignShadow 0x0906 needsFabAssignShadow (fun _ a s t r =>
    let lines := (List.range (uAt a 1 1)).map (lineAt a)
    r = { later := true } ∧ t.pair.role = 1 ∧ t.pair.peer = uAt a 0 1 ∧ t.pair.lines = lines ∧ t.pair.since = some s.gtc ∧
    t.cell.epoch = wrap 32 (s.cell.epoch + 1) ∧ t.fab.sending.length = s.fab.sending.length + 1 ∧
    Touches [.cell, .jrnl, .wnw, .fab, .pair, .nets, .freeCount, .epoch, .retained] s t) ∧
  HostRow .fabReleaseShadow 0x0907 needsFabReleaseShadow (fun _ _ s t r =>
    r = {} ∧ t.pair.role = 0 ∧ t.pair.peer = 0 ∧ t.pair.lines = [] ∧ t.cell.epoch = wrap 32 (s.cell.epoch + 1)) ∧
  HostRow .fabSwitchover 0x0908 needsFabSwitchover (fun h _ s t r =>
    r = {} ∧ t.cell.epoch = wrap 32 (s.cell.epoch + 1) ∧ t.pair.switchAt = some s.cell.tick ∧ t.pair.peer = s.pair.peer ∧
    (s.pair.role = 1 → t.pair.role = 2 ∧ t.cell.role = 2 ∧ t.pair.silent = true) ∧
    (s.pair.role ≠ 1 → isHost h.port = false ∧ t.pair.role = 1 ∧ t.pair.silent = false ∧ t.cell.role = (if s.fab.master = s.cell.node then 0 else 1))) ∧
  HostRow .fabSetReplLevel 0x0909 needsFabSetReplLevel (fun _ a s t r =>
    r = {} ∧ t.power = { s.power with replLevel := uAt a 0 1 } ∧ Touches [.power, .freeCount] s t) ∧
  Reads .fabPairStatus 0x090A needsFabPairStatus (fun _ _ s =>
    let p := s.pair
    let bs := toLE 1 p.role ++ toLE 1 s.pairStatus ++ toLE 1 p.peer ++ toLE 1 s.power.replLevel ++ toLE 4 s.cell.epoch ++ toLE 8 p.diverged ++
      [p.mismatch, p.resyncLate, p.fwdLate, p.misses, p.fills, p.takeovers, p.lastChange].flatMap (toLE 4) ++ List.replicate 16 0
    bs ++ toLE 4 (crc32c bs))

/-- TIME and FW commands (R352, R489 to R500, R503, R625, R629). The layouts of TIME.STATUS and FW.STATUS are the model's (log entry 45). -/
def Obligations.TimeAndFirmwareCommandsTakeEffect : Prop :=
  HostRow .timeConfig 0x0A01 needsTimeConfig (fun _ a s t r =>
    let n := uAt a 0 2
    let w := uAt a 4 4
    let b := s.base n
    r = {} ∧ t.base n = { b with
      servoEn := bitAt w 0, lockN := field w 1 7, lockNs := field w 8 12, holdoverMs := field w 20 12, kp := uAt a 8 4, ki := uAt a 12 4
      adjMax := field (uAt a 16 4) 0 31, stepNs := if n = 0 then 0 else field (uAt a 20 4) 0 15
      lastSample := if b.servoEn then b.lastSample else s.gtc } ∧ (∀ m, m ≠ n → t.base m = s.base m) ∧
    (∀ u, u < 32 → t.cmp u = if bitAt (uAt a 24 4) u then { s.cmp u with tb := n, owner := if uAt a 28 1 = 0xFF then 0x3F else uAt a 28 1 } else s.cmp u) ∧
    Touches [.time] s t) ∧
  Reads .timeStatus 0x0A02 needsTimeStatus (fun _ a s =>
    let b := s.base (uAt a 0 2)
    toLE 8 (b.val / 2 ^ 40 / 1000000000) ++ toLE 4 (b.val / 2 ^ 40 % 1000000000) ++ toLEs 4 b.adj ++ toLEs 4 b.integ ++ toLEs 4 b.lastOfs ++
      toLE 4 b.status) ∧
  HostRow .timeCompare 0x0A03 needsTimeCompare (fun _ a s t r =>
    let u := uAt a 0 2
    let w := uAt a 4 4
    r = {} ∧ (t.cmp u).target = wrap 32 (uAt a 12 8) ∧ (t.cmp u).arm = bitAt w 0 ∧ (t.cmp u).pinEn = bitAt w 2 ∧ (t.cmp u).action = field w 3 3 ∧
    (t.cmp u).pin = field w 6 6 ∧ (t.cmp u).period = (let p := wrap 31 (uAt a 8 4); if p = 0 then 0 else if p < 64 then 64 else p) ∧
    (t.cmp u).tb = (s.cmp u).tb ∧ (t.cmp u).owner = (s.cmp u).owner ∧ (∀ v, v ≠ u → t.cmp v = s.cmp v) ∧ Touches [.time] s t) ∧
  HostRow .timeCapture 0x0A04 needsTimeCapture (fun _ a s t r =>
    let w := uAt a 4 4
    r = {} ∧ t = s.setCap (uAt a 0 2) { s.cap (uAt a 0 2) with edge := field w 0 2, snap := bitAt w 2, filt := field w 8 8 }) ∧
  HostRow .timeSet 0x0A05 needsTimeSet (fun _ a s t r =>
    let n := uAt a 0 2
    r = {} ∧ t.base n = { s.base n with val := (wrap 48 (uAt a 4 8) * 1000000000 + uAt a 12 4) * 2 ^ 40, lastStep := s.gtc } ∧
    (∀ m, m ≠ n → t.base m = s.base m) ∧ (n ≠ 0 → Touches [.time] s t) ∧
    (n = 0 → Touches [.time, .cell, .grid] s t ∧ t.cell = { s.cell with nextEdge := t.cell.nextEdge } ∧ t.cell.nextEdge % s.tickLen = 0)) ∧
  HostRow .fwLoad 0x0D01 needsFwLoad (fun _ _ s t r =>
    (s.power.inhibit = true → t = s ∧ r = { status := St.fwRejected, detail := 6, later := true }) ∧
    (s.power.inhibit = false → r = { later := true } ∧ t.power.fwWriting = true ∧ (t.fwSlot (1 - s.power.active)).state = 1 ∧
      t.fwSlot (s.power.active) = s.fwSlot s.power.active ∧ Touches [.power] s t)) ∧
  HostRow .fwActivate 0x0D02 needsFwActivate (fun _ _ s t r =>
    r = {} ∧ t.power.resetAt = some (s.cell.edge + 10000000, 4) ∧ Touches [.power] s t ∧
    (s.power.inhibit = false → t.power.trial = true) ∧ (s.power.inhibit = true → t.power.trial = s.power.trial)) ∧
  Reads .fwStatus 0x0D03 needsFwStatus (fun _ _ s =>
    let one (k : Nat) : List Byte := toLE 2 (s.fwSlot k).release ++ toLE 1 (s.fwSlot k).replLevel ++ toLE 1 (s.fwSlot k).secVer ++ toLE 1 (s.fwSlot k).state
    one 0 ++ one 1 ++ toLE 1 s.power.active ++ toLE 1 s.power.running ++ toLE 1 (bitIf 0 s.power.trial) ++ toLE 1 s.power.minSecVer)

/-- Mailbox words (R304 to R307, R315): a word of the bound sender is stored in an empty channel, one for a full channel is rejected, an access by
anyone else is a violation; a read by the receiver returns the word and acknowledges it; a remote word is stored whatever FULL is. -/
def Obligations.MailboxWordsAreStoredReadAndRefused : Prop :=
  (∀ m ch w s, ch < 64 → s.isSender (s.chan ch) m = true → (s.chan ch).full = false → Does (.mbxDataWrite m ch w) s (fun t =>
    (t.chan ch).word = w ∧ (t.chan ch).full = true ∧ (t.chan ch).writer = m ∧ (t.chan ch).fullEv = satAdd 255 (s.chan ch).fullEv 1 ∧
    (∀ c, c ≠ ch → t.chan c = s.chan c) ∧ t.mbx.locks = s.mbx.locks ∧ Touches [.mbx, .pool, .out] s t)) ∧
  (∀ m ch w s, ch < 64 → s.isSender (s.chan ch) m = true → (s.chan ch).full = true → Does (.mbxDataWrite m ch w) s (fun t =>
    t = s.setChan ch { s.chan ch with reject := true, rejEv := satAdd 255 (s.chan ch).rejEv 1 })) ∧
  (∀ m ch w s, ch < 64 → s.isSender (s.chan ch) m = false → Does (.mbxDataWrite m ch w) s (fun t =>
    t.chan ch = { s.chan ch with violation := true, violEv := satAdd 255 (s.chan ch).violEv 1 } ∧ (∀ c, c ≠ ch → t.chan c = s.chan c) ∧
    Touches [.mbx, .host] s t)) ∧
  (∀ m ch s, ch < 64 → (s.chan ch).isReceiver m = true → (s.chan ch).full = true → Does (.mbxDataRead m ch) s (fun t =>
    t.rd = (s.chan ch).word.toNat ∧ (isHost m = false → (t.chan ch).full = false ∧ (t.chan ch).word = (s.chan ch).word))) ∧
  (∀ m ch s, ch < 64 → (s.chan ch).isReceiver m = true → (s.chan ch).full = false → Does (.mbxDataRead m ch) s (fun t => t = { s with rd := 0 })) ∧
  (∀ m ch s, ch < 64 → (s.chan ch).isReceiver m = false → Does (.mbxDataRead m ch) s (fun t =>
    t.rd = 0 ∧ t.chan ch = { s.chan ch with violation := true, violEv := satAdd 255 (s.chan ch).violEv 1 } ∧ (∀ c, c ≠ ch → t.chan c = s.chan c))) ∧
  (∀ node ch w s, ch < 64 → (s.chan ch).valid = true → (s.chan ch).sender = 0x3F → (s.chan ch).remoteNode = 0xFF ∨ (s.chan ch).remoteNode = node →
    Does (.remoteWord node ch w) s (fun t => (t.chan ch).word = w ∧ (t.chan ch).full = true ∧ (t.chan ch).lastNode = node ∧
      (t.chan ch).fullEv = satAdd 255 (s.chan ch).fullEv 1 ∧
      ((s.chan ch).full = true → (t.chan ch).collision = true ∧ (t.chan ch).collEv = satAdd 255 (s.chan ch).collEv 1) ∧
      (∀ c, c ≠ ch → t.chan c = s.chan c))) ∧
  (∀ m ch s, ch < 64 → s.isSender (s.chan ch) m = true ∨ (s.chan ch).isReceiver m = true → Does (.mbxEvcntRead m ch) s (fun t =>
    t = (s.setChan ch { s.chan ch with fullEv := 0, collEv := 0, rejEv := 0, violEv := 0 }).returns
      ((s.chan ch).fullEv + 256 * (s.chan ch).collEv + 65536 * (s.chan ch).rejEv + 16777216 * (s.chan ch).violEv)))

/-- Locks, doorbells and bindings (R302, R308 to R315): the read of a free lock takes it, the owner's write frees it, doorbell bits are rung and
cleared as their masters may, and bindings change only by Sheaf core 0 before they are locked. -/
def Obligations.LocksDoorbellsAndBindings : Prop :=
  (∀ m k s, k < 16 → s.lock k = none → Does (.mbxLockRead m k) s (fun t =>
    t.rd = 0 ∧ t.lock k = some m ∧ (∀ j, j ≠ k → t.lock j = s.lock j) ∧ Touches [.mbx, .rd] s t)) ∧
  (∀ m k o s, k < 16 → s.lock k = some o → Does (.mbxLockRead m k) s (fun t => t = { s with rd := 64 + o })) ∧
  (∀ m k w s, k < 16 → s.lock k = some m → Does (.mbxLockWrite m k w) s (fun t =>
    t.lock k = none ∧ (∀ j, j ≠ k → t.lock j = s.lock j) ∧ Touches [.mbx] s t)) ∧
  (∀ k o w s, k < 16 → s.lock k = some o → o ≠ 0 → Does (.mbxLockWrite 0 k w) s (fun t =>
    t.lock k = none ∧ (∀ j, j ≠ k → t.lock j = s.lock j) ∧ Touches [.mbx, .jrnl, .host, .wnw] s t)) ∧
  (∀ m k w s, k < 16 → m ≠ 0 → s.lock k ≠ some m → Does (.mbxLockWrite m k w) s (fun t => t = s.accessErr m)) ∧
  (∀ m w s, Does (.mbxDbPendWrite m w) s (fun t => (t.bells m).pend = w1c (s.bells m).pend w.toNat ∧
    (∀ j, j ≠ m → t.bells j = s.bells j) ∧ Touches [.mbx, .out] s t)) ∧
  (∀ m w s, Does (.mbxDbEnableWrite m w) s (fun t => (t.bells m).enable = w.toNat ∧ (t.bells m).pend = (s.bells m).pend ∧
    (∀ j, j ≠ m → t.bells j = s.bells j) ∧ Touches [.mbx, .out] s t)) ∧
  (∀ m (w : Word) s, let r := field w.toNat 0 6; let b := field w.toNat 8 5; mayRing m r b = true → Does (.mbxDbRingWrite m w) s (fun t =>
    (t.bells r).pend = setBit (s.bells r).pend b ∧ (∀ j, j ≠ r → t.bells j = s.bells j) ∧ Touches [.mbx, .out] s t)) ∧
  (∀ m (w : Word) s, mayRing m (field w.toNat 0 6) (field w.toNat 8 5) = false → Does (.mbxDbRingWrite m w) s (fun t => t = s.accessErr m)) ∧
  (∀ m j s, j < 8 → Does (.mbxDbEvcntRead m j) s (fun t => t.rd = (s.bells m).evWord j ∧
    (∀ i, i < 4 → Table.get 0 (t.bells m).ev (4 * j + i) = 0) ∧ (t.bells m).pend = (s.bells m).pend ∧ Touches [.mbx, .rd] s t)) ∧
  (∀ ch w s, ch < 64 → s.mbx.bindLocked = false → Does (.mbxBindWrite 0 ch w) s (fun t =>
    t = s.setChan ch { s.chan ch with sender := field w.toNat 0 6, receiver := field w.toNat 6 6, remoteNode := field w.toNat 12 8
                                      lock := field w.toNat 20 4, valid := bitAt w.toNat 24 })) ∧
  (∀ m ch w s, m ≠ 0 ∨ s.mbx.bindLocked = true → Does (.mbxBindWrite m ch w) s (fun t => t = s)) ∧
  (∀ w s, bitAt w.toNat 0 = true → Does (.mbxBindLockWrite 0 w) s (fun t => t.mbx = { s.mbx with bindLocked := true } ∧ Touches [.mbx, .bindLocked] s t)) ∧
  (∀ m w s, m ≠ 0 → Does (.mbxBindLockWrite m w) s (fun t => t = s)) ∧
  (∀ m s, m ∈ s.mbx.waking → Does (.receiverDomainUp m) s (fun t => m ∉ t.mbx.waking ∧ m ∉ t.mbx.asleep ∧ t.mbx.chans = s.mbx.chans ∧ Touches [.mbx] s t))

/-- Time bases, compare units and capture pins (R488, R490, R491, R494, R496, R500, R502; counters that a read clears, R8). -/
def Obligations.TimeBaseCompareAndCaptureRows : Prop :=
  (∀ n e o s, n < 8 → e < 16 → s.baseLathe n = some e → (s.base n).servoEn = true →
    (s.base n).stepNs = 0 ∨ (toS 32 o.toNat).natAbs < (s.base n).stepNs * 2 ^ 16 → Does (.tbOfsWrite (0x10 + e) n o) s (fun t =>
      let b := s.base n
      let off := toS 32 o.toNat
      let i := clampI (-b.adjMax) b.adjMax (b.integ - asr (b.ki * off) 32)
      (t.base n).integ = i ∧ (t.base n).adj = clampI (-b.adjMax) b.adjMax (i - asr (b.kp * off) 32) ∧ (t.base n).val = b.val ∧
      (t.base n).samples = wrap 8 (b.samples + 1) ∧ (t.base n).holdover = false ∧ (t.base n).lastOfs = off ∧ (∀ m, m ≠ n → t.base m = s.base m) ∧
      Touches [.time] s t)) ∧
  (∀ n e o s, n < 8 → e < 16 → s.baseLathe n = some e → (s.base n).servoEn = true → 0 < (s.base n).stepNs →
    (s.base n).stepNs * 2 ^ 16 ≤ (toS 32 o.toNat).natAbs → Does (.tbOfsWrite (0x10 + e) n o) s (fun t =>
      ((t.base n).val : Int) = ((s.base n).val - toS 32 o.toNat * 2 ^ 24) % baseSpan ∧ (t.base n).steps = satAdd 255 (s.base n).steps 1 ∧
      (t.base n).locked = false ∧ (t.base n).lastStep = s.gtc ∧ Touches [.time] s t)) ∧
  (∀ n e o s, n < 8 → e < 16 → s.baseLathe n = some e → (s.base n).servoEn = false → Does (.tbOfsWrite (0x10 + e) n o) s (fun t =>
    t = s.setBase n { s.base n with ofsIgn := satAdd 255 (s.base n).ofsIgn 1 })) ∧
  (∀ m n o s, (∀ e, s.baseLathe n = some e → m ≠ 0x10 + e) → Does (.tbOfsWrite m n o) s (fun t => t = s)) ∧
  (∀ m n s, n < 8 → Does (.tbNsRead m n) s (fun t => t.rd = (s.base n).val / 2 ^ 40 % 1000000000 ∧
    t.latch (n * 64 + m) = { sec := (s.base n).val / 2 ^ 40 / 1000000000, ns := t.rd, frac := (s.base n).val / 2 ^ 24 % 2 ^ 16 } ∧
    t.time.bases = s.time.bases ∧ Touches [.time, .rd] s t)) ∧
  (∀ n e (w : Word) s, 0 < n → n < 8 → e < 16 → s.baseLathe n = some e → Does (.tbConvHiWrite (0x10 + e) n w) s (fun t =>
    let at_ := w.toNat * 2 ^ 32 + (s.base n).convLo
    (t.base n).convErr = !decide (at_ ≤ s.gtc ∧ s.gtc - at_ < 2 ^ 31) ∧ (t.base n).convReady = s.time.clk + 8 ∧ (t.base n).convHi = w.toNat ∧
    (at_ ≤ s.gtc → s.gtc - at_ < 2 ^ 31 → (t.base n).conv = ((divRNE (((s.base n).val : Int) * (s.base 0).rate -
      ((s.gtc : Int) - at_) * (2 ^ 40 : Int) * (s.base n).rate) ((s.base 0).rate * (2 ^ 24 : Int))) % (2 ^ 48 * 1000000000 * 2 ^ 16 : Nat)).toNat) ∧
    (∀ m, m ≠ n → t.base m = s.base m) ∧ Touches [.time] s t)) ∧
  (∀ n s, n < 8 → (s.base n).servoEn = true → (s.base n).holdover = false → Does (.holdoverTimeout n) s (fun t =>
    (t.base n).holdover = true ∧ (t.base n).locked = false ∧ Touches [.time, .jrnl, .host, .wnw] s t)) ∧
  (∀ u s, 4 < u → u < 32 → (s.cmp u).arm = true → Does (.compareMatch u) s (fun t =>
    (t.cmp u).matchCount = wrap 16 ((s.cmp u).matchCount + 1) ∧ ((s.cmp u).period = 0 → (t.cmp u).arm = false) ∧
    ((s.cmp u).period ≠ 0 → (t.cmp u).arm = true ∧ (t.cmp u).target = wrap 32 ((s.cmp u).target + (s.cmp u).period)))) ∧
  (∀ u s, 0 < u → u < 32 → s.converterUnit u = false → (s.cmp u).arm = false → Does (.compareMatch u) s (fun t => t = s)) ∧
  (∀ m u w s, ownsUnit s m u = true → Does (.cmpTargetWrite m u w) s (fun t => (t.cmp u).target = w.toNat ∧ (t.cmp u).arm = (s.cmp u).arm ∧
    ((s.cmp u).arm = true → toS 32 (w.toNat + 2 ^ 32 - wrap 32 (s.base (s.cmp u).tb).ns) ≤ 0 → (t.cmp u).late = true) ∧
    (∀ v, v ≠ u → t.cmp v = s.cmp v) ∧ Touches [.time] s t)) ∧
  (∀ m u w s, ownsUnit s m u = false → Does (.cmpTargetWrite m u w) s (fun t => t = s)) ∧
  (∀ p rising stamp s, p < 8 → bitAt (s.cap p).edge (if rising then 0 else 1) = true → Does (.captureEdge p rising stamp) s (fun t =>
    (t.cap p).level = rising ∧ ((s.cap p).fifo.length < 4 → (t.cap p).fifo = (s.cap p).fifo ++ [stamp] ∧ (t.cap p).ovf = (s.cap p).ovf) ∧
    (4 ≤ (s.cap p).fifo.length → (t.cap p).fifo = (s.cap p).fifo ∧ (t.cap p).ovf = satAdd 255 (s.cap p).ovf 1) ∧
    (∀ q, q ≠ p → t.cap q = s.cap q) ∧ Touches [.time] s t)) ∧
  (∀ p s, p < 8 → (s.cap p).snap = false → Does (.capHiRead p) s (fun t =>
    t = (s.setCap p { s.cap p with fifo := (s.cap p).fifo.drop 1 }).returns ((s.cap p).fifo.headD 0 / 2 / 2 ^ 32))) ∧
  (∀ p s, p < 8 → (s.cap p).snap = true → Does (.capHiRead p) s (fun t => t = (s.setCap p (s.cap p)).returns 0)) ∧
  (∀ n s, n < 8 → Does (.tbStatusRead n) s (fun t => t = (s.setBase n { s.base n with steps := 0, ofsIgn := 0 }).returns (s.base n).status)) ∧
  (∀ u s, u < 32 → Does (.cmpStatusRead u) s (fun t => t = (s.setCmp u { s.cmp u with lateEv := 0 }).returns (s.cmp u).status)) ∧
  (∀ p s, p < 8 → Does (.capStatusRead p) s (fun t => t = (s.setCap p { s.cap p with ovf := 0 }).returns (s.cap p).status)) ∧
  (∀ n s, n < 16 → Does (.tsInsCfgRead n) s (fun t => t = (s.setTsIns n { s.tsIns n with tsFault := 0 }).returns (s.tsIns n).word))

/-- The bank pool and the check units (R8, R564 to R570, R576 to R578): an access of the owner reads or stores, any other is counted and
changes no octet; ownership passes by a handover; RUNNING and FOLD are written between messages only. -/
def Obligations.PoolAccessesFollowOwnership : Prop :=
  (∀ port act ofs n s, port < 25 → ofs < 64 * 0x80000 → s.poolOk (portMaster port act) ofs n = true → 0 < n →
    (∀ w ∈ wordsOf ofs n, w ∉ s.pool.ueWords) → Does (.poolAccess port act (.read n .none) ofs) s (fun t =>
      t = { s with rd := ofLE (s.memGet ofs n) })) ∧
  (∀ port act ofs bs s, port < 25 → port ≠ 7 → ofs < 64 * 0x80000 → s.poolOk (portMaster port act) ofs bs.length = true →
    (∀ w ∈ wordsOf ofs bs.length, w ∉ s.pool.ueWords) → Does (.poolAccess port act (.write bs false) ofs) s (fun t =>
      (∀ b, t.poolByte b = if ofs ≤ b ∧ b < ofs + bs.length then bs.getD (b - ofs) 0 else s.poolByte b) ∧
      Touches [.pool, .poolMem, .chk, .lathes, .out] s t)) ∧
  (∀ port act ofs bs s, port < 8 ∨ port = 24 → ofs < 64 * 0x80000 → s.poolOk (portMaster port act) ofs bs.length = false →
    Does (.poolAccess port act (.write bs false) ofs) s (fun t => t.pool.mem = s.pool.mem ∧ t.pool.ueWords = s.pool.ueWords ∧
      ∀ b ∈ banksOf ofs bs.length, b < 64 → s.owns (portMaster port act) b = false → (t.bank b).refused = satAdd 255 (s.bank b).refused 1)) ∧
  (∀ port act ofs n s, port < 8 ∨ port = 24 → ofs < 64 * 0x80000 → s.poolOk (portMaster port act) ofs n = false →
    Does (.poolAccess port act (.read n .none) ofs) s (fun t => t.pool.mem = s.pool.mem ∧
      ∀ b ∈ banksOf ofs n, b < 64 → s.owns (portMaster port act) b = false → (t.bank b).refused = satAdd 255 (s.bank b).refused 1)) ∧
  (∀ port act op ofs s, 25 ≤ port → exec (.poolAccess port act op ofs) s = .fault (.noSuchUnit port)) ∧
  (∀ port act ofs old bs s, 8 ≤ port → port < 24 → ofs < 64 * 0x80000 → ofs / 8 = (ofs + bs.length - 1) / 8 →
    s.poolOk (portMaster port act) ofs bs.length = true → ofs / 8 ∉ s.pool.ueWords → 0 < bs.length →
    Does (.poolAccess port act (.cas old bs) ofs) s (fun t => t.rd = ofLE (s.memGet ofs bs.length) ∧
      (s.memGet ofs bs.length ≠ old → t.pool.mem = s.pool.mem) ∧
      (s.memGet ofs bs.length = old → ∀ b, t.poolByte b = if ofs ≤ b ∧ b < ofs + bs.length then bs.getD (b - ofs) 0 else s.poolByte b))) ∧
  (∀ m b w s, b < 64 → (m = 0 ∧ bitAt w.toNat 7 = true) ∨ (m < 4 ∧ s.owns m b = true) ∨ (m = 0x20 ∧ s.owns m b = true) →
    Does (.poolOwnerWrite m b w) s (fun t => t = s.setBank b { s.bank b with pending := true, newOwner := field w.toNat 0 6 })) ∧
  (∀ m b w s, b < 64 → bitAt w.toNat 7 = false → s.owns m b = false → Does (.poolOwnerWrite m b w) s (fun t =>
    t = s.setBank b { s.bank b with refused := satAdd 255 (s.bank b).refused 1 })) ∧
  (∀ b s, (s.bank b).pending = true → Does (.poolHandoverComplete b) s (fun t =>
    t = s.setBank b { s.bank b with owner := (s.bank b).newOwner, pending := false, newOwner := 0 })) ∧
  (∀ b s, b < 64 → Does (.poolEccRead b) s (fun t =>
    t = (s.setBank b { s.bank b with ce := 0, ue := 0, wrLost := 0, refused := 0 }).returns
      ((s.bank b).ce + 256 * (s.bank b).ue + 65536 * (s.bank b).wrLost + 16777216 * (s.bank b).refused))) ∧
  (∀ n fold w s, n < 16 → Does (.chkRunWrite n fold w) s (fun t => t = s.setChkUnit n (
    if (s.chkUnit n).busy then { s.chkUnit n with runIgn := true }
    else if fold then { s.chkUnit n with fold := w.toNat } else { s.chkUnit n with running := w.toNat }))) ∧
  (∀ n s, n < 16 → Does (.chkCntRead n) s (fun t => t = (s.setChkUnit n { s.chkUnit n with mism := 0, abandons := 0 }).returns
    ((s.chkUnit n).msgs + 65536 * (s.chkUnit n).mism + 16777216 * (s.chkUnit n).abandons)))

/-- Words of the command interface (R278, R320, R321, R324 to R327, R331 to R337, R339, R340, R346). -/
def Obligations.CommandInterfaceTakesPostsAndResets : Prop :=
  (∀ s, (∀ c ∈ s.host.cmds, c.stage ≠ .read) → Does .commandAcceptance s (fun t => t = s)) ∧
  (∀ c s, s.host.cmds.find? (fun x => x.stage == .read) = some c → s.cell.ready = true → bitAt (s.port c.hdr.port).held c.hdr.bank = false →
    Does .commandAcceptance s (fun t => ∃ d ∈ t.host.cmds, d.stage = .replied ∧ d.hasReply = false ∧ d.hdr = c.hdr ∧ d.reply.status = St.bankNotHeld)) ∧
  (∀ c s, s.host.cmds.find? (fun x => x.stage == .read) = some c → s.cell.ready = true → s.pair.role ≠ 1 →
    let h := (s.readHdr c.hdr).1
    let code := (s.readHdr c.hdr).2
    let a := s.blockAt h 32 h.len
    Passes (s.blockTests h a) → Passes (s.headTests h code) → s.argStatus h code a = none → h.txn = false →
    (h.atTick = true → s.earliest < s.targetEdge h) → Does .commandAcceptance s (fun t => ∃ d ∈ t.host.cmds,
      d.stage = (if h.atTick then .held else .waiting) ∧ d.commitAt = (if h.atTick then s.targetEdge h else s.earliest) ∧
      d.hdr = h ∧ d.code = code ∧ d.args = a ∧ d.acceptGtc = s.gtc)) ∧
  (∀ p w s, (s.port p).inbox.find? (fun w => field w.toNat 24 4 == 0) = some w → Does (.eventCreditGrant p) s (fun t =>
    t = s.setPort p { s.port p with credit := wrap 32 ((s.port p).credit + field w.toNat 0 16), inbox := (s.port p).inbox.erase w })) ∧
  (∀ p w s, (s.port p).inbox.find? (fun w => field w.toNat 24 4 == 1) = some w → Does (.bankHandover p) s (fun t =>
    bitAt (t.port p).held (field w.toNat 0 6) = true ∧ bitAt (t.port p).named (field w.toNat 0 6) = false ∧
    (t.port p).inbox = (s.port p).inbox.erase w ∧
    ((s.bank (field w.toNat 0 6)).newOwner = 0 → (s.bank (field w.toNat 0 6)).pending = true → s.owns 0 (field w.toNat 0 6) = false ∧
      t.owns 0 (field w.toNat 0 6) = true) ∧ Touches [.host, .pool] s t)) ∧
  (∀ b s, b < 64 → bitAt (s.port 4).named b = false → bitAt (s.port 5).named b = false → Does (.bankReturn b) s (fun t => t = s)) ∧
  (∀ b s, b < 64 → bitAt (s.port 4).held b = true → bitAt (s.port 4).named b = true → (∀ c ∈ s.host.cmds, c.keeps 4 b = false) →
    bitAt (s.port 5).held b = false → Does (.bankReturn b) s (fun t =>
      bitAt (t.port 4).held b = false ∧ (t.bank b).owner = 4 ∧ (t.bank b).pending = false)) ∧
  (∀ p c ch s, p = 4 ∨ p = 5 → (s.port p).inReset = false → s.host.cmds.find? (fun c => c.stage == .replied && c.hdr.port == p && !c.silent) = some c →
    s.emptyChan p = some ch → c.hasReply = false → c.extra = false → (s.port p).creditsDue = [] → s.isSender (s.chan ch) 0 = true → ch < 64 →
    Does (.responsePost p) s (fun t => (t.chan ch).word = c.word ∧ (t.chan ch).full = true ∧
      { c with stage := .posted, chan := ch } ∈ t.host.cmds ∧ t.pool.mem = s.pool.mem)) ∧
  (∀ p s, (s.port p).inReset = true → Does (.responsePost p) s (fun t => t = s)) ∧
  (∀ p s, (s.port p).inReset = true → Does (.eventPost p) s (fun t => t = s)) ∧
  (∀ p w ws s, p = 4 ∨ p = 5 → (s.port p).inReset = false → (s.port p).words = w :: ws → (s.chan (eventChan p)).full = false →
    s.isSender (s.chan (eventChan p)) 0 = true → Does (.eventPost p) s (fun t =>
      (t.chan (eventChan p)).word = w ∧ (t.chan (eventChan p)).full = true ∧ (t.port p).words = ws)) ∧
  (∀ x s, (∀ b ∈ s.pair.blocks, b.1 ≠ x) → Does (.shadowAckReceive x) s (fun t => t = s)) ∧
  (∀ x b s, s.pair.blocks.find? (fun b => b.1 == x) = some b → Does (.shadowAckReceive x) s (fun t =>
    (∀ y ∈ t.pair.blocks, y.1 ≠ x) ∧ (∀ y ∈ s.pair.blocks, y.1 ≠ x → y ∈ t.pair.blocks))) ∧
  (∀ p tag c s, s.host.cmds.find? (fun c => c.stage == .held && c.hdr.port == p && c.hdr.tag == tag) = some c → c.code = 0x0105 → c.silent = false →
    isHost p = true → Passes (needsSysEventMask c.hdr c.args (s.advanceTo c.commitAt)) → Does (.heldCommandCommit p tag) s (fun t =>
      (t.port p).mask = uAt c.args 0 2 ∧ ∃ d ∈ t.host.cmds, d.hdr = c.hdr ∧ d.stage = .replied ∧ d.reply = {} ∧
        d.commitTick = if c.commitAt ≤ s.cell.edge then s.cell.tick else c.commitAt / s.tickLen)) ∧
  (∀ p tag s, (∀ c ∈ s.host.cmds, c.stage ≠ .held) → Does (.heldCommandCommit p tag) s (fun t => t = s)) ∧
  (∀ id x s, s.host.txns.find? (fun x => x.id == id && !x.committing) = some x → Does (.txnExpiry id) s (fun t =>
    (∀ y ∈ t.host.txns, y.id ≠ id) ∧ Touches [.time, .host, .jrnl, .wnw] s t)) ∧
  (∀ p tag detail data c s, s.host.cmds.find? (fun c => c.stage == .running && c.hdr.port == p && c.hdr.tag == tag) = some c → c.code = 0x0708 →
    c.reply.status < 0x0200 → c.silent = false → isHost p = true → Does (.longCommandComplete p tag detail data) s (fun t =>
      { c with stage := .replied, reply := { data := data, detail := detail } } ∈ t.host.cmds ∧ Touches [.host, .nets] s t)) ∧
  (∀ p s, p = 4 ∨ p = 5 → Does (.hostPortReset p) s (fun t =>
    (t.port p).inReset = true ∧ (t.port p).credit = 0 ∧ (t.port p).queue = [] ∧ (t.port p).inbox = [] ∧ (t.bells p).pend = 0 ∧ (t.bells p).enable = 0 ∧
    (∀ k, k < 16 → t.lock k ≠ some p) ∧ (∀ ch, ch < 64 → (s.chan ch).ofPort p = true → (t.chan ch).full = false) ∧
    (∀ c ∈ t.host.cmds, c.hdr.port = p → c.silent = true))) ∧
  (∀ p s, p = 4 ∨ p = 5 → (s.port p).creditsDue = [] → Does (.hostResetEnd p) s (fun t => t = s.setPort p { s.port p with inReset := false })) ∧
  (∀ p s, p = 4 ∨ p = 5 → Does (.hostGtcLoRead p) s (fun t =>
    t = (s.setPort p { s.port p with gtcLatch := s.gtc, tickLatch := wrap 32 s.cell.tick, ofsLatch := wrap 20 (s.gtc - s.cell.edge) }).returns
      (wrap 32 s.gtc))) ∧
  (∀ p s, p = 4 ∨ p = 5 → Does (.hostAccessErrRead p) s (fun t =>
    t = (s.setPort p { s.port p with accessErr := 0 }).returns (s.port p).accessErr)) ∧
  (∀ p s, p ≠ 4 → p ≠ 5 → exec (.hostPortReset p) s = .fault (.noSuchUnit p) ∧ exec (.hostResetEnd p) s = .fault (.noSuchUnit p))

/-- QSPI transactions and plain register writes (R5, R6, R320, R356, R655, R656): a transaction with its reserved address bits set and a host write that is
not aligned are counted as refused accesses; the pool is reached word by word, a register by its access code. -/
def Obligations.RegisterAndQspiAccesses : Prop :=
  (∀ addr ws s, field addr 25 6 ≠ 0 → Does (.qspiWrite addr ws) s (fun t => t = s.accessErr 5)) ∧
  (∀ addr n s, field addr 25 6 ≠ 0 → Does (.qspiRead addr n) s (fun t => t = (s.accessErr 5).returns 0)) ∧
  (∀ addr (w : Word) s, field addr 25 6 = 0 → bitAt addr 31 = true → s.poolOk 5 (field addr 0 25) 4 = true →
    (∀ x ∈ wordsOf (field addr 0 25) 4, x ∉ s.pool.ueWords) → Does (.qspiWrite addr [w]) s (fun t =>
      ∀ b, t.poolByte b = if field addr 0 25 ≤ b ∧ b < field addr 0 25 + 4 then (toLE 4 w.toNat).getD (b - field addr 0 25) 0 else s.poolByte b)) ∧
  (∀ addr s, field addr 25 6 = 0 → bitAt addr 31 = true → s.poolOk 5 (field addr 0 25) 4 = true →
    (∀ x ∈ wordsOf (field addr 0 25) 4, x ∉ s.pool.ueWords) → Does (.qspiRead addr 1) s (fun t =>
      t = { s with rd := ofLE (s.memGet (field addr 0 25) 4) })) ∧
  (∀ s, Does (.qspiRead 0x600 1) s (fun t => t.rd = wrap 32 s.gtc ∧ (t.port 5).gtcLatch = s.gtc)) ∧
  (∀ s, Does (.qspiRead 0x80C 1) s (fun t => t = s.returns s.cell.epoch)) ∧
  (∀ m addr w s, isHost m = true → addr % 4 ≠ 0 → Does (.registerWrite m addr w) s (fun t => t = s.accessErr m)) ∧
  (∀ m addr w s, isHost m = true → addr % 4 = 0 → 0x10000 ≤ addr → Does (.registerWrite m addr w) s (fun t => t = s.accessErr m)) ∧
  (∀ m addr w s, isHost m = true → addr % 4 = 0 → 0x600 ≤ addr → addr < 0x10000 → Does (.registerWrite m addr w) s (fun t => t = s)) ∧
  (∀ n (w : Word) s, n < 16 → (s.chkUnit n).lathe = none → Does (.registerWrite 0 (0x40050018 + 0x40 * n) w) s (fun t =>
    t = s.setChkUnit n { s.chkUnit n with expected := w.toNat })) ∧
  (∀ (w : Word) s, Does (.registerWrite 0 0x40090000 w) s (fun t => t = { s with motion := { s.motion with pwmN := wrap 7 w.toNat } })) ∧
  (∀ e v (w : Word) s, e < 16 → (s.lathe e).running = some v → s.granted e 0x40090000 true = false →
    Does (.registerWrite (0x10 + e) 0x40090000 w) s (fun t => t.motion = s.motion ∧ t.cell = s.cell))

/-- The tick (R11, R14 to R16, R18, R153, R365, R649): an edge opens the tick that its GTC names and arms the next edge one tick later; the
work of the edge runs in the order of R649 on the opened tick; output assembly, the output seal and the guard band open at their offsets. -/
def Obligations.TickEdgesOpenTicksAndPhasesFollow : Prop :=
  (∀ g r s, s.power.inReset = true → Does (.tickEdge g r) s (fun t => t = s)) ∧
  (∀ g r s, s.power.inReset = false → Does (.tickEdge g r) s (fun t =>
    ∃ u, t = edgeEnd (edgeWork g r u) ∧ u.cell.edge = s.opensAt ∧ u.cell.tick = s.opensAt / s.openLen ∧
      u.cell.nextEdge = s.opensAt + s.openLen ∧ u.tickLen = s.openLen ∧ u.cell.assembling = false ∧ u.cell.sealed = false ∧ u.cell.guard = false ∧
      u.cell.state = s.cell.state ∧ u.cell.epoch = s.cell.epoch ∧ (s.changesNow = true → u.cell.change = none))) ∧
  (∀ s, s.cell.change = none → Does .tickLengthChange s (fun t => t = s)) ∧
  (∀ sel at_ s, s.cell.change = some (sel, at_) → s.cell.nextEdge < at_ → Does .tickLengthChange s (fun t => t = s)) ∧
  (∀ sel at_ s, s.cell.change = some (sel, at_) → at_ ≤ s.cell.nextEdge → Does .tickLengthChange s (fun t =>
    t.cell = { s.cell with tickSel := sel, change := none, nextEdge := at_ } ∧ t.pair.takeAt = s.pair.takeAt.map (reTick s.tickLen (tickNs sel)) ∧
    Touches [.time, .cell, .wnw, .motion, .claim, .fab, .pair, .grid] s t)) ∧
  (∀ s, Does .outputAssembly s (fun t => t.cell = { s.cell with assembling := true } ∧
    Touches [.time, .cell, .jrnl, .host, .wnw, .motion, .glume, .pair, .out] s t)) ∧
  (∀ s, Does .outputSeal s (fun t => t.cell.sealed = true ∧ t.cell.assembling = false ∧ t.cell.edge = s.cell.edge ∧ t.cell.tick = s.cell.tick ∧
    Touches [.time, .cell, .jrnl, .host, .lathes, .ctxs, .wnw, .motion, .glume, .pair, .out] s t)) ∧
  (∀ s, Does .guardBandStart s (fun t => t.cell = { s.cell with guard := true } ∧ Touches [.time, .cell, .lathes, .ctxs] s t))

/-- Tiller updates and watchdogs (R127, R137, R152), and claims that end or are revoked (R263, R267, R269, R270). -/
def Obligations.TillersServeAxesAndClaimsEnd : Prop :=
  (∀ a eb rb ecc s, a < 512 → (s.axis a).due = false → Does (.tillerUpdate a eb rb ecc) s (fun t => t = s)) ∧
  (∀ a eb rb ecc e place s, a < 512 → s.servedBy a = some (e, place) → (s.tiller e).tripped = true → Does (.tillerUpdate a eb rb ecc) s (fun t => t = s)) ∧
  (∀ a eb rb ecc e place s, a < 512 → s.servedBy a = some (e, place) → (s.axis a).due = true → (s.tiller e).tripped = false →
    (s.advanceTo (s.updateStart place (s.tiller e).late + (875 + 5 * (6 * ecc)) / 2)).gtc ≤ s.cell.edge + sealOfs s.cell.tickSel →
    Does (.tillerUpdate a eb rb ecc) s (fun t => (t.tiller e).updates = wrap 32 ((s.tiller e).updates + 1) ∧
      (t.tiller e).late = (s.tiller e).late + 6 * ecc ∧ (t.axis a).due = false ∧
      Touches [.time, .cell, .jrnl, .host, .wnw, .motion, .glume, .pair, .out] s t)) ∧
  (∀ n s, n < 9 → Does (.tillerWatchdog n) s (fun t => (t.tiller n).tripped = true ∧ t.wnw.marks = s.wnw.marks ++ [(21 + n, 2)] ∧
    (∀ m, m ≠ n → t.tiller m = s.tiller m) ∧ Touches [.wnw, .motion] s t)) ∧
  (∀ n s, n < 16 → (∀ c ∈ s.claim.claims, s.ownSource n c.source = false ∨ c.granted = false ∨ c.stop ≠ s.cell.tick) →
    Does (.claimHoldover n) s (fun t => t = s)) ∧
  (∀ n s, n < 16 → Does (.claimHoldover n) s (fun t => t.claim.claims = s.claim.claims ∧ t.claim.blocked = s.claim.blocked ∧
    (∀ m ∈ s.claim.msgs, m ∈ t.claim.msgs) ∧ (s.isShadow = false → ∀ c ∈ s.claim.claims, s.ownSource n c.source = true → c.granted = true →
      c.stop = s.cell.tick → ∀ z ∈ c.zones, c.isHeld z = false →
        (s.cell.tick + 2, ClaimMsg.holdover c.source z) ∈ t.claim.msgs ∨ (s.cell.tick + 2, ClaimMsg.release c.source z) ∈ t.claim.msgs) ∧
    Touches [.claim, .fab] s t)) ∧
  (∀ d s, d < 256 → s.claim.adopted.contains d = false → s.claim.taken.contains d = false → (s.pair.role ≠ 1 ∨ s.pair.peer ≠ d) →
    Does (.claimRevoke d) s (fun t => (∀ c ∈ s.claim.claims, c.source / 64 ≠ d → c.zones ≠ [] → c ∈ t.claim.claims) ∧ (∀ c ∈ t.claim.claims, c.source / 64 ≠ d) ∧
      (∀ m ∈ t.claim.msgs, m.2.fromNode d = false) ∧
      (∀ c ∈ s.claim.claims, c.source / 64 = d → ∀ z ∈ c.zones, (c.granted = true ∧ c.start ≤ s.cell.tick) ∨ c.isHeld z = true →
        t.claim.blocked.any (fun b => b.1 == z) = true) ∧
      t.claim.revoked = wrap 32 (s.claim.revoked + (s.claim.claims.filter (fun c => c.source / 64 == d)).length) ∧
      (d ≠ s.cell.node → (t.fabNode d).member = false))) ∧
  (∀ n a eb rb ecc s, (9 ≤ n → exec (.tillerWatchdog n) s = .fault (.noSuchUnit n)) ∧ (16 ≤ n → exec (.claimHoldover n) s = .fault (.noSuchUnit n)) ∧
    (512 ≤ a → exec (.tillerUpdate a eb rb ecc) s = .fault (.noSuchUnit a)))

/-- What a reset of the device leaves (R606, R608, R617, R653, R664): the state after reset, but for the identity, the non-volatile contents, the
always-on domain, the pins outside and the model's own records. -/
def Obligations.DeviceResetKeepsWhatIsNonVolatile : Prop :=
  ∀ cause s, let t := deviceReset cause s
    t.kept = s.kept ∧ t.images = s.images ∧ t.jrnl.retained = s.jrnl.retained ∧ t.jrnl.pages = s.jrnl.pages ∧ t.tap = s.tap ∧
    t.power.cause = cause ∧ t.power.slots = s.power.slots ∧ t.power.active = s.power.active ∧ t.power.minSecVer = s.power.minSecVer ∧
    t.power.bootGen = s.power.bootGen ∧ (t.cell.uid, t.cell.siRev, t.cell.grade) = (s.cell.uid, s.cell.siRev, s.cell.grade) ∧
    t.cell.state = State.reset.cell.state ∧ t.cell.ready = false ∧ t.time = State.reset.time ∧ t.pool = State.reset.pool ∧ t.mbx = State.reset.mbx ∧
    t.nets = State.reset.nets ∧ t.chisels = State.reset.chisels ∧ t.lathes = State.reset.lathes ∧ t.claim = State.reset.claim ∧
    t.glume = State.reset.glume ∧ t.pair = State.reset.pair ∧ t.pending = s.pending

/-- Resets, rails and the write inhibit (R198, R347, R596, R601, R605 to R611, R628, R629). -/
def Obligations.ResetsAndInhibitsTakeEffect : Prop :=
  (∀ s, s.tap.hold = true → Does .rstNLow s (fun t => t = s)) ∧
  (∀ s, s.tap.hold = false → Does .rstNLow s (fun t => t = { deviceReset 1 s with power := { (deviceReset 1 s).power with inReset := true } })) ∧
  (∀ s, Does (.railResetThreshold 1) s (fun t => t.glume.cut = true ∧ t.power.inReset = s.power.inReset)) ∧
  (∀ s, Does (.railResetThreshold 7) s (fun t => t.power.inReset = true ∧ t.power.cause = 0 ∧ t.tap = {})) ∧
  (∀ r s, r < 7 → r ≠ 1 → s.tap.hold = false → Does (.railResetThreshold r) s (fun t =>
    t = { deviceReset 2 s with power := { (deviceReset 2 s).power with inReset := true } })) ∧
  (∀ k s, s.tap.hold = true → Does (.powerOnReset k) s (fun t => t = s)) ∧
  (∀ k s, s.tap.hold = false → s.power.inReset = true → Does (.powerOnReset k) s (fun t =>
    t.power.inReset = false ∧ t.power.inhibitBy = s.power.inhibitBy.filter (· == 0) ∧ t.cell = s.cell ∧
    (s.power.cause = 0 → t.fab.strap = k.map (· % 256) ∧ t.wnw.hot85 = 0 ∧ t.wnw.hot105 = 0) ∧
    (s.power.cause ≠ 0 → t.fab = s.fab ∧ t.wnw = s.wnw) ∧ Touches [.power, .fab, .wnw] s t)) ∧
  (∀ s, s.cell.ready = true → Does .bootWatchdog s (fun t => t = s)) ∧
  (∀ s, s.cell.ready = false → Does .bootWatchdog s (fun t => t = deviceReset 5 s)) ∧
  (∀ s, s.power.resetAt = none → Does .deferredReset s (fun t => t = s)) ∧
  (∀ at_ cause s, s.power.resetAt = some (at_, cause) → Does .deferredReset s (fun t => t = deviceReset cause s)) ∧
  (∀ s, s.tap.hold = true ∨ s.power.inhibitBy.contains 0 = true → Does .pfwNAssert s (fun t => t = s)) ∧
  (∀ s, s.tap.hold = false → s.power.inhibitBy.contains 0 = false → Does .pfwNAssert s (fun t =>
    t.power.inhibit = true ∧ t.power.inhibitBy = s.power.inhibitBy ++ [0] ∧ t.power.pfwHigh = false ∧
    (s.power.inhibit = false → t.power.inhibitAt = s.gtc ∧ t.power.fwWriting = false) ∧ Touches [.power, .jrnl, .host, .wnw, .pair, .freeCount] s t)) ∧
  (∀ core s, s.tap.hold = false → s.power.inhibitBy.contains (if core then 2 else 1) = false → Does (.railInhibitThreshold core) s (fun t =>
    t.power.inhibit = true ∧ t.power.inhibitBy = s.power.inhibitBy ++ [if core then 2 else 1] ∧ t.power.pfwHigh = s.power.pfwHigh)) ∧
  (∀ s, s.power.inhibit = false → Does .inhibitRelease s (fun t => t = s)) ∧
  (∀ s, s.power.inhibit = true → Does .inhibitRelease s (fun t => t.power = { s.power with inhibit := false, inhibitBy := [], pfwHigh := true } ∧
    t.jrnl.heldBack = [] ∧ Touches [.power, .jrnl, .wnw] s t)) ∧
  (∀ s, s.pair.role ≠ 1 → Does (.pllLockLoss 0) s (fun t => t = deviceReset 6 s)) ∧
  (∀ p s, p = 1 ∨ p = 2 → Does (.pllLockLoss p) s (fun t =>
    Table.get 0 t.wnw.fails (2000 + p) = Table.get 0 s.wnw.fails (2000 + p) + 1 ∧ Touches [.wnw] s t)) ∧
  (∀ p r s, (3 ≤ p → exec (.pllLockLoss p) s = .fault (.noSuchUnit p)) ∧ (8 ≤ r → exec (.railResetThreshold r) s = .fault (.noSuchUnit r)))

/-- The stages of start-up (R302, R354, R525, R622, R626, R627, R630 to R634): each runs in its turn, and ends with its number and effect. -/
def Obligations.StartupStagesRunInOrder : Prop :=
  (∀ s, s.starting 0 = false → Does .bootSlotChoice s (fun t => t = s)) ∧
  (∀ s, s.starting 0 = true → s.bootSlot = none → Does .bootSlotChoice s (fun t => t.cell.state = 6)) ∧
  (∀ k s, s.starting 0 = true → s.bootSlot = some k → Does .bootSlotChoice s (fun t =>
    t.power.running = k ∧ t.power.stage = 2 ∧ t.cell.fwRelease = (s.fwSlot k).release ∧ t.cell.state = s.cell.state ∧
    (s.power.inhibit = false → t.power.trial = false) ∧
    t.custKey = if (s.retained 4 0).valid then some (s.retained 4 0).body else none)) ∧
  (∀ fs p s, s.starting 2 = false → Does (.startupSelfTest fs p) s (fun t => t = s)) ∧
  (∀ p s, s.starting 2 = true → Does (.startupSelfTest [] p) s (fun t =>
    t.power.stage = 3 ∧ t.power.startFailed = (if p then [250] else []) ∧ t.wnw.run = true ∧ Touches [.power, .wnw] s t)) ∧
  (∀ fs p s, s.starting 2 = true → 0 ∈ fs ∨ 35 ∈ fs → Does (.startupSelfTest fs p) s (fun t => t.power.inReset = true ∧ t.power.cause = s.power.cause)) ∧
  (∀ s, s.starting 3 = false → Does .glumeStartup s (fun t => t = s)) ∧
  (∀ s, s.starting 3 = true → Does .glumeStartup s (fun t => t.power.stage = 4 ∧ t.jrnl.retained = s.jrnl.retained ∧
    (s.power.startFailed = [] → t.cell = s.cell ∧ t.power.halted = s.power.halted) ∧
    (s.power.startFailed.contains 250 = true → t.power.halted = true ∧ t.cell.ready = true ∧ t.cell.fault = true))) ∧
  (∀ l s, s.starting 4 = false → Does (.startupImageLoad l) s (fun t => t = s)) ∧
  (∀ l s, s.starting 4 = true → Does (.startupImageLoad l) s (fun t => t.power.stage = 5 ∧
    ∀ n ∈ l, 1 ≤ n → n ≤ 6 → (t.base n).servoEn = true → (t.base n).locked = true)) ∧
  (∀ s, s.starting 5 = false → Does .startupFabricJoin s (fun t => t = s)) ∧
  (∀ s, s.starting 5 = true → (s.retained 5 0).valid = false → Does .startupFabricJoin s (fun t => t.power.stage = 6 ∧ t.fab.key = none ∧
    t.cell.role = s.cell.role ∧ t.cell.epoch = (s.lastRole.map (fun b => uAt b 0 4)).getD s.cell.epoch)) ∧
  (∀ s, s.starting 6 = false → Does .startupConfigRestore s (fun t => t = s)) ∧
  (∀ s, s.starting 6 = true → Does .startupConfigRestore s (fun t => t.cell.ready = true ∧ t.cell.state = (if s.kept.isSome then 3 else 2) ∧
    t.power.stage = 0 ∧ (s.power.inhibit = false → t.power.active = s.power.running) ∧ s.power.minSecVer ≤ t.power.minSecVer)) ∧
  (∀ ch s, s.cell.state ≠ 6 → Does (.recoverWord ch) s (fun t => t = s)) ∧
  (∀ ch s, s.cell.state = 6 → ch = 0 ∨ ch = 16 → (s.chan ch).full = true → Does (.recoverWord ch) s (fun t =>
    let w := (s.chan ch).word.toNat
    let bs := s.memGet 0 (16 * (w % 2 ^ 24))
    if w / 2 ^ 24 = 0 ∧ fwReason bs s.power.minSecVer = 0 ∧ s.power.inhibit = false then
      t.power.active = 0 ∧ t.power.bootGen = wrap 32 (s.power.bootGen + 1) ∧ t.fwSlot 0 = fwRecord bs ∧ t.cell.state = State.reset.cell.state
    else (t.chan ch).full = false ∧ t.power = s.power ∧ t.cell = s.cell))

/-- The test access port (R664 to R669): an instruction that does not take the pins selects its register; one that does resets and holds
the device with its safe outputs off, and has the pins 20 us later. The identification register reads 0x28860A3F: version 2, part 0x8860,
manufacturer 0x51F (R666). -/
def Obligations.TapInstructionsSelectRegistersAndHold : Prop :=
  (∀ s, Does .tapReset s (fun t => t = { s with tap := { s.tap with ir := 1, dr := idCode, takesAt := none, taken := false } })) ∧
  (∀ s, Does .tapIdcode s (fun t => t = { s with tap := { s.tap with ir := 1, dr := 0x28860A3F, takesAt := none, taken := false } })) ∧
  (∀ s, Does .tapBypass s (fun t => t = { s with tap := { s.tap with ir := 0x1F, dr := 0, takesAt := none, taken := false } })) ∧
  (∀ p s, Does (.tapSamplePreload p) s (fun t => t.tap.ir = 2 ∧ t.tap.taken = false ∧ t.tap.hold = s.tap.hold ∧
    t.tap.update = p % 2 ^ Config.scanCells ∧ t.tap.dr < 2 ^ Config.scanCells ∧ Touches [.tap, .freeCount] s t)) ∧
  (∀ s, s.tap.hold = false → Does .tapExtest s (fun t => t.tap.ir = 0 ∧ t.tap.hold = true ∧ t.tap.takesAt = some (t.gtc + 20000) ∧ t.tap.taken = false ∧
    t.power.inReset = true ∧ t.custKey = none ∧ t.glume.cut = true ∧ ∀ o ∈ t.glume.outputs, o.2.high = false ∧ o.2.low = false)) ∧
  (∀ s, s.tap.hold = false → Does .tapClamp s (fun t => t.tap.ir = 3 ∧ t.tap.hold = true ∧ t.tap.takesAt = some (t.gtc + 20000) ∧ t.tap.dr = 0 ∧
    t.power.inReset = true ∧ t.custKey = none ∧ t.glume.cut = true ∧ ∀ o ∈ t.glume.outputs, o.2.high = false ∧ o.2.low = false)) ∧
  (∀ s, s.tap.hold = false → Does .tapHighz s (fun t => t.tap.ir = 4 ∧ t.tap.hold = true ∧ t.tap.takesAt = some (t.gtc + 20000) ∧ t.tap.dr = 0 ∧
    t.power.inReset = true ∧ t.custKey = none ∧ t.glume.cut = true ∧ ∀ o ∈ t.glume.outputs, o.2.high = false ∧ o.2.low = false)) ∧
  (∀ s, s.tap.hold = true → Does .tapClamp s (fun t => t = { s with tap := { s.tap with ir := 3, dr := 0, takesAt := some (s.gtc + 20000), taken := false } })) ∧
  (∀ s, s.tap.hold = true → Does .tapHighz s (fun t => t = { s with tap := { s.tap with ir := 4, dr := 0, takesAt := some (s.gtc + 20000), taken := false } })) ∧
  (∀ s, s.tap.hold = true → Does .tapExtest s (fun t => t.tap.ir = 0 ∧ t.tap.takesAt = some (s.gtc + 20000) ∧ Touches [.tap, .freeCount] s t)) ∧
  (∀ s, s.tap.hold = true → Does .tapExtestPulse s (fun t => t.tap.ir = 5 ∧ t.tap.takesAt = some (s.gtc + 20000) ∧ Touches [.tap, .freeCount] s t)) ∧
  (∀ s, s.tap.hold = true → Does .tapExtestTrain s (fun t => t.tap.ir = 6 ∧ t.tap.takesAt = some (s.gtc + 20000) ∧ Touches [.tap, .freeCount] s t)) ∧
  (∀ s, s.tap.takesAt = none → Does .tapPinControlTakeover s (fun t => t = s)) ∧
  (∀ at_ s, s.tap.takesAt = some at_ → Does .tapPinControlTakeover s (fun t =>
    t.tap = { s.tap with takesAt := none, taken := true } ∧ Touches [.time, .tap] s t)) ∧
  field 0x28860A3F 28 4 = 2 ∧ field 0x28860A3F 12 16 = 0x8860 ∧ field 0x28860A3F 1 11 = 0x51F ∧ bitAt 0x28860A3F 0 = true

/-- Fabric links, frames and slots (R506 to R515, R521, R537, R544 to R550): what each row counts, forwards and sends. -/
def Obligations.FabricLinksFramesAndSlots : Prop :=
  (∀ p s, p < 4 → s.lost (77 + p) = true → Does (.fabricLinkUp p) s (fun t => t = s)) ∧
  (∀ p s, p < 4 → s.lost (77 + p) = false → Does (.fabricLinkUp p) s (fun t =>
    t.fabPort p = { s.fabPort p with link := true, blockLock := true, hiBer := false } ∧ (∀ q, q ≠ p → t.fabPort q = s.fabPort q) ∧ Touches [.fab] s t)) ∧
  (∀ p b s, p < 4 → Does (.fabricLinkDown p b) s (fun t =>
    (t.fabPort p).link = false ∧ (t.fabPort p).hiBer = b ∧ (t.fabPort p).blockLock = b ∧
    (t.fabPort p).linkDowns = (if (s.fabPort p).link then wrap 32 ((s.fabPort p).linkDowns + 1) else (s.fabPort p).linkDowns) ∧
    (∀ q, q ≠ p → t.fabPort q = s.fabPort q) ∧ Touches [.fab] s t)) ∧
  (∀ p f stamp s, p < 4 → f.intact = false → Does (.fabricFrameReceive p f stamp) s (fun t =>
    (t.fabPort p).checkErr = wrap 32 ((s.fabPort p).checkErr + 1) ∧
    t.out = (if (s.cell.nodeValid = false ∨ f.src ≠ s.cell.node) ∧ 1 < f.hops then
      s.out ++ [.fabric (if p % 2 = 0 then p + 1 else p - 1) { f with hops := f.hops - 1 }] else s.out) ∧ Touches [.fab, .out] s t)) ∧
  (∀ p f stamp s, p < 4 → f.intact = true → f.valid = false → Does (.fabricFrameReceive p f stamp) s (fun t =>
    t.fab = { s.fab with badFrame := wrap 32 (s.fab.badFrame + 1) } ∧ Touches [.fab, .out] s t)) ∧
  (∀ p f l stamp s, p < 4 → f.intact = true → f.valid = true → f.body = .slot l → s.cell.nodeValid = true → f.src = s.cell.node →
    Does (.fabricFrameReceive p f stamp) s (fun t => t.pair = { s.pair with echoRun := 0 } ∧ t.out = s.out ∧ t.motion = s.motion ∧ t.claim = s.claim)) ∧
  (∀ p f l stamp s, p < 4 → f.intact = true → f.valid = true → f.body = .slot l → f.src ≠ s.cell.node → f.seq ∈ (s.fabNode f.src).seqs →
    Does (.fabricFrameReceive p f stamp) s (fun t => (t.fabNode f.src).seqs = (s.fabNode f.src).seqs ∧ (t.fabNode f.src).came = true ∧
      Touches [.fab, .out] s t)) ∧
  (∀ p f due m stamp s, p < 4 → f.intact = true → f.valid = true → f.body = .slot [.claim due m] → f.src ≠ s.cell.node →
    f.seq ∉ (s.fabNode f.src).seqs → s.inFabric = true → (s.fabNode f.src).member = true → f.cycle = wrap 32 s.cell.tick → f.bcast = true →
    f.epoch = s.cell.epoch → s.cell.epoch < 2 ^ 32 → s.fab.thisEpoch = s.cell.epoch → s.fab.active = false →
    Does (.fabricFrameReceive p f stamp) s (fun t => t.claim.msgs = s.claim.msgs ++ [(due, m)] ∧ f.seq ∈ (t.fabNode f.src).seqs ∧ t.motion = s.motion)) ∧
  (∀ i e s, s.mayInsert = false → Does (.slotWindowOpen i e) s (fun t => t = s)) ∧
  (∀ i x s, s.mayInsert = true → s.fab.sched.slots[i]? = some x → x.owner = s.cell.node → x.ring ∈ s.myRings →
    Does (.slotWindowOpen i true) s (fun t => t = { s with fab := { s.fab with
      guardCuts := wrap 32 (s.fab.guardCuts + 1), cutAt := s.fab.cutAt ++ [s.cell.tick] } })) ∧
  (∀ i x s, s.mayInsert = true → s.fab.sched.slots[i]? = some x → x.owner = s.cell.node → x.ring ∈ s.myRings → x.kind = 4 →
    (∀ q ∈ s.fab.relays, q.1 ≠ x.ring) → Does (.slotWindowOpen i false) s (fun t => t.fab.relays = s.fab.relays ∧ t.out = s.out ∧
      Touches [.time, .fab] s t)) ∧
  (∀ i c s, s.fab.sched.slots[i]? = none → Does (.slotWindowClose i c) s (fun t => t = s)) ∧
  (∀ i x s, s.fab.sched.slots[i]? = some x → x.ring ∈ s.myRings → x.owner = s.cell.node → s.fab.cutAt = [] → x.kind ≠ 0 → s.fab.sched.ints = [] →
    Does (.slotWindowClose i true) s (fun t => t.fab.guardCuts = wrap 32 (s.fab.guardCuts + 1) ∧ t.out = s.out ++ [.cut x.ring])) ∧
  (∀ s, Does .cycleFrameMissing s (fun t => t = { s with fab := { s.fab with
    extrap := min 5 (s.fab.extrap + 1), rho := s.fab.rho + s.tickLen, cycleMiss := s.fab.cycleMiss + 1 } })) ∧
  (∀ s, s.inFabric = false → Does .cycleMasterDeparted s (fun t => t = s)) ∧
  (∀ d s, s.inFabric = true → lowest 256 (fun d => (s.fab.coldOk.filter (· != s.fab.master)).contains d && (s.fabNode d).member) = some d →
    Does .cycleMasterDeparted s (fun t => t.fab.master = d ∧ t.fab.cycleMiss = 0 ∧ (s.fab.sleep.state = 1 → t.fab.sleep.state = 3) ∧
      t.cell.role = (if d = s.cell.node ∧ s.cell.role = 1 then 0 else s.cell.role))) ∧
  (∀ s, s.inFabric = false → Does .announceSend s (fun t => t = s)) ∧
  (∀ s, s.inFabric = true → Does .announceSend s (fun t => (none, s.announcement) ∈ t.fab.waiting ∧
    (∀ q ∈ s.fab.waiting, recType q.2 ≠ 1 → q ∈ t.fab.waiting) ∧ t = { s with fab := { s.fab with waiting := t.fab.waiting } })) ∧
  (∀ p f stamp b s, 4 ≤ p → exec (.fabricFrameReceive p f stamp) s = .fault (.noSuchUnit p) ∧ exec (.fabricLinkUp p) s = .fault (.noSuchUnit p) ∧
    exec (.fabricLinkDown p b) s = .fault (.noSuchUnit p))

/-- Transfers on the fabric (R297, R526, R531): segments in order are taken and acknowledged, acknowledged ones are dropped, and an
unacknowledged one is sent again up to the 16th time. -/
def Obligations.FabricTransfersAcknowledgeAndResend : Prop :=
  (∀ peer xfer ofs total len e s, s.inFabric = true → ofs + len < total →
    (s.fab.receiving.find? (fun b => b.peer == peer && b.xfer == xfer)).all (fun b => b.acked == ofs) = true → (0 < ofs → s.fab.receiving.any (fun b => b.peer == peer && b.xfer == xfer) = true) →
    Does (.bulkSegmentReceive peer xfer ofs total len e) s (fun t =>
      (some peer, FabRec.bulkAck xfer (ofs + len)) ∈ t.fab.waiting ∧
      (∃ b ∈ t.fab.receiving, b.peer = peer ∧ b.xfer = xfer ∧ b.acked = ofs + len) ∧ Touches [.fab] s t)) ∧
  (∀ peer xfer total len s, s.inFabric = true → total ≤ len → s.fab.receiving = [] →
    Does (.bulkSegmentReceive peer xfer 0 total len .none) s (fun t =>
      (some peer, FabRec.bulkAck xfer len) ∈ t.fab.waiting ∧ t.fab.receiving = [] ∧ Touches [.fab] s t)) ∧
  (∀ peer xfer acked s, Does (.bulkAckReceive peer xfer acked) s (fun t =>
    (∀ b ∈ s.fab.sending, b.peer = peer → b.xfer = xfer → b.acked < acked → acked < b.total → { b with acked := acked, resends := 0 } ∈ t.fab.sending) ∧
    (∀ b ∈ s.fab.sending, b.peer ≠ peer ∨ b.xfer ≠ xfer → b ∈ t.fab.sending) ∧
    (∀ b ∈ t.fab.sending, b.peer = peer → b.xfer = xfer → b.acked < b.total) ∧ t = { s with fab := { s.fab with sending := t.fab.sending } })) ∧
  (∀ peer xfer s, (∀ b ∈ s.fab.sending, b.peer ≠ peer ∨ b.xfer ≠ xfer) → Does (.bulkResend peer xfer) s (fun t => t = s)) ∧
  (∀ peer xfer b s, s.fab.sending.find? (fun b => b.peer == peer && b.xfer == xfer) = some b → b.resends < 15 → Does (.bulkResend peer xfer) s (fun t =>
    t.fab.bulkRetx = wrap 32 (s.fab.bulkRetx + 1) ∧ { b with sent := b.acked, resends := b.resends + 1 } ∈ t.fab.sending ∧ Touches [.fab] s t)) ∧
  (∀ peer xfer b s, s.fab.sending.find? (fun b => b.peer == peer && b.xfer == xfer) = some b → 15 ≤ b.resends → Does (.bulkResend peer xfer) s (fun t =>
    t.fab.bulkRetx = wrap 32 (s.fab.bulkRetx + 1) ∧ (∀ c ∈ t.fab.sending, c.peer ≠ peer ∨ c.xfer ≠ xfer) ∧ (b.use ≠ 0 → t.out = s.out)))

/-- The exchange of a join (R517, R519, R526 to R528): what the cycle master and the joiner do on J1 to J4, and at the end of the transfer. The
nonces are free values (log entry 2). -/
def Obligations.JoinExchangeAuthenticatesBothSides : Prop :=
  (∀ port uid req strap kept rings far nj s, port < 4 → s.inFabric = false ∨ s.fab.master ≠ s.cell.node →
    Does (.joinJ1Receive port uid req strap kept rings far nj) s (fun t => t = s)) ∧
  (∀ port uid req strap kept rings far nj s, port < 4 → s.inFabric = true → s.fab.master = s.cell.node → s.lockedOut uid = true →
    Does (.joinJ1Receive port uid req strap kept rings far nj) s (fun t => t = sendJ4 uid 0 6 s)) ∧
  (∀ port uid req strap kept rings nj s, port < 4 → s.inFabric = true → s.fab.master = s.cell.node → s.lockedOut uid = false →
    Does (.joinJ1Receive port uid req strap kept rings true nj) s (fun t => t = sendJ4 uid 0 5 s)) ∧
  (∀ port uid req kept nj d s, port < 4 → s.inFabric = true → s.fab.master = s.cell.node → s.lockedOut uid = false → s.members.length < 256 →
    s.fab.serving = [] → s.holdsNode d = false → Does (.joinJ1Receive port uid req (some d) kept 0 false nj) s (fun t =>
      ∃ nm, nm.length = 16 ∧ t.fab.serving = [{ uid := uid, req := req, strap := some d, kept := kept, nj := nj, node := d, src := 0, nm := nm, sent := true }] ∧
        t.out = (sendJoin s.fab.mine 2 uid d 0 (nm ++ hmac s.fabKey (macM uid d nj nm s.cell.epoch)) s).out ∧ Touches [.fab, .out, .freeCount] s t)) ∧
  (∀ port uid req kept nj d s, port < 4 → s.inFabric = true → s.fab.master = s.cell.node → s.lockedOut uid = false → s.members.length < 256 →
    s.fab.serving = [] → s.holdsNode d = true → Does (.joinJ1Receive port uid req (some d) kept 0 false nj) s (fun t => t.out = (sendJ4 uid 0 4 s).out ∧
      t.fab.serving = [])) ∧
  (∀ uid mac s, s.fab.serving = [] → Does (.joinJ3Receive uid mac) s (fun t => t = s)) ∧
  (∀ x mac s, s.fab.serving = [x] → x.sent = true → mac ≠ hmac s.fabKey (macJ x.uid x.node x.nm x.nj s.cell.epoch) →
    Does (.joinJ3Receive x.uid mac) s (fun t => t.fab.authFail = wrap 32 (s.fab.authFail + 1) ∧ (x.uid, s.gtc) ∈ t.fab.authFails ∧ t.fab.serving = [] ∧
      t.fab.sending = s.fab.sending ∧ t.out = (sendJ4 x.uid x.node 2 s).out)) ∧
  (∀ x s, s.fab.serving = [x] → x.sent = true → Does (.joinJ3Receive x.uid (hmac s.fabKey (macJ x.uid x.node x.nm x.nj s.cell.epoch))) s (fun t =>
    t.fab.serving = [] ∧ t.fab.authFail = s.fab.authFail ∧ t.out = (sendJ4 x.uid x.node 0 s).out ∧
    ∃ b ∈ t.fab.sending, b.peer = x.node ∧ b.use = 0 ∧ b.xfer = s.fab.nextXfer ∧ b.acked = 0)) ∧
  (∀ uid node nm mac epoch s, uid ≠ s.cell.uid ∨ s.fab.join.stage ≠ 2 → Does (.joinJ2Receive uid node nm mac epoch) s (fun t => t = s)) ∧
  (∀ node nm epoch s, s.fab.join.stage = 2 →
    Does (.joinJ2Receive s.cell.uid node nm (hmac s.fabKey (macM s.cell.uid node s.fab.join.nonce nm epoch)) epoch) s (fun t =>
      t.fab.join = { s.fab.join with stage := 3, node := node, since := s.gtc } ∧
      t.out = (sendJoin s.fab.mine 3 s.cell.uid node 0 (hmac s.fabKey (macJ s.cell.uid node nm s.fab.join.nonce epoch)) s).out ∧ Touches [.fab, .out] s t)) ∧
  (∀ node nm mac epoch s, s.fab.join.stage = 2 → mac ≠ hmac s.fabKey (macM s.cell.uid node s.fab.join.nonce nm epoch) →
    Does (.joinJ2Receive s.cell.uid node nm mac epoch) s (fun t => t.fab.authFail = wrap 32 (s.fab.authFail + 1) ∧ t.out = s.out ∧
      (s.fab.join.fails < 2 → t.fab.join.fails = s.fab.join.fails + 1 ∧ t.fab.join.stage = 2) ∧ (2 ≤ s.fab.join.fails → t.fab.join.stage = 0))) ∧
  (∀ uid node r s, uid ≠ s.cell.uid ∨ (s.fab.join.stage ≠ 2 ∧ s.fab.join.stage ≠ 3 ∧ s.fab.join.stage ≠ 4) →
    Does (.joinJ4Receive uid node r) s (fun t => t = s)) ∧
  (∀ node s, s.fab.join.stage = 3 → Does (.joinJ4Receive s.cell.uid node 0) s (fun t =>
    t = { s with fab := { s.fab with join := { s.fab.join with stage := 4, node := node, since := s.gtc } } })) ∧
  (∀ node r s, s.fab.join.stage = 2 ∨ s.fab.join.stage = 3 ∨ s.fab.join.stage = 4 → r ≠ 0 → r ≠ 2 →
    Does (.joinJ4Receive s.cell.uid node r) s (fun t => t.fab.join = {} ∧
      ∀ c ∈ s.host.cmds, c.code = 0x0902 → c.stage = .running →
        { c with stage := .replied, reply := { status := joinStatus r, detail := r } } ∈ t.host.cmds)) ∧
  (∀ s, s.fab.join.stage ≠ 2 → s.fab.join.stage ≠ 3 → Does .joinJ1Repeat s (fun t => t = s)) ∧
  (∀ s, s.fab.join.stage = 2 ∨ s.fab.join.stage = 3 → Does .joinJ1Repeat s (fun t => t.fab.join.stage = 2 ∧ t.fab.join.nonce.length = 16 ∧
    t.fab.join.since = s.gtc ∧ (bitAt s.fab.mine 0 = true → t.out.length = s.out.length + (if bitAt s.fab.mine 1 then 2 else 1)) ∧
    Touches [.fab, .out, .freeCount] s t)) ∧
  (∀ x s, s.fab.join.stage ≠ 4 → Does (.joinTransferComplete x) s (fun t => t = s)) ∧
  (∀ x s, s.fab.join.stage = 4 → Does (.joinTransferComplete x) s (fun t =>
    t.cell.role = 3 ∧ t.cell.epoch = x.epoch ∧ t.cell.node = s.fab.join.node ∧ t.cell.nodeValid = true ∧ t.fab.map = x.map ∧ t.fab.sched = x.sched ∧
    t.fab.master = x.master ∧ t.fab.join = {} ∧ (t.fabNode s.fab.join.node).member = true ∧ t.claim.claims = x.claims ∧
    ∀ c ∈ s.host.cmds, c.code = 0x0902 → c.stage = .running → { c with stage := .replied, reply := {} } ∈ t.host.cmds))

/-- A cold start (R517, R526, R551 to R553): 200 ms of silence start an attempt or end the join, an attempt is judged 70 us later, a collision is
repeated after the back-off, and CYCLE frames begin 1 ms after the start. -/
def Obligations.ColdStartElectsOneDevice : Prop :=
  (∀ s, s.fab.join.stage ≠ 1 → Does .coldStartTimeout s (fun t => t = s)) ∧
  (∀ s, s.fab.join.stage = 1 → s.fab.join.coldOk = false → Does .coldStartTimeout s (fun t => t.fab.join = {} ∧ t.out = s.out ∧
    ∀ c ∈ s.host.cmds, c.code = 0x0902 → c.stage = .running → { c with stage := .replied, reply := { status := St.badState, detail := 1 } } ∈ t.host.cmds)) ∧
  (∀ s, s.fab.join.stage = 1 → s.fab.join.coldOk = true → s.coldNode = none → Does .coldStartTimeout s (fun t => t.fab.join = {} ∧ t.out = s.out ∧
    ∀ c ∈ s.host.cmds, c.code = 0x0902 → c.stage = .running → { c with stage := .replied, reply := { status := St.bindConflict, detail := 3 } } ∈ t.host.cmds)) ∧
  (∀ d src s, s.fab.join.stage = 1 → s.fab.join.coldOk = true → s.coldNode = some (d, src) → Does .coldStartTimeout s (fun t =>
    t.cell.node = d ∧ t.cell.nodeValid = true ∧ t.fab.nodeSrc = src ∧ t.fab.join.stage = 5 ∧ t.fab.join.since = t.gtc ∧ t.fab.join.echo = [] ∧
    t.fab.seq = wrap 16 (s.fab.seq + 1) ∧ Touches [.time, .cell, .fab, .out] s t)) ∧
  (∀ s, s.fab.join.stage ≠ 5 → Does .coldStartJudge s (fun t => t = s)) ∧
  (∀ s, s.fab.join.stage = 5 → s.fab.join.clash = true → Does .coldStartJudge s (fun t => t.fab.join = {} ∧
    ∀ c ∈ s.host.cmds, c.code = 0x0902 → c.stage = .running → { c with stage := .replied, reply := { status := St.bindConflict, detail := 4 } } ∈ t.host.cmds)) ∧
  (∀ s, s.fab.join.stage = 5 → s.fab.join.clash = false → s.fab.join.foreign ≠ [] → Does .coldStartJudge s (fun t =>
    t.fab.join = { s.fab.join with stage := 6, since := t.gtc } ∧ Touches [.time, .fab] s t)) ∧
  (∀ s, s.fab.join.stage = 5 → s.fab.join.clash = false → s.fab.join.foreign = [] →
    (∀ r, r < 2 → bitAt s.fab.mine r = true → 2 * r ∈ s.fab.join.echo ∨ 2 * r + 1 ∈ s.fab.join.echo) → (s.retained 9 0).valid = false →
    Does .coldStartJudge s (fun t => t.cell.role = 0 ∧ t.fab.master = s.cell.node ∧ t.fab.coldOk = [s.cell.node] ∧ t.fab.join.stage = 7 ∧
      (t.fabNode s.cell.node).member = true ∧ t.fab.map = s.fab.join.map ∧
      ∀ c ∈ s.host.cmds, c.code = 0x0902 → c.stage = .running → { c with stage := .replied, reply := {} } ∈ t.host.cmds)) ∧
  (∀ s, s.fab.join.stage ≠ 6 → Does .coldStartBackoffEnd s (fun t => t = s)) ∧
  (∀ s, s.fab.join.stage = 6 → Does .coldStartBackoffEnd s (fun t => t.fab.coldCollisions = wrap 32 (s.fab.coldCollisions + 1) ∧ t.fab.join.stage = 5 ∧
    t.fab.join.attempt = wrap 32 (s.fab.join.attempt + 1) ∧ t.fab.join.clash = false ∧ Touches [.time, .fab, .out] s t)) ∧
  (∀ s, s.fab.join.stage ≠ 7 ∨ s.cell.edge < s.fab.join.since + 1000000 → Does .cycleStartAfterCold s (fun t => t = s)) ∧
  (∀ s, s.fab.join.stage = 7 → s.fab.join.since + 1000000 ≤ s.cell.edge → s.fab.listenOnly = false → s.cell.role = 0 → s.fab.master = s.cell.node →
    s.inFabric = true → s.fab.mine = 1 → Does .cycleStartAfterCold s (fun t => t.fab.join = {} ∧ t.out.length = s.out.length + 2 ∧ t.fab.rho = s.cell.edge ∧
      t.fab.extrap = 0 ∧ Touches [.fab, .out] s t))

/-- Sleep and wake of a fabric (R554 to R560): the agreement, its entry, the latched wake and the false wake. -/
def Obligations.FabricSleepsAndWakes : Prop :=
  (∀ s, s.fab.sleep.state = 1 → Does .sleepPointOfNoReturn s (fun t => t = { s with fab := { s.fab with sleep := { s.fab.sleep with state := 2 } } })) ∧
  (∀ s, s.fab.sleep.state ≠ 1 → Does .sleepPointOfNoReturn s (fun t => t = s)) ∧
  (∀ s, s.fab.sleep.state = 0 ∨ s.fab.sleep.state = 3 → Does .sleepEntry s (fun t => t = s)) ∧
  (∀ s, s.fab.sleep.state ≠ 0 → s.fab.sleep.state ≠ 3 → s.cell.node ∉ s.fab.sleep.nodes → Does .sleepEntry s (fun t =>
    t.fab.sleep = { s.fab.sleep with state := 0 } ∧ (∀ d ∈ s.fab.sleep.nodes, (t.fabNode d).asleep = some s.cell.tick) ∧
    (∀ d, d ∉ s.fab.sleep.nodes → t.fabNode d = s.fabNode d) ∧ Touches [.fab] s t)) ∧
  (∀ s, s.fab.sleep.state ≠ 0 → s.fab.sleep.state ≠ 3 → s.cell.node ∈ s.fab.sleep.nodes → Does .sleepEntry s (fun t =>
    t.cell.state = 8 ∧ t.cell.wakeTo = s.cell.state ∧ t.cell.role = 4 ∧ t.fab.sleep.entering = some s.cell.edge ∧ t.fab.sleep.portsTold = false ∧
    t.fab.sleep.oldRole = s.cell.role ∧ t.fab.sleep.state = 0)) ∧
  (∀ s, s.fab.sleep.entering = none → Does .sleepEntryComplete s (fun t => t = s)) ∧
  (∀ e s, s.fab.sleep.entering = some e → s.fab.sleep.latch = false → Does .sleepEntryComplete s (fun t =>
    t = { s with fab := { s.fab with sleep := { s.fab.sleep with entering := none, portsTold := true } } })) ∧
  (∀ e s, s.fab.sleep.entering = some e → s.fab.sleep.latch = true → Does .sleepEntryComplete s (fun t =>
    t.cell.state = s.cell.wakeTo ∧ t.fab.sleep.entering = none ∧ t.fab.sleep.portsTold = true)) ∧
  (∀ s, s.fab.sleep.entering.isSome = true → s.fab.sleep.portsTold = false → Does .failsafeSleep s (fun t =>
    t = { s with fab := { s.fab with failsafe := wrap 32 (s.fab.failsafe + 1), sleep := { s.fab.sleep with portsTold := true } } })) ∧
  (∀ s, s.fab.sleep.entering = none ∨ s.fab.sleep.portsTold = true → Does .failsafeSleep s (fun t => t = s)) ∧
  (∀ n r s, r < 256 → s.inFabric = false ∨ s.fab.master ≠ s.cell.node ∨ 256 ≤ n → Does (.wakeRequest n r) s (fun t => t = s)) ∧
  (∀ n r s, r < 256 → n < 256 → s.inFabric = true → s.fab.master = s.cell.node → s.fab.sleep.state = 1 → s.cell.tick < s.fab.sleep.pnr → s.gtc < s.pnrEdge →
    Does (.wakeRequest n r) s (fun t => t.fab.sleep.state = 3 ∧ Touches [.fab] s t)) ∧
  (∀ n r s, r < 256 → n < 256 → s.inFabric = true → s.fab.master = s.cell.node → s.fab.sleep.state = 2 → s.fab.sleep.nodes ≠ [] →
    Does (.wakeRequest n r) s (fun t => t.fab.sleep.latch = true ∧ t.fab.sleep.state = 2 ∧ Touches [.fab] s t)) ∧
  (∀ r n s, 256 ≤ r → exec (.wakeRequest n r) s = .fault (.noSuchUnit r)) ∧
  (∀ s, Does .fwakeNAssert s (fun t => t.fab.sleep.fwakeIn = true ∧
    (s.fab.sleep.state = 2 → s.cell.node ∈ s.fab.sleep.nodes → t.fab.sleep.latch = true ∧ t.fab.sleep.src = 1) ∧ Touches [.fab] s t)) ∧
  (∀ s, Does .fwakeDrive s (fun t =>
    t = if s.fab.master = s.cell.node ∧ s.inFabric = true ∧ s.cell.state ≠ 8 ∧ s.fab.sleep.latch = true then s.send .fwake else s)) ∧
  (∀ k s, k < 4 → s.cell.state ≠ 8 → Does (.sleepingDeviceWake k) s (fun t => t = s)) ∧
  (∀ k e s, k < 4 → s.cell.state = 8 → s.fab.sleep.entering = some e → Does (.sleepingDeviceWake k) s (fun t =>
    t = { s with fab := { s.fab with sleep := { s.fab.sleep with latch := true, src := k } } })) ∧
  (∀ k s, k < 4 → s.cell.state = 8 → s.fab.sleep.entering = none → Does (.sleepingDeviceWake k) s (fun t =>
    t.cell.state = s.cell.wakeTo ∧ t.mbx.asleep = [] ∧ (s.inFabric = true → (t.fabNode s.cell.node).restoreAt = some (s.cell.tick + 2) ∧
      (s.fab.master ≠ s.cell.node → t.fab.sleep.src = k ∧ t.fab.sleep.wokeAt = some s.gtc ∧ t.fab.sleep.latch = false)))) ∧
  (∀ k s, 4 ≤ k → exec (.sleepingDeviceWake k) s = .fault (.noSuchUnit k)) ∧
  (∀ s, s.fab.sleep.wokeAt = none → Does .falseWake s (fun t => t = s)) ∧
  (∀ w s, s.fab.sleep.wokeAt = some w → 2 ≤ s.fab.sleep.src → Does .falseWake s (fun t =>
    t.fab.falseWakes = wrap 32 (s.fab.falseWakes + 1) ∧ t.fab.sleep.wokeAt = none ∧ t.fab.join.stage = 1 ∧ t.fab.join.since = s.gtc ∧ Touches [.fab] s t)) ∧
  (∀ w s, s.fab.sleep.wokeAt = some w → s.fab.sleep.src < 2 → Does .falseWake s (fun t =>
    t.fab.falseWakes = wrap 32 (s.fab.falseWakes + 1) ∧ t.fab.sleep.wokeAt = none ∧ t.cell.state = 8 ∧ t.cell.role = 4 ∧ t.cell.wakeTo = s.cell.state))

/-- A pair detects failure, fences and takes over (R277, R283 to R293, R297). -/
def Obligations.PairDetectsFencesAndTakesOver : Prop :=
  (∀ s, s.isShadow = false → Does .forwardingSlotMiss s (fun t => t = s)) ∧
  (∀ f s, s.pair.fwd = some f → f.tick = s.cell.tick → Does .forwardingSlotMiss s (fun t => t = s)) ∧
  (∀ s, s.isShadow = true → s.pair.role = 2 → s.pair.fwd = none → Does .forwardingSlotMiss s (fun t =>
    t.pair.misses = wrap 32 (s.pair.misses + 1) ∧ t.pair.missRun = s.pair.missRun + 1 ∧ t.pair.suspect = true ∧
    t.pair.fwdLate = (if s.takesFwd then wrap 32 (s.pair.fwdLate + s.missingFwd) else s.pair.fwdLate) ∧
    (s.pair.missRun = 0 ∨ s.pair.takeAt.isSome → t.pair.takeAt = s.pair.takeAt) ∧
    (1 ≤ s.pair.missRun → s.pair.takeAt = none → t.pair.takeAt = some (s.cell.tick + 1) ∧ (none, FabRec.takeover s.pair.peer) ∈ t.fab.waiting))) ∧
  (∀ s, s.pair.role ≠ 1 → Does .echoMiss s (fun t => t = s)) ∧
  (∀ s, s.pair.role = 1 → s.pair.echoRun = 0 → Does .echoMiss s (fun t => t = { s with pair := { s.pair with echoRun := 1 } })) ∧
  (∀ s, s.pair.role = 1 → 1 ≤ s.pair.echoRun → Does .echoMiss s (fun t =>
    t.cell.role = 3 ∧ t.cell.epoch = wrap 32 (s.cell.epoch + 1) ∧ t.pair.role = 0)) ∧
  (∀ i s, i < 16 → s.pair.role ≠ 2 ∨ s.pair.suspect = false → Does (.fillFrame i) s (fun t => t = s)) ∧
  (∀ i l s, i < 16 → s.pair.lines[i]? = some l → s.pair.role = 2 → s.pair.suspect = true → Does (.fillFrame i) s (fun t =>
    t.pair = { s.pair with fills := wrap 32 (s.pair.fills + 1) } ∧ t.out = s.out ++ [.fill l.sPort (s.outputOctets l.net)] ∧ Touches [.time, .pair, .out] s t)) ∧
  (∀ i s, 16 ≤ i → exec (.fillFrame i) s = .fault (.noSuchUnit i)) ∧
  (∀ s, s.pair.role ≠ 2 ∨ s.pair.takeAt = none → Does .takeover s (fun t => t = s)) ∧
  (∀ k s, s.pair.takeAt = some k → s.cell.tick < k → Does .takeover s (fun t => t = s)) ∧
  (∀ k s, s.pair.role = 2 → s.pair.takeAt = some k → k ≤ s.cell.tick → Does .takeover s (fun t =>
    t.cell.role = (if s.fab.master = s.cell.node then 0 else 1) ∧ t.cell.epoch = wrap 32 (s.cell.epoch + 1) ∧ t.pair.role = 0 ∧ t.pair.silent = false ∧
    t.pair.takeovers = wrap 32 (s.pair.takeovers + 1) ∧ s.pair.peer ∈ t.claim.adopted ∧ t.claim.claims = s.claim.claims)) ∧
  (∀ s, s.pair.role = 3 → 64 ≤ s.pair.agreed → Does .shadowSynced s (fun t =>
    t.pair.role = 2 ∧ t.cell.role = 2 ∧ t.cell.epoch = wrap 32 (s.cell.epoch + 1))) ∧
  (∀ k s, s.pair.role = 1 → s.pair.since = some k → Does .shadowSynced s (fun t => t.pair.since = none ∧ t.pair.role = 1 ∧ t.cell.role = s.cell.role ∧
    t.cell.epoch = wrap 32 (s.cell.epoch + 1) ∧
    ∀ c ∈ s.host.cmds, c.code = 0x0906 → c.stage = .running → { c with stage := .replied, reply := {} } ∈ t.host.cmds)) ∧
  (∀ s, s.pair.role ≠ 1 → s.pair.role ≠ 3 ∨ s.pair.agreed < 64 → Does .shadowSynced s (fun t => t = s)) ∧
  (∀ k s, s.pair.role = 1 → s.pair.since = some k → Does .shadowSyncTimeout s (fun t => t.pair.role = 0 ∧ t.pair.since = none ∧
    (∀ c ∈ s.host.cmds, c.code = 0x0906 → c.stage = .running → { c with stage := .replied, reply := { status := St.notSynced } } ∈ t.host.cmds) ∧
    Touches [.time, .host, .fab, .pair, .nets] s t)) ∧
  (∀ s, s.pair.role = 3 → Does .shadowSyncTimeout s (fun t => t = { s with pair := { s.pair.none with silent := true } })) ∧
  (∀ s, s.pair.role = 1 → s.pair.since = none → Does .shadowSyncTimeout s (fun t => t = s))

/-- Chisel instructions on counters, pins and the PC (R409, R410, R412): each does what its fields say and goes on to the next word. -/
def Obligations.ChiselControlInstructionsTakeEffect : Prop :=
  (∀ k n s, ChsReady k s → n < 4096 → EngineBecomes (.chsPause k n) k s { s.chsEngine k with pc := (s.chsEngine k).pc + 1 }) ∧
  (∀ k v m s, ChsReady k s → m < 16 → (s.chsEngine k).act.wValid &&& m = m →
    EngineBecomes (.chsPins k v m 0) k s { s.chsEngine k with lvl := takeBits (s.chsEngine k).lvl v m, pc := (s.chsEngine k).pc + 1 } ∧
    EngineBecomes (.chsPins k v m 1) k s { s.chsEngine k with oe := takeBits (s.chsEngine k).oe v m, pc := (s.chsEngine k).pc + 1 }) ∧
  (∀ k v m s, ChsReady k s → m < 4 → (s.chsEngine k).act.eoValid &&& m = m →
    EngineBecomes (.chsPins k v m 2) k s { s.chsEngine k with eo := takeBits (s.chsEngine k).eo v m, pc := (s.chsEngine k).pc + 1 }) ∧
  (∀ x v m b, bitAt (takeBits x v m) b = if bitAt m b then bitAt v b else bitAt x b) ∧
  (∀ k v s, ChsReady k s → v < 2047 →
    EngineBecomes (.chsLoad k false v) k s { s.chsEngine k with c0 := v, pc := (s.chsEngine k).pc + 1 } ∧
    EngineBecomes (.chsLoad k true v) k s { s.chsEngine k with c1 := v, pc := (s.chsEngine k).pc + 1 }) ∧
  (∀ k s, ChsReady k s →
    EngineBecomes (.chsLoad k false 0x7FF) k s { s.chsEngine k with c0 := field (s.chsEngine k).cfg.reload 0 16, pc := (s.chsEngine k).pc + 1 } ∧
    EngineBecomes (.chsLoad k true 0x7FF) k s { s.chsEngine k with c1 := field (s.chsEngine k).cfg.reload 16 16, pc := (s.chsEngine k).pc + 1 }) ∧
  (∀ k w target lvl s, ChsReady k s → target < 24 → EngineBecomes (.chsBranch k 0 w target lvl) k s { s.chsEngine k with pc := target }) ∧
  (∀ k w target lvl s, ChsReady k s → target < 24 → EngineBecomes (.chsBranch k 1 w target lvl) k s { s.chsEngine k with
    c0 := (s.chsEngine k).c0 - 1, pc := if 2 ≤ (s.chsEngine k).c0 then target else (s.chsEngine k).pc + 1 }) ∧
  (∀ k w target lvl s, ChsReady k s → target < 24 → EngineBecomes (.chsBranch k 2 w target lvl) k s { s.chsEngine k with
    c1 := (s.chsEngine k).c1 - 1, pc := if 2 ≤ (s.chsEngine k).c1 then target else (s.chsEngine k).pc + 1 }) ∧
  (∀ k w target lvl s, ChsReady k s → target < 24 → bitAt (s.chsEngine k).act.wValid w = true →
    EngineBecomes (.chsBranch k 3 w target lvl) k s { s.chsEngine k with pc := if lvl then target else (s.chsEngine k).pc + 1 } ∧
    EngineBecomes (.chsBranch k 4 w target lvl) k s { s.chsEngine k with pc := if lvl then (s.chsEngine k).pc + 1 else target }) ∧
  (∀ k w target lvl s, ChsReady k s → target < 24 → EngineBecomes (.chsBranch k 10 w target lvl) k s { s.chsEngine k with
    timeout := false, pc := if (s.chsEngine k).timeout then target else (s.chsEngine k).pc + 1 }) ∧
  (∀ k idx lvl level src s, ChsReady k s → src = 0 ∨ src = 2 → idx < 4 → bitAt (s.chsEngine k).act.wValid idx = true →
    EngineBecomes (.chsAwait k level src idx lvl) k s (if lvl = level then
      { s.chsEngine k with timeout := if src = 2 then false else (s.chsEngine k).timeout, pc := (s.chsEngine k).pc + 1 }
      else { s.chsEngine k with hold := .pin idx level (src == 2) })) ∧
  (∀ k idx lvl level s, ChsReady k s → idx < 8 → bitAt (s.chisel (k / 8)).sync idx ≠ level →
    EngineBecomes (.chsAwait k level 1 idx lvl) k s { s.chsEngine k with hold := .sync idx level }) ∧
  (∀ k idx lvl level s, ChsReady k s → idx < 8 → bitAt (s.chisel (k / 8)).sync idx = level → Does (.chsAwait k level 1 idx lvl) s (fun t =>
    bitAt (t.chisel (k / 8)).sync idx = false ∧ (t.chsEngine k).pc = (s.chsEngine k).pc + 1 ∧ (t.chsEngine k).hold = .none ∧
    (∀ j, j ≠ k → t.chsEngine j = s.chsEngine j) ∧ Touches [.chisels] s t)) ∧
  (∀ k i l s, k < 64 → (s.chsEngine k).hold = .pin i l true →
    EngineBecomes (.chsAwaitTimeout k) k s { s.chsEngine k with c1 := 0, timeout := true, pc := (s.chsEngine k).pc + 1, hold := .none }) ∧
  (∀ k s, k < 64 → (∀ i l, (s.chsEngine k).hold ≠ .pin i l true) → Does (.chsAwaitTimeout k) s (fun t => t = s)) ∧
  (∀ k n i l s, k < 64 → (s.chsEngine k).hold = .pin i l true →
    EngineBecomes (.awaitMatch k n) k s { s.chsEngine k with c1 := (s.chsEngine k).c1 - n, timeout := false, pc := (s.chsEngine k).pc + 1, hold := .none }) ∧
  (∀ k n i l s, k < 64 → (s.chsEngine k).hold = .pin i l false →
    EngineBecomes (.awaitMatch k n) k s { s.chsEngine k with pc := (s.chsEngine k).pc + 1, hold := .none }) ∧
  (∀ k idx s, ChsReady k s → idx < 8 → bitAt (s.chisel (k / 8)).flagEn idx = false → Does (.chsSignal k 0 idx) s (fun t =>
    bitAt (t.chisel (k / 8)).flags idx = true ∧ (∀ j, j ≠ idx → bitAt (t.chisel (k / 8)).flags j = bitAt (s.chisel (k / 8)).flags j) ∧
    (t.chsEngine k).pc = (s.chsEngine k).pc + 1 ∧ (∀ j, j ≠ k → t.chsEngine j = s.chsEngine j) ∧ Touches [.chisels] s t)) ∧
  (∀ k idx s, ChsReady k s → idx < 8 → Does (.chsSignal k 1 idx) s (fun t =>
    (t.chsEngine k).pc = (s.chsEngine k).pc + 1 ∧
    (∀ e, e < 8 → k / 8 * 8 + e ≠ k → (s.chsEngine (k / 8 * 8 + e)).run = true → (s.chsEngine (k / 8 * 8 + e)).hold = .sync idx true →
      t.chsEngine (k / 8 * 8 + e) = (s.chsEngine (k / 8 * 8 + e)).next ∧ bitAt (t.chisel (k / 8)).sync idx = false) ∧ Touches [.chisels] s t)) ∧
  (∀ k idx s, ChsReady k s → idx < 8 → Does (.chsSignal k 2 idx) s (fun t => bitAt (t.chisel (k / 8)).sync idx = false ∧
    (t.chsEngine k).pc = (s.chsEngine k).pc + 1 ∧ Touches [.chisels] s t))

/-- Chisel instructions on the shift register and the FIFOs (R411, R412): EMIT and SAMPLE shift in the engine's bit order, transfers wait for
room, and a COPY takes its operation. -/
def Obligations.ChiselShiftsAndTransfersMoveWords : Prop :=
  (∀ k n w ins s, ChsReady k s → 1 ≤ n → n ≤ 32 → w < 4 → bitAt (s.chsEngine k).act.wValid w = true → (s.chsEngine k).act.autofetch = false →
    Does (.chsEmit k n w false ins) s (fun t =>
      t.out = s.out ++ [.bits ((s.chsEngine k).act.window w)
        ((List.range n).map (fun i => bitAt (s.chsEngine k).sh.toNat (if (s.chsEngine k).act.msbFirst then 31 - i else i)))] ∧
      (t.chsEngine k).sh.toNat = (if (s.chsEngine k).act.msbFirst then wrap 32 ((s.chsEngine k).sh.toNat * 2 ^ n) else (s.chsEngine k).sh.toNat / 2 ^ n) ∧
      (t.chsEngine k).bits = min 32 ((s.chsEngine k).bits + n) ∧ (t.chsEngine k).pc = (s.chsEngine k).pc + 1 ∧ (t.chsEngine k).hold = .none ∧
      (∀ j, j ≠ k → t.chsEngine j = s.chsEngine j) ∧ Touches [.chisels, .out] s t)) ∧
  (∀ k w ins s, ChsReady k s → w < 4 → bitAt (s.chsEngine k).act.wValid w = true → (s.chsEngine k).act.autostore = false →
    Does (.chsSample k 32 w ins) s (fun t =>
      (∀ i, i < 32 → bitAt (t.chsEngine k).sh.toNat (if (s.chsEngine k).act.msbFirst then 31 - i else i) = ins.getD i false) ∧
      (t.chsEngine k).bits = 32 ∧ (t.chsEngine k).pc = (s.chsEngine k).pc + 1 ∧ (∀ j, j ≠ k → t.chsEngine j = s.chsEngine j) ∧ Touches [.chisels] s t)) ∧
  (∀ k w ins s, ChsReady k s → w < 4 → bitAt (s.chsEngine k).act.wValid w = true → (s.chsEngine k).act.autostore = true →
    (s.chsEngine k).bits = 0 → (s.chsEngine k).act.wlen < 32 → (s.chsEngine k).dout.length = 2 → (s.chsEngine k).act.dropNew = false →
    Does (.chsSample k (s.chsEngine k).act.wordLen w ins) s (fun t =>
      (t.chsEngine k).hold = .sample 0 w ∧ (t.chsEngine k).bits = (s.chsEngine k).act.wordLen ∧ (t.chsEngine k).dout = (s.chsEngine k).dout)) ∧
  (∀ k s, ChsReady k s → (s.chsEngine k).dout.length < 2 → EngineBecomes (.chsData k false false) k s { s.chsEngine k with
    dout := (s.chsEngine k).dout ++ [(s.chsEngine k).storeWord], sh := 0, bits := 0, pc := (s.chsEngine k).pc + 1 }) ∧
  (∀ k s, ChsReady k s → 2 ≤ (s.chsEngine k).dout.length → EngineBecomes (.chsData k false false) k s { s.chsEngine k with
    hold := .push (s.chsEngine k).storeWord true }) ∧
  (∀ k s, ChsReady k s → (s.chsEngine k).din = [] → EngineBecomes (.chsData k true false) k s { s.chsEngine k with hold := .fetch }) ∧
  (∀ k w ws s, ChsReady k s → (s.chsEngine k).din = w :: ws → (s.chsEngine k).act.msbFirst = false → EngineBecomes (.chsData k true false) k s
    { s.chsEngine k with din := ws, sh := w, bits := 0, pc := (s.chsEngine k).pc + 1 }) ∧
  (∀ k f s, ChsReady k s → (s.chsEngine k).bits < (s.chsEngine k).act.wordLen → EngineBecomes (.chsData k f true) k s
    { s.chsEngine k with pc := (s.chsEngine k).pc + 1 }) ∧
  (∀ k op lv s, ChsReady k s → op < 3 → EngineBecomes (.chsCopy k 0 2 op lv) k s { s.chsEngine k with
    c0 := wrap 16 (copyOp op (s.chsEngine k).act.wordLen (s.chsEngine k).sh.toNat), pc := (s.chsEngine k).pc + 1 }) ∧
  (∀ k lv s, ChsReady k s → EngineBecomes (.chsCopy k 1 0 0 lv) k s { s.chsEngine k with c1 := wrap 16 (s.chsEngine k).c0, pc := (s.chsEngine k).pc + 1 }) ∧
  (∀ k lv s, ChsReady k s → EngineBecomes (.chsCopy k 2 6 0 lv) k s { s.chsEngine k with sh := 0xFFFFFFFF, bits := 0, pc := (s.chsEngine k).pc + 1 }) ∧
  (∀ k lv w ws s, ChsReady k s → (s.chsEngine k).din = w :: ws → (s.chsEngine k).dout.length < 2 → EngineBecomes (.chsCopy k 4 4 0 lv) k s
    { s.chsEngine k with dout := (s.chsEngine k).dout ++ [w], pc := (s.chsEngine k).pc + 1 }) ∧
  (∀ k lv s, ChsReady k s → (s.chsEngine k).din = [] → Does (.chsCopy k 2 4 0 lv) s (fun t => (t.chsEngine k).pc = (s.chsEngine k).pc + 1 ∧
    (t.chsEngine k).bits = 0 ∧ (t.chsEngine k).din = [] ∧ (∀ j, j ≠ k → t.chsEngine j = s.chsEngine j) ∧ Touches [.chisels, .freeCount] s t)) ∧
  (∀ n x b, b < n → bitAt (copyOp 2 n x) b = bitAt x (n - 1 - b)) ∧
  (∀ k ins s, k < 64 → (s.chsEngine k).hold = .none → Does (.chiselFifoResume k ins) s (fun t => t = s)) ∧
  (∀ k ins w c s, k < 64 → (s.chsEngine k).hold = .push w c → (s.chsEngine k).dout.length < 2 → Does (.chiselFifoResume k ins) s (fun t =>
    (t.chsEngine k).dout = (s.chsEngine k).dout ++ [w] ∧ (t.chsEngine k).hold = .none ∧ (t.chsEngine k).pc = (s.chsEngine k).pc + 1 ∧
    (c = true → (t.chsEngine k).sh = 0 ∧ (t.chsEngine k).bits = 0))) ∧
  (∀ k ins w ws s, k < 64 → (s.chsEngine k).hold = .fetch → (s.chsEngine k).din = w :: ws → Does (.chiselFifoResume k ins) s (fun t =>
    (t.chsEngine k).din = ws ∧ (t.chsEngine k).hold = .none ∧ (t.chsEngine k).pc = (s.chsEngine k).pc + 1 ∧ (t.chsEngine k).bits = 0))

/-- Chisel groups and their registers (R8, R407, R408, R412, R414 to R416), and where an engine does not execute: a stopped or holding engine does
nothing, and an illegal word stops it with FAULT (log entry 13). -/
def Obligations.ChiselGroupsStartStopAndFault : Prop :=
  (∀ k n s, k < 64 → (s.chsEngine k).run = false ∨ (s.chsEngine k).hold ≠ .none →
    ∀ i ∈ [Instr.chsPause k n, .chsPins k n n n, .chsEmit k n n true [], .chsSample k n n [], .chsBranch k n n n true, .chsAwait k true n n true,
      .chsCopy k n n n n, .chsData k true true, .chsLoad k true n, .chsSignal k n n], Does i s (fun t => t = s)) ∧
  (∀ k n s, k < 64 → (s.chsEngine k).run = true → (s.chsEngine k).hold = .none → 24 ≤ (s.chsEngine k).pc ∨ 4096 ≤ n → Does (.chsPause k n) s (fun t =>
    (t.chsEngine k).run = false ∧ (t.chsEngine k).fault = true ∧ (t.chsEngine k).lvl = (s.chsEngine k).act.idleLvl ∧
    (t.chsEngine k).oe = (s.chsEngine k).act.idleOe ∧ bitAt (t.chisel (k / 8)).faultFlags (k % 8) = true ∧ Touches [.lathes, .chisels] s t)) ∧
  (∀ k cond w target lvl s, k < 64 → (s.chsEngine k).run = true → (s.chsEngine k).hold = .none → 24 ≤ target → Does (.chsBranch k cond w target lvl) s (fun t =>
    (t.chsEngine k).run = false ∧ (t.chsEngine k).fault = true)) ∧
  (∀ g m clr s, g < 8 → (s.chisel g).swapPend = false → Does (.chiselStart g m clr) s (fun t =>
    (t.chisel g).starts = satAdd 255 (s.chisel g).starts 1 ∧ (t.chisel g).liveHalf = (s.chisel g).liveHalf ∧
    (∀ e, e < 8 → (t.chisel g).engine e = if bitAt m e && bitAt (s.chisel g).en e then ((s.chisel g).engine e).start clr else (s.chisel g).engine e) ∧
    (∀ h, h ≠ g → t.chisel h = s.chisel h) ∧ Touches [.chisels] s t)) ∧
  (∀ g m clr s, g < 8 → (s.chisel g).swapPend = true → Does (.chiselStart g m clr) s (fun t =>
    (t.chisel g).swapPend = false ∧ (t.chisel g).liveHalf = 1 - (s.chisel g).liveHalf ∧
    (∀ e, e < 8 → (t.chisel g).engine e = if bitAt (s.chisel g).en e then ((s.chisel g).engine e).start clr else (s.chisel g).engine e))) ∧
  (∀ g m s, g < 8 → Does (.chiselClockRestart g m) s (fun t =>
    (∀ e, e < 8 → (t.chisel g).engine e = if bitAt m e then { (s.chisel g).engine e with phaseAcc := 0 } else (s.chisel g).engine e) ∧
    (∀ h, h ≠ g → t.chisel h = s.chisel h) ∧ Touches [.chisels] s t)) ∧
  (∀ g m s, g < 8 → Does (.chiselStop g m) s (fun t =>
    (∀ e, e < 8 → (t.chisel g).engine e = if bitAt m e && ((s.chisel g).engine e).run then ((s.chisel g).engine e).stop else (s.chisel g).engine e) ∧
    (∀ h, h ≠ g → t.chisel h = s.chisel h) ∧ Touches [.chisels] s t)) ∧
  (∀ g (w : Word) s, g < 8 → Does (.chsCtrlWrite g w) s (fun t =>
    (t.chisel g).en = field w.toNat 0 8 ∧ (t.chisel g).swapPend = bitAt w.toNat 8 ∧ (t.chisel g).trigEn = bitAt w.toNat 10 ∧
    (t.chisel g).trigUnit = field w.toNat 11 5 ∧ (t.chisel g).trigMode = bitAt w.toNat 16 ∧
    (∀ e, e < 8 → (t.chisel g).engine e = if !bitAt w.toNat e && ((s.chisel g).engine e).run then ((s.chisel g).engine e).stop else (s.chisel g).engine e) ∧
    Touches [.chisels] s t)) ∧
  (∀ g a (w : Word) s, g < 8 → a < 24 → Does (.chsStoreWrite g a w) s (fun t => t = s.setChisel g (if (s.chisel g).swapPend then
      { s.chisel g with storeIgn := satAdd 255 (s.chisel g).storeIgn 1 }
    else { s.chisel g with store := Table.set 0 (s.chisel g).store ((1 - (s.chisel g).liveHalf) * 24 + a) (wrap 16 w.toNat) }))) ∧
  (∀ k w s, k < 64 → Does (.chsEDinWrite k w) s (fun t => t = s.setEngine k (if 2 ≤ (s.chsEngine k).din.length then
      { s.chsEngine k with dataMiss := satAdd 255 (s.chsEngine k).dataMiss 1 } else { s.chsEngine k with din := (s.chsEngine k).din ++ [w] }))) ∧
  (∀ k w ws s, k < 64 → (s.chsEngine k).dout = w :: ws → Does (.chsEDoutRead k) s (fun t =>
    t = (s.setEngine k { s.chsEngine k with dout := ws }).returns w.toNat)) ∧
  (∀ k s, k < 64 → (s.chsEngine k).dout = [] → Does (.chsEDoutRead k) s (fun t =>
    t = (s.setEngine k { s.chsEngine k with dataMiss := satAdd 255 (s.chsEngine k).dataMiss 1 }).returns 0)) ∧
  (∀ g s, g < 8 → Does (.chsGcntRead g) s (fun t =>
    t = (s.setChisel g { s.chisel g with storeIgn := 0, starts := 0 }).returns ((s.chisel g).storeIgn + 256 * (s.chisel g).starts))) ∧
  (∀ k s, k < 64 → Does (.chsECntRead k) s (fun t =>
    t = (s.setEngine k { s.chsEngine k with shiftAbandon := 0, doutLost := 0, idleFill := 0, dataMiss := 0 }).returns
      ((s.chsEngine k).shiftAbandon + 256 * (s.chsEngine k).doutLost + 65536 * (s.chsEngine k).idleFill + 16777216 * (s.chsEngine k).dataMiss))) ∧
  (∀ g k m s, (8 ≤ g → exec (.chiselStart g m true) s = .fault (.noSuchUnit g) ∧ exec (.chiselStop g m) s = .fault (.noSuchUnit g)) ∧
    (64 ≤ k → exec (.chsPause k m) s = .fault (.noSuchUnit k) ∧ exec (.chsEDoutRead k) s = .fault (.noSuchUnit k)))

/-- CAN FD reception (R452, R456 to R459, R463): filtering into a dedicated buffer or the FIFO, exceptions, integration, errors, and the read
view. Which of 119 to 127 an error passive receiver's REC falls to is free (log entry 12). -/
def Obligations.CanReceivesFiltersAndCounts : Prop :=
  (∀ n own f s, n < 4 → (s.can n).en = false ∨ (s.can n).state = 2 ∨ (s.can n).state = 3 ∨ (own = true ∧ (s.can n).mode ≠ 3) →
    Does (.canFrameReceive n own f) s (fun t => t = s)) ∧
  (∀ n f s, n < 4 → (s.can n).en = true → (s.can n).state < 2 → f.fdf = true → (s.can n).fdEn = false →
    CanBecomes (.canFrameReceive n false f) n s { s.can n with state := 3, protoExc := satAdd 255 (s.can n).protoExc 1 }) ∧
  (∀ n f k s, n < 4 → (s.can n).en = true → (s.can n).state < 2 → f.fdf = false ∨ (s.can n).fdEn = true →
    (List.range 32).find? (fun k => (Table.get {} (s.can n).filters k).hits f) = some k →
    (Table.get {} (s.can n).filters k).dest < (s.can n).dedicated → (Table.get {} (s.can n).filters k).dest < 64 →
    Does (.canFrameReceive n false f) s (fun t =>
      let d := (Table.get ({} : CanFilter) (s.can n).filters k).dest
      Table.get {} (t.can n).rxBufs d = storedMsg f k (bitAt (s.can n).rxNew d) ∧ bitAt (t.can n).rxNew d = true ∧
      (t.can n).rxOverwrite = (if bitAt (s.can n).rxNew d then satAdd 255 (s.can n).rxOverwrite 1 else (s.can n).rxOverwrite) ∧
      (t.can n).fifo = (s.can n).fifo ∧ (∀ m, m ≠ n → t.can m = s.can m) ∧ Touches [.lathes, .cans, .freeCount] s t)) ∧
  (∀ n f k s, n < 4 → (s.can n).en = true → (s.can n).state < 2 → f.fdf = false ∨ (s.can n).fdEn = true →
    (List.range 32).find? (fun k => (Table.get {} (s.can n).filters k).hits f) = some k →
    (s.can n).dedicated ≤ (Table.get {} (s.can n).filters k).dest → Does (.canFrameReceive n false f) s (fun t =>
      (t.can n).rxBufs = (s.can n).rxBufs ∧ (t.can n).rxNew = (s.can n).rxNew ∧
      (if (s.can n).fifo.length < 64 - (s.can n).dedicated then (t.can n).fifo = (s.can n).fifo ++ [storedMsg f k false] ∧
        (t.can n).rxFifoOvf = (s.can n).rxFifoOvf
      else (t.can n).fifo = (s.can n).fifo ∧ (t.can n).rxFifoOvf = satAdd 255 (s.can n).rxFifoOvf 1))) ∧
  (∀ n f s, n < 4 → (s.can n).en = true → (s.can n).state < 2 → f.fdf = false ∨ (s.can n).fdEn = true →
    (List.range 32).find? (fun k => (Table.get {} (s.can n).filters k).hits f) = none → Does (.canFrameReceive n false f) s (fun t =>
      (t.can n).rxBufs = (s.can n).rxBufs ∧ (t.can n).fifo = (s.can n).fifo ∧ t.lathes = s.lathes ∧
      ((s.can n).mode = 0 → 0 < (s.can n).rxErr → (s.can n).rxErr ≤ 127 → (t.can n).rxErr = (s.can n).rxErr - 1) ∧
      ((s.can n).mode = 0 → 127 < (s.can n).rxErr → 119 ≤ (t.can n).rxErr ∧ (t.can n).rxErr ≤ 127))) ∧
  (∀ f k b, (storedMsg f k b).data = if f.rtr then [] else f.data.take (dlcLen f.fdf f.dlc)) ∧
  (∀ n s, n < 4 → (s.can n).en = true → CanBecomes (.canProtocolException n) n s
    { s.can n with state := 3, protoExc := satAdd 255 (s.can n).protoExc 1 }) ∧
  (∀ n s, n < 4 → (s.can n).en = true → (s.can n).state = 3 → CanBecomes (.canIntegrationEnd n) n s
    { s.can n with busIdle := true, state := if 127 < (s.can n).txErr ∨ 127 < (s.can n).rxErr then 1 else 0 }) ∧
  (∀ n kind heavy s, n < 4 → (s.can n).en = true → (s.can n).state < 2 → (s.can n).mode = 0 → CanBecomes (.canReceiveError n kind heavy) n s
    { s.can n with lec := kind, rxErr := satAdd 255 (s.can n).rxErr (if heavy then 8 else 1),
                   state := if 127 < (s.can n).txErr ∨ 127 < satAdd 255 (s.can n).rxErr (if heavy then 8 else 1) then 1 else 0 }) ∧
  (∀ n v m ms s, n < 4 → field v 0 7 = 0x7F → (s.can n).fifo = m :: ms → CanBecomes (.canRxFetchWrite n v) n s { s.can n with view := m, fifo := ms }) ∧
  (∀ n v s, n < 4 → field v 0 7 = 0x7F → (s.can n).fifo = [] → CanBecomes (.canRxFetchWrite n v) n s
    { s.can n with view := { (s.can n).view with valid := false } }) ∧
  (∀ n v s, n < 4 → field v 0 7 ≠ 0x7F → field v 0 7 < (s.can n).dedicated → Does (.canRxFetchWrite n v) s (fun t =>
    (t.can n).view = Table.get {} (s.can n).rxBufs (field v 0 7) ∧ bitAt (t.can n).rxNew (field v 0 7) = false ∧
    (∀ j, j ≠ field v 0 7 → bitAt (t.can n).rxNew j = bitAt (s.can n).rxNew j) ∧ Touches [.cans] s t)) ∧
  (∀ n s, n < 4 → Does (.canCnt0Read n) s (fun t =>
    t = (s.setCan n { s.can n with rxOverwrite := 0, rxFifoOvf := 0, cxlFail := 0, abandoned := 0 }).returns
      ((s.can n).rxOverwrite + 256 * (s.can n).rxFifoOvf + 65536 * (s.can n).cxlFail + 16777216 * (s.can n).abandoned))) ∧
  (∀ n s, n < 4 → Does (.canCnt1Read n) s (fun t =>
    t = (s.setCan n { s.can n with busOff := 0, protoExc := 0, arbLost := 0, loadRej := 0 }).returns
      ((s.can n).busOff + 256 * (s.can n).protoExc + 65536 * (s.can n).arbLost + 16777216 * (s.can n).loadRej))) ∧
  (∀ n f s, 4 ≤ n → exec (.canFrameReceive n true f) s = .fault (.noSuchUnit n) ∧ exec (.canCnt0Read n) s = .fault (.noSuchUnit n))

/-- CAN FD transmission (R460 to R463): buffers are loaded, cancelled and released, the choice is the winner of arbitration, an attempt's end
counts, and bus-off is left only by recovery. -/
def Obligations.CanTransmitsByArbitrationAndRetries : Prop :=
  (∀ n b s, n < 4 → b < 32 → ((s.can n).buf b).state ≠ 2 → Does (.canTxLoad n b) s (fun t =>
    ((t.can n).buf b).state = 1 ∧ ((t.can n).buf b).msg = (s.can n).stagedMsg ∧ ((t.can n).buf b).tries = 0 ∧
    (∀ a, a ≠ b → (t.can n).buf a = (s.can n).buf a) ∧ (∀ m, m ≠ n → t.can m = s.can m) ∧ Touches [.cans] s t)) ∧
  (∀ n b s, n < 4 → b < 32 → ((s.can n).buf b).state = 2 → CanBecomes (.canTxLoad n b) n s
    { s.can n with loadRej := satAdd 255 (s.can n).loadRej 1 }) ∧
  (∀ n b s, n < 4 → b < 32 → ((s.can n).buf b).state = 1 → CanBecomes (.canTxCancel n b) n s
    ((s.can n).setBuf b { (s.can n).buf b with state := 4 })) ∧
  (∀ n b s, n < 4 → b < 32 → ((s.can n).buf b).state = 2 → Does (.canTxCancel n b) s (fun t =>
    ((t.can n).buf b).cxlFailed = true ∧ ((t.can n).buf b).noRetry = true ∧ ((t.can n).buf b).state = 2 ∧
    (t.can n).cxlFail = satAdd 255 (s.can n).cxlFail 1)) ∧
  (∀ n b s, n < 4 → b < 32 → 3 ≤ ((s.can n).buf b).state → ((s.can n).buf b).state ≤ 5 → CanBecomes (.canTxRelease n b) n s
    ((s.can n).setBuf b { (s.can n).buf b with state := 0 })) ∧
  (∀ n b s, n < 4 → ((s.can n).buf b).state < 3 → Does (.canTxRelease n b) s (fun t => t.can n = s.can n)) ∧
  (∀ n s, n < 4 → (s.can n).state = 2 → CanBecomes (.canBusoffRecoveryStart n) n s { s.can n with recovering := true }) ∧
  (∀ n s, n < 4 → (s.can n).state ≠ 2 → Does (.canBusoffRecoveryStart n) s (fun t => t.can n = s.can n)) ∧
  (∀ n s, n < 4 → (s.can n).state = 2 → (s.can n).recovering = true → CanBecomes (.canRecoveryEnd n) n s
    { s.can n with state := 0, recovering := false, txErr := 0, rxErr := 0 }) ∧
  (∀ n s, n < 4 → (s.can n).mayTransmit = false → Does (.canTxChoice n) s (fun t => t = s)) ∧
  (∀ n b s, n < 4 → (s.can n).mayTransmit = true → (∀ a, a < 32 → ((s.can n).buf a).state ≠ 2) → b < 32 → ((s.can n).buf b).state = 1 →
    (∀ a, a < 32 → ((s.can n).buf a).state = 1 → ((s.can n).buf b).msg.arbitration < ((s.can n).buf a).msg.arbitration ∨
      (((s.can n).buf b).msg.arbitration = ((s.can n).buf a).msg.arbitration ∧ b ≤ a)) →
    Does (.canTxChoice n) s (fun t => ((t.can n).buf b).state = 2 ∧ (t.can n).busIdle = false ∧ t.out = s.out ++ [.canFrame n b] ∧
      (∀ a, a ≠ b → (t.can n).buf a = (s.can n).buf a) ∧ (∀ m, m ≠ n → t.can m = s.can m) ∧ Touches [.cans, .out] s t)) ∧
  (∀ n s, n < 4 → (s.can n).mayTransmit = true → (∀ a, a < 32 → ((s.can n).buf a).state ≠ 2 ∧ ((s.can n).buf a).state ≠ 1) →
    CanBecomes (.canTxChoice n) n s { s.can n with busIdle := true }) ∧
  (∀ n r s, n < 4 → (∀ a, a < 32 → ((s.can n).buf a).state ≠ 2) → Does (.canAttemptEnd n r) s (fun t => t = s)) ∧
  (∀ n b s, n < 4 → (List.range 32).find? (fun b => ((s.can n).buf b).state == 2) = some b → (s.can n).state < 2 → (s.can n).txErr ≤ 256 →
    Does (.canAttemptEnd n .ok) s (fun t => ((t.can n).buf b).state = 3 ∧ (t.can n).txErr = (s.can n).txErr - 1 ∧ (t.can n).lec = 0 ∧
      (∀ a, a ≠ b → (t.can n).buf a = (s.can n).buf a) ∧ Touches [.lathes, .cans] s t)) ∧
  (∀ n b s, n < 4 → (List.range 32).find? (fun b => ((s.can n).buf b).state == 2) = some b → ((s.can n).buf b).noRetry = false →
    ((s.can n).buf b).service b = false → Does (.canAttemptEnd n .lost) s (fun t => ((t.can n).buf b).state = 1 ∧
      ((t.can n).buf b).tries = min 15 (((s.can n).buf b).tries + 1) ∧ (t.can n).arbLost = satAdd 255 (s.can n).arbLost 1 ∧ (t.can n).txErr = (s.can n).txErr)) ∧
  (∀ n b s, n < 4 → (List.range 32).find? (fun b => ((s.can n).buf b).state == 2) = some b → ((s.can n).buf b).noRetry = false →
    ((s.can n).buf b).service b = true → (s.can n).retryLimit < ((s.can n).buf b).tries + 1 → Does (.canAttemptEnd n .lost) s (fun t =>
      ((t.can n).buf b).state = 5 ∧ (t.can n).abandoned = satAdd 255 (s.can n).abandoned 1)) ∧
  (∀ n b k s, n < 4 → (List.range 32).find? (fun b => ((s.can n).buf b).state == 2) = some b → (s.can n).state < 2 → (s.can n).txErr + 8 ≤ 255 →
    Does (.canAttemptEnd n (.error k false)) s (fun t => (t.can n).txErr = (s.can n).txErr + 8 ∧ (t.can n).lec = k ∧
      (t.can n).state = if 127 < (s.can n).txErr + 8 ∨ 127 < (s.can n).rxErr then 1 else 0)) ∧
  (∀ n b k s, n < 4 → (List.range 32).find? (fun b => ((s.can n).buf b).state == 2) = some b → (s.can n).state < 2 → 255 < (s.can n).txErr + 8 →
    Does (.canAttemptEnd n (.error k false)) s (fun t => (t.can n).state = 2 ∧ (t.can n).recovering = (s.can n).autoRecover ∧
      (t.can n).busOff = satAdd 255 (s.can n).busOff 1 ∧
      ∀ a, a < 32 → ((s.can n).buf a).service a = false → ((s.can n).buf a).state = 1 ∨ ((s.can n).buf a).state = 2 →
        ((t.can n).buf a).state = 4 ∧ ((t.can n).buf a).busoffCxl = true))

/-- Ethernet reception (R421 to R425, R430, R433, R436): the checks in their order, and the frame stored with its class and ports. -/
def Obligations.EthernetReceivesChecksAndStores : Prop :=
  (∀ p octs code frag first s, p < 12 → (s.mac p).en = false ∨ (s.mac p).link = false ∨ s.macUsable p = false →
    Does (.frameReceive p octs code frag first) s (fun t => t = s)) ∧
  (∀ p octs first s, p < 12 → (s.mac p).en = true → (s.mac p).link = true → s.macUsable p = true →
    CountsAt (.frameReceive p octs true .whole first) p 7 s) ∧
  (∀ p octs first s, p < 12 → (s.mac p).en = true → (s.mac p).link = true → s.macUsable p = true → octs.length ≤ 63 →
    CountsAt (.frameReceive p octs false .whole first) p 5 s) ∧
  (∀ p octs first s, p < 12 → (s.mac p).en = true → (s.mac p).link = true → s.macUsable p = true → 63 < octs.length → (s.mac p).maxLen < octs.length →
    CountsAt (.frameReceive p octs false .whole first) p 6 s) ∧
  (∀ p octs first s, p < 12 → (s.mac p).en = true → (s.mac p).link = true → s.macUsable p = true → 63 < octs.length → octs.length ≤ (s.mac p).maxLen →
    fcsOf (octs.take (octs.length - 4)) ≠ octs.drop (octs.length - 4) → CountsAt (.frameReceive p octs false .whole first) p 4 s) ∧
  (∀ p octs first s, p < 12 → (s.mac p).en = true → (s.mac p).link = true → s.macUsable p = true → 63 < octs.length → octs.length ≤ (s.mac p).maxLen →
    fcsOf (octs.take (octs.length - 4)) = octs.drop (octs.length - 4) → (ethertype octs).1 ≠ 0x8808 → (s.mac p).filter octs = none →
    CountsAt (.frameReceive p octs false .whole first) p 8 s) ∧
  (∀ p octs first dest s, p < 12 → (s.mac p).en = true → (s.mac p).link = true → s.macUsable p = true → 63 < octs.length → octs.length ≤ (s.mac p).maxLen →
    fcsOf (octs.take (octs.length - 4)) = octs.drop (octs.length - 4) → (ethertype octs).1 ≠ 0x8808 → (s.mac p).filter octs = some (dest, none) →
    bitAt dest p = false → dest ≠ 0 → bitAt ((s.mac p).pausing s.switch.sharedFree s.headSum) ((s.mac p).classOf none octs) = false →
    cellsOf octs.length ≤ s.switch.sharedFree → (∀ q, q < 12 → bitAt dest q = true → (s.mac q).holdState ≠ 2) →
    Does (.frameReceive p octs false .whole first) s (fun t => ∃ f ∈ t.switch.frames, f.data = octs.take (octs.length - 4) ∧ f.len = octs.length ∧
      f.cls = (s.mac p).classOf none octs ∧ f.ports = dest ∧ f.ingress = p ∧ f.stamp = first - (s.mac p).rxLat ∧ f.started = 0 ∧
      f.resv + f.shared = cellsOf octs.length ∧ Touches [.cell, .chk, .lathes, .macs, .switch, .wnw, .nets, .out] s t)) ∧
  (∀ p octs fr fc first last s, p < 12 → (s.mac p).en = true → (s.mac p).link = true → s.macUsable p = true → (s.mac p).reasm = none →
    CountsAt (.frameReceive p octs false (.cont fr fc last) first) p 10 s) ∧
  (∀ p octs fr first s, p < 12 → (s.mac p).en = true → (s.mac p).link = true → s.macUsable p = true → (s.mac p).reasm = none → 64 ≤ octs.length →
    Does (.frameReceive p octs false (.initial fr false) first) s (fun t =>
      (t.mac p).reasm = some (octs.take (octs.length - 4), fr * 65536 + 4, first - (s.mac p).rxLat) ∧ t.switch = s.switch ∧ Touches [.macs] s t)) ∧
  (∀ p octs code frag first s, 12 ≤ p → exec (.frameReceive p octs code frag first) s = .fault (.noSuchUnit p))

/-- Egress (R423, R432, R434, R435, R437 to R439, R451): a port starts the head frame of its highest eligible class, a frame that has left or
is late leaves the port, and the Lathe rings hand frames over. -/
def Obligations.SwitchSendsWithdrawsAndServesRings : Prop :=
  (∀ p sent c f s, p < 12 → ((dropUnsendable p s).mac p).en = true → ((dropUnsendable p s).mac p).link = true →
    ((dropUnsendable p s).mac p).holdState = 0 → (dropUnsendable p s).macUsable p = true → ((dropUnsendable p s).mac p).sending = none →
    (dropUnsendable p s).nextClass p = some c → (dropUnsendable p s).headFrame p c = some f → f.tsInsert = false →
    Does (.frameTransmitStart p sent) s (fun t => Out.frame p f.wire ∈ t.out ∧ (t.mac p).sending = some f.no ∧
      Touches [.time, .chk, .lathes, .macs, .switch, .wnw, .out] s t)) ∧
  (∀ c (s : State) p f, s.nextClass p = some c → s.headFrame p c = some f → bitAt (s.mac p).open_ c = true ∧ bitAt (s.mac p).paused c = false ∧
    pastDeadline s.gtc f.deadline = false ∧ ∀ d, c < d → d < 8 → s.mayStart p d = false) ∧
  (∀ p sent s, p < 12 → ((dropUnsendable p s).mac p).link = false → Does (.frameTransmitStart p sent) s (fun t => t = dropUnsendable p s)) ∧
  (∀ p sent s, 12 ≤ p → p < 28 → Does (.frameTransmitStart p sent) s (fun t => t = s)) ∧
  (∀ f sent s, s.headFrame 29 7 = some f → Does (.frameTransmitStart 29 sent) s (fun t => Out.bridge f.data ∈ t.out ∧
    ∀ x ∈ t.switch.frames, x.no = f.no → bitAt x.ports 29 = false)) ∧
  (∀ p sent s, 30 ≤ p → exec (.frameTransmitStart p sent) s = .fault (.noSuchUnit p)) ∧
  (∀ p s, p < 12 → (s.mac p).sending = none → Does (.frameTransmitEnd p) s (fun t => t = s)) ∧
  (∀ p no f s, p < 12 → (s.mac p).sending = some no → s.switch.frames.find? (fun f => f.no == no) = some f → Does (.frameTransmitEnd p) s (fun t =>
    (t.mac p).sending = none ∧ Table.get 0 (t.mac p).counters 12 = wrap 64 (Table.get 0 (s.mac p).counters 12 + 1) ∧
    Table.get 0 (t.mac p).counters 13 = wrap 64 (Table.get 0 (s.mac p).counters 13 + f.wireLen) ∧
    (∀ x ∈ t.switch.frames, x.no = no → bitAt x.ports p = false) ∧ Touches [.cell, .macs, .switch, .out] s t)) ∧
  (∀ p s, p < 30 → Does (.deadlineWithdraw p) s (fun t => (∀ x ∈ t.switch.frames, bitAt x.ports p = true → bitAt x.started p = false →
    pastDeadline s.gtc x.deadline = false) ∧ Touches [.cell, .macs, .switch, .nets, .out] s t)) ∧
  (∀ p s, 30 ≤ p → exec (.deadlineWithdraw p) s = .fault (.noSuchUnit p)) ∧
  (∀ e s, e < 16 → (s.swRing e).txHead = (s.swRing e).txTail → Does (.txDescriptorTake e) s (fun t => t = s)) ∧
  (∀ e s, e < 16 → (s.swRing e).txHead ≠ (s.swRing e).txTail →
    uAt (s.memGet (dataHalf e (s.lathe e).live + ((s.swRing e).txBase + (s.swRing e).txTail) * 16) 16) 4 2 < 14 → Does (.txDescriptorTake e) s (fun t =>
      t = s.setSwRing e { s.swRing e with ringFault := satAdd 255 (s.swRing e).ringFault 1, txTail := ((s.swRing e).txTail + 1) % 64 })) ∧
  (∀ e d ofs s, e < 16 → (s.swRing e).txHead ≠ (s.swRing e).txTail →
    s.memGet (dataHalf e (s.lathe e).live + ((s.swRing e).txBase + (s.swRing e).txTail) * 16) 16 = d → 14 ≤ uAt d 4 2 → uAt d 4 2 ≤ 9212 →
    field (uAt d 8 4) 0 30 ≠ 0 → bitAt (field (uAt d 8 4) 0 30) (12 + e) = false → lathePool e (s.lathe e).live (uAt d 0 4) = some ofs →
    s.poolOk (0x10 + e) ofs (uAt d 4 2) = true → (∀ w ∈ wordsOf ofs (uAt d 4 2), w ∉ s.pool.ueWords) →
    cellsOf (max 64 (uAt d 4 2 + 4)) ≤ (s.swRing e).credits → s.headSum + cellsOf (max 64 (uAt d 4 2 + 4)) < s.switch.sharedFree →
    (∀ q, q < 12 → bitAt (field (uAt d 8 4) 0 30) q = true → (s.mac q).holdState ≠ 2) → Does (.txDescriptorTake e) s (fun t =>
      (t.swRing e).txTail = ((s.swRing e).txTail + 1) % 64 ∧ (t.swRing e).credits = (s.swRing e).credits - cellsOf (max 64 (uAt d 4 2 + 4)) ∧
      ∃ f ∈ t.switch.frames, f.data = s.memGet ofs (uAt d 4 2) ∧ f.ingress = 12 + e ∧ f.ports = field (uAt d 8 4) 0 30 ∧ f.cls = field (uAt d 6 1) 0 3 ∧
        f.deadline = if bitAt (uAt d 6 1) 3 then some (uAt d 12 4) else none)) ∧
  (∀ e s, e < 16 → (∀ c, c < 8 → s.headFrame (12 + e) c = none) → Does (.rxRingDeliver e) s (fun t => t = s)) ∧
  (∀ e f s, e < 16 → s.headFrame (12 + e) 7 = some f → (s.swRing e).rxHead = (s.swRing e).rxTail → Does (.rxRingDeliver e) s (fun t => t = s)) ∧
  (∀ e f d s, e < 16 → s.headFrame (12 + e) 7 = some f → (s.swRing e).rxHead ≠ (s.swRing e).rxTail →
    s.memGet (dataHalf e (s.lathe e).live + ((s.swRing e).rxBase + (s.swRing e).rxTail) * 16) 16 = d → 0x10000000 ≤ uAt d 0 4 →
    uAt d 0 4 + uAt d 4 2 ≤ 0x10040000 → 64 ≤ uAt d 4 2 → Does (.rxRingDeliver e) s (fun t =>
      (t.swRing e).rxTail = ((s.swRing e).rxTail + 1) % 64 ∧
      (t.swRing e).rxTrunc = (if uAt d 4 2 < f.data.length then satAdd 255 (s.swRing e).rxTrunc 1 else (s.swRing e).rxTrunc) ∧
      ∀ x ∈ t.switch.frames, x.no = f.no → bitAt x.ports (12 + e) = false)) ∧
  (∀ e (w : Word) s, e < 16 → field w.toNat 0 6 = (s.swRing e).txTail → Does (.swTxrIdxWrite e w) s (fun t =>
    t = s.setSwRing e { s.swRing e with ringFault := satAdd 255 (s.swRing e).ringFault 1 })) ∧
  (∀ e (w : Word) s, e < 16 → field w.toNat 0 6 ≠ (s.swRing e).txTail → Does (.swTxrIdxWrite e w) s (fun t =>
    t.swRing e = { s.swRing e with txHead := field w.toNat 0 6 } ∧
    (t.lathe e).txFrames = wrap 32 ((s.lathe e).txFrames + (field w.toNat 0 6 + 64 - (s.swRing e).txHead) % 64) ∧ Touches [.lathes, .switch] s t)) ∧
  (∀ e (w : Word) s, e < 16 → Does (.swRxrIdxWrite e w) s (fun t => t = s.setSwRing e (if field w.toNat 0 6 = (s.swRing e).rxTail then
    { s.swRing e with ringFault := satAdd 255 (s.swRing e).ringFault 1 } else { s.swRing e with rxHead := field w.toNat 0 6 }))) ∧
  (∀ e s, e < 16 → Does (.swTxrCredRead e) s (fun t =>
    t = (s.setSwRing e { s.swRing e with ringFault := 0 }).returns ((s.swRing e).credits + 16777216 * (s.swRing e).ringFault))) ∧
  (∀ e s, e < 16 → Does (.swRxrIdxRead e) s (fun t => t = (s.setSwRing e { s.swRing e with rxTrunc := 0 }).returns
    ((s.swRing e).rxHead + 256 * (s.swRing e).rxTail + 65536 * (s.swRing e).rxTrunc)))

/-- Links, gates, pauses, verification, the buffer audit and the counters of the switch (R428, R432, R436, R440, R441, R444, R445, R448). -/
def Obligations.SwitchLinksGatesPausesAndCounters : Prop :=
  (∀ p s, p < 12 → (s.mac p).link = false → Does (.linkDown p) s (fun t => t = s)) ∧
  (∀ p s, p < 12 → (s.mac p).link = true → Does (.linkDown p) s (fun t => (t.mac p).link = false ∧ (t.mac p).sending = none ∧
    (t.mac p).preempted = none ∧ (t.mac p).reasm = none ∧ (t.mac p).holdState = (if (s.mac p).hold = 0 then 2 else 1) ∧
    Table.get 0 (t.mac p).counters 23 = wrap 64 (Table.get 0 (s.mac p).counters 23 + 1) ∧
    Touches [.jrnl, .host, .chk, .macs, .switch, .wnw, .out] s t)) ∧
  (∀ p v s, p < 12 → (s.mac p).link = true → Does (.linkUp p v true) s (fun t => t = s.setMac p { s.mac p with speed := wrap 2 v })) ∧
  (∀ p v s, p < 12 → (s.mac p).link = false → Does (.linkUp p v true) s (fun t => t.mac p = { s.mac p with
    link := true, speed := wrap 2 v, holdState := 0, verifyTries := 0,
    preempt := if (s.mac p).preemptEn then (if (s.mac p).verifyDis then 2 else 1) else 0 } ∧ (∀ q, q ≠ p → t.mac q = s.mac q) ∧
    t.switch = s.switch)) ∧
  (∀ p v s, p < 12 → (s.mac p).link = false → Does (.linkUp p v false) s (fun t => t = s)) ∧
  (∀ p s, p < 12 → (s.mac p).holdState ≠ 1 → Does (.holdExpiry p) s (fun t => t = s)) ∧
  (∀ p s, p < 12 → (s.mac p).holdState = 1 → Does (.holdExpiry p) s (fun t => (t.mac p).holdState = 2 ∧
    (∀ x ∈ t.switch.frames, bitAt x.ports p = true → bitAt x.started p = true) ∧ Touches [.macs, .switch, .out] s t)) ∧
  (∀ p w s, p < 12 → (s.mac p).link = false → Does (.preemptVerify p w) s (fun t => t = s)) ∧
  (∀ p s, p < 12 → (s.mac p).link = true → Does (.preemptVerify p .asked) s (fun t => t = s.send (.mpacket p 2))) ∧
  (∀ p s, p < 12 → (s.mac p).link = true → (s.mac p).preempt = 1 → 0 < (s.mac p).verifyTries → Does (.preemptVerify p .response) s (fun t =>
    t = s.setMac p { s.mac p with preempt := 2 })) ∧
  (∀ p s, p < 12 → (s.mac p).link = true → (s.mac p).preempt = 1 → Does (.preemptVerify p .attempt) s (fun t =>
    t = if (s.mac p).verifyTries < 3 then (s.setMac p { s.mac p with verifyTries := (s.mac p).verifyTries + 1 }).send (.mpacket p 1)
      else s.setMac p { s.mac p with preempt := 3 })) ∧
  (∀ p s, p < 12 → (s.mac p).gatesNext = none → Does (.gateListActivate p) s (fun t => t.mac p = s.mac p ∧ Touches [.time, .macs] s t)) ∧
  (∀ p s, p < 12 → (s.mac p).gatesNext = some none → Does (.gateListActivate p) s (fun t => (t.mac p).gates = none ∧ (t.mac p).open_ = 0xFF ∧
    (t.mac p).gatesNext = none ∧ (t.mac p).holding = false ∧ (∀ q, q ≠ p → t.mac q = s.mac q) ∧ Touches [.time, .macs] s t)) ∧
  (∀ p g e es s, p < 12 → (s.mac p).gatesNext = some (some g) → g.entries = e :: es → Does (.gateListActivate p) s (fun t => (t.mac p).gates = some g ∧
    (t.mac p).gateIdx = 0 ∧ (t.mac p).open_ = e.1 ∧ (t.mac p).gatesNext = none ∧ (t.mac p).holding = decide (e.2.1 = 1) ∧ Touches [.time, .macs] s t)) ∧
  (∀ p s, p < 12 → (s.mac p).gates = none → Does (.gateChange p) s (fun t => t = s)) ∧
  (∀ p g i e s, p < 12 → (s.mac p).gates = some g → i = (if (s.mac p).gateIdx + 1 < g.entries.length then (s.mac p).gateIdx + 1 else 0) →
    g.entries[i]? = some e → Does (.gateChange p) s (fun t => (t.mac p).gateIdx = i ∧ (t.mac p).open_ = e.1 ∧
      (t.mac p).gateUntil = (s.mac p).gateUntil + e.2.2 ∧ (∀ q, q ≠ p → t.mac q = s.mac q) ∧ Touches [.time, .macs] s t)) ∧
  (∀ p s, p < 12 → (s.mac p).condition &&& (s.mac p).xoffSent = 0 → Does (.pauseRefresh p) s (fun t => t = s)) ∧
  (∀ p s, p < 12 → (s.mac p).condition &&& (s.mac p).xoffSent ≠ 0 → Does (.pauseRefresh p) s (fun t =>
    t.out = s.out ++ [.pause p ((s.mac p).condition &&& (s.mac p).xoffSent) 0xFFFF] ∧
    Table.get 0 (t.mac p).counters 16 = wrap 64 (Table.get 0 (s.mac p).counters 16 + 1) ∧ Touches [.macs, .out] s t)) ∧
  (∀ p cs s, p < 12 → Does (.pauseTimeExpiry p cs) s (fun t => t = s.setMac p { s.mac p with paused := (t.mac p).paused } ∧
    ∀ c, bitAt (t.mac p).paused c = (bitAt (s.mac p).paused c && !(decide (c < 8) && bitAt cs c)))) ∧
  (∀ leaked twice freed s, Does (.bufferAudit leaked twice freed) s (fun t =>
    t.switch.audits = wrap 16 (s.switch.audits + 1) ∧
    t.switch.leaks = satAdd 255 s.switch.leaks (leaked.filter (fun c => s.switch.suspects.contains c)).length ∧
    t.switch.doubles = satAdd 255 s.switch.doubles twice.length ∧ t.switch.suspects = leaked.filter (fun c => !s.switch.suspects.contains c) ∧
    t.switch.frames = s.switch.frames ∧ Touches [.jrnl, .switch, .wnw] s t)) ∧
  (∀ s, Does .swAuditRead s (fun t => t = { s with switch := { s.switch with leaks := 0, doubles := 0 } }.returns
    (s.switch.audits + 65536 * s.switch.leaks + 16777216 * s.switch.doubles))) ∧
  (∀ e n (w : Word) s, n < 12 → (s.mac n).owner = some e → bitAt w.toNat 0 = true → Does (.macSnapWrite (0x10 + e) n w) s (fun t =>
    t = s.setMac n { s.mac n with snap1 := (s.gtc, (s.mac n).counters), taken := wrap 16 ((s.mac n).taken + 1) })) ∧
  (∀ m n (w : Word) s, n < 12 → (s.mac n).owner = none ∨ bitAt w.toNat 0 = false → Does (.macSnapWrite m n w) s (fun t => t = s)) ∧
  (∀ n j s, n < 12 → j < 16 → Does (.nrwCounterRead n j) s (fun t => Table.get 0 (t.mac n).nrw j = 0 ∧ t.rd = Table.get 0 (s.mac n).nrw j ∧
    (∀ k, k ≠ j → Table.get 0 (t.mac n).nrw k = Table.get 0 (s.mac n).nrw k) ∧ (t.mac n).counters = (s.mac n).counters ∧ Touches [.macs, .rd] s t)) ∧
  (∀ n j s, 12 ≤ n → exec (.nrwCounterRead n j) s = .fault (.noSuchUnit n) ∧ exec (.linkDown n) s = .fault (.noSuchUnit n))

/-- Background tests (R582, R586 to R588, R595 to R598, R600, R663): a scrub pass goes on by one burst, a test that fails twice in a row dooms its block
from the next edge, and a calibration that moved is stored. -/
def Obligations.WinnowerScrubsTestsAndCalibrates : Prop :=
  (∀ mem errs s, mem < 6 → s.wnw.run = false → Does (.scrubBurst mem errs) s (fun t => t = s)) ∧
  (∀ mem s, mem < 6 → s.wnw.run = true → (s.scrub mem).burst + 1 < bursts mem → Does (.scrubBurst mem []) s (fun t =>
    t = s.setScrub mem { s.scrub mem with burst := (s.scrub mem).burst + 1 })) ∧
  (∀ mem s, mem < 6 → s.wnw.run = true → bursts mem ≤ (s.scrub mem).burst + 1 → Does (.scrubBurst mem []) s (fun t =>
    t = s.setScrub mem { s.scrub mem with burst := 0, start := s.cell.tick + 1, passes := wrap 8 ((s.scrub mem).passes + 1), before := (s.scrub mem).now,
                                          now := [], counted := false })) ∧
  (∀ w h s, s.wnw.run = true → w < 64 * 0x10000 → Does (.scrubBurst 0 [(w, false, h)]) s (fun t =>
    (t.scrub 0).ce = wrap 32 ((s.scrub 0).ce + 1) ∧ (t.bank (w / 0x10000)).ce = satAdd 255 (s.bank (w / 0x10000)).ce 1 ∧ t.pool.mem = s.pool.mem)) ∧
  (∀ w h s, s.wnw.run = true → w < 64 * 0x10000 → Does (.scrubBurst 0 [(w, true, h)]) s (fun t =>
    (t.scrub 0).ue = wrap 32 ((s.scrub 0).ue + 1) ∧ (t.bank (w / 0x10000)).ue = satAdd 255 (s.bank (w / 0x10000)).ue 1 ∧ t.pool.errValid = true ∧
    t.pool.errBank = w / 0x10000 ∧ t.pool.errWord = w % 0x10000)) ∧
  (∀ mem s, mem < 6 → (s.scrub mem).counted = true → Does (.scrubLate mem) s (fun t => t = s)) ∧
  (∀ mem s, mem < 6 → (s.scrub mem).counted = false → Does (.scrubLate mem) s (fun t => (t.scrub mem).counted = true ∧
    t.wnw.scrubLate = wrap 32 (s.wnw.scrubLate + 1) ∧ Touches [.wnw] s t)) ∧
  (∀ b ok s, s.wnw.run = false ∨ s.sliceable b = false → Does (.selfTestSlice b ok) s (fun t => t = s)) ∧
  (∀ b s, s.wnw.run = true → s.sliceable b = true → b ≠ 200 → Does (.selfTestSlice b true) s (fun t => Table.get 0 t.wnw.fails b = 0 ∧
    t.wnw.marks = s.wnw.marks ∧ Touches [.wnw] s t)) ∧
  (∀ b s, s.wnw.run = true → s.sliceable b = true → b ≠ 200 → Does (.selfTestSlice b false) s (fun t =>
    Table.get 0 t.wnw.fails b = Table.get 0 s.wnw.fails b + 1 ∧
    t.wnw.marks = (if Table.get 0 s.wnw.fails b = 1 then s.wnw.marks ++ [(b, 1)] else s.wnw.marks) ∧ Touches [.wnw] s t)) ∧
  (∀ s, s.wnw.run = true → (∀ n, n < 9 → s.lost (21 + n) = false) → s.wnw.spareSlice + 1 < 1024 → Does (.spareTestSlice true) s (fun t =>
    t.wnw.spareSlice = s.wnw.spareSlice + 1 ∧ t.motion = s.motion ∧ Touches [.wnw] s t)) ∧
  (∀ s, s.wnw.run = true → (∀ n, n < 9 → s.lost (21 + n) = false) → 1024 ≤ s.wnw.spareSlice + 1 → Does (.spareTestSlice true) s (fun t =>
    t.wnw.spareSlice = 1024 ∧ t.motion = { s.motion with spareDone := some s.motion.spare } ∧ Touches [.wnw, .motion] s t)) ∧
  (∀ s, s.wnw.run = true → (∀ n, n < 9 → s.lost (21 + n) = false) → Does (.spareTestSlice false) s (fun t =>
    t.wnw.spareSlice = s.wnw.spareSlice ∧ Table.get 0 t.wnw.fails (21 + s.motion.spare) = Table.get 0 s.wnw.fails (21 + s.motion.spare) + 1)) ∧
  (∀ lane s, Does (.eyeMonitor lane true) s (fun t => t = s)) ∧
  (∀ lane s, s.wnw.run = true → s.power.inhibit = true → Does (.eyeMonitor lane false) s (fun t =>
    t.jrnl.heldBack.length = s.jrnl.heldBack.length + 1 ∧ t.wnw.marks = s.wnw.marks ∧ Touches [.jrnl, .wnw, .freeCount] s t)) ∧
  (∀ lane ok s, lane < 16 → (if lane < 12 then (s.mac lane).link else (s.fabPort (lane - 12)).link) = true → Does (.loopbackTest lane ok) s (fun t => t = s)) ∧
  (∀ lane s, lane < 12 → (s.mac lane).link = false → s.wnw.run = true → Does (.loopbackTest lane false) s (fun t =>
    Table.get 0 t.wnw.fails (1065 + lane) = Table.get 0 s.wnw.fails (1065 + lane) + 1 ∧
    t.wnw.marks = (if Table.get 0 s.wnw.fails (1065 + lane) = 1 then s.wnw.marks ++ [(65 + lane, 6)] else s.wnw.marks) ∧ Touches [.wnw] s t)) ∧
  (∀ c ofs g s, c < 4 → s.wnw.run = true → Does (.converterCalibration c ofs g true) s (fun t => (∀ k, t.calib k = s.calib k) ∧
    Table.get 0 t.wnw.fails (81 + c) = Table.get 0 s.wnw.fails (81 + c) + 1)) ∧
  (∀ c (ofs : Int) g s, c < 4 → s.wnw.run = true → -32768 ≤ ofs → ofs < 32768 → g < 2 ^ 18 → Does (.converterCalibration c ofs g false) s (fun t =>
    ((t.calib c).target.map (fun x => (x.1, x.2.1))) = some (ofs, g) ∧ Table.get 0 t.wnw.fails (81 + c) = 0 ∧
    (4 < (ofs - ((s.calib c).stored.getD (0, 0x10000)).1).natAbs → (t.calib c).stored = some (ofs, g)))) ∧
  (∀ u tap s, u < 24 → s.wnw.run = true → Does (.pwmTuning u tap true) s (fun t => Table.get 0 t.wnw.tapNext u = tap + 1 ∧
    Table.get 0 t.wnw.tapKept u = (if tap ≤ Table.get 0 s.wnw.tapKept u + 100 ∧ Table.get 0 s.wnw.tapKept u ≤ tap + 100 then Table.get 0 s.wnw.tapKept u
      else tap))) ∧
  (∀ u tap s, u < 24 → s.wnw.run = true → Does (.pwmTuning u tap false) s (fun t => t.wnw.tapNext = s.wnw.tapNext ∧
    Table.get 0 t.wnw.fails (93 + u) = Table.get 0 s.wnw.fails (93 + u) + 1)) ∧
  (∀ (tj : Int) s, s.wnw.run = true → -512 ≤ tj → tj < 512 → Does (.temperatureSample tj) s (fun t => t.wnw.tj = tj ∧
    t.wnw.hot85 = (if 340 < tj then s.wnw.hot85 + 1 else s.wnw.hot85) ∧ t.wnw.hot105 = (if 420 < tj then s.wnw.hot105 + 1 else s.wnw.hot105) ∧
    Touches [.wnw] s t)) ∧
  (∀ m k errs, (∀ s, 6 ≤ m → exec (.scrubBurst m errs) s = .fault (.noSuchUnit m)) ∧ (∀ s, 24 ≤ k → exec (.pwmTuning k 0 true) s = .fault (.noSuchUnit k)))

/-- Non-volatile memory and the telemetry stream (R434, R589 to R593, R609, R614 to R616, R619, R620). -/
def Obligations.NonVolatileWritesAndTelemetry : Prop :=
  (∀ s, s.cell.tick % commitTicks s.cell.tickSel ≠ 0 ∨ s.power.inhibit = true → Does .journalCommit s (fun t => t = s)) ∧
  (∀ s, s.cell.tick % commitTicks s.cell.tickSel = 0 → s.power.inhibit = false → Does .journalCommit s (fun t => t.jrnl = s.jrnl.commit ∧
    t.jrnl.fill = s.jrnl.openRecs.length ∧ t.jrnl.openRecs = s.jrnl.openRecs ∧ Touches [.jrnl, .wnw] s t)) ∧
  (∀ k s, k < levelled → s.wnw.run = true → s.power.inhibit = false → s.jrnl.deferring = false →
    Table.get 0 s.jrnl.erases k + 2000 < s.jrnl.eraseSpan.1 → Does (.wearLevelMove k) s (fun t =>
      Table.get 0 t.jrnl.erases k = Table.get 0 s.jrnl.erases k + 1 ∧ t.jrnl.nvWritten = s.jrnl.nvWritten + 65536 ∧ Touches [.jrnl] s t)) ∧
  (∀ k s, k < levelled → s.power.inhibit = true ∨ s.jrnl.deferring = true ∨ s.jrnl.eraseSpan.1 ≤ Table.get 0 s.jrnl.erases k + 2000 →
    Does (.wearLevelMove k) s (fun t => t = s)) ∧
  (∀ past s, Does (.nvRateCheck past) s (fun t => t = { s with jrnl := { s.jrnl with
    nvWritten := s.jrnl.nvWritten - past, rateAvg := wrap 32 ((s.jrnl.nvWritten - past) / 86400), deferring := t.jrnl.deferring } } ∧
    (rateLimit < (s.jrnl.nvWritten - past) / 86400 → t.jrnl.deferring = true) ∧
    (10 * ((s.jrnl.nvWritten - past) / 86400) < 9 * rateLimit → t.jrnl.deferring = false) ∧
    (9 * rateLimit ≤ 10 * ((s.jrnl.nvWritten - past) / 86400) → (s.jrnl.nvWritten - past) / 86400 ≤ rateLimit → t.jrnl.deferring = s.jrnl.deferring))) ∧
  (∀ e s, s.jrnl.pages.find? (fun p => decide (s.jrnl.nextArchive ≤ p.no)) = none → Does (.archiveCopy e) s (fun t => t = s)) ∧
  (∀ p s, s.jrnl.pages.find? (fun p => decide (s.jrnl.nextArchive ≤ p.no)) = some p → s.power.inhibit = false → s.jrnl.deferring = false →
    Does (.archiveCopy none) s (fun t => t.jrnl.archive = s.jrnl.archive ++ [p] ∧ t.jrnl.nextArchive = p.no + 1 ∧
      t.jrnl.nvWritten = s.jrnl.nvWritten + 4096 ∧ t.jrnl.pages = s.jrnl.pages ∧ Touches [.jrnl] s t)) ∧
  (∀ p sec n s, s.jrnl.pages.find? (fun p => decide (s.jrnl.nextArchive ≤ p.no)) = some p → s.power.inhibit = false → s.jrnl.deferring = false →
    Does (.archiveCopy (some (sec, n))) s (fun t => t.jrnl.archive = s.jrnl.archive.drop n ++ [p] ∧
      Table.get 0 t.jrnl.erases sec = Table.get 0 s.jrnl.erases sec + 1)) ∧
  (∀ e p s, s.jrnl.pages.find? (fun p => decide (s.jrnl.nextArchive ≤ p.no)) = some p → s.power.inhibit = false → s.jrnl.deferring = true →
    s.jrnl.deferredTo ≤ p.no → Does (.archiveCopy e) s (fun t => t.jrnl.archive = s.jrnl.archive ∧
      t.jrnl.nvDeferred = wrap 32 (s.jrnl.nvDeferred + p.recs.length) ∧ t.jrnl.deferredTo = p.no + 1)) ∧
  (∀ d sec s, d < 2 → Does (.norOperationComplete d 2 sec true) s (fun t => sec ∉ t.jrnl.erasing ∧
    Table.get 0 t.jrnl.erases sec = Table.get 0 s.jrnl.erases sec + 1 ∧ Touches [.jrnl] s t)) ∧
  (∀ d op sec s, d < 2 → op < 2 → Does (.norOperationComplete d op sec true) s (fun t => t = s)) ∧
  (∀ d op sec s, d < 2 → Does (.norOperationComplete d op sec false) s (fun t => bitAt t.jrnl.norOk d = false ∧ Touches [.jrnl, .wnw] s t)) ∧
  (∀ d op sec s, 2 ≤ d → exec (.norOperationComplete d op sec true) s = .fault (.noSuchUnit d)) ∧
  (∀ s, s.wnw.stream.en = false ∨ s.wnw.stream.queue = [] → Does .telemetryDatagram s (fun t => t = s)) ∧
  (∀ s, s.wnw.stream.en = true → s.wnw.stream.queue ≠ [] → (∀ r ∈ s.wnw.stream.queue, r.data.length ≤ 128) →
    7 ≤ s.switch.sheafCredits → s.headSum + 7 < s.switch.sharedFree → (s.mac s.wnw.stream.port).holdState ≠ 2 → s.wnw.stream.port < 12 →
    s.wnw.stream.dstMac.length = 6 → s.wnw.stream.srcIp.length = 4 → s.wnw.stream.dstIp.length = 4 →
    Does .telemetryDatagram s (fun t => t.wnw.stream.seq = wrap 16 (s.wnw.stream.seq + 1) ∧ t.wnw.stream.queue.length < s.wnw.stream.queue.length ∧
      ∃ f ∈ t.switch.frames, f.ingress = 28 ∧ f.cls = 0 ∧ f.ports = 2 ^ s.wnw.stream.port ∧ Out.telemetry f.data ∈ t.out))

/-- The Glume's inputs (R210 to R214, R238, R240): a telegram meets the tests of R211 in their order, the first that fails counts and discards it;
a source that is late, a safe input whose channels disagree or miss a test pulse, and a safe output that fails its test raise their causes. -/
def Obligations.GlumeTestsTelegramsInputsAndOutputs : Prop :=
  (∀ bs st s, s.block.sourceOf (be bs 0 2) = none → Does (.safetyTelegramReceive bs st) s (fun t => t = s)) ∧
  (∀ bs st k s, s.block.sourceOf (be bs 0 2) = some k → ¬ Intact bs → Does (.safetyTelegramReceive bs st) s (fun t =>
    t = s.setGsrc k { s.gsrc k with badCheck := wrap 32 ((s.gsrc k).badCheck + 1) })) ∧
  (∀ bs st k s, s.block.sourceOf (be bs 0 2) = some k → Intact bs → ¬ Addressed s.block k bs → Does (.safetyTelegramReceive bs st) s (fun t =>
    t = s.setGsrc k { s.gsrc k with badAddr := wrap 32 ((s.gsrc k).badAddr + 1) })) ∧
  (∀ bs st k s, s.block.sourceOf (be bs 0 2) = some k → Intact bs → Addressed s.block k bs → ¬ InSequence s.block (s.gsrc k).seq (be bs 6 2) →
    Does (.safetyTelegramReceive bs st) s (fun t => t = s.setGsrc k { s.gsrc k with badSeq := wrap 32 ((s.gsrc k).badSeq + 1) })) ∧
  (∀ bs st k s, s.block.sourceOf (be bs 0 2) = some k → Intact bs → Addressed s.block k bs → InSequence s.block (s.gsrc k).seq (be bs 6 2) →
    ¬ FreshEnough s.block k bs → Does (.safetyTelegramReceive bs st) s (fun t =>
      t = s.setGsrc k { s.gsrc k with badAge := wrap 32 ((s.gsrc k).badAge + 1) })) ∧
  (∀ bs st k s, s.block.sourceOf (be bs 0 2) = some k → Intact bs → Addressed s.block k bs → InSequence s.block (s.gsrc k).seq (be bs 6 2) →
    FreshEnough s.block k bs → be bs 4 1 = 1 → ¬ JointsFormed s.block k bs → Does (.safetyTelegramReceive bs st) s (fun t =>
      t = s.setGsrc k { s.gsrc k with badForm := wrap 32 ((s.gsrc k).badForm + 1) })) ∧
  (∀ bs st k s, s.block.sourceOf (be bs 0 2) = some k → Intact bs → Addressed s.block k bs → InSequence s.block (s.gsrc k).seq (be bs 6 2) →
    FreshEnough s.block k bs → be bs 4 1 = 1 → JointsFormed s.block k bs → Does (.safetyTelegramReceive bs st) s (fun t =>
      (t.gsrc k).accepted = wrap 32 ((s.gsrc k).accepted + 1) ∧ (t.gsrc k).seq = some (be bs 6 2) ∧ (t.gsrc k).last = st ∧ (t.gsrc k).timedOut = false ∧
      (∀ i, i < be bs 12 1 → (be bs (14 + 14 * i) 2, toS 64 (be bs (16 + 14 * i) 8), toS 32 (be bs (24 + 14 * i) 4)) ∈ (t.gsrc k).joints) ∧
      Touches [.jrnl, .host, .wnw, .glume, .out] s t)) ∧
  (∀ k s, s.block.sources.length ≤ k → Does (.sourceTimeout k) s (fun t => t = s)) ∧
  (∀ k s, k < s.block.sources.length → Does (.sourceTimeout k) s (fun t =>
    (t.gsrc k).timedOut = true ∧ (t.gsrc k).seq = none ∧ (t.gsrc k).timeouts = wrap 32 ((s.gsrc k).timeouts + 1) ∧
    ((s.block.sources.getD k {}).kind = 1 → ∀ u ∈ maskUnits (s.block.sources.getD k {}).armMask 0, t.hasCause u causeSensor) ∧
    ((s.block.sources.getD k {}).kind ≠ 1 → ∀ p ∈ s.ctrlAxes k, t.hasCause p.2 causeDrive) ∧ Touches [.jrnl, .host, .wnw, .glume, .out] s t)) ∧
  (∀ a b s, Does (.safeInputSample a b) s (fun t => Touches [.glume] s t ∧ (∀ p, p ∉ s.block.inputs.map (fun i => i.pair) → t.safeIn p = s.safeIn p) ∧
    ((s.block.inputs.map (fun i => i.pair)).Nodup → ∀ i ∈ s.block.inputs,
      (bitAt a i.pair = true → (t.safeIn i.pair).openA = 0 ∧ (t.safeIn i.pair).isOpenA = false) ∧
      (bitAt a i.pair = false → s.inPulse i.tp = false → (t.safeIn i.pair).openA = (s.safeIn i.pair).openA + 10 ∧
        (t.safeIn i.pair).isOpenA = decide (i.filtUs ≤ (s.safeIn i.pair).openA + 10)) ∧
      (bitAt b i.pair = !i.antivalent → (t.safeIn i.pair).openB = 0 ∧ (t.safeIn i.pair).isOpenB = false) ∧
      (bitAt b i.pair = i.antivalent → s.inPulse i.tp = false → (t.safeIn i.pair).openB = (s.safeIn i.pair).openB + 10 ∧
        (t.safeIn i.pair).isOpenB = decide (i.filtUs ≤ (s.safeIn i.pair).openB + 10))))) ∧
  (∀ p s, p < 32 → s.block.inputs.find? (fun i => i.pair == p) = none ∨ (s.safeIn p).isOpenA = (s.safeIn p).isOpenB →
    Does (.discrepancyTimeout p) s (fun t => t = s)) ∧
  (∀ p i s, p < 32 → s.block.inputs.find? (fun i => i.pair == p) = some i → (s.safeIn p).isOpenA ≠ (s.safeIn p).isOpenB →
    Does (.discrepancyTimeout p) s (fun t => (t.safeIn p).fault = true ∧ (∀ u ∈ i.units, t.hasCause u causeInput) ∧
      Touches [.jrnl, .host, .wnw, .glume, .out] s t)) ∧
  (∀ k a b s, k < 4 → Does (.testPulse k a b) s (fun t => Table.get 0 t.glume.tpAt k = s.gtc ∧
    (∀ i ∈ s.block.inputs, i.tp = k → i.function ≠ 0 → (t.safeIn i.pair).missed = !(bitAt a i.pair && bitAt b i.pair) ∧
      (bitAt a i.pair = false ∨ bitAt b i.pair = false → (t.safeIn i.pair).fault = true ∧ ∀ u ∈ i.units, t.hasCause u causeInput)))) ∧
  (∀ p h l c s, p < 32 → s.block.outputs.find? (fun o => o.pair == p) = none ∨ (s.safeOut p).high = false ∨ (s.safeOut p).low = false ∨
      (h = true ∧ l = true ∧ c = false) → Does (.outputTestPulse p h l c) s (fun t => t = s)) ∧
  (∀ p o h l c s, p < 32 → s.block.outputs.find? (fun o => o.pair == p) = some o → (s.safeOut p).high = true → (s.safeOut p).low = true →
    (h = false ∨ l = false ∨ c = true) → Does (.outputTestPulse p h l c) s (fun t => (t.safeOut p).fault = true ∧
      ((t.safeOut p).high = true ↔ (c = false ∧ h = false ∧ l = true)) ∧ ((t.safeOut p).low = true ↔ (c = false ∧ h = true ∧ l = false)) ∧
      (∀ u ∈ s.outputUnits o, t.hasCause u causeOutput))) ∧
  (∀ p s, 32 ≤ p → exec (.discrepancyTimeout p) s = .fault (.noSuchUnit p) ∧ exec (.outputTestPulse p true true false) s = .fault (.noSuchUnit p))

/-- The Glume's cycle (R198, R201, R221, R222, R228 to R234, R246, R249): what is latched, the results of the two channels on the cleared window and on
the candidate, the end of a category 1 stop, and the faults of the Glume. The distances and grades are operands of the row (log entry 37). -/
def Obligations.GlumeChecksWindowsStopsAndFaults : Prop :=
  (∀ u s, u < 16 → Does (.proposalLatch u) s (fun t => (t.gunit u).hasLatch = true ∧
    (t.gunit u).latched = (s.ownerAxes (1000 + u)).map (fun a => (a, (((s.axis a).queue.entries.drop ((s.ownQueue (1000 + u)).c - (s.ownQueue (1000 + u)).k)).take
      (min ((s.ownQueue (1000 + u)).s - (s.ownQueue (1000 + u)).c)
        ((s.ownQueue (1000 + u)).k + ticksPerSafety s.cell.tickSel + s.horizon - (s.ownQueue (1000 + u)).c))).map (fun q => (q.stamp, q.check a)))) ∧
    (∀ w, w ≠ u → t.gunit w = s.gunit w) ∧ Touches [.glume] s t)) ∧
  (∀ u r s, u < 16 → r.cand = false → r.fail = 0 → 0 ≤ r.mKeep → r.oKeep = false →
    ((Table.get (0, 0) s.glume.modes u).1 ≠ 2 ∨ 0 ≤ r.mHuman ∧ r.oHuman = false) → Does (.glumeChannelResult u r) s (fun t =>
      (t.gunit u).causes = (s.gunit u).causes ∧ (t.gunit u).window = 0 ∧ (∀ w, w ≠ u → t.gunit w = s.gunit w) ∧ Touches [.glume] s t)) ∧
  (∀ u r s, u < 16 → r.cand = false → (r.fail ≠ 0 ∨ r.mKeep < 0 ∨ r.oKeep = true) → Does (.glumeChannelResult u r) s (fun t =>
    t.hasCause u causeKeepout ∧ Touches [.jrnl, .host, .wnw, .glume, .out] s t)) ∧
  (∀ u r s, u < 16 → r.cand = false → (r.fail ≠ 0 ∨ (Table.get (0, 0) s.glume.modes u).1 = 2 ∧ (r.mHuman < 0 ∨ r.oHuman = true)) →
    Does (.glumeChannelResult u r) s (fun t => t.hasCause u causeSeparation)) ∧
  (∀ u r s, u < 16 → r.cand = false → (r.mKeep < 0 ∧ r.oKeep = false ∨ 88 < r.mKeep ∧ r.oKeep = true) → Does (.glumeChannelResult u r) s (fun t =>
    t.glume.disagree = wrap 32 (s.glume.disagree + 1) ∧ (t.gunit u).disagreed = some s.glume.cycle ∧
    ((s.gunit u).disagreed.map (· + 1) = some s.glume.cycle → 4 ∈ t.glume.faults ∧ ∀ w ∈ s.units, t.hasCause w causeGlume))) ∧
  (∀ u r s, u < 16 → r.cand = true → (r.fail ≠ 0 ∨ r.mKeep < 0 ∨ r.oKeep = true ∨ (s.gunit u).proposed = 0) → Does (.glumeChannelResult u r) s (fun t =>
    (t.gunit u).result = some (0, 0) ∧ (t.gunit u).passed = false)) ∧
  (∀ u r s, u < 16 → r.cand = true → r.fail = 0 → 0 ≤ r.mKeep → r.oKeep = false → (s.gunit u).proposed ≠ 0 →
    (Table.get (0, 0) s.glume.modes u).1 ≠ 2 → Does (.glumeChannelResult u r) s (fun t =>
      (t.gunit u).result = some ((s.gunit u).proposed, (s.block.grades.getD 0 (0, 0x8000)).2) ∧ (t.gunit u).passed = true ∧
      (t.gunit u).margin = r.mHuman ∧ Touches [.glume] s t)) ∧
  (∀ u r i s, u < 16 → r.cand = true → r.fail = 0 → 0 ≤ r.mKeep → r.oKeep = false → 0 ≤ r.mHuman → r.oHuman = false → (s.gunit u).proposed ≠ 0 →
    (Table.get (0, 0) s.glume.modes u).1 = 2 → gradeRow s.block.grades r.mHuman r.oGrade = some i → Does (.glumeChannelResult u r) s (fun t =>
      (t.gunit u).passed = true ∧ Touches [.glume] s t ∧
      ((s.gunit u).factor = 0 ∨ (s.block.grades.getD i (0, 0x8000)).2 ≤ (s.gunit u).factor →
        (t.gunit u).result = some ((s.gunit u).proposed, (s.block.grades.getD i (0, 0x8000)).2)) ∧
      ((s.gunit u).factor ≠ 0 → (s.gunit u).factor < (s.block.grades.getD i (0, 0x8000)).2 → (s.gunit u).raise + 1 < s.block.raiseCycles →
        (t.gunit u).result = some ((s.gunit u).proposed, (s.gunit u).factor)))) ∧
  (∀ u s, u < 32 → Does (.glumeDeadlineMiss u) s (fun t => (t.gunit u).result = none ∧ 3 ∈ t.glume.faults ∧ (∀ w ∈ s.units, t.hasCause w causeGlume) ∧
    Touches [.jrnl, .host, .wnw, .glume, .out] s t)) ∧
  (∀ u s, u < 32 → (s.gunit u).stop ≠ some 1 → Does (.stop1Timeout u) s (fun t => t = s)) ∧
  (∀ u s, u < 32 → (s.gunit u).stop = some 1 → Does (.stop1Timeout u) s (fun t => t.gunit u = { s.gunit u with sto := true } ∧
    (∀ w, w ≠ u → t.gunit w = s.gunit w) ∧
    ((s.block.outputs.map (fun o => o.pair)).Nodup → ∀ o ∈ s.block.outputs, o.function = 1 → u ∈ maskUnits o.armMask o.auxMask →
      (t.safeOut o.pair).high = false ∧ (t.safeOut o.pair).low = false) ∧ Touches [.glume, .out] s t)) ∧
  (∀ s, Does .glumeClockFault s (fun t => t.glume.cut = true ∧ (∀ p, p < 32 → (t.safeOut p).high = false ∧ (t.safeOut p).low = false) ∧
    0 ∈ t.glume.faults ∧ (∀ w ∈ s.units, t.hasCause w causeGlume) ∧ Touches [.jrnl, .host, .wnw, .glume, .cut, .out] s t)) ∧
  (∀ s, Does (.glumeSelfTest true) s (fun t => t = { s with glume := { s.glume with faults := [], cut := false } })) ∧
  (∀ s, Does (.glumeSelfTest false) s (fun t => 2 ∈ t.glume.faults ∧ t.glume.cut = s.glume.cut ∧ (∀ w ∈ s.units, t.hasCause w causeGlume) ∧
    Touches [.jrnl, .host, .wnw, .glume, .out, .cut] s t)) ∧
  (∀ s, Does .tickAbsence s (fun t => 1 ∈ t.glume.faults ∧ (∀ w ∈ s.units, t.hasCause w causeGlume) ∧ Touches [.jrnl, .host, .wnw, .glume, .out] s t)) ∧
  (∀ s, Does .pendingBlockExpiry s (fun t => t = { s with glume := { s.glume with pendingBlock := none } })) ∧
  (∀ u r s, (16 ≤ u → exec (.proposalLatch u) s = .fault (.noSuchUnit u) ∧ exec (.glumeChannelResult u r) s = .fault (.noSuchUnit u)) ∧
    (32 ≤ u → exec (.glumeDeadlineMiss u) s = .fault (.noSuchUnit u) ∧ exec (.stop1Timeout u) s = .fault (.noSuchUnit u)))

/-- Events of the Lathes (R364, R366, R370 to R372, R376, R379): a receive entry, a post, a telemetry record, the start of a loaded image, a
swap, the end of a migration and a restart. -/
def Obligations.LatheEventsEnterPostStartSwapAndRestart : Prop :=
  (∀ e s, e < 16 → ((s.lathe e).due = [] ∨ (s.lathe e).loaded = false ∨ (s.lathe e).unusable = true ∨ (s.lathe e).migrating = true ∨
      (s.lathe e).restarting = true ∨ (s.lathe e).initing = true ∨ (s.lathe e).rx.active = true) → Does (.latheReceiveEntry e) s (fun t => t = s)) ∧
  (∀ e x rest s, e < 16 → (s.lathe e).due = x :: rest → (s.lathe e).loaded = true → (s.lathe e).unusable = false → (s.lathe e).migrating = false →
    (s.lathe e).restarting = false → (s.lathe e).initing = false → (s.lathe e).rx.active = false → Does (.latheReceiveEntry e) s (fun t =>
      (t.lathe e).due = rest ∧ (t.lathe e).rxEvents = wrap 32 ((s.lathe e).rxEvents + 1) ∧ (t.lathe e).rx.active = true ∧
      (t.lathe e).rx.ip = BitVec.ofNat 32 (s.lathe e).image.entryRx ∧ (t.lathe e).rx.reg 0 = BitVec.ofNat 32 x.reason ∧
      (t.lathe e).rx.reg 1 = BitVec.ofNat 32 x.arg ∧ (t.lathe e).rx.reg 12 = (s.lathe e).rx.sptop ∧ (t.lathe e).phase = (s.lathe e).phase ∧
      (t.lathe e).bg = (s.lathe e).bg ∧ (∀ d, d ≠ e → t.lathe d = s.lathe d) ∧ Touches [.lathes, .chisels] s t)) ∧
  (∀ e w s, e < 16 → s.inSlot e (field w.toNat 0 12) = none → Does (.lthPostWrite e w) s (fun t => t = s)) ∧
  (∀ e w d s, e < 16 → s.inSlot e (field w.toNat 0 12) = some d → s.cell.edge + postDeadline s.cell.tickSel < s.gtc →
    fullStamp s.gtc (s.lathe e).postStamp < s.cell.edge → Does (.lthPostWrite e w) s (fun t =>
      let i : InSlot := Table.get {} (s.lathe e).slots (field w.toNat 0 12)
      let j : InSlot := Table.get {} (t.lathe e).slots (field w.toNat 0 12)
      (t.lathe e).postLate = wrap 32 ((s.lathe e).postLate + 1) ∧ j.snap = i.snap ∧ j.stale = i.stale ∧ j.later = i.later ∧ j.posted = i.posted ∧
      j.fresh = false ∧ Touches [.lathes] s t)) ∧
  (∀ e w d s, e < 16 → s.inSlot e (field w.toNat 0 12) = some d → s.gtc ≤ s.cell.edge + postDeadline s.cell.tickSel →
    fullStamp s.gtc (s.lathe e).postStamp < s.cell.edge →
    (Table.get ({} : InSlot) (s.lathe e).slots (field w.toNat 0 12)).fresh = true →
    (Table.get ({} : InSlot) (s.lathe e).slots (field w.toNat 0 12)).posted = none → Does (.lthPostWrite e w) s (fun t =>
      let j : InSlot := Table.get {} (t.lathe e).slots (field w.toNat 0 12)
      j.snap = (s.lathe e).stagedOctets d.ofs d.len ∧ j.snapStamp = fullStamp s.gtc (s.lathe e).postStamp ∧ j.stale = false ∧ j.age = 0 ∧
      j.fresh = false ∧ (t.lathe e).postEmpty = (s.lathe e).postEmpty ∧ (t.lathe e).overwritten = wrap 32 (s.lathe e).overwritten ∧ Touches [.lathes] s t)) ∧
  (∀ e w d s, e < 16 → s.inSlot e (field w.toNat 0 12) = some d → s.cell.edge ≤ fullStamp s.gtc (s.lathe e).postStamp →
    (Table.get ({} : InSlot) (s.lathe e).slots (field w.toNat 0 12)).fresh = false →
    (Table.get ({} : InSlot) (s.lathe e).slots (field w.toNat 0 12)).later = none → Does (.lthPostWrite e w) s (fun t =>
      let i : InSlot := Table.get {} (s.lathe e).slots (field w.toNat 0 12)
      let j : InSlot := Table.get {} (t.lathe e).slots (field w.toNat 0 12)
      j.later = some (fullStamp s.gtc (s.lathe e).postStamp, i.staged) ∧ j.snap = i.snap ∧ j.posted = i.posted ∧
      (t.lathe e).postEmpty = wrap 32 ((s.lathe e).postEmpty + 1) ∧ Touches [.lathes] s t)) ∧
  (∀ e w s, e < 16 → (16 ≤ (s.lathe e).telemTick ∨ 128 ≤ (s.lathe e).ring.length) → Does (.lthTelemWrite e w) s (fun t =>
    t = s.setLathe e { s.lathe e with telemDrop := wrap 32 ((s.lathe e).telemDrop + 1) })) ∧
  (∀ e w s, e < 16 → (s.lathe e).telemTick < 16 → (s.lathe e).ring.length < 128 → Does (.lthTelemWrite e w) s (fun t =>
    (t.lathe e).ring = (s.lathe e).ring ++ [{ gtc := s.gtc, source := s.source (4 + e), kind := wrap 16 w.toNat
                                              image := wrap 16 (s.lathe e).image.id, data := (s.lathe e).telemData }] ∧
    (t.lathe e).telemTick = (s.lathe e).telemTick + 1 ∧ (t.lathe e).telemDrop = (s.lathe e).telemDrop ∧
    (bitAt w.toNat 15 = false → t.jrnl = s.jrnl) ∧ (∀ d, d ≠ e → t.lathe d = s.lathe d) ∧ Touches [.lathes, .jrnl, .wnw] s t)) ∧
  (∀ e s, e < 16 → ((s.lathe e).startDue = false ∨ (s.lathe e).unusable = true) → Does (.latheInitStart e) s (fun t => t = s)) ∧
  (∀ e s, e < 16 → (s.lathe e).startDue = true → (s.lathe e).unusable = false → Does (.latheInitStart e) s (fun t =>
    (t.lathe e).live = 1 - (s.lathe e).live ∧ (t.lathe e).liveEntry = (s.lathe e).shadowEntry ∧ (t.lathe e).loaded = true ∧
    (t.lathe e).shadowLoaded = false ∧ (t.lathe e).startDue = false ∧ (t.lathe e).initing = true ∧ (t.lathe e).phase.active = true ∧
    (t.lathe e).phase.ip = BitVec.ofNat 32 (s.lathe e).shadow.entryInit ∧ (t.lathe e).rx.active = false ∧ (t.lathe e).bg.active = false ∧
    (∀ d, d ≠ e → t.lathe d = s.lathe d) ∧ Touches [.lathes] s t)) ∧
  (∀ e s, e < 16 → (s.lathe e).swapAt = none → Does (.latheSwapExecute e) s (fun t => t = s)) ∧
  (∀ e g s, e < 16 → (s.lathe e).swapAt = some g → Does (.latheSwapExecute e) s (fun t =>
    (t.lathe e).live = 1 - (s.lathe e).live ∧ (t.lathe e).liveEntry = (s.lathe e).shadowEntry ∧ (t.lathe e).shadowEntry = (s.lathe e).liveEntry ∧
    (t.lathe e).swapAt = none ∧ (t.lathe e).oldHalf = true ∧ (t.lathe e).migrating = true ∧ (t.lathe e).toMigrate = (s.lathe e).ctxs ∧
    (t.lathe e).phase.active = true ∧ (t.lathe e).phase.ip = BitVec.ofNat 32 (s.lathe e).shadow.entryInit ∧ (t.lathe e).rx.active = false ∧
    (t.lathe e).bg.active = false ∧ (∀ d, d ≠ e → t.lathe d = s.lathe d) ∧ Touches [.time, .lathes, .mbx, .jrnl, .host, .wnw] s t)) ∧
  (∀ e s, e < 16 → ((s.lathe e).migrating = false ∨ (s.lathe e).initDone = false ∨ (s.lathe e).toMigrate ≠ [] ∨ (s.lathe e).phase.active = true) →
    Does (.migrationEnd e) s (fun t => t = s)) ∧
  (∀ e s, e < 16 → (s.lathe e).migrating = true → (s.lathe e).initDone = true → (s.lathe e).toMigrate = [] → (s.lathe e).phase.active = false →
    Does (.migrationEnd e) s (fun t => (t.lathe e).migrating = false ∧ (t.lathe e).heldRx = [] ∧ (t.lathe e).bg.active = true ∧
      (t.lathe e).bg.ip = BitVec.ofNat 32 (s.lathe e).image.entryBg ∧
      (t.lathe e).due.length = (s.lathe e).due.length + (s.lathe e).heldRx.length ∧
      (∀ x ∈ (s.lathe e).heldRx, x ∈ (t.lathe e).due) ∧ (∀ d, d ≠ e → t.lathe d = s.lathe d) ∧ Touches [.lathes] s t)) ∧
  (∀ e s, e < 16 → ((s.lathe e).loaded = false ∨ (s.lathe e).unusable = true) → Does (.latheRestart e) s (fun t => t = s)) ∧
  (∀ e s, e < 16 → (s.lathe e).loaded = true → (s.lathe e).unusable = false → Does (.latheRestart e) s (fun t =>
    (t.lathe e).restarts = wrap 32 ((s.lathe e).restarts + 1) ∧ (t.lathe e).restarting = true ∧ (t.lathe e).initing = false ∧
    (t.lathe e).migrating = false ∧ (t.lathe e).phase.active = true ∧ (t.lathe e).phase.ip = BitVec.ofNat 32 (s.lathe e).image.entryInit ∧
    (t.lathe e).rx.active = false ∧ (t.lathe e).bg.active = false ∧ (t.lathe e).live = (s.lathe e).live ∧
    (∀ c ∈ (s.lathe e).ctxs, (t.ctx c).kind = 0) ∧ (∀ c, c ∉ (s.lathe e).ctxs → t.ctx c = s.ctx c) ∧
    (2 ≤ ((s.lathe e).restartTimes.filter (fun x => decide (s.gtc < x + 10000000000))).length → (4 + e, 3) ∈ t.wnw.marks) ∧
    (((s.lathe e).restartTimes.filter (fun x => decide (s.gtc < x + 10000000000))).length < 2 → t.wnw = s.wnw) ∧
    (∀ d, d ≠ e → t.lathe d = s.lathe d) ∧ Touches [.lathes, .pool, .poolMem, .ctxs, .chisels, .cans, .wnw] s t)) ∧
  (∀ e s, e < 16 → (s.lathe e).bg.active = false → Does (.backgroundWatchdog e) s (fun t => t = s)) ∧
  (∀ e s, e < 16 → (s.lathe e).bg.active = true → (s.lathe e).loaded = true → (s.lathe e).unusable = false → Does (.backgroundWatchdog e) s (fun t =>
    exec (.latheRestart e) s = .next t ∧ (t.lathe e).restarts = wrap 32 ((s.lathe e).restarts + 1) ∧ (t.lathe e).bg.active = false)) ∧
  (∀ e s, 16 ≤ e → exec (.latheRestart e) s = .fault (.noSuchUnit e) ∧ exec (.latheReceiveEntry e) s = .fault (.noSuchUnit e))

/-- Moves, arithmetic and logic of the Lathes (R383, R384, R392, R395): result and flags at the operand size; Z and N of the result, C the carry or
borrow, V set where the signed result does not fit; logic clears C and V, a move keeps all flags; a compare or a test writes no register. -/
def Obligations.LatheArithmeticAndLogicResults : Prop :=
  RegForm .lthMov true (fun _ _ b f => (b, f)) ∧
  ImmForm .lthMovi true (fun _ _ b f => (b, f)) ∧
  RegForm .lthAdd true (fun n a b _ => resultOf n ((a + b) % 2 ^ n) (decide (2 ^ n ≤ a + b)) (outside n (toS n a + toS n b))) ∧
  ImmForm .lthAddi true (fun n a b _ => resultOf n ((a + b) % 2 ^ n) (decide (2 ^ n ≤ a + b)) (outside n (toS n a + toS n b))) ∧
  RegForm .lthAdc true (fun n a b f => resultOf n ((a + b + f.c.toNat) % 2 ^ n) (decide (2 ^ n ≤ a + b + f.c.toNat))
    (outside n (toS n a + toS n b + f.c.toNat))) ∧
  RegForm .lthSub true (fun n a b _ => resultOf n ((a + 2 ^ n - b) % 2 ^ n) (decide (a < b)) (outside n (toS n a - toS n b))) ∧
  ImmForm .lthSubi true (fun n a b _ => resultOf n ((a + 2 ^ n - b) % 2 ^ n) (decide (a < b)) (outside n (toS n a - toS n b))) ∧
  RegForm .lthSbc true (fun n a b f => resultOf n ((a + 2 ^ n * 2 - b - f.c.toNat) % 2 ^ n) (decide (a < b + f.c.toNat))
    (outside n (toS n a - toS n b - f.c.toNat))) ∧
  RegForm .lthCmp false (fun n a b _ => resultOf n ((a + 2 ^ n - b) % 2 ^ n) (decide (a < b)) (outside n (toS n a - toS n b))) ∧
  ImmForm .lthCmpi false (fun n a b _ => resultOf n ((a + 2 ^ n - b) % 2 ^ n) (decide (a < b)) (outside n (toS n a - toS n b))) ∧
  RegForm .lthAnd true (fun n a b _ => resultOf n (a &&& b) false false) ∧
  ImmForm .lthAndi true (fun n a b _ => resultOf n (a &&& b) false false) ∧
  RegForm .lthOr true (fun n a b _ => resultOf n (a ||| b) false false) ∧
  ImmForm .lthOri true (fun n a b _ => resultOf n (a ||| b) false false) ∧
  RegForm .lthXor true (fun n a b _ => resultOf n (a ^^^ b) false false) ∧
  ImmForm .lthXori true (fun n a b _ => resultOf n (a ^^^ b) false false) ∧
  RegForm .lthTst false (fun n a b _ => resultOf n (a &&& b) false false) ∧
  ImmForm .lthTsti false (fun n a b _ => resultOf n (a &&& b) false false) ∧
  RegForm .lthMul true (fun n a b _ => resultOf n (a * b % 2 ^ n) (decide (2 ^ n ≤ a * b)) (outside n (toS n a * toS n b))) ∧
  ImmForm .lthMuli true (fun n a b _ => resultOf n (a * b % 2 ^ n) (decide (2 ^ n ≤ a * b)) (outside n (toS n a * toS n b))) ∧
  OneForm .lthNot (fun n a _ => resultOf n (2 ^ n - 1 - a) false false) ∧
  OneForm .lthNeg (fun n a _ => resultOf n ((2 ^ n - a) % 2 ^ n) (decide (0 < a)) (outside n (-(toS n a))))

/-- Shifts, rotations, bits, fields and octet order of the Lathes (R383, R392, R393, R395): C is the last bit shifted out, a count of 0 leaves it as it
is; a bit instruction sets Z from the bit tested; EXT and BSWAP; and the octets that are illegal in each form raise ILLEGAL. -/
def Obligations.LatheShiftsBitsAndIllegalForms : Prop :=
  ShiftForm .lthShl (fun n a k f => resultOf n (a * 2 ^ k % 2 ^ n) (if k = 0 then f.c else decide (k ≤ n) && a.testBit (n - k)) false) ∧
  ShiftImmForm .lthShli (fun n a k f => resultOf n (a * 2 ^ k % 2 ^ n) (if k = 0 then f.c else decide (k ≤ n) && a.testBit (n - k)) false) ∧
  ShiftForm .lthShr (fun n a k f => resultOf n (a / 2 ^ k) (if k = 0 then f.c else a.testBit (k - 1)) false) ∧
  ShiftImmForm .lthShri (fun n a k f => resultOf n (a / 2 ^ k) (if k = 0 then f.c else a.testBit (k - 1)) false) ∧
  ShiftForm .lthSar (fun n a k f => resultOf n (toU n (toS n a / 2 ^ k)) (if k = 0 then f.c else toS n a / 2 ^ (k - 1) % 2 == 1) false) ∧
  ShiftImmForm .lthSari (fun n a k f => resultOf n (toU n (toS n a / 2 ^ k)) (if k = 0 then f.c else toS n a / 2 ^ (k - 1) % 2 == 1) false) ∧
  ShiftForm .lthRol (fun n a k f => resultOf n ((a * 2 ^ (k % n) % 2 ^ n) + a / 2 ^ (n - k % n))
    (if k = 0 then f.c else ((a * 2 ^ (k % n) % 2 ^ n) + a / 2 ^ (n - k % n)) % 2 == 1) false) ∧
  ShiftImmForm .lthRoli (fun n a k f => resultOf n ((a * 2 ^ (k % n) % 2 ^ n) + a / 2 ^ (n - k % n))
    (if k = 0 then f.c else ((a * 2 ^ (k % n) % 2 ^ n) + a / 2 ^ (n - k % n)) % 2 == 1) false) ∧
  BitForm .lthBtst (fun a _ => a) ∧
  BitForm .lthBset (fun a b => if a.testBit b then a else a + 2 ^ b) ∧
  BitForm .lthBclr (fun a b => if a.testBit b then a - 2 ^ b else a) ∧
  (∀ e v p m (pos wid : Byte) s, pos.toNat ≤ 31 → wid.toNat ≤ 31 → Ready e v p {} 4 s →
    Runs (.lthExt e p m pos wid) s e v ((s.lthLevel e v).retire (nextIp e v p 4 s) p
      (some (resultOf 32 (((s.lthLevel e v).reg (opS m)).toNat / 2 ^ pos.toNat % 2 ^ (wid.toNat + 1)) false false).2)
      (some (opD m, BitVec.ofNat 32 (((s.lthLevel e v).reg (opS m)).toNat / 2 ^ pos.toNat % 2 ^ (wid.toNat + 1)))) none)) ∧
  (∀ e v p m s, opS m = 0 → opSize p ≠ 1 → Ready e v p { sized := true } 2 s →
    Runs (.lthBswap e p m) s e v ((s.lthLevel e v).retire (nextIp e v p 2 s) p none
      (some (opD m, BitVec.ofNat 32 (ofBE (toLE (opSize p) (((s.lthLevel e v).reg (opD m)).toNat % 2 ^ (8 * opSize p)))))) none)) ∧
  (∀ e v p m n b s, (s.lthLevel e v).xen = true → opS m ≠ 0 →
    (Ready e v p { sized := true } 2 s → ∀ i ∈ [Instr.lthMovi e p m n, .lthAddi e p m n, .lthSubi e p m n, .lthCmpi e p m n, .lthAndi e p m n,
      .lthOri e p m n, .lthXori e p m n, .lthTsti e p m n, .lthMuli e p m n, .lthShli e p m b, .lthShri e p m b, .lthSari e p m b, .lthRoli e p m b,
      .lthNot e p m, .lthNeg e p m], Illegal i s e v p 1) ∧
    (Ready e v p {} 2 s → ∀ i ∈ [Instr.lthBtst e p m b, .lthBset e p m b, .lthBclr e p m b, .lthJmp e p m, .lthPush e p m, .lthPop e p m],
      Illegal i s e v p 1) ∧
    (Ready e v p { sized := true } 2 s → opSize p ≠ 1 → Illegal (.lthBswap e p m) s e v p 1)) ∧
  (∀ e v p m s, (s.lthLevel e v).xen = true → opSize p = 1 → Ready e v p { sized := true } 1 s → Illegal (.lthBswap e p m) s e v p 0) ∧
  (∀ e v p m (pos wid : Byte) s, (s.lthLevel e v).xen = true → Ready e v p {} 4 s →
    (31 < pos.toNat → Illegal (.lthExt e p m pos wid) s e v p 2) ∧
    (pos.toNat ≤ 31 → 31 < wid.toNat → Illegal (.lthExt e p m pos wid) s e v p 3))

/-- Loads, stores and exchanges of the Lathes (R355, R356, R386, R387, R389, R395): the effective address, the octets read or stored in the live data half,
the load delay, POST, and the exceptions of an access that is refused, misaligned or into the environment block. -/
def Obligations.LatheLoadsStoresAndExchanges : Prop :=
  (∀ e v p m a disp s, badA a = false → (postInc a = true → opD m ≠ opS m) → Ready e v p { sized := true, be := true } (3 + dispLen a) s →
    let x := s.lthLevel e v
    let ea := effAddr x (opS m) a disp (opSize p)
    LiveClear s e ea (opSize p) →
    Runs (.lthLd e p m a disp) s e v (x.retire (nextIp e v p (3 + dispLen a) s) p none (posted x m a (opSize p))
      (some (opD m, BitVec.ofNat 32 (ofMem (p.contains 0xE2) (liveAt s e ea (opSize p)))))) ∧
    Runs (.lthLds e p m a disp) s e v (x.retire (nextIp e v p (3 + dispLen a) s) p none (posted x m a (opSize p))
      (some (opD m, BitVec.ofInt 32 (toS (8 * opSize p) (ofMem (p.contains 0xE2) (liveAt s e ea (opSize p)))))))) ∧
  (∀ e v p m a disp s, badA a = false → Ready e v p { sized := true, be := true } (3 + dispLen a) s →
    let x := s.lthLevel e v
    let ea := effAddr x (opS m) a disp (opSize p)
    0x10002000 ≤ ea → LiveClear s e ea (opSize p) →
    Stores (.lthSt e p m a disp) s e v (x.retire (nextIp e v p (3 + dispLen a) s) p none (posted x m a (opSize p)) none) (livePool s e ea)
      (toMem (p.contains 0xE2) (opSize p) (x.reg (opD m)).toNat)) ∧
  (∀ e v p m a disp n s, badA a = false → opD m = 0 → Ready e v p { sized := true, be := true } (3 + dispLen a + opSize p) s →
    let x := s.lthLevel e v
    let ea := effAddr x (opS m) a disp (opSize p)
    0x10002000 ≤ ea → LiveClear s e ea (opSize p) →
    Stores (.lthSti e p m a disp n) s e v (x.retire (nextIp e v p (3 + dispLen a + opSize p) s) p none (posted x m a (opSize p)) none)
      (livePool s e ea) (toMem (p.contains 0xE2) (opSize p) n)) ∧
  (∀ e v p m a disp s, badA a = false → Ready e v p { sized := true, be := true } (3 + dispLen a) s →
    let x := s.lthLevel e v
    let ea := effAddr x (opS m) a disp (opSize p)
    0x10000000 ≤ ea → ea + opSize p ≤ 0x10002000 → Does (.lthSt e p m a disp) s (fun t =>
      t.lathe e = { (s.lathe e).setLevel v (x.retire (nextIp e v p (3 + dispLen a) s) p none (posted x m a (opSize p)) none) with
        accessFault := wrap 32 ((s.lathe e).accessFault + 1) } ∧ (∀ d, d ≠ e → t.lathe d = s.lathe d) ∧ Touches [.lathes] s t)) ∧
  (∀ e v p m a disp s, badA a = false → postInc a = false → Ready e v p { sized := true } (3 + dispLen a) s →
    let x := s.lthLevel e v
    Runs (.lthLea e p m a disp) s e v (x.retire (nextIp e v p (3 + dispLen a) s) p none
      (some (opD m, BitVec.ofNat 32 (effAddr x (opS m) a disp (opSize p)))) none)) ∧
  (∀ e v p m a disp s, badA a = false → (postInc a = true → opD m ≠ opS m) → Ready e v p { sized := true, be := true } (3 + dispLen a) s →
    let x := s.lthLevel e v
    let ea := effAddr x (opS m) a disp (opSize p)
    0x10002000 ≤ ea → LiveClear s e ea (opSize p) → ea / 8 = (ea + opSize p - 1) / 8 →
    Stores (.lthXchg e p m a disp) s e v (x.retire (nextIp e v p (3 + dispLen a) s) p none (posted x m a (opSize p))
        (some (opD m, BitVec.ofNat 32 (ofMem (p.contains 0xE2) (liveAt s e ea (opSize p))))))
      (livePool s e ea) (toMem (p.contains 0xE2) (opSize p) (x.reg (opD m)).toNat)) ∧
  (∀ e v p m b s, opS b = 0 → Ready e v p { sized := true, be := true } 3 s →
    let x := s.lthLevel e v
    let ea := (x.reg (opD b)).toNat
    let old := ofMem (p.contains 0xE2) (liveAt s e ea (opSize p))
    0x10002000 ≤ ea → LiveClear s e ea (opSize p) → ea / 8 = (ea + opSize p - 1) / 8 →
    (old = (x.reg (opD m)).toNat % 2 ^ (8 * opSize p) → Stores (.lthCas e p m b) s e v
      (x.retire (nextIp e v p 3 s) p (some { x.flags with z := true }) none (some (opD m, BitVec.ofNat 32 old))) (livePool s e ea)
      (toMem (p.contains 0xE2) (opSize p) (x.reg (opS m)).toNat)) ∧
    (old ≠ (x.reg (opD m)).toNat % 2 ^ (8 * opSize p) → Runs (.lthCas e p m b) s e v
      (x.retire (nextIp e v p 3 s) p (some { x.flags with z := false }) none (some (opD m, BitVec.ofNat 32 old))))) ∧
  (∀ e v p m a disp s, (s.lthLevel e v).xen = true → badA a = false → (postInc a = true → opD m ≠ opS m) →
    Ready e v p { sized := true, be := true } (3 + dispLen a) s →
    let ea := effAddr (s.lthLevel e v) (opS m) a disp (opSize p)
    (regionOf ea (opSize p) = .none → ∀ i ∈ [Instr.lthLd e p m a disp, .lthLds e p m a disp, .lthSt e p m a disp, .lthXchg e p m a disp],
      Does i s (fun t => t.lathe e = { (s.lathe e).excepted v 3 0 false (s.lthLevel e v).ip.toNat ea (nextIp e v p (3 + dispLen a) s) with
        accessFault := wrap 32 ((s.lathe e).accessFault + 1) } ∧ (∀ d, d ≠ e → t.lathe d = s.lathe d) ∧ Touches [.lathes] s t)) ∧
    (0x20000000 ≤ ea → ea + opSize p ≤ 0x20000100 → (opSize p ≠ 4 ∨ ea % 4 ≠ 0) →
      ∀ i ∈ [Instr.lthLd e p m a disp, .lthLds e p m a disp, .lthSt e p m a disp, .lthXchg e p m a disp],
        Excepts i s e v 4 0 false ea (nextIp e v p (3 + dispLen a) s)) ∧
    (0x10000000 ≤ ea → ea + opSize p ≤ 0x10040000 → ea / 8 ≠ (ea + opSize p - 1) / 8 →
      Excepts (.lthXchg e p m a disp) s e v 4 0 false ea (nextIp e v p (3 + dispLen a) s))) ∧
  (∀ e v p m a disp n s, (s.lthLevel e v).xen = true → badA a = true → Ready e v p { sized := true, be := true } 3 s →
    (∀ i ∈ [Instr.lthLd e p m a disp, .lthLds e p m a disp, .lthSt e p m a disp, .lthXchg e p m a disp], Illegal i s e v p 2) ∧
    (opD m = 0 → Illegal (.lthSti e p m a disp n) s e v p 2) ∧ (opD m ≠ 0 → Illegal (.lthSti e p m a disp n) s e v p 1)) ∧
  (∀ e v p m a disp s, (s.lthLevel e v).xen = true → postInc a = true → opD m = opS m → Ready e v p { sized := true, be := true } 3 s →
    ∀ i ∈ [Instr.lthLd e p m a disp, .lthLds e p m a disp, .lthXchg e p m a disp], Illegal i s e v p 2) ∧
  (∀ e v p m a disp s, (s.lthLevel e v).xen = true → badA a = true ∨ postInc a = true → Ready e v p { sized := true } 3 s →
    Illegal (.lthLea e p m a disp) s e v p 2) ∧
  (∀ e v p m b s, (s.lthLevel e v).xen = true → opS b ≠ 0 → Ready e v p { sized := true, be := true } 3 s → Illegal (.lthCas e p m b) s e v p 2)

/-- Branches, jumps, the stack and calls of the Lathes (R389, R390, R395 to R397, R402): where IP goes, what is stored or restored, how far g12 moves, and
the exceptions ALIGN and STACK. -/
def Obligations.LatheBranchesCallsAndStack : Prop :=
  (∀ e v p cc (d : Byte) s, cc % 16 ≠ 15 → Ready e v p {} 2 s →
    (holds (cc % 16) (s.lthLevel e v).flags = true → Runs (.lthBccRel8 e p cc d) s e v
      ((s.lthLevel e v).retire (toU 32 ((nextIp e v p 2 s : Int) + d.toInt)) p none none none)) ∧
    (holds (cc % 16) (s.lthLevel e v).flags = false → Runs (.lthBccRel8 e p cc d) s e v ((s.lthLevel e v).retire (nextIp e v p 2 s) p none none none))) ∧
  (∀ e v p cc (d : BitVec 16) s, cc % 16 ≠ 15 → Ready e v p {} 3 s →
    (holds (cc % 16) (s.lthLevel e v).flags = true → Runs (.lthBccRel16 e p cc d) s e v
      ((s.lthLevel e v).retire (toU 32 ((nextIp e v p 3 s : Int) + d.toInt)) p none none none)) ∧
    (holds (cc % 16) (s.lthLevel e v).flags = false → Runs (.lthBccRel16 e p cc d) s e v ((s.lthLevel e v).retire (nextIp e v p 3 s) p none none none))) ∧
  (∀ e v p cc (d : Byte) (w : BitVec 16) s, (s.lthLevel e v).xen = true → cc % 16 = 15 → Ready e v p {} 1 s →
    Illegal (.lthBccRel8 e p cc d) s e v p 0 ∧ Illegal (.lthBccRel16 e p cc w) s e v p 0) ∧
  (∀ e v p m s, opS m = 0 → Ready e v p {} 2 s →
    Runs (.lthJmp e p m) s e v ((s.lthLevel e v).retire ((s.lthLevel e v).reg (opD m)).toNat p none none none)) ∧
  (∀ e v p (a : Word) s, Ready e v p {} 5 s → Runs (.lthJmpa e p a) s e v ((s.lthLevel e v).retire a.toNat p none none none)) ∧
  (∀ e v p m s, opS m = 0 → Ready e v p {} 2 s →
    let x := s.lthLevel e v
    4 ≤ (x.reg 12).toNat → StackClear s e (x.reg 12).toNat ((x.reg 12).toNat - 4) 4 →
    Stores (.lthPush e p m) s e v (x.retire (nextIp e v p 2 s) p none (some (12, x.reg 12 - 4)) none) (livePool s e ((x.reg 12).toNat - 4))
      (toLE 4 (x.reg (opD m)).toNat)) ∧
  (∀ e v p m s, opS m = 0 → opD m ≠ 12 → Ready e v p {} 2 s →
    let x := s.lthLevel e v
    StackClear s e (x.reg 12).toNat (x.reg 12).toNat 4 →
    Runs (.lthPop e p m) s e v (x.retire (nextIp e v p 2 s) p none (some (12, x.reg 12 + 4))
      (some (opD m, BitVec.ofNat 32 (ofLE (liveAt s e (x.reg 12).toNat 4)))))) ∧
  (∀ e v p (d mask : BitVec 16) s, bitAt mask.toNat 12 = false → Ready e v p {} 5 s →
    let x := s.lthLevel e v
    let n := frameLen mask
    n ≤ (x.reg 12).toNat → StackClear s e (x.reg 12).toNat ((x.reg 12).toNat - n) n →
    Stores (.lthCall e p d mask) s e v (x.retire (toU 32 ((nextIp e v p 5 s : Int) + d.toInt)) p none (some (12, x.reg 12 - BitVec.ofNat 32 n)) none)
      (livePool s e ((x.reg 12).toNat - n)) (callFrame x mask (nextIp e v p 5 s))) ∧
  (∀ e v p m (mask : BitVec 16) s, opS m = 0 → bitAt mask.toNat 12 = false → Ready e v p {} 4 s →
    let x := s.lthLevel e v
    let n := frameLen mask
    n ≤ (x.reg 12).toNat → StackClear s e (x.reg 12).toNat ((x.reg 12).toNat - n) n →
    Stores (.lthCallr e p m mask) s e v (x.retire (x.reg (opD m)).toNat p none (some (12, x.reg 12 - BitVec.ofNat 32 n)) none)
      (livePool s e ((x.reg 12).toNat - n)) (callFrame x mask (nextIp e v p 4 s))) ∧
  (∀ e v p (mask : BitVec 16) s, bitAt mask.toNat 12 = false → Ready e v p {} 3 s →
    let x := s.lthLevel e v
    let a := (x.reg 12).toNat
    let rs := (List.range 16).filter (bitAt mask.toNat)
    StackClear s e a a (frameLen mask) →
    Runs (.lthRet e p mask) s e v
      (((rs.zip (List.range rs.length)).foldl (fun y r => y.setReg r.1 (BitVec.ofNat 32 (ofLE (liveAt s e (a + 4 + 4 * r.2) 4)))) x).retire
        (ofLE (liveAt s e a 4)) p none (some (12, x.reg 12 + BitVec.ofNat 32 (frameLen mask))) none)) ∧
  (∀ e v p m (d mask : BitVec 16) s, (s.lthLevel e v).xen = true → bitAt mask.toNat 12 = true →
    (Ready e v p {} 5 s → Illegal (.lthCall e p d mask) s e v p 4) ∧ (opS m = 0 → Ready e v p {} 4 s → Illegal (.lthCallr e p m mask) s e v p 3) ∧
    (Ready e v p {} 3 s → Illegal (.lthRet e p mask) s e v p 2)) ∧
  (∀ e v p m (mask : BitVec 16) s, (s.lthLevel e v).xen = true → opS m ≠ 0 → Ready e v p {} 2 s → Illegal (.lthCallr e p m mask) s e v p 1) ∧
  (∀ e v p m s, (s.lthLevel e v).xen = true → opS m = 0 → opD m = 12 → Ready e v p {} 2 s → Illegal (.lthPop e p m) s e v p 1) ∧
  (∀ e v p m s, (s.lthLevel e v).xen = true → opS m = 0 → Ready e v p {} 2 s →
    let g := ((s.lthLevel e v).reg 12).toNat
    let below := (g + 2 ^ 32 - 4) % 2 ^ 32
    (g % 4 ≠ 0 → Excepts (.lthPush e p m) s e v 4 0 false below (nextIp e v p 2 s)) ∧
    (g % 4 = 0 → below < 0x10002000 ∨ 0x10040000 < below + 4 → Excepts (.lthPush e p m) s e v 5 0 false below (nextIp e v p 2 s)) ∧
    (opD m ≠ 12 → g % 4 ≠ 0 → Excepts (.lthPop e p m) s e v 4 0 false g (nextIp e v p 2 s)) ∧
    (opD m ≠ 12 → g % 4 = 0 → g < 0x10002000 ∨ 0x10040000 < g + 4 → Excepts (.lthPop e p m) s e v 5 0 false g (nextIp e v p 2 s)))

/-- Block instructions of the Lathes (R384, R398, R399): one element without RPT; with RPT none for a count of 0, g13 counted down for each element, UNTIL
ending the repeat, and IP back at the first prefix octet when a higher level interrupts; and the control octets that are illegal. -/
def Obligations.LatheBlockInstructionsMoveAndCompare : Prop :=
  (∀ e v p b more s, GoodK b false → bitAt b.toNat 3 = false → Ready e v p { sized := true, be := true, dn := true } 2 s →
    let x := s.lthLevel e v
    LiveClear s e (x.reg 14).toNat (opSize p) → 0x10002000 ≤ (x.reg 15).toNat → LiveClear s e (x.reg 15).toNat (opSize p) →
    Stores (.lthBlkCopy e p b more) s e v
      (((x.setReg 14 (x.reg 14 + stepOf p)).setReg 15 (x.reg 15 + stepOf p)).retire (nextIp e v p 2 s) p none none none)
      (livePool s e (x.reg 15).toNat) (liveAt s e (x.reg 14).toNat (opSize p))) ∧
  (∀ e v p b m more s, GoodK b false → bitAt b.toNat 3 = false → opS m = 0 → Ready e v p { sized := true, be := true, dn := true } 3 s →
    let x := s.lthLevel e v
    0x10002000 ≤ (x.reg 15).toNat → LiveClear s e (x.reg 15).toNat (opSize p) →
    Stores (.lthBlkFill e p b m more) s e v ((x.setReg 15 (x.reg 15 + stepOf p)).retire (nextIp e v p 3 s) p none none none)
      (livePool s e (x.reg 15).toNat) (toMem (p.contains 0xE2) (opSize p) (x.reg (opD m)).toNat)) ∧
  (∀ e v p b more s, GoodK b true → bitAt b.toNat 3 = false → Ready e v p { sized := true, be := true, dn := true } 2 s →
    let x := s.lthLevel e v
    LiveClear s e (x.reg 14).toNat (opSize p) → LiveClear s e (x.reg 15).toNat (opSize p) →
    Runs (.lthBlkMatch e p b more) s e v
      (((x.setReg 14 (x.reg 14 + stepOf p)).setReg 15 (x.reg 15 + stepOf p)).retire (nextIp e v p 2 s) p
        (some (compared (8 * opSize p) (ofMem (p.contains 0xE2) (liveAt s e (x.reg 14).toNat (opSize p)))
          (ofMem (p.contains 0xE2) (liveAt s e (x.reg 15).toNat (opSize p))))) none none)) ∧
  (∀ e v p b m more s, GoodK b true → bitAt b.toNat 3 = false → opS m = 0 → Ready e v p { sized := true, be := true, dn := true } 3 s →
    let x := s.lthLevel e v
    LiveClear s e (x.reg 15).toNat (opSize p) →
    Runs (.lthBlkSeek e p b m more) s e v ((x.setReg 15 (x.reg 15 + stepOf p)).retire (nextIp e v p 3 s) p
      (some (compared (8 * opSize p) ((x.reg (opD m)).toNat % 2 ^ (8 * opSize p)) (ofMem (p.contains 0xE2) (liveAt s e (x.reg 15).toNat (opSize p)))))
      none none)) ∧
  (∀ e v p b m s, GoodK b false → bitAt b.toNat 3 = false → opS m = 0 → Ready e v p { sized := true, be := true, dn := true } 3 s →
    let x := s.lthLevel e v
    LiveClear s e (x.reg 14).toNat (opSize p) →
    Runs (.lthBlkGather e p b m) s e v ((x.setReg 14 (x.reg 14 + stepOf p)).retire (nextIp e v p 3 s) p none none
      (some (opD m, BitVec.ofNat 32 (ofMem (p.contains 0xE2) (liveAt s e (x.reg 14).toNat (opSize p))))))) ∧
  (∀ e v p b m more s, bitAt b.toNat 3 = true → ((s.lthLevel e v).reg 13) = 0 → opS m = 0 →
    let x := s.lthLevel e v
    (GoodK b false → Ready e v p { sized := true, be := true, dn := true } 2 s →
      Runs (.lthBlkCopy e p b more) s e v (x.retire (nextIp e v p 2 s) p none none none)) ∧
    (GoodK b false → Ready e v p { sized := true, be := true, dn := true } 3 s →
      Runs (.lthBlkFill e p b m more) s e v (x.retire (nextIp e v p 3 s) p none none none)) ∧
    (GoodK b true → Ready e v p { sized := true, be := true, dn := true } 2 s →
      Runs (.lthBlkMatch e p b more) s e v (x.retire (nextIp e v p 2 s) p none none none)) ∧
    (GoodK b true → Ready e v p { sized := true, be := true, dn := true } 3 s →
      Runs (.lthBlkSeek e p b m more) s e v (x.retire (nextIp e v p 3 s) p none none none))) ∧
  (∀ e v p b m more s, GoodK b true → bitAt b.toNat 3 = true → ((s.lthLevel e v).reg 13) ≠ 0 → opS m = 0 →
    Ready e v p { sized := true, be := true, dn := true } 3 s →
    let x := s.lthLevel e v
    let f := compared (8 * opSize p) ((x.reg (opD m)).toNat % 2 ^ (8 * opSize p)) (ofMem (p.contains 0xE2) (liveAt s e (x.reg 15).toNat (opSize p)))
    let y := (if p.contains 0xE4 then x else x.setFlags f).setReg 15 (x.reg 15 + stepOf p)
    LiveClear s e (x.reg 15).toNat (opSize p) →
    (field b.toNat 4 2 = 1 → y.z = true → Runs (.lthBlkSeek e p b m more) s e v { y.counted with ip := BitVec.ofNat 32 (nextIp e v p 3 s) }) ∧
    (field b.toNat 4 2 = 2 → y.z = false → Runs (.lthBlkSeek e p b m more) s e v { y.counted with ip := BitVec.ofNat 32 (nextIp e v p 3 s) }) ∧
    ((field b.toNat 4 2 = 0 ∨ field b.toNat 4 2 = 1 ∧ y.z = false ∨ field b.toNat 4 2 = 2 ∧ y.z = true) → y.counted.reg 13 ≠ 0 →
      Runs (.lthBlkSeek e p b m 0) s e v { y.counted with ip := (s.lthLevel e v).ip })) ∧
  (∀ e v p b m more k s, GoodK b false → bitAt b.toNat 3 = true → opS m = 0 → Ready e v p { sized := true, be := true, dn := true } 3 s →
    let x := s.lthLevel e v
    let n := opSize p
    let a := (x.reg 15).toNat
    x.pend = none → p.contains 0xE3 = false → opD m ≠ 13 → opD m ≠ 15 → k = min (x.reg 13).toNat (more + 1) →
    0x10002000 ≤ a → LiveClear s e a (k * n) → Does (.lthBlkFill e p b m more) s (fun t =>
      (t.lthLevel e v).reg 13 = x.reg 13 - BitVec.ofNat 32 k ∧ (t.lthLevel e v).reg 15 = x.reg 15 + BitVec.ofNat 32 (k * n) ∧
      (∀ r, r ≠ 13 → r ≠ 15 → (t.lthLevel e v).reg r = x.reg r) ∧ (t.lthLevel e v).flags = x.flags ∧
      (t.lthLevel e v).ip = BitVec.ofNat 32 (if (x.reg 13).toNat ≤ more + 1 then nextIp e v p 3 s else x.ip.toNat) ∧
      (∀ c, t.poolByte c = if livePool s e a ≤ c ∧ c < livePool s e a + k * n then
        (toMem (p.contains 0xE2) n (x.reg (opD m)).toNat).getD ((c - livePool s e a) % n) 0 else s.poolByte c) ∧
      (∀ d w, w < 3 → (d, w) ≠ (e, v) → t.lthLevel d w = s.lthLevel d w) ∧ Touches [.lathes, .pool, .poolMem, .chk, .out] s t)) ∧
  (∀ e v p b m more s, (s.lthLevel e v).xen = true → Ready e v p { sized := true, be := true, dn := true } 3 s →
    (¬ GoodK b false → ∀ i ∈ [Instr.lthBlkCopy e p b more, .lthBlkFill e p b m more, .lthBlkGather e p b m], Illegal i s e v p 1) ∧
    (¬ GoodK b true → ∀ i ∈ [Instr.lthBlkMatch e p b more, .lthBlkSeek e p b m more], Illegal i s e v p 1) ∧
    (GoodK b false → bitAt b.toNat 3 = true → Illegal (.lthBlkGather e p b m) s e v p 1) ∧
    (GoodK b false → opS m ≠ 0 → Illegal (.lthBlkFill e p b m more) s e v p 2) ∧
    (GoodK b true → opS m ≠ 0 → Illegal (.lthBlkSeek e p b m more) s e v p 2)) ∧
  (∀ e v p b m more s, (s.lthLevel e v).xen = true → GoodK b false → bitAt b.toNat 3 = false → opS m = 0 →
    Ready e v p { sized := true, be := true, dn := true } 3 s → regionOf ((s.lthLevel e v).reg 15).toNat (opSize p) = .none →
    Does (.lthBlkFill e p b m more) s (fun t => t.lathe e = { (s.lathe e).excepted v 3 0 true (s.lthLevel e v).ip.toNat
      ((s.lthLevel e v).reg 15).toNat (nextIp e v p 3 s) with accessFault := wrap 32 ((s.lathe e).accessFault + 1) } ∧
      (∀ d, d ≠ e → t.lathe d = s.lathe d) ∧ Touches [.lathes] s t))

/-- Prefixes, exceptions and the control instructions of the Lathes (R364, R365, R379, R384, R385, R395, R401): which level executes, NOP, END, IDLE, RETX and TRAP,
and what becomes of a bad prefix, of code that ends and of an exception while exceptions are disabled. -/
def Obligations.LatheControlInstructionsAndExceptions : Prop :=
  (∀ e v p s, Ready e v p {} 1 s → Runs (.lthNop e p) s e v ((s.lthLevel e v).retire (nextIp e v p 1 s) p none none none)) ∧
  (∀ e p s, Ready e 2 p {} 1 s → Runs (.lthIdle e p) s e 2 { (s.lthLevel e 2).retire (nextIp e 2 p 1 s) p none none none with idle := true }) ∧
  (∀ e v p s, v ≠ 2 → (s.lthLevel e v).xen = true → Ready e v p {} 1 s → Illegal (.lthIdle e p) s e v p 0) ∧
  (∀ e p s, (s.lthLevel e 2).xen = true → Ready e 2 p {} 1 s → Illegal (.lthEnd e p) s e 2 p 0) ∧
  (∀ e p s, Ready e 1 p {} 1 s → Does (.lthEnd e p) s (fun t =>
    t.lathe e = { s.lathe e with rx := { (s.lathe e).rx.retire (nextIp e 1 p 1 s) p none none none with active := false }
                                 bg := { (s.lathe e).bg with idle := false } } ∧
    (∀ d, d ≠ e → t.lathe d = s.lathe d) ∧ Touches [.lathes] s t)) ∧
  (∀ e p s, Ready e 0 p {} 1 s → (s.lathe e).migrating = false → (s.lathe e).initing = false → (s.lathe e).restarting = false →
    Does (.lthEnd e p) s (fun t =>
      t.lathe e = { s.lathe e with phase := { (s.lathe e).phase.retire (nextIp e 0 p 1 s) p none none none with active := false }
                                   bg := { (s.lathe e).bg with idle := false } } ∧
      (∀ d, d ≠ e → t.lathe d = s.lathe d) ∧ Touches [.lathes] s t)) ∧
  (∀ e p s, Ready e 0 p {} 1 s → (s.lathe e).migrating = false → (s.lathe e).initing = true ∨ (s.lathe e).restarting = true →
    Does (.lthEnd e p) s (fun t => (t.lathe e).initing = false ∧ (t.lathe e).restarting = false ∧ (t.lathe e).phase.active = false ∧
      (t.lathe e).bg.active = true ∧ (t.lathe e).bg.ip = BitVec.ofNat 32 (s.lathe e).image.entryBg ∧
      (∀ d, d ≠ e → t.lathe d = s.lathe d) ∧ Touches [.lathes] s t)) ∧
  (∀ e v p s, (s.lthLevel e v).xen = false → Ready e v p {} 1 s →
    Runs (.lthRetx e p) s e v { (s.lthLevel e v).retire (s.lthLevel e v).xnext.toNat p none none none with xen := true }) ∧
  (∀ e v p s, (s.lthLevel e v).xen = true → Ready e v p {} 1 s → Illegal (.lthRetx e p) s e v p 0) ∧
  (∀ e v p b s, (s.lthLevel e v).xen = true → Ready e v p {} 2 s → Excepts (.lthTrap e p b) s e v 6 b.toNat false 0 (nextIp e v p 2 s)) ∧
  (∀ e v p b s, (s.lthLevel e v).xen = false → Ready e v p {} 2 s → Does (.lthTrap e p b) s (fun t =>
    (t.lathe e).exceptions = wrap 32 ((s.lathe e).exceptions + 1) ∧ (t.lathe e).restarts = wrap 32 ((s.lathe e).restarts + 1) ∧
    (t.lathe e).restarting = true ∧ (t.lathe e).phase.ip = BitVec.ofNat 32 (s.lathe e).image.entryInit ∧
    (∀ d, d ≠ e → t.lathe d = s.lathe d) ∧ Touches [.lathes, .pool, .poolMem, .ctxs, .chisels, .cans, .wnw] s t)) ∧
  (∀ i e p s, latheInstr i = some (e, p) → e < 16 → (s.lathe e).loaded = false ∨ (s.lathe e).unusable = true ∨ (s.lathe e).running = none →
    Does i s (fun t => t = s)) ∧
  (∀ i e p v k s, latheInstr i = some (e, p) → e < 16 → (s.lathe e).loaded = true → (s.lathe e).unusable = false → (s.lathe e).running = some v →
    (s.lthLevel e v).ip.toNat < 65536 → (s.lthLevel e v).xen = true → badPrefix p = some k →
    ((s.lthLevel e v).ip.toNat + k < (s.lathe e).image.code.length →
      Excepts i s e v 1 0 false 0 ((s.lthLevel e v).ip.toNat + k + 1)) ∧
    ((s.lathe e).image.code.length ≤ (s.lthLevel e v).ip.toNat + k → (s.lthLevel e v).ip.toNat ≤ (s.lathe e).image.code.length →
      Does i s (fun t => t.lathe e = (s.lathe e).excepted v 2 0 false (s.lathe e).image.code.length 0 (s.lathe e).image.code.length ∧
        (∀ d, d ≠ e → t.lathe d = s.lathe d) ∧ Touches [.lathes] s t))) ∧
  (∀ i e p s, latheInstr i = some (e, p) → 16 ≤ e → exec i s = .fault (.noSuchUnit e))
end

