-- ==== Sys2Proof/Laws/Table.lean ====
section
/-! SUPPORT. Reading a table after writing it, and that writing keeps the canonical form. -/

namespace Sys2Proof.Machine

variable {α : Type}

theorem Table.get_del_same (d : α) (t : Table α) (k : Nat) : Table.get d (Table.del t k) k = d := by
  induction t with
  | nil => rfl
  | cons p t ih =>
    obtain ⟨j, a⟩ := p
    by_cases h : k = j <;> simp [Table.del, Table.get, h]
    · subst h; exact ih
    · exact ih

theorem Table.get_del_other (d : α) (t : Table α) {k j : Nat} (h : j ≠ k) : Table.get d (Table.del t k) j = Table.get d t j := by
  induction t with
  | nil => rfl
  | cons p t ih =>
    obtain ⟨i, a⟩ := p
    by_cases hk : k = i
    · subst hk; simp [Table.del, Table.get, h, ih]
    · simp [Table.del, Table.get, hk, ih]

theorem Table.get_put_same (d : α) (t : Table α) (k : Nat) (v : α) : Table.get d (Table.put t k v) k = v := by
  induction t with
  | nil => simp [Table.put, Table.get]
  | cons p t ih =>
    obtain ⟨j, a⟩ := p
    unfold Table.put
    split
    · simp [Table.get]
    · split
      · simp [Table.get]
      · simp [Table.get, *]

theorem Table.get_put_other (d : α) (t : Table α) {k j : Nat} (v : α) (h : j ≠ k) : Table.get d (Table.put t k v) j = Table.get d t j := by
  induction t with
  | nil => simp [Table.put, Table.get, h]
  | cons p t ih =>
    obtain ⟨i, a⟩ := p
    unfold Table.put
    split
    · rename_i e; subst e; simp [Table.get, h]
    · split
      · simp [Table.get, h]
      · simp [Table.get, ih]

theorem Table.above_mono {n m : Nat} {t : Table α} (h : m ≤ n) (ht : Table.above n t = true) : Table.above m t = true := by
  cases t with
  | nil => rfl
  | cons p t =>
    obtain ⟨j, a⟩ := p
    simp only [Table.above, Bool.and_eq_true, decide_eq_true_eq] at ht ⊢
    exact ⟨Nat.le_trans h ht.1, ht.2⟩

theorem Table.above_put {n : Nat} {t : Table α} {k : Nat} (v : α) (hk : n ≤ k) (h : Table.above n t = true) :
    Table.above n (Table.put t k v) = true := by
  induction t generalizing n with
  | nil => simp [Table.put, Table.above, hk]
  | cons p t ih =>
    obtain ⟨j, a⟩ := p
    simp only [Table.above, Bool.and_eq_true, decide_eq_true_eq] at h
    unfold Table.put
    split
    · rename_i e
      subst e
      simp only [Table.above, Bool.and_eq_true, decide_eq_true_eq]
      exact ⟨hk, h.2⟩
    · split
      · simp only [Table.above, Bool.and_eq_true, decide_eq_true_eq]
        exact ⟨hk, by omega, h.2⟩
      · simp only [Table.above, Bool.and_eq_true, decide_eq_true_eq]
        exact ⟨h.1, ih (by omega) h.2⟩

theorem Table.mem_del {t : Table α} {k : Nat} {p : Nat × α} (h : p ∈ Table.del t k) : p ∈ t := by
  induction t with
  | nil => exact h
  | cons q t ih =>
    obtain ⟨j, a⟩ := q
    unfold Table.del at h
    split at h
    · exact List.mem_cons_of_mem _ (ih h)
    · rcases List.mem_cons.mp h with e | h
      · exact e ▸ List.mem_cons_self
      · exact List.mem_cons_of_mem _ (ih h)

theorem Table.mem_put {t : Table α} {k : Nat} {v : α} {p : Nat × α} (h : p ∈ Table.put t k v) : p = (k, v) ∨ p ∈ t := by
  induction t with
  | nil => exact .inl (List.mem_singleton.mp h)
  | cons q t ih =>
    obtain ⟨j, a⟩ := q
    unfold Table.put at h
    split at h
    · rcases List.mem_cons.mp h with e | h
      · exact .inl e
      · exact .inr (List.mem_cons_of_mem _ h)
    · split at h
      · rcases List.mem_cons.mp h with e | h
        · exact .inl e
        · exact .inr h
      · rcases List.mem_cons.mp h with e | h
        · exact .inr (e ▸ List.mem_cons_self)
        · exact (ih h).imp id (List.mem_cons_of_mem _)

theorem Table.above_del {n : Nat} {t : Table α} (k : Nat) (h : Table.above n t = true) : Table.above n (Table.del t k) = true := by
  induction t generalizing n with
  | nil => rfl
  | cons p t ih =>
    obtain ⟨j, a⟩ := p
    simp only [Table.above, Bool.and_eq_true, decide_eq_true_eq] at h
    unfold Table.del
    split
    · exact Table.above_mono (Nat.le_succ_of_le h.1) (ih h.2)
    · simp only [Table.above, Bool.and_eq_true, decide_eq_true_eq]
      exact ⟨h.1, ih h.2⟩

variable [DecidableEq α]

@[simp] theorem Table.get_set_same (d : α) (t : Table α) (k : Nat) (v : α) : Table.get d (Table.set d t k v) k = v := by
  unfold Table.set
  split
  · rename_i e; rw [e]; exact Table.get_del_same d t k
  · exact Table.get_put_same d t k v

theorem Table.get_set_other (d : α) (t : Table α) {k j : Nat} (v : α) (h : j ≠ k) :
    Table.get d (Table.set d t k v) j = Table.get d t j := by
  unfold Table.set
  split
  · exact Table.get_del_other d t h
  · exact Table.get_put_other d t v h

@[simp] theorem Table.get_upd_same (d : α) (t : Table α) (k : Nat) (f : α → α) :
    Table.get d (Table.upd d t k f) k = f (Table.get d t k) := Table.get_set_same d t k _

theorem Table.get_upd_other (d : α) (t : Table α) {k j : Nat} (f : α → α) (h : j ≠ k) :
    Table.get d (Table.upd d t k f) j = Table.get d t j := Table.get_set_other d t _ h

/-- Reading any record after one is written. -/
theorem Table.get_set (d : α) (t : Table α) (k j : Nat) (v : α) :
    Table.get d (Table.set d t k v) j = if j = k then v else Table.get d t j := by
  by_cases h : j = k
  · subst h; simp
  · simp [h, Table.get_set_other d t v h]

/-! ### The canonical form -/

/-- Writing a record keeps the canonical form. -/
theorem Table.wf_set {d : α} {t : Table α} (k : Nat) (v : α) (h : Table.wf d t = true) : Table.wf d (Table.set d t k v) = true := by
  simp only [Table.wf, Bool.and_eq_true, List.all_eq_true, decide_eq_true_eq] at h ⊢
  unfold Table.set
  split
  · exact ⟨Table.above_del k h.1, fun p hp => h.2 p (Table.mem_del hp)⟩
  · rename_i hv
    refine ⟨Table.above_put v (Nat.zero_le k) h.1, fun p hp => ?_⟩
    rcases Table.mem_put hp with e | hp
    · subst e; exact hv
    · exact h.2 p hp

theorem Table.wf_upd {d : α} {t : Table α} (k : Nat) (f : α → α) (h : Table.wf d t = true) : Table.wf d (Table.upd d t k f) = true :=
  Table.wf_set k _ h

end Sys2Proof.Machine
end

