-- ==== Sys2Proof/Laws/Octets.lean ====
section
/-! SUPPORT. Octets in a memory table: what stands where after a store, and that every store keeps the canonical form. -/

namespace Sys2Proof.Machine

theorem get_putOctets (bs : List Byte) : ∀ (t : Table Byte) (a b : Nat),
    Table.get 0 (putOctets t a bs) b = if a ≤ b ∧ b < a + bs.length then bs.getD (b - a) 0 else Table.get 0 t b := by
  induction bs with
  | nil => intro t a b; rw [if_neg (by simp only [List.length_nil]; omega)]; rfl
  | cons x xs ih =>
    intro t a b
    simp only [putOctets, ih, Table.get_set, List.length_cons]
    by_cases h : a + 1 ≤ b ∧ b < a + 1 + xs.length
    · have e : b - a = (b - (a + 1)) + 1 := by omega
      rw [if_pos h, if_pos (by omega), e, List.getD_cons_succ]
    · rw [if_neg h]
      by_cases hb : b = a
      · subst hb; simp
      · rw [if_neg hb, if_neg (by omega)]

theorem wf_putOctets (bs : List Byte) : ∀ (t : Table Byte) (a : Nat), Table.wf 0 t = true → Table.wf 0 (putOctets t a bs) = true := by
  induction bs with
  | nil => intro t a h; exact h
  | cons x xs ih => intro t a h; exact ih _ _ (Table.wf_set _ _ h)

/-- A store that meets no uncorrectable word is a plain store. -/
theorem storeOctets_eq (bad : List Nat) (lo n : Nat) (bs : List Byte) : ∀ (t : Table Byte) (a : Nat),
    (∀ b, a ≤ b → b < a + bs.length → bad.contains (b / 8) = false) → storeOctets bad lo n t a bs = putOctets t a bs := by
  induction bs with
  | nil => intro t a _; rfl
  | cons x xs ih =>
    intro t a h
    have h0 : bad.contains (a / 8) = false := h a (Nat.le_refl _) (by simp)
    simp only [storeOctets, putOctets, h0, Bool.false_and, Bool.false_eq_true, if_false]
    exact ih _ _ (fun b h1 h2 => h b (by omega) (by simp only [List.length_cons]; omega))

theorem wf_storeOctets (bad : List Nat) (lo n : Nat) (bs : List Byte) : ∀ (t : Table Byte) (a : Nat),
    Table.wf 0 t = true → Table.wf 0 (storeOctets bad lo n t a bs) = true := by
  induction bs with
  | nil => intro t a h; exact h
  | cons x xs ih =>
    intro t a h
    refine ih _ _ ?_
    split
    · exact h
    · exact Table.wf_set _ _ h

/-- A store changes no octet outside its stretch. -/
theorem storeOctets_other (bad : List Nat) (lo n : Nat) (bs : List Byte) : ∀ (t : Table Byte) (a b : Nat),
    ¬ (a ≤ b ∧ b < a + bs.length) → Table.get 0 (storeOctets bad lo n t a bs) b = Table.get 0 t b := by
  induction bs with
  | nil => intro t a b _; rfl
  | cons x xs ih =>
    intro t a b h
    simp only [List.length_cons] at h
    simp only [storeOctets]
    rw [ih _ _ _ (by omega)]
    split
    · rfl
    · exact Table.get_set_other 0 _ _ (by omega)

end Sys2Proof.Machine
end

