-- ==== Sys2Proof/Laws/Keeps.lean ====
section
/-! SUPPORT. What a function on states leaves alone, as a mask of parts, and how such facts compose. Every lemma of the Laws
that ends in `_keeps` is of this form. -/

namespace Sys2Proof.Machine

/-- The number of a part in a mask. -/
def Part.bit : Part → Nat
  | .time => 0
  | .cell => 1
  | .power => 2
  | .tap => 3
  | .kept => 4
  | .keptAt => 5
  | .jrnl => 6
  | .host => 7
  | .mbx => 8
  | .pool => 9
  | .chk => 10
  | .lathes => 11
  | .images => 12
  | .ctxs => 13
  | .custKey => 14
  | .chisels => 15
  | .cans => 16
  | .macs => 17
  | .switch => 18
  | .wnw => 19
  | .motion => 20
  | .claim => 21
  | .glume => 22
  | .fab => 23
  | .pair => 24
  | .nets => 25
  | .rd => 26
  | .out => 27
  | .freeCount => 28
  | .pending => 29
  | .poolMem => 30
  | .cellState => 31
  | .grid => 32
  | .epoch => 33
  | .ident => 34
  | .block => 35
  | .cut => 36
  | .minSecVer => 37
  | .bindLocked => 38
  | .retained => 39
  | .memForm => 40
  | .secFloor => 41

/-- `t` agrees with `s` on every part whose bit is clear in `m`. -/
def Keeps (m : Nat) (s t : State) : Prop := ∀ p : Part, m.testBit p.bit = false → Same p s t

variable {m n : Nat} {s t u : State} {α β : Type}

theorem Same.rfl_ (p : Part) (s : State) : Same p s s := by
  cases p <;> first | rfl | exact fun h => h | exact Nat.le_refl _

theorem Same.trans {p : Part} (h : Same p s t) (k : Same p t u) : Same p s u := by
  cases p <;> first | exact Eq.trans k h | exact fun x => k (h x) | exact Nat.le_trans h k

theorem Keeps.refl (m : Nat) (s : State) : Keeps m s s := fun p _ => Same.rfl_ p s

theorem Keeps.trans (h : Keeps m s t) (k : Keeps m t u) : Keeps m s u := fun p hp => (h p hp).trans (k p hp)

theorem Keeps.mono (h : Keeps n s t) (hn : n ||| m = m) : Keeps m s t := fun p hp => h p (by
  have e : (n ||| m).testBit p.bit = false := by rw [hn, hp]
  rw [Nat.testBit_or] at e
  exact (Bool.or_eq_false_iff.mp e).1)

/-- A step of a smaller mask after what has been shown. -/
theorem Keeps.after (k : Keeps n t u) (hn : n ||| m = m) (h : Keeps m s t) : Keeps m s u := h.trans (k.mono hn)

theorem Keeps.ite {c : Prop} [Decidable c] {a b : State} (h : Keeps m s a) (k : Keeps m s b) : Keeps m s (if c then a else b) := by
  split <;> assumption

theorem Keeps.ite1 {c : Prop} [Decidable c] {a b : State × α} (h : Keeps m s a.1) (k : Keeps m s b.1) :
    Keeps m s (if c then a else b).1 := by
  split <;> assumption

theorem Keeps.ite2 {c : Prop} [Decidable c] {a b : α × State} (h : Keeps m s a.2) (k : Keeps m s b.2) :
    Keeps m s (if c then a else b).2 := by
  split <;> assumption

theorem Keeps.mk1 {a : State} {x : α} (h : Keeps m s a) : Keeps m s (a, x).1 := h

theorem Keeps.mk2 {a : State} {x : α} (h : Keeps m s a) : Keeps m s (x, a).2 := h

theorem Keeps.fst_eq {p : State × α} {x : α} (e : p = (t, x)) (h : Keeps m s p.1) : Keeps m s t := by
  rw [e] at h; exact h

theorem Keeps.snd_eq {p : α × State} {x : α} (e : p = (x, t)) (h : Keeps m s p.2) : Keeps m s t := by
  rw [e] at h; exact h

theorem Keeps.foldl {f : State → α → State} {l : List α} {i : State} (hf : ∀ t x, Keeps m t (f t x)) (hi : Keeps m s i) :
    Keeps m s (l.foldl f i) := by
  induction l generalizing i with
  | nil => exact hi
  | cons x l ih => exact ih (hi.trans (hf i x))

theorem Keeps.foldl1 {f : State × β → α → State × β} {l : List α} {i : State × β} (hf : ∀ p x, Keeps m p.1 (f p x).1)
    (hi : Keeps m s i.1) : Keeps m s (l.foldl f i).1 := by
  induction l generalizing i with
  | nil => exact hi
  | cons x l ih => exact ih (hi.trans (hf i x))

theorem Keeps.foldl2 {f : β × State → α → β × State} {l : List α} {i : β × State} (hf : ∀ p x, Keeps m p.2 (f p x).2)
    (hi : Keeps m s i.2) : Keeps m s (l.foldl f i).2 := by
  induction l generalizing i with
  | nil => exact hi
  | cons x l ih => exact ih (hi.trans (hf i x))

theorem Keeps.foldlOn (π : β → State) {f : β → α → β} {l : List α} {i : β} (hf : ∀ x c, Keeps m (π x) (π (f x c))) :
    Keeps m (π i) (π (l.foldl f i)) := by
  induction l generalizing i with
  | nil => exact Keeps.refl _ _
  | cons x l ih => exact (hf i x).trans ih

theorem mask_trans {a b c : Nat} (h : a ||| b = b) (k : b ||| c = c) : a ||| c = c := by
  rw [← k, ← Nat.or_assoc, h]

/-- What a step of a mask that lies in a list of parts leaves alone. -/
theorem Keeps.touches (h : Keeps m s t) (ps : List Part)
    (hm : Part.all.all (fun p => !m.testBit p.bit || ps.contains p) = true) : Touches ps s t := fun p hp => h p (by
  have hx := List.all_eq_true.mp hm p (Part.mem_all p)
  cases hb : m.testBit p.bit
  · rfl
  · rw [hb] at hx
    exact absurd (List.contains_iff_mem.mp hx) hp)

/-! ### Commands -/

/-- Whatever next state an outcome answers, it agrees with `s` outside the mask. -/
def Res (m : Nat) (s : State) (r : Result) : Prop := ∀ t, r = .next t → Keeps m s t

theorem Res.next {t : State} (h : Keeps m s t) : Res m s (.next t) := fun u e => by
  cases e
  exact h

theorem Res.fault {f : Fault} : Res m s (.fault f) := fun _ e => by cases e

theorem Res.refused {f : Refusal} : Res m s (.refused f) := fun _ e => by cases e

theorem Res.ite {c : Prop} [Decidable c] {a b : Result} (h : Res m s a) (k : Res m s b) : Res m s (if c then a else b) := by
  split <;> assumption

theorem Res.after {r : Result} (k : Res n t r) (hn : n ||| m = m) (h : Keeps m s t) : Res m s r :=
  fun u e => Keeps.after (k u e) hn h

theorem Res.onUnit {t : State} {i l : Nat} (h : Keeps m s t) : Res m s (onUnit i l t) := by
  unfold Machine.onUnit
  exact Res.ite (Res.next h) Res.fault

/-! ### One field replaced -/


theorem Keeps.time_ {x} (h : Keeps m s u) (hb : m.testBit 0 = true) : Keeps m s { u with time := x } :=
  h.trans (fun p hp => by
    cases p <;> first
      | rfl
      | exact fun h => h
      | exact Nat.le_refl _
      | exact absurd (hb.symm.trans hp) (by decide))

theorem Keeps.cell_ {x} (h : Keeps m s u) (hb : m.testBit 1 = true) (h1 : x.state = u.cell.state ∨ m.testBit 31 = true) (h2 : (x.tickSel, x.nextEdge, x.change) = (u.cell.tickSel, u.cell.nextEdge, u.cell.change) ∨ m.testBit 32 = true) (h3 : x.epoch = u.cell.epoch ∨ m.testBit 33 = true) (h4 : (x.uid, x.siRev, x.grade, x.fwRelease) = (u.cell.uid, u.cell.siRev, u.cell.grade, u.cell.fwRelease) ∨ m.testBit 34 = true) : Keeps m s { u with cell := x } :=
  h.trans (fun p hp => by
    cases p <;> first
      | rfl
      | exact fun h => h
      | exact Nat.le_refl _
      | exact absurd (hb.symm.trans hp) (by decide)
      | exact h1.elim (fun e => e) (fun e => absurd (e.symm.trans hp) (by decide))
      | exact h2.elim (fun e => e) (fun e => absurd (e.symm.trans hp) (by decide))
      | exact h3.elim (fun e => e) (fun e => absurd (e.symm.trans hp) (by decide))
      | exact h4.elim (fun e => e) (fun e => absurd (e.symm.trans hp) (by decide)))

theorem Keeps.power_ {x} (h : Keeps m s u) (hb : m.testBit 2 = true) (h7 : x.minSecVer = u.power.minSecVer ∨ m.testBit 37 = true) (h11 : u.power.minSecVer ≤ x.minSecVer ∨ m.testBit 41 = true) : Keeps m s { u with power := x } :=
  h.trans (fun p hp => by
    cases p <;> first
      | rfl
      | exact fun h => h
      | exact Nat.le_refl _
      | exact absurd (hb.symm.trans hp) (by decide)
      | exact h7.elim (fun e => e) (fun e => absurd (e.symm.trans hp) (by decide))
      | exact h11.elim (fun e => e) (fun e => absurd (e.symm.trans hp) (by decide)))

theorem Keeps.tap_ {x} (h : Keeps m s u) (hb : m.testBit 3 = true) : Keeps m s { u with tap := x } :=
  h.trans (fun p hp => by
    cases p <;> first
      | rfl
      | exact fun h => h
      | exact Nat.le_refl _
      | exact absurd (hb.symm.trans hp) (by decide))

theorem Keeps.kept_ {x} (h : Keeps m s u) (hb : m.testBit 4 = true) : Keeps m s { u with kept := x } :=
  h.trans (fun p hp => by
    cases p <;> first
      | rfl
      | exact fun h => h
      | exact Nat.le_refl _
      | exact absurd (hb.symm.trans hp) (by decide))

theorem Keeps.keptAt_ {x} (h : Keeps m s u) (hb : m.testBit 5 = true) : Keeps m s { u with keptAt := x } :=
  h.trans (fun p hp => by
    cases p <;> first
      | rfl
      | exact fun h => h
      | exact Nat.le_refl _
      | exact absurd (hb.symm.trans hp) (by decide))

theorem Keeps.jrnl_ {x} (h : Keeps m s u) (hb : m.testBit 6 = true) (h9 : x.retained = u.jrnl.retained ∨ m.testBit 39 = true) : Keeps m s { u with jrnl := x } :=
  h.trans (fun p hp => by
    cases p <;> first
      | rfl
      | exact fun h => h
      | exact Nat.le_refl _
      | exact absurd (hb.symm.trans hp) (by decide)
      | exact h9.elim (fun e => e) (fun e => absurd (e.symm.trans hp) (by decide)))

theorem Keeps.host_ {x} (h : Keeps m s u) (hb : m.testBit 7 = true) : Keeps m s { u with host := x } :=
  h.trans (fun p hp => by
    cases p <;> first
      | rfl
      | exact fun h => h
      | exact Nat.le_refl _
      | exact absurd (hb.symm.trans hp) (by decide))

theorem Keeps.mbx_ {x} (h : Keeps m s u) (hb : m.testBit 8 = true) (h8 : x.bindLocked = u.mbx.bindLocked ∨ m.testBit 38 = true) : Keeps m s { u with mbx := x } :=
  h.trans (fun p hp => by
    cases p <;> first
      | rfl
      | exact fun h => h
      | exact Nat.le_refl _
      | exact absurd (hb.symm.trans hp) (by decide)
      | exact h8.elim (fun e => e) (fun e => absurd (e.symm.trans hp) (by decide)))

theorem Keeps.pool_ {x} (h : Keeps m s u) (hb : m.testBit 9 = true) (h0 : x.mem = u.pool.mem ∨ m.testBit 30 = true) (h10 : (Memory.wf u → Memory.wf { u with pool := x }) ∨ m.testBit 40 = true) : Keeps m s { u with pool := x } :=
  h.trans (fun p hp => by
    cases p <;> first
      | rfl
      | exact fun h => h
      | exact Nat.le_refl _
      | exact absurd (hb.symm.trans hp) (by decide)
      | exact h0.elim (fun e => e) (fun e => absurd (e.symm.trans hp) (by decide))
      | exact h10.elim (fun e => e) (fun e => absurd (e.symm.trans hp) (by decide)))

theorem Keeps.chk_ {x} (h : Keeps m s u) (hb : m.testBit 10 = true) : Keeps m s { u with chk := x } :=
  h.trans (fun p hp => by
    cases p <;> first
      | rfl
      | exact fun h => h
      | exact Nat.le_refl _
      | exact absurd (hb.symm.trans hp) (by decide))

theorem Keeps.lathes_ {x} (h : Keeps m s u) (hb : m.testBit 11 = true) : Keeps m s { u with lathes := x } :=
  h.trans (fun p hp => by
    cases p <;> first
      | rfl
      | exact fun h => h
      | exact Nat.le_refl _
      | exact absurd (hb.symm.trans hp) (by decide))

theorem Keeps.images_ {x} (h : Keeps m s u) (hb : m.testBit 12 = true) : Keeps m s { u with images := x } :=
  h.trans (fun p hp => by
    cases p <;> first
      | rfl
      | exact fun h => h
      | exact Nat.le_refl _
      | exact absurd (hb.symm.trans hp) (by decide))

theorem Keeps.ctxs_ {x} (h : Keeps m s u) (hb : m.testBit 13 = true) : Keeps m s { u with ctxs := x } :=
  h.trans (fun p hp => by
    cases p <;> first
      | rfl
      | exact fun h => h
      | exact Nat.le_refl _
      | exact absurd (hb.symm.trans hp) (by decide))

theorem Keeps.custKey_ {x} (h : Keeps m s u) (hb : m.testBit 14 = true) : Keeps m s { u with custKey := x } :=
  h.trans (fun p hp => by
    cases p <;> first
      | rfl
      | exact fun h => h
      | exact Nat.le_refl _
      | exact absurd (hb.symm.trans hp) (by decide))

theorem Keeps.chisels_ {x} (h : Keeps m s u) (hb : m.testBit 15 = true) : Keeps m s { u with chisels := x } :=
  h.trans (fun p hp => by
    cases p <;> first
      | rfl
      | exact fun h => h
      | exact Nat.le_refl _
      | exact absurd (hb.symm.trans hp) (by decide))

theorem Keeps.cans_ {x} (h : Keeps m s u) (hb : m.testBit 16 = true) : Keeps m s { u with cans := x } :=
  h.trans (fun p hp => by
    cases p <;> first
      | rfl
      | exact fun h => h
      | exact Nat.le_refl _
      | exact absurd (hb.symm.trans hp) (by decide))

theorem Keeps.macs_ {x} (h : Keeps m s u) (hb : m.testBit 17 = true) : Keeps m s { u with macs := x } :=
  h.trans (fun p hp => by
    cases p <;> first
      | rfl
      | exact fun h => h
      | exact Nat.le_refl _
      | exact absurd (hb.symm.trans hp) (by decide))

theorem Keeps.switch_ {x} (h : Keeps m s u) (hb : m.testBit 18 = true) : Keeps m s { u with switch := x } :=
  h.trans (fun p hp => by
    cases p <;> first
      | rfl
      | exact fun h => h
      | exact Nat.le_refl _
      | exact absurd (hb.symm.trans hp) (by decide))

theorem Keeps.wnw_ {x} (h : Keeps m s u) (hb : m.testBit 19 = true) : Keeps m s { u with wnw := x } :=
  h.trans (fun p hp => by
    cases p <;> first
      | rfl
      | exact fun h => h
      | exact Nat.le_refl _
      | exact absurd (hb.symm.trans hp) (by decide))

theorem Keeps.motion_ {x} (h : Keeps m s u) (hb : m.testBit 20 = true) : Keeps m s { u with motion := x } :=
  h.trans (fun p hp => by
    cases p <;> first
      | rfl
      | exact fun h => h
      | exact Nat.le_refl _
      | exact absurd (hb.symm.trans hp) (by decide))

theorem Keeps.claim_ {x} (h : Keeps m s u) (hb : m.testBit 21 = true) : Keeps m s { u with claim := x } :=
  h.trans (fun p hp => by
    cases p <;> first
      | rfl
      | exact fun h => h
      | exact Nat.le_refl _
      | exact absurd (hb.symm.trans hp) (by decide))

theorem Keeps.glume_ {x} (h : Keeps m s u) (hb : m.testBit 22 = true) (h5 : x.block = u.glume.block ∨ m.testBit 35 = true) (h6 : x.cut = u.glume.cut ∨ m.testBit 36 = true) : Keeps m s { u with glume := x } :=
  h.trans (fun p hp => by
    cases p <;> first
      | rfl
      | exact fun h => h
      | exact Nat.le_refl _
      | exact absurd (hb.symm.trans hp) (by decide)
      | exact h5.elim (fun e => e) (fun e => absurd (e.symm.trans hp) (by decide))
      | exact h6.elim (fun e => e) (fun e => absurd (e.symm.trans hp) (by decide)))

theorem Keeps.fab_ {x} (h : Keeps m s u) (hb : m.testBit 23 = true) : Keeps m s { u with fab := x } :=
  h.trans (fun p hp => by
    cases p <;> first
      | rfl
      | exact fun h => h
      | exact Nat.le_refl _
      | exact absurd (hb.symm.trans hp) (by decide))

theorem Keeps.pair_ {x} (h : Keeps m s u) (hb : m.testBit 24 = true) : Keeps m s { u with pair := x } :=
  h.trans (fun p hp => by
    cases p <;> first
      | rfl
      | exact fun h => h
      | exact Nat.le_refl _
      | exact absurd (hb.symm.trans hp) (by decide))

theorem Keeps.nets_ {x} (h : Keeps m s u) (hb : m.testBit 25 = true) : Keeps m s { u with nets := x } :=
  h.trans (fun p hp => by
    cases p <;> first
      | rfl
      | exact fun h => h
      | exact Nat.le_refl _
      | exact absurd (hb.symm.trans hp) (by decide))

theorem Keeps.rd_ {x} (h : Keeps m s u) (hb : m.testBit 26 = true) : Keeps m s { u with rd := x } :=
  h.trans (fun p hp => by
    cases p <;> first
      | rfl
      | exact fun h => h
      | exact Nat.le_refl _
      | exact absurd (hb.symm.trans hp) (by decide))

theorem Keeps.out_ {x} (h : Keeps m s u) (hb : m.testBit 27 = true) : Keeps m s { u with out := x } :=
  h.trans (fun p hp => by
    cases p <;> first
      | rfl
      | exact fun h => h
      | exact Nat.le_refl _
      | exact absurd (hb.symm.trans hp) (by decide))

theorem Keeps.freeCount_ {x} (h : Keeps m s u) (hb : m.testBit 28 = true) : Keeps m s { u with freeCount := x } :=
  h.trans (fun p hp => by
    cases p <;> first
      | rfl
      | exact fun h => h
      | exact Nat.le_refl _
      | exact absurd (hb.symm.trans hp) (by decide))

theorem Keeps.pending_ {x} (h : Keeps m s u) (hb : m.testBit 29 = true) : Keeps m s { u with pending := x } :=
  h.trans (fun p hp => by
    cases p <;> first
      | rfl
      | exact fun h => h
      | exact Nat.le_refl _
      | exact absurd (hb.symm.trans hp) (by decide))

end Sys2Proof.Machine
end

