-- ==== Sys2Proof/Laws/FramesShared.lean ====
section
/-! SUPPORT. Frames, one lemma per function: the accessors and the operations many commands share. The mask names the parts a function may change
(`Part.bit`); every other part is as before. -/

namespace Sys2Proof.Machine

theorem State.setBase_keeps (s) (n) (v) : Keeps 1 s (State.setBase s n v) := by
  unfold State.setBase
  refine Keeps.time_ (u := s) ?_ rfl
  exact Keeps.refl _ _

theorem State.updBase_keeps (s) (n) (f) : Keeps 1 s (State.updBase s n f) := by
  unfold State.updBase
  refine Keeps.after (State.setBase_keeps _ _ _) rfl ?_
  exact Keeps.refl _ _

theorem State.setLatch_keeps (s) (n) (v) : Keeps 1 s (State.setLatch s n v) := by
  unfold State.setLatch
  refine Keeps.time_ (u := s) ?_ rfl
  exact Keeps.refl _ _

theorem State.updLatch_keeps (s) (n) (f) : Keeps 1 s (State.updLatch s n f) := by
  unfold State.updLatch
  refine Keeps.after (State.setLatch_keeps _ _ _) rfl ?_
  exact Keeps.refl _ _

theorem State.setCmp_keeps (s) (n) (v) : Keeps 1 s (State.setCmp s n v) := by
  unfold State.setCmp
  refine Keeps.time_ (u := s) ?_ rfl
  exact Keeps.refl _ _

theorem State.updCmp_keeps (s) (n) (f) : Keeps 1 s (State.updCmp s n f) := by
  unfold State.updCmp
  refine Keeps.after (State.setCmp_keeps _ _ _) rfl ?_
  exact Keeps.refl _ _

theorem State.setCap_keeps (s) (n) (v) : Keeps 1 s (State.setCap s n v) := by
  unfold State.setCap
  refine Keeps.time_ (u := s) ?_ rfl
  exact Keeps.refl _ _

theorem State.updCap_keeps (s) (n) (f) : Keeps 1 s (State.updCap s n f) := by
  unfold State.updCap
  refine Keeps.after (State.setCap_keeps _ _ _) rfl ?_
  exact Keeps.refl _ _

theorem State.setTsIns_keeps (s) (n) (v) : Keeps 1 s (State.setTsIns s n v) := by
  unfold State.setTsIns
  refine Keeps.time_ (u := s) ?_ rfl
  exact Keeps.refl _ _

theorem State.updTsIns_keeps (s) (n) (f) : Keeps 1 s (State.updTsIns s n f) := by
  unfold State.updTsIns
  refine Keeps.after (State.setTsIns_keeps _ _ _) rfl ?_
  exact Keeps.refl _ _

theorem State.setChan_keeps (s) (n) (v) : Keeps 256 s (State.setChan s n v) := by
  unfold State.setChan
  refine Keeps.mbx_ (u := s) ?_ rfl (.inl rfl)
  exact Keeps.refl _ _

theorem State.updChan_keeps (s) (n) (f) : Keeps 256 s (State.updChan s n f) := by
  unfold State.updChan
  refine Keeps.after (State.setChan_keeps _ _ _) rfl ?_
  exact Keeps.refl _ _

theorem State.setBells_keeps (s) (n) (v) : Keeps 256 s (State.setBells s n v) := by
  unfold State.setBells
  refine Keeps.mbx_ (u := s) ?_ rfl (.inl rfl)
  exact Keeps.refl _ _

theorem State.updBells_keeps (s) (n) (f) : Keeps 256 s (State.updBells s n f) := by
  unfold State.updBells
  refine Keeps.after (State.setBells_keeps _ _ _) rfl ?_
  exact Keeps.refl _ _

theorem State.setBank_keeps (s) (n) (v) : Keeps 512 s (State.setBank s n v) := by
  unfold State.setBank
  refine Keeps.pool_ (u := s) ?_ rfl (.inl rfl) (.inl (fun h => h))
  exact Keeps.refl _ _

theorem State.updBank_keeps (s) (n) (f) : Keeps 512 s (State.updBank s n f) := by
  unfold State.updBank
  refine Keeps.after (State.setBank_keeps _ _ _) rfl ?_
  exact Keeps.refl _ _

theorem State.setChkUnit_keeps (s) (n) (v) : Keeps 1024 s (State.setChkUnit s n v) := by
  unfold State.setChkUnit
  refine Keeps.chk_ (u := s) ?_ rfl
  exact Keeps.refl _ _

theorem State.updChkUnit_keeps (s) (n) (f) : Keeps 1024 s (State.updChkUnit s n f) := by
  unfold State.updChkUnit
  refine Keeps.after (State.setChkUnit_keeps _ _ _) rfl ?_
  exact Keeps.refl _ _

theorem State.setLathe_keeps (s) (n) (v) : Keeps 2048 s (State.setLathe s n v) := by
  unfold State.setLathe
  refine Keeps.lathes_ (u := s) ?_ rfl
  exact Keeps.refl _ _

theorem State.updLathe_keeps (s) (n) (f) : Keeps 2048 s (State.updLathe s n f) := by
  unfold State.updLathe
  refine Keeps.after (State.setLathe_keeps _ _ _) rfl ?_
  exact Keeps.refl _ _

theorem State.setImage_keeps (s) (n) (v) : Keeps 4096 s (State.setImage s n v) := by
  unfold State.setImage
  refine Keeps.images_ (u := s) ?_ rfl
  exact Keeps.refl _ _

theorem State.updImage_keeps (s) (n) (f) : Keeps 4096 s (State.updImage s n f) := by
  unfold State.updImage
  refine Keeps.after (State.setImage_keeps _ _ _) rfl ?_
  exact Keeps.refl _ _

theorem State.setCtx_keeps (s) (n) (v) : Keeps 8192 s (State.setCtx s n v) := by
  unfold State.setCtx
  refine Keeps.ctxs_ (u := s) ?_ rfl
  exact Keeps.refl _ _

theorem State.updCtx_keeps (s) (n) (f) : Keeps 8192 s (State.updCtx s n f) := by
  unfold State.updCtx
  refine Keeps.after (State.setCtx_keeps _ _ _) rfl ?_
  exact Keeps.refl _ _

theorem State.setChisel_keeps (s) (n) (v) : Keeps 32768 s (State.setChisel s n v) := by
  unfold State.setChisel
  refine Keeps.chisels_ (u := s) ?_ rfl
  exact Keeps.refl _ _

theorem State.updChisel_keeps (s) (n) (f) : Keeps 32768 s (State.updChisel s n f) := by
  unfold State.updChisel
  refine Keeps.after (State.setChisel_keeps _ _ _) rfl ?_
  exact Keeps.refl _ _

theorem State.setCan_keeps (s) (n) (v) : Keeps 65536 s (State.setCan s n v) := by
  unfold State.setCan
  refine Keeps.cans_ (u := s) ?_ rfl
  exact Keeps.refl _ _

theorem State.updCan_keeps (s) (n) (f) : Keeps 65536 s (State.updCan s n f) := by
  unfold State.updCan
  refine Keeps.after (State.setCan_keeps _ _ _) rfl ?_
  exact Keeps.refl _ _

theorem State.setMac_keeps (s) (n) (v) : Keeps 131072 s (State.setMac s n v) := by
  unfold State.setMac
  refine Keeps.macs_ (u := s) ?_ rfl
  exact Keeps.refl _ _

theorem State.updMac_keeps (s) (n) (f) : Keeps 131072 s (State.updMac s n f) := by
  unfold State.updMac
  refine Keeps.after (State.setMac_keeps _ _ _) rfl ?_
  exact Keeps.refl _ _

theorem State.setSwRing_keeps (s) (n) (v) : Keeps 262144 s (State.setSwRing s n v) := by
  unfold State.setSwRing
  refine Keeps.switch_ (u := s) ?_ rfl
  exact Keeps.refl _ _

theorem State.updSwRing_keeps (s) (n) (f) : Keeps 262144 s (State.updSwRing s n f) := by
  unfold State.updSwRing
  refine Keeps.after (State.setSwRing_keeps _ _ _) rfl ?_
  exact Keeps.refl _ _

theorem State.setMirror_keeps (s) (n) (v) : Keeps 262144 s (State.setMirror s n v) := by
  unfold State.setMirror
  refine Keeps.switch_ (u := s) ?_ rfl
  exact Keeps.refl _ _

theorem State.updMirror_keeps (s) (n) (f) : Keeps 262144 s (State.updMirror s n f) := by
  unfold State.updMirror
  refine Keeps.after (State.setMirror_keeps _ _ _) rfl ?_
  exact Keeps.refl _ _

theorem State.setNet_keeps (s) (n) (v) : Keeps 33554432 s (State.setNet s n v) := by
  unfold State.setNet
  refine Keeps.nets_ (u := s) ?_ rfl
  exact Keeps.refl _ _

theorem State.updNet_keeps (s) (n) (f) : Keeps 33554432 s (State.updNet s n f) := by
  unfold State.updNet
  refine Keeps.after (State.setNet_keeps _ _ _) rfl ?_
  exact Keeps.refl _ _

theorem State.setScrub_keeps (s) (n) (v) : Keeps 524288 s (State.setScrub s n v) := by
  unfold State.setScrub
  refine Keeps.wnw_ (u := s) ?_ rfl
  exact Keeps.refl _ _

theorem State.updScrub_keeps (s) (n) (f) : Keeps 524288 s (State.updScrub s n f) := by
  unfold State.updScrub
  refine Keeps.after (State.setScrub_keeps _ _ _) rfl ?_
  exact Keeps.refl _ _

theorem State.setCalib_keeps (s) (n) (v) : Keeps 524288 s (State.setCalib s n v) := by
  unfold State.setCalib
  refine Keeps.wnw_ (u := s) ?_ rfl
  exact Keeps.refl _ _

theorem State.updCalib_keeps (s) (n) (f) : Keeps 524288 s (State.updCalib s n f) := by
  unfold State.updCalib
  refine Keeps.after (State.setCalib_keeps _ _ _) rfl ?_
  exact Keeps.refl _ _

theorem State.setAxis_keeps (s) (n) (v) : Keeps 1048576 s (State.setAxis s n v) := by
  unfold State.setAxis
  refine Keeps.motion_ (u := s) ?_ rfl
  exact Keeps.refl _ _

theorem State.updAxis_keeps (s) (n) (f) : Keeps 1048576 s (State.updAxis s n f) := by
  unfold State.updAxis
  refine Keeps.after (State.setAxis_keeps _ _ _) rfl ?_
  exact Keeps.refl _ _

theorem State.setArm_keeps (s) (n) (v) : Keeps 1048576 s (State.setArm s n v) := by
  unfold State.setArm
  refine Keeps.motion_ (u := s) ?_ rfl
  exact Keeps.refl _ _

theorem State.updArm_keeps (s) (n) (f) : Keeps 1048576 s (State.updArm s n f) := by
  unfold State.updArm
  refine Keeps.after (State.setArm_keeps _ _ _) rfl ?_
  exact Keeps.refl _ _

theorem State.setCam_keeps (s) (n) (v) : Keeps 1048576 s (State.setCam s n v) := by
  unfold State.setCam
  refine Keeps.motion_ (u := s) ?_ rfl
  exact Keeps.refl _ _

theorem State.updCam_keeps (s) (n) (f) : Keeps 1048576 s (State.updCam s n f) := by
  unfold State.updCam
  refine Keeps.after (State.setCam_keeps _ _ _) rfl ?_
  exact Keeps.refl _ _

theorem State.setTiller_keeps (s) (n) (v) : Keeps 1048576 s (State.setTiller s n v) := by
  unfold State.setTiller
  refine Keeps.motion_ (u := s) ?_ rfl
  exact Keeps.refl _ _

theorem State.updTiller_keeps (s) (n) (f) : Keeps 1048576 s (State.updTiller s n f) := by
  unfold State.updTiller
  refine Keeps.after (State.setTiller_keeps _ _ _) rfl ?_
  exact Keeps.refl _ _

theorem State.setAdc_keeps (s) (n) (v) : Keeps 1048576 s (State.setAdc s n v) := by
  unfold State.setAdc
  refine Keeps.motion_ (u := s) ?_ rfl
  exact Keeps.refl _ _

theorem State.updAdc_keeps (s) (n) (f) : Keeps 1048576 s (State.updAdc s n f) := by
  unfold State.updAdc
  refine Keeps.after (State.setAdc_keeps _ _ _) rfl ?_
  exact Keeps.refl _ _

theorem State.setGpio_keeps (s) (n) (v) : Keeps 1048576 s (State.setGpio s n v) := by
  unfold State.setGpio
  refine Keeps.motion_ (u := s) ?_ rfl
  exact Keeps.refl _ _

theorem State.updGpio_keeps (s) (n) (f) : Keeps 1048576 s (State.updGpio s n f) := by
  unfold State.updGpio
  refine Keeps.after (State.setGpio_keeps _ _ _) rfl ?_
  exact Keeps.refl _ _

theorem State.setZone_keeps (s) (n) (v) : Keeps 2097152 s (State.setZone s n v) := by
  unfold State.setZone
  refine Keeps.claim_ (u := s) ?_ rfl
  exact Keeps.refl _ _

theorem State.updZone_keeps (s) (n) (f) : Keeps 2097152 s (State.updZone s n f) := by
  unfold State.updZone
  refine Keeps.after (State.setZone_keeps _ _ _) rfl ?_
  exact Keeps.refl _ _

theorem State.setClaimCount_keeps (s) (n) (v) : Keeps 2097152 s (State.setClaimCount s n v) := by
  unfold State.setClaimCount
  refine Keeps.claim_ (u := s) ?_ rfl
  exact Keeps.refl _ _

theorem State.updClaimCount_keeps (s) (n) (f) : Keeps 2097152 s (State.updClaimCount s n f) := by
  unfold State.updClaimCount
  refine Keeps.after (State.setClaimCount_keeps _ _ _) rfl ?_
  exact Keeps.refl _ _

theorem State.setGsrc_keeps (s) (n) (v) : Keeps 4194304 s (State.setGsrc s n v) := by
  unfold State.setGsrc
  refine Keeps.glume_ (u := s) ?_ rfl (.inl rfl) (.inl rfl)
  exact Keeps.refl _ _

theorem State.updGsrc_keeps (s) (n) (f) : Keeps 4194304 s (State.updGsrc s n f) := by
  unfold State.updGsrc
  refine Keeps.after (State.setGsrc_keeps _ _ _) rfl ?_
  exact Keeps.refl _ _

theorem State.setGunit_keeps (s) (n) (v) : Keeps 4194304 s (State.setGunit s n v) := by
  unfold State.setGunit
  refine Keeps.glume_ (u := s) ?_ rfl (.inl rfl) (.inl rfl)
  exact Keeps.refl _ _

theorem State.updGunit_keeps (s) (n) (f) : Keeps 4194304 s (State.updGunit s n f) := by
  unfold State.updGunit
  refine Keeps.after (State.setGunit_keeps _ _ _) rfl ?_
  exact Keeps.refl _ _

theorem State.setSafeIn_keeps (s) (n) (v) : Keeps 4194304 s (State.setSafeIn s n v) := by
  unfold State.setSafeIn
  refine Keeps.glume_ (u := s) ?_ rfl (.inl rfl) (.inl rfl)
  exact Keeps.refl _ _

theorem State.updSafeIn_keeps (s) (n) (f) : Keeps 4194304 s (State.updSafeIn s n f) := by
  unfold State.updSafeIn
  refine Keeps.after (State.setSafeIn_keeps _ _ _) rfl ?_
  exact Keeps.refl _ _

theorem State.setSafeOut_keeps (s) (n) (v) : Keeps 4194304 s (State.setSafeOut s n v) := by
  unfold State.setSafeOut
  refine Keeps.glume_ (u := s) ?_ rfl (.inl rfl) (.inl rfl)
  exact Keeps.refl _ _

theorem State.updSafeOut_keeps (s) (n) (f) : Keeps 4194304 s (State.updSafeOut s n f) := by
  unfold State.updSafeOut
  refine Keeps.after (State.setSafeOut_keeps _ _ _) rfl ?_
  exact Keeps.refl _ _

theorem State.setFabPort_keeps (s) (n) (v) : Keeps 8388608 s (State.setFabPort s n v) := by
  unfold State.setFabPort
  refine Keeps.fab_ (u := s) ?_ rfl
  exact Keeps.refl _ _

theorem State.updFabPort_keeps (s) (n) (f) : Keeps 8388608 s (State.updFabPort s n f) := by
  unfold State.updFabPort
  refine Keeps.after (State.setFabPort_keeps _ _ _) rfl ?_
  exact Keeps.refl _ _

theorem State.setFabRing_keeps (s) (n) (v) : Keeps 8388608 s (State.setFabRing s n v) := by
  unfold State.setFabRing
  refine Keeps.fab_ (u := s) ?_ rfl
  exact Keeps.refl _ _

theorem State.updFabRing_keeps (s) (n) (f) : Keeps 8388608 s (State.updFabRing s n f) := by
  unfold State.updFabRing
  refine Keeps.after (State.setFabRing_keeps _ _ _) rfl ?_
  exact Keeps.refl _ _

theorem State.setFabNode_keeps (s) (n) (v) : Keeps 8388608 s (State.setFabNode s n v) := by
  unfold State.setFabNode
  refine Keeps.fab_ (u := s) ?_ rfl
  exact Keeps.refl _ _

theorem State.updFabNode_keeps (s) (n) (f) : Keeps 8388608 s (State.updFabNode s n f) := by
  unfold State.updFabNode
  refine Keeps.after (State.setFabNode_keeps _ _ _) rfl ?_
  exact Keeps.refl _ _

theorem State.freeBelow_keeps (s) (m) : Keeps 268435456 s (State.freeBelow s m).2 := by
  unfold State.freeBelow
  refine Keeps.mk2 ?_
  refine Keeps.freeCount_ (u := s) ?_ rfl
  exact Keeps.refl _ _

theorem State.freeSigned_keeps (s) : Keeps 268435456 s (State.freeSigned s).2 := by
  unfold State.freeSigned
  refine Keeps.mk2 ?_
  refine Keeps.freeCount_ (u := s) ?_ rfl
  exact Keeps.refl _ _

theorem State.send_keeps (s) (o) : Keeps 134217728 s (State.send s o) := by
  unfold State.send
  refine Keeps.out_ (u := s) ?_ rfl
  exact Keeps.refl _ _

theorem State.returns_keeps (s) (v) : Keeps 67108864 s (State.returns s v) := by
  unfold State.returns
  refine Keeps.rd_ (u := s) ?_ rfl
  exact Keeps.refl _ _

theorem State.advance_keeps (n) (s) : Keeps 1 s (State.advance n s) := by
  unfold State.advance
  refine Keeps.time_ (u := s) ?_ rfl
  exact Keeps.refl _ _

theorem State.advanceTo_keeps (target) (s) : Keeps 1 s (State.advanceTo target s) := by
  unfold State.advanceTo
  refine Keeps.after (State.advance_keeps _ _) rfl ?_
  exact Keeps.refl _ _

theorem State.setPort_keeps (s) (p) (v) : Keeps 128 s (State.setPort s p v) := by
  unfold State.setPort
  refine Keeps.ite ?_ ?_
  · refine Keeps.host_ (u := s) ?_ rfl
    exact Keeps.refl _ _
  · refine Keeps.host_ (u := s) ?_ rfl
    exact Keeps.refl _ _

theorem State.accessErr_keeps (s) (m) : Keeps 128 s (State.accessErr s m) := by
  unfold State.accessErr
  refine Keeps.ite ?_ ?_
  · extract_lets v3
    clear_value v3
    refine Keeps.after (State.setPort_keeps _ _ _) rfl ?_
    exact Keeps.refl _ _
  · exact Keeps.refl _ _

theorem State.ring_keeps (s) (m) (b) : Keeps 134217984 s (State.ring s m b) := by
  unfold State.ring
  extract_lets v2 v3 v4
  clear_value v2 v3
  have hv4 : Keeps 134217984 (s) v4 := by
    unfold v4
    refine Keeps.after (State.setBells_keeps _ _ _) rfl ?_
    exact Keeps.refl _ _
  clear_value v4
  refine Keeps.ite ?_ ?_
  · refine Keeps.after (State.send_keeps _ _) rfl ?_
    assumption
  · assumption

theorem State.stream_keeps (s) (bit) (rtype) (gtc) (data) : Keeps 524288 s (State.stream s bit rtype gtc data) := by
  unfold State.stream
  extract_lets v2 v3 v4 v5
  clear_value v2 v3 v4
  refine Keeps.ite ?_ ?_
  · exact Keeps.refl _ _
  · refine Keeps.wnw_ (u := s) ?_ rfl
    exact Keeps.refl _ _

theorem State.commitJournal_keeps (s) : Keeps 524352 s (State.commitJournal s) := by
  unfold State.commitJournal
  refine Keeps.ite ?_ ?_
  · exact Keeps.refl _ _
  · extract_lets v4 v5
    clear_value v4 v5
    refine Keeps.foldl ?_ ?_
    · intro t7 x8
      refine Keeps.after (State.stream_keeps _ _ _ _ _) rfl ?_
      exact Keeps.refl _ _
    · refine Keeps.jrnl_ (u := s) ?_ rfl (.inl rfl)
      exact Keeps.refl _ _

theorem State.record_keeps (s) (loc) (kind) (bs) : Keeps 524352 s (State.record s loc kind bs) := by
  unfold State.record
  extract_lets v2 v3 v4 v5
  have hv4 : Keeps 524352 (s) v4 := by
    unfold v4
    refine Keeps.jrnl_ (u := s) ?_ rfl (.inl rfl)
    exact Keeps.refl _ _
  have hv5 : Keeps 524352 (s) v5 := by
    unfold v5
    refine Keeps.after (State.commitJournal_keeps _) rfl ?_
    assumption
  clear_value v5
  refine Keeps.ite ?_ ?_
  · refine Keeps.jrnl_ (u := s) ?_ rfl (.inl rfl)
    exact Keeps.refl _ _
  · refine Keeps.ite ?_ ?_
    · refine Keeps.jrnl_ (u := v5) ?_ rfl (.inl rfl)
      assumption
    · assumption

theorem State.retain_keeps (s) (kind) (key) (bs) : Keeps 549755813952 s (State.retain s kind key bs) := by
  unfold State.retain
  refine Keeps.ite ?_ ?_
  · exact Keeps.refl _ _
  · refine Keeps.jrnl_ (u := s) ?_ rfl (.inr rfl)
    exact Keeps.refl _ _

theorem State.event_keeps (s) (loc) (code) (subject) (data) : Keeps 524480 s (State.event s loc code subject data) := by
  unfold State.event
  extract_lets v2 v3 v4 v5 v6
  clear_value v2 v4
  have hv3 : Keeps 524480 (s) v3 := by
    unfold v3
    refine Keeps.after (State.record_keeps _ _ _ _) rfl ?_
    exact Keeps.refl _ _
  clear_value v3
  have hv5 : Keeps 524480 (s) v5 := by
    unfold v5
    refine Keeps.ite ?_ ?_
    · assumption
    · refine Keeps.after (State.record_keeps _ _ _ _) rfl ?_
      assumption
  clear_value v5
  have hv6 : Keeps 524480 (s) v6 := by
    unfold v6
    refine Keeps.after (State.setPort_keeps _ _ _) rfl ?_
    assumption
  clear_value v6
  refine Keeps.after (State.setPort_keeps _ _ _) rfl ?_
  assumption

theorem State.protocolError_keeps (s) (p) (ch) (w) : Keeps 524480 s (State.protocolError s p ch w) := by
  unfold State.protocolError
  extract_lets v2 v3
  clear_value v2
  have hv3 : Keeps 524480 (s) v3 := by
    unfold v3
    refine Keeps.after (State.setPort_keeps _ _ _) rfl ?_
    exact Keeps.refl _ _
  clear_value v3
  refine Keeps.after (State.event_keeps _ _ _ _ _) rfl ?_
  assumption

theorem State.memoryRecord_keeps (s) (loc) (what) (mem) (word) (count) : Keeps 524352 s (State.memoryRecord s loc what mem word count) := by
  unfold State.memoryRecord
  refine Keeps.after (State.record_keeps _ _ _ _) rfl ?_
  exact Keeps.refl _ _

theorem State.doom_keeps (s) (b) (cause) : Keeps 524288 s (State.doom s b cause) := by
  unfold State.doom
  refine Keeps.wnw_ (u := s) ?_ rfl
  exact Keeps.refl _ _

theorem State.requestEntry_keeps (s) (e) (stamp) (reason) (arg) : Keeps 2048 s (State.requestEntry s e stamp reason arg) := by
  unfold State.requestEntry
  refine Keeps.after (State.updLathe_keeps _ _ _) rfl ?_
  exact Keeps.refl _ _

end Sys2Proof.Machine
end

