-- ==== Sys2Proof/Laws/FramesMotion.lean ====
section
/-! SUPPORT. Frames, one lemma per function: axes, arms, the Tillers and the Mandrel. The mask names the parts a function may change
(`Part.bit`); every other part is as before. -/

namespace Sys2Proof.Machine

theorem State.driveOutputs_keeps (s) : Keeps 4194304 s (State.driveOutputs s) := by
  unfold State.driveOutputs
  extract_lets v2 v3
  have hv2 : ∀ a4 a5 a6, Keeps 4194304 a4 (v2 a4 a5 a6) := by
    intro a4 a5 a6
    unfold v2
    refine Keeps.after (State.updSafeOut_keeps _ _ _) rfl ?_
    exact Keeps.refl _ _
  clear_value v2
  have hv3 : Keeps 4194304 (s) v3 := by
    unfold v3
    refine Keeps.foldl ?_ ?_
    · intro t10 x11
      refine Keeps.ite ?_ ?_
      · refine Keeps.trans ?_ (hv2 _ _ _)
        exact Keeps.refl _ _
      · exact Keeps.refl _ _
    · exact Keeps.refl _ _
  clear_value v3
  refine Keeps.foldl ?_ ?_
  · intro t18 x19
    refine Keeps.ite ?_ ?_
    · refine Keeps.trans ?_ (hv2 _ _ _)
      exact Keeps.refl _ _
    · exact Keeps.refl _ _
  · assumption

theorem State.sendCtrl_keeps (s) (k) : Keeps 138412032 s (State.sendCtrl s k) := by
  unfold State.sendCtrl
  extract_lets v2 v3 v4 v5 v6 v7 v8
  clear_value v2 v3 v4 v5 v6 v7 v8
  refine Keeps.after (State.send_keeps _ _) rfl ?_
  refine Keeps.after (State.setGsrc_keeps _ _ _) rfl ?_
  exact Keeps.refl _ _

theorem State.ctrlUnit_keeps (s) (u) : Keeps 138412032 s (State.ctrlUnit s u) := by
  unfold State.ctrlUnit
  refine Keeps.ite ?_ ?_
  · exact Keeps.refl _ _
  · refine Keeps.foldl ?_ ?_
    · intro t4 x5
      refine Keeps.ite ?_ ?_
      · refine Keeps.after (State.sendCtrl_keeps _ _) rfl ?_
        exact Keeps.refl _ _
      · exact Keeps.refl _ _
    · exact Keeps.refl _ _

theorem State.raiseOne_keeps (s) (u) (cause) (cat) : Keeps 138936512 s (State.raiseOne s u cause cat) := by
  unfold State.raiseOne
  extract_lets v2 v3 v4 v5 v6 v7
  clear_value v2 v3 v4 v5 v6
  have hv7 : Keeps 138936512 (s) v7 := by
    unfold v7
    refine Keeps.after (State.ctrlUnit_keeps _ _) rfl ?_
    refine Keeps.after (State.driveOutputs_keeps _) rfl ?_
    refine Keeps.after (State.setGunit_keeps _ _ _) rfl ?_
    exact Keeps.refl _ _
  clear_value v7
  refine Keeps.ite ?_ ?_
  · exact Keeps.refl _ _
  · refine Keeps.ite ?_ ?_
    · assumption
    · refine Keeps.after (State.event_keeps _ _ _ _ _) rfl ?_
      assumption

theorem State.raiseCause_keeps (s) (u) (cause) (cat) : Keeps 138936512 s (State.raiseCause s u cause cat) := by
  unfold State.raiseCause
  extract_lets v2
  have hv2 : Keeps 138936512 (s) v2 := by
    unfold v2
    refine Keeps.after (State.raiseOne_keeps _ _ _ _) rfl ?_
    exact Keeps.refl _ _
  clear_value v2
  refine Keeps.ite ?_ ?_
  · refine Keeps.foldl ?_ ?_
    · intro t7 x8
      refine Keeps.ite ?_ ?_
      · refine Keeps.after (State.raiseOne_keeps _ _ _ _) rfl ?_
        exact Keeps.refl _ _
      · exact Keeps.refl _ _
    · assumption
  · assumption

theorem State.endOne_keeps (s) (u) (cause) : Keeps 138936512 s (State.endOne s u cause) := by
  unfold State.endOne
  extract_lets v2 v3 v4 v5
  clear_value v2 v3 v4
  have hv5 : Keeps 138936512 (s) v5 := by
    unfold v5
    refine Keeps.after (State.setGunit_keeps _ _ _) rfl ?_
    exact Keeps.refl _ _
  clear_value v5
  refine Keeps.ite ?_ ?_
  · refine Keeps.ite ?_ ?_
    · refine Keeps.after (State.event_keeps _ _ _ _ _) rfl ?_
      refine Keeps.after (State.ctrlUnit_keeps _ _) rfl ?_
      refine Keeps.after (State.driveOutputs_keeps _) rfl ?_
      assumption
    · assumption
  · exact Keeps.refl _ _

theorem State.endCause_keeps (s) (u) (cause) : Keeps 138936512 s (State.endCause s u cause) := by
  unfold State.endCause
  extract_lets v2
  have hv2 : Keeps 138936512 (s) v2 := by
    unfold v2
    refine Keeps.after (State.endOne_keeps _ _ _) rfl ?_
    exact Keeps.refl _ _
  clear_value v2
  refine Keeps.ite ?_ ?_
  · refine Keeps.foldl ?_ ?_
    · intro t7 x8
      extract_lets v10
      clear_value v10
      refine Keeps.ite ?_ ?_
      · refine Keeps.after (State.endOne_keeps _ _ _) rfl ?_
        exact Keeps.refl _ _
      · exact Keeps.refl _ _
    · assumption
  · assumption

theorem State.raiseAll_keeps (s) (cause) (cat) : Keeps 138936512 s (State.raiseAll s cause cat) := by
  unfold State.raiseAll
  refine Keeps.foldl ?_ ?_
  · intro t2 x3
    refine Keeps.after (State.raiseOne_keeps _ _ _ _) rfl ?_
    exact Keeps.refl _ _
  · exact Keeps.refl _ _

theorem State.glumeFault_keeps (s) (which) : Keeps 138936512 s (State.glumeFault s which) := by
  unfold State.glumeFault
  extract_lets v2 v3
  have hv3 : Keeps 138936512 (s) v3 := by
    unfold v3
    refine Keeps.glume_ (u := s) ?_ rfl (.inl rfl) (.inl rfl)
    exact Keeps.refl _ _
  clear_value v3
  refine Keeps.after (State.raiseAll_keeps _ _ _) rfl ?_
  assumption

theorem State.endHoming_keeps (s) (a) (code) : Keeps 1573057 s (State.endHoming s a code) := by
  unfold State.endHoming
  extract_lets v2 v3
  clear_value v2 v3
  split
  · rename_i z5 z6
    exact Keeps.refl _ _
  · rename_i z8 z9 z10
    extract_lets v12 v13 v14
    clear_value v12
    have hv13 : Keeps 1573057 (s) v13 := by
      unfold v13
      refine Keeps.after (State.setAxis_keeps _ _ _) rfl ?_
      exact Keeps.refl _ _
    clear_value v13
    have hv14 : Keeps 1573057 (s) v14 := by
      unfold v14
      refine Keeps.after (State.updCap_keeps _ _ _) rfl ?_
      assumption
    clear_value v14
    refine Keeps.after (State.event_keeps _ _ _ _ _) rfl ?_
    assumption

theorem State.axisFault_keeps (s) (a) (code) : Keeps 139985089 s (State.axisFault s a code) := by
  unfold State.axisFault
  extract_lets v2 v3 v4 v5 v6
  clear_value v2 v3
  have hv4 : Keeps 139985089 (s) v4 := by
    unfold v4
    refine Keeps.after (State.setAxis_keeps _ _ _) rfl ?_
    exact Keeps.refl _ _
  clear_value v4
  have hv5 : Keeps 139985089 (s) v5 := by
    unfold v5
    refine Keeps.after (State.endHoming_keeps _ _ _) rfl ?_
    assumption
  clear_value v5
  have hv6 : Keeps 139985089 (s) v6 := by
    unfold v6
    refine Keeps.after (State.event_keeps _ _ _ _ _) rfl ?_
    assumption
  clear_value v6
  refine Keeps.ite ?_ ?_
  · exact Keeps.refl _ _
  · split
    · rename_i z16 z17 z18
      refine Keeps.after (State.raiseCause_keeps _ _ _ _) rfl ?_
      assumption
    · rename_i z21 z22
      refine Keeps.after (State.updAxis_keeps _ _ _) rfl ?_
      assumption

theorem countFwdLate_keeps (a) (x) (s) : Keeps 16777216 s (countFwdLate a x s) := by
  unfold countFwdLate
  refine Keeps.ite ?_ ?_
  · refine Keeps.pair_ (u := s) ?_ rfl
    exact Keeps.refl _ _
  · exact Keeps.refl _ _

theorem finish_keeps (s) (a) (e) (x) (place) (stall) : Keeps 1048578 s (finish s a e x place stall) := by
  unfold finish
  extract_lets v2 v3 v4 v5 v6 v7
  clear_value v2 v3 v4
  have hv5 : Keeps 1048578 (s) v5 := by
    unfold v5
    refine Keeps.after (State.setAxis_keeps _ _ _) rfl ?_
    exact Keeps.refl _ _
  clear_value v5
  have hv7 : Keeps 1048578 (s) v7 := by
    unfold v7
    refine Keeps.cell_ (u := v5) ?_ rfl (.inl rfl) (.inl rfl) (.inl rfl) (.inl rfl)
    assumption
  clear_value v7
  refine Keeps.after (State.updTiller_keeps _ _ _) rfl ?_
  assumption

theorem tillerUpdate_keeps (a) (entryBad) (recordBad) (ecc) (s) : Keeps 156762307 s (tillerUpdate a entryBad recordBad ecc s) := by
  unfold tillerUpdate
  extract_lets v2 v3
  clear_value v2 v3
  split
  · rename_i z5 z6
    exact Keeps.refl _ _
  · rename_i z8 z9 z10 z11
    refine Keeps.ite ?_ ?_
    · exact Keeps.refl _ _
    · extract_lets v15 v16 v17 v18 v19 v20 v21 v22 v23 v24 v25 v26
      clear_value v16 v19 v20 v21 v22 v23 v24 v25 v26
      have hv15 : Keeps 156762307 (s) v15 := by
        unfold v15
        refine Keeps.after (State.updTiller_keeps _ _ _) rfl ?_
        exact Keeps.refl _ _
      clear_value v15
      have hv17 : Keeps 156762307 (s) v17 := by
        unfold v17
        refine Keeps.after (State.advanceTo_keeps _ _) rfl ?_
        assumption
      clear_value v17
      have hv18 : Keeps 156762307 (s) v18 := by
        unfold v18
        refine Keeps.after (countFwdLate_keeps _ _ _) rfl ?_
        assumption
      clear_value v18
      refine Keeps.ite ?_ ?_
      · assumption
      · refine Keeps.ite ?_ ?_
        · refine Keeps.after (State.axisFault_keeps _ _ _) rfl ?_
          refine Keeps.after (finish_keeps _ _ _ _ _ _) rfl ?_
          assumption
        · split
          · rename_i z40 z41 z42
            refine Keeps.after (State.axisFault_keeps _ _ _) rfl ?_
            refine Keeps.after (finish_keeps _ _ _ _ _ _) rfl ?_
            assumption
          · rename_i z46 z47 z48 z49
            extract_lets v51 v52 v53
            clear_value v51 v52 v53
            split
            · rename_i z55 z56
              refine Keeps.after (State.axisFault_keeps _ _ _) rfl ?_
              refine Keeps.after (finish_keeps _ _ _ _ _ _) rfl ?_
              assumption
            · rename_i z60 z61 z62
              extract_lets v64 v65 v66 v67
              clear_value v64 v65
              have hv66 : Keeps 156762307 (s) v66 := by
                unfold v66
                refine Keeps.after (finish_keeps _ _ _ _ _ _) rfl ?_
                assumption
              clear_value v66
              have hv67 : Keeps 156762307 (s) v67 := by
                unfold v67
                refine Keeps.ite ?_ ?_
                · refine Keeps.after (State.axisFault_keeps _ _ _) rfl ?_
                  assumption
                · refine Keeps.ite ?_ ?_
                  · refine Keeps.after (State.axisFault_keeps _ _ _) rfl ?_
                    assumption
                  · assumption
              clear_value v67
              refine Keeps.after (State.updAxis_keeps _ _ _) rfl ?_
              assumption

theorem tillerWatchdog_keeps (n) (s) : Keeps 1572864 s (tillerWatchdog n s) := by
  unfold tillerWatchdog
  refine Keeps.after (State.doom_keeps _ _ _) rfl ?_
  refine Keeps.after (State.updTiller_keeps _ _ _) rfl ?_
  exact Keeps.refl _ _

theorem State.setGen_keeps (s) (o) (g) (b) : Keeps 1048576 s (State.setGen s o g b) := by
  unfold State.setGen
  refine Keeps.ite ?_ ?_
  · refine Keeps.after (State.updAxis_keeps _ _ _) rfl ?_
    exact Keeps.refl _ _
  · refine Keeps.after (State.updArm_keeps _ _ _) rfl ?_
    exact Keeps.refl _ _

theorem State.updGen_keeps (s) (o) (f) : Keeps 1048576 s (State.updGen s o f) := by
  unfold State.updGen
  refine Keeps.after (State.setGen_keeps _ _ _ _) rfl ?_
  exact Keeps.refl _ _

theorem State.updQueues_keeps (s) (o) (f) : Keeps 1048576 s (State.updQueues s o f) := by
  unfold State.updQueues
  refine Keeps.foldl ?_ ?_
  · intro t2 x3
    refine Keeps.after (State.updAxis_keeps _ _ _) rfl ?_
    exact Keeps.refl _ _
  · exact Keeps.refl _ _

theorem blendStep_keeps (o) (s) : Keeps 270008512 s (blendStep o s) := by
  unfold blendStep
  extract_lets v2 v3
  clear_value v2
  have hv3 : Keeps 270008512 (s) v3 := by
    unfold v3
    refine Keeps.after (State.updGen_keeps _ _ _) rfl ?_
    exact Keeps.refl _ _
  clear_value v3
  split
  · rename_i z7 z8 z9 z10 z11 z12 z13 z14 z15 z16
    extract_lets v18 v19
    clear_value v18 v19
    refine Keeps.ite ?_ ?_
    · exact Keeps.refl _ _
    · split
      · rename_i z23 z24
        refine Keeps.after (State.event_keeps _ _ _ _ _) rfl ?_
        assumption
      · rename_i z27 z28 z29 z30
        split
        · rename_i z32 z33 z34 z35
          refine Keeps.ite ?_ ?_
          · assumption
          · extract_lets v39 v40
            clear_value v40
            have hv39 : Keeps 270008512 (s) v39.2 := by
              unfold v39
              refine Keeps.after (State.freeBelow_keeps _ _) rfl ?_
              assumption
            clear_value v39
            refine Keeps.after (State.updGen_keeps _ _ _) rfl ?_
            assumption
        · rename_i z45 z46
          assumption
  · rename_i z48 z49
    exact Keeps.refl _ _

theorem beginNext_keeps (o) (s) : Keeps 269484032 s (beginNext o s) := by
  unfold beginNext
  extract_lets v2
  clear_value v2
  split
  · rename_i z4 z5
    exact Keeps.refl _ _
  · rename_i z7 z8 z9 z10
    refine Keeps.ite ?_ ?_
    · exact Keeps.refl _ _
    · extract_lets v14 v15 v16
      clear_value v14 v15
      have hv16 : Keeps 269484032 (s) v16 := by
        unfold v16
        refine Keeps.ite ?_ ?_
        · exact Keeps.refl _ _
        · refine Keeps.freeCount_ (u := s) ?_ rfl
          exact Keeps.refl _ _
      clear_value v16
      refine Keeps.after (State.setGen_keeps _ _ _ _) rfl ?_
      assumption

theorem pathStop_keeps (n) (code) (s) : Keeps 1573056 s (pathStop n code s) := by
  unfold pathStop
  extract_lets v2 v3
  have hv2 : Keeps 1573056 (s) v2 := by
    unfold v2
    refine Keeps.after (State.updGen_keeps _ _ _) rfl ?_
    exact Keeps.refl _ _
  clear_value v2
  have hv3 : Keeps 1573056 (s) v3 := by
    unfold v3
    refine Keeps.after (State.updArm_keeps _ _ _) rfl ?_
    assumption
  clear_value v3
  refine Keeps.after (State.event_keeps _ _ _ _ _) rfl ?_
  assumption

theorem State.pushEntries_keeps (s) (o) (before) (gen) (es) : Keeps 1048576 s (State.pushEntries s o before gen es) := by
  unfold State.pushEntries
  extract_lets v2
  have hv2 : Keeps 1048576 (s) v2 := by
    unfold v2
    refine Keeps.after (State.updQueues_keeps _ _ _) rfl ?_
    exact Keeps.refl _ _
  clear_value v2
  refine Keeps.after (State.setGen_keeps _ _ _ _) rfl ?_
  assumption

theorem State.freeEntry_keeps (s) (e) : Keeps 268435456 s (State.freeEntry s e).2 := by
  unfold State.freeEntry
  split
  rename_i z2 z3 z4 z5
  split
  rename_i z7 z8 z9 z10
  split
  rename_i z12 z13 z14 z15
  refine Keeps.mk2 ?_
  refine Keeps.snd_eq z15 ?_
  refine Keeps.after (State.freeSigned_keeps _) rfl ?_
  refine Keeps.snd_eq z10 ?_
  refine Keeps.after (State.freeSigned_keeps _) rfl ?_
  refine Keeps.snd_eq z5 ?_
  refine Keeps.after (State.freeSigned_keeps _) rfl ?_
  exact Keeps.refl _ _

theorem State.jointTorque_keeps (s) (n) (a) (e) : Keeps 269484032 s (State.jointTorque s n a e).2 := by
  unfold State.jointTorque
  refine Keeps.ite2 ?_ ?_
  · refine Keeps.mk2 ?_
    exact Keeps.refl _ _
  · split
    rename_i z5 z6 z7 z8
    extract_lets v10 v11
    clear_value v10 v11
    refine Keeps.mk2 ?_
    refine Keeps.ite ?_ ?_
    · refine Keeps.snd_eq z8 ?_
      refine Keeps.after (State.freeSigned_keeps _) rfl ?_
      exact Keeps.refl _ _
    · refine Keeps.after (State.updArm_keeps _ _ _) rfl ?_
      refine Keeps.snd_eq z8 ?_
      refine Keeps.after (State.freeSigned_keeps _) rfl ?_
      exact Keeps.refl _ _

theorem stageOne_keeps (o) (s) : Keeps 270008512 s (stageOne o s) := by
  unfold stageOne
  extract_lets v2 v3 v4 v5 v6 v7 v8
  clear_value v2 v3 v4 v5 v6 v7 v8
  refine Keeps.ite ?_ ?_
  · split
    · rename_i z11 z12 z13
      split
      · rename_i z15 z16
        exact Keeps.refl _ _
      · rename_i z18 z19 z20 z21
        refine Keeps.after (State.pushEntries_keeps _ _ _ _ _) rfl ?_
        exact Keeps.refl _ _
    · rename_i z24 z25
      split
      rename_i z27 z28 z29 z30
      extract_lets v32
      clear_value v32
      split
      rename_i z34 z35 z36 z37
      refine Keeps.after (State.pushEntries_keeps _ _ _ _ _) rfl ?_
      exact Keeps.refl _ _
  · split
    rename_i z41 z42 z43 z44
    extract_lets v46 v47
    clear_value v46 v47
    split
    rename_i z49 z50 z51 z52
    extract_lets v54 v55 v56 v57
    clear_value v56
    have hv54 : Keeps 270008512 (s) v54 := by
      unfold v54
      refine Keeps.ite ?_ ?_
      · refine Keeps.after (State.updArm_keeps _ _ _) rfl ?_
        refine Keeps.snd_eq z52 ?_
        refine Keeps.ite2 ?_ ?_
        · refine Keeps.after (State.freeBelow_keeps _ _) rfl ?_
          exact Keeps.refl _ _
        · refine Keeps.mk2 ?_
          exact Keeps.refl _ _
      · refine Keeps.snd_eq z52 ?_
        refine Keeps.ite2 ?_ ?_
        · refine Keeps.after (State.freeBelow_keeps _ _) rfl ?_
          exact Keeps.refl _ _
        · refine Keeps.mk2 ?_
          exact Keeps.refl _ _
    clear_value v54
    have hv55 : Keeps 270008512 (s) v55.2 := by
      unfold v55
      refine Keeps.foldl2 ?_ ?_
      · intro t73 x74
        split
        rename_i z76 z77 z78 z79
        split
        rename_i z81 z82 z83 z84
        refine Keeps.mk2 ?_
        refine Keeps.snd_eq z84 ?_
        refine Keeps.after (State.jointTorque_keeps _ _ _ _) rfl ?_
        refine Keeps.snd_eq z79 ?_
        refine Keeps.ite2 ?_ ?_
        · refine Keeps.after (State.freeEntry_keeps _ _) rfl ?_
          exact Keeps.refl _ _
        · refine Keeps.mk2 ?_
          exact Keeps.refl _ _
      · refine Keeps.mk2 ?_
        assumption
    clear_value v55
    have hv57 : Keeps 270008512 (s) v57 := by
      unfold v57
      refine Keeps.after (State.pushEntries_keeps _ _ _ _ _) rfl ?_
      assumption
    clear_value v57
    split
    · rename_i z99
      refine Keeps.after (pathStop_keeps _ _ _) rfl ?_
      assumption
    · rename_i z102
      refine Keeps.after (pathStop_keeps _ _ _) rfl ?_
      assumption
    · rename_i z105
      refine Keeps.after (State.event_keeps _ _ _ _ _) rfl ?_
      refine Keeps.after (State.updGen_keeps _ _ _) rfl ?_
      assumption
    · rename_i z109 z110 z111 z112
      assumption

theorem State.claimMsg_keeps (s) (m) : Keeps 10485760 s (State.claimMsg s m) := by
  unfold State.claimMsg
  refine Keeps.ite ?_ ?_
  · exact Keeps.refl _ _
  · extract_lets v4 v5 v6 v7
    clear_value v4
    have hv6 : Keeps 10485760 (s) v6 := by
      unfold v6
      refine Keeps.claim_ (u := s) ?_ rfl
      exact Keeps.refl _ _
    refine Keeps.ite ?_ ?_
    · assumption
    · refine Keeps.fab_ (u := v6) ?_ rfl
      assumption

theorem withdrawClaims_keeps (n) (stop) (s) : Keeps 10485760 s (withdrawClaims n stop s) := by
  unfold withdrawClaims
  extract_lets v2 v3 v4 v5
  clear_value v2 v3
  have hv5 : Keeps 10485760 (s) v5 := by
    unfold v5
    refine Keeps.claim_ (u := s) ?_ rfl
    exact Keeps.refl _ _
  clear_value v5
  refine Keeps.foldl ?_ ?_
  · intro t9 x10
    refine Keeps.ite ?_ ?_
    · refine Keeps.after (State.claimMsg_keeps _ _) rfl ?_
      exact Keeps.refl _ _
    · refine Keeps.ite ?_ ?_
      · refine Keeps.foldl ?_ ?_
        · intro t16 x17
          refine Keeps.ite ?_ ?_
          · exact Keeps.refl _ _
          · refine Keeps.after (State.claimMsg_keeps _ _) rfl ?_
            exact Keeps.refl _ _
        · exact Keeps.refl _ _
      · exact Keeps.refl _ _
  · assumption

theorem stageUpTo_keeps (o) (x1) (x2) : Keeps 272105664 x2 (stageUpTo o x1 x2) := by
  induction x1 generalizing o x2
  · unfold stageUpTo
    exact Keeps.refl _ _
  · rename_i z2 z3
    unfold stageUpTo
    refine Keeps.ite ?_ ?_
    · exact Keeps.refl _ _
    · extract_lets v7 v8 v9 v10 v11 v12 v13 v14
      clear_value v7 v8
      have hv9 : Keeps 272105664 (x2) v9 := by
        unfold v9
        refine Keeps.after (State.updGen_keeps _ _ _) rfl ?_
        exact Keeps.refl _ _
      clear_value v9
      have hv10 : Keeps 272105664 (x2) v10 := by
        unfold v10
        refine Keeps.after (State.updArm_keeps _ _ _) rfl ?_
        assumption
      clear_value v10
      have hv11 : Keeps 272105664 (x2) v11 := by
        unfold v11
        refine Keeps.after (State.updClaimCount_keeps _ _ _) rfl ?_
        assumption
      clear_value v11
      have hv12 : Keeps 272105664 (x2) v12 := by
        unfold v12
        refine Keeps.after (State.event_keeps _ _ _ _ _) rfl ?_
        assumption
      clear_value v12
      have hv13 : Keeps 272105664 (x2) v13 := by
        unfold v13
        refine Keeps.after (beginNext_keeps _ _) rfl ?_
        refine Keeps.ite ?_ ?_
        · refine Keeps.after (blendStep_keeps _ _) rfl ?_
          exact Keeps.refl _ _
        · exact Keeps.refl _ _
      clear_value v13
      have hv14 : Keeps 272105664 (x2) v14 := by
        unfold v14
        refine Keeps.after (stageOne_keeps _ _) rfl ?_
        assumption
      clear_value v14
      refine Keeps.ite ?_ ?_
      · refine Keeps.ite ?_ ?_
        · refine Keeps.trans ?_ (z3 _ _)
          refine Keeps.after (stageOne_keeps _ _) rfl ?_
          exact Keeps.refl _ _
        · refine Keeps.ite ?_ ?_
          · exact Keeps.refl _ _
          · refine Keeps.trans ?_ (z3 _ _)
            refine Keeps.after (stageOne_keeps _ _) rfl ?_
            assumption
      · refine Keeps.ite ?_ ?_
        · assumption
        · refine Keeps.trans ?_ (z3 _ _)
          assumption

theorem adoptAxis_keeps (o) (a) (s) : Keeps 1048576 s (adoptAxis o a s) := by
  unfold adoptAxis
  extract_lets v2 v3 v4 v5
  clear_value v2 v3 v4 v5
  split
  · rename_i z7 z8
    exact Keeps.refl _ _
  · rename_i z10 z11 z12
    refine Keeps.ite ?_ ?_
    · exact Keeps.refl _ _
    · extract_lets v16 v17 v18
      clear_value v16 v17
      have hv18 : Keeps 1048576 (s) v18 := by
        unfold v18
        refine Keeps.after (State.setGen_keeps _ _ _ _) rfl ?_
        exact Keeps.refl _ _
      clear_value v18
      refine Keeps.after (State.updAxis_keeps _ _ _) rfl ?_
      assumption

theorem adoptAll_keeps (o) (s) : Keeps 1048576 s (adoptAll o s) := by
  unfold adoptAll
  refine Keeps.foldl ?_ ?_
  · intro t2 x3
    refine Keeps.after (adoptAxis_keeps _ _ _) rfl ?_
    exact Keeps.refl _ _
  · exact Keeps.refl _ _

theorem stageOwner_keeps (o) (s) : Keeps 272105664 s (stageOwner o s) := by
  unfold stageOwner
  extract_lets v2 v3
  clear_value v3
  have hv2 : Keeps 272105664 (s) v2 := by
    unfold v2
    refine Keeps.after (adoptAll_keeps _ _) rfl ?_
    exact Keeps.refl _ _
  clear_value v2
  refine Keeps.after (stageUpTo_keeps _ _ _) rfl ?_
  assumption

theorem loseMaster_keeps (a) (s) : Keeps 1573056 s (loseMaster a s) := by
  unfold loseMaster
  extract_lets v2 v3 v4 v5
  clear_value v2 v3 v4 v5
  split
  · rename_i z7 z8
    exact Keeps.refl _ _
  · rename_i z10 z11 z12
    refine Keeps.ite ?_ ?_
    · exact Keeps.refl _ _
    · extract_lets v16 v17 v18 v19 v20
      clear_value v16 v17 v18 v19
      have hv20 : Keeps 1573056 (s) v20 := by
        unfold v20
        refine Keeps.after (State.setAxis_keeps _ _ _) rfl ?_
        exact Keeps.refl _ _
      clear_value v20
      refine Keeps.after (State.event_keeps _ _ _ _ _) rfl ?_
      assumption

theorem mandrelPass_keeps (s) : Keeps 272105664 s (mandrelPass s) := by
  unfold mandrelPass
  refine Keeps.foldl ?_ ?_
  · intro t2 x3
    refine Keeps.ite ?_ ?_
    · exact Keeps.refl _ _
    · refine Keeps.after (stageOwner_keeps _ _) rfl ?_
      refine Keeps.ite ?_ ?_
      · refine Keeps.after (loseMaster_keeps _ _) rfl ?_
        exact Keeps.refl _ _
      · exact Keeps.refl _ _
  · exact Keeps.refl _ _

theorem State.freeQueue_keeps (s) (a) (i) : Keeps 269484032 s (State.freeQueue s a i) := by
  unfold State.freeQueue
  extract_lets v2 v3
  clear_value v2
  have hv3 : Keeps 269484032 (s) v3.2 := by
    unfold v3
    refine Keeps.foldl2 ?_ ?_
    · intro t5 x6
      split
      rename_i z8 z9 z10 z11
      refine Keeps.mk2 ?_
      refine Keeps.snd_eq z11 ?_
      refine Keeps.after (State.freeEntry_keeps _ _) rfl ?_
      exact Keeps.refl _ _
    · refine Keeps.mk2 ?_
      exact Keeps.refl _ _
  clear_value v3
  refine Keeps.after (State.updAxis_keeps _ _ _) rfl ?_
  assumption

theorem State.rewriteFrom_keeps (s) (o) (i) (l) (gen) : Keeps 269484032 s (State.rewriteFrom s o i l gen) := by
  unfold State.rewriteFrom
  extract_lets v2 v3
  have hv2 : Keeps 269484032 (s) v2 := by
    unfold v2
    refine Keeps.after (State.updQueues_keeps _ _ _) rfl ?_
    exact Keeps.refl _ _
  clear_value v2
  have hv3 : Keeps 269484032 (s) v3 := by
    unfold v3
    refine Keeps.ite ?_ ?_
    · refine Keeps.foldl ?_ ?_
      · intro t8 x9
        refine Keeps.after (State.freeQueue_keeps _ _ _) rfl ?_
        exact Keeps.refl _ _
      · assumption
    · assumption
  clear_value v3
  refine Keeps.after (State.setGen_keeps _ _ _ _) rfl ?_
  assumption

theorem replan_keeps (o) (plan) (halt) (s) : Keeps 269484032 s (replan o plan halt s) := by
  unfold replan
  extract_lets v2 v3 v4 v5 v6 v7 v8 v9 v10 v11 v12 v13 v14 v15 v16
  clear_value v3 v4 v5 v6 v7 v8 v9 v10 v11 v12 v13 v15 v16
  have hv2 : Keeps 269484032 (s) v2 := by
    unfold v2
    refine Keeps.after (adoptAll_keeps _ _) rfl ?_
    exact Keeps.refl _ _
  clear_value v2
  have hv14 : Keeps 269484032 (s) v14 := by
    unfold v14
    refine Keeps.after (State.updQueues_keeps _ _ _) rfl ?_
    assumption
  clear_value v14
  refine Keeps.ite ?_ ?_
  · refine Keeps.after (State.rewriteFrom_keeps _ _ _ _ _) rfl ?_
    assumption
  · refine Keeps.ite ?_ ?_
    · refine Keeps.after (State.setGen_keeps _ _ _ _) rfl ?_
      assumption
    · refine Keeps.after (State.rewriteFrom_keeps _ _ _ _ _) rfl ?_
      assumption

theorem publish_keeps (o) (n) (s) : Keeps 1048576 s (publish o n s) := by
  unfold publish
  refine Keeps.after (State.updQueues_keeps _ _ _) rfl ?_
  exact Keeps.refl _ _

theorem clearAux_keeps (o) (s) : Keeps 1048576 s (clearAux o s) := by
  unfold clearAux
  extract_lets v2
  clear_value v2
  refine Keeps.after (publish_keeps _ _ _) rfl ?_
  exact Keeps.refl _ _

theorem clearanceStop_keeps (o) (s) : Keeps 270008512 s (clearanceStop o s) := by
  unfold clearanceStop
  extract_lets v2 v3 v4
  clear_value v2 v3
  have hv4 : Keeps 270008512 (s) v4 := by
    unfold v4
    refine Keeps.after (replan_keeps _ _ _ _) rfl ?_
    exact Keeps.refl _ _
  clear_value v4
  refine Keeps.ite ?_ ?_
  · exact Keeps.refl _ _
  · refine Keeps.ite ?_ ?_
    · refine Keeps.after (State.event_keeps _ _ _ _ _) rfl ?_
      refine Keeps.after (State.updArm_keeps _ _ _) rfl ?_
      assumption
    · assumption

theorem deliverFactor_keeps (o) (f) (s) : Keeps 1573056 s (deliverFactor o f s) := by
  unfold deliverFactor
  extract_lets v2 v3 v4 v5 v6 v7 v8 v9 v10
  clear_value v2 v3 v4 v5 v8
  have hv6 : Keeps 1573056 (s) v6 := by
    unfold v6
    refine Keeps.after (State.updQueues_keeps _ _ _) rfl ?_
    exact Keeps.refl _ _
  clear_value v6
  have hv7 : Keeps 1573056 (s) v7 := by
    unfold v7
    refine Keeps.after (State.setGen_keeps _ _ _ _) rfl ?_
    assumption
  clear_value v7
  have hv9 : Keeps 1573056 (s) v9 := by
    unfold v9
    refine Keeps.after (State.updQueues_keeps _ _ _) rfl ?_
    exact Keeps.refl _ _
  clear_value v9
  have hv10 : Keeps 1573056 (s) v10 := by
    unfold v10
    refine Keeps.after (State.setGen_keeps _ _ _ _) rfl ?_
    assumption
  clear_value v10
  refine Keeps.ite ?_ ?_
  · refine Keeps.ite ?_ ?_
    · refine Keeps.after (State.event_keeps _ _ _ _ _) rfl ?_
      refine Keeps.after (State.updArm_keeps _ _ _) rfl ?_
      assumption
    · assumption
  · refine Keeps.ite ?_ ?_
    · exact Keeps.refl _ _
    · refine Keeps.ite ?_ ?_
      · refine Keeps.after (State.updArm_keeps _ _ _) rfl ?_
        assumption
      · assumption

theorem tested_keeps {m : Nat} {b s : State} {ts : List Test} {k : State × Reply} (hs : Keeps m b s) (h : Keeps m b k.1) :
    Keeps m b (tested s ts k).1 := by
  unfold tested
  split
  · exact hs
  · exact h

theorem okReply_keeps (s) : Keeps 0 s (okReply s).1 := by
  unfold okReply
  refine Keeps.mk1 ?_
  exact Keeps.refl _ _

theorem dataReply_keeps (s) (bs) : Keeps 0 s (dataReply s bs).1 := by
  unfold dataReply
  refine Keeps.mk1 ?_
  exact Keeps.refl _ _

theorem warnReply_keeps (s) (code) (detail) : Keeps 0 s (warnReply s code detail).1 := by
  unfold warnReply
  refine Keeps.mk1 ?_
  exact Keeps.refl _ _

theorem State.answer_keeps (s) (h) (code) (a) (r) : Keeps 128 s (State.answer s h code a r) := by
  unfold State.answer
  extract_lets v2 v3 v4
  clear_value v2 v3
  refine Keeps.host_ (u := s) ?_ rfl
  exact Keeps.refl _ _

theorem commitHost_keeps {m code : Nat} {run : Hdr → List Byte → State → State × Reply} {h : Hdr} {a : List Byte} {s : State}
    (hm : 128 ||| m = m) (hr : Keeps m s (run h a s).1) : Res m s (commitHost code run h a s) := by
  unfold commitHost
  exact Res.next (Keeps.after (State.answer_keeps _ _ _ _ _) hm hr)

theorem State.putPhase_keeps (s) (i) (p) : Keeps 1048576 s (State.putPhase s i p) := by
  unfold State.putPhase
  extract_lets v2
  have hv2 : Keeps 1048576 (s) v2 := by
    unfold v2
    refine Keeps.foldl ?_ ?_
    · intro t4 x5
      refine Keeps.after (State.updAxis_keeps _ _ _) rfl ?_
      exact Keeps.refl _ _
    · exact Keeps.refl _ _
  clear_value v2
  split
  · rename_i z10 z11 z12
    extract_lets v14
    have hv14 : Keeps 1048576 (s) v14 := by
      unfold v14
      refine Keeps.foldl ?_ ?_
      · intro t16 x17
        refine Keeps.after (State.updAxis_keeps _ _ _) rfl ?_
        exact Keeps.refl _ _
      · assumption
    clear_value v14
    refine Keeps.after (State.updArm_keeps _ _ _) rfl ?_
    assumption
  · rename_i z23 z24
    assumption

theorem State.placeItem_keeps (s) (others) (i) : Keeps 1048576 s (State.placeItem s others i) := by
  unfold State.placeItem
  extract_lets v2
  clear_value v2
  refine Keeps.ite ?_ ?_
  · refine Keeps.after (State.putPhase_keeps _ _ _) rfl ?_
    exact Keeps.refl _ _
  · refine Keeps.after (State.putPhase_keeps _ _ _) rfl ?_
    exact Keeps.refl _ _

theorem State.placeAll_keeps (s) : Keeps 1048576 s (State.placeAll s) := by
  unfold State.placeAll
  refine Keeps.foldl1 ?_ ?_
  · intro t2 x3
    refine Keeps.mk1 ?_
    refine Keeps.after (State.placeItem_keeps _ _ _) rfl ?_
    exact Keeps.refl _ _
  · refine Keeps.mk1 ?_
    exact Keeps.refl _ _

theorem State.placeAxis_keeps (s) (a) : Keeps 1048576 s (State.placeAxis s a) := by
  unfold State.placeAxis
  split
  · rename_i z2 z3
    exact Keeps.refl _ _
  · rename_i z5 z6 z7
    refine Keeps.after (State.placeItem_keeps _ _ _) rfl ?_
    exact Keeps.refl _ _

theorem runAxisBind_keeps (h) (a) (s) : Keeps 1048576 s (runAxisBind h a s).1 := by
  unfold runAxisBind
  extract_lets v2 v3 v4 v5 v6 v7 v8
  clear_value v2 v3 v4 v5 v6
  have hv7 : Keeps 1048576 (s) v7 := by
    unfold v7
    refine Keeps.after (State.setAxis_keeps _ _ _) rfl ?_
    exact Keeps.refl _ _
  clear_value v7
  have hv8 : Keeps 1048576 (s) v8 := by
    unfold v8
    refine Keeps.ite ?_ ?_
    · refine Keeps.after (State.placeAxis_keeps _ _) rfl ?_
      assumption
    · assumption
  clear_value v8
  refine tested_keeps ?_ ?_
  · exact Keeps.refl _ _
  · refine Keeps.after (okReply_keeps _) rfl ?_
    assumption

theorem runAxisConfig_keeps (h) (a) (s) : Keeps 1048576 s (runAxisConfig h a s).1 := by
  unfold runAxisConfig
  extract_lets v2 v3 v4 v5 v6 v7 v8 v9 v10 v11 v12 v13 v14 v15 v16 v17 v18 v19 v20 v21
  clear_value v2 v3 v4 v5 v6 v7 v8 v9 v10 v11 v12 v13 v14 v15 v16 v17 v18 v19
  have hv20 : Keeps 1048576 (s) v20 := by
    unfold v20
    refine Keeps.after (State.setAxis_keeps _ _ _) rfl ?_
    exact Keeps.refl _ _
  clear_value v20
  have hv21 : Keeps 1048576 (s) v21 := by
    unfold v21
    refine Keeps.ite ?_ ?_
    · refine Keeps.after (State.placeAxis_keeps _ _) rfl ?_
      assumption
    · assumption
  clear_value v21
  refine tested_keeps ?_ ?_
  · exact Keeps.refl _ _
  · refine Keeps.after (okReply_keeps _) rfl ?_
    assumption

theorem softStop_keeps (o) (ax) (s) : Keeps 270008512 s (softStop o ax s) := by
  unfold softStop
  extract_lets v2 v3 v4
  clear_value v2 v3 v4
  split
  · rename_i z6 z7
    exact Keeps.refl _ _
  · rename_i z9 z10 z11
    refine Keeps.ite ?_ ?_
    · exact Keeps.refl _ _
    · extract_lets v15 v16 v17 v18 v19 v20 v21 v22 v23 v24 v25 v26
      clear_value v15 v16 v17 v18 v19 v20 v21 v22 v23 v24 v26
      have hv25 : Keeps 270008512 (s) v25 := by
        unfold v25
        refine Keeps.after (replan_keeps _ _ _ _) rfl ?_
        exact Keeps.refl _ _
      clear_value v25
      refine Keeps.ite ?_ ?_
      · exact Keeps.refl _ _
      · refine Keeps.ite ?_ ?_
        · refine Keeps.after (State.event_keeps _ _ _ _ _) rfl ?_
          refine Keeps.after (replan_keeps _ _ _ _) rfl ?_
          exact Keeps.refl _ _
        · refine Keeps.ite ?_ ?_
          · refine Keeps.after (State.event_keeps _ _ _ _ _) rfl ?_
            refine Keeps.after (State.updAxis_keeps _ _ _) rfl ?_
            assumption
          · refine Keeps.after (State.event_keeps _ _ _ _ _) rfl ?_
            assumption

theorem slowTo_keeps (o) (ax) (s) : Keeps 269484032 s (slowTo o ax s).1 := by
  unfold slowTo
  extract_lets v2 v3 v4 v5 v6
  clear_value v2 v3 v4 v5 v6
  refine Keeps.ite1 ?_ ?_
  · refine Keeps.mk1 ?_
    exact Keeps.refl _ _
  · refine Keeps.mk1 ?_
    refine Keeps.after (replan_keeps _ _ _ _) rfl ?_
    exact Keeps.refl _ _

theorem runAxisSetLimits_keeps (h) (a) (s) : Keeps 270008512 s (runAxisSetLimits h a s).1 := by
  unfold runAxisSetLimits
  extract_lets v2 v3 v4 v5 v6 v7
  clear_value v2 v3 v4
  have hv5 : Keeps 270008512 (s) v5 := by
    unfold v5
    refine Keeps.after (State.setAxis_keeps _ _ _) rfl ?_
    exact Keeps.refl _ _
  clear_value v5
  have hv6 : Keeps 270008512 (s) v6.1 := by
    unfold v6
    refine Keeps.after (slowTo_keeps _ _ _) rfl ?_
    assumption
  clear_value v6
  have hv7 : Keeps 270008512 (s) v7 := by
    unfold v7
    refine Keeps.after (softStop_keeps _ _ _) rfl ?_
    assumption
  clear_value v7
  refine tested_keeps ?_ ?_
  · exact Keeps.refl _ _
  · refine Keeps.ite1 ?_ ?_
    · refine Keeps.after (warnReply_keeps _ _ _) rfl ?_
      assumption
    · refine Keeps.after (okReply_keeps _) rfl ?_
      assumption

theorem runAxisSetLoop_keeps (h) (a) (s) : Keeps 1048576 s (runAxisSetLoop h a s).1 := by
  unfold runAxisSetLoop
  extract_lets v2 v3 v4 v5 v6 v7 v8
  clear_value v2 v3 v4 v5 v6 v7
  have hv8 : Keeps 1048576 (s) v8 := by
    unfold v8
    refine Keeps.after (State.setAxis_keeps _ _ _) rfl ?_
    exact Keeps.refl _ _
  clear_value v8
  refine tested_keeps ?_ ?_
  · exact Keeps.refl _ _
  · refine Keeps.after (okReply_keeps _) rfl ?_
    assumption

theorem runAxisSetNotch_keeps (h) (a) (s) : Keeps 1048576 s (runAxisSetNotch h a s).1 := by
  unfold runAxisSetNotch
  extract_lets v2 v3 v4 v5 v6 v7 v8 v9 v10 v11
  clear_value v2 v3 v4 v5 v6 v7 v8 v9 v11
  have hv10 : Keeps 1048576 (s) v10 := by
    unfold v10
    refine Keeps.after (State.setAxis_keeps _ _ _) rfl ?_
    exact Keeps.refl _ _
  clear_value v10
  refine tested_keeps ?_ ?_
  · exact Keeps.refl _ _
  · refine Keeps.after (dataReply_keeps _ _) rfl ?_
    assumption

theorem runAxisSwitchConfig_keeps (h) (a) (s) : Keeps 1048576 s (runAxisSwitchConfig h a s).1 := by
  unfold runAxisSwitchConfig
  extract_lets v2 v3 v4 v5 v6 v7
  clear_value v2 v3 v4 v5 v7
  have hv6 : Keeps 1048576 (s) v6 := by
    unfold v6
    refine Keeps.after (State.updAxis_keeps _ _ _) rfl ?_
    exact Keeps.refl _ _
  clear_value v6
  refine tested_keeps ?_ ?_
  · exact Keeps.refl _ _
  · refine Keeps.after (okReply_keeps _) rfl ?_
    assumption

theorem runAxisSwitchClear_keeps (h) (a) (s) : Keeps 1048576 s (runAxisSwitchClear h a s).1 := by
  unfold runAxisSwitchClear
  extract_lets v2 v3 v4 v5
  clear_value v2 v3
  have hv4 : Keeps 1048576 (s) v4 := by
    unfold v4
    refine Keeps.after (State.setGpio_keeps _ _ _) rfl ?_
    exact Keeps.refl _ _
  clear_value v4
  have hv5 : Keeps 1048576 (s) v5 := by
    unfold v5
    refine Keeps.foldl ?_ ?_
    · intro t9 x10
      refine Keeps.after (State.updAxis_keeps _ _ _) rfl ?_
      exact Keeps.refl _ _
    · assumption
  clear_value v5
  refine tested_keeps ?_ ?_
  · exact Keeps.refl _ _
  · refine Keeps.after (okReply_keeps _) rfl ?_
    refine Keeps.ite ?_ ?_
    · assumption
    · exact Keeps.refl _ _

theorem State.enableInput_keeps (s) (i) : Keeps 1048576 s (State.enableInput s i) := by
  unfold State.enableInput
  refine Keeps.ite ?_ ?_
  · exact Keeps.refl _ _
  · refine Keeps.after (State.updAdc_keeps _ _ _) rfl ?_
    exact Keeps.refl _ _

theorem runAxisDdConfig_keeps (h) (a) (s) : Keeps 1048576 s (runAxisDdConfig h a s).1 := by
  unfold runAxisDdConfig
  extract_lets v2 v3 v4 v5 v6 v7 v8 v9 v10 v11
  clear_value v2 v3 v4 v5 v6 v7 v8 v9
  have hv10 : Keeps 1048576 (s) v10 := by
    unfold v10
    refine Keeps.after (State.updAxis_keeps _ _ _) rfl ?_
    exact Keeps.refl _ _
  clear_value v10
  have hv11 : Keeps 1048576 (s) v11 := by
    unfold v11
    refine Keeps.foldl ?_ ?_
    · intro t15 x16
      refine Keeps.after (State.enableInput_keeps _ _) rfl ?_
      exact Keeps.refl _ _
    · assumption
  clear_value v11
  refine tested_keeps ?_ ?_
  · exact Keeps.refl _ _
  · refine Keeps.after (okReply_keeps _) rfl ?_
    assumption

theorem runAxisDdPwm_keeps (h) (a) (s) : Keeps 1048576 s (runAxisDdPwm h a s).1 := by
  unfold runAxisDdPwm
  extract_lets v2 v3
  have hv3 : Keeps 1048576 (s) v3 := by
    unfold v3
    refine Keeps.motion_ (u := s) ?_ rfl
    exact Keeps.refl _ _
  clear_value v3
  refine tested_keeps ?_ ?_
  · exact Keeps.refl _ _
  · refine Keeps.after (okReply_keeps _) rfl ?_
    assumption

theorem runAxisCamTable_keeps (h) (a) (s) : Keeps 1048576 s (runAxisCamTable h a s).1 := by
  unfold runAxisCamTable
  extract_lets v2 v3 v4 v5 v6 v7
  clear_value v2 v3 v4 v5 v6 v7
  refine tested_keeps ?_ ?_
  · exact Keeps.refl _ _
  · refine Keeps.after (okReply_keeps _) rfl ?_
    refine Keeps.after (State.setCam_keeps _ _ _) rfl ?_
    exact Keeps.refl _ _

theorem runAxisStatus_keeps (x0) (a) (s) : Keeps 0 s (runAxisStatus x0 a s).1 := by
  unfold runAxisStatus
  refine tested_keeps ?_ ?_
  · exact Keeps.refl _ _
  · refine Keeps.after (dataReply_keeps _ _) rfl ?_
    exact Keeps.refl _ _

theorem runDiagAxisLoop_keeps (x0) (a) (s) : Keeps 0 s (runDiagAxisLoop x0 a s).1 := by
  unfold runDiagAxisLoop
  extract_lets v2
  clear_value v2
  refine tested_keeps ?_ ?_
  · exact Keeps.refl _ _
  · refine Keeps.after (dataReply_keeps _ _) rfl ?_
    exact Keeps.refl _ _

theorem runDiagAxisCounters_keeps (x0) (a) (s) : Keeps 0 s (runDiagAxisCounters x0 a s).1 := by
  unfold runDiagAxisCounters
  extract_lets v2 v3 v4
  clear_value v2 v3 v4
  refine tested_keeps ?_ ?_
  · exact Keeps.refl _ _
  · refine Keeps.after (dataReply_keeps _ _) rfl ?_
    exact Keeps.refl _ _

theorem runDiagTiller_keeps (x0) (a) (s) : Keeps 0 s (runDiagTiller x0 a s).1 := by
  unfold runDiagTiller
  extract_lets v2
  clear_value v2
  refine tested_keeps ?_ ?_
  · exact Keeps.refl _ _
  · refine Keeps.after (dataReply_keeps _ _) rfl ?_
    exact Keeps.refl _ _

theorem planTo_keeps (ax) (goal) (clip) (l) (s) : Keeps 270008512 s (planTo ax goal clip l s) := by
  unfold planTo
  extract_lets v2 v3 v4 v5 v6 v7
  clear_value v2 v4 v5
  have hv3 : Keeps 270008512 (s) v3 := by
    unfold v3
    refine Keeps.after (adoptAll_keeps _ _) rfl ?_
    exact Keeps.refl _ _
  clear_value v3
  have hv6 : Keeps 270008512 (s) v6 := by
    unfold v6
    refine Keeps.after (replan_keeps _ _ _ _) rfl ?_
    assumption
  clear_value v6
  have hv7 : Keeps 270008512 (s) v7 := by
    unfold v7
    split
    · rename_i z13
      refine Keeps.after (State.updAxis_keeps _ _ _) rfl ?_
      assumption
    · rename_i z16 z17
      extract_lets v19 v20
      clear_value v19 v20
      refine Keeps.after (State.event_keeps _ _ _ _ _) rfl ?_
      refine Keeps.after (State.updAxis_keeps _ _ _) rfl ?_
      assumption
  clear_value v7
  refine Keeps.after (softStop_keeps _ _ _) rfl ?_
  assumption

theorem planSpeed_keeps (ax) (v) (s) : Keeps 270008512 s (planSpeed ax v s) := by
  unfold planSpeed
  extract_lets v2 v3 v4 v5 v6 v7
  clear_value v2 v4 v5 v6 v7
  have hv3 : Keeps 270008512 (s) v3 := by
    unfold v3
    refine Keeps.after (adoptAll_keeps _ _) rfl ?_
    exact Keeps.refl _ _
  clear_value v3
  refine Keeps.ite ?_ ?_
  · refine Keeps.after (planTo_keeps _ _ _ _ _) rfl ?_
    assumption
  · refine Keeps.after (State.updAxis_keeps _ _ _) rfl ?_
    refine Keeps.after (replan_keeps _ _ _ _) rfl ?_
    assumption

theorem fromC_keeps (o) (f) (s) : Keeps 1048576 s (fromC o f s) := by
  unfold fromC
  extract_lets v2 v3 v4
  clear_value v2 v3 v4
  refine Keeps.after (State.setGen_keeps _ _ _ _) rfl ?_
  refine Keeps.after (State.updQueues_keeps _ _ _) rfl ?_
  exact Keeps.refl _ _

theorem holdOwner_keeps (o) (us) (s) : Keeps 269484032 s (holdOwner o us s).1 := by
  unfold holdOwner
  extract_lets v2 v3 v4 v5 v6 v7 v8
  clear_value v2 v3 v4 v5 v7 v8
  have hv6 : Keeps 269484032 (s) v6.1 := by
    unfold v6
    refine Keeps.mk1 ?_
    refine Keeps.after (State.setGen_keeps _ _ _ _) rfl ?_
    exact Keeps.refl _ _
  clear_value v6
  refine Keeps.ite1 ?_ ?_
  · refine Keeps.ite1 ?_ ?_
    · refine Keeps.mk1 ?_
      refine Keeps.after (replan_keeps _ _ _ _) rfl ?_
      exact Keeps.refl _ _
    · assumption
  · refine Keeps.ite1 ?_ ?_
    · refine Keeps.mk1 ?_
      exact Keeps.refl _ _
    · refine Keeps.mk1 ?_
      refine Keeps.after (replan_keeps _ _ _ _) rfl ?_
      exact Keeps.refl _ _

theorem resumeOwner_keeps (o) (s) : Keeps 1048576 s (resumeOwner o s) := by
  unfold resumeOwner
  refine Keeps.after (fromC_keeps _ _ _) rfl ?_
  exact Keeps.refl _ _

theorem stopMotion_keeps (o) (s) : Keeps 269484032 s (stopMotion o s) := by
  unfold stopMotion
  extract_lets v2 v3 v4 v5 v6 v7
  clear_value v2 v3 v4 v5 v6
  have hv7 : Keeps 269484032 (s) v7.1 := by
    unfold v7
    refine Keeps.after (holdOwner_keeps _ _ _) rfl ?_
    exact Keeps.refl _ _
  clear_value v7
  split
  · rename_i z11 z12 z13
    extract_lets v15 v16
    clear_value v15 v16
    refine Keeps.after (replan_keeps _ _ _ _) rfl ?_
    exact Keeps.refl _ _
  · rename_i z19 z20
    refine Keeps.ite ?_ ?_
    · refine Keeps.after (State.setGen_keeps _ _ _ _) rfl ?_
      assumption
    · refine Keeps.ite ?_ ?_
      · refine Keeps.after (replan_keeps _ _ _ _) rfl ?_
        exact Keeps.refl _ _
      · refine Keeps.after (State.updGen_keeps _ _ _) rfl ?_
        exact Keeps.refl _ _

theorem stopOwner_keeps (o) (s) : Keeps 279969792 s (stopOwner o s) := by
  unfold stopOwner
  extract_lets v2
  have hv2 : Keeps 279969792 (s) v2 := by
    unfold v2
    refine Keeps.after (stopMotion_keeps _ _) rfl ?_
    exact Keeps.refl _ _
  clear_value v2
  refine Keeps.ite ?_ ?_
  · refine Keeps.after (withdrawClaims_keeps _ _ _) rfl ?_
    assumption
  · assumption

theorem startPhase_keeps (ax) (st) (sg) (vel) (s) : Keeps 270008512 s (startPhase ax st sg vel s) := by
  unfold startPhase
  split
  · rename_i z2 z3
    exact Keeps.refl _ _
  · rename_i z5 z6 z7
    extract_lets v9 v10 v11
    clear_value v9 v11
    have hv10 : Keeps 270008512 (s) v10 := by
      unfold v10
      refine Keeps.after (State.updAxis_keeps _ _ _) rfl ?_
      exact Keeps.refl _ _
    clear_value v10
    refine Keeps.after (planTo_keeps _ _ _ _ _) rfl ?_
    assumption

theorem homingBrake_keeps (ax) (s) : Keeps 269484032 s (homingBrake ax s) := by
  unfold homingBrake
  extract_lets v2 v3 v4
  clear_value v2 v3 v4
  refine Keeps.after (State.updAxis_keeps _ _ _) rfl ?_
  refine Keeps.after (replan_keeps _ _ _ _) rfl ?_
  exact Keeps.refl _ _

theorem homeFound_keeps (ax) (p) (s) : Keeps 279969792 s (homeFound ax p s) := by
  unfold homeFound
  extract_lets v2
  have hv2 : Keeps 279969792 (s) v2 := by
    unfold v2
    refine Keeps.after (State.updAxis_keeps _ _ _) rfl ?_
    exact Keeps.refl _ _
  clear_value v2
  refine Keeps.after (stopOwner_keeps _ _) rfl ?_
  assumption

theorem homingDone_keeps (ax) (s) : Keeps 1048576 s (homingDone ax s) := by
  unfold homingDone
  refine Keeps.after (State.updAxis_keeps _ _ _) rfl ?_
  exact Keeps.refl _ _

theorem homingTick_keeps (ax) (s) : Keeps 280494272 s (homingTick ax s) := by
  unfold homingTick
  extract_lets v2
  clear_value v2
  split
  · rename_i z4 z5
    exact Keeps.refl _ _
  · rename_i z7 z8 z9
    refine Keeps.ite ?_ ?_
    · refine Keeps.ite ?_ ?_
      · extract_lets v13
        have hv13 : Keeps 280494272 (s) v13 := by
          unfold v13
          refine Keeps.after (State.updAxis_keeps _ _ _) rfl ?_
          exact Keeps.refl _ _
        clear_value v13
        refine Keeps.after (startPhase_keeps _ _ _ _ _) rfl ?_
        assumption
      · refine Keeps.after (startPhase_keeps _ _ _ _ _) rfl ?_
        exact Keeps.refl _ _
    · refine Keeps.ite ?_ ?_
      · extract_lets v22 v23 v24 v25
        clear_value v22 v23 v24
        have hv25 : Keeps 280494272 (s) v25 := by
          unfold v25
          refine Keeps.after (State.updAxis_keeps _ _ _) rfl ?_
          exact Keeps.refl _ _
        clear_value v25
        split
        · rename_i z29 z30 z31
          refine Keeps.after (homeFound_keeps _ _ _) rfl ?_
          assumption
        · rename_i z34 z35
          assumption
      · refine Keeps.ite ?_ ?_
        · refine Keeps.after (homeFound_keeps _ _ _) rfl ?_
          exact Keeps.refl _ _
        · refine Keeps.ite ?_ ?_
          · refine Keeps.after (homingDone_keeps _ _) rfl ?_
            exact Keeps.refl _ _
          · exact Keeps.refl _ _

theorem wiringFault_keeps (ax) (s) : Keeps 270008513 s (wiringFault ax s) := by
  unfold wiringFault
  extract_lets v2 v3
  have hv2 : Keeps 270008513 (s) v2 := by
    unfold v2
    refine Keeps.after (State.updAxis_keeps _ _ _) rfl ?_
    exact Keeps.refl _ _
  clear_value v2
  have hv3 : Keeps 270008513 (s) v3 := by
    unfold v3
    refine Keeps.after (holdOwner_keeps _ _ _) rfl ?_
    assumption
  clear_value v3
  refine Keeps.after (State.updAxis_keeps _ _ _) rfl ?_
  refine Keeps.after (State.endHoming_keeps _ _ _) rfl ?_
  assumption

theorem homingLimit_keeps (ax) (first) (neg) (s) : Keeps 280494273 s (homingLimit ax first neg s) := by
  unfold homingLimit
  extract_lets v2
  clear_value v2
  split
  · rename_i z4 z5
    exact Keeps.refl _ _
  · rename_i z7 z8 z9
    extract_lets v11
    clear_value v11
    refine Keeps.ite ?_ ?_
    · exact Keeps.refl _ _
    · refine Keeps.ite ?_ ?_
      · refine Keeps.ite ?_ ?_
        · refine Keeps.after (homingBrake_keeps _ _) rfl ?_
          refine Keeps.after (State.updAxis_keeps _ _ _) rfl ?_
          exact Keeps.refl _ _
        · exact Keeps.refl _ _
      · refine Keeps.ite ?_ ?_
        · refine Keeps.after (homingBrake_keeps _ _) rfl ?_
          refine Keeps.after (State.updAxis_keeps _ _ _) rfl ?_
          exact Keeps.refl _ _
        · refine Keeps.after (stopOwner_keeps _ _) rfl ?_
          refine Keeps.after (State.endHoming_keeps _ _ _) rfl ?_
          exact Keeps.refl _ _

theorem homingSwitch_keeps (ax) (first) (active) (s) : Keeps 279969792 s (homingSwitch ax first active s) := by
  unfold homingSwitch
  extract_lets v2
  clear_value v2
  split
  · rename_i z4 z5
    exact Keeps.refl _ _
  · rename_i z7 z8 z9
    refine Keeps.ite ?_ ?_
    · refine Keeps.after (homingBrake_keeps _ _) rfl ?_
      exact Keeps.refl _ _
    · refine Keeps.ite ?_ ?_
      · extract_lets v15
        clear_value v15
        refine Keeps.ite ?_ ?_
        · refine Keeps.after (homeFound_keeps _ _ _) rfl ?_
          exact Keeps.refl _ _
        · refine Keeps.after (State.updAxis_keeps _ _ _) rfl ?_
          exact Keeps.refl _ _
      · exact Keeps.refl _ _

theorem onSwitch_keeps (ax) (which) (first) (active) (s) : Keeps 280494273 s (onSwitch ax which first active s) := by
  unfold onSwitch
  extract_lets v2 v3 v4 v5 v6
  clear_value v2 v3
  have hv4 : Keeps 280494273 (s) v4 := by
    unfold v4
    refine Keeps.after (stopOwner_keeps _ _) rfl ?_
    exact Keeps.refl _ _
  clear_value v4
  have hv5 : Keeps 280494273 (s) v5 := by
    unfold v5
    refine Keeps.after (State.updAxis_keeps _ _ _) rfl ?_
    assumption
  clear_value v5
  have hv6 : Keeps 280494273 (s) v6 := by
    unfold v6
    refine Keeps.after (State.event_keeps _ _ _ _ _) rfl ?_
    assumption
  clear_value v6
  refine Keeps.ite ?_ ?_
  · split
    · rename_i z15 z16 z17
      refine Keeps.ite ?_ ?_
      · refine Keeps.after (homingSwitch_keeps _ _ _ _) rfl ?_
        exact Keeps.refl _ _
      · exact Keeps.refl _ _
    · rename_i z22 z23
      exact Keeps.refl _ _
  · split
    · rename_i z26 z27 z28
      refine Keeps.ite ?_ ?_
      · refine Keeps.after (homingSwitch_keeps _ _ _ _) rfl ?_
        exact Keeps.refl _ _
      · refine Keeps.ite ?_ ?_
        · refine Keeps.after (homingLimit_keeps _ _ _ _) rfl ?_
          exact Keeps.refl _ _
        · exact Keeps.refl _ _
    · rename_i z36 z37
      refine Keeps.ite ?_ ?_
      · exact Keeps.refl _ _
      · refine Keeps.ite ?_ ?_
        · refine Keeps.after (wiringFault_keeps _ _) rfl ?_
          assumption
        · assumption

theorem sampleAxis_keeps (ax) (s) : Keeps 1048576 s (sampleAxis ax s).1 := by
  unfold sampleAxis
  extract_lets v2 v3 v4 v5 v6 v7
  clear_value v2 v3 v4 v5 v6 v7
  refine Keeps.mk1 ?_
  refine Keeps.after (State.setAxis_keeps _ _ _) rfl ?_
  exact Keeps.refl _ _

theorem State.completeCmd_keeps (s) (code) (p) (r) : Keeps 128 s (State.completeCmd s code p r) := by
  unfold State.completeCmd
  refine Keeps.host_ (u := s) ?_ rfl
  exact Keeps.refl _ _

theorem runArmDefine_keeps (h) (a) (s) : Keeps 1048576 s (runArmDefine h a s).1 := by
  unfold runArmDefine
  extract_lets v2 v3 v4 v5 v6 v7 v8 v9 v10 v11 v12 v13 v14 v15 v16 v17 v18 v19 v20 v21 v22
  clear_value v2 v3 v4 v5 v6 v7 v8 v9 v10 v11 v12 v13 v14 v15 v16 v17 v21 v22
  have hv18 : Keeps 1048576 (s) v18 := by
    unfold v18
    refine Keeps.after (State.setArm_keeps _ _ _) rfl ?_
    exact Keeps.refl _ _
  clear_value v18
  have hv19 : Keeps 1048576 (s) v19 := by
    unfold v19
    refine Keeps.foldl ?_ ?_
    · intro t26 x27
      refine Keeps.after (State.updAxis_keeps _ _ _) rfl ?_
      exact Keeps.refl _ _
    · assumption
  clear_value v19
  have hv20 : Keeps 1048576 (s) v20 := by
    unfold v20
    split
    · rename_i z32 z33 z34
      refine Keeps.after (State.placeAxis_keeps _ _) rfl ?_
      assumption
    · rename_i z37
      assumption
  clear_value v20
  refine tested_keeps ?_ ?_
  · exact Keeps.refl _ _
  · refine Keeps.after (okReply_keeps _) rfl ?_
    assumption

theorem runArmSetDynamics_keeps (h) (a) (s) : Keeps 1048576 s (runArmSetDynamics h a s).1 := by
  unfold runArmSetDynamics
  extract_lets v2 v3 v4 v5 v6 v7
  clear_value v2 v3 v4 v5 v6 v7
  refine tested_keeps ?_ ?_
  · exact Keeps.refl _ _
  · refine Keeps.after (okReply_keeps _) rfl ?_
    refine Keeps.after (State.setArm_keeps _ _ _) rfl ?_
    exact Keeps.refl _ _

theorem runArmSetPayload_keeps (h) (a) (s) : Keeps 1048576 s (runArmSetPayload h a s).1 := by
  unfold runArmSetPayload
  extract_lets v2 v3 v4 v5 v6 v7 v8 v9
  clear_value v2 v3 v4 v5 v6 v7 v8
  have hv9 : Keeps 1048576 (s) v9 := by
    unfold v9
    refine Keeps.after (State.setArm_keeps _ _ _) rfl ?_
    exact Keeps.refl _ _
  clear_value v9
  refine tested_keeps ?_ ?_
  · exact Keeps.refl _ _
  · refine Keeps.ite1 ?_ ?_
    · refine Keeps.after (warnReply_keeps _ _ _) rfl ?_
      assumption
    · refine Keeps.after (okReply_keeps _) rfl ?_
      assumption

theorem runArmSetLimits_keeps (h) (a) (s) : Keeps 269484032 s (runArmSetLimits h a s).1 := by
  unfold runArmSetLimits
  extract_lets v2 v3 v4 v5 v6 v7 v8 v9 v10 v11 v12 v13 v14 v15 v16
  clear_value v2 v3 v4 v5 v6 v7 v8 v9 v10 v12 v13 v14 v15
  have hv11 : Keeps 269484032 (s) v11 := by
    unfold v11
    refine Keeps.after (State.setArm_keeps _ _ _) rfl ?_
    exact Keeps.refl _ _
  clear_value v11
  have hv16 : Keeps 269484032 (s) v16 := by
    unfold v16
    refine Keeps.ite ?_ ?_
    · refine Keeps.after (replan_keeps _ _ _ _) rfl ?_
      assumption
    · assumption
  clear_value v16
  refine tested_keeps ?_ ?_
  · exact Keeps.refl _ _
  · refine Keeps.ite1 ?_ ?_
    · refine Keeps.after (warnReply_keeps _ _ _) rfl ?_
      assumption
    · refine Keeps.after (okReply_keeps _) rfl ?_
      assumption

theorem runArmSetIk_keeps (h) (a) (s) : Keeps 1048576 s (runArmSetIk h a s).1 := by
  unfold runArmSetIk
  extract_lets v2 v3 v4 v5 v6
  clear_value v2 v3 v4 v5 v6
  refine tested_keeps ?_ ?_
  · exact Keeps.refl _ _
  · refine Keeps.after (okReply_keeps _) rfl ?_
    refine Keeps.after (State.updArm_keeps _ _ _) rfl ?_
    exact Keeps.refl _ _

theorem runArmSetTool_keeps (h) (a) (s) : Keeps 1048576 s (runArmSetTool h a s).1 := by
  unfold runArmSetTool
  extract_lets v2
  clear_value v2
  refine tested_keeps ?_ ?_
  · exact Keeps.refl _ _
  · refine Keeps.after (okReply_keeps _) rfl ?_
    refine Keeps.after (State.updArm_keeps _ _ _) rfl ?_
    exact Keeps.refl _ _

theorem runArmSetFrame_keeps (h) (a) (s) : Keeps 1048576 s (runArmSetFrame h a s).1 := by
  unfold runArmSetFrame
  extract_lets v2 v3 v4 v5 v6 v7 v8
  clear_value v2 v3 v4 v5 v6 v7
  have hv8 : Keeps 1048576 (s) v8 := by
    unfold v8
    refine Keeps.after (State.setArm_keeps _ _ _) rfl ?_
    exact Keeps.refl _ _
  clear_value v8
  refine tested_keeps ?_ ?_
  · exact Keeps.refl _ _
  · refine Keeps.after (okReply_keeps _) rfl ?_
    assumption

theorem runArmSetClaim_keeps (h) (a) (s) : Keeps 1048576 s (runArmSetClaim h a s).1 := by
  unfold runArmSetClaim
  extract_lets v2 v3 v4 v5 v6 v7
  clear_value v2 v3 v4 v5 v6 v7
  refine tested_keeps ?_ ?_
  · exact Keeps.refl _ _
  · refine Keeps.after (okReply_keeps _) rfl ?_
    refine Keeps.after (State.setArm_keeps _ _ _) rfl ?_
    exact Keeps.refl _ _

theorem runArmSetMode_keeps (h) (a) (s) : Keeps 1048576 s (runArmSetMode h a s).1 := by
  unfold runArmSetMode
  extract_lets v2 v3 v4 v5
  clear_value v2 v3 v4 v5
  refine tested_keeps ?_ ?_
  · exact Keeps.refl _ _
  · refine Keeps.after (okReply_keeps _) rfl ?_
    refine Keeps.after (State.setArm_keeps _ _ _) rfl ?_
    exact Keeps.refl _ _

theorem commandArm_keeps (n) (append) (ls) (s) : Keeps 280494272 s (commandArm n append ls s) := by
  unfold commandArm
  extract_lets v2 v3 v4 v5 v6 v7 v8
  clear_value v2 v5 v6 v7
  have hv3 : Keeps 280494272 (s) v3 := by
    unfold v3
    refine Keeps.after (adoptAll_keeps _ _) rfl ?_
    exact Keeps.refl _ _
  clear_value v3
  have hv4 : Keeps 280494272 (s) v4 := by
    unfold v4
    refine Keeps.after (withdrawClaims_keeps _ _ _) rfl ?_
    assumption
  clear_value v4
  have hv8 : Keeps 280494272 (s) v8 := by
    unfold v8
    refine Keeps.after (replan_keeps _ _ _ _) rfl ?_
    assumption
  clear_value v8
  refine Keeps.ite ?_ ?_
  · refine Keeps.after (State.updGen_keeps _ _ _) rfl ?_
    assumption
  · refine Keeps.ite ?_ ?_
    · refine Keeps.after (State.updGen_keeps _ _ _) rfl ?_
      assumption
    · refine Keeps.ite ?_ ?_
      · refine Keeps.after (fromC_keeps _ _ _) rfl ?_
        assumption
      · refine Keeps.foldl ?_ ?_
        · intro t25 x26
          split
          · rename_i z28 z29
            exact Keeps.refl _ _
          · rename_i z31 z32 z33 z34
            refine Keeps.after (State.event_keeps _ _ _ _ _) rfl ?_
            refine Keeps.after (State.updAxis_keeps _ _ _) rfl ?_
            exact Keeps.refl _ _
        · assumption

theorem runArmMoveJoint_keeps (h) (a) (s) : Keeps 280494272 s (runArmMoveJoint h a s).1 := by
  unfold runArmMoveJoint
  extract_lets v2 v3 v4 v5 v6 v7 v8 v9 v10 v11 v12 v13 v14
  clear_value v2 v3 v4 v5 v6 v7 v8 v9 v10 v11 v12
  have hv13 : Keeps 280494272 (s) v13 := by
    unfold v13
    refine Keeps.foldl ?_ ?_
    · intro t16 x17
      refine Keeps.ite ?_ ?_
      · exact Keeps.refl _ _
      · refine Keeps.after (State.event_keeps _ _ _ _ _) rfl ?_
        exact Keeps.refl _ _
    · exact Keeps.refl _ _
  clear_value v13
  have hv14 : Keeps 280494272 (s) v14 := by
    unfold v14
    refine Keeps.after (commandArm_keeps _ _ _ _) rfl ?_
    assumption
  clear_value v14
  refine tested_keeps ?_ ?_
  · exact Keeps.refl _ _
  · refine Keeps.after (okReply_keeps _) rfl ?_
    refine Keeps.after (State.updArm_keeps _ _ _) rfl ?_
    assumption

theorem runCart_keeps (h) (a) (ls) (tests) (s) : Keeps 280494272 s (runCart h a ls tests s).1 := by
  unfold runCart
  extract_lets v2 v3 v4 v5 v6
  clear_value v2 v3 v4
  have hv5 : Keeps 280494272 (s) v5.2 := by
    unfold v5
    refine Keeps.after (State.freeBelow_keeps _ _) rfl ?_
    exact Keeps.refl _ _
  clear_value v5
  have hv6 : Keeps 280494272 (s) v6 := by
    unfold v6
    refine Keeps.after (State.updArm_keeps _ _ _) rfl ?_
    refine Keeps.after (commandArm_keeps _ _ _ _) rfl ?_
    assumption
  clear_value v6
  refine tested_keeps ?_ ?_
  · assumption
  · refine Keeps.after (okReply_keeps _) rfl ?_
    assumption

theorem runArmMoveCart_keeps (h) (a) (s) : Keeps 280494272 s (runArmMoveCart h a s).1 := by
  unfold runArmMoveCart
  extract_lets v2
  clear_value v2
  refine Keeps.after (runCart_keeps _ _ _ _ _) rfl ?_
  exact Keeps.refl _ _

theorem runArmMoveArc_keeps (h) (a) (s) : Keeps 280494272 s (runArmMoveArc h a s).1 := by
  unfold runArmMoveArc
  extract_lets v2 v3
  clear_value v2
  have hv3 : Keeps 280494272 (s) v3.2 := by
    unfold v3
    refine Keeps.after (State.freeBelow_keeps _ _) rfl ?_
    exact Keeps.refl _ _
  clear_value v3
  refine Keeps.after (runCart_keeps _ _ _ _ _) rfl ?_
  assumption

theorem runArmHold_keeps (h) (a) (s) : Keeps 269484032 s (runArmHold h a s).1 := by
  unfold runArmHold
  extract_lets v2 v3
  clear_value v2
  have hv3 : Keeps 269484032 (s) v3.1 := by
    unfold v3
    refine Keeps.after (holdOwner_keeps _ _ _) rfl ?_
    exact Keeps.refl _ _
  clear_value v3
  refine tested_keeps ?_ ?_
  · exact Keeps.refl _ _
  · refine Keeps.ite1 ?_ ?_
    · refine Keeps.after (warnReply_keeps _ _ _) rfl ?_
      assumption
    · refine Keeps.after (okReply_keeps _) rfl ?_
      assumption

theorem runArmResume_keeps (h) (a) (s) : Keeps 1048576 s (runArmResume h a s).1 := by
  unfold runArmResume
  extract_lets v2
  clear_value v2
  refine tested_keeps ?_ ?_
  · exact Keeps.refl _ _
  · refine Keeps.after (okReply_keeps _) rfl ?_
    refine Keeps.after (resumeOwner_keeps _ _) rfl ?_
    exact Keeps.refl _ _

theorem runArmStop_keeps (h) (a) (s) : Keeps 279969792 s (runArmStop h a s).1 := by
  unfold runArmStop
  extract_lets v2
  clear_value v2
  refine tested_keeps ?_ ?_
  · exact Keeps.refl _ _
  · refine Keeps.after (okReply_keeps _) rfl ?_
    refine Keeps.after (State.updArm_keeps _ _ _) rfl ?_
    refine Keeps.after (stopOwner_keeps _ _) rfl ?_
    exact Keeps.refl _ _

theorem runArmJog_keeps (h) (a) (s) : Keeps 280494272 s (runArmJog h a s).1 := by
  unfold runArmJog
  extract_lets v2 v3 v4 v5 v6 v7 v8 v9 v10 v11
  clear_value v2 v3 v4 v5 v6 v7 v8 v9 v10
  have hv11 : Keeps 280494272 (s) v11 := by
    unfold v11
    refine Keeps.ite ?_ ?_
    · exact Keeps.refl _ _
    · refine Keeps.ite ?_ ?_
      · refine Keeps.after (stopOwner_keeps _ _) rfl ?_
        exact Keeps.refl _ _
      · refine Keeps.after (commandArm_keeps _ _ _ _) rfl ?_
        exact Keeps.refl _ _
  clear_value v11
  refine tested_keeps ?_ ?_
  · exact Keeps.refl _ _
  · refine Keeps.after (okReply_keeps _) rfl ?_
    refine Keeps.after (State.updArm_keeps _ _ _) rfl ?_
    assumption

theorem State.armReport_keeps (s) (n) : Keeps 268435456 s (State.armReport s n).2 := by
  unfold State.armReport
  extract_lets v2 v3 v4 v5
  clear_value v2 v3 v4
  have hv5 : Keeps 268435456 (s) v5.2 := by
    unfold v5
    refine Keeps.after (State.freeBelow_keeps _ _) rfl ?_
    exact Keeps.refl _ _
  clear_value v5
  refine Keeps.mk2 ?_
  assumption

theorem runArmStatus_keeps (x0) (a) (s) : Keeps 268435456 s (runArmStatus x0 a s).1 := by
  unfold runArmStatus
  extract_lets v2
  have hv2 : Keeps 268435456 (s) v2.2 := by
    unfold v2
    refine Keeps.after (State.armReport_keeps _ _) rfl ?_
    exact Keeps.refl _ _
  clear_value v2
  refine tested_keeps ?_ ?_
  · exact Keeps.refl _ _
  · refine Keeps.after (dataReply_keeps _ _) rfl ?_
    assumption

end Sys2Proof.Machine
end

