-- ==== Sys2Proof/Laws/FramesUnits.lean ====
section
/-! SUPPORT. Frames, one lemma per function: check units, mailboxes, the pool, the Chisel, the CAN controllers and the engines. The mask names the parts a function may change
(`Part.bit`); every other part is as before. -/

namespace Sys2Proof.Machine

theorem chkNotice_keeps (n) (bad) (s) : Keeps 134219776 s (chkNotice n bad s) := by
  unfold chkNotice
  extract_lets v2
  clear_value v2
  refine Keeps.ite ?_ ?_
  · exact Keeps.refl _ _
  · split
    · rename_i z6 z7 z8
      refine Keeps.after (State.requestEntry_keeps _ _ _ _ _) rfl ?_
      exact Keeps.refl _ _
    · rename_i z11 z12
      refine Keeps.after (State.send_keeps _ _) rfl ?_
      exact Keeps.refl _ _

theorem chkFrame_keeps (kind) (port) (fabTx) (cls) (bs) (s) : Keeps 134220800 s (chkFrame kind port fabTx cls bs s) := by
  unfold chkFrame
  refine Keeps.foldl ?_ ?_
  · intro t2 x3
    extract_lets v5 v6
    clear_value v5 v6
    refine Keeps.ite ?_ ?_
    · refine Keeps.after (chkNotice_keeps _ _ _) rfl ?_
      refine Keeps.after (State.setChkUnit_keeps _ _ _) rfl ?_
      exact Keeps.refl _ _
    · exact Keeps.refl _ _
  · exact Keeps.refl _ _

theorem chkCut_keeps (kind) (port) (fabTx) (cls) (s) : Keeps 1024 s (chkCut kind port fabTx cls s) := by
  unfold chkCut
  refine Keeps.foldl ?_ ?_
  · intro t2 x3
    extract_lets v5
    clear_value v5
    refine Keeps.ite ?_ ?_
    · refine Keeps.after (State.setChkUnit_keeps _ _ _) rfl ?_
      exact Keeps.refl _ _
    · exact Keeps.refl _ _
  · exact Keeps.refl _ _

theorem chkPool_keeps (port) (ofs) (bs) (s) : Keeps 134220800 s (chkPool port ofs bs s) := by
  unfold chkPool
  refine Keeps.foldl ?_ ?_
  · intro t2 x3
    extract_lets v5 v6
    clear_value v5 v6
    refine Keeps.ite ?_ ?_
    · refine Keeps.after (chkNotice_keeps _ _ _) rfl ?_
      refine Keeps.after (State.setChkUnit_keeps _ _ _) rfl ?_
      exact Keeps.refl _ _
    · exact Keeps.refl _ _
  · exact Keeps.refl _ _

theorem chkRunWrite_keeps (n) (fold) (w) (s) : Keeps 1024 s (chkRunWrite n fold w s) := by
  unfold chkRunWrite
  refine Keeps.after (State.updChkUnit_keeps _ _ _) rfl ?_
  exact Keeps.refl _ _

theorem chkCntRead_keeps (n) (s) : Keeps 67109888 s (chkCntRead n s) := by
  unfold chkCntRead
  extract_lets v2
  clear_value v2
  refine Keeps.after (State.returns_keeps _ _) rfl ?_
  refine Keeps.after (State.setChkUnit_keeps _ _ _) rfl ?_
  exact Keeps.refl _ _

theorem chkWrite_keeps (n) (ofs) (w) (s) : Keeps 1024 s (chkWrite n ofs w s) := by
  unfold chkWrite
  split
  · rename_i z2
    refine Keeps.after (State.updChkUnit_keeps _ _ _) rfl ?_
    exact Keeps.refl _ _
  · rename_i z5
    refine Keeps.after (State.updChkUnit_keeps _ _ _) rfl ?_
    exact Keeps.refl _ _
  · rename_i z8
    refine Keeps.after (State.updChkUnit_keeps _ _ _) rfl ?_
    exact Keeps.refl _ _
  · rename_i z11
    refine Keeps.after (State.updChkUnit_keeps _ _ _) rfl ?_
    exact Keeps.refl _ _
  · rename_i z14
    refine Keeps.after (chkRunWrite_keeps _ _ _ _) rfl ?_
    exact Keeps.refl _ _
  · rename_i z17
    refine Keeps.after (chkRunWrite_keeps _ _ _ _) rfl ?_
    exact Keeps.refl _ _
  · rename_i z20
    refine Keeps.after (State.updChkUnit_keeps _ _ _) rfl ?_
    exact Keeps.refl _ _
  · rename_i z23
    refine Keeps.after (State.updChkUnit_keeps _ _ _) rfl ?_
    exact Keeps.refl _ _
  · rename_i z26 z27 z28 z29 z30 z31 z32 z33 z34
    exact Keeps.refl _ _

theorem chkLost_keeps (n) (s) : Keeps 1024 s (chkLost n s) := by
  unfold chkLost
  refine Keeps.after (State.updChkUnit_keeps _ _ _) rfl ?_
  exact Keeps.refl _ _

theorem State.setLock_keeps (s) (k) (o) : Keeps 256 s (State.setLock s k o) := by
  unfold State.setLock
  refine Keeps.mbx_ (u := s) ?_ rfl (.inl rfl)
  exact Keeps.refl _ _

theorem State.violation_keeps (s) (m) (ch) : Keeps 384 s (State.violation s m ch) := by
  unfold State.violation
  refine Keeps.after (State.accessErr_keeps _ _) rfl ?_
  refine Keeps.after (State.updChan_keeps _ _ _) rfl ?_
  exact Keeps.refl _ _

theorem State.wake_keeps (s) (m) : Keeps 134217984 s (State.wake s m) := by
  unfold State.wake
  extract_lets v2 v3
  have hv2 : Keeps 134217984 (s) v2 := by
    unfold v2
    refine Keeps.after (State.send_keeps _ _) rfl ?_
    exact Keeps.refl _ _
  clear_value v2
  refine Keeps.ite ?_ ?_
  · refine Keeps.mbx_ (u := v2) ?_ rfl (.inl rfl)
    assumption
  · assumption

theorem State.fullRose_keeps (s) (ch) : Keeps 134217984 s (State.fullRose s ch) := by
  unfold State.fullRose
  extract_lets v2 v3
  clear_value v2
  have hv3 : Keeps 134217984 (s) v3 := by
    unfold v3
    refine Keeps.ite ?_ ?_
    · refine Keeps.after (State.ring_keeps _ _ _) rfl ?_
      exact Keeps.refl _ _
    · exact Keeps.refl _ _
  clear_value v3
  refine Keeps.ite ?_ ?_
  · refine Keeps.after (State.wake_keeps _ _) rfl ?_
    assumption
  · assumption

theorem State.startHandover_keeps (s) (b) (dst) : Keeps 512 s (State.startHandover s b dst) := by
  unfold State.startHandover
  refine Keeps.after (State.updBank_keeps _ _ _) rfl ?_
  exact Keeps.refl _ _

theorem State.storeWord_keeps (s) (m) (ch) (w) : Keeps 134218496 s (State.storeWord s m ch w) := by
  unfold State.storeWord
  extract_lets v2 v3 v4 v5
  clear_value v2 v3
  have hv4 : Keeps 134218496 (s) v4 := by
    unfold v4
    refine Keeps.ite ?_ ?_
    · refine Keeps.after (State.startHandover_keeps _ _ _) rfl ?_
      exact Keeps.refl _ _
    · exact Keeps.refl _ _
  clear_value v4
  have hv5 : Keeps 134218496 (s) v5 := by
    unfold v5
    refine Keeps.after (State.updChan_keeps _ _ _) rfl ?_
    assumption
  clear_value v5
  refine Keeps.after (State.fullRose_keeps _ _) rfl ?_
  assumption

theorem mbxWrite_keeps (m) (ch) (w) (s) : Keeps 134218624 s (mbxWrite m ch w s) := by
  unfold mbxWrite
  refine Keeps.ite ?_ ?_
  · exact Keeps.refl _ _
  · extract_lets v4
    clear_value v4
    refine Keeps.ite ?_ ?_
    · refine Keeps.after (State.violation_keeps _ _ _) rfl ?_
      exact Keeps.refl _ _
    · refine Keeps.ite ?_ ?_
      · refine Keeps.after (State.updChan_keeps _ _ _) rfl ?_
        exact Keeps.refl _ _
      · refine Keeps.after (State.storeWord_keeps _ _ _ _) rfl ?_
        exact Keeps.refl _ _

theorem State.acknowledge_keeps (s) (ch) : Keeps 134217984 s (State.acknowledge s ch) := by
  unfold State.acknowledge
  extract_lets v2 v3
  clear_value v2
  have hv3 : Keeps 134217984 (s) v3 := by
    unfold v3
    refine Keeps.after (State.setChan_keeps _ _ _) rfl ?_
    exact Keeps.refl _ _
  clear_value v3
  refine Keeps.ite ?_ ?_
  · refine Keeps.after (State.ring_keeps _ _ _) rfl ?_
    assumption
  · assumption

theorem mbxRead_keeps (m) (ch) (s) : Keeps 201326976 s (mbxRead m ch s) := by
  unfold mbxRead
  refine Keeps.ite ?_ ?_
  · refine Keeps.after (State.returns_keeps _ _) rfl ?_
    exact Keeps.refl _ _
  · extract_lets v5
    clear_value v5
    refine Keeps.ite ?_ ?_
    · refine Keeps.after (State.returns_keeps _ _) rfl ?_
      refine Keeps.after (State.violation_keeps _ _ _) rfl ?_
      exact Keeps.refl _ _
    · refine Keeps.ite ?_ ?_
      · refine Keeps.after (State.returns_keeps _ _) rfl ?_
        refine Keeps.after (State.acknowledge_keeps _ _) rfl ?_
        exact Keeps.refl _ _
      · refine Keeps.after (State.returns_keeps _ _) rfl ?_
        exact Keeps.refl _ _

theorem remoteWord_keeps (node) (ch) (w) (s) : Keeps 134218112 s (remoteWord node ch w s) := by
  unfold remoteWord
  refine Keeps.ite ?_ ?_
  · exact Keeps.refl _ _
  · extract_lets v4
    clear_value v4
    refine Keeps.ite ?_ ?_
    · refine Keeps.after (State.violation_keeps _ _ _) rfl ?_
      exact Keeps.refl _ _
    · refine Keeps.ite ?_ ?_
      · refine Keeps.after (State.setChan_keeps _ _ _) rfl ?_
        exact Keeps.refl _ _
      · refine Keeps.after (State.fullRose_keeps _ _) rfl ?_
        refine Keeps.after (State.setChan_keeps _ _ _) rfl ?_
        exact Keeps.refl _ _

theorem lockRead_keeps (m) (k) (s) : Keeps 67109120 s (lockRead m k s) := by
  unfold lockRead
  refine Keeps.ite ?_ ?_
  · refine Keeps.after (State.returns_keeps _ _) rfl ?_
    exact Keeps.refl _ _
  · split
    · rename_i z5 z6
      refine Keeps.after (State.returns_keeps _ _) rfl ?_
      refine Keeps.after (State.setLock_keeps _ _ _) rfl ?_
      exact Keeps.refl _ _
    · rename_i z10 z11 z12
      refine Keeps.after (State.returns_keeps _ _) rfl ?_
      exact Keeps.refl _ _

theorem State.breakLock_keeps (s) (k) : Keeps 524736 s (State.breakLock s k) := by
  unfold State.breakLock
  split
  · rename_i z2 z3
    exact Keeps.refl _ _
  · rename_i z5 z6 z7
    refine Keeps.after (State.event_keeps _ _ _ _ _) rfl ?_
    refine Keeps.after (State.setLock_keeps _ _ _) rfl ?_
    exact Keeps.refl _ _

theorem State.breakLocksOf_keeps (s) (m) : Keeps 524736 s (State.breakLocksOf s m) := by
  unfold State.breakLocksOf
  refine Keeps.foldl ?_ ?_
  · intro t2 x3
    refine Keeps.ite ?_ ?_
    · refine Keeps.after (State.breakLock_keeps _ _) rfl ?_
      exact Keeps.refl _ _
    · exact Keeps.refl _ _
  · exact Keeps.refl _ _

theorem lockWrite_keeps (m) (k) (s) : Keeps 524736 s (lockWrite m k s) := by
  unfold lockWrite
  refine Keeps.ite ?_ ?_
  · exact Keeps.refl _ _
  · split
    · rename_i z4 z5
      refine Keeps.ite ?_ ?_
      · exact Keeps.refl _ _
      · refine Keeps.after (State.accessErr_keeps _ _) rfl ?_
        exact Keeps.refl _ _
    · rename_i z10 z11 z12
      refine Keeps.ite ?_ ?_
      · refine Keeps.after (State.setLock_keeps _ _ _) rfl ?_
        exact Keeps.refl _ _
      · refine Keeps.ite ?_ ?_
        · refine Keeps.after (State.breakLock_keeps _ _) rfl ?_
          exact Keeps.refl _ _
        · refine Keeps.after (State.accessErr_keeps _ _) rfl ?_
          exact Keeps.refl _ _

theorem State.signalAgain_keeps (s) (m) : Keeps 134217728 s (State.signalAgain s m) := by
  unfold State.signalAgain
  refine Keeps.ite ?_ ?_
  · refine Keeps.after (State.send_keeps _ _) rfl ?_
    exact Keeps.refl _ _
  · exact Keeps.refl _ _

theorem dbPendWrite_keeps (m) (w) (s) : Keeps 134217984 s (dbPendWrite m w s) := by
  unfold dbPendWrite
  refine Keeps.after (State.signalAgain_keeps _ _) rfl ?_
  refine Keeps.after (State.updBells_keeps _ _ _) rfl ?_
  exact Keeps.refl _ _

theorem dbEnableWrite_keeps (m) (w) (s) : Keeps 134217984 s (dbEnableWrite m w s) := by
  unfold dbEnableWrite
  refine Keeps.after (State.signalAgain_keeps _ _) rfl ?_
  refine Keeps.after (State.updBells_keeps _ _ _) rfl ?_
  exact Keeps.refl _ _

theorem dbRingWrite_keeps (m) (w) (s) : Keeps 134218112 s (dbRingWrite m w s) := by
  unfold dbRingWrite
  extract_lets v2 v3
  clear_value v2 v3
  refine Keeps.ite ?_ ?_
  · refine Keeps.after (State.ring_keeps _ _ _) rfl ?_
    exact Keeps.refl _ _
  · refine Keeps.after (State.accessErr_keeps _ _) rfl ?_
    exact Keeps.refl _ _

theorem mbxEvcntRead_keeps (m) (ch) (s) : Keeps 67109248 s (mbxEvcntRead m ch s) := by
  unfold mbxEvcntRead
  refine Keeps.ite ?_ ?_
  · refine Keeps.after (State.returns_keeps _ _) rfl ?_
    exact Keeps.refl _ _
  · extract_lets v5
    clear_value v5
    refine Keeps.ite ?_ ?_
    · refine Keeps.after (State.returns_keeps _ _) rfl ?_
      refine Keeps.after (State.violation_keeps _ _ _) rfl ?_
      exact Keeps.refl _ _
    · refine Keeps.after (State.returns_keeps _ _) rfl ?_
      refine Keeps.after (State.setChan_keeps _ _ _) rfl ?_
      exact Keeps.refl _ _

theorem dbEvcntRead_keeps (m) (j) (s) : Keeps 67109120 s (dbEvcntRead m j s) := by
  unfold dbEvcntRead
  refine Keeps.ite ?_ ?_
  · refine Keeps.after (State.returns_keeps _ _) rfl ?_
    exact Keeps.refl _ _
  · extract_lets v5 v6
    clear_value v5 v6
    refine Keeps.after (State.returns_keeps _ _) rfl ?_
    refine Keeps.after (State.setBells_keeps _ _ _) rfl ?_
    exact Keeps.refl _ _

theorem mbxBindWrite_keeps (m) (ch) (w) (s) : Keeps 256 s (mbxBindWrite m ch w s) := by
  unfold mbxBindWrite
  refine Keeps.ite ?_ ?_
  · refine Keeps.after (State.updChan_keeps _ _ _) rfl ?_
    exact Keeps.refl _ _
  · exact Keeps.refl _ _

theorem mbxCtrlWrite_keeps (m) (ch) (w) (s) : Keeps 256 s (mbxCtrlWrite m ch w s) := by
  unfold mbxCtrlWrite
  refine Keeps.ite ?_ ?_
  · refine Keeps.after (State.updChan_keeps _ _ _) rfl ?_
    exact Keeps.refl _ _
  · exact Keeps.refl _ _

theorem mbxBindLock_keeps (m) (w) (s) : Keeps 274877907200 s (mbxBindLock m w s) := by
  unfold mbxBindLock
  refine Keeps.ite ?_ ?_
  · refine Keeps.mbx_ (u := s) ?_ rfl (.inr rfl)
    exact Keeps.refl _ _
  · exact Keeps.refl _ _

theorem mbxStatusWrite_keeps (m) (ch) (w) (s) : Keeps 384 s (mbxStatusWrite m ch w s) := by
  unfold mbxStatusWrite
  refine Keeps.ite ?_ ?_
  · exact Keeps.refl _ _
  · extract_lets v4
    clear_value v4
    refine Keeps.ite ?_ ?_
    · refine Keeps.after (State.violation_keeps _ _ _) rfl ?_
      exact Keeps.refl _ _
    · refine Keeps.after (State.setChan_keeps _ _ _) rfl ?_
      exact Keeps.refl _ _

theorem bindChannel_keeps (s) (ch) : Keeps 256 s (bindChannel s ch) := by
  unfold bindChannel
  extract_lets v2
  clear_value v2
  refine Keeps.after (State.updChan_keeps _ _ _) rfl ?_
  exact Keeps.refl _ _

theorem bindAll_keeps (s) : Keeps 274877907200 s (bindAll s) := by
  unfold bindAll
  extract_lets v2 v3
  have hv2 : Keeps 274877907200 (s) v2 := by
    unfold v2
    refine Keeps.foldl ?_ ?_
    · intro t5 x6
      refine Keeps.after (bindChannel_keeps _ _) rfl ?_
      exact Keeps.refl _ _
    · exact Keeps.refl _ _
  clear_value v2
  refine Keeps.mbx_ (u := v2) ?_ rfl (.inr rfl)
  assumption

theorem poolOwnerWrite_keeps (m) (b) (w) (s) : Keeps 512 s (poolOwnerWrite m b w s) := by
  unfold poolOwnerWrite
  refine Keeps.ite ?_ ?_
  · exact Keeps.refl _ _
  · refine Keeps.ite ?_ ?_
    · refine Keeps.after (State.startHandover_keeps _ _ _) rfl ?_
      exact Keeps.refl _ _
    · refine Keeps.after (State.updBank_keeps _ _ _) rfl ?_
      exact Keeps.refl _ _

theorem handoverDone_keeps (b) (s) : Keeps 512 s (handoverDone b s) := by
  unfold handoverDone
  refine Keeps.after (State.updBank_keeps _ _ _) rfl ?_
  exact Keeps.refl _ _

theorem State.giveBank_keeps (s) (b) (dst) : Keeps 512 s (State.giveBank s b dst) := by
  unfold State.giveBank
  refine Keeps.after (handoverDone_keeps _ _) rfl ?_
  refine Keeps.after (State.startHandover_keeps _ _ _) rfl ?_
  exact Keeps.refl _ _

theorem State.memPut_keeps (s : State) (ofs : Nat) (bs : List Byte) : Keeps 1073742336 s (State.memPut s ofs bs) :=
  Keeps.pool_ (Keeps.refl _ _) rfl (.inr rfl) (.inl (wf_putOctets _ _ _))

theorem State.poolRefuse_keeps (s) (m) (ofs) (n) : Keeps 512 s (State.poolRefuse s m ofs n) := by
  unfold State.poolRefuse
  refine Keeps.foldl ?_ ?_
  · intro t2 x3
    refine Keeps.ite ?_ ?_
    · refine Keeps.after (State.updBank_keeps _ _ _) rfl ?_
      exact Keeps.refl _ _
    · exact Keeps.refl _ _
  · exact Keeps.refl _ _

theorem State.uncorrectable_keeps (s) (w) : Keeps 524864 s (State.uncorrectable s w) := by
  unfold State.uncorrectable
  extract_lets v2 v3 v4 v5
  clear_value v2
  have hv3 : Keeps 524864 (s) v3 := by
    unfold v3
    refine Keeps.after (State.updBank_keeps _ _ _) rfl ?_
    exact Keeps.refl _ _
  clear_value v3
  have hv5 : Keeps 524864 (s) v5 := by
    unfold v5
    refine Keeps.pool_ (u := v3) ?_ rfl (.inl rfl) (.inl (fun h => h))
    assumption
  clear_value v5
  refine Keeps.after (State.memoryRecord_keeps _ _ _ _ _ _) rfl ?_
  assumption

theorem State.poolRead_keeps (s) (m) (ofs) (n) : Keeps 524864 s (State.poolRead s m ofs n).1 := by
  unfold State.poolRead
  refine Keeps.ite1 ?_ ?_
  · refine Keeps.mk1 ?_
    refine Keeps.after (State.poolRefuse_keeps _ _ _ _) rfl ?_
    exact Keeps.refl _ _
  · split
    · rename_i z6 z7 z8
      refine Keeps.mk1 ?_
      refine Keeps.after (State.uncorrectable_keeps _ _) rfl ?_
      exact Keeps.refl _ _
    · rename_i z12 z13
      refine Keeps.mk1 ?_
      exact Keeps.refl _ _

theorem State.poolStore_keeps (s : State) (ofs : Nat) (bs : List Byte) : Keeps 1073742336 s (State.poolStore s ofs bs) :=
  Keeps.pool_ (Keeps.refl _ _) rfl (.inr rfl) (.inl (wf_storeOctets _ _ _ _ _ _))

theorem State.poolWrite_keeps (s) (port) (m) (ofs) (bs) : Keeps 1207963136 s (State.poolWrite s port m ofs bs).1 := by
  unfold State.poolWrite
  refine Keeps.ite1 ?_ ?_
  · refine Keeps.mk1 ?_
    refine Keeps.after (State.poolRefuse_keeps _ _ _ _) rfl ?_
    exact Keeps.refl _ _
  · refine Keeps.mk1 ?_
    refine Keeps.after (chkPool_keeps _ _ _ _) rfl ?_
    refine Keeps.after (State.poolStore_keeps _ _ _) rfl ?_
    exact Keeps.refl _ _

theorem State.corrected_keeps (s) (ofs) : Keeps 512 s (State.corrected s ofs) := by
  unfold State.corrected
  refine Keeps.after (State.updBank_keeps _ _ _) rfl ?_
  exact Keeps.refl _ _

theorem State.writeLost_keeps (s) (ofs) : Keeps 512 s (State.writeLost s ofs) := by
  unfold State.writeLost
  refine Keeps.after (State.updBank_keeps _ _ _) rfl ?_
  exact Keeps.refl _ _

theorem State.spoil_keeps (s) (w) : Keeps 512 s (State.spoil s w) := by
  unfold State.spoil
  refine Keeps.ite ?_ ?_
  · exact Keeps.refl _ _
  · refine Keeps.pool_ (u := s) ?_ rfl (.inl rfl) (.inl (fun h => h))
    exact Keeps.refl _ _

theorem poolEccRead_keeps (b) (s) : Keeps 67109376 s (poolEccRead b s) := by
  unfold poolEccRead
  extract_lets v2
  clear_value v2
  refine Keeps.after (State.returns_keeps _ _) rfl ?_
  refine Keeps.after (State.setBank_keeps _ _ _) rfl ?_
  exact Keeps.refl _ _

theorem State.setEngine_keeps (s) (k) (r) : Keeps 32768 s (State.setEngine s k r) := by
  unfold State.setEngine
  refine Keeps.after (State.updChisel_keeps _ _ _) rfl ?_
  exact Keeps.refl _ _

theorem chsEntry_keeps (g) (s) : Keeps 34816 s (chsEntry g s) := by
  unfold chsEntry
  extract_lets v2
  clear_value v2
  split
  · rename_i z4 z5
    exact Keeps.refl _ _
  · rename_i z7 z8 z9
    refine Keeps.ite ?_ ?_
    · exact Keeps.refl _ _
    · refine Keeps.after (State.requestEntry_keeps _ _ _ _ _) rfl ?_
      refine Keeps.after (State.setChisel_keeps _ _ _) rfl ?_
      exact Keeps.refl _ _

theorem chsFault_keeps (k) (s) : Keeps 34816 s (chsFault k s) := by
  unfold chsFault
  extract_lets v2 v3 v4
  clear_value v2
  have hv3 : Keeps 34816 (s) v3 := by
    unfold v3
    refine Keeps.after (State.setEngine_keeps _ _ _) rfl ?_
    exact Keeps.refl _ _
  clear_value v3
  have hv4 : Keeps 34816 (s) v4 := by
    unfold v4
    refine Keeps.after (State.updChisel_keeps _ _ _) rfl ?_
    assumption
  clear_value v4
  refine Keeps.after (chsEntry_keeps _ _) rfl ?_
  assumption

theorem chsStep_keeps {m k : Nat} {s : State} {legal : ChsRun → Bool} {f : ChsRun → State → State} (hm : 34816 ||| m = m)
    (hf : ∀ r, Keeps m s (f r s)) : Res m s (chsStep k s legal f) := by
  unfold chsStep
  exact Res.onUnit (Keeps.ite (Keeps.refl _ _) (Keeps.ite (Keeps.after (chsFault_keeps _ _) hm (Keeps.refl _ _)) (hf _)))

theorem emitOn_keeps (k) (w) (n) (duplex) (ins) (r) (s) : Keeps 134250496 s (emitOn k w n duplex ins r s) := by
  unfold emitOn
  extract_lets v2
  clear_value v2
  refine Keeps.after (State.send_keeps _ _) rfl ?_
  refine Keeps.after (State.setEngine_keeps _ _ _) rfl ?_
  exact Keeps.refl _ _

theorem copySource_keeps (r) (src) (lvls) (s) : Keeps 268435456 s (copySource r src lvls s).2 := by
  unfold copySource
  split
  · rename_i z2
    refine Keeps.mk2 ?_
    exact Keeps.refl _ _
  · rename_i z5
    refine Keeps.mk2 ?_
    exact Keeps.refl _ _
  · rename_i z8
    refine Keeps.mk2 ?_
    exact Keeps.refl _ _
  · rename_i z11
    refine Keeps.mk2 ?_
    exact Keeps.refl _ _
  · rename_i z14
    split
    · rename_i z16 z17
      refine Keeps.after (State.freeBelow_keeps _ _) rfl ?_
      exact Keeps.refl _ _
    · rename_i z20 z21 z22 z23
      refine Keeps.mk2 ?_
      exact Keeps.refl _ _
  · rename_i z26
    refine Keeps.mk2 ?_
    exact Keeps.refl _ _
  · rename_i z29 z30 z31 z32 z33 z34 z35
    refine Keeps.mk2 ?_
    exact Keeps.refl _ _

theorem syncMatch_keeps (g) (f) (level) (s) : Keeps 32768 s (syncMatch g f level s) := by
  unfold syncMatch
  extract_lets v2 v3 v4 v5
  clear_value v2 v3 v4 v5
  refine Keeps.after (State.setChisel_keeps _ _ _) rfl ?_
  exact Keeps.refl _ _

theorem resumeEngine_keeps (k) (ins) (s) : Keeps 134250496 s (resumeEngine k ins s) := by
  unfold resumeEngine
  extract_lets v2 v3
  clear_value v2 v3
  split
  · rename_i z5 z6 z7 z8
    refine Keeps.ite ?_ ?_
    · extract_lets v11
      clear_value v11
      refine Keeps.after (State.setEngine_keeps _ _ _) rfl ?_
      exact Keeps.refl _ _
    · exact Keeps.refl _ _
  · rename_i z15 z16
    refine Keeps.ite ?_ ?_
    · exact Keeps.refl _ _
    · refine Keeps.after (State.setEngine_keeps _ _ _) rfl ?_
      exact Keeps.refl _ _
  · rename_i z21 z22 z23 z24 z25
    refine Keeps.ite ?_ ?_
    · exact Keeps.refl _ _
    · refine Keeps.after (emitOn_keeps _ _ _ _ _ _ _) rfl ?_
      exact Keeps.refl _ _
  · rename_i z30 z31 z32 z33
    refine Keeps.ite ?_ ?_
    · refine Keeps.after (emitOn_keeps _ _ _ _ _ _ _) rfl ?_
      exact Keeps.refl _ _
    · exact Keeps.refl _ _
  · rename_i z38 z39 z40 z41
    refine Keeps.ite ?_ ?_
    · refine Keeps.after (State.setEngine_keeps _ _ _) rfl ?_
      exact Keeps.refl _ _
    · exact Keeps.refl _ _
  · rename_i z46 z47
    exact Keeps.refl _ _
  · rename_i z49 z50 z51 z52 z53
    exact Keeps.refl _ _
  · rename_i z55 z56 z57 z58
    exact Keeps.refl _ _

theorem doutRead_keeps (k) (s) : Keeps 67141632 s (doutRead k s) := by
  unfold doutRead
  extract_lets v2
  clear_value v2
  split
  · rename_i z4 z5
    refine Keeps.after (State.returns_keeps _ _) rfl ?_
    refine Keeps.after (State.setEngine_keeps _ _ _) rfl ?_
    exact Keeps.refl _ _
  · rename_i z9 z10 z11 z12
    refine Keeps.after (State.returns_keeps _ _) rfl ?_
    refine Keeps.after (State.setEngine_keeps _ _ _) rfl ?_
    exact Keeps.refl _ _

theorem chsGcntRead_keeps (g) (s) : Keeps 67141632 s (chsGcntRead g s) := by
  unfold chsGcntRead
  extract_lets v2
  clear_value v2
  refine Keeps.after (State.returns_keeps _ _) rfl ?_
  refine Keeps.after (State.setChisel_keeps _ _ _) rfl ?_
  exact Keeps.refl _ _

theorem chsCntRead_keeps (k) (s) : Keeps 67141632 s (chsCntRead k s) := by
  unfold chsCntRead
  extract_lets v2
  clear_value v2
  refine Keeps.after (State.returns_keeps _ _) rfl ?_
  refine Keeps.after (State.setEngine_keeps _ _ _) rfl ?_
  exact Keeps.refl _ _

theorem onCan_keeps (n) (s) (f) : Res 65536 s (onCan n s f) := by
  unfold onCan
  refine Res.onUnit ?_
  refine Keeps.after (State.updCan_keeps _ _ _) rfl ?_
  exact Keeps.refl _ _

theorem canEntry_keeps (n) (arg) (s) : Keeps 2048 s (canEntry n arg s) := by
  unfold canEntry
  split
  · rename_i z2 z3
    exact Keeps.refl _ _
  · rename_i z5 z6 z7
    refine Keeps.after (State.requestEntry_keeps _ _ _ _ _) rfl ?_
    exact Keeps.refl _ _

theorem canReceive_keeps (n) (own) (f) (s) : Keeps 268503040 s (canReceive n own f s) := by
  unfold canReceive
  extract_lets v2 v3
  refine Keeps.ite ?_ ?_
  · exact Keeps.refl _ _
  · refine Keeps.ite ?_ ?_
    · refine Keeps.after (State.setCan_keeps _ _ _) rfl ?_
      exact Keeps.refl _ _
    · split
      rename_i z10 z11 z12 z13
      split
      rename_i z15 z16 z17 z18
      extract_lets v20
      have hv20 : Keeps 268503040 (s) v20 := by
        unfold v20
        refine Keeps.after (State.setCan_keeps _ _ _) rfl ?_
        refine Keeps.snd_eq z13 ?_
        refine Keeps.after (State.freeBelow_keeps _ _) rfl ?_
        exact Keeps.refl _ _
      clear_value v20
      split
      · rename_i z26
        assumption
      · rename_i z28 z29
        refine Keeps.after (canEntry_keeps _ _ _) rfl ?_
        assumption

theorem canChoice_keeps (n) (s) : Keeps 134283264 s (canChoice n s) := by
  unfold canChoice
  extract_lets v2
  clear_value v2
  refine Keeps.ite ?_ ?_
  · exact Keeps.refl _ _
  · split
    · rename_i z6 z7
      refine Keeps.after (State.setCan_keeps _ _ _) rfl ?_
      exact Keeps.refl _ _
    · rename_i z10 z11 z12
      refine Keeps.after (State.send_keeps _ _) rfl ?_
      refine Keeps.after (State.setCan_keeps _ _ _) rfl ?_
      exact Keeps.refl _ _

theorem canAttemptEnd_keeps (n) (r) (s) : Keeps 67584 s (canAttemptEnd n r s) := by
  unfold canAttemptEnd
  extract_lets v2
  clear_value v2
  split
  · rename_i z4 z5
    exact Keeps.refl _ _
  · rename_i z7 z8 z9
    extract_lets v11 v12
    clear_value v11
    have hv12 : Keeps 67584 (s) v12 := by
      unfold v12
      refine Keeps.after (State.setCan_keeps _ _ _) rfl ?_
      exact Keeps.refl _ _
    clear_value v12
    refine Keeps.ite ?_ ?_
    · refine Keeps.after (canEntry_keeps _ _ _) rfl ?_
      assumption
    · assumption

theorem canCnt0Read_keeps (n) (s) : Keeps 67174400 s (canCnt0Read n s) := by
  unfold canCnt0Read
  refine Keeps.after (State.returns_keeps _ _) rfl ?_
  refine Keeps.after (State.updCan_keeps _ _ _) rfl ?_
  exact Keeps.refl _ _

theorem canCnt1Read_keeps (n) (s) : Keeps 67174400 s (canCnt1Read n s) := by
  unfold canCnt1Read
  refine Keeps.after (State.returns_keeps _ _) rfl ?_
  refine Keeps.after (State.updCan_keeps _ _ _) rfl ?_
  exact Keeps.refl _ _

theorem closeCtxs_keeps (is) (s) : Keeps 8192 s (closeCtxs is s) := by
  unfold closeCtxs
  refine Keeps.foldl ?_ ?_
  · intro t2 x3
    refine Keeps.after (State.updCtx_keeps _ _ _) rfl ?_
    exact Keeps.refl _ _
  · exact Keeps.refl _ _

theorem ownerLost_keeps (e) (s) : Keeps 98304 s (ownerLost e s) := by
  unfold ownerLost
  extract_lets v2
  have hv2 : Keeps 98304 (s) v2 := by
    unfold v2
    refine Keeps.foldl ?_ ?_
    · intro t4 x5
      refine Keeps.ite ?_ ?_
      · refine Keeps.after (State.updChisel_keeps _ _ _) rfl ?_
        exact Keeps.refl _ _
      · exact Keeps.refl _ _
    · exact Keeps.refl _ _
  clear_value v2
  refine Keeps.foldl ?_ ?_
  · intro t12 x13
    refine Keeps.ite ?_ ?_
    · refine Keeps.after (State.updCan_keeps _ _ _) rfl ?_
      exact Keeps.refl _ _
    · exact Keeps.refl _ _
  · assumption

theorem restartLathe_keeps (e) (s) : Keeps 1074375168 s (restartLathe e s) := by
  unfold restartLathe
  extract_lets v2 v3 v4 v5 v6 v7
  clear_value v2 v5
  have hv3 : Keeps 1074375168 (s) v3 := by
    unfold v3
    refine Keeps.after (closeCtxs_keeps _ _) rfl ?_
    exact Keeps.refl _ _
  clear_value v3
  have hv4 : Keeps 1074375168 (s) v4 := by
    unfold v4
    refine Keeps.after (State.memPut_keeps _ _ _) rfl ?_
    assumption
  clear_value v4
  have hv6 : Keeps 1074375168 (s) v6 := by
    unfold v6
    refine Keeps.after (State.setLathe_keeps _ _ _) rfl ?_
    assumption
  clear_value v6
  have hv7 : Keeps 1074375168 (s) v7 := by
    unfold v7
    refine Keeps.after (ownerLost_keeps _ _) rfl ?_
    assumption
  clear_value v7
  refine Keeps.ite ?_ ?_
  · exact Keeps.refl _ _
  · refine Keeps.ite ?_ ?_
    · refine Keeps.after (State.doom_keeps _ _ _) rfl ?_
      assumption
    · assumption

theorem State.exception_keeps (s) (e) (v) (cause) (trap) (inBlk) (addr) (data) (next) : Keeps 1074375168 s (State.exception s e v cause trap inBlk addr data next) := by
  unfold State.exception
  extract_lets v2 v3 v4 v5
  clear_value v2 v3 v4 v5
  refine Keeps.ite ?_ ?_
  · refine Keeps.after (State.setLathe_keeps _ _ _) rfl ?_
    exact Keeps.refl _ _
  · refine Keeps.after (restartLathe_keeps _ _) rfl ?_
    refine Keeps.after (State.setLathe_keeps _ _ _) rfl ?_
    exact Keeps.refl _ _

theorem State.accessFault_keeps (s) (e) : Keeps 2048 s (State.accessFault s e) := by
  unfold State.accessFault
  refine Keeps.after (State.updLathe_keeps _ _ _) rfl ?_
  exact Keeps.refl _ _

theorem endMigration_keeps (e) (s) : Keeps 2048 s (endMigration e s) := by
  unfold endMigration
  refine Keeps.after (State.updLathe_keeps _ _ _) rfl ?_
  exact Keeps.refl _ _

theorem migrateFrom_keeps (e) (x1) (x2) : Keeps 10240 x2 (migrateFrom e x1 x2) := by
  induction x1 generalizing e x2
  · unfold migrateFrom
    refine Keeps.after (State.updLathe_keeps _ _ _) rfl ?_
    exact Keeps.refl _ _
  · rename_i z3 z4 z5
    unfold migrateFrom
    extract_lets v7 v8 v9
    clear_value v7 v8 v9
    refine Keeps.ite ?_ ?_
    · refine Keeps.trans ?_ (z5 _ _)
      exact Keeps.refl _ _
    · refine Keeps.ite ?_ ?_
      · refine Keeps.after (State.setLathe_keeps _ _ _) rfl ?_
        exact Keeps.refl _ _
      · refine Keeps.ite ?_ ?_
        · refine Keeps.trans ?_ (z5 _ _)
          exact Keeps.refl _ _
        · refine Keeps.trans ?_ (z5 _ _)
          refine Keeps.after (State.setCtx_keeps _ _ _) rfl ?_
          exact Keeps.refl _ _

theorem endPhaseWork_keeps (e) (s) : Keeps 10240 s (endPhaseWork e s) := by
  unfold endPhaseWork
  extract_lets v2 v3
  clear_value v3
  have hv2 : Keeps 10240 (s) v2 := by
    unfold v2
    refine Keeps.after (State.updLathe_keeps _ _ _) rfl ?_
    exact Keeps.refl _ _
  clear_value v2
  refine Keeps.ite ?_ ?_
  · refine Keeps.after (migrateFrom_keeps _ _ _) rfl ?_
    refine Keeps.after (State.setLathe_keeps _ _ _) rfl ?_
    assumption
  · refine Keeps.ite ?_ ?_
    · refine Keeps.after (State.setLathe_keeps _ _ _) rfl ?_
      assumption
    · assumption

theorem phaseEvent_keeps (e) (code) (s) : Keeps 10240 s (phaseEvent e code s) := by
  unfold phaseEvent
  extract_lets v2 v3 v4 v5 v6
  clear_value v2 v3 v6
  have hv4 : Keeps 10240 (s) v4 := by
    unfold v4
    refine Keeps.ite ?_ ?_
    · exact Keeps.refl _ _
    · refine Keeps.after (State.updLathe_keeps _ _ _) rfl ?_
      refine Keeps.after (closeCtxs_keeps _ _) rfl ?_
      exact Keeps.refl _ _
  clear_value v4
  have hv5 : Keeps 10240 (s) v5 := by
    unfold v5
    refine Keeps.ite ?_ ?_
    · refine Keeps.after (endMigration_keeps _ _) rfl ?_
      assumption
    · exact Keeps.refl _ _
  clear_value v5
  refine Keeps.ite ?_ ?_
  · exact Keeps.refl _ _
  · refine Keeps.ite ?_ ?_
    · assumption
    · refine Keeps.after (State.setLathe_keeps _ _ _) rfl ?_
      assumption

theorem phaseEvents_keeps (code) (s) : Keeps 10240 s (phaseEvents code s) := by
  unfold phaseEvents
  refine Keeps.foldl ?_ ?_
  · intro t2 x3
    refine Keeps.after (phaseEvent_keeps _ _ _) rfl ?_
    exact Keeps.refl _ _
  · exact Keeps.refl _ _

theorem enterReceive_keeps (e) (s) : Keeps 34816 s (enterReceive e s) := by
  unfold enterReceive
  extract_lets v2
  clear_value v2
  split
  · rename_i z4 z5
    exact Keeps.refl _ _
  · rename_i z7 z8 z9 z10
    refine Keeps.ite ?_ ?_
    · exact Keeps.refl _ _
    · extract_lets v14
      have hv14 : Keeps 34816 (s) v14 := by
        unfold v14
        refine Keeps.after (State.setLathe_keeps _ _ _) rfl ?_
        exact Keeps.refl _ _
      clear_value v14
      refine Keeps.ite ?_ ?_
      · refine Keeps.after (State.updChisel_keeps _ _ _) rfl ?_
        assumption
      · assumption

theorem stageWrite_keeps (e) (ofs) (bs) (s) : Keeps 2048 s (stageWrite e ofs bs s) := by
  unfold stageWrite
  extract_lets v2 v3 v4
  clear_value v2 v3 v4
  refine Keeps.after (State.setLathe_keeps _ _ _) rfl ?_
  exact Keeps.refl _ _

theorem postWrite_keeps (e) (w) (s) : Keeps 2048 s (postWrite e w s) := by
  unfold postWrite
  extract_lets v2 v3 v4 v5 v6 v7
  clear_value v2 v3 v4 v6 v7
  have hv5 : ∀ a8 a9, Keeps 2048 (s) (v5 a8 a9) := by
    intro a8 a9
    unfold v5
    refine Keeps.after (State.setLathe_keeps _ _ _) rfl ?_
    exact Keeps.refl _ _
  clear_value v5
  split
  · rename_i z13 z14
    exact Keeps.refl _ _
  · rename_i z16 z17 z18
    extract_lets v20 v21 v22 v23
    clear_value v20 v21 v22 v23
    refine Keeps.ite ?_ ?_
    · refine Keeps.ite ?_ ?_
      · refine Keeps.trans ?_ (hv5 _ _)
        exact Keeps.refl _ _
      · refine Keeps.trans ?_ (hv5 _ _)
        exact Keeps.refl _ _
    · refine Keeps.trans ?_ (hv5 _ _)
      exact Keeps.refl _ _

theorem telemWrite_keeps (e) (w) (s) : Keeps 526400 s (telemWrite e w s) := by
  unfold telemWrite
  extract_lets v2 v3 v4 v5 v6 v7
  clear_value v2 v3 v4 v5
  have hv6 : Keeps 526400 (s) v6 := by
    unfold v6
    refine Keeps.after (State.setLathe_keeps _ _ _) rfl ?_
    exact Keeps.refl _ _
  clear_value v6
  have hv7 : Keeps 526400 (s) v7 := by
    unfold v7
    refine Keeps.after (State.stream_keeps _ _ _ _ _) rfl ?_
    assumption
  clear_value v7
  refine Keeps.ite ?_ ?_
  · refine Keeps.after (State.setLathe_keeps _ _ _) rfl ?_
    exact Keeps.refl _ _
  · refine Keeps.ite ?_ ?_
    · refine Keeps.after (State.record_keeps _ _ _ _) rfl ?_
      refine Keeps.after (State.record_keeps _ _ _ _) rfl ?_
      assumption
    · assumption

theorem initStart_keeps (e) (s) : Keeps 2048 s (initStart e s) := by
  unfold initStart
  extract_lets v2
  clear_value v2
  refine Keeps.ite ?_ ?_
  · exact Keeps.refl _ _
  · refine Keeps.after (State.setLathe_keeps _ _ _) rfl ?_
    exact Keeps.refl _ _

theorem swapExecute_keeps (e) (s) : Keeps 526785 s (swapExecute e s) := by
  unfold swapExecute
  extract_lets v2
  clear_value v2
  split
  · rename_i z4 z5
    exact Keeps.refl _ _
  · rename_i z7 z8 z9
    extract_lets v11 v12
    have hv11 : Keeps 526785 (s) v11 := by
      unfold v11
      refine Keeps.after (State.advanceTo_keeps _ _) rfl ?_
      exact Keeps.refl _ _
    clear_value v11
    have hv12 : Keeps 526785 (s) v12 := by
      unfold v12
      refine Keeps.after (State.setLathe_keeps _ _ _) rfl ?_
      assumption
    clear_value v12
    refine Keeps.after (State.event_keeps _ _ _ _ _) rfl ?_
    refine Keeps.after (State.breakLocksOf_keeps _ _) rfl ?_
    assumption

end Sys2Proof.Machine
end

