-- ==== Sys2Proof/Laws/FramesCell.lean ====
section
/-! SUPPORT. Frames, one lemma per function: output assembly, axis commands, the cell and the claims. The mask names the parts a function may change
(`Part.bit`); every other part is as before. -/

namespace Sys2Proof.Machine

theorem ddStage_keeps (a) (s) : Keeps 139985089 s (ddStage a s) := by
  unfold ddStage
  extract_lets v2 v3 v4 v5 v6 v7 v8 v9
  clear_value v2 v3 v4 v5 v6 v8
  have hv7 : Keeps 139985089 (s) v7 := by
    unfold v7
    refine Keeps.after (State.setAxis_keeps _ _ _) rfl ?_
    exact Keeps.refl _ _
  clear_value v7
  have hv9 : Keeps 139985089 (s) v9 := by
    unfold v9
    refine Keeps.ite ?_ ?_
    · refine Keeps.after (State.axisFault_keeps _ _ _) rfl ?_
      assumption
    · assumption
  clear_value v9
  refine Keeps.ite ?_ ?_
  · exact Keeps.refl _ _
  · refine Keeps.ite ?_ ?_
    · refine Keeps.after (State.axisFault_keeps _ _ _) rfl ?_
      assumption
    · refine Keeps.ite ?_ ?_
      · refine Keeps.after (State.axisFault_keeps _ _ _) rfl ?_
        assumption
      · assumption

theorem overrun_keeps (a) (s) : Keeps 139985091 s (overrun a s) := by
  unfold overrun
  extract_lets v2 v3 v4 v5 v6 v7 v8 v9 v10
  clear_value v2 v3 v4 v5 v6 v9
  have hv7 : Keeps 139985091 (s) v7 := by
    unfold v7
    refine Keeps.after (State.setAxis_keeps _ _ _) rfl ?_
    exact Keeps.refl _ _
  clear_value v7
  have hv10 : Keeps 139985091 (s) v10 := by
    unfold v10
    refine Keeps.cell_ (u := v7) ?_ rfl (.inl rfl) (.inl rfl) (.inl rfl) (.inl rfl)
    assumption
  clear_value v10
  refine Keeps.ite ?_ ?_
  · exact Keeps.refl _ _
  · refine Keeps.ite ?_ ?_
    · refine Keeps.after (State.axisFault_keeps _ _ _) rfl ?_
      assumption
    · assumption

theorem sealFlags_keeps (a) (s) : Keeps 1048576 s (sealFlags a s) := by
  unfold sealFlags
  refine Keeps.after (State.updAxis_keeps _ _ _) rfl ?_
  exact Keeps.refl _ _

theorem writeRecords_keeps (n) (s) : Keeps 2048 s (writeRecords n s) := by
  unfold writeRecords
  extract_lets v2
  clear_value v2
  refine Keeps.foldl ?_ ?_
  · intro t4 x5
    extract_lets v7
    clear_value v7
    refine Keeps.after (State.updLathe_keeps _ _ _) rfl ?_
    exact Keeps.refl _ _
  · exact Keeps.refl _ _

theorem syncBack_keeps (n) (s) : Keeps 1048576 s (syncBack n s) := by
  unfold syncBack
  refine Keeps.after (State.updArm_keeps _ _ _) rfl ?_
  exact Keeps.refl _ _

theorem outputSeal_keeps (s) : Keeps 139987139 s (outputSeal s) := by
  unfold outputSeal
  extract_lets v2 v3 v4 v5 v6 v7 v8 v9 v10
  clear_value v3
  have hv2 : Keeps 139987139 (s) v2 := by
    unfold v2
    refine Keeps.after (State.advanceTo_keeps _ _) rfl ?_
    exact Keeps.refl _ _
  clear_value v2
  have hv4 : Keeps 139987139 (s) v4 := by
    unfold v4
    refine Keeps.foldl ?_ ?_
    · intro t14 x15
      refine Keeps.after (overrun_keeps _ _) rfl ?_
      exact Keeps.refl _ _
    · assumption
  clear_value v4
  have hv5 : Keeps 139987139 (s) v5 := by
    unfold v5
    refine Keeps.foldl ?_ ?_
    · intro t20 x21
      refine Keeps.after (ddStage_keeps _ _) rfl ?_
      exact Keeps.refl _ _
    · assumption
  clear_value v5
  have hv6 : Keeps 139987139 (s) v6 := by
    unfold v6
    refine Keeps.foldl ?_ ?_
    · intro t26 x27
      refine Keeps.after (sealFlags_keeps _ _) rfl ?_
      exact Keeps.refl _ _
    · assumption
  clear_value v6
  have hv7 : Keeps 139987139 (s) v7 := by
    unfold v7
    refine Keeps.foldl ?_ ?_
    · intro t32 x33
      refine Keeps.ite ?_ ?_
      · refine Keeps.after (writeRecords_keeps _ _) rfl ?_
        exact Keeps.refl _ _
      · exact Keeps.refl _ _
    · assumption
  clear_value v7
  have hv8 : Keeps 139987139 (s) v8 := by
    unfold v8
    refine Keeps.foldl ?_ ?_
    · intro t40 x41
      refine Keeps.ite ?_ ?_
      · refine Keeps.after (syncBack_keeps _ _) rfl ?_
        exact Keeps.refl _ _
      · exact Keeps.refl _ _
    · assumption
  clear_value v8
  have hv9 : Keeps 139987139 (s) v9 := by
    unfold v9
    refine Keeps.foldl ?_ ?_
    · intro t48 x49
      refine Keeps.after (State.updAxis_keeps _ _ _) rfl ?_
      exact Keeps.refl _ _
    · assumption
  clear_value v9
  refine Keeps.cell_ (u := v9) ?_ rfl (.inl rfl) (.inl rfl) (.inl rfl) (.inl rfl)
  assumption

theorem ddEdge_keeps (a) (s) : Keeps 135266304 s (ddEdge a s) := by
  unfold ddEdge
  extract_lets v2 v3 v4 v5 v6
  clear_value v2 v3 v4 v5
  have hv6 : Keeps 135266304 (s) v6 := by
    unfold v6
    refine Keeps.after (State.setAxis_keeps _ _ _) rfl ?_
    exact Keeps.refl _ _
  clear_value v6
  refine Keeps.ite ?_ ?_
  · exact Keeps.refl _ _
  · refine Keeps.ite ?_ ?_
    · refine Keeps.after (State.send_keeps _ _) rfl ?_
      assumption
    · assumption

theorem enterMode_keeps (ax) (m) (s) : Keeps 5242880 s (enterMode ax m s) := by
  unfold enterMode
  extract_lets v2 v3 v4 v5 v6 v7 v8
  clear_value v2 v3 v4 v5 v6
  have hv7 : Keeps 5242880 (s) v7 := by
    unfold v7
    refine Keeps.after (State.setAxis_keeps _ _ _) rfl ?_
    exact Keeps.refl _ _
  clear_value v7
  refine Keeps.ite ?_ ?_
  · refine Keeps.ite ?_ ?_
    · refine Keeps.glume_ (u := v7) ?_ rfl (.inl rfl) (.inl rfl)
      assumption
    · assumption
  · refine Keeps.after (State.setAxis_keeps _ _ _) rfl ?_
    exact Keeps.refl _ _

theorem leaveToDisabled_keeps (ax) (s) : Keeps 5242880 s (leaveToDisabled ax s) := by
  unfold leaveToDisabled
  extract_lets v2 v3 v4 v5
  clear_value v2
  have hv3 : Keeps 5242880 (s) v3 := by
    unfold v3
    split
    · rename_i z7 z8 z9
      refine Keeps.after (State.setGen_keeps _ _ _ _) rfl ?_
      exact Keeps.refl _ _
    · rename_i z12 z13
      exact Keeps.refl _ _
  clear_value v3
  have hv4 : Keeps 5242880 (s) v4 := by
    unfold v4
    refine Keeps.after (State.updAxis_keeps _ _ _) rfl ?_
    assumption
  clear_value v4
  refine Keeps.glume_ (u := v4) ?_ rfl (.inl rfl) (.inl rfl)
  assumption

theorem runAxisSetMode_keeps (h) (a) (s) : Keeps 5242880 s (runAxisSetMode h a s).1 := by
  unfold runAxisSetMode
  extract_lets v2 v3 v4 v5 v6 v7 v8 v9 v10 v11
  clear_value v2 v3 v4 v5 v6 v7 v8
  have hv9 : Keeps 5242880 (s) v9 := by
    unfold v9
    refine Keeps.after (State.updAxis_keeps _ _ _) rfl ?_
    exact Keeps.refl _ _
  clear_value v9
  have hv11 : Keeps 5242880 (s) v11 := by
    unfold v11
    refine Keeps.ite ?_ ?_
    · exact Keeps.refl _ _
    · refine Keeps.ite ?_ ?_
      · refine Keeps.ite ?_ ?_
        · refine Keeps.glume_ (u := v9) ?_ rfl (.inl rfl) (.inl rfl)
          assumption
        · refine Keeps.after (leaveToDisabled_keeps _ _) rfl ?_
          exact Keeps.refl _ _
      · refine Keeps.after (enterMode_keeps _ _ _) rfl ?_
        exact Keeps.refl _ _
  clear_value v11
  refine tested_keeps ?_ ?_
  · exact Keeps.refl _ _
  · refine Keeps.after (okReply_keeps _) rfl ?_
    assumption

theorem runAxisMove_keeps (h) (a) (s) : Keeps 270008512 s (runAxisMove h a s).1 := by
  unfold runAxisMove
  extract_lets v2 v3 v4 v5 v6 v7 v8 v9 v10 v11 v12 v13
  clear_value v2 v3 v4 v5 v6 v7 v8 v9 v10 v11
  have hv12 : ∀ a14, Keeps 270008512 a14 (v12 a14) := by
    intro a14
    unfold v12
    refine Keeps.ite ?_ ?_
    · refine Keeps.after (State.event_keeps _ _ _ _ _) rfl ?_
      exact Keeps.refl _ _
    · exact Keeps.refl _ _
  clear_value v12
  have hv13 : Keeps 270008512 (s) v13 := by
    unfold v13
    refine Keeps.ite ?_ ?_
    · refine Keeps.after (State.updGen_keeps _ _ _) rfl ?_
      exact Keeps.refl _ _
    · refine Keeps.after (planTo_keeps _ _ _ _ _) rfl ?_
      refine Keeps.trans ?_ (hv12 _)
      exact Keeps.refl _ _
  clear_value v13
  refine tested_keeps ?_ ?_
  · exact Keeps.refl _ _
  · refine Keeps.after (okReply_keeps _) rfl ?_
    assumption

theorem runAxisMoveVel_keeps (h) (a) (s) : Keeps 270008512 s (runAxisMoveVel h a s).1 := by
  unfold runAxisMoveVel
  extract_lets v2 v3 v4
  clear_value v2 v3 v4
  refine tested_keeps ?_ ?_
  · exact Keeps.refl _ _
  · refine Keeps.after (okReply_keeps _) rfl ?_
    refine Keeps.after (planSpeed_keeps _ _ _) rfl ?_
    exact Keeps.refl _ _

theorem runAxisHold_keeps (h) (a) (s) : Keeps 269484032 s (runAxisHold h a s).1 := by
  unfold runAxisHold
  extract_lets v2 v3 v4
  clear_value v2 v3
  have hv4 : Keeps 269484032 (s) v4.1 := by
    unfold v4
    refine Keeps.after (holdOwner_keeps _ _ _) rfl ?_
    exact Keeps.refl _ _
  clear_value v4
  refine tested_keeps ?_ ?_
  · exact Keeps.refl _ _
  · refine Keeps.ite1 ?_ ?_
    · refine Keeps.after (warnReply_keeps _ _ _) rfl ?_
      assumption
    · refine Keeps.after (okReply_keeps _) rfl ?_
      assumption

theorem runAxisResume_keeps (h) (a) (s) : Keeps 1048576 s (runAxisResume h a s).1 := by
  unfold runAxisResume
  extract_lets v2 v3
  clear_value v2 v3
  refine tested_keeps ?_ ?_
  · exact Keeps.refl _ _
  · refine Keeps.after (okReply_keeps _) rfl ?_
    refine Keeps.after (resumeOwner_keeps _ _) rfl ?_
    exact Keeps.refl _ _

theorem stopAxis_keeps (ax) (s) : Keeps 280494273 s (stopAxis ax s) := by
  unfold stopAxis
  extract_lets v2
  have hv2 : Keeps 280494273 (s) v2 := by
    unfold v2
    refine Keeps.after (State.endHoming_keeps _ _ _) rfl ?_
    exact Keeps.refl _ _
  clear_value v2
  refine Keeps.after (State.updAxis_keeps _ _ _) rfl ?_
  refine Keeps.after (stopOwner_keeps _ _) rfl ?_
  assumption

theorem runAxisStop_keeps (h) (a) (s) : Keeps 280494273 s (runAxisStop h a s).1 := by
  unfold runAxisStop
  extract_lets v2
  clear_value v2
  refine tested_keeps ?_ ?_
  · exact Keeps.refl _ _
  · refine Keeps.after (okReply_keeps _) rfl ?_
    refine Keeps.after (stopAxis_keeps _ _) rfl ?_
    exact Keeps.refl _ _

theorem engage_keeps (ax) (f) (s) : Keeps 1048576 s (engage ax f s) := by
  unfold engage
  extract_lets v2 v3 v4 v5 v6 v7 v8
  clear_value v3 v4 v6 v7
  have hv2 : Keeps 1048576 (s) v2 := by
    unfold v2
    refine Keeps.after (adoptAll_keeps _ _) rfl ?_
    exact Keeps.refl _ _
  clear_value v2
  have hv5 : Keeps 1048576 (s) v5 := by
    unfold v5
    refine Keeps.after (fromC_keeps _ _ _) rfl ?_
    assumption
  clear_value v5
  have hv8 : Keeps 1048576 (s) v8 := by
    unfold v8
    refine Keeps.after (State.updGen_keeps _ _ _) rfl ?_
    assumption
  clear_value v8
  refine Keeps.after (State.updAxis_keeps _ _ _) rfl ?_
  assumption

theorem runAxisGear_keeps (h) (a) (s) : Keeps 1048576 s (runAxisGear h a s).1 := by
  unfold runAxisGear
  extract_lets v2 v3 v4 v5 v6 v7 v8
  clear_value v2 v3 v4 v5 v6 v7 v8
  refine tested_keeps ?_ ?_
  · exact Keeps.refl _ _
  · refine Keeps.after (okReply_keeps _) rfl ?_
    refine Keeps.after (engage_keeps _ _ _) rfl ?_
    exact Keeps.refl _ _

theorem runAxisCam_keeps (h) (a) (s) : Keeps 1048576 s (runAxisCam h a s).1 := by
  unfold runAxisCam
  extract_lets v2 v3 v4 v5 v6 v7
  clear_value v2 v3 v4 v5 v6 v7
  refine tested_keeps ?_ ?_
  · exact Keeps.refl _ _
  · refine Keeps.after (okReply_keeps _) rfl ?_
    refine Keeps.after (engage_keeps _ _ _) rfl ?_
    exact Keeps.refl _ _

theorem beginHoming_keeps (ax) (h) (s) : Keeps 270008513 s (beginHoming ax h s) := by
  unfold beginHoming
  extract_lets v2 v3 v4 v5 v6 v7 v8
  clear_value v2 v3 v4 v5 v8
  have hv6 : Keeps 270008513 (s) v6 := by
    unfold v6
    refine Keeps.after (State.setAxis_keeps _ _ _) rfl ?_
    exact Keeps.refl _ _
  clear_value v6
  have hv7 : Keeps 270008513 (s) v7 := by
    unfold v7
    refine Keeps.ite ?_ ?_
    · refine Keeps.after (State.updCap_keeps _ _ _) rfl ?_
      assumption
    · assumption
  clear_value v7
  split
  · rename_i z16 z17
    refine Keeps.ite ?_ ?_
    · refine Keeps.after (startPhase_keeps _ _ _ _ _) rfl ?_
      assumption
    · refine Keeps.after (startPhase_keeps _ _ _ _ _) rfl ?_
      assumption
  · rename_i z23 z24
    refine Keeps.ite ?_ ?_
    · refine Keeps.after (startPhase_keeps _ _ _ _ _) rfl ?_
      assumption
    · refine Keeps.after (startPhase_keeps _ _ _ _ _) rfl ?_
      assumption
  · rename_i z30 z31
    refine Keeps.ite ?_ ?_
    · refine Keeps.after (startPhase_keeps _ _ _ _ _) rfl ?_
      assumption
    · refine Keeps.after (startPhase_keeps _ _ _ _ _) rfl ?_
      assumption
  · rename_i z37 z38
    refine Keeps.ite ?_ ?_
    · refine Keeps.after (startPhase_keeps _ _ _ _ _) rfl ?_
      assumption
    · refine Keeps.after (startPhase_keeps _ _ _ _ _) rfl ?_
      assumption
  · rename_i z44 z45
    refine Keeps.after (startPhase_keeps _ _ _ _ _) rfl ?_
    assumption
  · rename_i z48 z49
    refine Keeps.after (startPhase_keeps _ _ _ _ _) rfl ?_
    assumption
  · rename_i z52 z53 z54 z55 z56 z57 z58
    refine Keeps.after (State.updAxis_keeps _ _ _) rfl ?_
    assumption

theorem runAxisHome_keeps (hd) (a) (s) : Keeps 270008513 s (runAxisHome hd a s).1 := by
  unfold runAxisHome
  extract_lets v2 v3 v4 v5 v6 v7 v8 v9 v10
  clear_value v2 v3 v4 v5 v6 v7 v8 v9 v10
  refine tested_keeps ?_ ?_
  · exact Keeps.refl _ _
  · refine Keeps.after (okReply_keeps _) rfl ?_
    refine Keeps.after (beginHoming_keeps _ _ _) rfl ?_
    exact Keeps.refl _ _

theorem jogAxis_keeps (ax) (v) (step) (keep) (s) : Keeps 274202816 s (jogAxis ax v step keep s) := by
  unfold jogAxis
  extract_lets v2 v3 v4 v5 v6 v7 v8
  clear_value v2 v4 v5 v6 v7
  have hv3 : Keeps 274202816 (s) v3 := by
    unfold v3
    refine Keeps.ite ?_ ?_
    · exact Keeps.refl _ _
    · refine Keeps.after (enterMode_keeps _ _ _) rfl ?_
      exact Keeps.refl _ _
  clear_value v3
  have hv8 : Keeps 274202816 (s) v8 := by
    unfold v8
    refine Keeps.ite ?_ ?_
    · assumption
    · refine Keeps.after (State.event_keeps _ _ _ _ _) rfl ?_
      assumption
  clear_value v8
  refine Keeps.ite ?_ ?_
  · refine Keeps.after (State.updAxis_keeps _ _ _) rfl ?_
    refine Keeps.after (planSpeed_keeps _ _ _) rfl ?_
    assumption
  · refine Keeps.after (State.updAxis_keeps _ _ _) rfl ?_
    refine Keeps.after (planTo_keeps _ _ _ _ _) rfl ?_
    assumption

theorem runAxisJog_keeps (h) (a) (s) : Keeps 274202816 s (runAxisJog h a s).1 := by
  unfold runAxisJog
  extract_lets v2 v3 v4 v5 v6 v7 v8 v9
  clear_value v2 v3 v4 v5 v6 v7 v8
  have hv9 : Keeps 274202816 (s) v9 := by
    unfold v9
    refine Keeps.after (jogAxis_keeps _ _ _ _ _) rfl ?_
    exact Keeps.refl _ _
  clear_value v9
  refine tested_keeps ?_ ?_
  · exact Keeps.refl _ _
  · refine Keeps.ite1 ?_ ?_
    · refine Keeps.after (warnReply_keeps _ _ _) rfl ?_
      assumption
    · refine Keeps.after (okReply_keeps _) rfl ?_
      assumption

theorem runAxisDdAlign_keeps (h) (a) (s) : Keeps 5242880 s (runAxisDdAlign h a s).1 := by
  unfold runAxisDdAlign
  extract_lets v2 v3 v4 v5 v6 v7 v8 v9
  clear_value v2 v3 v4 v5 v6
  have hv7 : Keeps 5242880 (s) v7 := by
    unfold v7
    refine Keeps.after (State.setAxis_keeps _ _ _) rfl ?_
    exact Keeps.refl _ _
  clear_value v7
  have hv9 : Keeps 5242880 (s) v9 := by
    unfold v9
    refine Keeps.ite ?_ ?_
    · refine Keeps.glume_ (u := v7) ?_ rfl (.inl rfl) (.inl rfl)
      assumption
    · assumption
  clear_value v9
  refine tested_keeps ?_ ?_
  · exact Keeps.refl _ _
  · refine Keeps.mk1 ?_
    assumption

theorem failHoming_keeps (a) (code) (s) : Keeps 280494273 s (failHoming a code s) := by
  unfold failHoming
  split
  · rename_i z2 z3
    exact Keeps.refl _ _
  · rename_i z5 z6 z7
    extract_lets v9 v10
    have hv9 : Keeps 280494273 (s) v9 := by
      unfold v9
      refine Keeps.after (State.updCap_keeps _ _ _) rfl ?_
      exact Keeps.refl _ _
    clear_value v9
    have hv10 : Keeps 280494273 (s) v10 := by
      unfold v10
      refine Keeps.after (State.endHoming_keeps _ _ _) rfl ?_
      assumption
    clear_value v10
    refine Keeps.after (stopOwner_keeps _ _) rfl ?_
    assumption

theorem runSysIdentify_keeps (h) (a) (s) : Keeps 0 s (runSysIdentify h a s).1 := by
  unfold runSysIdentify
  refine tested_keeps ?_ ?_
  · exact Keeps.refl _ _
  · refine Keeps.after (dataReply_keeps _ _) rfl ?_
    exact Keeps.refl _ _

theorem giveBank_keeps (p) (b) (s) : Keeps 640 s (giveBank p b s) := by
  unfold giveBank
  extract_lets v2 v3
  clear_value v3
  have hv2 : Keeps 640 (s) v2 := by
    unfold v2
    refine Keeps.after (State.updBank_keeps _ _ _) rfl ?_
    exact Keeps.refl _ _
  clear_value v2
  refine Keeps.after (State.setPort_keeps _ _ _) rfl ?_
  assumption

theorem runSysHostSetup_keeps (h) (a) (s) : Keeps 640 s (runSysHostSetup h a s).1 := by
  unfold runSysHostSetup
  extract_lets v2 v3 v4 v5 v6 v7 v8 v9 v10
  clear_value v2 v3 v4 v5 v6 v7 v8
  have hv9 : Keeps 640 (s) v9 := by
    unfold v9
    refine Keeps.after (State.setPort_keeps _ _ _) rfl ?_
    exact Keeps.refl _ _
  clear_value v9
  have hv10 : Keeps 640 (s) v10 := by
    unfold v10
    refine Keeps.foldl ?_ ?_
    · intro t14 x15
      refine Keeps.after (giveBank_keeps _ _ _) rfl ?_
      exact Keeps.refl _ _
    · assumption
  clear_value v10
  refine tested_keeps ?_ ?_
  · exact Keeps.refl _ _
  · refine Keeps.after (okReply_keeps _) rfl ?_
    assumption

theorem runSysStatus_keeps (h) (a) (s) : Keeps 0 s (runSysStatus h a s).1 := by
  unfold runSysStatus
  extract_lets v2
  clear_value v2
  refine tested_keeps ?_ ?_
  · exact Keeps.refl _ _
  · refine Keeps.after (dataReply_keeps _ _) rfl ?_
    exact Keeps.refl _ _

theorem runSysCancel_keeps (h) (a) (s) : Keeps 128 s (runSysCancel h a s).1 := by
  unfold runSysCancel
  extract_lets v2 v3 v4 v5
  clear_value v2 v3
  have hv5 : Keeps 128 (s) v5 := by
    unfold v5
    refine Keeps.host_ (u := s) ?_ rfl
    exact Keeps.refl _ _
  clear_value v5
  refine tested_keeps ?_ ?_
  · exact Keeps.refl _ _
  · refine Keeps.ite1 ?_ ?_
    · refine Keeps.after (okReply_keeps _) rfl ?_
      assumption
    · refine Keeps.mk1 ?_
      exact Keeps.refl _ _

theorem runSysEventMask_keeps (h) (a) (s) : Keeps 128 s (runSysEventMask h a s).1 := by
  unfold runSysEventMask
  extract_lets v2
  clear_value v2
  refine tested_keeps ?_ ?_
  · exact Keeps.refl _ _
  · refine Keeps.after (okReply_keeps _) rfl ?_
    refine Keeps.after (State.setPort_keeps _ _ _) rfl ?_
    exact Keeps.refl _ _

theorem runSysReset_keeps (h) (a) (s) : Keeps 4 s (runSysReset h a s).1 := by
  unfold runSysReset
  extract_lets v2 v3
  clear_value v2
  refine tested_keeps ?_ ?_
  · exact Keeps.refl _ _
  · refine Keeps.after (okReply_keeps _) rfl ?_
    refine Keeps.power_ (u := s) ?_ rfl (.inl rfl) (.inl (Nat.le_refl _))
    exact Keeps.refl _ _

theorem State.tell_keeps (s) (dst) (r) : Keeps 8388608 s (State.tell s dst r) := by
  unfold State.tell
  refine Keeps.fab_ (u := s) ?_ rfl
  exact Keeps.refl _ _

theorem runCellSetTick_keeps (h) (a) (s) : Keeps 4571791362 s (runCellSetTick h a s).1 := by
  unfold runCellSetTick
  extract_lets v2 v3 v4 v5 v6
  clear_value v2 v3 v4
  have hv6 : Keeps 4571791362 (s) v6 := by
    unfold v6
    refine Keeps.cell_ (u := s) ?_ rfl (.inl rfl) (.inr rfl) (.inl rfl) (.inl rfl)
    exact Keeps.refl _ _
  clear_value v6
  split
  rename_i z10 z11 z12 z13
  extract_lets v15 v16 v17 v18
  have hv16 : Keeps 4571791362 (s) v16 := by
    unfold v16
    refine Keeps.cell_ (u := z12) ?_ rfl (.inl rfl) (.inr rfl) (.inl rfl) (.inl rfl)
    refine Keeps.snd_eq z13 ?_
    refine Keeps.ite2 ?_ ?_
    · refine Keeps.mk2 ?_
      exact Keeps.refl _ _
    · refine Keeps.after (State.freeBelow_keeps _ _) rfl ?_
      exact Keeps.refl _ _
  clear_value v16
  have hv17 : Keeps 4571791362 (s) v17 := by
    unfold v17
    refine Keeps.ite ?_ ?_
    · assumption
    · refine Keeps.after (State.tell_keeps _ _ _) rfl ?_
      assumption
  clear_value v17
  have hv18 : Keeps 4571791362 (s) v18.1 := by
    unfold v18
    refine tested_keeps ?_ ?_
    · refine Keeps.snd_eq z13 ?_
      refine Keeps.ite2 ?_ ?_
      · refine Keeps.mk2 ?_
        exact Keeps.refl _ _
      · refine Keeps.after (State.freeBelow_keeps _ _) rfl ?_
        exact Keeps.refl _ _
    · refine Keeps.after (dataReply_keeps _ _) rfl ?_
      assumption
  clear_value v18
  assumption

theorem cellHold_keeps (o) (s) : Keeps 269484032 s (cellHold o s) := by
  unfold cellHold
  extract_lets v2 v3 v4
  clear_value v2 v3
  have hv4 : Keeps 269484032 (s) v4 := by
    unfold v4
    refine Keeps.after (holdOwner_keeps _ _ _) rfl ?_
    exact Keeps.refl _ _
  clear_value v4
  refine Keeps.ite ?_ ?_
  · refine Keeps.after (holdOwner_keeps _ _ _) rfl ?_
    exact Keeps.refl _ _
  · refine Keeps.ite ?_ ?_
    · exact Keeps.refl _ _
    · refine Keeps.after (State.setGen_keeps _ _ _ _) rfl ?_
      assumption

theorem mapUnsealed_keeps (ax) (f) (s) : Keeps 1048576 s (mapUnsealed ax f s) := by
  unfold mapUnsealed
  extract_lets v2
  clear_value v2
  refine Keeps.after (State.updAxis_keeps _ _ _) rfl ?_
  exact Keeps.refl _ _

theorem keepTorque_keeps (ax) (s) : Keeps 1048576 s (keepTorque ax s) := by
  unfold keepTorque
  extract_lets v2 v3 v4 v5
  clear_value v2 v3 v4 v5
  refine Keeps.after (mapUnsealed_keeps _ _ _) rfl ?_
  refine Keeps.after (State.updAxis_keeps _ _ _) rfl ?_
  exact Keeps.refl _ _

theorem freeTorque_keeps (ax) (s) : Keeps 1048576 s (freeTorque ax s) := by
  unfold freeTorque
  extract_lets v2
  clear_value v2
  refine Keeps.ite ?_ ?_
  · exact Keeps.refl _ _
  · refine Keeps.after (mapUnsealed_keeps _ _ _) rfl ?_
    refine Keeps.after (State.updAxis_keeps _ _ _) rfl ?_
    exact Keeps.refl _ _

theorem holdOne_keeps (o) (s) : Keeps 279969792 s (holdOne o s) := by
  unfold holdOne
  refine Keeps.ite ?_ ?_
  · extract_lets v3
    clear_value v3
    refine Keeps.ite ?_ ?_
    · refine Keeps.after (State.updArm_keeps _ _ _) rfl ?_
      refine Keeps.after (stopOwner_keeps _ _) rfl ?_
      exact Keeps.refl _ _
    · refine Keeps.after (cellHold_keeps _ _) rfl ?_
      exact Keeps.refl _ _
  · extract_lets v11
    clear_value v11
    split
    · rename_i z13 z14
      exact Keeps.refl _ _
    · rename_i z16 z17
      refine Keeps.after (keepTorque_keeps _ _) rfl ?_
      exact Keeps.refl _ _
    · rename_i z20 z21
      refine Keeps.after (State.updAxis_keeps _ _ _) rfl ?_
      refine Keeps.after (stopOwner_keeps _ _) rfl ?_
      exact Keeps.refl _ _
    · rename_i z25 z26
      split
      · rename_i z28 z29 z30
        refine Keeps.ite ?_ ?_
        · exact Keeps.refl _ _
        · refine Keeps.after (stopOwner_keeps _ _) rfl ?_
          exact Keeps.refl _ _
      · rename_i z35 z36
        refine Keeps.after (cellHold_keeps _ _) rfl ?_
        exact Keeps.refl _ _
    · rename_i z39 z40 z41 z42 z43
      refine Keeps.after (cellHold_keeps _ _) rfl ?_
      exact Keeps.refl _ _

theorem releaseOne_keeps (o) (s) : Keeps 1048576 s (releaseOne o s) := by
  unfold releaseOne
  extract_lets v2
  have hv2 : Keeps 1048576 (s) v2 := by
    unfold v2
    refine Keeps.ite ?_ ?_
    · refine Keeps.after (freeTorque_keeps _ _) rfl ?_
      exact Keeps.refl _ _
    · exact Keeps.refl _ _
  clear_value v2
  refine Keeps.ite ?_ ?_
  · refine Keeps.after (resumeOwner_keeps _ _) rfl ?_
    assumption
  · assumption

theorem State.enterCell_keeps (s) (st) : Keeps 2148008130 s (State.enterCell s st) := by
  unfold State.enterCell
  refine Keeps.after (State.event_keeps _ _ _ _ _) rfl ?_
  refine Keeps.cell_ (u := s) ?_ rfl (.inr rfl) (.inl rfl) (.inl rfl) (.inl rfl)
  exact Keeps.refl _ _

theorem leavePartial_keeps (s) : Keeps 16777474 s (leavePartial s) := by
  unfold leavePartial
  extract_lets v2 v3 v4 v5
  clear_value v2
  refine Keeps.trans (t := s) ?_ (fun p hp => by cases p <;> first | rfl | exact absurd hp (by decide) | exact fun h => h | exact Nat.le_refl _)
  exact Keeps.refl _ _

theorem enterPartial_keeps (arms) (axes) (s) : Keeps 2148008386 s (enterPartial arms axes s) := by
  unfold enterPartial
  extract_lets v2 v3 v4 v5
  have hv3 : Keeps 2148008386 (s) v3 := by
    unfold v3
    refine Keeps.cell_ (u := s) ?_ rfl (.inr rfl) (.inl rfl) (.inl rfl) (.inl rfl)
    exact Keeps.refl _ _
  have hv4 : Keeps 2148008386 (s) v4 := by
    unfold v4
    refine Keeps.ite ?_ ?_
    · refine Keeps.after (State.event_keeps _ _ _ _ _) rfl ?_
      assumption
    · refine Keeps.after (State.enterCell_keeps _ _) rfl ?_
      assumption
  clear_value v4
  refine Keeps.mbx_ (u := v4) ?_ rfl (.inl rfl)
  assumption

theorem goSleep_keeps (s) : Keeps 2152202690 s (goSleep s) := by
  unfold goSleep
  extract_lets v2 v3 v4 v5 v6 v7
  clear_value v2
  have hv3 : Keeps 2152202690 (s) v3 := by
    unfold v3
    refine Keeps.after (State.enterCell_keeps _ _) rfl ?_
    exact Keeps.refl _ _
  clear_value v3
  have hv4 : Keeps 2152202690 (s) v4 := by
    unfold v4
    refine Keeps.after (State.commitJournal_keeps _) rfl ?_
    assumption
  clear_value v4
  have hv7 : Keeps 2152202690 (s) v7 := by
    unfold v7
    refine Keeps.trans (t := v4) ?_ (fun p hp => by cases p <;> first | rfl | exact absurd hp (by decide) | exact fun h => h | exact Nat.le_refl _)
    assumption
  clear_value v7
  refine Keeps.after (State.driveOutputs_keeps _) rfl ?_
  assumption

theorem changeCell_keeps (dst) (arms) (axes) (s) : Keeps 2448949698 s (changeCell dst arms axes s) := by
  unfold changeCell
  extract_lets v2 v3 v4
  have hv2 : Keeps 2448949698 (s) v2 := by
    unfold v2
    refine Keeps.ite ?_ ?_
    · refine Keeps.after (leavePartial_keeps _) rfl ?_
      exact Keeps.refl _ _
    · exact Keeps.refl _ _
  clear_value v2
  have hv3 : Keeps 2448949698 (s) v3 := by
    unfold v3
    refine Keeps.after (State.enterCell_keeps _ _) rfl ?_
    assumption
  clear_value v3
  have hv4 : Keeps 2448949698 (s) v4 := by
    unfold v4
    refine Keeps.after (State.enterCell_keeps _ _) rfl ?_
    assumption
  clear_value v4
  split
  · rename_i z14
    refine Keeps.after (State.enterCell_keeps _ _) rfl ?_
    refine Keeps.ite ?_ ?_
    · refine Keeps.after (State.placeAll_keeps _) rfl ?_
      assumption
    · assumption
  · rename_i z20
    refine Keeps.foldl ?_ ?_
    · intro t22 x23
      refine Keeps.after (releaseOne_keeps _ _) rfl ?_
      exact Keeps.refl _ _
    · assumption
  · rename_i z27
    refine Keeps.foldl ?_ ?_
    · intro t29 x30
      refine Keeps.after (holdOne_keeps _ _) rfl ?_
      exact Keeps.refl _ _
    · assumption
  · rename_i z34
    refine Keeps.after (enterPartial_keeps _ _ _) rfl ?_
    assumption
  · rename_i z37
    refine Keeps.after (goSleep_keeps _) rfl ?_
    assumption
  · rename_i z40 z41 z42 z43 z44 z45
    refine Keeps.after (State.enterCell_keeps _ _) rfl ?_
    assumption

theorem runCellSetState_keeps (h) (a) (s) : Keeps 2448949698 s (runCellSetState h a s).1 := by
  unfold runCellSetState
  extract_lets v2 v3 v4 v5 v6
  clear_value v2 v3 v4 v5 v6
  refine tested_keeps ?_ ?_
  · exact Keeps.refl _ _
  · refine Keeps.after (okReply_keeps _) rfl ?_
    refine Keeps.ite ?_ ?_
    · exact Keeps.refl _ _
    · refine Keeps.after (changeCell_keeps _ _ _ _) rfl ?_
      exact Keeps.refl _ _

theorem runCellStatus_keeps (x0) (a) (s) : Keeps 0 s (runCellStatus x0 a s).1 := by
  unfold runCellStatus
  refine tested_keeps ?_ ?_
  · exact Keeps.refl _ _
  · refine Keeps.after (dataReply_keeps _ _) rfl ?_
    exact Keeps.refl _ _

theorem runCellTxnBegin_keeps (h) (a) (s) : Keeps 268435584 s (runCellTxnBegin h a s).1 := by
  unfold runCellTxnBegin
  extract_lets v2
  clear_value v2
  split
  rename_i z4 z5 z6 z7
  extract_lets v9 v10 v11
  clear_value v9 v10
  refine tested_keeps ?_ ?_
  · exact Keeps.refl _ _
  · refine Keeps.ite1 ?_ ?_
    · refine Keeps.after (dataReply_keeps _ _) rfl ?_
      refine Keeps.host_ (u := z6) ?_ rfl
      refine Keeps.snd_eq z7 ?_
      refine Keeps.after (State.freeBelow_keeps _ _) rfl ?_
      exact Keeps.refl _ _
    · refine Keeps.after (okReply_keeps _) rfl ?_
      exact Keeps.refl _ _

theorem addMember_keeps (p) (id) (m) (s) : Keeps 128 s (addMember p id m s) := by
  unfold addMember
  extract_lets v2 v3 v4 v5
  clear_value v2 v3 v4
  refine Keeps.host_ (u := s) ?_ rfl
  exact Keeps.refl _ _

theorem State.closeTxn_keeps (s) (id) : Keeps 128 s (State.closeTxn s id) := by
  unfold State.closeTxn
  refine Keeps.host_ (u := s) ?_ rfl
  exact Keeps.refl _ _

theorem runCellTxnAbort_keeps (h) (a) (s) : Keeps 128 s (runCellTxnAbort h a s).1 := by
  unfold runCellTxnAbort
  refine tested_keeps ?_ ?_
  · exact Keeps.refl _ _
  · refine Keeps.after (okReply_keeps _) rfl ?_
    refine Keeps.after (State.closeTxn_keeps _ _) rfl ?_
    exact Keeps.refl _ _

theorem State.setClaims_keeps (s) (l) : Keeps 2097152 s (State.setClaims s l) := by
  unfold State.setClaims
  refine Keeps.claim_ (u := s) ?_ rfl
  exact Keeps.refl _ _

theorem State.countClaim_keeps (s) (src) (f) : Keeps 2097152 s (State.countClaim s src f) := by
  unfold State.countClaim
  split
  · rename_i z2 z3 z4
    refine Keeps.after (State.updClaimCount_keeps _ _ _) rfl ?_
    exact Keeps.refl _ _
  · rename_i z7 z8
    exact Keeps.refl _ _

theorem applyRequest_keeps (zs) (t0) (t1) (gtc) (src) (again) (s) : Keeps 2097152 s (applyRequest zs t0 t1 gtc src again s) := by
  unfold applyRequest
  extract_lets v2 v3 v4 v5 v6
  clear_value v2 v3 v4
  have hv5 : Keeps 2097152 (s) v5 := by
    unfold v5
    refine Keeps.after (State.setClaims_keeps _ _) rfl ?_
    exact Keeps.refl _ _
  clear_value v5
  split
  · rename_i z10 z11
    extract_lets v13 v14
    clear_value v13 v14
    refine Keeps.after (State.setClaims_keeps _ _) rfl ?_
    exact Keeps.refl _ _
  · rename_i z17
    refine Keeps.claim_ (u := v5) ?_ rfl
    assumption

theorem applyHoldover_keeps (src) (z) (s) : Keeps 2621632 s (applyHoldover src z s) := by
  unfold applyHoldover
  extract_lets v2 v3 v4
  clear_value v2
  have hv3 : Keeps 2621632 (s) v3 := by
    unfold v3
    refine Keeps.after (State.setClaims_keeps _ _) rfl ?_
    exact Keeps.refl _ _
  clear_value v3
  have hv4 : Keeps 2621632 (s) v4 := by
    unfold v4
    refine Keeps.after (State.countClaim_keeps _ _ _) rfl ?_
    assumption
  clear_value v4
  refine Keeps.ite ?_ ?_
  · exact Keeps.refl _ _
  · refine Keeps.after (State.event_keeps _ _ _ _ _) rfl ?_
    assumption

theorem unblockZone_keeps (z) (s) : Keeps 2097152 s (unblockZone z s) := by
  unfold unblockZone
  refine Keeps.claim_ (u := s) ?_ rfl
  exact Keeps.refl _ _

theorem applyMsg_keeps (m) (s) : Keeps 2621632 s (applyMsg m s) := by
  unfold applyMsg
  split
  · rename_i z2 z3 z4 z5 z6 z7 z8
    refine Keeps.after (applyRequest_keeps _ _ _ _ _ _ _) rfl ?_
    exact Keeps.refl _ _
  · rename_i z11 z12
    refine Keeps.after (State.setClaims_keeps _ _) rfl ?_
    exact Keeps.refl _ _
  · rename_i z15 z16 z17
    refine Keeps.after (State.setClaims_keeps _ _) rfl ?_
    exact Keeps.refl _ _
  · rename_i z20 z21 z22
    refine Keeps.after (applyHoldover_keeps _ _ _) rfl ?_
    exact Keeps.refl _ _
  · rename_i z25 z26
    refine Keeps.after (unblockZone_keeps _ _) rfl ?_
    exact Keeps.refl _ _

theorem evalClaim_keeps (s) (c) : Keeps 2097152 s (evalClaim s c) := by
  unfold evalClaim
  extract_lets v2 v3 v4
  clear_value v2 v3
  have hv4 : Keeps 2097152 (s) v4 := by
    unfold v4
    refine Keeps.ite ?_ ?_
    · exact Keeps.refl _ _
    · refine Keeps.after (State.countClaim_keeps _ _ _) rfl ?_
      exact Keeps.refl _ _
  clear_value v4
  split
  · rename_i z10 z11
    refine Keeps.after (State.setClaims_keeps _ _) rfl ?_
    assumption
  · rename_i z14 z15 z16
    refine Keeps.after (State.setClaims_keeps _ _) rfl ?_
    exact Keeps.refl _ _

theorem breakCycles_keeps (x0) (x1) : Keeps 2621632 x1 (breakCycles x0 x1) := by
  induction x0 generalizing x1
  · unfold breakCycles
    exact Keeps.refl _ _
  · rename_i z2 z3
    unfold breakCycles
    split
    · rename_i z5 z6
      exact Keeps.refl _ _
    · rename_i z8 z9 z10 z11
      extract_lets v13 v14 v15
      clear_value v13
      have hv14 : Keeps 2621632 (x1) v14 := by
        unfold v14
        refine Keeps.after (State.setClaims_keeps _ _) rfl ?_
        exact Keeps.refl _ _
      clear_value v14
      have hv15 : Keeps 2621632 (x1) v15 := by
        unfold v15
        refine Keeps.after (State.countClaim_keeps _ _ _) rfl ?_
        assumption
      clear_value v15
      refine Keeps.trans ?_ (z3 _)
      refine Keeps.after (State.event_keeps _ _ _ _ _) rfl ?_
      assumption

theorem arbitrate_keeps (s) : Keeps 2621632 s (arbitrate s) := by
  unfold arbitrate
  extract_lets v2 v3 v4 v5 v6
  clear_value v2
  have hv4 : Keeps 2621632 (s) v4 := by
    unfold v4
    refine Keeps.claim_ (u := s) ?_ rfl
    exact Keeps.refl _ _
  clear_value v4
  have hv5 : Keeps 2621632 (s) v5 := by
    unfold v5
    refine Keeps.foldl ?_ ?_
    · intro t10 x11
      refine Keeps.after (applyMsg_keeps _ _) rfl ?_
      exact Keeps.refl _ _
    · assumption
  clear_value v5
  have hv6 : Keeps 2621632 (s) v6 := by
    unfold v6
    refine Keeps.foldl ?_ ?_
    · intro t16 x17
      refine Keeps.after (evalClaim_keeps _ _) rfl ?_
      exact Keeps.refl _ _
    · assumption
  clear_value v6
  refine Keeps.after (breakCycles_keeps _ _) rfl ?_
  assumption

theorem State.planEnd_keeps (s) (n) : Keeps 268435456 s (State.planEnd s n).2 := by
  unfold State.planEnd
  extract_lets v2 v3 v4 v5
  clear_value v2 v3 v4
  have hv5 : Keeps 268435456 (s) v5.2 := by
    unfold v5
    refine Keeps.after (State.freeBelow_keeps _ _) rfl ?_
    exact Keeps.refl _ _
  clear_value v5
  refine Keeps.ite2 ?_ ?_
  · refine Keeps.mk2 ?_
    exact Keeps.refl _ _
  · refine Keeps.ite2 ?_ ?_
    · refine Keeps.mk2 ?_
      exact Keeps.refl _ _
    · refine Keeps.mk2 ?_
      assumption

theorem issueClaim_keeps (n) (s) : Keeps 280494272 s (issueClaim n s) := by
  unfold issueClaim
  extract_lets v2 v3 v4 v5 v6 v7 v8 v9 v10
  clear_value v2 v3 v4 v6 v7 v8
  have hv5 : Keeps 280494272 (s) v5.2 := by
    unfold v5
    refine Keeps.after (State.planEnd_keeps _ _) rfl ?_
    exact Keeps.refl _ _
  clear_value v5
  have hv9 : Keeps 280494272 (s) v9 := by
    unfold v9
    assumption
  clear_value v9
  refine Keeps.ite ?_ ?_
  · exact Keeps.refl _ _
  · split
    · rename_i z17 z18
      exact Keeps.refl _ _
    · rename_i z20 z21 z22
      extract_lets v24 v25 v26 v27 v28 v29
      clear_value v24 v25 v26 v27 v28
      have hv29 : Keeps 280494272 (s) v29 := by
        unfold v29
        refine Keeps.claim_ (u := v9) ?_ rfl
        assumption
      clear_value v29
      refine Keeps.ite ?_ ?_
      · refine Keeps.after (State.event_keeps _ _ _ _ _) rfl ?_
        refine Keeps.after (State.updGen_keeps _ _ _) rfl ?_
        assumption
      · refine Keeps.after (State.claimMsg_keeps _ _) rfl ?_
        refine Keeps.after (State.updClaimCount_keeps _ _ _) rfl ?_
        assumption

theorem reissueClaim_keeps (n) (s) : Keeps 278921216 s (reissueClaim n s) := by
  unfold reissueClaim
  extract_lets v2 v3 v4 v5
  clear_value v2 v5
  have hv3 : Keeps 278921216 (s) v3.2 := by
    unfold v3
    refine Keeps.after (State.freeBelow_keeps _ _) rfl ?_
    exact Keeps.refl _ _
  clear_value v3
  have hv4 : Keeps 278921216 (s) v4.2 := by
    unfold v4
    refine Keeps.after (State.freeBelow_keeps _ _) rfl ?_
    assumption
  clear_value v4
  split
  · rename_i z11 z12 z13
    refine Keeps.ite ?_ ?_
    · exact Keeps.refl _ _
    · refine Keeps.after (State.claimMsg_keeps _ _) rfl ?_
      assumption
  · rename_i z18 z19
    exact Keeps.refl _ _

theorem resumeClaim_keeps (n) (s) : Keeps 1573056 s (resumeClaim n s) := by
  unfold resumeClaim
  extract_lets v2 v3 v4
  clear_value v2 v3
  have hv4 : Keeps 1573056 (s) v4 := by
    unfold v4
    refine Keeps.after (State.updGen_keeps _ _ _) rfl ?_
    exact Keeps.refl _ _
  clear_value v4
  refine Keeps.ite ?_ ?_
  · refine Keeps.after (State.event_keeps _ _ _ _ _) rfl ?_
    refine Keeps.after (State.updArm_keeps _ _ _) rfl ?_
    assumption
  · exact Keeps.refl _ _

theorem releaseClaims_keeps (n) (s) : Keeps 10485760 s (releaseClaims n s) := by
  unfold releaseClaims
  refine Keeps.foldl ?_ ?_
  · intro t2 x3
    refine Keeps.ite ?_ ?_
    · refine Keeps.foldl ?_ ?_
      · intro t6 x7
        refine Keeps.ite ?_ ?_
        · refine Keeps.after (State.claimMsg_keeps _ _) rfl ?_
          exact Keeps.refl _ _
        · exact Keeps.refl _ _
      · exact Keeps.refl _ _
    · exact Keeps.refl _ _
  · exact Keeps.refl _ _

theorem mandrelClaims_keeps (s) : Keeps 280494272 s (mandrelClaims s) := by
  unfold mandrelClaims
  refine Keeps.foldl ?_ ?_
  · intro t2 x3
    refine Keeps.after (issueClaim_keeps _ _) rfl ?_
    refine Keeps.after (resumeClaim_keeps _ _) rfl ?_
    refine Keeps.after (reissueClaim_keeps _ _) rfl ?_
    refine Keeps.after (releaseClaims_keeps _ _) rfl ?_
    exact Keeps.refl _ _
  · exact Keeps.refl _ _

theorem endWindow_keeps (n) (s) : Keeps 10485760 s (endWindow n s) := by
  unfold endWindow
  refine Keeps.foldl ?_ ?_
  · intro t2 x3
    refine Keeps.ite ?_ ?_
    · refine Keeps.foldl ?_ ?_
      · intro t6 x7
        refine Keeps.ite ?_ ?_
        · exact Keeps.refl _ _
        · refine Keeps.ite ?_ ?_
          · refine Keeps.after (State.claimMsg_keeps _ _) rfl ?_
            exact Keeps.refl _ _
          · refine Keeps.after (State.claimMsg_keeps _ _) rfl ?_
            exact Keeps.refl _ _
      · exact Keeps.refl _ _
    · exact Keeps.refl _ _
  · exact Keeps.refl _ _

theorem blockZone_keeps (node) (z) (s) : Keeps 2621632 s (blockZone node z s) := by
  unfold blockZone
  refine Keeps.ite ?_ ?_
  · exact Keeps.refl _ _
  · extract_lets v4 v5
    have hv5 : Keeps 2621632 (s) v5 := by
      unfold v5
      refine Keeps.claim_ (u := s) ?_ rfl
      exact Keeps.refl _ _
    clear_value v5
    refine Keeps.after (State.event_keeps _ _ _ _ _) rfl ?_
    assumption

theorem revokeNode_keeps (node) (s) : Keeps 2621632 s (revokeNode node s) := by
  unfold revokeNode
  extract_lets v2 v3 v4 v5 v6 v7
  clear_value v2 v6
  have hv3 : Keeps 2621632 (s) v3 := by
    unfold v3
    refine Keeps.after (State.setClaims_keeps _ _) rfl ?_
    exact Keeps.refl _ _
  clear_value v3
  have hv5 : Keeps 2621632 (s) v5 := by
    unfold v5
    refine Keeps.claim_ (u := v3) ?_ rfl
    assumption
  clear_value v5
  have hv7 : Keeps 2621632 (s) v7 := by
    unfold v7
    refine Keeps.foldl ?_ ?_
    · intro t13 x14
      refine Keeps.after (State.event_keeps _ _ _ _ _) rfl ?_
      exact Keeps.refl _ _
    · assumption
  clear_value v7
  refine Keeps.foldl ?_ ?_
  · intro t19 x20
    extract_lets v22
    clear_value v22
    refine Keeps.foldl ?_ ?_
    · intro t24 x25
      refine Keeps.ite ?_ ?_
      · refine Keeps.after (blockZone_keeps _ _ _) rfl ?_
        exact Keeps.refl _ _
      · exact Keeps.refl _ _
    · exact Keeps.refl _ _
  · assumption

theorem runZoneDefine_keeps (h) (a) (s) : Keeps 10485760 s (runZoneDefine h a s).1 := by
  unfold runZoneDefine
  extract_lets v2 v3 v4 v5 v6 v7 v8 v9
  clear_value v2 v3 v4 v5 v6 v7 v8
  refine tested_keeps ?_ ?_
  · exact Keeps.refl _ _
  · refine Keeps.after (okReply_keeps _) rfl ?_
    refine Keeps.ite ?_ ?_
    · refine Keeps.after (State.setZone_keeps _ _ _) rfl ?_
      exact Keeps.refl _ _
    · refine Keeps.after (State.tell_keeps _ _ _) rfl ?_
      refine Keeps.fab_ (u := s) ?_ rfl
      exact Keeps.refl _ _

theorem runZoneUnblock_keeps (h) (a) (s) : Keeps 10485760 s (runZoneUnblock h a s).1 := by
  unfold runZoneUnblock
  extract_lets v2
  clear_value v2
  refine tested_keeps ?_ ?_
  · exact Keeps.refl _ _
  · refine Keeps.after (okReply_keeps _) rfl ?_
    refine Keeps.after (State.claimMsg_keeps _ _) rfl ?_
    refine Keeps.after (unblockZone_keeps _ _) rfl ?_
    exact Keeps.refl _ _

theorem runZoneStatus_keeps (x0) (a) (s) : Keeps 0 s (runZoneStatus x0 a s).1 := by
  unfold runZoneStatus
  extract_lets v2 v3 v4
  clear_value v2 v3 v4
  refine tested_keeps ?_ ?_
  · exact Keeps.refl _ _
  · refine Keeps.after (dataReply_keeps _ _) rfl ?_
    exact Keeps.refl _ _

theorem runZoneCounters_keeps (x0) (a) (s) : Keeps 0 s (runZoneCounters x0 a s).1 := by
  unfold runZoneCounters
  extract_lets v2 v3
  clear_value v2 v3
  refine tested_keeps ?_ ?_
  · exact Keeps.refl _ _
  · refine Keeps.after (dataReply_keeps _ _) rfl ?_
    exact Keeps.refl _ _

end Sys2Proof.Machine
end

