-- ==== Sys2Proof/Laws/FramesFabric.lean ====
section
/-! SUPPORT. Frames, one lemma per function: time bases, images, the Glume, the fabric and the pair. The mask names the parts a function may change
(`Part.bit`); every other part is as before. -/

namespace Sys2Proof.Machine

theorem insertOn_keeps (r) (f) (s) : Keeps 134217728 s (insertOn r f s) := by
  unfold insertOn
  extract_lets v2
  clear_value v2
  refine Keeps.after (State.send_keeps _ _) rfl ?_
  refine Keeps.after (State.send_keeps _ _) rfl ?_
  exact Keeps.refl _ _

theorem newFrame_keeps (dst) (body) (s) : Keeps 8388608 s (newFrame dst body s).2 := by
  unfold newFrame
  refine Keeps.mk2 ?_
  refine Keeps.fab_ (u := s) ?_ rfl
  exact Keeps.refl _ _

theorem announce_keeps (s) : Keeps 8388608 s (announce s) := by
  unfold announce
  refine Keeps.ite ?_ ?_
  · exact Keeps.refl _ _
  · extract_lets v4 v5
    clear_value v4
    refine Keeps.fab_ (u := s) ?_ rfl
    exact Keeps.refl _ _

theorem keepRole_keeps (s) : Keeps 549755813952 s (keepRole s) := by
  unfold keepRole
  refine Keeps.after (State.retain_keeps _ _ _ _) rfl ?_
  exact Keeps.refl _ _

theorem takeRole_keeps (role) (s) : Keeps 549781504066 s (takeRole role s) := by
  unfold takeRole
  extract_lets v2 v3 v4 v5 v6
  clear_value v2
  have hv5 : Keeps 549781504066 (s) v5 := by
    unfold v5
    refine Keeps.trans (t := s) ?_ (fun p hp => by cases p <;> first | rfl | exact absurd hp (by decide) | exact fun h => h | exact Nat.le_refl _)
    exact Keeps.refl _ _
  clear_value v5
  have hv6 : Keeps 549781504066 (s) v6 := by
    unfold v6
    refine Keeps.after (State.record_keeps _ _ _ _) rfl ?_
    assumption
  clear_value v6
  refine Keeps.after (keepRole_keeps _) rfl ?_
  refine Keeps.after (State.commitJournal_keeps _) rfl ?_
  refine Keeps.after (State.updFabNode_keeps _ _ _) rfl ?_
  assumption

theorem advanceEpoch_keeps (n) (s) : Keeps 8598323202 s (advanceEpoch n s) := by
  unfold advanceEpoch
  extract_lets v2 v3 v4
  clear_value v2
  refine Keeps.trans (t := s) ?_ (fun p hp => by cases p <;> first | rfl | exact absurd hp (by decide) | exact fun h => h | exact Nat.le_refl _)
  exact Keeps.refl _ _

theorem roleChange_keeps (role) (s) : Keeps 558371438658 s (roleChange role s) := by
  unfold roleChange
  refine Keeps.after (takeRole_keeps _ _) rfl ?_
  refine Keeps.after (advanceEpoch_keeps _ _) rfl ?_
  exact Keeps.refl _ _

theorem declareFailed_keeps (s) : Keeps 16777216 s (declareFailed s) := by
  unfold declareFailed
  refine Keeps.ite ?_ ?_
  · refine Keeps.pair_ (u := s) ?_ rfl
    exact Keeps.refl _ _
  · exact Keeps.refl _ _

theorem dropLines_keeps (s) : Keeps 33554432 s (dropLines s) := by
  unfold dropLines
  refine Keeps.foldl ?_ ?_
  · intro t2 x3
    refine Keeps.after (State.updNet_keeps _ _ _) rfl ?_
    exact Keeps.refl _ _
  · exact Keeps.refl _ _

theorem standDown_keeps (s) : Keeps 2170028482 s (standDown s) := by
  unfold standDown
  extract_lets v2 v3
  have hv2 : Keeps 2170028482 (s) v2 := by
    unfold v2
    refine Keeps.foldl ?_ ?_
    · intro t5 x6
      refine Keeps.after (leaveToDisabled_keeps _ _) rfl ?_
      exact Keeps.refl _ _
    · exact Keeps.refl _ _
  clear_value v2
  have hv3 : Keeps 2170028482 (s) v3 := by
    unfold v3
    refine Keeps.ite ?_ ?_
    · refine Keeps.after (leavePartial_keeps _) rfl ?_
      assumption
    · assumption
  clear_value v3
  refine Keeps.ite ?_ ?_
  · assumption
  · refine Keeps.after (State.enterCell_keeps _ _) rfl ?_
    assumption

theorem enterListen_keeps (s) : Keeps 551934230978 s (enterListen s) := by
  unfold enterListen
  extract_lets v2 v3 v4 v5
  have hv2 : Keeps 551934230978 (s) v2 := by
    unfold v2
    refine Keeps.ite ?_ ?_
    · refine Keeps.after (State.completeCmd_keeps _ _ _ _) rfl ?_
      exact Keeps.refl _ _
    · exact Keeps.refl _ _
  clear_value v2
  have hv4 : Keeps 551934230978 (s) v4 := by
    unfold v4
    refine Keeps.pair_ (u := v2) ?_ rfl
    assumption
  clear_value v4
  have hv5 : Keeps 551934230978 (s) v5 := by
    unfold v5
    refine Keeps.after (takeRole_keeps _ _) rfl ?_
    assumption
  clear_value v5
  refine Keeps.after (standDown_keeps _) rfl ?_
  refine Keeps.pair_ (u := v5) ?_ rfl
  assumption

theorem becomeStale_keeps (s) : Keeps 551934230978 s (becomeStale s) := by
  unfold becomeStale
  extract_lets v2 v3
  have hv2 : Keeps 551934230978 (s) v2 := by
    unfold v2
    refine Keeps.ite ?_ ?_
    · exact Keeps.refl _ _
    · refine Keeps.after (State.event_keeps _ _ _ _ _) rfl ?_
      exact Keeps.refl _ _
  clear_value v2
  refine Keeps.ite ?_ ?_
  · refine Keeps.pair_ (u := v2) ?_ rfl
    assumption
  · refine Keeps.after (enterListen_keeps _) rfl ?_
    assumption

theorem removeMember_keeps (d) (s) : Keeps 8388608 s (removeMember d s) := by
  unfold removeMember
  extract_lets v2 v3
  have hv2 : Keeps 8388608 (s) v2 := by
    unfold v2
    refine Keeps.after (State.updFabNode_keeps _ _ _) rfl ?_
    exact Keeps.refl _ _
  clear_value v2
  refine Keeps.fab_ (u := v2) ?_ rfl
  assumption

theorem leaveFabric_keeps (s) : Keeps 549781504066 s (leaveFabric s) := by
  unfold leaveFabric
  extract_lets v2 v3 v4 v5
  have hv2 : Keeps 549781504066 (s) v2 := by
    unfold v2
    refine Keeps.after (takeRole_keeps _ _) rfl ?_
    exact Keeps.refl _ _
  clear_value v2
  have hv3 : Keeps 549781504066 (s) v3 := by
    unfold v3
    refine Keeps.foldl ?_ ?_
    · intro t9 x10
      refine Keeps.after (removeMember_keeps _ _) rfl ?_
      exact Keeps.refl _ _
    · assumption
  clear_value v3
  refine Keeps.trans (t := v3) ?_ (fun p hp => by cases p <;> first | rfl | exact absurd hp (by decide) | exact fun h => h | exact Nat.le_refl _)
  assumption

theorem adoptClaims_keeps (node) (y1) (s) : Keeps 2097152 s (adoptClaims node y1 s) := by
  unfold adoptClaims
  refine Keeps.ite ?_ ?_
  · refine Keeps.claim_ (u := s) ?_ rfl
    exact Keeps.refl _ _
  · refine Keeps.claim_ (u := s) ?_ rfl
    exact Keeps.refl _ _

theorem State.evaluateUnits_keeps (s) (n) : Keeps 1 s (State.evaluateUnits s n) := by
  unfold State.evaluateUnits
  refine Keeps.foldl ?_ ?_
  · intro t2 x3
    extract_lets v5
    clear_value v5
    refine Keeps.ite ?_ ?_
    · refine Keeps.after (State.setCmp_keeps _ _ _) rfl ?_
      exact Keeps.refl _ _
    · exact Keeps.refl _ _
  · exact Keeps.refl _ _

theorem servoSample_keeps (n) (o) (s) : Keeps 1 s (servoSample n o s) := by
  unfold servoSample
  extract_lets v2 v3
  clear_value v2
  have hv3 : Keeps 1 (s) v3 := by
    unfold v3
    refine Keeps.after (State.setBase_keeps _ _ _) rfl ?_
    exact Keeps.refl _ _
  clear_value v3
  refine Keeps.ite ?_ ?_
  · refine Keeps.after (State.setBase_keeps _ _ _) rfl ?_
    exact Keeps.refl _ _
  · refine Keeps.ite ?_ ?_
    · refine Keeps.after (State.evaluateUnits_keeps _ _) rfl ?_
      assumption
    · assumption

theorem tbOfsWrite_keeps (m) (n) (o) (s) : Keeps 1 s (tbOfsWrite m n o s) := by
  unfold tbOfsWrite
  refine Keeps.ite ?_ ?_
  · refine Keeps.after (servoSample_keeps _ _ _) rfl ?_
    exact Keeps.refl _ _
  · exact Keeps.refl _ _

theorem tbNsRead_keeps (m) (n) (s) : Keeps 67108865 s (tbNsRead m n s) := by
  unfold tbNsRead
  refine Keeps.ite ?_ ?_
  · extract_lets v3
    clear_value v3
    refine Keeps.after (State.returns_keeps _ _) rfl ?_
    refine Keeps.after (State.setLatch_keeps _ _ _) rfl ?_
    exact Keeps.refl _ _
  · refine Keeps.after (State.returns_keeps _ _) rfl ?_
    exact Keeps.refl _ _

theorem convStart_keeps (n) (hi) (s) : Keeps 1 s (convStart n hi s) := by
  unfold convStart
  extract_lets v2 v3 v4 v5 v6 v7 v8
  refine Keeps.after (State.setBase_keeps _ _ _) rfl ?_
  exact Keeps.refl _ _

theorem tbConvHiWrite_keeps (m) (n) (w) (s) : Keeps 1 s (tbConvHiWrite m n w s) := by
  unfold tbConvHiWrite
  refine Keeps.ite ?_ ?_
  · refine Keeps.after (convStart_keeps _ _ _) rfl ?_
    exact Keeps.refl _ _
  · exact Keeps.refl _ _

theorem convLoWrite_keeps (m) (n) (w) (s) : Keeps 1 s (convLoWrite m n w s) := by
  unfold convLoWrite
  refine Keeps.ite ?_ ?_
  · refine Keeps.after (State.updBase_keeps _ _ _) rfl ?_
    exact Keeps.refl _ _
  · exact Keeps.refl _ _

theorem enterHoldover_keeps (n) (s) : Keeps 524481 s (enterHoldover n s) := by
  unfold enterHoldover
  extract_lets v2 v3 v4
  clear_value v2
  have hv3 : Keeps 524481 (s) v3 := by
    unfold v3
    refine Keeps.after (State.advanceTo_keeps _ _) rfl ?_
    exact Keeps.refl _ _
  clear_value v3
  have hv4 : Keeps 524481 (s) v4 := by
    unfold v4
    refine Keeps.after (State.updBase_keeps _ _ _) rfl ?_
    assumption
  clear_value v4
  refine Keeps.ite ?_ ?_
  · refine Keeps.after (State.event_keeps _ _ _ _ _) rfl ?_
    assumption
  · exact Keeps.refl _ _

theorem armUnit_keeps (u) (target) (s) : Keeps 1 s (armUnit u target s) := by
  unfold armUnit
  extract_lets v2 v3 v4
  clear_value v2 v3 v4
  refine Keeps.after (State.setCmp_keeps _ _ _) rfl ?_
  exact Keeps.refl _ _

theorem cmpTargetWrite_keeps (m) (u) (w) (s) : Keeps 1 s (cmpTargetWrite m u w s) := by
  unfold cmpTargetWrite
  refine Keeps.ite ?_ ?_
  · refine Keeps.after (armUnit_keeps _ _ _) rfl ?_
    exact Keeps.refl _ _
  · exact Keeps.refl _ _

theorem pinAction_keeps (u) (k) (s) : Keeps 1 s (pinAction u k s) := by
  unfold pinAction
  extract_lets v2 v3 v4 v5 v6
  clear_value v2 v3 v4 v5
  refine Keeps.ite ?_ ?_
  · exact Keeps.refl _ _
  · refine Keeps.time_ (u := s) ?_ rfl
    exact Keeps.refl _ _

theorem captureEdge_keeps (p) (rising) (stamp) (s) : Keeps 1 s (captureEdge p rising stamp s) := by
  unfold captureEdge
  extract_lets v2 v3 v4
  clear_value v2 v3 v4
  refine Keeps.after (State.setCap_keeps _ _ _) rfl ?_
  exact Keeps.refl _ _

theorem capHiRead_keeps (p) (s) : Keeps 67108865 s (capHiRead p s) := by
  unfold capHiRead
  refine Keeps.ite ?_ ?_
  · extract_lets v3
    clear_value v3
    refine Keeps.after (State.returns_keeps _ _) rfl ?_
    refine Keeps.after (State.setCap_keeps _ _ _) rfl ?_
    exact Keeps.refl _ _
  · refine Keeps.after (State.returns_keeps _ _) rfl ?_
    exact Keeps.refl _ _

theorem sealCaptures_keeps (edge) (s) : Keeps 1 s (sealCaptures edge s) := by
  unfold sealCaptures
  refine Keeps.foldl ?_ ?_
  · intro t2 x3
    extract_lets v5
    clear_value v5
    refine Keeps.ite ?_ ?_
    · refine Keeps.after (State.setCap_keeps _ _ _) rfl ?_
      exact Keeps.refl _ _
    · refine Keeps.after (State.setCap_keeps _ _ _) rfl ?_
      exact Keeps.refl _ _
  · exact Keeps.refl _ _

theorem tbStatusRead_keeps (n) (s) : Keeps 67108865 s (tbStatusRead n s) := by
  unfold tbStatusRead
  refine Keeps.ite ?_ ?_
  · extract_lets v3
    clear_value v3
    refine Keeps.after (State.returns_keeps _ _) rfl ?_
    refine Keeps.after (State.setBase_keeps _ _ _) rfl ?_
    exact Keeps.refl _ _
  · refine Keeps.after (State.returns_keeps _ _) rfl ?_
    exact Keeps.refl _ _

theorem cmpStatusRead_keeps (u) (s) : Keeps 67108865 s (cmpStatusRead u s) := by
  unfold cmpStatusRead
  refine Keeps.ite ?_ ?_
  · extract_lets v3
    clear_value v3
    refine Keeps.after (State.returns_keeps _ _) rfl ?_
    refine Keeps.after (State.setCmp_keeps _ _ _) rfl ?_
    exact Keeps.refl _ _
  · refine Keeps.after (State.returns_keeps _ _) rfl ?_
    exact Keeps.refl _ _

theorem capStatusRead_keeps (p) (s) : Keeps 67108865 s (capStatusRead p s) := by
  unfold capStatusRead
  refine Keeps.ite ?_ ?_
  · extract_lets v3
    clear_value v3
    refine Keeps.after (State.returns_keeps _ _) rfl ?_
    refine Keeps.after (State.setCap_keeps _ _ _) rfl ?_
    exact Keeps.refl _ _
  · refine Keeps.after (State.returns_keeps _ _) rfl ?_
    exact Keeps.refl _ _

theorem tsInsCfgRead_keeps (n) (s) : Keeps 67108865 s (tsInsCfgRead n s) := by
  unfold tsInsCfgRead
  refine Keeps.ite ?_ ?_
  · extract_lets v3
    clear_value v3
    refine Keeps.after (State.returns_keeps _ _) rfl ?_
    refine Keeps.after (State.setTsIns_keeps _ _ _) rfl ?_
    exact Keeps.refl _ _
  · refine Keeps.after (State.returns_keeps _ _) rfl ?_
    exact Keeps.refl _ _

theorem setBaseTime_keeps (n) (sec) (ns) (s) : Keeps 4294967299 s (setBaseTime n sec ns s) := by
  unfold setBaseTime
  extract_lets v2 v3 v4 v5
  clear_value v4
  have hv2 : Keeps 4294967299 (s) v2 := by
    unfold v2
    refine Keeps.after (State.updBase_keeps _ _ _) rfl ?_
    exact Keeps.refl _ _
  clear_value v2
  have hv3 : Keeps 4294967299 (s) v3 := by
    unfold v3
    refine Keeps.after (State.evaluateUnits_keeps _ _) rfl ?_
    assumption
  clear_value v3
  refine Keeps.ite ?_ ?_
  · refine Keeps.cell_ (u := v3) ?_ rfl (.inl rfl) (.inr rfl) (.inl rfl) (.inl rfl)
    assumption
  · assumption

theorem runSafeLoad_keeps (h) (a) (s) : Keeps 4194304 s (runSafeLoad h a s).1 := by
  unfold runSafeLoad
  extract_lets v2 v3 v4 v5 v6 v7 v8
  clear_value v2 v3 v4 v5 v6 v7
  refine tested_keeps ?_ ?_
  · exact Keeps.refl _ _
  · split
    · rename_i z12 z13 z14
      refine Keeps.mk1 ?_
      exact Keeps.refl _ _
    · rename_i z17 z18 z19
      refine Keeps.mk1 ?_
      refine Keeps.glume_ (u := s) ?_ rfl (.inl rfl) (.inl rfl)
      exact Keeps.refl _ _

theorem runSafeConfirm_keeps (h) (a) (s) : Keeps 4194304 s (runSafeConfirm h a s).1 := by
  unfold runSafeConfirm
  extract_lets v2 v3 v4
  clear_value v2 v3
  refine tested_keeps ?_ ?_
  · exact Keeps.refl _ _
  · refine Keeps.after (okReply_keeps _) rfl ?_
    refine Keeps.glume_ (u := s) ?_ rfl (.inl rfl) (.inl rfl)
    exact Keeps.refl _ _

theorem runSafeStatus_keeps (x0) (a) (s) : Keeps 0 s (runSafeStatus x0 a s).1 := by
  unfold runSafeStatus
  refine tested_keeps ?_ ?_
  · exact Keeps.refl _ _
  · refine Keeps.after (dataReply_keeps _ _) rfl ?_
    exact Keeps.refl _ _

theorem runSafeCounters_keeps (x0) (a) (s) : Keeps 0 s (runSafeCounters x0 a s).1 := by
  unfold runSafeCounters
  refine tested_keeps ?_ ?_
  · exact Keeps.refl _ _
  · refine Keeps.after (dataReply_keeps _ _) rfl ?_
    exact Keeps.refl _ _

theorem runTimeConfig_keeps (h) (a) (s) : Keeps 1 s (runTimeConfig h a s).1 := by
  unfold runTimeConfig
  extract_lets v2 v3 v4 v5 v6 v7 v8
  clear_value v2 v3 v4 v5 v6 v8
  have hv7 : Keeps 1 (s) v7 := by
    unfold v7
    refine Keeps.foldl ?_ ?_
    · intro t10 x11
      refine Keeps.after (State.updCmp_keeps _ _ _) rfl ?_
      exact Keeps.refl _ _
    · refine Keeps.after (State.updBase_keeps _ _ _) rfl ?_
      exact Keeps.refl _ _
  clear_value v7
  refine tested_keeps ?_ ?_
  · exact Keeps.refl _ _
  · refine Keeps.after (okReply_keeps _) rfl ?_
    assumption

theorem runTimeStatus_keeps (x0) (a) (s) : Keeps 0 s (runTimeStatus x0 a s).1 := by
  unfold runTimeStatus
  extract_lets v2
  clear_value v2
  refine tested_keeps ?_ ?_
  · exact Keeps.refl _ _
  · refine Keeps.after (dataReply_keeps _ _) rfl ?_
    exact Keeps.refl _ _

theorem runTimeCompare_keeps (h) (a) (s) : Keeps 1 s (runTimeCompare h a s).1 := by
  unfold runTimeCompare
  extract_lets v2 v3 v4 v5 v6 v7 v8
  clear_value v2 v3 v4 v5 v6 v7
  have hv8 : Keeps 1 (s) v8 := by
    unfold v8
    refine Keeps.after (armUnit_keeps _ _ _) rfl ?_
    refine Keeps.after (State.setCmp_keeps _ _ _) rfl ?_
    exact Keeps.refl _ _
  clear_value v8
  refine tested_keeps ?_ ?_
  · exact Keeps.refl _ _
  · refine Keeps.after (okReply_keeps _) rfl ?_
    assumption

theorem runTimeCapture_keeps (h) (a) (s) : Keeps 1 s (runTimeCapture h a s).1 := by
  unfold runTimeCapture
  extract_lets v2 v3
  clear_value v2 v3
  refine tested_keeps ?_ ?_
  · exact Keeps.refl _ _
  · refine Keeps.after (okReply_keeps _) rfl ?_
    refine Keeps.after (State.updCap_keeps _ _ _) rfl ?_
    exact Keeps.refl _ _

theorem runTimeSet_keeps (h) (a) (s) : Keeps 4294967299 s (runTimeSet h a s).1 := by
  unfold runTimeSet
  extract_lets v2 v3
  clear_value v2 v3
  refine tested_keeps ?_ ?_
  · exact Keeps.refl _ _
  · refine Keeps.after (okReply_keeps _) rfl ?_
    refine Keeps.after (setBaseTime_keeps _ _ _ _) rfl ?_
    exact Keeps.refl _ _

theorem State.setFwSlot_keeps (s) (k) (v) : Keeps 4 s (State.setFwSlot s k v) := by
  unfold State.setFwSlot
  refine Keeps.power_ (u := s) ?_ rfl (.inl rfl) (.inl (Nat.le_refl _))
  exact Keeps.refl _ _

theorem runFwLoad_keeps (h) (a) (s) : Keeps 4 s (runFwLoad h a s).1 := by
  unfold runFwLoad
  extract_lets v2 v3 v4 v5
  clear_value v2 v3
  have hv4 : Keeps 4 (s) v4 := by
    unfold v4
    refine Keeps.after (State.setFwSlot_keeps _ _ _) rfl ?_
    exact Keeps.refl _ _
  clear_value v4
  refine tested_keeps ?_ ?_
  · exact Keeps.refl _ _
  · refine Keeps.ite1 ?_ ?_
    · refine Keeps.mk1 ?_
      exact Keeps.refl _ _
    · refine Keeps.mk1 ?_
      refine Keeps.power_ (u := v4) ?_ rfl (.inl rfl) (.inl (Nat.le_refl _))
      assumption

theorem fwFinish_keeps (a) (same) (s) : Keeps 4 s (fwFinish a same s).1 := by
  unfold fwFinish
  extract_lets v2 v3 v4 v5
  clear_value v2 v3
  have hv5 : Keeps 4 (s) v5 := by
    unfold v5
    refine Keeps.power_ (u := s) ?_ rfl (.inl rfl) (.inl (Nat.le_refl _))
    exact Keeps.refl _ _
  clear_value v5
  refine Keeps.ite1 ?_ ?_
  · refine Keeps.mk1 ?_
    refine Keeps.after (State.setFwSlot_keeps _ _ _) rfl ?_
    assumption
  · refine Keeps.mk1 ?_
    assumption

theorem runFwActivate_keeps (h : Hdr) (a : List Byte) (s : State) : Keeps 4 s (runFwActivate h a s).1 := by
  unfold runFwActivate
  extract_lets p q
  refine tested_keeps (Keeps.refl _ _) (Keeps.after (okReply_keeps _) rfl (Keeps.power_ (Keeps.refl _ _) rfl (.inl ?_) (.inl (le_of_eq ?_))))
  · show q.minSecVer = _
    unfold q
    split <;> rfl
  · show _ = q.minSecVer
    unfold q
    split <;> rfl

theorem runFwStatus_keeps (x0) (a) (s) : Keeps 0 s (runFwStatus x0 a s).1 := by
  unfold runFwStatus
  extract_lets v2
  clear_value v2
  refine tested_keeps ?_ ?_
  · exact Keeps.refl _ _
  · refine Keeps.after (dataReply_keeps _ _) rfl ?_
    exact Keeps.refl _ _

theorem reserveCtxs_keeps (e) (n) (s) : Keeps 10240 s (reserveCtxs e n s) := by
  unfold reserveCtxs
  extract_lets v2 v3 v4 v5 v6
  clear_value v2 v3 v6
  have hv4 : Keeps 10240 (s) v4 := by
    unfold v4
    refine Keeps.foldl ?_ ?_
    · intro t8 x9
      refine Keeps.after (State.setCtx_keeps _ _ _) rfl ?_
      exact Keeps.refl _ _
    · exact Keeps.refl _ _
  clear_value v4
  have hv5 : Keeps 10240 (s) v5 := by
    unfold v5
    refine Keeps.foldl ?_ ?_
    · intro t14 x15
      refine Keeps.after (State.setCtx_keeps _ _ _) rfl ?_
      exact Keeps.refl _ _
    · assumption
  clear_value v5
  refine Keeps.after (State.updLathe_keeps _ _ _) rfl ?_
  assumption

theorem syncEnv_keeps (e) (s) : Keeps 1073744384 s (syncEnv e s) := by
  unfold syncEnv
  extract_lets v2 v3 v4 v5 v6 v7
  clear_value v2 v4 v5
  have hv3 : ∀ a8 a9, Keeps 1073744384 a9 (v3 a8 a9) := by
    intro a8 a9
    unfold v3
    refine Keeps.after (State.memPut_keeps _ _ _) rfl ?_
    exact Keeps.refl _ _
  clear_value v3
  have hv6 : Keeps 1073744384 (s) v6 := by
    unfold v6
    refine Keeps.after (State.updLathe_keeps _ _ _) rfl ?_
    exact Keeps.refl _ _
  clear_value v6
  have hv7 : Keeps 1073744384 (s) v7 := by
    unfold v7
    refine Keeps.ite ?_ ?_
    · refine Keeps.trans ?_ (hv3 _ _)
      assumption
    · assumption
  clear_value v7
  refine Keeps.ite ?_ ?_
  · exact Keeps.refl _ _
  · refine Keeps.ite ?_ ?_
    · exact Keeps.refl _ _
    · refine Keeps.ite ?_ ?_
      · refine Keeps.trans ?_ (hv3 _ _)
        assumption
      · assumption

theorem runLatheStore_keeps (h) (a) (s) : Keeps 4096 s (runLatheStore h a s).1 := by
  unfold runLatheStore
  extract_lets v2 v3 v4 v5 v6 v7 v8
  clear_value v2 v3 v4 v5 v6 v7
  have hv8 : Keeps 4096 (s) v8 := by
    unfold v8
    refine Keeps.after (State.setImage_keeps _ _ _) rfl ?_
    exact Keeps.refl _ _
  clear_value v8
  refine tested_keeps ?_ ?_
  · exact Keeps.refl _ _
  · refine Keeps.mk1 ?_
    assumption

theorem storeFinish_keeps (a) (same) (s) : Keeps 4096 s (storeFinish a same s).1 := by
  unfold storeFinish
  extract_lets v2
  clear_value v2
  refine Keeps.ite1 ?_ ?_
  · refine Keeps.mk1 ?_
    exact Keeps.refl _ _
  · refine Keeps.after (okReply_keeps _) rfl ?_
    refine Keeps.after (State.updImage_keeps _ _ _) rfl ?_
    exact Keeps.refl _ _

theorem runLatheLoad_keeps (h) (a) (s) : Keeps 0 s (runLatheLoad h a s).1 := by
  unfold runLatheLoad
  extract_lets v2 v3 v4 v5 v6 v7
  clear_value v2 v3 v4 v5 v6 v7
  refine tested_keeps ?_ ?_
  · exact Keeps.refl _ _
  · refine Keeps.mk1 ?_
    exact Keeps.refl _ _

theorem loadImage_keeps (e) (n) (i) (s) : Keeps 1073752576 s (loadImage e n i s) := by
  unfold loadImage
  extract_lets v2 v3 v4 v5
  clear_value v2
  have hv3 : Keeps 1073752576 (s) v3 := by
    unfold v3
    refine Keeps.after (reserveCtxs_keeps _ _ _) rfl ?_
    exact Keeps.refl _ _
  clear_value v3
  have hv4 : Keeps 1073752576 (s) v4 := by
    unfold v4
    refine Keeps.after (State.updLathe_keeps _ _ _) rfl ?_
    assumption
  clear_value v4
  have hv5 : Keeps 1073752576 (s) v5 := by
    unfold v5
    refine Keeps.after (State.memPut_keeps _ _ _) rfl ?_
    assumption
  clear_value v5
  refine Keeps.after (State.memPut_keeps _ _ _) rfl ?_
  assumption

theorem loadFinish_keeps (a) (s) : Keeps 1073752576 s (loadFinish a s).1 := by
  unfold loadFinish
  split
  · rename_i z2 z3 z4
    refine Keeps.mk1 ?_
    exact Keeps.refl _ _
  · rename_i z7 z8 z9
    refine Keeps.after (okReply_keeps _) rfl ?_
    refine Keeps.after (loadImage_keeps _ _ _ _) rfl ?_
    exact Keeps.refl _ _

theorem runLatheSwap_keeps (h) (a) (s) : Keeps 2048 s (runLatheSwap h a s).1 := by
  unfold runLatheSwap
  extract_lets v2 v3 v4
  clear_value v2 v3 v4
  refine tested_keeps ?_ ?_
  · exact Keeps.refl _ _
  · refine Keeps.after (okReply_keeps _) rfl ?_
    refine Keeps.after (State.setLathe_keeps _ _ _) rfl ?_
    exact Keeps.refl _ _

theorem runLatheStatus_keeps (x0) (a) (s) : Keeps 2048 s (runLatheStatus x0 a s).1 := by
  unfold runLatheStatus
  extract_lets v2 v3 v4
  clear_value v2 v3 v4
  refine tested_keeps ?_ ?_
  · exact Keeps.refl _ _
  · refine Keeps.after (dataReply_keeps _ _) rfl ?_
    refine Keeps.after (State.setLathe_keeps _ _ _) rfl ?_
    exact Keeps.refl _ _

theorem runLatheCounters_keeps (x0) (a) (s) : Keeps 0 s (runLatheCounters x0 a s).1 := by
  unfold runLatheCounters
  extract_lets v2
  clear_value v2
  refine tested_keeps ?_ ?_
  · exact Keeps.refl _ _
  · refine Keeps.after (dataReply_keeps _ _) rfl ?_
    exact Keeps.refl _ _

theorem runLatheTelemetry_keeps (h) (a) (s) : Keeps 2048 s (runLatheTelemetry h a s).1 := by
  unfold runLatheTelemetry
  extract_lets v2 v3 v4
  clear_value v2 v3 v4
  refine tested_keeps ?_ ?_
  · exact Keeps.refl _ _
  · refine Keeps.after (dataReply_keeps _ _) rfl ?_
    refine Keeps.after (State.setLathe_keeps _ _ _) rfl ?_
    exact Keeps.refl _ _

theorem runLatheEnrollKey_keeps (h) (a) (s) : Keeps 549755830336 s (runLatheEnrollKey h a s).1 := by
  unfold runLatheEnrollKey
  extract_lets v2 v3 v4
  clear_value v2 v3
  have hv4 : Keeps 549755830336 (s) v4 := by
    unfold v4
    refine Keeps.after (State.retain_keeps _ _ _ _) rfl ?_
    refine Keeps.custKey_ (u := s) ?_ rfl
    exact Keeps.refl _ _
  clear_value v4
  refine tested_keeps ?_ ?_
  · exact Keeps.refl _ _
  · refine Keeps.ite1 ?_ ?_
    · refine Keeps.mk1 ?_
      exact Keeps.refl _ _
    · refine Keeps.mk1 ?_
      assumption

theorem runFabSetKey_keeps (h) (a) (s) : Keeps 549764202560 s (runFabSetKey h a s).1 := by
  unfold runFabSetKey
  extract_lets v2 v3
  have hv3 : Keeps 549764202560 (s) v3 := by
    unfold v3
    refine Keeps.after (State.retain_keeps _ _ _ _) rfl ?_
    refine Keeps.fab_ (u := s) ?_ rfl
    exact Keeps.refl _ _
  clear_value v3
  refine tested_keeps ?_ ?_
  · exact Keeps.refl _ _
  · refine Keeps.after (dataReply_keeps _ _) rfl ?_
    assumption

theorem State.changeAll_keeps (s) (due) (c) : Keeps 8388608 s (State.changeAll s due c) := by
  unfold State.changeAll
  refine Keeps.after (State.tell_keeps _ _ _) rfl ?_
  refine Keeps.fab_ (u := s) ?_ rfl
  exact Keeps.refl _ _

theorem keepMap_keeps (s) : Keeps 549755813952 s (keepMap s) := by
  unfold keepMap
  refine Keeps.after (State.retain_keeps _ _ _ _) rfl ?_
  exact Keeps.refl _ _

theorem keepFabric_keeps (s) : Keeps 549755813952 s (keepFabric s) := by
  unfold keepFabric
  extract_lets v2
  refine Keeps.after (State.retain_keeps _ _ _ _) rfl ?_
  exact Keeps.refl _ _

theorem startJoin_keeps (a) (s) : Keeps 549764202560 s (startJoin a s) := by
  unfold startJoin
  extract_lets v2 v3 v4 v5
  clear_value v2 v3
  have hv4 : Keeps 549764202560 (s) v4 := by
    unfold v4
    refine Keeps.foldl ?_ ?_
    · intro t7 x8
      refine Keeps.after (State.updFabPort_keeps _ _ _) rfl ?_
      exact Keeps.refl _ _
    · exact Keeps.refl _ _
  clear_value v4
  refine Keeps.after (keepFabric_keeps _) rfl ?_
  refine Keeps.fab_ (u := v4) ?_ rfl
  assumption

theorem runFabJoin_keeps (h) (a) (s) : Keeps 549764202560 s (runFabJoin h a s).1 := by
  unfold runFabJoin
  extract_lets v2 v3 v4 v5
  clear_value v2 v3 v4 v5
  refine tested_keeps ?_ ?_
  · exact Keeps.refl _ _
  · refine Keeps.ite1 ?_ ?_
    · refine Keeps.after (okReply_keeps _) rfl ?_
      refine Keeps.after (State.changeAll_keeps _ _ _) rfl ?_
      exact Keeps.refl _ _
    · refine Keeps.mk1 ?_
      refine Keeps.after (startJoin_keeps _ _) rfl ?_
      exact Keeps.refl _ _

theorem releaseAll_keeps (s) : Keeps 10485760 s (releaseAll s) := by
  unfold releaseAll
  refine Keeps.foldl ?_ ?_
  · intro t2 x3
    refine Keeps.ite ?_ ?_
    · exact Keeps.refl _ _
    · refine Keeps.ite ?_ ?_
      · refine Keeps.foldl ?_ ?_
        · intro t8 x9
          refine Keeps.after (State.claimMsg_keeps _ _) rfl ?_
          exact Keeps.refl _ _
        · exact Keeps.refl _ _
      · refine Keeps.after (State.claimMsg_keeps _ _) rfl ?_
        exact Keeps.refl _ _
  · exact Keeps.refl _ _

theorem runFabLeave_keeps (h) (a) (s) : Keeps 10485760 s (runFabLeave h a s).1 := by
  unfold runFabLeave
  extract_lets v2 v3
  have hv2 : Keeps 10485760 (s) v2 := by
    unfold v2
    refine Keeps.after (State.tell_keeps _ _ _) rfl ?_
    refine Keeps.after (releaseAll_keeps _) rfl ?_
    exact Keeps.refl _ _
  clear_value v2
  have hv3 : Keeps 10485760 (s) v3 := by
    unfold v3
    refine Keeps.after (State.updFabNode_keeps _ _ _) rfl ?_
    assumption
  clear_value v3
  refine tested_keeps ?_ ?_
  · exact Keeps.refl _ _
  · refine Keeps.mk1 ?_
    assumption

theorem runFabSchedule_keeps (h) (a) (s) : Keeps 8388608 s (runFabSchedule h a s).1 := by
  unfold runFabSchedule
  extract_lets v2 v3 v4 v5
  clear_value v2 v3 v4 v5
  refine tested_keeps ?_ ?_
  · exact Keeps.refl _ _
  · refine Keeps.after (okReply_keeps _) rfl ?_
    refine Keeps.after (State.changeAll_keeps _ _ _) rfl ?_
    exact Keeps.refl _ _

theorem runFabStatus_keeps (x0) (a) (s) : Keeps 0 s (runFabStatus x0 a s).1 := by
  unfold runFabStatus
  extract_lets v2
  refine tested_keeps ?_ ?_
  · exact Keeps.refl _ _
  · refine Keeps.after (dataReply_keeps _ _) rfl ?_
    exact Keeps.refl _ _

theorem startBulk_keeps (use) (peer) (total) (s) : Keeps 8388608 s (startBulk use peer total s) := by
  unfold startBulk
  extract_lets v2 v3
  clear_value v2
  refine Keeps.fab_ (u := s) ?_ rfl
  exact Keeps.refl _ _

theorem assignShadow_keeps (peer) (lines) (s) : Keeps 558404993090 s (assignShadow peer lines s) := by
  unfold assignShadow
  extract_lets v2 v3 v4
  have hv3 : Keeps 558404993090 (s) v3 := by
    unfold v3
    refine Keeps.pair_ (u := s) ?_ rfl
    exact Keeps.refl _ _
  clear_value v3
  have hv4 : Keeps 558404993090 (s) v4 := by
    unfold v4
    refine Keeps.foldl ?_ ?_
    · intro t8 x9
      extract_lets v11
      clear_value v11
      refine Keeps.after (State.updNet_keeps _ _ _) rfl ?_
      exact Keeps.refl _ _
    · assumption
  clear_value v4
  refine Keeps.after (startBulk_keeps _ _ _ _) rfl ?_
  refine Keeps.after (roleChange_keeps _ _) rfl ?_
  assumption

theorem runFabAssignShadow_keeps (h) (a) (s) : Keeps 558673428546 s (runFabAssignShadow h a s).1 := by
  unfold runFabAssignShadow
  extract_lets v2 v3 v4 v5
  clear_value v2 v3 v4 v5
  split
  rename_i z7 z8 z9 z10
  refine tested_keeps ?_ ?_
  · refine Keeps.snd_eq z10 ?_
    refine Keeps.after (State.freeBelow_keeps _ _) rfl ?_
    exact Keeps.refl _ _
  · refine Keeps.mk1 ?_
    refine Keeps.after (assignShadow_keeps _ _ _) rfl ?_
    refine Keeps.snd_eq z10 ?_
    refine Keeps.after (State.freeBelow_keeps _ _) rfl ?_
    exact Keeps.refl _ _

theorem releasePair_keeps (s) : Keeps 560557720002 s (releasePair s) := by
  unfold releasePair
  refine Keeps.ite ?_ ?_
  · extract_lets v3 v4 v5
    have hv3 : Keeps 560557720002 (s) v3 := by
      unfold v3
      refine Keeps.ite ?_ ?_
      · refine Keeps.after (State.completeCmd_keeps _ _ _ _) rfl ?_
        exact Keeps.refl _ _
      · exact Keeps.refl _ _
    clear_value v3
    have hv4 : Keeps 560557720002 (s) v4 := by
      unfold v4
      refine Keeps.after (roleChange_keeps _ _) rfl ?_
      refine Keeps.after (dropLines_keeps _) rfl ?_
      assumption
    clear_value v4
    refine Keeps.trans (t := v4) ?_ (fun p hp => by cases p <;> first | rfl | exact absurd hp (by decide) | exact fun h => h | exact Nat.le_refl _)
    assumption
  · refine Keeps.after (enterListen_keeps _) rfl ?_
    refine Keeps.after (advanceEpoch_keeps _ _) rfl ?_
    exact Keeps.refl _ _

theorem runFabReleaseShadow_keeps (h) (a) (s) : Keeps 560557720002 s (runFabReleaseShadow h a s).1 := by
  unfold runFabReleaseShadow
  refine tested_keeps ?_ ?_
  · exact Keeps.refl _ _
  · refine Keeps.after (okReply_keeps _) rfl ?_
    refine Keeps.after (releasePair_keeps _) rfl ?_
    exact Keeps.refl _ _

theorem ctrlAll_keeps (s) : Keeps 406847488 s (ctrlAll s) := by
  unfold ctrlAll
  refine Keeps.foldl ?_ ?_
  · intro t2 x3
    refine Keeps.ite ?_ ?_
    · split
      rename_i z6 z7 z8 z9
      refine Keeps.after (State.sendCtrl_keeps _ _) rfl ?_
      refine Keeps.after (State.updGsrc_keeps _ _ _) rfl ?_
      refine Keeps.snd_eq z9 ?_
      refine Keeps.after (State.freeBelow_keeps _ _) rfl ?_
      exact Keeps.refl _ _
    · exact Keeps.refl _ _
  · exact Keeps.refl _ _

theorem becomePrimary_keeps (s) : Keeps 558780383298 s (becomePrimary s) := by
  unfold becomePrimary
  extract_lets v2 v3 v4 v5
  clear_value v2
  have hv5 : Keeps 558780383298 (s) v5 := by
    unfold v5
    refine Keeps.trans (t := s) ?_ (fun p hp => by cases p <;> first | rfl | exact absurd hp (by decide) | exact fun h => h | exact Nat.le_refl _)
    exact Keeps.refl _ _
  refine Keeps.after (ctrlAll_keeps _) rfl ?_
  refine Keeps.after (adoptClaims_keeps _ _ _) rfl ?_
  refine Keeps.after (roleChange_keeps _ _) rfl ?_
  assumption

theorem swapPair_keeps (s) : Keeps 558780383298 s (swapPair s) := by
  unfold swapPair
  extract_lets v2 v3 v4 v5 v6
  have hv3 : Keeps 558780383298 (s) v3 := by
    unfold v3
    refine Keeps.pair_ (u := s) ?_ rfl
    exact Keeps.refl _ _
  have hv4 : Keeps 558780383298 (s) v4 := by
    unfold v4
    refine Keeps.after (roleChange_keeps _ _) rfl ?_
    assumption
  clear_value v4
  refine Keeps.ite ?_ ?_
  · refine Keeps.pair_ (u := v4) ?_ rfl
    assumption
  · refine Keeps.after (becomePrimary_keeps _) rfl ?_
    refine Keeps.pair_ (u := v3) ?_ rfl
    assumption

theorem runFabSwitchover_keeps (h) (a) (s) : Keeps 558780383298 s (runFabSwitchover h a s).1 := by
  unfold runFabSwitchover
  split
  rename_i z2 z3 z4 z5
  extract_lets v7
  clear_value v7
  refine tested_keeps ?_ ?_
  · refine Keeps.snd_eq z5 ?_
    refine Keeps.after (State.freeBelow_keeps _ _) rfl ?_
    exact Keeps.refl _ _
  · refine Keeps.after (okReply_keeps _) rfl ?_
    refine Keeps.after (swapPair_keeps _) rfl ?_
    refine Keeps.snd_eq z5 ?_
    refine Keeps.after (State.freeBelow_keeps _ _) rfl ?_
    exact Keeps.refl _ _

theorem runFabSetReplLevel_keeps (h) (a) (s) : Keeps 268435460 s (runFabSetReplLevel h a s).1 := by
  unfold runFabSetReplLevel
  extract_lets v2 v3 v4
  clear_value v2 v3 v4
  split
  rename_i z6 z7 z8 z9
  refine tested_keeps ?_ ?_
  · refine Keeps.snd_eq z9 ?_
    refine Keeps.after (State.freeBelow_keeps _ _) rfl ?_
    exact Keeps.refl _ _
  · refine Keeps.after (okReply_keeps _) rfl ?_
    refine Keeps.power_ (u := z8) ?_ rfl (.inl rfl) (.inl (Nat.le_refl _))
    refine Keeps.snd_eq z9 ?_
    refine Keeps.after (State.freeBelow_keeps _ _) rfl ?_
    exact Keeps.refl _ _

theorem runFabPairStatus_keeps (x0) (a) (s) : Keeps 0 s (runFabPairStatus x0 a s).1 := by
  unfold runFabPairStatus
  extract_lets v2 v3
  clear_value v3
  refine tested_keeps ?_ ?_
  · exact Keeps.refl _ _
  · refine Keeps.after (dataReply_keeps _ _) rfl ?_
    exact Keeps.refl _ _

theorem runFabSleep_keeps (h) (a) (s) : Keeps 276824064 s (runFabSleep h a s).1 := by
  unfold runFabSleep
  extract_lets v2 v3 v4 v5
  clear_value v2 v3 v4 v5
  split
  rename_i z7 z8 z9 z10
  extract_lets v12 v13 v14 v15
  clear_value v12 v14
  have hv15 : Keeps 276824064 (s) v15 := by
    unfold v15
    refine Keeps.fab_ (u := z9) ?_ rfl
    refine Keeps.snd_eq z10 ?_
    refine Keeps.ite2 ?_ ?_
    · refine Keeps.mk2 ?_
      exact Keeps.refl _ _
    · refine Keeps.after (State.freeBelow_keeps _ _) rfl ?_
      exact Keeps.refl _ _
  clear_value v15
  refine tested_keeps ?_ ?_
  · refine Keeps.snd_eq z10 ?_
    refine Keeps.ite2 ?_ ?_
    · refine Keeps.mk2 ?_
      exact Keeps.refl _ _
    · refine Keeps.after (State.freeBelow_keeps _ _) rfl ?_
      exact Keeps.refl _ _
  · refine Keeps.after (okReply_keeps _) rfl ?_
    refine Keeps.after (State.tell_keeps _ _ _) rfl ?_
    assumption

theorem wakeAt_keeps (node) (src) (s) : Keeps 8388608 s (wakeAt node src s) := by
  unfold wakeAt
  extract_lets v2 v3 v4 v5 v6
  have hv3 : Keeps 8388608 (s) v3 := by
    unfold v3
    refine Keeps.ite ?_ ?_
    · refine Keeps.after (State.updFabNode_keeps _ _ _) rfl ?_
      exact Keeps.refl _ _
    · exact Keeps.refl _ _
  refine Keeps.ite ?_ ?_
  · refine Keeps.fab_ (u := v3) ?_ rfl
    assumption
  · refine Keeps.fab_ (u := v3) ?_ rfl
    assumption

theorem sendWake_keeps (reason) (s) : Keeps 8388608 s (sendWake reason s) := by
  unfold sendWake
  refine Keeps.ite ?_ ?_
  · refine Keeps.after (wakeAt_keeps _ _ _) rfl ?_
    exact Keeps.refl _ _
  · split
    rename_i z5 z6 z7 z8
    refine Keeps.fab_ (u := z7) ?_ rfl
    refine Keeps.snd_eq z8 ?_
    refine Keeps.after (newFrame_keeps _ _ _) rfl ?_
    exact Keeps.refl _ _

theorem runFabWake_keeps (h) (a) (s) : Keeps 8388608 s (runFabWake h a s).1 := by
  unfold runFabWake
  refine tested_keeps ?_ ?_
  · exact Keeps.refl _ _
  · refine Keeps.after (okReply_keeps _) rfl ?_
    refine Keeps.after (sendWake_keeps _ _) rfl ?_
    exact Keeps.refl _ _

theorem State.setPresent_keeps (s) (u) (cause) (on) : Keeps 4194304 s (State.setPresent s u cause on) := by
  unfold State.setPresent
  refine Keeps.after (State.updGunit_keeps _ _ _) rfl ?_
  exact Keeps.refl _ _

theorem jointRecord_keeps (u) (j) (rxTick) (pos) (s) : Keeps 138936512 s (jointRecord u j rxTick pos s) := by
  unfold jointRecord
  extract_lets v2 v3 v4 v5 v6 v7 v8 v9 v10 v11
  clear_value v2 v3 v4 v5 v8 v9 v11
  have hv6 : Keeps 138936512 (s) v6 := by
    unfold v6
    refine Keeps.after (State.setPresent_keeps _ _ _ _) rfl ?_
    exact Keeps.refl _ _
  clear_value v6
  have hv7 : Keeps 138936512 (s) v7 := by
    unfold v7
    refine Keeps.ite ?_ ?_
    · refine Keeps.after (State.raiseCause_keeps _ _ _ _) rfl ?_
      assumption
    · assumption
  clear_value v7
  have hv10 : Keeps 138936512 (s) v10 := by
    unfold v10
    refine Keeps.ite ?_ ?_
    · refine Keeps.after (State.raiseCause_keeps _ _ _ _) rfl ?_
      assumption
    · assumption
  clear_value v10
  refine Keeps.ite ?_ ?_
  · refine Keeps.after (State.raiseCause_keeps _ _ _ _) rfl ?_
    assumption
  · assumption

theorem standing_keeps (a) (s) : Keeps 138412032 s (standing a s) := by
  unfold standing
  extract_lets v2 v3 v4 v5 v6
  clear_value v2 v3 v4 v5
  have hv6 : Keeps 138412032 (s) v6 := by
    unfold v6
    refine Keeps.after (State.setGunit_keeps _ _ _) rfl ?_
    exact Keeps.refl _ _
  clear_value v6
  refine Keeps.ite ?_ ?_
  · refine Keeps.after (State.ctrlUnit_keeps _ _) rfl ?_
    refine Keeps.after (State.driveOutputs_keeps _) rfl ?_
    refine Keeps.after (State.updGunit_keeps _ _ _) rfl ?_
    assumption
  · refine Keeps.ite ?_ ?_
    · refine Keeps.after (State.updGunit_keeps _ _ _) rfl ?_
      assumption
    · assumption

theorem acceptJoints_keeps (k) (rxTick) (recs) (s) : Keeps 138936512 s (acceptJoints k rxTick recs s) := by
  unfold acceptJoints
  extract_lets v2 v3 v4
  clear_value v3
  have hv2 : Keeps 138936512 (s) v2 := by
    unfold v2
    refine Keeps.after (State.updGsrc_keeps _ _ _) rfl ?_
    exact Keeps.refl _ _
  clear_value v2
  have hv4 : Keeps 138936512 (s) v4 := by
    unfold v4
    refine Keeps.foldl ?_ ?_
    · intro t8 x9
      refine Keeps.foldl ?_ ?_
      · intro t11 x12
        split
        · rename_i z14 z15 z16
          refine Keeps.after (jointRecord_keeps _ _ _ _ _) rfl ?_
          exact Keeps.refl _ _
        · rename_i z19 z20
          exact Keeps.refl _ _
      · exact Keeps.refl _ _
    · assumption
  clear_value v4
  refine Keeps.foldl ?_ ?_
  · intro t25 x26
    refine Keeps.ite ?_ ?_
    · refine Keeps.after (standing_keeps _ _) rfl ?_
      exact Keeps.refl _ _
    · exact Keeps.refl _ _
  · assumption

theorem sensorFault_keeps (k) (s) : Keeps 138936512 s (sensorFault k s) := by
  unfold sensorFault
  refine Keeps.foldl ?_ ?_
  · intro t2 x3
    refine Keeps.after (State.raiseCause_keeps _ _ _ _) rfl ?_
    refine Keeps.after (State.setPresent_keeps _ _ _ _) rfl ?_
    exact Keeps.refl _ _
  · exact Keeps.refl _ _

theorem acceptObjects_keeps (k) (stamp) (age) (scan) (part) (parts) (degraded) (objs) (s) : Keeps 138936512 s (acceptObjects k stamp age scan part parts degraded objs s) := by
  unfold acceptObjects
  extract_lets v2 v3 v4 v5 v6 v7 v8 v9 v10 v11
  have hv10 : Keeps 138936512 (s) v10 := by
    unfold v10
    refine Keeps.after (State.setGsrc_keeps _ _ _) rfl ?_
    exact Keeps.refl _ _
  clear_value v10
  have hv11 : Keeps 138936512 (s) v11 := by
    unfold v11
    refine Keeps.ite ?_ ?_
    · refine Keeps.after (State.setGsrc_keeps _ _ _) rfl ?_
      exact Keeps.refl _ _
    · refine Keeps.ite ?_ ?_
      · refine Keeps.after (sensorFault_keeps _ _) rfl ?_
        assumption
      · assumption
  clear_value v11
  refine Keeps.ite ?_ ?_
  · refine Keeps.after (sensorFault_keeps _ _) rfl ?_
    refine Keeps.after (State.updGsrc_keeps _ _ _) rfl ?_
    assumption
  · assumption

theorem telegram_keeps (bs) (stamp) (s) : Keeps 138936512 s (telegram bs stamp s) := by
  unfold telegram
  extract_lets v2 v3 v4 v5 v6 v7 v8 v9 v10 v11 v12
  clear_value v2 v3 v4 v5 v6 v7 v8 v9 v10 v11 v12
  split
  · rename_i z14 z15
    exact Keeps.refl _ _
  · rename_i z17 z18 z19
    extract_lets v21 v22 v23 v24 v25 v26 v27 v28
    clear_value v21 v22 v23 v24 v25 v26 v27
    have hv28 : Keeps 138936512 (s) v28 := by
      unfold v28
      refine Keeps.after (State.setGsrc_keeps _ _ _) rfl ?_
      exact Keeps.refl _ _
    clear_value v28
    refine Keeps.ite ?_ ?_
    · refine Keeps.after (State.setGsrc_keeps _ _ _) rfl ?_
      exact Keeps.refl _ _
    · refine Keeps.ite ?_ ?_
      · refine Keeps.after (State.setGsrc_keeps _ _ _) rfl ?_
        exact Keeps.refl _ _
      · refine Keeps.ite ?_ ?_
        · refine Keeps.after (State.setGsrc_keeps _ _ _) rfl ?_
          exact Keeps.refl _ _
        · refine Keeps.ite ?_ ?_
          · refine Keeps.after (State.setGsrc_keeps _ _ _) rfl ?_
            exact Keeps.refl _ _
          · refine Keeps.ite ?_ ?_
            · refine Keeps.after (State.setGsrc_keeps _ _ _) rfl ?_
              exact Keeps.refl _ _
            · refine Keeps.ite ?_ ?_
              · refine Keeps.after (acceptJoints_keeps _ _ _ _) rfl ?_
                assumption
              · refine Keeps.after (acceptObjects_keeps _ _ _ _ _ _ _ _ _) rfl ?_
                assumption

theorem inputFault_keeps (i) (s) : Keeps 138936512 s (inputFault i s) := by
  unfold inputFault
  extract_lets v2
  have hv2 : Keeps 138936512 (s) v2 := by
    unfold v2
    refine Keeps.after (State.updSafeIn_keeps _ _ _) rfl ?_
    exact Keeps.refl _ _
  clear_value v2
  refine Keeps.foldl ?_ ?_
  · intro t6 x7
    refine Keeps.after (State.raiseOne_keeps _ _ _ _) rfl ?_
    refine Keeps.after (State.setPresent_keeps _ _ _ _) rfl ?_
    exact Keeps.refl _ _
  · assumption

theorem latchProposal_keeps (u) (s) : Keeps 4194304 s (latchProposal u s) := by
  unfold latchProposal
  extract_lets v2 v3 v4 v5 v6
  clear_value v2 v3 v4 v5 v6
  refine Keeps.after (State.updGunit_keeps _ _ _) rfl ?_
  exact Keeps.refl _ _

theorem disagree_keeps (u) (s) : Keeps 138936512 s (disagree u s) := by
  unfold disagree
  extract_lets v2 v3 v4 v5
  have hv4 : Keeps 138936512 (s) v4 := by
    unfold v4
    refine Keeps.glume_ (u := s) ?_ rfl (.inl rfl) (.inl rfl)
    exact Keeps.refl _ _
  have hv5 : Keeps 138936512 (s) v5 := by
    unfold v5
    refine Keeps.after (State.updGunit_keeps _ _ _) rfl ?_
    assumption
  refine Keeps.ite ?_ ?_
  · refine Keeps.after (State.glumeFault_keeps _ _) rfl ?_
    assumption
  · assumption

theorem channelResult_keeps (u) (r) (s) : Keeps 138936512 s (channelResult u r s) := by
  unfold channelResult
  extract_lets v2 v3 v4 v5 v6 v7 v8 v9 v10 v11 v12 v13 v14 v15
  clear_value v2 v3 v4 v5 v8 v9 v12 v13 v14 v15
  have hv6 : Keeps 138936512 (s) v6 := by
    unfold v6
    refine Keeps.after (State.updGunit_keeps _ _ _) rfl ?_
    exact Keeps.refl _ _
  clear_value v6
  have hv7 : Keeps 138936512 (s) v7 := by
    unfold v7
    refine Keeps.ite ?_ ?_
    · refine Keeps.after (disagree_keeps _ _) rfl ?_
      assumption
    · assumption
  clear_value v7
  have hv10 : Keeps 138936512 (s) v10 := by
    unfold v10
    refine Keeps.after (State.setPresent_keeps _ _ _ _) rfl ?_
    assumption
  clear_value v10
  have hv11 : Keeps 138936512 (s) v11 := by
    unfold v11
    refine Keeps.ite ?_ ?_
    · assumption
    · refine Keeps.after (State.raiseCause_keeps _ _ _ _) rfl ?_
      assumption
  clear_value v11
  refine Keeps.ite ?_ ?_
  · refine Keeps.ite ?_ ?_
    · assumption
    · refine Keeps.after (State.raiseCause_keeps _ _ _ _) rfl ?_
      assumption
  · refine Keeps.ite ?_ ?_
    · refine Keeps.after (State.setGunit_keeps _ _ _) rfl ?_
      assumption
    · split
      · rename_i z37 z38 z39 z40
        refine Keeps.after (State.setGunit_keeps _ _ _) rfl ?_
        assumption
      · rename_i z43 z44
        refine Keeps.after (disagree_keeps _ _) rfl ?_
        refine Keeps.after (State.setGunit_keeps _ _ _) rfl ?_
        assumption

theorem clearBrake_keeps (u) (o) (s) : Keeps 139985088 s (clearBrake u o s) := by
  unfold clearBrake
  extract_lets v2 v3 v4 v5 v6 v7 v8 v9 v10 v11 v12
  clear_value v2 v3 v4 v5 v6 v7 v8 v9 v10 v11
  have hv12 : Keeps 139985088 (s) v12 := by
    unfold v12
    refine Keeps.ite ?_ ?_
    · refine Keeps.after (State.raiseCause_keeps _ _ _ _) rfl ?_
      exact Keeps.refl _ _
    · exact Keeps.refl _ _
  clear_value v12
  refine Keeps.after (publish_keeps _ _ _) rfl ?_
  assumption

theorem publishChecked_keeps (u) (n) (s) : Keeps 5242880 s (publishChecked u n s) := by
  unfold publishChecked
  extract_lets v2 v3 v4 v5 v6 v7 v8
  clear_value v2 v3 v4 v5 v6 v7
  have hv8 : Keeps 5242880 (s) v8 := by
    unfold v8
    refine Keeps.after (State.updGunit_keeps _ _ _) rfl ?_
    exact Keeps.refl _ _
  clear_value v8
  refine Keeps.after (publish_keeps _ _ _) rfl ?_
  assumption

theorem State.gave_keeps (s) (u) (n) (f) : Keeps 16777216 s (State.gave s u n f) := by
  unfold State.gave
  refine Keeps.ite ?_ ?_
  · refine Keeps.pair_ (u := s) ?_ rfl
    exact Keeps.refl _ _
  · exact Keeps.refl _ _

theorem deliverArm_keeps (u) (s) : Keeps 425197760 s (deliverArm u s) := by
  unfold deliverArm
  extract_lets v2 v3
  clear_value v2 v3
  refine Keeps.ite ?_ ?_
  · refine Keeps.after (State.gave_keeps _ _ _ _) rfl ?_
    refine Keeps.after (clearBrake_keeps _ _ _) rfl ?_
    exact Keeps.refl _ _
  · split
    · rename_i z9 z10 z11 z12
      refine Keeps.ite ?_ ?_
      · refine Keeps.after (State.gave_keeps _ _ _ _) rfl ?_
        refine Keeps.after (State.updGunit_keeps _ _ _) rfl ?_
        refine Keeps.after (clearBrake_keeps _ _ _) rfl ?_
        refine Keeps.after (clearanceStop_keeps _ _) rfl ?_
        exact Keeps.refl _ _
      · extract_lets v20
        have hv20 : Keeps 425197760 (s) v20 := by
          unfold v20
          refine Keeps.after (State.updGunit_keeps _ _ _) rfl ?_
          refine Keeps.after (deliverFactor_keeps _ _ _) rfl ?_
          refine Keeps.after (publishChecked_keeps _ _ _) rfl ?_
          exact Keeps.refl _ _
        clear_value v20
        refine Keeps.after (State.gave_keeps _ _ _ _) rfl ?_
        refine Keeps.after (State.updGunit_keeps _ _ _) rfl ?_
        assumption
    · rename_i z28 z29
      exact Keeps.refl _ _

theorem deliverAux_keeps (o) (s) : Keeps 156762304 s (deliverAux o s) := by
  unfold deliverAux
  split
  · rename_i z2 z3
    refine Keeps.after (clearAux_keeps _ _) rfl ?_
    exact Keeps.refl _ _
  · rename_i z6 z7 z8
    refine Keeps.ite ?_ ?_
    · refine Keeps.ite ?_ ?_
      · refine Keeps.after (clearBrake_keeps _ _ _) rfl ?_
        exact Keeps.refl _ _
      · refine Keeps.after (clearAux_keeps _ _) rfl ?_
        exact Keeps.refl _ _
    · refine Keeps.ite ?_ ?_
      · refine Keeps.after (clearAux_keeps _ _) rfl ?_
        refine Keeps.ite ?_ ?_
        · refine Keeps.after (State.gave_keeps _ _ _ _) rfl ?_
          refine Keeps.after (deliverFactor_keeps _ _ _) rfl ?_
          exact Keeps.refl _ _
        · exact Keeps.refl _ _
      · refine Keeps.after (clearBrake_keeps _ _ _) rfl ?_
        exact Keeps.refl _ _

theorem deliverStops_keeps (s) : Keeps 290980032 s (deliverStops s) := by
  unfold deliverStops
  refine Keeps.foldl ?_ ?_
  · intro t2 x3
    refine Keeps.ite ?_ ?_
    · exact Keeps.refl _ _
    · extract_lets v7
      have hv7 : Keeps 290980032 (t2) v7 := by
        unfold v7
        refine Keeps.after (State.gave_keeps _ _ _ _) rfl ?_
        refine Keeps.after (State.updGunit_keeps _ _ _) rfl ?_
        exact Keeps.refl _ _
      clear_value v7
      refine Keeps.foldl ?_ ?_
      · intro t12 x13
        refine Keeps.ite ?_ ?_
        · exact Keeps.refl _ _
        · refine Keeps.after (State.updGunit_keeps _ _ _) rfl ?_
          refine Keeps.after (clearanceStop_keeps _ _) rfl ?_
          exact Keeps.refl _ _
      · assumption
  · exact Keeps.refl _ _

theorem takeDelivery_keeps (d) (s) : Keeps 408420544 s (takeDelivery d s) := by
  unfold takeDelivery
  refine Keeps.foldl ?_ ?_
  · intro t2 x3
    refine Keeps.ite ?_ ?_
    · exact Keeps.refl _ _
    · refine Keeps.ite ?_ ?_
      · refine Keeps.after (clearBrake_keeps _ _ _) rfl ?_
        refine Keeps.ite ?_ ?_
        · exact Keeps.refl _ _
        · refine Keeps.after (clearanceStop_keeps _ _) rfl ?_
          exact Keeps.refl _ _
      · refine Keeps.ite ?_ ?_
        · refine Keeps.after (deliverFactor_keeps _ _ _) rfl ?_
          refine Keeps.after (publishChecked_keeps _ _ _) rfl ?_
          exact Keeps.refl _ _
        · refine Keeps.ite ?_ ?_
          · refine Keeps.after (deliverFactor_keeps _ _ _) rfl ?_
            exact Keeps.refl _ _
          · exact Keeps.refl _ _
  · exact Keeps.refl _ _

theorem raiseLatched_keeps (s) : Keeps 138936512 s (raiseLatched s) := by
  unfold raiseLatched
  extract_lets v2 v3
  clear_value v2
  have hv3 : Keeps 138936512 (s) v3 := by
    unfold v3
    refine Keeps.foldl ?_ ?_
    · intro t5 x6
      extract_lets v8 v9
      clear_value v8 v9
      refine Keeps.ite ?_ ?_
      · exact Keeps.refl _ _
      · split
        · rename_i z13 z14
          refine Keeps.foldl ?_ ?_
          · intro t16 x17
            refine Keeps.after (State.raiseOne_keeps _ _ _ _) rfl ?_
            exact Keeps.refl _ _
          · exact Keeps.refl _ _
        · rename_i z21
          exact Keeps.refl _ _
    · exact Keeps.refl _ _
  clear_value v3
  refine Keeps.foldl ?_ ?_
  · intro t25 x26
    extract_lets v28 v29
    clear_value v28
    have hv29 : Keeps 138936512 (t25) v29 := by
      unfold v29
      refine Keeps.ite ?_ ?_
      · refine Keeps.after (State.raiseCause_keeps _ _ _ _) rfl ?_
        exact Keeps.refl _ _
      · exact Keeps.refl _ _
    clear_value v29
    refine Keeps.ite ?_ ?_
    · refine Keeps.after (State.raiseCause_keeps _ _ _ _) rfl ?_
      assumption
    · assumption
  · assumption

theorem countPass_keeps (u) (cause) (ok) (s) : Keeps 4194304 s (countPass u cause ok s) := by
  unfold countPass
  refine Keeps.after (State.updGunit_keeps _ _ _) rfl ?_
  exact Keeps.refl _ _

theorem endAutomatic_keeps (u) (s) : Keeps 138936512 s (endAutomatic u s) := by
  unfold endAutomatic
  extract_lets v2 v3 v4 v5 v6 v7 v8 v9 v10 v11 v12
  clear_value v2 v3 v4 v6 v7 v8
  have hv5 : Keeps 138936512 (s) v5 := by
    unfold v5
    split
    · rename_i z14 z15
      refine Keeps.after (countPass_keeps _ _ _ _) rfl ?_
      refine Keeps.after (countPass_keeps _ _ _ _) rfl ?_
      exact Keeps.refl _ _
    · rename_i z19
      exact Keeps.refl _ _
  clear_value v5
  have hv9 : ∀ a21 a22 a23, Keeps 138936512 a23 (v9 a21 a22 a23) := by
    intro a21 a22 a23
    unfold v9
    refine Keeps.ite ?_ ?_
    · refine Keeps.after (State.endCause_keeps _ _ _) rfl ?_
      exact Keeps.refl _ _
    · exact Keeps.refl _ _
  clear_value v9
  have hv10 : Keeps 138936512 (s) v10 := by
    unfold v10
    refine Keeps.ite ?_ ?_
    · refine Keeps.trans ?_ (hv9 _ _ _)
      refine Keeps.trans ?_ (hv9 _ _ _)
      refine Keeps.trans ?_ (hv9 _ _ _)
      assumption
    · assumption
  clear_value v10
  have hv11 : Keeps 138936512 (s) v11 := by
    unfold v11
    refine Keeps.trans ?_ (hv9 _ _ _)
    assumption
  clear_value v11
  have hv12 : Keeps 138936512 (s) v12 := by
    unfold v12
    refine Keeps.trans ?_ (hv9 _ _ _)
    assumption
  clear_value v12
  refine Keeps.ite ?_ ?_
  · refine Keeps.trans ?_ (hv9 _ _ _)
    assumption
  · assumption

theorem applyResets_keeps (s) : Keeps 138936512 s (applyResets s) := by
  unfold applyResets
  extract_lets v2 v3 v4 v5
  clear_value v2 v3 v5
  have hv4 : Keeps 138936512 (s) v4 := by
    unfold v4
    refine Keeps.foldl ?_ ?_
    · intro t7 x8
      refine Keeps.after (State.updSafeIn_keeps _ _ _) rfl ?_
      exact Keeps.refl _ _
    · exact Keeps.refl _ _
  clear_value v4
  refine Keeps.foldl ?_ ?_
  · intro t13 x14
    refine Keeps.foldl ?_ ?_
    · intro t16 x17
      refine Keeps.ite ?_ ?_
      · exact Keeps.refl _ _
      · extract_lets v21 v22
        have hv21 : Keeps 138936512 (t16) v21 := by
          unfold v21
          refine Keeps.ite ?_ ?_
          · refine Keeps.foldl ?_ ?_
            · intro t25 x26
              refine Keeps.ite ?_ ?_
              · refine Keeps.after (State.updSafeIn_keeps _ _ _) rfl ?_
                exact Keeps.refl _ _
              · exact Keeps.refl _ _
            · exact Keeps.refl _ _
          · exact Keeps.refl _ _
        clear_value v21
        have hv22 : Keeps 138936512 (t16) v22 := by
          unfold v22
          refine Keeps.ite ?_ ?_
          · refine Keeps.foldl ?_ ?_
            · intro t35 x36
              refine Keeps.ite ?_ ?_
              · refine Keeps.after (State.updSafeOut_keeps _ _ _) rfl ?_
                exact Keeps.refl _ _
              · exact Keeps.refl _ _
            · assumption
          · assumption
        clear_value v22
        refine Keeps.after (State.endCause_keeps _ _ _) rfl ?_
        assumption
    · exact Keeps.refl _ _
  · assumption

theorem activateBlock_keeps (s) : Keeps 584254488768 s (activateBlock s) := by
  unfold activateBlock
  split
  · rename_i z2 z3
    exact Keeps.refl _ _
  · rename_i z5 z6 z7
    extract_lets v9 v10 v11 v12 v13
    have hv10 : Keeps 584254488768 (s) v10 := by
      unfold v10
      refine Keeps.glume_ (u := s) ?_ rfl (.inr rfl) (.inl rfl)
      exact Keeps.refl _ _
    clear_value v10
    have hv11 : Keeps 584254488768 (s) v11 := by
      unfold v11
      refine Keeps.foldl ?_ ?_
      · intro t17 x18
        refine Keeps.after (State.updGsrc_keeps _ _ _) rfl ?_
        exact Keeps.refl _ _
      · assumption
    clear_value v11
    have hv12 : Keeps 584254488768 (s) v12 := by
      unfold v12
      refine Keeps.after (State.raiseAll_keeps _ _ _) rfl ?_
      assumption
    clear_value v12
    have hv13 : Keeps 584254488768 (s) v13 := by
      unfold v13
      refine Keeps.after (State.retain_keeps _ _ _ _) rfl ?_
      assumption
    clear_value v13
    refine Keeps.after (State.driveOutputs_keeps _) rfl ?_
    refine Keeps.after (State.event_keeps _ _ _ _ _) rfl ?_
    assumption

theorem openSafetyCycle_keeps (s) : Keeps 584540750016 s (openSafetyCycle s) := by
  unfold openSafetyCycle
  extract_lets v2 v3 v4 v5 v6 v7 v8 v9 v10
  have hv2 : Keeps 584540750016 (s) v2 := by
    unfold v2
    refine Keeps.ite ?_ ?_
    · exact Keeps.refl _ _
    · refine Keeps.foldl ?_ ?_
      · intro t14 x15
        refine Keeps.ite ?_ ?_
        · refine Keeps.after (deliverArm_keeps _ _) rfl ?_
          exact Keeps.refl _ _
        · exact Keeps.refl _ _
      · exact Keeps.refl _ _
  clear_value v2
  have hv4 : Keeps 584540750016 (s) v4 := by
    unfold v4
    refine Keeps.glume_ (u := v2) ?_ rfl (.inr rfl) (.inl rfl)
    assumption
  clear_value v4
  have hv5 : Keeps 584540750016 (s) v5 := by
    unfold v5
    refine Keeps.foldl ?_ ?_
    · intro t24 x25
      refine Keeps.after (State.updArm_keeps _ _ _) rfl ?_
      exact Keeps.refl _ _
    · assumption
  clear_value v5
  have hv6 : Keeps 584540750016 (s) v6 := by
    unfold v6
    refine Keeps.foldl ?_ ?_
    · intro t30 x31
      refine Keeps.after (State.updGunit_keeps _ _ _) rfl ?_
      exact Keeps.refl _ _
    · assumption
  clear_value v6
  have hv7 : Keeps 584540750016 (s) v7 := by
    unfold v7
    refine Keeps.after (activateBlock_keeps _) rfl ?_
    assumption
  clear_value v7
  have hv8 : Keeps 584540750016 (s) v8 := by
    unfold v8
    refine Keeps.after (raiseLatched_keeps _) rfl ?_
    assumption
  clear_value v8
  have hv9 : Keeps 584540750016 (s) v9 := by
    unfold v9
    refine Keeps.foldl ?_ ?_
    · intro t40 x41
      refine Keeps.after (endAutomatic_keeps _ _) rfl ?_
      exact Keeps.refl _ _
    · assumption
  clear_value v9
  have hv10 : Keeps 584540750016 (s) v10 := by
    unfold v10
    refine Keeps.after (applyResets_keeps _) rfl ?_
    assumption
  clear_value v10
  refine Keeps.ite ?_ ?_
  · assumption
  · refine Keeps.foldl ?_ ?_
    · intro t50 x51
      refine Keeps.ite ?_ ?_
      · refine Keeps.after (State.sendCtrl_keeps _ _) rfl ?_
        exact Keeps.refl _ _
      · exact Keeps.refl _ _
    · assumption

theorem clearanceEdge_keeps (s) : Keeps 584540750016 s (clearanceEdge s) := by
  unfold clearanceEdge
  extract_lets v2 v3 v4 v5
  have hv3 : Keeps 584540750016 (s) v3 := by
    unfold v3
    refine Keeps.pair_ (u := s) ?_ rfl
    exact Keeps.refl _ _
  clear_value v3
  have hv4 : Keeps 584540750016 (s) v4 := by
    unfold v4
    refine Keeps.ite ?_ ?_
    · refine Keeps.after (openSafetyCycle_keeps _) rfl ?_
      assumption
    · assumption
  clear_value v4
  have hv5 : Keeps 584540750016 (s) v5 := by
    unfold v5
    refine Keeps.ite ?_ ?_
    · assumption
    · refine Keeps.after (deliverStops_keeps _) rfl ?_
      assumption
  clear_value v5
  refine Keeps.foldl ?_ ?_
  · intro t17 x18
    refine Keeps.ite ?_ ?_
    · refine Keeps.after (deliverAux_keeps _ _) rfl ?_
      exact Keeps.refl _ _
    · exact Keeps.refl _ _
  · assumption

theorem stoFaults_keeps (s) : Keeps 139985089 s (stoFaults s) := by
  unfold stoFaults
  refine Keeps.foldl ?_ ?_
  · intro t2 x3
    extract_lets v5 v6
    clear_value v5 v6
    refine Keeps.ite ?_ ?_
    · refine Keeps.after (State.axisFault_keeps _ _ _) rfl ?_
      exact Keeps.refl _ _
    · exact Keeps.refl _ _
  · exact Keeps.refl _ _

theorem runSwitches_keeps (s) : Keeps 280494273 s (runSwitches s) := by
  unfold runSwitches
  extract_lets v2 v3 v4
  clear_value v2
  have hv3 : Keeps 280494273 (s) v3.1 := by
    unfold v3
    refine Keeps.foldl1 ?_ ?_
    · intro t6 x7
      extract_lets v9
      have hv9 : Keeps 280494273 (t6.1) v9.1 := by
        unfold v9
        refine Keeps.after (sampleAxis_keeps _ _) rfl ?_
        exact Keeps.refl _ _
      clear_value v9
      refine Keeps.mk1 ?_
      assumption
    · refine Keeps.mk1 ?_
      exact Keeps.refl _ _
  clear_value v3
  have hv4 : Keeps 280494273 (s) v4 := by
    unfold v4
    refine Keeps.foldl ?_ ?_
    · intro t17 x18
      refine Keeps.after (onSwitch_keeps _ _ _ _ _) rfl ?_
      exact Keeps.refl _ _
    · assumption
  clear_value v4
  refine Keeps.foldl ?_ ?_
  · intro t23 x24
    refine Keeps.ite ?_ ?_
    · refine Keeps.after (homingTick_keeps _ _) rfl ?_
      exact Keeps.refl _ _
    · exact Keeps.refl _ _
  · assumption

theorem fwdLateBy_keeps (n) (s) : Keeps 16777216 s (fwdLateBy n s) := by
  unfold fwdLateBy
  refine Keeps.pair_ (u := s) ?_ rfl
  exact Keeps.refl _ _

theorem takeCommits_keeps (l) (s) : Keeps 128 s (takeCommits l s) := by
  unfold takeCommits
  refine Keeps.host_ (u := s) ?_ rfl
  exact Keeps.refl _ _

theorem takeFwd_keeps (f) (s) : Keeps 435683521 s (takeFwd f s) := by
  unfold takeFwd
  extract_lets v2 v3 v4 v5 v6 v7
  have hv3 : Keeps 435683521 (s) v3 := by
    unfold v3
    refine Keeps.after (takeCommits_keeps _ _) rfl ?_
    refine Keeps.pair_ (u := s) ?_ rfl
    exact Keeps.refl _ _
  clear_value v3
  have hv4 : Keeps 435683521 (s) v4 := by
    unfold v4
    refine Keeps.foldl ?_ ?_
    · intro t12 x13
      refine Keeps.after (State.updGpio_keeps _ _ _) rfl ?_
      exact Keeps.refl _ _
    · assumption
  clear_value v4
  have hv5 : Keeps 435683521 (s) v5 := by
    unfold v5
    refine Keeps.foldl ?_ ?_
    · intro t18 x19
      refine Keeps.ite ?_ ?_
      · refine Keeps.after (State.updCap_keeps _ _ _) rfl ?_
        exact Keeps.refl _ _
      · exact Keeps.refl _ _
    · assumption
  clear_value v5
  have hv6 : Keeps 435683521 (s) v6 := by
    unfold v6
    refine Keeps.foldl ?_ ?_
    · intro t26 x27
      refine Keeps.motion_ (u := t26) ?_ rfl
      exact Keeps.refl _ _
    · assumption
  clear_value v6
  have hv7 : Keeps 435683521 (s) v7 := by
    unfold v7
    refine Keeps.foldl ?_ ?_
    · intro t32 x33
      refine Keeps.after (takeDelivery_keeps _ _) rfl ?_
      exact Keeps.refl _ _
    · assumption
  clear_value v7
  refine Keeps.ite ?_ ?_
  · assumption
  · refine Keeps.ite ?_ ?_
    · refine Keeps.after (fwdLateBy_keeps _ _) rfl ?_
      assumption
    · refine Keeps.after (runSwitches_keeps _) rfl ?_
      assumption

theorem compareDigests_keeps (s) : Keeps 16777216 s (compareDigests s) := by
  unfold compareDigests
  split
  · rename_i z2 z3 z4 z5 z6 z7 z8 z9
    refine Keeps.ite ?_ ?_
    · exact Keeps.refl _ _
    · extract_lets v13 v14 v15 v16
      clear_value v13 v14 v15
      refine Keeps.pair_ (u := s) ?_ rfl
      exact Keeps.refl _ _
  · rename_i z19 z20 z21
    exact Keeps.refl _ _

theorem sealDigests_keeps (s) : Keeps 16777216 s (sealDigests s) := by
  unfold sealDigests
  refine Keeps.ite ?_ ?_
  · exact Keeps.refl _ _
  · refine Keeps.after (compareDigests_keeps _) rfl ?_
    refine Keeps.pair_ (u := s) ?_ rfl
    exact Keeps.refl _ _

theorem takeDigest_keeps (tick) (l) (s) : Keeps 16777216 s (takeDigest tick l s) := by
  unfold takeDigest
  refine Keeps.after (compareDigests_keeps _) rfl ?_
  refine Keeps.pair_ (u := s) ?_ rfl
  exact Keeps.refl _ _

theorem applySlice_keeps (s) : Keeps 17825792 s (applySlice s) := by
  unfold applySlice
  split
  · rename_i z2 z3
    exact Keeps.refl _ _
  · rename_i z5 z6 z7
    extract_lets v9 v10 v11 v12
    clear_value v11
    have hv10 : Keeps 17825792 (s) v10 := by
      unfold v10
      refine Keeps.pair_ (u := s) ?_ rfl
      exact Keeps.refl _ _
    clear_value v10
    have hv12 : Keeps 17825792 (s) v12 := by
      unfold v12
      refine Keeps.foldl ?_ ?_
      · intro t16 x17
        refine Keeps.after (State.updArm_keeps _ _ _) rfl ?_
        exact Keeps.refl _ _
      · assumption
    clear_value v12
    refine Keeps.foldl ?_ ?_
    · intro t22 x23
      refine Keeps.after (State.updAxis_keeps _ _ _) rfl ?_
      exact Keeps.refl _ _
    · assumption

theorem sliceLate_keeps (s) : Keeps 16777216 s (sliceLate s) := by
  unfold sliceLate
  refine Keeps.pair_ (u := s) ?_ rfl
  exact Keeps.refl _ _

theorem nonce_keeps (s) : Keeps 268435456 s (nonce s).2 := by
  unfold nonce
  split
  rename_i z2 z3 z4 z5
  refine Keeps.mk2 ?_
  refine Keeps.snd_eq z5 ?_
  refine Keeps.after (State.freeBelow_keeps _ _) rfl ?_
  exact Keeps.refl _ _

theorem sendJoin_keeps (rings) (step) (uid) (node) (result) (octs) (s) : Keeps 134217728 s (sendJoin rings step uid node result octs s) := by
  unfold sendJoin
  refine Keeps.foldl ?_ ?_
  · intro t2 x3
    refine Keeps.after (State.send_keeps _ _) rfl ?_
    exact Keeps.refl _ _
  · exact Keeps.refl _ _

theorem sendJ1_keeps (s) : Keeps 411041792 s (sendJ1 s) := by
  unfold sendJ1
  split
  rename_i z2 z3 z4 z5
  extract_lets v7 v8 v9 v10
  clear_value v7 v10
  have hv9 : Keeps 411041792 (s) v9 := by
    unfold v9
    refine Keeps.fab_ (u := z4) ?_ rfl
    refine Keeps.snd_eq z5 ?_
    refine Keeps.after (nonce_keeps _) rfl ?_
    exact Keeps.refl _ _
  clear_value v9
  refine Keeps.after (sendJoin_keeps _ _ _ _ _ _ _) rfl ?_
  assumption

theorem measure_keeps (r) (b) (s) : Keeps 8388608 s (measure r b s) := by
  unfold measure
  split
  rename_i z2 z3 z4 z5 z6 z7
  refine Keeps.ite ?_ ?_
  · exact Keeps.refl _ _
  · extract_lets v11 v12
    clear_value v11 v12
    refine Keeps.after (State.updFabPort_keeps _ _ _) rfl ?_
    refine Keeps.after (State.updFabPort_keeps _ _ _) rfl ?_
    exact Keeps.refl _ _

theorem offsetSample_keeps (r) (s) : Keeps 8388609 s (offsetSample r s) := by
  unfold offsetSample
  split
  rename_i z2 z3 z4 z5 z6
  extract_lets v8 v9
  clear_value v8 v9
  refine Keeps.ite ?_ ?_
  · exact Keeps.refl _ _
  · refine Keeps.after (servoSample_keeps _ _ _) rfl ?_
    refine Keeps.after (State.updFabRing_keeps _ _ _) rfl ?_
    exact Keeps.refl _ _

theorem setFromCycle_keeps (t) (s) : Keeps 4303355907 s (setFromCycle t s) := by
  unfold setFromCycle
  extract_lets v2 v3 v4 v5 v6
  clear_value v3 v4
  have hv2 : Keeps 4303355907 (s) v2 := by
    unfold v2
    refine Keeps.after (setBaseTime_keeps _ _ _ _) rfl ?_
    exact Keeps.refl _ _
  clear_value v2
  refine Keeps.trans (t := v2) ?_ (fun p hp => by cases p <;> first | rfl | exact absurd hp (by decide) | exact fun h => h | exact Nat.le_refl _)
  assumption

theorem takeSleep_keeps (b) (s) : Keeps 8388608 s (takeSleep b s) := by
  unfold takeSleep
  extract_lets v2 v3 v4
  clear_value v2 v3
  refine Keeps.fab_ (u := s) ?_ rfl
  exact Keeps.refl _ _

theorem takeCycle_keeps (p) (src) (b) (stamp) (s) : Keeps 4303355907 s (takeCycle p src b stamp s) := by
  unfold takeCycle
  extract_lets v2 v3 v4 v5 v6 v7 v8 v9 v10 v11
  clear_value v2 v3 v4 v5 v7
  have hv6 : Keeps 4303355907 (s) v6 := by
    unfold v6
    refine Keeps.after (State.updFabRing_keeps _ _ _) rfl ?_
    exact Keeps.refl _ _
  clear_value v6
  have hv9 : Keeps 4303355907 (s) v9 := by
    unfold v9
    refine Keeps.fab_ (u := v6) ?_ rfl
    assumption
  clear_value v9
  have hv10 : Keeps 4303355907 (s) v10 := by
    unfold v10
    refine Keeps.ite ?_ ?_
    · refine Keeps.after (takeSleep_keeps _ _) rfl ?_
      refine Keeps.after (measure_keeps _ _ _) rfl ?_
      assumption
    · assumption
  clear_value v10
  have hv11 : Keeps 4303355907 (s) v11 := by
    unfold v11
    refine Keeps.after (State.updFabRing_keeps _ _ _) rfl ?_
    assumption
  clear_value v11
  refine Keeps.ite ?_ ?_
  · assumption
  · refine Keeps.ite ?_ ?_
    · refine Keeps.after (setFromCycle_keeps _ _) rfl ?_
      assumption
    · refine Keeps.ite ?_ ?_
      · assumption
      · refine Keeps.after (offsetSample_keeps _ _) rfl ?_
        assumption

theorem joinerHears_keeps (s) : Keeps 411041792 s (joinerHears s) := by
  unfold joinerHears
  extract_lets v2
  clear_value v2
  refine Keeps.ite ?_ ?_
  · refine Keeps.after (sendJ1_keeps _) rfl ?_
    exact Keeps.refl _ _
  · exact Keeps.refl _ _

theorem takeColdStart_keeps (p) (src) (uid) (node) (s) : Keeps 411041792 s (takeColdStart p src uid node s) := by
  unfold takeColdStart
  extract_lets v2 v3
  clear_value v2
  refine Keeps.ite ?_ ?_
  · refine Keeps.after (sendJ1_keeps _) rfl ?_
    exact Keeps.refl _ _
  · refine Keeps.ite ?_ ?_
    · exact Keeps.refl _ _
    · refine Keeps.ite ?_ ?_
      · refine Keeps.fab_ (u := s) ?_ rfl
        exact Keeps.refl _ _
      · refine Keeps.fab_ (u := s) ?_ rfl
        exact Keeps.refl _ _

theorem takeAnnounce_keeps (d) (uid) (role) (rings) (a) (b) (s) : Keeps 8388608 s (takeAnnounce d uid role rings a b s) := by
  unfold takeAnnounce
  refine Keeps.after (State.updFabNode_keeps _ _ _) rfl ?_
  exact Keeps.refl _ _

theorem takeMbx_keeps (d) (ch) (mseq) (w) (s) : Keeps 142606720 s (takeMbx d ch mseq w s) := by
  unfold takeMbx
  extract_lets v2 v3 v4
  clear_value v2
  have hv3 : Keeps 142606720 (s) v3 := by
    unfold v3
    refine Keeps.after (State.updFabNode_keeps _ _ _) rfl ?_
    exact Keeps.refl _ _
  clear_value v3
  refine Keeps.after (remoteWord_keeps _ _ _ _) rfl ?_
  refine Keeps.fab_ (u := v3) ?_ rfl
  assumption

theorem takeMaster_keeps (d) (axis) (stamp) (pos) (flags) (s) : Keeps 1048576 s (takeMaster d axis stamp pos flags s) := by
  unfold takeMaster
  extract_lets v2
  clear_value v2
  refine Keeps.foldl ?_ ?_
  · intro t4 x5
    refine Keeps.after (State.updAxis_keeps _ _ _) rfl ?_
    exact Keeps.refl _ _
  · exact Keeps.refl _ _

theorem declareTakeover_keeps (s) : Keeps 25165824 s (declareTakeover s) := by
  unfold declareTakeover
  refine Keeps.ite ?_ ?_
  · exact Keeps.refl _ _
  · refine Keeps.after (State.tell_keeps _ _ _) rfl ?_
    refine Keeps.pair_ (u := s) ?_ rfl
    exact Keeps.refl _ _

theorem takeRecord_keeps (d) (s) (r) : Keeps 435683777 s (takeRecord d s r) := by
  unfold takeRecord
  split
  · rename_i z2 z3 z4 z5 z6 z7
    refine Keeps.after (takeAnnounce_keeps _ _ _ _ _ _ _) rfl ?_
    exact Keeps.refl _ _
  · rename_i z10 z11
    refine Keeps.ite ?_ ?_
    · refine Keeps.after (takeFwd_keeps _ _) rfl ?_
      exact Keeps.refl _ _
    · exact Keeps.refl _ _
  · rename_i z16 z17 z18
    refine Keeps.ite ?_ ?_
    · refine Keeps.after (takeDigest_keeps _ _ _) rfl ?_
      exact Keeps.refl _ _
    · exact Keeps.refl _ _
  · rename_i z23 z24
    refine Keeps.ite ?_ ?_
    · refine Keeps.pair_ (u := s) ?_ rfl
      exact Keeps.refl _ _
    · exact Keeps.refl _ _
  · rename_i z29 z30 z31
    refine Keeps.claim_ (u := s) ?_ rfl
    exact Keeps.refl _ _
  · rename_i z34 z35 z36 z37 z38
    refine Keeps.after (takeMaster_keeps _ _ _ _ _ _) rfl ?_
    exact Keeps.refl _ _
  · rename_i z41 z42 z43 z44
    refine Keeps.after (takeMbx_keeps _ _ _ _ _) rfl ?_
    exact Keeps.refl _ _
  · rename_i z47
    refine Keeps.ite ?_ ?_
    · refine Keeps.after (declareTakeover_keeps _) rfl ?_
      exact Keeps.refl _ _
    · exact Keeps.refl _ _
  · rename_i z52 z53
    refine Keeps.fab_ (u := s) ?_ rfl
    exact Keeps.refl _ _
  · rename_i z56 z57 z58
    refine Keeps.fab_ (u := s) ?_ rfl
    exact Keeps.refl _ _
  · rename_i z61
    refine Keeps.after (State.updFabNode_keeps _ _ _) rfl ?_
    exact Keeps.refl _ _
  · rename_i z64
    refine Keeps.fab_ (u := s) ?_ rfl
    exact Keeps.refl _ _
  · rename_i z67 z68 z69 z70 z71
    exact Keeps.refl _ _
  · rename_i z73 z74 z75
    exact Keeps.refl _ _

theorem forwardFrame_keeps (p) (f) (s) : Keeps 142606336 s (forwardFrame p f s) := by
  unfold forwardFrame
  extract_lets v2 v3
  clear_value v2
  have hv3 : Keeps 142606336 (s) v3 := by
    unfold v3
    refine Keeps.ite ?_ ?_
    · refine Keeps.after (State.send_keeps _ _) rfl ?_
      exact Keeps.refl _ _
    · exact Keeps.refl _ _
  clear_value v3
  refine Keeps.ite ?_ ?_
  · assumption
  · refine Keeps.after (State.updFabPort_keeps _ _ _) rfl ?_
    assumption

theorem noteArrival_keeps (p) (f) (stamp) (s) : Keeps 8388608 s (noteArrival p f stamp s) := by
  unfold noteArrival
  extract_lets v2 v3 v4
  clear_value v2 v3 v4
  refine Keeps.after (State.updFabNode_keeps _ _ _) rfl ?_
  exact Keeps.refl _ _

theorem relayFrame_keeps (p) (f) (s) : Keeps 8388608 s (relayFrame p f s) := by
  unfold relayFrame
  extract_lets v2 v3 v4 v5 v6 v7
  clear_value v2 v3 v4 v5 v6
  refine Keeps.ite ?_ ?_
  · exact Keeps.refl _ _
  · refine Keeps.fab_ (u := s) ?_ rfl
    exact Keeps.refl _ _

theorem takeSlot_keeps (p) (f) (l) (s) : Keeps 552338981315 s (takeSlot p f l s) := by
  unfold takeSlot
  extract_lets v2 v3 v4 v5 v6 v7
  clear_value v2 v3
  have hv4 : ∀ a8, Keeps 552338981315 a8 (v4 a8) := by
    intro a8
    unfold v4
    refine Keeps.fab_ (u := a8) ?_ rfl
    exact Keeps.refl _ _
  clear_value v4
  have hv6 : Keeps 552338981315 (s) v6 := by
    unfold v6
    refine Keeps.after (relayFrame_keeps _ _ _) rfl ?_
    exact Keeps.refl _ _
  clear_value v6
  have hv7 : Keeps 552338981315 (s) v7 := by
    unfold v7
    refine Keeps.ite ?_ ?_
    · refine Keeps.after (becomeStale_keeps _) rfl ?_
      assumption
    · assumption
  clear_value v7
  refine Keeps.ite ?_ ?_
  · exact Keeps.refl _ _
  · refine Keeps.ite ?_ ?_
    · refine Keeps.fab_ (u := s) ?_ rfl
      exact Keeps.refl _ _
    · refine Keeps.ite ?_ ?_
      · refine Keeps.fab_ (u := s) ?_ rfl
        exact Keeps.refl _ _
      · refine Keeps.ite ?_ ?_
        · refine Keeps.trans ?_ (hv4 _)
          exact Keeps.refl _ _
        · refine Keeps.ite ?_ ?_
          · assumption
          · refine Keeps.foldl ?_ ?_
            · intro t31 x32
              refine Keeps.after (takeRecord_keeps _ _ _) rfl ?_
              exact Keeps.refl _ _
            · assumption

theorem receiveFrame_keeps (p) (f) (stamp) (s) : Keeps 556633948611 s (receiveFrame p f stamp s) := by
  unfold receiveFrame
  extract_lets v2 v3 v4 v5 v6 v7 v8 v9 v10
  clear_value v4 v5 v8
  have hv2 : Keeps 556633948611 (s) v2 := by
    unfold v2
    refine Keeps.after (forwardFrame_keeps _ _ _) rfl ?_
    exact Keeps.refl _ _
  clear_value v2
  have hv6 : Keeps 556633948611 (s) v6 := by
    unfold v6
    refine Keeps.fab_ (u := v2) ?_ rfl
    assumption
  clear_value v6
  have hv9 : Keeps 556633948611 (s) v9 := by
    unfold v9
    refine Keeps.after (noteArrival_keeps _ _ _ _) rfl ?_
    assumption
  clear_value v9
  have hv10 : Keeps 556633948611 (s) v10 := by
    unfold v10
    refine Keeps.after (State.updFabNode_keeps _ _ _) rfl ?_
    assumption
  clear_value v10
  refine Keeps.ite ?_ ?_
  · assumption
  · refine Keeps.ite ?_ ?_
    · refine Keeps.fab_ (u := v2) ?_ rfl
      assumption
    · split
      · rename_i z25 z26 z27 z28 z29 z30
        refine Keeps.after (takeColdStart_keeps _ _ _ _ _) rfl ?_
        assumption
      · rename_i z33 z34
        assumption
      · rename_i z36 z37 z38
        refine Keeps.ite ?_ ?_
        · refine Keeps.pair_ (u := v6) ?_ rfl
          assumption
        · split
          · rename_i z43 z44 z45
            extract_lets v47
            have hv47 : Keeps 556633948611 (s) v47 := by
              unfold v47
              refine Keeps.ite ?_ ?_
              · refine Keeps.after (takeCycle_keeps _ _ _ _ _) rfl ?_
                assumption
              · assumption
            clear_value v47
            refine Keeps.after (joinerHears_keeps _) rfl ?_
            assumption
          · rename_i z54 z55 z56
            refine Keeps.ite ?_ ?_
            · assumption
            · refine Keeps.after (takeSlot_keeps _ _ _ _) rfl ?_
              assumption
          · rename_i z61 z62 z63
            refine Keeps.ite ?_ ?_
            · assumption
            · refine Keeps.after (relayFrame_keeps _ _ _) rfl ?_
              assumption

theorem emit_keeps (r) (s) (f) : Keeps 142606336 s (emit r s f) := by
  unfold emit
  split
  rename_i z2 z3 z4 z5
  extract_lets v7 v8 v9
  clear_value v8
  have hv7 : Keeps 142606336 (s) v7 := by
    unfold v7
    refine Keeps.after (insertOn_keeps _ _ _) rfl ?_
    refine Keeps.snd_eq z5 ?_
    refine Keeps.after (newFrame_keeps _ _ _) rfl ?_
    exact Keeps.refl _ _
  clear_value v7
  refine Keeps.fab_ (u := v7) ?_ rfl
  assumption

theorem dataSlot_keeps (r) (len) (s) : Keeps 142606336 s (dataSlot r len s) := by
  unfold dataSlot
  extract_lets v2 v3 v4 v5 v6 v7 v8 v9 v10 v11 v12 v13 v14 v15 v16
  clear_value v2 v3 v4 v5 v6 v7 v8 v9 v10 v11
  have hv12 : Keeps 142606336 (s) v12 := by
    unfold v12
    refine Keeps.foldl ?_ ?_
    · intro t18 x19
      refine Keeps.after (insertOn_keeps _ _ _) rfl ?_
      exact Keeps.refl _ _
    · exact Keeps.refl _ _
  clear_value v12
  have hv14 : Keeps 142606336 (s) v14 := by
    unfold v14
    refine Keeps.fab_ (u := v12) ?_ rfl
    assumption
  clear_value v14
  have hv15 : Keeps 142606336 (s) v15 := by
    unfold v15
    refine Keeps.foldl ?_ ?_
    · intro t26 x27
      split
      · rename_i z29 z30 z31
        refine Keeps.after (State.updFabNode_keeps _ _ _) rfl ?_
        exact Keeps.refl _ _
      · rename_i z34 z35
        exact Keeps.refl _ _
    · assumption
  clear_value v15
  have hv16 : Keeps 142606336 (s) v16 := by
    unfold v16
    refine Keeps.foldl ?_ ?_
    · intro t39 x40
      refine Keeps.after (emit_keeps _ _ _) rfl ?_
      exact Keeps.refl _ _
    · assumption
  clear_value v16
  refine Keeps.ite ?_ ?_
  · refine Keeps.after (emit_keeps _ _ _) rfl ?_
    assumption
  · assumption

theorem forwardSlot_keeps (r) (s) : Keeps 159383552 s (forwardSlot r s) := by
  unfold forwardSlot
  extract_lets v2 v3 v4
  clear_value v2 v3
  refine Keeps.ite ?_ ?_
  · refine Keeps.after (emit_keeps _ _ _) rfl ?_
    refine Keeps.pair_ (u := s) ?_ rfl
    exact Keeps.refl _ _
  · refine Keeps.ite ?_ ?_
    · refine Keeps.after (emit_keeps _ _ _) rfl ?_
      exact Keeps.refl _ _
    · exact Keeps.refl _ _

theorem resyncSlot_keeps (r) (s) : Keeps 142606336 s (resyncSlot r s) := by
  unfold resyncSlot
  split
  · rename_i z2 z3 z4 z5
    refine Keeps.ite ?_ ?_
    · refine Keeps.after (emit_keeps _ _ _) rfl ?_
      exact Keeps.refl _ _
    · exact Keeps.refl _ _
  · rename_i z10 z11
    exact Keeps.refl _ _

theorem openSlot_keeps (i) (early) (s) : Keeps 159383553 s (openSlot i early s) := by
  unfold openSlot
  split
  · rename_i z2 z3
    exact Keeps.refl _ _
  · rename_i z5 z6 z7
    refine Keeps.ite ?_ ?_
    · exact Keeps.refl _ _
    · refine Keeps.ite ?_ ?_
      · refine Keeps.fab_ (u := s) ?_ rfl
        exact Keeps.refl _ _
      · extract_lets v14 v15 v16 v17 v18 v19 v20
        clear_value v15 v16
        have hv14 : Keeps 159383553 (s) v14 := by
          unfold v14
          refine Keeps.after (State.advanceTo_keeps _ _) rfl ?_
          exact Keeps.refl _ _
        clear_value v14
        have hv18 : Keeps 159383553 (s) v18 := by
          unfold v18
          split
          · rename_i z24 z25
            refine Keeps.after (dataSlot_keeps _ _ _) rfl ?_
            assumption
          · rename_i z28 z29
            refine Keeps.after (forwardSlot_keeps _ _) rfl ?_
            assumption
          · rename_i z32 z33
            refine Keeps.after (resyncSlot_keeps _ _) rfl ?_
            assumption
          · rename_i z36 z37
            refine Keeps.foldl ?_ ?_
            · intro t39 x40
              refine Keeps.after (insertOn_keeps _ _ _) rfl ?_
              exact Keeps.refl _ _
            · refine Keeps.fab_ (u := v14) ?_ rfl
              assumption
          · rename_i z45 z46 z47 z48 z49
            assumption
        clear_value v18
        have hv19 : Keeps 159383553 (s) v19 := by
          unfold v19
          refine Keeps.after (State.updFabRing_keeps _ _ _) rfl ?_
          assumption
        clear_value v19
        refine Keeps.ite ?_ ?_
        · refine Keeps.fab_ (u := v19) ?_ rfl
          assumption
        · assumption

theorem guardDrop_keeps (s) : Keeps 8388608 s (guardDrop s) := by
  unfold guardDrop
  extract_lets v2 v3
  clear_value v2
  refine Keeps.ite ?_ ?_
  · refine Keeps.fab_ (u := s) ?_ rfl
    exact Keeps.refl _ _
  · refine Keeps.fab_ (u := s) ?_ rfl
    exact Keeps.refl _ _

theorem cycleInterrupts_keeps (i) (s) : Keeps 134220032 s (cycleInterrupts i s) := by
  unfold cycleInterrupts
  refine Keeps.foldl ?_ ?_
  · intro t2 x3
    refine Keeps.ite ?_ ?_
    · exact Keeps.refl _ _
    · extract_lets v7 v8
      have hv7 : Keeps 134220032 (t2) v7 := by
        unfold v7
        refine Keeps.foldl ?_ ?_
        · intro t10 x11
          refine Keeps.after (State.requestEntry_keeps _ _ _ _ _) rfl ?_
          exact Keeps.refl _ _
        · exact Keeps.refl _ _
      clear_value v7
      have hv8 : Keeps 134220032 (t2) v8 := by
        unfold v8
        refine Keeps.ite ?_ ?_
        · refine Keeps.after (State.ring_keeps _ _ _) rfl ?_
          assumption
        · assumption
      clear_value v8
      refine Keeps.ite ?_ ?_
      · refine Keeps.after (State.ring_keeps _ _ _) rfl ?_
        assumption
      · assumption
  · exact Keeps.refl _ _

theorem closeSlot_keeps (i) (cut) (s) : Keeps 142608641 s (closeSlot i cut s) := by
  unfold closeSlot
  split
  · rename_i z2 z3
    exact Keeps.refl _ _
  · rename_i z5 z6 z7
    refine Keeps.ite ?_ ?_
    · exact Keeps.refl _ _
    · extract_lets v11 v12 v13 v14 v15 v16 v17
      clear_value v12 v15
      have hv11 : Keeps 142608641 (s) v11 := by
        unfold v11
        refine Keeps.after (State.advanceTo_keeps _ _) rfl ?_
        exact Keeps.refl _ _
      clear_value v11
      have hv14 : Keeps 142608641 (s) v14 := by
        unfold v14
        refine Keeps.ite ?_ ?_
        · refine Keeps.after (guardDrop_keeps _) rfl ?_
          refine Keeps.after (State.send_keeps _ _) rfl ?_
          refine Keeps.fab_ (u := v11) ?_ rfl
          assumption
        · refine Keeps.after (guardDrop_keeps _) rfl ?_
          assumption
      clear_value v14
      have hv16 : Keeps 142608641 (s) v16 := by
        unfold v16
        refine Keeps.ite ?_ ?_
        · assumption
        · refine Keeps.after (State.updFabNode_keeps _ _ _) rfl ?_
          assumption
      clear_value v16
      have hv17 : Keeps 142608641 (s) v17 := by
        unfold v17
        refine Keeps.ite ?_ ?_
        · refine Keeps.after (offsetSample_keeps _ _) rfl ?_
          assumption
        · assumption
      clear_value v17
      refine Keeps.after (cycleInterrupts_keeps _ _) rfl ?_
      assumption

theorem electMaster_keeps (s) : Keeps 549781504066 s (electMaster s) := by
  unfold electMaster
  extract_lets v2 v3 v4 v5
  clear_value v2 v3 v4
  split
  · rename_i z7 z8
    exact Keeps.refl _ _
  · rename_i z10 z11 z12
    extract_lets v14
    have hv14 : Keeps 549781504066 (s) v14 := by
      unfold v14
      refine Keeps.fab_ (u := s) ?_ rfl
      exact Keeps.refl _ _
    refine Keeps.ite ?_ ?_
    · refine Keeps.after (takeRole_keeps _ _) rfl ?_
      assumption
    · assumption

theorem departNode_keeps (d) (s) : Keeps 61341888 s (departNode d s) := by
  unfold departNode
  extract_lets v2 v3 v4 v5 v6
  clear_value v2
  have hv3 : Keeps 61341888 (s) v3 := by
    unfold v3
    refine Keeps.ite ?_ ?_
    · exact Keeps.refl _ _
    · refine Keeps.after (revokeNode_keeps _ _) rfl ?_
      exact Keeps.refl _ _
  clear_value v3
  have hv4 : Keeps 61341888 (s) v4 := by
    unfold v4
    refine Keeps.after (State.event_keeps _ _ _ _ _) rfl ?_
    refine Keeps.after (dropLines_keeps _) rfl ?_
    assumption
  clear_value v4
  have hv5 : Keeps 61341888 (s) v5 := by
    unfold v5
    refine Keeps.ite ?_ ?_
    · refine Keeps.after (State.completeCmd_keeps _ _ _ _) rfl ?_
      assumption
    · assumption
  clear_value v5
  have hv6 : Keeps 61341888 (s) v6 := by
    unfold v6
    refine Keeps.ite ?_ ?_
    · refine Keeps.pair_ (u := v5) ?_ rfl
      assumption
    · assumption
  clear_value v6
  refine Keeps.ite ?_ ?_
  · assumption
  · refine Keeps.after (removeMember_keeps _ _) rfl ?_
    assumption

theorem ackBulk_keeps (peer) (xfer) (acked) (s) : Keeps 142606336 s (ackBulk peer xfer acked s) := by
  unfold ackBulk
  refine Keeps.ite ?_ ?_
  · refine Keeps.after (State.tell_keeps _ _ _) rfl ?_
    exact Keeps.refl _ _
  · split
    rename_i z5 z6 z7 z8
    refine Keeps.foldl ?_ ?_
    · intro t10 x11
      refine Keeps.after (insertOn_keeps _ _ _) rfl ?_
      exact Keeps.refl _ _
    · refine Keeps.snd_eq z8 ?_
      refine Keeps.after (newFrame_keeps _ _ _) rfl ?_
      exact Keeps.refl _ _

theorem takePair_keeps (peer) (x) (s) : Keeps 45161119750 s (takePair peer x s) := by
  unfold takePair
  refine Keeps.ite ?_ ?_
  · exact Keeps.refl _ _
  · extract_lets v4 v5 v6 v7 v8 v9 v10 v11 v12 v13 v14 v15 v16
    clear_value v8 v9 v11
    have hv4 : Keeps 45161119750 (s) v4 := by
      unfold v4
      refine Keeps.foldl ?_ ?_
      · intro t18 x19
        refine Keeps.after (State.setAxis_keeps _ _ _) rfl ?_
        exact Keeps.refl _ _
      · exact Keeps.refl _ _
    clear_value v4
    have hv5 : Keeps 45161119750 (s) v5 := by
      unfold v5
      refine Keeps.foldl ?_ ?_
      · intro t24 x25
        refine Keeps.after (State.setArm_keeps _ _ _) rfl ?_
        exact Keeps.refl _ _
      · assumption
    clear_value v5
    have hv6 : Keeps 45161119750 (s) v6 := by
      unfold v6
      refine Keeps.foldl ?_ ?_
      · intro t30 x31
        refine Keeps.after (State.setNet_keeps _ _ _) rfl ?_
        exact Keeps.refl _ _
      · assumption
    clear_value v6
    have hv7 : Keeps 45161119750 (s) v7 := by
      unfold v7
      refine Keeps.foldl ?_ ?_
      · intro t36 x37
        refine Keeps.after (State.setCam_keeps _ _ _) rfl ?_
        exact Keeps.refl _ _
      · assumption
    clear_value v7
    have hv10 : Keeps 45161119750 (s) v10 := by
      unfold v10
      refine Keeps.foldl ?_ ?_
      · intro t42 x43
        refine Keeps.after (State.updNet_keeps _ _ _) rfl ?_
        exact Keeps.refl _ _
      · assumption
    clear_value v10
    refine Keeps.trans (t := v10) ?_ (fun p hp => by cases p <;> first | rfl | exact absurd hp (by decide) | exact fun h => h | exact Nat.le_refl _)
    assumption

theorem takeBlock_keeps (xfer) (h) (code) (args) (s) : Keeps 128 s (takeBlock xfer h code args s) := by
  unfold takeBlock
  extract_lets v2 v3
  clear_value v2
  refine Keeps.ite ?_ ?_
  · refine Keeps.after (addMember_keeps _ _ _ _) rfl ?_
    exact Keeps.refl _ _
  · refine Keeps.host_ (u := s) ?_ rfl
    exact Keeps.refl _ _

theorem takeSegment_keeps (peer) (xfer) (ofs) (total) (len) (done) (s) : Keeps 45295337606 s (takeSegment peer xfer ofs total len done s) := by
  unfold takeSegment
  extract_lets v2 v3 v4 v5 v6
  clear_value v2 v3 v4
  have hv6 : Keeps 45295337606 (s) v6 := by
    unfold v6
    refine Keeps.after (ackBulk_keeps _ _ _ _) rfl ?_
    refine Keeps.fab_ (u := s) ?_ rfl
    exact Keeps.refl _ _
  clear_value v6
  refine Keeps.ite ?_ ?_
  · assumption
  · split
    · rename_i z13
      assumption
    · rename_i z15 z16
      refine Keeps.after (takePair_keeps _ _ _) rfl ?_
      assumption
    · rename_i z19 z20 z21 z22
      refine Keeps.ite ?_ ?_
      · refine Keeps.after (takeBlock_keeps _ _ _ _ _) rfl ?_
        assumption
      · assumption

theorem resendBulk_keeps (peer) (xfer) (s) : Keeps 142606336 s (resendBulk peer xfer s) := by
  unfold resendBulk
  split
  · rename_i z2 z3
    exact Keeps.refl _ _
  · rename_i z5 z6 z7
    extract_lets v9 v10 v11 v12
    have hv12 : Keeps 142606336 (s) v12 := by
      unfold v12
      refine Keeps.fab_ (u := s) ?_ rfl
      exact Keeps.refl _ _
    clear_value v12
    refine Keeps.ite ?_ ?_
    · assumption
    · refine Keeps.after (sendJoin_keeps _ _ _ _ _ _ _) rfl ?_
      assumption

theorem sendJ4_keeps (uid) (node) (result) (s) : Keeps 134217728 s (sendJ4 uid node result s) := by
  unfold sendJ4
  refine Keeps.after (sendJoin_keeps _ _ _ _ _ _ _) rfl ?_
  exact Keeps.refl _ _

theorem sendJ2_keeps (x) (s) : Keeps 402653184 s (sendJ2 x s).2 := by
  unfold sendJ2
  split
  rename_i z2 z3 z4 z5
  extract_lets v7
  clear_value v7
  refine Keeps.mk2 ?_
  refine Keeps.after (sendJoin_keeps _ _ _ _ _ _ _) rfl ?_
  refine Keeps.snd_eq z5 ?_
  refine Keeps.after (nonce_keeps _) rfl ?_
  exact Keeps.refl _ _

theorem serveNext_keeps (x0) (x1) : Keeps 411041792 x1 (serveNext x0 x1) := by
  induction x0 generalizing x1
  · unfold serveNext
    exact Keeps.refl _ _
  · rename_i z2 z3
    unfold serveNext
    split
    · rename_i z5 z6
      exact Keeps.refl _ _
    · rename_i z8 z9 z10 z11
      refine Keeps.ite ?_ ?_
      · exact Keeps.refl _ _
      · split
        · rename_i z15 z16 z17 z18
          extract_lets v20 v21 v22
          have hv20 : Keeps 411041792 (x1) v20.2 := by
            unfold v20
            refine Keeps.after (sendJ2_keeps _ _) rfl ?_
            exact Keeps.refl _ _
          clear_value v20
          have hv21 : Keeps 411041792 (x1) v21 := by
            unfold v21
            assumption
          clear_value v21
          refine Keeps.fab_ (u := v21) ?_ rfl
          assumption
        · rename_i z28 z29 z30
          refine Keeps.trans ?_ (z3 _)
          refine Keeps.after (sendJ4_keeps _ _ _ _) rfl ?_
          refine Keeps.fab_ (u := x1) ?_ rfl
          exact Keeps.refl _ _

theorem endServe_keeps (s) : Keeps 411041792 s (endServe s) := by
  unfold endServe
  refine Keeps.after (serveNext_keeps _ _) rfl ?_
  refine Keeps.fab_ (u := s) ?_ rfl
  exact Keeps.refl _ _

theorem takeJ1_keeps (uid) (req) (strap) (kept) (rings) (far) (nj) (s) : Keeps 411041792 s (takeJ1 uid req strap kept rings far nj s) := by
  unfold takeJ1
  extract_lets v2 v3 v4 v5
  clear_value v2 v3 v4
  refine Keeps.ite ?_ ?_
  · exact Keeps.refl _ _
  · refine Keeps.ite ?_ ?_
    · refine Keeps.after (sendJ4_keeps _ _ _ _) rfl ?_
      exact Keeps.refl _ _
    · refine Keeps.ite ?_ ?_
      · refine Keeps.after (sendJ4_keeps _ _ _ _) rfl ?_
        exact Keeps.refl _ _
      · refine Keeps.ite ?_ ?_
        · exact Keeps.refl _ _
        · refine Keeps.after (serveNext_keeps _ _) rfl ?_
          refine Keeps.fab_ (u := s) ?_ rfl
          exact Keeps.refl _ _

theorem takeJ3_keeps (uid) (mac) (s) : Keeps 411041792 s (takeJ3 uid mac s) := by
  unfold takeJ3
  split
  · rename_i z2 z3
    exact Keeps.refl _ _
  · rename_i z5 z6 z7 z8
    refine Keeps.ite ?_ ?_
    · exact Keeps.refl _ _
    · refine Keeps.ite ?_ ?_
      · refine Keeps.after (endServe_keeps _) rfl ?_
        refine Keeps.after (sendJ4_keeps _ _ _ _) rfl ?_
        refine Keeps.fab_ (u := s) ?_ rfl
        exact Keeps.refl _ _
      · extract_lets v17 v18
        have hv17 : Keeps 411041792 (s) v17 := by
          unfold v17
          refine Keeps.after (sendJ4_keeps _ _ _ _) rfl ?_
          exact Keeps.refl _ _
        clear_value v17
        have hv18 : Keeps 411041792 (s) v18 := by
          unfold v18
          refine Keeps.ite ?_ ?_
          · refine Keeps.after (State.changeAll_keeps _ _ _) rfl ?_
            assumption
          · assumption
        clear_value v18
        refine Keeps.after (endServe_keeps _) rfl ?_
        refine Keeps.after (startBulk_keeps _ _ _ _) rfl ?_
        assumption

theorem State.endJoin_keeps (s) (r) : Keeps 128 s (State.endJoin s r) := by
  unfold State.endJoin
  refine Keeps.after (State.completeCmd_keeps _ _ _ _) rfl ?_
  exact Keeps.refl _ _

theorem failJoin_keeps (d) (s) : Keeps 8388738 s (failJoin d s) := by
  unfold failJoin
  extract_lets v2 v3 v4
  have hv4 : Keeps 8388738 (s) v4 := by
    unfold v4
    refine Keeps.trans (t := s) ?_ (fun p hp => by cases p <;> first | rfl | exact absurd hp (by decide) | exact fun h => h | exact Nat.le_refl _)
    exact Keeps.refl _ _
  clear_value v4
  refine Keeps.after (State.endJoin_keeps _ _) rfl ?_
  assumption

theorem joinRefused_keeps (s) : Keeps 8388738 s (joinRefused s) := by
  unfold joinRefused
  extract_lets v2 v3
  clear_value v2
  refine Keeps.ite ?_ ?_
  · refine Keeps.after (failJoin_keeps _ _) rfl ?_
    exact Keeps.refl _ _
  · refine Keeps.fab_ (u := s) ?_ rfl
    exact Keeps.refl _ _

theorem takeJ2_keeps (uid) (node) (nm) (mac) (epoch) (s) : Keeps 142606466 s (takeJ2 uid node nm mac epoch s) := by
  unfold takeJ2
  extract_lets v2 v3 v4
  clear_value v2
  have hv4 : Keeps 142606466 (s) v4 := by
    unfold v4
    refine Keeps.fab_ (u := s) ?_ rfl
    exact Keeps.refl _ _
  clear_value v4
  refine Keeps.ite ?_ ?_
  · exact Keeps.refl _ _
  · refine Keeps.ite ?_ ?_
    · refine Keeps.after (joinRefused_keeps _) rfl ?_
      refine Keeps.fab_ (u := s) ?_ rfl
      exact Keeps.refl _ _
    · refine Keeps.after (sendJoin_keeps _ _ _ _ _ _ _) rfl ?_
      assumption

theorem takeJ4_keeps (uid) (node) (result) (s) : Keeps 8388738 s (takeJ4 uid node result s) := by
  unfold takeJ4
  extract_lets v2 v3
  clear_value v2
  refine Keeps.ite ?_ ?_
  · exact Keeps.refl _ _
  · refine Keeps.ite ?_ ?_
    · refine Keeps.ite ?_ ?_
      · refine Keeps.fab_ (u := s) ?_ rfl
        exact Keeps.refl _ _
      · exact Keeps.refl _ _
    · refine Keeps.ite ?_ ?_
      · refine Keeps.after (joinRefused_keeps _) rfl ?_
        exact Keeps.refl _ _
      · refine Keeps.after (failJoin_keeps _ _) rfl ?_
        exact Keeps.refl _ _

theorem knownMember_keeps (m) (s) : Keeps 8388608 s (knownMember m s) := by
  unfold knownMember
  refine Keeps.after (State.updFabNode_keeps _ _ _) rfl ?_
  exact Keeps.refl _ _

theorem enrolSelf_keeps (node) (role) (s) : Keeps 549781504066 s (enrolSelf node role s) := by
  unfold enrolSelf
  extract_lets v2 v3 v4 v5 v6 v7
  have hv3 : Keeps 549781504066 (s) v3 := by
    unfold v3
    refine Keeps.cell_ (u := s) ?_ rfl (.inl rfl) (.inl rfl) (.inl rfl) (.inl rfl)
    exact Keeps.refl _ _
  clear_value v3
  have hv4 : Keeps 549781504066 (s) v4 := by
    unfold v4
    refine Keeps.after (State.updFabNode_keeps _ _ _) rfl ?_
    assumption
  clear_value v4
  have hv5 : Keeps 549781504066 (s) v5 := by
    unfold v5
    refine Keeps.after (takeRole_keeps _ _) rfl ?_
    assumption
  clear_value v5
  have hv7 : Keeps 549781504066 (s) v7 := by
    unfold v7
    refine Keeps.fab_ (u := v5) ?_ rfl
    assumption
  clear_value v7
  refine Keeps.after (keepFabric_keeps _) rfl ?_
  refine Keeps.after (keepMap_keeps _) rfl ?_
  assumption

theorem takeJoin_keeps (x) (s) : Keeps 560526262722 s (takeJoin x s) := by
  unfold takeJoin
  extract_lets v2 v3 v4 v5 v6 v7 v8 v9 v10 v11 v12
  clear_value v2 v3 v4
  have hv5 : Keeps 560526262722 (s) v5 := by
    unfold v5
    refine Keeps.foldl ?_ ?_
    · intro t14 x15
      refine Keeps.after (removeMember_keeps _ _) rfl ?_
      exact Keeps.refl _ _
    · exact Keeps.refl _ _
  clear_value v5
  have hv6 : Keeps 560526262722 (s) v6 := by
    unfold v6
    refine Keeps.foldl ?_ ?_
    · intro t20 x21
      refine Keeps.after (knownMember_keeps _ _) rfl ?_
      exact Keeps.refl _ _
    · assumption
  clear_value v6
  have hv7 : Keeps 560526262722 (s) v7 := by
    unfold v7
    refine Keeps.foldl ?_ ?_
    · intro t26 x27
      refine Keeps.after (State.setZone_keeps _ _ _) rfl ?_
      exact Keeps.refl _ _
    · assumption
  clear_value v7
  have hv11 : Keeps 560526262722 (s) v11 := by
    unfold v11
    refine Keeps.trans (t := v7) ?_ (fun p hp => by cases p <;> first | rfl | exact absurd hp (by decide) | exact fun h => h | exact Nat.le_refl _)
    assumption
  clear_value v11
  have hv12 : Keeps 560526262722 (s) v12 := by
    unfold v12
    refine Keeps.after (standDown_keeps _) rfl ?_
    refine Keeps.after (enrolSelf_keeps _ _ _) rfl ?_
    assumption
  clear_value v12
  refine Keeps.ite ?_ ?_
  · exact Keeps.refl _ _
  · refine Keeps.after (State.endJoin_keeps _ _) rfl ?_
    refine Keeps.after (announce_keeps _) rfl ?_
    assumption

theorem sendColdStart_keeps (s) : Keeps 142606336 s (sendColdStart s) := by
  unfold sendColdStart
  extract_lets v2
  clear_value v2
  split
  rename_i z4 z5 z6 z7
  refine Keeps.foldl ?_ ?_
  · intro t9 x10
    refine Keeps.after (insertOn_keeps _ _ _) rfl ?_
    exact Keeps.refl _ _
  · refine Keeps.fab_ (u := z6) ?_ rfl
    refine Keeps.snd_eq z7 ?_
    refine Keeps.after (newFrame_keeps _ _ _) rfl ?_
    exact Keeps.refl _ _

theorem startFabric_keeps (s) : Keeps 551934230978 s (startFabric s) := by
  unfold startFabric
  extract_lets v2 v3 v4 v5 v6 v7
  clear_value v2 v3 v4
  have hv6 : Keeps 551934230978 (s) v6 := by
    unfold v6
    refine Keeps.fab_ (u := s) ?_ rfl
    exact Keeps.refl _ _
  clear_value v6
  have hv7 : Keeps 551934230978 (s) v7 := by
    unfold v7
    refine Keeps.after (enrolSelf_keeps _ _ _) rfl ?_
    assumption
  clear_value v7
  refine Keeps.after (State.endJoin_keeps _ _) rfl ?_
  refine Keeps.ite ?_ ?_
  · refine Keeps.after (standDown_keeps _) rfl ?_
    assumption
  · assumption

theorem sendCycle_keeps (r) (s) : Keeps 142606336 s (sendCycle r s) := by
  unfold sendCycle
  extract_lets v2 v3 v4 v5 v6
  clear_value v2 v3 v4 v5
  split
  rename_i z8 z9 z10 z11
  refine Keeps.after (insertOn_keeps _ _ _) rfl ?_
  refine Keeps.snd_eq z11 ?_
  refine Keeps.after (newFrame_keeps _ _ _) rfl ?_
  refine Keeps.fab_ (u := s) ?_ rfl
  exact Keeps.refl _ _

theorem sendCycles_keeps (s) : Keeps 142606336 s (sendCycles s) := by
  unfold sendCycles
  refine Keeps.foldl ?_ ?_
  · intro t2 x3
    refine Keeps.after (sendCycle_keeps _ _) rfl ?_
    exact Keeps.refl _ _
  · exact Keeps.refl _ _

theorem wakeUp_keeps (src) (s) : Keeps 2290614722 s (wakeUp src s) := by
  unfold wakeUp
  extract_lets v2 v3 v4 v5 v6 v7 v8 v9 v10 v11
  clear_value v5 v6 v7 v9
  have hv2 : Keeps 2290614722 (s) v2 := by
    unfold v2
    refine Keeps.after (State.enterCell_keeps _ _) rfl ?_
    exact Keeps.refl _ _
  clear_value v2
  have hv4 : Keeps 2290614722 (s) v4 := by
    unfold v4
    refine Keeps.mbx_ (u := v2) ?_ rfl (.inl rfl)
    assumption
  clear_value v4
  have hv10 : Keeps 2290614722 (s) v10 := by
    unfold v10
    refine Keeps.fab_ (u := v4) ?_ rfl
    assumption
  clear_value v10
  have hv11 : Keeps 2290614722 (s) v11 := by
    unfold v11
    refine Keeps.after (State.updFabNode_keeps _ _ _) rfl ?_
    assumption
  clear_value v11
  refine Keeps.ite ?_ ?_
  · assumption
  · refine Keeps.ite ?_ ?_
    · refine Keeps.after (wakeAt_keeps _ _ _) rfl ?_
      assumption
    · split
      rename_i z26 z27 z28 z29
      refine Keeps.foldl ?_ ?_
      · intro t31 x32
        refine Keeps.after (insertOn_keeps _ _ _) rfl ?_
        exact Keeps.refl _ _
      · refine Keeps.snd_eq z29 ?_
        refine Keeps.after (newFrame_keeps _ _ _) rfl ?_
        assumption

end Sys2Proof.Machine
end

