-- ==== Sys2Proof/Laws/FramesHost.lean ====
section
/-! SUPPORT. Frames, one lemma per function: the host ports, the switch, the networks and the catalogue of host commands. The mask names the parts a function may change
(`Part.bit`); every other part is as before. -/

namespace Sys2Proof.Machine

theorem postCredits_keeps (p) (s) : Keeps 134218624 s (postCredits p s) := by
  unfold postCredits
  extract_lets v2
  have hv2 : ∀ a3 a4, Keeps 134218624 a3 (v2 a3 a4) := by
    intro a3 a4
    unfold v2
    split
    · rename_i z6 z7
      exact Keeps.refl _ _
    · rename_i z9 z10 z11
      extract_lets v13 v14
      clear_value v13
      have hv14 : Keeps 134218624 (a3) v14 := by
        unfold v14
        refine Keeps.after (State.setPort_keeps _ _ _) rfl ?_
        exact Keeps.refl _ _
      clear_value v14
      refine Keeps.after (mbxWrite_keeps _ _ _ _) rfl ?_
      assumption
  clear_value v2
  refine Keeps.ite ?_ ?_
  · exact Keeps.refl _ _
  · refine Keeps.foldl ?_ ?_
    · intro t22 x23
      refine Keeps.trans ?_ (hv2 _ _)
      exact Keeps.refl _ _
    · exact Keeps.refl _ _

theorem ackResponse_keeps (p) (ch) (s) : Keeps 128 s (ackResponse p ch s) := by
  unfold ackResponse
  refine Keeps.host_ (u := s) ?_ rfl
  exact Keeps.refl _ _

theorem commandWord_keeps (p) (ch) (w) (s) : Keeps 524480 s (commandWord p ch w s) := by
  unfold commandWord
  extract_lets v2 v3 v4 v5 v6
  clear_value v2 v3 v4 v5
  refine Keeps.ite ?_ ?_
  · refine Keeps.after (State.protocolError_keeps _ _ _ _) rfl ?_
    exact Keeps.refl _ _
  · refine Keeps.host_ (u := s) ?_ rfl
    exact Keeps.refl _ _

theorem creditWord_keeps (p) (ch) (w) (handed) (s) : Keeps 524480 s (creditWord p ch w handed s) := by
  unfold creditWord
  extract_lets v2 v3 v4
  clear_value v2 v3 v4
  refine Keeps.ite ?_ ?_
  · refine Keeps.after (State.setPort_keeps _ _ _) rfl ?_
    exact Keeps.refl _ _
  · refine Keeps.after (State.protocolError_keeps _ _ _ _) rfl ?_
    exact Keeps.refl _ _

theorem sheafWord_keeps (p) (ch) (w) (handed) (s) : Keeps 524480 s (sheafWord p ch w handed s) := by
  unfold sheafWord
  split
  · rename_i z2 z3
    refine Keeps.after (commandWord_keeps _ _ _ _) rfl ?_
    exact Keeps.refl _ _
  · rename_i z6 z7
    refine Keeps.after (creditWord_keeps _ _ _ _ _) rfl ?_
    exact Keeps.refl _ _
  · rename_i z10 z11 z12
    refine Keeps.after (State.protocolError_keeps _ _ _ _) rfl ?_
    exact Keeps.refl _ _

theorem dataRead_keeps (m) (ch) (s) : Keeps 201851840 s (dataRead m ch s) := by
  unfold dataRead
  extract_lets v2 v3
  clear_value v2
  have hv3 : Keeps 201851840 (s) v3 := by
    unfold v3
    refine Keeps.after (mbxRead_keeps _ _ _) rfl ?_
    exact Keeps.refl _ _
  clear_value v3
  refine Keeps.ite ?_ ?_
  · assumption
  · refine Keeps.ite ?_ ?_
    · refine Keeps.after (postCredits_keeps _ _) rfl ?_
      refine Keeps.after (ackResponse_keeps _ _ _) rfl ?_
      assumption
    · refine Keeps.ite ?_ ?_
      · refine Keeps.after (sheafWord_keeps _ _ _ _ _) rfl ?_
        assumption
      · assumption

theorem grantCredit_keeps (p) (s) : Keeps 128 s (grantCredit p s) := by
  unfold grantCredit
  split
  · rename_i z2 z3 z4 z5
    refine Keeps.after (State.setPort_keeps _ _ _) rfl ?_
    exact Keeps.refl _ _
  · rename_i z8 z9
    exact Keeps.refl _ _

theorem handBank_keeps (p) (s) : Keeps 640 s (handBank p s) := by
  unfold handBank
  split
  · rename_i z2 z3 z4 z5
    extract_lets v7 v8
    clear_value v7
    have hv8 : Keeps 640 (s) v8 := by
      unfold v8
      refine Keeps.ite ?_ ?_
      · refine Keeps.after (handoverDone_keeps _ _) rfl ?_
        exact Keeps.refl _ _
      · exact Keeps.refl _ _
    clear_value v8
    refine Keeps.after (State.setPort_keeps _ _ _) rfl ?_
    assumption
  · rename_i z15 z16
    exact Keeps.refl _ _

theorem returnBank_keeps (b) (s) : Keeps 134218624 s (returnBank b s) := by
  unfold returnBank
  extract_lets v2
  have hv2 : ∀ a3 a4, Keeps 134218624 a3 (v2 a3 a4) := by
    intro a3 a4
    unfold v2
    extract_lets v6
    clear_value v6
    refine Keeps.ite ?_ ?_
    · refine Keeps.after (postCredits_keeps _ _) rfl ?_
      refine Keeps.after (giveBank_keeps _ _ _) rfl ?_
      exact Keeps.refl _ _
    · exact Keeps.refl _ _
  clear_value v2
  refine Keeps.ite ?_ ?_
  · exact Keeps.refl _ _
  · refine Keeps.trans ?_ (hv2 _ _)
    refine Keeps.trans ?_ (hv2 _ _)
    exact Keeps.refl _ _

theorem startEvent_keeps (p) (s) : Keeps 128 s (startEvent p s) := by
  unfold startEvent
  refine Keeps.ite ?_ ?_
  · exact Keeps.refl _ _
  · split
    · rename_i z4 z5 z6 z7
      refine Keeps.ite ?_ ?_
      · refine Keeps.after (State.setPort_keeps _ _ _) rfl ?_
        exact Keeps.refl _ _
      · exact Keeps.refl _ _
    · rename_i z12 z13
      exact Keeps.refl _ _

theorem postEvent_keeps (p) (s) : Keeps 134218624 s (postEvent p s) := by
  unfold postEvent
  refine Keeps.ite ?_ ?_
  · exact Keeps.refl _ _
  · extract_lets v4 v5
    clear_value v5
    have hv4 : Keeps 134218624 (s) v4 := by
      unfold v4
      refine Keeps.after (startEvent_keeps _ _) rfl ?_
      exact Keeps.refl _ _
    clear_value v4
    split
    · rename_i z9 z10
      assumption
    · rename_i z12 z13 z14 z15
      refine Keeps.ite ?_ ?_
      · assumption
      · refine Keeps.after (mbxWrite_keeps _ _ _ _) rfl ?_
        refine Keeps.after (State.setPort_keeps _ _ _) rfl ?_
        assumption

theorem resetPort_keeps (p) (s) : Keeps 525248 s (resetPort p s) := by
  unfold resetPort
  extract_lets v2 v3 v4 v5 v6 v7 v8 v9 v10
  clear_value v5 v8 v10
  have hv2 : Keeps 525248 (s) v2 := by
    unfold v2
    refine Keeps.after (State.breakLocksOf_keeps _ _) rfl ?_
    exact Keeps.refl _ _
  clear_value v2
  have hv3 : Keeps 525248 (s) v3 := by
    unfold v3
    refine Keeps.foldl ?_ ?_
    · intro t14 x15
      refine Keeps.ite ?_ ?_
      · refine Keeps.after (State.updChan_keeps _ _ _) rfl ?_
        exact Keeps.refl _ _
      · exact Keeps.refl _ _
    · assumption
  clear_value v3
  have hv4 : Keeps 525248 (s) v4 := by
    unfold v4
    refine Keeps.after (State.updBells_keeps _ _ _) rfl ?_
    assumption
  clear_value v4
  have hv7 : Keeps 525248 (s) v7 := by
    unfold v7
    refine Keeps.host_ (u := v4) ?_ rfl
    assumption
  clear_value v7
  have hv9 : Keeps 525248 (s) v9 := by
    unfold v9
    refine Keeps.foldl ?_ ?_
    · intro t26 x27
      refine Keeps.after (giveBank_keeps _ _ _) rfl ?_
      exact Keeps.refl _ _
    · assumption
  clear_value v9
  refine Keeps.after (State.setPort_keeps _ _ _) rfl ?_
  assumption

theorem endPortReset_keeps (p) (s) : Keeps 134218624 s (endPortReset p s) := by
  unfold endPortReset
  refine Keeps.after (postCredits_keeps _ _) rfl ?_
  refine Keeps.after (State.setPort_keeps _ _ _) rfl ?_
  exact Keeps.refl _ _

theorem runJrnlRead_keeps (x0) (a) (s) : Keeps 268435456 s (runJrnlRead x0 a s).1 := by
  unfold runJrnlRead
  extract_lets v2 v3 v4
  clear_value v2 v3 v4
  split
  rename_i z6 z7 z8 z9
  extract_lets v11
  clear_value v11
  refine tested_keeps ?_ ?_
  · exact Keeps.refl _ _
  · refine Keeps.mk1 ?_
    refine Keeps.ite ?_ ?_
    · refine Keeps.snd_eq z9 ?_
      refine Keeps.after (State.freeBelow_keeps _ _) rfl ?_
      exact Keeps.refl _ _
    · exact Keeps.refl _ _

theorem runJrnlMark_keeps (h) (a) (s) : Keeps 524352 s (runJrnlMark h a s).1 := by
  unfold runJrnlMark
  refine tested_keeps ?_ ?_
  · exact Keeps.refl _ _
  · refine Keeps.after (okReply_keeps _) rfl ?_
    refine Keeps.after (State.record_keeps _ _ _ _) rfl ?_
    exact Keeps.refl _ _

theorem runJrnlCommit_keeps (h) (a) (s) : Keeps 524352 s (runJrnlCommit h a s).1 := by
  unfold runJrnlCommit
  refine tested_keeps ?_ ?_
  · exact Keeps.refl _ _
  · refine Keeps.after (okReply_keeps _) rfl ?_
    refine Keeps.after (State.commitJournal_keeps _) rfl ?_
    exact Keeps.refl _ _

theorem runJrnlStatus_keeps (x0) (a) (s) : Keeps 268435456 s (runJrnlStatus x0 a s).1 := by
  unfold runJrnlStatus
  extract_lets v2 v3
  clear_value v3
  split
  rename_i z5 z6 z7 z8
  extract_lets v10 v11
  clear_value v10 v11
  refine tested_keeps ?_ ?_
  · exact Keeps.refl _ _
  · refine Keeps.after (dataReply_keeps _ _) rfl ?_
    refine Keeps.ite ?_ ?_
    · refine Keeps.snd_eq z8 ?_
      refine Keeps.after (State.freeBelow_keeps _ _) rfl ?_
      exact Keeps.refl _ _
    · exact Keeps.refl _ _

theorem runDiagTickLoad_keeps (x0) (a) (s) : Keeps 2 s (runDiagTickLoad x0 a s).1 := by
  unfold runDiagTickLoad
  extract_lets v2 v3
  clear_value v2
  refine tested_keeps ?_ ?_
  · exact Keeps.refl _ _
  · refine Keeps.after (dataReply_keeps _ _) rfl ?_
    refine Keeps.cell_ (u := s) ?_ rfl (.inl rfl) (.inl rfl) (.inl rfl) (.inl rfl)
    exact Keeps.refl _ _

theorem runDiagBlocks_keeps (x0) (a) (s) : Keeps 0 s (runDiagBlocks x0 a s).1 := by
  unfold runDiagBlocks
  extract_lets v2 v3
  clear_value v3
  refine tested_keeps ?_ ?_
  · exact Keeps.refl _ _
  · refine Keeps.after (dataReply_keeps _ _) rfl ?_
    exact Keeps.refl _ _

theorem runDiagTelemetry_keeps (x0) (a) (s) : Keeps 524288 s (runDiagTelemetry x0 a s).1 := by
  unfold runDiagTelemetry
  extract_lets v2 v3 v4 v5 v6 v7
  clear_value v2 v3 v4 v5 v6
  refine tested_keeps ?_ ?_
  · exact Keeps.refl _ _
  · refine Keeps.after (okReply_keeps _) rfl ?_
    refine Keeps.wnw_ (u := s) ?_ rfl
    exact Keeps.refl _ _

theorem latheFault_keeps (e) (cause) (addr) (s) : Keeps 1074375168 s (latheFault e cause addr s) := by
  unfold latheFault
  extract_lets v2
  clear_value v2
  split
  · rename_i z4 z5
    exact Keeps.refl _ _
  · rename_i z7 z8 z9
    extract_lets v11
    clear_value v11
    refine Keeps.after (State.exception_keeps _ _ _ _ _ _ _ _ _) rfl ?_
    exact Keeps.refl _ _

theorem refusedAt_keeps (port) (act) (ofs) (s) : Keeps 1141746368 s (refusedAt port act ofs s) := by
  unfold refusedAt
  extract_lets v2
  clear_value v2
  refine Keeps.ite ?_ ?_
  · refine Keeps.after (latheFault_keeps _ _ _ _) rfl ?_
    refine Keeps.after (State.returns_keeps _ _) rfl ?_
    refine Keeps.after (State.accessFault_keeps _ _) rfl ?_
    exact Keeps.refl _ _
  · refine Keeps.ite ?_ ?_
    · refine Keeps.after (State.updSwRing_keeps _ _ _) rfl ?_
      exact Keeps.refl _ _
    · refine Keeps.ite ?_ ?_
      · refine Keeps.after (State.returns_keeps _ _) rfl ?_
        refine Keeps.after (State.accessErr_keeps _ _) rfl ?_
        exact Keeps.refl _ _
      · refine Keeps.after (State.returns_keeps _ _) rfl ?_
        refine Keeps.after (State.memoryRecord_keeps _ _ _ _ _ _) rfl ?_
        exact Keeps.refl _ _

theorem badWordAt_keeps (port) (act) (ofs) (s) : Keeps 1275964032 s (badWordAt port act ofs s) := by
  unfold badWordAt
  refine Keeps.ite ?_ ?_
  · extract_lets v3
    clear_value v3
    refine Keeps.ite ?_ ?_
    · refine Keeps.after (restartLathe_keeps _ _) rfl ?_
      exact Keeps.refl _ _
    · refine Keeps.after (latheFault_keeps _ _ _ _) rfl ?_
      exact Keeps.refl _ _
  · refine Keeps.ite ?_ ?_
    · refine Keeps.after (State.updSwRing_keeps _ _ _) rfl ?_
      exact Keeps.refl _ _
    · refine Keeps.ite ?_ ?_
      · refine Keeps.after (State.send_keeps _ _) rfl ?_
        exact Keeps.refl _ _
      · refine Keeps.ite ?_ ?_
        · refine Keeps.after (State.returns_keeps _ _) rfl ?_
          refine Keeps.after (State.accessErr_keeps _ _) rfl ?_
          exact Keeps.refl _ _
        · exact Keeps.refl _ _

theorem upsetAt_keeps (ofs) (u) (s) : Keeps 512 s (upsetAt ofs u s) := by
  unfold upsetAt
  refine Keeps.ite ?_ ?_
  · refine Keeps.after (State.spoil_keeps _ _) rfl ?_
    exact Keeps.refl _ _
  · exact Keeps.refl _ _

theorem endAccess_keeps (port) (act) (ofs) (x) : Keeps 1275964096 x.1 (endAccess port act ofs x) := by
  unfold endAccess
  split
  · rename_i z2 z3 z4
    refine Keeps.ite ?_ ?_
    · exact Keeps.refl _ _
    · refine Keeps.after (State.returns_keeps _ _) rfl ?_
      exact Keeps.refl _ _
  · rename_i z9 z10
    refine Keeps.after (refusedAt_keeps _ _ _ _) rfl ?_
    exact Keeps.refl _ _
  · rename_i z13 z14
    refine Keeps.after (badWordAt_keeps _ _ _ _) rfl ?_
    exact Keeps.refl _ _

theorem poolExchange_keeps (port) (act) (ofs) (n) (f) (s) : Keeps 1275965120 s (poolExchange port act ofs n f s) := by
  unfold poolExchange
  extract_lets v2 v3
  clear_value v2
  have hv3 : Keeps 1275965120 (s) v3.1 := by
    unfold v3
    refine Keeps.after (State.poolRead_keeps _ _ _ _) rfl ?_
    exact Keeps.refl _ _
  clear_value v3
  refine Keeps.ite ?_ ?_
  · refine Keeps.after (refusedAt_keeps _ _ _ _) rfl ?_
    refine Keeps.after (State.poolRefuse_keeps _ _ _ _) rfl ?_
    exact Keeps.refl _ _
  · refine Keeps.ite ?_ ?_
    · refine Keeps.after (latheFault_keeps _ _ _ _) rfl ?_
      exact Keeps.refl _ _
    · split
      · rename_i z14 z15 z16
        split
        · rename_i z18 z19 z20
          refine Keeps.after (State.returns_keeps _ _) rfl ?_
          refine Keeps.after (State.poolWrite_keeps _ _ _ _ _) rfl ?_
          assumption
        · rename_i z24 z25
          refine Keeps.after (State.returns_keeps _ _) rfl ?_
          assumption
      · rename_i z28 z29
        refine Keeps.after (endAccess_keeps _ _ _ _) rfl ?_
        assumption

theorem poolAccess_keeps (port) (act) (op) (ofs) (s) : Keeps 1275965120 s (poolAccess port act op ofs s) := by
  unfold poolAccess
  extract_lets v2
  clear_value v2
  split
  · rename_i z4 z5 z6
    extract_lets v8 v9
    have hv8 : Keeps 1275965120 (s) v8.1 := by
      unfold v8
      refine Keeps.after (State.poolRead_keeps _ _ _ _) rfl ?_
      refine Keeps.after (upsetAt_keeps _ _ _) rfl ?_
      exact Keeps.refl _ _
    clear_value v8
    have hv9 : Keeps 1275965120 (s) v9 := by
      unfold v9
      refine Keeps.after (endAccess_keeps _ _ _ _) rfl ?_
      assumption
    clear_value v9
    split
    · rename_i z16 z17 z18 z19
      refine Keeps.after (State.corrected_keeps _ _) rfl ?_
      assumption
    · rename_i z22 z23 z24 z25
      assumption
  · rename_i z27 z28 z29
    refine Keeps.ite ?_ ?_
    · refine Keeps.after (refusedAt_keeps _ _ _ _) rfl ?_
      refine Keeps.after (State.poolRefuse_keeps _ _ _ _) rfl ?_
      exact Keeps.refl _ _
    · refine Keeps.ite ?_ ?_
      · refine Keeps.after (State.writeLost_keeps _ _) rfl ?_
        exact Keeps.refl _ _
      · refine Keeps.after (endAccess_keeps _ _ _ _) rfl ?_
        refine Keeps.after (State.poolWrite_keeps _ _ _ _ _) rfl ?_
        exact Keeps.refl _ _
  · rename_i z40 z41
    refine Keeps.after (poolExchange_keeps _ _ _ _ _ _) rfl ?_
    exact Keeps.refl _ _
  · rename_i z44 z45 z46
    refine Keeps.after (poolExchange_keeps _ _ _ _ _ _) rfl ?_
    exact Keeps.refl _ _

theorem State.macCount_keeps (s) (p) (i) : Keeps 131072 s (State.macCount s p i) := by
  unfold State.macCount
  refine Keeps.ite ?_ ?_
  · refine Keeps.after (State.updMac_keeps _ _ _) rfl ?_
    exact Keeps.refl _ _
  · exact Keeps.refl _ _

theorem State.setResv_keeps (s) (c) (n) : Keeps 262144 s (State.setResv s c n) := by
  unfold State.setResv
  extract_lets v2 v3
  clear_value v3
  refine Keeps.switch_ (u := s) ?_ rfl
  exact Keeps.refl _ _

theorem updatePauses_keeps (s) : Keeps 134348800 s (updatePauses s) := by
  unfold updatePauses
  refine Keeps.foldl ?_ ?_
  · intro t2 x3
    extract_lets v5 v6 v7 v8 v9 v10
    clear_value v5 v6 v7 v8
    have hv9 : Keeps 134348800 (t2) v9 := by
      unfold v9
      refine Keeps.after (State.setMac_keeps _ _ _) rfl ?_
      exact Keeps.refl _ _
    clear_value v9
    have hv10 : Keeps 134348800 (t2) v10 := by
      unfold v10
      refine Keeps.ite ?_ ?_
      · assumption
      · refine Keeps.after (State.send_keeps _ _) rfl ?_
        refine Keeps.after (State.updMac_keeps _ _ _) rfl ?_
        assumption
    clear_value v10
    refine Keeps.ite ?_ ?_
    · assumption
    · refine Keeps.after (State.send_keeps _ _) rfl ?_
      refine Keeps.after (State.updMac_keeps _ _ _) rfl ?_
      assumption
  · exact Keeps.refl _ _

theorem freeFrame_keeps (f) (s) : Keeps 134610944 s (freeFrame f s) := by
  unfold freeFrame
  extract_lets v2 v3 v4 v5 v6 v7
  have hv5 : Keeps 134610944 (s) v5 := by
    unfold v5
    refine Keeps.switch_ (u := s) ?_ rfl
    exact Keeps.refl _ _
  clear_value v5
  have hv6 : Keeps 134610944 (s) v6 := by
    unfold v6
    refine Keeps.ite ?_ ?_
    · refine Keeps.after (State.updSwRing_keeps _ _ _) rfl ?_
      assumption
    · assumption
  clear_value v6
  have hv7 : Keeps 134610944 (s) v7 := by
    unfold v7
    refine Keeps.ite ?_ ?_
    · refine Keeps.after (State.updMac_keeps _ _ _) rfl ?_
      assumption
    · assumption
  clear_value v7
  refine Keeps.after (updatePauses_keeps _) rfl ?_
  assumption

theorem portDone_keeps (no) (p) (s) : Keeps 134610944 s (portDone no p s) := by
  unfold portDone
  split
  · rename_i z2 z3
    exact Keeps.refl _ _
  · rename_i z5 z6 z7
    extract_lets v9 v10
    refine Keeps.ite ?_ ?_
    · refine Keeps.after (freeFrame_keeps _ _) rfl ?_
      exact Keeps.refl _ _
    · refine Keeps.switch_ (u := s) ?_ rfl
      exact Keeps.refl _ _

theorem missedAt_keeps (f) (p) (s) : Keeps 33554434 s (missedAt f p s) := by
  unfold missedAt
  refine Keeps.ite ?_ ?_
  · split
    · rename_i z3 z4 z5
      extract_lets v7 v8 v9
      clear_value v9
      have hv7 : Keeps 33554434 (s) v7 := by
        unfold v7
        refine Keeps.after (State.updNet_keeps _ _ _) rfl ?_
        exact Keeps.refl _ _
      clear_value v7
      refine Keeps.cell_ (u := v7) ?_ rfl (.inl rfl) (.inl rfl) (.inl rfl) (.inl rfl)
      assumption
    · rename_i z14 z15
      exact Keeps.refl _ _
  · exact Keeps.refl _ _

theorem mirrorFrame_keeps (p) (dir) (cls) (octs) (len) (s) : Keeps 786432 s (mirrorFrame p dir cls octs len s) := by
  unfold mirrorFrame
  refine Keeps.foldl ?_ ?_
  · intro t2 x3
    extract_lets v5 v6 v7 v8 v9 v10 v11
    clear_value v5 v6 v7 v8
    have hv9 : Keeps 786432 (t2) v9 := by
      unfold v9
      refine Keeps.after (State.setMirror_keeps _ _ _) rfl ?_
      exact Keeps.refl _ _
    clear_value v9
    have hv11 : Keeps 786432 (t2) v11 := by
      unfold v11
      refine Keeps.switch_ (u := v9) ?_ rfl
      assumption
    clear_value v11
    refine Keeps.ite ?_ ?_
    · refine Keeps.ite ?_ ?_
      · refine Keeps.after (State.setMirror_keeps _ _ _) rfl ?_
        exact Keeps.refl _ _
      · refine Keeps.ite ?_ ?_
        · refine Keeps.after (State.setMirror_keeps _ _ _) rfl ?_
          exact Keeps.refl _ _
        · refine Keeps.after (State.stream_keeps _ _ _ _ _) rfl ?_
          assumption
    · exact Keeps.refl _ _
  · exact Keeps.refl _ _

theorem enqueue_keeps (f) (s) : Keeps 168165378 s (enqueue f s) := by
  unfold enqueue
  extract_lets v2 v3 v4 v5 v6
  have hv3 : Keeps 168165378 (s) v3 := by
    unfold v3
    refine Keeps.foldl ?_ ?_
    · intro t8 x9
      refine Keeps.after (missedAt_keeps _ _ _) rfl ?_
      refine Keeps.after (State.macCount_keeps _ _ _) rfl ?_
      exact Keeps.refl _ _
    · exact Keeps.refl _ _
  clear_value v3
  have hv6 : Keeps 168165378 (s) v6 := by
    unfold v6
    refine Keeps.switch_ (u := v3) ?_ rfl
    assumption
  clear_value v6
  refine Keeps.ite ?_ ?_
  · refine Keeps.after (freeFrame_keeps _ _) rfl ?_
    assumption
  · refine Keeps.after (updatePauses_keeps _) rfl ?_
    assumption

theorem storeExternal_keeps (p) (octs) (mask) (cls) (stamp) (s) : Keeps 168692738 s (storeExternal p octs mask cls stamp s) := by
  unfold storeExternal
  extract_lets v2 v3 v4 v5 v6 v7 v8 v9 v10 v11 v12 v13
  clear_value v2 v3 v4 v5 v6 v7 v8 v9
  have hv10 : Keeps 168692738 (s) v10 := by
    unfold v10
    refine Keeps.after (State.updMac_keeps _ _ _) rfl ?_
    exact Keeps.refl _ _
  clear_value v10
  have hv11 : Keeps 168692738 (s) v11 := by
    unfold v11
    refine Keeps.after (chkFrame_keeps _ _ _ _ _ _) rfl ?_
    assumption
  clear_value v11
  have hv12 : Keeps 168692738 (s) v12 := by
    unfold v12
    refine Keeps.after (mirrorFrame_keeps _ _ _ _ _ _) rfl ?_
    assumption
  clear_value v12
  have hv13 : Keeps 168692738 (s) v13 := by
    unfold v13
    refine Keeps.switch_ (u := v12) ?_ rfl
    assumption
  clear_value v13
  refine Keeps.ite ?_ ?_
  · refine Keeps.after (State.macCount_keeps _ _ _) rfl ?_
    exact Keeps.refl _ _
  · refine Keeps.after (enqueue_keeps _ _) rfl ?_
    assumption

theorem checkFrame_keeps (p) (octs) (code) (stamp) (s) : Keeps 168692738 s (checkFrame p octs code stamp s) := by
  unfold checkFrame
  extract_lets v2 v3
  clear_value v2 v3
  refine Keeps.ite ?_ ?_
  · refine Keeps.after (State.macCount_keeps _ _ _) rfl ?_
    exact Keeps.refl _ _
  · refine Keeps.ite ?_ ?_
    · refine Keeps.after (State.macCount_keeps _ _ _) rfl ?_
      exact Keeps.refl _ _
    · refine Keeps.ite ?_ ?_
      · refine Keeps.after (State.macCount_keeps _ _ _) rfl ?_
        exact Keeps.refl _ _
      · refine Keeps.ite ?_ ?_
        · refine Keeps.after (State.macCount_keeps _ _ _) rfl ?_
          exact Keeps.refl _ _
        · refine Keeps.ite ?_ ?_
          · refine Keeps.after (State.setMac_keeps _ _ _) rfl ?_
            exact Keeps.refl _ _
          · split
            · rename_i z20 z21
              refine Keeps.after (State.macCount_keeps _ _ _) rfl ?_
              exact Keeps.refl _ _
            · rename_i z24 z25 z26 z27
              extract_lets v29
              clear_value v29
              refine Keeps.ite ?_ ?_
              · refine Keeps.after (State.macCount_keeps _ _ _) rfl ?_
                exact Keeps.refl _ _
              · refine Keeps.after (storeExternal_keeps _ _ _ _ _ _) rfl ?_
                exact Keeps.refl _ _

theorem macReceive_keeps (p) (octs) (code) (frag) (first) (s) : Keeps 168692738 s (macReceive p octs code frag first s) := by
  unfold macReceive
  extract_lets v2 v3 v4
  clear_value v2 v3
  have hv4 : Keeps 168692738 (s) v4 := by
    unfold v4
    refine Keeps.ite ?_ ?_
    · refine Keeps.after (State.macCount_keeps _ _ _) rfl ?_
      exact Keeps.refl _ _
    · exact Keeps.refl _ _
  clear_value v4
  refine Keeps.ite ?_ ?_
  · exact Keeps.refl _ _
  · split
    · rename_i z12
      refine Keeps.after (checkFrame_keeps _ _ _ _ _) rfl ?_
      exact Keeps.refl _ _
    · rename_i z15 z16 z17
      refine Keeps.ite ?_ ?_
      · refine Keeps.after (State.updMac_keeps _ _ _) rfl ?_
        refine Keeps.after (State.macCount_keeps _ _ _) rfl ?_
        assumption
      · refine Keeps.ite ?_ ?_
        · refine Keeps.after (checkFrame_keeps _ _ _ _ _) rfl ?_
          refine Keeps.after (State.updMac_keeps _ _ _) rfl ?_
          assumption
        · refine Keeps.after (State.updMac_keeps _ _ _) rfl ?_
          assumption
    · rename_i z28 z29 z30 z31
      split
      · rename_i z33 z34
        refine Keeps.after (State.macCount_keeps _ _ _) rfl ?_
        exact Keeps.refl _ _
      · rename_i z37 z38 z39 z40 z41
        extract_lets v43 v44
        clear_value v43 v44
        refine Keeps.ite ?_ ?_
        · refine Keeps.after (State.updMac_keeps _ _ _) rfl ?_
          refine Keeps.after (State.macCount_keeps _ _ _) rfl ?_
          exact Keeps.refl _ _
        · refine Keeps.ite ?_ ?_
          · refine Keeps.after (State.updMac_keeps _ _ _) rfl ?_
            refine Keeps.after (State.macCount_keeps _ _ _) rfl ?_
            exact Keeps.refl _ _
          · refine Keeps.ite ?_ ?_
            · refine Keeps.after (checkFrame_keeps _ _ _ _ _) rfl ?_
              refine Keeps.after (State.macCount_keeps _ _ _) rfl ?_
              refine Keeps.after (State.updMac_keeps _ _ _) rfl ?_
              exact Keeps.refl _ _
            · refine Keeps.after (State.updMac_keeps _ _ _) rfl ?_
              exact Keeps.refl _ _

theorem dropUnsendable_keeps (p) (s) : Keeps 134610944 s (dropUnsendable p s) := by
  unfold dropUnsendable
  refine Keeps.foldl ?_ ?_
  · intro t2 x3
    split
    · rename_i z5 z6 z7
      refine Keeps.ite ?_ ?_
      · refine Keeps.after (portDone_keeps _ _ _) rfl ?_
        refine Keeps.after (State.macCount_keeps _ _ _) rfl ?_
        exact Keeps.refl _ _
      · refine Keeps.ite ?_ ?_
        · refine Keeps.after (portDone_keeps _ _ _) rfl ?_
          exact Keeps.refl _ _
        · exact Keeps.refl _ _
    · rename_i z16 z17
      exact Keeps.refl _ _
  · exact Keeps.refl _ _

theorem insertStamp_keeps (p) (f) (s) : Keeps 1 s (insertStamp p f s).1 := by
  unfold insertStamp
  refine Keeps.ite1 ?_ ?_
  · refine Keeps.mk1 ?_
    exact Keeps.refl _ _
  · extract_lets v5 v6 v7 v8 v9 v10 v11 v12
    clear_value v5 v6 v7 v8 v9 v10 v11
    have hv12 : Keeps 1 (s) v12.1 := by
      unfold v12
      refine Keeps.mk1 ?_
      refine Keeps.after (State.setTsIns_keeps _ _ _) rfl ?_
      exact Keeps.refl _ _
    clear_value v12
    split
    · rename_i z17 z18
      split
      · rename_i z20 z21
        assumption
      · rename_i z23 z24 z25
        extract_lets v27
        clear_value v27
        split
        · rename_i z29 z30
          assumption
        · rename_i z32 z33 z34
          refine Keeps.mk1 ?_
          exact Keeps.refl _ _
    · rename_i z37 z38
      split
      · rename_i z40 z41
        assumption
      · rename_i z43 z44 z45
        refine Keeps.mk1 ?_
        exact Keeps.refl _ _
    · rename_i z48 z49 z50
      refine Keeps.mk1 ?_
      refine Keeps.after (State.setTsIns_keeps _ _ _) rfl ?_
      exact Keeps.refl _ _

theorem startFrame_keeps (p) (f) (s) : Keeps 135138305 s (startFrame p f s) := by
  unfold startFrame
  extract_lets v2 v3 v4 v5 v6 v7 v8 v9 v10
  clear_value v3 v4
  have hv2 : Keeps 135138305 (s) v2.1 := by
    unfold v2
    refine Keeps.after (insertStamp_keeps _ _ _) rfl ?_
    exact Keeps.refl _ _
  clear_value v2
  have hv5 : Keeps 135138305 (s) v5 := by
    unfold v5
    assumption
  clear_value v5
  have hv7 : Keeps 135138305 (s) v7 := by
    unfold v7
    refine Keeps.switch_ (u := v5) ?_ rfl
    assumption
  clear_value v7
  have hv8 : Keeps 135138305 (s) v8 := by
    unfold v8
    refine Keeps.after (mirrorFrame_keeps _ _ _ _ _ _) rfl ?_
    assumption
  clear_value v8
  have hv9 : Keeps 135138305 (s) v9 := by
    unfold v9
    refine Keeps.after (chkFrame_keeps _ _ _ _ _ _) rfl ?_
    assumption
  clear_value v9
  have hv10 : Keeps 135138305 (s) v10 := by
    unfold v10
    refine Keeps.after (State.updMac_keeps _ _ _) rfl ?_
    assumption
  clear_value v10
  refine Keeps.after (State.send_keeps _ _) rfl ?_
  assumption

theorem transmit_keeps (p) (sent) (s) : Keeps 135138305 s (transmit p sent s) := by
  unfold transmit
  extract_lets v2 v3 v4
  clear_value v3 v4
  have hv2 : Keeps 135138305 (s) v2 := by
    unfold v2
    refine Keeps.after (dropUnsendable_keeps _ _) rfl ?_
    exact Keeps.refl _ _
  clear_value v2
  refine Keeps.ite ?_ ?_
  · assumption
  · split
    · rename_i z10 z11 z12
      refine Keeps.ite ?_ ?_
      · extract_lets v15
        have hv15 : Keeps 135138305 (s) v15 := by
          unfold v15
          refine Keeps.after (State.setMac_keeps _ _ _) rfl ?_
          assumption
        clear_value v15
        split
        · rename_i z19 z20 z21
          split
          · rename_i z23 z24 z25
            refine Keeps.after (startFrame_keeps _ _ _) rfl ?_
            assumption
          · rename_i z28 z29
            assumption
        · rename_i z31 z32
          assumption
      · assumption
    · rename_i z35 z36
      split
      · rename_i z38 z39 z40
        split
        · rename_i z42 z43 z44
          refine Keeps.after (startFrame_keeps _ _ _) rfl ?_
          assumption
        · rename_i z47 z48
          assumption
      · rename_i z50 z51
        split
        · rename_i z53 z54 z55
          refine Keeps.ite ?_ ?_
          · assumption
          · refine Keeps.after (State.setMac_keeps _ _ _) rfl ?_
            assumption
        · rename_i z60 z61
          assumption

theorem handOver_keeps (p) (s) : Keeps 135135232 s (handOver p s) := by
  unfold handOver
  split
  · rename_i z2 z3
    exact Keeps.refl _ _
  · rename_i z5 z6 z7
    extract_lets v9 v10
    have hv10 : Keeps 135135232 (s) v10 := by
      unfold v10
      refine Keeps.ite ?_ ?_
      · refine Keeps.switch_ (u := s) ?_ rfl
        exact Keeps.refl _ _
      · refine Keeps.after (State.send_keeps _ _) rfl ?_
        exact Keeps.refl _ _
    clear_value v10
    refine Keeps.after (portDone_keeps _ _ _) rfl ?_
    refine Keeps.after (mirrorFrame_keeps _ _ _ _ _ _) rfl ?_
    assumption

theorem marginAt_keeps (f) (p) (s) : Keeps 2 s (marginAt f p s) := by
  unfold marginAt
  split
  · rename_i z2 z3 z4 z5 z6 z7
    extract_lets v9 v10 v11
    clear_value v9 v10
    refine Keeps.ite ?_ ?_
    · refine Keeps.cell_ (u := s) ?_ rfl (.inl rfl) (.inl rfl) (.inl rfl) (.inl rfl)
      exact Keeps.refl _ _
    · exact Keeps.refl _ _
  · rename_i z16 z17 z18
    exact Keeps.refl _ _

theorem endFrame_keeps (p) (s) : Keeps 134610946 s (endFrame p s) := by
  unfold endFrame
  split
  · rename_i z2 z3
    exact Keeps.refl _ _
  · rename_i z5 z6 z7
    split
    · rename_i z9 z10
      refine Keeps.after (State.updMac_keeps _ _ _) rfl ?_
      exact Keeps.refl _ _
    · rename_i z13 z14 z15
      extract_lets v17 v18
      clear_value v17
      have hv18 : Keeps 134610946 (s) v18 := by
        unfold v18
        refine Keeps.after (State.updMac_keeps _ _ _) rfl ?_
        exact Keeps.refl _ _
      clear_value v18
      refine Keeps.after (portDone_keeps _ _ _) rfl ?_
      refine Keeps.after (marginAt_keeps _ _ _) rfl ?_
      assumption

theorem withdraw_keeps (p) (s) : Keeps 168165378 s (withdraw p s) := by
  unfold withdraw
  refine Keeps.foldl ?_ ?_
  · intro t2 x3
    refine Keeps.ite ?_ ?_
    · refine Keeps.after (portDone_keeps _ _ _) rfl ?_
      refine Keeps.after (missedAt_keeps _ _ _) rfl ?_
      refine Keeps.after (State.macCount_keeps _ _ _) rfl ?_
      exact Keeps.refl _ _
    · exact Keeps.refl _ _
  · exact Keeps.refl _ _

theorem skipTx_keeps (e) (s) : Keeps 262144 s (skipTx e s) := by
  unfold skipTx
  refine Keeps.after (State.updSwRing_keeps _ _ _) rfl ?_
  exact Keeps.refl _ _

theorem takeDescriptor_keeps (e) (s) : Keeps 168693314 s (takeDescriptor e s) := by
  unfold takeDescriptor
  extract_lets v2 v3 v4 v5 v6 v7 v8 v9 v10 v11 v12 v13
  clear_value v2 v3 v4 v5 v6 v7 v8 v9 v10 v11 v12 v13
  refine Keeps.ite ?_ ?_
  · exact Keeps.refl _ _
  · refine Keeps.ite ?_ ?_
    · refine Keeps.after (skipTx_keeps _ _) rfl ?_
      exact Keeps.refl _ _
    · split
      · rename_i z20 z21
        refine Keeps.after (skipTx_keeps _ _) rfl ?_
        exact Keeps.refl _ _
      · rename_i z24 z25 z26
        refine Keeps.ite ?_ ?_
        · refine Keeps.after (skipTx_keeps _ _) rfl ?_
          refine Keeps.after (State.poolRefuse_keeps _ _ _ _) rfl ?_
          exact Keeps.refl _ _
        · refine Keeps.ite ?_ ?_
          · exact Keeps.refl _ _
          · extract_lets v34 v35
            have hv34 : Keeps 168693314 (s) v34.1 := by
              unfold v34
              refine Keeps.after (State.poolRead_keeps _ _ _ _) rfl ?_
              exact Keeps.refl _ _
            clear_value v34
            have hv35 : Keeps 168693314 (s) v35 := by
              unfold v35
              refine Keeps.after (State.updSwRing_keeps _ _ _) rfl ?_
              assumption
            clear_value v35
            split
            · rename_i z41 z42 z43
              extract_lets v45 v46 v47
              have hv45 : Keeps 168693314 (s) v45 := by
                unfold v45
                refine Keeps.after (mirrorFrame_keeps _ _ _ _ _ _) rfl ?_
                assumption
              clear_value v45
              have hv46 : Keeps 168693314 (s) v46 := by
                unfold v46
                refine Keeps.after (chkFrame_keeps _ _ _ _ _ _) rfl ?_
                assumption
              clear_value v46
              have hv47 : Keeps 168693314 (s) v47 := by
                unfold v47
                refine Keeps.switch_ (u := v46) ?_ rfl
                assumption
              clear_value v47
              refine Keeps.after (enqueue_keeps _ _) rfl ?_
              assumption
            · rename_i z56 z57
              refine Keeps.after (skipTx_keeps _ _) rfl ?_
              assumption

theorem storeInternal_keeps {src : Nat} {octs : List Byte} {cls mask : Nat} {s t : State} (e : storeInternal src octs cls mask s = some t) :
    Keeps 168689666 s t := by
  unfold storeInternal at e
  extract_lets lf n resv room w v at e
  clear_value room w v
  split at e
  · exact absurd e (by simp)
  · rw [← Option.some.inj e]
    exact Keeps.after (enqueue_keeps _ _) rfl (Keeps.after (mirrorFrame_keeps _ _ _ _ _ _) rfl (Keeps.switch_ (Keeps.refl _ _) rfl))

theorem deliver_keeps (e) (s) : Keeps 1208880640 s (deliver e s) := by
  unfold deliver
  extract_lets v2 v3 v4 v5 v6 v7 v8
  clear_value v2 v3 v4 v5 v6 v7 v8
  split
  · rename_i z10 z11
    exact Keeps.refl _ _
  · rename_i z13 z14 z15
    refine Keeps.ite ?_ ?_
    · exact Keeps.refl _ _
    · refine Keeps.ite ?_ ?_
      · refine Keeps.after (State.setSwRing_keeps _ _ _) rfl ?_
        exact Keeps.refl _ _
      · extract_lets v22 v23 v24 v25 v26 v27 v28 v29
        clear_value v22 v23
        have hv24 : Keeps 1208880640 (s) v24 := by
          unfold v24
          refine Keeps.after (State.memPut_keeps _ _ _) rfl ?_
          exact Keeps.refl _ _
        clear_value v24
        have hv25 : Keeps 1208880640 (s) v25 := by
          unfold v25
          refine Keeps.after (State.memPut_keeps _ _ _) rfl ?_
          assumption
        clear_value v25
        have hv26 : Keeps 1208880640 (s) v26 := by
          unfold v26
          refine Keeps.after (State.setSwRing_keeps _ _ _) rfl ?_
          assumption
        clear_value v26
        have hv27 : Keeps 1208880640 (s) v27 := by
          unfold v27
          refine Keeps.after (mirrorFrame_keeps _ _ _ _ _ _) rfl ?_
          assumption
        clear_value v27
        have hv28 : Keeps 1208880640 (s) v28 := by
          unfold v28
          refine Keeps.after (chkFrame_keeps _ _ _ _ _ _) rfl ?_
          assumption
        clear_value v28
        have hv29 : Keeps 1208880640 (s) v29 := by
          unfold v29
          refine Keeps.after (State.requestEntry_keeps _ _ _ _ _) rfl ?_
          assumption
        clear_value v29
        refine Keeps.after (portDone_keeps _ _ _) rfl ?_
        assumption

theorem txrIdxWrite_keeps (e) (w) (s) : Keeps 264192 s (txrIdxWrite e w s) := by
  unfold txrIdxWrite
  extract_lets v2 v3
  clear_value v2 v3
  refine Keeps.ite ?_ ?_
  · refine Keeps.after (State.setSwRing_keeps _ _ _) rfl ?_
    exact Keeps.refl _ _
  · refine Keeps.after (State.updLathe_keeps _ _ _) rfl ?_
    refine Keeps.after (State.setSwRing_keeps _ _ _) rfl ?_
    exact Keeps.refl _ _

theorem rxrIdxWrite_keeps (e) (w) (s) : Keeps 262144 s (rxrIdxWrite e w s) := by
  unfold rxrIdxWrite
  extract_lets v2 v3
  clear_value v2 v3
  refine Keeps.ite ?_ ?_
  · refine Keeps.after (State.setSwRing_keeps _ _ _) rfl ?_
    exact Keeps.refl _ _
  · refine Keeps.after (State.setSwRing_keeps _ _ _) rfl ?_
    exact Keeps.refl _ _

theorem txrCredRead_keeps (e) (s) : Keeps 67371008 s (txrCredRead e s) := by
  unfold txrCredRead
  extract_lets v2
  clear_value v2
  refine Keeps.after (State.returns_keeps _ _) rfl ?_
  refine Keeps.after (State.setSwRing_keeps _ _ _) rfl ?_
  exact Keeps.refl _ _

theorem rxrIdxRead_keeps (e) (s) : Keeps 67371008 s (rxrIdxRead e s) := by
  unfold rxrIdxRead
  extract_lets v2
  clear_value v2
  refine Keeps.after (State.returns_keeps _ _) rfl ?_
  refine Keeps.after (State.setSwRing_keeps _ _ _) rfl ?_
  exact Keeps.refl _ _

theorem linkChanged_keeps (p) (up) (s) : Keeps 524480 s (linkChanged p up s) := by
  unfold linkChanged
  refine Keeps.after (State.event_keeps _ _ _ _ _) rfl ?_
  exact Keeps.refl _ _

theorem flushPort_keeps (p) (s) : Keeps 134610944 s (flushPort p s) := by
  unfold flushPort
  refine Keeps.foldl ?_ ?_
  · intro t2 x3
    refine Keeps.ite ?_ ?_
    · refine Keeps.after (portDone_keeps _ _ _) rfl ?_
      refine Keeps.after (State.macCount_keeps _ _ _) rfl ?_
      exact Keeps.refl _ _
    · exact Keeps.refl _ _
  · exact Keeps.refl _ _

theorem linkDown_keeps (p) (s) : Keeps 135136448 s (linkDown p s) := by
  unfold linkDown
  extract_lets v2 v3 v4 v5 v6
  clear_value v2
  have hv3 : ∀ a7 a8, Keeps 135136448 a8 (v3 a7 a8) := by
    intro a7 a8
    unfold v3
    split
    · rename_i z10
      exact Keeps.refl _ _
    · rename_i z12 z13
      extract_lets v15
      clear_value v15
      refine Keeps.after (portDone_keeps _ _ _) rfl ?_
      refine Keeps.after (chkCut_keeps _ _ _ _ _) rfl ?_
      refine Keeps.after (State.macCount_keeps _ _ _) rfl ?_
      exact Keeps.refl _ _
  clear_value v3
  have hv4 : Keeps 135136448 (s) v4 := by
    unfold v4
    refine Keeps.trans ?_ (hv3 _ _)
    refine Keeps.trans ?_ (hv3 _ _)
    exact Keeps.refl _ _
  clear_value v4
  have hv5 : Keeps 135136448 (s) v5 := by
    unfold v5
    refine Keeps.after (State.updMac_keeps _ _ _) rfl ?_
    assumption
  clear_value v5
  have hv6 : Keeps 135136448 (s) v6 := by
    unfold v6
    refine Keeps.ite ?_ ?_
    · refine Keeps.after (flushPort_keeps _ _) rfl ?_
      assumption
    · assumption
  clear_value v6
  refine Keeps.ite ?_ ?_
  · exact Keeps.refl _ _
  · refine Keeps.after (linkChanged_keeps _ _ _) rfl ?_
    assumption

theorem linkUp_keeps (p) (speed) (full) (s) : Keeps 135136448 s (linkUp p speed full s) := by
  unfold linkUp
  extract_lets v2 v3
  clear_value v2
  have hv3 : Keeps 135136448 (s) v3 := by
    unfold v3
    refine Keeps.after (State.setMac_keeps _ _ _) rfl ?_
    exact Keeps.refl _ _
  clear_value v3
  refine Keeps.ite ?_ ?_
  · refine Keeps.after (linkDown_keeps _ _) rfl ?_
    exact Keeps.refl _ _
  · refine Keeps.ite ?_ ?_
    · refine Keeps.after (State.setMac_keeps _ _ _) rfl ?_
      exact Keeps.refl _ _
    · refine Keeps.after (linkChanged_keeps _ _ _) rfl ?_
      assumption

theorem verifyStep_keeps (p) (what) (s) : Keeps 134348800 s (verifyStep p what s) := by
  unfold verifyStep
  extract_lets v2
  clear_value v2
  refine Keeps.ite ?_ ?_
  · exact Keeps.refl _ _
  · split
    · rename_i z6
      refine Keeps.after (State.send_keeps _ _) rfl ?_
      exact Keeps.refl _ _
    · rename_i z9
      refine Keeps.ite ?_ ?_
      · refine Keeps.after (State.setMac_keeps _ _ _) rfl ?_
        exact Keeps.refl _ _
      · exact Keeps.refl _ _
    · rename_i z14
      refine Keeps.ite ?_ ?_
      · exact Keeps.refl _ _
      · refine Keeps.ite ?_ ?_
        · refine Keeps.after (State.send_keeps _ _) rfl ?_
          refine Keeps.after (State.setMac_keeps _ _ _) rfl ?_
          exact Keeps.refl _ _
        · refine Keeps.after (State.setMac_keeps _ _ _) rfl ?_
          exact Keeps.refl _ _

theorem audit_keeps (leaked) (twice) (freed) (s) : Keeps 786496 s (audit leaked twice freed s) := by
  unfold audit
  extract_lets v2 v3 v4 v5 v6 v7 v8 v9 v10
  have hv7 : Keeps 786496 (s) v7 := by
    unfold v7
    refine Keeps.switch_ (u := s) ?_ rfl
    exact Keeps.refl _ _
  have hv9 : Keeps 786496 (s) v9 := by
    unfold v9
    refine Keeps.wnw_ (u := v7) ?_ rfl
    assumption
  have hv10 : Keeps 786496 (s) v10 := by
    unfold v10
    refine Keeps.ite ?_ ?_
    · assumption
    · refine Keeps.after (State.memoryRecord_keeps _ _ _ _ _ _) rfl ?_
      assumption
  refine Keeps.ite ?_ ?_
  · refine Keeps.after (State.doom_keeps _ _ _) rfl ?_
    assumption
  · assumption

theorem swAuditRead_keeps (s) : Keeps 67371008 s (swAuditRead s) := by
  unfold swAuditRead
  extract_lets v2
  refine Keeps.after (State.returns_keeps _ _) rfl ?_
  refine Keeps.switch_ (u := s) ?_ rfl
  exact Keeps.refl _ _

theorem macSnapWrite_keeps (m) (n) (w) (s) : Keeps 131072 s (macSnapWrite m n w s) := by
  unfold macSnapWrite
  extract_lets v2
  clear_value v2
  refine Keeps.ite ?_ ?_
  · refine Keeps.after (State.setMac_keeps _ _ _) rfl ?_
    exact Keeps.refl _ _
  · exact Keeps.refl _ _

theorem nrwRead_keeps (n) (j) (s) : Keeps 67239936 s (nrwRead n j s) := by
  unfold nrwRead
  extract_lets v2
  clear_value v2
  refine Keeps.after (State.returns_keeps _ _) rfl ?_
  refine Keeps.after (State.setMac_keeps _ _ _) rfl ?_
  exact Keeps.refl _ _

theorem setResv_keeps (s) : Keeps 262144 s (setResv s) := by
  unfold setResv
  extract_lets v2 v3 v4 v5
  clear_value v2 v3 v4
  refine Keeps.switch_ (u := s) ?_ rfl
  exact Keeps.refl _ _

theorem grantNet_keeps (n) (s) : Keeps 230400 s (grantNet n s) := by
  unfold grantNet
  extract_lets v2 v3 v4 v5
  clear_value v2
  have hv3 : Keeps 230400 (s) v3 := by
    unfold v3
    refine Keeps.foldl ?_ ?_
    · intro t7 x8
      refine Keeps.after (State.updMac_keeps _ _ _) rfl ?_
      exact Keeps.refl _ _
    · exact Keeps.refl _ _
  clear_value v3
  have hv4 : Keeps 230400 (s) v4 := by
    unfold v4
    refine Keeps.ite ?_ ?_
    · assumption
    · refine Keeps.after (State.updCan_keeps _ _ _) rfl ?_
      assumption
  clear_value v4
  have hv5 : Keeps 230400 (s) v5 := by
    unfold v5
    refine Keeps.foldl ?_ ?_
    · intro t17 x18
      refine Keeps.after (State.updChisel_keeps _ _ _) rfl ?_
      exact Keeps.refl _ _
    · assumption
  clear_value v5
  refine Keeps.foldl ?_ ?_
  · intro t23 x24
    refine Keeps.after (State.updChkUnit_keeps _ _ _) rfl ?_
    exact Keeps.refl _ _
  · assumption

theorem releaseNet_keeps (n) (s) : Keeps 230400 s (releaseNet n s) := by
  unfold releaseNet
  extract_lets v2 v3 v4
  have hv2 : Keeps 230400 (s) v2 := by
    unfold v2
    refine Keeps.foldl ?_ ?_
    · intro t6 x7
      refine Keeps.after (State.updMac_keeps _ _ _) rfl ?_
      exact Keeps.refl _ _
    · exact Keeps.refl _ _
  clear_value v2
  have hv3 : Keeps 230400 (s) v3 := by
    unfold v3
    refine Keeps.ite ?_ ?_
    · assumption
    · refine Keeps.after (State.updCan_keeps _ _ _) rfl ?_
      assumption
  clear_value v3
  have hv4 : Keeps 230400 (s) v4 := by
    unfold v4
    refine Keeps.foldl ?_ ?_
    · intro t16 x17
      refine Keeps.after (State.updChisel_keeps _ _ _) rfl ?_
      exact Keeps.refl _ _
    · assumption
  clear_value v4
  refine Keeps.foldl ?_ ?_
  · intro t22 x23
    refine Keeps.after (State.updChkUnit_keeps _ _ _) rfl ?_
    exact Keeps.refl _ _
  · assumption

theorem placeSlots_keeps (e) (s) : Keeps 33554432 s (placeSlots e s) := by
  unfold placeSlots
  refine Keeps.foldl1 ?_ ?_
  · intro t2 x3
    extract_lets v5
    clear_value v5
    refine Keeps.mk1 ?_
    refine Keeps.after (State.setNet_keeps _ _ _) rfl ?_
    exact Keeps.refl _ _
  · refine Keeps.mk1 ?_
    exact Keeps.refl _ _

theorem defineNet_keeps (n) (k) (s) : Keeps 1107537408 s (defineNet n k s) := by
  unfold defineNet
  extract_lets v2 v3 v4 v5 v6 v7
  clear_value v2
  have hv3 : Keeps 1107537408 (s) v3 := by
    unfold v3
    refine Keeps.ite ?_ ?_
    · refine Keeps.after (releaseNet_keeps _ _) rfl ?_
      exact Keeps.refl _ _
    · exact Keeps.refl _ _
  clear_value v3
  have hv4 : Keeps 1107537408 (s) v4 := by
    unfold v4
    refine Keeps.after (State.setNet_keeps _ _ _) rfl ?_
    assumption
  clear_value v4
  have hv5 : Keeps 1107537408 (s) v5 := by
    unfold v5
    refine Keeps.ite ?_ ?_
    · refine Keeps.after (reserveCtxs_keeps _ _ _) rfl ?_
      refine Keeps.after (grantNet_keeps _ _) rfl ?_
      assumption
    · assumption
  clear_value v5
  have hv6 : Keeps 1107537408 (s) v6 := by
    unfold v6
    refine Keeps.after (placeSlots_keeps _ _) rfl ?_
    assumption
  clear_value v6
  have hv7 : Keeps 1107537408 (s) v7 := by
    unfold v7
    refine Keeps.ite ?_ ?_
    · refine Keeps.after (syncEnv_keeps _ _) rfl ?_
      refine Keeps.after (placeSlots_keeps _ _) rfl ?_
      assumption
    · assumption
  clear_value v7
  refine Keeps.after (syncEnv_keeps _ _) rfl ?_
  assumption

theorem runNetDefine_keeps (h) (a) (s) : Keeps 1107537408 s (runNetDefine h a s).1 := by
  unfold runNetDefine
  extract_lets v2 v3 v4 v5 v6
  clear_value v2 v3 v4 v5 v6
  refine tested_keeps ?_ ?_
  · exact Keeps.refl _ _
  · refine Keeps.after (okReply_keeps _) rfl ?_
    refine Keeps.after (defineNet_keeps _ _ _) rfl ?_
    exact Keeps.refl _ _

theorem startNet_keeps (n) (s) : Keeps 1107569152 s (startNet n s) := by
  unfold startNet
  extract_lets v2 v3 v4
  clear_value v2 v3
  have hv4 : Keeps 1107569152 (s) v4 := by
    unfold v4
    refine Keeps.ite ?_ ?_
    · refine Keeps.after (syncEnv_keeps _ _) rfl ?_
      refine Keeps.after (reserveCtxs_keeps _ _ _) rfl ?_
      exact Keeps.refl _ _
    · exact Keeps.refl _ _
  clear_value v4
  refine Keeps.after (setResv_keeps _) rfl ?_
  refine Keeps.after (State.updNet_keeps _ _ _) rfl ?_
  assumption

theorem stopNet_keeps (n) (s) : Keeps 1107569152 s (stopNet n s) := by
  unfold stopNet
  extract_lets v2 v3
  clear_value v2
  have hv3 : Keeps 1107569152 (s) v3 := by
    unfold v3
    refine Keeps.after (setResv_keeps _) rfl ?_
    refine Keeps.after (State.updNet_keeps _ _ _) rfl ?_
    exact Keeps.refl _ _
  clear_value v3
  refine Keeps.ite ?_ ?_
  · assumption
  · refine Keeps.after (syncEnv_keeps _ _) rfl ?_
    refine Keeps.after (reserveCtxs_keeps _ _ _) rfl ?_
    assumption

theorem runNetStart_keeps (h) (a) (s) : Keeps 1107569152 s (runNetStart h a s).1 := by
  unfold runNetStart
  extract_lets v2 v3
  clear_value v2 v3
  refine tested_keeps ?_ ?_
  · exact Keeps.refl _ _
  · refine Keeps.after (okReply_keeps _) rfl ?_
    refine Keeps.after (startNet_keeps _ _) rfl ?_
    exact Keeps.refl _ _

theorem runNetStop_keeps (h) (a) (s) : Keeps 1107569152 s (runNetStop h a s).1 := by
  unfold runNetStop
  extract_lets v2
  clear_value v2
  refine tested_keeps ?_ ?_
  · exact Keeps.refl _ _
  · refine Keeps.after (okReply_keeps _) rfl ?_
    refine Keeps.after (stopNet_keeps _ _) rfl ?_
    exact Keeps.refl _ _

theorem runNetStatus_keeps (x0) (a) (s) : Keeps 0 s (runNetStatus x0 a s).1 := by
  unfold runNetStatus
  extract_lets v2
  clear_value v2
  refine tested_keeps ?_ ?_
  · exact Keeps.refl _ _
  · refine Keeps.after (dataReply_keeps _ _) rfl ?_
    exact Keeps.refl _ _

theorem runNetSnapshot_keeps (h) (a) (s) : Keeps 131072 s (runNetSnapshot h a s).1 := by
  unfold runNetSnapshot
  extract_lets v2
  clear_value v2
  refine tested_keeps ?_ ?_
  · exact Keeps.refl _ _
  · refine Keeps.after (okReply_keeps _) rfl ?_
    refine Keeps.after (State.updMac_keeps _ _ _) rfl ?_
    exact Keeps.refl _ _

theorem runNetStats_keeps (x0) (a) (s) : Keeps 131072 s (runNetStats x0 a s).1 := by
  unfold runNetStats
  extract_lets v2 v3 v4
  clear_value v2 v3 v4
  refine tested_keeps ?_ ?_
  · exact Keeps.refl _ _
  · refine Keeps.ite1 ?_ ?_
    · refine Keeps.after (dataReply_keeps _ _) rfl ?_
      exact Keeps.refl _ _
    · refine Keeps.after (dataReply_keeps _ _) rfl ?_
      refine Keeps.after (State.setMac_keeps _ _ _) rfl ?_
      exact Keeps.refl _ _

theorem runNetAcyclic_keeps (h) (a) (s) : Keeps 167772160 s (runNetAcyclic h a s).1 := by
  unfold runNetAcyclic
  extract_lets v2 v3
  clear_value v2
  have hv3 : Keeps 167772160 (s) v3 := by
    unfold v3
    refine Keeps.after (State.send_keeps _ _) rfl ?_
    refine Keeps.after (State.updNet_keeps _ _ _) rfl ?_
    exact Keeps.refl _ _
  clear_value v3
  refine tested_keeps ?_ ?_
  · exact Keeps.refl _ _
  · refine Keeps.mk1 ?_
    assumption

theorem runNetPortConfig_keeps (h) (a) (s) : Keeps 131072 s (runNetPortConfig h a s).1 := by
  unfold runNetPortConfig
  extract_lets v2
  clear_value v2
  refine tested_keeps ?_ ?_
  · exact Keeps.refl _ _
  · refine Keeps.after (okReply_keeps _) rfl ?_
    refine Keeps.after (State.updMac_keeps _ _ _) rfl ?_
    exact Keeps.refl _ _

theorem runNetMirror_keeps (h) (a) (s) : Keeps 262144 s (runNetMirror h a s).1 := by
  unfold runNetMirror
  extract_lets v2 v3 v4
  clear_value v2 v3 v4
  refine tested_keeps ?_ ?_
  · exact Keeps.refl _ _
  · refine Keeps.after (dataReply_keeps _ _) rfl ?_
    refine Keeps.after (State.setMirror_keeps _ _ _) rfl ?_
    exact Keeps.refl _ _

theorem runNetSchedule_keeps (h) (a) (s) : Keeps 131072 s (runNetSchedule h a s).1 := by
  unfold runNetSchedule
  extract_lets v2 v3 v4
  clear_value v2 v3 v4
  refine tested_keeps ?_ ?_
  · exact Keeps.refl _ _
  · refine Keeps.after (okReply_keeps _) rfl ?_
    refine Keeps.after (State.updMac_keeps _ _ _) rfl ?_
    exact Keeps.refl _ _

theorem runNetCanConfig_keeps (h) (a) (s) : Keeps 65536 s (runNetCanConfig h a s).1 := by
  unfold runNetCanConfig
  extract_lets v2 v3 v4 v5 v6
  clear_value v2 v3 v4 v5 v6
  refine tested_keeps ?_ ?_
  · exact Keeps.refl _ _
  · refine Keeps.after (okReply_keeps _) rfl ?_
    refine Keeps.after (State.updCan_keeps _ _ _) rfl ?_
    exact Keeps.refl _ _

theorem runCmd_keeps {code : Nat} {f : Hdr → List Byte → State → State × Reply} {h : Hdr} {a : List Byte} {s : State}
    (e : runCmd code = some f) : Keeps 566331703239 s (f h a s).1 := by
  unfold runCmd at e
  split at e
  · cases e
    exact (runSysIdentify_keeps _ _ _).mono rfl
  · cases e
    exact (runSysHostSetup_keeps _ _ _).mono rfl
  · cases e
    exact (runSysStatus_keeps _ _ _).mono rfl
  · cases e
    exact (runSysCancel_keeps _ _ _).mono rfl
  · cases e
    exact (runSysEventMask_keeps _ _ _).mono rfl
  · cases e
    exact (runSysReset_keeps _ _ _).mono rfl
  · cases e
    exact (runCellSetTick_keeps _ _ _).mono rfl
  · cases e
    exact (runCellSetState_keeps _ _ _).mono rfl
  · cases e
    exact (runCellStatus_keeps _ _ _).mono rfl
  · cases e
    exact (runCellTxnBegin_keeps _ _ _).mono rfl
  · cases e
    exact (runCellTxnAbort_keeps _ _ _).mono rfl
  · cases e
    exact (runArmDefine_keeps _ _ _).mono rfl
  · cases e
    exact (runArmSetDynamics_keeps _ _ _).mono rfl
  · cases e
    exact (runArmSetPayload_keeps _ _ _).mono rfl
  · cases e
    exact (runArmSetLimits_keeps _ _ _).mono rfl
  · cases e
    exact (runArmSetIk_keeps _ _ _).mono rfl
  · cases e
    exact (runArmSetTool_keeps _ _ _).mono rfl
  · cases e
    exact (runArmSetFrame_keeps _ _ _).mono rfl
  · cases e
    exact (runArmSetClaim_keeps _ _ _).mono rfl
  · cases e
    exact (runArmSetMode_keeps _ _ _).mono rfl
  · cases e
    exact (runArmMoveJoint_keeps _ _ _).mono rfl
  · cases e
    exact (runArmMoveCart_keeps _ _ _).mono rfl
  · cases e
    exact (runArmMoveArc_keeps _ _ _).mono rfl
  · cases e
    exact (runArmHold_keeps _ _ _).mono rfl
  · cases e
    exact (runArmResume_keeps _ _ _).mono rfl
  · cases e
    exact (runArmStop_keeps _ _ _).mono rfl
  · cases e
    exact (runArmJog_keeps _ _ _).mono rfl
  · cases e
    exact (runArmStatus_keeps _ _ _).mono rfl
  · cases e
    exact (runAxisBind_keeps _ _ _).mono rfl
  · cases e
    exact (runAxisConfig_keeps _ _ _).mono rfl
  · cases e
    exact (runAxisSetLimits_keeps _ _ _).mono rfl
  · cases e
    exact (runAxisSetLoop_keeps _ _ _).mono rfl
  · cases e
    exact (runAxisSetNotch_keeps _ _ _).mono rfl
  · cases e
    exact (runAxisSetMode_keeps _ _ _).mono rfl
  · cases e
    exact (runAxisMove_keeps _ _ _).mono rfl
  · cases e
    exact (runAxisMoveVel_keeps _ _ _).mono rfl
  · cases e
    exact (runAxisHold_keeps _ _ _).mono rfl
  · cases e
    exact (runAxisResume_keeps _ _ _).mono rfl
  · cases e
    exact (runAxisStop_keeps _ _ _).mono rfl
  · cases e
    exact (runAxisGear_keeps _ _ _).mono rfl
  · cases e
    exact (runAxisCamTable_keeps _ _ _).mono rfl
  · cases e
    exact (runAxisCam_keeps _ _ _).mono rfl
  · cases e
    exact (runAxisHome_keeps _ _ _).mono rfl
  · cases e
    exact (runAxisJog_keeps _ _ _).mono rfl
  · cases e
    exact (runAxisSwitchConfig_keeps _ _ _).mono rfl
  · cases e
    exact (runAxisSwitchClear_keeps _ _ _).mono rfl
  · cases e
    exact (runAxisDdConfig_keeps _ _ _).mono rfl
  · cases e
    exact (runAxisDdPwm_keeps _ _ _).mono rfl
  · cases e
    exact (runAxisDdAlign_keeps _ _ _).mono rfl
  · cases e
    exact (runAxisStatus_keeps _ _ _).mono rfl
  · cases e
    exact (runSafeLoad_keeps _ _ _).mono rfl
  · cases e
    exact (runSafeConfirm_keeps _ _ _).mono rfl
  · cases e
    exact (runSafeStatus_keeps _ _ _).mono rfl
  · cases e
    exact (runSafeCounters_keeps _ _ _).mono rfl
  · cases e
    exact (runZoneDefine_keeps _ _ _).mono rfl
  · cases e
    exact (runZoneUnblock_keeps _ _ _).mono rfl
  · cases e
    exact (runZoneStatus_keeps _ _ _).mono rfl
  · cases e
    exact (runZoneCounters_keeps _ _ _).mono rfl
  · cases e
    exact (runNetPortConfig_keeps _ _ _).mono rfl
  · cases e
    exact (runNetDefine_keeps _ _ _).mono rfl
  · cases e
    exact (runNetStart_keeps _ _ _).mono rfl
  · cases e
    exact (runNetStop_keeps _ _ _).mono rfl
  · cases e
    exact (runNetStatus_keeps _ _ _).mono rfl
  · cases e
    exact (runNetSnapshot_keeps _ _ _).mono rfl
  · cases e
    exact (runNetStats_keeps _ _ _).mono rfl
  · cases e
    exact (runNetAcyclic_keeps _ _ _).mono rfl
  · cases e
    exact (runNetMirror_keeps _ _ _).mono rfl
  · cases e
    exact (runNetSchedule_keeps _ _ _).mono rfl
  · cases e
    exact (runNetCanConfig_keeps _ _ _).mono rfl
  · cases e
    exact (runLatheStore_keeps _ _ _).mono rfl
  · cases e
    exact (runLatheLoad_keeps _ _ _).mono rfl
  · cases e
    exact (runLatheSwap_keeps _ _ _).mono rfl
  · cases e
    exact (runLatheStatus_keeps _ _ _).mono rfl
  · cases e
    exact (runLatheCounters_keeps _ _ _).mono rfl
  · cases e
    exact (runLatheTelemetry_keeps _ _ _).mono rfl
  · cases e
    exact (runLatheEnrollKey_keeps _ _ _).mono rfl
  · cases e
    exact (runFabSetKey_keeps _ _ _).mono rfl
  · cases e
    exact (runFabJoin_keeps _ _ _).mono rfl
  · cases e
    exact (runFabLeave_keeps _ _ _).mono rfl
  · cases e
    exact (runFabSchedule_keeps _ _ _).mono rfl
  · cases e
    exact (runFabStatus_keeps _ _ _).mono rfl
  · cases e
    exact (runFabAssignShadow_keeps _ _ _).mono rfl
  · cases e
    exact (runFabReleaseShadow_keeps _ _ _).mono rfl
  · cases e
    exact (runFabSwitchover_keeps _ _ _).mono rfl
  · cases e
    exact (runFabSetReplLevel_keeps _ _ _).mono rfl
  · cases e
    exact (runFabPairStatus_keeps _ _ _).mono rfl
  · cases e
    exact (runFabSleep_keeps _ _ _).mono rfl
  · cases e
    exact (runFabWake_keeps _ _ _).mono rfl
  · cases e
    exact (runTimeConfig_keeps _ _ _).mono rfl
  · cases e
    exact (runTimeStatus_keeps _ _ _).mono rfl
  · cases e
    exact (runTimeCompare_keeps _ _ _).mono rfl
  · cases e
    exact (runTimeCapture_keeps _ _ _).mono rfl
  · cases e
    exact (runTimeSet_keeps _ _ _).mono rfl
  · cases e
    exact (runJrnlRead_keeps _ _ _).mono rfl
  · cases e
    exact (runJrnlMark_keeps _ _ _).mono rfl
  · cases e
    exact (runJrnlCommit_keeps _ _ _).mono rfl
  · cases e
    exact (runJrnlStatus_keeps _ _ _).mono rfl
  · cases e
    exact (runDiagTickLoad_keeps _ _ _).mono rfl
  · cases e
    exact (runDiagAxisLoop_keeps _ _ _).mono rfl
  · cases e
    exact (runDiagAxisCounters_keeps _ _ _).mono rfl
  · cases e
    exact (runDiagTiller_keeps _ _ _).mono rfl
  · cases e
    exact (runDiagBlocks_keeps _ _ _).mono rfl
  · cases e
    exact (runDiagTelemetry_keeps _ _ _).mono rfl
  · cases e
    exact (runFwLoad_keeps _ _ _).mono rfl
  · cases e
    exact (runFwActivate_keeps _ _ _).mono rfl
  · cases e
    exact (runFwStatus_keeps _ _ _).mono rfl
  · cases e

theorem runMember_keeps (x : Hdr × Nat × List Byte) (s : State) : Keeps 566331703239 s (runMember x s).1 := by
  unfold runMember
  split
  · rename_i f e
    exact (runCmd_keeps e).mono rfl
  · exact Keeps.refl _ _

theorem applyMembers_keeps (ms) (s) : Keeps 566331703239 s (applyMembers ms s).1 := by
  unfold applyMembers
  refine Keeps.foldl1 ?_ ?_
  · intro t2 x3
    refine Keeps.ite1 ?_ ?_
    · exact Keeps.refl _ _
    · extract_lets v7
      have hv7 : Keeps 566331703239 (t2.1) v7.1 := by
        unfold v7
        refine Keeps.after (runMember_keeps _ _) rfl ?_
        exact Keeps.refl _ _
      clear_value v7
      refine Keeps.ite1 ?_ ?_
      · refine Keeps.mk1 ?_
        assumption
      · refine Keeps.mk1 ?_
        exact Keeps.refl _ _
  · refine Keeps.mk1 ?_
    exact Keeps.refl _ _

theorem txnFailure_keeps (id) (f) (s) : Keeps 128 s (txnFailure id f s).1 := by
  unfold txnFailure
  refine Keeps.mk1 ?_
  refine Keeps.after (State.closeTxn_keeps _ _) rfl ?_
  exact Keeps.refl _ _

theorem runCellTxnCommit_keeps (h) (a) (s) : Keeps 566331703239 s (runCellTxnCommit h a s).1 := by
  unfold runCellTxnCommit
  extract_lets v2 v3 v4
  clear_value v2 v3
  have hv4 : Keeps 566331703239 (s) v4.1 := by
    unfold v4
    refine Keeps.after (applyMembers_keeps _ _) rfl ?_
    exact Keeps.refl _ _
  clear_value v4
  refine tested_keeps ?_ ?_
  · exact Keeps.refl _ _
  · split
    · rename_i z10 z11 z12
      refine Keeps.after (txnFailure_keeps _ _ _) rfl ?_
      exact Keeps.refl _ _
    · rename_i z15 z16
      split
      · rename_i z18 z19 z20
        refine Keeps.after (txnFailure_keeps _ _ _) rfl ?_
        exact Keeps.refl _ _
      · rename_i z23 z24
        refine Keeps.after (okReply_keeps _) rfl ?_
        refine Keeps.after (State.closeTxn_keeps _ _) rfl ?_
        assumption

theorem runHost_keeps {code : Nat} {f : Hdr → List Byte → State → State × Reply} {h : Hdr} {a : List Byte} {s : State}
    (e : runHost code = some f) : Keeps 566331703239 s (f h a s).1 := by
  unfold runHost at e
  split at e
  · cases e
    exact (runCellTxnCommit_keeps _ _ _).mono rfl
  · exact (runCmd_keeps e).mono rfl

theorem State.swapCmd_keeps (s) (c) (d) : Keeps 128 s (State.swapCmd s c d) := by
  unfold State.swapCmd
  refine Keeps.host_ (u := s) ?_ rfl
  exact Keeps.refl _ _

theorem dropSilent_keeps (s) : Keeps 128 s (dropSilent s) := by
  unfold dropSilent
  refine Keeps.host_ (u := s) ?_ rfl
  exact Keeps.refl _ _

theorem countRoll_keeps (p) (s) : Keeps 130 s (countRoll p s) := by
  unfold countRoll
  extract_lets v2 v3 v4 v5
  clear_value v2 v5
  have hv3 : Keeps 130 (s) v3 := by
    unfold v3
    refine Keeps.ite ?_ ?_
    · refine Keeps.after (State.setPort_keeps _ _ _) rfl ?_
      exact Keeps.refl _ _
    · exact Keeps.refl _ _
  clear_value v3
  refine Keeps.cell_ (u := v3) ?_ rfl (.inl rfl) (.inl rfl) (.inl rfl) (.inl rfl)
  assumption

theorem finishAcceptance_keeps (c) (s) : Keeps 130 s (finishAcceptance c s) := by
  unfold finishAcceptance
  extract_lets v2 v3 v4 v5 v6 v7 v8
  clear_value v2 v3 v4 v5
  have hv6 : Keeps 130 (s) v6 := by
    unfold v6
    refine Keeps.ite ?_ ?_
    · refine Keeps.after (countRoll_keeps _ _) rfl ?_
      exact Keeps.refl _ _
    · exact Keeps.refl _ _
  clear_value v6
  have hv8 : Keeps 130 (s) v8 := by
    unfold v8
    refine Keeps.ite ?_ ?_
    · refine Keeps.host_ (u := v6) ?_ rfl
      assumption
    · assumption
  clear_value v8
  refine Keeps.ite ?_ ?_
  · refine Keeps.ite ?_ ?_
    · refine Keeps.after (State.swapCmd_keeps _ _ _) rfl ?_
      exact Keeps.refl _ _
    · refine Keeps.after (addMember_keeps _ _ _ _) rfl ?_
      refine Keeps.after (State.swapCmd_keeps _ _ _) rfl ?_
      exact Keeps.refl _ _
  · refine Keeps.ite ?_ ?_
    · refine Keeps.after (State.swapCmd_keeps _ _ _) rfl ?_
      exact Keeps.refl _ _
    · refine Keeps.ite ?_ ?_
      · refine Keeps.after (State.swapCmd_keeps _ _ _) rfl ?_
        assumption
      · refine Keeps.after (State.swapCmd_keeps _ _ _) rfl ?_
        assumption

theorem nameBank_keeps (p) (b) (s) : Keeps 128 s (nameBank p b s) := by
  unfold nameBank
  extract_lets v2
  clear_value v2
  refine Keeps.ite ?_ ?_
  · refine Keeps.after (State.setPort_keeps _ _ _) rfl ?_
    exact Keeps.refl _ _
  · exact Keeps.refl _ _

theorem sendBlock_keeps (c) (s) : Keeps 25165952 s (sendBlock c s) := by
  unfold sendBlock
  extract_lets v2 v3 v4
  clear_value v2
  have hv3 : Keeps 25165952 (s) v3 := by
    unfold v3
    refine Keeps.after (startBulk_keeps _ _ _ _) rfl ?_
    exact Keeps.refl _ _
  clear_value v3
  refine Keeps.after (State.swapCmd_keeps _ _ _) rfl ?_
  refine Keeps.pair_ (u := v3) ?_ rfl
  assumption

theorem acceptCmd_keeps (c) (s) : Keeps 25690818 s (acceptCmd c s) := by
  unfold acceptCmd
  split
  rename_i z2 z3 z4 z5
  extract_lets v7 v8 v9 v10 v11 v12 v13 v14
  clear_value v7 v8 v11 v13
  have hv9 : Keeps 25690818 (s) v9 := by
    unfold v9
    refine Keeps.after (nameBank_keeps _ _ _) rfl ?_
    exact Keeps.refl _ _
  clear_value v9
  have hv10 : Keeps 25690818 (s) v10 := by
    unfold v10
    split
    · rename_i z18 z19 z20
      refine Keeps.ite ?_ ?_
      · refine Keeps.after (State.uncorrectable_keeps _ _) rfl ?_
        assumption
      · assumption
    · rename_i z25 z26
      assumption
  clear_value v10
  have hv12 : Keeps 25690818 (s) v12 := by
    unfold v12
    split
    · rename_i z29 z30
      refine Keeps.after (nameBank_keeps _ _ _) rfl ?_
      assumption
    · rename_i z33
      assumption
  clear_value v12
  have hv14 : Keeps 25690818 (s) v14 := by
    unfold v14
    refine Keeps.after (State.swapCmd_keeps _ _ _) rfl ?_
    assumption
  clear_value v14
  split
  · rename_i z38 z39 z40 z41 z42
    refine Keeps.after (State.swapCmd_keeps _ _ _) rfl ?_
    assumption
  · rename_i z45 z46
    split
    · rename_i z48 z49 z50 z51 z52
      refine Keeps.after (State.swapCmd_keeps _ _ _) rfl ?_
      assumption
    · rename_i z55 z56
      split
      · rename_i z58 z59 z60
        extract_lets v62 v63
        clear_value v63
        have hv62 : Keeps 25690818 (s) v62 := by
          unfold v62
          refine Keeps.ite ?_ ?_
          · refine Keeps.after (State.closeTxn_keeps _ _) rfl ?_
            assumption
          · assumption
        clear_value v62
        refine Keeps.after (State.swapCmd_keeps _ _ _) rfl ?_
        assumption
      · rename_i z70 z71
        refine Keeps.ite ?_ ?_
        · refine Keeps.after (sendBlock_keeps _ _) rfl ?_
          assumption
        · refine Keeps.after (finishAcceptance_keeps _ _) rfl ?_
          assumption

theorem acceptNext_keeps (s) : Keeps 25690818 s (acceptNext s) := by
  unfold acceptNext
  split
  · rename_i z2 z3 z4
    refine Keeps.ite ?_ ?_
    · refine Keeps.after (acceptCmd_keeps _ _) rfl ?_
      exact Keeps.refl _ _
    · exact Keeps.refl _ _
  · rename_i z9 z10
    exact Keeps.refl _ _

theorem shadowAck_keeps (xfer) (s) : Keeps 16777346 s (shadowAck xfer s) := by
  unfold shadowAck
  split
  · rename_i z2 z3
    exact Keeps.refl _ _
  · rename_i z5 z6 z7
    extract_lets v9 v10 v11
    clear_value v11
    have hv10 : Keeps 16777346 (s) v10 := by
      unfold v10
      refine Keeps.pair_ (u := s) ?_ rfl
      exact Keeps.refl _ _
    clear_value v10
    split
    · rename_i z15 z16
      assumption
    · rename_i z18 z19 z20
      extract_lets v22 v23
      have hv22 : Keeps 16777346 (s) v22 := by
        unfold v22
        refine Keeps.after (finishAcceptance_keeps _ _) rfl ?_
        assumption
      clear_value v22
      split
      · rename_i z27 z28 z29
        refine Keeps.pair_ (u := v22) ?_ rfl
        assumption
      · rename_i z32 z33
        assumption

theorem releaseWaiters_keeps (s) : Keeps 130 s (releaseWaiters s) := by
  unfold releaseWaiters
  refine Keeps.ite ?_ ?_
  · exact Keeps.refl _ _
  · refine Keeps.foldl ?_ ?_
    · intro t4 x5
      refine Keeps.after (finishAcceptance_keeps _ _) rfl ?_
      exact Keeps.refl _ _
    · exact Keeps.refl _ _

theorem commitOne_keeps (tick : Nat) (c : HostCmd) (s : State) : Keeps 566331703239 s (commitOne tick c s) := by
  unfold commitOne
  split
  · exact Keeps.refl _ _
  · split
    · rename_i f e
      exact Keeps.after (State.swapCmd_keeps _ _ _) rfl ((runHost_keeps e).mono rfl)
    · exact Keeps.refl _ _

theorem commitHeld_keeps (p) (tag) (s) : Keeps 566331703239 s (commitHeld p tag s) := by
  unfold commitHeld
  split
  · rename_i z2 z3
    exact Keeps.refl _ _
  · rename_i z5 z6 z7
    extract_lets v9
    clear_value v9
    refine Keeps.after (dropSilent_keeps _) rfl ?_
    refine Keeps.after (commitOne_keeps _ _ _) rfl ?_
    refine Keeps.after (State.advanceTo_keeps _ _) rfl ?_
    exact Keeps.refl _ _

theorem finishWork_keeps (c) (detail) (data) (s) : Keeps 1107311108 s (finishWork c detail data s).1 := by
  unfold finishWork
  refine Keeps.ite1 ?_ ?_
  · refine Keeps.mk1 ?_
    exact Keeps.refl _ _
  · split
    · rename_i z5 z6
      refine Keeps.after (fwFinish_keeps _ _ _) rfl ?_
      exact Keeps.refl _ _
    · rename_i z9 z10
      refine Keeps.after (storeFinish_keeps _ _ _) rfl ?_
      exact Keeps.refl _ _
    · rename_i z13 z14
      refine Keeps.after (loadFinish_keeps _ _) rfl ?_
      exact Keeps.refl _ _
    · rename_i z17 z18
      extract_lets v20
      clear_value v20
      refine Keeps.mk1 ?_
      refine Keeps.after (State.updNet_keeps _ _ _) rfl ?_
      exact Keeps.refl _ _
    · rename_i z24 z25 z26 z27 z28
      refine Keeps.mk1 ?_
      exact Keeps.refl _ _

theorem completeLong_keeps (p) (tag) (detail) (data) (s) : Keeps 1107311236 s (completeLong p tag detail data s) := by
  unfold completeLong
  split
  · rename_i z2 z3
    exact Keeps.refl _ _
  · rename_i z5 z6 z7
    refine Keeps.ite ?_ ?_
    · exact Keeps.refl _ _
    · extract_lets v11 v12
      clear_value v12
      have hv11 : Keeps 1107311236 (s) v11.1 := by
        unfold v11
        refine Keeps.after (finishWork_keeps _ _ _ _) rfl ?_
        exact Keeps.refl _ _
      clear_value v11
      refine Keeps.after (dropSilent_keeps _) rfl ?_
      refine Keeps.after (State.swapCmd_keeps _ _ _) rfl ?_
      assumption

theorem postResponse_keeps (p) (s) : Keeps 1207963520 s (postResponse p s) := by
  unfold postResponse
  split
  · rename_i z2 z3 z4 z5 z6 z7
    extract_lets v9 v10 v11 v12
    clear_value v9
    have hv10 : Keeps 1207963520 (s) v10 := by
      unfold v10
      refine Keeps.ite ?_ ?_
      · refine Keeps.after (State.poolWrite_keeps _ _ _ _ _) rfl ?_
        exact Keeps.refl _ _
      · exact Keeps.refl _ _
    clear_value v10
    have hv12 : Keeps 1207963520 (s) v12 := by
      unfold v12
      refine Keeps.ite ?_ ?_
      · refine Keeps.host_ (u := v10) ?_ rfl
        assumption
      · refine Keeps.after (State.swapCmd_keeps _ _ _) rfl ?_
        assumption
    clear_value v12
    refine Keeps.after (postCredits_keeps _ _) rfl ?_
    refine Keeps.after (mbxWrite_keeps _ _ _ _) rfl ?_
    assumption
  · rename_i z25 z26 z27
    refine Keeps.after (postCredits_keeps _ _) rfl ?_
    exact Keeps.refl _ _

end Sys2Proof.Machine
end

