-- ==== Sys2Proof/Laws/FramesLathe.lean ====
section
/-! SUPPORT. Frames, one lemma per function: registers and the instructions of the Lathe. The mask names the parts a function may change
(`Part.bit`); every other part is as before. -/

namespace Sys2Proof.Machine

theorem macRead_keeps (n) (ofs) (s) : Keeps 67239936 s (macRead n ofs s) := by
  unfold macRead
  refine Keeps.ite ?_ ?_
  · refine Keeps.after (nrwRead_keeps _ _ _) rfl ?_
    exact Keeps.refl _ _
  · refine Keeps.after (State.returns_keeps _ _) rfl ?_
    exact Keeps.refl _ _

theorem macWrite_keeps (m) (n) (ofs) (w) (s) : Keeps 131072 s (macWrite m n ofs w s) := by
  unfold macWrite
  refine Keeps.ite ?_ ?_
  · refine Keeps.after (macSnapWrite_keeps _ _ _ _) rfl ?_
    exact Keeps.refl _ _
  · refine Keeps.ite ?_ ?_
    · refine Keeps.after (State.updMac_keeps _ _ _) rfl ?_
      exact Keeps.refl _ _
    · exact Keeps.refl _ _

theorem switchRead_keeps (ofs) (s) : Keeps 67371008 s (switchRead ofs s) := by
  unfold switchRead
  extract_lets v2 v3 v4 v5
  clear_value v3 v4 v5
  refine Keeps.ite ?_ ?_
  · refine Keeps.after (State.returns_keeps _ _) rfl ?_
    exact Keeps.refl _ _
  · refine Keeps.ite ?_ ?_
    · refine Keeps.after (swAuditRead_keeps _) rfl ?_
      exact Keeps.refl _ _
    · refine Keeps.ite ?_ ?_
      · refine Keeps.after (State.returns_keeps _ _) rfl ?_
        exact Keeps.refl _ _
      · refine Keeps.ite ?_ ?_
        · split
          · rename_i z17 z18
            refine Keeps.after (State.returns_keeps _ _) rfl ?_
            exact Keeps.refl _ _
          · rename_i z21 z22
            refine Keeps.after (State.returns_keeps _ _) rfl ?_
            exact Keeps.refl _ _
          · rename_i z25 z26
            refine Keeps.after (txrCredRead_keeps _ _) rfl ?_
            exact Keeps.refl _ _
          · rename_i z29 z30
            refine Keeps.after (State.returns_keeps _ _) rfl ?_
            exact Keeps.refl _ _
          · rename_i z33 z34
            refine Keeps.after (rxrIdxRead_keeps _ _) rfl ?_
            exact Keeps.refl _ _
          · rename_i z37 z38 z39 z40 z41 z42
            refine Keeps.after (State.returns_keeps _ _) rfl ?_
            exact Keeps.refl _ _
        · refine Keeps.after (State.returns_keeps _ _) rfl ?_
          exact Keeps.refl _ _

theorem switchWrite_keeps (m) (ofs) (w) (s) : Keeps 264192 s (switchWrite m ofs w s) := by
  unfold switchWrite
  extract_lets v2
  clear_value v2
  refine Keeps.ite ?_ ?_
  · exact Keeps.refl _ _
  · split
    · rename_i z6 z7
      refine Keeps.after (State.updSwRing_keeps _ _ _) rfl ?_
      exact Keeps.refl _ _
    · rename_i z10 z11
      refine Keeps.after (txrIdxWrite_keeps _ _ _) rfl ?_
      exact Keeps.refl _ _
    · rename_i z14 z15
      refine Keeps.after (State.updSwRing_keeps _ _ _) rfl ?_
      exact Keeps.refl _ _
    · rename_i z18 z19
      refine Keeps.after (rxrIdxWrite_keeps _ _ _) rfl ?_
      exact Keeps.refl _ _
    · rename_i z22 z23 z24 z25 z26
      exact Keeps.refl _ _

theorem canRead_keeps (n) (ofs) (s) : Keeps 67174400 s (canRead n ofs s) := by
  unfold canRead
  extract_lets v2 v3
  clear_value v2 v3
  refine Keeps.ite ?_ ?_
  · refine Keeps.after (State.returns_keeps _ _) rfl ?_
    exact Keeps.refl _ _
  · refine Keeps.ite ?_ ?_
    · refine Keeps.after (State.returns_keeps _ _) rfl ?_
      exact Keeps.refl _ _
    · refine Keeps.ite ?_ ?_
      · refine Keeps.after (State.returns_keeps _ _) rfl ?_
        exact Keeps.refl _ _
      · refine Keeps.ite ?_ ?_
        · refine Keeps.after (State.returns_keeps _ _) rfl ?_
          exact Keeps.refl _ _
        · split
          · rename_i z17
            refine Keeps.after (State.returns_keeps _ _) rfl ?_
            exact Keeps.refl _ _
          · rename_i z20
            refine Keeps.after (State.returns_keeps _ _) rfl ?_
            exact Keeps.refl _ _
          · rename_i z23
            refine Keeps.after (State.returns_keeps _ _) rfl ?_
            exact Keeps.refl _ _
          · rename_i z26
            refine Keeps.after (State.returns_keeps _ _) rfl ?_
            exact Keeps.refl _ _
          · rename_i z29
            refine Keeps.after (State.returns_keeps _ _) rfl ?_
            exact Keeps.refl _ _
          · rename_i z32
            refine Keeps.after (State.returns_keeps _ _) rfl ?_
            exact Keeps.refl _ _
          · rename_i z35
            refine Keeps.after (canCnt0Read_keeps _ _) rfl ?_
            exact Keeps.refl _ _
          · rename_i z38
            refine Keeps.after (canCnt1Read_keeps _ _) rfl ?_
            exact Keeps.refl _ _
          · rename_i z41 z42 z43 z44 z45 z46 z47 z48 z49
            refine Keeps.after (State.returns_keeps _ _) rfl ?_
            exact Keeps.refl _ _

theorem canWrite_keeps (m) (n) (ofs) (w) (s) : Keeps 65536 s (canWrite m n ofs w s) := by
  unfold canWrite
  extract_lets v2
  have hv2 : ∀ a3, Keeps 65536 (s) (v2 a3) := by
    intro a3
    unfold v2
    refine Keeps.ite ?_ ?_
    · refine Keeps.after (State.updCan_keeps _ _ _) rfl ?_
      exact Keeps.refl _ _
    · exact Keeps.refl _ _
  clear_value v2
  refine Keeps.ite ?_ ?_
  · refine Keeps.after (State.updCan_keeps _ _ _) rfl ?_
    exact Keeps.refl _ _
  · refine Keeps.ite ?_ ?_
    · refine Keeps.after (State.updCan_keeps _ _ _) rfl ?_
      exact Keeps.refl _ _
    · refine Keeps.ite ?_ ?_
      · refine Keeps.after (State.updCan_keeps _ _ _) rfl ?_
        exact Keeps.refl _ _
      · split
        · rename_i z18
          refine Keeps.trans ?_ (hv2 _)
          exact Keeps.refl _ _
        · rename_i z21
          refine Keeps.trans ?_ (hv2 _)
          exact Keeps.refl _ _
        · rename_i z24
          refine Keeps.trans ?_ (hv2 _)
          exact Keeps.refl _ _
        · rename_i z27
          refine Keeps.after (State.updCan_keeps _ _ _) rfl ?_
          exact Keeps.refl _ _
        · rename_i z30
          refine Keeps.after (State.updCan_keeps _ _ _) rfl ?_
          exact Keeps.refl _ _
        · rename_i z33 z34 z35 z36 z37 z38
          exact Keeps.refl _ _

theorem chiselRead_keeps (g) (ofs) (s) : Keeps 67141632 s (chiselRead g ofs s) := by
  unfold chiselRead
  extract_lets v2 v3 v4
  clear_value v2 v3 v4
  refine Keeps.ite ?_ ?_
  · refine Keeps.after (State.returns_keeps _ _) rfl ?_
    exact Keeps.refl _ _
  · refine Keeps.ite ?_ ?_
    · split
      · rename_i z10 z11
        refine Keeps.after (State.returns_keeps _ _) rfl ?_
        exact Keeps.refl _ _
      · rename_i z14 z15
        refine Keeps.after (State.returns_keeps _ _) rfl ?_
        exact Keeps.refl _ _
      · rename_i z18 z19
        refine Keeps.after (State.returns_keeps _ _) rfl ?_
        exact Keeps.refl _ _
      · rename_i z22 z23
        refine Keeps.after (State.returns_keeps _ _) rfl ?_
        exact Keeps.refl _ _
      · rename_i z26 z27
        refine Keeps.after (doutRead_keeps _ _) rfl ?_
        exact Keeps.refl _ _
      · rename_i z30 z31
        refine Keeps.after (State.returns_keeps _ _) rfl ?_
        exact Keeps.refl _ _
      · rename_i z34 z35
        refine Keeps.after (chsCntRead_keeps _ _) rfl ?_
        exact Keeps.refl _ _
      · rename_i z38 z39 z40 z41 z42 z43 z44 z45
        refine Keeps.after (State.returns_keeps _ _) rfl ?_
        exact Keeps.refl _ _
    · refine Keeps.ite ?_ ?_
      · refine Keeps.after (State.returns_keeps _ _) rfl ?_
        exact Keeps.refl _ _
      · refine Keeps.ite ?_ ?_
        · refine Keeps.after (State.returns_keeps _ _) rfl ?_
          exact Keeps.refl _ _
        · refine Keeps.ite ?_ ?_
          · refine Keeps.after (State.returns_keeps _ _) rfl ?_
            exact Keeps.refl _ _
          · split
            · rename_i z58
              refine Keeps.after (State.returns_keeps _ _) rfl ?_
              exact Keeps.refl _ _
            · rename_i z61
              refine Keeps.after (State.returns_keeps _ _) rfl ?_
              exact Keeps.refl _ _
            · rename_i z64
              refine Keeps.after (chsGcntRead_keeps _ _) rfl ?_
              exact Keeps.refl _ _
            · rename_i z67 z68 z69 z70
              refine Keeps.after (State.returns_keeps _ _) rfl ?_
              exact Keeps.refl _ _

theorem chiselWrite_keeps (g) (ofs) (w) (s) : Keeps 32768 s (chiselWrite g ofs w s) := by
  unfold chiselWrite
  extract_lets v2 v3 v4 v5 v6
  clear_value v3 v4 v5 v6
  have hv2 : ∀ a7, Keeps 32768 (s) (v2 a7) := by
    intro a7
    unfold v2
    refine Keeps.after (State.updChisel_keeps _ _ _) rfl ?_
    exact Keeps.refl _ _
  clear_value v2
  refine Keeps.ite ?_ ?_
  · refine Keeps.trans ?_ (hv2 _)
    exact Keeps.refl _ _
  · refine Keeps.ite ?_ ?_
    · split
      · rename_i z15 z16
        refine Keeps.after (State.setEngine_keeps _ _ _) rfl ?_
        exact Keeps.refl _ _
      · rename_i z19 z20
        refine Keeps.after (State.setEngine_keeps _ _ _) rfl ?_
        exact Keeps.refl _ _
      · rename_i z23 z24
        refine Keeps.after (State.setEngine_keeps _ _ _) rfl ?_
        exact Keeps.refl _ _
      · rename_i z27 z28
        refine Keeps.after (State.setEngine_keeps _ _ _) rfl ?_
        exact Keeps.refl _ _
      · rename_i z31 z32
        refine Keeps.after (State.setEngine_keeps _ _ _) rfl ?_
        exact Keeps.refl _ _
      · rename_i z35 z36 z37 z38 z39 z40
        exact Keeps.refl _ _
    · refine Keeps.ite ?_ ?_
      · refine Keeps.trans ?_ (hv2 _)
        exact Keeps.refl _ _
      · split
        · rename_i z46
          refine Keeps.trans ?_ (hv2 _)
          exact Keeps.refl _ _
        · rename_i z49
          refine Keeps.trans ?_ (hv2 _)
          exact Keeps.refl _ _
        · rename_i z52
          refine Keeps.trans ?_ (hv2 _)
          exact Keeps.refl _ _
        · rename_i z55 z56 z57 z58
          exact Keeps.refl _ _

theorem baseRead_keeps (m) (n) (ofs) (s) : Keeps 67108865 s (baseRead m n ofs s) := by
  unfold baseRead
  extract_lets v2 v3
  clear_value v2 v3
  split
  · rename_i z5
    refine Keeps.after (tbNsRead_keeps _ _ _) rfl ?_
    exact Keeps.refl _ _
  · rename_i z8
    refine Keeps.after (State.returns_keeps _ _) rfl ?_
    exact Keeps.refl _ _
  · rename_i z11
    refine Keeps.after (State.returns_keeps _ _) rfl ?_
    exact Keeps.refl _ _
  · rename_i z14
    refine Keeps.after (State.returns_keeps _ _) rfl ?_
    exact Keeps.refl _ _
  · rename_i z17
    refine Keeps.after (State.returns_keeps _ _) rfl ?_
    exact Keeps.refl _ _
  · rename_i z20
    refine Keeps.after (State.returns_keeps _ _) rfl ?_
    exact Keeps.refl _ _
  · rename_i z23
    refine Keeps.after (State.returns_keeps _ _) rfl ?_
    exact Keeps.refl _ _
  · rename_i z26
    refine Keeps.after (State.returns_keeps _ _) rfl ?_
    exact Keeps.refl _ _
  · rename_i z29
    refine Keeps.after (tbStatusRead_keeps _ _) rfl ?_
    exact Keeps.refl _ _
  · rename_i z32
    refine Keeps.after (State.returns_keeps _ _) rfl ?_
    exact Keeps.refl _ _
  · rename_i z35
    refine Keeps.after (State.returns_keeps _ _) rfl ?_
    exact Keeps.refl _ _
  · rename_i z38
    refine Keeps.after (State.returns_keeps _ _) rfl ?_
    exact Keeps.refl _ _
  · rename_i z41
    refine Keeps.after (State.returns_keeps _ _) rfl ?_
    exact Keeps.refl _ _
  · rename_i z44
    refine Keeps.after (State.returns_keeps _ _) rfl ?_
    exact Keeps.refl _ _
  · rename_i z47
    refine Keeps.after (State.returns_keeps _ _) rfl ?_
    exact Keeps.refl _ _
  · rename_i z50 z51 z52 z53 z54 z55 z56 z57 z58 z59 z60 z61 z62 z63 z64 z65
    refine Keeps.after (State.returns_keeps _ _) rfl ?_
    exact Keeps.refl _ _

theorem baseWrite_keeps (m) (n) (ofs) (w) (s) : Keeps 1 s (baseWrite m n ofs w s) := by
  unfold baseWrite
  split
  · rename_i z2
    refine Keeps.after (tbOfsWrite_keeps _ _ _ _) rfl ?_
    exact Keeps.refl _ _
  · rename_i z5
    refine Keeps.after (convLoWrite_keeps _ _ _ _) rfl ?_
    exact Keeps.refl _ _
  · rename_i z8
    refine Keeps.after (tbConvHiWrite_keeps _ _ _ _) rfl ?_
    exact Keeps.refl _ _
  · rename_i z11 z12 z13 z14
    refine Keeps.ite ?_ ?_
    · refine Keeps.after (State.updBase_keeps _ _ _) rfl ?_
      exact Keeps.refl _ _
    · exact Keeps.refl _ _

theorem timeRead_keeps (m) (ofs) (s) : Keeps 67108865 s (timeRead m ofs s) := by
  unfold timeRead
  refine Keeps.ite ?_ ?_
  · refine Keeps.after (baseRead_keeps _ _ _ _) rfl ?_
    exact Keeps.refl _ _
  · refine Keeps.ite ?_ ?_
    · extract_lets v6
      clear_value v6
      split
      · rename_i z8 z9
        refine Keeps.after (State.returns_keeps _ _) rfl ?_
        exact Keeps.refl _ _
      · rename_i z12 z13
        refine Keeps.after (State.returns_keeps _ _) rfl ?_
        exact Keeps.refl _ _
      · rename_i z16 z17
        refine Keeps.after (State.returns_keeps _ _) rfl ?_
        exact Keeps.refl _ _
      · rename_i z20 z21 z22 z23
        refine Keeps.after (cmpStatusRead_keeps _ _) rfl ?_
        exact Keeps.refl _ _
    · refine Keeps.ite ?_ ?_
      · extract_lets v28 v29
        clear_value v28 v29
        split
        · rename_i z31 z32
          refine Keeps.after (State.returns_keeps _ _) rfl ?_
          exact Keeps.refl _ _
        · rename_i z35 z36
          refine Keeps.after (State.returns_keeps _ _) rfl ?_
          exact Keeps.refl _ _
        · rename_i z39 z40
          refine Keeps.after (capHiRead_keeps _ _) rfl ?_
          exact Keeps.refl _ _
        · rename_i z43 z44 z45 z46
          refine Keeps.after (capStatusRead_keeps _ _) rfl ?_
          exact Keeps.refl _ _
      · refine Keeps.ite ?_ ?_
        · extract_lets v51
          clear_value v51
          split
          · rename_i z53 z54
            refine Keeps.after (tsInsCfgRead_keeps _ _) rfl ?_
            exact Keeps.refl _ _
          · rename_i z57 z58
            refine Keeps.after (State.returns_keeps _ _) rfl ?_
            exact Keeps.refl _ _
          · rename_i z61 z62
            refine Keeps.after (State.returns_keeps _ _) rfl ?_
            exact Keeps.refl _ _
          · rename_i z65 z66 z67 z68
            refine Keeps.after (State.returns_keeps _ _) rfl ?_
            exact Keeps.refl _ _
        · refine Keeps.after (State.returns_keeps _ _) rfl ?_
          exact Keeps.refl _ _

theorem cmpWrite_keeps (m) (u) (ofs) (w) (s) : Keeps 1 s (cmpWrite m u ofs w s) := by
  unfold cmpWrite
  refine Keeps.ite ?_ ?_
  · exact Keeps.refl _ _
  · split
    · rename_i z4
      refine Keeps.after (State.updCmp_keeps _ _ _) rfl ?_
      exact Keeps.refl _ _
    · rename_i z7
      refine Keeps.after (cmpTargetWrite_keeps _ _ _ _) rfl ?_
      exact Keeps.refl _ _
    · rename_i z10
      refine Keeps.after (State.updCmp_keeps _ _ _) rfl ?_
      exact Keeps.refl _ _
    · rename_i z13 z14 z15 z16
      refine Keeps.after (State.updCmp_keeps _ _ _) rfl ?_
      exact Keeps.refl _ _

theorem timeWrite_keeps (m) (ofs) (w) (s) : Keeps 1 s (timeWrite m ofs w s) := by
  unfold timeWrite
  refine Keeps.ite ?_ ?_
  · refine Keeps.after (baseWrite_keeps _ _ _ _ _) rfl ?_
    exact Keeps.refl _ _
  · refine Keeps.ite ?_ ?_
    · refine Keeps.after (cmpWrite_keeps _ _ _ _ _) rfl ?_
      exact Keeps.refl _ _
    · refine Keeps.ite ?_ ?_
      · refine Keeps.after (State.updCap_keeps _ _ _) rfl ?_
        exact Keeps.refl _ _
      · refine Keeps.ite ?_ ?_
        · refine Keeps.after (State.updTsIns_keeps _ _ _) rfl ?_
          exact Keeps.refl _ _
        · exact Keeps.refl _ _

theorem unitWrite_keeps (m) (n) (ofs) (w) (s) : Keeps 1024 s (unitWrite m n ofs w s) := by
  unfold unitWrite
  refine Keeps.ite ?_ ?_
  · refine Keeps.after (chkWrite_keeps _ _ _ _) rfl ?_
    exact Keeps.refl _ _
  · exact Keeps.refl _ _

theorem chanRead_keeps (m) (ch) (f) (s) : Keeps 67109248 s (chanRead m ch f s) := by
  unfold chanRead
  extract_lets v2
  clear_value v2
  refine Keeps.ite ?_ ?_
  · refine Keeps.after (State.returns_keeps _ _) rfl ?_
    exact Keeps.refl _ _
  · refine Keeps.after (State.returns_keeps _ _) rfl ?_
    refine Keeps.after (State.violation_keeps _ _ _) rfl ?_
    exact Keeps.refl _ _

theorem mbxMapRead_keeps (m) (ofs) (s) : Keeps 201851840 s (mbxMapRead m ofs s) := by
  unfold mbxMapRead
  refine Keeps.ite ?_ ?_
  · split
    · rename_i z3 z4
      refine Keeps.after (dataRead_keeps _ _ _) rfl ?_
      exact Keeps.refl _ _
    · rename_i z7 z8
      refine Keeps.after (chanRead_keeps _ _ _ _) rfl ?_
      exact Keeps.refl _ _
    · rename_i z11 z12
      refine Keeps.after (mbxEvcntRead_keeps _ _ _) rfl ?_
      exact Keeps.refl _ _
    · rename_i z15 z16 z17 z18
      refine Keeps.after (chanRead_keeps _ _ _ _) rfl ?_
      exact Keeps.refl _ _
  · refine Keeps.ite ?_ ?_
    · refine Keeps.after (lockRead_keeps _ _ _) rfl ?_
      exact Keeps.refl _ _
    · refine Keeps.ite ?_ ?_
      · refine Keeps.after (State.returns_keeps _ _) rfl ?_
        exact Keeps.refl _ _
      · refine Keeps.ite ?_ ?_
        · refine Keeps.after (State.returns_keeps _ _) rfl ?_
          exact Keeps.refl _ _
        · refine Keeps.ite ?_ ?_
          · refine Keeps.after (dbEvcntRead_keeps _ _ _) rfl ?_
            exact Keeps.refl _ _
          · refine Keeps.after (State.returns_keeps _ _) rfl ?_
            exact Keeps.refl _ _

theorem chanWrite_keeps (m) (ch) (ofs) (w) (s) : Keeps 384 s (chanWrite m ch ofs w s) := by
  unfold chanWrite
  extract_lets v2
  clear_value v2
  refine Keeps.ite ?_ ?_
  · refine Keeps.after (mbxCtrlWrite_keeps _ _ _ _) rfl ?_
    exact Keeps.refl _ _
  · refine Keeps.ite ?_ ?_
    · exact Keeps.refl _ _
    · refine Keeps.after (State.violation_keeps _ _ _) rfl ?_
      exact Keeps.refl _ _

theorem mbxMapWrite_keeps (m) (ofs) (w) (s) : Keeps 134742976 s (mbxMapWrite m ofs w s) := by
  unfold mbxMapWrite
  refine Keeps.ite ?_ ?_
  · split
    · rename_i z3 z4
      refine Keeps.after (mbxWrite_keeps _ _ _ _) rfl ?_
      exact Keeps.refl _ _
    · rename_i z7 z8
      refine Keeps.after (mbxStatusWrite_keeps _ _ _ _) rfl ?_
      exact Keeps.refl _ _
    · rename_i z11 z12 z13
      refine Keeps.after (chanWrite_keeps _ _ _ _ _) rfl ?_
      exact Keeps.refl _ _
  · refine Keeps.ite ?_ ?_
    · refine Keeps.after (lockWrite_keeps _ _ _) rfl ?_
      exact Keeps.refl _ _
    · refine Keeps.ite ?_ ?_
      · refine Keeps.after (dbPendWrite_keeps _ _ _) rfl ?_
        exact Keeps.refl _ _
      · refine Keeps.ite ?_ ?_
        · refine Keeps.after (dbEnableWrite_keeps _ _ _) rfl ?_
          exact Keeps.refl _ _
        · refine Keeps.ite ?_ ?_
          · refine Keeps.after (dbRingWrite_keeps _ _ _) rfl ?_
            exact Keeps.refl _ _
          · exact Keeps.refl _ _

theorem mbxViewRead_keeps (m) (ofs) (s) : Keeps 201851840 s (mbxViewRead m ofs s) := by
  unfold mbxViewRead
  refine Keeps.ite ?_ ?_
  · refine Keeps.after (mbxMapRead_keeps _ _ _) rfl ?_
    exact Keeps.refl _ _
  · refine Keeps.ite ?_ ?_
    · refine Keeps.after (State.returns_keeps _ _) rfl ?_
      exact Keeps.refl _ _
    · refine Keeps.ite ?_ ?_
      · refine Keeps.after (State.returns_keeps _ _) rfl ?_
        exact Keeps.refl _ _
      · refine Keeps.after (State.returns_keeps _ _) rfl ?_
        exact Keeps.refl _ _

theorem mbxViewWrite_keeps (m) (ofs) (w) (s) : Keeps 275012649920 s (mbxViewWrite m ofs w s) := by
  unfold mbxViewWrite
  refine Keeps.ite ?_ ?_
  · refine Keeps.after (mbxMapWrite_keeps _ _ _ _) rfl ?_
    exact Keeps.refl _ _
  · refine Keeps.ite ?_ ?_
    · refine Keeps.after (mbxBindWrite_keeps _ _ _ _) rfl ?_
      exact Keeps.refl _ _
    · refine Keeps.ite ?_ ?_
      · refine Keeps.after (mbxBindLock_keeps _ _ _) rfl ?_
        exact Keeps.refl _ _
      · exact Keeps.refl _ _

theorem poolRegRead_keeps (ofs) (s) : Keeps 67109376 s (poolRegRead ofs s) := by
  unfold poolRegRead
  refine Keeps.ite ?_ ?_
  · refine Keeps.after (State.returns_keeps _ _) rfl ?_
    exact Keeps.refl _ _
  · refine Keeps.ite ?_ ?_
    · refine Keeps.after (poolEccRead_keeps _ _) rfl ?_
      exact Keeps.refl _ _
    · refine Keeps.ite ?_ ?_
      · refine Keeps.after (State.returns_keeps _ _) rfl ?_
        exact Keeps.refl _ _
      · refine Keeps.after (State.returns_keeps _ _) rfl ?_
        exact Keeps.refl _ _

theorem fabricRead_keeps (ofs) (s) : Keeps 335544320 s (fabricRead ofs s) := by
  unfold fabricRead
  extract_lets v2 v3 v4 v5 v6
  clear_value v4 v5 v6
  have hv3 : Keeps 335544320 (s) v3.2 := by
    unfold v3
    refine Keeps.after (State.freeBelow_keeps _ _) rfl ?_
    exact Keeps.refl _ _
  clear_value v3
  refine Keeps.ite ?_ ?_
  · refine Keeps.after (State.returns_keeps _ _) rfl ?_
    exact Keeps.refl _ _
  · refine Keeps.ite ?_ ?_
    · refine Keeps.after (State.returns_keeps _ _) rfl ?_
      exact Keeps.refl _ _
    · refine Keeps.ite ?_ ?_
      · refine Keeps.after (State.returns_keeps _ _) rfl ?_
        exact Keeps.refl _ _
      · refine Keeps.ite ?_ ?_
        · refine Keeps.after (State.returns_keeps _ _) rfl ?_
          exact Keeps.refl _ _
        · refine Keeps.ite ?_ ?_
          · refine Keeps.after (State.returns_keeps _ _) rfl ?_
            exact Keeps.refl _ _
          · refine Keeps.ite ?_ ?_
            · refine Keeps.after (State.returns_keeps _ _) rfl ?_
              refine Keeps.ite ?_ ?_
              · assumption
              · exact Keeps.refl _ _
            · refine Keeps.ite ?_ ?_
              · refine Keeps.after (State.returns_keeps _ _) rfl ?_
                exact Keeps.refl _ _
              · refine Keeps.ite ?_ ?_
                · refine Keeps.after (State.returns_keeps _ _) rfl ?_
                  exact Keeps.refl _ _
                · refine Keeps.ite ?_ ?_
                  · refine Keeps.after (State.returns_keeps _ _) rfl ?_
                    exact Keeps.refl _ _
                  · refine Keeps.after (State.returns_keeps _ _) rfl ?_
                    exact Keeps.refl _ _

theorem pwmRead_keeps (ofs) (s) : Keeps 67108864 s (pwmRead ofs s) := by
  unfold pwmRead
  extract_lets v2 v3 v4 v5
  clear_value v3 v4 v5
  refine Keeps.ite ?_ ?_
  · refine Keeps.after (State.returns_keeps _ _) rfl ?_
    exact Keeps.refl _ _
  · refine Keeps.ite ?_ ?_
    · refine Keeps.after (State.returns_keeps _ _) rfl ?_
      exact Keeps.refl _ _
    · refine Keeps.ite ?_ ?_
      · refine Keeps.ite ?_ ?_
        · refine Keeps.after (State.returns_keeps _ _) rfl ?_
          exact Keeps.refl _ _
        · refine Keeps.ite ?_ ?_
          · refine Keeps.after (State.returns_keeps _ _) rfl ?_
            exact Keeps.refl _ _
          · refine Keeps.after (State.returns_keeps _ _) rfl ?_
            exact Keeps.refl _ _
      · refine Keeps.after (State.returns_keeps _ _) rfl ?_
        exact Keeps.refl _ _

theorem pwmWrite_keeps (m) (ofs) (w) (s) : Keeps 1048576 s (pwmWrite m ofs w s) := by
  unfold pwmWrite
  refine Keeps.ite ?_ ?_
  · exact Keeps.refl _ _
  · refine Keeps.ite ?_ ?_
    · refine Keeps.motion_ (u := s) ?_ rfl
      exact Keeps.refl _ _
    · refine Keeps.ite ?_ ?_
      · split
        · rename_i z8 z9 z10
          refine Keeps.ite ?_ ?_
          · refine Keeps.after (State.updAxis_keeps _ _ _) rfl ?_
            exact Keeps.refl _ _
          · refine Keeps.ite ?_ ?_
            · refine Keeps.after (State.updAxis_keeps _ _ _) rfl ?_
              exact Keeps.refl _ _
            · exact Keeps.refl _ _
        · rename_i z18 z19
          exact Keeps.refl _ _
      · refine Keeps.ite ?_ ?_
        · refine Keeps.after (State.updAdc_keeps _ _ _) rfl ?_
          exact Keeps.refl _ _
        · exact Keeps.refl _ _

theorem wnwRead_keeps (ofs) (s) : Keeps 67108864 s (wnwRead ofs s) := by
  unfold wnwRead
  extract_lets v2 v3 v4
  clear_value v3 v4
  split
  · rename_i z6
    refine Keeps.after (State.returns_keeps _ _) rfl ?_
    exact Keeps.refl _ _
  · rename_i z9
    refine Keeps.after (State.returns_keeps _ _) rfl ?_
    exact Keeps.refl _ _
  · rename_i z12
    refine Keeps.after (State.returns_keeps _ _) rfl ?_
    exact Keeps.refl _ _
  · rename_i z15 z16 z17 z18
    refine Keeps.ite ?_ ?_
    · refine Keeps.after (State.returns_keeps _ _) rfl ?_
      exact Keeps.refl _ _
    · refine Keeps.ite ?_ ?_
      · refine Keeps.after (State.returns_keeps _ _) rfl ?_
        exact Keeps.refl _ _
      · refine Keeps.after (State.returns_keeps _ _) rfl ?_
        exact Keeps.refl _ _

theorem regRead_keeps (m) (addr) (s) : Keeps 470779841 s (regRead m addr s) := by
  unfold regRead
  extract_lets v2
  clear_value v2
  refine Keeps.ite ?_ ?_
  · refine Keeps.after (State.returns_keeps _ _) rfl ?_
    exact Keeps.refl _ _
  · refine Keeps.ite ?_ ?_
    · refine Keeps.after (macRead_keeps _ _ _) rfl ?_
      exact Keeps.refl _ _
    · refine Keeps.ite ?_ ?_
      · refine Keeps.after (State.returns_keeps _ _) rfl ?_
        exact Keeps.refl _ _
      · refine Keeps.ite ?_ ?_
        · refine Keeps.after (switchRead_keeps _ _) rfl ?_
          exact Keeps.refl _ _
        · refine Keeps.ite ?_ ?_
          · refine Keeps.after (canRead_keeps _ _ _) rfl ?_
            exact Keeps.refl _ _
          · refine Keeps.ite ?_ ?_
            · refine Keeps.after (State.returns_keeps _ _) rfl ?_
              exact Keeps.refl _ _
            · refine Keeps.ite ?_ ?_
              · refine Keeps.after (chiselRead_keeps _ _ _) rfl ?_
                exact Keeps.refl _ _
              · refine Keeps.ite ?_ ?_
                · refine Keeps.after (State.returns_keeps _ _) rfl ?_
                  exact Keeps.refl _ _
                · refine Keeps.ite ?_ ?_
                  · refine Keeps.after (timeRead_keeps _ _ _) rfl ?_
                    exact Keeps.refl _ _
                  · refine Keeps.ite ?_ ?_
                    · refine Keeps.ite ?_ ?_
                      · refine Keeps.after (chkCntRead_keeps _ _) rfl ?_
                        exact Keeps.refl _ _
                      · refine Keeps.after (State.returns_keeps _ _) rfl ?_
                        exact Keeps.refl _ _
                    · refine Keeps.ite ?_ ?_
                      · refine Keeps.after (State.returns_keeps _ _) rfl ?_
                        exact Keeps.refl _ _
                      · refine Keeps.ite ?_ ?_
                        · refine Keeps.after (mbxViewRead_keeps _ _ _) rfl ?_
                          exact Keeps.refl _ _
                        · refine Keeps.ite ?_ ?_
                          · refine Keeps.after (poolRegRead_keeps _ _) rfl ?_
                            exact Keeps.refl _ _
                          · refine Keeps.ite ?_ ?_
                            · refine Keeps.after (fabricRead_keeps _ _) rfl ?_
                              exact Keeps.refl _ _
                            · refine Keeps.ite ?_ ?_
                              · refine Keeps.after (pwmRead_keeps _ _) rfl ?_
                                exact Keeps.refl _ _
                              · refine Keeps.ite ?_ ?_
                                · refine Keeps.after (wnwRead_keeps _ _) rfl ?_
                                  exact Keeps.refl _ _
                                · refine Keeps.after (State.returns_keeps _ _) rfl ?_
                                  exact Keeps.refl _ _

theorem regWrite_keeps (m) (addr) (w) (s) : Keeps 275014193089 s (regWrite m addr w s) := by
  unfold regWrite
  extract_lets v2
  clear_value v2
  refine Keeps.ite ?_ ?_
  · exact Keeps.refl _ _
  · refine Keeps.ite ?_ ?_
    · refine Keeps.after (macWrite_keeps _ _ _ _ _) rfl ?_
      exact Keeps.refl _ _
    · refine Keeps.ite ?_ ?_
      · exact Keeps.refl _ _
      · refine Keeps.ite ?_ ?_
        · refine Keeps.after (switchWrite_keeps _ _ _ _) rfl ?_
          exact Keeps.refl _ _
        · refine Keeps.ite ?_ ?_
          · refine Keeps.after (canWrite_keeps _ _ _ _ _) rfl ?_
            exact Keeps.refl _ _
          · refine Keeps.ite ?_ ?_
            · exact Keeps.refl _ _
            · refine Keeps.ite ?_ ?_
              · refine Keeps.after (chiselWrite_keeps _ _ _ _) rfl ?_
                exact Keeps.refl _ _
              · refine Keeps.ite ?_ ?_
                · exact Keeps.refl _ _
                · refine Keeps.ite ?_ ?_
                  · refine Keeps.after (timeWrite_keeps _ _ _ _) rfl ?_
                    exact Keeps.refl _ _
                  · refine Keeps.ite ?_ ?_
                    · refine Keeps.after (unitWrite_keeps _ _ _ _ _) rfl ?_
                      exact Keeps.refl _ _
                    · refine Keeps.ite ?_ ?_
                      · exact Keeps.refl _ _
                      · refine Keeps.ite ?_ ?_
                        · refine Keeps.after (mbxViewWrite_keeps _ _ _ _) rfl ?_
                          exact Keeps.refl _ _
                        · refine Keeps.ite ?_ ?_
                          · refine Keeps.after (poolOwnerWrite_keeps _ _ _ _) rfl ?_
                            exact Keeps.refl _ _
                          · refine Keeps.ite ?_ ?_
                            · exact Keeps.refl _ _
                            · refine Keeps.ite ?_ ?_
                              · refine Keeps.after (pwmWrite_keeps _ _ _ _) rfl ?_
                                exact Keeps.refl _ _
                              · exact Keeps.refl _ _

theorem lthWrite_keeps (e) (v) (ofs) (w) (s) : Keeps 526400 s (lthWrite e v ofs w s) := by
  unfold lthWrite
  extract_lets v2
  have hv2 : ∀ a3, Keeps 526400 (s) (v2 a3) := by
    intro a3
    unfold v2
    refine Keeps.after (State.updLathe_keeps _ _ _) rfl ?_
    exact Keeps.refl _ _
  clear_value v2
  split
  · rename_i z7
    refine Keeps.after (postWrite_keeps _ _ _) rfl ?_
    exact Keeps.refl _ _
  · rename_i z10
    refine Keeps.trans ?_ (hv2 _)
    exact Keeps.refl _ _
  · rename_i z13
    refine Keeps.after (telemWrite_keeps _ _ _) rfl ?_
    exact Keeps.refl _ _
  · rename_i z16
    refine Keeps.trans ?_ (hv2 _)
    exact Keeps.refl _ _
  · rename_i z19
    refine Keeps.trans ?_ (hv2 _)
    exact Keeps.refl _ _
  · rename_i z22
    refine Keeps.trans ?_ (hv2 _)
    exact Keeps.refl _ _
  · rename_i z25
    refine Keeps.trans ?_ (hv2 _)
    exact Keeps.refl _ _
  · rename_i z28
    refine Keeps.trans ?_ (hv2 _)
    exact Keeps.refl _ _
  · rename_i z31
    refine Keeps.trans ?_ (hv2 _)
    exact Keeps.refl _ _
  · rename_i z34
    refine Keeps.trans ?_ (hv2 _)
    exact Keeps.refl _ _
  · rename_i z37 z38 z39 z40 z41 z42 z43 z44 z45 z46 z47
    refine Keeps.ite ?_ ?_
    · refine Keeps.trans ?_ (hv2 _)
      exact Keeps.refl _ _
    · exact Keeps.refl _ _

theorem gtcLoRead_keeps (p) (s) : Keeps 67108992 s (gtcLoRead p s) := by
  unfold gtcLoRead
  extract_lets v2 v3
  clear_value v2 v3
  refine Keeps.after (State.returns_keeps _ _) rfl ?_
  refine Keeps.after (State.setPort_keeps _ _ _) rfl ?_
  exact Keeps.refl _ _

theorem accessErrRead_keeps (p) (s) : Keeps 67108992 s (accessErrRead p s) := by
  unfold accessErrRead
  extract_lets v2
  clear_value v2
  refine Keeps.after (State.returns_keeps _ _) rfl ?_
  refine Keeps.after (State.setPort_keeps _ _ _) rfl ?_
  exact Keeps.refl _ _

theorem hostRead_keeps (p) (ofs) (s) : Keeps 201851840 s (hostRead p ofs s) := by
  unfold hostRead
  extract_lets v2
  clear_value v2
  refine Keeps.ite ?_ ?_
  · refine Keeps.after (State.returns_keeps _ _) rfl ?_
    refine Keeps.after (State.accessErr_keeps _ _) rfl ?_
    exact Keeps.refl _ _
  · refine Keeps.ite ?_ ?_
    · refine Keeps.after (mbxMapRead_keeps _ _ _) rfl ?_
      exact Keeps.refl _ _
    · split
      · rename_i z11
        refine Keeps.after (gtcLoRead_keeps _ _) rfl ?_
        exact Keeps.refl _ _
      · rename_i z14
        refine Keeps.after (State.returns_keeps _ _) rfl ?_
        exact Keeps.refl _ _
      · rename_i z17
        refine Keeps.after (State.returns_keeps _ _) rfl ?_
        exact Keeps.refl _ _
      · rename_i z20
        refine Keeps.after (State.returns_keeps _ _) rfl ?_
        exact Keeps.refl _ _
      · rename_i z23
        refine Keeps.after (State.returns_keeps _ _) rfl ?_
        exact Keeps.refl _ _
      · rename_i z26
        refine Keeps.after (State.returns_keeps _ _) rfl ?_
        exact Keeps.refl _ _
      · rename_i z29
        refine Keeps.after (State.returns_keeps _ _) rfl ?_
        exact Keeps.refl _ _
      · rename_i z32
        refine Keeps.after (State.returns_keeps _ _) rfl ?_
        exact Keeps.refl _ _
      · rename_i z35
        refine Keeps.after (State.returns_keeps _ _) rfl ?_
        exact Keeps.refl _ _
      · rename_i z38
        refine Keeps.after (accessErrRead_keeps _ _) rfl ?_
        exact Keeps.refl _ _
      · rename_i z41
        refine Keeps.after (State.returns_keeps _ _) rfl ?_
        exact Keeps.refl _ _
      · rename_i z44 z45 z46 z47 z48 z49 z50 z51 z52 z53 z54 z55
        refine Keeps.after (State.returns_keeps _ _) rfl ?_
        exact Keeps.refl _ _

theorem hostWrite_keeps (p) (ofs) (w) (s) : Keeps 134742976 s (hostWrite p ofs w s) := by
  unfold hostWrite
  refine Keeps.ite ?_ ?_
  · refine Keeps.after (State.accessErr_keeps _ _) rfl ?_
    exact Keeps.refl _ _
  · refine Keeps.ite ?_ ?_
    · refine Keeps.after (mbxMapWrite_keeps _ _ _ _) rfl ?_
      exact Keeps.refl _ _
    · exact Keeps.refl _ _

theorem registerWrite_keeps (m) (addr) (w) (s) : Keeps 276087943105 s (registerWrite m addr w s) := by
  unfold registerWrite
  refine Keeps.ite ?_ ?_
  · refine Keeps.after (hostWrite_keeps _ _ _ _) rfl ?_
    exact Keeps.refl _ _
  · refine Keeps.ite ?_ ?_
    · extract_lets v6
      clear_value v6
      refine Keeps.ite ?_ ?_
      · refine Keeps.after (lthWrite_keeps _ _ _ _ _) rfl ?_
        exact Keeps.refl _ _
      · refine Keeps.ite ?_ ?_
        · refine Keeps.after (regWrite_keeps _ _ _ _) rfl ?_
          exact Keeps.refl _ _
        · refine Keeps.after (latheFault_keeps _ _ _ _) rfl ?_
          refine Keeps.after (State.accessFault_keeps _ _) rfl ?_
          exact Keeps.refl _ _
    · refine Keeps.ite ?_ ?_
      · refine Keeps.after (regWrite_keeps _ _ _ _) rfl ?_
        exact Keeps.refl _ _
      · exact Keeps.refl _ _

theorem qspiWrite_keeps (addr) (ws) (s) : Keeps 1275965376 s (qspiWrite addr ws s) := by
  unfold qspiWrite
  refine Keeps.ite ?_ ?_
  · refine Keeps.after (State.accessErr_keeps _ _) rfl ?_
    exact Keeps.refl _ _
  · refine Keeps.ite ?_ ?_
    · refine Keeps.foldl ?_ ?_
      · intro t6 x7
        refine Keeps.after (poolAccess_keeps _ _ _ _ _) rfl ?_
        exact Keeps.refl _ _
      · exact Keeps.refl _ _
    · split
      · rename_i z12
        exact Keeps.refl _ _
      · rename_i z14 z15 z16
        refine Keeps.foldl ?_ ?_
        · intro t18 x19
          refine Keeps.after (State.accessErr_keeps _ _) rfl ?_
          exact Keeps.refl _ _
        · refine Keeps.ite ?_ ?_
          · refine Keeps.after (hostWrite_keeps _ _ _ _) rfl ?_
            exact Keeps.refl _ _
          · refine Keeps.after (State.accessErr_keeps _ _) rfl ?_
            exact Keeps.refl _ _

theorem qspiRead_keeps (addr) (n) (s) : Keeps 1275965376 s (qspiRead addr n s) := by
  unfold qspiRead
  refine Keeps.ite ?_ ?_
  · refine Keeps.after (State.returns_keeps _ _) rfl ?_
    refine Keeps.after (State.accessErr_keeps _ _) rfl ?_
    exact Keeps.refl _ _
  · refine Keeps.ite ?_ ?_
    · refine Keeps.foldl ?_ ?_
      · intro t7 x8
        refine Keeps.after (poolAccess_keeps _ _ _ _ _) rfl ?_
        exact Keeps.refl _ _
      · exact Keeps.refl _ _
    · refine Keeps.ite ?_ ?_
      · exact Keeps.refl _ _
      · refine Keeps.ite ?_ ?_
        · refine Keeps.after (State.returns_keeps _ _) rfl ?_
          refine Keeps.after (State.accessErr_keeps _ _) rfl ?_
          exact Keeps.refl _ _
        · extract_lets v19
          have hv19 : Keeps 1275965376 (s) v19 := by
            unfold v19
            refine Keeps.after (hostRead_keeps _ _ _) rfl ?_
            exact Keeps.refl _ _
          clear_value v19
          refine Keeps.foldl ?_ ?_
          · intro t23 x24
            refine Keeps.after (State.accessErr_keeps _ _) rfl ?_
            exact Keeps.refl _ _
          · assumption

theorem refuseAccess_keeps (e) (s) : Keeps 2048 s (refuseAccess e s).1 := by
  unfold refuseAccess
  refine Keeps.mk1 ?_
  refine Keeps.after (State.accessFault_keeps _ _) rfl ?_
  exact Keeps.refl _ _

theorem ctxPut_keeps (e) (i) (k) (b) (s) : Keeps 8192 s (ctxPut e i k b s) := by
  unfold ctxPut
  refine Keeps.after (State.updCtx_keeps _ _ _) rfl ?_
  exact Keeps.refl _ _

theorem ctxWrite_keeps (e) (ofs) (bs) (s) : Keeps 10240 s (ctxWrite e ofs bs s) := by
  unfold ctxWrite
  extract_lets v2
  have hv2 : Keeps 10240 (s) v2 := by
    unfold v2
    refine Keeps.foldl ?_ ?_
    · intro t4 x5
      refine Keeps.after (ctxPut_keeps _ _ _ _ _) rfl ?_
      exact Keeps.refl _ _
    · exact Keeps.refl _ _
  clear_value v2
  refine Keeps.ite ?_ ?_
  · refine Keeps.after (State.updLathe_keeps _ _ _) rfl ?_
    assumption
  · assumption

theorem halfRead_keeps (e) (half) (ofs) (n) (s) : Keeps 1074375232 s (halfRead e half ofs n s).1 := by
  unfold halfRead
  extract_lets v2
  clear_value v2
  split
  · rename_i z4 z5 z6
    refine Keeps.mk1 ?_
    refine Keeps.after (restartLathe_keeps _ _) rfl ?_
    refine Keeps.after (State.uncorrectable_keeps _ _) rfl ?_
    exact Keeps.refl _ _
  · rename_i z11 z12
    refine Keeps.mk1 ?_
    exact Keeps.refl _ _

theorem lthLoad_keeps (e) (v) (a) (n) (s) : Keeps 1544531905 s (lthLoad e v a n s).1 := by
  unfold lthLoad
  extract_lets v2 v3
  clear_value v2
  have hv3 : Keeps 1544531905 (s) v3 := by
    unfold v3
    refine Keeps.after (regRead_keeps _ _ _) rfl ?_
    exact Keeps.refl _ _
  clear_value v3
  split
  · rename_i z7 z8 z9
    refine Keeps.after (halfRead_keeps _ _ _ _ _) rfl ?_
    exact Keeps.refl _ _
  · rename_i z12 z13 z14
    refine Keeps.ite1 ?_ ?_
    · refine Keeps.after (halfRead_keeps _ _ _ _ _) rfl ?_
      exact Keeps.refl _ _
    · refine Keeps.after (refuseAccess_keeps _ _) rfl ?_
      exact Keeps.refl _ _
  · rename_i z20 z21 z22
    refine Keeps.ite1 ?_ ?_
    · refine Keeps.mk1 ?_
      exact Keeps.refl _ _
    · refine Keeps.mk1 ?_
      exact Keeps.refl _ _
  · rename_i z28 z29 z30
    refine Keeps.after (refuseAccess_keeps _ _) rfl ?_
    exact Keeps.refl _ _
  · rename_i z33 z34 z35
    refine Keeps.mk1 ?_
    exact Keeps.refl _ _
  · rename_i z38 z39
    refine Keeps.ite1 ?_ ?_
    · refine Keeps.after (refuseAccess_keeps _ _) rfl ?_
      exact Keeps.refl _ _
    · refine Keeps.ite1 ?_ ?_
      · refine Keeps.mk1 ?_
        exact Keeps.refl _ _
      · refine Keeps.mk1 ?_
        refine Keeps.rd_ (u := v3) ?_ rfl
        assumption
  · rename_i z49 z50 z51
    refine Keeps.ite1 ?_ ?_
    · refine Keeps.mk1 ?_
      exact Keeps.refl _ _
    · refine Keeps.after (refuseAccess_keeps _ _) rfl ?_
      exact Keeps.refl _ _
  · rename_i z57 z58 z59
    split
    · rename_i z61 z62 z63 z64
      refine Keeps.mk1 ?_
      refine Keeps.fst_eq z64 ?_
      refine Keeps.after (State.poolRead_keeps _ _ _ _) rfl ?_
      exact Keeps.refl _ _
    · rename_i z69 z70 z71
      refine Keeps.after (refuseAccess_keeps _ _) rfl ?_
      refine Keeps.fst_eq z71 ?_
      refine Keeps.after (State.poolRead_keeps _ _ _ _) rfl ?_
      exact Keeps.refl _ _
    · rename_i z76 z77 z78
      refine Keeps.ite1 ?_ ?_
      · refine Keeps.mk1 ?_
        refine Keeps.after (restartLathe_keeps _ _) rfl ?_
        refine Keeps.fst_eq z78 ?_
        refine Keeps.after (State.poolRead_keeps _ _ _ _) rfl ?_
        exact Keeps.refl _ _
      · refine Keeps.mk1 ?_
        refine Keeps.fst_eq z78 ?_
        refine Keeps.after (State.poolRead_keeps _ _ _ _) rfl ?_
        exact Keeps.refl _ _
  · rename_i z89 z90
    refine Keeps.after (refuseAccess_keeps _ _) rfl ?_
    exact Keeps.refl _ _

theorem halfWrite_keeps (e) (ofs) (bs) (s) : Keeps 1207963136 s (halfWrite e ofs bs s) := by
  unfold halfWrite
  extract_lets v2 v3 v4
  clear_value v2 v3
  have hv4 : Keeps 1207963136 (s) v4 := by
    unfold v4
    refine Keeps.ite ?_ ?_
    · exact Keeps.refl _ _
    · refine Keeps.after (State.accessFault_keeps _ _) rfl ?_
      exact Keeps.refl _ _
  clear_value v4
  refine Keeps.ite ?_ ?_
  · assumption
  · refine Keeps.after (chkPool_keeps _ _ _ _) rfl ?_
    refine Keeps.after (State.poolStore_keeps _ _ _) rfl ?_
    assumption

theorem lthStore_keeps (e) (v) (a) (bs) (s) : Keeps 276087943105 s (lthStore e v a bs s).1 := by
  unfold lthStore
  extract_lets v2
  clear_value v2
  split
  · rename_i z4 z5 z6
    refine Keeps.mk1 ?_
    refine Keeps.after (halfWrite_keeps _ _ _ _) rfl ?_
    exact Keeps.refl _ _
  · rename_i z10 z11 z12
    refine Keeps.after (refuseAccess_keeps _ _) rfl ?_
    exact Keeps.refl _ _
  · rename_i z15 z16 z17
    refine Keeps.ite1 ?_ ?_
    · refine Keeps.mk1 ?_
      refine Keeps.after (lthWrite_keeps _ _ _ _ _) rfl ?_
      exact Keeps.refl _ _
    · refine Keeps.mk1 ?_
      exact Keeps.refl _ _
  · rename_i z24 z25 z26
    refine Keeps.mk1 ?_
    refine Keeps.after (stageWrite_keeps _ _ _ _) rfl ?_
    exact Keeps.refl _ _
  · rename_i z30 z31 z32
    refine Keeps.after (refuseAccess_keeps _ _) rfl ?_
    exact Keeps.refl _ _
  · rename_i z35 z36
    refine Keeps.ite1 ?_ ?_
    · refine Keeps.after (refuseAccess_keeps _ _) rfl ?_
      exact Keeps.refl _ _
    · refine Keeps.ite1 ?_ ?_
      · refine Keeps.mk1 ?_
        exact Keeps.refl _ _
      · refine Keeps.mk1 ?_
        refine Keeps.after (regWrite_keeps _ _ _ _) rfl ?_
        exact Keeps.refl _ _
  · rename_i z46 z47 z48
    refine Keeps.ite1 ?_ ?_
    · refine Keeps.mk1 ?_
      refine Keeps.after (ctxWrite_keeps _ _ _ _) rfl ?_
      exact Keeps.refl _ _
    · refine Keeps.after (refuseAccess_keeps _ _) rfl ?_
      exact Keeps.refl _ _
  · rename_i z55 z56 z57
    split
    · rename_i z59 z60 z61 z62
      refine Keeps.mk1 ?_
      refine Keeps.fst_eq z62 ?_
      refine Keeps.after (State.poolWrite_keeps _ _ _ _ _) rfl ?_
      exact Keeps.refl _ _
    · rename_i z67 z68 z69 z70 z71
      refine Keeps.after (refuseAccess_keeps _ _) rfl ?_
      refine Keeps.fst_eq z71 ?_
      refine Keeps.after (State.poolWrite_keeps _ _ _ _ _) rfl ?_
      exact Keeps.refl _ _
  · rename_i z76 z77
    refine Keeps.after (refuseAccess_keeps _ _) rfl ?_
    exact Keeps.refl _ _

theorem lthExchange_keeps (e) (v) (a) (n) (f) (s) : Keeps 276423487425 s (lthExchange e v a n f s).1 := by
  unfold lthExchange
  extract_lets v2
  clear_value v2
  split
  · rename_i z4 z5
    refine Keeps.after (refuseAccess_keeps _ _) rfl ?_
    exact Keeps.refl _ _
  · rename_i z8 z9
    refine Keeps.after (refuseAccess_keeps _ _) rfl ?_
    exact Keeps.refl _ _
  · rename_i z12 z13 z14
    extract_lets v16
    clear_value v16
    refine Keeps.ite1 ?_ ?_
    · refine Keeps.mk1 ?_
      exact Keeps.refl _ _
    · split
      · rename_i z21 z22 z23 z24
        split
        · rename_i z26 z27
          refine Keeps.mk1 ?_
          refine Keeps.fst_eq z24 ?_
          refine Keeps.after (lthLoad_keeps _ _ _ _ _) rfl ?_
          exact Keeps.refl _ _
        · rename_i z32 z33 z34
          split
          · rename_i z36 z37 z38 z39
            refine Keeps.mk1 ?_
            refine Keeps.fst_eq z39 ?_
            refine Keeps.after (lthStore_keeps _ _ _ _ _) rfl ?_
            refine Keeps.fst_eq z24 ?_
            refine Keeps.after (lthLoad_keeps _ _ _ _ _) rfl ?_
            exact Keeps.refl _ _
          · rename_i z46 z47 z48 z49 z50
            refine Keeps.mk1 ?_
            refine Keeps.fst_eq z50 ?_
            refine Keeps.after (lthStore_keeps _ _ _ _ _) rfl ?_
            refine Keeps.fst_eq z24 ?_
            refine Keeps.after (lthLoad_keeps _ _ _ _ _) rfl ?_
            exact Keeps.refl _ _
      · rename_i z57 z58
        refine Keeps.after (lthLoad_keeps _ _ _ _ _) rfl ?_
        exact Keeps.refl _ _

theorem State.updLevel_keeps (s) (e) (v) (f) : Keeps 2048 s (State.updLevel s e v f) := by
  unfold State.updLevel
  refine Keeps.after (State.updLathe_keeps _ _ _) rfl ?_
  exact Keeps.refl _ _

theorem LthEnv.upd_keeps (k) (s) (f) : Keeps 2048 s (LthEnv.upd k s f) := by
  unfold LthEnv.upd
  refine Keeps.after (State.updLevel_keeps _ _ _ _) rfl ?_
  exact Keeps.refl _ _

theorem decodeEnd_keeps (e) (v) (cause) (addr) (next) (s) : Keeps 1074375168 s (decodeEnd e v cause addr next s) := by
  unfold decodeEnd
  refine Keeps.after (State.exception_keeps _ _ _ _ _ _ _ _ _) rfl ?_
  exact Keeps.refl _ _

theorem finishInstr_keeps (k) (x) : Keeps 1074375168 x.1 (finishInstr k x) := by
  unfold finishInstr
  split
  · rename_i z2 z3 z4
    refine Keeps.after (LthEnv.upd_keeps _ _ _) rfl ?_
    exact Keeps.refl _ _
  · rename_i z7 z8 z9 z10 z11 z12
    refine Keeps.after (State.exception_keeps _ _ _ _ _ _ _ _ _) rfl ?_
    exact Keeps.refl _ _
  · rename_i z15 z16
    exact Keeps.refl _ _

theorem runInstr_keeps {m e v : Nat} {p : List Byte} {f : LthForm} {body : LthEnv → State → State × LthEnd} {s : State} (hm : 1074375168 ||| m = m)
    (hb : ∀ k t, Keeps m t (body k t).1) : Keeps m s (runInstr e v p f body s) := by
  unfold runInstr
  extract_lets ip avail fetch total
  have hf : Keeps m s fetch := Keeps.after (decodeEnd_keeps _ _ _ _ _ _) (mask_trans rfl hm) (Keeps.refl _ _)
  clear_value fetch
  split
  · split
    · exact Keeps.after (decodeEnd_keeps _ _ _ _ _ _) (mask_trans rfl hm) (Keeps.refl _ _)
    · exact hf
  · split
    · exact hf
    · exact Keeps.after (finishInstr_keeps _ _) (mask_trans rfl hm)
        ((Keeps.after (LthEnv.upd_keeps _ _ _) (mask_trans rfl hm) (Keeps.refl _ _)).trans (hb _ _))

theorem lthRow_keeps {m e : Nat} {p : List Byte} {f : LthForm} {body : LthEnv → State → State × LthEnd} {s : State} (hm : 1074375168 ||| m = m)
    (hb : ∀ k t, Keeps m t (body k t).1) : Res m s (lthRow e p f body s) := by
  unfold lthRow
  refine Res.onUnit (Keeps.ite (Keeps.refl _ _) ?_)
  split
  · exact runInstr_keeps (mask_trans rfl hm) hb
  · exact Keeps.refl _ _

theorem aluOn_keeps (w) (d) (b) (f) (k) (s) : Keeps 2048 s (aluOn w d b f k s).1 := by
  unfold aluOn
  extract_lets v2 v3 v4
  clear_value v2 v3 v4
  refine Keeps.mk1 ?_
  refine Keeps.after (LthEnv.upd_keeps _ _ _) rfl ?_
  exact Keeps.refl _ _

theorem lthRR_keeps (e) (p) (m) (w) (f) (s) : Res 1074375168 s (lthRR e p m w f s) := by
  unfold lthRR
  refine lthRow_keeps rfl (fun _ _ => ?_)
  rename_i z2 z3
  refine Keeps.after (aluOn_keeps _ _ _ _ _ _) rfl ?_
  exact Keeps.refl _ _

theorem lthRI_keeps (e) (p) (m) (i) (w) (f) (s) : Res 1074375168 s (lthRI e p m i w f s) := by
  unfold lthRI
  refine lthRow_keeps rfl (fun _ _ => ?_)
  rename_i z2 z3
  refine Keeps.after (aluOn_keeps _ _ _ _ _ _) rfl ?_
  exact Keeps.refl _ _

theorem lthShiftR_keeps (e) (p) (m) (f) (s) : Res 1074375168 s (lthShiftR e p m f s) := by
  unfold lthShiftR
  refine lthRow_keeps rfl (fun _ _ => ?_)
  rename_i z2 z3
  refine Keeps.after (aluOn_keeps _ _ _ _ _ _) rfl ?_
  exact Keeps.refl _ _

theorem lthShiftI_keeps (e) (p) (m) (b) (f) (s) : Res 1074375168 s (lthShiftI e p m b f s) := by
  unfold lthShiftI
  refine lthRow_keeps rfl (fun _ _ => ?_)
  rename_i z2 z3
  refine Keeps.after (aluOn_keeps _ _ _ _ _ _) rfl ?_
  exact Keeps.refl _ _

theorem lthUnary_keeps (e) (p) (m) (f) (s) : Res 1074375168 s (lthUnary e p m f s) := by
  unfold lthUnary
  refine lthRow_keeps rfl (fun _ _ => ?_)
  rename_i z2 z3
  refine Keeps.after (aluOn_keeps _ _ _ _ _ _) rfl ?_
  exact Keeps.refl _ _

theorem lthBit_keeps (e) (p) (m) (b) (f) (s) : Res 1074375168 s (lthBit e p m b f s) := by
  unfold lthBit
  refine lthRow_keeps rfl (fun _ _ => ?_)
  rename_i z2 z3
  extract_lets v5 v6 v7
  clear_value v5 v6 v7
  refine Keeps.mk1 ?_
  refine Keeps.after (LthEnv.upd_keeps _ _ _) rfl ?_
  exact Keeps.refl _ _

theorem memFail_keeps (blk) (a) (x) : Keeps 0 x.1 (memFail blk a x).1 := by
  unfold memFail
  split
  · rename_i z2 z3 z4
    refine Keeps.mk1 ?_
    exact Keeps.refl _ _
  · rename_i z7 z8
    refine Keeps.mk1 ?_
    exact Keeps.refl _ _

theorem stepBase_keeps (k) (base) (a) (s) : Keeps 2048 s (stepBase k base a s) := by
  unfold stepBase
  refine Keeps.ite ?_ ?_
  · refine Keeps.after (LthEnv.upd_keeps _ _ _) rfl ?_
    exact Keeps.refl _ _
  · exact Keeps.refl _ _

theorem lthLoadRow_keeps (e) (p) (m) (a) (disp) (f) (s) : Res 1544531905 s (lthLoadRow e p m a disp f s) := by
  unfold lthLoadRow
  refine lthRow_keeps rfl (fun _ _ => ?_)
  rename_i z2 z3
  extract_lets v5
  clear_value v5
  split
  · rename_i z7 z8 z9 z10
    refine Keeps.mk1 ?_
    refine Keeps.after (stepBase_keeps _ _ _ _) rfl ?_
    refine Keeps.fst_eq z10 ?_
    refine Keeps.after (lthLoad_keeps _ _ _ _ _) rfl ?_
    exact Keeps.refl _ _
  · rename_i z16 z17
    refine Keeps.after (memFail_keeps _ _ _) rfl ?_
    refine Keeps.after (lthLoad_keeps _ _ _ _ _) rfl ?_
    exact Keeps.refl _ _

theorem storeAt_keeps (m) (a) (disp) (v) (k) (s) : Keeps 276087943105 s (storeAt m a disp v k s).1 := by
  unfold storeAt
  extract_lets v2
  clear_value v2
  split
  · rename_i z4 z5 z6 z7
    refine Keeps.mk1 ?_
    refine Keeps.after (stepBase_keeps _ _ _ _) rfl ?_
    refine Keeps.fst_eq z7 ?_
    refine Keeps.after (lthStore_keeps _ _ _ _ _) rfl ?_
    exact Keeps.refl _ _
  · rename_i z13 z14
    refine Keeps.after (memFail_keeps _ _ _) rfl ?_
    refine Keeps.after (lthStore_keeps _ _ _ _ _) rfl ?_
    exact Keeps.refl _ _

theorem pushWords_keeps (k) (ws) (s) : Keeps 1207963136 s (pushWords k ws s).1 := by
  unfold pushWords
  extract_lets v2 v3
  clear_value v2
  have hv3 : Keeps 1207963136 (s) v3 := by
    unfold v3
    refine Keeps.foldl ?_ ?_
    · intro t5 x6
      refine Keeps.after (halfWrite_keeps _ _ _ _) rfl ?_
      exact Keeps.refl _ _
    · exact Keeps.refl _ _
  clear_value v3
  split
  · rename_i z11 z12 z13 z14
    refine Keeps.mk1 ?_
    exact Keeps.refl _ _
  · rename_i z17 z18
    refine Keeps.mk1 ?_
    refine Keeps.after (LthEnv.upd_keeps _ _ _) rfl ?_
    assumption

theorem readStack_keeps (k : LthEnv) (n : Nat) (s : State) : Keeps 1074375232 s (readStack k n s).1 := by
  unfold readStack
  extract_lets g
  clear_value g
  split
  · exact Keeps.refl _ _
  · refine Keeps.foldl1 (fun p x => ?_) (Keeps.refl _ _)
    generalize stackOfs x = o
    obtain ⟨a, b⟩ := p
    cases b
    · have h := halfRead_keeps k.e (a.lathe k.e).live o 4 a
      revert h
      generalize halfRead k.e (a.lathe k.e).live o 4 a = q
      obtain ⟨t, r⟩ := q
      intro h
      cases r <;> exact h.mono rfl
    · exact Keeps.refl _ _

theorem jumpTo_keeps (k) (a) (s) : Keeps 2048 s (jumpTo k a s) := by
  unfold jumpTo
  refine Keeps.after (LthEnv.upd_keeps _ _ _) rfl ?_
  exact Keeps.refl _ _

theorem callTo_keeps (target) (mask) (k) (s) : Keeps 1207963136 s (callTo target mask k s).1 := by
  unfold callTo
  extract_lets v2
  clear_value v2
  split
  · rename_i z4 z5 z6 z7
    refine Keeps.mk1 ?_
    refine Keeps.after (jumpTo_keeps _ _ _) rfl ?_
    refine Keeps.fst_eq z7 ?_
    refine Keeps.after (pushWords_keeps _ _ _) rfl ?_
    exact Keeps.refl _ _
  · rename_i z13 z14
    refine Keeps.after (pushWords_keeps _ _ _) rfl ?_
    exact Keeps.refl _ _

theorem returnFrom_keeps (mask) (k) (s) : Keeps 1074375232 s (returnFrom mask k s).1 := by
  unfold returnFrom
  extract_lets v2
  clear_value v2
  split
  · rename_i z4 z5 z6 z7
    refine Keeps.mk1 ?_
    refine Keeps.fst_eq z7 ?_
    refine Keeps.after (readStack_keeps _ _ _) rfl ?_
    exact Keeps.refl _ _
  · rename_i z12 z13 z14
    refine Keeps.mk1 ?_
    refine Keeps.fst_eq z14 ?_
    refine Keeps.after (readStack_keeps _ _ _) rfl ?_
    exact Keeps.refl _ _
  · rename_i z19 z20 z21 z22 z23
    refine Keeps.mk1 ?_
    refine Keeps.after (LthEnv.upd_keeps _ _ _) rfl ?_
    refine Keeps.fst_eq z23 ?_
    refine Keeps.after (readStack_keeps _ _ _) rfl ?_
    exact Keeps.refl _ _

theorem elemLoad_keeps (k) (r) (s) : Keeps 1544531905 s (elemLoad k r s).1 := by
  unfold elemLoad
  refine Keeps.after (lthLoad_keeps _ _ _ _ _) rfl ?_
  exact Keeps.refl _ _

theorem elemStore_keeps {m : Nat} {b : State} {k : LthEnv} {v : List Byte} {f : LthLevel → LthLevel} {s t : State} (hm : 276087943105 ||| m = m)
    (hs : Keeps m b s) (ht : Keeps m b t) : Keeps m b (elemStore k v f s t).1 := by
  unfold elemStore
  extract_lets a
  split
  · rename_i u c e
    exact Keeps.fst_eq e (Keeps.after (lthStore_keeps _ _ _ _ _) (mask_trans rfl hm) hs)
  · split
    · rename_i u d e
      exact Keeps.after (LthEnv.upd_keeps _ _ _) (mask_trans rfl hm) (Keeps.fst_eq e (Keeps.after (lthStore_keeps _ _ _ _ _) (mask_trans rfl hm) ht))
    · exact Keeps.after (memFail_keeps _ _ _) (mask_trans rfl hm) (Keeps.after (lthStore_keeps _ _ _ _ _) (mask_trans rfl hm) ht)

theorem elemCopy_keeps (k) (s) : Keeps 276423487425 s (elemCopy k s).1 := by
  unfold elemCopy
  split
  · rename_i z2 z3 z4 z5
    refine elemStore_keeps rfl ?_ ?_
    · exact Keeps.refl _ _
    · refine Keeps.fst_eq z5 ?_
      refine Keeps.after (elemLoad_keeps _ _ _) rfl ?_
      exact Keeps.refl _ _
  · rename_i z11 z12
    refine Keeps.after (memFail_keeps _ _ _) rfl ?_
    refine Keeps.after (elemLoad_keeps _ _ _) rfl ?_
    exact Keeps.refl _ _

theorem elemFill_keeps (r) (k) (s) : Keeps 276087943105 s (elemFill r k s).1 := by
  unfold elemFill
  refine elemStore_keeps rfl ?_ ?_
  · exact Keeps.refl _ _
  · exact Keeps.refl _ _

theorem elemMatch_keeps (k) (s) : Keeps 1544531905 s (elemMatch k s).1 := by
  unfold elemMatch
  split
  · rename_i z2 z3 z4 z5 z6 z7 z8 z9
    split
    · rename_i z11 z12 z13 z14
      refine Keeps.mk1 ?_
      refine Keeps.after (LthEnv.upd_keeps _ _ _) rfl ?_
      refine Keeps.fst_eq z14 ?_
      refine Keeps.after (elemLoad_keeps _ _ _) rfl ?_
      refine Keeps.fst_eq z8 ?_
      refine Keeps.after (elemLoad_keeps _ _ _) rfl ?_
      exact Keeps.refl _ _
    · rename_i z22 z23
      refine Keeps.after (memFail_keeps _ _ _) rfl ?_
      refine Keeps.after (elemLoad_keeps _ _ _) rfl ?_
      refine Keeps.fst_eq z8 ?_
      refine Keeps.after (elemLoad_keeps _ _ _) rfl ?_
      exact Keeps.refl _ _
  · rename_i z29 z30 z31 z32 z33 z34
    refine Keeps.after (memFail_keeps _ _ _) rfl ?_
    refine Keeps.after (elemLoad_keeps _ _ _) rfl ?_
    exact Keeps.refl _ _
  · rename_i z38 z39 z40 z41
    refine Keeps.after (memFail_keeps _ _ _) rfl ?_
    refine Keeps.after (elemLoad_keeps _ _ _) rfl ?_
    exact Keeps.refl _ _

theorem elemSeek_keeps (r) (k) (s) : Keeps 1544531905 s (elemSeek r k s).1 := by
  unfold elemSeek
  split
  · rename_i z2 z3 z4 z5
    refine Keeps.mk1 ?_
    refine Keeps.after (LthEnv.upd_keeps _ _ _) rfl ?_
    refine Keeps.fst_eq z5 ?_
    refine Keeps.after (elemLoad_keeps _ _ _) rfl ?_
    exact Keeps.refl _ _
  · rename_i z11 z12
    refine Keeps.after (memFail_keeps _ _ _) rfl ?_
    refine Keeps.after (elemLoad_keeps _ _ _) rfl ?_
    exact Keeps.refl _ _

theorem elemGather_keeps (r) (k) (s) : Keeps 1544531905 s (elemGather r k s).1 := by
  unfold elemGather
  split
  · rename_i z2 z3 z4 z5
    refine Keeps.mk1 ?_
    refine Keeps.after (LthEnv.upd_keeps _ _ _) rfl ?_
    refine Keeps.fst_eq z5 ?_
    refine Keeps.after (elemLoad_keeps _ _ _) rfl ?_
    exact Keeps.refl _ _
  · rename_i z11 z12
    refine Keeps.after (memFail_keeps _ _ _) rfl ?_
    refine Keeps.after (elemLoad_keeps _ _ _) rfl ?_
    exact Keeps.refl _ _

theorem blkLoop_keeps {m : Nat} {k : LthEnv} {stop : LthLevel → Bool} {el : State → State × LthEnd} {n : Nat} {s : State} (hm : 2048 ||| m = m)
    (he : ∀ t, Keeps m t (el t).1) : Keeps m s (blkLoop k stop el n s).1 := by
  induction n generalizing s with
  | zero =>
    unfold blkLoop
    split
    · exact Keeps.refl _ _
    · exact Keeps.after (jumpTo_keeps _ _ _) (mask_trans rfl hm) (Keeps.refl _ _)
  | succ n ih =>
    unfold blkLoop
    split
    · exact Keeps.refl _ _
    · split
      · rename_i t d e
        have ht : Keeps m s (k.upd t (fun x => (x.setReg 13 (x.reg 13 - 1)).land)) :=
          Keeps.after (LthEnv.upd_keeps _ _ _) (mask_trans rfl hm) (Keeps.fst_eq e (he s))
        extract_lets u
        split
        · exact ht
        · exact ht.trans ih
      · exact he s

theorem lthBlk_keeps {m e : Nat} {p : List Byte} {b : Byte} {md : Option Byte} {c : Bool} {more : Nat} {el : LthEnv → State → State × LthEnd}
    {s : State} (hm : 1074375168 ||| m = m) (he : ∀ k t, Keeps m t (el k t).1) : Res m s (lthBlk e p b md c more el s) := by
  unfold lthBlk
  extract_lets bad
  refine lthRow_keeps (mask_trans rfl hm) (fun k t => ?_)
  split
  · exact blkLoop_keeps (mask_trans rfl hm) (he k)
  · exact he k t

theorem endReceive_keeps (e) (s) : Keeps 2048 s (endReceive e s) := by
  unfold endReceive
  refine Keeps.after (State.updLathe_keeps _ _ _) rfl ?_
  exact Keeps.refl _ _

theorem endWork_keeps (e) (v) (s) : Keeps 10240 s (endWork e v s) := by
  unfold endWork
  refine Keeps.ite ?_ ?_
  · refine Keeps.after (endPhaseWork_keeps _ _) rfl ?_
    exact Keeps.refl _ _
  · refine Keeps.ite ?_ ?_
    · refine Keeps.after (endReceive_keeps _ _) rfl ?_
      exact Keeps.refl _ _
    · exact Keeps.refl _ _

end Sys2Proof.Machine
end

