-- ==== Sys2Proof/Laws/FramesSystem.lean ====
section
/-! SUPPORT. Frames, one lemma per function: reset, start-up, background work, the test access port and the tick edge. The mask names the parts a function may change
(`Part.bit`); every other part is as before. -/

namespace Sys2Proof.Machine

theorem missForwarding_keeps (s) : Keeps 297271489 s (missForwarding s) := by
  unfold missForwarding
  extract_lets v2 v3 v4 v5 v6
  clear_value v2 v4
  have hv3 : Keeps 297271489 (s) v3 := by
    unfold v3
    refine Keeps.ite ?_ ?_
    · refine Keeps.after (runSwitches_keeps _) rfl ?_
      refine Keeps.after (fwdLateBy_keeps _ _) rfl ?_
      exact Keeps.refl _ _
    · exact Keeps.refl _ _
  clear_value v3
  have hv6 : Keeps 297271489 (s) v6 := by
    unfold v6
    refine Keeps.pair_ (u := v3) ?_ rfl
    assumption
  clear_value v6
  refine Keeps.ite ?_ ?_
  · exact Keeps.refl _ _
  · refine Keeps.ite ?_ ?_
    · assumption
    · refine Keeps.ite ?_ ?_
      · refine Keeps.after (declareTakeover_keeps _) rfl ?_
        assumption
      · assumption

theorem declareNow_keeps (s) : Keeps 142606336 s (declareNow s) := by
  unfold declareNow
  split
  · rename_i z2 z3 z4
    refine Keeps.ite ?_ ?_
    · refine Keeps.after (emit_keeps _ _ _) rfl ?_
      exact Keeps.refl _ _
    · exact Keeps.refl _ _
  · rename_i z9 z10
    exact Keeps.refl _ _

theorem missEcho_keeps (s) : Keeps 560658383298 s (missEcho s) := by
  unfold missEcho
  refine Keeps.ite ?_ ?_
  · exact Keeps.refl _ _
  · refine Keeps.ite ?_ ?_
    · refine Keeps.pair_ (u := s) ?_ rfl
      exact Keeps.refl _ _
    · refine Keeps.after (enterListen_keeps _) rfl ?_
      refine Keeps.after (advanceEpoch_keeps _ _) rfl ?_
      refine Keeps.after (declareNow_keeps _) rfl ?_
      exact Keeps.refl _ _

theorem fillFrame_keeps (i) (s) : Keeps 150994945 s (fillFrame i s) := by
  unfold fillFrame
  split
  · rename_i z2 z3
    exact Keeps.refl _ _
  · rename_i z5 z6 z7
    refine Keeps.ite ?_ ?_
    · exact Keeps.refl _ _
    · extract_lets v11 v12
      have hv11 : Keeps 150994945 (s) v11 := by
        unfold v11
        refine Keeps.after (State.advanceTo_keeps _ _) rfl ?_
        exact Keeps.refl _ _
      clear_value v11
      refine Keeps.after (State.send_keeps _ _) rfl ?_
      refine Keeps.pair_ (u := v11) ?_ rfl
      assumption

theorem holdDiverged_keeps (s) : Keeps 270008512 s (holdDiverged s) := by
  unfold holdDiverged
  extract_lets v2 v3 v4
  clear_value v2 v3
  have hv4 : Keeps 270008512 (s) v4 := by
    unfold v4
    refine Keeps.foldl ?_ ?_
    · intro t6 x7
      refine Keeps.after (holdOwner_keeps _ _ _) rfl ?_
      exact Keeps.refl _ _
    · exact Keeps.refl _ _
  clear_value v4
  refine Keeps.ite ?_ ?_
  · exact Keeps.refl _ _
  · refine Keeps.after (State.event_keeps _ _ _ _ _) rfl ?_
    assumption

theorem closeSessions_keeps (s) : Keeps 8192 s (closeSessions s) := by
  unfold closeSessions
  extract_lets v2
  clear_value v2
  refine Keeps.foldl ?_ ?_
  · intro t4 x5
    refine Keeps.after (closeCtxs_keeps _ _) rfl ?_
    exact Keeps.refl _ _
  · exact Keeps.refl _ _

theorem takeOver_keeps (s) : Keeps 558814994626 s (takeOver s) := by
  unfold takeOver
  extract_lets v2 v3 v4 v5 v6 v7 v8
  clear_value v2 v3
  have hv4 : Keeps 558814994626 (s) v4 := by
    unfold v4
    refine Keeps.after (becomePrimary_keeps _) rfl ?_
    refine Keeps.after (holdDiverged_keeps _) rfl ?_
    exact Keeps.refl _ _
  clear_value v4
  have hv6 : Keeps 558814994626 (s) v6 := by
    unfold v6
    refine Keeps.pair_ (u := v4) ?_ rfl
    assumption
  clear_value v6
  have hv7 : Keeps 558814994626 (s) v7 := by
    unfold v7
    refine Keeps.after (State.event_keeps _ _ _ _ _) rfl ?_
    assumption
  clear_value v7
  have hv8 : Keeps 558814994626 (s) v8 := by
    unfold v8
    refine Keeps.after (dropLines_keeps _) rfl ?_
    refine Keeps.after (closeSessions_keeps _) rfl ?_
    assumption
  clear_value v8
  refine Keeps.ite ?_ ?_
  · exact Keeps.refl _ _
  · refine Keeps.pair_ (u := v8) ?_ rfl
    assumption

theorem shadowSynced_keeps (s) : Keeps 558371438786 s (shadowSynced s) := by
  unfold shadowSynced
  refine Keeps.ite ?_ ?_
  · refine Keeps.after (State.event_keeps _ _ _ _ _) rfl ?_
    extract_lets v4 v5
    have hv4 : Keeps 558371438786 (s) v4 := by
      unfold v4
      refine Keeps.after (roleChange_keeps _ _) rfl ?_
      exact Keeps.refl _ _
    clear_value v4
    refine Keeps.pair_ (u := v4) ?_ rfl
    assumption
  · refine Keeps.ite ?_ ?_
    · extract_lets v12 v13
      have hv12 : Keeps 558371438786 (s) v12 := by
        unfold v12
        refine Keeps.after (State.event_keeps _ _ _ _ _) rfl ?_
        refine Keeps.after (roleChange_keeps _ _) rfl ?_
        exact Keeps.refl _ _
      clear_value v12
      refine Keeps.after (State.completeCmd_keeps _ _ _ _) rfl ?_
      refine Keeps.pair_ (u := v12) ?_ rfl
      assumption
    · exact Keeps.refl _ _

theorem keepConfig_keeps (s) : Keeps 549755814000 s (keepConfig s) := by
  unfold keepConfig
  refine Keeps.ite ?_ ?_
  · exact Keeps.refl _ _
  · extract_lets v4
    have hv4 : Keeps 549755814000 (s) v4 := by
      unfold v4
      refine Keeps.after (State.retain_keeps _ _ _ _) rfl ?_
      exact Keeps.refl _ _
    clear_value v4
    refine Keeps.trans (t := v4) ?_ (fun p hp => by cases p <;> first | rfl | exact absurd hp (by decide) | exact fun h => h | exact Nat.le_refl _)
    assumption

theorem deviceReset_keeps (cause : Nat) (s : State) : Keeps 411377332199 s (deviceReset cause s) := fun p hp => by
  cases p <;> first
    | rfl
    | exact absurd hp (by decide)
    | exact fun _ => rfl
    | exact Nat.le_refl _

theorem holdInReset_keeps (cause) (s) : Keeps 411377332199 s (holdInReset cause s) := by
  unfold holdInReset
  refine Keeps.ite ?_ ?_
  · exact Keeps.refl _ _
  · extract_lets v4 v5
    have hv4 : Keeps 411377332199 (s) v4 := by
      unfold v4
      refine Keeps.after (deviceReset_keeps _ _) rfl ?_
      exact Keeps.refl _ _
    clear_value v4
    refine Keeps.power_ (u := v4) ?_ rfl (.inl rfl) (.inl (Nat.le_refl _))
    assumption

theorem railReset_keeps (rail) (s) : Keeps 411511549935 s (railReset rail s) := by
  unfold railReset
  refine Keeps.ite ?_ ?_
  · refine Keeps.after (State.glumeFault_keeps _ _) rfl ?_
    refine Keeps.glume_ (u := s) ?_ rfl (.inr rfl) (.inr rfl)
    exact Keeps.refl _ _
  · refine Keeps.ite ?_ ?_
    · extract_lets v7 v8
      have hv7 : Keeps 411511549935 (s) v7 := by
        unfold v7
        refine Keeps.after (deviceReset_keeps _ _) rfl ?_
        refine Keeps.tap_ (u := s) ?_ rfl
        exact Keeps.refl _ _
      clear_value v7
      refine Keeps.power_ (u := v7) ?_ rfl (.inl rfl) (.inl (Nat.le_refl _))
      assumption
    · refine Keeps.after (holdInReset_keeps _ _) rfl ?_
      exact Keeps.refl _ _

theorem powerOn_keeps (strap) (s) : Keeps 411377332199 s (powerOn strap s) := by
  unfold powerOn
  refine Keeps.ite ?_ ?_
  · exact Keeps.refl _ _
  · extract_lets v4 v5 v6 v7 v8 v9
    clear_value v5
    have hv4 : Keeps 411377332199 (s) v4 := by
      unfold v4
      refine Keeps.ite ?_ ?_
      · exact Keeps.refl _ _
      · refine Keeps.after (deviceReset_keeps _ _) rfl ?_
        exact Keeps.refl _ _
    have hv7 : Keeps 411377332199 (s) v7 := by
      unfold v7
      refine Keeps.power_ (u := v4) ?_ rfl (.inl rfl) (.inl (Nat.le_refl _))
      assumption
    refine Keeps.ite ?_ ?_
    · refine Keeps.trans (t := v7) ?_ (fun p hp => by cases p <;> first | rfl | exact absurd hp (by decide) | exact fun h => h | exact Nat.le_refl _)
      assumption
    · assumption

theorem pushRecord_keeps (s) (r) : Keeps 524352 s (pushRecord s r) := by
  unfold pushRecord
  extract_lets v2 v3 v4
  have hv3 : Keeps 524352 (s) v3 := by
    unfold v3
    refine Keeps.jrnl_ (u := s) ?_ rfl (.inl rfl)
    exact Keeps.refl _ _
  have hv4 : Keeps 524352 (s) v4 := by
    unfold v4
    refine Keeps.after (State.commitJournal_keeps _) rfl ?_
    assumption
  clear_value v4
  refine Keeps.ite ?_ ?_
  · refine Keeps.jrnl_ (u := v4) ?_ rfl (.inl rfl)
    assumption
  · assumption

theorem beginInhibit_keeps (cond) (s) : Keeps 285737156 s (beginInhibit cond s) := by
  unfold beginInhibit
  refine Keeps.ite ?_ ?_
  · exact Keeps.refl _ _
  · extract_lets v4 v5 v6 v7 v8
    clear_value v4
    have hv5 : Keeps 285737156 (s) v5 := by
      unfold v5
      refine Keeps.ite ?_ ?_
      · exact Keeps.refl _ _
      · split
        rename_i z12 z13 z14 z15
        extract_lets v17 v18 v19 v20
        have hv17 : Keeps 285737156 (s) v17 := by
          unfold v17
          refine Keeps.after (State.commitJournal_keeps _) rfl ?_
          refine Keeps.after (State.record_keeps _ _ _ _) rfl ?_
          refine Keeps.snd_eq z15 ?_
          refine Keeps.after (State.freeBelow_keeps _ _) rfl ?_
          exact Keeps.refl _ _
        clear_value v17
        have hv19 : Keeps 285737156 (s) v19 := by
          unfold v19
          refine Keeps.power_ (u := v17) ?_ rfl (.inl rfl) (.inl (Nat.le_refl _))
          assumption
        clear_value v19
        have hv20 : Keeps 285737156 (s) v20 := by
          unfold v20
          refine Keeps.after (State.completeCmd_keeps _ _ _ _) rfl ?_
          assumption
        clear_value v20
        refine Keeps.after (State.completeCmd_keeps _ _ _ _) rfl ?_
        assumption
    clear_value v5
    have hv7 : Keeps 285737156 (s) v7 := by
      unfold v7
      refine Keeps.power_ (u := v5) ?_ rfl (.inl rfl) (.inl (Nat.le_refl _))
      assumption
    clear_value v7
    refine Keeps.ite ?_ ?_
    · refine Keeps.after (declareFailed_keeps _) rfl ?_
      refine Keeps.power_ (u := v7) ?_ rfl (.inl rfl) (.inl (Nat.le_refl _))
      assumption
    · assumption

theorem endInhibit_keeps (s) : Keeps 524356 s (endInhibit s) := by
  unfold endInhibit
  refine Keeps.ite ?_ ?_
  · exact Keeps.refl _ _
  · extract_lets v4 v5 v6 v7 v8
    clear_value v4
    have hv7 : Keeps 524356 (s) v7 := by
      unfold v7
      refine Keeps.trans (t := s) ?_ (fun p hp => by cases p <;> first | rfl | exact absurd hp (by decide) | exact fun h => h | exact Nat.le_refl _)
      exact Keeps.refl _ _
    clear_value v7
    have hv8 : Keeps 524356 (s) v8 := by
      unfold v8
      refine Keeps.foldl ?_ ?_
      · intro t12 x13
        refine Keeps.after (pushRecord_keeps _ _) rfl ?_
        exact Keeps.refl _ _
      · assumption
    clear_value v8
    refine Keeps.after (State.commitJournal_keeps _) rfl ?_
    refine Keeps.after (State.record_keeps _ _ _ _) rfl ?_
    assumption

theorem latheLost_keeps (e) (s) : Keeps 1124576768 s (latheLost e s) := by
  unfold latheLost
  extract_lets v2 v3 v4 v5
  clear_value v2
  have hv3 : Keeps 1124576768 (s) v3 := by
    unfold v3
    refine Keeps.ite ?_ ?_
    · refine Keeps.after (declareFailed_keeps _) rfl ?_
      exact Keeps.refl _ _
    · exact Keeps.refl _ _
  clear_value v3
  have hv4 : Keeps 1124576768 (s) v4 := by
    unfold v4
    refine Keeps.foldl ?_ ?_
    · intro t11 x12
      refine Keeps.after (releaseNet_keeps _ _) rfl ?_
      exact Keeps.refl _ _
    · assumption
  clear_value v4
  have hv5 : Keeps 1124576768 (s) v5 := by
    unfold v5
    refine Keeps.after (reserveCtxs_keeps _ _ _) rfl ?_
    refine Keeps.after (State.updLathe_keeps _ _ _) rfl ?_
    assumption
  clear_value v5
  split
  · rename_i z20 z21
    assumption
  · rename_i z23 z24 z25 z26 z27 z28
    extract_lets v30 v31 v32
    clear_value v30
    have hv31 : Keeps 1124576768 (s) v31 := by
      unfold v31
      refine Keeps.foldl ?_ ?_
      · intro t34 x35
        refine Keeps.after (State.updNet_keeps _ _ _) rfl ?_
        exact Keeps.refl _ _
      · assumption
    clear_value v31
    have hv32 : Keeps 1124576768 (s) v32 := by
      unfold v32
      refine Keeps.foldl ?_ ?_
      · intro t40 x41
        refine Keeps.after (grantNet_keeps _ _) rfl ?_
        exact Keeps.refl _ _
      · assumption
    clear_value v32
    split
    · rename_i z46 z47 z48
      refine Keeps.foldl ?_ ?_
      · intro t50 x51
        refine Keeps.after (stopNet_keeps _ _) rfl ?_
        exact Keeps.refl _ _
      · assumption
    · rename_i z55 z56 z57
      refine Keeps.after (syncEnv_keeps _ _) rfl ?_
      refine Keeps.after (loadImage_keeps _ _ _ _) rfl ?_
      refine Keeps.after (placeSlots_keeps _ _) rfl ?_
      assumption
  · rename_i z62 z63 z64 z65 z66
    refine Keeps.foldl ?_ ?_
    · intro t68 x69
      refine Keeps.after (stopNet_keeps _ _) rfl ?_
      exact Keeps.refl _ _
    · assumption

theorem deviceFault_keeps (s) : Keeps 411511549927 s (deviceFault s) := by
  unfold deviceFault
  refine Keeps.after (deviceReset_keeps _ _) rfl ?_
  refine Keeps.ite ?_ ?_
  · refine Keeps.after (declareNow_keeps _) rfl ?_
    exact Keeps.refl _ _
  · exact Keeps.refl _ _

theorem loseBlock_keeps (b) (s) : Keeps 411779985383 s (loseBlock b s) := by
  unfold loseBlock
  extract_lets v2 v3 v4 v5
  clear_value v5
  have hv2 : Keeps 411779985383 (s) v2 := by
    unfold v2
    refine Keeps.ite ?_ ?_
    · refine Keeps.after (declareFailed_keeps _) rfl ?_
      exact Keeps.refl _ _
    · exact Keeps.refl _ _
  clear_value v2
  have hv3 : Keeps 411779985383 (s) v3 := by
    unfold v3
    refine Keeps.after (State.event_keeps _ _ _ _ _) rfl ?_
    assumption
  clear_value v3
  refine Keeps.ite ?_ ?_
  · refine Keeps.after (deviceFault_keeps _) rfl ?_
    assumption
  · refine Keeps.ite ?_ ?_
    · refine Keeps.after (latheLost_keeps _ _) rfl ?_
      assumption
    · refine Keeps.ite ?_ ?_
      · refine Keeps.ite ?_ ?_
        · refine Keeps.after (declareFailed_keeps _) rfl ?_
          assumption
        · assumption
      · refine Keeps.ite ?_ ?_
        · refine Keeps.wnw_ (u := v2) ?_ rfl
          assumption
        · refine Keeps.ite ?_ ?_
          · refine Keeps.after (chkLost_keeps _ _) rfl ?_
            assumption
          · refine Keeps.ite ?_ ?_
            · refine Keeps.foldl ?_ ?_
              · intro t31 x32
                refine Keeps.after (stopNet_keeps _ _) rfl ?_
                exact Keeps.refl _ _
              · assumption
            · refine Keeps.ite ?_ ?_
              · refine Keeps.after (linkDown_keeps _ _) rfl ?_
                refine Keeps.foldl ?_ ?_
                · intro t39 x40
                  refine Keeps.after (stopNet_keeps _ _) rfl ?_
                  exact Keeps.refl _ _
                · assumption
              · refine Keeps.ite ?_ ?_
                · refine Keeps.after (State.updFabPort_keeps _ _ _) rfl ?_
                  assumption
                · refine Keeps.ite ?_ ?_
                  · refine Keeps.foldl ?_ ?_
                    · intro t49 x50
                      refine Keeps.after (stopNet_keeps _ _) rfl ?_
                      exact Keeps.refl _ _
                    · assumption
                  · refine Keeps.ite ?_ ?_
                    · refine Keeps.foldl ?_ ?_
                      · intro t56 x57
                        split
                        rename_i z59 z60 z61 z62
                        extract_lets v64
                        have hv64 : Keeps 411779985383 (t56) v64 := by
                          unfold v64
                          refine Keeps.after (State.updAxis_keeps _ _ _) rfl ?_
                          refine Keeps.snd_eq z62 ?_
                          refine Keeps.after (State.freeBelow_keeps _ _) rfl ?_
                          exact Keeps.refl _ _
                        clear_value v64
                        refine Keeps.ite ?_ ?_
                        · assumption
                        · refine Keeps.after (State.axisFault_keeps _ _ _) rfl ?_
                          assumption
                      · assumption
                    · assumption

theorem markBlock_keeps (s) (m) : Keeps 411779985383 s (markBlock s m) := by
  unfold markBlock
  extract_lets v2 v3 v4 v5 v6
  clear_value v2
  have hv4 : Keeps 411779985383 (s) v4 := by
    unfold v4
    refine Keeps.wnw_ (u := s) ?_ rfl
    exact Keeps.refl _ _
  clear_value v4
  have hv5 : Keeps 411779985383 (s) v5 := by
    unfold v5
    refine Keeps.after (State.event_keeps _ _ _ _ _) rfl ?_
    assumption
  clear_value v5
  have hv6 : Keeps 411779985383 (s) v6 := by
    unfold v6
    refine Keeps.after (State.record_keeps _ _ _ _) rfl ?_
    assumption
  clear_value v6
  refine Keeps.ite ?_ ?_
  · exact Keeps.refl _ _
  · refine Keeps.after (loseBlock_keeps _ _) rfl ?_
    assumption

theorem markBlocks_keeps (s) : Keeps 411779985383 s (markBlocks s) := by
  unfold markBlocks
  extract_lets v2 v3
  clear_value v2
  refine Keeps.foldl ?_ ?_
  · intro t5 x6
    refine Keeps.after (markBlock_keeps _ _) rfl ?_
    exact Keeps.refl _ _
  · refine Keeps.wnw_ (u := s) ?_ rfl
    exact Keeps.refl _ _

theorem moveSpare_keeps (s) : Keeps 1572864 s (moveSpare s) := by
  unfold moveSpare
  split
  · rename_i z2 z3
    exact Keeps.refl _ _
  · rename_i z5 z6 z7
    extract_lets v9 v10 v11 v12 v13
    clear_value v9 v10
    have hv12 : Keeps 1572864 (s) v12 := by
      unfold v12
      refine Keeps.motion_ (u := s) ?_ rfl
      exact Keeps.refl _ _
    clear_value v12
    refine Keeps.wnw_ (u := v12) ?_ rfl
    assumption

theorem closeSecond_keeps (mem) (s) : Keeps 524352 s (closeSecond mem s) := by
  unfold closeSecond
  split
  · rename_i z2 z3 z4 z5
    refine Keeps.ite ?_ ?_
    · exact Keeps.refl _ _
    · refine Keeps.after (State.memoryRecord_keeps _ _ _ _ _ _) rfl ?_
      refine Keeps.after (State.updScrub_keeps _ _ _) rfl ?_
      exact Keeps.refl _ _
  · rename_i z11 z12
    exact Keeps.refl _ _

theorem scrubCorrected_keeps (mem) (w) (s) : Keeps 524864 s (scrubCorrected mem w s) := by
  unfold scrubCorrected
  extract_lets v2 v3 v4 v5 v6 v7
  clear_value v3 v4
  have hv2 : Keeps 524864 (s) v2 := by
    unfold v2
    refine Keeps.after (closeSecond_keeps _ _) rfl ?_
    exact Keeps.refl _ _
  clear_value v2
  have hv5 : Keeps 524864 (s) v5 := by
    unfold v5
    refine Keeps.after (State.setScrub_keeps _ _ _) rfl ?_
    assumption
  clear_value v5
  have hv6 : Keeps 524864 (s) v6 := by
    unfold v6
    refine Keeps.ite ?_ ?_
    · refine Keeps.after (State.corrected_keeps _ _) rfl ?_
      assumption
    · assumption
  clear_value v6
  have hv7 : Keeps 524864 (s) v7 := by
    unfold v7
    refine Keeps.ite ?_ ?_
    · refine Keeps.after (State.memoryRecord_keeps _ _ _ _ _ _) rfl ?_
      assumption
    · assumption
  clear_value v7
  refine Keeps.ite ?_ ?_
  · refine Keeps.after (State.memoryRecord_keeps _ _ _ _ _ _) rfl ?_
    assumption
  · assumption

theorem retireCell_keeps (cell) (holder) (s) : Keeps 135135232 s (retireCell cell holder s) := by
  unfold retireCell
  refine Keeps.ite ?_ ?_
  · exact Keeps.refl _ _
  · extract_lets v4 v5 v6 v7
    have hv5 : Keeps 135135232 (s) v5 := by
      unfold v5
      refine Keeps.wnw_ (u := s) ?_ rfl
      exact Keeps.refl _ _
    clear_value v5
    have hv7 : Keeps 135135232 (s) v7 := by
      unfold v7
      split
      · rename_i z11 z12 z13
        extract_lets v15
        clear_value v15
        refine Keeps.foldl ?_ ?_
        · intro t17 x18
          refine Keeps.ite ?_ ?_
          · refine Keeps.after (portDone_keeps _ _ _) rfl ?_
            refine Keeps.after (State.macCount_keeps _ _ _) rfl ?_
            exact Keeps.refl _ _
          · exact Keeps.refl _ _
        · refine Keeps.switch_ (u := v5) ?_ rfl
          assumption
      · rename_i z26 z27
        refine Keeps.switch_ (u := v5) ?_ rfl
        assumption
    clear_value v7
    refine Keeps.ite ?_ ?_
    · refine Keeps.after (State.doom_keeps _ _ _) rfl ?_
      assumption
    · assumption

theorem scrubBad_keeps (mem) (w) (holder) (s) : Keeps 1225763392 s (scrubBad mem w holder s) := by
  unfold scrubBad
  extract_lets v2 v3 v4 v5 v6 v7 v8
  clear_value v4 v5 v6 v7
  have hv2 : Keeps 1225763392 (s) v2 := by
    unfold v2
    refine Keeps.after (State.updScrub_keeps _ _ _) rfl ?_
    exact Keeps.refl _ _
  clear_value v2
  have hv3 : Keeps 1225763392 (s) v3 := by
    unfold v3
    refine Keeps.ite ?_ ?_
    · refine Keeps.after (State.uncorrectable_keeps _ _) rfl ?_
      assumption
    · refine Keeps.after (State.memoryRecord_keeps _ _ _ _ _ _) rfl ?_
      assumption
  clear_value v3
  split
  · rename_i z17
    refine Keeps.after (retireCell_keeps _ _ _) rfl ?_
    assumption
  · rename_i z20
    refine Keeps.ite ?_ ?_
    · refine Keeps.after (restartLathe_keeps _ _) rfl ?_
      assumption
    · refine Keeps.after (State.updLathe_keeps _ _ _) rfl ?_
      assumption
  · rename_i z26
    split
    · rename_i z28 z29 z30
      refine Keeps.after (declareFailed_keeps _) rfl ?_
      refine Keeps.wnw_ (u := v3) ?_ rfl
      assumption
    · rename_i z34 z35
      assumption
  · rename_i z37
    refine Keeps.after (declareFailed_keeps _) rfl ?_
    refine Keeps.wnw_ (u := v3) ?_ rfl
    assumption
  · rename_i z41 z42 z43 z44 z45
    assumption

theorem scrubBurst_keeps (mem) (errs) (s) : Keeps 1225763392 s (scrubBurst mem errs s) := by
  unfold scrubBurst
  extract_lets v2 v3
  clear_value v3
  have hv2 : Keeps 1225763392 (s) v2 := by
    unfold v2
    refine Keeps.foldl ?_ ?_
    · intro t5 x6
      refine Keeps.ite ?_ ?_
      · refine Keeps.after (scrubBad_keeps _ _ _ _) rfl ?_
        exact Keeps.refl _ _
      · refine Keeps.after (scrubCorrected_keeps _ _ _) rfl ?_
        exact Keeps.refl _ _
    · exact Keeps.refl _ _
  clear_value v2
  refine Keeps.ite ?_ ?_
  · refine Keeps.after (State.setScrub_keeps _ _ _) rfl ?_
    assumption
  · refine Keeps.after (State.setScrub_keeps _ _ _) rfl ?_
    assumption

theorem scrubLate_keeps (mem) (s) : Keeps 524288 s (scrubLate mem s) := by
  unfold scrubLate
  refine Keeps.ite ?_ ?_
  · exact Keeps.refl _ _
  · extract_lets v4 v5
    have hv4 : Keeps 524288 (s) v4 := by
      unfold v4
      refine Keeps.after (State.updScrub_keeps _ _ _) rfl ?_
      exact Keeps.refl _ _
    clear_value v4
    refine Keeps.wnw_ (u := v4) ?_ rfl
    assumption

theorem testResult_keeps (key) (b) (cause) (ok) (s) : Keeps 524288 s (testResult key b cause ok s) := by
  unfold testResult
  extract_lets v2 v3 v4
  clear_value v2
  have hv4 : Keeps 524288 (s) v4 := by
    unfold v4
    refine Keeps.wnw_ (u := s) ?_ rfl
    exact Keeps.refl _ _
  clear_value v4
  refine Keeps.ite ?_ ?_
  · refine Keeps.after (State.doom_keeps _ _ _) rfl ?_
    assumption
  · assumption

theorem spareSlice_keeps (ok) (s) : Keeps 1572864 s (spareSlice ok s) := by
  unfold spareSlice
  extract_lets v2 v3 v4 v5 v6
  clear_value v2 v3
  have hv4 : Keeps 1572864 (s) v4 := by
    unfold v4
    refine Keeps.after (testResult_keeps _ _ _ _ _) rfl ?_
    exact Keeps.refl _ _
  clear_value v4
  refine Keeps.ite ?_ ?_
  · exact Keeps.refl _ _
  · refine Keeps.ite ?_ ?_
    · assumption
    · refine Keeps.ite ?_ ?_
      · refine Keeps.wnw_ (u := v4) ?_ rfl
        assumption
      · refine Keeps.trans (t := v4) ?_ (fun p hp => by cases p <;> first | rfl | exact absurd hp (by decide) | exact fun h => h | exact Nat.le_refl _)
        assumption

theorem storeCalib_keeps (c) (ofs) (gain) (s) : Keeps 549756338240 s (storeCalib c ofs gain s) := by
  unfold storeCalib
  extract_lets v2
  clear_value v2
  refine Keeps.ite ?_ ?_
  · exact Keeps.refl _ _
  · refine Keeps.after (State.retain_keeps _ _ _ _) rfl ?_
    refine Keeps.after (State.updCalib_keeps _ _ _) rfl ?_
    exact Keeps.refl _ _

theorem calibrate_keeps (c) (ofs) (gain) (off) (s) : Keeps 549756338240 s (calibrate c ofs gain off s) := by
  unfold calibrate
  extract_lets v2 v3 v4
  clear_value v3 v4
  have hv2 : Keeps 549756338240 (s) v2 := by
    unfold v2
    refine Keeps.after (testResult_keeps _ _ _ _ _) rfl ?_
    exact Keeps.refl _ _
  clear_value v2
  refine Keeps.ite ?_ ?_
  · assumption
  · refine Keeps.after (storeCalib_keeps _ _ _ _) rfl ?_
    refine Keeps.after (State.setCalib_keeps _ _ _) rfl ?_
    assumption

theorem stepCalib_keeps (s) (c) : Keeps 268959744 s (stepCalib s c) := by
  unfold stepCalib
  split
  · rename_i z2 z3
    exact Keeps.refl _ _
  · rename_i z5 z6 z7 z8 z9
    refine Keeps.ite ?_ ?_
    · refine Keeps.after (State.updCalib_keeps _ _ _) rfl ?_
      exact Keeps.refl _ _
    · split
      rename_i z14 z15 z16 z17
      split
      rename_i z19 z20 z21 z22
      refine Keeps.after (State.updCalib_keeps _ _ _) rfl ?_
      refine Keeps.snd_eq z22 ?_
      refine Keeps.after (State.freeBelow_keeps _ _) rfl ?_
      refine Keeps.snd_eq z17 ?_
      refine Keeps.after (State.freeBelow_keeps _ _) rfl ?_
      exact Keeps.refl _ _

theorem tune_keeps (u) (tap) (ok) (s) : Keeps 549756338240 s (tune u tap ok s) := by
  unfold tune
  extract_lets v2 v3 v4 v5 v6
  clear_value v5
  have hv2 : Keeps 549756338240 (s) v2 := by
    unfold v2
    refine Keeps.after (testResult_keeps _ _ _ _ _) rfl ?_
    exact Keeps.refl _ _
  clear_value v2
  have hv4 : Keeps 549756338240 (s) v4 := by
    unfold v4
    refine Keeps.wnw_ (u := v2) ?_ rfl
    assumption
  clear_value v4
  refine Keeps.ite ?_ ?_
  · assumption
  · refine Keeps.ite ?_ ?_
    · assumption
    · refine Keeps.after (State.retain_keeps _ _ _ _) rfl ?_
      refine Keeps.wnw_ (u := v4) ?_ rfl
      assumption

theorem loadTaps_keeps (s) : Keeps 524288 s (loadTaps s) := by
  unfold loadTaps
  refine Keeps.wnw_ (u := s) ?_ rfl
  exact Keeps.refl _ _

theorem sampleTemp_keeps (tj) (s) : Keeps 524288 s (sampleTemp tj s) := by
  unfold sampleTemp
  extract_lets v2 v3
  have hv3 : Keeps 524288 (s) v3 := by
    unfold v3
    refine Keeps.wnw_ (u := s) ?_ rfl
    exact Keeps.refl _ _
  clear_value v3
  refine Keeps.after (State.stream_keeps _ _ _ _ _) rfl ?_
  assumption

theorem wearMove_keeps (sector) (s) : Keeps 64 s (wearMove sector s) := by
  unfold wearMove
  extract_lets v2
  refine Keeps.ite ?_ ?_
  · exact Keeps.refl _ _
  · refine Keeps.jrnl_ (u := s) ?_ rfl (.inl rfl)
    exact Keeps.refl _ _

theorem rateCheck_keeps (past) (s) : Keeps 64 s (rateCheck past s) := by
  unfold rateCheck
  extract_lets v2 v3 v4
  clear_value v3 v4
  refine Keeps.jrnl_ (u := s) ?_ rfl (.inl rfl)
  exact Keeps.refl _ _

theorem archivePage_keeps (evict : Option (Nat × Nat)) (s : State) : Keeps 64 s (archivePage evict s) := by
  unfold archivePage
  extract_lets j k
  have hk : k.retained = s.jrnl.retained := by
    unfold k
    split <;> rfl
  clear_value k
  split
  · exact Keeps.refl _ _
  · split
    · exact Keeps.refl _ _
    · split
      · split
        · exact Keeps.refl _ _
        · exact Keeps.jrnl_ (Keeps.refl _ _) rfl (.inl rfl)
      · exact Keeps.jrnl_ (Keeps.refl _ _) rfl (.inl hk)

theorem norEnd_keeps (dev) (op) (sector) (ok) (s) : Keeps 524352 s (norEnd dev op sector ok s) := by
  unfold norEnd
  extract_lets v2 v3 v4
  have hv3 : Keeps 524352 (s) v3 := by
    unfold v3
    refine Keeps.ite ?_ ?_
    · refine Keeps.jrnl_ (u := s) ?_ rfl (.inl rfl)
      exact Keeps.refl _ _
    · exact Keeps.refl _ _
  clear_value v3
  refine Keeps.ite ?_ ?_
  · assumption
  · refine Keeps.after (State.memoryRecord_keeps _ _ _ _ _ _) rfl ?_
    refine Keeps.jrnl_ (u := v3) ?_ rfl (.inl rfl)
    assumption

theorem sendTelemetry_keeps (s) : Keeps 437125122 s (sendTelemetry s) := by
  unfold sendTelemetry
  extract_lets v2 v3
  clear_value v2 v3
  refine Keeps.ite ?_ ?_
  · exact Keeps.refl _ _
  · split
    rename_i z7 z8 z9 z10
    extract_lets v12
    clear_value v12
    split
    · rename_i z14 z15
      refine Keeps.snd_eq z10 ?_
      refine Keeps.after (State.freeBelow_keeps _ _) rfl ?_
      exact Keeps.refl _ _
    · rename_i z19 z20 z21
      refine Keeps.after (State.send_keeps _ _) rfl ?_
      refine Keeps.wnw_ (u := z20) ?_ rfl
      refine Keeps.after (storeInternal_keeps z21) rfl ?_
      refine Keeps.snd_eq z10 ?_
      refine Keeps.after (State.freeBelow_keeps _ _) rfl ?_
      exact Keeps.refl _ _

theorem endStage_keeps (n) (s) : Keeps 4 s (endStage n s) := by
  unfold endStage
  extract_lets v2 v3
  clear_value v2
  refine Keeps.power_ (u := s) ?_ rfl (.inl rfl) (.inl (Nat.le_refl _))
  exact Keeps.refl _ _

theorem startJournal_keeps (s) : Keeps 549756338240 s (startJournal s) := by
  unfold startJournal
  extract_lets v2 v3 v4
  split
  · rename_i z6 z7
    refine Keeps.jrnl_ (u := s) ?_ rfl (.inr rfl)
    exact Keeps.refl _ _
  · rename_i z10 z11 z12 z13
    refine Keeps.after (State.record_keeps _ _ _ _) rfl ?_
    refine Keeps.jrnl_ (u := s) ?_ rfl (.inr rfl)
    exact Keeps.refl _ _

theorem enterRecover_keeps (s) : Keeps 2147483906 s (enterRecover s) := by
  unfold enterRecover
  extract_lets v2 v3
  have hv2 : Keeps 2147483906 (s) v2 := by
    unfold v2
    refine Keeps.foldl ?_ ?_
    · intro t5 x6
      refine Keeps.after (bindChannel_keeps _ _) rfl ?_
      exact Keeps.refl _ _
    · exact Keeps.refl _ _
  clear_value v2
  refine Keeps.cell_ (u := v2) ?_ rfl (.inr rfl) (.inl rfl) (.inl rfl) (.inl rfl)
  assumption

theorem bootChoice_keeps (s) : Keeps 843961615174 s (bootChoice s) := by
  unfold bootChoice
  extract_lets v2 v3 v4 v5 v6
  clear_value v2
  have hv4 : Keeps 843961615174 (s) v4 := by
    unfold v4
    refine Keeps.ite ?_ ?_
    · refine Keeps.power_ (u := s) ?_ rfl (.inl rfl) (.inl (Nat.le_refl _))
      exact Keeps.refl _ _
    · exact Keeps.refl _ _
  clear_value v4
  split
  · rename_i z12
    refine Keeps.after (enterRecover_keeps _) rfl ?_
    assumption
  · rename_i z15 z16
    extract_lets v18 v19 v20 v21 v22
    clear_value v18 v22
    have hv19 : Keeps 843961615174 (s) v19 := by
      unfold v19
      refine Keeps.trans (t := v4) ?_ (fun p hp => by cases p <;> first | rfl | exact absurd hp (by decide) | exact fun h => h | exact Nat.le_refl _)
      assumption
    clear_value v19
    have hv20 : Keeps 843961615174 (s) v20 := by
      unfold v20
      refine Keeps.after (bindAll_keeps _) rfl ?_
      assumption
    clear_value v20
    have hv21 : Keeps 843961615174 (s) v21 := by
      unfold v21
      refine Keeps.foldl ?_ ?_
      · intro t28 x29
        refine Keeps.after (State.giveBank_keeps _ _ _) rfl ?_
        exact Keeps.refl _ _
      · assumption
    clear_value v21
    refine Keeps.after (endStage_keeps _ _) rfl ?_
    refine Keeps.after (startJournal_keeps _) rfl ?_
    refine Keeps.custKey_ (u := v21) ?_ rfl
    assumption

theorem recoverWord_keeps (ch) (s) : Keeps 411511549927 s (recoverWord ch s) := by
  unfold recoverWord
  refine Keeps.ite ?_ ?_
  · exact Keeps.refl _ _
  · extract_lets v4 v5 v6 v7 v8 v9 v10 v11
    clear_value v4 v5 v6 v9
    have hv7 : Keeps 411511549927 (s) v7 := by
      unfold v7
      refine Keeps.after (State.acknowledge_keeps _ _) rfl ?_
      exact Keeps.refl _ _
    clear_value v7
    have hv8 : Keeps 411511549927 (s) v8 := by
      unfold v8
      refine Keeps.ite ?_ ?_
      · assumption
      · refine Keeps.foldl ?_ ?_
        · intro t17 x18
          refine Keeps.after (State.giveBank_keeps _ _ _) rfl ?_
          exact Keeps.refl _ _
        · assumption
    clear_value v8
    have hv10 : Keeps 411511549927 (s) v10 := by
      unfold v10
      refine Keeps.after (State.setFwSlot_keeps _ _ _) rfl ?_
      assumption
    clear_value v10
    refine Keeps.ite ?_ ?_
    · refine Keeps.after (deviceReset_keeps _ _) rfl ?_
      refine Keeps.power_ (u := v10) ?_ rfl (.inl rfl) (.inl (Nat.le_refl _))
      assumption
    · refine Keeps.after (State.storeWord_keeps _ _ _ _) rfl ?_
      assumption

theorem markFailed_keeps (s) (b) : Keeps 411779985383 s (markFailed s b) := by
  unfold markFailed
  refine Keeps.ite ?_ ?_
  · extract_lets v3 v4
    have hv4 : Keeps 411779985383 (s) v4 := by
      unfold v4
      refine Keeps.wnw_ (u := s) ?_ rfl
      exact Keeps.refl _ _
    clear_value v4
    refine Keeps.after (State.record_keeps _ _ _ _) rfl ?_
    refine Keeps.after (State.event_keeps _ _ _ _ _) rfl ?_
    assumption
  · refine Keeps.after (markBlock_keeps _ _) rfl ?_
    exact Keeps.refl _ _

theorem selfTest_keeps (failed) (pool) (s) : Keeps 411779985383 s (selfTest failed pool s) := by
  unfold selfTest
  refine Keeps.ite ?_ ?_
  · refine Keeps.after (holdInReset_keeps _ _) rfl ?_
    exact Keeps.refl _ _
  · extract_lets v5 v6 v7 v8
    have hv5 : Keeps 411779985383 (s) v5 := by
      unfold v5
      refine Keeps.foldl ?_ ?_
      · intro t10 x11
        refine Keeps.after (markFailed_keeps _ _) rfl ?_
        exact Keeps.refl _ _
      · exact Keeps.refl _ _
    clear_value v5
    have hv8 : Keeps 411779985383 (s) v8 := by
      unfold v8
      refine Keeps.trans (t := v5) ?_ (fun p hp => by cases p <;> first | rfl | exact absurd hp (by decide) | exact fun h => h | exact Nat.le_refl _)
      assumption
    clear_value v8
    refine Keeps.after (endStage_keeps _ _) rfl ?_
    assumption

theorem glumeStart_keeps (s) : Keeps 584254488774 s (glumeStart s) := by
  unfold glumeStart
  extract_lets v2 v3 v4 v5 v6 v7 v8
  clear_value v2
  have hv4 : Keeps 584254488774 (s) v4 := by
    unfold v4
    split
    · rename_i z10 z11 z12
      refine Keeps.after (activateBlock_keeps _) rfl ?_
      refine Keeps.glume_ (u := s) ?_ rfl (.inr rfl) (.inl rfl)
      exact Keeps.refl _ _
    · rename_i z16 z17
      refine Keeps.after (State.raiseAll_keeps _ _ _) rfl ?_
      exact Keeps.refl _ _
  clear_value v4
  have hv6 : Keeps 584254488774 (s) v6 := by
    unfold v6
    refine Keeps.after (endStage_keeps _ _) rfl ?_
    refine Keeps.jrnl_ (u := v4) ?_ rfl (.inr rfl)
    assumption
  clear_value v6
  refine Keeps.ite ?_ ?_
  · refine Keeps.trans (t := v6) ?_ (fun p hp => by cases p <;> first | rfl | exact absurd hp (by decide) | exact fun h => h | exact Nat.le_refl _)
    assumption
  · assumption

theorem loadStored_keeps (s) (e) : Keeps 1107307008 s (loadStored s e) := by
  unfold loadStored
  split
  · rename_i z2 z3
    exact Keeps.refl _ _
  · rename_i z5 z6 z7 z8
    extract_lets v10
    clear_value v10
    split
    · rename_i z12 z13 z14
      exact Keeps.refl _ _
    · rename_i z16 z17 z18
      refine Keeps.after (syncEnv_keeps _ _) rfl ?_
      refine Keeps.after (loadImage_keeps _ _ _ _) rfl ?_
      refine Keeps.after (placeSlots_keeps _ _) rfl ?_
      exact Keeps.refl _ _

theorem imageStage_keeps (locked) (s) : Keeps 1108324037 s (imageStage locked s) := by
  unfold imageStage
  extract_lets v2 v3 v4 v5 v6 v7 v8
  clear_value v2 v5
  have hv4 : Keeps 1108324037 (s) v4 := by
    unfold v4
    refine Keeps.trans (t := s) ?_ (fun p hp => by cases p <;> first | rfl | exact absurd hp (by decide) | exact fun h => h | exact Nat.le_refl _)
    exact Keeps.refl _ _
  clear_value v4
  have hv6 : Keeps 1108324037 (s) v6 := by
    unfold v6
    refine Keeps.foldl ?_ ?_
    · intro t12 x13
      refine Keeps.after (grantNet_keeps _ _) rfl ?_
      exact Keeps.refl _ _
    · assumption
  clear_value v6
  have hv7 : Keeps 1108324037 (s) v7 := by
    unfold v7
    refine Keeps.foldl ?_ ?_
    · intro t18 x19
      refine Keeps.after (loadStored_keeps _ _) rfl ?_
      exact Keeps.refl _ _
    · assumption
  clear_value v7
  have hv8 : Keeps 1108324037 (s) v8 := by
    unfold v8
    refine Keeps.after (setResv_keeps _) rfl ?_
    assumption
  clear_value v8
  refine Keeps.after (endStage_keeps _ _) rfl ?_
  refine Keeps.foldl ?_ ?_
  · intro t27 x28
    refine Keeps.ite ?_ ?_
    · exact Keeps.refl _ _
    · refine Keeps.ite ?_ ?_
      · refine Keeps.after (State.updBase_keeps _ _ _) rfl ?_
        exact Keeps.refl _ _
      · refine Keeps.after (State.event_keeps _ _ _ _ _) rfl ?_
        exact Keeps.refl _ _
  · assumption

theorem fabricStage_keeps (s) : Keeps 581976457286 s (fabricStage s) := by
  unfold fabricStage
  extract_lets v2 v3 v4 v5 v6 v7 v8 v9 v10 v11
  clear_value v2 v3 v4 v5
  have hv7 : Keeps 581976457286 (s) v7 := by
    unfold v7
    split
    · rename_i z13 z14 z15
      extract_lets v17
      have hv17 : Keeps 581976457286 (s) v17 := by
        unfold v17
        refine Keeps.ite ?_ ?_
        · exact Keeps.refl _ _
        · refine Keeps.after (State.retain_keeps _ _ _ _) rfl ?_
          exact Keeps.refl _ _
      clear_value v17
      refine Keeps.cell_ (u := v17) ?_ rfl (.inr rfl) (.inr rfl) (.inr rfl) (.inr rfl)
      assumption
    · rename_i z24 z25
      exact Keeps.refl _ _
  clear_value v7
  have hv9 : Keeps 581976457286 (s) v9 := by
    unfold v9
    refine Keeps.fab_ (u := v7) ?_ rfl
    assumption
  clear_value v9
  have hv10 : Keeps 581976457286 (s) v10 := by
    unfold v10
    refine Keeps.after (startJoin_keeps _ _) rfl ?_
    assumption
  clear_value v10
  have hv11 : Keeps 581976457286 (s) v11 := by
    unfold v11
    refine Keeps.ite ?_ ?_
    · refine Keeps.jrnl_ (u := v10) ?_ rfl (.inr rfl)
      assumption
    · assumption
  clear_value v11
  refine Keeps.after (endStage_keeps _ _) rfl ?_
  assumption

theorem restoreCalib_keeps (s) : Keeps 524288 s (restoreCalib s) := by
  unfold restoreCalib
  extract_lets v2
  have hv2 : Keeps 524288 (s) v2 := by
    unfold v2
    refine Keeps.foldl ?_ ?_
    · intro t4 x5
      extract_lets v7
      clear_value v7
      refine Keeps.ite ?_ ?_
      · refine Keeps.after (State.setCalib_keeps _ _ _) rfl ?_
        exact Keeps.refl _ _
      · exact Keeps.refl _ _
    · exact Keeps.refl _ _
  clear_value v2
  refine Keeps.foldl ?_ ?_
  · intro t14 x15
    extract_lets v17 v18
    clear_value v17
    refine Keeps.ite ?_ ?_
    · refine Keeps.wnw_ (u := t14) ?_ rfl
      exact Keeps.refl _ _
    · exact Keeps.refl _ _
  · assumption

theorem discardWords_keeps (s) : Keeps 134742464 s (discardWords s) := by
  unfold discardWords
  refine Keeps.foldl ?_ ?_
  · intro t2 x3
    extract_lets v5
    clear_value v5
    refine Keeps.ite ?_ ?_
    · refine Keeps.after (State.protocolError_keeps _ _ _ _) rfl ?_
      refine Keeps.after (State.acknowledge_keeps _ _) rfl ?_
      exact Keeps.refl _ _
    · exact Keeps.refl _ _
  · exact Keeps.refl _ _

theorem confirmFirmware_keeps (s) : Keeps 137439477828 s (confirmFirmware s) := by
  unfold confirmFirmware
  extract_lets v2 v3
  clear_value v3
  refine Keeps.ite ?_ ?_
  · exact Keeps.refl _ _
  · refine Keeps.after (State.record_keeps _ _ _ _) rfl ?_
    refine Keeps.power_ (u := s) ?_ rfl (.inr rfl) (.inl (Nat.le_max_left _ _))
    exact Keeps.refl _ _

theorem bootRecord_keeps (s) : Keeps 524352 s (bootRecord s) := by
  unfold bootRecord
  refine Keeps.after (State.record_keeps _ _ _ _) rfl ?_
  exact Keeps.refl _ _

theorem restoreConfig_keeps (s) : Keeps 3145728 s (restoreConfig s) := by
  unfold restoreConfig
  split
  · rename_i z2 z3
    exact Keeps.refl _ _
  · rename_i z5 z6 z7
    refine Keeps.trans (t := s) ?_ (fun p hp => by cases p <;> first | rfl | exact absurd hp (by decide) | exact fun h => h | exact Nat.le_refl _)
    exact Keeps.refl _ _

theorem configStage_keeps (s) : Keeps 139724325830 s (configStage s) := by
  unfold configStage
  extract_lets v2 v3 v4 v5 v6 v7 v8
  have hv2 : Keeps 139724325830 (s) v2 := by
    unfold v2
    refine Keeps.after (restoreCalib_keeps _) rfl ?_
    refine Keeps.after (State.placeAll_keeps _) rfl ?_
    refine Keeps.after (restoreConfig_keeps _) rfl ?_
    exact Keeps.refl _ _
  clear_value v2
  have hv3 : Keeps 139724325830 (s) v3 := by
    unfold v3
    refine Keeps.after (State.enterCell_keeps _ _) rfl ?_
    assumption
  clear_value v3
  have hv4 : Keeps 139724325830 (s) v4 := by
    unfold v4
    refine Keeps.after (bootRecord_keeps _) rfl ?_
    refine Keeps.after (endStage_keeps _ _) rfl ?_
    assumption
  clear_value v4
  have hv5 : Keeps 139724325830 (s) v5 := by
    unfold v5
    refine Keeps.after (confirmFirmware_keeps _) rfl ?_
    assumption
  clear_value v5
  have hv7 : Keeps 139724325830 (s) v7 := by
    unfold v7
    refine Keeps.after (discardWords_keeps _) rfl ?_
    refine Keeps.cell_ (u := v5) ?_ rfl (.inr rfl) (.inl rfl) (.inl rfl) (.inl rfl)
    assumption
  clear_value v7
  have hv8 : Keeps 139724325830 (s) v8 := by
    unfold v8
    refine Keeps.foldl ?_ ?_
    · intro t24 x25
      refine Keeps.after (giveBank_keeps _ _ _) rfl ?_
      exact Keeps.refl _ _
    · assumption
  clear_value v8
  refine Keeps.foldl ?_ ?_
  · intro t30 x31
    refine Keeps.after (giveBank_keeps _ _ _) rfl ?_
    exact Keeps.refl _ _
  · assumption

theorem capturePins_keeps (s) : Keeps 268435464 s (capturePins s) := by
  unfold capturePins
  split
  rename_i z2 z3 z4 z5
  refine Keeps.tap_ (u := z4) ?_ rfl
  refine Keeps.snd_eq z5 ?_
  refine Keeps.after (State.freeBelow_keeps _ _) rfl ?_
  exact Keeps.refl _ _

theorem selectQuiet_keeps (ir) (dr) (s) : Keeps 8 s (selectQuiet ir dr s) := by
  unfold selectQuiet
  refine Keeps.tap_ (u := s) ?_ rfl
  exact Keeps.refl _ _

theorem enterHold_keeps (s) : Keeps 411377332207 s (enterHold s) := by
  unfold enterHold
  extract_lets v2 v3 v4 v5
  have hv3 : Keeps 411377332207 (s) v3 := by
    unfold v3
    refine Keeps.after (deviceReset_keeps _ _) rfl ?_
    exact Keeps.refl _ _
  clear_value v3
  refine Keeps.trans (t := v3) ?_ (fun p hp => by cases p <;> first | rfl | exact absurd hp (by decide) | exact fun h => h | exact Nat.le_refl _)
  assumption

theorem selectTaking_keeps (ir) (boundary) (s) : Keeps 411645767663 s (selectTaking ir boundary s) := by
  unfold selectTaking
  extract_lets v2 v3 v4
  have hv2 : Keeps 411645767663 (s) v2 := by
    unfold v2
    refine Keeps.ite ?_ ?_
    · exact Keeps.refl _ _
    · refine Keeps.after (enterHold_keeps _) rfl ?_
      exact Keeps.refl _ _
  clear_value v2
  have hv4 : Keeps 411645767663 (s) v4 := by
    unfold v4
    refine Keeps.tap_ (u := v2) ?_ rfl
    assumption
  clear_value v4
  refine Keeps.ite ?_ ?_
  · refine Keeps.after (capturePins_keeps _) rfl ?_
    assumption
  · assumption

theorem matchActions_keeps (u) (k) (s) : Keeps 34817 s (matchActions u k s) := by
  unfold matchActions
  extract_lets v2 v3
  have hv2 : Keeps 34817 (s) v2 := by
    unfold v2
    refine Keeps.ite ?_ ?_
    · exact Keeps.refl _ _
    · refine Keeps.after (pinAction_keeps _ _ _) rfl ?_
      exact Keeps.refl _ _
  clear_value v2
  have hv3 : Keeps 34817 (s) v3 := by
    unfold v3
    refine Keeps.ite ?_ ?_
    · assumption
    · refine Keeps.foldl ?_ ?_
      · intro t11 x12
        refine Keeps.ite ?_ ?_
        · refine Keeps.after (State.updChisel_keeps _ _ _) rfl ?_
          exact Keeps.refl _ _
        · exact Keeps.refl _ _
      · assumption
  clear_value v3
  refine Keeps.ite ?_ ?_
  · assumption
  · refine Keeps.ite ?_ ?_
    · refine Keeps.after (State.requestEntry_keeps _ _ _ _ _) rfl ?_
      assumption
    · assumption

theorem compareMatch_keeps (u) (s) : Keeps 1083393 s (compareMatch u s) := by
  unfold compareMatch
  refine Keeps.ite ?_ ?_
  · exact Keeps.refl _ _
  · refine Keeps.ite ?_ ?_
    · refine Keeps.after (State.updAdc_keeps _ _ _) rfl ?_
      exact Keeps.refl _ _
    · extract_lets v7
      clear_value v7
      refine Keeps.ite ?_ ?_
      · exact Keeps.refl _ _
      · refine Keeps.after (matchActions_keeps _ _ _) rfl ?_
        refine Keeps.after (State.updCmp_keeps _ _ _) rfl ?_
        refine Keeps.after (State.advance_keeps _ _) rfl ?_
        exact Keeps.refl _ _

theorem loadPeaks_keeps (s) : Keeps 268435458 s (loadPeaks s) := by
  unfold loadPeaks
  extract_lets v2 v3
  clear_value v2 v3
  split
  rename_i z5 z6 z7 z8
  split
  rename_i z10 z11 z12 z13
  split
  rename_i z15 z16 z17 z18
  split
  rename_i z20 z21 z22 z23
  extract_lets v25 v26
  clear_value v25
  refine Keeps.cell_ (u := z22) ?_ rfl (.inl rfl) (.inl rfl) (.inl rfl) (.inl rfl)
  refine Keeps.snd_eq z23 ?_
  refine Keeps.after (State.freeBelow_keeps _ _) rfl ?_
  refine Keeps.snd_eq z18 ?_
  refine Keeps.after (State.freeBelow_keeps _ _) rfl ?_
  refine Keeps.snd_eq z13 ?_
  refine Keeps.after (State.freeBelow_keeps _ _) rfl ?_
  refine Keeps.snd_eq z8 ?_
  refine Keeps.after (State.freeBelow_keeps _ _) rfl ?_
  exact Keeps.refl _ _

theorem closeTick_keeps (s) : Keeps 268959938 s (closeTick s) := by
  unfold closeTick
  extract_lets v2 v3 v4 v5
  clear_value v4
  have hv2 : Keeps 268959938 (s) v2 := by
    unfold v2
    refine Keeps.after (loadPeaks_keeps _) rfl ?_
    exact Keeps.refl _ _
  clear_value v2
  have hv5 : Keeps 268959938 (s) v5 := by
    unfold v5
    refine Keeps.ite ?_ ?_
    · refine Keeps.after (State.event_keeps _ _ _ _ _) rfl ?_
      refine Keeps.cell_ (u := v2) ?_ rfl (.inl rfl) (.inl rfl) (.inl rfl) (.inl rfl)
      assumption
    · assumption
  clear_value v5
  refine Keeps.ite ?_ ?_
  · refine Keeps.after (State.stream_keeps _ _ _ _ _) rfl ?_
    assumption
  · assumption

theorem changeLength_keeps (s) : Keeps 4323803138 s (changeLength s) := by
  unfold changeLength
  split
  · rename_i z2 z3
    exact Keeps.refl _ _
  · rename_i z5 z6 z7 z8
    refine Keeps.ite ?_ ?_
    · exact Keeps.refl _ _
    · extract_lets v12 v13 v14 v15 v16 v17 v18 v19 v20 v21 v22
      clear_value v12 v13 v14 v15 v21
      refine Keeps.trans (t := s) ?_ (fun p hp => by cases p <;> first | rfl | exact absurd hp (by decide) | exact fun h => h | exact Nat.le_refl _)
      exact Keeps.refl _ _

theorem openTick_keeps (s) : Keeps 4592238787 s (openTick s) := by
  unfold openTick
  extract_lets v2 v3 v4 v5 v6 v7
  clear_value v4
  have hv2 : Keeps 4592238787 (s) v2 := by
    unfold v2
    refine Keeps.after (changeLength_keeps _) rfl ?_
    exact Keeps.refl _ _
  clear_value v2
  have hv3 : Keeps 4592238787 (s) v3 := by
    unfold v3
    refine Keeps.after (closeTick_keeps _) rfl ?_
    refine Keeps.after (State.advanceTo_keeps _ _) rfl ?_
    assumption
  clear_value v3
  refine Keeps.trans (t := v3) ?_ (fun p hp => by cases p <;> first | rfl | exact absurd hp (by decide) | exact fun h => h | exact Nat.le_refl _)
  assumption

theorem sealPins_keeps (found) (s) : Keeps 1048576 s (sealPins found s) := by
  unfold sealPins
  refine Keeps.foldl ?_ ?_
  · intro t2 x3
    extract_lets v5 v6 v7
    split
    rename_i z9 z10 z11 z12
    refine Keeps.after (State.setGpio_keeps _ _ _) rfl ?_
    exact Keeps.refl _ _
  · exact Keeps.refl _ _

theorem inputSeal_keeps (found) (s) : Keeps 280504513 s (inputSeal found s) := by
  unfold inputSeal
  extract_lets v2 v3 v4 v5 v6
  clear_value v2
  have hv3 : Keeps 280504513 (s) v3 := by
    unfold v3
    refine Keeps.foldl ?_ ?_
    · intro t8 x9
      refine Keeps.after (State.updLathe_keeps _ _ _) rfl ?_
      exact Keeps.refl _ _
    · exact Keeps.refl _ _
  clear_value v3
  have hv4 : Keeps 280504513 (s) v4 := by
    unfold v4
    refine Keeps.foldl ?_ ?_
    · intro t14 x15
      refine Keeps.after (State.updAdc_keeps _ _ _) rfl ?_
      exact Keeps.refl _ _
    · assumption
  clear_value v4
  have hv5 : Keeps 280504513 (s) v5 := by
    unfold v5
    refine Keeps.after (sealPins_keeps _ _) rfl ?_
    refine Keeps.after (sealCaptures_keeps _ _) rfl ?_
    assumption
  clear_value v5
  have hv6 : Keeps 280504513 (s) v6 := by
    unfold v6
    refine Keeps.ite ?_ ?_
    · assumption
    · refine Keeps.after (runSwitches_keeps _) rfl ?_
      assumption
  clear_value v6
  refine Keeps.after (phaseEvents_keeps _ _) rfl ?_
  assumption

theorem applyChange_keeps (s) (c) : Keeps 562651201602 s (applyChange s c) := by
  unfold applyChange
  split
  · rename_i z2 z3 z4
    refine Keeps.cell_ (u := s) ?_ rfl (.inl rfl) (.inr rfl) (.inr rfl) (.inl rfl)
    exact Keeps.refl _ _
  · rename_i z7 z8 z9
    refine Keeps.after (State.setZone_keeps _ _ _) rfl ?_
    exact Keeps.refl _ _
  · rename_i z12 z13
    refine Keeps.after (keepMap_keeps _) rfl ?_
    refine Keeps.fab_ (u := s) ?_ rfl
    exact Keeps.refl _ _
  · rename_i z17 z18
    refine Keeps.after (keepFabric_keeps _) rfl ?_
    refine Keeps.fab_ (u := s) ?_ rfl
    exact Keeps.refl _ _
  · rename_i z22 z23
    refine Keeps.fab_ (u := s) ?_ rfl
    exact Keeps.refl _ _
  · rename_i z26 z27 z28
    refine Keeps.after (State.updFabNode_keeps _ _ _) rfl ?_
    refine Keeps.after (adoptClaims_keeps _ _ _) rfl ?_
    refine Keeps.after (advanceEpoch_keeps _ _) rfl ?_
    exact Keeps.refl _ _

theorem applyAnn_keeps (s) (d) : Keeps 276824064 s (applyAnn s d) := by
  unfold applyAnn
  extract_lets v2
  clear_value v2
  split
  · rename_i z4 z5
    exact Keeps.refl _ _
  · rename_i z7 z8 z9 z10 z11 z12 z13
    extract_lets v15
    have hv15 : Keeps 276824064 (s) v15 := by
      unfold v15
      refine Keeps.after (State.setFabNode_keeps _ _ _) rfl ?_
      exact Keeps.refl _ _
    clear_value v15
    refine Keeps.ite ?_ ?_
    · assumption
    · split
      rename_i z21 z22 z23 z24
      refine Keeps.fab_ (u := z23) ?_ rfl
      refine Keeps.snd_eq z24 ?_
      refine Keeps.after (State.freeBelow_keeps _ _) rfl ?_
      assumption

theorem applyLeave_keeps (s) (d) : Keeps 549781504194 s (applyLeave s d) := by
  unfold applyLeave
  refine Keeps.ite ?_ ?_
  · refine Keeps.after (State.completeCmd_keeps _ _ _ _) rfl ?_
    refine Keeps.after (leaveFabric_keeps _) rfl ?_
    exact Keeps.refl _ _
  · extract_lets v6 v7
    have hv6 : Keeps 549781504194 (s) v6 := by
      unfold v6
      refine Keeps.after (removeMember_keeps _ _) rfl ?_
      exact Keeps.refl _ _
    clear_value v6
    refine Keeps.fab_ (u := v6) ?_ rfl
    assumption

theorem applyRestore_keeps (s) (d) : Keeps 549781504066 s (applyRestore s d) := by
  unfold applyRestore
  extract_lets v2
  have hv2 : Keeps 549781504066 (s) v2 := by
    unfold v2
    refine Keeps.after (State.updFabNode_keeps _ _ _) rfl ?_
    exact Keeps.refl _ _
  clear_value v2
  refine Keeps.ite ?_ ?_
  · refine Keeps.after (takeRole_keeps _ _) rfl ?_
    assumption
  · assumption

theorem judgeRing_keeps (s) (r) : Keeps 277348416 s (judgeRing s r) := by
  unfold judgeRing
  extract_lets v2 v3 v4
  clear_value v2 v3
  have hv4 : Keeps 277348416 (s) v4 := by
    unfold v4
    refine Keeps.after (State.setFabRing_keeps _ _ _) rfl ?_
    exact Keeps.refl _ _
  clear_value v4
  refine Keeps.ite ?_ ?_
  · assumption
  · split
    rename_i z10 z11 z12 z13
    refine Keeps.after (announce_keeps _) rfl ?_
    refine Keeps.after (State.record_keeps _ _ _ _) rfl ?_
    refine Keeps.snd_eq z13 ?_
    refine Keeps.after (State.freeBelow_keeps _ _) rfl ?_
    assumption

theorem listenerJoins_keeps (s) : Keeps 549781504066 s (listenerJoins s) := by
  unfold listenerJoins
  extract_lets v2
  clear_value v2
  refine Keeps.ite ?_ ?_
  · refine Keeps.after (takeRole_keeps _ _) rfl ?_
    exact Keeps.refl _ _
  · exact Keeps.refl _ _

theorem fabricEdge_keeps (roles) (s) : Keeps 562936938690 s (fabricEdge roles s) := by
  unfold fabricEdge
  extract_lets v2 v3 v4 v5 v6 v7 v8 v9 v10 v11 v12 v13 v14
  clear_value v2 v6 v11 v12
  have hv4 : Keeps 562936938690 (s) v4 := by
    unfold v4
    refine Keeps.fab_ (u := s) ?_ rfl
    exact Keeps.refl _ _
  clear_value v4
  have hv5 : Keeps 562936938690 (s) v5 := by
    unfold v5
    refine Keeps.foldl ?_ ?_
    · intro t18 x19
      refine Keeps.after (applyChange_keeps _ _) rfl ?_
      exact Keeps.refl _ _
    · refine Keeps.after (advanceEpoch_keeps _ _) rfl ?_
      assumption
  clear_value v5
  have hv7 : Keeps 562936938690 (s) v7 := by
    unfold v7
    refine Keeps.foldl ?_ ?_
    · intro t25 x26
      refine Keeps.after (applyLeave_keeps _ _) rfl ?_
      exact Keeps.refl _ _
    · assumption
  clear_value v7
  have hv8 : Keeps 562936938690 (s) v8 := by
    unfold v8
    refine Keeps.foldl ?_ ?_
    · intro t31 x32
      refine Keeps.after (applyAnn_keeps _ _) rfl ?_
      exact Keeps.refl _ _
    · assumption
  clear_value v8
  have hv9 : Keeps 562936938690 (s) v9 := by
    unfold v9
    refine Keeps.foldl ?_ ?_
    · intro t37 x38
      refine Keeps.after (applyRestore_keeps _ _) rfl ?_
      exact Keeps.refl _ _
    · assumption
  clear_value v9
  have hv10 : Keeps 562936938690 (s) v10 := by
    unfold v10
    refine Keeps.foldl ?_ ?_
    · intro t43 x44
      refine Keeps.after (judgeRing_keeps _ _) rfl ?_
      exact Keeps.refl _ _
    · assumption
  clear_value v10
  have hv13 : Keeps 562936938690 (s) v13 := by
    unfold v13
    refine Keeps.foldl ?_ ?_
    · intro t49 x50
      refine Keeps.after (State.updFabNode_keeps _ _ _) rfl ?_
      exact Keeps.refl _ _
    · assumption
  clear_value v13
  refine Keeps.after (releaseWaiters_keeps _) rfl ?_
  refine Keeps.after (listenerJoins_keeps _) rfl ?_
  refine Keeps.fab_ (u := v13) ?_ rfl
  assumption

theorem rollCmd_keeps (c) (s) : Keeps 130 s (rollCmd c s) := by
  unfold rollCmd
  extract_lets v2
  have hv2 : Keeps 130 (s) v2 := by
    unfold v2
    refine Keeps.after (countRoll_keeps _ _) rfl ?_
    exact Keeps.refl _ _
  clear_value v2
  refine Keeps.ite ?_ ?_
  · refine Keeps.after (State.swapCmd_keeps _ _ _) rfl ?_
    assumption
  · refine Keeps.after (State.swapCmd_keeps _ _ _) rfl ?_
    assumption

theorem stepFirst_keeps (x : FirstPass) (c : HostCmd) : Keeps 566331703239 x.s (stepFirst x c).s := by
  unfold stepFirst
  split
  · split
    · exact Keeps.refl _ _
    · extract_lets ms r
      split
      · exact Keeps.refl _ _
      · split
        · exact (rollCmd_keeps _ _).mono rfl
        · exact (applyMembers_keeps _ _).mono rfl
  · split
    · split
      · exact (rollCmd_keeps _ _).mono rfl
      · exact (commitOne_keeps _ _ _).mono rfl
    · exact Keeps.refl _ _

theorem readOne_keeps (pre : State) (c : HostCmd) (s : State) : Keeps 566331703239 s (readOne pre c s) := by
  unfold readOne
  split
  · exact Keeps.after (State.swapCmd_keeps _ _ _) rfl (Keeps.freeCount_ (Keeps.refl _ _) rfl)
  · exact Keeps.refl _ _

theorem stepSecond_keeps (pre : State) (begun : List HostCmd) (failed : List (HostCmd × Reply)) (x : SecondPass) (c : HostCmd) :
    Keeps 566331703239 x.s (stepSecond pre begun failed x c).s := by
  unfold stepSecond
  split
  · exact Keeps.refl _ _
  · split
    · split
      · exact Keeps.after (State.swapCmd_keeps _ _ _) rfl (Keeps.ite ((State.closeTxn_keeps _ _).mono rfl) (Keeps.refl _ _))
      · split
        · exact Keeps.refl _ _
        · extract_lets id r
          split
          · exact Keeps.refl _ _
          · exact Keeps.after (State.swapCmd_keeps _ _ _) rfl (Keeps.after (State.closeTxn_keeps _ _) rfl ((applyMembers_keeps _ _).mono rfl))
    · split
      · exact Keeps.refl _ _
      · split
        · exact (readOne_keeps _ _ _).mono rfl
        · exact (commitOne_keeps _ _ _).mono rfl

theorem commitPasses_keeps (pre : State) (n : Nat) (bad : List (HostCmd × Reply)) (s : State) : Keeps 566331703239 s (commitPasses pre n bad s) := by
  induction n generalizing bad with
  | zero => exact Keeps.refl _ _
  | succ n ih =>
    unfold commitPasses
    extract_lets cs a b
    have ha : Keeps 566331703239 s a.s := Keeps.foldlOn FirstPass.s (fun x c => (stepFirst_keeps x c).mono rfl)
    have hb : Keeps 566331703239 s b.s := ha.trans (Keeps.foldlOn SecondPass.s (fun x c => (stepSecond_keeps pre a.begun a.failed x c).mono rfl))
    clear_value b
    split
    · exact ih _
    · exact hb

theorem sendMaster_keeps (s) (a) : Keeps 8388608 s (sendMaster s a) := by
  unfold sendMaster
  extract_lets v2 v3 v4 v5 v6 v7
  clear_value v2 v3 v4 v5
  have hv6 : Keeps 8388608 (s) v6 := by
    unfold v6
    refine Keeps.foldl ?_ ?_
    · intro t9 x10
      refine Keeps.after (State.tell_keeps _ _ _) rfl ?_
      exact Keeps.refl _ _
    · exact Keeps.refl _ _
  clear_value v6
  refine Keeps.ite ?_ ?_
  · exact Keeps.refl _ _
  · refine Keeps.fab_ (u := v6) ?_ rfl
    assumption

theorem closeMoves_keeps (s) (a) : Keeps 1048576 s (closeMoves s a) := by
  unfold closeMoves
  extract_lets v2 v3 v4 v5 v6
  clear_value v2 v3 v4 v5 v6
  refine Keeps.after (State.setAxis_keeps _ _ _) rfl ?_
  exact Keeps.refl _ _

theorem readyAxes_keeps (s) : Keeps 139985089 s (readyAxes s) := by
  unfold readyAxes
  extract_lets v2 v3 v4 v5
  clear_value v2 v4
  have hv3 : Keeps 139985089 (s) v3 := by
    unfold v3
    refine Keeps.foldl ?_ ?_
    · intro t7 x8
      refine Keeps.after (closeMoves_keeps _ _) rfl ?_
      refine Keeps.after (State.updAxis_keeps _ _ _) rfl ?_
      exact Keeps.refl _ _
    · exact Keeps.refl _ _
  clear_value v3
  refine Keeps.foldl ?_ ?_
  · intro t14 x15
    refine Keeps.after (State.axisFault_keeps _ _ _) rfl ?_
    exact Keeps.refl _ _
  · refine Keeps.wnw_ (u := v3) ?_ rfl
    assumption

theorem backgroundEdge_keeps (s) : Keeps 268959808 s (backgroundEdge s) := by
  unfold backgroundEdge
  extract_lets v2 v3
  have hv2 : Keeps 268959808 (s) v2 := by
    unfold v2
    refine Keeps.foldl ?_ ?_
    · intro t5 x6
      refine Keeps.after (stepCalib_keeps _ _) rfl ?_
      exact Keeps.refl _ _
    · exact Keeps.refl _ _
  clear_value v2
  have hv3 : Keeps 268959808 (s) v3 := by
    unfold v3
    refine Keeps.after (loadTaps_keeps _) rfl ?_
    assumption
  clear_value v3
  refine Keeps.foldl ?_ ?_
  · intro t13 x14
    refine Keeps.after (closeSecond_keeps _ _) rfl ?_
    exact Keeps.refl _ _
  · assumption

theorem edgeWork_keeps (found) (roles) (pre) : Keeps 600691441607 pre (edgeWork found roles pre) := by
  unfold edgeWork
  extract_lets v2 v3 v4 v5 v6 v7
  have hv2 : Keeps 600691441607 (pre) v2 := by
    unfold v2
    refine Keeps.ite ?_ ?_
    · refine Keeps.after (sliceLate_keeps _) rfl ?_
      exact Keeps.refl _ _
    · refine Keeps.after (applySlice_keeps _) rfl ?_
      exact Keeps.refl _ _
  clear_value v2
  have hv3 : Keeps 600691441607 (pre) v3 := by
    unfold v3
    refine Keeps.after (arbitrate_keeps _) rfl ?_
    refine Keeps.after (inputSeal_keeps _ _) rfl ?_
    assumption
  clear_value v3
  have hv4 : Keeps 600691441607 (pre) v4 := by
    unfold v4
    refine Keeps.after (fabricEdge_keeps _ _) rfl ?_
    refine Keeps.after (stoFaults_keeps _) rfl ?_
    refine Keeps.after (clearanceEdge_keeps _) rfl ?_
    assumption
  clear_value v4
  have hv5 : Keeps 600691441607 (pre) v5 := by
    unfold v5
    refine Keeps.after (commitPasses_keeps _ _ _ _) rfl ?_
    assumption
  clear_value v5
  have hv6 : Keeps 600691441607 (pre) v6 := by
    unfold v6
    refine Keeps.foldl ?_ ?_
    · intro t23 x24
      refine Keeps.after (ddEdge_keeps _ _) rfl ?_
      exact Keeps.refl _ _
    · assumption
  clear_value v6
  have hv7 : Keeps 600691441607 (pre) v7 := by
    unfold v7
    refine Keeps.after (mandrelPass_keeps _) rfl ?_
    refine Keeps.after (mandrelClaims_keeps _) rfl ?_
    assumption
  clear_value v7
  refine Keeps.foldl ?_ ?_
  · intro t32 x33
    refine Keeps.after (sendMaster_keeps _ _) rfl ?_
    exact Keeps.refl _ _
  · assumption

theorem edgeEnd_keeps (s) : Keeps 961535799287 s (edgeEnd s) := by
  unfold edgeEnd
  extract_lets v2 v3 v4 v5 v6 v7
  have hv2 : Keeps 961535799287 (s) v2 := by
    unfold v2
    refine Keeps.after (backgroundEdge_keeps _) rfl ?_
    refine Keeps.after (readyAxes_keeps _) rfl ?_
    exact Keeps.refl _ _
  clear_value v2
  have hv4 : Keeps 961535799287 (s) v4 := by
    unfold v4
    refine Keeps.motion_ (u := v2) ?_ rfl
    assumption
  clear_value v4
  have hv5 : Keeps 961535799287 (s) v5 := by
    unfold v5
    refine Keeps.foldl ?_ ?_
    · intro t14 x15
      refine Keeps.after (syncEnv_keeps _ _) rfl ?_
      exact Keeps.refl _ _
    · refine Keeps.after (sendCycles_keeps _) rfl ?_
      assumption
  clear_value v5
  have hv6 : Keeps 961535799287 (s) v6 := by
    unfold v6
    refine Keeps.after (postCredits_keeps _ _) rfl ?_
    refine Keeps.after (postCredits_keeps _ _) rfl ?_
    refine Keeps.after (dropSilent_keeps _) rfl ?_
    assumption
  clear_value v6
  have hv7 : Keeps 961535799287 (s) v7 := by
    unfold v7
    refine Keeps.ite ?_ ?_
    · refine Keeps.after (keepConfig_keeps _) rfl ?_
      assumption
    · assumption
  clear_value v7
  refine Keeps.after (moveSpare_keeps _) rfl ?_
  refine Keeps.after (markBlocks_keeps _) rfl ?_
  assumption

theorem noteConsumed_keeps (s) : Keeps 4194304 s (noteConsumed s) := by
  unfold noteConsumed
  extract_lets v2
  clear_value v2
  refine Keeps.foldl ?_ ?_
  · intro t4 x5
    split
    · rename_i z7 z8 z9
      refine Keeps.ite ?_ ?_
      · extract_lets v12 v13
        clear_value v12
        refine Keeps.glume_ (u := t4) ?_ rfl (.inl rfl) (.inl rfl)
        exact Keeps.refl _ _
      · exact Keeps.refl _ _
    · rename_i z17 z18
      exact Keeps.refl _ _
  · exact Keeps.refl _ _

theorem noteMarks_keeps (s) : Keeps 2 s (noteMarks s) := by
  unfold noteMarks
  extract_lets v2 v3 v4
  clear_value v2 v3
  refine Keeps.cell_ (u := s) ?_ rfl (.inl rfl) (.inl rfl) (.inl rfl) (.inl rfl)
  exact Keeps.refl _ _

theorem traceAxes_keeps (s) : Keeps 524288 s (traceAxes s) := by
  unfold traceAxes
  refine Keeps.foldl ?_ ?_
  · intro t2 x3
    extract_lets v5
    clear_value v5
    refine Keeps.after (State.stream_keeps _ _ _ _ _) rfl ?_
    exact Keeps.refl _ _
  · exact Keeps.refl _ _

end Sys2Proof.Machine
end

