-- ==== Sys2Proof/Laws/FramesExec.lean ====
section
/-! SUPPORT. Frames of the meanings, one lemma per command: the mask names the parts the command may change (`Part.bit`); every
other part is as before. -/

namespace Sys2Proof.Machine

theorem execTillerUpdate_keeps (a) (entryBad) (recordBad) (ecc) (s) : Res 156762307 s (execTillerUpdate a entryBad recordBad ecc s) := by
  unfold execTillerUpdate
  refine Res.onUnit ?_
  refine Keeps.after (tillerUpdate_keeps _ _ _ _ _) rfl ?_
  exact Keeps.refl _ _

theorem execTillerWatchdog_keeps (n) (s) : Res 1572864 s (execTillerWatchdog n s) := by
  unfold execTillerWatchdog
  refine Res.onUnit ?_
  refine Keeps.after (tillerWatchdog_keeps _ _) rfl ?_
  exact Keeps.refl _ _

theorem execAxisBind_keeps (h) (a) (s) : Res 1048704 s (execAxisBind h a s) := by
  unfold execAxisBind
  refine commitHost_keeps rfl ?_
  refine Keeps.after (runAxisBind_keeps _ _ _) rfl ?_
  exact Keeps.refl _ _

theorem execAxisConfig_keeps (h) (a) (s) : Res 1048704 s (execAxisConfig h a s) := by
  unfold execAxisConfig
  refine commitHost_keeps rfl ?_
  refine Keeps.after (runAxisConfig_keeps _ _ _) rfl ?_
  exact Keeps.refl _ _

theorem execAxisSetLimits_keeps (h) (a) (s) : Res 270008512 s (execAxisSetLimits h a s) := by
  unfold execAxisSetLimits
  refine commitHost_keeps rfl ?_
  refine Keeps.after (runAxisSetLimits_keeps _ _ _) rfl ?_
  exact Keeps.refl _ _

theorem execAxisSetLoop_keeps (h) (a) (s) : Res 1048704 s (execAxisSetLoop h a s) := by
  unfold execAxisSetLoop
  refine commitHost_keeps rfl ?_
  refine Keeps.after (runAxisSetLoop_keeps _ _ _) rfl ?_
  exact Keeps.refl _ _

theorem execAxisSetNotch_keeps (h) (a) (s) : Res 1048704 s (execAxisSetNotch h a s) := by
  unfold execAxisSetNotch
  refine commitHost_keeps rfl ?_
  refine Keeps.after (runAxisSetNotch_keeps _ _ _) rfl ?_
  exact Keeps.refl _ _

theorem execAxisSwitchConfig_keeps (h) (a) (s) : Res 1048704 s (execAxisSwitchConfig h a s) := by
  unfold execAxisSwitchConfig
  refine commitHost_keeps rfl ?_
  refine Keeps.after (runAxisSwitchConfig_keeps _ _ _) rfl ?_
  exact Keeps.refl _ _

theorem execAxisSwitchClear_keeps (h) (a) (s) : Res 1048704 s (execAxisSwitchClear h a s) := by
  unfold execAxisSwitchClear
  refine commitHost_keeps rfl ?_
  refine Keeps.after (runAxisSwitchClear_keeps _ _ _) rfl ?_
  exact Keeps.refl _ _

theorem execAxisDdConfig_keeps (h) (a) (s) : Res 1048704 s (execAxisDdConfig h a s) := by
  unfold execAxisDdConfig
  refine commitHost_keeps rfl ?_
  refine Keeps.after (runAxisDdConfig_keeps _ _ _) rfl ?_
  exact Keeps.refl _ _

theorem execAxisDdPwm_keeps (h) (a) (s) : Res 1048704 s (execAxisDdPwm h a s) := by
  unfold execAxisDdPwm
  refine commitHost_keeps rfl ?_
  refine Keeps.after (runAxisDdPwm_keeps _ _ _) rfl ?_
  exact Keeps.refl _ _

theorem execAxisCamTable_keeps (h) (a) (s) : Res 1048704 s (execAxisCamTable h a s) := by
  unfold execAxisCamTable
  refine commitHost_keeps rfl ?_
  refine Keeps.after (runAxisCamTable_keeps _ _ _) rfl ?_
  exact Keeps.refl _ _

theorem execAxisStatus_keeps (h) (a) (s) : Res 128 s (execAxisStatus h a s) := by
  unfold execAxisStatus
  refine commitHost_keeps rfl ?_
  refine Keeps.after (runAxisStatus_keeps _ _ _) rfl ?_
  exact Keeps.refl _ _

theorem execDiagAxisLoop_keeps (h) (a) (s) : Res 128 s (execDiagAxisLoop h a s) := by
  unfold execDiagAxisLoop
  refine commitHost_keeps rfl ?_
  refine Keeps.after (runDiagAxisLoop_keeps _ _ _) rfl ?_
  exact Keeps.refl _ _

theorem execDiagAxisCounters_keeps (h) (a) (s) : Res 128 s (execDiagAxisCounters h a s) := by
  unfold execDiagAxisCounters
  refine commitHost_keeps rfl ?_
  refine Keeps.after (runDiagAxisCounters_keeps _ _ _) rfl ?_
  exact Keeps.refl _ _

theorem execDiagTiller_keeps (h) (a) (s) : Res 128 s (execDiagTiller h a s) := by
  unfold execDiagTiller
  refine commitHost_keeps rfl ?_
  refine Keeps.after (runDiagTiller_keeps _ _ _) rfl ?_
  exact Keeps.refl _ _

theorem execArmDefine_keeps (h) (a) (s) : Res 1048704 s (execArmDefine h a s) := by
  unfold execArmDefine
  refine commitHost_keeps rfl ?_
  refine Keeps.after (runArmDefine_keeps _ _ _) rfl ?_
  exact Keeps.refl _ _

theorem execArmSetDynamics_keeps (h) (a) (s) : Res 1048704 s (execArmSetDynamics h a s) := by
  unfold execArmSetDynamics
  refine commitHost_keeps rfl ?_
  refine Keeps.after (runArmSetDynamics_keeps _ _ _) rfl ?_
  exact Keeps.refl _ _

theorem execArmSetPayload_keeps (h) (a) (s) : Res 1048704 s (execArmSetPayload h a s) := by
  unfold execArmSetPayload
  refine commitHost_keeps rfl ?_
  refine Keeps.after (runArmSetPayload_keeps _ _ _) rfl ?_
  exact Keeps.refl _ _

theorem execArmSetLimits_keeps (h) (a) (s) : Res 269484160 s (execArmSetLimits h a s) := by
  unfold execArmSetLimits
  refine commitHost_keeps rfl ?_
  refine Keeps.after (runArmSetLimits_keeps _ _ _) rfl ?_
  exact Keeps.refl _ _

theorem execArmSetIk_keeps (h) (a) (s) : Res 1048704 s (execArmSetIk h a s) := by
  unfold execArmSetIk
  refine commitHost_keeps rfl ?_
  refine Keeps.after (runArmSetIk_keeps _ _ _) rfl ?_
  exact Keeps.refl _ _

theorem execArmSetTool_keeps (h) (a) (s) : Res 1048704 s (execArmSetTool h a s) := by
  unfold execArmSetTool
  refine commitHost_keeps rfl ?_
  refine Keeps.after (runArmSetTool_keeps _ _ _) rfl ?_
  exact Keeps.refl _ _

theorem execArmSetFrame_keeps (h) (a) (s) : Res 1048704 s (execArmSetFrame h a s) := by
  unfold execArmSetFrame
  refine commitHost_keeps rfl ?_
  refine Keeps.after (runArmSetFrame_keeps _ _ _) rfl ?_
  exact Keeps.refl _ _

theorem execArmSetClaim_keeps (h) (a) (s) : Res 1048704 s (execArmSetClaim h a s) := by
  unfold execArmSetClaim
  refine commitHost_keeps rfl ?_
  refine Keeps.after (runArmSetClaim_keeps _ _ _) rfl ?_
  exact Keeps.refl _ _

theorem execArmSetMode_keeps (h) (a) (s) : Res 1048704 s (execArmSetMode h a s) := by
  unfold execArmSetMode
  refine commitHost_keeps rfl ?_
  refine Keeps.after (runArmSetMode_keeps _ _ _) rfl ?_
  exact Keeps.refl _ _

theorem execArmMoveJoint_keeps (h) (a) (s) : Res 280494272 s (execArmMoveJoint h a s) := by
  unfold execArmMoveJoint
  refine commitHost_keeps rfl ?_
  refine Keeps.after (runArmMoveJoint_keeps _ _ _) rfl ?_
  exact Keeps.refl _ _

theorem execArmMoveCart_keeps (h) (a) (s) : Res 280494272 s (execArmMoveCart h a s) := by
  unfold execArmMoveCart
  refine commitHost_keeps rfl ?_
  refine Keeps.after (runArmMoveCart_keeps _ _ _) rfl ?_
  exact Keeps.refl _ _

theorem execArmMoveArc_keeps (h) (a) (s) : Res 280494272 s (execArmMoveArc h a s) := by
  unfold execArmMoveArc
  refine commitHost_keeps rfl ?_
  refine Keeps.after (runArmMoveArc_keeps _ _ _) rfl ?_
  exact Keeps.refl _ _

theorem execArmHold_keeps (h) (a) (s) : Res 269484160 s (execArmHold h a s) := by
  unfold execArmHold
  refine commitHost_keeps rfl ?_
  refine Keeps.after (runArmHold_keeps _ _ _) rfl ?_
  exact Keeps.refl _ _

theorem execArmResume_keeps (h) (a) (s) : Res 1048704 s (execArmResume h a s) := by
  unfold execArmResume
  refine commitHost_keeps rfl ?_
  refine Keeps.after (runArmResume_keeps _ _ _) rfl ?_
  exact Keeps.refl _ _

theorem execArmStop_keeps (h) (a) (s) : Res 279969920 s (execArmStop h a s) := by
  unfold execArmStop
  refine commitHost_keeps rfl ?_
  refine Keeps.after (runArmStop_keeps _ _ _) rfl ?_
  exact Keeps.refl _ _

theorem execArmJog_keeps (h) (a) (s) : Res 280494272 s (execArmJog h a s) := by
  unfold execArmJog
  refine commitHost_keeps rfl ?_
  refine Keeps.after (runArmJog_keeps _ _ _) rfl ?_
  exact Keeps.refl _ _

theorem execArmStatus_keeps (h) (a) (s) : Res 268435584 s (execArmStatus h a s) := by
  unfold execArmStatus
  refine commitHost_keeps rfl ?_
  refine Keeps.after (runArmStatus_keeps _ _ _) rfl ?_
  exact Keeps.refl _ _

theorem execChkRunWrite_keeps (n) (fold) (w) (s) : Res 1024 s (execChkRunWrite n fold w s) := by
  unfold execChkRunWrite
  refine Res.onUnit ?_
  refine Keeps.after (chkRunWrite_keeps _ _ _ _) rfl ?_
  exact Keeps.refl _ _

theorem execChkCntRead_keeps (n) (s) : Res 67109888 s (execChkCntRead n s) := by
  unfold execChkCntRead
  refine Res.onUnit ?_
  refine Keeps.after (chkCntRead_keeps _ _) rfl ?_
  exact Keeps.refl _ _

theorem execMbxDataWrite_keeps (m) (ch) (w) (s) : Res 134218624 s (execMbxDataWrite m ch w s) := by
  unfold execMbxDataWrite
  refine Res.next ?_
  refine Keeps.after (mbxWrite_keeps _ _ _ _) rfl ?_
  exact Keeps.refl _ _

theorem execRemoteWord_keeps (node) (ch) (w) (s) : Res 134218112 s (execRemoteWord node ch w s) := by
  unfold execRemoteWord
  refine Res.next ?_
  refine Keeps.after (remoteWord_keeps _ _ _ _) rfl ?_
  exact Keeps.refl _ _

theorem execReceiverDomainUp_keeps (m) (s) : Res 256 s (execReceiverDomainUp m s) := by
  unfold execReceiverDomainUp
  refine Res.next ?_
  refine Keeps.ite ?_ ?_
  · refine Keeps.mbx_ (u := s) ?_ rfl (.inl rfl)
    exact Keeps.refl _ _
  · exact Keeps.refl _ _

theorem execMbxLockRead_keeps (m) (k) (s) : Res 67109120 s (execMbxLockRead m k s) := by
  unfold execMbxLockRead
  refine Res.next ?_
  refine Keeps.after (lockRead_keeps _ _ _) rfl ?_
  exact Keeps.refl _ _

theorem execMbxLockWrite_keeps (m) (k) (x2) (s) : Res 524736 s (execMbxLockWrite m k x2 s) := by
  unfold execMbxLockWrite
  refine Res.next ?_
  refine Keeps.after (lockWrite_keeps _ _ _) rfl ?_
  exact Keeps.refl _ _

theorem execMbxDbPendWrite_keeps (m) (w) (s) : Res 134217984 s (execMbxDbPendWrite m w s) := by
  unfold execMbxDbPendWrite
  refine Res.next ?_
  refine Keeps.after (dbPendWrite_keeps _ _ _) rfl ?_
  exact Keeps.refl _ _

theorem execMbxDbEnableWrite_keeps (m) (w) (s) : Res 134217984 s (execMbxDbEnableWrite m w s) := by
  unfold execMbxDbEnableWrite
  refine Res.next ?_
  refine Keeps.after (dbEnableWrite_keeps _ _ _) rfl ?_
  exact Keeps.refl _ _

theorem execMbxDbRingWrite_keeps (m) (w) (s) : Res 134218112 s (execMbxDbRingWrite m w s) := by
  unfold execMbxDbRingWrite
  refine Res.next ?_
  refine Keeps.after (dbRingWrite_keeps _ _ _) rfl ?_
  exact Keeps.refl _ _

theorem execMbxEvcntRead_keeps (m) (ch) (s) : Res 67109248 s (execMbxEvcntRead m ch s) := by
  unfold execMbxEvcntRead
  refine Res.next ?_
  refine Keeps.after (mbxEvcntRead_keeps _ _ _) rfl ?_
  exact Keeps.refl _ _

theorem execMbxDbEvcntRead_keeps (m) (j) (s) : Res 67109120 s (execMbxDbEvcntRead m j s) := by
  unfold execMbxDbEvcntRead
  refine Res.next ?_
  refine Keeps.after (dbEvcntRead_keeps _ _ _) rfl ?_
  exact Keeps.refl _ _

theorem execMbxBindWrite_keeps (m) (ch) (w) (s) : Res 256 s (execMbxBindWrite m ch w s) := by
  unfold execMbxBindWrite
  refine Res.next ?_
  refine Keeps.after (mbxBindWrite_keeps _ _ _ _) rfl ?_
  exact Keeps.refl _ _

theorem execMbxBindLockWrite_keeps (m) (w) (s) : Res 274877907200 s (execMbxBindLockWrite m w s) := by
  unfold execMbxBindLockWrite
  refine Res.next ?_
  refine Keeps.after (mbxBindLock_keeps _ _ _) rfl ?_
  exact Keeps.refl _ _

theorem execPoolOwnerWrite_keeps (m) (b) (w) (s) : Res 512 s (execPoolOwnerWrite m b w s) := by
  unfold execPoolOwnerWrite
  refine Res.next ?_
  refine Keeps.after (poolOwnerWrite_keeps _ _ _ _) rfl ?_
  exact Keeps.refl _ _

theorem execPoolHandoverComplete_keeps (b) (s) : Res 512 s (execPoolHandoverComplete b s) := by
  unfold execPoolHandoverComplete
  refine Res.next ?_
  refine Keeps.after (handoverDone_keeps _ _) rfl ?_
  exact Keeps.refl _ _

theorem execPoolEccRead_keeps (b) (s) : Res 67109376 s (execPoolEccRead b s) := by
  unfold execPoolEccRead
  refine Res.onUnit ?_
  refine Keeps.after (poolEccRead_keeps _ _) rfl ?_
  exact Keeps.refl _ _

theorem execChsPause_keeps (k) (n) (s) : Res 34816 s (execChsPause k n s) := by
  unfold execChsPause
  refine chsStep_keeps rfl (fun _ => ?_)
  rename_i z2
  refine Keeps.after (State.setEngine_keeps _ _ _) rfl ?_
  exact Keeps.refl _ _

theorem execChsPins_keeps (k) (value) (mask) (tgt) (s) : Res 34816 s (execChsPins k value mask tgt s) := by
  unfold execChsPins
  refine chsStep_keeps rfl (fun _ => ?_)
  rename_i z2
  refine Keeps.after (State.setEngine_keeps _ _ _) rfl ?_
  exact Keeps.refl _ _

theorem execChsEmit_keeps (k) (n) (w) (duplex) (ins) (s) : Res 134252544 s (execChsEmit k n w duplex ins s) := by
  unfold execChsEmit
  refine chsStep_keeps rfl (fun _ => ?_)
  rename_i z2
  refine Keeps.after (emitOn_keeps _ _ _ _ _ _ _) rfl ?_
  exact Keeps.refl _ _

theorem execChsSample_keeps (k) (n) (w) (ins) (s) : Res 34816 s (execChsSample k n w ins s) := by
  unfold execChsSample
  refine chsStep_keeps rfl (fun _ => ?_)
  rename_i z2
  refine Keeps.after (State.setEngine_keeps _ _ _) rfl ?_
  exact Keeps.refl _ _

theorem execChsBranch_keeps (k) (cond) (w) (target) (lvl) (s) : Res 34816 s (execChsBranch k cond w target lvl s) := by
  unfold execChsBranch
  refine chsStep_keeps rfl (fun _ => ?_)
  rename_i z2
  extract_lets v4 v5
  clear_value v4 v5
  refine Keeps.after (State.setEngine_keeps _ _ _) rfl ?_
  exact Keeps.refl _ _

theorem execChsAwait_keeps (k) (level) (src) (idx) (lvl) (s) : Res 34816 s (execChsAwait k level src idx lvl s) := by
  unfold execChsAwait
  refine chsStep_keeps rfl (fun _ => ?_)
  rename_i z2
  refine Keeps.ite ?_ ?_
  · extract_lets v5
    clear_value v5
    refine Keeps.ite ?_ ?_
    · refine Keeps.after (State.setEngine_keeps _ _ _) rfl ?_
      refine Keeps.after (State.setChisel_keeps _ _ _) rfl ?_
      exact Keeps.refl _ _
    · refine Keeps.after (State.setEngine_keeps _ _ _) rfl ?_
      exact Keeps.refl _ _
  · refine Keeps.ite ?_ ?_
    · refine Keeps.after (State.setEngine_keeps _ _ _) rfl ?_
      exact Keeps.refl _ _
    · refine Keeps.after (State.setEngine_keeps _ _ _) rfl ?_
      exact Keeps.refl _ _

theorem execChsAwaitTimeout_keeps (k) (s) : Res 32768 s (execChsAwaitTimeout k s) := by
  unfold execChsAwaitTimeout
  extract_lets v2
  clear_value v2
  refine Res.onUnit ?_
  split
  · rename_i z5 z6 z7 z8
    refine Keeps.after (State.setEngine_keeps _ _ _) rfl ?_
    exact Keeps.refl _ _
  · rename_i z11 z12
    exact Keeps.refl _ _

theorem execAwaitMatch_keeps (k) (waited) (s) : Res 32768 s (execAwaitMatch k waited s) := by
  unfold execAwaitMatch
  extract_lets v2
  clear_value v2
  refine Res.onUnit ?_
  split
  · rename_i z5 z6 z7 z8 z9
    refine Keeps.after (State.setEngine_keeps _ _ _) rfl ?_
    exact Keeps.refl _ _
  · rename_i z12 z13
    exact Keeps.refl _ _

theorem execChsCopy_keeps (k) (dst) (src) (op) (lvls) (s) : Res 268470272 s (execChsCopy k dst src op lvls s) := by
  unfold execChsCopy
  refine chsStep_keeps rfl (fun _ => ?_)
  rename_i z2
  split
  rename_i z4 z5 z6 z7
  extract_lets v9
  clear_value v9
  refine Keeps.after (State.setEngine_keeps _ _ _) rfl ?_
  refine Keeps.snd_eq z7 ?_
  refine Keeps.after (copySource_keeps _ _ _ _) rfl ?_
  exact Keeps.refl _ _

theorem execChsData_keeps (k) (fetch) (whole) (s) : Res 34816 s (execChsData k fetch whole s) := by
  unfold execChsData
  refine chsStep_keeps rfl (fun _ => ?_)
  rename_i z2
  refine Keeps.after (State.setEngine_keeps _ _ _) rfl ?_
  exact Keeps.refl _ _

theorem execChsLoad_keeps (k) (one) (value) (s) : Res 34816 s (execChsLoad k one value s) := by
  unfold execChsLoad
  refine chsStep_keeps rfl (fun _ => ?_)
  rename_i z2
  extract_lets v4
  clear_value v4
  refine Keeps.after (State.setEngine_keeps _ _ _) rfl ?_
  exact Keeps.refl _ _

theorem execChsSignal_keeps (k) (op) (idx) (s) : Res 34816 s (execChsSignal k op idx s) := by
  unfold execChsSignal
  refine chsStep_keeps rfl (fun _ => ?_)
  rename_i z2
  extract_lets v4 v5 v6 v7 v8
  clear_value v4 v6 v7
  have hv5 : Keeps 34816 (s) v5 := by
    unfold v5
    refine Keeps.after (State.setEngine_keeps _ _ _) rfl ?_
    exact Keeps.refl _ _
  clear_value v5
  have hv8 : Keeps 34816 (s) v8 := by
    unfold v8
    refine Keeps.after (State.setChisel_keeps _ _ _) rfl ?_
    assumption
  clear_value v8
  refine Keeps.ite ?_ ?_
  · refine Keeps.ite ?_ ?_
    · refine Keeps.after (chsEntry_keeps _ _) rfl ?_
      assumption
    · assumption
  · refine Keeps.ite ?_ ?_
    · refine Keeps.after (syncMatch_keeps _ _ _ _) rfl ?_
      refine Keeps.after (State.setChisel_keeps _ _ _) rfl ?_
      assumption
    · refine Keeps.after (syncMatch_keeps _ _ _ _) rfl ?_
      refine Keeps.after (State.setChisel_keeps _ _ _) rfl ?_
      assumption

theorem execChiselFifoResume_keeps (k) (ins) (s) : Res 134250496 s (execChiselFifoResume k ins s) := by
  unfold execChiselFifoResume
  refine Res.onUnit ?_
  refine Keeps.after (resumeEngine_keeps _ _ _) rfl ?_
  exact Keeps.refl _ _

theorem execChiselStart_keeps (g) (mask) (clr) (s) : Res 32768 s (execChiselStart g mask clr s) := by
  unfold execChiselStart
  refine Res.onUnit ?_
  refine Keeps.after (State.updChisel_keeps _ _ _) rfl ?_
  exact Keeps.refl _ _

theorem execChiselClockRestart_keeps (g) (mask) (s) : Res 32768 s (execChiselClockRestart g mask s) := by
  unfold execChiselClockRestart
  refine Res.onUnit ?_
  refine Keeps.after (State.updChisel_keeps _ _ _) rfl ?_
  exact Keeps.refl _ _

theorem execChiselStop_keeps (g) (mask) (s) : Res 32768 s (execChiselStop g mask s) := by
  unfold execChiselStop
  refine Res.onUnit ?_
  refine Keeps.after (State.updChisel_keeps _ _ _) rfl ?_
  exact Keeps.refl _ _

theorem execChsCtrlWrite_keeps (g) (w) (s) : Res 32768 s (execChsCtrlWrite g w s) := by
  unfold execChsCtrlWrite
  refine Res.onUnit ?_
  refine Keeps.after (State.updChisel_keeps _ _ _) rfl ?_
  exact Keeps.refl _ _

theorem execChsStoreWrite_keeps (g) (a) (w) (s) : Res 32768 s (execChsStoreWrite g a w s) := by
  unfold execChsStoreWrite
  refine Res.onUnit ?_
  refine Keeps.after (State.updChisel_keeps _ _ _) rfl ?_
  exact Keeps.refl _ _

theorem execChsEDinWrite_keeps (k) (w) (s) : Res 32768 s (execChsEDinWrite k w s) := by
  unfold execChsEDinWrite
  refine Res.onUnit ?_
  refine Keeps.after (State.setEngine_keeps _ _ _) rfl ?_
  exact Keeps.refl _ _

theorem execChsEDoutRead_keeps (k) (s) : Res 67141632 s (execChsEDoutRead k s) := by
  unfold execChsEDoutRead
  refine Res.onUnit ?_
  refine Keeps.after (doutRead_keeps _ _) rfl ?_
  exact Keeps.refl _ _

theorem execChsGcntRead_keeps (g) (s) : Res 67141632 s (execChsGcntRead g s) := by
  unfold execChsGcntRead
  refine Res.onUnit ?_
  refine Keeps.after (chsGcntRead_keeps _ _) rfl ?_
  exact Keeps.refl _ _

theorem execChsECntRead_keeps (k) (s) : Res 67141632 s (execChsECntRead k s) := by
  unfold execChsECntRead
  refine Res.onUnit ?_
  refine Keeps.after (chsCntRead_keeps _ _) rfl ?_
  exact Keeps.refl _ _

theorem execCanFrameReceive_keeps (n) (own) (f) (s) : Res 268503040 s (execCanFrameReceive n own f s) := by
  unfold execCanFrameReceive
  refine Res.onUnit ?_
  refine Keeps.after (canReceive_keeps _ _ _ _) rfl ?_
  exact Keeps.refl _ _

theorem execCanProtocolException_keeps (n) (s) : Res 65536 s (execCanProtocolException n s) := by
  unfold execCanProtocolException
  refine Res.after (onCan_keeps _ _ _) rfl ?_
  exact Keeps.refl _ _

theorem execCanIntegrationEnd_keeps (n) (s) : Res 65536 s (execCanIntegrationEnd n s) := by
  unfold execCanIntegrationEnd
  refine Res.after (onCan_keeps _ _ _) rfl ?_
  exact Keeps.refl _ _

theorem execCanTxLoad_keeps (n) (b) (s) : Res 65536 s (execCanTxLoad n b s) := by
  unfold execCanTxLoad
  refine Res.after (onCan_keeps _ _ _) rfl ?_
  exact Keeps.refl _ _

theorem execCanTxCancel_keeps (n) (b) (s) : Res 65536 s (execCanTxCancel n b s) := by
  unfold execCanTxCancel
  refine Res.after (onCan_keeps _ _ _) rfl ?_
  exact Keeps.refl _ _

theorem execCanTxRelease_keeps (n) (b) (s) : Res 65536 s (execCanTxRelease n b s) := by
  unfold execCanTxRelease
  refine Res.after (onCan_keeps _ _ _) rfl ?_
  exact Keeps.refl _ _

theorem execCanBusoffRecoveryStart_keeps (n) (s) : Res 65536 s (execCanBusoffRecoveryStart n s) := by
  unfold execCanBusoffRecoveryStart
  refine Res.after (onCan_keeps _ _ _) rfl ?_
  exact Keeps.refl _ _

theorem execCanRxFetchWrite_keeps (n) (v) (s) : Res 65536 s (execCanRxFetchWrite n v s) := by
  unfold execCanRxFetchWrite
  refine Res.after (onCan_keeps _ _ _) rfl ?_
  exact Keeps.refl _ _

theorem execCanTxChoice_keeps (n) (s) : Res 134283264 s (execCanTxChoice n s) := by
  unfold execCanTxChoice
  refine Res.onUnit ?_
  refine Keeps.after (canChoice_keeps _ _) rfl ?_
  exact Keeps.refl _ _

theorem execCanAttemptEnd_keeps (n) (r) (s) : Res 67584 s (execCanAttemptEnd n r s) := by
  unfold execCanAttemptEnd
  refine Res.onUnit ?_
  refine Keeps.after (canAttemptEnd_keeps _ _ _) rfl ?_
  exact Keeps.refl _ _

theorem execCanRecoveryEnd_keeps (n) (s) : Res 65536 s (execCanRecoveryEnd n s) := by
  unfold execCanRecoveryEnd
  refine Res.after (onCan_keeps _ _ _) rfl ?_
  exact Keeps.refl _ _

theorem execCanCnt0Read_keeps (n) (s) : Res 67174400 s (execCanCnt0Read n s) := by
  unfold execCanCnt0Read
  refine Res.onUnit ?_
  refine Keeps.after (canCnt0Read_keeps _ _) rfl ?_
  exact Keeps.refl _ _

theorem execCanCnt1Read_keeps (n) (s) : Res 67174400 s (execCanCnt1Read n s) := by
  unfold execCanCnt1Read
  refine Res.onUnit ?_
  refine Keeps.after (canCnt1Read_keeps _ _) rfl ?_
  exact Keeps.refl _ _

theorem execCanReceiveError_keeps (n) (kind) (heavy) (s) : Res 65536 s (execCanReceiveError n kind heavy s) := by
  unfold execCanReceiveError
  refine Res.after (onCan_keeps _ _ _) rfl ?_
  exact Keeps.refl _ _

theorem execLatheRestart_keeps (e) (s) : Res 1074375168 s (execLatheRestart e s) := by
  unfold execLatheRestart
  refine Res.onUnit ?_
  refine Keeps.after (restartLathe_keeps _ _) rfl ?_
  exact Keeps.refl _ _

theorem execBackgroundWatchdog_keeps (e) (s) : Res 1074375168 s (execBackgroundWatchdog e s) := by
  unfold execBackgroundWatchdog
  refine Res.onUnit ?_
  refine Keeps.ite ?_ ?_
  · refine Keeps.after (restartLathe_keeps _ _) rfl ?_
    exact Keeps.refl _ _
  · exact Keeps.refl _ _

theorem execMigrationEnd_keeps (e) (s) : Res 2048 s (execMigrationEnd e s) := by
  unfold execMigrationEnd
  extract_lets v2
  clear_value v2
  refine Res.onUnit ?_
  refine Keeps.ite ?_ ?_
  · refine Keeps.after (endMigration_keeps _ _) rfl ?_
    exact Keeps.refl _ _
  · exact Keeps.refl _ _

theorem execGuardBandStart_keeps (s) : Res 10243 s (execGuardBandStart s) := by
  unfold execGuardBandStart
  extract_lets v2 v3
  have hv2 : Keeps 10243 (s) v2 := by
    unfold v2
    refine Keeps.after (State.advanceTo_keeps _ _) rfl ?_
    exact Keeps.refl _ _
  clear_value v2
  refine Res.next ?_
  refine Keeps.after (phaseEvents_keeps _ _) rfl ?_
  refine Keeps.cell_ (u := v2) ?_ rfl (.inl rfl) (.inl rfl) (.inl rfl) (.inl rfl)
  assumption

theorem execLatheReceiveEntry_keeps (e) (s) : Res 34816 s (execLatheReceiveEntry e s) := by
  unfold execLatheReceiveEntry
  refine Res.onUnit ?_
  refine Keeps.after (enterReceive_keeps _ _) rfl ?_
  exact Keeps.refl _ _

theorem execLthPostWrite_keeps (e) (w) (s) : Res 2048 s (execLthPostWrite e w s) := by
  unfold execLthPostWrite
  refine Res.onUnit ?_
  refine Keeps.after (postWrite_keeps _ _ _) rfl ?_
  exact Keeps.refl _ _

theorem execLthTelemWrite_keeps (e) (w) (s) : Res 526400 s (execLthTelemWrite e w s) := by
  unfold execLthTelemWrite
  refine Res.onUnit ?_
  refine Keeps.after (telemWrite_keeps _ _ _) rfl ?_
  exact Keeps.refl _ _

theorem execLatheInitStart_keeps (e) (s) : Res 2048 s (execLatheInitStart e s) := by
  unfold execLatheInitStart
  refine Res.onUnit ?_
  refine Keeps.after (initStart_keeps _ _) rfl ?_
  exact Keeps.refl _ _

theorem execLatheSwapExecute_keeps (e) (s) : Res 526785 s (execLatheSwapExecute e s) := by
  unfold execLatheSwapExecute
  refine Res.onUnit ?_
  refine Keeps.after (swapExecute_keeps _ _) rfl ?_
  exact Keeps.refl _ _

theorem execOutputAssembly_keeps (s) : Res 156762307 s (execOutputAssembly s) := by
  unfold execOutputAssembly
  extract_lets v2 v3 v4 v5 v6 v7 v8
  clear_value v2 v3 v7
  have hv5 : Keeps 156762307 (s) v5 := by
    unfold v5
    refine Keeps.ite ?_ ?_
    · refine Keeps.pair_ (u := s) ?_ rfl
      exact Keeps.refl _ _
    · exact Keeps.refl _ _
  clear_value v5
  have hv6 : Keeps 156762307 (s) v6 := by
    unfold v6
    refine Keeps.after (State.advanceTo_keeps _ _) rfl ?_
    assumption
  clear_value v6
  refine Res.next ?_
  refine Keeps.foldl ?_ ?_
  · intro t17 x18
    refine Keeps.after (ddStage_keeps _ _) rfl ?_
    exact Keeps.refl _ _
  · refine Keeps.cell_ (u := v6) ?_ rfl (.inl rfl) (.inl rfl) (.inl rfl) (.inl rfl)
    assumption

theorem execAxisSetMode_keeps (h) (a) (s) : Res 5243008 s (execAxisSetMode h a s) := by
  unfold execAxisSetMode
  refine commitHost_keeps rfl ?_
  refine Keeps.after (runAxisSetMode_keeps _ _ _) rfl ?_
  exact Keeps.refl _ _

theorem execAxisMove_keeps (h) (a) (s) : Res 270008512 s (execAxisMove h a s) := by
  unfold execAxisMove
  refine commitHost_keeps rfl ?_
  refine Keeps.after (runAxisMove_keeps _ _ _) rfl ?_
  exact Keeps.refl _ _

theorem execAxisMoveVel_keeps (h) (a) (s) : Res 270008512 s (execAxisMoveVel h a s) := by
  unfold execAxisMoveVel
  refine commitHost_keeps rfl ?_
  refine Keeps.after (runAxisMoveVel_keeps _ _ _) rfl ?_
  exact Keeps.refl _ _

theorem execAxisHold_keeps (h) (a) (s) : Res 269484160 s (execAxisHold h a s) := by
  unfold execAxisHold
  refine commitHost_keeps rfl ?_
  refine Keeps.after (runAxisHold_keeps _ _ _) rfl ?_
  exact Keeps.refl _ _

theorem execAxisResume_keeps (h) (a) (s) : Res 1048704 s (execAxisResume h a s) := by
  unfold execAxisResume
  refine commitHost_keeps rfl ?_
  refine Keeps.after (runAxisResume_keeps _ _ _) rfl ?_
  exact Keeps.refl _ _

theorem execAxisStop_keeps (h) (a) (s) : Res 280494273 s (execAxisStop h a s) := by
  unfold execAxisStop
  refine commitHost_keeps rfl ?_
  refine Keeps.after (runAxisStop_keeps _ _ _) rfl ?_
  exact Keeps.refl _ _

theorem execAxisGear_keeps (h) (a) (s) : Res 1048704 s (execAxisGear h a s) := by
  unfold execAxisGear
  refine commitHost_keeps rfl ?_
  refine Keeps.after (runAxisGear_keeps _ _ _) rfl ?_
  exact Keeps.refl _ _

theorem execAxisCam_keeps (h) (a) (s) : Res 1048704 s (execAxisCam h a s) := by
  unfold execAxisCam
  refine commitHost_keeps rfl ?_
  refine Keeps.after (runAxisCam_keeps _ _ _) rfl ?_
  exact Keeps.refl _ _

theorem execAxisHome_keeps (h) (a) (s) : Res 270008513 s (execAxisHome h a s) := by
  unfold execAxisHome
  refine commitHost_keeps rfl ?_
  refine Keeps.after (runAxisHome_keeps _ _ _) rfl ?_
  exact Keeps.refl _ _

theorem execAxisJog_keeps (h) (a) (s) : Res 274202816 s (execAxisJog h a s) := by
  unfold execAxisJog
  refine commitHost_keeps rfl ?_
  refine Keeps.after (runAxisJog_keeps _ _ _) rfl ?_
  exact Keeps.refl _ _

theorem execAxisDdAlign_keeps (h) (a) (s) : Res 5243008 s (execAxisDdAlign h a s) := by
  unfold execAxisDdAlign
  refine commitHost_keeps rfl ?_
  refine Keeps.after (runAxisDdAlign_keeps _ _ _) rfl ?_
  exact Keeps.refl _ _

theorem execSwitchChatter_keeps (pin) (sum) (s) : Res 270008513 s (execSwitchChatter pin sum s) := by
  unfold execSwitchChatter
  extract_lets v2 v3
  clear_value v2
  have hv3 : Keeps 270008513 (s) v3 := by
    unfold v3
    refine Keeps.after (State.event_keeps _ _ _ _ _) rfl ?_
    refine Keeps.after (State.updGpio_keeps _ _ _) rfl ?_
    exact Keeps.refl _ _
  clear_value v3
  refine Res.onUnit ?_
  refine Keeps.foldl ?_ ?_
  · intro t9 x10
    refine Keeps.after (wiringFault_keeps _ _) rfl ?_
    exact Keeps.refl _ _
  · assumption

theorem execHomingShift_keeps (a) (s) : Res 550025822401 s (execHomingShift a s) := by
  unfold execHomingShift
  extract_lets v2 v3 v4 v5
  clear_value v2 v3 v4 v5
  refine Res.onUnit ?_
  split
  · rename_i z8 z9 z10 z11 z12 z13 z14 z15 z16 z17 z18 z19 z20 z21 z22 z23 z24 z25 z26 z27 z28 z29 z30 z31 z32 z33 z34
    refine Keeps.ite ?_ ?_
    · exact Keeps.refl _ _
    · extract_lets v38 v39 v40 v41 v42 v43 v44 v45 v46 v47 v48 v49
      clear_value v38 v39 v40 v46 v47
      have hv41 : Keeps 550025822401 (s) v41 := by
        unfold v41
        refine Keeps.after (State.setAxis_keeps _ _ _) rfl ?_
        exact Keeps.refl _ _
      clear_value v41
      have hv42 : Keeps 550025822401 (s) v42 := by
        unfold v42
        refine Keeps.after (State.setGen_keeps _ _ _ _) rfl ?_
        assumption
      clear_value v42
      have hv43 : Keeps 550025822401 (s) v43 := by
        unfold v43
        refine Keeps.after (State.updCap_keeps _ _ _) rfl ?_
        assumption
      clear_value v43
      have hv44 : Keeps 550025822401 (s) v44 := by
        unfold v44
        refine Keeps.ite ?_ ?_
        · refine Keeps.after (State.retain_keeps _ _ _ _) rfl ?_
          assumption
        · assumption
      clear_value v44
      have hv45 : Keeps 550025822401 (s) v45 := by
        unfold v45
        refine Keeps.after (State.event_keeps _ _ _ _ _) rfl ?_
        assumption
      clear_value v45
      have hv48 : Keeps 550025822401 (s) v48 := by
        unfold v48
        refine Keeps.ite ?_ ?_
        · refine Keeps.after (State.updAxis_keeps _ _ _) rfl ?_
          assumption
        · assumption
      clear_value v48
      have hv49 : Keeps 550025822401 (s) v49 := by
        unfold v49
        refine Keeps.after (State.updAxis_keeps _ _ _) rfl ?_
        assumption
      clear_value v49
      refine Keeps.ite ?_ ?_
      · refine Keeps.after (homingDone_keeps _ _) rfl ?_
        assumption
      · refine Keeps.after (planTo_keeps _ _ _ _ _) rfl ?_
        assumption
  · rename_i z73 z74
    exact Keeps.refl _ _

theorem execHomeNotFound_keeps (a) (s) : Res 280494273 s (execHomeNotFound a s) := by
  unfold execHomeNotFound
  refine Res.onUnit ?_
  refine Keeps.ite ?_ ?_
  · refine Keeps.after (failHoming_keeps _ _ _) rfl ?_
    exact Keeps.refl _ _
  · exact Keeps.refl _ _

theorem execHomeNoIndex_keeps (a) (s) : Res 280494273 s (execHomeNoIndex a s) := by
  unfold execHomeNoIndex
  refine Res.onUnit ?_
  refine Keeps.ite ?_ ?_
  · refine Keeps.after (failHoming_keeps _ _ _) rfl ?_
    exact Keeps.refl _ _
  · exact Keeps.refl _ _

theorem execJogTimeout_keeps (a) (s) : Res 280494272 s (execJogTimeout a s) := by
  unfold execJogTimeout
  refine Res.ite ?_ ?_
  · extract_lets v3
    clear_value v3
    refine Res.onUnit ?_
    refine Keeps.ite ?_ ?_
    · exact Keeps.refl _ _
    · refine Keeps.after (State.event_keeps _ _ _ _ _) rfl ?_
      refine Keeps.after (State.updArm_keeps _ _ _) rfl ?_
      refine Keeps.after (stopOwner_keeps _ _) rfl ?_
      exact Keeps.refl _ _
  · refine Res.onUnit ?_
    refine Keeps.ite ?_ ?_
    · exact Keeps.refl _ _
    · refine Keeps.after (State.event_keeps _ _ _ _ _) rfl ?_
      refine Keeps.after (State.updAxis_keeps _ _ _) rfl ?_
      refine Keeps.after (stopOwner_keeps _ _) rfl ?_
      exact Keeps.refl _ _

theorem execBrakeOpenWait_keeps (a) (s) : Res 1048576 s (execBrakeOpenWait a s) := by
  unfold execBrakeOpenWait
  refine Res.onUnit ?_
  refine Keeps.after (State.updAxis_keeps _ _ _) rfl ?_
  exact Keeps.refl _ _

theorem execBrakeCloseWait_keeps (a) (s) : Res 5242880 s (execBrakeCloseWait a s) := by
  unfold execBrakeCloseWait
  refine Res.onUnit ?_
  refine Keeps.ite ?_ ?_
  · refine Keeps.after (leaveToDisabled_keeps _ _) rfl ?_
    exact Keeps.refl _ _
  · exact Keeps.refl _ _

theorem execDdAlignComplete_keeps (a) (s) : Res 5243008 s (execDdAlignComplete a s) := by
  unfold execDdAlignComplete
  extract_lets v2 v3 v4 v5 v6 v7
  clear_value v2 v3 v4
  have hv5 : Keeps 5243008 (s) v5 := by
    unfold v5
    refine Keeps.after (State.setAxis_keeps _ _ _) rfl ?_
    exact Keeps.refl _ _
  clear_value v5
  have hv7 : Keeps 5243008 (s) v7 := by
    unfold v7
    refine Keeps.glume_ (u := v5) ?_ rfl (.inl rfl) (.inl rfl)
    assumption
  clear_value v7
  refine Res.onUnit ?_
  refine Keeps.ite ?_ ?_
  · exact Keeps.refl _ _
  · refine Keeps.after (State.completeCmd_keeps _ _ _ _) rfl ?_
    assumption

theorem execConversionComplete_keeps (c) (i) (code) (s) : Res 139985089 s (execConversionComplete c i code s) := by
  unfold execConversionComplete
  extract_lets v2 v3 v4 v5 v6
  clear_value v2 v3 v5
  have hv4 : Keeps 139985089 (s) v4 := by
    unfold v4
    refine Keeps.after (State.updAdc_keeps _ _ _) rfl ?_
    exact Keeps.refl _ _
  clear_value v4
  have hv6 : ∀ a9 a10, Keeps 139985089 a9 (v6 a9 a10) := by
    intro a9 a10
    unfold v6
    refine Keeps.after (State.axisFault_keeps _ _ _) rfl ?_
    refine Keeps.after (State.updAxis_keeps _ _ _) rfl ?_
    exact Keeps.refl _ _
  clear_value v6
  refine Res.onUnit ?_
  refine Keeps.ite ?_ ?_
  · refine Keeps.foldl ?_ ?_
    · intro t17 x18
      refine Keeps.trans ?_ (hv6 _ _)
      exact Keeps.refl _ _
    · assumption
  · exact Keeps.refl _ _

theorem execSysIdentify_keeps (h) (a) (s) : Res 128 s (execSysIdentify h a s) := by
  unfold execSysIdentify
  refine commitHost_keeps rfl ?_
  refine Keeps.after (runSysIdentify_keeps _ _ _) rfl ?_
  exact Keeps.refl _ _

theorem execSysHostSetup_keeps (h) (a) (s) : Res 640 s (execSysHostSetup h a s) := by
  unfold execSysHostSetup
  refine commitHost_keeps rfl ?_
  refine Keeps.after (runSysHostSetup_keeps _ _ _) rfl ?_
  exact Keeps.refl _ _

theorem execSysStatus_keeps (h) (a) (s) : Res 128 s (execSysStatus h a s) := by
  unfold execSysStatus
  refine commitHost_keeps rfl ?_
  refine Keeps.after (runSysStatus_keeps _ _ _) rfl ?_
  exact Keeps.refl _ _

theorem execSysCancel_keeps (h) (a) (s) : Res 128 s (execSysCancel h a s) := by
  unfold execSysCancel
  refine commitHost_keeps rfl ?_
  refine Keeps.after (runSysCancel_keeps _ _ _) rfl ?_
  exact Keeps.refl _ _

theorem execSysEventMask_keeps (h) (a) (s) : Res 128 s (execSysEventMask h a s) := by
  unfold execSysEventMask
  refine commitHost_keeps rfl ?_
  refine Keeps.after (runSysEventMask_keeps _ _ _) rfl ?_
  exact Keeps.refl _ _

theorem execSysReset_keeps (h) (a) (s) : Res 132 s (execSysReset h a s) := by
  unfold execSysReset
  refine commitHost_keeps rfl ?_
  refine Keeps.after (runSysReset_keeps _ _ _) rfl ?_
  exact Keeps.refl _ _

theorem execCellSetTick_keeps (h) (a) (s) : Res 4571791490 s (execCellSetTick h a s) := by
  unfold execCellSetTick
  refine commitHost_keeps rfl ?_
  refine Keeps.after (runCellSetTick_keeps _ _ _) rfl ?_
  exact Keeps.refl _ _

theorem execCellSetState_keeps (h) (a) (s) : Res 2448949698 s (execCellSetState h a s) := by
  unfold execCellSetState
  refine commitHost_keeps rfl ?_
  refine Keeps.after (runCellSetState_keeps _ _ _) rfl ?_
  exact Keeps.refl _ _

theorem execCellStatus_keeps (h) (a) (s) : Res 128 s (execCellStatus h a s) := by
  unfold execCellStatus
  refine commitHost_keeps rfl ?_
  refine Keeps.after (runCellStatus_keeps _ _ _) rfl ?_
  exact Keeps.refl _ _

theorem execCellTxnBegin_keeps (h) (a) (s) : Res 268435584 s (execCellTxnBegin h a s) := by
  unfold execCellTxnBegin
  refine commitHost_keeps rfl ?_
  refine Keeps.after (runCellTxnBegin_keeps _ _ _) rfl ?_
  exact Keeps.refl _ _

theorem execCellTxnAbort_keeps (h) (a) (s) : Res 128 s (execCellTxnAbort h a s) := by
  unfold execCellTxnAbort
  refine commitHost_keeps rfl ?_
  refine Keeps.after (runCellTxnAbort_keeps _ _ _) rfl ?_
  exact Keeps.refl _ _

theorem execTxnExpiry_keeps (id) (s) : Res 524481 s (execTxnExpiry id s) := by
  unfold execTxnExpiry
  refine Res.next ?_
  split
  · rename_i z3 z4
    exact Keeps.refl _ _
  · rename_i z6 z7 z8
    refine Keeps.after (State.event_keeps _ _ _ _ _) rfl ?_
    refine Keeps.after (State.closeTxn_keeps _ _) rfl ?_
    refine Keeps.after (State.advanceTo_keeps _ _) rfl ?_
    exact Keeps.refl _ _

theorem execClaimHoldover_keeps (n) (s) : Res 10485760 s (execClaimHoldover n s) := by
  unfold execClaimHoldover
  refine Res.onUnit ?_
  refine Keeps.after (endWindow_keeps _ _) rfl ?_
  exact Keeps.refl _ _

theorem execZoneDefine_keeps (h) (a) (s) : Res 10485888 s (execZoneDefine h a s) := by
  unfold execZoneDefine
  refine commitHost_keeps rfl ?_
  refine Keeps.after (runZoneDefine_keeps _ _ _) rfl ?_
  exact Keeps.refl _ _

theorem execZoneUnblock_keeps (h) (a) (s) : Res 10485888 s (execZoneUnblock h a s) := by
  unfold execZoneUnblock
  refine commitHost_keeps rfl ?_
  refine Keeps.after (runZoneUnblock_keeps _ _ _) rfl ?_
  exact Keeps.refl _ _

theorem execZoneStatus_keeps (h) (a) (s) : Res 128 s (execZoneStatus h a s) := by
  unfold execZoneStatus
  refine commitHost_keeps rfl ?_
  refine Keeps.after (runZoneStatus_keeps _ _ _) rfl ?_
  exact Keeps.refl _ _

theorem execZoneCounters_keeps (h) (a) (s) : Res 128 s (execZoneCounters h a s) := by
  unfold execZoneCounters
  refine commitHost_keeps rfl ?_
  refine Keeps.after (runZoneCounters_keeps _ _ _) rfl ?_
  exact Keeps.refl _ _

theorem execTbOfsWrite_keeps (m) (n) (o) (s) : Res 1 s (execTbOfsWrite m n o s) := by
  unfold execTbOfsWrite
  refine Res.next ?_
  refine Keeps.after (tbOfsWrite_keeps _ _ _ _) rfl ?_
  exact Keeps.refl _ _

theorem execTbNsRead_keeps (m) (n) (s) : Res 67108865 s (execTbNsRead m n s) := by
  unfold execTbNsRead
  refine Res.next ?_
  refine Keeps.after (tbNsRead_keeps _ _ _) rfl ?_
  exact Keeps.refl _ _

theorem execTbConvHiWrite_keeps (m) (n) (w) (s) : Res 1 s (execTbConvHiWrite m n w s) := by
  unfold execTbConvHiWrite
  refine Res.next ?_
  refine Keeps.after (tbConvHiWrite_keeps _ _ _ _) rfl ?_
  exact Keeps.refl _ _

theorem execHoldoverTimeout_keeps (n) (s) : Res 524481 s (execHoldoverTimeout n s) := by
  unfold execHoldoverTimeout
  refine Res.onUnit ?_
  refine Keeps.after (enterHoldover_keeps _ _) rfl ?_
  exact Keeps.refl _ _

theorem execCmpTargetWrite_keeps (m) (u) (w) (s) : Res 1 s (execCmpTargetWrite m u w s) := by
  unfold execCmpTargetWrite
  refine Res.next ?_
  refine Keeps.after (cmpTargetWrite_keeps _ _ _ _) rfl ?_
  exact Keeps.refl _ _

theorem execCaptureEdge_keeps (p) (rising) (stamp) (s) : Res 1 s (execCaptureEdge p rising stamp s) := by
  unfold execCaptureEdge
  refine Res.onUnit ?_
  refine Keeps.after (captureEdge_keeps _ _ _ _) rfl ?_
  exact Keeps.refl _ _

theorem execCapHiRead_keeps (p) (s) : Res 67108865 s (execCapHiRead p s) := by
  unfold execCapHiRead
  refine Res.next ?_
  refine Keeps.after (capHiRead_keeps _ _) rfl ?_
  exact Keeps.refl _ _

theorem execTbStatusRead_keeps (n) (s) : Res 67108865 s (execTbStatusRead n s) := by
  unfold execTbStatusRead
  refine Res.next ?_
  refine Keeps.after (tbStatusRead_keeps _ _) rfl ?_
  exact Keeps.refl _ _

theorem execCmpStatusRead_keeps (u) (s) : Res 67108865 s (execCmpStatusRead u s) := by
  unfold execCmpStatusRead
  refine Res.next ?_
  refine Keeps.after (cmpStatusRead_keeps _ _) rfl ?_
  exact Keeps.refl _ _

theorem execCapStatusRead_keeps (p) (s) : Res 67108865 s (execCapStatusRead p s) := by
  unfold execCapStatusRead
  refine Res.next ?_
  refine Keeps.after (capStatusRead_keeps _ _) rfl ?_
  exact Keeps.refl _ _

theorem execTsInsCfgRead_keeps (n) (s) : Res 67108865 s (execTsInsCfgRead n s) := by
  unfold execTsInsCfgRead
  refine Res.next ?_
  refine Keeps.after (tsInsCfgRead_keeps _ _) rfl ?_
  exact Keeps.refl _ _

theorem execSafeLoad_keeps (h) (a) (s) : Res 4194432 s (execSafeLoad h a s) := by
  unfold execSafeLoad
  refine commitHost_keeps rfl ?_
  refine Keeps.after (runSafeLoad_keeps _ _ _) rfl ?_
  exact Keeps.refl _ _

theorem execSafeConfirm_keeps (h) (a) (s) : Res 4194432 s (execSafeConfirm h a s) := by
  unfold execSafeConfirm
  refine commitHost_keeps rfl ?_
  refine Keeps.after (runSafeConfirm_keeps _ _ _) rfl ?_
  exact Keeps.refl _ _

theorem execSafeStatus_keeps (h) (a) (s) : Res 128 s (execSafeStatus h a s) := by
  unfold execSafeStatus
  refine commitHost_keeps rfl ?_
  refine Keeps.after (runSafeStatus_keeps _ _ _) rfl ?_
  exact Keeps.refl _ _

theorem execSafeCounters_keeps (h) (a) (s) : Res 128 s (execSafeCounters h a s) := by
  unfold execSafeCounters
  refine commitHost_keeps rfl ?_
  refine Keeps.after (runSafeCounters_keeps _ _ _) rfl ?_
  exact Keeps.refl _ _

theorem execTimeConfig_keeps (h) (a) (s) : Res 129 s (execTimeConfig h a s) := by
  unfold execTimeConfig
  refine commitHost_keeps rfl ?_
  refine Keeps.after (runTimeConfig_keeps _ _ _) rfl ?_
  exact Keeps.refl _ _

theorem execTimeStatus_keeps (h) (a) (s) : Res 128 s (execTimeStatus h a s) := by
  unfold execTimeStatus
  refine commitHost_keeps rfl ?_
  refine Keeps.after (runTimeStatus_keeps _ _ _) rfl ?_
  exact Keeps.refl _ _

theorem execTimeCompare_keeps (h) (a) (s) : Res 129 s (execTimeCompare h a s) := by
  unfold execTimeCompare
  refine commitHost_keeps rfl ?_
  refine Keeps.after (runTimeCompare_keeps _ _ _) rfl ?_
  exact Keeps.refl _ _

theorem execTimeCapture_keeps (h) (a) (s) : Res 129 s (execTimeCapture h a s) := by
  unfold execTimeCapture
  refine commitHost_keeps rfl ?_
  refine Keeps.after (runTimeCapture_keeps _ _ _) rfl ?_
  exact Keeps.refl _ _

theorem execTimeSet_keeps (h) (a) (s) : Res 4294967427 s (execTimeSet h a s) := by
  unfold execTimeSet
  refine commitHost_keeps rfl ?_
  refine Keeps.after (runTimeSet_keeps _ _ _) rfl ?_
  exact Keeps.refl _ _

theorem execFwLoad_keeps (h) (a) (s) : Res 132 s (execFwLoad h a s) := by
  unfold execFwLoad
  refine commitHost_keeps rfl ?_
  refine Keeps.after (runFwLoad_keeps _ _ _) rfl ?_
  exact Keeps.refl _ _

theorem execFwActivate_keeps (h) (a) (s) : Res 132 s (execFwActivate h a s) := by
  unfold execFwActivate
  refine commitHost_keeps rfl ?_
  refine Keeps.after (runFwActivate_keeps _ _ _) rfl ?_
  exact Keeps.refl _ _

theorem execFwStatus_keeps (h) (a) (s) : Res 128 s (execFwStatus h a s) := by
  unfold execFwStatus
  refine commitHost_keeps rfl ?_
  refine Keeps.after (runFwStatus_keeps _ _ _) rfl ?_
  exact Keeps.refl _ _

theorem execLatheStore_keeps (h) (a) (s) : Res 4224 s (execLatheStore h a s) := by
  unfold execLatheStore
  refine commitHost_keeps rfl ?_
  refine Keeps.after (runLatheStore_keeps _ _ _) rfl ?_
  exact Keeps.refl _ _

theorem execLatheLoad_keeps (h) (a) (s) : Res 128 s (execLatheLoad h a s) := by
  unfold execLatheLoad
  refine commitHost_keeps rfl ?_
  refine Keeps.after (runLatheLoad_keeps _ _ _) rfl ?_
  exact Keeps.refl _ _

theorem execLatheSwap_keeps (h) (a) (s) : Res 2176 s (execLatheSwap h a s) := by
  unfold execLatheSwap
  refine commitHost_keeps rfl ?_
  refine Keeps.after (runLatheSwap_keeps _ _ _) rfl ?_
  exact Keeps.refl _ _

theorem execLatheStatus_keeps (h) (a) (s) : Res 2176 s (execLatheStatus h a s) := by
  unfold execLatheStatus
  refine commitHost_keeps rfl ?_
  refine Keeps.after (runLatheStatus_keeps _ _ _) rfl ?_
  exact Keeps.refl _ _

theorem execLatheCounters_keeps (h) (a) (s) : Res 128 s (execLatheCounters h a s) := by
  unfold execLatheCounters
  refine commitHost_keeps rfl ?_
  refine Keeps.after (runLatheCounters_keeps _ _ _) rfl ?_
  exact Keeps.refl _ _

theorem execLatheTelemetry_keeps (h) (a) (s) : Res 2176 s (execLatheTelemetry h a s) := by
  unfold execLatheTelemetry
  refine commitHost_keeps rfl ?_
  refine Keeps.after (runLatheTelemetry_keeps _ _ _) rfl ?_
  exact Keeps.refl _ _

theorem execLatheEnrollKey_keeps (h) (a) (s) : Res 549755830464 s (execLatheEnrollKey h a s) := by
  unfold execLatheEnrollKey
  refine commitHost_keeps rfl ?_
  refine Keeps.after (runLatheEnrollKey_keeps _ _ _) rfl ?_
  exact Keeps.refl _ _

theorem execFabSetKey_keeps (h) (a) (s) : Res 549764202688 s (execFabSetKey h a s) := by
  unfold execFabSetKey
  refine commitHost_keeps rfl ?_
  refine Keeps.after (runFabSetKey_keeps _ _ _) rfl ?_
  exact Keeps.refl _ _

theorem execFabJoin_keeps (h) (a) (s) : Res 549764202688 s (execFabJoin h a s) := by
  unfold execFabJoin
  refine commitHost_keeps rfl ?_
  refine Keeps.after (runFabJoin_keeps _ _ _) rfl ?_
  exact Keeps.refl _ _

theorem execFabLeave_keeps (h) (a) (s) : Res 10485888 s (execFabLeave h a s) := by
  unfold execFabLeave
  refine commitHost_keeps rfl ?_
  refine Keeps.after (runFabLeave_keeps _ _ _) rfl ?_
  exact Keeps.refl _ _

theorem execFabSchedule_keeps (h) (a) (s) : Res 8388736 s (execFabSchedule h a s) := by
  unfold execFabSchedule
  refine commitHost_keeps rfl ?_
  refine Keeps.after (runFabSchedule_keeps _ _ _) rfl ?_
  exact Keeps.refl _ _

theorem execFabStatus_keeps (h) (a) (s) : Res 128 s (execFabStatus h a s) := by
  unfold execFabStatus
  refine commitHost_keeps rfl ?_
  refine Keeps.after (runFabStatus_keeps _ _ _) rfl ?_
  exact Keeps.refl _ _

theorem execFabAssignShadow_keeps (h) (a) (s) : Res 558673428674 s (execFabAssignShadow h a s) := by
  unfold execFabAssignShadow
  refine commitHost_keeps rfl ?_
  refine Keeps.after (runFabAssignShadow_keeps _ _ _) rfl ?_
  exact Keeps.refl _ _

theorem execFabReleaseShadow_keeps (h) (a) (s) : Res 560557720002 s (execFabReleaseShadow h a s) := by
  unfold execFabReleaseShadow
  refine commitHost_keeps rfl ?_
  refine Keeps.after (runFabReleaseShadow_keeps _ _ _) rfl ?_
  exact Keeps.refl _ _

theorem execFabSwitchover_keeps (h) (a) (s) : Res 558780383426 s (execFabSwitchover h a s) := by
  unfold execFabSwitchover
  refine commitHost_keeps rfl ?_
  refine Keeps.after (runFabSwitchover_keeps _ _ _) rfl ?_
  exact Keeps.refl _ _

theorem execFabSetReplLevel_keeps (h) (a) (s) : Res 268435588 s (execFabSetReplLevel h a s) := by
  unfold execFabSetReplLevel
  refine commitHost_keeps rfl ?_
  refine Keeps.after (runFabSetReplLevel_keeps _ _ _) rfl ?_
  exact Keeps.refl _ _

theorem execFabPairStatus_keeps (h) (a) (s) : Res 128 s (execFabPairStatus h a s) := by
  unfold execFabPairStatus
  refine commitHost_keeps rfl ?_
  refine Keeps.after (runFabPairStatus_keeps _ _ _) rfl ?_
  exact Keeps.refl _ _

theorem execFabSleep_keeps (h) (a) (s) : Res 276824192 s (execFabSleep h a s) := by
  unfold execFabSleep
  refine commitHost_keeps rfl ?_
  refine Keeps.after (runFabSleep_keeps _ _ _) rfl ?_
  exact Keeps.refl _ _

theorem execFabWake_keeps (h) (a) (s) : Res 8388736 s (execFabWake h a s) := by
  unfold execFabWake
  refine commitHost_keeps rfl ?_
  refine Keeps.after (runFabWake_keeps _ _ _) rfl ?_
  exact Keeps.refl _ _

theorem execSafetyTelegramReceive_keeps (octets) (stamp) (s) : Res 138936512 s (execSafetyTelegramReceive octets stamp s) := by
  unfold execSafetyTelegramReceive
  refine Res.next ?_
  refine Keeps.after (telegram_keeps _ _ _) rfl ?_
  exact Keeps.refl _ _

theorem execSourceTimeout_keeps (k) (s) : Res 138936512 s (execSourceTimeout k s) := by
  unfold execSourceTimeout
  extract_lets v2 v3 v4
  clear_value v2 v4
  have hv3 : Keeps 138936512 (s) v3 := by
    unfold v3
    refine Keeps.after (State.updGsrc_keeps _ _ _) rfl ?_
    exact Keeps.refl _ _
  clear_value v3
  refine Res.ite ?_ ?_
  · refine Res.next ?_
    exact Keeps.refl _ _
  · refine Res.ite ?_ ?_
    · refine Res.next ?_
      refine Keeps.after (sensorFault_keeps _ _) rfl ?_
      assumption
    · refine Res.next ?_
      refine Keeps.foldl ?_ ?_
      · intro t16 x17
        refine Keeps.after (State.raiseOne_keeps _ _ _ _) rfl ?_
        refine Keeps.after (State.setPresent_keeps _ _ _ _) rfl ?_
        exact Keeps.refl _ _
      · assumption

theorem execSafeInputSample_keeps (a) (b) (s) : Res 4194304 s (execSafeInputSample a b s) := by
  unfold execSafeInputSample
  refine Res.next ?_
  refine Keeps.foldl ?_ ?_
  · intro t3 x4
    refine Keeps.after (State.updSafeIn_keeps _ _ _) rfl ?_
    exact Keeps.refl _ _
  · exact Keeps.refl _ _

theorem execDiscrepancyTimeout_keeps (pair) (s) : Res 138936512 s (execDiscrepancyTimeout pair s) := by
  unfold execDiscrepancyTimeout
  refine Res.onUnit ?_
  split
  · rename_i z3 z4 z5
    refine Keeps.ite ?_ ?_
    · exact Keeps.refl _ _
    · refine Keeps.after (inputFault_keeps _ _) rfl ?_
      exact Keeps.refl _ _
  · rename_i z10 z11
    exact Keeps.refl _ _

theorem execTestPulse_keeps (k) (seenA) (seenB) (s) : Res 138936512 s (execTestPulse k seenA seenB s) := by
  unfold execTestPulse
  extract_lets v2 v3
  have hv3 : Keeps 138936512 (s) v3 := by
    unfold v3
    refine Keeps.glume_ (u := s) ?_ rfl (.inl rfl) (.inl rfl)
    exact Keeps.refl _ _
  clear_value v3
  refine Res.onUnit ?_
  refine Keeps.foldl ?_ ?_
  · intro t8 x9
    refine Keeps.ite ?_ ?_
    · extract_lets v12 v13
      clear_value v12
      have hv13 : Keeps 138936512 (t8) v13 := by
        unfold v13
        refine Keeps.after (State.updSafeIn_keeps _ _ _) rfl ?_
        exact Keeps.refl _ _
      clear_value v13
      refine Keeps.ite ?_ ?_
      · refine Keeps.after (inputFault_keeps _ _) rfl ?_
        assumption
      · assumption
    · exact Keeps.refl _ _
  · assumption

theorem execOutputTestPulse_keeps (pair) (okHigh) (okLow) (short) (s) : Res 138936512 s (execOutputTestPulse pair okHigh okLow short s) := by
  unfold execOutputTestPulse
  extract_lets v2 v3
  clear_value v2
  have hv3 : Keeps 138936512 (s) v3 := by
    unfold v3
    refine Keeps.after (State.updSafeOut_keeps _ _ _) rfl ?_
    exact Keeps.refl _ _
  clear_value v3
  refine Res.onUnit ?_
  split
  · rename_i z8 z9
    exact Keeps.refl _ _
  · rename_i z11 z12 z13
    refine Keeps.ite ?_ ?_
    · exact Keeps.refl _ _
    · extract_lets v17 v18
      clear_value v17
      have hv18 : Keeps 138936512 (s) v18 := by
        unfold v18
        refine Keeps.foldl ?_ ?_
        · intro t20 x21
          refine Keeps.after (State.raiseCause_keeps _ _ _ _) rfl ?_
          refine Keeps.after (State.setPresent_keeps _ _ _ _) rfl ?_
          exact Keeps.refl _ _
        · assumption
      clear_value v18
      refine Keeps.after (State.updSafeOut_keeps _ _ _) rfl ?_
      refine Keeps.after (State.driveOutputs_keeps _) rfl ?_
      assumption

theorem execStop1Timeout_keeps (u) (s) : Res 138412032 s (execStop1Timeout u s) := by
  unfold execStop1Timeout
  refine Res.onUnit ?_
  refine Keeps.ite ?_ ?_
  · refine Keeps.after (State.ctrlUnit_keeps _ _) rfl ?_
    refine Keeps.after (State.driveOutputs_keeps _) rfl ?_
    refine Keeps.after (State.updGunit_keeps _ _ _) rfl ?_
    exact Keeps.refl _ _
  · exact Keeps.refl _ _

theorem execGlumeClockFault_keeps (s) : Res 68858413248 s (execGlumeClockFault s) := by
  unfold execGlumeClockFault
  extract_lets v2 v3 v4
  have hv3 : Keeps 68858413248 (s) v3 := by
    unfold v3
    refine Keeps.glume_ (u := s) ?_ rfl (.inl rfl) (.inr rfl)
    exact Keeps.refl _ _
  clear_value v3
  have hv4 : Keeps 68858413248 (s) v4 := by
    unfold v4
    refine Keeps.foldl ?_ ?_
    · intro t8 x9
      refine Keeps.after (State.updSafeOut_keeps _ _ _) rfl ?_
      exact Keeps.refl _ _
    · assumption
  clear_value v4
  refine Res.next ?_
  refine Keeps.after (State.glumeFault_keeps _ _) rfl ?_
  assumption

theorem execGlumeSelfTest_keeps (ok) (s) : Res 68858413248 s (execGlumeSelfTest ok s) := by
  unfold execGlumeSelfTest
  refine Res.next ?_
  refine Keeps.ite ?_ ?_
  · refine Keeps.glume_ (u := s) ?_ rfl (.inl rfl) (.inr rfl)
    exact Keeps.refl _ _
  · refine Keeps.after (State.glumeFault_keeps _ _) rfl ?_
    exact Keeps.refl _ _

theorem execTickAbsence_keeps (s) : Res 138936512 s (execTickAbsence s) := by
  unfold execTickAbsence
  refine Res.next ?_
  refine Keeps.after (State.glumeFault_keeps _ _) rfl ?_
  exact Keeps.refl _ _

theorem execGlumeDeadlineMiss_keeps (u) (s) : Res 138936512 s (execGlumeDeadlineMiss u s) := by
  unfold execGlumeDeadlineMiss
  refine Res.onUnit ?_
  refine Keeps.after (State.glumeFault_keeps _ _) rfl ?_
  refine Keeps.after (State.updGunit_keeps _ _ _) rfl ?_
  exact Keeps.refl _ _

theorem execPendingBlockExpiry_keeps (s) : Res 4194304 s (execPendingBlockExpiry s) := by
  unfold execPendingBlockExpiry
  refine Res.next ?_
  refine Keeps.glume_ (u := s) ?_ rfl (.inl rfl) (.inl rfl)
  exact Keeps.refl _ _

theorem execProposalLatch_keeps (u) (s) : Res 4194304 s (execProposalLatch u s) := by
  unfold execProposalLatch
  refine Res.onUnit ?_
  refine Keeps.after (latchProposal_keeps _ _) rfl ?_
  exact Keeps.refl _ _

theorem execGlumeChannelResult_keeps (u) (r) (s) : Res 138936512 s (execGlumeChannelResult u r s) := by
  unfold execGlumeChannelResult
  refine Res.onUnit ?_
  refine Keeps.after (channelResult_keeps _ _ _) rfl ?_
  exact Keeps.refl _ _

theorem execFabricLinkUp_keeps (p) (s) : Res 8388608 s (execFabricLinkUp p s) := by
  unfold execFabricLinkUp
  refine Res.onUnit ?_
  refine Keeps.ite ?_ ?_
  · exact Keeps.refl _ _
  · refine Keeps.after (State.updFabPort_keeps _ _ _) rfl ?_
    exact Keeps.refl _ _

theorem execFabricLinkDown_keeps (p) (hiBer) (s) : Res 8388608 s (execFabricLinkDown p hiBer s) := by
  unfold execFabricLinkDown
  refine Res.onUnit ?_
  refine Keeps.after (State.updFabPort_keeps _ _ _) rfl ?_
  exact Keeps.refl _ _

theorem execFabricFrameReceive_keeps (p) (f) (stamp) (s) : Res 556633948611 s (execFabricFrameReceive p f stamp s) := by
  unfold execFabricFrameReceive
  refine Res.onUnit ?_
  refine Keeps.after (receiveFrame_keeps _ _ _ _) rfl ?_
  exact Keeps.refl _ _

theorem execSlotWindowOpen_keeps (i) (early) (s) : Res 159383553 s (execSlotWindowOpen i early s) := by
  unfold execSlotWindowOpen
  refine Res.next ?_
  refine Keeps.after (openSlot_keeps _ _ _) rfl ?_
  exact Keeps.refl _ _

theorem execSlotWindowClose_keeps (i) (cut) (s) : Res 142608641 s (execSlotWindowClose i cut s) := by
  unfold execSlotWindowClose
  refine Res.next ?_
  refine Keeps.after (closeSlot_keeps _ _ _) rfl ?_
  exact Keeps.refl _ _

theorem execCycleFrameMissing_keeps (s) : Res 8388608 s (execCycleFrameMissing s) := by
  unfold execCycleFrameMissing
  refine Res.next ?_
  refine Keeps.fab_ (u := s) ?_ rfl
  exact Keeps.refl _ _

theorem execCycleMasterDeparted_keeps (s) : Res 549781504066 s (execCycleMasterDeparted s) := by
  unfold execCycleMasterDeparted
  refine Res.next ?_
  refine Keeps.ite ?_ ?_
  · refine Keeps.after (electMaster_keeps _) rfl ?_
    exact Keeps.refl _ _
  · exact Keeps.refl _ _

theorem execAnnounceSend_keeps (s) : Res 8388608 s (execAnnounceSend s) := by
  unfold execAnnounceSend
  refine Res.next ?_
  refine Keeps.after (announce_keeps _) rfl ?_
  exact Keeps.refl _ _

theorem execClaimRevoke_keeps (node) (s) : Res 61341888 s (execClaimRevoke node s) := by
  unfold execClaimRevoke
  refine Res.onUnit ?_
  refine Keeps.after (departNode_keeps _ _) rfl ?_
  exact Keeps.refl _ _

theorem execBulkSegmentReceive_keeps (peer) (xfer) (ofs) (total) (len) (done) (s) : Res 45295337606 s (execBulkSegmentReceive peer xfer ofs total len done s) := by
  unfold execBulkSegmentReceive
  refine Res.next ?_
  refine Keeps.after (takeSegment_keeps _ _ _ _ _ _ _) rfl ?_
  exact Keeps.refl _ _

theorem execBulkAckReceive_keeps (peer) (xfer) (acked) (s) : Res 8388608 s (execBulkAckReceive peer xfer acked s) := by
  unfold execBulkAckReceive
  extract_lets v2 v3 v4
  clear_value v2 v3
  refine Res.next ?_
  refine Keeps.fab_ (u := s) ?_ rfl
  exact Keeps.refl _ _

theorem execBulkResend_keeps (peer) (xfer) (s) : Res 142606336 s (execBulkResend peer xfer s) := by
  unfold execBulkResend
  refine Res.next ?_
  refine Keeps.after (resendBulk_keeps _ _ _) rfl ?_
  exact Keeps.refl _ _

theorem execJoinJ1Receive_keeps (port) (uid) (req) (strap) (kept) (rings) (far) (nj) (s) : Res 411041792 s (execJoinJ1Receive port uid req strap kept rings far nj s) := by
  unfold execJoinJ1Receive
  refine Res.onUnit ?_
  refine Keeps.after (takeJ1_keeps _ _ _ _ _ _ _ _) rfl ?_
  exact Keeps.refl _ _

theorem execJoinJ3Receive_keeps (uid) (mac) (s) : Res 411041792 s (execJoinJ3Receive uid mac s) := by
  unfold execJoinJ3Receive
  refine Res.next ?_
  refine Keeps.after (takeJ3_keeps _ _ _) rfl ?_
  exact Keeps.refl _ _

theorem execJoinJ2Receive_keeps (uid) (node) (nm) (mac) (epoch) (s) : Res 142606466 s (execJoinJ2Receive uid node nm mac epoch s) := by
  unfold execJoinJ2Receive
  refine Res.next ?_
  refine Keeps.after (takeJ2_keeps _ _ _ _ _ _) rfl ?_
  exact Keeps.refl _ _

theorem execJoinJ4Receive_keeps (uid) (node) (result) (s) : Res 8388738 s (execJoinJ4Receive uid node result s) := by
  unfold execJoinJ4Receive
  refine Res.next ?_
  refine Keeps.after (takeJ4_keeps _ _ _ _) rfl ?_
  exact Keeps.refl _ _

theorem execJoinJ1Repeat_keeps (s) : Res 411041792 s (execJoinJ1Repeat s) := by
  unfold execJoinJ1Repeat
  refine Res.next ?_
  refine Keeps.ite ?_ ?_
  · refine Keeps.after (sendJ1_keeps _) rfl ?_
    exact Keeps.refl _ _
  · exact Keeps.refl _ _

theorem execJoinTransferComplete_keeps (x) (s) : Res 560526262722 s (execJoinTransferComplete x s) := by
  unfold execJoinTransferComplete
  refine Res.next ?_
  refine Keeps.after (takeJoin_keeps _ _) rfl ?_
  exact Keeps.refl _ _

theorem execColdStartTimeout_keeps (s) : Res 142606467 s (execColdStartTimeout s) := by
  unfold execColdStartTimeout
  extract_lets v2 v3 v4 v5
  clear_value v2
  have hv3 : Keeps 142606467 (s) v3 := by
    unfold v3
    refine Keeps.after (State.advanceTo_keeps _ _) rfl ?_
    exact Keeps.refl _ _
  clear_value v3
  refine Res.next ?_
  refine Keeps.ite ?_ ?_
  · exact Keeps.refl _ _
  · refine Keeps.ite ?_ ?_
    · refine Keeps.after (failJoin_keeps _ _) rfl ?_
      assumption
    · split
      · rename_i z15 z16
        refine Keeps.after (failJoin_keeps _ _) rfl ?_
        assumption
      · rename_i z19 z20 z21 z22
        refine Keeps.after (sendColdStart_keeps _) rfl ?_
        refine Keeps.trans (t := v3) ?_ (fun p hp => by cases p <;> first | rfl | exact absurd hp (by decide) | exact fun h => h | exact Nat.le_refl _)
        assumption

theorem execColdStartJudge_keeps (s) : Res 551934230979 s (execColdStartJudge s) := by
  unfold execColdStartJudge
  extract_lets v2 v3 v4 v5
  clear_value v2 v4
  have hv3 : Keeps 551934230979 (s) v3 := by
    unfold v3
    refine Keeps.after (State.advanceTo_keeps _ _) rfl ?_
    exact Keeps.refl _ _
  clear_value v3
  refine Res.next ?_
  refine Keeps.ite ?_ ?_
  · exact Keeps.refl _ _
  · refine Keeps.ite ?_ ?_
    · refine Keeps.after (failJoin_keeps _ _) rfl ?_
      assumption
    · refine Keeps.ite ?_ ?_
      · refine Keeps.after (startFabric_keeps _) rfl ?_
        assumption
      · refine Keeps.fab_ (u := v3) ?_ rfl
        assumption

theorem execColdStartBackoffEnd_keeps (s) : Res 142606337 s (execColdStartBackoffEnd s) := by
  unfold execColdStartBackoffEnd
  extract_lets v2 v3 v4
  clear_value v2
  have hv3 : Keeps 142606337 (s) v3 := by
    unfold v3
    refine Keeps.after (State.advanceTo_keeps _ _) rfl ?_
    exact Keeps.refl _ _
  clear_value v3
  refine Res.next ?_
  refine Keeps.ite ?_ ?_
  · exact Keeps.refl _ _
  · refine Keeps.after (sendColdStart_keeps _) rfl ?_
    refine Keeps.fab_ (u := v3) ?_ rfl
    assumption

theorem execCycleStartAfterCold_keeps (s) : Res 142606336 s (execCycleStartAfterCold s) := by
  unfold execCycleStartAfterCold
  extract_lets v2 v3
  clear_value v2
  refine Res.next ?_
  refine Keeps.ite ?_ ?_
  · refine Keeps.after (sendCycles_keeps _) rfl ?_
    refine Keeps.fab_ (u := s) ?_ rfl
    exact Keeps.refl _ _
  · exact Keeps.refl _ _

theorem execSleepPointOfNoReturn_keeps (s) : Res 8388608 s (execSleepPointOfNoReturn s) := by
  unfold execSleepPointOfNoReturn
  refine Res.next ?_
  refine Keeps.ite ?_ ?_
  · refine Keeps.fab_ (u := s) ?_ rfl
    exact Keeps.refl _ _
  · exact Keeps.refl _ _

theorem execSleepEntry_keeps (s) : Res 551933182402 s (execSleepEntry s) := by
  unfold execSleepEntry
  extract_lets v2 v3 v4 v5 v6 v7 v8 v9 v10 v11
  clear_value v2 v5 v7 v11
  have hv3 : Keeps 551933182402 (s) v3 := by
    unfold v3
    refine Keeps.foldl ?_ ?_
    · intro t13 x14
      refine Keeps.after (State.updFabNode_keeps _ _ _) rfl ?_
      exact Keeps.refl _ _
    · exact Keeps.refl _ _
  clear_value v3
  have hv6 : Keeps 551933182402 (s) v6 := by
    unfold v6
    refine Keeps.fab_ (u := v3) ?_ rfl
    assumption
  clear_value v6
  have hv8 : Keeps 551933182402 (s) v8 := by
    unfold v8
    refine Keeps.after (State.updFabNode_keeps _ _ _) rfl ?_
    assumption
  clear_value v8
  have hv9 : Keeps 551933182402 (s) v9 := by
    unfold v9
    refine Keeps.after (goSleep_keeps _) rfl ?_
    refine Keeps.after (takeRole_keeps _ _) rfl ?_
    assumption
  clear_value v9
  refine Res.next ?_
  refine Keeps.ite ?_ ?_
  · exact Keeps.refl _ _
  · refine Keeps.ite ?_ ?_
    · refine Keeps.fab_ (u := v9) ?_ rfl
      assumption
    · assumption

theorem execSleepEntryComplete_keeps (s) : Res 2290614722 s (execSleepEntryComplete s) := by
  unfold execSleepEntryComplete
  extract_lets v2 v3 v4 v5 v6
  clear_value v2 v5
  have hv4 : Keeps 2290614722 (s) v4 := by
    unfold v4
    refine Keeps.fab_ (u := s) ?_ rfl
    exact Keeps.refl _ _
  clear_value v4
  have hv6 : Keeps 2290614722 (s) v6 := by
    unfold v6
    refine Keeps.after (wakeUp_keeps _ _) rfl ?_
    assumption
  clear_value v6
  refine Res.next ?_
  refine Keeps.ite ?_ ?_
  · exact Keeps.refl _ _
  · refine Keeps.ite ?_ ?_
    · assumption
    · refine Keeps.ite ?_ ?_
      · refine Keeps.after (State.send_keeps _ _) rfl ?_
        assumption
      · assumption

theorem execFailsafeSleep_keeps (s) : Res 8388608 s (execFailsafeSleep s) := by
  unfold execFailsafeSleep
  extract_lets v2 v3
  clear_value v2
  refine Res.next ?_
  refine Keeps.ite ?_ ?_
  · refine Keeps.fab_ (u := s) ?_ rfl
    exact Keeps.refl _ _
  · exact Keeps.refl _ _

theorem execWakeRequest_keeps (node) (reason) (s) : Res 8388608 s (execWakeRequest node reason s) := by
  unfold execWakeRequest
  refine Res.onUnit ?_
  refine Keeps.ite ?_ ?_
  · refine Keeps.after (wakeAt_keeps _ _ _) rfl ?_
    exact Keeps.refl _ _
  · exact Keeps.refl _ _

theorem execFwakeNAssert_keeps (s) : Res 8388608 s (execFwakeNAssert s) := by
  unfold execFwakeNAssert
  extract_lets v2 v3 v4 v5 v6 v7 v8 v9
  clear_value v3 v5 v6 v9
  have hv4 : Keeps 8388608 (s) v4 := by
    unfold v4
    refine Keeps.fab_ (u := s) ?_ rfl
    exact Keeps.refl _ _
  clear_value v4
  have hv7 : Keeps 8388608 (s) v7 := by
    unfold v7
    refine Keeps.ite ?_ ?_
    · refine Keeps.after (wakeAt_keeps _ _ _) rfl ?_
      assumption
    · assumption
  clear_value v7
  refine Res.next ?_
  refine Keeps.ite ?_ ?_
  · refine Keeps.fab_ (u := v7) ?_ rfl
    assumption
  · assumption

theorem execFwakeDrive_keeps (s) : Res 134217728 s (execFwakeDrive s) := by
  unfold execFwakeDrive
  refine Res.next ?_
  refine Keeps.ite ?_ ?_
  · refine Keeps.after (State.send_keeps _ _) rfl ?_
    exact Keeps.refl _ _
  · exact Keeps.refl _ _

theorem execSleepingDeviceWake_keeps (src) (s) : Res 2290614722 s (execSleepingDeviceWake src s) := by
  unfold execSleepingDeviceWake
  refine Res.onUnit ?_
  refine Keeps.ite ?_ ?_
  · exact Keeps.refl _ _
  · refine Keeps.ite ?_ ?_
    · refine Keeps.fab_ (u := s) ?_ rfl
      exact Keeps.refl _ _
    · refine Keeps.after (wakeUp_keeps _ _) rfl ?_
      exact Keeps.refl _ _

theorem execFalseWake_keeps (s) : Res 551933182402 s (execFalseWake s) := by
  unfold execFalseWake
  extract_lets v2 v3 v4 v5 v6
  clear_value v2
  have hv4 : Keeps 551933182402 (s) v4 := by
    unfold v4
    refine Keeps.fab_ (u := s) ?_ rfl
    exact Keeps.refl _ _
  have hv5 : Keeps 551933182402 (s) v5 := by
    unfold v5
    refine Keeps.after (State.updFabNode_keeps _ _ _) rfl ?_
    assumption
  refine Res.next ?_
  refine Keeps.ite ?_ ?_
  · exact Keeps.refl _ _
  · refine Keeps.ite ?_ ?_
    · refine Keeps.after (goSleep_keeps _) rfl ?_
      refine Keeps.ite ?_ ?_
      · assumption
      · refine Keeps.after (takeRole_keeps _ _) rfl ?_
        assumption
    · refine Keeps.fab_ (u := v4) ?_ rfl
      assumption

theorem execMbxDataRead_keeps (m) (ch) (s) : Res 201851840 s (execMbxDataRead m ch s) := by
  unfold execMbxDataRead
  refine Res.next ?_
  refine Keeps.after (dataRead_keeps _ _ _) rfl ?_
  exact Keeps.refl _ _

theorem execEventCreditGrant_keeps (p) (s) : Res 128 s (execEventCreditGrant p s) := by
  unfold execEventCreditGrant
  refine Res.next ?_
  refine Keeps.after (grantCredit_keeps _ _) rfl ?_
  exact Keeps.refl _ _

theorem execBankHandover_keeps (p) (s) : Res 640 s (execBankHandover p s) := by
  unfold execBankHandover
  refine Res.next ?_
  refine Keeps.after (handBank_keeps _ _) rfl ?_
  exact Keeps.refl _ _

theorem execBankReturn_keeps (b) (s) : Res 134218624 s (execBankReturn b s) := by
  unfold execBankReturn
  refine Res.next ?_
  refine Keeps.after (returnBank_keeps _ _) rfl ?_
  exact Keeps.refl _ _

theorem execEventPost_keeps (p) (s) : Res 134218624 s (execEventPost p s) := by
  unfold execEventPost
  refine Res.next ?_
  refine Keeps.after (postEvent_keeps _ _) rfl ?_
  exact Keeps.refl _ _

theorem execHostPortReset_keeps (p) (s) : Res 525248 s (execHostPortReset p s) := by
  unfold execHostPortReset
  refine Res.ite ?_ ?_
  · refine Res.next ?_
    refine Keeps.after (resetPort_keeps _ _) rfl ?_
    exact Keeps.refl _ _
  · exact Res.fault

theorem execHostResetEnd_keeps (p) (s) : Res 134218624 s (execHostResetEnd p s) := by
  unfold execHostResetEnd
  refine Res.ite ?_ ?_
  · refine Res.next ?_
    refine Keeps.after (endPortReset_keeps _ _) rfl ?_
    exact Keeps.refl _ _
  · exact Res.fault

theorem execJournalCommit_keeps (s) : Res 524352 s (execJournalCommit s) := by
  unfold execJournalCommit
  refine Res.next ?_
  refine Keeps.ite ?_ ?_
  · refine Keeps.after (State.commitJournal_keeps _) rfl ?_
    exact Keeps.refl _ _
  · exact Keeps.refl _ _

theorem execJrnlRead_keeps (h) (a) (s) : Res 268435584 s (execJrnlRead h a s) := by
  unfold execJrnlRead
  refine commitHost_keeps rfl ?_
  refine Keeps.after (runJrnlRead_keeps _ _ _) rfl ?_
  exact Keeps.refl _ _

theorem execJrnlMark_keeps (h) (a) (s) : Res 524480 s (execJrnlMark h a s) := by
  unfold execJrnlMark
  refine commitHost_keeps rfl ?_
  refine Keeps.after (runJrnlMark_keeps _ _ _) rfl ?_
  exact Keeps.refl _ _

theorem execJrnlCommit_keeps (h) (a) (s) : Res 524480 s (execJrnlCommit h a s) := by
  unfold execJrnlCommit
  refine commitHost_keeps rfl ?_
  refine Keeps.after (runJrnlCommit_keeps _ _ _) rfl ?_
  exact Keeps.refl _ _

theorem execJrnlStatus_keeps (h) (a) (s) : Res 268435584 s (execJrnlStatus h a s) := by
  unfold execJrnlStatus
  refine commitHost_keeps rfl ?_
  refine Keeps.after (runJrnlStatus_keeps _ _ _) rfl ?_
  exact Keeps.refl _ _

theorem execDiagTickLoad_keeps (h) (a) (s) : Res 130 s (execDiagTickLoad h a s) := by
  unfold execDiagTickLoad
  refine commitHost_keeps rfl ?_
  refine Keeps.after (runDiagTickLoad_keeps _ _ _) rfl ?_
  exact Keeps.refl _ _

theorem execDiagBlocks_keeps (h) (a) (s) : Res 128 s (execDiagBlocks h a s) := by
  unfold execDiagBlocks
  refine commitHost_keeps rfl ?_
  refine Keeps.after (runDiagBlocks_keeps _ _ _) rfl ?_
  exact Keeps.refl _ _

theorem execDiagTelemetry_keeps (h) (a) (s) : Res 524416 s (execDiagTelemetry h a s) := by
  unfold execDiagTelemetry
  refine commitHost_keeps rfl ?_
  refine Keeps.after (runDiagTelemetry_keeps _ _ _) rfl ?_
  exact Keeps.refl _ _

theorem execPoolAccess_keeps (port) (act) (op) (ofs) (s) : Res 1275965120 s (execPoolAccess port act op ofs s) := by
  unfold execPoolAccess
  refine Res.ite ?_ ?_
  · refine Res.next ?_
    refine Keeps.after (poolAccess_keeps _ _ _ _ _) rfl ?_
    exact Keeps.refl _ _
  · exact Res.fault

theorem execPauseRefresh_keeps (p) (s) : Res 134348800 s (execPauseRefresh p s) := by
  unfold execPauseRefresh
  extract_lets v2 v3
  clear_value v2 v3
  refine Res.onUnit ?_
  refine Keeps.ite ?_ ?_
  · exact Keeps.refl _ _
  · refine Keeps.after (State.send_keeps _ _) rfl ?_
    refine Keeps.after (State.setMac_keeps _ _ _) rfl ?_
    exact Keeps.refl _ _

theorem execPauseTimeExpiry_keeps (p) (classes) (s) : Res 131072 s (execPauseTimeExpiry p classes s) := by
  unfold execPauseTimeExpiry
  refine Res.onUnit ?_
  refine Keeps.after (State.updMac_keeps _ _ _) rfl ?_
  exact Keeps.refl _ _

theorem execFrameReceive_keeps (p) (octs) (code) (frag) (first) (s) : Res 168692738 s (execFrameReceive p octs code frag first s) := by
  unfold execFrameReceive
  refine Res.onUnit ?_
  refine Keeps.after (macReceive_keeps _ _ _ _ _ _) rfl ?_
  exact Keeps.refl _ _

theorem execGateListActivate_keeps (p) (s) : Res 131073 s (execGateListActivate p s) := by
  unfold execGateListActivate
  extract_lets v2 v3 v4
  clear_value v2 v3
  have hv4 : Keeps 131073 (s) v4 := by
    unfold v4
    refine Keeps.after (State.advanceTo_keeps _ _) rfl ?_
    exact Keeps.refl _ _
  clear_value v4
  refine Res.onUnit ?_
  refine Keeps.after (State.updMac_keeps _ _ _) rfl ?_
  assumption

theorem execGateChange_keeps (p) (s) : Res 131073 s (execGateChange p s) := by
  unfold execGateChange
  extract_lets v2
  clear_value v2
  refine Res.onUnit ?_
  split
  · rename_i z5 z6
    exact Keeps.refl _ _
  · rename_i z8 z9 z10
    extract_lets v12
    clear_value v12
    refine Keeps.after (State.setMac_keeps _ _ _) rfl ?_
    refine Keeps.after (State.advanceTo_keeps _ _) rfl ?_
    exact Keeps.refl _ _

theorem execFrameTransmitStart_keeps (p) (sent) (s) : Res 135138305 s (execFrameTransmitStart p sent s) := by
  unfold execFrameTransmitStart
  refine Res.ite ?_ ?_
  · refine Res.next ?_
    refine Keeps.after (transmit_keeps _ _ _) rfl ?_
    exact Keeps.refl _ _
  · refine Res.ite ?_ ?_
    · refine Res.next ?_
      refine Keeps.after (handOver_keeps _ _) rfl ?_
      exact Keeps.refl _ _
    · refine Res.ite ?_ ?_
      · refine Res.next ?_
        exact Keeps.refl _ _
      · exact Res.fault

theorem execFrameTransmitEnd_keeps (p) (s) : Res 134610946 s (execFrameTransmitEnd p s) := by
  unfold execFrameTransmitEnd
  refine Res.onUnit ?_
  refine Keeps.after (endFrame_keeps _ _) rfl ?_
  exact Keeps.refl _ _

theorem execDeadlineWithdraw_keeps (p) (s) : Res 168165378 s (execDeadlineWithdraw p s) := by
  unfold execDeadlineWithdraw
  refine Res.onUnit ?_
  refine Keeps.after (withdraw_keeps _ _) rfl ?_
  exact Keeps.refl _ _

theorem execTxDescriptorTake_keeps (e) (s) : Res 168693314 s (execTxDescriptorTake e s) := by
  unfold execTxDescriptorTake
  refine Res.onUnit ?_
  refine Keeps.after (takeDescriptor_keeps _ _) rfl ?_
  exact Keeps.refl _ _

theorem execRxRingDeliver_keeps (e) (s) : Res 1208880640 s (execRxRingDeliver e s) := by
  unfold execRxRingDeliver
  refine Res.onUnit ?_
  refine Keeps.after (deliver_keeps _ _) rfl ?_
  exact Keeps.refl _ _

theorem execSwTxrIdxWrite_keeps (e) (w) (s) : Res 264192 s (execSwTxrIdxWrite e w s) := by
  unfold execSwTxrIdxWrite
  refine Res.onUnit ?_
  refine Keeps.after (txrIdxWrite_keeps _ _ _) rfl ?_
  exact Keeps.refl _ _

theorem execSwRxrIdxWrite_keeps (e) (w) (s) : Res 262144 s (execSwRxrIdxWrite e w s) := by
  unfold execSwRxrIdxWrite
  refine Res.onUnit ?_
  refine Keeps.after (rxrIdxWrite_keeps _ _ _) rfl ?_
  exact Keeps.refl _ _

theorem execSwTxrCredRead_keeps (e) (s) : Res 67371008 s (execSwTxrCredRead e s) := by
  unfold execSwTxrCredRead
  refine Res.onUnit ?_
  refine Keeps.after (txrCredRead_keeps _ _) rfl ?_
  exact Keeps.refl _ _

theorem execSwRxrIdxRead_keeps (e) (s) : Res 67371008 s (execSwRxrIdxRead e s) := by
  unfold execSwRxrIdxRead
  refine Res.onUnit ?_
  refine Keeps.after (rxrIdxRead_keeps _ _) rfl ?_
  exact Keeps.refl _ _

theorem execLinkDown_keeps (p) (s) : Res 135136448 s (execLinkDown p s) := by
  unfold execLinkDown
  refine Res.onUnit ?_
  refine Keeps.after (linkDown_keeps _ _) rfl ?_
  exact Keeps.refl _ _

theorem execLinkUp_keeps (p) (speed) (full) (s) : Res 135136448 s (execLinkUp p speed full s) := by
  unfold execLinkUp
  refine Res.onUnit ?_
  refine Keeps.after (linkUp_keeps _ _ _ _) rfl ?_
  exact Keeps.refl _ _

theorem execHoldExpiry_keeps (p) (s) : Res 134610944 s (execHoldExpiry p s) := by
  unfold execHoldExpiry
  extract_lets v2
  clear_value v2
  refine Res.onUnit ?_
  refine Keeps.ite ?_ ?_
  · refine Keeps.after (flushPort_keeps _ _) rfl ?_
    refine Keeps.after (State.setMac_keeps _ _ _) rfl ?_
    exact Keeps.refl _ _
  · exact Keeps.refl _ _

theorem execPreemptVerify_keeps (p) (what) (s) : Res 134348800 s (execPreemptVerify p what s) := by
  unfold execPreemptVerify
  refine Res.onUnit ?_
  refine Keeps.after (verifyStep_keeps _ _ _) rfl ?_
  exact Keeps.refl _ _

theorem execBufferAudit_keeps (leaked) (twice) (freed) (s) : Res 786496 s (execBufferAudit leaked twice freed s) := by
  unfold execBufferAudit
  refine Res.next ?_
  refine Keeps.after (audit_keeps _ _ _ _) rfl ?_
  exact Keeps.refl _ _

theorem execSwAuditRead_keeps (s) : Res 67371008 s (execSwAuditRead s) := by
  unfold execSwAuditRead
  refine Res.next ?_
  refine Keeps.after (swAuditRead_keeps _) rfl ?_
  exact Keeps.refl _ _

theorem execMacSnapWrite_keeps (m) (n) (w) (s) : Res 131072 s (execMacSnapWrite m n w s) := by
  unfold execMacSnapWrite
  refine Res.onUnit ?_
  refine Keeps.after (macSnapWrite_keeps _ _ _ _) rfl ?_
  exact Keeps.refl _ _

theorem execNrwCounterRead_keeps (n) (j) (s) : Res 67239936 s (execNrwCounterRead n j s) := by
  unfold execNrwCounterRead
  refine Res.onUnit ?_
  refine Keeps.ite ?_ ?_
  · refine Keeps.after (nrwRead_keeps _ _ _) rfl ?_
    exact Keeps.refl _ _
  · refine Keeps.after (State.returns_keeps _ _) rfl ?_
    exact Keeps.refl _ _

theorem execNetDefine_keeps (h) (a) (s) : Res 1107537536 s (execNetDefine h a s) := by
  unfold execNetDefine
  refine commitHost_keeps rfl ?_
  refine Keeps.after (runNetDefine_keeps _ _ _) rfl ?_
  exact Keeps.refl _ _

theorem execNetStart_keeps (h) (a) (s) : Res 1107569280 s (execNetStart h a s) := by
  unfold execNetStart
  refine commitHost_keeps rfl ?_
  refine Keeps.after (runNetStart_keeps _ _ _) rfl ?_
  exact Keeps.refl _ _

theorem execNetStop_keeps (h) (a) (s) : Res 1107569280 s (execNetStop h a s) := by
  unfold execNetStop
  refine commitHost_keeps rfl ?_
  refine Keeps.after (runNetStop_keeps _ _ _) rfl ?_
  exact Keeps.refl _ _

theorem execNetStatus_keeps (h) (a) (s) : Res 128 s (execNetStatus h a s) := by
  unfold execNetStatus
  refine commitHost_keeps rfl ?_
  refine Keeps.after (runNetStatus_keeps _ _ _) rfl ?_
  exact Keeps.refl _ _

theorem execNetSnapshot_keeps (h) (a) (s) : Res 131200 s (execNetSnapshot h a s) := by
  unfold execNetSnapshot
  refine commitHost_keeps rfl ?_
  refine Keeps.after (runNetSnapshot_keeps _ _ _) rfl ?_
  exact Keeps.refl _ _

theorem execNetStats_keeps (h) (a) (s) : Res 131200 s (execNetStats h a s) := by
  unfold execNetStats
  refine commitHost_keeps rfl ?_
  refine Keeps.after (runNetStats_keeps _ _ _) rfl ?_
  exact Keeps.refl _ _

theorem execNetAcyclic_keeps (h) (a) (s) : Res 167772288 s (execNetAcyclic h a s) := by
  unfold execNetAcyclic
  refine commitHost_keeps rfl ?_
  refine Keeps.after (runNetAcyclic_keeps _ _ _) rfl ?_
  exact Keeps.refl _ _

theorem execNetPortConfig_keeps (h) (a) (s) : Res 131200 s (execNetPortConfig h a s) := by
  unfold execNetPortConfig
  refine commitHost_keeps rfl ?_
  refine Keeps.after (runNetPortConfig_keeps _ _ _) rfl ?_
  exact Keeps.refl _ _

theorem execNetMirror_keeps (h) (a) (s) : Res 262272 s (execNetMirror h a s) := by
  unfold execNetMirror
  refine commitHost_keeps rfl ?_
  refine Keeps.after (runNetMirror_keeps _ _ _) rfl ?_
  exact Keeps.refl _ _

theorem execNetSchedule_keeps (h) (a) (s) : Res 131200 s (execNetSchedule h a s) := by
  unfold execNetSchedule
  refine commitHost_keeps rfl ?_
  refine Keeps.after (runNetSchedule_keeps _ _ _) rfl ?_
  exact Keeps.refl _ _

theorem execNetCanConfig_keeps (h) (a) (s) : Res 65664 s (execNetCanConfig h a s) := by
  unfold execNetCanConfig
  refine commitHost_keeps rfl ?_
  refine Keeps.after (runNetCanConfig_keeps _ _ _) rfl ?_
  exact Keeps.refl _ _

theorem execCellTxnCommit_keeps (h) (a) (s) : Res 566331703239 s (execCellTxnCommit h a s) := by
  unfold execCellTxnCommit
  refine commitHost_keeps rfl ?_
  refine Keeps.after (runCellTxnCommit_keeps _ _ _) rfl ?_
  exact Keeps.refl _ _

theorem execCommandAcceptance_keeps (s) : Res 25690818 s (execCommandAcceptance s) := by
  unfold execCommandAcceptance
  refine Res.next ?_
  refine Keeps.after (acceptNext_keeps _) rfl ?_
  exact Keeps.refl _ _

theorem execShadowAckReceive_keeps (xfer) (s) : Res 16777346 s (execShadowAckReceive xfer s) := by
  unfold execShadowAckReceive
  refine Res.next ?_
  refine Keeps.after (shadowAck_keeps _ _) rfl ?_
  exact Keeps.refl _ _

theorem execHeldCommandCommit_keeps (p) (tag) (s) : Res 566331703239 s (execHeldCommandCommit p tag s) := by
  unfold execHeldCommandCommit
  refine Res.next ?_
  refine Keeps.after (commitHeld_keeps _ _ _) rfl ?_
  exact Keeps.refl _ _

theorem execLongCommandComplete_keeps (p) (tag) (detail) (data) (s) : Res 1107311236 s (execLongCommandComplete p tag detail data s) := by
  unfold execLongCommandComplete
  refine Res.next ?_
  refine Keeps.after (completeLong_keeps _ _ _ _ _) rfl ?_
  exact Keeps.refl _ _

theorem execResponsePost_keeps (p) (s) : Res 1207963520 s (execResponsePost p s) := by
  unfold execResponsePost
  refine Res.next ?_
  refine Keeps.ite ?_ ?_
  · exact Keeps.refl _ _
  · refine Keeps.after (postResponse_keeps _ _) rfl ?_
    exact Keeps.refl _ _

theorem execHostGtcLoRead_keeps (p) (s) : Res 67108992 s (execHostGtcLoRead p s) := by
  unfold execHostGtcLoRead
  refine Res.ite ?_ ?_
  · refine Res.next ?_
    refine Keeps.after (gtcLoRead_keeps _ _) rfl ?_
    exact Keeps.refl _ _
  · exact Res.fault

theorem execHostAccessErrRead_keeps (p) (s) : Res 67108992 s (execHostAccessErrRead p s) := by
  unfold execHostAccessErrRead
  refine Res.ite ?_ ?_
  · refine Res.next ?_
    refine Keeps.after (accessErrRead_keeps _ _) rfl ?_
    exact Keeps.refl _ _
  · exact Res.fault

theorem execRegisterWrite_keeps (m) (addr) (w) (s) : Res 276087943105 s (execRegisterWrite m addr w s) := by
  unfold execRegisterWrite
  refine Res.next ?_
  refine Keeps.ite ?_ ?_
  · refine Keeps.after (registerWrite_keeps _ _ _ _) rfl ?_
    exact Keeps.refl _ _
  · refine Keeps.ite ?_ ?_
    · refine Keeps.after (State.accessErr_keeps _ _) rfl ?_
      exact Keeps.refl _ _
    · exact Keeps.refl _ _

theorem execQspiWrite_keeps (addr) (ws) (s) : Res 1275965376 s (execQspiWrite addr ws s) := by
  unfold execQspiWrite
  refine Res.next ?_
  refine Keeps.after (qspiWrite_keeps _ _ _) rfl ?_
  exact Keeps.refl _ _

theorem execQspiRead_keeps (addr) (n) (s) : Res 1275965376 s (execQspiRead addr n s) := by
  unfold execQspiRead
  refine Res.next ?_
  refine Keeps.after (qspiRead_keeps _ _ _) rfl ?_
  exact Keeps.refl _ _

theorem execLthNop_keeps (e) (p) (s) : Res 1074375168 s (execLthNop e p s) := by
  unfold execLthNop
  refine lthRow_keeps rfl (fun _ _ => ?_)
  rename_i z2 z3
  refine Keeps.mk1 ?_
  exact Keeps.refl _ _

theorem execLthEnd_keeps (e) (p) (s) : Res 1074375168 s (execLthEnd e p s) := by
  unfold execLthEnd
  extract_lets v2
  clear_value v2
  refine lthRow_keeps rfl (fun _ _ => ?_)
  rename_i z4 z5
  refine Keeps.mk1 ?_
  refine Keeps.after (endWork_keeps _ _ _) rfl ?_
  refine Keeps.after (LthEnv.upd_keeps _ _ _) rfl ?_
  exact Keeps.refl _ _

theorem execLthIdle_keeps (e) (p) (s) : Res 1074375168 s (execLthIdle e p s) := by
  unfold execLthIdle
  extract_lets v2
  clear_value v2
  refine lthRow_keeps rfl (fun _ _ => ?_)
  rename_i z4 z5
  refine Keeps.mk1 ?_
  refine Keeps.after (LthEnv.upd_keeps _ _ _) rfl ?_
  exact Keeps.refl _ _

theorem execLthRetx_keeps (e) (p) (s) : Res 1074375168 s (execLthRetx e p s) := by
  unfold execLthRetx
  extract_lets v2
  clear_value v2
  refine lthRow_keeps rfl (fun _ _ => ?_)
  rename_i z4 z5
  refine Keeps.mk1 ?_
  refine Keeps.after (LthEnv.upd_keeps _ _ _) rfl ?_
  exact Keeps.refl _ _

theorem execLthTrap_keeps (e) (p) (b) (s) : Res 1074375168 s (execLthTrap e p b s) := by
  unfold execLthTrap
  refine lthRow_keeps rfl (fun _ _ => ?_)
  rename_i z2 z3
  refine Keeps.mk1 ?_
  exact Keeps.refl _ _

theorem execLthMov_keeps (e) (p) (m) (s) : Res 1074375168 s (execLthMov e p m s) := by
  unfold execLthMov
  refine Res.after (lthRR_keeps _ _ _ _ _ _) rfl ?_
  exact Keeps.refl _ _

theorem execLthMovi_keeps (e) (p) (m) (i) (s) : Res 1074375168 s (execLthMovi e p m i s) := by
  unfold execLthMovi
  refine Res.after (lthRI_keeps _ _ _ _ _ _ _) rfl ?_
  exact Keeps.refl _ _

theorem execLthAdd_keeps (e) (p) (m) (s) : Res 1074375168 s (execLthAdd e p m s) := by
  unfold execLthAdd
  refine Res.after (lthRR_keeps _ _ _ _ _ _) rfl ?_
  exact Keeps.refl _ _

theorem execLthAddi_keeps (e) (p) (m) (i) (s) : Res 1074375168 s (execLthAddi e p m i s) := by
  unfold execLthAddi
  refine Res.after (lthRI_keeps _ _ _ _ _ _ _) rfl ?_
  exact Keeps.refl _ _

theorem execLthAdc_keeps (e) (p) (m) (s) : Res 1074375168 s (execLthAdc e p m s) := by
  unfold execLthAdc
  refine Res.after (lthRR_keeps _ _ _ _ _ _) rfl ?_
  exact Keeps.refl _ _

theorem execLthSub_keeps (e) (p) (m) (s) : Res 1074375168 s (execLthSub e p m s) := by
  unfold execLthSub
  refine Res.after (lthRR_keeps _ _ _ _ _ _) rfl ?_
  exact Keeps.refl _ _

theorem execLthSubi_keeps (e) (p) (m) (i) (s) : Res 1074375168 s (execLthSubi e p m i s) := by
  unfold execLthSubi
  refine Res.after (lthRI_keeps _ _ _ _ _ _ _) rfl ?_
  exact Keeps.refl _ _

theorem execLthSbc_keeps (e) (p) (m) (s) : Res 1074375168 s (execLthSbc e p m s) := by
  unfold execLthSbc
  refine Res.after (lthRR_keeps _ _ _ _ _ _) rfl ?_
  exact Keeps.refl _ _

theorem execLthCmp_keeps (e) (p) (m) (s) : Res 1074375168 s (execLthCmp e p m s) := by
  unfold execLthCmp
  refine Res.after (lthRR_keeps _ _ _ _ _ _) rfl ?_
  exact Keeps.refl _ _

theorem execLthCmpi_keeps (e) (p) (m) (i) (s) : Res 1074375168 s (execLthCmpi e p m i s) := by
  unfold execLthCmpi
  refine Res.after (lthRI_keeps _ _ _ _ _ _ _) rfl ?_
  exact Keeps.refl _ _

theorem execLthAnd_keeps (e) (p) (m) (s) : Res 1074375168 s (execLthAnd e p m s) := by
  unfold execLthAnd
  refine Res.after (lthRR_keeps _ _ _ _ _ _) rfl ?_
  exact Keeps.refl _ _

theorem execLthAndi_keeps (e) (p) (m) (i) (s) : Res 1074375168 s (execLthAndi e p m i s) := by
  unfold execLthAndi
  refine Res.after (lthRI_keeps _ _ _ _ _ _ _) rfl ?_
  exact Keeps.refl _ _

theorem execLthOr_keeps (e) (p) (m) (s) : Res 1074375168 s (execLthOr e p m s) := by
  unfold execLthOr
  refine Res.after (lthRR_keeps _ _ _ _ _ _) rfl ?_
  exact Keeps.refl _ _

theorem execLthOri_keeps (e) (p) (m) (i) (s) : Res 1074375168 s (execLthOri e p m i s) := by
  unfold execLthOri
  refine Res.after (lthRI_keeps _ _ _ _ _ _ _) rfl ?_
  exact Keeps.refl _ _

theorem execLthXor_keeps (e) (p) (m) (s) : Res 1074375168 s (execLthXor e p m s) := by
  unfold execLthXor
  refine Res.after (lthRR_keeps _ _ _ _ _ _) rfl ?_
  exact Keeps.refl _ _

theorem execLthXori_keeps (e) (p) (m) (i) (s) : Res 1074375168 s (execLthXori e p m i s) := by
  unfold execLthXori
  refine Res.after (lthRI_keeps _ _ _ _ _ _ _) rfl ?_
  exact Keeps.refl _ _

theorem execLthTst_keeps (e) (p) (m) (s) : Res 1074375168 s (execLthTst e p m s) := by
  unfold execLthTst
  refine Res.after (lthRR_keeps _ _ _ _ _ _) rfl ?_
  exact Keeps.refl _ _

theorem execLthTsti_keeps (e) (p) (m) (i) (s) : Res 1074375168 s (execLthTsti e p m i s) := by
  unfold execLthTsti
  refine Res.after (lthRI_keeps _ _ _ _ _ _ _) rfl ?_
  exact Keeps.refl _ _

theorem execLthShl_keeps (e) (p) (m) (s) : Res 1074375168 s (execLthShl e p m s) := by
  unfold execLthShl
  refine Res.after (lthShiftR_keeps _ _ _ _ _) rfl ?_
  exact Keeps.refl _ _

theorem execLthShli_keeps (e) (p) (m) (b) (s) : Res 1074375168 s (execLthShli e p m b s) := by
  unfold execLthShli
  refine Res.after (lthShiftI_keeps _ _ _ _ _ _) rfl ?_
  exact Keeps.refl _ _

theorem execLthShr_keeps (e) (p) (m) (s) : Res 1074375168 s (execLthShr e p m s) := by
  unfold execLthShr
  refine Res.after (lthShiftR_keeps _ _ _ _ _) rfl ?_
  exact Keeps.refl _ _

theorem execLthShri_keeps (e) (p) (m) (b) (s) : Res 1074375168 s (execLthShri e p m b s) := by
  unfold execLthShri
  refine Res.after (lthShiftI_keeps _ _ _ _ _ _) rfl ?_
  exact Keeps.refl _ _

theorem execLthSar_keeps (e) (p) (m) (s) : Res 1074375168 s (execLthSar e p m s) := by
  unfold execLthSar
  refine Res.after (lthShiftR_keeps _ _ _ _ _) rfl ?_
  exact Keeps.refl _ _

theorem execLthSari_keeps (e) (p) (m) (b) (s) : Res 1074375168 s (execLthSari e p m b s) := by
  unfold execLthSari
  refine Res.after (lthShiftI_keeps _ _ _ _ _ _) rfl ?_
  exact Keeps.refl _ _

theorem execLthRol_keeps (e) (p) (m) (s) : Res 1074375168 s (execLthRol e p m s) := by
  unfold execLthRol
  refine Res.after (lthShiftR_keeps _ _ _ _ _) rfl ?_
  exact Keeps.refl _ _

theorem execLthRoli_keeps (e) (p) (m) (b) (s) : Res 1074375168 s (execLthRoli e p m b s) := by
  unfold execLthRoli
  refine Res.after (lthShiftI_keeps _ _ _ _ _ _) rfl ?_
  exact Keeps.refl _ _

theorem execLthNot_keeps (e) (p) (m) (s) : Res 1074375168 s (execLthNot e p m s) := by
  unfold execLthNot
  refine Res.after (lthUnary_keeps _ _ _ _ _) rfl ?_
  exact Keeps.refl _ _

theorem execLthNeg_keeps (e) (p) (m) (s) : Res 1074375168 s (execLthNeg e p m s) := by
  unfold execLthNeg
  refine Res.after (lthUnary_keeps _ _ _ _ _) rfl ?_
  exact Keeps.refl _ _

theorem execLthMul_keeps (e) (p) (m) (s) : Res 1074375168 s (execLthMul e p m s) := by
  unfold execLthMul
  refine Res.after (lthRR_keeps _ _ _ _ _ _) rfl ?_
  exact Keeps.refl _ _

theorem execLthMuli_keeps (e) (p) (m) (i) (s) : Res 1074375168 s (execLthMuli e p m i s) := by
  unfold execLthMuli
  refine Res.after (lthRI_keeps _ _ _ _ _ _ _) rfl ?_
  exact Keeps.refl _ _

theorem execLthBswap_keeps (e) (p) (m) (s) : Res 1074375168 s (execLthBswap e p m s) := by
  unfold execLthBswap
  extract_lets v2
  clear_value v2
  refine lthRow_keeps rfl (fun _ _ => ?_)
  rename_i z4 z5
  refine Keeps.after (aluOn_keeps _ _ _ _ _ _) rfl ?_
  exact Keeps.refl _ _

theorem execLthExt_keeps (e) (p) (m) (pos) (wid) (s) : Res 1074375168 s (execLthExt e p m pos wid s) := by
  unfold execLthExt
  extract_lets v2
  clear_value v2
  refine lthRow_keeps rfl (fun _ _ => ?_)
  rename_i z4 z5
  extract_lets v7
  clear_value v7
  refine Keeps.mk1 ?_
  refine Keeps.after (LthEnv.upd_keeps _ _ _) rfl ?_
  exact Keeps.refl _ _

theorem execLthBtst_keeps (e) (p) (m) (b) (s) : Res 1074375168 s (execLthBtst e p m b s) := by
  unfold execLthBtst
  refine Res.after (lthBit_keeps _ _ _ _ _ _) rfl ?_
  exact Keeps.refl _ _

theorem execLthBset_keeps (e) (p) (m) (b) (s) : Res 1074375168 s (execLthBset e p m b s) := by
  unfold execLthBset
  refine Res.after (lthBit_keeps _ _ _ _ _ _) rfl ?_
  exact Keeps.refl _ _

theorem execLthBclr_keeps (e) (p) (m) (b) (s) : Res 1074375168 s (execLthBclr e p m b s) := by
  unfold execLthBclr
  refine Res.after (lthBit_keeps _ _ _ _ _ _) rfl ?_
  exact Keeps.refl _ _

theorem execLthLd_keeps (e) (p) (m) (a) (disp) (s) : Res 1544531905 s (execLthLd e p m a disp s) := by
  unfold execLthLd
  refine Res.after (lthLoadRow_keeps _ _ _ _ _ _ _) rfl ?_
  exact Keeps.refl _ _

theorem execLthLds_keeps (e) (p) (m) (a) (disp) (s) : Res 1544531905 s (execLthLds e p m a disp s) := by
  unfold execLthLds
  refine Res.after (lthLoadRow_keeps _ _ _ _ _ _ _) rfl ?_
  exact Keeps.refl _ _

theorem execLthSt_keeps (e) (p) (m) (a) (disp) (s) : Res 276087943105 s (execLthSt e p m a disp s) := by
  unfold execLthSt
  refine lthRow_keeps rfl (fun _ _ => ?_)
  rename_i z2 z3
  refine Keeps.after (storeAt_keeps _ _ _ _ _ _) rfl ?_
  exact Keeps.refl _ _

theorem execLthLea_keeps (e) (p) (m) (a) (disp) (s) : Res 1074375168 s (execLthLea e p m a disp s) := by
  unfold execLthLea
  refine lthRow_keeps rfl (fun _ _ => ?_)
  rename_i z2 z3
  refine Keeps.mk1 ?_
  refine Keeps.after (LthEnv.upd_keeps _ _ _) rfl ?_
  exact Keeps.refl _ _

theorem execLthXchg_keeps (e) (p) (m) (a) (disp) (s) : Res 276423487425 s (execLthXchg e p m a disp s) := by
  unfold execLthXchg
  refine lthRow_keeps rfl (fun _ _ => ?_)
  rename_i z2 z3
  extract_lets v5 v6
  clear_value v5 v6
  split
  · rename_i z8 z9 z10 z11
    refine Keeps.mk1 ?_
    refine Keeps.after (stepBase_keeps _ _ _ _) rfl ?_
    refine Keeps.fst_eq z11 ?_
    refine Keeps.after (lthExchange_keeps _ _ _ _ _ _) rfl ?_
    exact Keeps.refl _ _
  · rename_i z17 z18
    refine Keeps.after (memFail_keeps _ _ _) rfl ?_
    refine Keeps.after (lthExchange_keeps _ _ _ _ _ _) rfl ?_
    exact Keeps.refl _ _

theorem execLthCas_keeps (e) (p) (m) (x) (s) : Res 276423487425 s (execLthCas e p m x s) := by
  unfold execLthCas
  refine lthRow_keeps rfl (fun _ _ => ?_)
  rename_i z2 z3
  extract_lets v5 v6 v7 v8
  clear_value v5 v6 v7 v8
  split
  · rename_i z10 z11 z12 z13
    refine Keeps.mk1 ?_
    refine Keeps.after (LthEnv.upd_keeps _ _ _) rfl ?_
    refine Keeps.fst_eq z13 ?_
    refine Keeps.after (lthExchange_keeps _ _ _ _ _ _) rfl ?_
    exact Keeps.refl _ _
  · rename_i z19 z20
    refine Keeps.after (memFail_keeps _ _ _) rfl ?_
    refine Keeps.after (lthExchange_keeps _ _ _ _ _ _) rfl ?_
    exact Keeps.refl _ _

theorem execLthSti_keeps (e) (p) (m) (a) (disp) (i) (s) : Res 276087943105 s (execLthSti e p m a disp i s) := by
  unfold execLthSti
  refine lthRow_keeps rfl (fun _ _ => ?_)
  rename_i z2 z3
  refine Keeps.after (storeAt_keeps _ _ _ _ _ _) rfl ?_
  exact Keeps.refl _ _

theorem execLthPush_keeps (e) (p) (m) (s) : Res 1208593920 s (execLthPush e p m s) := by
  unfold execLthPush
  refine lthRow_keeps rfl (fun _ _ => ?_)
  rename_i z2 z3
  refine Keeps.after (pushWords_keeps _ _ _) rfl ?_
  exact Keeps.refl _ _

theorem execLthPop_keeps (e) (p) (m) (s) : Res 1074375232 s (execLthPop e p m s) := by
  unfold execLthPop
  refine lthRow_keeps rfl (fun _ _ => ?_)
  rename_i z2 z3
  split
  · rename_i z5 z6 z7 z8
    refine Keeps.mk1 ?_
    refine Keeps.after (LthEnv.upd_keeps _ _ _) rfl ?_
    refine Keeps.fst_eq z8 ?_
    refine Keeps.after (readStack_keeps _ _ _) rfl ?_
    exact Keeps.refl _ _
  · rename_i z14 z15 z16 z17
    refine Keeps.mk1 ?_
    refine Keeps.fst_eq z17 ?_
    refine Keeps.after (readStack_keeps _ _ _) rfl ?_
    exact Keeps.refl _ _

theorem execLthBccRel8_keeps (e) (p) (cc) (d) (s) : Res 1074375168 s (execLthBccRel8 e p cc d s) := by
  unfold execLthBccRel8
  refine lthRow_keeps rfl (fun _ _ => ?_)
  rename_i z2 z3
  refine Keeps.mk1 ?_
  refine Keeps.ite ?_ ?_
  · refine Keeps.after (jumpTo_keeps _ _ _) rfl ?_
    exact Keeps.refl _ _
  · exact Keeps.refl _ _

theorem execLthBccRel16_keeps (e) (p) (cc) (d) (s) : Res 1074375168 s (execLthBccRel16 e p cc d s) := by
  unfold execLthBccRel16
  refine lthRow_keeps rfl (fun _ _ => ?_)
  rename_i z2 z3
  refine Keeps.mk1 ?_
  refine Keeps.ite ?_ ?_
  · refine Keeps.after (jumpTo_keeps _ _ _) rfl ?_
    exact Keeps.refl _ _
  · exact Keeps.refl _ _

theorem execLthJmp_keeps (e) (p) (m) (s) : Res 1074375168 s (execLthJmp e p m s) := by
  unfold execLthJmp
  refine lthRow_keeps rfl (fun _ _ => ?_)
  rename_i z2 z3
  refine Keeps.mk1 ?_
  refine Keeps.after (jumpTo_keeps _ _ _) rfl ?_
  exact Keeps.refl _ _

theorem execLthJmpa_keeps (e) (p) (a) (s) : Res 1074375168 s (execLthJmpa e p a s) := by
  unfold execLthJmpa
  refine lthRow_keeps rfl (fun _ _ => ?_)
  rename_i z2 z3
  refine Keeps.mk1 ?_
  refine Keeps.after (jumpTo_keeps _ _ _) rfl ?_
  exact Keeps.refl _ _

theorem execLthCall_keeps (e) (p) (d) (mask) (s) : Res 1208593920 s (execLthCall e p d mask s) := by
  unfold execLthCall
  refine lthRow_keeps rfl (fun _ _ => ?_)
  rename_i z2 z3
  refine Keeps.after (callTo_keeps _ _ _ _) rfl ?_
  exact Keeps.refl _ _

theorem execLthCallr_keeps (e) (p) (m) (mask) (s) : Res 1208593920 s (execLthCallr e p m mask s) := by
  unfold execLthCallr
  refine lthRow_keeps rfl (fun _ _ => ?_)
  rename_i z2 z3
  refine Keeps.after (callTo_keeps _ _ _ _) rfl ?_
  exact Keeps.refl _ _

theorem execLthRet_keeps (e) (p) (mask) (s) : Res 1074375232 s (execLthRet e p mask s) := by
  unfold execLthRet
  refine lthRow_keeps rfl (fun _ _ => ?_)
  rename_i z2 z3
  refine Keeps.after (returnFrom_keeps _ _ _) rfl ?_
  exact Keeps.refl _ _

theorem execLthBlkCopy_keeps (e) (p) (b) (more) (s) : Res 276423487425 s (execLthBlkCopy e p b more s) := by
  unfold execLthBlkCopy
  refine lthBlk_keeps rfl (fun _ _ => ?_)
  rename_i z2 z3
  refine Keeps.after (elemCopy_keeps _ _) rfl ?_
  exact Keeps.refl _ _

theorem execLthBlkFill_keeps (e) (p) (b) (m) (more) (s) : Res 276087943105 s (execLthBlkFill e p b m more s) := by
  unfold execLthBlkFill
  refine lthBlk_keeps rfl (fun _ _ => ?_)
  rename_i z2 z3
  refine Keeps.after (elemFill_keeps _ _ _) rfl ?_
  exact Keeps.refl _ _

theorem execLthBlkMatch_keeps (e) (p) (b) (more) (s) : Res 1544531905 s (execLthBlkMatch e p b more s) := by
  unfold execLthBlkMatch
  refine lthBlk_keeps rfl (fun _ _ => ?_)
  rename_i z2 z3
  refine Keeps.after (elemMatch_keeps _ _) rfl ?_
  exact Keeps.refl _ _

theorem execLthBlkSeek_keeps (e) (p) (b) (m) (more) (s) : Res 1544531905 s (execLthBlkSeek e p b m more s) := by
  unfold execLthBlkSeek
  refine lthBlk_keeps rfl (fun _ _ => ?_)
  rename_i z2 z3
  refine Keeps.after (elemSeek_keeps _ _ _) rfl ?_
  exact Keeps.refl _ _

theorem execLthBlkGather_keeps (e) (p) (b) (m) (s) : Res 1544531905 s (execLthBlkGather e p b m s) := by
  unfold execLthBlkGather
  extract_lets v2
  clear_value v2
  refine lthRow_keeps rfl (fun _ _ => ?_)
  rename_i z4 z5
  refine Keeps.after (elemGather_keeps _ _ _) rfl ?_
  exact Keeps.refl _ _

theorem execForwardingSlotMiss_keeps (s) : Res 297271489 s (execForwardingSlotMiss s) := by
  unfold execForwardingSlotMiss
  refine Res.next ?_
  refine Keeps.after (missForwarding_keeps _) rfl ?_
  exact Keeps.refl _ _

theorem execEchoMiss_keeps (s) : Res 560658383298 s (execEchoMiss s) := by
  unfold execEchoMiss
  refine Res.next ?_
  refine Keeps.after (missEcho_keeps _) rfl ?_
  exact Keeps.refl _ _

theorem execFillFrame_keeps (line) (s) : Res 150994945 s (execFillFrame line s) := by
  unfold execFillFrame
  refine Res.onUnit ?_
  refine Keeps.after (fillFrame_keeps _ _) rfl ?_
  exact Keeps.refl _ _

theorem execTakeover_keeps (s) : Res 558814994626 s (execTakeover s) := by
  unfold execTakeover
  refine Res.next ?_
  refine Keeps.after (takeOver_keeps _) rfl ?_
  exact Keeps.refl _ _

theorem execShadowSynced_keeps (s) : Res 558371438786 s (execShadowSynced s) := by
  unfold execShadowSynced
  refine Res.next ?_
  refine Keeps.after (shadowSynced_keeps _) rfl ?_
  exact Keeps.refl _ _

theorem execShadowSyncTimeout_keeps (s) : Res 58720385 s (execShadowSyncTimeout s) := by
  unfold execShadowSyncTimeout
  refine Res.next ?_
  refine Keeps.ite ?_ ?_
  · split
    · rename_i z4 z5 z6
      extract_lets v8 v9 v10
      have hv8 : Keeps 58720385 (s) v8 := by
        unfold v8
        refine Keeps.after (State.advanceTo_keeps _ _) rfl ?_
        exact Keeps.refl _ _
      clear_value v8
      have hv9 : Keeps 58720385 (s) v9 := by
        unfold v9
        refine Keeps.after (State.completeCmd_keeps _ _ _ _) rfl ?_
        refine Keeps.after (dropLines_keeps _) rfl ?_
        assumption
      clear_value v9
      refine Keeps.trans (t := v9) ?_ (fun p hp => by cases p <;> first | rfl | exact absurd hp (by decide) | exact fun h => h | exact Nat.le_refl _)
      assumption
    · rename_i z18 z19
      exact Keeps.refl _ _
  · refine Keeps.ite ?_ ?_
    · refine Keeps.pair_ (u := s) ?_ rfl
      exact Keeps.refl _ _
    · exact Keeps.refl _ _

theorem execRstNLow_keeps (s) : Res 411377332199 s (execRstNLow s) := by
  unfold execRstNLow
  refine Res.next ?_
  refine Keeps.after (holdInReset_keeps _ _) rfl ?_
  exact Keeps.refl _ _

theorem execRailResetThreshold_keeps (rail) (s) : Res 411511549935 s (execRailResetThreshold rail s) := by
  unfold execRailResetThreshold
  refine Res.onUnit ?_
  refine Keeps.after (railReset_keeps _ _) rfl ?_
  exact Keeps.refl _ _

theorem execPowerOnReset_keeps (strap) (s) : Res 411377332199 s (execPowerOnReset strap s) := by
  unfold execPowerOnReset
  refine Res.next ?_
  refine Keeps.after (powerOn_keeps _ _) rfl ?_
  exact Keeps.refl _ _

theorem execBootWatchdog_keeps (s) : Res 411377332199 s (execBootWatchdog s) := by
  unfold execBootWatchdog
  refine Res.next ?_
  refine Keeps.ite ?_ ?_
  · exact Keeps.refl _ _
  · refine Keeps.after (deviceReset_keeps _ _) rfl ?_
    exact Keeps.refl _ _

theorem execDeferredReset_keeps (s) : Res 411377332199 s (execDeferredReset s) := by
  unfold execDeferredReset
  refine Res.next ?_
  split
  · rename_i z3 z4 z5 z6
    refine Keeps.after (deviceReset_keeps _ _) rfl ?_
    exact Keeps.refl _ _
  · rename_i z9 z10
    exact Keeps.refl _ _

theorem execPfwNAssert_keeps (s) : Res 285737156 s (execPfwNAssert s) := by
  unfold execPfwNAssert
  refine Res.next ?_
  refine Keeps.after (beginInhibit_keeps _ _) rfl ?_
  exact Keeps.refl _ _

theorem execRailInhibitThreshold_keeps (core) (s) : Res 285737156 s (execRailInhibitThreshold core s) := by
  unfold execRailInhibitThreshold
  refine Res.next ?_
  refine Keeps.after (beginInhibit_keeps _ _) rfl ?_
  exact Keeps.refl _ _

theorem execInhibitRelease_keeps (s) : Res 524356 s (execInhibitRelease s) := by
  unfold execInhibitRelease
  refine Res.next ?_
  refine Keeps.after (endInhibit_keeps _) rfl ?_
  exact Keeps.refl _ _

theorem execPllLockLoss_keeps (pll) (s) : Res 411511549927 s (execPllLockLoss pll s) := by
  unfold execPllLockLoss
  refine Res.onUnit ?_
  refine Keeps.ite ?_ ?_
  · refine Keeps.after (deviceFault_keeps _) rfl ?_
    exact Keeps.refl _ _
  · refine Keeps.wnw_ (u := s) ?_ rfl
    exact Keeps.refl _ _

theorem execScrubBurst_keeps (mem) (errs) (s) : Res 1225763392 s (execScrubBurst mem errs s) := by
  unfold execScrubBurst
  refine Res.onUnit ?_
  refine Keeps.ite ?_ ?_
  · refine Keeps.after (scrubBurst_keeps _ _ _) rfl ?_
    exact Keeps.refl _ _
  · exact Keeps.refl _ _

theorem execScrubLate_keeps (mem) (s) : Res 524288 s (execScrubLate mem s) := by
  unfold execScrubLate
  refine Res.onUnit ?_
  refine Keeps.after (scrubLate_keeps _ _) rfl ?_
  exact Keeps.refl _ _

theorem execSelfTestSlice_keeps (b) (ok) (s) : Res 524288 s (execSelfTestSlice b ok s) := by
  unfold execSelfTestSlice
  refine Res.next ?_
  refine Keeps.ite ?_ ?_
  · exact Keeps.refl _ _
  · refine Keeps.ite ?_ ?_
    · refine Keeps.wnw_ (u := s) ?_ rfl
      exact Keeps.refl _ _
    · refine Keeps.after (testResult_keeps _ _ _ _ _) rfl ?_
      exact Keeps.refl _ _

theorem execSpareTestSlice_keeps (ok) (s) : Res 1572864 s (execSpareTestSlice ok s) := by
  unfold execSpareTestSlice
  refine Res.next ?_
  refine Keeps.after (spareSlice_keeps _ _) rfl ?_
  exact Keeps.refl _ _

theorem execEyeMonitor_keeps (lane) (ok) (s) : Res 268959808 s (execEyeMonitor lane ok s) := by
  unfold execEyeMonitor
  refine Res.next ?_
  refine Keeps.ite ?_ ?_
  · exact Keeps.refl _ _
  · split
    rename_i z5 z6 z7 z8
    refine Keeps.after (State.record_keeps _ _ _ _) rfl ?_
    refine Keeps.snd_eq z8 ?_
    refine Keeps.after (State.freeBelow_keeps _ _) rfl ?_
    exact Keeps.refl _ _

theorem execLoopbackTest_keeps (lane) (ok) (s) : Res 524288 s (execLoopbackTest lane ok s) := by
  unfold execLoopbackTest
  extract_lets v2 v3
  clear_value v2 v3
  refine Res.onUnit ?_
  refine Keeps.ite ?_ ?_
  · exact Keeps.refl _ _
  · refine Keeps.after (testResult_keeps _ _ _ _ _) rfl ?_
    exact Keeps.refl _ _

theorem execConverterCalibration_keeps (c) (ofs) (gain) (off) (s) : Res 549756338240 s (execConverterCalibration c ofs gain off s) := by
  unfold execConverterCalibration
  refine Res.onUnit ?_
  refine Keeps.ite ?_ ?_
  · refine Keeps.after (calibrate_keeps _ _ _ _ _) rfl ?_
    exact Keeps.refl _ _
  · exact Keeps.refl _ _

theorem execPwmTuning_keeps (u) (tap) (ok) (s) : Res 549756338240 s (execPwmTuning u tap ok s) := by
  unfold execPwmTuning
  refine Res.onUnit ?_
  refine Keeps.ite ?_ ?_
  · refine Keeps.after (tune_keeps _ _ _ _) rfl ?_
    exact Keeps.refl _ _
  · exact Keeps.refl _ _

theorem execTemperatureSample_keeps (tj) (s) : Res 524288 s (execTemperatureSample tj s) := by
  unfold execTemperatureSample
  refine Res.next ?_
  refine Keeps.ite ?_ ?_
  · refine Keeps.after (sampleTemp_keeps _ _) rfl ?_
    exact Keeps.refl _ _
  · exact Keeps.refl _ _

theorem execWearLevelMove_keeps (sector) (s) : Res 64 s (execWearLevelMove sector s) := by
  unfold execWearLevelMove
  refine Res.onUnit ?_
  refine Keeps.ite ?_ ?_
  · refine Keeps.after (wearMove_keeps _ _) rfl ?_
    exact Keeps.refl _ _
  · exact Keeps.refl _ _

theorem execNvRateCheck_keeps (past) (s) : Res 64 s (execNvRateCheck past s) := by
  unfold execNvRateCheck
  refine Res.next ?_
  refine Keeps.after (rateCheck_keeps _ _) rfl ?_
  exact Keeps.refl _ _

theorem execArchiveCopy_keeps (evict) (s) : Res 64 s (execArchiveCopy evict s) := by
  unfold execArchiveCopy
  refine Res.next ?_
  refine Keeps.after (archivePage_keeps _ _) rfl ?_
  exact Keeps.refl _ _

theorem execNorOperationComplete_keeps (dev) (op) (sector) (ok) (s) : Res 524352 s (execNorOperationComplete dev op sector ok s) := by
  unfold execNorOperationComplete
  refine Res.onUnit ?_
  refine Keeps.after (norEnd_keeps _ _ _ _ _) rfl ?_
  exact Keeps.refl _ _

theorem execTelemetryDatagram_keeps (s) : Res 437125122 s (execTelemetryDatagram s) := by
  unfold execTelemetryDatagram
  refine Res.next ?_
  refine Keeps.after (sendTelemetry_keeps _) rfl ?_
  exact Keeps.refl _ _

theorem execBootSlotChoice_keeps (s) : Res 843961615174 s (execBootSlotChoice s) := by
  unfold execBootSlotChoice
  refine Res.next ?_
  refine Keeps.ite ?_ ?_
  · refine Keeps.after (bootChoice_keeps _) rfl ?_
    exact Keeps.refl _ _
  · exact Keeps.refl _ _

theorem execRecoverWord_keeps (ch) (s) : Res 411511549927 s (execRecoverWord ch s) := by
  unfold execRecoverWord
  refine Res.next ?_
  refine Keeps.after (recoverWord_keeps _ _) rfl ?_
  exact Keeps.refl _ _

theorem execStartupSelfTest_keeps (failed) (pool) (s) : Res 411779985383 s (execStartupSelfTest failed pool s) := by
  unfold execStartupSelfTest
  refine Res.next ?_
  refine Keeps.ite ?_ ?_
  · refine Keeps.after (selfTest_keeps _ _ _) rfl ?_
    exact Keeps.refl _ _
  · exact Keeps.refl _ _

theorem execGlumeStartup_keeps (s) : Res 584254488774 s (execGlumeStartup s) := by
  unfold execGlumeStartup
  refine Res.next ?_
  refine Keeps.ite ?_ ?_
  · refine Keeps.after (glumeStart_keeps _) rfl ?_
    exact Keeps.refl _ _
  · exact Keeps.refl _ _

theorem execStartupImageLoad_keeps (locked) (s) : Res 1108324037 s (execStartupImageLoad locked s) := by
  unfold execStartupImageLoad
  refine Res.next ?_
  refine Keeps.ite ?_ ?_
  · refine Keeps.after (imageStage_keeps _ _) rfl ?_
    exact Keeps.refl _ _
  · exact Keeps.refl _ _

theorem execStartupFabricJoin_keeps (s) : Res 581976457286 s (execStartupFabricJoin s) := by
  unfold execStartupFabricJoin
  refine Res.next ?_
  refine Keeps.ite ?_ ?_
  · refine Keeps.after (fabricStage_keeps _) rfl ?_
    exact Keeps.refl _ _
  · exact Keeps.refl _ _

theorem execStartupConfigRestore_keeps (s) : Res 139724325830 s (execStartupConfigRestore s) := by
  unfold execStartupConfigRestore
  refine Res.next ?_
  refine Keeps.ite ?_ ?_
  · refine Keeps.after (configStage_keeps _) rfl ?_
    exact Keeps.refl _ _
  · exact Keeps.refl _ _

theorem execTapReset_keeps (s) : Res 8 s (execTapReset s) := by
  unfold execTapReset
  refine Res.next ?_
  refine Keeps.after (selectQuiet_keeps _ _ _) rfl ?_
  exact Keeps.refl _ _

theorem execTapIdcode_keeps (s) : Res 8 s (execTapIdcode s) := by
  unfold execTapIdcode
  refine Res.next ?_
  refine Keeps.after (selectQuiet_keeps _ _ _) rfl ?_
  exact Keeps.refl _ _

theorem execTapBypass_keeps (s) : Res 8 s (execTapBypass s) := by
  unfold execTapBypass
  refine Res.next ?_
  refine Keeps.after (selectQuiet_keeps _ _ _) rfl ?_
  exact Keeps.refl _ _

theorem execTapSamplePreload_keeps (preload) (s) : Res 268435464 s (execTapSamplePreload preload s) := by
  unfold execTapSamplePreload
  refine Res.next ?_
  refine Keeps.after (capturePins_keeps _) rfl ?_
  refine Keeps.after (selectQuiet_keeps _ _ _) rfl ?_
  refine Keeps.tap_ (u := s) ?_ rfl
  exact Keeps.refl _ _

theorem execTapExtest_keeps (s) : Res 411645767663 s (execTapExtest s) := by
  unfold execTapExtest
  refine Res.next ?_
  refine Keeps.after (selectTaking_keeps _ _ _) rfl ?_
  exact Keeps.refl _ _

theorem execTapClamp_keeps (s) : Res 411645767663 s (execTapClamp s) := by
  unfold execTapClamp
  refine Res.next ?_
  refine Keeps.after (selectTaking_keeps _ _ _) rfl ?_
  exact Keeps.refl _ _

theorem execTapHighz_keeps (s) : Res 411645767663 s (execTapHighz s) := by
  unfold execTapHighz
  refine Res.next ?_
  refine Keeps.after (selectTaking_keeps _ _ _) rfl ?_
  exact Keeps.refl _ _

theorem execTapExtestPulse_keeps (s) : Res 411645767663 s (execTapExtestPulse s) := by
  unfold execTapExtestPulse
  refine Res.next ?_
  refine Keeps.after (selectTaking_keeps _ _ _) rfl ?_
  exact Keeps.refl _ _

theorem execTapExtestTrain_keeps (s) : Res 411645767663 s (execTapExtestTrain s) := by
  unfold execTapExtestTrain
  refine Res.next ?_
  refine Keeps.after (selectTaking_keeps _ _ _) rfl ?_
  exact Keeps.refl _ _

theorem execTapPinControlTakeover_keeps (s) : Res 9 s (execTapPinControlTakeover s) := by
  unfold execTapPinControlTakeover
  refine Res.next ?_
  split
  · rename_i z3 z4
    exact Keeps.refl _ _
  · rename_i z6 z7 z8
    extract_lets v10 v11
    have hv10 : Keeps 9 (s) v10 := by
      unfold v10
      refine Keeps.after (State.advanceTo_keeps _ _) rfl ?_
      exact Keeps.refl _ _
    clear_value v10
    refine Keeps.tap_ (u := v10) ?_ rfl
    assumption

theorem execCompareMatch_keeps (u) (s) : Res 1083393 s (execCompareMatch u s) := by
  unfold execCompareMatch
  refine Res.onUnit ?_
  refine Keeps.after (compareMatch_keeps _ _) rfl ?_
  exact Keeps.refl _ _

theorem execTickLengthChange_keeps (s) : Res 4323803139 s (execTickLengthChange s) := by
  unfold execTickLengthChange
  refine Res.next ?_
  refine Keeps.after (changeLength_keeps _) rfl ?_
  split
  · rename_i z4 z5 z6 z7
    refine Keeps.ite ?_ ?_
    · exact Keeps.refl _ _
    · refine Keeps.after (State.advanceTo_keeps _ _) rfl ?_
      exact Keeps.refl _ _
  · rename_i z12 z13
    exact Keeps.refl _ _

theorem execTickEdge_keeps (gpio) (roles) (s) : Res 961535803383 s (execTickEdge gpio roles s) := by
  unfold execTickEdge
  refine Res.next ?_
  refine Keeps.ite ?_ ?_
  · exact Keeps.refl _ _
  · refine Keeps.after (edgeEnd_keeps _) rfl ?_
    refine Keeps.after (edgeWork_keeps _ _ _) rfl ?_
    refine Keeps.after (openTick_keeps _) rfl ?_
    exact Keeps.refl _ _

theorem execOutputSeal_keeps (s) : Res 156772547 s (execOutputSeal s) := by
  unfold execOutputSeal
  refine Res.next ?_
  refine Keeps.after (phaseEvents_keeps _ _) rfl ?_
  refine Keeps.after (sealDigests_keeps _) rfl ?_
  refine Keeps.after (traceAxes_keeps _) rfl ?_
  refine Keeps.after (noteMarks_keeps _) rfl ?_
  refine Keeps.after (noteConsumed_keeps _) rfl ?_
  refine Keeps.after (outputSeal_keeps _) rfl ?_
  exact Keeps.refl _ _

end Sys2Proof.Machine
end

