-- ==== Sys2Proof/Laws/State.lean ====
section
/-! SUPPORT. Every record of the state read after any record is written: one lemma per field per update, true by definition, and the
record itself as it was written. -/

namespace Sys2Proof.Machine

/-! ### setBase -/

@[simp] theorem State.base_setBase (s : State) (n : Nat) (v : TimeBase) : (s.setBase n v).base n = v := Table.get_set_same _ _ _ _
theorem State.base_setBase_other (s : State) (v : TimeBase) {n k : Nat} (h : k ≠ n) : (s.setBase n v).base k = s.base k := Table.get_set_other _ _ _ h
@[simp] theorem State.updBase_eq (s : State) (n : Nat) (f : TimeBase → TimeBase) : s.updBase n f = s.setBase n (f (s.base n)) := rfl
@[simp] theorem State.cell_setBase (s : State) (n : Nat) (v : TimeBase) : (s.setBase n v).cell = s.cell := rfl
@[simp] theorem State.power_setBase (s : State) (n : Nat) (v : TimeBase) : (s.setBase n v).power = s.power := rfl
@[simp] theorem State.tap_setBase (s : State) (n : Nat) (v : TimeBase) : (s.setBase n v).tap = s.tap := rfl
@[simp] theorem State.kept_setBase (s : State) (n : Nat) (v : TimeBase) : (s.setBase n v).kept = s.kept := rfl
@[simp] theorem State.keptAt_setBase (s : State) (n : Nat) (v : TimeBase) : (s.setBase n v).keptAt = s.keptAt := rfl
@[simp] theorem State.jrnl_setBase (s : State) (n : Nat) (v : TimeBase) : (s.setBase n v).jrnl = s.jrnl := rfl
@[simp] theorem State.host_setBase (s : State) (n : Nat) (v : TimeBase) : (s.setBase n v).host = s.host := rfl
@[simp] theorem State.mbx_setBase (s : State) (n : Nat) (v : TimeBase) : (s.setBase n v).mbx = s.mbx := rfl
@[simp] theorem State.pool_setBase (s : State) (n : Nat) (v : TimeBase) : (s.setBase n v).pool = s.pool := rfl
@[simp] theorem State.chk_setBase (s : State) (n : Nat) (v : TimeBase) : (s.setBase n v).chk = s.chk := rfl
@[simp] theorem State.lathes_setBase (s : State) (n : Nat) (v : TimeBase) : (s.setBase n v).lathes = s.lathes := rfl
@[simp] theorem State.images_setBase (s : State) (n : Nat) (v : TimeBase) : (s.setBase n v).images = s.images := rfl
@[simp] theorem State.ctxs_setBase (s : State) (n : Nat) (v : TimeBase) : (s.setBase n v).ctxs = s.ctxs := rfl
@[simp] theorem State.custKey_setBase (s : State) (n : Nat) (v : TimeBase) : (s.setBase n v).custKey = s.custKey := rfl
@[simp] theorem State.chisels_setBase (s : State) (n : Nat) (v : TimeBase) : (s.setBase n v).chisels = s.chisels := rfl
@[simp] theorem State.cans_setBase (s : State) (n : Nat) (v : TimeBase) : (s.setBase n v).cans = s.cans := rfl
@[simp] theorem State.macs_setBase (s : State) (n : Nat) (v : TimeBase) : (s.setBase n v).macs = s.macs := rfl
@[simp] theorem State.switch_setBase (s : State) (n : Nat) (v : TimeBase) : (s.setBase n v).switch = s.switch := rfl
@[simp] theorem State.wnw_setBase (s : State) (n : Nat) (v : TimeBase) : (s.setBase n v).wnw = s.wnw := rfl
@[simp] theorem State.motion_setBase (s : State) (n : Nat) (v : TimeBase) : (s.setBase n v).motion = s.motion := rfl
@[simp] theorem State.claim_setBase (s : State) (n : Nat) (v : TimeBase) : (s.setBase n v).claim = s.claim := rfl
@[simp] theorem State.glume_setBase (s : State) (n : Nat) (v : TimeBase) : (s.setBase n v).glume = s.glume := rfl
@[simp] theorem State.fab_setBase (s : State) (n : Nat) (v : TimeBase) : (s.setBase n v).fab = s.fab := rfl
@[simp] theorem State.pair_setBase (s : State) (n : Nat) (v : TimeBase) : (s.setBase n v).pair = s.pair := rfl
@[simp] theorem State.nets_setBase (s : State) (n : Nat) (v : TimeBase) : (s.setBase n v).nets = s.nets := rfl
@[simp] theorem State.rd_setBase (s : State) (n : Nat) (v : TimeBase) : (s.setBase n v).rd = s.rd := rfl
@[simp] theorem State.out_setBase (s : State) (n : Nat) (v : TimeBase) : (s.setBase n v).out = s.out := rfl
@[simp] theorem State.freeCount_setBase (s : State) (n : Nat) (v : TimeBase) : (s.setBase n v).freeCount = s.freeCount := rfl
@[simp] theorem State.pending_setBase (s : State) (n : Nat) (v : TimeBase) : (s.setBase n v).pending = s.pending := rfl
@[simp] theorem State.latch_setBase (s : State) (n k : Nat) (v : TimeBase) : (s.setBase n v).latch k = s.latch k := rfl
@[simp] theorem State.cmp_setBase (s : State) (n k : Nat) (v : TimeBase) : (s.setBase n v).cmp k = s.cmp k := rfl
@[simp] theorem State.cap_setBase (s : State) (n k : Nat) (v : TimeBase) : (s.setBase n v).cap k = s.cap k := rfl
@[simp] theorem State.tsIns_setBase (s : State) (n k : Nat) (v : TimeBase) : (s.setBase n v).tsIns k = s.tsIns k := rfl

/-! ### setLatch -/

@[simp] theorem State.latch_setLatch (s : State) (n : Nat) (v : TbLatch) : (s.setLatch n v).latch n = v := Table.get_set_same _ _ _ _
theorem State.latch_setLatch_other (s : State) (v : TbLatch) {n k : Nat} (h : k ≠ n) : (s.setLatch n v).latch k = s.latch k := Table.get_set_other _ _ _ h
@[simp] theorem State.updLatch_eq (s : State) (n : Nat) (f : TbLatch → TbLatch) : s.updLatch n f = s.setLatch n (f (s.latch n)) := rfl
@[simp] theorem State.cell_setLatch (s : State) (n : Nat) (v : TbLatch) : (s.setLatch n v).cell = s.cell := rfl
@[simp] theorem State.power_setLatch (s : State) (n : Nat) (v : TbLatch) : (s.setLatch n v).power = s.power := rfl
@[simp] theorem State.tap_setLatch (s : State) (n : Nat) (v : TbLatch) : (s.setLatch n v).tap = s.tap := rfl
@[simp] theorem State.kept_setLatch (s : State) (n : Nat) (v : TbLatch) : (s.setLatch n v).kept = s.kept := rfl
@[simp] theorem State.keptAt_setLatch (s : State) (n : Nat) (v : TbLatch) : (s.setLatch n v).keptAt = s.keptAt := rfl
@[simp] theorem State.jrnl_setLatch (s : State) (n : Nat) (v : TbLatch) : (s.setLatch n v).jrnl = s.jrnl := rfl
@[simp] theorem State.host_setLatch (s : State) (n : Nat) (v : TbLatch) : (s.setLatch n v).host = s.host := rfl
@[simp] theorem State.mbx_setLatch (s : State) (n : Nat) (v : TbLatch) : (s.setLatch n v).mbx = s.mbx := rfl
@[simp] theorem State.pool_setLatch (s : State) (n : Nat) (v : TbLatch) : (s.setLatch n v).pool = s.pool := rfl
@[simp] theorem State.chk_setLatch (s : State) (n : Nat) (v : TbLatch) : (s.setLatch n v).chk = s.chk := rfl
@[simp] theorem State.lathes_setLatch (s : State) (n : Nat) (v : TbLatch) : (s.setLatch n v).lathes = s.lathes := rfl
@[simp] theorem State.images_setLatch (s : State) (n : Nat) (v : TbLatch) : (s.setLatch n v).images = s.images := rfl
@[simp] theorem State.ctxs_setLatch (s : State) (n : Nat) (v : TbLatch) : (s.setLatch n v).ctxs = s.ctxs := rfl
@[simp] theorem State.custKey_setLatch (s : State) (n : Nat) (v : TbLatch) : (s.setLatch n v).custKey = s.custKey := rfl
@[simp] theorem State.chisels_setLatch (s : State) (n : Nat) (v : TbLatch) : (s.setLatch n v).chisels = s.chisels := rfl
@[simp] theorem State.cans_setLatch (s : State) (n : Nat) (v : TbLatch) : (s.setLatch n v).cans = s.cans := rfl
@[simp] theorem State.macs_setLatch (s : State) (n : Nat) (v : TbLatch) : (s.setLatch n v).macs = s.macs := rfl
@[simp] theorem State.switch_setLatch (s : State) (n : Nat) (v : TbLatch) : (s.setLatch n v).switch = s.switch := rfl
@[simp] theorem State.wnw_setLatch (s : State) (n : Nat) (v : TbLatch) : (s.setLatch n v).wnw = s.wnw := rfl
@[simp] theorem State.motion_setLatch (s : State) (n : Nat) (v : TbLatch) : (s.setLatch n v).motion = s.motion := rfl
@[simp] theorem State.claim_setLatch (s : State) (n : Nat) (v : TbLatch) : (s.setLatch n v).claim = s.claim := rfl
@[simp] theorem State.glume_setLatch (s : State) (n : Nat) (v : TbLatch) : (s.setLatch n v).glume = s.glume := rfl
@[simp] theorem State.fab_setLatch (s : State) (n : Nat) (v : TbLatch) : (s.setLatch n v).fab = s.fab := rfl
@[simp] theorem State.pair_setLatch (s : State) (n : Nat) (v : TbLatch) : (s.setLatch n v).pair = s.pair := rfl
@[simp] theorem State.nets_setLatch (s : State) (n : Nat) (v : TbLatch) : (s.setLatch n v).nets = s.nets := rfl
@[simp] theorem State.rd_setLatch (s : State) (n : Nat) (v : TbLatch) : (s.setLatch n v).rd = s.rd := rfl
@[simp] theorem State.out_setLatch (s : State) (n : Nat) (v : TbLatch) : (s.setLatch n v).out = s.out := rfl
@[simp] theorem State.freeCount_setLatch (s : State) (n : Nat) (v : TbLatch) : (s.setLatch n v).freeCount = s.freeCount := rfl
@[simp] theorem State.pending_setLatch (s : State) (n : Nat) (v : TbLatch) : (s.setLatch n v).pending = s.pending := rfl
@[simp] theorem State.base_setLatch (s : State) (n k : Nat) (v : TbLatch) : (s.setLatch n v).base k = s.base k := rfl
@[simp] theorem State.cmp_setLatch (s : State) (n k : Nat) (v : TbLatch) : (s.setLatch n v).cmp k = s.cmp k := rfl
@[simp] theorem State.cap_setLatch (s : State) (n k : Nat) (v : TbLatch) : (s.setLatch n v).cap k = s.cap k := rfl
@[simp] theorem State.tsIns_setLatch (s : State) (n k : Nat) (v : TbLatch) : (s.setLatch n v).tsIns k = s.tsIns k := rfl

/-! ### setCmp -/

@[simp] theorem State.cmp_setCmp (s : State) (n : Nat) (v : CmpUnit) : (s.setCmp n v).cmp n = v := Table.get_set_same _ _ _ _
theorem State.cmp_setCmp_other (s : State) (v : CmpUnit) {n k : Nat} (h : k ≠ n) : (s.setCmp n v).cmp k = s.cmp k := Table.get_set_other _ _ _ h
@[simp] theorem State.updCmp_eq (s : State) (n : Nat) (f : CmpUnit → CmpUnit) : s.updCmp n f = s.setCmp n (f (s.cmp n)) := rfl
@[simp] theorem State.cell_setCmp (s : State) (n : Nat) (v : CmpUnit) : (s.setCmp n v).cell = s.cell := rfl
@[simp] theorem State.power_setCmp (s : State) (n : Nat) (v : CmpUnit) : (s.setCmp n v).power = s.power := rfl
@[simp] theorem State.tap_setCmp (s : State) (n : Nat) (v : CmpUnit) : (s.setCmp n v).tap = s.tap := rfl
@[simp] theorem State.kept_setCmp (s : State) (n : Nat) (v : CmpUnit) : (s.setCmp n v).kept = s.kept := rfl
@[simp] theorem State.keptAt_setCmp (s : State) (n : Nat) (v : CmpUnit) : (s.setCmp n v).keptAt = s.keptAt := rfl
@[simp] theorem State.jrnl_setCmp (s : State) (n : Nat) (v : CmpUnit) : (s.setCmp n v).jrnl = s.jrnl := rfl
@[simp] theorem State.host_setCmp (s : State) (n : Nat) (v : CmpUnit) : (s.setCmp n v).host = s.host := rfl
@[simp] theorem State.mbx_setCmp (s : State) (n : Nat) (v : CmpUnit) : (s.setCmp n v).mbx = s.mbx := rfl
@[simp] theorem State.pool_setCmp (s : State) (n : Nat) (v : CmpUnit) : (s.setCmp n v).pool = s.pool := rfl
@[simp] theorem State.chk_setCmp (s : State) (n : Nat) (v : CmpUnit) : (s.setCmp n v).chk = s.chk := rfl
@[simp] theorem State.lathes_setCmp (s : State) (n : Nat) (v : CmpUnit) : (s.setCmp n v).lathes = s.lathes := rfl
@[simp] theorem State.images_setCmp (s : State) (n : Nat) (v : CmpUnit) : (s.setCmp n v).images = s.images := rfl
@[simp] theorem State.ctxs_setCmp (s : State) (n : Nat) (v : CmpUnit) : (s.setCmp n v).ctxs = s.ctxs := rfl
@[simp] theorem State.custKey_setCmp (s : State) (n : Nat) (v : CmpUnit) : (s.setCmp n v).custKey = s.custKey := rfl
@[simp] theorem State.chisels_setCmp (s : State) (n : Nat) (v : CmpUnit) : (s.setCmp n v).chisels = s.chisels := rfl
@[simp] theorem State.cans_setCmp (s : State) (n : Nat) (v : CmpUnit) : (s.setCmp n v).cans = s.cans := rfl
@[simp] theorem State.macs_setCmp (s : State) (n : Nat) (v : CmpUnit) : (s.setCmp n v).macs = s.macs := rfl
@[simp] theorem State.switch_setCmp (s : State) (n : Nat) (v : CmpUnit) : (s.setCmp n v).switch = s.switch := rfl
@[simp] theorem State.wnw_setCmp (s : State) (n : Nat) (v : CmpUnit) : (s.setCmp n v).wnw = s.wnw := rfl
@[simp] theorem State.motion_setCmp (s : State) (n : Nat) (v : CmpUnit) : (s.setCmp n v).motion = s.motion := rfl
@[simp] theorem State.claim_setCmp (s : State) (n : Nat) (v : CmpUnit) : (s.setCmp n v).claim = s.claim := rfl
@[simp] theorem State.glume_setCmp (s : State) (n : Nat) (v : CmpUnit) : (s.setCmp n v).glume = s.glume := rfl
@[simp] theorem State.fab_setCmp (s : State) (n : Nat) (v : CmpUnit) : (s.setCmp n v).fab = s.fab := rfl
@[simp] theorem State.pair_setCmp (s : State) (n : Nat) (v : CmpUnit) : (s.setCmp n v).pair = s.pair := rfl
@[simp] theorem State.nets_setCmp (s : State) (n : Nat) (v : CmpUnit) : (s.setCmp n v).nets = s.nets := rfl
@[simp] theorem State.rd_setCmp (s : State) (n : Nat) (v : CmpUnit) : (s.setCmp n v).rd = s.rd := rfl
@[simp] theorem State.out_setCmp (s : State) (n : Nat) (v : CmpUnit) : (s.setCmp n v).out = s.out := rfl
@[simp] theorem State.freeCount_setCmp (s : State) (n : Nat) (v : CmpUnit) : (s.setCmp n v).freeCount = s.freeCount := rfl
@[simp] theorem State.pending_setCmp (s : State) (n : Nat) (v : CmpUnit) : (s.setCmp n v).pending = s.pending := rfl
@[simp] theorem State.base_setCmp (s : State) (n k : Nat) (v : CmpUnit) : (s.setCmp n v).base k = s.base k := rfl
@[simp] theorem State.latch_setCmp (s : State) (n k : Nat) (v : CmpUnit) : (s.setCmp n v).latch k = s.latch k := rfl
@[simp] theorem State.cap_setCmp (s : State) (n k : Nat) (v : CmpUnit) : (s.setCmp n v).cap k = s.cap k := rfl
@[simp] theorem State.tsIns_setCmp (s : State) (n k : Nat) (v : CmpUnit) : (s.setCmp n v).tsIns k = s.tsIns k := rfl

/-! ### setCap -/

@[simp] theorem State.cap_setCap (s : State) (n : Nat) (v : CapPin) : (s.setCap n v).cap n = v := Table.get_set_same _ _ _ _
theorem State.cap_setCap_other (s : State) (v : CapPin) {n k : Nat} (h : k ≠ n) : (s.setCap n v).cap k = s.cap k := Table.get_set_other _ _ _ h
@[simp] theorem State.updCap_eq (s : State) (n : Nat) (f : CapPin → CapPin) : s.updCap n f = s.setCap n (f (s.cap n)) := rfl
@[simp] theorem State.cell_setCap (s : State) (n : Nat) (v : CapPin) : (s.setCap n v).cell = s.cell := rfl
@[simp] theorem State.power_setCap (s : State) (n : Nat) (v : CapPin) : (s.setCap n v).power = s.power := rfl
@[simp] theorem State.tap_setCap (s : State) (n : Nat) (v : CapPin) : (s.setCap n v).tap = s.tap := rfl
@[simp] theorem State.kept_setCap (s : State) (n : Nat) (v : CapPin) : (s.setCap n v).kept = s.kept := rfl
@[simp] theorem State.keptAt_setCap (s : State) (n : Nat) (v : CapPin) : (s.setCap n v).keptAt = s.keptAt := rfl
@[simp] theorem State.jrnl_setCap (s : State) (n : Nat) (v : CapPin) : (s.setCap n v).jrnl = s.jrnl := rfl
@[simp] theorem State.host_setCap (s : State) (n : Nat) (v : CapPin) : (s.setCap n v).host = s.host := rfl
@[simp] theorem State.mbx_setCap (s : State) (n : Nat) (v : CapPin) : (s.setCap n v).mbx = s.mbx := rfl
@[simp] theorem State.pool_setCap (s : State) (n : Nat) (v : CapPin) : (s.setCap n v).pool = s.pool := rfl
@[simp] theorem State.chk_setCap (s : State) (n : Nat) (v : CapPin) : (s.setCap n v).chk = s.chk := rfl
@[simp] theorem State.lathes_setCap (s : State) (n : Nat) (v : CapPin) : (s.setCap n v).lathes = s.lathes := rfl
@[simp] theorem State.images_setCap (s : State) (n : Nat) (v : CapPin) : (s.setCap n v).images = s.images := rfl
@[simp] theorem State.ctxs_setCap (s : State) (n : Nat) (v : CapPin) : (s.setCap n v).ctxs = s.ctxs := rfl
@[simp] theorem State.custKey_setCap (s : State) (n : Nat) (v : CapPin) : (s.setCap n v).custKey = s.custKey := rfl
@[simp] theorem State.chisels_setCap (s : State) (n : Nat) (v : CapPin) : (s.setCap n v).chisels = s.chisels := rfl
@[simp] theorem State.cans_setCap (s : State) (n : Nat) (v : CapPin) : (s.setCap n v).cans = s.cans := rfl
@[simp] theorem State.macs_setCap (s : State) (n : Nat) (v : CapPin) : (s.setCap n v).macs = s.macs := rfl
@[simp] theorem State.switch_setCap (s : State) (n : Nat) (v : CapPin) : (s.setCap n v).switch = s.switch := rfl
@[simp] theorem State.wnw_setCap (s : State) (n : Nat) (v : CapPin) : (s.setCap n v).wnw = s.wnw := rfl
@[simp] theorem State.motion_setCap (s : State) (n : Nat) (v : CapPin) : (s.setCap n v).motion = s.motion := rfl
@[simp] theorem State.claim_setCap (s : State) (n : Nat) (v : CapPin) : (s.setCap n v).claim = s.claim := rfl
@[simp] theorem State.glume_setCap (s : State) (n : Nat) (v : CapPin) : (s.setCap n v).glume = s.glume := rfl
@[simp] theorem State.fab_setCap (s : State) (n : Nat) (v : CapPin) : (s.setCap n v).fab = s.fab := rfl
@[simp] theorem State.pair_setCap (s : State) (n : Nat) (v : CapPin) : (s.setCap n v).pair = s.pair := rfl
@[simp] theorem State.nets_setCap (s : State) (n : Nat) (v : CapPin) : (s.setCap n v).nets = s.nets := rfl
@[simp] theorem State.rd_setCap (s : State) (n : Nat) (v : CapPin) : (s.setCap n v).rd = s.rd := rfl
@[simp] theorem State.out_setCap (s : State) (n : Nat) (v : CapPin) : (s.setCap n v).out = s.out := rfl
@[simp] theorem State.freeCount_setCap (s : State) (n : Nat) (v : CapPin) : (s.setCap n v).freeCount = s.freeCount := rfl
@[simp] theorem State.pending_setCap (s : State) (n : Nat) (v : CapPin) : (s.setCap n v).pending = s.pending := rfl
@[simp] theorem State.base_setCap (s : State) (n k : Nat) (v : CapPin) : (s.setCap n v).base k = s.base k := rfl
@[simp] theorem State.latch_setCap (s : State) (n k : Nat) (v : CapPin) : (s.setCap n v).latch k = s.latch k := rfl
@[simp] theorem State.cmp_setCap (s : State) (n k : Nat) (v : CapPin) : (s.setCap n v).cmp k = s.cmp k := rfl
@[simp] theorem State.tsIns_setCap (s : State) (n k : Nat) (v : CapPin) : (s.setCap n v).tsIns k = s.tsIns k := rfl

/-! ### setTsIns -/

@[simp] theorem State.tsIns_setTsIns (s : State) (n : Nat) (v : TsIns) : (s.setTsIns n v).tsIns n = v := Table.get_set_same _ _ _ _
theorem State.tsIns_setTsIns_other (s : State) (v : TsIns) {n k : Nat} (h : k ≠ n) : (s.setTsIns n v).tsIns k = s.tsIns k := Table.get_set_other _ _ _ h
@[simp] theorem State.updTsIns_eq (s : State) (n : Nat) (f : TsIns → TsIns) : s.updTsIns n f = s.setTsIns n (f (s.tsIns n)) := rfl
@[simp] theorem State.cell_setTsIns (s : State) (n : Nat) (v : TsIns) : (s.setTsIns n v).cell = s.cell := rfl
@[simp] theorem State.power_setTsIns (s : State) (n : Nat) (v : TsIns) : (s.setTsIns n v).power = s.power := rfl
@[simp] theorem State.tap_setTsIns (s : State) (n : Nat) (v : TsIns) : (s.setTsIns n v).tap = s.tap := rfl
@[simp] theorem State.kept_setTsIns (s : State) (n : Nat) (v : TsIns) : (s.setTsIns n v).kept = s.kept := rfl
@[simp] theorem State.keptAt_setTsIns (s : State) (n : Nat) (v : TsIns) : (s.setTsIns n v).keptAt = s.keptAt := rfl
@[simp] theorem State.jrnl_setTsIns (s : State) (n : Nat) (v : TsIns) : (s.setTsIns n v).jrnl = s.jrnl := rfl
@[simp] theorem State.host_setTsIns (s : State) (n : Nat) (v : TsIns) : (s.setTsIns n v).host = s.host := rfl
@[simp] theorem State.mbx_setTsIns (s : State) (n : Nat) (v : TsIns) : (s.setTsIns n v).mbx = s.mbx := rfl
@[simp] theorem State.pool_setTsIns (s : State) (n : Nat) (v : TsIns) : (s.setTsIns n v).pool = s.pool := rfl
@[simp] theorem State.chk_setTsIns (s : State) (n : Nat) (v : TsIns) : (s.setTsIns n v).chk = s.chk := rfl
@[simp] theorem State.lathes_setTsIns (s : State) (n : Nat) (v : TsIns) : (s.setTsIns n v).lathes = s.lathes := rfl
@[simp] theorem State.images_setTsIns (s : State) (n : Nat) (v : TsIns) : (s.setTsIns n v).images = s.images := rfl
@[simp] theorem State.ctxs_setTsIns (s : State) (n : Nat) (v : TsIns) : (s.setTsIns n v).ctxs = s.ctxs := rfl
@[simp] theorem State.custKey_setTsIns (s : State) (n : Nat) (v : TsIns) : (s.setTsIns n v).custKey = s.custKey := rfl
@[simp] theorem State.chisels_setTsIns (s : State) (n : Nat) (v : TsIns) : (s.setTsIns n v).chisels = s.chisels := rfl
@[simp] theorem State.cans_setTsIns (s : State) (n : Nat) (v : TsIns) : (s.setTsIns n v).cans = s.cans := rfl
@[simp] theorem State.macs_setTsIns (s : State) (n : Nat) (v : TsIns) : (s.setTsIns n v).macs = s.macs := rfl
@[simp] theorem State.switch_setTsIns (s : State) (n : Nat) (v : TsIns) : (s.setTsIns n v).switch = s.switch := rfl
@[simp] theorem State.wnw_setTsIns (s : State) (n : Nat) (v : TsIns) : (s.setTsIns n v).wnw = s.wnw := rfl
@[simp] theorem State.motion_setTsIns (s : State) (n : Nat) (v : TsIns) : (s.setTsIns n v).motion = s.motion := rfl
@[simp] theorem State.claim_setTsIns (s : State) (n : Nat) (v : TsIns) : (s.setTsIns n v).claim = s.claim := rfl
@[simp] theorem State.glume_setTsIns (s : State) (n : Nat) (v : TsIns) : (s.setTsIns n v).glume = s.glume := rfl
@[simp] theorem State.fab_setTsIns (s : State) (n : Nat) (v : TsIns) : (s.setTsIns n v).fab = s.fab := rfl
@[simp] theorem State.pair_setTsIns (s : State) (n : Nat) (v : TsIns) : (s.setTsIns n v).pair = s.pair := rfl
@[simp] theorem State.nets_setTsIns (s : State) (n : Nat) (v : TsIns) : (s.setTsIns n v).nets = s.nets := rfl
@[simp] theorem State.rd_setTsIns (s : State) (n : Nat) (v : TsIns) : (s.setTsIns n v).rd = s.rd := rfl
@[simp] theorem State.out_setTsIns (s : State) (n : Nat) (v : TsIns) : (s.setTsIns n v).out = s.out := rfl
@[simp] theorem State.freeCount_setTsIns (s : State) (n : Nat) (v : TsIns) : (s.setTsIns n v).freeCount = s.freeCount := rfl
@[simp] theorem State.pending_setTsIns (s : State) (n : Nat) (v : TsIns) : (s.setTsIns n v).pending = s.pending := rfl
@[simp] theorem State.base_setTsIns (s : State) (n k : Nat) (v : TsIns) : (s.setTsIns n v).base k = s.base k := rfl
@[simp] theorem State.latch_setTsIns (s : State) (n k : Nat) (v : TsIns) : (s.setTsIns n v).latch k = s.latch k := rfl
@[simp] theorem State.cmp_setTsIns (s : State) (n k : Nat) (v : TsIns) : (s.setTsIns n v).cmp k = s.cmp k := rfl
@[simp] theorem State.cap_setTsIns (s : State) (n k : Nat) (v : TsIns) : (s.setTsIns n v).cap k = s.cap k := rfl

/-! ### setChan -/

@[simp] theorem State.chan_setChan (s : State) (n : Nat) (v : MbxChannel) : (s.setChan n v).chan n = v := Table.get_set_same _ _ _ _
theorem State.chan_setChan_other (s : State) (v : MbxChannel) {n k : Nat} (h : k ≠ n) : (s.setChan n v).chan k = s.chan k := Table.get_set_other _ _ _ h
@[simp] theorem State.updChan_eq (s : State) (n : Nat) (f : MbxChannel → MbxChannel) : s.updChan n f = s.setChan n (f (s.chan n)) := rfl
@[simp] theorem State.time_setChan (s : State) (n : Nat) (v : MbxChannel) : (s.setChan n v).time = s.time := rfl
@[simp] theorem State.cell_setChan (s : State) (n : Nat) (v : MbxChannel) : (s.setChan n v).cell = s.cell := rfl
@[simp] theorem State.power_setChan (s : State) (n : Nat) (v : MbxChannel) : (s.setChan n v).power = s.power := rfl
@[simp] theorem State.tap_setChan (s : State) (n : Nat) (v : MbxChannel) : (s.setChan n v).tap = s.tap := rfl
@[simp] theorem State.kept_setChan (s : State) (n : Nat) (v : MbxChannel) : (s.setChan n v).kept = s.kept := rfl
@[simp] theorem State.keptAt_setChan (s : State) (n : Nat) (v : MbxChannel) : (s.setChan n v).keptAt = s.keptAt := rfl
@[simp] theorem State.jrnl_setChan (s : State) (n : Nat) (v : MbxChannel) : (s.setChan n v).jrnl = s.jrnl := rfl
@[simp] theorem State.host_setChan (s : State) (n : Nat) (v : MbxChannel) : (s.setChan n v).host = s.host := rfl
@[simp] theorem State.pool_setChan (s : State) (n : Nat) (v : MbxChannel) : (s.setChan n v).pool = s.pool := rfl
@[simp] theorem State.chk_setChan (s : State) (n : Nat) (v : MbxChannel) : (s.setChan n v).chk = s.chk := rfl
@[simp] theorem State.lathes_setChan (s : State) (n : Nat) (v : MbxChannel) : (s.setChan n v).lathes = s.lathes := rfl
@[simp] theorem State.images_setChan (s : State) (n : Nat) (v : MbxChannel) : (s.setChan n v).images = s.images := rfl
@[simp] theorem State.ctxs_setChan (s : State) (n : Nat) (v : MbxChannel) : (s.setChan n v).ctxs = s.ctxs := rfl
@[simp] theorem State.custKey_setChan (s : State) (n : Nat) (v : MbxChannel) : (s.setChan n v).custKey = s.custKey := rfl
@[simp] theorem State.chisels_setChan (s : State) (n : Nat) (v : MbxChannel) : (s.setChan n v).chisels = s.chisels := rfl
@[simp] theorem State.cans_setChan (s : State) (n : Nat) (v : MbxChannel) : (s.setChan n v).cans = s.cans := rfl
@[simp] theorem State.macs_setChan (s : State) (n : Nat) (v : MbxChannel) : (s.setChan n v).macs = s.macs := rfl
@[simp] theorem State.switch_setChan (s : State) (n : Nat) (v : MbxChannel) : (s.setChan n v).switch = s.switch := rfl
@[simp] theorem State.wnw_setChan (s : State) (n : Nat) (v : MbxChannel) : (s.setChan n v).wnw = s.wnw := rfl
@[simp] theorem State.motion_setChan (s : State) (n : Nat) (v : MbxChannel) : (s.setChan n v).motion = s.motion := rfl
@[simp] theorem State.claim_setChan (s : State) (n : Nat) (v : MbxChannel) : (s.setChan n v).claim = s.claim := rfl
@[simp] theorem State.glume_setChan (s : State) (n : Nat) (v : MbxChannel) : (s.setChan n v).glume = s.glume := rfl
@[simp] theorem State.fab_setChan (s : State) (n : Nat) (v : MbxChannel) : (s.setChan n v).fab = s.fab := rfl
@[simp] theorem State.pair_setChan (s : State) (n : Nat) (v : MbxChannel) : (s.setChan n v).pair = s.pair := rfl
@[simp] theorem State.nets_setChan (s : State) (n : Nat) (v : MbxChannel) : (s.setChan n v).nets = s.nets := rfl
@[simp] theorem State.rd_setChan (s : State) (n : Nat) (v : MbxChannel) : (s.setChan n v).rd = s.rd := rfl
@[simp] theorem State.out_setChan (s : State) (n : Nat) (v : MbxChannel) : (s.setChan n v).out = s.out := rfl
@[simp] theorem State.freeCount_setChan (s : State) (n : Nat) (v : MbxChannel) : (s.setChan n v).freeCount = s.freeCount := rfl
@[simp] theorem State.pending_setChan (s : State) (n : Nat) (v : MbxChannel) : (s.setChan n v).pending = s.pending := rfl
@[simp] theorem State.bells_setChan (s : State) (n k : Nat) (v : MbxChannel) : (s.setChan n v).bells k = s.bells k := rfl

/-! ### setBells -/

@[simp] theorem State.bells_setBells (s : State) (n : Nat) (v : Doorbells) : (s.setBells n v).bells n = v := Table.get_set_same _ _ _ _
theorem State.bells_setBells_other (s : State) (v : Doorbells) {n k : Nat} (h : k ≠ n) : (s.setBells n v).bells k = s.bells k := Table.get_set_other _ _ _ h
@[simp] theorem State.updBells_eq (s : State) (n : Nat) (f : Doorbells → Doorbells) : s.updBells n f = s.setBells n (f (s.bells n)) := rfl
@[simp] theorem State.time_setBells (s : State) (n : Nat) (v : Doorbells) : (s.setBells n v).time = s.time := rfl
@[simp] theorem State.cell_setBells (s : State) (n : Nat) (v : Doorbells) : (s.setBells n v).cell = s.cell := rfl
@[simp] theorem State.power_setBells (s : State) (n : Nat) (v : Doorbells) : (s.setBells n v).power = s.power := rfl
@[simp] theorem State.tap_setBells (s : State) (n : Nat) (v : Doorbells) : (s.setBells n v).tap = s.tap := rfl
@[simp] theorem State.kept_setBells (s : State) (n : Nat) (v : Doorbells) : (s.setBells n v).kept = s.kept := rfl
@[simp] theorem State.keptAt_setBells (s : State) (n : Nat) (v : Doorbells) : (s.setBells n v).keptAt = s.keptAt := rfl
@[simp] theorem State.jrnl_setBells (s : State) (n : Nat) (v : Doorbells) : (s.setBells n v).jrnl = s.jrnl := rfl
@[simp] theorem State.host_setBells (s : State) (n : Nat) (v : Doorbells) : (s.setBells n v).host = s.host := rfl
@[simp] theorem State.pool_setBells (s : State) (n : Nat) (v : Doorbells) : (s.setBells n v).pool = s.pool := rfl
@[simp] theorem State.chk_setBells (s : State) (n : Nat) (v : Doorbells) : (s.setBells n v).chk = s.chk := rfl
@[simp] theorem State.lathes_setBells (s : State) (n : Nat) (v : Doorbells) : (s.setBells n v).lathes = s.lathes := rfl
@[simp] theorem State.images_setBells (s : State) (n : Nat) (v : Doorbells) : (s.setBells n v).images = s.images := rfl
@[simp] theorem State.ctxs_setBells (s : State) (n : Nat) (v : Doorbells) : (s.setBells n v).ctxs = s.ctxs := rfl
@[simp] theorem State.custKey_setBells (s : State) (n : Nat) (v : Doorbells) : (s.setBells n v).custKey = s.custKey := rfl
@[simp] theorem State.chisels_setBells (s : State) (n : Nat) (v : Doorbells) : (s.setBells n v).chisels = s.chisels := rfl
@[simp] theorem State.cans_setBells (s : State) (n : Nat) (v : Doorbells) : (s.setBells n v).cans = s.cans := rfl
@[simp] theorem State.macs_setBells (s : State) (n : Nat) (v : Doorbells) : (s.setBells n v).macs = s.macs := rfl
@[simp] theorem State.switch_setBells (s : State) (n : Nat) (v : Doorbells) : (s.setBells n v).switch = s.switch := rfl
@[simp] theorem State.wnw_setBells (s : State) (n : Nat) (v : Doorbells) : (s.setBells n v).wnw = s.wnw := rfl
@[simp] theorem State.motion_setBells (s : State) (n : Nat) (v : Doorbells) : (s.setBells n v).motion = s.motion := rfl
@[simp] theorem State.claim_setBells (s : State) (n : Nat) (v : Doorbells) : (s.setBells n v).claim = s.claim := rfl
@[simp] theorem State.glume_setBells (s : State) (n : Nat) (v : Doorbells) : (s.setBells n v).glume = s.glume := rfl
@[simp] theorem State.fab_setBells (s : State) (n : Nat) (v : Doorbells) : (s.setBells n v).fab = s.fab := rfl
@[simp] theorem State.pair_setBells (s : State) (n : Nat) (v : Doorbells) : (s.setBells n v).pair = s.pair := rfl
@[simp] theorem State.nets_setBells (s : State) (n : Nat) (v : Doorbells) : (s.setBells n v).nets = s.nets := rfl
@[simp] theorem State.rd_setBells (s : State) (n : Nat) (v : Doorbells) : (s.setBells n v).rd = s.rd := rfl
@[simp] theorem State.out_setBells (s : State) (n : Nat) (v : Doorbells) : (s.setBells n v).out = s.out := rfl
@[simp] theorem State.freeCount_setBells (s : State) (n : Nat) (v : Doorbells) : (s.setBells n v).freeCount = s.freeCount := rfl
@[simp] theorem State.pending_setBells (s : State) (n : Nat) (v : Doorbells) : (s.setBells n v).pending = s.pending := rfl
@[simp] theorem State.chan_setBells (s : State) (n k : Nat) (v : Doorbells) : (s.setBells n v).chan k = s.chan k := rfl

/-! ### setBank -/

@[simp] theorem State.bank_setBank (s : State) (n : Nat) (v : BankReg) : (s.setBank n v).bank n = v := Table.get_set_same _ _ _ _
theorem State.bank_setBank_other (s : State) (v : BankReg) {n k : Nat} (h : k ≠ n) : (s.setBank n v).bank k = s.bank k := Table.get_set_other _ _ _ h
@[simp] theorem State.updBank_eq (s : State) (n : Nat) (f : BankReg → BankReg) : s.updBank n f = s.setBank n (f (s.bank n)) := rfl
@[simp] theorem State.time_setBank (s : State) (n : Nat) (v : BankReg) : (s.setBank n v).time = s.time := rfl
@[simp] theorem State.cell_setBank (s : State) (n : Nat) (v : BankReg) : (s.setBank n v).cell = s.cell := rfl
@[simp] theorem State.power_setBank (s : State) (n : Nat) (v : BankReg) : (s.setBank n v).power = s.power := rfl
@[simp] theorem State.tap_setBank (s : State) (n : Nat) (v : BankReg) : (s.setBank n v).tap = s.tap := rfl
@[simp] theorem State.kept_setBank (s : State) (n : Nat) (v : BankReg) : (s.setBank n v).kept = s.kept := rfl
@[simp] theorem State.keptAt_setBank (s : State) (n : Nat) (v : BankReg) : (s.setBank n v).keptAt = s.keptAt := rfl
@[simp] theorem State.jrnl_setBank (s : State) (n : Nat) (v : BankReg) : (s.setBank n v).jrnl = s.jrnl := rfl
@[simp] theorem State.host_setBank (s : State) (n : Nat) (v : BankReg) : (s.setBank n v).host = s.host := rfl
@[simp] theorem State.mbx_setBank (s : State) (n : Nat) (v : BankReg) : (s.setBank n v).mbx = s.mbx := rfl
@[simp] theorem State.chk_setBank (s : State) (n : Nat) (v : BankReg) : (s.setBank n v).chk = s.chk := rfl
@[simp] theorem State.lathes_setBank (s : State) (n : Nat) (v : BankReg) : (s.setBank n v).lathes = s.lathes := rfl
@[simp] theorem State.images_setBank (s : State) (n : Nat) (v : BankReg) : (s.setBank n v).images = s.images := rfl
@[simp] theorem State.ctxs_setBank (s : State) (n : Nat) (v : BankReg) : (s.setBank n v).ctxs = s.ctxs := rfl
@[simp] theorem State.custKey_setBank (s : State) (n : Nat) (v : BankReg) : (s.setBank n v).custKey = s.custKey := rfl
@[simp] theorem State.chisels_setBank (s : State) (n : Nat) (v : BankReg) : (s.setBank n v).chisels = s.chisels := rfl
@[simp] theorem State.cans_setBank (s : State) (n : Nat) (v : BankReg) : (s.setBank n v).cans = s.cans := rfl
@[simp] theorem State.macs_setBank (s : State) (n : Nat) (v : BankReg) : (s.setBank n v).macs = s.macs := rfl
@[simp] theorem State.switch_setBank (s : State) (n : Nat) (v : BankReg) : (s.setBank n v).switch = s.switch := rfl
@[simp] theorem State.wnw_setBank (s : State) (n : Nat) (v : BankReg) : (s.setBank n v).wnw = s.wnw := rfl
@[simp] theorem State.motion_setBank (s : State) (n : Nat) (v : BankReg) : (s.setBank n v).motion = s.motion := rfl
@[simp] theorem State.claim_setBank (s : State) (n : Nat) (v : BankReg) : (s.setBank n v).claim = s.claim := rfl
@[simp] theorem State.glume_setBank (s : State) (n : Nat) (v : BankReg) : (s.setBank n v).glume = s.glume := rfl
@[simp] theorem State.fab_setBank (s : State) (n : Nat) (v : BankReg) : (s.setBank n v).fab = s.fab := rfl
@[simp] theorem State.pair_setBank (s : State) (n : Nat) (v : BankReg) : (s.setBank n v).pair = s.pair := rfl
@[simp] theorem State.nets_setBank (s : State) (n : Nat) (v : BankReg) : (s.setBank n v).nets = s.nets := rfl
@[simp] theorem State.rd_setBank (s : State) (n : Nat) (v : BankReg) : (s.setBank n v).rd = s.rd := rfl
@[simp] theorem State.out_setBank (s : State) (n : Nat) (v : BankReg) : (s.setBank n v).out = s.out := rfl
@[simp] theorem State.freeCount_setBank (s : State) (n : Nat) (v : BankReg) : (s.setBank n v).freeCount = s.freeCount := rfl
@[simp] theorem State.pending_setBank (s : State) (n : Nat) (v : BankReg) : (s.setBank n v).pending = s.pending := rfl

/-! ### setChkUnit -/

@[simp] theorem State.chkUnit_setChkUnit (s : State) (n : Nat) (v : ChkUnit) : (s.setChkUnit n v).chkUnit n = v := Table.get_set_same _ _ _ _
theorem State.chkUnit_setChkUnit_other (s : State) (v : ChkUnit) {n k : Nat} (h : k ≠ n) : (s.setChkUnit n v).chkUnit k = s.chkUnit k := Table.get_set_other _ _ _ h
@[simp] theorem State.updChkUnit_eq (s : State) (n : Nat) (f : ChkUnit → ChkUnit) : s.updChkUnit n f = s.setChkUnit n (f (s.chkUnit n)) := rfl
@[simp] theorem State.time_setChkUnit (s : State) (n : Nat) (v : ChkUnit) : (s.setChkUnit n v).time = s.time := rfl
@[simp] theorem State.cell_setChkUnit (s : State) (n : Nat) (v : ChkUnit) : (s.setChkUnit n v).cell = s.cell := rfl
@[simp] theorem State.power_setChkUnit (s : State) (n : Nat) (v : ChkUnit) : (s.setChkUnit n v).power = s.power := rfl
@[simp] theorem State.tap_setChkUnit (s : State) (n : Nat) (v : ChkUnit) : (s.setChkUnit n v).tap = s.tap := rfl
@[simp] theorem State.kept_setChkUnit (s : State) (n : Nat) (v : ChkUnit) : (s.setChkUnit n v).kept = s.kept := rfl
@[simp] theorem State.keptAt_setChkUnit (s : State) (n : Nat) (v : ChkUnit) : (s.setChkUnit n v).keptAt = s.keptAt := rfl
@[simp] theorem State.jrnl_setChkUnit (s : State) (n : Nat) (v : ChkUnit) : (s.setChkUnit n v).jrnl = s.jrnl := rfl
@[simp] theorem State.host_setChkUnit (s : State) (n : Nat) (v : ChkUnit) : (s.setChkUnit n v).host = s.host := rfl
@[simp] theorem State.mbx_setChkUnit (s : State) (n : Nat) (v : ChkUnit) : (s.setChkUnit n v).mbx = s.mbx := rfl
@[simp] theorem State.pool_setChkUnit (s : State) (n : Nat) (v : ChkUnit) : (s.setChkUnit n v).pool = s.pool := rfl
@[simp] theorem State.lathes_setChkUnit (s : State) (n : Nat) (v : ChkUnit) : (s.setChkUnit n v).lathes = s.lathes := rfl
@[simp] theorem State.images_setChkUnit (s : State) (n : Nat) (v : ChkUnit) : (s.setChkUnit n v).images = s.images := rfl
@[simp] theorem State.ctxs_setChkUnit (s : State) (n : Nat) (v : ChkUnit) : (s.setChkUnit n v).ctxs = s.ctxs := rfl
@[simp] theorem State.custKey_setChkUnit (s : State) (n : Nat) (v : ChkUnit) : (s.setChkUnit n v).custKey = s.custKey := rfl
@[simp] theorem State.chisels_setChkUnit (s : State) (n : Nat) (v : ChkUnit) : (s.setChkUnit n v).chisels = s.chisels := rfl
@[simp] theorem State.cans_setChkUnit (s : State) (n : Nat) (v : ChkUnit) : (s.setChkUnit n v).cans = s.cans := rfl
@[simp] theorem State.macs_setChkUnit (s : State) (n : Nat) (v : ChkUnit) : (s.setChkUnit n v).macs = s.macs := rfl
@[simp] theorem State.switch_setChkUnit (s : State) (n : Nat) (v : ChkUnit) : (s.setChkUnit n v).switch = s.switch := rfl
@[simp] theorem State.wnw_setChkUnit (s : State) (n : Nat) (v : ChkUnit) : (s.setChkUnit n v).wnw = s.wnw := rfl
@[simp] theorem State.motion_setChkUnit (s : State) (n : Nat) (v : ChkUnit) : (s.setChkUnit n v).motion = s.motion := rfl
@[simp] theorem State.claim_setChkUnit (s : State) (n : Nat) (v : ChkUnit) : (s.setChkUnit n v).claim = s.claim := rfl
@[simp] theorem State.glume_setChkUnit (s : State) (n : Nat) (v : ChkUnit) : (s.setChkUnit n v).glume = s.glume := rfl
@[simp] theorem State.fab_setChkUnit (s : State) (n : Nat) (v : ChkUnit) : (s.setChkUnit n v).fab = s.fab := rfl
@[simp] theorem State.pair_setChkUnit (s : State) (n : Nat) (v : ChkUnit) : (s.setChkUnit n v).pair = s.pair := rfl
@[simp] theorem State.nets_setChkUnit (s : State) (n : Nat) (v : ChkUnit) : (s.setChkUnit n v).nets = s.nets := rfl
@[simp] theorem State.rd_setChkUnit (s : State) (n : Nat) (v : ChkUnit) : (s.setChkUnit n v).rd = s.rd := rfl
@[simp] theorem State.out_setChkUnit (s : State) (n : Nat) (v : ChkUnit) : (s.setChkUnit n v).out = s.out := rfl
@[simp] theorem State.freeCount_setChkUnit (s : State) (n : Nat) (v : ChkUnit) : (s.setChkUnit n v).freeCount = s.freeCount := rfl
@[simp] theorem State.pending_setChkUnit (s : State) (n : Nat) (v : ChkUnit) : (s.setChkUnit n v).pending = s.pending := rfl

/-! ### setLathe -/

@[simp] theorem State.lathe_setLathe (s : State) (n : Nat) (v : Lathe) : (s.setLathe n v).lathe n = v := Table.get_set_same _ _ _ _
theorem State.lathe_setLathe_other (s : State) (v : Lathe) {n k : Nat} (h : k ≠ n) : (s.setLathe n v).lathe k = s.lathe k := Table.get_set_other _ _ _ h
@[simp] theorem State.updLathe_eq (s : State) (n : Nat) (f : Lathe → Lathe) : s.updLathe n f = s.setLathe n (f (s.lathe n)) := rfl
@[simp] theorem State.time_setLathe (s : State) (n : Nat) (v : Lathe) : (s.setLathe n v).time = s.time := rfl
@[simp] theorem State.cell_setLathe (s : State) (n : Nat) (v : Lathe) : (s.setLathe n v).cell = s.cell := rfl
@[simp] theorem State.power_setLathe (s : State) (n : Nat) (v : Lathe) : (s.setLathe n v).power = s.power := rfl
@[simp] theorem State.tap_setLathe (s : State) (n : Nat) (v : Lathe) : (s.setLathe n v).tap = s.tap := rfl
@[simp] theorem State.kept_setLathe (s : State) (n : Nat) (v : Lathe) : (s.setLathe n v).kept = s.kept := rfl
@[simp] theorem State.keptAt_setLathe (s : State) (n : Nat) (v : Lathe) : (s.setLathe n v).keptAt = s.keptAt := rfl
@[simp] theorem State.jrnl_setLathe (s : State) (n : Nat) (v : Lathe) : (s.setLathe n v).jrnl = s.jrnl := rfl
@[simp] theorem State.host_setLathe (s : State) (n : Nat) (v : Lathe) : (s.setLathe n v).host = s.host := rfl
@[simp] theorem State.mbx_setLathe (s : State) (n : Nat) (v : Lathe) : (s.setLathe n v).mbx = s.mbx := rfl
@[simp] theorem State.pool_setLathe (s : State) (n : Nat) (v : Lathe) : (s.setLathe n v).pool = s.pool := rfl
@[simp] theorem State.chk_setLathe (s : State) (n : Nat) (v : Lathe) : (s.setLathe n v).chk = s.chk := rfl
@[simp] theorem State.images_setLathe (s : State) (n : Nat) (v : Lathe) : (s.setLathe n v).images = s.images := rfl
@[simp] theorem State.ctxs_setLathe (s : State) (n : Nat) (v : Lathe) : (s.setLathe n v).ctxs = s.ctxs := rfl
@[simp] theorem State.custKey_setLathe (s : State) (n : Nat) (v : Lathe) : (s.setLathe n v).custKey = s.custKey := rfl
@[simp] theorem State.chisels_setLathe (s : State) (n : Nat) (v : Lathe) : (s.setLathe n v).chisels = s.chisels := rfl
@[simp] theorem State.cans_setLathe (s : State) (n : Nat) (v : Lathe) : (s.setLathe n v).cans = s.cans := rfl
@[simp] theorem State.macs_setLathe (s : State) (n : Nat) (v : Lathe) : (s.setLathe n v).macs = s.macs := rfl
@[simp] theorem State.switch_setLathe (s : State) (n : Nat) (v : Lathe) : (s.setLathe n v).switch = s.switch := rfl
@[simp] theorem State.wnw_setLathe (s : State) (n : Nat) (v : Lathe) : (s.setLathe n v).wnw = s.wnw := rfl
@[simp] theorem State.motion_setLathe (s : State) (n : Nat) (v : Lathe) : (s.setLathe n v).motion = s.motion := rfl
@[simp] theorem State.claim_setLathe (s : State) (n : Nat) (v : Lathe) : (s.setLathe n v).claim = s.claim := rfl
@[simp] theorem State.glume_setLathe (s : State) (n : Nat) (v : Lathe) : (s.setLathe n v).glume = s.glume := rfl
@[simp] theorem State.fab_setLathe (s : State) (n : Nat) (v : Lathe) : (s.setLathe n v).fab = s.fab := rfl
@[simp] theorem State.pair_setLathe (s : State) (n : Nat) (v : Lathe) : (s.setLathe n v).pair = s.pair := rfl
@[simp] theorem State.nets_setLathe (s : State) (n : Nat) (v : Lathe) : (s.setLathe n v).nets = s.nets := rfl
@[simp] theorem State.rd_setLathe (s : State) (n : Nat) (v : Lathe) : (s.setLathe n v).rd = s.rd := rfl
@[simp] theorem State.out_setLathe (s : State) (n : Nat) (v : Lathe) : (s.setLathe n v).out = s.out := rfl
@[simp] theorem State.freeCount_setLathe (s : State) (n : Nat) (v : Lathe) : (s.setLathe n v).freeCount = s.freeCount := rfl
@[simp] theorem State.pending_setLathe (s : State) (n : Nat) (v : Lathe) : (s.setLathe n v).pending = s.pending := rfl

/-! ### setImage -/

@[simp] theorem State.image_setImage (s : State) (n : Nat) (v : StoreEntry) : (s.setImage n v).image n = v := Table.get_set_same _ _ _ _
theorem State.image_setImage_other (s : State) (v : StoreEntry) {n k : Nat} (h : k ≠ n) : (s.setImage n v).image k = s.image k := Table.get_set_other _ _ _ h
@[simp] theorem State.updImage_eq (s : State) (n : Nat) (f : StoreEntry → StoreEntry) : s.updImage n f = s.setImage n (f (s.image n)) := rfl
@[simp] theorem State.time_setImage (s : State) (n : Nat) (v : StoreEntry) : (s.setImage n v).time = s.time := rfl
@[simp] theorem State.cell_setImage (s : State) (n : Nat) (v : StoreEntry) : (s.setImage n v).cell = s.cell := rfl
@[simp] theorem State.power_setImage (s : State) (n : Nat) (v : StoreEntry) : (s.setImage n v).power = s.power := rfl
@[simp] theorem State.tap_setImage (s : State) (n : Nat) (v : StoreEntry) : (s.setImage n v).tap = s.tap := rfl
@[simp] theorem State.kept_setImage (s : State) (n : Nat) (v : StoreEntry) : (s.setImage n v).kept = s.kept := rfl
@[simp] theorem State.keptAt_setImage (s : State) (n : Nat) (v : StoreEntry) : (s.setImage n v).keptAt = s.keptAt := rfl
@[simp] theorem State.jrnl_setImage (s : State) (n : Nat) (v : StoreEntry) : (s.setImage n v).jrnl = s.jrnl := rfl
@[simp] theorem State.host_setImage (s : State) (n : Nat) (v : StoreEntry) : (s.setImage n v).host = s.host := rfl
@[simp] theorem State.mbx_setImage (s : State) (n : Nat) (v : StoreEntry) : (s.setImage n v).mbx = s.mbx := rfl
@[simp] theorem State.pool_setImage (s : State) (n : Nat) (v : StoreEntry) : (s.setImage n v).pool = s.pool := rfl
@[simp] theorem State.chk_setImage (s : State) (n : Nat) (v : StoreEntry) : (s.setImage n v).chk = s.chk := rfl
@[simp] theorem State.lathes_setImage (s : State) (n : Nat) (v : StoreEntry) : (s.setImage n v).lathes = s.lathes := rfl
@[simp] theorem State.ctxs_setImage (s : State) (n : Nat) (v : StoreEntry) : (s.setImage n v).ctxs = s.ctxs := rfl
@[simp] theorem State.custKey_setImage (s : State) (n : Nat) (v : StoreEntry) : (s.setImage n v).custKey = s.custKey := rfl
@[simp] theorem State.chisels_setImage (s : State) (n : Nat) (v : StoreEntry) : (s.setImage n v).chisels = s.chisels := rfl
@[simp] theorem State.cans_setImage (s : State) (n : Nat) (v : StoreEntry) : (s.setImage n v).cans = s.cans := rfl
@[simp] theorem State.macs_setImage (s : State) (n : Nat) (v : StoreEntry) : (s.setImage n v).macs = s.macs := rfl
@[simp] theorem State.switch_setImage (s : State) (n : Nat) (v : StoreEntry) : (s.setImage n v).switch = s.switch := rfl
@[simp] theorem State.wnw_setImage (s : State) (n : Nat) (v : StoreEntry) : (s.setImage n v).wnw = s.wnw := rfl
@[simp] theorem State.motion_setImage (s : State) (n : Nat) (v : StoreEntry) : (s.setImage n v).motion = s.motion := rfl
@[simp] theorem State.claim_setImage (s : State) (n : Nat) (v : StoreEntry) : (s.setImage n v).claim = s.claim := rfl
@[simp] theorem State.glume_setImage (s : State) (n : Nat) (v : StoreEntry) : (s.setImage n v).glume = s.glume := rfl
@[simp] theorem State.fab_setImage (s : State) (n : Nat) (v : StoreEntry) : (s.setImage n v).fab = s.fab := rfl
@[simp] theorem State.pair_setImage (s : State) (n : Nat) (v : StoreEntry) : (s.setImage n v).pair = s.pair := rfl
@[simp] theorem State.nets_setImage (s : State) (n : Nat) (v : StoreEntry) : (s.setImage n v).nets = s.nets := rfl
@[simp] theorem State.rd_setImage (s : State) (n : Nat) (v : StoreEntry) : (s.setImage n v).rd = s.rd := rfl
@[simp] theorem State.out_setImage (s : State) (n : Nat) (v : StoreEntry) : (s.setImage n v).out = s.out := rfl
@[simp] theorem State.freeCount_setImage (s : State) (n : Nat) (v : StoreEntry) : (s.setImage n v).freeCount = s.freeCount := rfl
@[simp] theorem State.pending_setImage (s : State) (n : Nat) (v : StoreEntry) : (s.setImage n v).pending = s.pending := rfl

/-! ### setCtx -/

@[simp] theorem State.ctx_setCtx (s : State) (n : Nat) (v : FlowCtx) : (s.setCtx n v).ctx n = v := Table.get_set_same _ _ _ _
theorem State.ctx_setCtx_other (s : State) (v : FlowCtx) {n k : Nat} (h : k ≠ n) : (s.setCtx n v).ctx k = s.ctx k := Table.get_set_other _ _ _ h
@[simp] theorem State.updCtx_eq (s : State) (n : Nat) (f : FlowCtx → FlowCtx) : s.updCtx n f = s.setCtx n (f (s.ctx n)) := rfl
@[simp] theorem State.time_setCtx (s : State) (n : Nat) (v : FlowCtx) : (s.setCtx n v).time = s.time := rfl
@[simp] theorem State.cell_setCtx (s : State) (n : Nat) (v : FlowCtx) : (s.setCtx n v).cell = s.cell := rfl
@[simp] theorem State.power_setCtx (s : State) (n : Nat) (v : FlowCtx) : (s.setCtx n v).power = s.power := rfl
@[simp] theorem State.tap_setCtx (s : State) (n : Nat) (v : FlowCtx) : (s.setCtx n v).tap = s.tap := rfl
@[simp] theorem State.kept_setCtx (s : State) (n : Nat) (v : FlowCtx) : (s.setCtx n v).kept = s.kept := rfl
@[simp] theorem State.keptAt_setCtx (s : State) (n : Nat) (v : FlowCtx) : (s.setCtx n v).keptAt = s.keptAt := rfl
@[simp] theorem State.jrnl_setCtx (s : State) (n : Nat) (v : FlowCtx) : (s.setCtx n v).jrnl = s.jrnl := rfl
@[simp] theorem State.host_setCtx (s : State) (n : Nat) (v : FlowCtx) : (s.setCtx n v).host = s.host := rfl
@[simp] theorem State.mbx_setCtx (s : State) (n : Nat) (v : FlowCtx) : (s.setCtx n v).mbx = s.mbx := rfl
@[simp] theorem State.pool_setCtx (s : State) (n : Nat) (v : FlowCtx) : (s.setCtx n v).pool = s.pool := rfl
@[simp] theorem State.chk_setCtx (s : State) (n : Nat) (v : FlowCtx) : (s.setCtx n v).chk = s.chk := rfl
@[simp] theorem State.lathes_setCtx (s : State) (n : Nat) (v : FlowCtx) : (s.setCtx n v).lathes = s.lathes := rfl
@[simp] theorem State.images_setCtx (s : State) (n : Nat) (v : FlowCtx) : (s.setCtx n v).images = s.images := rfl
@[simp] theorem State.custKey_setCtx (s : State) (n : Nat) (v : FlowCtx) : (s.setCtx n v).custKey = s.custKey := rfl
@[simp] theorem State.chisels_setCtx (s : State) (n : Nat) (v : FlowCtx) : (s.setCtx n v).chisels = s.chisels := rfl
@[simp] theorem State.cans_setCtx (s : State) (n : Nat) (v : FlowCtx) : (s.setCtx n v).cans = s.cans := rfl
@[simp] theorem State.macs_setCtx (s : State) (n : Nat) (v : FlowCtx) : (s.setCtx n v).macs = s.macs := rfl
@[simp] theorem State.switch_setCtx (s : State) (n : Nat) (v : FlowCtx) : (s.setCtx n v).switch = s.switch := rfl
@[simp] theorem State.wnw_setCtx (s : State) (n : Nat) (v : FlowCtx) : (s.setCtx n v).wnw = s.wnw := rfl
@[simp] theorem State.motion_setCtx (s : State) (n : Nat) (v : FlowCtx) : (s.setCtx n v).motion = s.motion := rfl
@[simp] theorem State.claim_setCtx (s : State) (n : Nat) (v : FlowCtx) : (s.setCtx n v).claim = s.claim := rfl
@[simp] theorem State.glume_setCtx (s : State) (n : Nat) (v : FlowCtx) : (s.setCtx n v).glume = s.glume := rfl
@[simp] theorem State.fab_setCtx (s : State) (n : Nat) (v : FlowCtx) : (s.setCtx n v).fab = s.fab := rfl
@[simp] theorem State.pair_setCtx (s : State) (n : Nat) (v : FlowCtx) : (s.setCtx n v).pair = s.pair := rfl
@[simp] theorem State.nets_setCtx (s : State) (n : Nat) (v : FlowCtx) : (s.setCtx n v).nets = s.nets := rfl
@[simp] theorem State.rd_setCtx (s : State) (n : Nat) (v : FlowCtx) : (s.setCtx n v).rd = s.rd := rfl
@[simp] theorem State.out_setCtx (s : State) (n : Nat) (v : FlowCtx) : (s.setCtx n v).out = s.out := rfl
@[simp] theorem State.freeCount_setCtx (s : State) (n : Nat) (v : FlowCtx) : (s.setCtx n v).freeCount = s.freeCount := rfl
@[simp] theorem State.pending_setCtx (s : State) (n : Nat) (v : FlowCtx) : (s.setCtx n v).pending = s.pending := rfl

/-! ### setChisel -/

@[simp] theorem State.chisel_setChisel (s : State) (n : Nat) (v : ChsGroup) : (s.setChisel n v).chisel n = v := Table.get_set_same _ _ _ _
theorem State.chisel_setChisel_other (s : State) (v : ChsGroup) {n k : Nat} (h : k ≠ n) : (s.setChisel n v).chisel k = s.chisel k := Table.get_set_other _ _ _ h
@[simp] theorem State.updChisel_eq (s : State) (n : Nat) (f : ChsGroup → ChsGroup) : s.updChisel n f = s.setChisel n (f (s.chisel n)) := rfl
@[simp] theorem State.time_setChisel (s : State) (n : Nat) (v : ChsGroup) : (s.setChisel n v).time = s.time := rfl
@[simp] theorem State.cell_setChisel (s : State) (n : Nat) (v : ChsGroup) : (s.setChisel n v).cell = s.cell := rfl
@[simp] theorem State.power_setChisel (s : State) (n : Nat) (v : ChsGroup) : (s.setChisel n v).power = s.power := rfl
@[simp] theorem State.tap_setChisel (s : State) (n : Nat) (v : ChsGroup) : (s.setChisel n v).tap = s.tap := rfl
@[simp] theorem State.kept_setChisel (s : State) (n : Nat) (v : ChsGroup) : (s.setChisel n v).kept = s.kept := rfl
@[simp] theorem State.keptAt_setChisel (s : State) (n : Nat) (v : ChsGroup) : (s.setChisel n v).keptAt = s.keptAt := rfl
@[simp] theorem State.jrnl_setChisel (s : State) (n : Nat) (v : ChsGroup) : (s.setChisel n v).jrnl = s.jrnl := rfl
@[simp] theorem State.host_setChisel (s : State) (n : Nat) (v : ChsGroup) : (s.setChisel n v).host = s.host := rfl
@[simp] theorem State.mbx_setChisel (s : State) (n : Nat) (v : ChsGroup) : (s.setChisel n v).mbx = s.mbx := rfl
@[simp] theorem State.pool_setChisel (s : State) (n : Nat) (v : ChsGroup) : (s.setChisel n v).pool = s.pool := rfl
@[simp] theorem State.chk_setChisel (s : State) (n : Nat) (v : ChsGroup) : (s.setChisel n v).chk = s.chk := rfl
@[simp] theorem State.lathes_setChisel (s : State) (n : Nat) (v : ChsGroup) : (s.setChisel n v).lathes = s.lathes := rfl
@[simp] theorem State.images_setChisel (s : State) (n : Nat) (v : ChsGroup) : (s.setChisel n v).images = s.images := rfl
@[simp] theorem State.ctxs_setChisel (s : State) (n : Nat) (v : ChsGroup) : (s.setChisel n v).ctxs = s.ctxs := rfl
@[simp] theorem State.custKey_setChisel (s : State) (n : Nat) (v : ChsGroup) : (s.setChisel n v).custKey = s.custKey := rfl
@[simp] theorem State.cans_setChisel (s : State) (n : Nat) (v : ChsGroup) : (s.setChisel n v).cans = s.cans := rfl
@[simp] theorem State.macs_setChisel (s : State) (n : Nat) (v : ChsGroup) : (s.setChisel n v).macs = s.macs := rfl
@[simp] theorem State.switch_setChisel (s : State) (n : Nat) (v : ChsGroup) : (s.setChisel n v).switch = s.switch := rfl
@[simp] theorem State.wnw_setChisel (s : State) (n : Nat) (v : ChsGroup) : (s.setChisel n v).wnw = s.wnw := rfl
@[simp] theorem State.motion_setChisel (s : State) (n : Nat) (v : ChsGroup) : (s.setChisel n v).motion = s.motion := rfl
@[simp] theorem State.claim_setChisel (s : State) (n : Nat) (v : ChsGroup) : (s.setChisel n v).claim = s.claim := rfl
@[simp] theorem State.glume_setChisel (s : State) (n : Nat) (v : ChsGroup) : (s.setChisel n v).glume = s.glume := rfl
@[simp] theorem State.fab_setChisel (s : State) (n : Nat) (v : ChsGroup) : (s.setChisel n v).fab = s.fab := rfl
@[simp] theorem State.pair_setChisel (s : State) (n : Nat) (v : ChsGroup) : (s.setChisel n v).pair = s.pair := rfl
@[simp] theorem State.nets_setChisel (s : State) (n : Nat) (v : ChsGroup) : (s.setChisel n v).nets = s.nets := rfl
@[simp] theorem State.rd_setChisel (s : State) (n : Nat) (v : ChsGroup) : (s.setChisel n v).rd = s.rd := rfl
@[simp] theorem State.out_setChisel (s : State) (n : Nat) (v : ChsGroup) : (s.setChisel n v).out = s.out := rfl
@[simp] theorem State.freeCount_setChisel (s : State) (n : Nat) (v : ChsGroup) : (s.setChisel n v).freeCount = s.freeCount := rfl
@[simp] theorem State.pending_setChisel (s : State) (n : Nat) (v : ChsGroup) : (s.setChisel n v).pending = s.pending := rfl

/-! ### setCan -/

@[simp] theorem State.can_setCan (s : State) (n : Nat) (v : Can) : (s.setCan n v).can n = v := Table.get_set_same _ _ _ _
theorem State.can_setCan_other (s : State) (v : Can) {n k : Nat} (h : k ≠ n) : (s.setCan n v).can k = s.can k := Table.get_set_other _ _ _ h
@[simp] theorem State.updCan_eq (s : State) (n : Nat) (f : Can → Can) : s.updCan n f = s.setCan n (f (s.can n)) := rfl
@[simp] theorem State.time_setCan (s : State) (n : Nat) (v : Can) : (s.setCan n v).time = s.time := rfl
@[simp] theorem State.cell_setCan (s : State) (n : Nat) (v : Can) : (s.setCan n v).cell = s.cell := rfl
@[simp] theorem State.power_setCan (s : State) (n : Nat) (v : Can) : (s.setCan n v).power = s.power := rfl
@[simp] theorem State.tap_setCan (s : State) (n : Nat) (v : Can) : (s.setCan n v).tap = s.tap := rfl
@[simp] theorem State.kept_setCan (s : State) (n : Nat) (v : Can) : (s.setCan n v).kept = s.kept := rfl
@[simp] theorem State.keptAt_setCan (s : State) (n : Nat) (v : Can) : (s.setCan n v).keptAt = s.keptAt := rfl
@[simp] theorem State.jrnl_setCan (s : State) (n : Nat) (v : Can) : (s.setCan n v).jrnl = s.jrnl := rfl
@[simp] theorem State.host_setCan (s : State) (n : Nat) (v : Can) : (s.setCan n v).host = s.host := rfl
@[simp] theorem State.mbx_setCan (s : State) (n : Nat) (v : Can) : (s.setCan n v).mbx = s.mbx := rfl
@[simp] theorem State.pool_setCan (s : State) (n : Nat) (v : Can) : (s.setCan n v).pool = s.pool := rfl
@[simp] theorem State.chk_setCan (s : State) (n : Nat) (v : Can) : (s.setCan n v).chk = s.chk := rfl
@[simp] theorem State.lathes_setCan (s : State) (n : Nat) (v : Can) : (s.setCan n v).lathes = s.lathes := rfl
@[simp] theorem State.images_setCan (s : State) (n : Nat) (v : Can) : (s.setCan n v).images = s.images := rfl
@[simp] theorem State.ctxs_setCan (s : State) (n : Nat) (v : Can) : (s.setCan n v).ctxs = s.ctxs := rfl
@[simp] theorem State.custKey_setCan (s : State) (n : Nat) (v : Can) : (s.setCan n v).custKey = s.custKey := rfl
@[simp] theorem State.chisels_setCan (s : State) (n : Nat) (v : Can) : (s.setCan n v).chisels = s.chisels := rfl
@[simp] theorem State.macs_setCan (s : State) (n : Nat) (v : Can) : (s.setCan n v).macs = s.macs := rfl
@[simp] theorem State.switch_setCan (s : State) (n : Nat) (v : Can) : (s.setCan n v).switch = s.switch := rfl
@[simp] theorem State.wnw_setCan (s : State) (n : Nat) (v : Can) : (s.setCan n v).wnw = s.wnw := rfl
@[simp] theorem State.motion_setCan (s : State) (n : Nat) (v : Can) : (s.setCan n v).motion = s.motion := rfl
@[simp] theorem State.claim_setCan (s : State) (n : Nat) (v : Can) : (s.setCan n v).claim = s.claim := rfl
@[simp] theorem State.glume_setCan (s : State) (n : Nat) (v : Can) : (s.setCan n v).glume = s.glume := rfl
@[simp] theorem State.fab_setCan (s : State) (n : Nat) (v : Can) : (s.setCan n v).fab = s.fab := rfl
@[simp] theorem State.pair_setCan (s : State) (n : Nat) (v : Can) : (s.setCan n v).pair = s.pair := rfl
@[simp] theorem State.nets_setCan (s : State) (n : Nat) (v : Can) : (s.setCan n v).nets = s.nets := rfl
@[simp] theorem State.rd_setCan (s : State) (n : Nat) (v : Can) : (s.setCan n v).rd = s.rd := rfl
@[simp] theorem State.out_setCan (s : State) (n : Nat) (v : Can) : (s.setCan n v).out = s.out := rfl
@[simp] theorem State.freeCount_setCan (s : State) (n : Nat) (v : Can) : (s.setCan n v).freeCount = s.freeCount := rfl
@[simp] theorem State.pending_setCan (s : State) (n : Nat) (v : Can) : (s.setCan n v).pending = s.pending := rfl

/-! ### setMac -/

@[simp] theorem State.mac_setMac (s : State) (n : Nat) (v : Mac) : (s.setMac n v).mac n = v := Table.get_set_same _ _ _ _
theorem State.mac_setMac_other (s : State) (v : Mac) {n k : Nat} (h : k ≠ n) : (s.setMac n v).mac k = s.mac k := Table.get_set_other _ _ _ h
@[simp] theorem State.updMac_eq (s : State) (n : Nat) (f : Mac → Mac) : s.updMac n f = s.setMac n (f (s.mac n)) := rfl
@[simp] theorem State.time_setMac (s : State) (n : Nat) (v : Mac) : (s.setMac n v).time = s.time := rfl
@[simp] theorem State.cell_setMac (s : State) (n : Nat) (v : Mac) : (s.setMac n v).cell = s.cell := rfl
@[simp] theorem State.power_setMac (s : State) (n : Nat) (v : Mac) : (s.setMac n v).power = s.power := rfl
@[simp] theorem State.tap_setMac (s : State) (n : Nat) (v : Mac) : (s.setMac n v).tap = s.tap := rfl
@[simp] theorem State.kept_setMac (s : State) (n : Nat) (v : Mac) : (s.setMac n v).kept = s.kept := rfl
@[simp] theorem State.keptAt_setMac (s : State) (n : Nat) (v : Mac) : (s.setMac n v).keptAt = s.keptAt := rfl
@[simp] theorem State.jrnl_setMac (s : State) (n : Nat) (v : Mac) : (s.setMac n v).jrnl = s.jrnl := rfl
@[simp] theorem State.host_setMac (s : State) (n : Nat) (v : Mac) : (s.setMac n v).host = s.host := rfl
@[simp] theorem State.mbx_setMac (s : State) (n : Nat) (v : Mac) : (s.setMac n v).mbx = s.mbx := rfl
@[simp] theorem State.pool_setMac (s : State) (n : Nat) (v : Mac) : (s.setMac n v).pool = s.pool := rfl
@[simp] theorem State.chk_setMac (s : State) (n : Nat) (v : Mac) : (s.setMac n v).chk = s.chk := rfl
@[simp] theorem State.lathes_setMac (s : State) (n : Nat) (v : Mac) : (s.setMac n v).lathes = s.lathes := rfl
@[simp] theorem State.images_setMac (s : State) (n : Nat) (v : Mac) : (s.setMac n v).images = s.images := rfl
@[simp] theorem State.ctxs_setMac (s : State) (n : Nat) (v : Mac) : (s.setMac n v).ctxs = s.ctxs := rfl
@[simp] theorem State.custKey_setMac (s : State) (n : Nat) (v : Mac) : (s.setMac n v).custKey = s.custKey := rfl
@[simp] theorem State.chisels_setMac (s : State) (n : Nat) (v : Mac) : (s.setMac n v).chisels = s.chisels := rfl
@[simp] theorem State.cans_setMac (s : State) (n : Nat) (v : Mac) : (s.setMac n v).cans = s.cans := rfl
@[simp] theorem State.switch_setMac (s : State) (n : Nat) (v : Mac) : (s.setMac n v).switch = s.switch := rfl
@[simp] theorem State.wnw_setMac (s : State) (n : Nat) (v : Mac) : (s.setMac n v).wnw = s.wnw := rfl
@[simp] theorem State.motion_setMac (s : State) (n : Nat) (v : Mac) : (s.setMac n v).motion = s.motion := rfl
@[simp] theorem State.claim_setMac (s : State) (n : Nat) (v : Mac) : (s.setMac n v).claim = s.claim := rfl
@[simp] theorem State.glume_setMac (s : State) (n : Nat) (v : Mac) : (s.setMac n v).glume = s.glume := rfl
@[simp] theorem State.fab_setMac (s : State) (n : Nat) (v : Mac) : (s.setMac n v).fab = s.fab := rfl
@[simp] theorem State.pair_setMac (s : State) (n : Nat) (v : Mac) : (s.setMac n v).pair = s.pair := rfl
@[simp] theorem State.nets_setMac (s : State) (n : Nat) (v : Mac) : (s.setMac n v).nets = s.nets := rfl
@[simp] theorem State.rd_setMac (s : State) (n : Nat) (v : Mac) : (s.setMac n v).rd = s.rd := rfl
@[simp] theorem State.out_setMac (s : State) (n : Nat) (v : Mac) : (s.setMac n v).out = s.out := rfl
@[simp] theorem State.freeCount_setMac (s : State) (n : Nat) (v : Mac) : (s.setMac n v).freeCount = s.freeCount := rfl
@[simp] theorem State.pending_setMac (s : State) (n : Nat) (v : Mac) : (s.setMac n v).pending = s.pending := rfl

/-! ### setSwRing -/

@[simp] theorem State.swRing_setSwRing (s : State) (n : Nat) (v : LatheRing) : (s.setSwRing n v).swRing n = v := Table.get_set_same _ _ _ _
theorem State.swRing_setSwRing_other (s : State) (v : LatheRing) {n k : Nat} (h : k ≠ n) : (s.setSwRing n v).swRing k = s.swRing k := Table.get_set_other _ _ _ h
@[simp] theorem State.updSwRing_eq (s : State) (n : Nat) (f : LatheRing → LatheRing) : s.updSwRing n f = s.setSwRing n (f (s.swRing n)) := rfl
@[simp] theorem State.time_setSwRing (s : State) (n : Nat) (v : LatheRing) : (s.setSwRing n v).time = s.time := rfl
@[simp] theorem State.cell_setSwRing (s : State) (n : Nat) (v : LatheRing) : (s.setSwRing n v).cell = s.cell := rfl
@[simp] theorem State.power_setSwRing (s : State) (n : Nat) (v : LatheRing) : (s.setSwRing n v).power = s.power := rfl
@[simp] theorem State.tap_setSwRing (s : State) (n : Nat) (v : LatheRing) : (s.setSwRing n v).tap = s.tap := rfl
@[simp] theorem State.kept_setSwRing (s : State) (n : Nat) (v : LatheRing) : (s.setSwRing n v).kept = s.kept := rfl
@[simp] theorem State.keptAt_setSwRing (s : State) (n : Nat) (v : LatheRing) : (s.setSwRing n v).keptAt = s.keptAt := rfl
@[simp] theorem State.jrnl_setSwRing (s : State) (n : Nat) (v : LatheRing) : (s.setSwRing n v).jrnl = s.jrnl := rfl
@[simp] theorem State.host_setSwRing (s : State) (n : Nat) (v : LatheRing) : (s.setSwRing n v).host = s.host := rfl
@[simp] theorem State.mbx_setSwRing (s : State) (n : Nat) (v : LatheRing) : (s.setSwRing n v).mbx = s.mbx := rfl
@[simp] theorem State.pool_setSwRing (s : State) (n : Nat) (v : LatheRing) : (s.setSwRing n v).pool = s.pool := rfl
@[simp] theorem State.chk_setSwRing (s : State) (n : Nat) (v : LatheRing) : (s.setSwRing n v).chk = s.chk := rfl
@[simp] theorem State.lathes_setSwRing (s : State) (n : Nat) (v : LatheRing) : (s.setSwRing n v).lathes = s.lathes := rfl
@[simp] theorem State.images_setSwRing (s : State) (n : Nat) (v : LatheRing) : (s.setSwRing n v).images = s.images := rfl
@[simp] theorem State.ctxs_setSwRing (s : State) (n : Nat) (v : LatheRing) : (s.setSwRing n v).ctxs = s.ctxs := rfl
@[simp] theorem State.custKey_setSwRing (s : State) (n : Nat) (v : LatheRing) : (s.setSwRing n v).custKey = s.custKey := rfl
@[simp] theorem State.chisels_setSwRing (s : State) (n : Nat) (v : LatheRing) : (s.setSwRing n v).chisels = s.chisels := rfl
@[simp] theorem State.cans_setSwRing (s : State) (n : Nat) (v : LatheRing) : (s.setSwRing n v).cans = s.cans := rfl
@[simp] theorem State.macs_setSwRing (s : State) (n : Nat) (v : LatheRing) : (s.setSwRing n v).macs = s.macs := rfl
@[simp] theorem State.wnw_setSwRing (s : State) (n : Nat) (v : LatheRing) : (s.setSwRing n v).wnw = s.wnw := rfl
@[simp] theorem State.motion_setSwRing (s : State) (n : Nat) (v : LatheRing) : (s.setSwRing n v).motion = s.motion := rfl
@[simp] theorem State.claim_setSwRing (s : State) (n : Nat) (v : LatheRing) : (s.setSwRing n v).claim = s.claim := rfl
@[simp] theorem State.glume_setSwRing (s : State) (n : Nat) (v : LatheRing) : (s.setSwRing n v).glume = s.glume := rfl
@[simp] theorem State.fab_setSwRing (s : State) (n : Nat) (v : LatheRing) : (s.setSwRing n v).fab = s.fab := rfl
@[simp] theorem State.pair_setSwRing (s : State) (n : Nat) (v : LatheRing) : (s.setSwRing n v).pair = s.pair := rfl
@[simp] theorem State.nets_setSwRing (s : State) (n : Nat) (v : LatheRing) : (s.setSwRing n v).nets = s.nets := rfl
@[simp] theorem State.rd_setSwRing (s : State) (n : Nat) (v : LatheRing) : (s.setSwRing n v).rd = s.rd := rfl
@[simp] theorem State.out_setSwRing (s : State) (n : Nat) (v : LatheRing) : (s.setSwRing n v).out = s.out := rfl
@[simp] theorem State.freeCount_setSwRing (s : State) (n : Nat) (v : LatheRing) : (s.setSwRing n v).freeCount = s.freeCount := rfl
@[simp] theorem State.pending_setSwRing (s : State) (n : Nat) (v : LatheRing) : (s.setSwRing n v).pending = s.pending := rfl
@[simp] theorem State.mirror_setSwRing (s : State) (n k : Nat) (v : LatheRing) : (s.setSwRing n v).mirror k = s.mirror k := rfl

/-! ### setMirror -/

@[simp] theorem State.mirror_setMirror (s : State) (n : Nat) (v : Mirror) : (s.setMirror n v).mirror n = v := Table.get_set_same _ _ _ _
theorem State.mirror_setMirror_other (s : State) (v : Mirror) {n k : Nat} (h : k ≠ n) : (s.setMirror n v).mirror k = s.mirror k := Table.get_set_other _ _ _ h
@[simp] theorem State.updMirror_eq (s : State) (n : Nat) (f : Mirror → Mirror) : s.updMirror n f = s.setMirror n (f (s.mirror n)) := rfl
@[simp] theorem State.time_setMirror (s : State) (n : Nat) (v : Mirror) : (s.setMirror n v).time = s.time := rfl
@[simp] theorem State.cell_setMirror (s : State) (n : Nat) (v : Mirror) : (s.setMirror n v).cell = s.cell := rfl
@[simp] theorem State.power_setMirror (s : State) (n : Nat) (v : Mirror) : (s.setMirror n v).power = s.power := rfl
@[simp] theorem State.tap_setMirror (s : State) (n : Nat) (v : Mirror) : (s.setMirror n v).tap = s.tap := rfl
@[simp] theorem State.kept_setMirror (s : State) (n : Nat) (v : Mirror) : (s.setMirror n v).kept = s.kept := rfl
@[simp] theorem State.keptAt_setMirror (s : State) (n : Nat) (v : Mirror) : (s.setMirror n v).keptAt = s.keptAt := rfl
@[simp] theorem State.jrnl_setMirror (s : State) (n : Nat) (v : Mirror) : (s.setMirror n v).jrnl = s.jrnl := rfl
@[simp] theorem State.host_setMirror (s : State) (n : Nat) (v : Mirror) : (s.setMirror n v).host = s.host := rfl
@[simp] theorem State.mbx_setMirror (s : State) (n : Nat) (v : Mirror) : (s.setMirror n v).mbx = s.mbx := rfl
@[simp] theorem State.pool_setMirror (s : State) (n : Nat) (v : Mirror) : (s.setMirror n v).pool = s.pool := rfl
@[simp] theorem State.chk_setMirror (s : State) (n : Nat) (v : Mirror) : (s.setMirror n v).chk = s.chk := rfl
@[simp] theorem State.lathes_setMirror (s : State) (n : Nat) (v : Mirror) : (s.setMirror n v).lathes = s.lathes := rfl
@[simp] theorem State.images_setMirror (s : State) (n : Nat) (v : Mirror) : (s.setMirror n v).images = s.images := rfl
@[simp] theorem State.ctxs_setMirror (s : State) (n : Nat) (v : Mirror) : (s.setMirror n v).ctxs = s.ctxs := rfl
@[simp] theorem State.custKey_setMirror (s : State) (n : Nat) (v : Mirror) : (s.setMirror n v).custKey = s.custKey := rfl
@[simp] theorem State.chisels_setMirror (s : State) (n : Nat) (v : Mirror) : (s.setMirror n v).chisels = s.chisels := rfl
@[simp] theorem State.cans_setMirror (s : State) (n : Nat) (v : Mirror) : (s.setMirror n v).cans = s.cans := rfl
@[simp] theorem State.macs_setMirror (s : State) (n : Nat) (v : Mirror) : (s.setMirror n v).macs = s.macs := rfl
@[simp] theorem State.wnw_setMirror (s : State) (n : Nat) (v : Mirror) : (s.setMirror n v).wnw = s.wnw := rfl
@[simp] theorem State.motion_setMirror (s : State) (n : Nat) (v : Mirror) : (s.setMirror n v).motion = s.motion := rfl
@[simp] theorem State.claim_setMirror (s : State) (n : Nat) (v : Mirror) : (s.setMirror n v).claim = s.claim := rfl
@[simp] theorem State.glume_setMirror (s : State) (n : Nat) (v : Mirror) : (s.setMirror n v).glume = s.glume := rfl
@[simp] theorem State.fab_setMirror (s : State) (n : Nat) (v : Mirror) : (s.setMirror n v).fab = s.fab := rfl
@[simp] theorem State.pair_setMirror (s : State) (n : Nat) (v : Mirror) : (s.setMirror n v).pair = s.pair := rfl
@[simp] theorem State.nets_setMirror (s : State) (n : Nat) (v : Mirror) : (s.setMirror n v).nets = s.nets := rfl
@[simp] theorem State.rd_setMirror (s : State) (n : Nat) (v : Mirror) : (s.setMirror n v).rd = s.rd := rfl
@[simp] theorem State.out_setMirror (s : State) (n : Nat) (v : Mirror) : (s.setMirror n v).out = s.out := rfl
@[simp] theorem State.freeCount_setMirror (s : State) (n : Nat) (v : Mirror) : (s.setMirror n v).freeCount = s.freeCount := rfl
@[simp] theorem State.pending_setMirror (s : State) (n : Nat) (v : Mirror) : (s.setMirror n v).pending = s.pending := rfl
@[simp] theorem State.swRing_setMirror (s : State) (n k : Nat) (v : Mirror) : (s.setMirror n v).swRing k = s.swRing k := rfl

/-! ### setNet -/

@[simp] theorem State.net_setNet (s : State) (n : Nat) (v : Network) : (s.setNet n v).net n = v := Table.get_set_same _ _ _ _
theorem State.net_setNet_other (s : State) (v : Network) {n k : Nat} (h : k ≠ n) : (s.setNet n v).net k = s.net k := Table.get_set_other _ _ _ h
@[simp] theorem State.updNet_eq (s : State) (n : Nat) (f : Network → Network) : s.updNet n f = s.setNet n (f (s.net n)) := rfl
@[simp] theorem State.time_setNet (s : State) (n : Nat) (v : Network) : (s.setNet n v).time = s.time := rfl
@[simp] theorem State.cell_setNet (s : State) (n : Nat) (v : Network) : (s.setNet n v).cell = s.cell := rfl
@[simp] theorem State.power_setNet (s : State) (n : Nat) (v : Network) : (s.setNet n v).power = s.power := rfl
@[simp] theorem State.tap_setNet (s : State) (n : Nat) (v : Network) : (s.setNet n v).tap = s.tap := rfl
@[simp] theorem State.kept_setNet (s : State) (n : Nat) (v : Network) : (s.setNet n v).kept = s.kept := rfl
@[simp] theorem State.keptAt_setNet (s : State) (n : Nat) (v : Network) : (s.setNet n v).keptAt = s.keptAt := rfl
@[simp] theorem State.jrnl_setNet (s : State) (n : Nat) (v : Network) : (s.setNet n v).jrnl = s.jrnl := rfl
@[simp] theorem State.host_setNet (s : State) (n : Nat) (v : Network) : (s.setNet n v).host = s.host := rfl
@[simp] theorem State.mbx_setNet (s : State) (n : Nat) (v : Network) : (s.setNet n v).mbx = s.mbx := rfl
@[simp] theorem State.pool_setNet (s : State) (n : Nat) (v : Network) : (s.setNet n v).pool = s.pool := rfl
@[simp] theorem State.chk_setNet (s : State) (n : Nat) (v : Network) : (s.setNet n v).chk = s.chk := rfl
@[simp] theorem State.lathes_setNet (s : State) (n : Nat) (v : Network) : (s.setNet n v).lathes = s.lathes := rfl
@[simp] theorem State.images_setNet (s : State) (n : Nat) (v : Network) : (s.setNet n v).images = s.images := rfl
@[simp] theorem State.ctxs_setNet (s : State) (n : Nat) (v : Network) : (s.setNet n v).ctxs = s.ctxs := rfl
@[simp] theorem State.custKey_setNet (s : State) (n : Nat) (v : Network) : (s.setNet n v).custKey = s.custKey := rfl
@[simp] theorem State.chisels_setNet (s : State) (n : Nat) (v : Network) : (s.setNet n v).chisels = s.chisels := rfl
@[simp] theorem State.cans_setNet (s : State) (n : Nat) (v : Network) : (s.setNet n v).cans = s.cans := rfl
@[simp] theorem State.macs_setNet (s : State) (n : Nat) (v : Network) : (s.setNet n v).macs = s.macs := rfl
@[simp] theorem State.switch_setNet (s : State) (n : Nat) (v : Network) : (s.setNet n v).switch = s.switch := rfl
@[simp] theorem State.wnw_setNet (s : State) (n : Nat) (v : Network) : (s.setNet n v).wnw = s.wnw := rfl
@[simp] theorem State.motion_setNet (s : State) (n : Nat) (v : Network) : (s.setNet n v).motion = s.motion := rfl
@[simp] theorem State.claim_setNet (s : State) (n : Nat) (v : Network) : (s.setNet n v).claim = s.claim := rfl
@[simp] theorem State.glume_setNet (s : State) (n : Nat) (v : Network) : (s.setNet n v).glume = s.glume := rfl
@[simp] theorem State.fab_setNet (s : State) (n : Nat) (v : Network) : (s.setNet n v).fab = s.fab := rfl
@[simp] theorem State.pair_setNet (s : State) (n : Nat) (v : Network) : (s.setNet n v).pair = s.pair := rfl
@[simp] theorem State.rd_setNet (s : State) (n : Nat) (v : Network) : (s.setNet n v).rd = s.rd := rfl
@[simp] theorem State.out_setNet (s : State) (n : Nat) (v : Network) : (s.setNet n v).out = s.out := rfl
@[simp] theorem State.freeCount_setNet (s : State) (n : Nat) (v : Network) : (s.setNet n v).freeCount = s.freeCount := rfl
@[simp] theorem State.pending_setNet (s : State) (n : Nat) (v : Network) : (s.setNet n v).pending = s.pending := rfl

/-! ### setScrub -/

@[simp] theorem State.scrub_setScrub (s : State) (n : Nat) (v : Scrub) : (s.setScrub n v).scrub n = v := Table.get_set_same _ _ _ _
theorem State.scrub_setScrub_other (s : State) (v : Scrub) {n k : Nat} (h : k ≠ n) : (s.setScrub n v).scrub k = s.scrub k := Table.get_set_other _ _ _ h
@[simp] theorem State.updScrub_eq (s : State) (n : Nat) (f : Scrub → Scrub) : s.updScrub n f = s.setScrub n (f (s.scrub n)) := rfl
@[simp] theorem State.time_setScrub (s : State) (n : Nat) (v : Scrub) : (s.setScrub n v).time = s.time := rfl
@[simp] theorem State.cell_setScrub (s : State) (n : Nat) (v : Scrub) : (s.setScrub n v).cell = s.cell := rfl
@[simp] theorem State.power_setScrub (s : State) (n : Nat) (v : Scrub) : (s.setScrub n v).power = s.power := rfl
@[simp] theorem State.tap_setScrub (s : State) (n : Nat) (v : Scrub) : (s.setScrub n v).tap = s.tap := rfl
@[simp] theorem State.kept_setScrub (s : State) (n : Nat) (v : Scrub) : (s.setScrub n v).kept = s.kept := rfl
@[simp] theorem State.keptAt_setScrub (s : State) (n : Nat) (v : Scrub) : (s.setScrub n v).keptAt = s.keptAt := rfl
@[simp] theorem State.jrnl_setScrub (s : State) (n : Nat) (v : Scrub) : (s.setScrub n v).jrnl = s.jrnl := rfl
@[simp] theorem State.host_setScrub (s : State) (n : Nat) (v : Scrub) : (s.setScrub n v).host = s.host := rfl
@[simp] theorem State.mbx_setScrub (s : State) (n : Nat) (v : Scrub) : (s.setScrub n v).mbx = s.mbx := rfl
@[simp] theorem State.pool_setScrub (s : State) (n : Nat) (v : Scrub) : (s.setScrub n v).pool = s.pool := rfl
@[simp] theorem State.chk_setScrub (s : State) (n : Nat) (v : Scrub) : (s.setScrub n v).chk = s.chk := rfl
@[simp] theorem State.lathes_setScrub (s : State) (n : Nat) (v : Scrub) : (s.setScrub n v).lathes = s.lathes := rfl
@[simp] theorem State.images_setScrub (s : State) (n : Nat) (v : Scrub) : (s.setScrub n v).images = s.images := rfl
@[simp] theorem State.ctxs_setScrub (s : State) (n : Nat) (v : Scrub) : (s.setScrub n v).ctxs = s.ctxs := rfl
@[simp] theorem State.custKey_setScrub (s : State) (n : Nat) (v : Scrub) : (s.setScrub n v).custKey = s.custKey := rfl
@[simp] theorem State.chisels_setScrub (s : State) (n : Nat) (v : Scrub) : (s.setScrub n v).chisels = s.chisels := rfl
@[simp] theorem State.cans_setScrub (s : State) (n : Nat) (v : Scrub) : (s.setScrub n v).cans = s.cans := rfl
@[simp] theorem State.macs_setScrub (s : State) (n : Nat) (v : Scrub) : (s.setScrub n v).macs = s.macs := rfl
@[simp] theorem State.switch_setScrub (s : State) (n : Nat) (v : Scrub) : (s.setScrub n v).switch = s.switch := rfl
@[simp] theorem State.motion_setScrub (s : State) (n : Nat) (v : Scrub) : (s.setScrub n v).motion = s.motion := rfl
@[simp] theorem State.claim_setScrub (s : State) (n : Nat) (v : Scrub) : (s.setScrub n v).claim = s.claim := rfl
@[simp] theorem State.glume_setScrub (s : State) (n : Nat) (v : Scrub) : (s.setScrub n v).glume = s.glume := rfl
@[simp] theorem State.fab_setScrub (s : State) (n : Nat) (v : Scrub) : (s.setScrub n v).fab = s.fab := rfl
@[simp] theorem State.pair_setScrub (s : State) (n : Nat) (v : Scrub) : (s.setScrub n v).pair = s.pair := rfl
@[simp] theorem State.nets_setScrub (s : State) (n : Nat) (v : Scrub) : (s.setScrub n v).nets = s.nets := rfl
@[simp] theorem State.rd_setScrub (s : State) (n : Nat) (v : Scrub) : (s.setScrub n v).rd = s.rd := rfl
@[simp] theorem State.out_setScrub (s : State) (n : Nat) (v : Scrub) : (s.setScrub n v).out = s.out := rfl
@[simp] theorem State.freeCount_setScrub (s : State) (n : Nat) (v : Scrub) : (s.setScrub n v).freeCount = s.freeCount := rfl
@[simp] theorem State.pending_setScrub (s : State) (n : Nat) (v : Scrub) : (s.setScrub n v).pending = s.pending := rfl
@[simp] theorem State.calib_setScrub (s : State) (n k : Nat) (v : Scrub) : (s.setScrub n v).calib k = s.calib k := rfl

/-! ### setCalib -/

@[simp] theorem State.calib_setCalib (s : State) (n : Nat) (v : Calib) : (s.setCalib n v).calib n = v := Table.get_set_same _ _ _ _
theorem State.calib_setCalib_other (s : State) (v : Calib) {n k : Nat} (h : k ≠ n) : (s.setCalib n v).calib k = s.calib k := Table.get_set_other _ _ _ h
@[simp] theorem State.updCalib_eq (s : State) (n : Nat) (f : Calib → Calib) : s.updCalib n f = s.setCalib n (f (s.calib n)) := rfl
@[simp] theorem State.time_setCalib (s : State) (n : Nat) (v : Calib) : (s.setCalib n v).time = s.time := rfl
@[simp] theorem State.cell_setCalib (s : State) (n : Nat) (v : Calib) : (s.setCalib n v).cell = s.cell := rfl
@[simp] theorem State.power_setCalib (s : State) (n : Nat) (v : Calib) : (s.setCalib n v).power = s.power := rfl
@[simp] theorem State.tap_setCalib (s : State) (n : Nat) (v : Calib) : (s.setCalib n v).tap = s.tap := rfl
@[simp] theorem State.kept_setCalib (s : State) (n : Nat) (v : Calib) : (s.setCalib n v).kept = s.kept := rfl
@[simp] theorem State.keptAt_setCalib (s : State) (n : Nat) (v : Calib) : (s.setCalib n v).keptAt = s.keptAt := rfl
@[simp] theorem State.jrnl_setCalib (s : State) (n : Nat) (v : Calib) : (s.setCalib n v).jrnl = s.jrnl := rfl
@[simp] theorem State.host_setCalib (s : State) (n : Nat) (v : Calib) : (s.setCalib n v).host = s.host := rfl
@[simp] theorem State.mbx_setCalib (s : State) (n : Nat) (v : Calib) : (s.setCalib n v).mbx = s.mbx := rfl
@[simp] theorem State.pool_setCalib (s : State) (n : Nat) (v : Calib) : (s.setCalib n v).pool = s.pool := rfl
@[simp] theorem State.chk_setCalib (s : State) (n : Nat) (v : Calib) : (s.setCalib n v).chk = s.chk := rfl
@[simp] theorem State.lathes_setCalib (s : State) (n : Nat) (v : Calib) : (s.setCalib n v).lathes = s.lathes := rfl
@[simp] theorem State.images_setCalib (s : State) (n : Nat) (v : Calib) : (s.setCalib n v).images = s.images := rfl
@[simp] theorem State.ctxs_setCalib (s : State) (n : Nat) (v : Calib) : (s.setCalib n v).ctxs = s.ctxs := rfl
@[simp] theorem State.custKey_setCalib (s : State) (n : Nat) (v : Calib) : (s.setCalib n v).custKey = s.custKey := rfl
@[simp] theorem State.chisels_setCalib (s : State) (n : Nat) (v : Calib) : (s.setCalib n v).chisels = s.chisels := rfl
@[simp] theorem State.cans_setCalib (s : State) (n : Nat) (v : Calib) : (s.setCalib n v).cans = s.cans := rfl
@[simp] theorem State.macs_setCalib (s : State) (n : Nat) (v : Calib) : (s.setCalib n v).macs = s.macs := rfl
@[simp] theorem State.switch_setCalib (s : State) (n : Nat) (v : Calib) : (s.setCalib n v).switch = s.switch := rfl
@[simp] theorem State.motion_setCalib (s : State) (n : Nat) (v : Calib) : (s.setCalib n v).motion = s.motion := rfl
@[simp] theorem State.claim_setCalib (s : State) (n : Nat) (v : Calib) : (s.setCalib n v).claim = s.claim := rfl
@[simp] theorem State.glume_setCalib (s : State) (n : Nat) (v : Calib) : (s.setCalib n v).glume = s.glume := rfl
@[simp] theorem State.fab_setCalib (s : State) (n : Nat) (v : Calib) : (s.setCalib n v).fab = s.fab := rfl
@[simp] theorem State.pair_setCalib (s : State) (n : Nat) (v : Calib) : (s.setCalib n v).pair = s.pair := rfl
@[simp] theorem State.nets_setCalib (s : State) (n : Nat) (v : Calib) : (s.setCalib n v).nets = s.nets := rfl
@[simp] theorem State.rd_setCalib (s : State) (n : Nat) (v : Calib) : (s.setCalib n v).rd = s.rd := rfl
@[simp] theorem State.out_setCalib (s : State) (n : Nat) (v : Calib) : (s.setCalib n v).out = s.out := rfl
@[simp] theorem State.freeCount_setCalib (s : State) (n : Nat) (v : Calib) : (s.setCalib n v).freeCount = s.freeCount := rfl
@[simp] theorem State.pending_setCalib (s : State) (n : Nat) (v : Calib) : (s.setCalib n v).pending = s.pending := rfl
@[simp] theorem State.scrub_setCalib (s : State) (n k : Nat) (v : Calib) : (s.setCalib n v).scrub k = s.scrub k := rfl

/-! ### setAxis -/

@[simp] theorem State.axis_setAxis (s : State) (n : Nat) (v : Axis) : (s.setAxis n v).axis n = v := Table.get_set_same _ _ _ _
theorem State.axis_setAxis_other (s : State) (v : Axis) {n k : Nat} (h : k ≠ n) : (s.setAxis n v).axis k = s.axis k := Table.get_set_other _ _ _ h
@[simp] theorem State.updAxis_eq (s : State) (n : Nat) (f : Axis → Axis) : s.updAxis n f = s.setAxis n (f (s.axis n)) := rfl
@[simp] theorem State.time_setAxis (s : State) (n : Nat) (v : Axis) : (s.setAxis n v).time = s.time := rfl
@[simp] theorem State.cell_setAxis (s : State) (n : Nat) (v : Axis) : (s.setAxis n v).cell = s.cell := rfl
@[simp] theorem State.power_setAxis (s : State) (n : Nat) (v : Axis) : (s.setAxis n v).power = s.power := rfl
@[simp] theorem State.tap_setAxis (s : State) (n : Nat) (v : Axis) : (s.setAxis n v).tap = s.tap := rfl
@[simp] theorem State.kept_setAxis (s : State) (n : Nat) (v : Axis) : (s.setAxis n v).kept = s.kept := rfl
@[simp] theorem State.keptAt_setAxis (s : State) (n : Nat) (v : Axis) : (s.setAxis n v).keptAt = s.keptAt := rfl
@[simp] theorem State.jrnl_setAxis (s : State) (n : Nat) (v : Axis) : (s.setAxis n v).jrnl = s.jrnl := rfl
@[simp] theorem State.host_setAxis (s : State) (n : Nat) (v : Axis) : (s.setAxis n v).host = s.host := rfl
@[simp] theorem State.mbx_setAxis (s : State) (n : Nat) (v : Axis) : (s.setAxis n v).mbx = s.mbx := rfl
@[simp] theorem State.pool_setAxis (s : State) (n : Nat) (v : Axis) : (s.setAxis n v).pool = s.pool := rfl
@[simp] theorem State.chk_setAxis (s : State) (n : Nat) (v : Axis) : (s.setAxis n v).chk = s.chk := rfl
@[simp] theorem State.lathes_setAxis (s : State) (n : Nat) (v : Axis) : (s.setAxis n v).lathes = s.lathes := rfl
@[simp] theorem State.images_setAxis (s : State) (n : Nat) (v : Axis) : (s.setAxis n v).images = s.images := rfl
@[simp] theorem State.ctxs_setAxis (s : State) (n : Nat) (v : Axis) : (s.setAxis n v).ctxs = s.ctxs := rfl
@[simp] theorem State.custKey_setAxis (s : State) (n : Nat) (v : Axis) : (s.setAxis n v).custKey = s.custKey := rfl
@[simp] theorem State.chisels_setAxis (s : State) (n : Nat) (v : Axis) : (s.setAxis n v).chisels = s.chisels := rfl
@[simp] theorem State.cans_setAxis (s : State) (n : Nat) (v : Axis) : (s.setAxis n v).cans = s.cans := rfl
@[simp] theorem State.macs_setAxis (s : State) (n : Nat) (v : Axis) : (s.setAxis n v).macs = s.macs := rfl
@[simp] theorem State.switch_setAxis (s : State) (n : Nat) (v : Axis) : (s.setAxis n v).switch = s.switch := rfl
@[simp] theorem State.wnw_setAxis (s : State) (n : Nat) (v : Axis) : (s.setAxis n v).wnw = s.wnw := rfl
@[simp] theorem State.claim_setAxis (s : State) (n : Nat) (v : Axis) : (s.setAxis n v).claim = s.claim := rfl
@[simp] theorem State.glume_setAxis (s : State) (n : Nat) (v : Axis) : (s.setAxis n v).glume = s.glume := rfl
@[simp] theorem State.fab_setAxis (s : State) (n : Nat) (v : Axis) : (s.setAxis n v).fab = s.fab := rfl
@[simp] theorem State.pair_setAxis (s : State) (n : Nat) (v : Axis) : (s.setAxis n v).pair = s.pair := rfl
@[simp] theorem State.nets_setAxis (s : State) (n : Nat) (v : Axis) : (s.setAxis n v).nets = s.nets := rfl
@[simp] theorem State.rd_setAxis (s : State) (n : Nat) (v : Axis) : (s.setAxis n v).rd = s.rd := rfl
@[simp] theorem State.out_setAxis (s : State) (n : Nat) (v : Axis) : (s.setAxis n v).out = s.out := rfl
@[simp] theorem State.freeCount_setAxis (s : State) (n : Nat) (v : Axis) : (s.setAxis n v).freeCount = s.freeCount := rfl
@[simp] theorem State.pending_setAxis (s : State) (n : Nat) (v : Axis) : (s.setAxis n v).pending = s.pending := rfl
@[simp] theorem State.arm_setAxis (s : State) (n k : Nat) (v : Axis) : (s.setAxis n v).arm k = s.arm k := rfl
@[simp] theorem State.cam_setAxis (s : State) (n k : Nat) (v : Axis) : (s.setAxis n v).cam k = s.cam k := rfl
@[simp] theorem State.tiller_setAxis (s : State) (n k : Nat) (v : Axis) : (s.setAxis n v).tiller k = s.tiller k := rfl
@[simp] theorem State.adc_setAxis (s : State) (n k : Nat) (v : Axis) : (s.setAxis n v).adc k = s.adc k := rfl
@[simp] theorem State.gpio_setAxis (s : State) (n k : Nat) (v : Axis) : (s.setAxis n v).gpio k = s.gpio k := rfl

/-! ### setArm -/

@[simp] theorem State.arm_setArm (s : State) (n : Nat) (v : Arm) : (s.setArm n v).arm n = v := Table.get_set_same _ _ _ _
theorem State.arm_setArm_other (s : State) (v : Arm) {n k : Nat} (h : k ≠ n) : (s.setArm n v).arm k = s.arm k := Table.get_set_other _ _ _ h
@[simp] theorem State.updArm_eq (s : State) (n : Nat) (f : Arm → Arm) : s.updArm n f = s.setArm n (f (s.arm n)) := rfl
@[simp] theorem State.time_setArm (s : State) (n : Nat) (v : Arm) : (s.setArm n v).time = s.time := rfl
@[simp] theorem State.cell_setArm (s : State) (n : Nat) (v : Arm) : (s.setArm n v).cell = s.cell := rfl
@[simp] theorem State.power_setArm (s : State) (n : Nat) (v : Arm) : (s.setArm n v).power = s.power := rfl
@[simp] theorem State.tap_setArm (s : State) (n : Nat) (v : Arm) : (s.setArm n v).tap = s.tap := rfl
@[simp] theorem State.kept_setArm (s : State) (n : Nat) (v : Arm) : (s.setArm n v).kept = s.kept := rfl
@[simp] theorem State.keptAt_setArm (s : State) (n : Nat) (v : Arm) : (s.setArm n v).keptAt = s.keptAt := rfl
@[simp] theorem State.jrnl_setArm (s : State) (n : Nat) (v : Arm) : (s.setArm n v).jrnl = s.jrnl := rfl
@[simp] theorem State.host_setArm (s : State) (n : Nat) (v : Arm) : (s.setArm n v).host = s.host := rfl
@[simp] theorem State.mbx_setArm (s : State) (n : Nat) (v : Arm) : (s.setArm n v).mbx = s.mbx := rfl
@[simp] theorem State.pool_setArm (s : State) (n : Nat) (v : Arm) : (s.setArm n v).pool = s.pool := rfl
@[simp] theorem State.chk_setArm (s : State) (n : Nat) (v : Arm) : (s.setArm n v).chk = s.chk := rfl
@[simp] theorem State.lathes_setArm (s : State) (n : Nat) (v : Arm) : (s.setArm n v).lathes = s.lathes := rfl
@[simp] theorem State.images_setArm (s : State) (n : Nat) (v : Arm) : (s.setArm n v).images = s.images := rfl
@[simp] theorem State.ctxs_setArm (s : State) (n : Nat) (v : Arm) : (s.setArm n v).ctxs = s.ctxs := rfl
@[simp] theorem State.custKey_setArm (s : State) (n : Nat) (v : Arm) : (s.setArm n v).custKey = s.custKey := rfl
@[simp] theorem State.chisels_setArm (s : State) (n : Nat) (v : Arm) : (s.setArm n v).chisels = s.chisels := rfl
@[simp] theorem State.cans_setArm (s : State) (n : Nat) (v : Arm) : (s.setArm n v).cans = s.cans := rfl
@[simp] theorem State.macs_setArm (s : State) (n : Nat) (v : Arm) : (s.setArm n v).macs = s.macs := rfl
@[simp] theorem State.switch_setArm (s : State) (n : Nat) (v : Arm) : (s.setArm n v).switch = s.switch := rfl
@[simp] theorem State.wnw_setArm (s : State) (n : Nat) (v : Arm) : (s.setArm n v).wnw = s.wnw := rfl
@[simp] theorem State.claim_setArm (s : State) (n : Nat) (v : Arm) : (s.setArm n v).claim = s.claim := rfl
@[simp] theorem State.glume_setArm (s : State) (n : Nat) (v : Arm) : (s.setArm n v).glume = s.glume := rfl
@[simp] theorem State.fab_setArm (s : State) (n : Nat) (v : Arm) : (s.setArm n v).fab = s.fab := rfl
@[simp] theorem State.pair_setArm (s : State) (n : Nat) (v : Arm) : (s.setArm n v).pair = s.pair := rfl
@[simp] theorem State.nets_setArm (s : State) (n : Nat) (v : Arm) : (s.setArm n v).nets = s.nets := rfl
@[simp] theorem State.rd_setArm (s : State) (n : Nat) (v : Arm) : (s.setArm n v).rd = s.rd := rfl
@[simp] theorem State.out_setArm (s : State) (n : Nat) (v : Arm) : (s.setArm n v).out = s.out := rfl
@[simp] theorem State.freeCount_setArm (s : State) (n : Nat) (v : Arm) : (s.setArm n v).freeCount = s.freeCount := rfl
@[simp] theorem State.pending_setArm (s : State) (n : Nat) (v : Arm) : (s.setArm n v).pending = s.pending := rfl
@[simp] theorem State.axis_setArm (s : State) (n k : Nat) (v : Arm) : (s.setArm n v).axis k = s.axis k := rfl
@[simp] theorem State.cam_setArm (s : State) (n k : Nat) (v : Arm) : (s.setArm n v).cam k = s.cam k := rfl
@[simp] theorem State.tiller_setArm (s : State) (n k : Nat) (v : Arm) : (s.setArm n v).tiller k = s.tiller k := rfl
@[simp] theorem State.adc_setArm (s : State) (n k : Nat) (v : Arm) : (s.setArm n v).adc k = s.adc k := rfl
@[simp] theorem State.gpio_setArm (s : State) (n k : Nat) (v : Arm) : (s.setArm n v).gpio k = s.gpio k := rfl

/-! ### setCam -/

@[simp] theorem State.cam_setCam (s : State) (n : Nat) (v : Cam) : (s.setCam n v).cam n = v := Table.get_set_same _ _ _ _
theorem State.cam_setCam_other (s : State) (v : Cam) {n k : Nat} (h : k ≠ n) : (s.setCam n v).cam k = s.cam k := Table.get_set_other _ _ _ h
@[simp] theorem State.updCam_eq (s : State) (n : Nat) (f : Cam → Cam) : s.updCam n f = s.setCam n (f (s.cam n)) := rfl
@[simp] theorem State.time_setCam (s : State) (n : Nat) (v : Cam) : (s.setCam n v).time = s.time := rfl
@[simp] theorem State.cell_setCam (s : State) (n : Nat) (v : Cam) : (s.setCam n v).cell = s.cell := rfl
@[simp] theorem State.power_setCam (s : State) (n : Nat) (v : Cam) : (s.setCam n v).power = s.power := rfl
@[simp] theorem State.tap_setCam (s : State) (n : Nat) (v : Cam) : (s.setCam n v).tap = s.tap := rfl
@[simp] theorem State.kept_setCam (s : State) (n : Nat) (v : Cam) : (s.setCam n v).kept = s.kept := rfl
@[simp] theorem State.keptAt_setCam (s : State) (n : Nat) (v : Cam) : (s.setCam n v).keptAt = s.keptAt := rfl
@[simp] theorem State.jrnl_setCam (s : State) (n : Nat) (v : Cam) : (s.setCam n v).jrnl = s.jrnl := rfl
@[simp] theorem State.host_setCam (s : State) (n : Nat) (v : Cam) : (s.setCam n v).host = s.host := rfl
@[simp] theorem State.mbx_setCam (s : State) (n : Nat) (v : Cam) : (s.setCam n v).mbx = s.mbx := rfl
@[simp] theorem State.pool_setCam (s : State) (n : Nat) (v : Cam) : (s.setCam n v).pool = s.pool := rfl
@[simp] theorem State.chk_setCam (s : State) (n : Nat) (v : Cam) : (s.setCam n v).chk = s.chk := rfl
@[simp] theorem State.lathes_setCam (s : State) (n : Nat) (v : Cam) : (s.setCam n v).lathes = s.lathes := rfl
@[simp] theorem State.images_setCam (s : State) (n : Nat) (v : Cam) : (s.setCam n v).images = s.images := rfl
@[simp] theorem State.ctxs_setCam (s : State) (n : Nat) (v : Cam) : (s.setCam n v).ctxs = s.ctxs := rfl
@[simp] theorem State.custKey_setCam (s : State) (n : Nat) (v : Cam) : (s.setCam n v).custKey = s.custKey := rfl
@[simp] theorem State.chisels_setCam (s : State) (n : Nat) (v : Cam) : (s.setCam n v).chisels = s.chisels := rfl
@[simp] theorem State.cans_setCam (s : State) (n : Nat) (v : Cam) : (s.setCam n v).cans = s.cans := rfl
@[simp] theorem State.macs_setCam (s : State) (n : Nat) (v : Cam) : (s.setCam n v).macs = s.macs := rfl
@[simp] theorem State.switch_setCam (s : State) (n : Nat) (v : Cam) : (s.setCam n v).switch = s.switch := rfl
@[simp] theorem State.wnw_setCam (s : State) (n : Nat) (v : Cam) : (s.setCam n v).wnw = s.wnw := rfl
@[simp] theorem State.claim_setCam (s : State) (n : Nat) (v : Cam) : (s.setCam n v).claim = s.claim := rfl
@[simp] theorem State.glume_setCam (s : State) (n : Nat) (v : Cam) : (s.setCam n v).glume = s.glume := rfl
@[simp] theorem State.fab_setCam (s : State) (n : Nat) (v : Cam) : (s.setCam n v).fab = s.fab := rfl
@[simp] theorem State.pair_setCam (s : State) (n : Nat) (v : Cam) : (s.setCam n v).pair = s.pair := rfl
@[simp] theorem State.nets_setCam (s : State) (n : Nat) (v : Cam) : (s.setCam n v).nets = s.nets := rfl
@[simp] theorem State.rd_setCam (s : State) (n : Nat) (v : Cam) : (s.setCam n v).rd = s.rd := rfl
@[simp] theorem State.out_setCam (s : State) (n : Nat) (v : Cam) : (s.setCam n v).out = s.out := rfl
@[simp] theorem State.freeCount_setCam (s : State) (n : Nat) (v : Cam) : (s.setCam n v).freeCount = s.freeCount := rfl
@[simp] theorem State.pending_setCam (s : State) (n : Nat) (v : Cam) : (s.setCam n v).pending = s.pending := rfl
@[simp] theorem State.axis_setCam (s : State) (n k : Nat) (v : Cam) : (s.setCam n v).axis k = s.axis k := rfl
@[simp] theorem State.arm_setCam (s : State) (n k : Nat) (v : Cam) : (s.setCam n v).arm k = s.arm k := rfl
@[simp] theorem State.tiller_setCam (s : State) (n k : Nat) (v : Cam) : (s.setCam n v).tiller k = s.tiller k := rfl
@[simp] theorem State.adc_setCam (s : State) (n k : Nat) (v : Cam) : (s.setCam n v).adc k = s.adc k := rfl
@[simp] theorem State.gpio_setCam (s : State) (n k : Nat) (v : Cam) : (s.setCam n v).gpio k = s.gpio k := rfl

/-! ### setTiller -/

@[simp] theorem State.tiller_setTiller (s : State) (n : Nat) (v : Tiller) : (s.setTiller n v).tiller n = v := Table.get_set_same _ _ _ _
theorem State.tiller_setTiller_other (s : State) (v : Tiller) {n k : Nat} (h : k ≠ n) : (s.setTiller n v).tiller k = s.tiller k := Table.get_set_other _ _ _ h
@[simp] theorem State.updTiller_eq (s : State) (n : Nat) (f : Tiller → Tiller) : s.updTiller n f = s.setTiller n (f (s.tiller n)) := rfl
@[simp] theorem State.time_setTiller (s : State) (n : Nat) (v : Tiller) : (s.setTiller n v).time = s.time := rfl
@[simp] theorem State.cell_setTiller (s : State) (n : Nat) (v : Tiller) : (s.setTiller n v).cell = s.cell := rfl
@[simp] theorem State.power_setTiller (s : State) (n : Nat) (v : Tiller) : (s.setTiller n v).power = s.power := rfl
@[simp] theorem State.tap_setTiller (s : State) (n : Nat) (v : Tiller) : (s.setTiller n v).tap = s.tap := rfl
@[simp] theorem State.kept_setTiller (s : State) (n : Nat) (v : Tiller) : (s.setTiller n v).kept = s.kept := rfl
@[simp] theorem State.keptAt_setTiller (s : State) (n : Nat) (v : Tiller) : (s.setTiller n v).keptAt = s.keptAt := rfl
@[simp] theorem State.jrnl_setTiller (s : State) (n : Nat) (v : Tiller) : (s.setTiller n v).jrnl = s.jrnl := rfl
@[simp] theorem State.host_setTiller (s : State) (n : Nat) (v : Tiller) : (s.setTiller n v).host = s.host := rfl
@[simp] theorem State.mbx_setTiller (s : State) (n : Nat) (v : Tiller) : (s.setTiller n v).mbx = s.mbx := rfl
@[simp] theorem State.pool_setTiller (s : State) (n : Nat) (v : Tiller) : (s.setTiller n v).pool = s.pool := rfl
@[simp] theorem State.chk_setTiller (s : State) (n : Nat) (v : Tiller) : (s.setTiller n v).chk = s.chk := rfl
@[simp] theorem State.lathes_setTiller (s : State) (n : Nat) (v : Tiller) : (s.setTiller n v).lathes = s.lathes := rfl
@[simp] theorem State.images_setTiller (s : State) (n : Nat) (v : Tiller) : (s.setTiller n v).images = s.images := rfl
@[simp] theorem State.ctxs_setTiller (s : State) (n : Nat) (v : Tiller) : (s.setTiller n v).ctxs = s.ctxs := rfl
@[simp] theorem State.custKey_setTiller (s : State) (n : Nat) (v : Tiller) : (s.setTiller n v).custKey = s.custKey := rfl
@[simp] theorem State.chisels_setTiller (s : State) (n : Nat) (v : Tiller) : (s.setTiller n v).chisels = s.chisels := rfl
@[simp] theorem State.cans_setTiller (s : State) (n : Nat) (v : Tiller) : (s.setTiller n v).cans = s.cans := rfl
@[simp] theorem State.macs_setTiller (s : State) (n : Nat) (v : Tiller) : (s.setTiller n v).macs = s.macs := rfl
@[simp] theorem State.switch_setTiller (s : State) (n : Nat) (v : Tiller) : (s.setTiller n v).switch = s.switch := rfl
@[simp] theorem State.wnw_setTiller (s : State) (n : Nat) (v : Tiller) : (s.setTiller n v).wnw = s.wnw := rfl
@[simp] theorem State.claim_setTiller (s : State) (n : Nat) (v : Tiller) : (s.setTiller n v).claim = s.claim := rfl
@[simp] theorem State.glume_setTiller (s : State) (n : Nat) (v : Tiller) : (s.setTiller n v).glume = s.glume := rfl
@[simp] theorem State.fab_setTiller (s : State) (n : Nat) (v : Tiller) : (s.setTiller n v).fab = s.fab := rfl
@[simp] theorem State.pair_setTiller (s : State) (n : Nat) (v : Tiller) : (s.setTiller n v).pair = s.pair := rfl
@[simp] theorem State.nets_setTiller (s : State) (n : Nat) (v : Tiller) : (s.setTiller n v).nets = s.nets := rfl
@[simp] theorem State.rd_setTiller (s : State) (n : Nat) (v : Tiller) : (s.setTiller n v).rd = s.rd := rfl
@[simp] theorem State.out_setTiller (s : State) (n : Nat) (v : Tiller) : (s.setTiller n v).out = s.out := rfl
@[simp] theorem State.freeCount_setTiller (s : State) (n : Nat) (v : Tiller) : (s.setTiller n v).freeCount = s.freeCount := rfl
@[simp] theorem State.pending_setTiller (s : State) (n : Nat) (v : Tiller) : (s.setTiller n v).pending = s.pending := rfl
@[simp] theorem State.axis_setTiller (s : State) (n k : Nat) (v : Tiller) : (s.setTiller n v).axis k = s.axis k := rfl
@[simp] theorem State.arm_setTiller (s : State) (n k : Nat) (v : Tiller) : (s.setTiller n v).arm k = s.arm k := rfl
@[simp] theorem State.cam_setTiller (s : State) (n k : Nat) (v : Tiller) : (s.setTiller n v).cam k = s.cam k := rfl
@[simp] theorem State.adc_setTiller (s : State) (n k : Nat) (v : Tiller) : (s.setTiller n v).adc k = s.adc k := rfl
@[simp] theorem State.gpio_setTiller (s : State) (n k : Nat) (v : Tiller) : (s.setTiller n v).gpio k = s.gpio k := rfl

/-! ### setAdc -/

@[simp] theorem State.adc_setAdc (s : State) (n : Nat) (v : Adc) : (s.setAdc n v).adc n = v := Table.get_set_same _ _ _ _
theorem State.adc_setAdc_other (s : State) (v : Adc) {n k : Nat} (h : k ≠ n) : (s.setAdc n v).adc k = s.adc k := Table.get_set_other _ _ _ h
@[simp] theorem State.updAdc_eq (s : State) (n : Nat) (f : Adc → Adc) : s.updAdc n f = s.setAdc n (f (s.adc n)) := rfl
@[simp] theorem State.time_setAdc (s : State) (n : Nat) (v : Adc) : (s.setAdc n v).time = s.time := rfl
@[simp] theorem State.cell_setAdc (s : State) (n : Nat) (v : Adc) : (s.setAdc n v).cell = s.cell := rfl
@[simp] theorem State.power_setAdc (s : State) (n : Nat) (v : Adc) : (s.setAdc n v).power = s.power := rfl
@[simp] theorem State.tap_setAdc (s : State) (n : Nat) (v : Adc) : (s.setAdc n v).tap = s.tap := rfl
@[simp] theorem State.kept_setAdc (s : State) (n : Nat) (v : Adc) : (s.setAdc n v).kept = s.kept := rfl
@[simp] theorem State.keptAt_setAdc (s : State) (n : Nat) (v : Adc) : (s.setAdc n v).keptAt = s.keptAt := rfl
@[simp] theorem State.jrnl_setAdc (s : State) (n : Nat) (v : Adc) : (s.setAdc n v).jrnl = s.jrnl := rfl
@[simp] theorem State.host_setAdc (s : State) (n : Nat) (v : Adc) : (s.setAdc n v).host = s.host := rfl
@[simp] theorem State.mbx_setAdc (s : State) (n : Nat) (v : Adc) : (s.setAdc n v).mbx = s.mbx := rfl
@[simp] theorem State.pool_setAdc (s : State) (n : Nat) (v : Adc) : (s.setAdc n v).pool = s.pool := rfl
@[simp] theorem State.chk_setAdc (s : State) (n : Nat) (v : Adc) : (s.setAdc n v).chk = s.chk := rfl
@[simp] theorem State.lathes_setAdc (s : State) (n : Nat) (v : Adc) : (s.setAdc n v).lathes = s.lathes := rfl
@[simp] theorem State.images_setAdc (s : State) (n : Nat) (v : Adc) : (s.setAdc n v).images = s.images := rfl
@[simp] theorem State.ctxs_setAdc (s : State) (n : Nat) (v : Adc) : (s.setAdc n v).ctxs = s.ctxs := rfl
@[simp] theorem State.custKey_setAdc (s : State) (n : Nat) (v : Adc) : (s.setAdc n v).custKey = s.custKey := rfl
@[simp] theorem State.chisels_setAdc (s : State) (n : Nat) (v : Adc) : (s.setAdc n v).chisels = s.chisels := rfl
@[simp] theorem State.cans_setAdc (s : State) (n : Nat) (v : Adc) : (s.setAdc n v).cans = s.cans := rfl
@[simp] theorem State.macs_setAdc (s : State) (n : Nat) (v : Adc) : (s.setAdc n v).macs = s.macs := rfl
@[simp] theorem State.switch_setAdc (s : State) (n : Nat) (v : Adc) : (s.setAdc n v).switch = s.switch := rfl
@[simp] theorem State.wnw_setAdc (s : State) (n : Nat) (v : Adc) : (s.setAdc n v).wnw = s.wnw := rfl
@[simp] theorem State.claim_setAdc (s : State) (n : Nat) (v : Adc) : (s.setAdc n v).claim = s.claim := rfl
@[simp] theorem State.glume_setAdc (s : State) (n : Nat) (v : Adc) : (s.setAdc n v).glume = s.glume := rfl
@[simp] theorem State.fab_setAdc (s : State) (n : Nat) (v : Adc) : (s.setAdc n v).fab = s.fab := rfl
@[simp] theorem State.pair_setAdc (s : State) (n : Nat) (v : Adc) : (s.setAdc n v).pair = s.pair := rfl
@[simp] theorem State.nets_setAdc (s : State) (n : Nat) (v : Adc) : (s.setAdc n v).nets = s.nets := rfl
@[simp] theorem State.rd_setAdc (s : State) (n : Nat) (v : Adc) : (s.setAdc n v).rd = s.rd := rfl
@[simp] theorem State.out_setAdc (s : State) (n : Nat) (v : Adc) : (s.setAdc n v).out = s.out := rfl
@[simp] theorem State.freeCount_setAdc (s : State) (n : Nat) (v : Adc) : (s.setAdc n v).freeCount = s.freeCount := rfl
@[simp] theorem State.pending_setAdc (s : State) (n : Nat) (v : Adc) : (s.setAdc n v).pending = s.pending := rfl
@[simp] theorem State.axis_setAdc (s : State) (n k : Nat) (v : Adc) : (s.setAdc n v).axis k = s.axis k := rfl
@[simp] theorem State.arm_setAdc (s : State) (n k : Nat) (v : Adc) : (s.setAdc n v).arm k = s.arm k := rfl
@[simp] theorem State.cam_setAdc (s : State) (n k : Nat) (v : Adc) : (s.setAdc n v).cam k = s.cam k := rfl
@[simp] theorem State.tiller_setAdc (s : State) (n k : Nat) (v : Adc) : (s.setAdc n v).tiller k = s.tiller k := rfl
@[simp] theorem State.gpio_setAdc (s : State) (n k : Nat) (v : Adc) : (s.setAdc n v).gpio k = s.gpio k := rfl

/-! ### setGpio -/

@[simp] theorem State.gpio_setGpio (s : State) (n : Nat) (v : GpioPin) : (s.setGpio n v).gpio n = v := Table.get_set_same _ _ _ _
theorem State.gpio_setGpio_other (s : State) (v : GpioPin) {n k : Nat} (h : k ≠ n) : (s.setGpio n v).gpio k = s.gpio k := Table.get_set_other _ _ _ h
@[simp] theorem State.updGpio_eq (s : State) (n : Nat) (f : GpioPin → GpioPin) : s.updGpio n f = s.setGpio n (f (s.gpio n)) := rfl
@[simp] theorem State.time_setGpio (s : State) (n : Nat) (v : GpioPin) : (s.setGpio n v).time = s.time := rfl
@[simp] theorem State.cell_setGpio (s : State) (n : Nat) (v : GpioPin) : (s.setGpio n v).cell = s.cell := rfl
@[simp] theorem State.power_setGpio (s : State) (n : Nat) (v : GpioPin) : (s.setGpio n v).power = s.power := rfl
@[simp] theorem State.tap_setGpio (s : State) (n : Nat) (v : GpioPin) : (s.setGpio n v).tap = s.tap := rfl
@[simp] theorem State.kept_setGpio (s : State) (n : Nat) (v : GpioPin) : (s.setGpio n v).kept = s.kept := rfl
@[simp] theorem State.keptAt_setGpio (s : State) (n : Nat) (v : GpioPin) : (s.setGpio n v).keptAt = s.keptAt := rfl
@[simp] theorem State.jrnl_setGpio (s : State) (n : Nat) (v : GpioPin) : (s.setGpio n v).jrnl = s.jrnl := rfl
@[simp] theorem State.host_setGpio (s : State) (n : Nat) (v : GpioPin) : (s.setGpio n v).host = s.host := rfl
@[simp] theorem State.mbx_setGpio (s : State) (n : Nat) (v : GpioPin) : (s.setGpio n v).mbx = s.mbx := rfl
@[simp] theorem State.pool_setGpio (s : State) (n : Nat) (v : GpioPin) : (s.setGpio n v).pool = s.pool := rfl
@[simp] theorem State.chk_setGpio (s : State) (n : Nat) (v : GpioPin) : (s.setGpio n v).chk = s.chk := rfl
@[simp] theorem State.lathes_setGpio (s : State) (n : Nat) (v : GpioPin) : (s.setGpio n v).lathes = s.lathes := rfl
@[simp] theorem State.images_setGpio (s : State) (n : Nat) (v : GpioPin) : (s.setGpio n v).images = s.images := rfl
@[simp] theorem State.ctxs_setGpio (s : State) (n : Nat) (v : GpioPin) : (s.setGpio n v).ctxs = s.ctxs := rfl
@[simp] theorem State.custKey_setGpio (s : State) (n : Nat) (v : GpioPin) : (s.setGpio n v).custKey = s.custKey := rfl
@[simp] theorem State.chisels_setGpio (s : State) (n : Nat) (v : GpioPin) : (s.setGpio n v).chisels = s.chisels := rfl
@[simp] theorem State.cans_setGpio (s : State) (n : Nat) (v : GpioPin) : (s.setGpio n v).cans = s.cans := rfl
@[simp] theorem State.macs_setGpio (s : State) (n : Nat) (v : GpioPin) : (s.setGpio n v).macs = s.macs := rfl
@[simp] theorem State.switch_setGpio (s : State) (n : Nat) (v : GpioPin) : (s.setGpio n v).switch = s.switch := rfl
@[simp] theorem State.wnw_setGpio (s : State) (n : Nat) (v : GpioPin) : (s.setGpio n v).wnw = s.wnw := rfl
@[simp] theorem State.claim_setGpio (s : State) (n : Nat) (v : GpioPin) : (s.setGpio n v).claim = s.claim := rfl
@[simp] theorem State.glume_setGpio (s : State) (n : Nat) (v : GpioPin) : (s.setGpio n v).glume = s.glume := rfl
@[simp] theorem State.fab_setGpio (s : State) (n : Nat) (v : GpioPin) : (s.setGpio n v).fab = s.fab := rfl
@[simp] theorem State.pair_setGpio (s : State) (n : Nat) (v : GpioPin) : (s.setGpio n v).pair = s.pair := rfl
@[simp] theorem State.nets_setGpio (s : State) (n : Nat) (v : GpioPin) : (s.setGpio n v).nets = s.nets := rfl
@[simp] theorem State.rd_setGpio (s : State) (n : Nat) (v : GpioPin) : (s.setGpio n v).rd = s.rd := rfl
@[simp] theorem State.out_setGpio (s : State) (n : Nat) (v : GpioPin) : (s.setGpio n v).out = s.out := rfl
@[simp] theorem State.freeCount_setGpio (s : State) (n : Nat) (v : GpioPin) : (s.setGpio n v).freeCount = s.freeCount := rfl
@[simp] theorem State.pending_setGpio (s : State) (n : Nat) (v : GpioPin) : (s.setGpio n v).pending = s.pending := rfl
@[simp] theorem State.axis_setGpio (s : State) (n k : Nat) (v : GpioPin) : (s.setGpio n v).axis k = s.axis k := rfl
@[simp] theorem State.arm_setGpio (s : State) (n k : Nat) (v : GpioPin) : (s.setGpio n v).arm k = s.arm k := rfl
@[simp] theorem State.cam_setGpio (s : State) (n k : Nat) (v : GpioPin) : (s.setGpio n v).cam k = s.cam k := rfl
@[simp] theorem State.tiller_setGpio (s : State) (n k : Nat) (v : GpioPin) : (s.setGpio n v).tiller k = s.tiller k := rfl
@[simp] theorem State.adc_setGpio (s : State) (n k : Nat) (v : GpioPin) : (s.setGpio n v).adc k = s.adc k := rfl

/-! ### setZone -/

@[simp] theorem State.zone_setZone (s : State) (n : Nat) (v : Zone) : (s.setZone n v).zone n = v := Table.get_set_same _ _ _ _
theorem State.zone_setZone_other (s : State) (v : Zone) {n k : Nat} (h : k ≠ n) : (s.setZone n v).zone k = s.zone k := Table.get_set_other _ _ _ h
@[simp] theorem State.updZone_eq (s : State) (n : Nat) (f : Zone → Zone) : s.updZone n f = s.setZone n (f (s.zone n)) := rfl
@[simp] theorem State.time_setZone (s : State) (n : Nat) (v : Zone) : (s.setZone n v).time = s.time := rfl
@[simp] theorem State.cell_setZone (s : State) (n : Nat) (v : Zone) : (s.setZone n v).cell = s.cell := rfl
@[simp] theorem State.power_setZone (s : State) (n : Nat) (v : Zone) : (s.setZone n v).power = s.power := rfl
@[simp] theorem State.tap_setZone (s : State) (n : Nat) (v : Zone) : (s.setZone n v).tap = s.tap := rfl
@[simp] theorem State.kept_setZone (s : State) (n : Nat) (v : Zone) : (s.setZone n v).kept = s.kept := rfl
@[simp] theorem State.keptAt_setZone (s : State) (n : Nat) (v : Zone) : (s.setZone n v).keptAt = s.keptAt := rfl
@[simp] theorem State.jrnl_setZone (s : State) (n : Nat) (v : Zone) : (s.setZone n v).jrnl = s.jrnl := rfl
@[simp] theorem State.host_setZone (s : State) (n : Nat) (v : Zone) : (s.setZone n v).host = s.host := rfl
@[simp] theorem State.mbx_setZone (s : State) (n : Nat) (v : Zone) : (s.setZone n v).mbx = s.mbx := rfl
@[simp] theorem State.pool_setZone (s : State) (n : Nat) (v : Zone) : (s.setZone n v).pool = s.pool := rfl
@[simp] theorem State.chk_setZone (s : State) (n : Nat) (v : Zone) : (s.setZone n v).chk = s.chk := rfl
@[simp] theorem State.lathes_setZone (s : State) (n : Nat) (v : Zone) : (s.setZone n v).lathes = s.lathes := rfl
@[simp] theorem State.images_setZone (s : State) (n : Nat) (v : Zone) : (s.setZone n v).images = s.images := rfl
@[simp] theorem State.ctxs_setZone (s : State) (n : Nat) (v : Zone) : (s.setZone n v).ctxs = s.ctxs := rfl
@[simp] theorem State.custKey_setZone (s : State) (n : Nat) (v : Zone) : (s.setZone n v).custKey = s.custKey := rfl
@[simp] theorem State.chisels_setZone (s : State) (n : Nat) (v : Zone) : (s.setZone n v).chisels = s.chisels := rfl
@[simp] theorem State.cans_setZone (s : State) (n : Nat) (v : Zone) : (s.setZone n v).cans = s.cans := rfl
@[simp] theorem State.macs_setZone (s : State) (n : Nat) (v : Zone) : (s.setZone n v).macs = s.macs := rfl
@[simp] theorem State.switch_setZone (s : State) (n : Nat) (v : Zone) : (s.setZone n v).switch = s.switch := rfl
@[simp] theorem State.wnw_setZone (s : State) (n : Nat) (v : Zone) : (s.setZone n v).wnw = s.wnw := rfl
@[simp] theorem State.motion_setZone (s : State) (n : Nat) (v : Zone) : (s.setZone n v).motion = s.motion := rfl
@[simp] theorem State.glume_setZone (s : State) (n : Nat) (v : Zone) : (s.setZone n v).glume = s.glume := rfl
@[simp] theorem State.fab_setZone (s : State) (n : Nat) (v : Zone) : (s.setZone n v).fab = s.fab := rfl
@[simp] theorem State.pair_setZone (s : State) (n : Nat) (v : Zone) : (s.setZone n v).pair = s.pair := rfl
@[simp] theorem State.nets_setZone (s : State) (n : Nat) (v : Zone) : (s.setZone n v).nets = s.nets := rfl
@[simp] theorem State.rd_setZone (s : State) (n : Nat) (v : Zone) : (s.setZone n v).rd = s.rd := rfl
@[simp] theorem State.out_setZone (s : State) (n : Nat) (v : Zone) : (s.setZone n v).out = s.out := rfl
@[simp] theorem State.freeCount_setZone (s : State) (n : Nat) (v : Zone) : (s.setZone n v).freeCount = s.freeCount := rfl
@[simp] theorem State.pending_setZone (s : State) (n : Nat) (v : Zone) : (s.setZone n v).pending = s.pending := rfl
@[simp] theorem State.claimCount_setZone (s : State) (n k : Nat) (v : Zone) : (s.setZone n v).claimCount k = s.claimCount k := rfl

/-! ### setClaimCount -/

@[simp] theorem State.claimCount_setClaimCount (s : State) (n : Nat) (v : ClaimCount) : (s.setClaimCount n v).claimCount n = v := Table.get_set_same _ _ _ _
theorem State.claimCount_setClaimCount_other (s : State) (v : ClaimCount) {n k : Nat} (h : k ≠ n) : (s.setClaimCount n v).claimCount k = s.claimCount k := Table.get_set_other _ _ _ h
@[simp] theorem State.updClaimCount_eq (s : State) (n : Nat) (f : ClaimCount → ClaimCount) : s.updClaimCount n f = s.setClaimCount n (f (s.claimCount n)) := rfl
@[simp] theorem State.time_setClaimCount (s : State) (n : Nat) (v : ClaimCount) : (s.setClaimCount n v).time = s.time := rfl
@[simp] theorem State.cell_setClaimCount (s : State) (n : Nat) (v : ClaimCount) : (s.setClaimCount n v).cell = s.cell := rfl
@[simp] theorem State.power_setClaimCount (s : State) (n : Nat) (v : ClaimCount) : (s.setClaimCount n v).power = s.power := rfl
@[simp] theorem State.tap_setClaimCount (s : State) (n : Nat) (v : ClaimCount) : (s.setClaimCount n v).tap = s.tap := rfl
@[simp] theorem State.kept_setClaimCount (s : State) (n : Nat) (v : ClaimCount) : (s.setClaimCount n v).kept = s.kept := rfl
@[simp] theorem State.keptAt_setClaimCount (s : State) (n : Nat) (v : ClaimCount) : (s.setClaimCount n v).keptAt = s.keptAt := rfl
@[simp] theorem State.jrnl_setClaimCount (s : State) (n : Nat) (v : ClaimCount) : (s.setClaimCount n v).jrnl = s.jrnl := rfl
@[simp] theorem State.host_setClaimCount (s : State) (n : Nat) (v : ClaimCount) : (s.setClaimCount n v).host = s.host := rfl
@[simp] theorem State.mbx_setClaimCount (s : State) (n : Nat) (v : ClaimCount) : (s.setClaimCount n v).mbx = s.mbx := rfl
@[simp] theorem State.pool_setClaimCount (s : State) (n : Nat) (v : ClaimCount) : (s.setClaimCount n v).pool = s.pool := rfl
@[simp] theorem State.chk_setClaimCount (s : State) (n : Nat) (v : ClaimCount) : (s.setClaimCount n v).chk = s.chk := rfl
@[simp] theorem State.lathes_setClaimCount (s : State) (n : Nat) (v : ClaimCount) : (s.setClaimCount n v).lathes = s.lathes := rfl
@[simp] theorem State.images_setClaimCount (s : State) (n : Nat) (v : ClaimCount) : (s.setClaimCount n v).images = s.images := rfl
@[simp] theorem State.ctxs_setClaimCount (s : State) (n : Nat) (v : ClaimCount) : (s.setClaimCount n v).ctxs = s.ctxs := rfl
@[simp] theorem State.custKey_setClaimCount (s : State) (n : Nat) (v : ClaimCount) : (s.setClaimCount n v).custKey = s.custKey := rfl
@[simp] theorem State.chisels_setClaimCount (s : State) (n : Nat) (v : ClaimCount) : (s.setClaimCount n v).chisels = s.chisels := rfl
@[simp] theorem State.cans_setClaimCount (s : State) (n : Nat) (v : ClaimCount) : (s.setClaimCount n v).cans = s.cans := rfl
@[simp] theorem State.macs_setClaimCount (s : State) (n : Nat) (v : ClaimCount) : (s.setClaimCount n v).macs = s.macs := rfl
@[simp] theorem State.switch_setClaimCount (s : State) (n : Nat) (v : ClaimCount) : (s.setClaimCount n v).switch = s.switch := rfl
@[simp] theorem State.wnw_setClaimCount (s : State) (n : Nat) (v : ClaimCount) : (s.setClaimCount n v).wnw = s.wnw := rfl
@[simp] theorem State.motion_setClaimCount (s : State) (n : Nat) (v : ClaimCount) : (s.setClaimCount n v).motion = s.motion := rfl
@[simp] theorem State.glume_setClaimCount (s : State) (n : Nat) (v : ClaimCount) : (s.setClaimCount n v).glume = s.glume := rfl
@[simp] theorem State.fab_setClaimCount (s : State) (n : Nat) (v : ClaimCount) : (s.setClaimCount n v).fab = s.fab := rfl
@[simp] theorem State.pair_setClaimCount (s : State) (n : Nat) (v : ClaimCount) : (s.setClaimCount n v).pair = s.pair := rfl
@[simp] theorem State.nets_setClaimCount (s : State) (n : Nat) (v : ClaimCount) : (s.setClaimCount n v).nets = s.nets := rfl
@[simp] theorem State.rd_setClaimCount (s : State) (n : Nat) (v : ClaimCount) : (s.setClaimCount n v).rd = s.rd := rfl
@[simp] theorem State.out_setClaimCount (s : State) (n : Nat) (v : ClaimCount) : (s.setClaimCount n v).out = s.out := rfl
@[simp] theorem State.freeCount_setClaimCount (s : State) (n : Nat) (v : ClaimCount) : (s.setClaimCount n v).freeCount = s.freeCount := rfl
@[simp] theorem State.pending_setClaimCount (s : State) (n : Nat) (v : ClaimCount) : (s.setClaimCount n v).pending = s.pending := rfl
@[simp] theorem State.zone_setClaimCount (s : State) (n k : Nat) (v : ClaimCount) : (s.setClaimCount n v).zone k = s.zone k := rfl

/-! ### setGsrc -/

@[simp] theorem State.gsrc_setGsrc (s : State) (n : Nat) (v : GlmSrcState) : (s.setGsrc n v).gsrc n = v := Table.get_set_same _ _ _ _
theorem State.gsrc_setGsrc_other (s : State) (v : GlmSrcState) {n k : Nat} (h : k ≠ n) : (s.setGsrc n v).gsrc k = s.gsrc k := Table.get_set_other _ _ _ h
@[simp] theorem State.updGsrc_eq (s : State) (n : Nat) (f : GlmSrcState → GlmSrcState) : s.updGsrc n f = s.setGsrc n (f (s.gsrc n)) := rfl
@[simp] theorem State.time_setGsrc (s : State) (n : Nat) (v : GlmSrcState) : (s.setGsrc n v).time = s.time := rfl
@[simp] theorem State.cell_setGsrc (s : State) (n : Nat) (v : GlmSrcState) : (s.setGsrc n v).cell = s.cell := rfl
@[simp] theorem State.power_setGsrc (s : State) (n : Nat) (v : GlmSrcState) : (s.setGsrc n v).power = s.power := rfl
@[simp] theorem State.tap_setGsrc (s : State) (n : Nat) (v : GlmSrcState) : (s.setGsrc n v).tap = s.tap := rfl
@[simp] theorem State.kept_setGsrc (s : State) (n : Nat) (v : GlmSrcState) : (s.setGsrc n v).kept = s.kept := rfl
@[simp] theorem State.keptAt_setGsrc (s : State) (n : Nat) (v : GlmSrcState) : (s.setGsrc n v).keptAt = s.keptAt := rfl
@[simp] theorem State.jrnl_setGsrc (s : State) (n : Nat) (v : GlmSrcState) : (s.setGsrc n v).jrnl = s.jrnl := rfl
@[simp] theorem State.host_setGsrc (s : State) (n : Nat) (v : GlmSrcState) : (s.setGsrc n v).host = s.host := rfl
@[simp] theorem State.mbx_setGsrc (s : State) (n : Nat) (v : GlmSrcState) : (s.setGsrc n v).mbx = s.mbx := rfl
@[simp] theorem State.pool_setGsrc (s : State) (n : Nat) (v : GlmSrcState) : (s.setGsrc n v).pool = s.pool := rfl
@[simp] theorem State.chk_setGsrc (s : State) (n : Nat) (v : GlmSrcState) : (s.setGsrc n v).chk = s.chk := rfl
@[simp] theorem State.lathes_setGsrc (s : State) (n : Nat) (v : GlmSrcState) : (s.setGsrc n v).lathes = s.lathes := rfl
@[simp] theorem State.images_setGsrc (s : State) (n : Nat) (v : GlmSrcState) : (s.setGsrc n v).images = s.images := rfl
@[simp] theorem State.ctxs_setGsrc (s : State) (n : Nat) (v : GlmSrcState) : (s.setGsrc n v).ctxs = s.ctxs := rfl
@[simp] theorem State.custKey_setGsrc (s : State) (n : Nat) (v : GlmSrcState) : (s.setGsrc n v).custKey = s.custKey := rfl
@[simp] theorem State.chisels_setGsrc (s : State) (n : Nat) (v : GlmSrcState) : (s.setGsrc n v).chisels = s.chisels := rfl
@[simp] theorem State.cans_setGsrc (s : State) (n : Nat) (v : GlmSrcState) : (s.setGsrc n v).cans = s.cans := rfl
@[simp] theorem State.macs_setGsrc (s : State) (n : Nat) (v : GlmSrcState) : (s.setGsrc n v).macs = s.macs := rfl
@[simp] theorem State.switch_setGsrc (s : State) (n : Nat) (v : GlmSrcState) : (s.setGsrc n v).switch = s.switch := rfl
@[simp] theorem State.wnw_setGsrc (s : State) (n : Nat) (v : GlmSrcState) : (s.setGsrc n v).wnw = s.wnw := rfl
@[simp] theorem State.motion_setGsrc (s : State) (n : Nat) (v : GlmSrcState) : (s.setGsrc n v).motion = s.motion := rfl
@[simp] theorem State.claim_setGsrc (s : State) (n : Nat) (v : GlmSrcState) : (s.setGsrc n v).claim = s.claim := rfl
@[simp] theorem State.fab_setGsrc (s : State) (n : Nat) (v : GlmSrcState) : (s.setGsrc n v).fab = s.fab := rfl
@[simp] theorem State.pair_setGsrc (s : State) (n : Nat) (v : GlmSrcState) : (s.setGsrc n v).pair = s.pair := rfl
@[simp] theorem State.nets_setGsrc (s : State) (n : Nat) (v : GlmSrcState) : (s.setGsrc n v).nets = s.nets := rfl
@[simp] theorem State.rd_setGsrc (s : State) (n : Nat) (v : GlmSrcState) : (s.setGsrc n v).rd = s.rd := rfl
@[simp] theorem State.out_setGsrc (s : State) (n : Nat) (v : GlmSrcState) : (s.setGsrc n v).out = s.out := rfl
@[simp] theorem State.freeCount_setGsrc (s : State) (n : Nat) (v : GlmSrcState) : (s.setGsrc n v).freeCount = s.freeCount := rfl
@[simp] theorem State.pending_setGsrc (s : State) (n : Nat) (v : GlmSrcState) : (s.setGsrc n v).pending = s.pending := rfl
@[simp] theorem State.gunit_setGsrc (s : State) (n k : Nat) (v : GlmSrcState) : (s.setGsrc n v).gunit k = s.gunit k := rfl
@[simp] theorem State.safeIn_setGsrc (s : State) (n k : Nat) (v : GlmSrcState) : (s.setGsrc n v).safeIn k = s.safeIn k := rfl
@[simp] theorem State.safeOut_setGsrc (s : State) (n k : Nat) (v : GlmSrcState) : (s.setGsrc n v).safeOut k = s.safeOut k := rfl

/-! ### setGunit -/

@[simp] theorem State.gunit_setGunit (s : State) (n : Nat) (v : GlmUnit) : (s.setGunit n v).gunit n = v := Table.get_set_same _ _ _ _
theorem State.gunit_setGunit_other (s : State) (v : GlmUnit) {n k : Nat} (h : k ≠ n) : (s.setGunit n v).gunit k = s.gunit k := Table.get_set_other _ _ _ h
@[simp] theorem State.updGunit_eq (s : State) (n : Nat) (f : GlmUnit → GlmUnit) : s.updGunit n f = s.setGunit n (f (s.gunit n)) := rfl
@[simp] theorem State.time_setGunit (s : State) (n : Nat) (v : GlmUnit) : (s.setGunit n v).time = s.time := rfl
@[simp] theorem State.cell_setGunit (s : State) (n : Nat) (v : GlmUnit) : (s.setGunit n v).cell = s.cell := rfl
@[simp] theorem State.power_setGunit (s : State) (n : Nat) (v : GlmUnit) : (s.setGunit n v).power = s.power := rfl
@[simp] theorem State.tap_setGunit (s : State) (n : Nat) (v : GlmUnit) : (s.setGunit n v).tap = s.tap := rfl
@[simp] theorem State.kept_setGunit (s : State) (n : Nat) (v : GlmUnit) : (s.setGunit n v).kept = s.kept := rfl
@[simp] theorem State.keptAt_setGunit (s : State) (n : Nat) (v : GlmUnit) : (s.setGunit n v).keptAt = s.keptAt := rfl
@[simp] theorem State.jrnl_setGunit (s : State) (n : Nat) (v : GlmUnit) : (s.setGunit n v).jrnl = s.jrnl := rfl
@[simp] theorem State.host_setGunit (s : State) (n : Nat) (v : GlmUnit) : (s.setGunit n v).host = s.host := rfl
@[simp] theorem State.mbx_setGunit (s : State) (n : Nat) (v : GlmUnit) : (s.setGunit n v).mbx = s.mbx := rfl
@[simp] theorem State.pool_setGunit (s : State) (n : Nat) (v : GlmUnit) : (s.setGunit n v).pool = s.pool := rfl
@[simp] theorem State.chk_setGunit (s : State) (n : Nat) (v : GlmUnit) : (s.setGunit n v).chk = s.chk := rfl
@[simp] theorem State.lathes_setGunit (s : State) (n : Nat) (v : GlmUnit) : (s.setGunit n v).lathes = s.lathes := rfl
@[simp] theorem State.images_setGunit (s : State) (n : Nat) (v : GlmUnit) : (s.setGunit n v).images = s.images := rfl
@[simp] theorem State.ctxs_setGunit (s : State) (n : Nat) (v : GlmUnit) : (s.setGunit n v).ctxs = s.ctxs := rfl
@[simp] theorem State.custKey_setGunit (s : State) (n : Nat) (v : GlmUnit) : (s.setGunit n v).custKey = s.custKey := rfl
@[simp] theorem State.chisels_setGunit (s : State) (n : Nat) (v : GlmUnit) : (s.setGunit n v).chisels = s.chisels := rfl
@[simp] theorem State.cans_setGunit (s : State) (n : Nat) (v : GlmUnit) : (s.setGunit n v).cans = s.cans := rfl
@[simp] theorem State.macs_setGunit (s : State) (n : Nat) (v : GlmUnit) : (s.setGunit n v).macs = s.macs := rfl
@[simp] theorem State.switch_setGunit (s : State) (n : Nat) (v : GlmUnit) : (s.setGunit n v).switch = s.switch := rfl
@[simp] theorem State.wnw_setGunit (s : State) (n : Nat) (v : GlmUnit) : (s.setGunit n v).wnw = s.wnw := rfl
@[simp] theorem State.motion_setGunit (s : State) (n : Nat) (v : GlmUnit) : (s.setGunit n v).motion = s.motion := rfl
@[simp] theorem State.claim_setGunit (s : State) (n : Nat) (v : GlmUnit) : (s.setGunit n v).claim = s.claim := rfl
@[simp] theorem State.fab_setGunit (s : State) (n : Nat) (v : GlmUnit) : (s.setGunit n v).fab = s.fab := rfl
@[simp] theorem State.pair_setGunit (s : State) (n : Nat) (v : GlmUnit) : (s.setGunit n v).pair = s.pair := rfl
@[simp] theorem State.nets_setGunit (s : State) (n : Nat) (v : GlmUnit) : (s.setGunit n v).nets = s.nets := rfl
@[simp] theorem State.rd_setGunit (s : State) (n : Nat) (v : GlmUnit) : (s.setGunit n v).rd = s.rd := rfl
@[simp] theorem State.out_setGunit (s : State) (n : Nat) (v : GlmUnit) : (s.setGunit n v).out = s.out := rfl
@[simp] theorem State.freeCount_setGunit (s : State) (n : Nat) (v : GlmUnit) : (s.setGunit n v).freeCount = s.freeCount := rfl
@[simp] theorem State.pending_setGunit (s : State) (n : Nat) (v : GlmUnit) : (s.setGunit n v).pending = s.pending := rfl
@[simp] theorem State.gsrc_setGunit (s : State) (n k : Nat) (v : GlmUnit) : (s.setGunit n v).gsrc k = s.gsrc k := rfl
@[simp] theorem State.safeIn_setGunit (s : State) (n k : Nat) (v : GlmUnit) : (s.setGunit n v).safeIn k = s.safeIn k := rfl
@[simp] theorem State.safeOut_setGunit (s : State) (n k : Nat) (v : GlmUnit) : (s.setGunit n v).safeOut k = s.safeOut k := rfl

/-! ### setSafeIn -/

@[simp] theorem State.safeIn_setSafeIn (s : State) (n : Nat) (v : SafeIn) : (s.setSafeIn n v).safeIn n = v := Table.get_set_same _ _ _ _
theorem State.safeIn_setSafeIn_other (s : State) (v : SafeIn) {n k : Nat} (h : k ≠ n) : (s.setSafeIn n v).safeIn k = s.safeIn k := Table.get_set_other _ _ _ h
@[simp] theorem State.updSafeIn_eq (s : State) (n : Nat) (f : SafeIn → SafeIn) : s.updSafeIn n f = s.setSafeIn n (f (s.safeIn n)) := rfl
@[simp] theorem State.time_setSafeIn (s : State) (n : Nat) (v : SafeIn) : (s.setSafeIn n v).time = s.time := rfl
@[simp] theorem State.cell_setSafeIn (s : State) (n : Nat) (v : SafeIn) : (s.setSafeIn n v).cell = s.cell := rfl
@[simp] theorem State.power_setSafeIn (s : State) (n : Nat) (v : SafeIn) : (s.setSafeIn n v).power = s.power := rfl
@[simp] theorem State.tap_setSafeIn (s : State) (n : Nat) (v : SafeIn) : (s.setSafeIn n v).tap = s.tap := rfl
@[simp] theorem State.kept_setSafeIn (s : State) (n : Nat) (v : SafeIn) : (s.setSafeIn n v).kept = s.kept := rfl
@[simp] theorem State.keptAt_setSafeIn (s : State) (n : Nat) (v : SafeIn) : (s.setSafeIn n v).keptAt = s.keptAt := rfl
@[simp] theorem State.jrnl_setSafeIn (s : State) (n : Nat) (v : SafeIn) : (s.setSafeIn n v).jrnl = s.jrnl := rfl
@[simp] theorem State.host_setSafeIn (s : State) (n : Nat) (v : SafeIn) : (s.setSafeIn n v).host = s.host := rfl
@[simp] theorem State.mbx_setSafeIn (s : State) (n : Nat) (v : SafeIn) : (s.setSafeIn n v).mbx = s.mbx := rfl
@[simp] theorem State.pool_setSafeIn (s : State) (n : Nat) (v : SafeIn) : (s.setSafeIn n v).pool = s.pool := rfl
@[simp] theorem State.chk_setSafeIn (s : State) (n : Nat) (v : SafeIn) : (s.setSafeIn n v).chk = s.chk := rfl
@[simp] theorem State.lathes_setSafeIn (s : State) (n : Nat) (v : SafeIn) : (s.setSafeIn n v).lathes = s.lathes := rfl
@[simp] theorem State.images_setSafeIn (s : State) (n : Nat) (v : SafeIn) : (s.setSafeIn n v).images = s.images := rfl
@[simp] theorem State.ctxs_setSafeIn (s : State) (n : Nat) (v : SafeIn) : (s.setSafeIn n v).ctxs = s.ctxs := rfl
@[simp] theorem State.custKey_setSafeIn (s : State) (n : Nat) (v : SafeIn) : (s.setSafeIn n v).custKey = s.custKey := rfl
@[simp] theorem State.chisels_setSafeIn (s : State) (n : Nat) (v : SafeIn) : (s.setSafeIn n v).chisels = s.chisels := rfl
@[simp] theorem State.cans_setSafeIn (s : State) (n : Nat) (v : SafeIn) : (s.setSafeIn n v).cans = s.cans := rfl
@[simp] theorem State.macs_setSafeIn (s : State) (n : Nat) (v : SafeIn) : (s.setSafeIn n v).macs = s.macs := rfl
@[simp] theorem State.switch_setSafeIn (s : State) (n : Nat) (v : SafeIn) : (s.setSafeIn n v).switch = s.switch := rfl
@[simp] theorem State.wnw_setSafeIn (s : State) (n : Nat) (v : SafeIn) : (s.setSafeIn n v).wnw = s.wnw := rfl
@[simp] theorem State.motion_setSafeIn (s : State) (n : Nat) (v : SafeIn) : (s.setSafeIn n v).motion = s.motion := rfl
@[simp] theorem State.claim_setSafeIn (s : State) (n : Nat) (v : SafeIn) : (s.setSafeIn n v).claim = s.claim := rfl
@[simp] theorem State.fab_setSafeIn (s : State) (n : Nat) (v : SafeIn) : (s.setSafeIn n v).fab = s.fab := rfl
@[simp] theorem State.pair_setSafeIn (s : State) (n : Nat) (v : SafeIn) : (s.setSafeIn n v).pair = s.pair := rfl
@[simp] theorem State.nets_setSafeIn (s : State) (n : Nat) (v : SafeIn) : (s.setSafeIn n v).nets = s.nets := rfl
@[simp] theorem State.rd_setSafeIn (s : State) (n : Nat) (v : SafeIn) : (s.setSafeIn n v).rd = s.rd := rfl
@[simp] theorem State.out_setSafeIn (s : State) (n : Nat) (v : SafeIn) : (s.setSafeIn n v).out = s.out := rfl
@[simp] theorem State.freeCount_setSafeIn (s : State) (n : Nat) (v : SafeIn) : (s.setSafeIn n v).freeCount = s.freeCount := rfl
@[simp] theorem State.pending_setSafeIn (s : State) (n : Nat) (v : SafeIn) : (s.setSafeIn n v).pending = s.pending := rfl
@[simp] theorem State.gsrc_setSafeIn (s : State) (n k : Nat) (v : SafeIn) : (s.setSafeIn n v).gsrc k = s.gsrc k := rfl
@[simp] theorem State.gunit_setSafeIn (s : State) (n k : Nat) (v : SafeIn) : (s.setSafeIn n v).gunit k = s.gunit k := rfl
@[simp] theorem State.safeOut_setSafeIn (s : State) (n k : Nat) (v : SafeIn) : (s.setSafeIn n v).safeOut k = s.safeOut k := rfl

/-! ### setSafeOut -/

@[simp] theorem State.safeOut_setSafeOut (s : State) (n : Nat) (v : SafeOut) : (s.setSafeOut n v).safeOut n = v := Table.get_set_same _ _ _ _
theorem State.safeOut_setSafeOut_other (s : State) (v : SafeOut) {n k : Nat} (h : k ≠ n) : (s.setSafeOut n v).safeOut k = s.safeOut k := Table.get_set_other _ _ _ h
@[simp] theorem State.updSafeOut_eq (s : State) (n : Nat) (f : SafeOut → SafeOut) : s.updSafeOut n f = s.setSafeOut n (f (s.safeOut n)) := rfl
@[simp] theorem State.time_setSafeOut (s : State) (n : Nat) (v : SafeOut) : (s.setSafeOut n v).time = s.time := rfl
@[simp] theorem State.cell_setSafeOut (s : State) (n : Nat) (v : SafeOut) : (s.setSafeOut n v).cell = s.cell := rfl
@[simp] theorem State.power_setSafeOut (s : State) (n : Nat) (v : SafeOut) : (s.setSafeOut n v).power = s.power := rfl
@[simp] theorem State.tap_setSafeOut (s : State) (n : Nat) (v : SafeOut) : (s.setSafeOut n v).tap = s.tap := rfl
@[simp] theorem State.kept_setSafeOut (s : State) (n : Nat) (v : SafeOut) : (s.setSafeOut n v).kept = s.kept := rfl
@[simp] theorem State.keptAt_setSafeOut (s : State) (n : Nat) (v : SafeOut) : (s.setSafeOut n v).keptAt = s.keptAt := rfl
@[simp] theorem State.jrnl_setSafeOut (s : State) (n : Nat) (v : SafeOut) : (s.setSafeOut n v).jrnl = s.jrnl := rfl
@[simp] theorem State.host_setSafeOut (s : State) (n : Nat) (v : SafeOut) : (s.setSafeOut n v).host = s.host := rfl
@[simp] theorem State.mbx_setSafeOut (s : State) (n : Nat) (v : SafeOut) : (s.setSafeOut n v).mbx = s.mbx := rfl
@[simp] theorem State.pool_setSafeOut (s : State) (n : Nat) (v : SafeOut) : (s.setSafeOut n v).pool = s.pool := rfl
@[simp] theorem State.chk_setSafeOut (s : State) (n : Nat) (v : SafeOut) : (s.setSafeOut n v).chk = s.chk := rfl
@[simp] theorem State.lathes_setSafeOut (s : State) (n : Nat) (v : SafeOut) : (s.setSafeOut n v).lathes = s.lathes := rfl
@[simp] theorem State.images_setSafeOut (s : State) (n : Nat) (v : SafeOut) : (s.setSafeOut n v).images = s.images := rfl
@[simp] theorem State.ctxs_setSafeOut (s : State) (n : Nat) (v : SafeOut) : (s.setSafeOut n v).ctxs = s.ctxs := rfl
@[simp] theorem State.custKey_setSafeOut (s : State) (n : Nat) (v : SafeOut) : (s.setSafeOut n v).custKey = s.custKey := rfl
@[simp] theorem State.chisels_setSafeOut (s : State) (n : Nat) (v : SafeOut) : (s.setSafeOut n v).chisels = s.chisels := rfl
@[simp] theorem State.cans_setSafeOut (s : State) (n : Nat) (v : SafeOut) : (s.setSafeOut n v).cans = s.cans := rfl
@[simp] theorem State.macs_setSafeOut (s : State) (n : Nat) (v : SafeOut) : (s.setSafeOut n v).macs = s.macs := rfl
@[simp] theorem State.switch_setSafeOut (s : State) (n : Nat) (v : SafeOut) : (s.setSafeOut n v).switch = s.switch := rfl
@[simp] theorem State.wnw_setSafeOut (s : State) (n : Nat) (v : SafeOut) : (s.setSafeOut n v).wnw = s.wnw := rfl
@[simp] theorem State.motion_setSafeOut (s : State) (n : Nat) (v : SafeOut) : (s.setSafeOut n v).motion = s.motion := rfl
@[simp] theorem State.claim_setSafeOut (s : State) (n : Nat) (v : SafeOut) : (s.setSafeOut n v).claim = s.claim := rfl
@[simp] theorem State.fab_setSafeOut (s : State) (n : Nat) (v : SafeOut) : (s.setSafeOut n v).fab = s.fab := rfl
@[simp] theorem State.pair_setSafeOut (s : State) (n : Nat) (v : SafeOut) : (s.setSafeOut n v).pair = s.pair := rfl
@[simp] theorem State.nets_setSafeOut (s : State) (n : Nat) (v : SafeOut) : (s.setSafeOut n v).nets = s.nets := rfl
@[simp] theorem State.rd_setSafeOut (s : State) (n : Nat) (v : SafeOut) : (s.setSafeOut n v).rd = s.rd := rfl
@[simp] theorem State.out_setSafeOut (s : State) (n : Nat) (v : SafeOut) : (s.setSafeOut n v).out = s.out := rfl
@[simp] theorem State.freeCount_setSafeOut (s : State) (n : Nat) (v : SafeOut) : (s.setSafeOut n v).freeCount = s.freeCount := rfl
@[simp] theorem State.pending_setSafeOut (s : State) (n : Nat) (v : SafeOut) : (s.setSafeOut n v).pending = s.pending := rfl
@[simp] theorem State.gsrc_setSafeOut (s : State) (n k : Nat) (v : SafeOut) : (s.setSafeOut n v).gsrc k = s.gsrc k := rfl
@[simp] theorem State.gunit_setSafeOut (s : State) (n k : Nat) (v : SafeOut) : (s.setSafeOut n v).gunit k = s.gunit k := rfl
@[simp] theorem State.safeIn_setSafeOut (s : State) (n k : Nat) (v : SafeOut) : (s.setSafeOut n v).safeIn k = s.safeIn k := rfl

/-! ### setFabPort -/

@[simp] theorem State.fabPort_setFabPort (s : State) (n : Nat) (v : FabPort) : (s.setFabPort n v).fabPort n = v := Table.get_set_same _ _ _ _
theorem State.fabPort_setFabPort_other (s : State) (v : FabPort) {n k : Nat} (h : k ≠ n) : (s.setFabPort n v).fabPort k = s.fabPort k := Table.get_set_other _ _ _ h
@[simp] theorem State.updFabPort_eq (s : State) (n : Nat) (f : FabPort → FabPort) : s.updFabPort n f = s.setFabPort n (f (s.fabPort n)) := rfl
@[simp] theorem State.time_setFabPort (s : State) (n : Nat) (v : FabPort) : (s.setFabPort n v).time = s.time := rfl
@[simp] theorem State.cell_setFabPort (s : State) (n : Nat) (v : FabPort) : (s.setFabPort n v).cell = s.cell := rfl
@[simp] theorem State.power_setFabPort (s : State) (n : Nat) (v : FabPort) : (s.setFabPort n v).power = s.power := rfl
@[simp] theorem State.tap_setFabPort (s : State) (n : Nat) (v : FabPort) : (s.setFabPort n v).tap = s.tap := rfl
@[simp] theorem State.kept_setFabPort (s : State) (n : Nat) (v : FabPort) : (s.setFabPort n v).kept = s.kept := rfl
@[simp] theorem State.keptAt_setFabPort (s : State) (n : Nat) (v : FabPort) : (s.setFabPort n v).keptAt = s.keptAt := rfl
@[simp] theorem State.jrnl_setFabPort (s : State) (n : Nat) (v : FabPort) : (s.setFabPort n v).jrnl = s.jrnl := rfl
@[simp] theorem State.host_setFabPort (s : State) (n : Nat) (v : FabPort) : (s.setFabPort n v).host = s.host := rfl
@[simp] theorem State.mbx_setFabPort (s : State) (n : Nat) (v : FabPort) : (s.setFabPort n v).mbx = s.mbx := rfl
@[simp] theorem State.pool_setFabPort (s : State) (n : Nat) (v : FabPort) : (s.setFabPort n v).pool = s.pool := rfl
@[simp] theorem State.chk_setFabPort (s : State) (n : Nat) (v : FabPort) : (s.setFabPort n v).chk = s.chk := rfl
@[simp] theorem State.lathes_setFabPort (s : State) (n : Nat) (v : FabPort) : (s.setFabPort n v).lathes = s.lathes := rfl
@[simp] theorem State.images_setFabPort (s : State) (n : Nat) (v : FabPort) : (s.setFabPort n v).images = s.images := rfl
@[simp] theorem State.ctxs_setFabPort (s : State) (n : Nat) (v : FabPort) : (s.setFabPort n v).ctxs = s.ctxs := rfl
@[simp] theorem State.custKey_setFabPort (s : State) (n : Nat) (v : FabPort) : (s.setFabPort n v).custKey = s.custKey := rfl
@[simp] theorem State.chisels_setFabPort (s : State) (n : Nat) (v : FabPort) : (s.setFabPort n v).chisels = s.chisels := rfl
@[simp] theorem State.cans_setFabPort (s : State) (n : Nat) (v : FabPort) : (s.setFabPort n v).cans = s.cans := rfl
@[simp] theorem State.macs_setFabPort (s : State) (n : Nat) (v : FabPort) : (s.setFabPort n v).macs = s.macs := rfl
@[simp] theorem State.switch_setFabPort (s : State) (n : Nat) (v : FabPort) : (s.setFabPort n v).switch = s.switch := rfl
@[simp] theorem State.wnw_setFabPort (s : State) (n : Nat) (v : FabPort) : (s.setFabPort n v).wnw = s.wnw := rfl
@[simp] theorem State.motion_setFabPort (s : State) (n : Nat) (v : FabPort) : (s.setFabPort n v).motion = s.motion := rfl
@[simp] theorem State.claim_setFabPort (s : State) (n : Nat) (v : FabPort) : (s.setFabPort n v).claim = s.claim := rfl
@[simp] theorem State.glume_setFabPort (s : State) (n : Nat) (v : FabPort) : (s.setFabPort n v).glume = s.glume := rfl
@[simp] theorem State.pair_setFabPort (s : State) (n : Nat) (v : FabPort) : (s.setFabPort n v).pair = s.pair := rfl
@[simp] theorem State.nets_setFabPort (s : State) (n : Nat) (v : FabPort) : (s.setFabPort n v).nets = s.nets := rfl
@[simp] theorem State.rd_setFabPort (s : State) (n : Nat) (v : FabPort) : (s.setFabPort n v).rd = s.rd := rfl
@[simp] theorem State.out_setFabPort (s : State) (n : Nat) (v : FabPort) : (s.setFabPort n v).out = s.out := rfl
@[simp] theorem State.freeCount_setFabPort (s : State) (n : Nat) (v : FabPort) : (s.setFabPort n v).freeCount = s.freeCount := rfl
@[simp] theorem State.pending_setFabPort (s : State) (n : Nat) (v : FabPort) : (s.setFabPort n v).pending = s.pending := rfl
@[simp] theorem State.fabRing_setFabPort (s : State) (n k : Nat) (v : FabPort) : (s.setFabPort n v).fabRing k = s.fabRing k := rfl
@[simp] theorem State.fabNode_setFabPort (s : State) (n k : Nat) (v : FabPort) : (s.setFabPort n v).fabNode k = s.fabNode k := rfl

/-! ### setFabRing -/

@[simp] theorem State.fabRing_setFabRing (s : State) (n : Nat) (v : FabRing) : (s.setFabRing n v).fabRing n = v := Table.get_set_same _ _ _ _
theorem State.fabRing_setFabRing_other (s : State) (v : FabRing) {n k : Nat} (h : k ≠ n) : (s.setFabRing n v).fabRing k = s.fabRing k := Table.get_set_other _ _ _ h
@[simp] theorem State.updFabRing_eq (s : State) (n : Nat) (f : FabRing → FabRing) : s.updFabRing n f = s.setFabRing n (f (s.fabRing n)) := rfl
@[simp] theorem State.time_setFabRing (s : State) (n : Nat) (v : FabRing) : (s.setFabRing n v).time = s.time := rfl
@[simp] theorem State.cell_setFabRing (s : State) (n : Nat) (v : FabRing) : (s.setFabRing n v).cell = s.cell := rfl
@[simp] theorem State.power_setFabRing (s : State) (n : Nat) (v : FabRing) : (s.setFabRing n v).power = s.power := rfl
@[simp] theorem State.tap_setFabRing (s : State) (n : Nat) (v : FabRing) : (s.setFabRing n v).tap = s.tap := rfl
@[simp] theorem State.kept_setFabRing (s : State) (n : Nat) (v : FabRing) : (s.setFabRing n v).kept = s.kept := rfl
@[simp] theorem State.keptAt_setFabRing (s : State) (n : Nat) (v : FabRing) : (s.setFabRing n v).keptAt = s.keptAt := rfl
@[simp] theorem State.jrnl_setFabRing (s : State) (n : Nat) (v : FabRing) : (s.setFabRing n v).jrnl = s.jrnl := rfl
@[simp] theorem State.host_setFabRing (s : State) (n : Nat) (v : FabRing) : (s.setFabRing n v).host = s.host := rfl
@[simp] theorem State.mbx_setFabRing (s : State) (n : Nat) (v : FabRing) : (s.setFabRing n v).mbx = s.mbx := rfl
@[simp] theorem State.pool_setFabRing (s : State) (n : Nat) (v : FabRing) : (s.setFabRing n v).pool = s.pool := rfl
@[simp] theorem State.chk_setFabRing (s : State) (n : Nat) (v : FabRing) : (s.setFabRing n v).chk = s.chk := rfl
@[simp] theorem State.lathes_setFabRing (s : State) (n : Nat) (v : FabRing) : (s.setFabRing n v).lathes = s.lathes := rfl
@[simp] theorem State.images_setFabRing (s : State) (n : Nat) (v : FabRing) : (s.setFabRing n v).images = s.images := rfl
@[simp] theorem State.ctxs_setFabRing (s : State) (n : Nat) (v : FabRing) : (s.setFabRing n v).ctxs = s.ctxs := rfl
@[simp] theorem State.custKey_setFabRing (s : State) (n : Nat) (v : FabRing) : (s.setFabRing n v).custKey = s.custKey := rfl
@[simp] theorem State.chisels_setFabRing (s : State) (n : Nat) (v : FabRing) : (s.setFabRing n v).chisels = s.chisels := rfl
@[simp] theorem State.cans_setFabRing (s : State) (n : Nat) (v : FabRing) : (s.setFabRing n v).cans = s.cans := rfl
@[simp] theorem State.macs_setFabRing (s : State) (n : Nat) (v : FabRing) : (s.setFabRing n v).macs = s.macs := rfl
@[simp] theorem State.switch_setFabRing (s : State) (n : Nat) (v : FabRing) : (s.setFabRing n v).switch = s.switch := rfl
@[simp] theorem State.wnw_setFabRing (s : State) (n : Nat) (v : FabRing) : (s.setFabRing n v).wnw = s.wnw := rfl
@[simp] theorem State.motion_setFabRing (s : State) (n : Nat) (v : FabRing) : (s.setFabRing n v).motion = s.motion := rfl
@[simp] theorem State.claim_setFabRing (s : State) (n : Nat) (v : FabRing) : (s.setFabRing n v).claim = s.claim := rfl
@[simp] theorem State.glume_setFabRing (s : State) (n : Nat) (v : FabRing) : (s.setFabRing n v).glume = s.glume := rfl
@[simp] theorem State.pair_setFabRing (s : State) (n : Nat) (v : FabRing) : (s.setFabRing n v).pair = s.pair := rfl
@[simp] theorem State.nets_setFabRing (s : State) (n : Nat) (v : FabRing) : (s.setFabRing n v).nets = s.nets := rfl
@[simp] theorem State.rd_setFabRing (s : State) (n : Nat) (v : FabRing) : (s.setFabRing n v).rd = s.rd := rfl
@[simp] theorem State.out_setFabRing (s : State) (n : Nat) (v : FabRing) : (s.setFabRing n v).out = s.out := rfl
@[simp] theorem State.freeCount_setFabRing (s : State) (n : Nat) (v : FabRing) : (s.setFabRing n v).freeCount = s.freeCount := rfl
@[simp] theorem State.pending_setFabRing (s : State) (n : Nat) (v : FabRing) : (s.setFabRing n v).pending = s.pending := rfl
@[simp] theorem State.fabPort_setFabRing (s : State) (n k : Nat) (v : FabRing) : (s.setFabRing n v).fabPort k = s.fabPort k := rfl
@[simp] theorem State.fabNode_setFabRing (s : State) (n k : Nat) (v : FabRing) : (s.setFabRing n v).fabNode k = s.fabNode k := rfl

/-! ### setFabNode -/

@[simp] theorem State.fabNode_setFabNode (s : State) (n : Nat) (v : FabMember) : (s.setFabNode n v).fabNode n = v := Table.get_set_same _ _ _ _
theorem State.fabNode_setFabNode_other (s : State) (v : FabMember) {n k : Nat} (h : k ≠ n) : (s.setFabNode n v).fabNode k = s.fabNode k := Table.get_set_other _ _ _ h
@[simp] theorem State.updFabNode_eq (s : State) (n : Nat) (f : FabMember → FabMember) : s.updFabNode n f = s.setFabNode n (f (s.fabNode n)) := rfl
@[simp] theorem State.time_setFabNode (s : State) (n : Nat) (v : FabMember) : (s.setFabNode n v).time = s.time := rfl
@[simp] theorem State.cell_setFabNode (s : State) (n : Nat) (v : FabMember) : (s.setFabNode n v).cell = s.cell := rfl
@[simp] theorem State.power_setFabNode (s : State) (n : Nat) (v : FabMember) : (s.setFabNode n v).power = s.power := rfl
@[simp] theorem State.tap_setFabNode (s : State) (n : Nat) (v : FabMember) : (s.setFabNode n v).tap = s.tap := rfl
@[simp] theorem State.kept_setFabNode (s : State) (n : Nat) (v : FabMember) : (s.setFabNode n v).kept = s.kept := rfl
@[simp] theorem State.keptAt_setFabNode (s : State) (n : Nat) (v : FabMember) : (s.setFabNode n v).keptAt = s.keptAt := rfl
@[simp] theorem State.jrnl_setFabNode (s : State) (n : Nat) (v : FabMember) : (s.setFabNode n v).jrnl = s.jrnl := rfl
@[simp] theorem State.host_setFabNode (s : State) (n : Nat) (v : FabMember) : (s.setFabNode n v).host = s.host := rfl
@[simp] theorem State.mbx_setFabNode (s : State) (n : Nat) (v : FabMember) : (s.setFabNode n v).mbx = s.mbx := rfl
@[simp] theorem State.pool_setFabNode (s : State) (n : Nat) (v : FabMember) : (s.setFabNode n v).pool = s.pool := rfl
@[simp] theorem State.chk_setFabNode (s : State) (n : Nat) (v : FabMember) : (s.setFabNode n v).chk = s.chk := rfl
@[simp] theorem State.lathes_setFabNode (s : State) (n : Nat) (v : FabMember) : (s.setFabNode n v).lathes = s.lathes := rfl
@[simp] theorem State.images_setFabNode (s : State) (n : Nat) (v : FabMember) : (s.setFabNode n v).images = s.images := rfl
@[simp] theorem State.ctxs_setFabNode (s : State) (n : Nat) (v : FabMember) : (s.setFabNode n v).ctxs = s.ctxs := rfl
@[simp] theorem State.custKey_setFabNode (s : State) (n : Nat) (v : FabMember) : (s.setFabNode n v).custKey = s.custKey := rfl
@[simp] theorem State.chisels_setFabNode (s : State) (n : Nat) (v : FabMember) : (s.setFabNode n v).chisels = s.chisels := rfl
@[simp] theorem State.cans_setFabNode (s : State) (n : Nat) (v : FabMember) : (s.setFabNode n v).cans = s.cans := rfl
@[simp] theorem State.macs_setFabNode (s : State) (n : Nat) (v : FabMember) : (s.setFabNode n v).macs = s.macs := rfl
@[simp] theorem State.switch_setFabNode (s : State) (n : Nat) (v : FabMember) : (s.setFabNode n v).switch = s.switch := rfl
@[simp] theorem State.wnw_setFabNode (s : State) (n : Nat) (v : FabMember) : (s.setFabNode n v).wnw = s.wnw := rfl
@[simp] theorem State.motion_setFabNode (s : State) (n : Nat) (v : FabMember) : (s.setFabNode n v).motion = s.motion := rfl
@[simp] theorem State.claim_setFabNode (s : State) (n : Nat) (v : FabMember) : (s.setFabNode n v).claim = s.claim := rfl
@[simp] theorem State.glume_setFabNode (s : State) (n : Nat) (v : FabMember) : (s.setFabNode n v).glume = s.glume := rfl
@[simp] theorem State.pair_setFabNode (s : State) (n : Nat) (v : FabMember) : (s.setFabNode n v).pair = s.pair := rfl
@[simp] theorem State.nets_setFabNode (s : State) (n : Nat) (v : FabMember) : (s.setFabNode n v).nets = s.nets := rfl
@[simp] theorem State.rd_setFabNode (s : State) (n : Nat) (v : FabMember) : (s.setFabNode n v).rd = s.rd := rfl
@[simp] theorem State.out_setFabNode (s : State) (n : Nat) (v : FabMember) : (s.setFabNode n v).out = s.out := rfl
@[simp] theorem State.freeCount_setFabNode (s : State) (n : Nat) (v : FabMember) : (s.setFabNode n v).freeCount = s.freeCount := rfl
@[simp] theorem State.pending_setFabNode (s : State) (n : Nat) (v : FabMember) : (s.setFabNode n v).pending = s.pending := rfl
@[simp] theorem State.fabPort_setFabNode (s : State) (n k : Nat) (v : FabMember) : (s.setFabNode n v).fabPort k = s.fabPort k := rfl
@[simp] theorem State.fabRing_setFabNode (s : State) (n k : Nat) (v : FabMember) : (s.setFabNode n v).fabRing k = s.fabRing k := rfl

/-! ### send -/

@[simp] theorem State.time_send (s : State) (x : Out) : (s.send x).time = s.time := rfl
@[simp] theorem State.cell_send (s : State) (x : Out) : (s.send x).cell = s.cell := rfl
@[simp] theorem State.power_send (s : State) (x : Out) : (s.send x).power = s.power := rfl
@[simp] theorem State.tap_send (s : State) (x : Out) : (s.send x).tap = s.tap := rfl
@[simp] theorem State.kept_send (s : State) (x : Out) : (s.send x).kept = s.kept := rfl
@[simp] theorem State.keptAt_send (s : State) (x : Out) : (s.send x).keptAt = s.keptAt := rfl
@[simp] theorem State.jrnl_send (s : State) (x : Out) : (s.send x).jrnl = s.jrnl := rfl
@[simp] theorem State.host_send (s : State) (x : Out) : (s.send x).host = s.host := rfl
@[simp] theorem State.mbx_send (s : State) (x : Out) : (s.send x).mbx = s.mbx := rfl
@[simp] theorem State.pool_send (s : State) (x : Out) : (s.send x).pool = s.pool := rfl
@[simp] theorem State.chk_send (s : State) (x : Out) : (s.send x).chk = s.chk := rfl
@[simp] theorem State.lathes_send (s : State) (x : Out) : (s.send x).lathes = s.lathes := rfl
@[simp] theorem State.images_send (s : State) (x : Out) : (s.send x).images = s.images := rfl
@[simp] theorem State.ctxs_send (s : State) (x : Out) : (s.send x).ctxs = s.ctxs := rfl
@[simp] theorem State.custKey_send (s : State) (x : Out) : (s.send x).custKey = s.custKey := rfl
@[simp] theorem State.chisels_send (s : State) (x : Out) : (s.send x).chisels = s.chisels := rfl
@[simp] theorem State.cans_send (s : State) (x : Out) : (s.send x).cans = s.cans := rfl
@[simp] theorem State.macs_send (s : State) (x : Out) : (s.send x).macs = s.macs := rfl
@[simp] theorem State.switch_send (s : State) (x : Out) : (s.send x).switch = s.switch := rfl
@[simp] theorem State.wnw_send (s : State) (x : Out) : (s.send x).wnw = s.wnw := rfl
@[simp] theorem State.motion_send (s : State) (x : Out) : (s.send x).motion = s.motion := rfl
@[simp] theorem State.claim_send (s : State) (x : Out) : (s.send x).claim = s.claim := rfl
@[simp] theorem State.glume_send (s : State) (x : Out) : (s.send x).glume = s.glume := rfl
@[simp] theorem State.fab_send (s : State) (x : Out) : (s.send x).fab = s.fab := rfl
@[simp] theorem State.pair_send (s : State) (x : Out) : (s.send x).pair = s.pair := rfl
@[simp] theorem State.nets_send (s : State) (x : Out) : (s.send x).nets = s.nets := rfl
@[simp] theorem State.rd_send (s : State) (x : Out) : (s.send x).rd = s.rd := rfl
@[simp] theorem State.freeCount_send (s : State) (x : Out) : (s.send x).freeCount = s.freeCount := rfl
@[simp] theorem State.pending_send (s : State) (x : Out) : (s.send x).pending = s.pending := rfl

/-! ### returns -/

@[simp] theorem State.time_returns (s : State) (v : Nat) : (s.returns v).time = s.time := rfl
@[simp] theorem State.cell_returns (s : State) (v : Nat) : (s.returns v).cell = s.cell := rfl
@[simp] theorem State.power_returns (s : State) (v : Nat) : (s.returns v).power = s.power := rfl
@[simp] theorem State.tap_returns (s : State) (v : Nat) : (s.returns v).tap = s.tap := rfl
@[simp] theorem State.kept_returns (s : State) (v : Nat) : (s.returns v).kept = s.kept := rfl
@[simp] theorem State.keptAt_returns (s : State) (v : Nat) : (s.returns v).keptAt = s.keptAt := rfl
@[simp] theorem State.jrnl_returns (s : State) (v : Nat) : (s.returns v).jrnl = s.jrnl := rfl
@[simp] theorem State.host_returns (s : State) (v : Nat) : (s.returns v).host = s.host := rfl
@[simp] theorem State.mbx_returns (s : State) (v : Nat) : (s.returns v).mbx = s.mbx := rfl
@[simp] theorem State.pool_returns (s : State) (v : Nat) : (s.returns v).pool = s.pool := rfl
@[simp] theorem State.chk_returns (s : State) (v : Nat) : (s.returns v).chk = s.chk := rfl
@[simp] theorem State.lathes_returns (s : State) (v : Nat) : (s.returns v).lathes = s.lathes := rfl
@[simp] theorem State.images_returns (s : State) (v : Nat) : (s.returns v).images = s.images := rfl
@[simp] theorem State.ctxs_returns (s : State) (v : Nat) : (s.returns v).ctxs = s.ctxs := rfl
@[simp] theorem State.custKey_returns (s : State) (v : Nat) : (s.returns v).custKey = s.custKey := rfl
@[simp] theorem State.chisels_returns (s : State) (v : Nat) : (s.returns v).chisels = s.chisels := rfl
@[simp] theorem State.cans_returns (s : State) (v : Nat) : (s.returns v).cans = s.cans := rfl
@[simp] theorem State.macs_returns (s : State) (v : Nat) : (s.returns v).macs = s.macs := rfl
@[simp] theorem State.switch_returns (s : State) (v : Nat) : (s.returns v).switch = s.switch := rfl
@[simp] theorem State.wnw_returns (s : State) (v : Nat) : (s.returns v).wnw = s.wnw := rfl
@[simp] theorem State.motion_returns (s : State) (v : Nat) : (s.returns v).motion = s.motion := rfl
@[simp] theorem State.claim_returns (s : State) (v : Nat) : (s.returns v).claim = s.claim := rfl
@[simp] theorem State.glume_returns (s : State) (v : Nat) : (s.returns v).glume = s.glume := rfl
@[simp] theorem State.fab_returns (s : State) (v : Nat) : (s.returns v).fab = s.fab := rfl
@[simp] theorem State.pair_returns (s : State) (v : Nat) : (s.returns v).pair = s.pair := rfl
@[simp] theorem State.nets_returns (s : State) (v : Nat) : (s.returns v).nets = s.nets := rfl
@[simp] theorem State.out_returns (s : State) (v : Nat) : (s.returns v).out = s.out := rfl
@[simp] theorem State.freeCount_returns (s : State) (v : Nat) : (s.returns v).freeCount = s.freeCount := rfl
@[simp] theorem State.pending_returns (s : State) (v : Nat) : (s.returns v).pending = s.pending := rfl

/-! ### answer -/

@[simp] theorem State.time_answer (s : State) (h : Hdr) (code : Nat) (a : List Byte) (r : Reply) : (s.answer h code a r).time = s.time := rfl
@[simp] theorem State.cell_answer (s : State) (h : Hdr) (code : Nat) (a : List Byte) (r : Reply) : (s.answer h code a r).cell = s.cell := rfl
@[simp] theorem State.power_answer (s : State) (h : Hdr) (code : Nat) (a : List Byte) (r : Reply) : (s.answer h code a r).power = s.power := rfl
@[simp] theorem State.tap_answer (s : State) (h : Hdr) (code : Nat) (a : List Byte) (r : Reply) : (s.answer h code a r).tap = s.tap := rfl
@[simp] theorem State.kept_answer (s : State) (h : Hdr) (code : Nat) (a : List Byte) (r : Reply) : (s.answer h code a r).kept = s.kept := rfl
@[simp] theorem State.keptAt_answer (s : State) (h : Hdr) (code : Nat) (a : List Byte) (r : Reply) : (s.answer h code a r).keptAt = s.keptAt := rfl
@[simp] theorem State.jrnl_answer (s : State) (h : Hdr) (code : Nat) (a : List Byte) (r : Reply) : (s.answer h code a r).jrnl = s.jrnl := rfl
@[simp] theorem State.mbx_answer (s : State) (h : Hdr) (code : Nat) (a : List Byte) (r : Reply) : (s.answer h code a r).mbx = s.mbx := rfl
@[simp] theorem State.pool_answer (s : State) (h : Hdr) (code : Nat) (a : List Byte) (r : Reply) : (s.answer h code a r).pool = s.pool := rfl
@[simp] theorem State.chk_answer (s : State) (h : Hdr) (code : Nat) (a : List Byte) (r : Reply) : (s.answer h code a r).chk = s.chk := rfl
@[simp] theorem State.lathes_answer (s : State) (h : Hdr) (code : Nat) (a : List Byte) (r : Reply) : (s.answer h code a r).lathes = s.lathes := rfl
@[simp] theorem State.images_answer (s : State) (h : Hdr) (code : Nat) (a : List Byte) (r : Reply) : (s.answer h code a r).images = s.images := rfl
@[simp] theorem State.ctxs_answer (s : State) (h : Hdr) (code : Nat) (a : List Byte) (r : Reply) : (s.answer h code a r).ctxs = s.ctxs := rfl
@[simp] theorem State.custKey_answer (s : State) (h : Hdr) (code : Nat) (a : List Byte) (r : Reply) : (s.answer h code a r).custKey = s.custKey := rfl
@[simp] theorem State.chisels_answer (s : State) (h : Hdr) (code : Nat) (a : List Byte) (r : Reply) : (s.answer h code a r).chisels = s.chisels := rfl
@[simp] theorem State.cans_answer (s : State) (h : Hdr) (code : Nat) (a : List Byte) (r : Reply) : (s.answer h code a r).cans = s.cans := rfl
@[simp] theorem State.macs_answer (s : State) (h : Hdr) (code : Nat) (a : List Byte) (r : Reply) : (s.answer h code a r).macs = s.macs := rfl
@[simp] theorem State.switch_answer (s : State) (h : Hdr) (code : Nat) (a : List Byte) (r : Reply) : (s.answer h code a r).switch = s.switch := rfl
@[simp] theorem State.wnw_answer (s : State) (h : Hdr) (code : Nat) (a : List Byte) (r : Reply) : (s.answer h code a r).wnw = s.wnw := rfl
@[simp] theorem State.motion_answer (s : State) (h : Hdr) (code : Nat) (a : List Byte) (r : Reply) : (s.answer h code a r).motion = s.motion := rfl
@[simp] theorem State.claim_answer (s : State) (h : Hdr) (code : Nat) (a : List Byte) (r : Reply) : (s.answer h code a r).claim = s.claim := rfl
@[simp] theorem State.glume_answer (s : State) (h : Hdr) (code : Nat) (a : List Byte) (r : Reply) : (s.answer h code a r).glume = s.glume := rfl
@[simp] theorem State.fab_answer (s : State) (h : Hdr) (code : Nat) (a : List Byte) (r : Reply) : (s.answer h code a r).fab = s.fab := rfl
@[simp] theorem State.pair_answer (s : State) (h : Hdr) (code : Nat) (a : List Byte) (r : Reply) : (s.answer h code a r).pair = s.pair := rfl
@[simp] theorem State.nets_answer (s : State) (h : Hdr) (code : Nat) (a : List Byte) (r : Reply) : (s.answer h code a r).nets = s.nets := rfl
@[simp] theorem State.rd_answer (s : State) (h : Hdr) (code : Nat) (a : List Byte) (r : Reply) : (s.answer h code a r).rd = s.rd := rfl
@[simp] theorem State.out_answer (s : State) (h : Hdr) (code : Nat) (a : List Byte) (r : Reply) : (s.answer h code a r).out = s.out := rfl
@[simp] theorem State.freeCount_answer (s : State) (h : Hdr) (code : Nat) (a : List Byte) (r : Reply) : (s.answer h code a r).freeCount = s.freeCount := rfl
@[simp] theorem State.pending_answer (s : State) (h : Hdr) (code : Nat) (a : List Byte) (r : Reply) : (s.answer h code a r).pending = s.pending := rfl

@[simp] theorem State.out_send (s : State) (x : Out) : (s.send x).out = s.out ++ [x] := rfl
@[simp] theorem State.rd_returns (s : State) (v : Nat) : (s.returns v).rd = v := rfl

@[simp] theorem State.base_answer (s : State) (h : Hdr) (code : Nat) (a : List Byte) (r : Reply) (k : Nat) : (s.answer h code a r).base k = s.base k := rfl
@[simp] theorem State.latch_answer (s : State) (h : Hdr) (code : Nat) (a : List Byte) (r : Reply) (k : Nat) : (s.answer h code a r).latch k = s.latch k := rfl
@[simp] theorem State.cmp_answer (s : State) (h : Hdr) (code : Nat) (a : List Byte) (r : Reply) (k : Nat) : (s.answer h code a r).cmp k = s.cmp k := rfl
@[simp] theorem State.cap_answer (s : State) (h : Hdr) (code : Nat) (a : List Byte) (r : Reply) (k : Nat) : (s.answer h code a r).cap k = s.cap k := rfl
@[simp] theorem State.tsIns_answer (s : State) (h : Hdr) (code : Nat) (a : List Byte) (r : Reply) (k : Nat) : (s.answer h code a r).tsIns k = s.tsIns k := rfl
@[simp] theorem State.chan_answer (s : State) (h : Hdr) (code : Nat) (a : List Byte) (r : Reply) (k : Nat) : (s.answer h code a r).chan k = s.chan k := rfl
@[simp] theorem State.bells_answer (s : State) (h : Hdr) (code : Nat) (a : List Byte) (r : Reply) (k : Nat) : (s.answer h code a r).bells k = s.bells k := rfl
@[simp] theorem State.bank_answer (s : State) (h : Hdr) (code : Nat) (a : List Byte) (r : Reply) (k : Nat) : (s.answer h code a r).bank k = s.bank k := rfl
@[simp] theorem State.chkUnit_answer (s : State) (h : Hdr) (code : Nat) (a : List Byte) (r : Reply) (k : Nat) : (s.answer h code a r).chkUnit k = s.chkUnit k := rfl
@[simp] theorem State.lathe_answer (s : State) (h : Hdr) (code : Nat) (a : List Byte) (r : Reply) (k : Nat) : (s.answer h code a r).lathe k = s.lathe k := rfl
@[simp] theorem State.image_answer (s : State) (h : Hdr) (code : Nat) (a : List Byte) (r : Reply) (k : Nat) : (s.answer h code a r).image k = s.image k := rfl
@[simp] theorem State.ctx_answer (s : State) (h : Hdr) (code : Nat) (a : List Byte) (r : Reply) (k : Nat) : (s.answer h code a r).ctx k = s.ctx k := rfl
@[simp] theorem State.chisel_answer (s : State) (h : Hdr) (code : Nat) (a : List Byte) (r : Reply) (k : Nat) : (s.answer h code a r).chisel k = s.chisel k := rfl
@[simp] theorem State.can_answer (s : State) (h : Hdr) (code : Nat) (a : List Byte) (r : Reply) (k : Nat) : (s.answer h code a r).can k = s.can k := rfl
@[simp] theorem State.mac_answer (s : State) (h : Hdr) (code : Nat) (a : List Byte) (r : Reply) (k : Nat) : (s.answer h code a r).mac k = s.mac k := rfl
@[simp] theorem State.swRing_answer (s : State) (h : Hdr) (code : Nat) (a : List Byte) (r : Reply) (k : Nat) : (s.answer h code a r).swRing k = s.swRing k := rfl
@[simp] theorem State.mirror_answer (s : State) (h : Hdr) (code : Nat) (a : List Byte) (r : Reply) (k : Nat) : (s.answer h code a r).mirror k = s.mirror k := rfl
@[simp] theorem State.net_answer (s : State) (h : Hdr) (code : Nat) (a : List Byte) (r : Reply) (k : Nat) : (s.answer h code a r).net k = s.net k := rfl
@[simp] theorem State.scrub_answer (s : State) (h : Hdr) (code : Nat) (a : List Byte) (r : Reply) (k : Nat) : (s.answer h code a r).scrub k = s.scrub k := rfl
@[simp] theorem State.calib_answer (s : State) (h : Hdr) (code : Nat) (a : List Byte) (r : Reply) (k : Nat) : (s.answer h code a r).calib k = s.calib k := rfl
@[simp] theorem State.axis_answer (s : State) (h : Hdr) (code : Nat) (a : List Byte) (r : Reply) (k : Nat) : (s.answer h code a r).axis k = s.axis k := rfl
@[simp] theorem State.arm_answer (s : State) (h : Hdr) (code : Nat) (a : List Byte) (r : Reply) (k : Nat) : (s.answer h code a r).arm k = s.arm k := rfl
@[simp] theorem State.cam_answer (s : State) (h : Hdr) (code : Nat) (a : List Byte) (r : Reply) (k : Nat) : (s.answer h code a r).cam k = s.cam k := rfl
@[simp] theorem State.tiller_answer (s : State) (h : Hdr) (code : Nat) (a : List Byte) (r : Reply) (k : Nat) : (s.answer h code a r).tiller k = s.tiller k := rfl
@[simp] theorem State.adc_answer (s : State) (h : Hdr) (code : Nat) (a : List Byte) (r : Reply) (k : Nat) : (s.answer h code a r).adc k = s.adc k := rfl
@[simp] theorem State.gpio_answer (s : State) (h : Hdr) (code : Nat) (a : List Byte) (r : Reply) (k : Nat) : (s.answer h code a r).gpio k = s.gpio k := rfl
@[simp] theorem State.zone_answer (s : State) (h : Hdr) (code : Nat) (a : List Byte) (r : Reply) (k : Nat) : (s.answer h code a r).zone k = s.zone k := rfl
@[simp] theorem State.claimCount_answer (s : State) (h : Hdr) (code : Nat) (a : List Byte) (r : Reply) (k : Nat) : (s.answer h code a r).claimCount k = s.claimCount k := rfl
@[simp] theorem State.gsrc_answer (s : State) (h : Hdr) (code : Nat) (a : List Byte) (r : Reply) (k : Nat) : (s.answer h code a r).gsrc k = s.gsrc k := rfl
@[simp] theorem State.gunit_answer (s : State) (h : Hdr) (code : Nat) (a : List Byte) (r : Reply) (k : Nat) : (s.answer h code a r).gunit k = s.gunit k := rfl
@[simp] theorem State.safeIn_answer (s : State) (h : Hdr) (code : Nat) (a : List Byte) (r : Reply) (k : Nat) : (s.answer h code a r).safeIn k = s.safeIn k := rfl
@[simp] theorem State.safeOut_answer (s : State) (h : Hdr) (code : Nat) (a : List Byte) (r : Reply) (k : Nat) : (s.answer h code a r).safeOut k = s.safeOut k := rfl
@[simp] theorem State.fabPort_answer (s : State) (h : Hdr) (code : Nat) (a : List Byte) (r : Reply) (k : Nat) : (s.answer h code a r).fabPort k = s.fabPort k := rfl
@[simp] theorem State.fabRing_answer (s : State) (h : Hdr) (code : Nat) (a : List Byte) (r : Reply) (k : Nat) : (s.answer h code a r).fabRing k = s.fabRing k := rfl
@[simp] theorem State.fabNode_answer (s : State) (h : Hdr) (code : Nat) (a : List Byte) (r : Reply) (k : Nat) : (s.answer h code a r).fabNode k = s.fabNode k := rfl

end Sys2Proof.Machine
end

