-- ==== Sys2Proof/Laws/Ops.lean ====
section
/-! SUPPORT. What each shared operation does, said once: the tests and the reply of a host command, a step on a unit, and how
completions and frames compose. -/

namespace Sys2Proof.Machine

variable {s t u : State}

/-- Tests that all pass leave the command's effect. -/
theorem tested_pass {ts : List Test} {k : State × Reply} (h : Passes ts) : tested s ts k = k := by
  unfold tested
  have e : ts.find? (fun t => t.1) = none := by
    rw [List.find?_eq_none]
    intro x hx
    have := List.all_eq_true.mp h x hx
    simpa using this
  rw [e]

/-- The first test that fails gives the reply, and nothing changes. -/
theorem tested_fail {ts us : List Test} {c d : Nat} {k : State × Reply} (h : Passes ts) :
    tested s (ts ++ (true, c, d) :: us) k = (s, { status := c, detail := d }) := by
  unfold tested
  have e : ts.find? (fun t => t.1) = none := by
    rw [List.find?_eq_none]
    intro x hx
    have := List.all_eq_true.mp h x hx
    simpa using this
  rw [List.find?_append, e]
  rfl

/-- A host command that passes every test answers with its effect. -/
theorem commitHost_of {code : Nat} {run : Hdr → List Byte → State → State × Reply} {h : Hdr} {a : List Byte} {r : Reply}
    (e : run h a s = (t, r)) : commitHost code run h a s = .next (t.answer h code a r) := by
  unfold commitHost
  rw [e]

@[simp] theorem lastReply_answer (s : State) (h : Hdr) (code : Nat) (a : List Byte) (r : Reply) :
    (s.answer h code a r).lastReply = some r := by
  simp [State.lastReply, State.answer]

theorem onUnit_next {n l : Nat} (h : n < l) : onUnit n l s = .next s := by simp [onUnit, h]

theorem onUnit_fault {n l : Nat} (h : l ≤ n) : onUnit n l s = .fault (.noSuchUnit n) := by
  simp [onUnit, Nat.not_lt.mpr h]

theorem Touches.refl (ps : List Part) (s : State) : Touches ps s s := fun p _ => Same.rfl_ p s

theorem Touches.trans {ps : List Part} (h : Touches ps s t) (k : Touches ps t u) : Touches ps s u :=
  fun p hp => (h p hp).trans (k p hp)

theorem Touches.mono {ps qs : List Part} (h : Touches ps s t) (hs : ∀ p ∈ ps, p ∈ qs) : Touches qs s t :=
  fun p hp => h p (fun hq => hp (hs p hq))

/-- An answer changes the port interface alone. -/
theorem answer_touches (s : State) (h : Hdr) (code : Nat) (a : List Byte) (r : Reply) : Touches [.host] s (s.answer h code a r) := by
  intro p hp
  cases p <;> first | rfl | exact absurd (List.mem_cons_self) hp | exact fun h => h | exact Nat.le_refl _

end Sys2Proof.Machine
end

