-- ==== Sys2Proof/Laws/Host.lean ====
section
/-! SUPPORT. How a host command meets its statement: its meaning is its tests and then its effect. -/

namespace Sys2Proof.Machine

variable {i : Hdr → List Byte → Instr} {code : Nat} {run : Hdr → List Byte → State → State × Reply}
  {needs : Hdr → List Byte → State → List Test} {P : Hdr → List Byte → State → State → Reply → Prop}

/-- A meaning that runs the tests and then an effect with `P`. -/
theorem hostRow_of (hi : ∀ h a s, exec (i h a) s = commitHost code run h a s)
    (hr : ∀ h a s, ∃ n k, run h a s = tested { s with freeCount := n } (needs h a s) k ∧ (Passes (needs h a s) → P h a s k.1 k.2)) :
    HostRow i code needs P := by
  refine ⟨fun h a s hp => ?_, fun h a s pre c d post he hp => ?_⟩
  · obtain ⟨n, k, e, hk⟩ := hr h a s
    rw [tested_pass hp] at e
    exact ⟨k.1, k.2, (hi h a s).trans (commitHost_of e), hk hp⟩
  · obtain ⟨n, k, e, -⟩ := hr h a s
    rw [he, tested_fail hp] at e
    exact ⟨n, (hi h a s).trans (commitHost_of e)⟩

/-- A meaning that runs the tests and then returns data. -/
theorem reads_of {data : Hdr → List Byte → State → List Byte} (hi : ∀ h a s, exec (i h a) s = commitHost code run h a s)
    (hr : ∀ h a s, run h a s = tested s (needs h a s) (dataReply s (data h a s))) : Reads i code needs data :=
  hostRow_of hi (fun h a s => ⟨s.freeCount, _, hr h a s, fun _ => ⟨rfl, rfl⟩⟩)

/-- A meaning that runs the tests and then takes effect. -/
theorem sets_of {effect : Hdr → List Byte → State → State} (hi : ∀ h a s, exec (i h a) s = commitHost code run h a s)
    (hr : ∀ h a s, run h a s = tested s (needs h a s) (okReply (effect h a s))) : Sets i code needs effect :=
  hostRow_of hi (fun h a s => ⟨s.freeCount, _, hr h a s, fun _ => ⟨rfl, rfl⟩⟩)

end Sys2Proof.Machine
end

