-- ==== Sys2Proof/Laws/Lathe.lean ====
section
/-! SUPPORT. What an instruction of a Lathe does when its level is ready for it: the frame of a level's update, and the instructions
whose body only updates their level. -/

namespace Sys2Proof.Machine

@[simp] theorem Lathe.level_setLevel (l : Lathe) (v : Nat) (x : LthLevel) : (l.setLevel v x).level v = x := by
  unfold Lathe.setLevel Lathe.level
  by_cases h : v = 0
  · simp [h]
  · by_cases k : v = 1 <;> simp [h, k]

@[simp] theorem Lathe.setLevel_setLevel (l : Lathe) (v : Nat) (x y : LthLevel) : (l.setLevel v x).setLevel v y = l.setLevel v y := by
  unfold Lathe.setLevel
  by_cases h : v = 0
  · simp [h]
  · by_cases k : v = 1 <;> simp [h, k]

theorem State.setLathe_touches (s : State) (e : Nat) (l : Lathe) : Touches [.lathes] s (s.setLathe e l) := by
  intro p hp
  cases p <;> first | rfl | exact absurd (List.mem_cons_self) hp | exact fun h => h | exact Nat.le_refl _

/-- The level of an instruction after an update of it. -/
@[simp] theorem State.lthLevel_updLevel (s : State) (e v : Nat) (f : LthLevel → LthLevel) :
    (s.updLevel e v f).lthLevel e v = f (s.lthLevel e v) := by
  simp [State.lthLevel, State.updLevel]

/-- A state that differs from `s` in one level of one engine. -/
def AtLevel (e v : Nat) (s t : State) (x : LthLevel) : Prop :=
  t.lathe e = (s.lathe e).setLevel v x ∧ (∀ d, d ≠ e → t.lathe d = s.lathe d) ∧ Touches [.lathes] s t

theorem AtLevel.upd (s : State) (e v : Nat) (f : LthLevel → LthLevel) : AtLevel e v s (s.updLevel e v f) (f (s.lthLevel e v)) := by
  refine ⟨by simp [State.updLevel, State.lthLevel], fun d hd => ?_, State.setLathe_touches _ _ _⟩
  simp [State.updLevel, State.lathe_setLathe_other _ _ hd]

theorem AtLevel.step {e v : Nat} {s t : State} {x : LthLevel} (h : AtLevel e v s t x) (f : LthLevel → LthLevel) :
    AtLevel e v s (t.updLevel e v f) (f x) := by
  obtain ⟨h1, h2, h3⟩ := h
  refine ⟨by simp [State.updLevel, h1], fun d hd => ?_, h3.trans (State.setLathe_touches _ _ _)⟩
  simp [State.updLevel, State.lathe_setLathe_other _ _ hd, h2 d hd]

/-- The environment in which an instruction that is ready executes. -/
def envOf (e v : Nat) (p : List Byte) (len : Nat) (s : State) : LthEnv :=
  { e := e, v := v, size := opSize p, be := p.contains 0xE2, dn := p.contains 0xE3, nofl := p.contains 0xE4
    ip := (s.lthLevel e v).ip.toNat, next := nextIp e v p len s }

/-- The state in which the body of an instruction that is ready starts: the instruction pointer is past it. -/
def startOf (e v : Nat) (p : List Byte) (len : Nat) (s : State) : State :=
  s.updLevel e v (fun x => { x with ip := BitVec.ofNat 32 (nextIp e v p len s) })

/-- An instruction that is ready runs its body. -/
theorem lthRow_ready {e v : Nat} {p : List Byte} {f : LthForm} {body : LthEnv → State → State × LthEnd} {s : State}
    (h : Ready e v p f.accepts f.len s) (hb : f.bad = none) :
    lthRow e p f body s = .next (finishInstr (envOf e v p f.len s) (body (envOf e v p f.len s) (startOf e v p f.len s))) := by
  have hd : decodeFail p f = none := by simp [decodeFail, h.prefixes, h.accepted, hb]
  have ha := h.address
  have hc := h.inCode
  unfold lthRow
  rw [onUnit_next h.engine, h.loaded, h.usable, h.level]
  simp only [Bool.not_true, Bool.or_self, Bool.false_eq_true, if_false]
  unfold runInstr
  simp only [hd, ha, if_true]
  rw [if_neg (by omega)]
  rfl

/-- An instruction whose body updates its level and leaves at most a load pending. -/
theorem runs_level {i : Instr} {e v : Nat} {p : List Byte} {f : LthForm} {body : LthEnv → State → State × LthEnd} {s : State}
    (hi : exec i s = lthRow e p f body s) (h : Ready e v p f.accepts f.len s) (hb : f.bad = none)
    (g : LthLevel → LthLevel) (load : Option (Nat × Word))
    (hg : body (envOf e v p f.len s) (startOf e v p f.len s) = ((startOf e v p f.len s).updLevel e v g, .done load)) :
    Runs i s e v { (g { s.lthLevel e v with ip := BitVec.ofNat 32 (nextIp e v p f.len s) }).land with pend := load } := by
  refine ⟨_, hi.trans (lthRow_ready h hb), ?_⟩
  rw [hg]
  exact ((AtLevel.upd s e v _).step g).step _

/-- A level with its pending load landed. -/
theorem LthLevel.land_eq (x : LthLevel) :
    x.land = { x with g := (match x.pend with | none => x.g | some (k, v) => Table.set 0 x.g k v), pend := none } := by
  unfold LthLevel.land
  cases h : x.pend with
  | none => cases x; simp_all
  | some q => rfl

/-- An instruction whose body changes nothing. -/
theorem runs_plain {i : Instr} {e v : Nat} {p : List Byte} {f : LthForm} {body : LthEnv → State → State × LthEnd} {s : State}
    (hi : exec i s = lthRow e p f body s) (h : Ready e v p f.accepts f.len s) (hb : f.bad = none)
    (hg : body (envOf e v p f.len s) (startOf e v p f.len s) = (startOf e v p f.len s, .done none)) :
    Runs i s e v { { s.lthLevel e v with ip := BitVec.ofNat 32 (nextIp e v p f.len s) }.land with pend := none } := by
  refine ⟨_, hi.trans (lthRow_ready h hb), ?_⟩
  rw [hg]
  exact (AtLevel.upd s e v (fun x => { x with ip := BitVec.ofNat 32 (nextIp e v p f.len s) })).step
    (fun l => { l.land with pend := none })

/-- An exception of a level whose exceptions are enabled (R401). -/
theorem exception_enabled {s : State} {e v : Nat} (hx : ((s.lathe e).level v).xen = true) (cause trap : Nat) (blk : Bool) (addr data next : Word) :
    s.exception e v cause trap blk addr data next = s.setLathe e { (s.lathe e).setLevel v { ((s.lathe e).level v).land with
        xcause := cause, trapNo := trap, inBlk := blk, xaddr := addr, xdata := data, xnext := next, xen := false
        ip := BitVec.ofNat 32 ((s.lathe e).level v).handler } with exceptions := wrap 32 ((s.lathe e).exceptions + 1) } := by
  have hx' : ((s.lathe e).level v).land.xen = true := by rw [LthLevel.land_eq]; exact hx
  have hh : ((s.lathe e).level v).land.handler = ((s.lathe e).level v).handler := by rw [LthLevel.land_eq]
  simp only [State.exception, hx', if_true, hh]

theorem Lathe.exceptions_setLevel (l : Lathe) (v : Nat) (x : LthLevel) : (l.setLevel v x).exceptions = l.exceptions := by
  unfold Lathe.setLevel; split <;> [rfl; split <;> rfl]

/-- An instruction whose body takes an exception of its level while exceptions are enabled (R401). -/
theorem excepts_level {i : Instr} {e v : Nat} {p : List Byte} {f : LthForm} {body : LthEnv → State → State × LthEnd} {s : State}
    (hi : exec i s = lthRow e p f body s) (h : Ready e v p f.accepts f.len s) (hb : f.bad = none) (hx : (s.lthLevel e v).xen = true)
    {c data trap : Nat} {blk : Bool}
    (hg : body (envOf e v p f.len s) (startOf e v p f.len s) = (startOf e v p f.len s, .fault c data trap blk)) :
    Does i s (fun t => t.lathe e = { (s.lathe e).setLevel v { (s.lthLevel e v).land with
        xcause := c, trapNo := trap, inBlk := blk, xaddr := BitVec.ofNat 32 (s.lthLevel e v).ip.toNat, xdata := BitVec.ofNat 32 data
        xnext := BitVec.ofNat 32 (nextIp e v p f.len s), xen := false, ip := BitVec.ofNat 32 (s.lthLevel e v).handler } with
          exceptions := ((s.lathe e).exceptions + 1) % 2 ^ 32 } ∧
      (∀ d, d ≠ e → t.lathe d = s.lathe d) ∧ Touches [.lathes] s t) := by
  refine ⟨_, hi.trans (lthRow_ready h hb), ?_⟩
  rw [hg]
  obtain ⟨a1, a2, a3⟩ := AtLevel.upd s e v (fun x => { x with ip := BitVec.ofNat 32 (nextIp e v p f.len s) })
  have hl : ((startOf e v p f.len s).lathe e).level v = { s.lthLevel e v with ip := BitVec.ofNat 32 (nextIp e v p f.len s) } := by
    unfold startOf; rw [a1, Lathe.level_setLevel]
  have he := exception_enabled (s := startOf e v p f.len s) (e := e) (v := v) (by rw [hl]; exact hx) c trap blk
    (BitVec.ofNat 32 (s.lthLevel e v).ip.toNat) (BitVec.ofNat 32 data) (BitVec.ofNat 32 (nextIp e v p f.len s))
  have hf : finishInstr (envOf e v p f.len s) (startOf e v p f.len s, .fault c data trap blk) = _ := he
  rw [hf]
  refine ⟨?_, fun d hd => (State.lathe_setLathe_other _ _ hd).trans (a2 d hd), a3.trans (State.setLathe_touches _ _ _)⟩
  rw [State.lathe_setLathe, hl]
  unfold startOf
  rw [a1, Lathe.setLevel_setLevel, Lathe.exceptions_setLevel]
  simp only [LthLevel.land_eq, wrap]

end Sys2Proof.Machine
end

