-- ==== Sys2Proof/Laws/LatheForms.lean ====
section
/-! SUPPORT. The shapes of `Safety/Lathe.lean` hold of every row that is built by the shared forms of `Machine/LatheRun.lean`. -/

namespace Sys2Proof.Machine

variable {w : Bool}

/-- What a body that writes flags and perhaps a register leaves, as `retire` says it. -/
theorem retire_eq (x : LthLevel) (e v : Nat) (p : List Byte) (len : Nat) (s : State) (fl : LthFlags) (d : Nat) (r : Word) (load : Option (Nat × Word)) :
    { ((if w then ((envOf e v p len s).flag fl { x with ip := BitVec.ofNat 32 (nextIp e v p len s) }).setReg d r
        else (envOf e v p len s).flag fl { x with ip := BitVec.ofNat 32 (nextIp e v p len s) })).land with pend := load } =
    x.retire (nextIp e v p len s) p (some fl) (if w then some (d, r) else none) load := by
  cases w <;> rfl

theorem regForm_of {i : Nat → List Byte → Byte → Instr} {f g : Nat → Nat → Nat → LthFlags → Nat × LthFlags}
    (hi : ∀ e p m s, exec (i e p m) s = lthRR e p m w f s)
    (hf : ∀ n a b fl, a < 2 ^ n → b < 2 ^ n → f n a b fl = g n a b fl) : RegForm i w g := by
  intro e v p m s h x n r
  have hr : f n ((x.reg (opD m)).toNat % 2 ^ n) ((x.reg (opS m)).toNat % 2 ^ n) x.flags = r :=
    hf _ _ _ _ (Nat.mod_lt _ (by positivity)) (Nat.mod_lt _ (by positivity))
  rw [← retire_eq]
  refine runs_level (hi e p m s) h rfl (fun y => if w then ((envOf e v p 2 s).flag r.2 y).setReg (opD m) (BitVec.ofNat 32 r.1)
    else (envOf e v p 2 s).flag r.2 y) none ?_
  rw [← hr]
  simp only [aluOn, LthEnv.level, LthEnv.upd, envOf, startOf, State.lthLevel_updLevel]
  rfl

theorem immForm_of {i : Nat → List Byte → Byte → Nat → Instr} {f g : Nat → Nat → Nat → LthFlags → Nat × LthFlags}
    (hi : ∀ e p m b s, exec (i e p m b) s = lthRI e p m b w f s)
    (hf : ∀ n a b fl, a < 2 ^ n → b < 2 ^ n → f n a b fl = g n a b fl) : ImmForm i w g := by
  intro e v p m b s hm h x n r
  have hr : f n ((x.reg (opD m)).toNat % 2 ^ n) (b % 2 ^ n) x.flags = r :=
    hf _ _ _ _ (Nat.mod_lt _ (by positivity)) (Nat.mod_lt _ (by positivity))
  rw [← retire_eq]
  refine runs_level (hi e p m b s) h (by simp [hm]) (fun y => if w then ((envOf e v p (2 + opSize p) s).flag r.2 y).setReg (opD m) (BitVec.ofNat 32 r.1)
    else (envOf e v p (2 + opSize p) s).flag r.2 y) none ?_
  rw [← hr]
  simp only [aluOn, LthEnv.level, LthEnv.upd, envOf, startOf, State.lthLevel_updLevel]
  rfl

theorem shiftForm_of {i : Nat → List Byte → Byte → Instr} {f g : Nat → Nat → Nat → LthFlags → Nat × LthFlags}
    (hi : ∀ e p m s, exec (i e p m) s = lthShiftR e p m f s)
    (hf : ∀ n a k fl, 0 < n → a < 2 ^ n → k < 32 → f n a k fl = g n a k fl) : ShiftForm i g := by
  intro e v p m s h x n r
  have hn : 0 < n := by unfold n opSize; split <;> [skip; split] <;> decide
  have hr : f n ((x.reg (opD m)).toNat % 2 ^ n) ((x.reg (opS m)).toNat % 32) x.flags = r :=
    hf _ _ _ _ hn (Nat.mod_lt _ (by positivity)) (Nat.mod_lt _ (by decide))
  have := retire_eq (w := true) x e v p 2 s r.2 (opD m) (BitVec.ofNat 32 r.1) none
  simp only [if_true] at this
  rw [← this]
  refine runs_level (hi e p m s) h rfl (fun y => ((envOf e v p 2 s).flag r.2 y).setReg (opD m) (BitVec.ofNat 32 r.1)) none ?_
  rw [← hr]
  simp only [aluOn, LthEnv.level, LthEnv.upd, envOf, startOf, State.lthLevel_updLevel]
  rfl

theorem shiftImmForm_of {i : Nat → List Byte → Byte → Byte → Instr} {f g : Nat → Nat → Nat → LthFlags → Nat × LthFlags}
    (hi : ∀ e p m b s, exec (i e p m b) s = lthShiftI e p m b f s)
    (hf : ∀ n a k fl, 0 < n → a < 2 ^ n → k < 32 → f n a k fl = g n a k fl) : ShiftImmForm i g := by
  intro e v p m b s hm h x n r
  have hn : 0 < n := by unfold n opSize; split <;> [skip; split] <;> decide
  have hr : f n ((x.reg (opD m)).toNat % 2 ^ n) (b.toNat % 32) x.flags = r :=
    hf _ _ _ _ hn (Nat.mod_lt _ (by positivity)) (Nat.mod_lt _ (by decide))
  have := retire_eq (w := true) x e v p 3 s r.2 (opD m) (BitVec.ofNat 32 r.1) none
  simp only [if_true] at this
  rw [← this]
  refine runs_level (hi e p m b s) h (by simp [hm]) (fun y => ((envOf e v p 3 s).flag r.2 y).setReg (opD m) (BitVec.ofNat 32 r.1)) none ?_
  rw [← hr]
  simp only [aluOn, LthEnv.level, LthEnv.upd, envOf, startOf, State.lthLevel_updLevel]
  rfl

theorem oneForm_of {i : Nat → List Byte → Byte → Instr} {f g : Nat → Nat → LthFlags → Nat × LthFlags}
    (hi : ∀ e p m s, exec (i e p m) s = lthUnary e p m f s)
    (hf : ∀ n a fl, 0 < n → a < 2 ^ n → f n a fl = g n a fl) : OneForm i g := by
  intro e v p m s hm h x n r
  have hn : 0 < n := by unfold n opSize; split <;> [skip; split] <;> decide
  have hr : f n ((x.reg (opD m)).toNat % 2 ^ n) x.flags = r := hf _ _ _ hn (Nat.mod_lt _ (by positivity))
  have := retire_eq (w := true) x e v p 2 s r.2 (opD m) (BitVec.ofNat 32 r.1) none
  simp only [if_true] at this
  rw [← this]
  refine runs_level (hi e p m s) h (by simp [hm]) (fun y => ((envOf e v p 2 s).flag r.2 y).setReg (opD m) (BitVec.ofNat 32 r.1)) none ?_
  rw [← hr]
  simp only [aluOn, LthEnv.level, LthEnv.upd, envOf, startOf, State.lthLevel_updLevel]
  rfl

theorem bitForm_of {i : Nat → List Byte → Byte → Byte → Instr} {f g : Nat → Nat → Nat}
    (hi : ∀ e p m b s, exec (i e p m b) s = lthBit e p m b f s) (hf : ∀ a b, f a b = g a b) : BitForm i g := by
  obtain rfl : f = g := funext fun a => funext fun b => hf a b
  intro e v p m b s hm h x a
  have := retire_eq (w := true) x e v p 3 s { x.flags with z := !bitAt a (b.toNat % 32) } (opD m) (BitVec.ofNat 32 (f a (b.toNat % 32))) none
  simp only [if_true] at this
  rw [← this]
  refine runs_level (hi e p m b s) h (by simp [hm]) (fun y => ((envOf e v p 3 s).flag { y.flags with z := !bitAt a (b.toNat % 32) } y).setReg (opD m)
    (BitVec.ofNat 32 (f a (b.toNat % 32)))) none ?_
  simp only [LthEnv.level, LthEnv.upd, envOf, startOf, State.lthLevel_updLevel]
  rfl

/-! ### The results -/

theorem bitAt_eq (a k : Nat) : bitAt a k = a.testBit k := by
  simp only [bitAt, Nat.testBit_eq_decide_div_mod_eq]
  rfl

theorem signedOut_eq (n : Nat) (r : Int) : signedOut n r = outside n r := by
  unfold signedOut outside
  by_cases h : -(2 ^ (n - 1) : Int) ≤ r <;> by_cases k : r < (2 ^ (n - 1) : Int) <;> simp [h, k] <;> omega

theorem aluAdd_eq (n a b c : Nat) :
    aluAdd n a b c = resultOf n ((a + b + c) % 2 ^ n) (decide (2 ^ n ≤ a + b + c)) (outside n (toS n a + toS n b + c)) := by
  simp only [aluAdd, resultOf, znFlags, signedOut_eq]

theorem toU_sub {n a b c : Nat} (ha : a < 2 ^ n) (hb : b < 2 ^ n) (hc : c ≤ 1) :
    toU n ((a : Int) - b - c) = (a + 2 ^ n * 2 - b - c) % 2 ^ n := by
  have h1 : (1 : Nat) ≤ 2 ^ n := Nat.one_le_two_pow
  have e : ((a + 2 ^ n * 2 - b - c : Nat) : Int) = ((a : Int) - b - c) + (2 ^ n : Nat) * 2 := by omega
  unfold toU
  apply Int.ofNat_inj.mp
  rw [Int.natCast_mod, e]
  simp [Int.toNat_of_nonneg (Int.emod_nonneg _ (by positivity : ((2 : Int) ^ n) ≠ 0))]

theorem aluSub_eq {n a b c : Nat} (ha : a < 2 ^ n) (hb : b < 2 ^ n) (hc : c ≤ 1) :
    aluSub n a b c = resultOf n ((a + 2 ^ n * 2 - b - c) % 2 ^ n) (decide (a < b + c)) (outside n (toS n a - toS n b - c)) := by
  simp only [aluSub, resultOf, znFlags, signedOut_eq, toU_sub ha hb hc]

theorem Bool.toNat_le_one (b : Bool) : b.toNat ≤ 1 := by cases b <;> decide

end Sys2Proof.Machine
end

