-- ==== Sys2Proof/Laws/Memory.lean ====
section
/-! SUPPORT. The bank pool as memory: what a read of an octet gives after a store, and that every store keeps the canonical form. -/

namespace Sys2Proof.Machine

/-- An octet of the pool after octets are put into it. -/
theorem State.poolByte_memPut (s : State) (a : Nat) (bs : List Byte) (b : Nat) :
    (s.memPut a bs).poolByte b = if a ≤ b ∧ b < a + bs.length then bs.getD (b - a) 0 else s.poolByte b :=
  get_putOctets bs _ _ _

/-- An octet of the pool after a store that meets no uncorrectable word. -/
theorem State.poolByte_poolStore (s : State) (a : Nat) (bs : List Byte) (b : Nat)
    (h : ∀ b, a ≤ b → b < a + bs.length → s.pool.ueWords.contains (b / 8) = false) :
    (s.poolStore a bs).poolByte b = if a ≤ b ∧ b < a + bs.length then bs.getD (b - a) 0 else s.poolByte b := by
  unfold State.poolByte State.poolStore
  rw [storeOctets_eq _ _ _ _ _ _ h]
  exact get_putOctets bs _ _ _

theorem State.poolByte_poolStore_other (s : State) (a : Nat) (bs : List Byte) (b : Nat) (h : ¬ (a ≤ b ∧ b < a + bs.length)) :
    (s.poolStore a bs).poolByte b = s.poolByte b := storeOctets_other _ _ _ _ _ _ _ h

/-- The canonical form of the pool's contents. -/
theorem memPut_wf (s : State) (a : Nat) (bs : List Byte) (h : Memory.wf s) : Memory.wf (s.memPut a bs) := wf_putOctets _ _ _ h

theorem poolStore_wf (s : State) (a : Nat) (bs : List Byte) (h : Memory.wf s) : Memory.wf (s.poolStore a bs) := wf_storeOctets _ _ _ _ _ _ h

end Sys2Proof.Machine
end

