-- ==== Sys2Proof/Laws/LatheMemory.lean ====
section
/-! SUPPORT. Loads and stores of a Lathe in the live data half: what they read, what they write, and what they leave. -/

namespace Sys2Proof.Machine

variable {s t : State} {e v : Nat}

/-- The octet behind every word that a stretch touches. -/
theorem mem_wordsOf {o n w : Nat} (h : w ∈ wordsOf o n) : ∃ b, o ≤ b ∧ b < o + n ∧ b / 8 = w := by
  unfold wordsOf at h
  split at h
  · simp at h
  · obtain ⟨i, hi, rfl⟩ := List.mem_map.mp h
    have hi := List.mem_range.mp hi
    by_cases h0 : i = 0
    · exact ⟨o, Nat.le_refl _, by omega, by omega⟩
    · exact ⟨(o / 8 + i) * 8, by omega, by omega, by omega⟩

/-- A read of a data half that meets no uncorrectable word. -/
theorem halfRead_clear {half o n : Nat}
    (h : ∀ b, dataHalf e half + o ≤ b → b < dataHalf e half + o + n → s.pool.ueWords.contains (b / 8) = false) :
    halfRead e half o n s = (s, .ok (s.memGet (dataHalf e half + o) n)) := by
  unfold halfRead
  have hf : (wordsOf (dataHalf e half + o) n).find? (fun w => s.pool.ueWords.contains w) = none := by
    rw [List.find?_eq_none]
    intro w hw
    obtain ⟨b, h1, h2, rfl⟩ := mem_wordsOf hw
    simp only [h b h1 h2, Bool.false_eq_true, not_false_eq_true]
  simp only [hf]

theorem regionOf_live {a n : Nat} (h1 : 0x10000000 ≤ a) (h2 : a + n ≤ 0x10040000) : regionOf a n = .live (a - 0x10000000) := by
  unfold regionOf
  have : (decide (0x10000000 ≤ a) && decide (a + n ≤ 0x10000000 + 0x40000)) = true := by simp; omega
  simp only [this, if_true]

theorem livePool_eq (s : State) (e a : Nat) : livePool s e a = dataHalf e (s.lathe e).live + (a - 0x10000000) := by
  unfold livePool dataHalf
  rfl

/-- A load from the live half. -/
theorem lthLoad_live {a n : Nat} (h : LiveClear s e a n) : lthLoad e v a n s = (s, .ok (s.memGet (livePool s e a) n)) := by
  obtain ⟨h1, h2, h3⟩ := h
  unfold lthLoad
  simp only [regionOf_live h1 h2]
  simp only [livePool_eq] at h3 ⊢
  exact halfRead_clear h3

theorem requestEntry_level (s : State) (e stamp reason arg d w : Nat) : (s.requestEntry e stamp reason arg).lthLevel d w = s.lthLevel d w := by
  unfold State.lthLevel State.requestEntry
  by_cases hd : d = e
  · subst hd
    simp only [State.updLathe_eq, State.lathe_setLathe]
    split
    · rfl
    · split <;> rfl
  · simp only [State.updLathe_eq, State.lathe_setLathe_other _ _ hd]

theorem chkNotice_level (n : Nat) (bad : Bool) (s : State) (d w : Nat) : (chkNotice n bad s).lthLevel d w = s.lthLevel d w := by
  unfold chkNotice
  dsimp only
  split
  · rfl
  · split
    · exact requestEntry_level _ _ _ _ _ _ _
    · rfl

/-- What the check units do on a store leaves every level as it was. -/
theorem chkPool_level (port ofs : Nat) (bs : List Byte) (s : State) (d w : Nat) :
    (chkPool port ofs bs s).lthLevel d w = s.lthLevel d w := by
  unfold chkPool
  generalize List.range 16 = l
  induction l generalizing s with
  | nil => rfl
  | cons n l ih =>
    rw [List.foldl_cons, ih]
    dsimp only
    split
    · exact chkNotice_level _ _ _ _ _
    · rfl

theorem chkPool_touches (port ofs : Nat) (bs : List Byte) (s : State) : Touches [.lathes, .chk, .out] s (chkPool port ofs bs s) :=
  (chkPool_keeps port ofs bs s).touches _ (by decide)

theorem halfWrite_eq {o : Nat} {bs : List Byte} (h : 0x2000 ≤ o) (hn : bs ≠ []) :
    halfWrite e o bs s = chkPool (8 + e) (dataHalf e (s.lathe e).live + o) bs (s.poolStore (dataHalf e (s.lathe e).live + o) bs) := by
  unfold halfWrite
  have hs : min bs.length (0x2000 - o) = 0 := by
    rw [Nat.sub_eq_zero_of_le h, Nat.min_zero]
  simp only [hs, if_true, List.drop_zero, Nat.add_zero, if_neg hn]

/-- A store into the live half beyond the environment block. -/
theorem lthStore_live {a : Nat} {bs : List Byte} (h1 : 0x10002000 ≤ a) (h2 : a + bs.length ≤ 0x10040000) (hn : bs ≠ []) :
    lthStore e v a bs s = (chkPool (8 + e) (livePool s e a) bs (s.poolStore (livePool s e a) bs), .ok []) := by
  have ho : 0x2000 ≤ a - 0x10000000 := by omega
  unfold lthStore
  simp only [regionOf_live (show 0x10000000 ≤ a by omega) h2]
  rw [halfWrite_eq ho hn, livePool_eq]

/-- An instruction whose body ends with its level `x` and nothing else changed. -/
theorem runs_at {i : Instr} {p : List Byte} {f : LthForm} {body : LthEnv → State → State × LthEnd} {u : State} {x : LthLevel}
    {load : Option (Nat × Word)} (hi : exec i s = lthRow e p f body s) (h : Ready e v p f.accepts f.len s) (hb : f.bad = none)
    (hu : AtLevel e v s u x) (hg : body (envOf e v p f.len s) (startOf e v p f.len s) = (u, .done load)) :
    Runs i s e v { x.land with pend := load } := by
  refine ⟨_, hi.trans (lthRow_ready h hb), ?_⟩
  rw [hg]
  exact hu.step (fun l => { l.land with pend := load })

/-- The start of an instruction, as a change of its level. -/
theorem start_at (e v : Nat) (p : List Byte) (len : Nat) (s : State) :
    AtLevel e v s (startOf e v p len s) { s.lthLevel e v with ip := BitVec.ofNat 32 (nextIp e v p len s) } :=
  AtLevel.upd s e v _

/-- A state that differs from `s` in one level and in stored octets. -/
def AtStore (e v : Nat) (s t : State) (x : LthLevel) (a : Nat) (bs : List Byte) : Prop :=
  t.lthLevel e v = x ∧ (∀ d w, w < 3 → (d, w) ≠ (e, v) → t.lthLevel d w = s.lthLevel d w) ∧
    (∀ b, t.poolByte b = if a ≤ b ∧ b < a + bs.length then bs.getD (b - a) 0 else s.poolByte b) ∧
    Touches [.lathes, .pool, .poolMem, .chk, .out] s t

theorem Lathe.level_setLevel_other (l : Lathe) {v w : Nat} (x : LthLevel) (hv : v < 3) (hw : w < 3) (h : w ≠ v) : (l.setLevel v x).level w = l.level w := by
  unfold Lathe.setLevel Lathe.level
  interval_cases v <;> interval_cases w <;> simp_all

theorem updLevel_level_other (s : State) {e v d w : Nat} (f : LthLevel → LthLevel) (hv : v < 3) (hw : w < 3) (h : (d, w) ≠ (e, v)) :
    (s.updLevel e v f).lthLevel d w = s.lthLevel d w := by
  unfold State.lthLevel State.updLevel
  by_cases hd : d = e
  · subst hd
    simp only [State.updLathe_eq, State.lathe_setLathe]
    exact Lathe.level_setLevel_other _ _ hv hw (fun hh => h (by rw [hh]))
  · simp only [State.updLathe_eq, State.lathe_setLathe_other _ _ hd]

theorem AtStore.step {x : LthLevel} {a : Nat} {bs : List Byte} (hv : v < 3) (h : AtStore e v s t x a bs) (f : LthLevel → LthLevel) :
    AtStore e v s (t.updLevel e v f) (f x) a bs := by
  obtain ⟨h1, h2, h3, h4⟩ := h
  refine ⟨by rw [State.lthLevel_updLevel, h1], fun d w hw hd => ?_, h3, h4.trans ((State.setLathe_touches _ _ _).mono (by simp))⟩
  rw [updLevel_level_other _ _ hv hw hd, h2 d w hw hd]

/-- A level of an engine is one of three. -/
theorem Ready.lt3 {p : List Byte} {acc : LthAccepts} {len : Nat} (h : Ready e v p acc len s) : v < 3 := by
  have hl := h.level
  unfold Lathe.running at hl
  split at hl
  · cases hl; decide
  · split at hl
    · cases hl; decide
    · split at hl <;> cases hl
      decide

/-- A store of an instruction in progress, into the live half beyond the environment block. -/
theorem store_at {p : List Byte} {len a : Nat} {bs : List Byte} {x : LthLevel} {u : State} (hv : v < 3) (hu : AtLevel e v s u x)
    (h : LiveClear s e a bs.length) :
    AtStore e v s (chkPool (8 + e) (livePool s e a) bs (u.poolStore (livePool s e a) bs)) x (livePool s e a) bs := by
  obtain ⟨u1, u2, u3⟩ := hu
  have hp : u.pool = s.pool := u3 .pool (by simp)
  have hpm := (chkPool_touches (8 + e) (livePool s e a) bs (u.poolStore (livePool s e a) bs)) .pool (by simp)
  refine ⟨?_, fun d w hw hd => ?_, fun b => ?_, ?_⟩
  · rw [chkPool_level]
    show (u.lathe e).level v = x
    rw [u1, Lathe.level_setLevel]
  · rw [chkPool_level]
    show (u.lathe d).level w = (s.lathe d).level w
    by_cases hde : d = e
    · subst hde
      rw [u1]
      exact Lathe.level_setLevel_other _ _ hv hw (fun hh => hd (by rw [hh]))
    · rw [u2 d hde]
  · have e1 : (chkPool (8 + e) (livePool s e a) bs (u.poolStore (livePool s e a) bs)).poolByte b = (u.poolStore (livePool s e a) bs).poolByte b := by
      unfold State.poolByte; rw [hpm]
    rw [e1, State.poolByte_poolStore u _ bs b (fun b h1 h2 => by rw [hp]; exact h.2.2 b h1 h2)]
    unfold State.poolByte
    rw [hp]
  · refine (u3.mono (by simp)).trans (Touches.trans (t := u.poolStore (livePool s e a) bs) ?_ ((chkPool_touches _ _ _ _).mono (by simp)))
    exact (State.poolStore_keeps _ _ _).touches _ (by decide)

/-- An instruction whose body ends with a store. -/
theorem stores_at {i : Instr} {p : List Byte} {f : LthForm} {body : LthEnv → State → State × LthEnd} {u : State} {x : LthLevel}
    {load : Option (Nat × Word)} {a : Nat} {bs : List Byte} (hi : exec i s = lthRow e p f body s) (h : Ready e v p f.accepts f.len s)
    (hb : f.bad = none) (hu : AtStore e v s u x a bs) (hg : body (envOf e v p f.len s) (startOf e v p f.len s) = (u, .done load)) :
    Stores i s e v { x.land with pend := load } a bs := by
  refine ⟨_, hi.trans (lthRow_ready h hb), ?_⟩
  rw [hg]
  exact hu.step h.lt3 (fun l => { l.land with pend := load })

theorem LiveClear.start {p : List Byte} {len a n : Nat} (h : LiveClear s e a n) : LiveClear (startOf e v p len s) e a n := by
  obtain ⟨h1, h2, h3⟩ := h
  have hp : livePool (startOf e v p len s) e a = livePool s e a := by
    have hl : ((startOf e v p len s).lathe e).live = (s.lathe e).live := by
      rw [(start_at e v p len s).1]
      unfold Lathe.setLevel; split <;> [rfl; split <;> rfl]
    unfold livePool; rw [hl]
  refine ⟨h1, h2, fun b hb1 hb2 => ?_⟩
  rw [hp] at hb1 hb2
  exact h3 b hb1 hb2

theorem livePool_start (e v : Nat) (p : List Byte) (len : Nat) (s : State) (a : Nat) : livePool (startOf e v p len s) e a = livePool s e a := by
  have hl : ((startOf e v p len s).lathe e).live = (s.lathe e).live := by
    rw [(start_at e v p len s).1]
    unfold Lathe.setLevel; split <;> [rfl; split <;> rfl]
  unfold livePool; rw [hl]

end Sys2Proof.Machine
end

