-- ==== Sys2Proof/Laws/LatheStack.lean ====
section
/-! SUPPORT. The stack of a Lathe: the addresses of a push and a pop, what a push of several words stores, and what a pop reads. -/

namespace Sys2Proof.Machine

variable {s : State} {e v : Nat}

theorem chkNotice_live (n : Nat) (bad : Bool) (s : State) (d : Nat) : ((chkNotice n bad s).lathe d).live = (s.lathe d).live := by
  unfold chkNotice
  dsimp only
  split
  · rfl
  · split
    · rename_i u e' _
      unfold State.requestEntry
      by_cases hd : d = e'
      · subst hd
        simp only [State.updLathe_eq, State.lathe_setLathe]
        split
        · rfl
        · split <;> rfl
      · simp only [State.updLathe_eq, State.lathe_setLathe_other _ _ hd]
    · rfl

theorem chkPool_live (port ofs : Nat) (bs : List Byte) (s : State) (d : Nat) : ((chkPool port ofs bs s).lathe d).live = (s.lathe d).live := by
  unfold chkPool
  generalize List.range 16 = l
  induction l generalizing s with
  | nil => rfl
  | cons n l ih =>
    rw [List.foldl_cons, ih]
    dsimp only
    split
    · exact chkNotice_live _ _ _ _
    · rfl

theorem pushAddrs_succ {g n : Nat} (h : 4 ≤ g) (hg : g < 2 ^ 32) : pushAddrs g (n + 1) = (g - 4) :: pushAddrs (g - 4) n := by
  unfold pushAddrs
  rw [List.range_succ_eq_map, List.map_cons, List.map_map]
  congr 1
  · unfold toU; omega
  · apply List.map_congr_left
    intro i _
    simp only [Function.comp]
    congr 1
    omega

theorem popAddrs_succ {g n : Nat} (hg : g < 2 ^ 32) : popAddrs g (n + 1) = g :: popAddrs (g + 4) n := by
  unfold popAddrs
  rw [List.range_succ_eq_map, List.map_cons, List.map_map]
  congr 1
  · simp only [Nat.mul_zero, Nat.add_zero, Nat.mod_eq_of_lt hg]
  · apply List.map_congr_left
    intro i _
    simp only [Function.comp]
    congr 1
    omega

theorem mem_pushAddrs {g n a : Nat} (h : 4 * n ≤ g) (hg : g < 2 ^ 32) (ha : a ∈ pushAddrs g n) : g - 4 * n ≤ a ∧ a + 4 ≤ g := by
  obtain ⟨i, hi, rfl⟩ := List.mem_map.mp ha
  have hi := List.mem_range.mp hi
  unfold toU
  omega

theorem mem_popAddrs {g n a : Nat} (h : g + 4 * n ≤ 2 ^ 32) (ha : a ∈ popAddrs g n) : g ≤ a ∧ a + 4 ≤ g + 4 * n := by
  obtain ⟨i, hi, rfl⟩ := List.mem_map.mp ha
  have hi := List.mem_range.mp hi
  rw [Nat.mod_eq_of_lt (by omega)]
  omega

theorem stackCheck_none {g : Nat} {as : List Nat} (h4 : g % 4 = 0) (h : ∀ a ∈ as, 0x10002000 ≤ a ∧ a + 4 ≤ 0x10040000) : stackCheck g as = none := by
  unfold stackCheck
  cases as with
  | nil => rfl
  | cons b bs =>
    have hf : (b :: bs).find? (fun a => decide (a < 0x10002000) || decide (0x10040000 < a + 4)) = none := by
      rw [List.find?_eq_none]
      intro a ha
      have := h a ha
      simp only [Bool.or_eq_true, decide_eq_true_eq]
      omega
    simp only [h4, ne_eq, not_true_eq_false, if_false, hf, Option.map_none]

theorem stackOfs_eq {a : Nat} (h1 : 0x10000000 ≤ a) (h2 : a < 0x20000000) : stackOfs a = a - 0x10000000 := by
  unfold stackOfs
  omega

theorem livePool_add {s : State} {e a k : Nat} (h : 0x10000000 ≤ a) : livePool s e (a + k) = livePool s e a + k := by
  unfold livePool
  omega

theorem length_toLE (n x : Nat) : (toLE n x).length = n := by
  induction n generalizing x with
  | zero => rfl
  | succ n ih => simp only [toLE, List.length_cons, ih]

/-- A word stored just below what is stored already. -/
theorem AtStore.below {u : State} {x : LthLevel} {a : Nat} {bs : List Byte} (w : Nat) (hu : AtStore e v s u x (livePool s e a) bs)
    (hlive : (u.lathe e).live = (s.lathe e).live) (h1 : 0x10002004 ≤ a) (h2 : a ≤ 0x10040000) (hc : LiveClear s e (a - 4) 4)
    (hue' : ∀ y, u.pool.ueWords.contains y = true → s.pool.ueWords.contains y = true) :
    let t := halfWrite e (stackOfs (a - 4)) (toLE 4 w) u
    AtStore e v s t x (livePool s e (a - 4)) (toLE 4 w ++ bs) ∧ (t.lathe e).live = (s.lathe e).live ∧
      (∀ y, t.pool.ueWords.contains y = true → s.pool.ueWords.contains y = true) := by
  intro t
  obtain ⟨u1, u2, u3, u4⟩ := hu
  have ho : 0x2000 ≤ stackOfs (a - 4) := by rw [stackOfs_eq (by omega) (by omega)]; omega
  have hne : toLE 4 w ≠ [] := by intro h; have := length_toLE 4 w; rw [h] at this; simp at this
  have hA : dataHalf e (u.lathe e).live + stackOfs (a - 4) = livePool s e (a - 4) := by
    rw [hlive, livePool_eq, stackOfs_eq (by omega) (by omega)]
  have ht : t = chkPool (8 + e) (livePool s e (a - 4)) (toLE 4 w) (u.poolStore (livePool s e (a - 4)) (toLE 4 w)) := by
    show halfWrite e (stackOfs (a - 4)) (toLE 4 w) u = _
    rw [halfWrite_eq ho hne, hA]
  have hpool : t.pool = (u.poolStore (livePool s e (a - 4)) (toLE 4 w)).pool := by
    rw [ht]; exact chkPool_touches _ _ _ _ .pool (by simp)
  have hAa : livePool s e a = livePool s e (a - 4) + 4 := by
    conv_lhs => rw [show a = (a - 4) + 4 by omega]
    exact livePool_add (by omega)
  have hclr : ∀ b, livePool s e (a - 4) ≤ b → b < livePool s e (a - 4) + (toLE 4 w).length → u.pool.ueWords.contains (b / 8) = false := by
    intro b hb1 hb2
    rw [length_toLE] at hb2
    have := hc.2.2 b hb1 hb2
    cases hh : u.pool.ueWords.contains (b / 8)
    · rfl
    · rw [hue' _ hh] at this; exact this
  refine ⟨⟨?_, fun d w' hw hd => ?_, fun b => ?_, ?_⟩, ?_, ?_⟩
  · rw [ht, chkPool_level]; exact u1
  · rw [ht, chkPool_level]; exact u2 d w' hw hd
  · have e1 : t.poolByte b = (u.poolStore (livePool s e (a - 4)) (toLE 4 w)).poolByte b := by unfold State.poolByte; rw [hpool]
    rw [e1, State.poolByte_poolStore u _ _ b hclr, u3, length_toLE, hAa, List.length_append, length_toLE]
    by_cases hb : livePool s e (a - 4) ≤ b ∧ b < livePool s e (a - 4) + 4
    · rw [if_pos hb, if_pos (by omega), List.getD_append _ _ _ _ (by rw [length_toLE]; omega)]
    · rw [if_neg hb]
      by_cases hb2 : livePool s e (a - 4) + 4 ≤ b ∧ b < livePool s e (a - 4) + 4 + bs.length
      · rw [if_pos hb2, if_pos (by omega), List.getD_append_right _ _ _ _ (by rw [length_toLE]; omega), length_toLE, Nat.sub_sub]
      · rw [if_neg hb2, if_neg (by omega)]
  · rw [ht]
    refine u4.trans (Touches.trans (t := u.poolStore (livePool s e (a - 4)) (toLE 4 w)) ?_ ((chkPool_touches _ _ _ _).mono (by simp)))
    exact (State.poolStore_keeps _ _ _).touches _ (by decide)
  · rw [ht, chkPool_live]; exact hlive
  · intro y hy
    rw [hpool] at hy
    refine hue' y ?_
    simp only [State.poolStore, List.contains_iff_mem, List.mem_filter] at hy
    exact List.contains_iff_mem.mpr hy.1

/-- Words pushed one below the other. -/
theorem push_fold (ws : List Word) : ∀ {u : State} {x : LthLevel} {a : Nat} {bs : List Byte}, AtStore e v s u x (livePool s e a) bs →
    (u.lathe e).live = (s.lathe e).live → (∀ y, u.pool.ueWords.contains y = true → s.pool.ueWords.contains y = true) →
    0x10002000 + 4 * ws.length ≤ a → a ≤ 0x10040000 → LiveClear s e (a - 4 * ws.length) (4 * ws.length) →
    AtStore e v s (((pushAddrs a ws.length).zip ws).foldl (fun s x => halfWrite e (stackOfs x.1) (toLE 4 x.2.toNat) s) u) x
      (livePool s e (a - 4 * ws.length)) (ws.reverse.flatMap (fun w => toLE 4 w.toNat) ++ bs) := by
  induction ws with
  | nil => intro u x a bs h _ _ _ _ _; simpa [pushAddrs] using h
  | cons w ws ih =>
    intro u x a bs h hl hue h1 h2 hc
    simp only [List.length_cons] at h1 hc ⊢
    have hc4 : LiveClear s e (a - 4) 4 := by
      refine ⟨by omega, by omega, fun b hb1 hb2 => hc.2.2 b ?_ ?_⟩
      · have := livePool_add (s := s) (e := e) (a := a - 4 * (ws.length + 1)) (k := 4 * ws.length) (by omega)
        rw [show a - 4 * (ws.length + 1) + 4 * ws.length = a - 4 by omega] at this
        omega
      · have := livePool_add (s := s) (e := e) (a := a - 4 * (ws.length + 1)) (k := 4 * ws.length) (by omega)
        rw [show a - 4 * (ws.length + 1) + 4 * ws.length = a - 4 by omega] at this
        omega
    have hcr : LiveClear s e (a - 4 - 4 * ws.length) (4 * ws.length) := by
      rw [show a - 4 - 4 * ws.length = a - 4 * (ws.length + 1) by omega]
      exact ⟨by omega, by omega, fun b hb1 hb2 => hc.2.2 b hb1 (by omega)⟩
    rw [pushAddrs_succ (by omega) (by omega), List.zip_cons_cons, List.foldl_cons]
    obtain ⟨k1, k2, k3⟩ := h.below w.toNat hl (by omega) h2 hc4 hue
    have := ih k1 k2 k3 (by omega) (by omega) hcr
    rw [show a - 4 * (ws.length + 1) = a - 4 - 4 * ws.length by omega, List.reverse_cons, List.flatMap_append, List.append_assoc]
    simpa using this

/-- Words read from the stack upward, by any step that reads a clear word at each address. -/
theorem pop_steps (f : State × (List Word ⊕ LthEnd) → Nat → State × (List Word ⊕ LthEnd))
    (hf : ∀ (ws : List Word) (a : Nat), 0x10002000 ≤ a → a + 4 ≤ 0x10040000 → LiveClear s e a 4 →
      f (s, .inl ws) a = (s, .inl (ws ++ [BitVec.ofNat 32 (ofLE (s.memGet (livePool s e a) 4))]))) (n : Nat) :
    ∀ (a : Nat) (acc : List Word), 0x10002000 ≤ a → a + 4 * n ≤ 0x10040000 → LiveClear s e a (4 * n) →
    (popAddrs a n).foldl f (s, .inl acc) =
    (s, .inl (acc ++ (List.range n).map (fun k => BitVec.ofNat 32 (ofLE (s.memGet (livePool s e (a + 4 * k)) 4))))) := by
  induction n with
  | zero => intro a acc _ _ _; simp [popAddrs]
  | succ n ih =>
    intro a acc h1 h2 hc
    have hc0 : LiveClear s e a 4 := ⟨by omega, by omega, fun b hb1 hb2 => hc.2.2 b hb1 (by omega)⟩
    have hc' : LiveClear s e (a + 4) (4 * n) := by
      refine ⟨by omega, by omega, fun b hb1 hb2 => hc.2.2 b ?_ ?_⟩
      · rw [livePool_add (by omega)] at hb1; omega
      · rw [livePool_add (by omega)] at hb2; omega
    rw [popAddrs_succ (by omega), List.foldl_cons, hf acc a h1 (by omega) hc0, ih (a + 4) _ (by omega) (by omega) hc', List.append_assoc,
      List.range_succ_eq_map, List.map_cons, List.map_map, List.singleton_append]
    have e2 : (List.range n).map (fun k => BitVec.ofNat 32 (ofLE (s.memGet (livePool s e (a + 4 + 4 * k)) 4))) =
        (List.range n).map ((fun k => BitVec.ofNat 32 (ofLE (s.memGet (livePool s e (a + 4 * k)) 4))) ∘ Nat.succ) := by
      apply List.map_congr_left
      intro k _
      simp only [Function.comp]
      rw [show a + 4 + 4 * k = a + 4 * (k + 1) by omega]
    rw [e2, Nat.mul_zero, Nat.add_zero]

/-- The fold of a pop over any read that answers a word at each address: the read stays a variable, so that the kernel has nothing to unfold. -/
theorem pop_reads (rd : Nat → Nat → Nat → State → State × MemEnd) (n : Nat) (a : Nat) (acc : List Word) (h1 : 0x10002000 ≤ a)
    (h2 : a + 4 * n ≤ 0x10040000) (hc : LiveClear s e a (4 * n))
    (hr : ∀ a, 0x10002000 ≤ a → a + 4 ≤ 0x10040000 → LiveClear s e a 4 →
      rd (s.lathe e).live (stackOfs a) 4 s = (s, .ok (s.memGet (livePool s e a) 4))) :
    (popAddrs a n).foldl (fun acc a =>
      match acc.2 with
      | .inr _ => acc
      | .inl ws =>
        match rd (acc.1.lathe e).live (stackOfs a) 4 acc.1 with
        | (t, .ok bs) => (t, .inl (ws ++ [BitVec.ofNat 32 (ofLE bs)]))
        | (t, _) => (t, .inr .restart)) ((s, .inl acc) : State × (List Word ⊕ LthEnd)) =
    (s, .inl (acc ++ (List.range n).map (fun k => BitVec.ofNat 32 (ofLE (s.memGet (livePool s e (a + 4 * k)) 4))))) :=
  pop_steps _ (fun ws a h1 h2 hc => by simp only [hr a h1 h2 hc]) n a acc h1 h2 hc

/-- Words read from the stack upward. -/
theorem pop_fold (n : Nat) (a : Nat) (acc : List Word) (h1 : 0x10002000 ≤ a) (h2 : a + 4 * n ≤ 0x10040000) (hc : LiveClear s e a (4 * n)) :
    (popAddrs a n).foldl (fun acc a =>
      match acc.2 with
      | .inr _ => acc
      | .inl ws =>
        match halfRead e (acc.1.lathe e).live (stackOfs a) 4 acc.1 with
        | (t, .ok bs) => (t, .inl (ws ++ [BitVec.ofNat 32 (ofLE bs)]))
        | (t, _) => (t, .inr .restart)) ((s, .inl acc) : State × (List Word ⊕ LthEnd)) =
    (s, .inl (acc ++ (List.range n).map (fun k => BitVec.ofNat 32 (ofLE (s.memGet (livePool s e (a + 4 * k)) 4))))) := by
  refine pop_reads (halfRead e) n a acc h1 h2 hc (fun a h1 h2 hc => ?_)
  rw [livePool_eq, stackOfs_eq (by omega) (by omega)]
  refine halfRead_clear (fun b hb1 hb2 => hc.2.2 b ?_ ?_)
  · rw [livePool_eq]; exact hb1
  · rw [livePool_eq]; omega

/-- Registers written one after the other leave the instruction pointer. -/
theorem foldl_setReg_ip (l : List (Nat × Word)) : ∀ (x : LthLevel) (i : Word),
    l.foldl (fun y r => y.setReg r.1 r.2) { x with ip := i } = { l.foldl (fun y r => y.setReg r.1 r.2) x with ip := i } := by
  induction l with
  | nil => intro x i; rfl
  | cons r l ih => intro x i; exact ih (x.setReg r.1 r.2) i

end Sys2Proof.Machine
end

