-- ==== Sys2Proof/Tests/Slice0.lean ====
section
/-! SUPPORT. The tests. A theorem `witness_<Statement>` gives, for the clauses of that statement that have hypotheses, states and operands that
meet them together, at the edge of their ranges. `test_illFormed<n>` are terms that WellFormed refuses, one for each of its checks. The other tests
take what they expect from the rules they name. Where a hypothesis asks for one of two values that the spec leaves open (log entries 2, 25, 52 and 55),
the witness shows that nothing else refuses the command. -/

namespace Sys2Proof.Machine

/-- The state with host port `p` passed through a function. -/
def State.updPort (s : State) (p : Nat) (f : HostPort → HostPort) : State := s.setPort p (f (s.port p))

/-- The state with Chisel engine `k` passed through a function. -/
def State.updChsEngine (s : State) (k : Nat) (f : ChsRun → ChsRun) : State := s.setEngine k (f (s.chsEngine k))

/-- The state with a retained record passed through a function. -/
def State.updRetained (s : State) (k key : Nat) (f : Retained → Retained) : State :=
  { s with jrnl := { s.jrnl with retained := Table.set {} s.jrnl.retained (k * 65536 + key) (f (s.retained k key)) } }

end Sys2Proof.Machine

namespace Sys2Proof.Tests

-- One theorem at a time: many at once would take a stack each.
set_option Elab.async false

open Sys2Proof Sys2Proof.Machine

/-- The machine after reset. -/
abbrev s0 : State := State.reset

/-- Engine 15 runs an image of 64 octets, and level `v`, the highest with work, is `x`. -/
def running (v : Nat) (x : LthLevel) : State :=
  s0.updLathe 15 (fun l => { l with loaded := true, bank0 := { l.bank0 with code := List.replicate 64 0 } }.setLevel v { x with active := true })

/-- A safety telegram with its check (R209). -/
def telegram (src dst type seq age : Nat) (body : List Byte) : List Byte :=
  let h := toBE 2 src ++ toBE 2 dst ++ toBE 1 type ++ toBE 1 0 ++ toBE 2 seq ++ toBE 2 age ++ toBE 2 body.length ++ body
  h ++ toBE 4 (telegramCheck src seq h)

/-- Little-endian fields: width in octets and value. -/
def le (l : List (Nat × Nat)) : List Byte := l.flatMap (fun p => toLE p.1 p.2)

/-- The device in a cell state after startup. -/
def op (k : Nat) : State := { State.reset with cell := { State.reset.cell with state := k, ready := true } }

/-- A signed image of 16 octets of code (R357). -/
def image : List Byte := le [(4, 0x4854414C), (2, 1), (2, 256), (12, 0), (4, 16), (20, 0), (2, 0xFFFF), (226, 0)]

/-! ### Direct tests -/

/-- First in, first out: the front command runs with the rest of the queue behind it. -/
theorem test_step_takes_the_front : step { s0 with pending := [.tapIdcode, .tapReset] } = exec .tapIdcode { s0 with pending := [.tapReset] } := rfl

/-- R486: one cycle of the clock adds 4 ns to every base. -/
theorem test_idle_adds_four_ns : (match step s0 with
    | .next t => some ((t.base 0).val, (t.base 7).val)
    | _ => none) = some (4 * 2 ^ 40, 4 * 2 ^ 40) := by decide

/-- The table gives no row bits, so no word spells a command. -/
theorem test_no_word_spells_a_command : decodeTableWord 16 0x0101 = none ∧ s0.withFetchWord 16 0x0101 = s0 := ⟨rfl, rfl⟩

/-- The queue is empty after reset, and the tick is 62.5 us (R10). -/
theorem test_reset_queue_and_tick : s0.pending = [] ∧ s0.tickLen = 62500 := by decide

/-- R332: an argument area of the wrong length is the first thing that refuses SYS.IDENTIFY, with DETAIL 2. -/
theorem test_wrong_length_refuses : needsSysIdentify {} [0] (op 2) = [] ++ (true, St.badParam, 2) :: [haltCell (op 2)] ∧ Passes [] := ⟨rfl, rfl⟩

/-- R209, R210: the check of a safety telegram is CRC-32C over the source, the sequence number and the telegram. -/
theorem test_telegram_is_intact : Intact (telegram 7 0 1 9 0 []) := by unfold Intact; decide +kernel

/-- R393: ADD wraps at the operand size and sets C and Z. -/
theorem test_add_wraps : (match exec (.lthAdd 15 [] 0x12) (running 1 { g := [(1, 0xFF), (2, 0x01)] }) with
    | .next t => some (((t.lthLevel 15 1).reg 1), (t.lthLevel 15 1).flags.z, (t.lthLevel 15 1).flags.c, (t.lthLevel 15 1).ip)
    | _ => none) = some (0, true, true, 2) := by decide

/-- R666: IDCODE puts the identity into the data register. -/
theorem test_idcode : (match exec .tapIdcode s0 with
    | .next t => some t.tap.dr
    | _ => none) = some 0x28860A3F := by decide

/-! ### Ill-formed commands -/

theorem test_illFormed1 : ∀ i ∈ ([
  .claimHoldover 16, .claimRevoke 256, .tillerUpdate 512 false false 0, .tillerUpdate 0 false false 4, .tillerWatchdog 9,
  .proposalLatch 16, .glumeChannelResult 16 ({}), .glumeDeadlineMiss 32, .safetyTelegramReceive [] (2 ^ 64), .sourceTimeout 32,
  .safeInputSample (2 ^ 32) 0, .safeInputSample 0 (2 ^ 32), .discrepancyTimeout 32, .testPulse 4 0 0,
  .outputTestPulse 32 false false false, .stop1Timeout 32, .eventCreditGrant 6, .bankHandover 6, .bankReturn 64, .responsePost 6,
  .eventPost 6, .heldCommandCommit 6 0, .heldCommandCommit 4 4096, .txnExpiry 0, .txnExpiry 65536, .longCommandComplete 6 0 0 [],
  .longCommandComplete 4 4096 0 [], .longCommandComplete 4 0 (2 ^ 32) [], .switchChatter 128 0, .homingShift 512, .homeNotFound 512,
  .homeNoIndex 512, .brakeOpenWait 512, .brakeCloseWait 512, .ddAlignComplete 512, .conversionComplete 4 0 0, .conversionComplete 0 16 0,
  .conversionComplete 0 0 65536, .mbxDataWrite 6 0 0, .mbxDataWrite 4 64 0, .mbxDataRead 6 0, .mbxDataRead 4 64, .remoteWord 256 0 0,
  .remoteWord 0 64 0, .receiverDomainUp 6, .mbxLockRead 6 0, .mbxLockRead 4 16, .mbxLockWrite 6 0 0, .mbxLockWrite 4 16 0,
  .mbxDbPendWrite 6 0, .mbxDbEnableWrite 6 0, .mbxDbRingWrite 6 0, .mbxEvcntRead 6 0, .mbxEvcntRead 4 64, .mbxDbEvcntRead 6 0,
  .mbxDbEvcntRead 4 8] : List Instr), i.wf = false := by decide

theorem test_illFormed2 : ∀ i ∈ ([
  .mbxBindWrite 6 0 0, .mbxBindWrite 4 64 0, .mbxBindLockWrite 6 0, .hostGtcLoRead 6, .hostAccessErrRead 6, .hostPortReset 6,
  .hostResetEnd 6, .qspiWrite (2 ^ 32) [], .qspiRead (2 ^ 32) 0, .qspiRead 0 (2 ^ 16), .latheReceiveEntry 16, .lthPostWrite 16 0,
  .lthTelemWrite 16 0, .latheInitStart 16, .latheSwapExecute 16, .migrationEnd 16, .latheRestart 16, .backgroundWatchdog 16, .lthNop 16 [],
  .lthEnd 16 [], .lthIdle 16 [], .lthRetx 16 [], .lthTrap 16 [] 0, .lthMov 16 [] 0, .lthMovi 16 [] 0 0, .lthMovi 0 [] 0 (2 ^ 8),
  .lthAdd 16 [] 0, .lthAddi 16 [] 0 0, .lthAddi 0 [] 0 (2 ^ 8), .lthAdc 16 [] 0, .lthSub 16 [] 0, .lthSubi 16 [] 0 0,
  .lthSubi 0 [] 0 (2 ^ 8), .lthSbc 16 [] 0, .lthCmp 16 [] 0, .lthCmpi 16 [] 0 0, .lthCmpi 0 [] 0 (2 ^ 8), .lthAnd 16 [] 0,
  .lthAndi 16 [] 0 0, .lthAndi 0 [] 0 (2 ^ 8), .lthOr 16 [] 0, .lthOri 16 [] 0 0, .lthOri 0 [] 0 (2 ^ 8), .lthXor 16 [] 0,
  .lthXori 16 [] 0 0, .lthXori 0 [] 0 (2 ^ 8), .lthTst 16 [] 0, .lthTsti 16 [] 0 0, .lthTsti 0 [] 0 (2 ^ 8), .lthShl 16 [] 0,
  .lthShli 16 [] 0 0, .lthShr 16 [] 0, .lthShri 16 [] 0 0, .lthSar 16 [] 0, .lthSari 16 [] 0 0, .lthRol 16 [] 0] : List Instr), i.wf = false := by decide

theorem test_illFormed3 : ∀ i ∈ ([
  .lthRoli 16 [] 0 0, .lthNot 16 [] 0, .lthNeg 16 [] 0, .lthMul 16 [] 0, .lthMuli 16 [] 0 0, .lthMuli 0 [] 0 (2 ^ 8), .lthBswap 16 [] 0,
  .lthExt 16 [] 0 0 0, .lthBtst 16 [] 0 0, .lthBset 16 [] 0 0, .lthBclr 16 [] 0 0, .lthLd 16 [] 0 0 0, .lthLd 0 [] 0 0 1,
  .lthLds 16 [] 0 0 0, .lthLds 0 [] 0 0 1, .lthSt 16 [] 0 0 0, .lthSt 0 [] 0 0 1, .lthLea 16 [] 0 0 0, .lthLea 0 [] 0 0 1,
  .lthXchg 16 [] 0 0 0, .lthXchg 0 [] 0 0 1, .lthCas 16 [] 0 0, .lthSti 16 [] 0 0 0 0, .lthSti 0 [] 0 0 0 (2 ^ 8), .lthSti 0 [] 0 0 1 0,
  .lthPush 16 [] 0, .lthPop 16 [] 0, .lthBccRel8 16 [] 0 0, .lthBccRel8 0 [] 16 0, .lthBccRel16 16 [] 0 0, .lthBccRel16 0 [] 16 0,
  .lthJmp 16 [] 0, .lthJmpa 16 [] 0, .lthCall 16 [] 0 0, .lthCallr 16 [] 0 0, .lthRet 16 [] 0, .lthBlkCopy 16 [] 0 0,
  .lthBlkCopy 0 [] 0 (2 ^ 32), .lthBlkFill 16 [] 0 0 0, .lthBlkFill 0 [] 0 0 (2 ^ 32), .lthBlkMatch 16 [] 0 0,
  .lthBlkMatch 0 [] 0 (2 ^ 32), .lthBlkSeek 16 [] 0 0 0, .lthBlkSeek 0 [] 0 0 (2 ^ 32), .lthBlkGather 16 [] 0 0, .chsPause 64 1,
  .chsPause 0 0, .chsPause 0 (2 ^ 16 + 1), .chsPins 64 0 0 0, .chsPins 0 256 0 0, .chsPins 0 0 256 0, .chsPins 0 0 0 4,
  .chsEmit 64 1 0 false [], .chsEmit 0 0 0 false [], .chsEmit 0 33 0 false [], .chsEmit 0 1 32 false []] : List Instr), i.wf = false := by decide

theorem test_illFormed4 : ∀ i ∈ ([
  .chsSample 64 1 0 [], .chsSample 0 0 0 [], .chsSample 0 33 0 [], .chsSample 0 1 32 [], .chsBranch 64 0 0 0 false,
  .chsBranch 0 16 0 0 false, .chsBranch 0 0 32 0 false, .chsBranch 0 0 0 32 false, .chsAwait 64 false 0 0 false,
  .chsAwait 0 false 4 0 false, .chsAwait 0 false 0 32 false, .chsAwaitTimeout 64, .chsCopy 64 0 0 0 0, .chsCopy 0 8 0 0 0,
  .chsCopy 0 0 8 0 0, .chsCopy 0 0 0 8 0, .chsData 64 false false, .chsLoad 64 false 0, .chsSignal 64 0 0, .chsSignal 0 4 0,
  .chsSignal 0 0 32, .chiselFifoResume 64 [], .chiselStart 8 0 false, .chiselStart 0 256 false, .chiselClockRestart 8 0,
  .chiselClockRestart 0 256, .chiselStop 8 0, .chiselStop 0 256, .chsCtrlWrite 8 0, .chsStoreWrite 8 0 0, .chsStoreWrite 0 24 0,
  .chsEDinWrite 64 0, .chsEDoutRead 64, .chsGcntRead 8, .chsECntRead 64, .frameReceive 12 [] false .whole 0,
  .frameReceive 0 [] false .whole (2 ^ 64), .pauseRefresh 12, .frameTransmitStart 30 0, .frameTransmitEnd 12, .txDescriptorTake 16,
  .rxRingDeliver 16, .deadlineWithdraw 30, .linkDown 12, .linkUp 12 0 false, .holdExpiry 12, .preemptVerify 12 .attempt,
  .gateListActivate 12, .gateChange 12, .swTxrIdxWrite 16 0, .swRxrIdxWrite 16 0, .macSnapWrite 6 0 0, .macSnapWrite 4 12 0,
  .nrwCounterRead 12 0, .nrwCounterRead 0 16, .canFrameReceive 4 false ({})] : List Instr), i.wf = false := by decide

theorem test_illFormed5 : ∀ i ∈ ([
  .canProtocolException 4, .canIntegrationEnd 4, .canTxLoad 4 0, .canTxLoad 0 32, .canTxCancel 4 0, .canTxCancel 0 32, .canTxRelease 4 0,
  .canTxRelease 0 32, .canBusoffRecoveryStart 4, .canRxFetchWrite 4 0, .canTxChoice 4, .canAttemptEnd 4 .ok, .canRecoveryEnd 4,
  .canCnt0Read 4, .canCnt1Read 4, .tbOfsWrite 6 0 0, .tbOfsWrite 4 8 0, .tbNsRead 6 0, .tbNsRead 4 8, .tbConvHiWrite 6 0 0,
  .tbConvHiWrite 4 8 0, .holdoverTimeout 8, .compareMatch 32, .cmpTargetWrite 6 0 0, .cmpTargetWrite 4 32 0, .captureEdge 8 false 0,
  .captureEdge 0 false (2 ^ 65), .capHiRead 8, .tbStatusRead 8, .cmpStatusRead 32, .capStatusRead 8, .fabricFrameReceive 4 ({}) 0,
  .fabricLinkUp 4, .fabricLinkDown 4 false, .slotWindowOpen 1024 false, .slotWindowClose 1024 false, .bulkSegmentReceive 256 0 0 0 0 .none,
  .bulkAckReceive 256 0 0, .bulkResend 256 0, .joinJ1Receive 4 0 none none none 0 false [],
  .joinJ1Receive 0 (2 ^ 64) none none none 0 false [], .joinJ2Receive (2 ^ 64) 0 [] [] 0, .joinJ2Receive 0 256 [] [] 0,
  .joinJ3Receive (2 ^ 64) [], .joinJ4Receive (2 ^ 64) 0 0, .joinJ4Receive 0 256 0, .fillFrame 16, .wakeRequest 256 0, .wakeRequest 0 256,
  .sleepingDeviceWake 4, .poolAccess 25 4 (.xchg []) 0, .poolAccess 0 64 (.xchg []) 0, .poolAccess 0 4 (.xchg []) (2 ^ 25),
  .poolOwnerWrite 6 0 0, .poolOwnerWrite 4 64 0, .poolHandoverComplete 64] : List Instr), i.wf = false := by decide

theorem test_illFormed6 : ∀ i ∈ ([
  .poolEccRead 64, .chkRunWrite 16 false 0, .chkCntRead 16, .scrubBurst 6 [], .scrubLate 6, .converterCalibration 4 0 0 false,
  .pwmTuning 24 0 false, .selfTestSlice 256 false, .eyeMonitor 16 false, .loopbackTest 16 false, .temperatureSample 256,
  .railResetThreshold 8, .recoverWord 64, .registerWrite 6 0 0, .registerWrite 4 (2 ^ 32) 0, .pauseTimeExpiry 12 0, .pauseTimeExpiry 0 256,
  .pllLockLoss 3, .awaitMatch 64 0, .canReceiveError 4 0 false, .canReceiveError 0 8 false, .norOperationComplete 2 0 0 false,
  .swTxrCredRead 16, .swRxrIdxRead 16, .tsInsCfgRead 16, .tickEdge [] 256, .jogTimeout 512, .jogTimeout 0x1010, .temperatureSample (-129),
  .bulkSegmentReceive 0 0 0 0 1 .none, .canFrameReceive 0 false { id := 2 ^ 29 }, .canFrameReceive 0 false { dlc := 16 },
  .canFrameReceive 0 false { data := List.replicate 65 0 }, .sysIdentify { port := 6 } [], .sysIdentify { tag := 4096 } [],
  .sysIdentify { bank := 64 } [], .sysIdentify { slot := 1024 } [], .sysIdentify { len := 1 } [], .sysIdentify { replyLen := 15 } [],
  .sysIdentify { replyLen := 32737 } [], .sysIdentify { target := 2 ^ 64 } [], .sysIdentify { txnId := 65536 } []] : List Instr), i.wf = false := by decide

/-- No NOR has more sectors than 512 MiB give. -/
theorem test_illFormed_sector : Instr.wf (.wearLevelMove 7294) = false := by
  have h : 2 ^ (Config.norSize % 3) ≤ 2 ^ 2 := Nat.pow_le_pow_right (by decide) (Nat.le_of_lt_succ (Nat.mod_lt _ (by decide)))
  show decide (7294 < levelled) = false
  unfold levelled norMiB
  exact decide_eq_false (by omega)

/-! ### Witnesses -/

/-- The image below passes every check but that of its signature, which is open (log entry 55). -/
theorem image_checks (s : State) (h : Config.imgSigned [] image = true) : checkImage image s = .inl (imageOf image (octets image 256 16)) := by
  have h1 : headerFine image = true := by decide +kernel
  have h2 : uAt image 18 1 = 0 := by decide +kernel
  have h3 : uAt image 19 1 = 0 := by decide +kernel
  have h4 : image.take (imageLen image) = image := by decide +kernel
  have h5 : imageLen image - 256 = 16 := by decide +kernel
  have h6 : (imageOf image (octets image 256 16)) = { entryMigrate := 0xFFFF, code := List.replicate 16 0 } := by decide +kernel
  have h7 : uAt image 20 4 = 16 := by decide +kernel
  simp only [checkImage, h1, h2, h3, h4, h5, h7]
  simp [h, h6, migFine]

theorem load_passes : Config.imgSigned [] image = true →
    Passes (needsLatheLoad {} (le [(4, 15), (4, 23)]) ((op 2).updImage 23 (fun r => { r with slotA := image, active := 1 }))) := by
  intro h
  have hi := image_checks ((op 2).updImage 23 (fun r => { r with slotA := image, active := 1 })) h
  have hs : ((op 2).updImage 23 (fun r => { r with slotA := image, active := 1 })).image 23 = { slotA := image, active := 1 } := by decide +kernel
  simp only [Passes, needsLatheLoad]
  have h23 : uAt (le [(4, 15), (4, 23)]) 4 2 = 23 := by decide
  rw [h23, hs]
  have ho : StoreEntry.octets { slotA := image, active := 1 } = image := rfl
  rw [ho, hi]
  decide +kernel

theorem store_passes : ∀ i, checkImage (((op 2).updPort 4 (fun r => { r with banks := 2 ^ 63, held := 2 ^ 63 })).bankOctets 63 0 0x80000) ((op 2).updPort 4 (fun r => { r with banks := 2 ^ 63, held := 2 ^ 63 })) = .inl i →
    Passes (needsLatheStore {} (le [(4, 0), (4, 63)]) ((op 2).updPort 4 (fun r => { r with banks := 2 ^ 63, held := 2 ^ 63 }))) := by
  intro i h
  simp only [Passes, needsLatheStore]
  have h63 : uAt (le [(4, 0), (4, 63)]) 4 2 = 63 := by decide
  rw [h63, h]
  rfl

theorem witness_StepRunsTheFrontCommand :
    ∃ (c : Instr) (q : List Instr) (s : State), s.pending = c :: q :=
  ⟨.tapReset, [.tapIdcode], { s0 with pending := [.tapReset, .tapIdcode] }, by decide⟩

theorem witness_EmptyQueueLetsOneClockCyclePass :
    ∃ (s : State), s.pending = [] :=
  ⟨s0, by decide⟩

theorem witness_EveryStepKeepsTheMemoryForm :
    ∃ (s t : State), Memory.wf s ∧ step s = .next t :=
  ⟨s0, _, by decide, rfl⟩

theorem witness_MinimumSecurityVersionNeverFalls :
    ∃ (s t : State), step s = .next t :=
  ⟨s0, _, rfl⟩

theorem witness_EveryCommandKeepsWhatItDoesNotTouch :
    ∃ (i : Instr) (s t : State), exec i s = .next t :=
  ⟨.tapReset, s0, _, rfl⟩

theorem witness_ProtectedStateChangesOnlyByNamedCommands :
    (∃ (i : Instr) (q : List Instr) (s t : State), s.pending = i :: q ∧ step s = .next t) ∧
    (∃ (i : Instr) (e : Nat) (p : List Byte) (s t : State), latheInstr i = some (e, p) ∧ exec i s = .next t) :=
  ⟨⟨.tapReset, [], { s0 with pending := [.tapReset] }, _, rfl, rfl⟩,
   ⟨.lthNop 15 [], 15, [], running 1 {}, _, rfl, rfl⟩⟩

theorem witness_WellFormedCommandsComplete :
    ∃ (i : Instr), i.wf = true :=
  ⟨.lthNop 15 [], by decide⟩

theorem witness_SysCommandsReportAndSetTheirPort :
    (Passes (needsSysIdentify {} [] (op 2))) ∧
    (Passes (needsSysHostSetup {} (le [(2, 448), (10, 0)]) (op 2))) ∧
    (Passes (needsSysStatus {} [] (op 2))) ∧
    (Passes (needsSysCancel {} (le [(4, 0)]) (op 2))) ∧
    (Passes (needsSysEventMask {} (le [(4, 0)]) (op 2))) ∧
    (Passes (needsSysReset {} [] (op 2))) :=
  ⟨by decide +kernel,
   by decide +kernel,
   by decide +kernel,
   by decide +kernel,
   by decide +kernel,
   by decide +kernel⟩

theorem witness_CellCommandsChangeTickStateAndTransactions :
    (Passes (needsCellSetTick {} (le [(1, 5), (3, 0)]) (op 2))) ∧
    (Passes (needsCellSetState {} (le [(1, 3), (71, 0)]) (op 2))) ∧
    (Passes (needsCellStatus {} [] (op 2))) ∧
    (Passes (needsCellTxnBegin {} (le [(4, 600000)]) (op 2))) ∧
    (Passes (needsCellTxnCommit {} (le [(4, 1)]) ({ op 2 with host.txns := [{ id := 1 }] }))) ∧
    (Passes (needsCellTxnAbort {} (le [(4, 1)]) ({ op 2 with host.txns := [{ id := 1 }] }))) :=
  ⟨by decide +kernel,
   by decide +kernel,
   by decide +kernel,
   by decide +kernel,
   by decide +kernel,
   by decide +kernel⟩

theorem witness_ArmConfigurationCommandsSetTheirArm :
    (Passes (needsArmDefine {} (le [(4, 15), (1, 1), (1, 0), (1, 0xFF), (1, 1), (1, 0xFF), (3, 0), (2, 0xFFFF), (2, 0), (12, 0), (4, 0x3F800000), (12, 0), (16, 0), (12, 0), (4, 0x3F800000), (12, 0), (16, 0), (2, 511), (2, 0), (4, 0x3F800000), (8, 0), (12, 0), (8, 1), (8, 0)]) (op 2))) ∧
    (Passes (needsArmSetDynamics {} (le [(4, 15), (4, 0), (12, 0), (24, 0), (4, 0), (4, 0x3F800000), (8, 0), (4, 0x3F800000)]) ((op 2).updArm 15 (fun r => { r with defined := true, joints := [{ axis := 511 }] })))) ∧
    (Passes (needsArmSetPayload {} (le [(4, 15), (44, 0)]) ((op 2).updArm 15 (fun r => { r with defined := true, joints := [{ axis := 511 }] })))) ∧
    (Passes (needsArmSetLimits {} (le [(4, 15), (4, 1), (4, 1), (4, 1), (4, 0x3F800000), (4, 0x3F800000), (4, 0x3F800000), (12, 0), (4, 1), (4, 1), (4, 1)]) ((op 2).updArm 15 (fun r => { r with defined := true, joints := [{ axis := 511 }] })))) ∧
    (Passes (needsArmSetIk {} (le [(4, 15), (4, 0x3F800000), (4, 0x3F800000), (4, 0x3F800000), (4, 0x3F800000), (4, 0x3F800000), (4, 0x3F800000), (4, 0x3F800000), (4, 0x3F800000), (4, 0x3E800000), (4, 1), (4, 0x3F800000), (4, 1), (4, 0x3E800000), (4, 1), (4, 0x3D800000), (1, 7)]) ((op 2).updArm 15 (fun r => { r with defined := true, joints := [{ axis := 511 }] })))) ∧
    (Passes (needsArmSetTool {} (le [(4, 15), (4, 7)]) ((op 2).updArm 15 (fun r => { r with defined := true, joints := [{ axis := 511 }] })))) ∧
    (Passes (needsArmSetFrame {} (le [(4, 15), (4, 31), (12, 0), (4, 0x3F800000), (12, 0)]) ((op 2).updArm 15 (fun r => { r with defined := true, joints := [{ axis := 511 }] })))) ∧
    (Passes (needsArmSetClaim {} (le [(4, 15), (4, 1), (4, 1), (12, 0), (4, 2000000), (4, 100000), (2, 4096), (2, 256)]) ((op 2).updArm 15 (fun r => { r with defined := true, joints := [{ axis := 511 }] })))) ∧
    (Passes (needsArmSetMode {} (le [(4, 15), (4, 1)]) ((op 2).updArm 15 (fun r => { r with defined := true, joints := [{ axis := 511 }] })))) :=
  ⟨by decide +kernel,
   by decide +kernel,
   by decide +kernel,
   by decide +kernel,
   by decide +kernel,
   by decide +kernel,
   by decide +kernel,
   by decide +kernel,
   by decide +kernel⟩

theorem witness_ArmMotionCommandsPlanHoldAndStop :
    (Passes (needsArmMoveJoint {} (le [(4, 15), (2, 0), (2, 0x8000), (8, 0)]) (((op 4).updArm 15 (fun r => { r with defined := true, joints := [{ axis := 511 }] })).updAxis 511 (fun r => { r with mode := 1, lim.velMax := 1 })))) ∧
    (Passes ((needsArmMoveCart {} (le [(4, 15), (1, 0), (1, 15), (1, 0xFF), (1, 0), (12, 0), (4, 0x3F800000), (12, 0), (4, 0), (4, 0x8000)]) (((op 4).updArm 15 (fun r => { r with defined := true, joints := [{ axis := 511 }], mode := 1, tcpVel := 1, tcpAcc := 1, tcpJerk := 1, rotVel := 1, rotAcc := 1, rotJerk := 1 })).updAxis 511 (fun r => { r with mode := 1, lim.velMax := 1, refValid := true }))).eraseIdx 10)) ∧
    (Passes (((needsArmMoveArc {} (le [(4, 15), (1, 0), (1, 15), (1, 0xFF), (1, 0), (12, 0), (4, 1000), (8, 0), (4, 0x3F800000), (12, 0), (4, 0), (4, 0x8000)]) (((op 4).updArm 15 (fun r => { r with defined := true, joints := [{ axis := 511 }], mode := 1, tcpVel := 1, tcpAcc := 1, tcpJerk := 1, rotVel := 1, rotAcc := 1, rotJerk := 1 })).updAxis 511 (fun r => { r with mode := 1, lim.velMax := 1, refValid := true }))).eraseIdx 10).eraseIdx 10)) ∧
    (Passes (needsArmHold {} (le [(4, 15), (4, 60000000)]) (((op 3).updArm 15 (fun r => { r with defined := true, joints := [{ axis := 511 }] })).updAxis 511 (fun r => { r with mode := 1 })))) ∧
    (Passes (needsArmResume {} (le [(4, 15)]) (((op 3).updArm 15 (fun r => { r with defined := true, joints := [{ axis := 511 }], gen.held := true })).updAxis 511 (fun r => { r with mode := 1 })))) ∧
    (Passes (needsArmStop {} (le [(4, 15)]) (((op 3).updArm 15 (fun r => { r with defined := true, joints := [{ axis := 511 }] })).updAxis 511 (fun r => { r with mode := 1 })))) ∧
    (Passes (needsArmJog {} (le [(4, 15), (4, 0xFF), (24, 0), (8, 0), (4, 16000)]) (((op 3).updArm 15 (fun r => { r with defined := true, joints := [{ axis := 511 }] })).updAxis 511 (fun r => { r with mode := 1, lim.velMax := 1 })))) ∧
    (Passes (needsArmStatus {} (le [(4, 15)]) (op 2))) :=
  ⟨by decide +kernel,
   by decide +kernel,
   by decide +kernel,
   by decide +kernel,
   by decide +kernel,
   by decide +kernel,
   by decide +kernel,
   by decide +kernel⟩

theorem witness_AxisConfigurationCommandsSetTheirAxis :
    (Passes (needsAxisBind {} (le [(4, 511), (1, 3), (7, 0), (1, 0xFF), (3, 0)]) (op 2))) ∧
    (Passes (needsAxisConfig {} (le [(4, 511), (1, 16), (1, 15), (1, 3), (1, 64), (2, 0), (2, 0x8000), (2, 0x8000), (2, 0), (8, 0), (8, 2 ^ 43), (4, 0x3F800000), (4, 0x3F800000), (4, 0x3F800000)]) (op 2))) ∧
    (Passes (needsAxisSetLimits {} (le [(4, 511), (8, 3 * 2 ^ 62), (8, 2 ^ 62), (1, 1), (8, 1), (8, 1), (8, 1), (8, 1), (4, 1000000), (8, 1)]) (op 2))) ∧
    (Passes (needsAxisSetLoop {} (le [(4, 511), (44, 0), (1, 7), (1, 3)]) (op 2))) ∧
    (Passes (needsAxisSetNotch {} (le [(4, 511), (1, 1), (1, 0), (1, 1), (32, 0)]) (op 2))) ∧
    (Passes (needsAxisCamTable {} (le [(4, 63), (4, 2), (20, 0), (8, 1), (12, 0)]) (op 2))) ∧
    (Passes (needsAxisSwitchConfig {} (le [(4, 511), (1, 127), (1, 126), (1, 125), (1, 1), (1, 1), (1, 1), (1, 0), (2, 4096)]) (op 2))) ∧
    (Passes (needsAxisSwitchClear {} (le [(4, 127)]) (op 2))) ∧
    (Passes (needsAxisDdConfig {} (le [(4, 511), (1, 0), (1, 1), (8, 1), (8, 0), (4, 0x3F800000), (4, 0x3F800000), (4, 0x3F800000), (4, 0x3F800000), (4, 0x3F800000), (4, 0x3F800000), (4, 0x3F800000), (3, 0xFFFFFF), (4, 0x3F800000), (2, 0), (4, 0x3F800000), (4, 0x40A00000), (4, 0x42F00000), (2, 0xFFFF), (4, 0)]) (op 2))) ∧
    (Passes (needsAxisDdPwm {} (le [(4, 6)]) (op 2))) ∧
    (Passes (needsAxisStatus {} (le [(4, 511)]) (op 2))) :=
  ⟨by decide +kernel,
   by decide +kernel,
   by decide +kernel,
   by decide +kernel,
   by decide +kernel,
   by decide +kernel,
   by decide +kernel,
   by decide +kernel,
   by decide +kernel,
   by decide +kernel,
   by decide +kernel⟩

theorem witness_AxisMotionCommandsPlanHoldAndCouple :
    (Passes (needsAxisSetMode {} (le [(4, 511), (4, 1)]) ((op 3).updAxis 511 (fun r => { r with binding := .virtual, coef.kp.m := 1, coef.kvp.m := 1 })))) ∧
    (Passes (needsAxisMove {} (le [(4, 511), (2, 0), (2, 0x8000), (8, 0)]) ((op 4).updAxis 511 (fun r => { r with mode := 1, lim.velMax := 1 })))) ∧
    (Passes (needsAxisMoveVel {} (le [(4, 511), (8, 1)]) ((op 4).updAxis 511 (fun r => { r with mode := 1, lim.velMax := 1 })))) ∧
    (Passes (needsAxisHold {} (le [(4, 511), (4, 60000000)]) ((op 3).updAxis 511 (fun r => { r with mode := 1 })))) ∧
    (Passes (needsAxisResume {} (le [(4, 511)]) ((op 3).updAxis 511 (fun r => { r with mode := 1, gen.held := true })))) ∧
    (Passes (needsAxisStop {} (le [(4, 511)]) ((op 3).updAxis 511 (fun r => { r with mode := 1 })))) ∧
    (Passes (needsAxisGear {} (le [(4, 511), (4, 0xFF), (4, 510), (4, 0), (4, 1), (8, 0)]) (((op 4).updAxis 511 (fun r => { r with mode := 1, lim.velMax := 1, coef.kp.m := 1, coef.kvp.m := 1 })).updAxis 510 (fun r => { r with mode := 1 })))) ∧
    (Passes (needsAxisCam {} (le [(4, 511), (1, 63), (1, 0), (1, 0xFF), (1, 0), (4, 510), (16, 0)]) ((((op 4).updAxis 511 (fun r => { r with mode := 1, lim.velMax := 1, coef.kp.m := 1, coef.kvp.m := 1 })).updAxis 510 (fun r => { r with mode := 1 })).updCam 63 (fun r => { r with points := [(0, 0, 0)] })))) ∧
    (Passes (needsAxisHome {} (le [(4, 511), (1, 7), (68, 0)]) ((op 3).updAxis 511 (fun r => { r with mode := 1, lim.velMax := 1 })))) ∧
    (Passes (needsAxisJog {} (le [(4, 511), (8, 1), (8, 0), (4, 16000)]) ((op 3).updAxis 511 (fun r => { r with mode := 1, lim.velMax := 1, coef.kp.m := 1, coef.kvp.m := 1 })))) ∧
    (Passes (needsAxisDdAlign {} (le [(4, 511), (4, 0), (4, 1)]) ((op 3).updAxis 511 (fun r => { r with binding := .dd 0 0 0 })))) :=
  ⟨by decide +kernel,
   by decide +kernel,
   by decide +kernel,
   by decide +kernel,
   by decide +kernel,
   by decide +kernel,
   by decide +kernel,
   by decide +kernel,
   by decide +kernel,
   by decide +kernel,
   by decide +kernel⟩

theorem witness_AxisEventsTakeEffectOnTheirAxis :
    (∃ (pin : Nat), pin < 128) ∧
    (∃ (a : Nat) (s : State) (h : Homing) (p : Int), a < 512 ∧ (s.axis a).homing = some h ∧ h.home = some p ∧ (s.axis a).homeState = 6 ∧ s.atRest a = true ∧ h.moveAfter = 0) ∧
    (∃ (a : Nat) (s : State), a < 512 ∧ (s.axis a).homeState ∈ [1, 2, 4, 5]) ∧
    (∃ (a : Nat) (s : State), a < 512 ∧ (s.axis a).homeState = 5) ∧
    (∃ (a : Nat) (s : State), a < 512 ∧ (s.axis a).jogUntil.isSome = true) ∧
    (∃ (n : Nat) (s : State), n < 16 ∧ (s.arm n).jogUntil.isSome = true) ∧
    (∃ (a : Nat), a < 512) ∧
    (∃ (a : Nat) (s : State), a < 512 ∧ (s.axis a).disableAt.isSome = true) ∧
    (∃ (a : Nat) (s : State), a < 512 ∧ (s.axis a).align.isSome = true) ∧
    (∃ (c i : Nat) (s : State), c < 4 ∧ bitAt (s.adc c).inputEn i = true) ∧
    (∃ (c i : Nat) (s : State), c < 4 ∧ bitAt (s.adc c).inputEn i = false) ∧
    (∃ (a : Nat) (s : State), a < 512 ∧ (s.axis a).align = none) ∧
    (∃ (a : Nat) (s : State), a < 512 ∧ (s.axis a).disableAt = none) :=
  ⟨⟨127, by decide⟩,
   ⟨511, s0.updAxis 511 (fun r => { r with homing := some { home := some 0 }, homeState := 6 }), { home := some 0 }, 0, by decide⟩,
   ⟨511, s0.updAxis 511 (fun r => { r with homeState := 5 }), by decide⟩,
   ⟨511, s0.updAxis 511 (fun r => { r with homeState := 5 }), by decide⟩,
   ⟨511, s0.updAxis 511 (fun r => { r with jogUntil := some 0 }), by decide⟩,
   ⟨15, s0.updArm 15 (fun r => { r with jogUntil := some 0 }), by decide⟩,
   ⟨511, by decide⟩,
   ⟨511, s0.updAxis 511 (fun r => { r with disableAt := some 0 }), by decide⟩,
   ⟨511, s0.updAxis 511 (fun r => { r with align := some 0 }), by decide⟩,
   ⟨3, 0, s0.updAdc 3 (fun r => { r with inputEn := 2 ^ 0 }), by decide⟩,
   ⟨3, 0, s0, by decide⟩,
   ⟨511, s0.updAxis 511 (fun r => { r with align := none }), by decide⟩,
   ⟨511, s0.updAxis 511 (fun r => { r with disableAt := none }), by decide⟩⟩

theorem witness_SafeAndZoneCommandsLoadConfirmAndDefine :
    (Passes (needsSafeLoad {} (le [(4, 63), (4, 0), (4, 4), (4, 4)]) ({ ((op 2).updPort 4 (fun r => { r with banks := 2 ^ 63, held := 2 ^ 63 })) with pool.mem := [4, 5, 6, 7].map (fun i => (63 * 0x80000 + i, 0xFF)) }))) ∧
    (Passes (needsSafeConfirm {} (le [(4, 7)]) ({ op 2 with glume.pendingBlock := some ({ crc := 7 }, 0) }))) ∧
    (Passes (needsSafeStatus {} [] (op 2))) ∧
    (Passes (needsSafeCounters {} [] (op 2))) ∧
    (Passes (needsZoneDefine {} (le [(4, 4095), (2, 0x101), (12, 0), (4, 1000000), (4, 1000000), (4, 1000000), (4, 0x3F800000), (12, 0)]) (op 2))) ∧
    (Passes (needsZoneUnblock {} (le [(4, 4095)]) ({ op 2 with claim.blocked := [(4095, 1)] }))) ∧
    (Passes (needsZoneStatus {} (le [(4, 4095)]) (op 2))) ∧
    (Passes (needsZoneCounters {} (le [(4, 15)]) (op 2))) :=
  ⟨by decide +kernel,
   by decide +kernel,
   by decide +kernel,
   by decide +kernel,
   by decide +kernel,
   by decide +kernel,
   by decide +kernel,
   by decide +kernel⟩

theorem witness_JournalAndDiagnosisCommandsRecordAndReport :
    (Passes (needsJrnlRead {} (le [(12, 0), (4, 63)]) (op 2))) ∧
    (Passes (needsJrnlMark {} (le [(16, 0)]) (op 2))) ∧
    (Passes (needsJrnlCommit {} [] (op 2))) ∧
    (Passes (needsJrnlStatus {} [] (op 2))) ∧
    (Passes (needsDiagTickLoad {} (le [(4, 0)]) (op 2))) ∧
    (Passes (needsDiagAxisLoop {} (le [(4, 511)]) (op 2))) ∧
    (Passes (needsDiagAxisCounters {} (le [(4, 511)]) (op 2))) ∧
    (Passes (needsDiagTiller {} [] (op 2))) ∧
    (Passes (needsDiagBlocks {} [] (op 2))) ∧
    (Passes (needsDiagTelemetry {} (le [(1, 1), (1, 11), (2, 63), (2, 16), (18, 0), (2, 1), (2, 511)]) (op 2))) :=
  ⟨by decide +kernel,
   by decide +kernel,
   by decide +kernel,
   by decide +kernel,
   by decide +kernel,
   by decide +kernel,
   by decide +kernel,
   by decide +kernel,
   by decide +kernel,
   by decide +kernel⟩

theorem witness_NetworkCommandsDefineRunAndConfigure :
    (Passes (needsNetPortConfig {} (le [(4, 11), (4, 97152), (12, 0), (4, 4096), (104, 0)]) (op 2))) ∧
    (Passes (needsNetDefine {} (le [(4, 31), (25, 0)]) (op 2))) ∧
    (Passes (needsNetStart {} (le [(4, 31)]) ((op 2).updNet 31 (fun r => { r with defined := true })))) ∧
    (Passes (needsNetStop {} (le [(4, 31)]) ((op 2).updNet 31 (fun r => { r with defined := true, started := true })))) ∧
    (Passes (needsNetStatus {} (le [(4, 31)]) (op 2))) ∧
    (Passes (needsNetSnapshot {} (le [(4, 11)]) (op 2))) ∧
    (Passes (needsNetStats {} (le [(4, 11), (4, 1)]) (op 2))) ∧
    (Passes (needsNetAcyclic {} (le [(4, 31)]) ((op 2).updNet 31 (fun r => { r with defined := true, started := true })))) ∧
    (Passes (needsNetMirror {} (le [(4, 29), (1, 3), (1, 1), (1, 29), (1, 1), (1, 0), (2, 1)]) (op 2))) ∧
    (Passes (needsNetSchedule {} (le [(4, 11), (4, 1), (8, 0), (4, 125000), (1, 0xFF), (3, 0), (4, 125000)]) (op 2))) ∧
    (Passes (needsNetCanConfig {} (le [(4, 3), (4, 0), (4, 70 * 2 ^ 9 + 10 * 2 ^ 17), (4, 30 * 2 ^ 5 + 10 * 2 ^ 10)]) (op 2))) :=
  ⟨by decide +kernel,
   by decide +kernel,
   by decide +kernel,
   by decide +kernel,
   by decide +kernel,
   by decide +kernel,
   by decide +kernel,
   by decide +kernel,
   by decide +kernel,
   by decide +kernel,
   by decide +kernel⟩

theorem witness_LatheCommandsStoreLoadSwapAndReport :
    (∀ i, checkImage (((op 2).updPort 4 (fun r => { r with banks := 2 ^ 63, held := 2 ^ 63 })).bankOctets 63 0 0x80000) ((op 2).updPort 4 (fun r => { r with banks := 2 ^ 63, held := 2 ^ 63 })) = .inl i →
      Passes (needsLatheStore {} (le [(4, 0), (4, 63)]) ((op 2).updPort 4 (fun r => { r with banks := 2 ^ 63, held := 2 ^ 63 })))) ∧
    ((Config.imgSigned [] image = true →
      Passes (needsLatheLoad {} (le [(4, 15), (4, 23)]) ((op 2).updImage 23 (fun r => { r with slotA := image, active := 1 }))))) ∧
    (Passes (needsLatheSwap {} (le [(4, 15)]) ((op 2).updLathe 15 (fun r => { r with loaded := true, shadowLoaded := true })))) ∧
    (Passes (needsLatheStatus {} (le [(4, 15)]) (op 2))) ∧
    (Passes (needsLatheCounters {} (le [(4, 15)]) (op 2))) ∧
    (Passes (needsLatheTelemetry {} (le [(4, 15)]) (op 2))) ∧
    (Passes (needsLatheEnrollKey {} (le [(4, 0)]) (op 2))) :=
  ⟨store_passes,
   load_passes,
   by decide +kernel,
   by decide +kernel,
   by decide +kernel,
   by decide +kernel,
   by decide +kernel⟩

theorem witness_FabricCommandsJoinLeaveScheduleAndSleep :
    (Passes (needsFabSetKey {} (le [(32, 0)]) (op 2))) ∧
    (Passes (needsFabJoin {} (le [(3, 0), (1, 3), (4, 0), (4, 0xFFFFFFFF), (4, 0)]) ({ op 2 with fab.key := some [] }))) ∧
    (Passes (needsFabLeave {} [] ({ op 2 with cell.role := 1, fab.master := 1 }))) ∧
    (Passes (needsFabSchedule {} (le [(4, 2), (4, 0), (4, 0), (2, 44), (2, 8), (4, 0x50000), (4, 1000), (2, 44), (2, 8)]) ({ op 2 with cell.role := 0 }))) ∧
    (Passes (needsFabStatus {} [] (op 2))) ∧
    (Passes (needsFabSleep {} (le [(32, 0)]) ({ op 2 with cell.role := 0 }))) ∧
    (Passes (needsFabWake {} [] ({ op 2 with cell.role := 0 }))) :=
  ⟨by decide +kernel,
   by decide +kernel,
   by decide +kernel,
   by decide +kernel,
   by decide +kernel,
   by decide +kernel,
   by decide +kernel⟩

theorem witness_PairCommandsAssignReleaseAndSwap :
    (Passes ((needsFabAssignShadow {} (le [(1, 1), (3, 0)]) ((({ op 2 with cell.role := 0, fab.mine := 1, fab.sched.slots := [{ owner := 0, kind := 2, start := 100, len := 20 }, { owner := 1, start := 200, len := 44 }, { owner := 0, kind := 3, start := 300, len := 264 }] }).updFabNode 0 (fun r => { r with member := true, rings := 1 })).updFabNode 1 (fun r => { r with member := true, role := 3, rings := 1 }))).eraseIdx 8)) ∧
    (Passes (needsFabReleaseShadow {} [] ({ op 2 with cell.role := 0, pair.role := 1 }))) ∧
    (Passes (needsFabSwitchover { port := 0 } [] (op 2))) ∧
    (Passes (needsFabSetReplLevel { port := 0 } (le [(4, 0)]) (op 2))) ∧
    (Passes (needsFabPairStatus {} [] (op 2))) :=
  ⟨by decide +kernel,
   by decide +kernel,
   by decide +kernel,
   by decide +kernel,
   by decide +kernel⟩

theorem witness_TimeAndFirmwareCommandsTakeEffect :
    (Passes (needsTimeConfig {} (le [(4, 7), (4, 2 ^ 20), (20, 0), (4, 0xFF)]) (op 2))) ∧
    (Passes (needsTimeStatus {} (le [(4, 7)]) (op 2))) ∧
    (Passes (needsTimeCompare {} (le [(4, 31), (16, 0)]) ((op 2).updCmp 31 (fun r => { r with owner := 4 })))) ∧
    (Passes (needsTimeCapture {} (le [(4, 7), (4, 0)]) (op 2))) ∧
    (Passes (needsTimeSet {} (le [(4, 6), (8, 0), (4, 999999999)]) (op 2))) ∧
    (Passes (needsFwLoad {} (le [(4, 63), (4, 0), (4, 0x80000)]) ((op 2).updPort 4 (fun r => { r with banks := 2 ^ 63, held := 2 ^ 63 })))) ∧
    (Passes (needsFwActivate {} [] (op 2))) ∧
    (Passes (needsFwStatus {} [] (op 2))) :=
  ⟨by decide +kernel,
   by decide +kernel,
   by decide +kernel,
   by decide +kernel,
   by decide +kernel,
   by decide +kernel,
   by decide +kernel,
   by decide +kernel⟩

theorem witness_MailboxWordsAreStoredReadAndRefused :
    (∃ (m ch : Nat) (s : State), ch < 64 ∧ s.isSender (s.chan ch) m = true ∧ (s.chan ch).full = false) ∧
    (∃ (m ch : Nat) (s : State), ch < 64 ∧ s.isSender (s.chan ch) m = true ∧ (s.chan ch).full = true) ∧
    (∃ (m ch : Nat) (s : State), ch < 64 ∧ s.isSender (s.chan ch) m = false) ∧
    (∃ (m ch : Nat) (s : State), ch < 64 ∧ (s.chan ch).isReceiver m = true ∧ (s.chan ch).full = true) ∧
    (∃ (m ch : Nat) (s : State), ch < 64 ∧ (s.chan ch).isReceiver m = true ∧ (s.chan ch).full = false) ∧
    (∃ (m ch : Nat) (s : State), ch < 64 ∧ (s.chan ch).isReceiver m = false) ∧
    (∃ (node ch : Nat) (s : State), ch < 64 ∧ (s.chan ch).valid = true ∧ (s.chan ch).sender = 0x3F ∧ ((s.chan ch).remoteNode = 0xFF ∨ (s.chan ch).remoteNode = node)) ∧
    (∃ (m ch : Nat) (s : State), ch < 64 ∧ (s.isSender (s.chan ch) m = true ∨ (s.chan ch).isReceiver m = true)) :=
  ⟨⟨0, 63, s0.updChan 63 (fun r => { r with valid := true }), by decide⟩,
   ⟨0, 63, s0.updChan 63 (fun r => { r with valid := true, full := true }), by decide⟩,
   ⟨0, 63, s0, by decide⟩,
   ⟨0, 63, s0.updChan 63 (fun r => { r with valid := true, full := true }), by decide⟩,
   ⟨0, 63, s0.updChan 63 (fun r => { r with valid := true }), by decide⟩,
   ⟨0, 63, s0, by decide⟩,
   ⟨0, 63, ((s0.updChan 63 (fun r => { r with valid := true })).updChan 63 (fun r => { r with sender := 0x3F })).updChan 63 (fun r => { r with remoteNode := 0xFF }), by decide⟩,
   ⟨0, 63, s0.updChan 63 (fun r => { r with valid := true }), by decide⟩⟩

theorem witness_LocksDoorbellsAndBindings :
    (∃ (k : Nat) (s : State), k < 16 ∧ s.lock k = none) ∧
    (∃ (k o : Nat) (s : State), k < 16 ∧ s.lock k = some o) ∧
    (∃ (m k : Nat) (s : State), k < 16 ∧ s.lock k = some m) ∧
    (∃ (k o : Nat) (s : State), k < 16 ∧ s.lock k = some o ∧ o ≠ 0) ∧
    (∃ (m k : Nat) (s : State), k < 16 ∧ m ≠ 0 ∧ s.lock k ≠ some m) ∧
    (∃ (m : Nat) (w : Word), mayRing m (field w.toNat 0 6) (field w.toNat 8 5) = false) ∧
    (∃ (j : Nat), j < 8) ∧
    (∃ (ch : Nat) (s : State), ch < 64 ∧ s.mbx.bindLocked = false) ∧
    (∃ (m : Nat) (s : State), (m ≠ 0 ∨ s.mbx.bindLocked = true)) ∧
    (∃ (w : Word), bitAt w.toNat 0 = true) ∧
    (∃ (m : Nat), m ≠ 0) ∧
    (∃ (m : Nat) (s : State), m ∈ s.mbx.waking) :=
  ⟨⟨15, s0, by decide⟩,
   ⟨15, 1, s0.setLock 15 (some 1), by decide⟩,
   ⟨1, 15, s0.setLock 15 (some 1), by decide⟩,
   ⟨15, 1, s0.setLock 15 (some 1), by decide⟩,
   ⟨1, 15, s0, by decide⟩,
   ⟨4, 0, by decide⟩,
   ⟨7, by decide⟩,
   ⟨63, { s0 with mbx.bindLocked := false }, by decide⟩,
   ⟨1, s0, by decide⟩,
   ⟨1, by decide⟩,
   ⟨1, by decide⟩,
   ⟨1, { s0 with mbx.waking := [1] }, by decide⟩⟩

theorem witness_TimeBaseCompareAndCaptureRows :
    (∃ (n e : Nat) (o : Word) (s : State), n < 8 ∧ e < 16 ∧ s.baseLathe n = some e ∧ (s.base n).servoEn = true ∧ ((s.base n).stepNs = 0 ∨ (toS 32 o.toNat).natAbs < (s.base n).stepNs * 2 ^ 16)) ∧
    (∃ (n e : Nat) (o : Word) (s : State), n < 8 ∧ e < 16 ∧ s.baseLathe n = some e ∧ (s.base n).servoEn = true ∧ 0 < (s.base n).stepNs ∧ (s.base n).stepNs * 2 ^ 16 ≤ (toS 32 o.toNat).natAbs) ∧
    (∃ (n e : Nat) (s : State), n < 8 ∧ e < 16 ∧ s.baseLathe n = some e ∧ (s.base n).servoEn = false) ∧
    (∃ (m n : Nat) (s : State), (∀ e, s.baseLathe n = some e → m ≠ 0x10 + e)) ∧
    (∃ (n : Nat), n < 8) ∧
    (∃ (n e : Nat) (s : State), 0 < n ∧ n < 8 ∧ e < 16 ∧ s.baseLathe n = some e) ∧
    (∃ (n : Nat) (s : State), n < 8 ∧ (s.base n).servoEn = true ∧ (s.base n).holdover = false) ∧
    (∃ (u : Nat) (s : State), 4 < u ∧ u < 32 ∧ (s.cmp u).arm = true) ∧
    (∃ (u : Nat) (s : State), 0 < u ∧ u < 32 ∧ s.converterUnit u = false ∧ (s.cmp u).arm = false) ∧
    (∃ (m u : Nat) (s : State), ownsUnit s m u = true) ∧
    (∃ (m u : Nat) (s : State), ownsUnit s m u = false) ∧
    (∃ (p : Nat) (rising : Bool) (s : State), p < 8 ∧ bitAt (s.cap p).edge (if rising then 0 else 1) = true) ∧
    (∃ (p : Nat) (s : State), p < 8 ∧ (s.cap p).snap = false) ∧
    (∃ (p : Nat) (s : State), p < 8 ∧ (s.cap p).snap = true) ∧
    (∃ (n : Nat), n < 8) ∧
    (∃ (u : Nat), u < 32) ∧
    (∃ (p : Nat), p < 8) ∧
    (∃ (n : Nat), n < 16) :=
  ⟨⟨7, 15, 0, (s0.updNet 31 (fun r => { r with defined := true, tb := 7, engine := 15 })).updBase 7 (fun r => { r with servoEn := true }), by decide⟩,
   ⟨7, 15, 65536, (s0.updNet 31 (fun r => { r with defined := true, tb := 7, engine := 15 })).updBase 7 (fun r => { r with servoEn := true, stepNs := 1 }), by decide⟩,
   ⟨7, 15, (s0.updNet 31 (fun r => { r with defined := true, tb := 7, engine := 15 })), by decide⟩,
   ⟨0, 0, s0, by decide⟩,
   ⟨7, by decide⟩,
   ⟨7, 15, (s0.updNet 31 (fun r => { r with defined := true, tb := 7, engine := 15 })), by decide⟩,
   ⟨7, (s0.updBase 7 (fun r => { r with servoEn := true })).updBase 7 (fun r => { r with holdover := false }), by decide⟩,
   ⟨31, s0.updCmp 31 (fun r => { r with arm := true }), by decide⟩,
   ⟨31, s0.updCmp 31 (fun r => { r with arm := false }), by decide⟩,
   ⟨4, 31, s0.updCmp 31 (fun r => { r with owner := 4 }), by decide⟩,
   ⟨0, 0, s0, by decide⟩,
   ⟨7, true, s0.updCap 7 (fun r => { r with edge := 1 }), by decide⟩,
   ⟨7, s0.updCap 7 (fun r => { r with snap := false }), by decide⟩,
   ⟨7, s0.updCap 7 (fun r => { r with snap := true }), by decide⟩,
   ⟨7, by decide⟩,
   ⟨31, by decide⟩,
   ⟨7, by decide⟩,
   ⟨15, by decide⟩⟩

theorem witness_PoolAccessesFollowOwnership :
    (∃ (port act ofs n : Nat) (s : State), port < 25 ∧ ofs < 64 * 0x80000 ∧ s.poolOk (portMaster port act) ofs n = true ∧ 0 < n ∧ (∀ w ∈ wordsOf ofs n, w ∉ s.pool.ueWords)) ∧
    (∃ (port act ofs : Nat) (bs : List Byte) (s : State), port < 25 ∧ port ≠ 7 ∧ ofs < 64 * 0x80000 ∧ s.poolOk (portMaster port act) ofs bs.length = true ∧ (∀ w ∈ wordsOf ofs bs.length, w ∉ s.pool.ueWords)) ∧
    (∃ (port act ofs : Nat) (bs : List Byte) (s : State), (port < 8 ∨ port = 24) ∧ ofs < 64 * 0x80000 ∧ s.poolOk (portMaster port act) ofs bs.length = false) ∧
    (∃ (port act ofs n : Nat) (s : State), (port < 8 ∨ port = 24) ∧ ofs < 64 * 0x80000 ∧ s.poolOk (portMaster port act) ofs n = false) ∧
    (∃ (port : Nat), 25 ≤ port) ∧
    (∃ (port act ofs : Nat) (bs : List Byte) (s : State), 8 ≤ port ∧ port < 24 ∧ ofs < 64 * 0x80000 ∧ ofs / 8 = (ofs + bs.length - 1) / 8 ∧ s.poolOk (portMaster port act) ofs bs.length = true ∧ ofs / 8 ∉ s.pool.ueWords ∧ 0 < bs.length) ∧
    (∃ (m b : Nat) (w : Word) (s : State), b < 64 ∧ ((m = 0 ∧ bitAt w.toNat 7 = true) ∨ (m < 4 ∧ s.owns m b = true) ∨ (m = 0x20 ∧ s.owns m b = true))) ∧
    (∃ (m b : Nat) (w : Word) (s : State), b < 64 ∧ bitAt w.toNat 7 = false ∧ s.owns m b = false) ∧
    (∃ (b : Nat) (s : State), (s.bank b).pending = true) ∧
    (∃ (b : Nat), b < 64) ∧
    (∃ (n : Nat), n < 16) ∧
    (∃ (n : Nat), n < 16) :=
  ⟨⟨24, 0, 64 * 0x80000 - 8, 8, s0.updBank 63 (fun r => { r with owner := 0x20 }), by decide⟩,
   ⟨24, 0, 64 * 0x80000 - 1, [1], s0.updBank 63 (fun r => { r with owner := 0x20 }), by decide⟩,
   ⟨24, 0, 64 * 0x80000 - 1, [1], s0, by decide⟩,
   ⟨24, 0, 64 * 0x80000 - 1, 1, s0, by decide⟩,
   ⟨25, by decide⟩,
   ⟨23, 0, 64 * 0x80000 - 8, [1], s0.updBank 63 (fun r => { r with owner := 0x1F }), by decide⟩,
   ⟨0, 63, 0, s0, by decide⟩,
   ⟨1, 63, 0, s0, by decide⟩,
   ⟨0, s0.updBank 0 (fun r => { r with pending := true }), by decide⟩,
   ⟨63, by decide⟩,
   ⟨15, by decide⟩,
   ⟨15, by decide⟩⟩

theorem witness_CommandInterfaceTakesPostsAndResets :
    (∃ (s : State), (∀ c ∈ s.host.cmds, c.stage ≠ .read)) ∧
    (∃ (c : HostCmd) (s : State), s.host.cmds.find? (fun x => x.stage == .read) = some c ∧ s.cell.ready = true ∧ bitAt (s.port c.hdr.port).held c.hdr.bank = false) ∧
    (∃ (c : HostCmd) (s : State), s.host.cmds.find? (fun x => x.stage == .read) = some c ∧ s.cell.ready = true ∧ s.pair.role ≠ 1 ∧ let h := (s.readHdr c.hdr).1; let code := (s.readHdr c.hdr).2; let a := s.blockAt h 32 h.len; Passes (s.blockTests h a) ∧ Passes (s.headTests h code) ∧ s.argStatus h code a = none ∧ h.txn = false ∧ (h.atTick = true → s.earliest < s.targetEdge h)) ∧
    (∃ (p : Nat) (w : Word) (s : State), (s.port p).inbox.find? (fun w => field w.toNat 24 4 == 0) = some w) ∧
    (∃ (p : Nat) (w : Word) (s : State), (s.port p).inbox.find? (fun w => field w.toNat 24 4 == 1) = some w) ∧
    (∃ (b : Nat) (s : State), b < 64 ∧ bitAt (s.port 4).named b = false ∧ bitAt (s.port 5).named b = false) ∧
    (∃ (b : Nat) (s : State), b < 64 ∧ bitAt (s.port 4).held b = true ∧ bitAt (s.port 4).named b = true ∧ (∀ c ∈ s.host.cmds, c.keeps 4 b = false) ∧ bitAt (s.port 5).held b = false) ∧
    (∃ (p : Nat) (c : HostCmd) (ch : Nat) (s : State), (p = 4 ∨ p = 5) ∧ (s.port p).inReset = false ∧ s.host.cmds.find? (fun c => c.stage == .replied && c.hdr.port == p && !c.silent) = some c ∧ s.emptyChan p = some ch ∧ c.hasReply = false ∧ c.extra = false ∧ (s.port p).creditsDue = [] ∧ s.isSender (s.chan ch) 0 = true ∧ ch < 64) ∧
    (∃ (p : Nat) (s : State), (s.port p).inReset = true) ∧
    (∃ (p : Nat) (s : State), (s.port p).inReset = true) ∧
    (∃ (p : Nat) (w : Word) (ws : List Word) (s : State), (p = 4 ∨ p = 5) ∧ (s.port p).inReset = false ∧ (s.port p).words = w :: ws ∧ (s.chan (eventChan p)).full = false ∧ s.isSender (s.chan (eventChan p)) 0 = true) ∧
    (∃ (x : Nat) (s : State), (∀ b ∈ s.pair.blocks, b.1 ≠ x)) ∧
    (∃ (x : Nat) (b : Nat × Nat × Nat) (s : State), s.pair.blocks.find? (fun b => b.1 == x) = some b) ∧
    (∃ (p tag : Nat) (c : HostCmd) (s : State), s.host.cmds.find? (fun c => c.stage == .held && c.hdr.port == p && c.hdr.tag == tag) = some c ∧ c.code = 0x0105 ∧ c.silent = false ∧ isHost p = true ∧ Passes (needsSysEventMask c.hdr c.args (s.advanceTo c.commitAt))) ∧
    (∃ (s : State), (∀ c ∈ s.host.cmds, c.stage ≠ .held)) ∧
    (∃ (id : Nat) (x : Txn) (s : State), s.host.txns.find? (fun x => x.id == id && !x.committing) = some x) ∧
    (∃ (p tag : Nat) (c : HostCmd) (s : State), s.host.cmds.find? (fun c => c.stage == .running && c.hdr.port == p && c.hdr.tag == tag) = some c ∧ c.code = 0x0708 ∧ c.reply.status < 0x0200 ∧ c.silent = false ∧ isHost p = true) ∧
    (∃ (p : Nat), (p = 4 ∨ p = 5)) ∧
    (∃ (p : Nat) (s : State), (p = 4 ∨ p = 5) ∧ (s.port p).creditsDue = []) ∧
    (∃ (p : Nat), (p = 4 ∨ p = 5)) ∧
    (∃ (p : Nat), (p = 4 ∨ p = 5)) ∧
    (∃ (p : Nat), p ≠ 4 ∧ p ≠ 5) :=
  ⟨⟨s0, by decide⟩,
   ⟨{ hdr := { port := 5 } }, { s0 with cell.ready := true, host.cmds := [{ hdr := { port := 5 } }] }, by decide⟩,
   ⟨{ hdr := { len := 0 } }, (({ op 2 with host.cmds := [{ hdr := { len := 0 } }], pool.mem := [(0, 1), (1, 1), (4, 32), (24, 89), (25, 52), (26, 66), (27, 204)] }).updPort 4 (fun r => { r with banks := 1, held := 1 })), by decide, by decide, by decide, by
    dsimp only
    decide +kernel⟩,
   ⟨5, 0, s0.updPort 5 (fun r => { r with inbox := [0x1000000, 0] }), by decide⟩,
   ⟨5, 0x1000000, s0.updPort 5 (fun r => { r with inbox := [0, 0x1000000] }), by decide⟩,
   ⟨63, s0, by decide⟩,
   ⟨63, (s0.updPort 4 (fun r => { r with held := 2 ^ 63 })).updPort 4 (fun r => { r with named := 2 ^ 63 }), by decide⟩,
   ⟨4, { hdr := {}, stage := .replied, hasReply := false }, 8, { (s0.updChan 8 (fun r => { r with valid := true })) with host.cmds := [{ hdr := {}, stage := .replied, hasReply := false }] }, by decide⟩,
   ⟨0, s0.updPort 0 (fun r => { r with inReset := true }), by decide⟩,
   ⟨0, s0.updPort 0 (fun r => { r with inReset := true }), by decide⟩,
   ⟨5, 3, [], (s0.updPort 5 (fun r => { r with words := [3] })).updChan 23 (fun r => { r with valid := true }), by decide⟩,
   ⟨0, s0, by decide⟩,
   ⟨7, (7, 1, 2), { s0 with pair.blocks := [(7, 1, 2)] }, by decide⟩,
   ⟨5, 9, { hdr := { port := 5, tag := 9, len := 4 }, code := 0x0105, args := [0, 0, 0, 0], stage := .held }, { s0 with cell.state := 2, cell.ready := true, host.cmds := [{ hdr := { port := 5, tag := 9, len := 4 }, code := 0x0105, args := [0, 0, 0, 0], stage := .held }] }, by decide⟩,
   ⟨s0, by decide⟩,
   ⟨3, { id := 3 }, { s0 with host.txns := [{ id := 3 }] }, by decide⟩,
   ⟨5, 9, { hdr := { port := 5, tag := 9, len := 4 }, code := 0x0708, args := [0, 0, 0, 0], stage := .running }, { s0 with cell.state := 2, cell.ready := true, host.cmds := [{ hdr := { port := 5, tag := 9, len := 4 }, code := 0x0708, args := [0, 0, 0, 0], stage := .running }] }, by decide⟩,
   ⟨4, by decide⟩,
   ⟨4, s0.updPort 4 (fun r => { r with creditsDue := [] }), by decide⟩,
   ⟨4, by decide⟩,
   ⟨4, by decide⟩,
   ⟨0, by decide⟩⟩

theorem witness_RegisterAndQspiAccesses :
    (∃ (addr : Nat), field addr 25 6 ≠ 0) ∧
    (∃ (addr : Nat), field addr 25 6 ≠ 0) ∧
    (∃ (addr : Nat) (s : State), field addr 25 6 = 0 ∧ bitAt addr 31 = true ∧ s.poolOk 5 (field addr 0 25) 4 = true ∧ (∀ x ∈ wordsOf (field addr 0 25) 4, x ∉ s.pool.ueWords)) ∧
    (∃ (addr : Nat) (s : State), field addr 25 6 = 0 ∧ bitAt addr 31 = true ∧ s.poolOk 5 (field addr 0 25) 4 = true ∧ (∀ x ∈ wordsOf (field addr 0 25) 4, x ∉ s.pool.ueWords)) ∧
    (∃ (m addr : Nat), isHost m = true ∧ addr % 4 ≠ 0) ∧
    (∃ (m addr : Nat), isHost m = true ∧ addr % 4 = 0 ∧ 0x10000 ≤ addr) ∧
    (∃ (m addr : Nat), isHost m = true ∧ addr % 4 = 0 ∧ 0x600 ≤ addr ∧ addr < 0x10000) ∧
    (∃ (n : Nat) (s : State), n < 16 ∧ (s.chkUnit n).lathe = none) ∧
    (∃ (e v : Nat) (s : State), e < 16 ∧ (s.lathe e).running = some v ∧ s.granted e 0x40090000 true = false) :=
  ⟨⟨2 ^ 25, by decide⟩,
   ⟨2 ^ 25, by decide⟩,
   ⟨2 ^ 31 + 64 * 0x80000 - 4, s0.updBank 63 (fun r => { r with owner := 5 }), by decide⟩,
   ⟨2 ^ 31 + 64 * 0x80000 - 4, s0.updBank 63 (fun r => { r with owner := 5 }), by decide⟩,
   ⟨5, 3, by decide⟩,
   ⟨4, 0x10000, by decide⟩,
   ⟨5, 0xFFFC, by decide⟩,
   ⟨15, s0.updChkUnit 15 (fun r => { r with lathe := none }), by decide⟩,
   ⟨15, 2, running 2 {}, by decide⟩⟩

theorem witness_TickEdgesOpenTicksAndPhasesFollow :
    (∃ (s : State), s.power.inReset = true) ∧
    (∃ (s : State), s.power.inReset = false) ∧
    (∃ (s : State), s.cell.change = none) ∧
    (∃ (sel at_ : Nat) (s : State), s.cell.change = some (sel, at_) ∧ s.cell.nextEdge < at_) ∧
    (∃ (sel at_ : Nat) (s : State), s.cell.change = some (sel, at_) ∧ at_ ≤ s.cell.nextEdge) :=
  ⟨⟨{ s0 with power.inReset := true }, by decide⟩,
   ⟨{ s0 with power.inReset := false }, by decide⟩,
   ⟨{ s0 with cell.change := none }, by decide⟩,
   ⟨2, 62501, { s0 with cell.change := some (2, 62501) }, by decide⟩,
   ⟨2, 62500, { s0 with cell.change := some (2, 62500) }, by decide⟩⟩

theorem witness_TillersServeAxesAndClaimsEnd :
    (∃ (a : Nat) (s : State), a < 512 ∧ (s.axis a).due = false) ∧
    (∃ (a e place : Nat) (s : State), a < 512 ∧ s.servedBy a = some (e, place) ∧ (s.tiller e).tripped = true) ∧
    (∃ (a ecc e place : Nat) (s : State), a < 512 ∧ s.servedBy a = some (e, place) ∧ (s.axis a).due = true ∧ (s.tiller e).tripped = false ∧ (s.advanceTo (s.updateStart place (s.tiller e).late + (875 + 5 * (6 * ecc)) / 2)).gtc ≤ s.cell.edge + sealOfs s.cell.tickSel) ∧
    (∃ (n : Nat), n < 9) ∧
    (∃ (n : Nat) (s : State), n < 16 ∧ (∀ c ∈ s.claim.claims, s.ownSource n c.source = false ∨ c.granted = false ∨ c.stop ≠ s.cell.tick)) ∧
    (∃ (n : Nat), n < 16) ∧
    (∃ (d : Nat) (s : State), d < 256 ∧ s.claim.adopted.contains d = false ∧ s.claim.taken.contains d = false ∧ (s.pair.role ≠ 1 ∨ s.pair.peer ≠ d)) :=
  ⟨⟨511, s0.updAxis 511 (fun r => { r with due := false }), by decide⟩,
   ⟨511, 0, 0, (s0.updAxis 511 (fun r => { r with mode := 1 })).updTiller 0 (fun r => { r with tripped := true }), by decide⟩,
   ⟨511, 0, 0, 0, s0.updAxis 511 (fun r => { r with mode := 1, due := true }), by decide⟩,
   ⟨8, by decide⟩,
   ⟨15, s0, by decide⟩,
   ⟨15, by decide⟩,
   ⟨255, { s0 with pair.role := 2 }, by decide⟩⟩

theorem witness_ResetsAndInhibitsTakeEffect :
    (∃ (s : State), s.tap.hold = true) ∧
    (∃ (s : State), s.tap.hold = false) ∧
    (∃ (r : Nat) (s : State), r < 7 ∧ r ≠ 1 ∧ s.tap.hold = false) ∧
    (∃ (s : State), s.tap.hold = true) ∧
    (∃ (s : State), s.tap.hold = false ∧ s.power.inReset = true) ∧
    (∃ (s : State), s.cell.ready = true) ∧
    (∃ (s : State), s.cell.ready = false) ∧
    (∃ (s : State), s.power.resetAt = none) ∧
    (∃ (at_ cause : Nat) (s : State), s.power.resetAt = some (at_, cause)) ∧
    (∃ (s : State), (s.tap.hold = true ∨ s.power.inhibitBy.contains 0 = true)) ∧
    (∃ (s : State), s.tap.hold = false ∧ s.power.inhibitBy.contains 0 = false) ∧
    (∃ (core : Bool) (s : State), s.tap.hold = false ∧ s.power.inhibitBy.contains (if core then 2 else 1) = false) ∧
    (∃ (s : State), s.power.inhibit = false) ∧
    (∃ (s : State), s.power.inhibit = true) ∧
    (∃ (s : State), s.pair.role ≠ 1) ∧
    (∃ (p : Nat), (p = 1 ∨ p = 2)) :=
  ⟨⟨{ s0 with tap.hold := true }, by decide⟩,
   ⟨{ s0 with tap.hold := false }, by decide⟩,
   ⟨6, { s0 with tap.hold := false }, by decide⟩,
   ⟨{ s0 with tap.hold := true }, by decide⟩,
   ⟨{ { s0 with tap.hold := false } with power.inReset := true }, by decide⟩,
   ⟨{ s0 with cell.ready := true }, by decide⟩,
   ⟨{ s0 with cell.ready := false }, by decide⟩,
   ⟨{ s0 with power.resetAt := none }, by decide⟩,
   ⟨0, 0, { s0 with power.resetAt := some (0, 0) }, by decide⟩,
   ⟨{ s0 with tap.hold := true }, by decide⟩,
   ⟨{ s0 with tap.hold := false }, by decide⟩,
   ⟨true, { s0 with tap.hold := false }, by decide⟩,
   ⟨{ s0 with power.inhibit := false }, by decide⟩,
   ⟨{ s0 with power.inhibit := true }, by decide⟩,
   ⟨{ s0 with pair.role := 2 }, by decide⟩,
   ⟨1, by decide⟩⟩

theorem witness_StartupStagesRunInOrder :
    (∃ (s : State), s.starting 0 = false) ∧
    (∃ (s : State), s.starting 0 = true ∧ s.bootSlot = none) ∧
    (∃ (k : Nat) (s : State), s.starting 0 = true ∧ s.bootSlot = some k) ∧
    (∃ (s : State), s.starting 2 = false) ∧
    (∃ (s : State), s.starting 2 = true) ∧
    (∃ (fs : List Nat) (s : State), s.starting 2 = true ∧ (0 ∈ fs ∨ 35 ∈ fs)) ∧
    (∃ (s : State), s.starting 3 = false) ∧
    (∃ (s : State), s.starting 3 = true) ∧
    (∃ (s : State), s.starting 4 = false) ∧
    (∃ (s : State), s.starting 4 = true) ∧
    (∃ (s : State), s.starting 5 = false) ∧
    (∃ (s : State), s.starting 5 = true ∧ (s.retained 5 0).valid = false) ∧
    (∃ (s : State), s.starting 6 = false) ∧
    (∃ (s : State), s.starting 6 = true) ∧
    (∃ (s : State), s.cell.state ≠ 6) ∧
    (∃ (ch : Nat) (s : State), s.cell.state = 6 ∧ (ch = 0 ∨ ch = 16) ∧ (s.chan ch).full = true) :=
  ⟨⟨{ s0 with power.stage := 2 }, by decide⟩,
   ⟨s0, by decide⟩,
   ⟨1, { s0 with power.slots := [(1, { state := 2 })] }, by decide⟩,
   ⟨s0, by decide⟩,
   ⟨{ s0 with power.stage := 2 }, by decide⟩,
   ⟨[35], { s0 with power.stage := 2 }, by decide⟩,
   ⟨s0, by decide⟩,
   ⟨{ s0 with power.stage := 3 }, by decide⟩,
   ⟨s0, by decide⟩,
   ⟨{ s0 with power.stage := 4 }, by decide⟩,
   ⟨s0, by decide⟩,
   ⟨{ s0 with power.stage := 5 }, by decide⟩,
   ⟨s0, by decide⟩,
   ⟨{ s0 with power.stage := 6 }, by decide⟩,
   ⟨{ s0 with cell.state := 7 }, by decide⟩,
   ⟨0, ({ s0 with cell.state := 6 }).updChan 0 (fun r => { r with full := true }), by decide⟩⟩

theorem witness_TapInstructionsSelectRegistersAndHold :
    (∃ (s : State), s.tap.hold = false) ∧
    (∃ (s : State), s.tap.hold = false) ∧
    (∃ (s : State), s.tap.hold = false) ∧
    (∃ (s : State), s.tap.hold = true) ∧
    (∃ (s : State), s.tap.hold = true) ∧
    (∃ (s : State), s.tap.hold = true) ∧
    (∃ (s : State), s.tap.hold = true) ∧
    (∃ (s : State), s.tap.hold = true) ∧
    (∃ (s : State), s.tap.takesAt = none) ∧
    (∃ (at_ : Nat) (s : State), s.tap.takesAt = some at_) :=
  ⟨⟨{ s0 with tap.hold := false }, by decide⟩,
   ⟨{ s0 with tap.hold := false }, by decide⟩,
   ⟨{ s0 with tap.hold := false }, by decide⟩,
   ⟨{ s0 with tap.hold := true }, by decide⟩,
   ⟨{ s0 with tap.hold := true }, by decide⟩,
   ⟨{ s0 with tap.hold := true }, by decide⟩,
   ⟨{ s0 with tap.hold := true }, by decide⟩,
   ⟨{ s0 with tap.hold := true }, by decide⟩,
   ⟨{ s0 with tap.takesAt := none }, by decide⟩,
   ⟨0, { s0 with tap.takesAt := some 0 }, by decide⟩⟩

theorem witness_FabricLinksFramesAndSlots :
    (∃ (p : Nat) (s : State), p < 4 ∧ s.lost (77 + p) = true) ∧
    (∃ (p : Nat) (s : State), p < 4 ∧ s.lost (77 + p) = false) ∧
    (∃ (p : Nat), p < 4) ∧
    (∃ (p : Nat) (f : FabFrame), p < 4 ∧ f.intact = false) ∧
    (∃ (p : Nat) (f : FabFrame), p < 4 ∧ f.intact = true ∧ f.valid = false) ∧
    (∃ (p : Nat) (f : FabFrame) (l : List FabRec) (s : State), p < 4 ∧ f.intact = true ∧ f.valid = true ∧ f.body = .slot l ∧ s.cell.nodeValid = true ∧ f.src = s.cell.node) ∧
    (∃ (p : Nat) (f : FabFrame) (l : List FabRec) (s : State), p < 4 ∧ f.intact = true ∧ f.valid = true ∧ f.body = .slot l ∧ f.src ≠ s.cell.node ∧ f.seq ∈ (s.fabNode f.src).seqs) ∧
    (∃ (p : Nat) (f : FabFrame) (due : Nat) (m : ClaimMsg) (s : State), p < 4 ∧ f.intact = true ∧ f.valid = true ∧ f.body = .slot [.claim due m] ∧ f.src ≠ s.cell.node ∧ f.seq ∉ (s.fabNode f.src).seqs ∧ s.inFabric = true ∧ (s.fabNode f.src).member = true ∧ f.cycle = wrap 32 s.cell.tick ∧ f.bcast = true ∧ f.epoch = s.cell.epoch ∧ s.cell.epoch < 2 ^ 32 ∧ s.fab.thisEpoch = s.cell.epoch ∧ s.fab.active = false) ∧
    (∃ (s : State), s.mayInsert = false) ∧
    (∃ (i : Nat) (x : FabSlot) (s : State), s.mayInsert = true ∧ s.fab.sched.slots[i]? = some x ∧ x.owner = s.cell.node ∧ x.ring ∈ s.myRings) ∧
    (∃ (i : Nat) (x : FabSlot) (s : State), s.mayInsert = true ∧ s.fab.sched.slots[i]? = some x ∧ x.owner = s.cell.node ∧ x.ring ∈ s.myRings ∧ x.kind = 4 ∧ (∀ q ∈ s.fab.relays, q.1 ≠ x.ring)) ∧
    (∃ (i : Nat) (s : State), s.fab.sched.slots[i]? = none) ∧
    (∃ (i : Nat) (x : FabSlot) (s : State), s.fab.sched.slots[i]? = some x ∧ x.ring ∈ s.myRings ∧ x.owner = s.cell.node ∧ s.fab.cutAt = [] ∧ x.kind ≠ 0 ∧ s.fab.sched.ints = []) ∧
    (∃ (s : State), s.inFabric = false) ∧
    (∃ (s : State), s.inFabric = true) ∧
    (∃ (s : State), s.inFabric = false) ∧
    (∃ (s : State), s.inFabric = true) ∧
    (∃ (p : Nat), 4 ≤ p) :=
  ⟨⟨3, { s0 with wnw.unusable := [(80, (1, 0))] }, by decide⟩,
   ⟨3, s0, by decide⟩,
   ⟨3, by decide⟩,
   ⟨3, { intact := false }, by decide⟩,
   ⟨3, { valid := false }, by decide⟩,
   ⟨3, {}, [], { s0 with cell.nodeValid := true }, by decide⟩,
   ⟨3, { src := 1, seq := 4 }, [], s0.updFabNode 1 (fun r => { r with seqs := [4] }), by decide⟩,
   ⟨3, { src := 1, seq := 4, bcast := true, body := .slot [.claim 5 (.unblock 0)] }, 5, .unblock 0, ({ s0 with cell.role := 0, fab.mine := 3 }).updFabNode 1 (fun r => { r with member := true }), by decide⟩,
   ⟨s0, by decide⟩,
   ⟨0, { owner := 0, ring := 1, kind := 1 }, { s0 with cell.role := 0, fab.mine := 3, fab.sched.slots := [{ owner := 0, ring := 1, kind := 1 }] }, by decide⟩,
   ⟨0, { owner := 0, ring := 1, kind := 4 }, { s0 with cell.role := 0, fab.mine := 3, fab.sched.slots := [{ owner := 0, ring := 1, kind := 4 }] }, by decide⟩,
   ⟨0, s0, by decide⟩,
   ⟨0, { owner := 0, ring := 1, kind := 1 }, { s0 with cell.role := 0, fab.mine := 3, fab.sched.slots := [{ owner := 0, ring := 1, kind := 1 }] }, by decide⟩,
   ⟨s0, by decide⟩,
   ⟨{ s0 with cell.role := 0, fab.mine := 3 }, by decide⟩,
   ⟨s0, by decide⟩,
   ⟨{ s0 with cell.role := 0, fab.mine := 3 }, by decide⟩,
   ⟨4, by decide⟩⟩

theorem witness_FabricTransfersAcknowledgeAndResend :
    (∃ (peer xfer ofs total len : Nat) (s : State), s.inFabric = true ∧ ofs + len < total ∧ (s.fab.receiving.find? (fun b => b.peer == peer && b.xfer == xfer)).all (fun b => b.acked == ofs) = true ∧ (0 < ofs → s.fab.receiving.any (fun b => b.peer == peer && b.xfer == xfer) = true)) ∧
    (∃ (total len : Nat) (s : State), s.inFabric = true ∧ total ≤ len ∧ s.fab.receiving = []) ∧
    (∃ (peer xfer : Nat) (s : State), (∀ b ∈ s.fab.sending, b.peer ≠ peer ∨ b.xfer ≠ xfer)) ∧
    (∃ (peer xfer : Nat) (b : FabBulk) (s : State), s.fab.sending.find? (fun b => b.peer == peer && b.xfer == xfer) = some b ∧ b.resends < 15) ∧
    (∃ (peer xfer : Nat) (b : FabBulk) (s : State), s.fab.sending.find? (fun b => b.peer == peer && b.xfer == xfer) = some b ∧ 15 ≤ b.resends) :=
  ⟨⟨0, 0, 4, 10, 5, { s0 with cell.role := 0, fab.mine := 3, fab.receiving := [{ acked := 4 }] }, by decide⟩,
   ⟨5, 5, { s0 with cell.role := 0, fab.mine := 3 }, by decide⟩,
   ⟨0, 0, s0, by decide⟩,
   ⟨0, 0, { resends := 14 }, { s0 with fab.sending := [{ resends := 14 }] }, by decide⟩,
   ⟨0, 0, { resends := 15 }, { s0 with fab.sending := [{ resends := 15 }] }, by decide⟩⟩

theorem witness_JoinExchangeAuthenticatesBothSides :
    (∃ (port : Nat) (s : State), port < 4 ∧ (s.inFabric = false ∨ s.fab.master ≠ s.cell.node)) ∧
    (∃ (port uid : Nat) (s : State), port < 4 ∧ s.inFabric = true ∧ s.fab.master = s.cell.node ∧ s.lockedOut uid = true) ∧
    (∃ (port uid : Nat) (s : State), port < 4 ∧ s.inFabric = true ∧ s.fab.master = s.cell.node ∧ s.lockedOut uid = false) ∧
    (∃ (port uid d : Nat) (s : State), port < 4 ∧ s.inFabric = true ∧ s.fab.master = s.cell.node ∧ s.lockedOut uid = false ∧ s.members.length < 256 ∧ s.fab.serving = [] ∧ s.holdsNode d = false) ∧
    (∃ (port uid d : Nat) (s : State), port < 4 ∧ s.inFabric = true ∧ s.fab.master = s.cell.node ∧ s.lockedOut uid = false ∧ s.members.length < 256 ∧ s.fab.serving = [] ∧ s.holdsNode d = true) ∧
    (∃ (s : State), s.fab.serving = []) ∧
    (∃ (x : FabServe) (mac : List Byte) (s : State), s.fab.serving = [x] ∧ x.sent = true ∧ mac ≠ hmac s.fabKey (macJ x.uid x.node x.nm x.nj s.cell.epoch)) ∧
    (∃ (x : FabServe) (s : State), s.fab.serving = [x] ∧ x.sent = true) ∧
    (∃ (uid : Nat) (s : State), (uid ≠ s.cell.uid ∨ s.fab.join.stage ≠ 2)) ∧
    (∃ (s : State), s.fab.join.stage = 2) ∧
    (∃ (node : Nat) (nm mac : List Byte) (epoch : Nat) (s : State), s.fab.join.stage = 2 ∧ mac ≠ hmac s.fabKey (macM s.cell.uid node s.fab.join.nonce nm epoch)) ∧
    (∃ (uid : Nat) (s : State), (uid ≠ s.cell.uid ∨ (s.fab.join.stage ≠ 2 ∧ s.fab.join.stage ≠ 3 ∧ s.fab.join.stage ≠ 4))) ∧
    (∃ (s : State), s.fab.join.stage = 3) ∧
    (∃ (r : Nat) (s : State), (s.fab.join.stage = 2 ∨ s.fab.join.stage = 3 ∨ s.fab.join.stage = 4) ∧ r ≠ 0 ∧ r ≠ 2) ∧
    (∃ (s : State), s.fab.join.stage ≠ 2 ∧ s.fab.join.stage ≠ 3) ∧
    (∃ (s : State), (s.fab.join.stage = 2 ∨ s.fab.join.stage = 3)) ∧
    (∃ (s : State), s.fab.join.stage ≠ 4) ∧
    (∃ (s : State), s.fab.join.stage = 4) :=
  ⟨⟨3, s0, by decide⟩,
   ⟨3, 0, { s0 with cell.role := 0, fab.mine := 3, fab.authFails := [(0, 0), (0, 0), (0, 0)] }, by decide⟩,
   ⟨3, 0, { s0 with cell.role := 0, fab.mine := 3 }, by decide⟩,
   ⟨3, 0, 255, { s0 with cell.role := 0, fab.mine := 3 }, by decide⟩,
   ⟨3, 0, 255, ({ s0 with cell.role := 0, fab.mine := 3 }).updFabNode 255 (fun r => { r with member := true }), by decide⟩,
   ⟨{ s0 with fab.serving := [] }, by decide⟩,
   ⟨{ sent := true }, [], { s0 with fab.serving := [{ sent := true }] }, by decide +kernel⟩,
   ⟨{ sent := true }, { s0 with fab.serving := [{ sent := true }] }, by decide⟩,
   ⟨0, s0, by decide⟩,
   ⟨{ s0 with fab.join.stage := 2 }, by decide⟩,
   ⟨0, [], [], 0, { s0 with fab.join.stage := 2 }, by decide +kernel⟩,
   ⟨0, s0, by decide⟩,
   ⟨{ s0 with fab.join.stage := 3 }, by decide⟩,
   ⟨1, { s0 with fab.join.stage := 2 }, by decide⟩,
   ⟨{ { s0 with fab.join.stage := 3 } with fab.join.stage := 4 }, by decide⟩,
   ⟨{ s0 with fab.join.stage := 2 }, by decide⟩,
   ⟨{ s0 with fab.join.stage := 5 }, by decide⟩,
   ⟨{ s0 with fab.join.stage := 4 }, by decide⟩⟩

theorem witness_ColdStartElectsOneDevice :
    (∃ (s : State), s.fab.join.stage ≠ 1) ∧
    (∃ (s : State), s.fab.join.stage = 1 ∧ s.fab.join.coldOk = false) ∧
    (∃ (s : State), s.fab.join.stage = 1 ∧ s.fab.join.coldOk = true ∧ s.coldNode = none) ∧
    (∃ (d src : Nat) (s : State), s.fab.join.stage = 1 ∧ s.fab.join.coldOk = true ∧ s.coldNode = some (d, src)) ∧
    (∃ (s : State), s.fab.join.stage ≠ 5) ∧
    (∃ (s : State), s.fab.join.stage = 5 ∧ s.fab.join.clash = true) ∧
    (∃ (s : State), s.fab.join.stage = 5 ∧ s.fab.join.clash = false ∧ s.fab.join.foreign ≠ []) ∧
    (∃ (s : State), s.fab.join.stage = 5 ∧ s.fab.join.clash = false ∧ s.fab.join.foreign = [] ∧ (∀ r, r < 2 → bitAt s.fab.mine r = true → 2 * r ∈ s.fab.join.echo ∨ 2 * r + 1 ∈ s.fab.join.echo) ∧ (s.retained 9 0).valid = false) ∧
    (∃ (s : State), s.fab.join.stage ≠ 6) ∧
    (∃ (s : State), s.fab.join.stage = 6) ∧
    (∃ (s : State), (s.fab.join.stage ≠ 7 ∨ s.cell.edge < s.fab.join.since + 1000000)) ∧
    (∃ (s : State), s.fab.join.stage = 7 ∧ s.fab.join.since + 1000000 ≤ s.cell.edge ∧ s.fab.listenOnly = false ∧ s.cell.role = 0 ∧ s.fab.master = s.cell.node ∧ s.inFabric = true ∧ s.fab.mine = 1) :=
  ⟨⟨{ s0 with fab.join.stage := 2 }, by decide⟩,
   ⟨{ { s0 with fab.join.stage := 1 } with fab.join.coldOk := false }, by decide⟩,
   ⟨{ { s0 with fab.join.stage := 1 } with fab.join.coldOk := true }, by decide⟩,
   ⟨9, 0, { s0 with fab.join.stage := 1, fab.join.coldOk := true, fab.strap := some 9 }, by decide⟩,
   ⟨{ s0 with fab.join.stage := 6 }, by decide⟩,
   ⟨{ { s0 with fab.join.stage := 5 } with fab.join.clash := true }, by decide⟩,
   ⟨{ s0 with fab.join.stage := 5, fab.join.foreign := [1] }, by decide⟩,
   ⟨({ { { s0 with fab.join.stage := 5 } with fab.join.clash := false } with fab.join.foreign := [] }).updRetained 9 0 (fun r => { r with valid := false }), by decide⟩,
   ⟨{ s0 with fab.join.stage := 7 }, by decide⟩,
   ⟨{ s0 with fab.join.stage := 6 }, by decide⟩,
   ⟨{ s0 with fab.join.stage := 8 }, by decide⟩,
   ⟨{ s0 with cell.role := 0, fab.join.stage := 7, fab.mine := 1, cell.edge := 1000000 }, by decide⟩⟩

theorem witness_FabricSleepsAndWakes :
    (∃ (s : State), s.fab.sleep.state = 1) ∧
    (∃ (s : State), s.fab.sleep.state ≠ 1) ∧
    (∃ (s : State), (s.fab.sleep.state = 0 ∨ s.fab.sleep.state = 3)) ∧
    (∃ (s : State), s.fab.sleep.state ≠ 0 ∧ s.fab.sleep.state ≠ 3 ∧ s.cell.node ∉ s.fab.sleep.nodes) ∧
    (∃ (s : State), s.fab.sleep.state ≠ 0 ∧ s.fab.sleep.state ≠ 3 ∧ s.cell.node ∈ s.fab.sleep.nodes) ∧
    (∃ (s : State), s.fab.sleep.entering = none) ∧
    (∃ (e : Nat) (s : State), s.fab.sleep.entering = some e ∧ s.fab.sleep.latch = false) ∧
    (∃ (e : Nat) (s : State), s.fab.sleep.entering = some e ∧ s.fab.sleep.latch = true) ∧
    (∃ (s : State), s.fab.sleep.entering.isSome = true ∧ s.fab.sleep.portsTold = false) ∧
    (∃ (s : State), (s.fab.sleep.entering = none ∨ s.fab.sleep.portsTold = true)) ∧
    (∃ (n r : Nat) (s : State), r < 256 ∧ (s.inFabric = false ∨ s.fab.master ≠ s.cell.node ∨ 256 ≤ n)) ∧
    (∃ (n r : Nat) (s : State), r < 256 ∧ n < 256 ∧ s.inFabric = true ∧ s.fab.master = s.cell.node ∧ s.fab.sleep.state = 1 ∧ s.cell.tick < s.fab.sleep.pnr ∧ s.gtc < s.pnrEdge) ∧
    (∃ (n r : Nat) (s : State), r < 256 ∧ n < 256 ∧ s.inFabric = true ∧ s.fab.master = s.cell.node ∧ s.fab.sleep.state = 2 ∧ s.fab.sleep.nodes ≠ []) ∧
    (∃ (r : Nat), 256 ≤ r) ∧
    (∃ (k : Nat) (s : State), k < 4 ∧ s.cell.state ≠ 8) ∧
    (∃ (k e : Nat) (s : State), k < 4 ∧ s.cell.state = 8 ∧ s.fab.sleep.entering = some e) ∧
    (∃ (k : Nat) (s : State), k < 4 ∧ s.cell.state = 8 ∧ s.fab.sleep.entering = none) ∧
    (∃ (k : Nat), 4 ≤ k) ∧
    (∃ (s : State), s.fab.sleep.wokeAt = none) ∧
    (∃ (w : Nat) (s : State), s.fab.sleep.wokeAt = some w ∧ 2 ≤ s.fab.sleep.src) ∧
    (∃ (w : Nat) (s : State), s.fab.sleep.wokeAt = some w ∧ s.fab.sleep.src < 2) :=
  ⟨⟨{ s0 with fab.sleep.state := 1 }, by decide⟩,
   ⟨{ s0 with fab.sleep.state := 2 }, by decide⟩,
   ⟨{ s0 with fab.sleep.state := 0 }, by decide⟩,
   ⟨{ { s0 with fab.sleep.state := 1 } with fab.sleep.state := 4 }, by decide⟩,
   ⟨{ s0 with fab.sleep.state := 1, fab.sleep.nodes := [0] }, by decide⟩,
   ⟨{ s0 with fab.sleep.entering := none }, by decide⟩,
   ⟨0, { { s0 with fab.sleep.entering := some 0 } with fab.sleep.latch := false }, by decide⟩,
   ⟨0, { { s0 with fab.sleep.entering := some 0 } with fab.sleep.latch := true }, by decide⟩,
   ⟨{ { s0 with fab.sleep.entering := some 0 } with fab.sleep.portsTold := false }, by decide⟩,
   ⟨{ s0 with fab.sleep.entering := none }, by decide⟩,
   ⟨0, 255, s0, by decide⟩,
   ⟨255, 255, { s0 with cell.role := 0, fab.mine := 3, fab.sleep.state := 1, fab.sleep.pnr := 1 }, by decide⟩,
   ⟨255, 255, { s0 with cell.role := 0, fab.mine := 3, fab.sleep.state := 2, fab.sleep.nodes := [0] }, by decide⟩,
   ⟨256, by decide⟩,
   ⟨3, { s0 with cell.state := 9 }, by decide⟩,
   ⟨3, 0, { { s0 with cell.state := 8 } with fab.sleep.entering := some 0 }, by decide⟩,
   ⟨3, { { s0 with cell.state := 8 } with fab.sleep.entering := none }, by decide⟩,
   ⟨4, by decide⟩,
   ⟨{ s0 with fab.sleep.wokeAt := none }, by decide⟩,
   ⟨0, { { s0 with fab.sleep.wokeAt := some 0 } with fab.sleep.src := 2 }, by decide⟩,
   ⟨0, { s0 with fab.sleep.wokeAt := some 0 }, by decide⟩⟩

theorem witness_PairDetectsFencesAndTakesOver :
    (∃ (s : State), s.isShadow = false) ∧
    (∃ (f : FwdSet) (s : State), s.pair.fwd = some f ∧ f.tick = s.cell.tick) ∧
    (∃ (s : State), s.isShadow = true ∧ s.pair.role = 2 ∧ s.pair.fwd = none) ∧
    (∃ (s : State), s.pair.role ≠ 1) ∧
    (∃ (s : State), s.pair.role = 1 ∧ s.pair.echoRun = 0) ∧
    (∃ (s : State), s.pair.role = 1 ∧ 1 ≤ s.pair.echoRun) ∧
    (∃ (i : Nat) (s : State), i < 16 ∧ (s.pair.role ≠ 2 ∨ s.pair.suspect = false)) ∧
    (∃ (i : Nat) (l : PairLine) (s : State), i < 16 ∧ s.pair.lines[i]? = some l ∧ s.pair.role = 2 ∧ s.pair.suspect = true) ∧
    (∃ (i : Nat), 16 ≤ i) ∧
    (∃ (s : State), (s.pair.role ≠ 2 ∨ s.pair.takeAt = none)) ∧
    (∃ (k : Nat) (s : State), s.pair.takeAt = some k ∧ s.cell.tick < k) ∧
    (∃ (k : Nat) (s : State), s.pair.role = 2 ∧ s.pair.takeAt = some k ∧ k ≤ s.cell.tick) ∧
    (∃ (s : State), s.pair.role = 3 ∧ 64 ≤ s.pair.agreed) ∧
    (∃ (k : Nat) (s : State), s.pair.role = 1 ∧ s.pair.since = some k) ∧
    (∃ (s : State), s.pair.role ≠ 1 ∧ (s.pair.role ≠ 3 ∨ s.pair.agreed < 64)) ∧
    (∃ (k : Nat) (s : State), s.pair.role = 1 ∧ s.pair.since = some k) ∧
    (∃ (s : State), s.pair.role = 3) ∧
    (∃ (s : State), s.pair.role = 1 ∧ s.pair.since = none) :=
  ⟨⟨s0, by decide⟩,
   ⟨{}, { s0 with pair.fwd := some {} }, by decide⟩,
   ⟨{ s0 with cell.role := 2, pair.role := 2 }, by decide⟩,
   ⟨{ s0 with pair.role := 2 }, by decide⟩,
   ⟨{ { s0 with pair.role := 1 } with pair.echoRun := 0 }, by decide⟩,
   ⟨{ { s0 with pair.role := 1 } with pair.echoRun := 1 }, by decide⟩,
   ⟨15, { s0 with pair.role := 3 }, by decide⟩,
   ⟨0, {}, { s0 with pair.role := 2, pair.suspect := true, pair.lines := [{}] }, by decide⟩,
   ⟨16, by decide⟩,
   ⟨{ s0 with pair.role := 3 }, by decide⟩,
   ⟨1, { s0 with pair.takeAt := some 1 }, by decide⟩,
   ⟨0, { { s0 with pair.role := 2 } with pair.takeAt := some 0 }, by decide⟩,
   ⟨{ { s0 with pair.role := 3 } with pair.agreed := 64 }, by decide⟩,
   ⟨0, { { s0 with pair.role := 1 } with pair.since := some 0 }, by decide⟩,
   ⟨{ { s0 with pair.role := 2 } with pair.role := 4 }, by decide⟩,
   ⟨0, { { s0 with pair.role := 1 } with pair.since := some 0 }, by decide⟩,
   ⟨{ s0 with pair.role := 3 }, by decide⟩,
   ⟨{ { s0 with pair.role := 1 } with pair.since := none }, by decide⟩⟩

theorem witness_ChiselControlInstructionsTakeEffect :
    (∃ (k n : Nat) (s : State), ChsReady k s ∧ n < 4096) ∧
    (∃ (k m : Nat) (s : State), ChsReady k s ∧ m < 16 ∧ (s.chsEngine k).act.wValid &&& m = m) ∧
    (∃ (k m : Nat) (s : State), ChsReady k s ∧ m < 4 ∧ (s.chsEngine k).act.eoValid &&& m = m) ∧
    (∃ (k v : Nat) (s : State), ChsReady k s ∧ v < 2047) ∧
    (∃ (k : Nat) (s : State), ChsReady k s) ∧
    (∃ (k target : Nat) (s : State), ChsReady k s ∧ target < 24) ∧
    (∃ (k target : Nat) (s : State), ChsReady k s ∧ target < 24) ∧
    (∃ (k target : Nat) (s : State), ChsReady k s ∧ target < 24) ∧
    (∃ (k w target : Nat) (s : State), ChsReady k s ∧ target < 24 ∧ bitAt (s.chsEngine k).act.wValid w = true) ∧
    (∃ (k target : Nat) (s : State), ChsReady k s ∧ target < 24) ∧
    (∃ (k idx src : Nat) (s : State), ChsReady k s ∧ (src = 0 ∨ src = 2) ∧ idx < 4 ∧ bitAt (s.chsEngine k).act.wValid idx = true) ∧
    (∃ (k idx : Nat) (level : Bool) (s : State), ChsReady k s ∧ idx < 8 ∧ bitAt (s.chisel (k / 8)).sync idx ≠ level) ∧
    (∃ (k idx : Nat) (level : Bool) (s : State), ChsReady k s ∧ idx < 8 ∧ bitAt (s.chisel (k / 8)).sync idx = level) ∧
    (∃ (k i : Nat) (l : Bool) (s : State), k < 64 ∧ (s.chsEngine k).hold = .pin i l true) ∧
    (∃ (k : Nat) (s : State), k < 64 ∧ (∀ i l, (s.chsEngine k).hold ≠ .pin i l true)) ∧
    (∃ (k i : Nat) (l : Bool) (s : State), k < 64 ∧ (s.chsEngine k).hold = .pin i l true) ∧
    (∃ (k i : Nat) (l : Bool) (s : State), k < 64 ∧ (s.chsEngine k).hold = .pin i l false) ∧
    (∃ (k idx : Nat) (s : State), ChsReady k s ∧ idx < 8 ∧ bitAt (s.chisel (k / 8)).flagEn idx = false) ∧
    (∃ (k idx : Nat) (s : State), ChsReady k s ∧ idx < 8) ∧
    (∃ (k idx : Nat) (s : State), ChsReady k s ∧ idx < 8) :=
  ⟨⟨63, 4095, s0.updChsEngine 63 (fun r => { r with run := true }), by unfold ChsReady; decide⟩,
   ⟨63, 15, s0.updChsEngine 63 (fun r => { r with run := true, act.wValid := 15 }), by unfold ChsReady; decide⟩,
   ⟨63, 3, s0.updChsEngine 63 (fun r => { r with run := true, act.eoValid := 3 }), by unfold ChsReady; decide⟩,
   ⟨63, 2046, s0.updChsEngine 63 (fun r => { r with run := true }), by unfold ChsReady; decide⟩,
   ⟨63, s0.updChsEngine 63 (fun r => { r with run := true }), by unfold ChsReady; decide⟩,
   ⟨63, 23, s0.updChsEngine 63 (fun r => { r with run := true }), by unfold ChsReady; decide⟩,
   ⟨63, 23, s0.updChsEngine 63 (fun r => { r with run := true }), by unfold ChsReady; decide⟩,
   ⟨63, 23, s0.updChsEngine 63 (fun r => { r with run := true }), by unfold ChsReady; decide⟩,
   ⟨63, 0, 23, (s0.updChsEngine 63 (fun r => { r with run := true })).updChsEngine 63 (fun r => { r with act.wValid := 2 ^ 0 }), by unfold ChsReady; decide⟩,
   ⟨63, 23, s0.updChsEngine 63 (fun r => { r with run := true }), by unfold ChsReady; decide⟩,
   ⟨63, 3, 0, (s0.updChsEngine 63 (fun r => { r with run := true })).updChsEngine 63 (fun r => { r with act.wValid := 2 ^ 3 }), by unfold ChsReady; decide⟩,
   ⟨63, 7, true, s0.updChsEngine 63 (fun r => { r with run := true }), by unfold ChsReady; decide⟩,
   ⟨63, 7, false, s0.updChsEngine 63 (fun r => { r with run := true }), by unfold ChsReady; decide⟩,
   ⟨63, 0, true, s0.updChsEngine 63 (fun r => { r with hold := .pin 0 true true }), by decide⟩,
   ⟨63, s0, by decide, by intro i l h; cases h⟩,
   ⟨63, 0, true, s0.updChsEngine 63 (fun r => { r with hold := .pin 0 true true }), by decide⟩,
   ⟨63, 0, true, s0.updChsEngine 63 (fun r => { r with hold := .pin 0 true false }), by decide⟩,
   ⟨63, 7, s0.updChsEngine 63 (fun r => { r with run := true }), by unfold ChsReady; decide⟩,
   ⟨63, 7, s0.updChsEngine 63 (fun r => { r with run := true }), by unfold ChsReady; decide⟩,
   ⟨63, 7, s0.updChsEngine 63 (fun r => { r with run := true }), by unfold ChsReady; decide⟩⟩

theorem witness_ChiselShiftsAndTransfersMoveWords :
    (∃ (k n w : Nat) (s : State), ChsReady k s ∧ 1 ≤ n ∧ n ≤ 32 ∧ w < 4 ∧ bitAt (s.chsEngine k).act.wValid w = true ∧ (s.chsEngine k).act.autofetch = false) ∧
    (∃ (k w : Nat) (s : State), ChsReady k s ∧ w < 4 ∧ bitAt (s.chsEngine k).act.wValid w = true ∧ (s.chsEngine k).act.autostore = false) ∧
    (∃ (k w : Nat) (s : State), ChsReady k s ∧ w < 4 ∧ bitAt (s.chsEngine k).act.wValid w = true ∧ (s.chsEngine k).act.autostore = true ∧ (s.chsEngine k).bits = 0 ∧ (s.chsEngine k).act.wlen < 32 ∧ (s.chsEngine k).dout.length = 2 ∧ (s.chsEngine k).act.dropNew = false) ∧
    (∃ (k : Nat) (s : State), ChsReady k s ∧ (s.chsEngine k).dout.length < 2) ∧
    (∃ (k : Nat) (s : State), ChsReady k s ∧ 2 ≤ (s.chsEngine k).dout.length) ∧
    (∃ (k : Nat) (s : State), ChsReady k s ∧ (s.chsEngine k).din = []) ∧
    (∃ (k : Nat) (w : Word) (ws : List Word) (s : State), ChsReady k s ∧ (s.chsEngine k).din = w :: ws ∧ (s.chsEngine k).act.msbFirst = false) ∧
    (∃ (k : Nat) (s : State), ChsReady k s ∧ (s.chsEngine k).bits < (s.chsEngine k).act.wordLen) ∧
    (∃ (k op : Nat) (s : State), ChsReady k s ∧ op < 3) ∧
    (∃ (k : Nat) (s : State), ChsReady k s) ∧
    (∃ (k : Nat) (s : State), ChsReady k s) ∧
    (∃ (k : Nat) (w : Word) (ws : List Word) (s : State), ChsReady k s ∧ (s.chsEngine k).din = w :: ws ∧ (s.chsEngine k).dout.length < 2) ∧
    (∃ (k : Nat) (s : State), ChsReady k s ∧ (s.chsEngine k).din = []) ∧
    (∃ (n b : Nat), b < n) ∧
    (∃ (k : Nat) (s : State), k < 64 ∧ (s.chsEngine k).hold = .none) ∧
    (∃ (k : Nat) (w : Word) (c : Bool) (s : State), k < 64 ∧ (s.chsEngine k).hold = .push w c ∧ (s.chsEngine k).dout.length < 2) ∧
    (∃ (k : Nat) (w : Word) (ws : List Word) (s : State), k < 64 ∧ (s.chsEngine k).hold = .fetch ∧ (s.chsEngine k).din = w :: ws) :=
  ⟨⟨63, 1, 3, ((s0.updChsEngine 63 (fun r => { r with run := true })).updChsEngine 63 (fun r => { r with act.wValid := 2 ^ 3 })).updChsEngine 63 (fun r => { r with act.autofetch := false }), by unfold ChsReady; decide⟩,
   ⟨63, 3, ((s0.updChsEngine 63 (fun r => { r with run := true })).updChsEngine 63 (fun r => { r with act.wValid := 2 ^ 3 })).updChsEngine 63 (fun r => { r with act.autostore := false }), by unfold ChsReady; decide⟩,
   ⟨63, 3, s0.updChsEngine 63 (fun r => { r with run := true, act.wValid := 8, act.autostore := true, dout := [1, 2] }), by unfold ChsReady; decide⟩,
   ⟨63, s0.updChsEngine 63 (fun r => { r with run := true }), by unfold ChsReady; decide⟩,
   ⟨63, s0.updChsEngine 63 (fun r => { r with run := true, dout := [1, 2] }), by unfold ChsReady; decide⟩,
   ⟨63, (s0.updChsEngine 63 (fun r => { r with run := true })).updChsEngine 63 (fun r => { r with din := [] }), by unfold ChsReady; decide⟩,
   ⟨63, 0, [], ((s0.updChsEngine 63 (fun r => { r with run := true })).updChsEngine 63 (fun r => { r with din := 0 :: [] })).updChsEngine 63 (fun r => { r with act.msbFirst := false }), by unfold ChsReady; decide⟩,
   ⟨63, s0.updChsEngine 63 (fun r => { r with run := true }), by unfold ChsReady; decide⟩,
   ⟨63, 2, s0.updChsEngine 63 (fun r => { r with run := true }), by unfold ChsReady; decide⟩,
   ⟨63, s0.updChsEngine 63 (fun r => { r with run := true }), by unfold ChsReady; decide⟩,
   ⟨63, s0.updChsEngine 63 (fun r => { r with run := true }), by unfold ChsReady; decide⟩,
   ⟨63, 0, [], (s0.updChsEngine 63 (fun r => { r with run := true })).updChsEngine 63 (fun r => { r with din := 0 :: [] }), by unfold ChsReady; decide⟩,
   ⟨63, (s0.updChsEngine 63 (fun r => { r with run := true })).updChsEngine 63 (fun r => { r with din := [] }), by unfold ChsReady; decide⟩,
   ⟨1, 0, by decide⟩,
   ⟨63, s0.updChsEngine 63 (fun r => { r with hold := .none }), by decide⟩,
   ⟨63, 0, true, s0.updChsEngine 63 (fun r => { r with hold := .push 0 true }), by decide⟩,
   ⟨63, 0, [], (s0.updChsEngine 63 (fun r => { r with hold := .fetch })).updChsEngine 63 (fun r => { r with din := 0 :: [] }), by decide⟩⟩

theorem witness_ChiselGroupsStartStopAndFault :
    (∃ (k : Nat) (s : State), k < 64 ∧ ((s.chsEngine k).run = false ∨ (s.chsEngine k).hold ≠ .none)) ∧
    (∃ (k n : Nat) (s : State), k < 64 ∧ (s.chsEngine k).run = true ∧ (s.chsEngine k).hold = .none ∧ (24 ≤ (s.chsEngine k).pc ∨ 4096 ≤ n)) ∧
    (∃ (k target : Nat) (s : State), k < 64 ∧ (s.chsEngine k).run = true ∧ (s.chsEngine k).hold = .none ∧ 24 ≤ target) ∧
    (∃ (g : Nat) (s : State), g < 8 ∧ (s.chisel g).swapPend = false) ∧
    (∃ (g : Nat) (s : State), g < 8 ∧ (s.chisel g).swapPend = true) ∧
    (∃ (g : Nat), g < 8) ∧
    (∃ (g : Nat), g < 8) ∧
    (∃ (g : Nat), g < 8) ∧
    (∃ (g a : Nat), g < 8 ∧ a < 24) ∧
    (∃ (k : Nat), k < 64) ∧
    (∃ (k : Nat) (w : Word) (ws : List Word) (s : State), k < 64 ∧ (s.chsEngine k).dout = w :: ws) ∧
    (∃ (k : Nat) (s : State), k < 64 ∧ (s.chsEngine k).dout = []) ∧
    (∃ (g : Nat), g < 8) ∧
    (∃ (k : Nat), k < 64) :=
  ⟨⟨63, s0.updChsEngine 63 (fun r => { r with run := false }), by decide⟩,
   ⟨63, 0, ((s0.updChsEngine 63 (fun r => { r with run := true })).updChsEngine 63 (fun r => { r with hold := .none })).updChsEngine 63 (fun r => { r with pc := 24 }), by decide⟩,
   ⟨63, 24, (s0.updChsEngine 63 (fun r => { r with run := true })).updChsEngine 63 (fun r => { r with hold := .none }), by decide⟩,
   ⟨7, s0.updChisel 7 (fun r => { r with swapPend := false }), by decide⟩,
   ⟨7, s0.updChisel 7 (fun r => { r with swapPend := true }), by decide⟩,
   ⟨7, by decide⟩,
   ⟨7, by decide⟩,
   ⟨7, by decide⟩,
   ⟨7, 23, by decide⟩,
   ⟨63, by decide⟩,
   ⟨63, 0, [], s0.updChsEngine 63 (fun r => { r with dout := 0 :: [] }), by decide⟩,
   ⟨63, s0.updChsEngine 63 (fun r => { r with dout := [] }), by decide⟩,
   ⟨7, by decide⟩,
   ⟨63, by decide⟩⟩

theorem witness_CanReceivesFiltersAndCounts :
    (∃ (n : Nat) (own : Bool) (s : State), n < 4 ∧ ((s.can n).en = false ∨ (s.can n).state = 2 ∨ (s.can n).state = 3 ∨ (own = true ∧ (s.can n).mode ≠ 3))) ∧
    (∃ (n : Nat) (f : CanFrame) (s : State), n < 4 ∧ (s.can n).en = true ∧ (s.can n).state < 2 ∧ f.fdf = true ∧ (s.can n).fdEn = false) ∧
    (∃ (n : Nat) (f : CanFrame) (s : State), n < 4 ∧ (s.can n).en = true ∧ (s.can n).state < 2 ∧ (f.fdf = false ∨ (s.can n).fdEn = true)) ∧
    (∃ (n : Nat) (f : CanFrame) (s : State), n < 4 ∧ (s.can n).en = true ∧ (s.can n).state < 2 ∧ (f.fdf = false ∨ (s.can n).fdEn = true)) ∧
    (∃ (n : Nat) (f : CanFrame) (s : State), n < 4 ∧ (s.can n).en = true ∧ (s.can n).state < 2 ∧ (f.fdf = false ∨ (s.can n).fdEn = true)) ∧
    (∃ (n : Nat) (s : State), n < 4 ∧ (s.can n).en = true) ∧
    (∃ (n : Nat) (s : State), n < 4 ∧ (s.can n).en = true ∧ (s.can n).state = 3) ∧
    (∃ (n : Nat) (s : State), n < 4 ∧ (s.can n).en = true ∧ (s.can n).state < 2 ∧ (s.can n).mode = 0) ∧
    (∃ (n v : Nat) (m : CanMsg) (ms : List CanMsg) (s : State), n < 4 ∧ field v 0 7 = 0x7F ∧ (s.can n).fifo = m :: ms) ∧
    (∃ (n v : Nat) (s : State), n < 4 ∧ field v 0 7 = 0x7F ∧ (s.can n).fifo = []) ∧
    (∃ (n v : Nat) (s : State), n < 4 ∧ field v 0 7 ≠ 0x7F ∧ field v 0 7 < (s.can n).dedicated) ∧
    (∃ (n : Nat), n < 4) ∧
    (∃ (n : Nat), n < 4) ∧
    (∃ (n : Nat), 4 ≤ n) :=
  ⟨⟨3, true, s0.updCan 3 (fun r => { r with en := false }), by decide⟩,
   ⟨3, { fdf := true }, s0.updCan 3 (fun r => { r with en := true, state := 1 }), by decide⟩,
   ⟨3, { fdf := true }, s0.updCan 3 (fun r => { r with en := true, state := 1, fdEn := true }), by decide⟩,
   ⟨3, { fdf := true }, s0.updCan 3 (fun r => { r with en := true, state := 1, fdEn := true }), by decide⟩,
   ⟨3, { fdf := true }, s0.updCan 3 (fun r => { r with en := true, state := 1, fdEn := true }), by decide⟩,
   ⟨3, s0.updCan 3 (fun r => { r with en := true }), by decide⟩,
   ⟨3, (s0.updCan 3 (fun r => { r with en := true })).updCan 3 (fun r => { r with state := 3 }), by decide⟩,
   ⟨3, s0.updCan 3 (fun r => { r with en := true, state := 1 }), by decide⟩,
   ⟨3, 0x7F, {}, [], s0.updCan 3 (fun r => { r with fifo := [{}] }), by decide⟩,
   ⟨3, 0x7F, s0.updCan 3 (fun r => { r with fifo := [] }), by decide⟩,
   ⟨3, 0x7E, s0.updCan 3 (fun r => { r with dedicated := 0x7F }), by decide⟩,
   ⟨3, by decide⟩,
   ⟨3, by decide⟩,
   ⟨4, by decide⟩⟩

theorem witness_CanTransmitsByArbitrationAndRetries :
    (∃ (n b : Nat) (s : State), n < 4 ∧ b < 32 ∧ ((s.can n).buf b).state ≠ 2) ∧
    (∃ (n b : Nat) (s : State), n < 4 ∧ b < 32 ∧ ((s.can n).buf b).state = 2) ∧
    (∃ (n b : Nat) (s : State), n < 4 ∧ b < 32 ∧ ((s.can n).buf b).state = 1) ∧
    (∃ (n b : Nat) (s : State), n < 4 ∧ b < 32 ∧ ((s.can n).buf b).state = 2) ∧
    (∃ (n b : Nat) (s : State), n < 4 ∧ b < 32 ∧ 3 ≤ ((s.can n).buf b).state ∧ ((s.can n).buf b).state ≤ 5) ∧
    (∃ (n b : Nat) (s : State), n < 4 ∧ ((s.can n).buf b).state < 3) ∧
    (∃ (n : Nat) (s : State), n < 4 ∧ (s.can n).state = 2) ∧
    (∃ (n : Nat) (s : State), n < 4 ∧ (s.can n).state ≠ 2) ∧
    (∃ (n : Nat) (s : State), n < 4 ∧ (s.can n).state = 2 ∧ (s.can n).recovering = true) ∧
    (∃ (n : Nat) (s : State), n < 4 ∧ (s.can n).mayTransmit = false) ∧
    (∃ (n b : Nat) (s : State), n < 4 ∧ (s.can n).mayTransmit = true ∧ (∀ a, a < 32 → ((s.can n).buf a).state ≠ 2) ∧ b < 32 ∧ ((s.can n).buf b).state = 1 ∧ (∀ a, a < 32 → ((s.can n).buf a).state = 1 → ((s.can n).buf b).msg.arbitration < ((s.can n).buf a).msg.arbitration ∨ (((s.can n).buf b).msg.arbitration = ((s.can n).buf a).msg.arbitration ∧ b ≤ a))) ∧
    (∃ (n : Nat) (s : State), n < 4 ∧ (s.can n).mayTransmit = true ∧ (∀ a, a < 32 → ((s.can n).buf a).state ≠ 2 ∧ ((s.can n).buf a).state ≠ 1)) ∧
    (∃ (n : Nat) (s : State), n < 4 ∧ (∀ a, a < 32 → ((s.can n).buf a).state ≠ 2)) ∧
    (∃ (n : Nat), n < 4) ∧
    (∃ (n : Nat), n < 4) ∧
    (∃ (n : Nat), n < 4) ∧
    (∃ (n : Nat), n < 4) ∧
    (∃ (n : Nat), n < 4) :=
  ⟨⟨3, 31, s0, by decide⟩,
   ⟨3, 31, s0.updCan 3 (fun r => { r with tx := [(31, { state := 2 })] }), by decide⟩,
   ⟨3, 31, s0.updCan 3 (fun r => { r with tx := [(31, { state := 1 })] }), by decide⟩,
   ⟨3, 31, s0.updCan 3 (fun r => { r with tx := [(31, { state := 2 })] }), by decide⟩,
   ⟨3, 31, s0.updCan 3 (fun r => { r with tx := [(31, { state := 5 })] }), by decide⟩,
   ⟨3, 0, s0, by decide⟩,
   ⟨3, s0.updCan 3 (fun r => { r with state := 2 }), by decide⟩,
   ⟨3, s0.updCan 3 (fun r => { r with state := 3 }), by decide⟩,
   ⟨3, (s0.updCan 3 (fun r => { r with state := 2 })).updCan 3 (fun r => { r with recovering := true }), by decide⟩,
   ⟨3, s0, by decide⟩,
   ⟨3, 31, s0.updCan 3 (fun r => { r with en := true, state := 1, tx := [(31, { state := 1 })] }), by decide⟩,
   ⟨3, s0.updCan 3 (fun r => { r with en := true, state := 1 }), by decide⟩,
   ⟨3, s0, by decide⟩,
   ⟨3, by decide⟩,
   ⟨3, by decide⟩,
   ⟨3, by decide⟩,
   ⟨3, by decide⟩,
   ⟨3, by decide⟩⟩

theorem witness_EthernetReceivesChecksAndStores :
    (∃ (p : Nat) (s : State), p < 12 ∧ ((s.mac p).en = false ∨ (s.mac p).link = false ∨ s.macUsable p = false)) ∧
    (∃ (p : Nat) (s : State), p < 12 ∧ (s.mac p).en = true ∧ (s.mac p).link = true ∧ s.macUsable p = true) ∧
    (∃ (p : Nat) (octs : List Byte) (s : State), p < 12 ∧ (s.mac p).en = true ∧ (s.mac p).link = true ∧ s.macUsable p = true ∧ octs.length ≤ 63) ∧
    (∃ (p : Nat) (octs : List Byte) (s : State), p < 12 ∧ (s.mac p).en = true ∧ (s.mac p).link = true ∧ s.macUsable p = true ∧ 63 < octs.length ∧ (s.mac p).maxLen < octs.length) ∧
    (∃ (p : Nat) (octs : List Byte) (s : State), p < 12 ∧ (s.mac p).en = true ∧ (s.mac p).link = true ∧ s.macUsable p = true ∧ 63 < octs.length ∧ octs.length ≤ (s.mac p).maxLen ∧ fcsOf (octs.take (octs.length - 4)) ≠ octs.drop (octs.length - 4)) ∧
    (∃ (p : Nat) (octs : List Byte) (s : State), p < 12 ∧ (s.mac p).en = true ∧ (s.mac p).link = true ∧ s.macUsable p = true ∧ 63 < octs.length ∧ octs.length ≤ (s.mac p).maxLen ∧ fcsOf (octs.take (octs.length - 4)) = octs.drop (octs.length - 4) ∧ (ethertype octs).1 ≠ 0x8808 ∧ (s.mac p).filter octs = none) ∧
    (∃ (p : Nat) (octs : List Byte) (dest : Nat) (s : State), p < 12 ∧ (s.mac p).en = true ∧ (s.mac p).link = true ∧ s.macUsable p = true ∧ 63 < octs.length ∧ octs.length ≤ (s.mac p).maxLen ∧ fcsOf (octs.take (octs.length - 4)) = octs.drop (octs.length - 4) ∧ (ethertype octs).1 ≠ 0x8808 ∧ (s.mac p).filter octs = some (dest, none) ∧ bitAt dest p = false ∧ dest ≠ 0 ∧ bitAt ((s.mac p).pausing s.switch.sharedFree s.headSum) ((s.mac p).classOf none octs) = false ∧ cellsOf octs.length ≤ s.switch.sharedFree ∧ (∀ q, q < 12 → bitAt dest q = true → (s.mac q).holdState ≠ 2)) ∧
    (∃ (p : Nat) (s : State), p < 12 ∧ (s.mac p).en = true ∧ (s.mac p).link = true ∧ s.macUsable p = true ∧ (s.mac p).reasm = none) ∧
    (∃ (p : Nat) (octs : List Byte) (s : State), p < 12 ∧ (s.mac p).en = true ∧ (s.mac p).link = true ∧ s.macUsable p = true ∧ (s.mac p).reasm = none ∧ 64 ≤ octs.length) ∧
    (∃ (p : Nat), 12 ≤ p) :=
  ⟨⟨11, s0.updMac 11 (fun r => { r with en := false }), by decide⟩,
   ⟨11, (s0.updMac 11 (fun r => { r with en := true })).updMac 11 (fun r => { r with link := true }), by decide⟩,
   ⟨11, [], (s0.updMac 11 (fun r => { r with en := true })).updMac 11 (fun r => { r with link := true }), by decide⟩,
   ⟨11, List.replicate 1523 0, s0.updMac 11 (fun r => { r with en := true, link := true }), by decide +kernel⟩,
   ⟨11, List.replicate 64 0, s0.updMac 11 (fun r => { r with en := true, link := true }), by decide +kernel⟩,
   ⟨11, List.replicate 60 0 ++ fcsOf (List.replicate 60 0), s0.updMac 11 (fun r => { r with en := true, link := true }), by decide +kernel⟩,
   ⟨11, List.replicate 60 0 ++ fcsOf (List.replicate 60 0), 1, s0.updMac 11 (fun r => { r with en := true, link := true, promisc := true, defDest := 1 }), by decide +kernel⟩,
   ⟨11, ((s0.updMac 11 (fun r => { r with en := true })).updMac 11 (fun r => { r with link := true })).updMac 11 (fun r => { r with reasm := none }), by decide⟩,
   ⟨11, List.replicate 64 0, s0.updMac 11 (fun r => { r with en := true, link := true }), by decide⟩,
   ⟨12, by decide⟩⟩

theorem witness_SwitchSendsWithdrawsAndServesRings :
    (∃ (p c : Nat) (f : SwFrame) (s : State), p < 12 ∧ ((dropUnsendable p s).mac p).en = true ∧ ((dropUnsendable p s).mac p).link = true ∧ ((dropUnsendable p s).mac p).holdState = 0 ∧ (dropUnsendable p s).macUsable p = true ∧ ((dropUnsendable p s).mac p).sending = none ∧ (dropUnsendable p s).nextClass p = some c ∧ (dropUnsendable p s).headFrame p c = some f ∧ f.tsInsert = false) ∧
    (∃ (c : Nat) (s : State) (p : Nat) (f : SwFrame), s.nextClass p = some c ∧ s.headFrame p c = some f) ∧
    (∃ (p : Nat) (s : State), p < 12 ∧ ((dropUnsendable p s).mac p).link = false) ∧
    (∃ (p : Nat), 12 ≤ p ∧ p < 28) ∧
    (∃ (f : SwFrame) (s : State), s.headFrame 29 7 = some f) ∧
    (∃ (p : Nat), 30 ≤ p) ∧
    (∃ (p : Nat) (s : State), p < 12 ∧ (s.mac p).sending = none) ∧
    (∃ (p no : Nat) (f : SwFrame) (s : State), p < 12 ∧ (s.mac p).sending = some no ∧ s.switch.frames.find? (fun f => f.no == no) = some f) ∧
    (∃ (p : Nat), p < 30) ∧
    (∃ (p : Nat), 30 ≤ p) ∧
    (∃ (e : Nat) (s : State), e < 16 ∧ (s.swRing e).txHead = (s.swRing e).txTail) ∧
    (∃ (e : Nat) (s : State), e < 16 ∧ (s.swRing e).txHead ≠ (s.swRing e).txTail ∧ uAt (s.memGet (dataHalf e (s.lathe e).live + ((s.swRing e).txBase + (s.swRing e).txTail) * 16) 16) 4 2 < 14) ∧
    (∃ (e : Nat) (d : List Byte) (ofs : Nat) (s : State), e < 16 ∧ (s.swRing e).txHead ≠ (s.swRing e).txTail ∧ s.memGet (dataHalf e (s.lathe e).live + ((s.swRing e).txBase + (s.swRing e).txTail) * 16) 16 = d ∧ 14 ≤ uAt d 4 2 ∧ uAt d 4 2 ≤ 9212 ∧ field (uAt d 8 4) 0 30 ≠ 0 ∧ bitAt (field (uAt d 8 4) 0 30) (12 + e) = false ∧ lathePool e (s.lathe e).live (uAt d 0 4) = some ofs ∧ s.poolOk (0x10 + e) ofs (uAt d 4 2) = true ∧ (∀ w ∈ wordsOf ofs (uAt d 4 2), w ∉ s.pool.ueWords) ∧ cellsOf (max 64 (uAt d 4 2 + 4)) ≤ (s.swRing e).credits ∧ s.headSum + cellsOf (max 64 (uAt d 4 2 + 4)) < s.switch.sharedFree ∧ (∀ q, q < 12 → bitAt (field (uAt d 8 4) 0 30) q = true → (s.mac q).holdState ≠ 2)) ∧
    (∃ (e : Nat) (s : State), e < 16 ∧ (∀ c, c < 8 → s.headFrame (12 + e) c = none)) ∧
    (∃ (e : Nat) (f : SwFrame) (s : State), e < 16 ∧ s.headFrame (12 + e) 7 = some f ∧ (s.swRing e).rxHead = (s.swRing e).rxTail) ∧
    (∃ (e : Nat) (f : SwFrame) (d : List Byte) (s : State), e < 16 ∧ s.headFrame (12 + e) 7 = some f ∧ (s.swRing e).rxHead ≠ (s.swRing e).rxTail ∧ s.memGet (dataHalf e (s.lathe e).live + ((s.swRing e).rxBase + (s.swRing e).rxTail) * 16) 16 = d ∧ 0x10000000 ≤ uAt d 0 4 ∧ uAt d 0 4 + uAt d 4 2 ≤ 0x10040000 ∧ 64 ≤ uAt d 4 2) ∧
    (∃ (e : Nat) (w : Word) (s : State), e < 16 ∧ field w.toNat 0 6 = (s.swRing e).txTail) ∧
    (∃ (e : Nat) (w : Word) (s : State), e < 16 ∧ field w.toNat 0 6 ≠ (s.swRing e).txTail) ∧
    (∃ (e : Nat), e < 16) ∧
    (∃ (e : Nat), e < 16) ∧
    (∃ (e : Nat), e < 16) :=
  ⟨⟨11, 0, { ports := 2 ^ 11 }, { (s0.updMac 11 (fun r => { r with en := true, link := true })) with switch.frames := [{ ports := 2 ^ 11 }] }, by decide⟩,
   ⟨0, { (s0.updMac 11 (fun r => { r with en := true, link := true })) with switch.frames := [{ ports := 2 ^ 11 }] }, 11, { ports := 2 ^ 11 }, by decide⟩,
   ⟨11, s0, by decide⟩,
   ⟨27, by decide⟩,
   ⟨{ ports := 2 ^ 29, cls := 7 }, { s0 with switch.frames := [{ ports := 2 ^ 29, cls := 7 }] }, by decide⟩,
   ⟨30, by decide⟩,
   ⟨11, s0.updMac 11 (fun r => { r with sending := none }), by decide⟩,
   ⟨11, 4, { no := 4 }, { (s0.updMac 11 (fun r => { r with sending := some 4 })) with switch.frames := [{ no := 4 }] }, by decide⟩,
   ⟨29, by decide⟩,
   ⟨30, by decide⟩,
   ⟨15, s0.updSwRing 15 (fun r => { r with txHead := (s0.swRing 15).txTail }), by decide⟩,
   ⟨15, s0.updSwRing 15 (fun r => { r with txHead := 1 }), by decide⟩,
   ⟨15, [0, 1, 0, 0x10, 60, 0, 0, 0, 1, 0, 0, 0, 0, 0, 0, 0], 47 * 0x80000 + 0x100, { ((s0.updSwRing 15 (fun r => { r with txHead := 1 })).updBank 47 (fun r => { r with owner := 0x1F })) with pool.mem := [(47 * 0x80000 + 1, 1), (47 * 0x80000 + 3, 0x10), (47 * 0x80000 + 4, 60), (47 * 0x80000 + 8, 1)] }, by decide⟩,
   ⟨15, s0, by decide⟩,
   ⟨15, { ports := 2 ^ 27, cls := 7 }, { s0 with switch.frames := [{ ports := 2 ^ 27, cls := 7 }] }, by decide⟩,
   ⟨15, { ports := 2 ^ 27, cls := 7 }, [0, 1, 0, 0x10, 64, 0, 0, 0, 0, 0, 0, 0, 0, 0, 0, 0], { (s0.updSwRing 15 (fun r => { r with rxHead := 1 })) with switch.frames := [{ ports := 2 ^ 27, cls := 7 }], pool.mem := [(47 * 0x80000 + 1, 1), (47 * 0x80000 + 3, 0x10), (47 * 0x80000 + 4, 64)] }, by decide⟩,
   ⟨15, 0, s0, by decide⟩,
   ⟨15, 1, s0, by decide⟩,
   ⟨15, by decide⟩,
   ⟨15, by decide⟩,
   ⟨15, by decide⟩⟩

theorem witness_SwitchLinksGatesPausesAndCounters :
    (∃ (p : Nat) (s : State), p < 12 ∧ (s.mac p).link = false) ∧
    (∃ (p : Nat) (s : State), p < 12 ∧ (s.mac p).link = true) ∧
    (∃ (p : Nat) (s : State), p < 12 ∧ (s.mac p).link = true) ∧
    (∃ (p : Nat) (s : State), p < 12 ∧ (s.mac p).link = false) ∧
    (∃ (p : Nat) (s : State), p < 12 ∧ (s.mac p).link = false) ∧
    (∃ (p : Nat) (s : State), p < 12 ∧ (s.mac p).holdState ≠ 1) ∧
    (∃ (p : Nat) (s : State), p < 12 ∧ (s.mac p).holdState = 1) ∧
    (∃ (p : Nat) (s : State), p < 12 ∧ (s.mac p).link = false) ∧
    (∃ (p : Nat) (s : State), p < 12 ∧ (s.mac p).link = true) ∧
    (∃ (p : Nat) (s : State), p < 12 ∧ (s.mac p).link = true ∧ (s.mac p).preempt = 1 ∧ 0 < (s.mac p).verifyTries) ∧
    (∃ (p : Nat) (s : State), p < 12 ∧ (s.mac p).link = true ∧ (s.mac p).preempt = 1) ∧
    (∃ (p : Nat) (s : State), p < 12 ∧ (s.mac p).gatesNext = none) ∧
    (∃ (p : Nat) (s : State), p < 12 ∧ (s.mac p).gatesNext = some none) ∧
    (∃ (p : Nat) (g : GateList) (e : Nat × Nat × Nat) (es : List (Nat × Nat × Nat)) (s : State), p < 12 ∧ (s.mac p).gatesNext = some (some g) ∧ g.entries = e :: es) ∧
    (∃ (p : Nat) (s : State), p < 12 ∧ (s.mac p).gates = none) ∧
    (∃ (p : Nat) (g : GateList) (i : Nat) (e : Nat × Nat × Nat) (s : State), p < 12 ∧ (s.mac p).gates = some g ∧ i = (if (s.mac p).gateIdx + 1 < g.entries.length then (s.mac p).gateIdx + 1 else 0) ∧ g.entries[i]? = some e) ∧
    (∃ (p : Nat) (s : State), p < 12 ∧ (s.mac p).condition &&& (s.mac p).xoffSent = 0) ∧
    (∃ (p : Nat) (s : State), p < 12 ∧ (s.mac p).condition &&& (s.mac p).xoffSent ≠ 0) ∧
    (∃ (p : Nat), p < 12) ∧
    (∃ (e n : Nat) (w : Word) (s : State), n < 12 ∧ (s.mac n).owner = some e ∧ bitAt w.toNat 0 = true) ∧
    (∃ (n : Nat) (w : Word) (s : State), n < 12 ∧ ((s.mac n).owner = none ∨ bitAt w.toNat 0 = false)) ∧
    (∃ (n j : Nat), n < 12 ∧ j < 16) ∧
    (∃ (n : Nat), 12 ≤ n) :=
  ⟨⟨11, s0.updMac 11 (fun r => { r with link := false }), by decide⟩,
   ⟨11, s0.updMac 11 (fun r => { r with link := true }), by decide⟩,
   ⟨11, s0.updMac 11 (fun r => { r with link := true }), by decide⟩,
   ⟨11, s0.updMac 11 (fun r => { r with link := false }), by decide⟩,
   ⟨11, s0.updMac 11 (fun r => { r with link := false }), by decide⟩,
   ⟨11, s0.updMac 11 (fun r => { r with holdState := 2 }), by decide⟩,
   ⟨11, s0.updMac 11 (fun r => { r with holdState := 1 }), by decide⟩,
   ⟨11, s0.updMac 11 (fun r => { r with link := false }), by decide⟩,
   ⟨11, s0.updMac 11 (fun r => { r with link := true }), by decide⟩,
   ⟨11, s0.updMac 11 (fun r => { r with link := true, preempt := 1, verifyTries := 1 }), by decide⟩,
   ⟨11, (s0.updMac 11 (fun r => { r with link := true })).updMac 11 (fun r => { r with preempt := 1 }), by decide⟩,
   ⟨11, s0.updMac 11 (fun r => { r with gatesNext := none }), by decide⟩,
   ⟨11, s0.updMac 11 (fun r => { r with gatesNext := some none }), by decide⟩,
   ⟨11, { entries := [(1, 2, 3)] }, (1, 2, 3), [], s0.updMac 11 (fun r => { r with gatesNext := some (some { entries := [(1, 2, 3)] }) }), by decide⟩,
   ⟨11, s0.updMac 11 (fun r => { r with gates := none }), by decide⟩,
   ⟨11, { entries := [(1, 2, 3)] }, 0, (1, 2, 3), s0.updMac 11 (fun r => { r with gates := some { entries := [(1, 2, 3)] } }), by decide⟩,
   ⟨11, s0, by decide⟩,
   ⟨11, s0.updMac 11 (fun r => { r with condition := 1, xoffSent := 1 }), by decide⟩,
   ⟨11, by decide⟩,
   ⟨0, 11, 1, s0.updMac 11 (fun r => { r with owner := some 0 }), by decide⟩,
   ⟨11, 0, s0.updMac 11 (fun r => { r with owner := none }), by decide⟩,
   ⟨11, 15, by decide⟩,
   ⟨12, by decide⟩⟩

theorem witness_WinnowerScrubsTestsAndCalibrates :
    (∃ (mem : Nat) (s : State), mem < 6 ∧ s.wnw.run = false) ∧
    (∃ (mem : Nat) (s : State), mem < 6 ∧ s.wnw.run = true ∧ (s.scrub mem).burst + 1 < bursts mem) ∧
    (∃ (mem : Nat) (s : State), mem < 6 ∧ s.wnw.run = true ∧ bursts mem ≤ (s.scrub mem).burst + 1) ∧
    (∃ (w : Nat) (s : State), s.wnw.run = true ∧ w < 64 * 0x10000) ∧
    (∃ (w : Nat) (s : State), s.wnw.run = true ∧ w < 64 * 0x10000) ∧
    (∃ (mem : Nat) (s : State), mem < 6 ∧ (s.scrub mem).counted = true) ∧
    (∃ (mem : Nat) (s : State), mem < 6 ∧ (s.scrub mem).counted = false) ∧
    (∃ (b : Nat) (s : State), (s.wnw.run = false ∨ s.sliceable b = false)) ∧
    (∃ (b : Nat) (s : State), s.wnw.run = true ∧ s.sliceable b = true ∧ b ≠ 200) ∧
    (∃ (b : Nat) (s : State), s.wnw.run = true ∧ s.sliceable b = true ∧ b ≠ 200) ∧
    (∃ (s : State), s.wnw.run = true ∧ (∀ n, n < 9 → s.lost (21 + n) = false) ∧ s.wnw.spareSlice + 1 < 1024) ∧
    (∃ (s : State), s.wnw.run = true ∧ (∀ n, n < 9 → s.lost (21 + n) = false) ∧ 1024 ≤ s.wnw.spareSlice + 1) ∧
    (∃ (s : State), s.wnw.run = true ∧ (∀ n, n < 9 → s.lost (21 + n) = false)) ∧
    (∃ (s : State), s.wnw.run = true ∧ s.power.inhibit = true) ∧
    (∃ (lane : Nat) (s : State), lane < 16 ∧ (if lane < 12 then (s.mac lane).link else (s.fabPort (lane - 12)).link) = true) ∧
    (∃ (lane : Nat) (s : State), lane < 12 ∧ (s.mac lane).link = false ∧ s.wnw.run = true) ∧
    (∃ (c : Nat) (s : State), c < 4 ∧ s.wnw.run = true) ∧
    (∃ (c : Nat) (ofs : Int) (g : Nat) (s : State), c < 4 ∧ s.wnw.run = true ∧ -32768 ≤ ofs ∧ ofs < 32768 ∧ g < 2 ^ 18) ∧
    (∃ (u : Nat) (s : State), u < 24 ∧ s.wnw.run = true) ∧
    (∃ (u : Nat) (s : State), u < 24 ∧ s.wnw.run = true) ∧
    (∃ (tj : Int) (s : State), s.wnw.run = true ∧ -512 ≤ tj ∧ tj < 512) :=
  ⟨⟨5, { s0 with wnw.run := false }, by decide⟩,
   ⟨5, { s0 with wnw.run := true }, by decide⟩,
   ⟨5, ({ s0 with wnw.run := true }).updScrub 5 (fun r => { r with burst := 1023 }), by decide⟩,
   ⟨0, { s0 with wnw.run := true }, by decide⟩,
   ⟨0, { s0 with wnw.run := true }, by decide⟩,
   ⟨5, s0.updScrub 5 (fun r => { r with counted := true }), by decide⟩,
   ⟨5, s0.updScrub 5 (fun r => { r with counted := false }), by decide⟩,
   ⟨0, { s0 with wnw.run := false }, by decide⟩,
   ⟨92, { s0 with wnw.run := true }, by decide⟩,
   ⟨92, { s0 with wnw.run := true }, by decide⟩,
   ⟨{ s0 with wnw.run := true }, by decide⟩,
   ⟨{ s0 with wnw.run := true, wnw.spareSlice := 1023 }, by decide⟩,
   ⟨{ s0 with wnw.run := true }, by decide⟩,
   ⟨{ { s0 with wnw.run := true } with power.inhibit := true }, by decide⟩,
   ⟨15, s0.updFabPort 3 (fun r => { r with link := true }), by decide⟩,
   ⟨11, { s0.updMac 11 (fun r => { r with link := false }) with wnw.run := true }, by decide⟩,
   ⟨3, { s0 with wnw.run := true }, by decide⟩,
   ⟨3, 32767, 0, { s0 with wnw.run := true }, by decide⟩,
   ⟨23, { s0 with wnw.run := true }, by decide⟩,
   ⟨23, { s0 with wnw.run := true }, by decide⟩,
   ⟨511, { s0 with wnw.run := true }, by decide⟩⟩

theorem witness_NonVolatileWritesAndTelemetry :
    (∃ (s : State), (s.cell.tick % commitTicks s.cell.tickSel ≠ 0 ∨ s.power.inhibit = true)) ∧
    (∃ (s : State), s.cell.tick % commitTicks s.cell.tickSel = 0 ∧ s.power.inhibit = false) ∧
    (∃ (k : Nat) (s : State), k < levelled ∧ s.wnw.run = true ∧ s.power.inhibit = false ∧ s.jrnl.deferring = false ∧ Table.get 0 s.jrnl.erases k + 2000 < s.jrnl.eraseSpan.1) ∧
    (∃ (k : Nat) (s : State), k < levelled ∧ (s.power.inhibit = true ∨ s.jrnl.deferring = true ∨ s.jrnl.eraseSpan.1 ≤ Table.get 0 s.jrnl.erases k + 2000)) ∧
    (∃ (d : Nat), d < 2) ∧
    (∃ (d op : Nat), d < 2 ∧ op < 2) ∧
    (∃ (d : Nat), d < 2) ∧
    (∃ (d : Nat), 2 ≤ d) ∧
    (∃ (s : State), (s.wnw.stream.en = false ∨ s.wnw.stream.queue = [])) ∧
    (∃ (s : State), s.wnw.stream.en = true ∧ s.wnw.stream.queue ≠ [] ∧ (∀ r ∈ s.wnw.stream.queue, r.data.length ≤ 128) ∧ 7 ≤ s.switch.sheafCredits ∧ s.headSum + 7 < s.switch.sharedFree ∧ (s.mac s.wnw.stream.port).holdState ≠ 2 ∧ s.wnw.stream.port < 12 ∧ s.wnw.stream.dstMac.length = 6 ∧ s.wnw.stream.srcIp.length = 4 ∧ s.wnw.stream.dstIp.length = 4) :=
  ⟨⟨{ s0 with cell.tick := 1 }, by decide⟩,
   ⟨{ s0 with power.inhibit := false }, by decide⟩,
   ⟨0, { s0 with wnw.run := true, jrnl.erases := [(1, 2001)] }, by unfold levelled norMiB; have := Nat.one_le_two_pow (n := Config.norSize % 3); omega, rfl, rfl, rfl, by decide⟩,
   ⟨0, { s0 with power.inhibit := true }, by unfold levelled norMiB; have := Nat.one_le_two_pow (n := Config.norSize % 3); omega, Or.inl rfl⟩,
   ⟨1, by decide⟩,
   ⟨1, 1, by decide⟩,
   ⟨1, by decide⟩,
   ⟨2, by decide⟩,
   ⟨{ s0 with wnw.stream.en := false }, by decide⟩,
   ⟨{ s0 with wnw.stream := { en := true, queue := [{}], dstMac := [0, 0, 0, 0, 0, 0], srcIp := [0, 0, 0, 0], dstIp := [0, 0, 0, 0] } }, by decide⟩⟩

theorem witness_GlumeTestsTelegramsInputsAndOutputs :
    (∃ (bs : List Byte) (s : State), s.block.sourceOf (be bs 0 2) = none) ∧
    (∃ (bs : List Byte) (k : Nat) (s : State), s.block.sourceOf (be bs 0 2) = some k ∧ ¬ Intact bs) ∧
    (∃ (bs : List Byte) (k : Nat) (s : State), s.block.sourceOf (be bs 0 2) = some k ∧ Intact bs ∧ ¬ Addressed s.block k bs) ∧
    (∃ (bs : List Byte) (k : Nat) (s : State), s.block.sourceOf (be bs 0 2) = some k ∧ Intact bs ∧ Addressed s.block k bs ∧ ¬ InSequence s.block (s.gsrc k).seq (be bs 6 2)) ∧
    (∃ (bs : List Byte) (k : Nat) (s : State), s.block.sourceOf (be bs 0 2) = some k ∧ Intact bs ∧ Addressed s.block k bs ∧ InSequence s.block (s.gsrc k).seq (be bs 6 2) ∧ ¬ FreshEnough s.block k bs) ∧
    (∃ (bs : List Byte) (k : Nat) (s : State), s.block.sourceOf (be bs 0 2) = some k ∧ Intact bs ∧ Addressed s.block k bs ∧ InSequence s.block (s.gsrc k).seq (be bs 6 2) ∧ FreshEnough s.block k bs ∧ be bs 4 1 = 1 ∧ ¬ JointsFormed s.block k bs) ∧
    (∃ (bs : List Byte) (k : Nat) (s : State), s.block.sourceOf (be bs 0 2) = some k ∧ Intact bs ∧ Addressed s.block k bs ∧ InSequence s.block (s.gsrc k).seq (be bs 6 2) ∧ FreshEnough s.block k bs ∧ be bs 4 1 = 1 ∧ JointsFormed s.block k bs) ∧
    (∃ (k : Nat) (s : State), s.block.sources.length ≤ k) ∧
    (∃ (k : Nat) (s : State), k < s.block.sources.length) ∧
    (∃ (p : Nat) (s : State), p < 32 ∧ (s.block.inputs.find? (fun i => i.pair == p) = none ∨ (s.safeIn p).isOpenA = (s.safeIn p).isOpenB)) ∧
    (∃ (p : Nat) (i : GlmInput) (s : State), p < 32 ∧ s.block.inputs.find? (fun i => i.pair == p) = some i ∧ (s.safeIn p).isOpenA ≠ (s.safeIn p).isOpenB) ∧
    (∃ (k : Nat), k < 4) ∧
    (∃ (p : Nat) (h l c : Bool) (s : State), p < 32 ∧ (s.block.outputs.find? (fun o => o.pair == p) = none ∨ (s.safeOut p).high = false ∨ (s.safeOut p).low = false ∨ (h = true ∧ l = true ∧ c = false))) ∧
    (∃ (p : Nat) (o : GlmOutput) (h l c : Bool) (s : State), p < 32 ∧ s.block.outputs.find? (fun o => o.pair == p) = some o ∧ (s.safeOut p).high = true ∧ (s.safeOut p).low = true ∧ (h = false ∨ l = false ∨ c = true)) ∧
    (∃ (p : Nat), 32 ≤ p) :=
  ⟨⟨[], s0, by decide⟩,
   ⟨[0, 7], 0, { s0 with glume.block := some { sources := [{ addr := 7 }], arms := [{ joints := [{ axis := 9 }] }] } }, by decide, by unfold Intact; decide⟩,
   ⟨telegram 7 1 1 0 0 [], 0, { s0 with glume.block := some { sources := [{ addr := 7 }], arms := [{ joints := [{ axis := 9 }] }] } }, by decide +kernel, (by unfold Intact; decide +kernel), (by unfold Addressed; decide +kernel)⟩,
   ⟨telegram 7 0 1 9 0 [], 0, ({ s0 with glume.block := some { sources := [{ addr := 7 }], arms := [{ joints := [{ axis := 9 }] }] } }).updGsrc 0 (fun r => { r with seq := some 0 }), by decide +kernel, (by unfold Intact; decide +kernel), (by unfold Addressed; decide +kernel), (by intro h; exact absurd (h 0 rfl).2 (by decide +kernel))⟩,
   ⟨telegram 7 0 1 8 1001 [], 0, { s0 with glume.block := some { sources := [{ addr := 7 }], arms := [{ joints := [{ axis := 9 }] }] } }, by decide +kernel, (by unfold Intact; decide +kernel), (by unfold Addressed; decide +kernel), (by intro q h; cases h), (by unfold FreshEnough; decide +kernel)⟩,
   ⟨telegram 7 0 1 8 1000 [], 0, { s0 with glume.block := some { sources := [{ addr := 7 }], arms := [{ joints := [{ axis := 9 }] }] } }, by decide +kernel, (by unfold Intact; decide +kernel), (by unfold Addressed; decide +kernel), (by intro q h; cases h), (by unfold FreshEnough; decide +kernel), by decide +kernel, (by unfold JointsFormed; decide +kernel)⟩,
   ⟨telegram 7 0 1 8 1000 ([1, 0, 0, 9] ++ List.replicate 12 0), 0, { s0 with glume.block := some { sources := [{ addr := 7 }], arms := [{ joints := [{ axis := 9 }] }] } }, by decide +kernel, (by unfold Intact; decide +kernel), (by unfold Addressed; decide +kernel), (by intro q h; cases h), (by unfold FreshEnough; decide +kernel), by decide +kernel, (by unfold JointsFormed; decide +kernel)⟩,
   ⟨0, s0, by decide⟩,
   ⟨0, { s0 with glume.block := some { sources := [{}] } }, by decide⟩,
   ⟨31, s0, by decide⟩,
   ⟨31, { pair := 31 }, { (s0.updSafeIn 31 (fun r => { r with isOpenA := false })) with glume.block := some { inputs := [{ pair := 31 }] } }, by decide⟩,
   ⟨3, by decide⟩,
   ⟨31, true, true, true, s0, by decide⟩,
   ⟨31, { pair := 31 }, false, true, true, { (s0.updSafeOut 31 (fun r => { r with high := true, low := true })) with glume.block := some { outputs := [{ pair := 31 }] } }, by decide⟩,
   ⟨32, by decide⟩⟩

theorem witness_GlumeChecksWindowsStopsAndFaults :
    (∃ (u : Nat), u < 16) ∧
    (∃ (u : Nat) (r : GlmResult) (s : State), u < 16 ∧ r.cand = false ∧ r.fail = 0 ∧ 0 ≤ r.mKeep ∧ r.oKeep = false ∧ ((Table.get (0, 0) s.glume.modes u).1 ≠ 2 ∨ 0 ≤ r.mHuman ∧ r.oHuman = false)) ∧
    (∃ (u : Nat) (r : GlmResult), u < 16 ∧ r.cand = false ∧ (r.fail ≠ 0 ∨ r.mKeep < 0 ∨ r.oKeep = true)) ∧
    (∃ (u : Nat) (r : GlmResult) (s : State), u < 16 ∧ r.cand = false ∧ (r.fail ≠ 0 ∨ (Table.get (0, 0) s.glume.modes u).1 = 2 ∧ (r.mHuman < 0 ∨ r.oHuman = true))) ∧
    (∃ (u : Nat) (r : GlmResult), u < 16 ∧ r.cand = false ∧ (r.mKeep < 0 ∧ r.oKeep = false ∨ 88 < r.mKeep ∧ r.oKeep = true)) ∧
    (∃ (u : Nat) (r : GlmResult) (s : State), u < 16 ∧ r.cand = true ∧ (r.fail ≠ 0 ∨ r.mKeep < 0 ∨ r.oKeep = true ∨ (s.gunit u).proposed = 0)) ∧
    (∃ (u : Nat) (r : GlmResult) (s : State), u < 16 ∧ r.cand = true ∧ r.fail = 0 ∧ 0 ≤ r.mKeep ∧ r.oKeep = false ∧ (s.gunit u).proposed ≠ 0 ∧ (Table.get (0, 0) s.glume.modes u).1 ≠ 2) ∧
    (∃ (u : Nat) (r : GlmResult) (i : Nat) (s : State), u < 16 ∧ r.cand = true ∧ r.fail = 0 ∧ 0 ≤ r.mKeep ∧ r.oKeep = false ∧ 0 ≤ r.mHuman ∧ r.oHuman = false ∧ (s.gunit u).proposed ≠ 0 ∧ (Table.get (0, 0) s.glume.modes u).1 = 2 ∧ gradeRow s.block.grades r.mHuman r.oGrade = some i) ∧
    (∃ (u : Nat), u < 32) ∧
    (∃ (u : Nat) (s : State), u < 32 ∧ (s.gunit u).stop ≠ some 1) ∧
    (∃ (u : Nat) (s : State), u < 32 ∧ (s.gunit u).stop = some 1) :=
  ⟨⟨15, by decide⟩,
   ⟨15, {}, s0, by decide⟩,
   ⟨15, { fail := 1 }, by decide⟩,
   ⟨15, { mHuman := -1 }, { s0 with glume.modes := [(15, (2, 0))] }, by decide⟩,
   ⟨15, { mKeep := 89, oKeep := true }, by decide⟩,
   ⟨15, { cand := true }, s0, by decide⟩,
   ⟨15, { cand := true }, s0.updGunit 15 (fun r => { r with hasLatch := true, latched := [(0, [(0, 0)])] }), by decide⟩,
   ⟨15, { cand := true, oGrade := [false] }, 0, { (s0.updGunit 15 (fun r => { r with hasLatch := true, latched := [(0, [(0, 0)])] })) with glume.modes := [(15, (2, 0))], glume.block := some { grades := [(0, 1)] } }, by decide⟩,
   ⟨31, by decide⟩,
   ⟨31, s0, by decide⟩,
   ⟨31, s0.updGunit 31 (fun r => { r with stop := some 1 }), by decide⟩⟩

theorem witness_LatheEventsEnterPostStartSwapAndRestart :
    (∃ (e : Nat) (s : State), e < 16 ∧ ((s.lathe e).due = [] ∨ (s.lathe e).loaded = false ∨ (s.lathe e).unusable = true ∨ (s.lathe e).migrating = true ∨ (s.lathe e).restarting = true ∨ (s.lathe e).initing = true ∨ (s.lathe e).rx.active = true)) ∧
    (∃ (e : Nat) (x : RxEntry) (rest : List RxEntry) (s : State), e < 16 ∧ (s.lathe e).due = x :: rest ∧ (s.lathe e).loaded = true ∧ (s.lathe e).unusable = false ∧ (s.lathe e).migrating = false ∧ (s.lathe e).restarting = false ∧ (s.lathe e).initing = false ∧ (s.lathe e).rx.active = false) ∧
    (∃ (e : Nat) (w : Word) (s : State), e < 16 ∧ s.inSlot e (field w.toNat 0 12) = none) ∧
    (∃ (e : Nat) (w : Word) (d : NetSlot) (s : State), e < 16 ∧ s.inSlot e (field w.toNat 0 12) = some d ∧ s.cell.edge + postDeadline s.cell.tickSel < s.gtc ∧ fullStamp s.gtc (s.lathe e).postStamp < s.cell.edge) ∧
    (∃ (e : Nat) (w : Word) (d : NetSlot) (s : State), e < 16 ∧ s.inSlot e (field w.toNat 0 12) = some d ∧ s.gtc ≤ s.cell.edge + postDeadline s.cell.tickSel ∧ fullStamp s.gtc (s.lathe e).postStamp < s.cell.edge ∧ (Table.get ({} : InSlot) (s.lathe e).slots (field w.toNat 0 12)).fresh = true ∧ (Table.get ({} : InSlot) (s.lathe e).slots (field w.toNat 0 12)).posted = none) ∧
    (∃ (e : Nat) (w : Word) (d : NetSlot) (s : State), e < 16 ∧ s.inSlot e (field w.toNat 0 12) = some d ∧ s.cell.edge ≤ fullStamp s.gtc (s.lathe e).postStamp ∧ (Table.get ({} : InSlot) (s.lathe e).slots (field w.toNat 0 12)).fresh = false ∧ (Table.get ({} : InSlot) (s.lathe e).slots (field w.toNat 0 12)).later = none) ∧
    (∃ (e : Nat) (s : State), e < 16 ∧ (16 ≤ (s.lathe e).telemTick ∨ 128 ≤ (s.lathe e).ring.length)) ∧
    (∃ (e : Nat) (s : State), e < 16 ∧ (s.lathe e).telemTick < 16 ∧ (s.lathe e).ring.length < 128) ∧
    (∃ (e : Nat) (s : State), e < 16 ∧ ((s.lathe e).startDue = false ∨ (s.lathe e).unusable = true)) ∧
    (∃ (e : Nat) (s : State), e < 16 ∧ (s.lathe e).startDue = true ∧ (s.lathe e).unusable = false) ∧
    (∃ (e : Nat) (s : State), e < 16 ∧ (s.lathe e).swapAt = none) ∧
    (∃ (e g : Nat) (s : State), e < 16 ∧ (s.lathe e).swapAt = some g) ∧
    (∃ (e : Nat) (s : State), e < 16 ∧ ((s.lathe e).migrating = false ∨ (s.lathe e).initDone = false ∨ (s.lathe e).toMigrate ≠ [] ∨ (s.lathe e).phase.active = true)) ∧
    (∃ (e : Nat) (s : State), e < 16 ∧ (s.lathe e).migrating = true ∧ (s.lathe e).initDone = true ∧ (s.lathe e).toMigrate = [] ∧ (s.lathe e).phase.active = false) ∧
    (∃ (e : Nat) (s : State), e < 16 ∧ ((s.lathe e).loaded = false ∨ (s.lathe e).unusable = true)) ∧
    (∃ (e : Nat) (s : State), e < 16 ∧ (s.lathe e).loaded = true ∧ (s.lathe e).unusable = false) ∧
    (∃ (e : Nat) (s : State), e < 16 ∧ (s.lathe e).bg.active = false) ∧
    (∃ (e : Nat) (s : State), e < 16 ∧ (s.lathe e).bg.active = true ∧ (s.lathe e).loaded = true ∧ (s.lathe e).unusable = false) ∧
    (∃ (e : Nat), 16 ≤ e) :=
  ⟨⟨15, s0.updLathe 15 (fun r => { r with due := [] }), by decide⟩,
   ⟨15, {}, [], ((((((s0.updLathe 15 (fun r => { r with due := {} :: [] })).updLathe 15 (fun r => { r with loaded := true })).updLathe 15 (fun r => { r with unusable := false })).updLathe 15 (fun r => { r with migrating := false })).updLathe 15 (fun r => { r with restarting := false })).updLathe 15 (fun r => { r with initing := false })).updLathe 15 (fun r => { r with rx.active := false }), by decide⟩,
   ⟨15, 0, s0, by decide⟩,
   ⟨15, 0, {}, { (s0.updNet 31 (fun r => { r with defined := true, engine := 15, ins := [{}] })).updBase 0 (fun r => { r with val := 100000 * 2 ^ 40 }) with cell.edge := 1 }, by decide⟩,
   ⟨15, 0, {}, { (s0.updNet 31 (fun r => { r with defined := true, engine := 15, ins := [{}] })).updLathe 15 (fun r => { r with slots := [(0, { fresh := true })] }) with cell.edge := 1 }, by decide⟩,
   ⟨15, 0, {}, (s0.updNet 31 (fun r => { r with defined := true, engine := 15, ins := [{}] })), by decide⟩,
   ⟨15, s0.updLathe 15 (fun r => { r with telemTick := 16 }), by decide⟩,
   ⟨15, s0, by decide⟩,
   ⟨15, s0.updLathe 15 (fun r => { r with startDue := false }), by decide⟩,
   ⟨15, (s0.updLathe 15 (fun r => { r with startDue := true })).updLathe 15 (fun r => { r with unusable := false }), by decide⟩,
   ⟨15, s0.updLathe 15 (fun r => { r with swapAt := none }), by decide⟩,
   ⟨15, 0, s0.updLathe 15 (fun r => { r with swapAt := some 0 }), by decide⟩,
   ⟨15, s0.updLathe 15 (fun r => { r with migrating := false }), by decide⟩,
   ⟨15, (((s0.updLathe 15 (fun r => { r with migrating := true })).updLathe 15 (fun r => { r with initDone := true })).updLathe 15 (fun r => { r with toMigrate := [] })).updLathe 15 (fun r => { r with phase.active := false }), by decide⟩,
   ⟨15, s0.updLathe 15 (fun r => { r with loaded := false }), by decide⟩,
   ⟨15, (s0.updLathe 15 (fun r => { r with loaded := true })).updLathe 15 (fun r => { r with unusable := false }), by decide⟩,
   ⟨15, s0.updLathe 15 (fun r => { r with bg.active := false }), by decide⟩,
   ⟨15, ((s0.updLathe 15 (fun r => { r with bg.active := true })).updLathe 15 (fun r => { r with loaded := true })).updLathe 15 (fun r => { r with unusable := false }), by decide⟩,
   ⟨16, by decide⟩⟩

theorem witness_LatheArithmeticAndLogicResults :
    (∃ (e v : Nat) (p : List Byte) (m : Byte) (s : State), opS m = 0 ∧ Ready e v p { sized := true } (2 + opSize p) s) ∧
    (∃ (e v : Nat) (p : List Byte) (s : State), Ready e v p { sized := true } 2 s) :=
  ⟨⟨15, 1, [0xE1, 0xE4], 0x10, running 1 {}, by
    repeat' apply And.intro
    all_goals first | decide | (constructor <;> decide)⟩,
   ⟨15, 1, [0xE4, 0xE0], running 1 {}, by constructor <;> decide⟩⟩

theorem witness_LatheShiftsBitsAndIllegalForms :
    (∃ (e v : Nat) (p : List Byte) (m : Byte) (s : State), opS m = 0 ∧ Ready e v p { sized := true } 3 s) ∧
    (∃ (e v : Nat) (p : List Byte) (m : Byte) (s : State), opS m = 0 ∧ Ready e v p {} 3 s) ∧
    (∃ (e v : Nat) (p : List Byte) (pos wid : Byte) (s : State), pos.toNat ≤ 31 ∧ wid.toNat ≤ 31 ∧ Ready e v p {} 4 s) ∧
    (∃ (e v : Nat) (p : List Byte) (m : Byte) (s : State), opS m = 0 ∧ opSize p ≠ 1 ∧ Ready e v p { sized := true } 2 s) ∧
    (∃ (e v : Nat) (m : Byte) (s : State), (s.lthLevel e v).xen = true ∧ opS m ≠ 0) ∧
    (∃ (e v : Nat) (p : List Byte) (s : State), (s.lthLevel e v).xen = true ∧ opSize p = 1 ∧ Ready e v p { sized := true } 1 s) ∧
    (∃ (e v : Nat) (p : List Byte) (s : State), (s.lthLevel e v).xen = true ∧ Ready e v p {} 4 s) :=
  ⟨⟨15, 1, [], 0xF0, running 1 {}, by
    repeat' apply And.intro
    all_goals first | decide | (constructor <;> decide)⟩,
   ⟨15, 1, [0xE4], 0xF0, running 1 {}, by
    repeat' apply And.intro
    all_goals first | decide | (constructor <;> decide)⟩,
   ⟨15, 1, [], 31, 31, running 1 {}, by
    repeat' apply And.intro
    all_goals first | decide | (constructor <;> decide)⟩,
   ⟨15, 1, [0xE0], 0x10, running 1 {}, by
    repeat' apply And.intro
    all_goals first | decide | (constructor <;> decide)⟩,
   ⟨15, 1, 1, running 1 { xen := true }, by decide⟩,
   ⟨15, 1, [], running 1 { xen := true }, by
    repeat' apply And.intro
    all_goals first | decide | (constructor <;> decide)⟩,
   ⟨15, 1, [], running 1 { xen := true }, by
    repeat' apply And.intro
    all_goals first | decide | (constructor <;> decide)⟩⟩

theorem witness_LatheLoadsStoresAndExchanges :
    (∃ (e v : Nat) (p : List Byte) (m a : Byte) (disp : Nat) (s : State), badA a = false ∧ (postInc a = true → opD m ≠ opS m) ∧ Ready e v p { sized := true, be := true } (3 + dispLen a) s ∧ let x := s.lthLevel e v; let ea := effAddr x (opS m) a disp (opSize p); LiveClear s e ea (opSize p)) ∧
    (∃ (e v : Nat) (p : List Byte) (m a : Byte) (disp : Nat) (s : State), badA a = false ∧ Ready e v p { sized := true, be := true } (3 + dispLen a) s ∧ let x := s.lthLevel e v; let ea := effAddr x (opS m) a disp (opSize p); 0x10002000 ≤ ea ∧ LiveClear s e ea (opSize p)) ∧
    (∃ (e v : Nat) (p : List Byte) (m a : Byte) (disp : Nat) (s : State), badA a = false ∧ opD m = 0 ∧ Ready e v p { sized := true, be := true } (3 + dispLen a + opSize p) s ∧ let x := s.lthLevel e v; let ea := effAddr x (opS m) a disp (opSize p); 0x10002000 ≤ ea ∧ LiveClear s e ea (opSize p)) ∧
    (∃ (e v : Nat) (p : List Byte) (m a : Byte) (disp : Nat) (s : State), badA a = false ∧ Ready e v p { sized := true, be := true } (3 + dispLen a) s ∧ let x := s.lthLevel e v; let ea := effAddr x (opS m) a disp (opSize p); 0x10000000 ≤ ea ∧ ea + opSize p ≤ 0x10002000) ∧
    (∃ (e v : Nat) (p : List Byte) (a : Byte) (s : State), badA a = false ∧ postInc a = false ∧ Ready e v p { sized := true } (3 + dispLen a) s) ∧
    (∃ (e v : Nat) (p : List Byte) (m a : Byte) (disp : Nat) (s : State), badA a = false ∧ (postInc a = true → opD m ≠ opS m) ∧ Ready e v p { sized := true, be := true } (3 + dispLen a) s ∧ let x := s.lthLevel e v; let ea := effAddr x (opS m) a disp (opSize p); 0x10002000 ≤ ea ∧ LiveClear s e ea (opSize p) ∧ ea / 8 = (ea + opSize p - 1) / 8) ∧
    (∃ (e v : Nat) (p : List Byte) (b : Byte) (s : State), opS b = 0 ∧ Ready e v p { sized := true, be := true } 3 s ∧ let x := s.lthLevel e v; let ea := (x.reg (opD b)).toNat; let _old := ofMem (p.contains 0xE2) (liveAt s e ea (opSize p)); 0x10002000 ≤ ea ∧ LiveClear s e ea (opSize p) ∧ ea / 8 = (ea + opSize p - 1) / 8) ∧
    (∃ (e v : Nat) (p : List Byte) (m a : Byte) (s : State), (s.lthLevel e v).xen = true ∧ badA a = false ∧ (postInc a = true → opD m ≠ opS m) ∧ Ready e v p { sized := true, be := true } (3 + dispLen a) s) ∧
    (∃ (e v : Nat) (p : List Byte) (a : Byte) (s : State), (s.lthLevel e v).xen = true ∧ badA a = true ∧ Ready e v p { sized := true, be := true } 3 s) ∧
    (∃ (e v : Nat) (p : List Byte) (m a : Byte) (s : State), (s.lthLevel e v).xen = true ∧ postInc a = true ∧ opD m = opS m ∧ Ready e v p { sized := true, be := true } 3 s) ∧
    (∃ (e v : Nat) (p : List Byte) (a : Byte) (s : State), (s.lthLevel e v).xen = true ∧ (badA a = true ∨ postInc a = true) ∧ Ready e v p { sized := true } 3 s) ∧
    (∃ (e v : Nat) (p : List Byte) (b : Byte) (s : State), (s.lthLevel e v).xen = true ∧ opS b ≠ 0 ∧ Ready e v p { sized := true, be := true } 3 s) :=
  ⟨⟨15, 1, [], 0x12, 0, 0, running 1 { g := [(2, 0x1003FFFF)] }, by
    dsimp only
    repeat' apply And.intro
    all_goals first | decide | (intro _ _ _; rfl) | (constructor <;> decide)⟩,
   ⟨15, 1, [], 0x12, 0, 0, running 1 { g := [(2, 0x10002000)] }, by
    dsimp only
    repeat' apply And.intro
    all_goals first | decide | (intro _ _ _; rfl) | (constructor <;> decide)⟩,
   ⟨15, 1, [], 0x02, 0, 0, running 1 { g := [(2, 0x10002000)] }, by
    dsimp only
    repeat' apply And.intro
    all_goals first | decide | (intro _ _ _; rfl) | (constructor <;> decide)⟩,
   ⟨15, 1, [], 0x12, 0, 0, running 1 { g := [(2, 0x10001FFF)] }, by
    dsimp only
    repeat' apply And.intro
    all_goals first | decide | (constructor <;> decide)⟩,
   ⟨15, 1, [], 0, running 1 {}, by
    repeat' apply And.intro
    all_goals first | decide | (constructor <;> decide)⟩,
   ⟨15, 1, [], 0x12, 0, 0, running 1 { g := [(2, 0x1003FFFF)] }, by
    dsimp only
    repeat' apply And.intro
    all_goals first | decide | (intro _ _ _; rfl) | (constructor <;> decide)⟩,
   ⟨15, 1, [], 0x20, running 1 { g := [(2, 0x10002000)] }, by
    dsimp only
    repeat' apply And.intro
    all_goals first | decide | (intro _ _ _; rfl) | (constructor <;> decide)⟩,
   ⟨15, 1, [], 0x12, 0, running 1 { xen := true }, by
    repeat' apply And.intro
    all_goals first | decide | (constructor <;> decide)⟩,
   ⟨15, 1, [], 0x01, running 1 { xen := true }, by
    repeat' apply And.intro
    all_goals first | decide | (constructor <;> decide)⟩,
   ⟨15, 1, [], 0x11, 0x10, running 1 { xen := true }, by
    repeat' apply And.intro
    all_goals first | decide | (constructor <;> decide)⟩,
   ⟨15, 1, [], 0x10, running 1 { xen := true }, by
    repeat' apply And.intro
    all_goals first | decide | (constructor <;> decide)⟩,
   ⟨15, 1, [], 1, running 1 { xen := true }, by
    repeat' apply And.intro
    all_goals first | decide | (constructor <;> decide)⟩⟩

theorem witness_LatheBranchesCallsAndStack :
    (∃ (e v : Nat) (p : List Byte) (cc : Nat) (s : State), cc % 16 ≠ 15 ∧ Ready e v p {} 2 s) ∧
    (∃ (e v : Nat) (p : List Byte) (cc : Nat) (s : State), cc % 16 ≠ 15 ∧ Ready e v p {} 3 s) ∧
    (∃ (e v : Nat) (p : List Byte) (cc : Nat) (s : State), (s.lthLevel e v).xen = true ∧ cc % 16 = 15 ∧ Ready e v p {} 1 s) ∧
    (∃ (e v : Nat) (p : List Byte) (m : Byte) (s : State), opS m = 0 ∧ Ready e v p {} 2 s) ∧
    (∃ (e v : Nat) (p : List Byte) (s : State), Ready e v p {} 5 s) ∧
    (∃ (e v : Nat) (p : List Byte) (m : Byte) (s : State), opS m = 0 ∧ Ready e v p {} 2 s ∧ let x := s.lthLevel e v; 4 ≤ (x.reg 12).toNat ∧ StackClear s e (x.reg 12).toNat ((x.reg 12).toNat - 4) 4) ∧
    (∃ (e v : Nat) (p : List Byte) (m : Byte) (s : State), opS m = 0 ∧ opD m ≠ 12 ∧ Ready e v p {} 2 s ∧ let x := s.lthLevel e v; StackClear s e (x.reg 12).toNat (x.reg 12).toNat 4) ∧
    (∃ (e v : Nat) (p : List Byte) (mask : BitVec 16) (s : State), bitAt mask.toNat 12 = false ∧ Ready e v p {} 5 s ∧ let x := s.lthLevel e v; let n := frameLen mask; n ≤ (x.reg 12).toNat ∧ StackClear s e (x.reg 12).toNat ((x.reg 12).toNat - n) n) ∧
    (∃ (e v : Nat) (p : List Byte) (m : Byte) (mask : BitVec 16) (s : State), opS m = 0 ∧ bitAt mask.toNat 12 = false ∧ Ready e v p {} 4 s ∧ let x := s.lthLevel e v; let n := frameLen mask; n ≤ (x.reg 12).toNat ∧ StackClear s e (x.reg 12).toNat ((x.reg 12).toNat - n) n) ∧
    (∃ (e v : Nat) (p : List Byte) (mask : BitVec 16) (s : State), bitAt mask.toNat 12 = false ∧ Ready e v p {} 3 s ∧ let x := s.lthLevel e v; let a := (x.reg 12).toNat; let rs := (List.range 16).filter (bitAt mask.toNat); StackClear s e a a (frameLen mask)) ∧
    (∃ (e v : Nat) (mask : BitVec 16) (s : State), (s.lthLevel e v).xen = true ∧ bitAt mask.toNat 12 = true) ∧
    (∃ (e v : Nat) (p : List Byte) (m : Byte) (s : State), (s.lthLevel e v).xen = true ∧ opS m ≠ 0 ∧ Ready e v p {} 2 s) ∧
    (∃ (e v : Nat) (p : List Byte) (m : Byte) (s : State), (s.lthLevel e v).xen = true ∧ opS m = 0 ∧ opD m = 12 ∧ Ready e v p {} 2 s) ∧
    (∃ (e v : Nat) (p : List Byte) (m : Byte) (s : State), (s.lthLevel e v).xen = true ∧ opS m = 0 ∧ Ready e v p {} 2 s) :=
  ⟨⟨15, 1, [], 14, running 1 {}, by
    repeat' apply And.intro
    all_goals first | decide | (constructor <;> decide)⟩,
   ⟨15, 1, [], 14, running 1 {}, by
    repeat' apply And.intro
    all_goals first | decide | (constructor <;> decide)⟩,
   ⟨15, 1, [], 15, running 1 { xen := true }, by
    repeat' apply And.intro
    all_goals first | decide | (constructor <;> decide)⟩,
   ⟨15, 1, [], 0x10, running 1 {}, by
    repeat' apply And.intro
    all_goals first | decide | (constructor <;> decide)⟩,
   ⟨15, 1, [], running 1 {}, by constructor <;> decide⟩,
   ⟨15, 1, [], 0x10, running 1 { g := [(12, 0x10002004)] }, by
    dsimp only
    repeat' apply And.intro
    all_goals first | decide | (intro _ _ _; rfl) | (constructor <;> decide)⟩,
   ⟨15, 1, [], 0x10, running 1 { g := [(12, 0x10002000)] }, by
    dsimp only
    repeat' apply And.intro
    all_goals first | decide | (intro _ _ _; rfl) | (constructor <;> decide)⟩,
   ⟨15, 1, [], 1, running 1 { g := [(12, 0x10002008)] }, by
    dsimp only
    repeat' apply And.intro
    all_goals first | decide | (intro _ _ _; rfl) | (constructor <;> decide)⟩,
   ⟨15, 1, [], 0, 1, running 1 { g := [(12, 0x10002008)] }, by
    dsimp only
    repeat' apply And.intro
    all_goals first | decide | (intro _ _ _; rfl) | (constructor <;> decide)⟩,
   ⟨15, 1, [], 1, running 1 { g := [(12, 0x10002000)] }, by
    dsimp only
    repeat' apply And.intro
    all_goals first | decide | (intro _ _ _; rfl) | (constructor <;> decide)⟩,
   ⟨15, 1, 0x1000, running 1 { xen := true }, by decide⟩,
   ⟨15, 1, [], 1, running 1 { xen := true }, by
    repeat' apply And.intro
    all_goals first | decide | (constructor <;> decide)⟩,
   ⟨15, 1, [], 0xC0, running 1 { xen := true }, by
    repeat' apply And.intro
    all_goals first | decide | (constructor <;> decide)⟩,
   ⟨15, 1, [], 0x10, running 1 { xen := true }, by
    repeat' apply And.intro
    all_goals first | decide | (constructor <;> decide)⟩⟩

theorem witness_LatheBlockInstructionsMoveAndCompare :
    (∃ (e v : Nat) (p : List Byte) (b : Byte) (s : State), GoodK b false ∧ bitAt b.toNat 3 = false ∧ Ready e v p { sized := true, be := true, dn := true } 2 s ∧ let x := s.lthLevel e v; LiveClear s e (x.reg 14).toNat (opSize p) ∧ 0x10002000 ≤ (x.reg 15).toNat ∧ LiveClear s e (x.reg 15).toNat (opSize p)) ∧
    (∃ (e v : Nat) (p : List Byte) (b m : Byte) (s : State), GoodK b false ∧ bitAt b.toNat 3 = false ∧ opS m = 0 ∧ Ready e v p { sized := true, be := true, dn := true } 3 s ∧ let x := s.lthLevel e v; 0x10002000 ≤ (x.reg 15).toNat ∧ LiveClear s e (x.reg 15).toNat (opSize p)) ∧
    (∃ (e v : Nat) (p : List Byte) (b : Byte) (s : State), GoodK b true ∧ bitAt b.toNat 3 = false ∧ Ready e v p { sized := true, be := true, dn := true } 2 s ∧ let x := s.lthLevel e v; LiveClear s e (x.reg 14).toNat (opSize p) ∧ LiveClear s e (x.reg 15).toNat (opSize p)) ∧
    (∃ (e v : Nat) (p : List Byte) (b m : Byte) (s : State), GoodK b true ∧ bitAt b.toNat 3 = false ∧ opS m = 0 ∧ Ready e v p { sized := true, be := true, dn := true } 3 s ∧ let x := s.lthLevel e v; LiveClear s e (x.reg 15).toNat (opSize p)) ∧
    (∃ (e v : Nat) (p : List Byte) (b m : Byte) (s : State), GoodK b false ∧ bitAt b.toNat 3 = false ∧ opS m = 0 ∧ Ready e v p { sized := true, be := true, dn := true } 3 s ∧ let x := s.lthLevel e v; LiveClear s e (x.reg 14).toNat (opSize p)) ∧
    (∃ (e v : Nat) (b m : Byte) (s : State), bitAt b.toNat 3 = true ∧ ((s.lthLevel e v).reg 13) = 0 ∧ opS m = 0) ∧
    (∃ (e v : Nat) (p : List Byte) (b m : Byte) (s : State), GoodK b true ∧ bitAt b.toNat 3 = true ∧ ((s.lthLevel e v).reg 13) ≠ 0 ∧ opS m = 0 ∧ Ready e v p { sized := true, be := true, dn := true } 3 s ∧ let x := s.lthLevel e v; let f := compared (8 * opSize p) ((x.reg (opD m)).toNat % 2 ^ (8 * opSize p)) (ofMem (p.contains 0xE2) (liveAt s e (x.reg 15).toNat (opSize p))); let y := (if p.contains 0xE4 then x else x.setFlags f).setReg 15 (x.reg 15 + stepOf p); LiveClear s e (x.reg 15).toNat (opSize p)) ∧
    (∃ (e v : Nat) (p : List Byte) (b m : Byte) (more k : Nat) (s : State), GoodK b false ∧ bitAt b.toNat 3 = true ∧ opS m = 0 ∧ Ready e v p { sized := true, be := true, dn := true } 3 s ∧ let x := s.lthLevel e v; let n := opSize p; let a := (x.reg 15).toNat; x.pend = none ∧ p.contains 0xE3 = false ∧ opD m ≠ 13 ∧ opD m ≠ 15 ∧ k = min (x.reg 13).toNat (more + 1) ∧ 0x10002000 ≤ a ∧ LiveClear s e a (k * n)) ∧
    (∃ (e v : Nat) (p : List Byte) (s : State), (s.lthLevel e v).xen = true ∧ Ready e v p { sized := true, be := true, dn := true } 3 s) ∧
    (∃ (e v : Nat) (p : List Byte) (b m : Byte) (s : State), (s.lthLevel e v).xen = true ∧ GoodK b false ∧ bitAt b.toNat 3 = false ∧ opS m = 0 ∧ Ready e v p { sized := true, be := true, dn := true } 3 s ∧ regionOf ((s.lthLevel e v).reg 15).toNat (opSize p) = .none) :=
  ⟨⟨15, 1, [], 0, running 1 { g := [(13, 2), (14, 0x10000000), (15, 0x10002000)] }, by
    dsimp only
    repeat' apply And.intro
    all_goals first | decide | (intro _ _ _; rfl) | (constructor <;> decide)⟩,
   ⟨15, 1, [], 0, 0x10, running 1 { g := [(13, 2), (14, 0x10000000), (15, 0x10002000)] }, by
    dsimp only
    repeat' apply And.intro
    all_goals first | decide | (intro _ _ _; rfl) | (constructor <;> decide)⟩,
   ⟨15, 1, [], 0, running 1 { g := [(13, 2), (14, 0x10000000), (15, 0x10002000)] }, by
    dsimp only
    repeat' apply And.intro
    all_goals first | decide | (intro _ _ _; rfl) | (constructor <;> decide)⟩,
   ⟨15, 1, [], 0, 0x10, running 1 { g := [(13, 2), (14, 0x10000000), (15, 0x10002000)] }, by
    dsimp only
    repeat' apply And.intro
    all_goals first | decide | (intro _ _ _; rfl) | (constructor <;> decide)⟩,
   ⟨15, 1, [], 0, 0x10, running 1 { g := [(13, 2), (14, 0x10000000), (15, 0x10002000)] }, by
    dsimp only
    repeat' apply And.intro
    all_goals first | decide | (intro _ _ _; rfl) | (constructor <;> decide)⟩,
   ⟨15, 1, 8, 0x10, running 1 {}, by decide⟩,
   ⟨15, 1, [], 8, 0x10, running 1 { g := [(13, 2), (14, 0x10000000), (15, 0x10002000)] }, by
    dsimp only
    repeat' apply And.intro
    all_goals first | decide | (intro _ _ _; rfl) | (constructor <;> decide)⟩,
   ⟨15, 1, [], 8, 0x10, 1, 2, running 1 { g := [(13, 2), (14, 0x10000000), (15, 0x10002000)] }, by
    dsimp only
    repeat' apply And.intro
    all_goals first | decide | (intro _ _ _; rfl) | (constructor <;> decide)⟩,
   ⟨15, 1, [], running 1 { xen := true }, by
    repeat' apply And.intro
    all_goals first | decide | (constructor <;> decide)⟩,
   ⟨15, 1, [], 0, 0x10, running 1 { xen := true }, by
    repeat' apply And.intro
    all_goals first | decide | (constructor <;> decide)⟩⟩

theorem witness_LatheControlInstructionsAndExceptions :
    (∃ (e v : Nat) (p : List Byte) (s : State), Ready e v p {} 1 s) ∧
    (∃ (e : Nat) (p : List Byte) (s : State), Ready e 2 p {} 1 s) ∧
    (∃ (e v : Nat) (p : List Byte) (s : State), v ≠ 2 ∧ (s.lthLevel e v).xen = true ∧ Ready e v p {} 1 s) ∧
    (∃ (e : Nat) (p : List Byte) (s : State), (s.lthLevel e 2).xen = true ∧ Ready e 2 p {} 1 s) ∧
    (∃ (e : Nat) (p : List Byte) (s : State), Ready e 1 p {} 1 s) ∧
    (∃ (e : Nat) (p : List Byte) (s : State), Ready e 0 p {} 1 s ∧ (s.lathe e).migrating = false ∧ (s.lathe e).initing = false ∧ (s.lathe e).restarting = false) ∧
    (∃ (e : Nat) (p : List Byte) (s : State), Ready e 0 p {} 1 s ∧ (s.lathe e).migrating = false ∧ ((s.lathe e).initing = true ∨ (s.lathe e).restarting = true)) ∧
    (∃ (e v : Nat) (p : List Byte) (s : State), (s.lthLevel e v).xen = false ∧ Ready e v p {} 1 s) ∧
    (∃ (e v : Nat) (p : List Byte) (s : State), (s.lthLevel e v).xen = true ∧ Ready e v p {} 1 s) ∧
    (∃ (e v : Nat) (p : List Byte) (s : State), (s.lthLevel e v).xen = true ∧ Ready e v p {} 2 s) ∧
    (∃ (e v : Nat) (p : List Byte) (s : State), (s.lthLevel e v).xen = false ∧ Ready e v p {} 2 s) ∧
    (∃ (i : Instr) (e : Nat) (p : List Byte) (s : State), latheInstr i = some (e, p) ∧ e < 16 ∧ ((s.lathe e).loaded = false ∨ (s.lathe e).unusable = true ∨ (s.lathe e).running = none)) ∧
    (∃ (i : Instr) (e : Nat) (p : List Byte) (v k : Nat) (s : State), latheInstr i = some (e, p) ∧ e < 16 ∧ (s.lathe e).loaded = true ∧ (s.lathe e).unusable = false ∧ (s.lathe e).running = some v ∧ (s.lthLevel e v).ip.toNat < 65536 ∧ (s.lthLevel e v).xen = true ∧ badPrefix p = some k) ∧
    (∃ (i : Instr) (e : Nat) (p : List Byte), latheInstr i = some (e, p) ∧ 16 ≤ e) :=
  ⟨⟨15, 1, [], running 1 {}, by constructor <;> decide⟩,
   ⟨15, [], running 2 {}, by constructor <;> decide⟩,
   ⟨15, 1, [], running 1 { xen := true }, by
    repeat' apply And.intro
    all_goals first | decide | (constructor <;> decide)⟩,
   ⟨15, [], running 2 { xen := true }, by
    repeat' apply And.intro
    all_goals first | decide | (constructor <;> decide)⟩,
   ⟨15, [], running 1 {}, by constructor <;> decide⟩,
   ⟨15, [], running 0 {}, by
    repeat' apply And.intro
    all_goals first | decide | (constructor <;> decide)⟩,
   ⟨15, [], (running 0 {}).updLathe 15 (fun l => { l with initing := true }), by
    repeat' apply And.intro
    all_goals first | decide | (constructor <;> decide)⟩,
   ⟨15, 1, [], running 1 {}, by
    repeat' apply And.intro
    all_goals first | decide | (constructor <;> decide)⟩,
   ⟨15, 1, [], running 1 { xen := true }, by
    repeat' apply And.intro
    all_goals first | decide | (constructor <;> decide)⟩,
   ⟨15, 1, [], running 1 { xen := true }, by
    repeat' apply And.intro
    all_goals first | decide | (constructor <;> decide)⟩,
   ⟨15, 1, [], running 1 {}, by
    repeat' apply And.intro
    all_goals first | decide | (constructor <;> decide)⟩,
   ⟨.lthNop 15 [], 15, [], s0, by decide⟩,
   ⟨.lthNop 15 [0], 15, [0], 1, 0, running 1 { xen := true }, by decide⟩,
   ⟨.lthNop 16 [], 16, [], by decide⟩⟩

end Sys2Proof.Tests
end

section
/-! SUPPORT. The reset (R10, R45): a device without listed axes and arms has every axis unbound and no arm defined. -/

namespace Sys2Proof.Machine

/-- No axis is a joint while no arm is defined (R44). -/
theorem State.armOf_of_undefined {s : State} (h : ∀ n, (s.arm n).defined = false) (a : Nat) : s.armOf a = none := by
  simp [State.armOf, h]

/-- An axis that is no joint and has no owner set belongs to the Mandrel of its number (R51). -/
theorem State.mandrelOf_default {s : State} {a : Nat} (h : s.armOf a = none) (hm : (s.axis a).mandrel = none) : s.mandrelOf a = a / 128 := by
  simp [State.mandrelOf, h, hm]

/-- Settles O3: after either reset no axis and no arm is listed, so each reads as the reset record of its kind. -/
theorem resetLeavesTickLengthAndUnboundAxes : Obligations.ResetLeavesTickLengthAndUnboundAxes := by
  unfold Obligations.ResetLeavesTickLengthAndUnboundAxes
  intro cause s t ht
  have hreset : t.cell.tickSel = 1 ∧ t.motion.axes = [] ∧ t.motion.arms = [] := by
    simp only [List.mem_cons, List.not_mem_nil, or_false] at ht
    rcases ht with rfl | rfl <;> exact ⟨rfl, rfl, rfl⟩
  obtain ⟨hsel, haxes, harms⟩ := hreset
  have haxis : ∀ a, t.axis a = {} := fun a => by rw [State.axis, haxes]; rfl
  have harm : ∀ n, (t.arm n).defined = false := fun n => by rw [State.arm, harms]; rfl
  refine ⟨hsel, by rw [State.tickLen, hsel]; rfl, fun a _ => ?_, fun n _ => harm n⟩
  rw [State.mandrelOf_default (State.armOf_of_undefined harm a) (by rw [haxis]), haxis]
  exact ⟨rfl, rfl, rfl, rfl, rfl, rfl, rfl, rfl, rfl, rfl, rfl, rfl, rfl, rfl, rfl⟩

end Sys2Proof.Machine
end

section
/-! SUPPORT. The CELL commands (R13, R14, R343 to R347, R637): what the change edge, a transition and a new transaction number are, and how
a commit can end. -/

namespace Sys2Proof.Machine

variable {s : State}

/-- A test that a passing command lists does not fail. -/
theorem Passes.of_mem {ts : List Test} {b : Bool} {c d : Nat} (h : Passes ts) (hm : (b, c, d) ∈ ts) : b = false := by
  simpa using List.all_eq_true.mp h _ hm

/-! ### The tick length (R13, R14) -/

/-- The change edge is the first multiple of 1 ms at least 2 ms after the commit (R14). -/
theorem changeEdge_spec (e : Nat) : changeEdge e % 1000000 = 0 ∧ e + 2000000 ≤ changeEdge e ∧ changeEdge e < e + 3000000 := by
  unfold changeEdge
  omega

/-- CELL.SET_TICK is its tests and then the announcement of the change; what the other devices answer takes at most one free value. -/
theorem runCellSetTick_eq (h : Hdr) (a : List Byte) (s : State) : ∃ n t,
    runCellSetTick h a s = tested { s with freeCount := n } (needsCellSetTick h a s) (dataReply t (toLE 8 (changeEdge s.cell.edge))) ∧
    t.cell = { s.cell with change := some (uAt a 0 1, changeEdge s.cell.edge) } := by
  by_cases ho : s.otherNodes = []
  · simp only [runCellSetTick, needsCellSetTick, ho, if_true]
    exact ⟨s.freeCount, _, rfl, rfl⟩
  · simp only [runCellSetTick, needsCellSetTick, ho, if_false]
    exact ⟨s.freeCount + 1, _, rfl, rfl⟩

/-! ### Cell states (R637 to R641) -/

theorem State.enterCell_state (s : State) (st : Nat) : (s.enterCell st).cell.state = st :=
  congrArg CellState.state (State.event_keeps { s with cell := { s.cell with state := st } } _ _ _ _ .cell rfl)

theorem enterPartial_state (arms axes : Nat) (s : State) : (enterPartial arms axes s).cell.state = 7 := by
  simp only [enterPartial]
  split
  next h => exact (congrArg CellState.state (State.event_keeps _ _ _ _ _ .cell rfl)).trans h
  next => exact State.enterCell_state _ 7

theorem goSleep_state (s : State) : (goSleep s).cell.state = 8 := by
  simp only [goSleep]
  rw [State.driveOutputs_keeps _ .cell rfl]
  exact (congrArg CellState.state (State.commitJournal_keeps _ .cell rfl)).trans (State.enterCell_state s 8)

/-- Whatever a transition does besides, the cell is in the state commanded. -/
theorem changeCell_state (dst arms axes : Nat) (s : State) : (changeCell dst arms axes s).cell.state = dst := by
  simp only [changeCell]
  split
  · exact State.enterCell_state _ 3
  · exact (congrArg CellState.state (Keeps.foldl (fun s o => releaseOne_keeps o s) (Keeps.refl _ _) .cell rfl)).trans (State.enterCell_state _ 4)
  · exact (congrArg CellState.state (Keeps.foldl (fun s o => holdOne_keeps o s) (Keeps.refl _ _) .cell rfl)).trans (State.enterCell_state _ 5)
  · exact enterPartial_state arms axes _
  · exact goSleep_state _
  · exact State.enterCell_state _ _

/-! ### Transactions (R343 to R346) -/

/-- The `i`-th transaction number tried from `n` on. -/
def txnCandidate (n i : Nat) : Nat := (n + i) % 65535 + 1

theorem txnCandidates_nodup (n : Nat) : ((List.range 5).map (txnCandidate n)).Nodup := by
  refine List.Nodup.map_on (fun i hi j hj e => ?_) List.nodup_range
  simp only [List.mem_range, txnCandidate] at hi hj e
  omega

/-- Of five numbers one is not open while fewer than five transactions are. -/
theorem exists_txnCandidate_free {l : List Txn} (n : Nat) (hl : l.length < 5) :
    ∃ i ∈ List.range 5, (!l.any (fun t => t.id == txnCandidate n i)) = true := by
  by_contra hno
  have hsub : (List.range 5).map (txnCandidate n) ⊆ l.map Txn.id := by
    intro k hk
    obtain ⟨i, hi, rfl⟩ := List.mem_map.mp hk
    have hopen : l.any (fun t => t.id == txnCandidate n i) = true := by
      by_contra hf
      exact hno ⟨i, hi, by simpa using hf⟩
    obtain ⟨t, ht, e⟩ := List.any_eq_true.mp hopen
    exact List.mem_map.mpr ⟨t, ht, by simpa using e⟩
  have hle := (List.subperm_of_subset (txnCandidates_nodup n) hsub).length_le
  simp only [List.length_map, List.length_range] at hle
  omega

/-- The number of a new transaction has 16 bits, is not zero, and is not open (R343). -/
theorem freshTxn_spec {l : List Txn} (n : Nat) (hl : l.length < 5) :
    0 < freshTxn l n ∧ freshTxn l n < 65536 ∧ ∀ x ∈ l, x.id ≠ freshTxn l n := by
  obtain ⟨j, hj⟩ := Option.isSome_iff_exists.mp (List.find?_isSome.mpr (exists_txnCandidate_free n hl))
  have he : freshTxn l n = txnCandidate n j := by
    have hfind : freshTxn l n = ((List.range 5).find? (fun i => !l.any (fun t => t.id == txnCandidate n i))).elim 1 (txnCandidate n) := rfl
    rw [hfind, hj]
    rfl
  rw [he]
  refine ⟨Nat.succ_pos _, ?_, ?_⟩
  · simp only [txnCandidate]
    omega
  · simpa using List.find?_some hj

/-- A closed transaction is not open. -/
theorem State.closeTxn_closed (s : State) (id : Nat) : ∀ x ∈ (s.closeTxn id).host.txns, x.id ≠ id := by
  simp [State.closeTxn]

/-- The order in which members commit: those of the first pass, then the others (R345). -/
def inPassOrder (ms : List (Hdr × Nat × List Byte)) : List (Hdr × Nat × List Byte) :=
  ms.filter (fun m => firstPass m.2.1) ++ ms.filter (fun m => !firstPass m.2.1)

/-- What a commit can do once its tests have passed (R345): a member fails in acceptance order or in the order of the passes, and none takes
effect, or every member takes effect in the order of the passes. The transaction closes in each case. -/
def TxnOutcome (id : Nat) (ms : List (Hdr × Nat × List Byte)) (s : State) (k : State × Reply) : Prop :=
  (∃ f, (applyMembers ms s).2 = some f ∧ k = txnFailure id f s) ∨
  (∃ f, (applyMembers ms s).2 = none ∧ (applyMembers (inPassOrder ms) s).2 = some f ∧ k = txnFailure id f s) ∨
  ((applyMembers ms s).2 = none ∧ (applyMembers (inPassOrder ms) s).2 = none ∧ k = okReply ((applyMembers (inPassOrder ms) s).1.closeTxn id))

variable {id : Nat} {ms : List (Hdr × Nat × List Byte)} {k : State × Reply} {f : Nat × Nat}

/-- CELL.TXN_COMMIT is its tests and then one of these outcomes. -/
theorem runCellTxnCommit_eq (h : Hdr) (a : List Byte) (s : State) : ∃ k,
    runCellTxnCommit h a s = tested s (needsCellTxnCommit h a s) k ∧ TxnOutcome (uAt a 0 2) (s.membersOf h.port (uAt a 0 2)) s k := by
  refine ⟨_, rfl, ?_⟩
  split
  next f hf => exact .inl ⟨f, hf, rfl⟩
  next hn =>
    refine .inr ?_
    dsimp only
    split
    next f hf => exact .inl ⟨f, hn, hf, rfl⟩
    next hm => exact .inr ⟨hn, hm, rfl⟩

/-- Every outcome closes the transaction. -/
theorem TxnOutcome.closed (h : TxnOutcome id ms s k) : ∀ x ∈ k.1.host.txns, x.id ≠ id := by
  rcases h with ⟨f, -, rfl⟩ | ⟨f, -, -, rfl⟩ | ⟨-, -, rfl⟩ <;> exact State.closeTxn_closed _ id

/-- A commit that fails does nothing but close its transaction. -/
theorem TxnOutcome.of_failed (h : TxnOutcome id ms s k) (hf : k.2.status = St.txnFailed) : k.1 = s.closeTxn id := by
  rcases h with ⟨f, -, rfl⟩ | ⟨f, -, -, rfl⟩ | ⟨-, -, rfl⟩
  · rfl
  · rfl
  · exact absurd (show (0 : Nat) = St.txnFailed from hf) (by decide)

/-- A member that fails in acceptance order gives the reply its tag and status. -/
theorem TxnOutcome.of_some (h : TxnOutcome id ms s k) (hf : (applyMembers ms s).2 = some f) : k = txnFailure id f s := by
  rcases h with ⟨g, hg, rfl⟩ | ⟨g, hg, -, -⟩ | ⟨hg, -, -⟩ <;> rw [hf] at hg <;> cases hg
  rfl

/-- Members that fail in neither order all take effect. -/
theorem TxnOutcome.of_none (h : TxnOutcome id ms s k) (hn : (applyMembers ms s).2 = none)
    (hm : (applyMembers (inPassOrder ms) s).2 = none) :
    k = okReply ((applyMembers (inPassOrder ms) s).1.closeTxn id) := by
  rcases h with ⟨g, hg, -⟩ | ⟨g, -, hg, -⟩ | ⟨-, -, rfl⟩
  · rw [hn] at hg; cases hg
  · rw [hm] at hg; cases hg
  · rfl

/-- Settles O11: each CELL command is its tests and then the effect its lemma above gives. -/
theorem cellCommandsChangeTickStateAndTransactions : Obligations.CellCommandsChangeTickStateAndTransactions := by
  unfold Obligations.CellCommandsChangeTickStateAndTransactions
  refine ⟨hostRow_of (fun _ _ _ => rfl) fun h a s => ?tick, hostRow_of (fun _ _ _ => rfl) fun h a s => ?state,
    reads_of (fun _ _ _ => rfl) fun _ _ _ => rfl, hostRow_of (fun _ _ _ => rfl) fun h a s => ?begin,
    hostRow_of (fun _ _ _ => rfl) fun h a s => ?commit,
    hostRow_of (fun _ _ _ => rfl) fun h a s => ⟨s.freeCount, _, rfl, fun _ => ⟨rfl, rfl, rfl⟩⟩⟩
  case tick =>
    obtain ⟨n, t, e, hcell⟩ := runCellSetTick_eq h a s
    refine ⟨n, _, e, fun hp => ?_⟩
    have hframe := (runCellSetTick_keeps h a s).touches [.cell, .grid, .fab, .freeCount] (by decide)
    rw [e, tested_pass hp] at hframe
    have hsel : t.cell.tickSel = s.cell.tickSel := by rw [hcell]
    obtain ⟨hms, hlo, hhi⟩ := changeEdge_spec s.cell.edge
    exact ⟨hms, hlo, hhi, rfl, congrArg CellState.change hcell, hsel, hframe, by simp [dataReply, hcell]⟩
  case state =>
    refine ⟨s.freeCount, _, rfl, fun _ => ⟨rfl, ?_, fun he hne => ?_⟩⟩
    · simp only [okReply]
      split
      next hsame =>
        rw [Bool.and_eq_true, beq_iff_eq] at hsame
        exact hsame.1.symm
      next => exact changeCell_state _ _ _ s
    · exact if_pos (by rw [he] at hne; simp [he, hne])
  case begin =>
    refine ⟨s.freeCount, _, rfl, fun hp hport => ?_⟩
    have hroom : s.host.txns.length < 4 := by
      have hfull := hp.of_mem (b := decide (4 ≤ s.host.txns.length)) (c := St.txnFull) (d := 0) (by simp [needsCellTxnBegin])
      simpa using hfull
    obtain ⟨hpos, hlt, hnew⟩ := freshTxn_spec (Config.freeNat s.freeCount % 65535) (Nat.lt_succ_of_lt hroom)
    rw [if_pos hport]
    exact ⟨_, hpos, hlt, hnew, rfl, rfl⟩
  case commit =>
    obtain ⟨k, e, hk⟩ := runCellTxnCommit_eq h a s
    refine ⟨s.freeCount, k, e, fun _ => ⟨fun tag st hf => ?_, fun hn hm => ?_, hk.of_failed, hk.closed⟩⟩
    · rw [hk.of_some hf]
      exact ⟨rfl, rfl⟩
    · rw [hk.of_none hn hm]
      exact ⟨rfl, rfl⟩

end Sys2Proof.Machine
end

section
/-! SUPPORT. What a commit and a record do to the journal, and with it the JRNL and DIAG commands (R43, R130, R156, R351, R591, R600,
R614, R615, R622, R623). -/

namespace Sys2Proof.Machine

variable {s : State}

/-- Outside an inhibit a commit moves the fill of the open page; what the telemetry stream takes does not touch the journal (R591, R615). -/
theorem State.commitJournal_jrnl (h : s.power.inhibit = false) : s.commitJournal.jrnl = s.jrnl.commit := by
  simp only [State.commitJournal, h, Bool.false_eq_true, if_false]
  exact Keeps.foldl (fun t _ => State.stream_keeps t _ _ _ _) (Keeps.refl _ _) .jrnl rfl

/-- The record that this device makes of what a local source gives (R613). -/
def State.recordOf (s : State) (loc kind : Nat) (bs : List Byte) : JRec :=
  { gtc := s.gtc, source := s.source loc, kind := kind, body := body16 bs }

/-- During an inhibit a record waits in volatile memory (R609). -/
theorem State.record_of_inhibit (loc kind : Nat) (bs : List Byte) (h : s.power.inhibit = true) :
    s.record loc kind bs = { s with jrnl := { s.jrnl with heldBack := s.jrnl.heldBack ++ [s.recordOf loc kind bs] } } := by
  simp [State.record, State.recordOf, h]

/-- A record that does not fill the open page is appended to it (R615). -/
theorem State.record_of_room (loc kind : Nat) (bs : List Byte) (h : s.power.inhibit = false) (hl : s.jrnl.openRecs.length < 127) :
    s.record loc kind bs = { s with jrnl := { s.jrnl with openRecs := s.jrnl.openRecs ++ [s.recordOf loc kind bs] } } := by
  have hroom : ¬ 128 ≤ (s.jrnl.openRecs ++ [s.recordOf loc kind bs]).length := by
    rw [List.length_append, List.length_singleton]
    omega
  simp only [State.record, h, Bool.false_eq_true, if_false]
  exact if_neg hroom

/-- A state that may have taken one free value differs in the count of them alone. -/
theorem State.freed_or_same {c : Prop} [Decidable c] (s : State) :
    ∃ n, (if c then { s with freeCount := s.freeCount + 1 } else s) = { s with freeCount := n } := by
  split
  · exact ⟨s.freeCount + 1, rfl⟩
  · exact ⟨s.freeCount, rfl⟩

/-- Settles O18: each JRNL and DIAG command is its tests and then its effect; the records and the commit go through the journal's lemmas, and
a reply that takes a free value moves only the count of them. -/
theorem journalAndDiagnosisCommandsRecordAndReport : Obligations.JournalAndDiagnosisCommandsRecordAndReport := by
  unfold Obligations.JournalAndDiagnosisCommandsRecordAndReport
  refine ⟨hostRow_of (fun _ _ _ => rfl) fun h a s => ?read, hostRow_of (fun _ _ _ => rfl) fun h a s => ?mark,
    hostRow_of (fun _ _ _ => rfl) fun h a s => ?commit, hostRow_of (fun _ _ _ => rfl) fun h a s => ?status,
    hostRow_of (fun _ _ _ => rfl) fun h a s => ⟨s.freeCount, _, rfl, fun _ => ⟨rfl, rfl, rfl⟩⟩,
    reads_of (fun _ _ _ => rfl) fun _ _ _ => rfl, reads_of (fun _ _ _ => rfl) fun _ _ _ => rfl,
    reads_of (fun _ _ _ => rfl) fun _ _ _ => rfl, reads_of (fun _ _ _ => rfl) fun _ _ _ => rfl,
    hostRow_of (fun _ _ _ => rfl) fun h a s => ?telemetry⟩
  case read =>
    refine ⟨s.freeCount, _, rfl, fun _ => ⟨rfl, rfl, fun hl => if_neg hl, State.freed_or_same s, _, fun p hp => ?_, rfl⟩⟩
    rw [Option.mem_def.mp hp]
    rfl
  case mark => exact ⟨s.freeCount, _, rfl, fun _ => ⟨rfl, State.record_of_inhibit 0 _ a, State.record_of_room 0 _ a⟩⟩
  case commit =>
    refine ⟨s.freeCount, _, rfl, fun hp => ?_⟩
    have hopen : s.power.inhibit = false := hp.of_mem (c := St.badState) (d := 0) (by simp [needsJrnlCommit, badState])
    have hj := State.commitJournal_jrnl hopen
    exact ⟨rfl, hj, (congrArg Journal.openRecs hj :)⟩
  case status =>
    refine ⟨s.freeCount, _, rfl, fun _ => ⟨State.freed_or_same s, rfl, _, rfl, _, fun p hp => ?_, rfl⟩⟩
    rw [Option.mem_def.mp hp]
    rfl
  case telemetry => exact ⟨s.freeCount, _, rfl, fun _ => ⟨rfl, rfl, fun hz => if_pos hz, fun hz => if_neg hz⟩⟩

end Sys2Proof.Machine
end

section
/-! SUPPORT. The AXIS configuration commands (R45 to R51, R144 to R150, R162, R174, R179): the placement of due phases moves due phases alone,
and what the shared operations of these commands do to the axes, pins and converters. -/

namespace Sys2Proof.Machine

variable {s t u : State} {α : Type}

/-! ### Due phases (R49, R50) -/

theorem SameButPhases.refl (s : State) : SameButPhases s s := ⟨fun _ => rfl, fun _ => rfl, Touches.refl _ s⟩

theorem SameButPhases.trans (h : SameButPhases s t) (k : SameButPhases t u) : SameButPhases s u := by
  obtain ⟨harm, haxis, hrest⟩ := h
  obtain ⟨karm, kaxis, krest⟩ := k
  exact ⟨fun m => (karm m).trans (harm m), fun b => (kaxis b).trans (haxis b), hrest.trans krest⟩

theorem SameButPhases.foldl {f : State → α → State} (hf : ∀ t i, SameButPhases t (f t i)) (l : List α) (s : State) :
    SameButPhases s (l.foldl f s) := by
  induction l generalizing s with
  | nil => exact .refl s
  | cons i l ih => exact (hf s i).trans (ih _)

theorem State.updAxis_phase_sameButPhases (s : State) (a p : Nat) : SameButPhases s (s.updAxis a (fun x => { x with phase := p })) := by
  refine ⟨fun _ => rfl, fun b => ?_, (State.updAxis_keeps s a _).touches [.motion] (by decide)⟩
  by_cases hb : b = a
  · subst hb
    simp
  · simp [State.axis_setAxis_other _ _ hb]

theorem State.updArm_phase_sameButPhases (s : State) (n p : Nat) : SameButPhases s (s.updArm n (fun r => { r with phase := p })) := by
  refine ⟨fun m => ?_, fun _ => rfl, (State.updArm_keeps s n _).touches [.motion] (by decide)⟩
  by_cases hm : m = n
  · subst hm
    simp
  · simp [State.arm_setArm_other _ _ hm]

theorem State.putPhase_sameButPhases (s : State) (i : PlaceItem) (p : Nat) : SameButPhases s (s.putPhase i p) := by
  have haxes := SameButPhases.foldl (fun t a => State.updAxis_phase_sameButPhases t a p) i.axes s
  unfold State.putPhase
  cases i.arm with
  | none => exact haxes
  | some n =>
    exact (haxes.trans (.foldl (fun t (j : Joint) => State.updAxis_phase_sameButPhases t j.axis p) _ _)).trans
      (State.updArm_phase_sameButPhases _ n p)

theorem State.placeItem_sameButPhases (s : State) (others : List Nat) (i : PlaceItem) : SameButPhases s (s.placeItem others i) := by
  simp only [State.placeItem]
  split
  · exact State.putPhase_sameButPhases s i _
  · exact State.putPhase_sameButPhases s i _

theorem State.placeAxis_sameButPhases (s : State) (a : Nat) : SameButPhases s (s.placeAxis a) := by
  unfold State.placeAxis
  split
  · exact .refl s
  · exact State.placeItem_sameButPhases s _ _

/-- An axis that may have been placed afresh: only due phases have moved. -/
theorem State.placed_sameButPhases {c : Prop} [Decidable c] (s : State) (a : Nat) : SameButPhases s (if c then s.placeAxis a else s) := by
  split
  · exact State.placeAxis_sameButPhases s a
  · exact .refl s

/-! ### Notches (R146, R150) -/

/-- An axis whose FORM 0 notches may have been derived again is as before in everything else (R150). -/
theorem Axis.rederived_eq {c : Prop} [Decidable c] (x : Axis) (ns : Nat) :
    ∃ m n, (if c then x else x.rederive ns) = { x with notch1 := m, notch2 := n } := by
  split
  · exact ⟨x.notch1, x.notch2, rfl⟩
  · exact ⟨_, _, rfl⟩

/-! ### AXIS.SET_LIMITS (R75) -/

/-- An effect with or without a warning is one effect whose status says which. -/
theorem warnReply_or_okReply {c : Prop} [Decidable c] (s : State) (code : Nat) :
    (if c then warnReply s code 0 else okReply s) = (s, { status := if c then code else 0 }) := by
  split <;> rfl

/-! ### AXIS.CONFIG (R48 to R51, R56, R71) -/

/-- An axis with its feedback format, jog fractions, offset, modulus and torque coefficients from the arguments; its reference stands while
the format does (R56). -/
def axisFormatted (a : List Byte) (x : Axis) : Axis :=
  { x with
    refValid := x.refValid && x.fbWidth == uAt a 7 1 && x.fbSigned == (uAt a 8 1 == 1) && x.abs == (uAt a 9 1 == 1) && x.fbOffset == sAt a 16 8
    fbWidth := uAt a 7 1, fbSigned := uAt a 8 1 == 1, abs := uAt a 9 1 == 1, jogFrac := uAt a 10 2, jogFracNoref := uAt a 12 2
    fbOffset := sAt a 16 8, modulo := uAt a 24 8, torquePerAcc := fAt a 32, viscousAux := fAt a 36, coulombAux := fAt a 40 }

theorem axisFormatted_refValid (a : List Byte) (x : Axis) (h : (axisFormatted a x).refValid = true) : x.refValid = true := by
  simp only [axisFormatted, Bool.and_eq_true] at h
  obtain ⟨⟨⟨⟨hvalid, -⟩, -⟩, -⟩, -⟩ := h
  exact hvalid

/-- An axis outside every arm takes its Mandrel and, with a divisor other than 0, its divisor and due phase from the arguments; a joint has
those of its arm (R48, R51). -/
def axisOwned (a : List Byte) (joint : Bool) (y : Axis) : Axis :=
  if joint then y else
    let y := { y with mandrel := if uAt a 6 1 = 0xFF then none else some (uAt a 6 1) }
    if uAt a 4 1 = 0 then y else
      { y with divisor := uAt a 4 1, autoPhase := uAt a 5 1 == 0xFF, phase := if uAt a 5 1 = 0xFF then y.phase else uAt a 5 1 }

/-- An axis as AXIS.CONFIG leaves it before any placement: in its new format, with what its owner leaves to it, and with its FORM 0 notches
derived again when its divisor changes (R48, R150). -/
def axisConfigured (a : List Byte) (joint : Bool) (ns : Nat) (x : Axis) : Axis :=
  let y := axisOwned a joint (axisFormatted a x)
  if (if uAt a 4 1 = 0 then x.divisor else uAt a 4 1) = x.divisor then y else y.rederive ns

/-- AXIS.CONFIG is its tests and then its axis configured, with due phases placed afresh where the rule says so. -/
theorem runAxisConfig_eq (h : Hdr) (a : List Byte) (s : State) : ∃ k,
    runAxisConfig h a s = tested s (needsAxisConfig h a s) k ∧
    SameButPhases (s.setAxis (uAt a 0 2) (axisConfigured a (s.armOf (uAt a 0 2)).isSome s.tickLen (s.axis (uAt a 0 2)))) k.1 ∧ k.2 = {} :=
  ⟨_, rfl, State.placed_sameButPhases _ _, rfl⟩

/-- What AXIS.CONFIG leaves of divisor, due phase and Mandrel: those of the arguments for an axis outside every arm, and for a joint or with
divisor 0 the divisor and phase as they were (R48, R51). -/
theorem axisOwned_eq (a : List Byte) (joint : Bool) (y : Axis) : ∃ md d q p,
    axisOwned a joint y = { y with mandrel := md, divisor := d, autoPhase := q, phase := p } ∧
    (joint = false → md = (if uAt a 6 1 = 0xFF then none else some (uAt a 6 1)) ∧
      (uAt a 4 1 ≠ 0 → d = uAt a 4 1 ∧ q = (uAt a 5 1 == 0xFF))) ∧
    (joint = true ∨ uAt a 4 1 = 0 → d = y.divisor ∧ p = y.phase) := by
  cases joint with
  | true => exact ⟨_, _, _, _, rfl, nofun, fun _ => ⟨rfl, rfl⟩⟩
  | false =>
    by_cases hd : uAt a 4 1 = 0
    · simp only [axisOwned, hd, Bool.false_eq_true, if_false, if_true]
      exact ⟨_, _, _, _, rfl, fun _ => ⟨rfl, fun hne => absurd rfl hne⟩, fun _ => ⟨rfl, rfl⟩⟩
    · simp only [axisOwned, hd, Bool.false_eq_true, if_false]
      exact ⟨_, _, _, _, rfl, fun _ => ⟨rfl, fun _ => ⟨rfl, rfl⟩⟩, fun hno => hno.elim nofun nofun⟩

/-- The axis configured is the axis in its new format but for its notches and what `axisOwned_eq` says. -/
theorem axisConfigured_eq (a : List Byte) (joint : Bool) (ns : Nat) (x : Axis) : ∃ m n md d q p,
    axisConfigured a joint ns x = { axisFormatted a x with
      notch1 := m, notch2 := n, mandrel := md, divisor := d, autoPhase := q, phase := p } ∧
    (joint = false → md = (if uAt a 6 1 = 0xFF then none else some (uAt a 6 1)) ∧
      (uAt a 4 1 ≠ 0 → d = uAt a 4 1 ∧ q = (uAt a 5 1 == 0xFF))) ∧
    (joint = true ∨ uAt a 4 1 = 0 → d = x.divisor ∧ p = x.phase) := by
  obtain ⟨md, d, q, p, hy, hfree, hkept⟩ := axisOwned_eq a joint (axisFormatted a x)
  obtain ⟨m, n, e⟩ : ∃ m n, axisConfigured a joint ns x = { axisOwned a joint (axisFormatted a x) with notch1 := m, notch2 := n } :=
    Axis.rederived_eq _ ns
  exact ⟨m, n, md, d, q, p, by rw [e, hy], hfree, hkept⟩

/-! ### Pins (R179) -/

theorem State.gpio_foldl_updAxis (f : α → Nat) (g : α → Axis → Axis) (l : List α) (s : State) (q : Nat) :
    (l.foldl (fun t i => t.updAxis (f i) (g i)) s).gpio q = s.gpio q := by
  induction l generalizing s with
  | nil => rfl
  | cons i l ih => exact ih _

/-! ### Converter inputs (R167) -/

/-- Setting a bit clears none and leaves that one set. -/
theorem bitAt_setBit_of {n b j : Nat} (h : bitAt n j = true ∨ j = b) : bitAt (setBit n b) j = true := by
  unfold setBit
  split
  next hset => exact h.elim id (fun e => e ▸ hset)
  next hclear =>
    rcases Nat.lt_trichotomy j b with hlt | rfl | hgt
    · rw [bitAt_eq, Nat.add_comm, Nat.testBit_two_pow_add_gt hlt, ← bitAt_eq]
      exact h.resolve_right hlt.ne
    · rw [bitAt_eq] at hclear
      rw [bitAt_eq, Nat.add_comm, Nat.testBit_two_pow_add_eq]
      simpa using hclear
    · obtain ⟨k, rfl⟩ := Nat.exists_eq_add_of_lt hgt
      have hn := h.resolve_right hgt.ne'
      -- The bit below is clear, so adding it carries into no higher bit.
      have hdiv : (n + 2 ^ b) / 2 ^ b = n / 2 ^ b + 1 := Nat.add_div_right n (Nat.two_pow_pos b)
      have heven : n / 2 ^ b % 2 = 0 := by simpa [bitAt] using hclear
      have hhalf : (n / 2 ^ b + 1) / 2 = n / 2 ^ b / 2 := by omega
      simpa only [bitAt, Nat.add_assoc, Nat.add_comm k 1, pow_add, pow_one, ← Nat.div_div_eq_div_mul, hdiv, hhalf] using hn

/-- Converter input `i` is enabled in its sequence. -/
def State.inputOn (s : State) (i : Nat) : Prop := bitAt (s.adc (i / 16)).inputEn (i % 16) = true

/-- Enabling an input disables none, and leaves that one enabled (R167). -/
theorem State.inputOn_enableInput {i j : Nat} (h : s.inputOn j ∨ j = i) (hj : j < 64) : (s.enableInput i).inputOn j := by
  unfold State.enableInput
  split
  next hi => exact h.resolve_right (by omega)
  next =>
    by_cases hc : j / 16 = i / 16
    · simp only [State.inputOn, State.updAdc, hc, State.adc_setAdc]
      refine bitAt_setBit_of ?_
      rcases h with h | rfl
      · exact .inl (hc ▸ h)
      · exact .inr rfl
    · simp only [State.inputOn, State.updAdc, State.adc_setAdc_other _ _ hc]
      exact h.resolve_right (fun e => hc (e ▸ rfl))

theorem State.inputOn_foldl_enableInput {j : Nat} (hj : j < 64) (l : List Nat) (s : State) (h : s.inputOn j ∨ j ∈ l) :
    (l.foldl State.enableInput s).inputOn j := by
  induction l generalizing s with
  | nil => exact h.resolve_right List.not_mem_nil
  | cons i l ih =>
    refine ih _ ?_
    rw [List.mem_cons, ← or_assoc] at h
    exact h.imp_left (fun h => State.inputOn_enableInput h hj)

theorem State.axis_enableInput (s : State) (i b : Nat) : (s.enableInput i).axis b = s.axis b := by
  unfold State.enableInput
  split <;> rfl

theorem State.axis_foldl_enableInput (l : List Nat) (s : State) (b : Nat) : (l.foldl State.enableInput s).axis b = s.axis b := by
  induction l generalizing s with
  | nil => rfl
  | cons i l ih => exact (ih _).trans (State.axis_enableInput s i b)

/-! ### The commands -/

/-- Settles O14: each AXIS configuration command is its tests and then its effect; a placement moves due phases alone, a FORM 0 notch differs
from the arguments in its coefficients alone, and an input once enabled stays so. -/
theorem axisConfigurationCommandsSetTheirAxis : Obligations.AxisConfigurationCommandsSetTheirAxis := by
  unfold Obligations.AxisConfigurationCommandsSetTheirAxis
  refine ⟨hostRow_of (fun _ _ _ => rfl) fun h a s => ?bind, hostRow_of (fun _ _ _ => rfl) fun h a s => ?config,
    hostRow_of (fun _ _ _ => rfl) fun h a s => ?limits,
    hostRow_of (fun _ _ _ => rfl) fun h a s => ⟨s.freeCount, _, rfl, fun _ => ⟨rfl, rfl⟩⟩,
    hostRow_of (fun _ _ _ => rfl) fun h a s => ?notch,
    hostRow_of (fun _ _ _ => rfl) fun h a s => ⟨s.freeCount, _, rfl, fun _ => ⟨rfl, rfl⟩⟩,
    hostRow_of (fun _ _ _ => rfl) fun h a s => ⟨s.freeCount, _, rfl, fun _ => ⟨rfl, rfl⟩⟩,
    hostRow_of (fun _ _ _ => rfl) fun h a s => ?clear, hostRow_of (fun _ _ _ => rfl) fun h a s => ?dd,
    hostRow_of (fun _ _ _ => rfl) fun h a s => ⟨s.freeCount, _, rfl, fun _ => ⟨rfl, rfl⟩⟩,
    reads_of (fun _ _ _ => rfl) fun _ _ _ => rfl⟩
  case bind =>
    refine ⟨s.freeCount, _, rfl, fun _ => ⟨rfl, State.placed_sameButPhases _ _, fun hno => if_neg fun hyes => ?_⟩⟩
    exact hno.elim (fun hb => hb hyes.1) hyes.2
  case config =>
    obtain ⟨k, e, hframe, hok⟩ := runAxisConfig_eq h a s
    obtain ⟨m, n, md, d, q, p, hy, hfree, hkept⟩ :=
      axisConfigured_eq a (s.armOf (uAt a 0 2)).isSome s.tickLen (s.axis (uAt a 0 2))
    refine ⟨s.freeCount, k, e, fun _ => ⟨hok, _, hframe, ?_⟩⟩
    rw [hy]
    exact ⟨rfl, rfl, rfl, rfl, rfl, rfl, rfl, rfl, rfl, rfl, rfl, axisFormatted_refValid a _, fun hnone => hfree (by rw [hnone]; rfl), hkept⟩
  case limits =>
    refine ⟨s.freeCount, _, congrArg (tested s (needsAxisSetLimits h a s)) (warnReply_or_okReply _ _), fun _ => ?_⟩
    dsimp only
    exact ⟨rfl, rfl⟩
  case notch =>
    refine ⟨s.freeCount, _, rfl, fun _ => ⟨_, ?en, ?form, ?f0, ?bw, ?depth, fun hne => ?raw, rfl, rfl⟩⟩
    case en | form | f0 | bw | depth => split <;> rfl
    case raw =>
      rw [if_neg hne]
      exact ⟨rfl, rfl, rfl, rfl, rfl⟩
  case clear =>
    refine ⟨s.freeCount, _, rfl, fun _ => ⟨rfl, ?_⟩⟩
    simp only [okReply]
    split
    next hf =>
      refine ⟨?_, fun q hq => ?_, fun hn => ?_⟩
      · rw [State.gpio_foldl_updAxis, State.gpio_setGpio]
      · rw [State.gpio_foldl_updAxis, State.gpio_setGpio_other _ _ hq]
      · rw [hf] at hn
        cases hn
    next hf => exact ⟨eq_false_of_ne_true hf, fun _ _ => rfl, fun _ => rfl⟩
  case dd =>
    refine ⟨s.freeCount, _, rfl, fun hp => ⟨rfl, ?_, fun b hb => ?_, fun i hi hlt => ?_, ?_⟩⟩
    · exact (State.axis_foldl_enableInput _ _ _).trans (State.axis_setAxis s _ _)
    · exact (State.axis_foldl_enableInput _ _ b).trans (State.axis_setAxis_other s _ hb)
    · exact State.inputOn_foldl_enableInput hlt _ _ (.inr hi)
    · have hframe := (runAxisDdConfig_keeps h a s).touches [.motion] (by decide)
      rwa [show runAxisDdConfig h a s = tested s (needsAxisDdConfig h a s) _ from rfl, tested_pass hp] at hframe

end Sys2Proof.Machine
end

section
/-! SUPPORT. The ARM motion commands (R91, R95, R98 to R101, R107, R108, R195, R350): what a hold answers, and the state that
reports of clipped targets leave. -/

namespace Sys2Proof.Machine

variable {s : State} {o : Nat}

/-! ### Holds (R98, R99) -/

/-- A hold of an owner that neither holds nor moves is kept without an effect. -/
theorem holdOwner_of_still (us : Nat) (hh : (s.genAt o (s.sealedCount o)).held = false)
    (hm : (s.genAt o (s.sealedCount o)).moving = false) : holdOwner o us s = (s, true) := by
  simp [holdOwner, hh, hm]

/-- A hold of an owner that moves and is not held is a new hold. -/
theorem holdOwner_of_moving (us : Nat) (hh : (s.genAt o (s.sealedCount o)).held = false)
    (hm : (s.genAt o (s.sealedCount o)).moving = true) : (holdOwner o us s).2 = false := by
  simp [holdOwner, hh, hm]

/-- What ARM.HOLD and AXIS.HOLD leave and answer once their tests have passed. -/
def holdReply (o us : Nat) (s : State) : State × Reply :=
  if (holdOwner o us s).2 then warnReply (holdOwner o us s).1 St.holdKept 0 else okReply (holdOwner o us s).1

/-- A hold leaves what `holdOwner` gives and warns at most of a hold kept; whether it warns is settled for an owner not held. -/
theorem holdReply_spec (o us : Nat) (s : State) :
    (holdReply o us s).1 = (holdOwner o us s).1 ∧
    ((holdReply o us s).2 = {} ∨ (holdReply o us s).2 = { status := St.holdKept }) ∧
    ((s.genAt o (s.sealedCount o)).held = false → (s.genAt o (s.sealedCount o)).moving = false →
      (holdReply o us s).1 = s ∧ (holdReply o us s).2 = { status := St.holdKept }) ∧
    ((s.genAt o (s.sealedCount o)).held = false → (s.genAt o (s.sealedCount o)).moving = true → (holdReply o us s).2 = {}) := by
  have e : holdReply o us s = ((holdOwner o us s).1, { status := if (holdOwner o us s).2 then St.holdKept else 0 }) :=
    warnReply_or_okReply _ _
  rw [e]
  refine ⟨rfl, ?_, fun hh hm => ?_, fun hh hm => ?_⟩
  · cases (holdOwner o us s).2
    · exact .inl rfl
    · exact .inr rfl
  · rw [holdOwner_of_still us hh hm]
    exact ⟨rfl, rfl⟩
  · rw [holdOwner_of_moving us hh hm]
    rfl

/-! ### Reports of clipped targets (R96) -/

/-- A report made where a condition holds reaches the journal, the hosts and the telemetry stream alone. -/
theorem State.eventUnless_keeps {c : Prop} [Decidable c] (s : State) (loc code subject : Nat) (data : List Byte) :
    Keeps 524480 s (if c then s else s.event loc code subject data) :=
  Keeps.ite (Keeps.refl _ s) (State.event_keeps s _ _ _ _)

/-! ### The commands -/

/-- ARM.MOVE_JOINT is its tests and then its segment commanded, in a state that differs by the reports of clipped targets. -/
theorem runArmMoveJoint_eq (h : Hdr) (a : List Byte) (s : State) : ∃ u, Touches [.jrnl, .host, .wnw] s u ∧
    runArmMoveJoint h a s = tested s (needsArmMoveJoint h a s)
      (okReply ((commandArm (uAt a 0 2) (uAt a 4 1 == 1)
        { targets := (List.range (s.arm (uAt a 0 2)).joints.length).map (fun j => sAt a (8 + 8 * j) 8), modDir := uAt a 5 1, speed := speedAt a 6 } u).updArm
          (uAt a 0 2) (fun r => { r with
            singular := false, status := if r.status = St.singularityStop ∨ r.status = St.jointLimitStop then 0 else r.status }))) :=
  ⟨_, (Keeps.foldl (fun t _ => State.eventUnless_keeps t _ _ _ _) (Keeps.refl 524480 s)).touches [.jrnl, .host, .wnw] (by decide), rfl⟩

/-- Settles O13: each ARM motion command is its tests and then its effect; a hold goes through `holdReply_spec`, and a jog in JOINT mode
leaves all but the keepalive. -/
theorem armMotionCommandsPlanHoldAndStop : Obligations.ArmMotionCommandsPlanHoldAndStop := by
  unfold Obligations.ArmMotionCommandsPlanHoldAndStop
  refine ⟨hostRow_of (fun _ _ _ => rfl) fun h a s => ?joint,
    hostRow_of (fun _ _ _ => rfl) fun h a s => ⟨s.freeCount + 1, _, rfl, fun _ => ⟨rfl, rfl⟩⟩,
    hostRow_of (fun _ _ _ => rfl) fun h a s => ⟨s.freeCount + 2, _, rfl, fun _ => ⟨rfl, rfl⟩⟩,
    hostRow_of (fun _ _ _ => rfl) fun h a s =>
      ⟨s.freeCount, holdReply (1000 + uAt a 0 2) (uAt a 4 4) s, rfl, fun _ => holdReply_spec _ _ s⟩,
    hostRow_of (fun _ _ _ => rfl) fun h a s => ⟨s.freeCount, _, rfl, fun _ => ⟨rfl, rfl⟩⟩,
    hostRow_of (fun _ _ _ => rfl) fun h a s => ⟨s.freeCount, _, rfl, fun _ => ⟨rfl, ?stop, rfl⟩⟩,
    hostRow_of (fun _ _ _ => rfl) fun h a s => ⟨s.freeCount, _, rfl, fun _ => ⟨rfl, ?jog⟩⟩,
    hostRow_of (fun _ _ _ => rfl) fun h a s => ⟨s.freeCount, _, rfl, fun _ => ⟨rfl, _, length_toLE 28 _, rfl⟩⟩⟩
  case joint =>
    obtain ⟨u, hu, e⟩ := runArmMoveJoint_eq h a s
    exact ⟨s.freeCount, _, e, fun _ => ⟨rfl, by simp [okReply], u, hu, rfl⟩⟩
  case stop => simp [okReply]
  case jog =>
    simp only [okReply, State.updArm_eq, State.arm_setArm]
    refine ⟨fun hs hf => ?_, fun hsf => ?_, fun hmode => ?_⟩
    · simp [hs, hf, runArmJog.keepalive']
    · rcases hsf with hs | hf
      · simp [hs]
      · simp [hf]
    · rw [if_pos hmode]
      exact ⟨_, rfl⟩

end Sys2Proof.Machine
end

section
/-! SUPPORT. The AXIS motion commands (R88 to R102, R121 to R123, R151, R166, R185 to R195): the mode, keepalive and homing state in which
each leaves its axis. -/

namespace Sys2Proof.Machine

variable {s : State} {ax : Nat}

/-! ### Modes (R151, R172) -/

/-- An axis entering a mode is in it, from DISABLED or from another. -/
theorem enterMode_mode (ax m : Nat) (s : State) : ((enterMode ax m s).axis ax).mode = m := by
  simp only [enterMode]
  split
  · -- Whether a brake is asked for or not, the axis is written once.
    split <;> exact congrArg Axis.mode (State.axis_setAxis s ax _)
  · exact congrArg Axis.mode (State.axis_setAxis s ax _)

/-- An axis that leaves is DISABLED and asks for no open brake. -/
theorem leaveToDisabled_axis (ax : Nat) (s : State) : ∃ x : Axis, (leaveToDisabled ax s).axis ax = { x.disabled with brakeReq := false } :=
  ⟨_, State.axis_setAxis _ ax _⟩

/-- The state an AXIS.SET_MODE leaves once its tests have passed. -/
def modeSet (ax m : Nat) (s : State) : State :=
  if m = (s.axis ax).mode then s
  else if m = 0 then
    if (s.axis ax).binding.isDd && (s.axis ax).dd.brakePair != 0xFF then
      let s := s.updAxis ax (fun x => { x with disableAt := some (s.cell.tick + x.dd.brkClose), brakeReq := false })
      { s with glume := { s.glume with release := s.glume.release.filter (· != ax) } }
    else leaveToDisabled ax s
  else enterMode ax m s

/-- The mode commanded is in force at once, except that an axis with a brake waits for it before it is DISABLED (R172). -/
theorem modeSet_spec (ax m : Nat) (s : State) :
    (m = (s.axis ax).mode → modeSet ax m s = s) ∧
    (m ≠ 0 → ((modeSet ax m s).axis ax).mode = m) ∧
    (m = 0 → m ≠ (s.axis ax).mode → ¬ ((s.axis ax).binding.isDd = true ∧ (s.axis ax).dd.brakePair ≠ 0xFF) →
      ((modeSet ax m s).axis ax).mode = 0 ∧ ((modeSet ax m s).axis ax).brakeReq = false) ∧
    (m = 0 → m ≠ (s.axis ax).mode → ((s.axis ax).binding.isDd = true ∧ (s.axis ax).dd.brakePair ≠ 0xFF) →
      (modeSet ax m s).axis ax =
        { s.axis ax with disableAt := some (s.cell.tick + (s.axis ax).dd.brkClose), brakeReq := false }) := by
  have hbrake : ((s.axis ax).binding.isDd && (s.axis ax).dd.brakePair != 0xFF) = true ↔
      (s.axis ax).binding.isDd = true ∧ (s.axis ax).dd.brakePair ≠ 0xFF := by simp
  refine ⟨fun he => if_pos he, fun h0 => ?enter, fun h0 hne hb => ?leave, fun h0 hne hb => ?wait⟩
  case enter =>
    by_cases he : m = (s.axis ax).mode
    · rw [modeSet, if_pos he, he]
    · rw [modeSet, if_neg he, if_neg h0, enterMode_mode]
  case leave =>
    rw [modeSet, if_neg hne, if_pos h0, if_neg (mt hbrake.mp hb)]
    obtain ⟨x, hx⟩ := leaveToDisabled_axis ax s
    rw [hx]
    exact ⟨rfl, rfl⟩
  case wait =>
    rw [modeSet, if_neg hne, if_pos h0, if_pos (hbrake.mpr hb)]
    exact State.axis_setAxis s ax _

/-! ### Couplings (R121 to R123) -/

/-- A follower engaged is in FOLLOW mode. -/
theorem engage_mode (ax : Nat) (f : Follow) (s : State) : ((engage ax f s).axis ax).mode = 3 :=
  congrArg Axis.mode (State.axis_setAxis _ ax _)

/-! ### Homing (R186) -/

/-- Homing without motion (methods 6 and 7) has its home point at once and waits for the shift; it changes its axis alone. -/
theorem beginHoming_of_motionless {h : Homing} (hm : 5 < h.method) : ∃ y x : Axis,
    beginHoming ax h s = (s.setAxis ax y).setAxis ax x ∧ x.mode = 5 ∧ x.refValid = false ∧ x.homeState = 6 := by
  have hcap : ¬ (h.method = 1 ∨ h.method = 3 ∨ h.method = 4) := by omega
  simp only [beginHoming, hcap, if_false]
  split
  -- Every other arm is a method that moves.
  any_goals omega
  exact ⟨_, _, rfl, by rw [State.axis_setAxis], by rw [State.axis_setAxis], rfl⟩

/-- Two writes of one axis leave the others, and all but the motion data, as they were. -/
theorem State.setAxis_setAxis_frame (s : State) (ax : Nat) (y x : Axis) :
    (∀ b, b ≠ ax → ((s.setAxis ax y).setAxis ax x).axis b = s.axis b) ∧ Touches [.motion] s ((s.setAxis ax y).setAxis ax x) :=
  ⟨fun b hb => by rw [State.axis_setAxis_other _ _ hb, State.axis_setAxis_other _ _ hb],
    ((State.setAxis_keeps s ax y).trans (State.setAxis_keeps _ ax x)).touches [.motion] (by decide)⟩

/-! ### Jogs (R193, R194) -/

/-- A jog by a step ends at its goal and needs no keepalive. -/
theorem jogAxis_jogUntil_of_step {step : Int} (v : Int) (keep : Nat) (s : State) (hs : step ≠ 0) :
    ((jogAxis ax v step keep s).axis ax).jogUntil = none := by
  simp [jogAxis, hs]

/-- The speed a jog runs at: the one commanded, held to its limit. -/
def jogSpeedHeld (lim : Nat) (v : Int) : Int := if lim < v.natAbs then v.sign * lim else v

/-- AXIS.JOG is its tests and then the jog at the speed held to its limit, with a warning where that is not the speed commanded. -/
theorem runAxisJog_eq (h : Hdr) (a : List Byte) (s : State) :
    runAxisJog h a s = tested s (needsAxisJog h a s)
      (jogAxis (uAt a 0 2) (jogSpeedHeld (s.axis (uAt a 0 2)).jogLimit (sAt a 4 8)) (sAt a 12 8) (keepalive (uAt a 20 2)) s,
        { status := if (s.axis (uAt a 0 2)).jogLimit < (sAt a 4 8).natAbs then St.jogClamped else 0 }) := by
  unfold runAxisJog
  simp only [warnReply_or_okReply, decide_eq_true_eq]
  rfl

/-! ### Alignment (R166) -/

/-- What an alignment asks of the safety outputs changes no axis. -/
theorem State.axis_ite_glume {c : Prop} [Decidable c] (s : State) (g : GlumeState) (b : Nat) :
    (if c then { s with glume := g } else s).axis b = s.axis b := by
  split <;> rfl

/-! ### The commands -/

/-- Settles O15: each AXIS motion command is its tests and then its effect; the mode comes from `modeSet_spec`, a hold goes through
`holdReply_spec`, and homing without motion and an alignment change their axis alone. -/
theorem axisMotionCommandsPlanHoldAndCouple : Obligations.AxisMotionCommandsPlanHoldAndCouple := by
  unfold Obligations.AxisMotionCommandsPlanHoldAndCouple
  refine ⟨hostRow_of (fun _ _ _ => rfl) fun h a s =>
      ⟨s.freeCount, okReply (modeSet (uAt a 0 2) (uAt a 4 1) s), rfl, fun _ => ⟨rfl, modeSet_spec _ _ s⟩⟩,
    hostRow_of (fun _ _ _ => rfl) fun h a s => ⟨s.freeCount, _, rfl, fun _ => ⟨rfl, ?move⟩⟩,
    hostRow_of (fun _ _ _ => rfl) fun h a s => ⟨s.freeCount, _, rfl, fun _ => ⟨rfl, rfl⟩⟩,
    hostRow_of (fun _ _ _ => rfl) fun h a s =>
      ⟨s.freeCount, holdReply (s.ownerOf (uAt a 0 2)) (uAt a 4 4) s, rfl, fun _ => holdReply_spec _ _ s⟩,
    hostRow_of (fun _ _ _ => rfl) fun h a s => ⟨s.freeCount, _, rfl, fun _ => ⟨rfl, rfl⟩⟩,
    hostRow_of (fun _ _ _ => rfl) fun h a s => ⟨s.freeCount, _, rfl, fun _ => ⟨rfl, ?stop, rfl⟩⟩,
    hostRow_of (fun _ _ _ => rfl) fun h a s => ⟨s.freeCount, _, rfl, fun _ => ⟨rfl, engage_mode _ _ s, rfl⟩⟩,
    hostRow_of (fun _ _ _ => rfl) fun h a s => ⟨s.freeCount, _, rfl, fun _ => ⟨rfl, engage_mode _ _ s, rfl⟩⟩,
    hostRow_of (fun _ _ _ => rfl) fun h a s => ⟨s.freeCount, _, rfl, fun _ => ⟨rfl, rfl, fun hm => ?home⟩⟩,
    hostRow_of (fun _ _ _ => rfl) fun h a s => ⟨s.freeCount, _, runAxisJog_eq h a s, fun _ => ?jog⟩,
    hostRow_of (fun _ _ _ => rfl) fun h a s => ⟨s.freeCount, _, rfl, fun hp => ⟨rfl, ?align⟩⟩⟩
  case move =>
    refine ⟨fun happ => ?_, fun happ hw => ?_, fun happ hw hc => ?_, fun happ hw hc => ?_⟩
    · simp only [okReply, happ, beq_self_eq_true, true_or, if_true]
    · simp [okReply, happ, hw]
    · simp [okReply, happ, hw, hc]
    · simp only [okReply, bne_iff_ne.mpr hc, if_true]
      exact if_neg (by simp [happ, hw])
  case stop => exact congrArg Axis.jogUntil (State.axis_setAxis _ _ _)
  case home =>
    obtain ⟨y, x, e, hmode, href, hstate⟩ := beginHoming_of_motionless (ax := uAt a 0 2) (s := s) hm
    simp only [okReply]
    rw [e, State.axis_setAxis]
    exact ⟨hmode, href, hstate, State.setAxis_setAxis_frame s _ y x⟩
  case jog =>
    refine ⟨fun hle => ?_, fun hlt => ?_, jogAxis_jogUntil_of_step _ _ s⟩
    · rw [jogSpeedHeld, if_neg hle.not_gt, if_neg hle.not_gt]
      exact ⟨rfl, rfl⟩
    · rw [jogSpeedHeld, if_pos hlt, if_pos hlt]
      exact ⟨rfl, rfl⟩
  case align =>
    have hframe := (runAxisDdAlign_keeps h a s).touches [.motion, .glume] (by decide)
    rw [show runAxisDdAlign h a s = tested s (needsAxisDdAlign h a s) _ from rfl, tested_pass hp] at hframe
    simp only [State.axis_ite_glume, State.axis_setAxis, true_and]
    exact ⟨fun b hb => State.axis_setAxis_other s _ hb, hframe⟩

end Sys2Proof.Machine
end

section
/-! SUPPORT. Tiller updates and watchdogs (R127, R137, R152): what an update that ends in time leaves at its engine and its axis. -/

namespace Sys2Proof.Machine

variable {s t u : State} {a e ecc place stall : Nat}

/-! ### Faults at the end of an update (R39) -/

/-- No engine's record and no axis's due mark differ between two states (R52, R152). -/
structure SameService (s t : State) : Prop where
  tiller : ∀ e, t.tiller e = s.tiller e
  due : ∀ a, (t.axis a).due = (s.axis a).due

theorem SameService.refl (s : State) : SameService s s := ⟨fun _ => rfl, fun _ => rfl⟩

theorem SameService.trans (h : SameService s t) (k : SameService t u) : SameService s u :=
  ⟨fun e => (k.tiller e).trans (h.tiller e), fun a => (k.due a).trans (h.due a)⟩

/-- Engines and axes are read from the motion data alone. -/
theorem SameService.of_motion (h : t.motion = s.motion) : SameService s t :=
  ⟨fun e => by simp only [State.tiller, h], fun a => by simp only [State.axis, h]⟩

theorem SameService.setAxis {x : Axis} (h : x.due = (s.axis a).due) : SameService s (s.setAxis a x) := by
  refine ⟨fun _ => rfl, fun b => ?_⟩
  by_cases hb : b = a
  · rw [hb, State.axis_setAxis, h]
  · rw [State.axis_setAxis_other _ _ hb]

theorem State.event_sameService (s : State) (loc code subject : Nat) (data : List Byte) : SameService s (s.event loc code subject data) :=
  .of_motion (State.event_keeps s loc code subject data .motion rfl)

/-- An end of homing writes its axis, a capture pin and an event. -/
theorem State.endHoming_sameService (s : State) (a code : Nat) : SameService s (s.endHoming a code) := by
  unfold State.endHoming
  extract_lets x _
  split
  · exact .refl s
  next =>
    extract_lets lim t u
    have ht : SameService s t := .setAxis rfl
    have hu : SameService t u := .of_motion (State.updCap_keeps t _ _ .motion rfl)
    exact (ht.trans hu).trans (State.event_sameService u _ _ _ _)

/-- A fault ends motion, and neither serves an axis nor counts at an engine. -/
theorem State.axisFault_sameService (s : State) (a code : Nat) : SameService s (s.axisFault a code) := by
  unfold State.axisFault
  extract_lets x lost t u v
  have ht : SameService s t := .setAxis rfl
  have hv : SameService s v := (ht.trans (State.endHoming_sameService t a _)).trans (State.event_sameService u _ _ _ _)
  split
  · exact .refl s
  · split
    · exact hv.trans (.of_motion (State.raiseCause_keeps v _ _ _ .motion rfl))
    · exact hv.trans (.setAxis rfl)

/-! ### The time of an update (R127, R487) -/

/-- The GTC is read from the time bases alone. -/
theorem State.gtc_of_time (h : t.time = s.time) : t.gtc = s.gtc := by
  simp only [State.gtc, State.base, h]

/-- The state an update has reached when its time has passed and nothing of its result stands: the corrected errors are counted, and so is
a forwarded input that has not come (R152, R277). -/
def updateReached (a e place ecc : Nat) (s : State) : State :=
  let u := s.updTiller e (fun t => { t with ecc := wrap 32 (t.ecc + ecc) })
  countFwdLate a (s.axis a) (u.advanceTo (u.updateStart place (u.tiller e).late + (875 + 5 * (6 * ecc)) / 2))

theorem updateReached_tiller (a e place ecc : Nat) (s : State) :
    (updateReached a e place ecc s).tiller e = { s.tiller e with ecc := wrap 32 ((s.tiller e).ecc + ecc) } := by
  have hmotion : (updateReached a e place ecc s).motion = (s.updTiller e (fun t => { t with ecc := wrap 32 (t.ecc + ecc) })).motion :=
    countFwdLate_keeps _ _ _ .motion rfl
  rw [(SameService.of_motion hmotion).tiller e]
  exact State.tiller_setTiller s e _

theorem updateReached_cell (a e place ecc : Nat) (s : State) : (updateReached a e place ecc s).cell = s.cell :=
  countFwdLate_keeps _ _ _ .cell rfl

theorem updateReached_gtc (a e place ecc : Nat) (s : State) : (updateReached a e place ecc s).gtc =
    (s.advanceTo (s.updateStart place (s.tiller e).late + (875 + 5 * (6 * ecc)) / 2)).gtc := by
  simp only [updateReached, State.updTiller_eq, State.tiller_setTiller]
  exact State.gtc_of_time (countFwdLate_keeps _ _ _ .time rfl)

/-! ### The end of an update (R137, R152) -/

/-- An update of axis `a` by engine `e` that took `stall` stall cycles has ended. -/
structure UpdateEnded (a e stall : Nat) (s t : State) : Prop where
  updates : (t.tiller e).updates = wrap 32 ((s.tiller e).updates + 1)
  late : (t.tiller e).late = (s.tiller e).late + stall
  due : (t.axis a).due = false

theorem UpdateEnded.of_sameService (h : UpdateEnded a e stall s t) (k : SameService t u) : UpdateEnded a e stall s u :=
  ⟨by rw [k.tiller, h.updates], by rw [k.tiller, h.late], by rw [k.due, h.due]⟩

theorem finish_ended (s : State) (a e : Nat) (x : Axis) (place stall : Nat) : UpdateEnded a e stall s (finish s a e x place stall) := by
  have htiller : (finish s a e x place stall).tiller e =
      { s.tiller e with
        updates := wrap 32 ((s.tiller e).updates + 1), stalls := wrap 32 ((s.tiller e).stalls + stall), late := (s.tiller e).late + stall } :=
    State.tiller_setTiller _ e _
  have haxis : (finish s a e x place stall).axis a = { x with due := false } := State.axis_setAxis s a _
  exact ⟨by rw [htiller], by rw [htiller], by rw [haxis]⟩

/-- An update that has reached its end serves its axis, with whatever new record. -/
theorem finish_updateReached_ended (x : Axis) : UpdateEnded a e stall s (finish (updateReached a e place ecc s) a e x place stall) := by
  obtain ⟨hcount, hlate, hdue⟩ := finish_ended (updateReached a e place ecc s) a e x place stall
  rw [updateReached_tiller] at hcount hlate
  exact ⟨hcount, hlate, hdue⟩

/-- An update of an axis that is not due, or by an engine that has tripped, does nothing. -/
theorem tillerUpdate_of_idle (eb rb : Bool)
    (h : ∀ e place, s.servedBy a = some (e, place) → (s.axis a).due = false ∨ (s.tiller e).tripped = true) :
    tillerUpdate a eb rb ecc s = s := by
  unfold tillerUpdate
  cases hserved : s.servedBy a with
  | none => rfl
  | some p => exact if_pos ((h p.1 p.2 hserved).imp_left fun hdue => by rw [hdue]; rfl)

/-! ### The outcomes of an update

Each part of `tillerUpdate` has a name here, and `tillerUpdate_eq` ties them to it: the update writes its axis with `finish`, whatever the
new record is, and what follows that keeps the service. -/

/-- An update that ends in a fault of its axis. -/
def faultedUpdate (a e place stall code : Nat) (x : Axis) (s : State) : State :=
  (finish s a e { x with faulted := true } place stall).axisFault a code

/-- An update whose stages gave `o`, and the fault that its entry or its following error raises (R40, R139). -/
def recordedUpdate (a e place stall : Nat) (tk : Taken) (stale : Bool) (d : Drive) (o : UpdateOut) (x : Axis) (s : State) : State :=
  let s := finish s a e { x with
    loop := { o.loop with outFlags := outFlags x tk.underrun stale o.loop.sat tk.flags }
    staleCount := if stale then wrap 32 (x.staleCount + 1) else x.staleCount
    awHolds := wrap 32 (x.awHolds + o.holds), outSat := if o.clamped then wrap 32 (x.outSat + 1) else x.outSat
    homing := x.homing.map (fun h => { h.atStop o.loop (d.pos - o.loop.fbPos) with
      hist := ((s.cell.tick, o.loop.fbPos) :: h.hist).take 512 }) } place stall
  let s := if tk.fault then s.axisFault a St.underrunFault else if o.follow then s.axisFault a St.followError else s
  s.updAxis a (fun x => if x.fault.isSome then { x with loop := { x.loop with outFlags := outFlags x tk.underrun stale o.loop.sat tk.flags } } else x)

/-- The axis before its first entry holds the position of its first feedback (R673). -/
def heldAxis (r : LoopRec) (x : Axis) : Axis :=
  if x.queue.last.isNone ∧ x.queue.heldPos.isNone then { x with queue := { x.queue with heldPos := some r.fbPos } } else x

/-- The drive of an update: that of its entry, at the position held before the first entry (R673). -/
def heldDrive (r : LoopRec) (x : Axis) (d : Drive) : Drive :=
  if x.queue.last.isNone then { d with pos := (heldAxis r x).queue.heldPos.getD r.fbPos } else d

/-- The feedback shifted when the entry carries a rebase (R58, R138). -/
def rebasedLoop (flags : Nat) (x : Axis) (r : LoopRec) : LoopRec :=
  if bitAt flags 11 then r.shift (-x.rebaseQ) else if bitAt flags 12 then r.shift x.rebaseQ else r

/-- An update with feedback `r`: its stages run, and their result stands unless a stage is out of range (R134). -/
def stagedUpdate (a e place stall : Nat) (tk : Taken) (stale : Bool) (r : LoopRec) (x : Axis) (s : State) : State :=
  match axisUpdate (heldAxis r x) r (heldDrive r x tk.drive) stale with
  | none => faultedUpdate a e place stall St.numericFault (heldAxis r x) s
  | some o => recordedUpdate a e place stall tk stale (heldDrive r x tk.drive) o (heldAxis r x) s

/-- An update that has taken its entry `tk` before the output seal: its record has lost its check, or it takes its feedback. -/
def servedUpdate (a e place stall : Nat) (rb : Bool) (tk : Taken) (s : State) : State :=
  let x := { tk.axis with taken := true }
  if rb then faultedUpdate a e place stall St.stateCheck x s
  else
    match takeFeedback s a x (x.loop.initVi && x.queue.last.isNone && x.queue.heldPos.isNone) tk.drive.pos with
    | .error c => faultedUpdate a e place stall c x s
    | .ok (r, stale) => stagedUpdate a e place stall tk stale (rebasedLoop tk.flags x r) x s

/-- An update of a due axis by an engine that has not tripped is served unless the output seal comes first. -/
theorem tillerUpdate_eq (eb rb : Bool) (hserved : s.servedBy a = some (e, place)) (hdue : (s.axis a).due = true)
    (htrip : (s.tiller e).tripped = false) : ∃ tk, tillerUpdate a eb rb ecc s =
      let u := updateReached a e place ecc s
      if u.cell.edge + sealOfs u.cell.tickSel < u.gtc then u else servedUpdate a e place (6 * ecc) rb tk u := by
  have hrun : ¬ ((!(s.axis a).due) = true ∨ (s.tiller e).tripped = true) := by simp [hdue, htrip]
  unfold tillerUpdate
  rw [hserved]
  exact ⟨_, (if_neg hrun).trans rfl⟩

theorem faultedUpdate_sameService (code : Nat) (x : Axis) :
    ∃ y, SameService (finish s a e y place stall) (faultedUpdate a e place stall code x s) :=
  ⟨_, State.axisFault_sameService _ a code⟩

theorem recordedUpdate_sameService (tk : Taken) (stale : Bool) (d : Drive) (o : UpdateOut) (x : Axis) :
    ∃ y, SameService (finish s a e y place stall) (recordedUpdate a e place stall tk stale d o x s) := by
  unfold recordedUpdate
  extract_lets _ t u
  have hfault : SameService t u := by
    unfold u
    split
    · exact State.axisFault_sameService t _ _
    · split
      · exact State.axisFault_sameService t _ _
      · exact .refl t
  refine ⟨_, hfault.trans (.setAxis ?_)⟩
  beta_reduce
  split <;> rfl

theorem stagedUpdate_sameService (tk : Taken) (stale : Bool) (r : LoopRec) (x : Axis) :
    ∃ y, SameService (finish s a e y place stall) (stagedUpdate a e place stall tk stale r x s) := by
  unfold stagedUpdate
  split
  · exact faultedUpdate_sameService _ _
  · exact recordedUpdate_sameService _ _ _ _ _

/-- Whatever its record, its entry, its feedback and its stages give, an update served has written its axis and counted at its engine. -/
theorem servedUpdate_sameService (rb : Bool) (tk : Taken) :
    ∃ y, SameService (finish s a e y place stall) (servedUpdate a e place stall rb tk s) := by
  unfold servedUpdate
  extract_lets x
  split
  · exact faultedUpdate_sameService _ _
  · split
    · exact faultedUpdate_sameService _ _
    · exact stagedUpdate_sameService _ _ _ _

/-- An update ended by the output seal serves its axis. -/
theorem tillerUpdate_ended (eb rb : Bool) (hserved : s.servedBy a = some (e, place)) (hdue : (s.axis a).due = true)
    (htrip : (s.tiller e).tripped = false)
    (hseal : (s.advanceTo (s.updateStart place (s.tiller e).late + (875 + 5 * (6 * ecc)) / 2)).gtc ≤ s.cell.edge + sealOfs s.cell.tickSel) :
    UpdateEnded a e (6 * ecc) s (tillerUpdate a eb rb ecc s) := by
  obtain ⟨tk, h⟩ := tillerUpdate_eq (ecc := ecc) eb rb hserved hdue htrip
  rw [h]
  dsimp only
  rw [updateReached_cell, updateReached_gtc, if_neg hseal.not_gt]
  obtain ⟨y, hy⟩ := servedUpdate_sameService rb tk
  exact (finish_updateReached_ended y).of_sameService hy

end Sys2Proof.Machine
end

section
/-! SUPPORT. Claims whose window ends and claims of a device that has departed (R263, R267, R269, R270). -/

namespace Sys2Proof.Machine

variable {s t u : State} {n d z : Nat} {c : Claim}

/-- What one element of a fold brings about, and every element keeps, holds at its end. -/
theorem foldl_reaches {α : Type} {f : State → α → State} {R P : State → Prop} {l : List α} {x : α} (hx : x ∈ l) (hs : R s)
    (hR : ∀ t y, R t → R (f t y)) (hP : ∀ t, R t → P (f t x)) (hkeep : ∀ t y, P t → P (f t y)) : P (l.foldl f s) := by
  obtain ⟨l₁, l₂, rfl⟩ := List.append_of_mem hx
  rw [List.foldl_append, List.foldl_cons]
  exact List.foldlRecOn l₂ f (hP _ (List.foldlRecOn l₁ f hs fun t ht y _ => hR t y ht)) fun t ht y _ => hkeep t y ht

/-! ### Windows that end (R263) -/

/-- One state follows from another by messages of this device's Mandrels. -/
structure OnlySends (s t : State) : Prop where
  cell : t.cell = s.cell
  pair : t.pair = s.pair
  claim : ∃ l, t.claim = { s.claim with msgs := s.claim.msgs ++ l }

theorem OnlySends.refl (s : State) : OnlySends s s := ⟨rfl, rfl, [], by rw [List.append_nil]⟩

theorem OnlySends.trans (h : OnlySends s t) (k : OnlySends t u) : OnlySends s u := by
  obtain ⟨l, hclaim⟩ := h.claim
  obtain ⟨m, kclaim⟩ := k.claim
  exact ⟨k.cell.trans h.cell, k.pair.trans h.pair, l ++ m, by rw [kclaim, hclaim, List.append_assoc]⟩

theorem OnlySends.foldl {α : Type} {f : State → α → State} (hf : ∀ t x, OnlySends t (f t x)) (l : List α) (s : State) :
    OnlySends s (l.foldl f s) :=
  List.foldlRecOn l f (.refl s) fun t ht x _ => ht.trans (hf t x)

theorem OnlySends.mem_msgs {m : Nat × ClaimMsg} (h : OnlySends s t) (hm : m ∈ s.claim.msgs) : m ∈ t.claim.msgs := by
  obtain ⟨l, hclaim⟩ := h.claim
  rw [hclaim]
  exact List.mem_append_left l hm

theorem OnlySends.isShadow (h : OnlySends s t) : t.isShadow = s.isShadow := by
  simp only [State.isShadow, h.cell, h.pair]

theorem OnlySends.ownSource (h : OnlySends s t) (n src : Nat) : t.ownSource n src = s.ownSource n src := by
  obtain ⟨l, hclaim⟩ := h.claim
  simp only [State.ownSource, State.source, h.cell, h.pair, hclaim, h.isShadow]

theorem State.claimMsg_onlySends (s : State) (m : ClaimMsg) : OnlySends s (s.claimMsg m) := by
  unfold State.claimMsg
  split
  · exact .refl s
  · dsimp only
    split
    · exact ⟨rfl, rfl, [_], rfl⟩
    · exact ⟨rfl, rfl, [_], rfl⟩

/-- A message of a device that is no shadow's is applied at the edge two ticks later (R258). -/
theorem State.mem_claimMsg (h : s.isShadow = false) (m : ClaimMsg) : (s.cell.tick + 2, m) ∈ (s.claimMsg m).claim.msgs := by
  have hmem : (s.cell.tick + 2, m) ∈ s.claim.msgs ++ [(s.cell.tick + 2, m)] := List.mem_append_right _ (List.mem_singleton_self _)
  simp only [State.claimMsg, h, Bool.false_eq_true, if_false]
  split <;> exact hmem

/-- A zone of a claim whose window ends is released or passes to HELD. -/
def closeZone (n : Nat) (c : Claim) (s : State) (z : Nat) : State :=
  if c.isHeld z then s
  else if (s.laterStamps n (s.cell.tick - 1)).any (fun t => (s.touched n t).contains z) then s.claimMsg (.holdover c.source z)
  else s.claimMsg (.release c.source z)

/-- A claim of arm `n` whose window ends in this tick closes its zones. -/
def closeWindow (n : Nat) (s : State) (c : Claim) : State :=
  if s.ownSource n c.source && c.granted && c.stop == s.cell.tick then c.zones.foldl (closeZone n c) s else s

theorem endWindow_eq (n : Nat) (s : State) : endWindow n s = s.claim.claims.foldl (closeWindow n) s := rfl

theorem closeZone_onlySends (n : Nat) (c : Claim) (s : State) (z : Nat) : OnlySends s (closeZone n c s z) := by
  unfold closeZone
  split
  · exact .refl s
  · split
    · exact State.claimMsg_onlySends s _
    · exact State.claimMsg_onlySends s _

theorem closeWindow_onlySends (n : Nat) (s : State) (c : Claim) : OnlySends s (closeWindow n s c) := by
  unfold closeWindow
  split
  · exact .foldl (closeZone_onlySends n c) _ s
  · exact .refl s

theorem endWindow_onlySends (n : Nat) (s : State) : OnlySends s (endWindow n s) := .foldl (closeWindow_onlySends n) _ s

/-- The message that ends zone `z` of a claim in the tick of `s` waits in `t`. -/
def ZoneClosed (s : State) (c : Claim) (z : Nat) (t : State) : Prop :=
  (s.cell.tick + 2, ClaimMsg.holdover c.source z) ∈ t.claim.msgs ∨ (s.cell.tick + 2, ClaimMsg.release c.source z) ∈ t.claim.msgs

theorem ZoneClosed.of_onlySends (h : ZoneClosed s c z t) (k : OnlySends t u) : ZoneClosed s c z u := h.imp k.mem_msgs k.mem_msgs

theorem closeZone_closed (hs : s.isShadow = false) (hh : c.isHeld z = false) (h : OnlySends s t) : ZoneClosed s c z (closeZone n c t z) := by
  have hsent := State.mem_claimMsg (h.isShadow.trans hs)
  rw [h.cell] at hsent
  simp only [closeZone, hh, Bool.false_eq_true, if_false]
  split
  · exact .inl (hsent _)
  · exact .inr (hsent _)

theorem closeWindow_closed (hs : s.isShadow = false) (ho : s.ownSource n c.source = true) (hg : c.granted = true) (hstop : c.stop = s.cell.tick)
    (hz : z ∈ c.zones) (hh : c.isHeld z = false) (h : OnlySends s t) : ZoneClosed s c z (closeWindow n t c) := by
  have hends : (t.ownSource n c.source && c.granted && c.stop == t.cell.tick) = true := by
    rw [h.ownSource, ho, hg, hstop, h.cell]
    simp
  rw [closeWindow, if_pos hends]
  exact foldl_reaches (R := OnlySends s) hz h (fun t y ht => ht.trans (closeZone_onlySends n c t y)) (fun _ => closeZone_closed hs hh)
    (fun t y ht => ht.of_onlySends (closeZone_onlySends n c t y))

/-- Each zone, not HELD, of a claim whose window ends gets its message (R263). -/
theorem endWindow_closed (hs : s.isShadow = false) (hc : c ∈ s.claim.claims) (ho : s.ownSource n c.source = true) (hg : c.granted = true)
    (hstop : c.stop = s.cell.tick) (hz : z ∈ c.zones) (hh : c.isHeld z = false) : ZoneClosed s c z (endWindow n s) :=
  foldl_reaches (R := OnlySends s) hc (.refl s) (fun t y ht => ht.trans (closeWindow_onlySends n t y))
    (fun _ => closeWindow_closed hs ho hg hstop hz hh) (fun t y ht => ht.of_onlySends (closeWindow_onlySends n t y))

/-- Without a window that ends nothing happens. -/
theorem endWindow_of_none (h : ∀ c ∈ s.claim.claims, s.ownSource n c.source = false ∨ c.granted = false ∨ c.stop ≠ s.cell.tick) :
    endWindow n s = s := by
  rw [endWindow_eq]
  refine List.foldlRecOn (motive := fun t => t = s) _ _ rfl fun t ht c hc => ?_
  rw [ht]
  refine if_neg fun hends => ?_
  simp only [Bool.and_eq_true, beq_iff_eq] at hends
  obtain ⟨⟨ho, hg⟩, hstop⟩ := hends
  rcases h c hc with h | h | h
  · rw [ho] at h; cases h
  · rw [hg] at h; cases h
  · exact h hstop

/-! ### Departed devices (R267, R269, R270) -/

/-- A zone is BLOCKED (R267). -/
def State.zoneBlocked (s : State) (z : Nat) : Bool := s.claim.blocked.any (fun b => b.1 == z)

/-- The numbers a table lists after a record is put in its place. -/
theorem Table.any_put {α : Type} (t : Table α) (k z : Nat) (v : α) :
    (Table.put t k v).any (fun p => p.1 == z) = (k == z || t.any (fun p => p.1 == z)) := by
  induction t with
  | nil => simp [Table.put]
  | cons p t ih =>
    obtain ⟨j, b⟩ := p
    unfold Table.put
    split
    next h => simp [h]
    next =>
      split
      · simp
      · simp [ih, Bool.or_left_comm]

/-- The numbers a table lists after a record other than the reset record is written. -/
theorem Table.any_upd {α : Type} [DecidableEq α] {d : α} (t : Table α) (k z : Nat) {f : α → α} (h : f (Table.get d t k) ≠ d) :
    (Table.upd d t k f).any (fun p => p.1 == z) = (k == z || t.any (fun p => p.1 == z)) := by
  rw [Table.upd, Table.set, if_neg h, Table.any_put]

/-- One state follows from another by zones that pass to BLOCKED. -/
structure OnlyBlocks (s t : State) : Prop where
  cell : t.cell = s.cell
  claim : ∃ b k, t.claim = { s.claim with blocked := b, blockedCount := k }
  blocked : ∀ z, s.zoneBlocked z = true → t.zoneBlocked z = true

theorem OnlyBlocks.refl (s : State) : OnlyBlocks s s := ⟨rfl, ⟨_, _, rfl⟩, fun _ h => h⟩

theorem OnlyBlocks.trans (h : OnlyBlocks s t) (k : OnlyBlocks t u) : OnlyBlocks s u := by
  obtain ⟨_, _, hclaim⟩ := h.claim
  obtain ⟨b, m, kclaim⟩ := k.claim
  exact ⟨k.cell.trans h.cell, ⟨b, m, by rw [kclaim, hclaim]⟩, fun z hz => k.blocked z (h.blocked z hz)⟩

theorem OnlyBlocks.foldl {α : Type} {f : State → α → State} (hf : ∀ t x, OnlyBlocks t (f t x)) (l : List α) (s : State) :
    OnlyBlocks s (l.foldl f s) :=
  List.foldlRecOn l f (.refl s) fun t ht x _ => ht.trans (hf t x)

/-- A zone passed to BLOCKED is so, and so is every zone that was. -/
theorem blockZone_spec (node z : Nat) (s : State) : OnlyBlocks s (blockZone node z s) ∧ (blockZone node z s).zoneBlocked z = true := by
  unfold blockZone
  split
  next h => exact ⟨.refl s, h⟩
  next =>
    extract_lets _ u
    have hcell : (u.event 0 0x8604 (0x2000 + z) (toLE 1 node)).cell = s.cell := State.event_keeps u _ _ _ _ .cell rfl
    have hclaim : (u.event 0 0x8604 (0x2000 + z) (toLE 1 node)).claim = u.claim := State.event_keeps u _ _ _ _ .claim rfl
    have hany : ∀ y, (u.event 0 0x8604 (0x2000 + z) (toLE 1 node)).zoneBlocked y = (z == y || s.zoneBlocked y) := fun y => by
      rw [State.zoneBlocked, hclaim]
      exact Table.any_upd (f := fun _ => s.cell.tick + 1) s.claim.blocked z y (Nat.succ_ne_zero s.cell.tick)
    exact ⟨⟨hcell, ⟨_, _, hclaim⟩, fun y hy => by rw [hany, hy, Bool.or_true]⟩, by rw [hany]; simp⟩

/-- A zone of a revoked claim is blocked where its arm may stand: under a window that has begun, or HELD. -/
def blockClaimed (node tick : Nat) (c : Claim) (s : State) (z : Nat) : State :=
  if (c.granted && decide (c.start ≤ tick)) || c.isHeld z then blockZone node z s else s

theorem blockClaimed_onlyBlocks (node tick : Nat) (c : Claim) (s : State) (z : Nat) : OnlyBlocks s (blockClaimed node tick c s z) := by
  unfold blockClaimed
  split
  · exact (blockZone_spec node z s).1
  · exact .refl s

/-- The zones of a revoked claim, each in its turn. -/
def blockClaim (node : Nat) (s : State) (c : Claim) : State := c.zones.foldl (blockClaimed node s.cell.tick c) s

theorem blockClaim_onlyBlocks (node : Nat) (s : State) (c : Claim) : OnlyBlocks s (blockClaim node s c) :=
  .foldl (blockClaimed_onlyBlocks node s.cell.tick c) c.zones s

theorem blockClaim_blocks {node : Nat} (hz : z ∈ c.zones) (h : (c.granted = true ∧ c.start ≤ s.cell.tick) ∨ c.isHeld z = true) :
    (blockClaim node s c).zoneBlocked z = true := by
  refine foldl_reaches (R := fun _ => True) (P := fun t => t.zoneBlocked z = true) hz trivial (fun _ _ _ => trivial) (fun t _ => ?_)
    (fun t y ht => (blockClaimed_onlyBlocks node _ c t y).blocked z ht)
  rw [blockClaimed, if_pos (by simpa using h)]
  exact (blockZone_spec node z t).2

/-- The state without the claims and the messages of a departed device, its claims counted as revoked (R270, R272). -/
def dropClaims (d : Nat) (s : State) : State :=
  { s with claim := { s.claim with
      claims := (s.claim.claims.filter (fun c => c.source / 64 != d)).filter (fun c => c.zones != [])
      msgs := s.claim.msgs.filter (fun m => !m.2.fromNode d)
      revoked := wrap 32 (s.claim.revoked + (s.claim.claims.filter (fun c => c.source / 64 == d)).length) } }

/-- Between the drop of a device's claims and the blocking of their zones, events go out. -/
theorem revokeNode_eq (d : Nat) (s : State) : ∃ u, Keeps 524480 (dropClaims d s) u ∧
    revokeNode d s = (s.claim.claims.filter (fun c => c.source / 64 == d)).foldl (blockClaim d) u :=
  ⟨_, Keeps.foldl (fun t _ => State.event_keeps t _ _ _ _) (Keeps.refl 524480 (dropClaims d s)), rfl⟩

/-- What a revocation leaves of claims, messages and blocked zones (R267, R270). -/
theorem revokeNode_claim (d : Nat) (s : State) :
    (∃ b k, (revokeNode d s).claim = { (dropClaims d s).claim with blocked := b, blockedCount := k }) ∧
    ∀ c ∈ s.claim.claims, c.source / 64 = d → ∀ z ∈ c.zones, (c.granted = true ∧ c.start ≤ s.cell.tick) ∨ c.isHeld z = true →
      (revokeNode d s).zoneBlocked z = true := by
  obtain ⟨u, hu, e⟩ := revokeNode_eq d s
  have hcell : u.cell = s.cell := hu .cell rfl
  have hclaim : u.claim = (dropClaims d s).claim := hu .claim rfl
  rw [e]
  refine ⟨?_, fun c hc hd z hz h => ?_⟩
  · rw [← hclaim]
    exact (OnlyBlocks.foldl (blockClaim_onlyBlocks d) _ u).claim
  · exact foldl_reaches (R := fun t => t.cell = s.cell) (P := fun t => t.zoneBlocked z = true)
      (List.mem_filter.mpr ⟨hc, by simpa using hd⟩) hcell (fun t y ht => (blockClaim_onlyBlocks d t y).cell.trans ht) (fun t ht => blockClaim_blocks hz (by rwa [ht]))
      (fun t y ht => (blockClaim_onlyBlocks d t y).blocked z ht)

/-- A device whose claims nobody took over, and that is no shadow of this one, loses its claims and its membership (R267, R521). -/
theorem departNode_eq (ha : s.claim.adopted.contains d = false) (ht : s.claim.taken.contains d = false)
    (hp : s.pair.role ≠ 1 ∨ s.pair.peer ≠ d) :
    departNode d s = if d = s.cell.node then revokeNode d s else removeMember d (revokeNode d s) := by
  have hcell : (revokeNode d s).cell = s.cell := revokeNode_keeps d s .cell rfl
  have hpair : (revokeNode d s).pair = s.pair := revokeNode_keeps d s .pair rfl
  have hno : ¬ (s.pair.role = 1 ∧ s.pair.peer = d) := fun h => hp.elim (fun hr => hr h.1) (fun hr => hr h.2)
  simp only [departNode, ha, ht, Bool.or_self, Bool.false_or, Bool.false_eq_true, if_false, hpair, if_neg hno, hcell, beq_iff_eq]

/-- A member removed is none, and its claims are as they were (R529). -/
theorem removeMember_claim (d : Nat) (s : State) : (removeMember d s).claim = s.claim := rfl

theorem removeMember_member (d : Nat) (s : State) : ((removeMember d s).fabNode d).member = false :=
  congrArg FabMember.member (State.fabNode_setFabNode s d _)

theorem departNode_claim (ha : s.claim.adopted.contains d = false) (ht : s.claim.taken.contains d = false)
    (hp : s.pair.role ≠ 1 ∨ s.pair.peer ≠ d) : (departNode d s).claim = (revokeNode d s).claim := by
  rw [departNode_eq ha ht hp]
  split <;> rfl

/-! ### The rows -/

/-- A row on a unit that the device has goes on to the state of its step. -/
theorem does_of_onUnit {i : Instr} {l : Nat} {P : State → Prop} (hi : exec i s = onUnit n l t) (hn : n < l) (hP : P t) : Does i s P :=
  ⟨t, hi.trans (onUnit_next hn), hP⟩

/-- Settles O31: an update is idle or ends at its engine and its axis whatever fault it raises; a window's end only sends messages, one for each
zone; a revocation filters claims and messages and only adds blocked zones. -/
theorem tillersServeAxesAndClaimsEnd : Obligations.TillersServeAxesAndClaimsEnd := by
  unfold Obligations.TillersServeAxesAndClaimsEnd
  refine ⟨fun a eb rb ecc s ha hdue => does_of_onUnit rfl ha (tillerUpdate_of_idle eb rb fun _ _ _ => .inl hdue),
    fun a eb rb ecc e place s ha hserved htrip => does_of_onUnit rfl ha (tillerUpdate_of_idle eb rb fun e' place' h' => .inr ?tripped),
    fun a eb rb ecc e place s ha hserved hdue htrip hseal => does_of_onUnit rfl ha ?update,
    fun n s hn => does_of_onUnit rfl hn ?watchdog,
    fun n s hn h => does_of_onUnit rfl hn (endWindow_of_none h),
    fun n s hn => does_of_onUnit rfl hn ?window,
    fun d s hd ha ht hp => does_of_onUnit rfl hd ?revoke,
    fun n a eb rb ecc s => ⟨fun hn => onUnit_fault hn, fun hn => onUnit_fault hn, fun ha => onUnit_fault ha⟩⟩
  case tripped =>
    rw [hserved] at h'
    cases h'
    exact htrip
  case update =>
    have hended := tillerUpdate_ended eb rb hserved hdue htrip hseal
    exact ⟨hended.updates, hended.late, hended.due, (tillerUpdate_keeps a eb rb ecc s).touches _ (by decide)⟩
  case watchdog =>
    exact ⟨congrArg Tiller.tripped (State.tiller_setTiller s n _), rfl, fun m hm => State.tiller_setTiller_other s _ hm,
      (tillerWatchdog_keeps n s).touches _ (by decide)⟩
  case window =>
    have hsends := endWindow_onlySends n s
    obtain ⟨l, hclaim⟩ := hsends.claim
    exact ⟨by rw [hclaim], by rw [hclaim], fun m hm => hsends.mem_msgs hm,
      fun hs c hc ho hg hstop z hz hh => endWindow_closed hs hc ho hg hstop hz hh, (endWindow_keeps n s).touches _ (by decide)⟩
  case revoke =>
    obtain ⟨⟨b, k, hclaim⟩, hblocked⟩ := revokeNode_claim d s
    have hdepart : (departNode d s).claim = { (dropClaims d s).claim with blocked := b, blockedCount := k } :=
      (departNode_claim ha ht hp).trans hclaim
    refine ⟨fun c hc hsrc hz => ?_, fun c hc => ?_, fun m hm => ?_, fun c hc hsrc z hz h => ?_, ?_, fun hne => ?_⟩
    · rw [hdepart]
      exact List.mem_filter.mpr ⟨List.mem_filter.mpr ⟨hc, by simpa using hsrc⟩, by simpa using hz⟩
    · rw [hdepart] at hc
      simpa using (List.mem_filter.mp (List.mem_filter.mp hc).1).2
    · rw [hdepart] at hm
      simpa using (List.mem_filter.mp hm).2
    · rw [departNode_claim ha ht hp]
      exact hblocked c hc hsrc z hz h
    · rw [hdepart]
      rfl
    · rw [departNode_eq ha ht hp, if_neg hne]
      exact removeMember_member d _

end Sys2Proof.Machine
end

section
/-! SUPPORT. The SAFE and ZONE commands (R245, R246, R248, R252, R268, R271, R272): what a loaded block leaves, that a block confirmed was
pending, and where a zone is defined. -/

namespace Sys2Proof.Machine

variable {s : State}

/-! ### Safety blocks (R245, R246) -/

/-- What SAFE.LOAD leaves and answers once its tests have passed: the block read becomes the pending one, or the reply names the first
field that fails. -/
def blockLoaded (c : List Byte) (s : State) : State × Reply :=
  match parseBlock c with
  | .error i => (s, { status := St.safeParam, detail := i, later := true })
  | .ok b => ({ s with glume := { s.glume with pendingBlock := some (b, s.gtc) } }, { data := toLE 4 b.crc, later := true })

/-- A load completes later, changes nothing but the pending block, and never the active one. -/
theorem blockLoaded_spec (c : List Byte) (s : State) :
    (blockLoaded c s).2.later = true ∧
    (∀ b, parseBlock c = .ok b → (blockLoaded c s).1 = { s with glume := { s.glume with pendingBlock := some (b, s.gtc) } } ∧
      (blockLoaded c s).2.status = 0 ∧ (blockLoaded c s).2.data = toLE 4 b.crc) ∧
    (∀ n, parseBlock c = .error n → (blockLoaded c s).1 = s ∧ (blockLoaded c s).2.status = St.safeParam ∧ (blockLoaded c s).2.detail = n) ∧
    (blockLoaded c s).1.glume.block = s.glume.block := by
  unfold blockLoaded
  cases parseBlock c with
  | error i => exact ⟨rfl, nofun, fun n hn => ⟨rfl, rfl, Except.error.inj hn⟩, rfl⟩
  | ok b => exact ⟨rfl, fun b' hb => by cases hb; exact ⟨rfl, rfl, rfl⟩, nofun, rfl⟩

/-- A confirmation that passes its tests names a pending block by its CRC. -/
theorem exists_pendingBlock_of_passes {h : Hdr} {a : List Byte} (hp : Passes (needsSafeConfirm h a s)) :
    ∃ b g, s.glume.pendingBlock = some (b, g) ∧ b.crc = uAt a 0 4 := by
  have hcrc : (s.glume.pendingBlock.map (fun p => p.1.crc) != some (uAt a 0 4)) = false :=
    hp.of_mem (c := St.safeCrcMismatch) (d := 0) (by simp [needsSafeConfirm])
  rw [bne_eq_false_iff_eq, Option.map_eq_some_iff] at hcrc
  obtain ⟨⟨b, g⟩, hb, hc⟩ := hcrc
  exact ⟨b, g, hb, hc⟩

/-! ### Zones (R252, R268) -/

/-- The state that ZONE.DEFINE leaves: alone, the device has its zone at once; in a cell every device has it at the next edge. -/
def zoneDefined (k : Nat) (z : Zone) (s : State) : State :=
  if s.otherNodes = [] then s.setZone k z else
    ({ s with fab := { s.fab with changes := s.fab.changes ++ [(s.cell.tick + 1, CellCfg.zone k z)] } }).tell none
      (.cellCfg (s.cell.tick + 1) (CellCfg.zone k z))

theorem zoneDefined_spec (k : Nat) (z : Zone) (s : State) :
    (s.otherNodes = [] → zoneDefined k z s = s.setZone k z) ∧
    (s.otherNodes ≠ [] → (zoneDefined k z s).fab.changes = s.fab.changes ++ [(s.cell.tick + 1, CellCfg.zone k z)] ∧
      (zoneDefined k z s).claim = s.claim) := by
  refine ⟨fun hn => if_pos hn, fun hn => ?_⟩
  rw [zoneDefined, if_neg hn]
  exact ⟨rfl, rfl⟩

/-- A zone freed is BLOCKED no more, and every other one is as it was; the message to the arbiters blocks and frees none. -/
theorem mem_blocked_unblockZone_claimMsg {z : Nat} {m : ClaimMsg} {b : Nat × Nat} :
    b ∈ ((unblockZone z s).claimMsg m).claim.blocked ↔ b ∈ s.claim.blocked ∧ b.1 ≠ z := by
  obtain ⟨l, hclaim⟩ := (State.claimMsg_onlySends (unblockZone z s) m).claim
  rw [hclaim]
  simp [unblockZone]

/-! ### The commands -/

/-- Settles O17: each SAFE and ZONE command is its tests and then its effect; a load goes through `blockLoaded_spec`, a confirmation has a
pending block because its tests passed, and a zone goes through `zoneDefined_spec`. -/
theorem safeAndZoneCommandsLoadConfirmAndDefine : Obligations.SafeAndZoneCommandsLoadConfirmAndDefine := by
  unfold Obligations.SafeAndZoneCommandsLoadConfirmAndDefine
  refine ⟨hostRow_of (fun _ _ _ => rfl) fun h a s =>
      ⟨s.freeCount, blockLoaded (s.bankOctets (uAt a 0 2) (uAt a 4 4) (uAt a 12 4)) s, rfl, fun _ => blockLoaded_spec _ s⟩,
    hostRow_of (fun _ _ _ => rfl) fun h a s => ⟨s.freeCount, _, rfl, fun hp => ?confirm⟩,
    reads_of (fun _ _ _ => rfl) fun _ _ _ => rfl, reads_of (fun _ _ _ => rfl) fun _ _ _ => rfl,
    hostRow_of (fun _ _ _ => rfl) fun h a s =>
      ⟨s.freeCount, okReply (zoneDefined (uAt a 0 2) _ s), rfl, fun _ => ⟨rfl, zoneDefined_spec _ _ s⟩⟩,
    hostRow_of (fun _ _ _ => rfl) fun h a s => ⟨s.freeCount, _, rfl, fun _ => ⟨rfl, ?freed, ?others, rfl⟩⟩,
    reads_of (fun _ _ _ => rfl) fun _ _ _ => rfl, reads_of (fun _ _ _ => rfl) fun _ _ _ => rfl⟩
  case confirm =>
    obtain ⟨b, g, hb, hc⟩ := exists_pendingBlock_of_passes hp
    exact ⟨rfl, b, g, hb, hc, by simp [okReply, hb], rfl⟩
  case freed => exact fun b hb => (mem_blocked_unblockZone_claimMsg.mp hb).2
  case others => exact fun b hb hne => mem_blocked_unblockZone_claimMsg.mpr ⟨hb, hne⟩

end Sys2Proof.Machine
end

section
/-! SUPPORT. Resets and the write inhibit (R198, R347, R596, R601, R605 to R611, R628, R629): what a release from reset leaves, what the
conditions of the inhibit set, and that its end empties what was held back. -/

namespace Sys2Proof.Machine

variable {s : State}

/-! ### Resets (R605 to R608) -/

theorem holdInReset_of_hold (cause : Nat) (h : s.tap.hold = true) : holdInReset cause s = s := if_pos h

theorem holdInReset_of_free (cause : Nat) (h : s.tap.hold = false) :
    holdInReset cause s = { deviceReset cause s with power := { (deviceReset cause s).power with inReset := true } } :=
  if_neg (by rw [h]; nofun)

/-- A rail other than VDD_GLUME and VDD_AON resets the device as RST_N does (R606). -/
theorem railReset_of_supply {r : Nat} (hr : r < 7) (hg : r ≠ 1) : railReset r s = holdInReset 2 s := by
  rw [railReset, if_neg hg, if_neg hr.ne]

/-- VDD_GLUME cuts the safe outputs and resets nothing (R198). -/
theorem railReset_glume (s : State) : (railReset 1 s).glume.cut = true ∧ (railReset 1 s).power = s.power := by
  rw [railReset, if_pos rfl]
  have hframe := State.glumeFault_keeps { s with glume := { s.glume with cut := true } } 0
  exact ⟨hframe .cut rfl, hframe .power rfl⟩

/-! ### The release from reset (R605, R653, R663) -/

/-- The device released from reset; of the conditions of the inhibit PFW_N alone may still stand. -/
def released (s : State) : State :=
  { s with power := { s.power with
      inReset := false, inhibitBy := s.power.inhibitBy.filter (· == 0), inhibit := !(s.power.inhibitBy.filter (· == 0)).isEmpty } }

theorem powerOn_of_hold (k : Option Nat) (h : s.tap.hold = true) : powerOn k s = s := if_pos h

/-- Of a device in reset a power-on reset samples the straps and starts the hot minutes anew, and any other leaves both. -/
theorem powerOn_of_inReset (k : Option Nat) (h : s.tap.hold = false) (hr : s.power.inReset = true) :
    powerOn k s = if s.power.cause = 0 then { released s with fab := { s.fab with strap := k }, wnw := { s.wnw with hot85 := 0, hot105 := 0 } }
      else released s := by
  simp only [powerOn, h, hr, Bool.false_eq_true, if_false, if_true]
  rfl

theorem released_keeps (s : State) : Keeps 4 s (released s) :=
  Keeps.power_ (Keeps.refl _ s) rfl (.inl rfl) (.inl le_rfl)

theorem powerOn_touches (k : Option Nat) (h : s.tap.hold = false) (hr : s.power.inReset = true) :
    Touches [.power, .fab, .wnw] s (powerOn k s) := by
  have hpower : Keeps 8912900 s (released s) := (released_keeps s).mono rfl
  refine Keeps.touches (m := 8912900) ?_ _ (by decide)
  rw [powerOn_of_inReset k h hr]
  have hstrap : Keeps 8912900 s { released s with fab := { s.fab with strap := k } } := hpower.fab_ rfl
  have hhot : Keeps 8912900 s { released s with fab := { s.fab with strap := k }, wnw := { s.wnw with hot85 := 0, hot105 := 0 } } :=
    hstrap.wnw_ rfl
  exact Keeps.ite hhot hpower

/-! ### The inhibit begins (R609, R635) -/

/-- With the first condition POWER_WARN is appended, the journal commits, and no non-volatile write stays under way. -/
def stopWrites (cond : Nat) (s : State) : State :=
  let v := s.freeBelow (2 ^ 112)
  let s := (v.2.record 35 0x0011 (toLE 2 cond ++ toLE 14 v.1)).commitJournal
  let s := { s with power := { s.power with inhibit := true, inhibitAt := s.gtc, fwWriting := false } }
  let s := s.completeCmd 0x0D01 (fun _ => true) { status := St.fwRejected, detail := 6 }
  s.completeCmd 0x0801 (fun _ => true) { status := St.imageRejected, detail := 8 }

theorem stopWrites_power (cond : Nat) (s : State) :
    (stopWrites cond s).power = { s.power with inhibit := true, inhibitAt := s.gtc, fwWriting := false } := by
  let t := ((s.freeBelow (2 ^ 112)).2.record 35 0x0011 (toLE 2 cond ++ toLE 14 (s.freeBelow (2 ^ 112)).1)).commitJournal
  have ht : Keeps 524352 (s.freeBelow (2 ^ 112)).2 t :=
    (State.record_keeps _ _ _ _).trans ((State.commitJournal_keeps _).mono rfl)
  have hpower : t.power = s.power := ht .power rfl
  have hgtc : t.gtc = s.gtc := State.gtc_of_time (ht .time rfl)
  change { t.power with inhibit := true, inhibitAt := t.gtc, fwWriting := false } = _
  rw [hpower, hgtc]

/-- A condition that neither the test access port nor the inhibit in force bars is recorded, the first one after the writes have
stopped; PFW_N also has a primary declare itself failed. -/
theorem beginInhibit_eq (cond : Nat) (h : s.tap.hold = false) (hc : s.power.inhibitBy.contains cond = false) :
    beginInhibit cond s =
      let u := if s.power.inhibit then s else stopWrites cond s
      let v := { u with power := { u.power with inhibitBy := u.power.inhibitBy ++ [cond] } }
      if cond = 0 then declareFailed { v with power := { v.power with pfwHigh := false } } else v := by
  unfold beginInhibit
  rw [if_neg (by rw [h, hc]; nofun)]
  cases hi : s.power.inhibit <;> rfl

theorem beginInhibit_of_barred {cond : Nat} (h : s.tap.hold = true ∨ s.power.inhibitBy.contains cond = true) : beginInhibit cond s = s :=
  if_pos h

theorem beginInhibit_power (cond : Nat) (h : s.tap.hold = false) (hc : s.power.inhibitBy.contains cond = false) :
    (beginInhibit cond s).power = { s.power with
      inhibit := true, inhibitBy := s.power.inhibitBy ++ [cond], pfwHigh := if cond = 0 then false else s.power.pfwHigh
      inhibitAt := if s.power.inhibit then s.power.inhibitAt else s.gtc, fwWriting := s.power.inhibit && s.power.fwWriting } := by
  have hstopped : (if s.power.inhibit then s else stopWrites cond s).power = { s.power with
      inhibit := true, inhibitAt := if s.power.inhibit then s.power.inhibitAt else s.gtc
      fwWriting := s.power.inhibit && s.power.fwWriting } := by
    cases hi : s.power.inhibit with
    | true =>
      change s.power = { s.power with inhibit := true }
      rw [← hi]
    | false => exact stopWrites_power cond s
  rw [beginInhibit_eq cond h hc]
  by_cases h0 : cond = 0
  · simp only [if_pos h0]
    rw [declareFailed_keeps _ .power rfl, hstopped]
  · simp only [if_neg h0]
    rw [hstopped]

/-! ### The inhibit ends (R611) -/

/-- Outside an inhibit a record goes into the open page (R615). -/
theorem State.record_eq_pushRecord (loc kind : Nat) (bs : List Byte) (h : s.power.inhibit = false) :
    s.record loc kind bs = pushRecord s (s.recordOf loc kind bs) :=
  if_neg (by rw [h]; nofun)

theorem State.commitJournal_heldBack (h : s.power.inhibit = false) : s.commitJournal.jrnl.heldBack = s.jrnl.heldBack := by
  rw [State.commitJournal_jrnl h]
  rfl

/-- A record that enters the open page is held back no more, and whether the page fills and closes or not none else is. -/
theorem pushRecord_heldBack (r : JRec) (h : s.power.inhibit = false) : (pushRecord s r).jrnl.heldBack = s.jrnl.heldBack := by
  have hfull := State.commitJournal_heldBack (s := { s with jrnl := { s.jrnl with openRecs := s.jrnl.openRecs ++ [r] } }) h
  simp only [pushRecord]
  split
  · exact hfull
  · rfl

/-- The power state is `p`, and no record is held back. -/
def NoneHeld (p : PowerState) (s : State) : Prop := s.power = p ∧ s.jrnl.heldBack = []

theorem NoneHeld.pushRecord {p : PowerState} (h : NoneHeld p s) (hp : p.inhibit = false) (r : JRec) : NoneHeld p (pushRecord s r) := by
  obtain ⟨hpower, hheld⟩ := h
  have hkept : (Machine.pushRecord s r).power = s.power := pushRecord_keeps s r .power rfl
  exact ⟨hkept.trans hpower, (pushRecord_heldBack r (by rw [hpower, hp])).trans hheld⟩

theorem NoneHeld.commitJournal {p : PowerState} (h : NoneHeld p s) (hp : p.inhibit = false) : NoneHeld p s.commitJournal := by
  obtain ⟨hpower, hheld⟩ := h
  have hkept : s.commitJournal.power = s.power := State.commitJournal_keeps s .power rfl
  exact ⟨hkept.trans hpower, (State.commitJournal_heldBack (by rw [hpower, hp])).trans hheld⟩

theorem endInhibit_of_none (h : s.power.inhibit = false) : endInhibit s = s := if_pos (by rw [h]; rfl)

/-- The end of the inhibit writes every record held back, then its own, and commits. -/
theorem endInhibit_noneHeld (h : s.power.inhibit = true) :
    NoneHeld { s.power with inhibit := false, inhibitBy := [], pfwHigh := true } (endInhibit s) := by
  let p : PowerState := { s.power with inhibit := false, inhibitBy := [], pfwHigh := true }
  let t : State := { s with power := p, jrnl := { s.jrnl with heldBack := [] } }
  let u : State := s.jrnl.heldBack.foldl pushRecord t
  have hu : NoneHeld p u := List.foldlRecOn s.jrnl.heldBack pushRecord (b := t) ⟨rfl, rfl⟩ fun v hv r _ => hv.pushRecord rfl r
  have hfree : u.power.inhibit = false := by rw [hu.1]
  have hlast := hu.pushRecord rfl (u.recordOf 35 0x0012 (toLE 8 (u.gtc - u.power.inhibitAt)))
  rw [← State.record_eq_pushRecord _ _ _ hfree] at hlast
  have hend : endInhibit s = (u.record 35 0x0012 (toLE 8 (u.gtc - u.power.inhibitAt))).commitJournal := by
    rw [endInhibit, if_neg (by rw [h]; nofun)]
  rw [hend]
  exact hlast.commitJournal rfl

/-! ### The core PLL (R596, R601) -/

/-- A device fault of a device that is no primary is a reset and declares nothing. -/
theorem deviceFault_of_not_primary (h : s.pair.role ≠ 1) : deviceFault s = deviceReset 6 s := by
  rw [deviceFault, if_neg h]

/-! ### The rows -/

/-- Settles O33: a device that is not held resets and is released; the inhibit's begin goes through `beginInhibit_power`, its end through
`endInhibit_noneHeld`. -/
theorem resetsAndInhibitsTakeEffect : Obligations.ResetsAndInhibitsTakeEffect := by
  unfold Obligations.ResetsAndInhibitsTakeEffect
  refine ⟨fun s h => ⟨_, rfl, holdInReset_of_hold 1 h⟩, fun s h => ⟨_, rfl, holdInReset_of_free 1 h⟩,
    fun s => does_of_onUnit (n := 1) (l := 8) rfl (by decide) ?glumeRail,
    fun s => does_of_onUnit (n := 7) (l := 8) rfl (by decide) ⟨rfl, rfl, rfl⟩,
    fun r s hr hg h => does_of_onUnit rfl (Nat.lt_succ_of_lt hr) ((railReset_of_supply hr hg).trans (holdInReset_of_free 2 h)),
    fun k s h => ⟨_, rfl, powerOn_of_hold _ h⟩, fun k s h hr => ⟨_, rfl, ?released⟩,
    fun s h => ⟨_, rfl, if_pos h⟩, fun s h => ⟨_, rfl, if_neg (by rw [h]; nofun)⟩,
    fun s h => ⟨_, rfl, by rw [h]⟩, fun at_ cause s h => ⟨_, rfl, by rw [h]⟩,
    fun s h => ⟨_, rfl, beginInhibit_of_barred h⟩, fun s h hc => ⟨_, rfl, ?pfw⟩, fun core s h hc => ⟨_, rfl, ?rail⟩,
    fun s h => ⟨_, rfl, endInhibit_of_none h⟩, fun s h => ⟨_, rfl, ?ended⟩,
    fun s h => does_of_onUnit (n := 0) (l := 3) rfl (by decide) (deviceFault_of_not_primary h),
    fun p s hp => does_of_onUnit (l := 3) rfl (by omega) ?pll,
    fun p r s => ⟨fun hp => onUnit_fault hp, fun hr => onUnit_fault hr⟩⟩
  case glumeRail =>
    obtain ⟨hcut, hpower⟩ := railReset_glume s
    exact ⟨hcut, by rw [hpower]⟩
  case released =>
    have hframe := powerOn_touches (k.map (· % 256)) h hr
    rw [powerOn_of_inReset _ h hr] at hframe ⊢
    by_cases hcause : s.power.cause = 0
    · rw [if_pos hcause] at hframe ⊢
      exact ⟨rfl, rfl, rfl, fun _ => ⟨rfl, rfl, rfl⟩, fun hne => absurd hcause hne, hframe⟩
    · rw [if_neg hcause] at hframe ⊢
      exact ⟨rfl, rfl, rfl, fun h0 => absurd h0 hcause, fun _ => ⟨rfl, rfl⟩, hframe⟩
  case pfw =>
    beta_reduce
    rw [beginInhibit_power 0 h hc]
    exact ⟨rfl, rfl, rfl, fun hi => by simp [hi], (beginInhibit_keeps 0 s).touches _ (by decide)⟩
  case rail =>
    beta_reduce
    rw [beginInhibit_power _ h hc]
    exact ⟨rfl, rfl, if_neg (by cases core <;> nofun)⟩
  case ended =>
    obtain ⟨hpower, hheld⟩ := endInhibit_noneHeld h
    exact ⟨hpower, hheld, (endInhibit_keeps s).touches _ (by decide)⟩
  case pll =>
    have hp0 : p ≠ 0 := by omega
    rw [if_neg hp0]
    exact ⟨Table.get_upd_same 0 s.wnw.fails (2000 + p) (· + 1), (Keeps.wnw_ (Keeps.refl 524288 s) rfl).touches _ (by decide)⟩

end Sys2Proof.Machine
end

section
/-! SUPPORT. The Glume's shared operations (R200 to R208, R216, R235, R239, R241): what driving the safe outputs, sending SAFE_CTRL and
raising a cause change, and what they leave. -/

namespace Sys2Proof.Machine

variable {s t u : State} {α β : Type}

/-! ### Folds over records with numbers of their own -/

/-- A fold whose elements each write the record of their number leaves every other record. -/
theorem foldl_get_other {f : State → α → State} {key : α → Nat} {get : State → Nat → β} {l : List α} {p : Nat}
    (hother : ∀ t y, p ≠ key y → get (f t y) p = get t p) (hp : p ∉ l.map key) (s : State) : get (l.foldl f s) p = get s p :=
  List.foldlRecOn (motive := fun t => get t p = get s p) l f rfl fun t ht y hy =>
    (hother t y fun e => hp (e ▸ List.mem_map_of_mem hy)).trans ht

/-- In a fold whose elements write the records of distinct numbers, the record of one of them ends as that element leaves it in its turn. -/
theorem foldl_get_turn {f : State → α → State} {key : α → Nat} {get : State → Nat → β} {R : State → Prop} {l : List α} {x : α}
    (hother : ∀ t y, key x ≠ key y → get (f t y) (key x) = get t (key x)) (hs : R s) (hR : ∀ t y, R t → R (f t y))
    (hnodup : (l.map key).Nodup) (hx : x ∈ l) :
    ∃ t, R t ∧ get t (key x) = get s (key x) ∧ get (l.foldl f s) (key x) = get (f t x) (key x) := by
  obtain ⟨l₁, l₂, rfl⟩ := List.append_of_mem hx
  rw [List.map_append, List.map_cons, List.nodup_middle, List.nodup_cons, List.mem_append, not_or] at hnodup
  obtain ⟨⟨hbefore, hafter⟩, -⟩ := hnodup
  refine ⟨l₁.foldl f s, List.foldlRecOn l₁ f hs fun t ht y _ => hR t y ht, foldl_get_other hother hbefore s, ?_⟩
  rw [List.foldl_append, List.foldl_cons]
  exact foldl_get_other hother hafter _

/-! ### The safe outputs (R239, R241) -/

/-- One state follows from another by safe outputs energised or de-energised. -/
structure OnlyDrives (s t : State) : Prop where
  eq : ∃ o, t = { s with glume := { s.glume with outputs := o } }
  fault : ∀ p, (t.safeOut p).fault = (s.safeOut p).fault

theorem OnlyDrives.refl (s : State) : OnlyDrives s s := ⟨⟨s.glume.outputs, rfl⟩, fun _ => rfl⟩

theorem OnlyDrives.trans (h : OnlyDrives s t) (k : OnlyDrives t u) : OnlyDrives s u := by
  obtain ⟨_, rfl⟩ := h.eq
  obtain ⟨o, rfl⟩ := k.eq
  exact ⟨⟨o, rfl⟩, fun p => (k.fault p).trans (h.fault p)⟩

theorem OnlyDrives.foldl {f : State → α → State} (hf : ∀ t x, OnlyDrives t (f t x)) (l : List α) (s : State) : OnlyDrives s (l.foldl f s) :=
  List.foldlRecOn l f (.refl s) fun t ht x _ => ht.trans (hf t x)

theorem OnlyDrives.gunit (h : OnlyDrives s t) (n : Nat) : t.gunit n = s.gunit n := by
  obtain ⟨_, rfl⟩ := h.eq
  rfl

/-- Both switches of a pair put on or off. -/
def State.putPair (s : State) (p : Nat) (on : Bool) : State := s.updSafeOut p (fun v => { v with high := on, low := on })

/-- Both switches of a pair are off. -/
def State.pairOff (s : State) (p : Nat) : Prop := (s.safeOut p).high = false ∧ (s.safeOut p).low = false

/-- A pair put on or off by a record whose function is concerned. -/
def State.putPairIf (s : State) (c : Prop) [Decidable c] (p : Nat) (on : Bool) : State := if c then s.putPair p on else s

/-- What an output record of function STO or STATUS does to its pair. -/
def State.driveOutput (s : State) (o : GlmOutput) : State := s.putPairIf (o.function = 1 ∨ o.function = 3) o.pair (s.wantsOutput o)

/-- What an output record of function BRAKE does to its pair. -/
def State.driveBrake (s : State) (o : GlmOutput) : State := s.putPairIf (o.function = 2) o.pair (s.wantsBrake o)

/-- The state once STO and STATUS pairs are driven and brakes are not yet. -/
def State.driveFirst (s : State) : State := s.block.outputs.foldl State.driveOutput s

theorem State.driveOutputs_eq (s : State) : s.driveOutputs = s.driveFirst.block.outputs.foldl State.driveBrake s.driveFirst := rfl

theorem State.safeOut_putPair_other (s : State) {p q : Nat} (on : Bool) (h : q ≠ p) : (s.putPair p on).safeOut q = s.safeOut q :=
  State.safeOut_setSafeOut_other s _ h

theorem State.pairOff_putPair (s : State) (p : Nat) : (s.putPair p false).pairOff p := by
  simp [State.pairOff, State.putPair]

theorem State.putPair_onlyDrives (s : State) (p : Nat) (on : Bool) : OnlyDrives s (s.putPair p on) := by
  refine ⟨⟨_, rfl⟩, fun q => ?_⟩
  by_cases hq : q = p
  · simp [State.putPair, hq]
  · rw [State.safeOut_putPair_other s on hq]

theorem State.putPairIf_onlyDrives (s : State) (c : Prop) [Decidable c] (p : Nat) (on : Bool) : OnlyDrives s (s.putPairIf c p on) := by
  unfold State.putPairIf
  split
  · exact s.putPair_onlyDrives p on
  · exact .refl s

theorem State.safeOut_putPairIf_other (s : State) (c : Prop) [Decidable c] {p q : Nat} (on : Bool) (h : q ≠ p) :
    (s.putPairIf c p on).safeOut q = s.safeOut q := by
  unfold State.putPairIf
  split
  · exact s.safeOut_putPair_other on h
  · rfl

theorem State.driveOutput_onlyDrives (s : State) (o : GlmOutput) : OnlyDrives s (s.driveOutput o) := s.putPairIf_onlyDrives _ _ _

theorem State.driveBrake_onlyDrives (s : State) (o : GlmOutput) : OnlyDrives s (s.driveBrake o) := s.putPairIf_onlyDrives _ _ _

theorem State.driveFirst_onlyDrives (s : State) : OnlyDrives s s.driveFirst :=
  .foldl State.driveOutput_onlyDrives _ s

theorem State.driveOutputs_onlyDrives (s : State) : OnlyDrives s s.driveOutputs :=
  s.driveFirst_onlyDrives.trans (.foldl State.driveBrake_onlyDrives _ _)

/-- An STO pair that is not wanted energised, and that no other record names, ends with both switches off. -/
theorem State.driveOutputs_pairOff {o : GlmOutput} (hnodup : (s.block.outputs.map (fun o => o.pair)).Nodup) (ho : o ∈ s.block.outputs)
    (hf : o.function = 1) (hw : ∀ t, OnlyDrives s t → t.wantsOutput o = false) : s.driveOutputs.pairOff o.pair := by
  obtain ⟨t, ht, -, hfirst⟩ := foldl_get_turn (f := State.driveOutput) (key := fun o => o.pair) (get := State.safeOut) (R := OnlyDrives s)
    (fun t _ => t.safeOut_putPairIf_other _ _) (.refl s) (fun t o ht => ht.trans (t.driveOutput_onlyDrives o)) hnodup ho
  have houtputs : s.driveFirst.block.outputs = s.block.outputs := by
    obtain ⟨_, h⟩ := s.driveFirst_onlyDrives.eq
    rw [h]
    rfl
  obtain ⟨v, -, hsame, hlast⟩ := foldl_get_turn (f := State.driveBrake) (s := s.driveFirst) (key := fun o => o.pair) (get := State.safeOut)
    (R := fun _ => True) (fun t _ => t.safeOut_putPairIf_other _ _) trivial (fun _ _ _ => trivial) hnodup ho
  have hoff : t.driveOutput o = t.putPair o.pair false := by
    rw [State.driveOutput, State.putPairIf, if_pos (.inl hf), hw t ht]
  have hbrake : v.driveBrake o = v := if_neg (by rw [hf]; decide)
  rw [State.pairOff, State.driveOutputs_eq, houtputs, hlast, hbrake, hsame, State.driveFirst, hfirst, hoff]
  exact t.pairOff_putPair o.pair

/-- Under the hardware cut a pair that is off stays off. -/
def State.cutOff (s : State) (p : Nat) : Prop := s.glume.cut = true ∧ s.pairOff p

theorem State.cutOff_putPair {p : Nat} (q : Nat) (h : s.cutOff p) : (s.putPair q false).cutOff p := by
  obtain ⟨hcut, hoff⟩ := h
  refine ⟨hcut, ?_⟩
  by_cases hp : p = q
  · rw [hp]
    exact s.pairOff_putPair q
  · rw [State.pairOff, s.safeOut_putPair_other false hp]
    exact hoff

theorem State.cutOff_putPairIf {p : Nat} (c : Prop) [Decidable c] (q : Nat) (h : s.cutOff p) : (s.putPairIf c q false).cutOff p := by
  unfold State.putPairIf
  split
  · exact State.cutOff_putPair q h
  · exact h

/-- Under the cut no pair is wanted energised. -/
theorem State.cutOff_driveOutput {p : Nat} (o : GlmOutput) (h : s.cutOff p) : (s.driveOutput o).cutOff p := by
  have hoff : s.wantsOutput o = false := by simp [State.wantsOutput, h.1]
  rw [State.driveOutput, hoff]
  exact State.cutOff_putPairIf _ _ h

theorem State.cutOff_driveBrake {p : Nat} (o : GlmOutput) (h : s.cutOff p) : (s.driveBrake o).cutOff p := by
  have hoff : s.wantsBrake o = false := by simp [State.wantsBrake, h.1]
  rw [State.driveBrake, hoff]
  exact State.cutOff_putPairIf _ _ h

theorem State.cutOff_driveOutputs {p : Nat} (h : s.cutOff p) : s.driveOutputs.cutOff p := by
  have hfirst : s.driveFirst.cutOff p :=
    List.foldlRecOn (motive := fun t => t.cutOff p) s.block.outputs State.driveOutput h fun t ht o _ => State.cutOff_driveOutput o ht
  exact List.foldlRecOn (motive := fun t => t.cutOff p) _ State.driveBrake hfirst fun t ht o _ => State.cutOff_driveBrake o ht

/-! ### SAFE_CTRL (R216) -/

/-- A source without the number of the last SAFE_CTRL sent to it. -/
def GlmSrcState.settled (v : GlmSrcState) : GlmSrcState := { v with ctrlSeq := 0 }

/-- One state follows from another by SAFE_CTRL telegrams sent. -/
structure OnlyControls (s t : State) : Prop where
  eq : ∃ g o, t = { s with glume := { s.glume with sources := g }, out := o }
  src : ∀ k, (t.gsrc k).settled = (s.gsrc k).settled

theorem OnlyControls.refl (s : State) : OnlyControls s s := ⟨⟨s.glume.sources, s.out, rfl⟩, fun _ => rfl⟩

theorem OnlyControls.trans (h : OnlyControls s t) (k : OnlyControls t u) : OnlyControls s u := by
  obtain ⟨_, _, rfl⟩ := h.eq
  obtain ⟨g, o, rfl⟩ := k.eq
  exact ⟨⟨g, o, rfl⟩, fun n => (k.src n).trans (h.src n)⟩

theorem OnlyControls.gunit (h : OnlyControls s t) (n : Nat) : t.gunit n = s.gunit n := by
  obtain ⟨_, _, rfl⟩ := h.eq
  rfl

theorem OnlyControls.safeOut (h : OnlyControls s t) (p : Nat) : t.safeOut p = s.safeOut p := by
  obtain ⟨_, _, rfl⟩ := h.eq
  rfl

theorem State.sendCtrl_onlyControls (s : State) (k : Nat) : OnlyControls s (s.sendCtrl k) := by
  refine ⟨⟨_, _, rfl⟩, fun n => ?_⟩
  have hsrc : (s.sendCtrl k).gsrc n = (s.setGsrc k { s.gsrc k with ctrlSeq := wrap 16 ((s.gsrc k).ctrlSeq + 1) }).gsrc n := rfl
  rw [hsrc]
  by_cases hn : n = k
  · rw [hn, State.gsrc_setGsrc]
    rfl
  · rw [State.gsrc_setGsrc_other _ _ hn]

theorem State.ctrlUnit_onlyControls (s : State) (n : Nat) : OnlyControls s (s.ctrlUnit n) := by
  unfold State.ctrlUnit
  split
  · exact .refl s
  · refine List.foldlRecOn _ _ (.refl s) fun t ht k _ => ?_
    split
    · exact ht.trans (t.sendCtrl_onlyControls k)
    · exact ht

/-! ### Causes (R206 to R208, R235) -/

/-- A unit without what the causes on it, its stop and its standstill set. -/
def GlmUnit.settled (v : GlmUnit) : GlmUnit :=
  { v with causes := [], stop := none, stopAt := 0, sto := false, deliver := false, still := 0, recorded := [], intervals := [], present := []
           stops := 0 }

/-- The Glume without the records that raising a cause writes. -/
def GlumeState.settled (g : GlumeState) : GlumeState := { g with sources := [], units := [], outputs := [] }

/-- In the Glume one state follows from another by causes raised and stops that go on: no cause ends, and of units, sources and outputs only
what belongs to causes, stops and SAFE_CTRL changes. -/
structure OnlyRaises (s t : State) : Prop where
  rest : t.glume.settled = s.glume.settled
  src : ∀ k, (t.gsrc k).settled = (s.gsrc k).settled
  unit : ∀ n, (t.gunit n).settled = (s.gunit n).settled
  fault : ∀ p, (t.safeOut p).fault = (s.safeOut p).fault
  causes : ∀ {n c}, s.hasCause n c → t.hasCause n c

theorem OnlyRaises.refl (s : State) : OnlyRaises s s := ⟨rfl, fun _ => rfl, fun _ => rfl, fun _ => rfl, id⟩

theorem OnlyRaises.trans (h : OnlyRaises s t) (k : OnlyRaises t u) : OnlyRaises s u :=
  ⟨k.rest.trans h.rest, fun n => (k.src n).trans (h.src n), fun n => (k.unit n).trans (h.unit n), fun p => (k.fault p).trans (h.fault p),
    fun hc => k.causes (h.causes hc)⟩

theorem OnlyRaises.faults (h : OnlyRaises s t) : t.glume.faults = s.glume.faults := by
  have e := congrArg GlumeState.faults h.rest
  exact e

theorem OnlyRaises.disagree (h : OnlyRaises s t) : t.glume.disagree = s.glume.disagree := by
  have e := congrArg GlumeState.disagree h.rest
  exact e

theorem OnlyRaises.tpAt (h : OnlyRaises s t) : t.glume.tpAt = s.glume.tpAt := by
  have e := congrArg GlumeState.tpAt h.rest
  exact e

theorem OnlyRaises.safeIn (h : OnlyRaises s t) (p : Nat) : t.safeIn p = s.safeIn p := by
  have e := congrArg GlumeState.inputs h.rest
  exact congrArg (fun l => Table.get {} l p) e

/-- What does not depend on causes, stops and standstill reads the same of a unit before and after. -/
theorem OnlyRaises.unitField (h : OnlyRaises s t) (field : GlmUnit → α) (hf : ∀ v, field v.settled = field v) (n : Nat) :
    field (t.gunit n) = field (s.gunit n) := by
  rw [← hf, h.unit, hf]

theorem OnlyRaises.foldl {f : State → α → State} (hf : ∀ t x, OnlyRaises t (f t x)) (l : List α) (s : State) : OnlyRaises s (l.foldl f s) :=
  List.foldlRecOn l f (.refl s) fun t ht x _ => ht.trans (hf t x)

theorem OnlyRaises.ite {c : Prop} [Decidable c] (h : OnlyRaises s t) (k : OnlyRaises s u) : OnlyRaises s (if c then t else u) := by
  split
  · exact h
  · exact k

/-- The relation reads the Glume alone. -/
theorem OnlyRaises.of_glume (h : OnlyRaises s t) (he : u.glume = t.glume) : OnlyRaises s u := by
  refine ⟨by rw [he, h.rest], fun k => ?_, fun n => ?_, fun p => ?_, fun {n c} hc => ?_⟩
  · rw [← h.src k, State.gsrc, State.gsrc, he]
  · rw [← h.unit n, State.gunit, State.gunit, he]
  · rw [← h.fault p, State.safeOut, State.safeOut, he]
  · have hc' := h.causes hc
    rwa [State.hasCause, State.gunit, he]

theorem OnlyDrives.onlyRaises (h : OnlyDrives s t) : OnlyRaises s t := by
  obtain ⟨_, rfl⟩ := h.eq
  exact ⟨rfl, fun _ => rfl, fun _ => rfl, h.fault, id⟩

theorem OnlyControls.onlyRaises (h : OnlyControls s t) : OnlyRaises s t := by
  obtain ⟨_, _, rfl⟩ := h.eq
  exact ⟨rfl, h.src, fun _ => rfl, fun _ => rfl, id⟩

theorem State.setGunit_onlyRaises {n : Nat} {v : GlmUnit} (hv : v.settled = (s.gunit n).settled)
    (hc : (s.gunit n).causes.map Prod.fst ⊆ v.causes.map Prod.fst) : OnlyRaises s (s.setGunit n v) := by
  refine ⟨rfl, fun _ => rfl, fun m => ?_, fun _ => rfl, fun {m c} h => ?_⟩
  · by_cases hm : m = n
    · rw [hm, State.gunit_setGunit, hv]
    · rw [State.gunit_setGunit_other _ _ hm]
  · by_cases hm : m = n
    · subst hm
      rw [State.hasCause, State.gunit_setGunit]
      exact hc h
    · rwa [State.hasCause, State.gunit_setGunit_other _ _ hm]

theorem State.setPresent_onlyRaises (s : State) (n c : Nat) (on : Bool) : OnlyRaises s (s.setPresent n c on) :=
  State.setGunit_onlyRaises rfl (List.Subset.refl _)

/-- A cause that is present already is not raised again (R208). -/
theorem State.raiseOne_of_hasCause {n c : Nat} (cat : Nat) (h : s.hasCause n c) : s.raiseOne n c cat = s := by
  have hany : (s.gunit n).causes.any (fun x => x.1 == c) = true := by
    obtain ⟨x, hx, rfl⟩ := List.mem_map.mp h
    exact List.any_eq_true.mpr ⟨x, hx, beq_self_eq_true _⟩
  exact if_pos hany

/-- A cause that is not present joins those of its unit; then the outputs and SAFE_CTRL follow, and an event may tell of it. -/
theorem State.raiseOne_of_absent {n c : Nat} (cat : Nat) (h : ¬ s.hasCause n c) : ∃ v : GlmUnit,
    v.causes = (s.gunit n).causes ++ [(c, s.gtc, cat)] ∧ v.settled = (s.gunit n).settled ∧
    (s.raiseOne n c cat).glume = ((s.setGunit n v).driveOutputs.ctrlUnit n).glume := by
  have hany : ¬ (s.gunit n).causes.any (fun x => x.1 == c) = true := fun hx => h (by
    obtain ⟨x, hx, e⟩ := List.any_eq_true.mp hx
    exact List.mem_map.mpr ⟨x, hx, eq_of_beq e⟩)
  unfold State.raiseOne
  extract_lets v₀ _ _ _ v t
  refine ⟨v, rfl, rfl, ?_⟩
  rw [if_neg hany]
  split
  · rfl
  · exact State.event_keeps t _ _ _ _ .glume rfl

theorem State.raiseOne_onlyRaises (s : State) (n c cat : Nat) : OnlyRaises s (s.raiseOne n c cat) := by
  by_cases h : s.hasCause n c
  · rw [State.raiseOne_of_hasCause cat h]
    exact .refl s
  · obtain ⟨v, hcauses, hv, hglume⟩ := State.raiseOne_of_absent cat h
    have hset : OnlyRaises s (s.setGunit n v) := State.setGunit_onlyRaises hv (by simp [hcauses])
    exact ((hset.trans (State.driveOutputs_onlyDrives _).onlyRaises).trans (State.ctrlUnit_onlyControls _ n).onlyRaises).of_glume hglume

theorem State.raiseOne_hasCause (s : State) (n c cat : Nat) : (s.raiseOne n c cat).hasCause n c := by
  by_cases h : s.hasCause n c
  · rwa [State.raiseOne_of_hasCause cat h]
  · obtain ⟨v, hcauses, -, hglume⟩ := State.raiseOne_of_absent cat h
    rw [State.hasCause, State.gunit, hglume]
    change c ∈ (((s.setGunit n v).driveOutputs.ctrlUnit n).gunit n).causes.map Prod.fst
    rw [(State.ctrlUnit_onlyControls _ n).gunit, (State.driveOutputs_onlyDrives _).gunit, State.gunit_setGunit, hcauses]
    simp

theorem State.cutOff_raiseOne {p : Nat} (n c cat : Nat) (h : s.cutOff p) : (s.raiseOne n c cat).cutOff p := by
  by_cases hc : s.hasCause n c
  · rwa [State.raiseOne_of_hasCause cat hc]
  · obtain ⟨v, -, -, hglume⟩ := State.raiseOne_of_absent cat hc
    have hdriven : (s.setGunit n v).driveOutputs.cutOff p := State.cutOff_driveOutputs (s := s.setGunit n v) h
    obtain ⟨_, _, hctrl⟩ := (State.ctrlUnit_onlyControls (s.setGunit n v).driveOutputs n).eq
    rw [State.cutOff, State.pairOff, State.safeOut, hglume, hctrl]
    exact hdriven

theorem State.raiseCause_onlyRaises (s : State) (n c cat : Nat) : OnlyRaises s (s.raiseCause n c cat) := by
  refine (s.raiseOne_onlyRaises n c cat).trans (.ite (.foldl (fun t g => ?_) _ _) (.refl _))
  exact .ite (t.raiseOne_onlyRaises _ c cat) (.refl t)

theorem State.raiseCause_hasCause (s : State) (n c cat : Nat) : (s.raiseCause n c cat).hasCause n c := by
  have hgroups : OnlyRaises (s.raiseOne n c cat) (s.raiseCause n c cat) :=
    .ite (.foldl (fun t g => .ite (t.raiseOne_onlyRaises _ c cat) (.refl t)) _ _) (.refl _)
  exact hgroups.causes (s.raiseOne_hasCause n c cat)

/-- A cause marked "Reset" raised with its condition noted as present (R207). -/
theorem State.setPresent_raiseOne_onlyRaises (s : State) (n c cat : Nat) : OnlyRaises s ((s.setPresent n c true).raiseOne n c cat) :=
  (s.setPresent_onlyRaises n c true).trans (State.raiseOne_onlyRaises _ n c cat)

theorem State.setPresent_raiseCause_onlyRaises (s : State) (n c cat : Nat) : OnlyRaises s ((s.setPresent n c true).raiseCause n c cat) :=
  (s.setPresent_onlyRaises n c true).trans (State.raiseCause_onlyRaises _ n c cat)

/-- A fold that raises a cause on each unit of a list has it on all of them. -/
theorem foldl_hasCause {f : State → Nat → State} {c : Nat} (hf : ∀ t n, OnlyRaises t (f t n)) (hc : ∀ t n, (f t n).hasCause n c)
    {l : List Nat} {n : Nat} (hn : n ∈ l) (s : State) : (l.foldl f s).hasCause n c :=
  foldl_reaches (R := fun _ => True) (P := fun t => t.hasCause n c) hn trivial (fun _ _ _ => trivial) (fun t _ => hc t n)
    (fun t m ht => (hf t m).causes ht)

/-! ### Faults of the Glume (R198, R222, R228, R249) -/

/-- The state with a fault of the Glume noted and no cause raised for it yet. -/
def State.faultNoted (s : State) (which : Nat) : State :=
  { s with glume := { s.glume with faults := if s.glume.faults.contains which then s.glume.faults else s.glume.faults ++ [which] } }

theorem State.glumeFault_eq (s : State) (which : Nat) : s.glumeFault which =
    s.units.foldl (fun t n => t.raiseOne n causeGlume s.block.faultCat) (s.faultNoted which) := rfl

theorem State.glumeFault_onlyRaises (s : State) (which : Nat) : OnlyRaises (s.faultNoted which) (s.glumeFault which) := by
  rw [State.glumeFault_eq]
  exact .foldl (fun t n => t.raiseOne_onlyRaises n _ _) _ _

theorem State.mem_faultNoted (s : State) (which : Nat) : which ∈ (s.faultNoted which).glume.faults := by
  simp only [State.faultNoted]
  split
  next h => exact List.contains_iff_mem.mp h
  next => simp

/-- A fault of the Glume stands in its list, and raises GLUME_FAULT on every arm and group. -/
theorem State.glumeFault_spec (s : State) (which : Nat) :
    which ∈ (s.glumeFault which).glume.faults ∧ ∀ n ∈ s.units, (s.glumeFault which).hasCause n causeGlume := by
  refine ⟨?_, fun n hn => ?_⟩
  · rw [(s.glumeFault_onlyRaises which).faults]
    exact s.mem_faultNoted which
  · rw [State.glumeFault_eq]
    exact foldl_hasCause (fun t n => t.raiseOne_onlyRaises n _ _) (fun t n => t.raiseOne_hasCause n _ _) hn _

theorem State.cutOff_glumeFault {p : Nat} (which : Nat) (h : s.cutOff p) : (s.glumeFault which).cutOff p := by
  rw [State.glumeFault_eq]
  exact List.foldlRecOn (motive := fun t : State => t.cutOff p) s.units _ h fun _ ht n _ => State.cutOff_raiseOne n _ _ ht

end Sys2Proof.Machine
end

section
/-! SUPPORT. The Glume's inputs (R210 to R214, R238, R240): the tests of a safety telegram in their order, what an accepted one and a late
source leave, and the safe inputs and outputs. -/

namespace Sys2Proof.Machine

variable {s t : State} {n k : Nat} {bs : List Byte}

/-! ### The tests of a telegram (R210, R211, R213) -/

/-- The length or the check of a telegram is wrong. -/
def misframed (bs : List Byte) : Bool :=
  bs.length != 16 + be bs 10 2 || decide (1480 < be bs 10 2) ||
    be bs (12 + be bs 10 2) 4 != telegramCheck (be bs 0 2) (be bs 6 2) (bs.take (12 + be bs 10 2))

/-- The telegram is addressed elsewhere, or is not of the type of its source. -/
def misaddressed (b : GlmBlock) (k : Nat) (bs : List Byte) : Bool :=
  be bs 2 2 != b.addr || !(if (b.sources.getD k {}).kind = 0 then be bs 4 1 == 1 else be bs 4 1 == 2)

/-- The sequence number is not ahead of the last one, or is too far ahead. -/
def outOfSequence (b : GlmBlock) (last : Option Nat) (seq : Nat) : Bool :=
  (last.map (fun q => (seq + 65536 - q) % 65536 == 0 || decide (b.seqWin < (seq + 65536 - q) % 65536))).getD false

/-- The age given is above the source's bound. -/
def overAged (b : GlmBlock) (k : Nat) (bs : List Byte) : Bool :=
  decide ((if (b.sources.getD k {}).kind = 1 then (b.sources.getD k {}).maxAgeUs else 1000) < be bs 8 2)

/-- The joint records of a JOINT_STATE telegram: axis, position and velocity. -/
def jointsOf (bs : List Byte) : List (Nat × Int × Int) :=
  (List.range (be bs 12 1)).map (fun i => (be bs (14 + 14 * i) 2, toS 64 (be bs (16 + 14 * i) 8), toS 32 (be bs (24 + 14 * i) 4)))

/-- The axis is that of a joint whose source is `k`. -/
def GlmBlock.servedBy (b : GlmBlock) (k ax : Nat) : Bool := b.arms.any (fun a => a.joints.any (fun j => j.axis == ax && j.src == k))

/-- The body of a JOINT_STATE telegram is well formed. -/
def jointsFormed (b : GlmBlock) (k : Nat) (bs : List Byte) : Bool :=
  be bs 5 1 == 0 && decide (1 ≤ be bs 12 1) && decide (be bs 12 1 ≤ 32) && be bs 10 2 == 2 + 14 * be bs 12 1 &&
    (jointsOf bs).all (fun q => b.servedBy k q.1)

theorem misframed_iff : misframed bs = true ↔ ¬ Intact bs := by
  rw [← Bool.not_eq_false, not_iff_not]
  simp [misframed, Intact, and_assoc]

theorem misaddressed_iff {b : GlmBlock} : misaddressed b k bs = true ↔ ¬ Addressed b k bs := by
  rw [← Bool.not_eq_false, not_iff_not]
  simp only [misaddressed, Addressed]
  split <;> simp

theorem outOfSequence_iff {b : GlmBlock} {last : Option Nat} {seq : Nat} : outOfSequence b last seq = true ↔ ¬ InSequence b last seq := by
  rw [← Bool.not_eq_false, not_iff_not]
  cases last <;> simp [outOfSequence, InSequence]

theorem overAged_iff {b : GlmBlock} : overAged b k bs = true ↔ ¬ FreshEnough b k bs := by
  rw [← Bool.not_eq_false, not_iff_not]
  simp [overAged, FreshEnough]

theorem jointsFormed_iff {b : GlmBlock} : jointsFormed b k bs = true ↔ JointsFormed b k bs := by
  simp [jointsFormed, JointsFormed, jointsOf, GlmBlock.servedBy, and_assoc]

/-- The state with a JOINT_STATE telegram accepted and its joints not yet acted on; only a scan leaves a fault of its source standing. -/
def jointsAccepted (k : Nat) (bs : List Byte) (st : Nat) (s : State) : State :=
  s.setGsrc k { s.gsrc k with
    accepted := wrap 32 ((s.gsrc k).accepted + 1), seq := some (be bs 6 2), last := st, timedOut := false, faulty := false }

/-- What a JOINT_STATE telegram that has passed every test but that of its body does. -/
def jointsReceived (k : Nat) (bs : List Byte) (st : Nat) (s : State) : State :=
  if !jointsFormed s.block k bs then s.setGsrc k { s.gsrc k with badForm := wrap 32 ((s.gsrc k).badForm + 1) }
  else acceptJoints k (st / s.tickLen) (jointsOf bs) (jointsAccepted k bs st s)

theorem telegram_of_unknown (st : Nat) (hk : s.block.sourceOf (be bs 0 2) = none) : telegram bs st s = s := by
  unfold telegram
  dsimp only
  rw [show s.block.sourceOf (ofBE (octets bs 0 2)) = none from hk]

/-- A telegram of a known source meets the tests in their order; the first that fails counts it and does nothing else. -/
theorem telegram_eq (st : Nat) (hk : s.block.sourceOf (be bs 0 2) = some k) : ∃ u, telegram bs st s =
      (if misframed bs then s.setGsrc k { s.gsrc k with badCheck := wrap 32 ((s.gsrc k).badCheck + 1) }
      else if misaddressed s.block k bs then s.setGsrc k { s.gsrc k with badAddr := wrap 32 ((s.gsrc k).badAddr + 1) }
      else if outOfSequence s.block (s.gsrc k).seq (be bs 6 2) then s.setGsrc k { s.gsrc k with badSeq := wrap 32 ((s.gsrc k).badSeq + 1) }
      else if overAged s.block k bs then s.setGsrc k { s.gsrc k with badAge := wrap 32 ((s.gsrc k).badAge + 1) }
      else u) ∧
    (be bs 4 1 = 1 → u = jointsReceived k bs st s) := by
  unfold telegram
  dsimp only
  rw [show s.block.sourceOf (ofBE (octets bs 0 2)) = some k from hk]
  refine ⟨_, rfl, fun h => ?_⟩
  simp only [show ofBE (octets bs 4 1) = 1 from h, if_true, Nat.reduceBEq, Bool.and_false, Bool.false_and]
  rfl

/-- A JOINT_STATE telegram that passes the tests of its frame, address, number and age is tested for its body. -/
theorem telegram_of_joints (st : Nat) (hk : s.block.sourceOf (be bs 0 2) = some k) (h1 : Intact bs) (h2 : Addressed s.block k bs)
    (h3 : InSequence s.block (s.gsrc k).seq (be bs 6 2)) (h4 : FreshEnough s.block k bs) (hjs : be bs 4 1 = 1) :
    telegram bs st s = jointsReceived k bs st s := by
  obtain ⟨u, e, hu⟩ := telegram_eq st hk
  simp only [e, misframed_iff, misaddressed_iff, outOfSequence_iff, overAged_iff, h1, h2, h3, h4, not_true_eq_false, if_false, hu hjs]

/-! ### Accepted joints (R201, R203, R204, R213, R217) -/

/-- What does not depend on SAFE_CTRL reads the same of a source before and after causes are raised. -/
theorem OnlyRaises.srcField {α : Type} (h : OnlyRaises s t) (field : GlmSrcState → α) (hf : ∀ v, field v.settled = field v) (n : Nat) :
    field (t.gsrc n) = field (s.gsrc n) := by
  rw [← hf, h.src, hf]

theorem jointRecord_onlyRaises (j : GlmJoint) (rx : Nat) (pos : Int) (s : State) : OnlyRaises s (jointRecord n j rx pos s) := by
  unfold jointRecord
  extract_lets b lag off dev t₁ t₂ v out t₃ lost
  have h₁ : OnlyRaises s t₁ := s.setPresent_onlyRaises _ _ _
  have h₂ : OnlyRaises t₁ t₂ := .ite (t₁.raiseCause_onlyRaises _ _ _) (.refl t₁)
  have h₃ : OnlyRaises t₂ t₃ := .ite (t₂.raiseCause_onlyRaises _ _ _) (.refl t₂)
  exact ((h₁.trans h₂).trans h₃).trans (.ite (t₃.raiseCause_onlyRaises _ _ _) (.refl t₃))

theorem standing_onlyRaises (a : GlmArm) (s : State) : OnlyRaises s (standing a s) := by
  unfold standing
  extract_lets m v all still t
  have ht : OnlyRaises s t := State.setGunit_onlyRaises rfl (List.Subset.refl _)
  have hsto : OnlyRaises t (t.updGunit m (fun v => { v with sto := true })) := State.setGunit_onlyRaises rfl (List.Subset.refl _)
  have hended := (hsto.trans (State.driveOutputs_onlyDrives _).onlyRaises).trans (State.ctrlUnit_onlyControls _ m).onlyRaises
  exact ht.trans (.ite hended (.ite (State.setGunit_onlyRaises rfl (List.Subset.refl _)) (.refl t)))

/-- Once the joints are stored, acting on them raises causes and ends stops. -/
theorem acceptJoints_onlyRaises (k rx : Nat) (recs : List (Nat × Int × Int)) (s : State) :
    OnlyRaises (s.updGsrc k (fun v => { v with joints := (v.joints.filter (fun r => !recs.any (fun q => q.1 == r.1))) ++ recs }))
      (acceptJoints k rx recs s) := by
  unfold acceptJoints
  extract_lets t b u
  have hu : OnlyRaises t u := .foldl (fun v r => .foldl (fun w a => by
    split
    · exact jointRecord_onlyRaises _ _ _ w
    · exact .refl w) _ v) _ t
  exact hu.trans (.foldl (fun v a => .ite (standing_onlyRaises a v) (.refl v)) _ u)

/-- The source of an accepted JOINT_STATE counts it and takes its number, its stamp and its joints. -/
theorem gsrc_acceptJoints_jointsAccepted (k : Nat) (bs : List Byte) (st rx : Nat) (s : State) :
    let v := (acceptJoints k rx (jointsOf bs) (jointsAccepted k bs st s)).gsrc k
    v.accepted = wrap 32 ((s.gsrc k).accepted + 1) ∧ v.seq = some (be bs 6 2) ∧ v.last = st ∧ v.timedOut = false ∧
      ∀ q ∈ jointsOf bs, q ∈ v.joints := by
  have hraises := acceptJoints_onlyRaises k rx (jointsOf bs) (jointsAccepted k bs st s)
  dsimp only
  rw [hraises.srcField GlmSrcState.accepted (fun _ => rfl), hraises.srcField GlmSrcState.seq (fun _ => rfl),
    hraises.srcField GlmSrcState.last (fun _ => rfl), hraises.srcField GlmSrcState.timedOut (fun _ => rfl),
    hraises.srcField GlmSrcState.joints (fun _ => rfl), State.updGsrc_eq, State.gsrc_setGsrc, jointsAccepted, State.gsrc_setGsrc]
  exact ⟨rfl, rfl, rfl, rfl, fun q hq => List.mem_append_right _ hq⟩

/-! ### Late sources (R212) -/

theorem sensorFault_onlyRaises (k : Nat) (s : State) : OnlyRaises s (sensorFault k s) :=
  .foldl (fun t m => t.setPresent_raiseCause_onlyRaises m _ _) _ s

theorem sensorFault_hasCause (s : State) (h : n ∈ maskUnits (s.block.sources.getD k {}).armMask 0) : (sensorFault k s).hasCause n causeSensor :=
  foldl_hasCause (fun t m => t.setPresent_raiseCause_onlyRaises m _ _)
    (fun _ m => State.raiseCause_hasCause _ m _ _) h s

/-- DRIVE_FAULT on every unit that a drive source serves. -/
def driveFault (k : Nat) (s : State) : State :=
  ((s.ctrlAxes k).map Prod.snd).eraseDups.foldl (fun t m => (t.setPresent m causeDrive true).raiseOne m causeDrive s.block.faultCat) s

theorem driveFault_onlyRaises (k : Nat) (s : State) : OnlyRaises s (driveFault k s) :=
  .foldl (fun t m => t.setPresent_raiseOne_onlyRaises m _ _) _ s

theorem driveFault_hasCause {p : Nat × Nat} (s : State) (h : p ∈ s.ctrlAxes k) : (driveFault k s).hasCause p.2 causeDrive :=
  foldl_hasCause (fun t m => t.setPresent_raiseOne_onlyRaises m _ _)
    (fun _ m => State.raiseOne_hasCause _ m _ _) (List.mem_eraseDups.mpr (List.mem_map_of_mem h)) s

/-- The state with a source noted as late. -/
def sourceLate (k : Nat) (s : State) : State :=
  s.updGsrc k (fun v => { v with timedOut := true, seq := none, timeouts := wrap 32 (v.timeouts + 1) })

/-- The fault of a late source: that of a sensor or of a drive. -/
def lateFault (k : Nat) (s : State) : State := if (s.block.sources.getD k {}).kind = 1 then sensorFault k s else driveFault k s

theorem execSourceTimeout_of_source (hk : k < s.block.sources.length) : execSourceTimeout k s = .next (lateFault k (sourceLate k s)) := by
  unfold execSourceTimeout
  dsimp only
  rw [if_neg hk.not_ge]
  exact (apply_ite Host.Outcome.next _ _ _).symm

theorem lateFault_onlyRaises (k : Nat) (s : State) : OnlyRaises s (lateFault k s) :=
  .ite (sensorFault_onlyRaises k s) (driveFault_onlyRaises k s)

theorem gsrc_lateFault_sourceLate (k : Nat) (s : State) :
    let v := (lateFault k (sourceLate k s)).gsrc k
    v.timedOut = true ∧ v.seq = none ∧ v.timeouts = wrap 32 ((s.gsrc k).timeouts + 1) := by
  have hraises := lateFault_onlyRaises k (sourceLate k s)
  dsimp only
  rw [hraises.srcField GlmSrcState.timedOut (fun _ => rfl), hraises.srcField GlmSrcState.seq (fun _ => rfl),
    hraises.srcField GlmSrcState.timeouts (fun _ => rfl), sourceLate, State.updGsrc_eq, State.gsrc_setGsrc]
  exact ⟨rfl, rfl, rfl⟩

/-! ### Safe inputs (R238) -/

/-- What a sample does to the pair of one input record. -/
def sampleInput (a b : Nat) (s : State) (i : GlmInput) : State :=
  s.updSafeIn i.pair (SafeIn.sample i (s.inPulse i.tp) (bitAt a i.pair) (bitAt b i.pair))

theorem safeIn_sampleInput_other (a b : Nat) (s : State) (i : GlmInput) {p : Nat} (h : p ≠ i.pair) :
    (sampleInput a b s i).safeIn p = s.safeIn p := State.safeIn_setSafeIn_other s _ h

/-- After a sample each pair with one record of its own has been sampled in the state before. -/
theorem safeIn_sampled {i : GlmInput} (a b : Nat) (hnodup : (s.block.inputs.map (fun i => i.pair)).Nodup) (hi : i ∈ s.block.inputs) :
    (s.block.inputs.foldl (sampleInput a b) s).safeIn i.pair =
      SafeIn.sample i (s.inPulse i.tp) (bitAt a i.pair) (bitAt b i.pair) (s.safeIn i.pair) := by
  obtain ⟨t, ⟨l, ht⟩, hsame, hturn⟩ := foldl_get_turn (key := fun i => i.pair) (get := State.safeIn) (x := i)
    (R := fun t => ∃ l, t = { s with glume := { s.glume with inputs := l } })
    (fun t y => safeIn_sampleInput_other a b t y) ⟨s.glume.inputs, rfl⟩ (fun t y ⟨l, h⟩ => by rw [h]; exact ⟨_, rfl⟩) hnodup hi
  have hpulse : t.inPulse i.tp = s.inPulse i.tp := by rw [ht]; rfl
  rw [hturn, sampleInput, State.updSafeIn_eq, State.safeIn_setSafeIn, hsame, hpulse]

/-- A channel that reads closed is not open; one that reads open outside a test pulse counts as open once it has for the filter time. -/
theorem sample_spec (i : GlmInput) (tested a b : Bool) (v : SafeIn) :
    let w := SafeIn.sample i tested a b v
    (a = true → w.openA = 0 ∧ w.isOpenA = false) ∧
    (a = false → tested = false → w.openA = v.openA + 10 ∧ w.isOpenA = decide (i.filtUs ≤ v.openA + 10)) ∧
    (b = !i.antivalent → w.openB = 0 ∧ w.isOpenB = false) ∧
    (b = i.antivalent → tested = false → w.openB = v.openB + 10 ∧ w.isOpenB = decide (i.filtUs ≤ v.openB + 10)) := by
  refine ⟨fun ha => ?_, fun ha ht => ?_, fun hb => ?_, fun hb ht => ?_⟩
  · simp [SafeIn.sample, ha]
  · simp [SafeIn.sample, ha, ht]
  · cases h : i.antivalent <;> simp [SafeIn.sample, hb, h]
  · cases h : i.antivalent <;> simp [SafeIn.sample, hb, h, ht]

theorem inputFault_onlyRaises (i : GlmInput) (s : State) :
    OnlyRaises (s.updSafeIn i.pair (fun v => { v with fault := true })) (inputFault i s) :=
  .foldl (fun t m => t.setPresent_raiseOne_onlyRaises m _ _) _ _

theorem inputFault_hasCause {i : GlmInput} (h : n ∈ i.units) (s : State) : (inputFault i s).hasCause n causeInput :=
  foldl_hasCause (fun t m => t.setPresent_raiseOne_onlyRaises m _ _)
    (fun _ m => State.raiseOne_hasCause _ m _ _) h _

/-- INPUT_FAULT marks its pair. -/
theorem safeIn_inputFault (i : GlmInput) (s : State) : ((inputFault i s).safeIn i.pair).fault = true := by
  rw [(inputFault_onlyRaises i s).safeIn, State.updSafeIn_eq, State.safeIn_setSafeIn]

/-! ### Test pulses of inputs (R238) -/

/-- One of a pair's channels has not seen a test pulse. -/
def missesPulse (a b p : Nat) : Bool := !bitAt a p || !bitAt b p

/-- What a test pulse of output `k` does with one input record. -/
def pulseInput (k a b : Nat) (s : State) (i : GlmInput) : State :=
  if i.tp = k ∧ i.function ≠ 0 then
    let s := s.updSafeIn i.pair (fun v => { v with missed := missesPulse a b i.pair })
    if missesPulse a b i.pair then inputFault i s else s
  else s

/-- A safe input once a test pulse has been read on its pair. -/
def SafeIn.pulsed (missed : Bool) (v : SafeIn) : SafeIn := { v with missed := missed, fault := v.fault || missed }

/-- A test pulse writes the pair of a record that its output feeds, and then at most raises causes. -/
theorem pulseInput_spec (k a b : Nat) (s : State) (i : GlmInput) : ∃ u : State, OnlyRaises u (pulseInput k a b s i) ∧
    (∀ {m c}, s.hasCause m c → u.hasCause m c) ∧ u.glume.tpAt = s.glume.tpAt ∧
    ∀ p, u.safeIn p = if p = i.pair ∧ i.tp = k ∧ i.function ≠ 0 then (s.safeIn p).pulsed (missesPulse a b p) else s.safeIn p := by
  by_cases hfed : i.tp = k ∧ i.function ≠ 0
  case neg => exact ⟨s, by rw [pulseInput, if_neg hfed]; exact .refl s, id, rfl, fun p => (if_neg fun h => hfed h.2).symm⟩
  let t := s.updSafeIn i.pair (fun v => { v with missed := missesPulse a b i.pair })
  have ht : ∀ p, t.safeIn p = if p = i.pair then { s.safeIn p with missed := missesPulse a b p } else s.safeIn p := fun p => by
    split
    next hp => rw [hp]; exact State.safeIn_setSafeIn s _ _
    next hp => exact State.safeIn_setSafeIn_other s _ hp
  have hhit : pulseInput k a b s i = if missesPulse a b i.pair then inputFault i t else t := if_pos hfed
  by_cases hmiss : missesPulse a b i.pair = true
  · refine ⟨t.updSafeIn i.pair (fun v => { v with fault := true }), ?_, id, rfl, fun p => ?_⟩
    · rw [hhit, if_pos hmiss]
      exact inputFault_onlyRaises i t
    · by_cases hp : p = i.pair
      · rw [if_pos ⟨hp, hfed⟩, hp, State.updSafeIn_eq, State.safeIn_setSafeIn, ht, if_pos rfl, SafeIn.pulsed, hmiss, Bool.or_true]
      · rw [if_neg fun h => hp h.1, State.updSafeIn_eq, State.safeIn_setSafeIn_other _ _ hp, ht, if_neg hp]
  · refine ⟨t, ?_, id, rfl, fun p => ?_⟩
    · rw [hhit, if_neg hmiss]
      exact .refl t
    · rw [ht]
      by_cases hp : p = i.pair
      · rw [if_pos hp, if_pos ⟨hp, hfed⟩, hp, SafeIn.pulsed, eq_false_of_ne_true hmiss, Bool.or_false]
      · rw [if_neg hp, if_neg fun h => hp h.1]

theorem safeIn_pulseInput (k a b : Nat) (s : State) (i : GlmInput) (p : Nat) : (pulseInput k a b s i).safeIn p =
    if p = i.pair ∧ i.tp = k ∧ i.function ≠ 0 then (s.safeIn p).pulsed (missesPulse a b p) else s.safeIn p := by
  obtain ⟨u, hu, -, -, hin⟩ := pulseInput_spec k a b s i
  rw [hu.safeIn, hin]

theorem pulseInput_causes {c : Nat} (k a b : Nat) (i : GlmInput) (h : s.hasCause n c) : (pulseInput k a b s i).hasCause n c := by
  obtain ⟨u, hu, hcauses, -⟩ := pulseInput_spec k a b s i
  exact hu.causes (hcauses h)

theorem tpAt_pulseInput (k a b : Nat) (s : State) (i : GlmInput) : (pulseInput k a b s i).glume.tpAt = s.glume.tpAt := by
  obtain ⟨u, hu, -, htp, -⟩ := pulseInput_spec k a b s i
  rw [hu.tpAt, htp]

theorem pulseInput_hasCause {i : GlmInput} {k a b : Nat} (hfed : i.tp = k ∧ i.function ≠ 0) (hmiss : missesPulse a b i.pair = true)
    (hn : n ∈ i.units) (s : State) : (pulseInput k a b s i).hasCause n causeInput := by
  rw [pulseInput, if_pos hfed]
  dsimp only
  rw [if_pos hmiss]
  exact inputFault_hasCause hn _

/-- A test pulse has been read on the pair of an input record; one missed is a fault and a cause on the record's units. -/
def PulseTaken (a b : Nat) (i : GlmInput) (t : State) : Prop :=
  (t.safeIn i.pair).missed = missesPulse a b i.pair ∧
    (missesPulse a b i.pair = true → (t.safeIn i.pair).fault = true ∧ ∀ m ∈ i.units, t.hasCause m causeInput)

theorem pulseInput_taken {i : GlmInput} {k a b : Nat} (hfed : i.tp = k ∧ i.function ≠ 0) (s : State) :
    PulseTaken a b i (pulseInput k a b s i) := by
  rw [PulseTaken, safeIn_pulseInput, if_pos ⟨rfl, hfed⟩]
  exact ⟨rfl, fun hmiss => ⟨by rw [SafeIn.pulsed, hmiss, Bool.or_true], fun m hm => pulseInput_hasCause hfed hmiss hm s⟩⟩

/-- Another record of the same pair reads the same pulse. -/
theorem PulseTaken.pulseInput {i : GlmInput} {a b : Nat} (h : PulseTaken a b i s) (k : Nat) (y : GlmInput) :
    PulseTaken a b i (pulseInput k a b s y) := by
  obtain ⟨hmissed, hfault⟩ := h
  rw [PulseTaken, safeIn_pulseInput]
  split
  · exact ⟨rfl, fun hmiss => ⟨by rw [SafeIn.pulsed, hmiss, Bool.or_true], fun m hm => pulseInput_causes k a b y ((hfault hmiss).2 m hm)⟩⟩
  · exact ⟨hmissed, fun hmiss => ⟨(hfault hmiss).1, fun m hm => pulseInput_causes k a b y ((hfault hmiss).2 m hm)⟩⟩

/-- A test pulse is read on every input that its output feeds. -/
theorem pulseTaken_of_mem {i : GlmInput} {k : Nat} (a b : Nat) {l : List GlmInput} (hi : i ∈ l) (hfed : i.tp = k ∧ i.function ≠ 0)
    (s : State) : PulseTaken a b i (l.foldl (Machine.pulseInput k a b) s) :=
  foldl_reaches (R := fun _ => True) (P := PulseTaken a b i) hi trivial (fun _ _ _ => trivial) (fun t _ => pulseInput_taken hfed t)
    (fun _ y ht => ht.pulseInput k y)

theorem tpAt_foldl_pulseInput (k a b : Nat) (l : List GlmInput) (s : State) : (l.foldl (pulseInput k a b) s).glume.tpAt = s.glume.tpAt :=
  List.foldlRecOn (motive := fun t : State => t.glume.tpAt = s.glume.tpAt) l _ rfl fun t ht i _ => (tpAt_pulseInput k a b t i).trans ht

/-! ### Test pulses of outputs (R240) -/

/-- The state with a fault of a pair noted and its cause raised on the units that the pair serves. -/
def outputFault (o : GlmOutput) (s : State) : State :=
  (s.outputUnits o).foldl (fun t m => (t.setPresent m causeOutput true).raiseCause m causeOutput 0)
    (s.updSafeOut o.pair (fun v => { v with fault := true }))

/-- The state after a test pulse that failed: the pair is off but for the switch that may stay on. -/
def pulseFailed (o : GlmOutput) (high low : Bool) (s : State) : State :=
  (outputFault o s).driveOutputs.updSafeOut o.pair (fun v => { v with high := high, low := low })

theorem outputFault_hasCause {o : GlmOutput} (h : n ∈ s.outputUnits o) : (outputFault o s).hasCause n causeOutput :=
  foldl_hasCause (fun t m => t.setPresent_raiseCause_onlyRaises m _ _)
    (fun _ m => State.raiseCause_hasCause _ m _ _) h _

theorem outputFault_onlyRaises (o : GlmOutput) (s : State) :
    OnlyRaises (s.updSafeOut o.pair (fun v => { v with fault := true })) (outputFault o s).driveOutputs :=
  (OnlyRaises.foldl (fun t m => t.setPresent_raiseCause_onlyRaises m _ _) _ _).trans
    (State.driveOutputs_onlyDrives _).onlyRaises

/-- A pair that fails its test is faulty, and is switched as found. -/
theorem safeOut_pulseFailed (o : GlmOutput) (high low : Bool) (s : State) :
    (pulseFailed o high low s).safeOut o.pair = { fault := true, high := high, low := low } := by
  have hfault := (outputFault_onlyRaises o s).fault o.pair
  rw [State.updSafeOut_eq, State.safeOut_setSafeOut] at hfault
  rw [pulseFailed, State.updSafeOut_eq, State.safeOut_setSafeOut, hfault]

theorem pulseFailed_hasCause {o : GlmOutput} (high low : Bool) (h : n ∈ s.outputUnits o) :
    (pulseFailed o high low s).hasCause n causeOutput := by
  have hdriven : (outputFault o s).driveOutputs.hasCause n causeOutput :=
    (State.driveOutputs_onlyDrives _).onlyRaises.causes (outputFault_hasCause h)
  exact hdriven

/-- A pair that is on in both switches and does not read back as it should fails its test. -/
theorem execOutputTestPulse_of_failed {o : GlmOutput} {h l c : Bool} (ho : s.block.outputs.find? (fun x => x.pair == o.pair) = some o)
    (hh : (s.safeOut o.pair).high = true) (hl : (s.safeOut o.pair).low = true) (hbad : h = false ∨ l = false ∨ c = true) :
    execOutputTestPulse o.pair h l c s = onUnit o.pair 32 (pulseFailed o (c == false && !h && l) (c == false && h && !l) s) := by
  have hfails : ¬ (!((s.safeOut o.pair).high && (s.safeOut o.pair).low) || (h && l && !c)) = true := by
    rcases hbad with hb | hb | hb <;> simp [hh, hl, hb]
  unfold execOutputTestPulse
  dsimp only
  rw [ho]
  dsimp only
  rw [if_neg hfails]
  rfl

/-! ### The rows -/

/-- Settles O52: a telegram goes through `telegram_eq`; causes that a late source, an input or an output raises stand because raising ends
none. -/
theorem glumeTestsTelegramsInputsAndOutputs : Obligations.GlumeTestsTelegramsInputsAndOutputs := by
  unfold Obligations.GlumeTestsTelegramsInputsAndOutputs
  refine ⟨fun bs st s hk => ⟨_, rfl, ?unknown⟩,
    fun bs st k s hk h1 => ⟨_, rfl, ?framed⟩, fun bs st k s hk h1 h2 => ⟨_, rfl, ?addressed⟩,
    fun bs st k s hk h1 h2 h3 => ⟨_, rfl, ?sequence⟩, fun bs st k s hk h1 h2 h3 h4 => ⟨_, rfl, ?aged⟩,
    fun bs st k s hk h1 h2 h3 h4 hjs h5 => ⟨_, rfl, ?formed⟩, fun bs st k s hk h1 h2 h3 h4 hjs h5 => ⟨_, rfl, ?accepted⟩,
    fun k s hk => ⟨_, if_pos hk, rfl⟩, fun k s hk => ⟨_, execSourceTimeout_of_source hk, ?late⟩,
    fun a b s => ⟨_, rfl, ?sampled⟩,
    fun p s hp h => does_of_onUnit rfl hp ?agreed, fun p i s hp hi h => does_of_onUnit rfl hp ?discrepant,
    fun k a b s hk => does_of_onUnit rfl hk ?pulsed,
    fun p h l c s hp hno => does_of_onUnit rfl hp ?quiet, fun p o h l c s hp ho hh hl hbad => ?failed,
    fun p s hp => ⟨onUnit_fault hp, onUnit_fault hp⟩⟩
  case unknown => exact telegram_of_unknown st hk
  case framed =>
    obtain ⟨u, e, -⟩ := telegram_eq st hk
    simp only [e, misframed_iff, h1, not_false_eq_true, if_true]
  case addressed =>
    obtain ⟨u, e, -⟩ := telegram_eq st hk
    simp only [e, misframed_iff, misaddressed_iff, h1, h2, not_true_eq_false, not_false_eq_true, if_true, if_false]
  case sequence =>
    obtain ⟨u, e, -⟩ := telegram_eq st hk
    simp only [e, misframed_iff, misaddressed_iff, outOfSequence_iff, h1, h2, h3, not_true_eq_false, not_false_eq_true, if_true, if_false]
  case aged =>
    obtain ⟨u, e, -⟩ := telegram_eq st hk
    simp only [e, misframed_iff, misaddressed_iff, outOfSequence_iff, overAged_iff, h1, h2, h3, h4, not_true_eq_false, not_false_eq_true,
      if_true, if_false]
  case formed =>
    rw [telegram_of_joints st hk h1 h2 h3 h4 hjs, jointsReceived, if_pos (by rw [eq_false_of_ne_true (mt jointsFormed_iff.mp h5)]; rfl)]
  case accepted =>
    have hframe := (telegram_keeps bs st s).touches [.jrnl, .host, .wnw, .glume, .out] (by decide)
    rw [telegram_of_joints st hk h1 h2 h3 h4 hjs, jointsReceived, if_neg (by rw [jointsFormed_iff.mpr h5]; decide)] at hframe ⊢
    obtain ⟨hcount, hseq, hlast, htime, hjoints⟩ := gsrc_acceptJoints_jointsAccepted k bs st (st / s.tickLen) s
    exact ⟨hcount, hseq, hlast, htime, fun i hi => hjoints _ (List.mem_map_of_mem (List.mem_range.mpr hi)), hframe⟩
  case late =>
    obtain ⟨htimed, hseq, hcount⟩ := gsrc_lateFault_sourceLate k s
    refine ⟨htimed, hseq, hcount, fun hkind u hu => ?_, fun hkind p hp => ?_,
      (execSourceTimeout_keeps k s _ (execSourceTimeout_of_source hk)).touches _ (by decide)⟩
    · rw [lateFault, if_pos (show ((sourceLate k s).block.sources.getD k {}).kind = 1 from hkind)]
      exact sensorFault_hasCause _ hu
    · rw [lateFault, if_neg (show ¬ ((sourceLate k s).block.sources.getD k {}).kind = 1 from hkind)]
      exact driveFault_hasCause _ hp
  case sampled =>
    refine ⟨(execSafeInputSample_keeps a b s _ rfl).touches _ (by decide), fun p hp => ?_, fun hnodup i hi => ?_⟩
    · exact foldl_get_other (key := fun i => i.pair) (get := State.safeIn) (fun t y => safeIn_sampleInput_other a b t y) hp s
    · have hsampled := safeIn_sampled a b hnodup hi
      obtain ⟨hclosedA, hopenA, hclosedB, hopenB⟩ :=
        sample_spec i (s.inPulse i.tp) (bitAt a i.pair) (bitAt b i.pair) (s.safeIn i.pair)
      rw [← hsampled] at hclosedA hopenA hclosedB hopenB
      exact ⟨hclosedA, hopenA, hclosedB, hopenB⟩
  case agreed =>
    rcases h with hnone | hsame
    · rw [hnone]
    · split
      · exact if_pos hsame
      · rfl
  case discrepant =>
    have hframe := (execDiscrepancyTimeout_keeps p s _ (onUnit_next hp)).touches [.jrnl, .host, .wnw, .glume, .out] (by decide)
    rw [hi] at hframe ⊢
    dsimp only at hframe ⊢
    rw [if_neg h] at hframe ⊢
    have hpair : i.pair = p := by simpa using List.find?_some hi
    exact ⟨hpair ▸ safeIn_inputFault i s, fun u hu => inputFault_hasCause hu s, hframe⟩
  case pulsed =>
    let t : State := { s with glume := { s.glume with tpAt := Table.set 0 s.glume.tpAt k s.gtc } }
    refine ⟨?_, fun i hi htp hfn => ?_⟩
    · exact (congrArg (fun l => Table.get 0 l k) (tpAt_foldl_pulseInput k a b s.block.inputs t)).trans (Table.get_set_same 0 _ k _)
    · obtain ⟨hmissed, hfault⟩ := pulseTaken_of_mem a b hi ⟨htp, hfn⟩ t
      refine ⟨hmissed.trans (Bool.not_and _ _).symm, fun hno => hfault ?_⟩
      rcases hno with h | h <;> simp [missesPulse, h]
  case quiet =>
    rcases hno with hnone | hno
    · rw [hnone]
    · split
      · rfl
      · exact if_pos (by rcases hno with hh | hl | ⟨hh, hl, hc⟩ <;> simp [*])
  case failed =>
    obtain rfl : o.pair = p := by simpa using List.find?_some ho
    refine does_of_onUnit (execOutputTestPulse_of_failed ho hh hl hbad) hp ?_
    rw [safeOut_pulseFailed]
    exact ⟨rfl, by simp [and_assoc], by simp [and_assoc], fun u hu => pulseFailed_hasCause _ _ hu⟩

end Sys2Proof.Machine
end

section
/-! SUPPORT. The Glume's cycle (R198, R201, R221, R222, R228 to R234, R246, R249): what a disagreement of the channels leaves, how the
cleared window and the candidate are judged, and the end of a category 1 stop. -/

namespace Sys2Proof.Machine

variable {s : State} {n : Nat} {r : GlmResult}

/-! ### A unit written twice -/

theorem gunit_setGunit_twice (s : State) (n : Nat) (v w : GlmUnit) : ((s.setGunit n v).setGunit n w).gunit n = w := State.gunit_setGunit _ n w

theorem setGunit_twice_other (v w : GlmUnit) {m : Nat} (h : m ≠ n) : ((s.setGunit n v).setGunit n w).gunit m = s.gunit m := by
  rw [State.gunit_setGunit_other _ _ h, State.gunit_setGunit_other _ _ h]

theorem setGunit_twice_touches (v w : GlmUnit) : Touches [.glume] s ((s.setGunit n v).setGunit n w) :=
  ((State.setGunit_keeps s n v).trans (State.setGunit_keeps _ n w)).touches _ (by decide)

/-! ### Disagreements (R228) -/

/-- The state with a disagreement counted on a unit, and no fault of the Glume raised for it. -/
def disagreeCounted (n : Nat) (s : State) : State :=
  ({ s with glume := { s.glume with disagree := wrap 32 (s.glume.disagree + 1) } }).updGunit n (fun v =>
    { v with disagreed := some s.glume.cycle })

theorem disagree_eq (n : Nat) (s : State) : disagree n s =
    if (s.gunit n).disagreed.map (· + 1) = some s.glume.cycle then (disagreeCounted n s).glumeFault 4 else disagreeCounted n s := rfl

theorem gunit_disagreeCounted (n : Nat) (s : State) :
    (disagreeCounted n s).gunit n = { s.gunit n with disagreed := some s.glume.cycle } :=
  State.gunit_setGunit _ n _

/-- Whether or not a disagreement is a fault, what it counts stands. -/
theorem disagree_onlyRaises (n : Nat) (s : State) : ∃ u : State, OnlyRaises u (disagree n s) ∧
    u.glume.disagree = (disagreeCounted n s).glume.disagree ∧ ∀ m, u.gunit m = (disagreeCounted n s).gunit m := by
  rw [disagree_eq]
  split
  · exact ⟨_, State.glumeFault_onlyRaises _ 4, rfl, fun _ => rfl⟩
  · exact ⟨_, .refl _, rfl, fun _ => rfl⟩

/-- A disagreement in consecutive cycles is a fault of the Glume. -/
theorem disagree_spec (n : Nat) (s : State) :
    (disagree n s).glume.disagree = wrap 32 (s.glume.disagree + 1) ∧ ((disagree n s).gunit n).disagreed = some s.glume.cycle ∧
    ((s.gunit n).disagreed.map (· + 1) = some s.glume.cycle →
      4 ∈ (disagree n s).glume.faults ∧ ∀ m ∈ s.units, (disagree n s).hasCause m causeGlume) := by
  obtain ⟨u, hu, hcount, hunit⟩ := disagree_onlyRaises n s
  refine ⟨hu.disagree.trans hcount, ?_, fun htwice => ?_⟩
  · have hd : ((disagree n s).gunit n).disagreed = (u.gunit n).disagreed := hu.unitField GlmUnit.disagreed (fun _ => rfl) n
    rw [hd, hunit, gunit_disagreeCounted]
  · rw [disagree_eq, if_pos htwice]
    exact (disagreeCounted n s).glumeFault_spec 4

/-- A disagreement leaves what the unit has proposed. -/
theorem proposed_disagree (n : Nat) (s : State) : ((disagree n s).gunit n).proposed = (s.gunit n).proposed := by
  obtain ⟨u, hu, -, hunit⟩ := disagree_onlyRaises n s
  have hp : ((disagree n s).gunit n).proposed = (u.gunit n).proposed := hu.unitField GlmUnit.proposed (fun _ => rfl) n
  rw [hp, hunit, gunit_disagreeCounted]
  rfl

/-! ### Results of the channels (R228 to R232) -/

/-- Whether the human volumes count for a unit: its arm is in mode COLLAB (R234). -/
def State.collab (s : State) (n : Nat) : Bool := (Table.get (0, 0) s.glume.modes n).1 == 2

/-- The human volumes as judged: outside mode COLLAB they pass. -/
def humanJudged (s : State) (n : Nat) (r : GlmResult) : Bool × Bool := if s.collab n then judge r.mHuman r.oHuman else (true, false)

/-- The state once the results of the channels are cross-checked. -/
def crossChecked (n : Nat) (r : GlmResult) (s : State) : State :=
  let u := s.updGunit n (fun v => { v with window := r.fail })
  if (humanJudged s n r).2 || (judge r.mKeep r.oKeep).2 then disagree n u else u

/-- A kind of volume passes in both channels, which agree, and the window could be computed. -/
def clears (j : Bool × Bool) (r : GlmResult) : Bool := j.1 && !j.2 && r.fail == 0

/-- What the cleared window raises. -/
def windowChecked (n : Nat) (okHuman okKeep : Bool) (cat : Nat) (s : State) : State :=
  let s := s.setPresent n causeKeepout (!okKeep)
  let s := if okHuman then s else s.raiseCause n causeSeparation cat
  if okKeep then s else s.raiseCause n causeKeepout cat

/-- A unit whose candidate is dropped. -/
def GlmUnit.dropped (v : GlmUnit) : GlmUnit :=
  { v with result := some (0, 0), passed := false, raise := 0, passes := Table.set 0 v.passes causeSeparation 0 }

/-- What the candidate gives for the next delivery. -/
def candidateChecked (n : Nat) (r : GlmResult) (ok : Bool) (b : GlmBlock) (collab : Bool) (s : State) : State :=
  let v : GlmUnit := { s.gunit n with margin := r.mHuman }
  if !ok ∨ v.proposed = 0 then s.setGunit n v.dropped
  else match nextFactor b collab r.mHuman r.oGrade v with
    | some (f, w) => s.setGunit n { w with
        result := some (v.proposed, f), passed := true, passes := Table.upd 0 w.passes causeSeparation (· + 1) }
    | none => disagree n (s.setGunit n v.dropped)

theorem channelResult_eq (n : Nat) (r : GlmResult) (s : State) : channelResult n r s =
    if !r.cand then
      windowChecked n (clears (humanJudged s n r) r) (clears (judge r.mKeep r.oKeep) r) s.block.pstopCat (crossChecked n r s)
    else candidateChecked n r (clears (humanJudged s n r) r && clears (judge r.mKeep r.oKeep) r) s.block (s.collab n) (crossChecked n r s) := rfl

theorem channelResult_window (hc : r.cand = false) : channelResult n r s =
    windowChecked n (clears (humanJudged s n r) r) (clears (judge r.mKeep r.oKeep) r) s.block.pstopCat (crossChecked n r s) := by
  rw [channelResult_eq, if_pos (by rw [hc]; rfl)]

theorem channelResult_candidate (hc : r.cand = true) : channelResult n r s =
    candidateChecked n r (clears (humanJudged s n r) r && clears (judge r.mKeep r.oKeep) r) s.block (s.collab n) (crossChecked n r s) := by
  rw [channelResult_eq, if_neg (by rw [hc]; nofun)]

/-! ### How volumes are judged -/

theorem State.collab_iff : s.collab n = true ↔ (Table.get (0, 0) s.glume.modes n).1 = 2 := beq_iff_eq

/-- A volume with distance that no channel finds overlapped passes without a disagreement. -/
theorem judge_of_clear {m : Int} (hm : 0 ≤ m) : judge m false = (true, false) := by
  simp [judge, hm]

theorem judge_of_blocked {m : Int} {o : Bool} (h : m < 0 ∨ o = true) : (judge m o).1 = false := by
  rcases h with h | h
  · simp [judge, h]
  · simp [judge, h]

/-- A channel that finds an overlap where the other measures none, or one beyond the tolerance, disagrees. -/
theorem judge_of_disagreed {m : Int} {o : Bool} (h : m < 0 ∧ o = false ∨ 88 < m ∧ o = true) : (judge m o).2 = true := by
  simp only [judge, Bool.or_eq_true, Bool.and_eq_true, decide_eq_true_eq, Bool.not_eq_true']
  exact h

/-- The human volumes pass outside mode COLLAB, and in it where they are clear. -/
theorem humanJudged_of_clear (h : (Table.get (0, 0) s.glume.modes n).1 ≠ 2 ∨ 0 ≤ r.mHuman ∧ r.oHuman = false) :
    humanJudged s n r = (true, false) := by
  unfold humanJudged
  split
  next hc =>
    obtain ⟨hm, ho⟩ := h.resolve_left (not_not_intro (State.collab_iff.mp hc))
    rw [ho, judge_of_clear hm]
  next => rfl

theorem humanJudged_of_blocked (hc : (Table.get (0, 0) s.glume.modes n).1 = 2) (h : r.mHuman < 0 ∨ r.oHuman = true) :
    (humanJudged s n r).1 = false := by
  rw [humanJudged, if_pos (State.collab_iff.mpr hc)]
  exact judge_of_blocked h

theorem clears_of_clear (hf : r.fail = 0) : clears (true, false) r = true := by simp [clears, hf]

theorem clears_of_failed (j : Bool × Bool) (hf : r.fail ≠ 0) : clears j r = false := by simp [clears, hf]

theorem clears_of_blocked {j : Bool × Bool} (h : j.1 = false) : clears j r = false := by simp [clears, h]

/-- The keep-out volumes fail in a window that cannot be computed, and where one is reached or overlapped. -/
theorem not_clears_keep (h : r.fail ≠ 0 ∨ r.mKeep < 0 ∨ r.oKeep = true) : clears (judge r.mKeep r.oKeep) r = false :=
  h.elim (clears_of_failed _) fun hb => clears_of_blocked (judge_of_blocked hb)

/-- Without a disagreement cross-checking notes how the window was computed. -/
theorem crossChecked_of_agreed (hh : humanJudged s n r = (true, false)) (hk : judge r.mKeep r.oKeep = (true, false)) :
    crossChecked n r s = s.setGunit n { s.gunit n with window := r.fail } := by
  rw [crossChecked, hh, hk]
  rfl

/-- A disagreement of the channels is counted on its unit, and in consecutive cycles it is a fault of the Glume. -/
theorem crossChecked_of_disagreed (h : (judge r.mKeep r.oKeep).2 = true) :
    (crossChecked n r s).glume.disagree = wrap 32 (s.glume.disagree + 1) ∧ ((crossChecked n r s).gunit n).disagreed = some s.glume.cycle ∧
    ((s.gunit n).disagreed.map (· + 1) = some s.glume.cycle →
      4 ∈ (crossChecked n r s).glume.faults ∧ ∀ m ∈ s.units, (crossChecked n r s).hasCause m causeGlume) := by
  have hcross : crossChecked n r s = disagree n (s.setGunit n { s.gunit n with window := r.fail }) := if_pos (by rw [h, Bool.or_true])
  have hspec := disagree_spec n (s.setGunit n { s.gunit n with window := r.fail })
  rwa [← hcross, State.gunit_setGunit] at hspec

theorem proposed_crossChecked (n : Nat) (r : GlmResult) (s : State) : ((crossChecked n r s).gunit n).proposed = (s.gunit n).proposed := by
  have hwindow : ((s.updGunit n (fun v => { v with window := r.fail })).gunit n).proposed = (s.gunit n).proposed := by
    rw [State.updGunit_eq, State.gunit_setGunit]
    rfl
  unfold crossChecked
  dsimp only
  split
  · exact (proposed_disagree n _).trans hwindow
  · exact hwindow

/-! ### The cleared window (R229) -/

theorem windowChecked_onlyRaises (okHuman okKeep : Bool) (cat : Nat) (s : State) :
    OnlyRaises s (windowChecked n okHuman okKeep cat s) := by
  have hpresent : OnlyRaises s (s.setPresent n causeKeepout (!okKeep)) := s.setPresent_onlyRaises _ _ _
  exact (hpresent.trans (.ite (.refl _) (State.raiseCause_onlyRaises _ _ _ _))).trans (.ite (.refl _) (State.raiseCause_onlyRaises _ _ _ _))

/-- A clear window ends the condition of KEEPOUT and raises nothing. -/
theorem windowChecked_clear (cat : Nat) (v : GlmUnit) (s : State) : windowChecked n true true cat (s.setGunit n v) =
    (s.setGunit n v).setGunit n { v with present := v.present.filter (· != causeKeepout) ++ [] } := by
  change (s.setGunit n v).setPresent n causeKeepout false = _
  rw [State.setPresent, State.updGunit_eq, State.gunit_setGunit]
  rfl

theorem windowChecked_keepout (okHuman : Bool) (cat : Nat) (s : State) : (windowChecked n okHuman false cat s).hasCause n causeKeepout :=
  State.raiseCause_hasCause _ n causeKeepout cat

theorem windowChecked_separation (okKeep : Bool) (cat : Nat) (s : State) : (windowChecked n false okKeep cat s).hasCause n causeSeparation := by
  have hraised := State.raiseCause_hasCause (s.setPresent n causeKeepout (!okKeep)) n causeSeparation cat
  have hlater : OnlyRaises ((s.setPresent n causeKeepout (!okKeep)).raiseCause n causeSeparation cat) (windowChecked n false okKeep cat s) :=
    .ite (.refl _) (State.raiseCause_onlyRaises _ _ _ _)
  exact hlater.causes hraised

/-! ### The candidate (R230 to R232) -/

/-- A candidate that does not pass, or proposes nothing, gives no count. -/
theorem candidateChecked_dropped {ok collab : Bool} {b : GlmBlock} (h : ok = false ∨ (s.gunit n).proposed = 0) :
    candidateChecked n r ok b collab s = s.setGunit n { s.gunit n with margin := r.mHuman }.dropped :=
  if_pos (h.imp_left fun hok => by rw [hok]; rfl)

/-- A candidate that passes gives the count proposed with the factor that its grade selects. -/
theorem candidateChecked_passed {collab : Bool} {b : GlmBlock} {f : Nat} {w : GlmUnit} (hp : (s.gunit n).proposed ≠ 0)
    (hf : nextFactor b collab r.mHuman r.oGrade { s.gunit n with margin := r.mHuman } = some (f, w)) :
    candidateChecked n r true b collab s = s.setGunit n { w with
      result := some ((s.gunit n).proposed, f), passed := true, passes := Table.upd 0 w.passes causeSeparation (· + 1) } := by
  unfold candidateChecked
  dsimp only
  rw [if_neg fun h => h.elim Bool.false_ne_true hp, hf]
  rfl

/-- Outside mode COLLAB the factor is that of the first row. -/
theorem nextFactor_of_free (b : GlmBlock) (m : Int) (os : List Bool) (v : GlmUnit) :
    nextFactor b false m os v = some ((b.grades.getD 0 (0, 0x8000)).2, { v with raise := 0 }) := rfl

/-- In mode COLLAB the factor falls to that of the row met at once, and holds while the cycles to rise are not reached. -/
theorem nextFactor_of_gradeRow {b : GlmBlock} {m : Int} {os : List Bool} {v : GlmUnit} {i : Nat} (h : gradeRow b.grades m os = some i) :
    ∃ f w, nextFactor b true m os v = some (f, w) ∧
      (v.factor = 0 ∨ (b.grades.getD i (0, 0x8000)).2 ≤ v.factor → f = (b.grades.getD i (0, 0x8000)).2) ∧
      (v.factor ≠ 0 → v.factor < (b.grades.getD i (0, 0x8000)).2 → v.raise + 1 < b.raiseCycles → f = v.factor) := by
  simp only [nextFactor, h, Bool.not_true, Bool.false_eq_true, if_false]
  split
  next h0 => exact ⟨_, _, rfl, fun _ => rfl, fun hne => absurd h0 hne⟩
  next h0 =>
    split
    next hlt => exact ⟨_, _, rfl, fun _ => rfl, fun _ hgt => absurd hlt hgt.not_gt⟩
    next hge =>
      split
      next heq => exact ⟨_, _, rfl, fun _ => heq.symm, fun _ _ _ => rfl⟩
      next hne =>
        have hrise : ¬ (v.factor = 0 ∨ (b.grades.getD i (0, 0x8000)).2 ≤ v.factor) := by omega
        split
        · split
          next hup => exact ⟨_, _, rfl, fun hno => absurd hno hrise, fun _ _ hwait => absurd hup hwait.not_ge⟩
          next => exact ⟨_, _, rfl, fun hno => absurd hno hrise, fun _ _ _ => rfl⟩
        · exact ⟨_, _, rfl, fun hno => absurd hno hrise, fun _ _ _ => rfl⟩

/-- A candidate of two clear windows is its unit written twice: with the window and the margin, then with its result. -/
theorem channelResult_passed {f : Nat} {w : GlmUnit} (hc : r.cand = true) (hfail : r.fail = 0) (hm : 0 ≤ r.mKeep) (ho : r.oKeep = false)
    (hh : humanJudged s n r = (true, false)) (hp : (s.gunit n).proposed ≠ 0)
    (hf : nextFactor s.block (s.collab n) r.mHuman r.oGrade { s.gunit n with window := r.fail, margin := r.mHuman } = some (f, w)) :
    channelResult n r s = (s.setGunit n { s.gunit n with window := r.fail }).setGunit n { w with
      result := some ((s.gunit n).proposed, f), passed := true, passes := Table.upd 0 w.passes causeSeparation (· + 1) } := by
  have hk : judge r.mKeep r.oKeep = (true, false) := by rw [ho, judge_of_clear hm]
  have hcross := crossChecked_of_agreed hh hk
  have hprop := proposed_crossChecked n r s
  have hfactor : nextFactor s.block (s.collab n) r.mHuman r.oGrade { (crossChecked n r s).gunit n with margin := r.mHuman } = some (f, w) := by
    rw [hcross, State.gunit_setGunit]
    exact hf
  rw [channelResult_candidate hc, hh, hk, clears_of_clear hfail, Bool.and_self, candidateChecked_passed (hprop ▸ hp) hfactor, hprop, hcross]

/-! ### The end of a category 1 stop (R201) -/

/-- The state with a unit's STO outputs due to de-energise. -/
def stopEnded (n : Nat) (s : State) : State := s.updGunit n (fun v => { v with sto := true })

theorem stopEnded_gunit (n m : Nat) (s : State) : ((stopEnded n s).driveOutputs.ctrlUnit n).gunit m = (stopEnded n s).gunit m := by
  rw [(State.ctrlUnit_onlyControls _ n).gunit, (State.driveOutputs_onlyDrives _).gunit]

/-- An STO pair of a unit that requires safe torque off is not wanted energised. -/
theorem State.wantsOutput_of_needsSto {o : GlmOutput} (hf : o.function = 1) (hn : n ∈ maskUnits o.armMask o.auxMask)
    (h : (s.gunit n).needsSto = true) : s.wantsOutput o = false := by
  have hall : (maskUnits o.armMask o.auxMask).all (fun u => !(s.gunit u).needsSto) = false :=
    List.all_eq_false.mpr ⟨n, hn, by rw [h]; decide⟩
  simp only [State.wantsOutput, hf, if_true, hall, Bool.and_false]

/-- At the end of a category 1 stop the STO pairs of its unit are off. -/
theorem stopEnded_pairOff {o : GlmOutput} (hstop : (s.gunit n).stop = some 1) (hnodup : (s.block.outputs.map (fun o => o.pair)).Nodup)
    (ho : o ∈ s.block.outputs) (hf : o.function = 1) (hn : n ∈ maskUnits o.armMask o.auxMask) :
    ((stopEnded n s).driveOutputs.ctrlUnit n).pairOff o.pair := by
  have hsto : ((stopEnded n s).gunit n).needsSto = true := by
    rw [stopEnded, State.updGunit_eq, State.gunit_setGunit]
    simp [GlmUnit.needsSto, hstop]
  have hoff : (stopEnded n s).driveOutputs.pairOff o.pair :=
    State.driveOutputs_pairOff (s := stopEnded n s) hnodup ho hf fun t ht => State.wantsOutput_of_needsSto hf hn (by rw [ht.gunit, hsto])
  rwa [State.pairOff, (State.ctrlUnit_onlyControls _ n).safeOut]

/-! ### The clock fault (R198) -/

/-- Every pair switched off under the hardware cut. -/
def allCut (s : State) : State :=
  (List.range 32).foldl (fun s p => s.putPair p false) { s with glume := { s.glume with cut := true } }

theorem allCut_cutOff {p : Nat} (hp : p < 32) (s : State) : (allCut s).cutOff p :=
  foldl_reaches (R := fun t => t.glume.cut = true) (P := fun t => t.cutOff p) (List.mem_range.mpr hp) rfl (fun _ _ h => h)
    (fun t h => ⟨h, t.pairOff_putPair p⟩) (fun _ q h => State.cutOff_putPair q h)

theorem allCut_units (s : State) : (allCut s).units = s.units := by
  have hdrives := OnlyDrives.foldl (fun t p => t.putPair_onlyDrives p false) (List.range 32) { s with glume := { s.glume with cut := true } }
  obtain ⟨_, h⟩ := hdrives.eq
  rw [allCut, h]
  rfl

/-! ### The rows -/

/-- Settles O53: a window or a candidate is judged kind by kind and cross-checked; then the causes stand because raising ends none, and a
candidate's result is that of its grade. -/
theorem glumeChecksWindowsStopsAndFaults : Obligations.GlumeChecksWindowsStopsAndFaults := by
  unfold Obligations.GlumeChecksWindowsStopsAndFaults
  refine ⟨fun u s hu => does_of_onUnit rfl hu ?latch,
    fun u r s hu hc hf hm ho hh => does_of_onUnit rfl hu ?clear,
    fun u r s hu hc h => does_of_onUnit rfl hu ?keepout,
    fun u r s hu hc h => does_of_onUnit rfl hu ?separation,
    fun u r s hu hc h => does_of_onUnit rfl hu ?disagree,
    fun u r s hu hc h => does_of_onUnit rfl hu ?dropped,
    fun u r s hu hc hf hm ho hp hmode => does_of_onUnit rfl hu ?free,
    fun u r i s hu hc hf hm ho hmh hoh hp hmode hrow => does_of_onUnit rfl hu ?graded,
    fun u s hu => does_of_onUnit rfl hu ?deadline,
    fun u s hu h => does_of_onUnit rfl hu (if_neg h),
    fun u s hu h => does_of_onUnit rfl hu ?stopped,
    fun s => ⟨_, rfl, ?clock⟩, fun s => ⟨_, rfl, rfl⟩, fun s => ⟨_, rfl, ?selfTest⟩, fun s => ⟨_, rfl, ?absence⟩, fun s => ⟨_, rfl, rfl⟩,
    fun u r s => ⟨fun hu => ⟨onUnit_fault hu, onUnit_fault hu⟩, fun hu => ⟨onUnit_fault hu, onUnit_fault hu⟩⟩⟩
  case latch =>
    have hunit : (latchProposal u s).gunit u = _ := State.gunit_setGunit s u _
    rw [hunit]
    exact ⟨rfl, rfl, fun w hw => State.gunit_setGunit_other s _ hw, (latchProposal_keeps u s).touches _ (by decide)⟩
  case clear =>
    have hk : judge r.mKeep r.oKeep = (true, false) := by rw [ho, judge_of_clear hm]
    rw [channelResult_window hc, humanJudged_of_clear hh, hk, clears_of_clear hf, crossChecked_of_agreed (humanJudged_of_clear hh) hk, hf,
      windowChecked_clear]
    rw [gunit_setGunit_twice]
    exact ⟨rfl, rfl, fun w hw => setGunit_twice_other _ _ hw, setGunit_twice_touches _ _⟩
  case keepout =>
    have hframe := (channelResult_keeps u r s).touches [.jrnl, .host, .wnw, .glume, .out] (by decide)
    rw [channelResult_window hc, not_clears_keep h] at hframe ⊢
    exact ⟨windowChecked_keepout _ _ _, hframe⟩
  case separation =>
    have hhuman : clears (humanJudged s u r) r = false :=
      h.elim (clears_of_failed _) fun hb => clears_of_blocked (humanJudged_of_blocked hb.1 hb.2)
    rw [channelResult_window hc, hhuman]
    exact windowChecked_separation _ _ _
  case disagree =>
    obtain ⟨hcount, hunit, htwice⟩ := crossChecked_of_disagreed (n := u) (s := s) (judge_of_disagreed h)
    rw [channelResult_window hc]
    have hraises := windowChecked_onlyRaises (n := u) (clears (humanJudged s u r) r) (clears (judge r.mKeep r.oKeep) r) s.block.pstopCat
      (crossChecked u r s)
    refine ⟨hraises.disagree.trans hcount, (hraises.unitField GlmUnit.disagreed (fun _ => rfl) u).trans hunit, fun hprev => ?_⟩
    obtain ⟨hfault, hcauses⟩ := htwice hprev
    exact ⟨hraises.faults ▸ hfault, fun w hw => hraises.causes (hcauses w hw)⟩
  case dropped =>
    have hdrop : (clears (humanJudged s u r) r && clears (judge r.mKeep r.oKeep) r) = false ∨ ((crossChecked u r s).gunit u).proposed = 0 := by
      rw [proposed_crossChecked]
      rcases h with hf | hm | ho | hp
      · exact .inl (by rw [not_clears_keep (.inl hf), Bool.and_false])
      · exact .inl (by rw [not_clears_keep (.inr (.inl hm)), Bool.and_false])
      · exact .inl (by rw [not_clears_keep (.inr (.inr ho)), Bool.and_false])
      · exact .inr hp
    rw [channelResult_candidate hc, candidateChecked_dropped hdrop, State.gunit_setGunit]
    exact ⟨rfl, rfl⟩
  case free =>
    have hcollab : s.collab u = false := eq_false_of_ne_true (mt State.collab_iff.mp hmode)
    rw [channelResult_passed hc hf hm ho (humanJudged_of_clear (.inl hmode)) hp (by rw [hcollab]; exact nextFactor_of_free _ _ _ _),
      gunit_setGunit_twice]
    exact ⟨rfl, rfl, rfl, setGunit_twice_touches _ _⟩
  case graded =>
    obtain ⟨f, w, hnext, hnow, hwait⟩ :=
      nextFactor_of_gradeRow (v := { s.gunit u with window := r.fail, margin := r.mHuman }) hrow
    rw [channelResult_passed hc hf hm ho (humanJudged_of_clear (.inr ⟨hmh, hoh⟩)) hp (by rw [State.collab_iff.mpr hmode]; exact hnext),
      gunit_setGunit_twice]
    exact ⟨rfl, setGunit_twice_touches _ _, fun h => by rw [hnow h], fun h0 hlt hr => by rw [hwait h0 hlt hr]⟩
  case deadline =>
    let v : State := s.updGunit u (fun v => { v with result := none })
    have hframe := (execGlumeDeadlineMiss_keeps u s _ (onUnit_next hu)).touches [.jrnl, .host, .wnw, .glume, .out] (by decide)
    obtain ⟨hfault, hcauses⟩ := v.glumeFault_spec 3
    refine ⟨?_, hfault, hcauses, hframe⟩
    rw [(v.glumeFault_onlyRaises 3).unitField GlmUnit.result (fun _ => rfl)]
    exact congrArg GlmUnit.result (State.gunit_setGunit s u _)
  case stopped =>
    have hframe := (execStop1Timeout_keeps u s _ (onUnit_next hu)).touches [.glume, .out] (by decide)
    rw [if_pos h] at hframe ⊢
    refine ⟨?_, fun w hw => ?_, fun hnodup o ho hfn hmem => stopEnded_pairOff h hnodup ho hfn hmem, hframe⟩
    · exact (stopEnded_gunit u u s).trans (State.gunit_setGunit s u _)
    · exact (stopEnded_gunit u w s).trans (State.gunit_setGunit_other s _ hw)
  case clock =>
    have hcut : ∀ p, p < 32 → ((allCut s).glumeFault 0).cutOff p := fun p hp => State.cutOff_glumeFault 0 (allCut_cutOff hp s)
    obtain ⟨hfault, hcauses⟩ := (allCut s).glumeFault_spec 0
    rw [allCut_units] at hcauses
    exact ⟨(hcut 0 (by decide)).1, fun p hp => (hcut p hp).2, hfault, hcauses, (execGlumeClockFault_keeps s _ rfl).touches _ (by decide)⟩
  case selfTest =>
    obtain ⟨hfault, hcauses⟩ := s.glumeFault_spec 2
    exact ⟨hfault, s.glumeFault_keeps 2 .cut rfl, hcauses, (s.glumeFault_keeps 2).touches _ (by decide)⟩
  case absence =>
    obtain ⟨hfault, hcauses⟩ := s.glumeFault_spec 1
    exact ⟨hfault, hcauses, (s.glumeFault_keeps 1).touches _ (by decide)⟩

end Sys2Proof.Machine
end

section
/-! SUPPORT. Role changes (R293 to R295) and the commands of a pair (R274, R275, R297 to R300): what of the cell, the pair and the fabric a
role change moves, and how a pair begins, ends and swaps. -/

namespace Sys2Proof.Machine

variable {s : State}

/-! ### Role changes (R293, R294) -/

@[simp] theorem takeRole_cell (role : Nat) (s : State) : (takeRole role s).cell = { s.cell with role := role } := by
  simp only [takeRole]
  rw [keepRole_keeps _ .cell rfl, State.commitJournal_keeps _ .cell rfl, State.updFabNode_keeps _ _ _ .cell rfl, State.record_keeps _ _ _ _ .cell rfl]

@[simp] theorem takeRole_pair (role : Nat) (s : State) : (takeRole role s).pair = { s.pair with lastChange := wrap 32 s.cell.tick } := by
  simp only [takeRole]
  rw [keepRole_keeps _ .pair rfl, State.commitJournal_keeps _ .pair rfl, State.updFabNode_keeps _ _ _ .pair rfl, State.record_keeps _ _ _ _ .pair rfl]

/-- A role taken is told of in the member table and leaves the transfers alone. -/
@[simp] theorem takeRole_sending (role : Nat) (s : State) : (takeRole role s).fab.sending = s.fab.sending := by
  simp only [takeRole]
  rw [keepRole_keeps _ .fab rfl, State.commitJournal_keeps _ .fab rfl, State.updFabNode_eq, State.setFabNode, State.record_keeps _ _ _ _ .fab rfl]

@[simp] theorem roleChange_cell (role : Nat) (s : State) :
    (roleChange role s).cell = { s.cell with epoch := wrap 32 (s.cell.epoch + 1), role := role } := takeRole_cell role (advanceEpoch 1 s)

@[simp] theorem roleChange_pair (role : Nat) (s : State) : (roleChange role s).pair = { s.pair with lastChange := wrap 32 s.cell.tick } :=
  takeRole_pair role (advanceEpoch 1 s)

@[simp] theorem roleChange_sending (role : Nat) (s : State) : (roleChange role s).fab.sending = s.fab.sending :=
  takeRole_sending role (advanceEpoch 1 s)

/-! ### Listeners (R284, R295, R647) -/

theorem State.enterCell_cell (s : State) (st : Nat) : (s.enterCell st).cell = { s.cell with state := st } :=
  State.event_keeps { s with cell := { s.cell with state := st } } _ _ _ _ .cell rfl

/-- A cell that leaves PARTIAL_RUN, and otherwise as it was. -/
def State.outOfPartial (s : State) : State := if s.cell.state = 7 then leavePartial s else s

/-- A device that stands down ends the modes of its axes, leaves PARTIAL_RUN, and enters STANDBY unless its cell state stays. -/
theorem standDown_eq (s : State) : ∃ u, Keeps 5242880 s u ∧
    (standDown s = u.outOfPartial ∨ standDown s = u.outOfPartial.enterCell 3) := by
  refine ⟨_, Keeps.foldl (l := s.motion.axes.filter (fun p => p.2.mode != 0)) (fun t p => leaveToDisabled_keeps p.1 t) (Keeps.refl 5242880 s), ?_⟩
  unfold standDown
  exact ite_eq_or_eq _ _ _

theorem State.outOfPartial_cell (s : State) : ∃ m n, s.outOfPartial.cell = { s.cell with armRun := m, axisRun := n } := by
  unfold State.outOfPartial
  split <;> exact ⟨_, _, rfl⟩

theorem State.outOfPartial_pair (s : State) : ∃ d, s.outOfPartial.pair = { s.pair with diverged := d } := by
  unfold State.outOfPartial
  split <;> exact ⟨_, rfl⟩

theorem standDown_role (s : State) : (standDown s).cell.role = s.cell.role := by
  obtain ⟨u, hu, e⟩ := standDown_eq s
  obtain ⟨_, _, hcell⟩ := u.outOfPartial_cell
  have hrole : u.cell.role = s.cell.role := congrArg CellState.role (hu .cell rfl)
  rcases e with e | e
  · rw [e, hcell, ← hrole]
  · rw [e, State.enterCell_cell, hcell, ← hrole]

/-- A device that stands down moves nothing of its pair but the DIVERGED groups. -/
theorem standDown_pair (s : State) : ∃ d, (standDown s).pair = { s.pair with diverged := d } := by
  obtain ⟨u, hu, e⟩ := standDown_eq s
  obtain ⟨d, hpair⟩ := u.outOfPartial_pair
  rw [hu .pair rfl] at hpair
  rcases e with e | e
  · exact ⟨d, by rw [e, hpair]⟩
  · exact ⟨d, by rw [e, State.enterCell_keeps _ 3 .pair rfl, hpair]⟩

theorem enterListen_role (s : State) : (enterListen s).cell.role = 3 := by
  simp only [enterListen]
  generalize hu : takeRole 3 _ = u
  have hrole : u.cell.role = 3 := by rw [← hu, takeRole_cell]
  exact (standDown_role _).trans hrole

/-- A device that becomes a listener has no pair. -/
theorem enterListen_pair (s : State) : ∃ (p : PairState) (d : Nat), (enterListen s).pair = { p.none with diverged := d } := by
  simp only [enterListen]
  generalize takeRole 3 _ = u
  obtain ⟨d, hpair⟩ := standDown_pair { u with pair := u.pair.none }
  exact ⟨u.pair, d, hpair⟩

/-! ### The new primary (R287, R289, R291, R298) -/

/-- The claims a device adopts become its own (R269). -/
theorem adoptClaims_own (d : Nat) (s : State) :
    (adoptClaims d s.cell.node s).claim = { s.claim with adopted := (s.claim.adopted ++ [d]).eraseDups } := by
  simp [adoptClaims]

/-- The role of a device that acts as primary: cycle master or member. -/
def State.primaryRole (s : State) : Nat := if s.fab.master = s.cell.node then 0 else 1

theorem becomePrimary_cell (s : State) :
    (becomePrimary s).cell = { s.cell with epoch := wrap 32 (s.cell.epoch + 1), role := s.primaryRole } := by
  simp only [becomePrimary]
  rw [ctrlAll_keeps _ .cell rfl, adoptClaims_keeps _ _ _ .cell rfl, roleChange_cell]
  rfl

theorem becomePrimary_pair (s : State) : (becomePrimary s).pair = { s.pair with silent := false, lastChange := wrap 32 s.cell.tick } := by
  simp only [becomePrimary]
  rw [ctrlAll_keeps _ .pair rfl, adoptClaims_keeps _ _ _ .pair rfl, roleChange_pair]

/-- The claims of the old primary become those of the new one. -/
theorem becomePrimary_claim (s : State) :
    (becomePrimary s).claim = { s.claim with adopted := (s.claim.adopted ++ [s.pair.peer]).eraseDups } := by
  simp only [becomePrimary]
  generalize hu : roleChange _ _ = u
  have hnode : s.cell.node = u.cell.node := by rw [← hu, roleChange_cell]
  have hclaim : u.claim = s.claim := hu ▸ roleChange_keeps _ _ .claim rfl
  rw [ctrlAll_keeps _ .claim rfl, hnode, adoptClaims_own, hclaim]

/-! ### Beginning, end and swap of a pair (R274, R275, R297, R298) -/

/-- The state of a pair that begins at the primary (R274, R297). -/
def State.paired (s : State) (peer : Nat) (lines : List PairLine) : State :=
  { s with pair := { s.pair.none with role := 1, peer := peer, lines := lines, since := some s.gtc } }

/-- A pair begins with the cut-off of its lines, a role change in the same role, and a transfer. -/
theorem assignShadow_eq (peer : Nat) (lines : List PairLine) (s : State) : ∃ u, Keeps 33554432 (s.paired peer lines) u ∧
    assignShadow peer lines s = startBulk 1 peer (Config.bulkLen 1) (roleChange u.cell.role u) :=
  ⟨_, Keeps.foldl (fun t _ => State.updNet_keeps t _ _) (Keeps.refl 33554432 (s.paired peer lines)), rfl⟩

theorem assignShadow_pair (peer : Nat) (lines : List PairLine) (s : State) :
    (assignShadow peer lines s).pair = { (s.paired peer lines).pair with lastChange := wrap 32 s.cell.tick } := by
  obtain ⟨u, hu, e⟩ := assignShadow_eq peer lines s
  rw [e, startBulk_keeps _ _ _ _ .pair rfl, roleChange_pair, hu .pair rfl, hu .cell rfl]
  rfl

theorem assignShadow_epoch (peer : Nat) (lines : List PairLine) (s : State) :
    (assignShadow peer lines s).cell.epoch = wrap 32 (s.cell.epoch + 1) := by
  obtain ⟨u, hu, e⟩ := assignShadow_eq peer lines s
  rw [e, startBulk_keeps _ _ _ _ .cell rfl, roleChange_cell, hu .cell rfl]
  rfl

theorem assignShadow_sending (peer : Nat) (lines : List PairLine) (s : State) :
    (assignShadow peer lines s).fab.sending.length = s.fab.sending.length + 1 := by
  obtain ⟨u, hu, e⟩ := assignShadow_eq peer lines s
  have hsending : u.fab.sending = s.fab.sending := congrArg FabricState.sending (hu .fab rfl)
  simp [e, startBulk, hsending]

/-- A pair released leaves none at this device, whether it was the primary or the shadow. -/
theorem releasePair_pair (s : State) : ∃ (p : PairState) (d : Nat), (releasePair s).pair = { p.none with diverged := d } := by
  unfold releasePair
  split
  · exact ⟨_, 0, rfl⟩
  · exact enterListen_pair _

theorem releasePair_epoch (s : State) : (releasePair s).cell.epoch = wrap 32 (s.cell.epoch + 1) := by
  unfold releasePair
  split
  · extract_lets u v
    have hu : u.cell = s.cell := Keeps.ite (State.completeCmd_keeps s _ _ _) (Keeps.refl _ s) .cell rfl
    rw [show v = roleChange u.cell.role (dropLines u) from rfl, roleChange_cell, dropLines_keeps _ .cell rfl, hu]
  · rw [enterListen_keeps _ .epoch rfl]
    rfl

/-- A swap at the primary makes it a silent shadow. -/
theorem swapPair_of_primary (h : s.pair.role = 1) :
    (swapPair s).cell = { s.cell with epoch := wrap 32 (s.cell.epoch + 1), role := 2 } ∧
    (swapPair s).pair.role = 2 ∧ (swapPair s).pair.silent = true ∧ (swapPair s).pair.peer = s.pair.peer ∧
    (swapPair s).pair.switchAt = some s.cell.tick := by
  simp [swapPair, h]

/-- A swap at the shadow makes it the primary. -/
theorem swapPair_of_shadow (h : s.pair.role ≠ 1) :
    (swapPair s).cell = { s.cell with epoch := wrap 32 (s.cell.epoch + 1), role := s.primaryRole } ∧
    (swapPair s).pair.role = 1 ∧ (swapPair s).pair.silent = false ∧ (swapPair s).pair.peer = s.pair.peer ∧
    (swapPair s).pair.switchAt = some s.cell.tick := by
  simp [swapPair, h, becomePrimary_cell, becomePrimary_pair, State.primaryRole]

/-! ### The commands -/

/-- Settles O22: each command of a pair is its tests and then its effect; a pair begins, ends and swaps by a role change each, whose epoch
and roles its lemmas above give. -/
theorem pairCommandsAssignReleaseAndSwap : Obligations.PairCommandsAssignReleaseAndSwap := by
  unfold Obligations.PairCommandsAssignReleaseAndSwap
  refine ⟨hostRow_of (fun _ _ _ => rfl) fun h a s => ?assign, hostRow_of (fun _ _ _ => rfl) fun h a s => ?release,
    hostRow_of (fun _ _ _ => rfl) fun h a s => ?swap, hostRow_of (fun _ _ _ => rfl) fun h a s => ?level,
    reads_of (fun _ _ _ => rfl) fun _ _ _ => rfl⟩
  case assign =>
    refine ⟨s.freeCount + 1, _, rfl, fun hp => ?_⟩
    have hframe := (runFabAssignShadow_keeps h a s).touches [.cell, .jrnl, .wnw, .fab, .pair, .nets, .freeCount, .epoch, .retained] (by decide)
    rw [show runFabAssignShadow h a s = tested _ (needsFabAssignShadow h a s) _ from rfl, tested_pass hp] at hframe
    have hpair := assignShadow_pair (uAt a 0 1) ((List.range (uAt a 1 1)).map (lineAt a)) { s with freeCount := s.freeCount + 1 }
    exact ⟨rfl, congrArg PairState.role hpair, congrArg PairState.peer hpair, congrArg PairState.lines hpair, congrArg PairState.since hpair,
      assignShadow_epoch _ _ _, assignShadow_sending _ _ _, hframe⟩
  case release =>
    refine ⟨s.freeCount, _, rfl, fun _ => ?_⟩
    obtain ⟨p, d, hpair⟩ := releasePair_pair s
    exact ⟨rfl, congrArg PairState.role hpair, congrArg PairState.peer hpair, congrArg PairState.lines hpair, releasePair_epoch s⟩
  case swap =>
    refine ⟨s.freeCount + 1, _, rfl, fun hp => ?_⟩
    have hlocal : (isHost h.port && s.pair.role != 1) = false := hp.of_mem (c := St.badState) (d := 0) (by simp [needsFabSwitchover, badState])
    by_cases hrole : s.pair.role = 1
    · obtain ⟨hcell, hr, hsilent, hpeer, hat⟩ := swapPair_of_primary (s := { s with freeCount := s.freeCount + 1 }) hrole
      exact ⟨rfl, congrArg CellState.epoch hcell, hat, hpeer, fun _ => ⟨hr, congrArg CellState.role hcell, hsilent⟩, fun hne => absurd hrole hne⟩
    · obtain ⟨hcell, hr, hsilent, hpeer, hat⟩ := swapPair_of_shadow (s := { s with freeCount := s.freeCount + 1 }) hrole
      exact ⟨rfl, congrArg CellState.epoch hcell, hat, hpeer, fun heq => absurd heq hrole,
        fun _ => ⟨by simpa [hrole] using hlocal, hr, hsilent, congrArg CellState.role hcell⟩⟩
  case level =>
    refine ⟨s.freeCount + 1, _, rfl, fun hp => ⟨rfl, rfl, ?_⟩⟩
    have hframe := (runFabSetReplLevel_keeps h a s).touches [.power, .freeCount] (by decide)
    rwa [show runFabSetReplLevel h a s = tested _ (needsFabSetReplLevel h a s) _ from rfl, tested_pass hp] at hframe

end Sys2Proof.Machine
end

section
/-! SUPPORT. Bulk transfers (R297, R526, R531): what a segment, an acknowledgement and a resend leave of the transfers. -/

namespace Sys2Proof.Machine

variable {s : State} {peer xfer ofs total len : Nat} {b : FabBulk}

/-- Another transfer than one differs from it in peer or number. -/
theorem FabBulk.other_iff : (b.peer == peer && b.xfer == xfer) = false ↔ b.peer ≠ peer ∨ b.xfer ≠ xfer := by
  rw [Bool.and_eq_false_iff, beq_eq_false_iff_ne, beq_eq_false_iff_ne]

/-! ### Segments received -/

/-- A transfer as far as it has been received; its first segment opens it. -/
def State.heardBulk (s : State) (peer xfer total : Nat) : FabBulk :=
  (s.fab.receiving.find? (fun b => b.peer == peer && b.xfer == xfer)).getD { xfer := xfer, peer := peer, total := total }

/-- The transfers received other than one. -/
def State.otherHeard (s : State) (peer xfer : Nat) : List FabBulk :=
  s.fab.receiving.filter (fun c => !(c.peer == peer && c.xfer == xfer))

theorem State.heardBulk_ends (s : State) (peer xfer total : Nat) :
    (s.heardBulk peer xfer total).peer = peer ∧ (s.heardBulk peer xfer total).xfer = xfer := by
  unfold State.heardBulk
  cases hf : s.fab.receiving.find? (fun b => b.peer == peer && b.xfer == xfer) with
  | none => exact ⟨rfl, rfl⟩
  | some b => simpa using List.find?_some hf

/-- A segment is next in order where what has come ends, or opens its transfer at offset 0. -/
theorem State.heardBulk_acked (total : Nat)
    (hall : (s.fab.receiving.find? (fun b => b.peer == peer && b.xfer == xfer)).all (fun b => b.acked == ofs) = true)
    (hany : 0 < ofs → s.fab.receiving.any (fun b => b.peer == peer && b.xfer == xfer) = true) : (s.heardBulk peer xfer total).acked = ofs := by
  unfold State.heardBulk
  cases hf : s.fab.receiving.find? (fun b => b.peer == peer && b.xfer == xfer) with
  | none =>
    rcases Nat.eq_zero_or_pos ofs with rfl | hpos
    · rfl
    · obtain ⟨c, hc, hof⟩ := List.any_eq_true.mp (hany hpos)
      exact absurd hof (List.find?_eq_none.mp hf c hc)
  | some b => simpa [hf] using hall

/-- A transfer of which all up to `acked` has come to a member: the shadow transfer at a listener, else a command block. -/
def State.heardUpTo (s : State) (peer xfer total acked : Nat) : FabBulk :=
  { s.heardBulk peer xfer total with acked := acked, use := if s.cell.role = 3 then 1 else 2 }

/-- The state of a member once all up to `acked` has come of a transfer: the transfer stays until it is whole, and its sender is told. -/
def segmentTaken (peer xfer total acked : Nat) (s : State) : State :=
  ({ s with fab := { s.fab with
      receiving := if acked < total then s.otherHeard peer xfer ++ [s.heardUpTo peer xfer total acked] else s.otherHeard peer xfer } }).tell
    (some peer) (.bulkAck xfer acked)

/-- A member acknowledges in its next slot. -/
theorem ackBulk_of_member (acked : Nat) (h : s.inFabric = true) : ackBulk peer xfer acked s = s.tell (some peer) (.bulkAck xfer acked) :=
  if_pos h

/-- A segment in order is taken whole and acknowledged. Nothing else comes of it before the end of its transfer, nor at the end of one that
brings nothing. -/
theorem takeSegment_of_next {done : BulkEnd} (hin : s.inFabric = true) (hofs : (s.heardBulk peer xfer total).acked = ofs)
    (hend : ofs + len < total ∨ done = .none) :
    takeSegment peer xfer ofs total len done s = segmentTaken peer xfer total (ofs + len) s := by
  unfold takeSegment
  extract_lets old b rest v u
  have hb : b = s.heardUpTo peer xfer total (ofs + len) := by
    have hnext : ofs = old.acked := hofs.symm
    unfold b
    rw [if_pos hnext, if_pos hin]
    rfl
  have hu : u = segmentTaken peer xfer total (ofs + len) s := by
    unfold u v
    rw [hb]
    exact ackBulk_of_member (s := { s with fab := _ }) _ hin
  rcases hend with hlt | rfl
  · rw [if_pos (.inl (by rw [hb]; exact hlt)), hu]
  · exact (ite_self u).trans hu

/-- While a transfer is open it is kept up to its last octet acknowledged. -/
theorem mem_receiving_segmentTaken {acked : Nat} (h : acked < total) :
    s.heardUpTo peer xfer total acked ∈ (segmentTaken peer xfer total acked s).fab.receiving := by
  simp [segmentTaken, State.tell, h]

theorem mem_waiting_segmentTaken (acked : Nat) :
    (some peer, FabRec.bulkAck xfer acked) ∈ (segmentTaken peer xfer total acked s).fab.waiting := by
  simp [segmentTaken, State.tell]

/-- A transfer that is whole is no longer kept. -/
theorem receiving_segmentTaken_whole {acked : Nat} (h : total ≤ acked) :
    (segmentTaken peer xfer total acked s).fab.receiving = s.otherHeard peer xfer := if_neg (Nat.not_lt.mpr h)

theorem segmentTaken_touches (acked : Nat) : Touches [.fab] s (segmentTaken peer xfer total acked s) :=
  ((Keeps.refl 8388608 s).fab_ rfl).trans (State.tell_keeps _ _ _) |>.touches _ (by decide)

/-! ### Acknowledgements received -/

/-- A transfer whose receiver has all up to `acked`: an acknowledgement of no more than before changes nothing. -/
def FabBulk.ackedTo (acked : Nat) (b : FabBulk) : FabBulk :=
  if b.acked < acked then { b with acked := min acked b.total, resends := 0 } else b

/-- The transfers sent once one has been acknowledged: it ends when all of it is. -/
def State.sendingAfterAck (s : State) (peer xfer acked : Nat) : List FabBulk :=
  (s.fab.sending.map (fun b => if b.peer == peer && b.xfer == xfer then b.ackedTo acked else b)).filter
    (fun b => !((b.peer == peer && b.xfer == xfer) && decide (b.total ≤ b.acked)))

theorem execBulkAckReceive_eq (peer xfer acked : Nat) (s : State) :
    execBulkAckReceive peer xfer acked s = .next { s with fab := { s.fab with sending := s.sendingAfterAck peer xfer acked } } := rfl

theorem State.mem_sendingAfterAck_more {acked : Nat} (hb : b ∈ s.fab.sending) (hp : b.peer = peer) (hx : b.xfer = xfer) (hmore : b.acked < acked)
    (hpart : acked < b.total) : { b with acked := acked, resends := 0 } ∈ s.sendingAfterAck peer xfer acked := by
  have hto : b.ackedTo acked = { b with acked := acked, resends := 0 } := by
    rw [FabBulk.ackedTo, if_pos hmore, Nat.min_eq_left hpart.le]
  refine List.mem_filter.mpr ⟨List.mem_map.mpr ⟨b, hb, ?_⟩, ?_⟩
  · simp [hp, hx, hto]
  · simp [hpart]

theorem State.mem_sendingAfterAck_other (acked : Nat) (hb : b ∈ s.fab.sending) (hother : b.peer ≠ peer ∨ b.xfer ≠ xfer) :
    b ∈ s.sendingAfterAck peer xfer acked := by
  have hno : (b.peer == peer && b.xfer == xfer) = false := FabBulk.other_iff.mpr hother
  exact List.mem_filter.mpr ⟨List.mem_map.mpr ⟨b, hb, by simp [hno]⟩, by simp [hno]⟩

/-- No transfer stays that is acknowledged to its end. -/
theorem State.sendingAfterAck_partial {acked : Nat} (hb : b ∈ s.sendingAfterAck peer xfer acked) (hp : b.peer = peer) (hx : b.xfer = xfer) :
    b.acked < b.total := by
  simpa [hp, hx] using (List.mem_filter.mp hb).2

/-! ### Resends -/

theorem resendBulk_of_none (h : ∀ b ∈ s.fab.sending, b.peer ≠ peer ∨ b.xfer ≠ xfer) : resendBulk peer xfer s = s := by
  have hnone : s.fab.sending.find? (fun b => b.peer == peer && b.xfer == xfer) = none :=
    List.find?_eq_none.mpr fun b hb => Bool.not_eq_true _ ▸ FabBulk.other_iff.mpr (h b hb)
  rw [resendBulk, hnone]

/-- The transfers sent other than one. -/
def State.otherSending (s : State) (peer xfer : Nat) : List FabBulk :=
  s.fab.sending.filter (fun c => !(c.peer == peer && c.xfer == xfer))

/-- A resend is counted, and the transfers sent become `l`. -/
def State.resent (s : State) (l : List FabBulk) : State :=
  { s with fab := { s.fab with bulkRetx := wrap 32 (s.fab.bulkRetx + 1), sending := l } }

/-- Up to the 15th resend a transfer goes on from its last octet acknowledged. -/
theorem resendBulk_of_lt (hb : s.fab.sending.find? (fun b => b.peer == peer && b.xfer == xfer) = some b) (h : b.resends < 15) :
    resendBulk peer xfer s = s.resent (s.otherSending peer xfer ++ [{ b with sent := b.acked, resends := b.resends + 1 }]) := by
  have hlt : b.resends + 1 < 16 := by omega
  simp only [resendBulk, hb, if_pos hlt]
  exact if_pos (.inl hlt)

/-- At the 16th a transfer has failed, and a joiner is told of it. -/
theorem resendBulk_of_ge (hb : s.fab.sending.find? (fun b => b.peer == peer && b.xfer == xfer) = some b) (h : 15 ≤ b.resends) :
    resendBulk peer xfer s = if b.use ≠ 0 then s.resent (s.otherSending peer xfer)
      else sendJoin s.fab.mine 4 (s.fabNode peer).uid peer 7 [] (s.resent (s.otherSending peer xfer)) := by
  have hge : ¬ b.resends + 1 < 16 := by omega
  simp only [resendBulk, hb, hge, false_or]
  rfl

theorem State.mem_otherSending {c : FabBulk} (h : c ∈ s.otherSending peer xfer) : c.peer ≠ peer ∨ c.xfer ≠ xfer :=
  FabBulk.other_iff.mp (by simpa only [Bool.not_eq_true'] using (List.mem_filter.mp h).2)

/-- Whatever a failed transfer was for, what a join frame says of it leaves the fabric's state alone. -/
theorem resendBulk_fab_of_ge (hb : s.fab.sending.find? (fun b => b.peer == peer && b.xfer == xfer) = some b) (h : 15 ≤ b.resends) :
    (resendBulk peer xfer s).fab = (s.resent (s.otherSending peer xfer)).fab := by
  rw [resendBulk_of_ge hb h]
  split
  · rfl
  · exact sendJoin_keeps _ _ _ _ _ _ _ .fab rfl

/-! ### The rows -/

/-- Settles O37: a segment in order is taken by `takeSegment_of_next`, an acknowledgement leaves `sendingAfterAck`, and a resend goes on or
fails by its count. -/
theorem fabricTransfersAcknowledgeAndResend : Obligations.FabricTransfersAcknowledgeAndResend := by
  unfold Obligations.FabricTransfersAcknowledgeAndResend
  refine ⟨fun peer xfer ofs total len e s hin hlt hall hany => ⟨_, rfl, ?segment⟩,
    fun peer xfer total len s hin hle hnone => ⟨_, rfl, ?last⟩,
    fun peer xfer acked s => ⟨_, execBulkAckReceive_eq peer xfer acked s, fun b hb => s.mem_sendingAfterAck_more hb,
      fun b hb => s.mem_sendingAfterAck_other acked hb, fun b hb => s.sendingAfterAck_partial hb, rfl⟩,
    fun peer xfer s h => ⟨_, rfl, resendBulk_of_none h⟩,
    fun peer xfer b s hb h => ⟨_, rfl, ?again⟩,
    fun peer xfer b s hb h => ⟨_, rfl, ?failed⟩⟩
  case segment =>
    rw [takeSegment_of_next hin (s.heardBulk_acked total hall hany) (.inl hlt)]
    obtain ⟨hpeer, hxfer⟩ := s.heardBulk_ends peer xfer total
    exact ⟨mem_waiting_segmentTaken _, ⟨_, mem_receiving_segmentTaken hlt, hpeer, hxfer, rfl⟩, segmentTaken_touches _⟩
  case last =>
    have hacked : (s.heardBulk peer xfer total).acked = 0 := by simp [State.heardBulk, hnone]
    rw [takeSegment_of_next hin hacked (.inr rfl), Nat.zero_add]
    refine ⟨mem_waiting_segmentTaken _, ?_, segmentTaken_touches _⟩
    rw [receiving_segmentTaken_whole hle, State.otherHeard, hnone, List.filter_nil]
  case again =>
    rw [resendBulk_of_lt hb h]
    exact ⟨rfl, List.mem_append_right _ (List.mem_singleton_self _), ((Keeps.refl 8388608 s).fab_ rfl).touches _ (by decide)⟩
  case failed =>
    have hfab := resendBulk_fab_of_ge hb h
    refine ⟨congrArg FabricState.bulkRetx hfab, fun c hc => ?_, fun huse => ?_⟩
    · rw [hfab] at hc
      exact State.mem_otherSending hc
    · rw [resendBulk_of_ge hb h, if_pos huse]
      rfl

end Sys2Proof.Machine
end

section
/-! SUPPORT. Failure detection, takeover and synchronisation of a pair (R277, R283 to R293, R297): what a missed frame counts and declares,
what the takeover edge leaves, and how FAB.ASSIGN_SHADOW completes. -/

namespace Sys2Proof.Machine

variable {s : State} {i k : Nat}

/-! ### Missing forwarding frames (R277, R283) -/

theorem missForwarding_of_not_shadow (h : s.isShadow = false) : missForwarding s = s := by simp [missForwarding, h]

/-- A cycle whose forwarding frame has come misses none. -/
theorem missForwarding_of_got {f : FwdSet} (hf : s.pair.fwd = some f) (ht : f.tick = s.cell.tick) : missForwarding s = s := by
  simp [missForwarding, hf, ht]

/-- A shadow that serves itself for want of forwarded records, whose number it counts as late. -/
def State.selfServed (s : State) : State := if s.takesFwd then runSwitches (fwdLateBy s.missingFwd s) else s

/-- FWD_LATE of a shadow that has served itself. -/
def State.lateCount (s : State) : Nat := if s.takesFwd then wrap 32 (s.pair.fwdLate + s.missingFwd) else s.pair.fwdLate

theorem State.selfServed_cell (s : State) : s.selfServed.cell = s.cell := by
  unfold State.selfServed
  split
  · exact runSwitches_keeps _ .cell rfl
  · rfl

theorem State.selfServed_pair (s : State) : s.selfServed.pair = { s.pair with fwdLate := s.lateCount } := by
  unfold State.selfServed State.lateCount
  split
  · exact runSwitches_keeps _ .pair rfl
  · rfl

/-- A missed forwarding frame is counted, and the shadow is SUSPECT. -/
def State.missCounted (s : State) : State :=
  { s with pair := { s.pair with misses := wrap 32 (s.pair.misses + 1), missRun := s.pair.missRun + 1, suspect := true } }

/-- A shadow that misses a forwarding frame serves itself and counts the miss; from the second in a row on it declares a takeover. -/
theorem missForwarding_of_missed (hshadow : s.isShadow = true) (hrole : s.pair.role = 2) (hfwd : s.pair.fwd = none) : missForwarding s =
    if 2 ≤ s.pair.missRun + 1 then declareTakeover s.selfServed.missCounted else s.selfServed.missCounted := by
  have hpair := s.selfServed_pair
  have hstill : s.selfServed.pair.role = 2 := by rw [hpair, hrole]
  have hrun : s.selfServed.pair.missRun = s.pair.missRun := by rw [hpair]
  simp only [missForwarding, hfwd, hshadow, Bool.not_true, Bool.or_false, Bool.false_eq_true, if_false]
  change (if s.selfServed.pair.role ≠ 2 then s.selfServed else
    if 2 ≤ s.selfServed.pair.missRun + 1 then declareTakeover s.selfServed.missCounted else s.selfServed.missCounted) = _
  rw [if_neg (not_not_intro hstill), hrun]

/-- A takeover declared stands; a new one is for the next edge. -/
theorem declareTakeover_pair (hrole : s.pair.role = 2) (hsuspect : s.pair.suspect = true) :
    (declareTakeover s).pair = { s.pair with takeAt := some (s.pair.takeAt.getD (s.cell.tick + 1)) } := by
  cases h : s.pair.takeAt with
  | some k =>
    have hstands : declareTakeover s = s := if_pos (.inr (by rw [h]; rfl))
    rw [hstands, Option.getD_some, ← h]
  | none => simp [declareTakeover, State.tell, h, hrole, hsuspect]

theorem declareTakeover_tells (hrole : s.pair.role = 2) (h : s.pair.takeAt = none) :
    (none, FabRec.takeover s.pair.peer) ∈ (declareTakeover s).fab.waiting := by
  simp [declareTakeover, State.tell, h, hrole]

/-- What a missed forwarding frame leaves of a shadow's pair. -/
theorem missForwarding_pair (hshadow : s.isShadow = true) (hrole : s.pair.role = 2) (hfwd : s.pair.fwd = none) :
    (missForwarding s).pair = { s.pair with
      fwdLate := s.lateCount, misses := wrap 32 (s.pair.misses + 1), missRun := s.pair.missRun + 1, suspect := true
      takeAt := if s.pair.missRun = 0 then s.pair.takeAt else some (s.pair.takeAt.getD (s.cell.tick + 1)) } := by
  rw [missForwarding_of_missed hshadow hrole hfwd]
  by_cases hfirst : s.pair.missRun = 0
  · simp [hfirst, State.missCounted, State.selfServed_pair]
  · have hagain : 2 ≤ s.pair.missRun + 1 := by omega
    rw [if_pos hagain, if_neg hfirst, declareTakeover_pair (by simp [State.missCounted, State.selfServed_pair, hrole]) rfl]
    simp [State.missCounted, State.selfServed_pair, State.selfServed_cell]

theorem missForwarding_tells (hshadow : s.isShadow = true) (hrole : s.pair.role = 2) (hfwd : s.pair.fwd = none) (hrun : 1 ≤ s.pair.missRun)
    (htake : s.pair.takeAt = none) : (none, FabRec.takeover s.pair.peer) ∈ (missForwarding s).fab.waiting := by
  have hpeer : s.selfServed.missCounted.pair.peer = s.pair.peer := by simp [State.missCounted, State.selfServed_pair]
  rw [missForwarding_of_missed hshadow hrole hfwd, if_pos (by omega), ← hpeer]
  exact declareTakeover_tells (by simp [State.missCounted, State.selfServed_pair, hrole]) (by simp [State.missCounted, State.selfServed_pair, htake])

/-! ### Missing echoes (R284) -/

theorem missEcho_of_not_primary (h : s.pair.role ≠ 1) : missEcho s = s := if_pos h

theorem missEcho_first (h : s.pair.role = 1) (hrun : s.pair.echoRun = 0) :
    missEcho s = { s with pair := { s.pair with echoRun := 1 } } := by
  simp [missEcho, h, hrun]

/-- At the second miss in a row the primary declares its failure, advances the epoch and becomes a listener. -/
theorem missEcho_again (h : s.pair.role = 1) (hrun : 1 ≤ s.pair.echoRun) :
    missEcho s = enterListen (advanceEpoch 1 (declareNow s)) := by
  have hmany : ¬ s.pair.echoRun + 1 < 2 := by omega
  simp only [missEcho, if_neg (not_not_intro h), if_neg hmany]

theorem fenced_epoch (s : State) : (enterListen (advanceEpoch 1 (declareNow s))).cell.epoch = wrap 32 (s.cell.epoch + 1) := by
  rw [enterListen_keeps _ .epoch rfl]
  exact congrArg (fun c => wrap 32 (CellState.epoch c + 1)) (declareNow_keeps s .cell rfl)

/-! ### Fill frames (R285) -/

theorem fillFrame_of_idle (i : Nat) (h : s.pair.role ≠ 2 ∨ s.pair.suspect = false) : fillFrame i s = s := by
  have hidle : s.pair.role ≠ 2 ∨ (!s.pair.suspect) = true := h.imp_right fun hs => by rw [hs]; rfl
  unfold fillFrame
  split
  · rfl
  · exact if_pos hidle

/-- A SUSPECT shadow's fill goes out at its time with the line's output records. -/
theorem fillFrame_of_suspect {l : PairLine} (hl : s.pair.lines[i]? = some l) (hrole : s.pair.role = 2) (hs : s.pair.suspect = true) :
    ∃ gtc, fillFrame i s = ({ s.advanceTo gtc with pair := { s.pair with fills := wrap 32 (s.pair.fills + 1) } }).send
      (.fill l.sPort (s.outputOctets l.net)) := by
  have hserves : ¬ (s.pair.role ≠ 2 ∨ (!s.pair.suspect) = true) := by simp [hrole, hs]
  simp only [fillFrame, hl, if_neg hserves]
  exact ⟨_, rfl⟩

/-! ### Takeover (R287 to R292) -/

theorem takeOver_of_none (h : s.pair.role ≠ 2 ∨ s.pair.takeAt = none) : takeOver s = s := by
  rcases h with h | h <;> simp [takeOver, h]

theorem takeOver_of_early (h : s.pair.takeAt = some k) (hk : s.cell.tick < k) : takeOver s = s := by
  simp [takeOver, h, hk]

/-- A shadow as the takeover edge makes it primary, before it reports it and its pair ends. -/
def State.takenOver (s : State) : State :=
  let p := becomePrimary (holdDiverged s)
  { p with pair := { p.pair with takeovers := wrap 32 (p.pair.takeovers + 1) } }

/-- After that the takeover edge touches journal, hosts, sessions and lines alone, and the pair ends. -/
theorem takeOver_of_due (hrole : s.pair.role = 2) (h : s.pair.takeAt = some k) (hk : k ≤ s.cell.tick) :
    ∃ u, Keeps 34087104 s.takenOver u ∧ takeOver s = { u with pair := u.pair.none } := by
  have hdue : ¬ (s.pair.role ≠ 2 ∨ (!decide (k ≤ s.cell.tick)) = true) := by simp [hrole, hk]
  simp only [takeOver, h, if_neg hdue]
  exact ⟨_, (((State.event_keeps s.takenOver _ _ _ _).mono rfl).trans ((closeSessions_keeps _).mono rfl)).trans ((dropLines_keeps _).mono rfl), rfl⟩

theorem State.takenOver_cell (s : State) :
    s.takenOver.cell = { s.cell with epoch := wrap 32 (s.cell.epoch + 1), role := s.primaryRole } := by
  have hcell : (holdDiverged s).cell = s.cell := holdDiverged_keeps s .cell rfl
  have hfab : (holdDiverged s).fab = s.fab := holdDiverged_keeps s .fab rfl
  refine (becomePrimary_cell _).trans ?_
  rw [State.primaryRole, hcell, hfab, State.primaryRole]

theorem State.takenOver_pair (s : State) : s.takenOver.pair = { s.pair with
    silent := false, lastChange := wrap 32 s.cell.tick, takeovers := wrap 32 (s.pair.takeovers + 1) } := by
  have hcell : (holdDiverged s).cell = s.cell := holdDiverged_keeps s .cell rfl
  have hpair : (holdDiverged s).pair = s.pair := holdDiverged_keeps s .pair rfl
  simp only [State.takenOver, becomePrimary_pair, hcell, hpair]

theorem State.takenOver_claim (s : State) :
    s.takenOver.claim = { s.claim with adopted := (s.claim.adopted ++ [s.pair.peer]).eraseDups } := by
  have hpair : (holdDiverged s).pair = s.pair := holdDiverged_keeps s .pair rfl
  have hclaim : (holdDiverged s).claim = s.claim := holdDiverged_keeps s .claim rfl
  refine (becomePrimary_claim _).trans ?_
  rw [hpair, hclaim]

/-! ### Synchronisation (R293, R297) -/

theorem State.setPort_cmds (s : State) (p : Nat) (v : HostPort) : (s.setPort p v).host.cmds = s.host.cmds := by
  unfold State.setPort
  split <;> rfl

/-- An event leaves the commands in hand alone. -/
theorem State.event_cmds (s : State) (loc code subject : Nat) (data : List Byte) : (s.event loc code subject data).host.cmds = s.host.cmds := by
  simp only [State.event, State.setPort_cmds]
  split
  · exact congrArg HostState.cmds (State.record_keeps s _ _ _ .host rfl)
  · exact congrArg HostState.cmds (((State.record_keeps s _ _ _).trans (State.record_keeps _ _ _ _)) .host rfl)

/-- A command at work with the code of a completion is replied to. -/
theorem State.mem_completeCmd {c : HostCmd} {code : Nat} (r : Reply) (hc : c ∈ s.host.cmds) (hcode : c.code = code) (hrun : c.stage = .running) :
    { c with stage := .replied, reply := r } ∈ (s.completeCmd code (fun _ => true) r).host.cmds :=
  List.mem_map.mpr ⟨c, hc, by simp [hcode, hrun]⟩

/-- A shadow that is synchronised changes its role, and reports it. -/
theorem shadowSynced_of_shadow (h : s.pair.role = 3) (ha : 64 ≤ s.pair.agreed) :
    Keeps 524480 { roleChange 2 s with pair := { (roleChange 2 s).pair with role := 2 } } (shadowSynced s) := by
  rw [shadowSynced, if_pos ⟨h, ha⟩]
  exact State.event_keeps _ _ _ _ _

/-- The primary of a shadow that is synchronised makes the role change with it, reports it, and completes FAB.ASSIGN_SHADOW. -/
theorem shadowSynced_of_primary (h : s.pair.role = 1) (hk : s.pair.since = some k) : ∃ u, Keeps 524480 (roleChange s.cell.role s) u ∧
    u.host.cmds = s.host.cmds ∧
    shadowSynced s = ({ u with pair := { u.pair with since := none } }).completeCmd 0x0906 (fun _ => true) {} := by
  have hcmds : (roleChange s.cell.role s).host.cmds = s.host.cmds := congrArg HostState.cmds (roleChange_keeps _ s .host rfl)
  simp only [shadowSynced, h, hk]
  exact ⟨_, State.event_keeps _ _ _ _ _, (State.event_cmds _ _ _ _ _).trans hcmds, rfl⟩

theorem shadowSynced_of_unsynced (h1 : s.pair.role ≠ 1) (h3 : s.pair.role ≠ 3 ∨ s.pair.agreed < 64) : shadowSynced s = s := by
  have hno : ¬ (s.pair.role = 3 ∧ 64 ≤ s.pair.agreed) := fun h => h3.elim (fun hr => hr h.1) (fun ha => Nat.not_le.mpr ha h.2)
  simp only [shadowSynced, if_neg hno, h1, false_and, if_false]

/-- A primary once 60 s have ended FAB.ASSIGN_SHADOW, and the pair with it. -/
def State.syncEnded (s : State) (since : Nat) : State :=
  let u := (dropLines (s.advanceTo (since + 60000000000))).completeCmd 0x0906 (fun _ => true) { status := St.notSynced }
  { u with pair := u.pair.none, fab := { u.fab with sending := u.fab.sending.filter (fun b => b.use = 0) } }

theorem execShadowSyncTimeout_of_primary (h : s.pair.role = 1) (hk : s.pair.since = some k) :
    execShadowSyncTimeout s = .next (s.syncEnded k) := by
  simp only [execShadowSyncTimeout, h, hk, if_true, State.syncEnded]

/-! ### The rows -/

/-- Settles O41: each row of the pair is what its lemmas above give, and a row that does not meet its condition changes nothing. -/
theorem pairDetectsFencesAndTakesOver : Obligations.PairDetectsFencesAndTakesOver := by
  unfold Obligations.PairDetectsFencesAndTakesOver
  refine ⟨fun s h => ⟨_, rfl, missForwarding_of_not_shadow h⟩, fun f s hf ht => ⟨_, rfl, missForwarding_of_got hf ht⟩,
    fun s hshadow hrole hfwd => ⟨_, rfl, ?missed⟩,
    fun s h => ⟨_, rfl, missEcho_of_not_primary h⟩, fun s h hrun => ⟨_, rfl, missEcho_first h hrun⟩,
    fun s h hrun => ⟨_, rfl, ?fenced⟩,
    fun i s hi h => does_of_onUnit rfl hi (fillFrame_of_idle i h), fun i l s hi hl hrole hs => does_of_onUnit rfl hi ?fill,
    fun i s hi => onUnit_fault hi,
    fun s h => ⟨_, rfl, takeOver_of_none h⟩, fun k s h hk => ⟨_, rfl, takeOver_of_early h hk⟩,
    fun k s hrole h hk => ⟨_, rfl, ?takeover⟩,
    fun s h ha => ⟨_, rfl, ?shadow⟩, fun k s h hk => ⟨_, rfl, ?primary⟩,
    fun s h1 h3 => ⟨_, rfl, shadowSynced_of_unsynced h1 h3⟩,
    fun k s h hk => ⟨_, execShadowSyncTimeout_of_primary h hk, ?timeout⟩,
    fun s h => ⟨_, rfl, ?joining⟩, fun s h hk => ⟨_, rfl, ?synced⟩⟩
  case missed =>
    have hpair := missForwarding_pair hshadow hrole hfwd
    refine ⟨congrArg PairState.misses hpair, congrArg PairState.missRun hpair, congrArg PairState.suspect hpair, congrArg PairState.fwdLate hpair,
      fun hkeep => ?_, fun hrun htake => ⟨?_, missForwarding_tells hshadow hrole hfwd hrun htake⟩⟩
    · rw [hpair]
      rcases hkeep with hfirst | hset
      · exact if_pos hfirst
      · obtain ⟨k, hk⟩ := Option.isSome_iff_exists.mp hset
        simp [hk]
    · rw [hpair]
      simp [htake, Nat.pos_iff_ne_zero.mp hrun]
  case fenced =>
    rw [missEcho_again h hrun]
    obtain ⟨p, d, hpair⟩ := enterListen_pair (advanceEpoch 1 (declareNow s))
    exact ⟨enterListen_role _, fenced_epoch s, congrArg PairState.role hpair⟩
  case fill =>
    have hframe := (fillFrame_keeps i s).touches [.time, .pair, .out] (by decide)
    obtain ⟨gtc, e⟩ := fillFrame_of_suspect hl hrole hs
    rw [e] at hframe ⊢
    exact ⟨rfl, rfl, hframe⟩
  case takeover =>
    obtain ⟨u, hu, e⟩ := takeOver_of_due hrole h hk
    have hcell : u.cell = _ := Eq.trans (hu .cell rfl) s.takenOver_cell
    have hpair : u.pair = _ := Eq.trans (hu .pair rfl) s.takenOver_pair
    have hclaim : u.claim = _ := Eq.trans (hu .claim rfl) s.takenOver_claim
    rw [e]
    refine ⟨congrArg CellState.role hcell, congrArg CellState.epoch hcell, rfl, congrArg PairState.silent hpair,
      congrArg PairState.takeovers hpair, ?_, (congrArg ClaimState.claims hclaim :)⟩
    simp [hclaim]
  case shadow =>
    have hkeeps := shadowSynced_of_shadow h ha
    have hcell : (shadowSynced s).cell = _ := Eq.trans (hkeeps .cell rfl) (roleChange_cell 2 s)
    exact ⟨congrArg PairState.role (hkeeps .pair rfl), congrArg CellState.role hcell, congrArg CellState.epoch hcell⟩
  case primary =>
    obtain ⟨u, hu, hcmds, e⟩ := shadowSynced_of_primary h hk
    have hcell : u.cell = _ := Eq.trans (hu .cell rfl) (roleChange_cell s.cell.role s)
    have hpair : u.pair = _ := Eq.trans (hu .pair rfl) (roleChange_pair s.cell.role s)
    rw [e]
    refine ⟨rfl, (congrArg PairState.role hpair).trans h, (congrArg CellState.role hcell :), congrArg CellState.epoch hcell, fun c hc hcode hrun => ?_⟩
    exact State.mem_completeCmd {} (hcmds ▸ hc) hcode hrun
  case timeout =>
    have hframe := execShadowSyncTimeout_keeps s _ (execShadowSyncTimeout_of_primary h hk)
    refine ⟨rfl, rfl, fun c hc hcode hrun => State.mem_completeCmd _ ?_ hcode hrun, hframe.touches _ (by decide)⟩
    rwa [dropLines_keeps _ .host rfl]
  case joining => simp [h]
  case synced => simp [h, hk]

end Sys2Proof.Machine
end

section
/-! SUPPORT. The reset state (R302, R354, R403, R452, R566, R572, R612, R636, R664): a table that lists nothing reads as the reset record of its kind. -/

namespace Sys2Proof.Machine

theorem State.bank_reset (b : Nat) : State.reset.bank b = {} := rfl
theorem State.lathe_reset (e : Nat) : State.reset.lathe e = {} := rfl
theorem State.chisel_reset (g : Nat) : State.reset.chisel g = {} := rfl
theorem State.net_reset (n : Nat) : State.reset.net n = {} := rfl
theorem State.safeOut_reset (p : Nat) : State.reset.safeOut p = {} := rfl

/-- Nothing of the bank pool is written at reset, and the empty list is its canonical form. -/
theorem Memory.wf_reset : Memory.wf State.reset := by decide

/-- Settles O4: every bank, engine, group, network and safe output reads as the reset record of its kind. -/
theorem resetStateHoldsWhatTheSpecGives : Obligations.ResetStateHoldsWhatTheSpecGives := by
  unfold Obligations.ResetStateHoldsWhatTheSpecGives
  refine ⟨rfl, rfl, rfl, fun b _ => ?bank, rfl, fun e _ => ?lathe, fun g _ => ?chisel, fun n _ => ?net, rfl, fun p _ => ?safeOut,
    rfl, rfl, rfl, rfl, Memory.wf_reset⟩
  case bank => rw [State.bank_reset]
  case lathe => rw [State.lathe_reset]; exact ⟨rfl, rfl, rfl⟩
  case chisel => rw [State.chisel_reset]; exact ⟨rfl, rfl⟩
  case net => rw [State.net_reset]
  case safeOut => rw [State.safeOut_reset]; exact ⟨rfl, rfl⟩

end Sys2Proof.Machine
end

section
/-! SUPPORT. Mailbox channels and their words (R304 to R307, R311 to R315): what a doorbell or a wake event leaves alone, and what a word
stored, a word refused and a word read make of their channel. -/

namespace Sys2Proof.Machine

variable {s t u : State} {m ch : Nat}

theorem State.chan_of_mbx (h : t.mbx = s.mbx) (c : Nat) : t.chan c = s.chan c := by
  rw [State.chan, h, State.chan]

/-! ### Doorbells and wake events (R311, R312) -/

/-- One state follows from another by doorbells rung and wake events sent. -/
structure OnlySignals (s t : State) : Prop where
  chans : t.mbx.chans = s.mbx.chans
  locks : t.mbx.locks = s.mbx.locks
  keeps : Keeps 134217984 s t

theorem OnlySignals.refl (s : State) : OnlySignals s s := ⟨rfl, rfl, Keeps.refl _ s⟩

theorem OnlySignals.trans (h : OnlySignals s t) (k : OnlySignals t u) : OnlySignals s u :=
  ⟨k.chans.trans h.chans, k.locks.trans h.locks, h.keeps.trans k.keeps⟩

theorem OnlySignals.ite {c : Prop} [Decidable c] (h : OnlySignals s t) (k : OnlySignals s u) : OnlySignals s (if c then t else u) := by
  split <;> assumption

theorem OnlySignals.chan (h : OnlySignals s t) (c : Nat) : t.chan c = s.chan c := by
  rw [State.chan, h.chans, State.chan]

theorem State.ring_onlySignals (s : State) (m b : Nat) : OnlySignals s (s.ring m b) := by
  refine ⟨?_, ?_, s.ring_keeps m b⟩ <;> (unfold State.ring; dsimp only; split <;> rfl)

theorem State.wake_onlySignals (s : State) (m : Nat) : OnlySignals s (s.wake m) := by
  refine ⟨?_, ?_, s.wake_keeps m⟩ <;> (unfold State.wake; dsimp only; split <;> rfl)

theorem State.fullRose_onlySignals (s : State) (ch : Nat) : OnlySignals s (s.fullRose ch) := by
  have hring := OnlySignals.ite (c := (s.chan ch).rxDbEn = true) (s.ring_onlySignals (s.chan ch).receiver (s.chan ch).rxDb) (.refl s)
  exact .ite (hring.trans (State.wake_onlySignals _ _)) hring

/-! ### Words stored and words refused (R304, R306, R307) -/

/-- A word put into an empty channel, before the doorbell and the wake event of its receiver (R304, R326). -/
def State.wordPut (s : State) (m ch : Nat) (w : Word) : State :=
  let b := field w.toNat 0 6
  let hand := isHost m && isBankCredit w.toNat && s.owns m b
  let u := if hand then s.startHandover b 0 else s
  u.updChan ch (fun c => { c with word := w, full := true, fullEv := satAdd 255 c.fullEv 1, writer := m, handed := hand })

theorem State.storeWord_eq (s : State) (m ch : Nat) (w : Word) : s.storeWord m ch w = (s.wordPut m ch w).fullRose ch := rfl

theorem State.wordPut_mbx (s : State) (m ch : Nat) (w : Word) : (s.wordPut m ch w).mbx = (s.setChan ch { s.chan ch with
    word := w, full := true, fullEv := satAdd 255 (s.chan ch).fullEv 1, writer := m
    handed := isHost m && isBankCredit w.toNat && s.owns m (field w.toNat 0 6) }).mbx := by
  unfold State.wordPut
  dsimp only
  cases isHost m && isBankCredit w.toNat && s.owns m (field w.toNat 0 6) <;> rfl

theorem State.chan_storeWord (s : State) (m ch : Nat) (w : Word) : (s.storeWord m ch w).chan ch = { s.chan ch with
    word := w, full := true, fullEv := satAdd 255 (s.chan ch).fullEv 1, writer := m
    handed := isHost m && isBankCredit w.toNat && s.owns m (field w.toNat 0 6) } := by
  rw [s.storeWord_eq, (State.fullRose_onlySignals _ _).chan, State.chan_of_mbx (s.wordPut_mbx m ch w), State.chan_setChan]

theorem State.chan_storeWord_other (s : State) (m : Nat) (w : Word) {c : Nat} (h : c ≠ ch) : (s.storeWord m ch w).chan c = s.chan c := by
  rw [s.storeWord_eq, (State.fullRose_onlySignals _ _).chan, State.chan_of_mbx (s.wordPut_mbx m ch w), State.chan_setChan_other _ _ h]

theorem State.locks_storeWord (s : State) (m ch : Nat) (w : Word) : (s.storeWord m ch w).mbx.locks = s.mbx.locks := by
  rw [s.storeWord_eq, (State.fullRose_onlySignals _ _).locks, s.wordPut_mbx]
  rfl

theorem mbxWrite_of_empty (w : Word) (hch : ch < 64) (hm : s.isSender (s.chan ch) m = true) (hf : (s.chan ch).full = false) :
    mbxWrite m ch w s = s.storeWord m ch w := by
  simp [mbxWrite, Nat.not_le.mpr hch, hm, hf]

theorem mbxWrite_of_full (w : Word) (hch : ch < 64) (hm : s.isSender (s.chan ch) m = true) (hf : (s.chan ch).full = true) :
    mbxWrite m ch w s = s.setChan ch { s.chan ch with reject := true, rejEv := satAdd 255 (s.chan ch).rejEv 1 } := by
  simp [mbxWrite, Nat.not_le.mpr hch, hm, hf]

theorem mbxWrite_of_stranger (w : Word) (hch : ch < 64) (hm : s.isSender (s.chan ch) m = false) : mbxWrite m ch w s = s.violation m ch := by
  simp [mbxWrite, Nat.not_le.mpr hch, hm]

theorem State.chan_violation (s : State) (m ch c : Nat) : (s.violation m ch).chan c =
    (s.setChan ch { s.chan ch with violation := true, violEv := satAdd 255 (s.chan ch).violEv 1 }).chan c :=
  State.chan_of_mbx (State.accessErr_keeps _ m .mbx rfl) c

/-- A channel with a remote word stored in it: over the word of a full channel it is a collision (R306). -/
def MbxChannel.remotePut (c : MbxChannel) (node : Nat) (w : Word) : MbxChannel :=
  { c with word := w, lastNode := node, full := true, collision := c.collision || c.full
           collEv := if c.full then satAdd 255 c.collEv 1 else c.collEv, fullEv := satAdd 255 c.fullEv 1, writer := 0x3F }

theorem chan_remoteWord {node : Nat} (w : Word) (hch : ch < 64) (hv : (s.chan ch).valid = true) (hs : (s.chan ch).sender = 0x3F)
    (hn : (s.chan ch).remoteNode = 0xFF ∨ (s.chan ch).remoteNode = node) (c : Nat) :
    (remoteWord node ch w s).chan c = (s.setChan ch ((s.chan ch).remotePut node w)).chan c := by
  have hallowed : (!((s.chan ch).valid && (s.chan ch).sender == 0x3F) ||
      ((s.chan ch).remoteNode != 0xFF && (s.chan ch).remoteNode != node)) = false := by
    rcases hn with hn | hn <;> simp [hv, hs, hn]
  simp only [remoteWord, if_neg (Nat.not_le.mpr hch), hallowed, Bool.false_eq_true, if_false, MbxChannel.remotePut]
  cases hf : (s.chan ch).full with
  | false => simpa using (State.fullRose_onlySignals _ ch).chan c
  | true => simp

/-! ### Words read (R305, R307) -/

theorem State.chan_acknowledge (s : State) (ch : Nat) : (s.acknowledge ch).chan ch = { s.chan ch with full := false } := by
  have h : OnlySignals (s.setChan ch { s.chan ch with full := false }) (s.acknowledge ch) := .ite (State.ring_onlySignals _ _ _) (.refl _)
  rw [h.chan, State.chan_setChan]

theorem mbxRead_of_full (hch : ch < 64) (hm : (s.chan ch).isReceiver m = true) (hf : (s.chan ch).full = true) :
    mbxRead m ch s = (s.acknowledge ch).returns (s.chan ch).word.toNat := by
  simp [mbxRead, Nat.not_le.mpr hch, hm, hf]

theorem mbxRead_of_empty (hch : ch < 64) (hm : (s.chan ch).isReceiver m = true) (hf : (s.chan ch).full = false) :
    mbxRead m ch s = s.returns 0 := by
  simp [mbxRead, Nat.not_le.mpr hch, hm, hf]

theorem mbxRead_of_stranger (hch : ch < 64) (hm : (s.chan ch).isReceiver m = false) : mbxRead m ch s = (s.violation m ch).returns 0 := by
  simp [mbxRead, Nat.not_le.mpr hch, hm]

/-- Of a read that finds no word for its master the command interface makes nothing. -/
theorem dataRead_of_none (h : (s.chan ch).isReceiver m = false ∨ (s.chan ch).full = false) : dataRead m ch s = mbxRead m ch s := by
  rcases h with h | h <;> simp [dataRead, h]

/-- What the command interface makes of a word read leaves the value returned alone. -/
theorem dataRead_rd (m ch : Nat) (s : State) : (dataRead m ch s).rd = (mbxRead m ch s).rd := by
  unfold dataRead
  dsimp only
  split
  · rfl
  · split
    · exact ((ackResponse_keeps m ch _ .rd rfl).trans (postCredits_keeps m _ .rd rfl) :)
    · split
      · exact sheafWord_keeps _ _ _ _ _ .rd rfl
      · rfl

/-- What the Sheaf makes of a word that it reads itself leaves the mailboxes alone. -/
theorem dataRead_mbx (hm : isHost m = false) (ch : Nat) (s : State) : (dataRead m ch s).mbx = (mbxRead m ch s).mbx := by
  unfold dataRead
  simp only [hm, Bool.false_eq_true, if_false]
  split
  · rfl
  · split
    · exact sheafWord_keeps _ _ _ _ _ .mbx rfl
    · rfl

theorem mbxEvcntRead_of_party (hch : ch < 64) (hm : s.isSender (s.chan ch) m = true ∨ (s.chan ch).isReceiver m = true) : mbxEvcntRead m ch s =
    (s.setChan ch { s.chan ch with fullEv := 0, collEv := 0, rejEv := 0, violEv := 0 }).returns (s.chan ch).evcnt := by
  rcases hm with hm | hm <;> simp [mbxEvcntRead, Nat.not_le.mpr hch, hm]

/-- Settles O24: a word written is stored, rejected or a violation by the three lemmas of `mbxWrite`; a word read is returned by `mbxRead`, whose
value and channel the command interface leaves alone. -/
theorem mailboxWordsAreStoredReadAndRefused : Obligations.MailboxWordsAreStoredReadAndRefused := by
  unfold Obligations.MailboxWordsAreStoredReadAndRefused
  refine ⟨fun m ch w s hch hm hf => ⟨_, rfl, ?stored⟩, fun m ch w s hch hm hf => ⟨_, rfl, mbxWrite_of_full w hch hm hf⟩,
    fun m ch w s hch hm => ⟨_, rfl, ?strangerWrites⟩, fun m ch s hch hm hf => ⟨_, rfl, ?read⟩,
    fun m ch s hch hm hf => ⟨_, rfl, (dataRead_of_none (.inr hf)).trans (mbxRead_of_empty hch hm hf)⟩,
    fun m ch s hch hm => ⟨_, rfl, ?strangerReads⟩, fun node ch w s hch hv hs hn => ⟨_, rfl, ?remote⟩,
    fun m ch s hch hm => ⟨_, rfl, mbxEvcntRead_of_party hch hm⟩⟩
  case stored =>
    rw [mbxWrite_of_empty w hch hm hf]
    beta_reduce
    rw [State.chan_storeWord]
    exact ⟨rfl, rfl, rfl, rfl, fun c hc => s.chan_storeWord_other m w hc, s.locks_storeWord m ch w,
      (s.storeWord_keeps m ch w).touches _ (by decide)⟩
  case strangerWrites =>
    rw [mbxWrite_of_stranger w hch hm]
    exact ⟨(s.chan_violation m ch ch).trans (State.chan_setChan _ _ _),
      fun c hc => (s.chan_violation m ch c).trans (State.chan_setChan_other _ _ hc), (s.violation_keeps m ch).touches _ (by decide)⟩
  case read =>
    refine ⟨by rw [dataRead_rd, mbxRead_of_full hch hm hf]; rfl, fun hhost => ?_⟩
    have hchan : (dataRead m ch s).chan ch = { s.chan ch with full := false } := by
      rw [State.chan_of_mbx (dataRead_mbx hhost ch s), mbxRead_of_full hch hm hf]
      exact s.chan_acknowledge ch
    rw [hchan]
    exact ⟨rfl, rfl⟩
  case strangerReads =>
    rw [dataRead_of_none (.inl hm), mbxRead_of_stranger hch hm]
    exact ⟨rfl, (s.chan_violation m ch ch).trans (State.chan_setChan _ _ _),
      fun c hc => (s.chan_violation m ch c).trans (State.chan_setChan_other _ _ hc)⟩
  case remote =>
    have hchan := chan_remoteWord w hch hv hs hn
    have hput := (hchan ch).trans (State.chan_setChan _ _ _)
    beta_reduce
    rw [hput]
    exact ⟨rfl, rfl, rfl, rfl, fun hf => ⟨by simp [MbxChannel.remotePut, hf], by simp [MbxChannel.remotePut, hf]⟩,
      fun c hc => (hchan c).trans (State.chan_setChan_other _ _ hc)⟩

end Sys2Proof.Machine
end

section
/-! SUPPORT. Locks, doorbells and bindings (R302, R308 to R315): who holds a lock after a read or a write, what the writes of the doorbell
registers leave pending, and what clears the event counters. -/

namespace Sys2Proof.Machine

variable {s t : State} {m k : Nat}

/-! ### Locks (R308 to R310) -/

@[simp] theorem State.lock_setLock (s : State) (k : Nat) (o : Option Nat) : (s.setLock k o).lock k = o := Table.get_set_same _ _ _ _

theorem State.lock_setLock_other (s : State) (o : Option Nat) {j k : Nat} (h : j ≠ k) : (s.setLock k o).lock j = s.lock j :=
  Table.get_set_other _ _ _ h

theorem State.lock_of_mbx (h : t.mbx = s.mbx) (k : Nat) : t.lock k = s.lock k := by
  rw [State.lock, h, State.lock]

theorem lockRead_of_free (m : Nat) (hk : k < 16) (h : s.lock k = none) : lockRead m k s = (s.setLock k (some m)).returns 0 := by
  simp [lockRead, Nat.not_le.mpr hk, h]

theorem lockRead_of_held {o : Nat} (m : Nat) (hk : k < 16) (h : s.lock k = some o) : lockRead m k s = s.returns (64 + o) := by
  simp [lockRead, Nat.not_le.mpr hk, h]

theorem lockWrite_of_owner (hk : k < 16) (h : s.lock k = some m) : lockWrite m k s = s.setLock k none := by
  simp [lockWrite, Nat.not_le.mpr hk, h]

theorem lockWrite_of_force {o : Nat} (hk : k < 16) (h : s.lock k = some o) (ho : o ≠ 0) : lockWrite 0 k s = s.breakLock k := by
  simp [lockWrite, Nat.not_le.mpr hk, h, ho]

/-- A write by a master that neither owns the lock nor may force it is refused (R309). -/
theorem lockWrite_of_other (hk : k < 16) (hm : m ≠ 0) (h : s.lock k ≠ some m) : lockWrite m k s = s.accessErr m := by
  rw [lockWrite, if_neg (Nat.not_le.mpr hk)]
  cases ho : s.lock k with
  | none => exact if_neg hm
  | some o =>
    have hne : o ≠ m := fun e => h (e ▸ ho)
    simp only [if_neg hne, if_neg hm]

/-- A lock released by force is free, and its event leaves the locks alone (R310). -/
theorem State.lock_breakLock (s : State) (k j : Nat) : (s.breakLock k).lock j = (s.setLock k none).lock j := by
  unfold State.breakLock
  split
  next h =>
    by_cases hj : j = k
    · rw [hj, h, State.lock_setLock]
    · rw [State.lock_setLock_other _ _ hj]
  next o h => exact State.lock_of_mbx (State.event_keeps _ _ _ _ _ .mbx rfl) j

/-! ### Doorbells (R312 to R315) -/

/-- A bit rung is pending at its master, and no other doorbell of the device changes (R312, R314). -/
theorem State.bells_ring (s : State) (m b j : Nat) : (s.ring m b).bells j =
    (s.setBells m { s.bells m with pend := setBit (s.bells m).pend b, ev := Table.upd 0 (s.bells m).ev b (fun n => satAdd 255 n 1) }).bells j := by
  unfold State.ring
  dsimp only
  split <;> rfl

/-- A further MSI changes no doorbell (R313). -/
theorem State.bells_signalAgain (s : State) (m j : Nat) : (s.signalAgain m).bells j = s.bells j := by
  unfold State.signalAgain
  split <;> rfl

theorem dbRingWrite_of_allowed {w : Word} (h : mayRing m (field w.toNat 0 6) (field w.toNat 8 5) = true) :
    dbRingWrite m w s = s.ring (field w.toNat 0 6) (field w.toNat 8 5) := if_pos h

theorem dbRingWrite_of_refused {w : Word} (h : mayRing m (field w.toNat 0 6) (field w.toNat 8 5) = false) :
    dbRingWrite m w s = s.accessErr m := if_neg (Bool.eq_false_iff.mp h)

/-- Counters cleared one after another: those named read zero, every other as before. -/
theorem Table.get_foldl_clear {α : Type} (key : α → Nat) (l : List α) (t : Table Nat) (k : Nat) :
    Table.get 0 (l.foldl (fun t i => Table.set 0 t (key i) 0) t) k = if k ∈ l.map key then 0 else Table.get 0 t k := by
  induction l generalizing t with
  | nil => simp
  | cons x l ih =>
    rw [List.foldl_cons, ih, Table.get_set]
    by_cases hk : k = key x <;> simp [hk]

theorem dbEvcntRead_of_lt {j : Nat} (m : Nat) (s : State) (hj : j < 8) : dbEvcntRead m j s = (s.setBells m { s.bells m with
    ev := (List.range 4).foldl (fun t i => Table.set 0 t (4 * j + i) 0) (s.bells m).ev }).returns ((s.bells m).evWord j) :=
  if_neg (Nat.not_le.mpr hj)

/-! ### Bindings (R302) -/

theorem mbxBindWrite_of_open {ch : Nat} (w : Word) (hch : ch < 64) (h : s.mbx.bindLocked = false) :
    mbxBindWrite 0 ch w s = s.setChan ch ((s.chan ch).bind w.toNat) := by
  simp [mbxBindWrite, hch, h]

theorem mbxBindWrite_of_refused (ch : Nat) (w : Word) (h : m ≠ 0 ∨ s.mbx.bindLocked = true) : mbxBindWrite m ch w s = s := by
  rcases h with h | h <;> simp [mbxBindWrite, h]

/-- Settles O25: each access of a lock, a doorbell register or a binding is what its lemma above gives for the master that makes it. -/
theorem locksDoorbellsAndBindings : Obligations.LocksDoorbellsAndBindings := by
  unfold Obligations.LocksDoorbellsAndBindings
  refine ⟨fun m k s hk h => ⟨_, rfl, ?take⟩, fun m k o s hk h => ⟨_, rfl, lockRead_of_held m hk h⟩, fun m k w s hk h => ⟨_, rfl, ?free⟩,
    fun k o w s hk h ho => ⟨_, rfl, ?force⟩, fun m k w s hk hm h => ⟨_, rfl, lockWrite_of_other hk hm h⟩, fun m w s => ⟨_, rfl, ?pend⟩,
    fun m w s => ⟨_, rfl, ?enable⟩, fun m w s hring => ⟨_, rfl, ?ring⟩, fun m w s h => ⟨_, rfl, dbRingWrite_of_refused h⟩,
    fun m j s hj => ⟨_, rfl, ?evcnt⟩, fun ch w s hch h => ⟨_, rfl, mbxBindWrite_of_open w hch h⟩,
    fun m ch w s h => ⟨_, rfl, mbxBindWrite_of_refused ch w h⟩, fun w s h => ⟨_, rfl, ?bindLock⟩,
    fun m w s h => ⟨_, rfl, if_neg fun hm => h hm.1⟩, fun m s h => ⟨_, rfl, ?up⟩⟩
  case take =>
    have hkeeps := lockRead_keeps m k s
    rw [lockRead_of_free m hk h] at hkeeps ⊢
    exact ⟨rfl, State.lock_setLock _ _ _, fun j hj => State.lock_setLock_other s _ hj, hkeeps.touches _ (by decide)⟩
  case free =>
    rw [lockWrite_of_owner hk h]
    exact ⟨State.lock_setLock _ _ _, fun j hj => State.lock_setLock_other s _ hj, (s.setLock_keeps k none).touches _ (by decide)⟩
  case force =>
    rw [lockWrite_of_force hk h ho]
    exact ⟨(s.lock_breakLock k k).trans (State.lock_setLock _ _ _),
      fun j hj => (s.lock_breakLock k j).trans (State.lock_setLock_other s _ hj), (s.breakLock_keeps k).touches _ (by decide)⟩
  case pend =>
    have hbells := State.bells_signalAgain (s.setBells m { s.bells m with pend := w1c (s.bells m).pend w.toNat }) m
    exact ⟨(congrArg Doorbells.pend (hbells m)).trans (by simp), fun j hj => (hbells j).trans (State.bells_setBells_other _ _ hj),
      (dbPendWrite_keeps m w s).touches _ (by decide)⟩
  case enable =>
    have hbells := State.bells_signalAgain (s.setBells m { s.bells m with enable := w.toNat }) m
    exact ⟨(congrArg Doorbells.enable (hbells m)).trans (by simp), (congrArg Doorbells.pend (hbells m)).trans (by simp),
      fun j hj => (hbells j).trans (State.bells_setBells_other _ _ hj), (dbEnableWrite_keeps m w s).touches _ (by decide)⟩
  case ring =>
    rw [dbRingWrite_of_allowed hring]
    have hbells := s.bells_ring (field w.toNat 0 6) (field w.toNat 8 5)
    exact ⟨(congrArg Doorbells.pend (hbells _)).trans (by simp), fun j hj => (hbells j).trans (State.bells_setBells_other _ _ hj),
      (s.ring_keeps _ _).touches _ (by decide)⟩
  case evcnt =>
    have hkeeps := dbEvcntRead_keeps m j s
    rw [dbEvcntRead_of_lt m s hj] at hkeeps ⊢
    refine ⟨rfl, fun i hi => ?_, (congrArg Doorbells.pend (State.bells_setBells s m _)).trans rfl, hkeeps.touches _ (by decide)⟩
    refine (congrArg (fun d : Doorbells => Table.get 0 d.ev (4 * j + i)) (State.bells_setBells _ _ _)).trans ?_
    exact (Table.get_foldl_clear (fun i => 4 * j + i) _ _ _).trans (if_pos (List.mem_map_of_mem (List.mem_range.mpr hi)))
  case bindLock =>
    have hkeeps := mbxBindLock_keeps 0 w s
    rw [mbxBindLock, if_pos ⟨rfl, h⟩] at hkeeps ⊢
    exact ⟨rfl, hkeeps.touches _ (by decide)⟩
  case up =>
    have hkeeps := execReceiverDomainUp_keeps m s _ rfl
    rw [if_pos (List.contains_iff_mem.mpr h)] at hkeeps ⊢
    exact ⟨by simp, by simp, rfl, hkeeps.touches _ (by decide)⟩

end Sys2Proof.Machine
end

section
/-! SUPPORT. Host ports and the command interface (R319 to R346): what a port reads after another part is written, what a word that the device
itself writes leaves alone, how a command is accepted, committed and completed, and what the reset of a port ends. -/

namespace Sys2Proof.Machine

variable {s t u : State} {c d : HostCmd} {m p b ch : Nat}

/-! ### Ports, banks and doorbells read after another part is written -/

theorem isHost_iff : isHost m = true ↔ m = 4 ∨ m = 5 := by simp [isHost]

@[simp] theorem State.port_setPort (s : State) (p : Nat) (v : HostPort) : (s.setPort p v).port p = v := by
  unfold State.setPort State.port
  split <;> simp [*]

@[simp] theorem State.lock_setBells (s : State) (n k : Nat) (v : Doorbells) : (s.setBells n v).lock k = s.lock k := rfl

theorem State.bells_of_mbx (h : t.mbx = s.mbx) (j : Nat) : t.bells j = s.bells j := by
  rw [State.bells, h, State.bells]

theorem State.port_of_host (h : t.host = s.host) (p : Nat) : t.port p = s.port p := by
  rw [State.port, h, State.port]

theorem State.isSender_of_mbx (h : t.mbx = s.mbx) (c : MbxChannel) (m : Nat) : t.isSender c m = s.isSender c m := by
  simp only [State.isSender, State.lock_of_mbx h]

theorem State.bank_of_pool (h : t.pool = s.pool) (b : Nat) : t.bank b = s.bank b := by
  rw [State.bank, h, State.bank]

theorem State.setPort_txns (s : State) (p : Nat) (v : HostPort) : (s.setPort p v).host.txns = s.host.txns := by
  unfold State.setPort
  split <;> rfl

/-- An event leaves the transactions alone. -/
theorem State.event_txns (s : State) (loc code subject : Nat) (data : List Byte) : (s.event loc code subject data).host.txns = s.host.txns := by
  simp only [State.event, State.setPort_txns]
  split
  · exact congrArg HostState.txns (State.record_keeps s _ _ _ .host rfl)
  · exact congrArg HostState.txns (((State.record_keeps s _ _ _).trans (State.record_keeps _ _ _ _)) .host rfl)

/-! ### Masks of banks -/

theorem bitAt_setBit (n b : Nat) : bitAt (setBit n b) b = true := bitAt_setBit_of (.inr rfl)

theorem bitAt_clrBit (n b : Nat) : bitAt (clrBit n b) b = false := by
  unfold clrBit
  split
  next hset =>
    have hdiv : (n - 2 ^ b) / 2 ^ b = n / 2 ^ b - 1 := by simpa using Nat.sub_mul_div n (2 ^ b) 1
    simp only [bitAt, beq_iff_eq] at hset
    simp only [bitAt, hdiv, beq_eq_false_iff_ne]
    omega
  next hclear => exact Bool.eq_false_iff.mpr hclear

/-! ### CREDIT words (R324, R326, R327) -/

theorem HostPort.takeWord_of_find {v : HostPort} {f : Nat → Bool} {w : Word} (h : v.inbox.find? (fun w => f w.toNat) = some w) :
    v.takeWord f = some (w.toNat, { v with inbox := v.inbox.erase w }) := by
  rw [HostPort.takeWord, h]

/-- A handover to Sheaf core 0 that is complete makes it the owner (R326, R567). -/
theorem owns_handoverDone (hn : (s.bank b).newOwner = 0) (hp : (s.bank b).pending = true) : (handoverDone b s).owns 0 b = true := by
  simp [handoverDone, State.owns, hn, hp]

/-- A bank CREDIT word hands its bank over: the port's record, and the bank once Sheaf core 0 owns it. -/
theorem handBank_of_find {w : Word} (h : (s.port p).inbox.find? (fun w => field w.toNat 24 4 == 1) = some w) : handBank p s =
    (if (s.bank (field w.toNat 0 6)).newOwner = 0 then handoverDone (field w.toNat 0 6) s else s).setPort p { s.port p with
      inbox := (s.port p).inbox.erase w, held := setBit (s.port p).held (field w.toNat 0 6), named := clrBit (s.port p).named (field w.toNat 0 6) } := by
  rw [handBank, HostPort.takeWord_of_find h]

/-- The first CREDIT word due to a port is taken. -/
def State.takeCredit (s : State) (p : Nat) : State := s.setPort p { s.port p with creditsDue := (s.port p).creditsDue.drop 1 }

/-- One bank CREDIT word goes out while a channel is empty (R327). -/
def postCredit (p : Nat) (s : State) (b : Nat) : State :=
  match s.emptyChan p with
  | none => s
  | some ch => mbxWrite 0 ch (bankCredit b) (s.takeCredit p)

theorem postCredits_eq (p : Nat) (s : State) :
    postCredits p s = if (s.port p).inReset then s else (s.port p).creditsDue.foldl (postCredit p) s := rfl

theorem postCredits_of_none (h : (s.port p).creditsDue = []) : postCredits p s = s := by
  rw [postCredits_eq, h]
  exact ite_self s

/-- A word of the device itself is no bank CREDIT word of a host port: it touches the mailboxes alone. -/
theorem mbxWrite_device_keeps (ch : Nat) (w : Word) (s : State) : Keeps 134217984 s (mbxWrite 0 ch w s) := by
  unfold mbxWrite
  refine .ite (.refl _ s) (.ite ?violation (.ite ?reject ?stored))
  case violation =>
    have herr : s.violation 0 ch = s.updChan ch (fun c => { c with violation := true, violEv := satAdd 255 c.violEv 1 }) := rfl
    rw [herr]
    exact (State.updChan_keeps s ch _).mono rfl
  case reject => exact (State.updChan_keeps s ch _).mono rfl
  case stored =>
    have hput : Keeps 256 s (s.wordPut 0 ch w) := State.updChan_keeps s ch _
    exact (hput.mono rfl).trans (State.fullRose_keeps _ ch)

/-- A word of the device itself stands in the empty channel that it is bound to send on. -/
theorem mbxWrite_device_stored (w : Word) (hch : ch < 64) (hs : s.isSender (s.chan ch) 0 = true) (hf : (s.chan ch).full = false) :
    ((mbxWrite 0 ch w s).chan ch).word = w ∧ ((mbxWrite 0 ch w s).chan ch).full = true := by
  rw [mbxWrite_of_empty w hch hs hf, State.chan_storeWord]
  exact ⟨rfl, rfl⟩

/-- One state follows from another by CREDIT words posted to port `p`: of the ports only the words due change. -/
structure OnlyCredits (s t : State) : Prop where
  held : ∀ q, (t.port q).held = (s.port q).held
  keeps : Keeps 134218112 s t

theorem OnlyCredits.refl (s : State) : OnlyCredits s s := ⟨fun _ => rfl, .refl _ s⟩

theorem OnlyCredits.trans (h : OnlyCredits s t) (k : OnlyCredits t u) : OnlyCredits s u :=
  ⟨fun q => (k.held q).trans (h.held q), h.keeps.trans k.keeps⟩

theorem State.held_takeCredit (s : State) (p q : Nat) : ((s.takeCredit p).port q).held = (s.port q).held := by
  unfold State.takeCredit State.setPort State.port
  split <;> split <;> rfl

theorem postCredit_onlyCredits (p : Nat) (s : State) (b : Nat) : OnlyCredits s (postCredit p s b) := by
  unfold postCredit
  split
  next => exact .refl s
  next ch _ =>
    have hwrite := mbxWrite_device_keeps ch (bankCredit b) (s.takeCredit p)
    exact ⟨fun q => (congrArg HostPort.held (State.port_of_host (hwrite .host rfl) q)).trans (s.held_takeCredit p q),
      ((State.setPort_keeps s p _).mono rfl).trans (hwrite.mono rfl)⟩

theorem postCredits_onlyCredits (p : Nat) (s : State) : OnlyCredits s (postCredits p s) := by
  rw [postCredits_eq]
  split
  · exact .refl s
  · exact List.foldlRecOn _ _ (.refl s) fun t ht b _ => ht.trans (postCredit_onlyCredits p t b)

/-- A bank goes back to one port if a command has named it there and none keeps it (R327). -/
def returnTo (b : Nat) (s : State) (p : Nat) : State :=
  let v := s.port p
  if bitAt v.held b && bitAt v.named b && !s.host.cmds.any (fun c => c.keeps p b) then postCredits p (giveBank p b s) else s

theorem returnBank_eq (s : State) (hb : b < 64) : returnBank b s = returnTo b (returnTo b s 4) 5 := if_neg (Nat.not_le.mpr hb)

/-- A bank that a port does not hold, or that no command has named there, stays. -/
theorem returnTo_of_not_named (h : bitAt (s.port p).held b = false ∨ bitAt (s.port p).named b = false) : returnTo b s p = s := by
  rcases h with h | h <;> simp [returnTo, h]

/-- A bank that a command has named and none keeps any more goes back with its CREDIT word. -/
theorem returnTo_of_done (hheld : bitAt (s.port p).held b = true) (hnamed : bitAt (s.port p).named b = true)
    (hkeeps : ∀ c ∈ s.host.cmds, c.keeps p b = false) : returnTo b s p = postCredits p (giveBank p b s) := by
  have hany : s.host.cmds.any (fun c => c.keeps p b) = false := by simpa using hkeeps
  simp [returnTo, hheld, hnamed, hany]

theorem giveBank_cmds (p b : Nat) (s : State) : (giveBank p b s).host.cmds = s.host.cmds := State.setPort_cmds _ _ _

theorem bank_giveBank (p b : Nat) (s : State) : (giveBank p b s).bank b = { s.bank b with owner := p, pending := false } := by
  have hpool : (giveBank p b s).pool = (s.setBank b { s.bank b with owner := p, pending := false }).pool := State.setPort_keeps _ p _ .pool rfl
  rw [State.bank, hpool]
  exact State.bank_setBank s b _

/-! ### Commands in hand (R331, R334, R339) -/

theorem State.mem_swapCmd (d : HostCmd) (hc : c ∈ s.host.cmds) : d ∈ (s.swapCmd c d).host.cmds :=
  List.mem_map.mpr ⟨c, hc, if_pos rfl⟩

theorem mem_dropSilent (hd : d ∈ s.host.cmds) (hs : d.silent = false) (hp : isHost d.hdr.port = true) : d ∈ (dropSilent s).host.cmds :=
  List.mem_filter.mpr ⟨hd, by simp [hs, hp]⟩

/-- A command found by its stage, port and tag is of that port. -/
theorem port_of_find? {l : List HostCmd} {st : Stage} {tag : Nat}
    (h : l.find? (fun c => c.stage == st && c.hdr.port == p && c.hdr.tag == tag) = some c) : c.hdr.port = p := by
  have hfound := List.find?_some h
  simp only [Bool.and_eq_true, beq_iff_eq] at hfound
  exact hfound.1.2

/-! ### Acceptance (R20, R329 to R332) -/

theorem Passes.find?_eq_none {ts : List Test} (h : Passes ts) : ts.find? (fun t => t.1) = none :=
  List.find?_eq_none.mpr fun x hx => by simpa using List.all_eq_true.mp h x hx

theorem acceptNext_of_read (hc : s.host.cmds.find? (fun x => x.stage == .read) = some c) (hr : s.cell.ready = true) :
    acceptNext s = acceptCmd c s := by
  simp only [acceptNext, hc, hr, if_true]

theorem nameBank_of_unheld (h : bitAt (s.port p).held b = false) : nameBank p b s = s := by
  simp [nameBank, h]

theorem nameBank_cmds (p b : Nat) (s : State) : (nameBank p b s).host.cmds = s.host.cmds := by
  unfold nameBank
  dsimp only
  split
  · exact State.setPort_cmds _ _ _
  · rfl

/-- A block in a bank that is not held for its port is not read (R328, the first test of R332). -/
theorem acceptCmd_of_unheld (h : bitAt (s.port c.hdr.port).held c.hdr.bank = false) :
    acceptCmd c s = s.swapCmd c (c.refuse St.bankNotHeld 0 false) := by
  simp only [acceptCmd, State.readHdr, State.blockTests, nameBank_of_unheld h, h, Bool.not_false, List.find?_cons_of_pos, Bool.false_eq_true, if_false]
  split <;> rfl

/-- The command that a block spells, once it is taken (R329). -/
def HostCmd.taken (c : HostCmd) (s : State) : HostCmd :=
  let r := s.readHdr c.hdr
  let args := s.blockAt r.1 32 r.1.len
  { c with hdr := r.1, code := r.2, args := args, dataBank := (dataBankAt r.2).map (fun i => uAt args i 2) }

/-- The banks that a block lies in and names are named since their handover (R327). -/
def State.blockNamed (s : State) (c : HostCmd) : State :=
  let u := nameBank c.hdr.port c.hdr.bank s
  match (c.taken s).dataBank with
  | some b => nameBank c.hdr.port b u
  | none => u

theorem State.blockNamed_keeps (s : State) (c : HostCmd) : Keeps 128 s (s.blockNamed c) := by
  unfold State.blockNamed
  dsimp only
  split
  · exact (nameBank_keeps _ _ _).trans (nameBank_keeps _ _ _)
  · exact nameBank_keeps _ _ _

theorem State.blockNamed_cmds (s : State) (c : HostCmd) : (s.blockNamed c).host.cmds = s.host.cmds := by
  unfold State.blockNamed
  dsimp only
  split
  · exact (nameBank_cmds _ _ _).trans (nameBank_cmds _ _ _)
  · exact nameBank_cmds _ _ _

/-- A block that passes every test of its acceptance goes on to its edge (R20, R332). -/
theorem acceptCmd_of_passes (hrole : s.pair.role ≠ 1) (hblock : Passes (s.blockTests (c.taken s).hdr (c.taken s).args))
    (hhead : Passes (s.headTests (c.taken s).hdr (c.taken s).code))
    (hargs : s.argStatus (c.taken s).hdr (c.taken s).code (c.taken s).args = none) :
    acceptCmd c s = finishAcceptance (c.taken s) ((s.blockNamed c).swapCmd c (c.taken s)) := by
  have hsound : s.blockSpoiled (c.taken s).hdr = none := by
    have h := hblock.of_mem (List.mem_cons_of_mem _ List.mem_cons_self)
    simpa using h
  have hblock := hblock.find?_eq_none
  have hhead := hhead.find?_eq_none
  simp only [HostCmd.taken] at hsound hblock hhead hargs
  simp only [acceptCmd, hsound, hblock, hhead, hargs, if_neg hrole, State.blockNamed, HostCmd.taken]
  rfl

theorem countRoll_cmds (p : Nat) (s : State) : (countRoll p s).host.cmds = s.host.cmds := by
  unfold countRoll
  dsimp only
  split
  · exact State.setPort_cmds _ _ _
  · rfl

/-- The state with what an edge taken by a command counts and closes: a roll, and the transaction that it commits (R20, R345). -/
def State.edgeTaken (s : State) (c : HostCmd) : State :=
  let u := if s.late && (!c.hdr.atTick || decide (s.targetEdge c.hdr < s.earliest)) then countRoll c.hdr.port s else s
  if c.code = 0x0205 then { u with host := { u.host with txns := u.host.txns.map (fun x =>
    if x.id = uAt c.args 0 2 ∧ x.port = c.hdr.port then { x with committing := true } else x) } } else u

theorem State.edgeTaken_cmds (s : State) (c : HostCmd) : (s.edgeTaken c).host.cmds = s.host.cmds := by
  have hroll : (if s.late && (!c.hdr.atTick || decide (s.targetEdge c.hdr < s.earliest)) then countRoll c.hdr.port s else s).host.cmds =
      s.host.cmds := by
    split
    · exact countRoll_cmds _ _
    · rfl
  unfold State.edgeTaken
  dsimp only
  split <;> exact hroll

/-- A command that has taken its edge: it is held for its target, if it has one, and waits otherwise (R20, R337). -/
def HostCmd.atEdge (c : HostCmd) (s : State) : HostCmd :=
  if c.hdr.atTick then { c with acceptGtc := s.gtc, stage := .held, commitAt := s.targetEdge c.hdr }
  else { c with acceptGtc := s.gtc, stage := .waiting, commitAt := s.earliest, slipped := false }

theorem HostCmd.atEdge_spec (c : HostCmd) (s : State) : (c.atEdge s).stage = (if c.hdr.atTick then .held else .waiting) ∧
    (c.atEdge s).commitAt = (if c.hdr.atTick then s.targetEdge c.hdr else s.earliest) ∧ (c.atEdge s).hdr = c.hdr ∧ (c.atEdge s).code = c.code ∧
    (c.atEdge s).args = c.args ∧ (c.atEdge s).acceptGtc = s.gtc := by
  unfold HostCmd.atEdge
  split <;> exact ⟨rfl, rfl, rfl, rfl, rfl, rfl⟩

theorem State.earliest_of_clock (hcell : t.cell = s.cell) (htime : t.time = s.time) : t.earliest = s.earliest := by
  have hlate : t.late = s.late := by simp only [State.late, State.gtc_of_time htime, hcell]
  have hlen : t.nextLen = s.nextLen := by rw [State.nextLen, State.tickLen, hcell]; rfl
  rw [State.earliest, hlate, hlen, hcell]
  rfl

theorem State.targetEdge_of_cell (hcell : t.cell = s.cell) (h : Hdr) : t.targetEdge h = s.targetEdge h := by
  simp only [State.targetEdge, State.targetTick, State.tickLen, hcell]

theorem HostCmd.atEdge_of_clock (hcell : t.cell = s.cell) (htime : t.time = s.time) (c : HostCmd) : c.atEdge t = c.atEdge s := by
  simp only [HostCmd.atEdge, State.earliest_of_clock hcell htime, State.targetEdge_of_cell hcell, State.gtc_of_time htime]

/-- A command outside a transaction whose target, if it has one, lies ahead takes its edge. -/
theorem finishAcceptance_ahead (htxn : c.hdr.txn = false) (hahead : c.hdr.atTick = true → s.earliest < s.targetEdge c.hdr) :
    finishAcceptance c s = (s.edgeTaken c).swapCmd c (c.atEdge s) := by
  have hmissed : ¬ (c.hdr.atTick = true ∧ s.targetEdge c.hdr < s.earliest ∧ c.hdr.strict = true) := fun h => Nat.lt_asymm (hahead h.1) h.2.1
  refine ((if_neg (Bool.eq_false_iff.mp htxn)).trans (if_neg hmissed)).trans ?_
  rcases Bool.eq_false_or_eq_true c.hdr.atTick with htick | htick
  · have hedge : c.atEdge s = { c with acceptGtc := s.gtc, stage := .held, commitAt := s.targetEdge c.hdr } := if_pos htick
    exact (if_pos ⟨htick, hahead htick⟩).trans (congrArg ((s.edgeTaken c).swapCmd c) hedge.symm)
  · have hedge : c.atEdge s = { c with acceptGtc := s.gtc, stage := .waiting, commitAt := s.earliest
                                       slipped := c.hdr.atTick && decide (s.targetEdge c.hdr < s.earliest) } := by
      simp [HostCmd.atEdge, htick]
    exact (if_neg fun h => Bool.eq_false_iff.mp htick h.1).trans (congrArg ((s.edgeTaken c).swapCmd c) hedge.symm)

/-- A command whose block passes every test is in hand at its edge (R20, R332). -/
theorem mem_acceptCmd_of_passes (hc : c ∈ s.host.cmds) (hrole : s.pair.role ≠ 1)
    (hblock : Passes (s.blockTests (c.taken s).hdr (c.taken s).args)) (hhead : Passes (s.headTests (c.taken s).hdr (c.taken s).code))
    (hargs : s.argStatus (c.taken s).hdr (c.taken s).code (c.taken s).args = none) (htxn : (c.taken s).hdr.txn = false)
    (hahead : (c.taken s).hdr.atTick = true → s.earliest < s.targetEdge (c.taken s).hdr) :
    (c.taken s).atEdge s ∈ (acceptCmd c s).host.cmds := by
  have hkeeps : Keeps 128 s ((s.blockNamed c).swapCmd c (c.taken s)) := (s.blockNamed_keeps c).trans (State.swapCmd_keeps _ _ _)
  have hcell := hkeeps .cell rfl
  have htime := hkeeps .time rfl
  have hmem : c.taken s ∈ ((s.blockNamed c).swapCmd c (c.taken s)).host.cmds := State.mem_swapCmd _ (by rwa [s.blockNamed_cmds])
  rw [acceptCmd_of_passes hrole hblock hhead hargs, finishAcceptance_ahead htxn, HostCmd.atEdge_of_clock hcell htime]
  · exact State.mem_swapCmd _ (by rwa [State.edgeTaken_cmds])
  · rwa [State.earliest_of_clock hcell htime, State.targetEdge_of_cell hcell]

/-- A shadow's acknowledgement ends the transfer of its block, and of no other (R278). -/
theorem shadowAck_blocks {x : Nat} {b : Nat × Nat × Nat} (h : s.pair.blocks.find? (fun b => b.1 == x) = some b) :
    (shadowAck x s).pair.blocks = s.pair.blocks.filter (fun y => y.1 != x) := by
  simp only [shadowAck, h]
  split
  · rfl
  · split <;> exact congrArg PairState.blocks (finishAcceptance_keeps _ _ .pair rfl)

/-! ### Commits and completions (R337, R339, R346) -/

/-- A command in hand whose code has a meaning commits by it. -/
theorem commitOne_of_mem {tick : Nat} {f : Hdr → List Byte → State → State × Reply} (hc : c ∈ s.host.cmds) (hf : runHost c.code = some f) :
    commitOne tick c s = (f c.hdr c.args s).1.swapCmd c (c.answered (f c.hdr c.args s).2 tick) := by
  simp [commitOne, hc, hf]

/-- The tick count of the edge at which a held command commits (R337). -/
def HostCmd.edgeTick (c : HostCmd) (s : State) : Nat := if c.commitAt ≤ s.cell.edge then s.cell.tick else c.commitAt / s.tickLen

theorem commitHeld_of_held {tag : Nat}
    (hc : s.host.cmds.find? (fun c => c.stage == .held && c.hdr.port == p && c.hdr.tag == tag) = some c) :
    commitHeld p tag s = dropSilent (commitOne (c.edgeTick s) c (s.advanceTo c.commitAt)) := by
  simp only [commitHeld, hc, HostCmd.edgeTick]

/-- A SYS.EVENT_MASK that its tests let pass sets the mask of its port (R347). -/
theorem commitOne_of_eventMask {tick : Nat} (hc : c ∈ s.host.cmds) (hcode : c.code = 0x0105) (hp : Passes (needsSysEventMask c.hdr c.args s)) :
    commitOne tick c s =
      (s.setPort c.hdr.port { s.port c.hdr.port with mask := uAt c.args 0 2 }).swapCmd c (c.answered {} tick) := by
  have hf : runHost c.code = some runSysEventMask := by rw [hcode]; rfl
  have hrun : runSysEventMask c.hdr c.args s = okReply (s.setPort c.hdr.port { s.port c.hdr.port with mask := uAt c.args 0 2 }) := tested_pass hp
  rw [commitOne_of_mem hc hf, hrun]
  rfl

/-- The answer of a field device ends the command that asked it (R339, R352). -/
theorem completeLong_of_request {tag detail : Nat} {data : List Byte}
    (hc : s.host.cmds.find? (fun c => c.stage == .running && c.hdr.port == p && c.hdr.tag == tag) = some c) (hcode : c.code = 0x0708)
    (hst : c.reply.status < 0x0200) : completeLong p tag detail data s =
      dropSilent ((s.updNet (uAt c.args 0 2) (fun k => { k with acyclic := k.acyclic.erase (c.hdr.tag, c.hdr.port) })).swapCmd c
        { c with stage := .replied, reply := { data := data, detail := detail } }) := by
  have hown : ownEnd 0x0708 = false := rfl
  simp only [completeLong, hc, finishWork, if_neg (Nat.not_le.mpr hst), hcode, hown, Bool.false_eq_true, if_false]

theorem State.requestEnded_keeps (s : State) (n : Nat) (f : Network → Network) (c d : HostCmd) :
    Keeps 33554560 s (dropSilent ((s.updNet n f).swapCmd c d)) :=
  ((State.updNet_keeps s n f).mono rfl).trans (((State.swapCmd_keeps _ c d).trans (dropSilent_keeps _)).mono rfl)

theorem execTxnExpiry_of_open {id : Nat} {x : Txn} (h : s.host.txns.find? (fun x => x.id == id && !x.committing) = some x) :
    execTxnExpiry id s = .next (((s.advanceTo (x.lastAt + x.timeoutMs * 1000000)).closeTxn id).event 0 0x8203 0 (toLE 2 id)) := by
  rw [execTxnExpiry, h]

/-! ### Responses and events posted (R323, R331, R336) -/

theorem State.full_of_emptyChan (h : s.emptyChan p = some ch) : (s.chan ch).full = false := by
  simpa using List.find?_some h

/-- A response without a reply record is its word on the channel. -/
theorem postResponse_of_bare (hc : s.host.cmds.find? (fun c => c.stage == .replied && c.hdr.port == p && !c.silent) = some c)
    (hch : s.emptyChan p = some ch) (hrep : c.hasReply = false) (hextra : c.extra = false) (hdue : (s.port p).creditsDue = []) :
    postResponse p s = mbxWrite 0 ch c.word (s.swapCmd c { c with stage := .posted, chan := ch }) := by
  simp only [postResponse, hc, hch, hrep, hextra, Bool.false_eq_true, if_false]
  exact postCredits_of_none ((congrArg HostPort.creditsDue (State.port_of_host (mbxWrite_device_keeps ch c.word _ .host rfl) p)).trans hdue)

/-- The next word of an event that is being posted goes to the empty event channel. -/
theorem postEvent_of_word {w : Word} {ws : List Word} (hr : (s.port p).inReset = false) (hw : (s.port p).words = w :: ws)
    (hf : (s.chan (eventChan p)).full = false) : postEvent p s = mbxWrite 0 (eventChan p) w (s.setPort p { s.port p with words := ws }) := by
  have hstart : startEvent p s = s := if_pos (by simp [hw])
  simp [postEvent, hr, hstart, hw, hf]

/-! ### The reset of a port (R319, R340) -/

/-- A channel cleared if it is the port's. -/
def clearChan (p : Nat) (s : State) (ch : Nat) : State := if (s.chan ch).ofPort p then s.updChan ch MbxChannel.cleared else s

/-- A lock freed by force if `m` owns it. -/
def freeLock (m : Nat) (s : State) (k : Nat) : State := if s.lock k = some m then s.breakLock k else s

/-- Every lock of a port that is reset is freed. -/
def locksFreed (p : Nat) (s : State) : State := (List.range 16).foldl (freeLock p) s

/-- Every channel of a port that is reset is cleared. -/
def chansCleared (p : Nat) (s : State) : State := (List.range 64).foldl (clearChan p) s

/-- Locks, channels and doorbells of a port that is reset. -/
def portSilenced (p : Nat) (s : State) : State :=
  (chansCleared p (locksFreed p s)).updBells p (fun d => { d with pend := 0, enable := 0 })

/-- The commands in hand after the reset of a port. -/
def State.cmdsAfterReset (s : State) (p : Nat) : List HostCmd :=
  s.host.cmds.filterMap (fun c => if c.hdr.port = p then (if c.silent then some c else c.afterReset) else some c)

/-- Commands and transactions of a port that is reset end. -/
def State.cmdsEnded (s : State) (p : Nat) : State :=
  { s with host := { s.host with
      cmds := s.cmdsAfterReset p, txns := s.host.txns.filter (fun t => t.port != p || committed (s.cmdsAfterReset p) t) } }

theorem State.cmdsEnded_cmds (s : State) (p : Nat) : (s.cmdsEnded p).host.cmds = s.cmdsAfterReset p := rfl

/-- The banks of a port that is reset go back to it. -/
def banksGiven (p : Nat) (s : State) : State :=
  ((List.range 64).filter (fun b => bitAt (s.port p).banks b && !s.owns p b && ((s.bank b).owner == 0 || (s.bank b).owner == p))).foldl
    (fun s b => giveBank p b s) s

theorem State.breakLocksOf_eq (s : State) (p : Nat) : s.breakLocksOf p = locksFreed p s := rfl

theorem resetPort_eq (p : Nat) (s : State) : resetPort p s =
    (banksGiven p ((portSilenced p s).cmdsEnded p)).setPort p { (banksGiven p ((portSilenced p s).cmdsEnded p)).port p with
      credit := 0, queue := [], eventSeq := 0, words := [], inbox := [], lostNow := 0, inReset := true } := by
  unfold resetPort banksGiven State.cmdsEnded State.cmdsAfterReset portSilenced chansCleared
  rw [State.breakLocksOf_eq]
  generalize locksFreed p s = u
  generalize List.range 64 = l
  rfl

theorem freeLock_lock (m : Nat) (s : State) (k j : Nat) : (freeLock m s k).lock j = if j = k ∧ s.lock k = some m then none else s.lock j := by
  unfold freeLock
  split
  next h =>
    rw [State.lock_breakLock]
    by_cases hj : j = k
    · rw [hj, State.lock_setLock, if_pos ⟨rfl, h⟩]
    · rw [State.lock_setLock_other _ _ hj, if_neg fun e => hj e.1]
  next h => rw [if_neg fun e => h e.2]

theorem freeLock_chan (m : Nat) (s : State) (k c : Nat) : (freeLock m s k).chan c = s.chan c := by
  unfold freeLock State.breakLock
  split
  · split
    · rfl
    · exact State.chan_of_mbx (State.event_keeps _ _ _ _ _ .mbx rfl) c
  · rfl

theorem clearChan_lock (p : Nat) (s : State) (ch k : Nat) : (clearChan p s ch).lock k = s.lock k := by
  unfold clearChan
  split <;> rfl

theorem clearChan_chan_other (p : Nat) (s : State) {ch c : Nat} (h : c ≠ ch) : (clearChan p s ch).chan c = s.chan c := by
  unfold clearChan
  split
  · exact State.chan_setChan_other _ _ h
  · rfl

theorem clearChan_full (h : (s.chan ch).ofPort p = true) : ((clearChan p s ch).chan ch).full = false := by
  rw [clearChan, if_pos h, State.updChan_eq, State.chan_setChan]
  rfl

theorem locksFreed_lock_ne (p : Nat) (s : State) {k : Nat} (hk : k < 16) : (locksFreed p s).lock k ≠ some p := by
  refine foldl_reaches (R := fun _ => True) (P := fun t : State => t.lock k ≠ some p) (List.mem_range.mpr hk) trivial (fun _ _ _ => trivial)
    (fun t _ => ?_) (fun t j h => ?_)
  · rw [freeLock_lock]
    by_cases h : t.lock k = some p <;> simp [h]
  · rw [freeLock_lock]
    by_cases hj : k = j ∧ t.lock j = some p <;> simp [hj, h]

theorem locksFreed_chan (p : Nat) (s : State) (c : Nat) : (locksFreed p s).chan c = s.chan c :=
  List.foldlRecOn (motive := fun t : State => t.chan c = s.chan c) _ (freeLock p) rfl fun t ht k _ => (freeLock_chan p t k c).trans ht

theorem chansCleared_lock (p : Nat) (s : State) (k : Nat) : (chansCleared p s).lock k = s.lock k :=
  List.foldlRecOn (motive := fun t : State => t.lock k = s.lock k) _ (clearChan p) rfl fun t ht c _ => (clearChan_lock p t c k).trans ht

/-- Each channel of the port is cleared in its turn, and no other turn touches it. -/
theorem chansCleared_full (hch : ch < 64) (h : (s.chan ch).ofPort p = true) : ((chansCleared p s).chan ch).full = false := by
  obtain ⟨t, -, hbefore, hafter⟩ := foldl_get_turn (f := clearChan p) (key := id) (get := State.chan) (R := fun _ => True) (s := s)
    (fun t y hne => clearChan_chan_other p t hne) trivial (fun _ _ _ => trivial) (List.map_id _ ▸ List.nodup_range) (List.mem_range.mpr hch)
  refine (congrArg MbxChannel.full hafter).trans (clearChan_full ?_)
  exact (congrArg (fun c => MbxChannel.ofPort c p) hbefore).trans h

/-- A port that is reset owns no lock (R310, R319). -/
theorem portSilenced_lock_ne (p : Nat) (s : State) {k : Nat} (hk : k < 16) : (portSilenced p s).lock k ≠ some p := by
  rw [portSilenced, State.updBells_eq, State.lock_setBells, chansCleared_lock]
  exact locksFreed_lock_ne p s hk

/-- Every channel of a port that is reset is empty (R319). -/
theorem portSilenced_full (hch : ch < 64) (h : (s.chan ch).ofPort p = true) : ((portSilenced p s).chan ch).full = false := by
  rw [portSilenced, State.updBells_eq, State.chan_setBells]
  exact chansCleared_full hch (by rwa [locksFreed_chan])

theorem portSilenced_bells (p : Nat) (s : State) : ((portSilenced p s).bells p).pend = 0 ∧ ((portSilenced p s).bells p).enable = 0 := by
  rw [portSilenced, State.updBells_eq, State.bells_setBells]
  exact ⟨rfl, rfl⟩

theorem HostCmd.silent_of_afterReset (h : c.afterReset = some d) : d.silent = true := by
  unfold HostCmd.afterReset at h
  split at h
  · exact Option.some.inj h ▸ rfl
  · exact Option.some.inj h ▸ rfl
  · split at h
    · exact Option.some.inj h ▸ rfl
    · cases h
  · cases h

/-- A command in hand of a port that is reset gives no response (R340). -/
theorem State.silent_of_mem_cmdsAfterReset (hd : d ∈ s.cmdsAfterReset p) (hp : d.hdr.port = p) : d.silent = true := by
  obtain ⟨c, -, hc⟩ := List.mem_filterMap.mp hd
  split at hc
  next hport =>
    split at hc
    next hs => exact Option.some.inj hc ▸ hs
    next => exact HostCmd.silent_of_afterReset hc
  next hport => exact absurd (Option.some.inj hc ▸ hp) hport

theorem banksGiven_keeps (p : Nat) (s : State) : Keeps 640 s (banksGiven p s) :=
  Keeps.foldl (fun t b => giveBank_keeps p b t) (.refl _ s)

theorem banksGiven_cmds (p : Nat) (s : State) : (banksGiven p s).host.cmds = s.host.cmds :=
  List.foldlRecOn (motive := fun t : State => t.host.cmds = s.host.cmds) _ (fun t b => giveBank p b t) rfl
    fun t ht b _ => (giveBank_cmds p b t).trans ht

theorem resetPort_mbx (p : Nat) (s : State) : (resetPort p s).mbx = (portSilenced p s).mbx := by
  rw [resetPort_eq]
  exact ((banksGiven_keeps p ((portSilenced p s).cmdsEnded p)).trans ((State.setPort_keeps _ p _).mono rfl)) .mbx rfl

theorem resetPort_cmds (p : Nat) (s : State) : (resetPort p s).host.cmds = (portSilenced p s).cmdsAfterReset p := by
  rw [resetPort_eq, State.setPort_cmds, banksGiven_cmds, State.cmdsEnded_cmds]

/-! ### The rows -/

/-- Settles O28: a command whose block passes takes its edge by `mem_acceptCmd_of_passes`; a word the device posts is stored by
`mbxWrite_device_stored` and touches the mailboxes alone; a reset ends what `resetPort_eq` lists; a row that finds nothing to do changes nothing. -/
theorem commandInterfaceTakesPostsAndResets : Obligations.CommandInterfaceTakesPostsAndResets := by
  unfold Obligations.CommandInterfaceTakesPostsAndResets
  refine ⟨fun s h => ⟨_, rfl, ?noneRead⟩, fun c s hc hr h => ⟨_, rfl, ?unheld⟩, fun c s hc hr hrole => ?accepted,
    fun p w s h => ⟨_, rfl, ?credit⟩, fun p w s h => ⟨_, rfl, ?handover⟩, fun b s hb h4 h5 => ⟨_, rfl, ?unnamed⟩,
    fun b s hb hheld hnamed hkeeps h5 => ⟨_, rfl, ?returned⟩,
    fun p c ch s hp hr hc hch hrep hextra hdue hsender hlt => ⟨_, rfl, ?response⟩, fun p s h => ⟨_, rfl, if_pos h⟩,
    fun p s h => ⟨_, rfl, if_pos h⟩, fun p w ws s hp hr hw hf hsender => ⟨_, rfl, ?event⟩,
    fun x s h => ⟨_, rfl, ?noBlock⟩, fun x b s h => ⟨_, rfl, ?acked⟩,
    fun p tag c s hc hcode hs hp hpass => ⟨_, rfl, ?held⟩, fun p tag s h => ⟨_, rfl, ?noneHeld⟩,
    fun id x s h => ⟨_, execTxnExpiry_of_open h, ?expiry⟩,
    fun p tag detail data c s hc hcode hst hs hp => ⟨_, rfl, ?complete⟩,
    fun p s hp => ⟨_, if_pos (isHost_iff.mpr hp), ?reset⟩, fun p s hp hdue => ⟨_, if_pos (isHost_iff.mpr hp), ?resetEnd⟩,
    fun p s hp => ⟨_, if_pos (isHost_iff.mpr hp), rfl⟩, fun p s hp => ⟨_, if_pos (isHost_iff.mpr hp), rfl⟩,
    fun p s h4 h5 => ?noPort⟩
  case noneRead =>
    have hnone : s.host.cmds.find? (fun c => c.stage == .read) = none := List.find?_eq_none.mpr fun c hc => by simp [h c hc]
    rw [acceptNext, hnone]
  case unheld =>
    rw [acceptNext_of_read hc hr, acceptCmd_of_unheld h]
    exact ⟨_, State.mem_swapCmd _ (List.mem_of_find?_eq_some hc), rfl, rfl, rfl, rfl⟩
  case accepted =>
    intro h code a hblock hhead hargs htxn hahead
    refine ⟨_, rfl, ?_⟩
    rw [acceptNext_of_read hc hr]
    exact ⟨_, mem_acceptCmd_of_passes (List.mem_of_find?_eq_some hc) hrole hblock hhead hargs htxn hahead, (c.taken s).atEdge_spec s⟩
  case credit => rw [grantCredit, HostPort.takeWord_of_find h]
  case handover =>
    have hkeeps := handBank_keeps p s
    rw [handBank_of_find h] at hkeeps ⊢
    beta_reduce
    rw [State.port_setPort]
    refine ⟨bitAt_setBit _ _, bitAt_clrBit _ _, rfl, fun hnew hpend => ⟨by simp [State.owns, hpend], ?_⟩, hkeeps.touches _ (by decide)⟩
    rw [if_pos hnew, State.owns, State.bank_of_pool (State.setPort_keeps _ p _ .pool rfl)]
    exact owns_handoverDone hnew hpend
  case unnamed =>
    rw [returnBank_eq s hb, returnTo_of_not_named (.inr h4)]
    exact returnTo_of_not_named (.inr h5)
  case returned =>
    have hpost := postCredits_onlyCredits 4 (giveBank 4 b s)
    have hother : bitAt ((postCredits 4 (giveBank 4 b s)).port 5).held b = false := by rw [hpost.held]; exact h5
    rw [returnBank_eq s hb, returnTo_of_done hheld hnamed hkeeps, returnTo_of_not_named (.inl hother)]
    beta_reduce
    rw [hpost.held, State.bank_of_pool (hpost.keeps .pool rfl), bank_giveBank]
    exact ⟨bitAt_clrBit _ _, rfl, rfl⟩
  case response =>
    have hkeeps := mbxWrite_device_keeps ch c.word (s.swapCmd c { c with stage := .posted, chan := ch })
    have hstored := mbxWrite_device_stored (s := s.swapCmd c { c with stage := .posted, chan := ch }) c.word hlt hsender
      (State.full_of_emptyChan hch)
    rw [if_neg (Bool.eq_false_iff.mp hr), postResponse_of_bare hc hch hrep hextra hdue]
    beta_reduce
    rw [hkeeps .host rfl]
    exact ⟨hstored.1, hstored.2, State.mem_swapCmd _ (List.mem_of_find?_eq_some hc), hkeeps .poolMem rfl⟩
  case event =>
    have hlt : eventChan p < 64 := by rcases hp with rfl | rfl <;> decide
    have hmbx : (s.setPort p { s.port p with words := ws }).mbx = s.mbx := State.setPort_keeps _ _ _ .mbx rfl
    have hchan := State.chan_of_mbx hmbx (eventChan p)
    have hstored := mbxWrite_device_stored w hlt ((State.isSender_of_mbx hmbx _ 0).trans (hchan ▸ hsender)) (hchan ▸ hf)
    rw [postEvent_of_word hr hw hf]
    refine ⟨hstored.1, hstored.2, ?_⟩
    rw [State.port_of_host (mbxWrite_device_keeps _ _ _ .host rfl), State.port_setPort]
  case noBlock =>
    have hnone : s.pair.blocks.find? (fun b => b.1 == x) = none := List.find?_eq_none.mpr fun b hb => by simp [h b hb]
    rw [shadowAck, hnone]
  case acked =>
    beta_reduce
    rw [shadowAck_blocks h]
    exact ⟨fun y hy => by simpa using List.of_mem_filter hy, fun y hy hne => List.mem_filter.mpr ⟨hy, by simpa using hne⟩⟩
  case held =>
    have hmem : c ∈ (s.advanceTo c.commitAt).host.cmds := List.mem_of_find?_eq_some hc
    have hport := port_of_find? hc
    rw [commitHeld_of_held hc, commitOne_of_eventMask hmem hcode hpass, hport]
    refine ⟨congrArg HostPort.mask (State.port_setPort _ p _), _, mem_dropSilent (State.mem_swapCmd _ ?_) hs (hport ▸ hp), rfl, rfl, rfl, rfl⟩
    rw [State.setPort_cmds]
    exact hmem
  case noneHeld =>
    have hnone : s.host.cmds.find? (fun c => c.stage == .held && c.hdr.port == p && c.hdr.tag == tag) = none :=
      List.find?_eq_none.mpr fun c hc => by simp [h c hc]
    rw [commitHeld, hnone]
  case expiry =>
    refine ⟨?_, (execTxnExpiry_keeps id s _ (execTxnExpiry_of_open h)).touches _ (by decide)⟩
    rw [State.event_txns]
    exact State.closeTxn_closed _ id
  case complete =>
    have hport := port_of_find? hc
    rw [completeLong_of_request hc hcode hst]
    exact ⟨mem_dropSilent (State.mem_swapCmd _ (List.mem_of_find?_eq_some hc)) hs (hport ▸ hp),
      (State.requestEnded_keeps s _ _ c _).touches _ (by decide)⟩
  case reset =>
    have hmbx := resetPort_mbx p s
    have hbells := portSilenced_bells p s
    rw [← State.bells_of_mbx hmbx] at hbells
    refine ⟨?_, ?_, ?_, ?_, hbells.1, hbells.2, fun k hk => ?lock, fun ch hch h => ?chan, fun c hc => ?cmd⟩
    case lock => exact (State.lock_of_mbx hmbx k).trans_ne (portSilenced_lock_ne p s hk)
    case chan => exact (congrArg MbxChannel.full (State.chan_of_mbx hmbx ch)).trans (portSilenced_full hch h)
    case cmd => exact State.silent_of_mem_cmdsAfterReset (resetPort_cmds p s ▸ hc)
    all_goals rw [resetPort_eq, State.port_setPort]
  case resetEnd =>
    exact postCredits_of_none ((congrArg HostPort.creditsDue (State.port_setPort s p _)).trans hdue)
  case noPort =>
    have hno : ¬ isHost p = true := fun h => (isHost_iff.mp h).elim h4 h5
    exact ⟨if_neg hno, if_neg hno⟩

end Sys2Proof.Machine
end

section
/-! SUPPORT. The SYS commands (R325, R327, R338, R347): what giving banks does to a port and to the pool, and which commands a cancel hits. -/

namespace Sys2Proof.Machine

variable {s : State} {p b : Nat} {l : List Nat}

/-- A meaning that runs the tests on the state as it is and then has an effect with `P`. -/
theorem hostRow_of_tested {i : Hdr → List Byte → Instr} {code : Nat} {run : Hdr → List Byte → State → State × Reply}
    {needs : Hdr → List Byte → State → List Test} {P : Hdr → List Byte → State → State → Reply → Prop}
    (hi : ∀ h a s, exec (i h a) s = commitHost code run h a s)
    (hr : ∀ h a s, ∃ k, run h a s = tested s (needs h a s) k ∧ (Passes (needs h a s) → P h a s k.1 k.2)) : HostRow i code needs P :=
  hostRow_of hi fun h a s => ⟨s.freeCount, hr h a s⟩

/-- Setting a bit leaves every other. -/
theorem bitAt_setBit_other {n j : Nat} (h : j ≠ b) : bitAt (setBit n b) j = bitAt n j := by
  unfold setBit
  split
  next => rfl
  next hclear =>
    rcases Nat.lt_or_gt_of_ne h with hlt | hgt
    · rw [bitAt_eq, bitAt_eq, Nat.add_comm, Nat.testBit_two_pow_add_gt hlt]
    · obtain ⟨k, rfl⟩ := Nat.exists_eq_add_of_lt hgt
      -- The bit set was clear, so adding it carries into no higher bit.
      have hdiv : (n + 2 ^ b) / 2 ^ b = n / 2 ^ b + 1 := Nat.add_div_right n (Nat.two_pow_pos b)
      have heven : n / 2 ^ b % 2 = 0 := by simpa [bitAt] using hclear
      have hhalf : (n / 2 ^ b + 1) / 2 = n / 2 ^ b / 2 := by omega
      simp only [bitAt, Nat.add_assoc, Nat.add_comm k 1, pow_add, pow_one, ← Nat.div_div_eq_div_mul, hdiv, hhalf]

theorem bitAt_setBit_iff {n j : Nat} : bitAt (setBit n b) j = true ↔ bitAt n j = true ∨ j = b := by
  by_cases h : j = b
  · simp [h, bitAt_setBit]
  · simp [h, bitAt_setBit_other h]

theorem bitAt_and (m n j : Nat) : bitAt (m &&& n) j = (bitAt m j && bitAt n j) := by
  simp only [bitAt_eq, Nat.testBit_and]

/-! ### Banks given to a port (R325, R327) -/

/-- Banks given to a port one after another. -/
def giveBanks (p : Nat) (l : List Nat) (s : State) : State := l.foldl (fun s b => giveBank p b s) s

theorem port_giveBank (p b : Nat) (s : State) : (giveBank p b s).port p = { s.port p with
    banks := setBit (s.port p).banks b, held := clrBit (s.port p).held b, named := clrBit (s.port p).named b
    creditsDue := (s.port p).creditsDue ++ [b] } := State.port_setPort _ p _

theorem bank_giveBank_other (p : Nat) (s : State) {c : Nat} (h : c ≠ b) : (giveBank p b s).bank c = s.bank c := by
  have hpool : (giveBank p b s).pool = (s.setBank b { s.bank b with owner := p, pending := false }).pool := State.setPort_keeps _ p _ .pool rfl
  rw [State.bank, hpool]
  exact State.bank_setBank_other s _ h

/-- The two host ports are each other's peer: writing one leaves the other. -/
theorem State.port_setPort_peer (s : State) (v : HostPort) (h : isHost p = true) : (s.setPort p v).port (9 - p) = s.port (9 - p) := by
  rcases isHost_iff.mp h with rfl | rfl <;> rfl

theorem giveBanks_share (p : Nat) (l : List Nat) (s : State) : ((giveBanks p l s).port p).share = (s.port p).share :=
  List.foldlRecOn (motive := fun t : State => (t.port p).share = (s.port p).share) l _ rfl
    fun t ht b _ => (congrArg HostPort.share (port_giveBank p b t)).trans ht

theorem giveBanks_peer (h : isHost p = true) (l : List Nat) (s : State) : (giveBanks p l s).port (9 - p) = s.port (9 - p) :=
  List.foldlRecOn (motive := fun t : State => t.port (9 - p) = s.port (9 - p)) l _ rfl
    fun _ ht _ _ => (State.port_setPort_peer _ _ h).trans ht

theorem giveBanks_banks (p : Nat) (l : List Nat) (s : State) {j : Nat} :
    bitAt ((giveBanks p l s).port p).banks j = true ↔ bitAt (s.port p).banks j = true ∨ j ∈ l := by
  induction l generalizing s with
  | nil => simp [giveBanks]
  | cons b l ih =>
    refine (ih (giveBank p b s)).trans ?_
    rw [port_giveBank, bitAt_setBit_iff, List.mem_cons, or_assoc]

theorem giveBanks_credits (p : Nat) (l : List Nat) (s : State) : ((giveBanks p l s).port p).creditsDue = (s.port p).creditsDue ++ l := by
  induction l generalizing s with
  | nil => exact (List.append_nil _).symm
  | cons b l ih =>
    refine (ih (giveBank p b s)).trans ?_
    rw [port_giveBank, List.append_assoc, List.singleton_append]

theorem giveBanks_bank (p : Nat) (l : List Nat) (s : State) (j : Nat) :
    (giveBanks p l s).bank j = if j ∈ l then { s.bank j with owner := p, pending := false } else s.bank j := by
  induction l generalizing s with
  | nil => rfl
  | cons b l ih =>
    refine (ih (giveBank p b s)).trans ?_
    by_cases hb : j = b
    · subst hb
      simp [bank_giveBank]
    · simp [bank_giveBank_other p s hb, hb]

/-! ### SYS.HOST_SETUP (R325, R334, R347) -/

/-- The banks that SYS.HOST_SETUP gives a port: those it names that the port does not have. -/
def newBanks (h : Hdr) (a : List Byte) (s : State) : List Nat :=
  (List.range 64).filter (fun b => bitAt (uAt a 4 8) b && !bitAt (s.port h.port).banks b)

theorem mem_newBanks {h : Hdr} {a : List Byte} :
    b ∈ newBanks h a s ↔ b < 64 ∧ bitAt (uAt a 4 8) b = true ∧ bitAt (s.port h.port).banks b = false := by
  simp [newBanks]

/-- The issuing port keeps of its banks those named, with its new share. -/
def portKept (h : Hdr) (a : List Byte) (s : State) : State :=
  let p := s.port h.port
  s.setPort h.port { p with share := uAt a 0 2, banks := p.banks &&& uAt a 4 8, held := p.held &&& uAt a 4 8, named := p.named &&& uAt a 4 8 }

theorem runSysHostSetup_eq (h : Hdr) (a : List Byte) (s : State) :
    runSysHostSetup h a s = tested s (needsSysHostSetup h a s) (okReply (giveBanks h.port (newBanks h a s) (portKept h a s))) := rfl

/-! ### SYS.CANCEL (R338) -/

/-- What SYS.CANCEL hits: a held command of the port with the tag named, its edge still ahead. -/
def State.cancels (s : State) (h : Hdr) (a : List Byte) (c : HostCmd) : Bool :=
  c.stage == .held && c.hdr.port == h.port && c.hdr.tag == uAt a 0 2 && decide (s.cell.edge < c.commitAt)

/-- A command ends with CANCELLED. -/
def HostCmd.cancelled (c : HostCmd) : HostCmd := { c with stage := .replied, commitTick := 0, reply := { status := St.cancelled } }

/-- The commands in hand once those hit are cancelled. -/
def State.cancelHits (s : State) (h : Hdr) (a : List Byte) : State :=
  { s with host := { s.host with cmds := s.host.cmds.map (fun c => if s.cancels h a c then c.cancelled else c) } }

theorem runSysCancel_eq (h : Hdr) (a : List Byte) (s : State) : runSysCancel h a s = tested s (needsSysCancel h a s)
    (if s.host.cmds.any (s.cancels h a) then okReply (s.cancelHits h a) else (s, { status := St.notPending })) := rfl

theorem State.cancels_iff {h : Hdr} {a : List Byte} {c : HostCmd} :
    s.cancels h a c = true ↔ c.stage = .held ∧ c.hdr.port = h.port ∧ c.hdr.tag = uAt a 0 2 ∧ s.cell.edge < c.commitAt := by
  simp [State.cancels, and_assoc]

theorem State.cancelled_mem_cancelHits {h : Hdr} {a : List Byte} {c : HostCmd} (hc : c ∈ s.host.cmds) (hit : s.cancels h a c = true) :
    c.cancelled ∈ (s.cancelHits h a).host.cmds := List.mem_map.mpr ⟨c, hc, if_pos hit⟩

theorem State.mem_cancelHits {h : Hdr} {a : List Byte} {c : HostCmd} (hc : c ∈ s.host.cmds) (hmiss : ¬ s.cancels h a c = true) :
    c ∈ (s.cancelHits h a).host.cmds := List.mem_map.mpr ⟨c, hc, if_neg hmiss⟩

theorem State.length_cancelHits (s : State) (h : Hdr) (a : List Byte) : (s.cancelHits h a).host.cmds.length = s.host.cmds.length :=
  List.length_map _

/-- Settles O10: each SYS command is its tests and then its effect; a port's new banks are read by the lemmas of `giveBanks`, the commands in
hand after a cancel by those of `State.cancelHits`. -/
theorem sysCommandsReportAndSetTheirPort : Obligations.SysCommandsReportAndSetTheirPort := by
  unfold Obligations.SysCommandsReportAndSetTheirPort
  refine ⟨reads_of (fun _ _ _ => rfl) fun _ _ _ => rfl,
    hostRow_of_tested (fun _ _ _ => rfl) fun h a s => ⟨_, runSysHostSetup_eq h a s, fun _ => ?setup⟩,
    reads_of (fun _ _ _ => rfl) fun _ _ _ => rfl,
    hostRow_of_tested (fun _ _ _ => rfl) fun h a s => ⟨_, runSysCancel_eq h a s, fun _ => ?cancel⟩,
    hostRow_of_tested (fun _ _ _ => rfl) fun h a s => ⟨_, rfl, fun _ => ?mask⟩,
    hostRow_of_tested (fun _ _ _ => rfl) fun h a s => ⟨_, rfl, fun _ => ⟨rfl, rfl, rfl⟩⟩⟩
  case setup =>
    have hport : (portKept h a s).port h.port = _ := State.port_setPort s h.port _
    have hbank : ∀ b, (portKept h a s).bank b = s.bank b := State.bank_of_pool (State.setPort_keeps s h.port _ .pool rfl)
    refine ⟨rfl, ?share, fun b hb => ?banks, fun b hb hnew hold => ?given, fun b hb => ?others, fun hhost => ?peer⟩
    case share => exact (giveBanks_share _ _ _).trans (congrArg HostPort.share hport)
    case banks =>
      rw [Bool.eq_iff_iff]
      refine (giveBanks_banks _ _ _).trans ?_
      rw [hport, bitAt_and, mem_newBanks]
      cases bitAt (s.port h.port).banks b <;> simp [hb]
    case given =>
      have hmem : b ∈ newBanks h a s := mem_newBanks.mpr ⟨hb, hnew, hold⟩
      have hgiven := (giveBanks_bank h.port (newBanks h a s) (portKept h a s) b).trans (if_pos hmem)
      refine ⟨congrArg BankReg.owner hgiven, congrArg BankReg.pending hgiven, ?_⟩
      simp only [okReply, giveBanks_credits]
      exact List.mem_append_right _ hmem
    case others =>
      have hmem : b ∉ newBanks h a s := fun hm => by
        obtain ⟨-, hnew, hold⟩ := mem_newBanks.mp hm
        rcases hb with hb | hb
        · rw [hnew] at hb; cases hb
        · rw [hold] at hb; cases hb
      exact ((giveBanks_bank _ _ _ b).trans (if_neg hmem)).trans (hbank b)
    case peer => exact (giveBanks_peer hhost _ _).trans (State.port_setPort_peer s _ hhost)
  case cancel =>
    simp only [← State.cancels_iff]
    by_cases hany : s.host.cmds.any (s.cancels h a) = true
    · rw [if_pos hany]
      refine ⟨fun _ => ⟨rfl, fun c hc hit => State.cancelled_mem_cancelHits hc hit⟩, fun hno => ?_, fun c hc hmiss =>
        State.mem_cancelHits hc hmiss, s.length_cancelHits h a⟩
      obtain ⟨c, hc, hit⟩ := List.any_eq_true.mp hany
      exact absurd hit (hno c hc)
    · rw [if_neg hany]
      exact ⟨fun hsome => absurd (List.any_eq_true.mpr hsome) hany, fun _ => ⟨rfl, rfl⟩, fun c hc _ => hc, rfl⟩
  case mask =>
    have hport := State.port_setPort s h.port { s.port h.port with mask := uAt a 0 2 }
    have hmask := congrArg HostPort.mask hport
    exact ⟨rfl, hmask, by simp [okReply]⟩

end Sys2Proof.Machine
end

section
/-! SUPPORT. The NET commands (R352, R361, R370, R431, R442, R445, R447, R450, R465, R466): what defining, starting and stopping a network does to
the networks themselves. -/

namespace Sys2Proof.Machine

variable {s t u : State} {n m : Nat}

theorem State.net_of_nets (h : t.nets = s.nets) (m : Nat) : t.net m = s.net m := by
  rw [State.net, h, State.net]

/-- A network but for where its slots stand in its engine's records (R468). -/
def Network.unplaced (k : Network) : Network := { k with outFirst := 0, inFirst := 0 }

/-- The networks of two states agree but for where the slots stand. -/
def SameUnplaced (s t : State) : Prop := ∀ m, (t.net m).unplaced = (s.net m).unplaced

theorem SameUnplaced.of_nets (h : t.nets = s.nets) : SameUnplaced s t := fun m => by rw [State.net_of_nets h]

theorem SameUnplaced.trans (h : SameUnplaced s t) (k : SameUnplaced t u) : SameUnplaced s u := fun m => (k m).trans (h m)

/-- Placing one network moves its slots alone. -/
theorem SameUnplaced.setNet_place (s : State) (n o i : Nat) : SameUnplaced s (s.setNet n { s.net n with outFirst := o, inFirst := i }) := fun m => by
  by_cases h : m = n
  · rw [h, State.net_setNet]
    rfl
  · rw [State.net_setNet_other _ _ h]

theorem placeSlots_sameUnplaced (e : Nat) (s : State) : SameUnplaced s (placeSlots e s) :=
  List.foldlRecOn (motive := fun acc : State × Nat × Nat => SameUnplaced s acc.1) _ _ (.of_nets rfl)
    fun acc hacc n _ => hacc.trans (.setNet_place acc.1 n _ _)

theorem syncEnv_sameUnplaced (e : Nat) (s : State) : SameUnplaced s (syncEnv e s) := .of_nets (syncEnv_keeps e s .nets rfl)

/-- The record that NET.DEFINE leaves of a network: the one described with the count of missed cycles going on, or none (R466). -/
def Network.definedOver (k old : Network) : Network := if k.defined then { k with missed := old.missed } else {}

theorem State.net_setNet_congr (h : t.nets = s.nets) (n : Nat) (v : Network) : (t.setNet n v).nets = (s.setNet n v).nets := by
  simp only [State.setNet, h]

/-- Defining a network replaces its record; what passes and is reserved with it only moves slots (R466, R468). -/
theorem defineNet_sameUnplaced (n : Nat) (k : Network) (s : State) :
    SameUnplaced (s.setNet n (k.definedOver (s.net n))) (defineNet n k s) := by
  unfold defineNet
  extract_lets old released stored granted placed moved
  have hreleased : released.nets = s.nets := by
    unfold released
    split
    · exact releaseNet_keeps old s .nets rfl
    · rfl
  have hgranted : granted.nets = stored.nets := by
    unfold granted
    split
    · exact (grantNet_keeps k stored .nets rfl).trans (reserveCtxs_keeps k.engine _ _ .nets rfl)
    · rfl
  have hmoved : SameUnplaced placed moved := by
    unfold moved
    split
    · exact (placeSlots_sameUnplaced old.engine placed).trans (syncEnv_sameUnplaced old.engine _)
    · exact .of_nets rfl
  have hstored : SameUnplaced (s.setNet n (k.definedOver (s.net n))) stored := .of_nets (State.net_setNet_congr hreleased n _)
  exact hstored.trans <| (SameUnplaced.of_nets hgranted).trans <| (placeSlots_sameUnplaced k.engine granted).trans <|
    hmoved.trans (syncEnv_sameUnplaced k.engine moved)

theorem defineNet_net (n : Nat) (k : Network) (s : State) : ((defineNet n k s).net n).unplaced = (k.definedOver (s.net n)).unplaced := by
  rw [defineNet_sameUnplaced n k s n, State.net_setNet]

theorem defineNet_net_other (k : Network) (s : State) (h : m ≠ n) : ((defineNet n k s).net m).unplaced = (s.net m).unplaced := by
  rw [defineNet_sameUnplaced n k s m, State.net_setNet_other _ _ h]

/-- Contexts reserved for an engine, with its block written again, leave the networks alone (R361, R468). -/
theorem reserved_nets (e n : Nat) (s : State) : (syncEnv e (reserveCtxs e n s)).nets = s.nets :=
  (reserveCtxs_keeps e n s .nets rfl).trans (syncEnv_keeps e _ .nets rfl)

/-- The engine of a network whose reservation NET.STOP freed reserves afresh before the network starts (R361). -/
def reserveAfresh (n : Nat) (s : State) : State :=
  let k := s.net n
  let need := (s.stored k.image).ctxMax
  if (s.lathe k.engine).ctxs.length < need then syncEnv k.engine (reserveCtxs k.engine need s) else s

/-- A network with its start flag set one way. -/
def Network.run (on : Bool) (k : Network) : Network := { k with started := on }

theorem startNet_eq (n : Nat) (s : State) : startNet n s = setResv ((reserveAfresh n s).updNet n (Network.run true)) := rfl

theorem reserveAfresh_nets (n : Nat) (s : State) : (reserveAfresh n s).nets = s.nets := by
  unfold reserveAfresh
  dsimp only
  split
  · exact reserved_nets _ _ s
  · rfl

/-- Starting or stopping replaces one start flag; the reservations of the switch follow (R433). -/
theorem net_setResv_run (n : Nat) (on : Bool) (s : State) (m : Nat) :
    (setResv (s.updNet n (Network.run on))).net m = if m = n then (s.net n).run on else s.net m := by
  rw [State.net_of_nets (setResv_keeps _ .nets rfl), State.updNet]
  exact Table.get_set _ _ _ _ _

theorem startNet_net (n : Nat) (s : State) (m : Nat) : (startNet n s).net m = if m = n then (s.net n).run true else s.net m := by
  have hnets := State.net_of_nets (reserveAfresh_nets n s)
  rw [startNet_eq, net_setResv_run, hnets, hnets]

/-- With contexts enough nothing is reserved: the start flag and the reservations of the switch change alone. -/
theorem startNet_touches_of_reserved (h : (s.stored (s.net n).image).ctxMax ≤ (s.lathe (s.net n).engine).ctxs.length) :
    Touches [.nets, .switch] s (startNet n s) := by
  have hsame : reserveAfresh n s = s := if_neg (Nat.not_lt.mpr h)
  rw [startNet_eq, hsame]
  exact (((State.updNet_keeps s n _).mono (m := 33816576) rfl).trans ((setResv_keeps _).mono rfl)).touches _ (by decide)

theorem stopNet_net (n : Nat) (s : State) (m : Nat) : (stopNet n s).net m = if m = n then (s.net n).run false else s.net m := by
  have hstopped := net_setResv_run n false s m
  unfold stopNet
  dsimp only
  split
  · exact hstopped
  · exact (State.net_of_nets (reserved_nets _ 0 _) m).trans hstopped

/-- What the arguments of NET.DEFINE make of a network: the network described with EN, else none of the same engine (R466). -/
def definedBy (a : List Byte) (s : State) : Network := if uAt a 4 1 = 1 then netOf a else { engine := (s.net (uAt a 0 2)).engine }

theorem definedBy_definedOver (a : List Byte) (s : State) (old : Network) :
    (definedBy a s).definedOver old = if uAt a 4 1 = 1 then { netOf a with missed := old.missed } else {} := by
  unfold definedBy Network.definedOver
  by_cases h : uAt a 4 1 = 1
  · rw [if_pos h, if_pos h]
    rfl
  · rw [if_neg h, if_neg h]
    rfl

/-- Settles O19: each NET command is its tests and then its effect; what defining, starting and stopping do to every network is said by
`defineNet_sameUnplaced`, `startNet_net` and `stopNet_net`. -/
theorem networkCommandsDefineRunAndConfigure : Obligations.NetworkCommandsDefineRunAndConfigure := by
  unfold Obligations.NetworkCommandsDefineRunAndConfigure
  refine ⟨hostRow_of_tested (fun _ _ _ => rfl) fun h a s => ⟨_, rfl, fun _ => ⟨rfl, rfl⟩⟩,
    hostRow_of_tested (fun _ _ _ => rfl) fun h a s => ⟨_, rfl, fun _ => ?define⟩,
    hostRow_of_tested (fun _ _ _ => rfl) fun h a s => ⟨_, rfl, fun _ => ?start⟩,
    hostRow_of_tested (fun _ _ _ => rfl) fun h a s => ⟨_, rfl, fun _ => ?stop⟩,
    reads_of (fun _ _ _ => rfl) fun _ _ _ => rfl,
    hostRow_of_tested (fun _ _ _ => rfl) fun h a s => ⟨_, rfl, fun _ => ⟨rfl, rfl⟩⟩,
    hostRow_of_tested (fun _ _ _ => rfl) fun h a s => ⟨_, rfl, fun _ => ⟨fun hw => ?snapshot, fun hw => ?window⟩⟩,
    hostRow_of_tested (fun _ _ _ => rfl) fun h a s => ⟨_, rfl, fun _ => ⟨rfl, rfl⟩⟩,
    hostRow_of_tested (fun _ _ _ => rfl) fun h a s => ⟨_, rfl, fun _ => ⟨rfl, rfl⟩⟩,
    hostRow_of_tested (fun _ _ _ => rfl) fun h a s => ⟨_, rfl, fun _ => ⟨rfl, rfl⟩⟩,
    hostRow_of_tested (fun _ _ _ => rfl) fun h a s => ⟨_, rfl, fun _ => ⟨rfl, rfl⟩⟩⟩
  case define =>
    have hnet := defineNet_net (uAt a 0 2) (definedBy a s) s
    rw [definedBy_definedOver] at hnet
    refine ⟨rfl, (congrArg Network.defined hnet).trans ?_, (congrArg Network.started hnet).trans ?_, fun hen => ?_, fun m hm => ?_,
      (defineNet_keeps _ _ s).touches _ (by decide)⟩
    · by_cases hen : uAt a 4 1 = 1 <;> simp [hen, netOf, Network.unplaced]
    · by_cases hen : uAt a 4 1 = 1 <;> simp [hen, netOf, Network.unplaced]
    · rw [if_pos hen] at hnet
      exact ⟨(congrArg Network.engine hnet :), (congrArg Network.image hnet :), (congrArg Network.cycleDiv hnet :), (congrArg Network.portA hnet :),
        (congrArg Network.portB hnet :), (congrArg Network.deadlineNs hnet :), (congrArg Network.missed hnet :)⟩
    · have hother := defineNet_net_other (definedBy a s) s hm
      exact ⟨(congrArg Network.defined hother :), (congrArg Network.started hother :)⟩
  case start =>
    have hnet : (startNet (uAt a 0 2) s).net (uAt a 0 2) = (s.net (uAt a 0 2)).run true := (startNet_net _ s _).trans (if_pos rfl)
    exact ⟨rfl, congrArg Network.started hnet, fun m hm => (startNet_net _ s m).trans (if_neg hm), startNet_touches_of_reserved⟩
  case stop =>
    have hnet : (stopNet (uAt a 0 2) s).net (uAt a 0 2) = (s.net (uAt a 0 2)).run false := (stopNet_net _ s _).trans (if_pos rfl)
    exact ⟨rfl, congrArg Network.started hnet, (congrArg Network.defined hnet :), fun m hm => (stopNet_net _ s m).trans (if_neg hm)⟩
  case snapshot =>
    rw [if_pos hw]
    exact ⟨rfl, rfl⟩
  case window =>
    rw [if_neg hw]
    exact ⟨rfl, rfl⟩

end Sys2Proof.Machine
end

section
/-! SUPPORT. How every command ends (R332, log entry 67): it goes on, or it names a unit that the device does not have, which no well-formed
command does. -/

namespace Sys2Proof.Machine

/-- An outcome goes on where `ok` holds, and else at worst names a missing unit. -/
structure Answers (ok : Prop) (r : Result) : Prop where
  goesOn : ok → ∃ t, r = .next t
  total : (∃ t, r = .next t) ∨ ∃ n, r = .fault (.noSuchUnit n)

variable {ok c : Prop} {s t : State} {n l : Nat}

theorem Answers.next : Answers ok (.next t) := ⟨fun _ => ⟨t, rfl⟩, .inl ⟨t, rfl⟩⟩

/-- A meaning that tests its unit by a condition. -/
theorem Answers.ifUnit [Decidable c] (h : ok → c) : Answers ok (if c then .next t else .fault (.noSuchUnit n)) := by
  by_cases hc : c
  · rw [if_pos hc]
    exact .next
  · rw [if_neg hc]
    exact ⟨fun hok => absurd (h hok) hc, .inr ⟨n, rfl⟩⟩

theorem Answers.onUnit (h : ok → n < l) : Answers ok (onUnit n l t) := .ifUnit h

/-- A host command goes on: a refusal is a reply (R331, R332). -/
theorem Answers.commitHost {code : Nat} {run : Hdr → List Byte → State → State × Reply} {h : Hdr} {a : List Byte} :
    Answers ok (commitHost code run h a s) := .next

/-- A row of a CAN FD controller (R452). -/
theorem Answers.onCan {f : Can → Can} (h : ok → n < 4) : Answers ok (onCan n s f) := .onUnit h

/-- An instruction of a Lathe engine, whatever its level makes of it (R364, R401). -/
theorem Answers.lthRow {e : Nat} {p : List Byte} {f : LthForm} {body : LthEnv → State → State × LthEnd} (h : ok → e < 16) :
    Answers ok (lthRow e p f body s) := .onUnit h

theorem Answers.ite [Decidable c] {a b : Result} (ha : c → Answers ok a) (hb : ¬ c → Answers ok b) : Answers ok (if c then a else b) := by
  split
  next hc => exact ha hc
  next hc => exact hb hc

/-! ### The commands whose unit is not one plain test -/

theorem execSourceTimeout_answers (k : Nat) (s : State) : Answers ok (execSourceTimeout k s) :=
  .ite (fun _ => .next) fun _ => .ite (fun _ => .next) fun _ => .next

theorem execJogTimeout_answers {a : Nat} (h : ok → a < 512 ∨ (0x1000 ≤ a ∧ a < 0x1010)) (s : State) : Answers ok (execJogTimeout a s) :=
  .ite (fun _ => .onUnit fun hok => by have := h hok; omega) fun _ => .onUnit fun hok => by have := h hok; omega

theorem execFrameTransmitStart_answers {p : Nat} (h : ok → p < 30) (sent : Nat) (s : State) : Answers ok (execFrameTransmitStart p sent s) :=
  .ite (fun _ => .next) fun _ => .ite (fun _ => .next) fun _ => .ifUnit fun hok => by have := h hok; omega

/-- The levelled area has as many sectors as the NOR device leaves (R618, log entry 43). -/
theorem wearLevelMove_wf (sector : Nat) : (Instr.wearLevelMove sector).wf = decide (sector < levelled) := rfl

theorem execWearLevelMove_answers {sector : Nat} (h : ok → sector < levelled) (s : State) : Answers ok (execWearLevelMove sector s) := by
  rw [execWearLevelMove]
  exact .onUnit h

/-! ### Every command -/

/-- A host command goes on whatever its tests say; every other command goes on, or tests the one unit that its well-formedness bounds. -/
theorem exec_answers (i : Instr) (s : State) : Answers (i.wf = true) (exec i s) := by
  cases i with
  -- Host commands (R331).
  | sysIdentify | sysHostSetup | sysStatus | sysCancel | sysEventMask | sysReset | cellSetTick | cellSetState | cellStatus | cellTxnBegin
  | cellTxnCommit | cellTxnAbort | armDefine | armSetDynamics | armSetPayload | armSetLimits | armSetIk | armSetTool | armSetFrame | armSetClaim
  | armSetMode | armMoveJoint | armMoveCart | armMoveArc | armHold | armResume | armStop | armJog | armStatus | axisBind | axisConfig
  | axisSetLimits | axisSetLoop | axisSetNotch | axisSetMode | axisMove | axisMoveVel | axisHold | axisResume | axisStop | axisGear
  | axisCamTable | axisCam | axisHome | axisJog | axisSwitchConfig | axisSwitchClear | axisDdConfig | axisDdPwm | axisDdAlign | axisStatus
  | safeLoad | safeConfirm | safeStatus | safeCounters | zoneDefine | zoneUnblock | zoneStatus | zoneCounters | jrnlRead | jrnlMark | jrnlCommit
  | jrnlStatus | diagTickLoad | diagAxisLoop | diagAxisCounters | diagTiller | diagBlocks | diagTelemetry | netPortConfig | netDefine | netStart
  | netStop | netStatus | netSnapshot | netStats | netAcyclic | netMirror | netSchedule | netCanConfig | latheStore | latheLoad | latheSwap
  | latheStatus | latheCounters | latheTelemetry | latheEnrollKey | fabSetKey | fabJoin | fabLeave | fabSchedule | fabStatus | fabAssignShadow
  | fabReleaseShadow | fabSwitchover | fabSetReplLevel | fabPairStatus | fabSleep | fabWake | timeConfig | timeStatus | timeCompare | timeCapture
  | timeSet | fwLoad | fwActivate | fwStatus
    => exact .commitHost
  -- Rows that name no unit, or pass over one that is not there.
  | tickEdge | tickLengthChange | outputAssembly | outputSeal | guardBandStart | safetyTelegramReceive | safeInputSample | glumeClockFault
  | glumeSelfTest | tickAbsence | pendingBlockExpiry | commandAcceptance | eventCreditGrant | bankHandover | bankReturn | responsePost
  | eventPost | shadowAckReceive | heldCommandCommit | txnExpiry | deferredReset | longCommandComplete | mbxDataWrite | mbxDataRead | remoteWord
  | receiverDomainUp | mbxLockRead | mbxLockWrite | mbxDbPendWrite | mbxDbEnableWrite | mbxDbRingWrite | mbxEvcntRead | mbxDbEvcntRead
  | mbxBindWrite | mbxBindLockWrite | qspiWrite | qspiRead | bufferAudit | swAuditRead | tbOfsWrite | tbNsRead | tbConvHiWrite | cmpTargetWrite
  | capHiRead | tbStatusRead | cmpStatusRead | capStatusRead | slotWindowOpen | slotWindowClose | cycleFrameMissing | cycleMasterDeparted
  | announceSend | bulkSegmentReceive | bulkAckReceive | bulkResend | joinJ2Receive | joinJ3Receive | joinJ4Receive | joinJ1Repeat
  | joinTransferComplete | coldStartTimeout | coldStartJudge | coldStartBackoffEnd | cycleStartAfterCold | forwardingSlotMiss | echoMiss
  | takeover | shadowSynced | shadowSyncTimeout | sleepPointOfNoReturn | sleepEntry | sleepEntryComplete | failsafeSleep | fwakeDrive | falseWake
  | poolOwnerWrite | poolHandoverComplete | nvRateCheck | archiveCopy | telemetryDatagram | selfTestSlice | spareTestSlice | eyeMonitor
  | temperatureSample | powerOnReset | rstNLow | pfwNAssert | railInhibitThreshold | inhibitRelease | journalCommit | bootWatchdog
  | bootSlotChoice | startupSelfTest | glumeStartup | startupImageLoad | startupFabricJoin | startupConfigRestore | recoverWord | tapReset
  | tapExtest | tapIdcode | tapSamplePreload | tapClamp | tapHighz | tapExtestPulse | tapExtestTrain | tapBypass | tapPinControlTakeover
  | registerWrite | fwakeNAssert | tsInsCfgRead
    => exact .next
  -- Rows of one unit.
  | claimHoldover | claimRevoke | tillerWatchdog | proposalLatch | glumeChannelResult | glumeDeadlineMiss | discrepancyTimeout | testPulse
  | outputTestPulse | stop1Timeout | switchChatter | homingShift | homeNotFound | homeNoIndex | brakeOpenWait | brakeCloseWait | ddAlignComplete
  | latheReceiveEntry | lthPostWrite | lthTelemWrite | latheInitStart | latheSwapExecute | migrationEnd | latheRestart | backgroundWatchdog
  | chsAwaitTimeout | chiselFifoResume | chsCtrlWrite | chsEDinWrite | chsEDoutRead | chsGcntRead | chsECntRead | pauseRefresh | frameTransmitEnd
  | txDescriptorTake | rxRingDeliver | deadlineWithdraw | linkDown | linkUp | holdExpiry | preemptVerify | gateListActivate | gateChange
  | swTxrIdxWrite | swRxrIdxWrite | canTxChoice | canAttemptEnd | canCnt0Read | canCnt1Read | holdoverTimeout | compareMatch | fabricFrameReceive
  | fabricLinkUp | fabricLinkDown | fillFrame | sleepingDeviceWake | poolEccRead | chkRunWrite | chkCntRead | scrubBurst | scrubLate
  | converterCalibration | pwmTuning | loopbackTest | railResetThreshold | pllLockLoss | awaitMatch | norOperationComplete | swTxrCredRead
  | swRxrIdxRead
    => exact .onUnit of_decide_eq_true
  -- Rows of one unit with further operands in their ranges.
  | tillerUpdate | conversionComplete | chiselStart | chiselClockRestart | chiselStop | chsStoreWrite | frameReceive | nrwCounterRead
  | canFrameReceive | captureEdge | joinJ1Receive | pauseTimeExpiry
    => exact .onUnit fun h => (of_decide_eq_true h).1
  -- CAN FD controllers.
  | canProtocolException | canIntegrationEnd | canBusoffRecoveryStart | canRxFetchWrite | canRecoveryEnd
    => exact .onCan of_decide_eq_true
  | canTxLoad | canTxCancel | canTxRelease | canReceiveError
    => exact .onCan fun h => (of_decide_eq_true h).1
  -- Instructions of the Lathe engines.
  | lthNop | lthEnd | lthIdle | lthRetx | lthTrap | lthMov | lthAdd | lthAdc | lthSub | lthSbc | lthCmp | lthAnd | lthOr | lthXor | lthTst
  | lthShl | lthShli | lthShr | lthShri | lthSar | lthSari | lthRol | lthRoli | lthNot | lthNeg | lthMul | lthBswap | lthExt | lthBtst | lthBset
  | lthBclr | lthCas | lthPush | lthPop | lthJmp | lthJmpa | lthCall | lthCallr | lthRet | lthBlkGather
    => exact .lthRow of_decide_eq_true
  | lthMovi | lthAddi | lthSubi | lthCmpi | lthAndi | lthOri | lthXori | lthTsti | lthMuli | lthLd | lthLds | lthSt | lthLea | lthXchg | lthSti
  | lthBccRel8 | lthBccRel16 | lthBlkCopy | lthBlkFill | lthBlkMatch | lthBlkSeek
    => exact .lthRow fun h => (of_decide_eq_true h).1
  -- Instructions of the Chisel engines, of which an illegal one faults its engine alone (R412).
  | chsData | chsLoad
    => exact .onUnit of_decide_eq_true
  | chsPause | chsPins | chsEmit | chsSample | chsBranch | chsAwait | chsCopy | chsSignal
    => exact .onUnit fun h => (of_decide_eq_true h).1
  -- Rows with a test of their own.
  | macSnapWrite | wakeRequest => exact .onUnit fun h => (of_decide_eq_true h).2
  | hostGtcLoRead | hostAccessErrRead | hostPortReset | hostResetEnd => exact .ifUnit fun h => isHost_iff.mpr (of_decide_eq_true h)
  | poolAccess =>
    refine .ifUnit fun h => ?_
    obtain ⟨hport, -, hofs⟩ := of_decide_eq_true h
    exact ⟨hport, by omega⟩
  | wearLevelMove => exact execWearLevelMove_answers (fun h => of_decide_eq_true ((wearLevelMove_wf _).symm.trans h)) s
  | sourceTimeout => exact execSourceTimeout_answers _ s
  | jogTimeout => exact execJogTimeout_answers of_decide_eq_true s
  | frameTransmitStart => exact execFrameTransmitStart_answers of_decide_eq_true _ s

/-- Settles O9: `exec_answers` says both clauses of every command. -/
theorem wellFormedCommandsComplete : Obligations.WellFormedCommandsComplete := by
  unfold Obligations.WellFormedCommandsComplete
  exact ⟨fun i s => (exec_answers i s).goesOn, fun i s => (exec_answers i s).total⟩

end Sys2Proof.Machine
end

section
/-! SUPPORT. The frame of every command as one mask (Safety/Frames.lean). -/

namespace Sys2Proof.Machine

/-- The mask of a list of parts. -/
def Part.mask (ps : List Part) : Nat := ps.foldr (fun p m => 2 ^ p.bit ||| m) 0

theorem Part.bit_injective : Function.Injective Part.bit := by
  intro p q h
  have hread : ∀ r : Part, Part.all[r.bit]? = some r := fun r => by cases r <;> rfl
  exact Option.some.inj ((hread p).symm.trans (h ▸ hread q))

/-- A part is in the mask of a list only if it is listed. -/
theorem Part.testBit_mask (ps : List Part) (p : Part) (h : p ∉ ps) : (Part.mask ps).testBit p.bit = false := by
  induction ps with
  | nil => exact Nat.zero_testBit _
  | cons q ps ih =>
    obtain ⟨hne, hps⟩ := not_or.mp (List.mem_cons.not.mp h)
    have hbit : q.bit ≠ p.bit := fun e => hne (Part.bit_injective e).symm
    have hcons : Part.mask (q :: ps) = 2 ^ q.bit ||| Part.mask ps := rfl
    rw [hcons, Nat.testBit_or, Nat.testBit_two_pow_of_ne hbit, ih hps]
    rfl

/-- What a step of the mask of some parts leaves alone. -/
theorem Keeps.touches_mask {s t : State} {ps : List Part} (h : Keeps (Part.mask ps) s t) : Touches ps s t :=
  fun p hp => h p (Part.testBit_mask ps p hp)

/-- Each command changes no part but those listed for it: the mask that its own lemma proves is the mask of its list. -/
theorem exec_keeps (s : State) : ∀ i : Instr, Res (Part.mask (framed i)) s (exec i s)
  | .tickEdge _ _ => execTickEdge_keeps _ _ s
  | .tickLengthChange => execTickLengthChange_keeps s
  | .claimHoldover _ => execClaimHoldover_keeps _ s
  | .claimRevoke _ => execClaimRevoke_keeps _ s
  | .tillerUpdate _ _ _ _ => execTillerUpdate_keeps _ _ _ _ s
  | .tillerWatchdog _ => execTillerWatchdog_keeps _ s
  | .outputAssembly => execOutputAssembly_keeps s
  | .outputSeal => execOutputSeal_keeps s
  | .guardBandStart => execGuardBandStart_keeps s
  | .proposalLatch _ => execProposalLatch_keeps _ s
  | .glumeChannelResult _ _ => execGlumeChannelResult_keeps _ _ s
  | .glumeDeadlineMiss _ => execGlumeDeadlineMiss_keeps _ s
  | .safetyTelegramReceive _ _ => execSafetyTelegramReceive_keeps _ _ s
  | .sourceTimeout _ => execSourceTimeout_keeps _ s
  | .safeInputSample _ _ => execSafeInputSample_keeps _ _ s
  | .discrepancyTimeout _ => execDiscrepancyTimeout_keeps _ s
  | .testPulse _ _ _ => execTestPulse_keeps _ _ _ s
  | .outputTestPulse _ _ _ _ => execOutputTestPulse_keeps _ _ _ _ s
  | .stop1Timeout _ => execStop1Timeout_keeps _ s
  | .glumeClockFault => execGlumeClockFault_keeps s
  | .glumeSelfTest _ => execGlumeSelfTest_keeps _ s
  | .tickAbsence => execTickAbsence_keeps s
  | .pendingBlockExpiry => execPendingBlockExpiry_keeps s
  | .commandAcceptance => execCommandAcceptance_keeps s
  | .eventCreditGrant _ => execEventCreditGrant_keeps _ s
  | .bankHandover _ => execBankHandover_keeps _ s
  | .bankReturn _ => execBankReturn_keeps _ s
  | .responsePost _ => execResponsePost_keeps _ s
  | .eventPost _ => execEventPost_keeps _ s
  | .shadowAckReceive _ => execShadowAckReceive_keeps _ s
  | .heldCommandCommit _ _ => execHeldCommandCommit_keeps _ _ s
  | .txnExpiry _ => execTxnExpiry_keeps _ s
  | .deferredReset => execDeferredReset_keeps s
  | .sysIdentify _ _ => execSysIdentify_keeps _ _ s
  | .sysHostSetup _ _ => execSysHostSetup_keeps _ _ s
  | .sysStatus _ _ => execSysStatus_keeps _ _ s
  | .sysCancel _ _ => execSysCancel_keeps _ _ s
  | .sysEventMask _ _ => execSysEventMask_keeps _ _ s
  | .sysReset _ _ => execSysReset_keeps _ _ s
  | .cellSetTick _ _ => execCellSetTick_keeps _ _ s
  | .cellSetState _ _ => execCellSetState_keeps _ _ s
  | .cellStatus _ _ => execCellStatus_keeps _ _ s
  | .cellTxnBegin _ _ => execCellTxnBegin_keeps _ _ s
  | .cellTxnCommit _ _ => execCellTxnCommit_keeps _ _ s
  | .cellTxnAbort _ _ => execCellTxnAbort_keeps _ _ s
  | .armDefine _ _ => execArmDefine_keeps _ _ s
  | .armSetDynamics _ _ => execArmSetDynamics_keeps _ _ s
  | .armSetPayload _ _ => execArmSetPayload_keeps _ _ s
  | .armSetLimits _ _ => execArmSetLimits_keeps _ _ s
  | .armSetIk _ _ => execArmSetIk_keeps _ _ s
  | .armSetTool _ _ => execArmSetTool_keeps _ _ s
  | .armSetFrame _ _ => execArmSetFrame_keeps _ _ s
  | .armSetClaim _ _ => execArmSetClaim_keeps _ _ s
  | .armSetMode _ _ => execArmSetMode_keeps _ _ s
  | .armMoveJoint _ _ => execArmMoveJoint_keeps _ _ s
  | .armMoveCart _ _ => execArmMoveCart_keeps _ _ s
  | .armMoveArc _ _ => execArmMoveArc_keeps _ _ s
  | .armHold _ _ => execArmHold_keeps _ _ s
  | .armResume _ _ => execArmResume_keeps _ _ s
  | .armStop _ _ => execArmStop_keeps _ _ s
  | .armJog _ _ => execArmJog_keeps _ _ s
  | .armStatus _ _ => execArmStatus_keeps _ _ s
  | .axisBind _ _ => execAxisBind_keeps _ _ s
  | .axisConfig _ _ => execAxisConfig_keeps _ _ s
  | .axisSetLimits _ _ => execAxisSetLimits_keeps _ _ s
  | .axisSetLoop _ _ => execAxisSetLoop_keeps _ _ s
  | .axisSetNotch _ _ => execAxisSetNotch_keeps _ _ s
  | .axisSetMode _ _ => execAxisSetMode_keeps _ _ s
  | .axisMove _ _ => execAxisMove_keeps _ _ s
  | .axisMoveVel _ _ => execAxisMoveVel_keeps _ _ s
  | .axisHold _ _ => execAxisHold_keeps _ _ s
  | .axisResume _ _ => execAxisResume_keeps _ _ s
  | .axisStop _ _ => execAxisStop_keeps _ _ s
  | .axisGear _ _ => execAxisGear_keeps _ _ s
  | .axisCamTable _ _ => execAxisCamTable_keeps _ _ s
  | .axisCam _ _ => execAxisCam_keeps _ _ s
  | .axisHome _ _ => execAxisHome_keeps _ _ s
  | .axisJog _ _ => execAxisJog_keeps _ _ s
  | .axisSwitchConfig _ _ => execAxisSwitchConfig_keeps _ _ s
  | .axisSwitchClear _ _ => execAxisSwitchClear_keeps _ _ s
  | .axisDdConfig _ _ => execAxisDdConfig_keeps _ _ s
  | .axisDdPwm _ _ => execAxisDdPwm_keeps _ _ s
  | .axisDdAlign _ _ => execAxisDdAlign_keeps _ _ s
  | .axisStatus _ _ => execAxisStatus_keeps _ _ s
  | .safeLoad _ _ => execSafeLoad_keeps _ _ s
  | .safeConfirm _ _ => execSafeConfirm_keeps _ _ s
  | .safeStatus _ _ => execSafeStatus_keeps _ _ s
  | .safeCounters _ _ => execSafeCounters_keeps _ _ s
  | .zoneDefine _ _ => execZoneDefine_keeps _ _ s
  | .zoneUnblock _ _ => execZoneUnblock_keeps _ _ s
  | .zoneStatus _ _ => execZoneStatus_keeps _ _ s
  | .zoneCounters _ _ => execZoneCounters_keeps _ _ s
  | .jrnlRead _ _ => execJrnlRead_keeps _ _ s
  | .jrnlMark _ _ => execJrnlMark_keeps _ _ s
  | .jrnlCommit _ _ => execJrnlCommit_keeps _ _ s
  | .jrnlStatus _ _ => execJrnlStatus_keeps _ _ s
  | .diagTickLoad _ _ => execDiagTickLoad_keeps _ _ s
  | .diagAxisLoop _ _ => execDiagAxisLoop_keeps _ _ s
  | .diagAxisCounters _ _ => execDiagAxisCounters_keeps _ _ s
  | .diagTiller _ _ => execDiagTiller_keeps _ _ s
  | .diagBlocks _ _ => execDiagBlocks_keeps _ _ s
  | .diagTelemetry _ _ => execDiagTelemetry_keeps _ _ s
  | .netPortConfig _ _ => execNetPortConfig_keeps _ _ s
  | .netDefine _ _ => execNetDefine_keeps _ _ s
  | .netStart _ _ => execNetStart_keeps _ _ s
  | .netStop _ _ => execNetStop_keeps _ _ s
  | .netStatus _ _ => execNetStatus_keeps _ _ s
  | .netSnapshot _ _ => execNetSnapshot_keeps _ _ s
  | .netStats _ _ => execNetStats_keeps _ _ s
  | .netAcyclic _ _ => execNetAcyclic_keeps _ _ s
  | .netMirror _ _ => execNetMirror_keeps _ _ s
  | .netSchedule _ _ => execNetSchedule_keeps _ _ s
  | .netCanConfig _ _ => execNetCanConfig_keeps _ _ s
  | .latheStore _ _ => execLatheStore_keeps _ _ s
  | .latheLoad _ _ => execLatheLoad_keeps _ _ s
  | .latheSwap _ _ => execLatheSwap_keeps _ _ s
  | .latheStatus _ _ => execLatheStatus_keeps _ _ s
  | .latheCounters _ _ => execLatheCounters_keeps _ _ s
  | .latheTelemetry _ _ => execLatheTelemetry_keeps _ _ s
  | .latheEnrollKey _ _ => execLatheEnrollKey_keeps _ _ s
  | .fabSetKey _ _ => execFabSetKey_keeps _ _ s
  | .fabJoin _ _ => execFabJoin_keeps _ _ s
  | .fabLeave _ _ => execFabLeave_keeps _ _ s
  | .fabSchedule _ _ => execFabSchedule_keeps _ _ s
  | .fabStatus _ _ => execFabStatus_keeps _ _ s
  | .fabAssignShadow _ _ => execFabAssignShadow_keeps _ _ s
  | .fabReleaseShadow _ _ => execFabReleaseShadow_keeps _ _ s
  | .fabSwitchover _ _ => execFabSwitchover_keeps _ _ s
  | .fabSetReplLevel _ _ => execFabSetReplLevel_keeps _ _ s
  | .fabPairStatus _ _ => execFabPairStatus_keeps _ _ s
  | .fabSleep _ _ => execFabSleep_keeps _ _ s
  | .fabWake _ _ => execFabWake_keeps _ _ s
  | .timeConfig _ _ => execTimeConfig_keeps _ _ s
  | .timeStatus _ _ => execTimeStatus_keeps _ _ s
  | .timeCompare _ _ => execTimeCompare_keeps _ _ s
  | .timeCapture _ _ => execTimeCapture_keeps _ _ s
  | .timeSet _ _ => execTimeSet_keeps _ _ s
  | .fwLoad _ _ => execFwLoad_keeps _ _ s
  | .fwActivate _ _ => execFwActivate_keeps _ _ s
  | .fwStatus _ _ => execFwStatus_keeps _ _ s
  | .longCommandComplete _ _ _ _ => execLongCommandComplete_keeps _ _ _ _ s
  | .switchChatter _ _ => execSwitchChatter_keeps _ _ s
  | .homingShift _ => execHomingShift_keeps _ s
  | .homeNotFound _ => execHomeNotFound_keeps _ s
  | .homeNoIndex _ => execHomeNoIndex_keeps _ s
  | .jogTimeout _ => execJogTimeout_keeps _ s
  | .brakeOpenWait _ => execBrakeOpenWait_keeps _ s
  | .brakeCloseWait _ => execBrakeCloseWait_keeps _ s
  | .ddAlignComplete _ => execDdAlignComplete_keeps _ s
  | .conversionComplete _ _ _ => execConversionComplete_keeps _ _ _ s
  | .mbxDataWrite _ _ _ => execMbxDataWrite_keeps _ _ _ s
  | .mbxDataRead _ _ => execMbxDataRead_keeps _ _ s
  | .remoteWord _ _ _ => execRemoteWord_keeps _ _ _ s
  | .receiverDomainUp _ => execReceiverDomainUp_keeps _ s
  | .mbxLockRead _ _ => execMbxLockRead_keeps _ _ s
  | .mbxLockWrite _ _ w => execMbxLockWrite_keeps _ _ w s
  | .mbxDbPendWrite _ _ => execMbxDbPendWrite_keeps _ _ s
  | .mbxDbEnableWrite _ _ => execMbxDbEnableWrite_keeps _ _ s
  | .mbxDbRingWrite _ _ => execMbxDbRingWrite_keeps _ _ s
  | .mbxEvcntRead _ _ => execMbxEvcntRead_keeps _ _ s
  | .mbxDbEvcntRead _ _ => execMbxDbEvcntRead_keeps _ _ s
  | .mbxBindWrite _ _ _ => execMbxBindWrite_keeps _ _ _ s
  | .mbxBindLockWrite _ _ => execMbxBindLockWrite_keeps _ _ s
  | .hostGtcLoRead _ => execHostGtcLoRead_keeps _ s
  | .hostAccessErrRead _ => execHostAccessErrRead_keeps _ s
  | .hostPortReset _ => execHostPortReset_keeps _ s
  | .hostResetEnd _ => execHostResetEnd_keeps _ s
  | .qspiWrite _ _ => execQspiWrite_keeps _ _ s
  | .qspiRead _ _ => execQspiRead_keeps _ _ s
  | .latheReceiveEntry _ => execLatheReceiveEntry_keeps _ s
  | .lthPostWrite _ _ => execLthPostWrite_keeps _ _ s
  | .lthTelemWrite _ _ => execLthTelemWrite_keeps _ _ s
  | .latheInitStart _ => execLatheInitStart_keeps _ s
  | .latheSwapExecute _ => execLatheSwapExecute_keeps _ s
  | .migrationEnd _ => execMigrationEnd_keeps _ s
  | .latheRestart _ => execLatheRestart_keeps _ s
  | .backgroundWatchdog _ => execBackgroundWatchdog_keeps _ s
  | .lthNop _ _ => execLthNop_keeps _ _ s
  | .lthEnd _ _ => execLthEnd_keeps _ _ s
  | .lthIdle _ _ => execLthIdle_keeps _ _ s
  | .lthRetx _ _ => execLthRetx_keeps _ _ s
  | .lthTrap _ _ _ => execLthTrap_keeps _ _ _ s
  | .lthMov _ _ _ => execLthMov_keeps _ _ _ s
  | .lthMovi _ _ _ _ => execLthMovi_keeps _ _ _ _ s
  | .lthAdd _ _ _ => execLthAdd_keeps _ _ _ s
  | .lthAddi _ _ _ _ => execLthAddi_keeps _ _ _ _ s
  | .lthAdc _ _ _ => execLthAdc_keeps _ _ _ s
  | .lthSub _ _ _ => execLthSub_keeps _ _ _ s
  | .lthSubi _ _ _ _ => execLthSubi_keeps _ _ _ _ s
  | .lthSbc _ _ _ => execLthSbc_keeps _ _ _ s
  | .lthCmp _ _ _ => execLthCmp_keeps _ _ _ s
  | .lthCmpi _ _ _ _ => execLthCmpi_keeps _ _ _ _ s
  | .lthAnd _ _ _ => execLthAnd_keeps _ _ _ s
  | .lthAndi _ _ _ _ => execLthAndi_keeps _ _ _ _ s
  | .lthOr _ _ _ => execLthOr_keeps _ _ _ s
  | .lthOri _ _ _ _ => execLthOri_keeps _ _ _ _ s
  | .lthXor _ _ _ => execLthXor_keeps _ _ _ s
  | .lthXori _ _ _ _ => execLthXori_keeps _ _ _ _ s
  | .lthTst _ _ _ => execLthTst_keeps _ _ _ s
  | .lthTsti _ _ _ _ => execLthTsti_keeps _ _ _ _ s
  | .lthShl _ _ _ => execLthShl_keeps _ _ _ s
  | .lthShli _ _ _ _ => execLthShli_keeps _ _ _ _ s
  | .lthShr _ _ _ => execLthShr_keeps _ _ _ s
  | .lthShri _ _ _ _ => execLthShri_keeps _ _ _ _ s
  | .lthSar _ _ _ => execLthSar_keeps _ _ _ s
  | .lthSari _ _ _ _ => execLthSari_keeps _ _ _ _ s
  | .lthRol _ _ _ => execLthRol_keeps _ _ _ s
  | .lthRoli _ _ _ _ => execLthRoli_keeps _ _ _ _ s
  | .lthNot _ _ _ => execLthNot_keeps _ _ _ s
  | .lthNeg _ _ _ => execLthNeg_keeps _ _ _ s
  | .lthMul _ _ _ => execLthMul_keeps _ _ _ s
  | .lthMuli _ _ _ _ => execLthMuli_keeps _ _ _ _ s
  | .lthBswap _ _ _ => execLthBswap_keeps _ _ _ s
  | .lthExt _ _ _ _ _ => execLthExt_keeps _ _ _ _ _ s
  | .lthBtst _ _ _ _ => execLthBtst_keeps _ _ _ _ s
  | .lthBset _ _ _ _ => execLthBset_keeps _ _ _ _ s
  | .lthBclr _ _ _ _ => execLthBclr_keeps _ _ _ _ s
  | .lthLd _ _ _ _ _ => execLthLd_keeps _ _ _ _ _ s
  | .lthLds _ _ _ _ _ => execLthLds_keeps _ _ _ _ _ s
  | .lthSt _ _ _ _ _ => execLthSt_keeps _ _ _ _ _ s
  | .lthLea _ _ _ _ _ => execLthLea_keeps _ _ _ _ _ s
  | .lthXchg _ _ _ _ _ => execLthXchg_keeps _ _ _ _ _ s
  | .lthCas _ _ _ _ => execLthCas_keeps _ _ _ _ s
  | .lthSti _ _ _ _ _ _ => execLthSti_keeps _ _ _ _ _ _ s
  | .lthPush _ _ _ => execLthPush_keeps _ _ _ s
  | .lthPop _ _ _ => execLthPop_keeps _ _ _ s
  | .lthBccRel8 _ _ _ _ => execLthBccRel8_keeps _ _ _ _ s
  | .lthBccRel16 _ _ _ _ => execLthBccRel16_keeps _ _ _ _ s
  | .lthJmp _ _ _ => execLthJmp_keeps _ _ _ s
  | .lthJmpa _ _ _ => execLthJmpa_keeps _ _ _ s
  | .lthCall _ _ _ _ => execLthCall_keeps _ _ _ _ s
  | .lthCallr _ _ _ _ => execLthCallr_keeps _ _ _ _ s
  | .lthRet _ _ _ => execLthRet_keeps _ _ _ s
  | .lthBlkCopy _ _ _ _ => execLthBlkCopy_keeps _ _ _ _ s
  | .lthBlkFill _ _ _ _ _ => execLthBlkFill_keeps _ _ _ _ _ s
  | .lthBlkMatch _ _ _ _ => execLthBlkMatch_keeps _ _ _ _ s
  | .lthBlkSeek _ _ _ _ _ => execLthBlkSeek_keeps _ _ _ _ _ s
  | .lthBlkGather _ _ _ _ => execLthBlkGather_keeps _ _ _ _ s
  | .chsPause _ _ => execChsPause_keeps _ _ s
  | .chsPins _ _ _ _ => execChsPins_keeps _ _ _ _ s
  | .chsEmit _ _ _ _ _ => execChsEmit_keeps _ _ _ _ _ s
  | .chsSample _ _ _ _ => execChsSample_keeps _ _ _ _ s
  | .chsBranch _ _ _ _ _ => execChsBranch_keeps _ _ _ _ _ s
  | .chsAwait _ _ _ _ _ => execChsAwait_keeps _ _ _ _ _ s
  | .chsAwaitTimeout _ => execChsAwaitTimeout_keeps _ s
  | .chsCopy _ _ _ _ _ => execChsCopy_keeps _ _ _ _ _ s
  | .chsData _ _ _ => execChsData_keeps _ _ _ s
  | .chsLoad _ _ _ => execChsLoad_keeps _ _ _ s
  | .chsSignal _ _ _ => execChsSignal_keeps _ _ _ s
  | .chiselFifoResume _ _ => execChiselFifoResume_keeps _ _ s
  | .chiselStart _ _ _ => execChiselStart_keeps _ _ _ s
  | .chiselClockRestart _ _ => execChiselClockRestart_keeps _ _ s
  | .chiselStop _ _ => execChiselStop_keeps _ _ s
  | .chsCtrlWrite _ _ => execChsCtrlWrite_keeps _ _ s
  | .chsStoreWrite _ _ _ => execChsStoreWrite_keeps _ _ _ s
  | .chsEDinWrite _ _ => execChsEDinWrite_keeps _ _ s
  | .chsEDoutRead _ => execChsEDoutRead_keeps _ s
  | .chsGcntRead _ => execChsGcntRead_keeps _ s
  | .chsECntRead _ => execChsECntRead_keeps _ s
  | .frameReceive _ _ _ _ _ => execFrameReceive_keeps _ _ _ _ _ s
  | .pauseRefresh _ => execPauseRefresh_keeps _ s
  | .frameTransmitStart _ _ => execFrameTransmitStart_keeps _ _ s
  | .frameTransmitEnd _ => execFrameTransmitEnd_keeps _ s
  | .txDescriptorTake _ => execTxDescriptorTake_keeps _ s
  | .rxRingDeliver _ => execRxRingDeliver_keeps _ s
  | .deadlineWithdraw _ => execDeadlineWithdraw_keeps _ s
  | .linkDown _ => execLinkDown_keeps _ s
  | .linkUp _ _ _ => execLinkUp_keeps _ _ _ s
  | .holdExpiry _ => execHoldExpiry_keeps _ s
  | .preemptVerify _ _ => execPreemptVerify_keeps _ _ s
  | .gateListActivate _ => execGateListActivate_keeps _ s
  | .gateChange _ => execGateChange_keeps _ s
  | .bufferAudit _ _ _ => execBufferAudit_keeps _ _ _ s
  | .swTxrIdxWrite _ _ => execSwTxrIdxWrite_keeps _ _ s
  | .swRxrIdxWrite _ _ => execSwRxrIdxWrite_keeps _ _ s
  | .macSnapWrite _ _ _ => execMacSnapWrite_keeps _ _ _ s
  | .nrwCounterRead _ _ => execNrwCounterRead_keeps _ _ s
  | .swAuditRead => execSwAuditRead_keeps s
  | .canFrameReceive _ _ _ => execCanFrameReceive_keeps _ _ _ s
  | .canProtocolException _ => execCanProtocolException_keeps _ s
  | .canIntegrationEnd _ => execCanIntegrationEnd_keeps _ s
  | .canTxLoad _ _ => execCanTxLoad_keeps _ _ s
  | .canTxCancel _ _ => execCanTxCancel_keeps _ _ s
  | .canTxRelease _ _ => execCanTxRelease_keeps _ _ s
  | .canBusoffRecoveryStart _ => execCanBusoffRecoveryStart_keeps _ s
  | .canRxFetchWrite _ _ => execCanRxFetchWrite_keeps _ _ s
  | .canTxChoice _ => execCanTxChoice_keeps _ s
  | .canAttemptEnd _ _ => execCanAttemptEnd_keeps _ _ s
  | .canRecoveryEnd _ => execCanRecoveryEnd_keeps _ s
  | .canCnt0Read _ => execCanCnt0Read_keeps _ s
  | .canCnt1Read _ => execCanCnt1Read_keeps _ s
  | .tbOfsWrite _ _ _ => execTbOfsWrite_keeps _ _ _ s
  | .tbNsRead _ _ => execTbNsRead_keeps _ _ s
  | .tbConvHiWrite _ _ _ => execTbConvHiWrite_keeps _ _ _ s
  | .holdoverTimeout _ => execHoldoverTimeout_keeps _ s
  | .compareMatch _ => execCompareMatch_keeps _ s
  | .cmpTargetWrite _ _ _ => execCmpTargetWrite_keeps _ _ _ s
  | .captureEdge _ _ _ => execCaptureEdge_keeps _ _ _ s
  | .capHiRead _ => execCapHiRead_keeps _ s
  | .tbStatusRead _ => execTbStatusRead_keeps _ s
  | .cmpStatusRead _ => execCmpStatusRead_keeps _ s
  | .capStatusRead _ => execCapStatusRead_keeps _ s
  | .fabricFrameReceive _ _ _ => execFabricFrameReceive_keeps _ _ _ s
  | .fabricLinkUp _ => execFabricLinkUp_keeps _ s
  | .fabricLinkDown _ _ => execFabricLinkDown_keeps _ _ s
  | .slotWindowOpen _ _ => execSlotWindowOpen_keeps _ _ s
  | .slotWindowClose _ _ => execSlotWindowClose_keeps _ _ s
  | .cycleFrameMissing => execCycleFrameMissing_keeps s
  | .cycleMasterDeparted => execCycleMasterDeparted_keeps s
  | .announceSend => execAnnounceSend_keeps s
  | .bulkSegmentReceive _ _ _ _ _ _ => execBulkSegmentReceive_keeps _ _ _ _ _ _ s
  | .bulkAckReceive _ _ _ => execBulkAckReceive_keeps _ _ _ s
  | .bulkResend _ _ => execBulkResend_keeps _ _ s
  | .joinJ1Receive _ _ _ _ _ _ _ _ => execJoinJ1Receive_keeps _ _ _ _ _ _ _ _ s
  | .joinJ2Receive _ _ _ _ _ => execJoinJ2Receive_keeps _ _ _ _ _ s
  | .joinJ3Receive _ _ => execJoinJ3Receive_keeps _ _ s
  | .joinJ4Receive _ _ _ => execJoinJ4Receive_keeps _ _ _ s
  | .joinJ1Repeat => execJoinJ1Repeat_keeps s
  | .joinTransferComplete _ => execJoinTransferComplete_keeps _ s
  | .coldStartTimeout => execColdStartTimeout_keeps s
  | .coldStartJudge => execColdStartJudge_keeps s
  | .coldStartBackoffEnd => execColdStartBackoffEnd_keeps s
  | .cycleStartAfterCold => execCycleStartAfterCold_keeps s
  | .forwardingSlotMiss => execForwardingSlotMiss_keeps s
  | .echoMiss => execEchoMiss_keeps s
  | .fillFrame _ => execFillFrame_keeps _ s
  | .takeover => execTakeover_keeps s
  | .shadowSynced => execShadowSynced_keeps s
  | .shadowSyncTimeout => execShadowSyncTimeout_keeps s
  | .sleepPointOfNoReturn => execSleepPointOfNoReturn_keeps s
  | .sleepEntry => execSleepEntry_keeps s
  | .sleepEntryComplete => execSleepEntryComplete_keeps s
  | .failsafeSleep => execFailsafeSleep_keeps s
  | .wakeRequest _ _ => execWakeRequest_keeps _ _ s
  | .fwakeDrive => execFwakeDrive_keeps s
  | .sleepingDeviceWake _ => execSleepingDeviceWake_keeps _ s
  | .falseWake => execFalseWake_keeps s
  | .poolAccess _ _ _ _ => execPoolAccess_keeps _ _ _ _ s
  | .poolOwnerWrite _ _ _ => execPoolOwnerWrite_keeps _ _ _ s
  | .poolHandoverComplete _ => execPoolHandoverComplete_keeps _ s
  | .poolEccRead _ => execPoolEccRead_keeps _ s
  | .chkRunWrite _ _ _ => execChkRunWrite_keeps _ _ _ s
  | .chkCntRead _ => execChkCntRead_keeps _ s
  | .scrubBurst _ _ => execScrubBurst_keeps _ _ s
  | .scrubLate _ => execScrubLate_keeps _ s
  | .converterCalibration _ _ _ _ => execConverterCalibration_keeps _ _ _ _ s
  | .pwmTuning _ _ _ => execPwmTuning_keeps _ _ _ s
  | .wearLevelMove _ => execWearLevelMove_keeps _ s
  | .nvRateCheck _ => execNvRateCheck_keeps _ s
  | .archiveCopy _ => execArchiveCopy_keeps _ s
  | .telemetryDatagram => execTelemetryDatagram_keeps s
  | .selfTestSlice _ _ => execSelfTestSlice_keeps _ _ s
  | .spareTestSlice _ => execSpareTestSlice_keeps _ s
  | .eyeMonitor _ _ => execEyeMonitor_keeps _ _ s
  | .loopbackTest _ _ => execLoopbackTest_keeps _ _ s
  | .temperatureSample _ => execTemperatureSample_keeps _ s
  | .powerOnReset _ => execPowerOnReset_keeps _ s
  | .rstNLow => execRstNLow_keeps s
  | .railResetThreshold _ => execRailResetThreshold_keeps _ s
  | .pfwNAssert => execPfwNAssert_keeps s
  | .railInhibitThreshold _ => execRailInhibitThreshold_keeps _ s
  | .inhibitRelease => execInhibitRelease_keeps s
  | .journalCommit => execJournalCommit_keeps s
  | .bootWatchdog => execBootWatchdog_keeps s
  | .bootSlotChoice => execBootSlotChoice_keeps s
  | .startupSelfTest _ _ => execStartupSelfTest_keeps _ _ s
  | .glumeStartup => execGlumeStartup_keeps s
  | .startupImageLoad _ => execStartupImageLoad_keeps _ s
  | .startupFabricJoin => execStartupFabricJoin_keeps s
  | .startupConfigRestore => execStartupConfigRestore_keeps s
  | .recoverWord _ => execRecoverWord_keeps _ s
  | .tapReset => execTapReset_keeps s
  | .tapExtest => execTapExtest_keeps s
  | .tapIdcode => execTapIdcode_keeps s
  | .tapSamplePreload _ => execTapSamplePreload_keeps _ s
  | .tapClamp => execTapClamp_keeps s
  | .tapHighz => execTapHighz_keeps s
  | .tapExtestPulse => execTapExtestPulse_keeps s
  | .tapExtestTrain => execTapExtestTrain_keeps s
  | .tapBypass => execTapBypass_keeps s
  | .tapPinControlTakeover => execTapPinControlTakeover_keeps s
  | .registerWrite _ _ _ => execRegisterWrite_keeps _ _ _ s
  | .pauseTimeExpiry _ _ => execPauseTimeExpiry_keeps _ _ s
  | .pllLockLoss _ => execPllLockLoss_keeps _ s
  | .awaitMatch _ _ => execAwaitMatch_keeps _ _ s
  | .fwakeNAssert => execFwakeNAssert_keeps s
  | .canReceiveError _ _ _ => execCanReceiveError_keeps _ _ _ s
  | .norOperationComplete _ _ _ _ => execNorOperationComplete_keeps _ _ _ _ s
  | .swTxrCredRead _ => execSwTxrCredRead_keeps _ s
  | .swRxrIdxRead _ => execSwRxrIdxRead_keeps _ s
  | .tsInsCfgRead _ => execTsInsCfgRead_keeps _ s

/-- Settles O7: the mask that `exec_keeps` gives a command is that of its list of parts. -/
theorem everyCommandKeepsWhatItDoesNotTouch : Obligations.EveryCommandKeepsWhatItDoesNotTouch := by
  unfold Obligations.EveryCommandKeepsWhatItDoesNotTouch
  exact fun i s t h => (exec_keeps s i t h).touches_mask

end Sys2Proof.Machine
end

section
/-! SUPPORT. The LATHE commands (R358 to R361, R369, R371, R375 to R377): an image that the checks of R358 accept is one. -/

namespace Sys2Proof.Machine

variable {s : State} {bs : List Byte}

/-- A check of R358 that fails has a DETAIL other than zero. -/
theorem checkImage_detail_ne_zero {d : Nat} (h : checkImage bs s = .inr d) : d ≠ 0 := by
  rintro rfl
  unfold checkImage at h
  dsimp only at h
  repeat' split at h
  all_goals cases h

/-- Octets of which no check of R358 complains are an image. -/
theorem exists_image_of_checked (h : ∀ d, checkImage bs s = .inr d → (d != 0) = false) : ∃ i, checkImage bs s = .inl i := by
  cases hr : checkImage bs s with
  | inl i => exact ⟨i, rfl⟩
  | inr d => exact absurd (by simpa using h d hr) (checkImage_detail_ne_zero hr)

/-- LATHE.STORE runs its tests and then writes the inactive slot (R360). -/
theorem runLatheStore_tested (h : Hdr) (a : List Byte) (s : State) :
    let bs := s.bankOctets (uAt a 4 2) 0 0x80000
    let x := s.image (uAt a 0 2)
    runLatheStore h a s = tested s (needsLatheStore h a s)
      (s.setImage (uAt a 0 2) (if x.active = 1 then { x with slotB := bs.take (imageLen bs) } else { x with slotA := bs.take (imageLen bs) }),
        { later := true }) := by
  cases hr : checkImage (s.bankOctets (uAt a 4 2) 0 0x80000) s <;> simp only [runLatheStore, needsLatheStore, hr]

/-- LATHE.LOAD runs its tests and then leaves the banks to its completion (R369). -/
theorem runLatheLoad_tested (h : Hdr) (a : List Byte) (s : State) :
    runLatheLoad h a s = tested s (needsLatheLoad h a s) (s, { later := true }) := by
  cases hr : checkImage (s.image (uAt a 4 2)).octets s <;> simp only [runLatheLoad, needsLatheLoad, hr]

/-- Settles O20: each LATHE command is its tests and then its effect; the test of R358 lets through images alone, and the test of the budget lets
through those whose contexts can be reserved. -/
theorem latheCommandsStoreLoadSwapAndReport : Obligations.LatheCommandsStoreLoadSwapAndReport := by
  unfold Obligations.LatheCommandsStoreLoadSwapAndReport
  refine ⟨hostRow_of_tested (fun _ _ _ => rfl) fun h a s => ⟨_, runLatheStore_tested h a s, fun hp => ?store⟩,
    hostRow_of_tested (fun _ _ _ => rfl) fun h a s => ⟨_, runLatheLoad_tested h a s, fun hp => ?load⟩,
    hostRow_of_tested (fun _ _ _ => rfl) fun h a s => ⟨_, rfl, fun _ => ⟨rfl, rfl⟩⟩,
    hostRow_of_tested (fun _ _ _ => rfl) fun h a s => ⟨_, rfl, fun _ => ⟨rfl, rfl⟩⟩,
    reads_of (fun _ _ _ => rfl) fun _ _ _ => rfl,
    hostRow_of_tested (fun _ _ _ => rfl) fun h a s => ⟨_, rfl, fun _ => ⟨rfl, rfl⟩⟩,
    hostRow_of_tested (fun _ _ _ => rfl) fun h a s => ⟨_, rfl, fun _ => ⟨fun hm => ?publicKey, fun hm => ?install⟩⟩⟩
  case store =>
    have himage : ∃ i, checkImage (s.bankOctets (uAt a 4 2) 0 0x80000) s = .inl i := exists_image_of_checked fun d hd =>
      hp.of_mem (c := St.imageRejected) (d := d) (by simp [needsLatheStore, hd])
    exact ⟨rfl, himage, (State.setImage_keeps s _ _).touches _ (by decide), rfl⟩
  case load =>
    obtain ⟨i, hi⟩ : ∃ i, checkImage (s.image (uAt a 4 2)).octets s = .inl i := exists_image_of_checked fun d hd =>
      hp.of_mem (c := St.imageRejected) (d := d) (by simp [needsLatheLoad, hd])
    have hbudget : (!s.canReserve (uAt a 0 2) i.ctxMax || !s.cyclesFit (uAt a 0 2) i.cycTx) = false :=
      hp.of_mem (c := St.budgetExceeded) (d := 0) (by simp [needsLatheLoad, hi])
    exact ⟨rfl, rfl, i, hi, by simpa using (Bool.or_eq_false_iff.mp hbudget).1⟩
  case publicKey =>
    rw [if_pos hm]
    exact ⟨rfl, rfl⟩
  case install =>
    rw [if_neg hm]
    refine ⟨rfl, ?_, ?_⟩
    · exact State.retain_keeps _ 4 0 _ .custKey rfl
    · exact ((Keeps.custKey_ (m := 549755830336) (Keeps.refl _ s) rfl).trans
        ((State.retain_keeps _ 4 0 (a.drop 4)).mono rfl)).touches _ (by decide)

end Sys2Proof.Machine
end

section
/-! SUPPORT. How an instruction of a Lathe ends (R364, R384, R385, R391, R401): with nothing where no level executes, before its execution with an
exception of its level, or after its body. -/

namespace Sys2Proof.Machine

variable {i : Instr} {e v : Nat} {p : List Byte} {f : LthForm} {body : LthEnv → State → State × LthEnd} {s t u : State} {l : Lathe}

/-! ### Changes of one engine -/

/-- A state that differs from `s` in one engine. -/
def LatheBecomes (e : Nat) (s t : State) (l : Lathe) : Prop :=
  t.lathe e = l ∧ (∀ d, d ≠ e → t.lathe d = s.lathe d) ∧ Touches [.lathes] s t

theorem LatheBecomes.setLathe (s : State) (e : Nat) (l : Lathe) : LatheBecomes e s (s.setLathe e l) l :=
  ⟨State.lathe_setLathe s e l, fun _ hd => State.lathe_setLathe_other s l hd, State.setLathe_touches s e l⟩

theorem LatheBecomes.trans {k : Lathe} (h : LatheBecomes e s t l) (g : LatheBecomes e t u k) : LatheBecomes e s u k := by
  obtain ⟨-, hother, hframe⟩ := h
  obtain ⟨hthis, hother', hframe'⟩ := g
  exact ⟨hthis, fun d hd => (hother' d hd).trans (hother d hd), hframe.trans hframe'⟩

theorem LatheBecomes.upd (h : LatheBecomes e s t l) (f : Lathe → Lathe) : LatheBecomes e s (t.updLathe e f) (f l) := by
  obtain rfl := h.1
  exact h.trans (.setLathe t e _)

/-- A change of one level is one of its engine. -/
theorem AtLevel.becomes {x : LthLevel} (h : AtLevel e v s t x) : LatheBecomes e s t ((s.lathe e).setLevel v x) := h

theorem LatheBecomes.updLevel (h : LatheBecomes e s t l) (v : Nat) (f : LthLevel → LthLevel) :
    LatheBecomes e s (t.updLevel e v f) (l.setLevel v (f (l.level v))) := h.upd _

/-- A refused access is counted (R356). -/
def Lathe.refused (l : Lathe) : Lathe := { l with accessFault := wrap 32 (l.accessFault + 1) }

theorem LatheBecomes.accessFault (h : LatheBecomes e s t l) : LatheBecomes e s (t.accessFault e) l.refused := h.upd _

theorem Lathe.refused_setLevel (l : Lathe) (v : Nat) (x : LthLevel) : (l.setLevel v x).refused = l.refused.setLevel v x := by
  unfold Lathe.setLevel
  split
  · rfl
  · split <;> rfl

theorem Lathe.level_refused (l : Lathe) (v : Nat) : l.refused.level v = l.level v := rfl

/-! ### Exceptions (R401) -/

/-- An exception of a level whose exceptions are enabled changes its engine alone. -/
theorem LatheBecomes.exception (h : LatheBecomes e s t l) (hx : (l.level v).xen = true) (cause trap : Nat) (blk : Bool) (addr data next : Nat) :
    LatheBecomes e s (t.exception e v cause trap blk (BitVec.ofNat 32 addr) (BitVec.ofNat 32 data) (BitVec.ofNat 32 next))
      (l.excepted v cause trap blk addr data next) := by
  obtain rfl := h.1
  rw [exception_enabled hx]
  exact h.trans (.setLathe t e _)

/-- Where the instruction pointer of the level stood does not show after an exception. -/
theorem Lathe.excepted_ip (l : Lathe) (v : Nat) (ip : Word) (cause trap : Nat) (blk : Bool) (addr data next : Nat) :
    (l.setLevel v { l.level v with ip := ip }).excepted v cause trap blk addr data next = l.excepted v cause trap blk addr data next := by
  unfold Lathe.excepted
  rw [Lathe.setLevel_setLevel, Lathe.level_setLevel, Lathe.exceptions_setLevel, LthLevel.land_eq, LthLevel.land_eq]

/-! ### Before execution (R364, R384, R385) -/

/-- Whatever an instruction of a Lathe does, the shared form of its engine's rows does it. -/
theorem latheInstr_row (h : latheInstr i = some (e, p)) (s : State) : ∃ f body, exec i s = lthRow e p f body s := by
  cases i with
  | lthNop | lthEnd | lthIdle | lthRetx | lthTrap | lthMov | lthMovi | lthAdd | lthAddi | lthAdc | lthSub | lthSubi | lthSbc | lthCmp | lthCmpi
  | lthAnd | lthAndi | lthOr | lthOri | lthXor | lthXori | lthTst | lthTsti | lthShl | lthShli | lthShr | lthShri | lthSar | lthSari | lthRol
  | lthRoli | lthNot | lthNeg | lthMul | lthMuli | lthBswap | lthExt | lthBtst | lthBset | lthBclr | lthLd | lthLds | lthSt | lthLea | lthXchg
  | lthCas | lthSti | lthPush | lthPop | lthBccRel8 | lthBccRel16 | lthJmp | lthJmpa | lthCall | lthCallr | lthRet | lthBlkCopy | lthBlkFill
  | lthBlkMatch | lthBlkSeek | lthBlkGather =>
    cases h
    exact ⟨_, _, rfl⟩
  | _ => cases h

/-- Without an image that runs or without work in progress an engine executes nothing. -/
theorem lthRow_idle (he : e < 16) (h : (s.lathe e).loaded = false ∨ (s.lathe e).unusable = true ∨ (s.lathe e).running = none) :
    lthRow e p f body s = .next s := by
  unfold lthRow
  rw [onUnit_next he]
  rcases h with h | h | h <;> simp [h]

/-- The highest level with work in progress executes. -/
theorem lthRow_running (he : e < 16) (hl : (s.lathe e).loaded = true) (hu : (s.lathe e).unusable = false) (hr : (s.lathe e).running = some v) :
    lthRow e p f body s = .next (runInstr e v p f body s) := by
  unfold lthRow
  rw [onUnit_next he]
  simp [hl, hu, hr]

/-- An octet that fails decoding takes its exception when it stands in the code; else the code has ended before. -/
theorem runInstr_of_decodeFail {k : Nat} (hip : (s.lthLevel e v).ip.toNat < 65536) (hk : decodeFail p f = some k) : runInstr e v p f body s =
    if (s.lthLevel e v).ip.toNat + k < (s.lathe e).image.code.length then decodeEnd e v 1 (s.lthLevel e v).ip.toNat ((s.lthLevel e v).ip.toNat + k + 1) s
    else
      let stop := (s.lthLevel e v).ip.toNat + ((s.lathe e).image.code.length - (s.lthLevel e v).ip.toNat)
      decodeEnd e v 2 stop stop s := by
  unfold runInstr
  simp only [hk, hip, if_true, Nat.lt_sub_iff_add_lt']

theorem decodeFail_of_badPrefix {k : Nat} (h : badPrefix p = some k) : decodeFail p f = some k := by
  simp [decodeFail, h]

/-- An exception before execution of a level whose exceptions are enabled. -/
theorem decodeEnd_becomes (hx : (s.lthLevel e v).xen = true) (cause addr next : Nat) :
    LatheBecomes e s (decodeEnd e v cause addr next s) ((s.lathe e).excepted v cause 0 false addr 0 next) :=
  LatheBecomes.exception ⟨rfl, fun _ _ => rfl, Touches.refl _ s⟩ hx cause 0 false addr 0 next

/-- An instruction with an octet that fails decoding, once its prefixes are legal for it. -/
theorem illegal_of_bad {k len : Nat} (hi : exec i s = lthRow e p f body s) (h : Ready e v p f.accepts len s) (hx : (s.lthLevel e v).xen = true)
    (hb : f.bad = some k) (hk : k < len) : Illegal i s e v p k := by
  have hfail : decodeFail p f = some (p.length + k) := by simp [decodeFail, h.prefixes, h.accepted, hb]
  have hcode := h.inCode
  have hrun : exec i s = .next (decodeEnd e v 1 (s.lthLevel e v).ip.toNat ((s.lthLevel e v).ip.toNat + p.length + k + 1) s) := by
    rw [hi, lthRow_running h.engine h.loaded h.usable h.level, runInstr_of_decodeFail h.address hfail, if_pos (by omega), ← Nat.add_assoc]
  exact ⟨_, hrun, decodeEnd_becomes hx 1 _ _⟩

/-! ### After the body (R391, R401) -/

/-- An instruction whose body ends with changes of its engine alone. -/
theorem does_of_done {load : Option (Nat × Word)} (hi : exec i s = lthRow e p f body s) (h : Ready e v p f.accepts f.len s) (hb : f.bad = none)
    (hu : LatheBecomes e s u l) (hg : body (envOf e v p f.len s) (startOf e v p f.len s) = (u, .done load)) :
    Does i s (fun t => LatheBecomes e s t (l.setLevel v { (l.level v).land with pend := load })) := by
  refine ⟨_, hi.trans (lthRow_ready h hb), ?_⟩
  rw [hg]
  exact hu.updLevel v (fun x => { x.land with pend := load })

/-- An instruction whose body ends with an exception of its level. -/
theorem does_of_fault {cause data trap : Nat} {blk : Bool} (hi : exec i s = lthRow e p f body s) (h : Ready e v p f.accepts f.len s)
    (hb : f.bad = none) (hu : LatheBecomes e s u l) (hx : (l.level v).xen = true)
    (hg : body (envOf e v p f.len s) (startOf e v p f.len s) = (u, .fault cause data trap blk)) :
    Does i s (fun t => LatheBecomes e s t (l.excepted v cause trap blk (s.lthLevel e v).ip.toNat data (nextIp e v p f.len s))) := by
  refine ⟨_, hi.trans (lthRow_ready h hb), ?_⟩
  rw [hg]
  exact hu.exception hx cause trap blk _ data _

/-- An instruction whose body changes nothing and ends with an exception of its level. -/
theorem excepts_of_fault {cause data trap : Nat} {blk : Bool} (hi : exec i s = lthRow e p f body s) (h : Ready e v p f.accepts f.len s)
    (hb : f.bad = none) (hx : (s.lthLevel e v).xen = true)
    (hg : body (envOf e v p f.len s) (startOf e v p f.len s) = (startOf e v p f.len s, .fault cause data trap blk)) :
    Excepts i s e v cause trap blk data (nextIp e v p f.len s) := by
  obtain ⟨t, ht, hbecomes⟩ := does_of_fault hi h hb (start_at e v p f.len s).becomes (by rw [Lathe.level_setLevel]; exact hx) hg
  exact ⟨t, ht, by rw [← Lathe.excepted_ip]; exact hbecomes⟩

end Sys2Proof.Machine
end

section
/-! SUPPORT. Restarts of a Lathe and the END of phase-level work (R370, R371, R379, R395): what of the engine and of the rest a restart leaves. -/

namespace Sys2Proof.Machine

variable {s t : State} {e d c : Nat} {l : Lathe}

theorem State.lathe_of_lathes (h : t.lathes = s.lathes) (d : Nat) : t.lathe d = s.lathe d := by
  rw [State.lathe, h, State.lathe]

theorem State.ctx_of_ctxs (h : t.ctxs = s.ctxs) (c : Nat) : t.ctx c = s.ctx c := by
  rw [State.ctx, h, State.ctx]

/-! ### Contexts that close (R372, R379) -/

theorem closeCtxs_cons (c : Nat) (cs : List Nat) (s : State) : closeCtxs (c :: cs) s = closeCtxs cs (s.setCtx c { s.ctx c with kind := 0 }) := rfl

theorem closeCtxs_other {cs : List Nat} (h : c ∉ cs) : (closeCtxs cs s).ctx c = s.ctx c := by
  induction cs generalizing s with
  | nil => rfl
  | cons b cs ih =>
    obtain ⟨hb, hcs⟩ := not_or.mp (mt List.mem_cons.mpr h)
    rw [closeCtxs_cons, ih hcs, State.ctx_setCtx_other _ _ hb]

theorem closeCtxs_kind {cs : List Nat} (h : c ∈ cs) : ((closeCtxs cs s).ctx c).kind = 0 := by
  induction cs generalizing s with
  | nil => cases h
  | cons b cs ih =>
    rw [closeCtxs_cons]
    by_cases hcs : c ∈ cs
    · exact ih hcs
    · obtain rfl := (List.mem_cons.mp h).resolve_right hcs
      rw [closeCtxs_other hcs, State.ctx_setCtx]

/-! ### Restart (R379) -/

/-- The restarts of the last 10 s before an instant. -/
def Lathe.recentRestarts (l : Lathe) (now : Nat) : List Nat := l.restartTimes.filter (fun x => decide (now < x + 10000000000))

/-- An engine that restarts its image at an instant. -/
def Lathe.restarted (l : Lathe) (now : Nat) : Lathe := { l with
  phase := l.phase.cleared.enter l.image.entryInit 0 0, rx := l.rx.cleared, bg := l.bg.cleared
  restarting := true, initing := false, migrating := false, initDone := false, toMigrate := []
  due := l.due ++ l.heldRx, heldRx := [], restartTimes := l.recentRestarts now ++ [now], restarts := wrap 32 (l.restarts + 1) }

/-- What of the memory of an engine is lost and loaded afresh when it restarts: its contexts and its initial data. -/
def memoryRestarted (e : Nat) (s : State) : State :=
  (closeCtxs (s.lathe e).ctxs s).memPut (dataHalf e (s.lathe e).live + 8192) (s.lathe e).image.init

theorem memoryRestarted_keeps (e : Nat) (s : State) : Keeps 1073750528 s (memoryRestarted e s) :=
  ((closeCtxs_keeps _ s).mono rfl).trans ((State.memPut_keeps _ _ _).mono rfl)

/-- A restart, but for what a third one within 10 s brings. -/
def restartedOnce (e : Nat) (s : State) : State :=
  ownerLost e ((memoryRestarted e s).setLathe e ((s.lathe e).restarted s.gtc))

theorem restartedOnce_keeps (e : Nat) (s : State) : Keeps 1073850880 s (restartedOnce e s) :=
  ((memoryRestarted_keeps e s).mono rfl).trans (((State.setLathe_keeps _ e _).mono rfl).trans ((ownerLost_keeps e _).mono rfl))

theorem restartLathe_of_idle (h : (s.lathe e).loaded = false ∨ (s.lathe e).unusable = true) : restartLathe e s = s := by
  unfold restartLathe
  exact if_pos (by rcases h with h | h <;> simp [h])

theorem restartLathe_eq (hl : (s.lathe e).loaded = true) (hu : (s.lathe e).unusable = false) : restartLathe e s =
    if 2 ≤ ((s.lathe e).recentRestarts s.gtc).length then (restartedOnce e s).doom (4 + e) 3 else restartedOnce e s := by
  have hgtc : (memoryRestarted e s).gtc = s.gtc := State.gtc_of_time (memoryRestarted_keeps e s .time rfl)
  have hform : restartLathe e s = if !(s.lathe e).loaded || (s.lathe e).unusable then s
      else if 3 ≤ ((s.lathe e).recentRestarts (memoryRestarted e s).gtc ++ [(memoryRestarted e s).gtc]).length then
        (ownerLost e ((memoryRestarted e s).setLathe e ((s.lathe e).restarted (memoryRestarted e s).gtc))).doom (4 + e) 3
      else ownerLost e ((memoryRestarted e s).setLathe e ((s.lathe e).restarted (memoryRestarted e s).gtc)) := rfl
  rw [hform, hgtc, if_neg (by simp [hl, hu])]
  simp only [restartedOnce, List.length_append, List.length_singleton, Nat.succ_le_succ_iff]

/-- Whether a restart is the third within 10 s shows in the marks of the Winnower alone. -/
theorem restartLathe_same {p : Part} (hl : (s.lathe e).loaded = true) (hu : (s.lathe e).unusable = false)
    (hp : Nat.testBit 524288 p.bit = false) : Same p (restartedOnce e s) (restartLathe e s) := by
  rw [restartLathe_eq hl hu]
  split
  · exact State.doom_keeps _ _ _ p hp
  · exact Same.rfl_ p _

theorem restartLathe_lathe (hl : (s.lathe e).loaded = true) (hu : (s.lathe e).unusable = false) (d : Nat) :
    (restartLathe e s).lathe d = if d = e then (s.lathe e).restarted s.gtc else s.lathe d := by
  rw [State.lathe_of_lathes (restartLathe_same (p := .lathes) hl hu rfl), restartedOnce, State.lathe_of_lathes (ownerLost_keeps e _ .lathes rfl)]
  by_cases hd : d = e
  · subst hd
    rw [if_pos rfl, State.lathe_setLathe]
  · rw [if_neg hd, State.lathe_setLathe_other _ _ hd, State.lathe_of_lathes (memoryRestarted_keeps e s .lathes rfl)]

theorem restartLathe_ctx (hl : (s.lathe e).loaded = true) (hu : (s.lathe e).unusable = false) (c : Nat) :
    (restartLathe e s).ctx c = (closeCtxs (s.lathe e).ctxs s).ctx c := by
  rw [State.ctx_of_ctxs (restartLathe_same (p := .ctxs) hl hu rfl), restartedOnce, State.ctx_of_ctxs (ownerLost_keeps e _ .ctxs rfl)]
  exact State.ctx_of_ctxs (s := closeCtxs (s.lathe e).ctxs s) rfl c

theorem restartLathe_touches (e : Nat) (s : State) :
    Touches [.lathes, .pool, .poolMem, .ctxs, .chisels, .cans, .wnw] s (restartLathe e s) := (restartLathe_keeps e s).touches _ (by decide)

/-- The third restart within 10 s dooms the engine. -/
theorem restartLathe_dooms (hl : (s.lathe e).loaded = true) (hu : (s.lathe e).unusable = false)
    (h : 2 ≤ ((s.lathe e).recentRestarts s.gtc).length) : (4 + e, 3) ∈ (restartLathe e s).wnw.marks := by
  rw [restartLathe_eq hl hu, if_pos h]
  exact List.mem_append_right _ List.mem_cons_self

theorem restartLathe_wnw (hl : (s.lathe e).loaded = true) (hu : (s.lathe e).unusable = false)
    (h : ((s.lathe e).recentRestarts s.gtc).length < 2) : (restartLathe e s).wnw = s.wnw := by
  rw [restartLathe_eq hl hu, if_neg (Nat.not_le.mpr h)]
  exact restartedOnce_keeps e s .wnw rfl

end Sys2Proof.Machine
end

section
/-! SUPPORT. The control instructions of the Lathes (R364, R379, R384, R385, R395, R401). -/

namespace Sys2Proof.Machine

variable {i : Instr} {e v : Nat} {p : List Byte} {s t : State} {l : Lathe}

/-! ### END (R363, R370, R379, R395) -/

/-- An engine whose receive entry has ended; an IDLE of the background level ends with it. -/
def Lathe.receiveEnded (l : Lathe) : Lathe := { l with rx := { l.rx with active := false }, bg := { l.bg with idle := false } }

/-- An engine whose phase-level work has ended; an IDLE of the background level ends with it. -/
def Lathe.phaseEnded (l : Lathe) : Lathe := { l with phase := { l.phase with active := false }, bg := { l.bg with idle := false } }

/-- An engine whose initialisation has ended: its background level starts. -/
def Lathe.initialised (l : Lathe) : Lathe := { l with initing := false, restarting := false, bg := l.bg.enter l.image.entryBg 0 0 }

/-- What follows the end of phase-level work: a swap goes on to its contexts, an initialisation to the background level. -/
def afterPhaseWork (e : Nat) (t : State) : State :=
  if (t.lathe e).migrating then migrateFrom e (t.lathe e).toMigrate (t.setLathe e { t.lathe e with initDone := true })
  else if (t.lathe e).initing || (t.lathe e).restarting then t.setLathe e (t.lathe e).initialised
  else t

theorem endReceive_becomes (h : LatheBecomes e s t l) : LatheBecomes e s (endReceive e t) l.receiveEnded := h.upd _

theorem afterPhaseWork_of_running (h : LatheBecomes e s t l) (hm : l.migrating = false) (hi : l.initing = false) (hr : l.restarting = false) :
    LatheBecomes e s (afterPhaseWork e t) l := by
  obtain rfl := h.1
  rwa [afterPhaseWork, hm, hi, hr]

theorem afterPhaseWork_of_initial (h : LatheBecomes e s t l) (hm : l.migrating = false) (hi : l.initing = true ∨ l.restarting = true) :
    LatheBecomes e s (afterPhaseWork e t) l.initialised := by
  obtain rfl := h.1
  rw [afterPhaseWork, hm, if_neg Bool.false_ne_true, if_pos (Bool.or_eq_true_iff.mpr hi)]
  exact h.trans (.setLathe t e _)

/-- The levels after an END: the load before it has landed before the work ends, and nothing is pending (R391). -/
theorem LthLevel.pend_land (x : LthLevel) : x.land.pend = none := by rw [LthLevel.land_eq]

theorem LthLevel.land_of_none {x : LthLevel} (h : x.pend = none) : x.land = x := by
  unfold LthLevel.land
  rw [h]

/-- What END leaves of an engine at the receive level. -/
theorem Lathe.receiveEnded_landed (l : Lathe) (x : LthLevel) :
    (l.setLevel 1 x.land).receiveEnded.setLevel 1 { ((l.setLevel 1 x.land).receiveEnded.level 1).land with pend := none } =
      { l with rx := { { x.land with pend := none } with active := false }, bg := { l.bg with idle := false } } := by
  have hlanded : ((l.setLevel 1 x.land).receiveEnded.level 1).land = { x.land with active := false } := LthLevel.land_of_none x.pend_land
  rw [hlanded]
  rfl

/-- What END leaves of an engine at the phase level. -/
theorem Lathe.phaseEnded_landed (l : Lathe) (x : LthLevel) :
    (l.setLevel 0 x.land).phaseEnded.setLevel 0 { ((l.setLevel 0 x.land).phaseEnded.level 0).land with pend := none } =
      { l with phase := { { x.land with pend := none } with active := false }, bg := { l.bg with idle := false } } := by
  have hlanded : ((l.setLevel 0 x.land).phaseEnded.level 0).land = { x.land with active := false } := LthLevel.land_of_none x.pend_land
  rw [hlanded]
  rfl

/-- The engine when the body of END starts its work: the instruction pointer is past the instruction and the load before it has landed. -/
theorem landed_becomes (e v : Nat) (p : List Byte) (len : Nat) (s : State) :
    LatheBecomes e s ((envOf e v p len s).upd (startOf e v p len s) LthLevel.land)
      ((s.lathe e).setLevel v { s.lthLevel e v with ip := BitVec.ofNat 32 (nextIp e v p len s) }.land) :=
  ((start_at e v p len s).step LthLevel.land).becomes

theorem execLthNop_row (e : Nat) (p : List Byte) (s : State) :
    exec (.lthNop e p) s = lthRow e p { len := 1 } (fun _ s => (s, .done none)) s := rfl

theorem execLthTrap_row (e : Nat) (p : List Byte) (b : Byte) (s : State) :
    exec (.lthTrap e p b) s = lthRow e p { len := 2 } (fun _ s => (s, .fault 6 0 b.toNat false)) s := rfl

/-- END is illegal at the background level alone. -/
theorem execLthEnd_row (h : (s.lathe e).running = some v) : exec (.lthEnd e p) s = lthRow e p { len := 1, bad := if v = 2 then some 0 else none }
    (fun k s => (endWork k.e k.v (k.upd s LthLevel.land), .done none)) s := by
  change execLthEnd e p s = _
  unfold execLthEnd
  rw [h]
  simp

/-- IDLE is legal at the background level alone. -/
theorem execLthIdle_row (h : (s.lathe e).running = some v) : exec (.lthIdle e p) s = lthRow e p { len := 1, bad := if v = 2 then none else some 0 }
    (fun k s => (k.upd s (fun x => { x with idle := true }), .done none)) s := by
  change execLthIdle e p s = _
  unfold execLthIdle
  rw [h]
  simp

/-- RETX is illegal while exceptions are enabled. -/
theorem execLthRetx_row (h : (s.lathe e).running = some v) : exec (.lthRetx e p) s =
    lthRow e p { len := 1, bad := if (s.lthLevel e v).xen then some 0 else none }
      (fun k s => (k.upd s (fun x => { x with xen := true, ip := x.xnext }), .done none)) s := by
  change execLthRetx e p s = _
  unfold execLthRetx
  rw [h]

/-- END at a level that has work to end. -/
theorem end_of_work (h : Ready e v p {} 1 s) (hv : v ≠ 2)
    (hw : ∀ u, LatheBecomes e s u ((s.lathe e).setLevel v { s.lthLevel e v with ip := BitVec.ofNat 32 (nextIp e v p 1 s) }.land) →
      LatheBecomes e s (endWork e v u) l) :
    Does (.lthEnd e p) s (fun t => LatheBecomes e s t (l.setLevel v { (l.level v).land with pend := none })) :=
  does_of_done (execLthEnd_row h.level) h (if_neg hv) (hw _ (landed_becomes e v p 1 s)) rfl

theorem endWork_receive (e : Nat) (s : State) : endWork e 1 s = endReceive e s := rfl

theorem endWork_phase (e : Nat) (s : State) : endWork e 0 s = afterPhaseWork e (s.updLathe e Lathe.phaseEnded) := rfl

/-- END of a receive entry. -/
theorem end_receive (h : Ready e 1 p {} 1 s) : Does (.lthEnd e p) s (fun t => LatheBecomes e s t
    { s.lathe e with
      rx := { (s.lathe e).rx.retire (nextIp e 1 p 1 s) p none none none with active := false }, bg := { (s.lathe e).bg with idle := false } }) := by
  have hdone := end_of_work h (by decide) fun u hu => by
    rw [endWork_receive]
    exact endReceive_becomes hu
  rw [Lathe.receiveEnded_landed] at hdone
  exact hdone

/-- END of phase-level work of an image that runs. -/
theorem end_phase (h : Ready e 0 p {} 1 s) (hm : (s.lathe e).migrating = false) (hi : (s.lathe e).initing = false)
    (hr : (s.lathe e).restarting = false) : Does (.lthEnd e p) s (fun t => LatheBecomes e s t
    { s.lathe e with
      phase := { (s.lathe e).phase.retire (nextIp e 0 p 1 s) p none none none with active := false }, bg := { (s.lathe e).bg with idle := false } }) := by
  have hdone := end_of_work h (by decide) fun u hu => by
    rw [endWork_phase]
    exact afterPhaseWork_of_running (hu.upd Lathe.phaseEnded) hm hi hr
  rw [Lathe.phaseEnded_landed] at hdone
  exact hdone

theorem LthLevel.active_land (x : LthLevel) : x.land.active = x.active := by rw [LthLevel.land_eq]

/-- END of an initialisation or of a restart: the background level starts. -/
theorem end_initial (h : Ready e 0 p {} 1 s) (hm : (s.lathe e).migrating = false) (hi : (s.lathe e).initing = true ∨ (s.lathe e).restarting = true) :
    Does (.lthEnd e p) s (fun t => (t.lathe e).initing = false ∧ (t.lathe e).restarting = false ∧ (t.lathe e).phase.active = false ∧
      (t.lathe e).bg.active = true ∧ (t.lathe e).bg.ip = BitVec.ofNat 32 (s.lathe e).image.entryBg ∧
      (∀ d, d ≠ e → t.lathe d = s.lathe d) ∧ Touches [.lathes] s t) := by
  obtain ⟨t, ht, hthis, hother, hframe⟩ := end_of_work h (by decide) fun u hu => by
    rw [endWork_phase]
    exact afterPhaseWork_of_initial (hu.upd Lathe.phaseEnded) hm hi
  refine ⟨t, ht, ?_⟩
  dsimp only
  rw [hthis]
  exact ⟨rfl, rfl, LthLevel.active_land _, rfl, rfl, hother, hframe⟩

/-! ### TRAP while exceptions are disabled (R379, R401) -/

/-- The engine once an exception of level `v` that finds exceptions disabled has landed the load before it and is counted. -/
def Lathe.failed (l : Lathe) (v : Nat) : Lathe := { l.setLevel v (l.level v).land with exceptions := wrap 32 (l.exceptions + 1) }

theorem exception_disabled (hx : (s.lthLevel e v).xen = false) (cause trap : Nat) (blk : Bool) (addr data next : Word) :
    s.exception e v cause trap blk addr data next = restartLathe e (s.setLathe e ((s.lathe e).failed v)) := by
  have hx' : ((s.lathe e).level v).land.xen = false := by rw [LthLevel.land_eq]; exact hx
  unfold State.exception
  simp only [hx', Bool.false_eq_true, if_false]
  rfl

/-- A level replaced leaves image, state and counters of its engine. -/
theorem Lathe.setLevel_frame (l : Lathe) (v : Nat) (x : LthLevel) :
    (l.setLevel v x).loaded = l.loaded ∧ (l.setLevel v x).unusable = l.unusable ∧ (l.setLevel v x).restarts = l.restarts ∧
      (l.setLevel v x).image = l.image ∧ (l.setLevel v x).exceptions = l.exceptions := by
  unfold Lathe.setLevel Lathe.image
  split
  · exact ⟨rfl, rfl, rfl, rfl, rfl⟩
  · split <;> exact ⟨rfl, rfl, rfl, rfl, rfl⟩

/-- An engine that executed an instruction with an exception while its exceptions are disabled restarts, and the exception is counted. -/
theorem restart_of_failed (h : LatheBecomes e s t l) (hl : l.loaded = true) (hu : l.unusable = false) (v : Nat) :
    let u := restartLathe e (t.setLathe e (l.failed v))
    (u.lathe e).exceptions = wrap 32 (l.exceptions + 1) ∧ (u.lathe e).restarts = wrap 32 (l.restarts + 1) ∧
      (u.lathe e).restarting = true ∧ (u.lathe e).phase.ip = BitVec.ofNat 32 l.image.entryInit ∧
      (∀ d, d ≠ e → u.lathe d = s.lathe d) ∧ Touches [.lathes, .pool, .poolMem, .ctxs, .chisels, .cans, .wnw] s u := by
  obtain ⟨hloaded, husable, hrestarts, himage, -⟩ := l.setLevel_frame v (l.level v).land
  obtain ⟨hthis, hother, hframe⟩ := h.trans (.setLathe t e (l.failed v))
  have hlathe := restartLathe_lathe (s := t.setLathe e (l.failed v)) (e := e) (by rw [hthis]; exact hloaded.trans hl)
    (by rw [hthis]; exact husable.trans hu)
  refine ⟨?_, ?_, ?_, ?_, fun d hd => ?_, (hframe.mono (by simp)).trans (restartLathe_touches e _)⟩
  · rw [hlathe, if_pos rfl, hthis]
    rfl
  · rw [hlathe, if_pos rfl, hthis]
    exact congrArg (fun n => wrap 32 (n + 1)) hrestarts
  · rw [hlathe, if_pos rfl]
    rfl
  · rw [hlathe, if_pos rfl, hthis]
    exact congrArg (fun i : Image => BitVec.ofNat 32 i.entryInit) himage
  · rw [hlathe, if_neg hd, hother d hd]

/-- TRAP while exceptions are disabled. -/
theorem trap_disabled {b : Byte} (h : Ready e v p {} 2 s) (hx : (s.lthLevel e v).xen = false) : Does (.lthTrap e p b) s (fun t =>
    (t.lathe e).exceptions = wrap 32 ((s.lathe e).exceptions + 1) ∧ (t.lathe e).restarts = wrap 32 ((s.lathe e).restarts + 1) ∧
      (t.lathe e).restarting = true ∧ (t.lathe e).phase.ip = BitVec.ofNat 32 (s.lathe e).image.entryInit ∧
      (∀ d, d ≠ e → t.lathe d = s.lathe d) ∧ Touches [.lathes, .pool, .poolMem, .ctxs, .chisels, .cans, .wnw] s t) := by
  have hstart := (start_at e v p 2 s).becomes
  obtain ⟨hloaded, husable, hrestarts, himage, hexceptions⟩ := (s.lathe e).setLevel_frame v { s.lthLevel e v with ip := BitVec.ofNat 32 (nextIp e v p 2 s) }
  have hx' : ((startOf e v p 2 s).lthLevel e v).xen = false := by
    rw [State.lthLevel, hstart.1, Lathe.level_setLevel]
    exact hx
  refine ⟨_, ((execLthTrap_row e p b s).trans (lthRow_ready h rfl)).trans (congrArg _ (exception_disabled hx' 6 b.toNat false _ _ _)), ?_⟩
  have hrestart := restart_of_failed hstart (hloaded.trans h.loaded) (husable.trans h.usable) v
  rw [hexceptions, hrestarts, himage] at hrestart
  rw [hstart.1]
  exact hrestart

/-- Settles O60: a legal instruction is its body between the fetch and the landing of the load before it; an octet that fails decoding, a TRAP
and an END each go through the lemma of how such an instruction ends. -/
theorem latheControlInstructionsAndExceptions : Obligations.LatheControlInstructionsAndExceptions := by
  unfold Obligations.LatheControlInstructionsAndExceptions
  refine ⟨fun e v p s h => runs_plain (execLthNop_row e p s) h rfl rfl, fun e p s h => ?idle, fun e v p s hv hx h => ?idleIllegal, fun e p s hx h => ?endIllegal,
    fun e p s h => end_receive h, fun e p s h hm hi hr => end_phase h hm hi hr, fun e p s h hm hi => end_initial h hm hi,
    fun e v p s hx h => ?retx, fun e v p s hx h => ?retxIllegal, fun e v p b s hx h => excepts_of_fault (execLthTrap_row e p b s) h rfl hx rfl,
    fun e v p b s hx h => trap_disabled h hx, fun i e p s hi he h => ?nothing, fun i e p v k s hi he hl hu hr hip hx hk => ?prefixes,
    fun i e p s hi he => ?missing⟩
  case idle =>
    have hruns := runs_level (execLthIdle_row h.level) h rfl (fun x => { x with idle := true }) none rfl
    rw [LthLevel.land_eq] at hruns
    rw [LthLevel.retire, LthLevel.land_eq]
    exact hruns
  case idleIllegal => exact illegal_of_bad (execLthIdle_row h.level) h hx (if_neg hv) Nat.zero_lt_one
  case endIllegal => exact illegal_of_bad (execLthEnd_row h.level) h hx rfl Nat.zero_lt_one
  case retx =>
    have hruns := runs_level (execLthRetx_row h.level) h (by simp [hx]) (fun x => { x with xen := true, ip := x.xnext }) none rfl
    rw [LthLevel.land_eq] at hruns
    rw [LthLevel.retire, LthLevel.land_eq, BitVec.ofNat_toNat, BitVec.setWidth_eq]
    exact hruns
  case retxIllegal => exact illegal_of_bad (execLthRetx_row h.level) h hx (by simp [hx]) Nat.zero_lt_one
  case nothing =>
    obtain ⟨f, body, hrow⟩ := latheInstr_row hi s
    exact ⟨s, hrow.trans (lthRow_idle he h), rfl⟩
  case prefixes =>
    obtain ⟨f, body, hrow⟩ := latheInstr_row hi s
    have hrun := (hrow.trans (lthRow_running he hl hu hr)).trans (congrArg _ (runInstr_of_decodeFail hip (decodeFail_of_badPrefix hk)))
    refine ⟨fun hin => ⟨_, hrun.trans (congrArg _ (if_pos hin)), decodeEnd_becomes hx 1 _ _⟩, fun hout hend => ?_⟩
    have hstop : (s.lthLevel e v).ip.toNat + ((s.lathe e).image.code.length - (s.lthLevel e v).ip.toNat) = (s.lathe e).image.code.length := by omega
    rw [if_neg (Nat.not_lt.mpr hout), hstop] at hrun
    exact ⟨_, hrun, decodeEnd_becomes hx 2 _ _⟩
  case missing =>
    obtain ⟨f, body, hrow⟩ := latheInstr_row hi s
    exact hrow.trans (onUnit_fault he)

end Sys2Proof.Machine
end

section
/-! SUPPORT. Events of the Lathes (R364, R366, R370 to R372, R376, R379): receive entries, posts, telemetry, the start of an image, swaps, the end of a
migration and restarts. -/

namespace Sys2Proof.Machine

variable {s t : State} {e d w : Nat}

/-! ### Entries to a level (R382) -/

theorem LthLevel.reg_setReg (x : LthLevel) (k j : Nat) (r : Word) : (x.setReg k r).reg j = if j = k then r else x.reg j :=
  Table.get_set _ _ _ _ _

/-- The registers of an entry: g0 and g1 as given, g12 at the top of the stack. -/
theorem LthLevel.reg_enter (x : LthLevel) (ip : Nat) (g0 g1 : Word) :
    (x.enter ip g0 g1).reg 0 = g0 ∧ (x.enter ip g0 g1).reg 1 = g1 ∧ (x.enter ip g0 g1).reg 12 = x.sptop := by
  have hreg : ∀ k, (x.enter ip g0 g1).reg k = (((x.setReg 0 g0).setReg 1 g1).setReg 12 x.sptop).reg k := fun _ => rfl
  simp [hreg, LthLevel.reg_setReg]

/-! ### Receive entries (R364) -/

/-- An engine whose earliest due entry enters the receive level. -/
def Lathe.entered (l : Lathe) (x : RxEntry) (rest : List RxEntry) : Lathe := { l with
  due := rest, rxEvents := wrap 32 (l.rxEvents + 1)
  rx := l.rx.enter l.image.entryRx (BitVec.ofNat 32 x.reason) (BitVec.ofNat 32 x.arg) }

theorem enterReceive_of_busy (h : (s.lathe e).due = [] ∨ (s.lathe e).loaded = false ∨ (s.lathe e).unusable = true ∨ (s.lathe e).migrating = true ∨
    (s.lathe e).restarting = true ∨ (s.lathe e).initing = true ∨ (s.lathe e).rx.active = true) : enterReceive e s = s := by
  unfold enterReceive
  dsimp only
  split
  next => rfl
  next hdue =>
    refine if_pos ?_
    simpa [hdue, or_assoc] using h

theorem enterReceive_lathe {x : RxEntry} {rest : List RxEntry} (hdue : (s.lathe e).due = x :: rest) (hl : (s.lathe e).loaded = true)
    (hu : (s.lathe e).unusable = false) (hm : (s.lathe e).migrating = false) (hr : (s.lathe e).restarting = false)
    (hi : (s.lathe e).initing = false) (ha : (s.lathe e).rx.active = false) (d : Nat) :
    (enterReceive e s).lathe d = (s.setLathe e ((s.lathe e).entered x rest)).lathe d := by
  unfold enterReceive
  simp only [hdue]
  rw [if_neg (by simp [hl, hu, hm, hr, hi, ha])]
  split
  · exact State.lathe_of_lathes (s := s.setLathe e ((s.lathe e).entered x rest)) (State.updChisel_keeps _ _ _ .lathes rfl) d
  · rfl

/-! ### Posts (R366) -/

/-- An input slot of an engine. -/
def Lathe.slot (l : Lathe) (k : Nat) : InSlot := Table.get {} l.slots k

/-- An engine whose slot has been posted. -/
def Lathe.posted (l : Lathe) (k : Nat) (i : InSlot) : Lathe := { l with slots := Table.set {} l.slots k { i with fresh := false } }

theorem Lathe.slot_posted (l : Lathe) (k : Nat) (i : InSlot) : (l.posted k i).slot k = { i with fresh := false } := Table.get_set_same _ _ _ _

theorem slot_setLathe_posted (s : State) (e : Nat) (l : Lathe) (k : Nat) (i : InSlot) :
    Table.get ({} : InSlot) ((s.setLathe e (l.posted k i)).lathe e).slots k = { i with fresh := false } := by
  rw [State.lathe_setLathe]
  exact l.slot_posted k i

/-- A post of a slot that nothing was staged for since the post before is counted. -/
def Lathe.postSeen (l : Lathe) (k : Nat) : Lathe := if (l.slot k).fresh then l else { l with postEmpty := wrap 32 (l.postEmpty + 1) }

theorem Lathe.postLate_postSeen (l : Lathe) (k : Nat) : (l.postSeen k).postLate = l.postLate := by
  unfold Lathe.postSeen
  split <;> rfl

/-- A slot with what a post of it carries: the octets staged since the post before, or those it had. -/
def Lathe.postSlot (l : Lathe) (k : Nat) (d : NetSlot) : InSlot :=
  { l.slot k with staged := if (l.slot k).fresh then l.stagedOctets d.ofs d.len else (l.slot k).staged }

/-- The full stamp of the next post of an engine. -/
def State.postStamp (s : State) (e : Nat) : Nat := fullStamp s.gtc (s.lathe e).postStamp

theorem postWrite_of_none (h : s.inSlot e (field w 0 12) = none) : postWrite e w s = s := by
  unfold postWrite
  simp only [h]

/-- A post whose stamp lies before the present edge joins the snapshot until the post deadline and is late after it; one whose stamp does not is
held for the tick after. -/
theorem postWrite_of_some {d : NetSlot} (h : s.inSlot e (field w 0 12) = some d) : postWrite e w s =
    let k := field w 0 12
    let l := (s.lathe e).postSeen k
    let i := (s.lathe e).postSlot k d
    if s.postStamp e < s.cell.edge then
      if s.gtc ≤ s.cell.edge + postDeadline s.cell.tickSel then
        let x := keepLater i.posted (s.postStamp e, i.staged)
        s.setLathe e ({ l with overwritten := wrap 32 (l.overwritten + x.2) }.posted k { i with posted := x.1 }.snapped)
      else s.setLathe e ({ l with postLate := wrap 32 (l.postLate + 1) }.posted k i)
    else
      let x := keepLater i.later (s.postStamp e, i.staged)
      s.setLathe e ({ l with overwritten := wrap 32 (l.overwritten + x.2) }.posted k { i with later := x.1 }) := by
  have hstamp : ((s.lathe e).postSeen (field w 0 12)).postStamp = (s.lathe e).postStamp := by
    unfold Lathe.postSeen
    split <;> rfl
  unfold State.postStamp
  rw [← hstamp]
  unfold postWrite
  simp only [h]
  rfl

theorem postWrite_late {d : NetSlot} (h : s.inSlot e (field w 0 12) = some d) (hg : s.cell.edge + postDeadline s.cell.tickSel < s.gtc)
    (hst : s.postStamp e < s.cell.edge) : postWrite e w s = s.setLathe e
      ({ (s.lathe e).postSeen (field w 0 12) with postLate := wrap 32 ((s.lathe e).postLate + 1) }.posted (field w 0 12)
        ((s.lathe e).postSlot (field w 0 12) d)) := by
  rw [postWrite_of_some h]
  simp only [if_pos hst, if_neg (Nat.not_le.mpr hg), Lathe.postLate_postSeen]

/-- A post in time of a slot that was staged and not yet posted in this tick. -/
theorem postWrite_in_time {d : NetSlot} (h : s.inSlot e (field w 0 12) = some d) (hg : s.gtc ≤ s.cell.edge + postDeadline s.cell.tickSel)
    (hst : s.postStamp e < s.cell.edge) (hf : ((s.lathe e).slot (field w 0 12)).fresh = true)
    (hp : ((s.lathe e).slot (field w 0 12)).posted = none) :
    let i := (s.lathe e).slot (field w 0 12)
    let data := (s.lathe e).stagedOctets d.ofs d.len
    postWrite e w s = s.setLathe e ({ s.lathe e with overwritten := wrap 32 (s.lathe e).overwritten }.posted (field w 0 12)
      { i with staged := data, posted := some (s.postStamp e, data), snap := data, snapStamp := s.postStamp e, stale := false, age := 0 }) := by
  rw [postWrite_of_some h]
  simp only [if_pos hst, if_pos hg, Lathe.postSeen, Lathe.postSlot, hf, hp, if_true, keepLater, Nat.add_zero, InSlot.snapped]

/-- A post for the tick after of a slot that nothing was staged for and that no such post waits for. -/
theorem postWrite_held {d : NetSlot} (h : s.inSlot e (field w 0 12) = some d) (hst : s.cell.edge ≤ s.postStamp e)
    (hf : ((s.lathe e).slot (field w 0 12)).fresh = false) (hp : ((s.lathe e).slot (field w 0 12)).later = none) :
    let i := (s.lathe e).slot (field w 0 12)
    postWrite e w s = s.setLathe e
      ({ s.lathe e with postEmpty := wrap 32 ((s.lathe e).postEmpty + 1), overwritten := wrap 32 (s.lathe e).overwritten }.posted (field w 0 12)
        { i with later := some (s.postStamp e, i.staged) }) := by
  rw [postWrite_of_some h]
  simp only [if_neg (Nat.not_lt.mpr hst), Lathe.postSeen, Lathe.postSlot, hf, hp, Bool.false_eq_true, if_false, keepLater, Nat.add_zero]

/-! ### Telemetry (R376) -/

/-- The telemetry record that a write of LTH_TELEM makes. -/
def State.telemRec (s : State) (e w : Nat) : TelemRec :=
  { gtc := s.gtc, source := s.source (4 + e), kind := wrap 16 w, image := wrap 16 (s.lathe e).image.id, data := (s.lathe e).telemData }

theorem telemWrite_of_full (h : 16 ≤ (s.lathe e).telemTick ∨ 128 ≤ (s.lathe e).ring.length) :
    telemWrite e w s = s.setLathe e { s.lathe e with telemDrop := wrap 32 ((s.lathe e).telemDrop + 1) } := by
  unfold telemWrite
  exact if_pos h

/-- The journal copies of telemetry within the last second. -/
def State.recentCopies (s : State) (e : Nat) : List Nat := (s.lathe e).telemJrnl.filter (fun t => decide (s.gtc < t + 1000000000))

/-- Whether a record is copied to the journal: it asks for that, and at most 8 a second are. -/
def State.copiesTelem (s : State) (e w : Nat) : Bool := bitAt w 15 && decide ((s.recentCopies e).length < 8)

/-- An engine whose ring has taken a record. -/
def Lathe.recorded (l : Lathe) (r : TelemRec) (copies : List Nat) : Lathe :=
  { l with ring := l.ring ++ [r], telemTick := l.telemTick + 1, telemJrnl := copies }

/-- The state once the ring has taken a record and the stream of the Winnower has it. -/
def telemTaken (e w : Nat) (s : State) : State :=
  (s.setLathe e ((s.lathe e).recorded (s.telemRec e w) (if s.copiesTelem e w then s.recentCopies e ++ [s.gtc] else s.recentCopies e))).stream 1 2
    (s.telemRec e w).gtc (s.telemRec e w).octets

theorem telemWrite_of_room (ht : (s.lathe e).telemTick < 16) (hr : (s.lathe e).ring.length < 128) : telemWrite e w s =
    if s.copiesTelem e w then ((telemTaken e w s).record (4 + e) 0x0040 (toLE 2 (s.telemRec e w).kind ++ (s.telemRec e w).data.take 14)).record (4 + e)
      0x0002 ((s.telemRec e w).data.drop 14)
    else telemTaken e w s := by
  unfold telemWrite
  exact if_neg (by omega)

theorem telemTaken_lathe (d : Nat) : (telemTaken e w s).lathe d =
    (s.setLathe e ((s.lathe e).recorded (s.telemRec e w) (if s.copiesTelem e w then s.recentCopies e ++ [s.gtc] else s.recentCopies e))).lathe d :=
  State.lathe_of_lathes (State.stream_keeps _ _ _ _ _ .lathes rfl) d

/-- The journal copy of a record leaves the engines alone. -/
theorem telemWrite_lathe (ht : (s.lathe e).telemTick < 16) (hr : (s.lathe e).ring.length < 128) (d : Nat) :
    (telemWrite e w s).lathe d = (telemTaken e w s).lathe d := by
  rw [telemWrite_of_room ht hr]
  split
  · exact (State.lathe_of_lathes (State.record_keeps _ _ _ _ .lathes rfl) d).trans (State.lathe_of_lathes (State.record_keeps _ _ _ _ .lathes rfl) d)
  · rfl

/-- Without its bit a record enters no journal. -/
theorem telemWrite_jrnl (ht : (s.lathe e).telemTick < 16) (hr : (s.lathe e).ring.length < 128) (hb : bitAt w 15 = false) :
    (telemWrite e w s).jrnl = s.jrnl := by
  rw [telemWrite_of_room ht hr, if_neg (by simp [State.copiesTelem, hb])]
  exact State.stream_keeps _ _ _ _ _ .jrnl rfl

/-! ### Start and swap (R370, R371) -/

/-- An engine that starts the image loaded for it. -/
def Lathe.begun (l : Lathe) : Lathe := { l with
  live := 1 - l.live, liveEntry := l.shadowEntry, shadowLoaded := false, loaded := true, startDue := false, initing := true
  phase := l.phase.cleared.enter l.shadow.entryInit 0 0, rx := l.rx.cleared, bg := l.bg.cleared, slots := [] }

theorem initStart_of_idle (h : (s.lathe e).startDue = false ∨ (s.lathe e).unusable = true) : initStart e s = s := by
  unfold initStart
  exact if_pos (by rcases h with h | h <;> simp [h])

theorem initStart_of_due (hd : (s.lathe e).startDue = true) (hu : (s.lathe e).unusable = false) :
    initStart e s = s.setLathe e (s.lathe e).begun := by
  unfold initStart
  exact if_neg (by simp [hd, hu])

/-- An engine whose banks have swapped. -/
def Lathe.swapped (l : Lathe) : Lathe := { l with
  live := 1 - l.live, liveEntry := l.shadowEntry, shadowEntry := l.liveEntry, shadowLoaded := false, swapAt := none
  oldHalf := true, migrating := true, initDone := false, toMigrate := l.ctxs
  phase := l.phase.cleared.enter l.shadow.entryInit 0 0, rx := l.rx.cleared, bg := l.bg.cleared }

theorem swapExecute_of_none (h : (s.lathe e).swapAt = none) : swapExecute e s = s := by
  unfold swapExecute
  simp only [h]

/-- A swap changes the engines as the swap of its banks does: the locks freed and the event leave them alone. -/
theorem swapExecute_lathe {g : Nat} (h : (s.lathe e).swapAt = some g) (d : Nat) :
    (swapExecute e s).lathe d = (s.setLathe e (s.lathe e).swapped).lathe d := by
  unfold swapExecute
  simp only [h]
  refine (State.lathe_of_lathes (State.event_keeps _ _ _ _ _ .lathes rfl) d).trans ?_
  exact State.lathe_of_lathes (State.breakLocksOf_keeps _ _ .lathes rfl) d

/-! ### The end of a migration (R371, R372) -/

theorem insertEntry_perm (x : RxEntry) (q : List RxEntry) : List.Perm (insertEntry x q) (x :: q) := by
  induction q with
  | nil => exact .refl _
  | cons y q ih =>
    unfold insertEntry
    split
    · exact .refl _
    · exact (ih.cons y).trans (.swap x y q)

/-- Held frames that are delivered join those due. -/
theorem insertEntries_perm (held due : List RxEntry) : List.Perm (held.foldl (fun q x => insertEntry x q) due) (held ++ due) := by
  induction held generalizing due with
  | nil => exact .refl _
  | cons x held ih => exact (ih _).trans (((insertEntry_perm x due).append_left held).trans List.perm_middle)

/-- An engine whose migration has ended. -/
def Lathe.migrated (l : Lathe) : Lathe := { l with
  migrating := false, initDone := false, toMigrate := []
  due := l.heldRx.foldl (fun q x => insertEntry x q) l.due, heldRx := []
  bg := l.bg.enter l.image.entryBg 0 0 }

theorem endMigration_eq (e : Nat) (s : State) : endMigration e s = s.setLathe e (s.lathe e).migrated := rfl

theorem execMigrationEnd_of_waiting (he : e < 16) (h : (s.lathe e).migrating = false ∨ (s.lathe e).initDone = false ∨ (s.lathe e).toMigrate ≠ [] ∨
    (s.lathe e).phase.active = true) : execMigrationEnd e s = .next s := by
  unfold execMigrationEnd
  rw [onUnit_next he]
  rcases h with h | h | h | h <;> simp [h]

theorem execMigrationEnd_of_done (he : e < 16) (hm : (s.lathe e).migrating = true) (hi : (s.lathe e).initDone = true)
    (hc : (s.lathe e).toMigrate = []) (ha : (s.lathe e).phase.active = false) :
    execMigrationEnd e s = .next (s.setLathe e (s.lathe e).migrated) := by
  unfold execMigrationEnd
  rw [onUnit_next he]
  simp [hm, hi, hc, ha, endMigration_eq]

/-! ### The rows -/

/-- The engines of a state in which one engine is replaced. -/
theorem lathes_replaced {l : Lathe} (h : ∀ d, t.lathe d = (s.setLathe e l).lathe d) : t.lathe e = l ∧ ∀ d, d ≠ e → t.lathe d = s.lathe d :=
  ⟨(h e).trans (State.lathe_setLathe s e l), fun d hd => (h d).trans (State.lathe_setLathe_other s l hd)⟩

/-- A restart as its row and the watchdog of the background level make it. -/
theorem restart_spec (hl : (s.lathe e).loaded = true) (hu : (s.lathe e).unusable = false) :
    ((restartLathe e s).lathe e = (s.lathe e).restarted s.gtc ∧ ∀ d, d ≠ e → (restartLathe e s).lathe d = s.lathe d) ∧
      (∀ c ∈ (s.lathe e).ctxs, ((restartLathe e s).ctx c).kind = 0) ∧ (∀ c, c ∉ (s.lathe e).ctxs → (restartLathe e s).ctx c = s.ctx c) := by
  refine ⟨⟨?_, fun d hd => ?_⟩, fun c hc => ?_, fun c hc => ?_⟩
  · rw [restartLathe_lathe hl hu, if_pos rfl]
  · rw [restartLathe_lathe hl hu, if_neg hd]
  · rw [restartLathe_ctx hl hu, closeCtxs_kind hc]
  · rw [restartLathe_ctx hl hu, closeCtxs_other hc]

/-- Settles O54: each row that does not meet its condition changes nothing, and each that does leaves the engine that its lemma above gives. -/
theorem latheEventsEnterPostStartSwapAndRestart : Obligations.LatheEventsEnterPostStartSwapAndRestart := by
  unfold Obligations.LatheEventsEnterPostStartSwapAndRestart
  refine ⟨fun e s he h => does_of_onUnit rfl he (enterReceive_of_busy h),
    fun e x rest s he hdue hl hu hm hr hi ha => does_of_onUnit (t := enterReceive e s) rfl he ?receive,
    fun e w s he h => does_of_onUnit rfl he (postWrite_of_none h),
    fun e w d s he h hg hst => does_of_onUnit (t := postWrite e w.toNat s) rfl he ?late,
    fun e w d s he h hg hst hf hp => does_of_onUnit (t := postWrite e w.toNat s) rfl he ?inTime,
    fun e w d s he h hst hf hp => does_of_onUnit (t := postWrite e w.toNat s) rfl he ?held,
    fun e w s he h => does_of_onUnit rfl he (telemWrite_of_full h),
    fun e w s he ht hr => does_of_onUnit (t := telemWrite e w.toNat s) rfl he ?telemetry,
    fun e s he h => does_of_onUnit rfl he (initStart_of_idle h),
    fun e s he hd hu => does_of_onUnit (t := initStart e s) rfl he ?start,
    fun e s he h => does_of_onUnit rfl he (swapExecute_of_none h),
    fun e g s he h => does_of_onUnit (t := swapExecute e s) rfl he ?swap,
    fun e s he h => ⟨s, execMigrationEnd_of_waiting he h, rfl⟩,
    fun e s he hm hi hc ha => ⟨_, execMigrationEnd_of_done he hm hi hc ha, ?migration⟩,
    fun e s he h => does_of_onUnit rfl he (restartLathe_of_idle h),
    fun e s he hl hu => does_of_onUnit (t := restartLathe e s) rfl he ?restart,
    fun e s he h => does_of_onUnit rfl he (if_neg (by simp [h])),
    fun e s he ha hl hu => ⟨restartLathe e s, ?watchdogRow, ?watchdog⟩,
    fun e s he => ⟨onUnit_fault he, onUnit_fault he⟩⟩
  case receive =>
    obtain ⟨hthis, hother⟩ := lathes_replaced (enterReceive_lathe hdue hl hu hm hr hi ha)
    obtain ⟨hreg0, hreg1, hreg12⟩ := (s.lathe e).rx.reg_enter (s.lathe e).image.entryRx (BitVec.ofNat 32 x.reason) (BitVec.ofNat 32 x.arg)
    have hframe := (enterReceive_keeps e s).touches [.lathes, .chisels] (by decide)
    rw [hthis]
    exact ⟨rfl, rfl, rfl, rfl, hreg0, hreg1, hreg12, rfl, rfl, hother, hframe⟩
  case late =>
    rw [postWrite_late h hg hst]
    dsimp only
    rw [slot_setLathe_posted, State.lathe_setLathe]
    exact ⟨rfl, rfl, rfl, rfl, rfl, rfl, State.setLathe_touches s e _⟩
  case inTime =>
    rw [postWrite_in_time h hg hst hf hp]
    dsimp only
    rw [slot_setLathe_posted, State.lathe_setLathe]
    exact ⟨rfl, rfl, rfl, rfl, rfl, rfl, rfl, State.setLathe_touches s e _⟩
  case held =>
    rw [postWrite_held h hst hf hp]
    dsimp only
    rw [slot_setLathe_posted, State.lathe_setLathe]
    exact ⟨rfl, rfl, rfl, rfl, State.setLathe_touches s e _⟩
  case telemetry =>
    obtain ⟨hthis, hother⟩ := lathes_replaced fun d => (telemWrite_lathe (w := w.toNat) ht hr d).trans (telemTaken_lathe d)
    have hframe := (telemWrite_keeps e w.toNat s).touches [.lathes, .jrnl, .wnw] (by decide)
    rw [hthis]
    exact ⟨rfl, rfl, rfl, telemWrite_jrnl ht hr, hother, hframe⟩
  case start =>
    rw [initStart_of_due hd hu, State.lathe_setLathe]
    exact ⟨rfl, rfl, rfl, rfl, rfl, rfl, rfl, rfl, rfl, rfl, fun d hne => State.lathe_setLathe_other s _ hne, State.setLathe_touches s e _⟩
  case swap =>
    obtain ⟨hthis, hother⟩ := lathes_replaced (swapExecute_lathe h)
    have hframe := (swapExecute_keeps e s).touches [.time, .lathes, .mbx, .jrnl, .host, .wnw] (by decide)
    rw [hthis]
    exact ⟨rfl, rfl, rfl, rfl, rfl, rfl, rfl, rfl, rfl, rfl, rfl, hother, hframe⟩
  case migration =>
    have hdue := insertEntries_perm (s.lathe e).heldRx (s.lathe e).due
    dsimp only
    rw [State.lathe_setLathe]
    refine ⟨rfl, rfl, rfl, rfl, ?_, fun x hx => ?_, fun d hd => State.lathe_setLathe_other s _ hd, State.setLathe_touches s e _⟩
    · rw [Nat.add_comm, ← List.length_append]
      exact hdue.length_eq
    · exact hdue.mem_iff.mpr (List.mem_append_left _ hx)
  case restart =>
    obtain ⟨⟨hthis, hother⟩, hclosed, hkept⟩ := restart_spec hl hu
    have hthird := restartLathe_dooms hl hu
    have hfirst := restartLathe_wnw hl hu
    rw [hthis]
    exact ⟨rfl, rfl, rfl, rfl, rfl, rfl, rfl, rfl, rfl, hclosed, hkept, hthird, hfirst, hother, restartLathe_touches e s⟩
  case watchdogRow =>
    refine (onUnit_next he).trans ?_
    rw [if_pos ha]
  case watchdog =>
    obtain ⟨⟨hthis, -⟩, -⟩ := restart_spec hl hu
    rw [hthis]
    exact ⟨onUnit_next he, rfl, rfl⟩

end Sys2Proof.Machine
end

section
/-! SUPPORT. The memory instructions of the Lathes (R355, R356, R386, R387, R389, R395): how an instruction starts, what loads, stores and exchanges in the
live data half find and leave, and which accesses take an exception. -/

namespace Sys2Proof.Machine

variable {i : Instr} {e v len a n : Nat} {p : List Byte} {m ab : Byte} {disp : Nat} {s u : State} {x : LthLevel} {bs : List Byte}

/-! ### The rows -/

/-- The form of a load, a store or an exchange; `same` as in `memBad`. -/
def memForm (ab : Byte) (same : Bool) : LthForm :=
  { len := 3 + dispLen ab, accepts := { sized := true, be := true }, bad := memBad ab same }

theorem exec_lthLd : exec (.lthLd e p m ab disp) s = execLthLd e p m ab disp s := rfl

theorem exec_lthLds : exec (.lthLds e p m ab disp) s = execLthLds e p m ab disp s := rfl

theorem exec_lthSt : exec (.lthSt e p m ab disp) s = execLthSt e p m ab disp s := rfl

theorem exec_lthSti : exec (.lthSti e p m ab disp n) s = execLthSti e p m ab disp n s := rfl

theorem exec_lthLea : exec (.lthLea e p m ab disp) s = execLthLea e p m ab disp s := rfl

theorem exec_lthXchg : exec (.lthXchg e p m ab disp) s = execLthXchg e p m ab disp s := rfl

theorem exec_lthCas : exec (.lthCas e p m ab) s = execLthCas e p m ab s := rfl

/-! ### Operands (R383, R384, R386) -/

theorem opSize_pos (p : List Byte) : 0 < opSize p := by
  unfold opSize
  split
  · decide
  · split <;> decide

theorem length_toMem (be : Bool) (n x : Nat) : (toMem be n x).length = n := by
  unfold toMem toBE
  split
  · rw [List.length_reverse, length_toLE]
  · exact length_toLE n x

theorem toMem_ne_nil (be : Bool) (p : List Byte) (x : Nat) : toMem be (opSize p) x ≠ [] := by
  rw [← List.length_pos_iff, length_toMem]
  exact opSize_pos p

theorem ofNat_toU (z : Int) : BitVec.ofNat 32 (toU 32 z) = BitVec.ofInt 32 z := by
  apply BitVec.eq_of_toNat_eq
  rw [BitVec.toNat_ofNat, BitVec.toNat_ofInt]
  unfold toU
  exact Nat.mod_eq_of_lt (by omega)

theorem memBad_of_legal {same : Bool} (hA : badA ab = false) (hs : postInc ab = true → same = false) : memBad ab same = none := by
  unfold memBad
  rw [hA]
  cases hp : postInc ab
  · rfl
  · simp [hs hp]

theorem memBad_of_bad (same : Bool) (hA : badA ab = true) : memBad ab same = some 2 := by
  simp [memBad, hA]

theorem memBad_of_same (hp : postInc ab = true) : memBad ab true = some 2 := by
  simp [memBad, hp]

/-! ### The level of an instruction while its body runs -/

/-- A level with a register written, if any. -/
def LthLevel.wrote (x : LthLevel) : Option (Nat × Word) → LthLevel
  | some (d, r) => x.setReg d r
  | none => x

theorem retire_wrote (x : LthLevel) (ip : Nat) (p : List Byte) (wr load : Option (Nat × Word)) :
    x.retire ip p none wr load = { ({ x with ip := BitVec.ofNat 32 ip } : LthLevel).wrote wr |>.land with pend := load } := by
  cases wr <;> rfl

/-- The level of an instruction that is past its fetch. -/
def LthLevel.past (x : LthLevel) (ip : Nat) : LthLevel := { x with ip := BitVec.ofNat 32 ip }

theorem level_start (e v : Nat) (p : List Byte) (len : Nat) (s : State) :
    (envOf e v p len s).level (startOf e v p len s) = (s.lthLevel e v).past (nextIp e v p len s) := State.lthLevel_updLevel s e v _

theorem effAddr_past (x : LthLevel) (ip base : Nat) (ab : Byte) (disp n : Nat) : effAddr (x.past ip) base ab disp n = effAddr x base ab disp n := rfl

theorem reg_past (x : LthLevel) (ip k : Nat) : (x.past ip).reg k = x.reg k := rfl

theorem effAddr_start (e v : Nat) (p : List Byte) (len : Nat) (s : State) (base : Nat) (ab : Byte) (disp n : Nat) :
    effAddr ((envOf e v p len s).level (startOf e v p len s)) base ab disp n = effAddr (s.lthLevel e v) base ab disp n := by
  rw [level_start, effAddr_past]

theorem LatheBecomes.stepLevel {l : Lathe} (h : LatheBecomes e s u (l.setLevel v x)) (f : LthLevel → LthLevel) :
    LatheBecomes e s (u.updLevel e v f) (l.setLevel v (f x)) := by
  simpa using h.updLevel v f

/-- An access with POST steps its base register. -/
theorem stepBase_becomes {l : Lathe} (h : LatheBecomes e s u (l.setLevel v x)) :
    LatheBecomes e s (stepBase (envOf e v p len s) (opS m) ab u) (l.setLevel v (x.wrote (posted x m ab (opSize p)))) := by
  unfold stepBase posted
  split
  · exact h.stepLevel _
  · exact h

theorem stepBase_store {at_ : Nat} (hv : v < 3) (hu : AtStore e v s u x at_ bs) :
    AtStore e v s (stepBase (envOf e v p len s) (opS m) ab u) (x.wrote (posted x m ab (opSize p))) at_ bs := by
  unfold stepBase posted
  split
  · exact hu.step hv _
  · exact hu

/-! ### The live data half (R356) -/

theorem lthLoad_start (h : LiveClear s e a n) : lthLoad e v a n (startOf e v p len s) = (startOf e v p len s, .ok (liveAt s e a n)) := by
  rw [lthLoad_live h.start, livePool_start]
  rfl

theorem liveAt_start (e v : Nat) (p : List Byte) (len : Nat) (s : State) (a n : Nat) : liveAt (startOf e v p len s) e a n = liveAt s e a n := by
  rw [liveAt, livePool_start]
  rfl

/-- The state after a store into the live half. -/
def afterStore (e a : Nat) (bs : List Byte) (u : State) : State := chkPool (8 + e) (livePool u e a) bs (u.poolStore (livePool u e a) bs)

theorem lthStore_clear (h0 : 0x10002000 ≤ a) (h : LiveClear u e a bs.length) (hn : bs ≠ []) : lthStore e v a bs u = (afterStore e a bs u, .ok []) := by
  obtain ⟨-, hend, -⟩ := h
  exact lthStore_live h0 hend hn

theorem afterStore_start (hv : v < 3) (h : LiveClear s e a bs.length) : AtStore e v s (afterStore e a bs (startOf e v p len s))
    ((s.lthLevel e v).past (nextIp e v p len s)) (livePool s e a) bs := by
  unfold afterStore
  rw [livePool_start]
  exact store_at (p := p) (len := len) hv (start_at e v p len s) h

theorem lthExchange_kept {f : List Byte → Option (List Byte)} (h : LiveClear u e a n) (hs : a / 8 = (a + n - 1) / 8)
    (hf : f (liveAt u e a n) = none) : lthExchange e v a n f u = (u, .ok (liveAt u e a n)) := by
  obtain ⟨hbegin, hend, -⟩ := id h
  unfold liveAt at hf ⊢
  unfold lthExchange
  simp [regionOf_live hbegin hend, hs, lthLoad_live h, hf]

theorem lthExchange_stored {f : List Byte → Option (List Byte)} (h0 : 0x10002000 ≤ a) (h : LiveClear u e a bs.length)
    (hs : a / 8 = (a + bs.length - 1) / 8) (hn : bs ≠ []) (hf : f (liveAt u e a bs.length) = some bs) :
    lthExchange e v a bs.length f u = (afterStore e a bs u, .ok (liveAt u e a bs.length)) := by
  obtain ⟨hbegin, hend, -⟩ := id h
  unfold liveAt at hf ⊢
  unfold lthExchange
  simp [regionOf_live hbegin hend, hs, lthLoad_live h, hf, lthStore_clear h0 h hn]

/-! ### Loads and stores that complete (R386, R389) -/

/-- The effective address of a memory instruction. -/
def addrOf (s : State) (e v : Nat) (p : List Byte) (m ab : Byte) (disp : Nat) : Nat := effAddr (s.lthLevel e v) (opS m) ab disp (opSize p)

/-- A load from the live half. -/
theorem lthLoadRow_runs {f : Nat → Nat → Nat} (hi : exec i s = lthLoadRow e p m ab disp f s) (hA : badA ab = false)
    (hs : postInc ab = true → opD m ≠ opS m) (h : Ready e v p { sized := true, be := true } (3 + dispLen ab) s)
    (hc : LiveClear s e (addrOf s e v p m ab disp) (opSize p)) : Runs i s e v
      ((s.lthLevel e v).retire (nextIp e v p (3 + dispLen ab) s) p none (posted (s.lthLevel e v) m ab (opSize p))
        (some (opD m, BitVec.ofNat 32 (f (8 * opSize p) (ofMem (p.contains 0xE2) (liveAt s e (addrOf s e v p m ab disp) (opSize p))))))) := by
  rw [retire_wrote]
  refine runs_at hi h (memBad_of_legal hA fun hp => beq_eq_false_iff_ne.mpr (hs hp)) (stepBase_becomes (len := 3 + dispLen ab) (start_at e v p _ s).becomes) ?_
  let k := envOf e v p (3 + dispLen ab) s
  have hload : lthLoad k.e k.v (effAddr (s.lthLevel e v) (opS m) ab disp k.size) k.size (startOf e v p (3 + dispLen ab) s) = _ := lthLoad_start hc
  dsimp only
  rw [effAddr_start, hload]
  rfl

/-- A store into the live half beyond the environment block. -/
theorem storeAt_stores {f : LthForm} {val : LthEnv → State → Nat} (hi : exec i s = lthRow e p f (storeAt m ab disp val) s)
    (h : Ready e v p f.accepts f.len s) (hb : f.bad = none) (h0 : 0x10002000 ≤ addrOf s e v p m ab disp)
    (hc : LiveClear s e (addrOf s e v p m ab disp) (opSize p)) : Stores i s e v
      ((s.lthLevel e v).retire (nextIp e v p f.len s) p none (posted (s.lthLevel e v) m ab (opSize p)) none) (livePool s e (addrOf s e v p m ab disp))
      (toMem (p.contains 0xE2) (opSize p) (val (envOf e v p f.len s) (startOf e v p f.len s))) := by
  rw [← length_toMem (p.contains 0xE2) (opSize p) (val (envOf e v p f.len s) (startOf e v p f.len s))] at hc
  rw [retire_wrote]
  refine stores_at hi h hb (stepBase_store (len := f.len) h.lt3 (afterStore_start h.lt3 hc)) ?_
  let k := envOf e v p f.len s
  have hstore : lthStore k.e k.v (effAddr (s.lthLevel e v) (opS m) ab disp k.size) (toMem k.be k.size (val k (startOf e v p f.len s)))
      (startOf e v p f.len s) = _ := lthStore_clear h0 hc.start (toMem_ne_nil _ p _)
  unfold storeAt
  dsimp only
  rw [effAddr_start, hstore]
  rfl

/-- Where a store falls into the environment block it is ignored and counted (R355). -/
theorem halfWrite_env {o : Nat} (h : o + bs.length ≤ 0x2000) (hn : bs ≠ []) : halfWrite e o bs u = u.accessFault e := by
  have hskip : min bs.length (0x2000 - o) = bs.length := by omega
  have hlen : bs.length ≠ 0 := fun h0 => hn (List.length_eq_zero_iff.mp h0)
  unfold halfWrite
  simp [hskip, hlen]

theorem lthStore_env (h0 : 0x10000000 ≤ a) (h : a + bs.length ≤ 0x10002000) (hn : bs ≠ []) : lthStore e v a bs u = (u.accessFault e, .ok []) := by
  unfold lthStore
  simp only [regionOf_live h0 (show a + bs.length ≤ 0x10040000 by omega)]
  rw [halfWrite_env (by omega) hn]

/-- A refused access is counted beside what becomes of the level. -/
theorem Lathe.refused_setLevel_eq (l : Lathe) (v : Nat) (x : LthLevel) :
    l.refused.setLevel v x = { l.setLevel v x with accessFault := wrap 32 (l.accessFault + 1) } := by
  unfold Lathe.setLevel
  split
  · rfl
  · split <;> rfl

/-- A store into the environment block. -/
theorem storeAt_env {f : LthForm} {val : LthEnv → State → Nat} (hi : exec i s = lthRow e p f (storeAt m ab disp val) s)
    (h : Ready e v p f.accepts f.len s) (hb : f.bad = none) (h0 : 0x10000000 ≤ addrOf s e v p m ab disp)
    (h1 : addrOf s e v p m ab disp + opSize p ≤ 0x10002000) : Does i s (fun t => LatheBecomes e s t
      { (s.lathe e).setLevel v ((s.lthLevel e v).retire (nextIp e v p f.len s) p none (posted (s.lthLevel e v) m ab (opSize p)) none) with
        accessFault := wrap 32 ((s.lathe e).accessFault + 1) }) := by
  rw [retire_wrote, ← Lathe.refused_setLevel_eq]
  have hrefused := (start_at e v p f.len s).becomes.accessFault
  rw [Lathe.refused_setLevel] at hrefused
  have hdone := does_of_done hi h hb (stepBase_becomes (m := m) (ab := ab) (p := p) (len := f.len) hrefused) (load := none) ?body
  · rw [Lathe.setLevel_setLevel, Lathe.level_setLevel] at hdone
    exact hdone
  case body =>
    let k := envOf e v p f.len s
    have hlen : (toMem k.be k.size (val k (startOf e v p f.len s))).length = opSize p := length_toMem _ _ _
    have hstore : lthStore k.e k.v (effAddr (s.lthLevel e v) (opS m) ab disp k.size) (toMem k.be k.size (val k (startOf e v p f.len s)))
        (startOf e v p f.len s) = _ := lthStore_env h0 (by rw [hlen]; exact h1) (toMem_ne_nil _ p _)
    unfold storeAt
    dsimp only
    rw [effAddr_start, hstore]
    rfl

/-! ### Indivisible exchanges (R387, R569) -/

/-- XCHG with the live half beyond the environment block. -/
theorem xchg_stores (hA : badA ab = false) (hs : postInc ab = true → opD m ≠ opS m)
    (h : Ready e v p { sized := true, be := true } (3 + dispLen ab) s) (h0 : 0x10002000 ≤ addrOf s e v p m ab disp)
    (hc : LiveClear s e (addrOf s e v p m ab disp) (opSize p))
    (h8 : addrOf s e v p m ab disp / 8 = (addrOf s e v p m ab disp + opSize p - 1) / 8) :
    Stores (.lthXchg e p m ab disp) s e v
      ((s.lthLevel e v).retire (nextIp e v p (3 + dispLen ab) s) p none (posted (s.lthLevel e v) m ab (opSize p))
        (some (opD m, BitVec.ofNat 32 (ofMem (p.contains 0xE2) (liveAt s e (addrOf s e v p m ab disp) (opSize p))))))
      (livePool s e (addrOf s e v p m ab disp)) (toMem (p.contains 0xE2) (opSize p) ((s.lthLevel e v).reg (opD m)).toNat) := by
  let k := envOf e v p (3 + dispLen ab) s
  let new := toMem (p.contains 0xE2) (opSize p) ((s.lthLevel e v).reg (opD m)).toNat
  have hlen : new.length = opSize p := length_toMem _ _ _
  rw [← hlen] at hc h8
  rw [retire_wrote]
  refine stores_at (exec_lthXchg) h (memBad_of_legal hA fun hp => beq_eq_false_iff_ne.mpr (hs hp))
    (stepBase_store (len := 3 + dispLen ab) h.lt3 (afterStore_start h.lt3 hc)) ?_
  have hexchange := lthExchange_stored (v := v) (f := fun _ => some new) h0 (hc.start (v := v) (p := p) (len := 3 + dispLen ab)) h8
    (toMem_ne_nil _ p _) rfl
  rw [liveAt_start, hlen] at hexchange
  have hbody : lthExchange k.e k.v (effAddr (s.lthLevel e v) (opS m) ab disp k.size) k.size
      (fun _ => some (toMem k.be k.size (((s.lthLevel e v).past (nextIp e v p (3 + dispLen ab) s)).reg (opD m)).toNat))
      (startOf e v p (3 + dispLen ab) s) = _ := hexchange
  dsimp only
  rw [effAddr_start, level_start, hbody]
  rfl

/-- CAS that finds the value compared with. -/
theorem cas_stores (hb : opS ab = 0) (h : Ready e v p { sized := true, be := true } 3 s)
    (h0 : 0x10002000 ≤ ((s.lthLevel e v).reg (opD ab)).toNat) (hc : LiveClear s e ((s.lthLevel e v).reg (opD ab)).toNat (opSize p))
    (h8 : ((s.lthLevel e v).reg (opD ab)).toNat / 8 = (((s.lthLevel e v).reg (opD ab)).toNat + opSize p - 1) / 8)
    (hold : ofMem (p.contains 0xE2) (liveAt s e ((s.lthLevel e v).reg (opD ab)).toNat (opSize p)) =
      ((s.lthLevel e v).reg (opD m)).toNat % 2 ^ (8 * opSize p)) :
    Stores (.lthCas e p m ab) s e v
      ((s.lthLevel e v).retire (nextIp e v p 3 s) p (some { (s.lthLevel e v).flags with z := true }) none
        (some (opD m, BitVec.ofNat 32 (ofMem (p.contains 0xE2) (liveAt s e ((s.lthLevel e v).reg (opD ab)).toNat (opSize p))))))
      (livePool s e ((s.lthLevel e v).reg (opD ab)).toNat) (toMem (p.contains 0xE2) (opSize p) ((s.lthLevel e v).reg (opS m)).toNat) := by
  let k := envOf e v p 3 s
  let x := (s.lthLevel e v).past (nextIp e v p 3 s)
  let new := toMem k.be k.size (x.reg (opS m)).toNat
  have hlen : new.length = opSize p := length_toMem _ _ _
  rw [← hlen] at hc h8
  refine stores_at exec_lthCas h (if_pos hb)
    ((afterStore_start (len := 3) h.lt3 hc).step h.lt3 (fun y => k.flag { y.flags with z := true } y)) ?_
  have hexchange := lthExchange_stored (v := v)
    (f := fun bs => if ofMem k.be bs = (x.reg (opD m)).toNat % 2 ^ (8 * k.size) then some new else none) h0
    (hc.start (v := v) (p := p) (len := 3)) h8 (toMem_ne_nil _ p _) (by rw [liveAt_start, hlen]; exact if_pos hold)
  rw [liveAt_start, hlen] at hexchange
  have hbody : lthExchange k.e k.v (x.reg (opD ab)).toNat k.size
      (fun bs => if ofMem k.be bs = (x.reg (opD m)).toNat % 2 ^ (8 * k.size) then some new else none) (startOf e v p 3 s) = _ := hexchange
  have hz : (ofMem k.be (liveAt s e ((s.lthLevel e v).reg (opD ab)).toNat (opSize p)) == (x.reg (opD m)).toNat % 2 ^ (8 * k.size)) = true :=
    beq_iff_eq.mpr hold
  dsimp only
  rw [level_start, hbody]
  dsimp only
  rw [hz]
  rfl

/-- CAS that finds another value. -/
theorem cas_runs (hb : opS ab = 0) (h : Ready e v p { sized := true, be := true } 3 s)
    (hc : LiveClear s e ((s.lthLevel e v).reg (opD ab)).toNat (opSize p))
    (h8 : ((s.lthLevel e v).reg (opD ab)).toNat / 8 = (((s.lthLevel e v).reg (opD ab)).toNat + opSize p - 1) / 8)
    (hold : ofMem (p.contains 0xE2) (liveAt s e ((s.lthLevel e v).reg (opD ab)).toNat (opSize p)) ≠
      ((s.lthLevel e v).reg (opD m)).toNat % 2 ^ (8 * opSize p)) :
    Runs (.lthCas e p m ab) s e v
      ((s.lthLevel e v).retire (nextIp e v p 3 s) p (some { (s.lthLevel e v).flags with z := false }) none
        (some (opD m, BitVec.ofNat 32 (ofMem (p.contains 0xE2) (liveAt s e ((s.lthLevel e v).reg (opD ab)).toNat (opSize p)))))) := by
  let k := envOf e v p 3 s
  let x := (s.lthLevel e v).past (nextIp e v p 3 s)
  let new := toMem k.be k.size (x.reg (opS m)).toNat
  refine runs_at exec_lthCas h (if_pos hb) ((start_at e v p 3 s).step (fun y => k.flag { y.flags with z := false } y)) ?_
  have hexchange := lthExchange_kept (v := v) (f := fun bs => if ofMem k.be bs = (x.reg (opD m)).toNat % 2 ^ (8 * k.size) then some new else none)
    (hc.start (v := v) (p := p) (len := 3)) h8 (by rw [liveAt_start]; exact if_neg hold)
  rw [liveAt_start] at hexchange
  have hbody : lthExchange k.e k.v (x.reg (opD ab)).toNat k.size
      (fun bs => if ofMem k.be bs = (x.reg (opD m)).toNat % 2 ^ (8 * k.size) then some new else none) (startOf e v p 3 s) = _ := hexchange
  have hz : (ofMem k.be (liveAt s e ((s.lthLevel e v).reg (opD ab)).toNat (opSize p)) == (x.reg (opD m)).toNat % 2 ^ (8 * k.size)) = false :=
    beq_eq_false_iff_ne.mpr hold
  dsimp only
  rw [level_start, hbody]
  dsimp only
  rw [hz]
  rfl

/-! ### Accesses that take an exception (R356, R386, R387) -/

/-- An access of `n` octets at `a` leaves `t` and takes exception `c`, be it a load, a store or an exchange. -/
structure AccessFails (e v a n c : Nat) (u t : State) : Prop where
  load : lthLoad e v a n u = (t, .fault c)
  store : ∀ bs, bs.length = n → lthStore e v a bs u = (t, .fault c)
  exchange : ∀ f, lthExchange e v a n f u = (t, .fault c)

/-- An access outside every region is refused and counted (R356). -/
theorem accessFails_of_none (v : Nat) (u : State) (h : regionOf a n = .none) : AccessFails e v a n 3 u (u.accessFault e) where
  load := by simp only [lthLoad, h, refuseAccess]
  store bs hn := by simp only [lthStore, hn, h, refuseAccess]
  exchange f := by simp only [lthExchange, h, refuseAccess]

theorem regionOf_regs (h0 : 0x20000000 ≤ a) (h1 : a + n ≤ 0x20000100) : regionOf a n = .regs (a - 0x20000000) := by
  have hlive : ¬a + n ≤ 0x10000000 + 0x40000 := by omega
  have hold : ¬a + n ≤ 0x10040000 + 0x40000 := by omega
  have hend : a + n ≤ 0x20000000 + 0x100 := by omega
  unfold regionOf
  simp only [hlive, hold, h0, hend, decide_true, decide_false, Bool.and_false, Bool.and_true, Bool.false_eq_true, if_false, if_true]

/-- An access into the register region other than of one aligned word (R387). -/
theorem accessFails_of_regs (e v : Nat) (u : State) (h0 : 0x20000000 ≤ a) (h1 : a + n ≤ 0x20000100) (hw : n ≠ 4 ∨ a % 4 ≠ 0) :
    AccessFails e v a n 4 u u := by
  have hregion := regionOf_regs h0 h1
  have hword : ¬(n = 4 ∧ (a - 0x20000000) % 4 = 0) := by omega
  have hload : lthLoad e v a n u = (u, .fault 4) := by simp only [lthLoad, hregion, if_neg hword]
  refine ⟨hload, fun bs hn => ?_, fun f => ?_⟩
  · simp only [lthStore, hn, hregion, if_neg hword]
  · simp only [lthExchange, hregion, hload, Bool.false_and, Bool.false_eq_true, if_false]

/-- An exchange in the live half across an 8-octet boundary (R387, R569). -/
theorem lthExchange_spans (v : Nat) (f : List Byte → Option (List Byte)) (u : State) (h0 : 0x10000000 ≤ a) (h1 : a + n ≤ 0x10040000)
    (hs : a / 8 ≠ (a + n - 1) / 8) : lthExchange e v a n f u = (u, .fault 4) := by
  simp only [lthExchange, regionOf_live h0 h1, bne_iff_ne.mpr hs, Bool.and_self, if_true]

/-- XCHG whose exchange takes an exception. -/
theorem xchg_excepted {t : State} {l : Lathe} {c : Nat} (hA : badA ab = false) (hs : postInc ab = true → opD m ≠ opS m)
    (h : Ready e v p { sized := true, be := true } (3 + dispLen ab) s) (hu : LatheBecomes e s t l) (hx : (l.level v).xen = true)
    (hf : ∀ f, lthExchange e v (addrOf s e v p m ab disp) (opSize p) f (startOf e v p (3 + dispLen ab) s) = (t, .fault c)) :
    Does (.lthXchg e p m ab disp) s (fun r => LatheBecomes e s r
      (l.excepted v c 0 false (s.lthLevel e v).ip.toNat (addrOf s e v p m ab disp) (nextIp e v p (3 + dispLen ab) s))) := by
  refine does_of_fault (f := memForm ab (opD m == opS m)) exec_lthXchg h (memBad_of_legal hA fun hp => beq_eq_false_iff_ne.mpr (hs hp)) hu hx ?_
  let k := envOf e v p (3 + dispLen ab) s
  have hbody : lthExchange k.e k.v (effAddr (s.lthLevel e v) (opS m) ab disp k.size) k.size
      (fun _ => some (toMem k.be k.size (((s.lthLevel e v).past (nextIp e v p (3 + dispLen ab) s)).reg (opD m)).toNat))
      (startOf e v p (3 + dispLen ab) s) = _ := hf _
  dsimp only [memForm]
  rw [effAddr_start, level_start, hbody]
  rfl

/-- A load whose access takes an exception. -/
theorem lthLoadRow_excepted {f : Nat → Nat → Nat} {t : State} {l : Lathe} {c : Nat} (hi : exec i s = lthLoadRow e p m ab disp f s)
    (hA : badA ab = false) (hs : postInc ab = true → opD m ≠ opS m) (h : Ready e v p { sized := true, be := true } (3 + dispLen ab) s)
    (hu : LatheBecomes e s t l) (hx : (l.level v).xen = true)
    (hf : lthLoad e v (addrOf s e v p m ab disp) (opSize p) (startOf e v p (3 + dispLen ab) s) = (t, .fault c)) :
    Does i s (fun r => LatheBecomes e s r
      (l.excepted v c 0 false (s.lthLevel e v).ip.toNat (addrOf s e v p m ab disp) (nextIp e v p (3 + dispLen ab) s))) := by
  refine does_of_fault (f := memForm ab (opD m == opS m)) hi h (memBad_of_legal hA fun hp => beq_eq_false_iff_ne.mpr (hs hp)) hu hx ?_
  let k := envOf e v p (3 + dispLen ab) s
  have hload : lthLoad k.e k.v (effAddr (s.lthLevel e v) (opS m) ab disp k.size) k.size (startOf e v p (3 + dispLen ab) s) = _ := hf
  dsimp only [memForm]
  rw [effAddr_start, hload]
  rfl

/-- A store whose access takes an exception. -/
theorem storeAt_excepted {f : LthForm} {val : LthEnv → State → Nat} {t : State} {l : Lathe} {c : Nat}
    (hi : exec i s = lthRow e p f (storeAt m ab disp val) s) (h : Ready e v p f.accepts f.len s) (hb : f.bad = none)
    (hu : LatheBecomes e s t l) (hx : (l.level v).xen = true)
    (hf : ∀ bs, bs.length = opSize p → lthStore e v (addrOf s e v p m ab disp) bs (startOf e v p f.len s) = (t, .fault c)) :
    Does i s (fun r => LatheBecomes e s r
      (l.excepted v c 0 false (s.lthLevel e v).ip.toNat (addrOf s e v p m ab disp) (nextIp e v p f.len s))) := by
  refine does_of_fault hi h hb hu hx ?_
  let k := envOf e v p f.len s
  have hstore : lthStore k.e k.v (effAddr (s.lthLevel e v) (opS m) ab disp k.size) (toMem k.be k.size (val k (startOf e v p f.len s)))
      (startOf e v p f.len s) = _ := hf _ (length_toMem _ _ _)
  unfold storeAt
  dsimp only
  rw [effAddr_start, hstore]
  rfl

/-- Every form whose access takes an exception. -/
theorem access_excepted {t : State} {l : Lathe} {c : Nat} (hA : badA ab = false) (hs : postInc ab = true → opD m ≠ opS m)
    (h : Ready e v p { sized := true, be := true } (3 + dispLen ab) s) (hu : LatheBecomes e s t l) (hx : (l.level v).xen = true)
    (hf : AccessFails e v (addrOf s e v p m ab disp) (opSize p) c (startOf e v p (3 + dispLen ab) s) t) :
    ∀ i ∈ [Instr.lthLd e p m ab disp, .lthLds e p m ab disp, .lthSt e p m ab disp, .lthXchg e p m ab disp], Does i s (fun r => LatheBecomes e s r
      (l.excepted v c 0 false (s.lthLevel e v).ip.toNat (addrOf s e v p m ab disp) (nextIp e v p (3 + dispLen ab) s))) := by
  simp only [List.forall_mem_cons, List.not_mem_nil, false_imp_iff, implies_true, and_true]
  refine ⟨?_, ?_, ?_, ?_⟩
  · exact lthLoadRow_excepted (f := fun _ x => x) exec_lthLd hA hs h hu hx hf.load
  · exact lthLoadRow_excepted (f := fun w x => toU 32 (toS w x)) exec_lthLds hA hs h hu hx hf.load
  · exact storeAt_excepted (f := memForm ab false) exec_lthSt h (memBad_of_legal hA fun _ => rfl) hu hx hf.store
  · exact xchg_excepted hA hs h hu hx hf.exchange

/-- The engine of an instruction that has started: its exceptions do not see the instruction pointer moved. -/
theorem excepted_start (l : Lathe) (v ip cause trap : Nat) (blk : Bool) (addr data next : Nat) :
    (l.setLevel v ((l.level v).past ip)).excepted v cause trap blk addr data next = l.excepted v cause trap blk addr data next :=
  l.excepted_ip v (BitVec.ofNat 32 ip) cause trap blk addr data next

/-- A refused access is counted beside its exception. -/
theorem Lathe.refused_excepted_eq (l : Lathe) (v cause trap : Nat) (blk : Bool) (addr data next : Nat) :
    l.refused.excepted v cause trap blk addr data next =
      { l.excepted v cause trap blk addr data next with accessFault := wrap 32 (l.accessFault + 1) } := by
  unfold Lathe.excepted
  rw [Lathe.level_refused, Lathe.refused_setLevel_eq]
  rfl

/-- A form whose access outside every region is refused: exception BUS, and the access is counted. -/
theorem access_refused (hA : badA ab = false) (hs : postInc ab = true → opD m ≠ opS m)
    (h : Ready e v p { sized := true, be := true } (3 + dispLen ab) s) (hx : (s.lthLevel e v).xen = true)
    (hr : regionOf (addrOf s e v p m ab disp) (opSize p) = .none) :
    ∀ i ∈ [Instr.lthLd e p m ab disp, .lthLds e p m ab disp, .lthSt e p m ab disp, .lthXchg e p m ab disp], Does i s (fun r => LatheBecomes e s r
      { (s.lathe e).excepted v 3 0 false (s.lthLevel e v).ip.toNat (addrOf s e v p m ab disp) (nextIp e v p (3 + dispLen ab) s) with
        accessFault := wrap 32 ((s.lathe e).accessFault + 1) }) := by
  have hbecomes := (start_at e v p (3 + dispLen ab) s).becomes.accessFault
  rw [Lathe.refused_setLevel] at hbecomes
  have hexcepted := access_excepted (disp := disp) hA hs h hbecomes (by rw [Lathe.level_setLevel]; exact hx) (accessFails_of_none v _ hr)
  rw [← Lathe.refused_excepted_eq]
  intro i hi
  obtain ⟨t, ht, hl⟩ := hexcepted i hi
  exact ⟨t, ht, by rw [← excepted_start]; exact hl⟩

/-- A form whose access takes an exception and changes nothing. -/
theorem excepts_of_does {c d : Nat} (h : Does i s (fun r => LatheBecomes e s r
    (((s.lathe e).setLevel v ((s.lthLevel e v).past (nextIp e v p len s))).excepted v c 0 false (s.lthLevel e v).ip.toNat d (nextIp e v p len s)))) :
    Excepts i s e v c 0 false d (nextIp e v p len s) := by
  obtain ⟨t, ht, hl⟩ := h
  exact ⟨t, ht, by rw [← excepted_start]; exact hl⟩

theorem access_unaligned (hA : badA ab = false) (hs : postInc ab = true → opD m ≠ opS m)
    (h : Ready e v p { sized := true, be := true } (3 + dispLen ab) s) (hx : (s.lthLevel e v).xen = true)
    (h0 : 0x20000000 ≤ addrOf s e v p m ab disp) (h1 : addrOf s e v p m ab disp + opSize p ≤ 0x20000100)
    (hw : opSize p ≠ 4 ∨ addrOf s e v p m ab disp % 4 ≠ 0) :
    ∀ i ∈ [Instr.lthLd e p m ab disp, .lthLds e p m ab disp, .lthSt e p m ab disp, .lthXchg e p m ab disp],
      Excepts i s e v 4 0 false (addrOf s e v p m ab disp) (nextIp e v p (3 + dispLen ab) s) := fun i hi =>
  excepts_of_does (access_excepted hA hs h (start_at e v p _ s).becomes (by rw [Lathe.level_setLevel]; exact hx)
    (accessFails_of_regs e v _ h0 h1 hw) i hi)

theorem xchg_spanning (hA : badA ab = false) (hs : postInc ab = true → opD m ≠ opS m)
    (h : Ready e v p { sized := true, be := true } (3 + dispLen ab) s) (hx : (s.lthLevel e v).xen = true)
    (h0 : 0x10000000 ≤ addrOf s e v p m ab disp) (h1 : addrOf s e v p m ab disp + opSize p ≤ 0x10040000)
    (h8 : addrOf s e v p m ab disp / 8 ≠ (addrOf s e v p m ab disp + opSize p - 1) / 8) :
    Excepts (.lthXchg e p m ab disp) s e v 4 0 false (addrOf s e v p m ab disp) (nextIp e v p (3 + dispLen ab) s) :=
  excepts_of_does (xchg_excepted hA hs h (start_at e v p _ s).becomes (by rw [Lathe.level_setLevel]; exact hx)
    fun f => lthExchange_spans v f _ h0 h1 h8)

/-! ### Octets that fail decoding (R385, R386, R395) -/

theorem illegal_of_badA (hx : (s.lthLevel e v).xen = true) (hA : badA ab = true) (h : Ready e v p { sized := true, be := true } 3 s) :
    ∀ i ∈ [Instr.lthLd e p m ab disp, .lthLds e p m ab disp, .lthSt e p m ab disp, .lthXchg e p m ab disp], Illegal i s e v p 2 := by
  simp only [List.forall_mem_cons, List.not_mem_nil, false_imp_iff, implies_true, and_true]
  exact ⟨illegal_of_bad exec_lthLd h hx (memBad_of_bad _ hA) (by decide), illegal_of_bad exec_lthLds h hx (memBad_of_bad _ hA) (by decide),
    illegal_of_bad exec_lthSt h hx (memBad_of_bad _ hA) (by decide), illegal_of_bad exec_lthXchg h hx (memBad_of_bad _ hA) (by decide)⟩

/-- POST on the register that is loaded. -/
theorem illegal_of_same (hx : (s.lthLevel e v).xen = true) (hp : postInc ab = true) (hs : opD m = opS m)
    (h : Ready e v p { sized := true, be := true } 3 s) :
    ∀ i ∈ [Instr.lthLd e p m ab disp, .lthLds e p m ab disp, .lthXchg e p m ab disp], Illegal i s e v p 2 := by
  have hbad : memBad ab (opD m == opS m) = some 2 := by
    rw [beq_iff_eq.mpr hs]
    exact memBad_of_same hp
  simp only [List.forall_mem_cons, List.not_mem_nil, false_imp_iff, implies_true, and_true]
  exact ⟨illegal_of_bad exec_lthLd h hx hbad (by decide), illegal_of_bad exec_lthLds h hx hbad (by decide),
    illegal_of_bad exec_lthXchg h hx hbad (by decide)⟩

/-- LEA has no access after which its base could step. -/
theorem lea_illegal (hx : (s.lthLevel e v).xen = true) (hA : badA ab = true ∨ postInc ab = true) (h : Ready e v p { sized := true } 3 s) :
    Illegal (.lthLea e p m ab disp) s e v p 2 := by
  refine illegal_of_bad exec_lthLea h hx ?_ (by decide)
  rcases hA with hA | hp
  · exact memBad_of_bad true hA
  · exact memBad_of_same hp

/-! ### LEA, LDS, ST and STI as the statement has them -/

theorem lea_runs (hA : badA ab = false) (hp : postInc ab = false) (h : Ready e v p { sized := true } (3 + dispLen ab) s) :
    Runs (.lthLea e p m ab disp) s e v ((s.lthLevel e v).retire (nextIp e v p (3 + dispLen ab) s) p none
      (some (opD m, BitVec.ofNat 32 (addrOf s e v p m ab disp))) none) :=
  runs_level exec_lthLea h (memBad_of_legal hA fun hpost => absurd (hp.symm.trans hpost) (by decide))
    (fun x => x.setReg (opD m) (BitVec.ofNat 32 (effAddr x (opS m) ab disp (opSize p)))) none rfl

/-- The sign-extended octets of a load (R383). -/
theorem lds_runs (hA : badA ab = false) (hs : postInc ab = true → opD m ≠ opS m) (h : Ready e v p { sized := true, be := true } (3 + dispLen ab) s)
    (hc : LiveClear s e (addrOf s e v p m ab disp) (opSize p)) : Runs (.lthLds e p m ab disp) s e v
      ((s.lthLevel e v).retire (nextIp e v p (3 + dispLen ab) s) p none (posted (s.lthLevel e v) m ab (opSize p))
        (some (opD m, BitVec.ofInt 32 (toS (8 * opSize p) (ofMem (p.contains 0xE2) (liveAt s e (addrOf s e v p m ab disp) (opSize p))))))) := by
  rw [← ofNat_toU]
  exact lthLoadRow_runs exec_lthLds hA hs h hc

theorem st_stores (hA : badA ab = false) (h : Ready e v p { sized := true, be := true } (3 + dispLen ab) s)
    (h0 : 0x10002000 ≤ addrOf s e v p m ab disp) (hc : LiveClear s e (addrOf s e v p m ab disp) (opSize p)) : Stores (.lthSt e p m ab disp) s e v
      ((s.lthLevel e v).retire (nextIp e v p (3 + dispLen ab) s) p none (posted (s.lthLevel e v) m ab (opSize p)) none)
      (livePool s e (addrOf s e v p m ab disp)) (toMem (p.contains 0xE2) (opSize p) ((s.lthLevel e v).reg (opD m)).toNat) := by
  have hstores := storeAt_stores (val := fun k u => ((k.level u).reg (opD m)).toNat) exec_lthSt h (memBad_of_legal hA fun _ => rfl) h0 hc
  rw [level_start, reg_past] at hstores
  exact hstores

theorem sti_stores (hA : badA ab = false) (hd : opD m = 0)
    (h : Ready e v p { sized := true, be := true } (3 + dispLen ab + opSize p) s)
    (h0 : 0x10002000 ≤ addrOf s e v p m ab disp) (hc : LiveClear s e (addrOf s e v p m ab disp) (opSize p)) : Stores (.lthSti e p m ab disp n) s e v
      ((s.lthLevel e v).retire (nextIp e v p (3 + dispLen ab + opSize p) s) p none (posted (s.lthLevel e v) m ab (opSize p)) none)
      (livePool s e (addrOf s e v p m ab disp)) (toMem (p.contains 0xE2) (opSize p) n) := by
  have hbad : (if opD m = 0 then memBad ab false else some 1) = none := by rw [if_pos hd, memBad_of_legal hA fun _ => rfl]
  have hstores := storeAt_stores (val := fun _ _ => n) exec_lthSti h hbad h0 hc
  exact hstores

theorem st_env (hA : badA ab = false) (h : Ready e v p { sized := true, be := true } (3 + dispLen ab) s)
    (h0 : 0x10000000 ≤ addrOf s e v p m ab disp) (h1 : addrOf s e v p m ab disp + opSize p ≤ 0x10002000) :
    Does (.lthSt e p m ab disp) s (fun t => LatheBecomes e s t { (s.lathe e).setLevel v
        ((s.lthLevel e v).retire (nextIp e v p (3 + dispLen ab) s) p none (posted (s.lthLevel e v) m ab (opSize p)) none) with
      accessFault := wrap 32 ((s.lathe e).accessFault + 1) }) := by
  have hdoes := storeAt_env (val := fun k u => ((k.level u).reg (opD m)).toNat) exec_lthSt h (memBad_of_legal hA fun _ => rfl) h0 h1
  exact hdoes

/-- Settles O57: accesses of the live data half complete, the others take the exception of their region, and a form with a bad octet is illegal. -/
theorem latheLoadsStoresAndExchanges : Obligations.LatheLoadsStoresAndExchanges := by
  unfold Obligations.LatheLoadsStoresAndExchanges
  refine ⟨?loads, ?st, ?sti, ?env, ?lea, ?xchg, ?cas, ?exceptions, ?badA, ?same, ?badLea, ?badCas⟩
  case loads => exact fun e v p m a disp s hA hs h hc => ⟨lthLoadRow_runs exec_lthLd hA hs h hc, lds_runs hA hs h hc⟩
  case st => exact fun e v p m a disp s hA h h0 hc => st_stores hA h h0 hc
  case sti => exact fun e v p m a disp n s hA hd h h0 hc => sti_stores hA hd h h0 hc
  case env => exact fun e v p m a disp s hA h h0 h1 => st_env hA h h0 h1
  case lea => exact fun e v p m a disp s hA hp h => lea_runs hA hp h
  case xchg => exact fun e v p m a disp s hA hs h h0 hc h8 => xchg_stores hA hs h h0 hc h8
  case cas => exact fun e v p m b s hb h h0 hc h8 => ⟨cas_stores hb h h0 hc h8, cas_runs hb h hc h8⟩
  case exceptions =>
    exact fun e v p m a disp s hx hA hs h => ⟨access_refused hA hs h hx, access_unaligned hA hs h hx, xchg_spanning hA hs h hx⟩
  case badA =>
    exact fun e v p m a disp n s hx hA h => ⟨illegal_of_badA hx hA h,
      fun hd => illegal_of_bad exec_lthSti h hx ((if_pos hd).trans (memBad_of_bad false hA)) (by decide),
      fun hd => illegal_of_bad exec_lthSti h hx (if_neg hd) (by decide)⟩
  case same => exact fun e v p m a disp s hx hp hs h => illegal_of_same hx hp hs h
  case badLea => exact fun e v p m a disp s hx hA h => lea_illegal hx hA h
  case badCas => exact fun e v p m b s hx hb h => illegal_of_bad exec_lthCas h hx (if_neg hb) (by decide)

end Sys2Proof.Machine
end

section
/-! SUPPORT. The results of the register instructions of the Lathes at the operand size (R383, R392, R393, R395), and the octets that fail decoding in
their forms. -/

namespace Sys2Proof.Machine

variable {e v n : Nat} {p : List Byte} {m b : Byte} {s : State}

/-! ### Classes A, L and M of R392 -/

theorem aluAdd_zero (n a b : Nat) :
    aluAdd n a b 0 = resultOf n ((a + b) % 2 ^ n) (decide (2 ^ n ≤ a + b)) (outside n (toS n a + toS n b)) := by
  rw [aluAdd_eq, Nat.add_zero, Nat.cast_zero, Int.add_zero]

theorem aluSub_zero {a b : Nat} (ha : a < 2 ^ n) (hb : b < 2 ^ n) :
    aluSub n a b 0 = resultOf n ((a + 2 ^ n - b) % 2 ^ n) (decide (a < b)) (outside n (toS n a - toS n b)) := by
  have hmod : (a + 2 ^ n * 2 - b - 0) % 2 ^ n = (a + 2 ^ n - b) % 2 ^ n := by
    rw [show a + 2 ^ n * 2 - b - 0 = a + 2 ^ n - b + 2 ^ n by omega, Nat.add_mod_right]
  rw [aluSub_eq ha hb (Nat.zero_le 1), hmod, Nat.add_zero, Nat.cast_zero, Int.sub_zero]

theorem toS_zero (n : Nat) : toS n 0 = 0 := by
  have hpos : 0 < 2 ^ n := Nat.two_pow_pos n
  simp [toS, hpos]

/-- Negation is subtraction from zero. -/
theorem aluSub_from_zero {a : Nat} (ha : a < 2 ^ n) :
    aluSub n 0 a 0 = resultOf n ((2 ^ n - a) % 2 ^ n) (decide (0 < a)) (outside n (-(toS n a))) := by
  rw [aluSub_zero (Nat.two_pow_pos n) ha, Nat.zero_add, toS_zero, Int.zero_sub]

theorem aluLogic_eq (n r : Nat) : aluLogic n r = resultOf n r false false := rfl

theorem aluMul_eq (n a b : Nat) :
    aluMul n a b = resultOf n (a * b % 2 ^ n) (decide (2 ^ n ≤ a * b)) (outside n (toS n a * toS n b)) := by
  simp only [aluMul, resultOf, znFlags, signedOut_eq]

/-- Settles O55: each row is a register or an immediate form whose result is the equation of its class. -/
theorem latheArithmeticAndLogicResults : Obligations.LatheArithmeticAndLogicResults := by
  unfold Obligations.LatheArithmeticAndLogicResults
  exact ⟨regForm_of (fun _ _ _ _ => rfl) fun _ _ _ _ _ _ => rfl,
    immForm_of (fun _ _ _ _ _ => rfl) fun _ _ _ _ _ _ => rfl,
    regForm_of (fun _ _ _ _ => rfl) fun n a b _ _ _ => aluAdd_zero n a b,
    immForm_of (fun _ _ _ _ _ => rfl) fun n a b _ _ _ => aluAdd_zero n a b,
    regForm_of (fun _ _ _ _ => rfl) fun n a b f _ _ => aluAdd_eq n a b f.c.toNat,
    regForm_of (fun _ _ _ _ => rfl) fun _ _ _ _ ha hb => aluSub_zero ha hb,
    immForm_of (fun _ _ _ _ _ => rfl) fun _ _ _ _ ha hb => aluSub_zero ha hb,
    regForm_of (fun _ _ _ _ => rfl) fun _ _ _ f ha hb => aluSub_eq ha hb (Bool.toNat_le_one f.c),
    regForm_of (fun _ _ _ _ => rfl) fun _ _ _ _ ha hb => aluSub_zero ha hb,
    immForm_of (fun _ _ _ _ _ => rfl) fun _ _ _ _ ha hb => aluSub_zero ha hb,
    regForm_of (fun _ _ _ _ => rfl) fun n a b _ _ _ => aluLogic_eq n (a &&& b),
    immForm_of (fun _ _ _ _ _ => rfl) fun n a b _ _ _ => aluLogic_eq n (a &&& b),
    regForm_of (fun _ _ _ _ => rfl) fun n a b _ _ _ => aluLogic_eq n (a ||| b),
    immForm_of (fun _ _ _ _ _ => rfl) fun n a b _ _ _ => aluLogic_eq n (a ||| b),
    regForm_of (fun _ _ _ _ => rfl) fun n a b _ _ _ => aluLogic_eq n (a ^^^ b),
    immForm_of (fun _ _ _ _ _ => rfl) fun n a b _ _ _ => aluLogic_eq n (a ^^^ b),
    regForm_of (fun _ _ _ _ => rfl) fun n a b _ _ _ => aluLogic_eq n (a &&& b),
    immForm_of (fun _ _ _ _ _ => rfl) fun n a b _ _ _ => aluLogic_eq n (a &&& b),
    regForm_of (fun _ _ _ _ => rfl) fun n a b _ _ _ => aluMul_eq n a b,
    immForm_of (fun _ _ _ _ _ => rfl) fun n a b _ _ _ => aluMul_eq n a b,
    oneForm_of (fun _ _ _ _ => rfl) fun n a _ _ _ => aluLogic_eq n (2 ^ n - 1 - a),
    oneForm_of (fun _ _ _ _ => rfl) fun _ _ _ _ ha => aluSub_from_zero ha⟩

/-! ### Class S of R392: shifts and rotations (R393) -/

theorem aluShl_eq (n a k : Nat) (f : LthFlags) :
    aluShl n a k f = resultOf n (a * 2 ^ k % 2 ^ n) (if k = 0 then f.c else decide (k ≤ n) && a.testBit (n - k)) false := by
  simp only [aluShl, shiftFlags, resultOf, znFlags, bitAt_eq]

theorem aluShr_eq (n a k : Nat) (f : LthFlags) :
    aluShr n a k f = resultOf n (a / 2 ^ k) (if k = 0 then f.c else a.testBit (k - 1)) false := by
  simp only [aluShr, shiftFlags, resultOf, znFlags, bitAt_eq]

theorem aluSar_eq (n a k : Nat) (f : LthFlags) :
    aluSar n a k f = resultOf n (toU n (toS n a / 2 ^ k)) (if k = 0 then f.c else toS n a / 2 ^ (k - 1) % 2 == 1) false := rfl

theorem aluRol_eq (n a k : Nat) (f : LthFlags) :
    aluRol n a k f = resultOf n ((a * 2 ^ (k % n) % 2 ^ n) + a / 2 ^ (n - k % n))
      (if k = 0 then f.c else ((a * 2 ^ (k % n) % 2 ^ n) + a / 2 ^ (n - k % n)) % 2 == 1) false := rfl

/-! ### Bits, fields and octet order (R395) -/

theorem setBit_eq (a b : Nat) : setBit a b = if a.testBit b then a else a + 2 ^ b := by
  rw [setBit, bitAt_eq]

theorem clrBit_eq (a b : Nat) : clrBit a b = if a.testBit b then a - 2 ^ b else a := by
  rw [clrBit, bitAt_eq]

/-- A body that writes flags and a register leaves the level retired with both. -/
theorem runs_written {i : Instr} {f : LthForm} {body : LthEnv → State → State × LthEnd} (hi : exec i s = lthRow e p f body s)
    (h : Ready e v p f.accepts f.len s) (hb : f.bad = none) (fl : LthFlags) (d : Nat) (r : Word)
    (hg : body (envOf e v p f.len s) (startOf e v p f.len s) =
      ((startOf e v p f.len s).updLevel e v fun y => ((envOf e v p f.len s).flag fl y).setReg d r, .done none)) :
    Runs i s e v ((s.lthLevel e v).retire (nextIp e v p f.len s) p (some fl) (some (d, r)) none) := by
  have hretire := retire_eq (w := true) (s.lthLevel e v) e v p f.len s fl d r none
  simp only [if_true] at hretire
  rw [← hretire]
  exact runs_level hi h hb (fun y => ((envOf e v p f.len s).flag fl y).setReg d r) none hg

/-- Flags replaced by themselves. -/
theorem retire_own_flags (x : LthLevel) (ip : Nat) (p : List Byte) (wr load : Option (Nat × Word)) :
    x.retire ip p (some x.flags) wr load = x.retire ip p none wr load := by
  unfold LthLevel.retire
  cases p.contains 0xE4 <;> rfl

theorem ext_runs {pos wid : Byte} (hpos : pos.toNat ≤ 31) (hwid : wid.toNat ≤ 31) (h : Ready e v p {} 4 s) :
    Runs (.lthExt e p m pos wid) s e v ((s.lthLevel e v).retire (nextIp e v p 4 s) p
      (some (resultOf 32 (((s.lthLevel e v).reg (opS m)).toNat / 2 ^ pos.toNat % 2 ^ (wid.toNat + 1)) false false).2)
      (some (opD m, BitVec.ofNat 32 (((s.lthLevel e v).reg (opS m)).toNat / 2 ^ pos.toNat % 2 ^ (wid.toNat + 1)))) none) := by
  have hbad : (if 31 < pos.toNat then some 2 else if 31 < wid.toNat then some 3 else none) = none := by
    rw [if_neg (Nat.not_lt.mpr hpos), if_neg (Nat.not_lt.mpr hwid)]
  refine runs_written (i := .lthExt e p m pos wid) rfl h hbad _ _ _ ?_
  dsimp only
  rw [level_start, reg_past]
  rfl

/-- BSWAP leaves the flags as they are. -/
theorem bswap_runs (hm : opS m = 0) (hsize : opSize p ≠ 1) (h : Ready e v p { sized := true } 2 s) :
    Runs (.lthBswap e p m) s e v ((s.lthLevel e v).retire (nextIp e v p 2 s) p none
      (some (opD m, BitVec.ofNat 32 (ofBE (toLE (opSize p) (((s.lthLevel e v).reg (opD m)).toNat % 2 ^ (8 * opSize p)))))) none) := by
  have hbad : (if opSize p = 1 then some 0 else if opS m = 0 then none else some 1) = none := by rw [if_neg hsize, if_pos hm]
  rw [← retire_own_flags]
  refine runs_written (i := .lthBswap e p m) rfl h hbad _ _ _ ?_
  dsimp only
  rw [aluOn, level_start, reg_past, aluBswap, Nat.mul_div_cancel_left _ (by decide)]
  rfl

/-! ### Octets that fail decoding (R385, R395) -/

/-- A form whose modifier octet names one register has no second one. -/
theorem illegal_of_second {i : Instr} {len : Nat} {acc : LthAccepts} {body : LthEnv → State → State × LthEnd} (hx : (s.lthLevel e v).xen = true)
    (hm : opS m ≠ 0) (h : Ready e v p acc 2 s)
    (hi : exec i s = lthRow e p { len := len, accepts := acc, bad := if opS m = 0 then none else some 1 } body s) : Illegal i s e v p 1 :=
  illegal_of_bad hi h hx (if_neg hm) (by decide)

theorem sized_illegal (hx : (s.lthLevel e v).xen = true) (hm : opS m ≠ 0) (h : Ready e v p { sized := true } 2 s) :
    ∀ i ∈ [Instr.lthMovi e p m n, .lthAddi e p m n, .lthSubi e p m n, .lthCmpi e p m n, .lthAndi e p m n, .lthOri e p m n, .lthXori e p m n,
      .lthTsti e p m n, .lthMuli e p m n, .lthShli e p m b, .lthShri e p m b, .lthSari e p m b, .lthRoli e p m b, .lthNot e p m, .lthNeg e p m],
      Illegal i s e v p 1 := by
  intro i hi
  obtain ⟨len, body, hrow⟩ : ∃ len body, exec i s = lthRow e p { len := len, accepts := { sized := true }, bad := if opS m = 0 then none else some 1 }
      body s := by
    revert i
    simp only [List.forall_mem_cons, List.not_mem_nil, false_imp_iff, implies_true, and_true]
    and_intros <;> exact ⟨_, _, rfl⟩
  exact illegal_of_second hx hm h hrow

theorem unsized_illegal (hx : (s.lthLevel e v).xen = true) (hm : opS m ≠ 0) (h : Ready e v p {} 2 s) :
    ∀ i ∈ [Instr.lthBtst e p m b, .lthBset e p m b, .lthBclr e p m b, .lthJmp e p m, .lthPush e p m, .lthPop e p m], Illegal i s e v p 1 := by
  have hpop : (if opS m = 0 ∧ opD m ≠ 12 then none else some 1) = some 1 := if_neg fun hlow => hm hlow.1
  simp only [List.forall_mem_cons, List.not_mem_nil, false_imp_iff, implies_true, and_true]
  exact ⟨illegal_of_second hx hm h rfl, illegal_of_second hx hm h rfl, illegal_of_second hx hm h rfl, illegal_of_second hx hm h rfl,
    illegal_of_second hx hm h rfl, illegal_of_bad (i := .lthPop e p m) rfl h hx hpop (by decide)⟩

/-- BSWAP is illegal at the octet size before its modifier octet is decoded. -/
theorem bswap_illegal (hx : (s.lthLevel e v).xen = true) :
    (opSize p = 1 → Ready e v p { sized := true } 1 s → Illegal (.lthBswap e p m) s e v p 0) ∧
      (opSize p ≠ 1 → opS m ≠ 0 → Ready e v p { sized := true } 2 s → Illegal (.lthBswap e p m) s e v p 1) := by
  refine ⟨fun hsize h => ?_, fun hsize hm h => ?_⟩
  · exact illegal_of_bad (i := .lthBswap e p m) rfl h hx (if_pos hsize) (by decide)
  · exact illegal_of_bad (i := .lthBswap e p m) rfl h hx ((if_neg hsize).trans (if_neg hm)) (by decide)

theorem ext_illegal {pos wid : Byte} (hx : (s.lthLevel e v).xen = true) (h : Ready e v p {} 4 s) :
    (31 < pos.toNat → Illegal (.lthExt e p m pos wid) s e v p 2) ∧
      (pos.toNat ≤ 31 → 31 < wid.toNat → Illegal (.lthExt e p m pos wid) s e v p 3) := by
  refine ⟨fun hpos => ?_, fun hpos hwid => ?_⟩
  · exact illegal_of_bad (i := .lthExt e p m pos wid) rfl h hx (if_pos hpos) (by decide)
  · exact illegal_of_bad (i := .lthExt e p m pos wid) rfl h hx ((if_neg (Nat.not_lt.mpr hpos)).trans (if_pos hwid)) (by decide)

/-- Settles O56: shifts and bit instructions are forms whose result is the equation of their class; EXT and BSWAP write one register; a bad octet
stops its form at decoding. -/
theorem latheShiftsBitsAndIllegalForms : Obligations.LatheShiftsBitsAndIllegalForms := by
  unfold Obligations.LatheShiftsBitsAndIllegalForms
  exact ⟨shiftForm_of (fun _ _ _ _ => rfl) fun n a k f _ _ _ => aluShl_eq n a k f,
    shiftImmForm_of (fun _ _ _ _ _ => rfl) fun n a k f _ _ _ => aluShl_eq n a k f,
    shiftForm_of (fun _ _ _ _ => rfl) fun n a k f _ _ _ => aluShr_eq n a k f,
    shiftImmForm_of (fun _ _ _ _ _ => rfl) fun n a k f _ _ _ => aluShr_eq n a k f,
    shiftForm_of (fun _ _ _ _ => rfl) fun n a k f _ _ _ => aluSar_eq n a k f,
    shiftImmForm_of (fun _ _ _ _ _ => rfl) fun n a k f _ _ _ => aluSar_eq n a k f,
    shiftForm_of (fun _ _ _ _ => rfl) fun n a k f _ _ _ => aluRol_eq n a k f,
    shiftImmForm_of (fun _ _ _ _ _ => rfl) fun n a k f _ _ _ => aluRol_eq n a k f,
    bitForm_of (f := fun a _ => a) (fun _ _ _ _ _ => rfl) fun _ _ => rfl,
    bitForm_of (fun _ _ _ _ _ => rfl) setBit_eq,
    bitForm_of (fun _ _ _ _ _ => rfl) clrBit_eq,
    fun e v p m pos wid s hpos hwid h => ext_runs hpos hwid h,
    fun e v p m s hm hsize h => bswap_runs hm hsize h,
    fun e v p m n b s hx hm => ⟨fun h => sized_illegal hx hm h, fun h => unsized_illegal hx hm h, fun h hsize => (bswap_illegal hx).2 hsize hm h⟩,
    fun e v p m s hx hsize h => (bswap_illegal hx).1 hsize h,
    fun e v p m pos wid s hx h => ext_illegal hx h⟩

end Sys2Proof.Machine
end

section
/-! SUPPORT. Branches, the stack and calls of the Lathes (R389, R390, R395 to R397, R401, R402): where IP goes, what a push stores and a pop reads, and
which stack accesses take an exception. -/

namespace Sys2Proof.Machine

variable {i : Instr} {e v g n a : Nat} {p : List Byte} {f : LthForm} {body : LthEnv → State → State × LthEnd} {m : Byte} {mask : BitVec 16} {s : State}

/-! ### Branches and jumps (R395, R396) -/

theorem condHolds_eq (cc : Nat) (f : LthFlags) : condHolds cc f = holds cc f := by
  by_cases h : cc < 14
  · interval_cases cc <;> rfl
  · obtain ⟨k, rfl⟩ := Nat.exists_eq_add_of_le' (Nat.not_lt.mp h)
    rfl

/-- An instruction whose body only sets the instruction pointer. -/
theorem runs_jump (hi : exec i s = lthRow e p f body s) (h : Ready e v p f.accepts f.len s) (hb : f.bad = none)
    (hg : body (envOf e v p f.len s) (startOf e v p f.len s) = (jumpTo (envOf e v p f.len s) a (startOf e v p f.len s), .done none)) :
    Runs i s e v ((s.lthLevel e v).retire a p none none none) :=
  runs_level hi h hb (fun x => { x with ip := BitVec.ofNat 32 a }) none hg

/-- The body of a branch to a displacement from the next instruction. -/
def branchBy (cc : Nat) (d : Int) (k : LthEnv) (s : State) : State × LthEnd :=
  (if condHolds cc (k.level s).flags then jumpTo k (toU 32 ((k.next : Int) + d)) s else s, .done none)

theorem exec_lthBccRel8 (e : Nat) (p : List Byte) (cc : Nat) (d : Byte) (s : State) : exec (.lthBccRel8 e p cc d) s =
    lthRow e p { len := 2, bad := if cc % 16 = 15 then some 0 else none } (branchBy (cc % 16) d.toInt) s := rfl

theorem exec_lthBccRel16 (e : Nat) (p : List Byte) (cc : Nat) (d : BitVec 16) (s : State) : exec (.lthBccRel16 e p cc d) s =
    lthRow e p { len := 3, bad := if cc % 16 = 15 then some 0 else none } (branchBy (cc % 16) d.toInt) s := rfl

/-- A branch is taken where its condition holds. -/
theorem branch_runs {cc : Nat} {d : Int} (hi : exec i s = lthRow e p f (branchBy cc d) s) (h : Ready e v p f.accepts f.len s) (hb : f.bad = none) :
    (holds cc (s.lthLevel e v).flags = true →
      Runs i s e v ((s.lthLevel e v).retire (toU 32 ((nextIp e v p f.len s : Int) + d)) p none none none)) ∧
    (holds cc (s.lthLevel e v).flags = false → Runs i s e v ((s.lthLevel e v).retire (nextIp e v p f.len s) p none none none)) := by
  have hflags : ((envOf e v p f.len s).level (startOf e v p f.len s)).flags = (s.lthLevel e v).flags := by rw [level_start]; rfl
  refine ⟨fun hcond => runs_jump hi h hb ?_, fun hcond => runs_plain hi h hb ?_⟩
  · rw [branchBy, hflags, condHolds_eq, hcond, if_pos rfl]
    rfl
  · rw [branchBy, hflags, condHolds_eq, hcond, if_neg Bool.false_ne_true]

theorem jmp_runs (hm : opS m = 0) (h : Ready e v p {} 2 s) :
    Runs (.lthJmp e p m) s e v ((s.lthLevel e v).retire ((s.lthLevel e v).reg (opD m)).toNat p none none none) := by
  refine runs_jump (i := .lthJmp e p m) rfl h (if_pos hm) ?_
  dsimp only
  rw [level_start, reg_past]

theorem jmpa_runs {w : Word} (h : Ready e v p {} 5 s) : Runs (.lthJmpa e p w) s e v ((s.lthLevel e v).retire w.toNat p none none none) :=
  runs_jump (i := .lthJmpa e p w) rfl h rfl rfl

/-! ### Words pushed (R397, R402) -/

theorem toLE_mod (n x : Nat) : toLE n (x % 256 ^ n) = toLE n x := by
  induction n generalizing x with
  | zero => rfl
  | succ n ih =>
    have hlow : BitVec.ofNat 8 (x % 256 ^ (n + 1)) = BitVec.ofNat 8 x := by
      apply BitVec.eq_of_toNat_eq
      rw [BitVec.toNat_ofNat, BitVec.toNat_ofNat]
      exact Nat.mod_mod_of_dvd x (Dvd.intro_left (256 ^ n) rfl)
    rw [toLE, toLE, hlow, Nat.pow_succ, Nat.mod_mul_left_div_self, ih]

theorem toLE_word (x : Nat) : toLE 4 (BitVec.ofNat 32 x).toNat = toLE 4 x := toLE_mod 4 x

/-- A change of one level stores nothing, wherever that is said to be. -/
theorem AtLevel.atStore {t : State} {x : LthLevel} (h : AtLevel e v s t x) (hv : v < 3) (a : Nat) : AtStore e v s t x a [] := by
  obtain ⟨hthis, hother, hframe⟩ := h
  refine ⟨by rw [State.lthLevel, hthis, Lathe.level_setLevel], fun d w hw hd => ?_, fun b => ?_, hframe.mono (by simp)⟩
  · by_cases hde : d = e
    · subst hde
      rw [State.lthLevel, hthis, Lathe.level_setLevel_other _ _ hv hw fun hwv => hd (by rw [hwv])]
      rfl
    · rw [State.lthLevel, hother d hde]
      rfl
  · have hpool : t.pool = s.pool := hframe .pool (by simp)
    rw [if_neg (by simp), State.poolByte, hpool]
    rfl

theorem Lathe.live_setLevel (l : Lathe) (v : Nat) (x : LthLevel) : (l.setLevel v x).live = l.live := by
  unfold Lathe.setLevel
  split
  · rfl
  · split <;> rfl

theorem live_start (e v : Nat) (p : List Byte) (len : Nat) (s : State) : ((startOf e v p len s).lathe e).live = (s.lathe e).live := by
  rw [(start_at e v p len s).1, Lathe.live_setLevel]

theorem pool_start (e v : Nat) (p : List Byte) (len : Nat) (s : State) : (startOf e v p len s).pool = s.pool :=
  (start_at e v p len s).2.2 .pool (by simp)

/-- g12 after a push, counted down modulo 2^32. -/
theorem ofNat_pushed (g : Word) (h : n ≤ g.toNat) : BitVec.ofNat 32 (g.toNat + 2 ^ 32 - n) = g - BitVec.ofNat 32 n := by
  apply BitVec.eq_of_toNat_eq
  rw [BitVec.toNat_sub, BitVec.toNat_ofNat, BitVec.toNat_ofNat]
  omega

/-- Words pushed onto a clear stack: the last of them lies lowest. -/
theorem pushWords_stores {len : Nat} {ws : List Word} (h : v < 3) (hn : 4 * ws.length ≤ ((s.lthLevel e v).reg 12).toNat)
    (hc : StackClear s e ((s.lthLevel e v).reg 12).toNat (((s.lthLevel e v).reg 12).toNat - 4 * ws.length) (4 * ws.length)) :
    ∃ t, pushWords (envOf e v p len s) ws (startOf e v p len s) = (t, .done none) ∧
      AtStore e v s t (((s.lthLevel e v).past (nextIp e v p len s)).setReg 12 ((s.lthLevel e v).reg 12 - BitVec.ofNat 32 (4 * ws.length)))
        (livePool s e (((s.lthLevel e v).reg 12).toNat - 4 * ws.length)) (ws.reverse.flatMap fun w => toLE 4 w.toNat) := by
  obtain ⟨halign, hbegin, hend, hclear⟩ := hc
  have hlt := ((s.lthLevel e v).reg 12).isLt
  have hcheck : stackCheck ((s.lthLevel e v).reg 12).toNat (pushAddrs ((s.lthLevel e v).reg 12).toNat ws.length) = none :=
    stackCheck_none halign fun a ha => by
      have := mem_pushAddrs hn hlt ha
      omega
  have hfold := push_fold ws ((start_at e v p len s).atStore h (livePool s e ((s.lthLevel e v).reg 12).toNat)) (live_start e v p len s)
    (fun y hy => by rwa [pool_start] at hy) (by omega) (by omega) hclear
  rw [List.append_nil] at hfold
  refine ⟨_, ?_, hfold.step h (fun x => x.setReg 12 ((s.lthLevel e v).reg 12 - BitVec.ofNat 32 (4 * ws.length)))⟩
  unfold pushWords
  rw [level_start, reg_past]
  dsimp only
  rw [hcheck, ofNat_pushed _ hn]
  rfl

theorem push_stores (hm : opS m = 0) (h : Ready e v p {} 2 s) (h4 : 4 ≤ ((s.lthLevel e v).reg 12).toNat)
    (hc : StackClear s e ((s.lthLevel e v).reg 12).toNat (((s.lthLevel e v).reg 12).toNat - 4) 4) :
    Stores (.lthPush e p m) s e v ((s.lthLevel e v).retire (nextIp e v p 2 s) p none (some (12, (s.lthLevel e v).reg 12 - 4)) none)
      (livePool s e (((s.lthLevel e v).reg 12).toNat - 4)) (toLE 4 ((s.lthLevel e v).reg (opD m)).toNat) := by
  obtain ⟨t, ht, hstore⟩ := pushWords_stores (p := p) (len := 2) (ws := [(s.lthLevel e v).reg (opD m)]) h.lt3 h4 hc
  refine stores_at (i := .lthPush e p m) rfl h (if_pos hm) hstore ?_
  dsimp only
  rw [level_start, reg_past]
  exact ht

/-! ### Calls (R397) -/

/-- The words of a call, as they lie from the lowest address up. -/
theorem callFrame_eq (x : LthLevel) (mask : BitVec 16) (next : Nat) :
    ((maskRegs mask).reverse.map x.reg ++ [BitVec.ofNat 32 next]).reverse.flatMap (fun w => toLE 4 w.toNat) = callFrame x mask next := by
  rw [List.reverse_append, List.map_reverse, List.reverse_reverse, List.flatMap_append, List.flatMap_map]
  simp only [List.reverse_singleton, List.flatMap_singleton, toLE_word]
  rfl

theorem call_length (x : LthLevel) (mask : BitVec 16) (next : Nat) :
    4 * ((maskRegs mask).reverse.map x.reg ++ [BitVec.ofNat 32 next]).length = frameLen mask := by
  simp [frameLen, maskRegs, Nat.add_comm]

/-- An instruction whose body calls a target. -/
theorem call_stores {target : Nat} (hi : exec i s = lthRow e p f body s) (h : Ready e v p f.accepts f.len s) (hb : f.bad = none)
    (hg : body (envOf e v p f.len s) (startOf e v p f.len s) = callTo target mask (envOf e v p f.len s) (startOf e v p f.len s))
    (hn : frameLen mask ≤ ((s.lthLevel e v).reg 12).toNat)
    (hc : StackClear s e ((s.lthLevel e v).reg 12).toNat (((s.lthLevel e v).reg 12).toNat - frameLen mask) (frameLen mask)) :
    Stores i s e v
      ((s.lthLevel e v).retire target p none (some (12, (s.lthLevel e v).reg 12 - BitVec.ofNat 32 (frameLen mask))) none)
      (livePool s e (((s.lthLevel e v).reg 12).toNat - frameLen mask)) (callFrame (s.lthLevel e v) mask (nextIp e v p f.len s)) := by
  rw [← call_length (s.lthLevel e v) mask (nextIp e v p f.len s)] at hn hc ⊢
  rw [← callFrame_eq]
  obtain ⟨t, ht, hstore⟩ := pushWords_stores (p := p) (len := f.len) h.lt3 hn hc
  refine stores_at hi h hb (hstore.step h.lt3 fun x => { x with ip := BitVec.ofNat 32 target }) (load := none) ?_
  rw [hg]
  have hpush : pushWords (envOf e v p f.len s) ((maskRegs mask).reverse.map ((envOf e v p f.len s).level (startOf e v p f.len s)).reg ++
      [BitVec.ofNat 32 (envOf e v p f.len s).next]) (startOf e v p f.len s) = (t, .done none) := by
    rw [level_start]
    exact ht
  unfold callTo
  dsimp only
  rw [hpush]
  rfl

/-! ### Words popped (R390, R397, R402) -/

/-- A word of a clear stack. -/
theorem halfRead_stack (h0 : 0x10002000 ≤ a) (h1 : a + 4 ≤ 0x10040000) (hc : LiveClear s e a 4) :
    halfRead e (s.lathe e).live (stackOfs a) 4 s = (s, .ok (liveAt s e a 4)) := by
  obtain ⟨-, -, hclear⟩ := hc
  rw [liveAt, livePool_eq]
  rw [livePool_eq] at hclear
  rw [stackOfs_eq (by omega) (by omega)]
  exact halfRead_clear hclear

/-- Words read from a clear stack upward. The pair that the fold carries gets a name, since the kernel takes long over its projections. -/
theorem readStack_clear {k : LthEnv} (hc : StackClear s k.e ((k.level s).reg 12).toNat ((k.level s).reg 12).toNat (4 * n)) :
    readStack k n s =
      (s, .inl ((List.range n).map fun j => BitVec.ofNat 32 (ofLE (liveAt s k.e (((k.level s).reg 12).toNat + 4 * j) 4)))) := by
  obtain ⟨halign, hbegin, hend, hclear⟩ := hc
  have hcheck : stackCheck ((k.level s).reg 12).toNat (popAddrs ((k.level s).reg 12).toNat n) = none :=
    stackCheck_none halign fun a ha => by
      have := mem_popAddrs (by omega) ha
      omega
  unfold readStack
  dsimp only
  rw [hcheck]
  dsimp only
  refine (pop_steps _ (fun ws a h0 h1 hword => ?_) n _ [] hbegin hend hclear).trans (by rw [List.nil_append]; rfl)
  obtain ⟨acc, hacc, hstate, hwords⟩ : ∃ acc : State × (List Word ⊕ LthEnd), acc = (s, .inl ws) ∧ acc.1 = s ∧ acc.2 = .inl ws :=
    ⟨_, rfl, rfl, rfl⟩
  rw [← hacc, hwords, hstate, halfRead_stack h0 h1 hword]
  rfl

theorem StackClear.start {len : Nat} (h : StackClear s e g a n) : StackClear (startOf e v p len s) e g a n := by
  obtain ⟨halign, hbegin, hend, hclear⟩ := h
  exact ⟨halign, hbegin, hend, hclear.start⟩

/-- The words that an instruction in progress reads from its stack. -/
theorem readStack_start {len : Nat} (hc : StackClear s e ((s.lthLevel e v).reg 12).toNat ((s.lthLevel e v).reg 12).toNat (4 * n)) :
    readStack (envOf e v p len s) n (startOf e v p len s) = (startOf e v p len s,
      .inl ((List.range n).map fun j => BitVec.ofNat 32 (ofLE (liveAt s e (((s.lthLevel e v).reg 12).toNat + 4 * j) 4)))) := by
  have hlevel : ((envOf e v p len s).level (startOf e v p len s)).reg 12 = (s.lthLevel e v).reg 12 := by rw [level_start, reg_past]
  have hread := readStack_clear (k := envOf e v p len s) (s := startOf e v p len s) (n := n) (by rw [hlevel]; exact hc.start)
  rw [hlevel] at hread
  simp only [← liveAt_start e v p len s]
  exact hread

/-! ### POP and RET -/

theorem pop_runs (hm : opS m = 0) (hd : opD m ≠ 12) (h : Ready e v p {} 2 s)
    (hc : StackClear s e ((s.lthLevel e v).reg 12).toNat ((s.lthLevel e v).reg 12).toNat 4) :
    Runs (.lthPop e p m) s e v ((s.lthLevel e v).retire (nextIp e v p 2 s) p none (some (12, (s.lthLevel e v).reg 12 + 4))
      (some (opD m, BitVec.ofNat 32 (ofLE (liveAt s e ((s.lthLevel e v).reg 12).toNat 4))))) := by
  refine runs_level (i := .lthPop e p m) rfl h (if_pos ⟨hm, hd⟩) (fun x => x.setReg 12 (x.reg 12 + 4)) _ ?_
  dsimp only
  rw [readStack_start (n := 1) hc]
  rfl

/-- The registers that a return restores, each with its word. -/
theorem restored_eq (rs : List Nat) (n : Nat) (w : Nat → Word) (x : LthLevel) :
    (rs.zip ((List.range n).map w)).foldl (fun y r => y.setReg r.1 r.2) x = (rs.zip (List.range n)).foldl (fun y r => y.setReg r.1 (w r.2)) x := by
  rw [List.zip_map_right, List.foldl_map]
  rfl

/-- What a return reads: the address to return to, then the words of the registers. -/
theorem readStack_return {len : Nat} (hc : StackClear s e ((s.lthLevel e v).reg 12).toNat ((s.lthLevel e v).reg 12).toNat (4 * (1 + n))) :
    readStack (envOf e v p len s) (1 + n) (startOf e v p len s) = (startOf e v p len s,
      .inl (BitVec.ofNat 32 (ofLE (liveAt s e ((s.lthLevel e v).reg 12).toNat 4)) ::
        (List.range n).map fun j => BitVec.ofNat 32 (ofLE (liveAt s e (((s.lthLevel e v).reg 12).toNat + 4 + 4 * j) 4)))) := by
  rw [readStack_start hc, Nat.add_comm 1 n, List.range_succ_eq_map, List.map_cons, List.map_map]
  simp only [Function.comp_def, Nat.succ_eq_add_one, Nat.mul_add, Nat.mul_one, Nat.mul_zero, Nat.add_zero, Nat.add_assoc, Nat.add_comm 4]

theorem ret_runs (h12 : bitAt mask.toNat 12 = false) (h : Ready e v p {} 3 s)
    (hc : StackClear s e ((s.lthLevel e v).reg 12).toNat ((s.lthLevel e v).reg 12).toNat (frameLen mask)) :
    let x := s.lthLevel e v
    let a := (x.reg 12).toNat
    let rs := (List.range 16).filter (bitAt mask.toNat)
    Runs (.lthRet e p mask) s e v
      (((rs.zip (List.range rs.length)).foldl (fun y r => y.setReg r.1 (BitVec.ofNat 32 (ofLE (liveAt s e (a + 4 + 4 * r.2) 4)))) x).retire
        (ofLE (liveAt s e a 4)) p none (some (12, x.reg 12 + BitVec.ofNat 32 (frameLen mask))) none) := by
  intro x a rs
  have hruns := runs_level (i := .lthRet e p mask) rfl h (if_neg (Bool.eq_false_iff.mp h12))
    (fun y => { ((rs.zip ((List.range rs.length).map fun j => BitVec.ofNat 32 (ofLE (liveAt s e (a + 4 + 4 * j) 4)))).foldl
      (fun y r => y.setReg r.1 r.2) y).setReg 12 (y.reg 12 + BitVec.ofNat 32 (frameLen mask)) with ip := BitVec.ofNat 32 (ofLE (liveAt s e a 4)) })
    none ?body
  case body =>
    have hread := readStack_return (p := p) (len := 3) (n := (maskRegs mask).length) hc
    dsimp only
    unfold returnFrom
    dsimp only
    rw [hread]
    rfl
  dsimp only at hruns
  rw [foldl_setReg_ip, restored_eq] at hruns
  exact hruns

/-! ### ALIGN and STACK (R401, R402) -/

theorem stackCheck_unaligned (h : g % 4 ≠ 0) (a : Nat) : stackCheck g [a] = some (4, a) := if_pos h

theorem stackCheck_outside (h4 : g % 4 = 0) (h : a < 0x10002000 ∨ 0x10040000 < a + 4) : stackCheck g [a] = some (5, a) := by
  have hfind : [a].find? (fun a => decide (a < 0x10002000) || decide (0x10040000 < a + 4)) = some a := List.find?_cons_of_pos (by simpa using h)
  rw [stackCheck, if_neg (not_not_intro h4), hfind]
  rfl

theorem pushAddrs_one (g : Nat) : pushAddrs g 1 = [(g + 2 ^ 32 - 4) % 2 ^ 32] := by
  have haddr : toU 32 ((g : Int) - (4 * (0 + 1) : Nat)) = (g + 2 ^ 32 - 4) % 2 ^ 32 := by
    unfold toU
    omega
  exact congrArg (fun a => [a]) haddr

theorem popAddrs_one (g : Word) : popAddrs g.toNat 1 = [g.toNat] := by
  rw [popAddrs_succ g.isLt]
  rfl

theorem push_excepts {c d : Nat} (hx : (s.lthLevel e v).xen = true) (hm : opS m = 0) (h : Ready e v p {} 2 s)
    (hc : stackCheck ((s.lthLevel e v).reg 12).toNat [(((s.lthLevel e v).reg 12).toNat + 2 ^ 32 - 4) % 2 ^ 32] = some (c, d)) :
    Excepts (.lthPush e p m) s e v c 0 false d (nextIp e v p 2 s) := by
  refine excepts_of_fault (i := .lthPush e p m) rfl h (if_pos hm) hx ?_
  rw [← pushAddrs_one] at hc
  dsimp only
  unfold pushWords
  rw [level_start, reg_past]
  dsimp only [List.length_singleton]
  rw [hc]

theorem pop_excepts {c d : Nat} (hx : (s.lthLevel e v).xen = true) (hm : opS m = 0) (hd : opD m ≠ 12) (h : Ready e v p {} 2 s)
    (hc : stackCheck ((s.lthLevel e v).reg 12).toNat [((s.lthLevel e v).reg 12).toNat] = some (c, d)) :
    Excepts (.lthPop e p m) s e v c 0 false d (nextIp e v p 2 s) := by
  refine excepts_of_fault (i := .lthPop e p m) rfl h (if_pos ⟨hm, hd⟩) hx ?_
  rw [← popAddrs_one] at hc
  have hread : readStack (envOf e v p 2 s) 1 (startOf e v p 2 s) = (startOf e v p 2 s, .inr (.fault c d 0 false)) := by
    unfold readStack
    rw [level_start, reg_past]
    dsimp only
    rw [hc]
  dsimp only
  rw [hread]

/-- Settles O58: branches and jumps set IP alone; a call is the words it pushes and then a jump, a return the words it reads; a stack access that
fails its check changes nothing and takes its exception. -/
theorem latheBranchesCallsAndStack : Obligations.LatheBranchesCallsAndStack := by
  unfold Obligations.LatheBranchesCallsAndStack
  refine ⟨fun e v p cc d s hcc h => ?rel8, fun e v p cc d s hcc h => ?rel16, fun e v p cc d w s hx hcc h => ?badBranch,
    fun e v p m s hm h => jmp_runs hm h, fun e v p a s h => jmpa_runs h, fun e v p m s hm h => push_stores hm h,
    fun e v p m s hm hd h => pop_runs hm hd h, fun e v p d mask s h12 h => ?call, fun e v p m mask s hm h12 h => ?callr,
    fun e v p mask s h12 h => ret_runs h12 h, fun e v p m d mask s hx h12 => ?badMask, fun e v p m mask s hx hm h => ?badCallr,
    fun e v p m s hx hm hd h => ?badPop, fun e v p m s hx hm h => ?exceptions⟩
  case rel8 =>
    have hbranch := branch_runs (exec_lthBccRel8 e p cc d s) h (if_neg hcc)
    exact hbranch
  case rel16 =>
    have hbranch := branch_runs (exec_lthBccRel16 e p cc d s) h (if_neg hcc)
    exact hbranch
  case badBranch =>
    exact ⟨illegal_of_bad (exec_lthBccRel8 e p cc d s) h hx (if_pos hcc) (by decide),
      illegal_of_bad (exec_lthBccRel16 e p cc w s) h hx (if_pos hcc) (by decide)⟩
  case call =>
    have hcall := call_stores (i := .lthCall e p d mask) rfl h (if_neg (Bool.eq_false_iff.mp h12)) rfl
    exact hcall
  case callr =>
    have hcall := call_stores (i := .lthCallr e p m mask) (target := ((s.lthLevel e v).reg (opD m)).toNat) rfl h
      ((if_neg (not_not_intro hm)).trans (if_neg (Bool.eq_false_iff.mp h12))) (by dsimp only; rw [level_start, reg_past])
    exact hcall
  case badMask =>
    exact ⟨fun h => illegal_of_bad (i := .lthCall e p d mask) rfl h hx (if_pos h12) (by decide),
      fun hm h => illegal_of_bad (i := .lthCallr e p m mask) rfl h hx ((if_neg (not_not_intro hm)).trans (if_pos h12)) (by decide),
      fun h => illegal_of_bad (i := .lthRet e p mask) rfl h hx (if_pos h12) (by decide)⟩
  case badCallr => exact illegal_of_bad (i := .lthCallr e p m mask) rfl h hx (if_pos hm) (by decide)
  case badPop => exact illegal_of_bad (i := .lthPop e p m) rfl h hx (if_neg fun hlegal => hlegal.2 hd) (by decide)
  case exceptions =>
    exact ⟨fun hg => push_excepts hx hm h (stackCheck_unaligned hg _), fun hg ho => push_excepts hx hm h (stackCheck_outside hg ho),
      fun hd hg => pop_excepts hx hm hd h (stackCheck_unaligned hg _), fun hd hg ho => pop_excepts hx hm hd h (stackCheck_outside hg ho)⟩

end Sys2Proof.Machine
end

section
/-! SUPPORT. The block instructions of the Lathes (R384, R398, R399): what an element loads, stores and compares, and what the loop over elements leaves. -/

namespace Sys2Proof.Machine

variable {i : Instr} {e v a n r j : Nat} {p : List Byte} {f : LthForm} {body : LthEnv → State → State × LthEnd} {m b : Byte} {c : Bool}
  {k : LthEnv} {s t u : State} {x : LthLevel} {bs : List Byte}

/-! ### The rows -/

/-- The prefixes that a block instruction accepts. -/
def blkAccepts : LthAccepts := { sized := true, be := true, dn := true }

/-- What a block instruction with control octet `b` does of its elements: one, or with RPT a loop. -/
def blkBody (b : Byte) (more : Nat) (el : LthEnv → State → State × LthEnd) (k : LthEnv) (s : State) : State × LthEnd :=
  if bitAt b.toNat 3 then blkLoop k (untilStop b) (el k) (more + 1) s else el k s

/-- The form of a block instruction without a modifier octet. -/
def blkForm (b : Byte) (c : Bool) : LthForm := { len := 2, accepts := blkAccepts, bad := if badK b c then some 1 else none }

/-- The form of a block instruction with a modifier octet, which names one register. -/
def blkFormM (b m : Byte) (c : Bool) : LthForm :=
  { len := 3, accepts := blkAccepts, bad := if badK b c then some 1 else if opS m = 0 then none else some 2 }

theorem exec_lthBlkCopy (e : Nat) (p : List Byte) (b : Byte) (more : Nat) (s : State) :
    exec (.lthBlkCopy e p b more) s = lthRow e p (blkForm b false) (blkBody b more elemCopy) s := rfl

theorem exec_lthBlkFill (e : Nat) (p : List Byte) (b m : Byte) (more : Nat) (s : State) :
    exec (.lthBlkFill e p b m more) s = lthRow e p (blkFormM b m false) (blkBody b more (elemFill (opD m))) s := rfl

theorem exec_lthBlkMatch (e : Nat) (p : List Byte) (b : Byte) (more : Nat) (s : State) :
    exec (.lthBlkMatch e p b more) s = lthRow e p (blkForm b true) (blkBody b more elemMatch) s := rfl

theorem exec_lthBlkSeek (e : Nat) (p : List Byte) (b m : Byte) (more : Nat) (s : State) :
    exec (.lthBlkSeek e p b m more) s = lthRow e p (blkFormM b m true) (blkBody b more (elemSeek (opD m))) s := rfl

theorem exec_lthBlkGather (e : Nat) (p : List Byte) (b m : Byte) (s : State) : exec (.lthBlkGather e p b m) s =
    lthRow e p { len := 3, accepts := blkAccepts, bad := if badK b false || bitAt b.toNat 3 then some 1 else if opS m = 0 then none else some 2 }
      (elemGather (opD m)) s := rfl

/-! ### The control octet (R398) -/

theorem badK_eq_false (b : Byte) (c : Bool) : badK b c = false ↔ GoodK b c := by
  have hlt := b.isLt
  have hreserved : field b.toNat 6 2 = 0 ↔ b.toNat < 0x40 := by
    unfold field
    omega
  unfold badK GoodK
  rw [← hreserved]
  cases c <;> cases bitAt b.toNat 3 <;> simp [and_assoc]

theorem GoodK.not_bad (h : GoodK b c) : ¬badK b c = true := Bool.eq_false_iff.mp ((badK_eq_false b c).mpr h)

theorem badK_of_not_good (h : ¬GoodK b c) : badK b c = true := Bool.eq_true_of_not_eq_false fun hbad => h ((badK_eq_false b c).mp hbad)

theorem blkForm_legal (h : GoodK b c) : (blkForm b c).bad = none := if_neg h.not_bad

theorem blkFormM_legal (h : GoodK b c) (hm : opS m = 0) : (blkFormM b m c).bad = none := (if_neg h.not_bad).trans (if_pos hm)

theorem blkBody_once (h : bitAt b.toNat 3 = false) (more : Nat) (el : LthEnv → State → State × LthEnd) (k : LthEnv) (s : State) :
    blkBody b more el k s = el k s := if_neg (Bool.eq_false_iff.mp h)

theorem blkBody_repeated (h : bitAt b.toNat 3 = true) (more : Nat) (el : LthEnv → State → State × LthEnd) (k : LthEnv) (s : State) :
    blkBody b more el k s = blkLoop k (untilStop b) (el k) (more + 1) s := if_pos h

/-! ### UNTIL (R398) -/

theorem untilStop_congr {y : LthLevel} (h : x.z = y.z) : untilStop b x = untilStop b y := by
  simp only [untilStop, h]

theorem untilStop_z (h : field b.toNat 4 2 = 1) (x : LthLevel) : untilStop b x = x.z := by
  unfold untilStop
  rw [h]
  rfl

theorem untilStop_nz (h : field b.toNat 4 2 = 2) (x : LthLevel) : untilStop b x = !x.z := by
  unfold untilStop
  rw [h]
  rfl

theorem untilStop_none (h : field b.toNat 4 2 = 0) (x : LthLevel) : untilStop b x = false := by
  unfold untilStop
  rw [h]
  rfl

/-- An instruction that compares nothing has no UNTIL. -/
theorem GoodK.no_until (h : GoodK b false) (x : LthLevel) : untilStop b x = false := by
  obtain ⟨-, -, huntil⟩ := h
  have hnone : field b.toNat 4 2 = 0 := by
    by_contra hne
    exact Bool.false_ne_true (huntil hne).1
  exact untilStop_none hnone x

/-! ### Levels and their steps -/

theorem step_envOf (e v : Nat) (p : List Byte) (len : Nat) (s : State) : (envOf e v p len s).step = stepOf p := by
  have hneg : BitVec.ofNat 32 (2 ^ 32 - opSize p) = -(BitVec.ofNat 32 (opSize p)) := by
    unfold opSize
    split
    · decide
    · split <;> decide
  unfold LthEnv.step stepOf
  rw [← hneg]
  rfl

theorem reg_flag (k : LthEnv) (fl : LthFlags) (x : LthLevel) (r : Nat) : (k.flag fl x).reg r = x.reg r := by
  unfold LthEnv.flag
  split <;> rfl

theorem flag_setReg (k : LthEnv) (fl : LthFlags) (x : LthLevel) (r : Nat) (w : Word) : (k.flag fl x).setReg r w = k.flag fl (x.setReg r w) := by
  unfold LthEnv.flag
  split <;> rfl

/-- A register stepped beside flags set. -/
theorem bump_flag (k : LthEnv) (fl : LthFlags) (x : LthLevel) (r : Nat) : k.bump r (k.flag fl x) = k.flag fl (k.bump r x) := by
  rw [LthEnv.bump, reg_flag, flag_setReg]
  rfl

/-- Both pointers stepped. -/
theorem bump_bump (k : LthEnv) (x : LthLevel) : k.bump 15 (k.bump 14 x) = (x.setReg 14 (x.reg 14 + k.step)).setReg 15 (x.reg 15 + k.step) := by
  rw [LthEnv.bump, LthEnv.bump, LthLevel.reg_setReg, if_neg (by decide)]

theorem past_land (x : LthLevel) (ip : Nat) : (x.past ip).land = x.land.past ip := by
  rw [LthLevel.land_eq, LthLevel.land_eq]
  rfl

theorem past_counted (x : LthLevel) (ip : Nat) : (x.past ip).counted = x.counted.past ip := past_land (x.setReg 13 (x.reg 13 - 1)) ip

theorem counted_pend (x : LthLevel) : x.counted.pend = none := LthLevel.pend_land _

theorem counted_z (x : LthLevel) : x.counted.z = x.z := by
  rw [LthLevel.counted, LthLevel.land_eq]
  rfl

/-- A level with nothing pending is as it was when its instruction ends. -/
theorem land_settled (h : x.pend = none) : { x.land with pend := none } = x := by
  rw [LthLevel.land_of_none h, ← h]

/-! ### Elements -/

theorem length_liveAt (s : State) (e a n : Nat) : (liveAt s e a n).length = n := by
  simp [liveAt, State.memGet]

/-- An operand value at the address in a register. -/
theorem elemLoad_start {len : Nat} (hc : LiveClear s e ((s.lthLevel e v).reg r).toNat (opSize p)) :
    elemLoad (envOf e v p len s) r (startOf e v p len s) = (startOf e v p len s, .ok (liveAt s e ((s.lthLevel e v).reg r).toNat (opSize p))) := by
  unfold elemLoad
  rw [level_start, reg_past]
  exact lthLoad_start hc

/-- A store at g15 that completes. -/
theorem elemStore_clear {g : LthLevel → LthLevel} (h0 : 0x10002000 ≤ ((k.level u).reg 15).toNat)
    (hc : LiveClear u k.e ((k.level u).reg 15).toNat bs.length) (hn : bs ≠ []) :
    elemStore k bs g u u = (k.upd (afterStore k.e ((k.level u).reg 15).toNat bs u) g, .done none) := by
  unfold elemStore
  dsimp only
  rw [lthStore_clear h0 hc hn]

/-- A single element that stores. -/
theorem elem_stores {g : LthLevel → LthLevel} (hi : exec i s = lthRow e p f body s) (h : Ready e v p f.accepts f.len s) (hb : f.bad = none)
    (h0 : 0x10002000 ≤ ((s.lthLevel e v).reg 15).toNat) (hc : LiveClear s e ((s.lthLevel e v).reg 15).toNat bs.length) (hn : bs ≠ [])
    (hg : body (envOf e v p f.len s) (startOf e v p f.len s) =
      elemStore (envOf e v p f.len s) bs g (startOf e v p f.len s) (startOf e v p f.len s)) :
    Stores i s e v { (g ((s.lthLevel e v).past (nextIp e v p f.len s))).land with pend := none }
      (livePool s e ((s.lthLevel e v).reg 15).toNat) bs := by
  have hlevel : ((envOf e v p f.len s).level (startOf e v p f.len s)).reg 15 = (s.lthLevel e v).reg 15 := by rw [level_start, reg_past]
  have hstore := elemStore_clear (k := envOf e v p f.len s) (u := startOf e v p f.len s) (g := g) (by rw [hlevel]; exact h0)
    (by rw [hlevel]; exact hc.start) hn
  rw [hlevel] at hstore
  exact stores_at hi h hb ((afterStore_start h.lt3 hc).step h.lt3 g) (hg.trans hstore)

theorem copy_stores {more : Nat} (hk : GoodK b false) (h3 : bitAt b.toNat 3 = false) (h : Ready e v p blkAccepts 2 s)
    (h14 : LiveClear s e ((s.lthLevel e v).reg 14).toNat (opSize p)) (h0 : 0x10002000 ≤ ((s.lthLevel e v).reg 15).toNat)
    (h15 : LiveClear s e ((s.lthLevel e v).reg 15).toNat (opSize p)) :
    let x := s.lthLevel e v
    Stores (.lthBlkCopy e p b more) s e v
      (((x.setReg 14 (x.reg 14 + stepOf p)).setReg 15 (x.reg 15 + stepOf p)).retire (nextIp e v p 2 s) p none none none)
      (livePool s e (x.reg 15).toNat) (liveAt s e (x.reg 14).toNat (opSize p)) := by
  intro x
  have hlen := length_liveAt s e (x.reg 14).toNat (opSize p)
  have hstores := elem_stores (g := fun y => (envOf e v p 2 s).bump 15 ((envOf e v p 2 s).bump 14 y)) (bs := liveAt s e (x.reg 14).toNat (opSize p))
    (exec_lthBlkCopy e p b more s) h (blkForm_legal hk) h0 (by rw [hlen]; exact h15) (by rw [← List.length_pos_iff, hlen]; exact opSize_pos p) ?body
  case body =>
    rw [blkBody_once h3, elemCopy]
    dsimp only [blkForm]
    rw [elemLoad_start h14]
  rw [bump_bump, step_envOf] at hstores
  exact hstores

theorem fill_stores {more : Nat} (hk : GoodK b false) (h3 : bitAt b.toNat 3 = false) (hm : opS m = 0) (h : Ready e v p blkAccepts 3 s)
    (h0 : 0x10002000 ≤ ((s.lthLevel e v).reg 15).toNat) (h15 : LiveClear s e ((s.lthLevel e v).reg 15).toNat (opSize p)) :
    let x := s.lthLevel e v
    Stores (.lthBlkFill e p b m more) s e v ((x.setReg 15 (x.reg 15 + stepOf p)).retire (nextIp e v p 3 s) p none none none)
      (livePool s e (x.reg 15).toNat) (toMem (p.contains 0xE2) (opSize p) (x.reg (opD m)).toNat) := by
  intro x
  have hstores := elem_stores (g := (envOf e v p 3 s).bump 15) (bs := toMem (p.contains 0xE2) (opSize p) (x.reg (opD m)).toNat)
    (exec_lthBlkFill e p b m more s) h (blkFormM_legal hk hm) h0 (by rw [length_toMem]; exact h15) (toMem_ne_nil _ p _) ?body
  case body =>
    rw [blkBody_once h3, elemFill]
    dsimp only [blkFormM]
    rw [level_start, reg_past]
    rfl
  rw [LthEnv.bump, step_envOf] at hstores
  exact hstores

/-! ### Comparisons (R398) -/

theorem ofLE_lt (bs : List Byte) : ofLE bs < 2 ^ (8 * bs.length) := by
  induction bs with
  | nil => decide
  | cons b bs ih =>
    have hlt := b.isLt
    rw [ofLE, List.length_cons, Nat.mul_add, Nat.pow_add]
    omega

theorem ofMem_lt (be : Bool) (bs : List Byte) : ofMem be bs < 2 ^ (8 * bs.length) := by
  unfold ofMem ofBE
  split
  · rw [← List.length_reverse]
    exact ofLE_lt bs.reverse
  · exact ofLE_lt bs

theorem ofMem_liveAt_lt (be : Bool) (s : State) (e a n : Nat) : ofMem be (liveAt s e a n) < 2 ^ (8 * n) := by
  have hlt := ofMem_lt be (liveAt s e a n)
  rwa [length_liveAt] at hlt

theorem aluSub_compared {a b : Nat} (ha : a < 2 ^ n) (hb : b < 2 ^ n) : (aluSub n a b 0).2 = compared n a b := by
  rw [aluSub_zero ha hb]
  rfl

theorem updLevel_congr {g h : LthLevel → LthLevel} (hgh : g (s.lthLevel e v) = h (s.lthLevel e v)) : s.updLevel e v g = s.updLevel e v h := by
  unfold State.lthLevel at hgh
  rw [State.updLevel, State.updLevel, State.updLathe_eq, State.updLathe_eq, hgh]

/-- The flags of an element of MATCH. -/
def matchFlags (s : State) (e v : Nat) (p : List Byte) : LthFlags :=
  compared (8 * opSize p) (ofMem (p.contains 0xE2) (liveAt s e ((s.lthLevel e v).reg 14).toNat (opSize p)))
    (ofMem (p.contains 0xE2) (liveAt s e ((s.lthLevel e v).reg 15).toNat (opSize p)))

theorem elemMatch_start {len : Nat} (h14 : LiveClear s e ((s.lthLevel e v).reg 14).toNat (opSize p))
    (h15 : LiveClear s e ((s.lthLevel e v).reg 15).toNat (opSize p)) : elemMatch (envOf e v p len s) (startOf e v p len s) =
      ((startOf e v p len s).updLevel e v fun y => (envOf e v p len s).bump 15 ((envOf e v p len s).bump 14
        ((envOf e v p len s).flag (matchFlags s e v p) y)), .done none) := by
  have hflags := aluSub_compared (ofMem_liveAt_lt (p.contains 0xE2) s e ((s.lthLevel e v).reg 14).toNat (opSize p))
    (ofMem_liveAt_lt (p.contains 0xE2) s e ((s.lthLevel e v).reg 15).toNat (opSize p))
  rw [elemMatch, elemLoad_start h14, elemLoad_start h15]
  dsimp only
  rw [elemLoad_start h15, matchFlags, ← hflags]
  rfl

theorem match_runs {more : Nat} (hk : GoodK b true) (h3 : bitAt b.toNat 3 = false) (h : Ready e v p blkAccepts 2 s)
    (h14 : LiveClear s e ((s.lthLevel e v).reg 14).toNat (opSize p)) (h15 : LiveClear s e ((s.lthLevel e v).reg 15).toNat (opSize p)) :
    let x := s.lthLevel e v
    Runs (.lthBlkMatch e p b more) s e v
      (((x.setReg 14 (x.reg 14 + stepOf p)).setReg 15 (x.reg 15 + stepOf p)).retire (nextIp e v p 2 s) p (some (matchFlags s e v p)) none none) := by
  have hruns := runs_level (exec_lthBlkMatch e p b more s) h (blkForm_legal hk) _ none ((blkBody_once h3 more _ _ _).trans (elemMatch_start h14 h15))
  rw [bump_flag, bump_flag, bump_bump, step_envOf] at hruns
  exact hruns

/-- The flags of an element of SEEK: those of the register against the element. -/
def seekFlags (s : State) (e v : Nat) (p : List Byte) (r : Nat) : LthFlags :=
  compared (8 * opSize p) (((s.lthLevel e v).reg r).toNat % 2 ^ (8 * opSize p))
    (ofMem (p.contains 0xE2) (liveAt s e ((s.lthLevel e v).reg 15).toNat (opSize p)))

theorem elemSeek_start {len : Nat} (h15 : LiveClear s e ((s.lthLevel e v).reg 15).toNat (opSize p)) :
    elemSeek r (envOf e v p len s) (startOf e v p len s) =
      ((startOf e v p len s).updLevel e v fun y => (envOf e v p len s).bump 15 ((envOf e v p len s).flag (seekFlags s e v p r) y), .done none) := by
  have hflags := aluSub_compared (Nat.mod_lt ((s.lthLevel e v).reg r).toNat (Nat.two_pow_pos (8 * opSize p)))
    (ofMem_liveAt_lt (p.contains 0xE2) s e ((s.lthLevel e v).reg 15).toNat (opSize p))
  rw [elemSeek, elemLoad_start h15]
  dsimp only
  refine congrArg (fun u => (u, LthEnd.done none)) (updLevel_congr ?_)
  rw [← LthEnv.level, level_start, reg_past, seekFlags, ← hflags]
  rfl

theorem seek_runs {more : Nat} (hk : GoodK b true) (h3 : bitAt b.toNat 3 = false) (hm : opS m = 0) (h : Ready e v p blkAccepts 3 s)
    (h15 : LiveClear s e ((s.lthLevel e v).reg 15).toNat (opSize p)) :
    let x := s.lthLevel e v
    Runs (.lthBlkSeek e p b m more) s e v
      ((x.setReg 15 (x.reg 15 + stepOf p)).retire (nextIp e v p 3 s) p (some (seekFlags s e v p (opD m))) none none) := by
  have hruns := runs_level (exec_lthBlkSeek e p b m more s) h (blkFormM_legal hk hm) _ none ((blkBody_once h3 more _ _ _).trans (elemSeek_start h15))
  rw [bump_flag, LthEnv.bump, step_envOf] at hruns
  exact hruns

theorem gather_runs (hk : GoodK b false) (h3 : bitAt b.toNat 3 = false) (hm : opS m = 0) (h : Ready e v p blkAccepts 3 s)
    (h14 : LiveClear s e ((s.lthLevel e v).reg 14).toNat (opSize p)) :
    let x := s.lthLevel e v
    Runs (.lthBlkGather e p b m) s e v ((x.setReg 14 (x.reg 14 + stepOf p)).retire (nextIp e v p 3 s) p none none
      (some (opD m, BitVec.ofNat 32 (ofMem (p.contains 0xE2) (liveAt s e (x.reg 14).toNat (opSize p)))))) := by
  have hlegal : (if badK b false || bitAt b.toNat 3 then some 1 else if opS m = 0 then none else some 2) = none := by
    rw [h3, Bool.or_false, if_neg hk.not_bad, if_pos hm]
  have hruns := runs_level (exec_lthBlkGather e p b m s) h hlegal ((envOf e v p 3 s).bump 14)
    (some (opD m, BitVec.ofNat 32 (ofMem (p.contains 0xE2) (liveAt s e ((s.lthLevel e v).reg 14).toNat (opSize p))))) ?body
  case body =>
    dsimp only
    rw [elemGather, elemLoad_start h14]
    rfl
  rw [LthEnv.bump, step_envOf] at hruns
  exact hruns

end Sys2Proof.Machine
end

section
/-! SUPPORT. The loop of the block instructions of the Lathes over their elements (R398, R399): no element for a count of 0, SEEK that ends at its UNTIL,
and FILL whose elements lie one above the other. -/

namespace Sys2Proof.Machine

variable {i : Instr} {e v a n r j : Nat} {p : List Byte} {f : LthForm} {body : LthEnv → State → State × LthEnd} {m b : Byte} {k : LthEnv}
  {s t u : State} {x y : LthLevel} {bs : List Byte}

/-! ### The loop over elements (R398, R399) -/

theorem blkLoop_done (stop : LthLevel → Bool) (el : State → State × LthEnd) (n : Nat) (h : (k.level s).reg 13 = 0) :
    blkLoop k stop el n s = (s, .done none) := by
  cases n with
  | zero => exact if_pos h
  | succ n => exact if_pos h

/-- A higher level interrupts. -/
theorem blkLoop_interrupted (stop : LthLevel → Bool) (el : State → State × LthEnd) (h : (k.level s).reg 13 ≠ 0) :
    blkLoop k stop el 0 s = (jumpTo k k.ip s, .done none) := if_neg h

theorem blkLoop_element {stop : LthLevel → Bool} {el : State → State × LthEnd} {load : Option (Nat × Word)} (n : Nat) (h : (k.level s).reg 13 ≠ 0)
    (hel : el s = (t, .done load)) : blkLoop k stop el (n + 1) s =
      if stop (k.level (k.upd t LthLevel.counted)) then (k.upd t LthLevel.counted, .done none)
      else blkLoop k stop el n (k.upd t LthLevel.counted) := by
  rw [blkLoop, if_neg h, hel]
  rfl

/-- With RPT and a count of 0 there is no element. -/
theorem repeat_none {more : Nat} {el : LthEnv → State → State × LthEnd} (hi : exec i s = lthRow e p f (blkBody b more el) s)
    (h : Ready e v p f.accepts f.len s) (hb : f.bad = none) (h3 : bitAt b.toNat 3 = true) (h13 : (s.lthLevel e v).reg 13 = 0) :
    Runs i s e v ((s.lthLevel e v).retire (nextIp e v p f.len s) p none none none) := by
  refine runs_plain hi h hb ?_
  rw [blkBody_repeated h3]
  refine blkLoop_done _ _ _ ?_
  rw [level_start, reg_past, h13]

/-! ### SEEK repeated (R398, R399) -/

theorem AtLevel.level (h : AtLevel e v s t x) : t.lthLevel e v = x := by
  rw [State.lthLevel, h.1, Lathe.level_setLevel]

/-- An instruction whose body ends with nothing pending leaves its level as the body does. -/
theorem runs_settled (hi : exec i s = lthRow e p f body s) (h : Ready e v p f.accepts f.len s) (hb : f.bad = none)
    (hx : x.pend = none) (hu : AtLevel e v s u x) (hg : body (envOf e v p f.len s) (startOf e v p f.len s) = (u, .done none)) : Runs i s e v x := by
  have hruns := runs_at hi h hb hu hg
  rwa [land_settled hx] at hruns

/-- The level once an element of SEEK has set its flags and stepped g15. -/
def seekLevel (s : State) (e v : Nat) (p : List Byte) (r : Nat) : LthLevel :=
  let x := s.lthLevel e v
  (if p.contains 0xE4 then x else x.setFlags (seekFlags s e v p r)).setReg 15 (x.reg 15 + stepOf p)

theorem seekLevel_past (e v : Nat) (p : List Byte) (len : Nat) (s : State) (r ip : Nat) :
    (envOf e v p len s).bump 15 ((envOf e v p len s).flag (seekFlags s e v p r) ((s.lthLevel e v).past ip)) = (seekLevel s e v p r).past ip := by
  rw [LthEnv.bump, reg_flag, reg_past, step_envOf, LthEnv.flag, seekLevel, envOf]
  dsimp only
  cases p.contains 0xE4 <;> rfl

/-- SEEK with RPT after its first element: the loop ends or goes on. -/
theorem seek_element {more : Nat} (h3 : bitAt b.toNat 3 = true) (h13 : (s.lthLevel e v).reg 13 ≠ 0)
    (h15 : LiveClear s e ((s.lthLevel e v).reg 15).toNat (opSize p)) :
    ∃ t, AtLevel e v s t ((seekLevel s e v p r).counted.past (nextIp e v p 3 s)) ∧
      blkBody b more (elemSeek r) (envOf e v p 3 s) (startOf e v p 3 s) =
        if untilStop b (seekLevel s e v p r) then (t, .done none)
        else blkLoop (envOf e v p 3 s) (untilStop b) (elemSeek r (envOf e v p 3 s)) more t := by
  let g (y : LthLevel) := (envOf e v p 3 s).bump 15 ((envOf e v p 3 s).flag (seekFlags s e v p r) y)
  have hlevel := ((start_at e v p 3 s).step g).step LthLevel.counted
  have hx : (g ((s.lthLevel e v).past (nextIp e v p 3 s))).counted = (seekLevel s e v p r).counted.past (nextIp e v p 3 s) := by
    rw [← past_counted, ← seekLevel_past]
  have hat := hx ▸ hlevel
  refine ⟨_, hat, ?_⟩
  have hstop : untilStop b (seekLevel s e v p r) = untilStop b ((seekLevel s e v p r).counted.past (nextIp e v p 3 s)) :=
    untilStop_congr (counted_z _).symm
  rw [blkBody_repeated h3, blkLoop_element more (by rw [level_start, reg_past]; exact h13) (elemSeek_start h15), hstop, ← hat.level]
  rfl

theorem seek_stops {more : Nat} (hk : GoodK b true) (h3 : bitAt b.toNat 3 = true) (hm : opS m = 0) (h : Ready e v p blkAccepts 3 s)
    (h13 : (s.lthLevel e v).reg 13 ≠ 0) (h15 : LiveClear s e ((s.lthLevel e v).reg 15).toNat (opSize p))
    (hu : untilStop b (seekLevel s e v p (opD m)) = true) :
    Runs (.lthBlkSeek e p b m more) s e v { (seekLevel s e v p (opD m)).counted with ip := BitVec.ofNat 32 (nextIp e v p 3 s) } := by
  obtain ⟨t, hat, hbody⟩ := seek_element (r := opD m) (more := more) h3 h13 h15
  rw [if_pos hu] at hbody
  exact runs_settled (exec_lthBlkSeek e p b m more s) h (blkFormM_legal hk hm) (counted_pend _) hat hbody

theorem seek_interrupted (hk : GoodK b true) (h3 : bitAt b.toNat 3 = true) (hm : opS m = 0) (h : Ready e v p blkAccepts 3 s)
    (h13 : (s.lthLevel e v).reg 13 ≠ 0) (h15 : LiveClear s e ((s.lthLevel e v).reg 15).toNat (opSize p))
    (hu : untilStop b (seekLevel s e v p (opD m)) = false) (hrest : (seekLevel s e v p (opD m)).counted.reg 13 ≠ 0) :
    Runs (.lthBlkSeek e p b m 0) s e v { (seekLevel s e v p (opD m)).counted with ip := (s.lthLevel e v).ip } := by
  obtain ⟨t, hat, hbody⟩ := seek_element (r := opD m) (more := 0) h3 h13 h15
  rw [if_neg (Bool.eq_false_iff.mp hu), blkLoop_interrupted _ _ (by rw [LthEnv.level]; dsimp only [envOf]; rw [hat.level]; exact hrest)] at hbody
  have hip : ((seekLevel s e v p (opD m)).counted.past (nextIp e v p 3 s)).past (s.lthLevel e v).ip.toNat =
      { (seekLevel s e v p (opD m)).counted with ip := (s.lthLevel e v).ip } := by
    rw [LthLevel.past, BitVec.ofNat_toNat, BitVec.setWidth_eq]
    rfl
  rw [← hip]
  exact runs_settled (exec_lthBlkSeek e p b m 0 s) h (blkFormM_legal hk hm) (counted_pend _) (hat.step fun y => y.past (s.lthLevel e v).ip.toNat) hbody

/-! ### Octets stored one element after the other -/

/-- What of the live half of an engine is clear in `s` is clear in `u`. -/
def StillClear (e : Nat) (s u : State) : Prop :=
  (u.lathe e).live = (s.lathe e).live ∧ ∀ w, u.pool.ueWords.contains w = true → s.pool.ueWords.contains w = true

theorem StillClear.livePool (h : StillClear e s u) (a : Nat) : livePool u e a = livePool s e a := by
  rw [livePool_eq, livePool_eq, h.1]

theorem StillClear.clear (h : StillClear e s u) (hc : LiveClear s e a n) : LiveClear u e a n := by
  obtain ⟨hbegin, hend, hclear⟩ := hc
  refine ⟨hbegin, hend, fun c h0 h1 => Bool.eq_false_iff.mpr fun hw => ?_⟩
  rw [h.livePool] at h0 h1
  exact Bool.false_ne_true ((hclear c h0 h1).symm.trans (h.2 _ hw))

theorem StillClear.updLevel (h : StillClear e s u) (v : Nat) (g : LthLevel → LthLevel) : StillClear e s (u.updLevel e v g) := by
  refine ⟨?_, h.2⟩
  rw [(AtLevel.upd u e v g).1, Lathe.live_setLevel]
  exact h.1

theorem pool_afterStore (e a : Nat) (bs : List Byte) (u : State) : (afterStore e a bs u).pool = (u.poolStore (livePool u e a) bs).pool :=
  chkPool_touches _ _ _ _ .pool (by simp)

theorem StillClear.afterStore (h : StillClear e s u) (a : Nat) (bs : List Byte) : StillClear e s (afterStore e a bs u) := by
  obtain ⟨hlive, hwords⟩ := h
  refine ⟨(chkPool_live _ _ _ _ e).trans hlive, fun w hw => hwords w ?_⟩
  rw [pool_afterStore] at hw
  simp only [State.poolStore, List.contains_iff_mem, List.mem_filter] at hw
  exact List.contains_iff_mem.mpr hw.1

theorem LiveClear.sub {o : Nat} (hc : LiveClear s e a n) (h : o + j ≤ n) : LiveClear s e (a + o) j := by
  obtain ⟨hbegin, hend, hclear⟩ := hc
  refine ⟨by omega, by omega, fun c h0 h1 => hclear c ?_ ?_⟩
  · rw [livePool_add hbegin] at h0
    omega
  · rw [livePool_add hbegin] at h1
    omega

/-- Octets stored just above what is stored already. -/
theorem AtStore.above {cs : List Byte} (hu : AtStore e v s u x (livePool s e a) bs) (hs : StillClear e s u)
    (hc : LiveClear s e (a + bs.length) cs.length) (h0 : 0x10000000 ≤ a) :
    AtStore e v s (afterStore e (a + bs.length) cs u) x (livePool s e a) (bs ++ cs) := by
  obtain ⟨hthis, hother, hbytes, hframe⟩ := hu
  obtain ⟨-, -, hclear⟩ := hs.clear hc
  have hpool := pool_afterStore e (a + bs.length) cs u
  rw [hs.livePool, livePool_add h0] at hclear hpool
  refine ⟨(chkPool_level _ _ _ _ _ _).trans hthis, fun d w hw hd => (chkPool_level _ _ _ _ _ _).trans (hother d w hw hd), fun c => ?_, ?_⟩
  · rw [State.poolByte, hpool, ← State.poolByte, State.poolByte_poolStore u _ _ _ hclear, hbytes, List.length_append]
    by_cases hlow : c < livePool s e a + bs.length
    · rw [if_neg (by omega)]
      by_cases hin : livePool s e a ≤ c
      · rw [if_pos ⟨hin, hlow⟩, if_pos (by omega), List.getD_append _ _ _ _ (by omega)]
      · rw [if_neg (by omega), if_neg (by omega)]
    · rw [if_neg (c := livePool s e a ≤ c ∧ _) (by omega)]
      by_cases hin : c < livePool s e a + bs.length + cs.length
      · rw [if_pos (by omega), if_pos (by omega), List.getD_append_right _ _ _ _ (by omega), Nat.sub_sub]
      · rw [if_neg (by omega), if_neg (by omega)]
  · refine hframe.trans (Touches.trans (t := u.poolStore (livePool u e (a + bs.length)) cs) ?_ ((chkPool_touches _ _ _ _).mono (by simp)))
    exact (State.poolStore_keeps _ _ _).touches _ (by decide)

/-- Octets repeated. -/
def repeated (j : Nat) (bs : List Byte) : List Byte := (List.replicate j bs).flatten

theorem length_repeated (j : Nat) (bs : List Byte) : (repeated j bs).length = j * bs.length := by
  simp [repeated]

theorem repeated_succ (j : Nat) (bs : List Byte) : repeated (j + 1) bs = repeated j bs ++ bs := by
  simp [repeated, List.replicate_succ']

theorem getD_repeated {c : Nat} (h : c < j * bs.length) : (repeated j bs).getD c 0 = bs.getD (c % bs.length) 0 := by
  induction j with
  | zero => omega
  | succ j ih =>
    rw [repeated_succ]
    rw [Nat.succ_mul] at h
    by_cases hlow : c < j * bs.length
    · rw [List.getD_append _ _ _ _ (by rwa [length_repeated]), ih hlow]
    · obtain ⟨o, rfl⟩ := Nat.exists_eq_add_of_le (Nat.not_lt.mp hlow)
      rw [List.getD_append_right _ _ _ _ (by rw [length_repeated]; omega), length_repeated, Nat.add_sub_cancel_left, Nat.mul_add_mod',
        Nat.mod_eq_of_lt (by omega)]

/-! ### FILL repeated (R398, R399) -/

/-- The level `x` once `j` elements of `n` octets have been filled upward. -/
structure Filled (n j : Nat) (x y : LthLevel) : Prop where
  pend : y.pend = none
  count : y.reg 13 = x.reg 13 - BitVec.ofNat 32 j
  pointer : y.reg 15 = x.reg 15 + BitVec.ofNat 32 (j * n)
  others : ∀ r, r ≠ 13 → r ≠ 15 → y.reg r = x.reg r
  flags : y.flags = x.flags
  ip : y.ip = x.ip

theorem Filled.start (h : x.pend = none) : Filled n 0 x x where
  pend := h
  count := by simp
  pointer := by simp
  others _ _ _ := rfl
  flags := rfl
  ip := rfl

theorem Filled.element (h : Filled n j x y) (hstep : k.step = BitVec.ofNat 32 n) : Filled n (j + 1) x (k.bump 15 y).counted := by
  have hcounted : (k.bump 15 y).counted = (y.setReg 15 (y.reg 15 + k.step)).setReg 13 (y.reg 13 - 1) := by
    rw [LthLevel.counted, LthEnv.bump, LthLevel.reg_setReg, if_neg (by decide)]
    exact LthLevel.land_of_none h.pend
  rw [hcounted]
  refine ⟨h.pend, ?_, ?_, fun r h13 h15 => ?_, h.flags, h.ip⟩
  · rw [LthLevel.reg_setReg, if_pos rfl, h.count, BitVec.ofNat_add]
    bv_omega
  · rw [LthLevel.reg_setReg, if_neg (by decide), LthLevel.reg_setReg, if_pos rfl, h.pointer, hstep, Nat.succ_mul, BitVec.ofNat_add, BitVec.add_assoc]
  · rw [LthLevel.reg_setReg, if_neg h13, LthLevel.reg_setReg, if_neg h15, h.others r h13 h15]

/-- How many elements are left. -/
theorem Filled.count_zero (h : Filled n j x y) (hj : j ≤ (x.reg 13).toNat) : y.reg 13 = 0 ↔ j = (x.reg 13).toNat := by
  have hlt := (x.reg 13).isLt
  rw [h.count]
  constructor
  · intro h0
    have hnat : (x.reg 13 - BitVec.ofNat 32 j).toNat = 0 := by rw [h0]; rfl
    rw [BitVec.toNat_sub, BitVec.toNat_ofNat] at hnat
    omega
  · intro hcount
    rw [hcount, BitVec.ofNat_toNat, BitVec.setWidth_eq, BitVec.sub_self]
    rfl

theorem Filled.pointer_toNat (h : Filled n j x y) (hlt : (x.reg 15).toNat + j * n < 2 ^ 32) : (y.reg 15).toNat = (x.reg 15).toNat + j * n := by
  rw [h.pointer, BitVec.toNat_add, BitVec.toNat_ofNat]
  omega

/-- What a repeated FILL of register `r` needs of its level `x`: it goes upward from beyond the environment block, and no element changes `r`. -/
structure FillsUp (k : LthEnv) (x : LthLevel) (r : Nat) : Prop where
  level : k.v < 3
  size : 0 < k.size
  step : k.step = BitVec.ofNat 32 k.size
  notCount : r ≠ 13
  notPointer : r ≠ 15
  start : 0x10002000 ≤ (x.reg 15).toNat

/-- The octets of an element. -/
def fillOctets (k : LthEnv) (x : LthLevel) (r : Nat) : List Byte := toMem k.be k.size (x.reg r).toNat

theorem length_fillOctets (k : LthEnv) (x : LthLevel) (r : Nat) : (fillOctets k x r).length = k.size := length_toMem _ _ _

/-- Where the loop of FILL stands after `j` elements. -/
structure FillAt (k : LthEnv) (s : State) (x : LthLevel) (r j : Nat) (u : State) (y : LthLevel) : Prop where
  filled : Filled k.size j x y
  clear : StillClear k.e s u
  stored : AtStore k.e k.v s u y (livePool s k.e (x.reg 15).toNat) (repeated j (fillOctets k x r))

theorem FillAt.level (h : FillAt k s x r j u y) : k.level u = y := h.stored.1

/-- One element more. -/
theorem FillAt.element (hf : FillsUp k x r) (h : FillAt k s x r j u y) (hc : LiveClear s k.e (x.reg 15).toNat ((j + 1) * k.size)) :
    ∃ t, elemFill r k u = (t, .done none) ∧ FillAt k s x r (j + 1) (k.upd t LthLevel.counted) (k.bump 15 y).counted := by
  obtain ⟨hfilled, hclear, hstored⟩ := id h
  have hroom := hc.sub (Nat.le_of_eq (Nat.succ_mul j k.size).symm)
  have hpointer : (y.reg 15).toNat = (x.reg 15).toNat + j * k.size := hfilled.pointer_toNat (by have := hroom.2.1; omega)
  have hstart := hf.start
  have hstore := elemStore_clear (k := k) (u := u) (bs := fillOctets k x r) (g := k.bump 15) (by rw [h.level, hpointer]; omega)
    (by rw [h.level, hpointer, length_fillOctets]; exact hclear.clear hroom) (by rw [← List.length_pos_iff, length_fillOctets]; exact hf.size)
  have hlen : (repeated j (fillOctets k x r)).length = j * k.size := by rw [length_repeated, length_fillOctets]
  have habove := hstored.above (cs := fillOctets k x r) hclear (by rw [hlen, length_fillOctets]; exact hroom) (by omega)
  rw [hlen, ← repeated_succ] at habove
  rw [h.level, hpointer] at hstore
  refine ⟨_, ?_, hfilled.element hf.step, ((hclear.afterStore _ _).updLevel _ _).updLevel _ _, (habove.step hf.level _).step hf.level _⟩
  rw [elemFill, h.level, hfilled.others r hf.notCount hf.notPointer]
  exact hstore

/-- The loop of FILL after `j` elements, of which `left` more may run before a higher level interrupts. -/
theorem fill_loop {stop : LthLevel → Bool} (hstop : ∀ y, stop y = false) (hf : FillsUp k x r) (left : Nat) :
    ∀ {j : Nat} {u : State} {y : LthLevel}, j ≤ (x.reg 13).toNat → FillAt k s x r j u y →
    LiveClear s k.e (x.reg 15).toNat (min (x.reg 13).toNat (j + left) * k.size) →
    ∃ t z, blkLoop k stop (elemFill r k) left u = (t, .done none) ∧ Filled k.size (min (x.reg 13).toNat (j + left)) x z ∧
      AtStore k.e k.v s t (if (x.reg 13).toNat ≤ j + left then z else z.past k.ip) (livePool s k.e (x.reg 15).toNat)
        (repeated (min (x.reg 13).toNat (j + left)) (fillOctets k x r)) := by
  induction left with
  | zero =>
    intro j u y hj h hc
    rw [Nat.add_zero, Nat.min_eq_right hj]
    by_cases hdone : j = (x.reg 13).toNat
    · refine ⟨u, y, blkLoop_done _ _ _ (by rw [h.level]; exact (h.filled.count_zero hj).mpr hdone), h.filled, ?_⟩
      rw [if_pos (Nat.le_of_eq hdone.symm)]
      exact h.stored
    · refine ⟨_, y, blkLoop_interrupted _ _ (by rw [h.level]; exact mt (h.filled.count_zero hj).mp hdone), h.filled, ?_⟩
      rw [if_neg (by omega)]
      exact h.stored.step hf.level fun z => z.past k.ip
  | succ left ih =>
    intro j u y hj h hc
    by_cases hdone : j = (x.reg 13).toNat
    · rw [Nat.min_eq_left (by omega), ← hdone]
      refine ⟨u, y, blkLoop_done _ _ _ (by rw [h.level]; exact (h.filled.count_zero hj).mpr hdone), h.filled, ?_⟩
      rw [if_pos (by omega)]
      exact h.stored
    · rw [show j + (left + 1) = j + 1 + left by omega] at hc ⊢
      have hone : 0 + (j + 1) * k.size ≤ min (x.reg 13).toNat (j + 1 + left) * k.size := by
        rw [Nat.zero_add]
        exact Nat.mul_le_mul_right _ (by omega)
      obtain ⟨t, hel, hnext⟩ := h.element hf (hc.sub (o := 0) hone)
      rw [blkLoop_element left (by rw [h.level]; exact mt (h.filled.count_zero hj).mp hdone) hel, hstop, if_neg Bool.false_ne_true]
      exact ih (by omega) hnext hc

/-- An instruction whose body ends with a store and nothing pending leaves its level as the body does. -/
theorem stores_settled (hi : exec i s = lthRow e p f body s) (h : Ready e v p f.accepts f.len s) (hb : f.bad = none) (hx : x.pend = none)
    (hu : AtStore e v s u x a bs) (hg : body (envOf e v p f.len s) (startOf e v p f.len s) = (u, .done none)) : Stores i s e v x a bs := by
  have hstores := stores_at hi h hb hu hg
  rwa [land_settled hx] at hstores

theorem StillClear.start (e v : Nat) (p : List Byte) (len : Nat) (s : State) : StillClear e s (startOf e v p len s) :=
  ⟨live_start e v p len s, fun w hw => by rwa [pool_start] at hw⟩

/-- What a level is once its loop has ended, or once a higher level has interrupted it: only IP tells the two apart. -/
theorem interrupted_level (q : Prop) [Decidable q] (z : LthLevel) (ip : Nat) :
    (∀ r, (if q then z else z.past ip).reg r = z.reg r) ∧ (if q then z else z.past ip).flags = z.flags ∧
      (if q then z else z.past ip).ip = if q then z.ip else BitVec.ofNat 32 ip := by
  split <;> exact ⟨fun _ => rfl, rfl, rfl⟩

/-- FILL with RPT: as many elements as g13 counts, or as run before a higher level interrupts. -/
theorem fill_repeated {more : Nat} (hk : GoodK b false) (h3 : bitAt b.toNat 3 = true) (hm : opS m = 0) (h : Ready e v p blkAccepts 3 s)
    (hpend : (s.lthLevel e v).pend = none) (hdn : p.contains 0xE3 = false) (h13 : opD m ≠ 13) (h15 : opD m ≠ 15)
    (h0 : 0x10002000 ≤ ((s.lthLevel e v).reg 15).toNat)
    (hc : LiveClear s e ((s.lthLevel e v).reg 15).toNat (min ((s.lthLevel e v).reg 13).toNat (more + 1) * opSize p)) :
    let x := s.lthLevel e v
    let count := min (x.reg 13).toNat (more + 1)
    ∃ z, Filled (opSize p) count (x.past (nextIp e v p 3 s)) z ∧
      Stores (.lthBlkFill e p b m more) s e v (if (x.reg 13).toNat ≤ more + 1 then z else z.past x.ip.toNat) (livePool s e (x.reg 15).toNat)
        (repeated count (toMem (p.contains 0xE2) (opSize p) (x.reg (opD m)).toNat)) := by
  intro x count
  have hf : FillsUp (envOf e v p 3 s) (x.past (nextIp e v p 3 s)) (opD m) := ⟨h.lt3, opSize_pos p, by rw [step_envOf, stepOf, hdn]; rfl, h13, h15, h0⟩
  have hloop := fill_loop hk.no_until hf (more + 1) (Nat.zero_le _)
    ⟨.start hpend, .start e v p 3 s, (start_at e v p 3 s).atStore h.lt3 _⟩ (by rw [Nat.zero_add]; exact hc)
  rw [Nat.zero_add] at hloop
  obtain ⟨t, z, hbody, hz, hstore⟩ := hloop
  refine ⟨z, hz, stores_settled (exec_lthBlkFill e p b m more s) h (blkFormM_legal hk hm) ?_ hstore ((blkBody_repeated h3 _ _ _ _).trans hbody)⟩
  split <;> exact hz.pend

/-! ### Octets that fail decoding, and a refused store (R356, R385, R398) -/

theorem blk_illegal {more : Nat} (hx : (s.lthLevel e v).xen = true) (h : Ready e v p blkAccepts 3 s) :
    (¬GoodK b false → ∀ i ∈ [Instr.lthBlkCopy e p b more, .lthBlkFill e p b m more, .lthBlkGather e p b m], Illegal i s e v p 1) ∧
    (¬GoodK b true → ∀ i ∈ [Instr.lthBlkMatch e p b more, .lthBlkSeek e p b m more], Illegal i s e v p 1) ∧
    (GoodK b false → bitAt b.toNat 3 = true → Illegal (.lthBlkGather e p b m) s e v p 1) ∧
    (GoodK b false → opS m ≠ 0 → Illegal (.lthBlkFill e p b m more) s e v p 2) ∧
    (GoodK b true → opS m ≠ 0 → Illegal (.lthBlkSeek e p b m more) s e v p 2) := by
  simp only [List.forall_mem_cons, List.not_mem_nil, false_imp_iff, implies_true, and_true]
  refine ⟨fun hk => ⟨?_, ?_, ?_⟩, fun hk => ⟨?_, ?_⟩, fun hk h3 => ?_, fun hk hm => ?_, fun hk hm => ?_⟩
  · exact illegal_of_bad (exec_lthBlkCopy e p b more s) h hx (if_pos (badK_of_not_good hk)) (by decide)
  · exact illegal_of_bad (exec_lthBlkFill e p b m more s) h hx (if_pos (badK_of_not_good hk)) (by decide)
  · exact illegal_of_bad (exec_lthBlkGather e p b m s) h hx (if_pos (by rw [badK_of_not_good hk, Bool.true_or])) (by decide)
  · exact illegal_of_bad (exec_lthBlkMatch e p b more s) h hx (if_pos (badK_of_not_good hk)) (by decide)
  · exact illegal_of_bad (exec_lthBlkSeek e p b m more s) h hx (if_pos (badK_of_not_good hk)) (by decide)
  · exact illegal_of_bad (exec_lthBlkGather e p b m s) h hx (if_pos (by rw [h3, Bool.or_true])) (by decide)
  · exact illegal_of_bad (exec_lthBlkFill e p b m more s) h hx ((if_neg hk.not_bad).trans (if_neg hm)) (by decide)
  · exact illegal_of_bad (exec_lthBlkSeek e p b m more s) h hx ((if_neg hk.not_bad).trans (if_neg hm)) (by decide)

/-- FILL whose store is refused: exception BUS, and the access is counted once. -/
theorem fill_refused {more : Nat} (hx : (s.lthLevel e v).xen = true) (hk : GoodK b false) (h3 : bitAt b.toNat 3 = false) (hm : opS m = 0)
    (h : Ready e v p blkAccepts 3 s) (hr : regionOf ((s.lthLevel e v).reg 15).toNat (opSize p) = .none) :
    Does (.lthBlkFill e p b m more) s (fun t => LatheBecomes e s t { (s.lathe e).excepted v 3 0 true (s.lthLevel e v).ip.toNat
      ((s.lthLevel e v).reg 15).toNat (nextIp e v p 3 s) with accessFault := wrap 32 ((s.lathe e).accessFault + 1) }) := by
  have hbecomes := (start_at e v p 3 s).becomes.accessFault
  rw [Lathe.refused_setLevel] at hbecomes
  have hdoes := does_of_fault (exec_lthBlkFill e p b m more s) h (blkFormM_legal hk hm) hbecomes (by rw [Lathe.level_setLevel]; exact hx) ?body
    (cause := 3) (data := ((s.lthLevel e v).reg 15).toNat) (trap := 0) (blk := true)
  case body =>
    have hstore := (accessFails_of_none (e := e) v (startOf e v p 3 s) hr).store
      (toMem (p.contains 0xE2) (opSize p) ((s.lthLevel e v).reg (opD m)).toNat) (length_toMem _ _ _)
    rw [blkBody_once h3, elemFill, elemStore]
    dsimp only [blkFormM]
    rw [level_start, reg_past, reg_past]
    dsimp only [envOf]
    rw [hstore]
  rw [← Lathe.refused_excepted_eq]
  obtain ⟨t, ht, hl⟩ := hdoes
  exact ⟨t, ht, by rw [← excepted_start]; exact hl⟩

/-- Settles O59: without RPT an element is its loads, its comparison or its store; with RPT the loop's lemmas say what each element and the end of
the loop leave, and FILL stores its elements one above the other. -/
theorem latheBlockInstructionsMoveAndCompare : Obligations.LatheBlockInstructionsMoveAndCompare := by
  unfold Obligations.LatheBlockInstructionsMoveAndCompare
  refine ⟨fun e v p b more s hk h3 h => copy_stores hk h3 h, fun e v p b m more s hk h3 hm h => fill_stores hk h3 hm h,
    fun e v p b more s hk h3 h => match_runs hk h3 h, fun e v p b m more s hk h3 hm h => seek_runs hk h3 hm h,
    fun e v p b m s hk h3 hm h => gather_runs hk h3 hm h, fun e v p b m more s h3 h13 hm => ?none, fun e v p b m more s hk h3 h13 hm h => ?seek,
    fun e v p b m more k s hk h3 hm h => ?fill, fun e v p b m more s hx h => blk_illegal hx h,
    fun e v p b m more s hx hk h3 hm h hr => fill_refused hx hk h3 hm h hr⟩
  case none =>
    exact ⟨fun hk h => repeat_none (exec_lthBlkCopy e p b more s) h (blkForm_legal hk) h3 h13,
      fun hk h => repeat_none (exec_lthBlkFill e p b m more s) h (blkFormM_legal hk hm) h3 h13,
      fun hk h => repeat_none (exec_lthBlkMatch e p b more s) h (blkForm_legal hk) h3 h13,
      fun hk h => repeat_none (exec_lthBlkSeek e p b m more s) h (blkFormM_legal hk hm) h3 h13⟩
  case seek =>
    intro x fl y h15
    refine ⟨fun hu hz => seek_stops hk h3 hm h h13 h15 ((untilStop_z hu _).trans hz),
      fun hu hz => seek_stops hk h3 hm h h13 h15 ((untilStop_nz hu _).trans (congrArg _ hz)),
      fun hu hrest => seek_interrupted hk h3 hm h h13 h15 ?_ hrest⟩
    rcases hu with hu | ⟨hu, hz⟩ | ⟨hu, hz⟩
    · exact untilStop_none hu _
    · exact (untilStop_z hu _).trans hz
    · exact (untilStop_nz hu _).trans (congrArg _ hz)
  case fill =>
    intro x n a hpend hdn h13 h15 hcount h0 hc
    subst hcount
    obtain ⟨z, hz, t, ht, hlevel, hother, hbytes, hframe⟩ := fill_repeated (more := more) hk h3 hm h hpend hdn h13 h15 h0 hc
    obtain ⟨hreg, hflags, hip⟩ := interrupted_level ((x.reg 13).toNat ≤ more + 1) z x.ip.toNat
    rw [← hlevel] at hreg hflags hip
    refine ⟨t, ht, (hreg 13).trans hz.count, (hreg 15).trans hz.pointer, fun r hr13 hr15 => (hreg r).trans (hz.others r hr13 hr15),
      hflags.trans hz.flags, ?_, fun c => ?_, hother, hframe⟩
    · rw [hip, hz.ip]
      split <;> rfl
    · rw [hbytes, length_repeated, length_toMem]
      split
      next hin => rw [getD_repeated (by rw [length_toMem]; omega), length_toMem]
      next => rfl

end Sys2Proof.Machine
end

section
/-! SUPPORT. The Chisel engines and their groups (R403, R409 to R416): what the rest of the device reads after one engine is replaced, what a
fold over the engines of a group leaves, and how an instruction starts (log entry 13). -/

namespace Sys2Proof.Machine

variable {s t : State} {r : ChsRun} {k j : Nat}

/-! ### Engines of a group -/

theorem ChsGroup.engine_setEngine (c : ChsGroup) (e : Nat) (r : ChsRun) (j : Nat) :
    (c.setEngine e r).engine j = if j = e then r else c.engine j := Table.get_set _ _ _ _ _

/-- `d` is `c` with the engines below 8 passed through `f`, and nothing else of the group changed. -/
structure ChsGroup.Maps (f : Nat → ChsRun → ChsRun) (c d : ChsGroup) : Prop where
  engine : ∀ e, e < 8 → d.engine e = f e (c.engine e)
  rest : d = { c with engines := d.engines }

/-- A fold over the engines of a group that in its turn passes each through `f` or finds it as `f` leaves it. -/
theorem ChsGroup.foldl_maps {F : ChsGroup → Nat → ChsGroup} {f : Nat → ChsRun → ChsRun}
    (hF : ∀ d e, F d e = d.setEngine e (f e (d.engine e)) ∨ (F d e = d ∧ f e (d.engine e) = d.engine e)) (c : ChsGroup) :
    c.Maps f ((List.range 8).foldl F c) := by
  have hstep : ∀ d e j, (F d e).engine j = if j = e then f e (d.engine e) else d.engine j := by
    intro d e j
    rcases hF d e with hset | ⟨hsame, hfix⟩
    · rw [hset, ChsGroup.engine_setEngine]
    · rw [hsame, hfix]
      split
      next he => rw [he]
      next => rfl
  have hturn : ∀ n j, ((List.range n).foldl F c).engine j = if j < n then f j (c.engine j) else c.engine j := by
    intro n j
    induction n with
    | zero => rfl
    | succ n ih =>
      rw [List.range_succ, List.foldl_append, List.foldl_cons, List.foldl_nil, hstep]
      by_cases hj : j = n
      · subst hj
        rw [if_pos rfl, ih, if_neg (Nat.lt_irrefl j), if_pos (Nat.lt_succ_self j)]
      · rw [if_neg hj, ih]
        simp only [Nat.lt_succ_iff_lt_or_eq, hj, or_false]
  refine ⟨fun e he => by rw [hturn, if_pos he], ?_⟩
  refine List.foldlRecOn (motive := fun d => d = { c with engines := d.engines }) _ F (b := c) rfl fun d hd e _ => ?_
  rcases hF d e with hset | ⟨hsame, -⟩
  · rw [hset, hd]
    rfl
  · rw [hsame]
    exact hd

/-! ### Engines of the device -/

theorem State.setEngine_eq (s : State) (k : Nat) (r : ChsRun) :
    s.setEngine k r = s.setChisel (k / 8) ((s.chisel (k / 8)).setEngine (k % 8) r) := rfl

theorem State.chisel_of_chisels (h : t.chisels = s.chisels) (g : Nat) : t.chisel g = s.chisel g := congrArg (fun l => Table.get ({} : ChsGroup) l g) h

theorem State.chsEngine_of_chisels (h : t.chisels = s.chisels) (k : Nat) : t.chsEngine k = s.chsEngine k := by
  unfold State.chsEngine
  rw [State.chisel_of_chisels h]

/-- An engine after its group is replaced, or another. -/
theorem State.chsEngine_setChisel (s : State) (g : Nat) (c : ChsGroup) (k : Nat) :
    (s.setChisel g c).chsEngine k = if k / 8 = g then c.engine (k % 8) else s.chsEngine k := by
  unfold State.chsEngine
  split
  next hg => rw [hg, State.chisel_setChisel]
  next hg => rw [State.chisel_setChisel_other _ _ hg]

@[simp] theorem State.chsEngine_setEngine (s : State) (k : Nat) (r : ChsRun) : (s.setEngine k r).chsEngine k = r := by
  rw [State.setEngine_eq, State.chsEngine_setChisel, if_pos rfl, ChsGroup.engine_setEngine, if_pos rfl]

theorem State.chsEngine_setEngine_other (s : State) (r : ChsRun) (h : j ≠ k) : (s.setEngine k r).chsEngine j = s.chsEngine j := by
  rw [State.setEngine_eq, State.chsEngine_setChisel]
  split
  next hg =>
    rw [ChsGroup.engine_setEngine, if_neg (by omega), ← hg]
    rfl
  next => rfl

theorem State.chisel_setEngine (s : State) (k : Nat) (r : ChsRun) :
    (s.setEngine k r).chisel (k / 8) = (s.chisel (k / 8)).setEngine (k % 8) r := State.chisel_setChisel _ _ _

/-- A step on the groups alone. -/
theorem Keeps.touches_chisels (h : Keeps 32768 s t) : Touches [.chisels] s t := h.touches _ (by decide)

theorem State.setEngine_touches (s : State) (k : Nat) (r : ChsRun) : Touches [.chisels] s (s.setEngine k r) :=
  (State.setEngine_keeps s k r).touches_chisels

theorem State.setChisel_touches (s : State) (g : Nat) (c : ChsGroup) : Touches [.chisels] s (s.setChisel g c) :=
  (State.setChisel_keeps s g c).touches_chisels

/-! ### The rows -/

theorem exec_chsPause (k n : Nat) (s : State) : exec (.chsPause k n) s = execChsPause k n s := rfl

theorem exec_chsPins (k v m tgt : Nat) (s : State) : exec (.chsPins k v m tgt) s = execChsPins k v m tgt s := rfl

theorem exec_chsEmit (k n w : Nat) (duplex : Bool) (ins : List Bool) (s : State) :
    exec (.chsEmit k n w duplex ins) s = execChsEmit k n w duplex ins s := rfl

theorem exec_chsSample (k n w : Nat) (ins : List Bool) (s : State) : exec (.chsSample k n w ins) s = execChsSample k n w ins s := rfl

theorem exec_chsBranch (k cond w target : Nat) (lvl : Bool) (s : State) :
    exec (.chsBranch k cond w target lvl) s = execChsBranch k cond w target lvl s := rfl

theorem exec_chsAwait (k : Nat) (level : Bool) (src idx : Nat) (lvl : Bool) (s : State) :
    exec (.chsAwait k level src idx lvl) s = execChsAwait k level src idx lvl s := rfl

theorem exec_chsCopy (k dst src op lvls : Nat) (s : State) : exec (.chsCopy k dst src op lvls) s = execChsCopy k dst src op lvls s := rfl

theorem exec_chsData (k : Nat) (fetch whole : Bool) (s : State) : exec (.chsData k fetch whole) s = execChsData k fetch whole s := rfl

theorem exec_chsLoad (k : Nat) (one : Bool) (value : Nat) (s : State) : exec (.chsLoad k one value) s = execChsLoad k one value s := rfl

theorem exec_chsSignal (k op idx : Nat) (s : State) : exec (.chsSignal k op idx) s = execChsSignal k op idx s := rfl

/-! ### How an instruction starts (R409, R412; log entry 13) -/

variable {legal : ChsRun → Bool} {f : ChsRun → State → State} {i : Instr} {P : State → Prop}

theorem ChsReady.free (h : ChsReady k s) : (s.chsEngine k).hold = .none := by
  obtain ⟨-, -, hhold, -⟩ := h
  exact hhold

theorem does_of_ready (hi : exec i s = chsStep k s legal f) (h : ChsReady k s) (hl : legal (s.chsEngine k) = true)
    (hP : P (f (s.chsEngine k) s)) : Does i s P := by
  obtain ⟨hk, hrun, hhold, hpc⟩ := h
  refine does_of_onUnit (hi.trans rfl) hk ?_
  rw [if_neg (by simp [hrun, hhold]), if_neg (by simp [hl]; omega)]
  exact hP

/-- An instruction that replaces its engine and nothing else. -/
theorem becomes_of_ready {u : ChsRun} (hi : exec i s = chsStep k s legal f) (h : ChsReady k s) (hl : legal (s.chsEngine k) = true)
    (hf : f (s.chsEngine k) s = s.setEngine k u) : EngineBecomes i k s u := does_of_ready hi h hl hf

/-- An engine that does not run or that holds executes nothing. -/
theorem does_of_resting (hi : exec i s = chsStep k s legal f) (hk : k < 64) (h : (s.chsEngine k).run = false ∨ (s.chsEngine k).hold ≠ .none) :
    Does i s (fun t => t = s) := by
  refine does_of_onUnit (hi.trans rfl) hk (if_pos ?_)
  rcases h with h | h
  · simp [h]
  · exact .inr h

theorem does_of_illegal (hi : exec i s = chsStep k s legal f) (hk : k < 64) (hrun : (s.chsEngine k).run = true)
    (hhold : (s.chsEngine k).hold = .none) (h : 24 ≤ (s.chsEngine k).pc ∨ legal (s.chsEngine k) = false) (hP : P (chsFault k s)) : Does i s P := by
  refine does_of_onUnit (hi.trans rfl) hk ?_
  rw [if_neg (by simp [hrun, hhold]), if_pos (by simpa [Nat.lt_iff_add_one_le] using h)]
  exact hP

/-- An engine that holds for nothing goes on to the next word by its PC alone. -/
theorem ChsRun.next_of_free (h : r.hold = .none) : r.next = { r with pc := r.pc + 1 } := by
  unfold ChsRun.next
  rw [← h]

end Sys2Proof.Machine
end

section
/-! SUPPORT. The Chisel instructions on counters, pins, flags and the PC (R409, R410, R412, R413): values taken under a mask, what a branch does to
its counter, and what a sync flag does to the engines that hold on it. -/

namespace Sys2Proof.Machine

variable {s : State} {r : ChsRun} {k g j f w idx target cond : Nat} {level lvl : Bool}

/-! ### Values under a mask (R409) -/

theorem takeBits_mod_two (x v m : Nat) : takeBits x v m % 2 = if m % 2 = 1 then v % 2 else x % 2 := by
  have hx := Nat.and_mod_two_eq_one (a := x) (b := m)
  have hv := Nat.and_mod_two_eq_one (a := v) (b := m)
  have hle : x &&& m ≤ x := Nat.and_le_left
  unfold takeBits
  split <;> omega

theorem takeBits_div_two (x v m : Nat) : takeBits x v m / 2 = takeBits (x / 2) (v / 2) (m / 2) := by
  have hx := Nat.and_mod_two_eq_one (a := x) (b := m)
  have hv := Nat.and_mod_two_eq_one (a := v) (b := m)
  have hle : x &&& m ≤ x := Nat.and_le_left
  simp only [takeBits, ← Nat.and_div_two]
  -- Where the low bits of both terms are 1, the one subtracted from `x` was 1 too, so nothing is carried.
  omega

theorem bitAt_zero (x : Nat) : bitAt x 0 = (x % 2 == 1) := by
  rw [bitAt, Nat.pow_zero, Nat.div_one]

theorem bitAt_succ (x b : Nat) : bitAt x (b + 1) = bitAt (x / 2) b := by
  rw [bitAt, bitAt, Nat.div_div_eq_div_mul, Nat.pow_succ']

theorem bitAt_takeBits (x v m b : Nat) : bitAt (takeBits x v m) b = if bitAt m b then bitAt v b else bitAt x b := by
  induction b generalizing x v m with
  | zero =>
    simp only [bitAt_zero, takeBits_mod_two, beq_iff_eq]
    split <;> rfl
  | succ b ih => simp only [bitAt_succ, takeBits_div_two, ih]

/-! ### Branches (R410) -/

theorem countDown_eq (c : Nat) : countDown c = (c - 1, decide (2 ≤ c)) := by
  unfold countDown
  split
  next h => rw [h]; rfl
  next h => rw [Prod.mk.injEq]; exact ⟨rfl, by rw [Bool.eq_iff_iff]; simp; omega⟩

/-- A branch whose condition is `p` and leaves the engine as `x`. -/
theorem branch_becomes {x : ChsRun} {p : Prop} [Decidable p] (h : ChsReady k s) (ht : target < 24) (hc : cond < 11)
    (hw : cond = 3 ∨ cond = 4 → bitAt (s.chsEngine k).act.wValid w = true) (hx : (s.chsEngine k).condition cond lvl = (x, decide p))
    (hfree : x.hold = .none) : EngineBecomes (.chsBranch k cond w target lvl) k s { x with pc := if p then target else x.pc + 1 } := by
  refine becomes_of_ready (exec_chsBranch k cond w target lvl s) h ?legal ?_
  case legal =>
    by_cases h34 : cond = 3 ∨ cond = 4
    · simp [hc, ht, hw h34]
    · simp only [not_or] at h34
      simp [hc, ht, h34]
  · simp only [hx, decide_eq_true_eq, ChsRun.next_of_free hfree]
    split <;> rfl

/-! ### Counters loaded (R409) -/

theorem load_becomes {one : Bool} {v u : Nat} (h : ChsReady k s) (hv : v < 2048)
    (hu : (if v = 0x7FF then field (s.chsEngine k).cfg.reload (if one then 16 else 0) 16 else v) = u) :
    EngineBecomes (.chsLoad k one v) k s (if one then { s.chsEngine k with c1 := u, pc := (s.chsEngine k).pc + 1 }
      else { s.chsEngine k with c0 := u, pc := (s.chsEngine k).pc + 1 }) := by
  refine becomes_of_ready (exec_chsLoad k one v s) h (decide_eq_true hv) ?_
  simp only [hu]
  cases one
  · exact congrArg _ (ChsRun.next_of_free h.free)
  · exact congrArg _ (ChsRun.next_of_free h.free)

/-! ### Waits for a pin (R412) -/

theorem await_pin_becomes {src : Nat} (h : ChsReady k s) (hsrc : src = 0 ∨ src = 2) (hidx : idx < 4)
    (hw : bitAt (s.chsEngine k).act.wValid idx = true) : EngineBecomes (.chsAwait k level src idx lvl) k s (if lvl = level then
      { s.chsEngine k with timeout := if src = 2 then false else (s.chsEngine k).timeout, pc := (s.chsEngine k).pc + 1 }
      else { s.chsEngine k with hold := .pin idx level (src == 2) }) := by
  have h1 : src ≠ 1 := by omega
  refine becomes_of_ready (exec_chsAwait k level src idx lvl s) h (by simp [hw, hidx]; omega) ?_
  simp only [if_neg h1]
  split
  · refine congrArg _ ?_
    split
    · exact ChsRun.next_of_free h.free
    · exact ChsRun.next_of_free h.free
  · rfl

/-! ### Sync flags (R412, R413) -/

/-- An engine at work that holds on sync flag `f` at a level. -/
def ChsRun.awaits (r : ChsRun) (f : Nat) (level : Bool) : Bool := r.hold == .sync f level && r.run

theorem ChsRun.awaits_iff : r.awaits f level = true ↔ r.hold = .sync f level ∧ r.run = true := by
  simp [ChsRun.awaits]

/-- The engines that hold on the flag at its level go on, and a flag matched at level 1 is cleared. -/
theorem syncMatch_eq (g f : Nat) (level : Bool) (s : State) : ∃ d,
    (s.chisel g).Maps (fun e r => if ((s.chisel g).engine e).awaits f level then r.next else r) d ∧
    syncMatch g f level s = s.setChisel g { d with sync :=
      if (level && (List.range 8).any fun e => ((s.chisel g).engine e).awaits f level) then clrBit (s.chisel g).sync f else (s.chisel g).sync } := by
  have hmaps := ChsGroup.foldl_maps (f := fun e r => if ((s.chisel g).engine e).awaits f level then r.next else r)
    (F := fun c e => if ((s.chisel g).engine e).awaits f level then c.setEngine e (c.engine e).next else c) (c := s.chisel g) fun d e => by
      split
      · exact .inl rfl
      · exact .inr ⟨rfl, rfl⟩
  refine ⟨_, hmaps, ?_⟩
  have hsync := congrArg ChsGroup.sync hmaps.rest
  dsimp only at hsync
  rw [← hsync]
  rfl

theorem chsEngine_syncMatch (hj : j / 8 = g) : (syncMatch g f level s).chsEngine j =
    if (s.chsEngine j).awaits f level then (s.chsEngine j).next else s.chsEngine j := by
  obtain ⟨d, hmaps, heq⟩ := syncMatch_eq g f level s
  rw [heq, State.chsEngine_setChisel, if_pos hj]
  have hengine := hmaps.engine (j % 8) (Nat.mod_lt _ (by decide))
  subst hj
  exact hengine

theorem sync_syncMatch_low : ((syncMatch g f false s).chisel g).sync = (s.chisel g).sync := by
  obtain ⟨d, -, heq⟩ := syncMatch_eq g f false s
  rw [heq, State.chisel_setChisel]
  rfl

theorem sync_syncMatch_high (hj : j / 8 = g) (h : (s.chsEngine j).awaits f true = true) :
    bitAt ((syncMatch g f true s).chisel g).sync f = false := by
  obtain ⟨d, -, heq⟩ := syncMatch_eq g f true s
  have hany : (List.range 8).any (fun e => ((s.chisel g).engine e).awaits f true) = true :=
    List.any_eq_true.mpr ⟨j % 8, List.mem_range.mpr (Nat.mod_lt _ (by decide)), by subst hj; exact h⟩
  rw [heq, State.chisel_setChisel, hany]
  exact bitAt_clrBit _ _

/-- A write of a group's own registers leaves its engines. -/
theorem State.chsEngine_setChisel_of_engines {c : ChsGroup} (h : c.engines = (s.chisel g).engines) (j : Nat) :
    (s.setChisel g c).chsEngine j = s.chsEngine j := by
  rw [State.chsEngine_setChisel]
  split
  next hg =>
    unfold State.chsEngine ChsGroup.engine
    rw [h, hg]
  next => rfl

/-- AWAIT on a sync flag that has the level already: the flag ends clear, and the engine goes on. -/
theorem await_sync_runs (h : ChsReady k s) (hidx : idx < 8) (hlevel : bitAt (s.chisel (k / 8)).sync idx = level) :
    Does (.chsAwait k level 1 idx lvl) s (fun t => bitAt (t.chisel (k / 8)).sync idx = false ∧ (t.chsEngine k).pc = (s.chsEngine k).pc + 1 ∧
      (t.chsEngine k).hold = .none ∧ (∀ j, j ≠ k → t.chsEngine j = s.chsEngine j) ∧ Touches [.chisels] s t) := by
  refine does_of_ready (exec_chsAwait k level 1 idx lvl s) h (by simp [hidx]) ?_
  simp only [if_true, if_pos hlevel, State.chsEngine_setEngine]
  refine ⟨?sync, rfl, rfl, fun j hj => ?_, (State.setChisel_touches s _ _).trans (State.setEngine_touches _ _ _)⟩
  case sync =>
    rw [State.chisel_setEngine, State.chisel_setChisel]
    cases level
    · exact hlevel
    · exact bitAt_clrBit _ _
  · rw [State.chsEngine_setEngine_other _ _ hj]
    exact State.chsEngine_setChisel_of_engines (by rfl) j

/-- The state of SIGNAL before engines that hold on a flag are looked for: the engine has gone on, and its group has the flags given. -/
def State.signalled (s : State) (k sync : Nat) : State :=
  let u := s.setEngine k (s.chsEngine k).next
  u.setChisel (k / 8) { u.chisel (k / 8) with sync := sync }

theorem State.chsEngine_signalled (s : State) (k y j : Nat) :
    (s.signalled k y).chsEngine j = if j = k then (s.chsEngine k).next else s.chsEngine j := by
  unfold State.signalled
  dsimp only
  rw [State.chsEngine_setChisel_of_engines (by rfl)]
  split
  next hj => rw [hj, State.chsEngine_setEngine]
  next hj => exact State.chsEngine_setEngine_other s _ hj

theorem State.sync_signalled (s : State) (k y : Nat) : ((s.signalled k y).chisel (k / 8)).sync = y := by
  unfold State.signalled
  rw [State.chisel_setChisel]

/-- The engine that signals goes on: it does not itself hold on the flag. -/
theorem pc_syncMatch_signalled (y : Nat) :
    ((syncMatch (k / 8) f level (s.signalled k y)).chsEngine k).pc = (s.chsEngine k).pc + 1 := by
  rw [chsEngine_syncMatch rfl, State.chsEngine_signalled, if_pos rfl]
  rfl

theorem syncMatch_signalled_touches (y : Nat) : Touches [.chisels] s (syncMatch (k / 8) f level (s.signalled k y)) :=
  ((State.setEngine_touches s _ _).trans (State.setChisel_touches _ _ _)).trans (syncMatch_keeps _ _ _ _).touches_chisels

/-- SIGNAL of a Lathe flag that is not enabled for an entry. -/
theorem signal_flag_runs (h : ChsReady k s) (hidx : idx < 8) (hen : bitAt (s.chisel (k / 8)).flagEn idx = false) :
    Does (.chsSignal k 0 idx) s (fun t => bitAt (t.chisel (k / 8)).flags idx = true ∧
      (∀ j, j ≠ idx → bitAt (t.chisel (k / 8)).flags j = bitAt (s.chisel (k / 8)).flags j) ∧
      (t.chsEngine k).pc = (s.chsEngine k).pc + 1 ∧ (∀ j, j ≠ k → t.chsEngine j = s.chsEngine j) ∧ Touches [.chisels] s t) := by
  refine does_of_ready (exec_chsSignal k 0 idx s) h (by simp [hidx]) ?_
  have hrise : (!bitAt ((s.setEngine k (s.chsEngine k).next).chisel (k / 8)).flags idx &&
      bitAt ((s.setEngine k (s.chsEngine k).next).chisel (k / 8)).flagEn idx) = false := by
    rw [State.chisel_setEngine]
    exact Bool.and_eq_false_imp.mpr fun _ => hen
  simp only [if_true, hrise, Bool.false_eq_true, if_false]
  rw [State.chisel_setChisel]
  refine ⟨bitAt_setBit _ _, fun j hj => ?_, ?_, fun j hj => ?_, (State.setEngine_touches s _ _).trans (State.setChisel_touches _ _ _)⟩
  · rw [State.chisel_setEngine]
    exact bitAt_setBit_other hj
  · rw [State.chsEngine_setChisel_of_engines (by rfl), State.chsEngine_setEngine]
    rfl
  · rw [State.chsEngine_setChisel_of_engines (by rfl), State.chsEngine_setEngine_other s _ hj]

/-- SIGNAL that sets a sync flag: every engine of the group that holds on it at level 1 goes on, and the flag is clear again. -/
theorem signal_set_runs (h : ChsReady k s) (hidx : idx < 8) : Does (.chsSignal k 1 idx) s (fun t =>
    (t.chsEngine k).pc = (s.chsEngine k).pc + 1 ∧
    (∀ e, e < 8 → k / 8 * 8 + e ≠ k → (s.chsEngine (k / 8 * 8 + e)).run = true → (s.chsEngine (k / 8 * 8 + e)).hold = .sync idx true →
      t.chsEngine (k / 8 * 8 + e) = (s.chsEngine (k / 8 * 8 + e)).next ∧ bitAt (t.chisel (k / 8)).sync idx = false) ∧ Touches [.chisels] s t) := by
  refine does_of_ready (exec_chsSignal k 1 idx s) h (by simp [hidx])
    ⟨pc_syncMatch_signalled _, fun e he hk hrun hhold => ?_, syncMatch_signalled_touches _⟩
  have hgroup : (k / 8 * 8 + e) / 8 = k / 8 := by omega
  have hengine := State.chsEngine_signalled s k (setBit (((s.setEngine k (s.chsEngine k).next).chisel (k / 8)).sync) idx) (k / 8 * 8 + e)
  rw [if_neg hk] at hengine
  have hawaits := ChsRun.awaits_iff.mpr ⟨hhold, hrun⟩
  rw [← hengine] at hawaits
  exact ⟨((chsEngine_syncMatch hgroup).trans (if_pos hawaits)).trans (congrArg _ hengine), sync_syncMatch_high hgroup hawaits⟩

/-- SIGNAL that clears a sync flag. -/
theorem signal_clear_runs (h : ChsReady k s) (hidx : idx < 8) : Does (.chsSignal k 2 idx) s (fun t =>
    bitAt (t.chisel (k / 8)).sync idx = false ∧ (t.chsEngine k).pc = (s.chsEngine k).pc + 1 ∧ Touches [.chisels] s t) := by
  refine does_of_ready (exec_chsSignal k 2 idx s) h (by simp [hidx]) ⟨?_, pc_syncMatch_signalled _, syncMatch_signalled_touches _⟩
  exact (congrArg (bitAt · idx) (sync_syncMatch_low.trans (State.sync_signalled s k _))).trans (bitAt_clrBit _ _)

/-! ### Holds that end (R412) -/

theorem awaitTimeout_idle (hk : k < 64) (h : ∀ i l, (s.chsEngine k).hold ≠ .pin i l true) : Does (.chsAwaitTimeout k) s (fun t => t = s) := by
  refine does_of_onUnit rfl hk ?_
  split
  next i l hhold => exact absurd hhold (h i l)
  next => rfl

/-- Settles O42: each row starts at a ready engine, whose fields it replaces; sync flags alone reach the other engines of the group. -/
theorem chiselControlInstructionsTakeEffect : Obligations.ChiselControlInstructionsTakeEffect := by
  unfold Obligations.ChiselControlInstructionsTakeEffect
  refine ⟨fun k n s h hn => becomes_of_ready (exec_chsPause k n s) h (decide_eq_true hn) (congrArg _ (ChsRun.next_of_free h.free)),
    fun k v m s h hm hw => ⟨?levels, ?enables⟩, fun k v m s h hm hw => ?outputs, bitAt_takeBits, fun k v s h hv => ⟨?load0, ?load1⟩,
    fun k s h => ⟨load_becomes h (by decide) rfl, load_becomes h (by decide) rfl⟩, fun k w target lvl s h ht => ?always,
    fun k w target lvl s h ht => ?count0,
    fun k w target lvl s h ht => ?count1, fun k w target lvl s h ht hw => ⟨?high, ?low⟩,
    fun k w target lvl s h ht => ?timeout,
    fun k idx lvl level src s h hsrc hidx hw => await_pin_becomes h hsrc hidx hw, fun k idx lvl level s h hidx hlevel => ?hold,
    fun k idx lvl level s h hidx hlevel => await_sync_runs h hidx hlevel, fun k i l s hk hhold => ?timedOut,
    fun k s hk h => awaitTimeout_idle hk h, fun k n i l s hk hhold => ?timedMatch, fun k n i l s hk hhold => ?pinMatch,
    fun k idx s h hidx hen => signal_flag_runs h hidx hen, fun k idx s h hidx => signal_set_runs h hidx,
    fun k idx s h hidx => signal_clear_runs h hidx⟩
  case levels => exact becomes_of_ready (exec_chsPins k v m 0 s) h (by simp [hm, hw]) (congrArg _ (ChsRun.next_of_free h.free))
  case enables => exact becomes_of_ready (exec_chsPins k v m 1 s) h (by simp [hm, hw]) (congrArg _ (ChsRun.next_of_free h.free))
  case outputs => exact becomes_of_ready (exec_chsPins k v m 2 s) h (by simp [hm, hw]) (congrArg _ (ChsRun.next_of_free h.free))
  case load0 => exact load_becomes h (by omega) (if_neg (by omega))
  case load1 => exact load_becomes h (by omega) (if_neg (by omega))
  case always =>
    have hbecomes := branch_becomes (w := w) (lvl := lvl) (cond := 0) (p := True) h ht (by decide) (by omega) rfl h.free
    rwa [if_pos trivial] at hbecomes
  case count0 =>
    exact branch_becomes (x := { s.chsEngine k with c0 := (s.chsEngine k).c0 - 1 }) h ht (by decide) (by omega)
      (by simp only [ChsRun.condition, countDown_eq]) h.free
  case count1 =>
    exact branch_becomes (x := { s.chsEngine k with c1 := (s.chsEngine k).c1 - 1 }) h ht (by decide) (by omega)
      (by simp only [ChsRun.condition, countDown_eq]) h.free
  case high => exact branch_becomes h ht (by decide) (fun _ => hw) (by rw [Bool.decide_eq_true]; rfl) h.free
  case low =>
    have hbecomes := branch_becomes (w := w) (lvl := lvl) (cond := 4) (p := ¬ lvl = true) h ht (by decide) (fun _ => hw)
      (by simp [ChsRun.condition]) h.free
    rwa [ite_not] at hbecomes
  case timeout =>
    exact branch_becomes (x := { s.chsEngine k with timeout := false }) h ht (by decide) (by omega) (by rw [Bool.decide_eq_true]; rfl) h.free
  case hold =>
    refine becomes_of_ready (exec_chsAwait k level 1 idx lvl s) h (by simp [hidx]) ?_
    simp only [if_true, if_neg hlevel]
  case timedOut =>
    refine does_of_onUnit rfl hk ?_
    simp only [hhold, ChsRun.next]
  case timedMatch =>
    refine does_of_onUnit rfl hk ?_
    simp only [hhold, ChsRun.next, if_true]
  case pinMatch =>
    refine does_of_onUnit rfl hk ?_
    simp only [hhold, ChsRun.next, Bool.false_eq_true, if_false]

end Sys2Proof.Machine
end

section
/-! SUPPORT. The Chisel instructions on the shift register and the FIFOs (R411, R412): in what order bits leave SH, what the cycles of EMIT and
SAMPLE leave of them, and what a transfer leaves of the FIFOs. -/

namespace Sys2Proof.Machine

variable {s : State} {r : ChsRun} {k n w : Nat} {ins : List Bool}

/-! ### The shift register (R411) -/

/-- The bit of SH that leaves it after `i` others, in the engine's bit order. -/
def ChsRun.exitBit (r : ChsRun) (i : Nat) : Bool := bitAt r.sh.toNat (if r.act.msbFirst then 31 - i else i)

theorem ChsRun.outBit_eq (r : ChsRun) : r.outBit = r.exitBit 0 := by
  unfold ChsRun.outBit ChsRun.exitBit
  split <;> rfl

/-- SH after one bit has entered it, as a number. -/
theorem ChsRun.toNat_shiftIn (r : ChsRun) (b : Bool) : (r.shiftIn b).sh.toNat =
    if r.act.msbFirst then wrap 32 (2 * r.sh.toNat) + b.toNat else r.sh.toNat / 2 + 2 ^ 31 * b.toNat := by
  have hlt := r.sh.isLt
  have hone := Bool.toNat_le b
  have hbit : ∀ j, bitIf j b = 2 ^ j * b.toNat := fun j => by cases b <;> simp [bitIf]
  unfold ChsRun.shiftIn wrap
  dsimp only
  rw [BitVec.toNat_ofNat, hbit, hbit]
  split
  next => omega
  next => omega

/-- A bit that enters SH is the 32nd to leave. -/
theorem ChsRun.exitBit_shiftIn (r : ChsRun) (b : Bool) {i : Nat} (hi : i < 32) :
    (r.shiftIn b).exitBit i = if i = 31 then b else r.exitBit (i + 1) := by
  have hact : (r.shiftIn b).act = r.act := rfl
  simp only [ChsRun.exitBit, hact, ChsRun.toNat_shiftIn, bitAt_eq]
  split
  next =>
    have hsh : wrap 32 (2 * r.sh.toNat) + b.toNat = 2 ^ 1 * (r.sh.toNat % 2 ^ 31) + b.toNat := by
      unfold wrap
      omega
    rw [hsh, Nat.testBit_two_pow_mul_add _ (by cases b <;> decide), Nat.testBit_mod_two_pow]
    split
    next h0 => rw [if_pos (by omega), show 31 - i = 0 by omega]; cases b <;> rfl
    next h0 => rw [if_neg (by omega), decide_eq_true (by omega), Bool.true_and, show 31 - i - 1 = 31 - (i + 1) by omega]
  next =>
    have hlt := r.sh.isLt
    rw [Nat.add_comm, Nat.testBit_two_pow_mul_add _ (by omega), Nat.testBit_div_two]
    split
    next h31 => rw [if_neg (by omega)]
    next h31 => rw [if_pos (by omega), show i - 31 = 0 by omega]; cases b <;> rfl

/-! ### The cycles of EMIT (R411) -/

/-- What `n` cycles of an EMIT that fetches nothing and takes nothing in leave: the bits sent, and an engine that has gone on. -/
structure Emitted (n : Nat) (r : ChsRun) (x : ChsRun × List Bool) : Prop where
  sent : x.2 = (List.range n).map r.exitBit
  sh : x.1.sh.toNat = if r.act.msbFirst then wrap 32 (r.sh.toNat * 2 ^ n) else r.sh.toNat / 2 ^ n
  bits : x.1.bits = if n = 0 then r.bits else min 32 (r.bits + n)
  pc : x.1.pc = r.pc + 1
  hold : x.1.hold = .none

/-- The engine after one such cycle. -/
def ChsRun.emitted (r : ChsRun) (w : Nat) : ChsRun :=
  { r.shiftIn false with lvl := takeBits r.lvl (bitIf w r.outBit) (2 ^ w) }

theorem emitRun_succ (h : r.act.autofetch = false) (w n : Nat) (ins : List Bool) : emitRun w false (n + 1) ins r =
    ((emitRun w false n ins.tail (r.emitted w)).1, r.outBit :: (emitRun w false n ins.tail (r.emitted w)).2) := by
  simp only [emitRun, h, Bool.false_and, Bool.false_eq_true, if_false]
  rfl

theorem emitRun_emitted (h : r.act.autofetch = false) (w : Nat) (ins : List Bool) (hn : n ≤ 32) : Emitted n r (emitRun w false n ins r) := by
  induction n generalizing r ins with
  | zero =>
    refine ⟨rfl, ?_, rfl, rfl, rfl⟩
    rw [Nat.pow_zero, Nat.mul_one, Nat.div_one, wrap, Nat.mod_eq_of_lt r.sh.isLt, ite_self]
    rfl
  | succ n ih =>
    obtain ⟨hsent, hsh, hbits, hpc, hhold⟩ := ih (r := r.emitted w) h ins.tail (by omega)
    have hin : (r.emitted w).sh.toNat = (r.shiftIn false).sh.toNat := rfl
    have hact : (r.emitted w).act = r.act := rfl
    rw [emitRun_succ h]
    refine ⟨?sent, ?sh, ?bits, hpc, hhold⟩
    case sent =>
      rw [List.range_succ_eq_map, List.map_cons, List.map_map, r.outBit_eq, hsent]
      refine congrArg _ (List.map_congr_left fun i hi => ?_)
      rw [List.mem_range] at hi
      exact (r.exitBit_shiftIn false (by omega)).trans (if_neg (by omega))
    case sh =>
      dsimp only
      rw [hsh, hact, hin, ChsRun.toNat_shiftIn, Bool.toNat_false, Nat.mul_zero, Nat.add_zero, Nat.add_zero]
      split
      · rw [wrap, wrap, wrap, Nat.mod_mul_mod, Nat.mul_comm 2, Nat.mul_assoc, ← Nat.pow_succ']
      · rw [Nat.div_div_eq_div_mul, Nat.pow_succ']
    case bits =>
      have hone : (r.emitted w).bits = min 32 (r.bits + 1) := rfl
      rw [if_neg (Nat.succ_ne_zero n)]
      dsimp only
      rw [hbits, hone]
      split <;> omega

/-! ### The cycles of SAMPLE (R411, R412) -/

/-- The engine after a cycle of SAMPLE that takes no store. -/
theorem sampleRun_succ (h : (r.shiftIn (ins.headD false)).storeDue = false) (w n : Nat) :
    sampleRun w (n + 1) ins r = sampleRun w n ins.tail (r.shiftIn (ins.headD false)) := by
  rw [sampleRun, h]
  rfl

/-- What `n` cycles of a SAMPLE without stores leave: the bits sampled are the last to leave SH. -/
structure Sampled (n : Nat) (ins : List Bool) (r x : ChsRun) : Prop where
  exitBit : ∀ i, i < 32 → x.exitBit i = if i + n < 32 then r.exitBit (i + n) else ins.getD (i + n - 32) false
  act : x.act = r.act
  bits : x.bits = if n = 0 then r.bits else min 32 (r.bits + n)
  pc : x.pc = r.pc + 1

theorem sampleRun_sampled (h : r.act.autostore = false) (w : Nat) (ins : List Bool) (hn : n ≤ 32) : Sampled n ins r (sampleRun w n ins r) := by
  induction n generalizing r ins with
  | zero => exact ⟨fun i hi => (if_pos hi).symm, rfl, rfl, rfl⟩
  | succ n ih =>
    obtain ⟨hexit, hact, hbits, hpc⟩ := ih (r := r.shiftIn (ins.headD false)) h ins.tail (by omega)
    rw [sampleRun_succ (Bool.and_eq_false_imp.mpr fun hs => absurd (h.symm.trans hs) (by decide))]
    refine ⟨fun i hi => ?exit, hact, ?bits, hpc⟩
    case exit =>
      rw [hexit i hi]
      split
      next hlow =>
        rw [r.exitBit_shiftIn _ hlow]
        split
        next h31 => rw [if_neg (by omega), show i + (n + 1) - 32 = 0 by omega]; cases ins <;> rfl
        next h31 => rw [if_pos (by omega), Nat.add_assoc]
      next hhigh =>
        rw [if_neg (by omega), show i + (n + 1) - 32 = i + n - 32 + 1 by omega]
        cases ins <;> rfl
    case bits =>
      have hone : (r.shiftIn (ins.headD false)).bits = min 32 (r.bits + 1) := rfl
      rw [if_neg (Nat.succ_ne_zero n), hbits, hone]
      split <;> omega

/-- A SAMPLE whose last cycle fills the word holds in its autostore while DOUT is full (R412). -/
theorem sampleRun_holds (hstore : r.act.autostore = true) (hdrop : r.act.dropNew = false) (hfull : r.dout.length = 2)
    (hbits : r.bits + (n + 1) = r.act.wordLen) (hlen : r.act.wordLen ≤ 32) (w : Nat) (ins : List Bool) :
    (sampleRun w (n + 1) ins r).hold = .sample 0 w ∧ (sampleRun w (n + 1) ins r).bits = r.act.wordLen ∧
    (sampleRun w (n + 1) ins r).dout = r.dout := by
  induction n generalizing r ins with
  | zero =>
    have hone : (r.shiftIn (ins.headD false)).bits = r.act.wordLen := (show _ = min 32 (r.bits + 1) from rfl).trans (by omega)
    have hdue : (r.shiftIn (ins.headD false)).storeDue = true := by
      unfold ChsRun.storeDue
      rw [hone]
      exact Bool.and_eq_true_iff.mpr ⟨hstore, beq_self_eq_true _⟩
    have hrun : sampleRun w 1 ins r = { r.shiftIn (ins.headD false) with hold := .sample 0 w } := by
      rw [sampleRun]
      dsimp only
      rw [if_pos hdue, if_neg (show ¬ (r.shiftIn (ins.headD false)).dout.length < 2 from (by omega : ¬ r.dout.length < 2)),
        if_neg (show ¬ (r.shiftIn (ins.headD false)).act.dropNew = true from (by rw [hdrop]; decide : ¬ r.act.dropNew = true))]
    rw [hrun]
    exact ⟨rfl, hone, rfl⟩
  | succ n ih =>
    have hone : (r.shiftIn (ins.headD false)).bits = r.bits + 1 := (show _ = min 32 (r.bits + 1) from rfl).trans (by omega)
    have hdue : (r.shiftIn (ins.headD false)).storeDue = false := by
      unfold ChsRun.storeDue
      rw [hone, Bool.and_eq_false_imp]
      exact fun _ => beq_eq_false_iff_ne.mpr (show r.bits + 1 ≠ r.act.wordLen by omega)
    rw [sampleRun_succ hdue]
    have hrest : (r.shiftIn (ins.headD false)).bits + (n + 1) = r.act.wordLen := by omega
    exact ih (r := r.shiftIn (ins.headD false)) hstore hdrop hfull hrest hlen ins.tail

/-! ### Words reversed (R412) -/

theorem bitAt_reverseBits (x : Nat) {n b : Nat} (h : b < n) : bitAt (reverseBits n x) b = bitAt x (n - 1 - b) := by
  have hlt : ∀ n x, reverseBits n x < 2 ^ n := by
    intro n
    induction n with
    | zero => exact fun x => Nat.one_pos
    | succ n ih =>
      intro x
      have hlow := ih (x / 2)
      have hbit : x % 2 * 2 ^ n ≤ 1 * 2 ^ n := Nat.mul_le_mul_right _ (by omega)
      rw [reverseBits, Nat.pow_succ]
      omega
  induction n generalizing x with
  | zero => exact absurd h (Nat.not_lt_zero b)
  | succ n ih =>
    rw [reverseBits, Nat.mul_comm, bitAt_eq, Nat.testBit_two_pow_mul_add _ (hlt n _)]
    split
    next hb => rw [← bitAt_eq, ih _ hb, ← bitAt_succ, show n - 1 - b + 1 = n + 1 - 1 - b by omega]
    next hb =>
      rw [show n + 1 - 1 - b = 0 by omega, show b - n = 0 by omega, ← bitAt_eq, bitAt_zero, bitAt_zero, Nat.mod_mod]

/-! ### The rows -/

theorem emit_runs (h : ChsReady k s) (h1 : 1 ≤ n) (h32 : n ≤ 32) (hw : w < 4) (hv : bitAt (s.chsEngine k).act.wValid w = true)
    (hf : (s.chsEngine k).act.autofetch = false) : Does (.chsEmit k n w false ins) s (fun t =>
      t.out = s.out ++ [.bits ((s.chsEngine k).act.window w) ((List.range n).map (s.chsEngine k).exitBit)] ∧
      (t.chsEngine k).sh.toNat =
        (if (s.chsEngine k).act.msbFirst then wrap 32 ((s.chsEngine k).sh.toNat * 2 ^ n) else (s.chsEngine k).sh.toNat / 2 ^ n) ∧
      (t.chsEngine k).bits = min 32 ((s.chsEngine k).bits + n) ∧ (t.chsEngine k).pc = (s.chsEngine k).pc + 1 ∧ (t.chsEngine k).hold = .none ∧
      (∀ j, j ≠ k → t.chsEngine j = s.chsEngine j) ∧ Touches [.chisels, .out] s t) := by
  refine does_of_ready (exec_chsEmit k n w false ins s) h (by simp [h1, h32, hw, hv]) ?_
  obtain ⟨hsent, hsh, hbits, hpc, hhold⟩ := emitRun_emitted hf w ins h32
  rw [if_neg (by omega)] at hbits
  unfold emitOn
  dsimp only
  have hengine : ∀ o j, (((s.setEngine k (emitRun w false n ins (s.chsEngine k)).1).send o).chsEngine j) =
    (s.setEngine k (emitRun w false n ins (s.chsEngine k)).1).chsEngine j := fun _ _ => rfl
  simp only [hengine, State.chsEngine_setEngine]
  refine ⟨by rw [← hsent]; rfl, hsh, hbits, hpc, hhold, fun j hj => State.chsEngine_setEngine_other s _ hj, ?_⟩
  exact (Keeps.after (State.send_keeps _ _) rfl ((State.setEngine_keeps s k _).mono (m := 134250496) rfl)).touches _ (by decide)

theorem sample_runs (h : ChsReady k s) (hw : w < 4) (hv : bitAt (s.chsEngine k).act.wValid w = true)
    (hs : (s.chsEngine k).act.autostore = false) : Does (.chsSample k 32 w ins) s (fun t =>
      (∀ i, i < 32 → (t.chsEngine k).exitBit i = ins.getD i false) ∧ (t.chsEngine k).act = (s.chsEngine k).act ∧ (t.chsEngine k).bits = 32 ∧
      (t.chsEngine k).pc = (s.chsEngine k).pc + 1 ∧ (∀ j, j ≠ k → t.chsEngine j = s.chsEngine j) ∧ Touches [.chisels] s t) := by
  refine does_of_ready (exec_chsSample k 32 w ins s) h (by simp [hw, hv]) ?_
  obtain ⟨hexit, hact, hbits, hpc⟩ := sampleRun_sampled hs w ins (Nat.le_refl 32)
  simp only [State.chsEngine_setEngine]
  refine ⟨fun i hi => ?_, hact, ?_, hpc, fun j hj => State.chsEngine_setEngine_other s _ hj, State.setEngine_touches s k _⟩
  · rw [hexit i hi, if_neg (by omega), Nat.add_sub_cancel]
  · rw [hbits, if_neg (by decide)]
    omega

theorem sample_holds (h : ChsReady k s) (hw : w < 4) (hv : bitAt (s.chsEngine k).act.wValid w = true)
    (hs : (s.chsEngine k).act.autostore = true) (hbits : (s.chsEngine k).bits = 0) (hlen : (s.chsEngine k).act.wlen < 32)
    (hfull : (s.chsEngine k).dout.length = 2) (hdrop : (s.chsEngine k).act.dropNew = false) :
    Does (.chsSample k (s.chsEngine k).act.wordLen w ins) s (fun t =>
      (t.chsEngine k).hold = .sample 0 w ∧ (t.chsEngine k).bits = (s.chsEngine k).act.wordLen ∧ (t.chsEngine k).dout = (s.chsEngine k).dout) := by
  have hrange : 1 ≤ (s.chsEngine k).act.wordLen ∧ (s.chsEngine k).act.wordLen ≤ 32 := by
    unfold ChsEngine.wordLen
    split <;> omega
  obtain ⟨n, hn⟩ := Nat.exists_eq_add_of_le' hrange.1
  refine does_of_ready (exec_chsSample k _ w ins s) h (by simp [hw, hv, hrange]) ?_
  have hholds := sampleRun_holds hs hdrop hfull (n := n) (by rw [hbits, hn]; omega) hrange.2 w ins
  rw [← hn] at hholds
  simpa only [State.chsEngine_setEngine] using hholds

/-- COPY from the head of an empty DIN into SH: the value is free (log entry 2). -/
theorem copy_din_empty_runs {lv : Nat} (h : ChsReady k s) (hd : (s.chsEngine k).din = []) : Does (.chsCopy k 2 4 0 lv) s (fun t =>
    (t.chsEngine k).pc = (s.chsEngine k).pc + 1 ∧ (t.chsEngine k).bits = 0 ∧ (t.chsEngine k).din = [] ∧
    (∀ j, j ≠ k → t.chsEngine j = s.chsEngine j) ∧ Touches [.chisels, .freeCount] s t) := by
  refine does_of_ready (exec_chsCopy k 2 4 0 lv s) h rfl ?_
  have hsource : copySource (s.chsEngine k) 4 lv s = s.freeBelow (2 ^ 32) := by simp only [copySource, hd]
  simp only [hsource]
  refine ⟨?pc, ?bits, ?din, fun j hj => ?others, ?frame⟩
  case pc => rw [State.chsEngine_setEngine]; rfl
  case bits => rw [State.chsEngine_setEngine]; rfl
  case din => rw [State.chsEngine_setEngine]; exact hd
  case others => exact (State.chsEngine_setEngine_other _ _ hj).trans (State.chsEngine_of_chisels rfl j)
  case frame =>
    exact (Keeps.after (State.setEngine_keeps _ k _) rfl ((State.freeBelow_keeps s (2 ^ 32)).mono (m := 268468224) rfl)).touches _ (by decide)

/-- An engine that holds for room in DOUT pushes its word and goes on (R412). -/
theorem resume_push {x : Word} {c : Bool} (hk : k < 64) (hhold : (s.chsEngine k).hold = .push x c) (hroom : (s.chsEngine k).dout.length < 2) :
    Does (.chiselFifoResume k ins) s (fun t => (t.chsEngine k).dout = (s.chsEngine k).dout ++ [x] ∧ (t.chsEngine k).hold = .none ∧
      (t.chsEngine k).pc = (s.chsEngine k).pc + 1 ∧ (c = true → (t.chsEngine k).sh = 0 ∧ (t.chsEngine k).bits = 0)) := by
  refine does_of_onUnit rfl hk ?_
  simp only [resumeEngine, hhold, if_pos hroom, State.chsEngine_setEngine]
  cases c
  · exact ⟨rfl, rfl, rfl, fun hc => absurd hc (by decide)⟩
  · exact ⟨rfl, rfl, rfl, fun _ => ⟨rfl, rfl⟩⟩

/-- An engine that holds for a word of DIN fetches it and goes on (R412). -/
theorem resume_fetch {x : Word} {xs : List Word} (hk : k < 64) (hhold : (s.chsEngine k).hold = .fetch) (hd : (s.chsEngine k).din = x :: xs) :
    Does (.chiselFifoResume k ins) s (fun t => (t.chsEngine k).din = xs ∧ (t.chsEngine k).hold = .none ∧
      (t.chsEngine k).pc = (s.chsEngine k).pc + 1 ∧ (t.chsEngine k).bits = 0) := by
  refine does_of_onUnit rfl hk ?_
  simp only [resumeEngine, hhold, hd, List.isEmpty_cons, Bool.false_eq_true, if_false, State.chsEngine_setEngine]
  simp only [ChsRun.next, ChsRun.fetchWord, hd]
  trivial

/-- Settles O43: the cycles of EMIT and SAMPLE by the order in which bits leave SH, the transfers by the room in their FIFO. -/
theorem chiselShiftsAndTransfersMoveWords : Obligations.ChiselShiftsAndTransfersMoveWords := by
  unfold Obligations.ChiselShiftsAndTransfersMoveWords
  refine ⟨fun k n w ins s h h1 h32 hw hv hf => emit_runs h h1 h32 hw hv hf, fun k w ins s h hw hv hs => ?sample,
    fun k w ins s h hw hv hs hbits hlen hfull hdrop => sample_holds h hw hv hs hbits hlen hfull hdrop,
    fun k s h hroom => ?store, fun k s h hfull => ?storeHolds, fun k s h hd => ?fetchHolds, fun k w ws s h hd hlsb => ?fetch,
    fun k f s h hbits => ?whole, fun k op lv s h hop => ?copySh, fun k lv s h => ?copyC0, fun k lv s h => ?copyOnes,
    fun k lv w ws s h hd hroom => ?copyDin, fun k lv s h hd => copy_din_empty_runs h hd, fun n x b hb => bitAt_reverseBits x hb,
    fun k ins s hk hhold => ?idle, fun k ins w c s hk hhold hroom => resume_push hk hhold hroom,
    fun k ins w ws s hk hhold hd => resume_fetch hk hhold hd⟩
  case sample =>
    obtain ⟨t, ht, hexit, hact, hbits, hpc, hothers, hframe⟩ := sample_runs (ins := ins) h hw hv hs
    refine ⟨t, ht, fun i hi => ?_, hbits, hpc, hothers, hframe⟩
    rw [← hact]
    exact hexit i hi
  case store =>
    refine becomes_of_ready (exec_chsData k false false s) h rfl (congrArg _ ?_)
    simp only [Bool.false_and, Bool.false_eq_true, if_false, if_pos hroom]
    exact ChsRun.next_of_free h.free
  case storeHolds =>
    refine becomes_of_ready (exec_chsData k false false s) h rfl (congrArg _ ?_)
    simp only [Bool.false_and, Bool.false_eq_true, if_false, if_neg (Nat.not_lt.mpr hfull)]
  case fetchHolds =>
    refine becomes_of_ready (exec_chsData k true false s) h rfl (congrArg _ ?_)
    simp only [Bool.false_and, Bool.false_eq_true, if_false, if_true, hd, List.isEmpty_nil]
  case fetch =>
    refine becomes_of_ready (exec_chsData k true false s) h rfl (congrArg _ ?_)
    have hword : (s.chsEngine k).fetchWord = { s.chsEngine k with din := ws, sh := w, bits := 0 } := by
      simp [ChsRun.fetchWord, hd, hlsb]
    simp only [Bool.false_and, Bool.false_eq_true, if_false, if_true, hd, List.isEmpty_cons, hword]
    exact ChsRun.next_of_free h.free
  case whole =>
    refine becomes_of_ready (exec_chsData k f true s) h rfl (congrArg _ ?_)
    simp only [decide_eq_true hbits, Bool.true_and, if_true]
    exact ChsRun.next_of_free h.free
  case copySh => exact becomes_of_ready (exec_chsCopy k 0 2 op lv s) h (by simp [hop]) (congrArg (s.setEngine k) (ChsRun.next_of_free h.free))
  case copyC0 => exact becomes_of_ready (exec_chsCopy k 1 0 0 lv s) h rfl (congrArg (s.setEngine k) (ChsRun.next_of_free h.free))
  case copyOnes => exact becomes_of_ready (exec_chsCopy k 2 6 0 lv s) h rfl (congrArg (s.setEngine k) (ChsRun.next_of_free h.free))
  case copyDin =>
    have hsource : copySource (s.chsEngine k) 4 lv s = (w.toNat, s) := by simp only [copySource, hd]
    have hcopy : copyOp 0 (s.chsEngine k).act.wordLen w.toNat = w.toNat := rfl
    refine becomes_of_ready (exec_chsCopy k 4 4 0 lv s) h rfl ?_
    simp only [hsource, hcopy, if_pos hroom, BitVec.ofNat_toNat, BitVec.setWidth_eq]
    exact congrArg _ (ChsRun.next_of_free h.free)
  case idle =>
    refine does_of_onUnit rfl hk ?_
    simp only [resumeEngine, hhold]

end Sys2Proof.Machine
end

section
/-! SUPPORT. Chisel groups and their registers (R8, R407, R408, R412, R414 to R416): what a fault leaves of its engine, and which engines of a group
a start event, a clock restart, a stop and a write of CHS_CTRL reach. -/

namespace Sys2Proof.Machine

variable {s : State} {k g m : Nat} {clr : Bool}

/-! ### Faults (R416) -/

/-- A stopped engine has its pins at the idle levels of the configuration in force (R414, R415). -/
theorem ChsRun.stop_pins (r : ChsRun) : r.stop.lvl = r.act.idleLvl ∧ r.stop.oe = r.act.idleOe := by
  unfold ChsRun.stop
  split <;> exact ⟨rfl, rfl⟩

/-- An entry requested for a group leaves its engines and its flags. -/
theorem chsEntry_group (g : Nat) (s : State) :
    (∀ j, (chsEntry g s).chsEngine j = s.chsEngine j) ∧ ((chsEntry g s).chisel g).faultFlags = (s.chisel g).faultFlags := by
  unfold chsEntry
  dsimp only
  split
  next => exact ⟨fun _ => rfl, rfl⟩
  next e _ =>
    split
    next => exact ⟨fun _ => rfl, rfl⟩
    next =>
      have hchisels := fun u : State => State.requestEntry_keeps u e s.gtc (0x40 + g) 0 .chisels rfl
      refine ⟨fun j => ?_, ?_⟩
      · rw [State.chsEngine_of_chisels (hchisels _), State.chsEngine_setChisel_of_engines (by rfl)]
      · rw [State.chisel_of_chisels (hchisels _), State.chisel_setChisel]

theorem chsEngine_chsFault (k : Nat) (s : State) : (chsFault k s).chsEngine k = { (s.chsEngine k).stop with fault := true } := by
  unfold chsFault
  rw [(chsEntry_group _ _).1, State.updChisel_eq, State.chsEngine_setChisel_of_engines (by rfl), State.chsEngine_setEngine]

theorem faultFlags_chsFault (k : Nat) (s : State) : bitAt ((chsFault k s).chisel (k / 8)).faultFlags (k % 8) = true := by
  unfold chsFault
  rw [(chsEntry_group _ _).2, State.updChisel_eq, State.chisel_setChisel]
  exact bitAt_setBit _ _

/-! ### Which engines an event of a group reaches (R414 to R416) -/

theorem ChsGroup.startEvent_maps (c : ChsGroup) (mask : Nat) (clr : Bool) :
    { c with liveHalf := if c.swapPend then 1 - c.liveHalf else c.liveHalf, swapPend := false, starts := satAdd 255 c.starts 1 }.Maps
      (fun e r => if bitAt (if c.swapPend then c.en else mask &&& c.en) e then r.start clr else r) (c.startEvent mask clr) := by
  refine ChsGroup.foldl_maps (f := fun e r => if bitAt (if c.swapPend then c.en else mask &&& c.en) e then r.start clr else r)
    (F := fun d e => if bitAt (if c.swapPend then c.en else mask &&& c.en) e then d.setEngine e ((d.engine e).start clr) else d) (fun d e => ?_) _
  by_cases hnamed : bitAt (if c.swapPend then c.en else mask &&& c.en) e = true
  · simp only [if_pos hnamed, true_or]
  · simp only [if_neg hnamed, and_self, or_true]

theorem ChsGroup.clockRestart_maps (c : ChsGroup) (mask : Nat) :
    c.Maps (fun e r => if bitAt mask e then { r with phaseAcc := 0 } else r) (c.clockRestart mask) :=
  ChsGroup.foldl_maps (fun d e => by
    split
    · exact .inl rfl
    · exact .inr ⟨rfl, rfl⟩) _

theorem ChsGroup.stopEngines_maps (c : ChsGroup) (mask : Nat) :
    c.Maps (fun e r => if bitAt mask e && r.run then r.stop else r) (c.stopEngines mask) :=
  ChsGroup.foldl_maps (fun d e => by
    simp only [Bool.and_eq_true]
    split
    · exact .inl rfl
    · exact .inr ⟨rfl, rfl⟩) _

/-- Whether a write of CHS_CTRL names an engine to be stopped: its EN bit is clear. -/
theorem bitAt_cleared (w : Nat) {e : Nat} (he : e < 8) : bitAt (255 - field w 0 8) e = !bitAt w e := by
  unfold field
  rw [Nat.pow_zero, Nat.div_one, bitAt_eq, bitAt_eq, show 255 - w % 2 ^ 8 = 2 ^ 8 - (w % 2 ^ 8 + 1) by omega,
    Nat.testBit_two_pow_sub_succ (Nat.mod_lt _ (Nat.two_pow_pos 8)), Nat.testBit_mod_two_pow, decide_eq_true he]
  rfl

/-- A row that replaces one group. -/
theorem updChisel_runs {i : Instr} {F : ChsGroup → ChsGroup} {P : State → Prop} (hi : exec i s = onUnit g 8 (s.updChisel g F)) (hg : g < 8)
    (hP : (s.updChisel g F).chisel g = F (s.chisel g) → (∀ h, h ≠ g → (s.updChisel g F).chisel h = s.chisel h) →
      Touches [.chisels] s (s.updChisel g F) → P (s.updChisel g F)) : Does i s P :=
  does_of_onUnit hi hg (hP (State.chisel_setChisel _ _ _) (fun _ hh => State.chisel_setChisel_other _ _ hh) (State.setChisel_touches s g _))

/-! ### The rows -/

theorem exec_chiselStart (g m : Nat) (clr : Bool) (s : State) :
    exec (.chiselStart g m clr) s = onUnit g 8 (s.updChisel g fun c => c.startEvent m clr) := rfl

theorem exec_chiselClockRestart (g m : Nat) (s : State) :
    exec (.chiselClockRestart g m) s = onUnit g 8 (s.updChisel g fun c => c.clockRestart m) := rfl

theorem exec_chiselStop (g m : Nat) (s : State) : exec (.chiselStop g m) s = onUnit g 8 (s.updChisel g fun c => c.stopEngines m) := rfl

theorem exec_chsCtrlWrite (g : Nat) (w : Word) (s : State) :
    exec (.chsCtrlWrite g w) s = onUnit g 8 (s.updChisel g fun c => c.control w.toNat) := rfl

/-- No row of an engine that does not run, or that holds, changes anything (log entry 13). -/
theorem resting_engine_does_nothing {n : Nat} (hk : k < 64) (h : (s.chsEngine k).run = false ∨ (s.chsEngine k).hold ≠ .none) :
    ∀ i ∈ [Instr.chsPause k n, .chsPins k n n n, .chsEmit k n n true [], .chsSample k n n [], .chsBranch k n n n true, .chsAwait k true n n true,
      .chsCopy k n n n n, .chsData k true true, .chsLoad k true n, .chsSignal k n n], Does i s (fun t => t = s) := by
  simp only [List.forall_mem_cons, List.not_mem_nil, false_implies, implies_true, and_true]
  exact ⟨does_of_resting (exec_chsPause k n s) hk h, does_of_resting (exec_chsPins k n n n s) hk h,
    does_of_resting (exec_chsEmit k n n true [] s) hk h, does_of_resting (exec_chsSample k n n [] s) hk h,
    does_of_resting (exec_chsBranch k n n n true s) hk h, does_of_resting (exec_chsAwait k true n n true s) hk h,
    does_of_resting (exec_chsCopy k n n n n s) hk h, does_of_resting (exec_chsData k true true s) hk h,
    does_of_resting (exec_chsLoad k true n s) hk h, does_of_resting (exec_chsSignal k n n s) hk h⟩

theorem start_runs (hg : g < 8) (hswap : (s.chisel g).swapPend = false) : Does (.chiselStart g m clr) s (fun t =>
    (t.chisel g).starts = satAdd 255 (s.chisel g).starts 1 ∧ (t.chisel g).liveHalf = (s.chisel g).liveHalf ∧
    (∀ e, e < 8 → (t.chisel g).engine e =
      if bitAt m e && bitAt (s.chisel g).en e then ((s.chisel g).engine e).start clr else (s.chisel g).engine e) ∧
    (∀ h, h ≠ g → t.chisel h = s.chisel h) ∧ Touches [.chisels] s t) := by
  refine updChisel_runs (exec_chiselStart g m clr s) hg fun hgroup hothers hframe => ?_
  obtain ⟨hengine, hrest⟩ := (s.chisel g).startEvent_maps m clr
  simp only [hswap, Bool.false_eq_true, if_false, bitAt_and] at hengine hrest
  rw [hgroup]
  exact ⟨(congrArg ChsGroup.starts hrest).trans rfl, (congrArg ChsGroup.liveHalf hrest).trans rfl, hengine, hothers, hframe⟩

theorem start_swaps (hg : g < 8) (hswap : (s.chisel g).swapPend = true) : Does (.chiselStart g m clr) s (fun t =>
    (t.chisel g).swapPend = false ∧ (t.chisel g).liveHalf = 1 - (s.chisel g).liveHalf ∧
    (∀ e, e < 8 → (t.chisel g).engine e = if bitAt (s.chisel g).en e then ((s.chisel g).engine e).start clr else (s.chisel g).engine e)) := by
  refine updChisel_runs (exec_chiselStart g m clr s) hg fun hgroup _ _ => ?_
  obtain ⟨hengine, hrest⟩ := (s.chisel g).startEvent_maps m clr
  simp only [hswap, if_true] at hengine hrest
  rw [hgroup]
  exact ⟨(congrArg ChsGroup.swapPend hrest).trans rfl, (congrArg ChsGroup.liveHalf hrest).trans rfl, hengine⟩

theorem control_runs {w : Word} (hg : g < 8) : Does (.chsCtrlWrite g w) s (fun t =>
    (t.chisel g).en = field w.toNat 0 8 ∧ (t.chisel g).swapPend = bitAt w.toNat 8 ∧ (t.chisel g).trigEn = bitAt w.toNat 10 ∧
    (t.chisel g).trigUnit = field w.toNat 11 5 ∧ (t.chisel g).trigMode = bitAt w.toNat 16 ∧
    (∀ e, e < 8 → (t.chisel g).engine e =
      if !bitAt w.toNat e && ((s.chisel g).engine e).run then ((s.chisel g).engine e).stop else (s.chisel g).engine e) ∧
    Touches [.chisels] s t) := by
  refine updChisel_runs (exec_chsCtrlWrite g w s) hg fun hgroup _ hframe => ?_
  rw [hgroup]
  refine ⟨rfl, rfl, rfl, rfl, rfl, fun e he => ?_, hframe⟩
  rw [← bitAt_cleared w.toNat he]
  exact ((s.chisel g).stopEngines_maps _).engine e he

/-- Settles O44: a resting engine's rows stop at the test of their unit, an illegal word ends in the fault of its engine, and the events of a group
pass through its engines in turn. -/
theorem chiselGroupsStartStopAndFault : Obligations.ChiselGroupsStartStopAndFault := by
  unfold Obligations.ChiselGroupsStartStopAndFault
  refine ⟨fun k n s hk h => resting_engine_does_nothing hk h, fun k n s hk hrun hhold h => ?illegal,
    fun k cond w target lvl s hk hrun hhold ht => ?branch, fun g m clr s hg hswap => start_runs hg hswap,
    fun g m clr s hg hswap => start_swaps hg hswap, fun g m s hg => ?clocks, fun g m s hg => ?stop, fun g w s hg => control_runs hg,
    fun g a w s hg ha => ?store, fun k w s hk => does_of_onUnit rfl hk rfl, fun k w ws s hk hd => ?pop, fun k s hk hd => ?empty,
    fun g s hg => does_of_onUnit rfl hg rfl, fun k s hk => does_of_onUnit rfl hk rfl,
    fun g k m s => ⟨fun hg => ⟨onUnit_fault hg, onUnit_fault hg⟩, fun hk => ⟨onUnit_fault hk, onUnit_fault hk⟩⟩⟩
  case illegal =>
    refine does_of_illegal (exec_chsPause k n s) hk hrun hhold (h.imp_right fun hn => decide_eq_false (Nat.not_lt.mpr hn)) ?_
    rw [chsEngine_chsFault]
    obtain ⟨hlvl, hoe⟩ := (s.chsEngine k).stop_pins
    exact ⟨rfl, rfl, hlvl, hoe, faultFlags_chsFault k s, (chsFault_keeps k s).touches _ (by decide)⟩
  case branch =>
    refine does_of_illegal (exec_chsBranch k cond w target lvl s) hk hrun hhold (.inr ?_) ?_
    · rw [decide_eq_false (Nat.not_lt.mpr ht), Bool.and_false, Bool.false_and]
    · rw [chsEngine_chsFault]
      exact ⟨rfl, rfl⟩
  case clocks =>
    refine updChisel_runs (exec_chiselClockRestart g m s) hg fun hgroup hothers hframe => ?_
    rw [hgroup]
    exact ⟨((s.chisel g).clockRestart_maps m).engine, hothers, hframe⟩
  case stop =>
    refine updChisel_runs (exec_chiselStop g m s) hg fun hgroup hothers hframe => ?_
    rw [hgroup]
    exact ⟨((s.chisel g).stopEngines_maps m).engine, hothers, hframe⟩
  case store =>
    refine does_of_onUnit rfl hg (congrArg (s.setChisel g) ?_)
    exact if_neg (Nat.not_le.mpr ha)
  case pop =>
    refine does_of_onUnit rfl hk ?_
    simp only [doutRead, hd]
  case empty =>
    refine does_of_onUnit rfl hk ?_
    simp only [doutRead, hd]

end Sys2Proof.Machine
end

section
/-! SUPPORT. A step (R626, log entries 1 and 4): whichever it is, it keeps the parts that no command lists. -/

namespace Sys2Proof.Machine

variable {s t : State} {p : Part}

/-- A step runs the command at the front of the queue on the state with the rest of it. -/
theorem step_of_cons {c : Instr} {q : List Instr} (h : s.pending = c :: q) : step s = exec c { s with pending := q } := by
  rw [step, h]

theorem step_of_nil (h : s.pending = []) : step s = .next (s.advance 1) := by
  rw [step, h]

/-- No command lists the two parts that are no fields of the state: the canonical form of the memory, and the minimum security version as a
bound. -/
theorem framed_lists_no_form (i : Instr) : (framed i).contains .memForm = false ∧ (framed i).contains .secFloor = false := by
  cases i <;> exact ⟨rfl, rfl⟩

theorem memForm_not_framed (i : Instr) : Part.memForm ∉ framed i := by
  simpa using (framed_lists_no_form i).1

theorem secFloor_not_framed (i : Instr) : Part.secFloor ∉ framed i := by
  simpa using (framed_lists_no_form i).2

/-- A part that no command lists, the passing of time does not touch, and the queue is none of, is kept by every step: a cycle of the time
clock changes the time alone, and a command no more than its list once its queue has been set. -/
theorem step_keeps_part (hframed : ∀ i, p ∉ framed i) (htime : p ≠ .time) (hqueue : ∀ (s : State) q, Same p s { s with pending := q })
    (h : step s = .next t) : Same p s t := by
  cases hq : s.pending with
  | nil =>
    obtain rfl : s.advance 1 = t := Host.Outcome.next.inj ((step_of_nil hq).symm.trans h)
    exact (s.advance_keeps 1).touches [.time] (by decide) p (by simpa using htime)
  | cons c q =>
    rw [step_of_cons hq] at h
    exact (hqueue s q).trans (everyCommandKeepsWhatItDoesNotTouch c _ t h p (hframed c))

/-- Settles O1: the definition of a step on a queue that is not empty. -/
theorem stepRunsTheFrontCommand : Obligations.StepRunsTheFrontCommand := by
  unfold Obligations.StepRunsTheFrontCommand
  exact fun c q s h => step_of_cons h

/-- Settles O5: no command lists the canonical form of the memory among what it may touch. -/
theorem everyStepKeepsTheMemoryForm : Obligations.EveryStepKeepsTheMemoryForm := by
  unfold Obligations.EveryStepKeepsTheMemoryForm
  exact fun s t hwf h => step_keeps_part (p := .memForm) memForm_not_framed nofun (fun _ _ hwf => hwf) h hwf

/-- Settles O6: no command lists the bound of the minimum security version among what it may touch. -/
theorem minimumSecurityVersionNeverFalls : Obligations.MinimumSecurityVersionNeverFalls := by
  unfold Obligations.MinimumSecurityVersionNeverFalls
  exact fun s t h => step_keeps_part (p := .secFloor) secFloor_not_framed nofun (fun _ _ => le_rfl) h

/-- Settles O32: what remains over a reset is carried over by its definition, and every other block starts from its reset record. -/
theorem deviceResetKeepsWhatIsNonVolatile : Obligations.DeviceResetKeepsWhatIsNonVolatile := by
  unfold Obligations.DeviceResetKeepsWhatIsNonVolatile
  exact fun cause s => ⟨rfl, rfl, rfl, rfl, rfl, rfl, rfl, rfl, rfl, rfl, rfl, rfl, rfl, rfl, rfl, rfl, rfl, rfl, rfl, rfl, rfl, rfl, rfl⟩

end Sys2Proof.Machine
end

section
/-! SUPPORT. The test access port (R664 to R669): what an instruction selects, and the hold that one which takes the pins begins. -/

namespace Sys2Proof.Machine

variable {s : State}

/-- Whatever holds of a function's values holds of every record of a table passed through it. -/
theorem mapTable_forall {α : Type} [DecidableEq α] {d : α} {f : α → α} {P : α → Prop} (hf : ∀ a, P (f a)) (t : Table α) :
    ∀ p ∈ mapTable d f t, P p.2 := by
  unfold mapTable
  refine List.foldlRecOn (motive := fun u : Table α => ∀ p ∈ u, P p.2) t _ nofun fun u hu q _ p hp => ?_
  unfold Table.set at hp
  split at hp
  · exact hu p (Table.mem_del hp)
  · rcases Table.mem_put hp with rfl | hp
    · exact hf q.2
    · exact hu p hp

/-- The test hold: device in reset, key copies zeroed, every safe output off (R668, R669). -/
structure Held (s : State) : Prop where
  hold : s.tap.hold = true
  inReset : s.power.inReset = true
  noKey : s.custKey = none
  cut : s.glume.cut = true
  outputsOff : ∀ o ∈ s.glume.outputs, o.2.high = false ∧ o.2.low = false

theorem enterHold_held (s : State) : Held (enterHold s) :=
  ⟨rfl, rfl, rfl, rfl, mapTable_forall (d := ({} : SafeOut)) (f := fun o : SafeOut => { o with high := false, low := false })
    (P := fun o => o.high = false ∧ o.low = false) (fun _ => ⟨rfl, rfl⟩) s.glume.outputs⟩

/-- An instruction that takes the pins selects the register `dr` and has the pins 20 us later. -/
def selected (ir dr : Nat) (s : State) : State :=
  { s with tap := { s.tap with ir := ir, dr := dr, takesAt := some (s.gtc + 20000), taken := false } }

theorem Held.selected (h : Held s) (ir dr : Nat) : Held (selected ir dr s) := ⟨h.hold, h.inReset, h.noKey, h.cut, h.outputsOff⟩

theorem selectTaking_eq (ir : Nat) (s : State) : selectTaking ir false s = selected ir 0 (if s.tap.hold then s else enterHold s) := rfl

theorem selectTaking_of_hold (ir : Nat) (h : s.tap.hold = true) : selectTaking ir false s = selected ir 0 s := by
  rw [selectTaking_eq, if_pos h]

theorem selectTaking_of_free (ir : Nat) (h : s.tap.hold = false) : selectTaking ir false s = selected ir 0 (enterHold s) := by
  rw [selectTaking_eq, if_neg (by rw [h]; nofun)]

/-- With the boundary-scan register selected the pins are captured besides. -/
theorem selectTaking_boundary (ir : Nat) (s : State) : selectTaking ir true s = capturePins (selectTaking ir false s) := rfl

theorem capturePins_eq (s : State) : ∃ v, capturePins s = { s with tap := { s.tap with dr := v }, freeCount := s.freeCount + 1 } ∧
    v < 2 ^ Config.scanCells := ⟨_, rfl, Nat.mod_lt _ (Nat.two_pow_pos _)⟩

/-- Under the hold EXTEST and its kin touch the port alone and take one free value. -/
theorem selectTaking_boundary_of_hold (ir : Nat) (h : s.tap.hold = true) :
    (selectTaking ir true s).tap.ir = ir ∧ (selectTaking ir true s).tap.takesAt = some (s.gtc + 20000) ∧
      Touches [.tap, .freeCount] s (selectTaking ir true s) := by
  rw [selectTaking_boundary, selectTaking_of_hold ir h]
  have htap : Keeps 268435464 s (selected ir 0 s) := (Keeps.refl _ s).tap_ rfl
  exact ⟨rfl, rfl, (htap.trans (capturePins_keeps _)).touches _ (by decide)⟩

/-- Settles O35: an instruction that takes the pins enters the hold first if the device is not in it, and then selects its register. -/
theorem tapInstructionsSelectRegistersAndHold : Obligations.TapInstructionsSelectRegistersAndHold := by
  unfold Obligations.TapInstructionsSelectRegistersAndHold
  refine ⟨fun s => ⟨_, rfl, rfl⟩, fun s => ⟨_, rfl, rfl⟩, fun s => ⟨_, rfl, rfl⟩, fun p s => ⟨_, rfl, ?preload⟩,
    fun s h => ⟨_, rfl, ?extest⟩, fun s h => ⟨_, rfl, ?clamp⟩, fun s h => ⟨_, rfl, ?highz⟩,
    fun s h => ⟨_, rfl, selectTaking_of_hold 3 h⟩, fun s h => ⟨_, rfl, selectTaking_of_hold 4 h⟩,
    fun s h => ⟨_, rfl, selectTaking_boundary_of_hold 0 h⟩, fun s h => ⟨_, rfl, selectTaking_boundary_of_hold 5 h⟩,
    fun s h => ⟨_, rfl, selectTaking_boundary_of_hold 6 h⟩, fun s h => ⟨_, rfl, by rw [h]⟩, fun at_ s h => ⟨_, rfl, ?takeover⟩,
    by decide, by decide, by decide, by decide⟩
  case preload =>
    exact ⟨rfl, rfl, rfl, rfl, Nat.mod_lt _ (Nat.two_pow_pos _), (execTapSamplePreload_keeps p s _ rfl).touches _ (by decide)⟩
  case extest =>
    rw [selectTaking_boundary, selectTaking_of_free 0 h]
    obtain ⟨hhold, hreset, hkey, hcut, hoff⟩ := (enterHold_held s).selected 0 0
    exact ⟨rfl, hhold, rfl, rfl, hreset, hkey, hcut, hoff⟩
  case clamp =>
    rw [selectTaking_of_free 3 h]
    obtain ⟨hhold, hreset, hkey, hcut, hoff⟩ := (enterHold_held s).selected 3 0
    exact ⟨rfl, hhold, rfl, rfl, hreset, hkey, hcut, hoff⟩
  case highz =>
    rw [selectTaking_of_free 4 h]
    obtain ⟨hhold, hreset, hkey, hcut, hoff⟩ := (enterHold_held s).selected 4 0
    exact ⟨rfl, hhold, rfl, rfl, hreset, hkey, hcut, hoff⟩
  case takeover =>
    rw [h]
    have hframe : Keeps 9 s { s.advanceTo at_ with tap := { s.tap with takesAt := none, taken := true } } :=
      ((State.advanceTo_keeps at_ s).mono rfl).tap_ rfl
    exact ⟨rfl, hframe.touches _ (by decide)⟩

end Sys2Proof.Machine
end

section
/-! SUPPORT. The stages of start-up (R302, R354, R525, R622, R626, R627, R630 to R634): what each stage leaves of the device, and what RECOVER makes
of a posted image. -/

namespace Sys2Proof.Machine

variable {s t : State} {k : Nat}

/-- A stage that is not due leaves the device as it is. -/
theorem starting_eq_false (h : s.starting k = false) : ¬ s.starting k = true := by
  rw [h]
  nofun

theorem State.retained_of_jrnl (h : t.jrnl.retained = s.jrnl.retained) (kind key : Nat) : t.retained kind key = s.retained kind key := by
  rw [State.retained, h, State.retained]

theorem State.fwSlot_of_slots (h : t.power.slots = s.power.slots) (n : Nat) : t.fwSlot n = s.fwSlot n := by
  rw [State.fwSlot, h, State.fwSlot]

/-- The end of a stage sets its number and time. -/
theorem endStage_power (n : Nat) (s : State) : ∃ l, (endStage n s).power = { s.power with stage := n, stageMs := l } := ⟨_, rfl⟩

theorem endStage_cell (n : Nat) (s : State) : (endStage n s).cell = s.cell := rfl

/-! ### Boot (R302, R354, R627) -/

/-- A trial is used up by the boot that follows it (R627). -/
def trialUsed (s : State) : State :=
  if s.power.trial ∧ !s.power.inhibit then { s with power := { s.power with trial := false, bootGen := wrap 32 (s.power.bootGen + 1) } } else s

theorem trialUsed_keeps (s : State) : Keeps 4 s (trialUsed s) :=
  .ite (.power_ (.refl _ s) rfl (.inl rfl) (.inl le_rfl)) (.refl _ s)

theorem trialUsed_slots (s : State) : (trialUsed s).power.slots = s.power.slots := by
  unfold trialUsed
  split <;> rfl

theorem trialUsed_trial (h : s.power.inhibit = false) : (trialUsed s).power.trial = false := by
  unfold trialUsed
  split
  next => rfl
  next hno => simpa [h] using hno

/-- The firmware of slot `k` runs, with the slot's release. -/
def firmwareRuns (k : Nat) (s : State) : State :=
  { s with power := { s.power with running := k, replLevel := (s.fwSlot k).replLevel }, cell := { s.cell with fwRelease := (s.fwSlot k).release } }

theorem bootChoice_of_none (h : s.bootSlot = none) : bootChoice s = enterRecover (trialUsed s) := by
  rw [bootChoice, h]
  rfl

/-- The firmware that runs binds channels, gives the Lathes their banks, restores the customer key and starts the journal. -/
def startFirmware (s : State) : State :=
  let s := bindAll s
  let s := (List.range 16).foldl (fun s n => s.giveBank (32 + n) (0x10 + n)) s
  let r := s.retained 4 0
  endStage 2 (startJournal { s with custKey := if r.valid then some r.body else none })

theorem bootChoice_of_some (h : s.bootSlot = some k) : bootChoice s = startFirmware (firmwareRuns k (trialUsed s)) := by
  rw [bootChoice, h]
  rfl

theorem startFirmware_eq (s : State) : ∃ u, Keeps 274877907712 s u ∧ startFirmware s =
    endStage 2 (startJournal { u with custKey := if (u.retained 4 0).valid then some (u.retained 4 0).body else none }) := by
  refine ⟨_, ?_, rfl⟩
  exact .foldl (fun t n => (State.giveBank_keeps t _ _).mono rfl) ((bindAll_keeps s).mono rfl)

/-- The firmware's start leaves power but for the stage, cell and retained records. -/
theorem startFirmware_spec (s : State) : (startFirmware s).cell = s.cell ∧ (∃ l, (startFirmware s).power = { s.power with stage := 2, stageMs := l }) ∧
    (startFirmware s).custKey = if (s.retained 4 0).valid then some (s.retained 4 0).body else none := by
  obtain ⟨u, hu, e⟩ := startFirmware_eq s
  have hretained : u.retained 4 0 = s.retained 4 0 := State.retained_of_jrnl (congrArg Journal.retained (hu .jrnl rfl :)) 4 0
  rw [e, hretained]
  generalize (if (s.retained 4 0).valid then some (s.retained 4 0).body else none) = key
  have hjournal := startJournal_keeps { u with custKey := key }
  have hpower : (startJournal { u with custKey := key }).power = s.power := Eq.trans (hjournal .power rfl) (hu .power rfl)
  have hcell : (startJournal { u with custKey := key }).cell = s.cell := Eq.trans (hjournal .cell rfl) (hu .cell rfl)
  obtain ⟨l, hend⟩ := endStage_power 2 (startJournal { u with custKey := key })
  rw [hpower] at hend
  exact ⟨hcell, ⟨l, hend⟩, hjournal .custKey rfl⟩

/-! ### Self-test (R633) -/

/-- A failure of Sheaf core 0 or of the power and reset monitor leaves the device in reset. -/
theorem selfTest_fatal {fs : List Nat} (p : Bool) (hs : s.tap.hold = false) (hf : 0 ∈ fs ∨ 35 ∈ fs) : selfTest fs p s =
    { deviceReset s.power.cause s with power := { (deviceReset s.power.cause s).power with inReset := true } } := by
  have hfatal : fs.contains 0 = true ∨ fs.contains 35 = true := by simpa using hf
  rw [selfTest, if_pos hfatal, holdInReset_of_free _ hs]

theorem State.hold_of_starting (h : s.starting k = true) : s.tap.hold = false := by
  simp only [State.starting, Bool.and_eq_true] at h
  obtain ⟨⟨⟨-, hhold⟩, -⟩, -⟩ := h
  simpa using hhold

/-! ### The Glume (R632, R633) -/

/-- A start-up that has lost a block it cannot do without ends in BOOT (R633). -/
def haltIfLost (s : State) : State :=
  if s.power.startFailed.any (fun b => [1, 2, 3, 56, 64, 250].contains b) then
    { s with power := { s.power with halted := true }, cell := { s.cell with ready := true, fault := true } }
  else s

theorem haltIfLost_of_none (h : s.power.startFailed = []) : haltIfLost s = s := by
  rw [haltIfLost, h]
  rfl

theorem haltIfLost_of_pool (h : s.power.startFailed.contains 250 = true) : haltIfLost s =
    { s with power := { s.power with halted := true }, cell := { s.cell with ready := true, fault := true } } :=
  if_pos (List.any_eq_true.mpr ⟨250, by simpa using h, rfl⟩)

theorem haltIfLost_stage (s : State) : (haltIfLost s).power.stage = s.power.stage ∧ (haltIfLost s).jrnl.retained = s.jrnl.retained := by
  unfold haltIfLost
  split <;> exact ⟨rfl, rfl⟩

/-- Stage 4 configures the Glume, or stops it for want of a block, and ends or halts. -/
theorem glumeStart_eq (s : State) : ∃ u : State, u.cell = s.cell ∧ u.power = s.power ∧
    glumeStart s = haltIfLost (endStage 4 { u with jrnl := { u.jrnl with retained := s.jrnl.retained } }) := by
  unfold glumeStart
  extract_lets kept _ u _ w
  have hu : Keeps 584254488768 s u := by
    unfold u
    split
    next b _ =>
      have hconfirmed : Keeps 584254488768 s { s with glume := { s.glume with confirmed := some b } } := .glume_ (.refl _ s) rfl (.inr rfl) (.inl rfl)
      exact hconfirmed.trans (activateBlock_keeps _)
    · exact (State.raiseAll_keeps s _ _).mono rfl
  exact ⟨u, hu .cell rfl, hu .power rfl, rfl⟩

/-! ### Images and bases (R631) -/

/-- A servoed base locks within the wait, or is reported. -/
def waitLock (locked : List Nat) (s : State) (n : Nat) : State :=
  if !(s.base n).servoEn then s
  else if locked.contains n then s.updBase n (fun b => { b with locked := true })
  else s.event 0 0x8A01 (0x3000 + n) (toLEs 4 (s.base n).lastOfs)

theorem imageStage_eq (locked : List Nat) (s : State) : ∃ u, imageStage locked s = endStage 5 ([1, 2, 3, 4, 5, 6].foldl (waitLock locked) u) := by
  unfold imageStage
  extract_lets _ _ _ _ _ _ u
  exact ⟨u, rfl⟩

theorem State.base_of_time (h : t.time = s.time) (n : Nat) : t.base n = s.base n := by
  rw [State.base, h, State.base]

theorem State.base_event (s : State) (loc code subject : Nat) (data : List Byte) (n : Nat) : (s.event loc code subject data).base n = s.base n :=
  State.base_of_time (State.event_keeps s _ _ _ _ .time rfl) n

theorem base_waitLock (l : List Nat) (s : State) (n m : Nat) : (waitLock l s n).base m =
    if m = n ∧ (s.base m).servoEn = true ∧ m ∈ l then { s.base m with locked := true } else s.base m := by
  unfold waitLock
  by_cases hm : m = n
  · subst hm
    cases hs : (s.base m).servoEn
    · simp
    · by_cases hl : m ∈ l
      · simp [hl]
      · simp [hl, State.base_event]
  · rw [if_neg (fun h : m = n ∧ _ => hm h.left)]
    cases (s.base n).servoEn
    · rfl
    · cases l.contains n
      · exact State.base_event _ _ _ _ _ _
      · exact State.base_setBase_other s _ hm

theorem servoEn_waitLock (l : List Nat) (s : State) (n m : Nat) : ((waitLock l s n).base m).servoEn = (s.base m).servoEn := by
  rw [base_waitLock]
  split <;> rfl

/-- A base locked stays locked in the wait, if it is servoed at all. -/
def LockedIfServoed (n : Nat) (s : State) : Prop := (s.base n).servoEn = true → (s.base n).locked = true

theorem waits_lock {l : List Nat} {n : Nat} (hn : n ∈ l) (h6 : n ∈ [1, 2, 3, 4, 5, 6]) (u : State) :
    LockedIfServoed n ([1, 2, 3, 4, 5, 6].foldl (waitLock l) u) := by
  refine foldl_reaches (R := fun _ => True) h6 trivial (fun _ _ _ => trivial) (fun t _ hs => ?_) fun t y ht hs => ?_
  · rw [servoEn_waitLock] at hs
    rw [base_waitLock, if_pos ⟨rfl, hs, hn⟩]
  · rw [servoEn_waitLock] at hs
    rw [base_waitLock]
    split
    · rfl
    · exact ht hs

/-! ### The fabric (R525, R622) -/

/-- The epoch as the journal holds it. -/
def epochRestored (s : State) : State :=
  match s.lastRole with
  | some b => { (if (s.retained 9 0).valid ∧ (s.retained 9 0).body = b then s else s.retain 9 0 b) with cell := { s.cell with epoch := uAt b 0 4 } }
  | none => s

theorem epochRestored_cell (s : State) :
    (epochRestored s).cell = { s.cell with epoch := (s.lastRole.map (fun b => uAt b 0 4)).getD s.cell.epoch } := by
  unfold epochRestored
  cases s.lastRole <;> rfl

/-- Without a retained key the device stays outside a fabric. -/
theorem fabricStage_of_no_key (h : (s.retained 5 0).valid = false) : ∃ m, fabricStage s =
    endStage 6 { epochRestored s with fab := { (epochRestored s).fab with key := none, map := m } } := by
  simp only [fabricStage, h, Bool.false_and, Bool.false_eq_true, if_false]
  exact ⟨_, rfl⟩

/-! ### Stage 7 (R627, R634) -/

theorem State.record_power (s : State) (loc kind : Nat) (bs : List Byte) : (s.record loc kind bs).power = s.power :=
  State.record_keeps s loc kind bs .power rfl

/-- Firmware that is confirmed becomes active; the stage stands. -/
theorem confirmFirmware_power (s : State) : (confirmFirmware s).power.stage = s.power.stage ∧
    (s.power.inhibit = false → (confirmFirmware s).power.active = s.power.running) := by
  unfold confirmFirmware
  dsimp only
  split
  next h =>
    refine ⟨rfl, fun hi => ?_⟩
    rcases h with h | h
    · exact h.symm
    · exact absurd (hi.symm.trans h) nofun
  next =>
    simp [State.record_power]

/-- The device with its stored configuration (R588, R634). -/
def configRestored (s : State) : State := restoreCalib ((restoreConfig s).placeAll)

theorem configRestored_keeps (s : State) : Keeps 3670016 s (configRestored s) :=
  (((restoreConfig_keeps s).mono rfl).trans ((State.placeAll_keeps _).mono rfl)).trans ((restoreCalib_keeps _).mono rfl)

/-- The device with its configuration in its cell state, start-up ended and recorded. -/
def configReached (s : State) : State :=
  bootRecord (endStage 0 ((configRestored s).enterCell (if (configRestored s).kept.isSome then 3 else 2)))

theorem bootRecord_cell (s : State) : (bootRecord s).cell = s.cell := bootRecord_keeps s .cell rfl

theorem bootRecord_power (s : State) : (bootRecord s).power = s.power := bootRecord_keeps s .power rfl

theorem configReached_state (s : State) : (configReached s).cell.state = if s.kept.isSome then 3 else 2 := by
  have hkept : (configRestored s).kept = s.kept := configRestored_keeps s .kept rfl
  rw [configReached, bootRecord_cell, endStage_cell, State.enterCell_state, hkept]

theorem configReached_power (s : State) : ∃ l, (configReached s).power = { s.power with stage := 0, stageMs := l } := by
  have hentered : ∀ n, ((configRestored s).enterCell n).power = s.power := fun n =>
    Eq.trans (State.enterCell_keeps _ _ .power rfl) (configRestored_keeps s .power rfl)
  obtain ⟨l, hend⟩ := endStage_power 0 ((configRestored s).enterCell (if (configRestored s).kept.isSome then 3 else 2))
  rw [hentered] at hend
  exact ⟨l, (bootRecord_power _).trans hend⟩

/-- READY rises (R634). -/
def readyRisen (s : State) : State := { s with cell := { s.cell with ready := true } }

/-- Then the firmware confirms itself, READY rises, words are discarded and banks given. -/
theorem configStage_eq (s : State) : configStage s = [60, 61].foldl (fun s b => giveBank 5 b s) ([56, 57, 58, 59].foldl (fun s b => giveBank 4 b s)
    (discardWords (readyRisen (confirmFirmware (configReached s))))) := by
  unfold configStage configReached configRestored
  rfl

theorem configStage_keeps_confirmed (s : State) : Keeps 134742976 (readyRisen (confirmFirmware (configReached s))) (configStage s) := by
  rw [configStage_eq]
  exact .foldl (fun t b => (giveBank_keeps 5 b t).mono rfl) (.foldl (fun t b => (giveBank_keeps 4 b t).mono rfl) ((discardWords_keeps _).mono rfl))

theorem configStage_cell (s : State) : (configStage s).cell.ready = true ∧ (configStage s).cell.state = (configReached s).cell.state := by
  have hconfirmed : (confirmFirmware (configReached s)).cell = (configReached s).cell := confirmFirmware_keeps _ .cell rfl
  have hrisen : (configStage s).cell = (readyRisen (confirmFirmware (configReached s))).cell := configStage_keeps_confirmed s .cell rfl
  rw [hrisen, readyRisen, hconfirmed]
  generalize (configReached s).cell = c
  exact ⟨rfl, rfl⟩

theorem readyRisen_power (s : State) : (readyRisen s).power = s.power := rfl

theorem configStage_power (s : State) : (configStage s).power = (confirmFirmware (configReached s)).power := by
  have hrisen : (configStage s).power = (readyRisen (confirmFirmware (configReached s))).power := configStage_keeps_confirmed s .power rfl
  rw [hrisen, readyRisen_power]

/-! ### RECOVER (R630) -/

/-- RECOVER once it has taken a word of channel `ch`: the word acknowledged, and banks 0 to 31 handed to its port unless the other port owns
one. -/
def recoverTaken (ch : Nat) (s : State) : State :=
  let u := s.acknowledge ch
  if (List.range 32).any (fun b => u.owns (if ch = 0 then 5 else 4) b) then u
  else (List.range 32).foldl (fun s b => s.giveBank b (if ch = 0 then 4 else 5)) u

theorem giveBanks_keeps (f : Nat) (l : List Nat) (u : State) : Keeps 512 u (l.foldl (fun s b => s.giveBank b f) u) :=
  .foldl (fun t b => State.giveBank_keeps t b f) (.refl _ u)

theorem recoverTaken_keeps_acknowledged (ch : Nat) (s : State) : Keeps 512 (s.acknowledge ch) (recoverTaken ch s) :=
  .ite (.refl _ _) (giveBanks_keeps _ _ _)

theorem recoverTaken_keeps (ch : Nat) (s : State) : Keeps 134218496 s (recoverTaken ch s) :=
  ((s.acknowledge_keeps ch).mono rfl).trans ((recoverTaken_keeps_acknowledged ch s).mono rfl)

theorem recoverTaken_chan (ch : Nat) (s : State) : ((recoverTaken ch s).chan ch).full = false := by
  rw [State.chan_of_mbx (recoverTaken_keeps_acknowledged ch s .mbx rfl), State.chan_acknowledge]

theorem State.memGet_of_mem (h : t.pool.mem = s.pool.mem) (a n : Nat) : t.memGet a n = s.memGet a n := by
  simp only [State.memGet, State.poolByte, h]

theorem recoverWord_eq {ch : Nat} (hc : s.cell.state = 6) (hch : ch = 0 ∨ ch = 16) (hf : (s.chan ch).full = true) :
    recoverWord ch s =
      let w := (s.chan ch).word.toNat
      let u := recoverTaken ch s
      if w / 2 ^ 24 = 0 ∧ fwReason (u.memGet 0 (16 * (w % 2 ^ 24))) u.power.minSecVer = 0 ∧ !u.power.inhibit then
        let v := u.setFwSlot 0 (fwRecord (u.memGet 0 (16 * (w % 2 ^ 24))))
        deviceReset 6 { v with power := { v.power with active := 0, bootGen := wrap 32 (v.power.bootGen + 1) } }
      else u.storeWord 0 (ch / 16 * 12 + 8) 0x2000020E := by
  have hgo : ¬ (s.cell.state ≠ 6 ∨ (ch ≠ 0 ∧ ch ≠ 16) ∨ (!(s.chan ch).full) = true) := by
    rw [hc, hf]
    rcases hch with rfl | rfl <;> decide
  rw [recoverWord, if_neg hgo]
  rfl

/-- Settles O34: a stage that is not due changes nothing, and one that is due is what its lemmas above give. -/
theorem startupStagesRunInOrder : Obligations.StartupStagesRunInOrder := by
  unfold Obligations.StartupStagesRunInOrder
  refine ⟨fun s h => ⟨_, rfl, if_neg (starting_eq_false h)⟩, fun s hs h => ⟨bootChoice s, by rw [exec, execBootSlotChoice, if_pos hs], ?recover⟩,
    fun k s hs h => ⟨bootChoice s, by rw [exec, execBootSlotChoice, if_pos hs], ?boot⟩,
    fun fs p s h => ⟨_, rfl, if_neg (starting_eq_false h)⟩, fun p s hs => ⟨selfTest [] p s, by rw [exec, execStartupSelfTest, if_pos hs], ?passed⟩,
    fun fs p s hs hf => ⟨selfTest fs p s, by rw [exec, execStartupSelfTest, if_pos hs], ?fatal⟩,
    fun s h => ⟨_, rfl, if_neg (starting_eq_false h)⟩, fun s hs => ⟨glumeStart s, by rw [exec, execGlumeStartup, if_pos hs], ?glume⟩,
    fun l s h => ⟨_, rfl, if_neg (starting_eq_false h)⟩, fun l s hs => ⟨imageStage l s, by rw [exec, execStartupImageLoad, if_pos hs], ?images⟩,
    fun s h => ⟨_, rfl, if_neg (starting_eq_false h)⟩, fun s hs hk => ⟨fabricStage s, by rw [exec, execStartupFabricJoin, if_pos hs], ?fabric⟩,
    fun s h => ⟨_, rfl, if_neg (starting_eq_false h)⟩, fun s hs => ⟨configStage s, by rw [exec, execStartupConfigRestore, if_pos hs], ?config⟩,
    fun ch s h => ⟨_, rfl, if_pos (.inl h)⟩, fun ch s hc hch hf => ⟨_, rfl, ?word⟩⟩
  case recover =>
    rw [bootChoice_of_none h]
    rfl
  case boot =>
    rw [bootChoice_of_some h]
    obtain ⟨hcell, ⟨l, hpower⟩, hkey⟩ := startFirmware_spec (firmwareRuns k (trialUsed s))
    have hslot := State.fwSlot_of_slots (trialUsed_slots s) k
    have htrial : (trialUsed s).cell = s.cell := trialUsed_keeps s .cell rfl
    have hretained : (firmwareRuns k (trialUsed s)).retained 4 0 = s.retained 4 0 :=
      State.retained_of_jrnl (congrArg Journal.retained (trialUsed_keeps s .jrnl rfl :)) 4 0
    rw [hcell, hpower, hkey, hretained]
    exact ⟨rfl, rfl, congrArg FwSlot.release hslot, (congrArg CellState.state htrial :), trialUsed_trial, rfl⟩
  case passed =>
    have hfailed : Keeps 524292 s { s with power := { s.power with startFailed := if p then [250] else [] } } :=
      .power_ (.refl _ s) rfl (.inl rfl) (.inl le_rfl)
    have hrun : Keeps 524292 s { s with power := { s.power with startFailed := if p then [250] else [] }, wnw := { s.wnw with run := true } } :=
      hfailed.wnw_ rfl
    have hframe : Keeps 524292 s (selfTest [] p s) := hrun.trans ((endStage_keeps 3 _).mono rfl)
    exact ⟨rfl, rfl, rfl, hframe.touches _ (by decide)⟩
  case fatal =>
    rw [selfTest_fatal p (State.hold_of_starting hs) hf]
    exact ⟨rfl, rfl⟩
  case glume =>
    obtain ⟨u, hcell, hpower, e⟩ := glumeStart_eq s
    obtain ⟨hstage, hretained⟩ := haltIfLost_stage (endStage 4 { u with jrnl := { u.jrnl with retained := s.jrnl.retained } })
    rw [e]
    refine ⟨hstage, hretained, fun hnone => ?_, fun hpool => ?_⟩
    · rw [haltIfLost_of_none (by rw [← hnone, ← hpower]; rfl)]
      exact ⟨hcell, (congrArg PowerState.halted hpower :)⟩
    · rw [haltIfLost_of_pool (by rw [← hpool, ← hpower]; rfl)]
      exact ⟨rfl, rfl, rfl⟩
  case images =>
    obtain ⟨u, e⟩ := imageStage_eq l s
    have hlocks := fun n hn h6 => waits_lock (l := l) (n := n) hn h6 u
    rw [e]
    generalize [1, 2, 3, 4, 5, 6].foldl (waitLock l) u = v at hlocks
    refine ⟨rfl, fun n hn h1 h6 => hlocks n hn ?_⟩
    interval_cases n <;> decide
  case fabric =>
    obtain ⟨m, e⟩ := fabricStage_of_no_key hk
    have hcell := epochRestored_cell s
    rw [e]
    exact ⟨rfl, rfl, (congrArg CellState.role hcell :), (congrArg CellState.epoch hcell :)⟩
  case config =>
    obtain ⟨hready, hstate⟩ := configStage_cell s
    have hpower := configStage_power s
    obtain ⟨hstage, hactive⟩ := confirmFirmware_power (configReached s)
    obtain ⟨l, hreached⟩ := configReached_power s
    have hfloor : s.power.minSecVer ≤ (configStage s).power.minSecVer := configStage_keeps s .secFloor rfl
    rw [hpower] at hfloor ⊢
    refine ⟨hready, hstate.trans (configReached_state s), by rw [hstage, hreached], fun hi => ?_, hfloor⟩
    rw [hactive (by rw [hreached]; exact hi), hreached]
  case word =>
    rw [recoverWord_eq hc hch hf]
    have hkeeps := recoverTaken_keeps ch s
    have hpower : (recoverTaken ch s).power = s.power := hkeeps .power rfl
    have hposted : ∀ a n, (recoverTaken ch s).memGet a n = s.memGet a n := State.memGet_of_mem (hkeeps .poolMem rfl)
    have hne : ch ≠ ch / 16 * 12 + 8 := by omega
    dsimp only
    simp only [hposted, hpower, Bool.not_eq_true']
    generalize s.memGet 0 _ = bs
    split
    · refine ⟨rfl, ?_, (Table.get_set_same ({} : FwSlot) (recoverTaken ch s).power.slots 0 (fwRecord bs) :), rfl⟩
      exact (congrArg (fun p : PowerState => wrap 32 (p.bootGen + 1)) hpower :)
    · refine ⟨?_, Eq.trans (State.storeWord_keeps _ _ _ _ .power rfl) hpower, Eq.trans (State.storeWord_keeps _ _ _ _ .cell rfl) (hkeeps .cell rfl)⟩
      rw [State.chan_storeWord_other _ _ _ hne, recoverTaken_chan]

end Sys2Proof.Machine
end

section
/-! SUPPORT. CAN FD reception (R452, R456 to R459, R463): the error counter after a frame, where a frame goes, and the read view. -/

namespace Sys2Proof.Machine

variable {s : State} {c : Can} {f : CanFrame} {n k : Nat}

theorem does_onCan {i : Instr} {g : Can → Can} {P : State → Prop} (he : exec i s = onCan n s g) (hn : n < 4) (hP : P (s.setCan n (g (s.can n)))) :
    Does i s P := does_of_onUnit he hn hP

theorem State.can_of_cans {t : State} (h : t.cans = s.cans) (m : Nat) : t.can m = s.can m := by
  rw [State.can, h, State.can]

/-- The error state changes no field but itself. -/
theorem Can.errState_eq (c : Can) : ∃ x, c.errState = { c with state := x } := by
  unfold Can.errState
  split
  · exact ⟨c.state, rfl⟩
  · exact ⟨_, rfl⟩

/-- Off bus-off and integration the error state follows the counters (R463). -/
theorem Can.errState_of_on (h : c.state < 2) : c.errState = { c with state := if 127 < c.txErr ∨ 127 < c.rxErr then 1 else 0 } :=
  if_neg (by omega)

/-- The controller once it has heard a frame without error: in the restricted and monitoring modes its counter is frozen (R463). -/
def Can.heard (c : Can) (free : Nat) : Can := if c.mode = 1 ∨ c.mode = 2 then c else recDown c free

theorem Can.heard_eq (c : Can) (free : Nat) : ∃ r x, c.heard free = { c with rxErr := r, state := x } := by
  unfold Can.heard recDown
  split
  · exact ⟨c.rxErr, c.state, rfl⟩
  · obtain ⟨x, e⟩ := Can.errState_eq { c with rxErr := if c.rxErr = 0 then 0 else if c.rxErr ≤ 127 then c.rxErr - 1 else 119 + free % 9 }
    exact ⟨_, x, e⟩

/-- REC of a controller in normal mode falls by one, from above 127 to somewhere in 119 to 127. -/
theorem Can.heard_rxErr (free : Nat) (h : c.mode = 0) :
    (c.heard free).rxErr = if c.rxErr = 0 then 0 else if c.rxErr ≤ 127 then c.rxErr - 1 else 119 + free % 9 := by
  obtain ⟨x, e⟩ := Can.errState_eq { c with rxErr := if c.rxErr = 0 then 0 else if c.rxErr ≤ 127 then c.rxErr - 1 else 119 + free % 9 }
  rw [Can.heard, if_neg (by omega), recDown, e]

/-- The lowest filter that takes a frame (R456). -/
def Can.hit (c : Can) (f : CanFrame) : Option Nat := (List.range 32).find? (fun k => (Table.get {} c.filters k).hits f)

/-- The dedicated buffer or FIFO place a filter names. -/
def Can.dest (c : Can) (k : Nat) : Nat := (Table.get ({} : CanFilter) c.filters k).dest

theorem Can.accept_none (h : c.hit f = none) : c.accept f = (c, none) := by
  rw [Can.accept, show (List.range 32).find? _ = none from h]

theorem Can.accept_dedicated (h : c.hit f = some k) (hd : c.dest k < c.dedicated) : c.accept f =
    ({ c with rxBufs := Table.set {} c.rxBufs (c.dest k) (storedMsg f k (bitAt c.rxNew (c.dest k))), rxNew := setBit c.rxNew (c.dest k)
              rxOverwrite := if bitAt c.rxNew (c.dest k) then satAdd 255 c.rxOverwrite 1 else c.rxOverwrite }, some (c.dest k)) := by
  rw [Can.accept, show (List.range 32).find? _ = some k from h]
  exact if_pos hd

theorem Can.accept_full (h : c.hit f = some k) (hd : c.dedicated ≤ c.dest k) (hfull : 64 - c.dedicated ≤ c.fifo.length) :
    c.accept f = ({ c with rxFifoOvf := satAdd 255 c.rxFifoOvf 1 }, none) := by
  rw [Can.accept, show (List.range 32).find? _ = some k from h]
  exact (if_neg (by simpa [Can.dest] using hd)).trans (if_pos hfull)

theorem Can.accept_fifo (h : c.hit f = some k) (hd : c.dedicated ≤ c.dest k) (hfree : c.fifo.length < 64 - c.dedicated) :
    c.accept f = ({ c with fifo := c.fifo ++ [storedMsg f k false] }, some (c.dedicated + c.fifo.length)) := by
  rw [Can.accept, show (List.range 32).find? _ = some k from h]
  exact (if_neg (by simpa [Can.dest] using hd)).trans (if_neg (by omega))

/-- The device once controller `n` has dealt with a frame: its record, and the entry its owner is asked for (R458). -/
def canTaken (n : Nat) (r : Can × Option Nat) (s : State) : State :=
  match r.2 with
  | none => s.setCan n r.1
  | some k => canEntry n k (s.setCan n r.1)

theorem cans_canTaken (n : Nat) (r : Can × Option Nat) (s : State) : (canTaken n r s).cans = (s.setCan n r.1).cans := by
  unfold canTaken
  split
  · rfl
  · exact canEntry_keeps _ _ _ .cans rfl

theorem can_canTaken (n : Nat) (r : Can × Option Nat) (s : State) (m : Nat) : (canTaken n r s).can m = (s.setCan n r.1).can m :=
  State.can_of_cans (cans_canTaken n r s) m

theorem canReceive_of_deaf {own : Bool} (h : (s.can n).en = false ∨ (s.can n).state = 2 ∨ (s.can n).state = 3 ∨ (own = true ∧ (s.can n).mode ≠ 3)) :
    canReceive n own f s = s := if_pos (by simpa using h)

/-- A controller on the bus hears the frames of the others. -/
theorem can_hears (hen : (s.can n).en = true) (hon : (s.can n).state < 2) :
    ¬ ((!(s.can n).en) = true ∨ (s.can n).state = 2 ∨ (s.can n).state = 3 ∨ (false = true ∧ (s.can n).mode ≠ 3)) := by
  simp [hen]
  omega

theorem canReceive_of_format (hen : (s.can n).en = true) (hon : (s.can n).state < 2) (hfd : f.fdf = true) (hno : (s.can n).fdEn = false) :
    canReceive n false f s = s.setCan n (s.can n).exception :=
  (if_neg (can_hears hen hon)).trans (if_pos (by simp [hfd, hno]))

theorem canReceive_of_valid (hen : (s.can n).en = true) (hon : (s.can n).state < 2) (hfd : f.fdf = false ∨ (s.can n).fdEn = true) :
    ∃ free, canReceive n false f s = canTaken n (((s.can n).heard free).accept f) { s with freeCount := s.freeCount + 1 } := by
  refine ⟨(s.freeBelow 9).1, (if_neg (can_hears hen hon)).trans ((if_neg ?_).trans ?_)⟩
  · rcases hfd with h | h <;> simp [h]
  · rfl

/-- A frame heard and taken: what holds of the record after any hearing holds of the controller after. -/
theorem can_canReceive {P : Can → Prop} (hen : (s.can n).en = true) (hon : (s.can n).state < 2) (hfd : f.fdf = false ∨ (s.can n).fdEn = true)
    (hP : ∀ free, P (((s.can n).heard free).accept f).1) : P ((canReceive n false f s).can n) ∧
      ∀ m, m ≠ n → (canReceive n false f s).can m = s.can m := by
  obtain ⟨free, e⟩ := canReceive_of_valid hen hon hfd
  rw [e]
  refine ⟨?_, fun m hm => ?_⟩
  · rw [can_canTaken, State.can_setCan]
    exact hP free
  · rw [can_canTaken, State.can_setCan_other _ _ hm]
    rfl

/-- With no entry asked for the Lathes stay as they are. -/
theorem lathes_canReceive (hen : (s.can n).en = true) (hon : (s.can n).state < 2) (hfd : f.fdf = false ∨ (s.can n).fdEn = true)
    (hP : ∀ free, (((s.can n).heard free).accept f).2 = none) : (canReceive n false f s).lathes = s.lathes := by
  obtain ⟨free, e⟩ := canReceive_of_valid hen hon hfd
  rw [e, canTaken, hP free]
  rfl

/-- The heard record keeps what a frame's way depends on. -/
theorem Can.heard_hit (c : Can) (f : CanFrame) (free : Nat) : (c.heard free).hit f = c.hit f := by
  obtain ⟨r, x, e⟩ := c.heard_eq free
  rw [e]
  rfl

/-! ### The read view (R459) -/

theorem Can.fetch_fifo {v : Nat} {m : CanMsg} {ms : List CanMsg} (hv : field v 0 7 = 0x7F) (hf : c.fifo = m :: ms) :
    c.fetch v = { c with view := m, fifo := ms } := by
  rw [Can.fetch, hf]
  exact if_pos hv

theorem Can.fetch_empty {v : Nat} (hv : field v 0 7 = 0x7F) (hf : c.fifo = []) : c.fetch v = { c with view := { c.view with valid := false } } := by
  rw [Can.fetch, hf]
  exact if_pos hv

theorem Can.fetch_dedicated {v : Nat} (hv : field v 0 7 ≠ 0x7F) (hd : field v 0 7 < c.dedicated) :
    c.fetch v = { c with view := Table.get {} c.rxBufs (field v 0 7), rxNew := clrBit c.rxNew (field v 0 7) } := by
  rw [Can.fetch]
  exact (if_neg hv).trans (if_pos hd)

/-- A bit cleared and set again leaves the number as it was. -/
theorem setBit_clrBit {n b : Nat} (h : bitAt n b = true) : setBit (clrBit n b) b = n := by
  have hle : 2 ^ b ≤ n := by
    by_contra hlt
    simp [bitAt, Nat.div_eq_of_lt (Nat.lt_of_not_le hlt)] at h
  rw [setBit, bitAt_clrBit, if_neg nofun, clrBit, if_pos h, Nat.sub_add_cancel hle]

theorem bitAt_clrBit_other {n j b : Nat} (h : j ≠ b) : bitAt (clrBit n b) j = bitAt n j := by
  by_cases hb : bitAt n b = true
  · rw [← bitAt_setBit_other (n := clrBit n b) h, setBit_clrBit hb]
  · rw [clrBit, if_neg hb]

/-- Settles O45: the frame's way through the filters, with the counters before it. -/
theorem canReceivesFiltersAndCounts : Obligations.CanReceivesFiltersAndCounts := by
  unfold Obligations.CanReceivesFiltersAndCounts
  refine ⟨?deaf, ?format, ?dedicated, ?fifo, ?unmatched, fun _ _ _ => rfl, ?exception, ?integrated, ?error, ?head, ?empty, ?buffer, ?cnt0, ?cnt1,
    ?none⟩
  case deaf => exact fun n own f s hn h => does_of_onUnit rfl hn (canReceive_of_deaf h)
  case format => exact fun n f s hn hen hon hfd hno => does_of_onUnit rfl hn (canReceive_of_format hen hon hfd hno)
  case dedicated =>
    intro n f k s hn hen hon hfd hk hd _
    refine does_of_onUnit rfl hn ?_
    have hrecord := can_canReceive (P := fun c => Table.get {} c.rxBufs ((s.can n).dest k) = storedMsg f k (bitAt (s.can n).rxNew ((s.can n).dest k)) ∧
      bitAt c.rxNew ((s.can n).dest k) = true ∧
      c.rxOverwrite = (if bitAt (s.can n).rxNew ((s.can n).dest k) then satAdd 255 (s.can n).rxOverwrite 1 else (s.can n).rxOverwrite) ∧
      c.fifo = (s.can n).fifo) hen hon hfd fun free => by
        rw [Can.accept_dedicated (((s.can n).heard_hit f free).trans hk)]
        all_goals
          obtain ⟨r, x, e⟩ := (s.can n).heard_eq free
          rw [e]
        · exact ⟨Table.get_set_same .., bitAt_setBit _ _, rfl, rfl⟩
        · exact hd
    obtain ⟨⟨hbuf, hnew, hover, hfifo⟩, hothers⟩ := hrecord
    exact ⟨hbuf, hnew, hover, hfifo, hothers, (canReceive_keeps n false f s).touches _ (by decide)⟩
  case fifo =>
    intro n f k s hn hen hon hfd hk hd
    refine does_of_onUnit rfl hn ?_
    refine (can_canReceive (P := fun c => c.rxBufs = (s.can n).rxBufs ∧ c.rxNew = (s.can n).rxNew ∧
      if (s.can n).fifo.length < 64 - (s.can n).dedicated then c.fifo = (s.can n).fifo ++ [storedMsg f k false] ∧
        c.rxFifoOvf = (s.can n).rxFifoOvf
      else c.fifo = (s.can n).fifo ∧ c.rxFifoOvf = satAdd 255 (s.can n).rxFifoOvf 1) hen hon hfd fun free => ?_).1
    have hk' := ((s.can n).heard_hit f free).trans hk
    obtain ⟨r, x, e⟩ := (s.can n).heard_eq free
    rw [e] at hk' ⊢
    split
    next hfree =>
      rw [Can.accept_fifo hk' hd hfree]
      exact ⟨rfl, rfl, rfl, rfl⟩
    next hfull =>
      rw [Can.accept_full hk' hd (Nat.le_of_not_lt hfull)]
      exact ⟨rfl, rfl, rfl, rfl⟩
  case unmatched =>
    intro n f s hn hen hon hfd hk
    have hunmatched (free : Nat) : ((s.can n).heard free).accept f = ((s.can n).heard free, none) :=
      Can.accept_none (((s.can n).heard_hit f free).trans hk)
    refine does_of_onUnit rfl hn ?_
    have hlathes := lathes_canReceive hen hon hfd fun free => by rw [hunmatched free]
    have hrecord := (can_canReceive (P := fun c => c.rxBufs = (s.can n).rxBufs ∧ c.fifo = (s.can n).fifo ∧
      ((s.can n).mode = 0 → 0 < (s.can n).rxErr → (s.can n).rxErr ≤ 127 → c.rxErr = (s.can n).rxErr - 1) ∧
      ((s.can n).mode = 0 → 127 < (s.can n).rxErr → 119 ≤ c.rxErr ∧ c.rxErr ≤ 127)) hen hon hfd fun free => by
        rw [hunmatched free]
        refine ⟨?_, ?_, fun hmode hpos hle => ?_, fun hmode habove => ?_⟩
        · obtain ⟨r, x, e⟩ := (s.can n).heard_eq free
          rw [e]
        · obtain ⟨r, x, e⟩ := (s.can n).heard_eq free
          rw [e]
        · rw [Can.heard_rxErr free hmode, if_neg (by omega), if_pos hle]
        · rw [Can.heard_rxErr free hmode, if_neg (by omega), if_neg (by omega)]
          omega).1
    obtain ⟨hbufs, hfifo, hdown, hfall⟩ := hrecord
    exact ⟨hbufs, hfifo, hlathes, hdown, hfall⟩
  case exception => exact fun n s hn hen => does_onCan rfl hn (congrArg (s.setCan n) (if_pos hen))
  case integrated =>
    exact fun n s hn hen hwait => does_onCan rfl hn (congrArg (s.setCan n)
      ((if_pos ⟨hen, hwait⟩).trans (Can.errState_of_on (c := { s.can n with state := 0, busIdle := true }) Nat.zero_lt_two)))
  case error =>
    intro n kind heavy s hn hen hon hmode
    have hoff : ¬ ((!(s.can n).en) = true ∨ (s.can n).state = 2 ∨ (s.can n).state = 3) := by
      simp [hen]
      omega
    exact does_onCan rfl hn (congrArg (s.setCan n) ((if_neg hoff).trans ((if_neg (by omega)).trans (Can.errState_of_on hon))))
  case head => exact fun n v m ms s hn hv hf => does_onCan rfl hn (congrArg (s.setCan n) (Can.fetch_fifo hv hf))
  case empty => exact fun n v s hn hv hf => does_onCan rfl hn (congrArg (s.setCan n) (Can.fetch_empty hv hf))
  case buffer =>
    intro n v s hn hv hd
    refine does_onCan rfl hn ?_
    rw [Can.fetch_dedicated hv hd, State.can_setCan]
    exact ⟨rfl, bitAt_clrBit _ _, fun j hj => bitAt_clrBit_other hj, (State.setCan_keeps s n _).touches _ (by decide)⟩
  case cnt0 => exact fun n s hn => does_of_onUnit rfl hn rfl
  case cnt1 => exact fun n s hn => does_of_onUnit rfl hn rfl
  case none => exact fun n f s hn => ⟨onUnit_fault hn, onUnit_fault hn⟩

end Sys2Proof.Machine
end

section
/-! SUPPORT. CAN FD transmission (R460 to R463): the transmit buffers, the choice among the pending ones, and what an attempt's end makes of
buffer and counters. -/

namespace Sys2Proof.Machine

variable {s : State} {c : Can} {n b k : Nat}

/-! ### Folds over the numbers of units -/

/-- A fold over the first `n` numbers, each writing the record of its number, leaves the records above. -/
theorem foldl_range_get_above {σ β : Type} {f : σ → Nat → σ} {get : σ → Nat → β} (hother : ∀ t y p, p ≠ y → get (f t y) p = get t p) (x : σ)
    {n p : Nat} (h : n ≤ p) : get ((List.range n).foldl f x) p = get x p :=
  List.foldlRecOn (motive := fun t => get t p = get x p) (List.range n) f rfl fun t ht y hy =>
    (hother t y p (by have := List.mem_range.mp hy; omega)).trans ht

/-- In such a fold a record ends as its number leaves it in its turn, which found it as it was. -/
theorem foldl_range_get_turn {σ β : Type} {f : σ → Nat → σ} {get : σ → Nat → β} (hother : ∀ t y p, p ≠ y → get (f t y) p = get t p) (x : σ)
    {n p : Nat} (h : p < n) : ∃ t, get t p = get x p ∧ get ((List.range n).foldl f x) p = get (f t p) p := by
  induction n with
  | zero => omega
  | succ n ih =>
    rw [List.range_succ, List.foldl_append, List.foldl_cons, List.foldl_nil]
    by_cases hp : p = n
    · subst hp
      exact ⟨_, foldl_range_get_above hother x le_rfl, rfl⟩
    · obtain ⟨t, hbefore, hturn⟩ := ih (by omega)
      exact ⟨t, hbefore, (hother _ _ _ hp).trans hturn⟩

/-! ### The transmit buffers (R460, R462) -/

@[simp] theorem Can.buf_setBuf (c : Can) (b : Nat) (t : CanTxBuf) : (c.setBuf b t).buf b = t := Table.get_set_same ..

theorem Can.buf_setBuf_other (c : Can) {a b : Nat} (t : CanTxBuf) (h : a ≠ b) : (c.setBuf b t).buf a = c.buf a := Table.get_set_other _ _ _ h

theorem Can.load_of_free (h : (c.buf b).state ≠ 2) : c.load b =
    c.setBuf b { c.buf b with state := 1, msg := c.stagedMsg, tries := 0, busoffCxl := false, noRetry := false } := if_neg h

theorem Can.load_of_active (h : (c.buf b).state = 2) : c.load b = { c with loadRej := satAdd 255 c.loadRej 1 } := if_pos h

theorem Can.cancel_of_pending (h : (c.buf b).state = 1) : c.cancel b = c.setBuf b { c.buf b with state := 4 } := if_pos h

theorem Can.cancel_of_active (h : (c.buf b).state = 2) : c.cancel b =
    { c.setBuf b { c.buf b with cxlFailed := true, noRetry := true } with cxlFail := satAdd 255 c.cxlFail 1 } :=
  (if_neg (by omega)).trans (if_pos h)

theorem Can.release_of_ended (h : 3 ≤ (c.buf b).state) (h5 : (c.buf b).state ≤ 5) : c.release b = c.setBuf b { c.buf b with state := 0 } :=
  if_pos (by omega)

theorem Can.release_of_open (h : (c.buf b).state < 3) : c.release b = c := if_neg (by omega)

/-! ### The choice among the pending buffers (R460) -/

/-- The better of the best buffer so far and buffer `b`. -/
def Can.better (c : Can) (best : Option Nat) (b : Nat) : Option Nat :=
  if (c.buf b).state ≠ 1 then best
  else match best with
    | none => some b
    | some a => if (c.buf b).msg.arbitration < (c.buf a).msg.arbitration then some b else some a

theorem Can.choice_eq (c : Can) : c.choice = (List.range 32).foldl c.better none := rfl

/-- With no buffer pending none is offered. -/
theorem Can.choice_of_none (h : ∀ a, a < 32 → (c.buf a).state ≠ 1) : c.choice = none := by
  rw [c.choice_eq]
  refine List.foldlRecOn (motive := fun best => best = none) _ _ rfl fun best hbest a ha => ?_
  exact (if_pos (h a (List.mem_range.mp ha))).trans hbest

/-- Buffer `b` is pending and wins arbitration against every pending buffer below 32, on a tie as the lower number. -/
def Can.Wins (c : Can) (b : Nat) : Prop :=
  (c.buf b).state = 1 ∧ ∀ a, a < 32 → (c.buf a).state = 1 →
    (c.buf b).msg.arbitration < (c.buf a).msg.arbitration ∨ ((c.buf b).msg.arbitration = (c.buf a).msg.arbitration ∧ b ≤ a)

/-- The winner takes over from whatever pending buffer stood before it. -/
theorem Can.better_winner (hw : c.Wins b) {best : Option Nat} (hbest : ∀ a, best = some a → a < b ∧ a < 32 ∧ (c.buf a).state = 1) :
    c.better best b = some b := by
  have hpending : ¬ (c.buf b).state ≠ 1 := by simpa using hw.1
  cases best with
  | none => exact if_neg hpending
  | some a =>
    obtain ⟨hlt, hrange, hwaits⟩ := hbest a rfl
    have hless : (c.buf b).msg.arbitration < (c.buf a).msg.arbitration := by
      rcases hw.2 a hrange hwaits with h | ⟨-, h⟩
      · exact h
      · omega
    exact (if_neg hpending).trans (if_pos hless)

/-- No later buffer takes over from the winner. -/
theorem Can.better_of_winner (hw : c.Wins b) (hk : k < 32) : c.better (some b) k = some b := by
  unfold Can.better
  split
  next => rfl
  next hpending =>
    have hleast : ¬ (c.buf k).msg.arbitration < (c.buf b).msg.arbitration := by
      rcases hw.2 k hk (by simpa using hpending) with h | ⟨h, -⟩ <;> omega
    exact if_neg hleast

/-- Of the first buffers, before the winner, the best so far is a pending one of them; from the winner on it is the winner. -/
theorem Can.best_of_first (hw : c.Wins b) (hk : k ≤ 32) :
    (k ≤ b → ∀ a, (List.range k).foldl c.better none = some a → a < k ∧ (c.buf a).state = 1) ∧
      (b < k → (List.range k).foldl c.better none = some b) := by
  induction k with
  | zero => exact ⟨fun _ _ => nofun, fun h => absurd h (Nat.not_lt_zero b)⟩
  | succ k ih =>
    obtain ⟨hbefore, hafter⟩ := ih (by omega)
    rw [List.range_succ, List.foldl_append, List.foldl_cons, List.foldl_nil]
    generalize (List.range k).foldl c.better none = best at hbefore hafter ⊢
    refine ⟨fun hle a ha => ?_, fun hlt => ?_⟩
    · have hsome : ∀ a, best = some a → a < k ∧ (c.buf a).state = 1 := hbefore (by omega)
      unfold Can.better at ha
      split at ha
      next => exact ⟨by have := (hsome a ha).1; omega, (hsome a ha).2⟩
      next hpending =>
        have hk1 : (c.buf k).state = 1 := by simpa using hpending
        split at ha
        next => exact Option.some.inj ha ▸ ⟨Nat.lt_succ_self k, hk1⟩
        next a' =>
          obtain ⟨hlt, ha1⟩ := hsome a' rfl
          split at ha
          · exact Option.some.inj ha ▸ ⟨Nat.lt_succ_self k, hk1⟩
          · exact Option.some.inj ha ▸ ⟨by omega, ha1⟩
    · by_cases hkb : k = b
      · subst hkb
        refine Can.better_winner hw fun a ha => ?_
        obtain ⟨h, h1⟩ := hbefore le_rfl a ha
        exact ⟨h, by omega, h1⟩
      · rw [hafter (by omega)]
        exact Can.better_of_winner hw (by omega)

theorem Can.choice_of_winner (hw : c.Wins b) (hb : b < 32) : c.choice = some b :=
  (Can.best_of_first hw (Nat.le_refl 32)).2 hb

theorem canChoice_of_not (h : (s.can n).mayTransmit = false) : canChoice n s = s := if_pos (by simp [h])

/-- A controller that may transmit chooses while no buffer is active. -/
theorem canChoice_eq (hmay : (s.can n).mayTransmit = true) (hidle : ∀ a, a < 32 → ((s.can n).buf a).state ≠ 2) :
    canChoice n s = match (s.can n).choice with
      | none => s.setCan n { s.can n with busIdle := true }
      | some b => (s.setCan n { (s.can n).setBuf b { (s.can n).buf b with state := 2 } with busIdle := false }).send (.canFrame n b) := by
  have hnone : ¬ ((!(s.can n).mayTransmit) = true ∨ (List.range 32).any (fun b => ((s.can n).buf b).state == 2) = true) := by
    simp [hmay]
    exact hidle
  exact if_neg hnone

/-! ### An attempt's end (R461 to R463) -/

/-- The buffer once it has tried again. -/
def CanTxBuf.tried (t : CanTxBuf) : CanTxBuf := { t with tries := min 15 (t.tries + 1) }

/-- An attempt without success leaves all but the buffers and the count of those abandoned. -/
theorem Can.attemptFailed_eq (c : Can) (b : Nat) : ∃ x y, c.attemptFailed b = { c with tx := x, abandoned := y } := by
  unfold Can.attemptFailed
  extract_lets
  split
  · exact ⟨_, _, rfl⟩
  · split <;> exact ⟨_, _, rfl⟩

theorem Can.attemptFailed_other {a : Nat} (h : a ≠ b) : (c.attemptFailed b).buf a = c.buf a := by
  unfold Can.attemptFailed
  extract_lets
  split
  · exact Can.buf_setBuf_other _ _ h
  · split
    · exact Can.buf_setBuf_other c { (c.buf b).tried with state := 5 } h
    · exact Can.buf_setBuf_other _ _ h

/-- A cyclic buffer waits again. -/
theorem Can.attemptFailed_cyclic (hretry : (c.buf b).noRetry = false) (hclass : (c.buf b).service b = false) :
    c.attemptFailed b = c.setBuf b { (c.buf b).tried with state := 1 } := by
  have hkept : ¬ (((c.buf b).tried.service b && decide (c.retryLimit < (c.buf b).tries + 1)) = true) := by
    rw [show (c.buf b).tried.service b = false from hclass]
    nofun
  exact (if_neg (show ¬ (c.buf b).noRetry = true by rw [hretry]; nofun)).trans (if_neg hkept)

/-- A service buffer past the limit is abandoned. -/
theorem Can.attemptFailed_abandoned (hretry : (c.buf b).noRetry = false) (hclass : (c.buf b).service b = true)
    (hlimit : c.retryLimit < (c.buf b).tries + 1) :
    c.attemptFailed b = { c.setBuf b { (c.buf b).tried with state := 5 } with abandoned := satAdd 255 c.abandoned 1 } := by
  have hbeyond : ((c.buf b).tried.service b && decide (c.retryLimit < (c.buf b).tries + 1)) = true := by
    rw [show (c.buf b).tried.service b = true from hclass, decide_eq_true hlimit]
    rfl
  exact (if_neg (show ¬ (c.buf b).noRetry = true by rw [hretry]; nofun)).trans (if_pos hbeyond)

/-- What bus-off does to buffer `b`. -/
def Can.busOffBuf (c : Can) (b : Nat) : Can :=
  if ((c.buf b).state = 1 ∨ (c.buf b).state = 2) ∧ !(c.buf b).service b then
    c.setBuf b { c.buf b with state := 4, busoffCxl := true, noRetry := false }
  else if (c.buf b).state = 2 then c.attemptFailed b
  else c

theorem Can.busOffBuffers_eq (c : Can) : c.busOffBuffers = (List.range 32).foldl Can.busOffBuf c := rfl

theorem Can.busOffBuf_other (c : Can) (b a : Nat) (h : a ≠ b) : (c.busOffBuf b).buf a = c.buf a := by
  unfold Can.busOffBuf
  split
  · exact Can.buf_setBuf_other _ _ h
  · split
    · exact Can.attemptFailed_other h
    · rfl

/-- A cyclic buffer that waits or is being sent is cancelled at bus-off. -/
theorem Can.busOffBuffers_cyclic {a : Nat} (ha : a < 32) (hclass : (c.buf a).service a = false)
    (hopen : (c.buf a).state = 1 ∨ (c.buf a).state = 2) :
    (c.busOffBuffers.buf a).state = 4 ∧ (c.busOffBuffers.buf a).busoffCxl = true := by
  obtain ⟨t, hbefore, hturn⟩ := foldl_range_get_turn (get := Can.buf) Can.busOffBuf_other c ha
  have hcancel : (t.busOffBuf a).buf a = { t.buf a with state := 4, busoffCxl := true, noRetry := false } := by
    rw [Can.busOffBuf, if_pos (by rw [hbefore]; exact ⟨hopen, by rw [hclass]; rfl⟩), Can.buf_setBuf]
  rw [c.busOffBuffers_eq, hturn, hcancel]
  exact ⟨rfl, rfl⟩

theorem canAttemptEnd_of_idle {r : CanEnd} (h : ∀ a, a < 32 → ((s.can n).buf a).state ≠ 2) : canAttemptEnd n r s = s := by
  have hnone : (List.range 32).find? (fun b => ((s.can n).buf b).state == 2) = none := by simpa using h
  rw [canAttemptEnd, hnone]

/-- The controller's record once the attempt of its active buffer has ended. -/
theorem can_canAttemptEnd {r : CanEnd} (h : (List.range 32).find? (fun b => ((s.can n).buf b).state == 2) = some b) :
    (canAttemptEnd n r s).can n = (s.can n).attemptEnd b r := by
  rw [canAttemptEnd, h]
  dsimp only
  split
  · rw [State.can_of_cans (canEntry_keeps _ _ _ .cans rfl), State.can_setCan]
  · rw [State.can_setCan]

/-- A step that ends an attempt meets whatever the controller's new record meets. -/
theorem does_canAttemptEnd {r : CanEnd} {P : Can → Prop} (hn : n < 4)
    (h : (List.range 32).find? (fun b => ((s.can n).buf b).state == 2) = some b) (hP : P ((s.can n).attemptEnd b r)) :
    Does (.canAttemptEnd n r) s (fun t => P (t.can n)) :=
  does_of_onUnit rfl hn (by rw [can_canAttemptEnd h]; exact hP)

/-- With TEC within range an error ends the attempt without success and moves the error state. -/
theorem Can.attemptEnd_error (hon : c.state < 2) (h : c.txErr + 8 ≤ 255) : ∃ x y, c.attemptEnd b (.error k false) =
    { c with lec := k, txErr := c.txErr + 8, tx := x, abandoned := y, state := if 127 < c.txErr + 8 ∨ 127 < c.rxErr then 1 else 0 } := by
  obtain ⟨x, y, hfailed⟩ := Can.attemptFailed_eq { c with lec := k, txErr := c.txErr + 8 } b
  refine ⟨x, y, (if_neg (Nat.not_lt.mpr h)).trans ?_⟩
  refine (congrArg Can.errState hfailed).trans (Can.errState_of_on hon)

/-- Past 255 it is bus-off. -/
theorem Can.attemptEnd_busOff (hon : c.state < 2) (h : 255 < c.txErr + 8) : c.attemptEnd b (.error k false) =
    { Can.busOffBuffers { c with lec := k, txErr := c.txErr + 8 } with state := 2, recovering := c.autoRecover, busOff := satAdd 255 c.busOff 1 } :=
  (if_pos h).trans (if_pos ⟨h, by show c.state ≠ 2; omega⟩)

/-- Settles O46: the buffers' rules, the winner as the invariant of the search, and the counters at an attempt's end. -/
theorem canTransmitsByArbitrationAndRetries : Obligations.CanTransmitsByArbitrationAndRetries := by
  unfold Obligations.CanTransmitsByArbitrationAndRetries
  refine ⟨?load, ?loadActive, ?cancel, ?cancelActive, ?release, ?releaseOpen, ?recovery, ?noRecovery, ?recovered, ?silent, ?choice, ?nothing,
    ?idle, ?ok, ?lost, ?abandoned, ?error, ?busOff⟩
  case load =>
    intro n b s hn hb hfree
    refine does_onCan rfl hn ?_
    rw [if_pos hb, Can.load_of_free hfree, State.can_setCan, Can.buf_setBuf]
    exact ⟨rfl, rfl, rfl, fun a ha => Can.buf_setBuf_other _ _ ha, fun m hm => State.can_setCan_other _ _ hm,
      (State.setCan_keeps s n _).touches _ (by decide)⟩
  case loadActive => exact fun n b s hn hb h => does_onCan rfl hn (congrArg (s.setCan n) ((if_pos hb).trans (Can.load_of_active h)))
  case cancel => exact fun n b s hn hb h => does_onCan rfl hn (congrArg (s.setCan n) ((if_pos hb).trans (Can.cancel_of_pending h)))
  case cancelActive =>
    intro n b s hn hb h
    refine does_onCan rfl hn ?_
    rw [if_pos hb, Can.cancel_of_active h, State.can_setCan]
    refine ⟨?_, ?_, ?_, rfl⟩
    all_goals
      rw [show Can.buf { (s.can n).setBuf b { (s.can n).buf b with cxlFailed := true, noRetry := true } with
        cxlFail := satAdd 255 (s.can n).cxlFail 1 } b = _ from Can.buf_setBuf (s.can n) b _]
    exact h
  case release => exact fun n b s hn hb h h5 => does_onCan rfl hn (congrArg (s.setCan n) ((if_pos hb).trans (Can.release_of_ended h h5)))
  case releaseOpen =>
    intro n b s hn h
    refine does_onCan rfl hn ?_
    rw [Can.release_of_open h, ite_self, State.can_setCan]
  case recovery => exact fun n s hn h => does_onCan rfl hn (congrArg (s.setCan n) (if_pos h))
  case noRecovery => exact fun n s hn h => does_onCan rfl hn ((State.can_setCan _ _ _).trans (if_neg h))
  case recovered => exact fun n s hn h hrec => does_onCan rfl hn (congrArg (s.setCan n) (if_pos ⟨h, hrec⟩))
  case silent => exact fun n s hn h => does_of_onUnit rfl hn (canChoice_of_not h)
  case choice =>
    intro n b s hn hmay hidle hb hpending hleast
    refine does_of_onUnit rfl hn ?_
    have hkeeps := canChoice_keeps n s
    rw [canChoice_eq hmay hidle, Can.choice_of_winner ⟨hpending, hleast⟩ hb] at hkeeps ⊢
    have hcan := State.can_setCan s n { (s.can n).setBuf b { (s.can n).buf b with state := 2 } with busIdle := false }
    refine ⟨?_, congrArg Can.busIdle hcan, rfl, fun a ha => ?_, fun m hm => State.can_setCan_other _ _ hm, hkeeps.touches _ (by decide)⟩
    · refine (congrArg (fun c : Can => (c.buf b).state) hcan).trans ?_
      exact congrArg CanTxBuf.state (Can.buf_setBuf (s.can n) b { (s.can n).buf b with state := 2 })
    · refine (congrArg (fun c : Can => c.buf a) hcan).trans ?_
      exact Can.buf_setBuf_other (s.can n) { (s.can n).buf b with state := 2 } ha
  case nothing =>
    intro n s hn hmay hidle
    refine does_of_onUnit rfl hn ?_
    rw [canChoice_eq hmay fun a ha => (hidle a ha).1, Can.choice_of_none fun a ha => (hidle a ha).2]
  case idle => exact fun n r s hn h => does_of_onUnit rfl hn (canAttemptEnd_of_idle h)
  case ok =>
    intro n b s hn hb hon _
    refine does_of_onUnit rfl hn ?_
    have hkeeps := (canAttemptEnd_keeps n .ok s).touches [.lathes, .cans] (by decide)
    rw [can_canAttemptEnd hb]
    obtain ⟨x, e⟩ := Can.errState_eq
      { (s.can n).setBuf b { (s.can n).buf b with state := 3, noRetry := false } with txErr := (s.can n).txErr - 1, lec := 0 }
    rw [Can.attemptEnd, e]
    exact ⟨congrArg CanTxBuf.state (Can.buf_setBuf (s.can n) b { (s.can n).buf b with state := 3, noRetry := false }), rfl, rfl,
      fun a ha => Can.buf_setBuf_other (s.can n) { (s.can n).buf b with state := 3, noRetry := false } ha, hkeeps⟩
  case lost =>
    intro n b s hn hb hretry hclass
    refine does_canAttemptEnd (P := fun c => (c.buf b).state = 1 ∧ (c.buf b).tries = min 15 (((s.can n).buf b).tries + 1) ∧
      c.arbLost = satAdd 255 (s.can n).arbLost 1 ∧ c.txErr = (s.can n).txErr) hn hb ?_
    rw [Can.attemptEnd, Can.attemptFailed_cyclic hretry hclass]
    have hbuf := Can.buf_setBuf (s.can n) b { ((s.can n).buf b).tried with state := 1 }
    exact ⟨congrArg CanTxBuf.state hbuf, congrArg CanTxBuf.tries hbuf, rfl, rfl⟩
  case abandoned =>
    intro n b s hn hb hretry hclass hlimit
    refine does_canAttemptEnd (P := fun c => (c.buf b).state = 5 ∧ c.abandoned = satAdd 255 (s.can n).abandoned 1) hn hb ?_
    rw [Can.attemptEnd, Can.attemptFailed_abandoned hretry hclass hlimit]
    exact ⟨congrArg CanTxBuf.state (Can.buf_setBuf (s.can n) b { ((s.can n).buf b).tried with state := 5 }), rfl⟩
  case error =>
    intro n b k s hn hb hon h
    obtain ⟨x, y, e⟩ := Can.attemptEnd_error (b := b) (k := k) hon h
    refine does_canAttemptEnd (P := fun c => c.txErr = (s.can n).txErr + 8 ∧ c.lec = k ∧
      c.state = if 127 < (s.can n).txErr + 8 ∨ 127 < (s.can n).rxErr then 1 else 0) hn hb ?_
    rw [e]
    exact ⟨rfl, rfl, rfl⟩
  case busOff =>
    intro n b k s hn hb hon h
    refine does_canAttemptEnd (P := fun c => c.state = 2 ∧ c.recovering = (s.can n).autoRecover ∧ c.busOff = satAdd 255 (s.can n).busOff 1 ∧
      ∀ a, a < 32 → ((s.can n).buf a).service a = false → ((s.can n).buf a).state = 1 ∨ ((s.can n).buf a).state = 2 →
        (c.buf a).state = 4 ∧ (c.buf a).busoffCxl = true) hn hb ?_
    have hcyclic (a : Nat) := Can.busOffBuffers_cyclic (c := { s.can n with lec := k, txErr := (s.can n).txErr + 8 }) (a := a)
    rw [Can.attemptEnd_busOff hon h]
    generalize Can.busOffBuffers { s.can n with lec := k, txErr := (s.can n).txErr + 8 } = d at hcyclic ⊢
    exact ⟨rfl, rfl, rfl, hcyclic⟩

end Sys2Proof.Machine
end

section
/-! SUPPORT. Time bases, compare units and capture pins (R488 to R502): the servo and its samples, conversions, matches and captures. -/

namespace Sys2Proof.Machine

variable {s t : State} {m n u p e : Nat}

/-! ### The servo (R490, R491, R503) -/

theorem State.bases_evaluateUnits (s : State) (n : Nat) : (s.evaluateUnits n).time.bases = s.time.bases := by
  unfold State.evaluateUnits
  refine List.foldlRecOn (motive := fun t : State => t.time.bases = s.time.bases) _ _ rfl fun t ht k _ => ?_
  dsimp only
  split
  · exact ht
  · exact ht

theorem State.base_of_bases (h : t.time.bases = s.time.bases) (n : Nat) : t.base n = s.base n := by
  rw [State.base, h, State.base]

theorem State.base_evaluateUnits (s : State) (n k : Nat) : (s.evaluateUnits n).base k = s.base k :=
  State.base_of_bases (s.bases_evaluateUnits n) k

theorem servoSample_of_off {o : Int} (h : (s.base n).servoEn = false) :
    servoSample n o s = s.setBase n { s.base n with ofsIgn := satAdd 255 (s.base n).ofsIgn 1 } := if_pos (by simp [h])

/-- A sample that reaches a servo changes the base's record; units may match besides. -/
theorem base_servoSample {o : Int} (h : (s.base n).servoEn = true) (k : Nat) :
    (servoSample n o s).base k = (s.setBase n ((s.base n).sample o s.gtc)).base k := by
  have hon : ¬ (!(s.base n).servoEn) = true := by simp [h]
  rw [servoSample, if_neg hon]
  split
  · exact State.base_evaluateUnits _ _ _
  · rfl

/-- The servo takes its offset (R490). -/
theorem TimeBase.sample_of_near {b : TimeBase} {o : Int} (gtc : Nat) (h : b.stepNs = 0 ∨ o.natAbs < b.stepNs * 2 ^ 16) :
    ∃ run lock, b.sample o gtc = { b with
      samples := wrap 8 (b.samples + 1), holdover := false, lastSample := gtc, integ := clampI (-b.adjMax) b.adjMax (b.integ - gainTerm b.ki o)
      adj := clampI (-b.adjMax) b.adjMax (clampI (-b.adjMax) b.adjMax (b.integ - gainTerm b.ki o) - gainTerm b.kp o)
      lockRun := run, locked := lock, lastOfs := o } :=
  ⟨_, _, if_neg (by show ¬ (0 < b.stepNs ∧ b.stepNs * 2 ^ 16 ≤ o.natAbs); omega)⟩

/-- The base steps by an offset of TB_STEP or more. -/
theorem TimeBase.sample_of_far {b : TimeBase} {o : Int} (gtc : Nat) (h : 0 < b.stepNs) (hfar : b.stepNs * 2 ^ 16 ≤ o.natAbs) :
    b.sample o gtc = { b with
      samples := wrap 8 (b.samples + 1), holdover := false, lastSample := gtc
      val := (((b.val : Int) - o * (2 ^ 24 : Int)) % (baseSpan : Int)).toNat, steps := satAdd 255 b.steps 1, locked := false, lockRun := 0
      lastStep := gtc } :=
  if_pos ⟨h, hfar⟩

theorem isLathe_of_lt (he : e < 16) : isLathe (0x10 + e) = true := by
  simp [isLathe]
  omega

/-- The Lathe that a base's network names. -/
theorem lathe_of_base (he : e < 16) (hb : s.baseLathe n = some e) : isLathe (0x10 + e) = true ∧ s.baseLathe n = some (0x10 + e - 0x10) :=
  ⟨isLathe_of_lt he, by rw [hb, Nat.add_sub_cancel_left]⟩

theorem tbOfsWrite_of_lathe (o : Word) (hn : n < 8) (he : e < 16) (hb : s.baseLathe n = some e) :
    tbOfsWrite (0x10 + e) n o s = servoSample n (toS 32 o.toNat) s := if_pos ⟨hn, lathe_of_base he hb⟩

theorem tbOfsWrite_of_other (o : Word) (h : ∀ e, s.baseLathe n = some e → m ≠ 0x10 + e) : tbOfsWrite m n o s = s := by
  refine if_neg fun ⟨_, hlathe, hb⟩ => h _ hb ?_
  simp only [isLathe, Bool.and_eq_true, decide_eq_true_eq] at hlathe
  omega

theorem convStart_base (n hi : Nat) (s : State) : ∃ b, convStart n hi s = s.setBase n b ∧ b.convHi = hi ∧ b.convReady = s.time.clk + 8 ∧
    b.convErr = !decide (hi * 2 ^ 32 + (s.base n).convLo ≤ s.gtc ∧ s.gtc - (hi * 2 ^ 32 + (s.base n).convLo) < 2 ^ 31) ∧
    b.conv = if hi * 2 ^ 32 + (s.base n).convLo ≤ s.gtc ∧ s.gtc - (hi * 2 ^ 32 + (s.base n).convLo) < 2 ^ 31 then
      (convert { s.base n with convHi := hi } (s.base 0) s.gtc (hi * 2 ^ 32 + (s.base n).convLo) % (2 ^ 48 * 1000000000 * 2 ^ 16 : Nat)).toNat
      else 0 :=
  ⟨_, rfl, rfl, rfl, rfl, rfl⟩

theorem enterHoldover_base (hen : (s.base n).servoEn = true) (hno : (s.base n).holdover = false) :
    ((enterHoldover n s).base n).holdover = true ∧ ((enterHoldover n s).base n).locked = false := by
  have h : (s.base n).servoEn = true ∧ (!(s.base n).holdover) = true := by simp [hen, hno]
  rw [enterHoldover, if_pos h, State.base_event, State.updBase_eq, State.base_setBase]
  exact ⟨rfl, rfl⟩

/-! ### Compare units (R496) -/

theorem State.cmp_of_time (h : t.time = s.time) (u : Nat) : t.cmp u = s.cmp u := by
  rw [State.cmp, h, State.cmp]

theorem cmp_pinAction (u : Nat) (k : CmpUnit) (s : State) (v : Nat) : (pinAction u k s).cmp v = s.cmp v := by
  unfold pinAction
  extract_lets
  split <;> rfl

/-- What a match starts leaves the compare units alone. -/
theorem cmp_matchActions (u : Nat) (k : CmpUnit) (s : State) (v : Nat) : (matchActions u k s).cmp v = s.cmp v := by
  unfold matchActions
  extract_lets w x
  have hw : w.cmp v = s.cmp v := by
    unfold w
    split
    · rfl
    · exact cmp_pinAction u k s v
  clear_value w
  have hx : x.cmp v = s.cmp v := by
    refine (State.cmp_of_time ?_ v).trans hw
    unfold x
    split
    · rfl
    · refine List.foldlRecOn (motive := fun t : State => t.time = w.time) _ _ rfl fun t ht g _ => ?_
      split
      · exact ht
      · exact ht
  clear_value x
  split
  · exact hw
  · split
    · exact (State.cmp_of_time (State.requestEntry_keeps _ _ _ _ _ .time rfl) v).trans hx
    · exact hx

theorem State.cmp_advance (n : Nat) (s : State) (u : Nat) : (s.advance n).cmp u = s.cmp u := rfl

theorem cmp_compareMatch (hu : u ≠ 0) (hconv : s.converterUnit u = false) (harm : (s.cmp u).arm = true) :
    (compareMatch u s).cmp u = (s.cmp u).matched := by
  have hconverter : ¬ s.converterUnit u = true := by rw [hconv]; nofun
  have hunarmed : ¬ (!(s.cmp u).arm) = true := by rw [harm]; nofun
  rw [compareMatch, if_neg hu, if_neg hconverter, if_neg hunarmed, cmp_matchActions, State.updCmp_eq, State.cmp_setCmp, State.cmp_advance]

theorem compareMatch_of_unarmed (hu : u ≠ 0) (hconv : s.converterUnit u = false) (harm : (s.cmp u).arm = false) : compareMatch u s = s := by
  have hconverter : ¬ s.converterUnit u = true := by rw [hconv]; nofun
  rw [compareMatch, if_neg hu, if_neg hconverter]
  exact if_pos (by rw [harm]; rfl)

theorem armUnit_eq (u target : Nat) (s : State) : ∃ late ev, armUnit u target s = s.setCmp u { s.cmp u with target := target, late := late, lateEv := ev } ∧
    ((s.cmp u).arm = true → CmpUnit.diff { s.cmp u with target := target } (s.base (s.cmp u).tb) ≤ 0 → late = true) := by
  by_cases h : ((s.cmp u).arm && decide (CmpUnit.diff { s.cmp u with target := target } (s.base (s.cmp u).tb) ≤ 0)) = true
  · exact ⟨true, _, congrArg (s.setCmp u) (if_pos h), fun _ _ => rfl⟩
  · exact ⟨_, _, congrArg (s.setCmp u) (if_neg h), fun harm hle => absurd (Bool.and_eq_true_iff.mpr ⟨harm, decide_eq_true hle⟩) h⟩

/-! ### Capture pins (R500) -/

theorem cap_captureEdge {rising : Bool} (stamp : Nat) (h : bitAt (s.cap p).edge (if rising then 0 else 1) = true) :
    captureEdge p rising stamp s = s.setCap p (if 4 ≤ (s.cap p).fifo.length then { s.cap p with level := rising, ovf := satAdd 255 (s.cap p).ovf 1 }
      else { s.cap p with level := rising, fifo := (s.cap p).fifo ++ [stamp] }) := by
  have hwanted : ¬ (!((rising && bitAt (s.cap p).edge 0) || (!rising && bitAt (s.cap p).edge 1))) = true := by
    cases rising <;> simpa using h
  exact congrArg (s.setCap p) (if_neg hwanted)

/-- Settles O26: the servo's two reactions, a match and what it starts, and the reads that clear. -/
theorem timeBaseCompareAndCaptureRows : Obligations.TimeBaseCompareAndCaptureRows := by
  unfold Obligations.TimeBaseCompareAndCaptureRows
  refine ⟨?near, ?far, ?off, ?foreign, ?latch, ?convert, ?holdover, ?matched, ?unarmed, ?target, ?notOwned, ?capture, ?pop, ?snapped, ?tbStatus,
    ?cmpStatus, ?capStatus, ?tsIns⟩
  case near =>
    intro n e o s hn he hb hen hnear
    refine ⟨_, rfl, ?_⟩
    have hkeeps := (tbOfsWrite_keeps (0x10 + e) n o s).touches [.time] (by decide)
    have hbase := base_servoSample (o := toS 32 o.toNat) hen
    obtain ⟨run, lock, hsample⟩ := TimeBase.sample_of_near (b := s.base n) s.gtc hnear
    have hown := hbase n
    rw [State.base_setBase, hsample] at hown
    rw [tbOfsWrite_of_lathe o hn he hb] at hkeeps ⊢
    beta_reduce
    rw [hown]
    exact ⟨rfl, rfl, rfl, rfl, rfl, rfl, fun m hm => by rw [hbase, State.base_setBase_other _ _ hm], hkeeps⟩
  case far =>
    intro n e o s hn he hb hen hstep hfar
    refine ⟨_, rfl, ?_⟩
    have hkeeps := (tbOfsWrite_keeps (0x10 + e) n o s).touches [.time] (by decide)
    have hbase := base_servoSample (o := toS 32 o.toNat) hen n
    rw [State.base_setBase, TimeBase.sample_of_far s.gtc hstep hfar] at hbase
    rw [tbOfsWrite_of_lathe o hn he hb] at hkeeps ⊢
    beta_reduce
    rw [hbase]
    exact ⟨Int.toNat_of_nonneg (Int.emod_nonneg _ (by decide)), rfl, rfl, rfl, hkeeps⟩
  case off => exact fun n e o s hn he hb hen => ⟨_, rfl, (tbOfsWrite_of_lathe o hn he hb).trans (servoSample_of_off hen)⟩
  case foreign => exact fun m n o s h => ⟨_, rfl, tbOfsWrite_of_other o h⟩
  case latch =>
    intro m n s hn
    refine ⟨_, rfl, ?_⟩
    have hkeeps := (tbNsRead_keeps m n s).touches [.time, .rd] (by decide)
    have hread : tbNsRead m n s = (s.setLatch (n * 64 + m) (s.base n).latched).returns (s.base n).latched.ns := if_pos hn
    rw [hread] at hkeeps ⊢
    exact ⟨rfl, State.latch_setLatch _ _ _, rfl, hkeeps⟩
  case convert =>
    intro n e w s hpos hn he hb
    refine ⟨_, rfl, ?_⟩
    have hkeeps := (convStart_keeps n w.toNat s).touches [.time] (by decide)
    have hwrite : tbConvHiWrite (0x10 + e) n w s = convStart n w.toNat s := if_pos ⟨hpos, hn, lathe_of_base he hb⟩
    obtain ⟨b, hconv, hhi, hready, herr, hresult⟩ := convStart_base n w.toNat s
    rw [hwrite]
    rw [hconv] at hkeeps ⊢
    dsimp only
    rw [State.base_setBase]
    refine ⟨herr, hready, hhi, fun hle hlt => ?_, fun m hm => State.base_setBase_other _ _ hm, hkeeps⟩
    rw [hresult, if_pos ⟨hle, hlt⟩]
    rfl
  case holdover =>
    intro n s hn hen hno
    refine does_of_onUnit rfl hn ?_
    obtain ⟨hhold, hlock⟩ := enterHoldover_base hen hno
    exact ⟨hhold, hlock, (enterHoldover_keeps n s).touches _ (by decide)⟩
  case matched =>
    intro u s hlow hu harm
    refine does_of_onUnit rfl hu ?_
    have hconv : s.converterUnit u = false := by simp [State.converterUnit]; omega
    rw [cmp_compareMatch (by omega) hconv harm]
    unfold CmpUnit.matched
    dsimp only
    split
    next hp => exact ⟨rfl, fun _ => rfl, fun h => absurd hp h⟩
    next hp => exact ⟨rfl, fun h => absurd h hp, fun _ => ⟨harm, rfl⟩⟩
  case unarmed => exact fun u s hpos hu hconv harm => does_of_onUnit rfl hu (compareMatch_of_unarmed (by omega) hconv harm)
  case target =>
    intro m u w s hown
    refine ⟨_, rfl, ?_⟩
    have hkeeps := (armUnit_keeps u w.toNat s).touches [.time] (by decide)
    have hwrite : cmpTargetWrite m u w s = armUnit u w.toNat s := if_pos hown
    obtain ⟨late, ev, harm, hlate⟩ := armUnit_eq u w.toNat s
    rw [hwrite]
    rw [harm] at hkeeps ⊢
    beta_reduce
    rw [State.cmp_setCmp]
    exact ⟨rfl, rfl, hlate, fun v hv => State.cmp_setCmp_other _ _ hv, hkeeps⟩
  case notOwned => exact fun m u w s hown => ⟨_, rfl, if_neg (by rw [hown]; nofun)⟩
  case capture =>
    intro p rising stamp s hp h
    refine does_of_onUnit rfl hp ?_
    have hkeeps (c : CapPin) := (State.setCap_keeps s p c).touches [.time] (by decide)
    rw [cap_captureEdge stamp h, State.cap_setCap]
    split
    next hfull => exact ⟨rfl, fun hlt => absurd hfull (by omega), fun _ => ⟨rfl, rfl⟩, fun q hq => State.cap_setCap_other _ _ hq, hkeeps _⟩
    next hfree => exact ⟨rfl, fun _ => ⟨rfl, rfl⟩, fun hle => absurd hle hfree, fun q hq => State.cap_setCap_other _ _ hq, hkeeps _⟩
  case pop =>
    intro p s hp hsnap
    refine ⟨_, rfl, ?_⟩
    simp [capHiRead, CapPin.head, hp, hsnap]
  case snapped =>
    intro p s hp hsnap
    refine ⟨_, rfl, ?_⟩
    simp [capHiRead, CapPin.head, hp, hsnap]
  case tbStatus => exact fun n s hn => ⟨_, rfl, if_pos hn⟩
  case cmpStatus => exact fun u s hu => ⟨_, rfl, if_pos hu⟩
  case capStatus => exact fun p s hp => ⟨_, rfl, if_pos hp⟩
  case tsIns => exact fun n s hn => ⟨_, rfl, if_pos hn⟩

end Sys2Proof.Machine
end

section
/-! SUPPORT. The TIME and FW commands (R489 to R500, R625, R629): compare units handed out, a base that is set, firmware slots written. -/

namespace Sys2Proof.Machine

variable {s : State} {n u : Nat}

/-! ### Time bases and compare units (R489, R492, R497) -/

/-- Compare units given to an owner, with the base they follow (R492). -/
def giveUnits (n o units : Nat) (s : State) : State :=
  ((List.range 32).filter (bitAt units ·)).foldl (fun s u => s.updCmp u (fun k => { k with tb := n, owner := ownerOctet o })) s

theorem giveUnits_keeps (n o units : Nat) (s : State) : Keeps 1 s (giveUnits n o units s) := Keeps.foldl (fun t u => State.updCmp_keeps t u _) (.refl _ s)

theorem base_giveUnits (n o units : Nat) (s : State) (m : Nat) : (giveUnits n o units s).base m = s.base m :=
  List.foldlRecOn (motive := fun t : State => t.base m = s.base m) _ _ rfl fun _ ht _ _ => ht

theorem cmp_giveUnits {o units : Nat} (s : State) (hu : u < 32) :
    (giveUnits n o units s).cmp u = if bitAt units u then { s.cmp u with tb := n, owner := ownerOctet o } else s.cmp u := by
  have hother (t : State) (v : Nat) (h : u ≠ v) : (t.updCmp v (fun k => { k with tb := n, owner := ownerOctet o })).cmp u = t.cmp u :=
    State.cmp_setCmp_other _ _ h
  split
  next hbit =>
    have hmem : u ∈ (List.range 32).filter (bitAt units ·) := List.mem_filter.mpr ⟨List.mem_range.mpr hu, hbit⟩
    obtain ⟨t, -, hbefore, hturn⟩ := foldl_get_turn (key := id) (get := State.cmp) (R := fun _ => True) hother (s := s) trivial (fun _ _ h => h)
      (by rw [List.map_id]; exact List.nodup_range.filter _) hmem
    refine Eq.trans hturn ?_
    rw [State.updCmp_eq, id, State.cmp_setCmp, show t.cmp u = s.cmp u from hbefore]
  next hbit => exact foldl_get_other (key := id) (get := State.cmp) hother (by rw [List.map_id, List.mem_filter]; exact fun h => hbit h.2) s

/-- The next edge moved to the grid of GTC as it stands. -/
def edgeOnGrid (s : State) : State :=
  let len := s.tickLen
  { s with cell := { s.cell with nextEdge := ceilDiv (s.gtc + len) len * len } }

/-- The base set, with the units that are now past. -/
def baseSet (n sec ns : Nat) (s : State) : State :=
  (s.updBase n (fun b => { b with val := (wrap 48 sec * 1000000000 + ns) * 2 ^ 40, lastStep := s.gtc })).evaluateUnits n

theorem setBaseTime_eq (n sec ns : Nat) (s : State) : setBaseTime n sec ns s = if n = 0 then edgeOnGrid (baseSet n sec ns s) else baseSet n sec ns s := by
  unfold setBaseTime baseSet edgeOnGrid
  rfl

theorem baseSet_keeps (n sec ns : Nat) (s : State) : Keeps 1 s (baseSet n sec ns s) := (State.updBase_keeps s n _).trans (State.evaluateUnits_keeps _ n)

/-- The base that TIME.SET sets (R489). -/
theorem base_setBaseTime (n sec ns : Nat) (s : State) (k : Nat) : (setBaseTime n sec ns s).base k =
    (s.setBase n { s.base n with val := (wrap 48 sec * 1000000000 + ns) * 2 ^ 40, lastStep := s.gtc }).base k := by
  have hset : (baseSet n sec ns s).base k = _ := State.base_evaluateUnits _ n k
  rw [← State.updBase_eq (f := fun b => { b with val := (wrap 48 sec * 1000000000 + ns) * 2 ^ 40, lastStep := s.gtc }), ← hset, setBaseTime_eq]
  generalize baseSet n sec ns s = v
  split <;> rfl

theorem setBaseTime_keeps_time (sec ns : Nat) (s : State) (hn : n ≠ 0) : Keeps 1 s (setBaseTime n sec ns s) := by
  rw [setBaseTime_eq, if_neg hn]
  exact baseSet_keeps n sec ns s

theorem cell_edgeOnGrid (s : State) : ∃ k, (edgeOnGrid s).cell = { s.cell with nextEdge := k * s.tickLen } := ⟨_, rfl⟩

/-- Setting TB0 puts the next edge on a multiple of the tick length; nothing else of the cell changes (R489). -/
theorem cell_setBaseTime (sec ns : Nat) (s : State) : ∃ k, (setBaseTime 0 sec ns s).cell = { s.cell with nextEdge := k * s.tickLen } := by
  have hcell : (baseSet 0 sec ns s).cell = s.cell := baseSet_keeps 0 sec ns s .cell rfl
  rw [setBaseTime_eq, if_pos rfl, State.tickLen, ← hcell]
  exact cell_edgeOnGrid _

theorem armUnit_target (u target : Nat) (s : State) : ∃ late ev, armUnit u target s = s.setCmp u { s.cmp u with target := target, late := late, lateEv := ev } := by
  obtain ⟨late, ev, h, -⟩ := armUnit_eq u target s
  exact ⟨late, ev, h⟩

/-! ### Firmware slots (R629) -/

theorem State.fwSlot_setFwSlot (s : State) (k : Nat) (v : FwSlot) : (s.setFwSlot k v).fwSlot k = v := Table.get_set_same _ _ _ _

theorem State.fwSlot_setFwSlot_other (s : State) (v : FwSlot) {k j : Nat} (h : j ≠ k) : (s.setFwSlot k v).fwSlot j = s.fwSlot j :=
  Table.get_set_other _ _ _ h

/-- Whatever becomes of power and reset but for the minimum security version touches nothing else. -/
theorem power_touches {x : PowerState} (h : x.minSecVer = s.power.minSecVer) : Touches [.power] s { s with power := x } :=
  (Keeps.power_ (m := 4) (.refl _ s) rfl (.inl h) (.inl h.ge)).touches _ (by decide)

/-- Settles O23: each command's tests and what it does once they pass. -/
theorem timeAndFirmwareCommandsTakeEffect : Obligations.TimeAndFirmwareCommandsTakeEffect := by
  unfold Obligations.TimeAndFirmwareCommandsTakeEffect
  refine ⟨?config, reads_of (fun _ _ _ => rfl) fun _ _ _ => rfl, ?compare,
    hostRow_of_tested (fun _ _ _ => rfl) fun h a s => ⟨_, rfl, fun _ => ⟨rfl, rfl⟩⟩, ?set, ?load, ?activate,
    reads_of (fun _ _ _ => rfl) fun _ _ _ => rfl⟩
  case config =>
    refine hostRow_of_tested (fun _ _ _ => rfl) fun h a s => ⟨_, rfl, fun _ => ?_⟩
    refine ⟨rfl, ?_, fun m hm => ?_, fun u hu => ?_, ?_⟩
    · exact (base_giveUnits _ (uAt a 28 1) (uAt a 24 4) _ _).trans (State.base_setBase _ _ _)
    · exact (base_giveUnits _ (uAt a 28 1) (uAt a 24 4) _ _).trans (State.base_setBase_other _ _ hm)
    · exact cmp_giveUnits _ hu
    · exact ((State.updBase_keeps s (uAt a 0 2) _).trans (giveUnits_keeps (uAt a 0 2) (uAt a 28 1) (uAt a 24 4) _)).touches _ (by decide)
  case compare =>
    refine hostRow_of_tested (fun _ _ _ => rfl) fun h a s => ⟨_, rfl, fun _ => ?_⟩
    obtain ⟨late, ev, harm⟩ := armUnit_target (uAt a 0 2) (wrap 32 (uAt a 12 8))
      (s.setCmp (uAt a 0 2) { (s.cmp (uAt a 0 2)).control (uAt a 4 4) with period := storedPeriod (uAt a 8 4) })
    have hkeeps := ((State.setCmp_keeps s (uAt a 0 2) { (s.cmp (uAt a 0 2)).control (uAt a 4 4) with period := storedPeriod (uAt a 8 4) }).trans
      (armUnit_keeps (uAt a 0 2) (wrap 32 (uAt a 12 8)) _)).touches [.time] (by decide)
    rw [State.cmp_setCmp] at harm
    unfold okReply
    dsimp only
    rw [harm] at hkeeps ⊢
    rw [State.cmp_setCmp]
    exact ⟨rfl, rfl, rfl, rfl, rfl, rfl, rfl, rfl, rfl,
      fun v hv => (State.cmp_setCmp_other _ _ hv).trans (State.cmp_setCmp_other _ _ hv), hkeeps⟩
  case set =>
    refine hostRow_of_tested (fun _ _ _ => rfl) fun h a s => ⟨_, rfl, fun _ => ?_⟩
    have hkeeps := setBaseTime_keeps (uAt a 0 2) (uAt a 4 8) (uAt a 12 4) s
    have htime := setBaseTime_keeps_time (n := uAt a 0 2) (uAt a 4 8) (uAt a 12 4) s
    refine ⟨rfl, ?_, fun m hm => ?_, fun hn => (htime hn).touches _ (by decide), fun hn => ⟨hkeeps.touches _ (by decide), ?_⟩⟩
    · exact (base_setBaseTime _ _ _ _ _).trans (State.base_setBase _ _ _)
    · exact (base_setBaseTime _ _ _ _ _).trans (State.base_setBase_other _ _ hm)
    · obtain ⟨k, hcell⟩ := cell_setBaseTime (uAt a 4 8) (uAt a 12 4) s
      unfold okReply
      dsimp only
      rw [hn, hcell]
      exact ⟨rfl, Nat.mul_mod_left _ _⟩
  case load =>
    refine hostRow_of_tested (fun _ _ _ => rfl) fun h a s => ⟨_, rfl, fun _ => ?_⟩
    refine ⟨fun hinhibit => ?_, fun hfree => ?_⟩
    · rw [if_pos hinhibit]
      exact ⟨rfl, rfl⟩
    · rw [if_neg (by rw [hfree]; nofun)]
      have hslot := State.fwSlot_setFwSlot s (1 - s.power.active) { s.fwSlot (1 - s.power.active) with state := 1 }
      have hactive := State.fwSlot_setFwSlot_other s (k := 1 - s.power.active) (j := s.power.active)
        { s.fwSlot (1 - s.power.active) with state := 1 } (by omega)
      refine ⟨rfl, rfl, congrArg FwSlot.state hslot, hactive, Keeps.touches (m := 4) ?_ [.power] (by decide)⟩
      exact .power_ (State.setFwSlot_keeps s _ _) rfl (.inl rfl) (.inl le_rfl)
  case activate =>
    refine hostRow_of_tested (fun _ _ _ => rfl) fun h a s => ⟨_, rfl, fun _ => ?_⟩
    unfold okReply
    dsimp only
    split
    next hinhibit =>
      exact ⟨rfl, rfl, power_touches rfl,
        fun hfree => absurd hinhibit (by rw [hfree]; nofun), fun _ => rfl⟩
    next hfree =>
      exact ⟨rfl, rfl, power_touches rfl, fun _ => rfl,
        fun hinhibit => absurd hinhibit hfree⟩

end Sys2Proof.Machine
end

section
/-! SUPPORT. Pool accesses (R565, R567 to R570, R576 to R578): what an owner reads and stores, and what a refusal counts. -/

namespace Sys2Proof.Machine

variable {s t : State} {port act ofs n m : Nat} {bs : List Byte}

theorem mem_wordsOf_of_mem {o n b : Nat} (h : o ≤ b) (h' : b < o + n) : b / 8 ∈ wordsOf o n := by
  unfold wordsOf
  rw [if_neg (by omega)]
  exact List.mem_map.mpr ⟨b / 8 - o / 8, List.mem_range.mpr (by omega), by omega⟩

/-- A stretch within one aligned word touches that word alone. -/
theorem wordsOf_single {o n : Nat} (hn : 0 < n) (h : o / 8 = (o + n - 1) / 8) : wordsOf o n = [o / 8] := by
  rw [wordsOf, if_neg (by omega), ← h, Nat.sub_self]
  rfl

/-- The owner's read of words without error gives their octets. -/
theorem poolRead_ok (hok : s.poolOk m ofs n = true) (hclean : ∀ w ∈ wordsOf ofs n, w ∉ s.pool.ueWords) :
    s.poolRead m ofs n = (s, .ok (s.memGet ofs n)) := by
  have hfind : (wordsOf ofs n).find? (fun w => s.pool.ueWords.contains w) = none := by
    rw [List.find?_eq_none]
    simpa using hclean
  rw [State.poolRead, hok, hfind]
  rfl

theorem poolRead_refused (hok : s.poolOk m ofs n = false) : s.poolRead m ofs n = (s.poolRefuse m ofs n, .refused) := by
  rw [State.poolRead, hok]
  rfl

theorem poolWrite_ok (hok : s.poolOk m ofs bs.length = true) : s.poolWrite port m ofs bs = (chkPool port ofs bs (s.poolStore ofs bs), .ok []) := by
  rw [State.poolWrite, hok]
  rfl

theorem poolWrite_refused (hok : s.poolOk m ofs bs.length = false) : s.poolWrite port m ofs bs = (s.poolRefuse m ofs bs.length, .refused) := by
  rw [State.poolWrite, hok]
  rfl

theorem State.poolByte_of_pool (h : t.pool = s.pool) (b : Nat) : t.poolByte b = s.poolByte b := by
  rw [State.poolByte, h, State.poolByte]

theorem chkPool_poolStore_keeps (port ofs : Nat) (bs : List Byte) (s : State) : Keeps 1207963136 s (chkPool port ofs bs (s.poolStore ofs bs)) :=
  Keeps.after (chkPool_keeps port ofs bs _) rfl ((State.poolStore_keeps s ofs bs).mono rfl)

/-- The octets once a write of the owner has landed. -/
theorem poolByte_chkPool_poolStore (port : Nat) (hclean : ∀ w ∈ wordsOf ofs bs.length, w ∉ s.pool.ueWords) (b : Nat) :
    (chkPool port ofs bs (s.poolStore ofs bs)).poolByte b = if ofs ≤ b ∧ b < ofs + bs.length then bs.getD (b - ofs) 0 else s.poolByte b := by
  rw [State.poolByte_of_pool (chkPool_keeps _ _ _ _ .pool rfl)]
  exact State.poolByte_poolStore s ofs bs b fun b h h' => by simpa using hclean _ (mem_wordsOf_of_mem h h')

/-! ### Refusals (R565) -/

/-- A bank's refusal counted, unless the master owns it. -/
def refuseBank (m : Nat) (s : State) (b : Nat) : State :=
  if b < 64 ∧ !s.owns m b then s.updBank b (fun k => { k with refused := satAdd 255 k.refused 1 }) else s

theorem poolRefuse_eq (m ofs n : Nat) (s : State) : s.poolRefuse m ofs n = (banksOf ofs n).foldl (refuseBank m) s := rfl

theorem refuseBank_mem (m : Nat) (s : State) (b : Nat) : (refuseBank m s b).pool.mem = s.pool.mem ∧ (refuseBank m s b).pool.ueWords = s.pool.ueWords := by
  unfold refuseBank
  split <;> exact ⟨rfl, rfl⟩

theorem refuseBank_other {b c : Nat} (h : c ≠ b) : (refuseBank m s b).bank c = s.bank c := by
  unfold refuseBank
  split
  · exact State.bank_setBank_other _ _ h
  · rfl

theorem poolRefuse_mem (m ofs n : Nat) (s : State) : (s.poolRefuse m ofs n).pool.mem = s.pool.mem ∧ (s.poolRefuse m ofs n).pool.ueWords = s.pool.ueWords :=
  List.foldlRecOn (motive := fun t : State => t.pool.mem = s.pool.mem ∧ t.pool.ueWords = s.pool.ueWords) _ _ ⟨rfl, rfl⟩ fun t ht b _ =>
    ⟨(refuseBank_mem m t b).1.trans ht.1, (refuseBank_mem m t b).2.trans ht.2⟩

theorem nodup_banksOf (ofs n : Nat) : (banksOf ofs n).Nodup := by
  unfold banksOf
  split
  · exact List.nodup_singleton _
  · split
    · exact List.nodup_singleton _
    next h => simpa using h

/-- A bank touched that the master does not own counts one refusal. -/
theorem poolRefuse_refused {b : Nat} (hb : b ∈ banksOf ofs n) (hlt : b < 64) (hown : s.owns m b = false) :
    ((s.poolRefuse m ofs n).bank b).refused = satAdd 255 (s.bank b).refused 1 := by
  obtain ⟨t, -, hbefore, hturn⟩ := foldl_get_turn (key := id) (get := State.bank) (R := fun _ => True)
    (fun t c (h : b ≠ c) => refuseBank_other (m := m) (s := t) h) (s := s) trivial (fun _ _ h => h) (by rw [List.map_id]; exact nodup_banksOf ofs n) hb
  have hsame : t.bank b = s.bank b := hbefore
  have hunowned : b < 64 ∧ (!t.owns m b) = true := by rw [State.owns, hsame, ← State.owns, hown]; exact ⟨hlt, rfl⟩
  refine (congrArg BankReg.refused hturn).trans ?_
  rw [refuseBank, if_pos hunowned, State.updBank_eq, id, State.bank_setBank, hsame]

/-- What a refusal does to a master other than a Lathe leaves the pool. -/
theorem refusedAt_pool (hport : port < 8 ∨ port = 24) (act ofs : Nat) (s : State) : (refusedAt port act ofs s).pool = s.pool := by
  unfold refusedAt
  extract_lets m
  rw [if_neg (by omega)]
  split
  · rfl
  · split
    · exact State.accessErr_keeps s m .pool rfl
    · exact State.memoryRecord_keeps s 0 6 port ofs 1 .pool rfl

theorem refusedAt_counts (hport : port < 8 ∨ port = 24) (act : Nat) (s : State) (m : Nat) :
    (refusedAt port act ofs (s.poolRefuse m ofs n)).pool.mem = s.pool.mem ∧ (refusedAt port act ofs (s.poolRefuse m ofs n)).pool.ueWords = s.pool.ueWords ∧
      ∀ b ∈ banksOf ofs n, b < 64 → s.owns m b = false →
        ((refusedAt port act ofs (s.poolRefuse m ofs n)).bank b).refused = satAdd 255 (s.bank b).refused 1 := by
  have hpool := refusedAt_pool hport act ofs (s.poolRefuse m ofs n)
  rw [hpool]
  refine ⟨(poolRefuse_mem m ofs n s).1, (poolRefuse_mem m ofs n s).2, fun b hb hlt hown => ?_⟩
  rw [State.bank_of_pool hpool]
  exact poolRefuse_refused hb hlt hown

/-! ### Accesses (R564, R565, R569) -/

theorem does_poolAccess {op : PoolOp} {P : State → Prop} (hport : port < 25) (hofs : ofs < 64 * 0x80000) (hP : P (poolAccess port act op ofs s)) :
    Does (.poolAccess port act op ofs) s P := ⟨_, if_pos ⟨hport, hofs⟩, hP⟩

theorem poolAccess_read (hok : s.poolOk (portMaster port act) ofs n = true) (hn : 0 < n) (hclean : ∀ w ∈ wordsOf ofs n, w ∉ s.pool.ueWords) :
    poolAccess port act (.read n .none) ofs s = { s with rd := ofLE (s.memGet ofs n) } := by
  have hread : (upsetAt ofs .none s).poolRead (portMaster port act) ofs n = (s, .ok (s.memGet ofs n)) := poolRead_ok hok hclean
  have hsome : ¬ (s.memGet ofs n).isEmpty = true := by
    rw [List.isEmpty_iff_length_eq_zero, State.memGet, List.length_map, List.length_range]
    omega
  simp only [poolAccess, hread, endAccess, if_neg hsome]
  rfl

theorem poolAccess_read_refused (hok : s.poolOk (portMaster port act) ofs n = false) :
    poolAccess port act (.read n .none) ofs s = refusedAt port act ofs (s.poolRefuse (portMaster port act) ofs n) := by
  have hread : (upsetAt ofs .none s).poolRead (portMaster port act) ofs n = (s.poolRefuse (portMaster port act) ofs n, .refused) := poolRead_refused hok
  simp only [poolAccess, hread, endAccess]

theorem poolAccess_write (hport : port ≠ 7) (hok : s.poolOk (portMaster port act) ofs bs.length = true) :
    poolAccess port act (.write bs false) ofs s = chkPool port ofs bs (s.poolStore ofs bs) := by
  simp only [poolAccess, if_neg hport, poolWrite_ok hok, Bool.false_and, endAccess]
  rfl

theorem poolAccess_write_refused (hok : s.poolOk (portMaster port act) ofs bs.length = false) :
    poolAccess port act (.write bs false) ofs s = refusedAt port act ofs (s.poolRefuse (portMaster port act) ofs bs.length) := by
  simp only [poolAccess, poolWrite_refused hok, Bool.false_and, endAccess]
  exact ite_self _

/-- An indivisible exchange within one word that the Lathe owns. -/
theorem poolExchange_eq {f : List Byte → Option (List Byte)} (h8 : 8 ≤ port) (h24 : port < 24) (hn : 0 < n) (hword : ofs / 8 = (ofs + n - 1) / 8)
    (hok : s.poolOk (portMaster port act) ofs n = true) (hclean : ofs / 8 ∉ s.pool.ueWords) :
    poolExchange port act ofs n f s = match f (s.memGet ofs n) with
      | some v => (s.poolWrite port (portMaster port act) ofs v).1.returns (ofLE (s.memGet ofs n))
      | none => s.returns (ofLE (s.memGet ofs n)) := by
  have hread : s.poolRead (portMaster port act) ofs n = (s, .ok (s.memGet ofs n)) :=
    poolRead_ok hok (by rw [wordsOf_single hn hword]; simpa using hclean)
  rw [poolExchange, if_neg (by omega), if_neg (by simpa using hword), hread] <;> rfl

/-- Settles O27: an access by its outcome, and the ownership and check unit registers by their definitions. -/
theorem poolAccessesFollowOwnership : Obligations.PoolAccessesFollowOwnership := by
  unfold Obligations.PoolAccessesFollowOwnership
  refine ⟨?read, ?write, ?writeRefused, ?readRefused, ?none, ?exchange, ?owner, ?notOwner, ?handover, ?ecc, ?running, ?counts⟩
  case read => exact fun port act ofs n s hport hofs hok hn hclean => does_poolAccess hport hofs (poolAccess_read hok hn hclean)
  case write =>
    intro port act ofs bs s hport h7 hofs hok hclean
    refine does_poolAccess hport hofs ?_
    have hkeeps := (chkPool_poolStore_keeps port ofs bs s).touches [.pool, .poolMem, .chk, .lathes, .out] (by decide)
    rw [poolAccess_write h7 hok]
    exact ⟨poolByte_chkPool_poolStore port hclean, hkeeps⟩
  case writeRefused =>
    intro port act ofs bs s hport hofs hok
    refine does_poolAccess (by omega) hofs ?_
    rw [poolAccess_write_refused hok]
    exact refusedAt_counts hport act s _
  case readRefused =>
    intro port act ofs n s hport hofs hok
    refine does_poolAccess (by omega) hofs ?_
    rw [poolAccess_read_refused hok]
    obtain ⟨hmem, -, hcount⟩ := refusedAt_counts (ofs := ofs) (n := n) hport act s (portMaster port act)
    exact ⟨hmem, hcount⟩
  case none => exact fun port act op ofs s hport => if_neg (by omega)
  case exchange =>
    intro port act ofs old bs s h8 h24 hofs hword hok hclean hlen
    refine does_poolAccess (by omega) hofs ?_
    have hexchange : poolAccess port act (.cas old bs) ofs s = _ := poolExchange_eq (f := fun cur => if cur = old then some bs else none) h8 h24 hlen hword hok hclean
    by_cases hsame : s.memGet ofs bs.length = old
    · rw [if_pos hsame] at hexchange
      dsimp only at hexchange
      rw [hexchange, poolWrite_ok hok]
      have hbytes := poolByte_chkPool_poolStore (s := s) (ofs := ofs) (bs := bs) port (by rw [wordsOf_single hlen hword]; simpa using hclean)
      generalize chkPool port ofs bs (s.poolStore ofs bs) = t at hbytes ⊢
      exact ⟨rfl, fun hne => absurd hsame hne, fun _ => hbytes⟩
    · rw [if_neg hsame] at hexchange
      rw [hexchange]
      exact ⟨rfl, fun _ => rfl, fun he => absurd he hsame⟩
  case owner =>
    intro m b w s hb h
    have hmay : (m = 0 ∧ bitAt w.toNat 7 = true) ∨ ((isSheaf m = true ∨ m = 0x20) ∧ s.owns m b = true) := by
      rcases h with h | ⟨hm, hown⟩ | ⟨hm, hown⟩
      · exact .inl h
      · exact .inr ⟨.inl (decide_eq_true hm), hown⟩
      · exact .inr ⟨.inr hm, hown⟩
    exact ⟨_, rfl, (if_neg (by omega)).trans (if_pos hmay)⟩
  case notOwner =>
    intro m b w s hb hforce hown
    exact ⟨_, rfl, (if_neg (by omega)).trans (if_neg (by simp [hforce, hown]))⟩
  case handover => exact fun b s h => ⟨_, rfl, congrArg (s.setBank b) (if_pos h)⟩
  case ecc => exact fun b s hb => does_of_onUnit rfl hb rfl
  case running => exact fun n fold w s hn => does_of_onUnit rfl hn rfl
  case counts => exact fun n s hn => does_of_onUnit rfl hn rfl

end Sys2Proof.Machine
end

section
/-! SUPPORT. The Winnower's background tests (R582, R586 to R588, R595 to R598, R663): what a record, a test's outcome and a calibration change
of its state. -/

namespace Sys2Proof.Machine

variable {s t u : State} {n mem w : Nat}

/-! ### Records and the stream -/

/-- Of the Winnower's state the telemetry stream alone changed. -/
def OnlyStreams (s t : State) : Prop := ∃ q, t.wnw = { s.wnw with stream := q }

theorem OnlyStreams.of_wnw (h : t.wnw = s.wnw) : OnlyStreams s t := ⟨s.wnw.stream, h⟩

theorem OnlyStreams.trans (h : OnlyStreams s t) (h' : OnlyStreams t u) : OnlyStreams s u := by
  obtain ⟨q, e⟩ := h
  obtain ⟨q', e'⟩ := h'
  exact ⟨q', by rw [e', e]⟩

theorem OnlyStreams.scrub (h : OnlyStreams s t) (n : Nat) : t.scrub n = s.scrub n := by
  obtain ⟨q, e⟩ := h
  rw [State.scrub, e, State.scrub]

theorem OnlyStreams.marks (h : OnlyStreams s t) : t.wnw.marks = s.wnw.marks := by
  obtain ⟨q, e⟩ := h
  rw [e]

theorem State.stream_only (s : State) (bit rtype gtc : Nat) (data : List Byte) : OnlyStreams s (s.stream bit rtype gtc data) := by
  unfold State.stream
  dsimp only
  split
  · exact .of_wnw rfl
  · exact ⟨_, rfl⟩

theorem State.commitJournal_only (s : State) : OnlyStreams s s.commitJournal := by
  unfold State.commitJournal
  dsimp only
  split
  · exact .of_wnw rfl
  · exact List.foldlRecOn (motive := OnlyStreams s) _ _ (.of_wnw rfl) fun t ht p _ => ht.trans (State.stream_only ..)

theorem State.record_only (s : State) (loc kind : Nat) (bs : List Byte) : OnlyStreams s (s.record loc kind bs) := by
  unfold State.record
  extract_lets r _ v x
  have hv : OnlyStreams s v := .of_wnw rfl
  split
  · exact .of_wnw rfl
  · split
    · obtain ⟨q, e⟩ := hv.trans v.commitJournal_only
      exact ⟨q, e⟩
    · exact hv

theorem State.memoryRecord_only (s : State) (loc what mem word count : Nat) : OnlyStreams s (s.memoryRecord loc what mem word count) :=
  State.record_only ..

theorem State.memoryRecord_pool (s : State) (loc what mem word count : Nat) : (s.memoryRecord loc what mem word count).pool = s.pool :=
  State.memoryRecord_keeps s loc what mem word count .pool rfl

/-! ### Scrubbing (R582, R583) -/

/-- The burst done, the pass goes on or ends (R582). -/
def burstDone (mem : Nat) (s : State) : State :=
  if (s.scrub mem).burst + 1 < bursts mem then s.setScrub mem { s.scrub mem with burst := (s.scrub mem).burst + 1 }
  else s.setScrub mem { s.scrub mem with burst := 0, start := s.cell.tick + 1, passes := wrap 8 ((s.scrub mem).passes + 1), before := (s.scrub mem).now,
                                          now := [], counted := false }

theorem scrubBurst_one (mem w : Nat) (bad : Bool) (h : Option Nat) (s : State) :
    scrubBurst mem [(w, bad, h)] s = burstDone mem (if bad then scrubBad mem w h s else scrubCorrected mem w s) := rfl

theorem burstDone_counts (mem : Nat) (s : State) : ((burstDone mem s).scrub mem).ce = (s.scrub mem).ce ∧ ((burstDone mem s).scrub mem).ue = (s.scrub mem).ue ∧
    (burstDone mem s).pool = s.pool := by
  unfold burstDone
  split
  · rw [State.scrub_setScrub]
    exact ⟨rfl, rfl, rfl⟩
  · rw [State.scrub_setScrub]
    exact ⟨rfl, rfl, rfl⟩

/-- The end of a second counts no correction. -/
theorem closeSecond_counts (mem : Nat) (s : State) : ((closeSecond mem s).scrub mem).ce = (s.scrub mem).ce ∧ (closeSecond mem s).pool = s.pool := by
  unfold closeSecond
  split
  · split
    · exact ⟨rfl, rfl⟩
    · refine ⟨?_, State.memoryRecord_pool _ _ _ _ _ _⟩
      rw [(State.memoryRecord_only _ _ _ _ _ _).scrub, State.updScrub_eq, State.scrub_setScrub]
  · exact ⟨rfl, rfl⟩

/-- A correction in the pool counts in the memory's CE and in that of the bank (R570, R583). -/
theorem scrubCorrected_pool (w : Nat) (s : State) : ((scrubCorrected 0 w s).scrub 0).ce = wrap 32 ((s.scrub 0).ce + 1) ∧
    ((scrubCorrected 0 w s).bank (w / 0x10000)).ce = satAdd 255 (s.bank (w / 0x10000)).ce 1 ∧ (scrubCorrected 0 w s).pool.mem = s.pool.mem := by
  obtain ⟨hce, hpool⟩ := closeSecond_counts 0 s
  have hbank := State.bank_of_pool hpool
  unfold scrubCorrected
  extract_lets u k weak v x y
  have hv : (v.scrub 0).ce = wrap 32 ((s.scrub 0).ce + 1) ∧ v.pool = s.pool := by
    unfold v k
    rw [State.scrub_setScrub]
    exact ⟨congrArg (fun c => wrap 32 (c + 1)) hce, hpool⟩
  clear_value v
  obtain ⟨hvce, hvpool⟩ := hv
  have hx : (x.scrub 0).ce = wrap 32 ((s.scrub 0).ce + 1) ∧ (x.bank (w / 0x10000)).ce = satAdd 255 (s.bank (w / 0x10000)).ce 1 ∧ x.pool.mem = s.pool.mem := by
    have hword : 8 * w / 0x80000 = w / 0x10000 := by omega
    have hx : x = v.updBank (w / 0x10000) (fun b => { b with ce := satAdd 255 b.ce 1 }) := by
      unfold x
      rw [if_pos rfl, State.corrected, hword]
    rw [hx, State.updBank_eq, State.bank_setBank, State.bank_of_pool hvpool]
    exact ⟨hvce, rfl, (congrArg PoolState.mem hvpool :)⟩
  clear_value x
  -- Whatever records follow stream alone.
  have hrecord {z : State} (c : Prop) [Decidable c] (a b d e g : Nat)
      (hz : (z.scrub 0).ce = wrap 32 ((s.scrub 0).ce + 1) ∧ (z.bank (w / 0x10000)).ce = satAdd 255 (s.bank (w / 0x10000)).ce 1 ∧ z.pool.mem = s.pool.mem) :
      let z' := if c then z.memoryRecord a b d e g else z
      (z'.scrub 0).ce = wrap 32 ((s.scrub 0).ce + 1) ∧ (z'.bank (w / 0x10000)).ce = satAdd 255 (s.bank (w / 0x10000)).ce 1 ∧ z'.pool.mem = s.pool.mem := by
    dsimp only
    split
    · rw [(State.memoryRecord_only _ _ _ _ _ _).scrub, State.bank_of_pool (State.memoryRecord_pool _ _ _ _ _ _), State.memoryRecord_pool]
      exact hz
    · exact hz
  exact hrecord _ 34 5 0 w 1 (hrecord _ 34 1 0 w 1 hx)

/-- An uncorrectable word found in the pool counts in both, and POOL_ERR names it. -/
theorem scrubBad_pool (w : Nat) (h : Option Nat) (s : State) : ((scrubBad 0 w h s).scrub 0).ue = wrap 32 ((s.scrub 0).ue + 1) ∧
    ((scrubBad 0 w h s).bank (w / 0x10000)).ue = satAdd 255 (s.bank (w / 0x10000)).ue 1 ∧ (scrubBad 0 w h s).pool.errValid = true ∧
    (scrubBad 0 w h s).pool.errBank = w / 0x10000 ∧ (scrubBad 0 w h s).pool.errWord = w % 0x10000 := by
  have hbad : scrubBad 0 w h s = (s.updScrub 0 (fun k => { k with ue := wrap 32 (k.ue + 1) })).uncorrectable w := rfl
  rw [hbad, State.uncorrectable]
  dsimp only
  rw [(State.memoryRecord_only _ _ _ _ _ _).scrub, State.bank_of_pool (State.memoryRecord_pool _ _ _ _ _ _), State.memoryRecord_pool]
  refine ⟨congrArg Scrub.ue (State.scrub_setScrub s 0 _), congrArg BankReg.ue (State.bank_setBank _ _ _), rfl, rfl, rfl⟩

/-! ### Tests that fail twice (R596, R597) -/

/-- The consecutive failures of a test after its outcome. -/
def testCount (key : Nat) (ok : Bool) (s : State) : Nat := if ok then 0 else Table.get 0 s.wnw.fails key + 1

theorem testResult_eq (key b cause : Nat) (ok : Bool) (s : State) : testResult key b cause ok s =
    { s with wnw := { s.wnw with
        fails := Table.set 0 s.wnw.fails key (testCount key ok s)
        marks := if testCount key ok s = 2 then s.wnw.marks ++ [(b, cause)] else s.wnw.marks } } := by
  by_cases h : testCount key ok s = 2
  · rw [if_pos h]
    exact if_pos h
  · rw [if_neg h]
    exact if_neg h

theorem testResult_fails (key b cause : Nat) (ok : Bool) (s : State) : Table.get 0 (testResult key b cause ok s).wnw.fails key = testCount key ok s := by
  rw [testResult_eq]
  exact Table.get_set_same ..

/-- A second failure in a row dooms the block. -/
theorem testResult_failed (key b cause : Nat) (s : State) :
    Table.get 0 (testResult key b cause false s).wnw.fails key = Table.get 0 s.wnw.fails key + 1 ∧
    (testResult key b cause false s).wnw.marks = (if Table.get 0 s.wnw.fails key = 1 then s.wnw.marks ++ [(b, cause)] else s.wnw.marks) := by
  refine ⟨testResult_fails _ _ _ _ _, ?_⟩
  rw [testResult_eq]
  exact if_congr (by show Table.get 0 s.wnw.fails key + 1 = 2 ↔ _; omega) rfl rfl

theorem testResult_passed (key b cause : Nat) (s : State) : Table.get 0 (testResult key b cause true s).wnw.fails key = 0 ∧
    (testResult key b cause true s).wnw.marks = s.wnw.marks := by
  refine ⟨testResult_fails _ _ _ _ _, ?_⟩
  rw [testResult_eq]
  rfl

/-- A test leaves calibrations and tap settings. -/
theorem testResult_settings (key b cause : Nat) (ok : Bool) (s : State) : (testResult key b cause ok s).wnw.cal = s.wnw.cal ∧
    (testResult key b cause ok s).wnw.tapNext = s.wnw.tapNext ∧ (testResult key b cause ok s).wnw.tapKept = s.wnw.tapKept := by
  rw [testResult_eq]
  exact ⟨rfl, rfl, rfl⟩

theorem execSelfTestSlice_eq {b : Nat} (ok : Bool) (hrun : s.wnw.run = true) (hb : s.sliceable b = true) (h200 : b ≠ 200) :
    execSelfTestSlice b ok s = .next (testResult b b 1 ok s) := by
  rw [execSelfTestSlice, if_neg (by simp [hrun, hb]), if_neg h200]

/-- The spare's slice once it may be tested. -/
theorem spareSlice_eq (ok : Bool) (hrun : s.wnw.run = true) (hall : ∀ n, n < 9 → s.lost (21 + n) = false) : spareSlice ok s =
    let t := testResult (21 + s.motion.spare) (21 + s.motion.spare) 1 ok s
    if !ok then t
    else if t.wnw.spareSlice + 1 < 1024 then { t with wnw := { t.wnw with spareSlice := t.wnw.spareSlice + 1 } }
    else { t with wnw := { t.wnw with spareSlice := 1024 }, motion := { t.motion with spareDone := some s.motion.spare } } := by
  have husable : (List.range 9).filter (fun n => !s.lost (21 + n)) = List.range 9 := by
    rw [List.filter_eq_self]
    intro n hn
    rw [hall n (List.mem_range.mp hn)]
    rfl
  have hmay : ¬ ((!s.wnw.run) = true ∨ ((List.range 9).filter (fun n => !s.lost (21 + n))).length < 9) := by simp [hrun, husable]
  exact if_neg hmay

theorem testResult_spareSlice (key b cause : Nat) (ok : Bool) (s : State) : (testResult key b cause ok s).wnw.spareSlice = s.wnw.spareSlice ∧
    (testResult key b cause ok s).motion = s.motion := by
  rw [testResult_eq]
  exact ⟨rfl, rfl⟩

/-- The lane's loop-back test, by the number of its MAC. -/
theorem execLoopbackTest_of_mac {lane : Nat} (ok : Bool) (hlane : lane < 12) (hdown : (s.mac lane).link = false) (hrun : s.wnw.run = true) :
    execLoopbackTest lane ok s = .next (testResult (1065 + lane) (65 + lane) 6 ok s) := by
  rw [execLoopbackTest, if_pos hlane, if_pos hlane, hdown, hrun, onUnit_next (by omega), ← Nat.add_assoc]
  rfl

/-! ### Calibration (R586 to R588, R663) -/

/-- A value in range survives its two's complement. -/
theorem toS_toU {k : Nat} {z : Int} (hlo : -2 ^ k ≤ z) (hhi : z < 2 ^ k) : toS (k + 1) (toU (k + 1) z) = z := by
  have hpow : (2 : Int) ^ (k + 1) = 2 * 2 ^ k := by rw [pow_succ]; omega
  have hnat : 2 ^ (k + 1) = 2 * 2 ^ k := by rw [pow_succ]; omega
  have hmod : z % (2 * 2 ^ k) = if 0 ≤ z then z else z + 2 * 2 ^ k := by
    split
    · exact Int.emod_eq_of_lt (by omega) (by omega)
    · rw [← Int.add_emod_right]
      exact Int.emod_eq_of_lt (by omega) (by omega)
  have hcast : ((2 ^ k : Nat) : Int) = 2 ^ k := by push_cast; rfl
  have hlt : (z % (2 * 2 ^ k)).toNat < 2 * 2 ^ k := by
    rw [hmod]
    split <;> omega
  rw [toS, toU, hpow, hnat, Nat.mod_eq_of_lt hlt, hmod]
  split <;> split <;> omega

theorem storeCalib_calib (c : Nat) (ofs : Int) (gain : Nat) (s : State) : ∃ k, (storeCalib c ofs gain s).calib c = { s.calib c with stored := k } ∧
    (4 < (ofs - ((s.calib c).stored.getD (0, 0x10000)).1).natAbs → k = some (ofs, gain)) ∧ (storeCalib c ofs gain s).wnw.fails = s.wnw.fails := by
  by_cases h : (ofs - ((s.calib c).stored.getD (0, 0x10000)).1).natAbs ≤ 4 ∧
      (midCode ofs gain - midCode ((s.calib c).stored.getD (0, 0x10000)).1 ((s.calib c).stored.getD (0, 0x10000)).2).natAbs ≤ 4
  · rw [storeCalib, if_pos h]
    exact ⟨_, rfl, fun hfar => absurd h.1 (by omega), rfl⟩
  · rw [storeCalib, if_neg h]
    have hwnw : (State.retain _ _ _ _).wnw = _ :=
      State.retain_keeps (s.updCalib c (fun k => { k with stored := some (ofs, gain) })) 3 (81 + c) (toLEs 2 ofs ++ toLE 4 gain) .wnw rfl
    refine ⟨some (ofs, gain), ?_, fun _ => rfl, (congrArg WnwState.fails hwnw :)⟩
    rw [State.calib, hwnw, ← State.calib]
    exact State.calib_setCalib s c _

/-- A converter's check passed: the calibration found waits, and is stored when it moved. -/
theorem calibrate_passed (c : Nat) (ofs : Int) (gain : Nat) (s : State) :
    (((calibrate c ofs gain false s).calib c).target.map (fun x => (x.1, x.2.1))) = some (ofs, gain) ∧
    Table.get 0 (calibrate c ofs gain false s).wnw.fails (81 + c) = 0 ∧
    (4 < (ofs - ((s.calib c).stored.getD (0, 0x10000)).1).natAbs → ((calibrate c ofs gain false s).calib c).stored = some (ofs, gain)) := by
  obtain ⟨hpassed, -⟩ := testResult_passed (81 + c) (81 + c) 5 s
  have hcalib : (testResult (81 + c) (81 + c) 5 true s).calib c = s.calib c := by
    rw [State.calib, (testResult_settings _ _ _ _ s).1, State.calib]
  have hchecked : ∃ n, calibrate c ofs gain false s = storeCalib c ofs gain ((testResult (81 + c) (81 + c) 5 true s).setCalib c
      { (testResult (81 + c) (81 + c) 5 true s).calib c with target := some (ofs, gain, n) }) := ⟨_, rfl⟩
  obtain ⟨n, hcalibrate⟩ := hchecked
  obtain ⟨k, hstore, hfar, hfails⟩ := storeCalib_calib c ofs gain ((testResult (81 + c) (81 + c) 5 true s).setCalib c
    { (testResult (81 + c) (81 + c) 5 true s).calib c with target := some (ofs, gain, n) })
  rw [State.calib_setCalib, hcalib] at hstore hfar
  rw [hcalibrate, hfails, hcalib, hstore]
  exact ⟨rfl, hpassed, hfar⟩

/-- A unit's tuning passed: the setting waits for the edge, and is stored when it moved by more than 0.1 ns. -/
theorem tune_passed (u tap : Nat) (s : State) : Table.get 0 (tune u tap true s).wnw.tapNext u = tap + 1 ∧
    Table.get 0 (tune u tap true s).wnw.tapKept u = (if tap ≤ Table.get 0 s.wnw.tapKept u + 100 ∧ Table.get 0 s.wnw.tapKept u ≤ tap + 100 then
      Table.get 0 s.wnw.tapKept u else tap) := by
  obtain ⟨-, -, hkept⟩ := testResult_settings (93 + u) (93 + u) 5 true s
  unfold tune
  generalize testResult (93 + u) (93 + u) 5 true s = t at hkept
  dsimp only
  rw [if_neg nofun, hkept]
  split
  · exact ⟨Table.get_set_same 0 t.wnw.tapNext u (tap + 1), rfl⟩
  · rw [State.retain_keeps _ _ _ _ .wnw rfl]
    exact ⟨Table.get_set_same 0 t.wnw.tapNext u (tap + 1), Table.get_set_same 0 s.wnw.tapKept u tap⟩

/-- Settles O50: the burst's end, the outcome of a test once for every test, and the calibrations that follow it. -/
theorem winnowerScrubsTestsAndCalibrates : Obligations.WinnowerScrubsTestsAndCalibrates := by
  unfold Obligations.WinnowerScrubsTestsAndCalibrates
  refine ⟨?stopped, ?burst, ?pass, ?corrected, ?bad, ?counted, ?late, ?notSliceable, ?slicePassed, ?sliceFailed, ?sparePassed, ?spareDone, ?spareFailed,
    ?eyeOk, ?eyeBad, ?loopUp, ?loopFailed, ?reference, ?calibrated, ?tuned, ?notTuned, ?temperature, ?none⟩
  case stopped => exact fun mem errs s hm hrun => does_of_onUnit rfl hm (if_neg (by rw [hrun]; nofun))
  case burst => exact fun mem s hm hrun hb => does_of_onUnit rfl hm ((if_pos hrun).trans (if_pos hb))
  case pass => exact fun mem s hm hrun hb => does_of_onUnit rfl hm ((if_pos hrun).trans (if_neg (by show ¬ (s.scrub mem).burst + 1 < bursts mem; omega)))
  case corrected =>
    intro w h s hrun _
    refine does_of_onUnit rfl (show 0 < 6 by omega) ?_
    obtain ⟨hce, -, hpool⟩ := burstDone_counts 0 (scrubCorrected 0 w s)
    obtain ⟨hscrub, hbank, hmem⟩ := scrubCorrected_pool w s
    rw [if_pos hrun, scrubBurst_one, if_neg nofun, hce, State.bank_of_pool hpool, hpool]
    exact ⟨hscrub, hbank, hmem⟩
  case bad =>
    intro w h s hrun _
    refine does_of_onUnit rfl (show 0 < 6 by omega) ?_
    obtain ⟨-, hue, hpool⟩ := burstDone_counts 0 (scrubBad 0 w h s)
    rw [if_pos hrun, scrubBurst_one, if_pos rfl, hue, State.bank_of_pool hpool, hpool]
    exact scrubBad_pool w h s
  case counted => exact fun mem s hm h => does_of_onUnit rfl hm (if_pos h)
  case late =>
    intro mem s hm h
    refine does_of_onUnit rfl hm ?_
    have hkeeps := (scrubLate_keeps mem s).touches [.wnw] (by decide)
    have hlate : scrubLate mem s = _ := if_neg (by rw [h]; nofun)
    rw [hlate] at hkeeps ⊢
    exact ⟨congrArg Scrub.counted (State.scrub_setScrub s mem _), rfl, hkeeps⟩
  case notSliceable =>
    intro b ok s h
    exact ⟨_, rfl, if_pos (by rcases h with h | h <;> simp [h])⟩
  case slicePassed =>
    intro b s hrun hb h200
    obtain ⟨hfails, hmarks⟩ := testResult_passed b b 1 s
    exact ⟨_, execSelfTestSlice_eq true hrun hb h200, hfails, hmarks, (testResult_keeps b b 1 true s).touches _ (by decide)⟩
  case sliceFailed =>
    intro b s hrun hb h200
    obtain ⟨hfails, hmarks⟩ := testResult_failed b b 1 s
    exact ⟨_, execSelfTestSlice_eq false hrun hb h200, hfails, hmarks, (testResult_keeps b b 1 false s).touches _ (by decide)⟩
  case sparePassed =>
    intro s hrun hall hlt
    refine ⟨_, rfl, ?_⟩
    obtain ⟨hslices, hmotion⟩ := testResult_spareSlice (21 + s.motion.spare) (21 + s.motion.spare) 1 true s
    have htest := testResult_keeps (21 + s.motion.spare) (21 + s.motion.spare) 1 true s
    rw [spareSlice_eq true hrun hall]
    dsimp only
    generalize testResult (21 + s.motion.spare) (21 + s.motion.spare) 1 true s = t at hslices hmotion htest ⊢
    rw [if_neg nofun, if_pos (by rw [hslices]; exact hlt)]
    exact ⟨congrArg (· + 1) hslices, hmotion, Keeps.touches (htest.wnw_ rfl) _ (by decide)⟩
  case spareDone =>
    intro s hrun hall hle
    refine ⟨_, rfl, ?_⟩
    obtain ⟨hslices, hmotion⟩ := testResult_spareSlice (21 + s.motion.spare) (21 + s.motion.spare) 1 true s
    have hkeeps := (spareSlice_keeps true s).touches [.wnw, .motion] (by decide)
    rw [spareSlice_eq true hrun hall] at hkeeps ⊢
    dsimp only at hkeeps ⊢
    generalize testResult (21 + s.motion.spare) (21 + s.motion.spare) 1 true s = t at hslices hmotion hkeeps ⊢
    rw [if_neg nofun, if_neg (by rw [hslices]; omega)] at hkeeps ⊢
    exact ⟨rfl, congrArg (fun m : MotionState => { m with spareDone := some s.motion.spare }) hmotion, hkeeps⟩
  case spareFailed =>
    intro s hrun hall
    refine ⟨_, rfl, ?_⟩
    rw [spareSlice_eq false hrun hall]
    exact ⟨(testResult_spareSlice _ _ 1 false s).1, (testResult_failed _ _ 1 s).1⟩
  case eyeOk => exact fun lane s => ⟨_, rfl, rfl⟩
  case eyeBad =>
    intro lane s hrun hinhibit
    refine ⟨_, congrArg Host.Outcome.next (if_neg (by simp [hrun])), ?_⟩
    have hkeeps := ((s.freeBelow_keeps 65536).mono (m := 268959808) rfl).trans
      ((State.record_keeps (s.freeBelow 65536).2 34 (s.freeBelow 65536).1 (toLE 2 lane)).mono rfl)
    have hmarks := (State.record_only (s.freeBelow 65536).2 34 (s.freeBelow 65536).1 (toLE 2 lane)).marks
    have hheld := State.record_of_inhibit (s := (s.freeBelow 65536).2) 34 (s.freeBelow 65536).1 (toLE 2 lane) hinhibit
    exact ⟨(congrArg (fun t : State => t.jrnl.heldBack.length) hheld).trans List.length_append, hmarks, hkeeps.touches _ (by decide)⟩
  case loopUp => exact fun lane ok s hlane hup => does_of_onUnit rfl hlane (if_pos (by rw [hup]; rfl))
  case loopFailed =>
    intro lane s hlane hdown hrun
    obtain ⟨hfails, hmarks⟩ := testResult_failed (1065 + lane) (65 + lane) 6 s
    exact ⟨_, execLoopbackTest_of_mac false hlane hdown hrun, hfails, hmarks, (testResult_keeps (1065 + lane) (65 + lane) 6 false s).touches _ (by decide)⟩
  case reference =>
    intro c ofs g s hc hrun
    refine does_of_onUnit rfl hc ?_
    rw [if_pos hrun]
    obtain ⟨hcal, -, -⟩ := testResult_settings (81 + c) (81 + c) 5 false s
    refine ⟨fun k => ?_, (testResult_failed (81 + c) (81 + c) 5 s).1⟩
    show Table.get {} (testResult (81 + c) (81 + c) 5 false s).wnw.cal k = Table.get {} s.wnw.cal k
    rw [hcal]
  case calibrated =>
    intro c ofs g s hc hrun hlo hhi hg
    refine does_of_onUnit rfl hc ?_
    rw [if_pos hrun, toS_toU (k := 15) hlo hhi, Nat.mod_eq_of_lt hg]
    exact calibrate_passed c ofs g s
  case tuned =>
    intro u tap s hu hrun
    refine does_of_onUnit rfl hu ?_
    rw [if_pos hrun]
    exact tune_passed u tap s
  case notTuned =>
    intro u tap s hu hrun
    refine does_of_onUnit rfl hu ?_
    rw [if_pos hrun]
    obtain ⟨-, hnext, -⟩ := testResult_settings (93 + u) (93 + u) 5 false s
    exact ⟨hnext, (testResult_failed (93 + u) (93 + u) 5 s).1⟩
  case temperature =>
    intro tj s hrun hlo hhi
    refine ⟨_, congrArg Host.Outcome.next (if_pos hrun), ?_⟩
    rw [toS_toU (k := 9) hlo hhi]
    have hkeeps := (sampleTemp_keeps tj s).touches [.wnw] (by decide)
    have hsample : ∃ d, sampleTemp tj s = State.stream { s with wnw := { s.wnw with
      tj := tj, hot85 := if 340 < tj then s.wnw.hot85 + 1 else s.wnw.hot85, hot105 := if 420 < tj then s.wnw.hot105 + 1 else s.wnw.hot105 } } 3 4 s.gtc d :=
      ⟨_, rfl⟩
    obtain ⟨d, hsample⟩ := hsample
    obtain ⟨q, hstream⟩ := State.stream_only { s with wnw := { s.wnw with
      tj := tj, hot85 := if 340 < tj then s.wnw.hot85 + 1 else s.wnw.hot85, hot105 := if 420 < tj then s.wnw.hot105 + 1 else s.wnw.hot105 } } 3 4 s.gtc d
    rw [← hsample] at hstream
    beta_reduce
    rw [hstream]
    exact ⟨rfl, rfl, rfl, hkeeps⟩
  case none => exact fun m k errs => ⟨fun s hm => onUnit_fault hm, fun s hk => onUnit_fault hk⟩

end Sys2Proof.Machine
end

section
/-! SUPPORT. The switch core (R433 to R440): what the end of a frame at a port changes of the ports, the rings, what is sent and the frames
stored. -/

namespace Sys2Proof.Machine

variable {s t u : State} {p e no i n : Nat} {k k' k'' : Mac} {f x : SwFrame} {fs : List SwFrame}

/-! ### Counters (R446) -/

theorem Mac.count_eq (k : Mac) (i n : Nat) : ∃ nr, k.count i n = { k with counters := Table.upd 0 k.counters i (fun c => wrap 64 (c + n)), nrw := nr } := by
  unfold Mac.count
  extract_lets
  split <;> exact ⟨_, rfl⟩

theorem Mac.counters_count (k : Mac) (i n : Nat) : (k.count i n).counters = Table.upd 0 k.counters i (fun c => wrap 64 (c + n)) := by
  obtain ⟨nr, e⟩ := k.count_eq i n
  rw [e]

theorem Mac.counter_count (k : Mac) (i n : Nat) : Table.get 0 (k.count i n).counters i = wrap 64 (Table.get 0 k.counters i + n) := by
  rw [Mac.counters_count, Table.get_upd_same]

theorem Mac.counter_count_other (k : Mac) (n : Nat) {i j : Nat} (h : j ≠ i) : Table.get 0 (k.count i n).counters j = Table.get 0 k.counters j := by
  rw [Mac.counters_count, Table.get_upd_other _ _ _ h]

/-! ### What the queues change (R436, R438 to R440) -/

/-- The counters of a port that its queue moves: pause frames sent and frames withdrawn, flushed, refused or cut off. -/
def queueCounters : List Nat := [16, 19, 20, 21, 22]

/-- Of a port's record only what its queue moves changed. -/
def QueueOnly (k k' : Mac) : Prop :=
  (∃ a b c d e g, k' = { k with condition := a, xoffSent := b, held := c, headUsed := d, counters := e, nrw := g }) ∧
    ∀ i, i ∉ queueCounters → Table.get 0 k'.counters i = Table.get 0 k.counters i

theorem QueueOnly.refl (k : Mac) : QueueOnly k k := ⟨⟨_, _, _, _, _, _, rfl⟩, fun _ _ => rfl⟩

theorem QueueOnly.trans (h : QueueOnly k k') (h' : QueueOnly k' k'') : QueueOnly k k'' := by
  obtain ⟨⟨_, _, _, _, _, _, rfl⟩, hcount⟩ := h
  obtain ⟨⟨_, _, _, _, _, _, rfl⟩, hcount'⟩ := h'
  exact ⟨⟨_, _, _, _, _, _, rfl⟩, fun i hi => (hcount' i hi).trans (hcount i hi)⟩

theorem QueueOnly.pauses (k : Mac) (a b : Nat) : QueueOnly k { k with condition := a, xoffSent := b } := ⟨⟨_, _, _, _, _, _, rfl⟩, fun _ _ => rfl⟩

theorem QueueOnly.holds (k : Mac) (a : Table Nat) (b : Nat) : QueueOnly k { k with held := a, headUsed := b } := ⟨⟨_, _, _, _, _, _, rfl⟩, fun _ _ => rfl⟩

theorem QueueOnly.count (k : Mac) (n : Nat) (hi : i ∈ queueCounters) : QueueOnly k (k.count i n) := by
  refine ⟨?_, fun j hj => k.counter_count_other n fun e => hj (e ▸ hi)⟩
  obtain ⟨nr, e⟩ := k.count_eq i n
  exact ⟨_, _, _, _, _, nr, e⟩

/-- A step of the queues: of the ports only what they move, of the rings the credits alone, and whatever is sent is added. -/
structure QueueStep (s t : State) : Prop where
  ports : ∀ p, QueueOnly (s.mac p) (t.mac p)
  rings : ∀ e, ∃ c, t.swRing e = { s.swRing e with credits := c }
  sent : ∃ l, t.out = s.out ++ l

theorem QueueStep.refl (s : State) : QueueStep s s := ⟨fun _ => .refl _, fun _ => ⟨_, rfl⟩, [], (List.append_nil _).symm⟩

theorem QueueStep.trans (h : QueueStep s t) (h' : QueueStep t u) : QueueStep s u := by
  refine ⟨fun p => (h.ports p).trans (h'.ports p), fun e => ?_, ?_⟩
  · obtain ⟨c, hc⟩ := h.rings e
    obtain ⟨c', hc'⟩ := h'.rings e
    exact ⟨c', by rw [hc', hc]⟩
  · obtain ⟨l, hl⟩ := h.sent
    obtain ⟨l', hl'⟩ := h'.sent
    exact ⟨l ++ l', by rw [hl', hl, List.append_assoc]⟩

theorem QueueStep.setMac (s : State) (h : QueueOnly (s.mac p) k) : QueueStep s (s.setMac p k) := by
  refine ⟨fun q => ?_, fun _ => ⟨_, rfl⟩, [], (List.append_nil _).symm⟩
  by_cases hq : q = p
  · subst hq
    rwa [State.mac_setMac]
  · rw [State.mac_setMac_other _ _ hq]
    exact .refl _

theorem QueueStep.send (s : State) (o : Out) : QueueStep s (s.send o) := ⟨fun _ => .refl _, fun _ => ⟨_, rfl⟩, [o], rfl⟩

theorem QueueStep.macCount (s : State) (p : Nat) (hi : i ∈ queueCounters) : QueueStep s (s.macCount p i) := by
  unfold State.macCount
  split
  · exact .setMac s (.count _ 1 hi)
  · exact .refl s

/-- Pause conditions follow the cells. -/
theorem updatePauses_step (s : State) : QueueStep s (updatePauses s) := by
  unfold updatePauses
  refine List.foldlRecOn (motive := QueueStep s) _ _ (.refl s) fun t ht p _ => ht.trans ?_
  extract_lets k now begun ended v w
  have hv : QueueStep t v := .setMac t (.pauses _ _ _)
  have hw : QueueStep t w := by
    unfold w
    split
    · exact hv
    · exact hv.trans ((QueueStep.setMac v ((QueueOnly.pauses _ _ _).trans (.count _ 1 (by decide)))).trans (.send _ _))
  split
  · exact hw
  · exact hw.trans ((QueueStep.setMac w ((QueueOnly.pauses _ _ _).trans (.count _ 1 (by decide)))).trans (.send _ _))

theorem updatePauses_switch (s : State) : (updatePauses s).switch = s.switch := updatePauses_keeps s .switch rfl

/-! ### A port done with a frame (R439) -/

/-- The frames stored once port `p` is done with frame `no`. -/
def doneFrames (no p : Nat) (fs : List SwFrame) : List SwFrame :=
  match fs.find? (fun f => f.no == no) with
  | none => fs
  | some f => if clrBit f.ports p = 0 then fs.filter (fun x => x.no != f.no) else fs.map (fun x => if x.no = no then { f with ports := clrBit f.ports p } else x)

/-- A frame left in store either is another one, unchanged, or has left the port. -/
theorem mem_doneFrames (h : x ∈ doneFrames no p fs) : (x ∈ fs ∧ x.no ≠ no) ∨ (x.no = no ∧ bitAt x.ports p = false) := by
  unfold doneFrames at h
  split at h
  next hnone =>
    rw [List.find?_eq_none] at hnone
    exact .inl ⟨h, by simpa using hnone x h⟩
  next f hf =>
    have hno : f.no = no := by simpa using List.find?_some hf
    split at h
    · obtain ⟨hx, hne⟩ := List.mem_filter.mp h
      exact .inl ⟨hx, by simpa [hno] using hne⟩
    · obtain ⟨y, hy, rfl⟩ := List.mem_map.mp h
      split
      · exact .inr ⟨hno, bitAt_clrBit _ _⟩
      next hne => exact .inl ⟨hy, hne⟩

/-- A frame's cells and credits go back. -/
theorem freeFrame_step (f : SwFrame) (s : State) : QueueStep s (freeFrame f s) ∧ (freeFrame f s).switch.frames = s.switch.frames.filter (fun x => x.no != f.no) := by
  unfold freeFrame
  extract_lets w w1 w2 v v1 v2
  have hw : w2.frames = s.switch.frames.filter (fun x => x.no != f.no) ∧ w2.rings = s.switch.rings := by
    unfold w2
    split
    · exact ⟨rfl, rfl⟩
    · split <;> exact ⟨rfl, rfl⟩
  obtain ⟨hframes, hrings⟩ := hw
  have hv : QueueStep s v := by
    refine ⟨fun _ => .refl _, fun e => ⟨(s.swRing e).credits, ?_⟩, [], (List.append_nil _).symm⟩
    show Table.get {} w2.rings e = _
    rw [hrings]
    rfl
  have hv1 : QueueStep v v1 ∧ v1.switch.frames = v.switch.frames := by
    unfold v1
    split
    · refine ⟨⟨fun _ => .refl _, fun e => ?_, [], (List.append_nil _).symm⟩, rfl⟩
      by_cases he : e = f.ingress - 12
      · subst he
        exact ⟨_, State.swRing_setSwRing _ _ _⟩
      · exact ⟨_, State.swRing_setSwRing_other _ _ he⟩
    · exact ⟨.refl _, rfl⟩
  obtain ⟨hv1, hf1⟩ := hv1
  have hv2 : QueueStep v1 v2 ∧ v2.switch = v1.switch := by
    unfold v2
    split
    · exact ⟨.setMac v1 (.holds _ _ _), rfl⟩
    · exact ⟨.refl _, rfl⟩
  obtain ⟨hv2, hf2⟩ := hv2
  refine ⟨((hv.trans hv1).trans hv2).trans (updatePauses_step v2), ?_⟩
  rw [updatePauses_switch, hf2, hf1]
  exact hframes

theorem portDone_step (no p : Nat) (s : State) : QueueStep s (portDone no p s) ∧ (portDone no p s).switch.frames = doneFrames no p s.switch.frames := by
  cases hf : s.switch.frames.find? (fun f => f.no == no) with
  | none =>
    rw [portDone, doneFrames, hf]
    exact ⟨.refl s, rfl⟩
  | some f =>
    rw [portDone, doneFrames, hf]
    dsimp only
    by_cases h : clrBit f.ports p = 0
    · rw [if_pos h, if_pos h]
      exact freeFrame_step { f with ports := clrBit f.ports p } s
    · rw [if_neg h, if_neg h]
      exact ⟨⟨fun _ => .refl _, fun _ => ⟨_, rfl⟩, [], (List.append_nil _).symm⟩, rfl⟩

/-- A frame that a port is done with has left it. -/
theorem portDone_left (no p : Nat) (s : State) : ∀ x ∈ (portDone no p s).switch.frames, x.no = no → bitAt x.ports p = false := by
  intro x hx hno
  rw [(portDone_step no p s).2] at hx
  rcases mem_doneFrames hx with ⟨-, hne⟩ | ⟨-, hleft⟩
  · exact absurd hno hne
  · exact hleft

/-- Frames that meet a condition leave the port one after another: of those still in store each is as it was and does not meet it, or has left. -/
theorem foldl_portDone {c : SwFrame → Bool} {h : State → SwFrame → State} {R : State → Prop} (hR : R s) (hkeep : ∀ t f, R t → R (h t f))
    (hframes : ∀ t f, R t → (h t f).switch.frames = if c f then doneFrames f.no p t.switch.frames else t.switch.frames) :
    ∀ x ∈ (s.switch.frames.foldl h s).switch.frames, (x ∈ s.switch.frames ∧ c x = false) ∨ bitAt x.ports p = false := by
  -- Of the frames dealt with so far, none that met the condition has the number of one still as it was.
  have hpart (l : List SwFrame) (hl : ∀ f ∈ l, f ∈ s.switch.frames) : ∀ (t : State), R t → ∀ done : List SwFrame,
      (∀ x ∈ t.switch.frames, (x ∈ s.switch.frames ∧ ∀ f ∈ done, c f = true → f.no ≠ x.no) ∨ bitAt x.ports p = false) →
      ∀ x ∈ (l.foldl h t).switch.frames, (x ∈ s.switch.frames ∧ ∀ f ∈ done ++ l, c f = true → f.no ≠ x.no) ∨ bitAt x.ports p = false := by
    induction l with
    | nil =>
      intro t _ done hdone
      rwa [List.append_nil]
    | cons f l ih =>
      intro t ht done hdone
      rw [List.foldl_cons, List.append_cons]
      refine ih (fun g hg => hl g (List.mem_cons_of_mem f hg)) (h t f) (hkeep t f ht) (done ++ [f]) fun x hx => ?_
      rw [hframes t f ht] at hx
      split at hx
      next hcond =>
        rcases mem_doneFrames hx with ⟨hx, hne⟩ | ⟨-, hleft⟩
        · rcases hdone x hx with ⟨hmem, hprev⟩ | hleft
          · refine .inl ⟨hmem, fun g hg hgc => ?_⟩
            rcases List.mem_append.mp hg with hg | hg
            · exact hprev g hg hgc
            · exact List.mem_singleton.mp hg ▸ Ne.symm hne
          · exact .inr hleft
        · exact .inr hleft
      next hcond =>
        rcases hdone x hx with ⟨hmem, hprev⟩ | hleft
        · refine .inl ⟨hmem, fun g hg hgc => ?_⟩
          rcases List.mem_append.mp hg with hg | hg
          · exact hprev g hg hgc
          · exact absurd hgc (List.mem_singleton.mp hg ▸ hcond)
        · exact .inr hleft
  intro x hx
  rcases hpart s.switch.frames (fun _ hf => hf) s hR [] (fun x hx => .inl ⟨hx, nofun⟩) x hx with ⟨hmem, hnone⟩ | hleft
  · refine .inl ⟨hmem, Bool.eq_false_iff.mpr fun hc => hnone x hmem hc rfl⟩
  · exact .inr hleft

/-! ### Mirrors and new frames (R435, R440, R442) -/

/-- A mirrored frame leaves the switch but for mirrors and what is handed to the Sheaf. -/
theorem mirrorFrame_switch (p dir cls : Nat) (octs : List Byte) (len : Nat) (s : State) : ∃ a b c,
    (mirrorFrame p dir cls octs len s).switch = { s.switch with mirrors := a, mirrorCells := b, toSheaf := c } := by
  unfold mirrorFrame
  refine List.foldlRecOn (motive := fun t : State => ∃ a b c, t.switch = { s.switch with mirrors := a, mirrorCells := b, toSheaf := c }) _ _
    ⟨_, _, _, rfl⟩ fun t ht n _ => ?_
  obtain ⟨a, b, c, ht⟩ := ht
  have hset (m : Mirror) : (t.setMirror n m).switch = { s.switch with mirrors := Table.set {} a n m, mirrorCells := b, toSheaf := c } := by
    rw [State.setMirror, ht]
  extract_lets m c1 copies hdr v w
  split
  · split
    · exact ⟨_, _, _, hset _⟩
    · split
      · exact ⟨_, _, _, hset _⟩
      · rw [State.stream_keeps _ _ _ _ _ .switch rfl]
        refine ⟨Table.set {} a n { m with count := c1, copies := copies }, v.switch.mirrorCells + 1, v.switch.toSheaf ++ [hdr ++ octs.take 128], ?_⟩
        show { v.switch with mirrorCells := v.switch.mirrorCells + 1, toSheaf := v.switch.toSheaf ++ [hdr ++ octs.take 128] } = _
        rw [show v.switch = _ from hset _]
  · exact ⟨a, b, c, ht⟩

/-- A frame whose ports all take frames is stored under the next number. -/
theorem enqueue_stored (f : SwFrame) (s : State) (hports : f.ports ≠ 0) (hopen : ∀ q, q < 12 → bitAt f.ports q = true → (s.mac q).holdState ≠ 2) :
    (enqueue f s).switch = { s.switch with nextNo := s.switch.nextNo + 1, frames := s.switch.frames ++ [{ f with no := s.switch.nextNo }] } := by
  have hdead : (List.range 12).filter (fun p => bitAt f.ports p && (s.mac p).holdState == 2) = [] := by
    rw [List.filter_eq_nil_iff]
    intro q hq
    simpa using hopen q (List.mem_range.mp hq)
  unfold enqueue
  rw [hdead]
  dsimp only [List.foldl_nil]
  exact (congrArg State.switch (if_neg hports)).trans (updatePauses_switch _)

theorem fromResv_le (w : SwitchState) (c k : Nat) : w.fromResv c k ≤ k := by
  unfold SwitchState.fromResv
  split
  · exact Nat.min_le_left _ _
  · exact Nat.zero_le _

theorem clrBit_of_clear {x b : Nat} (h : bitAt x b = false) : clrBit x b = x := if_neg (by rw [h]; nofun)

end Sys2Proof.Machine
end

section
/-! SUPPORT. Links, gates, pauses, verification and the audit of the switch (R428, R432, R436, R440, R441, R444, R445, R448). -/

namespace Sys2Proof.Machine

variable {s t : State} {p n : Nat} {k : Mac} {f x : SwFrame}

/-! ### Links and flushes (R440, R441) -/

theorem State.mac_of_macs (h : t.macs = s.macs) (q : Nat) : t.mac q = s.mac q := by
  rw [State.mac, h, State.mac]

theorem QueueStep.of_keeps {m : Nat} (h : Keeps m s t) (hmacs : m.testBit 17 = false) (hswitch : m.testBit 18 = false) (hout : m.testBit 27 = false) :
    QueueStep s t := by
  have hm : t.macs = s.macs := h .macs hmacs
  have hsw : t.switch = s.switch := h .switch hswitch
  refine ⟨fun q => ?_, fun e => ⟨(s.swRing e).credits, ?_⟩, [], Eq.trans (h .out hout) (List.append_nil _).symm⟩
  · rw [State.mac_of_macs hm]
    exact .refl _
  · rw [State.swRing, hsw, ← State.swRing]

/-- A frame in transmission is cut off. -/
def cutOff (p : Nat) (no : Option Nat) (s : State) : State :=
  match no with
  | none => s
  | some n => portDone n p (chkCut 1 p false (((s.switch.frames.find? (fun f => f.no == n)).map (·.cls)).getD 0) (s.macCount p 22))

theorem cutOff_step (p : Nat) (no : Option Nat) (s : State) : QueueStep s (cutOff p no s) := by
  cases no with
  | none => exact .refl s
  | some n =>
    have hcount := QueueStep.macCount s p (i := 22) (by decide)
    have hcut (c : Nat) : QueueStep (s.macCount p 22) (chkCut 1 p false c (s.macCount p 22)) := .of_keeps (chkCut_keeps 1 p false c _) rfl rfl rfl
    rw [cutOff]
    exact hcount.trans ((hcut _).trans (portDone_step n p _).1)

/-- A frame waiting at port `p`, not started. -/
def waiting (p : Nat) (f : SwFrame) : Bool := bitAt f.ports p && !bitAt f.started p

/-- A waiting frame is flushed. -/
def flushFrame (p : Nat) (s : State) (f : SwFrame) : State := if waiting p f then portDone f.no p (s.macCount p 20) else s

theorem flushPort_eq (p : Nat) (s : State) : flushPort p s = s.switch.frames.foldl (flushFrame p) s := rfl

theorem flushFrame_step (p : Nat) (s : State) (f : SwFrame) : QueueStep s (flushFrame p s f) := by
  unfold flushFrame
  split
  · exact (QueueStep.macCount s p (by decide)).trans (portDone_step _ _ _).1
  · exact .refl s

theorem flushPort_step (p : Nat) (s : State) : QueueStep s (flushPort p s) :=
  List.foldlRecOn (motive := QueueStep s) _ _ (.refl s) fun t ht f _ => ht.trans (flushFrame_step p t f)

theorem macCount_switch (s : State) (p i : Nat) : (s.macCount p i).switch = s.switch := State.macCount_keeps s p i .switch rfl

/-- A flush leaves at the port only what it has started. -/
theorem flushPort_frames (p : Nat) (s : State) : ∀ x ∈ (flushPort p s).switch.frames, bitAt x.ports p = true → bitAt x.started p = true := by
  intro x hx hport
  rw [flushPort_eq] at hx
  have hframes (t : State) (f : SwFrame) : (flushFrame p t f).switch.frames = if waiting p f then doneFrames f.no p t.switch.frames else t.switch.frames := by
    unfold flushFrame
    split
    · rw [(portDone_step _ _ _).2, macCount_switch]
    · rfl
  rcases foldl_portDone (p := p) (c := waiting p) (R := fun _ => True) trivial (fun _ _ h => h) (fun t f _ => hframes t f) x hx with ⟨-, hnot⟩ | hleft
  · simpa [waiting, hport] using hnot
  · rw [hleft] at hport
    exact absurd hport nofun

/-- The record of a port whose link has gone down, before the change is counted. -/
def Mac.cutLink (k : Mac) : Mac :=
  { k with link := false, sending := none, preempted := none, reasm := none, preempt := if k.preemptEn then 1 else 0
           verifyTries := 0, paused := 0, holdState := if k.hold = 0 then 2 else 1 }

/-- The record of a port whose link has gone down. -/
def Mac.downed (k : Mac) : Mac := k.cutLink.count 23 1

theorem linkDown_eq (h : (s.mac p).link = true) : linkDown p s =
    let t := (cutOff p (s.mac p).preempted (cutOff p (s.mac p).sending s)).updMac p Mac.downed
    linkChanged p false (if (s.mac p).hold = 0 then flushPort p t else t) := by
  have hup : ¬ (!(s.mac p).link) = true := by rw [h]; nofun
  rw [linkDown, if_neg hup]
  rfl

theorem linkChanged_macs (p : Nat) (up : Bool) (s : State) : (linkChanged p up s).macs = s.macs := State.event_keeps s _ _ _ _ .macs rfl

theorem linkChanged_switch (p : Nat) (up : Bool) (s : State) : (linkChanged p up s).switch = s.switch := State.event_keeps s _ _ _ _ .switch rfl

/-- The port's record on either side of its going down differs from the present one by what its queue moves. -/
theorem mac_linkDown (h : (s.mac p).link = true) : ∃ k, QueueOnly (s.mac p) k ∧ QueueOnly k.downed ((linkDown p s).mac p) := by
  have hcut := ((cutOff_step p (s.mac p).sending s).trans (cutOff_step p (s.mac p).preempted _)).ports p
  refine ⟨_, hcut, ?_⟩
  rw [linkDown_eq h]
  dsimp only
  rw [State.mac_of_macs (linkChanged_macs _ _ _)]
  have hset := State.mac_setMac (cutOff p (s.mac p).preempted (cutOff p (s.mac p).sending s)) p
    (((cutOff p (s.mac p).preempted (cutOff p (s.mac p).sending s)).mac p).downed)
  rw [← hset]
  split
  · exact (flushPort_step p _).ports p
  · exact .refl _

/-- What is left of the port's record. -/
theorem QueueOnly.downed {k' : Mac} (h : QueueOnly k.downed k') : k'.link = false ∧ k'.sending = none ∧ k'.preempted = none ∧
    k'.reasm = none ∧ k'.holdState = (if k.hold = 0 then 2 else 1) ∧ Table.get 0 k'.counters 23 = wrap 64 (Table.get 0 k.counters 23 + 1) := by
  obtain ⟨⟨a, b, c, d, e, g, heq⟩, hcount⟩ := h
  have h23 := hcount 23 (by decide)
  rw [Mac.downed, Mac.counter_count] at h23
  obtain ⟨nr, hdowned⟩ := Mac.count_eq k.cutLink 23 1
  rw [Mac.downed, hdowned] at heq
  rw [heq] at h23 ⊢
  exact ⟨rfl, rfl, rfl, rfl, rfl, h23⟩

/-! ### Gates (R432) -/

theorem State.mac_advanceTo (s : State) (at_ q : Nat) : (s.advanceTo at_).mac q = s.mac q :=
  State.mac_of_macs (State.advanceTo_keeps at_ s .macs rfl) q

/-- A list taken at its instant: time passes, and the port's record alone changes. -/
theorem does_gateListActivate {P : State → Prop} (hp : p < 12) (hP : ∀ a g, P ((s.advanceTo a).setMac p ((s.mac p).activate g))) :
    Does (.gateListActivate p) s P := by
  refine does_of_onUnit rfl hp ?_
  rw [State.updMac_eq, State.mac_advanceTo]
  exact hP _ _

theorem gated_touches (s : State) (a p : Nat) (k : Mac) : Touches [.time, .macs] s ((s.advanceTo a).setMac p k) :=
  (((State.advanceTo_keeps a s).mono (m := 131073) rfl).trans ((State.setMac_keeps _ p k).mono rfl)).touches _ (by decide)

theorem gated_other (s : State) (a p : Nat) (k : Mac) : ∀ q, q ≠ p → ((s.advanceTo a).setMac p k).mac q = s.mac q :=
  fun q hq => (State.mac_setMac_other _ _ hq).trans (State.mac_advanceTo s a q)

theorem Mac.takeEntry_of_some {g : GateList} {i start : Nat} {e : Nat × Nat × Nat} (h : g.entries[i]? = some e) : k.takeEntry g i start =
    { k with open_ := e.1, gateUntil := start + e.2.2, gateIdx := i
             holding := if e.2.1 = 1 then true else if e.2.1 = 2 then false else k.holding } := by
  rw [Mac.takeEntry, h]

/-! ### Pauses (R436) -/

theorem bitAt_w1c (x v b : Nat) : bitAt (w1c x v) b = (bitAt x b && !bitAt v b) := by
  have htaken : w1c x v = takeBits x 0 v := by rw [w1c, takeBits, Nat.zero_and, Nat.add_zero]
  rw [htaken, bitAt_takeBits, bitAt_eq 0, Nat.zero_testBit]
  cases bitAt v b <;> simp

theorem QueueOnly.hold {k' : Mac} (h : QueueOnly k k') : k'.hold = k.hold := by
  obtain ⟨⟨a, b, c, d, e, g, heq⟩, -⟩ := h
  rw [heq]

theorem QueueOnly.holdState {k' : Mac} (h : QueueOnly k k') : k'.holdState = k.holdState := by
  obtain ⟨⟨a, b, c, d, e, g, heq⟩, -⟩ := h
  rw [heq]

/-- The lists of the audit, once taken in; the records and marks that follow leave the switch alone (R444). -/
theorem audit_switch (leaked twice freed : List Nat) (s : State) : ∃ free doubled, (audit leaked twice freed s).switch = { s.switch with
    audits := wrap 16 (s.switch.audits + 1)
    leaks := satAdd 255 s.switch.leaks (leaked.filter (fun c => s.switch.suspects.contains c)).length
    doubles := satAdd 255 s.switch.doubles twice.length
    suspects := leaked.filter (fun c => !s.switch.suspects.contains c)
    sharedFree := free, doubled := doubled } := by
  unfold audit
  extract_lets w back new cleared retire u _ v x
  have hx : x.switch = v.switch := by
    unfold x
    split
    · rfl
    · exact State.memoryRecord_keeps _ _ _ _ _ _ .switch rfl
  refine ⟨_, _, Eq.trans ?_ (hx.trans rfl)⟩
  split
  · exact State.doom_keeps _ _ _ .switch rfl
  · rfl

/-- Settles O49: the port's record on either side of a link's end, a list taken at its instant, and the registers of the switch. -/
theorem switchLinksGatesPausesAndCounters : Obligations.SwitchLinksGatesPausesAndCounters := by
  unfold Obligations.SwitchLinksGatesPausesAndCounters
  refine ⟨?isDown, ?down, ?speed, ?up, ?half, ?noHold, ?expiry, ?noLink, ?asked, ?response, ?attempt, ?noList, ?removed, ?taken, ?noGates, ?change,
    ?quiet, ?refresh, ?expired, ?audit, fun s => ⟨_, rfl, rfl⟩, ?snap, ?noSnap, ?counter, ?none⟩
  case isDown => exact fun p s hp h => does_of_onUnit rfl hp (if_pos (by rw [h]; rfl))
  case down =>
    intro p s hp h
    refine does_of_onUnit rfl hp ?_
    obtain ⟨k, hbefore, hafter⟩ := mac_linkDown h
    obtain ⟨hlink, hsending, hpreempted, hreasm, hhold, hcount⟩ := hafter.downed
    rw [hbefore.hold] at hhold
    rw [hbefore.2 23 (by decide)] at hcount
    exact ⟨hlink, hsending, hpreempted, hreasm, hhold, hcount, (linkDown_keeps p s).touches _ (by decide)⟩
  case speed =>
    intro p v s hp h
    refine does_of_onUnit rfl hp ?_
    rw [linkUp, if_neg (show ¬ (!true) = true from nofun), if_pos h]
  case up =>
    intro p v s hp h
    refine does_of_onUnit rfl hp ?_
    have hdown : ¬ (s.mac p).link = true := by rw [h]; nofun
    rw [linkUp, if_neg nofun, if_neg hdown]
    dsimp only
    rw [State.mac_of_macs (linkChanged_macs _ _ _), State.mac_setMac, linkChanged_switch]
    refine ⟨?_, fun q hq => (State.mac_of_macs (linkChanged_macs _ _ _) q).trans (State.mac_setMac_other _ _ hq), rfl⟩
    cases (s.mac p).preemptEn <;> rfl
  case half =>
    intro p v s hp h
    have hdown : (!(s.mac p).link) = true := by rw [h]; rfl
    refine does_of_onUnit rfl hp ?_
    rw [linkUp, if_pos (show (!false) = true from rfl), linkDown, if_pos hdown]
  case noHold => exact fun p s hp h => does_of_onUnit rfl hp (if_neg h)
  case expiry =>
    intro p s hp h
    refine does_of_onUnit rfl hp ?_
    rw [if_pos h]
    refine ⟨?_, flushPort_frames p _, Keeps.touches (m := 134610944) ?_ _ (by decide)⟩
    · rw [((flushPort_step p _).ports p).holdState, State.mac_setMac]
    · exact ((State.setMac_keeps s p _).mono rfl).trans (flushPort_keeps p _)
  case noLink => exact fun p w s hp h => does_of_onUnit rfl hp (if_pos (by rw [h]; rfl))
  case asked => exact fun p s hp h => does_of_onUnit rfl hp (if_neg (by rw [h]; nofun))
  case response => exact fun p s hp h h1 hv => does_of_onUnit rfl hp ((if_neg (by rw [h]; nofun)).trans (if_pos ⟨h1, hv⟩))
  case attempt => exact fun p s hp h h1 => does_of_onUnit rfl hp ((if_neg (by rw [h]; nofun)).trans (if_neg (by simpa using h1)))
  case noList =>
    intro p s hp h
    refine does_gateListActivate hp fun a g => ⟨?_, gated_touches s a p _⟩
    rw [State.mac_setMac, Mac.activate, h]
  case removed =>
    intro p s hp h
    refine does_gateListActivate hp fun a g => ?_
    rw [State.mac_setMac, Mac.activate, h]
    exact ⟨rfl, rfl, rfl, rfl, gated_other s a p _, gated_touches s a p _⟩
  case taken =>
    intro p g e es s hp h he
    refine does_gateListActivate hp fun a gtc => ?_
    rw [State.mac_setMac, Mac.activate, h]
    dsimp only
    rw [Mac.takeEntry_of_some (e := e) (by rw [he]; rfl)]
    refine ⟨rfl, rfl, rfl, rfl, ?_, gated_touches s a p _⟩
    dsimp only
    by_cases h1 : e.2.1 = 1
    · rw [if_pos h1, decide_eq_true h1]
    · rw [if_neg h1, decide_eq_false h1, ite_self]
  case noGates =>
    intro p s hp h
    refine does_of_onUnit rfl hp ?_
    rw [h]
  case change =>
    intro p g i e s hp h hi he
    refine does_of_onUnit rfl hp ?_
    rw [h]
    dsimp only
    rw [← hi, Mac.takeEntry_of_some he, State.mac_setMac]
    exact ⟨rfl, rfl, rfl, gated_other s _ p _, gated_touches s _ p _⟩
  case quiet => exact fun p s hp h => does_of_onUnit rfl hp (if_pos h)
  case refresh =>
    intro p s hp h
    refine does_of_onUnit rfl hp ?_
    rw [if_neg h]
    refine ⟨rfl, ?_, Keeps.touches (m := 134348800) ?_ _ (by decide)⟩
    · exact (congrArg (fun k : Mac => Table.get 0 k.counters 16) (State.mac_setMac s p _)).trans (Mac.counter_count _ _ _)
    · exact ((State.setMac_keeps s p _).mono rfl).trans ((State.send_keeps _ _).mono rfl)
  case expired =>
    intro p cs s hp
    refine does_of_onUnit rfl hp ?_
    rw [State.updMac_eq, State.mac_setMac]
    refine ⟨rfl, fun c => ?_⟩
    rw [bitAt_w1c, wrap, bitAt_eq (cs % 2 ^ 8), Nat.testBit_mod_two_pow, ← bitAt_eq]
  case audit =>
    intro leaked twice freed s
    obtain ⟨free, doubled, hswitch⟩ := audit_switch leaked twice freed s
    refine ⟨_, rfl, ?_⟩
    beta_reduce
    rw [hswitch]
    exact ⟨rfl, rfl, rfl, rfl, rfl, (audit_keeps leaked twice freed s).touches _ (by decide)⟩
  case snap =>
    intro e n w s hn hown hbit
    exact does_of_onUnit rfl hn (if_pos ⟨by rw [hown, Nat.add_sub_cancel_left], Nat.le_add_right _ _, hbit⟩)
  case noSnap =>
    intro m n w s hn h
    refine does_of_onUnit rfl hn (if_neg ?_)
    rcases h with h | h <;> simp [h]
  case counter =>
    intro n j s hn hj
    refine does_of_onUnit rfl hn ?_
    have hkeeps := ((State.setMac_keeps s n { s.mac n with nrw := Table.set 0 (s.mac n).nrw j 0 }).mono (m := 67239936) rfl).trans
      ((State.returns_keeps _ (Table.get 0 (s.mac n).nrw j)).mono rfl)
    have hmac := State.mac_setMac s n { s.mac n with nrw := Table.set 0 (s.mac n).nrw j 0 }
    rw [if_pos hj]
    refine ⟨?_, rfl, fun k hk => ?_, (congrArg Mac.counters hmac :), hkeeps.touches _ (by decide)⟩
    · exact (congrArg (fun k : Mac => Table.get 0 k.nrw j) hmac).trans (Table.get_set_same 0 (s.mac n).nrw j 0)
    · exact (congrArg (fun m : Mac => Table.get 0 m.nrw k) hmac).trans (Table.get_set_other 0 (s.mac n).nrw 0 hk)
  case none => exact fun n j s hn => ⟨onUnit_fault hn, onUnit_fault hn⟩

end Sys2Proof.Machine
end

section
/-! SUPPORT. Ethernet reception (R421 to R425, R430, R433, R436): the checks in their order, and the frame that passes them. -/

namespace Sys2Proof.Machine

variable {s t : State} {p first i : Nat} {octs : List Byte}

/-- A port that receives: enabled, with its link up, and not unusable (R421). -/
structure Receiving (s : State) (p : Nat) : Prop where
  en : (s.mac p).en = true
  link : (s.mac p).link = true
  usable : s.macUsable p = true

theorem macReceive_of_deaf {code : Bool} {frag : RxFrag} (h : (s.mac p).en = false ∨ (s.mac p).link = false ∨ s.macUsable p = false) :
    macReceive p octs code frag first s = s :=
  if_pos (by rcases h with h | h | h <;> simp [h])

theorem Receiving.hears (h : Receiving s p) : ¬ ((!(s.mac p).en || !(s.mac p).link || !s.macUsable p) = true) := by
  rw [h.en, h.link, h.usable]
  nofun

/-- A whole packet goes to the checks (R422). -/
theorem Receiving.whole (h : Receiving s p) (octs : List Byte) (code : Bool) (first : Nat) :
    macReceive p octs code .whole first s = checkFrame p octs code (first - (s.mac p).rxLat) s := if_neg h.hears

/-- A fragment that continues nothing is counted (R430). -/
theorem Receiving.cont (h : Receiving s p) (fr fc : Nat) (last : Bool) (hnone : (s.mac p).reasm = none) :
    macReceive p octs false (.cont fr fc last) first s = s.macCount p 10 := by
  rw [macReceive, if_neg h.hears]
  dsimp only
  rw [hnone]

/-- A first fragment starts the frame's reassembly (R430). -/
theorem Receiving.initial (h : Receiving s p) (fr : Nat) (hnone : (s.mac p).reasm = none) (hlen : 64 ≤ octs.length) :
    macReceive p octs false (.initial fr false) first s =
      s.setMac p { s.mac p with reasm := some (octs.take (octs.length - 4), fr * 65536 + 4, first - (s.mac p).rxLat) } := by
  have hempty : ¬ (s.mac p).reasm.isSome = true := by rw [hnone]; nofun
  have hlong : ¬ octs.length < 64 := by omega
  rw [macReceive, if_neg h.hears]
  dsimp only
  rw [if_neg hempty, if_neg hlong]
  rfl

theorem macCount_eq (hp : p < 12) (i : Nat) (s : State) : s.macCount p i = s.setMac p ((s.mac p).count i 1) := if_pos hp

/-- A packet that is only counted. -/
theorem countsAt_of_receive {code : Bool} {frag : RxFrag} (hp : p < 12) (h : macReceive p octs code frag first s = s.macCount p i) :
    CountsAt (.frameReceive p octs code frag first) p i s := by
  refine does_of_onUnit rfl hp ?_
  rw [h, macCount_eq hp, State.mac_setMac]
  exact ⟨Mac.counter_count _ _ _, fun m hm => Mac.counter_count_other _ _ hm, fun q hq => State.mac_setMac_other _ _ hq,
    (State.setMac_keeps s p _).touches _ (by decide)⟩

/-! ### The checks (R422, R425) -/

theorem checkFrame_code (stamp : Nat) : checkFrame p octs true stamp s = s.macCount p 7 := by
  rw [checkFrame, if_pos rfl]

theorem checkFrame_short (stamp : Nat) (h : octs.length ≤ 63) : checkFrame p octs false stamp s = s.macCount p 5 := by
  rw [checkFrame, if_neg nofun, if_pos h]

theorem checkFrame_long (stamp : Nat) (h : 63 < octs.length) (hmax : (s.mac p).maxLen < octs.length) :
    checkFrame p octs false stamp s = s.macCount p 6 := by
  rw [checkFrame, if_neg nofun, if_neg (Nat.not_le.mpr h), if_pos hmax]

theorem checkFrame_fcs (stamp : Nat) (h : 63 < octs.length) (hmax : octs.length ≤ (s.mac p).maxLen)
    (hfcs : fcsOf (octs.take (octs.length - 4)) ≠ octs.drop (octs.length - 4)) : checkFrame p octs false stamp s = s.macCount p 4 := by
  rw [checkFrame, if_neg nofun, if_neg (Nat.not_le.mpr h), if_neg (Nat.not_lt.mpr hmax), if_pos hfcs]

/-- A frame of good length and FCS that is no MAC control frame. -/
structure Sound (s : State) (p : Nat) (octs : List Byte) : Prop where
  min : 63 < octs.length
  max : octs.length ≤ (s.mac p).maxLen
  fcs : fcsOf (octs.take (octs.length - 4)) = octs.drop (octs.length - 4)
  type : (ethertype octs).1 ≠ 0x8808

/-- A sound frame goes to the filters (R425). -/
theorem checkFrame_sound (stamp : Nat) (h : Sound s p octs) : checkFrame p octs false stamp s = match (s.mac p).filter octs with
    | none => s.macCount p 8
    | some (dest, ovr) =>
      if (if (s.mac p).hairpin then dest else clrBit dest p) = 0 then s.macCount p 8
      else storeExternal p octs (if (s.mac p).hairpin then dest else clrBit dest p) ((s.mac p).classOf ovr octs) stamp s := by
  have hmin : ¬ octs.length ≤ 63 := Nat.not_le.mpr h.min
  have hmax : ¬ (s.mac p).maxLen < octs.length := Nat.not_lt.mpr h.max
  have hfcs : ¬ fcsOf (octs.take (octs.length - 4)) ≠ octs.drop (octs.length - 4) := fun hne => hne h.fcs
  have htype : ¬ ((ethertype octs).1 = 0x8808 ∧ ¬ (ethertype octs).2 = true) := fun he => h.type he.1
  rw [checkFrame, if_neg nofun, if_neg hmin, if_neg hmax, if_neg hfcs, if_neg htype] <;> rfl

/-! ### The frame stored (R433) -/

/-- A port's record once a frame is received into it. -/
def Mac.received (k : Mac) (octs : List Byte) (cls shared head : Nat) : Mac :=
  let k := (k.count 0 1).count 1 octs.length
  let da := octets octs 0 6
  let k := if da.all (fun b => b == 0xFF) then k.count 3 1 else if bitAt (ofLE (da.take 1)) 0 then k.count 2 1 else k
  { k with held := Table.upd 0 k.held cls (· + (shared + head)), headUsed := k.headUsed + head }

theorem Mac.holdState_count (k : Mac) (i n : Nat) : (k.count i n).holdState = k.holdState := by
  obtain ⟨nr, e⟩ := k.count_eq i n
  rw [e]

theorem Mac.holdState_received (k : Mac) (octs : List Byte) (cls shared head : Nat) : (k.received octs cls shared head).holdState = k.holdState := by
  unfold Mac.received
  dsimp only
  split
  · rw [Mac.holdState_count, Mac.holdState_count, Mac.holdState_count]
  · split
    · rw [Mac.holdState_count, Mac.holdState_count, Mac.holdState_count]
    · rw [Mac.holdState_count, Mac.holdState_count]

/-- The buffer draws a frame's cells. -/
def State.drawCells (s : State) (cls resv n : Nat) : State := { s with switch := s.switch.draw cls resv n }

theorem State.drawCells_macs (s : State) (cls resv n : Nat) : (s.drawCells cls resv n).macs = s.macs := rfl

/-- A frame received: its port counts it, the units that watch it and the mirrors take it, and it draws its cells. -/
def frameIn (p : Nat) (octs : List Byte) (cls resv shared head : Nat) (s : State) : State :=
  (mirrorFrame p 0 cls octs octs.length (chkFrame 0 p false cls octs (s.updMac p (·.received octs cls shared head)))).drawCells
    cls resv (shared + head)

theorem frameIn_holdState (p : Nat) (octs : List Byte) (cls resv shared head : Nat) (s : State) (q : Nat) :
    ((frameIn p octs cls resv shared head s).mac q).holdState = (s.mac q).holdState := by
  have hmacs : (frameIn p octs cls resv shared head s).macs = (s.updMac p (·.received octs cls shared head)).macs := by
    rw [frameIn, State.drawCells_macs]
    generalize s.updMac p (·.received octs cls shared head) = u
    have hchk : (chkFrame 0 p false cls octs u).macs = u.macs := chkFrame_keeps 0 p false cls octs u .macs rfl
    generalize chkFrame 0 p false cls octs u = v at hchk ⊢
    have hmirror : (mirrorFrame p 0 cls octs octs.length v).macs = v.macs := mirrorFrame_keeps p 0 cls octs octs.length v .macs rfl
    exact hmirror.trans hchk
  rw [State.mac_of_macs hmacs, State.updMac_eq]
  by_cases hq : q = p
  · subst hq
    rw [State.mac_setMac, Mac.holdState_received]
  · rw [State.mac_setMac_other _ _ hq]

/-- What `storeExternal` does once it has its push-back, its headroom cells and its drawn ones. -/
def storeDrawn (p : Nat) (octs : List Byte) (mask cls stamp : Nat) (pushed : Bool) (head resv shared : Nat) (s : State) : State :=
  if (pushed && (!bitAt (s.mac p).pfcTx cls || decide ((s.mac p).headroom < (s.mac p).headUsed + cellsOf octs.length))) ||
      decide (s.switch.sharedFree < shared + head) then
    s.macCount p 9
  else
    enqueue { data := octs.take (octs.length - 4), len := octs.length, cls := cls, ports := mask, ingress := p, stamp := stamp, ext := true
              resv := resv, shared := shared, head := head } (frameIn p octs cls resv shared head s)

theorem storeExternal_drawn (p : Nat) (octs : List Byte) (mask cls stamp : Nat) (s : State) :
    storeExternal p octs mask cls stamp s =
      storeDrawn p octs mask cls stamp (bitAt ((s.mac p).pausing s.switch.sharedFree s.headSum) cls)
        (if bitAt ((s.mac p).pausing s.switch.sharedFree s.headSum) cls then cellsOf octs.length else 0)
        (if bitAt ((s.mac p).pausing s.switch.sharedFree s.headSum) cls then 0 else s.switch.fromResv cls (cellsOf octs.length))
        (if bitAt ((s.mac p).pausing s.switch.sharedFree s.headSum) cls then 0
          else cellsOf octs.length - (if bitAt ((s.mac p).pausing s.switch.sharedFree s.headSum) cls then 0
            else s.switch.fromResv cls (cellsOf octs.length))) s := by
  unfold storeExternal storeDrawn frameIn Mac.received State.drawCells
  rfl

/-- Without push-back a frame draws no headroom. -/
theorem storeExternal_unpushed {mask cls stamp : Nat} (hfree : bitAt ((s.mac p).pausing s.switch.sharedFree s.headSum) cls = false) :
    storeExternal p octs mask cls stamp s =
      storeDrawn p octs mask cls stamp false 0 (s.switch.fromResv cls (cellsOf octs.length))
        (cellsOf octs.length - s.switch.fromResv cls (cellsOf octs.length)) s := by
  have h := storeExternal_drawn p octs mask cls stamp s
  rw [hfree] at h
  exact h

/-- A frame without push-back draws its cells and is queued. -/
theorem storeExternal_eq {mask cls stamp : Nat} (hfree : bitAt ((s.mac p).pausing s.switch.sharedFree s.headSum) cls = false)
    (hcells : cellsOf octs.length ≤ s.switch.sharedFree) : ∃ resv shared, resv + shared = cellsOf octs.length ∧
      storeExternal p octs mask cls stamp s =
        enqueue { data := octs.take (octs.length - 4), len := octs.length, cls := cls, ports := mask, ingress := p, stamp := stamp, ext := true
                  resv := resv, shared := shared, head := 0 } (frameIn p octs cls resv shared 0 s) := by
  have hresv := fromResv_le s.switch cls (cellsOf octs.length)
  refine ⟨s.switch.fromResv cls (cellsOf octs.length), cellsOf octs.length - s.switch.fromResv cls (cellsOf octs.length), by omega, ?_⟩
  rw [storeExternal_unpushed hfree, storeDrawn, Bool.false_and, Bool.false_or, if_neg (by rw [decide_eq_true_eq]; omega)]

/-- A sound frame for known ports is stored for them with its class. -/
theorem storeExternal_stored {mask cls stamp : Nat} (hfree : bitAt ((s.mac p).pausing s.switch.sharedFree s.headSum) cls = false)
    (hcells : cellsOf octs.length ≤ s.switch.sharedFree) (hmask : mask ≠ 0) (hopen : ∀ q, q < 12 → bitAt mask q = true → (s.mac q).holdState ≠ 2) :
    ∃ f ∈ (storeExternal p octs mask cls stamp s).switch.frames, f.data = octs.take (octs.length - 4) ∧ f.len = octs.length ∧ f.cls = cls ∧
      f.ports = mask ∧ f.ingress = p ∧ f.stamp = stamp ∧ f.started = 0 ∧ f.resv + f.shared = cellsOf octs.length := by
  obtain ⟨resv, shared, hsum, hstore⟩ := storeExternal_eq (mask := mask) (stamp := stamp) hfree hcells
  rw [hstore, enqueue_stored _ _ hmask fun q hq hbit => by rw [frameIn_holdState]; exact hopen q hq hbit]
  exact ⟨_, List.mem_append_right _ List.mem_cons_self, rfl, rfl, rfl, rfl, rfl, rfl, rfl, hsum⟩

/-- Settles O47: the checks in their order, and the frame that passes them. -/
theorem ethernetReceivesChecksAndStores : Obligations.EthernetReceivesChecksAndStores := by
  unfold Obligations.EthernetReceivesChecksAndStores
  refine ⟨?deaf, ?code, ?short, ?long, ?fcs, ?unknown, ?stored, ?cont, ?initial, fun p octs code frag first s hp => onUnit_fault hp⟩
  case deaf => exact fun p octs code frag first s hp h => does_of_onUnit rfl hp (macReceive_of_deaf h)
  case code =>
    exact fun p octs first s hp hen hlink husable => countsAt_of_receive hp ((Receiving.whole ⟨hen, hlink, husable⟩ _ _ _).trans (checkFrame_code _))
  case short =>
    exact fun p octs first s hp hen hlink husable h =>
      countsAt_of_receive hp ((Receiving.whole ⟨hen, hlink, husable⟩ _ _ _).trans (checkFrame_short _ h))
  case long =>
    exact fun p octs first s hp hen hlink husable h hmax =>
      countsAt_of_receive hp ((Receiving.whole ⟨hen, hlink, husable⟩ _ _ _).trans (checkFrame_long _ h hmax))
  case fcs =>
    exact fun p octs first s hp hen hlink husable h hmax hfcs =>
      countsAt_of_receive hp ((Receiving.whole ⟨hen, hlink, husable⟩ _ _ _).trans (checkFrame_fcs _ h hmax hfcs))
  case unknown =>
    intro p octs first s hp hen hlink husable hmin hmax hfcs htype hfilter
    refine countsAt_of_receive hp ((Receiving.whole ⟨hen, hlink, husable⟩ _ _ _).trans ?_)
    rw [checkFrame_sound _ ⟨hmin, hmax, hfcs, htype⟩, hfilter]
  case stored =>
    intro p octs first dest s hp hen hlink husable hmin hmax hfcs htype hfilter hself hdest hfree hcells hopen
    refine does_of_onUnit rfl hp ?_
    have hkeeps := (macReceive_keeps p octs false .whole first s).touches [.cell, .chk, .lathes, .macs, .switch, .wnw, .nets, .out] (by decide)
    have hstored : macReceive p octs false .whole first s = storeExternal p octs dest ((s.mac p).classOf none octs) (first - (s.mac p).rxLat) s := by
      rw [Receiving.whole ⟨hen, hlink, husable⟩, checkFrame_sound _ ⟨hmin, hmax, hfcs, htype⟩, hfilter]
      dsimp only
      rw [clrBit_of_clear hself, ite_self, if_neg hdest]
    rw [hstored] at hkeeps ⊢
    obtain ⟨f, hf, hdata, hlen, hcls, hports, hingress, hstamp, hstarted, hsum⟩ :=
      storeExternal_stored (p := p) (stamp := first - (s.mac p).rxLat) hfree hcells hdest hopen
    exact ⟨f, hf, hdata, hlen, hcls, hports, hingress, hstamp, hstarted, hsum, hkeeps⟩
  case cont =>
    exact fun p octs fr fc first last s hp hen hlink husable hnone => countsAt_of_receive hp (Receiving.cont ⟨hen, hlink, husable⟩ _ _ _ hnone)
  case initial =>
    intro p octs fr first s hp hen hlink husable hnone hlen
    refine does_of_onUnit rfl hp ?_
    rw [Receiving.initial ⟨hen, hlink, husable⟩ fr hnone hlen, State.mac_setMac]
    exact ⟨rfl, rfl, (State.setMac_keeps s p _).touches _ (by decide)⟩

end Sys2Proof.Machine
end

section
/-! SUPPORT. Egress of the switch and the Lathe rings (R423, R432, R434, R435, R437 to R439, R451). -/

namespace Sys2Proof.Machine

variable {s t : State} {p e c n no : Nat} {f : SwFrame}

/-- The classes in the order of service. -/
theorem classesDown : (List.range 8).map (fun i => 7 - i) = [7, 6, 5, 4, 3, 2, 1, 0] := by decide

/-! ### The start of a frame (R435) -/

/-- The class that starts is the highest that may. -/
theorem nextClass_spec (h : s.nextClass p = some c) : s.mayStart p c = true ∧ ∀ d, c < d → d < 8 → s.mayStart p d = false := by
  rw [State.nextClass, List.find?_map, Option.map_eq_some_iff] at h
  obtain ⟨i, hi, rfl⟩ := h
  obtain ⟨hmay, -, hbelow⟩ := List.find?_range_eq_some.mp hi
  refine ⟨hmay, fun d hd h8 => ?_⟩
  have hskip := hbelow (7 - d) (by omega)
  simpa [show 7 - (7 - d) = d by omega] using hskip

theorem mayStart_spec (h : s.mayStart p c = true) (hf : s.headFrame p c = some f) :
    bitAt (s.mac p).open_ c = true ∧ bitAt (s.mac p).paused c = false ∧ pastDeadline s.gtc f.deadline = false := by
  simp only [State.mayStart, hf, Bool.and_eq_true, Bool.not_eq_true'] at h
  obtain ⟨⟨⟨⟨hopen, hpaused⟩, hpast⟩, -⟩, -⟩ := h
  exact ⟨hopen, hpaused, hpast⟩

/-- A frame without a stamp to insert goes out as it is stored. -/
theorem startFrame_sends (h : f.tsInsert = false) (p : Nat) (s : State) :
    ∃ v : State, startFrame p f s = (v.updMac p (fun k => { k with sending := some f.no })).send (.frame p f.wire) := by
  have hstamp : insertStamp p f s = (s, f) := if_pos (by rw [h]; rfl)
  unfold startFrame
  rw [hstamp]
  exact ⟨_, rfl⟩

theorem startFrame_sent (h : f.tsInsert = false) (p : Nat) (s : State) :
    Out.frame p f.wire ∈ (startFrame p f s).out ∧ ((startFrame p f s).mac p).sending = some f.no := by
  obtain ⟨v, hv⟩ := startFrame_sends h p s
  rw [hv]
  refine ⟨List.mem_append_right _ List.mem_cons_self, ?_⟩
  rw [State.mac_of_macs (State.macs_send _ _), State.updMac_eq, State.mac_setMac]

/-- An idle port that may send starts the head frame of the class chosen. -/
theorem transmit_starts {u : State} (hu : dropUnsendable p s = u) (hen : (u.mac p).en = true) (hlink : (u.mac p).link = true)
    (hhold : (u.mac p).holdState = 0) (husable : u.macUsable p = true) (hidle : (u.mac p).sending = none) (hclass : u.nextClass p = some c)
    (hf : u.headFrame p c = some f) : transmit p n s = startFrame p f u := by
  rw [transmit, hu]
  dsimp only
  rw [if_neg (by simp [hen, hlink, hhold, husable]), hidle]
  dsimp only
  rw [hclass]
  dsimp only
  rw [hf]

theorem transmit_of_down {u : State} (hu : dropUnsendable p s = u) (hlink : (u.mac p).link = false) : transmit p n s = u := by
  rw [transmit, hu]
  exact if_pos (by simp [hlink])

/-- The bridge is handed the head frame of the highest class. -/
theorem handOver_bridge (hf : s.headFrame 29 7 = some f) :
    handOver 29 s = portDone f.no 29 (mirrorFrame 29 1 f.cls f.data f.wireLen (s.send (.bridge f.data))) := by
  rw [handOver, classesDown, List.findSome?_cons, hf]
  dsimp only
  rw [if_neg (by decide)]

theorem mem_out_portDone {o : Out} (no p : Nat) (h : o ∈ s.out) : o ∈ (portDone no p s).out := by
  obtain ⟨l, hl⟩ := (portDone_step no p s).1.sent
  rw [hl]
  exact List.mem_append_left _ h

/-! ### The end of a frame and late frames (R438, R439) -/

/-- A port's record once a frame has left it: its frames and octets, and the kind of its address. -/
def Mac.sent (k : Mac) (f : SwFrame) : Mac :=
  let k := { (k.count 12 1).count 13 f.wireLen with sending := none }
  let da := octets f.data 0 6
  if da.all (fun b => b == 0xFF) then k.count 15 1 else if bitAt (ofLE (da.take 1)) 0 then k.count 14 1 else k

theorem Mac.sending_count (k : Mac) (i n : Nat) : (k.count i n).sending = k.sending := by
  obtain ⟨nr, e⟩ := k.count_eq i n
  rw [e]

theorem Mac.sent_spec (k : Mac) (f : SwFrame) : (k.sent f).sending = none ∧
    Table.get 0 (k.sent f).counters 12 = wrap 64 (Table.get 0 k.counters 12 + 1) ∧
    Table.get 0 (k.sent f).counters 13 = wrap 64 (Table.get 0 k.counters 13 + f.wireLen) := by
  have h12 : Table.get 0 ((k.count 12 1).count 13 f.wireLen).counters 12 = wrap 64 (Table.get 0 k.counters 12 + 1) := by
    rw [Mac.counter_count_other _ _ (by decide), Mac.counter_count]
  have h13 : Table.get 0 ((k.count 12 1).count 13 f.wireLen).counters 13 = wrap 64 (Table.get 0 k.counters 13 + f.wireLen) := by
    rw [Mac.counter_count, Mac.counter_count_other _ _ (by decide)]
  unfold Mac.sent
  extract_lets m1 m da
  have hkind (i : Nat) (h : i ≠ 12) (h' : i ≠ 13) : (m.count i 1).sending = none ∧
      Table.get 0 (m.count i 1).counters 12 = wrap 64 (Table.get 0 k.counters 12 + 1) ∧
      Table.get 0 (m.count i 1).counters 13 = wrap 64 (Table.get 0 k.counters 13 + f.wireLen) := by
    refine ⟨(Mac.sending_count m i 1).trans rfl, ?_, ?_⟩
    · rw [Mac.counter_count_other _ _ h.symm]
      exact h12
    · rw [Mac.counter_count_other _ _ h'.symm]
      exact h13
  split
  · exact hkind 15 (by decide) (by decide)
  · split
    · exact hkind 14 (by decide) (by decide)
    · exact ⟨rfl, h12, h13⟩

theorem endFrame_eq (hno : (s.mac p).sending = some no) (hf : s.switch.frames.find? (fun f => f.no == no) = some f) :
    endFrame p s = portDone no p (marginAt f p (s.updMac p (·.sent f))) := by
  rw [endFrame, hno]
  dsimp only
  rw [hf]
  rfl

theorem endFrame_mac (hno : (s.mac p).sending = some no) (hf : s.switch.frames.find? (fun f => f.no == no) = some f) :
    QueueOnly ((s.mac p).sent f) ((endFrame p s).mac p) := by
  have hmargin : (marginAt f p (s.updMac p (·.sent f))).macs = (s.updMac p (·.sent f)).macs := marginAt_keeps f p _ .macs rfl
  have h := (portDone_step no p (marginAt f p (s.updMac p (·.sent f)))).1.ports p
  rw [State.mac_of_macs hmargin, State.updMac_eq, State.mac_setMac] at h
  rwa [endFrame_eq hno hf]

/-- A late frame that has not started leaves its port. -/
def late (p gtc : Nat) (f : SwFrame) : Bool := bitAt f.ports p && !bitAt f.started p && pastDeadline gtc f.deadline

theorem withdraw_eq (p : Nat) (s : State) :
    withdraw p s = s.switch.frames.foldl (fun t f => if late p t.gtc f then portDone f.no p (missedAt f p (t.macCount p 19)) else t) s := rfl

theorem withdrawOne_keeps (p : Nat) (f : SwFrame) (t : State) : (portDone f.no p (missedAt f p (t.macCount p 19))).time = t.time ∧
    (portDone f.no p (missedAt f p (t.macCount p 19))).switch.frames = doneFrames f.no p t.switch.frames := by
  have hcount : (t.macCount p 19).time = t.time := State.macCount_keeps t p 19 .time rfl
  have hcountS := macCount_switch t p 19
  generalize t.macCount p 19 = u at hcount hcountS ⊢
  have hmiss : (missedAt f p u).time = u.time := missedAt_keeps f p u .time rfl
  have hmissS : (missedAt f p u).switch = u.switch := missedAt_keeps f p u .switch rfl
  generalize missedAt f p u = v at hmiss hmissS ⊢
  have hdone : (portDone f.no p v).time = v.time := portDone_keeps f.no p v .time rfl
  exact ⟨hdone.trans (hmiss.trans hcount), by rw [(portDone_step _ _ _).2, hmissS, hcountS]⟩

theorem withdraw_frames (p : Nat) (s : State) : ∀ x ∈ (withdraw p s).switch.frames, bitAt x.ports p = true → bitAt x.started p = false →
    pastDeadline s.gtc x.deadline = false := by
  intro x hx hport hstarted
  rw [withdraw_eq] at hx
  have hleft := foldl_portDone (p := p) (c := late p s.gtc) (R := fun t => t.time = s.time)
    (h := fun t f => if late p t.gtc f then portDone f.no p (missedAt f p (t.macCount p 19)) else t) rfl
    (fun t f ht => by
      split
      · exact (withdrawOne_keeps p f t).1.trans ht
      · exact ht)
    (fun t f ht => by
      rw [State.gtc_of_time ht]
      split
      · exact (withdrawOne_keeps p f t).2
      · rfl) x hx
  rcases hleft with ⟨-, hlate⟩ | hgone
  · simpa [late, hport, hstarted] using hlate
  · rw [hport] at hgone
    cases hgone

/-! ### The Lathe rings (R434, R437, R451) -/

/-- The descriptor at TAIL of a transmit ring. -/
def State.txDescriptor (s : State) (e : Nat) : List Byte := s.memGet (dataHalf e (s.lathe e).live + ((s.swRing e).txBase + (s.swRing e).txTail) * 16) 16

/-- The L of the frame that a descriptor asks for. -/
def descLen (d : List Byte) : Nat := max 64 (uAt d 4 2 + 4)

/-- Its class. -/
def descClass (d : List Byte) : Nat := field (uAt d 6 1) 0 3

/-- Its ports. -/
def descDest (d : List Byte) : Nat := field (uAt d 8 4) 0 30

theorem takeDescriptor_short (h : (s.swRing e).txHead ≠ (s.swRing e).txTail) (hlen : uAt (s.txDescriptor e) 4 2 < 14) :
    takeDescriptor e s = s.setSwRing e { s.swRing e with ringFault := satAdd 255 (s.swRing e).ringFault 1, txTail := ((s.swRing e).txTail + 1) % 64 } := by
  unfold takeDescriptor
  dsimp only
  rw [if_neg h]
  exact if_pos (.inl hlen)

/-- The ring, the mirrors, the check units and the buffer as a descriptor's frame is taken. -/
def descTaken (e : Nat) (d octs : List Byte) (resv : Nat) (s : State) : State :=
  (chkFrame 0 (12 + e) false (descClass d) octs (mirrorFrame (12 + e) 0 (descClass d) octs (descLen d)
    (s.updSwRing e (fun r => { r with credits := r.credits - cellsOf (descLen d), txTail := (r.txTail + 1) % 64 })))).drawCells
    (descClass d) resv (cellsOf (descLen d) - resv)

/-- The frame of a descriptor. -/
def descFrame (e : Nat) (d octs : List Byte) (resv : Nat) : SwFrame :=
  { data := octs, len := uAt d 4 2 + 4, cls := descClass d, ports := descDest d, ingress := 12 + e
    deadline := if bitAt (uAt d 6 1) 3 then some (uAt d 12 4) else none, tsInsert := bitAt (uAt d 6 1) 4
    resv := resv, shared := cellsOf (descLen d) - resv, credits := cellsOf (descLen d) }

/-- A descriptor that names good octets of its Lathe, with credits and cells for them. -/
structure Takable (s : State) (e ofs : Nat) (d : List Byte) : Prop where
  waits : (s.swRing e).txHead ≠ (s.swRing e).txTail
  desc : s.txDescriptor e = d
  min : 14 ≤ uAt d 4 2
  max : uAt d 4 2 ≤ 9212
  ports : descDest d ≠ 0
  other : bitAt (descDest d) (12 + e) = false
  addr : lathePool e (s.lathe e).live (uAt d 0 4) = some ofs
  owned : s.poolOk (0x10 + e) ofs (uAt d 4 2) = true
  clean : ∀ w ∈ wordsOf ofs (uAt d 4 2), w ∉ s.pool.ueWords
  credits : cellsOf (descLen d) ≤ (s.swRing e).credits
  cells : s.headSum + cellsOf (descLen d) < s.switch.sharedFree

theorem Takable.taken {ofs : Nat} {d : List Byte} (h : Takable s e ofs d) : takeDescriptor e s =
    enqueue (descFrame e d (s.memGet ofs (uAt d 4 2)) (s.switch.fromResv (descClass d) (cellsOf (descLen d))))
      (descTaken e d (s.memGet ofs (uAt d 4 2)) (s.switch.fromResv (descClass d) (cellsOf (descLen d))) s) := by
  obtain ⟨hwaits, hdesc, hmin, hmax, hports, hother, haddr, howned, hclean, hcredits, hcells⟩ := h
  have hresv := fromResv_le s.switch (descClass d) (cellsOf (descLen d))
  have hgood : ¬ (uAt d 4 2 < 14 ∨ 9212 < uAt d 4 2 ∨ descDest d = 0 ∨ bitAt (descDest d) (12 + e) = true) := by
    simp [hports, hother]
    omega
  have hhas : s.poolHas (cellsOf (descLen d) - s.switch.fromResv (descClass d) (cellsOf (descLen d))) = true := by
    simp [State.poolHas]
    omega
  have hroom : ¬ ((s.swRing e).credits < cellsOf (descLen d) ∨
      (!s.poolHas (cellsOf (descLen d) - s.switch.fromResv (descClass d) (cellsOf (descLen d)))) = true) := by
    rw [hhas]
    simpa using hcredits
  unfold takeDescriptor
  unfold State.txDescriptor at hdesc
  dsimp only
  rw [if_neg hwaits, hdesc]
  refine (if_neg hgood).trans ?_
  rw [haddr]
  refine (if_neg (by rw [howned]; decide)).trans ((if_neg hroom).trans ?_)
  rw [poolRead_ok howned hclean]
  rfl

/-- Of the rings, taking a descriptor moves the own one alone; the ports stay. -/
theorem descTaken_rings (e : Nat) (d octs : List Byte) (resv : Nat) (s : State) :
    (descTaken e d octs resv s).swRing e =
      { s.swRing e with credits := (s.swRing e).credits - cellsOf (descLen d), txTail := ((s.swRing e).txTail + 1) % 64 } ∧
    (descTaken e d octs resv s).macs = s.macs := by
  unfold descTaken
  have hring : (s.updSwRing e fun r => { r with credits := r.credits - cellsOf (descLen d), txTail := (r.txTail + 1) % 64 }).swRing e =
      { s.swRing e with credits := (s.swRing e).credits - cellsOf (descLen d), txTail := ((s.swRing e).txTail + 1) % 64 } := by
    rw [State.updSwRing_eq, State.swRing_setSwRing]
  have hmacs : (s.updSwRing e fun r => { r with credits := r.credits - cellsOf (descLen d), txTail := (r.txTail + 1) % 64 }).macs = s.macs := rfl
  generalize (s.updSwRing e fun r => { r with credits := r.credits - cellsOf (descLen d), txTail := (r.txTail + 1) % 64 }) = u at hring hmacs ⊢
  obtain ⟨a, b, c, hmirror⟩ := mirrorFrame_switch (12 + e) 0 (descClass d) octs (descLen d) u
  have hmirrorM : (mirrorFrame (12 + e) 0 (descClass d) octs (descLen d) u).macs = u.macs := mirrorFrame_keeps _ _ _ _ _ u .macs rfl
  generalize mirrorFrame (12 + e) 0 (descClass d) octs (descLen d) u = v at hmirror hmirrorM ⊢
  have hchk : (chkFrame 0 (12 + e) false (descClass d) octs v).switch = v.switch := chkFrame_keeps _ _ _ _ _ v .switch rfl
  have hchkM : (chkFrame 0 (12 + e) false (descClass d) octs v).macs = v.macs := chkFrame_keeps _ _ _ _ _ v .macs rfl
  generalize chkFrame 0 (12 + e) false (descClass d) octs v = w at hchk hchkM ⊢
  refine ⟨?_, hchkM.trans (hmirrorM.trans hmacs)⟩
  have hrings : (w.drawCells (descClass d) resv (cellsOf (descLen d) - resv)).switch.rings = u.switch.rings := by
    show w.switch.rings = _
    rw [hchk, hmirror]
  rw [← hring, State.swRing, hrings, ← State.swRing]

/-- A takable descriptor's frame is stored for its ports, and its cells are drawn from the ring's credits. -/
theorem Takable.stored {ofs : Nat} {d : List Byte} (h : Takable s e ofs d)
    (hopen : ∀ q, q < 12 → bitAt (descDest d) q = true → (s.mac q).holdState ≠ 2) :
    (takeDescriptor e s).swRing e =
      { s.swRing e with credits := (s.swRing e).credits - cellsOf (descLen d), txTail := ((s.swRing e).txTail + 1) % 64 } ∧
    ∃ f ∈ (takeDescriptor e s).switch.frames, f.data = s.memGet ofs (uAt d 4 2) ∧ f.ingress = 12 + e ∧ f.ports = descDest d ∧ f.cls = descClass d ∧
      f.deadline = if bitAt (uAt d 6 1) 3 then some (uAt d 12 4) else none := by
  rw [h.taken]
  generalize s.switch.fromResv (descClass d) (cellsOf (descLen d)) = resv
  obtain ⟨hring, hmacs⟩ := descTaken_rings e d (s.memGet ofs (uAt d 4 2)) resv s
  generalize descTaken e d (s.memGet ofs (uAt d 4 2)) resv s = u at hring hmacs ⊢
  have hstored := enqueue_stored (descFrame e d (s.memGet ofs (uAt d 4 2)) resv) u h.ports
    (fun q hq hbit => by rw [State.mac_of_macs hmacs]; exact hopen q hq hbit)
  generalize enqueue (descFrame e d (s.memGet ofs (uAt d 4 2)) resv) u = v at hstored ⊢
  refine ⟨?_, ?_⟩
  · rw [← hring, State.swRing, hstored, ← State.swRing]
  · rw [hstored]
    exact ⟨_, List.mem_append_right _ List.mem_cons_self, rfl, rfl, rfl, rfl, rfl⟩

/-- The descriptor of the next posted buffer of a receive ring. -/
def State.rxDescriptor (s : State) (e : Nat) : List Byte := s.memGet (dataHalf e (s.lathe e).live + ((s.swRing e).rxBase + (s.swRing e).rxTail) * 16) 16

theorem deliver_none (h : ∀ c, c < 8 → s.headFrame (12 + e) c = none) : deliver e s = s := by
  have hnone : [7, 6, 5, 4, 3, 2, 1, 0].findSome? (fun c => s.headFrame (12 + e) c) = none := by
    rw [List.findSome?_eq_none_iff]
    exact fun c hc => h c (by simp at hc; omega)
  rw [deliver, classesDown, hnone]

theorem deliver_full (hf : s.headFrame (12 + e) 7 = some f) (h : (s.swRing e).rxHead = (s.swRing e).rxTail) : deliver e s = s := by
  rw [deliver, classesDown, List.findSome?_cons, hf]
  exact if_pos h

/-- The ring once the buffer at TAIL has taken a frame. -/
def LatheRing.rxFilled (r : LatheRing) (d : List Byte) (f : SwFrame) : LatheRing :=
  { r with rxTail := (r.rxTail + 1) % 64, rxTrunc := if decide (uAt d 4 2 < f.data.length) then satAdd 255 r.rxTrunc 1 else r.rxTrunc }

/-- The buffer and its descriptor as a frame is written into them. -/
def rxWritten (e : Nat) (d : List Byte) (f : SwFrame) (s : State) : State :=
  (s.memPut (dataHalf e (s.lathe e).live + (uAt d 0 4 - 0x10000000)) (f.data.take (uAt d 4 2))).memPut
    (dataHalf e (s.lathe e).live + ((s.swRing e).rxBase + (s.swRing e).rxTail) * 16 + 6)
    (toLE 2 (f.data.take (uAt d 4 2)).length ++ toLE 4 (wrap 32 f.stamp) ++ toLE 1 f.ingress ++
      toLE 1 (f.cls + bitIf 3 (decide (uAt d 4 2 < f.data.length))) ++ toLE 2 0)

/-- A frame in its buffer: the ring moves on, the mirrors and the check units take it, and a receive entry is requested. -/
def rxDelivered (e : Nat) (d : List Byte) (f : SwFrame) (s : State) : State :=
  (chkFrame 1 (12 + e) false f.cls f.data (mirrorFrame (12 + e) 1 f.cls f.data f.len
    ((rxWritten e d f s).setSwRing e ((s.swRing e).rxFilled d f)))).requestEntry e f.stamp f.ingress
      (0x10000000 + ((s.swRing e).rxBase + (s.swRing e).rxTail) * 16)

theorem rxDelivered_ring (e : Nat) (d : List Byte) (f : SwFrame) (s : State) : (rxDelivered e d f s).swRing e = (s.swRing e).rxFilled d f := by
  unfold rxDelivered
  have hring := State.swRing_setSwRing (rxWritten e d f s) e ((s.swRing e).rxFilled d f)
  generalize (rxWritten e d f s).setSwRing e ((s.swRing e).rxFilled d f) = u at hring ⊢
  obtain ⟨a, b, c, hmirror⟩ := mirrorFrame_switch (12 + e) 1 f.cls f.data f.len u
  generalize mirrorFrame (12 + e) 1 f.cls f.data f.len u = v at hmirror ⊢
  have hchk : (chkFrame 1 (12 + e) false f.cls f.data v).switch = v.switch := chkFrame_keeps _ _ _ _ _ v .switch rfl
  generalize chkFrame 1 (12 + e) false f.cls f.data v = w at hchk ⊢
  have hentry : (w.requestEntry e f.stamp f.ingress (0x10000000 + ((s.swRing e).rxBase + (s.swRing e).rxTail) * 16)).switch = w.switch :=
    State.requestEntry_keeps w _ _ _ _ .switch rfl
  rw [← hring, State.swRing, hentry, hchk, hmirror, ← State.swRing]

/-- A frame for a posted buffer is done at its ring once it is in the buffer. -/
theorem deliver_posted {d : List Byte} (hf : s.headFrame (12 + e) 7 = some f) (h : (s.swRing e).rxHead ≠ (s.swRing e).rxTail)
    (hd : s.rxDescriptor e = d) (hlo : 0x10000000 ≤ uAt d 0 4) (hhi : uAt d 0 4 + uAt d 4 2 ≤ 0x10040000) (hsize : 64 ≤ uAt d 4 2) :
    deliver e s = portDone f.no (12 + e) (rxDelivered e d f s) := by
  have hgood : ¬ (uAt d 0 4 < 0x10000000 ∨ 0x10040000 < uAt d 0 4 + uAt d 4 2 ∨ uAt d 4 2 < 64) := by omega
  unfold State.rxDescriptor at hd
  rw [deliver, classesDown, List.findSome?_cons, hf]
  dsimp only
  rw [if_neg h, hd, if_neg hgood]
  rfl

/-- Settles O48: the frame that starts, the frames that leave, and the rings one case each. -/
theorem switchSendsWithdrawsAndServesRings : Obligations.SwitchSendsWithdrawsAndServesRings := by
  unfold Obligations.SwitchSendsWithdrawsAndServesRings
  refine ⟨?starts, ?chosen, ?down, ?internal, ?bridge, ?noPort, ?idle, ?ends, ?withdrawn, fun p s hp => onUnit_fault hp, ?empty, ?short, ?taken,
    ?noFrame, ?full, ?delivered, ?txSame, ?txHead, ?rxHead, ?credits, ?rxRead⟩
  case starts =>
    intro p sent c f s hp hen hlink hhold husable hidle hclass hf hstamp
    have hstart := transmit_starts (n := sent) rfl hen hlink hhold husable hidle hclass hf
    obtain ⟨hsent, hsending⟩ := startFrame_sent hstamp p (dropUnsendable p s)
    refine ⟨transmit p sent s, if_pos hp, ?_⟩
    have hkeeps := (transmit_keeps p sent s).touches [.time, .chk, .lathes, .macs, .switch, .wnw, .out] (by decide)
    rw [hstart] at hkeeps ⊢
    exact ⟨hsent, hsending, hkeeps⟩
  case chosen =>
    intro c s p f hclass hf
    obtain ⟨hmay, habove⟩ := nextClass_spec hclass
    obtain ⟨hopen, hpaused, hpast⟩ := mayStart_spec hmay hf
    exact ⟨hopen, hpaused, hpast, habove⟩
  case down => exact fun p sent s hp hlink => ⟨transmit p sent s, if_pos hp, transmit_of_down rfl hlink⟩
  case internal =>
    intro p sent s hp hp'
    have hno : ¬ (p = 28 ∨ p = 29) := by omega
    exact ⟨s, (if_neg (by omega)).trans ((if_neg hno).trans (if_pos hp')), rfl⟩
  case bridge =>
    intro f sent s hf
    refine ⟨handOver 29 s, rfl, ?_⟩
    rw [handOver_bridge hf]
    have hmirror : (mirrorFrame 29 1 f.cls f.data f.wireLen (s.send (.bridge f.data))).out = (s.send (.bridge f.data)).out :=
      mirrorFrame_keeps _ _ _ _ _ _ .out rfl
    refine ⟨mem_out_portDone _ _ ?_, portDone_left _ _ _⟩
    rw [hmirror]
    exact List.mem_append_right _ List.mem_cons_self
  case noPort =>
    intro p sent s hp
    have hno : ¬ (p = 28 ∨ p = 29) := by omega
    exact (if_neg (by omega)).trans ((if_neg hno).trans (if_neg (by omega)))
  case idle =>
    refine fun p s hp hidle => does_of_onUnit rfl hp ?_
    rw [endFrame, hidle]
  case ends =>
    intro p no f s hp hno hf
    refine does_of_onUnit rfl hp ?_
    obtain ⟨hidle, hframes, hoctets⟩ := (s.mac p).sent_spec f
    obtain ⟨⟨a, b, c, d, counters, g, hk⟩, hcount⟩ := endFrame_mac hno hf
    refine ⟨?_, (hcount 12 (by decide)).trans hframes, (hcount 13 (by decide)).trans hoctets, ?_, (endFrame_keeps p s).touches _ (by decide)⟩
    · rw [hk]
      exact hidle
    · rw [endFrame_eq hno hf]
      exact portDone_left _ _ _
  case withdrawn => exact fun p s hp => does_of_onUnit rfl hp ⟨withdraw_frames p s, (withdraw_keeps p s).touches _ (by decide)⟩
  case empty => exact fun e s he h => does_of_onUnit rfl he (if_pos h)
  case short => exact fun e s he h hlen => does_of_onUnit rfl he (takeDescriptor_short h hlen)
  case taken =>
    intro e d ofs s he hwaits hdesc hmin hmax hports hother haddr howned hclean hcredits hcells hopen
    refine does_of_onUnit rfl he ?_
    obtain ⟨hring, hstored⟩ := Takable.stored ⟨hwaits, hdesc, hmin, hmax, hports, hother, haddr, howned, hclean, hcredits, hcells⟩ hopen
    rw [hring]
    exact ⟨rfl, rfl, hstored⟩
  case noFrame => exact fun e s he h => does_of_onUnit rfl he (deliver_none h)
  case full => exact fun e f s he hf h => does_of_onUnit rfl he (deliver_full hf h)
  case delivered =>
    intro e f d s he hf h hd hlo hhi hsize
    refine does_of_onUnit rfl he ?_
    obtain ⟨c, hc⟩ := (portDone_step f.no (12 + e) (rxDelivered e d f s)).1.rings e
    rw [deliver_posted hf h hd hlo hhi hsize, hc, rxDelivered_ring, LatheRing.rxFilled]
    exact ⟨rfl, by simp only [decide_eq_true_eq], portDone_left _ _ _⟩
  case txSame => exact fun e w s he h => does_of_onUnit rfl he (if_pos h)
  case txHead =>
    intro e w s he h
    have hwrite : txrIdxWrite e w.toNat s = (s.setSwRing e { s.swRing e with txHead := field w.toNat 0 6 }).updLathe e
        (fun l => { l with txFrames := wrap 32 (l.txFrames + (field w.toNat 0 6 + 64 - (s.swRing e).txHead) % 64) }) := if_neg h
    refine does_of_onUnit rfl he ⟨?_, ?_, (txrIdxWrite_keeps e w.toNat s).touches _ (by decide)⟩
    · rw [hwrite]
      exact State.swRing_setSwRing _ _ _
    · rw [hwrite, State.updLathe_eq, State.lathe_setLathe]
      rfl
  case rxHead =>
    refine fun e w s he => does_of_onUnit rfl he ?_
    unfold rxrIdxWrite
    exact (apply_ite (s.setSwRing e) _ _ _).symm
  case credits => exact fun e s he => does_of_onUnit rfl he rfl
  case rxRead => exact fun e s he => does_of_onUnit rfl he rfl

end Sys2Proof.Machine
end

section
/-! SUPPORT. Journal commits, wear levelling, the archive, NOR results and the telemetry stream (R434, R589 to R593, R609, R615, R619, R620). -/

namespace Sys2Proof.Machine

variable {s t : State} {p : JPage} {rs : List StreamRec}

/-! ### The journal and tier 2 (R589, R590, R609, R615, R619, R620) -/

theorem commitJournal_inhibited (h : s.power.inhibit = true) : s.commitJournal = s := if_pos h

theorem pushRecord_norOk (r : JRec) (h : s.power.inhibit = false) : (pushRecord s r).jrnl.norOk = s.jrnl.norOk := by
  have hfull := State.commitJournal_jrnl (s := { s with jrnl := { s.jrnl with openRecs := s.jrnl.openRecs ++ [r] } }) h
  simp only [pushRecord]
  split
  · exact (congrArg Journal.norOk hfull :)
  · rfl

/-- A record says nothing of the NOR devices. -/
theorem State.record_norOk (s : State) (loc kind : Nat) (bs : List Byte) : (s.record loc kind bs).jrnl.norOk = s.jrnl.norOk := by
  cases h : s.power.inhibit with
  | true =>
    rw [State.record, h]
    rfl
  | false =>
    rw [State.record_eq_pushRecord _ _ _ h]
    exact pushRecord_norOk _ h

/-- The journal with a sector erased. -/
def Journal.erased (j : Journal) (sector : Nat) : Journal :=
  { j with erasing := j.erasing.filter (· != sector), erases := Table.upd 0 j.erases sector (· + 1) }

/-- A sector whose erase ended well. -/
def eraseEnded (op sector : Nat) (ok : Bool) (s : State) : State := if op = 2 ∧ ok then { s with jrnl := s.jrnl.erased sector } else s

theorem Journal.erased_spec (j : Journal) (sector : Nat) : sector ∉ (j.erased sector).erasing ∧
    Table.get 0 (j.erased sector).erases sector = Table.get 0 j.erases sector + 1 := by
  refine ⟨?_, Table.get_upd_same 0 j.erases sector (· + 1)⟩
  simp [Journal.erased]

/-- A NOR device is used no more. -/
def norLost (dev : Nat) (s : State) : State := { s with jrnl := { s.jrnl with norOk := clrBit s.jrnl.norOk dev } }

theorem eraseEnded_keeps (op sector : Nat) (ok : Bool) (s : State) : Keeps 64 s (eraseEnded op sector ok s) :=
  Keeps.ite (Keeps.jrnl_ (Keeps.refl _ _) rfl (.inl rfl)) (Keeps.refl _ _)

theorem norEnd_eq (dev op sector : Nat) (ok : Bool) (s : State) : norEnd dev op sector ok s =
    if ok then eraseEnded op sector ok s else (norLost dev (eraseEnded op sector ok s)).memoryRecord 0 6 dev sector op := rfl

theorem norEnd_ok (dev op sector : Nat) (s : State) : norEnd dev op sector true s = eraseEnded op sector true s := (norEnd_eq dev op sector true s).trans (if_pos rfl)

/-- A device that fails is recorded and used no more. -/
theorem norEnd_failed (dev op sector : Nat) (s : State) : norEnd dev op sector false s = (norLost dev s).memoryRecord 0 6 dev sector op := by
  have hkept : eraseEnded op sector false s = s := if_neg fun h => by cases h.2
  rw [norEnd_eq, hkept, if_neg nofun]

theorem wearMove_kept {k : Nat} (h : s.power.inhibit = true ∨ s.jrnl.deferring = true ∨ s.jrnl.eraseSpan.1 ≤ Table.get 0 s.jrnl.erases k + 2000) :
    wearMove k s = s := if_pos h

/-- The journal with a sector moved. -/
def Journal.moved (j : Journal) (k : Nat) : Journal := { j with erases := Table.upd 0 j.erases k (· + 1), nvWritten := j.nvWritten + 65536 }

theorem wearMove_moves {k : Nat} (hopen : s.power.inhibit = false) (hrate : s.jrnl.deferring = false)
    (h : Table.get 0 s.jrnl.erases k + 2000 < s.jrnl.eraseSpan.1) : (wearMove k s).jrnl = s.jrnl.moved k :=
  congrArg State.jrnl (if_neg (by simp [hopen, hrate, h]))

theorem exec_wearLevelMove (k : Nat) (s : State) : exec (.wearLevelMove k) s = onUnit k levelled (if s.wnw.run then wearMove k s else s) := rfl

/-- The page that the archive takes next. -/
def Journal.nextPage (j : Journal) : Option JPage := j.pages.find? (fun p => decide (j.nextArchive ≤ p.no))

theorem archivePage_none (e : Option (Nat × Nat)) (h : s.jrnl.nextPage = none) : archivePage e s = s := by
  unfold Journal.nextPage at h
  unfold archivePage
  dsimp only
  rw [h]

/-- The journal with room made in the archive, where a sector was erased for it. -/
def Journal.evicted (j : Journal) : Option (Nat × Nat) → Journal
  | some (sec, n) => { j with archive := j.archive.drop n, erases := Table.upd 0 j.erases sec (· + 1) }
  | none => j

/-- The journal with a page copied. -/
def Journal.archived (j : Journal) (p : JPage) : Journal := { j with archive := j.archive ++ [p], nextArchive := p.no + 1, nvWritten := j.nvWritten + 4096 }

theorem archivePage_copies (e : Option (Nat × Nat)) (h : s.jrnl.nextPage = some p) (hopen : s.power.inhibit = false) (hrate : s.jrnl.deferring = false) :
    (archivePage e s).jrnl = (s.jrnl.evicted e).archived p := by
  unfold Journal.nextPage at h
  unfold archivePage
  dsimp only
  rw [h]
  dsimp only
  rw [if_neg (by rw [hopen]; nofun), if_neg (by rw [hrate]; nofun)]
  cases e <;> rfl

theorem archivePage_defers (e : Option (Nat × Nat)) (h : s.jrnl.nextPage = some p) (hopen : s.power.inhibit = false) (hrate : s.jrnl.deferring = true)
    (hnew : s.jrnl.deferredTo ≤ p.no) :
    (archivePage e s).jrnl = { s.jrnl with nvDeferred := wrap 32 (s.jrnl.nvDeferred + p.recs.length), deferredTo := p.no + 1 } := by
  unfold Journal.nextPage at h
  unfold archivePage
  dsimp only
  rw [h]
  dsimp only
  rw [if_neg (by rw [hopen]; nofun), if_pos hrate, if_neg (Nat.not_lt.mpr hnew)]

/-! ### The telemetry stream (R434, R592) -/

theorem length_toBE (n x : Nat) : (toBE n x).length = n := (List.length_reverse).trans (length_toLE n x)

/-- A record as it lies in a datagram. -/
def StreamRec.octets (r : StreamRec) : List Byte := toBE 1 r.rtype ++ [0] ++ toBE 2 r.data.length ++ r.data

theorem StreamRec.length_octets (r : StreamRec) : r.octets.length = r.data.length + 4 := by
  simp only [StreamRec.octets, List.length_append, length_toBE, List.length_singleton]
  omega

/-- The records packed fit. -/
theorem length_packed (room : Nat) (rs : List StreamRec) : ((rs.take (packStream room rs)).flatMap StreamRec.octets).length ≤ room := by
  induction rs generalizing room with
  | nil => exact Nat.zero_le _
  | cons r rs ih =>
    rw [packStream]
    split
    next hfits =>
      have hrest := ih (room - (r.data.length + 4))
      rw [Nat.add_comm 1, List.take_succ_cons, List.flatMap_cons, List.length_append, r.length_octets]
      omega
    next => exact Nat.zero_le _

theorem packStream_pos {room : Nat} {r : StreamRec} (h : r.data.length + 4 ≤ room) : 0 < packStream room (r :: rs) := by
  rw [packStream, if_pos h]
  omega

/-- A datagram is 58 octets longer than its records. -/
theorem length_datagram (t : Stream) (node free : Nat) (rs : List StreamRec) (hdst : t.dstMac.length = 6) (hsrcIp : t.srcIp.length = 4)
    (hdstIp : t.dstIp.length = 4) : (datagram t node free rs).length = 58 + (rs.flatMap StreamRec.octets).length := by
  have hrecs : rs.flatMap (fun r => toBE 1 r.rtype ++ [0] ++ toBE 2 r.data.length ++ r.data) = rs.flatMap StreamRec.octets := rfl
  unfold datagram
  rw [hrecs]
  generalize rs.flatMap StreamRec.octets = recs
  simp only [List.length_append, length_toBE, hdst, hsrcIp, hdstIp, List.length_cons, List.length_nil]
  omega

/-- The switch once a frame of the Sheaf has drawn its cells and credits. -/
def SwitchState.drawSheaf (w : SwitchState) (cls resv n : Nat) : SwitchState :=
  { w.draw cls resv (n - resv) with sheafCredits := (w.draw cls resv (n - resv)).sheafCredits - n }

/-- The frame that the Sheaf stores. -/
def sheafFrame (octs : List Byte) (cls mask resv n : Nat) : SwFrame :=
  { data := octs, len := octs.length + 4, cls := cls, ports := mask, ingress := 28, resv := resv, shared := n - resv, credits := n }

/-- With credits and cells for it a frame of the Sheaf is queued. -/
theorem storeInternal_sheaf {octs : List Byte} {cls mask n : Nat} (hn : cellsOf (max 64 (octs.length + 4)) = n) (hcredits : n ≤ s.switch.sheafCredits)
    (hcells : s.headSum + n < s.switch.sharedFree) : storeInternal 28 octs cls mask s =
      some (enqueue (sheafFrame octs cls mask (s.switch.fromResv cls n) n) (mirrorFrame 28 0 cls octs (max 64 (octs.length + 4))
        { s with switch := s.switch.drawSheaf cls (s.switch.fromResv cls n) n })) := by
  have hresv := fromResv_le s.switch cls n
  have hhas : s.poolHas (n - s.switch.fromResv cls n) = true := by
    simp [State.poolHas]
    omega
  have hroom : ¬ (s.switch.sheafCredits < n ∨ (!s.poolHas (n - s.switch.fromResv cls n)) = true) := by
    rw [hhas]
    simpa using hcredits
  subst hn
  exact if_neg hroom

/-- Such a frame for one open port is stored for it. -/
theorem storeInternal_stored {octs : List Byte} {cls port n : Nat} (hn : cellsOf (max 64 (octs.length + 4)) = n) (hcredits : n ≤ s.switch.sheafCredits)
    (hcells : s.headSum + n < s.switch.sharedFree) (hopen : (s.mac port).holdState ≠ 2) : ∃ t, storeInternal 28 octs cls (2 ^ port) s = some t ∧
      ∃ f ∈ t.switch.frames, f.ingress = 28 ∧ f.cls = cls ∧ f.ports = 2 ^ port ∧ f.data = octs := by
  refine ⟨_, storeInternal_sheaf hn hcredits hcells, ?_⟩
  generalize s.switch.fromResv cls n = resv
  have hmacs : (mirrorFrame 28 0 cls octs (max 64 (octs.length + 4)) { s with switch := s.switch.drawSheaf cls resv n }).macs = s.macs :=
    mirrorFrame_keeps _ _ _ _ _ _ .macs rfl
  generalize mirrorFrame 28 0 cls octs (max 64 (octs.length + 4)) { s with switch := s.switch.drawSheaf cls resv n } = u at hmacs ⊢
  rw [enqueue_stored (sheafFrame octs cls (2 ^ port) resv n) u (Nat.two_pow_pos port).ne' fun q _ hbit => by
    have hq : port = q := by simpa [sheafFrame, bitAt_eq, Nat.testBit_two_pow] using hbit
    rw [← hq, State.mac_of_macs hmacs]
    exact hopen]
  exact ⟨_, List.mem_append_right _ List.mem_cons_self, rfl, rfl, rfl, rfl⟩

/-- How many records the next datagram takes. -/
def State.packed (s : State) : Nat := packStream 1456 s.wnw.stream.queue

/-- The next datagram. -/
def State.datagram (s : State) : List Byte :=
  Machine.datagram s.wnw.stream (s.freeBelow (2 ^ 96)).2.cell.node (s.freeBelow (2 ^ 96)).1 (s.wnw.stream.queue.take s.packed)

/-- The stream once its first records are sent. -/
def Stream.sent (t : Stream) (n : Nat) : Stream := { t with queue := t.queue.drop n, seq := wrap 16 (t.seq + 1) }

theorem sendTelemetry_idle (h : s.wnw.stream.en = false ∨ s.wnw.stream.queue = []) : sendTelemetry s = s := by
  refine if_pos ?_
  rcases h with h | h
  · exact .inl (by rw [h]; rfl)
  · exact .inr (by rw [h]; rfl)

theorem sendTelemetry_sends (hen : s.wnw.stream.en = true) (hn : s.packed ≠ 0)
    (hstore : storeInternal 28 s.datagram 0 (2 ^ s.wnw.stream.port) (s.freeBelow (2 ^ 96)).2 = some t) :
    sendTelemetry s = ({ t with wnw := { t.wnw with stream := s.wnw.stream.sent s.packed } } : State).send (.telemetry s.datagram) := by
  unfold State.datagram State.packed at *
  have hgo : ¬ ((!s.wnw.stream.en) = true ∨ packStream 1456 s.wnw.stream.queue = 0) := by
    rw [hen]
    simpa using hn
  unfold sendTelemetry
  refine (if_neg hgo).trans ?_
  dsimp only
  rw [hstore]
  rfl

/-- Settles O51: each row by the branch that it takes; a datagram's length bounds its cells. -/
theorem nonVolatileWritesAndTelemetry : Obligations.NonVolatileWritesAndTelemetry := by
  unfold Obligations.NonVolatileWritesAndTelemetry
  refine ⟨?noCommit, ?commit, ?move, ?noMove, ?rate, ?noPage, ?copy, ?evict, ?defer, ?erase, ?program, ?failed, fun d op sec s hd => onUnit_fault hd,
    ?idle, ?datagram⟩
  case noCommit =>
    intro s h
    refine ⟨_, rfl, ?_⟩
    rcases h with h | h
    · exact if_neg h
    · rw [commitJournal_inhibited h, ite_self]
  case commit =>
    intro s htick hopen
    have hj := State.commitJournal_jrnl hopen
    refine ⟨s.commitJournal, congrArg Host.Outcome.next (if_pos htick), hj, (congrArg Journal.fill hj :), (congrArg Journal.openRecs hj :),
      (State.commitJournal_keeps s).touches _ (by decide)⟩
  case move =>
    intro k s hk hrun hopen hrate hfar
    refine does_of_onUnit (exec_wearLevelMove k s) hk ?_
    rw [if_pos hrun, wearMove_moves hopen hrate hfar]
    exact ⟨Table.get_upd_same 0 s.jrnl.erases k (· + 1), rfl, (wearMove_keeps k s).touches _ (by decide)⟩
  case noMove =>
    intro k s hk h
    refine does_of_onUnit (exec_wearLevelMove k s) hk ?_
    rw [wearMove_kept h, ite_self]
  case rate =>
    intro past s
    refine ⟨rateCheck past s, rfl, rfl, fun h => if_pos h, fun h => ?_, fun h h' => ?_⟩
    · exact (if_neg (by omega)).trans (if_pos h)
    · exact (if_neg (by omega)).trans (if_neg (by omega))
  case noPage => exact fun e s h => ⟨archivePage e s, rfl, archivePage_none e h⟩
  case copy =>
    intro p s h hopen hrate
    refine ⟨archivePage none s, rfl, ?_⟩
    beta_reduce
    rw [archivePage_copies none h hopen hrate]
    exact ⟨rfl, rfl, rfl, rfl, (archivePage_keeps none s).touches _ (by decide)⟩
  case evict =>
    intro p sec n s h hopen hrate
    refine ⟨archivePage (some (sec, n)) s, rfl, ?_⟩
    beta_reduce
    rw [archivePage_copies _ h hopen hrate]
    exact ⟨rfl, Table.get_upd_same 0 s.jrnl.erases sec (· + 1)⟩
  case defer =>
    intro e p s h hopen hrate hnew
    refine ⟨archivePage e s, rfl, ?_⟩
    beta_reduce
    rw [archivePage_defers e h hopen hrate hnew]
    exact ⟨rfl, rfl, rfl⟩
  case erase =>
    intro d sec s hd
    have hend : (norEnd d 2 sec true s).jrnl = s.jrnl.erased sec := (congrArg State.jrnl (norEnd_ok d 2 sec s)).trans (congrArg State.jrnl (if_pos ⟨rfl, rfl⟩))
    have hkeeps : Touches [.jrnl] s (norEnd d 2 sec true s) := by
      rw [norEnd_ok]
      exact (eraseEnded_keeps 2 sec true s).touches _ (by decide)
    obtain ⟨herasing, herases⟩ := s.jrnl.erased_spec sec
    refine does_of_onUnit rfl hd ?_
    rw [hend]
    exact ⟨herasing, herases, hkeeps⟩
  case program =>
    intro d op sec s hd hop
    refine does_of_onUnit rfl hd ((norEnd_ok d op sec s).trans (if_neg fun h => ?_))
    obtain ⟨h2, -⟩ := h
    omega
  case failed =>
    intro d op sec s hd
    refine does_of_onUnit rfl hd ⟨?_, (norEnd_keeps d op sec false s).touches _ (by decide)⟩
    rw [norEnd_failed, State.memoryRecord, State.record_norOk]
    exact bitAt_clrBit _ _
  case idle => exact fun s h => ⟨sendTelemetry s, rfl, sendTelemetry_idle h⟩
  case datagram =>
    intro s hen hqueue hrecs hcredits hcells hopen hport hdst hsrcIp hdstIp
    have hlen : s.datagram.length ≤ 1514 := by
      have hrecs := length_packed 1456 s.wnw.stream.queue
      rw [State.datagram, length_datagram _ _ _ _ hdst hsrcIp hdstIp]
      exact Nat.add_le_add_left hrecs 58
    have hcount : cellsOf (max 64 (s.datagram.length + 4)) ≤ 7 := by
      rw [cellsOf, ceilDiv, if_neg (by decide)]
      omega
    have hpacked : 0 < s.packed := by
      obtain ⟨r, rs, hrs⟩ := List.exists_cons_of_ne_nil hqueue
      have hr := hrecs r (hrs ▸ List.mem_cons_self)
      rw [State.packed, hrs]
      exact packStream_pos (by omega)
    obtain ⟨t, hstore, f, hf, hingress, hcls, hports, hdata⟩ := storeInternal_stored (s := (s.freeBelow (2 ^ 96)).2) (port := s.wnw.stream.port)
      (cls := 0) (octs := s.datagram) rfl (hcount.trans hcredits) (Nat.lt_of_le_of_lt (Nat.add_le_add_left hcount _) hcells) hopen
    refine ⟨sendTelemetry s, rfl, ?_⟩
    rw [sendTelemetry_sends hen hpacked.ne' hstore]
    refine ⟨rfl, ?_, f, hf, hingress, hcls, hports, ?_⟩
    · have hpos : 0 < s.wnw.stream.queue.length := List.length_pos_of_ne_nil hqueue
      show (s.wnw.stream.queue.drop s.packed).length < _
      rw [List.length_drop]
      omega
    · rw [hdata]
      exact List.mem_append_right _ List.mem_cons_self

end Sys2Proof.Machine
end

section
/-! SUPPORT. FAB commands of the fabric (R516, R525, R526, R529, R542, R554 to R556). -/

namespace Sys2Proof.Machine

variable {s t : State} {d : Nat}

/-! ### Keys (R525) -/

/-- The fabric key set and kept. -/
def keySet (a : List Byte) (s : State) : State := ({ s with fab := { s.fab with key := some a } } : State).retain 5 0 a

theorem keySet_fab (a : List Byte) (s : State) : (keySet a s).fab = { s.fab with key := some a } := State.retain_keeps _ 5 0 a .fab rfl

theorem keySet_kcv (a : List Byte) (s : State) : (keySet a s).kcv = (hmac a [0x4F, 0x53, 0x4B, 0x43, 0x56]).take 4 := by
  rw [State.kcv, keySet_fab]

theorem keySet_touches (a : List Byte) (s : State) : Touches [.fab, .jrnl, .retained] s (keySet a s) :=
  Keeps.touches ((Keeps.fab_ (m := 549764202560) (.refl _ s) rfl).trans ((State.retain_keeps _ 5 0 a).mono rfl)) _ (by decide)

/-! ### Joins (R526) -/

theorem State.fabPort_updFabPort (s : State) (p : Nat) (f : FabPort → FabPort) : (s.updFabPort p f).fabPort p = f (s.fabPort p) :=
  Table.get_set_same _ _ _ _

/-- The media of the four ports as the arguments of FAB.JOIN give them. -/
def mediaSet (a : List Byte) (s : State) : State := [0, 1, 2, 3].foldl (fun s p => s.updFabPort p (fun k => { k with media := uAt a (8 + p) 1 })) s

theorem mediaSet_media (a : List Byte) (s : State) {p : Nat} (hp : p < 4) : ((mediaSet a s).fabPort p).media = uAt a (8 + p) 1 := by
  have hother {u : State} {q : Nat} {v : FabPort} (h : p ≠ q) : (u.setFabPort q v).fabPort p = u.fabPort p := State.fabPort_setFabPort_other _ _ h
  simp only [mediaSet, List.foldl_cons, List.foldl_nil, State.updFabPort_eq]
  obtain rfl | rfl | rfl | rfl : p = 0 ∨ p = 1 ∨ p = 2 ∨ p = 3 := by omega
  · rw [hother (by decide), hother (by decide), hother (by decide), State.fabPort_setFabPort]
  · rw [hother (by decide), hother (by decide), State.fabPort_setFabPort]
  · rw [hother (by decide), State.fabPort_setFabPort]
  · rw [State.fabPort_setFabPort]

/-- The fabric record as this device starts to listen. -/
def FabricState.joining (f : FabricState) (a : List Byte) (j : FabJoin) : FabricState := { f with mine := uAt a 3 1, join := j, tbSet := false, joinArgs := a }

theorem startJoin_fab (a : List Byte) (s : State) : ∃ j, j.stage = 1 ∧ j.since = s.gtc ∧ j.map = (List.range (uAt a 12 2)).map (mapEntryAt a) ∧
    (startJoin a s).fab = (mediaSet a s).fab.joining a j :=
  ⟨{ stage := 1, since := s.gtc, args := (uAt a 1 1, uAt a 2 1 == 1, uAt a 3 1), map := (List.range (uAt a 12 2)).map (mapEntryAt a)
     coldOk := bitAt (uAt a 4 1) 0 }, rfl, rfl, rfl, keepFabric_keeps _ .fab rfl⟩

/-! ### Leaving (R529) -/

theorem claimMsg_nodes (s : State) (m : ClaimMsg) : (s.claimMsg m).fab.nodes = s.fab.nodes := by
  unfold State.claimMsg
  split
  · rfl
  · dsimp only
    split <;> rfl

theorem foldl_nodes {α : Type} {f : State → α → State} (h : ∀ t x, (f t x).fab.nodes = t.fab.nodes) (l : List α) (s : State) :
    (l.foldl f s).fab.nodes = s.fab.nodes :=
  List.foldlRecOn (motive := fun t : State => t.fab.nodes = s.fab.nodes) _ _ rfl fun t ht x _ => (h t x).trans ht

/-- The claims given back tell the others, and change no member. -/
theorem releaseAll_nodes (s : State) : (releaseAll s).fab.nodes = s.fab.nodes := by
  refine foldl_nodes (fun t c => ?_) _ _
  split
  · rfl
  · split
    · exact foldl_nodes (fun u z => claimMsg_nodes u _) _ _
    · exact claimMsg_nodes t _

/-- This device as it tells the others that it leaves. -/
def leaving (s : State) : State :=
  ((releaseAll s).tell none .leave).updFabNode s.cell.node (fun m => { m with leaveAt := some (s.cell.tick + 2) })

theorem leaving_keeps (s : State) : Keeps 10485760 s (leaving s) :=
  ((releaseAll_keeps s).trans ((State.tell_keeps _ none .leave).mono rfl)).trans ((State.updFabNode_keeps _ _ _).mono rfl)

theorem leaving_node (s : State) : ((leaving s).fabNode s.cell.node).leaveAt = some (s.cell.tick + 2) := by
  rw [leaving, State.updFabNode_eq, State.fabNode_setFabNode]

theorem leaving_other (h : d ≠ s.cell.node) : (leaving s).fabNode d = s.fabNode d := by
  refine (State.fabNode_setFabNode_other _ _ h).trans ?_
  show Table.get {} (releaseAll s).fab.nodes d = _
  rw [releaseAll_nodes]
  rfl

/-! ### Sleep and wake (R554 to R556) -/

/-- A sleep announced. -/
def announceSleep (nodes : List Nat) (s : State) : State :=
  ({ s with fab := { s.fab with sleep := { s.fab.sleep with state := 1, nodes := nodes, pnr := s.cell.tick + 8, heardFrom := [] } } } : State).tell none
    (.cellCfg (s.cell.tick + 1) (.sleep nodes))

theorem runFabSleep_eq (h : Hdr) (a : List Byte) (s : State) : ∃ n, runFabSleep h a s = tested { s with freeCount := n } (needsFabSleep h a s)
    (okReply (announceSleep (s.members.filter (bitAt (uAt a 0 32))) { s with freeCount := n })) := by
  unfold runFabSleep needsFabSleep
  dsimp only
  by_cases hothers : (s.members.filter (bitAt (uAt a 0 32))).filter (· != s.cell.node) = []
  · rw [if_pos hothers]
    exact ⟨s.freeCount, rfl⟩
  · rw [if_neg hothers]
    exact ⟨s.freeCount + 1, rfl⟩

/-- Settles O21: each command is its tests and then its effect. -/
theorem fabricCommandsJoinLeaveScheduleAndSleep : Obligations.FabricCommandsJoinLeaveScheduleAndSleep := by
  unfold Obligations.FabricCommandsJoinLeaveScheduleAndSleep
  refine ⟨hostRow_of_tested (fun _ _ _ => rfl) fun h a s => ⟨dataReply (keySet a s) (keySet a s).kcv, rfl, fun _ => ?key⟩,
    hostRow_of_tested (fun _ _ _ => rfl) fun h a s => ⟨_, rfl, fun _ => ?join⟩,
    hostRow_of_tested (fun _ _ _ => rfl) fun h a s => ⟨(leaving s, { later := true }), rfl, fun _ => ?leave⟩,
    hostRow_of_tested (fun _ _ _ => rfl) fun h a s => ⟨_, rfl, fun hp => ?schedule⟩,
    reads_of (fun _ _ _ => rfl) fun _ _ _ => rfl, hostRow_of (fun _ _ _ => rfl) fun h a s => ?sleep,
    hostRow_of_tested (fun _ _ _ => rfl) fun h a s => ⟨_, rfl, fun _ => ?wake⟩⟩
  case key =>
    exact ⟨congrArg (fun bs => ({ data := bs } : Reply)) (keySet_kcv a s), keySet_fab a s, keySet_touches a s⟩
  case join =>
    refine ⟨fun hupdate => ?_, fun hjoin => ?_⟩
    · rw [if_pos (by rw [hupdate]; rfl)]
      exact ⟨rfl, rfl⟩
    · rw [if_neg (by simpa using hjoin)]
      obtain ⟨j, hstage, hsince, hmap, hfab⟩ := startJoin_fab a s
      refine ⟨rfl, ?_, ?_, ?_, ?_, ?_, fun p hp => ?_, (startJoin_keeps a s).touches _ (by decide)⟩
      all_goals dsimp only
      · rw [hfab]
        exact hstage
      · rw [hfab]
        exact hsince
      · rw [hfab]
        exact hmap
      · rw [hfab]
        rfl
      · rw [hfab]
        rfl
      · rw [← mediaSet_media a s hp, State.fabPort, hfab, State.fabPort]
        rfl
  case leave => exact ⟨rfl, leaving_node s, fun d hd => leaving_other hd, (leaving_keeps s).touches _ (by decide)⟩
  case schedule =>
    have hfits := hp.of_mem (b := (s.schedBad (schedAt a (wrap 32 (s.fab.sched.gen + 1))).slots).isSome) (c := St.budgetExceeded)
      (d := (s.schedBad (schedAt a (wrap 32 (s.fab.sched.gen + 1))).slots).getD 0) (by simp [needsFabSchedule])
    exact ⟨rfl, Option.isNone_iff_eq_none.mp (Option.isSome_eq_false_iff.mp hfits), rfl, rfl⟩
  case sleep =>
    obtain ⟨n, hrun⟩ := runFabSleep_eq h a s
    refine ⟨n, _, hrun, fun hp => ⟨rfl, rfl, rfl, ?_⟩⟩
    have hframe := (runFabSleep_keeps h a s).touches [.fab, .freeCount] (by decide)
    rwa [hrun, tested_pass hp] at hframe
  case wake =>
    refine ⟨rfl, (sendWake_keeps 0 s).touches _ (by decide), fun hmaster => if_pos hmaster, fun hother => ?_⟩
    unfold okReply
    dsimp only
    rw [sendWake, if_neg hother]
    exact ⟨by simp [newFrame], rfl⟩

end Sys2Proof.Machine
end

section
/-! SUPPORT. Sleep and wake of a fabric (R554 to R560). -/

namespace Sys2Proof.Machine

variable {s t : State} {d src node : Nat}

/-! ### Going to sleep (R557, R641) -/

theorem goSleep_cell (s : State) : (goSleep s).cell = { s.cell with state := 8, wakeTo := s.cell.state } := by
  simp only [goSleep]
  rw [State.driveOutputs_keeps _ .cell rfl, State.commitJournal_keeps _ .cell rfl, State.enterCell_cell]

theorem goSleep_fab (s : State) : (goSleep s).fab = s.fab := goSleep_keeps s .fab rfl

/-- Of the fabric a role change changes the own member's role alone. -/
theorem takeRole_fab (role : Nat) (s : State) : (takeRole role s).fab = (s.updFabNode s.cell.node (fun m => { m with role := role })).fab := by
  unfold takeRole
  extract_lets old _ _ u v
  have hfab : v.fab = s.fab := State.record_keeps u _ _ _ .fab rfl
  have hcell : v.cell = u.cell := State.record_keeps u _ _ _ .cell rfl
  have hend : (keepRole (v.updFabNode v.cell.node (fun m => { m with role := role })).commitJournal).fab =
      (v.updFabNode v.cell.node (fun m => { m with role := role })).fab :=
    Eq.trans (keepRole_keeps _ .fab rfl) (State.commitJournal_keeps _ .fab rfl)
  rw [hend, State.updFabNode_eq, State.setFabNode, State.fabNode, hfab, hcell]
  rfl

theorem takeRole_fabSleep (role : Nat) (s : State) : (takeRole role s).fab.sleep = s.fab.sleep := by
  rw [takeRole_fab]
  rfl

/-- A named device is asleep from this edge. -/
def sleepNode (s : State) (d : Nat) : State := s.updFabNode d (fun m => { m with asleep := some s.cell.tick, restoreAt := none, missed := 0 })

theorem sleepNode_same (s : State) (d : Nat) : ((sleepNode s d).fabNode d).asleep = some s.cell.tick := by
  rw [sleepNode, State.updFabNode_eq, State.fabNode_setFabNode]

theorem sleepNode_other {c : Nat} (h : c ≠ d) : (sleepNode s d).fabNode c = s.fabNode c := State.fabNode_setFabNode_other _ _ h

/-- The named devices but this one are asleep. -/
def othersSleep (s : State) : State := (s.fab.sleep.nodes.filter (· != s.cell.node)).foldl sleepNode s

theorem foldl_sleepNode (l : List Nat) (s : State) :
    (l.foldl sleepNode s).cell = s.cell ∧ (l.foldl sleepNode s).fab.sleep = s.fab.sleep ∧
    (∀ d, d ∉ l → (l.foldl sleepNode s).fabNode d = s.fabNode d) ∧ ∀ d ∈ l, ((l.foldl sleepNode s).fabNode d).asleep = some s.cell.tick := by
  induction l generalizing s with
  | nil => exact ⟨rfl, rfl, fun _ _ => rfl, nofun⟩
  | cons c l ih =>
    obtain ⟨hcell, hsleep, hother, hin⟩ := ih (sleepNode s c)
    rw [List.foldl_cons]
    refine ⟨hcell, hsleep, fun d hd => ?_, fun d hd => ?_⟩
    · rw [List.mem_cons, not_or] at hd
      rw [hother d hd.2, sleepNode_other hd.1]
    · by_cases hl : d ∈ l
      · exact hin d hl
      · obtain rfl | hl' := List.mem_cons.mp hd
        · rw [hother d hl, sleepNode_same]
        · exact absurd hl' hl

/-- The sleep ends its agreement. -/
def agreementDone (s : State) : State := { s with fab := { s.fab with sleep := { s.fab.sleep with state := 0 } } }

theorem agreementDone_othersSleep (s : State) : (agreementDone (othersSleep s)).cell = s.cell ∧
    (agreementDone (othersSleep s)).fab.sleep = { s.fab.sleep with state := 0 } := by
  obtain ⟨hcell, hsleep, -⟩ := foldl_sleepNode (s.fab.sleep.nodes.filter (· != s.cell.node)) s
  rw [agreementDone, othersSleep]
  dsimp only
  rw [hsleep]
  exact ⟨hcell, rfl⟩

theorem agreementDone_othersSleep_keeps (s : State) : Keeps 8388608 s (agreementDone (othersSleep s)) :=
  Keeps.fab_ (Keeps.foldl (fun t d => State.updFabNode_keeps t d _) (.refl _ s)) rfl

/-- Where this device is not named, the named ones are asleep and no other changes. -/
theorem othersSleep_spec (hself : s.cell.node ∉ s.fab.sleep.nodes) : (agreementDone (othersSleep s)).cell = s.cell ∧
    (agreementDone (othersSleep s)).fab.sleep = { s.fab.sleep with state := 0 } ∧
    (∀ d, d ∉ s.fab.sleep.nodes → (agreementDone (othersSleep s)).fabNode d = s.fabNode d) ∧
    ∀ d ∈ s.fab.sleep.nodes, ((agreementDone (othersSleep s)).fabNode d).asleep = some s.cell.tick := by
  have hfilter : s.fab.sleep.nodes.filter (· != s.cell.node) = s.fab.sleep.nodes := by
    rw [List.filter_eq_self]
    intro d hd
    simpa using fun e : d = s.cell.node => hself (e ▸ hd)
  obtain ⟨hcell, hsleep⟩ := agreementDone_othersSleep s
  obtain ⟨-, -, hother, hin⟩ := foldl_sleepNode (s.fab.sleep.nodes.filter (· != s.cell.node)) s
  rw [hfilter] at hother hin
  refine ⟨hcell, hsleep, fun d hd => ?_, fun d hd => ?_⟩
  · rw [agreementDone, othersSleep, hfilter]
    exact hother d hd
  · rw [agreementDone, othersSleep, hfilter]
    exact hin d hd

/-- This device goes to sleep with the fabric. -/
def selfSleeps (s : State) : State :=
  goSleep (takeRole 4 (s.updFabNode s.cell.node (fun m => { m with asleep := some s.cell.tick, restoreAt := none })))

/-- The entry into sleep as the ports begin it. -/
def entering (old : Nat) (s : State) : State :=
  { s with fab := { s.fab with sleep := { s.fab.sleep with entering := some s.cell.edge, portsTold := false, oldRole := old } } }

theorem exec_sleepEntry (s : State) (h0 : s.fab.sleep.state ≠ 0) (h3 : s.fab.sleep.state ≠ 3) : exec .sleepEntry s =
    .next (if s.fab.sleep.nodes.contains (agreementDone (othersSleep s)).cell.node then
      entering (agreementDone (othersSleep s)).cell.role (selfSleeps (agreementDone (othersSleep s))) else agreementDone (othersSleep s)) :=
  congrArg Host.Outcome.next (if_neg (not_or.mpr ⟨h0, h3⟩))

theorem selfSleeps_cell (s : State) : (selfSleeps s).cell = { s.cell with state := 8, wakeTo := s.cell.state, role := 4 } := by
  rw [selfSleeps, goSleep_cell, takeRole_cell]
  rfl

theorem selfSleeps_fabSleep (s : State) : (selfSleeps s).fab.sleep = s.fab.sleep := by
  rw [selfSleeps, goSleep_fab, takeRole_fabSleep]
  rfl

/-! ### Wake requests (R556) -/

/-- A sleeping device that asks gets its slots back at the second edge after (R559). -/
def restoring (node : Nat) (s : State) : State :=
  if (s.fabNode node).asleep.isSome then s.updFabNode node (fun m => { m with restoreAt := some (s.cell.tick + 2) }) else s

theorem restoring_restoreAt (h : (s.fabNode node).restoreAt = some (s.cell.tick + 2)) : ((restoring node s).fabNode node).restoreAt = some (s.cell.tick + 2) := by
  unfold restoring
  split
  · rw [State.updFabNode_eq, State.fabNode_setFabNode]
  · exact h

theorem restoring_eq (node : Nat) (s : State) : ∃ l, restoring node s = { s with fab := { s.fab with nodes := l } } := by
  unfold restoring
  split <;> exact ⟨_, rfl⟩

/-- The record of sleep as a wake request is judged. -/
def FabSleep.judged (f : FabSleep) (me node src : Nat) (early : Bool) : FabSleep :=
  let f := { f with heardFrom := (f.heardFrom ++ [node]).eraseDups }
  if early then { f with state := 3 }
  else
    let all := f.nodes.all (fun d => d == me || f.heardFrom.contains d)
    if f.nodes = [] then f else if all && f.state != 2 then { f with latch := false } else { f with latch := true, src := src }

/-- Whether a wake request comes before the point of no return. -/
def State.early (s : State) : Bool := decide (s.fab.sleep.state = 1 ∧ s.cell.tick < s.fab.sleep.pnr ∧ s.gtc < s.pnrEdge)

/-- The state with another record of sleep. -/
def State.withSleep (s : State) (f : FabSleep) : State := { s with fab := { s.fab with sleep := f } }

/-- A request judged in a state that knows its record of sleep. -/
def wakeJudged (f : FabSleep) (src : Nat) (s : State) : State :=
  if f.state = 1 ∧ s.cell.tick < f.pnr ∧ s.gtc < s.pnrEdge then s.withSleep { f with state := 3 }
  else s.withSleep (if f.nodes = [] then f
    else if f.nodes.all (fun d => d == s.cell.node || f.heardFrom.contains d) && f.state != 2 then { f with latch := false } else { f with latch := true, src := src })

theorem wakeAt_judged (node src : Nat) (s : State) :
    wakeAt node src s = wakeJudged { s.fab.sleep with heardFrom := (s.fab.sleep.heardFrom ++ [node]).eraseDups } src (restoring node s) := rfl

theorem wakeAt_eq (node src : Nat) (s : State) :
    wakeAt node src s = (restoring node s).withSleep (s.fab.sleep.judged s.cell.node node src s.early) := by
  rw [wakeAt_judged]
  obtain ⟨l, hl⟩ := restoring_eq node s
  rw [hl, wakeJudged, FabSleep.judged]
  by_cases h : s.fab.sleep.state = 1 ∧ s.cell.tick < s.fab.sleep.pnr ∧ s.gtc < s.pnrEdge
  · have he : s.early = true := decide_eq_true h
    rw [he]
    exact if_pos h
  · have he : s.early = false := decide_eq_false h
    rw [he]
    exact if_neg h

/-- A judged request leaves the entry into sleep as it is. -/
theorem FabSleep.judged_entry (f : FabSleep) (me node src : Nat) (early : Bool) : (f.judged me node src early).entering = f.entering ∧
    (f.judged me node src early).portsTold = f.portsTold ∧ (f.judged me node src early).fwakeIn = f.fwakeIn := by
  unfold FabSleep.judged
  dsimp only
  split
  · exact ⟨rfl, rfl, rfl⟩
  · split
    · exact ⟨rfl, rfl, rfl⟩
    · split <;> exact ⟨rfl, rfl, rfl⟩

/-- After the point of no return a request is latched. -/
theorem FabSleep.judged_late (f : FabSleep) (me node src : Nat) (hstate : f.state = 2) (hnodes : f.nodes ≠ []) :
    (f.judged me node src false).latch = true ∧ (f.judged me node src false).state = 2 := by
  have hkeep : ¬ ((f.nodes.all (fun d => d == me || ((f.heardFrom ++ [node]).eraseDups).contains d) && f.state != 2) = true) := by
    rw [hstate]
    simp
  unfold FabSleep.judged
  dsimp only
  rw [if_neg nofun, if_neg hnodes, if_neg hkeep]
  exact ⟨rfl, hstate⟩

/-! ### Waking (R559) -/

/-- A device as its domains power up. -/
def powered (s : State) : State := let t := s.enterCell s.cell.wakeTo; { t with mbx := { t.mbx with waking := [], asleep := [] } }

theorem powered_cell (s : State) : (powered s).cell = { s.cell with state := s.cell.wakeTo } := State.enterCell_cell s _

theorem powered_fab (s : State) : (powered s).fab = s.fab := State.enterCell_keeps s _ .fab rfl

theorem powered_gtc (s : State) : (powered s).gtc = s.gtc := State.gtc_of_time (t := powered s) (State.enterCell_keeps s _ .time rfl)

/-- A member that wakes marks when, and asks for its slots. -/
def slotsAsked (src : Nat) (s : State) : State :=
  let lead := s.fab.master == s.cell.node
  let t : State := { s with fab := { s.fab with
    sleep := { s.fab.sleep with src := src, wokeAt := some s.gtc, latch := s.fab.sleep.latch && lead }
    join := if lead then { s.fab.join with stage := 7, since := s.gtc } else s.fab.join } }
  t.updFabNode s.cell.node (fun m => { m with restoreAt := some (s.cell.tick + 2) })

/-- The wake request of a member that does not lead. -/
def wakeAsked (src : Nat) (s : State) : State :=
  let x := newFrame (some s.fab.master) (.wakeReq s.cell.node src) s
  ([0, 1].filter (bitAt s.fab.mine)).foldl (fun t r => insertOn r x.1 t) x.2

theorem wakeUp_eq (src : Nat) (s : State) : wakeUp src s =
    if !(powered s).inFabric then powered s
    else if (powered s).fab.master == (powered s).cell.node then wakeAt (powered s).cell.node src (slotsAsked src (powered s))
    else wakeAsked src (slotsAsked src (powered s)) := by
  unfold wakeUp powered slotsAsked wakeAsked
  rfl

/-! ### What a device that wakes is left with -/

theorem wakeAsked_keeps (src : Nat) (s : State) : Keeps 142606336 s (wakeAsked src s) :=
  Keeps.foldl (fun t r => (insertOn_keeps r _ t).mono rfl) ((newFrame_keeps _ _ s).mono rfl)

theorem wakeAsked_fab (src : Nat) (s : State) : ∃ n, (wakeAsked src s).fab = { s.fab with seq := n } := by
  have h : (wakeAsked src s).fab = (newFrame (some s.fab.master) (.wakeReq s.cell.node src) s).2.fab :=
    Keeps.foldl (m := 134217728) (fun t r => insertOn_keeps r _ t) (.refl _ _) .fab rfl
  exact ⟨_, h⟩

theorem State.withSleep_keeps (s : State) (f : FabSleep) : Keeps 8388608 s (s.withSleep f) := Keeps.fab_ (.refl _ s) rfl

theorem slotsAsked_keeps (src : Nat) (s : State) : Keeps 8388608 s (slotsAsked src s) :=
  (Keeps.fab_ (.refl _ s) rfl).trans (State.updFabNode_keeps _ _ _)

/-- A device awake from a sleep: its cell is back where it was, no domain sleeps, and it has asked for its slots. -/
theorem wakeUp_cell (src : Nat) (s : State) : (wakeUp src s).cell = { s.cell with state := s.cell.wakeTo } ∧ (wakeUp src s).mbx.asleep = [] := by
  have hcell := powered_cell s
  have hmbx : (powered s).mbx.asleep = [] := rfl
  rw [wakeUp_eq]
  generalize powered s = u at hcell hmbx ⊢
  have hasked := slotsAsked_keeps src u
  generalize slotsAsked src u = v at hasked ⊢
  have hcellV : v.cell = u.cell := hasked .cell rfl
  have hmbxV : v.mbx = u.mbx := hasked .mbx rfl
  have hend {w : State} (hw : Keeps 142606336 v w) : w.cell = { s.cell with state := s.cell.wakeTo } ∧ w.mbx.asleep = [] := by
    have hcellW : w.cell = v.cell := hw .cell rfl
    have hmbxW : w.mbx = v.mbx := hw .mbx rfl
    rw [hcellW, hmbxW, hcellV, hmbxV]
    exact ⟨hcell, hmbx⟩
  split
  · exact ⟨hcell, hmbx⟩
  · split
    · exact hend ((wakeAt_keeps _ _ v).mono rfl)
    · exact hend (wakeAsked_keeps src v)

theorem slotsAsked_entry (src : Nat) (s : State) : (slotsAsked src s).fab.sleep =
    { s.fab.sleep with src := src, wokeAt := some s.gtc, latch := s.fab.sleep.latch && (s.fab.master == s.cell.node) } := rfl

theorem wakeAt_fabSleep (node src : Nat) (s : State) : (wakeAt node src s).fab.sleep = s.fab.sleep.judged s.cell.node node src s.early := by
  rw [wakeAt_eq]
  rfl

/-- A wake leaves the entry into sleep as it is. -/
theorem wakeUp_entry (src : Nat) (s : State) : (wakeUp src s).fab.sleep.entering = s.fab.sleep.entering ∧
    (wakeUp src s).fab.sleep.portsTold = s.fab.sleep.portsTold := by
  have hfab := powered_fab s
  rw [wakeUp_eq]
  generalize powered s = u at hfab ⊢
  have hsleep := slotsAsked_entry src u
  generalize slotsAsked src u = v at hsleep ⊢
  have hV : v.fab.sleep.entering = s.fab.sleep.entering ∧ v.fab.sleep.portsTold = s.fab.sleep.portsTold := by
    rw [hsleep, hfab]
    exact ⟨rfl, rfl⟩
  split
  · rw [hfab]
    exact ⟨rfl, rfl⟩
  · split
    · obtain ⟨hentering, htold, -⟩ := v.fab.sleep.judged_entry v.cell.node u.cell.node src v.early
      rw [wakeAt_fabSleep, hentering, htold]
      exact hV
    · obtain ⟨n, hn⟩ := wakeAsked_fab src v
      rw [hn]
      exact hV

theorem slotsAsked_node (src : Nat) (s : State) : ((slotsAsked src s).fabNode s.cell.node).restoreAt = some (s.cell.tick + 2) := by
  unfold slotsAsked
  dsimp only
  rw [State.updFabNode_eq, State.fabNode_setFabNode]

theorem wakeAt_restoreAt (src : Nat) (h : (s.fabNode node).restoreAt = some (s.cell.tick + 2)) :
    ((wakeAt node src s).fabNode node).restoreAt = some (s.cell.tick + 2) := by
  rw [wakeAt_eq]
  exact restoring_restoreAt h

/-- A member that wakes gets its slots back at the second edge, and one that does not lead waits for a frame of another. -/
theorem wakeUp_member (src : Nat) (h : s.inFabric = true) : ((wakeUp src s).fabNode s.cell.node).restoreAt = some (s.cell.tick + 2) ∧
    (s.fab.master ≠ s.cell.node → (wakeUp src s).fab.sleep.src = src ∧ (wakeUp src s).fab.sleep.wokeAt = some s.gtc ∧
      (wakeUp src s).fab.sleep.latch = false) := by
  have hcell := powered_cell s
  have hfab := powered_fab s
  have hgtc := powered_gtc s
  rw [wakeUp_eq]
  generalize powered s = u at hcell hfab hgtc ⊢
  have hnode : u.cell.node = s.cell.node := (congrArg CellState.node hcell :)
  have htick : u.cell.tick = s.cell.tick := (congrArg CellState.tick hcell :)
  have hin : u.inFabric = true := by
    rw [State.inFabric, hcell]
    exact h
  have hasked := slotsAsked_node src u
  have hsleep := slotsAsked_entry src u
  have hkept : (slotsAsked src u).cell = u.cell := slotsAsked_keeps src u .cell rfl
  generalize slotsAsked src u = v at hasked hsleep hkept ⊢
  rw [hin, if_neg (by decide), hfab, hnode]
  rw [hnode, htick] at hasked
  by_cases hlead : s.fab.master = s.cell.node
  · rw [if_pos (by simpa using hlead)]
    refine ⟨?_, fun hne => absurd hlead hne⟩
    rw [← htick, ← hkept] at hasked ⊢
    exact wakeAt_restoreAt src hasked
  · rw [if_neg (by simpa using hlead)]
    obtain ⟨n, hn⟩ := wakeAsked_fab src v
    refine ⟨?_, fun _ => ?_⟩
    · rw [State.fabNode, hn]
      exact hasked
    · rw [hn]
      dsimp only
      rw [hsleep, hgtc, hfab, hnode, beq_false_of_ne hlead]
      exact ⟨rfl, rfl, Bool.and_false _⟩

theorem exec_wakeRequest {n r : Nat} (hin : s.inFabric = true) (hmaster : s.fab.master = s.cell.node) (hn : n < 256) :
    exec (.wakeRequest n r) s = onUnit r 256 (wakeAt n 0 s) :=
  congrArg (onUnit r 256) (if_pos (by simp [hin, hmaster, hn]))

/-- The ports have been signalled, and the entry into sleep is complete. -/
def entryDone (s : State) : State := s.withSleep { s.fab.sleep with entering := none, portsTold := true }

theorem exec_sleepEntryComplete {e : Nat} (he : s.fab.sleep.entering = some e) (hlatch : s.fab.sleep.latch = true) : exec .sleepEntryComplete s =
    .next (if (entryDone s).wholeSleep && (entryDone s).fab.master == (entryDone s).cell.node then (wakeUp s.fab.sleep.src (entryDone s)).send .fwake
      else wakeUp s.fab.sleep.src (entryDone s)) :=
  congrArg Host.Outcome.next ((if_neg (by rw [he]; nofun)).trans (if_neg (by rw [hlatch]; nofun)))

/-- FWAKE_N seen low. -/
def fwakeSeen (s : State) : State := s.withSleep { s.fab.sleep with fwakeIn := true }

/-- The cycle master judges FWAKE_N. -/
def fwakeJudged (s : State) : State :=
  if s.inFabric && s.fab.master == s.cell.node && s.cell.state != 8 then wakeAt s.cell.node 1 s else s

/-- Whether the point of no return of a sleep is past. -/
def State.pastReturn (s : State) : Bool :=
  s.fab.sleep.state == 2 || s.fab.sleep.entering.isSome || (s.fab.sleep.state == 1 && decide (s.fab.sleep.pnr ≤ s.cell.tick))

theorem exec_fwakeNAssert (s : State) : exec .fwakeNAssert s = .next
    (if (fwakeSeen s).pastReturn && (fwakeSeen s).fab.sleep.nodes.contains (fwakeJudged (fwakeSeen s)).cell.node then
      (fwakeJudged (fwakeSeen s)).withSleep { (fwakeJudged (fwakeSeen s)).fab.sleep with latch := true, src := 1 }
    else fwakeJudged (fwakeSeen s)) := rfl

theorem fwakeJudged_keeps (s : State) : Keeps 8388608 s (fwakeJudged s) := Keeps.ite (wakeAt_keeps _ _ _) (.refl _ _)

theorem fwakeJudged_fwakeIn (s : State) : (fwakeJudged s).fab.sleep.fwakeIn = s.fab.sleep.fwakeIn := by
  unfold fwakeJudged
  split
  · rw [wakeAt_fabSleep]
    exact (FabSleep.judged_entry _ _ _ _ _).2.2
  · rfl

/-- A wake that woke nobody counts, and its device goes back to sleep. -/
def backToSleep (s : State) : State :=
  let t := s.updFabNode s.cell.node (fun m => { m with restoreAt := none })
  goSleep (if t.cell.role = 4 then t else takeRole 4 t)

/-- The count of false wakes. -/
def falseWoke (s : State) : State :=
  { s with fab := { s.fab with falseWakes := wrap 32 (s.fab.falseWakes + 1), sleep := { s.fab.sleep with wokeAt := none } } }

theorem backToSleep_spec (s : State) : (backToSleep s).cell = { s.cell with state := 8, role := 4, wakeTo := s.cell.state } ∧
    ∃ l, (backToSleep s).fab = { s.fab with nodes := l } := by
  unfold backToSleep
  extract_lets t
  have hcell : t.cell = s.cell := rfl
  obtain ⟨l, hl⟩ : ∃ l, t.fab = { s.fab with nodes := l } := ⟨_, rfl⟩
  rw [goSleep_cell, goSleep_fab]
  split
  next hrole =>
    rw [hcell, ← hrole]
    exact ⟨rfl, l, hl⟩
  next =>
    rw [takeRole_cell, takeRole_fab, State.updFabNode_eq, State.setFabNode, hl]
    exact ⟨rfl, _, rfl⟩

/-- Settles O40: the agreement, the entry, the latch and the wake, each by the lemma that says what is left. -/
theorem fabricSleepsAndWakes : Obligations.FabricSleepsAndWakes := by
  unfold Obligations.FabricSleepsAndWakes
  refine ⟨?noReturn, ?noSleep, ?noEntry, ?others, ?self, ?notEntering, ?complete, ?latched, ?failsafe, ?noFailsafe, ?notMaster, ?early, ?late,
    fun r n s hr => onUnit_fault hr, ?fwake, ?drive, ?awake, ?stillEntering, ?wakes, fun k s hk => onUnit_fault hk, ?noFalse, ?coldStart, ?back⟩
  case noReturn => exact fun s h => ⟨_, congrArg Host.Outcome.next (if_pos h), rfl⟩
  case noSleep => exact fun s h => ⟨s, congrArg Host.Outcome.next (if_neg h), rfl⟩
  case noEntry => exact fun s h => ⟨s, congrArg Host.Outcome.next (if_pos h), rfl⟩
  case others =>
    intro s h0 h3 hself
    obtain ⟨hcell, hsleep, hother, hin⟩ := othersSleep_spec hself
    refine ⟨agreementDone (othersSleep s), ?_, hsleep, hin, hother, (agreementDone_othersSleep_keeps s).touches _ (by decide)⟩
    rw [exec_sleepEntry s h0 h3, hcell, if_neg (by simpa using hself)]
  case self =>
    intro s h0 h3 hself
    obtain ⟨hcell, hsleep⟩ := agreementDone_othersSleep s
    have hentry := exec_sleepEntry s h0 h3
    generalize agreementDone (othersSleep s) = u at hcell hsleep hentry
    rw [hcell, if_pos (by simpa using hself)] at hentry
    have hselfC := selfSleeps_cell u
    have hselfS := selfSleeps_fabSleep u
    rw [hcell] at hselfC
    rw [hsleep] at hselfS
    generalize selfSleeps u = v at hselfC hselfS hentry
    refine ⟨_, hentry, ?_⟩
    unfold entering
    dsimp only
    rw [hselfC, hselfS]
    exact ⟨rfl, rfl, rfl, rfl, rfl, rfl, rfl⟩
  case notEntering =>
    intro s h
    exact ⟨s, congrArg Host.Outcome.next (if_pos (by rw [h]; rfl)), rfl⟩
  case complete =>
    intro e s he hlatch
    exact ⟨_, congrArg Host.Outcome.next ((if_neg (by rw [he]; nofun)).trans (if_pos (by rw [hlatch]; rfl))), rfl⟩
  case latched =>
    intro e s he hlatch
    obtain ⟨hcell, -⟩ := wakeUp_cell s.fab.sleep.src (entryDone s)
    obtain ⟨hentering, htold⟩ := wakeUp_entry s.fab.sleep.src (entryDone s)
    have hwoken : (wakeUp s.fab.sleep.src (entryDone s)).cell.state = s.cell.wakeTo ∧
        (wakeUp s.fab.sleep.src (entryDone s)).fab.sleep.entering = none ∧ (wakeUp s.fab.sleep.src (entryDone s)).fab.sleep.portsTold = true :=
      ⟨(congrArg CellState.state hcell :), hentering, htold⟩
    refine ⟨_, exec_sleepEntryComplete he hlatch, ?_⟩
    generalize wakeUp s.fab.sleep.src (entryDone s) = u at hwoken ⊢
    split
    · exact hwoken
    · exact hwoken
  case failsafe =>
    intro s he htold
    exact ⟨_, congrArg Host.Outcome.next (if_pos (by rw [he, htold]; rfl)), rfl⟩
  case noFailsafe =>
    intro s h
    refine ⟨s, congrArg Host.Outcome.next (if_neg ?_), rfl⟩
    rcases h with h | h <;> simp [h]
  case notMaster =>
    intro n r s hr h
    refine does_of_onUnit rfl hr (if_neg ?_)
    rcases h with h | h | h
    · simp [h]
    · simp [h]
    · simp [Nat.not_lt.mpr h]
  case early =>
    intro n r s hr hn hin hmaster hstate htick hgtc
    have hearly : s.early = true := decide_eq_true ⟨hstate, htick, hgtc⟩
    refine does_of_onUnit ((exec_wakeRequest hin hmaster hn)) hr ⟨?_, (wakeAt_keeps n 0 s).touches _ (by decide)⟩
    rw [wakeAt_fabSleep, hearly]
    rfl
  case late =>
    intro n r s hr hn hin hmaster hstate hnodes
    have hlate : s.early = false := decide_eq_false fun h => by
      obtain ⟨hone, -⟩ := h
      omega
    obtain ⟨hlatch, hkept⟩ := s.fab.sleep.judged_late s.cell.node n 0 hstate hnodes
    refine does_of_onUnit (exec_wakeRequest hin hmaster hn) hr ⟨?_, ?_, (wakeAt_keeps n 0 s).touches _ (by decide)⟩
    · rw [wakeAt_fabSleep, hlate, hlatch]
    · rw [wakeAt_fabSleep, hlate, hkept]
  case fwake =>
    intro s
    have hjudged := (State.withSleep_keeps s { s.fab.sleep with fwakeIn := true }).trans (fwakeJudged_keeps (fwakeSeen s))
    have hin : (fwakeJudged (fwakeSeen s)).fab.sleep.fwakeIn = true := fwakeJudged_fwakeIn _
    have hcell : (fwakeJudged (fwakeSeen s)).cell = s.cell := hjudged .cell rfl
    refine ⟨_, exec_fwakeNAssert s, ?_⟩
    generalize fwakeJudged (fwakeSeen s) = u at hjudged hin hcell ⊢
    rw [hcell]
    split
    next => exact ⟨hin, fun _ _ => ⟨rfl, rfl⟩, (hjudged.trans (State.withSleep_keeps u _)).touches _ (by decide)⟩
    next hnot =>
      refine ⟨hin, fun hstate hmem => absurd ?_ hnot, hjudged.touches _ (by decide)⟩
      simp [State.pastReturn, fwakeSeen, State.withSleep, hstate, hmem]
  case drive => exact fun s => ⟨_, rfl, rfl⟩
  case awake => exact fun k s hk h => does_of_onUnit rfl hk (if_pos h)
  case stillEntering =>
    intro k e s hk h he
    refine does_of_onUnit rfl hk ((if_neg (not_not.mpr h)).trans (if_pos ?_))
    rw [he]
    rfl
  case wakes =>
    intro k s hk h he
    have hrun : exec (.sleepingDeviceWake k) s = onUnit k 4 (wakeUp k s) :=
      congrArg (onUnit k 4) ((if_neg (not_not.mpr h)).trans (if_neg (by rw [he]; nofun)))
    obtain ⟨hcell, hmbx⟩ := wakeUp_cell k s
    exact does_of_onUnit hrun hk ⟨(congrArg CellState.state hcell :), hmbx, fun hin => wakeUp_member k hin⟩
  case noFalse =>
    intro s h
    exact ⟨s, congrArg Host.Outcome.next (if_pos (by rw [h]; rfl)), rfl⟩
  case coldStart =>
    intro w s hw hsrc
    refine ⟨_, congrArg Host.Outcome.next ((if_neg (by rw [hw]; nofun)).trans (if_neg (Nat.not_lt.mpr hsrc))), rfl, rfl, rfl, rfl, ?_⟩
    exact Keeps.touches (m := 8388608) (Keeps.fab_ (Keeps.fab_ (.refl _ s) rfl) rfl) _ (by decide)
  case back =>
    intro w s hw hsrc
    have hrun : exec .falseWake s = .next (backToSleep (falseWoke s)) :=
      congrArg Host.Outcome.next ((if_neg (by rw [hw]; nofun)).trans (if_pos hsrc))
    obtain ⟨hcell, l, hfab⟩ := backToSleep_spec (falseWoke s)
    refine ⟨_, hrun, ?_, ?_, (congrArg CellState.state hcell :), (congrArg CellState.role hcell :), (congrArg CellState.wakeTo hcell :)⟩
    · rw [hfab]
      rfl
    · rw [hfab]
      rfl

end Sys2Proof.Machine
end

section
/-! SUPPORT. The exchange of a join on both sides (R517, R519, R526 to R528). -/

namespace Sys2Proof.Machine

variable {s t : State} {uid node d : Nat} {x : FabServe}

/-! ### Steps on the wire (R527) -/

/-- A step of the exchange as it goes out on its rings. -/
def joinSteps (rings step uid node result : Nat) (octs : List Byte) : List Out :=
  ([0, 1].filter (bitAt rings)).map (fun r => .joinStep r step uid node result octs)

theorem sendJoin_eq (rings step uid node result : Nat) (octs : List Byte) (s : State) :
    sendJoin rings step uid node result octs s = { s with out := s.out ++ joinSteps rings step uid node result octs } := by
  have h (l : List Nat) (t : State) : l.foldl (fun t r => t.send (.joinStep r step uid node result octs)) t =
      { t with out := t.out ++ l.map (fun r => .joinStep r step uid node result octs) } := by
    induction l generalizing t with
    | nil => rw [List.foldl_nil, List.map_nil, List.append_nil]
    | cons r l ih =>
      rw [List.foldl_cons, ih, List.map_cons, List.append_cons]
      rfl
  exact h _ _

/-- A fresh nonce has 16 octets. -/
theorem length_nonce (s : State) : (nonce s).1.length = 16 := length_toLE 16 _

/-! ### The cycle master (R517, R527) -/

theorem takeJ1_other {req strap kept : Option Nat} {rings : Nat} {far : Bool} {nj : List Byte} (h : s.inFabric = false ∨ s.fab.master ≠ s.cell.node) :
    takeJ1 uid req strap kept rings far nj s = s := by
  refine if_pos ?_
  rcases h with h | h <;> simp [h]

/-- This device is cycle master, and the requester is not locked out. -/
structure Masters (s : State) (uid : Nat) : Prop where
  member : s.inFabric = true
  master : s.fab.master = s.cell.node
  clear : s.lockedOut uid = false

theorem not_other (hin : s.inFabric = true) (hmaster : s.fab.master = s.cell.node) : ¬ (!(s.inFabric && s.fab.master == s.cell.node)) = true := by
  simp [hin, hmaster]

theorem takeJ1_locked {req strap kept : Option Nat} {rings : Nat} {far : Bool} {nj : List Byte} (hin : s.inFabric = true)
    (hmaster : s.fab.master = s.cell.node) (hlocked : s.lockedOut uid = true) : takeJ1 uid req strap kept rings far nj s = sendJ4 uid 0 6 s :=
  (if_neg (not_other hin hmaster)).trans (if_pos hlocked)

theorem Masters.far {req strap kept : Option Nat} {rings : Nat} {nj : List Byte} (h : Masters s uid) :
    takeJ1 uid req strap kept rings true nj s = sendJ4 uid 0 5 s :=
  (if_neg (not_other h.member h.master)).trans ((if_neg (by rw [h.clear]; nofun)).trans (if_pos (by simp)))

/-- The state with another list of exchanges. -/
def State.serves (s : State) (l : List FabServe) : State := { s with fab := { s.fab with serving := l } }

theorem zero_bitAt (b : Nat) : bitAt 0 b = false := by rw [bitAt_eq, Nat.zero_testBit]

/-- The first requester in line is served at once. -/
theorem Masters.first {req strap kept : Option Nat} {nj : List Byte} (h : Masters s uid) (hroom : s.members.length < 256) (hidle : s.fab.serving = []) :
    takeJ1 uid req strap kept 0 false nj s = serveNext 1 (s.serves [{ uid := uid, req := req, strap := strap, kept := kept, nj := nj }]) := by
  have hfull : ¬ (decide (256 ≤ s.members.length) || false ||
      [0, 1].any (fun r => bitAt 0 r && s.myRings.contains r && decide (64 ≤ (s.ringMembers r).length))) = true := by
    simp [hroom, zero_bitAt]
  refine (if_neg (not_other h.member h.master)).trans ((if_neg (by rw [h.clear]; nofun)).trans ((if_neg hfull).trans ?_))
  rw [hidle]
  rfl

theorem serveNext_nil (n : Nat) (h : s.fab.serving = []) : serveNext n s = s := by
  cases n with
  | zero => rfl
  | succ n => rw [serveNext, h]

theorem assignNode_strap (uid : Nat) (req kept : Option Nat) (d : Nat) (s : State) :
    s.assignNode uid req (some d) kept = if s.holdsNode d then .inr 4 else .inl (d, 0) := rfl

/-- A requester whose strapped node ID is free gets J2 (R517). -/
theorem serveNext_served {x : FabServe} (hserving : s.fab.serving = [x]) (hnew : x.sent = false) (hstrap : x.strap = some d)
    (hfree : s.holdsNode d = false) : serveNext 1 s = (sendJ2 { x with node := d, src := 0 } s).2.serves [(sendJ2 { x with node := d, src := 0 } s).1] := by
  rw [serveNext, hserving]
  dsimp only
  rw [if_neg (by rw [hnew]; nofun), hstrap, assignNode_strap, if_neg (by rw [hfree]; nofun)]
  rfl

/-- One whose strapped node ID a member holds is refused (R517). -/
theorem serveNext_held {x : FabServe} (hserving : s.fab.serving = [x]) (hnew : x.sent = false) (hstrap : x.strap = some d)
    (hheld : s.holdsNode d = true) : serveNext 1 s = sendJ4 x.uid 0 4 (s.serves []) := by
  rw [serveNext, hserving]
  dsimp only
  rw [if_neg (by rw [hnew]; nofun), hstrap, assignNode_strap, if_pos hheld]
  rfl

/-- The MAC of J2 (R527). -/
def macOfJ2 (x : FabServe) (nm : List Byte) (s : State) : List Byte := hmac s.fabKey (macM x.uid x.node x.nj nm s.cell.epoch)

theorem sendJ2_eq (x : FabServe) (s : State) : sendJ2 x s =
    ({ x with nm := (nonce s).1, sent := true },
      sendJoin (nonce s).2.fab.mine 2 x.uid x.node 0 ((nonce s).1 ++ macOfJ2 x (nonce s).1 (nonce s).2) (nonce s).2) := rfl

/-- The exchange that J3 answers ends, and none waits behind it. -/
theorem endServe_last {x : FabServe} (h : s.fab.serving = [x]) : endServe s = s.serves [] := by
  have hdrop : endServe s = serveNext s.fab.serving.length (s.serves (s.fab.serving.drop 1)) := rfl
  rw [hdrop, h]
  exact serveNext_nil _ rfl

/-- A wrong MAC_J is counted and remembered for the lockout (R527). -/
def authFailed (uid : Nat) (s : State) : State :=
  { s with fab := { s.fab with
    authFail := wrap 32 (s.fab.authFail + 1), authFails := s.fab.authFails.filter (fun f => decide (s.gtc < f.2 + 70000000000)) ++ [(uid, s.gtc)] } }

/-- The MAC_J that an exchange awaits. -/
def macOfJ3 (x : FabServe) (s : State) : List Byte := hmac s.fabKey (macJ x.uid x.node x.nm x.nj s.cell.epoch)

theorem takeJ3_wrong {mac : List Byte} (hserving : s.fab.serving = [x]) (hsent : x.sent = true) (hmac : mac ≠ macOfJ3 x s) :
    takeJ3 x.uid mac s = endServe (sendJ4 x.uid x.node 2 (authFailed x.uid s)) := by
  have hours : ¬ (x.uid ≠ x.uid ∨ (!x.sent) = true) := by simp [hsent]
  rw [takeJ3, hserving]
  exact (if_neg hours).trans (if_pos hmac)

/-- The map's entry follows where the node ID was asked for or kept (R517). -/
def mapFollows (x : FabServe) (s : State) : State :=
  if 2 ≤ x.src then s.changeAll (s.cell.tick + 1) (.map (claimEntry x.uid x.node s.fab.map)) else s

theorem takeJ3_right (hserving : s.fab.serving = [x]) (hsent : x.sent = true) :
    takeJ3 x.uid (macOfJ3 x s) s = endServe (startBulk 0 x.node (Config.bulkLen 0) (mapFollows x (sendJ4 x.uid x.node 0 s))) := by
  have hours : ¬ (x.uid ≠ x.uid ∨ (!x.sent) = true) := by simp [hsent]
  rw [takeJ3, hserving]
  exact (if_neg hours).trans (if_neg (not_not.mpr rfl))

/-- What a state has of the exchange, apart from changes and records told. -/
theorem mapFollows_fab (x : FabServe) (s : State) : ∃ a b, (mapFollows x s).fab = { s.fab with changes := a, waiting := b } ∧ (mapFollows x s).out = s.out := by
  unfold mapFollows
  split <;> exact ⟨_, _, rfl, rfl⟩

/-! ### The joiner (R526, R527) -/

/-- The state with another record of the own join. -/
def State.withJoin (s : State) (j : FabJoin) : State := { s with fab := { s.fab with join := j } }

theorem takeJ2_other {nm mac : List Byte} {epoch : Nat} (h : uid ≠ s.cell.uid ∨ s.fab.join.stage ≠ 2) : takeJ2 uid node nm mac epoch s = s := if_pos h

/-- The MAC_M that the joiner awaits. -/
def State.macOfMaster (s : State) (node : Nat) (nm : List Byte) (epoch : Nat) : List Byte :=
  hmac s.fabKey (macM s.cell.uid node s.fab.join.nonce nm epoch)

theorem ours (h : s.fab.join.stage = 2) : ¬ (s.cell.uid ≠ s.cell.uid ∨ s.fab.join.stage ≠ 2) := by simp [h]

theorem takeJ2_right {nm : List Byte} {epoch : Nat} (h : s.fab.join.stage = 2) : takeJ2 s.cell.uid node nm (s.macOfMaster node nm epoch) epoch s =
    sendJoin s.fab.mine 3 s.cell.uid node 0 (hmac s.fabKey (macJ s.cell.uid node nm s.fab.join.nonce epoch))
      (s.withJoin { s.fab.join with stage := 3, node := node, since := s.gtc }) :=
  (if_neg (ours h)).trans (if_neg (not_not.mpr rfl))

/-- The count of failed authentications. -/
def macFailed (s : State) : State := { s with fab := { s.fab with authFail := wrap 32 (s.fab.authFail + 1) } }

theorem takeJ2_wrong {nm mac : List Byte} {epoch : Nat} (h : s.fab.join.stage = 2) (hmac : mac ≠ s.macOfMaster node nm epoch) :
    takeJ2 s.cell.uid node nm mac epoch s = joinRefused (macFailed s) :=
  (if_neg (ours h)).trans (if_pos hmac)

theorem failJoin_fab (d : Nat) (s : State) : ∃ m, (failJoin d s).fab = { s.fab with join := {}, mine := m } := ⟨_, rfl⟩

theorem failJoin_replies (d : Nat) {c : HostCmd} (hc : c ∈ s.host.cmds) (hcode : c.code = 0x0902) (hrun : c.stage = .running) :
    { c with stage := .replied, reply := { status := joinStatus d, detail := d } } ∈ (failJoin d s).host.cmds :=
  State.mem_completeCmd (s := { s with
    fab := { s.fab with join := {}, mine := if s.inFabric then s.fab.mine else 0 }
    cell := { s.cell with nodeValid := s.inFabric && s.cell.nodeValid } }) _ hc hcode hrun

/-- A refused authentication is repeated, and the third one ends the join. -/
theorem joinRefused_join (s : State) : (s.fab.join.fails < 2 → (joinRefused s).fab.join = { s.fab.join with stage := 2, fails := s.fab.join.fails + 1 }) ∧
    (2 ≤ s.fab.join.fails → (joinRefused s).fab.join = {}) ∧ (joinRefused s).fab.authFail = s.fab.authFail ∧ (joinRefused s).out = s.out := by
  unfold joinRefused
  dsimp only
  split
  next h => exact ⟨fun hlt => absurd h (by omega), fun _ => rfl, rfl, rfl⟩
  next h => exact ⟨fun _ => rfl, fun hle => absurd hle (by omega), rfl, rfl⟩

theorem takeJ4_other {r : Nat} (h : uid ≠ s.cell.uid ∨ (s.fab.join.stage ≠ 2 ∧ s.fab.join.stage ≠ 3 ∧ s.fab.join.stage ≠ 4)) : takeJ4 uid node r s = s := by
  refine if_pos ?_
  rcases h with h | ⟨h2, h3, h4⟩
  · exact .inl h
  · exact .inr (by simp [h2, h3, h4])

theorem inExchange (h : s.fab.join.stage = 2 ∨ s.fab.join.stage = 3 ∨ s.fab.join.stage = 4) :
    ¬ (s.cell.uid ≠ s.cell.uid ∨ (!([2, 3, 4].contains s.fab.join.stage)) = true) := by
  rcases h with h | h | h <;> simp [h]

theorem sendJ1_eq (s : State) : ∃ octs, sendJ1 s = sendJoin s.fab.mine 1 s.cell.uid 0 0 octs
    ((nonce s).2.withJoin { s.fab.join with stage := 2, nonce := (nonce s).1, since := s.gtc }) := ⟨_, rfl⟩

/-- A step goes out on one ring or on both. -/
theorem length_joinSteps {rings : Nat} (h : bitAt rings 0 = true) (step uid node result : Nat) (octs : List Byte) :
    (joinSteps rings step uid node result octs).length = if bitAt rings 1 = true then 2 else 1 := by
  rw [joinSteps, List.length_map, List.filter_cons, if_pos h, List.filter_cons]
  split <;> rfl

/-! ### The state taken over (R528) -/

/-- The members and zones that a joiner takes over; what else it knew of members is gone. -/
def takenOver (x : JoinXfer) (s : State) : State :=
  x.zones.foldl (fun s z => s.setZone z.1 z.2) (x.members.foldl (fun s m => knownMember m s) (s.members.foldl (fun s d => removeMember d s) s))

theorem takenOver_keeps (x : JoinXfer) (s : State) : Keeps 10485760 s (takenOver x s) :=
  Keeps.foldl (fun t _ => (State.setZone_keeps t _ _).mono rfl)
    (Keeps.foldl (fun t m => (knownMember_keeps m t).mono rfl) (Keeps.foldl (fun t d => (removeMember_keeps d t).mono rfl) (.refl _ s)))

/-- The transferred state as it stands before this device enrols. -/
structure Transferred (x : JoinXfer) (s u : State) : Prop where
  cell : u.cell = { s.cell with epoch := x.epoch }
  host : u.host = s.host
  claims : u.claim.claims = x.claims
  map : u.fab.map = x.map
  sched : u.fab.sched = x.sched
  master : u.fab.master = x.master
  join : u.fab.join = {}

theorem takeJoin_eq (x : JoinXfer) (h : s.fab.join.stage = 4) :
    ∃ u, Transferred x s u ∧ takeJoin x s = (announce (standDown (enrolSelf s.fab.join.node 3 u))).endJoin {} := by
  have hcell : (takenOver x s).cell = s.cell := takenOver_keeps x s .cell rfl
  have hhost : (takenOver x s).host = s.host := takenOver_keeps x s .host rfl
  refine ⟨_, ?_, if_neg (not_not.mpr h)⟩
  exact ⟨congrArg (fun c => { c with epoch := x.epoch }) hcell, hhost, rfl, rfl, rfl, rfl, rfl⟩

/-- This device under its node ID. -/
def enrolled (node : Nat) (s : State) : State :=
  ({ s with cell := { s.cell with node := node, nodeValid := true } } : State).updFabNode node
    (fun x => { x with member := true, uid := s.cell.uid, rings := s.fab.mine, lastCycle := s.cell.tick + 1 })

/-- The state with another count of joins. -/
def State.withJoins (s : State) (n : Nat) : State := { s with fab := { s.fab with joins := n } }

theorem enrolSelf_eq (node role : Nat) (s : State) :
    enrolSelf node role s = keepFabric (keepMap ((takeRole role (enrolled node s)).withJoins (wrap 32 (s.fab.joins + 1)))) := rfl

theorem enrolSelf_kept (node role : Nat) (s : State) : Keeps 549755813952 ((takeRole role (enrolled node s)).withJoins (wrap 32 (s.fab.joins + 1)))
    (enrolSelf node role s) := by
  rw [enrolSelf_eq]
  exact (keepMap_keeps _).trans (keepFabric_keeps _)

theorem enrolSelf_cell (node role : Nat) (s : State) : (enrolSelf node role s).cell = { s.cell with node := node, nodeValid := true, role := role } :=
  Eq.trans (enrolSelf_kept node role s .cell rfl) (takeRole_cell role (enrolled node s))

theorem enrolSelf_fab (node role : Nat) (s : State) : ∃ l n, (enrolSelf node role s).fab = { s.fab with nodes := l, joins := n } ∧
    (Table.get ({} : FabMember) l node).member = true := by
  have hkept : (enrolSelf node role s).fab = ((takeRole role (enrolled node s)).withJoins (wrap 32 (s.fab.joins + 1))).fab :=
    enrolSelf_kept node role s .fab rfl
  have hself : ((enrolled node s).fabNode node).member = true := by
    rw [enrolled, State.updFabNode_eq, State.fabNode_setFabNode]
  have hnode : ((enrolled node s).updFabNode node (fun m => { m with role := role })).fabNode node =
      { (enrolled node s).fabNode node with role := role } := State.fabNode_setFabNode _ _ _
  refine ⟨((enrolled node s).updFabNode node (fun m => { m with role := role })).fab.nodes, wrap 32 (s.fab.joins + 1), ?_, ?_⟩
  · rw [hkept, State.withJoins, takeRole_fab]
    rfl
  · exact (congrArg FabMember.member hnode).trans hself

/-- Standing down keeps of the cell what identifies the member, and every command of the host. -/
theorem standDown_cell (s : State) : ∃ st m n, (standDown s).cell = { s.cell with state := st, armRun := m, axisRun := n } := by
  obtain ⟨u, hu, e⟩ := standDown_eq s
  obtain ⟨m, n, hcell⟩ := u.outOfPartial_cell
  rw [hu .cell rfl] at hcell
  rcases e with e | e
  · exact ⟨_, m, n, by rw [e, hcell]⟩
  · exact ⟨3, m, n, by rw [e, State.enterCell_cell, hcell]⟩

theorem standDown_cmds (s : State) : (standDown s).host.cmds = s.host.cmds := by
  obtain ⟨u, hu, e⟩ := standDown_eq s
  have hhost : u.host = s.host := hu .host rfl
  have hout : u.outOfPartial.host = u.host := by
    unfold State.outOfPartial
    split <;> rfl
  rcases e with e | e
  · rw [e, hout, hhost]
  · rw [e, State.enterCell, State.event_cmds, ← hhost, ← hout]

theorem announce_fab (s : State) : ∃ l, (announce s).fab = { s.fab with waiting := l } := by
  unfold announce
  split <;> exact ⟨_, rfl⟩

/-- A transfer taken: a member in role LISTEN under its node ID, with the state of the fabric. -/
theorem takeJoin_spec (x : JoinXfer) (h : s.fab.join.stage = 4) :
    (∃ st m n, (takeJoin x s).cell =
      { s.cell with epoch := x.epoch, node := s.fab.join.node, nodeValid := true, role := 3, state := st, armRun := m, axisRun := n }) ∧
    (∃ (f : FabricState) (l : Table FabMember) (n : Nat) (w : List (Option Nat × FabRec)), (takeJoin x s).fab =
      { f with nodes := l, joins := n, waiting := w } ∧ f.map = x.map ∧ f.sched = x.sched ∧ f.master = x.master ∧
      f.join = {} ∧ (Table.get ({} : FabMember) l s.fab.join.node).member = true) ∧
    (takeJoin x s).claim.claims = x.claims ∧
    ∃ u : State, u.host.cmds = s.host.cmds ∧ (takeJoin x s).host = (u.endJoin {}).host := by
  obtain ⟨u, htaken, hjoin⟩ := takeJoin_eq x h
  obtain ⟨hcell, hhost, hclaims, hmap, hsched, hmaster, hnone⟩ := htaken
  rw [hjoin]
  have hcellV := enrolSelf_cell s.fab.join.node 3 u
  obtain ⟨l, n, hfabV, hmember⟩ := enrolSelf_fab s.fab.join.node 3 u
  have hkeepV := enrolSelf_keeps s.fab.join.node 3 u
  generalize enrolSelf s.fab.join.node 3 u = v at hcellV hfabV hkeepV ⊢
  obtain ⟨st, a, b, hcellW⟩ := standDown_cell v
  have hcmdsW := standDown_cmds v
  have hfabW : (standDown v).fab = v.fab := standDown_keeps v .fab rfl
  have hclaimW : (standDown v).claim = v.claim := standDown_keeps v .claim rfl
  generalize standDown v = w at hcellW hcmdsW hfabW hclaimW ⊢
  obtain ⟨wait, hfabA⟩ := announce_fab w
  have hkeepA := announce_keeps w
  generalize announce w = y at hfabA hkeepA ⊢
  have hend := State.endJoin_keeps y {}
  have hcellA : (y.endJoin {}).cell = w.cell := Eq.trans (hend .cell rfl) (hkeepA .cell rfl)
  have hclaimA : (y.endJoin {}).claim = w.claim := Eq.trans (hend .claim rfl) (hkeepA .claim rfl)
  have hfabE : (y.endJoin {}).fab = y.fab := hend .fab rfl
  have hclaimV : v.claim = u.claim := hkeepV .claim rfl
  have hhostV : v.host = u.host := hkeepV .host rfl
  have hhostA : y.host = w.host := hkeepA .host rfl
  refine ⟨⟨st, a, b, ?_⟩, ⟨u.fab, l, n, wait, ?_, hmap, hsched, hmaster, hnone, hmember⟩, ?_, y, ?_, rfl⟩
  · rw [hcellA, hcellW, hcellV, hcell]
  · rw [hfabE, hfabA, hfabW, hfabV]
  · rw [hclaimA, hclaimW, hclaimV, hclaims]
  · rw [hhostA, hcmdsW, hhostV, hhost]

/-- Settles O38: each step of the exchange by its branch; what goes out is one list of frames, and the transfer enrols this device. -/
theorem joinExchangeAuthenticatesBothSides : Obligations.JoinExchangeAuthenticatesBothSides := by
  unfold Obligations.JoinExchangeAuthenticatesBothSides
  refine ⟨?other, ?locked, ?far, ?served, ?held, ?noServe, ?wrongJ3, ?rightJ3, ?otherJ2, ?rightJ2, ?wrongJ2, ?otherJ4, ?accepted, ?refused, ?noRepeat,
    ?repeated, ?noTransfer, ?transfer⟩
  case other => exact fun port uid req strap kept rings far nj s hp h => does_of_onUnit rfl hp (takeJ1_other h)
  case locked => exact fun port uid req strap kept rings far nj s hp hin hmaster h => does_of_onUnit rfl hp (takeJ1_locked hin hmaster h)
  case far => exact fun port uid req strap kept rings nj s hp hin hmaster h => does_of_onUnit rfl hp (Masters.far ⟨hin, hmaster, h⟩)
  case served =>
    intro port uid req kept nj d s hp hin hmaster hclear hroom hidle hfree
    refine does_of_onUnit rfl hp ?_
    have hkeeps := (takeJ1_keeps uid req (some d) kept 0 false nj s).touches [.fab, .out, .freeCount] (by decide)
    have hserved := serveNext_served (s := s.serves [{ uid := uid, req := req, strap := some d, kept := kept, nj := nj }]) rfl rfl rfl hfree
    rw [Masters.first ⟨hin, hmaster, hclear⟩ hroom hidle, hserved, sendJ2_eq] at hkeeps ⊢
    refine ⟨_, length_nonce _, rfl, ?_, hkeeps⟩
    rw [sendJoin_eq, sendJoin_eq]
    rfl
  case held =>
    intro port uid req kept nj d s hp hin hmaster hclear hroom hidle hheld
    refine does_of_onUnit rfl hp ?_
    have hrefused := serveNext_held (s := s.serves [{ uid := uid, req := req, strap := some d, kept := kept, nj := nj }]) rfl rfl rfl hheld
    rw [Masters.first ⟨hin, hmaster, hclear⟩ hroom hidle, hrefused, sendJ4, sendJ4, sendJoin_eq, sendJoin_eq]
    exact ⟨rfl, rfl⟩
  case noServe =>
    intro uid mac s h
    refine ⟨takeJ3 uid mac s, rfl, ?_⟩
    rw [takeJ3, h]
  case wrongJ3 =>
    intro x mac s hserving hsent hmac
    have hfab : (sendJ4 x.uid x.node 2 (authFailed x.uid s)).fab = (authFailed x.uid s).fab := sendJ4_keeps _ _ _ _ .fab rfl
    have hlast := endServe_last (s := sendJ4 x.uid x.node 2 (authFailed x.uid s)) (x := x) (by rw [hfab]; exact hserving)
    refine ⟨_, congrArg Host.Outcome.next ((takeJ3_wrong hserving hsent hmac).trans hlast), ?_⟩
    rw [sendJ4, sendJ4, sendJoin_eq, sendJoin_eq]
    exact ⟨rfl, List.mem_append_right _ List.mem_cons_self, rfl, rfl, rfl⟩
  case rightJ3 =>
    intro x s hserving hsent
    obtain ⟨a, b, hfab, hout⟩ := mapFollows_fab x (sendJ4 x.uid x.node 0 s)
    have hfabJ4 : (sendJ4 x.uid x.node 0 s).fab = s.fab := sendJ4_keeps _ _ _ s .fab rfl
    rw [hfabJ4] at hfab
    refine ⟨_, congrArg Host.Outcome.next (takeJ3_right hserving hsent), ?_⟩
    generalize mapFollows x (sendJ4 x.uid x.node 0 s) = u at hfab hout ⊢
    have hlast : endServe (startBulk 0 x.node (Config.bulkLen 0) u) = _ := endServe_last (x := x) (by rw [startBulk, hfab]; exact hserving)
    rw [hlast]
    refine ⟨rfl, ?_, hout, _, List.mem_append_right _ List.mem_cons_self, rfl, rfl, ?_, rfl⟩
    · show u.fab.authFail = _
      rw [hfab]
    · show u.fab.nextXfer = _
      rw [hfab]
  case otherJ2 => exact fun uid node nm mac epoch s h => ⟨_, rfl, takeJ2_other h⟩
  case rightJ2 =>
    intro node nm epoch s h
    have hkeeps : Touches [.fab, .out] s (sendJoin s.fab.mine 3 s.cell.uid node 0 (hmac s.fabKey (macJ s.cell.uid node nm s.fab.join.nonce epoch))
        (s.withJoin { s.fab.join with stage := 3, node := node, since := s.gtc })) :=
      Keeps.touches (m := 142606336) ((Keeps.fab_ (.refl _ s) rfl).trans ((sendJoin_keeps _ _ _ _ _ _ _).mono rfl)) _ (by decide)
    refine ⟨_, congrArg Host.Outcome.next (takeJ2_right h), ?_, ?_, hkeeps⟩
    · rw [sendJoin_eq]
      rfl
    · rw [sendJoin_eq, sendJoin_eq]
      rfl
  case wrongJ2 =>
    intro node nm mac epoch s h hmac
    refine ⟨_, congrArg Host.Outcome.next (takeJ2_wrong h hmac), ?_⟩
    obtain ⟨hagain, hlast, hfail, hout⟩ := joinRefused_join (macFailed s)
    refine ⟨hfail, hout, fun hlt => ?_, fun hle => ?_⟩
    · rw [hagain hlt]
      exact ⟨rfl, rfl⟩
    · rw [hlast hle]
  case otherJ4 => exact fun uid node r s h => ⟨_, rfl, takeJ4_other h⟩
  case accepted =>
    exact fun node s h => ⟨_, congrArg Host.Outcome.next ((if_neg (inExchange (.inr (.inl h)))).trans ((if_pos rfl).trans (if_pos h))), rfl⟩
  case refused =>
    intro node r s h h0 h2
    refine ⟨failJoin r s, congrArg Host.Outcome.next ((if_neg (inExchange h)).trans ((if_neg h0).trans (if_neg h2))), rfl, fun c hc hcode hrun => ?_⟩
    exact failJoin_replies r hc hcode hrun
  case noRepeat => exact fun s h2 h3 => ⟨s, congrArg Host.Outcome.next (if_neg (not_or.mpr ⟨h2, h3⟩)), rfl⟩
  case repeated =>
    intro s h
    obtain ⟨octs, hsend⟩ := sendJ1_eq s
    refine ⟨sendJ1 s, congrArg Host.Outcome.next (if_pos h), ?_⟩
    have hkeeps := (sendJ1_keeps s).touches [.fab, .out, .freeCount] (by decide)
    rw [hsend, sendJoin_eq] at hkeeps ⊢
    refine ⟨rfl, length_nonce s, rfl, fun hring => ?_, hkeeps⟩
    rw [← length_joinSteps hring 1 s.cell.uid 0 0 octs]
    exact List.length_append
  case noTransfer => exact fun x s h => ⟨_, rfl, if_pos h⟩
  case transfer =>
    intro x s h
    refine ⟨takeJoin x s, rfl, ?_⟩
    obtain ⟨⟨st, m, n, hcell⟩, ⟨f, l, k, w, hfab, hmap, hsched, hmaster, hjoin, hmember⟩, hclaims, u, hcmds, hhost⟩ := takeJoin_spec x h
    rw [hcell, State.fabNode, hfab, hclaims, hhost]
    refine ⟨rfl, rfl, rfl, rfl, hmap, hsched, hmaster, hjoin, hmember, rfl, fun c hc hcode hrun => ?_⟩
    exact State.mem_completeCmd {} (hcmds ▸ hc) hcode hrun

end Sys2Proof.Machine
end
